-- ==== Sys2Proof/Word.lean ====
section
/-! DEFINITION. The word and byte types of the block. -/

namespace Sys2Proof

/-- A BAR0 register's contents: one DWORD (R50). -/
abbrev Word := BitVec 32

/-- One byte of a descriptor, buffer, frame or record. -/
abbrev Byte := BitVec 8

end Sys2Proof
end

