-- ==== Sys2Proof/Machine/Bits.lean ====
section
/-! DEFINITION. Bit fields, little-endian byte order (R7), signed values and the check codes the spec gives exactly:
CRC-32C (R71), the Hamming (13,8) code (R472). -/

namespace Sys2Proof.Machine

/-- Bits [lo + width − 1 : lo] of a word, as a number. -/
def bitsOf (w : Word) (lo width : Nat) : Nat := (w.toNat >>> lo) % 2 ^ width

/-- The word with bits [lo + width − 1 : lo] replaced by `v` (taken modulo the width). -/
def withBits (w : Word) (lo width v : Nat) : Word :=
  let old := bitsOf w lo width
  BitVec.ofNat 32 (w.toNat - old * 2 ^ lo + (v % 2 ^ width) * 2 ^ lo)

/-- Bit `i` of a number. -/
def bit (n i : Nat) : Bool := n / 2 ^ i % 2 == 1

/-- A number with bit `i` set. -/
def setBit (n i : Nat) : Nat := if bit n i then n else n + 2 ^ i

/-- A number with bit `i` clear. -/
def clearBit (n i : Nat) : Nat := if bit n i then n - 2 ^ i else n

/-- 1 or 0 as the register bit of a condition. -/
def b2n (b : Bool) : Nat := if b then 1 else 0

/-- Integer square root by its bits: the largest number not below `r` that differs from it in the low bits counted, its square at
most `v`. -/
def isqrtFrom : Nat → Nat → Nat → Nat
  | 0, r, _ => r
  | b + 1, r, v => if (r + 2 ^ b) * (r + 2 ^ b) ≤ v then isqrtFrom b (r + 2 ^ b) v else isqrtFrom b r v

/-- The value held to [lo, hi]: the nearer end for a value outside. -/
def clampN (lo hi v : Nat) : Nat := if v < lo then lo else if hi < v then hi else v

/-- The integer held to [lo, hi]. -/
def clampI (lo hi v : Int) : Int := if v < lo then lo else if hi < v then hi else v

/-- The low `n` bits of a number read as two's complement. -/
def signed (n v : Nat) : Int :=
  let m := v % 2 ^ n
  if m < 2 ^ (n - 1) then (m : Int) else (m : Int) - (2 ^ n : Nat)

/-- The `n`-bit two's complement pattern of an integer. -/
def unsigned (n : Nat) (v : Int) : Nat := (v % ((2 ^ n : Nat) : Int)).toNat

/-- A 32-bit pattern of an integer, saturated to the signed range ("signed, saturated"). -/
def sat32 (v : Int) : Nat := unsigned 32 (clampI (-2147483648) 2147483647 v)

/-- Distance of two integers. -/
def absI (v : Int) : Nat := v.natAbs

/-- The low 32 bits and the high 32 bits of a number. -/
def lo32 (v : Nat) : Nat := v % 2 ^ 32
def hi32 (v : Nat) : Nat := v / 2 ^ 32 % 2 ^ 32

/-- `k` bytes of a number, least significant first (R7). -/
def leBytes : Nat → Nat → List Byte
  | 0, _ => []
  | k + 1, v => BitVec.ofNat 8 v :: leBytes k (v / 256)

/-- The number that bytes spell, least significant first (R7). -/
def leNat : List Byte → Nat
  | [] => 0
  | b :: r => b.toNat + 256 * leNat r

/-- `n` bytes from offset `o`, zero past the end. -/
def slice (bs : List Byte) (o n : Nat) : List Byte :=
  (List.range n).map fun i => bs.getD (o + i) 0

/-- Little-endian number of `n` bytes at offset `o`. -/
def leAt (bs : List Byte) (o n : Nat) : Nat := leNat (slice bs o n)

/-- `n` bytes of a number, most significant first; the number that bytes spell so; the one in `n` bytes at offset `o`. -/
def beBytes (n v : Nat) : List Byte := (leBytes n v).reverse
def beNat (b : List Byte) : Nat := leNat b.reverse
def beAt (bs : List Byte) (o n : Nat) : Nat := beNat (slice bs o n)

/-- Bytes with others put over them from offset `o`. -/
def patch (bs : List Byte) (o : Nat) (new : List Byte) : List Byte := bs.take o ++ new ++ bs.drop (o + new.length)

/-- One bit step of the reflected CRC-32C register (polynomial 0x1EDC6F41, reflected 0x82F63B78). -/
def crc32cBit (c : Nat) : Nat :=
  if c % 2 = 1 then Nat.xor (c / 2) 0x82F63B78 else c / 2

/-- `n` bit steps. -/
def crc32cBits : Nat → Nat → Nat
  | 0, c => c
  | n + 1, c => crc32cBits n (crc32cBit c)

/-- CRC-32C of a byte string (initial value and final inversion all ones). -/
def crc32c (bs : List Byte) : Nat :=
  Nat.xor (bs.foldl (fun c b => crc32cBits 8 (Nat.xor c b.toNat)) 0xFFFFFFFF) 0xFFFFFFFF

/-- Parity of the listed bits of a number. -/
def parityOf (n : Nat) (is : List Nat) : Bool := is.foldl (fun p i => xor p (bit n i)) false

/-- R472: the five check bits of a byte, c1 (bit 0), c2, c4, c8 and the overall parity p (bit 4). -/
def hammingCheck (d : Nat) : Nat :=
  let c1 := parityOf d [0, 1, 3, 4, 6]
  let c2 := parityOf d [0, 2, 3, 5, 6]
  let c4 := parityOf d [1, 2, 3, 7]
  let c8 := parityOf d [4, 5, 6, 7]
  let p := xor (xor (xor c1 c2) (xor c4 c8)) (parityOf d [0, 1, 2, 3, 4, 5, 6, 7])
  b2n c1 + 2 * b2n c2 + 4 * b2n c4 + 8 * b2n c8 + 16 * b2n p

/-- What the decoder of R472 finds. -/
inductive HammingResult where
  | clean
  | corrected (data position : Nat)
  | uncorrectable
  deriving DecidableEq, Repr

/-- The data bit that stands at a position 1 to 12 of R472, if any. -/
def hammingDataBit : Nat → Option Nat
  | 3 => some 0 | 5 => some 1 | 6 => some 2 | 7 => some 3
  | 9 => some 4 | 10 => some 5 | 11 => some 6 | 12 => some 7
  | _ => none

/-- R472: decode of a stored data byte and its five stored check bits. -/
def hammingDecode (d chk : Nat) : HammingResult :=
  let want := hammingCheck d
  let s := (Nat.xor want chk) % 16
  let q := xor (parityOf d [0, 1, 2, 3, 4, 5, 6, 7]) (parityOf chk [0, 1, 2, 3, 4])
  if s = 0 && !q then .clean
  else if q && s ≤ 12 then
    .corrected (match hammingDataBit s with
      | some i => if bit d i then clearBit d i else setBit d i
      | none => d) s
  else .uncorrectable

end Sys2Proof.Machine
end

