-- ==== Sys2Proof/Machine/Float.lean ====
section
/-! DEFINITION. IEEE 754 arithmetic, round to nearest, ties to even, as R411 (binary64 intermediate values) and R457 (binary32)
ask for it: exact dyadic values, rounded to a precision after each operation. -/

namespace Sys2Proof.Machine

/-- Number of bits of a magnitude; 0 for 0. -/
def bitLen (n : Nat) : Nat := if n = 0 then 0 else Nat.log2 n + 1

/-- m / 2^k rounded to nearest, ties to even. -/
def rneShift (m k : Nat) : Nat :=
  let q := m / 2 ^ k
  let r := m % 2 ^ k
  if 2 * r < 2 ^ k then q else if 2 * r = 2 ^ k then q + q % 2 else q + 1

/-- m × 2^e rounded to `p` significant bits, with exponents not below `emin`. -/
def roundMag (p : Nat) (emin : Int) (m : Nat) (e : Int) : Nat × Int :=
  let t := max (e + bitLen m - p) emin
  if t ≤ e then (m, e) else (rneShift m (t - e).toNat, t)

/-! ### Exact values with binary64 rounding -/

/-- A finite value m × 2^e. -/
structure Dy where
  m : Int
  e : Int
  deriving DecidableEq, Repr

/-- The value rounded to binary64. -/
def Dy.r64 (d : Dy) : Dy :=
  let (m, e) := roundMag 53 (-1074) d.m.natAbs d.e
  ⟨if d.m < 0 then -(m : Int) else m, e⟩

def Dy.ofInt (i : Int) : Dy := ⟨i, 0⟩

/-- Sum and product in binary64. -/
def Dy.add (a b : Dy) : Dy :=
  (if a.e ≤ b.e then (⟨a.m + b.m * 2 ^ (b.e - a.e).toNat, a.e⟩ : Dy) else ⟨a.m * 2 ^ (a.e - b.e).toNat + b.m, b.e⟩).r64
def Dy.mul (a b : Dy) : Dy := (⟨a.m * b.m, a.e + b.e⟩ : Dy).r64

def Dy.neg (a : Dy) : Dy := ⟨-a.m, a.e⟩
def Dy.sub (a b : Dy) : Dy := a.add b.neg

/-- Quotient in binary64; 0 for a divisor of 0. -/
def Dy.div (a b : Dy) : Dy :=
  if b.m = 0 then ⟨0, 0⟩
  else
    let k := 56 + bitLen b.m.natAbs
    let q := a.m.natAbs * 2 ^ k / b.m.natAbs
    let q := 2 * q + (if a.m.natAbs * 2 ^ k % b.m.natAbs = 0 then 0 else 1)
    (⟨if (a.m < 0) = (b.m < 0) then (q : Int) else -q, a.e - b.e - k - 1⟩ : Dy).r64

/-- Square root in binary64; 0 for a value below 0. -/
def Dy.sqrt (a : Dy) : Dy :=
  if a.m ≤ 0 then ⟨0, 0⟩
  else
    let k : Nat := 112 + (if a.e % 2 = 0 then 0 else 1)
    let n := a.m.natAbs * 2 ^ k
    let q := isqrtFrom (bitLen n / 2 + 1) 0 n
    (⟨2 * q + (if q * q = n then 0 else 1), (a.e - k) / 2 - 1⟩ : Dy).r64

/-- Exact comparison. -/
def Dy.lt (a b : Dy) : Bool :=
  let lo := min a.e b.e
  decide (a.m * 2 ^ (a.e - lo).toNat < b.m * 2 ^ (b.e - lo).toNat)

def Dy.max (a b : Dy) : Dy := if a.lt b then b else a

/-- Least integer not below the value. -/
def Dy.ceil (d : Dy) : Int := if 0 ≤ d.e then d.m * 2 ^ d.e.toNat else -(-d.m / 2 ^ (-d.e).toNat)

/-- Nearest integer, ties to even. -/
def Dy.toInt (d : Dy) : Int :=
  if 0 ≤ d.e then d.m * 2 ^ d.e.toNat
  else
    let n : Int := ((rneShift d.m.natAbs (-d.e).toNat : Nat) : Int)
    if d.m < 0 then -n else n

/-! ### binary32 -/

/-- A binary32 value: not a number, an infinity, or (−1)^neg × m × 2^e. -/
inductive Fl where
  | nan
  | inf (neg : Bool)
  | fin (neg : Bool) (m : Nat) (e : Int)
  deriving DecidableEq, Repr

/-- The value of 32 bits. -/
def Fl.ofBits (w : Nat) : Fl :=
  let neg := bit w 31
  let x : Nat := w / 2 ^ 23 % 256
  let f : Nat := w % 2 ^ 23
  if x = 255 then (if f = 0 then .inf neg else .nan)
  else if x = 0 then .fin neg f (-149)
  else .fin neg (2 ^ 23 + f) ((x : Int) - 150)

/-- The value rounded to binary32. -/
def Fl.round : Fl → Fl
  | .fin neg m e =>
    let (m, e) := roundMag 24 (-149) m e
    if 128 < e + bitLen m then .inf neg else .fin neg m e
  | x => x

/-- The 32 bits of a binary32 value. -/
def Fl.toBits : Fl → Nat
  | .nan => 0x7FC00000
  | .inf neg => b2n neg * 2 ^ 31 + 0x7F800000
  | .fin neg m e =>
    -- bring the value to a significand of 24 bits or to the least exponent
    let n := bitLen m
    let t := max (e + n - 24) (-149)
    let m := if t ≤ e then m * 2 ^ (e - t).toNat else m / 2 ^ (t - e).toNat
    b2n neg * 2 ^ 31 + (if m < 2 ^ 23 then m else (t + 149).toNat * 2 ^ 23 + m)

def Fl.isFinite : Fl → Bool
  | .fin _ _ _ => true
  | _ => false

def Fl.zero : Fl := .fin false 0 (-149)

/-- A signed integer, rounded to binary32. -/
def Fl.ofInt (i : Int) : Fl := (Fl.fin (decide (i < 0)) i.natAbs 0).round

def Fl.neg : Fl → Fl
  | .nan => .nan
  | .inf s => .inf (!s)
  | .fin s m e => .fin (!s) m e

def Fl.add : Fl → Fl → Fl
  | .nan, _ => .nan
  | _, .nan => .nan
  | .inf a, .inf b => if a = b then .inf a else .nan
  | .inf a, _ => .inf a
  | _, .inf b => .inf b
  | .fin s m e, .fin t n f =>
    let lo := min e f
    let a : Int := m * 2 ^ (e - lo).toNat
    let b : Int := n * 2 ^ (f - lo).toNat
    let v := (if s then -a else a) + (if t then -b else b)
    if v = 0 then .fin (s && t) 0 (-149) else (Fl.fin (decide (v < 0)) v.natAbs lo).round

def Fl.sub (x y : Fl) : Fl := x.add y.neg

def Fl.mul : Fl → Fl → Fl
  | .nan, _ => .nan
  | _, .nan => .nan
  | .inf a, .inf b => .inf (xor a b)
  | .inf a, .fin b m _ => if m = 0 then .nan else .inf (xor a b)
  | .fin a m _, .inf b => if m = 0 then .nan else .inf (xor a b)
  | .fin s m e, .fin t n f => (Fl.fin (xor s t) (m * n) (if m * n = 0 then -149 else e + f)).round

def Fl.div : Fl → Fl → Fl
  | .nan, _ => .nan
  | _, .nan => .nan
  | .inf _, .inf _ => .nan
  | .inf a, .fin b _ _ => .inf (xor a b)
  | .fin a _ _, .inf b => .fin (xor a b) 0 (-149)
  | .fin s m e, .fin t n f =>
    if n = 0 then (if m = 0 then .nan else .inf (xor s t))
    else if m = 0 then .fin (xor s t) 0 (-149)
    else
      let k := 27 + bitLen n
      let q := m * 2 ^ k / n
      let q := 2 * q + (if m * 2 ^ k % n = 0 then 0 else 1)
      (Fl.fin (xor s t) q (e - f - k - 1)).round

/-- Exact comparison of finite values; false with a value that is not finite. -/
def Fl.lt : Fl → Fl → Bool
  | .fin s m e, .fin t n f =>
    let lo := min e f
    let a : Int := m * 2 ^ (e - lo).toNat
    let b : Int := n * 2 ^ (f - lo).toNat
    decide ((if s then -a else a) < (if t then -b else b))
  | _, _ => false

def Fl.le (x y : Fl) : Bool := x.isFinite && y.isFinite && !y.lt x
def Fl.min (x y : Fl) : Fl := if y.lt x then y else x
def Fl.max (x y : Fl) : Fl := if x.lt y then y else x

/-- The finite value as an exact dyadic; 0 otherwise. -/
def Fl.toDy : Fl → Dy
  | .fin s m e => ⟨if s then -(m : Int) else m, e⟩
  | _ => ⟨0, 0⟩

end Sys2Proof.Machine
end

