-- ==== Sys2Proof/Machine/Table.lean ====
section
/-! DEFINITION. Sparse tables as plain data: lists of (key, value) with strictly rising keys, and cell lists over a default
value, in which no entry equals the default. -/

namespace Sys2Proof.Machine

/-- A sparse table: keys strictly rising (`tabOk`). -/
abbrev Tab (V : Type) := List (Nat × V)

/-- The entry of key `k`. -/
def tget {V : Type} : Tab V → Nat → Option V
  | [], _ => none
  | (k', v) :: r, k => if k' = k then some v else tget r k

/-- The table with key `k` set to `v`, in key order. -/
def tput {V : Type} : Tab V → Nat → V → Tab V
  | [], k, v => [(k, v)]
  | (k', v') :: r, k, v =>
    if k < k' then (k, v) :: (k', v') :: r
    else if k = k' then (k, v) :: r
    else (k', v') :: tput r k v

/-- The table without key `k`. -/
def tdel {V : Type} : Tab V → Nat → Tab V
  | [], _ => []
  | (k', v') :: r, k => if k' = k then tdel r k else (k', v') :: tdel r k

/-- The entry of key `k`, or a default. -/
def tgetD {V : Type} (t : Tab V) (k : Nat) (d : V) : V := (tget t k).getD d

/-- The table with an existing entry replaced by `f` of it; unchanged when the key is absent. -/
def tmod {V : Type} (t : Tab V) (k : Nat) (f : V → V) : Tab V :=
  match tget t k with
  | some v => tput t k (f v)
  | none => t

/-- Keys strictly rising and all above `lo` (when given). -/
def tabOkFrom {V : Type} : Option Nat → Tab V → Bool
  | _, [] => true
  | none, (k, _) :: r => tabOkFrom (some k) r
  | some lo, (k, _) :: r => decide (lo < k) && tabOkFrom (some k) r

/-- Keys strictly rising. -/
def tabOk {V : Type} (t : Tab V) : Bool := tabOkFrom none t

/-- Value of cell `k` over a default. -/
def cget {V : Type} (d : Nat → V) (t : Tab V) (k : Nat) : V := (tget t k).getD (d k)

/-- The cells with cell `k` set to `v`; an entry equal to the default is not listed. -/
def cput {V : Type} [DecidableEq V] (d : Nat → V) (t : Tab V) (k : Nat) (v : V) : Tab V :=
  if v = d k then tdel t k else tput t k v

/-- Canonical form: keys strictly rising, no entry equal to the default. -/
def cellsOk {V : Type} [DecidableEq V] (d : Nat → V) (t : Tab V) : Bool :=
  tabOk t && t.all fun kv => decide (kv.2 ≠ d kv.1)

/-- The list with element `i` replaced; unchanged when `i` is past its end. -/
def lput {V : Type} (l : List V) (i : Nat) (v : V) : List V := l.set i v

/-- The list with element `i` replaced by `f` of it. -/
def lmod {V : Type} (l : List V) (i : Nat) (f : V → V) : List V :=
  match l[i]? with
  | some v => l.set i (f v)
  | none => l

end Sys2Proof.Machine
end

