-- ==== Sys2Proof/Types/Core.lean ====
section
/-! DEFINITION. Plain data shared by every block: descriptors and completions (R61), event records (R465), jobs (R33–R44),
rings (R57–R72), the device's states (R6) and its fuses, straps and pins. -/

namespace Sys2Proof.Machine

/-- The two parts of R1. -/
inductive Part where
  | cx7740 | cx7720
  deriving DecidableEq, Repr

/-- The device states of R6, in the order of their codes in the health word (R60). -/
inductive DevState where
  | reset | boot | setup | anchoring | priming | operate | quiet | dormant | halt
  deriving DecidableEq, Repr

/-- The pair roles of R60: 0 unpaired, 1 PRIMARY, 2 STANDBY, 3 paired but not yet standing by. -/
inductive Role where
  | unpaired | primary | standby | notStanding
  deriving DecidableEq, Repr

/-- A submission descriptor as the device reads it (R61), with the bytes it reads at BUF_ADDR. -/
structure Desc where
  /-- submission ring number, class × 4 + index -/
  ring : Nat
  /-- free-running ring index of the descriptor -/
  index : Nat
  opcode : Nat
  flags : Nat
  tag : Nat
  notBefore : Nat
  bufAddr : Nat
  bufLen : Nat
  /-- bytes 28–29: [11:0] ORDER_DOMAIN, [15:12] reserved -/
  od : Nat
  /-- bytes 30–31, reserved -/
  rsv : Nat
  /-- bytes 32–63 -/
  ops : List Byte
  /-- the bytes at BUF_ADDR that the command reads -/
  buf : List Byte
  deriving DecidableEq, Repr

/-- An event record (R465). -/
structure Rec where
  code : Nat
  source : Nat
  flags : Nat
  seq : Nat
  sn : Nat
  ns : Nat
  p0 : Nat
  p1 : Nat
  p2 : Nat
  deriving DecidableEq, Repr

/-- The event recorder (R467–R470): a queue of records, oldest first. -/
structure Recorder where
  store : List Rec := []
  /-- sequence numbers of held records with an uncorrectable error (R475) -/
  damaged : List Nat := []
  nextSeq : Nat := 0
  lost : Nat := 0
  frozenLost : Nat := 0
  /-- records lost since the log became full, and the SEQ of the first; some while a LOG_RESUMED is owed -/
  fullSince : Option (Nat × Option Nat) := none
  frozen : Bool := false
  /-- SN at which the freeze began -/
  freezeSn : Nat := 0
  /-- records lost in the freeze in force and the SEQ of the first -/
  frozenCount : Nat := 0
  frozenFirst : Option Nat := none
  /-- a FROZEN_END owed: records lost, SEQ of the first if any, strokes frozen -/
  owedEnd : Option (Nat × Option Nat × Nat) := none
  /-- records streamed up to this SEQ (R477) -/
  streamed : Nat := 0
  /-- RECORDER_START has been presented since the last reset (R469) -/
  started : Bool := false
  deriving DecidableEq, Repr

/-- Where a job came from (R37): a timer release keeps the ring it came from. -/
inductive JobSrc where
  | ring (ring index : Nat)
  /-- block-periodic work of an instance of a capability (R30, R37) -/
  | periodic (cap inst : Nat)
  /-- a received frame at its MAC -/
  | intake (port arrival : Nat)
  /-- an element that a MAC delivered to the allotment engine (R171, R205): TYPE, robot, arrival or commit SN, frame SEQ -/
  | element (typ robot arrival seq : Nat)
  deriving DecidableEq, Repr

/-- Where a job stands in the dispatcher. -/
inductive JobPhase where
  /-- fetched, held by FENCE before stamping (R68) -/
  | fenced
  /-- presented, waiting for the next stamp point (R31) -/
  | presented
  /-- stamped, on a delay list until NOT_BEFORE (R32) -/
  | delayed
  /-- stamped, waiting for the previous chain member (R67) -/
  | chained
  /-- stamped, waiting for an older job of its ordering domain (R38) -/
  | domained
  /-- its domain came free: enters its ready list in the next batch (R38) -/
  | nextBatch
  /-- in a ready list (R36) -/
  | ready
  /-- on an executor -/
  | running
  /-- finished on its executor, waiting for lower commit keys (R39) -/
  | computed
  /-- its command has taken effect and completes later; it holds no executor -/
  | waiting
  deriving DecidableEq, Repr

/-- One job of the dispatcher. -/
structure Job where
  id : Nat
  src : JobSrc
  /-- the descriptor of a ring job -/
  desc : Option Desc := none
  /-- executor class 0 to 7 (R33) -/
  cls : Nat
  /-- ready-list priority 0 to 15 (R36) -/
  prio : Nat
  domain : Nat := 0
  /-- replicated job: commits in key order (R39) -/
  repl : Bool := true
  /-- deadline work: N of "stamp SN + N" (R525); none for stroke-bound work -/
  lead : Option Nat := none
  deadline : Nat := 0
  sn : Nat := 0
  batch : Nat := 0
  seq : Nat := 0
  /-- SN, batch and seq of the first stamp, by which its ordering domain takes it (R38; log entry 101) -/
  born : Nat × Nat × Nat := (0, 0, 0)
  /-- id of the previous chain member (R67) -/
  prev : Option Nat := none
  /-- it runs after the stroke of its stamp: a job of the mate's log, or of a synthesized stroke (R364, R369). The close point of its
  own stroke has no hold on it; the primary's committed prefix has (R40) -/
  late : Bool := false
  /-- abandoned by the primary (R42): it takes the overrun outcome -/
  void : Bool := false
  phase : JobPhase
  deriving DecidableEq, Repr

/-- What a committed replicated job gave out, for the output digest (R365): stamp SN, class, commit key, and the bytes of its
status and outputs. -/
structure JobOut where
  /-- it counts into the committed prefix of its class (R40) -/
  counted : Bool
  sn : Nat
  cls : Nat
  batch : Nat
  prio : Nat
  seq : Nat
  bytes : List Byte
  deriving DecidableEq, Repr

/-- A source held by back-pressure (R45): submission ring 0–63 is source n, fabric port p is source 64 + p. -/
abbrev SourceId := Nat

/-- The dispatcher (R36–R45). -/
structure Disp where
  jobs : List Job := []
  nextId : Nat := 0
  /-- seq the next job stamped in this stroke takes (R36) -/
  nextSeq : Nat := 0
  /-- STOP-class descriptors fetched since the last stamp point (R37) -/
  stops : Nat := 0
  /-- last stamp point passed in this stroke -/
  batch : Nat := 0
  /-- the close point of the current SN has passed (R30) -/
  closed : Bool := false
  /-- seq after the timer releases and block-periodic jobs of this stroke (R37) -/
  edgeSeq : Nat := 0
  /-- sources still held by back-pressure -/
  held : List SourceId := []
  /-- source resumed last (R45); none before the first -/
  lastResumed : Option SourceId := none
  /-- SN at which back-pressure began -/
  bpSn : Nat := 0
  /-- jobs stamped in this stroke -/
  stamped : Nat := 0
  /-- internal timers in use (R44) -/
  internalTimers : Nat := 0
  /-- a job of this stroke, and of the previous one, ended in overrun or deadline miss (R60) -/
  overNow : Bool := false
  overLast : Bool := false
  /-- committed jobs of the current SN per class, for the log of SN + 1 (R40) -/
  prefixLen : List Nat := List.replicate 8 0
  /-- ring and intake jobs of replicated classes wait for the next stroke (R359, R373) -/
  holdRepl : Bool := false
  /-- outputs of the replicated job in progress, and of the jobs committed (R365) -/
  handed : List Byte := []
  outs : List JobOut := []
  /-- strokes missed by each service core's watchdog (R20) -/
  wdMissed : List Nat := List.replicate 8 0
  deriving DecidableEq, Repr

/-- A submission ring (R61–R64). -/
structure SqRing where
  /-- consumer index -/
  cons : Nat := 0
  /-- producer index of the last doorbell read -/
  prod : Nat := 0
  /-- consumer index last written to the status page -/
  shown : Nat := 0
  deriving DecidableEq, Repr

/-- A completion ring (R61, R64, R77). -/
structure CqRing where
  /-- device producer index W -/
  prod : Nat := 0
  /-- consumer index H of the last doorbell read -/
  cons : Nat := 0
  /-- producer index last written to the status page -/
  shown : Nat := 0
  /-- entries reserved for fetched descriptors -/
  reserved : Nat := 0
  /-- entries written but not yet signalled, and the status points the oldest has waited -/
  unsignalled : Nat := 0
  waited : Nat := 0
  deriving DecidableEq, Repr

/-- When a completion falls due (R72). -/
inductive DueWhen where
  /-- at the next status point -/
  | status
  /-- at the release point of the stroke after this SN, once the outputs of that SN may leave -/
  | release (sn : Nat)
  deriving DecidableEq, Repr

/-- A completion waiting to be written (R71, R72), with the result bytes that leave before it. -/
structure DueCpl where
  cq : Nat
  opcode : Nat
  status : Nat
  tag : Nat
  doneSn : Nat
  resultLen : Nat
  result : Nat
  addr : Nat
  bytes : List Byte
  due : DueWhen
  /-- CELL_CHECK is written inverted (R324) -/
  stomped : Bool
  /-- QUIET of a command that ended OK (R70): its bytes leave, and its reserved entry is released -/
  silent : Bool
  deriving DecidableEq, Repr

/-- A posted buffer (R76). -/
structure Posted where
  ring : Nat
  tag : Nat
  addr : Nat
  len : Nat
  /-- QUIET of its descriptor (R70) -/
  quiet : Bool := false
  deriving DecidableEq, Repr

/-- A descriptor forwarded to the primary (R69), with the stroke it left in. -/
structure Forwarded where
  desc : Desc
  sentSn : Nat
  id : Nat
  deriving DecidableEq, Repr

/-- The PCIe configuration space, as R49 names it; reset values of PCIe Base 4.0 (PRESUMED, log entry 104). No command of the table
writes it. -/
structure Pcie where
  bar0 : Nat := 0
  /-- max payload size and max read request size in bytes -/
  maxPayload : Nat := 128
  maxRead : Nat := 512
  d3hot : Bool := false
  msixEnable : Bool := false
  /-- AER uncorrectable error status -/
  aer : Nat := 0
  deriving DecidableEq, Repr

/-- How a failed host memory access ended (R526). -/
inductive DmaEnd where
  | unsupported | retry | abort | timeout | poisoned | malformed | linkDown
  deriving DecidableEq, Repr

/-- RINGS state outside its registers. -/
structure Rings where
  pcie : Pcie := {}
  sq : List SqRing := List.replicate 64 {}
  cq : List CqRing := List.replicate 64 {}
  due : List DueCpl := []
  posted : List Posted := []
  forwarded : List Forwarded := []
  nextFwd : Nat := 0
  /-- descriptors from before a host-link reset whose commands end later (R51) -/
  lost : List Desc := []
  /-- RWL registers of RINGS writable on an engaged device after a host-link reset (R55) -/
  unlocked : Bool := false
  /-- health word last written, without BEAT, and BEAT -/
  lastHealth : Option Nat := none
  beat : Nat := 0
  deriving DecidableEq, Repr

/-- One owner hash slot of the fuses (R488). -/
structure HashSlot where
  hash : List Byte := []
  programmed : Bool := false
  revoked : Bool := false
  interrupted : Bool := false
  deriving DecidableEq, Repr

/-- Fused state of the main die (R382, R487, R488). -/
structure Fuses where
  serial : Nat := 0
  slots : List HashSlot := [{}, {}, {}]
  /-- number of ANTIROLL bits blown -/
  antiroll : Nat := 0
  rootProgrammed : Bool := true
  lock : Bool := true
  /-- capability IDs of blocks fused off (R54) -/
  fusedOff : List Nat := []
  deriving DecidableEq, Repr

/-- The supplies and RESET_N. -/
structure Pins where
  /-- the main supplies are in range (R481, R494) -/
  mainSupply : Bool := true
  /-- some AON supply has been held since the AON domain was last cleared (R492, R506) -/
  aonSupply : Bool := true
  /-- VBAT in range (R506) -/
  vbat : Bool := true
  resetN : Bool := false
  deriving DecidableEq, Repr

/-- Straps as sampled at the rising edge of RESET_N (R484). -/
structure Straps where
  boot : Nat := 0
  pairId : Bool := false
  pairPref : Bool := false
  testMode : Bool := false
  deriving DecidableEq, Repr

/-- What a ring job on its executor comes to: it has finished; one of the steps of deadline work has ended (R34); it has read a
protected memory (R475), which ends it where the read fails. -/
inductive JobEnd (Read : Type) where
  | finished
  | step
  | read (r : Read)
  deriving DecidableEq, Repr

/-- What misses its deadline (R42): a job of the dispatcher by its id, or the solution job of a robot (R198). -/
inductive MissTarget where
  | job (id : Nat)
  | solve (robot : Nat)
  deriving DecidableEq, Repr

/-- Reply of BAR0 to the last request (R9, R50). -/
inductive Reply where
  | none
  | data (w : Word)
  | unsupported
  | abort
  deriving DecidableEq, Repr

end Sys2Proof.Machine
end

