-- ==== Sys2Proof/Types/Gnss.lean ====
section
/-! DEFINITION. Plain data of the GNSS baseband (R101–R125) and of the Baseline engine (R184–R210). -/

namespace Sys2Proof.Machine

/-- A measured signal of an epoch as the channel latches give it (R107): signal index, PRN or slot, GLONASS channel k + 7,
C/N0 in 1/16 dB-Hz, pseudorange and carrier × wavelength in 2^−16 m, range rate in 2^−16 m/s, half-cycle unresolved. -/
structure Meas where
  sig : Nat
  prn : Nat
  fcn : Nat
  cn0 : Nat
  pr : Int
  cp : Int
  rr : Int
  half : Bool
  deriving DecidableEq, Repr

/-- An entry of a base measurement set (R185). -/
structure SetEntry where
  meas : Meas
  flags : Nat
  /-- lock time in 0.1 s -/
  lock : Nat
  deriving DecidableEq, Repr

/-- A base measurement set (R185). -/
structure BaseSet where
  epochSn : Nat
  flags : Nat
  stationId : Nat
  arp : Int × Int × Int
  bias : Int
  entries : List SetEntry
  deriving DecidableEq, Repr

/-- A tracking channel in use (R106): its signal and satellite, the SN of its lock, its last code minus carrier with the epoch of it. -/
structure Track where
  sig : Nat
  prn : Nat
  fcn : Nat
  lockSn : Nat
  codeCarrier : Option (Nat × Int) := none
  deriving DecidableEq, Repr

/-- A visible satellite as predicted (R106): constellation bit, PRN or slot, GLONASS channel, elevation in 0.1 degree. -/
structure SatView where
  cst : Nat
  prn : Nat
  fcn : Nat
  elev : Int
  deriving DecidableEq, Repr

/-- An ephemeris (R111 check 2, R186). -/
structure Eph where
  cst : Nat
  prn : Nat
  data : List Byte
  deriving DecidableEq, Repr

/-- The keep-alive data (R121): ephemerides and almanacs, the last ARP in force, TAI − UTC, the oscillator's estimate, a TAI second with
the AON cycle count at which it was taken, and the CRC-32C. -/
structure KeepAlive where
  eph : List Eph
  alm : List Eph
  arp : Option (Int × Int × Int)
  utc : Nat
  osc : Nat
  tai : Option (Nat × Nat)
  crc : Nat
  deriving DecidableEq, Repr

/-- The self-survey (R115): epochs averaged, sums and sums of squares per coordinate in 0.1 mm, the instant it began as a count of
250 µs periods of the baseband. -/
structure Survey where
  n : Nat
  sum : Int × Int × Int
  sq : Nat
  startAt : Nat
  slowSaid : Bool := false
  deriving DecidableEq, Repr

/-- What the time solution of an epoch finds (R111 checks 5 and 6, R112): the signals check 5 excludes with their deviation
in cm, in order; GNSS time of the latch instant less TB0 before the antenna delay; the drift predicted since the epoch
compared with, in ns; the single-point position in 0.1 mm. -/
structure Solution where
  excluded : List (Nat × Nat × Int)
  bias : Int
  drift : Int
  pos : Int × Int × Int
  deriving DecidableEq, Repr

/-- An epoch whose checks are complete and that has not been presented (R108, R112): its SN, whether it was latched before the first stroke
edge and whether any signal was tracked, the ARP in force, GNSS time less TB0 in ns, the position in 0.1 mm, the drift since the epoch
compared with, the satellites left, the outcome of check 6, and the entries. -/
structure Checked where
  sn : Nat
  pre : Bool
  tracked : Bool
  arp : Option (Int × Int × Int)
  bias : Int
  pos : Int × Int × Int
  drift : Int
  sats : Nat
  clkOk : Bool
  entries : List SetEntry
  deriving DecidableEq, Repr

/-- GNSS state outside its registers. -/
structure Gnss where
  tracks : List Track := []
  /-- a CHANNELS_FULL excursion is in progress -/
  fullSaid : Bool := false
  /-- the epoch latched and not yet checked, with its measurements -/
  latched : Option (Nat × List Meas) := none
  /-- it was latched before the first stroke edge (R110) -/
  preEpoch : Bool := false
  /-- the last two epochs latched, newest first (R111 check 3) -/
  epochs : List Nat := []
  /-- the epoch checked and not yet presented -/
  checked : Option Checked := none
  /-- pseudorange differences of two signals of one satellite with their epochs: constellation bit, PRN, the signals -/
  ifb : List ((Nat × Nat × Nat × Nat) × List (Nat × Int)) := []
  /-- bias of the previous epoch, and of the previous offered epoch (R111, R118) -/
  prevBias : Option Int := none
  offeredBias : Option Int := none
  /-- consecutive epochs without an offer (R117) -/
  noOffer : Nat := 0
  /-- GNSS is lost (R117) -/
  lost : Bool := false
  /-- consecutive agreeing epochs in holdover, and the least and greatest bias among them carried to the last by the drift (R118) -/
  agree : Nat := 0
  span : Int × Int := (0, 0)
  /-- offers have resumed in the holdover in force (R118) -/
  resumed : Bool := false
  survey : Option Survey := none
  /-- ARP in force; none while BASE_FIXED is 0 -/
  arp : Option (Int × Int × Int) := none
  /-- the last ARP in force (R121) -/
  lastArp : Option (Int × Int × Int) := none
  eph : List Eph := []
  /-- ephemerides accepted since the last set, the inputs of the next one (R186) -/
  ephNew : List Eph := []
  /-- almanacs (R121, R122) -/
  alm : List Eph := []
  /-- ephemerides rejected by check 2, for the second identical reception, with the instant of it as a count of periods -/
  rejected : List (Eph × Nat) := []
  /-- TAI − UTC as last broadcast by each constellation, the leap second each announced last, the one taken: new value, TAI second; and
  the announcements recorded (R119) -/
  utcSeen : Tab Int := []
  leapSeen : Tab (Int × Nat) := []
  leap : Option (Int × Nat) := none
  leapSaid : List (Int × Nat) := []
  /-- AGC loop of each port in 1/40 of a duty step (R104) -/
  agcAcc : Tab Int := []
  /-- AGC duties of the last 4,000 strokes and mean C/N0 of the last 20 epochs per port, newest first; and the count of periods at which a
  condition of R113 last held -/
  agcHist : Tab (List Nat) := []
  cn0Hist : Tab (List Nat) := []
  jamAt : Tab Nat := []
  /-- AON count of 32.768 kHz cycles, in 1/125 of a cycle (R16, R121) -/
  aon : Nat := 0
  keepAlive : Option KeepAlive := none
  forgetKa : Bool := false
  /-- 250 µs periods since the baseband started; the first offer has been made -/
  upPeriods : Nat := 0
  offeredOnce : Bool := false
  spiBusy : Bool := false
  deriving DecidableEq, Repr

/-- A solution job of the Baseline engine (R196): epoch, arrival, deadline, the RAWOBS body, its stamp order. -/
structure Solve where
  epochSn : Nat
  arrival : Nat
  deadline : Nat
  body : List Byte
  order : Nat
  /-- signals slipped since the filter's last update (R193) -/
  slipped : List (Nat × Nat) := []
  deriving DecidableEq, Repr

/-- The Baseline state of a robot in central mode (R197–R203). -/
structure Rover where
  accH : Nat := 2000
  accV : Nat := 500
  floatOnly : Bool := false
  /-- last fix record, 48 bytes -/
  fix : Option (List Byte) := none
  lastEpoch : Option Nat := none
  held : Nat := 0
  fixed : Nat := 0
  /-- signals whose ambiguities the filter holds, by signal index and PRN; carriers left out with the consecutive epochs of it; SLIPS of
  the last RAWOBS accepted; slips of jobs that did not update the filter (R193, R198, R199) -/
  ambs : List (Nat × Nat) := []
  outs : List ((Nat × Nat) × Nat) := []
  slips : List ((Nat × Nat) × Nat) := []
  carry : List (Nat × Nat) := []
  status : Nat := 0
  /-- a BASELINE_LONG excursion is in progress -/
  long : Bool := false
  waiting : Option Solve := none
  running : Option Solve := none
  rejectSf : Option Nat := none
  deriving DecidableEq, Repr

/-- What a solution finds (R199–R201); the estimator's numerical methods are the device's own. ENU in mm; the covariance of the
position in m² (east, east and north, north, up), the sum of squared normalised residuals and its degrees of freedom (R200);
baseline in m, double differences, the signals whose ambiguities the filter then holds, how many double-difference ambiguities of
them are not GLONASS's, the ratio of second-best to best in 1/16 of each search over them, each with one ambiguity fewer; the
normalised innovation of each carrier by signal index and PRN; lane steps. -/
structure RoverSol where
  nsat : Nat
  enu : Int × Int × Int
  cee : Dy
  cen : Dy
  cnn : Dy
  cuu : Dy
  resid : Dy
  dof : Int
  baseline : Nat
  ndd : Nat
  ambs : List (Nat × Nat)
  dd : Nat
  ratios : List Nat
  innov : List ((Nat × Nat) × Dy)
  steps : Nat
  deriving DecidableEq, Repr

/-- A fix on its way to the allotment engine (R203, R205): commit SN, robot, the fix body. -/
structure FixIn where
  sn : Nat
  robot : Nat
  fix : List Byte
  deriving DecidableEq, Repr

/-- BASELINE state outside its registers. -/
structure Baseline where
  /-- the sets of the last 16 epochs, oldest first (R186) -/
  sets : List BaseSet := []
  /-- replicated ephemeris table (R186) -/
  eph : List Eph := []
  rovers : Tab Rover := []
  /-- station information record in force, and the one for the next correction epoch (R208) -/
  station : Option (List Byte) := none
  newStation : Option (List Byte) := none
  /-- a CORR_WITHHELD excursion is in progress -/
  withheld : Bool := false
  /-- set presented and not yet encoded -/
  toEncode : Option Nat := none
  /-- SN of the last HOST_NO_BUFFER -/
  missSn : Option Nat := none
  nextOrder : Nat := 0
  /-- fixes committed for the allotment engine -/
  fixes : List FixIn := []
  deriving DecidableEq, Repr

end Sys2Proof.Machine
end

