-- ==== Sys2Proof/Types/Net.lean ====
section
/-! DEFINITION. Plain data of the Cistern, the ports and the forwarding engine (R311–R355): stored frames, admission, pause,
egress queues, gate lists, the L2, VLAN and route tables. -/

namespace Sys2Proof.Machine

/-- A frame in the Cistern (R311) with what the engine decided for it. -/
structure Frame where
  id : Nat
  /-- ingress fabric port -/
  ingress : Nat
  cls : Nat
  bytes : List Byte
  /-- its cells in order; the first is the frame record's first cell -/
  cells : List Nat
  /-- cells held in the guaranteed, shared and headroom categories (R313) -/
  guar : Nat
  shared : Nat
  hdrm : Nat
  arrSn : Nat
  /-- own-check status VERIFIED, and the cell check over the stored bytes (R322) -/
  verified : Bool
  check : Nat := 0
  /-- egress copies outstanding -/
  copies : Nat := 0
  /-- stomp cause that every copy still to end takes: 1 own check, 3 uncorrectable, 4 oversize, 5 truncated (R324) -/
  bad : Option Nat := none
  vlan : Nat := 0
  /-- PCP of the tag it arrived with -/
  pcp : Option Nat := none
  /-- TB1 of the timestamp point in ns, when it is timestamped, and TB0 with TS_ALL (R94) -/
  stamps : Option (Nat × Option Nat) := none
  /-- its cells that gave an uncorrectable error (R328), and the index of the cell whose link word broke (R327) -/
  badCells : List Nat := []
  broken : Option Nat := none
  deriving DecidableEq, Repr

/-- A frame's copy in an egress queue (R348): launch time in ns of the port's time base (R96), the VLAN whose tag it takes,
rewritten addresses of a routed copy, and the descriptor that waits for it (R350). -/
structure QEntry where
  frame : Nat
  size : Nat
  cls : Nat
  launch : Option Nat := none
  /-- bytes as they leave, FCS excluded -/
  bytes : List Byte
  desc : Option Desc := none
  /-- the descriptor asks for the egress timestamp (R350) -/
  tsReq : Bool := false
  /-- TB1 in ns at which it went on the wire -/
  start : Nat := 0
  /-- a message of the device's own PTP stack (R95), with TB1 in ns at which the request it answers was received -/
  ptp : Option Nat := none
  deriving DecidableEq, Repr

/-- A byte that a read of a frame finds changed (R327): index of the cell in the frame, byte in the cell, 0x100 for the link
word or 0x200 for the frame record, and the data and check bits read (R472). -/
structure CellErr where
  cell : Nat
  place : Nat
  d : Nat
  chk : Nat
  deriving DecidableEq, Repr

/-- An Ethernet frame as it arrives (R318–R323): destination address to the byte before the FCS, FCS result, the greatest FIFO
fill in words while it passed, whether the writer found the other bank undrained, whether its egress began before its end, the
time of its timestamp point in the stroke, and the table entries (table, slot) whose parity its lookup found bad. -/
structure EthIn where
  port : Nat
  bytes : List Byte
  fcsOk : Bool
  fill : Nat
  overflow : Bool
  siphon : Bool
  atNs : Nat
  parity : List (Nat × Nat)
  deriving DecidableEq, Repr

/-- An Ethernet egress port (R348, R349). -/
structure Egress where
  /-- eight queues by class -/
  queues : List (List QEntry) := List.replicate 8 []
  deficit : List Nat := List.replicate 8 0
  /-- class whose turn it is in the deficit round robin -/
  turn : Nat := 0
  /-- the copy on the wire -/
  busy : Option QEntry := none
  deriving DecidableEq, Repr

/-- A gate list (R353): base time and cycle in ns, entries of gate states and interval. -/
structure GateList where
  base : Nat
  cycle : Nat
  entries : List (Nat × Nat)
  deriving DecidableEq, Repr

/-- The gates of a port (R97, R353). -/
structure Gates where
  oper : Option GateList := none
  /-- administrative list and its change time in ns -/
  admin : Option (GateList × Nat) := none
  /-- entry in force -/
  idx : Nat := 0
  /-- the gates hold their state until the next cycle start at this time (R92) -/
  held : Option Nat := none
  /-- the list failed its parity: every gate is closed (R343) -/
  broken : Bool := false
  deriving DecidableEq, Repr

/-- An L2 entry (R336, R337). -/
structure L2 where
  key : List Byte
  port : Nat
  static : Bool
  held : Bool := false
  ts : Nat := 0
  heldUntil : Nat := 0
  /-- moves counted in the second `movesAt` -/
  moves : Nat := 0
  movesAt : Nat := 0
  deriving DecidableEq, Repr

/-- A VLAN entry (R341): member and untagged sets, bit 24 for HOST. -/
structure Vlan where
  learn : Bool
  members : Nat
  untagged : Nat
  deriving DecidableEq, Repr

/-- A route entry (R344, R346). -/
structure Route where
  /-- length, then the prefix -/
  key : List Byte
  kind : Nat
  port : Nat
  vlan : Nat
  nhMac : List Byte
  deriving DecidableEq, Repr

/-- A packet between passes of the prefix match (R345): its frame, the lengths left, passes made, and the descriptor of a host
frame. -/
structure Recirc where
  frame : Nat
  cand : List Nat
  pass : Nat
  launch : Option Nat
  desc : Option Desc
  deriving DecidableEq, Repr

/-- What a frame for a fabric port inside the device carries: a packet for a mesh cluster, for a robot, or the frame itself for the service
cores. -/
inductive InnerUse where
  | mesh (cluster : Nat) (pkt : List Byte)
  | fleet (robot : Nat) (pkt : List Byte)
  | svc
  deriving DecidableEq, Repr

/-- A frame that fabric port MESH(p), FLEET(p) or SVC is to read whole (R324). -/
structure Inner where
  port : Nat
  frame : Nat
  use : InnerUse
  deriving DecidableEq, Repr

/-- CISTERN, PORTS and FORWARD state outside their registers. -/
structure Net where
  frames : List Frame := []
  nextFrame : Nat := 0
  /-- cells held per fabric port: guaranteed, shared, headroom -/
  guar : Tab Nat := []
  shared : Tab Nat := []
  hdrm : Tab Nat := []
  quarantined : List Nat := []
  /-- cells stranded behind a broken link (R329) -/
  stranded : List Nat := []
  /-- frames refused in this stroke per port; ports for which it is recorded -/
  refused : Tab Nat := []
  overflowed : Tab Nat := []
  /-- SN of the last FLOAT_MARK and OVERSIZE per port -/
  floatSn : Tab Nat := []
  overSn : Tab Nat := []
  /-- ports whose fill stands at or above the float mark -/
  above : List Nat := []
  /-- ports whose float mark stands as an XOFF condition (R316) -/
  floatXoff : List Nat := []
  /-- FLOAT_VECTOR is due at the next status point (R319) -/
  floatDue : Bool := false
  /-- received quanta per port and class (port × 16 + class; class 8 PAUSE) that still run, with the instant in ns at which they end -/
  paused : List (Nat × Nat) := []
  /-- stroke of the last XOFF sent per port (R316) -/
  xoffSn : Tab Nat := []
  egress : Tab Egress := []
  gates : Tab Gates := []
  l2 : Tab L2 := []
  vlans : Tab Vlan := []
  routes : Tab Route := []
  /-- filter counters: length × 16384 + bit (R344) -/
  filter : Tab Nat := []
  /-- learn queue: key and port (R337) -/
  learnq : List (List Byte × Nat) := []
  recirc : List Recirc := []
  /-- parity log: table and slot (R343) -/
  parity : List (Nat × Nat) := []
  learnFullSn : Option Nat := none
  abandonSn : Option Nat := none
  /-- frames for HOST: the frame, its reason and the bytes the host gets (R351) -/
  hostq : List (Nat × Nat × List Byte) := []
  /-- frames that the radio side and the service cores are to read (R324), oldest first -/
  inner : List Inner := []
  deriving DecidableEq, Repr

end Sys2Proof.Machine
end

