-- ==== Sys2Proof/Types/Memory.lean ====
section
/-! DEFINITION. Plain data of MEMORY (R472–R475): what a read of the scrubber finds, and where it strikes. -/

namespace Sys2Proof.Machine

/-- What the checker of a memory finds (R472, R473): a corrected error with its syndrome or byte count. -/
inductive ScrubRes where
  | clean
  | corrected (info : Nat)
  | uncorrectable
  deriving DecidableEq, Repr

/-- What a read of a memory finds stored (R17): a byte and its five check bits, a forwarding table entry whose parity holds or not,
or the 512-byte block of a DRAM line. -/
inductive Stored where
  | byte (d chk : Nat)
  | entry (ok : Bool)
  | block (bytes : List Byte)
  deriving DecidableEq, Repr

/-- What stands at the location read. -/
inductive ScrubHit where
  /-- nothing that has a rule of its own -/
  | other
  /-- replicated state (R475) -/
  | replicated
  /-- a frame of the Cistern (R327) -/
  | frame (id cell place : Nat)
  /-- the record with a SEQ -/
  | record (seq : Nat)
  /-- a neighbour entry, and whether its node can still be read (R279) -/
  | nbr (i : Nat) (readable : Bool)
  /-- a forwarding table entry (R343): table and slot -/
  | entry (table slot : Nat)
  /-- a key cache entry by handle -/
  | key (handle : Nat)
  deriving DecidableEq, Repr

/-- A read of memory `m` by a requester (R475): address, what is found stored, and what stands there. -/
structure MemRead where
  m : Nat
  addr : Nat
  stored : Stored
  hit : ScrubHit
  deriving DecidableEq, Repr

/-- MEMORY. -/
structure Memories where
  /-- when the pass of each memory began, in strokes -/
  lapStart : List Nat := List.replicate 19 0
  /-- a correction has been recorded in this pass -/
  noted : List Bool := List.replicate 19 false
  /-- locations left with an uncorrectable error: memory and address -/
  bad : List (Nat × Nat) := []
  deriving DecidableEq, Repr

end Sys2Proof.Machine
end

