-- ==== Sys2Proof/Types/Radio.lean ====
section
/-! DEFINITION. Plain data of the radio, the fleet link and the stop chain: transmissions (R129, R151), received frames (R135),
fleet frames (R163, R165), robots (R169, R171, R181), stops (R237). -/

namespace Sys2Proof.Machine

/-- An element of a fleet frame (R165): TYPE, DEST and body; LEN is the body's length. -/
structure Elem where
  typ : Nat
  dest : Nat
  body : List Byte
  deriving DecidableEq, Repr

/-- A fleet frame before protection (R163): header fields and elements. -/
structure FleetFrame where
  ftype : Nat
  ver : Nat := 1
  flags : Nat := 0
  netId : Nat
  addr : Nat
  kgen : Nat
  dest : Nat := 0
  epoch : Nat
  seq : Nat := 0
  sn : Nat
  elems : List Elem
  deriving DecidableEq, Repr

/-- Who hands a frame to the radio. -/
inductive TxOwner where
  | beacon (chan part : Nat)
  | unicast (chan robot : Nat)
  | stop (chan : Nat)
  | mesh (chan token : Nat)
  deriving DecidableEq, Repr

/-- A stop frame. -/
def TxOwner.isStop : TxOwner → Bool
  | .stop _ => true
  | _ => false

/-- A transmission handed to the radio (R151): first sample at the antenna at stroke `sn`, `ns`; `len` ns on air. -/
structure Tx where
  id : Nat
  owner : TxOwner
  port : Nat
  ch : Nat
  sn : Nat
  ns : Nat
  len : Nat
  /-- MCS or GLR mode -/
  mcs : Nat
  bytes : List Byte
  onAir : Bool := false
  /-- its ramp-down after a pre-emption: the instant it began, in ns since SN 0, and the ramp entry then in force (R153) -/
  down : Option (Nat × Nat) := none
  deriving DecidableEq, Repr

/-- A point of a constellation (R140–R147): (re + j im) / √sq. -/
structure Sym where
  re : Int
  im : Int
  sq : Nat := 1
  deriving DecidableEq, Repr

/-- The waveform of a frame as the symbols that the spec fixes. -/
inductive Wave where
  /-- an IEEE 802.15.4 PHY at an MCS; `fec`: SUN FSK coded (R137) -/
  | std (mcs : Nat) (fec : Bool)
  /-- GLR (R139): symbol rate, the symbols of the backward extension, the frame's symbols -/
  | glr (rate : Nat) (ext frame : List Sym)
  /-- CFL (R146, R147): the STF and LTF values, the OFDM symbols, and the one repeated cyclically in the ramp-down; each point with its
  subcarrier -/
  | cfl (stf ltf : List (Int × Sym)) (syms : List (List (Int × Sym))) (tail : List (Int × Sym))
  deriving DecidableEq, Repr

/-- How a transmit channel sends a frame (R132, R149, R151, R152): MCS or GLR mode, offset in Hz, inverted spectrum, attenuation in
0.5 dB, the levels of its envelope over the ramp-up of `rampNs`, and the waveform. -/
structure AirForm where
  mcs : Nat
  ofs : Int
  inv : Bool
  atten : Nat
  rampNs : Nat
  levels : List Nat
  wave : Wave
  deriving DecidableEq, Repr

/-- The control lines of an RF port (R129). -/
inductive RfLine where
  | rxen | trsw | paen | ramp
  deriving DecidableEq, Repr

/-- A line takes a level, in pin polarity, or RAMP a ramp level; `at64` is the instant in 1/64 ns since SN 0. -/
structure RfStep where
  at64 : Nat
  line : RfLine
  level : Nat
  deriving DecidableEq, Repr

/-- One clock edge of an RF link half: FR and D[3:0] (R126). -/
structure RfClk where
  fr : Bool
  d : Nat
  deriving DecidableEq, Repr

/-- What a demodulator lane takes from the air (R137, R143, R148). I/Q values are whole numbers of a fine scale. -/
inductive RxAir where
  /-- an IEEE 802.15.4 frame as that standard's receiver gives it: MCS, PSDU, coded or not -/
  | std (mcs : Nat) (fec : Bool) (bytes : List Byte)
  /-- GLR: samples at half-symbol spacing from preamble symbol 0 on -/
  | glr (samples : List (Int × Int))
  /-- CFL: the used subcarriers in ascending k of the LTF symbol, then of SIG and each data symbol -/
  | cfl (ltf : List (Int × Int)) (syms : List (List (Int × Int)))
  deriving DecidableEq, Repr

/-- What becomes of a transmission, as its MAC learns it (R151, R153, R280). -/
inductive TxResult where
  | preempted
  | refused
  /-- acknowledged, `ofs` µs from the nominal instant of R261 -/
  | acked (ofs : Int)
  /-- answered by a valid acknowledgement with NACK -/
  | nacked (ofs : Int)
  /-- no valid acknowledgement in its window -/
  | unheard
  /-- no channel access (R276) -/
  | noAccess
  deriving DecidableEq, Repr

/-- A demodulator lane in use (R134): kind 0 narrowband, 1 OFDM; a reserved lane belongs to its CFL channel. -/
structure Lane where
  kind : Nat
  num : Nat
  port : Nat
  ch : Nat
  reserved : Bool
  deriving DecidableEq, Repr

/-- A received frame with its metadata (R135). -/
structure RxFrame where
  port : Nat
  ch : Nat
  mode : Nat
  mcs : Nat
  sn : Nat
  ns : Nat
  rssi : Int
  snr : Int
  cfo : Int
  ldpcIter : Nat
  bytes : List Byte
  /-- its frame in the Cistern; none where it was not admitted (R315) -/
  cell : Option Nat
  /-- ACKED mark (R274): an Imm-Ack went out, with its frame pending bit -/
  acked : Option Bool := none
  deriving DecidableEq, Repr

/-- RADIO state outside its registers. -/
structure Radio where
  tx : List Tx := []
  nextTx : Nat := 0
  lanes : List Lane := []
  /-- misses per lane kind in this stroke (R134, R156) -/
  missNb : Nat := 0
  missOf : Nat := 0
  /-- frames passed to the MACs and not yet processed -/
  rx : List RxFrame := []
  /-- port under calibration (R155) -/
  calPort : Option Nat := none
  /-- port whose SPI bus is busy -/
  spiBusy : List Nat := []
  /-- SN at which RX_CLIPPING was last recorded, per port -/
  clipSn : Tab Nat := []
  /-- receive samples of a half-duplex port are discarded up to this instant, in ns since SN 0 (R130) -/
  blankTo : Tab Nat := []
  /-- clipped samples of the transmit composite, per port (R151) -/
  txClips : List Nat := List.replicate 8 0
  /-- frames reported back to their MACs: true pre-empted, false refused (R151, R153) -/
  reports : List (TxOwner × TxResult) := []
  deriving DecidableEq, Repr

/-- An uplink slot spec (R169). -/
structure SlotSpec where
  stroke : Nat
  period : Nat
  phase : Nat
  mcs : Nat
  deriving DecidableEq, Repr

/-- An enrolled robot (R171, R177, R181). -/
structure Robot where
  home : Nat
  /-- MODE: 1 central, 0 onboard -/
  central : Bool
  crew : Nat
  dlMcs : Nat
  specs : List SlotSpec := []
  /-- specs that take effect from a superframe (R181) -/
  newSpecs : Option (Nat × List SlotSpec) := none
  /-- superframe in which the specs last changed (R169) -/
  specsSf : Option Nat := none
  high : Nat := 0
  win : Nat := 0
  /-- SNR of the last accepted frame in 0.25 dB -/
  snr : Int := 0
  /-- SN of the last accepted frame, and of enrolment -/
  lastSn : Option Nat := none
  enrolSn : Nat := 0
  /-- last HEALTH body; none before the first after enrolment -/
  health : Option (List Byte) := none
  /-- an ACK element is due (R172) -/
  ackDue : Bool := false
  silent : Bool := false
  /-- replies to the last 4 claims, by frame SEQ (R171) -/
  replies : List (Nat × List Byte) := []
  /-- superframe of the last AUTH_FAIL and SLOT_VIOLATION recorded (R182) -/
  authSf : Option Nat := none
  slotSf : Option Nat := none
  /-- SN in which the robot was retired: frames of later strokes are refused (R181) -/
  gone : Option Nat := none
  deriving DecidableEq, Repr

/-- A beacon element waiting for a part (R167). `rank`: 2 SLOTS, 3 ACK, 4 ALLOT, 5 FIX, 6 CORR; an ACK takes its body when
it is placed. -/
structure BcnElem where
  chan : Nat
  rank : Nat
  /-- robot ID, or fragment index of CORR -/
  key : Nat
  /-- epoch SN of a FIX or CORR element -/
  epochSn : Nat := 0
  carried : Bool := false
  elem : Elem
  deriving DecidableEq, Repr

/-- A fleet frame built and not yet released to the radio (R167, R176): its stroke stands in the frame; part 0 to 3, or 4 for
a unicast frame. -/
structure BuiltFrame where
  chan : Nat
  part : Nat
  /-- robot of a unicast frame -/
  robot : Option Nat
  frame : FleetFrame
  mcs : Nat
  deriving DecidableEq, Repr

/-- An IPv6 packet in reassembly from a robot (R176). -/
structure FleetReasm where
  robot : Nat
  pktId : Nat
  frags : List (Nat × List Byte)
  lastIdx : Option Nat
  firstSf : Nat
  deriving DecidableEq, Repr

/-- An IPv6 packet queued for a robot: what remains of it, its PKT_ID and the next fragment index. -/
structure FleetData where
  robot : Nat
  pktId : Nat
  frag : Nat
  bytes : List Byte
  deriving DecidableEq, Repr

/-- An ALLOT notice carried in several consecutive superframes (R221). -/
structure Notice where
  robot : Nat
  body : List Byte
  left : Nat
  deriving DecidableEq, Repr

/-- An element delivered to another engine (R171): TYPE, sender, arrival SN, frame SEQ, body. -/
structure FleetIn where
  typ : Nat
  robot : Nat
  arrival : Nat
  seq : Nat
  body : List Byte
  deriving DecidableEq, Repr

/-- The element an allotment job stands for. -/
def FleetIn.isElem (f : FleetIn) (typ robot arrival seq : Nat) : Bool :=
  f.typ == typ && f.robot == robot && f.arrival == arrival && f.seq == seq

/-- FLEET state outside its registers. -/
structure Fleet where
  robots : Tab Robot := []
  bcn : List BcnElem := []
  /-- STOP and CLEAR elements of the superframe being built that have not found room, with their channel -/
  stopq : List (Nat × Elem) := []
  /-- superframe whose parts last carried the ALL STOP element, per fleet channel -/
  waveSf : Tab Nat := []
  built : List BuiltFrame := []
  notices : List Notice := []
  /-- elements delivered and not yet taken by their engine -/
  inbox : List FleetIn := []
  reasm : List FleetReasm := []
  data : List FleetData := []
  nextPkt : Nat := 0
  /-- robot served last by unicast, per fleet channel (R176) -/
  served : Tab Nat := []
  /-- superframe of the last BEACON_DEFER -/
  deferSf : Option Nat := none
  /-- highest epoch reported by EPOCH_AHEAD (R170) -/
  epochSeen : Nat := 0
  deriving DecidableEq, Repr

/-- A ROBOT stop in force (R237, R247). -/
structure RobotStop where
  robot : Nat
  cause : Nat
  /-- qualification instant -/
  sn : Nat
  ns : Nat
  /-- frames sent for it in its frame phase -/
  sent : Nat := 0
  deriving DecidableEq, Repr

/-- CLEAR elements to be sent (R251): robot none for ALL; CLEAR_SN; part 0s left, from superframe `firstSf`. -/
structure ClearElem where
  robot : Option Nat
  clearSn : Nat
  firstSf : Nat
  deriving DecidableEq, Repr

/-- What a stop window will carry on a fleet channel, decided at the stop cut (R243). -/
structure CutFrame where
  chan : Nat
  sn : Nat
  robot : Option Nat
  frame : FleetFrame
  deriving DecidableEq, Repr

/-- STOP state outside its registers. -/
structure Stop where
  /-- input levels as qualified: SN since which each stands at run level; none while at stop level or not yet qualified -/
  runA : Option Nat := none
  runB : Option Nat := none
  /-- SN since which the qualified levels differ (R239) -/
  diffSn : Option Nat := none
  /-- INPUT_DISCREPANCY: both channels have since been qualified at stop level together (R239) -/
  bothStop : Bool := false
  /-- output under test: 0 A, 1 B (R241) -/
  testing : Option Nat := none
  /-- STOP_ACT is driven high (R241) -/
  act : Bool := false
  /-- qualification instant of the wave's last cause; counts as before the first edge when `preEdge` -/
  waveSn : Nat := 0
  waveNs : Nat := 0
  wavePre : Bool := false
  /-- SN of the first frame of the frame phase in force -/
  phaseSn : Option Nat := none
  robots : List RobotStop := []
  clears : List ClearElem := []
  /-- clears fetched, to take effect at the next edge: the descriptor, its robot (none for ALL), the SN of the fetch (R251) -/
  clearing : List (Desc × Option Nat × Nat) := []
  cut : List CutFrame := []
  /-- fleet channels that have sent the first frame since the last ALL cause -/
  firstSent : List Nat := []
  /-- pair-fault kinds whose condition holds (R251, R372) -/
  pairKinds : List Nat := []
  /-- host stops a standby holds pending until they appear in the log (R252): robot none for ALL -/
  hostPending : List (Option Nat) := []
  deriving DecidableEq, Repr

end Sys2Proof.Machine
end

