-- ==== Sys2Proof/Types/Mesh.lean ====
section
/-! DEFINITION. Plain data of the mesh (R258–R310): the node register, clusters, the neighbour cache, cells, queued frames, the
update pump. -/

namespace Sys2Proof.Machine

/-- A node register entry (R284). Fields after `updMissing` stand in its device bytes. -/
structure Node where
  eui : Nat
  /-- STATE [1:0]: 1 commissioned, 2 joined, 3 departed -/
  st : Nat := 1
  legacy : Bool
  sleepy : Bool
  schedOk : Bool := false
  rekeyPending : Bool := false
  renewMark : Bool := false
  cluster : Nat
  depth : Nat := 0
  upCells : Nat
  /-- PARENT: none for the device -/
  parent : Option Nat := none
  rxCtr : Nat := 0
  txCtr : Nat := 0
  lastDsn : Nat := 0
  keyGen : Nat
  keyNext : Nat := 0
  ckeyGen : Nat := 0
  schedVer : Nat := 0
  upOfs : Nat := 0
  upChoff : Nat := 0
  dnChoff : Nat := 0
  dnOfs : Nat := 0
  daoSeq : Nat := 0
  desc : Nat := 0
  pathExpiry : Nat := 0
  lastHeard : Nat := 0
  fwVersion : Nat := 0
  hwClass : Nat := 0
  valuesSn : Nat := 0
  values : List Nat := []
  updState : Nat := 0
  updCampaign : Nat := 0
  updMissing : Nat := 0
  /-- site slots recorded for KEY_GEN and KEY_GEN_NEXT (R386) -/
  keySlot : Nat := 0
  keyNextSlot : Nat := 0
  /-- rx_valid, dsn_valid and TX_DSN written back with the counters (R278) -/
  rxValid : Bool := false
  dsnValid : Bool := false
  txDsn : Nat := 0
  /-- a DAO has been accepted since commissioning -/
  daoSeen : Bool := false
  /-- stale generations already recorded (R298) -/
  staleSeen : List Nat := []
  deriving DecidableEq, Repr

/-- Neighbour states (R267). -/
inductive NbrSync where
  | synced | drifted | lost
  deriving DecidableEq, Repr

/-- A neighbour cache entry (R277). -/
structure Nbr where
  node : Nat
  eui : Nat
  short : Nat := 0xFFFF
  chan : Nat
  sync : NbrSync := .synced
  legacy : Bool
  sleepy : Bool
  rxValid : Bool
  dsnValid : Bool
  /-- bit of the pending table (R274) -/
  pending : Bool := false
  rxCtr : Nat
  txCtr : Nat
  lastDsn : Nat
  txDsn : Nat
  keyGen : Nat
  lastSync : Nat := 0
  ofs : Int := 0
  lastHeard : Nat := 0
  rssi : Nat := 0
  etx : Nat := 0
  txOk : Nat := 0
  txFail : Nat := 0
  rxOk : Nat := 0
  rxDup : Nat := 0
  rxReplay : Nat := 0
  /-- changed since the last write-back (R278) -/
  changed : Bool := true
  /-- SN of the last REPLAY_SEEN -/
  replaySn : Option Nat := none
  deriving DecidableEq, Repr

/-- A cluster (R286). -/
structure Cluster where
  enabled : Bool
  seq : Nat
  pan : Nat
  keyGen : Nat
  keySlot : Nat
  /-- generation introduced, its slot and SWITCH_ASN (R297) -/
  keyNext : Option (Nat × Nat × Nat) := none
  /-- the generation in force came by a renewal, with its SWITCH_ASN -/
  renewed : Option Nat := none
  /-- DODAG version (R287) -/
  version : Nat := 240
  /-- outgoing frame counter and DSN of Enhanced Beacons and broadcasts (R271) -/
  txCtr : Nat := 0
  txDsn : Nat := 0
  /-- Trickle doublings made, and a DIO due (R287, R295) -/
  doublings : Nat := 0
  dioDue : Bool := false
  /-- SN at which the Trickle interval began -/
  dioFrom : Nat := 0
  deriving DecidableEq, Repr

/-- What a mesh cell is for (R292). -/
inductive CellUse where
  | shared
  | update
  /-- downlink column of a depth-1 node -/
  | down (node : Nat)
  /-- root-receive cell of a node's uplink chain -/
  | up (node : Nat)
  deriving DecidableEq, Repr

/-- A cell that the MAC executes (R260, R263). -/
structure MeshCell where
  seq : Nat
  choff : Nat
  chan : Nat
  asn : Nat
  span : Nat
  use : CellUse
  /-- the device has sent in it -/
  sent : Bool := false
  deriving DecidableEq, Repr

/-- What a frame carries. The encodings of IEEE 802.15.4, RFC 6282 and RFC 6550 stand outside the spec. -/
inductive MeshBody where
  /-- a DIO of the cluster's DODAG -/
  | dio (version : Nat)
  | daoAck (seq status : Nat)
  /-- a management or update message (R291, R302) -/
  | message (bytes : List Byte)
  /-- an IPv6 packet -/
  | packet (bytes : List Byte)
  | empty
  deriving DecidableEq, Repr

/-- A unicast frame queued for a neighbour (R266). -/
structure MeshQ where
  id : Nat
  /-- next hop: the depth-1 ancestor, or the node itself -/
  hop : Nat
  /-- destination, and the path from the next hop to it (R289) -/
  dst : Nat
  path : List Nat
  body : MeshBody
  /-- attempts made, and the frame counter and DSN of the first -/
  attempts : Nat := 0
  secured : Option (Nat × Nat) := none
  /-- sent and waiting for its acknowledgement -/
  waiting : Bool := false
  /-- backoffs made for this attempt (R276) -/
  nb : Nat := 0
  queuedSn : Nat
  /-- waits in an indirect queue for its node's poll (R275) -/
  indirect : Bool := false
  /-- fragments of the datagram already acknowledged -/
  sentFrags : Nat := 0
  /-- fragments remain behind the frame sent -/
  more : Bool := false
  deriving DecidableEq, Repr

/-- What a received frame carries, as the network layer reads it. -/
inductive MeshUp where
  /-- DAO: sequence, Path Lifetime, EUI of the parent (none: the device) -/
  | dao (seq lifetime : Nat) (parent : Option Nat)
  | dis
  /-- UDP message to ::1 -/
  | message (port : Nat) (bytes : List Byte)
  /-- FRAG1 or FRAGN: tag, datagram size, offset -/
  | fragment (tag size offset : Nat) (bytes : List Byte)
  /-- an IPv6 packet for elsewhere, decapsulated -/
  | packet (bytes : List Byte)
  | dataRequest
  /-- a packet with an option the device does not support (R290) -/
  | unsupported
  | empty
  deriving DecidableEq, Repr

/-- A frame as the lane and the CCM check read it (R269, R270): sender, originator, key generation, frame counter, DSN,
whether it asks for an acknowledgement, the MIC's outcome, its duration in ns. -/
structure MeshIn where
  src : Nat
  origin : Nat
  short : Nat
  gen : Nat
  ctr : Nat
  dsn : Nat
  ar : Bool
  micOk : Bool
  durNs : Nat
  body : MeshUp
  deriving DecidableEq, Repr

/-- An address of an IEEE 802.15.4 frame of version 0 or 1 (R273). -/
inductive MacAddr where
  | none
  | short (a : Nat)
  | eui (a : Nat)
  deriving DecidableEq, Repr

/-- MAC header of a legacy frame (R273, R274): frame version, acknowledgement request, DSN, PAN IDs, addresses, Data Request. -/
structure LegacyHdr where
  version : Nat
  ar : Bool
  dsn : Nat
  dstPan : Nat
  srcPan : Nat
  dst : MacAddr
  src : MacAddr
  dataRequest : Bool
  deriving DecidableEq, Repr

/-- An acknowledgement received for the frame `id` (R266): outcome of its check, its offset from the nominal instant in µs,
NACK bit. -/
structure MeshAckIn where
  id : Nat
  valid : Bool
  ofs : Int
  nack : Bool
  deriving DecidableEq, Repr

/-- An Enh-Ack built and not yet released (R264). -/
structure MeshAck where
  chan : Nat
  node : Nat
  /-- launch instant and latest end, in ns since SN 0 -/
  launch : Nat
  latest : Nat
  glr : Nat
  dsn : Nat
  ctr : Nat
  gen : Nat
  correction : Int
  nack : Bool
  /-- stroke whose outputs it belongs to (R362) -/
  sn : Nat
  deriving DecidableEq, Repr

/-- An item delivered to the network layer (R280): originator, neighbour, mesh channel, arrival SN. -/
structure MeshItem where
  node : Nat
  via : Nat
  chan : Nat
  arrival : Nat
  body : MeshUp
  deriving DecidableEq, Repr

/-- A 6LoWPAN reassembly (R290). -/
structure MeshReasm where
  node : Nat
  tag : Nat
  size : Nat
  frags : List (Nat × List Byte)
  firstSn : Nat
  deriving DecidableEq, Repr

/-- An image held (R300). -/
structure Image where
  id : Nat
  hwClass : Nat
  fwVersion : Nat
  blk : Nat
  nblk : Nat
  header : List Byte
  body : List Byte
  deriving DecidableEq, Repr

/-- A cluster of a campaign (R303). -/
structure CampCluster where
  cluster : Nat
  round : Nat := 0
  /-- symbols of the round still to send -/
  left : Nat
  /-- header messages of a pair still to send: 2, 1, 0 -/
  hdr : Nat := 2
  /-- the pair in progress stands in place of a message or in the report gap -/
  nextEsi : Nat := 0
  /-- messages sent -/
  msgs : Nat := 0
  /-- ASN at which the report gap began -/
  gap : Option Nat := none
  ended : Bool := false
  deriving DecidableEq, Repr

/-- A campaign (R303). -/
structure Campaign where
  id : Nat
  image : Nat
  maxRounds : Nat
  factor : Nat
  minimum : Nat
  clusters : List CampCluster
  targets : List Nat
  running : Bool := true
  deriving DecidableEq, Repr

/-- MESH state outside its registers. -/
structure Mesh where
  /-- open values drawn (the model's own field), and mesh channels whose receive channel had a frame in reception as the timeslot
  began: an input of the log (R12, R358) -/
  draws : Nat := 0
  busy : List Nat := []
  nodes : Tab Node := []
  clusters : Tab Cluster := []
  /-- neighbour cache by cache index -/
  nbrs : Tab Nbr := []
  cells : List MeshCell := []
  queue : List MeshQ := []
  nextId : Nat := 1
  acks : List MeshAck := []
  /-- transmit results not yet processed: frame, result, stroke (R280) -/
  results : List (Nat × TxResult × Nat) := []
  /-- packets of the forwarding engine for the mesh, with their cluster (R346) -/
  toMesh : List (Nat × List Byte) := []
  /-- frames delivered to the network layer and not yet taken -/
  inbox : List MeshItem := []
  reasm : List MeshReasm := []
  /-- cluster whose Enhanced Beacon, and whose update message, was sent last per hopping sequence (R295, R302) -/
  ebLast : Tab Nat := []
  updLast : Tab Nat := []
  images : List Image := []
  campaigns : List Campaign := []
  /-- ACK_LATE and REASM_FULL: SN of the last record, cases since -/
  lateSn : Option Nat := none
  lateCount : Nat := 0
  reasmSn : Option Nat := none
  reasmCount : Nat := 0
  deriving DecidableEq, Repr

end Sys2Proof.Machine
end

