-- ==== Sys2Proof/Types/Allot.lean ====
section
/-! DEFINITION. Plain data of track allotment (R211–R236). -/

namespace Sys2Proof.Machine

/-- A segment of the roadmap (R211). -/
structure Seg where
  jFrom : Nat
  jTo : Nat
  zone : Nat
  halfwidth : Nat
  headway : Nat
  rule : Nat
  closed : Bool
  verts : List (Int × Int)
  deriving DecidableEq, Repr

/-- The roadmap: label, CRC, zones (capacity, closed), junction clearances, segments (R211). -/
structure Roadmap where
  id : Nat
  crc : Nat
  zones : List (Nat × Bool)
  juncs : List Nat
  segs : List Seg
  deriving DecidableEq, Repr

/-- A chain item (R215): window [en, ex); a hold has EX 2^64 − 1; `due` counts for an overdue item (R224). -/
structure Item where
  pos : Nat
  seg : Nat
  dir : Nat
  en : Nat
  ex : Nat
  hold : Bool := false
  overdue : Bool := false
  due : Nat := 0
  deriving DecidableEq, Repr

/-- A robot as the allotment engine keeps it (R215–R230). -/
structure AltRobot where
  chain : List Item := []
  nextPos : Nat := 0
  replyNo : Nat := 0
  lease : Nat := 0
  fixpos : Nat := 0
  lastT : Option Nat := none
  /-- last checked fix: E, N, PL_H (0 when none) -/
  prev : Option (Int × Int × Nat) := none
  stopped : Bool := false
  refusedSf : Option Nat := none
  /-- arrival SN and SEQ of the frame whose CLAIM was taken last (R216) -/
  claimOf : Option (Nat × Nat) := none
  deriving DecidableEq, Repr

/-- ALLOT state outside its registers. -/
structure Allot where
  roadmap : Option Roadmap := none
  robots : Tab AltRobot := []
  deriving DecidableEq, Repr

end Sys2Proof.Machine
end

