-- ==== Sys2Proof/Types/Keys.lean ====
section
/-! DEFINITION. Plain data of the key engine (R382–R403): the key schedule (R387), the site slots (R389), the key cache
(R390). -/

namespace Sys2Proof.Machine

/-- One of the branches FLEET, STOP and LOG of the key schedule (R386, R387, R393). -/
structure KeyBranch where
  /-- generation in force, 0 before any site slot is loaded, and the slot it descends from (0 A, 1 B) -/
  gen : Nat := 0
  slot : Nat := 0
  /-- generation introduced as next, its slot, and its switch point: a superframe (FLEET, STOP) or an SN (LOG) -/
  next : Option (Nat × Nat × Nat) := none
  /-- previous generation, its slot and the SN of the last switch -/
  prev : Option (Nat × Nat × Nat) := none
  /-- every generation introduced, with its slot -/
  introduced : List (Nat × Nat) := []
  deriving DecidableEq, Repr

/-- A dead key (R394): key code 5 MESH_NODE, 6 MESH_CLUSTER, 7 FLEET, 9 STOP, 10 LOG; index; generation; slot. -/
structure DeadKey where
  code : Nat
  index : Nat
  gen : Nat
  slot : Nat
  deriving DecidableEq, Repr

/-- A key as two shares whose XOR is the key: the key under a mask, and the mask (R390–R392). -/
structure Masked where
  masked : List Byte
  mask : List Byte
  deriving DecidableEq, Repr

/-- The class S store of 64 entries (R392): the physical address of each logical one, and what stands at each physical address. -/
structure ClassS where
  places : List Nat := List.range 64
  cells : List (Nat × Masked) := []
  deriving DecidableEq, Repr

/-- KEYS state outside its registers. -/
structure Keys where
  fleet : KeyBranch := {}
  stop : KeyBranch := {}
  log : KeyBranch := {}
  dead : List DeadKey := []
  /-- slots retired (R394) -/
  retired : List Nat := []
  /-- a key schedule stands: from the first import after a reset, or loaded by priming (R386) -/
  scheduled : Bool := false
  /-- the class S store (R392), the site secrets of slots A and B in it (R389) -/
  store : ClassS := {}
  /-- MESH_NODE handles cached, most recently used first (R390); the pinned keys are always cached -/
  cache : List Nat := []
  /-- the entries in use: number of the entry, handle, and the two shares of its key (R390, R391) -/
  shares : List (Nat × Nat × Masked) := []
  /-- SN at which the re-mask lap in progress began (R391) -/
  lapStart : Option Nat := none
  /-- sources detected while no key engine runs act later (R400); responses latched by a detection, in AON: a lock, a zeroise -/
  owed : List Nat := []
  lockOn : Bool := false
  zeroOn : Bool := false
  deriving DecidableEq, Repr

end Sys2Proof.Machine
end

