-- ==== Sys2Proof/Types/Pair.lean ====
section
/-! DEFINITION. Plain data of pair operation (R356–R381): mate-link frames (R360), lease tokens (R366), the input log (R358),
digests (R365), snapshots (R377). -/

namespace Sys2Proof.Machine

/-- An input of a stroke as the log carries it (R37, R358). -/
inductive LogEntry where
  /-- a ring descriptor with its class, priority and stamp -/
  | desc (d : Desc) (cls prio batch seq : Nat)
  /-- a received radio frame with its metadata -/
  | frame (f : RxFrame) (cls batch seq : Nat)
  /-- a base measurement set -/
  | set (b : BaseSet)
  /-- an ephemeris with the epoch of the first set that uses it (R186) -/
  | eph (e : Eph) (epoch : Nat)
  /-- a transmit result -/
  | tx (o : TxOwner) (r : TxResult)
  /-- a stop qualified at the primary: robot none for ALL, cause -/
  | stop (robot : Option Nat) (cause : Nat)
  /-- a clear that took effect at the primary -/
  | clear (robot : Option Nat)
  /-- a value of another source block: its capability and bytes -/
  | value (cap : Nat) (bytes : List Byte)
  deriving DecidableEq, Repr

/-- Header of a mate-link frame (R360), and the generation of LOG under whose key its MIC verifies: none where it verifies under no
key of the LOG branch. -/
structure MateHdr where
  unit : Nat
  frag : Nat
  epoch : Nat
  sn : Nat
  mic : Option Nat := some 1
  deriving DecidableEq, Repr

/-- Body of LOG_END (R360): frames and bytes of the stroke's log, committed prefix lengths, abandoned descriptors (ring,
index), the primary's output digest of the stroke before, a handover announced (H), the final mark (R373), and the two TB0
timestamps of R89 in ns: when it was sent, when its sender received the last ACK. -/
structure LogEnd where
  count : Nat
  bytes : Nat
  prefixLen : List Nat
  abandoned : List (Nat × Nat)
  digest : List Byte
  handover : Option Nat
  final : Bool
  sentAt : Int
  gotAt : Int
  deriving DecidableEq, Repr

/-- Body of ACK (R360): result of the last comparison (0 equal, 1 incomplete, 2 different), CLEAN, handover request, and the
two timestamps of R89. -/
structure MateAck where
  result : Nat
  clean : Bool
  request : Bool
  sentAt : Int
  gotAt : Int
  deriving DecidableEq, Repr

/-- How a forwarded descriptor ended (R378). -/
structure MateResult where
  id : Nat
  status : Nat
  resultLen : Nat
  result : Nat
  bytes : List Byte
  deriving DecidableEq, Repr

/-- The replicated state as copied at the close of a stroke (R377). -/
structure Snapshot where
  sn : Nat
  flt : Fleet
  bsl : Baseline
  alt : Allot
  msh : Mesh
  wave : Bool
  causes : Nat
  robots : List RobotStop
  clears : List ClearElem
  jobs : List Job
  posted : List Posted
  keyFleet : KeyBranch
  keyStop : KeyBranch
  keyLog : KeyBranch
  dead : List DeadKey
  retired : List Nat
  /-- registers of the replicated blocks -/
  regs : Tab Word
  deriving DecidableEq, Repr

/-- Body of a mate-link frame by its TYPE (R360). -/
inductive MateBody where
  | log (entries : List LogEntry)
  | logEnd (e : LogEnd)
  | ack (a : MateAck)
  | forward (id : Nat) (d : Desc)
  | result (r : MateResult)
  | snapshot (last : Bool) (data : Option Snapshot)
  | primeReq (digest : List Byte)
  | nak (frags : List Nat)
  deriving DecidableEq, Repr

/-- A lease token as read (R366). -/
structure Token where
  unit : Nat
  pref : Bool
  auth : Bool
  solo : Bool
  halt : Bool
  clean : Bool
  state : Nat
  role : Nat
  epoch : Nat
  sn : Nat
  lease : Nat
  stopDigest : Nat
  deriving DecidableEq, Repr

/-- The log of one stroke at the unit that shadows it: its LOG frames by FRAG, and its LOG_END. -/
structure StrokeLog where
  sn : Nat
  frags : List (Nat × List LogEntry) := []
  fin : Option LogEnd := none
  /-- number of its LOG frames, as its LOG_END gives it -/
  frames : Nat := 0
  /-- a NAK was sent in this stroke -/
  naked : Option Nat := none
  /-- its ACK was sent -/
  acked : Bool := false
  deriving DecidableEq, Repr

/-- PAIR state outside its registers. -/
structure Pair where
  /-- the last valid token, the stroke and the 250 µs period it came in -/
  token : Option Token := none
  tokSn : Nat := 0
  tokPeriod : Nat := 0
  /-- a valid token has come in the current stroke, and in each of the last 4 -/
  tokNow : Bool := false
  tokLast : List Bool := [false, false, false, false]
  /-- stroke of the last valid mate-link frame -/
  frameSn : Option Nat := none
  /-- highest epoch seen in tokens and mate frames (R367) -/
  known : Nat := 0
  /-- epochs seen with AUTH since the last edge; stroke of the last AUTH token -/
  authHeard : List Nat := []
  authTokSn : Option Nat := none
  /-- a token of release (R368) has come since the last edge -/
  released : Bool := false
  /-- the unit has seen authority since its reset (R372, R375) -/
  seenAuth : Bool := false
  /-- strokes without authority on either unit (R372); strokes of hearing a mate without authority (R375) -/
  noAuth : Nat := 0
  idleHeard : Nat := 0
  /-- the last LEASE grant received, as an SN; the LEASE this unit grants -/
  grant : Nat := 0
  given : Nat := 0
  /-- SN at which SOLO was entered -/
  soloSn : Nat := 0
  /-- the mate is STANDBY: commit-before-release is in force (R362) from the release of this stroke -/
  mateStandby : Option Nat := none
  ackMiss : Nat := 0
  logMiss : Nat := 0
  /-- causes of R357 that hold; cause 4 has been recorded -/
  mism : List Nat := []
  prefSaid : Bool := false
  /-- consecutive strokes with a failed MIC and the last of them (R357) -/
  micRun : Nat := 0
  micSn : Nat := 0
  /-- consecutive strokes with a different STOP_DIGEST (R372) -/
  stopDiff : Nat := 0
  /-- logs received and not yet executed; the last stroke executed -/
  logs : List StrokeLog := []
  done : Nat := 0
  /-- inputs to log at the next stamp point, LOG frames sent: stroke, FRAG, entries; bytes logged in the current stroke -/
  inputs : List LogEntry := []
  sent : List (Nat × Nat × List LogEntry) := []
  logBytes : Nat := 0
  /-- descriptors abandoned or aborted since the last LOG_END (R42, R62) -/
  abandoned : List (Nat × Nat) := []
  /-- strokes whose outputs are held, and strokes acknowledged (R362) -/
  held : List Nat := []
  acked : List Nat := []
  /-- own digests by SN, none for incomplete; digests of the mate (R364, R365) -/
  digests : List (Nat × Option (List Byte)) := []
  mateDigests : List (Nat × List Byte) := []
  /-- committed prefix lengths logged for strokes executed (R40) -/
  prefixes : List (Nat × List Nat) := []
  lastResult : Nat := 0
  incRun : Nat := 0
  /-- the unit leaves STANDBY at the next edge (R361, R365) -/
  leaveNext : Bool := false
  /-- handover requested by this standby; announced H; the LOG_END of H is in; PAI_HANDOVER descriptors waiting (R373) -/
  handReq : Bool := false
  hand : Option Nat := none
  handFinal : Bool := false
  /-- authority has moved by the handover announced -/
  handDone : Bool := false
  handDescs : List Desc := []
  /-- PAI_DETACH is in force (R379) -/
  detached : Bool := false
  /-- priming at the returning unit: SN of the request; next SNAPSHOT FRAG; the snapshot is loaded; what fails it (R377) -/
  primeSn : Option Nat := none
  snapNext : Nat := 0
  loaded : Bool := false
  primeFail : Option Nat := none
  /-- least backlog seen and its SN (R377 cause 3) -/
  backlog : Nat := 0
  backlogSn : Nat := 0
  /-- snapshot stroke at the primary, while the copy is to be taken; stroke of the last snapshot given -/
  snapAt : Option Nat := none
  snapGiven : Option Nat := none
  /-- PAI_ASSUME waiting for the first stroke edge -/
  assume : List Desc := []
  /-- SN at which this unit last assumed authority -/
  authSn : Nat := 0
  /-- TB0 at which the last ACK came in (R89) -/
  ackAt : Int := 0
  /-- the last LOG_END: when it was sent and received (R89) -/
  lastEnd : Option (Int × Int) := none
  /-- when the ACK that answers it was sent; when this unit's last LOG_END was, with its stroke (R89) -/
  ackSent : Option Int := none
  endSent : Option (Nat × Int) := none
  deriving DecidableEq, Repr

end Sys2Proof.Machine
end

