-- ==== Sys2Proof/Types/Well.lean ====
section
/-! DEFINITION. Plain data of the Wellhouse and its gateway (R404–R432). -/

namespace Sys2Proof.Machine

/-- What the load cells of a moment give (R407, R411): the averaged ratio of each channel 0 to 7 in nV/V and its sense voltage in
µV; the spread of the instrument's weight over its stability window, in d. -/
structure WlIn where
  ratios : List Int
  sense : List Nat
  spread : Nat
  deriving DecidableEq, Repr

/-- States of a totalising cycle (R413, R414). -/
inductive Cycle where
  | empty | settleG | emptying | settleE | halted
  deriving DecidableEq, Repr

/-- A request frame (R419, R422): CODE, REQ_ID, REQ_TAG, instrument or input, argument bytes 40–47 of the descriptor, the longer
body. -/
structure WhReq where
  code : Nat
  id : Nat
  tag : Nat
  instr : Nat
  args : List Byte
  body : List Byte
  deriving DecidableEq, Repr

/-- A RESPONSE frame (R419): REQ_ID, status, response bytes. -/
structure WhResp where
  id : Nat
  code : Nat
  status : Nat
  bytes : List Byte
  deriving DecidableEq, Repr

/-- An instrument (R410–R414). -/
structure Instrument where
  /-- the zero set by zero-setting and tracking, in 1/16 d -/
  z16 : Int := 0
  /-- tare in d, and whether it was preset -/
  tare : Option (Int × Bool) := none
  /-- ERROR by its parameters -/
  bad : Bool := false
  /-- error code of its last ERROR record -/
  err : Nat := 0
  cyc : Cycle := .empty
  /-- WH_MS at which the cycle state was entered -/
  since : Nat := 0
  gross : Option Int := none
  /-- REQ_TAG of the request that moved the cycle last -/
  tag : Nat := 0
  cycle : Nat := 0
  /-- TOTAL, in NV -/
  total : Nat := 0
  /-- a WEIGH that waits for stability, and when it came -/
  weigh : Option (WhReq × Nat) := none
  deriving DecidableEq, Repr

/-- An instrument's group in a PROCESS frame (R419, R423): weight, rate, state byte, FLAGS; arrival SN. -/
structure ProcValue where
  weight : Nat
  rate : Nat
  state : Nat
  flags : Nat
  sn : Nat
  deriving DecidableEq, Repr

/-- What the display shows (R427): every pixel lit, the identification, or a band for each instrument in use. -/
structure Band where
  instr : Nat
  /-- none: out of range, blanked -/
  weight : Option Int
  unit : Nat
  maxD : Nat
  minD : Nat
  eD : Nat
  stable : Bool
  zero : Bool
  net : Bool
  preset : Bool
  /-- error code, in ERROR -/
  error : Option Nat
  deriving DecidableEq, Repr

inductive Screen where
  | lit
  | ident (version checksum : Nat)
  | bands (bs : List Band) (sealed : Nat) (dieError : Option Nat)
  deriving DecidableEq, Repr

/-- The Wellhouse die (R404–R428). -/
structure Well where
  /-- powered and out of reset -/
  up : Bool := false
  /-- die state: 0 starting, 1 ready, 2 ERROR -/
  die : Nat := 0
  /-- error code of the die's ERROR -/
  err : Nat := 0
  serial : Nat := 0
  /-- sealed parameters by PARAM_ID, over 0 -/
  params : Tab Nat := []
  instr : List Instrument := [{}, {}, {}, {}]
  /-- channels in fault (R409) -/
  badCh : List Nat := []
  /-- seal: 0 closed, 1 open, 2 fault -/
  sealed : Nat := 0
  keys : List (List Byte) := []
  /-- audit trail, entries of 64 bytes -/
  audit : List (List Byte) := []
  eventCtr : Nat := 0
  bootCount : Nat := 0
  /-- record store: SEQ and 128 bytes of the last 4,096 records -/
  store : List (Nat × List Byte) := []
  nextSeq : Nat := 0
  /-- lowest undelivered SEQ, next SEQ to send, credit held (R420) -/
  lowest : Nat := 0
  sendSeq : Nat := 0
  credit : Nat := 0
  /-- R421 is in force -/
  backlog : Bool := false
  pulses : List Nat := [0, 0, 0, 0]
  /-- milliseconds since the last reset (WH_MS) -/
  ms : Nat := 0
  /-- WH_MS until which SHOW_ID shows the identification -/
  showUntil : Nat := 0
  /-- request frames on the link, oldest first; responses to send; a HELLO is to be sent at once -/
  reqs : List WhReq := []
  resps : List WhResp := []
  helloNow : Bool := false
  deriving DecidableEq, Repr

/-- The gateway (R420, R430). -/
structure Wellgate where
  /-- next SEQ expected; none until the first HELLO after a reset -/
  expect : Option Nat := none
  /-- records held: SEQ, bytes, arrival SN, Cistern frame; `false` once delivered to a buffer and awaiting its completion -/
  held : List (Nat × List Byte × Nat × Nat × Bool) := []
  nextId : Nat := 0
  /-- requests unanswered: REQ_ID, the descriptor and the SN it was sent in -/
  reqs : List (Nat × Desc × Nat) := []
  /-- CREDIT, DELIVERED and RESEND frames on the link: CODE and value -/
  link : List (Nat × Nat) := []
  helloAt : Nat := 0
  crcFails : Nat := 0
  /-- state byte of each instrument in the last PROCESS frame -/
  states : List Nat := [0, 0, 0, 0]
  /-- PROCESS frames at their intake: number of the intake job at the port, Cistern frame, values -/
  frames : List (Nat × Nat × List ProcValue) := []
  /-- the last value of each instrument at the loop units (R423) -/
  proc : List (Option ProcValue) := [none, none, none, none]
  deriving DecidableEq, Repr

end Sys2Proof.Machine
end

