-- ==== Sys2Proof/Syntax.lean ====
section
/-! DEFINITION. The commands of the block: one constructor per row of spec/opcode_table.json, in the table's order.
Ring commands carry the descriptor the device fetched (R61); the other rows carry what the event brings from outside. -/

namespace Sys2Proof

open Machine

/-- A command of the block (spec/opcode_table.json). -/
inductive Instr where
  /-- POWER_UP (R492): Main supplies, with or without the AON supply, come into range, and the device starts a cold or main-power reset. -/
  | powerUp (vbat : Bool)
  /-- RESET_N_LOW (R492): RESET_N is held low with supplies present, so the device enters RESET as a pin reset. -/
  | resetNLow
  /-- RESET_RELEASE (R489): RESET_N rises with TEST_MODE low; the straps are sampled and the device enters BOOT. -/
  | resetRelease (boot : Nat) (pairId pref test : Bool)
  /-- BOOT (R487): The boot ROM verifies and loads an image bundle from flash copy 0 or copy 1, then enters SETUP or HALT. -/
  | boot (train0 train1 : Bool) (dramMib : Nat) (sfdp : Option Nat) (bootMs aon : Nat) (ka : Option (List Byte))
  /-- DRAM_TRAINING_FAIL (R491): DRAM training fails after boot, and the device enters HALT with cause 5. -/
  | dramTrainingFail
  /-- SYS_ENGAGE (R490): Writing SYS_CTRL.ENGAGE = 1 in SETUP checks every capability's conditions, then either locks the RWL registers and enters ANCHORING or refuses. -/
  | sysEngage
  /-- RINGS_RELOCK (R55): SYS_CTRL.ENGAGE = 1 on an engaged device after a host-link reset locks the RINGS RWL registers again, or is refused. -/
  | ringsRelock
  /-- QUIET_REQUEST (R493): Setting or clearing SYS_CTRL.QUIET makes the device enter or leave QUIET at the next stroke edge. -/
  | quietRequest (on : Bool)
  /-- COMMANDED_RESET (R492): Writing 0xC77A_0001 to SYS_RESET_CMD performs a commanded reset. -/
  | commandedReset
  /-- DORMANT_COMMAND (R494): Writing 0xC77A_0002 to SYS_RESET_CMD drives the stop outputs low, writes the keep-alive data, stops the engines and enters DORMANT. -/
  | dormantCommand
  /-- MAIN_SUPPLY_LOSS (R494): The main supplies fall below range; the device enters DORMANT while VBAT holds the AON supply, or otherwise loses power (R527). -/
  | mainSupplyLoss
  /-- WAKE (R494): The main supplies return, or RESET_N has an edge in DORMANT, and the device wakes through a reset with the wake cause recorded. -/
  | wake (byMain : Bool)
  /-- THERMAL (R497): The junction temperature crosses SYS_THERM_LIMIT; THERM_ALERT_N changes and the crossing is recorded. -/
  | thermal (junction : Int)
  /-- SYS_FLASH (R495): Reads, erases or programs the boot flash as deadline work, with range checks and a read-back after programming. -/
  | sysFlash (d : Desc) (fail : Bool)
  /-- SYS_FUSE (R488): In SETUP, programs or revokes an owner hash slot, or raises the rollback level, and reads each change back. -/
  | sysFuse (d : Desc) (bad : Option Nat)
  /-- STROKE_EDGE (R30): At each stroke edge the SN increments, timers and block-periodic jobs become ready, inputs are sampled, local outputs are applied and the stop window opens. -/
  | strokeEdge (codes : List Int) (mags : List (List Nat)) (rf : List (List RfClk))
  /-- ANCHORED (R29): Once TB0 is valid and the epoch and floor conditions hold, the device issues its first stroke edge and leaves ANCHORING. -/
  | anchored (tai inst : Nat) (codes : List Int) (mags : List (List Nat)) (rf : List (List RfClk))
  /-- STAMP_POINT (R31): At each stamp point the jobs presented since the previous stamp point are stamped as a batch with seq numbers. -/
  | stampPoint (b : Nat)
  /-- TIMER_RELEASE (R32): A delayed descriptor's NOT_BEFORE stroke arrives, and it becomes ready in batch 0. -/
  | timerRelease (id : Nat)
  /-- RELEASE_POINT (R30): At the release offset the replicated outputs of SN-1 leave the device and the status page is written. -/
  | releasePoint
  /-- CLOSE_POINT (R30): At the close offset the stroke-bound work of the stroke ends and its outputs are sealed. -/
  | closePoint
  /-- STROKE_OVERRUN (R41): A stroke-bound job that has not committed by the close point ends in overrun, and its output keeps its previous value. -/
  | strokeOverrun (id : Nat)
  /-- DEADLINE_MISS (R42): A deadline job not finished by the close of its deadline SN is abandoned. -/
  | deadlineMiss (t : MissTarget)
  /-- SEAL_POINT (R30): Between the close point and the stroke's end the output digest of the stroke is formed. -/
  | sealPoint
  /-- JOB_COMMIT (R39): A job finishes on its executor and commits its effects in commit key order, and the executor takes the next job. -/
  | jobCommit (id ns : Nat) (how : JobEnd MemRead)
  /-- CORE_WATCHDOG (R20): A service core misses its watchdog for 4 strokes and the device enters HALT. -/
  | coreWatchdog (core : Nat) (missed : Bool)
  /-- DOORBELL_READ (R58): The doorbell page data arrives, and the producer and consumer indices are evaluated. -/
  | doorbellRead (fast late : Bool) (prods conss : List Nat)
  /-- DESCRIPTOR_FETCH (R65): Fetched descriptors are checked, with chain, fence and timer rules, and enter the dispatcher or complete at once. -/
  | descriptorFetch (ring : Nat) (raw : List (List Byte × List Byte))
  /-- HOST_DMA_ERROR (R526): A host memory access fails, and its descriptor ends with ABORTED cause 0x02, or the page read is replaced. -/
  | hostDmaError (desc : Option (Nat × Nat)) (how : DmaEnd) (addr : Nat)
  /-- BAR0_BAD_REQUEST (R50): A BAR0 request that is not an aligned single DWORD, or falls outside the capability blocks, completes as Unsupported Request. -/
  | bar0BadRequest (addr dwords : Nat) (whole : Bool)
  /-- REGISTER_WRITE (R9): A write to a register without a row of its own follows its access code. -/
  | registerWrite (addr : Nat) (value : Word) (ns : Nat)
  /-- RC_REGISTER_READ (R9): Reading an RC register returns it and clears it, or reloads a least-value register with the current value. -/
  | rcRegisterRead (addr : Nat) (read : Option MemRead)
  /-- SN_READ_LATCH (R47): Reading STK_SN_LO latches STK_SN_HI and STK_PHASE_NS. -/
  | snReadLatch (ns : Nat)
  /-- HOST_LINK_RESET (R51): PERST, a hot reset, a link-down or an FLR resets the PCIe function and RINGS, and discards pending completions. -/
  | hostLinkReset
  /-- RING_ENABLE (R62): Setting ENABLE of a ring sets its indices to 0 and starts service. -/
  | ringEnable (cq : Bool) (n : Nat) (v : Word)
  /-- RING_DISABLE (R62): Clearing ENABLE of a submission ring stops fetching and aborts its descriptors that are not yet ready. -/
  | ringDisable (cq : Bool) (n : Nat) (v : Word)
  /-- SQ_FAULT_CLEAR (R63): Writing 1 to an RNG_SQ_FAULT bit clears the fault, and the next read is evaluated afresh. -/
  | sqFaultClear (hi : Bool) (v : Word)
  /-- CQ_FAULT_CLEAR (R64): Writing 1 to an RNG_CQ_FAULT bit clears the fault, and the held entries are written. -/
  | cqFaultClear (hi : Bool) (v : Word)
  /-- NOP (R75): The NOP command completes with RESULT 0. -/
  | nop (d : Desc)
  /-- ECHO (R75): The ADMIN ECHO command returns operand bytes 32 to 39 as RESULT. -/
  | echo (d : Desc)
  /-- POST_BUFFER (R76): Posts a host buffer for unsolicited items of its class. -/
  | postBuffer (d : Desc)
  /-- FORWARD_TIMEOUT (R69): A forwarded descriptor gets no result within 400 strokes and completes with TIMEOUT. -/
  | forwardTimeout
  /-- TB0_HOLDOVER (R86): TB0 loses its source and enters holdover, with strokes continuing. -/
  | tb0Holdover
  /-- HOLDOVER_LIMIT (R86): TIM_HOLDOVER_S passes TIM_HOLDOVER_LIMIT and HOLDOVER_EXPIRED is set. -/
  | holdoverLimit
  /-- TB0_SOURCE_RETURN (R87): A source returns during holdover; its phase error is either slewed out or held as TB0_FAR. -/
  | tb0SourceReturn (src : Nat) (err : Int)
  /-- TB0_ACCEPT (R87): Writing TIM_TB0_CMD.ACCEPT ends holdover for a far source and slews out its error. -/
  | tb0Accept (value : Word)
  /-- PTP_SYNC (R91): A Sync measurement makes the TB1 servo slew, hold, count towards a step or step TB1. -/
  | ptpSync (atNs : Nat)
  /-- LAUNCH_TIME (R96): A frame with a launch time leaves when its port's time base reaches it, or is sent late or discarded. -/
  | launchTime (port cls atNs : Nat)
  /-- GATE_INTERVAL (R97): A gate control list interval ends and the next entry's gate states take effect. -/
  | gateInterval (port atNs : Nat)
  /-- GATE_LIST_CHANGE (R353): The configuration change time is reached and the administrative gate list becomes operational. -/
  | gateListChange (port atNs : Nat)
  /-- TB3_LOAD (R100): Writing TIM_TB3_CMD.LOAD steps TB3 to the written value. -/
  | tb3Load (value : Word) (atNs : Nat)
  /-- TB3_READ_LATCH (R100): Reading TIM_TB3_SEC_LO latches TB3. -/
  | tb3ReadLatch (atNs : Nat)
  /-- PPS_IN_EDGE (R98): A PPS_IN edge of the selected polarity is timestamped in TB0 and TB1. -/
  | ppsInEdge (tb0 : Nat)
  /-- PPS_OUT_PULSE (R98): The chosen base reaches a whole second and PPS_OUT rises for PPS_OUT_WIDTH. -/
  | ppsOutPulse
  /-- PORT_CLOCK_LOST (R102): GFn_CLK deviates by more than 1 ppm for 40 strokes and the GNSS port stops. -/
  | portClockLost (port : Nat) (devs : List Int)
  /-- GNSS_PORT_CLOCK_OK (R102): GFn_CLK stays within 1 ppm for 40 strokes and the port restarts. -/
  | gnssPortClockOk (port : Nat) (devs : List Int)
  /-- GNSS_SPI_TRANSFER (R104): Writing GO in GNS_SPI_CTRL shifts WBITS out and RBITS in on the front-end bus. -/
  | gnssSpiTransfer (value : Word)
  /-- CHANNEL_ASSIGN (R106): Every 4,000 strokes free tracking channels are assigned to visible signals. -/
  | channelAssign (sats : List SatView)
  /-- MEASUREMENT_EPOCH (R107): At an epoch stroke edge every channel latches its measurements. -/
  | measurementEpoch (meas : List Meas)
  /-- CONSISTENCY_CHECKS (R111): Service core 4 runs the six consistency checks and the time solution of an epoch. -/
  | consistencyChecks (sol : Solution)
  /-- EPHEMERIS_RECEIVED (R111): A new ephemeris is checked against the previous one and is accepted as an input or rejected. -/
  | ephemerisReceived (cst prn diffM : Nat) (data : List Byte) (alm : Option (List Byte)) (utc : Option Int) (leap : Option (Int × Nat))
  /-- SET_PRESENTED (R108): The measurement set of an epoch is presented at stamp point 0, with its time offer passed to TIME. -/
  | setPresented
  /-- EPOCH_MISSING (R108): The checks of an epoch are not complete by E+4, so the epoch is missing. -/
  | epochMissing
  /-- JAM_DETECTED (R113): Over 4,000 strokes both the C/N0 fall and the AGC rise hold, and the port is flagged as jamming. -/
  | jamDetected (port : Nat)
  /-- JAM_CLEARED (R113): Neither jamming condition holds for 4,000 strokes, and JAM clears. -/
  | jamCleared (port : Nat)
  /-- SURVEY_SLOW (R115): GNS_SURVEY_MAX_S passes before the survey ends. -/
  | surveySlow
  /-- SURVEY_RESTART (R115): GNS_CMD.SURVEY_RESTART discards the survey, clears BASE_FIXED and starts again. -/
  | surveyRestart
  /-- FORGET_KEEPALIVE (R122): GNS_CMD.FORGET_KEEPALIVE makes the next start a cold start. -/
  | forgetKeepalive
  /-- TIME_LOST (R117): 20 consecutive epochs make no time offer, so GNSS counts as lost. -/
  | timeLost
  /-- UTC_OFFSET_CHANGE (R119): TIM_UTC_OFFSET changes at the announced TAI second. -/
  | utcOffsetChange
  /-- KEEPALIVE_WRITE (R121): Every 240,000 strokes the keep-alive data is rewritten in AON. -/
  | keepaliveWrite
  /-- RF_CLOCK_LOST (R127): RFn_RXCLK deviates by more than 2 ppm for 40 strokes; the RF port stops receiving and transmitting. -/
  | rfClockLost (port : Nat) (devs : List Int)
  /-- RF_CLOCK_OK (R127): RFn_RXCLK stays within 2 ppm for 40 strokes and the port restarts. -/
  | rfClockOk (port : Nat) (devs : List Int)
  /-- PREAMBLE_DETECT (R134): A receive channel detects a preamble and a demodulator lane is assigned, or a miss is counted. -/
  | preambleDetect (port ch ns : Nat)
  /-- RADIO_FRAME_RECEIVED (R135): A demodulator lane finishes a frame and passes it with metadata to its MAC and Cistern admission. -/
  | radioFrameReceived (f : RxFrame) (air : RxAir) (ok : Bool) (fill : Nat)
  /-- TX_REQUEST (R151): A MAC hands the radio a frame with a launch time, and the radio schedules or refuses it. -/
  | txRequest (owner : TxOwner) (port ch sn ns mcs std atNs : Nat) (bytes : List Byte)
  /-- TX_LAUNCH (R129): At its launch time a transmission drives TRSW, PAEN and the ramp, sends the frame and ramps down. -/
  | txLaunch (id clips : Nat)
  /-- RF_SPI_TRANSFER (R131): Writing GO in RAD_SPI_CTRL_n runs a transfer on the port's transceiver bus. -/
  | rfSpiTransfer (port : Nat) (value : Word)
  /-- CAL_START (R155): RAD_CAL_CMD START in SETUP or QUIET begins loopback calibration of a port. -/
  | calStart (value : Word)
  /-- CAL_DONE (R155): Calibration ends and writes its corrections, reporting DONE, or FAIL below 40 dB image rejection. -/
  | calDone (rejection leak : Nat) (txCorr txDc rxCorr : Word)
  /-- BEACON_BUILD (R167): The fleet MAC packs a beacon part by the close of the stroke before it. -/
  | beaconBuild
  /-- UPLINK_ACCEPT (R170): A received uplink frame passes the acceptance steps and the SEQ rule, and its elements are delivered. -/
  | uplinkAccept (micOk : Bool)
  /-- ROBOT_SILENT (R182): A robot holding slots sends no accepted frame for FLT_SILENT_SF superframes. -/
  | robotSilent (robot : Nat)
  /-- DATA_REASSEMBLY_TIMEOUT (R176): An IPv6 packet incomplete 100 superframes after its first fragment is discarded. -/
  | dataReassemblyTimeout
  /-- FLT_ROBOT_ENROL (R181): Enrols or replaces a robot with its home channel, mode, crew and DL_MCS. -/
  | fltRobotEnrol (d : Desc)
  /-- FLT_ROBOT_SLOTS (R181): Sets a robot's uplink slot specs after checking them for clashes. -/
  | fltRobotSlots (d : Desc)
  /-- FLT_ROBOT_RETIRE (R181): Retires a robot, releasing its slots and turning its items into holds. -/
  | fltRobotRetire (d : Desc)
  /-- FLT_ROBOT_QUERY (R181): Returns a robot's fleet state. -/
  | fltRobotQuery (d : Desc)
  /-- CORRECTION_ENCODE (R187): For a correction epoch, service core 4 encodes the set into RTCM frames and CORR elements, or withholds them. -/
  | correctionEncode
  /-- RAWOBS_ACCEPT (R194): The Baseline engine checks a delivered RAWOBS and creates a solution job, or rejects it. -/
  | rawobsAccept
  /-- FIX_COMMIT (R203): A solution job finishes and commits a fix record to the allotment engine, the host and the robot. -/
  | fixCommit (robot : Nat) (sol : RoverSol)
  /-- BSL_ROVER_CFG (R208): Sets a central robot's filter options, or resets its filter and jobs. -/
  | bslRoverCfg (d : Desc)
  /-- BSL_ROVER_QUERY (R208): Returns a central robot's last fix and filter status. -/
  | bslRoverQuery (d : Desc)
  /-- BSL_SET_READ (R208): Returns a held base measurement set. -/
  | bslSetRead (d : Desc)
  /-- BSL_STATION_INFO (R208): Loads the station information record for message 1005 and related messages. -/
  | bslStationInfo (d : Desc)
  /-- ALT_ROADMAP_LOAD (R213): Validates a roadmap and replaces the roadmap in force as deadline work. -/
  | altRoadmapLoad (d : Desc)
  /-- ALT_CLAIM (R217): Checks a host claim against the conflict rules and grants or refuses it, writing the reply. -/
  | altClaim (d : Desc)
  /-- CLAIM_CHECK (R217): A robot's CLAIM element is checked at commit and granted or refused, and a reply is stored. -/
  | claimCheck
  /-- ALT_RELEASE (R233): Releases a robot's future items, or its whole chain and holds. -/
  | altRelease (d : Desc)
  /-- ALT_RESOURCE_STATE (R233): Opens or closes one segment or zone for new claim items. -/
  | altResourceState (d : Desc)
  /-- ALT_ROBOT_QUERY (R233): Returns a robot's chain, holds and lease. -/
  | altRobotQuery (d : Desc)
  /-- ALT_RESOURCE_QUERY (R233): Returns the reservations standing on a resource. -/
  | altResourceQuery (d : Desc)
  /-- FIX_CHECK (R227): A robot's fix is checked for conformance against its chain, renewing its lease or stopping it. -/
  | fixCheck
  /-- ALLOT_EDGE_JOB (R224): At every stroke edge the items that reached EX are released, marked overdue or held, and overdue or lease stops are raised. -/
  | allotEdgeJob
  /-- STOP_INPUT_QUALIFY (R238): STOP_A or STOP_B is qualified at a new level; at stop level an ALL stop is raised and the outputs go low. -/
  | stopInputQualify (b run : Bool) (heldUs ns : Nat)
  /-- INPUT_DISCREPANCY (R239): The two stop inputs differ for more than STP_DISCREP strokes, and DISCREP is latched. -/
  | inputDiscrepancy
  /-- OUT_FAULT (R240): A read-back or instance mismatch lasts over 10 µs; both outputs go low and an output fault wave is raised. -/
  | outFault (output : Nat) (commanded readback : Bool) (heldUs ns : Nat)
  /-- OUTPUT_TEST (R241): Every 40,000 strokes one stop output is driven low for 100 µs and its read-back is checked. -/
  | outputTest
  /-- OUTPUT_TEST_END (R241): 100 µs after the edge the tested output returns high. -/
  | outputTestEnd
  /-- STOP_CUT (R243): At 232 µs the stop chain decides what the next stop window carries and builds the frame. -/
  | stopCut
  /-- STOP_FRAME_TX (R247): A stop frame is sent in the stop window of a fleet channel. -/
  | stopFrameTx (chan : Nat)
  /-- FRAME_PHASE_END (R247): 400 strokes after the first frame, or after 400 ROBOT frames, the frame phase ends. -/
  | framePhaseEnd
  /-- STP_STOP (R255): A host raises an ALL or ROBOT stop, which qualifies at fetch. -/
  | stpStop (d : Desc)
  /-- STP_CLEAR (R251): A host asks to clear an ALL or ROBOT stop, and the request is checked against the clear conditions. -/
  | stpClear (d : Desc)
  /-- STOP_CLEARED (R251): A clear takes effect at the next stroke edge; CLEAR elements are sent and the allotment engine is told. -/
  | stopCleared
  /-- STP_QUERY (R255): Returns the stop status and the map of robots under stop. -/
  | stpQuery (d : Desc)
  /-- TIMESLOT (R263): At each timeslot start the mesh MAC resolves and executes its cells and updates neighbour states. -/
  | timeslot
  /-- MESH_FRAME_RX (R270): A TSCH frame passes security, duplicate and replay checks and is delivered and acknowledged, or dropped. -/
  | meshFrameRx (f : MeshIn)
  /-- MESH_TX (R262): The device transmits a mesh frame in a cell where it and its acknowledgement fit. -/
  | meshTx (seq choff psdu glr : Nat) (more ready : Bool)
  /-- MESH_ACK_RX (R266): A valid acknowledgement arrives and resynchronises the neighbour. -/
  | meshAckRx (a : MeshAckIn)
  /-- MESH_ACK_TIMEOUT (R266): The acknowledgement window closes without a valid ack; the frame is repeated or dropped after MAX_RETRIES. -/
  | meshAckTimeout (id : Nat)
  /-- LEGACY_FRAME_RX (R273): A legacy frame is filtered, answered with an Imm-Ack and checked for security. -/
  | legacyFrameRx (f : MeshIn)
  /-- PENDING_EXPIRED (R275): An indirect frame held for PERSIST timeslots expires. -/
  | pendingExpired
  /-- CSMA_BACKOFF (R276): A CSMA-CA backoff expires and the channel is assessed, giving a transmission or a failed attempt. -/
  | csmaBackoff (chan units down psdu glr : Nat) (more : Bool)
  /-- NBR_WRITEBACK (R278): Every 4,000 strokes changed neighbour entries are written back to the node register. -/
  | nbrWriteback
  /-- DAO_RX (R288): A DAO is accepted and the node's path and cells are rebuilt, or it is rejected with a DAO-ACK status. -/
  | daoRx
  /-- PATH_EXPIRY (R288): PATH_EXPIRY_SN passes; the node and its descendants depart and their cells are freed. -/
  | pathExpiry
  /-- DIO_TRICKLE (R287): A Trickle timer fires and a DIO is sent. -/
  | dioTrickle (cluster : Nat)
  /-- DIS_RX (R287): A DIS is answered with a unicast DIO. -/
  | disRx
  /-- MESH_DOWNLINK_PACKET (R289): A packet for a node is encapsulated with a source routing header and sent into the mesh. -/
  | meshDownlinkPacket
  /-- FRAGMENT_RX (R290): A 6LoWPAN fragment is reassembled, or dropped when all reassemblies are in use. -/
  | fragmentRx
  /-- REASSEMBLY_TIMEOUT (R290): A reassembly exceeds MSH_REASM_S and is dropped. -/
  | reassemblyTimeout
  /-- NODE_STATUS (R299): A NODE_STATUS message updates the entry and may resend SCHEDULE or add the node to a campaign. -/
  | nodeStatus
  /-- VALUES (R291): A VALUES message replaces the node's values and their SN. -/
  | values
  /-- REKEY_ACK (R297): A node confirms a key generation. -/
  | rekeyAck
  /-- UPDATE_STATUS (R304): A node reports its update state and missing blocks. -/
  | updateStatus
  /-- CLUSTER_KEY_SWITCH (R297): SWITCH_ASN is reached and EBs and broadcasts use the new cluster key. -/
  | clusterKeySwitch
  /-- UPDATE_ROUND_END (R303): After a round's report gap, the next round is sized, or the cluster's update ends. -/
  | updateRoundEnd
  /-- MSH_CLUSTER_SET (R306): Opens, changes or closes a mesh cluster. -/
  | mshClusterSet (d : Desc)
  /-- MSH_NODE_ADD (R306): Commissions up to 4,096 nodes into the node register. -/
  | mshNodeAdd (d : Desc)
  /-- MSH_NODE_REMOVE (R306): Removes a node, freeing its cells and entry. -/
  | mshNodeRemove (d : Desc)
  /-- MSH_NODE_READ (R306): Returns a node register entry. -/
  | mshNodeRead (d : Desc)
  /-- MSH_NBR_READ (R306): Returns a neighbour cache entry. -/
  | mshNbrRead (d : Desc)
  /-- MSH_REKEY (R306): Starts a node or cluster key renewal, or rolls a node back to an earlier generation. -/
  | mshRekey (d : Desc)
  /-- MSH_REPAIR (R306): Increments a cluster's DODAG version. -/
  | mshRepair (d : Desc)
  /-- MSH_ACTUATE (R307): Sends an ACTUATE message to a node. -/
  | mshActuate (d : Desc)
  /-- UPD_IMAGE_LOAD (R308): Validates and stores an update image as deadline work. -/
  | updImageLoad (d : Desc)
  /-- UPD_IMAGE_DROP (R308): Drops a held update image. -/
  | updImageDrop (d : Desc)
  /-- UPD_CAMPAIGN_START (R308): Starts an update campaign over the masked clusters. -/
  | updCampaignStart (d : Desc)
  /-- UPD_CAMPAIGN_STOP (R308): Stops an update campaign. -/
  | updCampaignStop (d : Desc)
  /-- UPD_QUERY (R308): Returns a campaign's status. -/
  | updQuery (d : Desc)
  /-- ETH_FRAME_RX (R323): An Ethernet frame enters through the intake FIFO into Cistern cells, is looked up and checked by its FCS. -/
  | ethFrameRx (rx : EthIn)
  /-- PAUSE_REFRESH (R316): Every XOFF_REFRESH strokes a standing XOFF is repeated. -/
  | pauseRefresh (port : Nat)
  /-- PAUSE_RX (R317): A received PAUSE or PFC frame stops new frames of the named classes. -/
  | pauseRx (port : Nat) (pfc : Bool) (classes : Nat) (quanta : List Nat) (atNs : Nat)
  /-- PAUSE_EXPIRY (R317): The pause time of a received pause frame runs out and the classes resume. -/
  | pauseExpiry (port cls atNs : Nat)
  /-- EGRESS_SELECT (R349): An Ethernet transmitter falls free and picks the next eligible queue head by strict priority and DRR. -/
  | egressSelect (port atNs : Nat)
  /-- EGRESS_FRAME_END (R324): At an egress frame's last byte the tap check is compared, and the new check is sent or the copy stomped. -/
  | egressFrameEnd (port atNs : Nat) (read : Option (List Byte)) (err : Option CellErr)
  /-- CISTERN_AUDIT (R329): Every 4,000 strokes stranded cells are returned to the pool. -/
  | cisternAudit
  /-- LINK_UP (R331): An Ethernet port's link comes up. -/
  | linkUp (port : Nat)
  /-- LINK_DOWN (R331): An Ethernet port's link goes down. -/
  | linkDown (port : Nat)
  /-- MDIO_ADDRESS (R333): PRT_MDIO_CMD GO with OP 0 runs an address cycle. -/
  | mdioAddress (value : Word)
  /-- MDIO_WRITE (R333): PRT_MDIO_CMD GO with OP 1 runs a write cycle. -/
  | mdioWrite (value : Word)
  /-- MDIO_READ_INC (R333): PRT_MDIO_CMD GO with OP 2 runs a read-increment cycle. -/
  | mdioReadInc (value : Word)
  /-- MDIO_READ (R333): PRT_MDIO_CMD GO with OP 3 runs a read cycle. -/
  | mdioRead (value : Word)
  /-- FLOAT_HIT_CLEAR (R333): Writing 1 to a PRT_FLOAT_HIT bit clears it. -/
  | floatHitClear (high : Bool) (value : Word)
  /-- LEARN_EVENT (R337): A queued learn event is applied to the L2 table. -/
  | learnEvent
  /-- HELD_EXPIRY (R337): FWD_NOW reaches held_until and HELD clears. -/
  | heldExpiry
  /-- AGING_SWEEP (R342): The sweep visits the L2 slots, removing aged entries and testing parity. -/
  | agingSweep (bad : List Nat)
  /-- LPM_RECIRCULATE (R345): A recirculated packet makes a further LPM pass, or is abandoned at MAX_PASS. -/
  | lpmRecirculate (parity : List (Nat × Nat)) (atNs : Nat)
  /-- FRAME_SEND (R350): Sends a host frame into the engine or directly to an egress port. -/
  | frameSend (d : Desc)
  /-- FWD_MAC_ADD (R352): Adds or replaces an L2 entry. -/
  | fwdMacAdd (d : Desc)
  /-- FWD_MAC_DEL (R352): Deletes an L2 entry. -/
  | fwdMacDel (d : Desc)
  /-- FWD_MAC_FLUSH (R352): Removes L2 entries by mode. -/
  | fwdMacFlush (d : Desc)
  /-- FWD_MAC_READ (R352): Reads occupied L2 slots. -/
  | fwdMacRead (d : Desc)
  /-- FWD_VLAN_SET (R352): Sets a VLAN entry. -/
  | fwdVlanSet (d : Desc)
  /-- FWD_ROUTE_ADD (R352): Adds or replaces an IPv6 route. -/
  | fwdRouteAdd (d : Desc)
  /-- FWD_ROUTE_DEL (R352): Deletes an IPv6 route. -/
  | fwdRouteDel (d : Desc)
  /-- FWD_GATE_LOAD (R353): Loads a port's gate control list. -/
  | fwdGateLoad (d : Desc)
  /-- FWD_PARITY_READ (R352): Reads and clears the parity log. -/
  | fwdParityRead (d : Desc)
  /-- LOG_RX (R360): The standby stores a LOG frame of input entries. -/
  | logRx (h : MateHdr) (entries : List LogEntry) (ns : Nat)
  /-- LOG_END_RX (R361): The standby receives a stroke's LOG_END and, if complete, acknowledges and compares TB0. -/
  | logEndRx (h : MateHdr) (e : LogEnd) (ns : Nat)
  /-- LOG_MISS (R361): No LOG_END, or an incomplete log, by 40 µs of the next stroke. -/
  | logMiss
  /-- ACK_RX (R362): The primary receives the standby's ACK and releases the held outputs. -/
  | ackRx (h : MateHdr) (a : MateAck) (ns : Nat)
  /-- NAK_RX (R361): The primary resends the LOG frames named in a NAK. -/
  | nakRx (h : MateHdr) (frags : List Nat)
  /-- FORWARD_RX (R378): The primary enters a forwarded descriptor as if fetched from its own ring. -/
  | forwardRx (h : MateHdr) (id : Nat) (d : Desc) (ns : Nat)
  /-- RESULT_RX (R378): The standby completes a forwarded descriptor with the primary's result. -/
  | resultRx (h : MateHdr) (r : MateResult)
  /-- LEASE_TOKEN_TX (R366): 2 µs after its stroke edge a unit sends its lease token. -/
  | leaseTokenTx
  /-- LEASE_TOKEN_RX (R366): A lease token is received and validated, updating grants and mate state. -/
  | leaseTokenRx (bytes : List Byte) (mic : Option Nat) (ns : Nat)
  /-- PAIR_FAULT_NO_AUTHORITY (R372): For 40 strokes no unit holds authority, which is pair-fault kind 3. -/
  | pairFaultNoAuthority (ns : Nat)
  /-- LEASE_LINK (R366): The lease link is lost for want of valid tokens in 4 strokes, or is restored. -/
  | leaseLink
  /-- MATE_LINK (R380): The mate link is lost or restored. -/
  | mateLink
  /-- AUTO_TAKEBACK (R373): A preferred standby with a long enough clean run starts a handover by itself. -/
  | autoTakeback
  /-- HANDOVER_STILL_STROKE (R373): The announced stroke H is run as a still stroke and authority moves without overlap. -/
  | handoverStillStroke
  /-- AUTHORITY_ASSUME (R375): A preferred unit that has heard a mate without authority for 400 strokes assumes authority. -/
  | authorityAssume
  /-- PRIME_REQ_RX (R377): The primary receives a priming request and starts the snapshot of stroke P. -/
  | primeReqRx (h : MateHdr) (digest : List Byte)
  /-- SNAPSHOT_RX (R377): The returning unit loads snapshot data and replays the logs. -/
  | snapshotRx (h : MateHdr) (last : Bool) (data : Option Snapshot)
  /-- PRIME_FAIL (R377): Priming restarts on a mismatch, a lost snapshot frame, a stalled backlog or a link loss. -/
  | primeFail
  /-- PAI_QUERY (R379): Returns the pair status. -/
  | paiQuery (d : Desc)
  /-- PAI_HANDOVER (R379): Starts a planned handover. -/
  | paiHandover (d : Desc)
  /-- PAI_DETACH (R379): A STANDBY unit enters PRIMING and asks for no priming. -/
  | paiDetach (d : Desc)
  /-- PAI_PRIME (R379): Sends PRIME_REQ. -/
  | paiPrime (d : Desc)
  /-- PAI_ASSUME (R379): Assumes authority when no mate is heard. -/
  | paiAssume (d : Desc)
  /-- KEY_PUB_READ (R401): Returns the identity or import public key. -/
  | keyPubRead (d : Desc)
  /-- KEY_SITE_IMPORT (R389): Unwraps a site secret blob into an empty slot. -/
  | keySiteImport (d : Desc)
  /-- KEY_ROLL (R393): Introduces the next FLEET, STOP or LOG generation with a switch point. -/
  | keyRoll (d : Desc)
  /-- KEY_INVALIDATE (R394): Kills one key generation. -/
  | keyInvalidate (d : Desc)
  /-- KEY_SITE_RETIRE (R395): Retires a site slot and kills the keys descending from it. -/
  | keySiteRetire (d : Desc)
  /-- KEY_EXPORT (R396): Exports a wrapped traffic key. -/
  | keyExport (d : Desc)
  /-- KEY_ATTEST (R397): Writes a signed attestation statement as deadline work. -/
  | keyAttest (d : Desc)
  /-- KEY_QUERY (R401): Returns the status of a key handle. -/
  | keyQuery (d : Desc)
  /-- KEY_TAMP_CLEAR (R399): Clears latched tamper responses in SETUP. -/
  | keyTampClear (d : Desc)
  /-- KEY_SWITCH (R393): A rolled generation comes into force at its switch point. -/
  | keySwitch
  /-- TRNG_FAULT (R391): A random generator health test fails and re-masking stops. -/
  | trngFault (test : Nat)
  /-- TAMPER_DETECTED (R399): A tamper source trips and its record, lock or zeroise response acts. -/
  | tamperDetected (source : Nat)
  /-- WELLHOUSE_START (R406): After power-up or WL_RESET_N the Wellhouse runs its start checks, shows the display test and emits POWER_UP. -/
  | wellhouseStart (romOk nvOk : Bool)
  /-- SENSE_FAULT (R409): A load-cell sense voltage is out of range for 20 ms and its instruments enter ERROR. -/
  | senseFault (ch : Nat)
  /-- SENSE_RECOVERED (R409): 2 s after the sense voltage returns the instrument leaves ERROR. -/
  | senseRecovered (ch : Nat)
  /-- ZERO_TRACKING (R411): Each second zero-tracking moves Z within its limits. -/
  | zeroTracking (n : Nat) (m : WlIn)
  /-- ZERO (R422): The zero-setting request makes a ZERO record. -/
  | zero (m : WlIn)
  /-- TARE (R422): Tares the stable gross. -/
  | tare (m : WlIn)
  /-- TARE_PRESET (R422): Sets a preset tare. -/
  | tarePreset
  /-- TARE_CLEAR (R422): Clears the tare. -/
  | tareClear
  /-- WEIGH (R412): Asks an NAWI instrument for a WEIGHING record. -/
  | weigh (m : WlIn)
  /-- WEIGHING_STABLE (R412): The weight is stable for STAB_MS, and the WEIGHING record is made. -/
  | weighingStable (n : Nat) (m : WlIn)
  /-- STABILITY_TIMEOUT (R412): STAB_TIMEOUT_MS passes without stability; a WEIGH is refused UNSTABLE, or a DTAW cycle halts. -/
  | stabilityTimeout (n : Nat)
  /-- CYCLE_FILLED (R413): Moves a DTAW cycle from EMPTY to SETTLE_G. -/
  | cycleFilled
  /-- CYCLE_DISCHARGED (R413): Moves a DTAW cycle to SETTLE_E. -/
  | cycleDischarged
  /-- CYCLE_ABORT (R414): Puts a DTAW instrument in HALTED. -/
  | cycleAbort
  /-- SETTLE_GROSS (R413): After SETTLE_MS and stability the GROSS record is made and EMPTYING starts. -/
  | settleGross (n : Nat) (m : WlIn)
  /-- SETTLE_EMPTY (R413): After SETTLE_MS and stability the net is added to TOTAL with a TOTAL_ADD record. -/
  | settleEmpty (n : Nat) (m : WlIn)
  /-- TOTAL_READ (R422): Makes a TOTAL_READ record. -/
  | totalRead
  /-- PULSE_READ (R416): Makes a PULSE record of a pulse input count. -/
  | pulseRead
  /-- RECORD_READ (R422): Returns a stored record. -/
  | recordRead
  /-- AUDIT_READ (R422): Returns audit trail entries. -/
  | auditRead
  /-- PARAM_READ (R422): Returns all sealed parameters. -/
  | paramRead
  /-- RAW_READ (R422): Returns per-channel ratios and sense voltages. -/
  | rawRead (m : WlIn)
  /-- STATEMENT (R428): Returns the signed Wellhouse statement. -/
  | statement
  /-- SHOW_ID (R428): Shows the identification for 5 s. -/
  | showId
  /-- PARAM_WRITE (R425): Applies a signed change of sealed parameters with the seal open. -/
  | paramWrite
  /-- KEY_ENROL (R425): Enrols an operator public key. -/
  | keyEnrol
  /-- AUDIT_ARCHIVE (R426): Clears the audit trail against a signed hash. -/
  | auditArchive
  /-- PULSE_EDGE (R416): A qualified rising edge on WL_PULSE increments its count. -/
  | pulseEdge (n : Nat)
  /-- SEAL_CHANGE (R424): The seal contacts settle at open, closed or fault for 100 ms. -/
  | sealChange (st : Nat)
  /-- DISPLAY_REDRAW (R427): Every 100 ms the legal indication is redrawn. -/
  | displayRedraw (ms : List WlIn)
  /-- RECORD_RX (R420): WELLGATE receives a RECORD frame, stamps the arrival SN and delivers it, or asks for a resend. -/
  | recordRx (ok : Bool)
  /-- PROCESS (R423): A PROCESS frame every 1 ms carries non-legal weights and rates into the Cistern. -/
  | process (ms : List WlIn) (rates : List Word) (ok : Bool)
  /-- HELLO (R419): A HELLO frame updates WELLGATE's view of the Wellhouse. -/
  | hello (ok : Bool)
  /-- WH_RESPONSE (R430): A RESPONSE frame completes a pending WLG_REQUEST. -/
  | whResponse (ok : Bool)
  /-- CREDIT (R420): The Wellhouse receives credit for records. -/
  | credit
  /-- DELIVERED (R420): The Wellhouse marks a record as delivered. -/
  | delivered
  /-- RESEND (R420): The Wellhouse resends from the SEQ named. -/
  | resend
  /-- WLG_REQUEST (R430): Forwards a request of the fixed set over the request link. -/
  | wlgRequest (d : Desc)
  /-- REQ_TIMEOUT (R430): A request unanswered after 4,000 strokes completes with TIMEOUT. -/
  | reqTimeout
  /-- WH_LINK (R431): No HELLO for 2 s marks the link lost, and a HELLO restores it. -/
  | whLink
  /-- MOT_SEG_LOAD (R449): Loads profile segments into an axis table. -/
  | motSegLoad (d : Desc)
  /-- MOT_PROFILE (R449): Runs a segment profile. -/
  | motProfile (d : Desc)
  /-- MOT_MOVE (R439): Starts a planned point-to-point move. -/
  | motMove (d : Desc)
  /-- MOT_RETUNE (R440): Changes ACC, DEC and VMAX of a running move. -/
  | motRetune (d : Desc)
  /-- MOT_HOME (R447): Runs the homing procedure. -/
  | motHome (d : Desc)
  /-- MOT_STOP (R443): Stops the named axes with the stop generator. -/
  | motStop (d : Desc)
  /-- MOT_ENABLE (R445): Enables an axis and clears FAULT, or disables it. -/
  | motEnable (d : Desc)
  /-- MOT_SET_POS (R449): Sets an axis position and REFERENCED. -/
  | motSetPos (d : Desc)
  /-- MOT_QUERY (R449): Returns an axis state. -/
  | motQuery (d : Desc)
  /-- MOVE_STEP (R439): Each stroke a move plans its next one-stroke segment. -/
  | moveStep (n : Nat)
  /-- SUB_TICK (R436): Every 15.625 µs the step generator takes the next commanded position. -/
  | subTick
  /-- AXIS_FAULT (R444): FLT_N or an overcurrent disables the axis and latches FAULT. -/
  | axisFault (n : Nat) (overload : Bool) (mv heldNs : Nat)
  /-- LIMIT_QUALIFY (R446): A limit input is qualified, latching and stopping the axis toward it. -/
  | limitQualify (n : Nat) (pos level : Bool) (heldUs : Nat)
  /-- HOME_QUALIFY (R447): The HOME input is qualified, advancing homing. -/
  | homeQualify (n : Nat) (level : Bool) (heldUs : Nat)
  /-- INHIBIT_FREEZE (R448): A gate inhibit line falls and a moving axis freezes. -/
  | inhibitFreeze (line : Nat)
  /-- POSITION_READ_LATCH (R451): Reading MOT_POS_LO_n latches MOT_POS_HI_n. -/
  | positionReadLatch (n : Nat)
  /-- LOOP_RUN (R457): A due loop reads its sources and computes its output. -/
  | loopRun (n : Nat)
  /-- LOP_MODE (R459): Changes a loop's mode bumplessly. -/
  | lopMode (d : Desc)
  /-- LOP_SETPOINT (R462): Sets a loop's setpoint. -/
  | lopSetpoint (d : Desc)
  /-- LOP_TUNE (R462): Applies new loop parameters. -/
  | lopTune (d : Desc)
  /-- LOP_QUERY (R462): Returns a loop's state. -/
  | lopQuery (d : Desc)
  /-- LOP_TRACE_ARM (R461): Arms a trace buffer. -/
  | lopTraceArm (d : Desc)
  /-- LOP_TRACE_READ (R462): Reads trace samples. -/
  | lopTraceRead (d : Desc)
  /-- REC_READ (R477): Reads held event records as deadline work. -/
  | recRead (d : Desc)
  /-- REC_RELEASE (R477): Frees records up to a SEQ. -/
  | recRelease (d : Desc)
  /-- REC_FREEZE (R470): Stops the recorder writing. -/
  | recFreeze (d : Desc)
  /-- REC_THAW (R470): Ends a freeze. -/
  | recThaw (d : Desc)
  /-- FREEZE_EXPIRY (R470): FREEZE_MAX strokes pass and the freeze ends. -/
  | freezeExpiry
  /-- WINDOW_LOAD (R471): Writing REC_WIN_IDX loads the record window. -/
  | windowLoad (value : Word)
  /-- SCRUB_READ (R474): The scrubber reads a location in an idle cycle, correcting or reporting errors and completing passes. -/
  | scrubRead (m addr : Nat) (stored : Stored) (hit : ScrubHit) (last : Bool)
  /-- FREE_RUNNING_COUNT_PERIOD (R56): Before the first stroke edge, each period of 12,500 REF cycles of the free-running count issues a doorbell read, writes due completions at its status point and advances pre-stroke deadlines. -/
  | freeRunningCountPeriod
  /-- SIGNAL_LOCK_LOST (R106): A GNSS tracking channel loses lock on its signal and, after 1 s without lock, frees its channel. -/
  | signalLockLost (sig prn : Nat)
  /-- GNSS_SPI_DONE (R104): A front-end bus transfer finishes shifting; GO clears and the bits read in stand in GNS_SPI_DATA. -/
  | gnssSpiDone (bits : Nat)
  /-- RF_SPI_DONE (R131): A transceiver bus transfer on an RF port finishes; GO clears and the read bits stand in RAD_SPI_DATA_n. -/
  | rfSpiDone (port bits : Nat)
  /-- MDIO_DONE (R333): An MDIO cycle at 2.5 MHz finishes; GO clears and PRT_MDIO_DATA holds the result of a read. -/
  | mdioDone (data : Nat)
  /-- WELLHOUSE_RESET (R415): WL_RESET_N goes low or a Wellhouse supply falls out of range; the Wellhouse stops, WL_EXC_EN goes low and the pull-downs inhibit every gate. -/
  | wellhouseReset
  /-- VBAT_LOSS (R506): VBAT falls out of range or is removed; VBAT_OK clears, and with no other AON supply the AON state (keep-alive, tamper configuration, DORMANT) is lost. -/
  | vbatLoss
  deriving DecidableEq, Repr

end Sys2Proof
end

