-- ==== Sys2Proof/Machine/Events.lean ====
section
/-! DEFINITION. Event codes of the recorder (R465, R466) by the name each chapter's event table gives them. -/

namespace Sys2Proof.Machine

/-- STROKE_OVERRUN. Parameters: Class and priority ([15:8] class, [7:0] priority); seq; TAG, or 0 for internal jobs. -/
abbrev EV_STROKE_OVERRUN : Nat := 0x0C01
/-- DEADLINE_MISS. Parameters: Class; deadline SN [31:0]; TAG, or 0. -/
abbrev EV_DEADLINE_MISS : Nat := 0x0C02
/-- SLOTS_EXHAUSTED. Parameters: Jobs stamped in this stroke; timers in use; 0. -/
abbrev EV_SLOTS_EXHAUSTED : Nat := 0x0C03
/-- SLOTS_RECOVERED. Parameters: Strokes spent under back-pressure; STK_SLOTS_FREE; 0. -/
abbrev EV_SLOTS_RECOVERED : Nat := 0x0C04
/-- TIMERS_FULL. Parameters: Submission ring held; 0; 0. -/
abbrev EV_TIMERS_FULL : Nat := 0x0C05
/-- ANCHORED. Parameters: First SN [31:0]; first SN [63:32]; STK_SN_FLOOR [31:0]. -/
abbrev EV_ANCHORED : Nat := 0x0C06
/-- FLOOR_WAIT. Parameters: Computed SN [31:0]; computed SN [63:32]; floor [31:0]. -/
abbrev EV_FLOOR_WAIT : Nat := 0x0C07
/-- EPOCH_BAD. Parameters: SITE_EPOCH [31:0]; TAI seconds [31:0]; 0. -/
abbrev EV_EPOCH_BAD : Nat := 0x0C08
/-- SLEW_START. Parameters: Phase error in ns, signed; 0; 0. -/
abbrev EV_SLEW_START : Nat := 0x0C09
/-- CORE_WATCHDOG. Parameters: Core number; strokes missed; 0. -/
abbrev EV_CORE_WATCHDOG : Nat := 0x0C0A
/-- RING_RUNAWAY. Parameters: Ring number; producer index read; consumer index. -/
abbrev EV_RING_RUNAWAY : Nat := 0x1001
/-- CQ_RUNAWAY. Parameters: Ring number; consumer index read; producer index. -/
abbrev EV_CQ_RUNAWAY : Nat := 0x1002
/-- BAD_DESC_SEEN. Parameters: Ring number; ring index; OPCODE. -/
abbrev EV_BAD_DESC_SEEN : Nat := 0x1003
/-- REG_LOCKED_WRITE. Parameters: BAR0 offset; value written; 0. -/
abbrev EV_REG_LOCKED_WRITE : Nat := 0x1004
/-- HOST_DMA_ERROR. Parameters: Ring number, or 0xFF for a page; failure code (R526); host address [31:0]. -/
abbrev EV_HOST_DMA_ERROR : Nat := 0x1005
/-- FORWARD_TIMEOUT. Parameters: Ring number; TAG; 0. -/
abbrev EV_FORWARD_TIMEOUT : Nat := 0x1006
/-- HOST_LINK_RESET. Parameters: Completions discarded; 0; 0. -/
abbrev EV_HOST_LINK_RESET : Nat := 0x1007
/-- TB0_HOLDOVER. Parameters: Lost source (TB0_SRC code); 0; 0. -/
abbrev EV_TB0_HOLDOVER : Nat := 0x2001
/-- TB0_SOURCE_OK. Parameters: Source; phase error in ns, signed; 0. -/
abbrev EV_TB0_SOURCE_OK : Nat := 0x2002
/-- TB0_RETURN_FAR. Parameters: Source; error in ns [31:0], signed, saturated; 0. -/
abbrev EV_TB0_RETURN_FAR : Nat := 0x2003
/-- HOLDOVER_LIMIT. Parameters: TIM_HOLDOVER_S; 0; 0. -/
abbrev EV_HOLDOVER_LIMIT : Nat := 0x2004
/-- TB1_STEP. Parameters: Step in ns [31:0]; step in ns [63:32]; port. -/
abbrev EV_TB1_STEP : Nat := 0x2005
/-- TB1_ROLE. Parameters: New TB1_STATE; port; 0. -/
abbrev EV_TB1_ROLE : Nat := 0x2006
/-- LAUNCH_DROP. Parameters: Port; launch ns field; lead in µs. -/
abbrev EV_LAUNCH_DROP : Nat := 0x2007
/-- PAIR_PHASE. Parameters: Difference in ns, signed; 0; 0. -/
abbrev EV_PAIR_PHASE : Nat := 0x2008
/-- PPS_IN_FAULT. Parameters: Interval in ns; 0; 0. -/
abbrev EV_PPS_IN_FAULT : Nat := 0x2009
/-- TIME_LOST. Parameters: Epochs without offer, which is 20 when the event is raised (R117); satellites in the last offer, counted as in GNS_TRACKED [25:16]; 0. -/
abbrev EV_TIME_LOST : Nat := 0x2401
/-- TIME_OFFERED. Parameters: e in ns, signed, saturated; satellites; 0. -/
abbrev EV_TIME_OFFERED : Nat := 0x2402
/-- SIGNAL_EXCLUDED. Parameters: [15:8] check, [7:0] signal index; [15:8] CONST_EN bit, [7:0] PRN or slot; deviation in cm, signed. -/
abbrev EV_SIGNAL_EXCLUDED : Nat := 0x2403
/-- CLOCK_INCONSISTENT. Parameters: Bias − prediction in ns, signed; epoch SN [31:0]; 0. -/
abbrev EV_CLOCK_INCONSISTENT : Nat := 0x2404
/-- JAM_DETECTED. Parameters: Port; C/N0 fall in 0.1 dB; AGC_OUT. -/
abbrev EV_JAM_DETECTED : Nat := 0x2405
/-- JAM_CLEARED. Parameters: Port; 0; 0. -/
abbrev EV_JAM_CLEARED : Nat := 0x2406
/-- SURVEY_DONE. Parameters: Seconds; σ in mm; epochs averaged. -/
abbrev EV_SURVEY_DONE : Nat := 0x2407
/-- SURVEY_SLOW. Parameters: Seconds; σ in mm; 0. -/
abbrev EV_SURVEY_SLOW : Nat := 0x2408
/-- EPHEMERIS_REJECTED. Parameters: [15:8] CONST_EN bit, [7:0] PRN or slot; difference in m; 0. -/
abbrev EV_EPHEMERIS_REJECTED : Nat := 0x2409
/-- KEEPALIVE_BAD. Parameters: Stored CRC; computed CRC; 0. -/
abbrev EV_KEEPALIVE_BAD : Nat := 0x240A
/-- PORT_CLOCK_LOST. Parameters: Port; deviation in ppb, signed; 0. -/
abbrev EV_PORT_CLOCK_LOST : Nat := 0x240B
/-- CHANNELS_FULL. Parameters: Signals unassigned; 0; 0. -/
abbrev EV_CHANNELS_FULL : Nat := 0x240C
/-- LEAP_SCHEDULED. Parameters: New TAI − UTC; TAI second of change [31:0]; 0. -/
abbrev EV_LEAP_SCHEDULED : Nat := 0x240D
/-- EPOCH_MISSING. Parameters: Epoch SN [31:0]; 0; 0. -/
abbrev EV_EPOCH_MISSING : Nat := 0x240E
/-- RF_CLOCK_LOST. Parameters: Port; deviation in ppb, signed; 0. -/
abbrev EV_RF_CLOCK_LOST : Nat := 0x2801
/-- LANE_EXHAUSTED. Parameters: Lane kind (0 narrowband, 1 OFDM); misses in this stroke; 0. -/
abbrev EV_LANE_EXHAUSTED : Nat := 0x2802
/-- TX_PREEMPTED. Parameters: Port; frames pre-empted; ramp entry at start. -/
abbrev EV_TX_PREEMPTED : Nat := 0x2803
/-- TX_REFUSED. Parameters: [15:8] port, [7:0] channel; launch SN [31:0]; 0. -/
abbrev EV_TX_REFUSED : Nat := 0x2804
/-- RX_CLIPPING. Parameters: Port; clipped samples in the stroke; 0. -/
abbrev EV_RX_CLIPPING : Nat := 0x2805
/-- CAL_DONE. Parameters: Port; image rejection in 0.1 dB; carrier leak in 0.1 dBc. -/
abbrev EV_CAL_DONE : Nat := 0x2806
/-- CAL_FAILED. Parameters: Port; image rejection in 0.1 dB; 0. -/
abbrev EV_CAL_FAILED : Nat := 0x2807
/-- ROBOT_ENROLLED. Parameters: Robot; home channel; MODE. -/
abbrev EV_ROBOT_ENROLLED : Nat := 0x2C01
/-- ROBOT_RETIRED. Parameters: Robot; 0; 0. -/
abbrev EV_ROBOT_RETIRED : Nat := 0x2C02
/-- AUTH_FAIL. Parameters: Robot; fleet channel; arrival SN [31:0]. -/
abbrev EV_AUTH_FAIL : Nat := 0x2C03
/-- REPLAY. Parameters: Robot; SEQ; HIGH. -/
abbrev EV_REPLAY : Nat := 0x2C04
/-- EPOCH_AHEAD. Parameters: Robot; EPOCH in frame; own epoch. -/
abbrev EV_EPOCH_AHEAD : Nat := 0x2C05
/-- ROBOT_SILENT. Parameters: Robot; superframes since last accepted frame; 0. -/
abbrev EV_ROBOT_SILENT : Nat := 0x2C06
/-- BEACON_DEFER. Parameters: Fleet channel; elements carried over; 0. -/
abbrev EV_BEACON_DEFER : Nat := 0x2C07
/-- ROBOT_HEALTH. Parameters: Robot; MOTION; beacons missed. -/
abbrev EV_ROBOT_HEALTH : Nat := 0x2C08
/-- SLOT_VIOLATION. Parameters: Robot; fleet channel; stroke index s. -/
abbrev EV_SLOT_VIOLATION : Nat := 0x2C09
/-- OBS_REJECTED. Parameters: Robot; cause (R194); EPOCH_SN [31:0]. -/
abbrev EV_OBS_REJECTED : Nat := 0x3001
/-- FIX_STATUS. Parameters: Robot; old STATUS [1:0]; new STATUS [1:0]. -/
abbrev EV_FIX_STATUS : Nat := 0x3002
/-- CORR_WITHHELD. Parameters: Cause (1 no ARP, 2 CLOCK_FAR, 3 set missing, 4 over 128 fragments); epoch SN [31:0]; 0. -/
abbrev EV_CORR_WITHHELD : Nat := 0x3003
/-- AMB_RESET. Parameters: Robot; ambiguities reset; cause (1 slip, 2 innovation, 3 command). -/
abbrev EV_AMB_RESET : Nat := 0x3004
/-- SUPERSEDED. Parameters: Robot; replaced EPOCH_SN [31:0]; 0. -/
abbrev EV_SUPERSEDED : Nat := 0x3005
/-- BASELINE_LONG. Parameters: Robot; baseline in m; 0. -/
abbrev EV_BASELINE_LONG : Nat := 0x3006
/-- HOST_NO_BUFFER. Parameters: Item opcode; 0; 0. -/
abbrev EV_HOST_NO_BUFFER : Nat := 0x3007
/-- CLAIM_REFUSED. Parameters: Robot; [15:8] REASON, [7:0] INDEX; [31:16] RES_KIND, [15:0] RES_ID. -/
abbrev EV_CLAIM_REFUSED : Nat := 0x3401
/-- CONFORM_STOP. Parameters: Robot; cause; fix EPOCH_SN [31:0], or 0. -/
abbrev EV_CONFORM_STOP : Nat := 0x3402
/-- HOLD_SET. Parameters: Robot; holds; first position released. -/
abbrev EV_HOLD_SET : Nat := 0x3403
/-- REVOKED. Parameters: Robot; first position revoked; robot holding the hold. -/
abbrev EV_REVOKED : Nat := 0x3404
/-- ROADMAP_LOADED. Parameters: ROADMAP_ID; NSEG; CRC. -/
abbrev EV_ROADMAP_LOADED : Nat := 0x3405
/-- HOLD_RELEASED. Parameters: Robot; holds removed; 0 = FRESH claim, 1 = ALT_RELEASE. -/
abbrev EV_HOLD_RELEASED : Nat := 0x3406
/-- TABLE_FULL. Parameters: Items and holds in use; robot; 0. -/
abbrev EV_TABLE_FULL : Nat := 0x3407
/-- RESOURCE_STATE. Parameters: RES_KIND; ID; CLOSED. -/
abbrev EV_RESOURCE_STATE : Nat := 0x3408
/-- STOP_RAISED. Parameters: [15:8] scope (0 ALL, 1 ROBOT, as SCOPE of R255), [7:0] cause; robot or 0xFF; qualification SN [31:0]. -/
abbrev EV_STOP_RAISED : Nat := 0x3801
/-- STOP_CLEARED. Parameters: Scope (0 ALL, 1 ROBOT); robot or 0xFF; CLEAR_SN [31:0]. -/
abbrev EV_STOP_CLEARED : Nat := 0x3802
/-- INPUT_DISCREPANCY. Parameters: Qualified level of A; qualified level of B; strokes of difference. -/
abbrev EV_INPUT_DISCREPANCY : Nat := 0x3803
/-- OUT_FAULT. Parameters: Output (0 A, 1 B, 2 instance mismatch); commanded level; read-back level. -/
abbrev EV_OUT_FAULT : Nat := 0x3804
/-- PAIR_STOP. Parameters: Kind; own epoch; mate's epoch. -/
abbrev EV_PAIR_STOP : Nat := 0x3805
/-- STOP_LATE. Parameters: Fleet channel; ns from qualification to frame end; 0. -/
abbrev EV_STOP_LATE : Nat := 0x3806
/-- NBR_DRIFTED. Parameters: Node register index; u in µs; 0. -/
abbrev EV_NBR_DRIFTED : Nat := 0x3C01
/-- NBR_LOST. Parameters: Node register index; u in µs; 0. -/
abbrev EV_NBR_LOST : Nat := 0x3C02
/-- NBR_RESYNC. Parameters: Node register index; OFS_US, signed; timeslots silent. -/
abbrev EV_NBR_RESYNC : Nat := 0x3C03
/-- NBR_EVICTED. Parameters: Evicted node index; admitted node index; 0. -/
abbrev EV_NBR_EVICTED : Nat := 0x3C04
/-- REPLAY_SEEN. Parameters: Node register index; frame counter; RX_CTR. -/
abbrev EV_REPLAY_SEEN : Nat := 0x3C05
/-- ACK_LATE. Parameters: Mesh channel; late acknowledgements in the interval; 0. -/
abbrev EV_ACK_LATE : Nat := 0x3C06
/-- CTR_EXHAUSTED. Parameters: Node register index, or 0x8000_0000 + cluster; 0; 0. -/
abbrev EV_CTR_EXHAUSTED : Nat := 0x3C07
/-- NBR_LOST_ENTRY. Parameters: Cache index; node register index, if readable; 0. -/
abbrev EV_NBR_LOST_ENTRY : Nat := 0x3C08
/-- NODE_JOINED. Parameters: Index; depth; cluster. -/
abbrev EV_NODE_JOINED : Nat := 0x3C20
/-- NODE_DEPARTED. Parameters: Index; cause (1 no-path DAO, 2 lifetime, 3 removed, 4 ancestor departed); 0. -/
abbrev EV_NODE_DEPARTED : Nat := 0x3C21
/-- DAO_REJECTED. Parameters: Index; DAO-ACK status; parent index. -/
abbrev EV_DAO_REJECTED : Nat := 0x3C22
/-- SCHED_STALE. Parameters: Index; SCHED_VER reported; SCHED_VER current. -/
abbrev EV_SCHED_STALE : Nat := 0x3C23
/-- NODE_STALE_KEY. Parameters: Index; generation seen; KEY_GEN. -/
abbrev EV_NODE_STALE_KEY : Nat := 0x3C24
/-- REKEY_DONE. Parameters: Index, or 0x8000_0000 + cluster; new generation; 0. -/
abbrev EV_REKEY_DONE : Nat := 0x3C25
/-- CAMPAIGN_END. Parameters: Campaign; targets complete; targets not complete. -/
abbrev EV_CAMPAIGN_END : Nat := 0x3C26
/-- UPD_NODE_FAIL. Parameters: Index; campaign; STATE. -/
abbrev EV_UPD_NODE_FAIL : Nat := 0x3C27
/-- REASM_FULL. Parameters: Fragments dropped in the interval; 0; 0. -/
abbrev EV_REASM_FULL : Nat := 0x3C28
/-- ADMIT_DROP. Parameters: Fabric port; frames refused in the stroke; CIS_USE_n. -/
abbrev EV_ADMIT_DROP : Nat := 0x1401
/-- STOMP. Parameters: Egress port; ingress port; cause (R324). -/
abbrev EV_STOMP : Nat := 0x1402
/-- CELL_UNCORR. Parameters: Cell; byte in the cell, or 0x100 for the link word, or 0x200 for the frame record; reading port. -/
abbrev EV_CELL_UNCORR : Nat := 0x1403
/-- CELL_QUARANTINED. Parameters: Cell; cells quarantined; 0. -/
abbrev EV_CELL_QUARANTINED : Nat := 0x1404
/-- CELLS_RECOVERED. Parameters: Cells returned; 0; 0. -/
abbrev EV_CELLS_RECOVERED : Nat := 0x1405
/-- PAUSE_SENT. Parameters: Port; classes (bit c), or 0xFF for PAUSE; cells held; once per excursion. -/
abbrev EV_PAUSE_SENT : Nat := 0x1406
/-- LINK_UP. Parameters: Port; SPEED code; 0. -/
abbrev EV_LINK_UP : Nat := 0x1801
/-- LINK_DOWN. Parameters: Port; 0; 0. -/
abbrev EV_LINK_DOWN : Nat := 0x1802
/-- FLOAT_MARK. Parameters: Port; fill in words; 0. -/
abbrev EV_FLOAT_MARK : Nat := 0x1803
/-- OVERSIZE. Parameters: Port; length in bytes, saturated at 65,535; 0. -/
abbrev EV_OVERSIZE : Nat := 0x1804
/-- FIFO_OVERFLOW. Parameters: Port; frames lost in the stroke; 0. -/
abbrev EV_FIFO_OVERFLOW : Nat := 0x1805
/-- LEARN_FULL. Parameters: Entries in use; ingress port; 0. -/
abbrev EV_LEARN_FULL : Nat := 0x1C01
/-- MAC_FLAP. Parameters: MAC [31:0]; [15:0] MAC [47:32], [27:16] VLAN; port held. -/
abbrev EV_MAC_FLAP : Nat := 0x1C02
/-- TABLE_PARITY. Parameters: Table (as R352); slot; 0. -/
abbrev EV_TABLE_PARITY : Nat := 0x1C03
/-- LPM_ABANDON. Parameters: Destination [31:0]; passes; ingress port. -/
abbrev EV_LPM_ABANDON : Nat := 0x1C04
/-- GATE_LIST_CHANGE. Parameters: Port; N; cycle ns. -/
abbrev EV_GATE_LIST_CHANGE : Nat := 0x1C05
/-- TAKEOVER. Parameters: New epoch; cause (1 silent mate, 2 released by token, 3 handover, 4 PAI_ASSUME, 5 cold start); last logged SN [31:0]. -/
abbrev EV_TAKEOVER : Nat := 0x4001
/-- YIELD. Parameters: Cause (1 higher epoch, 2 EPOCH_AHEAD, 3 lease expired, 4 split, 5 handover); mate epoch; 0. -/
abbrev EV_YIELD : Nat := 0x4002
/-- SOLO_START. Parameters: Mode (1 LEASE, 2 GONE); ACK misses; 0. -/
abbrev EV_SOLO_START : Nat := 0x4003
/-- SOLO_END. Parameters: Strokes in SOLO; 0; 0. -/
abbrev EV_SOLO_END : Nat := 0x4004
/-- DIGEST_MISMATCH. Parameters: SN [31:0]; own digest [31:0]; mate digest [31:0]. -/
abbrev EV_DIGEST_MISMATCH : Nat := 0x4005
/-- PRIME_START. Parameters: Snapshot SN [31:0]; snapshot size in MiB; 0. -/
abbrev EV_PRIME_START : Nat := 0x4006
/-- PRIME_DONE. Parameters: Strokes taken; 0; 0. -/
abbrev EV_PRIME_DONE : Nat := 0x4007
/-- PRIME_FAIL. Parameters: Cause (R377); SN [31:0]; 0. -/
abbrev EV_PRIME_FAIL : Nat := 0x4008
/-- CFG_MISMATCH. Parameters: Cause (R357); 0; 0. -/
abbrev EV_CFG_MISMATCH : Nat := 0x4009
/-- LEASE_LINK. Parameters: 0 lost, 1 good; 0; 0. -/
abbrev EV_LEASE_LINK : Nat := 0x400A
/-- MATE_LINK. Parameters: 0 lost, 1 good; 0; 0. -/
abbrev EV_MATE_LINK : Nat := 0x400B
/-- PAIR_FAULT. Parameters: Kind; own epoch; mate epoch. -/
abbrev EV_PAIR_FAULT : Nat := 0x400C
/-- SITE_IMPORTED. Parameters: Slot; SITE_TAG [31:0]; 0. -/
abbrev EV_SITE_IMPORTED : Nat := 0x4401
/-- KEY_ROLLED. Parameters: Key code; new generation; switch [31:0]. -/
abbrev EV_KEY_ROLLED : Nat := 0x4402
/-- KEY_INVALIDATED. Parameters: Handle; handles killed; commit SN [31:0]. -/
abbrev EV_KEY_INVALIDATED : Nat := 0x4403
/-- SLOT_RETIRED. Parameters: Slot; handles killed; commit SN [31:0]. -/
abbrev EV_SLOT_RETIRED : Nat := 0x4404
/-- TAMPER_DETECTED. Parameters: Source; response; KEY_TAMP_COUNT. -/
abbrev EV_TAMPER_DETECTED : Nat := 0x4405
/-- ZEROISED. Parameters: Source; 0; 0. -/
abbrev EV_ZEROISED : Nat := 0x4406
/-- TRNG_FAULT. Parameters: Health test; 0; 0. -/
abbrev EV_TRNG_FAULT : Nat := 0x4407
/-- KEY_EXPORTED. Parameters: Handle; 0; 0. -/
abbrev EV_KEY_EXPORTED : Nat := 0x4408
/-- ATTESTED. Parameters: Nonce [31:0]; SN [31:0]; Wellhouse statement present. -/
abbrev EV_ATTESTED : Nat := 0x4409
/-- WH_LINK. Parameters: 0 lost (no HELLO for 2 s), 1 good; serial [31:0]; BOOT_COUNT. -/
abbrev EV_WH_LINK : Nat := 0x4801
/-- WH_STATE. Parameters: Instrument, or 0xFF; new state; error code. -/
abbrev EV_WH_STATE : Nat := 0x4802
/-- SEAL_CHANGE. Parameters: 0 closed, 1 open, 2 fault; EVENT_CTR; 0. -/
abbrev EV_SEAL_CHANGE : Nat := 0x4803
/-- PARAM_CHANGED. Parameters: EVENT_CTR; SEQ of the PARAM record; 0. -/
abbrev EV_PARAM_CHANGED : Nat := 0x4804
/-- BACKLOG. Parameters: 1 entered, 0 left; undelivered records; 0. -/
abbrev EV_BACKLOG : Nat := 0x4805
/-- LINK_CRC. Parameters: Frames failed in the interval, recorded once per 4,000 strokes; 0; 0. -/
abbrev EV_LINK_CRC : Nat := 0x4806
/-- REQ_TIMEOUT. Parameters: CODE; REQ_ID; 0. -/
abbrev EV_REQ_TIMEOUT : Nat := 0x4807
/-- AXIS_FAULT. Parameters: Axis; 0 FLT_N, 1 overcurrent; shunt mV. -/
abbrev EV_AXIS_FAULT : Nat := 0x4C01
/-- LIMIT_HIT. Parameters: Axis; 0 LIMP, 1 LIMN; position [31:0]. -/
abbrev EV_LIMIT_HIT : Nat := 0x4C02
/-- LIMIT_CHATTER. Parameters: Axis; input (0 LIMP, 1 LIMN, 2 HOME); changes. -/
abbrev EV_LIMIT_CHATTER : Nat := 0x4C03
/-- HOMED. Parameters: Axis; HOME_POS [31:0]; strokes taken. -/
abbrev EV_HOMED : Nat := 0x4C04
/-- HOME_FAILED. Parameters: Axis; step of R447; 0. -/
abbrev EV_HOME_FAILED : Nat := 0x4C05
/-- INHIBIT_FREEZE. Parameters: Axis; line; velocity [31:0]. -/
abbrev EV_INHIBIT_FREEZE : Nat := 0x4C06
/-- REFERENCE_LOST. Parameters: Axis; cause (1 power-down, 2 inhibit, 3 overspeed); 0. -/
abbrev EV_REFERENCE_LOST : Nat := 0x4C07
/-- OVERSPEED. Parameters: Axis; segment; microsteps in the sub-tick. -/
abbrev EV_OVERSPEED : Nat := 0x4C08
/-- LOOP_FAILSAFE. Parameters: Loop; cause (1 stale, 2 numeric, 3 overrun); FAIL_PERIODS. -/
abbrev EV_LOOP_FAILSAFE : Nat := 0x5001
/-- LOOP_MODE. Parameters: Loop; old mode; new mode. -/
abbrev EV_LOOP_MODE : Nat := 0x5002
/-- LOOP_STALE. Parameters: Loop; source age in strokes, saturated; 0; recorded once per excursion. -/
abbrev EV_LOOP_STALE : Nat := 0x5003
/-- LOOP_NUMERIC. Parameters: Loop; node code; 0. -/
abbrev EV_LOOP_NUMERIC : Nat := 0x5004
/-- AI_OVERRANGE. Parameters: Input; code; 0. -/
abbrev EV_AI_OVERRANGE : Nat := 0x5005
/-- TRACE_TRIGGERED. Parameters: Buffer; loop; trigger SN [31:0]. -/
abbrev EV_TRACE_TRIGGERED : Nat := 0x5006
/-- LOG_RESUMED. Parameters: Records lost while full; first SEQ lost; 0. -/
abbrev EV_LOG_RESUMED : Nat := 0x5401
/-- FROZEN_END. Parameters: Records lost while frozen; first SEQ lost; strokes frozen. -/
abbrev EV_FROZEN_END : Nat := 0x5402
/-- RECORDER_START. Parameters: 1 cleared, 2 kept; next SEQ; 0. -/
abbrev EV_RECORDER_START : Nat := 0x5403
/-- MEM_CORRECTED. Parameters: Memory; address; syndrome or byte count. -/
abbrev EV_MEM_CORRECTED : Nat := 0x5801
/-- MEM_UNCORR. Parameters: Memory; address; 0 scrubber, 1 requester. -/
abbrev EV_MEM_UNCORR : Nat := 0x5802
/-- SCRUB_LAP_LONG. Parameters: Memory; lap in strokes; 0. -/
abbrev EV_SCRUB_LAP_LONG : Nat := 0x5803
/-- BOOT_OK. Parameters: Copy; FW_VERSION; rollback level. -/
abbrev EV_BOOT_OK : Nat := 0x0801
/-- BOOT_FAIL. Parameters: Copy; cause (R487); part index, or 0xFF. -/
abbrev EV_BOOT_FAIL : Nat := 0x0802
/-- BOOT_FALLBACK. Parameters: Copy 0 cause; 0; 0. -/
abbrev EV_BOOT_FALLBACK : Nat := 0x0803
/-- ENGAGE_REFUSED. Parameters: CAP_ID; register offset; 0. -/
abbrev EV_ENGAGE_REFUSED : Nat := 0x0804
/-- STATE_CHANGE. Parameters: Old state; new state; HALT_CAUSE, or 0. -/
abbrev EV_STATE_CHANGE : Nat := 0x0805
/-- FUSE_PROGRAMMED. Parameters: OP; slot; rollback level. -/
abbrev EV_FUSE_PROGRAMMED : Nat := 0x0806
/-- THERMAL. Parameters: Junction in 1/16 °C, signed; 1 above limit, 0 back below; 0. -/
abbrev EV_THERMAL : Nat := 0x0807

end Sys2Proof.Machine
end

