-- ==== Sys2Proof/Types/Cplx.lean ====
section
/-! DEFINITION. Numbers of the radio receivers: a + b √2, and complex numbers of them; exact, since QPSK decisions stand over √2
(R142, R143). -/

namespace Sys2Proof.Machine

/-- a + b √2. -/
structure Q2 where
  a : Rat
  b : Rat := 0
  deriving DecidableEq, Repr, Inhabited

/-- A complex number. -/
structure C2 where
  re : Q2
  im : Q2
  deriving DecidableEq, Repr, Inhabited

end Sys2Proof.Machine
end

