-- ==== Sys2Proof/Config.lean ====
section
/-! DEFINITION. The free values: what the spec leaves open and no run, proof or reader can see. Each is an opaque constant
applied to a counter of State (`State.free`) or to the operands it depends on; nothing constrains what it answers. -/

namespace Sys2Proof.Config

/-- NS of an event record within its stroke (R465), by free-value count. Log entry 4. -/
opaque recNs : Nat → Nat

/-- An open bit vector of the spec as a number, by free-value count. -/
opaque freeNat : Nat → Nat

/-- An open value of the mesh, by its own count of them, which both units of a pair keep alike (R12). -/
opaque meshValue : Nat → Nat

/-- An open byte string of the spec, by free-value count and length. -/
opaque freeBytes : Nat → Nat → List Byte

/-- Contents of the flash cells of a failed erase or program (R495), by free-value count and address. -/
opaque flashByte : Nat → Nat → Byte

/-- SHA-256 of a byte string (FIPS 180-4). The model leaves the function unevaluated. Log entry 6. -/
opaque sha256 : List Byte → List Byte

/-- HMAC-SHA-256 of key and message (R385). Left unevaluated. -/
opaque hmacSha256 : List Byte → List Byte → List Byte

/-- ECDSA P-256 verification of a public key, a message and a signature. Left unevaluated. -/
opaque ecdsaVerify : List Byte → List Byte → List Byte → Bool

/-- ECDSA P-256 signature of a private key over a message, by free-value count (the nonce is random). -/
opaque ecdsaSign : Nat → List Byte → List Byte → List Byte

/-- P-256 public key of a private key. -/
opaque p256Pub : List Byte → List Byte

/-- P-256 ECDH shared secret of a private and a public key. -/
opaque p256Ecdh : List Byte → List Byte → List Byte

/-- AES key wrap and unwrap (R389, R396): key and data. -/
opaque aesWrap : List Byte → List Byte → List Byte
opaque aesUnwrap : List Byte → List Byte → Option (List Byte)

/-- AES-CCM (R164, R245): byte `i` of the keystream of a key and nonce, and byte `i` of the MIC of a length over key, nonce,
associated data and plaintext. Left unevaluated. -/
opaque ccmStream : List Byte → List Byte → Nat → Byte
opaque ccmMic : List Byte → List Byte → List Byte → List Byte → Nat → Nat → Byte

/-- Byte `i` of a secured mesh frame of key, nonce, associated data and plaintext (R270; the frame format of IEEE 802.15.4 stands
outside the spec). Left unevaluated. -/
opaque ccmByte : List Byte → List Byte → List Byte → List Byte → Nat → Byte

/-- The bytes of an RTCM 3 frame of a message number (RTCM 10403.3, outside the spec) from the multiple-message bit and the
content the spec fixes (R187-R189). Left unevaluated. -/
opaque rtcmBytes : Nat → Bool → List Byte → List Byte

/-- Bytes hashed for the output digest of a stroke (R365): class, key, status and output bytes of each committed job, then the
prefix lengths; the manual fixes their order, not their widths. -/
opaque digestBytes : List (Nat × Nat × Nat × Nat × List Byte) → List Nat → List Byte

/-- Size in bytes of an entry of the input log by the bytes it carries: the encoding belongs to the firmware (R360). -/
opaque logEntrySize : Nat → Nat

/-- What RFC 6550, RFC 6554 and RFC 8200 leave to a root and the spec does not state: hop limit, DODAG preference, DTSN, PCS flags,
redundancy constant, MaxRankIncrease, lifetimes of the prefix (R287, R289). -/
opaque rplOpen : Nat → Nat

/-- Parity bit `i` of an LDPC code of IEEE 802.11-2020 clause 19, by codeword length, rate (numerator, denominator) and information
bits (R149; the matrices stand outside the spec). Left unevaluated. -/
opaque ldpcParity : Nat → Nat → Nat → List Bool → Nat → Bool

/-- The radio receivers' own choices (R143, R148, R149): the rotor of the GLR phase loop after the equaliser outputs and decisions so
far; soft bits of a constellation point of a number of bits (point, and the square of the scale it stands under); the LDPC decoder's
information bits and iterations by codeword length, rate and soft bits, none where a shortened zero stands with full certainty. -/
opaque carrierRotor : List (Machine.C2 × Machine.C2) → Machine.C2
opaque softBits : Nat → Machine.C2 → Machine.Q2 → List Machine.Q2
opaque ldpcDecode : Nat → Nat → Nat → List (Option Machine.Q2) → List Bool × Nat

/-- Latency in ns of the channeliser of a mode (R128, R132). -/
opaque chanLatency : Nat → Nat

/-- Duty steps that a deviation of the magnitude fraction asks of the AGC, which depend on the front end (R104). -/
opaque agcGain : Nat

/-- An ephemeris is within its validity time at a TAI second (R122; the time stands in the constellations' own documents). -/
opaque ephValid : Nat → List Byte → Nat → Bool

/-- RX_POWER of a stroke without any received power (R157). -/
opaque noPower : Nat

/-- An MCS of SUN OFDM that IEEE 802.15.4-2020 allows for a MODE, among MCS0 to MCS6 (R137). -/
opaque ofdmMcs : Nat → Nat → Bool

/-- The Reed–Solomon code of the DRAM (R473), which the manual does not give: field polynomial, exponent of the first root, and the
bytes of a line's physical address that the code covers. -/
opaque rsPoly : Nat
opaque rsFirst : Nat
opaque rsAddr : Nat → List Byte

/-- Airtime in ns of a PSDU of a length on an IEEE 802.15.4 SUN FSK or SUN OFDM channel of a MODE (R137, outside the spec). -/
opaque ieeeAirNs : Nat → Nat → Nat

/-- Bytes that the MAC header, security and compressed IPv6 and UDP headers add to a broadcast update message (R302; the
formats stand outside the spec), by security level. -/
opaque updOverhead : Nat → Nat

/-- The Gwemet public key held in the boot ROM, which the manual does not publish (R487). -/
opaque gwemetKey : List Byte

/-- The fused ROOT (R382), readable by nothing, and Gwemet's 512-byte endorsement of the identity key (ENDORSE). -/
opaque rootKey : List Byte
opaque endorse : List Byte

/-- The Wellhouse identity key derived from its fused root (R404), and Gwemet's endorsement of it (R428). -/
opaque wlIdentity : List Byte
opaque wlEndorse : List Byte

/-- SHA-256 of the boot ROM (R397), which the manual does not publish. -/
opaque romHash : List Byte

/-- The permutation of the class S store drawn at a reset (R392), by free-value count and step. -/
opaque storePick : Nat → Nat → Nat

/-- A rounding the spec leaves open: 0 or 1 (modulo 2) added to a value rounded down (log entry 50). -/
opaque roundUp : Nat → Nat

end Sys2Proof.Config
end

