-- ==== Sys2Proof/Machine/RegNames.lean ====
section
/-! DEFINITION. The BAR0 registers by name (R52: block base CAP_ID × 0x1_0000; offsets from the register table of
each chapter: R47, R54, R79, R100, R125, R157, R183, R210, R236, R257, R283, R310, R332, R333, R355, R381, R403, R432,
R451, R464, R479, R480, R497) and their fields as (address, lowest bit, width). -/

namespace Sys2Proof.Machine

/-- A register field: BAR0 address of its register, lowest bit, width. -/
structure Fld where
  addr : Nat
  lo : Nat
  width : Nat
  deriving DecidableEq, Repr

/-! ### IDENT (0x01) -/
/-- IDN_PCI_ID: [15:0] Vendor ID, [31:16] Device ID -/
abbrev IDN_PCI_ID : Nat := 0x000008
/-- IDN_STEPPING: [7:4] letter (0 = A, 1 = B), [3:0] number: B0 -/
abbrev IDN_STEPPING : Nat := 0x00000C
/-- IDN_SERIAL_LO: Unit serial number [31:0] -/
abbrev IDN_SERIAL_LO : Nat := 0x000010
/-- IDN_SERIAL_HI: Unit serial number [63:32] -/
abbrev IDN_SERIAL_HI : Nat := 0x000014
/-- IDN_FW_VERSION: [31:24] major, [23:16] minor, [15:0] build of the running firmware -/
abbrev IDN_FW_VERSION : Nat := 0x000018

/-! ### SYSTEM (0x02) -/
/-- SYS_STATUS: Device state and causes -/
abbrev SYS_STATUS : Nat := 0x020010
abbrev SYS_STATUS_STATE : Fld := ⟨SYS_STATUS, 0, 4⟩
abbrev SYS_STATUS_ROLE : Fld := ⟨SYS_STATUS, 4, 2⟩
abbrev SYS_STATUS_ENGAGED : Fld := ⟨SYS_STATUS, 6, 1⟩
abbrev SYS_STATUS_BOOT_COPY : Fld := ⟨SYS_STATUS, 7, 1⟩
abbrev SYS_STATUS_HALT_CAUSE : Fld := ⟨SYS_STATUS, 8, 3⟩
abbrev SYS_STATUS_DORMANT_READY : Fld := ⟨SYS_STATUS, 11, 1⟩
abbrev SYS_STATUS_RESET_KIND : Fld := ⟨SYS_STATUS, 12, 3⟩
abbrev SYS_STATUS_THERM_ALERT : Fld := ⟨SYS_STATUS, 15, 1⟩
abbrev SYS_STATUS_VBAT_OK : Fld := ⟨SYS_STATUS, 16, 1⟩
/-- SYS_CTRL: See field table -/
abbrev SYS_CTRL : Nat := 0x020014
abbrev SYS_CTRL_ENGAGE : Fld := ⟨SYS_CTRL, 0, 1⟩
abbrev SYS_CTRL_QUIET : Fld := ⟨SYS_CTRL, 1, 1⟩
/-- SYS_ENGAGE_ERR: [7:0] CAP_ID; [23:8] register offset within the capability, 0x0000 to 0xFFFF; [31] VALID; others reserved -/
abbrev SYS_ENGAGE_ERR : Nat := 0x020018
abbrev SYS_ENGAGE_ERR_CAP : Fld := ⟨SYS_ENGAGE_ERR, 0, 8⟩
abbrev SYS_ENGAGE_ERR_OFS : Fld := ⟨SYS_ENGAGE_ERR, 8, 16⟩
abbrev SYS_ENGAGE_ERR_VALID : Fld := ⟨SYS_ENGAGE_ERR, 31, 1⟩
/-- SYS_RESET_CMD: 0xC77A_0001 commanded reset; 0xC77A_0002 DORMANT; other values ignored -/
abbrev SYS_RESET_CMD : Nat := 0x02001C
/-- SYS_BOOT_INFO: [7:0] bundle ROLLBACK; [15:8] rollback level; [20:16] NPART, 1 to 16; [21] owner-signed -/
abbrev SYS_BOOT_INFO : Nat := 0x020020
abbrev SYS_BOOT_INFO_ROLLBACK : Fld := ⟨SYS_BOOT_INFO, 0, 8⟩
abbrev SYS_BOOT_INFO_LEVEL : Fld := ⟨SYS_BOOT_INFO, 8, 8⟩
abbrev SYS_BOOT_INFO_NPART : Fld := ⟨SYS_BOOT_INFO, 16, 5⟩
abbrev SYS_BOOT_INFO_OWNER : Fld := ⟨SYS_BOOT_INFO, 21, 1⟩
/-- SYS_BOOT_MS: ms from RESET_N rising to SETUP -/
abbrev SYS_BOOT_MS : Nat := 0x020024
/-- SYS_WAKE_CAUSE: [0] main power; [1] RESET_N; [2] tamper detected while DORMANT -/
abbrev SYS_WAKE_CAUSE : Nat := 0x020028
abbrev SYS_WAKE_CAUSE_BITS : Fld := ⟨SYS_WAKE_CAUSE, 0, 3⟩
/-- SYS_TEMP: [15:0] junction in 1/16 °C, signed -/
abbrev SYS_TEMP : Nat := 0x02002C
abbrev SYS_TEMP_T : Fld := ⟨SYS_TEMP, 0, 16⟩
/-- SYS_THERM_LIMIT: [7:0] °C; THERM_ALERT_N is low while the junction exceeds it; default 105 -/
abbrev SYS_THERM_LIMIT : Nat := 0x020030
abbrev SYS_THERM_LIMIT_C : Fld := ⟨SYS_THERM_LIMIT, 0, 8⟩
/-- SYS_STRAPS: [1:0] STRAP_BOOT; [2] STRAP_PAIR_ID; [3] STRAP_PAIR_PREF; [4] TEST_MODE -/
abbrev SYS_STRAPS : Nat := 0x020034
/-- SYS_FLASH_SIZE: Boot flash size in bytes, as read at boot (R495) -/
abbrev SYS_FLASH_SIZE : Nat := 0x020038

/-! ### STROKE (0x03) -/
/-- STK_SITE_EPOCH_LO: SITE_EPOCH [31:0] -/
abbrev STK_SITE_EPOCH_LO : Nat := 0x030010
/-- STK_SITE_EPOCH_HI: SITE_EPOCH [63:32] -/
abbrev STK_SITE_EPOCH_HI : Nat := 0x030014
/-- STK_SN_FLOOR_LO: SN floor [31:0] -/
abbrev STK_SN_FLOOR_LO : Nat := 0x030018
/-- STK_SN_FLOOR_HI: SN floor [63:32] -/
abbrev STK_SN_FLOOR_HI : Nat := 0x03001C
/-- STK_SN_LO: Current SN [31:0]; reading it latches STK_SN_HI and STK_PHASE_NS -/
abbrev STK_SN_LO : Nat := 0x030020
/-- STK_SN_HI: SN [63:32] as latched -/
abbrev STK_SN_HI : Nat := 0x030024
/-- STK_PHASE_NS: [17:0] ns since the stroke edge (0 to 250,019) as latched -/
abbrev STK_PHASE_NS : Nat := 0x030028
abbrev STK_PHASE_NS_NS : Fld := ⟨STK_PHASE_NS, 0, 18⟩
/-- STK_STATUS: See field table -/
abbrev STK_STATUS : Nat := 0x03002C
abbrev STK_STATUS_ANCHORED : Fld := ⟨STK_STATUS, 0, 1⟩
abbrev STK_STATUS_SLEWING : Fld := ⟨STK_STATUS, 1, 1⟩
abbrev STK_STATUS_HOLDOVER : Fld := ⟨STK_STATUS, 2, 1⟩
abbrev STK_STATUS_FLOOR_WAIT : Fld := ⟨STK_STATUS, 3, 1⟩
abbrev STK_STATUS_EPOCH_BAD : Fld := ⟨STK_STATUS, 4, 1⟩
abbrev STK_STATUS_BP_ACTIVE : Fld := ⟨STK_STATUS, 5, 1⟩
abbrev STK_STATUS_TIMERS_FULL : Fld := ⟨STK_STATUS, 6, 1⟩
/-- STK_PHASE_CFG: See field table -/
abbrev STK_PHASE_CFG : Nat := 0x030030
abbrev STK_PHASE_CFG_RELEASE_OFS : Fld := ⟨STK_PHASE_CFG, 0, 8⟩
abbrev STK_PHASE_CFG_CLOSE_OFS : Fld := ⟨STK_PHASE_CFG, 8, 8⟩
/-- STK_DELAY_HORIZON: Largest NOT_BEFORE lead in strokes; default 14,400,000 (1 hour) -/
abbrev STK_DELAY_HORIZON : Nat := 0x030034
/-- STK_BP_RESUME: [15:0] free slots needed to resume; 1 to 16,384, default 512 -/
abbrev STK_BP_RESUME : Nat := 0x030038
abbrev STK_BP_RESUME_N : Fld := ⟨STK_BP_RESUME, 0, 16⟩
/-- STK_SLOTS_FREE: [16:0] slots open to ring and intake jobs -/
abbrev STK_SLOTS_FREE : Nat := 0x03003C
/-- STK_SLOTS_LOW: [16:0] least value of STK_SLOTS_FREE since last read; the read reloads it with the current STK_SLOTS_FREE (R9) -/
abbrev STK_SLOTS_LOW : Nat := 0x030040
/-- STK_TIMERS_USED: [14:0] timers in use -/
abbrev STK_TIMERS_USED : Nat := 0x030044
/-- STK_BP_RINGS_LO: Bit n: submission ring n held by back-pressure, n = 0 to 31 -/
abbrev STK_BP_RINGS_LO : Nat := 0x030048
/-- STK_BP_RINGS_HI: Bit n: submission ring n + 32 held -/
abbrev STK_BP_RINGS_HI : Nat := 0x03004C
/-- STK_BP_PORTS_LO: Bit n: fabric port n intake held, n = 0 to 31 -/
abbrev STK_BP_PORTS_LO : Nat := 0x030050
/-- STK_BP_PORTS_HI: [15:0] bit n: fabric port n + 32 intake held -/
abbrev STK_BP_PORTS_HI : Nat := 0x030054
/-- STK_CLASS_OVR_n: Class n (0 to 7): overruns and deadline misses since last read -/
abbrev STK_CLASS_OVR (n : Nat) : Nat := 0x030080 + 0x4 * n
/-- STK_CLASS_PEAK_n: Class n: [17:0] greatest ns from edge to last commit in any stroke since last read -/
abbrev STK_CLASS_PEAK (n : Nat) : Nat := 0x0300A0 + 0x4 * n

/-! ### RINGS (0x04) -/
/-- RNG_DB_PAGE_LO: [31:12] doorbell page address [31:12]; [11:0] reserved -/
abbrev RNG_DB_PAGE_LO : Nat := 0x040010
abbrev RNG_DB_PAGE_LO_ADDR : Fld := ⟨RNG_DB_PAGE_LO, 12, 20⟩
/-- RNG_DB_PAGE_HI: Doorbell page address [63:32] -/
abbrev RNG_DB_PAGE_HI : Nat := 0x040014
/-- RNG_ST_PAGE_LO: [31:12] status page address [31:12]; [11:0] reserved -/
abbrev RNG_ST_PAGE_LO : Nat := 0x040018
abbrev RNG_ST_PAGE_LO_ADDR : Fld := ⟨RNG_ST_PAGE_LO, 12, 20⟩
/-- RNG_ST_PAGE_HI: Status page address [63:32] -/
abbrev RNG_ST_PAGE_HI : Nat := 0x04001C
/-- RNG_FAST_POLL: [15:0] bit c: class c fast-polled; bit 9 reads 1 and ignores writes -/
abbrev RNG_FAST_POLL : Nat := 0x040020
abbrev RNG_FAST_POLL_CLASSES : Fld := ⟨RNG_FAST_POLL, 0, 16⟩
/-- RNG_CFG_ERR: See field table -/
abbrev RNG_CFG_ERR : Nat := 0x040024
abbrev RNG_CFG_ERR_RING : Fld := ⟨RNG_CFG_ERR, 0, 6⟩
abbrev RNG_CFG_ERR_IS_CQ : Fld := ⟨RNG_CFG_ERR, 6, 1⟩
abbrev RNG_CFG_ERR_CAUSE : Fld := ⟨RNG_CFG_ERR, 8, 8⟩
abbrev RNG_CFG_ERR_VALID : Fld := ⟨RNG_CFG_ERR, 31, 1⟩
/-- RNG_SQ_FAULT_LO: Bit n: ring Sn faulted, n = 0 to 31 -/
abbrev RNG_SQ_FAULT_LO : Nat := 0x040028
/-- RNG_SQ_FAULT_HI: Bit n: ring S(n + 32) faulted -/
abbrev RNG_SQ_FAULT_HI : Nat := 0x04002C
/-- RNG_CQ_FAULT_LO: Bit n: ring Cn faulted, n = 0 to 31 -/
abbrev RNG_CQ_FAULT_LO : Nat := 0x040030
/-- RNG_CQ_FAULT_HI: Bit n: ring C(n + 32) faulted -/
abbrev RNG_CQ_FAULT_HI : Nat := 0x040034
/-- RNG_LOCKED_WRITES: Writes ignored under R55 -/
abbrev RNG_LOCKED_WRITES : Nat := 0x040038
/-- RNG_DB_LATE: Doorbell reads arriving after their stamp point -/
abbrev RNG_DB_LATE : Nat := 0x04003C
/-- RNG_DMA_ERR: Failed host memory accesses -/
abbrev RNG_DMA_ERR : Nat := 0x040040
/-- RNG_BAD_DESC: Descriptors completed with BAD_DESC -/
abbrev RNG_BAD_DESC : Nat := 0x040044
/-- RNG_BAR_ERR: BAR0 requests completed as Unsupported Request -/
abbrev RNG_BAR_ERR : Nat := 0x040048
/-- RNG_LOST_CPL: Completions discarded by host-link resets -/
abbrev RNG_LOST_CPL : Nat := 0x04004C
/-- RNG_SQ_BASE_LO_n: [31:12] ring Sn base [31:12]; [11:0] reserved -/
abbrev RNG_SQ_BASE_LO (n : Nat) : Nat := 0x040100 + 0x10 * n
abbrev RNG_SQ_BASE_LO_ADDR (n : Nat) : Fld := ⟨(RNG_SQ_BASE_LO n), 12, 20⟩
/-- RNG_SQ_BASE_HI_n: Ring Sn base [63:32] -/
abbrev RNG_SQ_BASE_HI (n : Nat) : Nat := 0x040104 + 0x10 * n
/-- RNG_SQ_CFG_n: Ring Sn set-up -/
abbrev RNG_SQ_CFG (n : Nat) : Nat := 0x040108 + 0x10 * n
abbrev RNG_SQ_CFG_ENABLE (n : Nat) : Fld := ⟨(RNG_SQ_CFG n), 0, 1⟩
abbrev RNG_SQ_CFG_PRIO (n : Nat) : Fld := ⟨(RNG_SQ_CFG n), 4, 4⟩
abbrev RNG_SQ_CFG_CQ (n : Nat) : Fld := ⟨(RNG_SQ_CFG n), 8, 6⟩
abbrev RNG_SQ_CFG_LOG2_SIZE (n : Nat) : Fld := ⟨(RNG_SQ_CFG n), 16, 5⟩
/-- RNG_CQ_BASE_LO_n: [31:12] ring Cn base [31:12]; [11:0] reserved -/
abbrev RNG_CQ_BASE_LO (n : Nat) : Nat := 0x040500 + 0x10 * n
abbrev RNG_CQ_BASE_LO_ADDR (n : Nat) : Fld := ⟨(RNG_CQ_BASE_LO n), 12, 20⟩
/-- RNG_CQ_BASE_HI_n: Ring Cn base [63:32] -/
abbrev RNG_CQ_BASE_HI (n : Nat) : Nat := 0x040504 + 0x10 * n
/-- RNG_CQ_CFG_n: Ring Cn set-up -/
abbrev RNG_CQ_CFG (n : Nat) : Nat := 0x040508 + 0x10 * n
abbrev RNG_CQ_CFG_ENABLE (n : Nat) : Fld := ⟨(RNG_CQ_CFG n), 0, 1⟩
abbrev RNG_CQ_CFG_VECTOR (n : Nat) : Fld := ⟨(RNG_CQ_CFG n), 8, 6⟩
abbrev RNG_CQ_CFG_LOG2_SIZE (n : Nat) : Fld := ⟨(RNG_CQ_CFG n), 16, 5⟩
/-- RNG_CQ_MOD_n: [15:0] COUNT; [31:16] DELAY in status points -/
abbrev RNG_CQ_MOD (n : Nat) : Nat := 0x04050C + 0x10 * n
abbrev RNG_CQ_MOD_COUNT (n : Nat) : Fld := ⟨(RNG_CQ_MOD n), 0, 16⟩
abbrev RNG_CQ_MOD_DELAY (n : Nat) : Fld := ⟨(RNG_CQ_MOD n), 16, 16⟩

/-! ### CISTERN (0x05) -/
/-- CIS_STATUS: [16:0] free cells; [17] SHARED_EMPTY -/
abbrev CIS_STATUS : Nat := 0x050010
abbrev CIS_STATUS_FREE : Fld := ⟨CIS_STATUS, 0, 17⟩
abbrev CIS_STATUS_SHARED_EMPTY : Fld := ⟨CIS_STATUS, 17, 1⟩
/-- CIS_CFG: [5:0] FLOAT_VECTOR; [15:8] XOFF_REFRESH in strokes, 1 to 16, clamped -/
abbrev CIS_CFG : Nat := 0x050014
abbrev CIS_CFG_FLOAT_VECTOR : Fld := ⟨CIS_CFG, 0, 6⟩
abbrev CIS_CFG_XOFF_REFRESH : Fld := ⟨CIS_CFG, 8, 8⟩
/-- CIS_SHARED: [16:0] shared pool size (R314) -/
abbrev CIS_SHARED : Nat := 0x050018
abbrev CIS_SHARED_N : Fld := ⟨CIS_SHARED, 0, 17⟩
/-- CIS_SHARED_FREE: [16:0] shared cells free -/
abbrev CIS_SHARED_FREE : Nat := 0x05001C
abbrev CIS_SHARED_FREE_N : Fld := ⟨CIS_SHARED_FREE, 0, 17⟩
/-- CIS_FREE_LOW: [16:0] least free cells since last read; the read reloads it with the current free cells (R9) -/
abbrev CIS_FREE_LOW : Nat := 0x050020
abbrev CIS_FREE_LOW_N : Fld := ⟨CIS_FREE_LOW, 0, 17⟩
/-- CIS_STOMP: Copies stomped -/
abbrev CIS_STOMP : Nat := 0x050024
/-- CIS_UNCORR: Uncorrectable errors -/
abbrev CIS_UNCORR : Nat := 0x050028
/-- CIS_CORR: Corrected errors -/
abbrev CIS_CORR : Nat := 0x05002C
/-- CIS_QUARANTINE: [6:0] cells quarantined, 0 to 64 -/
abbrev CIS_QUARANTINE : Nat := 0x050030
abbrev CIS_QUARANTINE_N : Fld := ⟨CIS_QUARANTINE, 0, 7⟩
/-- CIS_LEAK_RECOVERED: Cells returned by audit -/
abbrev CIS_LEAK_RECOVERED : Nat := 0x050034
/-- CIS_MIN_n: [16:0] guaranteed cells of fabric port n -/
abbrev CIS_MIN (n : Nat) : Nat := 0x050100 + 0x10 * n
abbrev CIS_MIN_CELLS (n : Nat) : Fld := ⟨(CIS_MIN n), 0, 17⟩
/-- CIS_ADM_n: [3:0] ALPHA_K, signed; [31:16] HDRM cells -/
abbrev CIS_ADM (n : Nat) : Nat := 0x050104 + 0x10 * n
abbrev CIS_ADM_ALPHA_K (n : Nat) : Fld := ⟨(CIS_ADM n), 0, 4⟩
abbrev CIS_ADM_HDRM (n : Nat) : Fld := ⟨(CIS_ADM n), 16, 16⟩
/-- CIS_USE_n: [16:0] cells held by port n -/
abbrev CIS_USE (n : Nat) : Nat := 0x050108 + 0x10 * n
abbrev CIS_USE_CELLS (n : Nat) : Fld := ⟨(CIS_USE n), 0, 17⟩
/-- CIS_DROP_n: Frames refused or truncated at admission -/
abbrev CIS_DROP (n : Nat) : Nat := 0x05010C + 0x10 * n
/-- CIS_PFC_n: Port n (0 to 23, 43): [15:0] XOFF cells, default 256; [31:16] XON cells, default 128 -/
abbrev CIS_PFC (n : Nat) : Nat := 0x050400 + 0x8 * n
abbrev CIS_PFC_XOFF (n : Nat) : Fld := ⟨(CIS_PFC n), 0, 16⟩
abbrev CIS_PFC_XON (n : Nat) : Fld := ⟨(CIS_PFC n), 16, 16⟩
/-- CIS_PFC_STAT_n: [7:0] classes with XOFF standing; [15:8] classes paused by the partner; [16] PAUSE standing; [17] paused by the partner -/
abbrev CIS_PFC_STAT (n : Nat) : Nat := 0x050404 + 0x8 * n
abbrev CIS_PFC_STAT_XOFF (n : Nat) : Fld := ⟨(CIS_PFC_STAT n), 0, 8⟩
abbrev CIS_PFC_STAT_PAUSED (n : Nat) : Fld := ⟨(CIS_PFC_STAT n), 8, 8⟩
abbrev CIS_PFC_STAT_PAUSE (n : Nat) : Fld := ⟨(CIS_PFC_STAT n), 16, 1⟩
abbrev CIS_PFC_STAT_PAUSED_ALL (n : Nat) : Fld := ⟨(CIS_PFC_STAT n), 17, 1⟩

/-! ### PORTS (0x06) -/
/-- PRT_LINK: [23:0] bit n: Ethernet port n link up -/
abbrev PRT_LINK : Nat := 0x060010
abbrev PRT_LINK_UP : Fld := ⟨PRT_LINK, 0, 24⟩
/-- PRT_FLOAT_HIT_LO: Bit n: fabric port n crossed its float mark, n = 0 to 31 -/
abbrev PRT_FLOAT_HIT_LO : Nat := 0x060014
/-- PRT_FLOAT_HIT_HI: [15:0] bit n: fabric port n + 32 -/
abbrev PRT_FLOAT_HIT_HI : Nat := 0x060018
abbrev PRT_FLOAT_HIT_HI_BITS : Fld := ⟨PRT_FLOAT_HIT_HI, 0, 16⟩
/-- PRT_MDIO_CMD: [0] BUS (MDC_0/MDIO_0 or MDC_1/MDIO_1); [1] CL45; [6:2] PHYAD; [11:7] register or DEVAD; [13:12] OP: 0 address, 1 write, 2 read-increment, 3 read; [15 -/
abbrev PRT_MDIO_CMD : Nat := 0x060020
abbrev PRT_MDIO_CMD_BUS : Fld := ⟨PRT_MDIO_CMD, 0, 1⟩
abbrev PRT_MDIO_CMD_CL45 : Fld := ⟨PRT_MDIO_CMD, 1, 1⟩
abbrev PRT_MDIO_CMD_PHYAD : Fld := ⟨PRT_MDIO_CMD, 2, 5⟩
abbrev PRT_MDIO_CMD_REG : Fld := ⟨PRT_MDIO_CMD, 7, 5⟩
abbrev PRT_MDIO_CMD_OP : Fld := ⟨PRT_MDIO_CMD, 12, 2⟩
abbrev PRT_MDIO_CMD_GO : Fld := ⟨PRT_MDIO_CMD, 15, 1⟩
/-- PRT_MDIO_DATA: [15:0] data or address -/
abbrev PRT_MDIO_DATA : Nat := 0x060024
abbrev PRT_MDIO_DATA_V : Fld := ⟨PRT_MDIO_DATA, 0, 16⟩
/-- PRT_FIFO_n: Fabric port n: [8:0] FLOAT in words, 1 to 256, clamped; [13] FLOAT_INT; [14] FLOAT_XOFF (Ethernet only); [21:16] SIPHON in cells, 0 to 35, clamped -/
abbrev PRT_FIFO (n : Nat) : Nat := 0x060100 + 0x20 * n
abbrev PRT_FIFO_FLOAT (n : Nat) : Fld := ⟨(PRT_FIFO n), 0, 9⟩
abbrev PRT_FIFO_FLOAT_INT (n : Nat) : Fld := ⟨(PRT_FIFO n), 13, 1⟩
abbrev PRT_FIFO_FLOAT_XOFF (n : Nat) : Fld := ⟨(PRT_FIFO n), 14, 1⟩
abbrev PRT_FIFO_SIPHON (n : Nat) : Fld := ⟨(PRT_FIFO n), 16, 6⟩
/-- PRT_FILL_n: [8:0] FIFO fill in words -/
abbrev PRT_FILL (n : Nat) : Nat := 0x060104 + 0x20 * n
abbrev PRT_FILL_WORDS (n : Nat) : Fld := ⟨(PRT_FILL n), 0, 9⟩
/-- PRT_FILL_PEAK_n: [8:0] largest fill since last read -/
abbrev PRT_FILL_PEAK (n : Nat) : Nat := 0x060108 + 0x20 * n
abbrev PRT_FILL_PEAK_WORDS (n : Nat) : Fld := ⟨(PRT_FILL_PEAK n), 0, 9⟩
/-- PRT_RX_FRAMES_n: Frames admitted -/
abbrev PRT_RX_FRAMES (n : Nat) : Nat := 0x06010C + 0x20 * n
/-- PRT_RX_BAD_n: Frames failing their own check -/
abbrev PRT_RX_BAD (n : Nat) : Nat := 0x060110 + 0x20 * n
/-- PRT_OVERSIZE_n: Frames past MAX_FRAME -/
abbrev PRT_OVERSIZE (n : Nat) : Nat := 0x060114 + 0x20 * n
/-- PRT_FIFO_OVF_n: Frames lost to FIFO overflow -/
abbrev PRT_FIFO_OVF (n : Nat) : Nat := 0x060118 + 0x20 * n
/-- PRT_CFG_n: Ethernet port n, 0 to 23; see field table -/
abbrev PRT_CFG (n : Nat) : Nat := 0x060800 + 0x4 * n
abbrev PRT_CFG_ENABLE (n : Nat) : Fld := ⟨(PRT_CFG n), 0, 1⟩
abbrev PRT_CFG_SPEED (n : Nat) : Fld := ⟨(PRT_CFG n), 1, 2⟩
abbrev PRT_CFG_PAUSE_EN (n : Nat) : Fld := ⟨(PRT_CFG n), 3, 1⟩
abbrev PRT_CFG_PFC_EN (n : Nat) : Fld := ⟨(PRT_CFG n), 4, 1⟩
abbrev PRT_CFG_LOSSLESS (n : Nat) : Fld := ⟨(PRT_CFG n), 5, 8⟩
abbrev PRT_CFG_MAX_FRAME (n : Nat) : Fld := ⟨(PRT_CFG n), 16, 14⟩

/-! ### FORWARD (0x07) -/
/-- FWD_CFG: See field table -/
abbrev FWD_CFG : Nat := 0x070010
abbrev FWD_CFG_AGE_S : Fld := ⟨FWD_CFG, 0, 16⟩
abbrev FWD_CFG_MAX_PASS : Fld := ⟨FWD_CFG, 16, 4⟩
abbrev FWD_CFG_TRAP_LL : Fld := ⟨FWD_CFG, 20, 1⟩
abbrev FWD_CFG_MOVE_LIMIT : Fld := ⟨FWD_CFG, 24, 4⟩
abbrev FWD_CFG_MOVE_HOLD_S : Fld := ⟨FWD_CFG, 28, 4⟩
/-- FWD_ROUTER_MAC_LO: Router MAC bytes 2–5 -/
abbrev FWD_ROUTER_MAC_LO : Nat := 0x070014
/-- FWD_ROUTER_MAC_HI: [15:0] router MAC bytes 0–1 -/
abbrev FWD_ROUTER_MAC_HI : Nat := 0x070018
abbrev FWD_ROUTER_MAC_HI_B : Fld := ⟨FWD_ROUTER_MAC_HI, 0, 16⟩
/-- FWD_ENT_PREFIX_LO: Enterprise prefix bits [111:80] -/
abbrev FWD_ENT_PREFIX_LO : Nat := 0x07001C
/-- FWD_ENT_PREFIX_HI: [15:0] enterprise prefix bits [127:112] -/
abbrev FWD_ENT_PREFIX_HI : Nat := 0x070020
abbrev FWD_ENT_PREFIX_HI_B : Fld := ⟨FWD_ENT_PREFIX_HI, 0, 16⟩
/-- FWD_SITE: [3:0] REGION; [7:4] SITE; [11:8] SITE2; [12] SITE2_EN (R24) -/
abbrev FWD_SITE : Nat := 0x070024
abbrev FWD_SITE_REGION : Fld := ⟨FWD_SITE, 0, 4⟩
abbrev FWD_SITE_SITE : Fld := ⟨FWD_SITE, 4, 4⟩
abbrev FWD_SITE_SITE2 : Fld := ⟨FWD_SITE, 8, 4⟩
abbrev FWD_SITE_SITE2_EN : Fld := ⟨FWD_SITE, 12, 1⟩
/-- FWD_NOW: [15:0] seconds (R342) -/
abbrev FWD_NOW : Nat := 0x070028
abbrev FWD_NOW_S : Fld := ⟨FWD_NOW, 0, 16⟩
/-- FWD_MAC_USED: [16:0] L2 entries in use -/
abbrev FWD_MAC_USED : Nat := 0x07002C
abbrev FWD_MAC_USED_N : Fld := ⟨FWD_MAC_USED, 0, 17⟩
/-- FWD_ROUTE_USED: [17:0] route entries in use -/
abbrev FWD_ROUTE_USED : Nat := 0x070030
abbrev FWD_ROUTE_USED_N : Fld := ⟨FWD_ROUTE_USED, 0, 18⟩
/-- FWD_PCP_MAP: [3p+2:3p]: class for PCP p; identity by default -/
abbrev FWD_PCP_MAP : Nat := 0x070034
abbrev FWD_PCP_MAP_MAP : Fld := ⟨FWD_PCP_MAP, 0, 24⟩
/-- FWD_HOST_MAP: [2c+1:2c]: FRAME_IN ring index for class c -/
abbrev FWD_HOST_MAP : Nat := 0x070038
abbrev FWD_HOST_MAP_MAP : Fld := ⟨FWD_HOST_MAP, 0, 16⟩
/-- FWD_LEARN_FULL: Learn events lost (R337) -/
abbrev FWD_LEARN_FULL : Nat := 0x070040
/-- FWD_MOVES: Station moves -/
abbrev FWD_MOVES : Nat := 0x070044
/-- FWD_MOVE_DENIED: Moves refused by STATIC -/
abbrev FWD_MOVE_DENIED : Nat := 0x070048
/-- FWD_PARITY: Parity failures (R343) -/
abbrev FWD_PARITY : Nat := 0x07004C
/-- FWD_LPM_RECIRC: Recirculations -/
abbrev FWD_LPM_RECIRC : Nat := 0x070050
/-- FWD_LPM_ABANDON: Packets dropped at MAX_PASS -/
abbrev FWD_LPM_ABANDON : Nat := 0x070054
/-- FWD_NO_ROUTE: Packets without a route, or routed to DROP -/
abbrev FWD_NO_ROUTE : Nat := 0x070058
/-- FWD_TTL_DROP: Hop limit expired -/
abbrev FWD_TTL_DROP : Nat := 0x07005C
/-- FWD_NOT_AUTH: Packets dropped under R347 -/
abbrev FWD_NOT_AUTH : Nat := 0x070060
/-- FWD_HOST_MISS: Frames finding no posted buffer -/
abbrev FWD_HOST_MISS : Nat := 0x070064
/-- FWD_FLOOD: Frames flooded -/
abbrev FWD_FLOOD : Nat := 0x070068
/-- FWD_AGED: Entries aged out -/
abbrev FWD_AGED : Nat := 0x07006C
/-- FWD_VLAN_DROP: Frames dropped by R341 -/
abbrev FWD_VLAN_DROP : Nat := 0x070070
/-- FWD_PORT_n: Ethernet port n (0 to 23): [11:0] PVID; [13:12] ACCEPT (0 all, 1 tagged only, 2 untagged only); [14] LEARN; [18:16] DEF_CLASS -/
abbrev FWD_PORT (n : Nat) : Nat := 0x070200 + 0x10 * n
abbrev FWD_PORT_PVID (n : Nat) : Fld := ⟨(FWD_PORT n), 0, 12⟩
abbrev FWD_PORT_ACCEPT (n : Nat) : Fld := ⟨(FWD_PORT n), 12, 2⟩
abbrev FWD_PORT_LEARN (n : Nat) : Fld := ⟨(FWD_PORT n), 14, 1⟩
abbrev FWD_PORT_DEF_CLASS (n : Nat) : Fld := ⟨(FWD_PORT n), 16, 3⟩
/-- FWD_SCHED_n: [7:0] STRICT classes; [28:16] QMAX frames, 1 to 4,096, clamped -/
abbrev FWD_SCHED (n : Nat) : Nat := 0x070204 + 0x10 * n
abbrev FWD_SCHED_STRICT (n : Nat) : Fld := ⟨(FWD_SCHED n), 0, 8⟩
abbrev FWD_SCHED_QMAX (n : Nat) : Fld := ⟨(FWD_SCHED n), 16, 13⟩
/-- FWD_WEIGHT_n: [4c+3:4c] WEIGHT of class c; 0 reads as 1 -/
abbrev FWD_WEIGHT (n : Nat) : Nat := 0x070208 + 0x10 * n
abbrev FWD_WEIGHT_W0 (n : Nat) : Fld := ⟨(FWD_WEIGHT n), 0, 4⟩
abbrev FWD_WEIGHT_W1 (n : Nat) : Fld := ⟨(FWD_WEIGHT n), 4, 4⟩
abbrev FWD_WEIGHT_W2 (n : Nat) : Fld := ⟨(FWD_WEIGHT n), 8, 4⟩
abbrev FWD_WEIGHT_W3 (n : Nat) : Fld := ⟨(FWD_WEIGHT n), 12, 4⟩
abbrev FWD_WEIGHT_W4 (n : Nat) : Fld := ⟨(FWD_WEIGHT n), 16, 4⟩
abbrev FWD_WEIGHT_W5 (n : Nat) : Fld := ⟨(FWD_WEIGHT n), 20, 4⟩
abbrev FWD_WEIGHT_W6 (n : Nat) : Fld := ⟨(FWD_WEIGHT n), 24, 4⟩
abbrev FWD_WEIGHT_W7 (n : Nat) : Fld := ⟨(FWD_WEIGHT n), 28, 4⟩
/-- FWD_QDROP_n: Frames refused at full queues -/
abbrev FWD_QDROP (n : Nat) : Nat := 0x07020C + 0x10 * n

/-! ### TIME (0x08) -/
/-- TIM_STATUS: See field table -/
abbrev TIM_STATUS : Nat := 0x080010
abbrev TIM_STATUS_TB0_SRC : Fld := ⟨TIM_STATUS, 0, 2⟩
abbrev TIM_STATUS_TB0_VALID : Fld := ⟨TIM_STATUS, 2, 1⟩
abbrev TIM_STATUS_HOLDOVER : Fld := ⟨TIM_STATUS, 3, 1⟩
abbrev TIM_STATUS_TB0_FAR : Fld := ⟨TIM_STATUS, 4, 1⟩
abbrev TIM_STATUS_HOLDOVER_EXPIRED : Fld := ⟨TIM_STATUS, 5, 1⟩
abbrev TIM_STATUS_TB1_STATE : Fld := ⟨TIM_STATUS, 6, 2⟩
abbrev TIM_STATUS_PPS_IN_OK : Fld := ⟨TIM_STATUS, 8, 1⟩
abbrev TIM_STATUS_ASN_WAIT : Fld := ⟨TIM_STATUS, 9, 1⟩
/-- TIM_TB0_CFG: See field table -/
abbrev TIM_TB0_CFG : Nat := 0x080014
abbrev TIM_TB0_CFG_GNSS_EN : Fld := ⟨TIM_TB0_CFG, 0, 1⟩
abbrev TIM_TB0_CFG_PPS_IN_EN : Fld := ⟨TIM_TB0_CFG, 1, 1⟩
abbrev TIM_TB0_CFG_EFC_EN : Fld := ⟨TIM_TB0_CFG, 2, 1⟩
abbrev TIM_TB0_CFG_SLEW : Fld := ⟨TIM_TB0_CFG, 8, 7⟩
/-- TIM_TB0_CMD: [0] ACCEPT: accept a far source (R87) -/
abbrev TIM_TB0_CMD : Nat := 0x080018
abbrev TIM_TB0_CMD_ACCEPT : Fld := ⟨TIM_TB0_CMD, 0, 1⟩
/-- TIM_TB0_ERR_NS: Last measured TB0 phase error in ns, signed, saturated -/
abbrev TIM_TB0_ERR_NS : Nat := 0x08001C
/-- TIM_HOLDOVER_S: Seconds in the current holdover; after it ends, the length of the last holdover (R86) -/
abbrev TIM_HOLDOVER_S : Nat := 0x080020
/-- TIM_HOLDOVER_LIMIT: Seconds; default 14,400 (4 hours) -/
abbrev TIM_HOLDOVER_LIMIT : Nat := 0x080024
/-- TIM_REANCHOR_LIMIT_NS: ns; default 1,000,000 -/
abbrev TIM_REANCHOR_LIMIT_NS : Nat := 0x080028
/-- TIM_OSC_TUNE: [15:0] current OSC_TUNE value -/
abbrev TIM_OSC_TUNE : Nat := 0x08002C
abbrev TIM_OSC_TUNE_V : Fld := ⟨TIM_OSC_TUNE, 0, 16⟩
/-- TIM_OSC_TUNE_INIT: [15:0] starting OSC_TUNE value -/
abbrev TIM_OSC_TUNE_INIT : Nat := 0x080030
abbrev TIM_OSC_TUNE_INIT_V : Fld := ⟨TIM_OSC_TUNE_INIT, 0, 16⟩
/-- TIM_UTC_OFFSET: [15:0] TAI − UTC in seconds, signed, from GNSS -/
abbrev TIM_UTC_OFFSET : Nat := 0x080034
abbrev TIM_UTC_OFFSET_V : Fld := ⟨TIM_UTC_OFFSET, 0, 16⟩
/-- TIM_PPS_IN_LABEL: TAI seconds [31:0] of the next PPS_IN edge; upper bits taken from TB0 -/
abbrev TIM_PPS_IN_LABEL : Nat := 0x080038
/-- TIM_TB1_CFG: See field table -/
abbrev TIM_TB1_CFG : Nat := 0x080040
abbrev TIM_TB1_CFG_ROLE : Fld := ⟨TIM_TB1_CFG, 0, 2⟩
abbrev TIM_TB1_CFG_PROFILE : Fld := ⟨TIM_TB1_CFG, 2, 2⟩
abbrev TIM_TB1_CFG_DOMAIN : Fld := ⟨TIM_TB1_CFG, 4, 8⟩
abbrev TIM_TB1_CFG_NO_BACK_STEP : Fld := ⟨TIM_TB1_CFG, 12, 1⟩
abbrev TIM_TB1_CFG_STEP_CONFIRM : Fld := ⟨TIM_TB1_CFG, 13, 3⟩
abbrev TIM_TB1_CFG_LOG_SYNC : Fld := ⟨TIM_TB1_CFG, 16, 4⟩
/-- TIM_TB1_STEP_NS: Step threshold in ns; default 100,000 -/
abbrev TIM_TB1_STEP_NS : Nat := 0x080044
/-- TIM_TB1_OFS_LO: TB1 − TB0 in ns [31:0] -/
abbrev TIM_TB1_OFS_LO : Nat := 0x080048
/-- TIM_TB1_OFS_HI: TB1 − TB0 in ns [63:32], signed -/
abbrev TIM_TB1_OFS_HI : Nat := 0x08004C
/-- TIM_TB1_STEPS: TB1 steps since last read -/
abbrev TIM_TB1_STEPS : Nat := 0x080050
/-- TIM_LAUNCH_MAX_WAIT: µs; default 10,000 -/
abbrev TIM_LAUNCH_MAX_WAIT : Nat := 0x080054
/-- TIM_LAUNCH_LATE: Late launches sent or discarded -/
abbrev TIM_LAUNCH_LATE : Nat := 0x080058
/-- TIM_LAUNCH_DROP: Frames discarded by the wait limit -/
abbrev TIM_LAUNCH_DROP : Nat := 0x08005C
/-- TIM_ASN_BASE_LO: ASN_BASE [31:0] -/
abbrev TIM_ASN_BASE_LO : Nat := 0x080060
/-- TIM_ASN_BASE_HI: ASN_BASE [63:32] -/
abbrev TIM_ASN_BASE_HI : Nat := 0x080064
/-- TIM_TB3_SEC_LO: TB3 seconds [31:0]; a read latches TB3 -/
abbrev TIM_TB3_SEC_LO : Nat := 0x080070
/-- TIM_TB3_SEC_HI: TB3 seconds [63:32] -/
abbrev TIM_TB3_SEC_HI : Nat := 0x080074
/-- TIM_TB3_NS: TB3 ns -/
abbrev TIM_TB3_NS : Nat := 0x080078
/-- TIM_TB3_ADJ: Frequency offset of TB3 from TB0 in units of 2^−16 ppb, signed -/
abbrev TIM_TB3_ADJ : Nat := 0x08007C
/-- TIM_TB3_CMD: [0] LOAD: step TB3 to the written value -/
abbrev TIM_TB3_CMD : Nat := 0x080080
abbrev TIM_TB3_CMD_LOAD : Fld := ⟨TIM_TB3_CMD, 0, 1⟩
/-- TIM_PPS_CFG: See field table -/
abbrev TIM_PPS_CFG : Nat := 0x080090
abbrev TIM_PPS_CFG_PPS_OUT_SRC : Fld := ⟨TIM_PPS_CFG, 0, 2⟩
abbrev TIM_PPS_CFG_PPS_IN_POL : Fld := ⟨TIM_PPS_CFG, 2, 1⟩
abbrev TIM_PPS_CFG_FREQ_OUT_EN : Fld := ⟨TIM_PPS_CFG, 3, 1⟩
abbrev TIM_PPS_CFG_PPS_OUT_WIDTH : Fld := ⟨TIM_PPS_CFG, 8, 8⟩
abbrev TIM_PPS_CFG_PPS_OUT_HOLD : Fld := ⟨TIM_PPS_CFG, 16, 1⟩
/-- TIM_PPS_IN_SEC_LO: Last PPS_IN edge, TB0 seconds [31:0] -/
abbrev TIM_PPS_IN_SEC_LO : Nat := 0x080094
/-- TIM_PPS_IN_SEC_HI: Last PPS_IN edge, TB0 seconds [63:32] -/
abbrev TIM_PPS_IN_SEC_HI : Nat := 0x080098
/-- TIM_PPS_IN_NS: Last PPS_IN edge, TB0 ns -/
abbrev TIM_PPS_IN_NS : Nat := 0x08009C
/-- TIM_PAIR_PHASE_LIMIT: ns; default 2,000 -/
abbrev TIM_PAIR_PHASE_LIMIT : Nat := 0x0800A0
/-- TIM_PORT_CORR_n: Fabric port n (0 to 23): [15:0] ingress, [31:16] egress, in ns, signed -/
abbrev TIM_PORT_CORR (n : Nat) : Nat := 0x080400 + 0x8 * n
abbrev TIM_PORT_CORR_INGRESS (n : Nat) : Fld := ⟨(TIM_PORT_CORR n), 0, 16⟩
abbrev TIM_PORT_CORR_EGRESS (n : Nat) : Fld := ⟨(TIM_PORT_CORR n), 16, 16⟩
/-- TIM_PORT_PTP_n: Fabric port n: see field table -/
abbrev TIM_PORT_PTP (n : Nat) : Nat := 0x080404 + 0x8 * n
abbrev TIM_PORT_PTP_PTP_EN (n : Nat) : Fld := ⟨(TIM_PORT_PTP n), 0, 1⟩
abbrev TIM_PORT_PTP_TS_ALL (n : Nat) : Fld := ⟨(TIM_PORT_PTP n), 1, 1⟩
abbrev TIM_PORT_PTP_TRANSPORT (n : Nat) : Fld := ⟨(TIM_PORT_PTP n), 2, 2⟩
abbrev TIM_PORT_PTP_ONE_STEP (n : Nat) : Fld := ⟨(TIM_PORT_PTP n), 4, 1⟩
abbrev TIM_PORT_PTP_QBV_EN (n : Nat) : Fld := ⟨(TIM_PORT_PTP n), 5, 1⟩
abbrev TIM_PORT_PTP_QBV_BASE (n : Nat) : Fld := ⟨(TIM_PORT_PTP n), 6, 1⟩
abbrev TIM_PORT_PTP_LATE_SEND (n : Nat) : Fld := ⟨(TIM_PORT_PTP n), 7, 1⟩

/-! ### GNSS (0x09) -/
/-- GNS_STATUS: See field table -/
abbrev GNS_STATUS : Nat := 0x090010
abbrev GNS_STATUS_TIME_VALID : Fld := ⟨GNS_STATUS, 0, 1⟩
abbrev GNS_STATUS_BASE_FIXED : Fld := ⟨GNS_STATUS, 1, 1⟩
abbrev GNS_STATUS_SURVEYING : Fld := ⟨GNS_STATUS, 2, 1⟩
abbrev GNS_STATUS_CLOCK_FAR : Fld := ⟨GNS_STATUS, 3, 1⟩
abbrev GNS_STATUS_JAM : Fld := ⟨GNS_STATUS, 4, 1⟩
abbrev GNS_STATUS_CLK_INCONSISTENT : Fld := ⟨GNS_STATUS, 5, 1⟩
abbrev GNS_STATUS_START_KIND : Fld := ⟨GNS_STATUS, 6, 2⟩
/-- GNS_CFG: See field table -/
abbrev GNS_CFG : Nat := 0x090014
abbrev GNS_CFG_CONST_EN : Fld := ⟨GNS_CFG, 0, 5⟩
abbrev GNS_CFG_CORR_RATE : Fld := ⟨GNS_CFG, 8, 3⟩
abbrev GNS_CFG_TIME_MIN_SV : Fld := ⟨GNS_CFG, 12, 4⟩
abbrev GNS_CFG_ELEV_MASK : Fld := ⟨GNS_CFG, 16, 7⟩
abbrev GNS_CFG_ARP_MODE : Fld := ⟨GNS_CFG, 23, 1⟩
/-- GNS_CHECK_CFG: See field table -/
abbrev GNS_CHECK_CFG : Nat := 0x090018
abbrev GNS_CHECK_CFG_RES_LIMIT_M : Fld := ⟨GNS_CHECK_CFG, 0, 8⟩
abbrev GNS_CHECK_CFG_IFB_LIMIT_M : Fld := ⟨GNS_CHECK_CFG, 8, 8⟩
abbrev GNS_CHECK_CFG_CLK_LIMIT_NS : Fld := ⟨GNS_CHECK_CFG, 16, 12⟩
abbrev GNS_CHECK_CFG_RETURN_S : Fld := ⟨GNS_CHECK_CFG, 28, 4⟩
/-- GNS_STATION_ID: [11:0] reference station ID -/
abbrev GNS_STATION_ID : Nat := 0x09001C
abbrev GNS_STATION_ID_ID : Fld := ⟨GNS_STATION_ID, 0, 12⟩
/-- GNS_ARP_X_LO: ARP X [31:0], 0.1 mm -/
abbrev GNS_ARP_X_LO : Nat := 0x090020
/-- GNS_ARP_X_HI: ARP X [37:32] -/
abbrev GNS_ARP_X_HI : Nat := 0x090024
/-- GNS_ARP_Y_LO: ARP Y [31:0] -/
abbrev GNS_ARP_Y_LO : Nat := 0x090028
/-- GNS_ARP_Y_HI: ARP Y [37:32] -/
abbrev GNS_ARP_Y_HI : Nat := 0x09002C
/-- GNS_ARP_Z_LO: ARP Z [31:0] -/
abbrev GNS_ARP_Z_LO : Nat := 0x090030
/-- GNS_ARP_Z_HI: ARP Z [37:32] -/
abbrev GNS_ARP_Z_HI : Nat := 0x090034
/-- GNS_SURVEY_CFG: [15:0] SURVEY_MIN_S, default 3,600; [31:16] SURVEY_SIGMA_MM, default 500 -/
abbrev GNS_SURVEY_CFG : Nat := 0x090038
abbrev GNS_SURVEY_CFG_SURVEY_MIN_S : Fld := ⟨GNS_SURVEY_CFG, 0, 16⟩
abbrev GNS_SURVEY_CFG_SURVEY_SIGMA_MM : Fld := ⟨GNS_SURVEY_CFG, 16, 16⟩
/-- GNS_SURVEY_MAX_S: Seconds; default 86,400 -/
abbrev GNS_SURVEY_MAX_S : Nat := 0x09003C
/-- GNS_CMD: [0] SURVEY_RESTART; [1] FORGET_KEEPALIVE -/
abbrev GNS_CMD : Nat := 0x090040
abbrev GNS_CMD_SURVEY_RESTART : Fld := ⟨GNS_CMD, 0, 1⟩
abbrev GNS_CMD_FORGET_KEEPALIVE : Fld := ⟨GNS_CMD, 1, 1⟩
/-- GNS_SURVEY_X_LO: Surveyed X [31:0] -/
abbrev GNS_SURVEY_X_LO : Nat := 0x090044
/-- GNS_SURVEY_X_HI: Surveyed X [37:32] -/
abbrev GNS_SURVEY_X_HI : Nat := 0x090048
/-- GNS_SURVEY_Y_LO: Surveyed Y [31:0] -/
abbrev GNS_SURVEY_Y_LO : Nat := 0x09004C
/-- GNS_SURVEY_Y_HI: Surveyed Y [37:32] -/
abbrev GNS_SURVEY_Y_HI : Nat := 0x090050
/-- GNS_SURVEY_Z_LO: Surveyed Z [31:0] -/
abbrev GNS_SURVEY_Z_LO : Nat := 0x090054
/-- GNS_SURVEY_Z_HI: Surveyed Z [37:32] -/
abbrev GNS_SURVEY_Z_HI : Nat := 0x090058
/-- GNS_SURVEY_SIGMA: Current σ of the mean in mm -/
abbrev GNS_SURVEY_SIGMA : Nat := 0x09005C
/-- GNS_TRACKED: [9:0] channels in use; [25:16] satellites in the last offer that had at least one signal not excluded (R112) -/
abbrev GNS_TRACKED : Nat := 0x090060
abbrev GNS_TRACKED_CHANNELS : Fld := ⟨GNS_TRACKED, 0, 10⟩
abbrev GNS_TRACKED_SATS : Fld := ⟨GNS_TRACKED, 16, 10⟩
/-- GNS_CLK_BIAS_NS: GNSS − TB0 of the last offer, ns, signed, saturated -/
abbrev GNS_CLK_BIAS_NS : Nat := 0x090064
/-- GNS_EPOCHS_MISSED: Epochs without a set since last read -/
abbrev GNS_EPOCHS_MISSED : Nat := 0x090068
/-- GNS_EXCLUDED: Signal exclusions since last read -/
abbrev GNS_EXCLUDED : Nat := 0x09006C
/-- GNS_KA_AGE_S: Keep-alive age at last start; all ones when none -/
abbrev GNS_KA_AGE_S : Nat := 0x090070
/-- GNS_TTFF_MS: ms from baseband start to first offer -/
abbrev GNS_TTFF_MS : Nat := 0x090074
/-- GNS_ANT_DELAY_NS: Antenna, cable and front-end delay, ns, signed -/
abbrev GNS_ANT_DELAY_NS : Nat := 0x090078
/-- GNS_SIG_AVAIL: [15:0] bit g: signal index g trackable (R105) -/
abbrev GNS_SIG_AVAIL : Nat := 0x09007C
abbrev GNS_SIG_AVAIL_BITS : Fld := ⟨GNS_SIG_AVAIL, 0, 16⟩
/-- GNS_PORT_CFG_n: Port n (0 to 3); see field table -/
abbrev GNS_PORT_CFG (n : Nat) : Nat := 0x090100 + 0x10 * n
abbrev GNS_PORT_CFG_ENABLE (n : Nat) : Fld := ⟨(GNS_PORT_CFG n), 0, 1⟩
abbrev GNS_PORT_CFG_BAND (n : Nat) : Fld := ⟨(GNS_PORT_CFG n), 1, 2⟩
abbrev GNS_PORT_CFG_RATE (n : Nat) : Fld := ⟨(GNS_PORT_CFG n), 3, 2⟩
abbrev GNS_PORT_CFG_SPECTRUM_INV (n : Nat) : Fld := ⟨(GNS_PORT_CFG n), 5, 1⟩
abbrev GNS_PORT_CFG_AGC_EN (n : Nat) : Fld := ⟨(GNS_PORT_CFG n), 6, 1⟩
abbrev GNS_PORT_CFG_AGC_TARGET (n : Nat) : Fld := ⟨(GNS_PORT_CFG n), 8, 8⟩
/-- GNS_PORT_IF_HZ_n: IF offset in Hz, signed -/
abbrev GNS_PORT_IF_HZ (n : Nat) : Nat := 0x090104 + 0x10 * n
/-- GNS_PORT_STAT_n: See field table -/
abbrev GNS_PORT_STAT (n : Nat) : Nat := 0x090108 + 0x10 * n
abbrev GNS_PORT_STAT_MAG_FRAC (n : Nat) : Fld := ⟨(GNS_PORT_STAT n), 0, 8⟩
abbrev GNS_PORT_STAT_AGC_OUT (n : Nat) : Fld := ⟨(GNS_PORT_STAT n), 8, 10⟩
abbrev GNS_PORT_STAT_CLK_OK (n : Nat) : Fld := ⟨(GNS_PORT_STAT n), 24, 1⟩
abbrev GNS_PORT_STAT_JAM (n : Nat) : Fld := ⟨(GNS_PORT_STAT n), 25, 1⟩
/-- GNS_SPI_CTRL: See field table -/
abbrev GNS_SPI_CTRL : Nat := 0x090200
abbrev GNS_SPI_CTRL_SEL : Fld := ⟨GNS_SPI_CTRL, 0, 2⟩
abbrev GNS_SPI_CTRL_WBITS : Fld := ⟨GNS_SPI_CTRL, 2, 6⟩
abbrev GNS_SPI_CTRL_RBITS : Fld := ⟨GNS_SPI_CTRL, 8, 6⟩
abbrev GNS_SPI_CTRL_GO : Fld := ⟨GNS_SPI_CTRL, 15, 1⟩
abbrev GNS_SPI_CTRL_DIV : Fld := ⟨GNS_SPI_CTRL, 16, 8⟩
/-- GNS_SPI_DATA: Out bits from [31] downward; in bits to [0] -/
abbrev GNS_SPI_DATA : Nat := 0x090204

/-! ### RADIO (0x0A) -/
/-- RAD_STATUS: [7:0] bit n: port n CLK_OK; [15:8] bit n: port n transmitting; [16] pre-emption in progress; [17] calibration busy -/
abbrev RAD_STATUS : Nat := 0x0A0010
abbrev RAD_STATUS_CLK_OK : Fld := ⟨RAD_STATUS, 0, 8⟩
abbrev RAD_STATUS_TX : Fld := ⟨RAD_STATUS, 8, 8⟩
abbrev RAD_STATUS_PREEMPT : Fld := ⟨RAD_STATUS, 16, 1⟩
abbrev RAD_STATUS_CAL : Fld := ⟨RAD_STATUS, 17, 1⟩
/-- RAD_LANE_USE: [6:0] narrowband lanes busy; [20:16] OFDM lanes busy -/
abbrev RAD_LANE_USE : Nat := 0x0A0014
abbrev RAD_LANE_USE_NB : Fld := ⟨RAD_LANE_USE, 0, 7⟩
abbrev RAD_LANE_USE_OFDM : Fld := ⟨RAD_LANE_USE, 16, 5⟩
/-- RAD_LANE_MISS_NB: Frames lost for want of a narrowband lane -/
abbrev RAD_LANE_MISS_NB : Nat := 0x0A0018
/-- RAD_LANE_MISS_OF: Frames lost for want of an OFDM lane -/
abbrev RAD_LANE_MISS_OF : Nat := 0x0A001C
/-- RAD_RX_BLANKED: Frames dropped by own transmission (R130) -/
abbrev RAD_RX_BLANKED : Nat := 0x0A0020
/-- RAD_TX_REFUSED: Transmit requests refused (R151) -/
abbrev RAD_TX_REFUSED : Nat := 0x0A0024
/-- RAD_TX_PREEMPTED: Frames pre-empted (R153) -/
abbrev RAD_TX_PREEMPTED : Nat := 0x0A0028
/-- RAD_CAL_CMD: [2:0] PORT; [8] START -/
abbrev RAD_CAL_CMD : Nat := 0x0A0030
abbrev RAD_CAL_CMD_PORT : Fld := ⟨RAD_CAL_CMD, 0, 3⟩
abbrev RAD_CAL_CMD_START : Fld := ⟨RAD_CAL_CMD, 8, 1⟩
/-- RAD_CAL_STAT: [0] BUSY; [1] DONE; [2] FAIL; [15:8] image rejection in dB; [23:16] carrier leak in −dBc -/
abbrev RAD_CAL_STAT : Nat := 0x0A0034
abbrev RAD_CAL_STAT_BUSY : Fld := ⟨RAD_CAL_STAT, 0, 1⟩
abbrev RAD_CAL_STAT_DONE : Fld := ⟨RAD_CAL_STAT, 1, 1⟩
abbrev RAD_CAL_STAT_FAIL : Fld := ⟨RAD_CAL_STAT, 2, 1⟩
abbrev RAD_CAL_STAT_REJECT : Fld := ⟨RAD_CAL_STAT, 8, 8⟩
abbrev RAD_CAL_STAT_LEAK : Fld := ⟨RAD_CAL_STAT, 16, 8⟩
/-- RAD_PORT_CFG_n: See field table -/
abbrev RAD_PORT_CFG (n : Nat) : Nat := 0x0A1000 + 0x400 * n
abbrev RAD_PORT_CFG_ENABLE (n : Nat) : Fld := ⟨(RAD_PORT_CFG n), 0, 1⟩
abbrev RAD_PORT_CFG_RATE (n : Nat) : Fld := ⟨(RAD_PORT_CFG n), 1, 2⟩
abbrev RAD_PORT_CFG_DUPLEX (n : Nat) : Fld := ⟨(RAD_PORT_CFG n), 3, 1⟩
abbrev RAD_PORT_CFG_RX_INV (n : Nat) : Fld := ⟨(RAD_PORT_CFG n), 4, 1⟩
abbrev RAD_PORT_CFG_TX_INV (n : Nat) : Fld := ⟨(RAD_PORT_CFG n), 5, 1⟩
abbrev RAD_PORT_CFG_PAEN_POL (n : Nat) : Fld := ⟨(RAD_PORT_CFG n), 6, 1⟩
abbrev RAD_PORT_CFG_TRSW_POL (n : Nat) : Fld := ⟨(RAD_PORT_CFG n), 7, 1⟩
abbrev RAD_PORT_CFG_TRSW_LEAD (n : Nat) : Fld := ⟨(RAD_PORT_CFG n), 8, 4⟩
abbrev RAD_PORT_CFG_TRSW_LAG (n : Nat) : Fld := ⟨(RAD_PORT_CFG n), 12, 4⟩
/-- RAD_PORT_LAT_n: [15:0] receive latency in ns; [31:16] transmit latency in ns -/
abbrev RAD_PORT_LAT (n : Nat) : Nat := 0x0A1004 + 0x400 * n
abbrev RAD_PORT_LAT_RX (n : Nat) : Fld := ⟨(RAD_PORT_LAT n), 0, 16⟩
abbrev RAD_PORT_LAT_TX (n : Nat) : Fld := ⟨(RAD_PORT_LAT n), 16, 16⟩
/-- RAD_RAMP_CFG_n: [5:0] RAMP_US, 2 to 32, default 4; [14:8] PREEMPT in 100 ns, 10 to 70, default 40; both clamped -/
abbrev RAD_RAMP_CFG (n : Nat) : Nat := 0x0A1008 + 0x400 * n
abbrev RAD_RAMP_CFG_RAMP_US (n : Nat) : Fld := ⟨(RAD_RAMP_CFG n), 0, 6⟩
abbrev RAD_RAMP_CFG_PREEMPT (n : Nat) : Fld := ⟨(RAD_RAMP_CFG n), 8, 7⟩
/-- RAD_PORT_STAT_n: See field table -/
abbrev RAD_PORT_STAT (n : Nat) : Nat := 0x0A100C + 0x400 * n
abbrev RAD_PORT_STAT_CLK_OK (n : Nat) : Fld := ⟨(RAD_PORT_STAT n), 0, 1⟩
abbrev RAD_PORT_STAT_TX_ACTIVE (n : Nat) : Fld := ⟨(RAD_PORT_STAT n), 1, 1⟩
abbrev RAD_PORT_STAT_FRAME_ERR (n : Nat) : Fld := ⟨(RAD_PORT_STAT n), 8, 8⟩
abbrev RAD_PORT_STAT_RX_POWER (n : Nat) : Fld := ⟨(RAD_PORT_STAT n), 16, 16⟩
/-- RAD_PORT_CLIP_n: Clipped receive samples -/
abbrev RAD_PORT_CLIP (n : Nat) : Nat := 0x0A1010 + 0x400 * n
/-- RAD_TX_CORR_n: [15:0] gain, [31:16] phase correction, each signed, in 2^−15 -/
abbrev RAD_TX_CORR (n : Nat) : Nat := 0x0A1014 + 0x400 * n
abbrev RAD_TX_CORR_GAIN (n : Nat) : Fld := ⟨(RAD_TX_CORR n), 0, 16⟩
abbrev RAD_TX_CORR_PHASE (n : Nat) : Fld := ⟨(RAD_TX_CORR n), 16, 16⟩
/-- RAD_TX_DC_n: [15:0] I, [31:16] Q offset, signed, in 1/16 LSB -/
abbrev RAD_TX_DC (n : Nat) : Nat := 0x0A1018 + 0x400 * n
abbrev RAD_TX_DC_I (n : Nat) : Fld := ⟨(RAD_TX_DC n), 0, 16⟩
abbrev RAD_TX_DC_Q (n : Nat) : Fld := ⟨(RAD_TX_DC n), 16, 16⟩
/-- RAD_RX_CORR_n: As RAD_TX_CORR_n, for receive -/
abbrev RAD_RX_CORR (n : Nat) : Nat := 0x0A101C + 0x400 * n
abbrev RAD_RX_CORR_GAIN (n : Nat) : Fld := ⟨(RAD_RX_CORR n), 0, 16⟩
abbrev RAD_RX_CORR_PHASE (n : Nat) : Fld := ⟨(RAD_RX_CORR n), 16, 16⟩
/-- RAD_SPI_CTRL_n: Fields as GNS_SPI_CTRL, with SEL reserved -/
abbrev RAD_SPI_CTRL (n : Nat) : Nat := 0x0A1020 + 0x400 * n
abbrev RAD_SPI_CTRL_WBITS (n : Nat) : Fld := ⟨(RAD_SPI_CTRL n), 2, 6⟩
abbrev RAD_SPI_CTRL_RBITS (n : Nat) : Fld := ⟨(RAD_SPI_CTRL n), 8, 6⟩
abbrev RAD_SPI_CTRL_GO (n : Nat) : Fld := ⟨(RAD_SPI_CTRL n), 15, 1⟩
abbrev RAD_SPI_CTRL_DIV (n : Nat) : Fld := ⟨(RAD_SPI_CTRL n), 16, 8⟩
/-- RAD_SPI_DATA_n: As GNS_SPI_DATA -/
abbrev RAD_SPI_DATA (n : Nat) : Nat := 0x0A1024 + 0x400 * n
/-- RAD_RX_CFG_n_j: Receive channel j (0 to 31); see field table -/
abbrev RAD_RX_CFG (n : Nat) (j : Nat) : Nat := 0x0A1100 + 0x400 * n + 0x8 * j
abbrev RAD_RX_CFG_ENABLE (n : Nat) (j : Nat) : Fld := ⟨(RAD_RX_CFG n j), 0, 1⟩
abbrev RAD_RX_CFG_FEC (n : Nat) (j : Nat) : Fld := ⟨(RAD_RX_CFG n j), 1, 1⟩
abbrev RAD_RX_CFG_MODE (n : Nat) (j : Nat) : Fld := ⟨(RAD_RX_CFG n j), 8, 8⟩
abbrev RAD_RX_CFG_DET_THRESH (n : Nat) (j : Nat) : Fld := ⟨(RAD_RX_CFG n j), 16, 8⟩
/-- RAD_RX_OFS_n_j: Offset from port centre in Hz, signed -/
abbrev RAD_RX_OFS (n : Nat) (j : Nat) : Nat := 0x0A1104 + 0x400 * n + 0x8 * j
/-- RAD_TX_CFG_n_j: Transmit channel j (0 to 3); see field table -/
abbrev RAD_TX_CFG (n : Nat) (j : Nat) : Nat := 0x0A1200 + 0x400 * n + 0x8 * j
abbrev RAD_TX_CFG_ENABLE (n : Nat) (j : Nat) : Fld := ⟨(RAD_TX_CFG n j), 0, 1⟩
abbrev RAD_TX_CFG_FEC (n : Nat) (j : Nat) : Fld := ⟨(RAD_TX_CFG n j), 1, 1⟩
abbrev RAD_TX_CFG_MODE (n : Nat) (j : Nat) : Fld := ⟨(RAD_TX_CFG n j), 8, 8⟩
abbrev RAD_TX_CFG_ATTEN (n : Nat) (j : Nat) : Fld := ⟨(RAD_TX_CFG n j), 16, 6⟩
/-- RAD_TX_OFS_n_j: Offset from port centre in Hz, signed -/
abbrev RAD_TX_OFS (n : Nat) (j : Nat) : Nat := 0x0A1204 + 0x400 * n + 0x8 * j
/-- RAD_RAMP_TAB_n_i: [9:0] ramp level, entry i (0 to 63) -/
abbrev RAD_RAMP_TAB (n : Nat) (i : Nat) : Nat := 0x0A1300 + 0x400 * n + 0x4 * i
abbrev RAD_RAMP_TAB_LEVEL (n : Nat) (i : Nat) : Fld := ⟨(RAD_RAMP_TAB n i), 0, 10⟩

/-! ### FLEET (0x0B) -/
/-- FLT_CFG: See field table -/
abbrev FLT_CFG : Nat := 0x0B0010
abbrev FLT_CFG_NET_ID : Fld := ⟨FLT_CFG, 0, 16⟩
abbrev FLT_CFG_BEACON_MCS : Fld := ⟨FLT_CFG, 16, 3⟩
abbrev FLT_CFG_TIMEOUT : Fld := ⟨FLT_CFG, 20, 4⟩
abbrev FLT_CFG_ENABLE : Fld := ⟨FLT_CFG, 24, 1⟩
/-- FLT_STATUS: See field table -/
abbrev FLT_STATUS : Nat := 0x0B0014
abbrev FLT_STATUS_BEACONING : Fld := ⟨FLT_STATUS, 0, 1⟩
abbrev FLT_STATUS_STOP_IN_BEACON : Fld := ⟨FLT_STATUS, 1, 1⟩
abbrev FLT_STATUS_CHANNELS : Fld := ⟨FLT_STATUS, 8, 8⟩
abbrev FLT_STATUS_ROBOTS : Fld := ⟨FLT_STATUS, 16, 9⟩
/-- FLT_SF_LO: Current superframe number [31:0] -/
abbrev FLT_SF_LO : Nat := 0x0B0018
/-- FLT_SF_HI: Current superframe number [63:32] -/
abbrev FLT_SF_HI : Nat := 0x0B001C
/-- FLT_CHAN_n: Fleet channel n (0 to 7); see field table -/
abbrev FLT_CHAN (n : Nat) : Nat := 0x0B0020 + 0x4 * n
abbrev FLT_CHAN_ENABLE (n : Nat) : Fld := ⟨(FLT_CHAN n), 0, 1⟩
abbrev FLT_CHAN_PORT (n : Nat) : Fld := ⟨(FLT_CHAN n), 1, 3⟩
abbrev FLT_CHAN_TXCH (n : Nat) : Fld := ⟨(FLT_CHAN n), 4, 2⟩
abbrev FLT_CHAN_RXCH (n : Nat) : Fld := ⟨(FLT_CHAN n), 8, 5⟩
/-- FLT_RX_OK: Uplink frames delivered -/
abbrev FLT_RX_OK : Nat := 0x0B0040
/-- FLT_RX_AUTH_FAIL: Frames failing key generation or MIC -/
abbrev FLT_RX_AUTH_FAIL : Nat := 0x0B0044
/-- FLT_RX_DUP: Duplicates (R171) -/
abbrev FLT_RX_DUP : Nat := 0x0B0048
/-- FLT_RX_STALE: Frames dropped as foreign, unknown, out of stroke, too old, too long, or with an element running past the MIC (R170) -/
abbrev FLT_RX_STALE : Nat := 0x0B004C
/-- FLT_RX_EPOCH_AHEAD: Frames carrying a higher epoch -/
abbrev FLT_RX_EPOCH_AHEAD : Nat := 0x0B0050
/-- FLT_BCN_DEFER: Beacon elements carried over -/
abbrev FLT_BCN_DEFER : Nat := 0x0B0054
/-- FLT_UNSLOTTED: Frames outside their sender's slots -/
abbrev FLT_UNSLOTTED : Nat := 0x0B0058
/-- FLT_DATA_DROP: IPv6 packets dropped: over MTU or incomplete -/
abbrev FLT_DATA_DROP : Nat := 0x0B005C
/-- FLT_SILENT_SF: [15:0] superframes, 1 to 65,535; default 50; 0 reads as 1 -/
abbrev FLT_SILENT_SF : Nat := 0x0B0060
abbrev FLT_SILENT_SF_SUPERFRAMES : Fld := ⟨FLT_SILENT_SF, 0, 16⟩

/-! ### BASELINE (0x0C) -/
/-- BSL_CFG: See field table -/
abbrev BSL_CFG : Nat := 0x0C0010
abbrev BSL_CFG_ENABLE : Fld := ⟨BSL_CFG, 0, 1⟩
abbrev BSL_CFG_CORR_BEACON : Fld := ⟨BSL_CFG, 1, 1⟩
abbrev BSL_CFG_CORR_HOST : Fld := ⟨BSL_CFG, 2, 1⟩
abbrev BSL_CFG_DEADLINE : Fld := ⟨BSL_CFG, 8, 8⟩
abbrev BSL_CFG_MAX_AGE : Fld := ⟨BSL_CFG, 16, 16⟩
/-- BSL_STATUS: See field table -/
abbrev BSL_STATUS : Nat := 0x0C0014
abbrev BSL_STATUS_CORR_ACTIVE : Fld := ⟨BSL_STATUS, 0, 1⟩
abbrev BSL_STATUS_NO_ARP : Fld := ⟨BSL_STATUS, 1, 1⟩
abbrev BSL_STATUS_CLOCK_FAR : Fld := ⟨BSL_STATUS, 2, 1⟩
abbrev BSL_STATUS_LANES_BUSY : Fld := ⟨BSL_STATUS, 8, 5⟩
abbrev BSL_STATUS_ROVERS : Fld := ⟨BSL_STATUS, 16, 9⟩
/-- BSL_AR_CFG: See field table -/
abbrev BSL_AR_CFG : Nat := 0x0C0018
abbrev BSL_AR_CFG_RATIO : Fld := ⟨BSL_AR_CFG, 0, 8⟩
abbrev BSL_AR_CFG_MIN_DD : Fld := ⟨BSL_AR_CFG, 8, 8⟩
abbrev BSL_AR_CFG_ELEV_MASK : Fld := ⟨BSL_AR_CFG, 16, 8⟩
/-- BSL_PL_CFG: See field table -/
abbrev BSL_PL_CFG : Nat := 0x0C001C
abbrev BSL_PL_CFG_K_H : Fld := ⟨BSL_PL_CFG, 0, 8⟩
abbrev BSL_PL_CFG_K_V : Fld := ⟨BSL_PL_CFG, 8, 8⟩
abbrev BSL_PL_CFG_B_MM : Fld := ⟨BSL_PL_CFG, 16, 16⟩
/-- BSL_SIGMA_CFG: [15:0] CODE_MM, zenith code σ in mm, default 300; [31:16] CARRIER, zenith carrier σ in 0.1 mm, default 30 -/
abbrev BSL_SIGMA_CFG : Nat := 0x0C0020
abbrev BSL_SIGMA_CFG_CODE_MM : Fld := ⟨BSL_SIGMA_CFG, 0, 16⟩
abbrev BSL_SIGMA_CFG_CARRIER : Fld := ⟨BSL_SIGMA_CFG, 16, 16⟩
/-- BSL_MAX_BASELINE: Metres; default 10,000 -/
abbrev BSL_MAX_BASELINE : Nat := 0x0C0024
/-- BSL_ORIGIN_X_LO: Origin X [31:0] -/
abbrev BSL_ORIGIN_X_LO : Nat := 0x0C0028
/-- BSL_ORIGIN_X_HI: Origin X [37:32] -/
abbrev BSL_ORIGIN_X_HI : Nat := 0x0C002C
/-- BSL_ORIGIN_Y_LO: Origin Y [31:0] -/
abbrev BSL_ORIGIN_Y_LO : Nat := 0x0C0030
/-- BSL_ORIGIN_Y_HI: Origin Y [37:32] -/
abbrev BSL_ORIGIN_Y_HI : Nat := 0x0C0034
/-- BSL_ORIGIN_Z_LO: Origin Z [31:0] -/
abbrev BSL_ORIGIN_Z_LO : Nat := 0x0C0038
/-- BSL_ORIGIN_Z_HI: Origin Z [37:32] -/
abbrev BSL_ORIGIN_Z_HI : Nat := 0x0C003C
/-- BSL_CORR_FRAG: [8:0] CORR fragment bytes, 32 to 480, clamped; default 240 -/
abbrev BSL_CORR_FRAG : Nat := 0x0C0040
abbrev BSL_CORR_FRAG_FRAG : Fld := ⟨BSL_CORR_FRAG, 0, 9⟩
/-- BSL_SOLVED: Jobs finished -/
abbrev BSL_SOLVED : Nat := 0x0C0044
/-- BSL_FIXED: Jobs finished with STATUS fixed -/
abbrev BSL_FIXED : Nat := 0x0C0048
/-- BSL_MISSED: Jobs abandoned (R198) -/
abbrev BSL_MISSED : Nat := 0x0C004C
/-- BSL_SUPERSEDED: Jobs replaced (R197) -/
abbrev BSL_SUPERSEDED : Nat := 0x0C0050
/-- BSL_OBS_REJECT: RAWOBS discarded (R194) -/
abbrev BSL_OBS_REJECT : Nat := 0x0C0054
/-- BSL_HOST_MISS: Items finding no posted buffer -/
abbrev BSL_HOST_MISS : Nat := 0x0C0058
/-- BSL_CORR_WITHHELD: Correction epochs withheld -/
abbrev BSL_CORR_WITHHELD : Nat := 0x0C005C
/-- BSL_PEAK_STEPS: [15:0] most lane steps taken by one job -/
abbrev BSL_PEAK_STEPS : Nat := 0x0C0060
abbrev BSL_PEAK_STEPS_N : Fld := ⟨BSL_PEAK_STEPS, 0, 16⟩

/-! ### ALLOT (0x0D) -/
/-- ALT_CFG: See field table -/
abbrev ALT_CFG : Nat := 0x0D0010
abbrev ALT_CFG_ENABLE : Fld := ⟨ALT_CFG, 0, 1⟩
abbrev ALT_CFG_FLEET_PRIO : Fld := ⟨ALT_CFG, 4, 4⟩
abbrev ALT_CFG_MIN_STATUS : Fld := ⟨ALT_CFG, 8, 2⟩
abbrev ALT_CFG_ROBOT_MAX : Fld := ⟨ALT_CFG, 16, 7⟩
abbrev ALT_CFG_REPLY_REPEAT : Fld := ⟨ALT_CFG, 24, 3⟩
/-- ALT_STATUS: See field table -/
abbrev ALT_STATUS : Nat := 0x0D0014
abbrev ALT_STATUS_ROADMAP : Fld := ⟨ALT_STATUS, 0, 1⟩
abbrev ALT_STATUS_STOPPED : Fld := ⟨ALT_STATUS, 8, 9⟩
abbrev ALT_STATUS_GRANTS : Fld := ⟨ALT_STATUS, 17, 15⟩
/-- ALT_ROADMAP_ID: ROADMAP_ID of the roadmap in force -/
abbrev ALT_ROADMAP_ID : Nat := 0x0D0018
/-- ALT_LEASE: Strokes; default 1,200; 200 to 40,000, clamped -/
abbrev ALT_LEASE : Nat := 0x0D001C
/-- ALT_LATE_GRACE: Strokes; default 400; 40 to 4,000, clamped -/
abbrev ALT_LATE_GRACE : Nat := 0x0D0020
/-- ALT_STOP_LEAD: Strokes; default 4,000; 0 to 40,000, clamped -/
abbrev ALT_STOP_LEAD : Nat := 0x0D0024
/-- ALT_STILL_MM: [15:0] mm; default 300 -/
abbrev ALT_STILL_MM : Nat := 0x0D0028
abbrev ALT_STILL_MM_MM : Fld := ⟨ALT_STILL_MM, 0, 16⟩
/-- ALT_HOLDS: [14:0] holds standing -/
abbrev ALT_HOLDS : Nat := 0x0D002C
abbrev ALT_HOLDS_N : Fld := ⟨ALT_HOLDS, 0, 15⟩
/-- ALT_CLAIMS: Claims granted -/
abbrev ALT_CLAIMS : Nat := 0x0D0030
/-- ALT_REFUSED: Claims refused or discarded -/
abbrev ALT_REFUSED : Nat := 0x0D0034
/-- ALT_CONFORM_STOPS: Conformance stops raised -/
abbrev ALT_CONFORM_STOPS : Nat := 0x0D0038
/-- ALT_REVOKES: Revocations sent -/
abbrev ALT_REVOKES : Nat := 0x0D003C
/-- ALT_FIX_CHECKED: Fixes checked -/
abbrev ALT_FIX_CHECKED : Nat := 0x0D0040
/-- ALT_FIX_STALE: Fixes ignored or unchecked -/
abbrev ALT_FIX_STALE : Nat := 0x0D0044
/-- ALT_PEAK_NS: [17:0] longest claim check in ns since last read -/
abbrev ALT_PEAK_NS : Nat := 0x0D0048
abbrev ALT_PEAK_NS_NS : Fld := ⟨ALT_PEAK_NS, 0, 18⟩
/-- ALT_HOST_MISS: Items finding no posted buffer -/
abbrev ALT_HOST_MISS : Nat := 0x0D004C

/-! ### STOP (0x0E) -/
/-- STP_STATUS: See field table -/
abbrev STP_STATUS : Nat := 0x0E0010
abbrev STP_STATUS_WAVE : Fld := ⟨STP_STATUS, 0, 1⟩
abbrev STP_STATUS_IN_A_STOP : Fld := ⟨STP_STATUS, 1, 1⟩
abbrev STP_STATUS_IN_B_STOP : Fld := ⟨STP_STATUS, 2, 1⟩
abbrev STP_STATUS_DISCREP : Fld := ⟨STP_STATUS, 3, 1⟩
abbrev STP_STATUS_OUT_FAULT : Fld := ⟨STP_STATUS, 4, 1⟩
abbrev STP_STATUS_OUT_A_RUN : Fld := ⟨STP_STATUS, 5, 1⟩
abbrev STP_STATUS_OUT_B_RUN : Fld := ⟨STP_STATUS, 6, 1⟩
abbrev STP_STATUS_FRAME_PHASE : Fld := ⟨STP_STATUS, 7, 1⟩
abbrev STP_STATUS_CAUSES : Fld := ⟨STP_STATUS, 8, 4⟩
abbrev STP_STATUS_ROBOTS : Fld := ⟨STP_STATUS, 16, 9⟩
/-- STP_CFG: See field table -/
abbrev STP_CFG : Nat := 0x0E0014
abbrev STP_CFG_FILTER : Fld := ⟨STP_CFG, 0, 8⟩
abbrev STP_CFG_OUT_TEST_EN : Fld := ⟨STP_CFG, 8, 1⟩
abbrev STP_CFG_PAIR_STOP_EN : Fld := ⟨STP_CFG, 9, 3⟩
abbrev STP_CFG_ROBOT_OUT : Fld := ⟨STP_CFG, 12, 1⟩
/-- STP_DISCREP: Strokes; default 200; 4 to 4,000, clamped -/
abbrev STP_DISCREP : Nat := 0x0E0018
/-- STP_RUN_QUAL: Strokes; default 400; 4 to 40,000, clamped -/
abbrev STP_RUN_QUAL : Nat := 0x0E001C
/-- STP_KGEN: [7:0] stop key generation in force; 0 while no site slot is loaded, 1 from the first import (R386) -/
abbrev STP_KGEN : Nat := 0x0E0020
abbrev STP_KGEN_GEN : Fld := ⟨STP_KGEN, 0, 8⟩
/-- STP_LAST_SN_LO: SN of the last qualification [31:0] -/
abbrev STP_LAST_SN_LO : Nat := 0x0E0024
/-- STP_LAST_SN_HI: SN of the last qualification [63:32] -/
abbrev STP_LAST_SN_HI : Nat := 0x0E0028
/-- STP_LAST_NS: [17:0] ns of the last qualification within its stroke -/
abbrev STP_LAST_NS : Nat := 0x0E002C
abbrev STP_LAST_NS_NS : Fld := ⟨STP_LAST_NS, 0, 18⟩
/-- STP_WORST_NS: [19:0] longest time from qualification to the end of a first frame -/
abbrev STP_WORST_NS : Nat := 0x0E0030
abbrev STP_WORST_NS_NS : Fld := ⟨STP_WORST_NS, 0, 20⟩
/-- STP_WAVES: Waves raised -/
abbrev STP_WAVES : Nat := 0x0E0034
/-- STP_ROBOT_STOPS: ROBOT stops raised -/
abbrev STP_ROBOT_STOPS : Nat := 0x0E0038
/-- STP_FRAMES: Stop frames sent -/
abbrev STP_FRAMES : Nat := 0x0E003C
/-- STP_ROBOT_MAP_n: Bit i: robot 32n + i stopped, n = 0 to 7 -/
abbrev STP_ROBOT_MAP (n : Nat) : Nat := 0x0E0100 + 0x4 * n

/-! ### MESH (0x0F) -/
/-- MSH_STATUS: See field table -/
abbrev MSH_STATUS : Nat := 0x0F0010
abbrev MSH_STATUS_RUNNING : Fld := ⟨MSH_STATUS, 0, 1⟩
abbrev MSH_STATUS_NBR_FULL : Fld := ⟨MSH_STATUS, 1, 1⟩
abbrev MSH_STATUS_NEIGHBOURS : Fld := ⟨MSH_STATUS, 16, 15⟩
/-- MSH_CFG: See field table -/
abbrev MSH_CFG : Nat := 0x0F0014
abbrev MSH_CFG_ENABLE : Fld := ⟨MSH_CFG, 0, 1⟩
abbrev MSH_CFG_SEC_LEVEL : Fld := ⟨MSH_CFG, 1, 2⟩
abbrev MSH_CFG_MAX_RETRIES : Fld := ⟨MSH_CFG, 4, 3⟩
abbrev MSH_CFG_DRIFT_PPM : Fld := ⟨MSH_CFG, 16, 8⟩
/-- MSH_TEMPLATE: [15:0] TX_OFFSET_US, default 2,120; [31:16] ACK_DELAY_US, default 1,000 -/
abbrev MSH_TEMPLATE : Nat := 0x0F0018
abbrev MSH_TEMPLATE_TX_OFFSET_US : Fld := ⟨MSH_TEMPLATE, 0, 16⟩
abbrev MSH_TEMPLATE_ACK_DELAY_US : Fld := ⟨MSH_TEMPLATE, 16, 16⟩
/-- MSH_GUARD: [15:0] GUARD_US, default 1,100; [31:16] ACK_GUARD_US, default 400 -/
abbrev MSH_GUARD : Nat := 0x0F001C
abbrev MSH_GUARD_GUARD_US : Fld := ⟨MSH_GUARD, 0, 16⟩
abbrev MSH_GUARD_ACK_GUARD_US : Fld := ⟨MSH_GUARD, 16, 16⟩
/-- MSH_WIDE_US: [15:0] widened window half-width in µs; default 2,000 -/
abbrev MSH_WIDE_US : Nat := 0x0F0020
abbrev MSH_WIDE_US_US : Fld := ⟨MSH_WIDE_US, 0, 16⟩
/-- MSH_PEND_CFG: [15:0] PERSIST in timeslots, default 768 (7.68 s); [19:16] PEND_DEPTH, 1 to 8, default 4, clamped -/
abbrev MSH_PEND_CFG : Nat := 0x0F0024
abbrev MSH_PEND_CFG_PERSIST : Fld := ⟨MSH_PEND_CFG, 0, 16⟩
abbrev MSH_PEND_CFG_PEND_DEPTH : Fld := ⟨MSH_PEND_CFG, 16, 4⟩
/-- MSH_CSMA_CFG: See field table -/
abbrev MSH_CSMA_CFG : Nat := 0x0F0028
abbrev MSH_CSMA_CFG_MIN_BE : Fld := ⟨MSH_CSMA_CFG, 0, 4⟩
abbrev MSH_CSMA_CFG_MAX_BE : Fld := ⟨MSH_CSMA_CFG, 4, 4⟩
abbrev MSH_CSMA_CFG_MAX_BACKOFFS : Fld := ⟨MSH_CSMA_CFG, 8, 3⟩
abbrev MSH_CSMA_CFG_TSCH_MIN_BE : Fld := ⟨MSH_CSMA_CFG, 12, 4⟩
abbrev MSH_CSMA_CFG_TSCH_MAX_BE : Fld := ⟨MSH_CSMA_CFG, 16, 4⟩
abbrev MSH_CSMA_CFG_CCA_DBFS : Fld := ⟨MSH_CSMA_CFG, 20, 8⟩
/-- MSH_CTR_SKIP: Counter advance at authority (R272); 0 reads as 1 -/
abbrev MSH_CTR_SKIP : Nat := 0x0F002C
/-- MSH_EUI_LO: Device EUI-64 [31:0]; equal in both units of a pair -/
abbrev MSH_EUI_LO : Nat := 0x0F0030
/-- MSH_EUI_HI: Device EUI-64 [63:32] -/
abbrev MSH_EUI_HI : Nat := 0x0F0034
/-- MSH_SHORT_ADDR: [15:0] device short address on legacy channels -/
abbrev MSH_SHORT_ADDR : Nat := 0x0F0038
abbrev MSH_SHORT_ADDR_ADDR : Fld := ⟨MSH_SHORT_ADDR, 0, 16⟩
/-- MSH_RX_OK: Frames delivered -/
abbrev MSH_RX_OK : Nat := 0x0F0040
/-- MSH_RX_DUP: Duplicates (R270) -/
abbrev MSH_RX_DUP : Nat := 0x0F0044
/-- MSH_RX_REPLAY: Replays (R270) -/
abbrev MSH_RX_REPLAY : Nat := 0x0F0048
/-- MSH_RX_AUTH_FAIL: MIC failures and stale key generations -/
abbrev MSH_RX_AUTH_FAIL : Nat := 0x0F004C
/-- MSH_RX_UNKNOWN: Frames from nodes not in the node register -/
abbrev MSH_RX_UNKNOWN : Nat := 0x0F0050
/-- MSH_RX_FILTERED: Legacy frames dropped by R273 -/
abbrev MSH_RX_FILTERED : Nat := 0x0F0054
/-- MSH_TX_OK: Frames acknowledged, or broadcast frames sent -/
abbrev MSH_TX_OK : Nat := 0x0F0058
/-- MSH_TX_FAIL: Frames dropped after their retries -/
abbrev MSH_TX_FAIL : Nat := 0x0F005C
/-- MSH_TX_CCA_FAIL: Channel access failures -/
abbrev MSH_TX_CCA_FAIL : Nat := 0x0F0060
/-- MSH_ACK_LATE: Acknowledgements not sent (R265) -/
abbrev MSH_ACK_LATE : Nat := 0x0F0064
/-- MSH_CELL_MISSED: Cells skipped or lost (R263) -/
abbrev MSH_CELL_MISSED : Nat := 0x0F0068
/-- MSH_NBR_EVICT: Neighbour entries evicted -/
abbrev MSH_NBR_EVICT : Nat := 0x0F006C
/-- MSH_PEND_EXPIRED: Indirect frames expired -/
abbrev MSH_PEND_EXPIRED : Nat := 0x0F0070
/-- MSH_NBR_STATES: [15:0] neighbours DRIFTED; [31:16] neighbours LOST -/
abbrev MSH_NBR_STATES : Nat := 0x0F0080
abbrev MSH_NBR_STATES_DRIFTED : Fld := ⟨MSH_NBR_STATES, 0, 16⟩
abbrev MSH_NBR_STATES_LOST : Fld := ⟨MSH_NBR_STATES, 16, 16⟩
/-- MSH_CHAN_n: Mesh channel n (0 to 63); see field table -/
abbrev MSH_CHAN (n : Nat) : Nat := 0x0F0100 + 0x4 * n
abbrev MSH_CHAN_ENABLE (n : Nat) : Fld := ⟨(MSH_CHAN n), 0, 1⟩
abbrev MSH_CHAN_LEGACY (n : Nat) : Fld := ⟨(MSH_CHAN n), 1, 1⟩
abbrev MSH_CHAN_PORT (n : Nat) : Fld := ⟨(MSH_CHAN n), 2, 3⟩
abbrev MSH_CHAN_RXCH (n : Nat) : Fld := ⟨(MSH_CHAN n), 5, 5⟩
abbrev MSH_CHAN_TXCH (n : Nat) : Fld := ⟨(MSH_CHAN n), 10, 2⟩
abbrev MSH_CHAN_FP_ALL (n : Nat) : Fld := ⟨(MSH_CHAN n), 12, 1⟩
abbrev MSH_CHAN_PAN_ID (n : Nat) : Fld := ⟨(MSH_CHAN n), 16, 16⟩
/-- MSH_HOP_CFG_s: Hopping sequence s (0 to 3): [4:0] LENGTH, 1 to 16, clamped; 0 reads as 1 -/
abbrev MSH_HOP_CFG (s : Nat) : Nat := 0x0F0200 + 0x4 * s
abbrev MSH_HOP_CFG_LENGTH (s : Nat) : Fld := ⟨(MSH_HOP_CFG s), 0, 5⟩
/-- MSH_HOP_s_i: Entry i (0 to 15) of sequence s: [5:0] mesh channel number -/
abbrev MSH_HOP (s : Nat) (i : Nat) : Nat := 0x0F0300 + 0x40 * s + 0x4 * i
abbrev MSH_HOP_CHAN (s : Nat) (i : Nat) : Fld := ⟨(MSH_HOP s i), 0, 6⟩
/-- MSH_NET_CFG: See field table -/
abbrev MSH_NET_CFG : Nat := 0x0F1000
abbrev MSH_NET_CFG_MAX_DEPTH : Fld := ⟨MSH_NET_CFG, 0, 4⟩
abbrev MSH_NET_CFG_OCP : Fld := ⟨MSH_NET_CFG, 4, 1⟩
abbrev MSH_NET_CFG_RPL_INSTANCE : Fld := ⟨MSH_NET_CFG, 8, 8⟩
abbrev MSH_NET_CFG_DIO_IMIN : Fld := ⟨MSH_NET_CFG, 16, 5⟩
abbrev MSH_NET_CFG_DIO_DOUBLINGS : Fld := ⟨MSH_NET_CFG, 24, 4⟩
/-- MSH_SF_LEN: [4:0] LOG2_SF, 9 to 16, clamped -/
abbrev MSH_SF_LEN : Nat := 0x0F1004
abbrev MSH_SF_LEN_LOG2_SF : Fld := ⟨MSH_SF_LEN, 0, 5⟩
/-- MSH_PATH_LIFE: [7:0] default lifetime; [31:16] lifetime unit in s; 3,600 s by default -/
abbrev MSH_PATH_LIFE : Nat := 0x0F1008
abbrev MSH_PATH_LIFE_LIFE : Fld := ⟨MSH_PATH_LIFE, 0, 8⟩
abbrev MSH_PATH_LIFE_UNIT : Fld := ⟨MSH_PATH_LIFE, 16, 16⟩
/-- MSH_REASM_S: [7:0] reassembly timeout in s, 1 to 255; 0 reads as 1 -/
abbrev MSH_REASM_S : Nat := 0x0F100C
abbrev MSH_REASM_S_S : Fld := ⟨MSH_REASM_S, 0, 8⟩
/-- MSH_CLUSTER_SWITCH: Timeslots from cluster REKEY to switch; default 8,640,000 (24 h) -/
abbrev MSH_CLUSTER_SWITCH : Nat := 0x0F1010
/-- MSH_UPD_CFG: [7:0] HDR_EVERY, 1 to 255; 0 reads as 1 -/
abbrev MSH_UPD_CFG : Nat := 0x0F1014
abbrev MSH_UPD_CFG_HDR_EVERY : Fld := ⟨MSH_UPD_CFG, 0, 8⟩
/-- MSH_NODES: [18:0] nodes commissioned -/
abbrev MSH_NODES : Nat := 0x0F1018
abbrev MSH_NODES_N : Fld := ⟨MSH_NODES, 0, 19⟩
/-- MSH_NODES_JOINED: [18:0] nodes joined -/
abbrev MSH_NODES_JOINED : Nat := 0x0F101C
abbrev MSH_NODES_JOINED_N : Fld := ⟨MSH_NODES_JOINED, 0, 19⟩
/-- MSH_UP_FREE: [19:0] uplink cells free -/
abbrev MSH_UP_FREE : Nat := 0x0F1020
abbrev MSH_UP_FREE_N : Fld := ⟨MSH_UP_FREE, 0, 20⟩
/-- MSH_UPD_STATUS: [2:0] images held; [6:4] campaigns running -/
abbrev MSH_UPD_STATUS : Nat := 0x0F1024
abbrev MSH_UPD_STATUS_IMAGES : Fld := ⟨MSH_UPD_STATUS, 0, 3⟩
abbrev MSH_UPD_STATUS_CAMPAIGNS : Fld := ⟨MSH_UPD_STATUS, 4, 3⟩
/-- MSH_DAO_RX: DAOs accepted -/
abbrev MSH_DAO_RX : Nat := 0x0F1028
/-- MSH_DAO_REJECT: DAOs rejected (R288) -/
abbrev MSH_DAO_REJECT : Nat := 0x0F102C
/-- MSH_STALE_KEY: Frames of stale generation (R298) -/
abbrev MSH_STALE_KEY : Nat := 0x0F1030
/-- MSH_SCHED_SENT: SCHEDULE messages sent -/
abbrev MSH_SCHED_SENT : Nat := 0x0F1034
/-- MSH_REASM_DROP: Fragments and packets dropped by R290 -/
abbrev MSH_REASM_DROP : Nat := 0x0F1038
/-- MSH_MSG_DROP: Management and update messages dropped by R291 -/
abbrev MSH_MSG_DROP : Nat := 0x0F103C
/-- MSH_UPD_FRAMES: UPDATE_BLOCK messages sent -/
abbrev MSH_UPD_FRAMES : Nat := 0x0F1040
/-- MSH_HOST_MISS: Items finding no posted buffer -/
abbrev MSH_HOST_MISS : Nat := 0x0F1044

/-! ### PAIR (0x10) -/
/-- PAI_CFG: See field table -/
abbrev PAI_CFG : Nat := 0x100010
abbrev PAI_CFG_ENABLE : Fld := ⟨PAI_CFG, 0, 1⟩
abbrev PAI_CFG_MATE_PORT : Fld := ⟨PAI_CFG, 1, 2⟩
abbrev PAI_CFG_AUTO_TAKEBACK : Fld := ⟨PAI_CFG, 3, 1⟩
abbrev PAI_CFG_AUTO_PRIME : Fld := ⟨PAI_CFG, 4, 1⟩
/-- PAI_STATUS: See field table -/
abbrev PAI_STATUS : Nat := 0x100014
abbrev PAI_STATUS_ROLE : Fld := ⟨PAI_STATUS, 0, 2⟩
abbrev PAI_STATUS_UNIT : Fld := ⟨PAI_STATUS, 2, 1⟩
abbrev PAI_STATUS_PREF : Fld := ⟨PAI_STATUS, 3, 1⟩
abbrev PAI_STATUS_MATE_LINK : Fld := ⟨PAI_STATUS, 4, 1⟩
abbrev PAI_STATUS_LEASE_LINK : Fld := ⟨PAI_STATUS, 5, 1⟩
abbrev PAI_STATUS_SOLO : Fld := ⟨PAI_STATUS, 6, 2⟩
abbrev PAI_STATUS_LEASE_VALID : Fld := ⟨PAI_STATUS, 8, 1⟩
abbrev PAI_STATUS_MATE_ROLE : Fld := ⟨PAI_STATUS, 9, 2⟩
abbrev PAI_STATUS_CFG_MISMATCH : Fld := ⟨PAI_STATUS, 11, 1⟩
abbrev PAI_STATUS_PRIMING : Fld := ⟨PAI_STATUS, 12, 1⟩
abbrev PAI_STATUS_HANDOVER : Fld := ⟨PAI_STATUS, 13, 1⟩
/-- PAI_EPOCH: Authority epoch known to this unit -/
abbrev PAI_EPOCH : Nat := 0x100018
/-- PAI_EPOCH_FLOOR: Lowest epoch the unit may reuse (R367) -/
abbrev PAI_EPOCH_FLOOR : Nat := 0x10001C
/-- PAI_HOLDOFF: Strokes of clean running before takeback; default 1,200,000 (300 s); 4,000 to 40,000,000, clamped -/
abbrev PAI_HOLDOFF : Nat := 0x100020
/-- PAI_PRIME_CLEAN: Equal digests needed to stand by; default 4,000; 400 to 400,000, clamped -/
abbrev PAI_PRIME_CLEAN : Nat := 0x100024
/-- PAI_CLEAN_RUN: Consecutive equal digests, saturating -/
abbrev PAI_CLEAN_RUN : Nat := 0x100028
/-- PAI_LAST_BAD_LO: SN of the last mismatch [31:0] -/
abbrev PAI_LAST_BAD_LO : Nat := 0x10002C
/-- PAI_LAST_BAD_HI: SN of the last mismatch [63:32] -/
abbrev PAI_LAST_BAD_HI : Nat := 0x100030
/-- PAI_HB_MISS: Log misses (standby) or ACK misses (primary) -/
abbrev PAI_HB_MISS : Nat := 0x100034
/-- PAI_ACK_LATE: Releases made after the release point (R362) -/
abbrev PAI_ACK_LATE : Nat := 0x100038
/-- PAI_OUT_DROPPED: Held outputs dropped for a missed launch time -/
abbrev PAI_OUT_DROPPED : Nat := 0x10003C
/-- PAI_DIGEST_BAD: Digest mismatches -/
abbrev PAI_DIGEST_BAD : Nat := 0x100040
/-- PAI_DIGEST_INC: Incomplete digests -/
abbrev PAI_DIGEST_INC : Nat := 0x100044
/-- PAI_TAKEOVERS: Authority assumed by this unit -/
abbrev PAI_TAKEOVERS : Nat := 0x100048
/-- PAI_TOKEN_ERR: Lease tokens failing MIC or SN -/
abbrev PAI_TOKEN_ERR : Nat := 0x10004C
/-- PAI_LOG_PEAK: [17:0] largest stroke log in bytes -/
abbrev PAI_LOG_PEAK : Nat := 0x100050
abbrev PAI_LOG_PEAK_BYTES : Fld := ⟨PAI_LOG_PEAK, 0, 18⟩
/-- PAI_FWD_PENDING: [15:0] forwarded descriptors awaiting result -/
abbrev PAI_FWD_PENDING : Nat := 0x100054
abbrev PAI_FWD_PENDING_N : Fld := ⟨PAI_FWD_PENDING, 0, 16⟩
/-- PAI_CFG_DIGEST_n: Configuration digest bytes 4n to 4n + 3, n = 0 to 7 -/
abbrev PAI_CFG_DIGEST (n : Nat) : Nat := 0x100060 + 0x4 * n

/-! ### KEYS (0x11) -/
/-- KEY_STATUS: See field table -/
abbrev KEY_STATUS : Nat := 0x110010
abbrev KEY_STATUS_SLOT_A : Fld := ⟨KEY_STATUS, 0, 1⟩
abbrev KEY_STATUS_SLOT_B : Fld := ⟨KEY_STATUS, 1, 1⟩
abbrev KEY_STATUS_NEWEST : Fld := ⟨KEY_STATUS, 2, 1⟩
abbrev KEY_STATUS_LOCKED : Fld := ⟨KEY_STATUS, 3, 1⟩
abbrev KEY_STATUS_ZEROISED : Fld := ⟨KEY_STATUS, 4, 1⟩
abbrev KEY_STATUS_TRNG_OK : Fld := ⟨KEY_STATUS, 5, 1⟩
/-- KEY_CFG: [15:0] REMASK_STROKES, 400 to 40,000, clamped; [16] EXPORT_EN -/
abbrev KEY_CFG : Nat := 0x110014
abbrev KEY_CFG_REMASK_STROKES : Fld := ⟨KEY_CFG, 0, 16⟩
abbrev KEY_CFG_EXPORT_EN : Fld := ⟨KEY_CFG, 16, 1⟩
/-- KEY_TAMP_CFG: See field table; held in AON -/
abbrev KEY_TAMP_CFG : Nat := 0x110018
abbrev KEY_TAMP_CFG_RESPONSE : Fld := ⟨KEY_TAMP_CFG, 0, 16⟩
abbrev KEY_TAMP_CFG_POL : Fld := ⟨KEY_TAMP_CFG, 16, 4⟩
abbrev KEY_TAMP_CFG_MESH_EN : Fld := ⟨KEY_TAMP_CFG, 20, 1⟩
/-- KEY_TAMP_LATCH: [7:0] bit s: source s latched -/
abbrev KEY_TAMP_LATCH : Nat := 0x11001C
abbrev KEY_TAMP_LATCH_BITS : Fld := ⟨KEY_TAMP_LATCH, 0, 8⟩
/-- KEY_TAMP_COUNT: Detections since VBAT was first applied -/
abbrev KEY_TAMP_COUNT : Nat := 0x110020
/-- KEY_CACHE_USE: [12:0] entries in use; [28:16] entries pinned -/
abbrev KEY_CACHE_USE : Nat := 0x110024
abbrev KEY_CACHE_USE_USED : Fld := ⟨KEY_CACHE_USE, 0, 13⟩
abbrev KEY_CACHE_USE_PINNED : Fld := ⟨KEY_CACHE_USE, 16, 13⟩
/-- KEY_CACHE_MISS: Derivations on a miss -/
abbrev KEY_CACHE_MISS : Nat := 0x110028
/-- KEY_REMASK_LAP: Strokes taken by the last re-mask lap -/
abbrev KEY_REMASK_LAP : Nat := 0x11002C
/-- KEY_FUSE_STATE: [2:0] hash slots programmed; [5:3] hash slots revoked; [8] ROOT programmed; [9] LOCK -/
abbrev KEY_FUSE_STATE : Nat := 0x110030
/-- KEY_ANTIROLL_LO: ANTIROLL [31:0] -/
abbrev KEY_ANTIROLL_LO : Nat := 0x110034
/-- KEY_ANTIROLL_HI: ANTIROLL [63:32] -/
abbrev KEY_ANTIROLL_HI : Nat := 0x110038
/-- KEY_SITE_TAG_A_LO: Slot A tag [31:0] -/
abbrev KEY_SITE_TAG_A_LO : Nat := 0x110040
/-- KEY_SITE_TAG_A_HI: Slot A tag [63:32] -/
abbrev KEY_SITE_TAG_A_HI : Nat := 0x110044
/-- KEY_SITE_TAG_B_LO: Slot B tag [31:0] -/
abbrev KEY_SITE_TAG_B_LO : Nat := 0x110048
/-- KEY_SITE_TAG_B_HI: Slot B tag [63:32] -/
abbrev KEY_SITE_TAG_B_HI : Nat := 0x11004C
/-- KEY_GEN: [7:0] FLEET, [15:8] STOP, [23:16] LOG generation in force; each 0 while no site slot is loaded, 1 from the first import (R386) -/
abbrev KEY_GEN : Nat := 0x110050
abbrev KEY_GEN_FLEET : Fld := ⟨KEY_GEN, 0, 8⟩
abbrev KEY_GEN_STOP : Fld := ⟨KEY_GEN, 8, 8⟩
abbrev KEY_GEN_LOG : Fld := ⟨KEY_GEN, 16, 8⟩

/-! ### WELLGATE (0x12) -/
/-- WLG_CFG: [0] ENABLE: credit granted and records delivered; [1] PROC_EN: PROCESS frames admitted -/
abbrev WLG_CFG : Nat := 0x120010
abbrev WLG_CFG_ENABLE : Fld := ⟨WLG_CFG, 0, 1⟩
abbrev WLG_CFG_PROC_EN : Fld := ⟨WLG_CFG, 1, 1⟩
/-- WLG_STATUS: See field table -/
abbrev WLG_STATUS : Nat := 0x120014
abbrev WLG_STATUS_LINK_UP : Fld := ⟨WLG_STATUS, 0, 1⟩
abbrev WLG_STATUS_WH_STATE : Fld := ⟨WLG_STATUS, 1, 2⟩
abbrev WLG_STATUS_SEAL_OPEN : Fld := ⟨WLG_STATUS, 3, 1⟩
abbrev WLG_STATUS_SEAL_FAULT : Fld := ⟨WLG_STATUS, 4, 1⟩
abbrev WLG_STATUS_BACKLOG : Fld := ⟨WLG_STATUS, 5, 1⟩
abbrev WLG_STATUS_HELD : Fld := ⟨WLG_STATUS, 8, 7⟩
abbrev WLG_STATUS_UNDELIVERED : Fld := ⟨WLG_STATUS, 16, 13⟩
/-- WLG_SERIAL_LO: Wellhouse serial [31:0], from HELLO -/
abbrev WLG_SERIAL_LO : Nat := 0x120018
/-- WLG_SERIAL_HI: Wellhouse serial [63:32] -/
abbrev WLG_SERIAL_HI : Nat := 0x12001C
/-- WLG_SW_ID: [15:0] software version (0x0100 for 1.00) -/
abbrev WLG_SW_ID : Nat := 0x120020
abbrev WLG_SW_ID_VER : Fld := ⟨WLG_SW_ID, 0, 16⟩
/-- WLG_SW_CHECK: Software checksum -/
abbrev WLG_SW_CHECK : Nat := 0x120024
/-- WLG_EVENT_CTR: EVENT_CTR from HELLO -/
abbrev WLG_EVENT_CTR : Nat := 0x120028
/-- WLG_LAST_SEQ: SEQ of the last record delivered -/
abbrev WLG_LAST_SEQ : Nat := 0x12002C
/-- WLG_RECORDS: Records delivered -/
abbrev WLG_RECORDS : Nat := 0x120030
/-- WLG_DUP: Records discarded as already received -/
abbrev WLG_DUP : Nat := 0x120034
/-- WLG_LINK_ERR: Frames failing their CRC -/
abbrev WLG_LINK_ERR : Nat := 0x120038
/-- WLG_REQ_TIMEOUT: Requests ended with TIMEOUT -/
abbrev WLG_REQ_TIMEOUT : Nat := 0x12003C
/-- WLG_NLW_n: Instrument n (0 to 3): non-legal weight in d, signed, from the last PROCESS frame -/
abbrev WLG_NLW (n : Nat) : Nat := 0x120100 + 0x8 * n
/-- WLG_RATE_n: Instrument n: rate in UNIT per second, binary32 -/
abbrev WLG_RATE (n : Nat) : Nat := 0x120104 + 0x8 * n

/-! ### MOTION (0x13) -/
/-- MOT_MOVING: [15:0] bit n: axis n moving -/
abbrev MOT_MOVING : Nat := 0x130010
abbrev MOT_MOVING_BITS : Fld := ⟨MOT_MOVING, 0, 16⟩
/-- MOT_GINH: [3:0] WL_GINH levels -/
abbrev MOT_GINH : Nat := 0x130014
abbrev MOT_GINH_LINES : Fld := ⟨MOT_GINH, 0, 4⟩
/-- MOT_FAULTS: Driver faults -/
abbrev MOT_FAULTS : Nat := 0x130018
/-- MOT_AXIS_CFG_n: See field table -/
abbrev MOT_AXIS_CFG (n : Nat) : Nat := 0x130100 + 0x40 * n
abbrev MOT_AXIS_CFG_ENABLE (n : Nat) : Fld := ⟨(MOT_AXIS_CFG n), 0, 1⟩
abbrev MOT_AXIS_CFG_MODE (n : Nat) : Fld := ⟨(MOT_AXIS_CFG n), 1, 1⟩
abbrev MOT_AXIS_CFG_RETAIN (n : Nat) : Fld := ⟨(MOT_AXIS_CFG n), 2, 1⟩
abbrev MOT_AXIS_CFG_DIR_INV (n : Nat) : Fld := ⟨(MOT_AXIS_CFG n), 3, 1⟩
abbrev MOT_AXIS_CFG_LIMP_POL (n : Nat) : Fld := ⟨(MOT_AXIS_CFG n), 4, 1⟩
abbrev MOT_AXIS_CFG_LIMN_POL (n : Nat) : Fld := ⟨(MOT_AXIS_CFG n), 5, 1⟩
abbrev MOT_AXIS_CFG_HOME_POL (n : Nat) : Fld := ⟨(MOT_AXIS_CFG n), 6, 1⟩
abbrev MOT_AXIS_CFG_STOP_WAVE (n : Nat) : Fld := ⟨(MOT_AXIS_CFG n), 7, 1⟩
abbrev MOT_AXIS_CFG_GINH_EN (n : Nat) : Fld := ⟨(MOT_AXIS_CFG n), 8, 1⟩
abbrev MOT_AXIS_CFG_GINH_LINE (n : Nat) : Fld := ⟨(MOT_AXIS_CFG n), 9, 2⟩
abbrev MOT_AXIS_CFG_GINH_DIR (n : Nat) : Fld := ⟨(MOT_AXIS_CFG n), 11, 2⟩
/-- MOT_CHOP_n: [6:0] F_CHOP in kHz, 20 to 80, clamped; [15:8] TOFF in 0.25 µs, 4 to 100, clamped; [19:16] FAST in 1/16; [27:24] BLANK in 0.25 µs -/
abbrev MOT_CHOP (n : Nat) : Nat := 0x130104 + 0x40 * n
abbrev MOT_CHOP_F_CHOP (n : Nat) : Fld := ⟨(MOT_CHOP n), 0, 7⟩
abbrev MOT_CHOP_TOFF (n : Nat) : Fld := ⟨(MOT_CHOP n), 8, 8⟩
abbrev MOT_CHOP_FAST (n : Nat) : Fld := ⟨(MOT_CHOP n), 16, 4⟩
abbrev MOT_CHOP_BLANK (n : Nat) : Fld := ⟨(MOT_CHOP n), 24, 4⟩
/-- MOT_CUR_n: [7:0] RUN; [15:8] HOLD; [31:16] HOLD_DELAY in strokes -/
abbrev MOT_CUR (n : Nat) : Nat := 0x130108 + 0x40 * n
abbrev MOT_CUR_RUN (n : Nat) : Fld := ⟨(MOT_CUR n), 0, 8⟩
abbrev MOT_CUR_HOLD (n : Nat) : Fld := ⟨(MOT_CUR n), 8, 8⟩
abbrev MOT_CUR_HOLD_DELAY (n : Nat) : Fld := ⟨(MOT_CUR n), 16, 16⟩
/-- MOT_VMODE_n: [7:0] AMP_0; [15:8] K_V; [23:16] K_LEAD -/
abbrev MOT_VMODE (n : Nat) : Nat := 0x13010C + 0x40 * n
abbrev MOT_VMODE_AMP_0 (n : Nat) : Fld := ⟨(MOT_VMODE n), 0, 8⟩
abbrev MOT_VMODE_K_V (n : Nat) : Fld := ⟨(MOT_VMODE n), 8, 8⟩
abbrev MOT_VMODE_K_LEAD (n : Nat) : Fld := ⟨(MOT_VMODE n), 16, 8⟩
/-- MOT_STOP_DEC_n: q per stroke²; 0 reads as 1 -/
abbrev MOT_STOP_DEC (n : Nat) : Nat := 0x130110 + 0x40 * n
/-- MOT_VMAX_n: q per stroke, 1 to 0x1000_0000, clamped -/
abbrev MOT_VMAX (n : Nat) : Nat := 0x130114 + 0x40 * n
/-- MOT_LIM_CFG_n: [7:0] LIM_FILT in µs, 0 reads as 1; [31:8] LIM_CLEAR in microsteps -/
abbrev MOT_LIM_CFG (n : Nat) : Nat := 0x130118 + 0x40 * n
abbrev MOT_LIM_CFG_LIM_FILT (n : Nat) : Fld := ⟨(MOT_LIM_CFG n), 0, 8⟩
abbrev MOT_LIM_CFG_LIM_CLEAR (n : Nat) : Fld := ⟨(MOT_LIM_CFG n), 8, 24⟩
/-- MOT_SAFE_V_n: q per stroke -/
abbrev MOT_SAFE_V (n : Nat) : Nat := 0x13011C + 0x40 * n
/-- MOT_POS_LO_n: Position [31:0] in microsteps; a read latches MOT_POS_HI_n -/
abbrev MOT_POS_LO (n : Nat) : Nat := 0x130120 + 0x40 * n
/-- MOT_POS_HI_n: [15:0] position [47:32]; [31:16] sign -/
abbrev MOT_POS_HI (n : Nat) : Nat := 0x130124 + 0x40 * n
/-- MOT_VEL_n: q per stroke, signed -/
abbrev MOT_VEL (n : Nat) : Nat := 0x130128 + 0x40 * n
/-- MOT_AX_STAT_n: See field table -/
abbrev MOT_AX_STAT (n : Nat) : Nat := 0x13012C + 0x40 * n
abbrev MOT_AX_STAT_MOVING (n : Nat) : Fld := ⟨(MOT_AX_STAT n), 0, 1⟩
abbrev MOT_AX_STAT_REFERENCED (n : Nat) : Fld := ⟨(MOT_AX_STAT n), 1, 1⟩
abbrev MOT_AX_STAT_HOMING (n : Nat) : Fld := ⟨(MOT_AX_STAT n), 2, 1⟩
abbrev MOT_AX_STAT_LIMP_LATCH (n : Nat) : Fld := ⟨(MOT_AX_STAT n), 3, 1⟩
abbrev MOT_AX_STAT_LIMN_LATCH (n : Nat) : Fld := ⟨(MOT_AX_STAT n), 4, 1⟩
abbrev MOT_AX_STAT_HOME (n : Nat) : Fld := ⟨(MOT_AX_STAT n), 5, 1⟩
abbrev MOT_AX_STAT_INHIBITED (n : Nat) : Fld := ⟨(MOT_AX_STAT n), 6, 1⟩
abbrev MOT_AX_STAT_FAULT (n : Nat) : Fld := ⟨(MOT_AX_STAT n), 7, 1⟩
abbrev MOT_AX_STAT_OVERSPEED (n : Nat) : Fld := ⟨(MOT_AX_STAT n), 8, 1⟩
abbrev MOT_AX_STAT_CHATTER (n : Nat) : Fld := ⟨(MOT_AX_STAT n), 9, 1⟩
abbrev MOT_AX_STAT_HOLDING (n : Nat) : Fld := ⟨(MOT_AX_STAT n), 10, 1⟩
abbrev MOT_AX_STAT_RETAINED (n : Nat) : Fld := ⟨(MOT_AX_STAT n), 11, 1⟩
abbrev MOT_AX_STAT_SEG (n : Nat) : Fld := ⟨(MOT_AX_STAT n), 16, 8⟩
/-- MOT_OC_n: [7:0] OC_LIMIT in 1/255 of 250 mV -/
abbrev MOT_OC (n : Nat) : Nat := 0x130130 + 0x40 * n
abbrev MOT_OC_OC_LIMIT (n : Nat) : Fld := ⟨(MOT_OC n), 0, 8⟩

/-! ### LOOPS (0x14) -/
/-- LOP_AI_EN: [15:0] bit i: analog input i sampled -/
abbrev LOP_AI_EN : Nat := 0x140010
abbrev LOP_AI_EN_BITS : Fld := ⟨LOP_AI_EN, 0, 16⟩
/-- LOP_PWM_FREQ: [16:0] PWM frequency in Hz, 250 to 100,000, clamped; default 20,000 -/
abbrev LOP_PWM_FREQ : Nat := 0x140014
abbrev LOP_PWM_FREQ_HZ : Fld := ⟨LOP_PWM_FREQ, 0, 17⟩
/-- LOP_AI_i: [15:0] last code, signed; [16] OVERRANGE -/
abbrev LOP_AI (i : Nat) : Nat := 0x140080 + 0x4 * i
abbrev LOP_AI_CODE (i : Nat) : Fld := ⟨(LOP_AI i), 0, 16⟩
abbrev LOP_AI_OVERRANGE (i : Nat) : Fld := ⟨(LOP_AI i), 16, 1⟩
/-- LOP_TRACE_CFG_t: Buffer t (0 to 7): [4:0] loop; [23:8] node codes, 4 bits each; [31:24] DECIM, 0 reads as 1 -/
abbrev LOP_TRACE_CFG (t : Nat) : Nat := 0x140200 + 0x8 * t
abbrev LOP_TRACE_CFG_LOOP (t : Nat) : Fld := ⟨(LOP_TRACE_CFG t), 0, 5⟩
abbrev LOP_TRACE_CFG_NODES (t : Nat) : Fld := ⟨(LOP_TRACE_CFG t), 8, 16⟩
abbrev LOP_TRACE_CFG_DECIM (t : Nat) : Fld := ⟨(LOP_TRACE_CFG t), 24, 8⟩
/-- LOP_TRACE_STAT_t: [12:0] samples held; [13] TRIGGERED; [14] RUNNING -/
abbrev LOP_TRACE_STAT (t : Nat) : Nat := 0x140204 + 0x8 * t
abbrev LOP_TRACE_STAT_HELD (t : Nat) : Fld := ⟨(LOP_TRACE_STAT t), 0, 13⟩
abbrev LOP_TRACE_STAT_TRIGGERED (t : Nat) : Fld := ⟨(LOP_TRACE_STAT t), 13, 1⟩
abbrev LOP_TRACE_STAT_RUNNING (t : Nat) : Fld := ⟨(LOP_TRACE_STAT t), 14, 1⟩
/-- LOP_CFG_n: See field table -/
abbrev LOP_CFG (n : Nat) : Nat := 0x141000 + 0x80 * n
abbrev LOP_CFG_ENABLE (n : Nat) : Fld := ⟨(LOP_CFG n), 0, 1⟩
abbrev LOP_CFG_SP_TRACK (n : Nat) : Fld := ⟨(LOP_CFG n), 1, 1⟩
abbrev LOP_CFG_FAIL_PERIODS (n : Nat) : Fld := ⟨(LOP_CFG n), 4, 4⟩
abbrev LOP_CFG_PERIOD (n : Nat) : Fld := ⟨(LOP_CFG n), 8, 12⟩
abbrev LOP_CFG_PHASE (n : Nat) : Fld := ⟨(LOP_CFG n), 20, 12⟩
/-- LOP_SRC_PV_n: PV source selector (R454) -/
abbrev LOP_SRC_PV (n : Nat) : Nat := 0x141004 + 0x80 * n
/-- LOP_SRC_FF_n: Feed-forward source selector -/
abbrev LOP_SRC_FF (n : Nat) : Nat := 0x141008 + 0x80 * n
/-- LOP_DST_n: Destination selector -/
abbrev LOP_DST (n : Nat) : Nat := 0x14100C + 0x80 * n
/-- LOP_PAR_n_g: binary32, g = 0 to 11: KP (1.0), KI (0), KD (0), TF in s (0), B (1.0), C (0), KFF (0), UMIN (0), UMAX (1.0), PV_SCALE (1.0), PV_OFS (0), FAILSAFE (0); -/
abbrev LOP_PAR (n : Nat) (g : Nat) : Nat := 0x141010 + 0x80 * n + 0x4 * g
/-- LOP_AGE_n: [31:0] largest source age in strokes; default 40,000 -/
abbrev LOP_AGE (n : Nat) : Nat := 0x141040 + 0x80 * n
/-- LOP_MSG_n: [15:0] MSG_MIN, default 4,000; [31:16] MSG_MAX, default 40,000; in strokes -/
abbrev LOP_MSG (n : Nat) : Nat := 0x141044 + 0x80 * n
abbrev LOP_MSG_MSG_MIN (n : Nat) : Fld := ⟨(LOP_MSG n), 0, 16⟩
abbrev LOP_MSG_MSG_MAX (n : Nat) : Fld := ⟨(LOP_MSG n), 16, 16⟩
/-- LOP_DEADBAND_n: DEADBAND, binary32 -/
abbrev LOP_DEADBAND (n : Nat) : Nat := 0x141048 + 0x80 * n
/-- LOP_STAT_n: See field table -/
abbrev LOP_STAT (n : Nat) : Nat := 0x14104C + 0x80 * n
abbrev LOP_STAT_MODE (n : Nat) : Fld := ⟨(LOP_STAT n), 0, 2⟩
abbrev LOP_STAT_SAT_HI (n : Nat) : Fld := ⟨(LOP_STAT n), 2, 1⟩
abbrev LOP_STAT_SAT_LO (n : Nat) : Fld := ⟨(LOP_STAT n), 3, 1⟩
abbrev LOP_STAT_STALE (n : Nat) : Fld := ⟨(LOP_STAT n), 4, 1⟩
abbrev LOP_STAT_OVR (n : Nat) : Fld := ⟨(LOP_STAT n), 5, 1⟩
abbrev LOP_STAT_FAILSAFE (n : Nat) : Fld := ⟨(LOP_STAT n), 6, 1⟩
abbrev LOP_STAT_NUMERIC (n : Nat) : Fld := ⟨(LOP_STAT n), 7, 1⟩
abbrev LOP_STAT_HELD (n : Nat) : Fld := ⟨(LOP_STAT n), 8, 8⟩
/-- LOP_SP_n: sp in force, binary32 -/
abbrev LOP_SP (n : Nat) : Nat := 0x141050 + 0x80 * n
/-- LOP_PV_n: pv of the last run, binary32 -/
abbrev LOP_PV (n : Nat) : Nat := 0x141054 + 0x80 * n
/-- LOP_U_n: u in force, binary32 -/
abbrev LOP_U (n : Nat) : Nat := 0x141058 + 0x80 * n
/-- LOP_OVR_n: Runs held by R458 -/
abbrev LOP_OVR (n : Nat) : Nat := 0x14105C + 0x80 * n

/-! ### RECORDER (0x15) -/
/-- REC_STATUS: [17:0] records held; [24] FULL; [25] FROZEN -/
abbrev REC_STATUS : Nat := 0x150010
/-- REC_CFG: [15:0] FREEZE_MAX in strokes, 40 to 40,000, clamped; [16] STREAM; [17] STREAM_RELEASE -/
abbrev REC_CFG : Nat := 0x150014
abbrev REC_CFG_FREEZE_MAX : Fld := ⟨REC_CFG, 0, 16⟩
abbrev REC_CFG_STREAM : Fld := ⟨REC_CFG, 16, 1⟩
abbrev REC_CFG_STREAM_RELEASE : Fld := ⟨REC_CFG, 17, 1⟩
/-- REC_HEAD_SEQ: SEQ of the oldest record held; equal to REC_NEXT_SEQ when none is held -/
abbrev REC_HEAD_SEQ : Nat := 0x150018
/-- REC_NEXT_SEQ: SEQ the next record presented takes -/
abbrev REC_NEXT_SEQ : Nat := 0x15001C
/-- REC_LOST: Records lost while full; cleared when the store is cleared -/
abbrev REC_LOST : Nat := 0x150020
/-- REC_FROZEN_LOST: Records lost while frozen; cleared when the store is cleared -/
abbrev REC_FROZEN_LOST : Nat := 0x150024
/-- REC_DAMAGED: Records read as damaged -/
abbrev REC_DAMAGED : Nat := 0x150028
/-- REC_WIN_IDX: [16:0] position from the head -/
abbrev REC_WIN_IDX : Nat := 0x150030
abbrev REC_WIN_IDX_POS : Fld := ⟨REC_WIN_IDX, 0, 17⟩
/-- REC_WIN_DATA_k: Bytes 4k to 4k + 3 of the windowed record, k = 0 to 7 -/
abbrev REC_WIN_DATA (k : Nat) : Nat := 0x150040 + 0x4 * k

/-! ### MEMORY (0x16) -/
/-- MEM_STATUS: [0] DRAM_OK, training passed; [19:1] bit n + 1: memory n (0 to 18) has an uncorrectable error since reset; [31:20] reserved -/
abbrev MEM_STATUS : Nat := 0x160010
abbrev MEM_STATUS_DRAM_OK : Fld := ⟨MEM_STATUS, 0, 1⟩
abbrev MEM_STATUS_UNCORR : Fld := ⟨MEM_STATUS, 1, 19⟩
/-- MEM_CFG: [31:0] LAP_WARN in strokes; default 4,000,000 (1,000 s) -/
abbrev MEM_CFG : Nat := 0x160014
/-- MEM_DRAM_MIB: [15:0] MiB attached; [31:16] MiB usable, seven eighths (R18) -/
abbrev MEM_DRAM_MIB : Nat := 0x160018
abbrev MEM_DRAM_MIB_ATTACHED : Fld := ⟨MEM_DRAM_MIB, 0, 16⟩
abbrev MEM_DRAM_MIB_USABLE : Fld := ⟨MEM_DRAM_MIB, 16, 16⟩
/-- MEM_LAP_n: Strokes of the last completed pass of memory n -/
abbrev MEM_LAP (n : Nat) : Nat := 0x160100 + 0x10 * n
/-- MEM_CORR_n: Corrections (R475) -/
abbrev MEM_CORR (n : Nat) : Nat := 0x160104 + 0x10 * n
/-- MEM_UNCORR_n: Uncorrectable errors -/
abbrev MEM_UNCORR (n : Nat) : Nat := 0x160108 + 0x10 * n
/-- MEM_LAST_ADDR_n: Address of the last error, correctable or not; DRAM in 64-byte lines -/
abbrev MEM_LAST_ADDR (n : Nat) : Nat := 0x16010C + 0x10 * n

end Sys2Proof.Machine
end

