-- ==== Sys2Proof/Machine/RegMap.lean ====
section
/-! DEFINITION. The register table of BAR0: for each register of the chapters' tables its place, access code (R9), reset value
and the fields a write reaches, each with the least and greatest value the spec lets it hold ("clamped", "0 reads as 1").
Reserved fields are in no writable field and so read as zero (R10). -/

namespace Sys2Proof.Machine

/-- Access codes of R9. -/
inductive Access where
  | ro | rw | rwl | w1c | wo | rc
  deriving DecidableEq, Repr

/-- A writable field: lowest bit, width, least and greatest value it can hold. -/
structure WField where
  lo : Nat
  width : Nat
  min : Nat
  max : Nat
  deriving DecidableEq, Repr

/-- One row of a register table: first BAR0 address, two strides and counts (1 × 1 for a single register), access, reset
value, the increment of the reset value per first index, and the writable fields. -/
structure RegRow where
  base : Nat
  s1 : Nat
  n1 : Nat
  s2 : Nat
  n2 : Nat
  acc : Access
  reset : Nat
  inc : Nat
  wr : List WField
  deriving DecidableEq, Repr

/-- IDENT registers. -/
def regsIdent : List RegRow :=
  [ ⟨0x000000, 0x1000, 1, 0x1, 1, .ro, 0x21001, 0x0, []⟩,
    ⟨0x000004, 0x1000, 1, 0x1, 1, .ro, 0x10001, 0x0, []⟩,
    ⟨0x000008, 0x1000, 1, 0x1, 1, .ro, 0x77401C7A, 0x0, []⟩,
    ⟨0x00000C, 0x1000, 1, 0x1, 1, .ro, 0x10, 0x0, []⟩,
    ⟨0x000010, 0x1000, 1, 0x1, 1, .ro, 0x0, 0x0, []⟩,
    ⟨0x000014, 0x1000, 1, 0x1, 1, .ro, 0x0, 0x0, []⟩,
    ⟨0x000018, 0x1000, 1, 0x1, 1, .ro, 0x0, 0x0, []⟩ ]

/-- SYSTEM registers. -/
def regsSystem : List RegRow :=
  [ ⟨0x020000, 0x1000, 1, 0x1, 1, .ro, 0x31002, 0x0, []⟩,
    ⟨0x020004, 0x1000, 1, 0x1, 1, .ro, 0x10001, 0x0, []⟩,
    ⟨0x020010, 0x1000, 1, 0x1, 1, .ro, 0x0, 0x0, []⟩,
    ⟨0x020014, 0x1000, 1, 0x1, 1, .rw, 0x0, 0x0, [⟨1, 1, 0, 1⟩]⟩,
    ⟨0x020018, 0x1000, 1, 0x1, 1, .ro, 0x0, 0x0, []⟩,
    ⟨0x02001C, 0x1000, 1, 0x1, 1, .wo, 0x0, 0x0, []⟩,
    ⟨0x020020, 0x1000, 1, 0x1, 1, .ro, 0x0, 0x0, []⟩,
    ⟨0x020024, 0x1000, 1, 0x1, 1, .ro, 0x0, 0x0, []⟩,
    ⟨0x020028, 0x1000, 1, 0x1, 1, .ro, 0x0, 0x0, []⟩,
    ⟨0x02002C, 0x1000, 1, 0x1, 1, .ro, 0x0, 0x0, []⟩,
    ⟨0x020030, 0x1000, 1, 0x1, 1, .rw, 0x69, 0x0, [⟨0, 8, 0, 255⟩]⟩,
    ⟨0x020034, 0x1000, 1, 0x1, 1, .ro, 0x0, 0x0, []⟩,
    ⟨0x020038, 0x1000, 1, 0x1, 1, .ro, 0x0, 0x0, []⟩ ]

/-- STROKE registers. -/
def regsStroke : List RegRow :=
  [ ⟨0x030000, 0x1000, 1, 0x1, 1, .ro, 0x41003, 0x0, []⟩,
    ⟨0x030004, 0x1000, 1, 0x1, 1, .ro, 0x10001, 0x0, []⟩,
    ⟨0x030010, 0x1000, 1, 0x1, 1, .rwl, 0x0, 0x0, [⟨0, 32, 0, 4294967295⟩]⟩,
    ⟨0x030014, 0x1000, 1, 0x1, 1, .rwl, 0x0, 0x0, [⟨0, 32, 0, 4294967295⟩]⟩,
    ⟨0x030018, 0x1000, 1, 0x1, 1, .rwl, 0x0, 0x0, [⟨0, 32, 0, 4294967295⟩]⟩,
    ⟨0x03001C, 0x1000, 1, 0x1, 1, .rwl, 0x0, 0x0, [⟨0, 32, 0, 4294967295⟩]⟩,
    ⟨0x030020, 0x1000, 1, 0x1, 1, .ro, 0x0, 0x0, []⟩,
    ⟨0x030024, 0x1000, 1, 0x1, 1, .ro, 0x0, 0x0, []⟩,
    ⟨0x030028, 0x1000, 1, 0x1, 1, .ro, 0x0, 0x0, []⟩,
    ⟨0x03002C, 0x1000, 1, 0x1, 1, .ro, 0x0, 0x0, []⟩,
    ⟨0x030030, 0x1000, 1, 0x1, 1, .rwl, 0xF018, 0x0, [⟨0, 8, 16, 40⟩, ⟨8, 8, 228, 244⟩]⟩,
    ⟨0x030034, 0x1000, 1, 0x1, 1, .rwl, 0xDBBA00, 0x0, [⟨0, 32, 0, 4294967295⟩]⟩,
    ⟨0x030038, 0x1000, 1, 0x1, 1, .rwl, 0x200, 0x0, [⟨0, 16, 0, 65535⟩]⟩,
    ⟨0x03003C, 0x1000, 1, 0x1, 1, .ro, 0xF800, 0x0, []⟩,
    ⟨0x030040, 0x1000, 1, 0x1, 1, .rc, 0xF800, 0x0, []⟩,
    ⟨0x030044, 0x1000, 1, 0x1, 1, .ro, 0x0, 0x0, []⟩,
    ⟨0x030048, 0x1000, 1, 0x1, 1, .ro, 0x0, 0x0, []⟩,
    ⟨0x03004C, 0x1000, 1, 0x1, 1, .ro, 0x0, 0x0, []⟩,
    ⟨0x030050, 0x1000, 1, 0x1, 1, .ro, 0x0, 0x0, []⟩,
    ⟨0x030054, 0x1000, 1, 0x1, 1, .ro, 0x0, 0x0, []⟩,
    ⟨0x030080, 0x4, 8, 0x1, 1, .rc, 0x0, 0x0, []⟩,
    ⟨0x0300A0, 0x4, 8, 0x1, 1, .rc, 0x0, 0x0, []⟩ ]

/-- RINGS registers. -/
def regsRings : List RegRow :=
  [ ⟨0x040000, 0x1000, 1, 0x1, 1, .ro, 0x51004, 0x0, []⟩,
    ⟨0x040004, 0x1000, 1, 0x1, 1, .ro, 0x10004, 0x0, []⟩,
    ⟨0x040010, 0x1000, 1, 0x1, 1, .rwl, 0x0, 0x0, [⟨12, 20, 0, 1048575⟩]⟩,
    ⟨0x040014, 0x1000, 1, 0x1, 1, .rwl, 0x0, 0x0, [⟨0, 32, 0, 4294967295⟩]⟩,
    ⟨0x040018, 0x1000, 1, 0x1, 1, .rwl, 0x0, 0x0, [⟨12, 20, 0, 1048575⟩]⟩,
    ⟨0x04001C, 0x1000, 1, 0x1, 1, .rwl, 0x0, 0x0, [⟨0, 32, 0, 4294967295⟩]⟩,
    ⟨0x040020, 0x1000, 1, 0x1, 1, .rwl, 0x200, 0x0, [⟨0, 16, 0, 65535⟩]⟩,
    ⟨0x040024, 0x1000, 1, 0x1, 1, .ro, 0x0, 0x0, []⟩,
    ⟨0x040028, 0x1000, 1, 0x1, 1, .w1c, 0x0, 0x0, [⟨0, 32, 0, 4294967295⟩]⟩,
    ⟨0x04002C, 0x1000, 1, 0x1, 1, .w1c, 0x0, 0x0, [⟨0, 32, 0, 4294967295⟩]⟩,
    ⟨0x040030, 0x1000, 1, 0x1, 1, .w1c, 0x0, 0x0, [⟨0, 32, 0, 4294967295⟩]⟩,
    ⟨0x040034, 0x1000, 1, 0x1, 1, .w1c, 0x0, 0x0, [⟨0, 32, 0, 4294967295⟩]⟩,
    ⟨0x040038, 0x1000, 1, 0x1, 1, .rc, 0x0, 0x0, []⟩,
    ⟨0x04003C, 0x1000, 1, 0x1, 1, .rc, 0x0, 0x0, []⟩,
    ⟨0x040040, 0x1000, 1, 0x1, 1, .rc, 0x0, 0x0, []⟩,
    ⟨0x040044, 0x1000, 1, 0x1, 1, .rc, 0x0, 0x0, []⟩,
    ⟨0x040048, 0x1000, 1, 0x1, 1, .rc, 0x0, 0x0, []⟩,
    ⟨0x04004C, 0x1000, 1, 0x1, 1, .rc, 0x0, 0x0, []⟩,
    ⟨0x040100, 0x10, 64, 0x1, 1, .rwl, 0x0, 0x0, [⟨12, 20, 0, 1048575⟩]⟩,
    ⟨0x040104, 0x10, 64, 0x1, 1, .rwl, 0x0, 0x0, [⟨0, 32, 0, 4294967295⟩]⟩,
    ⟨0x040108, 0x10, 64, 0x1, 1, .rwl, 0x40080, 0x100, [⟨0, 1, 0, 1⟩, ⟨4, 4, 0, 15⟩, ⟨8, 6, 0, 63⟩, ⟨16, 5, 0, 31⟩]⟩,
    ⟨0x040500, 0x10, 64, 0x1, 1, .rwl, 0x0, 0x0, [⟨12, 20, 0, 1048575⟩]⟩,
    ⟨0x040504, 0x10, 64, 0x1, 1, .rwl, 0x0, 0x0, [⟨0, 32, 0, 4294967295⟩]⟩,
    ⟨0x040508, 0x10, 64, 0x1, 1, .rwl, 0x40000, 0x0, [⟨0, 1, 0, 1⟩, ⟨8, 6, 0, 63⟩, ⟨16, 5, 0, 31⟩]⟩,
    ⟨0x04050C, 0x10, 64, 0x1, 1, .rw, 0x1, 0x0, [⟨0, 16, 0, 65535⟩, ⟨16, 16, 0, 65535⟩]⟩ ]

/-- CISTERN registers. -/
def regsCistern : List RegRow :=
  [ ⟨0x050000, 0x1000, 1, 0x1, 1, .ro, 0x61005, 0x0, []⟩,
    ⟨0x050004, 0x1000, 1, 0x1, 1, .ro, 0x10004, 0x0, []⟩,
    ⟨0x050010, 0x1000, 1, 0x1, 1, .ro, 0x10000, 0x0, []⟩,
    ⟨0x050014, 0x1000, 1, 0x1, 1, .rwl, 0x400, 0x0, [⟨0, 6, 0, 63⟩, ⟨8, 8, 1, 16⟩]⟩,
    ⟨0x050018, 0x1000, 1, 0x1, 1, .ro, 0x0, 0x0, []⟩,
    ⟨0x05001C, 0x1000, 1, 0x1, 1, .ro, 0x0, 0x0, []⟩,
    ⟨0x050020, 0x1000, 1, 0x1, 1, .rc, 0x10000, 0x0, []⟩,
    ⟨0x050024, 0x1000, 1, 0x1, 1, .rc, 0x0, 0x0, []⟩,
    ⟨0x050028, 0x1000, 1, 0x1, 1, .rc, 0x0, 0x0, []⟩,
    ⟨0x05002C, 0x1000, 1, 0x1, 1, .rc, 0x0, 0x0, []⟩,
    ⟨0x050030, 0x1000, 1, 0x1, 1, .ro, 0x0, 0x0, []⟩,
    ⟨0x050034, 0x1000, 1, 0x1, 1, .rc, 0x0, 0x0, []⟩,
    ⟨0x050100, 0x10, 44, 0x1, 1, .rwl, 0x80, 0x0, [⟨0, 17, 0, 131071⟩]⟩,
    ⟨0x0503C0, 0x10, 4, 0x1, 1, .rwl, 0x0, 0x0, [⟨0, 17, 0, 131071⟩]⟩,
    ⟨0x050104, 0x10, 48, 0x1, 1, .rwl, 0x0, 0x0, [⟨0, 4, 0, 15⟩, ⟨16, 16, 0, 65535⟩]⟩,
    ⟨0x050108, 0x10, 48, 0x1, 1, .ro, 0x0, 0x0, []⟩,
    ⟨0x05010C, 0x10, 48, 0x1, 1, .rc, 0x0, 0x0, []⟩,
    ⟨0x050400, 0x8, 24, 0x1, 1, .rwl, 0x800100, 0x0, [⟨0, 16, 0, 65535⟩, ⟨16, 16, 0, 65535⟩]⟩,
    ⟨0x050558, 0x1000, 1, 0x1, 1, .rwl, 0x800100, 0x0, [⟨0, 16, 0, 65535⟩, ⟨16, 16, 0, 65535⟩]⟩,
    ⟨0x050404, 0x8, 24, 0x1, 1, .ro, 0x0, 0x0, []⟩,
    ⟨0x05055C, 0x1000, 1, 0x1, 1, .ro, 0x0, 0x0, []⟩ ]

/-- PORTS registers. -/
def regsPorts : List RegRow :=
  [ ⟨0x060000, 0x1000, 1, 0x1, 1, .ro, 0x71006, 0x0, []⟩,
    ⟨0x060004, 0x1000, 1, 0x1, 1, .ro, 0x10004, 0x0, []⟩,
    ⟨0x060010, 0x1000, 1, 0x1, 1, .ro, 0x0, 0x0, []⟩,
    ⟨0x060014, 0x1000, 1, 0x1, 1, .w1c, 0x0, 0x0, [⟨0, 32, 0, 4294967295⟩]⟩,
    ⟨0x060018, 0x1000, 1, 0x1, 1, .w1c, 0x0, 0x0, [⟨0, 16, 0, 65535⟩]⟩,
    ⟨0x060020, 0x1000, 1, 0x1, 1, .rw, 0x0, 0x0, [⟨0, 1, 0, 1⟩, ⟨1, 1, 0, 1⟩, ⟨2, 5, 0, 31⟩, ⟨7, 5, 0, 31⟩, ⟨12, 2, 0, 3⟩, ⟨15, 1, 0, 1⟩]⟩,
    ⟨0x060024, 0x1000, 1, 0x1, 1, .rw, 0x0, 0x0, [⟨0, 16, 0, 65535⟩]⟩,
    ⟨0x060100, 0x20, 48, 0x1, 1, .rwl, 0xC0, 0x0, [⟨0, 9, 1, 256⟩, ⟨13, 1, 0, 1⟩, ⟨14, 1, 0, 1⟩, ⟨16, 6, 0, 35⟩]⟩,
    ⟨0x060104, 0x20, 48, 0x1, 1, .ro, 0x0, 0x0, []⟩,
    ⟨0x060108, 0x20, 48, 0x1, 1, .rc, 0x0, 0x0, []⟩,
    ⟨0x06010C, 0x20, 48, 0x1, 1, .rc, 0x0, 0x0, []⟩,
    ⟨0x060110, 0x20, 48, 0x1, 1, .rc, 0x0, 0x0, []⟩,
    ⟨0x060114, 0x20, 48, 0x1, 1, .rc, 0x0, 0x0, []⟩,
    ⟨0x060118, 0x20, 48, 0x1, 1, .rc, 0x0, 0x0, []⟩,
    ⟨0x060800, 0x4, 4, 0x1, 1, .rwl, 0x5F20000, 0x0, [⟨0, 1, 0, 1⟩, ⟨1, 2, 0, 3⟩, ⟨3, 1, 0, 1⟩, ⟨4, 1, 0, 1⟩, ⟨5, 8, 0, 255⟩, ⟨16, 14, 64, 9216⟩]⟩,
    ⟨0x060810, 0x4, 20, 0x1, 1, .rwl, 0x5F20004, 0x0, [⟨0, 1, 0, 1⟩, ⟨1, 2, 0, 3⟩, ⟨3, 1, 0, 1⟩, ⟨4, 1, 0, 1⟩, ⟨5, 8, 0, 255⟩, ⟨16, 14, 64, 9216⟩]⟩ ]

/-- FORWARD registers. -/
def regsForward : List RegRow :=
  [ ⟨0x070000, 0x1000, 1, 0x1, 1, .ro, 0x81007, 0x0, []⟩,
    ⟨0x070004, 0x1000, 1, 0x1, 1, .ro, 0x10004, 0x0, []⟩,
    ⟨0x070010, 0x1000, 1, 0x1, 1, .rwl, 0x4818012C, 0x0, [⟨0, 16, 0, 32767⟩, ⟨16, 4, 1, 15⟩, ⟨20, 1, 0, 1⟩, ⟨24, 4, 1, 15⟩, ⟨28, 4, 1, 15⟩]⟩,
    ⟨0x070014, 0x1000, 1, 0x1, 1, .rwl, 0x0, 0x0, [⟨0, 32, 0, 4294967295⟩]⟩,
    ⟨0x070018, 0x1000, 1, 0x1, 1, .rwl, 0x0, 0x0, [⟨0, 16, 0, 65535⟩]⟩,
    ⟨0x07001C, 0x1000, 1, 0x1, 1, .rwl, 0x0, 0x0, [⟨0, 32, 0, 4294967295⟩]⟩,
    ⟨0x070020, 0x1000, 1, 0x1, 1, .rwl, 0x0, 0x0, [⟨0, 16, 0, 65535⟩]⟩,
    ⟨0x070024, 0x1000, 1, 0x1, 1, .rwl, 0x0, 0x0, [⟨0, 4, 0, 15⟩, ⟨4, 4, 0, 15⟩, ⟨8, 4, 0, 15⟩, ⟨12, 1, 0, 1⟩]⟩,
    ⟨0x070028, 0x1000, 1, 0x1, 1, .ro, 0x0, 0x0, []⟩,
    ⟨0x07002C, 0x1000, 1, 0x1, 1, .ro, 0x0, 0x0, []⟩,
    ⟨0x070030, 0x1000, 1, 0x1, 1, .ro, 0x0, 0x0, []⟩,
    ⟨0x070034, 0x1000, 1, 0x1, 1, .rwl, 0xFAC688, 0x0, [⟨0, 24, 0, 16777215⟩]⟩,
    ⟨0x070038, 0x1000, 1, 0x1, 1, .rwl, 0xFA50, 0x0, [⟨0, 16, 0, 65535⟩]⟩,
    ⟨0x070040, 0x1000, 1, 0x1, 1, .rc, 0x0, 0x0, []⟩,
    ⟨0x070044, 0x1000, 1, 0x1, 1, .rc, 0x0, 0x0, []⟩,
    ⟨0x070048, 0x1000, 1, 0x1, 1, .rc, 0x0, 0x0, []⟩,
    ⟨0x07004C, 0x1000, 1, 0x1, 1, .rc, 0x0, 0x0, []⟩,
    ⟨0x070050, 0x1000, 1, 0x1, 1, .rc, 0x0, 0x0, []⟩,
    ⟨0x070054, 0x1000, 1, 0x1, 1, .rc, 0x0, 0x0, []⟩,
    ⟨0x070058, 0x1000, 1, 0x1, 1, .rc, 0x0, 0x0, []⟩,
    ⟨0x07005C, 0x1000, 1, 0x1, 1, .rc, 0x0, 0x0, []⟩,
    ⟨0x070060, 0x1000, 1, 0x1, 1, .rc, 0x0, 0x0, []⟩,
    ⟨0x070064, 0x1000, 1, 0x1, 1, .rc, 0x0, 0x0, []⟩,
    ⟨0x070068, 0x1000, 1, 0x1, 1, .rc, 0x0, 0x0, []⟩,
    ⟨0x07006C, 0x1000, 1, 0x1, 1, .rc, 0x0, 0x0, []⟩,
    ⟨0x070070, 0x1000, 1, 0x1, 1, .rc, 0x0, 0x0, []⟩,
    ⟨0x070200, 0x10, 24, 0x1, 1, .rwl, 0x4001, 0x0, [⟨0, 12, 0, 4095⟩, ⟨12, 2, 0, 3⟩, ⟨14, 1, 0, 1⟩, ⟨16, 3, 0, 7⟩]⟩,
    ⟨0x070204, 0x10, 24, 0x1, 1, .rwl, 0x40000C0, 0x0, [⟨0, 8, 0, 255⟩, ⟨16, 13, 1, 4096⟩]⟩,
    ⟨0x070208, 0x10, 24, 0x1, 1, .rwl, 0x11111111, 0x0, [⟨0, 4, 1, 15⟩, ⟨4, 4, 1, 15⟩, ⟨8, 4, 1, 15⟩, ⟨12, 4, 1, 15⟩, ⟨16, 4, 1, 15⟩, ⟨20, 4, 1, 15⟩, ⟨24, 4, 1, 15⟩, ⟨28, 4, 1, 15⟩]⟩,
    ⟨0x07020C, 0x10, 24, 0x1, 1, .rc, 0x0, 0x0, []⟩ ]

/-- TIME registers. -/
def regsTime : List RegRow :=
  [ ⟨0x080000, 0x1000, 1, 0x1, 1, .ro, 0x91008, 0x0, []⟩,
    ⟨0x080004, 0x1000, 1, 0x1, 1, .ro, 0x10001, 0x0, []⟩,
    ⟨0x080010, 0x1000, 1, 0x1, 1, .ro, 0x0, 0x0, []⟩,
    ⟨0x080014, 0x1000, 1, 0x1, 1, .rwl, 0x1405, 0x0, [⟨0, 1, 0, 1⟩, ⟨1, 1, 0, 1⟩, ⟨2, 1, 0, 1⟩, ⟨8, 7, 1, 80⟩]⟩,
    ⟨0x080018, 0x1000, 1, 0x1, 1, .wo, 0x0, 0x0, []⟩,
    ⟨0x08001C, 0x1000, 1, 0x1, 1, .ro, 0x0, 0x0, []⟩,
    ⟨0x080020, 0x1000, 1, 0x1, 1, .ro, 0x0, 0x0, []⟩,
    ⟨0x080024, 0x1000, 1, 0x1, 1, .rwl, 0x3840, 0x0, [⟨0, 32, 0, 4294967295⟩]⟩,
    ⟨0x080028, 0x1000, 1, 0x1, 1, .rwl, 0xF4240, 0x0, [⟨0, 32, 0, 4294967295⟩]⟩,
    ⟨0x08002C, 0x1000, 1, 0x1, 1, .ro, 0x8000, 0x0, []⟩,
    ⟨0x080030, 0x1000, 1, 0x1, 1, .rwl, 0x8000, 0x0, [⟨0, 16, 0, 65535⟩]⟩,
    ⟨0x080034, 0x1000, 1, 0x1, 1, .ro, 0x0, 0x0, []⟩,
    ⟨0x080038, 0x1000, 1, 0x1, 1, .rw, 0x0, 0x0, [⟨0, 32, 0, 4294967295⟩]⟩,
    ⟨0x080040, 0x1000, 1, 0x1, 1, .rwl, 0xD6000, 0x0, [⟨0, 2, 0, 3⟩, ⟨2, 2, 0, 3⟩, ⟨4, 8, 0, 255⟩, ⟨12, 1, 0, 1⟩, ⟨13, 3, 1, 7⟩, ⟨16, 4, 0, 15⟩]⟩,
    ⟨0x080044, 0x1000, 1, 0x1, 1, .rwl, 0x186A0, 0x0, [⟨0, 32, 0, 4294967295⟩]⟩,
    ⟨0x080048, 0x1000, 1, 0x1, 1, .ro, 0x0, 0x0, []⟩,
    ⟨0x08004C, 0x1000, 1, 0x1, 1, .ro, 0x0, 0x0, []⟩,
    ⟨0x080050, 0x1000, 1, 0x1, 1, .rc, 0x0, 0x0, []⟩,
    ⟨0x080054, 0x1000, 1, 0x1, 1, .rwl, 0x2710, 0x0, [⟨0, 32, 0, 4294967295⟩]⟩,
    ⟨0x080058, 0x1000, 1, 0x1, 1, .rc, 0x0, 0x0, []⟩,
    ⟨0x08005C, 0x1000, 1, 0x1, 1, .rc, 0x0, 0x0, []⟩,
    ⟨0x080060, 0x1000, 1, 0x1, 1, .rwl, 0x0, 0x0, [⟨0, 32, 0, 4294967295⟩]⟩,
    ⟨0x080064, 0x1000, 1, 0x1, 1, .rwl, 0x0, 0x0, [⟨0, 32, 0, 4294967295⟩]⟩,
    ⟨0x080070, 0x1000, 1, 0x1, 1, .rw, 0x0, 0x0, [⟨0, 32, 0, 4294967295⟩]⟩,
    ⟨0x080074, 0x1000, 1, 0x1, 1, .rw, 0x0, 0x0, [⟨0, 32, 0, 4294967295⟩]⟩,
    ⟨0x080078, 0x1000, 1, 0x1, 1, .rw, 0x0, 0x0, [⟨0, 32, 0, 4294967295⟩]⟩,
    ⟨0x08007C, 0x1000, 1, 0x1, 1, .rw, 0x0, 0x0, [⟨0, 32, 0, 4294967295⟩]⟩,
    ⟨0x080080, 0x1000, 1, 0x1, 1, .wo, 0x0, 0x0, []⟩,
    ⟨0x080090, 0x1000, 1, 0x1, 1, .rwl, 0x16408, 0x0, [⟨0, 2, 0, 3⟩, ⟨2, 1, 0, 1⟩, ⟨3, 1, 0, 1⟩, ⟨8, 8, 1, 200⟩, ⟨16, 1, 0, 1⟩]⟩,
    ⟨0x080094, 0x1000, 1, 0x1, 1, .ro, 0x0, 0x0, []⟩,
    ⟨0x080098, 0x1000, 1, 0x1, 1, .ro, 0x0, 0x0, []⟩,
    ⟨0x08009C, 0x1000, 1, 0x1, 1, .ro, 0x0, 0x0, []⟩,
    ⟨0x0800A0, 0x1000, 1, 0x1, 1, .rwl, 0x7D0, 0x0, [⟨0, 32, 0, 4294967295⟩]⟩,
    ⟨0x080400, 0x8, 24, 0x1, 1, .rwl, 0x0, 0x0, [⟨0, 16, 0, 65535⟩, ⟨16, 16, 0, 65535⟩]⟩,
    ⟨0x080404, 0x8, 24, 0x1, 1, .rwl, 0x0, 0x0, [⟨0, 1, 0, 1⟩, ⟨1, 1, 0, 1⟩, ⟨2, 2, 0, 3⟩, ⟨4, 1, 0, 1⟩, ⟨5, 1, 0, 1⟩, ⟨6, 1, 0, 1⟩, ⟨7, 1, 0, 1⟩]⟩ ]

/-- GNSS registers. -/
def regsGnss : List RegRow :=
  [ ⟨0x090000, 0x1000, 1, 0x1, 1, .ro, 0xA1009, 0x0, []⟩,
    ⟨0x090004, 0x1000, 1, 0x1, 1, .ro, 0x10002, 0x0, []⟩,
    ⟨0x090010, 0x1000, 1, 0x1, 1, .ro, 0x0, 0x0, []⟩,
    ⟨0x090014, 0x1000, 1, 0x1, 1, .rwl, 0x8A441F, 0x0, [⟨0, 5, 0, 31⟩, ⟨8, 3, 0, 5⟩, ⟨12, 4, 1, 8⟩, ⟨16, 7, 0, 90⟩, ⟨23, 1, 0, 1⟩]⟩,
    ⟨0x090018, 0x1000, 1, 0x1, 1, .rwl, 0x20C8050A, 0x0, [⟨0, 8, 1, 255⟩, ⟨8, 8, 1, 255⟩, ⟨16, 12, 1, 4095⟩, ⟨28, 4, 1, 15⟩]⟩,
    ⟨0x09001C, 0x1000, 1, 0x1, 1, .rwl, 0x0, 0x0, [⟨0, 12, 0, 4095⟩]⟩,
    ⟨0x090020, 0x1000, 1, 0x1, 1, .rwl, 0x0, 0x0, [⟨0, 32, 0, 4294967295⟩]⟩,
    ⟨0x090024, 0x1000, 1, 0x1, 1, .rwl, 0x0, 0x0, [⟨0, 6, 0, 63⟩]⟩,
    ⟨0x090028, 0x1000, 1, 0x1, 1, .rwl, 0x0, 0x0, [⟨0, 32, 0, 4294967295⟩]⟩,
    ⟨0x09002C, 0x1000, 1, 0x1, 1, .rwl, 0x0, 0x0, [⟨0, 6, 0, 63⟩]⟩,
    ⟨0x090030, 0x1000, 1, 0x1, 1, .rwl, 0x0, 0x0, [⟨0, 32, 0, 4294967295⟩]⟩,
    ⟨0x090034, 0x1000, 1, 0x1, 1, .rwl, 0x0, 0x0, [⟨0, 6, 0, 63⟩]⟩,
    ⟨0x090038, 0x1000, 1, 0x1, 1, .rwl, 0x1F40E10, 0x0, [⟨0, 16, 0, 65535⟩, ⟨16, 16, 0, 65535⟩]⟩,
    ⟨0x09003C, 0x1000, 1, 0x1, 1, .rwl, 0x15180, 0x0, [⟨0, 32, 0, 4294967295⟩]⟩,
    ⟨0x090040, 0x1000, 1, 0x1, 1, .wo, 0x0, 0x0, []⟩,
    ⟨0x090044, 0x1000, 1, 0x1, 1, .ro, 0x0, 0x0, []⟩,
    ⟨0x090048, 0x1000, 1, 0x1, 1, .ro, 0x0, 0x0, []⟩,
    ⟨0x09004C, 0x1000, 1, 0x1, 1, .ro, 0x0, 0x0, []⟩,
    ⟨0x090050, 0x1000, 1, 0x1, 1, .ro, 0x0, 0x0, []⟩,
    ⟨0x090054, 0x1000, 1, 0x1, 1, .ro, 0x0, 0x0, []⟩,
    ⟨0x090058, 0x1000, 1, 0x1, 1, .ro, 0x0, 0x0, []⟩,
    ⟨0x09005C, 0x1000, 1, 0x1, 1, .ro, 0x0, 0x0, []⟩,
    ⟨0x090060, 0x1000, 1, 0x1, 1, .ro, 0x0, 0x0, []⟩,
    ⟨0x090064, 0x1000, 1, 0x1, 1, .ro, 0x0, 0x0, []⟩,
    ⟨0x090068, 0x1000, 1, 0x1, 1, .rc, 0x0, 0x0, []⟩,
    ⟨0x09006C, 0x1000, 1, 0x1, 1, .rc, 0x0, 0x0, []⟩,
    ⟨0x090070, 0x1000, 1, 0x1, 1, .ro, 0xFFFFFFFF, 0x0, []⟩,
    ⟨0x090074, 0x1000, 1, 0x1, 1, .ro, 0x0, 0x0, []⟩,
    ⟨0x090078, 0x1000, 1, 0x1, 1, .rwl, 0x0, 0x0, [⟨0, 32, 0, 4294967295⟩]⟩,
    ⟨0x09007C, 0x1000, 1, 0x1, 1, .ro, 0x0, 0x0, []⟩,
    ⟨0x090100, 0x10, 4, 0x1, 1, .rwl, 0x5548, 0x2, [⟨0, 1, 0, 1⟩, ⟨1, 2, 0, 3⟩, ⟨3, 2, 0, 3⟩, ⟨5, 1, 0, 1⟩, ⟨6, 1, 0, 1⟩, ⟨8, 8, 0, 255⟩]⟩,
    ⟨0x090104, 0x10, 4, 0x1, 1, .rwl, 0x0, 0x0, [⟨0, 32, 0, 4294967295⟩]⟩,
    ⟨0x090108, 0x10, 4, 0x1, 1, .ro, 0x0, 0x0, []⟩,
    ⟨0x090200, 0x1000, 1, 0x1, 1, .rw, 0x70000, 0x0, [⟨0, 2, 0, 3⟩, ⟨2, 6, 0, 32⟩, ⟨8, 6, 0, 32⟩, ⟨15, 1, 0, 1⟩, ⟨16, 8, 4, 255⟩]⟩,
    ⟨0x090204, 0x1000, 1, 0x1, 1, .rw, 0x0, 0x0, [⟨0, 32, 0, 4294967295⟩]⟩ ]

/-- RADIO registers, part 0. -/
def regsRadio0 : List RegRow :=
  [ ⟨0x0A0000, 0x1000, 1, 0x1, 1, .ro, 0xB100A, 0x0, []⟩,
    ⟨0x0A0004, 0x1000, 1, 0x1, 1, .ro, 0x10004, 0x0, []⟩,
    ⟨0x0A0010, 0x1000, 1, 0x1, 1, .ro, 0x0, 0x0, []⟩,
    ⟨0x0A0014, 0x1000, 1, 0x1, 1, .ro, 0x0, 0x0, []⟩,
    ⟨0x0A0018, 0x1000, 1, 0x1, 1, .rc, 0x0, 0x0, []⟩,
    ⟨0x0A001C, 0x1000, 1, 0x1, 1, .rc, 0x0, 0x0, []⟩,
    ⟨0x0A0020, 0x1000, 1, 0x1, 1, .rc, 0x0, 0x0, []⟩,
    ⟨0x0A0024, 0x1000, 1, 0x1, 1, .rc, 0x0, 0x0, []⟩,
    ⟨0x0A0028, 0x1000, 1, 0x1, 1, .rc, 0x0, 0x0, []⟩,
    ⟨0x0A0030, 0x1000, 1, 0x1, 1, .wo, 0x0, 0x0, []⟩,
    ⟨0x0A0034, 0x1000, 1, 0x1, 1, .ro, 0x0, 0x0, []⟩,
    ⟨0x0A1000, 0x400, 8, 0x1, 1, .rwl, 0x4406, 0x0, [⟨0, 1, 0, 1⟩, ⟨1, 2, 0, 3⟩, ⟨3, 1, 0, 1⟩, ⟨4, 1, 0, 1⟩, ⟨5, 1, 0, 1⟩, ⟨6, 1, 0, 1⟩, ⟨7, 1, 0, 1⟩, ⟨8, 4, 0, 15⟩, ⟨12, 4, 0, 15⟩]⟩,
    ⟨0x0A1004, 0x400, 8, 0x1, 1, .rwl, 0x0, 0x0, [⟨0, 16, 0, 65535⟩, ⟨16, 16, 0, 65535⟩]⟩,
    ⟨0x0A1008, 0x400, 8, 0x1, 1, .rwl, 0x2804, 0x0, [⟨0, 6, 2, 32⟩, ⟨8, 7, 10, 70⟩]⟩,
    ⟨0x0A100C, 0x400, 8, 0x1, 1, .ro, 0x0, 0x0, []⟩,
    ⟨0x0A1010, 0x400, 8, 0x1, 1, .rc, 0x0, 0x0, []⟩,
    ⟨0x0A1014, 0x400, 8, 0x1, 1, .rw, 0x0, 0x0, [⟨0, 16, 0, 65535⟩, ⟨16, 16, 0, 65535⟩]⟩,
    ⟨0x0A1018, 0x400, 8, 0x1, 1, .rw, 0x0, 0x0, [⟨0, 16, 0, 65535⟩, ⟨16, 16, 0, 65535⟩]⟩,
    ⟨0x0A101C, 0x400, 8, 0x1, 1, .rw, 0x0, 0x0, [⟨0, 16, 0, 65535⟩, ⟨16, 16, 0, 65535⟩]⟩,
    ⟨0x0A1020, 0x400, 8, 0x1, 1, .rw, 0x70000, 0x0, [⟨2, 6, 0, 32⟩, ⟨8, 6, 0, 32⟩, ⟨15, 1, 0, 1⟩, ⟨16, 8, 4, 255⟩]⟩,
    ⟨0x0A1024, 0x400, 8, 0x1, 1, .rw, 0x0, 0x0, [⟨0, 32, 0, 4294967295⟩]⟩,
    ⟨0x0A1100, 0x400, 8, 0x8, 32, .rwl, 0xC0000, 0x0, [⟨0, 1, 0, 1⟩, ⟨1, 1, 0, 1⟩, ⟨8, 8, 0, 255⟩, ⟨16, 8, 0, 255⟩]⟩,
    ⟨0x0A1104, 0x400, 8, 0x8, 32, .rwl, 0x0, 0x0, [⟨0, 32, 0, 4294967295⟩]⟩,
    ⟨0x0A1200, 0x400, 8, 0x8, 4, .rwl, 0x0, 0x0, [⟨0, 1, 0, 1⟩, ⟨1, 1, 0, 1⟩, ⟨8, 8, 0, 255⟩, ⟨16, 6, 0, 63⟩]⟩,
    ⟨0x0A1204, 0x400, 8, 0x8, 4, .rwl, 0x0, 0x0, [⟨0, 32, 0, 4294967295⟩]⟩,
    ⟨0x0A1300, 0x400, 8, 0x1, 1, .rwl, 0x1, 0x0, [⟨0, 10, 0, 1023⟩]⟩,
    ⟨0x0A1304, 0x400, 8, 0x1, 1, .rwl, 0x2, 0x0, [⟨0, 10, 0, 1023⟩]⟩,
    ⟨0x0A1308, 0x400, 8, 0x1, 1, .rwl, 0x6, 0x0, [⟨0, 10, 0, 1023⟩]⟩,
    ⟨0x0A130C, 0x400, 8, 0x1, 1, .rwl, 0xA, 0x0, [⟨0, 10, 0, 1023⟩]⟩,
    ⟨0x0A1310, 0x400, 8, 0x1, 1, .rwl, 0xF, 0x0, [⟨0, 10, 0, 1023⟩]⟩,
    ⟨0x0A1314, 0x400, 8, 0x1, 1, .rwl, 0x16, 0x0, [⟨0, 10, 0, 1023⟩]⟩,
    ⟨0x0A1318, 0x400, 8, 0x1, 1, .rwl, 0x1E, 0x0, [⟨0, 10, 0, 1023⟩]⟩,
    ⟨0x0A131C, 0x400, 8, 0x1, 1, .rwl, 0x27, 0x0, [⟨0, 10, 0, 1023⟩]⟩,
    ⟨0x0A1320, 0x400, 8, 0x1, 1, .rwl, 0x31, 0x0, [⟨0, 10, 0, 1023⟩]⟩,
    ⟨0x0A1324, 0x400, 8, 0x1, 1, .rwl, 0x3C, 0x0, [⟨0, 10, 0, 1023⟩]⟩,
    ⟨0x0A1328, 0x400, 8, 0x1, 1, .rwl, 0x49, 0x0, [⟨0, 10, 0, 1023⟩]⟩,
    ⟨0x0A132C, 0x400, 8, 0x1, 1, .rwl, 0x56, 0x0, [⟨0, 10, 0, 1023⟩]⟩,
    ⟨0x0A1330, 0x400, 8, 0x1, 1, .rwl, 0x65, 0x0, [⟨0, 10, 0, 1023⟩]⟩,
    ⟨0x0A1334, 0x400, 8, 0x1, 1, .rwl, 0x74, 0x0, [⟨0, 10, 0, 1023⟩]⟩,
    ⟨0x0A1338, 0x400, 8, 0x1, 1, .rwl, 0x85, 0x0, [⟨0, 10, 0, 1023⟩]⟩ ]

/-- RADIO registers, part 1. -/
def regsRadio1 : List RegRow :=
  [ ⟨0x0A133C, 0x400, 8, 0x1, 1, .rwl, 0x96, 0x0, [⟨0, 10, 0, 1023⟩]⟩,
    ⟨0x0A1340, 0x400, 8, 0x1, 1, .rwl, 0xA8, 0x0, [⟨0, 10, 0, 1023⟩]⟩,
    ⟨0x0A1344, 0x400, 8, 0x1, 1, .rwl, 0xBB, 0x0, [⟨0, 10, 0, 1023⟩]⟩,
    ⟨0x0A1348, 0x400, 8, 0x1, 1, .rwl, 0xCF, 0x0, [⟨0, 10, 0, 1023⟩]⟩,
    ⟨0x0A134C, 0x400, 8, 0x1, 1, .rwl, 0xE3, 0x0, [⟨0, 10, 0, 1023⟩]⟩,
    ⟨0x0A1350, 0x400, 8, 0x1, 1, .rwl, 0xF9, 0x0, [⟨0, 10, 0, 1023⟩]⟩,
    ⟨0x0A1354, 0x400, 8, 0x1, 1, .rwl, 0x10E, 0x0, [⟨0, 10, 0, 1023⟩]⟩,
    ⟨0x0A1358, 0x400, 8, 0x1, 1, .rwl, 0x125, 0x0, [⟨0, 10, 0, 1023⟩]⟩,
    ⟨0x0A135C, 0x400, 8, 0x1, 1, .rwl, 0x13C, 0x0, [⟨0, 10, 0, 1023⟩]⟩,
    ⟨0x0A1360, 0x400, 8, 0x1, 1, .rwl, 0x153, 0x0, [⟨0, 10, 0, 1023⟩]⟩,
    ⟨0x0A1364, 0x400, 8, 0x1, 1, .rwl, 0x16B, 0x0, [⟨0, 10, 0, 1023⟩]⟩,
    ⟨0x0A1368, 0x400, 8, 0x1, 1, .rwl, 0x183, 0x0, [⟨0, 10, 0, 1023⟩]⟩,
    ⟨0x0A136C, 0x400, 8, 0x1, 1, .rwl, 0x19C, 0x0, [⟨0, 10, 0, 1023⟩]⟩,
    ⟨0x0A1370, 0x400, 8, 0x1, 1, .rwl, 0x1B4, 0x0, [⟨0, 10, 0, 1023⟩]⟩,
    ⟨0x0A1374, 0x400, 8, 0x1, 1, .rwl, 0x1CD, 0x0, [⟨0, 10, 0, 1023⟩]⟩,
    ⟨0x0A1378, 0x400, 8, 0x1, 1, .rwl, 0x1E6, 0x0, [⟨0, 10, 0, 1023⟩]⟩,
    ⟨0x0A137C, 0x400, 8, 0x1, 1, .rwl, 0x200, 0x0, [⟨0, 10, 0, 1023⟩]⟩,
    ⟨0x0A1380, 0x400, 8, 0x1, 1, .rwl, 0x219, 0x0, [⟨0, 10, 0, 1023⟩]⟩,
    ⟨0x0A1384, 0x400, 8, 0x1, 1, .rwl, 0x232, 0x0, [⟨0, 10, 0, 1023⟩]⟩,
    ⟨0x0A1388, 0x400, 8, 0x1, 1, .rwl, 0x24B, 0x0, [⟨0, 10, 0, 1023⟩]⟩,
    ⟨0x0A138C, 0x400, 8, 0x1, 1, .rwl, 0x263, 0x0, [⟨0, 10, 0, 1023⟩]⟩,
    ⟨0x0A1390, 0x400, 8, 0x1, 1, .rwl, 0x27C, 0x0, [⟨0, 10, 0, 1023⟩]⟩,
    ⟨0x0A1394, 0x400, 8, 0x1, 1, .rwl, 0x294, 0x0, [⟨0, 10, 0, 1023⟩]⟩,
    ⟨0x0A1398, 0x400, 8, 0x1, 1, .rwl, 0x2AC, 0x0, [⟨0, 10, 0, 1023⟩]⟩,
    ⟨0x0A139C, 0x400, 8, 0x1, 1, .rwl, 0x2C3, 0x0, [⟨0, 10, 0, 1023⟩]⟩,
    ⟨0x0A13A0, 0x400, 8, 0x1, 1, .rwl, 0x2DA, 0x0, [⟨0, 10, 0, 1023⟩]⟩,
    ⟨0x0A13A4, 0x400, 8, 0x1, 1, .rwl, 0x2F1, 0x0, [⟨0, 10, 0, 1023⟩]⟩,
    ⟨0x0A13A8, 0x400, 8, 0x1, 1, .rwl, 0x306, 0x0, [⟨0, 10, 0, 1023⟩]⟩,
    ⟨0x0A13AC, 0x400, 8, 0x1, 1, .rwl, 0x31C, 0x0, [⟨0, 10, 0, 1023⟩]⟩,
    ⟨0x0A13B0, 0x400, 8, 0x1, 1, .rwl, 0x330, 0x0, [⟨0, 10, 0, 1023⟩]⟩,
    ⟨0x0A13B4, 0x400, 8, 0x1, 1, .rwl, 0x344, 0x0, [⟨0, 10, 0, 1023⟩]⟩,
    ⟨0x0A13B8, 0x400, 8, 0x1, 1, .rwl, 0x357, 0x0, [⟨0, 10, 0, 1023⟩]⟩,
    ⟨0x0A13BC, 0x400, 8, 0x1, 1, .rwl, 0x369, 0x0, [⟨0, 10, 0, 1023⟩]⟩,
    ⟨0x0A13C0, 0x400, 8, 0x1, 1, .rwl, 0x37A, 0x0, [⟨0, 10, 0, 1023⟩]⟩,
    ⟨0x0A13C4, 0x400, 8, 0x1, 1, .rwl, 0x38B, 0x0, [⟨0, 10, 0, 1023⟩]⟩,
    ⟨0x0A13C8, 0x400, 8, 0x1, 1, .rwl, 0x39A, 0x0, [⟨0, 10, 0, 1023⟩]⟩,
    ⟨0x0A13CC, 0x400, 8, 0x1, 1, .rwl, 0x3A9, 0x0, [⟨0, 10, 0, 1023⟩]⟩,
    ⟨0x0A13D0, 0x400, 8, 0x1, 1, .rwl, 0x3B6, 0x0, [⟨0, 10, 0, 1023⟩]⟩,
    ⟨0x0A13D4, 0x400, 8, 0x1, 1, .rwl, 0x3C3, 0x0, [⟨0, 10, 0, 1023⟩]⟩,
    ⟨0x0A13D8, 0x400, 8, 0x1, 1, .rwl, 0x3CE, 0x0, [⟨0, 10, 0, 1023⟩]⟩ ]

/-- RADIO registers, part 2. -/
def regsRadio2 : List RegRow :=
  [ ⟨0x0A13DC, 0x400, 8, 0x1, 1, .rwl, 0x3D8, 0x0, [⟨0, 10, 0, 1023⟩]⟩,
    ⟨0x0A13E0, 0x400, 8, 0x1, 1, .rwl, 0x3E1, 0x0, [⟨0, 10, 0, 1023⟩]⟩,
    ⟨0x0A13E4, 0x400, 8, 0x1, 1, .rwl, 0x3E9, 0x0, [⟨0, 10, 0, 1023⟩]⟩,
    ⟨0x0A13E8, 0x400, 8, 0x1, 1, .rwl, 0x3F0, 0x0, [⟨0, 10, 0, 1023⟩]⟩,
    ⟨0x0A13EC, 0x400, 8, 0x1, 1, .rwl, 0x3F5, 0x0, [⟨0, 10, 0, 1023⟩]⟩,
    ⟨0x0A13F0, 0x400, 8, 0x1, 1, .rwl, 0x3F9, 0x0, [⟨0, 10, 0, 1023⟩]⟩,
    ⟨0x0A13F4, 0x400, 8, 0x1, 1, .rwl, 0x3FD, 0x0, [⟨0, 10, 0, 1023⟩]⟩,
    ⟨0x0A13F8, 0x400, 8, 0x1, 1, .rwl, 0x3FE, 0x0, [⟨0, 10, 0, 1023⟩]⟩,
    ⟨0x0A13FC, 0x400, 8, 0x1, 1, .rwl, 0x3FF, 0x0, [⟨0, 10, 0, 1023⟩]⟩ ]

/-- FLEET registers. -/
def regsFleet : List RegRow :=
  [ ⟨0x0B0000, 0x1000, 1, 0x1, 1, .ro, 0xC100B, 0x0, []⟩,
    ⟨0x0B0004, 0x1000, 1, 0x1, 1, .ro, 0x10004, 0x0, []⟩,
    ⟨0x0B0010, 0x1000, 1, 0x1, 1, .rwl, 0x420000, 0x0, [⟨0, 16, 0, 65535⟩, ⟨16, 3, 0, 7⟩, ⟨20, 4, 1, 15⟩, ⟨24, 1, 0, 1⟩]⟩,
    ⟨0x0B0014, 0x1000, 1, 0x1, 1, .ro, 0x0, 0x0, []⟩,
    ⟨0x0B0018, 0x1000, 1, 0x1, 1, .ro, 0x0, 0x0, []⟩,
    ⟨0x0B001C, 0x1000, 1, 0x1, 1, .ro, 0x0, 0x0, []⟩,
    ⟨0x0B0020, 0x4, 8, 0x1, 1, .rwl, 0x0, 0x0, [⟨0, 1, 0, 1⟩, ⟨1, 3, 0, 7⟩, ⟨4, 2, 0, 3⟩, ⟨8, 5, 0, 31⟩]⟩,
    ⟨0x0B0040, 0x1000, 1, 0x1, 1, .rc, 0x0, 0x0, []⟩,
    ⟨0x0B0044, 0x1000, 1, 0x1, 1, .rc, 0x0, 0x0, []⟩,
    ⟨0x0B0048, 0x1000, 1, 0x1, 1, .rc, 0x0, 0x0, []⟩,
    ⟨0x0B004C, 0x1000, 1, 0x1, 1, .rc, 0x0, 0x0, []⟩,
    ⟨0x0B0050, 0x1000, 1, 0x1, 1, .rc, 0x0, 0x0, []⟩,
    ⟨0x0B0054, 0x1000, 1, 0x1, 1, .rc, 0x0, 0x0, []⟩,
    ⟨0x0B0058, 0x1000, 1, 0x1, 1, .rc, 0x0, 0x0, []⟩,
    ⟨0x0B005C, 0x1000, 1, 0x1, 1, .rc, 0x0, 0x0, []⟩,
    ⟨0x0B0060, 0x1000, 1, 0x1, 1, .rwl, 0x32, 0x0, [⟨0, 16, 1, 65535⟩]⟩ ]

/-- BASELINE registers. -/
def regsBaseline : List RegRow :=
  [ ⟨0x0C0000, 0x1000, 1, 0x1, 1, .ro, 0xD100C, 0x0, []⟩,
    ⟨0x0C0004, 0x1000, 1, 0x1, 1, .ro, 0x10001, 0x0, []⟩,
    ⟨0x0C0010, 0x1000, 1, 0x1, 1, .rwl, 0xF02806, 0x0, [⟨0, 1, 0, 1⟩, ⟨1, 1, 0, 1⟩, ⟨2, 1, 0, 1⟩, ⟨8, 8, 8, 200⟩, ⟨16, 16, 200, 1000⟩]⟩,
    ⟨0x0C0014, 0x1000, 1, 0x1, 1, .ro, 0x0, 0x0, []⟩,
    ⟨0x0C0018, 0x1000, 1, 0x1, 1, .rwl, 0xF0830, 0x0, [⟨0, 8, 16, 255⟩, ⟨8, 8, 4, 64⟩, ⟨16, 8, 0, 90⟩]⟩,
    ⟨0x0C001C, 0x1000, 1, 0x1, 1, .rwl, 0xA5860, 0x0, [⟨0, 8, 0, 255⟩, ⟨8, 8, 0, 255⟩, ⟨16, 16, 0, 65535⟩]⟩,
    ⟨0x0C0020, 0x1000, 1, 0x1, 1, .rwl, 0x1E012C, 0x0, [⟨0, 16, 0, 65535⟩, ⟨16, 16, 0, 65535⟩]⟩,
    ⟨0x0C0024, 0x1000, 1, 0x1, 1, .rwl, 0x2710, 0x0, [⟨0, 32, 0, 4294967295⟩]⟩,
    ⟨0x0C0028, 0x1000, 1, 0x1, 1, .rwl, 0x0, 0x0, [⟨0, 32, 0, 4294967295⟩]⟩,
    ⟨0x0C002C, 0x1000, 1, 0x1, 1, .rwl, 0x0, 0x0, [⟨0, 6, 0, 63⟩]⟩,
    ⟨0x0C0030, 0x1000, 1, 0x1, 1, .rwl, 0x0, 0x0, [⟨0, 32, 0, 4294967295⟩]⟩,
    ⟨0x0C0034, 0x1000, 1, 0x1, 1, .rwl, 0x0, 0x0, [⟨0, 6, 0, 63⟩]⟩,
    ⟨0x0C0038, 0x1000, 1, 0x1, 1, .rwl, 0x0, 0x0, [⟨0, 32, 0, 4294967295⟩]⟩,
    ⟨0x0C003C, 0x1000, 1, 0x1, 1, .rwl, 0x0, 0x0, [⟨0, 6, 0, 63⟩]⟩,
    ⟨0x0C0040, 0x1000, 1, 0x1, 1, .rwl, 0xF0, 0x0, [⟨0, 9, 32, 480⟩]⟩,
    ⟨0x0C0044, 0x1000, 1, 0x1, 1, .rc, 0x0, 0x0, []⟩,
    ⟨0x0C0048, 0x1000, 1, 0x1, 1, .rc, 0x0, 0x0, []⟩,
    ⟨0x0C004C, 0x1000, 1, 0x1, 1, .rc, 0x0, 0x0, []⟩,
    ⟨0x0C0050, 0x1000, 1, 0x1, 1, .rc, 0x0, 0x0, []⟩,
    ⟨0x0C0054, 0x1000, 1, 0x1, 1, .rc, 0x0, 0x0, []⟩,
    ⟨0x0C0058, 0x1000, 1, 0x1, 1, .rc, 0x0, 0x0, []⟩,
    ⟨0x0C005C, 0x1000, 1, 0x1, 1, .rc, 0x0, 0x0, []⟩,
    ⟨0x0C0060, 0x1000, 1, 0x1, 1, .rc, 0x0, 0x0, []⟩ ]

/-- ALLOT registers. -/
def regsAllot : List RegRow :=
  [ ⟨0x0D0000, 0x1000, 1, 0x1, 1, .ro, 0xE100D, 0x0, []⟩,
    ⟨0x0D0004, 0x1000, 1, 0x1, 1, .ro, 0x10001, 0x0, []⟩,
    ⟨0x0D0010, 0x1000, 1, 0x1, 1, .rwl, 0x4400240, 0x0, [⟨0, 1, 0, 1⟩, ⟨4, 4, 2, 15⟩, ⟨8, 2, 1, 3⟩, ⟨16, 7, 1, 64⟩, ⟨24, 3, 1, 7⟩]⟩,
    ⟨0x0D0014, 0x1000, 1, 0x1, 1, .ro, 0x0, 0x0, []⟩,
    ⟨0x0D0018, 0x1000, 1, 0x1, 1, .ro, 0x0, 0x0, []⟩,
    ⟨0x0D001C, 0x1000, 1, 0x1, 1, .rwl, 0x4B0, 0x0, [⟨0, 32, 200, 40000⟩]⟩,
    ⟨0x0D0020, 0x1000, 1, 0x1, 1, .rwl, 0x190, 0x0, [⟨0, 32, 40, 4000⟩]⟩,
    ⟨0x0D0024, 0x1000, 1, 0x1, 1, .rwl, 0xFA0, 0x0, [⟨0, 32, 0, 40000⟩]⟩,
    ⟨0x0D0028, 0x1000, 1, 0x1, 1, .rwl, 0x12C, 0x0, [⟨0, 16, 0, 65535⟩]⟩,
    ⟨0x0D002C, 0x1000, 1, 0x1, 1, .ro, 0x0, 0x0, []⟩,
    ⟨0x0D0030, 0x1000, 1, 0x1, 1, .rc, 0x0, 0x0, []⟩,
    ⟨0x0D0034, 0x1000, 1, 0x1, 1, .rc, 0x0, 0x0, []⟩,
    ⟨0x0D0038, 0x1000, 1, 0x1, 1, .rc, 0x0, 0x0, []⟩,
    ⟨0x0D003C, 0x1000, 1, 0x1, 1, .rc, 0x0, 0x0, []⟩,
    ⟨0x0D0040, 0x1000, 1, 0x1, 1, .rc, 0x0, 0x0, []⟩,
    ⟨0x0D0044, 0x1000, 1, 0x1, 1, .rc, 0x0, 0x0, []⟩,
    ⟨0x0D0048, 0x1000, 1, 0x1, 1, .rc, 0x0, 0x0, []⟩,
    ⟨0x0D004C, 0x1000, 1, 0x1, 1, .rc, 0x0, 0x0, []⟩ ]

/-- STOP registers. -/
def regsStop : List RegRow :=
  [ ⟨0x0E0000, 0x1000, 1, 0x1, 1, .ro, 0xF100E, 0x0, []⟩,
    ⟨0x0E0004, 0x1000, 1, 0x1, 1, .ro, 0x10001, 0x0, []⟩,
    ⟨0x0E0010, 0x1000, 1, 0x1, 1, .ro, 0x0, 0x0, []⟩,
    ⟨0x0E0014, 0x1000, 1, 0x1, 1, .rwl, 0xF05, 0x0, [⟨0, 8, 2, 20⟩, ⟨8, 1, 0, 1⟩, ⟨9, 3, 0, 7⟩, ⟨12, 1, 0, 1⟩]⟩,
    ⟨0x0E0018, 0x1000, 1, 0x1, 1, .rwl, 0xC8, 0x0, [⟨0, 32, 4, 4000⟩]⟩,
    ⟨0x0E001C, 0x1000, 1, 0x1, 1, .rwl, 0x190, 0x0, [⟨0, 32, 4, 40000⟩]⟩,
    ⟨0x0E0020, 0x1000, 1, 0x1, 1, .ro, 0x0, 0x0, []⟩,
    ⟨0x0E0024, 0x1000, 1, 0x1, 1, .ro, 0x0, 0x0, []⟩,
    ⟨0x0E0028, 0x1000, 1, 0x1, 1, .ro, 0x0, 0x0, []⟩,
    ⟨0x0E002C, 0x1000, 1, 0x1, 1, .ro, 0x0, 0x0, []⟩,
    ⟨0x0E0030, 0x1000, 1, 0x1, 1, .rc, 0x0, 0x0, []⟩,
    ⟨0x0E0034, 0x1000, 1, 0x1, 1, .rc, 0x0, 0x0, []⟩,
    ⟨0x0E0038, 0x1000, 1, 0x1, 1, .rc, 0x0, 0x0, []⟩,
    ⟨0x0E003C, 0x1000, 1, 0x1, 1, .rc, 0x0, 0x0, []⟩,
    ⟨0x0E0100, 0x4, 8, 0x1, 1, .ro, 0x0, 0x0, []⟩ ]

/-- MESH registers, part 0. -/
def regsMesh0 : List RegRow :=
  [ ⟨0x0F0000, 0x1000, 1, 0x1, 1, .ro, 0x10100F, 0x0, []⟩,
    ⟨0x0F0004, 0x1000, 1, 0x1, 1, .ro, 0x10010, 0x0, []⟩,
    ⟨0x0F0010, 0x1000, 1, 0x1, 1, .ro, 0x0, 0x0, []⟩,
    ⟨0x0F0014, 0x1000, 1, 0x1, 1, .rwl, 0x280032, 0x0, [⟨0, 1, 0, 1⟩, ⟨1, 2, 0, 3⟩, ⟨4, 3, 0, 7⟩, ⟨16, 8, 1, 255⟩]⟩,
    ⟨0x0F0018, 0x1000, 1, 0x1, 1, .rwl, 0x3E80848, 0x0, [⟨0, 16, 0, 65535⟩, ⟨16, 16, 0, 65535⟩]⟩,
    ⟨0x0F001C, 0x1000, 1, 0x1, 1, .rwl, 0x190044C, 0x0, [⟨0, 16, 0, 65535⟩, ⟨16, 16, 0, 65535⟩]⟩,
    ⟨0x0F0020, 0x1000, 1, 0x1, 1, .rwl, 0x7D0, 0x0, [⟨0, 16, 0, 65535⟩]⟩,
    ⟨0x0F0024, 0x1000, 1, 0x1, 1, .rwl, 0x40300, 0x0, [⟨0, 16, 0, 65535⟩, ⟨16, 4, 1, 8⟩]⟩,
    ⟨0x0F0028, 0x1000, 1, 0x1, 1, .rwl, 0x3C71453, 0x0, [⟨0, 4, 0, 15⟩, ⟨4, 4, 0, 15⟩, ⟨8, 3, 0, 7⟩, ⟨12, 4, 0, 15⟩, ⟨16, 4, 0, 15⟩, ⟨20, 8, 0, 255⟩]⟩,
    ⟨0x0F002C, 0x1000, 1, 0x1, 1, .rwl, 0x10000, 0x0, [⟨0, 32, 1, 4294967295⟩]⟩,
    ⟨0x0F0030, 0x1000, 1, 0x1, 1, .rwl, 0x0, 0x0, [⟨0, 32, 0, 4294967295⟩]⟩,
    ⟨0x0F0034, 0x1000, 1, 0x1, 1, .rwl, 0x0, 0x0, [⟨0, 32, 0, 4294967295⟩]⟩,
    ⟨0x0F0038, 0x1000, 1, 0x1, 1, .rwl, 0x0, 0x0, [⟨0, 16, 0, 65535⟩]⟩,
    ⟨0x0F0040, 0x1000, 1, 0x1, 1, .rc, 0x0, 0x0, []⟩,
    ⟨0x0F0044, 0x1000, 1, 0x1, 1, .rc, 0x0, 0x0, []⟩,
    ⟨0x0F0048, 0x1000, 1, 0x1, 1, .rc, 0x0, 0x0, []⟩,
    ⟨0x0F004C, 0x1000, 1, 0x1, 1, .rc, 0x0, 0x0, []⟩,
    ⟨0x0F0050, 0x1000, 1, 0x1, 1, .rc, 0x0, 0x0, []⟩,
    ⟨0x0F0054, 0x1000, 1, 0x1, 1, .rc, 0x0, 0x0, []⟩,
    ⟨0x0F0058, 0x1000, 1, 0x1, 1, .rc, 0x0, 0x0, []⟩,
    ⟨0x0F005C, 0x1000, 1, 0x1, 1, .rc, 0x0, 0x0, []⟩,
    ⟨0x0F0060, 0x1000, 1, 0x1, 1, .rc, 0x0, 0x0, []⟩,
    ⟨0x0F0064, 0x1000, 1, 0x1, 1, .rc, 0x0, 0x0, []⟩,
    ⟨0x0F0068, 0x1000, 1, 0x1, 1, .rc, 0x0, 0x0, []⟩,
    ⟨0x0F006C, 0x1000, 1, 0x1, 1, .rc, 0x0, 0x0, []⟩,
    ⟨0x0F0070, 0x1000, 1, 0x1, 1, .rc, 0x0, 0x0, []⟩,
    ⟨0x0F0080, 0x1000, 1, 0x1, 1, .ro, 0x0, 0x0, []⟩,
    ⟨0x0F0100, 0x4, 64, 0x1, 1, .rwl, 0x0, 0x0, [⟨0, 1, 0, 1⟩, ⟨1, 1, 0, 1⟩, ⟨2, 3, 0, 7⟩, ⟨5, 5, 0, 31⟩, ⟨10, 2, 0, 3⟩, ⟨12, 1, 0, 1⟩, ⟨16, 16, 0, 65535⟩]⟩,
    ⟨0x0F0200, 0x4, 4, 0x1, 1, .rwl, 0x1, 0x0, [⟨0, 5, 1, 16⟩]⟩,
    ⟨0x0F0300, 0x40, 4, 0x4, 16, .rwl, 0x0, 0x0, [⟨0, 6, 0, 63⟩]⟩,
    ⟨0x0F1000, 0x1000, 1, 0x1, 1, .rwl, 0x80C0014, 0x0, [⟨0, 4, 1, 8⟩, ⟨4, 1, 0, 1⟩, ⟨8, 8, 0, 255⟩, ⟨16, 5, 6, 20⟩, ⟨24, 4, 0, 15⟩]⟩,
    ⟨0x0F1004, 0x1000, 1, 0x1, 1, .rwl, 0xD, 0x0, [⟨0, 5, 9, 16⟩]⟩,
    ⟨0x0F1008, 0x1000, 1, 0x1, 1, .rwl, 0x3C003C, 0x0, [⟨0, 8, 0, 255⟩, ⟨16, 16, 0, 65535⟩]⟩,
    ⟨0x0F100C, 0x1000, 1, 0x1, 1, .rwl, 0x3C, 0x0, [⟨0, 8, 1, 255⟩]⟩,
    ⟨0x0F1010, 0x1000, 1, 0x1, 1, .rwl, 0x83D600, 0x0, [⟨0, 32, 0, 4294967295⟩]⟩,
    ⟨0x0F1014, 0x1000, 1, 0x1, 1, .rwl, 0x10, 0x0, [⟨0, 8, 1, 255⟩]⟩,
    ⟨0x0F1018, 0x1000, 1, 0x1, 1, .ro, 0x0, 0x0, []⟩,
    ⟨0x0F101C, 0x1000, 1, 0x1, 1, .ro, 0x0, 0x0, []⟩,
    ⟨0x0F1020, 0x1000, 1, 0x1, 1, .ro, 0x0, 0x0, []⟩,
    ⟨0x0F1024, 0x1000, 1, 0x1, 1, .ro, 0x0, 0x0, []⟩ ]

/-- MESH registers, part 1. -/
def regsMesh1 : List RegRow :=
  [ ⟨0x0F1028, 0x1000, 1, 0x1, 1, .rc, 0x0, 0x0, []⟩,
    ⟨0x0F102C, 0x1000, 1, 0x1, 1, .rc, 0x0, 0x0, []⟩,
    ⟨0x0F1030, 0x1000, 1, 0x1, 1, .rc, 0x0, 0x0, []⟩,
    ⟨0x0F1034, 0x1000, 1, 0x1, 1, .rc, 0x0, 0x0, []⟩,
    ⟨0x0F1038, 0x1000, 1, 0x1, 1, .rc, 0x0, 0x0, []⟩,
    ⟨0x0F103C, 0x1000, 1, 0x1, 1, .rc, 0x0, 0x0, []⟩,
    ⟨0x0F1040, 0x1000, 1, 0x1, 1, .rc, 0x0, 0x0, []⟩,
    ⟨0x0F1044, 0x1000, 1, 0x1, 1, .rc, 0x0, 0x0, []⟩ ]

/-- PAIR registers. -/
def regsPair : List RegRow :=
  [ ⟨0x100000, 0x1000, 1, 0x1, 1, .ro, 0x111010, 0x0, []⟩,
    ⟨0x100004, 0x1000, 1, 0x1, 1, .ro, 0x10001, 0x0, []⟩,
    ⟨0x100010, 0x1000, 1, 0x1, 1, .rwl, 0x1A, 0x0, [⟨0, 1, 0, 1⟩, ⟨1, 2, 0, 3⟩, ⟨3, 1, 0, 1⟩, ⟨4, 1, 0, 1⟩]⟩,
    ⟨0x100014, 0x1000, 1, 0x1, 1, .ro, 0x0, 0x0, []⟩,
    ⟨0x100018, 0x1000, 1, 0x1, 1, .ro, 0x0, 0x0, []⟩,
    ⟨0x10001C, 0x1000, 1, 0x1, 1, .rwl, 0x0, 0x0, [⟨0, 32, 0, 4294967295⟩]⟩,
    ⟨0x100020, 0x1000, 1, 0x1, 1, .rwl, 0x124F80, 0x0, [⟨0, 32, 4000, 40000000⟩]⟩,
    ⟨0x100024, 0x1000, 1, 0x1, 1, .rwl, 0xFA0, 0x0, [⟨0, 32, 400, 400000⟩]⟩,
    ⟨0x100028, 0x1000, 1, 0x1, 1, .ro, 0x0, 0x0, []⟩,
    ⟨0x10002C, 0x1000, 1, 0x1, 1, .ro, 0x0, 0x0, []⟩,
    ⟨0x100030, 0x1000, 1, 0x1, 1, .ro, 0x0, 0x0, []⟩,
    ⟨0x100034, 0x1000, 1, 0x1, 1, .rc, 0x0, 0x0, []⟩,
    ⟨0x100038, 0x1000, 1, 0x1, 1, .rc, 0x0, 0x0, []⟩,
    ⟨0x10003C, 0x1000, 1, 0x1, 1, .rc, 0x0, 0x0, []⟩,
    ⟨0x100040, 0x1000, 1, 0x1, 1, .rc, 0x0, 0x0, []⟩,
    ⟨0x100044, 0x1000, 1, 0x1, 1, .rc, 0x0, 0x0, []⟩,
    ⟨0x100048, 0x1000, 1, 0x1, 1, .rc, 0x0, 0x0, []⟩,
    ⟨0x10004C, 0x1000, 1, 0x1, 1, .rc, 0x0, 0x0, []⟩,
    ⟨0x100050, 0x1000, 1, 0x1, 1, .rc, 0x0, 0x0, []⟩,
    ⟨0x100054, 0x1000, 1, 0x1, 1, .ro, 0x0, 0x0, []⟩,
    ⟨0x100060, 0x4, 8, 0x1, 1, .ro, 0x0, 0x0, []⟩ ]

/-- KEYS registers. -/
def regsKeys : List RegRow :=
  [ ⟨0x110000, 0x1000, 1, 0x1, 1, .ro, 0x121011, 0x0, []⟩,
    ⟨0x110004, 0x1000, 1, 0x1, 1, .ro, 0x10001, 0x0, []⟩,
    ⟨0x110010, 0x1000, 1, 0x1, 1, .ro, 0x20, 0x0, []⟩,
    ⟨0x110014, 0x1000, 1, 0x1, 1, .rwl, 0xFA0, 0x0, [⟨0, 16, 400, 40000⟩, ⟨16, 1, 0, 1⟩]⟩,
    ⟨0x110018, 0x1000, 1, 0x1, 1, .rwl, 0x5555, 0x0, [⟨0, 16, 0, 65535⟩, ⟨16, 4, 0, 15⟩, ⟨20, 1, 0, 1⟩]⟩,
    ⟨0x11001C, 0x1000, 1, 0x1, 1, .ro, 0x0, 0x0, []⟩,
    ⟨0x110020, 0x1000, 1, 0x1, 1, .ro, 0x0, 0x0, []⟩,
    ⟨0x110024, 0x1000, 1, 0x1, 1, .ro, 0x0, 0x0, []⟩,
    ⟨0x110028, 0x1000, 1, 0x1, 1, .rc, 0x0, 0x0, []⟩,
    ⟨0x11002C, 0x1000, 1, 0x1, 1, .ro, 0x0, 0x0, []⟩,
    ⟨0x110030, 0x1000, 1, 0x1, 1, .ro, 0x0, 0x0, []⟩,
    ⟨0x110034, 0x1000, 1, 0x1, 1, .ro, 0x0, 0x0, []⟩,
    ⟨0x110038, 0x1000, 1, 0x1, 1, .ro, 0x0, 0x0, []⟩,
    ⟨0x110040, 0x1000, 1, 0x1, 1, .ro, 0x0, 0x0, []⟩,
    ⟨0x110044, 0x1000, 1, 0x1, 1, .ro, 0x0, 0x0, []⟩,
    ⟨0x110048, 0x1000, 1, 0x1, 1, .ro, 0x0, 0x0, []⟩,
    ⟨0x11004C, 0x1000, 1, 0x1, 1, .ro, 0x0, 0x0, []⟩,
    ⟨0x110050, 0x1000, 1, 0x1, 1, .ro, 0x0, 0x0, []⟩ ]

/-- WELLGATE registers. -/
def regsWellgate : List RegRow :=
  [ ⟨0x120000, 0x1000, 1, 0x1, 1, .ro, 0x131012, 0x0, []⟩,
    ⟨0x120004, 0x1000, 1, 0x1, 1, .ro, 0x10001, 0x0, []⟩,
    ⟨0x120010, 0x1000, 1, 0x1, 1, .rwl, 0x3, 0x0, [⟨0, 1, 0, 1⟩, ⟨1, 1, 0, 1⟩]⟩,
    ⟨0x120014, 0x1000, 1, 0x1, 1, .ro, 0x0, 0x0, []⟩,
    ⟨0x120018, 0x1000, 1, 0x1, 1, .ro, 0x0, 0x0, []⟩,
    ⟨0x12001C, 0x1000, 1, 0x1, 1, .ro, 0x0, 0x0, []⟩,
    ⟨0x120020, 0x1000, 1, 0x1, 1, .ro, 0x0, 0x0, []⟩,
    ⟨0x120024, 0x1000, 1, 0x1, 1, .ro, 0x0, 0x0, []⟩,
    ⟨0x120028, 0x1000, 1, 0x1, 1, .ro, 0x0, 0x0, []⟩,
    ⟨0x12002C, 0x1000, 1, 0x1, 1, .ro, 0x0, 0x0, []⟩,
    ⟨0x120030, 0x1000, 1, 0x1, 1, .rc, 0x0, 0x0, []⟩,
    ⟨0x120034, 0x1000, 1, 0x1, 1, .rc, 0x0, 0x0, []⟩,
    ⟨0x120038, 0x1000, 1, 0x1, 1, .rc, 0x0, 0x0, []⟩,
    ⟨0x12003C, 0x1000, 1, 0x1, 1, .rc, 0x0, 0x0, []⟩,
    ⟨0x120100, 0x8, 4, 0x1, 1, .ro, 0x0, 0x0, []⟩,
    ⟨0x120104, 0x8, 4, 0x1, 1, .ro, 0x0, 0x0, []⟩ ]

/-- MOTION registers. -/
def regsMotion : List RegRow :=
  [ ⟨0x130000, 0x1000, 1, 0x1, 1, .ro, 0x141013, 0x0, []⟩,
    ⟨0x130004, 0x1000, 1, 0x1, 1, .ro, 0x10001, 0x0, []⟩,
    ⟨0x130010, 0x1000, 1, 0x1, 1, .ro, 0x0, 0x0, []⟩,
    ⟨0x130014, 0x1000, 1, 0x1, 1, .ro, 0x0, 0x0, []⟩,
    ⟨0x130018, 0x1000, 1, 0x1, 1, .rc, 0x0, 0x0, []⟩,
    ⟨0x130100, 0x40, 16, 0x1, 1, .rwl, 0x0, 0x0, [⟨0, 1, 0, 1⟩, ⟨1, 1, 0, 1⟩, ⟨2, 1, 0, 1⟩, ⟨3, 1, 0, 1⟩, ⟨4, 1, 0, 1⟩, ⟨5, 1, 0, 1⟩, ⟨6, 1, 0, 1⟩, ⟨7, 1, 0, 1⟩, ⟨8, 1, 0, 1⟩, ⟨9, 2, 0, 3⟩, ⟨11, 2, 0, 3⟩]⟩,
    ⟨0x130104, 0x40, 16, 0x1, 1, .rwl, 0x4042819, 0x0, [⟨0, 7, 20, 80⟩, ⟨8, 8, 4, 100⟩, ⟨16, 4, 0, 15⟩, ⟨24, 4, 0, 15⟩]⟩,
    ⟨0x130108, 0x40, 16, 0x1, 1, .rw, 0x7D02040, 0x0, [⟨0, 8, 0, 255⟩, ⟨8, 8, 0, 255⟩, ⟨16, 16, 0, 65535⟩]⟩,
    ⟨0x13010C, 0x40, 16, 0x1, 1, .rwl, 0x81018, 0x0, [⟨0, 8, 0, 255⟩, ⟨8, 8, 0, 255⟩, ⟨16, 8, 0, 255⟩]⟩,
    ⟨0x130110, 0x40, 16, 0x1, 1, .rwl, 0x100000, 0x0, [⟨0, 32, 1, 4294967295⟩]⟩,
    ⟨0x130114, 0x40, 16, 0x1, 1, .rwl, 0x4000000, 0x0, [⟨0, 32, 1, 268435456⟩]⟩,
    ⟨0x130118, 0x40, 16, 0x1, 1, .rwl, 0xA0032, 0x0, [⟨0, 8, 1, 255⟩, ⟨8, 24, 0, 16777215⟩]⟩,
    ⟨0x13011C, 0x40, 16, 0x1, 1, .rwl, 0x400000, 0x0, [⟨0, 32, 0, 4294967295⟩]⟩,
    ⟨0x130120, 0x40, 16, 0x1, 1, .ro, 0x0, 0x0, []⟩,
    ⟨0x130124, 0x40, 16, 0x1, 1, .ro, 0x0, 0x0, []⟩,
    ⟨0x130128, 0x40, 16, 0x1, 1, .ro, 0x0, 0x0, []⟩,
    ⟨0x13012C, 0x40, 16, 0x1, 1, .ro, 0x0, 0x0, []⟩,
    ⟨0x130130, 0x40, 16, 0x1, 1, .rwl, 0xE6, 0x0, [⟨0, 8, 0, 255⟩]⟩ ]

/-- LOOPS registers. -/
def regsLoops : List RegRow :=
  [ ⟨0x140000, 0x1000, 1, 0x1, 1, .ro, 0x151014, 0x0, []⟩,
    ⟨0x140004, 0x1000, 1, 0x1, 1, .ro, 0x10004, 0x0, []⟩,
    ⟨0x140010, 0x1000, 1, 0x1, 1, .rwl, 0x0, 0x0, [⟨0, 16, 0, 65535⟩]⟩,
    ⟨0x140014, 0x1000, 1, 0x1, 1, .rwl, 0x4E20, 0x0, [⟨0, 17, 250, 100000⟩]⟩,
    ⟨0x140080, 0x4, 16, 0x1, 1, .ro, 0x0, 0x0, []⟩,
    ⟨0x140200, 0x8, 8, 0x1, 1, .rwl, 0x1008310, 0x0, [⟨0, 5, 0, 31⟩, ⟨8, 16, 0, 65535⟩, ⟨24, 8, 1, 255⟩]⟩,
    ⟨0x140204, 0x8, 8, 0x1, 1, .ro, 0x0, 0x0, []⟩,
    ⟨0x141000, 0x80, 32, 0x1, 1, .rwl, 0x140, 0x0, [⟨0, 1, 0, 1⟩, ⟨1, 1, 0, 1⟩, ⟨4, 4, 1, 15⟩, ⟨8, 12, 1, 4000⟩, ⟨20, 12, 0, 4095⟩]⟩,
    ⟨0x141004, 0x80, 32, 0x1, 1, .rwl, 0x0, 0x0, [⟨0, 32, 0, 4294967295⟩]⟩,
    ⟨0x141008, 0x80, 32, 0x1, 1, .rwl, 0x0, 0x0, [⟨0, 32, 0, 4294967295⟩]⟩,
    ⟨0x14100C, 0x80, 32, 0x1, 1, .rwl, 0x0, 0x0, [⟨0, 32, 0, 4294967295⟩]⟩,
    ⟨0x141010, 0x80, 32, 0x1, 1, .rwl, 0x3F800000, 0x0, [⟨0, 32, 0, 4294967295⟩]⟩,
    ⟨0x141014, 0x80, 32, 0x1, 1, .rwl, 0x0, 0x0, [⟨0, 32, 0, 4294967295⟩]⟩,
    ⟨0x141018, 0x80, 32, 0x1, 1, .rwl, 0x0, 0x0, [⟨0, 32, 0, 4294967295⟩]⟩,
    ⟨0x14101C, 0x80, 32, 0x1, 1, .rwl, 0x0, 0x0, [⟨0, 32, 0, 4294967295⟩]⟩,
    ⟨0x141020, 0x80, 32, 0x1, 1, .rwl, 0x3F800000, 0x0, [⟨0, 32, 0, 4294967295⟩]⟩,
    ⟨0x141024, 0x80, 32, 0x1, 1, .rwl, 0x0, 0x0, [⟨0, 32, 0, 4294967295⟩]⟩,
    ⟨0x141028, 0x80, 32, 0x1, 1, .rwl, 0x0, 0x0, [⟨0, 32, 0, 4294967295⟩]⟩,
    ⟨0x14102C, 0x80, 32, 0x1, 1, .rwl, 0x0, 0x0, [⟨0, 32, 0, 4294967295⟩]⟩,
    ⟨0x141030, 0x80, 32, 0x1, 1, .rwl, 0x3F800000, 0x0, [⟨0, 32, 0, 4294967295⟩]⟩,
    ⟨0x141034, 0x80, 32, 0x1, 1, .rwl, 0x3F800000, 0x0, [⟨0, 32, 0, 4294967295⟩]⟩,
    ⟨0x141038, 0x80, 32, 0x1, 1, .rwl, 0x0, 0x0, [⟨0, 32, 0, 4294967295⟩]⟩,
    ⟨0x14103C, 0x80, 32, 0x1, 1, .rwl, 0x0, 0x0, [⟨0, 32, 0, 4294967295⟩]⟩,
    ⟨0x141040, 0x80, 32, 0x1, 1, .rwl, 0x9C40, 0x0, [⟨0, 32, 0, 4294967295⟩]⟩,
    ⟨0x141044, 0x80, 32, 0x1, 1, .rwl, 0x9C400FA0, 0x0, [⟨0, 16, 0, 65535⟩, ⟨16, 16, 0, 65535⟩]⟩,
    ⟨0x141048, 0x80, 32, 0x1, 1, .rwl, 0x3F800000, 0x0, [⟨0, 32, 0, 4294967295⟩]⟩,
    ⟨0x14104C, 0x80, 32, 0x1, 1, .ro, 0x0, 0x0, []⟩,
    ⟨0x141050, 0x80, 32, 0x1, 1, .ro, 0x0, 0x0, []⟩,
    ⟨0x141054, 0x80, 32, 0x1, 1, .ro, 0x0, 0x0, []⟩,
    ⟨0x141058, 0x80, 32, 0x1, 1, .ro, 0x0, 0x0, []⟩,
    ⟨0x14105C, 0x80, 32, 0x1, 1, .rc, 0x0, 0x0, []⟩ ]

/-- RECORDER registers. -/
def regsRecorder : List RegRow :=
  [ ⟨0x150000, 0x1000, 1, 0x1, 1, .ro, 0x161015, 0x0, []⟩,
    ⟨0x150004, 0x1000, 1, 0x1, 1, .ro, 0x10001, 0x0, []⟩,
    ⟨0x150010, 0x1000, 1, 0x1, 1, .ro, 0x0, 0x0, []⟩,
    ⟨0x150014, 0x1000, 1, 0x1, 1, .rw, 0xFA0, 0x0, [⟨0, 16, 40, 40000⟩, ⟨16, 1, 0, 1⟩, ⟨17, 1, 0, 1⟩]⟩,
    ⟨0x150018, 0x1000, 1, 0x1, 1, .ro, 0x0, 0x0, []⟩,
    ⟨0x15001C, 0x1000, 1, 0x1, 1, .ro, 0x0, 0x0, []⟩,
    ⟨0x150020, 0x1000, 1, 0x1, 1, .ro, 0x0, 0x0, []⟩,
    ⟨0x150024, 0x1000, 1, 0x1, 1, .ro, 0x0, 0x0, []⟩,
    ⟨0x150028, 0x1000, 1, 0x1, 1, .rc, 0x0, 0x0, []⟩,
    ⟨0x150030, 0x1000, 1, 0x1, 1, .rw, 0x0, 0x0, [⟨0, 17, 0, 131071⟩]⟩,
    ⟨0x150040, 0x4, 8, 0x1, 1, .ro, 0x0, 0x0, []⟩ ]

/-- MEMORY registers. -/
def regsMemory : List RegRow :=
  [ ⟨0x160000, 0x1000, 1, 0x1, 1, .ro, 0x1016, 0x0, []⟩,
    ⟨0x160004, 0x1000, 1, 0x1, 1, .ro, 0x10001, 0x0, []⟩,
    ⟨0x160010, 0x1000, 1, 0x1, 1, .ro, 0x0, 0x0, []⟩,
    ⟨0x160014, 0x1000, 1, 0x1, 1, .rwl, 0x3D0900, 0x0, [⟨0, 32, 0, 4294967295⟩]⟩,
    ⟨0x160018, 0x1000, 1, 0x1, 1, .ro, 0x0, 0x0, []⟩,
    ⟨0x160100, 0x10, 19, 0x1, 1, .ro, 0x0, 0x0, []⟩,
    ⟨0x160104, 0x10, 19, 0x1, 1, .rc, 0x0, 0x0, []⟩,
    ⟨0x160108, 0x10, 19, 0x1, 1, .rc, 0x0, 0x0, []⟩,
    ⟨0x16010C, 0x10, 19, 0x1, 1, .ro, 0x0, 0x0, []⟩ ]

/-- MSI-X table and pending-bit array in the RINGS block (R77, R79). The vector control word resets to 1, masked
(PRESUMED: PCIe Base 4.0, log entry 12). -/
def regsMsix : List RegRow :=
  [ ⟨0x042000, 0x10, 64, 0x4, 3, .rw, 0, 0, [⟨0, 32, 0, 0xFFFFFFFF⟩]⟩,
    ⟨0x04200C, 0x10, 64, 0x1, 1, .rw, 1, 0, [⟨0, 1, 0, 1⟩]⟩,
    ⟨0x043000, 0x4, 2, 0x1, 1, .ro, 0, 0, []⟩ ]

/-- The rows of the block at BAR0 offset `cap` × 0x1_0000; IDENT sits at offset 0 (R52). -/
def regRows (cap : Nat) : List RegRow :=
  match cap with
  | 0x00 => regsIdent
  | 0x02 => regsSystem
  | 0x03 => regsStroke
  | 0x04 => regsRings ++ regsMsix
  | 0x05 => regsCistern
  | 0x06 => regsPorts
  | 0x07 => regsForward
  | 0x08 => regsTime
  | 0x09 => regsGnss
  | 0x0A => regsRadio0 ++ regsRadio1 ++ regsRadio2
  | 0x0B => regsFleet
  | 0x0C => regsBaseline
  | 0x0D => regsAllot
  | 0x0E => regsStop
  | 0x0F => regsMesh0 ++ regsMesh1
  | 0x10 => regsPair
  | 0x11 => regsKeys
  | 0x12 => regsWellgate
  | 0x13 => regsMotion
  | 0x14 => regsLoops
  | 0x15 => regsRecorder
  | 0x16 => regsMemory
  | _ => []

end Sys2Proof.Machine
end

