-- ==== Sys2Proof/Types/Motion.lean ====
section
/-! DEFINITION. Plain data of MOTION (R433–R451) and LOOPS (R452–R464). -/

namespace Sys2Proof.Machine

/-- A segment of an axis table (R438). -/
structure AxisSeg where
  t : Nat
  fin : Bool
  link : Option Nat
  /-- end position in microsteps -/
  p1 : Int
  /-- end velocity in q per stroke -/
  v1 : Int
  deriving DecidableEq, Repr

/-- A segment in force or planned (R436): positions in q, velocities in q per stroke, `k` sub-ticks taken of 16 t. -/
structure Run where
  p0 : Int
  v0 : Int
  p1 : Int
  v1 : Int
  t : Nat
  k : Nat := 0
  deriving DecidableEq, Repr

/-- The command an axis runs. -/
inductive AxisCmd where
  /-- MOT_PROFILE with the index of the segment in force (R438) -/
  | profile (d : Desc) (seg : Nat)
  /-- MOT_MOVE (R439): target in q; VMAX, ACC, DEC in force; the ramp; the last segment is planned; a retune for the next
  stroke (R440) -/
  | move (d : Desc) (target : Int) (vmax acc dec : Nat) (ramp : Option Nat) (done : Bool) (retune : Option (Nat × Nat × Nat))
  /-- MOT_HOME (R447): search direction, SEARCH, CREEP, ACC, HOME_POS in microsteps, step, limits struck, SN of its start -/
  | home (d : Desc) (neg : Bool) (search creep acc : Nat) (pos : Int) (step limits sn : Nat)
  deriving DecidableEq, Repr

/-- A limit or home input (R446). -/
structure AxisIn where
  /-- qualified active -/
  active : Bool := false
  /-- SNs of its qualified changes in the last 4,000 strokes -/
  changes : List Nat := []
  /-- an excursion of more than 8 changes stands -/
  chatter : Bool := false
  deriving DecidableEq, Repr

/-- One axis. -/
structure Axis where
  /-- commanded position in q, 64-bit signed -/
  pos : Int := 0
  /-- velocity in 1/16 q per stroke -/
  v16 : Int := 0
  enabled : Bool := false
  fault : Bool := false
  referenced : Bool := false
  retained : Bool := false
  overspeed : Bool := false
  segs : Tab AxisSeg := []
  cmd : Option AxisCmd := none
  /-- the segment in force -/
  run : Option Run := none
  /-- the segment planned for the next stroke (R435) -/
  plan : Option Run := none
  /-- the stop generator reduces v (R443) -/
  stopping : Bool := false
  /-- sub-ticks since v became 0 -/
  still : Nat := 0
  /-- HOLD current by an inhibit (R448) -/
  froze : Bool := false
  limp : AxisIn := {}
  limn : AxisIn := {}
  home : AxisIn := {}
  /-- position in q at which a limit latched -/
  latchP : Option Int := none
  latchN : Option Int := none
  /-- target of the last command in microsteps -/
  target : Int := 0
  /-- target velocity of its loop in q per stroke, while a loop that is not OFF names it (R455) -/
  speed : Option Int := none
  deriving DecidableEq, Repr

/-- MOTION. -/
structure Motion where
  axes : List Axis := List.replicate 16 {}
  /-- MOT_STOP commands that wait for their axes to stand -/
  stops : List (Desc × Nat) := []
  deriving DecidableEq, Repr

/-- What a half-bridge pair does to its phase (R433). -/
inductive PhaseDrive where
  | forward | reverse | slow
  deriving DecidableEq, Repr

/-- The chopper cycle in ns (R441): period, longest on-phase, fast decay, TOFF, BLANK. -/
structure Chop where
  period : Nat
  onMax : Nat
  fast : Nat
  toff : Nat
  blank : Nat
  deriving DecidableEq, Repr

/-- Drive of the bridge pair of an axis: off; the chopper, with its current reference CUR (0 to 255 for 0 to 250 mV), of which phase A
follows |sin| and phase B |cos| of the angle, the sense of each phase's on-phase, and its cycle (R441); or the duty of voltage mode
(amplitude A, R442). `angle` in microsteps of an electrical cycle; `inv` inverts the phase sequence. -/
inductive Bridge where
  | off
  | chop (cur angle : Nat) (senseA senseB : PhaseDrive) (cycle : Chop)
  | volt (amp angle : Nat) (inv : Bool)
  deriving DecidableEq, Repr

/-- A source value as it stands at the edge (R454): binary32 bits, age in strokes, and whether the STALE condition holds. -/
structure LoopSrc where
  x : Nat := 0
  age : Nat := 0
  bad : Bool := false
  deriving DecidableEq, Repr

/-- What a LOOPS command asks of the next run (R462): a mode with the manual value it carries, a setpoint, or the twelve
parameters. -/
inductive LoopReq where
  | mode (m : Nat) (value : Option Nat)
  | setpoint (v : Nat)
  | tune (ps : List Nat)
  deriving DecidableEq, Repr

/-- A process loop (R452–R460); values are binary32 bits. -/
structure Loop where
  /-- mode asked for: 0 OFF, 1 MANUAL, 2 AUTO -/
  want : Nat := 0
  /-- mode in force: 0 OFF, 1 MANUAL, 2 AUTO, 3 TRACK -/
  mode : Nat := 0
  manual : Nat := 0
  sp : Nat := 0
  pv : Nat := 0
  e : Nat := 0
  p : Nat := 0
  i : Nat := 0
  d : Nat := 0
  xPrev : Nat := 0
  ff : Nat := 0
  v : Nat := 0
  u : Nat := 0
  satHi : Bool := false
  satLo : Bool := false
  stale : Bool := false
  ovr : Bool := false
  failsafe : Bool := false
  numeric : Bool := false
  held : Nat := 0
  /-- SN of the last run, and of the stroke whose job has ended -/
  lastSn : Nat := 0
  doneSn : Nat := 0
  /-- LOOP_STALE has been recorded in this excursion -/
  staleNoted : Bool := false
  /-- sources as they stood at the edge -/
  srcPv : LoopSrc := {}
  srcFf : LoopSrc := {}
  /-- commands waiting for the next run -/
  reqs : List (Desc × LoopReq) := []
  /-- integer last sent to a mesh destination and its SN (R456) -/
  sent : Option (Int × Nat) := none
  deriving DecidableEq, Repr

/-- A trace buffer (R461). -/
structure Trace where
  running : Bool := false
  single : Bool := false
  trigger : Nat := 0
  node : Nat := 0
  pre : Nat := 0
  level : Nat := 0
  /-- samples, oldest first: SN and four nodes -/
  samples : List (Nat × List Nat) := []
  /-- runs until the next sample -/
  skip : Nat := 0
  /-- the trigger node in the run before -/
  last : Option Nat := none
  /-- the trigger has fired: SN -/
  fired : Option Nat := none
  /-- samples from the trigger on -/
  after : Nat := 0
  triggered : Bool := false
  deriving DecidableEq, Repr

/-- LOOPS. -/
structure Loops where
  loops : List Loop := List.replicate 32 {}
  traces : List Trace := List.replicate 8 {}
  /-- duty of each PWM output as applied, in 1/65,536; 0 is low (R453) -/
  pwm : List Nat := List.replicate 16 0
  /-- SN of the last AI_OVERRANGE record of each input -/
  overNoted : List (Option Nat) := List.replicate 16 none
  /-- values for mesh actuators, stamped in the next batch: node, value index, value (R456) -/
  sends : List (Nat × Nat × Nat) := []
  deriving DecidableEq, Repr

end Sys2Proof.Machine
end

