-- ==== Sys2Proof/Types/System.lean ====
section
/-! DEFINITION. Plain data of SYSTEM (R481–R497): the boot flash, the running bundle, and the outputs that leave the
device. -/

namespace Sys2Proof.Machine

/-- A part of the bundle that booted: TYPE and SHA-256 (R485, R397). -/
structure LoadedPart where
  type : Nat
  hash : List Byte
  deriving DecidableEq, Repr

/-- SYSTEM state outside its registers. -/
structure Sys where
  /-- boot flash, cells over the erased value 0xFF -/
  flash : Tab Byte := []
  /-- the running bundle (R487): its ROLLBACK, FW_VERSION and parts -/
  rollback : Nat := 0
  fwVersion : Nat := 0
  loaded : List LoadedPart := []
  /-- kind of the last reset (R492) -/
  kind : Nat := 1
  /-- RESET_OUT_N (R492): low from the start of a reset until 10 ms after RESET is left -/
  resetOutLow : Bool := true
  /-- 250 µs periods since RESET was left, while RESET_OUT_N is low -/
  resetOutFor : Nat := 0
  /-- the configuration part of the running bundle (R486) -/
  config : List (Nat × Nat) := []
  deriving DecidableEq, Repr

/-- What leaves the device. -/
inductive Out where
  /-- bytes written at a host address (R66) -/
  | hostBytes (addr : Nat) (bytes : List Byte)
  /-- a completion entry: ring, entry index, host address, 32 bytes (R61, R71) -/
  | completion (cq index addr : Nat) (bytes : List Byte)
  /-- a status-page index word (R59) -/
  | statusWord (offset value : Nat)
  /-- the 16-byte SN and health write of the status page (R59) -/
  | statusBlock (sn health : Nat)
  /-- an MSI-X message (R77) -/
  | msix (vector : Nat)
  /-- a frame on air on an RF port and transmit channel from the launch instant (R129): its PHY header word, bytes and waveform -/
  | air (port ch sn ns : Nat) (owner : TxOwner) (hdr : Nat) (bytes : List Byte) (form : AirForm)
  /-- steps of the control lines of an RF port (R129); `now`: at once, with no instant -/
  | rf (port : Nat) (now : Bool) (steps : List RfStep)
  /-- the envelope of a pre-empted frame on an RF port and channel: instants in 1/64 ns and ramp levels (R152, R153) -/
  | airDown (port ch : Nat) (steps : List (Nat × Nat))
  /-- bits that leave on a serial bus, most significant first: the front-end bus with its SEL (R104), or a transceiver's bus (R131) -/
  | spi (rf : Bool) (sel count bits : Nat)
  /-- a fleet frame on air on a fleet channel in stroke `sn` (R163) -/
  | fleet (chan sn : Nat) (frame : FleetFrame)
  /-- a frame on an Ethernet port, FCS excluded; `good` false: sent with its FCS inverted (R324) -/
  | eth (port : Nat) (bytes : List Byte) (good : Bool)
  /-- a PAUSE (`classes` 0xFF) or PFC frame on a port with quanta (R316) -/
  | pause (port classes quanta : Nat)
  /-- a legacy Imm-Ack on a mesh channel: DSN and frame pending bit (R274) -/
  | immAck (chan dsn : Nat) (pending : Bool)
  /-- a pulse on PPS_OUT of a width in ms, from a time base: 0 TB0, 1 TB1, 2 TB3; `freq`: an edge of FREQ_OUT rises with it (R98) -/
  | pps (src width : Nat) (freq : Bool)
  /-- a frame on the mate link (R360) -/
  | mate (hdr : MateHdr) (body : MateBody)
  /-- the PWM outputs from their next period on: frequency in Hz, duties in 1/65,536 (R453) -/
  | pwm (freq : Nat) (duties : List Nat)
  /-- what the bridges of the axes are given from a sub-tick on: axis and drive; AXn_EN is high for these axes alone (R433, R434) -/
  | axes (l : List (Nat × Bridge))
  /-- the legal indication (R427) -/
  | display (x : Screen)
  /-- a lease token: preamble, start byte, 32 bytes (R366) -/
  | token (bytes : List Byte)
  deriving DecidableEq, Repr

end Sys2Proof.Machine
end

