-- ==== Sys2Proof/Types/Time.lean ====
section
/-! DEFINITION. Plain data of the time bases (R81–R100). -/

namespace Sys2Proof.Machine

/-- A master as its last Announce shows it (R90; IEEE 1588, log entry 106): the ingress port, the sender's port identity, the data the
best master algorithm compares, what a boundary clock passes on, and the tick at which it came. -/
structure PtpMaster where
  port : Nat
  sender : List Byte
  priority1 : Nat
  cls : Nat
  accuracy : Nat
  variance : Nat
  priority2 : Nat
  gm : Nat
  steps : Nat
  utcOffset : Nat
  flags : Nat
  timeSource : Nat
  heardAt : Nat := 0
  deriving DecidableEq, Repr

/-- A Sync measurement (R91): the master's timestamp as its message carries it, 48 bits of seconds and nanoseconds (R82), the
corrections in 2^−16 ns, and TB1 at its reception in ns. -/
structure SyncMeas where
  port : Nat
  sec : Nat
  ns : Nat
  corr : Int
  rx : Nat
  deriving DecidableEq, Repr

/-- One port of the PTP instance. -/
structure PtpPort where
  /-- sequence number of the next message -/
  seq : Nat := 0
  /-- when the next Announce, Sync and Pdelay_Req are due, in ns of the instance's count -/
  annAt : Nat := 0
  syncAt : Nat := 0
  peerAt : Nat := 0
  /-- a two-step Sync that waits for its Follow_Up: sequence number, reception, correction -/
  sync : Option (Nat × Nat × Int) := none
  /-- the last Sync's reception less its master's time -/
  fromMaster : Int := 0
  /-- the Delay_Req sent last: its sequence number and when it left -/
  req : Option (Nat × Nat) := none
  /-- the Pdelay_Req sent last, and a two-step answer to it: reception there, reception here, correction -/
  peerReq : Option (Nat × Nat) := none
  peerResp : Option (Nat × Nat × Int) := none
  /-- path delay in ns -/
  delay : Int := 0
  deriving DecidableEq, Repr

/-- The PTP instance of TB1 (R90). -/
structure Ptp where
  /-- periods of 250 µs since it began -/
  ticks : Nat := 0
  masters : List PtpMaster := []
  ports : Tab PtpPort := []
  /-- Sync measurements that wait for the servo -/
  meas : List SyncMeas := []
  deriving DecidableEq, Repr

/-- TIME state outside its registers. -/
structure Timing where
  /-- TB0 phase correction still to be slewed, in quarter ns (R84): SLEW µs/s is SLEW quarter ns per stroke -/
  slewQ : Int := 0
  /-- free-running count of 250 µs periods before the first stroke edge (R56) -/
  periods : Nat := 0
  /-- SN at which the holdover in force began (R86) -/
  holdSn : Option Nat := none
  /-- source that was lost -/
  lostSrc : Nat := 0
  /-- last measured error of each source (R87) -/
  errs : List (Nat × Int) := []
  /-- sources waiting beyond the re-anchor limit -/
  far : List Nat := []
  /-- frequency correction in TB0's phase accumulator, in 2^−32 ns per REF cycle (R85) -/
  freqAcc : Int := 0
  /-- Sync measurements beyond the step threshold that agree (R91) -/
  syncs : List Int := []
  /-- TB1 correction still to be slewed, in ns: 125 ns per stroke (R91) -/
  tb1Slew : Int := 0
  /-- the slew is of a backward step that NO_BACK_STEP forbids: it runs to its end (R91) -/
  backSlew : Bool := false
  /-- TB3 in ns at an instant of the device's clock (R100) -/
  tb3 : Int := 0
  tb3At : Nat := 0
  /-- values written to TIM_TB3_SEC and TIM_TB3_NS for the next LOAD -/
  tb3Sec : Nat := 0
  tb3Ns : Nat := 0
  /-- a second label has been written and is not yet used; one has ever been written (R84) -/
  labelFresh : Bool := false
  labelled : Bool := false
  /-- TB0 time in ns of the last PPS_IN edge -/
  ppsLast : Option Nat := none
  /-- the same edge in TB1 (R98) -/
  ppsTb1 : Option Int := none
  /-- a PAIR_PHASE excursion is in progress (R89) -/
  pairFar : Bool := false
  /-- FLOOR_WAIT and EPOCH_BAD have been recorded (R29) -/
  floorSaid : Bool := false
  epochSaid : Bool := false
  /-- SLEW_START has been recorded for the slew in progress -/
  slewing : Bool := false
  ptp : Ptp := {}
  deriving DecidableEq, Repr

end Sys2Proof.Machine
end

