-- ==== Sys2Proof/Machine/State.lean ====
section
/-! DEFINITION. The state of the block as plain data (INVENTORY.md, State), its stops, and the state after reset. -/

namespace Sys2Proof.Machine

open Sys2Proof

/-- Faults. No command of the table ends in one: the spec gives every row an effect. -/
inductive Fault where
  /-- Never raised; the type is closed and kept for the host's interface. Safe. -/
  | never
  deriving DecidableEq, Repr

/-- Refusals. -/
inductive Refusal where
  /-- Raised by `exec` for a row that has no meaning yet. Safe: nothing is claimed of it. -/
  | notModelled (mnemonic : String)
  deriving DecidableEq, Repr

/-- The state of the block. -/
structure State where
  /-- the commands waiting, first in, first out -/
  pending : List Instr
  part : Part
  fuses : Fuses
  pins : Pins
  straps : Straps
  /-- device state (R6) -/
  dev : DevState
  /-- pair role (R60) -/
  role : Role
  /-- the first stroke edge since reset has been issued (R29, R56) -/
  stroked : Bool
  /-- Stroke Number of the current stroke (R28); 0 before the first edge -/
  sn : Nat
  /-- BAR0 registers, cells over their reset values -/
  regs : Tab Word
  sys : Sys
  log : Recorder
  disp : Disp
  rings : Rings
  rad : Radio
  flt : Fleet
  stp : Stop
  key : Keys
  tim : Timing
  gns : Gnss
  bsl : Baseline
  alt : Allot
  net : Net
  msh : Mesh
  pai : Pair
  wel : Well
  wlg : Wellgate
  mot : Motion
  lop : Loops
  mem : Memories
  /-- reply of the last BAR0 request -/
  reply : Reply
  /-- what has left the device, newest first -/
  out : List Out
  /-- count of free values drawn (the model's own field) -/
  free : Nat
  deriving DecidableEq, Repr

/-- The row of the register table that holds BAR0 address `a`, with its first index. -/
def findRow (a : Nat) : List RegRow → Option (RegRow × Nat)
  | [] => none
  | r :: rest =>
    if r.base ≤ a ∧ (a - r.base) / r.s1 < r.n1 ∧ (a - r.base) % r.s1 / r.s2 < r.n2 ∧ (a - r.base) % r.s1 % r.s2 = 0 then
      some (r, (a - r.base) / r.s1)
    else findRow a rest

/-- Reset value of the register at BAR0 address `a`; 0 where no register is. -/
def regReset (a : Nat) : Word :=
  match findRow a (regRows (a / 0x10000)) with
  | some (r, i) => BitVec.ofNat 32 (r.reset + r.inc * i)
  | none => 0

/-- The machine right after reset: a CX7740 with its supplies up and RESET_N low, in RESET after a cold reset (R489,
R492). -/
def State.reset : State where
  pending := []
  part := .cx7740
  fuses := {}
  pins := {}
  straps := {}
  dev := .reset
  role := .unpaired
  stroked := false
  sn := 0
  regs := []
  sys := {}
  log := {}
  disp := {}
  rings := {}
  rad := {}
  flt := {}
  stp := {}
  key := {}
  tim := {}
  gns := {}
  bsl := {}
  alt := {}
  net := {}
  msh := {}
  pai := {}
  wel := {}
  wlg := {}
  mot := {}
  lop := {}
  mem := {}
  reply := .none
  out := []
  free := 0

end Sys2Proof.Machine
end

