-- ==== Sys2Proof/Machine/Ops.lean ====
section
/-! DEFINITION. The named operations every block uses: registers and their fields (R9), the event recorder (R465–R470),
device states (R489, R491), host writes and completions (R70–R72). -/

namespace Sys2Proof.Machine

open Sys2Proof

/-! ### Block states -/

def State.setDisp (s : State) (x : Disp) : State := { s with disp := x }
def State.setRings (s : State) (x : Rings) : State := { s with rings := x }
def State.setLog (s : State) (x : Recorder) : State := { s with log := x }
def State.setSys (s : State) (x : Sys) : State := { s with sys := x }
def State.setRad (s : State) (x : Radio) : State := { s with rad := x }
def State.setFlt (s : State) (x : Fleet) : State := { s with flt := x }
def State.setStp (s : State) (x : Stop) : State := { s with stp := x }
def State.setKey (s : State) (x : Keys) : State := { s with key := x }
def State.setTim (s : State) (x : Timing) : State := { s with tim := x }
def State.setGns (s : State) (x : Gnss) : State := { s with gns := x }
def State.setBsl (s : State) (x : Baseline) : State := { s with bsl := x }
def State.setAlt (s : State) (x : Allot) : State := { s with alt := x }
def State.setNet (s : State) (x : Net) : State := { s with net := x }
def State.setMsh (s : State) (x : Mesh) : State := { s with msh := x }
def State.setPai (s : State) (x : Pair) : State := { s with pai := x }
def State.setWel (s : State) (x : Well) : State := { s with wel := x }
def State.setWlg (s : State) (x : Wellgate) : State := { s with wlg := x }
def State.setMot (s : State) (x : Motion) : State := { s with mot := x }
def State.setLop (s : State) (x : Loops) : State := { s with lop := x }
def State.setMem (s : State) (x : Memories) : State := { s with mem := x }
--SETTERS

/-! ### Registers -/

/-- The count of 250 µs that deadlines and intervals are kept in: SN, or the free-running count before the first stroke edge
(R56). -/
def State.now (s : State) : Nat := if s.stroked then s.sn else s.tim.periods

/-- Contents of the register at BAR0 address `a`. -/
def State.rd (s : State) (a : Nat) : Word := cget regReset s.regs a

/-- The state with that register set. -/
def State.wr (s : State) (a : Nat) (v : Word) : State := { s with regs := cput regReset s.regs a v }

/-- Value of a register field. -/
def State.get (s : State) (f : Fld) : Nat := bitsOf (s.rd f.addr) f.lo f.width

/-- The state with a register field set to `v` modulo its width. -/
def State.put (s : State) (f : Fld) (v : Nat) : State := s.wr f.addr (withBits (s.rd f.addr) f.lo f.width v)

/-- A one-bit field as a Bool. -/
def State.flag (s : State) (f : Fld) : Bool := s.get f == 1

/-- The whole register as a number. -/
def State.num (s : State) (a : Nat) : Nat := (s.rd a).toNat

/-- The whole register set from a number, modulo 2^32. -/
def State.setNum (s : State) (a : Nat) (v : Nat) : State := s.wr a (BitVec.ofNat 32 v)

/-- A counting register advanced by `n`; it wraps at 2^32 (log entry 8). -/
def State.count (s : State) (a : Nat) (n : Nat) : State := s.setNum a (s.num a + n)

/-- A register pair _LO, _HI read as one 64-bit number. -/
def State.num64 (s : State) (lo hi : Nat) : Nat := s.num lo + 2 ^ 32 * s.num hi

/-- A register pair _LO, _HI written from one 64-bit number. -/
def State.setNum64 (s : State) (lo hi : Nat) (v : Nat) : State := (s.setNum lo (lo32 v)).setNum hi (hi32 v)

/-- A greatest-value register raised to `v` when that is more. -/
def State.peak (s : State) (a : Nat) (v : Nat) : State := if s.num a < v then s.setNum a v else s

/-! ### Free values -/

/-- Advance the free-value count. -/
def State.drawn (s : State) : State := { s with free := s.free + 1 }

/-! ### What leaves the device -/

/-- Add an output. -/
def State.emit (s : State) (o : Out) : State := { s with out := o :: s.out }

/-- A frame sent on the mate link (R360). -/
def State.sendMate (s : State) (frag sn : Nat) (body : MateBody) : State :=
  if s.flag PAI_CFG_ENABLE then s.emit (.mate ⟨b2n s.straps.pairId, frag, s.num PAI_EPOCH, sn, some s.key.log.gen⟩ body) else s

/-- Bytes handed out by the replicated job in progress (R365). -/
def State.handOut (s : State) (bs : List Byte) : State := s.setDisp { s.disp with handed := s.disp.handed ++ bs }

/-- An input of a replicated block, to be carried by the log from the next stamp point (R358). -/
def State.logInput (s : State) (e : LogEntry) : State :=
  if s.role = Role.primary then s.setPai { s.pai with inputs := s.pai.inputs ++ [e] } else s

/-- A transmit result reaches its MAC, and is an input of the replicated blocks (R151, R153, R280): the Mesh MAC takes it at its next
timeslot. -/
def State.reportTx (s : State) (o : TxOwner) (r : TxResult) : State :=
  (match o with
    | .mesh _ id => s.setMsh { s.msh with results := s.msh.results ++ [(id, r, s.sn)] }
    | _ => s.setRad { s.rad with reports := s.rad.reports ++ [(o, r)] }).logInput (.tx o r)

/-! ### Event recorder -/

/-- Slots of the store (R468). -/
def recCapacity : Nat := 131072

/-- Append a record that takes the next SEQ. -/
def Recorder.write (r : Recorder) (code source flags sn ns p0 p1 p2 : Nat) : Recorder :=
  { r with store := r.store ++ [⟨code, source, flags, r.nextSeq, sn, ns, p0, p1, p2⟩], nextSeq := r.nextSeq + 1 }

/-- Write the records the recorder owes: FROZEN_END when a freeze has ended (R470), then LOG_RESUMED when slots have been
freed of a full log (R468). Nothing is written while frozen or full. -/
def Recorder.flush (r : Recorder) (flags sn ns : Nat) : Recorder :=
  let r :=
    if r.frozen || decide (recCapacity ≤ r.store.length) then r
    else match r.owedEnd with
      | some (n, first, strokes) =>
        { (r.write EV_FROZEN_END 0 flags sn ns (lo32 n) (lo32 (first.getD r.nextSeq)) (lo32 strokes)) with owedEnd := none }
      | none => r
  if r.frozen || decide (recCapacity ≤ r.store.length) then r
  else match r.fullSince with
    | some (n, first) =>
      { (r.write EV_LOG_RESUMED 0 flags sn ns (lo32 n) (lo32 (first.getD r.nextSeq)) 0) with fullSince := none }
    | none => r

/-- A record is presented (R467, R468, R470): it takes a SEQ, and is written, or counted as lost to a freeze or to a full
log. -/
def Recorder.present (r : Recorder) (code source flags sn ns p0 p1 p2 : Nat) : Recorder :=
  let r := r.flush flags sn ns
  if r.frozen then
    { r with nextSeq := r.nextSeq + 1, frozenLost := r.frozenLost + 1, frozenCount := r.frozenCount + 1,
             frozenFirst := some (r.frozenFirst.getD r.nextSeq) }
  else if recCapacity ≤ r.store.length then
    { r with nextSeq := r.nextSeq + 1, lost := r.lost + 1,
             fullSince := match r.fullSince with
               | some (n, first) => some (n + 1, some (first.getD r.nextSeq))
               | none => some (1, some r.nextSeq) }
  else
    let r := r.write code source flags sn ns p0 p1 p2
    if r.store.length = recCapacity then { r with fullSince := some (0, none) } else r

/-- FLAGS of a record presented now (R465, R466). -/
def State.recFlags (s : State) : Nat :=
  b2n (!s.stroked) + 2 * s.get STK_STATUS_HOLDOVER + 4 * b2n (s.dev == DevState.halt)

/-- A block presents an event record (R465). NS is a free value below 250,020 (log entry 4). -/
def State.record (s : State) (code source p0 p1 p2 : Nat) : State :=
  { s with
    log := s.log.present code source s.recFlags s.sn (Config.recNs s.free % 250020) (lo32 p0) (lo32 p1) (lo32 p2)
    free := s.free + 1 }

/-! ### Device states -/

/-- Code of a device state in the health word (R60). -/
def DevState.code : DevState → Nat
  | .reset => 0 | .boot => 1 | .setup => 2 | .anchoring => 3 | .priming => 4 | .operate => 5 | .quiet => 6
  | .dormant => 7 | .halt => 8

/-- Code of a pair role (R60). -/
def Role.code : Role → Nat
  | .unpaired => 0 | .primary => 1 | .standby => 2 | .notStanding => 3

/-- What R240 asks of both stop outputs before either may be high: OPERATE or QUIET, no wave, no ROBOT stop standing with
ROBOT_OUT = 1, no output fault latched. -/
def State.outAllowed (s : State) : Bool :=
  (s.dev == .operate || s.dev == .quiet) && s.get STP_STATUS_WAVE == 0 &&
  (s.get STP_CFG_ROBOT_OUT == 0 || s.stp.robots.isEmpty) && s.get STP_STATUS_OUT_FAULT == 0

/-- STOP_ACT (R241): high while a wave is in force or an output fault is latched. -/
def State.stopAct (s : State) : Bool := s.flag STP_STATUS_WAVE || s.flag STP_STATUS_OUT_FAULT

/-- STOP_OUT_A and STOP_OUT_B driven by R240, an output under test low, and STOP_ACT (R241). -/
def State.applyOut (s : State) : State :=
  let s' := (s.put STP_STATUS_OUT_A_RUN (b2n (s.outAllowed && s.stp.testing != some 0))).put STP_STATUS_OUT_B_RUN
    (b2n (s.outAllowed && s.stp.testing != some 1))
  s'.setStp { s'.stp with act := s.stopAct }

/-- Transmissions of this owner may stand on air in a device state (R154): in OPERATE all, in PRIMING the ALL stop frames (R252). -/
def DevState.lets (d : DevState) (o : TxOwner) : Bool := d == .operate || (d == .priming && o.isStop)

/-- RAD_STATUS and RAD_PORT_STAT show the ports with a transmission on air, and a pre-emption in progress (R157; log entry 98). -/
def State.showTx (s : State) : State :=
  let on (p : Nat) : Bool := s.rad.tx.any fun t => t.onAir && t.port == p
  let s' := (List.range 8).foldl (fun s' p => s'.put (RAD_PORT_STAT_TX_ACTIVE p) (b2n (on p))) s
  (s'.put RAD_STATUS_TX ((List.range 8).foldl (fun n p => n + b2n (on p) * 2 ^ p) 0)).put RAD_STATUS_PREEMPT
    (b2n (s.rad.tx.any fun t => t.down.isSome))

/-- Pin levels of PAEN, RXEN and TRSW of a port, by its polarities (R129, R157). -/
def State.paLevel (s : State) (p : Nat) (on : Bool) : Nat := b2n (on != s.flag (RAD_PORT_CFG_PAEN_POL p))
def State.trLevel (s : State) (p : Nat) (tx : Bool) : Nat := b2n (tx != s.flag (RAD_PORT_CFG_TRSW_POL p))

/-- A port transmits no more, at once: PAEN inactive, RAMP 0, TRSW to receive, RXEN active (R127, R154; log entry 110). -/
def State.restLines (s : State) (p : Nat) : State :=
  s.emit (.rf p true [⟨0, .paen, s.paLevel p false⟩, ⟨0, .ramp, 0⟩, ⟨0, .trsw, s.trLevel p false⟩, ⟨0, .rxen, s.paLevel p true⟩])

/-- Transmissions that end at once, on air or scheduled, are reported to their MACs (log entry 110); a port left without one on air
rests. -/
def State.cutTx (s : State) (p : Tx → Bool) : State :=
  let hit := s.rad.tx.filter p
  if hit.isEmpty then s
  else
    let s := (s.setRad { s.rad with tx := s.rad.tx.filter fun t => !p t }).showTx
    let s := hit.foldl (fun s t => s.reportTx t.owner (if t.onAir then .preempted else .refused)) s
    let idle (q : Nat) : Bool := (hit.any fun t => t.onAir && t.port == q) && !(s.rad.tx.any fun t => t.onAir && t.port == q)
    ((List.range 8).filter idle).foldl State.restLines s

/-- The device state changes, the stop outputs and the transmitters follow it (R240, R154), and the change is recorded (R489). -/
def State.setDev (s : State) (d : DevState) : State :=
  (({ s with dev := d } : State).applyOut.cutTx fun t => !d.lets t.owner).record EV_STATE_CHANGE 0 s.dev.code d.code
    (if d = DevState.halt then s.get SYS_STATUS_HALT_CAUSE else 0)

/-- The PWM outputs go out as they change: all of one frequency, each from the start of its next period (R453). -/
def State.drivePwm (s : State) (was : List Nat) : State :=
  if s.lop.pwm = was then s else s.emit (.pwm (clampN 250 100000 (s.get LOP_PWM_FREQ_HZ)) s.lop.pwm)

/-- The PWM outputs are low (R453). -/
def State.pwmLow (s : State) : State := (s.setLop { s.lop with pwm := List.replicate 16 0 }).drivePwm s.lop.pwm

/-- FATAL_HALT: a fatal cause puts the device in HALT (R491), with the PWM outputs low (R453). The first cause stays. -/
def State.fatalHalt (s : State) (cause : Nat) : State :=
  if s.dev = DevState.halt then s else (s.put SYS_STATUS_HALT_CAUSE cause).pwmLow.setDev .halt

/-- SETUP is over and the RWL registers are locked (R55, R490). -/
def State.engaged (s : State) : Bool := s.flag SYS_STATUS_ENGAGED

/-! ### Descriptor fields -/

/-- Little-endian operand of `n` bytes at descriptor byte `o` (32 to 63). -/
def Desc.op (d : Desc) (o n : Nat) : Nat := leAt d.ops (o - 32) n

/-- Operand bytes from `o` to `o + n − 1` are zero. -/
def Desc.zero (d : Desc) (o n : Nat) : Bool := d.op o n == 0

/-- The descriptor in the 64 bytes at an index of a ring, every field little-endian (R61, R7), with the bytes at BUF_ADDR that its
command reads. -/
def Desc.ofBytes (ring index : Nat) (b buf : List Byte) : Desc :=
  { ring := ring, index := index, opcode := leAt b 0 2, flags := leAt b 2 2, tag := leAt b 4 4, notBefore := leAt b 8 8
    bufAddr := leAt b 16 8, bufLen := leAt b 24 4, od := leAt b 28 2, rsv := leAt b 30 2, ops := slice b 32 32, buf := buf }

/-- FLAGS of R61. -/
def Desc.chain (d : Desc) : Bool := bit d.flags 0
def Desc.forward (d : Desc) : Bool := bit d.flags 1
def Desc.quiet (d : Desc) : Bool := bit d.flags 2
def Desc.fence (d : Desc) : Bool := bit d.flags 3

/-- Ring class of the ring a descriptor came from (R61). Rings 64 + n are the mate's ring n as its log carries it (R364), rings
128 + n a descriptor the mate forwarded from its ring n (R378), INDEX being the forwarding's number, rings 192 + n a descriptor of
ring n from before a host-link reset (R51). -/
def Desc.ringClass (d : Desc) : Nat := d.ring % 64 / 4

/-- The descriptor comes from the mate's log. -/
def Desc.shadow (d : Desc) : Bool := decide (64 ≤ d.ring) && decide (d.ring < 128)

/-- The descriptor was forwarded by the mate. -/
def Desc.forwarded (d : Desc) : Bool := decide (128 ≤ d.ring) && decide (d.ring < 192)

/-- The descriptor's job was stamped before a host-link reset: its completion is discarded (R51). Rings 192 + n. -/
def Desc.orphan (d : Desc) : Bool := decide (192 ≤ d.ring)

/-! ### Status codes (R73) -/

abbrev stOK : Nat := 0x00
abbrev stREFUSED : Nat := 0x01
abbrev stBAD_DESC : Nat := 0x02
abbrev stNO_RESOURCE : Nat := 0x03
abbrev stNOT_AUTHORITY : Nat := 0x04
abbrev stSTALE : Nat := 0x05
abbrev stMEM_UNCORR : Nat := 0x06
abbrev stTIMEOUT : Nat := 0x07
abbrev stTAMPERED : Nat := 0x08
abbrev stABSENT : Nat := 0x09
abbrev stCONFLICT : Nat := 0x0A
abbrev stSEALED : Nat := 0x0B
abbrev stFROZEN : Nat := 0x0C
abbrev stLOCKED : Nat := 0x0D
abbrev stABORTED : Nat := 0x0E
abbrev stOVERRUN : Nat := 0x0F

/-! ### Completions -/

/-- The 32-byte completion entry of R61 for entry index `w` of a ring of `size` entries: PHASE is 1 while (index / size) is
even (R71). -/
def DueCpl.entry (c : DueCpl) (w size : Nat) : List Byte :=
  leBytes 2 c.opcode ++ leBytes 1 c.status ++ leBytes 1 (if w / size % 2 = 0 then 1 else 0) ++ leBytes 4 c.tag ++
  leBytes 8 c.doneSn ++ leBytes 4 c.resultLen ++
  leBytes 4 (if c.bytes.isEmpty then 0 else if c.stomped then 0xFFFFFFFF - crc32c c.bytes else crc32c c.bytes) ++ leBytes 8 c.result

/-- Completion ring that submission ring `n` names (RNG_SQ_CFG_n.CQ). -/
def State.cqOf (s : State) (n : Nat) : Nat := s.get (RNG_SQ_CFG_CQ n)

/-- Release one reserved entry of a completion ring. -/
def State.unreserve (s : State) (cq : Nat) : State :=
  { s with rings := { s.rings with cq := lmod s.rings.cq cq fun q => { q with reserved := q.reserved - 1 } } }

/-- Queue a completion. None is formed for a descriptor of the mate's rings (R363, R369). -/
def State.addDue (s : State) (c : DueCpl) : State := if 64 ≤ c.cq ∧ c.cq < 128 then s else { s with rings := { s.rings with due := s.rings.due ++ [c] } }

/-- A descriptor ends: its completion is queued to fall due under R72; with QUIET an OK ends without an entry (R70). The
result bytes leave with it. DONE_SN is the current SN, 0 before the first edge (R56). -/
def State.complete (s : State) (d : Desc) (status result : Nat) (bytes : List Byte) (resultLen : Nat)
    (due : DueWhen) : State :=
  if d.shadow then s
  else if d.orphan then s.count RNG_LOST_CPL 1
  else if s.rings.lost.contains d then (s.setRings { s.rings with lost := s.rings.lost.erase d }).count RNG_LOST_CPL 1
  else if d.forwarded then s.addDue ⟨d.ring, d.opcode, status, d.index, s.sn, resultLen, result % 2 ^ 64, 0, bytes, due, false, false⟩
  else if d.quiet && status == stOK then
    if bytes.isEmpty then s.unreserve (s.cqOf d.ring)
    else s.addDue ⟨s.cqOf d.ring, d.opcode, status, d.tag, s.sn, resultLen, result % 2 ^ 64, d.bufAddr, bytes, due, false, true⟩
  else
    s.addDue ⟨s.cqOf d.ring, d.opcode, status, d.tag, s.sn, resultLen, result % 2 ^ 64, d.bufAddr, bytes, due, false, false⟩

/-- The state that a meaning answers. -/
def after (o : Host.Outcome State Fault Refusal) (s : State) : State := match o with | .next s => s | _ => s

end Sys2Proof.Machine
end

