-- ==== Sys2Proof/Machine/Jobs.lean ====
section
/-! DEFINITION. The dispatcher's operations (R31–R45): stamping, ordering domains and chains, job pick, commit order, the end
of a job, job slots and timers. -/

namespace Sys2Proof.Machine

open Sys2Proof

/-- The job with an id. -/
def State.job? (s : State) (id : Nat) : Option Job := s.disp.jobs.find? fun j => j.id == id

/-- The dispatcher's job list replaced. -/
def State.setJobs (s : State) (js : List Job) : State := { s with disp := { s.disp with jobs := js } }

/-- A job changed in place. -/
def State.modJob (s : State) (id : Nat) (f : Job → Job) : State :=
  s.setJobs (s.disp.jobs.map fun j => if j.id = id then f j else j)

/-- Ordering by (stamp SN, batch, seq) (R36). -/
def Job.olderThan (a b : Job) : Bool :=
  decide (a.sn < b.sn) || (a.sn == b.sn && (decide (a.batch < b.batch) || (a.batch == b.batch && decide (a.seq < b.seq))))

/-- Order of two jobs of an ordering domain by their first stamps (R38; log entry 101). -/
def Job.bornBefore (a b : Job) : Bool :=
  decide (a.born.1 < b.born.1) || (a.born.1 == b.born.1 && (decide (a.born.2.1 < b.born.2.1) ||
    (a.born.2.1 == b.born.2.1 && decide (a.born.2.2 < b.born.2.2))))

/-- Commit key order (batch, priority, seq) of two jobs of one SN (R39). -/
def Job.keyBelow (a b : Job) : Bool :=
  decide (a.batch < b.batch) || (a.batch == b.batch &&
    (decide (a.prio < b.prio) || (a.prio == b.prio && decide (a.seq < b.seq))))

/-- The job has left a delay list and waits for the batch that stamps it again (R32). -/
def Job.released (j : Job) : Bool := j.phase == .presented && j.sn != 0

/-- The job is stamped and has not ended. -/
def Job.stamped (j : Job) : Bool := (j.phase != .fenced && j.phase != .presented) || j.released

/-- TAG of a ring job, 0 for an internal one. -/
def Job.tag (j : Job) : Nat := match j.desc with | some d => d.tag | none => 0

/-- NOT_BEFORE of a ring job. -/
def Job.notBefore (j : Job) : Nat := match j.desc with | some d => d.notBefore | none => 0

/-- Ring and index of a ring job. -/
def Job.isRing (j : Job) (ring index : Nat) : Bool := j.src == .ring ring index

/-- The job is block-periodic: its slot is reserved (R43). -/
def Job.isPeriodic (j : Job) : Bool := match j.src with | .periodic _ _ => true | _ => false

/-- A POST_BUFFER: it stands here only while its fence is shut, and takes no slot (R76). -/
def Job.postsBuffer (j : Job) : Bool := match j.desc with | some d => d.opcode % 0x1000 == 0xFFF | none => false

/-- The job holds a slot open to ring and intake jobs: stamped, or fenced (R43, R68). -/
def Job.holdsSlot (j : Job) : Bool := !j.isPeriodic && (j.stamped || j.phase == .fenced) && !j.postsBuffer

/-- STK_SLOTS_FREE: 65,536 slots less 2,048 of the block-periodic jobs, less those held (R43). -/
def State.slotsFree (s : State) : Nat := 63488 - (s.disp.jobs.filter Job.holdsSlot).length

/-- Ring descriptors on a delay list. -/
def State.ringTimers (s : State) : Nat :=
  (s.disp.jobs.filter fun j => j.phase == .delayed && j.desc.isSome).length

/-- STK_TIMERS_USED (R44). -/
def State.timersUsed (s : State) : Nat := s.ringTimers + s.disp.internalTimers

/-- Add a job under a fresh id. -/
def State.addJob (s : State) (j : Job) : State :=
  { s with disp := { s.disp with jobs := s.disp.jobs ++ [{ j with id := s.disp.nextId }], nextId := s.disp.nextId + 1 } }

/-- Some unfinished job of the domain is older than `j` (R38). -/
def State.domainBusy (s : State) (j : Job) : Bool :=
  j.domain != 0 && s.disp.jobs.any fun k => k.id != j.id && k.domain == j.domain && k.stamped && k.bornBefore j

/-- Phase of a stamped job whose chain allows it to run: in its ready list unless its domain is busy. -/
def State.readyPhase (s : State) (j : Job) : JobPhase := if s.domainBusy j then .domained else .ready

/-- The previous chain member of `j` has not ended. -/
def State.chainBusy (s : State) (j : Job) : Bool :=
  match j.prev with | some p => s.disp.jobs.any fun k => k.id == p | none => false

/-- The unit is paired and without authority: it shadows its mate, whose jobs it runs one stroke later (R363, R364). -/
def State.shadows (s : State) : Bool := !(s.role == .unpaired || s.role == .primary)

/-- A job of the mate's as this unit runs it after it: a descriptor of its log, or any other job of a replicated block. -/
def Job.follows (j : Job) : Bool := match j.desc with | some d => d.shadow | none => j.repl

/-- The stroke a job belongs to when it is stamped: a unit that shadows its mate runs the mate's jobs one stroke later (R364). -/
def State.jobSn (s : State) (j : Job) : Nat := if j.follows && s.shadows then s.sn - 1 else s.sn

/-- The job is not yet ready. -/
def Job.notReady (j : Job) : Bool :=
  match j.phase with | .fenced | .presented | .delayed | .chained | .domained | .nextBatch => true | _ => false

/-- A job that still waits for its first stamp and asks for a slot. -/
def Job.asksSlot (j : Job) : Bool := j.phase == .presented && j.sn == 0 && !j.isPeriodic

/-- Stamp one presented or released job with SN, batch and the next seq (R31, R32, R37). A NOT_BEFORE beyond the current SN
puts it on a delay list; its deadline counts from the SN in which it becomes ready (R525). A job that leaves a delay list takes a
new SN, batch and seq, for its ready list, its commit key and its close point; its domain keeps it by the first (DESIGN CHOICE, log
entry 101). -/
def State.stamp (s : State) (b : Nat) (j : Job) : State :=
  let sn := s.jobSn j
  let born := if j.stamped then j.born else (sn, b, s.disp.nextSeq)
  let late := j.follows && s.shadows
  let j := { j with sn := sn, batch := b, seq := s.disp.nextSeq, born := born, late := late }
  let s := { s with disp := { s.disp with nextSeq := s.disp.nextSeq + 1, stamped := s.disp.stamped + 1 } }
  let readySn := if !s.stroked then s.tim.periods else if sn < j.notBefore then j.notBefore else sn
  let j := { j with deadline := readySn + j.lead.getD 0 }
  let ph : JobPhase :=
    if s.chainBusy j then .chained
    else if sn < j.notBefore then .delayed
    else s.readyPhase j
  s.modJob j.id fun _ => { j with phase := ph }

/-- Order in which the jobs of one batch take their seq (R37): timer releases, those of the mate's log first, block-periodic, ring,
intake; what a block delivered to another last. Delay-list order is the order in which the jobs were first stamped (DESIGN CHOICE, log
entry 102). Descriptors of a ring enter the dispatcher in ring order, so their ids follow the ring index across its wrap. -/
def Job.stampRank (j : Job) : Nat × Nat × Nat :=
  match j.src with
  | .periodic c i => (1, c, i)
  | .ring r _ => if j.sn != 0 then (0, b2n (r < 64), 0) else (2, r, j.id)
  | .intake p a => (3, p, a)
  | .element t r _ _ => (4, t, r)

/-- Lexicographic order of ranks. -/
def rankLe (a b : Nat × Nat × Nat) : Bool :=
  decide (a.1 < b.1) || (a.1 == b.1 && (decide (a.2.1 < b.2.1) || (a.2.1 == b.2.1 && decide (a.2.2 ≤ b.2.2))))

/-- Insertion into a list sorted by rank, after equals. -/
def insertRank (j : Job) : List Job → List Job
  | [] => [j]
  | k :: r => if rankLe k.stampRank j.stampRank then k :: insertRank j r else j :: k :: r

/-- Insertion by the first stamp. -/
def insertBorn (j : Job) : List Job → List Job
  | [] => [j]
  | k :: r => if j.bornBefore k then j :: k :: r else k :: insertBorn j r

/-- Jobs in stamping order. -/
def sortRank (js : List Job) : List Job :=
  (js.foldl (fun acc j => insertBorn j acc) []).foldl (fun acc j => insertRank j acc) []

/-- A fenced job may be stamped: no earlier descriptor of its ring is unfinished (R68). Descriptors enter in ring order, so the
earlier ones have the lower ids; a forwarded one keeps its job until the primary's result is in. -/
def State.fenceOpen (s : State) (j : Job) : Bool :=
  match j.src with
  | .ring r _ =>
    !(s.disp.jobs.any fun k => match k.src with
        | .ring r' _ => r' == r && decide (k.id < j.id)
        | _ => false)
  | _ => true

/-- Back-pressure holds the intake of the job's fabric port (R45). -/
def State.intakeHeld (s : State) (j : Job) : Bool :=
  match j.src with | .intake p _ => s.disp.held.contains (64 + p) | _ => false

/-- The job waits in a chain for a member on a delay list, whose NOT_BEFORE governs the chain (R67). -/
def State.chainDelay (s : State) (j : Job) : Nat → Option Job
  | 0 => none
  | n + 1 =>
    match j.prev with
    | none => none
    | some p => match s.disp.jobs.find? fun k => k.id == p with
      | some k => if k.phase == .delayed || k.released then some k else s.chainDelay k n
      | none => none

/-- A chain member behind a head whose stroke has come is stamped with it. -/
def State.chainDue (s : State) (j : Job) : Bool :=
  j.phase == .chained && match s.chainDelay j 16 with | some k => k.released || decide (k.notBefore ≤ s.jobSn k) | none => false

/-- A stroke-bound job of a replicated block that the committed prefix of its class counts (R40). A fix that the unit solved itself is
taken up by both units on their own, and counts with neither (DESIGN CHOICE, log entry 103). -/
def Job.logged (j : Job) : Bool := j.repl && j.lead.isNone && match j.src with | .element t _ _ _ => t != 0x06 | _ => true

/-- Jobs of a class and SN that have committed, of those the prefix counts. -/
def State.committed (s : State) (cls sn : Nat) : Nat :=
  (s.disp.outs.filter fun o => o.counted && o.cls == cls && o.sn == sn).length

/-- A job of the mate's log that lies beyond the committed prefix its primary logged (R40). -/
def State.beyond (s : State) (j : Job) : Bool :=
  j.late && j.logged && match s.pai.prefixes.find? fun x => x.1 == j.sn with
    | some x => decide (x.2.getD j.cls 0 ≤ s.committed j.cls j.sn)
    | none => false

/-- The fenced member that the job waits behind in its chain: it is stamped with it. -/
def State.chainFence (s : State) (j : Job) : Nat → Option Job
  | 0 => none
  | n + 1 =>
    match j.prev with
    | none => none
    | some p => match s.disp.jobs.find? fun k => k.id == p with
      | some k => if k.phase == .fenced then some k else s.chainFence k n
      | none => none

/-- Stroke-bound work of a stroke whose close point has passed: it is in overrun and commits no more (R39, R41). Of the mate's log,
what lies beyond the committed prefix (R40), or was abandoned (R42). -/
def State.pastClose (s : State) (j : Job) : Bool :=
  j.lead.isNone && (j.void || (s.stroked && j.stamped && !j.released && j.phase != .waiting && j.phase != .delayed &&
    (s.chainDelay j 16).isNone &&
    if j.late then s.beyond j else decide (j.sn < s.sn) || (s.disp.closed && j.sn == s.sn)))

/-- Deadline work that has become ready and whose deadline has closed: at the close point of its deadline SN (R42), or when its
period of the free-running count is reached (R56). -/
def State.pastDeadline (s : State) (j : Job) : Bool :=
  j.lead.isSome && (j.void || (j.stamped && !j.released && j.phase != .delayed && (s.chainDelay j 16).isNone && !j.late &&
    (decide (j.deadline < s.now) || (j.deadline == s.now && (s.disp.closed || !s.stroked)))))

/-- The jobs that stamp point `b` stamps: all presented, the fenced whose fence has opened, and in batch 0 the timers that
are due (R31, R32, R68). Ring and intake jobs of replicated classes may be held for a stroke (R359, R373), intake jobs by
back-pressure (R45); timer releases never are. -/
def State.toStamp (s : State) (b : Nat) : List Job :=
  sortRank (s.disp.jobs.filter fun j =>
    (j.phase == .presented && (j.sn != 0 || !((s.disp.holdRepl && j.repl) || s.intakeHeld j)) &&
      match s.chainFence j 16 with | some k => s.fenceOpen k | none => true) ||
    (j.phase == .fenced && s.fenceOpen j && !(s.disp.holdRepl && j.repl)) ||
    (b == 0 && j.phase == .delayed && decide (j.notBefore ≤ s.jobSn j)) || (b == 0 && s.chainDue j))

/-- Executors of a class (R33). -/
def executors : Nat → Nat
  | 0 => 8
  | 1 => 16
  | _ => 1

/-- The first of the jobs by an order. -/
def firstBy (lt : Job → Job → Bool) : List Job → Option Job
  | [] => none
  | j :: r => match firstBy lt r with
    | some k => if lt k j then some k else some j
    | none => some j

/-- The selection order of R38: the lowest-numbered non-empty ready list, its first job; else the earliest deadline. -/
def State.pick (s : State) (cls : Nat) : Option Job :=
  let rdy := s.disp.jobs.filter fun j => j.cls == cls && j.phase == .ready
  match firstBy (fun a b => decide (a.prio < b.prio) || (a.prio == b.prio && a.olderThan b))
      (rdy.filter fun j => j.lead.isNone) with
  | some j => some j
  | none => firstBy (fun a b => decide (a.deadline < b.deadline) || (a.deadline == b.deadline && a.olderThan b))
      (rdy.filter fun j => j.lead.isSome)

/-- Give free executors of a class their next jobs (R34). -/
def State.startJobs (s : State) (cls : Nat) : Nat → State
  | 0 => s
  | n + 1 =>
    if executors cls ≤ (s.disp.jobs.filter fun j => j.cls == cls && j.phase == .running).length then s
    else match s.pick cls with
      | some j => (s.modJob j.id fun j => { j with phase := .running }).startJobs cls n
      | none => s

/-- Every class takes what it can run. -/
def State.dispatchAll (s : State) : State := (List.range 8).foldl (fun s c => s.startJobs c (executors c)) s

/-- The oldest waiting job of an ordering domain enters its ready list in the next batch (R38). -/
def State.freeDomain (s : State) (domain : Nat) : State :=
  if domain = 0 then s
  else match firstBy Job.bornBefore (s.disp.jobs.filter fun j => j.domain == domain && j.stamped) with
    | some j => if j.phase == .domained then s.modJob j.id fun j => { j with phase := .nextBatch } else s
    | none => s

/-- Remove a job from the dispatcher; its slot and timer are free. -/
def State.dropJob (s : State) (id : Nat) : State := s.setJobs (s.disp.jobs.filter fun j => j.id != id)

/-- The job that stands for a descriptor leaves without ending it. -/
def State.dropDesc (s : State) (d : Desc) : State := s.setJobs (s.disp.jobs.filter fun j => !j.isRing d.ring d.index)

/-- Later members of the chain behind job `id` end ABORTED, cause 0x01, without effect (R67). -/
def State.abortChain (s : State) (id : Nat) : Nat → State
  | 0 => s
  | n + 1 =>
    match s.disp.jobs.find? fun j => j.prev == some id with
    | none => s
    | some j =>
      let s := s.dropJob j.id
      let s := match j.desc with
        | some d => s.complete d stABORTED 1 [] 0 .status
        | none => s
      (s.freeDomain j.domain).abortChain j.id n

/-- A job ends, by completion or by any error status: the next job of its domain enters its ready list in the next batch,
the next chain member becomes ready after an OK, and the chain is aborted otherwise (R38, R67). -/
def State.endJob (s : State) (j : Job) (ok : Bool) : State :=
  let s := (s.dropJob j.id).freeDomain j.domain
  if ok then
    match s.disp.jobs.find? fun k => k.prev == some j.id with
    | some k =>
      if k.phase == .chained then s.modJob k.id fun k => { k with phase := s.readyPhase k } else s
    | none => s
  else s.abortChain j.id 16

/-! ### Stamp points -/

/-- A malformed descriptor is counted and recorded (R65). -/
def State.noteBadDesc (s : State) (d : Desc) : State :=
  (s.count RNG_BAD_DESC 1).record EV_BAD_DESC_SEEN 0 d.ring d.index d.opcode

/-- NOT_BEFORE lies more than STK_DELAY_HORIZON beyond a stamp SN (R32). -/
def State.beyondHorizon (s : State) (sn nb : Nat) : Bool := decide (sn + s.num STK_DELAY_HORIZON < nb)

/-- What a stamp point does with one job that still stands: a POST_BUFFER whose fence has opened leaves the dispatcher, to be posted (R68, R76); a
descriptor whose NOT_BEFORE lies beyond the horizon ends BAD_DESC, and its chain with it (R32); one that finds no slot waits
(R45); any other is stamped. -/
def State.stampOne (s : State) (b : Nat) (j : Job) : State :=
  if (s.job? j.id).isNone then s
  else match j.desc with
  | some d =>
    if j.postsBuffer then s.dropJob j.id
    else if !j.stamped && s.beyondHorizon (s.jobSn j) d.notBefore then
      ((s.noteBadDesc d).complete d stBAD_DESC 0 [] 0 .status).endJob j false
    else if j.asksSlot && s.slotsFree == 0 then s
    else s.stamp b j
  | none => if j.asksSlot && s.slotsFree == 0 then s else s.stamp b j

/-- The jobs of a batch that take their seq in one place of R37. -/
def stampPart (p : Nat × Nat × Nat → Bool) (js : List Job) : List Job := js.filter fun j => p j.stampRank

/-- Stamp point `b` of the current SN for the jobs (R31): domains that came free enter their ready lists, then the batch is
stamped in R37's order: timer releases; the block-periodic jobs have their seq from the edge; ring descriptors, with a seq for each
STOP-class descriptor fetched since the last stamp point; intake jobs. -/
def State.stampBatch (s : State) (b : Nat) : State :=
  let s := s.setJobs (s.disp.jobs.map fun j => if j.phase == .nextBatch then { j with phase := .ready } else j)
  let js := s.toStamp b
  let s := (stampPart (fun r => r.1 == 0) js).foldl (fun s j => s.stampOne b j) s
  let s := s.setDisp { s.disp with nextSeq := max s.disp.nextSeq s.disp.edgeSeq }
  let s := (stampPart (fun r => r.1 == 1 || (r.1 == 2 && decide (r.2.1 < 36))) js).foldl (fun s j => s.stampOne b j) s
  let s := s.setDisp { s.disp with nextSeq := s.disp.nextSeq + s.disp.stops, stops := 0 }
  let s := (stampPart (fun r => decide (3 ≤ r.1) || (r.1 == 2 && decide (36 ≤ r.2.1))) js).foldl (fun s j => s.stampOne b j) s
  (s.setDisp { s.disp with batch := b }).dispatchAll

/-- What a replicated job gave out is kept for the digest of its stroke (R365). -/
def State.noteOut (s : State) (j : Job) : State :=
  let d := s.disp
  s.setDisp { d with handed := [], outs := if j.repl then d.outs ++ [⟨j.logged, j.sn, j.cls, j.batch, j.prio, j.seq, d.handed⟩] else d.outs }

/-- A job that the log's prefix counts and that commits in its stamp SN counts into the committed prefix of its class (R40). -/
def State.countPrefix (s : State) (j : Job) : State :=
  if j.logged && j.sn == s.sn && j.phase != .waiting then
    s.setDisp { s.disp with prefixLen := lmod s.disp.prefixLen j.cls (· + 1) }
  else s

/-- The job that stands for a descriptor. -/
def State.jobOf (s : State) (d : Desc) : Option Job :=
  match s.disp.jobs.find? fun j => j.desc == some d with
  | some j => some j
  | none => s.disp.jobs.find? fun j => j.isRing d.ring d.index && j.phase != .waiting

/-- The job of a descriptor, if it stands in the dispatcher, ends. -/
def State.endJobOf (s : State) (d : Desc) (ok : Bool) : State :=
  match s.jobOf d with
  | some j => (((s.countPrefix j).noteOut j).endJob j ok).startJobs j.cls (executors j.cls)
  | none => s

/-- The job of a descriptor has taken effect and its command ends later: it commits and leaves its executor. -/
def State.waitJobOf (s : State) (d : Desc) : State :=
  match s.jobOf d with
  | some j => (((s.countPrefix j).noteOut j).modJob j.id fun j => { j with phase := .waiting }).startJobs j.cls (executors j.cls)
  | none => s

/-- As a job of class 2, a frame at the fleet link's intake: what it carries for the allotment engine takes its key, at priority 1 or
more (log entry 103). -/
def Job.carried (k : Job) : Job :=
  match k.src with
  | .intake p _ => if 32 ≤ p ∧ p < 40 then { k with cls := 2, prio := 1 } else k
  | _ => k

/-- Some job of the class and SN with a lower commit key has neither committed nor ended (R39), or is still to come out of a received
frame. Stroke-bound jobs only: deadline work has no window to commit in (log entry 14). -/
def State.keyHeld (s : State) (j : Job) : Bool :=
  j.repl && j.lead.isNone && s.disp.jobs.any fun k =>
    k.id != j.id && (k.cls == j.cls || k.carried.cls == j.cls) && k.sn == j.sn && k.repl && k.lead.isNone && k.stamped &&
    k.phase != .delayed && k.phase != .waiting && (if k.cls == j.cls then k else k.carried).keyBelow j

/-- STK_CLASS_PEAK: the greatest ns from the edge to the last commit of a class. -/
def State.notePeak (s : State) (cls ns : Nat) : State := if s.stroked then s.peak (STK_CLASS_PEAK (cls % 8)) (ns % 2 ^ 18) else s

/-- A job that is no ring job commits: it counts into the committed prefix of its class (R40) and ends, and its executor takes the
next. When in the stroke it does is a free value. -/
def State.commitOne (s : State) (j : Job) : State :=
  let s := (s.drawn.notePeak j.cls (Config.recNs s.free % 250020)).countPrefix j
  ((s.noteOut j).endJob j true).startJobs j.cls (executors j.cls)

/-- A job that is no ring job may commit: it stands in a ready list or on an executor, has not overrun, and no lower commit key of its
class and SN is open (R39, R41). -/
def State.mayCommit (s : State) (j : Job) : Bool :=
  (j.phase == .ready || j.phase == .running) && !s.pastClose j && !s.keyHeld j

/-! ### Block-periodic jobs (R30, R37, R43) -/

/-- A block-periodic job of stroke `sn`, at priority 0 (R224): it stands ready from the edge, and its seq is after those of the timers
released there. -/
def periodicJob (sn seq cap inst cls : Nat) (repl late : Bool) : Job :=
  { id := 0, src := .periodic cap inst, cls := cls, prio := 0, repl := repl, sn := sn, batch := 0, seq := seq, born := (sn, 0, seq),
    late := late, phase := .ready }

/-- Executor class of a block's periodic work (R33). -/
def workCls (cap : Nat) : Nat := if cap = 0x0B then 3 else if cap = 0x0D then 2 else if cap = 0x0F then 4 else if cap = 0x0C then 0 else 6

/-- Block-periodic jobs of a stroke, in order, with seq from `q` on. -/
def State.presentWork (s : State) (sn : Nat) (repl late : Bool) (q : Nat) : List (Nat × Nat) → State
  | [] => s
  | w :: r => (s.addJob (periodicJob sn q w.1 w.2 (workCls w.1) repl late)).presentWork sn repl late (q + 1) r

/-- The block-periodic job of an instance of a capability that may commit now: the oldest. -/
def State.work (s : State) (cap inst : Nat) : Option Job :=
  s.disp.jobs.find? fun j => j.src == .periodic cap inst && s.mayCommit j

/-- Run the block-periodic job of an instance, in the stroke it belongs to, and commit it. Without one nothing happens. -/
def State.runWork (s : State) (cap inst : Nat) (body : State → State) : State :=
  match s.work cap inst with
  | none => s
  | some j => ({ body { s with sn := j.sn } with sn := s.sn } : State).commitOne j

end Sys2Proof.Machine
end

