-- ==== Sys2Proof/Machine/Commands.lean ====
section
/-! DEFINITION. What every ring command has in common: the command table with who may run it and when, the descriptor rules
(R54, R65, R56, R69), the common end of a command (R66, R70–R72), posted buffers (R76). -/

namespace Sys2Proof.Machine

open Sys2Proof

/-- How a command is run (the command table of its chapter). -/
structure CmdSpec where
  /-- executor class (R33) -/
  cls : Nat
  /-- the job's block is replicated: its completion waits for the release point (R72) -/
  repl : Bool
  /-- state-changing (R69) -/
  chg : Bool
  /-- accepted before the first stroke edge (R56) -/
  pre : Bool
  /-- bytes the command must read from BUF (R65) -/
  need : Nat := 0
  /-- deadline work: N of "stamp SN + N" -/
  lead : Option Nat := none
  deriving DecidableEq, Repr

/-- The block of a ring class is replicated (R72 and the class's chapter). -/
def replClass (c : Nat) : Bool := [4, 5, 6, 7, 8, 9].contains c

/-- The command table: opcode to how it is run. NOP and POST_BUFFER of a class follow R75. -/
def cmdSpec (op : Nat) : Option CmdSpec :=
  match op with
  | 0x0101 => some ⟨0, false, false, true, 0, some 40000⟩ -- SYS_FLASH
  | 0x0102 => some ⟨0, false, false, true, 0, none⟩ -- SYS_FUSE
  | 0x0001 => some ⟨0, false, false, true, 0, none⟩ -- ECHO
  | 0xD001 => some ⟨0, false, false, true, 0, some 400⟩ -- REC_READ
  | 0xD002 => some ⟨0, false, false, true, 0, none⟩ -- REC_RELEASE
  | 0xD003 => some ⟨0, false, false, true, 0, none⟩ -- REC_FREEZE
  | 0xD004 => some ⟨0, false, false, true, 0, none⟩ -- REC_THAW
  | 0x9001 => some ⟨0, false, false, true, 0, none⟩ -- STP_STOP
  | 0x9002 => some ⟨0, true, true, true, 0, none⟩ -- STP_CLEAR
  | 0x9003 => some ⟨0, true, false, true, 0, none⟩ -- STP_QUERY
  | 0x0210 => some ⟨3, true, true, true, 0, none⟩ -- FLT_ROBOT_ENROL
  | 0x0211 => some ⟨3, true, true, true, 4, none⟩ -- FLT_ROBOT_SLOTS
  | 0x0212 => some ⟨3, true, true, true, 0, none⟩ -- FLT_ROBOT_RETIRE
  | 0x0213 => some ⟨3, true, false, false, 0, none⟩ -- FLT_ROBOT_QUERY
  | 0x7001 => some ⟨0, true, true, true, 0, none⟩ -- BSL_ROVER_CFG
  | 0x7002 => some ⟨0, true, false, false, 0, none⟩ -- BSL_ROVER_QUERY
  | 0x7003 => some ⟨0, true, false, false, 0, none⟩ -- BSL_SET_READ
  | 0x7004 => some ⟨0, true, true, true, 16, none⟩ -- BSL_STATION_INFO
  | 0x8001 => some ⟨0, true, true, true, 0, some 8000⟩ -- ALT_ROADMAP_LOAD
  | 0x8002 => some ⟨2, true, true, false, 16, none⟩ -- ALT_CLAIM
  | 0x8003 => some ⟨2, true, true, false, 0, none⟩ -- ALT_RELEASE
  | 0x8004 => some ⟨2, true, true, true, 0, none⟩ -- ALT_RESOURCE_STATE
  | 0x8005 => some ⟨2, true, false, false, 0, none⟩ -- ALT_ROBOT_QUERY
  | 0x8006 => some ⟨2, true, false, false, 0, none⟩ -- ALT_RESOURCE_QUERY
  | 0x1001 => some ⟨0, false, false, true, 0, none⟩ -- FWD_MAC_ADD
  | 0x1002 => some ⟨0, false, false, true, 0, none⟩ -- FWD_MAC_DEL
  | 0x1003 => some ⟨0, false, false, true, 0, none⟩ -- FWD_MAC_FLUSH
  | 0x1004 => some ⟨0, false, false, true, 0, none⟩ -- FWD_MAC_READ
  | 0x1005 => some ⟨0, false, false, true, 0, none⟩ -- FWD_VLAN_SET
  | 0x1006 => some ⟨0, false, false, true, 0, none⟩ -- FWD_ROUTE_ADD
  | 0x1007 => some ⟨0, false, false, true, 0, none⟩ -- FWD_ROUTE_DEL
  | 0x1008 => some ⟨0, false, false, true, 32, none⟩ -- FWD_GATE_LOAD
  | 0x1009 => some ⟨0, false, false, true, 0, none⟩ -- FWD_PARITY_READ
  | 0x2001 => some ⟨7, false, false, false, 14, none⟩ -- FRAME_SEND
  | 0x4001 => some ⟨4, true, true, true, 0, none⟩ -- MSH_CLUSTER_SET
  | 0x4002 => some ⟨4, true, true, true, 16, none⟩ -- MSH_NODE_ADD
  | 0x4003 => some ⟨4, true, true, false, 0, none⟩ -- MSH_NODE_REMOVE
  | 0x4004 => some ⟨4, true, false, false, 0, none⟩ -- MSH_NODE_READ
  | 0x4005 => some ⟨4, true, false, false, 0, none⟩ -- MSH_NBR_READ
  | 0x4006 => some ⟨4, true, true, false, 0, none⟩ -- MSH_REKEY
  | 0x4007 => some ⟨4, true, true, false, 0, none⟩ -- MSH_REPAIR
  | 0x5001 => some ⟨4, true, true, false, 0, none⟩ -- MSH_ACTUATE
  | 0x6001 => some ⟨0, true, true, true, 0, some 4000⟩ -- UPD_IMAGE_LOAD
  | 0x6002 => some ⟨0, true, true, false, 0, none⟩ -- UPD_IMAGE_DROP
  | 0x6003 => some ⟨0, true, true, false, 32, none⟩ -- UPD_CAMPAIGN_START
  | 0x6004 => some ⟨0, true, true, false, 0, none⟩ -- UPD_CAMPAIGN_STOP
  | 0x6005 => some ⟨0, true, false, false, 0, none⟩ -- UPD_QUERY
  | 0xF001 => some ⟨0, false, false, true, 0, none⟩ -- PAI_QUERY
  | 0xF002 => some ⟨0, false, false, true, 0, none⟩ -- PAI_HANDOVER
  | 0xF003 => some ⟨0, false, false, true, 0, none⟩ -- PAI_DETACH
  | 0xF004 => some ⟨0, false, false, true, 0, none⟩ -- PAI_PRIME
  | 0xF005 => some ⟨0, false, false, true, 0, none⟩ -- PAI_ASSUME
  | 0xC001 => some ⟨0, false, false, false, 0, none⟩ -- WLG_REQUEST
  | 0xE001 => some ⟨5, false, false, true, 0, none⟩ -- KEY_PUB_READ
  | 0xE002 => some ⟨5, false, false, true, 112, none⟩ -- KEY_SITE_IMPORT
  | 0xE003 => some ⟨5, true, true, false, 0, none⟩ -- KEY_ROLL
  | 0xE004 => some ⟨5, true, true, false, 0, none⟩ -- KEY_INVALIDATE
  | 0xE005 => some ⟨5, true, true, false, 0, none⟩ -- KEY_SITE_RETIRE
  | 0xE006 => some ⟨5, false, false, false, 72, none⟩ -- KEY_EXPORT
  | 0xE007 => some ⟨5, false, false, false, 8, some 400⟩ -- KEY_ATTEST
  | 0xE008 => some ⟨5, false, false, false, 0, none⟩ -- KEY_QUERY
  | 0xE009 => some ⟨5, false, false, true, 0, none⟩ -- KEY_TAMP_CLEAR
  | 0xA001 => some ⟨6, false, false, false, 16, none⟩ -- MOT_SEG_LOAD
  | 0xA002 => some ⟨6, false, false, false, 0, none⟩ -- MOT_PROFILE
  | 0xA003 => some ⟨6, false, false, false, 0, none⟩ -- MOT_MOVE
  | 0xA004 => some ⟨6, false, false, false, 0, none⟩ -- MOT_RETUNE
  | 0xA005 => some ⟨6, false, false, false, 0, none⟩ -- MOT_HOME
  | 0xA006 => some ⟨6, false, false, false, 0, none⟩ -- MOT_STOP
  | 0xA007 => some ⟨6, false, false, false, 0, none⟩ -- MOT_ENABLE
  | 0xA008 => some ⟨6, false, false, false, 0, none⟩ -- MOT_SET_POS
  | 0xA009 => some ⟨6, false, false, false, 0, none⟩ -- MOT_QUERY
  | 0xB001 => some ⟨6, false, false, false, 0, none⟩ -- LOP_MODE
  | 0xB002 => some ⟨6, false, false, false, 0, none⟩ -- LOP_SETPOINT
  | 0xB003 => some ⟨6, false, false, false, 48, none⟩ -- LOP_TUNE
  | 0xB004 => some ⟨6, false, false, false, 0, none⟩ -- LOP_QUERY
  | 0xB005 => some ⟨6, false, false, false, 0, none⟩ -- LOP_TRACE_ARM
  | 0xB006 => some ⟨6, false, false, false, 0, none⟩ -- LOP_TRACE_READ
  | _ =>
    if op % 0x1000 = 0 then some ⟨7, replClass (op / 0x1000), false, true, 0, none⟩
    else if op % 0x1000 = 0xFFF then some ⟨7, replClass (op / 0x1000), false, true, 0, none⟩
    else none

/-- A prefix length is at most 128 and no bit of the prefix stands beyond it (R352). -/
def prefixClean (len : Nat) (a : List Byte) : Bool :=
  decide (len ≤ 128) && (List.range 16).all fun i =>
    let b := (a.getD i 0).toNat
    decide (8 * i + 8 ≤ len) || (if len ≤ 8 * i then b == 0 else b % 2 ^ (8 - (len - 8 * i)) == 0)

/-- Bytes of a station record that hold its five string lengths (R208). -/
def stationLenAt : Nat → Nat
  | 0 => 0
  | i + 1 => i + 2

/-- A key handle of code 5 to 10 with its index in range (R385, R394). -/
def handleOk (h : Nat) : Bool :=
  let i := h / 256 % 2 ^ 20
  match h / 2 ^ 28 with
  | 5 => decide (i < 262144)
  | 6 => decide (i < 256)
  | 8 => decide (i < 256)
  | 7 => i == 0
  | 9 => i == 0
  | 10 => i == 0
  | _ => false

/-- A 64-bit operand that is a 48-bit signed microstep position (R436). -/
def posOk (v : Nat) : Bool := signed 64 v == signed 48 v

/-- The operand rules of an opcode that do not depend on the state: ranges and reserved bytes (R10, R65 and the command
table of each chapter). -/
def operandsOk (d : Desc) : Bool :=
  match d.opcode with
  | 0x0101 => decide (d.op 32 1 ≤ 2) && (d.op 32 1 != 2 || decide (d.op 40 4 ≤ d.bufLen))
  | 0x0102 => decide (d.op 32 1 ≤ 2) && (d.op 32 1 == 2 || decide (d.op 33 1 ≤ 2)) &&
      (d.op 32 1 != 0 || decide (32 ≤ d.bufLen))
  | 0x9001 => d.notBefore == 0 && !d.chain && !d.fence && decide (d.op 32 1 ≤ 1) && d.zero 34 30
  | 0x9002 => d.notBefore == 0 && !d.chain && !d.fence && decide (d.op 32 1 ≤ 1) && d.zero 34 30
  | 0x9003 => d.notBefore == 0 && !d.chain && !d.fence
  | 0x0210 => decide (d.op 34 1 ≤ 1) && decide (d.op 35 1 ≤ 15) && decide (d.op 36 1 ≤ 7) && decide (d.op 37 1 ≤ 1) &&
      d.zero 38 26
  | 0x0211 => decide (leAt d.buf 0 1 ≤ 4) && decide (4 + 8 * leAt d.buf 0 1 ≤ d.bufLen) && leAt d.buf 1 3 == 0 &&
      (List.range (leAt d.buf 0 1)).all fun i =>
        decide (4 ≤ leAt d.buf (4 + 8 * i) 1) && decide (leAt d.buf (4 + 8 * i) 1 ≤ 35) &&
        leAt d.buf (5 + 8 * i) 1 == 0 && decide (1 ≤ leAt d.buf (6 + 8 * i) 2) &&
        decide (leAt d.buf (6 + 8 * i) 2 ≤ 1000) && decide (leAt d.buf (8 + 8 * i) 2 < leAt d.buf (6 + 8 * i) 2) &&
        decide (leAt d.buf (10 + 8 * i) 1 ≤ 7) && leAt d.buf (11 + 8 * i) 1 == 0
  | 0x7001 => decide (d.op 33 1 ≤ 3) && d.zero 34 2 && d.zero 40 24
  | 0x7004 => (List.range 5).all (fun i => decide (leAt d.buf (stationLenAt i) 1 ≤ 31)) &&
      d.bufLen == 16 + ((List.range 5).map fun i => leAt d.buf (stationLenAt i) 1).foldl (· + ·) 0
  | 0x8002 => leAt d.buf 1 1 == 0 || decide (16 + 8 * leAt d.buf 1 1 ≤ d.bufLen)
  | 0x8003 => decide (d.op 33 1 ≤ 1)
  | 0x8004 => (d.op 32 1 == 1 || d.op 32 1 == 3) && decide (d.op 33 1 ≤ 1)
  | 0x8006 => decide (1 ≤ d.op 32 1) && decide (d.op 32 1 ≤ 3)
  | 0x1003 => decide (d.op 32 1 ≤ 3)
  | 0x1005 => decide (1 ≤ d.op 32 2) && decide (d.op 32 2 ≤ 4094)
  | 0x1006 => prefixClean (d.op 48 1) d.ops && decide (d.op 49 1 ≤ 4) && (d.op 49 1 != 2 || decide (d.op 50 1 < 24))
  | 0x1007 => prefixClean (d.op 48 1) d.ops
  | 0x1008 => decide (d.op 32 1 < 24) && decide (64 ≤ leAt d.buf 12 4) && decide (leAt d.buf 12 4 ≤ 1000000000) &&
      decide (1 ≤ leAt d.buf 28 2) && decide (leAt d.buf 28 2 ≤ 256) && decide (32 + 8 * leAt d.buf 28 2 ≤ d.bufLen) &&
      (List.range (leAt d.buf 28 2)).all fun i =>
        let v := leAt d.buf (36 + 8 * i) 4
        v % 8 == 0 && decide (64 ≤ v) && decide (v ≤ 1000000000)
  | 0x2001 => decide (d.bufLen ≤ 9216) && decide (d.op 32 1 ≤ 1) && decide (d.op 36 1 ≤ 7)
  | 0x4001 => decide (d.op 33 1 ≤ 1) && decide (d.op 34 1 ≤ 3) && d.zero 35 1 &&
      (d.op 33 1 == 0 || decide (1 ≤ d.op 38 1))
  | 0x4002 => d.bufLen % 16 == 0 && decide (1 ≤ d.bufLen / 16) && decide (d.bufLen / 16 ≤ 4096) &&
      (List.range (d.bufLen / 16)).all fun i =>
        let b := slice d.buf (16 * i) 16
        decide (leAt b 9 1 ≤ 3) && [1, 2, 4, 8].contains (leAt b 10 1) && decide (1 ≤ leAt b 11 1) &&
        (leAt b 12 4 == 0xFFFFFFFF || decide (leAt b 12 4 < 262144))
  | 0x4003 => decide (d.op 32 4 < 262144)
  | 0x4004 => decide (d.op 32 4 < 262144)
  | 0x4005 => decide (d.op 32 4 < 262144)
  | 0x4006 => decide (d.op 32 1 ≤ 1) && decide (d.op 33 1 + d.op 32 1 ≤ 1) && (d.op 33 1 == 0 || decide (1 ≤ d.op 34 1)) &&
      d.zero 35 1 && decide (d.op 36 4 < if d.op 32 1 = 0 then 262144 else 256)
  | 0x5001 => decide (d.op 32 4 < 262144) && decide (d.op 36 1 ≤ 7) && d.zero 37 3
  | 0x6003 => decide (1 ≤ d.op 35 1) && d.op 36 2 != 0 && decide (d.op 34 1 ≤ 1)
  | 0xC001 => decide (0x10 ≤ d.op 32 1) && decide (d.op 32 1 ≤ 0x42) && d.zero 34 2
  | 0xE001 => decide (d.op 32 1 ≤ 1)
  | 0xE002 => decide (d.op 32 1 ≤ 1) && d.bufLen == 112
  | 0xE003 => [7, 9, 10].contains (d.op 32 1)
  | 0xE004 => handleOk (d.op 32 4)
  | 0xE005 => decide (d.op 32 1 ≤ 1)
  | 0xE007 => decide (8 ≤ d.op 32 1) && decide (d.op 32 1 ≤ 32) && decide (d.op 32 1 ≤ d.bufLen)
  | 0xA001 => decide (d.op 32 1 ≤ 15) && d.bufLen % 16 == 0 && decide (d.op 33 1 + d.bufLen / 16 ≤ 256) &&
      (List.range (d.bufLen / 16)).all fun i =>
        let b := slice d.buf (16 * i) 16
        decide (1 ≤ leAt b 0 2) && decide (leAt b 2 1 ≤ 3) && leAt b 10 2 == 0
  | 0xA002 => decide (d.op 32 1 ≤ 15)
  | 0xA003 => decide (d.op 32 1 ≤ 15) && posOk (d.op 40 8)
  | 0xA004 => decide (d.op 32 1 ≤ 15)
  | 0xA005 => decide (d.op 32 1 ≤ 15) && posOk (d.op 48 8)
  | 0xA007 => decide (d.op 32 1 ≤ 15) && decide (d.op 33 1 ≤ 1)
  | 0xA008 => decide (d.op 32 1 ≤ 15) && posOk (d.op 40 8)
  | 0xA009 => decide (d.op 32 1 ≤ 15)
  | 0xB001 => decide (d.op 32 1 ≤ 31) && decide (d.op 33 1 ≤ 2)
  | 0xB002 => decide (d.op 32 1 ≤ 31)
  | 0xB003 => decide (d.op 32 1 ≤ 31)
  | 0xB004 => decide (d.op 32 1 ≤ 31)
  | 0xB005 => decide (d.op 32 1 ≤ 7) && decide (d.op 33 1 ≤ 1) && decide (d.op 34 1 ≤ 4) && decide (d.op 35 1 ≤ 9) &&
      decide (d.op 36 2 ≤ 4095)
  | 0xB006 => decide (d.op 32 1 ≤ 7)
  | _ => true


/-- Capability whose block serves a ring class; none for ADMIN. -/
def classCap : Nat → Option Nat
  | 1 => some 0x07 | 2 => some 0x07 | 3 => some 0x07 | 4 => some 0x0F | 5 => some 0x0F | 6 => some 0x0F
  | 7 => some 0x0C | 8 => some 0x0D | 9 => some 0x0E | 10 => some 0x13 | 11 => some 0x14 | 12 => some 0x12
  | 13 => some 0x15 | 14 => some 0x11 | 15 => some 0x10 | _ => none

/-- The block with a capability ID is absent from the part (R3) or fused off (R54). -/
def State.capAbsent (s : State) (cap : Nat) : Bool :=
  (s.part == .cx7720 && cap == 0x12) || s.fuses.fusedOff.contains cap

/-- Every submission on the ring class completes with ABSENT (R3, R54). -/
def State.classAbsent (s : State) (cls : Nat) : Bool :=
  match classCap cls with | some c => s.capAbsent c | none => false

/-- Classes for which POST_BUFFER is defined (R75): FRAME_IN, MESH_DATA, BASELINE, ALLOT, WELL, RECORDER. -/
def postClass (c : Nat) : Bool := [3, 5, 7, 8, 12, 13].contains c

/-- This unit holds authority: it is unpaired or PRIMARY (R60, R69). -/
def State.authority (s : State) : Bool := s.role == .unpaired || s.role == .primary

/-- The rings are served: not in RESET, BOOT, DORMANT or HALT (R56, R491, R494). -/
def State.serving (s : State) : Bool :=
  match s.dev with
  | .reset | .boot | .dormant | .halt => false
  | _ => true

/-- BAR0, the recorder and TB0 work: also in HALT (R471, R491). -/
def State.mainLive (s : State) : Bool := s.serving || s.dev == .halt

/-- The SN with which a descriptor fetched now is stamped (R31). -/
def State.stampSn (s : State) : Nat := if s.disp.batch = 7 then s.sn + 1 else s.sn

/-- The descriptor is malformed (R65), apart from the chain rules. One with FENCE is held against the horizon when it is stamped. -/
def State.badDesc (s : State) (d : Desc) : Bool :=
  d.opcode / 0x1000 != d.ringClass ||
  (cmdSpec d.opcode).isNone ||
  (d.opcode % 0x1000 == 0xFFF && (!postClass d.ringClass || d.notBefore != 0 || d.od != 0)) ||
  d.flags / 16 != 0 || d.od / 0x1000 != 0 || d.rsv != 0 ||
  decide (0x01000000 < d.bufLen) ||
  (d.bufLen != 0 && decide (2 ^ 64 < d.bufAddr + d.bufLen)) ||
  (match cmdSpec d.opcode with | some c => decide (d.bufLen < c.need) | none => false) ||
  !operandsOk d ||
  (!s.stroked && d.notBefore != 0) ||
  (!d.fence && s.beyondHorizon s.stampSn d.notBefore)

/-- Status of a descriptor that ends before it becomes a job (R72), if it does: ABSENT, BAD_DESC, LOCKED or
NOT_AUTHORITY. -/
def State.earlyEnd (s : State) (d : Desc) : Option Nat :=
  if s.classAbsent d.ringClass then some stABSENT
  else if s.badDesc d then some stBAD_DESC
  else match cmdSpec d.opcode with
    | none => some stBAD_DESC
    | some c =>
      if !s.stroked && !c.pre then some stLOCKED
      else if s.stroked && !s.authority && c.chg && !d.forward then some stNOT_AUTHORITY
      else none

/-- The descriptor goes to the primary (R69). -/
def State.mustForward (s : State) (d : Desc) : Bool :=
  s.stroked && !s.authority && d.forward &&
  match cmdSpec d.opcode with | some c => c.chg | none => false

/-- A descriptor ends before it becomes a job: its completion falls due at the next status point (R72). -/
def State.endEarly (s : State) (d : Desc) (status : Nat) : State :=
  let s := if status = stBAD_DESC then s.noteBadDesc d else s
  (s.complete d status 0 [] 0 .status).endJobOf d false

/-- Ship a descriptor to the primary: it waits for the result (R69), and a chain waits behind it. -/
def State.forwardDesc (s : State) (d : Desc) : State :=
  if s.rings.forwarded.any fun f => f.desc == d then s
  else
  let s := match s.jobOf d with
    | some j => s.modJob j.id fun j => { j with phase := .waiting, repl := false }
    | none => s.addJob { id := 0, src := .ring d.ring d.index, desc := some d, cls := 7, prio := 0, repl := false, phase := .waiting }
  let id := s.rings.nextFwd
  let s := s.setRings { s.rings with forwarded := s.rings.forwarded ++ [⟨d, s.sn, id⟩], nextFwd := id + 1 }
  (s.put PAI_FWD_PENDING_N s.rings.forwarded.length).sendMate 0 s.sn (.forward id d)

/-- What a command's meaning answers: the state with its effect, and how the descriptor ends; `status` none while it ends
later. -/
structure CmdRes where
  st : State
  status : Option Nat := some 0
  result : Nat := 0
  bytes : List Byte := []
  /-- RESULT_LEN when it is not the number of bytes written (R66) -/
  len : Option Nat := none
  /-- offset in BUF at which the bytes are written -/
  skip : Nat := 0

/-- The command ends OK with a RESULT. -/
def State.ok (s : State) (result : Nat := 0) : CmdRes := { st := s, result := result }

/-- The command ends with a status and a RESULT, writing nothing. -/
def State.fail (s : State) (status : Nat) (result : Nat := 0) : CmdRes := { st := s, status := some status, result := result }

/-- The command ends later. -/
def State.later (s : State) : CmdRes := { st := s, status := none }

/-- The command answers bytes of a length known before it acts: NO_RESOURCE with the length needed when BUF is too small
(R66). -/
def State.answer (s : State) (d : Desc) (bytes : List Byte) (result : Nat := 0) : CmdRes :=
  if d.bufLen < bytes.length then { st := s, status := some stNO_RESOURCE, len := some bytes.length }
  else { st := s, result := result, bytes := bytes }

/-- When a command's completion falls due (R56, R72). -/
def State.dueOf (s : State) (d : Desc) : DueWhen :=
  match cmdSpec d.opcode with
  | some c => if c.repl && s.stroked then .release s.sn else .status
  | none => .status

/-- The job of a descriptor is replicated. -/
def State.classRepl (_ : State) (d : Desc) : Bool := match cmdSpec d.opcode with | some c => c.repl | none => false

/-- The common end of a command. -/
def State.finish (s : State) (d : Desc) (r : CmdRes) : State :=
  match r.status with
  | none => r.st.waitJobOf d
  | some st =>
    let s := if s.classRepl d then r.st.handOut (leBytes 1 st ++ leBytes 8 r.result ++ r.bytes) else r.st
    (s.complete { d with bufAddr := d.bufAddr + r.skip } st r.result r.bytes (r.len.getD r.bytes.length) (s.dueOf d)).endJobOf d (st == stOK)

/-- The job of a descriptor has been computed while a lower commit key stands: it waits (R39). -/
def State.keyWaits (s : State) (d : Desc) : Bool :=
  match s.jobOf d with
  | some j => j.phase != .waiting && s.keyHeld j
  | none => false

/-- It is computed and will be run again when it may commit. -/
def State.computedOf (s : State) (d : Desc) : State :=
  match s.jobOf d with
  | some j => s.modJob j.id fun j => { j with phase := .computed }
  | none => s

/-- The job of a descriptor is in overrun, or its deadline is missed. -/
def State.isOver (s : State) (d : Desc) : Bool := match s.jobOf d with | some j => s.pastClose j || s.pastDeadline j | none => false

/-- The command's time has not come: its job is not yet ready, or, where none stands for it, its NOT_BEFORE lies ahead (R32). -/
def State.notYet (s : State) (d : Desc) : Bool :=
  match s.jobOf d with
  | some j => j.notReady
  | none => s.stroked && decide (s.sn < d.notBefore)

/-- Run a ring command: the descriptor rules, then the command's own effect, then its completion. Rings that are not served
run nothing. A descriptor of the mate's log or one the mate forwarded runs when it stands in the dispatcher (R364, R378). -/
def State.command (s : State) (d : Desc) (body : State → CmdRes) : State :=
  if !s.serving then s
  else if d.shadow || d.forwarded || d.orphan then
    if !(s.disp.jobs.any fun j => j.desc == some d) || s.isOver d || s.notYet d then s
    else if s.keyWaits d then s.computedOf d
    else
      -- a job of the mate's log runs in its own stroke
      let now := s.sn
      let s' := s.finish d (body { s with sn := match s.jobOf d with | some j => if d.shadow then j.sn else now | none => now })
      { s' with sn := now }
  else if s.isOver d || ((s.jobOf d).isSome && s.notYet d) then s
  else
    match s.earlyEnd d with
    | some st => s.endEarly d st
    | none =>
      if s.mustForward d then s.forwardDesc d
      else if s.notYet d then s
      else if s.keyWaits d then s.computedOf d
      else s.finish d (body s)

/-! ### Posted buffers (R76) -/

/-- A posted buffer (R76) or a STOP-class submission (R32): it becomes no job. -/
def Desc.slotless (d : Desc) : Bool := d.opcode % 0x1000 == 0xFFF || d.ringClass == 9

/-- A buffer is posted on its ring. -/
def State.postBuffer (s : State) (d : Desc) : State :=
  s.setRings { s.rings with posted := s.rings.posted ++ [⟨d.ring, d.tag, d.bufAddr, d.bufLen, d.quiet⟩] }

/-- Deliver an item to the oldest posted buffers of a ring: up to 4 buffers too small complete with NO_RESOURCE; the first
that holds the item completes with it. Answers whether a buffer was found. -/
def State.deliverFrom (s : State) (ring opcode result : Nat) (bytes : List Byte) (due : DueWhen) : Nat → State × Bool
  | 0 => (s, false)
  | n + 1 =>
    match s.rings.posted.find? fun p => p.ring == ring with
    | none => (s, false)
    | some p =>
      let s := { s with rings := { s.rings with posted := s.rings.posted.erase p } }
      let cq := if ring < 64 then s.cqOf ring else ring
      if p.len < bytes.length then
        (s.addDue ⟨cq, opcode, stNO_RESOURCE, p.tag, s.sn, bytes.length, 0, p.addr, [], due, false, false⟩).deliverFrom
          ring opcode result bytes due n
      else
        (s.addDue ⟨cq, opcode, stOK, p.tag, s.sn, bytes.length, result % 2 ^ 64, p.addr, bytes, due, false, p.quiet⟩, true)

/-- Deliver an unsolicited item: 4 attempts (R76). A unit without authority forms the item alone (R363): it takes the
buffer the log posted. -/
def State.deliver (s : State) (ring opcode result : Nat) (bytes : List Byte) (due : DueWhen) : State × Bool :=
  if replClass (ring / 4) then
    (s.handOut bytes).deliverFrom (if s.authority then ring else ring + 64) opcode result bytes due 4
  else s.deliverFrom ring opcode result bytes due 4

/-- Due time of an item of a replicated block (R72). -/
def State.replDue (s : State) : DueWhen := if s.stroked then .release s.sn else .status

end Sys2Proof.Machine
end

