-- ==== Sys2Proof/Machine/MemCheck.lean ====
section
/-! DEFINITION. The checkers of the memories (R17, R472, R473): what a read finds, and how it is counted and recorded (R475). -/

namespace Sys2Proof.Machine

open Sys2Proof

/-! ### The DRAM in-line code (R473)

A Reed–Solomon code over GF(2^8) with 8 check bytes. The spec gives neither its field polynomial `p`, nor the exponent `b` of its
first root, nor how the address enters: these are free values (log entry 117). -/

/-- Product in GF(2^8) under a field polynomial, `n` bits of the second factor. -/
def gfMulGo (p : Nat) : Nat → Nat → Nat → Nat
  | 0, _, _ => 0
  | n + 1, a, b =>
    let a2 := if 128 ≤ a then Nat.xor (2 * a) p else 2 * a
    Nat.xor (if b % 2 = 1 then a else 0) (gfMulGo p n a2 (b / 2))
def gfMul (p a b : Nat) : Nat := gfMulGo p 8 a b

/-- Power of a field element, and of the element 2; the inverse. -/
def gfPow (p a : Nat) : Nat → Nat
  | 0 => 1
  | n + 1 => gfMul p a (gfPow p a n)
def gfAlpha (p e : Nat) : Nat := gfPow p 2 (e % 255)
def gfInv (p a : Nat) : Nat := gfPow p a 254

/-- Syndromes of a word, whose first symbol has the highest power. -/
def rsSyndromes (p b : Nat) (word : List Nat) : List Nat :=
  (List.range 8).map fun j => word.foldl (fun acc c => Nat.xor (gfMul p acc (gfAlpha p (b + j))) c) 0

/-- What the key equation's solution holds after some syndromes: the locator, the one before it, its discrepancy, the distance
between them and the number of errors. -/
structure RsKey where
  loc : List Nat
  prev : List Nat
  disc : Nat
  gap : Nat
  errs : Nat
  deriving DecidableEq, Repr

/-- The locator less `k` times the locator before it, shifted by the distance. -/
def rsStep (p : Nat) (loc prev : List Nat) (k gap : Nat) : List Nat :=
  let sh := List.replicate gap 0 ++ prev.map fun c => gfMul p k c
  (List.range (max loc.length sh.length)).map fun i => Nat.xor (loc.getD i 0) (sh.getD i 0)

/-- The locator of the fewest errors that the syndromes allow (Berlekamp–Massey). -/
def rsLocator (p : Nat) (syn : List Nat) : RsKey :=
  (List.range 8).foldl (fun st n =>
    let d := (List.range (st.errs + 1)).foldl (fun a i => Nat.xor a (gfMul p (st.loc.getD i 0) (syn.getD (n - i) 0))) 0
    if d = 0 then { st with gap := st.gap + 1 }
    else
      let loc := rsStep p st.loc st.prev (gfMul p d (gfInv p st.disc)) st.gap
      if 2 * st.errs ≤ n then { loc := loc, prev := st.loc, disc := d, gap := 1, errs := n + 1 - st.errs }
      else { st with loc := loc, gap := st.gap + 1 }) ⟨[1], [1], 1, 1, 0⟩

/-- Symbols of a word of `n` that a locator names. -/
def rsPlaces (p n : Nat) (loc : List Nat) : List Nat :=
  (List.range n).filter fun i =>
    loc.reverse.foldl (fun acc c => Nat.xor (gfMul p acc (gfAlpha p (255 - (n - 1 - i) % 255))) c) 0 == 0

/-- Bytes in error of a word that opens with `addr` bytes of address: none where more than 4 are, or one of them is of the address
(R473: an address fault shows as uncorrectable). -/
def rsErrors (p b addr : Nat) (word : List Nat) : Option (List Nat) :=
  let syn := rsSyndromes p b word
  if syn.all (· == 0) then some []
  else
    let k := rsLocator p syn
    let at' := rsPlaces p word.length k.loc
    if 4 < k.errs || at'.length != k.errs || at'.any (fun i => decide (i < addr)) then none else some at'

/-- Bytes in error of line `line` of DRAM, read with its block (R473): seven data lines, whose check bytes stand in the eighth, which
ends with its own. -/
def lineErrors (line : Nat) (block : List Byte) : Option (List Nat) :=
  let addr := Config.rsAddr line
  let i := line % 8
  let body := if i = 7 then slice block 448 64 else slice block (64 * i) 64 ++ slice block (448 + 8 * i) 8
  (rsErrors Config.rsPoly Config.rsFirst addr.length ((addr ++ body).map BitVec.toNat)).map fun l =>
    l.map fun p => p - addr.length

/-- What a set of bytes in error is to the checker. -/
def errRes : Option (List Nat) → ScrubRes
  | some [] => .clean
  | some l => .corrected l.length
  | none => .uncorrectable

/-! ### What a read finds -/

/-- The memories that hold what is read: one parity bit for an entry of the forwarding tables, lines in DRAM, else bytes with five
check bits (R17). -/
def Stored.fits (x : Stored) (m : Nat) : Bool :=
  match x with
  | .entry _ => m == 3
  | .block b => (m == 17 || m == 18) && b.length == 512
  | .byte d chk => m != 3 && decide (m < 17) && decide (d < 256) && decide (chk < 32)

/-- What the checker finds in what is read at an address: each location with its result. The check line of a DRAM line is read and
checked as well, where check bytes are to be put right (R473). -/
def Stored.found (x : Stored) (addr : Nat) : List (Nat × ScrubRes) :=
  match x with
  | .entry ok => [(addr, if ok then .clean else .uncorrectable)]
  | .byte d chk => [(addr, match hammingDecode d chk with
      | .clean => .clean
      | .corrected _ s => .corrected s
      | .uncorrectable => .uncorrectable)]
  | .block b =>
    let e := lineErrors addr b
    let checks := addr % 8 != 7 && match e with | some l => l.any fun i => decide (64 ≤ i) | none => false
    (addr, errRes e) :: if checks then [(addr / 8 * 8 + 7, errRes (lineErrors (addr / 8 * 8 + 7) b))] else []

/-! ### Counting and recording (R475) -/

/-- A corrected error: counted, and recorded the first time in a pass. -/
def State.noteCorrected (s : State) (m addr info : Nat) : State :=
  let s := ((s.count (MEM_CORR m) 1).setNum (MEM_LAST_ADDR m) addr)
  let s := if m ≤ 1 then s.count CIS_CORR 1 else s
  if s.mem.noted.getD m false then s
  else (s.setMem { s.mem with noted := s.mem.noted.set m true }).record EV_MEM_CORRECTED 0 m addr info

/-- An uncorrectable error is counted and recorded; `who` 0 the scrubber, 1 a requester. -/
def State.noteUncorr (s : State) (m addr who : Nat) : State :=
  let s := (s.count (MEM_UNCORR m) 1).setNum (MEM_LAST_ADDR m) addr
  (s.put MEM_STATUS_UNCORR (setBit (s.get MEM_STATUS_UNCORR) m)).record EV_MEM_UNCORR 0 m addr who

/-- A read is checked: each correction is noted; answers the first location that is uncorrectable. -/
def State.checkRead (s : State) (m : Nat) (found : List (Nat × ScrubRes)) : State × Option Nat :=
  (found.foldl (fun s x => match x.2 with | .corrected n => s.noteCorrected m x.1 n | _ => s) s,
   (found.find? fun x => x.2 == .uncorrectable).map (·.1))

end Sys2Proof.Machine
end

