-- ==== Sys2Proof/Machine/Time.lean ====
section
/-! DEFINITION. The time bases (R81–R100): TB0 sources, holdover and return, TB1's servo, TB2, TB3, the time pins. A TB1 step's
effect on gates and launch times stands in Machine/Egress.lean. -/

namespace Sys2Proof.Machine

open Sys2Proof

/-- SITE_EPOCH (R28). -/
def State.siteEpoch (s : State) : Nat := s.num64 STK_SITE_EPOCH_LO STK_SITE_EPOCH_HI

/-- The device's clock in ns at `ns` of the current stroke: TB0 once strokes run (R28, R82), else the free-running count
(R56). -/
def State.clockNs (s : State) (ns : Nat) : Nat :=
  if s.stroked then s.siteEpoch * 1000000000 + s.sn * 250000 + ns else s.tim.periods * 250000 + ns

/-- ASN_BASE (R83). -/
def State.asnBase (s : State) : Nat := s.num64 TIM_ASN_BASE_LO TIM_ASN_BASE_HI

/-- TB2 is valid (R83). -/
def State.asnValid (s : State) : Bool := s.stroked && decide (s.asnBase ≤ s.sn)

/-- TB2, the ASN (R83). -/
def State.asn (s : State) : Nat := (s.sn - s.asnBase) / 40 % 2 ^ 40

/-- The last measured error of a source. -/
def State.errOf (s : State) (src : Nat) : Option Int := (s.tim.errs.find? fun x => x.1 == src).map Prod.snd

/-- TB0's error as last measured against a source (R87, R100). -/
def State.noteErr (s : State) (src : Nat) (e : Int) : State :=
  (s.setNum TIM_TB0_ERR_NS (sat32 e)).setTim { s.tim with errs := s.tim.errs.filter (fun x => x.1 != src) ++ [(src, e)] }

/-- A source no longer waits beyond the limit. -/
def State.dropFar (s : State) (src : Nat) : State :=
  let far := s.tim.far.filter fun x => x != src
  (s.setTim { s.tim with far := far }).put TIM_STATUS_TB0_FAR (b2n (!far.isEmpty))

/-- The stroke timer begins to follow a correction of TB0 (R27): SLEW_START is recorded as the slew begins. -/
def State.startSlew (s : State) (e : Int) : State :=
  if e = 0 || !s.stroked || s.tim.slewing then s
  else ((s.put STK_STATUS_SLEWING 1).setTim { s.tim with slewing := true }).record EV_SLEW_START 0 (sat32 e) 0 0

/-- A TB0 phase correction of `e` ns is slewed out (R84, R27). -/
def State.slewTb0 (s : State) (e : Int) : State := (s.setTim { s.tim with slewQ := 4 * e }).startSlew e

/-- The frequency estimate after a correction (R85), whose value the spec leaves open: OSC_TUNE takes it with EFC_EN, else TB0's phase
accumulator, and OSC_TUNE stays 0x8000. -/
def State.steerOsc (s : State) : State :=
  if s.flag TIM_TB0_CFG_EFC_EN then (s.put TIM_OSC_TUNE_V (Config.freeNat s.free)).drawn
  else ((s.put TIM_OSC_TUNE_V 0x8000).setTim { s.tim with freqAcc := signed 32 (Config.freeNat s.free) }).drawn

/-- TB0 enters holdover (R86). -/
def State.enterHoldover (s : State) : State :=
  let src := s.get TIM_STATUS_TB0_SRC
  let s := s.setTim { s.tim with holdSn := some s.now, lostSrc := src, far := [], slewQ := 0 }
  let s := (s.put TIM_STATUS_HOLDOVER 1).put STK_STATUS_HOLDOVER 1
  let s := ((s.put TIM_STATUS_TB0_SRC 0).put TIM_STATUS_TB0_FAR 0).put TIM_STATUS_HOLDOVER_EXPIRED 0
  (s.setNum TIM_HOLDOVER_S 0).record EV_TB0_HOLDOVER 0 src 0 0

/-- Holdover ends on a source, and its error is slewed out (R87). -/
def State.endHoldover (s : State) (src : Nat) (e : Int) : State :=
  let s := s.setTim { s.tim with holdSn := none, far := [] }
  let s := (s.put TIM_STATUS_HOLDOVER 0).put STK_STATUS_HOLDOVER 0
  let s := ((s.put TIM_STATUS_TB0_SRC src).put TIM_STATUS_TB0_FAR 0).put TIM_STATUS_HOLDOVER_EXPIRED 0
  ((s.record EV_TB0_SOURCE_OK 0 src (sat32 e) 0).slewTb0 e).steerOsc

/-- The unit stands by and its mate link is up: its source is its mate (R84). -/
def State.followsMate (s : State) : Bool := s.role == .standby && s.flag PAI_STATUS_MATE_LINK

/-- A source of TB0 is enabled (R84): 1 GNSS, 2 PPS_IN, 3 MATE. A unit that follows its mate uses the others for monitoring only. -/
def State.srcEnabled (s : State) (src : Nat) : Bool :=
  match src with
  | 1 => s.flag TIM_TB0_CFG_GNSS_EN && !s.followsMate
  | 2 => s.flag TIM_TB0_CFG_PPS_IN_EN && s.tim.labelled && !s.followsMate
  | 3 => s.role != Role.unpaired
  | _ => false

/-- Order of the sources (R84): MATE first on a unit that follows its mate, then GNSS, PPS_IN. -/
def State.srcRank (s : State) (src : Nat) : Nat :=
  match src with
  | 1 => 1
  | 2 => 2
  | 3 => if s.followsMate then 0 else 3
  | _ => 4

/-- A source returns during holdover with error `e` (R87): within the limit it is accepted; beyond, it waits, and TB0_RETURN_FAR is
recorded once for each return. One that disagrees with itself by more than the limit counts as lost. -/
def State.returnSrc (s : State) (src : Nat) (e : Int) (jumped : Bool) : State :=
  let s := s.noteErr src e
  if s.tim.far.contains src && jumped then s.dropFar src
  else if (absI e : Int) ≤ s.num TIM_REANCHOR_LIMIT_NS then s.endHoldover src e
  else if s.tim.far.contains src then s
  else ((s.setTim { s.tim with far := s.tim.far ++ [src] }).put TIM_STATUS_TB0_FAR 1).record EV_TB0_RETURN_FAR 0 src (sat32 e) 0

/-- A source offers time with error `e`, source less TB0, in ns (R84, R86, R87). A mate beyond the limit is the source of a unit that
stands by, but not accepted: TB0 is in holdover. -/
def State.tb0Offer (s : State) (src : Nat) (e : Int) : State :=
  if !s.srcEnabled src then s
  else if !s.flag TIM_STATUS_TB0_VALID then
    (((s.noteErr src 0).put TIM_STATUS_TB0_VALID 1).put TIM_STATUS_TB0_SRC src).record EV_TB0_SOURCE_OK 0 src 0 0
  else
    let limit : Int := s.num TIM_REANCHOR_LIMIT_NS
    let jumped := match s.errOf src with
      | some l => decide (limit < absI (e - l))
      | none => false
    if s.flag TIM_STATUS_HOLDOVER then s.returnSrc src e jumped
    else
      let cur := s.get TIM_STATUS_TB0_SRC
      if src = cur then
        if jumped then (s.noteErr src e).enterHoldover else ((s.noteErr src e).slewTb0 e).steerOsc
      else if s.srcRank src < s.srcRank cur then
        if (absI e : Int) ≤ limit then (((s.noteErr src e).put TIM_STATUS_TB0_SRC src).slewTb0 e).steerOsc
        else if s.followsMate then s.enterHoldover.returnSrc src e false
        else s
      else s

/-- TB0 follows the mate's from the anchoring on (R84, R374): no holdover stands, and no source waits. -/
def State.anchorToMate (s : State) : State :=
  let s := (s.setTim { s.tim with holdSn := none, far := [], slewQ := 0 }).put TIM_STATUS_TB0_VALID 1
  let s := (s.put TIM_STATUS_HOLDOVER 0).put STK_STATUS_HOLDOVER 0
  let s := (s.put TIM_STATUS_TB0_FAR 0).put TIM_STATUS_HOLDOVER_EXPIRED 0
  if s.get TIM_STATUS_TB0_SRC = 3 then s else (s.put TIM_STATUS_TB0_SRC 3).record EV_TB0_SOURCE_OK 0 3 0 0

/-- TB0_HOLDOVER (R86): the source of TB0 is lost. -/
def execTb0Holdover (s : State) : Host.Outcome State Fault Refusal :=
  .next (if !s.mainLive then s else
    if !s.flag TIM_STATUS_TB0_VALID then s
    else if s.flag TIM_STATUS_HOLDOVER then (s.setTim { s.tim with far := [] }).put TIM_STATUS_TB0_FAR 0
    else s.enterHoldover)

/-- Whole seconds of a holdover. -/
def State.holdSeconds (s : State) : Nat := match s.tim.holdSn with | some h => (s.now - h) / 4000 | none => s.num TIM_HOLDOVER_S

/-- TIM_HOLDOVER_S counts on. -/
def State.showHoldover (s : State) : State := if s.flag TIM_STATUS_HOLDOVER then s.setNum TIM_HOLDOVER_S s.holdSeconds else s

/-- HOLDOVER_LIMIT (R86): TIM_HOLDOVER_S passes its limit; strokes continue. -/
def execHoldoverLimit (s : State) : Host.Outcome State Fault Refusal :=
  .next (if !s.mainLive then s else
    if s.flag TIM_STATUS_HOLDOVER && decide (s.num TIM_HOLDOVER_LIMIT < s.holdSeconds) && !s.flag TIM_STATUS_HOLDOVER_EXPIRED then
      ((s.setNum TIM_HOLDOVER_S s.holdSeconds).put TIM_STATUS_HOLDOVER_EXPIRED 1).record EV_HOLDOVER_LIMIT 0 s.holdSeconds 0 0
    else s)

/-- TB0_SOURCE_RETURN (R87). -/
def execTb0SourceReturn (src : Nat) (err : Int) (s : State) : Host.Outcome State Fault Refusal :=
  .next (if !s.mainLive then s else s.tb0Offer src err)

/-- TB0_ACCEPT (R87): TIM_TB0_CMD.ACCEPT = 1 accepts a source that waits beyond the limit, the first of R84's order. -/
def execTb0Accept (value : Word) (s : State) : Host.Outcome State Fault Refusal :=
  .next (if !s.mainLive then s else
    if bitsOf value 0 1 = 0 then s
    else match [1, 2, 3].find? s.tim.far.contains with
      | some src => s.endHoldover src ((s.errOf src).getD 0)
      | none => s)

/-! ### TB1 (R91) -/

/-- TB1 − TB0 in ns. -/
def State.tb1Ofs (s : State) : Int := signed 64 (s.num64 TIM_TB1_OFS_LO TIM_TB1_OFS_HI)

/-- TB1 moved by `d` ns. -/
def State.moveTb1 (s : State) (d : Int) : State := s.setNum64 TIM_TB1_OFS_LO TIM_TB1_OFS_HI (unsigned 64 (s.tb1Ofs + d))

/-- A new TB1_STATE is recorded (R99). -/
def State.setTb1State (s : State) (st port : Nat) : State :=
  if s.get TIM_STATUS_TB1_STATE = st then s else (s.put TIM_STATUS_TB1_STATE st).record EV_TB1_ROLE 0 st port 0

/-- A Sync measurement (R91): `offset` is TB1 less the master's time. Answers the state, and the step TB1 makes, if any. A backward step
that NO_BACK_STEP forbids is slewed to its end. -/
def State.ptpServo (s : State) (port : Nat) (offset : Int) : State × Option Int :=
  let limit : Int := s.num TIM_TB1_STEP_NS
  if (absI offset : Int) ≤ limit then
    ((s.setTim { s.tim with syncs := [], tb1Slew := -offset, backSlew := false }).setTb1State 2 port, none)
  else if s.tim.backSlew && decide (0 < offset) then (s.setTim { s.tim with syncs := [], tb1Slew := -offset }, none)
  else
    let s := s.setTim { s.tim with tb1Slew := 0, backSlew := false }
    let agree := s.tim.syncs.all fun m => decide ((absI (m - offset) : Int) ≤ limit)
    if !agree then (s.setTim { s.tim with syncs := [] }, none)
    else
      let ms := s.tim.syncs ++ [offset]
      if ms.length < max 1 (s.get TIM_TB1_CFG_STEP_CONFIRM) then (s.setTim { s.tim with syncs := ms }, none)
      else if 0 < offset && s.flag TIM_TB1_CFG_NO_BACK_STEP then
        (s.setTim { s.tim with syncs := [], tb1Slew := -offset, backSlew := true }, none)
      else
        let s := (s.setTim { s.tim with syncs := [] }).moveTb1 (-offset)
        let step := unsigned 64 (-offset)
        (((s.count TIM_TB1_STEPS 1).record EV_TB1_STEP 0 (lo32 step) (hi32 step) port).setTb1State 2 port, some (-offset))

/-- TB1 follows its slew by up to 125 ns per period of 250 µs (500 µs/s). -/
def State.slewTb1 (s : State) : State :=
  if s.tim.tb1Slew = 0 then s
  else
    let d := clampI (-125) 125 s.tim.tb1Slew
    (s.setTim { s.tim with tb1Slew := s.tim.tb1Slew - d }).moveTb1 d

/-! ### TB3 (R100) -/

/-- TB3 in ns at an instant of the device's clock: it runs at TB0's rate changed by TIM_TB3_ADJ units of 2^−16 ppb. -/
def State.tb3Now (s : State) (now : Nat) : Int :=
  let dt : Int := (now : Int) - (s.tim.tb3At : Int)
  s.tim.tb3 + dt + dt * signed 32 (s.num TIM_TB3_ADJ) / (65536 * 1000000000)

/-- TB3's reckoning starts again from an instant, its value unchanged. -/
def State.rebaseTb3 (s : State) (now : Nat) : State := s.setTim { s.tim with tb3 := s.tb3Now now, tb3At := now }

/-- TB3_LOAD (R100): TIM_TB3_CMD.LOAD = 1 steps TB3 to the written value. -/
def execTb3Load (value : Word) (atNs : Nat) (s : State) : Host.Outcome State Fault Refusal :=
  .next (if !s.mainLive then s else
    if bitsOf value 0 1 = 0 then s
    else s.setTim { s.tim with tb3 := (s.tim.tb3Sec : Int) * 1000000000 + (s.tim.tb3Ns : Int), tb3At := s.clockNs atNs })

/-- TB3_READ_LATCH (R100): a read of TIM_TB3_SEC_LO latches TB3 into its registers. -/
def execTb3ReadLatch (atNs : Nat) (s : State) : Host.Outcome State Fault Refusal :=
  .next (if !s.mainLive then s else
    let t := s.tb3Now (s.clockNs atNs)
    let sec := unsigned 64 (t / 1000000000)
    let s := (s.setNum64 TIM_TB3_SEC_LO TIM_TB3_SEC_HI sec).setNum TIM_TB3_NS (t % 1000000000).toNat
    { s with reply := .data (s.rd TIM_TB3_SEC_LO) })

/-! ### Time pins (R98) -/

/-- An edge of PPS_IN that counts, at TB0 time `tb0`, `good` or not (R98). -/
def State.ppsEdge (s : State) (tb0 : Nat) (good : Bool) : State :=
  let s := s.setTim { s.tim with ppsLast := some tb0, ppsTb1 := some (tb0 + s.tb1Ofs) }
  let s := (s.setNum64 TIM_PPS_IN_SEC_LO TIM_PPS_IN_SEC_HI (tb0 / 1000000000)).setNum TIM_PPS_IN_NS (tb0 % 1000000000)
  let s := s.put TIM_STATUS_PPS_IN_OK (b2n good)
  if s.tim.labelFresh then
    let label : Nat := tb0 / 1000000000 / 2 ^ 32 * 2 ^ 32 + s.num TIM_PPS_IN_LABEL
    (s.setTim { s.tim with labelFresh := false }).tb0Offer 2 ((label : Int) * 1000000000 - tb0)
  else if s.tim.labelled then s.tb0Offer 2 (((tb0 : Int) + 500000000) / 1000000000 * 1000000000 - tb0)
  else s

/-- PPS_IN_EDGE (R98, R84): an edge of the selected polarity at TB0 time `tb0` in ns. An edge within 2 µs of the previous one is
ignored and counted as a fault. With PPS_IN_EN and a written label it offers time. -/
def execPpsInEdge (tb0 : Nat) (s : State) : Host.Outcome State Fault Refusal :=
  .next (if !s.mainLive then s else
    let gap := match s.tim.ppsLast with | some p => some (tb0 - p) | none => none
    match gap with
    | some g =>
      if g < 2000 then s.record EV_PPS_IN_FAULT 0 g 0 0
      else s.ppsEdge tb0 (decide (absI ((g : Int) - 1000000000) ≤ 1000))
    | none => s.ppsEdge tb0 false)

/-- The base chosen for PPS_OUT is valid (R98). -/
def State.ppsValid (s : State) : Bool :=
  match s.get TIM_PPS_CFG_PPS_OUT_SRC with
  | 0 => s.stroked && s.flag TIM_STATUS_TB0_VALID && (!s.flag TIM_STATUS_HOLDOVER || s.flag TIM_PPS_CFG_PPS_OUT_HOLD)
  | 1 => decide (2 ≤ s.get TIM_STATUS_TB1_STATE)
  | 2 => true
  | _ => false

/-- FREQ_OUT runs (R98). -/
def State.freqOut (s : State) : Bool := s.mainLive && s.flag TIM_PPS_CFG_FREQ_OUT_EN

/-- PPS_IN_OK falls when no edge has come for 1 s and 1 µs (R100). -/
def State.ppsWatch (s : State) : State :=
  match s.tim.ppsLast with
  | some t => if t + 1000001000 < s.clockNs 0 then s.put TIM_STATUS_PPS_IN_OK 0 else s
  | none => s

/-- PPS_OUT_PULSE (R98): the chosen base reaches a whole second. -/
def execPpsOutPulse (s : State) : Host.Outcome State Fault Refusal :=
  .next (if !s.mainLive then s else
    if s.ppsValid then s.emit (.pps (s.get TIM_PPS_CFG_PPS_OUT_SRC) (s.get TIM_PPS_CFG_PPS_OUT_WIDTH) s.freqOut) else s)

/-! ### Stroke edge -/

/-- What a stroke edge does to the time bases: the slews run on, the holdover seconds, ASN_WAIT (R27, R83, R86, R91). -/
def State.timeEdge (s : State) : State :=
  let s := s.startSlew (s.tim.slewQ / 4)
  let step : Int := s.get TIM_TB0_CFG_SLEW
  let s := s.setTim { s.tim with slewQ := s.tim.slewQ - clampI (-step) step s.tim.slewQ }
  let s := if s.tim.slewQ = 0 then (s.put STK_STATUS_SLEWING 0).setTim { s.tim with slewing := false } else s
  let s := s.slewTb1.ppsWatch
  s.showHoldover.put TIM_STATUS_ASN_WAIT (b2n (decide (s.sn < s.asnBase)))

/-- The device's clock becomes TB0 at the first edge (R56, R28): TB3, and TB1 where it follows a master, go on from what they read; edges of
PPS_IN before it have no TB0 time. `before` is the state at the edge by the free-running count. -/
def State.rebaseTime (s before : State) : State :=
  let old := before.clockNs 0
  let new := s.clockNs 0
  let s := s.setTim { s.tim with tb3 := before.tb3Now old, tb3At := new, ppsLast := none, ppsTb1 := none }
  if s.get TIM_STATUS_TB1_STATE = 2 then s.moveTb1 ((old : Int) - new)
  else s.setTim { s.tim with ptp := { s.tim.ptp with meas := [] } }

/-- PAIR_PHASE (R89): the TB0 difference measured at a heartbeat. -/
def State.pairCompare (s : State) (diff : Int) : State :=
  let far := decide ((s.num TIM_PAIR_PHASE_LIMIT : Int) < absI diff)
  let said := s.tim.pairFar
  let s := s.setTim { s.tim with pairFar := far }
  if far && !said then s.record EV_PAIR_PHASE 0 (sat32 diff) 0 0 else s

end Sys2Proof.Machine
end

