-- ==== Sys2Proof/Machine/Cistern.lean ====
section
/-! DEFINITION. The Cistern (R311–R330): admission, freeing, pause, audit; link events and the MDIO buses (R333). -/

namespace Sys2Proof.Machine

open Sys2Proof

/-- The physical 10G port that serves as the mate link, where the pair is enabled (R22). -/
def State.matePort (s : State) : Option Nat := if s.flag PAI_CFG_ENABLE then some (s.get PAI_CFG_MATE_PORT) else none

/-- Physical Ethernet port of a fabric port: the mate link for 43. -/
def State.physPort (s : State) (p : Nat) : Nat := if p = 43 then s.get PAI_CFG_MATE_PORT else p

/-- A fabric port that exists and is not the mate link's (R22): while the pair is enabled neither 43, which is bound to the mate link, nor
the own number of the 10G port that serves as it (DESIGN CHOICE: the spec does not say which number it means; log entry 107). -/
def State.fabricOk (s : State) (p : Nat) : Bool := decide (p < 44) && s.matePort != some p && !(p == 43 && s.matePort.isSome)

/-- Cells in frames, quarantined or stranded. -/
def State.cellsUsed (s : State) : Nat :=
  (s.net.frames.foldl (fun n f => n + f.cells.length) 0) + s.net.quarantined.length + s.net.stranded.length

/-- Free cells of the pool. -/
def State.cellsFree (s : State) : Nat := 65536 - s.cellsUsed

/-- Shared cells held by all channels. -/
def State.sharedHeld (s : State) : Nat := s.net.shared.foldl (fun n x => n + x.2) 0

/-- Shared cells free (R313). -/
def State.sharedFree (s : State) : Nat := s.get CIS_SHARED_N - s.sharedHeld

/-- Cells a port holds, in all three categories. -/
def State.held (s : State) (p : Nat) : Nat := tgetD s.net.guar p 0 + tgetD s.net.shared p 0 + tgetD s.net.hdrm p 0

/-- The registers that show the pool and port `p`. -/
def State.showPool (s : State) (p : Nat) : State :=
  let s := (s.put CIS_STATUS_FREE s.cellsFree).put CIS_STATUS_SHARED_EMPTY (b2n (s.sharedFree == 0))
  let s := s.put CIS_SHARED_FREE_N s.sharedFree
  let s := if s.cellsFree < s.get CIS_FREE_LOW_N then s.put CIS_FREE_LOW_N s.cellsFree else s
  s.put (CIS_USE_CELLS p) (s.held p)

/-- A class is lossless at a port (R315, R316): every class with PAUSE and on the mate link. -/
def State.lossless (s : State) (p c : Nat) : Bool :=
  p == 43 || (decide (p < 24) && (s.flag (PRT_CFG_PAUSE_EN p) || bit (s.get (PRT_CFG_LOSSLESS p)) c))

/-- Threshold of a port's shared cells: free_shared shifted by ALPHA_K (R313). -/
def State.shareLimit (s : State) (p : Nat) : Nat :=
  let k := signed 4 (s.get (CIS_ADM_ALPHA_K p))
  if 0 ≤ k then s.sharedFree <<< k.toNat else s.sharedFree >>> (-k).toNat

/-- admit_cell of R313: the category a cell is taken in, if it is admitted. -/
inductive CellCat where
  | guaranteed | shared | headroom
  deriving DecidableEq, Repr

/-- The category of the next cell of port `p`, class `c`. -/
def State.admitCell (s : State) (p c : Nat) : Option CellCat :=
  if tgetD s.net.guar p 0 < s.get (CIS_MIN_CELLS p) then some .guaranteed
  else if tgetD s.net.shared p 0 < s.shareLimit p then some .shared
  else if s.lossless p c && decide (tgetD s.net.hdrm p 0 < s.get (CIS_ADM_HDRM p)) then some .headroom
  else none

/-- One cell is counted to a port in a category. -/
def State.takeCell (s : State) (p : Nat) : CellCat → State
  | .guaranteed => s.setNet { s.net with guar := tput s.net.guar p (tgetD s.net.guar p 0 + 1) }
  | .shared => s.setNet { s.net with shared := tput s.net.shared p (tgetD s.net.shared p 0 + 1) }
  | .headroom => s.setNet { s.net with hdrm := tput s.net.hdrm p (tgetD s.net.hdrm p 0 + 1) }

/-- Admit `n` cells one at a time; none where one is refused. -/
def State.admitCells (s : State) (p c : Nat) : Nat → Option State
  | 0 => some s
  | n + 1 => match s.admitCell p c with
    | some k => (s.takeCell p k).admitCells p c n
    | none => none

/-- A count lowered in a table; an entry of 0 is not listed. -/
def lowerCount (t : Tab Nat) (p n : Nat) : Tab Nat := if tgetD t p 0 ≤ n then tdel t p else tput t p (tgetD t p 0 - n)

/-- `n` cells of a port are freed: to headroom first, then shared, then guaranteed (R313). -/
def State.freeCells (s : State) (p n : Nat) : State :=
  let h := min n (tgetD s.net.hdrm p 0)
  let sh := min (n - h) (tgetD s.net.shared p 0)
  s.setNet { s.net with hdrm := lowerCount s.net.hdrm p h, shared := lowerCount s.net.shared p sh,
                        guar := lowerCount s.net.guar p (n - h - sh) }

/-- A cell number is in use. -/
def State.cellTaken (s : State) (c : Nat) : Bool :=
  s.net.frames.any (fun f => f.cells.contains c) || s.net.quarantined.contains c || s.net.stranded.contains c

/-- The `n` lowest free cells from `c` up. -/
def State.pickCells (s : State) (c : Nat) : Nat → Nat → List Nat
  | 0, _ => []
  | _, 0 => []
  | fuel + 1, n + 1 => if s.cellTaken c then s.pickCells (c + 1) fuel (n + 1) else c :: s.pickCells (c + 1) fuel n

/-- Cells of a frame of `len` bytes (R312). -/
def cellsFor (len : Nat) : Nat := (len + 255) / 256

/-- Store a frame of a port whole: its cells are admitted, or nothing is (R313). Answers the frame's number. -/
def State.storeFrame (s : State) (p cls : Nat) (bytes : List Byte) (verified : Bool) (pcp : Option Nat) :
    Option (State × Nat) :=
  match s.admitCells p cls (cellsFor bytes.length) with
  | none => none
  | some s' =>
    let f : Frame := { id := s.net.nextFrame, ingress := p, cls := cls, bytes := bytes,
                       cells := s.pickCells 0 65536 (cellsFor bytes.length),
                       guar := tgetD s'.net.guar p 0 - tgetD s.net.guar p 0,
                       shared := tgetD s'.net.shared p 0 - tgetD s.net.shared p 0,
                       hdrm := tgetD s'.net.hdrm p 0 - tgetD s.net.hdrm p 0,
                       arrSn := s.sn, verified := verified, check := crc32c bytes, pcp := pcp }
    some ((s'.setNet { s'.net with frames := s'.net.frames ++ [f], nextFrame := s'.net.nextFrame + 1 }).showPool p,
          s.net.nextFrame)

/-- The frame with a number. -/
def State.frame? (s : State) (id : Nat) : Option Frame := s.net.frames.find? fun f => f.id == id

/-- A frame changed in place. -/
def State.modFrame (s : State) (id : Nat) (f : Frame → Frame) : State :=
  s.setNet { s.net with frames := s.net.frames.map fun x => if x.id = id then f x else x }

/-- A bad cell of an ended frame is quarantined, up to 64 (R328). -/
def State.quarantine (s : State) (c : Nat) : State :=
  if 64 ≤ s.net.quarantined.length then s
  else
    let s := s.setNet { s.net with quarantined := s.net.quarantined ++ [c] }
    let s := (s.put CIS_QUARANTINE_N s.net.quarantined.length).put CIS_SHARED_N (s.get CIS_SHARED_N - 1)
    s.record EV_CELL_QUARANTINED 0 c s.net.quarantined.length 0

/-- A frame ends: its cells return to the pool, bad cells are quarantined, cells behind a broken link are stranded
(R311, R328, R329). -/
def State.freeFrame (s : State) (id : Nat) : State :=
  match s.frame? id with
  | none => s
  | some f =>
    let s := s.setNet { s.net with frames := s.net.frames.filter fun x => x.id != id }
    let lost := match f.broken with
      | some i => (f.cells.drop (i + 1)).filter fun c => !f.badCells.contains c
      | none => []
    let s := s.setNet { s.net with stranded := s.net.stranded ++ lost }
    let s := f.badCells.foldl (fun s c => s.quarantine c) (s.freeCells f.ingress f.cells.length)
    s.showPool f.ingress

/-- One egress copy of a frame ends; with the last the frame ends (R311). -/
def State.endCopy (s : State) (id : Nat) : State :=
  match s.frame? id with
  | none => s
  | some f => if f.copies ≤ 1 then s.freeFrame id else s.modFrame id fun f => { f with copies := f.copies - 1 }

/-- A frame is refused at admission: counted, and recorded once per stroke for the port (R315). -/
def State.admitDrop (s : State) (p : Nat) : State :=
  let n := tgetD s.net.refused p 0 + 1
  let s := (s.count (CIS_DROP p) 1).setNet { s.net with refused := tput s.net.refused p n }
  if n = 1 then s.record EV_ADMIT_DROP 0 p 1 (s.get (CIS_USE_CELLS p)) else s

/-! ### Pause (R316, R317) -/

/-- The next cell of the port could be admitted neither as guaranteed nor as shared (R316). -/
def State.atThreshold (s : State) (p : Nat) : Bool :=
  decide (s.get (CIS_MIN_CELLS p) ≤ tgetD s.net.guar p 0) && decide (s.shareLimit p ≤ tgetD s.net.shared p 0)

/-- Cells held for a class of a port. -/
def State.classCells (s : State) (p c : Nat) : Nat :=
  (s.net.frames.filter fun f => f.ingress == p && f.cls == c).foldl (fun n f => n + f.cells.length) 0

/-- An XOFF leaves (R316): quanta 0xFFFF for classes of a port, 0xFF for PAUSE. -/
def State.sendXoff (s : State) (p classes : Nat) : State :=
  (s.setNet { s.net with xoffSn := tput s.net.xoffSn p s.now }).emit (.pause p classes 0xFFFF)

/-- XOFF or XON of one class of a port, as its condition arises or ends (R316). -/
def State.pfcClass (s : State) (p c : Nat) : State :=
  let n := s.classCells p c
  let more := s.atThreshold p || s.net.floatXoff.contains p
  let on := bit (s.get (CIS_PFC_STAT_XOFF p)) c
  if !on && (decide (s.get (CIS_PFC_XOFF p) ≤ n) || more) then
    ((s.put (CIS_PFC_STAT_XOFF p) (setBit (s.get (CIS_PFC_STAT_XOFF p)) c)).sendXoff p (2 ^ c)).record
      EV_PAUSE_SENT 0 p (2 ^ c) n
  else if on && decide (n ≤ s.get (CIS_PFC_XON p)) && !more then
    (s.put (CIS_PFC_STAT_XOFF p) (clearBit (s.get (CIS_PFC_STAT_XOFF p)) c)).emit (.pause p (2 ^ c) 0)
  else s

/-- 802.3 PAUSE of a port, over all its cells (R316). -/
def State.pausePort (s : State) (p : Nat) : State :=
  let n := s.held p
  let more := s.atThreshold p || s.net.floatXoff.contains p
  let on := s.flag (CIS_PFC_STAT_PAUSE p)
  if !on && (decide (s.get (CIS_PFC_XOFF p) ≤ n) || more) then
    ((s.put (CIS_PFC_STAT_PAUSE p) 1).sendXoff p 0xFF).record EV_PAUSE_SENT 0 p 0xFF n
  else if on && decide (n ≤ s.get (CIS_PFC_XON p)) && !more then
    (s.put (CIS_PFC_STAT_PAUSE p) 0).emit (.pause p 0xFF 0)
  else s

/-- The pause conditions of a port are weighed (R316). -/
def State.weighPause (s : State) (p : Nat) : State :=
  if p = 43 then s.pausePort p
  else if 24 ≤ p then s
  else if s.flag (PRT_CFG_PAUSE_EN p) then s.pausePort p
  else if s.flag (PRT_CFG_PFC_EN p) then
    (List.range 8).foldl (fun s c => if bit (s.get (PRT_CFG_LOSSLESS p)) c then s.pfcClass p c else s) s
  else s

/-- PAUSE_REFRESH (R316): a standing XOFF of a port is repeated, XOFF_REFRESH strokes after its last. -/
def execPauseRefresh (port : Nat) (s : State) : Host.Outcome State Fault Refusal :=
  .next (if !s.serving || decide (s.now < tgetD s.net.xoffSn port 0 + s.get CIS_CFG_XOFF_REFRESH) then s else
    let s := if s.get (CIS_PFC_STAT_XOFF port) = 0 then s else s.sendXoff port (s.get (CIS_PFC_STAT_XOFF port))
    if s.flag (CIS_PFC_STAT_PAUSE port) then s.sendXoff port 0xFF else s)

/-- The port honours received pause frames (R317): PAUSE with PAUSE_EN or on the mate link, PFC with PFC_EN. -/
def State.honours (s : State) (p : Nat) (pfc : Bool) : Bool :=
  if p = 43 then !pfc else if pfc then s.flag (PRT_CFG_PFC_EN p) else s.flag (PRT_CFG_PAUSE_EN p)

/-- Pause bits of the partner: class `c` of a port, 8 for PAUSE, until an instant in ns or ended. -/
def State.setPaused (s : State) (p c : Nat) (until' : Option Nat) : State :=
  let k := 16 * p + c
  let rest := s.net.paused.filter fun x => x.1 != k
  let s := s.setNet { s.net with paused := match until' with | some u => rest ++ [(k, u)] | none => rest }
  let on := until'.isSome
  if c = 8 then s.put (CIS_PFC_STAT_PAUSED_ALL p) (b2n on)
  else s.put (CIS_PFC_STAT_PAUSED p) (if on then setBit (s.get (CIS_PFC_STAT_PAUSED p)) c else clearBit (s.get (CIS_PFC_STAT_PAUSED p)) c)

/-- Port speed: time of `n` bytes on the wire in ns, at 10G, 2.5G or 1G. -/
def State.wireNs (s : State) (p n : Nat) : Nat :=
  match s.get (PRT_CFG_SPEED (s.physPort p)) with
  | 0 => n * 4 / 5
  | 1 => n * 16 / 5
  | _ => n * 8

/-- End of a pause of `quanta` that came at `now` (IEEE 802.3: a quantum is 512 bit times); none for quanta 0. -/
def State.pauseEnd (s : State) (p now quanta : Nat) : Option Nat := if quanta = 0 then none else some (now + s.wireNs p (64 * quanta))

/-- PAUSE_RX (R317): a received PAUSE, or a PFC frame with its class-enable vector and quanta, stops new frames for the time given, from
`atNs` of the stroke; quanta 0 let them start again. The frame is consumed. -/
def execPauseRx (port : Nat) (pfc : Bool) (classes : Nat) (quanta : List Nat) (atNs : Nat) (s : State) :
    Host.Outcome State Fault Refusal :=
  .next (if !s.serving then s else
    let ends (c : Nat) : Option Nat := s.pauseEnd port (s.clockNs atNs) (quanta.getD c 0)
    if !(decide (port < 24) || port == 43) || !s.honours port pfc then s
    else if !pfc then s.setPaused port 8 (ends 0)
    else (List.range 8).foldl (fun s c => if bit classes c then s.setPaused port c (ends c) else s) s)

/-- PAUSE_EXPIRY (R317): the pause time of a class (8: of PAUSE) has run out at `atNs` of the stroke. -/
def execPauseExpiry (port cls atNs : Nat) (s : State) : Host.Outcome State Fault Refusal :=
  .next (if !s.serving then s
    else if s.net.paused.any fun x => x.1 == 16 * port + cls && decide (x.2 ≤ s.clockNs atNs) then s.setPaused port cls none else s)

/-- A class of a port is paused by its partner. -/
def State.isPaused (s : State) (p c : Nat) : Bool :=
  s.net.paused.any fun x => x.1 == 16 * p + c || x.1 == 16 * p + 8

/-! ### Intake FIFOs (R318, R319) -/

/-- FLOAT_HIT bit of a port. -/
def State.setFloatHit (s : State) (p : Nat) : State :=
  if p < 32 then s.setNum PRT_FLOAT_HIT_LO (setBit (s.num PRT_FLOAT_HIT_LO) p)
  else s.setNum PRT_FLOAT_HIT_HI (setBit (s.num PRT_FLOAT_HIT_HI) (p - 32))

/-- The fill of a port's intake FIFO becomes `w` words (R318, R319, R316). -/
def State.setFill (s : State) (p w : Nat) : State :=
  let w := min w 256
  let mark := s.get (PRT_FIFO_FLOAT p)
  let s := s.put (PRT_FILL_WORDS p) w
  let s := if s.get (PRT_FILL_PEAK_WORDS p) < w then s.put (PRT_FILL_PEAK_WORDS p) w else s
  let rose := decide (mark ≤ w) && !s.net.above.contains p
  let s := s.setNet { s.net with above := if mark ≤ w then s.net.above.erase p ++ [p] else s.net.above.erase p }
  let s :=
    if !rose then s
    else
      let s := s.setFloatHit p
      let s := if s.flag (PRT_FIFO_FLOAT_INT p) then s.setNet { s.net with floatDue := true } else s
      match tget s.net.floatSn p with
      | some x => if s.now < x + 4000 then s
                  else (s.setNet { s.net with floatSn := tput s.net.floatSn p s.now }).record EV_FLOAT_MARK 0 p w 0
      | none => (s.setNet { s.net with floatSn := tput s.net.floatSn p s.now }).record EV_FLOAT_MARK 0 p w 0
  if s.flag (PRT_FIFO_FLOAT_XOFF p) && decide (mark ≤ w) then
    s.setNet { s.net with floatXoff := s.net.floatXoff.erase p ++ [p] }
  else if 2 * w < mark then s.setNet { s.net with floatXoff := s.net.floatXoff.erase p }
  else s

/-- FLOAT_HIT_CLEAR (R333): 1 written to bits of PRT_FLOAT_HIT_LO (`high` false) or _HI clears them. -/
def execFloatHitClear (high : Bool) (value : Word) (s : State) : Host.Outcome State Fault Refusal :=
  .next (if !s.mainLive then s else
    if high then s.wr PRT_FLOAT_HIT_HI (s.rd PRT_FLOAT_HIT_HI &&& ~~~value)
    else s.wr PRT_FLOAT_HIT_LO (s.rd PRT_FLOAT_HIT_LO &&& ~~~value))

/-! ### Audit, links, MDIO -/

/-- CISTERN_AUDIT (R329): stranded cells return to the pool. -/
def execCisternAudit (s : State) : Host.Outcome State Fault Refusal :=
  .next (if !s.serving then s else
    let n := s.net.stranded.length
    if n = 0 then s
    else
      let s := (s.setNet { s.net with stranded := [] }).count CIS_LEAK_RECOVERED n
      (s.put CIS_STATUS_FREE s.cellsFree).record EV_CELLS_RECOVERED 0 n 0 0)

/-- LINK_UP (R331): the link of an enabled Ethernet port comes up. -/
def execLinkUp (port : Nat) (s : State) : Host.Outcome State Fault Refusal :=
  .next (if !s.serving then s else
    if 24 ≤ port || !s.flag (PRT_CFG_ENABLE port) || bit (s.get PRT_LINK_UP) port then s
    else (s.put PRT_LINK_UP (setBit (s.get PRT_LINK_UP) port)).record EV_LINK_UP 0 port (s.get (PRT_CFG_SPEED port)) 0)

/-- LINK_DOWN (R331). -/
def execLinkDown (port : Nat) (s : State) : Host.Outcome State Fault Refusal :=
  .next (if !s.serving then s else
    if 24 ≤ port || !bit (s.get PRT_LINK_UP) port then s
    else (s.put PRT_LINK_UP (clearBit (s.get PRT_LINK_UP) port)).record EV_LINK_DOWN 0 port 0 0)

/-- A write of PRT_MDIO_CMD whose OP is `op` (R333): ignored while a cycle runs (log entry 40); otherwise its fields are set,
and GO starts a cycle. -/
def State.mdioCmd (s : State) (op : Nat) (value : Word) : State :=
  if s.flag PRT_MDIO_CMD_GO || bitsOf value 12 2 ≠ op then s
  else s.setNum PRT_MDIO_CMD (bitsOf value 0 14 + 2 ^ 15 * bitsOf value 15 1)

/-- MDIO_ADDRESS (R333): OP 0. -/
def execMdioAddress (value : Word) (s : State) : Host.Outcome State Fault Refusal := .next (if !s.mainLive then s else s.mdioCmd 0 value)

/-- MDIO_WRITE (R333): OP 1. -/
def execMdioWrite (value : Word) (s : State) : Host.Outcome State Fault Refusal := .next (if !s.mainLive then s else s.mdioCmd 1 value)

/-- MDIO_READ_INC (R333): OP 2. -/
def execMdioReadInc (value : Word) (s : State) : Host.Outcome State Fault Refusal := .next (if !s.mainLive then s else s.mdioCmd 2 value)

/-- MDIO_READ (R333): OP 3. -/
def execMdioRead (value : Word) (s : State) : Host.Outcome State Fault Refusal := .next (if !s.mainLive then s else s.mdioCmd 3 value)

/-- MDIO_DONE (R333): GO clears, and PRT_MDIO_DATA holds what a read cycle answered. -/
def execMdioDone (data : Nat) (s : State) : Host.Outcome State Fault Refusal :=
  .next (if !s.serving then s else
    if !s.flag PRT_MDIO_CMD_GO then s
    else
      let s := s.put PRT_MDIO_CMD_GO 0
      if 2 ≤ s.get PRT_MDIO_CMD_OP then s.put PRT_MDIO_DATA_V data else s)

end Sys2Proof.Machine
end

