-- ==== Sys2Proof/Machine/FrameBytes.lean ====
section
/-! DEFINITION. Headers of Ethernet frames: tags, EtherTypes, the router's address (R346), PTP messages (R94, R334). -/

namespace Sys2Proof.Machine

open Sys2Proof

/-- PCP and VID of an 802.1Q tag, if the frame has one. -/
def tagOf (b : List Byte) : Option (Nat × Nat) :=
  if beAt b 12 2 = 0x8100 then some (beAt b 14 2 / 0x2000, beAt b 14 2 % 0x1000) else none

/-- EtherType and payload behind any tag. -/
def etypeOf (b : List Byte) : Nat := if beAt b 12 2 = 0x8100 then beAt b 16 2 else beAt b 12 2
def payloadOf (b : List Byte) : List Byte := if beAt b 12 2 = 0x8100 then b.drop 18 else b.drop 14

/-- The frame without its tag. -/
def untag (b : List Byte) : List Byte := if beAt b 12 2 = 0x8100 then b.take 12 ++ b.drop 16 else b

/-- A tag with a PCP and VID is put into an untagged frame. -/
def addTag (b : List Byte) (pcp vid : Nat) : List Byte :=
  b.take 12 ++ [0x81, 0x00] ++ (leBytes 2 (0x2000 * pcp + vid)).reverse ++ b.drop 12

/-- FWD_ROUTER_MAC in wire order. -/
def State.routerMac (s : State) : List Byte := leBytes 2 (s.get FWD_ROUTER_MAC_HI_B) ++ leBytes 4 (s.num FWD_ROUTER_MAC_LO)

/-- UDP destination port and payload of a frame over IPv4 or IPv6, if it is one. -/
def udpOf (b : List Byte) : Option (Nat × List Byte) :=
  let p := payloadOf b
  let at' (o : Nat) : Option (Nat × List Byte) := some (beAt p (o + 2) 2, p.drop (o + 8))
  if etypeOf b == 0x0800 && beAt p 9 1 == 17 then at' (beAt p 0 1 % 16 * 4)
  else if etypeOf b == 0x86DD && beAt p 6 1 == 17 then at' 40
  else none

/-- The PTP message of a frame (R334): EtherType 0x88F7, or UDP port 319 or 320 over IPv4 or IPv6. -/
def ptpOf (b : List Byte) : Option (List Byte) :=
  if etypeOf b = 0x88F7 then some (payloadOf b)
  else match udpOf b with
    | some (319, m) => some m
    | some (320, m) => some m
    | _ => none

/-- The frame carries a PTP message. -/
def isPtp (b : List Byte) : Bool := (ptpOf b).isSome

/-- It carries a PTP event message (R94): one of the message types below 8, over UDP to port 319 (IEEE 1588). -/
def isPtpEvent (b : List Byte) : Bool :=
  match ptpOf b with
  | some m => decide (beAt m 0 1 % 16 < 8) && (match udpOf b with | some (p, _) => p == 319 | none => true)
  | none => false

end Sys2Proof.Machine
end

