-- ==== Sys2Proof/Machine/Egress.lean ====
section
/-! DEFINITION. Egress of Ethernet ports and HOST: launch times (R96), gates (R97, R353), queue choice (R348, R349), the check at
egress (R324–R328), the effect of a TB1 step (R92). -/

namespace Sys2Proof.Machine

open Sys2Proof

/-- Egress state of a port. -/
def State.eg (s : State) (p : Nat) : Egress := tgetD s.net.egress p {}
def State.setEg (s : State) (p : Nat) (e : Egress) : State := s.setNet { s.net with egress := tput s.net.egress p e }

/-- Gates of a port. -/
def State.gatesOf (s : State) (p : Nat) : Gates := tgetD s.net.gates p {}
def State.setGates (s : State) (p : Nat) (g : Gates) : State := s.setNet { s.net with gates := tput s.net.gates p g }

/-- TB1 in ns at `at'` ns of the current stroke. -/
def State.tb1Ns (s : State) (at' : Nat) : Nat := ((s.clockNs at' : Int) + s.tb1Ofs).toNat

/-- The port's time base in ns (R96): TB0 with QBV_BASE = 1, else TB1. -/
def State.portNow (s : State) (p at' : Nat) : Nat := if s.flag (TIM_PORT_PTP_QBV_BASE p) then s.clockNs at' else s.tb1Ns at'

/-- Wire time of a frame with its preamble and FCS. -/
def State.frameNs (s : State) (p : Nat) (bytes : List Byte) : Nat := s.wireNs p (bytes.length + 12)

/-- Fixed path latency of a port type in ns: ingress and egress (R93). -/
def State.pathNs (s : State) (p : Nat) : Nat × Nat :=
  if 4 ≤ p then (248, 212)
  else match s.get (PRT_CFG_SPEED p) with
    | 0 => (38, 52)
    | 1 => (112, 96)
    | _ => (176, 160)

/-- The timestamp of a frame at a fabric port from the MAC's timestamp point (R93), with the latency and correction of its Ethernet port. -/
def State.stampAt (s : State) (port : Nat) (egress : Bool) (t : Nat) : Nat :=
  let p := s.physPort port
  let lat := if egress then (s.pathNs p).2 else (s.pathNs p).1
  let corr := signed 16 (s.get (if egress then TIM_PORT_CORR_EGRESS p else TIM_PORT_CORR_INGRESS p))
  ((t : Int) + lat + corr).toNat

/-! ### Gates -/

/-- Spans of a list within its cycle: gate states, start, end. The last entry holds to the cycle's end; a list that is too
long is cut there (R353). -/
def gateSpans (cycle : Nat) : Nat → List (Nat × Nat) → List (Nat × Nat × Nat)
  | _, [] => []
  | t, (m, d) :: r =>
    if cycle ≤ t then []
    else match r with
      | [] => [(m, t, cycle)]
      | _ => (m, t, min cycle (t + d)) :: gateSpans cycle (t + d) r

/-- Spans of a gate list. -/
def GateList.spans (g : GateList) : List (Nat × Nat × Nat) := gateSpans g.cycle 0 g.entries

/-- First cycle start of a list not earlier than `t`. -/
def GateList.startFrom (g : GateList) (t : Nat) : Nat :=
  if t ≤ g.base then g.base else g.base + (t - g.base + g.cycle - 1) / max 1 g.cycle * g.cycle

/-- Time within the cycle at `t`. -/
def GateList.phase (g : GateList) (t : Nat) : Nat := if t < g.base then 0 else (t - g.base) % max 1 g.cycle

/-- Entry in force at `t`. -/
def GateList.entryAt (g : GateList) (t : Nat) : Nat := (g.spans.findIdx? fun x => decide (g.phase t < x.2.2)).getD 0

/-- The list in force on a port with QBV_EN. -/
def State.gateList (s : State) (p : Nat) : Option GateList :=
  if s.flag (TIM_PORT_PTP_QBV_EN p) then (s.gatesOf p).oper else none

/-- Gate states of a port: all open without a list; all closed where the list failed its parity (R343). -/
def State.gateMask (s : State) (p : Nat) : Nat :=
  if (s.gatesOf p).broken then 0
  else match s.gateList p with
    | some g => (g.entries.getD (s.gatesOf p).idx (0xFF, 0)).1
    | none => 0xFF

/-- Time at which the gate of class `c`, open now, closes; none where it does not. -/
def State.gateCloses (s : State) (p c now : Nat) : Option Nat :=
  match s.gateList p with
  | none => none
  | some g =>
    let t0 := now - g.phase now
    let at' (o : Nat) : List (Nat × Nat × Nat) := g.spans.map fun (m, a, b) => (m, o + a, o + b)
    let all := match (s.gatesOf p).held with
      | some h => at' h
      | none => at' t0 ++ at' (t0 + g.cycle)
    (all.find? fun x => decide (now < x.2.2) && !bit x.1 c).map fun x => x.2.1

/-- GATE_INTERVAL (R97, R92): the interval of the entry in force ends and the next entry takes effect; gates held by a step
of TB1 restart at entry 0 at their cycle start. -/
def execGateInterval (port atNs : Nat) (s : State) : Host.Outcome State Fault Refusal :=
  .next (if !s.serving then s else
    let g := s.gatesOf port
    match g.oper with
    | none => s
    | some l =>
      match g.held with
      | some h => if s.portNow port atNs < h then s else s.setGates port { g with idx := 0, held := none }
      | none => s.setGates port { g with idx := if g.idx + 1 < l.spans.length then g.idx + 1 else 0 })

/-- A list becomes operational at time `now` (R353). -/
def State.operate (s : State) (p : Nat) (l : GateList) (now : Nat) : State :=
  s.setGates p { s.gatesOf p with oper := some l, idx := l.entryAt now, held := none, broken := false }

/-- GATE_LIST_CHANGE (R353): the administrative list becomes operational at its change time. -/
def execGateListChange (port atNs : Nat) (s : State) : Host.Outcome State Fault Refusal :=
  .next (if !s.serving then s else
    match (s.gatesOf port).admin with
    | none => s
    | some (l, at') =>
      if s.portNow port atNs < at' then s
      else
        let s := s.operate port l (s.portNow port atNs)
        let s := s.setGates port { s.gatesOf port with admin := none }
        s.record EV_GATE_LIST_CHANGE 0 port l.entries.length l.cycle)

/-! ### Queues and launch times -/

/-- A copy's descriptor ends. -/
def State.endDesc (s : State) (d : Option Desc) (status result : Nat) : State :=
  match d with
  | none => s
  | some d => s.finish d { st := s, status := some status, result := result }

/-- A copy leaves its queue unsent: its descriptor ends with LAUNCH_DROP (R350), its frame's copy ends. -/
def State.discard (s : State) (e : QEntry) : State := (s.endDesc e.desc 0x12 0).endCopy e.frame

/-- A frame whose launch time lies too far ahead is discarded (R96). -/
def State.launchDrop (s : State) (p : Nat) (e : QEntry) (now : Nat) : State :=
  let l := e.launch.getD 0
  ((s.count TIM_LAUNCH_DROP 1).record EV_LAUNCH_DROP 0 p (l % 1000000000) ((l - now) / 1000)).discard e

/-- The launch time lies more than TIM_LAUNCH_MAX_WAIT ahead. -/
def State.tooFar (s : State) (l now : Nat) : Bool := decide (now + s.num TIM_LAUNCH_MAX_WAIT * 1000 < l)

/-- Queue `c` of a port replaced. -/
def State.setQueue (s : State) (p c : Nat) (q : List QEntry) : State :=
  s.setEg p { s.eg p with queues := lput (s.eg p).queues c q }

/-- Queue `c` of a port. -/
def State.queue (s : State) (p c : Nat) : List QEntry := (s.eg p).queues.getD c []

/-- The head of a queue is weighed (R96): a launch time already past is sent at once with LATE_SEND = 1, discarded with 0. -/
def State.weighHead (s : State) (p c now : Nat) : Nat → State
  | 0 => s
  | fuel + 1 =>
    match s.queue p c with
    | [] => s
    | e :: r =>
      match e.launch with
      | none => s
      | some l =>
        if now ≤ l then s
        else
          let s := s.count TIM_LAUNCH_LATE 1
          if s.flag (TIM_PORT_PTP_LATE_SEND p) then s.setQueue p c ({ e with launch := none } :: r)
          else ((s.setQueue p c r).discard e).weighHead p c now fuel

/-- A copy enters its queue (R348, R96). Its frame's copies already count it. -/
def State.enqueue (s : State) (p at' : Nat) (e : QEntry) : State :=
  let now := s.portNow p at'
  match e.launch with
  | some l =>
    if s.tooFar l now then s.launchDrop p e now
    else if s.get (FWD_SCHED_QMAX p) ≤ (s.queue p e.cls).length then
      ((s.count (FWD_QDROP p) 1).endDesc e.desc stNO_RESOURCE 0).endCopy e.frame
    else (s.setQueue p e.cls (s.queue p e.cls ++ [e])).weighHead p e.cls now 1
  | none =>
    if s.get (FWD_SCHED_QMAX p) ≤ (s.queue p e.cls).length then
      ((s.count (FWD_QDROP p) 1).endDesc e.desc stNO_RESOURCE 0).endCopy e.frame
    else s.setQueue p e.cls (s.queue p e.cls ++ [e])

/-- The head of queue `c` may start now (R349). -/
def State.eligible (s : State) (p c now : Nat) : Option QEntry :=
  match s.queue p c with
  | [] => none
  | e :: _ =>
    let inTime := match s.gateCloses p c now with
      | some t => decide (now + s.frameNs p e.bytes ≤ t)
      | none => true
    if !s.isPaused p c && bit (s.gateMask p) c && e.launch.isNone && inTime then some e else none

/-- Quantum of a class in bytes (R349). -/
def State.quantum (s : State) (p c : Nat) : Nat := max 1 (bitsOf (s.rd (FWD_WEIGHT p)) (4 * c) 4) * 1536

/-- Deficit round robin from the class whose turn it is (R349): `fresh` where the class has just come to its turn. Answers the
class, the deficits and the turn. -/
def State.drr (s : State) (p now : Nat) (fresh : Bool) (turn : Nat) (def' : List Nat) : Nat → Option (Nat × List Nat × Nat)
  | 0 => none
  | fuel + 1 =>
    let next := (turn + 1) % 8
    if bit (s.get (FWD_SCHED_STRICT p)) turn then s.drr p now true next def' fuel
    else if (s.queue p turn).isEmpty then s.drr p now true next (lput def' turn 0) fuel
    else match s.eligible p turn now with
      | none => s.drr p now true next def' fuel
      | some e =>
        let d := def'.getD turn 0 + (if fresh then s.quantum p turn else 0)
        let n := e.bytes.length + 4
        if n ≤ d then some (turn, lput def' turn (d - n), turn)
        else s.drr p now true next (lput def' turn d) fuel

/-- The class a free transmitter serves (R349): STRICT classes first, highest first, then the round robin. -/
def State.choose (s : State) (p now : Nat) : Option (Nat × List Nat × Nat) :=
  match ([7, 6, 5, 4, 3, 2, 1, 0]).find? fun c => bit (s.get (FWD_SCHED_STRICT p)) c && (s.eligible p c now).isSome with
  | some c => some (c, (s.eg p).deficit, (s.eg p).turn)
  | none => s.drr p now false (s.eg p).turn (s.eg p).deficit 80

/-- The 16-bit words of a byte string added up. -/
def sum16 : List Byte → Nat
  | [] => 0
  | [a] => 256 * a.toNat
  | a :: b :: r => 256 * a.toNat + b.toNat + sum16 r

/-- A PTP timestamp (R82): the low 48 bits of the seconds, then the nanoseconds. -/
def ptpStamp (t : Nat) : List Byte := beBytes 6 (t / 1000000000) ++ beBytes 4 (t % 1000000000)

/-- Where the message begins in a PTP frame of the device's own, which has no tag. -/
def ownPtpAt (b : List Byte) : Nat := if etypeOf b = 0x0800 then 42 else if etypeOf b = 0x86DD then 62 else 14

/-- The transport checksum restored after a change of the message (R95): over IPv4 the UDP checksum is updated by the words that
changed; over IPv6 the 2 bytes after the message take up the change. -/
def restoreCheck (old new : List Byte) : List Byte :=
  let o := ownPtpAt old
  let fix (at' : Nat) : List Byte :=
    let v := (((beAt old at' 2 : Nat) : Int) + sum16 (old.drop o) - sum16 (new.drop o)) % 65535
    patch new at' (beBytes 2 (if v = 0 then 0xFFFF else v.toNat))
  if etypeOf old = 0x0800 then fix 40
  else if etypeOf old = 0x86DD then fix (old.length - 2)
  else new

/-- One-step insertion (R95) as a PTP frame of the device's own leaves at TB1 `ts`: originTimestamp of a Sync; the turnaround since `rx`
into correctionField of a Pdelay_Resp. -/
def oneStep (b : List Byte) (ts rx : Nat) : List Byte :=
  let o := ownPtpAt b
  match beAt b o 1 % 16 with
  | 0 => restoreCheck b (patch b (o + 34) (ptpStamp ts))
  | 3 => restoreCheck b (patch b (o + 8) (beBytes 8 (unsigned 64 (signed 64 (beAt b (o + 8) 8) + 65536 * ((ts : Int) - rx)))))
  | _ => b

/-- The head of queue `c` goes on the wire. -/
def State.startFrame (s : State) (p c at' : Nat) : State :=
  match s.queue p c with
  | [] => s
  | e :: r =>
    let s := s.setQueue p c r
    let b := match e.ptp with
      | some rx => if s.flag (TIM_PORT_PTP_ONE_STEP p) then oneStep e.bytes (s.stampAt p true (s.tb1Ns at')) rx else e.bytes
      | none => e.bytes
    let s := s.setEg p { s.eg p with busy := some { e with bytes := b, start := s.tb1Ns at' } }
    s.weighHead p c (s.portNow p at') (r.length + 1)

/-- The link of a fabric port's Ethernet port is up. -/
def State.linkOf (s : State) (p : Nat) : Bool := bit (s.get PRT_LINK_UP) (s.physPort p)

/-- EGRESS_SELECT (R349): a free transmitter takes the next frame. -/
def execEgressSelect (port atNs : Nat) (s : State) : Host.Outcome State Fault Refusal :=
  .next (if !s.serving then s else
    if (s.eg port).busy.isSome || !s.linkOf port || s.matePort = some port then s
    else match s.choose port (s.portNow port atNs) with
      | none => s
      | some (c, d, t) => (s.setEg port { s.eg port with deficit := d, turn := t }).startFrame port c atNs)

/-- LAUNCH_TIME (R96): the port's time base reaches the launch time of the frame at the head of class `cls`; it is due, and
leaves at once where the transmitter is free and its class neither paused nor gated shut. -/
def execLaunchTime (port cls atNs : Nat) (s : State) : Host.Outcome State Fault Refusal :=
  .next (if !s.serving then s else match s.queue port cls with
    | [] => s
    | e :: r =>
      match e.launch with
      | none => s
      | some l =>
        let now := s.portNow port atNs
        if now < l then (if s.tooFar l now then (s.setQueue port cls r).launchDrop port e now else s)
        else if l < now then s.weighHead port cls now (r.length + 1)
        else
          let s := s.setQueue port cls ({ e with launch := none } :: r)
          if (s.eg port).busy.isNone && s.linkOf port && (s.eligible port cls now).isSome then s.startFrame port cls atNs else s)

/-! ### TB1 steps (R92) -/

/-- Launch times of a port in a stepped time base are weighed again. -/
def State.relaunch (s : State) (p now : Nat) : State :=
  (List.range 8).foldl (fun s c =>
    let q := s.queue p c
    let far := q.filter fun e => match e.launch with | some l => s.tooFar l now | none => false
    let s := if far.isEmpty then s else s.setQueue p c (q.filter fun e => match e.launch with | some l => !s.tooFar l now | none => true)
    (far.foldl (fun s e => s.launchDrop p e now) s).weighHead p c now (q.length + 1)) s

/-- A port on TB1 after a step: its gates hold until the first cycle start not earlier than the new TB1. -/
def State.stepPort (s : State) (at' p : Nat) : State :=
  if s.flag (TIM_PORT_PTP_QBV_BASE p) then s
  else
    let now := s.portNow p at'
    let g := s.gatesOf p
    let s := match g.oper with
      | some l => s.setGates p { g with held := some (l.startFrom now) }
      | none => s
    if (tget s.net.egress p).isSome then s.relaunch p now else s

end Sys2Proof.Machine
end

