-- ==== Sys2Proof/Machine/Ptp.lean ====
section
/-! DEFINITION. The PTP instance of TB1 (R82, R90, R91, R95): its messages, the best master, the delay mechanisms, the servo's
measurements. Message formats, addresses, intervals and attributes are those of IEEE 1588-2019 and IEEE 802.1AS-2020, which R90 names
(PRESUMED, log entry 106). -/

namespace Sys2Proof.Machine

open Sys2Proof

/-! ### Options (R90) -/

/-- The gPTP profile; a profile with peer delay. -/
def State.gptp (s : State) : Bool := s.get TIM_TB1_CFG_PROFILE == 2
def State.peerDelay (s : State) : Bool := s.get TIM_TB1_CFG_PROFILE == 1 || s.gptp

/-- PTP runs on a fabric port (R90, R100). -/
def State.ptpOn (s : State) (p : Nat) : Bool :=
  decide (p < 24) && s.matePort != some p && s.flag (TIM_PORT_PTP_PTP_EN p) && s.get TIM_TB1_CFG_ROLE != 0 &&
  s.get TIM_TB1_CFG_PROFILE != 3 && decide (s.get (TIM_PORT_PTP_TRANSPORT p) < if s.gptp then 1 else 3)

/-- Identity of the clock, and of one of its ports. -/
def State.clockId (s : State) : List Byte := s.routerMac.take 3 ++ [0xFF, 0xFE] ++ s.routerMac.drop 3
def State.portId (s : State) (p : Nat) : List Byte := s.clockId ++ beBytes 2 (p + 1)

def State.ptpPort (s : State) (p : Nat) : PtpPort := tgetD s.tim.ptp.ports p {}
def State.setPtp (s : State) (x : Ptp) : State := s.setTim { s.tim with ptp := x }
def State.setPtpPort (s : State) (p : Nat) (x : PtpPort) : State := s.setPtp { s.tim.ptp with ports := tput s.tim.ptp.ports p x }

/-- Interval of a log2 seconds value, in ns. -/
def logNs (l : Int) : Nat := if 0 ≤ l then 1000000000 * 2 ^ l.toNat else 1000000000 / 2 ^ (-l).toNat

/-- Log2 of the Sync interval, and of the Announce interval. -/
def State.logSync (s : State) : Int := clampI (-7) 1 (signed 4 (s.get TIM_TB1_CFG_LOG_SYNC))
def State.logAnnounce (s : State) : Int := if s.gptp then 0 else 1

/-! ### Frames -/

/-- A message of the device's own: type, flags, sequence number, correction in 2^−16 ns, log interval and what follows the header. -/
def State.ptpMsg (s : State) (p typ flags seq : Nat) (corr log : Int) (body : List Byte) : List Byte :=
  let control := match typ with | 0 => 0 | 1 => 1 | 8 => 2 | 9 => 3 | _ => 5
  beBytes 1 (16 * b2n s.gptp + typ) ++ beBytes 1 0x12 ++ beBytes 2 (34 + body.length) ++ beBytes 1 (s.get TIM_TB1_CFG_DOMAIN) ++ [0] ++
  beBytes 2 flags ++ beBytes 8 (unsigned 64 corr) ++ [0, 0, 0, 0] ++ s.portId p ++ beBytes 2 seq ++ beBytes 1 control ++
  beBytes 1 (unsigned 8 log) ++ body

/-- The Internet checksum of a byte string of even length. -/
def inetCheck (b : List Byte) : Nat := 0xFFFF - (if sum16 b = 0 then 0 else (sum16 b - 1) % 65535 + 1)

/-- The frame that carries a message on a port's TRANSPORT. -/
def State.ptpFrame (s : State) (p : Nat) (msg : List Byte) : List Byte :=
  let typ := beAt msg 0 1 % 16
  let peer := typ == 2 || typ == 3 || typ == 10
  let port := beBytes 2 (if typ < 8 then 319 else 320)
  match s.get (TIM_PORT_PTP_TRANSPORT p) with
  | 0 => (if s.gptp || peer then [0x01, 0x80, 0xC2, 0, 0, 0x0E] else [0x01, 0x1B, 0x19, 0, 0, 0]) ++ s.routerMac ++ [0x88, 0xF7] ++ msg
  | 1 =>
    let n := beBytes 2 (8 + msg.length)
    let dst : List Byte := if peer then [224, 0, 0, 107] else [224, 0, 1, 129]
    let ip : List Byte := [0x45, 0] ++ beBytes 2 (28 + msg.length) ++ [0, 0, 0, 0, 1, 17]
    let c := inetCheck ([0, 0, 0, 0] ++ dst ++ [0, 17] ++ n ++ port ++ port ++ n ++ [0, 0] ++ msg)
    [0x01, 0x00, 0x5E] ++ [dst.getD 1 0, dst.getD 2 0, dst.getD 3 0] ++ s.routerMac ++ [0x08, 0x00] ++
      ip ++ beBytes 2 (inetCheck (ip ++ [0, 0, 0, 0, 0, 0] ++ dst)) ++ [0, 0, 0, 0] ++ dst ++
      port ++ port ++ n ++ beBytes 2 (if c = 0 then 0xFFFF else c) ++ msg
  | _ =>
    let msg := msg ++ [0, 0]
    let n := beBytes 2 (8 + msg.length)
    let src : List Byte := [0xFE, 0x80, 0, 0, 0, 0, 0, 0] ++ beBytes 1 (Nat.xor (beAt s.clockId 0 1) 2) ++ s.clockId.drop 1
    let dst : List Byte := if peer then [0xFF, 0x02, 0, 0, 0, 0, 0, 0, 0, 0, 0, 0, 0, 0, 0, 0x6B]
      else [0xFF, 0x0E, 0, 0, 0, 0, 0, 0, 0, 0, 0, 0, 0, 0, 0x01, 0x81]
    let c := inetCheck (src ++ dst ++ [0, 0] ++ n ++ [0, 0, 0, 17] ++ port ++ port ++ n ++ [0, 0] ++ msg)
    [0x33, 0x33] ++ dst.drop 12 ++ s.routerMac ++ [0x86, 0xDD] ++ [0x60, 0, 0, 0] ++ n ++ [17, 1] ++ src ++ dst ++
      port ++ port ++ n ++ beBytes 2 (if c = 0 then 0xFFFF else c) ++ msg

/-- A frame of the service cores enters the Cistern by port 41 and the queue of an Ethernet port (R21, R311); none where it is not
admitted: the core's job waits (R315). `rx`: TB1 at which the request it answers came. -/
def State.sendPtp (s : State) (p rx : Nat) (msg : List Byte) : Option State :=
  let b := s.ptpFrame p msg
  match s.storeFrame 41 7 b true none with
  | none => none
  | some (s, id) =>
    some ((s.modFrame id fun f => { f with copies := 1 }).enqueue p 0
      { frame := id, size := b.length, cls := 7, bytes := b, ptp := some rx })

/-- An answer is sent, or is lost where it finds no cells. -/
def State.answerPtp (s : State) (p rx : Nat) (msg : List Byte) : State := (s.sendPtp p rx msg).getD s

/-! ### The best master (R90) -/

/-- What the data set comparison goes by, the better master having the lesser list. -/
def PtpMaster.rank (m : PtpMaster) : List Nat :=
  [m.priority1, m.cls, m.accuracy, m.variance, m.priority2, m.gm, m.steps, beNat m.sender, m.port]

/-- Lexicographic order. -/
def lexLt : List Nat → List Nat → Bool
  | a :: r, b :: q => decide (a < b) || (a == b && lexLt r q)
  | [], _ :: _ => true
  | _, [] => false

/-- The device's own data: clockClass from TB0, currentUtcOffset from TIM_UTC_OFFSET; holdover is announced by class 7, and by 52 once it
is expired. -/
def State.ownMaster (s : State) : PtpMaster :=
  let hold := s.flag TIM_STATUS_HOLDOVER
  let good := s.flag TIM_STATUS_TB0_VALID
  { port := 0, sender := s.portId 0, priority1 := if s.gptp then 246 else 128
    cls := if !good then 248 else if !hold then 6 else if s.flag TIM_STATUS_HOLDOVER_EXPIRED then 52 else 7
    accuracy := if good && !hold then 0x21 else 0xFE, variance := if good && !hold then 0x4E5D else 0xFFFF
    priority2 := if s.gptp then 248 else 128, gm := beNat s.clockId, steps := 0
    utcOffset := s.num TIM_UTC_OFFSET % 0x10000
    flags := 0x08 + 0x04 * b2n (s.num TIM_UTC_OFFSET != 0) + 0x30 * b2n (good && !hold)
    timeSource := if good && !hold then 0x20 else 0xA0 }

/-- The best of the masters heard. -/
def State.bestMaster (s : State) : Option PtpMaster :=
  s.tim.ptp.masters.foldl (fun b m => match b with
    | none => some m
    | some x => if lexLt m.rank x.rank then some m else some x) none

/-- The master that the instance follows: none where it is itself the best (R90). -/
def State.parent (s : State) : Option PtpMaster :=
  match s.get TIM_TB1_CFG_ROLE with
  | 1 => s.bestMaster
  | 3 => match s.bestMaster with
    | some m => if lexLt s.ownMaster.rank m.rank then none else some m
    | none => none
  | _ => none

/-- The device announces on a port: as grandmaster, or as a boundary clock on the ports other than its slave port. -/
def State.masterPort (s : State) (p : Nat) : Bool :=
  s.ptpOn p && (s.get TIM_STATUS_TB1_STATE == 3 ||
    (s.get TIM_TB1_CFG_ROLE == 3 && s.get TIM_STATUS_TB1_STATE == 2 && match s.parent with | some m => m.port != p | none => false))

/-- As grandmaster TB1 is TB0 (R81): what lay between is a step (R92). -/
def State.grandmaster (s : State) : State :=
  if s.get TIM_STATUS_TB1_STATE = 3 then s
  else
    let d := -s.tb1Ofs
    let s := s.setTim { s.tim with tb1Slew := 0, backSlew := false, syncs := [] }
    let s := s.setTb1State 3 0
    if d = 0 then s
    else
      let s := (s.moveTb1 d).count TIM_TB1_STEPS 1
      let s := s.record EV_TB1_STEP 0 (lo32 (unsigned 64 d)) (hi32 (unsigned 64 d)) 0
      (List.range 24).foldl (fun s p => s.stepPort 0 p) s

/-- The instance listens, or waits for the Syncs of a new master, at a port. -/
def State.listen (s : State) (p : Nat) : State :=
  (s.setTim { s.tim with syncs := [], tb1Slew := 0, backSlew := false, ptp := { s.tim.ptp with meas := [] } }).setTb1State 1 p

/-- Announce receipt timeout in periods: 3 intervals. -/
def State.announceWait (s : State) : Nat := 3 * logNs s.logAnnounce / 250000

/-- TB1's state follows from its ROLE and the best master; `was` is the master followed so far. In BMCA a unit that hears none listens for
a receipt timeout before it is grandmaster. -/
def State.elect (s : State) (was : Option PtpMaster) : State :=
  match s.get TIM_TB1_CFG_ROLE, s.parent with
  | 0, _ => s.setTb1State 0 0
  | 2, _ => s.grandmaster
  | _, some m =>
    if (s.get TIM_STATUS_TB1_STATE == 1 || s.get TIM_STATUS_TB1_STATE == 2) && (was.map PtpMaster.sender == some m.sender && was.map PtpMaster.port == some m.port) then s
    else s.listen m.port
  | r, none => if r = 3 && (s.bestMaster.isSome || decide (s.announceWait ≤ s.tim.ptp.ticks)) then s.grandmaster else s.listen 0

/-! ### Messages sent -/

/-- The gPTP Follow_Up information TLV. -/
def gptpTlv : List Byte := [0, 3, 0, 28, 0, 0x80, 0xC2, 0, 0, 1] ++ List.replicate 22 0

/-- An Announce of the device: its own data as grandmaster, else its master's, one step further (R90). -/
def State.announceMsg (s : State) (p : Nat) : List Byte :=
  let m := match s.parent with | some m => { m with steps := m.steps + 1 } | none => s.ownMaster
  let tlv := if s.gptp then [0, 8, 0, 8] ++ s.clockId else []
  s.ptpMsg p 11 m.flags (s.ptpPort p).seq 0 s.logAnnounce
    (ptpStamp 0 ++ beBytes 2 m.utcOffset ++ [0] ++ beBytes 1 m.priority1 ++ beBytes 1 m.cls ++ beBytes 1 m.accuracy ++
     beBytes 2 m.variance ++ beBytes 1 m.priority2 ++ beBytes 8 m.gm ++ beBytes 2 m.steps ++ beBytes 1 m.timeSource ++ tlv)

/-- twoStepFlag of a port. -/
def State.twoStep (s : State) (p : Nat) : Nat := if s.flag (TIM_PORT_PTP_ONE_STEP p) then 0 else 0x200

/-- A Sync; the timestamp goes into it as it leaves, or into its Follow_Up. -/
def State.syncMsg (s : State) (p : Nat) : List Byte :=
  s.ptpMsg p 0 (s.twoStep p + 8) (s.ptpPort p).seq 0 s.logSync
    (ptpStamp (s.tb1Ns 0) ++ (if s.gptp && s.flag (TIM_PORT_PTP_ONE_STEP p) then gptpTlv else []))

/-- A message due is sent and its next time set; one that finds no cells waits for the next period. -/
def State.sendDue (s : State) (p : Nat) (msg : List Byte) (next : PtpPort → PtpPort) : State :=
  match s.sendPtp p 0 msg with
  | none => s
  | some s => let x := s.ptpPort p; s.setPtpPort p (next { x with seq := (x.seq + 1) % 0x10000 })

/-- The next time of a message due at `due` with an interval, at time `t`. -/
def nextDue (due iv t : Nat) : Nat := if due + iv ≤ t then t + iv else due + iv

/-- What a port sends in a period (R90). -/
def State.ptpPortEdge (s : State) (p : Nat) : State :=
  if !s.ptpOn p || !s.linkOf p then s
  else
    let t := s.tim.ptp.ticks * 250000
    let s := if s.masterPort p && decide ((s.ptpPort p).annAt ≤ t) then
        s.sendDue p (s.announceMsg p) fun x => { x with annAt := nextDue x.annAt (logNs s.logAnnounce) t } else s
    let s := if s.masterPort p && decide ((s.ptpPort p).syncAt ≤ t) then
        s.sendDue p (s.syncMsg p) fun x => { x with syncAt := nextDue x.syncAt (logNs s.logSync) t } else s
    if s.peerDelay && decide ((s.ptpPort p).peerAt ≤ t) then
      s.sendDue p (s.ptpMsg p 2 0 (s.ptpPort p).seq 0 0 (List.replicate 20 0)) fun x =>
        { x with peerAt := nextDue x.peerAt 1000000000 t }
    else s

/-- A period of the PTP instance: masters no longer heard fall away, its state follows, its ports send (R90). -/
def State.ptpEdge (s : State) : State :=
  if s.get TIM_TB1_CFG_ROLE = 0 then s
  else
    let was := s.parent
    let n := s.tim.ptp.ticks + 1
    let s := s.setPtp { s.tim.ptp with ticks := n, masters := s.tim.ptp.masters.filter fun m => decide (n < m.heardAt + s.announceWait) }
    (List.range 24).foldl State.ptpPortEdge (s.elect was)

/-- A message of the device's own has left at TB1 `ts` (R90, R95): a two-step Sync or Pdelay_Resp has its Follow_Up sent; the instant of a
request is kept for its answer. -/
def State.ptpSent (s : State) (p : Nat) (b : List Byte) (ts : Nat) : State :=
  let m := b.drop (ownPtpAt b)
  let seq := beAt m 30 2
  let two := bit (beAt m 6 1) 1
  match beAt m 0 1 % 16 with
  | 0 => if two then s.answerPtp p 0 (s.ptpMsg p 8 8 seq 0 s.logSync (ptpStamp ts ++ if s.gptp then gptpTlv else [])) else s
  | 1 => s.setPtpPort p { s.ptpPort p with req := some (seq, ts) }
  | 2 => s.setPtpPort p { s.ptpPort p with peerReq := some (seq, ts), peerResp := none }
  | 3 => if two then s.answerPtp p 0 (s.ptpMsg p 10 0 seq 0 0x7F (ptpStamp ts ++ slice m 44 10)) else s
  | _ => s

/-! ### Messages received -/

/-- A 48-bit seconds count extended with the upper 16 bits of TB1's (R82), and its nanoseconds, in ns. -/
def State.extendPtp (s : State) (sec ns at' : Nat) : Nat :=
  (sec % 2 ^ 48 + s.tb1Ns at' / 1000000000 / 2 ^ 48 * 2 ^ 48) * 1000000000 + ns

/-- The timestamp in a message at an offset, in ns. -/
def State.stampIn (s : State) (m : List Byte) (o : Nat) : Nat := s.extendPtp (beAt m o 6) (beAt m (o + 6) 4) 0

/-- correctionField of a message. -/
def corrOf (m : List Byte) : Int := signed 64 (beAt m 8 8)

/-- The Announce of another clock. -/
def announceOf (p now : Nat) (m : List Byte) : PtpMaster :=
  { port := p, sender := slice m 20 10, priority1 := beAt m 47 1, cls := beAt m 48 1, accuracy := beAt m 49 1, variance := beAt m 50 2
    priority2 := beAt m 52 1, gm := beAt m 53 8, steps := beAt m 61 2, utcOffset := beAt m 44 2, flags := beAt m 6 2 % 0x40
    timeSource := beAt m 63 1, heardAt := now }

/-- A Sync measurement is complete: the servo takes it at PTP_SYNC; with the delay mechanism by request, one is sent. -/
def State.measured (s : State) (p sec ns : Nat) (corr : Int) (rx : Nat) : State :=
  let s := s.setPtp { s.tim.ptp with meas := s.tim.ptp.meas ++ [⟨p, sec, ns, corr, rx⟩] }
  let s := s.setPtpPort p { s.ptpPort p with sync := none, fromMaster := (rx : Int) - s.extendPtp sec ns 0 - corr / 65536 }
  if s.peerDelay then s
  else s.sendDue p (s.ptpMsg p 1 0 (s.ptpPort p).seq 0 0x7F (ptpStamp 0)) fun x => { x with req := none }

/-- The sender of a message is the master the instance follows at this port. -/
def State.fromParent (s : State) (p : Nat) (m : List Byte) : Bool :=
  match s.parent with
  | some x => x.port == p && x.sender == slice m 20 10
  | none => false

/-- A PTP message arrives at a port, its timestamp point at TB1 `rx` (R90, R91). -/
def State.ptpMessage (s : State) (p rx : Nat) (m : List Byte) : State :=
  let seq := beAt m 30 2
  let x := s.ptpPort p
  let mine (o : Nat) : Bool := slice m o 10 == s.portId p
  match beAt m 0 1 % 16 with
  | 0 =>
    if !s.fromParent p m then s
    else if bit (beAt m 6 1) 1 then s.setPtpPort p { x with sync := some (seq, rx, corrOf m) }
    else s.measured p (beAt m 34 6) (beAt m 40 4) (corrOf m) rx
  | 8 => match x.sync with
    | some (q, r, c) => if s.fromParent p m && q == seq then s.measured p (beAt m 34 6) (beAt m 40 4) (c + corrOf m) r else s
    | none => s
  | 1 =>
    if !s.masterPort p || s.peerDelay then s
    else s.answerPtp p 0 (s.ptpMsg p 9 0 seq (corrOf m) 0 (ptpStamp rx ++ slice m 20 10))
  | 9 => match x.req with
    | some (q, t) =>
      if s.fromParent p m && q == seq && mine 44 then
        s.setPtpPort p { x with req := none, delay := (x.fromMaster + ((s.stampIn m 34 : Int) - t - corrOf m / 65536)) / 2 }
      else s
    | none => s
  | 2 =>
    if !s.peerDelay then s
    else
      let one := s.flag (TIM_PORT_PTP_ONE_STEP p)
      s.answerPtp p rx (s.ptpMsg p 3 (s.twoStep p) seq (corrOf m) 0x7F ((if one then ptpStamp 0 else ptpStamp rx) ++ slice m 20 10))
  | 3 => match x.peerReq with
    | some (q, t) =>
      if !s.peerDelay || q != seq || !mine 44 then s
      else if bit (beAt m 6 1) 1 then s.setPtpPort p { x with peerResp := some (s.stampIn m 34, rx, corrOf m) }
      else s.setPtpPort p { x with peerReq := none, delay := ((rx : Int) - t - corrOf m / 65536) / 2 }
    | none => s
  | 10 => match x.peerReq, x.peerResp with
    | some (q, t), some (t2, t4, c) =>
      if q != seq || !mine 44 then s
      else
        let d : Int := ((t4 : Int) - t - ((s.stampIn m 34 : Int) - t2) - (c + corrOf m) / 65536) / 2
        s.setPtpPort p { x with peerReq := none, peerResp := none, delay := d }
    | _, _ => s
  | 11 =>
    let a := announceOf p s.tim.ptp.ticks m
    let was := s.parent
    if s.get TIM_TB1_CFG_ROLE = 2 || a.sender.take 8 == s.clockId || decide (255 ≤ a.steps) then s
    else
      let s := s.setPtp { s.tim.ptp with masters := (s.tim.ptp.masters.filter fun y => !(y.port == p && y.sender == a.sender)) ++ [a] }
      s.elect was
  | _ => s

/-- A frame that carries a PTP message reaches the PTP stack (R334): of the instance's transport, version, profile and domain. -/
def State.ptpReceive (s : State) (p rx : Nat) (b : List Byte) : State :=
  let kind := match etypeOf b with | 0x88F7 => 0 | 0x0800 => 1 | _ => 2
  match ptpOf b with
  | none => s
  | some m =>
    if s.ptpOn p && s.get (TIM_PORT_PTP_TRANSPORT p) == kind && beAt m 1 1 % 16 == 2 && beAt m 0 1 / 16 == b2n s.gptp &&
       beAt m 4 1 == s.get TIM_TB1_CFG_DOMAIN then s.ptpMessage p rx m
    else s

/-! ### The servo's measurements -/

/-- TB1 less the master's time by a Sync measurement, in ns (R82, R91): the message's correction and the path delay count. -/
def State.syncOffset (s : State) (m : SyncMeas) (at' : Nat) : Int :=
  (m.rx : Int) - s.extendPtp m.sec m.ns at' - m.corr / 65536 - (s.ptpPort m.port).delay

/-- PTP_SYNC (R91, R92): the oldest Sync measurement reaches TB1's servo. -/
def execPtpSync (atNs : Nat) (s : State) : Host.Outcome State Fault Refusal :=
  .next (if !s.serving then s else match s.tim.ptp.meas with
    | [] => s
    | m :: r =>
      let s := s.setPtp { s.tim.ptp with meas := r }
      if !(s.get TIM_TB1_CFG_ROLE == 1 || s.get TIM_TB1_CFG_ROLE == 3) || !s.flag (TIM_PORT_PTP_PTP_EN m.port) then s
      else match s.ptpServo m.port (s.syncOffset m atNs) with
        | (s, none) => s
        | (s, some _) => (List.range 24).foldl (fun s p => s.stepPort atNs p) s)

end Sys2Proof.Machine
end

