-- ==== Sys2Proof/Machine/EgressEnd.lean ====
section
/-! DEFINITION. The check at egress (R324–R328), FRAME_RX (R351). -/

namespace Sys2Proof.Machine

open Sys2Proof

/-- A copy is stomped: counted and recorded with its cause. -/
def State.noteStomp (s : State) (p ingress cause : Nat) : State := (s.count CIS_STOMP 1).record EV_STOMP 0 p ingress cause

/-- Copies of a frame still queued are dropped on every port (R327, frame record). -/
def State.dropQueued (s : State) (id : Nat) : State :=
  s.net.egress.foldl (fun s x =>
    (List.range 8).foldl (fun s c =>
      let q := s.queue x.1 c
      let gone := q.filter fun e => e.frame == id
      if gone.isEmpty then s
      else gone.foldl (fun s e => (s.endDesc e.desc stMEM_UNCORR 0).endCopy e.frame)
        (s.setQueue x.1 c (q.filter fun e => e.frame != id))) s) s

/-- Copies of a frame that wait for HOST are dropped (R327, frame record). -/
def State.dropHostq (s : State) (id : Nat) : State :=
  (s.net.hostq.filter fun x => x.1 == id).foldl (fun s _ => s.endCopy id)
    (s.setNet { s.net with hostq := s.net.hostq.filter fun x => x.1 != id })

/-- So are those that wait for the radio side or the service cores. -/
def State.dropInner (s : State) (id : Nat) : State :=
  (s.net.inner.filter fun x => x.frame == id).foldl (fun s _ => s.endCopy id)
    (s.setNet { s.net with inner := s.net.inner.filter fun x => x.frame != id })

/-- An uncorrectable error at a place of a frame's cell `k`, read by port `p` (R327). -/
def State.cellError (s : State) (p : Nat) (f : Frame) (k place : Nat) : State :=
  let c := f.cells.getD k 0
  let s := (s.count CIS_UNCORR 1).record EV_CELL_UNCORR 0 c place p
  if place = 0x100 then
    s.modFrame f.id fun f => { f with bad := some 3, broken := some k, badCells := f.badCells ++ [c] }
  else if place = 0x200 then (((s.modFrame f.id fun f => { f with bad := some 3 }).dropQueued f.id).dropHostq f.id).dropInner f.id
  else s.modFrame f.id fun f => { f with badCells := f.badCells ++ [c] }

/-- A read of a frame by port `p` finds a byte changed (R327, R475); answers whether this copy is stomped for it. The Cistern is
memory 0 by bytes, the side store memory 1 by cells. -/
def State.cellRead (s : State) (p : Nat) (f : Frame) (err : CellErr) : State × Bool :=
  let c := f.cells.getD err.cell 0
  let inCell := decide (err.place < 0x100)
  let m := if inCell then 0 else 1
  let (s, bad) := s.checkRead m ((Stored.byte err.d err.chk).found (if inCell then 256 * c + err.place else c))
  match bad with
  | some a => ((s.noteUncorr m a 1).cellError p f err.cell err.place, true)
  | none => (s, false)

/-- Stomp cause of a copy at its last byte (R324): none where the tap's CRC-32C over the bytes read equals the record and the own check is
VERIFIED. -/
def Frame.stompCause (f : Frame) (read : List Byte) (hit : Bool) : Option Nat :=
  if hit then some 3
  else match f.bad with
    | some c => some c
    | none => if !f.verified then some 1 else if crc32c read != f.check then some 2 else none

/-- The 32-byte prefix of FRAME_RX (R351). -/
def Frame.rxPrefix (f : Frame) (reason len : Nat) : List Byte :=
  let t1 := match f.stamps with | some (t, _) => t | none => 0
  let t0 := match f.stamps with | some (_, some t) => t | _ => 0
  leBytes 1 f.ingress ++ leBytes 1 f.cls ++ leBytes 1 reason ++ leBytes 1 (b2n f.stamps.isSome) ++ leBytes 2 f.vlan ++
  leBytes 2 len ++ leBytes 4 (t1 % 1000000000) ++ leBytes 4 (t1 / 1000000000) ++
  leBytes 4 (t0 % 1000000000) ++ leBytes 4 (t0 / 1000000000) ++ leBytes 8 f.arrSn

/-- A frame reaches HOST (R351): it completes the oldest buffer posted on its class's ring, or is dropped and counted. A
stomped one is written with its CELL_CHECK inverted, MEM_UNCORR for cause 3 (R324). -/
def State.hostFrame (s : State) (f : Frame) (reason : Nat) (bytes : List Byte) (cause : Option Nat) : State :=
  let ring := 12 + bitsOf (s.rd FWD_HOST_MAP) (2 * f.cls) 2
  let n := s.rings.due.length
  let (s, ok) := s.deliver ring 0x3010 (bytes.length + 2 ^ 16 * f.ingress)
    (f.rxPrefix reason bytes.length ++ bytes) .status
  if !ok then s.count FWD_HOST_MISS 1
  else match cause with
    | none => s
    | some c =>
      let st := if c = 3 then stMEM_UNCORR else stOK
      s.setRings { s.rings with due := s.rings.due.take n ++ (s.rings.due.drop n).map fun x =>
        if x.status = stOK then { x with stomped := true, status := st } else x }

end Sys2Proof.Machine
end

