-- ==== Sys2Proof/Machine/FleetData.lean ====
section
/-! DEFINITION. The robots (R171, R181) and the IPv6 packets queued for them (R176). -/

namespace Sys2Proof.Machine

open Sys2Proof

/-- An enrolled robot (R181). -/
def State.robot? (s : State) (r : Nat) : Option Robot :=
  match tget s.flt.robots r with
  | some x => if x.gone.isNone then some x else none
  | none => none

/-- A robot's entry replaced by `f` of it. -/
def State.modRobot (s : State) (r : Nat) (f : Robot → Robot) : State :=
  s.setFlt { s.flt with robots := tmod s.flt.robots r f }

/-- A packet leaves fabric port FLEET(p) for a robot (R176). -/
def State.fleetQueueData (s : State) (robot : Nat) (bytes : List Byte) : State :=
  if 1280 < bytes.length || (s.robot? robot).isNone then s.count FLT_DATA_DROP 1
  else s.setFlt { s.flt with data := s.flt.data ++ [⟨robot, s.flt.nextPkt % 65536, 0, bytes⟩], nextPkt := s.flt.nextPkt + 1 }

end Sys2Proof.Machine
end

