-- ==== Sys2Proof/Machine/Forward.lean ====
section
/-! DEFINITION. The forwarding engine (R334–R347): L2 table, cuckoo insertion, VLANs, prefix match, frame decisions. -/

namespace Sys2Proof.Machine

open Sys2Proof

/-! ### Hash tables (R336, R339, R344) -/

/-- Slot of a key in way `w` of a table with `slots` slots per way: hash(w, k) of R336. Slots are numbered way × slots + place. -/
def slotOf (slots w : Nat) (key : List Byte) : Nat := w * slots + crc32c (leBytes 4 w ++ key) % slots

/-- Home slots of a key in way order. -/
def homes (slots : Nat) (key : List Byte) : List Nat := (List.range 4).map fun w => slotOf slots w key

/-- The slot that holds a key. -/
def findSlot {V : Type} (slots : Nat) (keyOf : V → List Byte) (t : Tab V) (key : List Byte) : Option Nat :=
  (homes slots key).find? fun i => match tget t i with | some v => keyOf v == key | none => false

/-- First free other slot of an occupant of slot `i`. -/
def otherFree {V : Type} (slots : Nat) (keyOf : V → List Byte) (t : Tab V) (i : Nat) : Option Nat :=
  match tget t i with
  | none => none
  | some v => (homes slots (keyOf v)).find? fun j => j != i && (tget t j).isNone

/-- Insertion (R339): a free home slot, else one relocation; none where it fails. -/
def cuckoo {V : Type} (slots : Nat) (keyOf : V → List Byte) (t : Tab V) (v : V) : Option (Tab V) :=
  let hs := homes slots (keyOf v)
  match hs.find? fun i => (tget t i).isNone with
  | some i => some (tput t i v)
  | none => match hs.find? fun i => (otherFree slots keyOf t i).isSome with
    | none => none
    | some i => match otherFree slots keyOf t i, tget t i with
      | some j, some o => some (tput (tput t j o) i v)
      | _, _ => none

/-- Key of the L2 table: VLAN ID and MAC (R336). -/
def macKey (vlan : Nat) (mac : List Byte) : List Byte := leBytes 2 vlan ++ mac

/-- Slots per way. -/
abbrev l2Slots : Nat := 16384
abbrev routeSlots : Nat := 32768

/-- Slot of an L2 key. -/
def State.findMac (s : State) (key : List Byte) : Option Nat := findSlot l2Slots L2.key s.net.l2 key

/-- FWD_MAC_USED and FWD_ROUTE_USED. -/
def State.showTables (s : State) : State :=
  (s.put FWD_MAC_USED_N s.net.l2.length).put FWD_ROUTE_USED_N s.net.routes.length

/-- The L2 table replaced. -/
def State.setL2 (s : State) (t : Tab L2) : State := (s.setNet { s.net with l2 := t }).showTables

/-- FWD_NOW. -/
def State.fwdNow (s : State) : Nat := s.get FWD_NOW_S

/-! ### Parity (R343) -/

/-- An entry's parity fails: it is invalidated, counted, recorded and logged. Tables: 1 L2, 2 route, 3 VLAN, 4 gate. -/
def State.parityFail (s : State) (table slot : Nat) : State :=
  let s := match table with
    | 1 => s.setL2 (tdel s.net.l2 slot)
    | 2 => (s.setNet { s.net with routes := tdel s.net.routes slot }).showTables
    | 3 => s.setNet { s.net with vlans := tdel s.net.vlans slot }
    | 4 => s.setGates slot { s.gatesOf slot with broken := true }
    | _ => s
  let s := (s.count FWD_PARITY 1).record EV_TABLE_PARITY 0 table slot 0
  if s.net.parity.length < 64 then s.setNet { s.net with parity := s.net.parity ++ [(table, slot)] } else s

/-- Parity failures that a read finds. -/
def State.parityFails (s : State) (l : List (Nat × Nat)) : State := l.foldl (fun s x => s.parityFail x.1 x.2) s

/-! ### Learning (R337) -/

/-- LEARN_FULL, recorded at most once per 4,000 strokes. -/
def State.learnFull (s : State) (port : Nat) : State :=
  let s := s.count FWD_LEARN_FULL 1
  if (match s.net.learnFullSn with | some x => decide (s.now < x + 4000) | none => false) then s
  else (s.setNet { s.net with learnFullSn := some s.now }).record EV_LEARN_FULL 0 s.net.l2.length port 0

/-- A learn event enters the queue of 1,024. -/
def State.queueLearn (s : State) (key : List Byte) (port : Nat) : State :=
  if 1024 ≤ s.net.learnq.length then s.learnFull port
  else s.setNet { s.net with learnq := s.net.learnq ++ [(key, port)] }

/-- learn(k, p) of R337. -/
def State.learn (s : State) (key : List Byte) (p : Nat) : State :=
  let now := s.fwdNow
  match s.findMac key with
  | some i =>
    match tget s.net.l2 i with
    | none => s
    | some e =>
      if e.port = p then s.setL2 (tput s.net.l2 i { e with ts := now })
      else if e.held then s
      else if e.static then s.count FWD_MOVE_DENIED 1
      else
        let n := (if e.movesAt = now then e.moves else 0) + 1
        let e : L2 := { e with port := p, ts := now, moves := n, movesAt := now }
        let s := s.count FWD_MOVES 1
        if max 1 (s.get FWD_CFG_MOVE_LIMIT) < n then
          let e : L2 := { e with held := true, heldUntil := (now + max 1 (s.get FWD_CFG_MOVE_HOLD_S)) % 65536 }
          (s.setL2 (tput s.net.l2 i e)).record EV_MAC_FLAP 0 (leAt key 2 4) (leAt key 6 2 + 2 ^ 16 * leAt key 0 2) p
        else s.setL2 (tput s.net.l2 i e)
  | none =>
    match cuckoo l2Slots L2.key s.net.l2 { key := key, port := p, static := false, ts := now } with
    | some t => s.setL2 t
    | none => s.learnFull p

/-- LEARN_EVENT (R337): the oldest queued event is applied. -/
def execLearnEvent (s : State) : Host.Outcome State Fault Refusal :=
  .next (if !s.serving then s else match s.net.learnq with
    | [] => s
    | (key, p) :: r => (s.setNet { s.net with learnq := r }).learn key p)

/-- HELD_EXPIRY (R337): HELD clears in entries whose held_until FWD_NOW has reached. -/
def execHeldExpiry (s : State) : Host.Outcome State Fault Refusal :=
  .next (if !s.serving then s else s.setL2 (s.net.l2.map fun (i, e) =>
    (i, if e.held && decide ((s.fwdNow + 65536 - e.heldUntil) % 65536 < 32768) then { e with held := false } else e)))

/-- AGING_SWEEP (R342): entries in `bad` fail their parity; learned entries of age AGE_S or more are removed. -/
def execAgingSweep (bad : List Nat) (s : State) : Host.Outcome State Fault Refusal :=
  .next (if !s.serving then s else
    let s := (bad.filter fun i => (tget s.net.l2 i).isSome).foldl (fun s i => s.parityFail 1 i) s
    let age := s.get FWD_CFG_AGE_S
    let old (e : L2) : Bool := age != 0 && !e.static && decide (age ≤ (s.fwdNow + 65536 - e.ts) % 65536)
    let n := (s.net.l2.filter fun (_, e) => old e).length
    (s.setL2 (s.net.l2.filter fun (_, e) => !old e)).count FWD_AGED n)

/-! ### Classes and VLANs -/

/-- Traffic class of an arriving frame (R335). -/
def State.classOf (s : State) (p : Nat) (b : List Byte) : Nat :=
  match tagOf b with
  | some (pcp, _) => bitsOf (s.rd FWD_PCP_MAP) (3 * pcp) 3
  | none => if p < 24 then s.get (FWD_PORT_DEF_CLASS p) else 0

/-- A VLAN has a member: Ethernet ports 0 to 23, HOST as bit 24. -/
def Vlan.has (v : Vlan) (p : Nat) : Bool := bit v.members (if p = 40 then 24 else p)

/-- Bytes of a frame of VLAN `vid` as a port sends them (R341): untagged for ports in the untagged set, tagged for the others,
with the PCP it came with or its class (log entry 41). -/
def State.tagFor (s : State) (f : Frame) (vid q : Nat) (b : List Byte) : List Byte :=
  let u := untag b
  match tget s.net.vlans vid with
  | some v => if bit v.untagged (if q = 40 then 24 else q) then u else addTag u (f.pcp.getD f.cls) vid
  | none => u

/-- The VLAN of an arriving frame, if it passes R341. A host frame has its descriptor's. -/
def State.vlanOf (s : State) (f : Frame) : Option Nat :=
  let vid := if f.ingress = 40 then f.vlan else match tagOf f.bytes with
    | some (_, 0) => s.get (FWD_PORT_PVID f.ingress)
    | some (_, v) => v
    | none => s.get (FWD_PORT_PVID f.ingress)
  let refused := f.ingress != 40 && (match tagOf f.bytes with
    | some (_, 0) => s.get (FWD_PORT_ACCEPT f.ingress) == 1
    | some _ => s.get (FWD_PORT_ACCEPT f.ingress) == 2
    | none => s.get (FWD_PORT_ACCEPT f.ingress) == 1)
  match tget s.net.vlans vid with
  | some v => if refused || vid = 4095 || !v.has f.ingress then none else some vid
  | none => none

/-! ### Longest prefix match (R344, R345) -/

/-- The first `len` bits of an address, the rest clear. -/
def maskAddr (len : Nat) (a : List Byte) : List Byte :=
  (List.range 16).map fun i =>
    let b := a.getD i 0
    if 8 * i + 8 ≤ len then b else if len ≤ 8 * i then 0 else BitVec.ofNat 8 (b.toNat / 2 ^ (8 - (len - 8 * i)) * 2 ^ (8 - (len - 8 * i)))

/-- Key of the route store: length and masked address. -/
def routeKey (len : Nat) (a : List Byte) : List Byte := leBytes 1 len ++ maskAddr len a

/-- Filter bits of a key of a length. -/
def filterBits (len : Nat) (key : List Byte) : List Nat :=
  (List.range 3).map fun j => len * 16384 + crc32c (leBytes 4 (0x100 + j) ++ key) % 16384

/-- The filter of a length passes an address. -/
def State.filterHit (s : State) (len : Nat) (a : List Byte) : Bool :=
  (filterBits len (routeKey len a)).all fun i => tgetD s.net.filter i 0 != 0

/-- Lengths whose filter passes, longest first. -/
def State.candidates (s : State) (a : List Byte) : List Nat := ((List.range 129).filter fun l => s.filterHit l a).reverse

/-- The route of a length, if it is in the store. -/
def State.probe (s : State) (len : Nat) (a : List Byte) : Option Route :=
  match findSlot routeSlots Route.key s.net.routes (routeKey len a) with
  | some i => tget s.net.routes i
  | none => none

/-- Up to 4 probes of one pass: the entry hit, or the lengths left. -/
def State.probes (s : State) (a : List Byte) : Nat → List Nat → Option Route × List Nat
  | 0, l => (none, l)
  | _, [] => (none, [])
  | n + 1, len :: r => match s.probe len a with
    | some e => (some e, r)
    | none => s.probes a n r

/-- Destination address of an IPv6 packet. -/
def dstOf (pkt : List Byte) : List Byte := slice pkt 24 16

/-- The packet with its hop limit lowered by one. -/
def lowerHop (pkt : List Byte) : List Byte :=
  pkt.set 7 (pkt.getD 7 0 - 1)

/-! ### Addresses (R23–R26) -/

/-- Enterprise prefix as 6 bytes. -/
def State.entPrefix (s : State) : List Byte :=
  (leBytes 2 (s.get FWD_ENT_PREFIX_HI_B)).reverse ++ (leBytes 4 (s.num FWD_ENT_PREFIX_LO)).reverse

/-- Mesh cluster of an address's site and sector bits (R24). -/
def State.clusterOf (s : State) (a : List Byte) : Option Nat :=
  let site := beAt a 6 1 % 16
  let sector := beAt a 7 1 / 16
  let c := beAt a 7 1 % 16
  if site = s.get FWD_SITE_SITE then (if sector = 15 then none else some (16 * sector + c))
  else if s.flag FWD_SITE_SITE2_EN && site = s.get FWD_SITE_SITE2 && sector = 0 then some (240 + c)
  else none

/-- The address lies in the enterprise prefix and region of the pair. -/
def State.ownRegion (s : State) (a : List Byte) : Bool :=
  a.take 6 == s.entPrefix && beAt a 6 1 / 16 == s.get FWD_SITE_REGION

/-- ::1 of a cluster prefix that the device roots or serves (R26): of each enabled cluster, and of all 16 crews of the primary site
(DESIGN CHOICE, log entry 107). -/
def State.ownAddress (s : State) (a : List Byte) : Bool :=
  s.ownRegion a && beAt a 8 8 == 1 &&
  (match s.clusterOf a with
   | some c => s.msh.clusters.any fun x => x.1 == c && x.2.enabled
   | none => beAt a 6 1 % 16 == s.get FWD_SITE_SITE && beAt a 7 1 / 16 == 15)

/-! ### Decisions (R334) -/

/-- Outcome of the engine for a frame. -/
inductive Verdict where
  | drop
  | svc
  /-- copies for Ethernet ports, and for HOST with a reason -/
  | copies (eth : List (Nat × List Byte)) (host : Option (Nat × List Byte))
  | mesh (cluster : Nat) (pkt : List Byte)
  | fleet (robot : Nat) (pkt : List Byte)
  /-- the prefix match needs a further pass -/
  | again (cand : List Nat)
  | notAuthority
  deriving DecidableEq, Repr

/-- Egress of a packet by its route entry (R346, R347). `pkt` has its hop limit lowered already. -/
def State.byRoute (s : State) (f : Frame) (e : Route) (pkt : List Byte) : State × Verdict :=
  match e.kind with
  | 1 => (s, .copies [] (some (3, if 24 ≤ f.ingress && f.ingress < 40 then pkt
      else f.bytes.take (f.bytes.length - pkt.length) ++ pkt)))
  | 2 =>
    if s.matePort = some e.port then (s, .drop)
    else
    let b := e.nhMac ++ s.routerMac ++ [0x86, 0xDD] ++ pkt
    (s, .copies [(e.port, s.tagFor f e.vlan e.port b)] none)
  | 3 =>
    if !s.authority then (s.count FWD_NOT_AUTH 1, .notAuthority)
    else match s.clusterOf (dstOf pkt) with
      | some c => (s, .mesh c pkt)
      | none => (s.count FWD_NO_ROUTE 1, .drop)
  | 4 =>
    if !s.authority then (s.count FWD_NOT_AUTH 1, .notAuthority)
    else
      let iid := beAt (dstOf pkt) 8 8
      if 0x100 ≤ iid && decide (iid < 0x200) && (s.robot? (iid - 0x100)).isSome then (s, .fleet (iid - 0x100) pkt)
      else (s.count FWD_NO_ROUTE 1, .drop)
  | _ => (s.count FWD_NO_ROUTE 1, .drop)

/-- One pass of lpm() (R345), `pass` counting from 1. -/
def State.lpmPass (s : State) (f : Frame) (pkt : List Byte) (cand : List Nat) (pass : Nat) : State × Verdict :=
  match s.probes (dstOf pkt) 4 cand with
  | (some e, _) => s.byRoute f e (lowerHop pkt)
  | (none, []) => (s.count FWD_NO_ROUTE 1, .drop)
  | (none, left) =>
    if max 1 (s.get FWD_CFG_MAX_PASS) ≤ pass then
      let s := s.count FWD_LPM_ABANDON 1
      let s :=
        if (match s.net.abandonSn with | some x => decide (s.now < x + 4000) | none => false) then s
        else (s.setNet { s.net with abandonSn := some s.now }).record EV_LPM_ABANDON 0 (beAt (dstOf pkt) 12 4) pass f.ingress
      (s, .drop)
    else (s.count FWD_LPM_RECIRC 1, .again left)

/-- Routing of a packet (R346). -/
def State.route (s : State) (f : Frame) (pkt : List Byte) : State × Verdict :=
  if beAt pkt 7 1 ≤ 1 then (s.count FWD_TTL_DROP 1, .drop)
  else if beAt pkt 24 1 = 0xFF then (s, .drop)
  else if s.ownAddress (dstOf pkt) then (s, .svc)
  else s.lpmPass f pkt (s.candidates (dstOf pkt)) 1

/-- Flooding in a VLAN (R338). -/
def State.flood (s : State) (f : Frame) (vid : Nat) : State × Verdict :=
  match tget s.net.vlans vid with
  | none => (s, .drop)
  | some v =>
    let ports := (List.range 24).filter fun q => v.has q && q != f.ingress && s.matePort != some q
    let host := if v.has 40 && f.ingress != 40 then some (2, s.tagFor f vid 40 f.bytes) else none
    (s.count FWD_FLOOD 1, .copies (ports.map fun q => (q, s.tagFor f vid q f.bytes)) host)

/-- Bridging (R338). -/
def State.bridge (s : State) (f : Frame) (vid : Nat) : State × Verdict :=
  if beAt f.bytes 0 1 % 2 = 1 then s.flood f vid
  else match s.findMac (macKey vid (f.bytes.take 6)) with
    | none => s.flood f vid
    | some i =>
      let q := match tget s.net.l2 i with | some e => e.port | none => f.ingress
      if q = f.ingress then (s, .drop)
      else if q = 40 then (s, .copies [] (some (1, s.tagFor f vid 40 f.bytes)))
      else if s.matePort = some q then (s, .drop)
      else if q < 24 then (s, .copies [(q, s.tagFor f vid q f.bytes)] none)
      else if q = 41 then (s, .svc)
      else (s, .drop)

/-- FORWARD_DECISION (R334): the first step that gives an outcome. -/
def State.lookup (s : State) (f : Frame) : State × Verdict :=
  if 24 ≤ f.ingress && decide (f.ingress < 40) then s.route f f.bytes
  else if beAt f.bytes 0 5 = 0x0180C20000 && decide (beAt f.bytes 5 1 ≤ 0x0F) then
    if s.flag FWD_CFG_TRAP_LL then (s, .copies [] (some (4, f.bytes))) else (s, .drop)
  else if f.ingress < 24 && s.flag (TIM_PORT_PTP_PTP_EN f.ingress) && isPtp f.bytes then (s, .svc)
  else match s.vlanOf f with
    | none => (s.count FWD_VLAN_DROP 1, .drop)
    | some vid =>
      let s := s.modFrame f.id fun f => { f with vlan := vid }
      let f : Frame := { f with vlan := vid }
      if f.bytes.take 6 == s.routerMac && etypeOf f.bytes == 0x86DD then s.route f (payloadOf f.bytes)
      else s.bridge f vid

/-- The packet of a frame: the payload of an Ethernet or host one, the whole of any other. -/
def Frame.packet (f : Frame) : List Byte := if f.ingress < 24 || f.ingress = 40 then payloadOf f.bytes else f.bytes

/-- The answer to an echo request (PRESUMED RFC 4443, log entry 107): its addresses exchanged, hop limit 64 as it leaves. -/
def echoReply (pkt : List Byte) : Option (List Byte) :=
  if beAt pkt 6 1 = 58 && beAt pkt 40 1 = 128 then
    let n := beAt pkt 4 2
    let src := slice pkt 24 16
    let dst := slice pkt 8 16
    let m : List Byte := slice pkt 44 (n - 4)
    let c := inetCheck (src ++ dst ++ beBytes 4 n ++ [0, 0, 0, 58] ++ [129, 0, 0, 0] ++ m)
    some ([0x60, 0, 0, 0] ++ beBytes 2 n ++ [58, 65] ++ src ++ dst ++ [129, 0] ++ beBytes 2 c ++ m)
  else none

/-- A frame is to be read by a fabric port inside the device (R324). -/
def State.toInner (s : State) (port id : Nat) (use : InnerUse) : State :=
  let s := s.modFrame id fun f => { f with copies := 1 }
  s.setNet { s.net with inner := s.net.inner ++ [⟨port, id, use⟩] }

/-- RF port of a cluster's fabric port MESH(p): that of the first mesh channel of its sequence (DESIGN CHOICE, log entry 121). -/
def State.clusterPort (s : State) (c : Nat) : Nat :=
  let seq := match tget s.msh.clusters c with | some k => k.seq | none => 0
  s.get (MSH_CHAN_PORT (s.get (MSH_HOP_CHAN seq 0)))

/-- RF port of a robot's home channel. -/
def State.robotPort (s : State) (r : Nat) : Nat :=
  match s.robot? r with | some x => s.get (FLT_CHAN_PORT x.home) | none => 0

/-- The outcome is carried out: copies enter their queues, packets for the radio side and frames for the service cores wait to be read,
the rest ends (R311, R345, R348). A host frame's launch time and descriptor go with its first Ethernet copy. -/
def State.place (s : State) (id at' : Nat) (launch : Option Nat) (desc : Option Desc) (tsReq : Bool) : Verdict → State
  | .copies eth host =>
    match s.frame? id with
    | none => s
    | some f =>
      let n := eth.length + b2n host.isSome
      if n = 0 then s.freeFrame id
      else
        let s := s.modFrame id fun f => { f with copies := n }
        let s := (eth.zip (List.range eth.length)).foldl (fun s ((q, b), i) =>
          s.enqueue q at' { frame := id, size := b.length, cls := f.cls, launch := launch, bytes := b,
                            desc := if i = 0 then desc else none, tsReq := tsReq }) s
        match host with
        | some (r, b) => s.setNet { s.net with hostq := s.net.hostq ++ [(id, r, b)] }
        | none => s
  | .mesh c pkt => s.toInner (24 + s.clusterPort c) id (.mesh c pkt)
  | .fleet r pkt => s.toInner (32 + s.robotPort r) id (.fleet r pkt)
  | .again cand => s.setNet { s.net with recirc := s.net.recirc ++ [⟨id, cand, 1, launch, desc⟩] }
  | .drop => s.freeFrame id
  | .svc => s.toInner 41 id .svc
  | .notAuthority => s.freeFrame id

/-- LPM_RECIRCULATE (R345): the oldest recirculated packet makes a further pass; `parity` lists entries found bad. -/
def execLpmRecirculate (parity : List (Nat × Nat)) (atNs : Nat) (s : State) : Host.Outcome State Fault Refusal :=
  .next (if !s.serving then s else match s.net.recirc with
    | [] => s
    | x :: r =>
      let s := (s.setNet { s.net with recirc := r }).parityFails parity
      match s.frame? x.frame with
      | none => s
      | some f =>
        match s.lpmPass f f.packet x.cand (x.pass + 1) with
        | (s, .again left) => s.setNet { s.net with recirc := s.net.recirc ++ [{ x with cand := left, pass := x.pass + 1 }] }
        | (s, v) =>
          let s := s.place x.frame atNs x.launch x.desc (x.desc.isSome) v
          match v with
          | .copies (_ :: _) _ => s
          | .notAuthority => s.endDesc x.desc stNOT_AUTHORITY 0
          | _ => s.endDesc x.desc stOK 0)

/-- A packet of the radio side enters the engine from fabric port `p` (R334 step 4). On a unit without authority it is not
output (R40). -/
def State.ingressPacket (s : State) (p : Nat) (pkt : List Byte) : State :=
  if !s.authority then s
  else match s.storeFrame p 0 pkt true none with
    | none => s.admitDrop p
    | some (s, id) =>
      match s.frame? id with
      | none => s
      | some f =>
        let (s, v) := s.lookup f
        s.place id 0 none none false v

/-! ### Intake of Ethernet frames (R318–R323) -/

/-- A frame may leave before it has fully arrived (R321): its one copy is for an Ethernet port of no higher speed, with its
link up and transmitter free, at the head of an empty queue. -/
def State.siphonPort (s : State) (f : Frame) (v : Verdict) : Option (Nat × List Byte) :=
  match v with
  | .copies [(q, b)] none =>
    let k := s.get (PRT_FIFO_SIPHON f.ingress)
    if k != 0 && decide (k ≤ f.cells.length) && decide (s.get (PRT_CFG_SPEED f.ingress) ≤ s.get (PRT_CFG_SPEED q)) &&
       s.linkOf q && (s.eg q).busy.isNone && (s.queue q f.cls).isEmpty then some (q, b) else none
  | _ => none

/-- OVERSIZE (R326), recorded at most once per 4,000 strokes for the port. -/
def State.noteOversize (s : State) (p len : Nat) : State :=
  let s := s.count (PRT_OVERSIZE p) 1
  if (match tget s.net.overSn p with | some x => decide (s.now < x + 4000) | none => false) then s
  else (s.setNet { s.net with overSn := tput s.net.overSn p s.now }).record EV_OVERSIZE 0 p (min len 65535) 0

/-- FIFO_OVERFLOW (R320), recorded at most once per stroke for the port. -/
def State.noteOverflow (s : State) (p : Nat) : State :=
  let n := tgetD s.net.overflowed p 0 + 1
  let s := (s.count (PRT_FIFO_OVF p) 1).setNet { s.net with overflowed := tput s.net.overflowed p n }
  if n = 1 then s.record EV_FIFO_OVERFLOW 0 p 1 0 else s

/-- What ends a frame badly at intake: its stomp cause, and the state with the count and record of it. -/
def State.intakeFault (s : State) (i : EthIn) (refused : Bool) : State × Option Nat :=
  if refused then (s.admitDrop i.port, some 5)
  else if i.overflow then (s.noteOverflow i.port, some 5)
  else if s.get (PRT_CFG_MAX_FRAME i.port) < i.bytes.length + 4 then (s.noteOversize i.port (i.bytes.length + 4), some 4)
  else if !i.fcsOk || decide (i.bytes.length + 4 < 64) then (s.count (PRT_RX_BAD i.port) 1, some 1)
  else (s, none)

/-- The frame's timestamps (R94): TB1 and TB0 of every frame with TS_ALL, TB1 of PTP event messages with PTP_EN. -/
def State.stampsOf (s : State) (i : EthIn) : Option (Nat × Option Nat) :=
  let t1 := s.stampAt i.port false (s.tb1Ns i.atNs)
  if s.flag (TIM_PORT_PTP_TS_ALL i.port) then some (t1, some (s.stampAt i.port false (s.clockNs i.atNs)))
  else if s.flag (TIM_PORT_PTP_PTP_EN i.port) && isPtpEvent i.bytes then some (t1, none)
  else none

/-- The cells of a received frame: the whole frame where it is admitted, else the part that a siphoned frame holds (R318, R322). -/
def State.storeRx (s : State) (i : EthIn) : Option (State × Nat) :=
  let cls := s.classOf i.port i.bytes
  let pcp := (tagOf i.bytes).map fun x => x.1
  let part := i.bytes.take (256 * s.get (PRT_FIFO_SIPHON i.port))
  let whole := s.storeFrame i.port cls (i.bytes.take (s.get (PRT_CFG_MAX_FRAME i.port) - 4)) false pcp
  if whole.isSome then whole
  else if i.siphon && !part.isEmpty then s.storeFrame i.port cls part false pcp
  else none

/-- A frame whose check is good reaches the PTP stack where it carries PTP (R334; also one that step 1 takes to HOST or drops: log entry
106), is learned from and placed; a siphoned one starts at its egress port at once (R319, R322, R335). -/
def State.rxGood (s : State) (i : EthIn) (id : Nat) (f : Frame) (v : Verdict) : State :=
  let s := s.modFrame id fun f => { f with verified := true }
  let s := match f.stamps with | some (t, _) => s.ptpReceive i.port t i.bytes | none => s.ptpReceive i.port 0 i.bytes
  let vid := ((s.frame? id).getD f).vlan
  let learns := s.flag (FWD_PORT_LEARN i.port) &&
    (match tget s.net.vlans vid with | some x => x.learn | none => false) && (s.vlanOf f).isSome
  let s := if learns then s.queueLearn (macKey vid (slice i.bytes 6 6)) i.port else s
  let t := s.place id i.atNs none none false v
  match if i.siphon then s.siphonPort f v else none with
  | some (q, _) => if (t.eligible q f.cls (t.portNow q i.atNs)).isSome then t.startFrame q f.cls i.atNs else t
  | none => t

/-- A frame whose check is bad is freed; one that is already on its way out of a siphon leaves marked bad (R319, R322). -/
def State.rxBad (s : State) (i : EthIn) (id c : Nat) (f : Frame) (v : Verdict) : State :=
  match if i.siphon then s.siphonPort f v else none with
  | some (q, _) =>
    let s := (s.modFrame id fun f => { f with bad := some c }).place id i.atNs none none false v
    if (s.eligible q f.cls (s.portNow q i.atNs)).isSome then s.startFrame q f.cls i.atNs
    else (s.setQueue q f.cls []).freeFrame id
  | none => s.freeFrame id

/-- ETH_FRAME_RX (R318–R323, R334, R335): a frame enters through its FIFO into cells, is looked up when its first cell stands,
and is placed or freed when its own check is known. -/
def execEthFrameRx (i : EthIn) (s : State) : Host.Outcome State Fault Refusal :=
  .next (
    if !s.serving || 24 ≤ i.port || s.matePort = some i.port || !s.flag (PRT_CFG_ENABLE i.port) || !s.linkOf i.port then s
    else
      let s := s.setFill i.port i.fill
      let cut := i.bytes.take (s.get (PRT_CFG_MAX_FRAME i.port) - 4)
      let fits := (s.storeFrame i.port (s.classOf i.port i.bytes) cut false ((tagOf i.bytes).map fun x => x.1)).isSome
      match s.storeRx i with
      | none => (s.admitDrop i.port).weighPause i.port
      | some (s, id) =>
        let s := s.count (PRT_RX_FRAMES i.port) 1
        let s := (s.modFrame id fun f => { f with stamps := s.stampsOf i }).parityFails i.parity
        match s.frame? id with
        | none => s
        | some f =>
          let (s, v) := s.lookup f
          let (s, fault) := s.intakeFault i (!fits)
          let s := match fault with
            | none => s.rxGood i id f v
            | some c => s.rxBad i id c f v
          s.weighPause i.port)

/-- At a stroke edge: per-stroke counts start afresh, and FWD_NOW counts seconds (R342). -/
def State.forwardEdge (s : State) : State :=
  let s := s.setNet { s.net with refused := [], overflowed := [] }
  if s.sn % 4000 = 0 then s.put FWD_NOW_S (s.fwdNow + 1) else s

end Sys2Proof.Machine
end

