-- ==== Sys2Proof/Machine/Phy.lean ====
section
/-! DEFINITION. The Gwemet PHYs to the bit: GLR and CFL preambles, header words, coded lengths, airtimes (R138–R149). -/

namespace Sys2Proof.Machine

/-- Kind of lane and half-width in 100 kHz of a PHY mode (R132); none for a MODE not in the table. -/
def modeInfo : Nat → Option (Nat × Nat)
  | 0x01 => some (0, 10) | 0x10 => some (0, 1) | 0x11 => some (0, 2) | 0x12 => some (0, 2) | 0x13 => some (0, 2)
  | 0x20 => some (1, 6) | 0x21 => some (1, 4) | 0x22 => some (1, 2) | 0x23 => some (1, 1)
  | 0x30 => some (0, 1) | 0x31 => some (0, 1) | 0x32 => some (0, 1)
  | 0x40 => some (1, 25) | 0x41 => some (1, 50) | 0x42 => some (1, 100)
  | _ => none

/-- CFL modes (R132). -/
def isCfl (mode : Nat) : Bool := mode == 0x40 || mode == 0x41 || mode == 0x42

/-- GLR modes (R132). -/
def isGlr (mode : Nat) : Bool := mode == 0x30 || mode == 0x31 || mode == 0x32

/-- Output bits of a shift register with `n` bits and taps `a`, `b`: each new bit is the exclusive or of the taps (R140,
R146, R147). -/
def lfsrBits (n a b : Nat) : Nat → Nat → List Nat
  | 0, _ => []
  | k + 1, r =>
    let o := (r / 2 ^ a + r / 2 ^ b) % 2
    o :: lfsrBits n a b k ((2 * r + o) % 2 ^ n)

/-- GLR preamble bits p[0..63] (R140). -/
def glrPreamble : List Nat := lfsrBits 6 5 4 63 0x3f ++ [0]

/-- Bits of the STF and LTF generator (R146). -/
def cflTraining (count : Nat) : List Nat := lfsrBits 9 8 4 count 0x1ff

/-- Pilot polarity bits q[m] (R147). -/
def cflPilotBits (count : Nat) : List Nat := lfsrBits 7 6 3 count 0x7f

/-- Scrambler bits of R149. -/
def scramblerBits (count : Nat) : List Nat := lfsrBits 15 14 13 count 0x7fff

/-- One step of the CRC-8 of R141. -/
def crc8Step (h crc i : Nat) : Nat :=
  let fb := (crc / 128 + h / 2 ^ i) % 2
  let c := crc * 2 % 256
  if fb = 1 then Nat.xor c 0x07 else c

/-- CRC-8 of header bits 0 to 23 (R141). -/
def crc8 (h : Nat) : Nat := (List.range 24).foldl (crc8Step h) 0xff

/-- The header word of R141 and R147: mode or MCS, LENGTH, CRC-8. -/
def phyHeader (mode len : Nat) : Nat :=
  let h := mode % 8 + 16 * (len % 4096)
  h + 2 ^ 24 * crc8 h

/-- Fields of a header word. -/
def hdrMode (h : Nat) : Nat := h % 8
def hdrLen (h : Nat) : Nat := h / 16 % 4096

/-- GLR mode belongs to the symbol rate of a channel MODE (R138). -/
def glrModeFits (chan glr : Nat) : Bool :=
  (chan == 0x30 && glr == 0) || (chan == 0x31 && glr == 1) || (chan == 0x32 && decide (2 ≤ glr) && decide (glr ≤ 5))

/-- The receiver keeps a GLR or CFL header (R141, R147): CRC, reserved bits, mode, LENGTH. -/
def hdrOk (chan h : Nat) : Bool :=
  h / 2 ^ 24 % 256 == crc8 (h % 2 ^ 24) && h / 8 % 2 == 0 && h / 2 ^ 16 % 256 == 0 &&
  (if isCfl chan then decide (1 ≤ hdrLen h)
   else glrModeFits chan (hdrMode h) && decide (1 ≤ hdrLen h) && decide (hdrLen h ≤ 2047))

/-- Coded bits of K information bits at rate rn / rd (R149): information bits and the parity of every codeword. -/
def codedBits (k rn rd : Nat) : Nat :=
  if k * rd ≤ 648 * rn then k + 648 * (rd - rn) / rd
  else if k * rd ≤ 1296 * rn then k + 1296 * (rd - rn) / rd
  else
    let cw := (k * rd + 1944 * rn - 1) / (1944 * rn)
    k + cw * (1944 * (rd - rn) / rd)

/-- Bits per subcarrier and code rate of a CFL MCS (R145). -/
def cflMcs : Nat → Nat × Nat × Nat
  | 0 => (1, 1, 2) | 1 => (2, 1, 2) | 2 => (2, 3, 4) | 3 => (4, 1, 2) | 4 => (4, 3, 4) | 5 => (6, 2, 3) | 6 => (6, 3, 4)
  | _ => (6, 5, 6)

/-- Data subcarriers of a CFL mode (R144). -/
def cflData : Nat → Nat
  | 0x40 => 54 | 0x41 => 114 | _ => 234

/-- Data symbols of a CFL frame of `len` bytes (R149). -/
def cflSyms (mode mcs len : Nat) : Nat :=
  let (b, rn, rd) := cflMcs mcs
  let n := cflData mode * b
  (codedBits (8 * len) rn rd + n - 1) / n

/-- Airtime of a CFL frame in ns (R146). -/
def cflNs (mode mcs len : Nat) : Nat := 38400 + 14400 * cflSyms mode mcs len

/-- Bits per symbol, code rate and symbol rate of a GLR mode (R138). -/
def glrInfo : Nat → Nat × Nat × Nat × Nat
  | 0 => (1, 1, 2, 25000) | 1 => (1, 1, 2, 50000) | 2 => (1, 1, 2, 120000) | 3 => (2, 1, 2, 120000)
  | 4 => (2, 3, 4, 120000) | _ => (2, 5, 6, 120000)

/-- Symbols of a GLR frame: preamble, header, data, midambles (R139). -/
def glrSymbols (glr len : Nat) : Nat :=
  let (b, rn, rd, _) := glrInfo glr
  let n := (codedBits (8 * len) rn rd + b - 1) / b
  128 + n + 32 * ((n - 1) / 512)

/-- Airtime of a GLR frame in ns (R138, R139). -/
def glrNs (glr len : Nat) : Nat :=
  let (_, _, _, rate) := glrInfo glr
  glrSymbols glr len * 1000000000 / rate

/-- Airtime of a frame on a channel of a MODE: computed for GLR and CFL; of an IEEE 802.15.4 PHY as given. -/
def airNs (mode mcs len std : Nat) : Nat :=
  if isCfl mode then cflNs mode mcs len else if isGlr mode then glrNs mcs len else std

end Sys2Proof.Machine
end

