-- ==== Sys2Proof/Machine/Wave.lean ====
section
/-! DEFINITION. The transmitted waveforms to the symbol (R139–R149): scrambling and LDPC coding, GLR frames, CFL frames; and the six
clock edges of an I/Q sample (R126). -/

namespace Sys2Proof.Machine

open Sys2Proof

/-! ### I/Q samples (R126) -/

/-- Six clock edges of one complex sample. -/
def iqEdges (i q : Int) : List RfClk :=
  let a := unsigned 12 i
  let b := unsigned 12 q
  [⟨true, a / 256⟩, ⟨true, a / 16 % 16⟩, ⟨true, a % 16⟩, ⟨false, b / 256⟩, ⟨false, b / 16 % 16⟩, ⟨false, b % 16⟩]

/-- The edges from the first rising edge on at which FR is high after FR has been low; edges come in pairs, rising first. -/
def iqAlign : List RfClk → List RfClk
  | [] => []
  | [_] => []
  | a :: b :: r => if a.fr then a :: b :: r else iqAlign r

/-- The samples of the six-edge periods, and how many periods break the FR pattern and are dropped (R126, R127). -/
def iqSamples : List RfClk → List (Int × Int) × Nat
  | a :: b :: c :: d :: e :: f :: r =>
    let (xs, n) := iqSamples r
    if a.fr && b.fr && c.fr && !d.fr && !e.fr && !f.fr then
      ((signed 12 (256 * a.d + 16 * b.d + c.d), signed 12 (256 * d.d + 16 * e.d + f.d)) :: xs, n)
    else (xs, n + 1)
  | _ => ([], 0)

/-! ### Scrambling and coding (R149) -/

/-- Bits of a byte string, least significant bit of byte 0 first. -/
def bitsLsb (bs : List Byte) : List Bool := bs.flatMap fun b => (List.range 8).map b.getLsbD

/-- Codeword length and number of codewords for K information bits at rate rn / rd. -/
def codeSplit (k rn rd : Nat) : Nat × Nat :=
  if k * rd ≤ 648 * rn then (648, 1)
  else if k * rd ≤ 1296 * rn then (1296, 1)
  else (1944, (k * rd + 1944 * rn - 1) / (1944 * rn))

/-- Information bits of codeword `j` of `cw`. -/
def codeShare (k cw j : Nat) : Nat := k / cw + (if j < k % cw then 1 else 0)

/-- The parity bits of a codeword whose information bits are shortened with zeros. -/
def ldpcParity (n rn rd : Nat) (info : List Bool) : List Bool :=
  let full := info ++ List.replicate (n * rn / rd - info.length) false
  (List.range (n * (rd - rn) / rd)).map (Config.ldpcParity n rn rd full)

/-- Codewords `j` on, `m` of them: information bits, then parity; the shortened zeros are not sent. -/
def emitWords (n rn rd k cw : Nat) : Nat → Nat → List Bool → List Bool
  | 0, _, _ => []
  | m + 1, j, u =>
    let info := u.take (codeShare k cw j)
    info ++ ldpcParity n rn rd info ++ emitWords n rn rd k cw m (j + 1) (u.drop (codeShare k cw j))

/-- Bits of a PSDU scrambled, coded, and padded to whole symbols of `per` bits; the scrambler continues in the padding. -/
def codedPsdu (rn rd per : Nat) (psdu : List Byte) : List Bool :=
  let k := 8 * psdu.length
  let (n, cw) := codeSplit k rn rd
  let pad := (per - codedBits k rn rd % per) % per
  let scr := (scramblerBits (k + pad)).map (· == 1)
  let u := (bitsLsb psdu).zipWith xor (scr.take k)
  emitWords n rn rd k cw cw 0 u ++ scr.drop k

/-! ### GLR (R138–R142) -/

/-- Value 1 − 2b. -/
def bpsk (b : Bool) : Sym := ⟨if b then -1 else 1, 0, 1⟩

/-- A symbol times j^n: the rotation of π/2-BPSK (R139). -/
def Sym.rot (x : Sym) (n : Nat) : Sym :=
  match n % 4 with
  | 0 => x
  | 1 => ⟨-x.im, x.re, x.sq⟩
  | 2 => ⟨-x.re, -x.im, x.sq⟩
  | _ => ⟨x.im, -x.re, x.sq⟩

/-- QPSK of GLR: ((1 − 2 b0) + j (1 − 2 b1)) / √2, b0 first (R142). -/
def glrQpsk : List Bool → List Sym
  | a :: b :: r => ⟨if a then -1 else 1, if b then -1 else 1, 2⟩ :: glrQpsk r
  | _ => []

/-- Preamble symbols (R140). -/
def glrPre : List Sym := glrPreamble.map fun p => bpsk (p == 1)

/-- Header symbols: bit h[i mod 32] (R141). -/
def glrHdr (h : Nat) : List Sym := (List.range 64).map fun i => bpsk (bit h (i % 32))

/-- Data symbols with a midamble after every 512 that more follow (R139); each with whether it is π/2-BPSK. -/
def glrBody (rot : Bool) : Nat → List Sym → List (Bool × Sym)
  | 0, _ => []
  | n + 1, xs =>
    let part := (xs.take 512).map fun x => (rot, x)
    if xs.length ≤ 512 then part else part ++ (glrPre.take 32).map (fun x => (true, x)) ++ glrBody rot n (xs.drop 512)

/-- Preamble, header, data and midambles of a GLR frame before the rotation. -/
def glrPlain (glr : Nat) (psdu : List Byte) : List (Bool × Sym) :=
  let (b, rn, rd, _) := glrInfo glr
  let bits := codedPsdu rn rd b psdu
  let data := if b = 1 then bits.map bpsk else glrQpsk bits
  (glrPre ++ glrHdr (phyHeader glr psdu.length)).map (fun x => (true, x)) ++ glrBody (b == 1) (data.length + 1) data

/-- The symbols of a GLR frame: π/2-BPSK symbol n, counted from preamble symbol 0, is multiplied by j^(n mod 4) (R139). -/
def glrFrame (glr : Nat) (psdu : List Byte) : List Sym :=
  (glrPlain glr psdu).zipIdx.map fun (x, n) => if x.1 then x.2.rot n else x.2

/-- The last `m` preamble symbols before symbol 0, n running negative and the rotation continuing (R139); 64 is a multiple of 4. -/
def glrExt (m : Nat) : List Sym := (glrPre.zipIdx.map fun (x, n) => x.rot n).drop (64 - m)

/-! ### CFL (R144–R147) -/

/-- FFT size, sample rate in kS/s, greatest used subcarrier and pilots of a CFL mode (R144). -/
def cflGrid : Nat → Nat × Nat × Nat × List Nat
  | 0x40 => (64, 5000, 29, [7, 21])
  | 0x41 => (128, 10000, 60, [10, 30, 50])
  | _ => (256, 20000, 121, [15, 45, 75, 105])

/-- Used subcarriers of a mode in ascending order; 0 carries nothing. -/
def cflUsed (mode : Nat) : List Int :=
  let (_, _, n, _) := cflGrid mode
  (List.range n).map (fun (i : Nat) => (i : Int) - (n : Int)) ++ (List.range n).map fun (i : Nat) => ((i + 1 : Nat) : Int)

/-- A pilot subcarrier; the highest positive one. -/
def cflIsPilot (mode : Nat) (k : Int) : Bool := (cflGrid mode).2.2.2.contains k.natAbs
def cflTopPilot (mode : Nat) (k : Int) : Bool := k == (((cflGrid mode).2.2.2.getLastD 0 : Nat) : Int)

/-- Data subcarriers, counted d = 0 on in ascending k (R147). -/
def cflDataKs (mode : Nat) : List Int := (cflUsed mode).filter fun k => !cflIsPilot mode k

/-- STF subcarriers: the multiples of 8 in the used range but 0 (R146). -/
def cflStfKs (mode : Nat) : List Int := (cflUsed mode).filter fun k => k % 8 == 0

/-- STF values 2 (1 + j)(1 − 2b), for √8 (1 + j) / √2, and LTF values 1 − 2b, the generator run first over the STF's subcarriers and
then over the LTF's (R146). -/
def cflStf (mode : Nat) : List (Int × Sym) :=
  let ks := cflStfKs mode
  ks.zip ((cflTraining ks.length).map fun b => if b = 1 then ⟨-2, -2, 1⟩ else ⟨2, 2, 1⟩)
def cflLtf (mode : Nat) : List (Int × Sym) :=
  let ks := cflUsed mode
  let n := (cflStfKs mode).length
  ks.zip (((cflTraining (n + ks.length)).drop n).map fun b => bpsk (b == 1))

/-- The level of one axis from its Gray label, first bit first: −(2^n − 1) to 2^n − 1 in steps of 2 (IEEE 802.11-2020 clause 17,
PRESUMED; log entry 109). -/
def grayLevel (bits : List Bool) : Int :=
  let v := bits.foldl (fun (a : Bool × Nat) b => let c := xor a.1 b; (c, 2 * a.2 + b2n c)) (false, 0)
  2 * (v.2 : Int) - (2 ^ bits.length - 1)

/-- The point of a label: BPSK on I alone; else its first half is I and its second Q (R145). -/
def qamPoint (bits : List Bool) : Sym :=
  match bits.length with
  | 1 => ⟨grayLevel bits, 0, 1⟩
  | 2 => ⟨grayLevel (bits.take 1), grayLevel (bits.drop 1), 2⟩
  | 4 => ⟨grayLevel (bits.take 2), grayLevel (bits.drop 2), 10⟩
  | _ => ⟨grayLevel (bits.take 3), grayLevel (bits.drop 3), 42⟩

/-- Value of a pilot in symbol `m`: the polarity 1 − 2q[m], −1 times that on the highest positive pilot (R147). -/
def cflPilot (mode m : Nat) (k : Int) : Sym :=
  let q := (cflPilotBits (m + 1)).getLastD 0 == 1
  bpsk (q != cflTopPilot mode k)

/-- An OFDM symbol: `per` bits on each data subcarrier, d = 0 first, and the pilots. -/
def cflSymbol (mode m per : Nat) (bits : List Bool) : List (Int × Sym) :=
  let ds := cflDataKs mode
  (cflUsed mode).map fun k =>
    (k, if cflIsPilot mode k then cflPilot mode m k
        else qamPoint (((bits.drop (per * ds.findIdx (· == k))).take per)))

/-- The bits of SIG: h[d mod 32] while whole words fit, then 0 (R147). -/
def cflSigBits (mode h : Nat) : List Bool :=
  let n := cflData mode
  (List.range n).map fun d => decide (d < 32 * (n / 32)) && bit h (d % 32)

/-- Successive data symbols from symbol `m` on. -/
def cflSymbols (mode per : Nat) : Nat → Nat → List Bool → List (List (Int × Sym))
  | 0, _, _ => []
  | c + 1, m, bits =>
    let n := cflData mode * per
    cflSymbol mode m per (bits.take n) :: cflSymbols mode per c (m + 1) (bits.drop n)

/-- SIG and the data symbols of a CFL frame. -/
def cflFrame (mode mcs : Nat) (psdu : List Byte) : List (List (Int × Sym)) :=
  let (b, rn, rd) := cflMcs mcs
  let bits := codedPsdu rn rd (cflData mode * b) psdu
  cflSymbol mode 0 1 (cflSigBits mode (phyHeader mcs psdu.length)) :: cflSymbols mode b (cflSyms mode mcs psdu.length) 1 bits

/-! ### Frames -/

/-- A frame that a channel of a MODE can carry (R137, R138, R141, R147): MCS or GLR mode, and length. A SUN OFDM MCS is one that the
standard allows for its option. -/
def frameFits (mode mcs len : Nat) : Bool :=
  if isCfl mode then decide (mcs ≤ 7) && decide (1 ≤ len) && decide (len ≤ 4095)
  else if isGlr mode then glrModeFits mode mcs && decide (1 ≤ len) && decide (len ≤ 2047)
  else if mode = 0x01 then decide (len ≤ 127)
  else if 0x20 ≤ mode then decide (mcs ≤ 6) && Config.ofdmMcs mode mcs && decide (len ≤ 2047)
  else decide (len ≤ 2047)

/-- The waveform of a frame on a channel of a MODE, with a ramp-up of `ramp` ns. -/
def waveOf (mode mcs ramp : Nat) (fec : Bool) (psdu : List Byte) : Wave :=
  if isCfl mode then
    let syms := cflFrame mode mcs psdu
    .cfl (cflStf mode) (cflLtf mode) syms (syms.getLastD [])
  else if isGlr mode then
    let rate := (glrInfo mcs).2.2.2
    .glr rate (glrExt ((ramp * rate + 999999999) / 1000000000)) (glrFrame mcs psdu)
  else .std mcs (fec && decide (0x10 ≤ mode) && decide (mode ≤ 0x13))

end Sys2Proof.Machine
end

