-- ==== Sys2Proof/Machine/PhyRx.lean ====
section
/-! DEFINITION. The receivers of the Gwemet PHYs (R141, R143, R147–R149): the GLR decision-feedback equaliser, the CFL channel estimate,
and decoding. Arithmetic is exact, the manual giving no word lengths; what it leaves to the receiver stands in Config (log entry 84). -/

namespace Sys2Proof.Machine

open Sys2Proof

/-! ### Numbers -/

def Q2.add (x y : Q2) : Q2 := ⟨x.a + y.a, x.b + y.b⟩
def Q2.neg (x : Q2) : Q2 := ⟨-x.a, -x.b⟩
def Q2.mul (x y : Q2) : Q2 := ⟨x.a * y.a + 2 * x.b * y.b, x.a * y.b + x.b * y.a⟩
def Q2.scale (r : Rat) (x : Q2) : Q2 := ⟨r * x.a, r * x.b⟩

/-- 1 / x, and 0 for 0. -/
def Q2.inv (x : Q2) : Q2 := Q2.scale (x.a * x.a - 2 * x.b * x.b)⁻¹ ⟨x.a, -x.b⟩

/-- a + b √2 < 0. -/
def Q2.isNeg (x : Q2) : Bool :=
  if 0 ≤ x.a ∧ 0 ≤ x.b then false
  else if x.a ≤ 0 ∧ x.b ≤ 0 then true
  else if x.a < 0 then decide (2 * x.b * x.b < x.a * x.a) else decide (x.a * x.a < 2 * x.b * x.b)

def C2.add (x y : C2) : C2 := ⟨x.re.add y.re, x.im.add y.im⟩
def C2.sub (x y : C2) : C2 := ⟨x.re.add y.re.neg, x.im.add y.im.neg⟩
def C2.mul (x y : C2) : C2 := ⟨(x.re.mul y.re).add (x.im.mul y.im).neg, (x.re.mul y.im).add (x.im.mul y.re)⟩
def C2.conj (x : C2) : C2 := ⟨x.re, x.im.neg⟩
def C2.scale (r : Q2) (x : C2) : C2 := ⟨r.mul x.re, r.mul x.im⟩
def C2.zero : C2 := ⟨⟨0, 0⟩, ⟨0, 0⟩⟩
def C2.one : C2 := ⟨⟨1, 0⟩, ⟨0, 0⟩⟩
def C2.normSq (x : C2) : Q2 := (x.re.mul x.re).add (x.im.mul x.im)
def C2.ofInts (x : Int × Int) : C2 := ⟨⟨x.1, 0⟩, ⟨x.2, 0⟩⟩

/-- Σ xᵢ yᵢ. -/
def dotC (xs ys : List C2) : C2 := (xs.zipWith C2.mul ys).foldl C2.add C2.zero

/-- A point as a number: 1 / √2 is √2 / 2. -/
def Sym.val (x : Sym) : C2 :=
  if x.sq = 2 then ⟨⟨0, (x.re : Rat) / 2⟩, ⟨0, (x.im : Rat) / 2⟩⟩ else ⟨⟨x.re, 0⟩, ⟨x.im, 0⟩⟩

/-- A number times j^n. -/
def C2.rot (x : C2) (n : Nat) : C2 :=
  match n % 4 with
  | 0 => x
  | 1 => ⟨x.im.neg, x.re⟩
  | 2 => ⟨x.re.neg, x.im.neg⟩
  | _ => ⟨x.im, x.re.neg⟩

/-! ### Decoding (R149) -/

/-- The bytes of bits, least significant first. -/
def bytesLsb : Nat → List Bool → List Byte
  | 0, _ => []
  | n + 1, bs => BitVec.ofNat 8 (((List.range 8).map fun i => b2n (bs.getD i false) * 2 ^ i).sum) :: bytesLsb n (bs.drop 8)

/-- Codewords `j` on, `m` of them, from soft bits: the shortened zeros are put back with full certainty. Answers the information bits
and the iterations. -/
def decodeWords (n rn rd k cw : Nat) : Nat → Nat → List Q2 → List Bool × Nat
  | 0, _, _ => ([], 0)
  | m + 1, j, soft =>
    let kj := codeShare k cw j
    let np := n * (rd - rn) / rd
    let word := (soft.take kj).map some ++ List.replicate (n * rn / rd - kj) none ++ ((soft.drop kj).take np).map some
    let (bits, it) := Config.ldpcDecode n rn rd word
    let (rest, its) := decodeWords n rn rd k cw m (j + 1) (soft.drop (kj + np))
    (((List.range kj).map fun i => bits.getD i false) ++ rest, it + its)

/-- PSDU of `len` bytes from soft bits, descrambled; and the LDPC iterations of its codewords together. -/
def decodePsdu (rn rd len : Nat) (soft : List Q2) : List Byte × Nat :=
  let k := 8 * len
  let (n, cw) := codeSplit k rn rd
  let (bits, it) := decodeWords n rn rd k cw cw 0 soft
  (bytesLsb len (bits.zipWith xor ((scramblerBits k).map (· == 1))), it)

/-! ### The GLR equaliser (R143) -/

/-- What the equaliser is told of a symbol: it is known, or to be decided as π/2-BPSK or QPSK. -/
inductive GlrRole where
  | known (x : Sym)
  | half
  | quad
  deriving DecidableEq, Repr

/-- The equaliser: 16 feed-forward taps at half-symbol spacing, 8 feedback taps, the 8 last decisions newest first, the outputs with
the decisions so far newest first. -/
structure Dfe where
  ff : List C2 := List.replicate 7 C2.zero ++ [C2.one] ++ List.replicate 8 C2.zero
  fb : List C2 := List.replicate 8 C2.zero
  past : List C2 := List.replicate 8 C2.zero
  hist : List (C2 × C2) := []
  deriving DecidableEq, Repr

/-- The samples under the feed-forward taps for symbol `n`: tap i on sample 2n + 7 − i, so that the decision waits for 4 symbols and tap
7 stands on the symbol's own sample. -/
def dfeWindow (ys : List C2) (n : Nat) : List C2 :=
  (List.range 16).map fun i => if i ≤ 2 * n + 7 then ys.getD (2 * n + 7 - i) C2.zero else C2.zero

/-- The decision on an output for symbol `n`. -/
def dfeDecide (role : GlrRole) (n : Nat) (z : C2) : C2 :=
  match role with
  | .known x => (x.rot n).val
  | .half => ((bpsk (z.rot (3 * n)).re.isNeg).rot n).val
  | .quad => Sym.val ⟨if z.re.isNeg then -1 else 1, if z.im.isNeg then -1 else 1, 2⟩

/-- One symbol: output, decision, and normalised LMS with step 2^−4 on known symbols and 2^−6 on decisions. -/
def Dfe.step (q : Dfe) (ys : List C2) (n : Nat) (role : GlrRole) : Dfe :=
  let x := (dfeWindow ys n).map (C2.mul (Config.carrierRotor q.hist))
  let z := (dotC q.ff x).sub (dotC q.fb q.past)
  let d := dfeDecide role n z
  let mu : Rat := match role with | .known _ => 1 / 16 | _ => 1 / 64
  let power := (x ++ q.past).foldl (fun (p : Q2) v => p.add v.normSq) (⟨0, 0⟩ : Q2)
  let g := (d.sub z).scale (power.inv.scale mu)
  { ff := q.ff.zipWith (fun c v => c.add (g.mul v.conj)) x
    fb := q.fb.zipWith (fun c v => c.sub (g.mul v.conj)) q.past
    past := (d :: q.past).take 8
    hist := (z, d) :: q.hist }

/-- Symbols `n` on. -/
def Dfe.run (ys : List C2) : Dfe → Nat → List GlrRole → Dfe
  | q, _, [] => q
  | q, n, r :: rs => Dfe.run ys (q.step ys n r) (n + 1) rs

/-- Preamble and header as the equaliser takes them. -/
def glrHead : List GlrRole := glrPre.map GlrRole.known ++ List.replicate 64 .half

/-- Data symbols with the midambles between them; true where a data symbol stands. -/
def glrRoles (role : GlrRole) : Nat → Nat → List (Bool × GlrRole)
  | 0, _ => []
  | f + 1, n =>
    if n ≤ 512 then List.replicate n (true, role)
    else List.replicate 512 (true, role) ++ (glrPre.take 32).map (fun x => (false, .known x)) ++ glrRoles role f (n - 512)

/-- The output for symbol `n`, its rotation undone. -/
def Dfe.out (q : Dfe) (n : Nat) : C2 := ((q.hist.reverse.getD n (C2.zero, C2.zero)).1).rot (3 * n)

/-- The header word: each bit from its two symbols (R141). -/
def glrHeader (q : Dfe) : Nat :=
  ((List.range 32).map fun i => b2n ((q.out (64 + i)).re.add (q.out (96 + i)).re).isNeg * 2 ^ i).sum

/-- A GLR frame on a channel of a MODE: GLR mode, PSDU and iterations, or none where the header is not accepted (R141). -/
def glrReceive (chan : Nat) (samples : List (Int × Int)) : Option (Nat × List Byte × Nat) :=
  let ys := samples.map C2.ofInts
  let q := Dfe.run ys {} 0 glrHead
  let h := glrHeader q
  if !hdrOk chan h then none
  else
    let (b, rn, rd, _) := glrInfo (hdrMode h)
    let len := hdrLen h
    let n := (codedBits (8 * len) rn rd + b - 1) / b
    let roles := glrRoles (if b = 1 then .half else .quad) (n + 1) n
    let q := Dfe.run ys q 128 (roles.map Prod.snd)
    let zs := (q.hist.reverse.drop 128).zip roles
    let soft := zs.zipIdx.flatMap fun (x, i) =>
      if x.2.1 then Config.softBits b (if b = 1 then x.1.1.rot (3 * (128 + i)) else x.1.1) ⟨1, 0⟩ else []
    let (bytes, it) := decodePsdu rn rd len soft
    some (hdrMode h, bytes, it)

/-! ### The CFL receiver (R148) -/

/-- Channel taps H_k = Y_k / ltf[k], the LTF values being ±1. -/
def cflTaps (mode : Nat) (ltf : List (Int × Int)) : List (Int × C2) :=
  (cflLtf mode).zipWith (fun l y => (l.1, (C2.ofInts y).mul l.2.val)) ltf

/-- Symbol `m`: the data subcarriers in ascending k as equalised points with their weights |H_k|², under the common phase measured on
the pilots: points stand times |P|, whose square comes last. -/
def cflEqualise (mode m : Nat) (taps : List (Int × C2)) (sym : List (Int × Int)) : List (C2 × Q2) × Q2 :=
  let ys := taps.zipWith (fun h y => (h.1, h.2, C2.ofInts y)) sym
  let p := (ys.filter fun y => cflIsPilot mode y.1).foldl
    (fun p y => p.add (y.2.2.mul (y.2.1.mul (cflPilot mode m y.1).val).conj)) C2.zero
  ((ys.filter fun y => !cflIsPilot mode y.1).map fun y =>
    ((((y.2.2.mul p.conj).mul y.2.1.conj).scale y.2.1.normSq.inv), y.2.1.normSq), p.normSq)

/-- The SIG word: each bit from every subcarrier that carries it, weighted by |H_k|²; BPSK sends 1 as +1. -/
def cflSig (mode : Nat) (taps : List (Int × C2)) (sym : List (Int × Int)) : Nat :=
  let zs := (cflEqualise mode 0 taps sym).1
  ((List.range 32).map fun i =>
    let sum := (List.range (cflData mode / 32)).foldl (fun (a : Q2) r => match zs[32 * r + i]? with
      | some (z, w) => a.add (w.mul z.re)
      | none => a) ⟨0, 0⟩
    b2n sum.neg.isNeg * 2 ^ i).sum

/-- A CFL frame on a channel of a MODE: MCS, PSDU and iterations, or none where SIG is not accepted (R147). -/
def cflReceive (mode : Nat) (ltf : List (Int × Int)) (syms : List (List (Int × Int))) : Option (Nat × List Byte × Nat) :=
  let taps := cflTaps mode ltf
  match syms with
  | [] => none
  | sig :: data =>
    let h := cflSig mode taps sig
    if !hdrOk mode h then none
    else
      let (b, rn, rd) := cflMcs (hdrMode h)
      let soft := data.zipIdx.flatMap fun (sym, i) =>
        let (zs, sq) := cflEqualise mode (i + 1) taps sym
        zs.flatMap fun (z, w) => (Config.softBits b z sq).map w.mul
      let (bytes, it) := decodePsdu rn rd (hdrLen h) soft
      some (hdrMode h, bytes, it)

/-- A frame as the receive channel of a MODE takes it from the air: MCS or GLR mode, PSDU, LDPC iterations; none where it is discarded or
is not of that channel. -/
def airReceive (mode : Nat) (fec : Bool) : RxAir → Option (Nat × List Byte × Nat)
  | .std mcs coded bytes =>
    let fsk := decide (0x10 ≤ mode) && decide (mode ≤ 0x13)
    if isCfl mode || isGlr mode || (fsk && coded != fec) || !frameFits mode mcs bytes.length then none else some (mcs, bytes, 0)
  | .glr samples => if isGlr mode then glrReceive mode samples else none
  | .cfl ltf syms => if isCfl mode then cflReceive mode ltf syms else none

end Sys2Proof.Machine
end

