-- ==== Sys2Proof/Machine/Radio.lean ====
section
/-! DEFINITION. The radio (R126–R157): port clocks, demodulator lanes, transmission and pre-emption, the transceiver bus,
calibration. -/

namespace Sys2Proof.Machine

open Sys2Proof

/-- Nominal ns since SN 0 of an instant within a stroke. -/
def absNs (sn ns : Nat) : Nat := sn * 250000 + ns

/-- Ramp time T_R of a port in ns (R152). -/
def State.rampNs (s : State) (p : Nat) : Nat := s.get (RAD_RAMP_CFG_RAMP_US p) * 1000

/-- Spacing of the entries of a ramp-down after a pre-emption, in 1/64 ns: PREEMPT / 64 (R153). -/
def State.preemptStep (s : State) (p : Nat) : Nat := s.get (RAD_RAMP_CFG_PREEMPT p) * 100

/-- TRSW_LEAD and TRSW_LAG of a port in ns (R129, R157). -/
def State.leadNs (s : State) (p : Nat) : Nat := s.get (RAD_PORT_CFG_TRSW_LEAD p) * 250
def State.lagNs (s : State) (p : Nat) : Nat := s.get (RAD_PORT_CFG_TRSW_LAG p) * 250

/-- Start of the ramp-up and end of the ramp-down of a transmission at the antenna (R129, R153). -/
def State.txStart (s : State) (t : Tx) : Nat := absNs t.sn t.ns - s.rampNs t.port
def State.txEnd (s : State) (t : Tx) : Nat :=
  match t.down with
  | some (at', e) => at' + (e * s.preemptStep t.port + 63) / 64
  | none => absNs t.sn t.ns + t.len + s.rampNs t.port

/-! ### Control lines (R129, R152) -/

/-- Level of entry `i` of a port's ramp table. -/
def State.rampLevel (s : State) (p i : Nat) : Nat := s.get (RAD_RAMP_TAB_LEVEL p i)

/-- The lines of a port rise for its first transmission: TRSW, and RXEN on a half-duplex port, then PAEN and the ramp. -/
def State.upSteps (s : State) (t : Tx) : List RfStep :=
  let t64 := 64 * s.txStart t
  let sw := t64 - 64 * s.leadNs t.port
  (if s.flag (RAD_PORT_CFG_DUPLEX t.port) then [] else [⟨sw, .rxen, s.paLevel t.port false⟩]) ++
  [⟨sw, .trsw, s.trLevel t.port true⟩, ⟨t64, .paen, s.paLevel t.port true⟩] ++
  (List.range 64).map fun i => ⟨t64 + i * s.rampNs t.port, .ramp, s.rampLevel t.port i⟩

/-- The ramp-down of a transmission: instants in 1/64 ns, with entries from the one in force down to 0; after it the instant at which
the last has stood. -/
def State.downLevels (s : State) (t : Tx) : List (Nat × Nat) × Nat :=
  match t.down with
  | some (at', e) =>
    ((List.range (e + 1)).map (fun i => (64 * at' + i * s.preemptStep t.port, s.rampLevel t.port (e - i))),
     64 * at' + e * s.preemptStep t.port)
  | none =>
    let t1 := 64 * (absNs t.sn t.ns + t.len)
    ((List.range 64).map (fun i => (t1 + i * s.rampNs t.port, s.rampLevel t.port (63 - i))), t1 + 64 * s.rampNs t.port)

/-- The lines of a port fall with its last transmission: the ramp, PAEN, RAMP at rest, then TRSW and RXEN. After a pre-emption PAEN
goes inactive at entry 0 (R153). -/
def State.downSteps (s : State) (t : Tx) : List RfStep :=
  let (xs, z) := s.downLevels t
  let back := z + 64 * s.lagNs t.port
  xs.map (fun x => ⟨x.1, .ramp, x.2⟩) ++ [⟨z, .paen, s.paLevel t.port false⟩, ⟨z, .ramp, 0⟩] ++
  [⟨back, .trsw, s.trLevel t.port false⟩] ++
  if s.flag (RAD_PORT_CFG_DUPLEX t.port) then [] else [⟨back, .rxen, s.paLevel t.port true⟩]

/-- On a half-duplex port receive samples stay discarded to TRSW_LAG after a transmission's end (R130). -/
def State.noteBlank (s : State) (t : Tx) : State :=
  if s.flag (RAD_PORT_CFG_DUPLEX t.port) then s
  else
    let e := s.txEnd t + s.lagNs t.port
    s.setRad { s.rad with blankTo := tput s.rad.blankTo t.port (max e ((tget s.rad.blankTo t.port).getD 0)) }

/-- Of two transmissions the one that ends later. -/
def State.lastTx (s : State) (a b : Tx) : Tx := if s.txEnd a < s.txEnd b then b else a

/-- Transmissions whose ramp-down is over by an instant leave the port lines (R129); with a port's last one the lines fall. Those of a
pre-empted port have fallen already. -/
def State.sweepTx (s : State) (by' : Nat) : State :=
  let gone := s.rad.tx.filter fun t => t.onAir && decide (s.txEnd t ≤ by')
  if gone.isEmpty then s
  else
    let s := (s.setRad { s.rad with tx := s.rad.tx.filter fun t => !(t.onAir && decide (s.txEnd t ≤ by')) }).showTx
    let s := gone.foldl State.noteBlank s
    let fall (s : State) (p : Nat) : State :=
      if s.rad.tx.any fun t => t.onAir && t.port == p then s
      else match gone.filter fun t => t.port == p with
        | [] => s
        | t :: r =>
          let u := r.foldl s.lastTx t
          if u.down.isSome then s else s.emit (.rf p false (s.downSteps u))
    (List.range 8).foldl fall s

/-- RAD_LANE_USE shows the lanes running a frame. -/
def State.showLanes (s : State) : State :=
  (s.put RAD_LANE_USE_NB (s.rad.lanes.filter fun l => l.kind == 0).length).put RAD_LANE_USE_OFDM
    (s.rad.lanes.filter fun l => l.kind == 1).length

/-- Drop every frame in reception on a port (R127, R130); answers how many. -/
def State.dropRx (s : State) (p : Nat) : State × Nat :=
  let n := (s.rad.lanes.filter fun l => l.port == p).length
  ((s.setRad { s.rad with lanes := s.rad.lanes.filter fun l => l.port != p }).showLanes, n)

/-- Measured deviations in ppb of consecutive strokes all lie beyond a limit, or all within it, for 40 strokes (R102, R127). -/
def clockBad (lim : Nat) (devs : List Int) : Bool := decide (40 ≤ devs.length) && devs.all fun d => decide (lim < absI d)
def clockGood (lim : Nat) (devs : List Int) : Bool := decide (40 ≤ devs.length) && devs.all fun d => decide (absI d ≤ lim)

/-- RF_CLOCK_LOST (R127): the deviations of the last strokes in ppb, oldest first, lie beyond 2 ppm for 40 of them: receive channels
stop, frames in reception are dropped, the transmitter stops at once. -/
def execRfClockLost (port : Nat) (devs : List Int) (s : State) : Host.Outcome State Fault Refusal :=
  .next (if !s.serving || !clockBad 2000 devs then s else
    let s := (s.dropRx port).1
    let s := s.cutTx fun t => t.onAir && t.port == port
    let s := s.put (RAD_PORT_STAT_CLK_OK port) 0
    let s := s.put RAD_STATUS_CLK_OK (clearBit (s.get RAD_STATUS_CLK_OK) port)
    s.record EV_RF_CLOCK_LOST 0 port (sat32 (devs.getLastD 0)) 0)

/-- RF_CLOCK_OK (R127): after 40 strokes within 2 ppm the port restarts. -/
def execRfClockOk (port : Nat) (devs : List Int) (s : State) : Host.Outcome State Fault Refusal :=
  .next (if !s.serving || !clockGood 2000 devs then s else
    let s := s.put (RAD_PORT_STAT_CLK_OK port) 1
    s.put RAD_STATUS_CLK_OK (setBit (s.get RAD_STATUS_CLK_OK) port))

/-- Enabled CFL receive channels, in port and channel order: each holds an OFDM lane of its own (R134). -/
def State.cflRx (s : State) : List (Nat × Nat) :=
  (List.range 8).flatMap fun p => ((List.range 32).filter fun j =>
    s.get (RAD_RX_CFG_ENABLE p j) == 1 && isCfl (s.get (RAD_RX_CFG_MODE p j))).map fun j => (p, j)

/-- Lowest free lane of a kind; the first OFDM lanes belong to the CFL receive channels (R134). -/
def State.freeLane (s : State) (kind : Nat) : Option Nat :=
  let first := if kind = 1 then s.cflRx.length else 0
  let count := if kind = 1 then 16 else 64
  (List.range count).find? fun n => decide (first ≤ n) && !(s.rad.lanes.any fun l => l.kind == kind && l.num == n)

/-- Receive samples of a half-duplex port are discarded at an instant: from TRSW_LEAD before the ramp-up of a transmission to TRSW_LAG
after the end of its ramp-down (R130). -/
def State.blanked (s : State) (p now : Nat) : Bool :=
  !s.flag (RAD_PORT_CFG_DUPLEX p) &&
  ((match tget s.rad.blankTo p with | some e => decide (now ≤ e) | none => false) ||
   s.rad.tx.any fun t => t.port == p && decide (s.txStart t - s.leadNs p ≤ now) && decide (now ≤ s.txEnd t + s.lagNs p))

/-- A frame is lost for want of a lane (R134). -/
def State.missLane (s : State) (kind : Nat) : State :=
  if kind = 0 then (s.count RAD_LANE_MISS_NB 1).setRad { s.rad with missNb := s.rad.missNb + 1 }
  else (s.count RAD_LANE_MISS_OF 1).setRad { s.rad with missOf := s.rad.missOf + 1 }

/-- LANE_EXHAUSTED (R134, R156): at the end of a stroke, once for each lane kind that was missed in it, with the number of misses. -/
def State.laneEdge (s : State) : State :=
  let nb := s.rad.missNb
  let of' := s.rad.missOf
  let s := s.setRad { s.rad with missNb := 0, missOf := 0 }
  let s := if nb = 0 then s else s.record EV_LANE_EXHAUSTED 0 0 nb 0
  if of' = 0 then s else s.record EV_LANE_EXHAUSTED 0 1 of' 0

/-- PREAMBLE_DETECT (R134) at `ns` of the stroke: a lane is assigned, or the miss is counted. -/
def execPreambleDetect (port ch ns : Nat) (s : State) : Host.Outcome State Fault Refusal :=
  .next (if !s.serving then s else
    let mode := s.get (RAD_RX_CFG_MODE port ch)
    if s.get (RAD_RX_CFG_ENABLE port ch) = 0 || s.get (RAD_PORT_CFG_ENABLE port) = 0 ||
       s.get (RAD_PORT_STAT_CLK_OK port) = 0 || s.blanked port (absNs s.sn ns) ||
       s.rad.lanes.any (fun l => l.port == port && l.ch == ch) then s
    else match modeInfo mode with
      | none => s
      | some (kind, _) =>
        let own := (s.cflRx.findIdx? fun c => c == (port, ch)).map fun i => (i, true)
        match own.orElse fun _ => (s.freeLane kind).map fun n => (n, false) with
        | some (n, r) => (s.setRad { s.rad with lanes := s.rad.lanes ++ [⟨kind, n, port, ch, r⟩] }).showLanes
        | none => s.missLane kind)

/-- Transmit requests may reach the air in this state (R154): OPERATE, or an ALL stop frame of a unit in PRIMING (R252). A unit
without authority starts nothing but stop frames (R136, R363). -/
def State.txAllowed (s : State) (o : TxOwner) : Bool :=
  s.dev.lets o && (o.isStop || s.role == .unpaired || s.role == .primary)

/-- A frame is refused: counted, recorded and reported to its MAC (R151). -/
def State.refuseTx (s : State) (o : TxOwner) (port ch sn : Nat) : State :=
  ((s.reportTx o .refused).count RAD_TX_REFUSED 1).record EV_TX_REFUSED 0 (256 * port + ch) sn 0

/-- Two transmissions on one transmit channel overlap, ramps included. -/
def State.txOverlap (s : State) (a b : Tx) : Bool :=
  a.port == b.port && a.ch == b.ch && decide (s.txStart a < s.txEnd b) && decide (s.txStart b < s.txEnd a)

/-- Is the transmission a stop frame? -/
def Tx.isStop (t : Tx) : Bool := t.owner.isStop

/-- Entry of the ramp table in force at an instant of a transmission (R152). -/
def State.rampEntry (s : State) (t : Tx) (now : Nat) : Nat :=
  let tr := s.rampNs t.port
  let t0 := absNs t.sn t.ns
  if tr = 0 then 63
  else if now < t0 then (now - (t0 - tr)) * 64 / tr
  else if now < t0 + t.len then 63
  else 63 - (now - (t0 + t.len)) * 64 / tr

/-- Transmissions on air begin the ramp-down of a pre-emption at `now`, from the entry then in force; each is reported to its MAC and
counted (R153). -/
def State.rampDown (s : State) (now : Nat) (hit : List Tx) : State :=
  let down (t : Tx) : Tx := { t with down := some (now, s.rampEntry t now) }
  let s := (s.setRad { s.rad with
      tx := s.rad.tx.map fun t => if hit.any fun h => h.id == t.id then down t else t }).showTx
  let s := hit.foldl (fun s t => (s.reportTx t.owner .preempted).emit (.airDown t.port t.ch (s.downLevels (down t)).1)) s
  s.count RAD_TX_PREEMPTED hit.length

/-- Pre-empt a port (R153): every transmission on it ramps down, and with them its control lines. -/
def State.preemptPort (s : State) (now port : Nat) : State :=
  let s := s.sweepTx now
  match s.rad.tx.filter fun t => t.onAir && t.port == port && t.down.isNone with
  | [] => s
  | t :: r =>
    let entry := s.rampEntry t now
    let s := s.rampDown now (t :: r)
    let s := s.emit (.rf port false (s.downSteps { t with down := some (now, entry) }))
    s.record EV_TX_PREEMPTED 0 port (r.length + 1) entry

/-- A stop frame takes precedence (R151): the transmissions it overlaps are pre-empted, or refused when not yet on air. -/
def State.displace (s : State) (t : Tx) (now : Nat) : State :=
  let laps := s.rad.tx.filter fun u => s.txOverlap t u && !u.isStop && u.down.isNone
  let s := (laps.filter fun u => !u.onAir).foldl (fun s u => s.refuseTx u.owner u.port u.ch u.sn) s
  let air := laps.filter Tx.onAir
  let s := s.setRad { s.rad with tx := (s.rad.tx.filter fun u => u.onAir || !(laps.any fun v => v.id == u.id)) ++ [t] }
  air.foldl (fun s u => (s.rampDown now [u]).record EV_TX_PREEMPTED 0 u.port 1 (s.rampEntry u now)) s

/-- A MAC hands the radio a frame for a transmit channel with a launch time; the request reaches the radio at `now` (R151).
A late request is refused; so is one whose ramp-up overlaps a frame scheduled or on air, except that a stop frame takes
precedence; so is one that the channel's PHY does not send (R137, R138) or for a channel or port that does not run (log entry 111). -/
def State.txRequest (s : State) (o : TxOwner) (port ch sn ns mcs std now : Nat) (bytes : List Byte) : State :=
  let s := s.sweepTx now
  let mode := s.get (RAD_TX_CFG_MODE port ch)
  let t : Tx := { id := s.rad.nextTx, owner := o, port := port, ch := ch, sn := sn, ns := ns,
                  len := airNs mode mcs bytes.length std, mcs := mcs, bytes := bytes }
  let s := s.setRad { s.rad with nextTx := s.rad.nextTx + 1 }
  let late := decide (s.txStart t - s.get (RAD_PORT_LAT_TX port) < now)
  if !s.txAllowed o || !s.flag (RAD_TX_CFG_ENABLE port ch) || !s.flag (RAD_PORT_CFG_ENABLE port) ||
     !frameFits mode mcs bytes.length || late then s.refuseTx o port ch sn
  else
    let laps := s.rad.tx.filter fun u => s.txOverlap t u
    if laps.isEmpty then s.setRad { s.rad with tx := s.rad.tx ++ [t] }
    else if t.isStop && !(laps.any fun u => u.isStop && u.down.isNone) then s.displace t now
    else s.refuseTx o port ch sn

/-- TX_REQUEST (R151). -/
def execTxRequest (owner : TxOwner) (port ch sn ns mcs std atNs : Nat) (bytes : List Byte) (s : State) :
    Host.Outcome State Fault Refusal :=
  .next (if !s.serving then s else s.txRequest owner port ch sn ns mcs std (absNs s.sn atNs) bytes)

/-- What goes on air for a transmission: the envelope's levels multiply the samples by level / 1,023 over the ramp-up (R152). -/
def State.formOf (s : State) (t : Tx) : AirForm :=
  let ramp := s.rampNs t.port
  { mcs := t.mcs, ofs := (s.rd (RAD_TX_OFS t.port t.ch)).toInt, inv := s.flag (RAD_PORT_CFG_TX_INV t.port)
    atten := s.get (RAD_TX_CFG_ATTEN t.port t.ch), rampNs := ramp, levels := (List.range 64).map (s.rampLevel t.port)
    wave := waveOf (s.get (RAD_TX_CFG_MODE t.port t.ch)) t.mcs ramp (s.flag (RAD_TX_CFG_FEC t.port t.ch)) t.bytes }

/-- A transmission is on air with its header word and waveform; on a half-duplex port frames in reception are dropped and counted
(R130). -/
def State.airs (s : State) (t : Tx) : State :=
  let s := s.showTx
  let s :=
    if s.get (RAD_PORT_CFG_DUPLEX t.port) = 0 then
      let (s, n) := s.dropRx t.port
      s.count RAD_RX_BLANKED n
    else s
  let mode := s.get (RAD_TX_CFG_MODE t.port t.ch)
  s.emit (.air t.port t.ch t.sn t.ns t.owner (if isCfl mode || isGlr mode then phyHeader t.mcs t.bytes.length else 0) t.bytes
    (s.formOf t))

/-- Clipped samples of a port's transmit composite are counted (R151; log entry 98). -/
def State.clipTx (s : State) (p n : Nat) : State := s.setRad { s.rad with txClips := lmod s.rad.txClips p (· + n) }

/-- The analog ramp runs when a port's first channel becomes active (R151): the lines rise unless one is on air. -/
def State.raiseLines (s : State) (t : Tx) : State :=
  if s.rad.tx.any fun u => u.onAir && u.port == t.port && u.id != t.id && u.down.isNone then s
  else s.emit (.rf t.port false (s.upSteps t))

/-- TX_LAUNCH (R129): the transmission is on air, and of its port's composite `clips` samples were clipped. A port without its clock
sends nothing (R127). -/
def execTxLaunch (id clips : Nat) (s : State) : Host.Outcome State Fault Refusal :=
  .next (if !s.serving then s else match s.rad.tx.find? fun t => t.id == id && !t.onAir with
    | none => s
    | some t =>
      if s.get (RAD_PORT_STAT_CLK_OK t.port) = 0 || !s.txAllowed t.owner then
        s.setRad { s.rad with tx := s.rad.tx.filter fun u => u.id != id }
      else
        let s := (s.sweepTx (s.txStart t)).clipTx t.port clips
        ((s.setRad { s.rad with tx := s.rad.tx.map fun u => if u.id = id then { u with onAir := true } else u }).airs t).raiseLines t)

/-- At a stroke edge the transmissions that have ramped down leave the port lines (R129). -/
def State.endTx (s : State) : State := (s.sweepTx (absNs s.sn 0)).laneEdge

/-! ### Buses -/

/-- A write to an SPI control register (R104, R131): ignored while busy; otherwise the fields are set and GO starts a
transfer. -/
def spiWrite (old : Word) (value : Word) (sel : Bool) : Word :=
  if bitsOf old 15 1 = 1 then old
  else
    let w : Word := 0
    let w := if sel then withBits w 0 2 (bitsOf value 0 2) else w
    let w := withBits w 2 6 (clampN 0 32 (bitsOf value 2 6))
    let w := withBits w 8 6 (clampN 0 32 (bitsOf value 8 6))
    let w := withBits w 15 1 (bitsOf value 15 1)
    withBits w 16 8 (clampN 4 255 (bitsOf value 16 8))

/-- A data register after a transfer (R104, R131): WBITS bits have left it, most significant first, and RBITS bits have been
shifted into its low end (log entry 99). -/
def spiShift (old wbits rbits bits : Nat) : Nat := old * 2 ^ (wbits + rbits) + bits % 2 ^ rbits

/-- The bits that leave in a transfer: the data register from bit 31 downward, WBITS of them (R104). -/
def spiOut (data wbits : Nat) : Nat := data / 2 ^ (32 - wbits)

/-- RF_SPI_TRANSFER (R131): writing GO in RAD_SPI_CTRL_n runs a transfer; WBITS bits leave on RFn_SDIO. -/
def execRfSpiTransfer (port : Nat) (value : Word) (s : State) : Host.Outcome State Fault Refusal :=
  .next (if !s.mainLive then s else
    let busy := s.flag (RAD_SPI_CTRL_GO port)
    let s := s.wr (RAD_SPI_CTRL port) (spiWrite (s.rd (RAD_SPI_CTRL port)) value false)
    let n := s.get (RAD_SPI_CTRL_WBITS port)
    if busy || !s.flag (RAD_SPI_CTRL_GO port) then s else s.emit (.spi true port n (spiOut (s.num (RAD_SPI_DATA port)) n)))

/-- RF_SPI_DONE (R131): GO clears and the bits read stand in the low end of RAD_SPI_DATA_n. -/
def execRfSpiDone (port bits : Nat) (s : State) : Host.Outcome State Fault Refusal :=
  .next (if !s.serving then s else
    if s.get (RAD_SPI_CTRL_GO port) = 0 then s
    else (s.put (RAD_SPI_CTRL_GO port) 0).setNum (RAD_SPI_DATA port)
      (spiShift (s.num (RAD_SPI_DATA port)) (s.get (RAD_SPI_CTRL_WBITS port)) (s.get (RAD_SPI_CTRL_RBITS port)) bits))

/-! ### Calibration (R155) -/

/-- CAL_START: START in SETUP or QUIET while not BUSY begins calibration of PORT; otherwise it is ignored. -/
def execCalStart (value : Word) (s : State) : Host.Outcome State Fault Refusal :=
  .next (
    if bitsOf value 8 1 = 1 && (s.dev == .setup || s.dev == .quiet) && s.get RAD_CAL_STAT_BUSY == 0 then
      let s := (s.setNum RAD_CAL_STAT 1).put RAD_STATUS_CAL 1
      s.setRad { s.rad with calPort := some (bitsOf value 0 3) }
    else s)

/-- CAL_DONE: the corrections measured are written; image rejection below 40 dB is FAIL. -/
def execCalDone (rejection leak : Nat) (txCorr txDc rxCorr : Word) (s : State) : Host.Outcome State Fault Refusal :=
  .next (if !s.serving then s else match s.rad.calPort with
    | none => s
    | some p =>
      let s := ((s.wr (RAD_TX_CORR p) txCorr).wr (RAD_TX_DC p) txDc).wr (RAD_RX_CORR p) rxCorr
      let s := s.setRad { s.rad with calPort := none }
      let s := (s.put RAD_STATUS_CAL 0).setNum RAD_CAL_STAT 0
      let s := (s.put RAD_CAL_STAT_REJECT (clampN 0 255 (rejection / 10))).put RAD_CAL_STAT_LEAK (clampN 0 255 (leak / 10))
      if rejection < 400 then (s.put RAD_CAL_STAT_FAIL 1).record EV_CAL_FAILED 0 p rejection 0
      else (s.put RAD_CAL_STAT_DONE 1).record EV_CAL_DONE 0 p rejection leak)

end Sys2Proof.Machine
end

