-- ==== Sys2Proof/Machine/KeySched.lean ====
section
/-! DEFINITION. Reading the key schedule (R385–R387, R394). -/

namespace Sys2Proof.Machine

open Sys2Proof

/-- A generation of a branch, cluster or node is dead as derived from a slot (R394). -/
def State.keyDead (s : State) (code index gen slot : Nat) : Bool := s.key.dead.contains ⟨code, index, gen, slot⟩

/-! ### The class S store (R392)

Logical entries: 0 ROOT, 1 IMAGE, 2 ATTEST, 3 IMPORT, 4 and 5 the SITE of slots A and B, 6 to 9 and 10 to 13 their branches MESH,
FLEET, STOP_BR and LOG_BR (log entry 49). -/

/-- Bytes under a mask. -/
def maskBytes (bs mask : List Byte) : List Byte := bs.zipIdx.map fun x => x.1 ^^^ mask.getD x.2 0

/-- A key under a mask, and the key that masked cells hold. -/
def Masked.of (key mask : List Byte) : Masked := ⟨maskBytes key mask, mask⟩
def Masked.key (x : Masked) : List Byte := maskBytes x.masked x.mask

/-- Both shares change by a mask: the key stays (R391). -/
def Masked.remask (x : Masked) (r : List Byte) : Masked := ⟨maskBytes x.masked r, maskBytes x.mask r⟩

/-- The key of a logical entry, as one operation unmasks it. -/
def Keys.classS (k : Keys) (i : Nat) : Option (List Byte) := (tget k.store.cells (k.store.places.getD i i)).map Masked.key

/-- Site secrets of slots A and B (R389). -/
def Keys.siteA (k : Keys) : Option (List Byte) := k.classS 4
def Keys.siteB (k : Keys) : Option (List Byte) := k.classS 5

/-- A key is written to a logical entry under a mask drawn from the random generator. -/
def State.putS (s : State) (i : Nat) (key : List Byte) : State :=
  let st := s.key.store
  s.drawn.setKey { s.key with store :=
    { st with cells := tput st.cells (st.places.getD i i) (Masked.of key (Config.freeBytes s.free key.length)) } }

/-- A logical entry is emptied. -/
def State.dropS (s : State) (i : Nat) : State :=
  let st := s.key.store
  s.setKey { s.key with store := { st with cells := tdel st.cells (st.places.getD i i) } }

/-- After a use of a logical entry its mask is refreshed. -/
def State.usedS (s : State) (i : Nat) : State := match s.key.classS i with | some k => s.putS i k | none => s

/-- Logical entry of the branch of a slot that a key code descends from (R384). -/
def branchEntry (code slot : Nat) : Nat :=
  6 + 4 * slot + (if code = 7 || code = 8 then 1 else if code = 9 then 2 else if code = 10 then 3 else 0)

/-- The permutation of a list that random picks give. -/
def shuffle (pick : Nat → Nat) : Nat → List Nat → List Nat
  | 0, _ => []
  | n + 1, l =>
    let i := pick n % l.length
    l.getD i 0 :: shuffle pick n (l.eraseIdx i)

/-- Slots loaded (R389). -/
def State.siteLoaded (s : State) : Bool := s.key.siteA.isSome || s.key.siteB.isSome

/-- A slot is loaded. -/
def State.slotLoaded (s : State) (slot : Nat) : Bool := if slot = 0 then s.key.siteA.isSome else s.key.siteB.isSome

/-- Newest slot (KEY_STATUS.NEWEST). -/
def State.newestSlot (s : State) : Nat := s.get KEY_STATUS_NEWEST

/-- Slot recorded for a generation of a branch. -/
def KeyBranch.slotOf (b : KeyBranch) (g : Nat) : Option Nat :=
  ((b.introduced.reverse.find? fun e => e.1 == g)).map (·.2)

/-- The FLEET generation is accepted in a stroke (R170, R394): the one in force, or the previous one for 160 strokes after the
switch; never a dead one. -/
def State.fleetGenOk (s : State) (g sn : Nat) : Bool :=
  let b := s.key.fleet
  ((g == b.gen && b.gen != 0 && !s.keyDead 7 0 g b.slot) ||
   (match b.prev with
    | some (p, slot, sw) => p == g && decide (sn < sw + 160) && !s.keyDead 7 0 g slot
    | none => false))

/-- KGEN_NEXT and KEY_SWITCH_F of a GO element (R166): 0 while no switch is pending. -/
def State.goNext (s : State) : Nat × Nat := match s.key.fleet.next with | some (g, _, sw) => (g, lo32 sw) | none => (0, 0)

/-- Generation of a branch, and its slot, in force in superframe `f` (R163, R245, R393). -/
def KeyBranch.genAt (b : KeyBranch) (f : Nat) : Nat × Nat :=
  match b.next with
  | some (g, slot, sw) => if sw ≤ f then (g, slot) else (b.gen, b.slot)
  | none => (b.gen, b.slot)

/-- Generations of FLEET and STOP that a frame of a stroke carries. -/
def State.fleetGenAt (s : State) (sn : Nat) : Nat × Nat := s.key.fleet.genAt (sn / 40)
def State.stopGenAt (s : State) (sn : Nat) : Nat × Nat := s.key.stop.genAt (sn / 40)

/-- KEY_GEN and STP_KGEN show the generations in force (R386, R403, R257). -/
def State.showGens (s : State) : State :=
  ((((s.put KEY_GEN_FLEET s.key.fleet.gen).put KEY_GEN_STOP s.key.stop.gen).put KEY_GEN_LOG s.key.log.gen)).setNum STP_KGEN
    s.key.stop.gen

/-! ### Derivation (R383, R384) -/

/-- ASCII bytes of a label. -/
def ascii (l : String) : List Byte := l.toList.map fun c => BitVec.ofNat 8 c.toNat

/-- be32 of R383. -/
def be32 (v : Nat) : List Byte := (leBytes 4 v).reverse

/-- kdf of R383. -/
def kdf (k : List Byte) (label : List Byte) (ctx : List Byte) (bits : Nat) : List Byte :=
  ((List.range ((bits + 255) / 256)).flatMap fun i =>
    Config.hmacSha256 k (be32 (i + 1) ++ label ++ [0] ++ ctx ++ be32 bits)).take (bits / 8)

/-- Site secret of a slot. -/
def State.site (s : State) (slot : Nat) : List Byte := ((if slot = 0 then s.key.siteA else s.key.siteB).getD [])

/-- FLT_CFG.NET_ID, 2 bytes little-endian. -/
def State.netIdBytes (s : State) : List Byte := leBytes 2 (s.get FLT_CFG_NET_ID)

/-- FLEET_BEACON, FLEET_LINK, STOP and LOG keys of a generation and slot (R384). -/
def State.beaconKey (s : State) (g slot : Nat) : List Byte :=
  kdf (kdf (s.site slot) (ascii "CX77 FLEET") [] 256) (ascii "BEACON") (s.netIdBytes ++ leBytes 1 g) 256
def State.linkKey (s : State) (robot g slot : Nat) : List Byte :=
  kdf (kdf (s.site slot) (ascii "CX77 FLEET") [] 256) (ascii "LINK") (leBytes 1 robot ++ leBytes 1 g) 256
def State.stopKey (s : State) (g slot : Nat) : List Byte :=
  kdf (kdf (s.site slot) (ascii "CX77 STOP") [] 256) (ascii "FRAME") (s.netIdBytes ++ leBytes 1 g) 256
def State.logKey (s : State) (g slot : Nat) : List Byte :=
  kdf (kdf (s.site slot) (ascii "CX77 LOG") [] 256) (ascii "PAIR") (leBytes 1 g) 256

/-- MESH_NODE and MESH_CLUSTER keys (R384). -/
def State.nodeKey (s : State) (eui g slot : Nat) : List Byte :=
  kdf (kdf (s.site slot) (ascii "CX77 MESH") [] 256) (ascii "NODE") ((leBytes 8 eui).reverse ++ leBytes 1 g) 128
def State.clusterKey (s : State) (c g slot : Nat) : List Byte :=
  kdf (kdf (s.site slot) (ascii "CX77 MESH") [] 256) (ascii "CLUSTER") (leBytes 1 c ++ leBytes 1 g) 128

/-- A text under the keystream of AES-CCM: it encrypts, and it decrypts. -/
def ccmText (key nonce text : List Byte) : List Byte := text.zipIdx.map fun x => x.1 ^^^ Config.ccmStream key nonce x.2

/-- Ciphertext and MIC of AES-CCM. -/
def ccm (key nonce aad pt : List Byte) (micLen : Nat) : List Byte :=
  ccmText key nonce pt ++ (List.range micLen).map (Config.ccmMic key nonce aad pt micLen)

/-! ### Bytes of a fleet frame -/

/-- Bytes of an element, and of a frame's header (R163, R165). -/
def Elem.bytes (e : Elem) : List Byte := leBytes 1 e.typ ++ leBytes 1 e.dest ++ leBytes 2 e.body.length ++ e.body
def FleetFrame.header (f : FleetFrame) : List Byte :=
  leBytes 1 (f.ftype + 16 * f.ver) ++ leBytes 1 f.flags ++ leBytes 2 f.netId ++ leBytes 2 f.addr ++ leBytes 1 f.kgen ++
  leBytes 1 f.dest ++ leBytes 4 f.epoch ++ leBytes 4 f.seq ++ leBytes 8 f.sn

/-- The nonce of R164. -/
def FleetFrame.nonce (f : FleetFrame) : List Byte :=
  leBytes 1 f.ftype ++ leBytes 2 f.addr ++ leBytes 2 f.epoch ++ leBytes 6 f.sn ++ leBytes 2 f.seq

/-- The PSDU of a frame under a key (R163, R164). -/
def FleetFrame.psdu (f : FleetFrame) (key : List Byte) : List Byte :=
  f.header ++ ccm key f.nonce f.header (f.elems.flatMap Elem.bytes) 8

/-- Slot from which a generation of FLEET derives (R386). -/
def State.fleetSlot (s : State) (g : Nat) : Nat := (s.key.fleet.slotOf g).getD s.key.fleet.slot

/-- The PSDU of a device frame to a robot, or of a beacon, under the key of its generation; none where that key is dead (R394). -/
def State.fleetPsdu (s : State) (robot : Option Nat) (f : FleetFrame) : Option (List Byte) :=
  let slot := s.fleetSlot f.kgen
  if s.keyDead 7 0 f.kgen slot then none
  else some (f.psdu (match robot with | some r => s.linkKey r f.kgen slot | none => s.beaconKey f.kgen slot))

/-- The nonce of R164 of a received PSDU, from its header. -/
def psduNonce (b : List Byte) : List Byte :=
  leBytes 1 (leAt b 0 1 % 16) ++ slice b 4 2 ++ slice b 8 2 ++ slice b 16 6 ++ slice b 12 2

/-- The elements' bytes of a received PSDU under a key (R163, R164). -/
def openPsdu (key b : List Byte) : List Byte := ccmText key (psduNonce b) (slice b 24 (b.length - 32))

end Sys2Proof.Machine
end

