-- ==== Sys2Proof/Machine/Stop.lean ====
section
/-! DEFINITION. The stop chain (R237–R257): raising a stop, the inputs, the outputs and their test, the stop cut and the stop
frames. Clearing stands in Machine/StopClear.lean. -/

namespace Sys2Proof.Machine

open Sys2Proof

/-- RF ports that carry an enabled fleet channel. -/
def State.fleetPorts (s : State) : List Nat :=
  (List.range 8).filter fun p => (List.range 8).any fun c => s.get (FLT_CHAN_ENABLE c) == 1 && s.get (FLT_CHAN_PORT c) == p

/-- Enabled fleet channels. -/
def State.fleetChans (s : State) : List Nat := (List.range 8).filter fun c => s.get (FLT_CHAN_ENABLE c) == 1

/-- At a qualification instant every transmission on the fleet ports is pre-empted (R242, R153). -/
def State.preemptFleet (s : State) (now : Nat) : State := s.fleetPorts.foldl (fun s p => s.preemptPort now p) s

/-- Fleet frames built before the qualification instant are discarded unsent: all of them for an ALL stop, those addressed
to the robot for a ROBOT stop (R242). -/
def State.discardBuilt (s : State) (robot : Option Nat) : State :=
  let hitTx (t : Tx) : Bool := !t.onAir && match t.owner, robot with
    | .beacon _ _, none => true
    | .unicast _ _, none => true
    | .unicast _ r, some r' => r == r'
    | _, _ => false
  let hitB (b : BuiltFrame) : Bool := match robot with
    | none => true
    | some r => b.robot == some r
  (s.setRad { s.rad with tx := s.rad.tx.filter fun t => !hitTx t }).setFlt
    { s.flt with built := s.flt.built.filter fun b => !hitB b }

/-- STP_LAST_SN and STP_LAST_NS show a qualification instant. -/
def State.showQual (s : State) (sn ns : Nat) : State :=
  (s.setNum64 STP_LAST_SN_LO STP_LAST_SN_HI sn).put STP_LAST_NS_NS ns

/-- CAUSES bit of an ALL cause (R257): 0 input, 1 host, 2 pair fault, 3 output fault. -/
def causeBit : Nat → Nat
  | 1 => 0 | 2 => 0 | 3 => 1 | 4 => 2 | _ => 3

/-- An ALL stop is raised, qualified at `ns` of the current stroke (R237, R242): the wave is in force, its frame phase starts
afresh, the fleet ports are pre-empted, built frames discarded, the outputs go low. -/
def State.raiseAll (s : State) (cause ns : Nat) : State :=
  let s := if s.get STP_STATUS_WAVE = 0 then s.count STP_WAVES 1 else s
  let s := (s.put STP_STATUS_WAVE 1).put STP_STATUS_CAUSES (setBit (s.get STP_STATUS_CAUSES) (causeBit cause))
  let s := s.setStp { s.stp with waveSn := s.sn, waveNs := ns, wavePre := !s.stroked, phaseSn := none, firstSent := [] }
  let s := (s.showQual s.sn ns).applyOut
  let s := (s.preemptFleet (absNs s.sn ns)).discardBuilt none
  (s.logInput (.stop none cause)).record EV_STOP_RAISED 0 cause 0xFF s.sn

/-- STP_STATUS.ROBOTS and STP_ROBOT_MAP show the robots under a ROBOT stop. -/
def State.showRobotStops (s : State) : State :=
  let has (r : Nat) : Bool := s.stp.robots.any fun x => x.robot == r
  let s' := (List.range 8).foldl (fun s' n => s'.setNum (STP_ROBOT_MAP n)
    ((List.range 32).foldl (fun m i => m + b2n (has (32 * n + i)) * 2 ^ i) 0)) s
  s'.put STP_STATUS_ROBOTS s.stp.robots.length

/-- A ROBOT stop is raised (R237, R242). A second stop of a robot takes the place of its first (log entry 22). -/
def State.raiseRobot (s : State) (cause robot ns : Nat) : State :=
  let s := s.count STP_ROBOT_STOPS 1
  let s := s.setStp { s.stp with robots := (s.stp.robots.filter fun x => x.robot != robot) ++
    [{ robot := robot, cause := cause, sn := s.sn, ns := ns }] }
  let s := (s.showRobotStops.showQual s.sn ns).applyOut
  let s := (s.preemptFleet (absNs s.sn ns)).discardBuilt (some robot)
  (s.logInput (.stop (some robot) cause)).record EV_STOP_RAISED 0 (256 + cause) robot s.sn

/-- The stop chain runs: between BOOT and HALT or DORMANT. -/
def State.stopLive (s : State) : Bool := s.serving

/-- The qualified levels differ. -/
def State.inputsDiffer (s : State) : Bool := s.stp.runA.isSome != s.stp.runB.isSome

/-- After a change of a qualified level: the discrepancy time, and DISCREP's release (R239). -/
def State.noteLevels (s : State) : State :=
  let s := s.setStp { s.stp with diffSn := if s.inputsDiffer then some (s.stp.diffSn.getD s.now) else none }
  let bothStop := s.get STP_STATUS_IN_A_STOP == 1 && s.get STP_STATUS_IN_B_STOP == 1
  let bothRun := s.stp.runA.isSome && s.stp.runB.isSome
  if bothStop then s.setStp { s.stp with bothStop := true }
  else if bothRun && s.stp.bothStop then
    (s.setStp { s.stp with bothStop := false }).put STP_STATUS_DISCREP 0
  else s

/-- STOP_A (`b` false) or STOP_B stands qualified at a level. -/
def State.standsAt (s : State) (b run : Bool) : Bool :=
  if run then (if b then s.stp.runB else s.stp.runA).isSome
  else s.flag (if b then STP_STATUS_IN_B_STOP else STP_STATUS_IN_A_STOP)

/-- STOP_INPUT_QUALIFY (R238): at `ns` of the stroke STOP_A (`b` false) or STOP_B has held run or stop level for `heldUs` µs without a
break. Held for FILTER, a new level is qualified; stop level raises an ALL stop. A shorter pulse passes unseen. -/
def execStopInputQualify (b run : Bool) (heldUs ns : Nat) (s : State) : Host.Outcome State Fault Refusal :=
  .next (if !s.serving then s else
    if !s.stopLive || decide (heldUs < s.get STP_CFG_FILTER) || s.standsAt b run then s
    else
      let since := if run then some s.now else none
      let s := if b then (s.setStp { s.stp with runB := since }).put STP_STATUS_IN_B_STOP (b2n !run)
        else (s.setStp { s.stp with runA := since }).put STP_STATUS_IN_A_STOP (b2n !run)
      let s := s.noteLevels
      if run then s else s.raiseAll (if b then 2 else 1) ns)

/-- INPUT_DISCREPANCY (R239): the qualified levels have differed for more than STP_DISCREP strokes; DISCREP is latched. -/
def execInputDiscrepancy (s : State) : Host.Outcome State Fault Refusal :=
  .next (if !s.serving then s else match s.stp.diffSn with
    | some d =>
        if decide (s.num STP_DISCREP < s.now - d) && s.get STP_STATUS_DISCREP == 0 then
        ((s.put STP_STATUS_DISCREP 1).setStp { s.stp with bothStop := false }).record EV_INPUT_DISCREPANCY 0
          (b2n s.stp.runA.isSome) (b2n s.stp.runB.isSome) (s.now - d)
      else s
    | none => s)

/-- OUT_FAULT (R240, R241): at `ns` of the stroke an output (0 A, 1 B) has read back another level than it is commanded to for `heldUs`
µs, or the instances have disagreed (2). More than 10 µs latch the fault: both outputs go low, a wave with cause 5 is raised. -/
def execOutFault (output : Nat) (commanded readback : Bool) (heldUs ns : Nat) (s : State) : Host.Outcome State Fault Refusal :=
  .next (if !s.mainLive then s else
    if !s.stopLive || decide (heldUs ≤ 10) || (output != 2 && commanded == readback) then s
    else ((s.put STP_STATUS_OUT_FAULT 1).record EV_OUT_FAULT 0 output (b2n commanded) (b2n readback)).raiseAll 5 ns)

/-- OUTPUT_TEST (R241): at the edge of a stroke whose SN is a multiple of 40,000, with both outputs high, one is driven low:
A when SN / 40,000 is even, else B. -/
def execOutputTest (s : State) : Host.Outcome State Fault Refusal :=
  .next (
    if s.stroked && s.get STP_CFG_OUT_TEST_EN == 1 && s.sn % 40000 == 0 && s.flag STP_STATUS_OUT_A_RUN &&
       s.flag STP_STATUS_OUT_B_RUN then
      (s.setStp { s.stp with testing := some (s.sn / 40000 % 2) }).applyOut
    else s)

/-- OUTPUT_TEST_END (R241): the tested output returns. -/
def execOutputTestEnd (s : State) : Host.Outcome State Fault Refusal :=
  .next (if !s.serving then s else s.setStp { s.stp with testing := none }).applyOut

/-- A stop frame for a fleet channel and stroke (R245, R246): one STOP element, KIND 1 ALL or 2 ROBOT. -/
def State.stopFrame (s : State) (chan sn : Nat) (robot : Option Nat) : FleetFrame :=
  { ftype := 2, netId := s.get FLT_CFG_NET_ID, addr := 0xFF00 + chan, kgen := (s.stopGenAt sn).1, epoch := s.num PAI_EPOCH,
    sn := sn, elems := [⟨0x02, robot.getD 0, leBytes 1 (if robot.isSome then 2 else 1) ++ leBytes 3 0⟩] }

/-- ALL frames go in the stop windows (R247): during the frame phase, and on a unit without authority for as long as it holds
the wave. -/
def State.allFrames (s : State) : Bool :=
  s.flag STP_STATUS_WAVE &&
  (!s.authority || s.stp.phaseSn.isNone ||
   (s.flag STP_STATUS_FRAME_PHASE && match s.stp.phaseSn with | some p => decide (s.sn + 1 < p + 400) | none => true))

/-- Home channel of a robot, if enrolled. -/
def State.homeOf (s : State) (robot : Nat) : Option Nat := (tget s.flt.robots robot).map Robot.home

/-- ROBOT stop whose frame takes the next window of a channel (R247): in its frame phase, fewest frames sent, lowest ID. -/
def State.robotFrame (s : State) (chan : Nat) : Option RobotStop :=
  (s.stp.robots.filter fun x => s.homeOf x.robot == some chan && decide (x.sent < 400)).foldl
    (fun best x => match best with
      | none => some x
      | some y => if x.sent < y.sent || (x.sent == y.sent && decide (x.robot < y.robot)) then some x else some y) none

/-- This unit may send stop frames (R252): in OPERATE, and in PRIMING for ALL stops. -/
def State.stopFramesAllowed (s : State) (all : Bool) : Bool := s.dev == .operate || (s.dev == .priming && all)

/-- What the next stop window of a fleet channel carries (R243, R247). -/
def State.cutOf (s : State) (c : Nat) : Option CutFrame :=
  if s.allFrames then
    if s.stopFramesAllowed true then some ⟨c, s.sn + 1, none, s.stopFrame c (s.sn + 1) none⟩ else none
  else if s.authority && s.stopFramesAllowed false then
    (s.robotFrame c).map fun x => ⟨c, s.sn + 1, some x.robot, s.stopFrame c (s.sn + 1) (some x.robot)⟩
  else none

/-- STOP_CUT (R243): what the next stop window of every fleet channel carries is decided and the frame built. -/
def execStopCut (s : State) : Host.Outcome State Fault Refusal :=
  .next (if !s.serving then s else s.setStp { s.stp with cut := s.fleetChans.filterMap s.cutOf })

/-- The bound of a first frame in ns (R243, R247): the n-th ROBOT stop of a channel in one stroke has n − 1 strokes more. -/
def State.firstBound (s : State) (robot : Option Nat) : Nat :=
  match robot with
  | none => 340000
  | some r =>
    match s.stp.robots.find? fun x => x.robot == r with
    | none => 340000
    | some x => 340000 + 250000 * ((s.stp.robots.takeWhile fun y => y.robot != r).filter fun y =>
        y.sn == x.sn && s.homeOf y.robot == s.homeOf r).length

/-- Time from the qualification instant to the end of a first frame in the current stroke's window is kept, and recorded when
late (R244). -/
def State.noteFirst (s : State) (chan qual bound : Nat) : State :=
  let t := absNs s.sn 71200 - qual
  let s := if s.get STP_WORST_NS_NS < t then s.put STP_WORST_NS_NS (clampN 0 0xFFFFF t) else s
  if bound < t then s.record EV_STOP_LATE 0 chan t 0 else s

/-- MCS of a stop frame (R245): MCS1 in a 20 MHz channel, MCS3 in a 10 MHz, MCS5 in a 5 MHz channel. -/
def stopMcs (mode : Nat) : Nat := if mode = 0x42 then 1 else if mode = 0x41 then 3 else 5

/-- STOP_FRAME_TX (R243, R247): the frame decided at the cut goes on air in the stop window, first STF sample at 4 µs. It takes
precedence over what it overlaps (R151). -/
def execStopFrameTx (chan : Nat) (s : State) : Host.Outcome State Fault Refusal :=
  .next (if !s.serving then s else match s.stp.cut.find? fun c => c.chan == chan && c.sn == s.sn with
    | none => s
    | some c =>
      let port := s.get (FLT_CHAN_PORT chan)
      if s.get (RAD_PORT_STAT_CLK_OK port) = 0 || s.get (RAD_PORT_CFG_ENABLE port) = 0 || !s.stopFramesAllowed c.robot.isNone then s
      else
        let ch := s.get (FLT_CHAN_TXCH chan)
        let t : Tx := { id := s.rad.nextTx, owner := .stop chan, port := port, ch := ch, sn := s.sn, ns := 4000, len := 67200,
                        mcs := stopMcs (s.get (RAD_TX_CFG_MODE port ch))
                        bytes := c.frame.psdu (s.stopKey c.frame.kgen ((s.key.stop.slotOf c.frame.kgen).getD s.key.stop.slot)), onAir := true }
        let s := s.sweepTx (s.txStart t)
        let s := (((s.setRad { s.rad with nextTx := s.rad.nextTx + 1 }).displace t (s.txStart t)).airs t).raiseLines t
        let s := s.setStp { s.stp with cut := s.stp.cut.filter fun x => !(x.chan == chan && x.sn == s.sn) }
        let s := (s.emit (.fleet chan s.sn c.frame)).count STP_FRAMES 1
        match c.robot with
        | none =>
          let s := (s.setStp { s.stp with phaseSn := some (s.stp.phaseSn.getD s.sn) }).put STP_STATUS_FRAME_PHASE 1
          if s.stp.firstSent.contains chan then s
          else
            (s.setStp { s.stp with firstSent := s.stp.firstSent ++ [chan] }).noteFirst chan
              (absNs s.stp.waveSn s.stp.waveNs) (s.firstBound none)
        | some r =>
          let s' := s.setStp { s.stp with robots := s.stp.robots.map fun x =>
            if x.robot = r then { x with sent := x.sent + 1 } else x }
          match s.stp.robots.find? fun x => x.robot == r with
          | some x => if x.sent = 0 then s'.noteFirst chan (absNs x.sn x.ns) (s.firstBound (some r)) else s'
          | none => s')

/-- FRAME_PHASE_END (R247): 400 strokes after the first frame the frame phase of a wave ends. A ROBOT stop's phase ends by its
own count of 400 frames. -/
def execFramePhaseEnd (s : State) : Host.Outcome State Fault Refusal :=
  .next (if !s.serving then s else match s.stp.phaseSn with
    | some p => if p + 400 ≤ s.sn then s.put STP_STATUS_FRAME_PHASE 0 else s
    | none => s)

/-- A unit in a pair without authority sends a host stop to the primary and holds it pending until it appears in the log (R252). -/
def State.holdHostStop (s : State) (d : Desc) (robot : Option Nat) : State :=
  if s.authority then s
  else
    let s' := (s.setStp { s.stp with hostPending := s.stp.hostPending ++ [robot] }).setRings
      { s.rings with nextFwd := s.rings.nextFwd + 1 }
    s'.sendMate 0 s.sn (.forward s.rings.nextFwd d)

/-- STP_STOP (R255): qualifies at fetch. An ALL stop acts at once on the unit that fetches it; a ROBOT stop of a unit without
authority waits for the log (R252). The instant within the stroke is a free value. -/
def execStpStop (d : Desc) (s : State) : Host.Outcome State Fault Refusal :=
  .next (s.command d fun s =>
    let ns := if s.stroked then Config.freeNat s.free % 250020 else 0
    let s := s.drawn
    if d.op 32 1 = 0 then ((s.holdHostStop d none).raiseAll 3 ns).ok
    else if s.authority then (s.raiseRobot 9 (d.op 33 1) ns).ok
    else (s.holdHostStop d (some (d.op 33 1))).ok)

/-- STP_QUERY (R255): 48 bytes. -/
def execStpQuery (d : Desc) (s : State) : Host.Outcome State Fault Refusal :=
  .next (s.command d fun s => s.answer d
    (leBytes 4 (s.num STP_STATUS) ++ leBytes 4 0 ++ leBytes 8 (s.num64 STP_LAST_SN_LO STP_LAST_SN_HI) ++
     (List.range 8).flatMap fun n => leBytes 4 (s.num (STP_ROBOT_MAP n))))

end Sys2Proof.Machine
end

