-- ==== Sys2Proof/Machine/Intake.lean ====
section
/-! DEFINITION. Intake of radio frames (R135, R312, R315, R323): lane, own check, admission, the intake job of the MAC. -/

namespace Sys2Proof.Machine

open Sys2Proof

/-- Mesh channel of a receive channel. -/
def State.meshChanOf (s : State) (port ch : Nat) : Option Nat :=
  (List.range 64).find? fun n => s.flag (MSH_CHAN_ENABLE n) && s.get (MSH_CHAN_PORT n) == port && s.get (MSH_CHAN_RXCH n) == ch

/-- Fleet channel of a receive channel. -/
def State.fleetChanOf (s : State) (port ch : Nat) : Option Nat :=
  s.fleetChans.find? fun c => s.get (FLT_CHAN_PORT c) == port && s.get (FLT_CHAN_RXCH c) == ch

/-- A frame is presented to its MAC as an intake job of fabric port `p` (R37, R321), at priority 0 (DESIGN CHOICE, log entry 103). -/
def State.presentIntake (s : State) (p cls : Nat) : State :=
  s.addJob { id := 0, src := .intake p s.disp.nextId, cls := cls, prio := 0, phase := .presented }

/-- Fabric port of a received radio frame. -/
def State.fabricOf (s : State) (f : RxFrame) : Nat := if (s.meshChanOf f.port f.ch).isSome then 24 + f.port else 32 + f.port

/-- The received frame of an intake job: its place among the jobs of its port. -/
def State.frameOf (s : State) (j : Job) : Option RxFrame :=
  match j.src with
  | .intake p _ =>
    let k := (s.disp.jobs.filter fun x => match x.src with | .intake q _ => q == p | _ => false).findIdx fun x => x.id == j.id
    (s.rad.rx.filter fun f => s.fabricOf f == p)[k]?
  | _ => none

/-- A received frame's cells return when its MAC has taken it. -/
def State.freeCell (s : State) (f : RxFrame) : State :=
  match f.cell with | some id => s.freeFrame id | none => s

/-- The intake job of a MAC's fabric ports that may commit now, the oldest, with its frame (R36, R39). -/
def State.nextIntake (s : State) (port : Nat → Bool) (p : RxFrame → Bool) : Option (Job × RxFrame) :=
  s.disp.jobs.findSome? fun j => match j.src with
    | .intake q _ => if port q && s.mayCommit j then (s.frameOf j).bind fun f => if p f then some (j, f) else none else none
    | _ => none

/-- A MAC takes the frame of an intake job: the frame's cells return. -/
def State.takeIntake (s : State) (f : RxFrame) : State := (s.setRad { s.rad with rx := s.rad.rx.erase f }).freeCell f

/-- A frame leaves the intake of its MAC unprocessed. -/
def State.dropIntake (s : State) (j : Job) : State :=
  match s.frameOf j with
  | some f => s.takeIntake f
  | none => s

/-- Run a MAC's meaning on the frame of its next intake job, in the stroke the job belongs to, and commit the job. Without one nothing
happens. -/
def State.runIntake (s : State) (port : Nat → Bool) (p : RxFrame → Bool) (body : Job → RxFrame → State → State) : State :=
  match s.nextIntake port p with
  | none => s
  | some (j, f) => ({ body j f ({ s.takeIntake f with sn := j.sn }) with sn := s.sn } : State).commitOne j

/-- Instant at the antenna of a sample that reached edge 0 at `sn`, `ns`, and left the channeliser of a mode: less the declared receive
latency and the channel's (R128). -/
def State.antenna (s : State) (port mode sn ns : Nat) : Nat :=
  absNs sn ns - s.get (RAD_PORT_LAT_RX port) - Config.chanLatency mode

/-- A frame as its lane finishes it (R135, R141, R147): what the receiver reads of the samples, with the arrival time at the antenna; none
where the receiver discards it. -/
def State.laneFrame (s : State) (f : RxFrame) (air : RxAir) : Option RxFrame :=
  let mode := s.get (RAD_RX_CFG_MODE f.port f.ch)
  let arrival := s.antenna f.port mode f.sn f.ns
  (airReceive mode (s.flag (RAD_RX_CFG_FEC f.port f.ch)) air).map fun (mcs, bytes, it) =>
    { f with mode := mode, mcs := mcs, sn := arrival / 250000, ns := arrival % 250000, ldpcIter := it, bytes := bytes }

/-! ### The legacy receive hardware (R273, R274) -/

/-- An address field: its PAN ID, its address, the bytes behind it. A PAN ID left out is `pan`. -/
def macAddr (mode : Nat) (pan : Option Nat) (b : List Byte) : Option (Nat × MacAddr × List Byte) :=
  let own := match pan with | some q => (q, b) | none => (leAt b 0 2, b.drop 2)
  match mode with
  | 0 => some (0, .none, b)
  | 2 => some (own.1, .short (leAt own.2 0 2), own.2.drop 2)
  | 3 => some (own.1, .eui (leAt own.2 0 8), own.2.drop 8)
  | _ => none

/-- MAC header of a frame of version 0 or 1, as IEEE 802.15.4 lays it out (PRESUMED, log entry 118). -/
def legacyHdr (b : List Byte) : Option LegacyHdr :=
  let fc := leAt b 0 2
  let f (i n : Nat) : Nat := fc / 2 ^ i % 2 ^ n
  (macAddr (f 10 2) none (b.drop 3)).bind fun (dp, da, r) =>
    (macAddr (f 14 2) (if f 6 1 = 1 && f 10 2 ≠ 0 then some dp else none) r).map fun (sp, sa, r) =>
      let skip := if f 3 1 = 0 then 0 else match leAt r 0 1 / 8 % 4 with | 0 => 5 | 1 => 6 | 2 => 10 | _ => 14
      { version := f 12 2, ar := f 5 1 = 1, dsn := leAt b 2 1, dstPan := dp, srcPan := sp, dst := da, src := sa,
        dataRequest := f 0 3 = 3 && leAt r skip 1 = 4 }

/-- The receive hardware of a LEGACY channel accepts the frame (R273). -/
def State.legacyAccepts (s : State) (c : Nat) (h : LegacyHdr) : Bool :=
  let pan := s.get (MSH_CHAN_PAN_ID c)
  decide (h.version ≤ 1) &&
  match h.dst with
  | .none => h.srcPan == pan
  | .short a => (h.dstPan == pan || h.dstPan == 0xFFFF) && (a == s.get MSH_SHORT_ADDR_ADDR || a == 0xFFFF)
  | .eui a => (h.dstPan == pan || h.dstPan == 0xFFFF) && a == s.num64 MSH_EUI_LO MSH_EUI_HI

/-- The source's bit of the pending table (R274). -/
def State.pendingOf (s : State) (src : MacAddr) : Bool :=
  s.msh.nbrs.any fun x => x.2.pending && (match src with
    | .none => false
    | .short a => x.2.short == a && a != 0xFFFF
    | .eui a => x.2.eui == a)

/-- An accepted frame with AR set is answered with an Imm-Ack (R274); the frame with its ACKED mark. -/
def State.immAck (s : State) (c : Nat) (h : LegacyHdr) (f : RxFrame) : State × RxFrame :=
  if h.ar && s.authority && s.dev == .operate then
    let pend := s.pendingOf h.src && (h.dataRequest || s.flag (MSH_CHAN_FP_ALL c))
    (s.emit (.immAck c h.dsn pend), { f with acked := some pend })
  else (s, f)

/-- What the receive hardware does with a frame whose own check is passed or not: on a LEGACY channel of an enabled Mesh MAC it drops and
counts what R273 does not accept, and acknowledges; elsewhere it passes the frame on. -/
def State.rxHardware (s : State) (f : RxFrame) (ok : Bool) : State × Option RxFrame :=
  match (s.meshChanOf f.port f.ch).filter fun c => s.flag (MSH_CHAN_LEGACY c) && s.flag MSH_CFG_ENABLE with
  | none => (s, if ok then some f else none)
  | some c =>
    match if ok then (legacyHdr f.bytes).filter (s.legacyAccepts c) else none with
    | none => (s.count MSH_RX_FILTERED 1, none)
    | some h => match s.immAck c h f with | (s, f) => (s, some f)

/-- A frame that a lane has finished goes to its MAC (R135, R273, R312, R315, R323). -/
def State.passFrame (s : State) (f : RxFrame) (ok : Bool) (fill : Nat) : State :=
  let mesh := (s.meshChanOf f.port f.ch).isSome
  if !mesh && (s.fleetChanOf f.port f.ch).isNone then s
  else
    let p := if mesh then 24 + f.port else 32 + f.port
    let s := s.setFill p fill
    let s := if ok then s else s.count (PRT_RX_BAD p) 1
    if s.role = Role.standby then s
    else match s.rxHardware { f with acked := none } ok with
    | (s, none) => s
    | (s, some f) =>
      let cls := if mesh then 4 else 3
      match s.storeFrame p 0 f.bytes true none with
      | some (s, id) =>
        let s := s.count (PRT_RX_FRAMES p) 1
        (s.setRad { s.rad with rx := s.rad.rx ++ [{ f with cell := some id }] }).presentIntake p cls
      | none =>
        let s := s.admitDrop p
        if mesh then (s.setRad { s.rad with rx := s.rad.rx ++ [{ f with cell := none }] }).presentIntake p cls else s

/-- RADIO_FRAME_RECEIVED (R135): a lane finishes the frame whose samples are `air`; `f` brings port, channel, the instant of its first
preamble sample at edge 0, RSSI, SNR and carrier offset; what the PHY header and the decoder give is read from the samples. `ok`: its
own check (R323); `fill`: the intake FIFO's fill. Its bytes are the PSDU, less the FCS on a mesh channel (R312). A refused mesh frame
still reaches its MAC, NOT_ADMITTED; a refused fleet frame does not. On a STANDBY it serves link monitoring only (R136). -/
def execRadioFrameReceived (f : RxFrame) (air : RxAir) (ok : Bool) (fill : Nat) (s : State) : Host.Outcome State Fault Refusal :=
  .next (if !s.serving then s else
    if !(s.rad.lanes.any fun l => l.port == f.port && l.ch == f.ch) then s
    else
      let s := (s.setRad { s.rad with lanes := s.rad.lanes.filter fun l => !(l.port == f.port && l.ch == f.ch) }).showLanes
      match s.laneFrame f air with
      | some f => s.passFrame f ok fill
      | none => s)

end Sys2Proof.Machine
end

