-- ==== Sys2Proof/Machine/Fleet.lean ====
section
/-! DEFINITION. The fleet link MAC (R158–R183): robots, uplink slots, acceptance and the SEQ rule, beacon packing, unicast
data, the FLEET ring commands. -/

namespace Sys2Proof.Machine

open Sys2Proof

/-! ### Robots -/

/-- Robots enrolled. -/
def State.robotCount (s : State) : Nat := (s.flt.robots.filter fun x => x.2.gone.isNone).length

/-- FLT_STATUS: BEACONING, STOP_IN_BEACON, CHANNELS and ROBOTS as they stand (R183). -/
def State.fleetStatus (s : State) : Nat :=
  let on := s.dev == .operate && s.authority && s.flag FLT_CFG_ENABLE && !s.fleetChans.isEmpty
  b2n on + 2 * s.get STP_STATUS_WAVE + (s.fleetChans.map fun c => 2 ^ (8 + c)).sum + 2 ^ 16 * s.robotCount

/-- FLT_SF follows the stroke index (R183). -/
def State.showFleet (s : State) : State := s.setNum64 FLT_SF_LO FLT_SF_HI (s.sn / 40)

/-- Slot specs in force in a superframe (R169, R181). -/
def Robot.specsAt (r : Robot) (sf : Nat) : List SlotSpec :=
  match r.newSpecs with
  | some (n, sp) => if n ≤ sf then sp else r.specs
  | none => r.specs

/-- The newest slot specs of a robot. -/
def Robot.lastSpecs (r : Robot) : List SlotSpec :=
  match r.newSpecs with
  | some (_, sp) => sp
  | none => r.specs

/-- Two specs on one channel clash (R169). -/
def SlotSpec.clash (a b : SlotSpec) : Bool :=
  a.stroke == b.stroke && a.phase % Nat.gcd a.period b.period == b.phase % Nat.gcd a.period b.period

/-- The robot holds the uplink slot of a stroke (R169). -/
def Robot.holdsSlot (r : Robot) (sn : Nat) : Bool :=
  (r.specsAt (sn / 40)).any fun p => p.stroke == sn % 40 && p.period != 0 && sn / 40 % p.period == p.phase

/-- A spec in its 8 bytes. -/
def SlotSpec.bytes (p : SlotSpec) : List Byte :=
  leBytes 1 p.stroke ++ [0] ++ leBytes 2 p.period ++ leBytes 2 p.phase ++ leBytes 1 p.mcs ++ [0]

/-- The SLOTS element body (R169). -/
def slotsBody (sp : List SlotSpec) : List Byte := leBytes 4 sp.length ++ sp.flatMap SlotSpec.bytes

/-- The specs of a SLOTS body. -/
def readSpecs (b : List Byte) : List SlotSpec :=
  (List.range (leAt b 0 1)).map fun i => ⟨leAt b (4 + 8 * i) 1, leAt b (6 + 8 * i) 2, leAt b (8 + 8 * i) 2, leAt b (10 + 8 * i) 1⟩

/-! ### Elements for the beacon -/

/-- An element is queued for a robot's beacons, once per identical entry of an ACK. -/
def State.queueElem (s : State) (robot rank epochSn : Nat) (e : Elem) : State :=
  match s.robot? robot with
  | none => s
  | some r => s.setFlt { s.flt with bcn := s.flt.bcn ++ [⟨r.home, rank, robot, epochSn, false, e⟩] }

/-- An ACK becomes due for a robot (R172). -/
def State.queueAck (s : State) (robot : Nat) : State :=
  if s.flt.bcn.any fun b => b.rank == 3 && b.key == robot then s else s.queueElem robot 3 0 ⟨0x04, robot, []⟩

/-- A reply to a claim of a frame: stored under the frame's SEQ, the last 4 kept, and queued as ALLOT (R171). -/
def State.fleetReply (s : State) (robot seq : Nat) (body : List Byte) : State :=
  (s.modRobot robot fun r => { r with replies := ((r.replies.filter fun x => x.1 != seq) ++ [(seq, body)]).reverse.take 4 |>.reverse }).queueElem
    robot 4 0 ⟨0x07, robot, body⟩

/-- SNR in 0.25 dB at which a CFL MCS reaches 1 % packet error rate (R150). -/
def cflPer : List Int := [8, 20, 30, 42, 54, 70, 76, 84]

/-- UL_MCS_HINT (R172). -/
def mcsHint (snr : Int) : Nat :=
  (List.range 8).foldl (fun h m => if cflPer.getD m 0 + 12 ≤ snr then m else h) 0

/-- The ACK body (R172). -/
def Robot.ackBody (r : Robot) : List Byte :=
  leBytes 4 r.high ++ leBytes 8 r.win ++ leBytes 1 (unsigned 8 r.snr) ++ leBytes 1 (mcsHint r.snr) ++ leBytes 2 0

/-! ### Beacon build (R166, R167) -/

/-- The GO element (R166). -/
def State.goElem (s : State) : Elem :=
  let (g, sf) := s.goNext
  ⟨0x01, 0, leBytes 1 (s.get FLT_CFG_TIMEOUT) ++ leBytes 1 g ++ leBytes 2 0 ++ leBytes 4 sf⟩

/-- The ALL STOP element (R246). -/
def allStopElem : Elem := ⟨0x02, 0, leBytes 4 1⟩

/-- Insertion of a STOP or CLEAR element in ascending DEST, after equals. -/
def insertDest (e : Elem) : List Elem → List Elem
  | [] => [e]
  | x :: r => if x.dest ≤ e.dest then x :: insertDest e r else e :: x :: r

/-- ROBOT STOP elements of a channel and the CLEAR elements due in a superframe, in ascending DEST (R246, R247, R251). -/
def State.stopElems (s : State) (c sf : Nat) : List Elem :=
  let stops := (s.stp.robots.filter fun x => s.homeOf x.robot == some c).map fun x => (⟨0x02, x.robot, leBytes 4 2⟩ : Elem)
  let clears := (s.stp.clears.filter fun x => decide (x.firstSf ≤ sf) && decide (sf < x.firstSf + 8) &&
      match x.robot with | none => true | some r => s.homeOf r == some c).map fun x =>
    (⟨0x02, x.robot.getD 0, leBytes 4 3 ++ leBytes 8 x.clearSn⟩ : Elem)
  (stops ++ clears).foldl (fun l e => insertDest e l) []

/-- Bytes of a frame's elements. -/
def elemsLen (es : List Elem) : Nat := es.foldl (fun n e => n + 4 + e.body.length) 0

/-- MODE of a fleet channel. -/
def State.chanMode (s : State) (c : Nat) : Nat := s.get (RAD_TX_CFG_MODE (s.get (FLT_CHAN_PORT c)) (s.get (FLT_CHAN_TXCH c)))

/-- A downlink frame with these elements has at most 8 data symbols (R161, R162). -/
def fitsDown (mode mcs : Nat) (es : List Elem) : Bool := decide (cflSyms mode mcs (32 + elemsLen es) ≤ 8)

/-- Take elements in order while they fit; the rest stays (R167). -/
def takeStops (mode mcs : Nat) : List Elem → List Elem → List Elem × List Elem
  | acc, [] => (acc, [])
  | acc, e :: r => if fitsDown mode mcs (acc ++ [e]) then takeStops mode mcs (acc ++ [e]) r else (acc, e :: r)

/-- Order of R167: kind, carried elements first, then robot ID or fragment. -/
def BcnElem.le (a b : BcnElem) : Bool :=
  decide (a.rank < b.rank) || (a.rank == b.rank &&
    ((a.carried && !b.carried) || (a.carried == b.carried && decide (a.key ≤ b.key))))

/-- Insertion into the queue order, after equals. -/
def insertBcn (e : BcnElem) : List BcnElem → List BcnElem
  | [] => [e]
  | x :: r => if x.le e then x :: insertBcn e r else e :: x :: r

/-- The element as it goes on air: an ACK takes its body now. -/
def State.elemNow (s : State) (b : BcnElem) : Elem :=
  if b.rank = 3 then ⟨b.elem.typ, b.elem.dest, (match s.robot? b.key with | some r => r.ackBody | none => [])⟩ else b.elem

/-- Take queued elements in order while they fit. -/
def State.takeElems (s : State) (mode mcs : Nat) : List Elem → List BcnElem → List Elem × List BcnElem
  | acc, [] => (acc, [])
  | acc, b :: r =>
    if fitsDown mode mcs (acc ++ [s.elemNow b]) then s.takeElems mode mcs (acc ++ [s.elemNow b]) r else (acc, b :: r)

/-- A FIX or CORR element is older than the newest of its kind for the same robot or stream (R167). -/
def BcnElem.outdated (b : BcnElem) (all : List BcnElem) : Bool :=
  decide (5 ≤ b.rank) && all.any fun x => x.chan == b.chan && x.rank == b.rank && (b.rank == 6 || x.key == b.key) &&
    decide (b.epochSn < x.epochSn)

/-- At the build of part 0: SLOTS elements (R169), notices (R221). -/
def State.startSuperframe (s : State) (sf : Nat) : State :=
  let s := s.flt.robots.foldl (fun s x =>
    let r := x.2
    if r.gone.isNone && ((match r.specsSf with | some c => decide (c ≤ sf) && decide (sf < c + 8) | none => false) ||
        ((sf : Int) - (x.1 : Int)) % 64 == 0) then
      s.queueElem x.1 2 0 ⟨0x03, x.1, slotsBody (r.specsAt sf)⟩
    else s) s
  let s := s.flt.notices.foldl (fun s n => s.queueElem n.robot 4 0 ⟨0x07, n.robot, n.body⟩) s
  s.setFlt { s.flt with notices := (s.flt.notices.map fun n => { n with left := n.left - 1 }).filter fun n => n.left != 0 }

/-- A device frame of a channel and stroke (R163). -/
def State.devFrame (s : State) (c ftype sn dest : Nat) (es : List Elem) : FleetFrame :=
  { ftype := ftype, netId := s.get FLT_CFG_NET_ID, addr := 0xFF00 + c, kgen := (s.fleetGenAt sn).1, dest := dest,
    epoch := s.num PAI_EPOCH, sn := sn, elems := es }

/-- A frame is built: its bytes are an output of the running job in both units, of which the standby's go no further (R180, R365). -/
def State.keepBuilt (s : State) (b : BuiltFrame) : State :=
  (s.setFlt { s.flt with built := s.flt.built ++ [b] }).handOut ((s.fleetPsdu b.robot b.frame).getD [])

/-- Build part `p` of superframe `sf` on channel `c` (R166, R167). -/
def State.buildPart (s : State) (sf p c : Nat) : State :=
  let mode := s.chanMode c
  let mcs := s.get FLT_CFG_BEACON_MCS
  let wave := s.flag STP_STATUS_WAVE
  let s := if p = 0 then s.setFlt { s.flt with
      stopq := (s.flt.stopq.filter fun x => x.1 != c) ++ (s.stopElems c sf).map fun e => (c, e) } else s
  let head :=
    if p = 0 then [if wave then allStopElem else s.goElem]
    else if wave && tget s.flt.waveSf c != some sf then [allStopElem] else []
  let s := if wave then s.setFlt { s.flt with waveSf := tput s.flt.waveSf c sf } else s
  let (es, left) := takeStops mode mcs head ((s.flt.stopq.filter fun x => x.1 == c).map (·.2))
  let s := s.setFlt { s.flt with stopq := (s.flt.stopq.filter fun x => x.1 != c) ++ left.map fun e => (c, e) }
  let mine := (s.flt.bcn.filter fun b => b.chan == c).foldl (fun l b => insertBcn b l) []
  let (es, rest) := if left.isEmpty then s.takeElems mode mcs es mine else (es, mine)
  let others := s.flt.bcn.filter fun b => b.chan != c
  let s :=
    if p = 3 then
      let keep := rest.filter fun b => !b.outdated s.flt.bcn
      let n := keep.length + left.length
      let s := s.setFlt { s.flt with bcn := others ++ keep.map fun b => { b with carried := true } }
      if n = 0 then s
      else
        let s := s.count FLT_BCN_DEFER n
        if s.flt.deferSf = some sf then s
        else (s.setFlt { s.flt with deferSf := some sf }).record EV_BEACON_DEFER 0 c n 0
    else s.setFlt { s.flt with bcn := others ++ rest }
  if es.isEmpty || !fitsDown mode mcs es then s
  else s.keepBuilt ⟨c, p, none, s.devFrame c 0 (40 * sf + p) 0 es, mcs⟩

/-- The queued robot that unicast serves next on a channel: round robin by ID after the one served last (R176). -/
def State.nextUnicast (s : State) (c : Nat) : Option Nat :=
  let qs := (s.flt.data.filter fun d => s.homeOf d.robot == some c && (s.robot? d.robot).isSome).map FleetData.robot
  let least (l : List Nat) : Option Nat := l.foldl (fun m r => match m with | none => some r | some x => some (min x r)) none
  match tget s.flt.served c with
  | some last => (least (qs.filter fun r => decide (last < r))).orElse fun _ => least qs
  | none => least qs

/-- Largest fragment a unicast frame can carry at an MCS (R162, R176). -/
def fragRoom (mode mcs : Nat) : Nat :=
  (List.range 1281).foldl (fun best m => if cflSyms mode mcs (40 + m) ≤ 8 then m else best) 0

/-- Build the unicast frame of a channel for a stroke (R176). -/
def State.buildUnicast (s : State) (sn c : Nat) : State :=
  match s.nextUnicast c with
  | none => s
  | some r =>
    match s.robot? r, s.flt.data.find? fun d => d.robot == r with
    | some x, some d =>
      let room := fragRoom (s.chanMode c) x.dlMcs
      if room = 0 then s
      else
        let last := decide (d.bytes.length ≤ room)
        let body := leBytes 2 d.pktId ++ leBytes 1 (d.frag % 128 + 128 * b2n last) ++ [0] ++ d.bytes.take room
        let data := if last then s.flt.data.erase d
          else s.flt.data.map fun e => if e = d then { d with frag := d.frag + 1, bytes := d.bytes.drop room } else e
        (s.setFlt { s.flt with data := data, served := tput s.flt.served c r }).keepBuilt
          ⟨c, 4, some r, s.devFrame c 3 sn r [⟨0x10, r, body⟩], x.dlMcs⟩
    | _, _ => s

/-- BEACON_BUILD (R167, R176): the parts of stroke SN + 1, or its unicast frames, are built on every enabled channel, also by a unit
that hands none to the radio (R154, R180);
during a wave no unicast frame is built (R242). -/
def execBeaconBuild (s : State) : Host.Outcome State Fault Refusal :=
  .next (if !s.serving then s else s.runWork 0x0B 0 fun s =>
    let sn := s.sn + 1
    if !s.flag FLT_CFG_ENABLE then s
    else if sn % 40 < 4 then
      let s := if sn % 40 = 0 then s.startSuperframe (sn / 40) else s
      s.fleetChans.foldl (fun s c => s.buildPart (sn / 40) (sn % 40) c) s
    else if 36 ≤ sn % 40 && !s.flag STP_STATUS_WAVE then s.fleetChans.foldl (fun s c => s.buildUnicast sn c) s
    else s)

/-- The frames built in the strokes to `n` are handed to the radio at the release point, by a unit with authority (R167, R180,
R362); one for a stroke gone by is refused. -/
def State.releaseFleet (s : State) (n nowNs : Nat) : State :=
  let due := s.flt.built.filter fun b => decide (b.frame.sn ≤ n + 1)
  let s := s.setFlt { s.flt with built := s.flt.built.filter fun b => decide (n + 1 < b.frame.sn) }
  if s.dev != DevState.operate || !s.authority then s
  else due.foldl (fun s b =>
    let owner : TxOwner := match b.robot with | some r => .unicast b.chan r | none => .beacon b.chan b.part
    let port := s.get (FLT_CHAN_PORT b.chan)
    let ch := s.get (FLT_CHAN_TXCH b.chan)
    match s.fleetPsdu b.robot b.frame with
    | none => s.refuseTx owner port ch b.frame.sn
    | some bytes =>
      let s := s.txRequest owner port ch b.frame.sn 84000 b.mcs 0 (absNs s.sn nowNs) bytes
      if b.frame.sn = s.sn then s.emit (.fleet b.chan s.sn b.frame) else s) s

/-! ### Uplink (R170, R171) -/

/-- Elements of the bytes between header and MIC; none when a LEN runs past the end (R165). -/
def readElems : Nat → List Byte → Option (List Elem)
  | _, [] => some []
  | 0, _ => none
  | n + 1, bs =>
    if bs.length < 4 then none
    else
      let len := leAt bs 2 2
      if bs.length < 4 + len then none
      else (readElems n (bs.drop (4 + len))).map fun r => ⟨leAt bs 0 1, leAt bs 1 1, slice bs 4 len⟩ :: r

/-- SEQ difference, signed 32-bit (R171). -/
def seqDiff (a b : Nat) : Int := signed 32 (unsigned 32 ((a : Int) - (b : Int)))

/-- seen() of R171. -/
def Robot.seen (r : Robot) (q : Nat) : Bool :=
  let d := seqDiff q r.high
  d == 0 || (decide (d < 0) && decide (-d ≤ 64) && bit r.win ((-d).toNat - 1))

/-- WIN after HIGH advances by d (R171). -/
def advanceWin (win d : Nat) : Nat :=
  if 65 ≤ d then 0 else if d = 64 then 2 ^ 63 else (win * 2 ^ d + 2 ^ (d - 1)) % 2 ^ 64

/-- A completed IPv6 packet of a robot goes to FLEET(p), or is dropped over the MTU (R176). -/
def State.fleetPacket (s : State) (port : Nat) (bytes : List Byte) : State :=
  if 1280 < bytes.length then s.count FLT_DATA_DROP 1
  else s.ingressPacket (32 + port) bytes

/-- A DATA fragment enters reassembly (R176). -/
def State.fleetFragment (s : State) (port robot arrival : Nat) (body : List Byte) : State :=
  let pid := leAt body 0 2
  let idx := leAt body 2 1 % 128
  let last := bit (leAt body 2 1) 7
  let old : FleetReasm := (s.flt.reasm.find? fun x => x.robot == robot && x.pktId == pid).getD ⟨robot, pid, [], none, arrival / 40⟩
  let x : FleetReasm := { old with frags := tput old.frags idx (body.drop 4), lastIdx := if last then some idx else old.lastIdx }
  let rest := s.flt.reasm.filter fun y => !(y.robot == robot && y.pktId == pid)
  let done := match x.lastIdx with
    | some l => (List.range (l + 1)).all fun i => (tget x.frags i).isSome
    | none => false
  if done then
    (s.setFlt { s.flt with reasm := rest }).fleetPacket port
      ((List.range (x.lastIdx.getD 0 + 1)).flatMap fun i => tgetD x.frags i [])
  else s.setFlt { s.flt with reasm := rest ++ [x] }

/-- A HEALTH element (R177). -/
def State.fleetHealth (s : State) (robot : Nat) (body : List Byte) : State :=
  let b := slice body 0 8
  let changed := match s.robot? robot with
    | some r => (match r.health with | some h => leAt h 0 1 != leAt b 0 1 | none => true)
    | none => false
  let s := s.modRobot robot fun r => { r with health := some b }
  if changed then s.record EV_ROBOT_HEALTH 0 robot (leAt b 0 1) (leAt b 2 1) else s

/-- An element delivered to the allotment engine as a job of class 2: it takes the stamp of its frame's intake job, a claim at FLEET_PRIO,
an OWNFIX at priority 1 (R217, ch. 09; log entry 103). -/
def State.elemJob (s : State) (j : Job) (e : FleetIn) : Job :=
  { id := 0, src := .element e.typ e.robot e.arrival e.seq, cls := 2, prio := if e.typ = 0x21 then max 2 (s.get ALT_CFG_FLEET_PRIO) else 1,
    sn := j.sn, batch := j.batch, seq := j.seq, born := (j.sn, j.batch, j.seq), late := j.late, phase := .ready }

/-- The claims and fixes of a frame, from the inbox's length before it on, become jobs. -/
def State.presentElems (s : State) (old : Nat) (j : Job) : State :=
  ((s.flt.inbox.drop old).filter fun e => e.typ == 0x21 || e.typ == 0x22).foldl (fun s e => s.addJob (s.elemJob j e)) s

/-- deliver() of R171: each element goes to its owner in element order. -/
def State.fleetDeliver (s : State) (port robot arrival seq : Nat) (es : List Elem) : State :=
  es.foldl (fun s e =>
    match e.typ with
    | 0x20 | 0x21 | 0x22 => s.setFlt { s.flt with inbox := s.flt.inbox ++ [⟨e.typ, robot, arrival, seq, e.body⟩] }
    | 0x23 => s.fleetHealth robot e.body
    | 0x10 => s.fleetFragment port robot arrival e.body
    | _ => s) (s.count FLT_RX_OK 1)

/-- Accepted or duplicate: SNR, last SN and the ACK due (R172). -/
def State.noteAccepted (s : State) (robot arrival : Nat) (snr : Int) : State :=
  (s.modRobot robot fun r => { r with snr := snr, lastSn := some arrival, silent := false }).queueAck robot

/-- seq_rule() of R171. -/
def State.seqRule (s : State) (robot port arrival flags seq : Nat) (snr : Int) (es : List Elem) : State :=
  match tget s.flt.robots robot with
  | none => s
  | some r =>
    let d := seqDiff seq r.high
    if bit flags 2 && !r.seen seq then
      ((s.modRobot robot fun r => { r with high := seq, win := 0 }).noteAccepted robot arrival snr).fleetDeliver
        port robot arrival seq es
    else if r.seen seq then
      let s := (s.count FLT_RX_DUP 1).queueAck robot
      match r.replies.find? fun x => x.1 == seq with
      | some x => s.queueElem robot 4 0 ⟨0x07, robot, x.2⟩
      | none => s
    else if 0 < d then
      ((s.modRobot robot fun r => { r with high := seq, win := advanceWin r.win d.toNat }).noteAccepted robot arrival
        snr).fleetDeliver port robot arrival seq es
    else if -d ≤ 64 then
      ((s.modRobot robot fun r => { r with win := setBit r.win ((-d).toNat - 1) }).noteAccepted robot arrival
        snr).fleetDeliver port robot arrival seq es
    else (s.count FLT_RX_STALE 1).record EV_REPLAY 0 robot seq r.high

/-- AUTH_FAIL, recorded at most once per superframe for each robot (R182). -/
def State.fleetAuthFail (s : State) (r : Nat) (x : Robot) (c arrival : Nat) : State :=
  let s := s.count FLT_RX_AUTH_FAIL 1
  if x.authSf = some (s.sn / 40) then s
  else (s.modRobot r fun x => { x with authSf := some (s.sn / 40) }).record EV_AUTH_FAIL 0 r c arrival

/-- accept() of R170 for a frame of a fleet channel; `micOk` is the outcome of the CCM check. -/
def State.acceptUplink (s : State) (c : Nat) (f : RxFrame) (micOk : Bool) : State :=
  let b := f.bytes
  let a := f.sn
  let r := leAt b 4 2
  if 7 < cflSyms f.mode f.mcs b.length || b.length < 32 then s.count FLT_RX_STALE 1
  else if leAt b 0 1 != 0x11 || leAt b 2 2 != s.get FLT_CFG_NET_ID || decide (255 < r) then s.count FLT_RX_STALE 1
  else match tget s.flt.robots r with
    | none => s.count FLT_RX_STALE 1
    | some x =>
      if x.home != c || (match x.gone with | some u => decide (u < a) | none => false) then s.count FLT_RX_STALE 1
      else if leAt b 16 8 != a then s.count FLT_RX_STALE 1
      else if !x.holdsSlot a then
        let s := s.count FLT_UNSLOTTED 1
        if x.slotSf = some (s.sn / 40) then s
        else (s.modRobot r fun x => { x with slotSf := some (s.sn / 40) }).record EV_SLOT_VIOLATION 0 r c (a % 40)
      else if !s.fleetGenOk (leAt b 6 1) a || !micOk then s.fleetAuthFail r x c a
      else match readElems b.length (openPsdu (s.linkKey r (leAt b 6 1) (s.fleetSlot (leAt b 6 1))) b) with
        | none => s.count FLT_RX_STALE 1
        | some es =>
          if s.num PAI_EPOCH < leAt b 8 4 then
            ((s.count FLT_RX_EPOCH_AHEAD 1).setFlt
              { s.flt with epochSeen := max s.flt.epochSeen (leAt b 8 4) }).record EV_EPOCH_AHEAD 0 r (leAt b 8 4) (s.num PAI_EPOCH)
          else s.seqRule r f.port a (leAt b 1 1) (leAt b 12 4) f.snr es

/-- UPLINK_ACCEPT (R170): the next frame received on a fleet channel is processed. -/
def execUplinkAccept (micOk : Bool) (s : State) : Host.Outcome State Fault Refusal :=
  .next (if !s.serving then s else s.runIntake (fun p => decide (32 ≤ p) && decide (p < 40)) (fun f => isCfl f.mode) fun j f s =>
    match s.fleetChanOf f.port f.ch with
    | some c => if s.flag FLT_CFG_ENABLE then (s.acceptUplink c f micOk).presentElems s.flt.inbox.length j else s
    | none => s)

/-- ROBOT_SILENT (R182): a robot holding slots has sent no accepted frame for FLT_SILENT_SF superframes; once. -/
def execRobotSilent (robot : Nat) (s : State) : Host.Outcome State Fault Refusal :=
  .next (if !s.serving then s else match s.robot? robot with
    | none => s
    | some r =>
      let n := s.sn / 40 - (r.lastSn.getD r.enrolSn) / 40
      if r.silent || (r.specsAt (s.sn / 40)).isEmpty || decide (n < s.get FLT_SILENT_SF_SUPERFRAMES) then s
      else (s.modRobot robot fun r => { r with silent := true }).record EV_ROBOT_SILENT 0 robot n 0)

/-- DATA_REASSEMBLY_TIMEOUT (R176): packets incomplete 100 superframes after their first fragment are discarded. -/
def execDataReassemblyTimeout (s : State) : Host.Outcome State Fault Refusal :=
  .next (if !s.serving then s else
    let old := s.flt.reasm.filter fun x => decide (x.firstSf + 100 ≤ s.sn / 40)
    (s.setFlt { s.flt with reasm := s.flt.reasm.filter fun x => decide (s.sn / 40 < x.firstSf + 100) }).count FLT_DATA_DROP
      old.length)

/-- The robot's Baseline state is discarded (R184), and BSL_STATUS.ROVERS counts the robots in central mode (R210). -/
def State.dropRover (s : State) (r : Nat) : State :=
  let s := s.setBsl { s.bsl with rovers := tdel s.bsl.rovers r }
  s.put BSL_STATUS_ROVERS (s.flt.robots.filter fun x => x.2.gone.isNone && x.2.central).length

/-- Retirement turns every item of the robot into a hold (R230). -/
def State.retireHolds (s : State) (r : Nat) : State :=
  let hold (k : Item) : Item := { k with hold := true, overdue := false, ex := 2 ^ 64 - 1 }
  s.setAlt { s.alt with robots := tmod s.alt.robots r fun x => { x with chain := x.chain.map hold } }

/-! ### Ring commands (R181) -/

/-- A fleet channel of the site is enabled. -/
def State.chanOn (s : State) (c : Nat) : Bool := decide (c < 8) && s.fleetChans.contains c

/-- FLT_ROBOT_ENROL. -/
def execFltRobotEnrol (d : Desc) (s : State) : Host.Outcome State Fault Refusal :=
  .next (s.command d fun s =>
    let r := d.op 32 1
    let home := d.op 33 1
    if !s.chanOn home then s.fail 0x11
    else
      let old := s.robot? r
      if old.isSome && !bit (d.op 37 1) 0 then s.fail stCONFLICT
      else
        let fresh : Robot := { home := home, central := d.op 34 1 == 1, crew := d.op 35 1, dlMcs := d.op 36 1, enrolSn := s.sn }
        let x : Robot := match old with
          | some o =>
            if o.home = home then { fresh with specs := o.specs, newSpecs := o.newSpecs, specsSf := o.specsSf }
            else { fresh with specsSf := some (s.sn / 40 + 1) }
          | none => fresh
        let s := s.setFlt { s.flt with robots := tput s.flt.robots r x }
        let s := s.setFlt { s.flt with bcn := s.flt.bcn.map fun b => if b.rank ≤ 5 && b.key == r then { b with chan := home } else b }
        (((s.usedS (branchEntry 8 s.key.fleet.slot)).dropRover r).record EV_ROBOT_ENROLLED 0 r home (d.op 34 1)).ok)

/-- First clash of a set of specs: the other robot and the index within the set (R169, R181). -/
def State.firstClash (s : State) (robot home : Nat) (sp : List SlotSpec) : Option (Nat × Nat) :=
  (List.range sp.length).findSome? fun i =>
    match sp[i]? with
    | none => none
    | some p =>
      if (sp.eraseIdx i).any fun q => p.clash q then some (robot, i)
      else (s.flt.robots.find? fun x => x.1 != robot && x.2.gone.isNone && x.2.home == home &&
        (x.2.lastSpecs ++ x.2.specsAt (s.sn / 40 + 1)).any fun q => p.clash q).map fun x => (x.1, i)

/-- FLT_ROBOT_SLOTS. -/
def execFltRobotSlots (d : Desc) (s : State) : Host.Outcome State Fault Refusal :=
  .next (s.command d fun s =>
    let r := d.op 32 1
    match s.robot? r with
    | none => s.fail 0x10
    | some x =>
      let sp := readSpecs d.buf
      match s.firstClash r x.home sp with
      | some (o, i) => s.fail stCONFLICT (o + 256 * i)
      | none =>
        let sf := s.sn / 40 + 1
        (s.modRobot r fun x => { x with specs := x.specsAt (s.sn / 40), newSpecs := some (sf, sp), specsSf := some sf }).ok)

/-- FLT_ROBOT_RETIRE: slots released, queued elements dropped, frames refused from the next stroke. -/
def execFltRobotRetire (d : Desc) (s : State) : Host.Outcome State Fault Refusal :=
  .next (s.command d fun s =>
    let r := d.op 32 1
    match s.robot? r with
    | none => s.fail 0x10
    | some _ =>
      let s := s.modRobot r fun x => { x with gone := some s.sn, newSpecs := some (s.sn / 40 + 1, []) }
      let s := s.setFlt { s.flt with
        bcn := s.flt.bcn.filter fun b => b.rank == 6 || b.key != r
        notices := s.flt.notices.filter fun n => n.robot != r
        data := s.flt.data.filter fun x => x.robot != r
        reasm := s.flt.reasm.filter fun x => x.robot != r }
      (((s.retireHolds r).dropRover r).record EV_ROBOT_RETIRED 0 r 0 0).ok)

/-- FLT_ROBOT_QUERY. -/
def execFltRobotQuery (d : Desc) (s : State) : Host.Outcome State Fault Refusal :=
  .next (s.command d fun s =>
    match s.robot? (d.op 32 1) with
    | none => s.fail 0x10
    | some x => s.answer d (leBytes 1 1 ++ leBytes 1 x.home ++ leBytes 1 (b2n x.central) ++ leBytes 1 x.crew ++ leBytes 4 x.high ++
        leBytes 8 x.win ++ leBytes 8 (x.lastSn.getD 0) ++ slice (x.health.getD []) 0 8))

/-- At a stroke edge: retired robots whose last stroke has passed leave, the registers follow. -/
def State.fleetEdge (s : State) : State :=
  (s.setFlt { s.flt with robots := s.flt.robots.filter fun x => match x.2.gone with
    | some u => decide (s.sn ≤ u + 1)
    | none => true }).showFleet

end Sys2Proof.Machine
end

