-- ==== Sys2Proof/Machine/Gnss.lean ====
section
/-! DEFINITION. The GNSS baseband (R101–R125): ports, channels, measurement epochs and their checks, time offers, the
self-survey, the keep-alive. The signals themselves, the single-point solution and the measured clocks are the operands of
the rows that bring them. -/

namespace Sys2Proof.Machine

open Sys2Proof

/-! ### Signals (R105) -/

/-- Constellation bit of CONST_EN of a signal index. -/
def sigConst (g : Nat) : Nat := if g ≤ 2 then 0 else if g ≤ 4 then 3 else if g ≤ 7 then 1 else if g ≤ 11 then 2 else 4

/-- Band of a signal index. -/
def sigBand : Nat → Nat
  | 0 | 3 | 5 | 8 | 9 | 12 => 0
  | 1 | 4 | 13 => 1
  | 2 | 6 | 10 | 14 => 2
  | _ => 3

/-- Lowest and highest carrier of a signal index in Hz; its half-width in Hz. -/
def sigHz : Nat → Int × Int × Int
  | 0 | 12 => (1575420000, 1575420000, 1023000)
  | 1 | 13 => (1227600000, 1227600000, 1023000)
  | 2 | 6 | 10 | 14 => (1176450000, 1176450000, 10230000)
  | 3 => (1602000000 - 7 * 562500, 1602000000 + 6 * 562500, 511000)
  | 4 => (1246000000 - 7 * 437500, 1246000000 + 6 * 437500, 511000)
  | 5 => (1575420000, 1575420000, 2046000)
  | 7 | 15 => (1278750000, 1278750000, 5115000)
  | 8 => (1561098000, 1561098000, 2046000)
  | 9 => (1575420000, 1575420000, 2046000)
  | _ => (1268520000, 1268520000, 10230000)

/-- Reference frequency of a band in Hz (R103). -/
def bandHz : Nat → Int
  | 0 => 1575420000 | 1 => 1227600000 | 2 => 1176450000 | _ => 1278750000

/-- Sample rate of a RATE code in Hz (R102). -/
def gnsRate : Nat → Int
  | 0 => 20460000 | 1 => 40920000 | _ => 81840000

/-- Enabled port that serves a band. -/
def State.bandPort (s : State) (band : Nat) : Option Nat :=
  (List.range 4).find? fun p => s.flag (GNS_PORT_CFG_ENABLE p) && s.get (GNS_PORT_CFG_BAND p) == band

/-- A signal fits its port (R105): both edges within ±0.4 of the sample rate. -/
def State.sigAvail (s : State) (g : Nat) : Bool :=
  match s.bandPort (sigBand g) with
  | none => false
  | some p =>
    let (lo, hi, w) := sigHz g
    let off := signed 32 (s.num (GNS_PORT_IF_HZ p)) - bandHz (sigBand g)
    let lim := gnsRate (s.get (GNS_PORT_CFG_RATE p)) * 2
    decide (-lim ≤ 5 * (lo + off - w)) && decide (5 * (hi + off + w) ≤ lim)

/-- GNS_SIG_AVAIL, GNS_TRACKED and GNS_STATUS.JAM follow the state. -/
def State.showGnss (s : State) : State :=
  let s := s.put GNS_SIG_AVAIL_BITS ((List.range 16).foldl (fun m g => m + b2n (s.sigAvail g) * 2 ^ g) 0)
  let s := s.put GNS_TRACKED_CHANNELS s.gns.tracks.length
  s.put GNS_STATUS_JAM (b2n ((List.range 4).any fun p => s.flag (GNS_PORT_STAT_JAM p)))

/-! ### Ports (R102, R104, R113) -/

/-- PORT_CLOCK_LOST (R102): the deviations of the last strokes in ppb, oldest first, lie beyond 1 ppm for 40 of them; the port's channels
stop. -/
def execPortClockLost (port : Nat) (devs : List Int) (s : State) : Host.Outcome State Fault Refusal :=
  .next (if !s.serving || !clockBad 1000 devs then s else
    let gone (t : Track) : Bool := s.flag (GNS_PORT_CFG_ENABLE port) && sigBand t.sig == s.get (GNS_PORT_CFG_BAND port)
    let s := s.setGns { s.gns with tracks := s.gns.tracks.filter fun t => !gone t }
    ((s.put (GNS_PORT_STAT_CLK_OK port) 0).showGnss).record EV_PORT_CLOCK_LOST 0 port (sat32 (devs.getLastD 0)) 0)

/-- GNSS_PORT_CLOCK_OK (R102): after 40 good strokes the port restarts. -/
def execGnssPortClockOk (port : Nat) (devs : List Int) (s : State) : Host.Outcome State Fault Refusal :=
  .next (if !s.serving || !clockGood 1000 devs then s else s.put (GNS_PORT_STAT_CLK_OK port) 1)

/-- GNSS_SPI_TRANSFER (R104): writing GO in GNS_SPI_CTRL runs a transfer; WBITS bits leave on GF_SDIO. -/
def execGnssSpiTransfer (value : Word) (s : State) : Host.Outcome State Fault Refusal :=
  .next (if !s.mainLive then s else
    let busy := s.flag GNS_SPI_CTRL_GO
    let s := s.wr GNS_SPI_CTRL (spiWrite (s.rd GNS_SPI_CTRL) value true)
    let n := s.get GNS_SPI_CTRL_WBITS
    if busy || !s.flag GNS_SPI_CTRL_GO then s else s.emit (.spi false (s.get GNS_SPI_CTRL_SEL) n (spiOut (s.num GNS_SPI_DATA) n)))

/-- GNSS_SPI_DONE (R104): WBITS bits have left GNS_SPI_DATA, most significant first; RBITS bits stand in its low end. -/
def execGnssSpiDone (bits : Nat) (s : State) : Host.Outcome State Fault Refusal :=
  .next (if !s.serving then s else
    if s.get GNS_SPI_CTRL_GO = 0 then s
    else (s.put GNS_SPI_CTRL_GO 0).setNum GNS_SPI_DATA
      (spiShift (s.num GNS_SPI_DATA) (s.get GNS_SPI_CTRL_WBITS) (s.get GNS_SPI_CTRL_RBITS) bits))

/-- Value of a sign and magnitude pair (R101). -/
def gnsValue (sign mag : Bool) : Int := (if sign then -1 else 1) * (if mag then 3 else 1)

/-- A complex sample from the pins IS, IM, QS, QM as bits 0 to 3 (R101). -/
def gnsSample (x : Nat) : Int × Int := (gnsValue (bit x 0) (bit x 1), gnsValue (bit x 2) (bit x 3))

/-- Fraction in 1/256 of the values whose magnitude bit is 1 (R104, R125). -/
def magFrac (xs : List Nat) : Nat :=
  let n := (xs.map fun x => let v := gnsSample x; b2n (absI v.1 == 3) + b2n (absI v.2 == 3)).sum
  min 255 (256 * n / (2 * xs.length))

/-- AGC of a port in a stroke (R104): the duty moves against the deviation of the magnitude fraction, in 40 strokes by what the front end
asks for (log entry 113). -/
def State.agcPort (s : State) (p m : Nat) : State :=
  let o := s.get (GNS_PORT_STAT_AGC_OUT p)
  let acc := (tget s.gns.agcAcc p).getD (40 * (o : Int))
  let acc := clampI 0 (40 * 1023) (acc + ((m : Int) - (s.get (GNS_PORT_CFG_AGC_TARGET p) : Int)) * ((Config.agcGain + 1 : Nat) : Int))
  ((s.put (GNS_PORT_STAT_MAG_FRAC p) m).setGns { s.gns with agcAcc := tput s.gns.agcAcc p acc }).put (GNS_PORT_STAT_AGC_OUT p)
    (acc / 40).toNat

/-- The AGC duty of a port has risen by at least 10 % of full range over 4,000 strokes (R113). -/
def State.agcRose (s : State) (p : Nat) : Bool :=
  match ((tget s.gns.agcHist p).getD [])[4000]? with
  | some o => decide (1023 ≤ 10 * (s.get (GNS_PORT_STAT_AGC_OUT p) - o))
  | none => false

/-- Fall of the mean C/N0 of a port's tracked signals over 4,000 strokes, 20 epochs, in 1/16 dB (R113). -/
def State.cn0Fall (s : State) (p : Nat) : Nat :=
  match (tget s.gns.cn0Hist p).getD [] with
  | [] => 0
  | x :: r => match r[19]? with | some y => y - x | none => 0

/-- A condition of R113 holds now. -/
def State.noteJam (s : State) (p : Nat) : State :=
  if s.agcRose p || decide (96 ≤ s.cn0Fall p) then s.setGns { s.gns with jamAt := tput s.gns.jamAt p s.now } else s

/-- What the GNSS ports received in the last stroke (R104): the AGC of each, and its history. -/
def State.agcEdge (s : State) (samples : List (List Nat)) : State :=
  (List.range 4).foldl (fun s p =>
    if !s.flag (GNS_PORT_CFG_ENABLE p) then s
    else
      let xs := samples.getD p []
      let s := if s.flag (GNS_PORT_CFG_AGC_EN p) && !xs.isEmpty then s.agcPort p (magFrac xs) else s
      let hist := (s.get (GNS_PORT_STAT_AGC_OUT p) :: (tget s.gns.agcHist p).getD []).take 4001
      (s.setGns { s.gns with agcHist := tput s.gns.agcHist p hist }).noteJam p) s

/-- JAM_DETECTED (R113): over the last 4,000 strokes the mean C/N0 fell by at least 6 dB and the AGC duty rose by at least 10 %. -/
def execJamDetected (port : Nat) (s : State) : Host.Outcome State Fault Refusal :=
  .next (if !s.serving then s else
    if s.flag (GNS_PORT_STAT_JAM port) || !s.agcRose port || decide (s.cn0Fall port < 96) then s
    else ((s.put (GNS_PORT_STAT_JAM port) 1).showGnss).record EV_JAM_DETECTED 0 port (s.cn0Fall port * 10 / 16)
      (s.get (GNS_PORT_STAT_AGC_OUT port)))

/-- JAM_CLEARED (R113): 4,000 strokes in which neither condition held. -/
def execJamCleared (port : Nat) (s : State) : Host.Outcome State Fault Refusal :=
  .next (if !s.serving then s else
    let since := match tget s.gns.jamAt port with | some n => decide (n + 4000 ≤ s.now) | none => true
    if s.flag (GNS_PORT_STAT_JAM port) && since then ((s.put (GNS_PORT_STAT_JAM port) 0).showGnss).record EV_JAM_CLEARED 0 port 0 0
    else s)

/-! ### Channels (R106) -/

/-- Order of R106: elevation descending, then CONST_EN bit, then PRN or slot. -/
def SatView.before (a b : SatView) : Bool :=
  decide (b.elev < a.elev) || (a.elev == b.elev && (decide (a.cst < b.cst) || (a.cst == b.cst && decide (a.prn ≤ b.prn))))

/-- Insertion in that order. -/
def insertSat (x : SatView) : List SatView → List SatView
  | [] => [x]
  | y :: r => if y.before x then y :: insertSat x r else x :: y :: r

/-- Signals of a constellation, index ascending. -/
def constSigs (cst : Nat) : List Nat := (List.range 16).filter fun g => sigConst g == cst

/-- The port of a signal's band has its clock (R102). -/
def State.sigClock (s : State) (g : Nat) : Bool := match s.bandPort (sigBand g) with | some p => s.flag (GNS_PORT_STAT_CLK_OK p) | none => false

/-- CHANNEL_ASSIGN (R106): every 4,000 strokes channels below the mask are freed and free channels assigned. -/
def execChannelAssign (sats : List SatView) (s : State) : Host.Outcome State Fault Refusal :=
  .next (if !s.serving then s else
    let up := sats.filter fun v => bit (s.get GNS_CFG_CONST_EN) v.cst && decide ((s.get GNS_CFG_ELEV_MASK : Int) * 10 < v.elev)
    let kept := s.gns.tracks.filter fun t => sats.any fun v =>
      v.cst == sigConst t.sig && v.prn == t.prn && decide ((s.get GNS_CFG_ELEV_MASK : Int) * 10 ≤ v.elev)
    let want := (up.foldl (fun l v => insertSat v l) []).flatMap fun v =>
      (constSigs v.cst).filterMap fun g =>
        if s.sigAvail g && s.sigClock g && !(kept.any fun t => t.sig == g && t.prn == v.prn) then
          some (⟨g, v.prn, v.fcn, s.now, none⟩ : Track)
        else none
    let left := want.length - (512 - kept.length)
    let s := (s.setGns { s.gns with tracks := kept ++ want.take (512 - kept.length) }).showGnss
    if left = 0 then s.setGns { s.gns with fullSaid := false }
    else if s.gns.fullSaid then s
    else (s.setGns { s.gns with fullSaid := true }).record EV_CHANNELS_FULL 0 left 0 0)

/-- SIGNAL_LOCK_LOST (R106): a signal has been without lock for 1 s and leaves its channel. -/
def execSignalLockLost (sig prn : Nat) (s : State) : Host.Outcome State Fault Refusal :=
  .next (if !s.serving then s else s.setGns { s.gns with tracks := s.gns.tracks.filter fun t => !(t.sig == sig && t.prn == prn) }).showGnss

/-! ### Measurement epochs (R107–R112) -/

/-- Mean C/N0 of the tracked signals of a port's band in an epoch, in 1/16 dB-Hz; the last one stands where none is tracked. -/
def State.noteCn0 (s : State) (meas : List Meas) (p : Nat) : State :=
  let mine := meas.filter fun m => sigBand m.sig == s.get (GNS_PORT_CFG_BAND p)
  if !s.flag (GNS_PORT_CFG_ENABLE p) || mine.isEmpty then s
  else
    let mean := (mine.map Meas.cn0).sum / mine.length
    (s.setGns { s.gns with cn0Hist := tput s.gns.cn0Hist p ((mean :: (tget s.gns.cn0Hist p).getD []).take 21) }).noteJam p

/-- An ephemeris kept because its successor was rejected is kept for up to 2 h (R111 check 2). -/
def State.dropOldEph (s : State) : State :=
  let old := s.gns.rejected.filter fun x => decide (x.2 + 28800000 < s.gns.upPeriods)
  if old.isEmpty then s
  else s.setGns { s.gns with eph := s.gns.eph.filter fun e => !(old.any fun x => x.1.cst == e.cst && x.1.prn == e.prn) }

/-- MEASUREMENT_EPOCH (R107, R110): at a count that is a multiple of 200 the channels latch. -/
def execMeasurementEpoch (meas : List Meas) (s : State) : Host.Outcome State Fault Refusal :=
  .next (
    if !s.serving || s.now % 200 != 0 then s
    else
      let mine := meas.filter fun m => s.gns.tracks.any fun t => t.sig == m.sig && t.prn == m.prn
      let s := s.dropOldEph
      let two := (s.now :: s.gns.epochs).take 2
      let s := s.setGns { s.gns with latched := some (s.now, mine), preEpoch := !s.stroked, epochs := two }
      (List.range 4).foldl (fun s p => s.noteCn0 mine p) s)

/-- A signal exclusion is counted and recorded (R111, R124). -/
def State.exclude (s : State) (check sig prn : Nat) (cm : Int) : State :=
  (s.count GNS_EXCLUDED 1).record EV_SIGNAL_EXCLUDED 0 (256 * check + sig) (256 * sigConst sig + prn) (sat32 cm)

/-- Check 3 (R111): a change of code minus carrier of more than 1.5 m is a slip; the lock time restarts. -/
def State.checkSlip (s : State) (sn : Nat) (m : Meas) : State × SetEntry :=
  let cc := m.pr - m.cp
  let old := s.gns.tracks.find? fun t => t.sig == m.sig && t.prn == m.prn
  let slip := match old with
    | some t => (match t.codeCarrier with | some (e, c) => s.gns.epochs[1]? == some e && decide (98304 < absI (cc - c)) | none => false)
    | none => false
  let lockSn := if slip then sn else match old with | some t => t.lockSn | none => sn
  let s := s.setGns { s.gns with tracks := s.gns.tracks.map fun t =>
    if t.sig = m.sig ∧ t.prn = m.prn then { t with codeCarrier := some (sn, cc), lockSn := lockSn } else t }
  (s, ⟨m, b2n slip + 16 * b2n m.half, min 65535 ((sn - lockSn) / 400)⟩)

/-- Key of an inter-signal difference. -/
abbrev IfbKey := Nat × Nat × Nat × Nat

/-- Differences of a key over the 60 s (240,000 strokes) before an epoch. -/
def Gnss.ifbOf (g : Gnss) (k : IfbKey) (sn : Nat) : List (Nat × Int) :=
  match g.ifb.find? fun x => x.1 == k with | some x => x.2.filter fun d => decide (sn ≤ d.1 + 240000) | none => []

/-- Add the difference of an epoch. -/
def Gnss.addIfb (g : Gnss) (k : IfbKey) (sn : Nat) (d : Int) : Gnss :=
  { g with ifb := (g.ifb.filter fun x => x.1 != k) ++ [(k, (sn, d) :: g.ifbOf k sn)] }

/-- Difference of d from the mean of a list, in 2^−16 m; 0 for an empty list. -/
def fromMean (l : List Int) (d : Int) : Int :=
  if l.isEmpty then 0 else d - (l.foldl (· + ·) 0) / (l.length : Int)

/-- Pairs of signals of one satellite in a set. -/
def ifbPairs (es : List SetEntry) : List (IfbKey × Int) :=
  es.flatMap fun a => (es.filter fun b => decide (a.meas.sig < b.meas.sig) && a.meas.prn == b.meas.prn &&
    sigConst a.meas.sig == sigConst b.meas.sig).map fun b =>
      ((sigConst a.meas.sig, a.meas.prn, a.meas.sig, b.meas.sig), a.meas.pr - b.meas.pr)

/-- Set flag bit `i` in the entries that a test picks. -/
def flagEntries (es : List SetEntry) (i : Nat) (p : SetEntry → Bool) : List SetEntry :=
  es.map fun e => if p e then { e with flags := setBit e.flags i } else e

/-- Check 4 (R111): both signals of a pair off its mean by more than IFB_LIMIT_M are SUSPECT. -/
def State.checkIfb (s : State) (sn : Nat) (es : List SetEntry) : State × List SetEntry :=
  let mean (x : IfbKey × Int) : Int := fromMean ((s.gns.ifbOf x.1 sn).map Prod.snd) x.2
  let lim : Int := s.get GNS_CHECK_CFG_IFB_LIMIT_M * 65536
  let bad := (ifbPairs es).filter fun x => decide (lim < absI (mean x))
  let hit (e : SetEntry) : Option Int := (bad.find? fun x => x.1.2.1 == e.meas.prn && x.1.1 == sigConst e.meas.sig &&
    (x.1.2.2.1 == e.meas.sig || x.1.2.2.2 == e.meas.sig)).map mean
  let s' := es.foldl (fun s' e => match hit e with
    | some d => s'.exclude 4 e.meas.sig e.meas.prn (d * 100 / 65536)
    | none => s') s
  let s' := ((ifbPairs es).filter fun x => !bad.contains x).foldl (fun s' x => s'.setGns (s'.gns.addIfb x.1 sn x.2)) s'
  (s', flagEntries es 1 fun e => (hit e).isSome)

/-- Order of a set's entries: signal index, then PRN or slot (R185). -/
def insertEntry (e : SetEntry) : List SetEntry → List SetEntry
  | [] => [e]
  | x :: r =>
    if x.meas.sig < e.meas.sig || (x.meas.sig == e.meas.sig && decide (x.meas.prn ≤ e.meas.prn)) then x :: insertEntry e r
    else e :: x :: r

/-- Satellites with at least one signal that is not excluded (R112). -/
def goodSats (es : List SetEntry) : Nat :=
  ((es.filter fun e => !bit e.flags 1 && !bit e.flags 2).map fun e => 256 * sigConst e.meas.sig + e.meas.prn).eraseDups.length

/-- The ARP in force goes into the registers of the survey (R115). -/
def State.setSurvey (s : State) (p : Int × Int × Int) : State :=
  let one (s : State) (lo hi : Nat) (v : Int) : State :=
    (s.setNum lo (unsigned 32 v)).setNum hi (unsigned 32 (v / 2 ^ 32))
  one (one (one s GNS_SURVEY_X_LO GNS_SURVEY_X_HI p.1) GNS_SURVEY_Y_LO GNS_SURVEY_Y_HI p.2.1) GNS_SURVEY_Z_LO GNS_SURVEY_Z_HI p.2.2

/-- A coordinate of the ARP registers: 38 bits signed (R114, R125). -/
def State.arpReg (s : State) (lo hi : Nat) : Int := signed 38 (s.num64 lo hi)

/-- The ARP of the registers (R114). -/
def State.cfgArp (s : State) : Int × Int × Int :=
  (s.arpReg GNS_ARP_X_LO GNS_ARP_X_HI, s.arpReg GNS_ARP_Y_LO GNS_ARP_Y_HI, s.arpReg GNS_ARP_Z_LO GNS_ARP_Z_HI)

/-- Division of an integer by a positive number, to nearest, halves away from zero. -/
def divRound (a : Int) (n : Nat) : Int :=
  if 0 ≤ a then (2 * a + (n : Int)) / (2 * (n : Int)) else -((2 * -a + (n : Int)) / (2 * (n : Int)))

/-- Integer square root of a number below 2^80. -/
def isqrt (v : Nat) : Nat := isqrtFrom 40 0 v

/-- The three-dimensional standard deviation of the mean in mm, rounded up (R115): the least v whose square is not below
(n Σx² − (Σx)²) / (n² (n − 1)) in mm². -/
def Survey.sigma (v : Survey) : Nat :=
  if v.n < 2 then 0
  else
    let s2 := v.sum.1 * v.sum.1 + v.sum.2.1 * v.sum.2.1 + v.sum.2.2 * v.sum.2.2
    let den := 100 * v.n * v.n * (v.n - 1)
    let q := (((v.n : Int) * (v.sq : Int) - s2).toNat + den - 1) / den
    let r := isqrt q
    if r * r < q then r + 1 else r

/-- Whole seconds a survey has run, at period `now` of the baseband. -/
def Survey.seconds (v : Survey) (now : Nat) : Nat := (now - v.startAt) / 4000

/-- An epoch that passes all checks enters the survey; it ends when both its limits are met (R115). -/
def State.surveyEpoch (s : State) (p : Int × Int × Int) : State :=
  match s.gns.survey with
  | none => s
  | some v =>
    let v := { v with n := v.n + 1, sum := (v.sum.1 + p.1, v.sum.2.1 + p.2.1, v.sum.2.2 + p.2.2),
                      sq := v.sq + (p.1 * p.1 + p.2.1 * p.2.1 + p.2.2 * p.2.2).toNat }
    let sigma := v.sigma
    let s := (s.setGns { s.gns with survey := some v }).setNum GNS_SURVEY_SIGMA sigma
    let secs := v.seconds s.gns.upPeriods
    if 2 ≤ v.n && decide (s.get GNS_SURVEY_CFG_SURVEY_MIN_S ≤ secs) && decide (sigma ≤ s.get GNS_SURVEY_CFG_SURVEY_SIGMA_MM) then
      let m := (divRound v.sum.1 v.n, divRound v.sum.2.1 v.n, divRound v.sum.2.2 v.n)
      let s := (s.setGns { s.gns with survey := none, arp := some m, lastArp := some m }).setSurvey m
      ((s.put GNS_STATUS_BASE_FIXED 1).put GNS_STATUS_SURVEYING 0).record EV_SURVEY_DONE 0 secs sigma v.n
    else s

/-- TB0 is in holdover with GNSS as the lost source (R118). -/
def State.gnssAway (s : State) : Bool := s.flag TIM_STATUS_HOLDOVER && s.tim.lostSrc == 1

/-- Check 6 (R111, R118), where the epoch of SN `sn` has entries: the bias against its prediction. -/
def State.checkClock (s : State) (sol : Solution) (sn : Nat) (bias : Int) (es : List SetEntry) : State × Bool :=
  if es.isEmpty then (s.setGns { s.gns with prevBias := none }, true) else
  let ref := if s.gnssAway then s.gns.prevBias else s.gns.offeredBias
  let dev := match ref with | some b => bias - (b + sol.drift) | none => 0
  let bad := decide ((s.get GNS_CHECK_CFG_CLK_LIMIT_NS : Int) < absI dev)
  let s := (s.setGns { s.gns with prevBias := some bias }).put GNS_STATUS_CLK_INCONSISTENT (b2n bad)
  (if bad then s.record EV_CLOCK_INCONSISTENT 0 (sat32 dev) sn 0 else s, !bad)

/-- An epoch makes no time offer (R117). -/
def State.noOffer (s : State) : State := s.setGns { s.gns with noOffer := s.gns.noOffer + 1, agree := 0 }

/-- Epochs in holdover agree with one another within CLK_LIMIT_NS, allowing for the drift (R118): the run goes on with this one, or begins
with it. -/
def State.noteAgree (s : State) (bias drift : Int) : State :=
  let lo := min (s.gns.span.1 + drift) bias
  let hi := max (s.gns.span.2 + drift) bias
  if 0 < s.gns.agree && decide (hi - lo ≤ (s.get GNS_CHECK_CFG_CLK_LIMIT_NS : Int)) then
    s.setGns { s.gns with agree := s.gns.agree + 1, span := (lo, hi) }
  else s.setGns { s.gns with agree := 1, span := (bias, bias) }

/-- A survey of the device's own ARP begins at an epoch that offers time after SYS_ENGAGE (R115). -/
def State.startSurvey (s : State) : State :=
  if s.gns.survey.isNone && s.gns.arp.isNone && s.flag GNS_CFG_ARP_MODE && s.engaged then
    (s.setGns { s.gns with survey := some ⟨0, (0, 0, 0), 0, s.gns.upPeriods, false⟩ }).put GNS_STATUS_SURVEYING 1
  else s

/-- The epoch offers time to TB0 (R112). In holdover with GNSS as the lost source offers resume when RETURN_S seconds of consecutive epochs
have agreed, from the first to this one (R118). -/
def State.gnssOffer (s : State) (bias drift : Int) (sats : Nat) : State :=
  let waits := s.gnssAway && !s.gns.resumed
  let s := if waits then s.noteAgree bias drift else s.setGns { s.gns with agree := 0, resumed := s.gnssAway }
  if waits && decide (s.gns.agree < s.get GNS_CHECK_CFG_RETURN_S * 20 + 1) then s.setGns { s.gns with noOffer := s.gns.noOffer + 1 }
  else
    let s := if waits then (s.record EV_TIME_OFFERED 0 (sat32 bias) sats 0).setGns { s.gns with resumed := true } else s
    let s := if s.gns.offeredOnce then s
      else (s.setNum GNS_TTFF_MS (s.gns.upPeriods / 4)).setGns { s.gns with offeredOnce := true }
    let s := s.setGns { s.gns with noOffer := 0, lost := false, offeredBias := some bias }
    let s := (s.put GNS_TRACKED_SATS sats).setNum GNS_CLK_BIAS_NS (sat32 bias)
    ((s.put GNS_STATUS_TIME_VALID 1).tb0Offer 1 bias).startSurvey

/-- Check 5 (R111) excludes a signal that no check before it excluded, off by more than RES_LIMIT_M; while BASE_FIXED is 0 it needs
6 satellites. -/
def State.checkResidual (s : State) (sig prn : Nat) (cm : Int) (es : List SetEntry) : State × List SetEntry :=
  let hit (e : SetEntry) : Bool := e.meas.sig == sig && e.meas.prn == prn && !bit e.flags 1 && !bit e.flags 2
  if !es.any hit || decide (absI cm ≤ s.get GNS_CHECK_CFG_RES_LIMIT_M * 100) ||
      (!s.flag GNS_STATUS_BASE_FIXED && decide (goodSats es < 6)) then (s, es)
  else (s.exclude 5 sig prn cm, flagEntries es 2 hit)

/-- Checks 1 to 5 over the measurements of the epoch of SN `sn` (R111): the entries with their flags. -/
def State.checkMeas (s : State) (sol : Solution) (sn : Nat) (meas : List Meas) : State × List SetEntry :=
  let strong := meas.filter fun m => decide (448 ≤ m.cn0)
  let (s, es) := strong.foldl (fun (s, es) m => let (s, e) := s.checkSlip sn m; (s, insertEntry e es)) (s, [])
  let (s, es) := s.checkIfb sn es
  let jam := (List.range 4).filter fun p => s.flag (GNS_PORT_STAT_JAM p)
  let es := flagEntries es 3 fun e => jam.any fun p => s.get (GNS_PORT_CFG_BAND p) == sigBand e.meas.sig
  sol.excluded.foldl (fun (s, es) x => s.checkResidual x.1 x.2.1 x.2.2 es) (s, es)

/-- The epoch makes a time offer (R112). -/
def State.offers (s : State) (x : Checked) : Bool :=
  x.clkOk && decide (s.get GNS_CFG_TIME_MIN_SV ≤ x.sats) && !x.entries.isEmpty

/-- The time offer of an epoch is given to TIME, or none is made (R107, R112, R117); an epoch that passes all checks enters a survey
(R115). -/
def State.offerEpoch (s : State) (x : Checked) : State :=
  let s := if s.offers x then s.gnssOffer x.bias x.drift x.sats else s.noOffer
  if x.clkOk && !x.entries.isEmpty then s.surveyEpoch x.pos else s

/-- The set of an epoch as its offer leaves TB0 (R112, R117, R118, R185). -/
def State.setOf (s : State) (x : Checked) (offered : Bool) : BaseSet :=
  let far := s.flag TIM_STATUS_TB0_FAR && s.tim.far.contains 1
  { epochSn := x.sn
    flags := b2n x.arp.isSome + 2 * b2n (!s.flag GNS_STATUS_TIME_VALID || !offered) + 4 * b2n far + 8 * b2n (!x.clkOk)
    stationId := s.get GNS_STATION_ID_ID, arp := x.arp.getD (0, 0, 0)
    bias := clampI (-2147483648) 2147483647 x.bias, entries := x.entries }

/-- CONSISTENCY_CHECKS (R111, R112): the checks and the time solution of the latched epoch; it stands until it is presented (R108). -/
def execConsistencyChecks (sol : Solution) (s : State) : Host.Outcome State Fault Refusal :=
  .next (if !s.serving then s else match s.gns.latched with
    | none => s
    | some (sn, meas) =>
      let (s, es) := s.checkMeas sol sn meas
      let bias := sol.bias + signed 32 (s.num GNS_ANT_DELAY_NS)
      let (s, clkOk) := s.checkClock sol sn bias es
      let x : Checked := { sn := sn, pre := s.gns.preEpoch, tracked := !meas.isEmpty, arp := s.gns.arp, bias := bias, pos := sol.pos,
                           drift := sol.drift, sats := goodSats es, clkOk := clkOk, entries := es }
      s.setGns { s.gns with latched := none, checked := some x })

/-- TIME_LOST (R117): 20 consecutive epochs have made no offer. -/
def execTimeLost (s : State) : Host.Outcome State Fault Refusal :=
  .next (if !s.serving then s else
    if s.gns.lost || decide (s.gns.noOffer < 20) || !s.flag GNS_STATUS_TIME_VALID then s
    else
      let s := (s.setGns { s.gns with lost := true, agree := 0 }).put GNS_STATUS_TIME_VALID 0
      let s := s.record EV_TIME_LOST 0 20 (s.get GNS_TRACKED_SATS) 0
      if s.get TIM_STATUS_TB0_SRC = 1 && !s.flag TIM_STATUS_HOLDOVER then s.enterHoldover else s)

/-! ### Ephemerides and UTC (R111 check 2, R119) -/

/-- The ephemeris stored for a satellite, replaced. -/
def putEph (l : List Eph) (e : Eph) : List Eph := (l.filter fun x => !(x.cst == e.cst && x.prn == e.prn)) ++ [e]

/-- A value of TAI − UTC is broadcast (R119): taken when two constellations broadcast it alike, or one twice in a row. -/
def State.utcHeard (s : State) (cst : Nat) (v : Int) : State :=
  let twice := tget s.gns.utcSeen cst == some v
  let other := s.gns.utcSeen.any fun x => x.1 != cst && x.2 == v
  let s := s.setGns { s.gns with utcSeen := tput s.gns.utcSeen cst v }
  if twice || other then s.put TIM_UTC_OFFSET_V (unsigned 16 v) else s

/-- A leap second is announced (R119): its new value is taken as every new value is, and recorded once. -/
def State.leapHeard (s : State) (cst : Nat) (l : Int × Nat) : State :=
  let twice := tget s.gns.leapSeen cst == some l
  let other := s.gns.leapSeen.any fun x => x.1 != cst && x.2 == l
  let s := s.setGns { s.gns with leapSeen := tput s.gns.leapSeen cst l }
  if !(twice || other) || s.gns.leapSaid.contains l then s
  else (s.setGns { s.gns with leap := some l, leapSaid := s.gns.leapSaid ++ [l] }).record EV_LEAP_SCHEDULED 0 (sat32 l.1) l.2 0

/-- An accepted ephemeris becomes an input of the Baseline engine with the first set that uses it (R186). -/
def State.presentEph (s : State) (e : Eph) : State := s.setGns { s.gns with ephNew := putEph s.gns.ephNew e }

/-- EPHEMERIS_RECEIVED (R111 check 2, R186): an ephemeris that differs by more than 10 m from the one held is rejected, and
accepted when received twice identical. An accepted one is an input of the Baseline engine. Its message may carry an almanac,
TAI − UTC and an announced leap second. -/
def execEphemerisReceived (cst prn diffM : Nat) (data : List Byte) (alm : Option (List Byte)) (utc : Option Int)
    (leap : Option (Int × Nat)) (s : State) : Host.Outcome State Fault Refusal :=
  .next (if !s.serving then s else
    let e : Eph := ⟨cst, prn, data⟩
    let held := s.gns.eph.any fun x => x.cst == cst && x.prn == prn
    let s :=
      let others := s.gns.rejected.filter fun x => !(x.1.cst == cst && x.1.prn == prn)
      let since := (s.gns.rejected.find? fun x => x.1.cst == cst && x.1.prn == prn).map Prod.snd
      if held && decide (10 < diffM) && !(s.gns.rejected.any fun x => x.1 == e) then
        (s.setGns { s.gns with rejected := others ++ [(e, since.getD s.gns.upPeriods)] }).record EV_EPHEMERIS_REJECTED 0
          (256 * cst + prn) diffM 0
      else (s.setGns { s.gns with eph := putEph s.gns.eph e, rejected := others }).presentEph e
    let s := match alm with | some b => s.setGns { s.gns with alm := putEph s.gns.alm ⟨cst, prn, b⟩ } | none => s
    let s := match utc with | some v => s.utcHeard cst v | none => s
    match leap with | some l => s.leapHeard cst l | none => s)

/-- UTC_OFFSET_CHANGE (R119): at the announced TAI second the value changes. -/
def execUtcOffsetChange (s : State) : Host.Outcome State Fault Refusal :=
  .next (if !s.mainLive then s else match s.gns.leap with
    | some (v, at') =>
      if s.stroked && decide (at' ≤ s.siteEpoch + s.sn / 4000) then
        (s.setGns { s.gns with leap := none }).put TIM_UTC_OFFSET_V (unsigned 16 v)
      else s
    | none => s)

/-! ### Survey commands and keep-alive (R115, R121, R122) -/

/-- SURVEY_SLOW (R115): GNS_SURVEY_MAX_S has passed; recorded once. -/
def execSurveySlow (s : State) : Host.Outcome State Fault Refusal :=
  .next (if !s.serving then s else match s.gns.survey with
    | some v =>
      let secs := v.seconds s.gns.upPeriods
      if v.slowSaid || decide (secs < s.num GNS_SURVEY_MAX_S) then s
      else (s.setGns { s.gns with survey := some { v with slowSaid := true } }).record EV_SURVEY_SLOW 0 secs
        (s.num GNS_SURVEY_SIGMA) 0
    | none => s)

/-- SURVEY_RESTART (R115): the running or finished survey is discarded and starts again; before SYS_ENGAGE it waits for the first
epoch that offers time after it. -/
def execSurveyRestart (s : State) : Host.Outcome State Fault Refusal :=
  .next (if !s.mainLive then s else
    if s.flag GNS_CFG_ARP_MODE then
      let new : Option Survey := if s.engaged then some ⟨0, (0, 0, 0), 0, s.gns.upPeriods, false⟩ else none
      let s := s.setGns { s.gns with arp := none, survey := new }
      ((s.put GNS_STATUS_BASE_FIXED 0).put GNS_STATUS_SURVEYING (b2n new.isSome)).setNum GNS_SURVEY_SIGMA 0
    else s)

/-- FORGET_KEEPALIVE (R122): the next start is cold. -/
def execForgetKeepalive (s : State) : Host.Outcome State Fault Refusal :=
  .next (if !s.mainLive then s else s.setGns { s.gns with forgetKa := true })

/-- The keep-alive data as bytes under its CRC-32C (R121; the layout is the model's, log entry 114). -/
def kaBytes (eph alm : List Eph) (arp : Option (Int × Int × Int)) (utc osc : Nat) (tai : Option (Nat × Nat)) : List Byte :=
  let sats (l : List Eph) : List Byte := leBytes 4 l.length ++ l.flatMap fun e => leBytes 1 e.cst ++ leBytes 1 e.prn ++ leBytes 4 e.data.length ++ e.data
  let a := arp.getD (0, 0, 0)
  sats eph ++ sats alm ++ leBytes 1 (b2n arp.isSome) ++ leBytes 8 (unsigned 64 a.1) ++ leBytes 8 (unsigned 64 a.2.1) ++
  leBytes 8 (unsigned 64 a.2.2) ++ leBytes 2 utc ++ leBytes 8 osc ++ leBytes 1 (b2n tai.isSome) ++ leBytes 8 (tai.getD (0, 0)).1 ++
  leBytes 8 (tai.getD (0, 0)).2

/-- The keep-alive data is rewritten (R121); the oscillator estimate is a value the spec leaves open. Before the first stroke edge the TAI
estimate held stays. -/
def State.writeKeepAlive (s : State) : State :=
  let osc := Config.freeNat s.free
  let utc := s.get TIM_UTC_OFFSET_V
  let tai := if s.stroked then some (s.siteEpoch + s.sn / 4000, s.gns.aon / 125) else s.gns.keepAlive.bind KeepAlive.tai
  let ka : KeepAlive :=
    { eph := s.gns.eph, alm := s.gns.alm, arp := s.gns.lastArp, utc := utc, osc := osc, tai := tai
      crc := crc32c (kaBytes s.gns.eph s.gns.alm s.gns.lastArp utc osc tai) }
  (s.setGns { s.gns with keepAlive := some ka }).drawn

/-- KEEPALIVE_WRITE (R121): every 240,000 strokes in OPERATE. -/
def execKeepaliveWrite (s : State) : Host.Outcome State Fault Refusal :=
  .next (if s.dev = DevState.operate then s.writeKeepAlive else s)

/-- Age of the keep-alive data in s at an AON count (R122). -/
def KeepAlive.age (k : KeepAlive) (aon : Nat) : Option Nat := k.tai.map fun x => (aon - x.2) / 32768

/-- Start kind of R122 by the data's age. -/
def startKind : Option Nat → Nat
  | some a => if a ≤ 14400 then 2 else if a ≤ 604800 then 1 else 0
  | none => 0

/-- The baseband starts (R122) at AON count `aon`; `raw`: the keep-alive bytes read, where they differ from those written. A hot start
keeps the ephemerides still valid, and proceeds as warm without any. -/
def State.gnssStart (s : State) (aon : Nat) (raw : Option (List Byte)) : State :=
  let bad : Option (Nat × Nat) := match s.gns.keepAlive, raw with
    | some k, some b => if crc32c b = k.crc then none else some (k.crc, crc32c b)
    | _, _ => none
  let s := match bad with | some (a, b) => s.record EV_KEEPALIVE_BAD 0 a b 0 | none => s
  let ka := if bad.isSome || s.gns.forgetKa then none else s.gns.keepAlive
  let age := ka.bind fun k => k.age aon
  let kind := startKind age
  let eph := match ka with
    | some k => if kind = 2 then k.eph.filter fun e => Config.ephValid e.cst e.data ((k.tai.getD (0, 0)).1 + age.getD 0) else []
    | none => []
  let kind := if kind = 2 && eph.isEmpty then 1 else kind
  let alm := match ka with | some k => if kind = 0 then [] else k.alm | none => []
  let s := s.setGns { s.gns with forgetKa := false, keepAlive := ka, eph := eph, alm := alm, aon := 125 * aon
                                 lastArp := ka.bind KeepAlive.arp }
  (s.put GNS_STATUS_START_KIND kind).setNum GNS_KA_AGE_S (age.getD 0xFFFFFFFF)

end Sys2Proof.Machine
end

