-- ==== Sys2Proof/Machine/Baseline.lean ====
section
/-! DEFINITION. RTK corrections and the Baseline engine (R184–R210): base sets, corrections, RAWOBS, solution jobs, fix
records, the BASELINE ring commands. The estimator's numerical results are operands of FIX_COMMIT (R199). -/

namespace Sys2Proof.Machine

open Sys2Proof

/-! ### Base sets (R185, R186) -/

/-- A set entry in its 32 bytes. -/
def SetEntry.bytes (e : SetEntry) : List Byte :=
  leBytes 1 e.meas.sig ++ leBytes 1 e.meas.prn ++ leBytes 1 e.meas.fcn ++ leBytes 1 e.flags ++ leBytes 2 e.meas.cn0 ++
  leBytes 2 e.lock ++ leBytes 8 (unsigned 64 e.meas.pr) ++ leBytes 8 (unsigned 64 e.meas.cp) ++
  leBytes 4 (unsigned 32 e.meas.rr) ++ leBytes 4 0

/-- The 48-byte header of a set. -/
def BaseSet.header (x : BaseSet) : List Byte :=
  leBytes 8 x.epochSn ++ leBytes 4 x.flags ++ leBytes 2 x.entries.length ++ leBytes 2 x.stationId ++
  leBytes 8 (unsigned 64 x.arp.1) ++ leBytes 8 (unsigned 64 x.arp.2.1) ++ leBytes 8 (unsigned 64 x.arp.2.2) ++
  leBytes 4 (unsigned 32 x.bias) ++ leBytes 4 0

/-- A set in its bytes (R185). -/
def BaseSet.bytes (x : BaseSet) : List Byte := x.header ++ x.entries.flatMap SetEntry.bytes

/-- A held set. -/
def State.baseSet (s : State) (epoch : Nat) : Option BaseSet := s.bsl.sets.find? fun x => x.epochSn == epoch

/-- Strokes between correction epochs (R187). -/
def State.corrPeriod (s : State) : Nat :=
  4000 / (match s.get GNS_CFG_CORR_RATE with | 0 => 1 | 1 => 2 | 2 => 4 | 3 => 5 | 4 => 10 | _ => 20)

/-- An item for a posted buffer of S28 or S29 that finds none is counted, and recorded at most once per 4,000 strokes
(R208). -/
def State.bslItem (s : State) (ring opcode result : Nat) (bytes : List Byte) : State :=
  let (s, found) := s.deliver ring opcode result bytes s.replDue
  if found then s
  else
    let s := s.count BSL_HOST_MISS 1
    if (match s.bsl.missSn with | some m => decide (s.sn < m + 4000) | none => false) then s
    else (s.setBsl { s.bsl with missSn := some s.sn }).record EV_HOST_NO_BUFFER 0 opcode 0 0

/-! ### Lanes (R196) -/

/-- The waiting job of a rover may run: its base set is held, or can no longer come (R196). -/
def State.solveReady (s : State) (r : Rover) : Bool :=
  r.running.isNone && match r.waiting with
    | some w => (s.baseSet w.epochSn).isSome || decide (w.epochSn + 4 ≤ s.sn)
    | none => false

/-- A waiting job goes before another: lowest deadline, then oldest stamp. -/
def Rover.goesFirst (a b : Rover) : Bool :=
  match a.waiting, b.waiting with
  | some x, some y => decide (x.deadline < y.deadline) || (x.deadline == y.deadline && decide (x.order < y.order))
  | _, _ => false

/-- Free lanes take their next jobs. -/
def State.startSolves (s : State) : Nat → State
  | 0 => s.put BSL_STATUS_LANES_BUSY (s.bsl.rovers.filter fun x => x.2.running.isSome).length
  | n + 1 =>
    let s := s.put BSL_STATUS_LANES_BUSY (s.bsl.rovers.filter fun x => x.2.running.isSome).length
    if 16 ≤ s.get BSL_STATUS_LANES_BUSY then s
    else
      match (s.bsl.rovers.filter fun x => s.solveReady x.2).foldl (fun best x => match best with
          | none => some x
          | some y => if x.2.goesFirst y.2 then some x else some y) none with
      | none => s
      | some x =>
        let r : Rover := { x.2 with running := x.2.waiting, waiting := none }
        (s.setBsl { s.bsl with rovers := tput s.bsl.rovers x.1 r }).startSolves n

/-- The engine takes a base measurement set and keeps those of the last 16 epochs, 3,200 strokes (R186). -/
def State.takeSet (s : State) (x : BaseSet) : State :=
  let s := s.setBsl { s.bsl with sets := (s.bsl.sets.filter fun y => decide (x.epochSn < y.epochSn + 3200)) ++ [x] }
  s.startSolves 16

/-- The encode job of a correction epoch (R187): stroke-bound work of the service cores in the stroke of the set's presentation, or, from
the mate's log, in the stroke it was presented there. -/
def State.presentEncode (s : State) (epoch : Nat) (logged : Option Nat) : State :=
  if epoch % s.corrPeriod != 0 then s
  else
    let s := s.setBsl { s.bsl with toEncode := some epoch }
    match logged with
    | some sn => s.addJob (periodicJob sn 0 0x0C 0 0 true true)
    | none => s.addJob { id := 0, src := .periodic 0x0C 0, cls := 0, prio := 0, phase := .presented }

/-- The ephemerides accepted since the last set are inputs of their own, with the SN of the first set that uses them (R186). -/
def State.presentEphs (s : State) (epoch : Nat) : State :=
  let s' := s.gns.ephNew.foldl (fun s e => (s.setBsl { s.bsl with eph := putEph s.bsl.eph e }).logInput (.eph e epoch)) s
  s'.setGns { s'.gns with ephNew := [] }

/-- The set of an epoch, with its ephemerides and its encode job, reaches the dispatcher (R107, R109). -/
def State.presentSet (s : State) (x : BaseSet) : State :=
  let s := s.presentEphs x.epochSn
  ((s.logInput (.set x)).takeSet x).presentEncode x.epochSn none

/-- SET_PRESENTED (R107, R108, R110, R117): at a stamp point 0 from E + 2 to E + 4 the checked epoch gives its time offer to TIME, and
its set reaches the dispatcher; none for an epoch before the first stroke edge. An epoch without a tracked signal is missing. A
unit without authority takes its sets from the log alone (R364). -/
def execSetPresented (s : State) : Host.Outcome State Fault Refusal :=
  .next (if !s.serving then s else match s.gns.checked with
    | none => s
    | some x =>
      if s.now < x.sn + 2 || decide (x.sn + 4 < s.now) || !x.tracked then s
      else
        let offered := s.offers x
        let s := (s.setGns { s.gns with checked := none }).offerEpoch x
        let set := s.setOf x offered
        let s := s.put GNS_STATUS_CLOCK_FAR (b2n (bit set.flags 2))
        if x.pre || !s.stroked || !s.authority then s else s.presentSet set)

/-! ### Corrections (R187–R191) -/

/-- A correction epoch is withheld (R190): counted, shown, recorded once per excursion. -/
def State.withhold (s : State) (cause epoch : Nat) : State :=
  let s := (s.count BSL_CORR_WITHHELD 1).put BSL_STATUS_CORR_ACTIVE 0
  let s := (s.put BSL_STATUS_NO_ARP (b2n (cause == 1))).put BSL_STATUS_CLOCK_FAR (b2n (cause == 2))
  if s.bsl.withheld then s
  else (s.setBsl { s.bsl with withheld := true }).record EV_CORR_WITHHELD 0 cause epoch 0

/-- The epoch that can no longer be presented: its checks were not complete by stamp point 0 of E + 4, or it tracked nothing (R108,
R117). -/
def State.missingEpoch (s : State) : Option Nat :=
  match s.gns.latched with
  | some (e, _) => if e + 4 ≤ s.now then some e else none
  | none => match s.gns.checked with
    | some x => if !x.tracked || decide (x.sn + 4 < s.now) then some x.sn else none
    | none => none

/-- EPOCH_MISSING (R108, R190): the epoch has no set and no time offer. A correction epoch is withheld; the replicated engine hears of it
from the unit with authority (R109). -/
def execEpochMissing (s : State) : Host.Outcome State Fault Refusal :=
  .next (if !s.serving then s else match s.missingEpoch with
    | none => s
    | some e =>
      let s := (s.setGns { s.gns with latched := none, checked := none }).noOffer
      let s := (s.count GNS_EPOCHS_MISSED 1).record EV_EPOCH_MISSING 0 e 0 0
      if s.stroked && s.authority && e % s.corrPeriod == 0 then (s.logInput (.value 0x0C (leBytes 8 e))).withhold 3 e else s)

/-- A message of a correction epoch: message number, its entries (none but for MSM7). -/
structure RtcmMsg where
  num : Nat
  entries : List SetEntry
  deriving DecidableEq, Repr

/-- Signals in the MSM7 of a constellation bit (R188). -/
def msmSigs : Nat → List Nat
  | 0 => [0, 1, 2] | 1 => [5, 6, 7] | 2 => [8, 11] | 3 => [3, 4] | _ => [12, 13, 14]

/-- MSM7 message numbers in order, with their constellation bit (R187). -/
def msmOrder : List (Nat × Nat) := [(1077, 0), (1087, 3), (1097, 1), (1117, 4), (1127, 2)]

/-- Satellites in consecutive groups of at most `g` (R188). -/
def groupsOf (g : Nat) : Nat → List Nat → List (List Nat)
  | 0, _ => []
  | _, [] => []
  | n + 1, l => l.take g :: groupsOf g n (l.drop g)

/-- The MSM7 messages of a constellation: satellites in ascending PRN, at most 64 cells to a message; one without cells where the set has
none (R187: a group for each enabled constellation). -/
def msmMessages (num cst : Nat) (es : List SetEntry) : List RtcmMsg :=
  let mine := es.filter fun e => (msmSigs cst).contains e.meas.sig && !bit e.flags 1 && !bit e.flags 2
  let prns := ((List.range 256).filter fun p => mine.any fun e => e.meas.prn == p)
  let nsig := ((msmSigs cst).filter fun g => mine.any fun e => e.meas.sig == g).length
  if prns.isEmpty then [⟨num, []⟩]
  else (groupsOf (64 / nsig) 256 prns).map fun ps => ⟨num, ps.flatMap fun p => mine.filter fun e => e.meas.prn == p⟩

/-- The messages of a correction epoch in order (R187). -/
def State.corrMessages (s : State) (x : BaseSet) : List RtcmMsg :=
  (if x.epochSn % 40000 = 0 then [⟨1005, []⟩, ⟨1033, []⟩] ++ (if bit (s.get GNS_CFG_CONST_EN) 3 then [⟨1230, []⟩] else [])
   else []) ++
  msmOrder.flatMap fun (num, cst) => if bit (s.get GNS_CFG_CONST_EN) cst then msmMessages num cst x.entries else []

/-- The byte stream of a correction epoch (R187–R189, R191); the multiple-message bit is 1 in every MSM7 but the last. Satellite positions
and clocks come from the replicated ephemerides alone (R186). -/
def State.corrStream (s : State) (x : BaseSet) : List Byte :=
  let ms := s.corrMessages x
  let ctx := x.header ++ leBytes 8 s.siteEpoch ++ leBytes 2 (s.get TIM_UTC_OFFSET_V) ++
    leBytes 1 (s.get TIM_TB0_CFG_EFC_EN) ++ s.bsl.station.getD [] ++
    s.bsl.eph.flatMap fun e => leBytes 1 e.cst ++ leBytes 1 e.prn ++ e.data
  (List.range ms.length).flatMap fun i =>
    match ms[i]? with
    | none => []
    | some m => Config.rtcmBytes m.num (decide (1077 ≤ m.num) && decide (m.num ≤ 1127) && decide (i + 1 < ms.length))
        (ctx ++ m.entries.flatMap SetEntry.bytes)

/-- Fragments of a stream (R191). -/
def fragments (size : Nat) : Nat → List Byte → List (List Byte)
  | 0, _ => []
  | _, [] => []
  | n + 1, l => l.take size :: fragments size n (l.drop size)

/-- CORR elements on the fleet channels where an onboard robot is homed (R174, R191). -/
def State.queueCorr (s : State) (epoch : Nat) (frs : List (List Byte)) : State :=
  let chans := s.fleetChans.filter fun c => s.flt.robots.any fun r => r.2.gone.isNone && !r.2.central && r.2.home == c
  let elems (c : Nat) : List BcnElem := (List.range frs.length).map fun i =>
    ⟨c, 6, i, epoch, false, ⟨0x05, 0, [0] ++ leBytes 1 (i + 128 * b2n (i + 1 == frs.length)) ++ leBytes 2 0 ++
      leBytes 8 epoch ++ frs.getD i []⟩⟩
  s.setFlt { s.flt with bcn := s.flt.bcn ++ chans.flatMap elems }

/-- CORRECTION_ENCODE (R187, R190, R191): the encode job runs: the set of its correction epoch is encoded and sent, or withheld. -/
def execCorrectionEncode (s : State) : Host.Outcome State Fault Refusal :=
  .next (if !s.serving then s else s.runWork 0x0C 0 fun s => match s.bsl.toEncode with
    | none => s
    | some e =>
      let s := s.setBsl { s.bsl with toEncode := none }
      match s.baseSet e with
        | none => s.withhold 3 e
        | some x =>
          let s := s.setBsl { s.bsl with station := s.bsl.newStation.orElse fun _ => s.bsl.station, newStation := none }
          if !bit x.flags 0 then s.withhold 1 e
          else if bit x.flags 2 then s.withhold 2 e
          else
            let stream := s.corrStream x
            let frs := fragments (s.get BSL_CORR_FRAG_FRAG) stream.length stream
            if s.flag BSL_CFG_CORR_BEACON && decide (128 < frs.length) then s.withhold 4 e
            else
              let s := ((s.put BSL_STATUS_CORR_ACTIVE 1).put BSL_STATUS_NO_ARP 0).put BSL_STATUS_CLOCK_FAR 0
              let s := s.setBsl { s.bsl with withheld := false }
              let s := if s.flag BSL_CFG_CORR_BEACON then s.queueCorr e frs else s
              if s.flag BSL_CFG_CORR_HOST then
                s.bslItem 28 0x7010 (stream.length % 65536)
                  (leBytes 8 e ++ leBytes 2 stream.length ++ List.replicate 6 0 ++ stream)
              else s)

/-! ### Raw observations (R192–R197) -/

/-- Entry `i` of a RAWOBS body: PRN, SIGB, PR_FINE. -/
def obsPrn (b : List Byte) (i : Nat) : Nat := leAt b (12 + 11 * i) 1
def obsSig (b : List Byte) (i : Nat) : Nat := leAt b (13 + 11 * i) 1 % 16
def obsCode (b : List Byte) (i : Nat) : Nat := leAt b (14 + 11 * i) 3

def obsCarrier (b : List Byte) (i : Nat) : Nat := leAt b (17 + 11 * i) 3
def obsCn0 (b : List Byte) (i : Nat) : Nat := leAt b (22 + 11 * i) 1

/-- SLIPS of entry `i`: losses of carrier lock modulo 8 (R192); those of a body by signal index and PRN. -/
def obsSlip (b : List Byte) (i : Nat) : Nat := leAt b (13 + 11 * i) 1 / 32
def obsSlips (b : List Byte) : List ((Nat × Nat) × Nat) :=
  (List.range (leAt b 8 1)).map fun i => ((obsSig b i, obsPrn b i), obsSlip b i)

/-- Signals whose SLIPS differ from those of the RAWOBS before (R193). -/
def slipped (old new : List ((Nat × Nat) × Nat)) : List (Nat × Nat) :=
  (new.filter fun x => match old.find? fun y => y.1 == x.1 with | some y => y.2 != x.2 | none => false).map Prod.fst

/-- Cause for which a RAWOBS is rejected (R194), if any. -/
def State.obsCause (s : State) (f : FleetIn) : Option Nat :=
  let b := f.body
  let e := leAt b 0 8
  let n := leAt b 8 1
  let rover := tgetD s.bsl.rovers f.robot {}
  match s.robot? f.robot with
  | none => some 1
  | some r =>
    if !r.central then some 1
    else if e % 200 != 0 || decide (f.arrival ≤ e) || decide (s.get BSL_CFG_MAX_AGE < f.arrival - e) then some 2
    else if (match rover.lastEpoch with | some l => decide (e ≤ l) | none => false) then some 3
    else if b.length != 12 + 11 * n || n == 0 || decide (64 < n) || leAt b 9 3 != 0 ||
        (List.range n).any (fun i => obsPrn b i == 0) then some 4
    else if (List.range n).any (fun i => (List.range i).any fun j =>
        obsPrn b i == obsPrn b j && obsSig b i == obsSig b j) then some 5
    else none

/-- RAWOBS_ACCEPT (R194, R196, R197): the next delivered RAWOBS becomes a solution job, or is rejected. -/
def execRawobsAccept (s : State) : Host.Outcome State Fault Refusal :=
  .next (if !s.serving then s else match s.flt.inbox.find? fun f => f.typ == 0x20 with
    | none => s
    | some f =>
      let s := s.setFlt { s.flt with inbox := s.flt.inbox.erase f }
      let rover := tgetD s.bsl.rovers f.robot {}
      if !s.flag BSL_CFG_ENABLE then s
      else match s.obsCause f with
      | some c =>
        let s := s.count BSL_OBS_REJECT 1
        if rover.rejectSf = some (s.sn / 40) then s
        else
          let s := s.setBsl { s.bsl with rovers := tput s.bsl.rovers f.robot { rover with rejectSf := some (s.sn / 40) } }
          s.record EV_OBS_REJECTED 0 f.robot c (leAt f.body 0 8)
      | none =>
        let e := leAt f.body 0 8
        let s := match rover.waiting with
          | some w => (s.count BSL_SUPERSEDED 1).record EV_SUPERSEDED 0 f.robot w.epochSn 0
          | none => s
        let now := obsSlips f.body
        let lost := match rover.waiting with | some w => w.slipped | none => []
        let job : Solve := ⟨e, f.arrival, f.arrival + s.get BSL_CFG_DEADLINE, f.body, s.bsl.nextOrder, lost ++ slipped rover.slips now⟩
        let s := s.setBsl { s.bsl with
          rovers := tput s.bsl.rovers f.robot { rover with lastEpoch := some e, waiting := some job, slips := now },
          nextOrder := s.bsl.nextOrder + 1 }
        s.startSolves 16)

/-! ### Fix records (R198–R203) -/

/-- A restored observation (R195): its place in the body, pseudorange and carrier in m, in binary64. -/
structure Restored where
  idx : Nat
  pr : Dy
  cp : Option Dy
  deriving DecidableEq, Repr

/-- A decimal constant in binary64. -/
def dec64 (n d : Int) : Dy := (Dy.ofInt n).div (Dy.ofInt d)

/-- A light millisecond in m (R195). -/
def cMs : Dy := dec64 299792458 1000

/-- Pseudorange modulo a light millisecond as sent, in m (R192). -/
def obsFine (b : List Byte) (i : Nat) : Dy := (Dy.ofInt (obsCode b i)).mul (dec64 2 100)

/-- Carrier × wavelength less pseudorange as sent, in m; none without a carrier (R192). -/
def obsDiff (b : List Byte) (i : Nat) : Option Dy :=
  if obsCarrier b i = 0x800000 then none else some ((Dy.ofInt (signed 24 (obsCarrier b i))).mul (dec64 5 10000))

/-- Base pseudorange that matches entry `i` (R195); a signal that CONST_EN disables goes unused (R194). -/
def State.basePr (s : State) (x : BaseSet) (b : List Byte) (i : Nat) : Option Dy :=
  if !bit (s.get GNS_CFG_CONST_EN) (sigConst (obsSig b i)) then none
  else (x.entries.find? fun e => e.meas.sig == obsSig b i && e.meas.prn == obsPrn b i).map fun e => (⟨e.meas.pr, -16⟩ : Dy).r64

/-- The full observations of a RAWOBS against the base set of its epoch (R195), in binary64. -/
def State.restore (s : State) (x : BaseSet) (b : List Byte) : List Restored :=
  let ok := (List.range (leAt b 8 1)).filterMap fun i =>
    if obsCode b i = 0xFFFFFF then none else (s.basePr x b i).map fun p => (i, p)
  let best := ok.foldl (fun (m : Option (Nat × Dy)) y => match m with
    | some z => if obsCn0 b z.1 < obsCn0 b y.1 then some y else m
    | none => some y) none
  match best with
  | none => []
  | some (p, bp) =>
    let k := (((bp.sub (obsFine b p)).div cMs).toInt)
    let ref := ((obsFine b p).add ((Dy.ofInt k).mul cMs)).sub bp
    ok.map fun (i, bi) =>
      let k := (((bi.add ref).sub (obsFine b i)).div cMs).toInt
      let pr := (obsFine b i).add ((Dy.ofInt k).mul cMs)
      ⟨i, pr, (obsDiff b i).map fun c => pr.add c⟩

/-- Satellites of a RAWOBS with restored code (R195, R201); with code at all, where no base set is held. -/
def State.codeSats (s : State) (set : Option BaseSet) (b : List Byte) : Nat :=
  let ok := match set with
    | some x => (s.restore x b).map Restored.idx
    | none => (List.range (leAt b 8 1)).filter fun i => obsCode b i != 0xFFFFFF
  ((ok.map fun i => 256 * sigConst (obsSig b i) + obsPrn b i).eraseDups).length

/-- Ambiguity resolution (R199): the candidate of the first search whose ratio reaches RATIO, while at least MIN_DD ambiguities remain;
the ambiguities fixed and the ratio. -/
def State.resolve (s : State) (sol : RoverSol) : Option (Nat × Nat) :=
  ((sol.ratios.zipIdx.map fun x => (sol.dd - x.2, x.1)).filter fun x => decide (s.get BSL_AR_CFG_MIN_DD ≤ x.1)).find? fun x =>
    decide (s.get BSL_AR_CFG_RATIO ≤ x.2)

/-- Carriers left out of the update: those whose normalised innovation exceeds 5 (R199). -/
def RoverSol.leftOut (sol : RoverSol) : List (Nat × Nat) :=
  (sol.innov.filter fun x => (Dy.ofInt 5).lt x.2 || (Dy.ofInt 5).lt x.2.neg).map Prod.fst

/-- STATUS of a finished job (R201). -/
def State.fixStatus (s : State) (r : Rover) (w : Solve) (sol : RoverSol) : Nat :=
  let set := s.baseSet w.epochSn
  if s.codeSats set w.body < 4 then 0
  else if (match set with | some x => !bit x.flags 0 || bit x.flags 2 | none => true) then 1
  else if r.floatOnly || decide (s.num BSL_MAX_BASELINE < sol.baseline) || (s.resolve sol).isNone then 2
  else 3

/-- f of R200: the residuals' root mean square, at least 1. -/
def RoverSol.scale (sol : RoverSol) : Dy := (Dy.ofInt 1).max ((sol.resid.r64.div (Dy.ofInt sol.dof)).sqrt)

/-- Semi-major axis of the horizontal error ellipse (R200). -/
def RoverSol.dMajor (sol : RoverSol) : Dy :=
  let half : Dy := ⟨1, -1⟩
  let a := (sol.cee.r64.add sol.cnn.r64).mul half
  let b := (sol.cee.r64.sub sol.cnn.r64).mul half
  (a.add (((b.mul b).add (sol.cen.r64.mul sol.cen.r64)).sqrt)).sqrt

/-- A protection level in mm from its factor in 1/16 and its deviation (R200). -/
def State.protection (s : State) (k : Nat) (f d : Dy) : Nat :=
  let v := ((Dy.ofInt 1000).mul (((⟨k, -4⟩ : Dy).mul f).mul d)).add (Dy.ofInt (s.get BSL_PL_CFG_B_MM))
  min v.ceil.toNat 0xFFFE

/-- The protection levels of a solution (R200, R201). -/
def State.plFields (s : State) (status : Nat) (sol : RoverSol) : Nat × Nat :=
  if status = 0 || decide (sol.dof ≤ 0) then (0xFFFF, 0xFFFF)
  else (s.protection (s.get BSL_PL_CFG_K_H) sol.scale sol.dMajor, s.protection (s.get BSL_PL_CFG_K_V) sol.scale sol.cuu.r64.sqrt)

/-- The fix body of R175. -/
def State.fixBody (s : State) (epoch status : Nat) (sol : RoverSol) : List Byte :=
  let (plH, plV) := s.plFields status sol
  leBytes 8 epoch ++ leBytes 4 (sat32 sol.enu.1) ++ leBytes 4 (sat32 sol.enu.2.1) ++ leBytes 4 (sat32 sol.enu.2.2) ++
  leBytes 2 plH ++ leBytes 2 plV ++ leBytes 1 (status + 4) ++ leBytes 1 sol.nsat ++
  List.replicate 6 0

/-- A fix record goes to the host as FIX_OUT (R203, R208). -/
def State.fixOut (s : State) (robot : Nat) (rec' : List Byte) : State :=
  s.bslItem 29 0x7011 (robot + 256 * leAt rec' 24 1) rec'

/-- Insertion of a fix in ascending SN and robot ID (R205). -/
def insertFix (f : FixIn) : List FixIn → List FixIn
  | [] => [f]
  | x :: r => if x.sn < f.sn || (x.sn == f.sn && decide (x.robot ≤ f.robot)) then x :: insertFix f r else f :: x :: r

/-- Ambiguities that a slip at either end resets (R193, R199): of those the filter holds, the signals slipped at the rover, and those that
the base set flags SLIP. -/
def State.slipResets (s : State) (r : Rover) (w : Solve) : List (Nat × Nat) :=
  let base := match s.baseSet w.epochSn with
    | some x => (x.entries.filter fun (e : SetEntry) => bit e.flags 0).map fun (e : SetEntry) => (e.meas.sig, e.meas.prn)
    | none => []
  r.ambs.filter fun a => r.carry.contains a || w.slipped.contains a || base.contains a

/-- Carriers left out of the update, with the consecutive epochs of it after this one (R199). -/
def leftOut (old : List ((Nat × Nat) × Nat)) (now : List (Nat × Nat)) : List ((Nat × Nat) × Nat) :=
  now.map fun a => (a, 1 + match old.find? fun x => x.1 == a with | some x => x.2 | none => 0)

/-- FIX_COMMIT (R203): a robot's running job finishes and commits its fix record to the allotment engine, the host and the
robot. -/
def execFixCommit (robot : Nat) (sol : RoverSol) (s : State) : Host.Outcome State Fault Refusal :=
  .next (if !s.serving then s else match tget s.bsl.rovers robot with
    | none => s
    | some r => match r.running with
      | none => s
      | some w =>
        if !s.shadows && (decide (w.deadline < s.sn) || (w.deadline == s.sn && s.disp.closed)) then s
        else
        let st := s.fixStatus r w sol
        let upd := decide (2 ≤ st)
        let set := s.baseSet w.epochSn
        let hold := match set with | some x => bit x.flags 1 | none => false
        let long := upd && decide (s.num BSL_MAX_BASELINE < sol.baseline)
        let slips := if upd then s.slipResets r w else []
        let outs := leftOut r.outs sol.leftOut
        let innov := if upd then ((outs.filter fun x => decide (3 ≤ x.2)).map Prod.fst).filter fun a => r.ambs.contains a && !slips.contains a else []
        let held := sol.ambs.length
        let (fixed, ratio) := (s.resolve sol).getD (0, 0)
        let flags := 2 * b2n hold + 4 * b2n (!slips.isEmpty || !innov.isEmpty) + 8 * b2n (st == 3 && decide (fixed < held))
        let body := s.fixBody w.epochSn st sol
        let rec' := body ++ leBytes 1 robot ++ leBytes 1 flags ++ leBytes 2 (if st = 3 then min ratio 65535 else 0) ++
          leBytes 2 (if upd then sol.ndd else 0) ++ leBytes 2 0 ++ leBytes 8 s.sn
        let r' : Rover := { r with
          fix := some rec', running := none, status := st, long := if upd then long else r.long,
          ambs := if upd then sol.ambs else r.ambs, outs := if upd then outs.filter (fun x => decide (x.2 < 3)) else r.outs
          carry := if upd then [] else r.carry ++ w.slipped
          held := if upd then held else r.held, fixed := if st = 3 then fixed else 0 }
        let s := s.setBsl { s.bsl with rovers := tput s.bsl.rovers robot r' }
        let s := (s.count BSL_SOLVED 1).count BSL_FIXED (b2n (st == 3))
        let s := s.peak BSL_PEAK_STEPS (min sol.steps 65535)
        let s := if slips.isEmpty then s else s.record EV_AMB_RESET 0 robot slips.length 1
        let s := if innov.isEmpty then s else s.record EV_AMB_RESET 0 robot innov.length 2
        let s := if long && !r.long then s.record EV_BASELINE_LONG 0 robot sol.baseline 0 else s
        let s := if st != r.status then s.record EV_FIX_STATUS 0 robot r.status st else s
        let s := s.setBsl { s.bsl with fixes := insertFix ⟨s.sn, robot, body⟩ s.bsl.fixes }
        let s := s.addJob { id := 0, src := .element 0x06 robot s.sn 0, cls := 2, prio := 1, phase := .presented }
        let s := s.drawn.notePeak 1 (Config.recNs s.free % 250020)
        let s := (s.fixOut robot rec').queueElem robot 5 w.epochSn ⟨0x06, robot, body⟩
        s.startSolves 16)

/-- A solution job not finished by the close of its deadline SN is abandoned (R198): the record keeps its previous value with
OVERRUN, and goes to the host; the allotment engine counts it and does not check it. -/
def State.abandonSolve (s : State) (robot : Nat) (r : Rover) (w : Solve) : State :=
  let old := r.fix.getD (List.replicate 32 0 ++ leBytes 1 robot ++ List.replicate 15 0)
  let rec' := slice old 0 33 ++ leBytes 1 (setBit (leAt old 33 1) 0) ++ slice old 34 6 ++ leBytes 8 w.deadline
  let r : Rover := { r with
    fix := some rec', running := if r.running = some w then none else r.running,
    waiting := if r.waiting = some w then none else r.waiting, carry := r.carry ++ w.slipped }
  let s := s.setBsl { s.bsl with rovers := tput s.bsl.rovers robot r }
  (((s.count BSL_MISSED 1).count ALT_FIX_STALE 1).fixOut robot rec').startSolves 16

/-- Solution jobs whose deadline SN closes now. -/
def State.missedSolves (s : State) : List (Nat × Rover × Solve) :=
  s.bsl.rovers.flatMap fun x =>
    ([x.2.running, x.2.waiting].filterMap fun o => o).filterMap fun w =>
      if w.deadline ≤ s.sn then some (x.1, x.2, w) else none

/-! ### Ring commands (R208) -/

/-- A robot enrolled in central mode. -/
def State.centralRobot (s : State) (r : Nat) : Bool := match s.robot? r with | some x => x.central | none => false

/-- BSL_ROVER_CFG. -/
def execBslRoverCfg (d : Desc) (s : State) : Host.Outcome State Fault Refusal :=
  .next (s.command d fun s =>
    let r := d.op 32 1
    if !s.centralRobot r then s.fail 0x10
    else
      let x := tgetD s.bsl.rovers r {}
      let reset := bit (d.op 33 1) 0
      let accH := if d.op 36 2 = 0 then 2000 else d.op 36 2
      let accV := if d.op 38 2 = 0 then 500 else d.op 38 2
      let x' : Rover := { x with accH := accH, accV := accV, floatOnly := bit (d.op 33 1) 1 }
      let x' : Rover := if reset then { x' with held := 0, fixed := 0, ambs := [], outs := [], waiting := none, running := none } else x'
      let s := (s.setBsl { s.bsl with rovers := tput s.bsl.rovers r x' }).startSolves 16
      (if reset && x.held != 0 then s.record EV_AMB_RESET 0 r x.held 3 else s).ok)

/-- BSL_ROVER_QUERY. -/
def execBslRoverQuery (d : Desc) (s : State) : Host.Outcome State Fault Refusal :=
  .next (s.command d fun s =>
    let r := d.op 32 1
    if !s.centralRobot r then s.fail 0x10
    else
      let x := tgetD s.bsl.rovers r {}
      s.answer d (slice (x.fix.getD []) 0 48 ++ leBytes 8 (x.lastEpoch.getD 0) ++ leBytes 2 x.held ++ leBytes 2 x.fixed ++
        leBytes 1 (b2n x.waiting.isSome) ++ List.replicate 3 0))

/-- BSL_SET_READ. -/
def execBslSetRead (d : Desc) (s : State) : Host.Outcome State Fault Refusal :=
  .next (s.command d fun s =>
    match s.baseSet (d.op 32 8) with
    | none => s.fail stSTALE
    | some x => s.answer d x.bytes x.entries.length)

/-- BSL_STATION_INFO: in force at the next correction epoch. -/
def execBslStationInfo (d : Desc) (s : State) : Host.Outcome State Fault Refusal :=
  .next (s.command d fun s => (s.setBsl { s.bsl with newStation := some d.buf }).ok)

end Sys2Proof.Machine
end

