-- ==== Sys2Proof/Machine/Roadmap.lean ====
section
/-! DEFINITION. The roadmap and the pure rules of track allotment: reading a roadmap (R211, R212), reservations and the
conflict rules (R217, R218), the corridor test (R226). -/

namespace Sys2Proof.Machine

open Sys2Proof

/-! ### Reading a roadmap (R211, R212) -/

/-- What a roadmap load is refused for: cause, record kind, record index. -/
abbrev RoadBad := Nat × Nat × Nat

/-- Signed 32-bit coordinate at an offset. -/
def coordAt (b : List Byte) (o : Nat) : Int := signed 32 (leAt b o 4)

/-- Vertices of a segment record. -/
def vertsAt (b : List Byte) (o nv : Nat) : List (Int × Int) :=
  (List.range nv).map fun i => (coordAt b (o + 16 + 8 * i), coordAt b (o + 20 + 8 * i))

/-- A segment record at offset `o`. -/
def segAt (b : List Byte) (o : Nat) : Seg where
  jFrom := leAt b o 2
  jTo := leAt b (o + 2) 2
  zone := leAt b (o + 4) 2
  halfwidth := leAt b (o + 6) 2
  headway := leAt b (o + 8) 2
  rule := leAt b (o + 11) 1 % 4
  closed := bit (leAt b (o + 11) 1) 2
  verts := vertsAt b o (leAt b (o + 10) 1)

/-- Some edge has zero length or is longer than 1,000,000 mm in E or N. -/
def badEdge (vs : List (Int × Int)) : Bool :=
  (List.zip vs (vs.drop 1)).any fun (a, c) => a == c || decide (1000000 < absI (c.1 - a.1)) || decide (1000000 < absI (c.2 - a.2))

/-- Cause for which a segment record is refused, if any. -/
def segBad (b : List Byte) (o njunc nzone : Nat) : Option Nat :=
  let nv := leAt b (o + 10) 1
  let fl := leAt b (o + 11) 1
  if leAt b (o + 12) 4 != 0 then some 1
  else if nv < 2 || decide (8 < nv) || leAt b (o + 16 + 8 * nv) (64 - 8 * nv) != 0 then some 3
  else if badEdge (vertsAt b o nv) then some 4
  else if [leAt b o 2, leAt b (o + 2) 2].any (fun j => j != 0xFFFF && decide (njunc ≤ j)) then some 5
  else if leAt b (o + 4) 2 != 0xFFFF && decide (nzone ≤ leAt b (o + 4) 2) then some 6
  else if leAt b (o + 6) 2 = 0 then some 7
  else if fl % 4 = 3 || fl / 8 != 0 then some 8
  else none

/-- Cause for which a zone record is refused, if any. -/
def zoneBad (b : List Byte) (o : Nat) : Option Nat :=
  if leAt b (o + 2) 2 != 0 then some 1
  else if leAt b (o + 1) 1 / 2 != 0 then some 8
  else if leAt b o 1 = 0 then some 9
  else none

/-- First record of a kind that is refused. -/
def firstBad (kind n : Nat) (f : Nat → Option Nat) : Option RoadBad :=
  (List.range n).findSome? fun i => (f i).map fun c => (c, kind, i)

/-- The first failure of a roadmap buffer in buffer order (R212). -/
def roadmapBad (b : List Byte) (len : Nat) : Option RoadBad :=
  let nseg := leAt b 4 4
  let njunc := leAt b 8 4
  let nzone := leAt b 12 2
  let jBase := 32 + 4 * nzone
  let sBase := jBase + 4 * njunc
  if len < 32 || leAt b 0 2 != 1 || leAt b 2 2 != 0 || nseg = 0 || decide (65536 < nseg) || decide (32768 < njunc) ||
      decide (1024 < nzone) || leAt b 14 2 != 0 || leAt b 24 8 != 0 || len != sBase + 80 * nseg then some (1, 0, 0)
  else if leAt b 20 4 != crc32c (slice b 32 (len - 32)) then some (2, 0, 0)
  else
    (firstBad 1 nzone fun i => zoneBad b (32 + 4 * i)).orElse fun _ =>
    (firstBad 2 njunc fun i => if leAt b (jBase + 4 * i + 2) 2 != 0 then some 1 else none).orElse fun _ =>
    firstBad 3 nseg fun i => segBad b (sBase + 80 * i) njunc nzone

/-- The roadmap of a good buffer. -/
def readRoadmap (b : List Byte) : Roadmap :=
  let nzone := leAt b 12 2
  let njunc := leAt b 8 4
  { id := leAt b 16 4, crc := leAt b 20 4,
    zones := (List.range nzone).map fun i => (leAt b (32 + 4 * i) 1, bit (leAt b (33 + 4 * i) 1) 0),
    juncs := (List.range njunc).map fun i => leAt b (32 + 4 * nzone + 4 * i) 2,
    segs := (List.range (leAt b 4 4)).map fun i => segAt b (32 + 4 * nzone + 4 * njunc + 80 * i) }

/-! ### Reservations (R217) -/

/-- 2^64 − 1, the EX of a hold. -/
def farSn : Nat := 2 ^ 64 - 1

/-- A sum of SN saturates to 2^64 − 1 (R218). -/
def satSn (v : Nat) : Nat := min v farSn

/-- EX of an item in conflict checks. -/
def Item.effEx (k : Item) : Nat := if k.hold || k.overdue then farSn else k.ex

/-- A reservation: kind 1 segment, 2 junction, 3 zone; its resource; the item it starts with. -/
structure Resv where
  kind : Nat
  id : Nat
  robot : Nat
  dir : Nat
  hold : Bool
  overdue : Bool
  pos : Nat
  en : Nat
  ex : Nat
  deriving DecidableEq, Repr

/-- Segment of an item; an empty one for an ID the roadmap lacks. -/
def Roadmap.seg (m : Roadmap) (i : Nat) : Seg := m.segs.getD i ⟨0xFFFF, 0xFFFF, 0xFFFF, 0, 0, 0, false, []⟩

/-- Entry and exit junction of an item; 0xFFFF for an open end. -/
def Roadmap.entry (m : Roadmap) (k : Item) : Nat := if k.dir = 0 then (m.seg k.seg).jFrom else (m.seg k.seg).jTo
def Roadmap.exit (m : Roadmap) (k : Item) : Nat := if k.dir = 0 then (m.seg k.seg).jTo else (m.seg k.seg).jFrom

/-- Zone of an item; 0xFFFF for none. -/
def Roadmap.zoneOf (m : Roadmap) (k : Item) : Nat := (m.seg k.seg).zone

/-- Clearance of a junction. -/
def Roadmap.clear (m : Roadmap) (j : Nat) : Nat := m.juncs.getD j 0

/-- Window of the junction between two consecutive items (R217). -/
def Roadmap.juncWindow (m : Roadmap) (j : Nat) (a b : Item) : Nat × Nat := (b.en - m.clear j, satSn (a.effEx + m.clear j))

/-- Zone runs of a chain: maximal runs of consecutive items in one zone. -/
def Roadmap.zoneRuns (m : Roadmap) : List Item → List (List Item)
  | [] => []
  | k :: r =>
    if m.zoneOf k = 0xFFFF then m.zoneRuns r
    else match m.zoneRuns r, r with
      | (run :: more), (k' :: _) => if m.zoneOf k' = m.zoneOf k then (k :: run) :: more else [k] :: run :: more
      | runs, _ => [k] :: runs

/-- The zone occupancy of a run. -/
def Roadmap.runResv (m : Roadmap) (robot : Nat) (run : List Item) : List Resv :=
  match run, run.getLast? with
  | f :: _, some l =>
    let h := run.any Item.hold
    [⟨3, m.zoneOf f, robot, f.dir, h, run.any Item.overdue, f.pos, f.en, if h then farSn else l.effEx⟩]
  | _, _ => []

/-- Every reservation of a chain. -/
def Roadmap.reservations (m : Roadmap) (robot : Nat) (chain : List Item) : List Resv :=
  (chain.map fun k => (⟨1, k.seg, robot, k.dir, k.hold, k.overdue, k.pos, k.en, k.effEx⟩ : Resv)) ++
  ((List.zip chain (chain.drop 1)).map fun (a, b) =>
    let j := m.entry b
    let w := m.juncWindow j a b
    (⟨2, j, robot, a.dir, a.hold && b.hold, a.overdue, a.pos, w.1, if a.hold && b.hold then farSn else w.2⟩ : Resv)) ++
  (m.zoneRuns chain).flatMap (m.runResv robot)

/-- Order of reservations: (EN, robot) ascending. -/
def Resv.le (a b : Resv) : Bool := decide (a.en < b.en) || (a.en == b.en && decide (a.robot ≤ b.robot))

/-- Insertion in that order, after equals. -/
def insertResv (x : Resv) : List Resv → List Resv
  | [] => [x]
  | y :: r => if y.le x then y :: insertResv x r else x :: y :: r

/-- Reservations on a resource, ascending (EN, robot). -/
def onResource (rs : List Resv) (kind id : Nat) : List Resv :=
  (rs.filter fun r => r.kind == kind && r.id == id).foldl (fun l r => insertResv r l) []

/-! ### Conflict rules (R218) -/

/-- Two half-open windows overlap. -/
def overlapSn (aEn aEx bEn bEx : Nat) : Bool := decide (aEn < bEx) && decide (bEn < aEx)

/-- seg_rule of R218: reason 7 SEG_OVERLAP, 8 HEADWAY or 11 HOLD. -/
def segRule (headway : Nat) (x : Item) (y : Resv) : Option Nat :=
  if x.dir != y.dir || headway == 0xFFFF then
    if overlapSn x.en x.effEx y.en y.ex then some (if y.hold then 11 else 7) else none
  else if satSn (x.effEx + headway) ≤ y.en || decide (satSn (y.ex + headway) ≤ x.en) then none
  else if satSn (y.en + headway) ≤ x.en && decide (satSn (y.ex + headway) ≤ x.effEx) then none
  else if satSn (x.en + headway) ≤ y.en && decide (satSn (x.effEx + headway) ≤ y.ex) then none
  else some (if y.hold then 11 else 8)

/-- junction_rule of R218: reason 9 JUNCTION or 11 HOLD. -/
def junctionRule (w : Nat × Nat) (y : Resv) : Option Nat :=
  if overlapSn w.1 w.2 y.en y.ex then some (if y.hold then 11 else 9) else none

/-- Insertion of a number into an ascending list. -/
def insertNat (v : Nat) : List Nat → List Nat
  | [] => [v]
  | x :: r => if x ≤ v then x :: insertNat v r else v :: x :: r

/-- zone_rule of R218 over the other robots' occupancies: the instant at which the zone would be over-full, with those in
force there. -/
def zoneRule (capacity : Nat) (w : Nat × Nat) (occ : List Resv) : Option (List Resv) :=
  let others := occ.filter fun y => overlapSn w.1 w.2 y.en y.ex
  let ts := ((others.filter fun y => decide (w.1 < y.en)).map Resv.en).foldl (fun l v => insertNat v l) []
  (w.1 :: ts).findSome? fun t =>
    let at' := others.filter fun y => decide (y.en ≤ t) && decide (t < y.ex)
    if capacity < ((at'.map Resv.robot).eraseDups).length + 1 then some at' else none

/-- A refusal: reason, claim item, resource kind, resource, other robot. -/
structure Refused where
  reason : Nat
  index : Nat := 0xFF
  kind : Nat := 0
  id : Nat := 0
  other : Nat := 0xFF
  deriving DecidableEq, Repr

/-- EN of the first item of the zone run that ends at position `j` of a list. -/
def Roadmap.runStart (m : Roadmap) (full : List Item) (j : Nat) : Nat :=
  match full[j]? with
  | none => 0
  | some k => match ((full.take (j + 1)).reverse.takeWhile fun x => m.zoneOf x == m.zoneOf k).getLast? with
    | some f => f.en
    | none => k.en

/-- The conflict of item `j` of a chain with reservations of other robots, if any (check() of R218): its segment, the
junction before it unless it is the chain's first, its zone when the zone's run ends with it. -/
def Roadmap.itemConflict (m : Roadmap) (others : List Resv) (full : List Item) (j idx : Nat) : Option Refused :=
  match full[j]? with
  | none => none
  | some x =>
    let onSeg := (onResource others 1 x.seg).findSome? fun y =>
      (segRule (m.seg x.seg).headway x y).map fun e => (⟨e, idx, 1, x.seg, y.robot⟩ : Refused)
    let onJunc := match (if j = 0 then none else full[j - 1]?) with
      | none => none
      | some p =>
        let jn := m.entry x
        (onResource others 2 jn).findSome? fun y =>
          (junctionRule (m.juncWindow jn p x) y).map fun e => (⟨e, idx, 2, jn, y.robot⟩ : Refused)
    let z := m.zoneOf x
    let ends := match full[j + 1]? with | some n => m.zoneOf n != z | none => true
    let onZone := if z = 0xFFFF || !ends then none
      else (zoneRule (m.zones.getD z (1, false)).1 (m.runStart full j, x.effEx) (onResource others 3 z)).map fun at' =>
        (⟨10, idx, 3, z, match at' with | y :: _ => y.robot | [] => 0xFF⟩ : Refused)
    onSeg.orElse fun _ => onJunc.orElse fun _ => onZone

/-! ### The corridor test (R226) -/

/-- One edge of the corridor test. -/
def nearEdge (px py : Int) (a b : Int × Int) (r : Int) : Bool :=
  if px < min a.1 b.1 - r ∨ px > max a.1 b.1 + r ∨ py < min a.2 b.2 - r ∨ py > max a.2 b.2 + r then false
  else
    let vx := b.1 - a.1
    let vy := b.2 - a.2
    let wx := px - a.1
    let wy := py - a.2
    let num := wx * vx + wy * vy
    let den := vx * vx + vy * vy
    let q := if num ≤ 0 then (wx * wx + wy * wy) * den
      else if den ≤ num then ((px - b.1) * (px - b.1) + (py - b.2) * (py - b.2)) * den
      else (wx * wx + wy * wy) * den - num * num
    decide (q ≤ r * r * den)

/-- within() of R226. -/
def within (px py : Int) (g : Seg) (r : Int) : Bool :=
  decide (0 ≤ r) && (List.zip g.verts (g.verts.drop 1)).any fun (a, b) => nearEdge px py a b r

end Sys2Proof.Machine
end

