-- ==== Sys2Proof/Machine/Allot.lean ====
section
/-! DEFINITION. The allotment engine (R213–R236): claims and replies, leases, the edge job, fix checks, conformance stops, the
ALLOT ring commands. -/

namespace Sys2Proof.Machine

open Sys2Proof

/-- A robot of the allotment engine. -/
def State.ar (s : State) (r : Nat) : AltRobot := tgetD s.alt.robots r {}

/-- A robot's entry set. -/
def State.setAr (s : State) (r : Nat) (x : AltRobot) : State := s.setAlt { s.alt with robots := tput s.alt.robots r x }

/-- Items and holds in the device. -/
def State.altItems (s : State) : Nat := s.alt.robots.foldl (fun n x => n + x.2.chain.length) 0

/-- ALT_STATUS, ALT_HOLDS and ALT_ROADMAP_ID follow the state (R236). -/
def State.showAllot (s : State) : State :=
  let s := s.put ALT_STATUS_ROADMAP (b2n s.alt.roadmap.isSome)
  let s := s.put ALT_STATUS_STOPPED (s.alt.robots.filter fun x => x.2.stopped).length
  let s := s.put ALT_STATUS_GRANTS s.altItems
  let s := s.put ALT_HOLDS_N (s.alt.robots.foldl (fun n x => n + (x.2.chain.filter Item.hold).length) 0)
  s.setNum ALT_ROADMAP_ID (match s.alt.roadmap with | some m => m.id | none => 0)

/-- Reservations of every robot but one. -/
def State.othersResv (s : State) (m : Roadmap) (r : Nat) : List Resv :=
  s.alt.robots.flatMap fun x => if x.1 = r then [] else m.reservations x.1 x.2.chain

/-- Reservations of every robot. -/
def State.allResv (s : State) (m : Roadmap) : List Resv := s.alt.robots.flatMap fun x => m.reservations x.1 x.2.chain

/-! ### Replies (R220, R221) -/

/-- The 24-byte reply. -/
structure AltReply where
  robot : Nat
  kind : Nat
  reason : Nat
  index : Nat := 0xFF
  resId : Nat := 0
  resKind : Nat := 0
  other : Nat := 0xFF
  no : Nat
  first : Nat
  lease : Nat
  deriving DecidableEq, Repr

/-- A reply in its bytes. -/
def AltReply.bytes (a : AltReply) : List Byte :=
  leBytes 1 a.robot ++ leBytes 1 a.kind ++ leBytes 1 a.reason ++ leBytes 1 a.index ++ leBytes 2 a.resId ++
  leBytes 1 a.resKind ++ leBytes 1 a.other ++ leBytes 4 a.no ++ leBytes 4 a.first ++ leBytes 8 a.lease

/-- An item for a buffer posted on S35 (R233). -/
def State.altItem (s : State) (opcode result : Nat) (bytes : List Byte) : State :=
  let (s, found) := s.deliver 35 opcode result bytes s.replDue
  if found then s else s.count ALT_HOST_MISS 1

/-- A reply is made: it takes the robot's next REPLY_NO and goes to the host. -/
def State.makeReply (s : State) (r kind reason first : Nat) (f : Refused) : State × AltReply :=
  let x := s.ar r
  let a : AltReply := { robot := r, kind := kind, reason := reason, index := f.index, resId := f.id, resKind := f.kind,
                        other := f.other, no := x.replyNo + 1, first := first, lease := x.lease }
  ((s.setAr r { x with replyNo := x.replyNo + 1 }).altItem 0x8010 (r + 256 * kind + 65536 * reason) a.bytes, a)

/-- A reply that is no answer to a robot's own claim is carried in REPLY_REPEAT superframes (R221). -/
def State.notify (s : State) (r : Nat) (a : AltReply) : State :=
  s.setFlt { s.flt with notices := s.flt.notices ++ [⟨r, leBytes 4 0 ++ a.bytes, s.get ALT_CFG_REPLY_REPEAT⟩] }

/-! ### Conformance stops (R228) -/

/-- An item becomes a hold. -/
def Item.toHold (k : Item) : Item := { k with hold := true, overdue := false, ex := farSn }

/-- Steps 1 to 3 of R228 for one robot: stopped, its entered items held, the rest released. Answers the holds made. -/
def State.stopRobot (s : State) (r cause t : Nat) : State × List Item :=
  let x := s.ar r
  let entered := x.chain.filter fun k => decide (k.en ≤ s.sn)
  let keep := if entered.isEmpty then x.chain.take 1 else entered
  let gone := x.chain.filter fun k => !keep.contains k
  let first := match gone with | k :: _ => k.pos | [] => x.nextPos
  let held := keep.map Item.toHold
  let s := (s.raiseRobot 8 r (Config.freeNat s.free % 250020)).drawn
  let s := (s.setAr r { s.ar r with stopped := true, chain := held }).count ALT_CONFORM_STOPS 1
  let s := (s.record EV_CONFORM_STOP 0 r cause t).record EV_HOLD_SET 0 r held.length first
  let (s, a) := s.makeReply r 5 (32 + cause) first { reason := 0 }
  let s := s.notify r a
  let s := s.altItem 0x8011 0 (leBytes 1 r ++ leBytes 1 cause ++ leBytes 2 held.length ++ leBytes 4 x.fixpos ++
    leBytes 8 s.sn ++ leBytes 8 t ++ leBytes 8 0)
  (s, held)

/-- The conflict of item `j` of a robot's chain with new holds: segment and junction against the holds alone, the zone against
every occupancy when a new hold is among those in force. -/
def Roadmap.holdConflict (m : Roadmap) (holds others : List Resv) (chain : List Item) (j : Nat) : Option Refused :=
  match m.itemConflict (holds.filter fun y => y.kind != 3) chain j 0xFF with
  | some f => some f
  | none => match m.itemConflict (others.filter fun y => y.kind == 3) chain j 0xFF with
    | none => none
    | some f =>
      match chain[j]? with
      | none => none
      | some x =>
        let hit := holds.find? fun h => h.kind == 3 && h.id == f.id && overlapSn (m.runStart chain j) x.effEx h.en h.ex
        hit.map fun h => { f with other := h.robot }

/-- First item of a chain that conflicts with new holds, with what it conflicts with. -/
def Roadmap.firstHit (m : Roadmap) (holds others : List Resv) (chain : List Item) : Option (Nat × Item × Refused) :=
  (List.range chain.length).findSome? fun j =>
    match chain[j]?, m.holdConflict holds others chain j with
    | some k, some f => some (j, k, f)
    | _, _ => none

/-- Revocation of an item and every later one of a robot (R228 step 4). -/
def State.revoke (s : State) (r j holder : Nat) (k : Item) (f : Refused) : State :=
  let x := s.ar r
  let s := (s.setAr r { x with chain := x.chain.take j }).count ALT_REVOKES 1
  let s := s.record EV_REVOKED 0 r k.pos holder
  let (s, a) := s.makeReply r 4 f.reason k.pos { f with index := 0xFF, other := holder }
  s.notify r a

/-- Step 4 of R228 for one other robot: revoked, or stopped in its turn (then it is listed for step 5). -/
def State.hitRobot (s : State) (m : Roadmap) (holder : Nat) (holds : List Resv) (r : Nat) : State × List (Nat × List Item) :=
  if r = holder then (s, [])
  else
    match m.firstHit holds (s.othersResv m r) (s.ar r).chain with
    | none => (s, [])
    | some (j, k, f) =>
      if satSn (s.sn + s.num ALT_STOP_LEAD) < k.en then (s.revoke r j holder k f, [])
      else if (s.ar r).stopped then (s, [])
      else let (s, held) := s.stopRobot r 8 0; (s, [(r, held)])

/-- Steps 4 and 5 of R228: new holds are checked until no new hold arises. -/
def State.spreadHolds (s : State) (m : Roadmap) : Nat → List (Nat × List Item) → State
  | 0, _ => s
  | _, [] => s
  | n + 1, (q, held) :: more =>
    let holds := (m.reservations q held).filter fun y => y.hold
    let (s, new) := s.alt.robots.foldl (fun (s, new) x =>
      let (s, l) := s.hitRobot m q holds x.1
      (s, new ++ l)) (s, [])
    s.spreadHolds m n (more ++ new)

/-- conformance_stop() of R228. -/
def State.conformanceStop (s : State) (r cause t : Nat) : State :=
  let (s, held) := s.stopRobot r cause t
  let s := match s.alt.roadmap with
    | some m => s.spreadHolds m 257 [(r, held)]
    | none => s
  s.showAllot

/-! ### The edge job (R224) -/

/-- The items of one robot that reach EX. -/
def AltRobot.expire (x : AltRobot) (sn grace : Nat) : AltRobot :=
  let chain := x.chain.filterMap fun k =>
    if sn < k.ex || k.hold || k.overdue then some k
    else if x.stopped then some k.toHold
    else if k.pos < x.fixpos then none
    else some { k with overdue := true, due := satSn (k.ex + grace) }
  { x with chain := chain }

/-- ALLOT_EDGE_JOB (R224). -/
def execAllotEdgeJob (s : State) : Host.Outcome State Fault Refusal :=
  .next (if !s.serving then s else s.runWork 0x0D 0 fun s =>
    if !s.flag ALT_CFG_ENABLE then s
    else
      (s.alt.robots.foldl (fun s x =>
        let y := (s.ar x.1).expire s.sn (s.num ALT_LATE_GRACE)
        let s := s.setAr x.1 y
        if y.stopped then s
        else if y.chain.any fun k => k.overdue && decide (k.due ≤ s.sn) then s.conformanceStop x.1 4 0
        else if !y.chain.isEmpty && decide (y.lease ≤ s.sn) then s.conformanceStop x.1 5 0
        else s) s).showAllot)

/-! ### Fix checks (R226, R227) -/

/-- A fix is checked (R227). `b` is the fix body of R175. -/
def State.checkFix (s : State) (r : Nat) (b : List Byte) : State :=
  let t := leAt b 0 8
  let x := s.ar r
  if b.length < 32 || (match x.lastT with | some l => decide (t ≤ l) | none => false) then s.count ALT_FIX_STALE 1
  else
    let s := (s.setAr r { x with lastT := some t }).count ALT_FIX_CHECKED 1
    let e := coordAt b 8
    let n := coordAt b 12
    let plh := leAt b 20 2
    let plf := if plh = 0xFFFF then 0 else plh
    if x.stopped then s
    else
      let s := s.setAr r { s.ar r with prev := some (e, n, plf) }
      match x.chain with
      | [] =>
        match x.prev with
        | some (pe, pn, pp) =>
          let lim : Int := s.get ALT_STILL_MM_MM + plf + pp
          if lim * lim < (e - pe) * (e - pe) + (n - pn) * (n - pn) then s.conformanceStop r 7 t else s
        | none => s
      | first :: _ =>
        match s.alt.roadmap with
        | none => s
        | some m =>
          let pl : Int := if leAt b 24 1 % 4 < s.get ALT_CFG_MIN_STATUS || plh = 0xFFFF then -1 else plh
          let inA (k : Item) : Bool := (decide (k.en ≤ t) && decide (t < k.ex)) || (decide (t < first.en) && k == first)
          let hw (k : Item) : Int := (m.seg k.seg).halfwidth
          match x.chain.find? fun k => inA k && decide (0 ≤ pl) && within e n (m.seg k.seg) (hw k - pl) with
          | some k =>
            (s.setAr r { s.ar r with
              fixpos := k.pos, lease := max x.lease (t + s.num ALT_LEASE),
              chain := x.chain.filter fun y => !(y.overdue && decide (y.pos < k.pos)) }).showAllot
          | none =>
            let inside (k : Item) : Bool := within e n (m.seg k.seg) (hw k)
            let cause :=
              if x.chain.any fun k => inA k && inside k then 2
              else if x.chain.any fun k => decide (k.ex ≤ t) && inside k then 3
              else if x.chain.any fun k => decide (t < k.en) && !inA k && inside k then 6
              else 1
            s.conformanceStop r cause t

/-- The job of an element delivered to this engine that may commit now, the oldest of some TYPEs. -/
def State.nextElem (s : State) (p : Nat → Bool) : Option Job :=
  s.disp.jobs.find? fun j => match j.src with | .element t _ _ _ => p t && s.mayCommit j | _ => false

/-- Run the engine on an element's job, in the stroke the job belongs to, and commit it. Without one nothing happens. -/
def State.runElem (s : State) (p : Nat → Bool) (body : JobSrc → State → State) : State :=
  match s.nextElem p with
  | none => s
  | some j => ({ body j.src { s with sn := j.sn } with sn := s.sn } : State).commitOne j

/-- Take the element a job stands for from the fleet link's deliveries. -/
def State.takeElem (s : State) (typ robot arrival seq : Nat) : Option (State × FleetIn) :=
  match s.flt.inbox.find? fun f => f.isElem typ robot arrival seq with
  | some f => some (s.setFlt { s.flt with inbox := s.flt.inbox.erase f }, f)
  | none => none

/-- FIX_CHECK (R227, R205): the next central fix, or OWNFIX, is checked. -/
def execFixCheck (s : State) : Host.Outcome State Fault Refusal :=
  .next (if !s.serving then s else s.runElem (fun t => t == 0x22 || t == 0x06) fun src s =>
    match src with
    | .element 0x06 r a _ => match s.bsl.fixes.find? fun f => f.robot == r && f.sn == a with
      | none => s
      | some f =>
        let s := s.setBsl { s.bsl with fixes := s.bsl.fixes.erase f }
        if s.flag ALT_CFG_ENABLE then s.checkFix f.robot f.fix else s.count ALT_FIX_STALE 1
    | .element t r a q => match s.takeElem t r a q with
      | none => s
      | some (s, f) =>
        if s.centralRobot f.robot || !s.flag ALT_CFG_ENABLE then s.count ALT_FIX_STALE 1
        else s.checkFix f.robot f.body
    | _ => s)

/-! ### Claims (R214–R219) -/

/-- The items of a claim record, with positions from `pos`. -/
def claimItems (b : List Byte) (pos : Nat) : List Item :=
  (List.range (leAt b 1 1)).map fun i =>
    let w := leAt b (16 + 8 * i) 8
    let base := leAt b 8 8
    { pos := pos + i, seg := w % 65536, dir := w / 2 ^ 16 % 2, en := satSn (base + w / 2 ^ 20 % 2 ^ 22),
      ex := satSn (base + w / 2 ^ 42) }

/-- MALFORMED of R217: KIND, NITEM, ROBOT or a reserved field is wrong; answers the claim item at fault, 0xFF for none. -/
def claimMalformed (b : List Byte) (robot : Option Nat) : Option Nat :=
  let kind := leAt b 0 1
  let n := leAt b 1 1
  if b.length < 16 || decide (2 < kind) || (kind == 2 && n != 0) || (kind != 2 && (n == 0 || decide (64 < n))) ||
      (match robot with | some r => leAt b 2 1 != r | none => false) || leAt b 3 1 != 0 ||
      (kind != 2 && leAt b 4 4 != 0) || b.length != 16 + 8 * n then some 0xFF
  else (List.range n).find? fun i => leAt b (16 + 8 * i) 8 / 2 ^ 17 % 8 != 0

/-- Step 3 of R217 for an item: `prev` is the item before it. -/
def Roadmap.itemBad (m : Roadmap) (sn : Nat) (prev : Option Item) (k : Item) : Option Nat :=
  let g := m.seg k.seg
  if m.segs.length ≤ k.seg then some 2
  else if (g.rule = 1 && k.dir = 1) || (g.rule = 2 && k.dir = 0) then some 5
  else if g.closed || (g.zone != 0xFFFF && (m.zones.getD g.zone (1, false)).2) then some 6
  else if k.ex ≤ k.en || decide (k.ex ≤ sn) ||
      (match prev with | some p => !(decide (p.en ≤ k.en) && decide (k.en ≤ p.ex) && decide (p.ex ≤ k.ex)) | none => false) then some 3
  else match prev with
    | some p => if m.exit p != m.entry k || m.exit p = 0xFFFF then some 4 else none
    | none => none

/-- Step 4 of R217: granting the chain would exceed a limit. -/
def State.tooMany (s : State) (m : Roadmap) (r : Nat) (chain : List Item) : Bool :=
  let mine := m.reservations r chain
  let all := s.othersResv m r ++ mine
  decide (s.get ALT_CFG_ROBOT_MAX < chain.length) ||
  decide (16384 < s.altItems - (s.ar r).chain.length + chain.length) ||
  mine.any fun y => decide ((if y.kind = 3 then 256 else 128) < (all.filter fun z => z.kind == y.kind && z.id == y.id).length)

/-- The refusal of a claim, or the chain it grants (R215, R217, R218). -/
def State.judgeClaim (s : State) (r : Nat) (b : List Byte) (from' : Option Nat) : Except Refused (List Item) :=
  match s.alt.roadmap with
  | none => .error { reason := 14 }
  | some m =>
    let x := s.ar r
    let kind := leAt b 0 1
    if x.stopped && kind != 0 then .error { reason := 13 }
    else match claimMalformed b from' with
      | some i => .error { reason := 1, index := i }
      | none =>
        if kind = 2 then
          .ok (x.chain.filter fun k => k.hold || !(decide (leAt b 4 4 ≤ k.pos) && decide (s.sn < k.en)))
        else
          let base := if kind = 1 then x.chain else []
          let items := claimItems b x.nextPos
          let full := base ++ items
          let prevOf (i : Nat) : Option Item := if base.length + i = 0 then none else full[base.length + i - 1]?
          match (List.range items.length).findSome? fun i => match items[i]? with
              | some k => (m.itemBad s.sn (prevOf i) k).map fun e => (⟨e, i, 0, 0, 0xFF⟩ : Refused)
              | none => none with
          | some f => .error f
          | none =>
            if s.tooMany m r full then .error { reason := 12 }
            else match (List.range items.length).findSome? fun i =>
                m.itemConflict (s.othersResv m r) full (base.length + i) i with
              | some f => .error f
              | none => .ok full

/-- A claim commits (R217–R220): answers the state and the reply, which has gone to the host but not yet to the robot. -/
def State.claim (s : State) (r : Nat) (b : List Byte) (from' : Option Nat) : State × AltReply :=
  let x := s.ar r
  let kind := leAt b 0 1
  let s := (s.peak ALT_PEAK_NS (Config.freeNat s.free % 2 ^ 18)).drawn
  match s.judgeClaim r b from' with
  | .error f =>
    let s := s.count ALT_REFUSED 1
    let s := if f.reason = 12 && decide (16384 < s.altItems - x.chain.length + leAt b 1 1 +
        (if kind = 1 then x.chain.length else 0)) then s.record EV_TABLE_FULL 0 s.altItems r 0 else s
    let s := if x.refusedSf = some (s.sn / 40) then s
      else (s.setAr r { x with refusedSf := some (s.sn / 40) }).record EV_CLAIM_REFUSED 0 r (256 * f.reason + f.index)
        (65536 * f.kind + f.id)
    s.makeReply r kind f.reason 0 f
  | .ok chain =>
    let removed := x.chain.filter fun k => !chain.contains k
    let holds := (removed.filter Item.hold).length
    let first := if kind = 2 then (match removed with | k :: _ => k.pos | [] => x.nextPos) else x.nextPos
    let s := s.setAr r { x with
      chain := chain, nextPos := if kind = 2 then x.nextPos else x.nextPos + leAt b 1 1,
      lease := max x.lease (s.sn + s.num ALT_LEASE) }
    let s := s.count ALT_CLAIMS 1
    let s := if kind = 0 && holds != 0 then s.record EV_HOLD_RELEASED 0 r holds 0 else s
    s.showAllot.makeReply r kind 0 first { reason := 0 }

/-- CLAIM_CHECK (R216, R217): the next CLAIM element delivered by the fleet link is checked; its reply goes back under the
frame's SEQ. -/
def execClaimCheck (s : State) : Host.Outcome State Fault Refusal :=
  .next (if !s.serving then s else s.runElem (fun t => t == 0x21) fun src s =>
    match src with
    | .element t r a q => match s.takeElem t r a q with
      | none => s
      | some (s, f) =>
        let x := s.ar f.robot
        if x.claimOf = some (f.arrival, f.seq) || !s.flag ALT_CFG_ENABLE then s.count ALT_REFUSED 1
        else
          let s := s.setAr f.robot { x with claimOf := some (f.arrival, f.seq) }
          let (s, a) := s.claim f.robot f.body (some f.robot)
          s.fleetReply f.robot f.seq (leBytes 4 f.seq ++ a.bytes)
    | _ => s)

/-- STATUS of an ALT_CLAIM by its REASON (R234). -/
def claimStatus (reason : Nat) : Nat :=
  if reason = 0 then stOK
  else if 7 ≤ reason ∧ reason ≤ 11 then stCONFLICT
  else if reason = 12 then stNO_RESOURCE
  else if reason = 14 then 0x11
  else if reason = 15 then stOVERRUN
  else stREFUSED

/-- RESULT of an ALT_CLAIM. -/
def AltReply.result (a : AltReply) : Nat :=
  a.reason + 2 ^ 8 * a.index + 2 ^ 16 * a.resId + 2 ^ 32 * a.resKind + 2 ^ 40 * a.other

/-! ### Ring commands (R213, R233) -/

/-- ALT_ROADMAP_LOAD. -/
def execAltRoadmapLoad (d : Desc) (s : State) : Host.Outcome State Fault Refusal :=
  .next (s.command d fun s =>
    if s.altItems != 0 then s.fail stCONFLICT
    else match roadmapBad d.buf d.bufLen with
      | some (c, k, i) => s.fail 0x10 (c + 2 ^ 8 * k + 2 ^ 16 * i)
      | none =>
        let m := readRoadmap d.buf
        let s := (s.setAlt { s.alt with roadmap := some m }).showAllot
        (s.record EV_ROADMAP_LOADED 0 m.id m.segs.length m.crc).ok m.segs.length)

/-- ALT_CLAIM. -/
def execAltClaim (d : Desc) (s : State) : Host.Outcome State Fault Refusal :=
  .next (s.command d fun s =>
    let r := leAt d.buf 2 1
    if !s.flag ALT_CFG_ENABLE then s.fail stLOCKED
    else if (s.robot? r).isNone then s.fail 0x12
    else if d.bufLen < 24 then { st := s, status := some stNO_RESOURCE, len := some 24 }
    else
      let (s, a) := s.claim r (slice d.buf 0 (16 + 8 * leAt d.buf 1 1)) none
      let s := s.notify r a
      { st := s, status := some (claimStatus a.reason), result := a.result, bytes := a.bytes })

/-- ALT_RELEASE: MODE 0 future items, MODE 1 chain and holds outright. -/
def execAltRelease (d : Desc) (s : State) : Host.Outcome State Fault Refusal :=
  .next (s.command d fun s =>
    let r := d.op 32 1
    let x := s.ar r
    if d.op 33 1 = 0 then
      let removed := x.chain.filter fun k => !k.hold && decide (s.sn < k.en)
      let s := s.setAr r { x with chain := x.chain.filter fun k => !removed.contains k }
      let s := match removed with
        | k :: _ =>
          let (s, a) := s.makeReply r 2 0 k.pos { reason := 0 }
          s.notify r a
        | [] => s
      s.showAllot.ok removed.length
    else
      let holds := (x.chain.filter Item.hold).length
      let s := s.setAr r { x with chain := [], nextPos := 0, replyNo := 0, fixpos := 0 }
      let s := if holds != 0 then s.record EV_HOLD_RELEASED 0 r holds 1 else s
      s.showAllot.ok x.chain.length)

/-- Number of resources of a kind. -/
def Roadmap.count (m : Roadmap) (kind : Nat) : Nat :=
  match kind with
  | 1 => m.segs.length
  | 2 => m.juncs.length
  | _ => m.zones.length

/-- The CLOSED flag of a resource set. -/
def Roadmap.setClosed (m : Roadmap) (kind id : Nat) (c : Bool) : Roadmap :=
  if kind = 1 then { m with segs := lmod m.segs id fun g => { g with closed := c } }
  else { m with zones := lmod m.zones id fun z => (z.1, c) }

/-- ALT_RESOURCE_STATE: never revokes; refuses new claim items only (R234). -/
def execAltResourceState (d : Desc) (s : State) : Host.Outcome State Fault Refusal :=
  .next (s.command d fun s =>
    let kind := d.op 32 1
    let id := d.op 34 2
    match s.alt.roadmap with
    | none => s.fail 0x11
    | some m =>
      if m.count kind ≤ id then s.fail stBAD_DESC
      else
        let n := (onResource (s.allResv m) kind id).length
        let s := s.setAlt { s.alt with roadmap := some (m.setClosed kind id (d.op 33 1 == 1)) }
        (s.record EV_RESOURCE_STATE 0 kind id (d.op 33 1)).ok n)

/-- An item of ALT_ROBOT_QUERY. -/
def Item.bytes (k : Item) : List Byte :=
  leBytes 4 k.pos ++ leBytes 2 k.seg ++ leBytes 1 (k.dir + 2 * b2n k.hold + 4 * b2n k.overdue) ++ [0] ++ leBytes 8 k.en ++
  leBytes 8 k.ex

/-- ALT_ROBOT_QUERY. -/
def execAltRobotQuery (d : Desc) (s : State) : Host.Outcome State Fault Refusal :=
  .next (s.command d fun s =>
    let x := s.ar (d.op 32 1)
    let holds := (x.chain.filter Item.hold).length
    s.answer d (leBytes 1 (b2n x.stopped) ++ leBytes 1 (x.chain.length - holds) ++ leBytes 1 holds ++ [0] ++ leBytes 4 x.nextPos ++
      leBytes 8 x.lease ++ leBytes 8 (x.lastT.getD 0) ++ leBytes 4 x.fixpos ++ leBytes 4 x.replyNo ++
      x.chain.flatMap Item.bytes))

/-- A reservation of ALT_RESOURCE_QUERY. -/
def Resv.bytes (y : Resv) : List Byte :=
  leBytes 1 y.robot ++ leBytes 1 (y.dir + 2 * b2n y.hold + 4 * b2n y.overdue) ++ leBytes 2 0 ++ leBytes 4 y.pos ++
  leBytes 8 y.en ++ leBytes 8 y.ex

/-- ALT_RESOURCE_QUERY. -/
def execAltResourceQuery (d : Desc) (s : State) : Host.Outcome State Fault Refusal :=
  .next (s.command d fun s =>
    match s.alt.roadmap with
    | none => s.fail 0x11
    | some m =>
      let rs := onResource (s.allResv m) (d.op 32 1) (d.op 34 2)
      s.answer d (leBytes 2 rs.length ++ leBytes 6 0 ++ rs.flatMap Resv.bytes))

/-- The stop chain reports a robot's stop cleared (R229): the stopped mark clears. -/
def State.altStopCleared (s : State) (r : Nat) : State :=
  match tget s.alt.robots r with
  | some x => (s.setAr r { x with stopped := false }).showAllot
  | none => s

end Sys2Proof.Machine
end

