-- ==== Sys2Proof/Machine/Cbor.lean ====
section
/-! DEFINITION. CBOR and COSE_Sign1 as R397 and R428 use them. -/

namespace Sys2Proof.Machine

/-- Head of a CBOR item of a major type with its argument, in the shortest form. -/
def cborHead (major n : Nat) : List Byte :=
  if n < 24 then leBytes 1 (32 * major + n)
  else if n < 0x100 then leBytes 1 (32 * major + 24) ++ beBytes 1 n
  else if n < 0x10000 then leBytes 1 (32 * major + 25) ++ beBytes 2 n
  else if n < 0x100000000 then leBytes 1 (32 * major + 26) ++ beBytes 4 n
  else leBytes 1 (32 * major + 27) ++ beBytes 8 n

def cborUint (n : Nat) : List Byte := cborHead 0 n
def cborBstr (b : List Byte) : List Byte := cborHead 2 b.length ++ b
def cborArray (xs : List (List Byte)) : List Byte := cborHead 4 xs.length ++ xs.flatten
def cborNull : List Byte := [0xF6]

/-- A map with unsigned keys, in the order given. -/
def cborMap (xs : List (Nat × List Byte)) : List Byte := cborHead 5 xs.length ++ xs.flatMap fun x => cborUint x.1 ++ x.2

/-- The protected header {1: −7} (ES256). -/
def coseProtected : List Byte := [0xA1, 0x01, 0x26]

/-- What is signed: Sig_structure "Signature1" with empty external data (RFC 9052). -/
def coseToSign (payload : List Byte) : List Byte :=
  cborArray [cborHead 3 10 ++ [0x53, 0x69, 0x67, 0x6E, 0x61, 0x74, 0x75, 0x72, 0x65, 0x31], cborBstr coseProtected, cborBstr [],
    cborBstr payload]

/-- COSE_Sign1, tagged 18, with unprotected header {4: serial, big-endian}, signed with a private key; `n` is the free-value count
of the signature's random part. -/
def coseSign1 (n : Nat) (key : List Byte) (serial : Nat) (payload : List Byte) : List Byte :=
  [0xD2] ++ cborArray [cborBstr coseProtected, cborMap [(4, cborBstr (beBytes 8 serial))], cborBstr payload,
    cborBstr (slice (Config.ecdsaSign n key (coseToSign payload)) 0 64)]

end Sys2Proof.Machine
end

