-- ==== Sys2Proof/Machine/MeshBase.lean ====
section
/-! DEFINITION. What the mesh rules share: the node register and neighbour cache (R277, R284), keys and counters (R269, R271),
timeslots and airtimes (R260–R262), the queues, the registers that show them. -/

namespace Sys2Proof.Machine

open Sys2Proof

/-! ### Nodes and neighbours -/

/-- A node register entry. -/
def State.node? (s : State) (i : Nat) : Option Node := tget s.msh.nodes i
def State.setNode (s : State) (i : Nat) (n : Node) : State := s.setMsh { s.msh with nodes := tput s.msh.nodes i n }
def State.modNode (s : State) (i : Nat) (f : Node → Node) : State := s.setMsh { s.msh with nodes := tmod s.msh.nodes i f }

/-- Index of the node with an EUI-64. -/
def State.nodeOfEui (s : State) (eui : Nat) : Option Nat := (s.msh.nodes.find? fun x => x.2.eui == eui).map (·.1)

/-- A neighbour cache entry, by cache index. -/
def State.nbr? (s : State) (i : Nat) : Option Nbr := tget s.msh.nbrs i
def State.setNbr (s : State) (i : Nat) (n : Nbr) : State := s.setMsh { s.msh with nbrs := tput s.msh.nbrs i n }
def State.modNbr (s : State) (i : Nat) (f : Nbr → Nbr) : State := s.setMsh { s.msh with nbrs := tmod s.msh.nbrs i f }

/-- Cache index of a node's neighbour entry. -/
def State.nbrOf (s : State) (node : Nat) : Option Nat := (s.msh.nbrs.find? fun x => x.2.node == node).map (·.1)

/-- A cluster's entry, where it is enabled. -/
def State.cluster? (s : State) (c : Nat) : Option Cluster :=
  match tget s.msh.clusters c with | some x => if x.enabled then some x else none | none => none
def State.modCluster (s : State) (c : Nat) (f : Cluster → Cluster) : State :=
  s.setMsh { s.msh with clusters := tmod s.msh.clusters c f }

/-- The node is joined and scheduled. -/
def Node.joined (n : Node) : Bool := n.st == 2

/-- The nodes from `i` up to its depth-1 ancestor: itself first. -/
def State.chainUp (s : State) : Nat → Nat → List Nat
  | 0, _ => []
  | k + 1, i => match s.node? i with
    | some n => i :: (match n.parent with | some p => s.chainUp k p | none => [])
    | none => []

/-- Path of a joined node, depth-1 ancestor first. -/
def State.pathTo (s : State) (i : Nat) : List Nat :=
  match s.node? i with
  | some n => if n.joined then (s.chainUp 9 i).reverse else [i]
  | none => [i]

/-- Next hop of a node: its depth-1 ancestor while it is joined, else itself. -/
def State.hopOf (s : State) (i : Nat) : Nat := (s.pathTo i).headD i

/-- Joined nodes routed through `i`, ascending. -/
def State.below (s : State) (i : Nat) : List Nat :=
  (s.msh.nodes.filter fun x => x.2.joined && x.1 != i && (s.chainUp 9 x.1).contains i).map (·.1)

/-! ### Timeslots (R260, R261) -/

/-- The Mesh MAC executes cells (R283, R281): enabled, ASN valid, from PRIMING on. -/
def State.meshRuns (s : State) : Bool :=
  s.flag MSH_CFG_ENABLE && s.asnValid && (s.dev == .priming || s.dev == .operate || s.dev == .quiet)

/-- The Mesh MAC hands frames to the radio (R154, R281, R363): in OPERATE, with authority. Elsewhere it forms them for the digest alone. -/
def State.meshSends (s : State) : Bool := s.authority && s.dev == .operate

/-- Start of a timeslot in ns since SN 0. -/
def State.asnNs (s : State) (a : Nat) : Nat := absNs (s.asnBase + 40 * a) 0

/-- Slotframe length and builder parameters (R292, R293). -/
def State.sfLen (s : State) : Nat := 2 ^ s.get MSH_SF_LEN_LOG2_SF
def State.maxDepth (s : State) : Nat := clampN 1 8 (s.get MSH_NET_CFG_MAX_DEPTH)
def State.hopLen (s : State) (q : Nat) : Nat := clampN 1 16 (s.get (MSH_HOP_CFG_LENGTH q))

/-- Mesh channel of a cell in timeslot `a` (R260). -/
def State.hopChan (s : State) (q choff a : Nat) : Nat := s.get (MSH_HOP_CHAN q ((a + choff) % s.hopLen q))

/-- PHY mode of a mesh channel's transmit side. -/
def State.meshMode (s : State) (c : Nat) : Nat := s.get (RAD_TX_CFG_MODE (s.get (MSH_CHAN_PORT c)) (s.get (MSH_CHAN_TXCH c)))

/-- Airtime in ns of a PSDU on a mesh channel: O-QPSK and GLR by the spec, SUN PHYs by their standard. -/
def State.meshNs (s : State) (c glr len : Nat) : Nat :=
  let m := s.meshMode c
  if m = 0x01 then (6 + len) * 32000 else if isGlr m then glrNs glr len else Config.ieeeAirNs m len

/-- MIC bytes of MSH_CFG.SEC_LEVEL (R259). -/
def State.micLen (s : State) : Nat :=
  match s.get MSH_CFG_SEC_LEVEL with
  | 0 => 4
  | 1 => 8
  | _ => 16

/-- Latest end in a cell of SPAN m, in ns from its start (R261). -/
def spanEnd (span : Nat) : Nat := span * 10000000 - 200000

/-- A frame without acknowledgement fits a cell; with one, its 33-byte Enh-Ack too (R262). -/
def State.fitsCell (s : State) (c glr len span : Nat) (ack : Bool) : Bool :=
  let e := s.get MSH_TEMPLATE_TX_OFFSET_US * 1000 + s.meshNs c glr len
  decide ((if ack then e + s.get MSH_TEMPLATE_ACK_DELAY_US * 1000 + s.meshNs c glr 33 else e) ≤ spanEnd span)

/-! ### Keys (R269, R386, R390) -/

/-- A key of the key schedule can be used: a generation of a loaded slot that is not dead. -/
def State.keyLive (s : State) (code index gen slot : Nat) : Bool :=
  gen != 0 && s.slotLoaded slot && !s.keyDead code index gen slot

/-- Slot recorded for a generation of a node, if it is KEY_GEN or KEY_GEN_NEXT. -/
def Node.slotOf (n : Node) (gen : Nat) : Option Nat :=
  if gen = n.keyGen then some n.keySlot else if n.keyNext ≠ 0 && gen = n.keyNext then some n.keyNextSlot else none

/-- Generations in force or introduced as next, with their slots. -/
def KeyBranch.live (b : KeyBranch) : List (Nat × Nat) :=
  (if b.gen = 0 then [] else [(b.gen, b.slot)]) ++ (match b.next with | some (g, sl, _) => [(g, sl)] | none => [])

/-- Generations of a cluster in force or introduced. -/
def Cluster.live (c : Cluster) : List (Nat × Nat) :=
  [(c.keyGen, c.keySlot)] ++ (match c.keyNext with | some (g, sl, _) => [(g, sl)] | none => [])

/-- Generations of a node in force or introduced. -/
def Node.live (n : Node) : List (Nat × Nat) :=
  [(n.keyGen, n.keySlot)] ++ (if n.keyNext = 0 then [] else [(n.keyNext, n.keyNextSlot)])

/-- A handle (R385). -/
def handleOf (code index gen : Nat) : Nat := code * 2 ^ 28 + index * 256 + gen

/-- Keys pinned in the cache (R390), each a handle with its slot: FLEET_BEACON, STOP and LOG in force or next, FLEET_LINK of each robot
enrolled, MESH_CLUSTER of each enabled cluster in force or next. -/
def State.pinned (s : State) : List (Nat × Nat) :=
  let robots := (s.flt.robots.filter fun x => x.2.gone.isNone).map (·.1)
  if !s.siteLoaded then []
  else (s.key.fleet.live.flatMap fun g => (handleOf 7 0 g.1, g.2) :: robots.map fun r => (handleOf 8 r g.1, g.2)) ++
    (s.key.stop.live.map fun g => (handleOf 9 0 g.1, g.2)) ++ (s.key.log.live.map fun g => (handleOf 10 0 g.1, g.2)) ++
    (s.msh.clusters.flatMap fun x => if x.2.enabled then x.2.live.map fun g => (handleOf 6 x.1 g.1, g.2) else [])

/-- How many keys are pinned. -/
def State.pinnedKeys (s : State) : Nat := s.pinned.length

/-- The class M key of a code, index, generation and slot (R384). -/
def State.keyBytes (s : State) (code i g slot : Nat) : List Byte :=
  match code with
  | 5 => s.nodeKey ((s.node? i).elim 0 fun n => n.eui) g slot
  | 6 => s.clusterKey i g slot
  | 7 => s.beaconKey g slot
  | 8 => s.linkKey i g slot
  | 9 => s.stopKey g slot
  | _ => s.logKey g slot

/-- Keys that stand in the cache, each a handle with its slot: the pinned ones, and the MESH_NODE keys used last. -/
def State.cachedKeys (s : State) : List (Nat × Nat) :=
  s.pinned ++ s.key.cache.map fun h => (h, ((s.node? (h / 256 % 2 ^ 20)).bind fun n => n.slotOf (h % 256)).getD 0)

/-- A key takes the lowest free entry of the cache, as two shares under a mask drawn from the random generator (R390, R391). -/
def State.enterKey (s : State) (x : Nat × Nat) : State :=
  match (List.range 4096).find? fun e => !s.key.shares.any fun y => y.1 == e with
  | none => s
  | some e =>
    let key := s.keyBytes (x.1 / 2 ^ 28) (x.1 / 256 % 2 ^ 20) (x.1 % 256) x.2
    s.drawn.setKey { s.key with shares := s.key.shares ++ [(e, x.1, Masked.of key (Config.freeBytes s.free key.length))] }

/-- The entries follow the keys that stand in the cache: others are cleared, missing ones are entered. -/
def State.fillCache (s : State) : State :=
  let ks := s.cachedKeys
  let kept := s.key.shares.filter fun e => ks.any fun k => k.1 == e.2.1
  (ks.filter fun k => !kept.any fun e => e.2.1 == k.1).foldl State.enterKey (s.setKey { s.key with shares := kept })

/-- The entries and KEY_CACHE_USE follow the cache. -/
def State.showCache (s : State) : State :=
  ((s.put KEY_CACHE_USE_PINNED s.pinnedKeys).put KEY_CACHE_USE_USED (s.pinnedKeys + s.key.cache.length)).fillCache

/-- A MESH_NODE key is used: on a miss it is derived from its slot's branch, and the least recently used entry makes room (R390). -/
def State.touchKey (s : State) (node gen slot : Nat) : State :=
  let h := 0x50000000 + 256 * node + gen
  if s.key.cache.contains h then s.setKey { s.key with cache := h :: s.key.cache.erase h }
  else ((s.setKey { s.key with cache := (h :: s.key.cache).take (4096 - s.pinnedKeys) }).count KEY_CACHE_MISS 1).showCache.usedS
    (branchEntry 5 slot)

/-! ### Counters (R271) -/

/-- An outgoing counter that has reached 0xFFFF_0000 sends nothing more. -/
abbrev ctrEnd : Nat := 0xFFFF0000

/-- CTR_EXHAUSTED as a counter reaches its end. -/
def State.noteCtr (s : State) (who ctr : Nat) : State := if ctr = ctrEnd then s.record EV_CTR_EXHAUSTED 0 who 0 0 else s

/-- The next frame counter and DSN towards a neighbour are taken. -/
def State.takeCtr (s : State) (i : Nat) (n : Nbr) : State :=
  (s.setNbr i { n with txCtr := n.txCtr + 1, txDsn := (n.txDsn + 1) % 256, changed := true }).noteCtr n.node (n.txCtr + 1)

/-! ### Registers -/

/-- Uplink offsets of a node's own transmissions at every hop: R + jP − h (R293). -/
def State.upSlots (s : State) (n : Node) : List Nat :=
  (List.range n.upCells).flatMap fun j => (List.range n.depth).map fun h => n.upOfs + j * (s.sfLen / max 1 n.upCells) - h

/-- Uplink cells taken on a hopping sequence: offset and CHOFF. -/
def State.takenUp (s : State) (q : Nat) : List (Nat × Nat) :=
  s.msh.nodes.flatMap fun x =>
    if x.2.joined && !x.2.legacy && (match s.cluster? x.2.cluster with | some c => c.seq == q | none => false) then
      (s.upSlots x.2).map fun o => (o, x.2.upChoff)
    else []

/-- Uplink cells of the four sequences (R292). -/
def State.upTotal (s : State) : Nat :=
  ((List.range 4).foldl (fun n q => n + s.hopLen q) 0) * (s.sfLen / 16 * (16 - s.maxDepth))

/-- The RO registers of the mesh follow its state (R283, R310). -/
def State.showMesh (s : State) : State :=
  let used := (List.range 4).foldl (fun n q => n + (s.takenUp q).length) 0
  let n (y : NbrSync) : Nat := (s.msh.nbrs.filter fun x => x.2.sync == y && !x.2.legacy).length
  let s' := (s.put MSH_NODES_N s.msh.nodes.length).put MSH_NODES_JOINED_N (s.msh.nodes.filter fun x => x.2.joined).length
  let s' := s'.put MSH_UP_FREE_N (min (2 ^ 20 - 1) (s.upTotal - used))
  let s' := (s'.put MSH_UPD_STATUS_IMAGES s.msh.images.length).put MSH_UPD_STATUS_CAMPAIGNS
    (min 7 (s.msh.campaigns.filter fun c => c.running).length)
  let s' := (s'.put MSH_STATUS_RUNNING (b2n s.meshRuns)).put MSH_STATUS_NEIGHBOURS s.msh.nbrs.length
  let s' := s'.put MSH_STATUS_NBR_FULL (b2n (decide (16384 ≤ s.msh.nbrs.length)))
  (s'.put MSH_NBR_STATES_DRIFTED (n .drifted)).put MSH_NBR_STATES_LOST (n .lost)

/-! ### Items and queues -/

/-- A MESH_DATA item for a buffer posted on S23; one that finds none is counted (R305). -/
def State.meshItem (s : State) (opcode result : Nat) (bytes : List Byte) : State :=
  let (s, ok) := s.deliver 23 opcode result bytes s.replDue
  if ok then s else s.count MSH_HOST_MISS 1

/-- MSH_NODE_OUT (R307): kind 1 joined, 2 departed, 3 DAO rejected, 4 stale key, 5 renewal done. -/
def State.nodeOut (s : State) (i kind depth cause : Nat) : State :=
  s.meshItem 0x5011 0 (leBytes 4 i ++ leBytes 1 kind ++ leBytes 1 depth ++ leBytes 1 cause ++ leBytes 1 0 ++ leBytes 8 s.sn)

/-- Frames in a node's indirect queue (R275). -/
def State.indirectOf (s : State) (i : Nat) : List MeshQ := s.msh.queue.filter fun q => q.hop == i && q.indirect

/-- A datagram is queued for a node: source-routed from its depth-1 ancestor (R289), or in its indirect queue, which drops what
it has no room for (R275). -/
def State.meshSend (s : State) (dst : Nat) (body : MeshBody) : State :=
  let hop := s.hopOf dst
  let ind := match s.node? hop with | some n => n.legacy && n.sleepy | none => false
  if ind && decide (s.get MSH_PEND_CFG_PEND_DEPTH ≤ (s.indirectOf hop).length) then s
  else
    let q : MeshQ := { id := s.msh.nextId, hop := hop, dst := dst, path := s.pathTo dst, body := body, queuedSn := s.sn,
                       indirect := ind }
    s.setMsh { s.msh with queue := s.msh.queue ++ [q], nextId := s.msh.nextId + 1 }

/-- A queued frame changed in place, or taken out. -/
def State.modQ (s : State) (id : Nat) (f : MeshQ → MeshQ) : State :=
  s.setMsh { s.msh with queue := s.msh.queue.map fun q => if q.id = id then f q else q }
def State.dropQ (s : State) (id : Nat) : State := s.setMsh { s.msh with queue := s.msh.queue.filter fun q => q.id != id }

/-- A secured frame of the device: `len` bytes under a key and counter (R269, R270). -/
def State.meshFrame (s : State) (len : Nat) (key : List Byte) (ctr : Nat) (aad pt : List Byte) : List Byte :=
  let nonce := (leBytes 8 (s.num64 MSH_EUI_LO MSH_EUI_HI)).reverse ++ (leBytes 4 ctr).reverse ++ leBytes 1 (5 + s.get MSH_CFG_SEC_LEVEL)
  (List.range len).map (Config.ccmByte key nonce aad pt)

/-- A frame of the device goes to the radio, first symbol at `at'` ns since SN 0 (R261), where the MAC hands any over. -/
def State.meshRadio (s : State) (c id glr at' : Nat) (bytes : List Byte) : State :=
  if !s.meshSends then s
  else s.txRequest (.mesh c id) (s.get (MSH_CHAN_PORT c)) (s.get (MSH_CHAN_TXCH c)) (at' / 250000) (at' % 250000) glr
    (s.meshNs c glr bytes.length) (absNs s.sn 0) bytes

/-- A frame is an output of the running job in both units (R365), and goes to the radio. -/
def State.meshAir (s : State) (c id glr at' len : Nat) (key : List Byte) (ctr : Nat) (aad pt : List Byte) : State :=
  let bytes := s.meshFrame len key ctr aad pt
  (s.handOut bytes).meshRadio c id glr at' bytes

/-- The counters that move when a unit takes authority (R272); CTR_EXHAUSTED for each that passes its end (R271). -/
def State.meshSkip (s : State) : State :=
  let k := max 1 (s.num MSH_CTR_SKIP)
  let up (v : Nat) : Nat := min (2 ^ 32 - 1) (v + k)
  let ends (v : Nat) : Bool := decide (v < ctrEnd) && decide (ctrEnd ≤ up v)
  let who := (s.msh.nbrs.filter fun x => ends x.2.txCtr).map (fun x => x.2.node) ++
    (s.msh.clusters.filter fun x => ends x.2.txCtr).map fun x => 0x80000000 + x.1
  let s := who.foldl (fun s i => s.record EV_CTR_EXHAUSTED 0 i 0 0) s
  s.setMsh { s.msh with
    nbrs := s.msh.nbrs.map fun (i, n) => (i, { n with txCtr := up n.txCtr, changed := true })
    nodes := s.msh.nodes.map fun (i, n) => (i, { n with txCtr := up n.txCtr })
    clusters := s.msh.clusters.map fun (i, c) => (i, { c with txCtr := up c.txCtr }) }

/-- An ACTUATE message with a value goes to a node (R307, R456). -/
def State.actuate (s : State) (node idx value : Nat) : State :=
  if (s.node? node).isNone then s
  else s.meshSend node (.message (leBytes 1 0x06 ++ leBytes 1 idx ++ leBytes 2 0 ++ leBytes 4 value))

end Sys2Proof.Machine
end

