-- ==== Sys2Proof/Machine/Keys.lean ====
section
/-! DEFINITION. The key engine (R382–R403): identity, the site secret, generations, invalidation, export, attestation,
tamper. -/

namespace Sys2Proof.Machine

open Sys2Proof

/-! ### Identity and import keys (R383, R384) -/

/-- Order of P-256, its prime and its constant b. -/
def p256n : Nat := 0xFFFFFFFF00000000FFFFFFFFFFFFFFFFBCE6FAADA7179E84F3B9CAC2FC632551
def p256p : Nat := 0xFFFFFFFF00000001000000000000000000000000FFFFFFFFFFFFFFFFFFFFFFFF
def p256b : Nat := 0x5AC635D8AA3A93E7B3EBBD55769886BC651D06B0CC53B0F63BCE3C3E27D2604B

/-- p256_key of R383, 32 bytes big-endian. -/
def p256Key (seed : List Byte) : List Byte := beBytes 32 (beNat seed % (p256n - 1) + 1)

/-- ATTEST and IMPORT private keys. -/
def attestKey : List Byte := p256Key (kdf Config.rootKey (ascii "CX77 ATTEST") [] 384)
def importKey : List Byte := p256Key (kdf Config.rootKey (ascii "CX77 IMPORT") [] 384)

/-- A point lies on the curve y² = x³ − 3x + b. -/
def onCurve (x y : Nat) : Bool :=
  decide (x < p256p) && decide (y < p256p) && (y * y) % p256p == (x * x * x + (p256p - 3) * x + p256b) % p256p

/-- A lock or zeroise response stands (R399): class S operations, export and import complete with TAMPERED. -/
def State.tampered (s : State) : Bool := s.key.lockOn || s.key.zeroOn

/-- KEY_STATUS shows the tamper latches. -/
def State.showTamper (s : State) : State := (s.put KEY_STATUS_LOCKED (b2n s.key.lockOn)).put KEY_STATUS_ZEROISED (b2n s.key.zeroOn)

/-- KEY_PUB_READ (R401). -/
def execKeyPubRead (d : Desc) (s : State) : Host.Outcome State Fault Refusal :=
  .next (s.command d fun s =>
    if s.tampered then s.fail stTAMPERED
    else if d.op 32 1 = 0 then (s.usedS 2).answer d (slice (Config.p256Pub attestKey) 0 64 ++ slice Config.endorse 0 512)
    else (s.usedS 3).answer d (slice (Config.p256Pub importKey) 0 64))

/-! ### The site secret (R388, R389) -/

/-- SITE_TAG registers of a slot. -/
def State.showTag (s : State) (slot tag : Nat) : State :=
  if slot = 0 then s.setNum64 KEY_SITE_TAG_A_LO KEY_SITE_TAG_A_HI tag else s.setNum64 KEY_SITE_TAG_B_LO KEY_SITE_TAG_B_HI tag

/-- A branch puts generation 1 in force from a slot (R386). -/
def firstBranch (slot : Nat) : KeyBranch := { gen := 1, slot := slot, introduced := [(1, slot)] }

/-- The branches of a slot's site secret are derived into the class S store (R384). -/
def State.putBranches (s : State) (slot : Nat) : State :=
  ([ascii "CX77 MESH", ascii "CX77 FLEET", ascii "CX77 STOP", ascii "CX77 LOG"].zipIdx.foldl (fun s x =>
    s.putS (6 + 4 * slot + x.2) (kdf (s.site slot) x.1 [] 256)) s).usedS (4 + slot)

/-- A site secret is loaded into a slot (R386, R389). -/
def State.loadSite (s : State) (slot : Nat) (secret : List Byte) : State × Nat :=
  let tag := leNat (kdf secret (ascii "CX77 SITE TAG") [] 64)
  let s := (s.putS (4 + slot) secret).putBranches slot
  let k := s.key
  let k : Keys := { k with retired := k.retired.filter fun x => x != slot }
  let k : Keys := if k.scheduled then k
    else { k with scheduled := true, fleet := firstBranch slot, stop := firstBranch slot, log := firstBranch slot }
  let s := (s.setKey k).put KEY_STATUS_NEWEST slot
  let s := if slot = 0 then s.put KEY_STATUS_SLOT_A 1 else s.put KEY_STATUS_SLOT_B 1
  (((s.showTag slot tag).showGens.showCache).record EV_SITE_IMPORTED 0 slot tag 0, tag)

/-- KEY_SITE_IMPORT (R388, R389). -/
def execKeySiteImport (d : Desc) (s : State) : Host.Outcome State Fault Refusal :=
  .next (s.command d fun s =>
    let slot := d.op 32 1
    let b := d.buf
    if s.tampered then s.fail stTAMPERED
    else if s.slotLoaded slot then s.fail stCONFLICT
    else if leAt b 0 2 != 1 || leAt b 2 6 != 0 || !onCurve (beNat (slice b 8 32)) (beNat (slice b 40 32)) then s.fail 0x10
    else
      let z := Config.p256Ecdh importKey (slice b 8 64)
      match Config.aesUnwrap (kdf z (ascii "CX77 SITE WRAP") (slice b 8 32) 256) (slice b 72 40) with
      | none => s.fail 0x10
      | some secret => let (s, tag) := (s.usedS 3).loadSite slot secret; s.ok tag)

/-! ### Branches (R386, R393) -/

/-- The branch of a key code 7 to 10. -/
def State.branch (s : State) (code : Nat) : KeyBranch :=
  if code = 9 then s.key.stop else if code = 10 then s.key.log else s.key.fleet

/-- The branch of a key code replaced. -/
def State.setBranch (s : State) (code : Nat) (b : KeyBranch) : State :=
  if code = 9 then s.setKey { s.key with stop := b }
  else if code = 10 then s.setKey { s.key with log := b }
  else s.setKey { s.key with fleet := b }

/-- Code under which a branch's dead generations stand. -/
def branchCode (code : Nat) : Nat := if code = 8 then 7 else code

/-- Generation after `g`: 255 wraps to 1. -/
def rollGen (g : Nat) : Nat := g % 255 + 1

/-- The first generation after `g` that is not dead under a slot (R393). -/
def State.pickGen (s : State) (code slot : Nat) : Nat → Nat → Option Nat
  | 0, _ => none
  | n + 1, g =>
    let g := rollGen g
    if s.keyDead code 0 g slot then s.pickGen code slot n g else some g

/-- KEY_ROLL (R393). -/
def execKeyRoll (d : Desc) (s : State) : Host.Outcome State Fault Refusal :=
  .next (s.command d fun s =>
    let code := d.op 32 1
    let v := d.op 40 8
    let b := s.branch code
    let slot := s.newestSlot
    let least := if code = 7 then s.sn / 40 + 8 else if code = 9 then s.sn / 40 + 1 else s.sn + 1
    if !s.siteLoaded then s.fail 0x11
    else match b.next with
      | some (_, _, sw) => s.fail stCONFLICT sw
      | none =>
        match s.pickGen code slot 255 b.gen with
        | none => s.fail 0x13
        | some g =>
          if b.introduced.contains (g, slot) then s.fail 0x13
          else if v < least then s.fail stREFUSED least
          else
            let s := s.setBranch code { b with next := some (g, slot, v), introduced := b.introduced ++ [(g, slot)] }
            (((s.usedS (branchEntry code slot)).showCache).record EV_KEY_ROLLED 0 code g v).ok g)

/-- The SN at which a branch's next generation comes into force. -/
def switchSn (code sw : Nat) : Nat := if code = 10 then sw else 40 * sw

/-- A branch whose switch point has come puts its next generation in force. -/
def State.switchBranch (s : State) (code : Nat) : State :=
  let b := s.branch code
  match b.next with
  | some (g, slot, sw) =>
    if switchSn code sw ≤ s.sn then
      s.setBranch code { b with gen := g, slot := slot, next := none, prev := some (b.gen, b.slot, switchSn code sw) }
    else s
  | none => s

/-- KEY_SWITCH (R393): the generation introduced comes into force at its switch point. -/
def execKeySwitch (s : State) : Host.Outcome State Fault Refusal :=
  .next (if s.stroked && s.serving then (((s.switchBranch 7).switchBranch 9).switchBranch 10).showGens.showCache else s)

/-! ### Invalidation and retirement (R394, R395) -/

/-- Keys that a FLEET generation counts: its beacon key and the link key of each robot enrolled. -/
def State.fleetCount (s : State) : Nat := 1 + (s.flt.robots.filter fun x => x.2.gone.isNone).length

/-- Handles one generation of a branch counts. -/
def State.branchCount (s : State) (code : Nat) : Nat := if code = 7 ∨ code = 8 then s.fleetCount else 1

/-- Live mesh keys with a property of generation and slot: clusters enabled and nodes that stand. -/
def State.meshKeys (s : State) (p : DeadKey → Bool) : List DeadKey :=
  let cs : List DeadKey := s.msh.clusters.flatMap fun (i, c) => if c.enabled then c.live.map fun g => ⟨6, i, g.1, g.2⟩ else []
  let ns : List DeadKey := s.msh.nodes.flatMap fun (i, n) => n.live.map fun g => ⟨5, i, g.1, g.2⟩
  (cs ++ ns).filter fun k => p k && !s.key.dead.contains k

/-- A mesh key is in force, and so killed only with FORCE (R395). -/
def State.meshInForce (s : State) (k : DeadKey) : Bool :=
  if k.code = 5 then (s.node? k.index).elim false fun n => n.keyGen == k.gen && n.keySlot == k.slot
  else (s.cluster? k.index).elim false fun c => c.keyGen == k.gen && c.keySlot == k.slot

/-- A handle names a dead key; a FLEET generation takes its beacon key and every link key (R385, R394, R395). -/
def DeadKey.names (k : DeadKey) (h : Nat) : Bool :=
  h % 256 == k.gen && (if k.code = 7 then h / 2 ^ 28 == 7 || h / 2 ^ 28 == 8 else h / 256 == k.code * 2 ^ 20 + k.index)

/-- Dead keys are noted, and their cache entries are cleared at once. -/
def State.kill (s : State) (ks : List DeadKey) : State :=
  let gone (h : Nat) : Bool := ks.any fun k => k.names h
  (s.setKey { s.key with
    dead := s.key.dead ++ ks, cache := s.key.cache.filter fun h => !gone h
    shares := s.key.shares.filter fun e => !gone e.2.1 }).showCache

/-- The key that a handle names, with the slot recorded for its generation; 0 names the generation in force (R385, R394). -/
def State.keyOf (s : State) (h : Nat) : Option DeadKey :=
  let code := h / 2 ^ 28
  let i := h / 256 % 2 ^ 20
  let g := h % 256
  match code with
  | 5 => match s.node? i with
    | some n => (n.live.find? fun x => x.1 == if g = 0 then n.keyGen else g).map fun x => ⟨5, i, x.1, x.2⟩
    | none => none
  | 6 => match s.cluster? i with
    | some c => (c.live.find? fun x => x.1 == if g = 0 then c.keyGen else g).map fun x => ⟨6, i, x.1, x.2⟩
    | none => none
  | c =>
    let b := s.branch c
    let g := if g = 0 then b.gen else g
    if g = 0 then none else (b.slotOf g).map fun sl => ⟨branchCode c, 0, g, sl⟩

/-- KEY_INVALIDATE (R394, R395). A handle that names no generation introduced kills nothing. -/
def execKeyInvalidate (d : Desc) (s : State) : Host.Outcome State Fault Refusal :=
  .next (s.command d fun s =>
    let h := d.op 32 4
    if !s.siteLoaded then s.fail 0x11
    else match s.keyOf h with
      | none => s.ok 0
      | some k =>
        if s.key.dead.contains k then s.ok 0
        else if k.code = 5 ∨ k.code = 6 then
          if d.op 36 1 % 2 = 0 ∧ s.meshInForce k then s.fail stCONFLICT 1
          else ((s.kill [k]).record EV_KEY_INVALIDATED 0 h 1 s.sn).ok 1
        else
          let n := s.branchCount k.code
          if (s.branch k.code).live.contains (k.gen, k.slot) then s.fail stCONFLICT n
          else ((s.kill [k]).record EV_KEY_INVALIDATED 0 h n s.sn).ok n)

/-- A slot is emptied. -/
def State.unloadSite (s : State) (slot : Nat) : State :=
  let s := [4 + slot, 6 + 4 * slot, 7 + 4 * slot, 8 + 4 * slot, 9 + 4 * slot].foldl (fun s i => s.dropS i) s
  (if slot = 0 then s.put KEY_STATUS_SLOT_A 0 else s.put KEY_STATUS_SLOT_B 0).showTag slot 0

/-- KEY_SITE_RETIRE (R394, R395). -/
def execKeySiteRetire (d : Desc) (s : State) : Host.Outcome State Fault Refusal :=
  .next (s.command d fun s =>
    let slot := d.op 32 1
    if !s.slotLoaded slot then s.fail 0x11
    else
      let onSlot (code : Nat) : Nat := ((s.branch code).live.filter fun g => g.2 == slot).length * s.branchCount code
      let branches := onSlot 7 + onSlot 9 + onSlot 10
      let mesh := s.meshKeys fun k => k.slot == slot
      let n := branches + mesh.length
      if branches != 0 || slot == s.newestSlot || (d.op 33 1 % 2 == 0 && mesh.any s.meshInForce) then s.fail stCONFLICT n
      else
        let old := [7, 9, 10].flatMap fun c => ((s.branch c).introduced.filter fun g => g.2 == slot).map fun g => (⟨c, 0, g.1, slot⟩ : DeadKey)
        let s := (s.kill (mesh ++ old)).unloadSite slot
        let s := s.setKey { s.key with retired := s.key.retired ++ [slot] }
        (s.showCache.record EV_SLOT_RETIRED 0 slot n s.sn).ok n)

/-! ### Export and query (R396, R401) -/

/-- KEY_EXPORT (R396). BUF of 32 to 71 bytes is refused with the descriptor (DEDUCED, log entry 116). -/
def execKeyExport (d : Desc) (s : State) : Host.Outcome State Fault Refusal :=
  .next (s.command d fun s =>
    let h := d.op 32 4
    let code := h / 2 ^ 28
    if !s.flag KEY_CFG_EXPORT_EN || code < 5 || decide (9 < code) then s.fail 0x12
    else if !handleOk h then s.fail stBAD_DESC
    else if s.tampered then s.fail stTAMPERED
    else if !s.siteLoaded then s.fail 0x11
    else match s.keyOf h with
      | none => s.fail stSTALE
      | some k =>
        if !s.keyLive k.code k.index k.gen k.slot then s.fail stSTALE
        else
          let n := if code ≤ 6 then 24 else 40
          let out := slice (Config.aesWrap (slice d.buf 0 32) (s.keyBytes code (h / 256 % 2 ^ 20) k.gen k.slot)) 0 n
          { st := s.record EV_KEY_EXPORTED 0 h 0 0, result := n, bytes := out, skip := 32 })

/-- KEY_QUERY (R401). -/
def execKeyQuery (d : Desc) (s : State) : Host.Outcome State Fault Refusal :=
  .next (s.command d fun s =>
    let h := d.op 32 4
    let code := h / 2 ^ 28
    if !s.siteLoaded then s.fail 0x11
    else if !handleOk h then s.ok 0
    else
      let force := match code with
        | 5 => (s.node? (h / 256 % 2 ^ 20)).elim 0 fun n => n.keyGen
        | 6 => (s.cluster? (h / 256 % 2 ^ 20)).elim 0 fun c => c.keyGen
        | c => (s.branch c).gen
      match s.keyOf h with
      | none => s.ok (256 * force)
      | some k =>
        let live := s.keyLive k.code k.index k.gen k.slot
        let pinned := live && match code with
          | 5 => false
          | 6 => (s.cluster? k.index).elim false fun c => c.enabled
          | 8 => (s.branch 8).live.contains (k.gen, k.slot) && s.flt.robots.any fun x => x.1 == h / 256 % 256 && x.2.gone.isNone
          | c => (s.branch c).live.contains (k.gen, k.slot)
        let cached := pinned || (code == 5 && s.key.cache.contains (0x50000000 + 256 * k.index + k.gen))
        s.ok (b2n live + 2 * b2n cached + 4 * b2n pinned + 8 * k.slot + 256 * force))

/-! ### Attestation (R397) -/

/-- The serial number of the main die. -/
def State.serial (s : State) : Nat := s.fuses.serial

/-- KEY_FUSE_STATE (R403): slots programmed and revoked, ROOT, LOCK. -/
def State.fuseWord (s : State) : Nat :=
  ((List.range 3).map fun i => match s.fuses.slots[i]? with
    | some x => b2n x.programmed * 2 ^ i + b2n x.revoked * 2 ^ (3 + i)
    | none => 0).sum + 2 ^ 8 * b2n s.fuses.rootProgrammed + 2 ^ 9 * b2n s.fuses.lock

/-- ANTIROLL (R382): bits are blown from the lowest up (R488). -/
def State.antirollWord (s : State) : Nat := 2 ^ s.fuses.antiroll - 1

/-- IDN_PCI_ID of the part (R54). -/
def State.pciId (s : State) : Nat := match s.part with | .cx7740 => 0x77401C7A | .cx7720 => 0x77201C7A

/-- The attestation payload. -/
def State.attestPayload (s : State) (nonce : List Byte) (well : Option (List Byte)) : List Byte :=
  let tag (loaded : Bool) (lo hi : Nat) : List Byte := if loaded then cborBstr (leBytes 4 (s.num lo) ++ leBytes 4 (s.num hi)) else cborNull
  cborMap
    [(1, cborUint s.pciId), (2, cborUint (s.num IDN_STEPPING)),
     (3, cborArray [cborUint s.fuseWord, cborUint s.antirollWord]),
     (4, cborArray ((Config.romHash :: s.sys.loaded.map fun p => p.hash).map cborBstr)),
     (5, cborBstr ((List.range 8).flatMap fun n => leBytes 4 (s.num (PAI_CFG_DIGEST n)))), (6, cborUint s.sn), (7, cborBstr nonce),
     (8, cborArray [cborUint (s.num KEY_TAMP_COUNT), cborUint (s.num KEY_TAMP_LATCH)]),
     (9, cborArray [tag s.key.siteA.isSome KEY_SITE_TAG_A_LO KEY_SITE_TAG_A_HI, tag s.key.siteB.isSome KEY_SITE_TAG_B_LO KEY_SITE_TAG_B_HI]),
     (10, match well with | some w => cborBstr w | none => cborNull)]

/-- The nonce of a KEY_ATTEST. -/
def Desc.nonce (d : Desc) : List Byte := slice d.buf 0 (d.op 32 1)

/-- The statement is made and the command ends. -/
def State.attest (s : State) (d : Desc) (well : Option (List Byte)) : CmdRes :=
  if s.tampered then s.fail stTAMPERED
  else
    let bytes := coseSign1 s.free attestKey s.serial (s.attestPayload d.nonce well)
    if d.bufLen < bytes.length then s.answer d bytes
    else (s.drawn.usedS 2 |>.record EV_ATTESTED 0 (leAt d.nonce 0 4) s.sn (b2n well.isSome)).answer d bytes

/-- KEY_ATTEST (R397): with the Wellhouse's link up its statement is asked for with the command's nonce, and waited for. -/
def execKeyAttest (d : Desc) (s : State) : Host.Outcome State Fault Refusal :=
  .next (s.command d fun s =>
    if s.tampered then s.fail stTAMPERED
    else if s.part == .cx7740 && !s.capAbsent 0x12 && s.flag WLG_STATUS_LINK_UP then
      let id := s.wlg.nextId
      let s := s.setWel { s.wel with reqs := s.wel.reqs ++ [⟨0x34, id, 0, 0, [], d.nonce⟩] }
      (s.setWlg { s.wlg with nextId := (id + 1) % 0x10000, reqs := s.wlg.reqs ++ [(id, d, s.sn)] }).later
    else s.attest d none)

/-! ### Tamper (R398–R400) -/

/-- Key commands in progress are abandoned (R400). -/
def State.abandonKeys (s : State) : State :=
  let ds := (s.wlg.reqs.filter fun r => r.2.1.opcode == 0xE007)
  let s := s.setWlg { s.wlg with reqs := s.wlg.reqs.filter fun r => r.2.1.opcode != 0xE007 }
  ds.foldl (fun s r => s.finish r.2.1 (s.fail stTAMPERED)) s

/-- ZEROISED (R399): site slots, class S store and key cache are cleared, and the device halts. -/
def State.zeroise (s : State) (source : Nat) : State :=
  let s := (s.unloadSite 0).unloadSite 1
  let s := (s.setKey { s.key with cache := [], shares := [], zeroOn := true, store := { s.key.store with cells := [] } }).showTamper.showCache
  (s.record EV_ZEROISED 0 source 0 0).fatalHalt 4

/-- The response of a latched source acts (R399). -/
def State.tamperActs (s : State) (source : Nat) : State :=
  match s.get KEY_TAMP_CFG_RESPONSE / 4 ^ source % 4 with
  | 2 => (s.setKey { s.key with lockOn := true }).showTamper.abandonKeys
  | 3 => s.abandonKeys.zeroise source
  | _ => s

/-- TAMPER_DETECTED (R399, R400): latched, counted and recorded; the response acts at once, or when the key engine next runs. -/
def execTamperDetected (source : Nat) (s : State) : Host.Outcome State Fault Refusal :=
  .next (
    let r := s.get KEY_TAMP_CFG_RESPONSE / 4 ^ source % 4
    if 7 < source ∨ r = 0 then s
    else
      let s := s.put KEY_TAMP_LATCH_BITS (setBit (s.get KEY_TAMP_LATCH_BITS) source)
      let s := if s.num KEY_TAMP_COUNT = 0xFFFFFFFF then s else s.count KEY_TAMP_COUNT 1
      let s := if s.dev = DevState.dormant then s.put SYS_WAKE_CAUSE_BITS (setBit (s.get SYS_WAKE_CAUSE_BITS) 2) else s
      let s := s.record EV_TAMPER_DETECTED 0 source r (s.num KEY_TAMP_COUNT)
      if s.serving || s.dev == .halt then s.tamperActs source
      else s.setKey { s.key with owed := s.key.owed ++ [source], lockOn := s.key.lockOn || r == 2, zeroOn := s.key.zeroOn || r == 3 })

/-- The class S store after a reset (R392): a permutation is drawn, and the keys that descend from ROOT are derived into it. -/
def State.startStore (s : State) : State :=
  let s := s.drawn.setKey { s.key with store := { places := shuffle (Config.storePick s.free) 64 (List.range 64) } }
  let image := kdf Config.rootKey (ascii "CX77 IMAGE") [] 256
  (((s.putS 0 Config.rootKey).putS 1 image).putS 2 attestKey).putS 3 importKey

/-- The key engine starts: its store, and the responses owed from before (R392, R400). -/
def State.tamperOwed (s : State) : State :=
  let s := s.startStore
  let os := s.key.owed
  os.foldl (fun s o => s.tamperActs o) (s.setKey { s.key with owed := [] }).showTamper

/-- KEY_TAMP_CLEAR (R399): in SETUP alone; recorded under a code that the manual's table does not give. -/
def execKeyTampClear (d : Desc) (s : State) : Host.Outcome State Fault Refusal :=
  .next (s.command d fun s =>
    if s.dev != .setup then s.fail stLOCKED
    else
      let latch := s.get KEY_TAMP_LATCH_BITS
      let s := ((s.put KEY_TAMP_LATCH_BITS 0).setKey { s.key with lockOn := false, zeroOn := false }).showTamper
      let code := 0x4400 + Config.freeNat s.free % 0x400
      (s.drawn.record code 0 latch 0 0).ok latch)

/-! ### Masks (R391) -/

/-- TRNG_FAULT (R391): re-masking stops. -/
def execTrngFault (test : Nat) (s : State) : Host.Outcome State Fault Refusal :=
  .next (if !s.mainLive then s else (s.put KEY_STATUS_TRNG_OK 0).record EV_TRNG_FAULT 0 test 0 0)

/-- The entries of slot sn % REMASK_STROKES are re-masked, each with a mask of the random generator (R391). -/
def State.remask (s : State) : State :=
  let n := s.get KEY_CFG_REMASK_STROKES
  s.drawn.setKey { s.key with shares := s.key.shares.map fun e =>
    if e.1 % n = s.sn % n then (e.1, e.2.1, e.2.2.remask (Config.freeBytes (s.free + e.1) e.2.2.mask.length)) else e }

/-- KEY_REMASK (R391): one slot of the entries at each stroke edge; a lap is reported as it ends. -/
def State.keyEdge (s : State) : State :=
  if !s.flag KEY_STATUS_TRNG_OK then s
  else
    let s := s.fillCache.remask
    if s.sn % s.get KEY_CFG_REMASK_STROKES != 0 then s
    else
      let s := match s.key.lapStart with | some b => s.setNum KEY_REMASK_LAP (s.sn - b) | none => s
      s.setKey { s.key with lapStart := some s.sn }

end Sys2Proof.Machine
end

