-- ==== Sys2Proof/Machine/Wellhouse.lean ====
section
/-! DEFINITION. The Wellhouse die (R404–R428): its start, load cells, instruments, cycles, records, requests, seal, audit trail
and indication. Nothing of the main die but its frames reaches it (R405). -/

namespace Sys2Proof.Machine

open Sys2Proof

/-- The Wellhouse is in the package (R4) and runs. -/
def State.whUp (s : State) : Bool := s.part == .cx7740 && s.wel.up

/-! ### Sealed parameters (R410) -/

/-- Parameter number `k` of instrument `i`. -/
def State.param (s : State) (i k : Nat) : Nat := tgetD s.wel.params (i * 0x100 + k) 0

/-- Every PARAM_ID, in order. -/
def paramIds : List Nat := ((List.range 4).flatMap fun i => (List.range 0x1A).map fun k => i * 0x100 + k) ++ (List.range 8).map (0xF00 + ·)

/-- 1, 2 or 5 × 10^n. -/
def isScale (v : Nat) : Bool := (List.range 10).any fun n => v == 10 ^ n || v == 2 * 10 ^ n || v == 5 * 10 ^ n

/-- A value lies in its parameter's range (R410); parameters without a range in the table take any value, a binary32 one any
finite value. -/
def paramOk (id v : Nat) : Bool :=
  if 0xF00 ≤ id then (if id < 0xF04 then true else id < 0xF08 && decide (v ≤ 2))
  else if 0x400 ≤ id then false
  else match id % 0x100 with
    | 0x00 => decide (v ≤ 2)
    | 0x01 => decide (v < 256)
    | 0x02 => decide (v ≤ 2)
    | 0x03 => isScale v
    | 0x04 => decide (1 ≤ v) && decide (v ≤ 10)
    | 0x11 => decide (20 ≤ v) && decide (v ≤ 2000)
    | 0x18 => decide (v ≤ 3) || v == 0xFF
    | 0x19 => decide (v ≤ 3) || v == 0xFF
    | k => if 0x1A ≤ k then false else if 0x08 ≤ k ∧ k ≤ 0x10 then (Fl.ofBits v).isFinite else true

/-- No channel is summed into two instruments in use. -/
def State.channelsApart (s : State) : Bool :=
  (List.range 8).all fun c => decide (((List.range 4).filter fun i => s.param i 0x00 != 0 && bit (s.param i 0x01) c).length ≤ 1)

/-- The parameters of an instrument pass the start check; one that is off has none to check. -/
def State.paramsGood (s : State) (i : Nat) : Bool :=
  s.param i 0x00 == 0 || ((List.range 0x1A).all fun k => paramOk (i * 0x100 + k) (s.param i k)) && s.channelsApart

/-! ### Instruments -/

/-- Instrument `i`. -/
def State.inst (s : State) (i : Nat) : Instrument := s.wel.instr.getD i {}

/-- Instrument `i` changed. -/
def State.modInst (s : State) (i : Nat) (f : Instrument → Instrument) : State :=
  s.setWel { s.wel with instr := lmod s.wel.instr i f }

/-- The instrument is defined. -/
def State.inUse (s : State) (i : Nat) : Bool := decide (i < 4) && s.param i 0x00 != 0

/-- The instrument is in ERROR: by the die, its parameters, or a channel in fault (R406, R409). -/
def State.instErr (s : State) (i : Nat) : Bool :=
  s.wel.die == 2 || (s.inst i).bad || s.wel.badCh.any fun c => bit (s.param i 0x01) c

/-- The weight in 1/16 d (R411): the sum over its channels, in ascending channel, each step rounded to binary64. -/
def State.weight16 (s : State) (i : Nat) (m : WlIn) : Int :=
  let cs := (List.range 8).filter fun c => bit (s.param i 0x01) c
  let sum := cs.foldl (fun (a : Dy) c => a.add (((Fl.ofBits (s.param i (0x09 + c))).toDy).mul (Dy.ofInt (m.ratios.getD c 0)))) (Dy.ofInt 0)
  let w := ((sum.add (Dy.ofInt (-(signed 32 (s.param i 0x07))))).mul (Fl.ofBits (s.param i 0x08)).toDy).toInt
  16 * w - (s.inst i).z16

/-- A weight in whole d, half to even. -/
def whole16 (w : Int) : Int := (⟨w, -4⟩ : Dy).toInt

/-- The weight is stable (R411). -/
def State.isStable (s : State) (i : Nat) (m : WlIn) : Bool := decide (m.spread ≤ s.param i 0x12 / 0x10000)

/-- The weight is out of range (R411). -/
def State.outOfRange (s : State) (i : Nat) (w16 : Int) : Bool :=
  decide ((16 * (s.param i 0x05 + 9 * s.param i 0x04) : Nat) < w16) || decide (w16 < -((320 * s.param i 0x04 : Nat) : Int))

/-- FLAGS of a record (R417). -/
def State.whFlags (s : State) (stable zero net preset underMin : Bool) : Nat :=
  b2n stable + 2 * b2n zero + 4 * b2n net + 8 * b2n preset + 16 * b2n underMin + 32 * b2n (s.wel.sealed == 1) +
    64 * b2n (s.wel.sealed == 2)

/-- FLAGS of an instrument's weight. -/
def State.weightFlags (s : State) (i : Nat) (m : WlIn) (w16 : Int) : Nat :=
  let t := (s.inst i).tare
  s.whFlags (s.isStable i m) (decide ((absI w16) ≤ 4 * s.param i 0x04)) t.isSome (match t with | some x => x.2 | none => false)
    (decide (whole16 w16 < s.param i 0x06))

/-! ### Gate inhibits (R415) and excitation -/

/-- Level of WL_GINH[n]: low while unpowered, in reset or in ERROR; high when no instrument names the line; else what the cycle of
the instrument that names it asks (R413, R414). -/
def State.ginh (s : State) (n : Nat) : Bool :=
  s.whUp && s.wel.die == 1 &&
  (List.range 4).all fun i =>
    s.param i 0x00 != 2 ||
    ((s.param i 0x18 != n || (!s.instErr i && (s.inst i).cyc == .empty)) &&
     (s.param i 0x19 != n || (!s.instErr i && (s.inst i).cyc == .emptying)))

/-- WL_EXC_EN (R406). -/
def State.excEn (s : State) : Bool := s.whUp && s.wel.die != 2

/-! ### Records (R417, R418, R421) -/

/-- The public key of the Wellhouse, and the first 8 bytes of its hash. -/
def whPub : List Byte := slice (Config.p256Pub Config.wlIdentity) 0 64
def keyRef : List Byte := slice (Config.sha256 whPub) 0 8

/-- Undelivered records. -/
def State.undelivered (s : State) : Nat := s.wel.nextSeq - s.wel.lowest

/-- The whole die enters ERROR (R406, R421): no weighing records, every gate inhibited. The totalising instruments are HALTED (R414). Its
error code is a value the manual does not give. -/
def State.dieError (s : State) : State :=
  let halt (x : Nat × Instrument) : Instrument := if s.param x.1 0x00 = 2 then { x.2 with cyc := .halted, gross := none } else x.2
  s.drawn.setWel { s.wel with
    die := 2, err := Config.freeNat s.free % 2 ^ 32, instr := (s.wel.instr.zipIdx.map fun x => halt (x.2, x.1)) }

/-- R421 holds after it held or not, at `n` undelivered records. -/
def backlogOn (was : Bool) (n : Nat) : Bool := if was then decide (3968 ≤ n) else decide (4032 ≤ n)

/-- R421 begins or ends. -/
def State.noteBacklog (s : State) : State := s.setWel { s.wel with backlog := backlogOn s.wel.backlog s.undelivered }

/-- A record is made, signed and stored (R417, R418). One that would make 4,096 undelivered puts the die in ERROR instead
(R421). -/
def State.whRecord (s : State) (kind i flags tag : Nat) (d : Nat) (gross tare net : Int) (total cycle : Nat) : State :=
  if 4096 ≤ s.undelivered + 1 then s.dieError
  else
    let w := s.wel
    let unit := if kind = 5 then s.param 0xF (4 + i) else if i < 4 then s.param i 0x02 else 0
    let body := leBytes 1 kind ++ leBytes 1 i ++ leBytes 1 flags ++ leBytes 1 unit ++ leBytes 4 w.nextSeq ++ leBytes 4 w.eventCtr ++
      leBytes 4 tag ++ leBytes 8 w.ms ++ leBytes 4 d ++ leBytes 4 (unsigned 32 gross) ++ leBytes 4 (unsigned 32 tare) ++
      leBytes 4 (unsigned 32 net) ++ leBytes 8 total ++ leBytes 4 cycle ++ leBytes 2 w.bootCount ++ [0, 0] ++ keyRef
    let bytes := body ++ slice (Config.ecdsaSign s.free Config.wlIdentity body) 0 64
    let store := w.store ++ [(w.nextSeq, bytes)]
    let w' : Well := { w with store := store.drop (store.length - 4096), nextSeq := w.nextSeq + 1 }
    (s.drawn.setWel w').noteBacklog

/-- An ERROR record (R409, R414): its error code is a value the manual does not give. -/
def State.whError (s : State) (i : Nat) : State :=
  let code := Config.freeNat s.free % 2 ^ 32
  let i' := if i < 4 then s.param i 0x03 else 0
  (s.drawn.modInst i fun x => { x with err := code }).whRecord 8 i (s.whFlags false false false false false) 0 i' 0 0 0 (if i < 4 then (s.inst i).total else 0) code

/-- The SEQ and bytes of the record made last. -/
def State.lastRecord (s : State) : Nat × List Byte := match s.wel.store.getLast? with | some x => x | none => (0, [])

/-! ### Requests (R422) -/

/-- A response goes out on the record link. -/
def State.respond (s : State) (r : WhReq) (status : Nat) (bytes : List Byte) : State :=
  s.setWel { s.wel with resps := s.wel.resps ++ [⟨r.id, r.code, status, bytes⟩] }

/-- The oldest request of a CODE on the link is taken and acted on. A Wellhouse without power takes none. -/
def State.takeReq (s : State) (code : Nat) (act : State → WhReq → State) : State :=
  if !s.whUp then s
  else match s.wel.reqs.find? fun r => r.code == code with
    | none => s
    | some r => act (s.setWel { s.wel with reqs := s.wel.reqs.erase r }) r

/-- Why a request to an instrument is refused before its own rules (R413, R430), if it is: WH_ERROR in ERROR, OUT_OF_RANGE for an
instrument not defined, CYCLE_STATE for a request of the other KIND. -/
def State.instRefuses (s : State) (i kind : Nat) : Option Nat :=
  if s.wel.die = 2 then some 0x14
  else if !s.inUse i then some 0x11
  else if s.instErr i then some 0x14
  else if kind != 0 && s.param i 0x00 != kind then some 0x16
  else none

/-- A request of a KIND is checked, then acted on. -/
def State.onInst (s : State) (r : WhReq) (kind : Nat) (act : State → State) : State :=
  match s.instRefuses r.instr kind with
  | some st => s.respond r st []
  | none => act s

/-- A WEIGHING record (R412). -/
def State.weighRecord (s : State) (i : Nat) (r : WhReq) (m : WlIn) : State :=
  let w16 := s.weight16 i m
  let g := whole16 w16
  let t := match (s.inst i).tare with | some x => x.1 | none => 0
  let s := s.whRecord 1 i (s.weightFlags i m w16) r.tag (s.param i 0x03) g t (g - t) (s.inst i).total 0
  if s.wel.die = 2 then s.respond r 0x14 [] else s.respond r 0 (leBytes 4 s.lastRecord.1)

/-- ZERO (R411, R421, R422). -/
def execZero (m : WlIn) (s : State) : Host.Outcome State Fault Refusal :=
  .next (s.takeReq 0x10 fun s r => s.onInst r 1 fun s =>
    let i := r.instr
    let w16 := s.weight16 i m
    let z := (s.inst i).z16 + w16
    if s.wel.backlog then s.respond r 0x12 []
    else if !s.isStable i m then s.respond r 0x10 []
    else if (16 * s.param i 0x13 : Nat) < absI z then s.respond r 0x11 []
    else
      let s := s.modInst i fun x => { x with z16 := z }
      let s := s.whRecord 6 i (s.weightFlags i m 0) r.tag (s.param i 0x03) 0 0 0 (s.inst i).total 0
      if s.wel.die = 2 then s.respond r 0x14 [] else s.respond r 0 s.lastRecord.2)

/-- TARE (R411, R422). -/
def execTare (m : WlIn) (s : State) : Host.Outcome State Fault Refusal :=
  .next (s.takeReq 0x11 fun s r => s.onInst r 1 fun s =>
    let i := r.instr
    let g := whole16 (s.weight16 i m)
    if !s.isStable i m then s.respond r 0x10 []
    else if g ≤ 0 ∨ (s.param i 0x15 : Int) < g then s.respond r 0x11 []
    else (s.modInst i fun x => { x with tare := some (g, false) }).respond r 0 [])

/-- TARE_PRESET (R422): a tare in d, at most TARE_MAX. -/
def execTarePreset (s : State) : Host.Outcome State Fault Refusal :=
  .next (s.takeReq 0x12 fun s r => s.onInst r 1 fun s =>
    let t := leAt r.args 0 4
    if s.param r.instr 0x15 < t then s.respond r 0x11 []
    else (s.modInst r.instr fun x => { x with tare := some ((t : Int), true) }).respond r 0 [])

/-- TARE_CLEAR (R422). -/
def execTareClear (s : State) : Host.Outcome State Fault Refusal :=
  .next (s.takeReq 0x13 fun s r => s.onInst r 1 fun s => (s.modInst r.instr fun x => { x with tare := none }).respond r 0 [])

/-- WEIGH (R412): refused while another WEIGH of the instrument stands, out of range, or in BACKLOG; else it waits for a stable
weight. -/
def execWeigh (m : WlIn) (s : State) : Host.Outcome State Fault Refusal :=
  .next (s.takeReq 0x14 fun s r => s.onInst r 1 fun s =>
    if s.wel.backlog then s.respond r 0x12 []
    else if (s.inst r.instr).weigh.isSome then s.respond r 0x18 []
    else if s.outOfRange r.instr (s.weight16 r.instr m) then s.respond r 0x11 []
    else s.modInst r.instr fun x => { x with weigh := some (r, s.wel.ms) })

/-- WEIGHING_STABLE (R412): the weight has been stable for STAB_MS, and the record is made. -/
def execWeighingStable (i : Nat) (m : WlIn) (s : State) : Host.Outcome State Fault Refusal :=
  .next (match (s.inst i).weigh with
    | none => s
    | some (r, _) =>
      if !s.whUp || !s.isStable i m then s
      else
        let s := s.modInst i fun x => { x with weigh := none }
        if s.instErr i then s.respond r 0x14 []
        else if s.outOfRange i (s.weight16 i m) then s.respond r 0x11 []
        else s.weighRecord i r m)

/-- A cycle goes to HALTED (R414): both lines low, an ERROR record. -/
def State.haltCycle (s : State) (i : Nat) : State :=
  (s.modInst i fun x => { x with cyc := .halted, since := s.wel.ms, gross := none }).whError i

/-- STABILITY_TIMEOUT (R412, R414): STAB_TIMEOUT_MS has passed without a stable weight. -/
def execStabilityTimeout (i : Nat) (s : State) : Host.Outcome State Fault Refusal :=
  .next (
    let x := s.inst i
    let limit := s.param i 0x17
    if !s.whUp then s
    else match x.weigh with
      | some (r, t) =>
        if t + limit ≤ s.wel.ms then (s.modInst i fun x => { x with weigh := none }).respond r 0x10 [] else s
      | none =>
        if (x.cyc == .settleG || x.cyc == .settleE) && decide (x.since + s.param i 0x16 + limit ≤ s.wel.ms) then s.haltCycle i else s)

/-- CYCLE_FILLED (R413): EMPTY to SETTLE_G. -/
def execCycleFilled (s : State) : Host.Outcome State Fault Refusal :=
  .next (s.takeReq 0x20 fun s r => s.onInst r 2 fun s =>
    if s.wel.backlog then s.respond r 0x12 []
    else if (s.inst r.instr).cyc != .empty then s.respond r 0x16 []
    else (s.modInst r.instr fun x => { x with cyc := .settleG, since := s.wel.ms, gross := none, tag := r.tag,
                                              cycle := x.cycle + 1 }).respond r 0 [])

/-- CYCLE_DISCHARGED (R413, R414): EMPTYING or HALTED to SETTLE_E. -/
def execCycleDischarged (s : State) : Host.Outcome State Fault Refusal :=
  .next (s.takeReq 0x21 fun s r => s.onInst r 2 fun s =>
    let c := (s.inst r.instr).cyc
    if c != .emptying && c != .halted then s.respond r 0x16 []
    else (s.modInst r.instr fun x => { x with cyc := .settleE, since := s.wel.ms, tag := r.tag }).respond r 0 [])

/-- CYCLE_ABORT (R413, R414). -/
def execCycleAbort (s : State) : Host.Outcome State Fault Refusal :=
  .next (s.takeReq 0x22 fun s r => s.onInst r 2 fun s => (s.haltCycle r.instr).respond r 0 [])

/-- A settling state has run its SETTLE_MS and the weight is stable. -/
def State.settled (s : State) (i : Nat) (m : WlIn) (c : Cycle) : Bool :=
  s.whUp && (s.inst i).cyc == c && decide ((s.inst i).since + s.param i 0x16 ≤ s.wel.ms) && s.isStable i m && s.param i 0x00 == 2

/-- SETTLE_GROSS (R413): the GROSS record, and EMPTYING. -/
def execSettleGross (i : Nat) (m : WlIn) (s : State) : Host.Outcome State Fault Refusal :=
  .next (
    if !s.settled i m .settleG then s
    else
      let w16 := s.weight16 i m
      if s.outOfRange i w16 || s.instErr i then s.haltCycle i
      else
        let x := s.inst i
        let g := whole16 w16
        let s := s.modInst i fun x => { x with cyc := .emptying, since := s.wel.ms, gross := some g }
        s.whRecord 2 i (s.weightFlags i m w16) x.tag (s.param i 0x03) g 0 g x.total x.cycle)

/-- SETTLE_EMPTY (R413, R414): the net is added to TOTAL with a TOTAL_ADD record; without a gross an ERROR record closes the
cycle and nothing is added. -/
def execSettleEmpty (i : Nat) (m : WlIn) (s : State) : Host.Outcome State Fault Refusal :=
  .next (
    if !s.settled i m .settleE then s
    else
      let w16 := s.weight16 i m
      if s.outOfRange i w16 || s.instErr i then s.haltCycle i
      else
        let x := s.inst i
        let e := whole16 w16
        match x.gross with
        | none => (s.modInst i fun x => { x with cyc := .empty, since := s.wel.ms }).whError i
        | some g =>
          let total := unsigned 64 ((x.total : Int) + (g - e))
          let s := s.modInst i fun x => { x with cyc := .empty, since := s.wel.ms, gross := none, total := total }
          s.whRecord 3 i (s.weightFlags i m w16) x.tag (s.param i 0x03) g e (g - e) total x.cycle)

/-- TOTAL_READ (R413, R422): TOTAL stands for every instrument. -/
def execTotalRead (s : State) : Host.Outcome State Fault Refusal :=
  .next (s.takeReq 0x23 fun s r => s.onInst r 0 fun s =>
    let i := r.instr
    let s := s.whRecord 4 i (s.whFlags false false false false false) r.tag (s.param i 0x03) 0 0 0 (s.inst i).total (s.inst i).cycle
    if s.wel.die = 2 then s.respond r 0x14 [] else s.respond r 0 (leBytes 4 s.lastRecord.1))

/-- PULSE_READ (R416). -/
def execPulseRead (s : State) : Host.Outcome State Fault Refusal :=
  .next (s.takeReq 0x24 fun s r =>
    if s.wel.die = 2 then s.respond r 0x14 []
    else if 4 ≤ r.instr then s.respond r 0x11 []
    else
      let s := s.whRecord 5 r.instr (s.whFlags false false false false false) r.tag (s.param 0xF r.instr) 0 0 0
        (s.wel.pulses.getD r.instr 0) 0
      if s.wel.die = 2 then s.respond r 0x14 [] else s.respond r 0 (leBytes 4 s.lastRecord.1))

/-- RECORD_READ (R422): NOT_STORED when the record is no longer in the store. -/
def execRecordRead (s : State) : Host.Outcome State Fault Refusal :=
  .next (s.takeReq 0x30 fun s r => match s.wel.store.find? fun x => x.1 == leAt r.args 0 4 with
    | some x => s.respond r 0 x.2
    | none => s.respond r 0x17 [])

/-- AUDIT_READ (R426). -/
def execAuditRead (s : State) : Host.Outcome State Fault Refusal :=
  .next (s.takeReq 0x31 fun s r => s.respond r 0 ((s.wel.audit.drop (leAt r.args 0 4)).take (leAt r.args 4 4)).flatten)

/-- All parameters as 8-byte pairs, in PARAM_ID order. -/
def State.paramBytes (s : State) : List Byte := paramIds.flatMap fun k => leBytes 2 k ++ [0, 0] ++ leBytes 4 (tgetD s.wel.params k 0)

/-- PARAM_READ (R422). -/
def execParamRead (s : State) : Host.Outcome State Fault Refusal :=
  .next (s.takeReq 0x32 fun s r => s.respond r 0 s.paramBytes)

/-- RAW_READ (R422): ratio and sense voltage of each channel of the instrument. -/
def execRawRead (m : WlIn) (s : State) : Host.Outcome State Fault Refusal :=
  .next (s.takeReq 0x33 fun s r =>
    s.respond r 0 (((List.range 8).filter fun c => bit (s.param r.instr 0x01) c).flatMap fun c =>
      leBytes 4 (unsigned 32 (m.ratios.getD c 0)) ++ leBytes 4 (m.sense.getD c 0)))

/-- Software version and checksum of stepping B0 (R428). -/
def whVersion : Nat := 0x0100
def whChecksum : Nat := 0x3C9A51E7

/-- The statement for a nonce (R428). -/
def State.whStatement (s : State) (nonce : List Byte) : List Byte :=
  let w := s.wel
  coseSign1 s.free Config.wlIdentity w.serial (cborMap
    [(1, cborUint whVersion), (2, cborUint whChecksum), (3, cborBstr (Config.sha256 s.paramBytes)), (4, cborUint w.eventCtr),
     (5, cborUint w.audit.length), (6, cborUint w.serial), (7, cborBstr nonce), (8, cborBstr whPub), (9, cborUint w.sealed),
     (10, cborUint w.bootCount), (11, cborBstr (slice Config.wlEndorse 0 512))])

/-- STATEMENT (R428): a nonce of 8 to 32 bytes. -/
def execStatement (s : State) : Host.Outcome State Fault Refusal :=
  .next (s.takeReq 0x34 fun s r =>
    if r.body.length < 8 ∨ 32 < r.body.length then s.respond r 0x11 []
    else s.drawn.respond r 0 (s.whStatement r.body))

/-- SHOW_ID (R428): the identification for 5 s. -/
def execShowId (s : State) : Host.Outcome State Fault Refusal :=
  .next (s.takeReq 0x35 fun s r => (s.setWel { s.wel with showUntil := s.wel.ms + 5000 }).respond r 0 [])

/-! ### Sealed changes (R425, R426) -/

/-- The enrolled key whose signature over the serial and a message verifies. -/
def State.signerOf (s : State) (msg sig : List Byte) : Option (List Byte) :=
  s.wel.keys.find? fun k => Config.ecdsaVerify k (leBytes 8 s.wel.serial ++ msg) sig

/-- An audit entry (R426). -/
def State.auditEntry (s : State) (ctr id old new : Nat) (signer : Option (List Byte)) : List Byte :=
  leBytes 4 ctr ++ leBytes 2 id ++ [0, 0] ++ leBytes 4 old ++ leBytes 4 new ++ leBytes 8 s.wel.ms ++ leBytes 2 s.wel.bootCount ++
    List.replicate 6 0 ++ (match signer with | some k => slice (Config.sha256 k) 0 32 | none => List.replicate 32 0)

/-- A PARAM record (R425). -/
def State.paramRecord (s : State) (r : WhReq) : State :=
  s.whRecord 7 0xFF (s.whFlags false false false false false) r.tag 0 0 0 0 0 0

/-- The instrument is EMPTY or READY (R425): off, or neither in a cycle nor in ERROR. -/
def State.atRest (s : State) (i : Nat) : Bool := !s.inUse i || ((s.inst i).cyc == .empty && !s.instErr i)

/-- PARAM_WRITE (R425). -/
def execParamWrite (s : State) : Host.Outcome State Fault Refusal :=
  .next (s.takeReq 0x40 fun s r =>
    let b := r.body
    let n := leAt b 4 1
    let ents := (List.range n).map fun k => (leAt b (8 + 8 * k) 2, leAt b (12 + 8 * k) 4)
    let msg := b.take (8 + 8 * n)
    let s' := s.setWel { s.wel with params := ents.foldl (fun t e => tput t e.1 e.2) s.wel.params }
    if s.wel.die = 2 then s.respond r 0x14 []
    else if s.wel.sealed != 1 then s.respond r stSEALED []
    else if b.length != 72 + 8 * n then s.respond r 0x13 []
    else match s.signerOf msg (b.drop (8 + 8 * n)) with
      | none => s.respond r 0x13 []
      | some k =>
        if leAt b 0 4 != s.wel.eventCtr then s.respond r 0x13 []
        else if n < 1 ∨ 16 < n ∨ !(ents.all fun e => paramOk e.1 e.2) ∨ !s'.channelsApart then s.respond r 0x11 []
        else if ents.any fun e => e.1 < 0x400 && !s.atRest (e.1 / 0x100) then s.respond r 0x16 []
        else if 16384 < s.wel.audit.length + n then s.respond r 0x15 []
        else
          let ctr := s.wel.eventCtr + 1
          let log := ents.map fun e => s.auditEntry ctr e.1 (tgetD s.wel.params e.1 0) e.2 (some k)
          let s := s'.setWel { s'.wel with eventCtr := ctr, audit := s.wel.audit ++ log }
          (s.paramRecord r).respond r 0 (leBytes 4 ctr))

/-- KEY_ENROL (R425): one of up to 8 operator keys; the first needs no signature. -/
def execKeyEnrol (s : State) : Host.Outcome State Fault Refusal :=
  .next (s.takeReq 0x41 fun s r =>
    let key := r.body.take 64
    let signer := s.signerOf key (r.body.drop 64)
    if s.wel.die = 2 then s.respond r 0x14 []
    else if s.wel.sealed != 1 then s.respond r stSEALED []
    else if r.body.length < 64 ∨ (!s.wel.keys.isEmpty ∧ signer.isNone) then s.respond r 0x13 []
    else if 8 ≤ s.wel.keys.length then s.respond r 0x11 []
    else if 16384 ≤ s.wel.audit.length then s.respond r 0x15 []
    else
      let ctr := s.wel.eventCtr + 1
      let w := s.wel
      let s := s.setWel { w with keys := w.keys ++ [key], eventCtr := ctr, audit := w.audit ++ [s.auditEntry ctr 0xFFF0 0 0 signer] }
      (s.paramRecord r).respond r 0 (leBytes 4 s.wel.keys.length))

/-- AUDIT_ARCHIVE (R426): the trail is cleared against its signed hash, and the archive becomes entry 0. -/
def execAuditArchive (s : State) : Host.Outcome State Fault Refusal :=
  .next (s.takeReq 0x42 fun s r =>
    let hash := r.body.take 32
    if s.wel.die = 2 then s.respond r 0x14 []
    else if s.wel.sealed != 1 then s.respond r stSEALED []
    else if hash != Config.sha256 s.wel.audit.flatten then s.respond r 0x13 []
    else match s.signerOf hash (r.body.drop 32) with
      | none => s.respond r 0x13 []
      | some k =>
        let n := s.wel.audit.length
        (s.setWel { s.wel with audit := [s.auditEntry s.wel.eventCtr 0xFFFF 0 0 (some k)] }).respond r 0 (leBytes 4 n))

/-! ### Start, channels, seal, pulses, display -/

/-- The parameter checks of the start (R406, R424): an instrument that fails enters ERROR, and a totalising one is HALTED (R414). -/
def State.checkParams (s : State) : State :=
  (List.range 4).foldl (fun s i =>
    let bad := !s.paramsGood i
    let was := (s.inst i).bad
    let s := s.modInst i fun x => { x with bad := bad }
    if bad && !was && s.param i 0x00 == 2 then s.haltCycle i else s) s

/-- WELLHOUSE_START (R406): after power-up or WL_RESET_N the start checks run, BOOT_COUNT rises, a POWER_UP record is made and a
HELLO is due. What the die held outside NV starts afresh. A failed ROM or NV check puts it in ERROR. -/
def execWellhouseStart (romOk nvOk : Bool) (s : State) : Host.Outcome State Fault Refusal :=
  .next (
    if s.part != .cx7740 then s
    else
      let w := s.wel
      let inst := w.instr.map fun x => ({ total := x.total, cycle := x.cycle } : Instrument)
      let s := s.setWel { w with
        up := true, die := 1, instr := inst, badCh := [], ms := 0, showUntil := 0, reqs := [], resps := []
        bootCount := (w.bootCount + 1) % 0x10000, credit := 0, sendSeq := w.lowest, helloNow := true }
      let s := s.whRecord 9 0xFF (s.whFlags false false false false false) 0 0 0 0 0 0 0
      if romOk && nvOk then s.checkParams else s.dieError)

/-- WELLHOUSE_RESET (R405, R415): WL_RESET_N low or a supply out of range. NV stays; every gate is inhibited. -/
def execWellhouseReset (s : State) : Host.Outcome State Fault Refusal :=
  .next (s.setWel { s.wel with up := false, die := 0, reqs := [], resps := [], helloNow := false, credit := 0 })

/-- Instruments that use a channel. -/
def State.usersOf (s : State) (ch : Nat) : List Nat := (List.range 4).filter fun i => s.inUse i && bit (s.param i 0x01) ch

/-- SENSE_FAULT (R409): a sense voltage out of range for 20 ms; its instruments enter ERROR, a totalising cycle halts (R414). -/
def execSenseFault (ch : Nat) (s : State) : Host.Outcome State Fault Refusal :=
  .next (
    if !s.whUp || s.wel.badCh.contains ch || decide (8 ≤ ch) then s
    else
      let was := (s.usersOf ch).filter fun i => !s.instErr i
      let s := s.setWel { s.wel with badCh := s.wel.badCh ++ [ch] }
      was.foldl (fun s i =>
        let s := match (s.inst i).weigh with
          | some (r, _) => (s.modInst i fun x => { x with weigh := none }).respond r 0x14 []
          | none => s
        if s.param i 0x00 = 2 then s.haltCycle i else s.whError i) s)

/-- SENSE_RECOVERED (R409): 2 s after the sense voltage returns the instruments leave ERROR. -/
def execSenseRecovered (ch : Nat) (s : State) : Host.Outcome State Fault Refusal :=
  .next (
    if !s.whUp || !s.wel.badCh.contains ch then s
    else
      let s := s.setWel { s.wel with badCh := s.wel.badCh.filter fun c => c != ch }
      ((s.usersOf ch).filter fun i => !s.instErr i).foldl (fun s i => s.whError i) s)

/-- ZERO_TRACKING (R411): each second Z moves by at most ZTRACK / 16 d toward the weight, while it is stable, within ±0.5 e of zero
and not net. -/
def execZeroTracking (i : Nat) (m : WlIn) (s : State) : Host.Outcome State Fault Refusal :=
  .next (
    let w16 := s.weight16 i m
    let step : Int := s.param i 0x14
    if !s.whUp || !s.inUse i || s.instErr i || !s.isStable i m || (s.inst i).tare.isSome || decide (8 * s.param i 0x04 < absI w16) then s
    else s.modInst i fun x => { x with z16 := x.z16 + clampI (-step) step w16 })

/-- PULSE_EDGE (R416): a qualified rising edge counts on an enabled input. -/
def execPulseEdge (n : Nat) (s : State) : Host.Outcome State Fault Refusal :=
  .next (
    if s.whUp && decide (n < 4) && s.param 0xF n != 0 then
      s.setWel { s.wel with pulses := lmod s.wel.pulses n fun c => (c + 1) % 2 ^ 64 }
    else s)

/-- SEAL_CHANGE (R424): the contacts have settled for 100 ms at closed (0), open (1) or fault (2). From open to closed the parameter
checks run again. The gateway records it with the next HELLO. -/
def execSealChange (st : Nat) (s : State) : Host.Outcome State Fault Refusal :=
  .next (
    if !s.whUp || decide (2 < st) || st == s.wel.sealed then s
    else
      let was := s.wel.sealed
      let s := s.setWel { s.wel with sealed := st }
      if was = 1 && st = 0 then s.checkParams else s)

/-- DISPLAY_REDRAW (R427): every pixel for the first second, the identification for 2 s and on SHOW_ID, else a band for each
instrument in use. -/
def execDisplayRedraw (ms : List WlIn) (s : State) : Host.Outcome State Fault Refusal :=
  .next (
    if !s.whUp then s
    else if s.wel.ms < 1000 then s.emit (.display .lit)
    else if s.wel.ms < 3000 ∨ s.wel.ms < s.wel.showUntil then s.emit (.display (.ident whVersion whChecksum))
    else
      let band (i : Nat) : Band :=
        let m : WlIn := ms.getD i ⟨[], [], 0⟩
        let w16 := s.weight16 i m
        let t := (s.inst i).tare
        { instr := i, weight := if s.outOfRange i w16 then none else some (whole16 w16 - (match t with | some x => x.1 | none => 0))
          unit := s.param i 0x02, maxD := s.param i 0x05, minD := s.param i 0x06, eD := s.param i 0x04, stable := s.isStable i m
          zero := decide (absI w16 ≤ 4 * s.param i 0x04), net := t.isSome, preset := (match t with | some x => x.2 | none => false)
          error := if s.instErr i then some (s.inst i).err else none }
      s.emit (.display (.bands (((List.range 4).filter s.inUse).map band) s.wel.sealed (if s.wel.die = 2 then some s.wel.err else none))))

end Sys2Proof.Machine
end

