-- ==== Sys2Proof/Machine/Wellgate.lean ====
section
/-! DEFINITION. The Wellhouse gateway (R419–R423, R430, R431): credit, records, PROCESS values, requests. -/

namespace Sys2Proof.Machine

open Sys2Proof

/-- The gateway is in the part and runs. -/
def State.wlgUp (s : State) : Bool := s.mainLive && !s.capAbsent 0x12

/-- A frame that fails its CRC is counted (R420, R431). -/
def State.wlgBadFrame (s : State) : State :=
  (s.setWlg { s.wlg with crcFails := s.wlg.crcFails + 1 }).count WLG_LINK_ERR 1

/-- A frame goes out on the request link: 0x01 CREDIT, 0x02 DELIVERED, 0x03 RESEND with its value. -/
def State.wlgSend (s : State) (code v : Nat) : State := s.setWlg { s.wlg with link := s.wlg.link ++ [(code, v)] }

/-- WLG_STATUS.HELD. -/
def State.showHeld (s : State) : State := s.put WLG_STATUS_HELD s.wlg.held.length

/-- Held records go to the buffers posted on S51, in SEQ order (R420, R430). -/
def State.wlgDeliver (s : State) : Nat → State
  | 0 => s
  | n + 1 =>
    match s.wlg.held.find? fun h => h.2.2.2.2 with
    | none => s
    | some (seq, bytes, sn, cell, _) =>
      if !s.flag WLG_CFG_ENABLE || !s.serving then s
      else
        let (s', found) := s.deliver 51 0xC010 (seq + 2 ^ 32 * leAt bytes 0 1) (bytes ++ leBytes 8 sn) .status
        if !found then s'
        else
          let held := s'.wlg.held.map fun (q, b, a, c, w) => if q = seq then (q, b, a, c, false) else (q, b, a, c, w)
          let s' := s'.setWlg { s'.wlg with held := held }
          -- the Cistern cell returns with the copy to the host
          (s'.freeFrame cell).wlgDeliver n

/-- The item's completion has been written to the host: DELIVERED goes out and the place is free (R420). -/
def State.wlgWritten (s : State) (seq : Nat) : State :=
  if s.wlg.held.any fun h => h.1 == seq then
    let s := (s.setWlg { s.wlg with held := s.wlg.held.filter fun h => h.1 != seq }).showHeld
    ((s.count WLG_RECORDS 1).setNum WLG_LAST_SEQ seq).wlgSend 0x02 seq
  else s

/-- RECORD_RX (R418, R420): the Wellhouse, holding credit, sends the next record in SEQ order; `ok`: the frame's CRC verifies. A
failed frame or a gap makes the gateway ask for a resend; a lower SEQ is discarded. -/
def execRecordRx (ok : Bool) (s : State) : Host.Outcome State Fault Refusal :=
  .next (
    let w := s.wel
    if !s.whUp || w.credit == 0 then s
    else match w.store.find? fun x => x.1 == w.sendSeq with
      | none => s
      | some (seq, bytes) =>
        let s := s.setWel { w with credit := w.credit - 1, sendSeq := w.sendSeq + 1 }
        if !s.wlgUp then s
        else
          let want := s.wlg.expect.getD seq
          if !ok then s.wlgBadFrame.wlgSend 0x03 want
          else if seq < want then s.count WLG_DUP 1
          else if want < seq then s.wlgSend 0x03 want
          else match s.storeFrame 42 0 bytes true none with
            | none => (s.admitDrop 42).wlgSend 0x03 want
            | some (s, cell) =>
              let s := (s.setWlg { s.wlg with expect := some (seq + 1), held := s.wlg.held ++ [(seq, bytes, s.sn, cell, true)] }).showHeld
              let s := if leAt bytes 0 1 = 7 then s.record EV_PARAM_CHANGED 0 (leAt bytes 8 4) seq 0 else s
              s.wlgDeliver 64)

/-- How many of `n` more records the Cistern admits on port 42. -/
def State.recordRoom (s : State) : Nat → Nat
  | 0 => 0
  | n + 1 =>
    match s.storeFrame 42 0 (List.replicate 128 0) true none with
    | some (s, _) => s.recordRoom n + 1
    | none => 0

/-- CREDIT (R420): the Wellhouse receives credit for the records the gateway can take: it holds at most 64, and each needs a cell
of the Cistern on port 42. -/
def execCredit (s : State) : Host.Outcome State Fault Refusal :=
  .next (
    let n := if s.wlgUp && s.flag WLG_CFG_ENABLE then s.recordRoom (64 - s.wlg.held.length) else 0
    if s.whUp then s.setWel { s.wel with credit := n } else s)

/-- The oldest frame of a CODE on the request link. -/
def State.linkFrame (s : State) (code : Nat) : Option Nat := (s.wlg.link.find? fun f => f.1 == code).map (·.2)

/-- That frame taken off the link. -/
def State.linkDrop (s : State) (code v : Nat) : State := s.setWlg { s.wlg with link := s.wlg.link.erase (code, v) }

/-- DELIVERED (R418, R420, R421): the Wellhouse marks a record as delivered. -/
def execDelivered (s : State) : Host.Outcome State Fault Refusal :=
  .next (if !s.serving then s else match s.linkFrame 0x02 with
    | none => s
    | some seq =>
      let s := s.linkDrop 0x02 seq
      if !s.whUp || decide (s.wel.nextSeq ≤ seq) then s
      else (s.setWel { s.wel with lowest := max s.wel.lowest (seq + 1) }).noteBacklog)

/-- RESEND (R419, R420): the Wellhouse sends again from the SEQ named, and a HELLO at once. -/
def execResend (s : State) : Host.Outcome State Fault Refusal :=
  .next (if !s.serving then s else match s.linkFrame 0x03 with
    | none => s
    | some seq =>
      let s := s.linkDrop 0x03 seq
      if s.whUp then s.setWel { s.wel with sendSeq := max s.wel.lowest (min seq s.wel.nextSeq), helloNow := true } else s)

/-- State byte of an instrument in a PROCESS frame (R419). -/
def State.procState (s : State) (i : Nat) : Nat :=
  if s.instErr i then 7
  else if s.param i 0x00 != 2 then 0
  else match (s.inst i).cyc with | .empty => 0 | .settleG => 1 | .emptying => 2 | .settleE => 3 | .halted => 4

/-- The gateway shows an instrument's value, and records a change of its state (R431, R432). -/
def State.showProc (s : State) (i : Nat) (v : ProcValue) : State :=
  let was := s.wlg.states.getD i 0
  let s := ((s.setWlg { s.wlg with states := s.wlg.states.set i v.state }).setNum (WLG_NLW i) v.weight).setNum (WLG_RATE i) v.rate
  if was = v.state then s
  else s.record EV_WH_STATE 0 i v.state (if v.state = 7 then (if s.wel.die = 2 then s.wel.err else (s.inst i).err) else 0)

/-- The PROCESS frame of an intake job at port 42. -/
def State.procFrame (s : State) (j : Job) : Option (Nat × Nat × List ProcValue) :=
  match j.src with
  | .intake 42 a => s.wlg.frames.find? fun f => f.1 == a
  | _ => none

/-- A PROCESS frame leaves its intake; its cells return. -/
def State.dropProc (s : State) (j : Job) : State :=
  match s.procFrame j with
  | some f => (s.setWlg { s.wlg with frames := s.wlg.frames.erase f }).freeFrame f.2.1
  | none => s

/-- The intake job of a PROCESS frame commits: the loop units keep the values (R423). -/
def State.commitProc (s : State) (j : Job) : State :=
  match s.procFrame j with
  | some f =>
    if s.mayCommit j then
      let s := s.dropProc j
      (s.setWlg { s.wlg with proc := f.2.2.map some }).commitOne j
    else s
  | none => s

/-- A PROCESS frame enters the Cistern on fabric port 42 and is presented as an intake job of class 6 (R33, R423); one that finds no
cells is dropped. -/
def State.enterProc (s : State) (vs : List ProcValue) : State :=
  let bytes := (vs.zipIdx.flatMap fun x => leBytes 4 x.1.weight ++ leBytes 4 x.1.rate ++ leBytes 1 x.1.state ++ leBytes 1 x.1.flags ++ [0, 0])
  match s.storeFrame 42 0 ([2, 0, 48, 0] ++ bytes) true none with
  | none => s.admitDrop 42
  | some (s, id) =>
    let a := s.disp.nextId
    let s := s.setWlg { s.wlg with frames := s.wlg.frames ++ [(a, id, vs)] }
    (vs.zipIdx.foldl (fun s x => s.showProc x.2 x.1) s).addJob
      { id := 0, src := .intake 42 a, cls := 6, prio := 0, repl := false, phase := .presented }

/-- A totalising instrument whose weight is out of range goes to HALTED (R414). -/
def State.haltRange (s : State) (ms : List WlIn) : State :=
  (ms.zipIdx.take 4).foldl (fun s x =>
    if s.param x.2 0x00 == 2 && !s.instErr x.2 && (s.inst x.2).cyc != .halted && s.outOfRange x.2 (s.weight16 x.2 x.1) then s.haltCycle x.2
    else s) s

/-- PROCESS (R419, R423): every millisecond a frame with the non-legal weight and rate of each instrument. -/
def execProcess (ms : List WlIn) (rates : List Word) (ok : Bool) (s : State) : Host.Outcome State Fault Refusal :=
  .next (
    if !s.whUp then s
    else
      let s := (s.setWel { s.wel with ms := s.wel.ms + 1 }).haltRange ms
      if !s.wlgUp then s
      else if !ok then s.wlgBadFrame
      else if !s.flag WLG_CFG_PROC_EN then s
      else s.enterProc ((List.range 4).map fun i =>
        let m : WlIn := ms.getD i ⟨[], [], 0⟩
        ⟨unsigned 32 (whole16 (s.weight16 i m)), (rates.getD i 0).toNat, s.procState i, s.weightFlags i m (s.weight16 i m), s.sn⟩))

/-- The registers of the link window show the Wellhouse as its HELLO tells it, with a record of each change (R419, R431). -/
def State.helloViews (s : State) : State :=
  let w := s.wel
  let s := (s.setNum64 WLG_SERIAL_LO WLG_SERIAL_HI w.serial).put WLG_SW_ID_VER whVersion
  let s := (s.setNum WLG_SW_CHECK whChecksum).setNum WLG_EVENT_CTR w.eventCtr
  s.put WLG_STATUS_UNDELIVERED s.undelivered

/-- The die state that a HELLO tells (R431). -/
def State.helloDie (s : State) : State :=
  let w := s.wel
  if s.get WLG_STATUS_WH_STATE = w.die then s
  else
    let s := s.put WLG_STATUS_WH_STATE w.die
    s.record EV_WH_STATE 0 0xFF w.die (if w.die = 2 then w.err else 0)

/-- The seal state that a HELLO tells (R431). -/
def State.helloSeal (s : State) : State :=
  let w := s.wel
  let shown := if s.flag WLG_STATUS_SEAL_FAULT then 2 else s.get WLG_STATUS_SEAL_OPEN
  if shown = w.sealed then s
  else
    let s := (s.put WLG_STATUS_SEAL_OPEN (b2n (w.sealed == 1))).put WLG_STATUS_SEAL_FAULT (b2n (w.sealed == 2))
    s.record EV_SEAL_CHANGE 0 w.sealed w.eventCtr 0

/-- R421 as the undelivered records of a HELLO tell it (R431, R432). -/
def State.helloBacklog (s : State) : State :=
  let on := backlogOn (s.flag WLG_STATUS_BACKLOG) s.undelivered
  if on = s.flag WLG_STATUS_BACKLOG then s
  else (s.put WLG_STATUS_BACKLOG (b2n on)).record EV_BACKLOG 0 (b2n on) s.undelivered 0

/-- The link is up, and the time of its last HELLO stands (R431). -/
def State.helloLink (s : State) : State :=
  let s := if s.flag WLG_STATUS_LINK_UP then s
    else (s.put WLG_STATUS_LINK_UP 1).record EV_WH_LINK 0 1 s.wel.serial s.wel.bootCount
  s.setWlg { s.wlg with helloAt := s.now }

/-- Records that the gateway has not received are asked for (R420). -/
def State.helloRecords (s : State) : State :=
  let s' := (s.setWlg { s.wlg with expect := some s.wel.lowest }).wlgSend 0x03 s.wel.lowest
  match s.wlg.expect with
  | some e => if s.wel.nextSeq < e then s' else s
  | none => s'

/-- HELLO (R419, R420, R431): the gateway's view of the Wellhouse. The first after a reset of the main die asks for the records
from the lowest undelivered one. -/
def execHello (ok : Bool) (s : State) : Host.Outcome State Fault Refusal :=
  .next (
    if !s.whUp then s
    else
      let s := s.setWel { s.wel with helloNow := false }
      if !s.wlgUp then s
      else if !ok then s.wlgBadFrame
      else s.helloViews.helloDie.helloSeal.helloBacklog.helloLink.helloRecords)

/-- WH_LINK (R431): no HELLO for 2 s, and the link is lost. -/
def execWhLink (s : State) : Host.Outcome State Fault Refusal :=
  .next (
    if s.wlgUp && s.flag WLG_STATUS_LINK_UP && decide (s.wlg.helloAt + 8000 ≤ s.now) then
      (s.put WLG_STATUS_LINK_UP 0).record EV_WH_LINK 0 0 s.wel.serial s.wel.bootCount
    else s)

/-- Status LINK_CRC once per 4,000 strokes (R431). -/
def State.wlgEdge (s : State) : State :=
  if s.sn % 4000 = 0 && s.wlg.crcFails != 0 then
    (s.setWlg { s.wlg with crcFails := 0 }).record EV_LINK_CRC 0 s.wlg.crcFails 0 0
  else s

/-- CODEs whose response gives a SEQ or EVENT_CTR (R422). -/
def givesNumber (code : Nat) : Bool := [0x14, 0x23, 0x24, 0x40].contains code

/-- WLG_REQUEST (R430): the request goes out on the link with its own REQ_ID; without the link it is ABSENT. -/
def execWlgRequest (d : Desc) (s : State) : Host.Outcome State Fault Refusal :=
  .next (s.command d fun s =>
    if !s.flag WLG_STATUS_LINK_UP then s.fail stABSENT
    else
      let id := s.wlg.nextId
      let r : WhReq := ⟨d.op 32 1, id, d.op 36 4, d.op 33 1, slice d.ops 8 8, d.buf⟩
      let s := if s.whUp then s.setWel { s.wel with reqs := s.wel.reqs ++ [r] } else s
      (s.setWlg { s.wlg with nextId := (id + 1) % 0x10000, reqs := s.wlg.reqs ++ [(id, d, s.sn)] }).later)

/-- WH_RESPONSE (R430): a RESPONSE frame completes its request; one that fails its CRC is lost. The Wellhouse's statement completes
the KEY_ATTEST that asked for it (R428). -/
def execWhResponse (ok : Bool) (s : State) : Host.Outcome State Fault Refusal :=
  .next (match s.wel.resps with
    | [] => s
    | r :: rest =>
      let s := s.setWel { s.wel with resps := rest }
      if !s.wlgUp then s
      else if !ok then s.wlgBadFrame
      else match s.wlg.reqs.find? fun q => q.1 == r.id with
        | none => s
        | some (id, d, _) =>
          let s := s.setWlg { s.wlg with reqs := s.wlg.reqs.filter fun q => q.1 != id }
          if d.opcode = 0xE007 then s.finish d (s.attest d (if r.status = 0 then some r.bytes else none))
          else if r.status != 0 then s.finish d (s.fail r.status)
          else s.finish d (s.answer d r.bytes (if givesNumber r.code then leAt r.bytes 0 4 else 0)))

/-- REQ_TIMEOUT (R430): a request unanswered after 4,000 strokes. -/
def execReqTimeout (s : State) : Host.Outcome State Fault Refusal :=
  .next (if !s.serving then s else match s.wlg.reqs.find? fun q => q.2.1.opcode == 0xC001 && decide (q.2.2 + 4000 ≤ s.sn) with
    | none => s
    | some (id, d, _) =>
      let s := s.setWlg { s.wlg with reqs := s.wlg.reqs.filter fun q => q.1 != id }
      let s := s.setWel { s.wel with reqs := s.wel.reqs.filter fun r => r.id != id }
      let s := (s.count WLG_REQ_TIMEOUT 1).record EV_REQ_TIMEOUT 0 (d.op 32 1) id 0
      s.finish d (s.fail stTIMEOUT))

end Sys2Proof.Machine
end

