-- ==== Sys2Proof/Machine/Motion.lean ====
section
/-! DEFINITION. Motion axes (R433–R451): the step generator, moves, stops, faults, limits, homing, gate inhibits and the MOTION
ring. -/

namespace Sys2Proof.Machine

open Sys2Proof

/-! ### Status codes (R449) -/

abbrev stNOT_REFERENCED : Nat := 0x10
abbrev stAXIS_BUSY : Nat := 0x11
abbrev stLIMIT : Nat := 0x12
abbrev stINHIBITED : Nat := 0x13
abbrev stAXIS_FAULT : Nat := 0x14
abbrev stHOME_NOT_FOUND : Nat := 0x15
abbrev stBAD_PROFILE : Nat := 0x16
abbrev stSTOPPED : Nat := 0x17

/-! ### Views of an axis -/

/-- Axis `n`. -/
def State.axis (s : State) (n : Nat) : Axis := s.mot.axes.getD n {}

/-- Axis `n` changed. -/
def State.modAxis (s : State) (n : Nat) (f : Axis → Axis) : State := s.setMot { s.mot with axes := lmod s.mot.axes n f }

/-- Velocity in q per stroke. -/
def Axis.v (a : Axis) : Int := a.v16.tdiv 16

/-- A position in q, 64-bit signed (R436). -/
def wrapQ (p : Int) : Int := signed 64 (unsigned 64 p)

/-- Microstep position of a position in q. -/
def micro (p : Int) : Int := p / 65536

/-- The descriptor of the command an axis runs. -/
def AxisCmd.desc : AxisCmd → Desc
  | .profile d _ => d
  | .move d _ _ _ _ _ _ _ => d
  | .home d _ _ _ _ _ _ _ _ => d

/-- STOP_DEC and VMAX as they read (R451). -/
def State.stopDec (s : State) (n : Nat) : Nat := max 1 (s.num (MOT_STOP_DEC n))
def State.axisVmax (s : State) (n : Nat) : Nat := clampN 1 0x10000000 (s.num (MOT_VMAX n))

/-- The axes are driven: after the first stroke edge, not in RESET or HALT (R434). -/
def State.motLive (s : State) : Bool := s.stroked && s.serving

/-- AXn_EN (R434). -/
def State.axisEn (s : State) (n : Nat) : Bool := s.motLive && (s.axis n).enabled && !(s.axis n).fault

/-- Level of WL_GINH[n]; high on the CX7720 (R3, R448). -/
def State.ginhLine (s : State) (n : Nat) : Bool := s.part == .cx7720 || s.ginh n

/-- A direction of the axis is blocked (R448). -/
def State.inhibited (s : State) (n : Nat) : Bool :=
  s.flag (MOT_AXIS_CFG_GINH_EN n) && !s.ginhLine (s.get (MOT_AXIS_CFG_GINH_LINE n))

/-- Motion in a direction is blocked (R448). -/
def State.blocks (s : State) (n : Nat) (positive : Bool) : Bool :=
  s.inhibited n &&
  match s.get (MOT_AXIS_CFG_GINH_DIR n) with | 0 => true | 1 => positive | 2 => !positive | _ => false

/-- Motion in a direction runs toward a latched limit (R446). -/
def Axis.latchedToward (a : Axis) (positive : Bool) : Bool := if positive then a.latchP.isSome else a.latchN.isSome

/-- A stop wave is in force and stops the axis (R443). -/
def State.waveStops (s : State) (n : Nat) : Bool := s.flag STP_STATUS_WAVE && s.flag (MOT_AXIS_CFG_STOP_WAVE n)

/-- HOLD current: stood still for HOLD_DELAY strokes, or frozen by an inhibit (R441, R448). -/
def State.holding (s : State) (n : Nat) : Bool :=
  (s.axis n).v16 == 0 && ((s.axis n).froze || decide (16 * s.get (MOT_CUR_HOLD_DELAY n) ≤ (s.axis n).still))

/-- Index of the segment in force. -/
def Axis.seg (a : Axis) : Nat := match a.cmd with | some (.profile _ i) => i | _ => 0

/-- The index of the segment after one (R438); none at the end of the profile. -/
def nextSeg (i : Nat) (g : AxisSeg) : Option Nat :=
  if g.fin then none
  else match g.link with
    | some l => some l
    | none => if i = 255 then none else some (i + 1)

/-- MOT_AX_STAT_n. -/
def State.axStat (s : State) (n : Nat) : Nat :=
  let a := s.axis n
  b2n (a.v16 != 0) + 2 * b2n a.referenced +
  4 * b2n (match a.cmd with | some (.home _ _ _ _ _ _ _ _ _) => true | _ => false) +
  8 * b2n a.latchP.isSome + 16 * b2n a.latchN.isSome + 32 * b2n a.home.active + 64 * b2n (s.inhibited n) + 128 * b2n a.fault +
  256 * b2n a.overspeed + 512 * b2n (a.limp.chatter || a.limn.chatter || a.home.chatter) + 1024 * b2n (s.axisEn n && s.holding n) +
  2048 * b2n a.retained + 65536 * a.seg

/-! ### Bridges (R433, R441, R442) -/

/-- First and second half-bridge input of a phase (R433). -/
def PhaseDrive.inputs : PhaseDrive → Bool × Bool
  | .forward => (true, false)
  | .reverse => (false, true)
  | .slow => (false, false)

/-- Drive of a phase in an on-phase at electrical angle `k` of 1,024: the sense of sin for phase A, of cos (the angle a quarter
ahead) for phase B. Fast decay is the opposite sense (R433). -/
def phaseSense (k : Nat) : PhaseDrive := if k % 1024 < 512 then .forward else .reverse

/-- The opposite sense: fast decay drives against the current (R433). -/
def PhaseDrive.opposite : PhaseDrive → PhaseDrive
  | .forward => .reverse
  | .reverse => .forward
  | .slow => .slow

/-- The chopper cycle of axis `n` (R441). -/
def State.chopCycle (s : State) (n : Nat) : Chop :=
  let period := 1000000 / clampN 20 80 (s.get (MOT_CHOP_F_CHOP n))
  let toff := min (250 * clampN 4 100 (s.get (MOT_CHOP_TOFF n))) (period / 2)
  ⟨period, period - toff, toff * s.get (MOT_CHOP_FAST n) / 16, toff, 250 * s.get (MOT_CHOP_BLANK n)⟩

/-- What the bridges of axis `n` are given. -/
def State.axisBridge (s : State) (n : Nat) : Bridge :=
  let a := s.axis n
  if !s.axisEn n then .off
  else
    let m := (micro a.pos % 1024).toNat
    let inv := s.flag (MOT_AXIS_CFG_DIR_INV n)
    if s.flag (MOT_AXIS_CFG_MODE n) then
      let u := a.v.natAbs / 65536
      let amp := min 255 (s.get (MOT_VMODE_AMP_0 n) + s.get (MOT_VMODE_K_V n) * u / 64)
      let lead := min 255 (s.get (MOT_VMODE_K_LEAD n) * u / 64)
      .volt amp (if a.v16 < 0 then (m + 1024 - lead) % 1024 else (m + lead) % 1024) inv
    else
      let b := phaseSense (m + 256)
      .chop (if s.holding n then s.get (MOT_CUR_HOLD n) else s.get (MOT_CUR_RUN n)) m (phaseSense m) (if inv then b.opposite else b)
        (s.chopCycle n)

/-- What the bridges of every axis in drive are given. -/
def State.axisDrives (s : State) : List (Nat × Bridge) := ((List.range 16).filter s.axisEn).map fun n => (n, s.axisBridge n)

/-- The drives go out, where some axis is in drive. -/
def State.driveAxes (s : State) : State := if s.axisDrives.isEmpty then s else s.emit (.axes s.axisDrives)

/-! ### Ends and stops -/

/-- The running command of an axis ends with a status; its segments are gone. -/
def State.endAxis (s : State) (n status : Nat) : State :=
  let a := s.axis n
  let s := s.modAxis n fun a => { a with cmd := none, run := none, plan := none }
  match a.cmd with
  | some c => s.finish c.desc (s.fail status)
  | none => s

/-- The stop generator takes over (R443). -/
def State.haltAxis (s : State) (n : Nat) : State :=
  s.modAxis n fun a => { a with run := none, plan := none, stopping := a.v16 != 0 }

/-- A stop: the running command ends with the status of its cause (R443). -/
def State.stopAxis (s : State) (n status : Nat) : State := (s.haltAxis n).endAxis n status

/-- REFERENCED clears (R445): cause 1 power-down, 2 inhibit, 3 overspeed. -/
def State.loseReference (s : State) (n cause : Nat) : State :=
  if (s.axis n).referenced then
    (s.modAxis n fun a => { a with referenced := false }).record EV_REFERENCE_LOST 0 n cause 0
  else s

/-- The driver stage of an axis loses power (R445). -/
def State.powerDown (s : State) (n : Nat) : State :=
  let a := s.axis n
  let keep := s.flag (MOT_AXIS_CFG_RETAIN n) && a.v16 == 0 && decide (16 ≤ a.still)
  let s := s.modAxis n fun a =>
    { a with enabled := false, v16 := 0, run := none, plan := none, stopping := false, retained := keep }
  if keep then s else s.loseReference n 1

/-- The axis freezes at HOLD current (R448). -/
def State.freezeAxis (s : State) (n : Nat) : State :=
  let a := s.axis n
  let s := if a.v16 = 0 then s
    else s.record EV_INHIBIT_FREEZE 0 n (s.get (MOT_AXIS_CFG_GINH_LINE n)) (unsigned 32 a.v)
  let s := if 16 * s.num (MOT_SAFE_V n) < a.v16.natAbs then s.loseReference n 2 else s
  (s.modAxis n fun a => { a with v16 := 0, stopping := false, froze := true }).endAxis n stINHIBITED

/-- The axis stands. -/
def Axis.stands (a : Axis) : Bool := a.v16 == 0 && !a.stopping

/-- MOT_STOP commands whose axes all stand complete (R449). -/
def State.stopsDone (s : State) : State :=
  s.mot.stops.foldl (fun s x =>
    if (List.range 16).all fun n => !bit x.2 n || (s.axis n).stands then
      (s.setMot { s.mot with stops := s.mot.stops.erase x }).finish x.1 s.ok
    else s) s

/-- Homing fails (R447). -/
def State.homeFailed (s : State) (n step : Nat) : State :=
  (s.record EV_HOME_FAILED 0 n step 0).stopAxis n stHOME_NOT_FOUND

/-! ### Segments (R436, R438) -/

/-- p(k) of R436. -/
def Run.p (r : Run) (k : Nat) : Int :=
  let n : Int := 16 * r.t
  let k : Int := k
  let num := (r.p1 - r.p0) * (3 * k * k * n - 2 * k * k * k) + r.t * r.v0 * (k * k * k - 2 * k * k * n + k * n * n) +
    r.t * r.v1 * (k * k * k - k * k * n)
  let d := n * n * n
  r.p0 + (num + d / 2) / d

/-- The segment at an index as it runs from a state; none when it is not loaded or its end lies more than 2^40 microsteps away
(R438). -/
def Axis.runOf (a : Axis) (i : Nat) (p0 v0 : Int) : Option Run :=
  match tget a.segs i with
  | none => none
  | some g => if 2 ^ 40 * 65536 < absI (g.p1 * 65536 - p0) then none else some ⟨p0, v0, g.p1 * 65536, g.v1, g.t, 0⟩

/-- The segment in force has ended at its end state: the profile goes on, or the command ends. -/
def State.segmentEnd (s : State) (n : Nat) (r : Run) : State :=
  let a := s.axis n
  match a.cmd with
  | some (.profile d i) =>
    match (tget a.segs i).bind (nextSeg i) with
    | none => (s.modAxis n fun a => { a with run := none, v16 := 0 }).endAxis n stOK
    | some j =>
      match a.runOf j r.p1 r.v1 with
      | some r' => s.modAxis n fun a => { a with run := some r', cmd := some (.profile d j), target := micro r'.p1 }
      | none => (s.modAxis n fun a => { a with cmd := some (.profile d j) }).stopAxis n stBAD_PROFILE
  | some (.move _ _ _ _ _ _ done _) => if done && a.plan.isNone then s.endAxis n stOK else s.modAxis n fun a => { a with run := none }
  | _ => s.modAxis n fun a => { a with run := none }

/-- A sub-tick of the segment in force (R436, R437, R446, R448). -/
def State.tickRun (s : State) (n : Nat) (r : Run) : State :=
  let a := s.axis n
  let k := r.k + 1
  let step := r.p k - (if r.k = 0 then r.p0 else r.p r.k)
  if 256 * 65536 < absI step then
    let s := (s.modAxis n fun a => { a with overspeed := true }).record EV_OVERSPEED 0 n a.seg (absI step / 65536)
    (s.loseReference n 3).stopAxis n stBAD_PROFILE
  else if step != 0 && s.blocks n (decide (0 < step)) then s.freezeAxis n
  else if step != 0 && a.latchedToward (decide (0 < step)) then
    match a.cmd with
    | some (.home _ _ _ _ _ _ st _ _) => s.homeFailed n st
    | _ => s.stopAxis n stLIMIT
  else
    let last := k == 16 * r.t
    let s := s.modAxis n fun a =>
      { a with pos := wrapQ (a.pos + step), v16 := if last then 16 * r.v1 else 256 * step, run := some { r with k := k } }
    if last then s.segmentEnd n r else s

/-- A sub-tick of the stop generator (R443). -/
def State.tickStop (s : State) (n : Nat) : State :=
  let a := s.axis n
  let v := a.v16.natAbs - s.stopDec n
  let step := v / 256 + (if v % 256 = 0 then 0 else Config.roundUp v % 2)
  let up := decide (0 < a.v16)
  if step != 0 && s.blocks n up then s.freezeAxis n
  else s.modAxis n fun a =>
    { a with pos := wrapQ (a.pos + (if up then (step : Int) else -step)), v16 := if up then (v : Int) else -v, stopping := v != 0 }

/-- A latch clears when its input is inactive and the axis has moved LIM_CLEAR microsteps away (R446). -/
def State.clearLatches (s : State) (n : Nat) : State :=
  let far : Int := 65536 * (s.get (MOT_LIM_CFG_LIM_CLEAR n) : Int)
  s.modAxis n fun a =>
    { a with
      latchP := a.latchP.filter fun p => a.limp.active || decide (p - a.pos < far)
      latchN := a.latchN.filter fun p => a.limn.active || decide (a.pos - p < far) }

/-- Something drives the axis. -/
def Axis.driven (a : Axis) : Bool := a.cmd.isSome || a.run.isSome || a.plan.isSome || (a.v16 != 0 && !a.stopping)

/-- One axis at a sub-tick. -/
def State.tickAxis (s : State) (n : Nat) : State :=
  if !s.axisEn n then s
  else
    let s := if s.waveStops n && (s.axis n).driven then s.stopAxis n stSTOPPED else s
    let s := if (s.axis n).stopping then s.tickStop n
      else match (s.axis n).run with
        | some r => s.tickRun n r
        | none => s.modAxis n fun a => { a with v16 := 0 }
    let s := s.modAxis n fun a =>
      if a.v16 = 0 then { a with still := a.still + 1 } else { a with still := 0, froze := false }
    s.clearLatches n

/-- SUB_TICK (R436, R443): the step generators of all axes take their next positions, and the bridges their
drive. -/
def execSubTick (s : State) : Host.Outcome State Fault Refusal :=
  .next (if s.motLive then ((List.range 16).foldl State.tickAxis s).driveAxes.stopsDone else s)

/-! ### Moves (R439, R440, R447) -/

/-- Floor of the square root, by bits from 2^b down. -/
def moveSqrtFrom (n : Nat) : Nat → Nat → Nat
  | 0, r => if (r + 1) * (r + 1) ≤ n then r + 1 else r
  | b + 1, r => moveSqrtFrom n b (if (r + 2 ^ (b + 1)) * (r + 2 ^ (b + 1)) ≤ n then r + 2 ^ (b + 1) else r)
def moveSqrt (n : Nat) : Nat := moveSqrtFrom n 63 0

/-- The end state of what is in force: where the next plan starts. -/
def Axis.base (a : Axis) : Int × Int :=
  match a.run with
  | some r => (r.p1, r.v1)
  | none => (a.pos, a.v)

/-- One step of R439 from (position, v ≥ 0): the segment, the ramp, and whether it reaches the target. -/
def moveStep (pos : Int) (v : Nat) (target : Int) (dir : Int) (vmax acc dec : Nat) (ramp : Option Nat) : Run × Option Nat × Bool :=
  let rem := absI (target - pos)
  let dec' := match ramp with | some r => max dec r | none => dec
  let cap := moveSqrt (2 * dec' * rem)
  let v1 := min (min (v + acc) vmax) cap
  let v1 := if v1 + dec' < v then v - dec' else v1
  let ramp := if cap < v + acc && cap < vmax then some (ramp.getD dec') else none
  if rem ≤ v1 then (⟨pos, dir * v, target, 0, 1, 0⟩, ramp, true)
  else (⟨pos, dir * v, pos + dir * v1, dir * v1, 1, 0⟩, ramp, false)

/-- The next segment of a move or of homing. -/
def Axis.planned (a : Axis) : Axis :=
  let (p, v) := a.base
  match a.cmd with
  | some (.move d target vmax acc dec ramp done retune) =>
    if done then a
    else
      let dir : Int := if target < p then -1 else 1
      let (r, ramp, done) := moveStep p v.natAbs target dir vmax acc dec ramp
      { a with plan := some r, cmd := some (.move d target vmax acc dec ramp done retune) }
  | some (.home _ neg search creep acc _ step _ _) =>
    let dir : Int := if neg then -1 else 1
    if step = 4 then { a with plan := some ⟨p, -(dir * creep), p - dir * creep, -(dir * creep), 1, 0⟩ }
    else
      let v1 := min (v.natAbs + acc) search
      { a with plan := some ⟨p, v, p + dir * v1, dir * v1, 1, 0⟩ }
  | _ => a

/-- MOVE_STEP (R439, R435): the axis's job plans the segment of the next stroke, once a stroke. -/
def execMoveStep (n : Nat) (s : State) : Host.Outcome State Fault Refusal :=
  .next (if !s.serving then s else s.runWork 0x13 n fun s =>
    let a := s.axis n
    if s.axisEn n && !a.stopping && a.plan.isNone then s.modAxis n Axis.planned else s)

/-- The overrun of the axis's job stops it (R41, R443). -/
def State.motOverrun (s : State) (n : Nat) : State := s.stopAxis n stOVERRUN

/-- Velocity under loop control for one stroke (R455). -/
def State.loopStep (s : State) (n : Nat) (goal : Int) : State :=
  let a := s.axis n
  let top : Int := s.axisVmax n
  let goal := clampI (-top) top goal
  let goal := if (a.latchedToward (decide (0 < goal)) || s.blocks n (decide (0 < goal))) && goal != 0 then 0 else goal
  let dec : Int := s.stopDec n
  let v1 := clampI (a.v - dec) (a.v + dec) goal
  if a.v = 0 && v1 = 0 then s
  else s.modAxis n fun a => { a with run := some ⟨a.pos, a.v, a.pos + v1, v1, 1, 0⟩ }

/-- The axes at a stroke edge (R435, R440, R446, R455): planned segments come into force, retunes and loop speeds act, chatter
excursions end. -/
def State.motionEdge (s : State) : State :=
  if !s.motLive then s
  else (List.range 16).foldl (fun s n =>
    let quiet : AxisIn → AxisIn := fun x =>
      let c := x.changes.filter fun t => decide (s.sn < t + 4000)
      { x with changes := c, chatter := x.chatter && decide (8 < c.length) }
    let s := s.modAxis n fun a =>
      let a := { a with limp := quiet a.limp, limn := quiet a.limn, home := quiet a.home }
      let a := match a.plan with | some r => { a with run := some r, plan := none } | none => a
      match a.cmd with
      | some (.move d t vmax acc dec ramp done (some (v', a', d'))) =>
        { a with cmd := some (.move d t (if v' = 0 then vmax else v') (if a' = 0 then acc else a') (if d' = 0 then dec else d')
            ramp done none) }
      | _ => a
    let a := s.axis n
    if !s.axisEn n || a.stopping || s.waveStops n || a.cmd.isSome then s
    else match a.speed with
      | some g => s.loopStep n g
      | none => if a.v16 = 0 then s else s.haltAxis n) s

/-- The target velocity an axis takes from its loop at this edge: none when no loop that is not OFF names it (R455). -/
def State.setSpeed (s : State) (n : Nat) (v : Option Int) : State := s.modAxis n fun a => { a with speed := v }

/-- The axis does not follow its loop in a direction: held by its stop generator, a limit or an inhibit (R455). -/
def State.axisHeld (s : State) (n : Nat) (positive : Bool) : Bool :=
  let a := s.axis n
  a.stopping || s.waveStops n || a.latchedToward positive || s.blocks n positive

/-! ### Faults, limits, home, inhibits -/

/-- AXIS_FAULT (R444, R445): FLT_N held low for 2 µs, or a shunt above OC_LIMIT for 1 µs (`over`), with the shunt voltage and the
time it has stood. -/
def execAxisFault (n : Nat) (overload : Bool) (mv heldNs : Nat) (s : State) : Host.Outcome State Fault Refusal :=
  .next (
    let a := s.axis n
    if !s.motLive || decide (16 ≤ n) || !s.flag (MOT_AXIS_CFG_ENABLE n) || a.fault || decide (heldNs < if overload then 1000 else 2000) then s
    else if overload && decide (mv * 255 ≤ s.get (MOT_OC_OC_LIMIT n) * 250) then s
    else
      let s := (s.count MOT_FAULTS 1).record EV_AXIS_FAULT 0 n (b2n overload) mv
      let s := if a.enabled then s.powerDown n else s
      ((s.modAxis n fun a => { a with fault := true }).endAxis n stAXIS_FAULT).stopsDone)

/-- A qualified change of an input at an SN; before the first stroke edge none is counted. -/
def AxisIn.change (x : AxisIn) (active : Bool) (sn : Nat) : AxisIn :=
  if x.active = active then x
  else if sn = 0 then { x with active := active }
  else { x with active := active, changes := (x.changes.filter fun t => decide (sn < t + 4000)) ++ [sn] }

/-- LIMIT_CHATTER (R446): more than 8 qualified changes in 4,000 strokes, once for each excursion. -/
def State.noteChatter (s : State) (n k : Nat) (x : AxisIn) : State × AxisIn :=
  if !x.chatter && decide (8 < x.changes.length) then
    (s.record EV_LIMIT_CHATTER 0 n k x.changes.length, { x with chatter := true })
  else (s, x)

/-- An input has stood at its level for LIM_FILT µs; 0 reads as 1 (R446, R451). -/
def State.qualified (s : State) (n heldUs : Nat) : Bool := decide (max 1 (s.get (MOT_LIM_CFG_LIM_FILT n)) ≤ heldUs)

/-- LIMIT_QUALIFY (R446, R447): the positive (`pos`) or negative limit has stood at a level for `heldUs`; at polarity 0 high is
active. -/
def execLimitQualify (n : Nat) (pos level : Bool) (heldUs : Nat) (s : State) : Host.Outcome State Fault Refusal :=
  .next (
    let a := s.axis n
    let active := level != s.flag (if pos then MOT_AXIS_CFG_LIMP_POL n else MOT_AXIS_CFG_LIMN_POL n)
    if !s.mainLive || decide (16 ≤ n) || !s.qualified n heldUs then s
    else
      let x := (if pos then a.limp else a.limn).change active s.sn
      let (s, x) := s.noteChatter n (if pos then 0 else 1) x
      let s := s.modAxis n fun a => if pos then { a with limp := x } else { a with limn := x }
      let s :=
        if !active || a.latchedToward pos then s
        else
          let s := s.modAxis n fun a => if pos then { a with latchP := some a.pos } else { a with latchN := some a.pos }
          let toward := if pos then decide (0 < a.v16) else decide (a.v16 < 0)
          let s := if toward then s.record EV_LIMIT_HIT 0 n (if pos then 0 else 1) (unsigned 32 (micro a.pos)) else s
          match a.cmd with
          | some (.home d neg search creep acc hp step limits sn0) =>
            if step = 4 then s.homeFailed n 4
            else if !toward then s
            else if limits = 1 then s.homeFailed n 3
            else (s.haltAxis n).modAxis n fun a => { a with cmd := some (.home d (!neg) search creep acc hp 3 1 sn0) }
          | _ => if toward then s.stopAxis n stLIMIT else s
      (s.clearLatches n).stopsDone)

/-- HOME_QUALIFY (R446, R447): the HOME input has stood at a level for `heldUs`; it ends a search, or gives the reference in the
creep. -/
def execHomeQualify (n : Nat) (level : Bool) (heldUs : Nat) (s : State) : Host.Outcome State Fault Refusal :=
  .next (
    let a := s.axis n
    let active := level != s.flag (MOT_AXIS_CFG_HOME_POL n)
    if !s.mainLive || decide (16 ≤ n) || !s.qualified n heldUs then s
    else
      let (s, x) := s.noteChatter n 2 (a.home.change active s.sn)
      let s := s.modAxis n fun a => { a with home := x }
      match a.cmd with
      | some (.home d neg search creep acc hp step limits sn0) =>
        if active && step != 4 then
          (s.haltAxis n).modAxis n fun a => { a with cmd := some (.home d neg search creep acc hp 4 limits sn0) }
        else if !active && a.home.active && step == 4 && a.run.isSome then
          let shift := hp * 65536 - a.pos
          let s := s.modAxis n fun a =>
            { a with pos := hp * 65536, referenced := true, latchP := a.latchP.map (· + shift), latchN := a.latchN.map (· + shift) }
          (s.record EV_HOMED 0 n (unsigned 32 hp) (s.sn - sn0)).stopAxis n stOK
        else s
      | _ => s)

/-- INHIBIT_FREEZE (R448): a WL_GINH line is low and axes that move in a direction it blocks freeze. -/
def execInhibitFreeze (line : Nat) (s : State) : Host.Outcome State Fault Refusal :=
  .next (
    if !s.motLive then s
    else ((List.range 16).foldl (fun s n =>
      let a := s.axis n
      if s.axisEn n && s.get (MOT_AXIS_CFG_GINH_LINE n) == line && a.v16 != 0 && s.blocks n (decide (0 < a.v16)) then s.freezeAxis n
      else s) s).stopsDone)

/-- POSITION_READ_LATCH (R451): a read of MOT_POS_LO_n latches MOT_POS_HI_n. -/
def execPositionReadLatch (n : Nat) (s : State) : Host.Outcome State Fault Refusal :=
  .next (if !s.mainLive then s else
    let p := unsigned 64 (micro (s.axis n).pos)
    let s := s.setNum64 (MOT_POS_LO n) (MOT_POS_HI n) p
    { s with reply := .data (s.rd (MOT_POS_LO n)) })

/-! ### MOTION ring commands (R449) -/

/-- The common rule of the commands that name an axis: a disabled axis answers LOCKED. -/
def State.onAxis (s : State) (d : Desc) (body : Nat → Axis → CmdRes) : CmdRes :=
  let n := d.op 32 1
  if !s.flag (MOT_AXIS_CFG_ENABLE n) || !(s.axis n).enabled then s.fail stLOCKED else body n (s.axis n)

/-- The axis moves or runs a command. -/
def Axis.busy (a : Axis) : Bool := a.v16 != 0 || a.stopping || a.cmd.isSome

/-- Segment bytes (R438). -/
def AxisSeg.ofBytes (b : List Byte) : AxisSeg :=
  ⟨leAt b 0 2, bit (leAt b 2 1) 0, if bit (leAt b 2 1) 1 then some (leAt b 3 1) else none, signed 48 (leAt b 4 6),
   signed 32 (leAt b 12 4)⟩

/-- MOT_SEG_LOAD: CONFLICT when the range holds the running or the next segment. -/
def execMotSegLoad (d : Desc) (s : State) : Host.Outcome State Fault Refusal :=
  .next (s.command d fun s => s.onAxis d fun n a =>
    let first := d.op 33 1
    let count := d.bufLen / 16
    let within : Nat → Bool := fun i => decide (first ≤ i) && decide (i < first + count)
    let clash := match a.cmd with
      | some (.profile _ i) => within i || (match (tget a.segs i).bind (nextSeg i) with | some j => within j | none => false)
      | _ => false
    if clash then s.fail stCONFLICT
    else
      let segs := (List.range count).foldl (fun t i => tput t (first + i) (AxisSeg.ofBytes (slice d.buf (16 * i) 16))) a.segs
      (s.modAxis n fun a => { a with segs := segs }).ok)

/-- MOT_PROFILE: the first segment comes into force at the next edge (R435). -/
def execMotProfile (d : Desc) (s : State) : Host.Outcome State Fault Refusal :=
  .next (s.command d fun s => s.onAxis d fun n a =>
    let i := d.op 33 1
    if a.speed.isSome || a.busy then s.fail stAXIS_BUSY
    else if !a.referenced && !bit (d.op 34 1) 0 then s.fail stNOT_REFERENCED
    else match a.runOf i a.pos 0 with
      | none => s.fail stBAD_PROFILE
      | some r =>
        let up := decide (a.pos < r.p1)
        if r.p1 != a.pos && a.latchedToward up then s.fail stLIMIT
        else if r.p1 != a.pos && s.blocks n up then s.fail stINHIBITED
        else (s.modAxis n fun a => { a with cmd := some (.profile d i), plan := some r, target := micro r.p1 }).later)

/-- MOT_MOVE (R439). -/
def execMotMove (d : Desc) (s : State) : Host.Outcome State Fault Refusal :=
  .next (s.command d fun s => s.onAxis d fun n a =>
    let t := signed 64 (d.op 40 8) * 65536
    let target := wrapQ (if bit (d.op 33 1) 0 then a.pos + t else t)
    let up := decide (a.pos < target)
    if a.speed.isSome || a.busy then s.fail stAXIS_BUSY
    else if target != a.pos && a.latchedToward up then s.fail stLIMIT
    else if target != a.pos && s.blocks n up then s.fail stINHIBITED
    else
      let vmax := if d.op 48 4 = 0 then s.axisVmax n else d.op 48 4
      (s.modAxis n fun a =>
        { a with cmd := some (.move d target vmax (max 1 (d.op 52 4)) (max 1 (d.op 56 4)) none false none), target := micro target }).later)

/-- MOT_RETUNE (R440): from the next stroke. -/
def execMotRetune (d : Desc) (s : State) : Host.Outcome State Fault Refusal :=
  .next (s.command d fun s => s.onAxis d fun n a =>
    match a.cmd with
    | some (.move d' t vmax acc dec ramp done old) =>
      let o := old.getD (0, 0, 0)
      let pick : Nat → Nat → Nat := fun x y => if x = 0 then y else x
      let r := (pick (d.op 48 4) o.1, pick (d.op 52 4) o.2.1, pick (d.op 56 4) o.2.2)
      (s.modAxis n fun a => { a with cmd := some (.move d' t vmax acc dec ramp done (some r)) }).ok
    | _ => s.fail stAXIS_BUSY)

/-- MOT_HOME (R447). -/
def execMotHome (d : Desc) (s : State) : Host.Outcome State Fault Refusal :=
  .next (s.command d fun s => s.onAxis d fun n a =>
    let neg := bit (d.op 33 1) 0
    let up := if a.home.active then neg else !neg
    if a.speed.isSome || a.busy then s.fail stAXIS_BUSY
    else if s.num (MOT_SAFE_V n) < d.op 44 4 then (s.record EV_HOME_FAILED 0 n 1 0).fail stHOME_NOT_FOUND
    else if a.latchedToward up then s.fail stLIMIT
    else if s.blocks n up then s.fail stINHIBITED
    else
      let c := AxisCmd.home d neg (d.op 40 4) (d.op 44 4) (max 1 (d.op 56 4)) (signed 64 (d.op 48 8)) (if a.home.active then 4 else 2) 0 s.sn
      (s.modAxis n fun a => { a with cmd := some c }).later)

/-- MOT_STOP (R443): completes when every named axis stands. -/
def execMotStop (d : Desc) (s : State) : Host.Outcome State Fault Refusal :=
  .next (s.command d fun s =>
    let mask := d.op 32 2
    let named := (List.range 16).filter fun n => bit mask n
    if named.any fun n => !s.flag (MOT_AXIS_CFG_ENABLE n) || !(s.axis n).enabled then s.fail stLOCKED
    else
      let s := named.foldl (fun s n => s.stopAxis n stSTOPPED) s
      if named.all fun n => (s.axis n).stands then s.ok
      else (s.setMot { s.mot with stops := s.mot.stops ++ [(d, mask)] }).later)

/-- MOT_ENABLE (R434, R444, R445): enable clears FAULT; disable takes the power stage's drive. -/
def execMotEnable (d : Desc) (s : State) : Host.Outcome State Fault Refusal :=
  .next (s.command d fun s =>
    let n := d.op 32 1
    if !s.flag (MOT_AXIS_CFG_ENABLE n) then s.fail stLOCKED
    else if d.op 33 1 = 1 then (s.modAxis n fun a => { a with enabled := true, fault := false, overspeed := false }).ok
    else if !(s.axis n).enabled then s.ok
    else ((s.powerDown n).endAxis n stLOCKED).stopsDone.ok)

/-- MOT_SET_POS. -/
def execMotSetPos (d : Desc) (s : State) : Host.Outcome State Fault Refusal :=
  .next (s.command d fun s => s.onAxis d fun n a =>
    if a.busy then s.fail stAXIS_BUSY
    else
      let p := signed 64 (d.op 40 8) * 65536
      let shift := p - a.pos
      (s.modAxis n fun a =>
        { a with pos := p, referenced := true, latchP := a.latchP.map (· + shift), latchN := a.latchN.map (· + shift) }).ok)

/-- MOT_QUERY. -/
def execMotQuery (d : Desc) (s : State) : Host.Outcome State Fault Refusal :=
  .next (s.command d fun s => s.onAxis d fun n a =>
    s.answer d (leBytes 8 (unsigned 64 a.pos) ++ leBytes 4 (unsigned 32 a.v) ++ leBytes 4 (s.axStat n) ++
      leBytes 8 (unsigned 64 a.target) ++ leBytes 8 0))

end Sys2Proof.Machine
end

