-- ==== Sys2Proof/Machine/Loops.lean ====
section
/-! DEFINITION. Process loops (R452–R464): sources and destinations, the loop law, modes and cascades, traces and the LOOPS
ring. -/

namespace Sys2Proof.Machine

open Sys2Proof

abbrev stLOOP_OFF : Nat := 0x10
abbrev stCASCADED : Nat := 0x11
abbrev stBAD_VALUE : Nat := 0x12

/-! ### Views -/

def State.loop (s : State) (n : Nat) : Loop := s.lop.loops.getD n {}
def State.modLoop (s : State) (n : Nat) (f : Loop → Loop) : State := s.setLop { s.lop with loops := lmod s.lop.loops n f }
def State.trace (s : State) (t : Nat) : Trace := s.lop.traces.getD t {}
def State.modTrace (s : State) (t : Nat) (f : Trace → Trace) : State := s.setLop { s.lop with traces := lmod s.lop.traces t f }

/-- Kind and index of a selector (R454). -/
def selKind (w : Nat) : Nat := w / 2 ^ 28
def selIndex (w : Nat) : Nat := w % 2 ^ 28

/-- PERIOD, PHASE and FAIL_PERIODS as they read (R464). -/
def State.loopPeriod (s : State) (n : Nat) : Nat := clampN 1 4000 (s.get (LOP_CFG_PERIOD n))
def State.failPeriods (s : State) (n : Nat) : Nat := max 1 (s.get (LOP_CFG_FAIL_PERIODS n))

/-- A parameter of the loop (R464). -/
def State.loopPar (s : State) (n g : Nat) : Fl := Fl.ofBits (s.num (LOP_PAR n g))

/-- The loop runs in this stroke (R452). -/
def State.loopDue (s : State) (n : Nat) : Bool :=
  s.motLive && s.flag (LOP_CFG_ENABLE n) && s.sn % s.loopPeriod n == s.get (LOP_CFG_PHASE n)

/-- LOP_STAT_n. -/
def Loop.stat (l : Loop) : Nat :=
  l.mode + 4 * b2n l.satHi + 8 * b2n l.satLo + 16 * b2n l.stale + 32 * b2n l.ovr + 64 * b2n l.failsafe + 128 * b2n l.numeric +
  256 * l.held

/-- The loop's registers show it (R464). -/
def State.showLoop (s : State) (n : Nat) : State :=
  let l := s.loop n
  (((s.setNum (LOP_STAT n) l.stat).setNum (LOP_SP n) l.sp).setNum (LOP_PV n) l.pv).setNum (LOP_U n) l.u

/-! ### Sources and destinations (R454–R456) -/

/-- A source as it stands now (R454). -/
def State.loopSrc (s : State) (w : Nat) : LoopSrc :=
  let i := selIndex w
  match selKind w with
  | 1 => ⟨(Fl.ofInt (signed 16 (s.get (LOP_AI_CODE (i % 16))))).toBits, 0, s.flag (LOP_AI_OVERRANGE (i % 16))⟩
  | 2 =>
    let a := s.axis (i % 16)
    ⟨(Fl.fin (decide (a.v < 0)) (a.v.natAbs * 125) (-11)).round.toBits, 0, !a.enabled || a.fault⟩
  | 3 => match s.node? (i / 8 % 2 ^ 18) with
    | none => ⟨0, 0, true⟩
    | some x => ⟨(Fl.ofInt (signed 32 (x.values.getD (i % 8) 0))).toBits, s.sn - x.valuesSn,
                 decide (x.values.length ≤ i % 8) || x.st != 2⟩
  | 4 => match s.wlg.proc.getD (i % 4) none with
    | none => ⟨0, 0, true⟩
    | some p => ⟨p.rate, s.sn - p.sn, p.state == 7 || !s.flag WLG_STATUS_LINK_UP⟩
  | _ => {}

/-- The source is stale for loop `n`. -/
def State.srcStale (s : State) (n : Nat) (x : LoopSrc) : Bool := x.bad || decide (s.num (LOP_AGE n) < x.age)

/-- The outer loops whose destination is the setpoint of loop `j`. -/
def State.outerOf (s : State) (j : Nat) : List Nat :=
  (List.range 32).filter fun k => s.flag (LOP_CFG_ENABLE k) && selKind (s.num (LOP_DST k)) == 4 && selIndex (s.num (LOP_DST k)) % 32 == j

/-- The inner loop of `n`, if its destination is a setpoint. -/
def State.innerOf (s : State) (n : Nat) : Option Nat :=
  if selKind (s.num (LOP_DST n)) = 4 then some (selIndex (s.num (LOP_DST n)) % 32) else none

/-- Target velocity of an axis in q per stroke for u microsteps per second (R455). -/
def axisSpeed (u : Nat) : Int :=
  let d := (Fl.ofBits u).toDy
  -- u / 4,000 × 65,536 = u × 2,048 / 125
  let m := d.m * 2048
  if 0 ≤ d.e then (m * 2 ^ d.e.toNat + (if m * 2 ^ d.e.toNat % 125 = 0 then 0 else 125 * (Config.roundUp u % 2 : Nat))) / 125
  else
    let den : Int := 125 * 2 ^ (-d.e).toNat
    m / den + (if m % den = 0 then 0 else (Config.roundUp u % 2 : Nat))

/-- The value of a mesh actuator: u rounded half to even, saturated (R456). -/
def actuatorValue (u : Nat) : Int := clampI (-2147483648) 2147483647 (Fl.ofBits u).toDy.toInt

/-- A loop with a mesh destination sends its value when it is due (R456). -/
def State.loopSend (s : State) (n : Nat) : State :=
  let w := s.num (LOP_DST n)
  if selKind w != 3 || !s.authority then s
  else
    let l := s.loop n
    let send := match l.sent with
      | none => true
      | some (x, sn) =>
        let diff := match (Fl.ofBits l.u).sub (Fl.ofInt x) with | .fin _ m e => Fl.fin false m e | y => y
        decide (sn + s.get (LOP_MSG_MSG_MIN n) ≤ s.sn) &&
        ((Fl.ofBits (s.num (LOP_DEADBAND n))).le diff || decide (sn + s.get (LOP_MSG_MSG_MAX n) ≤ s.sn))
    if !send then s
    else
      let v := actuatorValue l.u
      let s := s.modLoop n fun l => { l with sent := some (v, s.sn) }
      s.setLop { s.lop with sends := s.lop.sends ++ [(selIndex w / 8 % 2 ^ 18, selIndex w % 8, unsigned 32 v)] }

/-- The values for mesh actuators enter at a stamp point, as inputs of the mesh network (R456). -/
def State.loopInputs (s : State) : State :=
  let xs := s.lop.sends
  xs.foldl (fun s (node, idx, v) =>
    (s.logInput (.value 0x14 (leBytes 4 node ++ leBytes 4 idx ++ leBytes 4 v))).actuate node idx v) (s.setLop { s.lop with sends := [] })

/-! ### Traces (R461) -/

/-- A trace node of the loop; codes above 9 name none. -/
def Loop.node (l : Loop) : Nat → Nat
  | 0 => l.sp | 1 => l.pv | 2 => l.e | 3 => l.p | 4 => l.i | 5 => l.d | 6 => l.ff | 7 => l.v | 8 => l.u | 9 => l.stat
  | k => Config.freeNat k % 2 ^ 32

/-- The registers of a trace buffer. -/
def State.showTrace (s : State) (t : Nat) : State :=
  let x := s.trace t
  s.setNum (LOP_TRACE_STAT t) (x.samples.length + 8192 * b2n x.triggered + 16384 * b2n x.running)

/-- The trigger fires in this run. -/
def Trace.fires (x : Trace) (l : Loop) (modeChanged : Bool) : Bool :=
  let now := Fl.ofBits (l.node x.node)
  let level := Fl.ofBits x.level
  match x.trigger with
  | 0 => true
  | 1 => match x.last with | some p => (Fl.ofBits p).lt level && level.le now | none => false
  | 2 => match x.last with | some p => level.lt (Fl.ofBits p) && now.le level | none => false
  | 3 => modeChanged
  | _ => l.stale || l.ovr || l.numeric || l.failsafe

/-- A run of the loop as one buffer sees it. -/
def State.traceRun (s : State) (n : Nat) (modeChanged : Bool) (t : Nat) : State :=
  let x := s.trace t
  if !x.running || s.get (LOP_TRACE_CFG_LOOP t) != n then s
  else
    let l := s.loop n
    let fired := if x.single && x.fired.isNone && x.fires l modeChanged then some s.sn else x.fired
    let x := { x with fired := fired, last := some (l.node x.node) }
    if x.skip != 0 then s.modTrace t fun _ => { x with skip := x.skip - 1 }
    else
      let nodes := (List.range 4).map fun k => l.node (s.get (LOP_TRACE_CFG_NODES t) / 16 ^ k % 16)
      let keep := if !x.single then 4095 else if fired.isSome then 4095 else x.pre - 1
      let old := if x.single && x.fired.isNone && x.pre = 0 then [] else x.samples.drop (x.samples.length - keep)
      let samples := if x.single && fired.isNone && x.pre = 0 then [] else old ++ [(s.sn, nodes)]
      let after := if x.single && fired.isSome then x.after + 1 else 0
      let full := x.single && fired.isSome && decide (4096 - x.pre ≤ after)
      let x := { x with samples := samples, after := after, skip := max 1 (s.get (LOP_TRACE_CFG_DECIM t)) - 1
                        triggered := x.triggered || fired.isSome, running := !full }
      let s := (s.modTrace t fun _ => x).showTrace t
      if full then s.record EV_TRACE_TRIGGERED 0 t n (fired.getD 0) else s

/-- Every buffer sees the run. -/
def State.traceAll (s : State) (n : Nat) (modeChanged : Bool) : State :=
  (List.range 8).foldl (fun s t => s.traceRun n modeChanged t) s

/-! ### The loop law (R457–R460) -/

/-- The mode in force: OFF and the mode asked for, but TRACK on an outer loop whose inner loop is not in AUTO (R460). -/
def State.loopMode (s : State) (n : Nat) : Nat :=
  let w := (s.loop n).want
  if w = 0 then 0
  else match s.innerOf n with
    | some j => if (s.loop j).mode = 2 then w else 3
    | none => w

/-- The mode in force is taken, and a change recorded. -/
def State.takeMode (s : State) (n : Nat) : State :=
  let m := s.loopMode n
  if (s.loop n).mode = m then s
  else (s.modLoop n fun l => { l with mode := m }).record EV_LOOP_MODE 0 n (s.loop n).mode m

/-- One command takes effect at the run (R459, R462). -/
def State.takeLoopReq (s : State) (n : Nat) : LoopReq → State
  | .mode m v => s.modLoop n fun l => { l with want := m, failsafe := false, manual := match v with | some x => x | none => l.u }
  | .setpoint v => s.modLoop n fun l => { l with sp := v }
  | .tune ps => (List.range 12).foldl (fun s g => s.setNum (LOP_PAR n g) (ps.getD g 0)) s

/-- A held run (R458): cause 1 stale, 2 numeric, 3 overrun. Enough in a row put the loop in MANUAL at FAILSAFE. -/
def State.heldRun (s : State) (n cause : Nat) : State :=
  let s := (s.modLoop n fun l =>
    { l with stale := cause == 1, numeric := cause == 2, ovr := cause == 3, held := min 255 (l.held + 1) }).count (LOP_OVR n) 1
  let l := s.loop n
  if l.failsafe || decide (l.held < s.failPeriods n) then s
  else
    let fs := s.num (LOP_PAR n 11)
    let s := s.modLoop n fun l => { l with want := 1, manual := fs, u := fs, failsafe := true }
    (s.record EV_LOOP_FAILSAFE 0 n cause (s.failPeriods n)).takeMode n

/-- The values one run of the law computes. -/
structure LawOut where
  pv : Fl
  e : Fl
  p : Fl
  x : Fl
  d : Fl
  v : Fl
  u : Fl
  i : Fl

/-- R457, and R459 outside AUTO (`hold` the output held). `heldUp` and `heldDown`: an axis does not follow u (R455). -/
def State.law (s : State) (n : Nat) (pv ff : Fl) (hold : Option Fl) (heldUp heldDown : Bool) : LawOut :=
  let l := s.loop n
  let par := s.loopPar n
  let ts := (Fl.ofInt (s.loopPeriod n)).mul (Fl.ofBits 0x3983126F)
  let sp := Fl.ofBits l.sp
  let e := sp.sub pv
  let p := (par 0).mul (((par 4).mul sp).sub pv)
  let x := ((par 5).mul sp).sub pv
  let den := (par 3).add ts
  let d := (((par 3).div den).mul (Fl.ofBits l.d)).add (((par 2).div den).mul (x.sub (Fl.ofBits l.xPrev)))
  let kff := (par 6).mul ff
  let i := Fl.ofBits l.i
  match hold with
  | some u =>
    let i := u.sub ((p.add d).add kff)
    ⟨pv, e, p, x, d, ((p.add i).add d).add kff, u, i⟩
  | none =>
    let v := ((p.add i).add d).add kff
    let u := (v.max (par 7)).min (par 8)
    let up := ((par 8).le v || heldUp) && Fl.zero.lt e
    let down := (v.le (par 7) || heldDown) && e.lt Fl.zero
    let i := if (par 1).isFinite && !(Fl.zero.lt (par 1)) && !((par 1).lt Fl.zero) then i
      else if up || down then i else i.add (((par 1).mul ts).mul e)
    ⟨pv, e, p, x, d, v, u, i⟩

/-- Node code of the first value that is not finite (R458). -/
def LawOut.badNode (o : LawOut) : Option Nat :=
  if !o.pv.isFinite then some 1 else if !o.e.isFinite then some 2 else if !o.p.isFinite then some 3
  else if !o.x.isFinite || !o.d.isFinite then some 5 else if !o.v.isFinite then some 7 else if !o.u.isFinite then some 8
  else if !o.i.isFinite then some 4 else none

/-- One run with fresh sources. -/
def State.runLaw (s : State) (n : Nat) : State :=
  let l := s.loop n
  let pv := ((Fl.ofBits l.srcPv.x).mul (s.loopPar n 9)).add (s.loopPar n 10)
  let ff := if s.srcStale n l.srcFf then Fl.zero else Fl.ofBits l.srcFf.x
  let track := l.mode != 2 && s.flag (LOP_CFG_SP_TRACK n) && pv.isFinite
  let s' := if track then s.modLoop n fun l => { l with sp := pv.toBits } else s
  let lo := s.loopPar n 7
  let hi := s.loopPar n 8
  let hold : Option Fl := match l.mode with
    | 1 => some (((Fl.ofBits l.manual).max lo).min hi)
    | 3 => some (Fl.ofBits (match s.innerOf n with | some j => (s.loop j).sp | none => l.u))
    | _ => none
  let w := s.num (LOP_DST n)
  let u0 := Fl.ofBits l.u
  let held : Bool → Bool := fun up => selKind w == 2 && s.axisHeld (selIndex w % 16) up
  let o := s'.law n pv ff hold (Fl.zero.lt u0 && held true) (u0.lt Fl.zero && held false)
  match (if ff.isFinite then o.badNode else some 6) with
  | some k => (s.record EV_LOOP_NUMERIC 0 n k 0).heldRun n 2
  | none =>
    let s := s'.modLoop n fun l =>
      { l with
        pv := o.pv.toBits, e := o.e.toBits, p := o.p.toBits, xPrev := o.x.toBits, d := o.d.toBits, ff := ff.toBits
        v := o.v.toBits, u := o.u.toBits, i := o.i.toBits, satHi := hi.le o.v, satLo := o.v.le lo
        stale := false, numeric := false, ovr := false, held := 0, staleNoted := false }
    let s := match s.innerOf n with
      | some j => if l.mode != 3 then (s.modLoop j fun k => { k with sp := o.u.toBits }).showLoop j else s
      | none => s
    s.loopSend n

/-- The commands that took effect in this run complete (R462). -/
def State.endReqs (s : State) (n : Nat) (reqs : List (Desc × LoopReq)) : State :=
  reqs.foldl (fun s x => s.finish x.1 s.ok) (s.modLoop n fun l => { l with reqs := l.reqs.filter fun r => !reqs.contains r })

/-- LOOP_RUN (R452, R457): a due loop runs, after the due loops below it. -/
def execLoopRun (n : Nat) (s : State) : Host.Outcome State Fault Refusal :=
  .next (if !s.serving then s else s.runWork 0x14 n fun s =>
    let waits := (List.range n).any fun m => s.loopDue m && (s.loop m).doneSn != s.sn
    if !s.loopDue n || (s.loop n).doneSn == s.sn || waits || decide (32 ≤ n) then s
    else
      let reqs := (s.loop n).reqs
      let was := (s.loop n).mode
      let s := reqs.foldl (fun s x => s.takeLoopReq n x.2) s
      let s := (s.takeMode n).modLoop n fun l => { l with doneSn := s.sn }
      let s :=
        if (s.loop n).mode = 0 then s
        else
          let s := s.modLoop n fun l => { l with lastSn := s.sn }
          let src := (s.loop n).srcPv
          if s.srcStale n src then
            let s := if (s.loop n).staleNoted then s
              else (s.modLoop n fun l => { l with staleNoted := true }).record EV_LOOP_STALE 0 n (min 0xFFFFFFFF src.age) 0
            s.heldRun n 1
          else s.runLaw n
      let s := s.showLoop n
      let s := if (s.loop n).mode = 0 then s else s.traceAll n ((s.loop n).mode != was)
      s.endReqs n reqs)

/-- The overrun of the loop's job (R41, R458). -/
def State.loopOverrun (s : State) (n : Nat) : State :=
  if !s.loopDue n || (s.loop n).doneSn == s.sn || (s.loop n).mode == 0 then s
  else
    let was := (s.loop n).mode
    let s := (s.modLoop n fun l => { l with doneSn := s.sn, lastSn := s.sn }).heldRun n 3
    (s.showLoop n).traceAll n ((s.loop n).mode != was)

/-- ENABLE loops start in MANUAL at FAILSAFE when the device is engaged (R464). -/
def State.loopsStart (s : State) : State :=
  (List.range 32).foldl (fun s n =>
    if s.flag (LOP_CFG_ENABLE n) then
      let fs := s.num (LOP_PAR n 11)
      (s.modLoop n fun l => { l with want := 1, mode := 1, manual := fs, u := fs }).showLoop n
    else s) s

/-- The analog inputs sampled at an edge (R453). -/
def State.sampleAi (s : State) (codes : List Int) : State :=
  (List.range 16).foldl (fun s i =>
    if !bit (s.num LOP_AI_EN) i then s
    else
      let c := clampI (-32768) 32767 (codes.getD i 0)
      let full := decide (32767 ≤ absI c)
      let s := s.setNum (LOP_AI i) (unsigned 16 c + 65536 * b2n full)
      let last := s.lop.overNoted.getD i none
      let again := match last with | some t => decide (t + 4000 ≤ s.sn) | none => true
      if full && again then
        (s.setLop { s.lop with overNoted := s.lop.overNoted.set i (some s.sn) }).record EV_AI_OVERRANGE 0 i (unsigned 16 c) 0
      else s) s

/-- The duty an output takes, in 1/65,536: clamp(u, 0, 1) with 16-bit resolution, of which the manual leaves the rounding open (R453,
log entry 50). -/
def pwmDuty (u : Nat) : Nat :=
  let d := (((Fl.ofBits u).max Fl.zero).min (Fl.ofBits 0x3F800000)).toDy
  let e := d.e + 16
  if 0 ≤ e then min 65536 (d.m.toNat * 2 ^ e.toNat)
  else
    let den := 2 ^ (-e).toNat
    min 65536 (d.m.toNat / den + (if d.m.toNat % den = 0 then 0 else Config.roundUp u % 2))

/-- The loops at a stroke edge (R30, R452, R453, R455): outputs are applied, then the inputs and sources are taken. -/
def State.loopsEdge (s : State) (codes : List Int) : State :=
  if !s.motLive then s
  else
    let was := s.lop.pwm
    let s := (List.range 32).foldl (fun s n =>
      let w := s.num (LOP_DST n)
      let on := (s.loop n).mode != 0
      let u := (s.loop n).u
      if !s.flag (LOP_CFG_ENABLE n) then s
      else match selKind w with
        | 1 => s.setLop { s.lop with pwm := s.lop.pwm.set (selIndex w % 16) (if on then pwmDuty u else 0) }
        | 2 => s.setSpeed (selIndex w % 16) (if on then some (axisSpeed u) else none)
        | _ => s) s
    let s := (s.drivePwm was).sampleAi codes
    (List.range 32).foldl (fun s n =>
      if s.loopDue n then
        let a := s.loopSrc (s.num (LOP_SRC_PV n))
        let b := s.loopSrc (s.num (LOP_SRC_FF n))
        s.modLoop n fun l => { l with srcPv := a, srcFf := b }
      else s) s

/-! ### LOOPS ring commands (R462) -/

/-- The common rule of the commands that name a loop: LOOP_OFF when its ENABLE is 0. -/
def State.onLoop (s : State) (d : Desc) (body : Nat → Loop → CmdRes) : CmdRes :=
  let n := d.op 32 1
  if !s.flag (LOP_CFG_ENABLE n) then s.fail stLOOP_OFF else body n (s.loop n)

/-- A request waits for the loop's next run. -/
def State.askLoop (s : State) (n : Nat) (d : Desc) (r : LoopReq) : CmdRes :=
  (s.modLoop n fun l => { l with reqs := l.reqs ++ [(d, r)] }).later

/-- LOP_MODE (R459). -/
def execLopMode (d : Desc) (s : State) : Host.Outcome State Fault Refusal :=
  .next (s.command d fun s => s.onLoop d fun n _ =>
    s.askLoop n d (.mode (d.op 33 1) (if bit (d.op 34 1) 0 then some (d.op 40 4) else none)))

/-- LOP_SETPOINT (R460). -/
def execLopSetpoint (d : Desc) (s : State) : Host.Outcome State Fault Refusal :=
  .next (s.command d fun s => s.onLoop d fun n _ =>
    if (s.outerOf n).any fun k => (s.loop k).mode != 0 then s.fail stCASCADED
    else s.askLoop n d (.setpoint (d.op 40 4)))

/-- LOP_TUNE. -/
def execLopTune (d : Desc) (s : State) : Host.Outcome State Fault Refusal :=
  .next (s.command d fun s => s.onLoop d fun n _ =>
    let ps := (List.range 12).map fun g => leAt d.buf (4 * g) 4
    let f : Nat → Fl := fun g => Fl.ofBits (ps.getD g 0)
    if !((List.range 12).all fun g => (f g).isFinite) || !(f 7).lt (f 8) || (f 3).lt Fl.zero then s.fail stBAD_VALUE
    else s.askLoop n d (.tune ps))

/-- LOP_QUERY. -/
def execLopQuery (d : Desc) (s : State) : Host.Outcome State Fault Refusal :=
  .next (s.command d fun s => s.onLoop d fun _ l =>
    s.answer d (leBytes 4 l.stat ++ leBytes 4 l.sp ++ leBytes 4 l.pv ++ leBytes 4 l.u ++ leBytes 4 l.i ++ leBytes 4 l.d ++
      leBytes 8 l.lastSn))

/-- LOP_TRACE_ARM (R461): arming a running buffer discards its samples. -/
def execLopTraceArm (d : Desc) (s : State) : Host.Outcome State Fault Refusal :=
  .next (s.command d fun s =>
    let t := d.op 32 1
    let x : Trace := { running := true, single := d.op 33 1 == 1, trigger := d.op 34 1, node := d.op 35 1, pre := d.op 36 2,
                       level := d.op 40 4, skip := max 1 (s.get (LOP_TRACE_CFG_DECIM t)) - 1 }
    ((s.modTrace t fun _ => x).showTrace t).ok)

/-- Index of the sample taken at or after the trigger, oldest sample 0. -/
def Trace.trigIndex (x : Trace) : Nat := if x.triggered then x.samples.length - x.after else 0xFFFFFFFF

/-- LOP_TRACE_READ. -/
def execLopTraceRead (d : Desc) (s : State) : Host.Outcome State Fault Refusal :=
  .next (s.command d fun s =>
    let x := s.trace (d.op 32 1)
    let count := d.op 44 4
    if d.bufLen < 8 + 24 * count then { st := s, status := some stNO_RESOURCE, len := some (8 + 24 * count) }
    else
      let body := ((x.samples.drop (d.op 40 4)).take count).flatMap fun (sn, ns) => leBytes 8 sn ++ ns.flatMap fun v => leBytes 4 v
      s.answer d (leBytes 4 x.samples.length ++ leBytes 4 x.trigIndex ++ body))

end Sys2Proof.Machine
end

