-- ==== Sys2Proof/Machine/Recorder.lean ====
section
/-! DEFINITION. The event recorder's commands and window (R465–R471, R477). -/

namespace Sys2Proof.Machine

open Sys2Proof

/-- The 32 bytes of an event record (R465). -/
def Rec.bytes (r : Rec) : List Byte :=
  leBytes 2 r.code ++ leBytes 1 r.source ++ leBytes 1 r.flags ++ leBytes 4 r.seq ++ leBytes 8 r.sn ++ leBytes 4 r.ns ++
  leBytes 4 r.p0 ++ leBytes 4 r.p1 ++ leBytes 4 r.p2

/-- A held record as it reads: 32 bytes of 0xFF when damaged (R475). -/
def Recorder.readBytes (l : Recorder) (r : Rec) : List Byte :=
  if l.damaged.contains r.seq then List.replicate 32 0xFF else r.bytes

/-- Number of damaged records among some. -/
def Recorder.damagedIn (l : Recorder) (rs : List Rec) : Nat := (rs.filter fun r => l.damaged.contains r.seq).length

/-- REC_HEAD_SEQ: SEQ of the oldest record held, or REC_NEXT_SEQ (R479). -/
def Recorder.headSeq (l : Recorder) : Nat := match l.store with | r :: _ => r.seq | [] => l.nextSeq

/-- The recorder writes what it owes (R468, R470). -/
def State.flushLog (s : State) : State :=
  { s with log := s.log.flush s.recFlags s.sn (Config.recNs s.free % 250020), free := s.free + 1 }

/-- Records up to a SEQ are freed from the head (R468). -/
def Recorder.release (l : Recorder) (last : Nat) : Recorder :=
  { l with store := l.store.dropWhile fun r => decide (r.seq ≤ last) }

/-- The freeze in force ends; FROZEN_END is owed (R470). -/
def Recorder.thaw (l : Recorder) (sn : Nat) : Recorder :=
  { l with frozen := false, owedEnd := some (l.frozenCount, l.frozenFirst, sn - l.freezeSn),
           frozenCount := 0, frozenFirst := none }

/-- REC_READ (R477): up to `count` held records from the first SEQ on. -/
def execRecRead (d : Desc) (s : State) : Host.Outcome State Fault Refusal :=
  .next (s.command d fun s =>
    let first := d.op 32 4
    let count := d.op 36 4
    if first < s.log.headSeq then s.fail stSTALE
    else if d.bufLen < 32 * count then { st := s, status := some stNO_RESOURCE, len := some (32 * count) }
    else
      let rs := (s.log.store.filter fun r => decide (first ≤ r.seq)).take count
      let s' := s.count REC_DAMAGED (s.log.damagedIn rs)
      { st := s', result := rs.length, bytes := rs.flatMap s.log.readBytes })

/-- REC_RELEASE (R477): frees records up to a SEQ; RESULT counts them. -/
def execRecRelease (d : Desc) (s : State) : Host.Outcome State Fault Refusal :=
  .next (s.command d fun s =>
    let l := s.log.release (d.op 32 4)
    let n := s.log.store.length - l.store.length
    ({ s with log := l }).flushLog.ok n)

/-- REC_FREEZE (R470): FROZEN when already frozen. -/
def execRecFreeze (d : Desc) (s : State) : Host.Outcome State Fault Refusal :=
  .next (s.command d fun s =>
    if s.log.frozen then s.fail stFROZEN
    else ({ s with log := { s.log with frozen := true, freezeSn := s.sn, frozenCount := 0, frozenFirst := none } }).ok)

/-- REC_THAW (R470): ends a freeze; FROZEN_END is the first record written after it. -/
def execRecThaw (d : Desc) (s : State) : Host.Outcome State Fault Refusal :=
  .next (s.command d fun s =>
    if s.log.frozen then ({ s with log := s.log.thaw s.sn }).flushLog.ok s.log.frozenCount else s.ok 0)

/-- FREEZE_EXPIRY (R470): after FREEZE_MAX strokes the freeze ends. -/
def execFreezeExpiry (s : State) : Host.Outcome State Fault Refusal :=
  .next (if !s.mainLive then s else if s.log.frozen && decide (s.log.freezeSn + s.get REC_CFG_FREEZE_MAX ≤ s.sn) then
      ({ s with log := s.log.thaw s.sn }).flushLog
    else s)

/-- The window registers loaded with 32 bytes (R471). -/
def State.loadWindow (s : State) (bytes : List Byte) : State :=
  (List.range 8).foldl (fun s k => s.setNum (REC_WIN_DATA k) (leAt bytes (4 * k) 4)) s

/-- WINDOW_LOAD (R471): writing REC_WIN_IDX loads the record at that position from the head; all zero past the held count. -/
def execWindowLoad (value : Word) (s : State) : Host.Outcome State Fault Refusal :=
  .next (if !s.mainLive then s else
    let s := s.put REC_WIN_IDX_POS value.toNat
    match s.log.store[s.get REC_WIN_IDX_POS]? with
    | some r => (s.loadWindow (s.log.readBytes r)).count REC_DAMAGED (s.log.damagedIn [r])
    | none => s.loadWindow [])

/-- STREAM (R477): at a status point the new records fill the oldest buffer posted on S55, as many whole records as it
holds; with STREAM_RELEASE they are released. -/
def State.streamRecords (s : State) : State :=
  if s.get REC_CFG_STREAM = 1 then
    match s.rings.posted.find? fun p => p.ring == 55 with
    | none => s
    | some p =>
      let new := s.log.store.filter fun r => decide (s.log.streamed ≤ r.seq)
      let rs := new.take (p.len / 32)
      match rs.getLast? with
      | none => s
      | some l =>
        let s := s.count REC_DAMAGED (s.log.damagedIn rs)
        let (s, _) := s.deliver 55 0xD010 (lo32 (match rs with | r :: _ => r.seq | [] => 0) + 2 ^ 32 * (rs.length % 2 ^ 16))
          (rs.flatMap s.log.readBytes) .status
        let s := { s with log := { s.log with streamed := l.seq + 1 } }
        if s.get REC_CFG_STREAM_RELEASE = 1 then ({ s with log := s.log.release l.seq }).flushLog else s
  else s

end Sys2Proof.Machine
end

