-- ==== Sys2Proof/Machine/StopClear.lean ====
section
/-! DEFINITION. Clearing a stop (R251, R255): STP_CLEAR is checked when fetched and takes effect at the next stroke edge. -/

namespace Sys2Proof.Machine

open Sys2Proof

/-- An input has been qualified at run level for at least STP_RUN_QUAL strokes. -/
def State.runQualified (s : State) (since : Option Nat) : Bool :=
  match since with
  | some n => decide (s.num STP_RUN_QUAL ≤ s.now - n)
  | none => false

/-- An enabled pair-fault condition still holds (R251, R372). -/
def State.pairFaultHolds (s : State) : Bool := s.stp.pairKinds.any fun k => bit (s.get STP_CFG_PAIR_STOP_EN) (k - 1)

/-- Status with which a clear is refused, if it is (R251, R255). -/
def State.clearRefused (s : State) (robot : Option Nat) : Option Nat :=
  if robot.isNone && !(s.runQualified s.stp.runA && s.runQualified s.stp.runB) then some 0x10
  else if robot.isNone && s.flag STP_STATUS_DISCREP then some 0x11
  else if s.flag STP_STATUS_OUT_FAULT then some 0x12
  else if robot.isNone && s.pairFaultHolds then some 0x13
  else none

/-- A clear takes effect with CLEAR_SN `sn` (R251). -/
def State.clearStop (s : State) (robot : Option Nat) (sn : Nat) : State :=
  let s := match robot with
    | none =>
      let s := ((s.put STP_STATUS_WAVE 0).put STP_STATUS_CAUSES 0).put STP_STATUS_FRAME_PHASE 0
      s.setStp { s.stp with phaseSn := none, firstSent := [] }
    | some r => ((s.setStp { s.stp with robots := s.stp.robots.filter fun x => x.robot != r }).showRobotStops).altStopCleared r
  let s := s.setStp { s.stp with clears := s.stp.clears ++ [⟨robot, sn, sn / 40 + 1⟩] }
  (s.logInput (.clear robot)).applyOut.record EV_STOP_CLEARED 0 (b2n robot.isSome) (robot.getD 0xFF) sn

/-- STP_CLEAR (R251): refused, or waits for the edge of the next stroke; before the first stroke edge it acts at once with
CLEAR_SN 0. -/
def execStpClear (d : Desc) (s : State) : Host.Outcome State Fault Refusal :=
  .next (s.command d fun s =>
    let robot := if d.op 32 1 = 0 then none else some (d.op 33 1)
    match s.clearRefused robot with
    | some st => s.fail st
    | none =>
      if s.stroked then (s.setStp { s.stp with clearing := s.stp.clearing ++ [(d, robot, s.sn)] }).later
      else (s.clearStop robot 0).ok 0)

/-- STOP_CLEARED (R251): a clear fetched in an earlier stroke takes effect, unless a condition of R251 has failed since. -/
def execStopCleared (s : State) : Host.Outcome State Fault Refusal :=
  .next (if !s.serving then s else match s.stp.clearing.find? fun c => decide (c.2.2 < s.sn) with
    | none => s
    | some (d, robot, f) =>
      let s := s.setStp { s.stp with clearing := s.stp.clearing.erase (d, robot, f) }
      match s.clearRefused robot with
      | some st => s.finish d (s.fail st)
      | none => let s := s.clearStop robot s.sn; s.finish d (s.ok s.sn))

/-- At a stroke edge the CLEAR elements past their 8 superframes leave (R251). -/
def State.stopEdge (s : State) : State :=
  s.setStp { s.stp with clears := s.stp.clears.filter fun c => decide (s.sn / 40 < c.firstSf + 8) }

end Sys2Proof.Machine
end

