-- ==== Sys2Proof/Machine/PairBase.lean ====
section
/-! DEFINITION. What both units of a pair keep (R356–R378): roles, mate state, faults of the pair, authority taken and yielded,
SOLO, the descriptors and inputs a unit shadows. -/

namespace Sys2Proof.Machine

open Sys2Proof

/-- The unit is paired (R356). -/
def State.paired (s : State) : Bool := s.flag PAI_CFG_ENABLE

/-- PAI_STATUS and SYS_STATUS show the role. -/
def State.setRole (s : State) (r : Role) : State :=
  (({ s with role := r } : State).put PAI_STATUS_ROLE r.code).put SYS_STATUS_ROLE r.code

/-- Some valid token or mate-link frame arrived in the last 4 strokes (R368). -/
def State.tokenRecent (s : State) : Bool := s.pai.token.isSome && decide (s.now ≤ s.pai.tokSn + 4)
def State.frameRecent (s : State) : Bool := match s.pai.frameSn with | some f => decide (s.now ≤ f + 4) | none => false

/-- The mate is heard (R368). Before the first stroke edge only tokens of the last 4 periods count (R366). -/
def State.mateHeard (s : State) : Bool :=
  s.tokenRecent || (s.stroked && s.frameRecent)

/-- The mate's last valid token, while heard, shows AUTH. -/
def State.mateAuth (s : State) : Bool := s.tokenRecent && match s.pai.token with | some t => t.auth | none => false

/-! ### Configuration faults (R357) -/

/-- A cause of R357 other than 4 holds: no unit leaves PRIMING. -/
def State.mismBlock (s : State) : Bool := s.pai.mism.any fun c => c != 4

/-- A cause of R357 begins to hold; cause 4 is recorded once. -/
def State.addMism (s : State) (c : Nat) : State :=
  if s.pai.mism.contains c then s
  else
    let said := c == 4 && s.pai.prefSaid
    let s := s.setPai { s.pai with mism := s.pai.mism ++ [c], prefSaid := s.pai.prefSaid || c == 4 }
    let s := s.put PAI_STATUS_CFG_MISMATCH 1
    if said then s else s.record EV_CFG_MISMATCH 0 c 0 0

/-- A cause of R357 no longer holds. -/
def State.dropMism (s : State) (c : Nat) : State :=
  let s := s.setPai { s.pai with mism := s.pai.mism.filter fun x => x != c }
  s.put PAI_STATUS_CFG_MISMATCH (b2n (!s.pai.mism.isEmpty))

/-- Frames and tokens under a generation of LOG are accepted (R393, R394): the one in force, or the previous one for 4 strokes after the
switch; never a dead one. -/
def State.logGenOk (s : State) (g : Nat) : Bool :=
  let b := s.key.log
  (g == b.gen && s.keyLive 10 0 g b.slot) ||
  (match b.prev with
   | some (p, slot, sw) => p == g && decide (s.sn < sw + 4) && s.keyLive 10 0 g slot
   | none => false)

/-- A MIC of the mate is good: it verifies, under a generation of LOG that is accepted. -/
def State.micGood (s : State) (mic : Option Nat) : Bool := match mic with | some g => s.logGenOk g | none => false

/-- A MIC of the mate verifies or fails (R357 cause 3): 40 consecutive strokes of failures. -/
def State.noteMic (s : State) (good : Bool) : State :=
  if good then (s.setPai { s.pai with micRun := 0 }).dropMism 3
  else if s.pai.micRun != 0 && s.pai.micSn == s.now then s
  else
    let n := if s.pai.micRun != 0 && s.pai.micSn + 1 == s.now then s.pai.micRun + 1 else 1
    let s := s.setPai { s.pai with micRun := n, micSn := s.now }
    if 40 ≤ n then s.addMism 3 else s

/-! ### Pair faults (R237, R372) -/

/-- A pair fault of a kind is detected: recorded, and a wave where enabled (R372, R256). -/
def State.pairFault (s : State) (kind mateEpoch ns : Nat) : State :=
  if s.stp.pairKinds.contains kind then s
  else
    let own := s.num PAI_EPOCH
    let s := s.setStp { s.stp with pairKinds := s.stp.pairKinds ++ [kind] }
    let s := s.record EV_PAIR_FAULT 0 kind own mateEpoch
    if bit (s.get STP_CFG_PAIR_STOP_EN) (kind - 1) then (s.record EV_PAIR_STOP 0 kind own mateEpoch).raiseAll 4 ns else s

/-- The condition of a kind no longer holds. -/
def State.endPairFault (s : State) (kind : Nat) : State :=
  s.setStp { s.stp with pairKinds := s.stp.pairKinds.filter fun k => k != kind }

/-- An epoch is seen in a token or mate frame, with AUTH or without (R367, R368). A unit without authority takes the highest
as the epoch it knows. -/
def State.seeEpoch (s : State) (e : Nat) (auth : Bool) (ns : Nat) : State :=
  let p := s.pai
  let s := s.setPai { p with
    known := max p.known e
    authHeard := if auth then p.authHeard ++ [e] else p.authHeard
    seenAuth := p.seenAuth || auth }
  if s.authority then (if auth && e == s.num PAI_EPOCH then s.pairFault 1 e ns else s) else s.peak PAI_EPOCH e

/-- Highest epoch the unit has seen (R367, R170). -/
def State.epochKnown (s : State) : Nat := max (max (s.num PAI_EPOCH) s.pai.known) s.flt.epochSeen

/-- The mate's epoch as last seen. -/
def State.mateEpoch (s : State) : Nat := match s.pai.token with | some t => max t.epoch s.pai.known | none => s.pai.known

/-- A mate-link frame takes its cells at fabric port 43 (R21, R313) and, read by the pair controller, frees them; one that is refused is
dropped and counted (R315). Its length, which the encoding of the firmware image settles (R360), is a free value from 60 to 9,212. -/
def State.admitMate (s : State) : State × Bool :=
  if !s.paired || !s.serving then (s, false)
  else
    let n := 60 + Config.freeNat s.free % 9153
    match s.drawn.storeFrame 43 0 (List.replicate n 0) true none with
    | none => ((s.drawn.admitDrop 43).weighPause 43, false)
    | some (s, id) => (((s.weighPause 43).freeFrame id).weighPause 43, true)

/-- TB0 at the mate port in ns, at `ns` of the current stroke: a timestamp of R93 (R89). -/
def State.mateStamp (s : State) (egress : Bool) (ns : Nat) : Int := s.stampAt 43 egress (s.clockNs ns)

/-- A mate-link frame arrives; `auth`: its TYPE is one the primary sends. Answers whether it is taken. -/
def State.takeFrame (s : State) (h : MateHdr) (auth : Bool) (ns : Nat) : State × Bool :=
  let good := s.micGood h.mic
  let (s, fits) := s.admitMate
  if !fits then (s, false)
  else
    let s := s.noteMic good
    if !good then (s, false)
    else
      let s := s.setPai { s.pai with frameSn := some s.now }
      let s := if h.unit = b2n s.straps.pairId then s.addMism 1 else s.dropMism 1
      (s.seeEpoch h.epoch auth ns, true)

/-! ### SOLO (R368) -/

/-- SOLO mode: 0 none, 1 LEASE, 2 GONE; entry and exit are recorded. -/
def State.setSolo (s : State) (m : Nat) : State :=
  let was := s.get PAI_STATUS_SOLO
  let s := s.put PAI_STATUS_SOLO m
  if was = 0 && m != 0 then
    let n := s.pai.ackMiss
    (s.setPai { s.pai with soloSn := s.sn, mateStandby := none, ackMiss := 0 }).record EV_SOLO_START 0 m n 0
  else if was != 0 && m = 0 then s.record EV_SOLO_END 0 (s.sn - s.pai.soloSn) 0 0
  else s

/-! ### Jobs of ring descriptors -/

/-- The job of a descriptor (R33, R36, R37). -/
def State.ringJob (s : State) (d : Desc) : Job :=
  let c := (cmdSpec d.opcode).getD { cls := 7, repl := false, chg := false, pre := false }
  { id := 0, src := .ring d.ring d.index, desc := some d, cls := c.cls, prio := s.get (RNG_SQ_CFG_PRIO (d.ring % 64)),
    domain := d.od % 0x1000, repl := c.repl, lead := c.lead, phase := .presented }

/-! ### Block-periodic work of replicated blocks -/

/-- Replicated block-periodic work of a stroke, in ascending capability (R37): the frames of the next stroke, the allotment engine's
edge job, a timeslot that starts. -/
def State.replWork (s : State) (sn : Nat) : List (Nat × Nat) :=
  let k := (sn + 1) % 40
  (if s.flag FLT_CFG_ENABLE && (decide (k < 4) || decide (36 ≤ k)) then [(0x0B, 0)] else []) ++
  (if s.flag ALT_CFG_ENABLE then [(0x0D, 0)] else []) ++
  (if s.meshRuns && decide (s.asnBase ≤ sn) && (sn - s.asnBase) % 40 == 0 then [(0x0F, 0)] else [])

/-- The seq after the timer releases of a stroke of the mate's (R37). -/
def State.lateSeq (s : State) (sn : Nat) : Nat :=
  (s.disp.jobs.filter fun j => j.late && j.sn == sn).foldl (fun q j => max q (j.seq + 1)) 0

/-- The replicated block-periodic jobs of a stroke of the mate's, or of a synthesized one, become ready (R364, R369). -/
def State.presentLate (s : State) (sn : Nat) : State := s.presentWork sn true true (s.lateSeq sn) (s.replWork sn)

/-! ### Authority -/

/-- R367: the epoch a unit takes with authority at stroke `sn`. -/
def State.newEpoch (s : State) : Nat := max (max (s.epochKnown + 1) (s.num PAI_EPOCH_FLOOR + 1)) (s.sn / 4000)

/-- Stops a unit held pending act at once (R252 rule 6). -/
def State.pendingStops (s : State) : State :=
  let hold := s.stp.hostPending
  let s := s.setStp { s.stp with hostPending := [] }
  hold.foldl (fun s r => match r with
    | none => s
    | some r => s.raiseRobot 9 r 0) s

/-- A handover comes to nothing: its commands end MATE_NOT_READY. -/
def State.endHandover (s : State) : State :=
  let ds := s.pai.handDescs
  let s := s.setPai { s.pai with hand := none, handReq := false, handFinal := false, handDescs := [] }
  ds.foldl (fun s d => s.finish d (s.fail 0x11)) (s.put PAI_STATUS_HANDOVER 0)

/-- A unit assumes authority (R367, R369, R375): the epoch, the mesh counters (R272), pending stops (R252), forwarded
descriptors as its own (R378); the strokes whose log it has not are synthesized, of block-periodic jobs and timer releases (R369); posted buffers of the mate's rings fall away (R369). A QUIET request standing puts it in QUIET
(R493). A unit that followed its mate's TB0 runs in holdover until another source is accepted (R89). -/
def State.assume (s : State) (cause : Nat) : State :=
  let s := if s.get TIM_STATUS_TB0_SRC = 3 ∧ !s.flag TIM_STATUS_HOLDOVER then s.enterHoldover else s
  let e := s.newEpoch
  let last := s.pai.done
  let missed := if s.role = Role.standby then (List.range (s.sn - 1 - last)).map (· + last + 1) else []
  let s := (s.setNum PAI_EPOCH e).setRole (if s.paired then .primary else .unpaired)
  let p := s.pai
  let s := s.setPai { p with seenAuth := true, noAuth := 0, idleHeard := 0, mateStandby := none, ackMiss := 0, logMiss := 0,
                             leaveNext := false, primeSn := none, loaded := false, logs := [], held := [], acked := [], authSn := s.sn }
  let s := (s.put PAI_STATUS_PRIMING 0).endPairFault 3
  let s := if s.dev = DevState.priming then s.setDev (if s.flag SYS_CTRL_QUIET then .quiet else .operate) else s
  let s := (s.meshSkip.record EV_TAKEOVER 0 e cause last).count PAI_TAKEOVERS 1
  let fw := s.rings.forwarded
  let s := s.setRings { s.rings with forwarded := [], posted := s.rings.posted.filter fun x => decide (x.ring < 64) }
  let s := s.put PAI_FWD_PENDING_N 0
  let s := missed.foldl State.presentLate s
  (fw.foldl (fun s f => (s.dropDesc f.desc).addJob (s.ringJob f.desc)) s).pendingStops

/-- Descriptors of replicated jobs in the dispatcher that pass a test end NOT_AUTHORITY, without effect (R370, R373). -/
def State.voidJobs (s : State) (p : Job → Bool) : State :=
  (s.disp.jobs.filter fun j => j.repl && p j).foldl (fun s j =>
    let s := (s.dropIntake j).dropJob j.id
    match j.desc with
    | some d => s.complete d stNOT_AUTHORITY 0 [] 0 .status
    | none => s) s

/-- Replicated outputs not yet released are discarded: completions end NOT_AUTHORITY, frames built and scheduled are dropped
(R370). -/
def State.discardHeld (s : State) : State :=
  let due := s.rings.due.map fun c => match c.due with
    | .release _ => { c with status := stNOT_AUTHORITY, result := 0, resultLen := 0, bytes := [], due := .status }
    | .status => c
  let s := s.setRings { s.rings with due := due }
  let s := s.setFlt { s.flt with built := [] }
  let s := s.setMsh { s.msh with acks := [] }
  let s := s.setRad { s.rad with tx := s.rad.tx.filter fun t => t.onAir || t.isStop }
  s.setPai { s.pai with held := [], acked := [], mateStandby := none }

/-- The unit has no authority and does not stand by: PRIMING, ROLE 3 (R357). -/
def State.toPriming (s : State) : State :=
  let s := (s.setRole .notStanding).setNum PAI_CLEAN_RUN 0
  let s := s.setPai { s.pai with leaveNext := false, logMiss := 0, incRun := 0, primeSn := none, loaded := false, logs := [],
                                 primeFail := none }
  let s := s.put PAI_STATUS_PRIMING 0
  if s.dev = DevState.operate ∨ s.dev = DevState.quiet then s.setDev .priming else s

/-- YIELD (R370) with its cause (R380). The stop chain runs on (R252). -/
def State.yieldAuth (s : State) (cause : Nat) : State :=
  let ep := s.mateEpoch
  let s := ((s.setSolo 0).discardHeld.voidJobs fun _ => true).endHandover
  (s.setNum PAI_EPOCH s.epochKnown).toPriming.record EV_YIELD 0 cause ep 0

/-- The unit leaves STANDBY (R361, R365, R368). -/
def State.leaveStandby (s : State) : State := s.endHandover.toPriming

/-- A standby takes over (R368, R369): cause 1 silent mate, 2 released by token. It is SOLO, GONE, until it hears its mate. -/
def State.takeOver (s : State) (cause : Nat) : State := (s.endHandover.assume cause).setSolo 2

/-! ### The input log at the unit that shadows it (R358–R364) -/

/-- This unit stores the log: it stands by, or its snapshot has been asked for (R377). -/
def State.storesLog (s : State) : Bool := s.role == .standby || (s.role == .notStanding && s.pai.primeSn.isSome)

/-- The stored log of a stroke. -/
def State.log? (s : State) (sn : Nat) : Option StrokeLog := s.pai.logs.find? fun l => l.sn == sn

/-- The stored log of a stroke changed, begun when there is none. -/
def State.modLog (s : State) (sn : Nat) (f : StrokeLog → StrokeLog) : State :=
  s.setPai { s.pai with logs :=
    if (s.log? sn).isSome then s.pai.logs.map fun l => if l.sn = sn then f l else l else s.pai.logs ++ [f { sn := sn }] }

/-- LOG frames of the stroke that are missing; none while its LOG_END is not in. -/
def StrokeLog.missing (l : StrokeLog) : List Nat := (List.range l.frames).filter fun i => !(l.frags.any fun f => f.1 == i)

/-- The log of the stroke is complete (R361). -/
def StrokeLog.complete (l : StrokeLog) : Bool := l.fin.isSome && l.missing.isEmpty

/-- Entries in the order of their frames. -/
def StrokeLog.entries (l : StrokeLog) : List LogEntry :=
  (List.range l.frames).flatMap fun i => match l.frags.find? fun f => f.1 == i with | some f => f.2 | none => []

/-- The Cistern name of a frame that came by the log: it holds no cells here. -/
def loggedCell : Nat := 2 ^ 32

/-- A descriptor of the mate's log stands in the dispatcher with the stamp it had (R364), behind the member before it in its chain (R67)
and in its ordering domain (R38). -/
def State.shadowDesc (s : State) (sn : Nat) (d : Desc) (c p b q : Nat) : State :=
  let j := s.ringJob d
  let last := s.disp.jobs.find? fun k => k.isRing d.ring ((d.index + 2 ^ 32 - 1) % 2 ^ 32) && match k.desc with | some x => x.chain | none => false
  let j := { j with id := s.disp.nextId, cls := c, prio := p, sn := sn, batch := b, seq := q, born := (sn, b, q), late := true,
                    prev := last.map Job.id, deadline := max sn d.notBefore + j.lead.getD 0 }
  let ph : JobPhase := if s.chainBusy j then .chained else if sn < d.notBefore then .delayed else s.readyPhase j
  s.addJob { j with phase := ph }

/-- One logged input takes effect (R364, R252). -/
def State.applyEntry (s : State) (sn : Nat) (x : LogEntry) : State :=
  match x with
  | .desc d c p b q =>
    let d : Desc := { d with ring := d.ring % 64 + 64 }
    if d.opcode % 0x1000 = 0xFFF then s.postBuffer d else s.shadowDesc sn d c p b q
  | .frame f c b q =>
    let p := if c = 4 then 24 + f.port else 32 + f.port
    let s := s.setRad { s.rad with rx := s.rad.rx ++ [{ f with cell := f.cell.map fun _ => loggedCell }] }
    s.addJob { id := 0, src := .intake p s.disp.nextId, cls := c, prio := 0, sn := sn, batch := b, seq := q, born := (sn, b, q),
               late := true, phase := .ready }
  | .set x => (s.takeSet x).presentEncode x.epochSn (some sn)
  | .eph x _ => s.setBsl { s.bsl with eph := putEph s.bsl.eph x }
  | .tx (.mesh _ id) r => s.setMsh { s.msh with results := s.msh.results ++ [(id, r, sn)] }
  | .tx o r => s.setRad { s.rad with reports := s.rad.reports ++ [(o, r)] }
  | .stop none c =>
    let s := s.setStp { s.stp with hostPending := s.stp.hostPending.filter fun r => r.isSome }
    if bit (s.get STP_STATUS_CAUSES) (causeBit c) then s else s.raiseAll c 0
  | .stop (some r) c =>
    let s := s.setStp { s.stp with hostPending := s.stp.hostPending.filter fun x => x != some r }
    if s.stp.robots.any fun x => x.robot == r then s else s.raiseRobot c r 0
  | .clear r => if (s.clearRefused r).isSome then s else s.clearStop r s.sn
  | .value 0x14 b => s.actuate (leAt b 0 4) (leAt b 4 1) (leAt b 8 4)
  | .value 0x07 b =>
    if leAt b 0 1 = 0 then s.setMsh { s.msh with toMesh := s.msh.toMesh ++ [(leAt b 1 2, b.drop 3)] }
    else s.fleetQueueData (leAt b 1 2) (b.drop 3)
  | .value 0x0C b => s.withhold 3 (leAt b 0 8)
  | .value 0x0A b => s.setMsh { s.msh with busy := b.map BitVec.toNat }
  | .value _ _ => s

/-- What the primary abandoned takes the overrun outcome here: a job of its log, or a solution, logged above the ring numbers (R42). -/
def State.abandonLogged (s : State) (x : Nat × Nat) : State :=
  if x.1 < 64 then
    s.setJobs (s.disp.jobs.map fun j => if j.late && j.isRing (x.1 + 64) x.2 then { j with void := true } else j)
  else match tget s.bsl.rovers (x.1 - 256) with
    | some r => match [r.running, r.waiting].findSome? fun o => o.filter fun w => w.epochSn == x.2 with
      | some w => s.abandonSolve (x.1 - 256) r w
      | none => s
    | none => s

/-- A complete log is executed: block-periodic jobs and inputs take effect, its digest and prefix lengths are kept for the comparison
and for the jobs that may commit (R40, R364). -/
def State.applyLog (s : State) (l : StrokeLog) : State :=
  match l.fin with
  | none => s
  | some e =>
    let s := l.entries.foldl (fun s x => s.applyEntry l.sn x) (s.presentLate l.sn)
    let s := e.abandoned.foldl State.abandonLogged s
    let p := s.pai
    (s.setPai { p with done := l.sn, logs := p.logs.filter fun x => decide (l.sn < x.sn)
                       mateDigests := (p.mateDigests.filter fun x => decide (l.sn < x.1 + 8)) ++ [(l.sn - 1, e.digest)]
                       prefixes := (p.prefixes.filter fun x => decide (l.sn < x.1 + 8)) ++ [(l.sn, e.prefixLen)] }).dispatchAll

/-- Execute logged strokes in order, up to `n` of them, none later than the stroke before this one (R364, R377). -/
def State.runLogs (s : State) : Nat → State
  | 0 => s
  | n + 1 =>
    match s.log? (s.pai.done + 1) with
    | some l => if l.complete && decide (l.sn < s.sn) then (s.applyLog l).runLogs n else s
    | none => s

/-- ACK of a stroke whose log is stored whole, in its time (R361): with the result of the last comparison, CLEAN, any handover
request (R360). -/
def State.tryAck (s : State) (sn ns : Nat) : State :=
  match s.log? sn with
  | none => s
  | some l =>
    if !l.complete || l.acked then s
    else
      let s :=
        if s.sn = sn + 1 && decide (ns ≤ 40000) then
          let s := s.modLog sn fun l => { l with acked := true }
          let sent := s.mateStamp true ns
          let s := s.setPai { s.pai with logMiss := 0, ackSent := some sent }
          let got := match s.pai.lastEnd with | some (_, g) => g | none => 0
          s.sendMate 0 sn (.ack ⟨s.pai.lastResult, s.role == .standby, s.pai.handReq, sent, got⟩)
        else s
      if s.role = Role.standby ∨ s.pai.loaded then s.runLogs 1 else s

/-! ### Digests (R365, R376) -/

/-- The output digest of a stroke from what its committed replicated jobs gave out. -/
def State.outDigest (s : State) (sn : Nat) (prefixes : List Nat) : List Byte :=
  let outs := s.disp.outs.filter fun o => o.sn == sn
  (Config.sha256 (Config.digestBytes (outs.map fun o => (o.cls, o.batch, o.prio, o.seq, o.bytes)) prefixes)).take 16

/-- RWL registers of a capability, in ascending offset. -/
def rwlOf (cap : Nat) : List Nat :=
  (regRows cap).flatMap fun r =>
    if r.acc = Access.rwl then (List.range r.n1).flatMap fun i => (List.range r.n2).map fun j => r.base + i * r.s1 + j * r.s2 else []

/-- Registers under the configuration digest (R376), in capability order. -/
def digestRegs : List Nat :=
  [STK_SITE_EPOCH_LO, STK_SITE_EPOCH_HI, STK_PHASE_CFG, FWD_ENT_PREFIX_LO, FWD_ENT_PREFIX_HI, FWD_SITE, TIM_ASN_BASE_LO,
   TIM_ASN_BASE_HI, GNS_CFG, GNS_CHECK_CFG] ++ rwlOf 0x0B ++ rwlOf 0x0C ++ rwlOf 0x0D ++ rwlOf 0x0E ++ rwlOf 0x0F

/-- The configuration digest (R376). -/
def State.cfgDigest (s : State) : List Byte :=
  let image := match s.sys.loaded.find? fun p => p.type == 1 with | some p => p.hash | none => []
  Config.sha256 (image ++ digestRegs.flatMap fun a => leBytes 4 (s.num a))

/-- PAI_CFG_DIGEST_n show it. -/
def State.showDigest (s : State) : State :=
  let d := s.cfgDigest
  (List.range 8).foldl (fun s n => s.setNum (PAI_CFG_DIGEST n) (leAt d (4 * n) 4)) s

/-- The configuration digest as the registers hold it. -/
def State.digestShown (s : State) : List Byte := (List.range 8).flatMap fun n => leBytes 4 (s.num (PAI_CFG_DIGEST n))

/-! ### Priming (R377) -/

/-- Both links are good. -/
def State.linksGood (s : State) : Bool := s.flag PAI_STATUS_LEASE_LINK && s.flag PAI_STATUS_MATE_LINK

/-- The mate is PRIMARY by its last valid token. -/
def State.matePrimary (s : State) : Bool := s.tokenRecent && match s.pai.token with | some t => t.role == 1 | none => false

/-- PRIME_REQ is sent and priming begins. -/
def State.requestPrime (s : State) : State :=
  let p := s.pai
  let s := s.setPai { p with primeSn := some s.sn, snapNext := 0, loaded := false, primeFail := none, logs := [], backlogSn := s.sn,
                             backlog := 0, digests := [], mateDigests := [], prefixes := [] }
  ((s.put PAI_STATUS_PRIMING 1).setNum PAI_CLEAN_RUN 0).sendMate 0 s.sn (.primeReq s.digestShown)

/-- Registers that belong to the replicated state of FLEET, BASELINE, ALLOT and MESH. -/
def replReg (a : Nat) : Bool := [0x0B, 0x0C, 0x0D, 0x0F].contains (a / 0x10000)

/-- The replicated state as copied at the close of a stroke (R377). -/
def State.snapshot (s : State) : Snapshot :=
  let jobs := s.disp.jobs.filter fun j => j.repl && match j.src with | .ring _ _ => true | .element _ _ _ _ => true | _ => false
  let posted := s.rings.posted.filter fun p => replClass (p.ring / 4)
  let regs := s.regs.filter fun r => replReg r.1
  ⟨s.sn, s.flt, s.bsl, s.alt, s.msh, s.flag STP_STATUS_WAVE, s.get STP_STATUS_CAUSES, s.stp.robots, s.stp.clears, jobs, posted,
   s.key.fleet, s.key.stop, s.key.log, s.key.dead, s.key.retired, regs⟩

/-- A job of the mate as this unit shadows it. -/
def Job.shadowed (j : Job) : Job :=
  match j.desc with
  | some d => { j with src := .ring (d.ring % 64 + 64) d.index, desc := some { d with ring := d.ring % 64 + 64 } }
  | none => j

/-- The returning unit discards its replicated state and loads the snapshot (R377). Stops it holds of its own stand (R252):
a wave falls only with the snapshot's and with no input at stop level or output fault of its own. -/
def State.loadSnapshot (s : State) (x : Snapshot) : State :=
  let regs := x.regs.foldl (fun r kv => cput regReset r kv.1 kv.2) (s.regs.filter fun r => !replReg r.1)
  let s : State := { s with flt := x.flt, bsl := x.bsl, alt := x.alt, msh := x.msh, regs := regs }
  let k := s.key
  let s := (s.setKey { k with fleet := x.keyFleet, stop := x.keyStop, log := x.keyLog, dead := x.dead, retired := x.retired,
                              scheduled := true }).showGens
  let s := (s.setStp { s.stp with robots := x.robots, clears := x.clears }).showRobotStops
  let own := s.flag STP_STATUS_IN_A_STOP || s.flag STP_STATUS_IN_B_STOP || s.flag STP_STATUS_OUT_FAULT
  let s :=
    if x.wave && !s.flag STP_STATUS_WAVE then s.raiseAll 3 0
    else if !x.wave && s.flag STP_STATUS_WAVE && !own then
      ((((s.put STP_STATUS_WAVE 0).put STP_STATUS_CAUSES 0).put STP_STATUS_FRAME_PHASE 0).setStp
        { s.stp with phaseSn := none, firstSent := [] }).applyOut
    else s
  let theirs : List Posted := x.posted.map fun p => { p with ring := p.ring % 64 + 64 }
  let mine : List Posted := s.rings.posted.filter fun p => !replClass (p.ring % 64 / 4)
  let s := s.setRings { s.rings with posted := mine ++ theirs }
  let s := x.jobs.foldl (fun s j => s.addJob j.shadowed) (s.setJobs (s.disp.jobs.filter fun j => !j.repl))
  (s.setPai { s.pai with loaded := true, done := x.sn }).applyOut

end Sys2Proof.Machine
end

