-- ==== Sys2Proof/Machine/Rings.lean ====
section
/-! DEFINITION. The ring service (R55–R80): set-up, doorbell reads, descriptor fetch, ring faults, the status point, host-link
reset and host memory errors. -/

namespace Sys2Proof.Machine

open Sys2Proof

/-! ### Set-up (R61, R62, R79, R80) -/

/-- CFG register of a submission (`cq` false) or completion ring. -/
def ringCfg (cq : Bool) (n : Nat) : Nat := if cq then RNG_CQ_CFG n else RNG_SQ_CFG n

def State.ringOn (s : State) (cq : Bool) (n : Nat) : Bool := bitsOf (s.rd (ringCfg cq n)) 0 1 == 1
def State.ringLog2 (s : State) (cq : Bool) (n : Nat) : Nat := bitsOf (s.rd (ringCfg cq n)) 16 5
def State.ringSize (s : State) (cq : Bool) (n : Nat) : Nat := 2 ^ s.ringLog2 cq n

/-- Both page addresses are given. -/
def State.pagesOk (s : State) : Bool :=
  s.num64 RNG_DB_PAGE_LO RNG_DB_PAGE_HI != 0 && s.num64 RNG_ST_PAGE_LO RNG_ST_PAGE_HI != 0

/-- A ring-set-up fault of a ring that holds now: CAUSE 0x01 to 0x04 of RNG_CFG_ERR, 0 for none. A zero page address is a fault only
where a ring is enabled (DESIGN CHOICE, log entry 105). -/
def State.ringCause (s : State) (cq : Bool) (n : Nat) : Nat :=
  let k := s.ringLog2 cq n
  if s.ringOn cq n && !s.pagesOk then 1
  else if k < 4 || 16 < k then 2
  else if !s.ringOn cq n || cq then 0
  else if s.cqOf n / 4 != n / 4 then 3
  else if !s.ringOn true (s.cqOf n) then 4
  else 0

/-- RNG_CFG_ERR keeps the first fault found. -/
def State.noteCfgErr (s : State) (cq : Bool) (n cause : Nat) : State :=
  if s.flag RNG_CFG_ERR_VALID then s
  else (((s.put RNG_CFG_ERR_RING n).put RNG_CFG_ERR_IS_CQ (b2n cq)).put RNG_CFG_ERR_CAUSE cause).put RNG_CFG_ERR_VALID 1

/-- The ring set-up is gone through after a change. -/
def State.scanRings (s : State) : State :=
  match (List.range 128).find? fun i => s.ringCause (i % 2 == 1) (i / 2) != 0 with
  | some i => s.noteCfgErr (i % 2 == 1) (i / 2) (s.ringCause (i % 2 == 1) (i / 2))
  | none => s

/-- BAR0 offset within RINGS that names a cause (R490). -/
def State.causeOfs (s : State) (cq : Bool) (n cause : Nat) : Nat :=
  if cause = 1 then (if s.num64 RNG_DB_PAGE_LO RNG_DB_PAGE_HI = 0 then 0x010 else 0x018)
  else (if cq then 0x508 else 0x108) + 16 * n

/-- The offset at which the ring set-up refuses SYS_ENGAGE (R80), if it does. -/
def State.ringsRefuse (s : State) : Option Nat :=
  let c := s.get RNG_CFG_ERR_CAUSE
  if s.flag RNG_CFG_ERR_VALID && decide (1 ≤ c) && decide (c ≤ 4) then
    some (s.causeOfs (s.flag RNG_CFG_ERR_IS_CQ) (s.get RNG_CFG_ERR_RING) c)
  else
    ((List.range 128).filterMap fun i =>
      let c := s.ringCause (i % 2 == 1) (i / 2)
      if c = 0 then none else some (s.causeOfs (i % 2 == 1) (i / 2) c)).foldl
      (fun best x => match best with | none => some x | some y => some (min x y)) none

/-- The ring is served. -/
def State.ringLive (s : State) (cq : Bool) (n : Nat) : Bool :=
  s.ringOn cq n && s.ringCause cq n == 0 && (cq || s.ringCause true (s.cqOf n) == 0)

/-- The RWL registers of a capability are locked (R55). -/
def State.rwlLocked (s : State) (cap : Nat) : Bool := s.engaged && !(cap == 4 && s.rings.unlocked)

/-- A write to a locked RWL register (R55). -/
def State.lockedWrite (s : State) (a : Nat) (v : Word) : State :=
  (s.count RNG_LOCKED_WRITES 1).record EV_REG_LOCKED_WRITE 0 a v.toNat 0

/-! ### Fault bits (R63, R64) -/

def faultReg (cq : Bool) (n : Nat) : Nat :=
  if cq then (if n < 32 then RNG_CQ_FAULT_LO else RNG_CQ_FAULT_HI) else (if n < 32 then RNG_SQ_FAULT_LO else RNG_SQ_FAULT_HI)

def State.ringFault (s : State) (cq : Bool) (n : Nat) : Bool := bit (s.num (faultReg cq n)) (n % 32)

def State.setRingFault (s : State) (cq : Bool) (n : Nat) : State :=
  s.setNum (faultReg cq n) (setBit (s.num (faultReg cq n)) (n % 32))

/-! ### Ring indices -/

def State.sq (s : State) (n : Nat) : SqRing := s.rings.sq.getD n {}
def State.cq (s : State) (n : Nat) : CqRing := s.rings.cq.getD n {}
def State.modSq (s : State) (n : Nat) (f : SqRing → SqRing) : State := s.setRings { s.rings with sq := lmod s.rings.sq n f }
def State.modCq (s : State) (n : Nat) (f : CqRing → CqRing) : State := s.setRings { s.rings with cq := lmod s.rings.cq n f }

/-- Index difference modulo 2^32. -/
def idxSub (a b : Nat) : Nat := (a + 2 ^ 32 - b) % 2 ^ 32

/-- Free entries of a completion ring (R64). -/
def State.cqFree (s : State) (n : Nat) : Nat :=
  s.ringSize true n - idxSub (s.cq n).prod (s.cq n).cons - (s.cq n).reserved

/-- A descriptor ends ABORTED with a cause (R74). -/
def State.abortDesc (s : State) (d : Desc) (cause : Nat) : State := s.complete d stABORTED cause [] 0 .status

/-- A job of a replicated class that ends outside its commit is told to the mate (R42). -/
def State.noteAbandoned (s : State) (j : Job) : State :=
  match j.desc with
  | some d => if j.repl && j.stamped then s.setPai { s.pai with abandoned := s.pai.abandoned ++ [(d.ring % 64, d.index)] } else s
  | none => s

/-- Disabling a submission ring (R62): what is not yet ready ends ABORTED, cause 0x03. The buffers posted on it stay posted (DESIGN
CHOICE, log entry 105). -/
def State.abortRing (s : State) (n : Nat) : State :=
  let gone := s.disp.jobs.filter fun j => j.notReady && match j.desc with | some d => d.ring == n | none => false
  gone.foldl (fun s j =>
    let s := ((s.noteAbandoned j).dropJob j.id).freeDomain j.domain
    match j.desc with | some d => s.abortDesc d 3 | none => s) s

/-- A write of RNG_SQ_CFG_n or RNG_CQ_CFG_n (R62, R80). -/
def State.writeRingCfg (s : State) (cq : Bool) (n : Nat) (v : Word) : State :=
  let a := ringCfg cq n
  if s.rwlLocked 4 then s.lockedWrite a v
  else
    let old := s.rd a
    let was := s.ringOn cq n
    let grow := was && bitsOf v 16 5 != bitsOf old 16 5
    let v := if grow then withBits v 16 5 (bitsOf old 16 5) else v
    let v := if cq then withBits (withBits (withBits v 1 7 0) 14 2 0) 21 11 0 else withBits (withBits (withBits v 1 3 0) 14 2 0) 21 11 0
    let s := s.wr a v
    let s := if grow then s.noteCfgErr cq n 5 else s
    let s :=
      if !was && s.ringOn cq n then
        -- the status page still shows the old index
        (if cq then s.modCq n fun q => { shown := q.shown } else s.modSq n fun q => { shown := q.shown })
      else if was && !s.ringOn cq n && !cq then s.abortRing n
      else s
    s.scanRings

/-- A write of a ring's base register (R62). -/
def State.writeRingBase (s : State) (cq : Bool) (n a : Nat) (v : Word) : State :=
  if s.rwlLocked 4 then s.lockedWrite a v
  else if s.ringOn cq n then s.noteCfgErr cq n 5
  else s.wr a v

/-- RING_ENABLE (R62): ENABLE is set; indices 0, PHASE 1. -/
def execRingEnable (cq : Bool) (n : Nat) (v : Word) (s : State) : Host.Outcome State Fault Refusal :=
  .next (if s.mainLive && decide (n < 64) && !s.capAbsent 4 then s.writeRingCfg cq n (withBits v 0 1 1) else s)

/-- RING_DISABLE (R62). -/
def execRingDisable (cq : Bool) (n : Nat) (v : Word) (s : State) : Host.Outcome State Fault Refusal :=
  .next (if s.mainLive && decide (n < 64) && !s.capAbsent 4 then s.writeRingCfg cq n (withBits v 0 1 0) else s)

/-- SQ_FAULT_CLEAR (R63): the next doorbell read is evaluated afresh. -/
def execSqFaultClear (hi : Bool) (v : Word) (s : State) : Host.Outcome State Fault Refusal :=
  .next (
    let a := if hi then RNG_SQ_FAULT_HI else RNG_SQ_FAULT_LO
    if s.mainLive && !s.capAbsent 4 then s.wr a (s.rd a &&& ~~~v) else s)

/-- CQ_FAULT_CLEAR (R64): held entries are written at the next status point. -/
def execCqFaultClear (hi : Bool) (v : Word) (s : State) : Host.Outcome State Fault Refusal :=
  .next (
    let a := if hi then RNG_CQ_FAULT_HI else RNG_CQ_FAULT_LO
    if s.mainLive && !s.capAbsent 4 then s.wr a (s.rd a &&& ~~~v) else s)

/-! ### Doorbell reads (R57, R58, R63, R64) -/

/-- The class is fast-polled; the STOP class always is (R58). -/
def State.fastPolled (s : State) (c : Nat) : Bool := c == 9 || bit (s.num RNG_FAST_POLL) c

/-- The producer index of a submission ring is read. -/
def State.readProd (s : State) (n p : Nat) : State :=
  if !s.ringLive false n || s.ringFault false n then s
  else
    let c := (s.sq n).cons
    if s.ringSize false n < idxSub p c then
      ((s.setRingFault false n).modSq n fun q => { q with prod := c }).record EV_RING_RUNAWAY 0 n p c
    else s.modSq n fun q => { q with prod := p }

/-- The consumer index of a completion ring is read. -/
def State.readCons (s : State) (n h : Nat) : State :=
  if !s.ringLive true n || s.ringFault true n then s
  else
    let w := (s.cq n).prod
    if s.ringSize true n < idxSub w h then (s.setRingFault true n).record EV_CQ_RUNAWAY 0 n h w
    else s.modCq n fun q => { q with cons := h }

/-- DOORBELL_READ (R58): the page data arrives; `fast` for a read at b × 31.25 µs, `late` after the stamp point it was issued
for. -/
def execDoorbellRead (fast late : Bool) (prods conss : List Nat) (s : State) : Host.Outcome State Fault Refusal :=
  .next (
    if !s.serving || !s.pagesOk then s
    else
      let s := if late then s.count RNG_DB_LATE 1 else s
      let s := (List.range 64).foldl (fun s n => s.readCons n (conss.getD n 0 % 2 ^ 32)) s
      (List.range 64).foldl (fun s n => if !fast || s.fastPolled (n / 4) then s.readProd n (prods.getD n 0 % 2 ^ 32) else s) s)

/-! ### Descriptor fetch (R64–R69) -/

/-- A timer is free for a ring descriptor (R44); one not yet stamped counts. -/
def State.timerFree (s : State) : Bool :=
  let waiting := (s.disp.jobs.filter fun j => !j.stamped && j.prev.isNone && decide (s.sn < j.notBefore)).length
  decide (s.ringTimers + waiting < 14336) && decide (s.timersUsed + waiting < 16384)

/-- STK_TIMERS_USED, STK_SLOTS_FREE, its least value, and TIMERS_FULL show the dispatcher. -/
def State.showDisp (s : State) : State :=
  let free := s.slotsFree
  let s := (s.setNum STK_SLOTS_FREE free).setNum STK_TIMERS_USED s.timersUsed
  let s := if free < s.num STK_SLOTS_LOW then s.setNum STK_SLOTS_LOW free else s
  if s.flag STK_STATUS_TIMERS_FULL && s.timerFree then s.put STK_STATUS_TIMERS_FULL 0 else s

/-- A fetched descriptor enters the dispatcher behind chain member `prev`; answers its job's id. One for the primary leaves at once,
unless its chain or a fence holds it: then it leaves when its turn comes. A fence within a chain holds that member and those behind it
(DESIGN CHOICE, log entry 105). -/
def State.enterDesc (s : State) (d : Desc) (prev : Option Nat) : State × Option Nat :=
  let id := s.disp.nextId
  let away := s.mustForward d
  if away && prev.isNone && (!d.fence || s.fenceOpen { s.ringJob d with id := id }) then (s.forwardDesc d, some id)
  else
    let j : Job := { s.ringJob d with prev := prev }
    let j := if away then { j with repl := false, lead := none, cls := 7 } else j
    let j := if d.fence && !s.fenceOpen { j with id := id } then { j with phase := .fenced } else j
    (s.addJob j, some id)

/-- The members of a chain from one on (R67): after one that ended at the fetch, the later are ABORTED; on a ring class that is absent
every one ends ABSENT (R3, R54). A STOP-class descriptor takes its place in the order of seq (R37); a POST_BUFFER becomes a job only
behind a fence. -/
def State.enterChain (s : State) (prev : Option Nat) (dead : Bool) (nb : Nat) : List Desc → State
  | [] => s
  | d :: r =>
    if s.classAbsent d.ringClass then (s.endEarly d stABSENT).enterChain prev dead nb r
    else if dead then (s.abortDesc d 1).enterChain prev true nb r
    else
      let stray := prev.isSome && d.notBefore != 0 && d.notBefore != nb
      match (if stray then some stBAD_DESC else s.earlyEnd d) with
      | some st => (s.endEarly d st).enterChain prev true nb r
      | none =>
        let shut := d.fence && !s.fenceOpen { s.ringJob d with id := s.disp.nextId }
        if d.ringClass = 9 then (s.setDisp { s.disp with stops := s.disp.stops + 1 }).enterChain prev false nb r
        else if d.slotless && !shut then s.enterChain prev false nb r
        else
          let (s, id) := s.enterDesc d prev
          s.enterChain id false nb r

/-- The list is one chain as R67 delimits it. -/
def chainShape (ds : List Desc) : Bool :=
  decide (1 ≤ ds.length) && decide (ds.length ≤ 16) &&
  (List.range ds.length).all fun i =>
    match ds[i]? with
    | some d => if i + 1 < ds.length then d.chain else !d.chain || i == 15
    | none => false

/-- The descriptors in what is read from a ring from a consumer index on: 64 bytes each, with the bytes its command reads at
BUF_ADDR. -/
def readDescs (ring cons : Nat) : List (List Byte × List Byte) → List Desc
  | [] => []
  | x :: r => Desc.ofBytes ring (cons % 2 ^ 32) x.1 x.2 :: readDescs ring (cons + 1) r

/-! ### Back-pressure (R45) -/

/-- The sources of jobs: submission rings, then fabric ports (64 + p). STOP is never held. -/
def bpSources : List SourceId := (List.range 112).filter fun x => !(decide (36 ≤ x) && decide (x < 40))

/-- STK_BP_RINGS and STK_BP_PORTS show the sources held. -/
def State.showHeldSources (s : State) : State :=
  let bits (lo n : Nat) : Nat := (List.range n).foldl (fun v i => if s.disp.held.contains (lo + i) then v + 2 ^ i else v) 0
  (((s.setNum STK_BP_RINGS_LO (bits 0 32)).setNum STK_BP_RINGS_HI (bits 32 32)).setNum STK_BP_PORTS_LO (bits 64 32)).setNum
    STK_BP_PORTS_HI (bits 96 16)

/-- SLOTS_EXHAUSTED: no slot is free, and every source is held. -/
def State.pressure (s : State) : State :=
  if s.slotsFree != 0 || s.disp.held.length == bpSources.length then s
  else
    let first := !s.flag STK_STATUS_BP_ACTIVE
    let s := s.setDisp { s.disp with held := bpSources, bpSn := if first then s.now else s.disp.bpSn }
    ((s.put STK_STATUS_BP_ACTIVE 1).record EV_SLOTS_EXHAUSTED 0 s.disp.stamped s.timersUsed 0).showHeldSources

/-- The next held source in round-robin order after the one resumed last; ring 0 first where none has been (DESIGN CHOICE, log entry
19). -/
def State.nextHeld (s : State) : Option SourceId :=
  match s.disp.lastResumed with
  | some n => (s.disp.held.find? fun x => decide (n < x)).orElse fun _ => s.disp.held.head?
  | none => s.disp.held.head?

/-- One held source is resumed at a stamp point while enough slots are free, by STK_BP_RESUME as it was written (DESIGN CHOICE outside
its range, log entry 115); SLOTS_RECOVERED after the last. -/
def State.resumeOne (s : State) : State :=
  if s.slotsFree < s.get STK_BP_RESUME_N then s
  else match s.nextHeld with
    | none => s
    | some x =>
      let s := s.setDisp { s.disp with held := s.disp.held.filter fun y => y != x, lastResumed := some x }
      let s :=
        if s.disp.held.isEmpty then (s.put STK_STATUS_BP_ACTIVE 0).record EV_SLOTS_RECOVERED 0 (s.now - s.disp.bpSn) s.slotsFree 0 else s
      s.showHeldSources

/-- DESCRIPTOR_FETCH (R61, R64–R68): the device fetches the next descriptor of a ring, or the next whole chain; `raw` holds the 64
bytes of each and the bytes its command reads at BUF_ADDR. It is not consumed without an entry reserved for each, behind a fence,
under back-pressure, or without a timer it needs. -/
def execDescriptorFetch (ring : Nat) (raw : List (List Byte × List Byte)) (s : State) : Host.Outcome State Fault Refusal :=
  .next (
    let q := s.sq ring
    let ds := readDescs ring q.cons raw
    let n := ds.length
    let c := s.cqOf ring
    let stop := ring / 4 == 9
    let held := s.disp.held.contains ring && !stop
    let waiting := (s.disp.jobs.filter fun j => j.phase == .presented && !j.isPeriodic).length
    if !s.serving || decide (64 ≤ ring) || !s.ringLive false ring || s.ringFault false ring || s.ringFault true c then s
    else if !chainShape ds || decide (idxSub q.prod q.cons < n) || decide (s.cqFree c < n) then s
    else if held || (!stop && decide (s.slotsFree < waiting + n)) then s
    else if s.disp.jobs.any fun j => j.phase == .fenced && (match j.desc with | some d => d.ring == ring | none => false) then s
    else
      let nb := match ds with | d :: _ => d.notBefore | [] => 0
      let wants := decide (s.sn < nb) && match ds with | d :: _ => (s.earlyEnd d).isNone && !d.slotless | [] => false
      if wants && !s.timerFree then
        if s.flag STK_STATUS_TIMERS_FULL then s else (s.put STK_STATUS_TIMERS_FULL 1).record EV_TIMERS_FULL 0 ring 0 0
      else
        let s := s.modSq ring fun q => { q with cons := (q.cons + n) % 2 ^ 32 }
        let s := s.modCq c fun x => { x with reserved := x.reserved + n }
        let endless := n == 16 && (match ds.getLast? with | some d => d.chain | none => false)
        let s :=
          if endless then ds.foldl (fun s d => s.endEarly d (if s.classAbsent d.ringClass then stABSENT else stBAD_DESC)) s
          else s.enterChain none false nb ds
        s.pressure.showDisp)

/-! ### The status point (R59, R60, R71, R77) -/

/-- The health word without BEAT (R60). -/
def State.healthWord (s : State) : Nat :=
  s.dev.code + 2 ^ 4 * s.role.code + 2 ^ 6 * s.get STK_STATUS_ANCHORED + 2 ^ 7 * s.get STK_STATUS_HOLDOVER +
  2 ^ 8 * s.get STK_STATUS_BP_ACTIVE +
  2 ^ 9 * b2n (s.num RNG_SQ_FAULT_LO != 0 || s.num RNG_SQ_FAULT_HI != 0 || s.num RNG_CQ_FAULT_LO != 0 || s.num RNG_CQ_FAULT_HI != 0) +
  2 ^ 10 * b2n s.disp.overLast + 2 ^ 11 * s.get STP_STATUS_WAVE

/-- One completion that has fallen due is written, held in its reservation while its ring is faulted, or discarded with its
disabled ring (R62, R64). One for the mate goes out on the link (R378). -/
def State.writeCpl (s : State) (c : DueCpl) : State :=
  if 128 ≤ c.cq then s.sendMate 0 s.sn (.result ⟨c.tag, c.status, c.resultLen, c.result, c.bytes⟩)
  else if !s.ringLive true c.cq then s.count RNG_LOST_CPL 1
  else if s.ringFault true c.cq then s.setRings { s.rings with due := s.rings.due ++ [c] }
  else
    let w := (s.cq c.cq).prod
    let s := if c.bytes.isEmpty then s else s.emit (.hostBytes c.addr c.bytes)
    if c.silent then s.unreserve c.cq
    else
    let i := w % s.ringSize true c.cq
    let base := s.num64 (RNG_CQ_BASE_LO c.cq) (RNG_CQ_BASE_HI c.cq)
    let s := s.emit (.completion c.cq i (base + 32 * i) (c.entry w (s.ringSize true c.cq)))
    let s := s.modCq c.cq fun q =>
      { q with prod := (w + 1) % 2 ^ 32, reserved := q.reserved - 1, unsignalled := q.unsignalled + 1
               waited := if q.unsignalled = 0 then 0 else q.waited }
    if c.opcode = 0xC010 then s.wlgWritten (lo32 c.result) else s

/-- The completions that have fallen due are written, in the order in which they fell due. -/
def State.writeCpls (s : State) : State :=
  let due := s.rings.due.filter fun c => c.due == .status
  let s := s.setRings { s.rings with due := s.rings.due.filter fun c => c.due != .status }
  due.foldl State.writeCpl s

/-- The index words that changed. -/
def State.writeIndices (s : State) : State :=
  let s := (List.range 64).foldl (fun s n =>
    let q := s.sq n
    if q.cons = q.shown then s else (s.emit (.statusWord (4 * n) q.cons)).modSq n fun q => { q with shown := q.cons }) s
  (List.range 64).foldl (fun s n =>
    let q := s.cq n
    if q.prod = q.shown then s else (s.emit (.statusWord (0x100 + 4 * n) q.prod)).modCq n fun q => { q with shown := q.prod }) s

/-- MSI-X table entry of a vector: its mask bit; the pending bit array (PCIe Base 4.0). -/
def msixControl (v : Nat) : Nat := 0x04200C + 0x10 * v
def msixPending (v : Nat) : Nat := 0x043000 + 4 * (v / 32)

/-- A vector is sent, or its pending bit set while it is masked (R77). -/
def State.sendVector (s : State) (v : Nat) : State :=
  if bit (s.num (msixControl v)) 0 then s.setNum (msixPending v) (setBit (s.num (msixPending v)) (v % 32)) else s.emit (.msix v)

/-- The completion ring's vector is due at this status point (R77). -/
def State.cqMarks (s : State) (n : Nat) : Bool :=
  let q := s.cq n
  s.ringOn true n && q.unsignalled != 0 &&
  (decide (max (s.get (RNG_CQ_MOD_COUNT n)) 1 ≤ q.unsignalled) || decide (s.get (RNG_CQ_MOD_DELAY n) ≤ q.waited))

/-- The MSI-X messages of a status point: vector 0 on a change of the health word, the rings' vectors, the float vector. -/
def State.signal (s : State) (healthChanged : Bool) : State :=
  let marked := (List.range 64).filter fun n => s.cqMarks n
  let vs := marked.map fun n => s.get (RNG_CQ_CFG_VECTOR n)
  let vs := if healthChanged then 0 :: vs else vs
  let vs := if s.net.floatDue then s.get CIS_CFG_FLOAT_VECTOR :: vs else vs
  let s := s.setNet { s.net with floatDue := false }
  let s := (List.range 64).foldl (fun s n =>
    s.modCq n fun q => if marked.contains n then { q with unsignalled := 0, waited := 0 }
      else if q.unsignalled = 0 then q else { q with waited := q.waited + 1 }) s
  (List.range 64).foldl (fun s v => if vs.contains v then s.sendVector v else s) s

/-- A status point (R59). -/
def State.statusPoint (s : State) : State :=
  if !s.serving || !s.pagesOk then s
  else
    let s := (s.streamRecords).writeCpls.writeIndices
    let h := s.healthWord
    let beat := (s.rings.beat + 1) % 2 ^ 16
    let changed := s.rings.lastHealth != some h
    let s := s.setRings { s.rings with beat := beat, lastHealth := some h }
    (s.emit (.statusBlock s.sn (h + 2 ^ 16 * beat))).signal changed

/-! ### Host memory errors, bad requests, host-link reset -/

/-- The failure code of HOST_DMA_ERROR (R526). -/
def DmaEnd.code : DmaEnd → Nat
  | .unsupported => 0x1 | .retry => 0x2 | .abort => 0x4 | .timeout => 0x8 | .poisoned => 0x9 | .malformed => 0xA | .linkDown => 0xB

/-- Bit of the AER uncorrectable error status that a failed access sets (PCIe Base 4.0; R49). -/
def DmaEnd.aer : DmaEnd → Option Nat
  | .timeout => some 14 | .poisoned => some 12 | .malformed => some 18 | _ => none

/-- HOST_DMA_ERROR (R49, R66, R526): an access for a descriptor (`desc` its ring and index) or a page ended without its data. An error
on the fetch of a descriptor itself is counted and recorded and ends nothing: no job stands for it, and its bytes are not known
(DESIGN CHOICE, log entry 105). -/
def execHostDmaError (desc : Option (Nat × Nat)) (how : DmaEnd) (addr : Nat) (s : State) : Host.Outcome State Fault Refusal :=
  .next (
    if !s.serving then s
    else
      let s := (s.count RNG_DMA_ERR 1).record EV_HOST_DMA_ERROR 0 (match desc with | some x => x.1 | none => 0xFF) how.code (lo32 addr)
      let s := match how.aer with
        | some b => s.setRings { s.rings with pcie := { s.rings.pcie with aer := setBit s.rings.pcie.aer b } }
        | none => s
      match desc with
      | none => s
      | some (r, i) =>
        match s.disp.jobs.find? fun j => j.isRing r i with
        | some j => match j.desc with
          | some d => (s.noteAbandoned j).finish d (s.fail stABORTED 2)
          | none => s
        | none => s)

/-- A BAR0 address lies in a listed capability block (R50, R52): IDENT at 0, every other at its CAP_ID × 0x1_0000. -/
def State.barListed (s : State) (addr : Nat) : Bool :=
  let cap := if addr < 0x10000 then 1 else addr / 0x10000
  decide (addr < 0x170000) && addr / 0x10000 != 1 && !(s.part == .cx7720 && cap == 0x12) &&
  decide (addr % 0x10000 < 4096 * bitsOf (s.rd (if cap = 1 then 4 else cap * 0x10000 + 4)) 0 16)

/-- BAR0_BAD_REQUEST (R50): a request that is not one aligned DWORD with all byte enables, or lies outside the capability
blocks. -/
def execBar0BadRequest (addr dwords : Nat) (whole : Bool) (s : State) : Host.Outcome State Fault Refusal :=
  .next (
    if !s.mainLive || (addr % 4 == 0 && dwords == 1 && whole && s.barListed addr) then s
    else ({ s with reply := .unsupported } : State).count RNG_BAR_ERR 1)

/-- HOST_LINK_RESET (R51): RINGS returns to its reset values, unlocked; the completions due are discarded, and those of stamped
jobs will be. -/
def execHostLinkReset (s : State) : Host.Outcome State Fault Refusal :=
  .next (
    if !s.mainLive then s
    else
      let mine := s.rings.due.filter fun c => decide (c.cq < 64)
      let unstamped : Job → Bool := fun j => !j.stamped && match j.desc with | some d => decide (d.ring < 64) | none => false
      let dropped := s.disp.jobs.filter unstamped
      let lost := s.disp.jobs.filterMap fun j => if j.phase == .waiting then j.desc.filter fun d => decide (d.ring < 64) else none
      let jobs := (s.disp.jobs.filter fun j => !unstamped j).map fun j =>
        match j.desc with
        | some d =>
          if j.phase != .waiting && decide (d.ring < 64) then
            { j with desc := some { d with ring := d.ring + 192 }, src := .ring (d.ring + 192) d.index }
          else j
        | none => j
      let s := s.setJobs jobs
      let r : Rings := { due := s.rings.due.filter fun c => decide (64 ≤ c.cq), forwarded := s.rings.forwarded, nextFwd := s.rings.nextFwd,
                         lost := s.rings.lost ++ lost, unlocked := true, posted := s.rings.posted.filter fun p => decide (64 ≤ p.ring) }
      let s := s.setRings r
      let s := { s with regs := s.regs.filter fun x => x.1 / 0x10000 != 4 }
      let n := mine.length + dropped.length
      ((s.count RNG_LOST_CPL n).record EV_HOST_LINK_RESET 0 n 0 0).showDisp)

/-! ### Common commands (R75, R76) -/

/-- NOP. -/
def execNop (d : Desc) (s : State) : Host.Outcome State Fault Refusal := .next (s.command d fun s => s.ok)

/-- ECHO. -/
def execEcho (d : Desc) (s : State) : Host.Outcome State Fault Refusal := .next (s.command d fun s => s.ok (d.op 32 8))

/-- POST_BUFFER: the buffer stands until an item takes it; on a replicated class the log carries it. -/
def execPostBuffer (d : Desc) (s : State) : Host.Outcome State Fault Refusal :=
  .next (s.command d fun s =>
    let s := s.postBuffer d
    let s := if replClass d.ringClass && d.ring < 64 then s.logInput (.desc d 7 (s.get (RNG_SQ_CFG_PRIO d.ring)) 0 0) else s
    (if d.ring = 51 then s.wlgDeliver 64 else s).later)

/-- FORWARD_TIMEOUT (R69): a forwarded descriptor without a result for 400 strokes. -/
def execForwardTimeout (s : State) : Host.Outcome State Fault Refusal :=
  .next (if !s.serving then s else match s.rings.forwarded.find? fun f => decide (f.sentSn + 400 ≤ s.sn) with
    | none => s
    | some f =>
      let s := s.setRings { s.rings with forwarded := s.rings.forwarded.filter fun x => x.id != f.id }
      let s := (s.put PAI_FWD_PENDING_N s.rings.forwarded.length).record EV_FORWARD_TIMEOUT 0 f.desc.ring f.desc.tag 0
      (s.complete f.desc stTIMEOUT 0 [] 0 .status).endJobOf f.desc false)

end Sys2Proof.Machine
end

