-- ==== Sys2Proof/Machine/BusRegs.lean ====
section
/-! DEFINITION. BAR0 seen by the host (R9, R10, R50–R55): what a register reads as, what a read clears, and what a write to a
register without a row of its own does. -/

namespace Sys2Proof.Machine

open Sys2Proof

/-! ### What registers read as -/

/-- SYS_STATUS (R497). -/
def State.sysStatus (s : State) : Word :=
  let w := withBits (s.rd SYS_STATUS) 0 4 s.dev.code
  let w := withBits w 12 3 s.sys.kind
  withBits w 16 1 (b2n s.pins.vbat)

/-- SYS_STRAPS (R484, R497). -/
def State.strapWord (s : State) : Nat :=
  s.straps.boot % 4 + 4 * b2n s.straps.pairId + 8 * b2n s.straps.pairPref + 16 * b2n s.straps.testMode

/-- CAP_HDR and CAP_INFO of a block (R52, R54): the CX7720 leaves WELLGATE out of the list (R3). -/
def State.capWord (s : State) (a : Nat) (w : Word) : Word :=
  let cap := if a < 0x10000 then 1 else a / 0x10000
  if a % 0x10000 = 4 then withBits w 24 1 (b2n (s.fuses.fusedOff.contains cap))
  else if cap = 0x11 ∧ s.part = .cx7720 then withBits w 16 16 0x13
  else w

/-- Axes that MOT_MOVING shows: bit n of the axes whose status says so (R451). -/
def State.axisBits (s : State) (b : Nat) : Nat := ((List.range 16).map fun n => b2n (bit (s.axStat n) b) * 2 ^ n).sum

/-- MOT_GINH (R451): the gate inhibit lines as the axes see them, 1 = high. -/
def State.ginhBits (s : State) : Nat := ((List.range 4).map fun n => b2n (s.ginhLine n) * 2 ^ n).sum

/-- The axis of a register of the MOTION axis blocks. -/
def motAxis (a : Nat) : Nat := (a - 0x130100) / 0x40

/-- Bits [37:32] of a 38-bit coordinate, sign-extended (R125, R210). -/
def coordHi (w : Word) : Word := BitVec.ofNat 32 (unsigned 32 (signed 6 (w.toNat % 64)))

/-- Registers that hold the upper part of a coordinate. -/
def coordRegs : List Nat := [GNS_ARP_X_HI, GNS_ARP_Y_HI, GNS_ARP_Z_HI, BSL_ORIGIN_X_HI, BSL_ORIGIN_Y_HI, BSL_ORIGIN_Z_HI]

/-- Registers whose value stands in other state. -/
def State.viewed (s : State) (a : Nat) : Option Word :=
  if a = IDN_PCI_ID then some (BitVec.ofNat 32 s.pciId)
  else if a = IDN_SERIAL_LO then some (BitVec.ofNat 32 s.fuses.serial)
  else if a = IDN_SERIAL_HI then some (BitVec.ofNat 32 (s.fuses.serial / 2 ^ 32))
  else if a = SYS_STATUS then some s.sysStatus
  else if a = SYS_STRAPS then some (BitVec.ofNat 32 s.strapWord)
  else if a = STK_SN_LO then some (BitVec.ofNat 32 s.sn)
  else if a = RNG_FAST_POLL then some (withBits (s.rd a) 9 1 1)
  else if a = PAI_STATUS then some (withBits (withBits (s.rd a) PAI_STATUS_UNIT.lo 1 (b2n s.straps.pairId)) PAI_STATUS_PREF.lo 1 (b2n s.straps.pairPref))
  else if a = FLT_STATUS then some (BitVec.ofNat 32 s.fleetStatus)
  else if a = KEY_FUSE_STATE then some (BitVec.ofNat 32 s.fuseWord)
  else if a = KEY_CACHE_USE then some (BitVec.ofNat 32 (s.pinnedKeys + s.key.cache.length + 2 ^ 16 * s.pinnedKeys))
  else if a = KEY_ANTIROLL_LO then some (BitVec.ofNat 32 s.antirollWord)
  else if a = KEY_ANTIROLL_HI then some (BitVec.ofNat 32 (s.antirollWord / 2 ^ 32))
  else if a = MOT_MOVING then some (BitVec.ofNat 32 (s.axisBits 0))
  else if a = MOT_GINH then some (BitVec.ofNat 32 s.ginhBits)
  else if a = REC_STATUS then
    some (BitVec.ofNat 32 (s.log.store.length + 2 ^ 24 * b2n (decide (recCapacity ≤ s.log.store.length)) + 2 ^ 25 * b2n s.log.frozen))
  else if a = REC_HEAD_SEQ then some (BitVec.ofNat 32 s.log.headSeq)
  else if a = REC_NEXT_SEQ then some (BitVec.ofNat 32 s.log.nextSeq)
  else if a = REC_LOST then some (BitVec.ofNat 32 s.log.lost)
  else if a = REC_FROZEN_LOST then some (BitVec.ofNat 32 s.log.frozenLost)
  else if coordRegs.contains a then some (coordHi (s.rd a))
  else if 0x130100 ≤ a ∧ a < 0x130500 then
    if a = MOT_AX_STAT (motAxis a) then some (BitVec.ofNat 32 (s.axStat (motAxis a)))
    else if a = MOT_VEL (motAxis a) then some (BitVec.ofNat 32 (unsigned 32 (s.axis (motAxis a)).v))
    else none
  else none

/-- What BAR0 address `a` reads as: reserved offsets, write-only registers and the registers of a block that is fused off read
zero (R9, R10, R54). -/
def State.regRead (s : State) (a : Nat) : Word :=
  let cap := if a < 0x10000 then 1 else a / 0x10000
  match findRow a (regRows (a / 0x10000)) with
  | none => 0
  | some (r, _) =>
    if a % 0x10000 < 8 then s.capWord a (s.rd a)
    else if s.capAbsent cap || r.acc == .wo then 0
    else (s.viewed a).getD (s.rd a)

/-! ### Writes -/

/-- A write reaches the writable fields of a register, each held to its range. -/
def applyFields (fs : List WField) (old v : Word) : Word :=
  fs.foldl (fun w f => withBits w f.lo f.width (clampN f.min f.max (bitsOf v f.lo f.width))) old

/-- A write of PRT_MDIO_CMD runs the cycle that OP names (R333). -/
def State.writeMdio (s : State) (v : Word) : State :=
  match bitsOf v 12 2 with
  | 0 => after (execMdioAddress v s) s
  | 1 => after (execMdioWrite v s) s
  | 2 => after (execMdioReadInc v s) s
  | _ => after (execMdioRead v s) s

/-- A write of GNS_CMD (R115, R122). -/
def State.writeGnsCmd (s : State) (v : Word) : State :=
  let s := if bitsOf v 0 1 = 1 then after (execSurveyRestart s) s else s
  if bitsOf v 1 1 = 1 then after (execForgetKeepalive s) s else s

/-- MSI-X: a vector whose mask is cleared while its pending bit is set is sent (R77, PCIe Base 4.0). -/
def State.unmaskVector (s : State) (v : Nat) : State :=
  if bit (s.num (msixPending v)) (v % 32) && !bit (s.num (msixControl v)) 0 then
    (s.setNum (msixPending v) (clearBit (s.num (msixPending v)) (v % 32))).emit (.msix v)
  else s

/-- THERM_ALERT_N is low while the junction exceeds SYS_THERM_LIMIT (R497); a crossing is recorded (R496). -/
def State.thermCheck (s : State) : State :=
  let t := signed 16 (s.get SYS_TEMP_T)
  let hot := decide ((16 * s.get SYS_THERM_LIMIT_C : Int) < t)
  if hot = s.flag SYS_STATUS_THERM_ALERT then s
  else (s.put SYS_STATUS_THERM_ALERT (b2n hot)).record EV_THERMAL 0 (unsigned 32 t) (b2n hot) 0

/-- What a change of some registers brings with it, at `ns` of the stroke: the second label of the next PPS_IN edge (R84); TB3's
rate (R100); the value a LOAD takes; GNS_SIG_AVAIL (R105); ring set-up faults (R80); the thermal alert. -/
def State.regChanged (s : State) (a : Nat) : State :=
  if a = TIM_PPS_IN_LABEL then s.setTim { s.tim with labelFresh := true, labelled := true }
  else if a = SYS_THERM_LIMIT then s.thermCheck
  else if a / 0x10000 = 9 then s.showGnss
  else if 0x040010 ≤ a ∧ a ≤ 0x04001C then s.scanRings
  else if 0x042000 ≤ a ∧ a < 0x042400 then s.unmaskVector ((a - 0x042000) / 16)
  else s

/-- TIM_TB3_SEC and TIM_TB3_NS take the value of the next LOAD, while their reads show TB3 as last latched (R100). -/
def State.writeTb3 (s : State) (a : Nat) (v : Word) : State :=
  let t := s.tim
  if a = TIM_TB3_SEC_LO then s.setTim { t with tb3Sec := t.tb3Sec / 2 ^ 32 * 2 ^ 32 + v.toNat }
  else if a = TIM_TB3_SEC_HI then s.setTim { t with tb3Sec := t.tb3Sec % 2 ^ 32 + 2 ^ 32 * v.toNat }
  else s.setTim { t with tb3Ns := v.toNat }

/-- A write that is not locked out, to a register of an access code other than RO and RC. -/
def State.writeOpen (s : State) (r : RegRow) (a : Nat) (v : Word) (ns : Nat) : State :=
  if a = REC_WIN_IDX then after (execWindowLoad v s) s
  else if a = PRT_MDIO_CMD then s.writeMdio v
  else if a = GNS_SPI_CTRL then after (execGnssSpiTransfer v s) s
  else if a = GNS_CMD then s.writeGnsCmd v
  else if a = RAD_CAL_CMD then after (execCalStart v s) s
  else if a = TIM_TB0_CMD then after (execTb0Accept v s) s
  else if a = TIM_TB3_CMD then after (execTb3Load v ns s) s
  else if a = TIM_TB3_SEC_LO ∨ a = TIM_TB3_SEC_HI ∨ a = TIM_TB3_NS then s.writeTb3 a v
  else if a = TIM_TB3_ADJ then (s.rebaseTb3 (s.clockNs ns)).wr a v
  else if 0x0A1000 ≤ a ∧ a < 0x0A3000 ∧ a = RAD_SPI_CTRL ((a - 0x0A1000) / 0x400) then after (execRfSpiTransfer ((a - 0x0A1000) / 0x400) v s) s
  else if r.acc == .w1c then s.wr a (s.rd a &&& ~~~v)
  else (s.wr a (applyFields r.wr (s.rd a) v)).regChanged a

/-- A write to a register of RINGS that a ring's set-up rules govern (R62, R79). -/
def State.writeRingReg (s : State) (a : Nat) (v : Word) : Option State :=
  let cq := decide (0x040500 ≤ a)
  let n := (a - if cq then 0x040500 else 0x040100) / 16
  if (0x040100 ≤ a ∧ a < 0x040900) then
    match a % 16 with
    | 0 | 4 => some (s.writeRingBase cq n a (if a % 16 = 0 then withBits v 0 12 0 else v))
    | 8 => some (s.writeRingCfg cq n v)
    | _ => none
  else none

/-- A host write of one DWORD that is none of SYSTEM's own requests: its access code (R9), the lock (R55), a block that is absent
or fused off (R54). -/
def State.busWrite (s : State) (a : Nat) (v : Word) (ns : Nat) : State :=
  let cap := if a < 0x10000 then 1 else a / 0x10000
  if a % 4 != 0 || !s.barListed a then s.count RNG_BAR_ERR 1
  else if s.capAbsent cap then s
  else match findRow a (regRows (a / 0x10000)) with
    | none => s
    | some (r, _) =>
      match r.acc with
      | .ro | .rc => s
      | .rwl =>
        match s.writeRingReg a v with
        | some t => t
        | none => if s.rwlLocked cap then s.lockedWrite a v else s.writeOpen r a v ns
      | _ => s.writeOpen r a v ns

/-! ### Reads with an effect -/

/-- A register that holds a least value since it was last read, and the quantity it tracks (R9). -/
def State.leastNow (s : State) (a : Nat) : Option Nat :=
  if a = STK_SLOTS_LOW then some s.slotsFree
  else if a = CIS_FREE_LOW then some s.cellsFree
  else none

/-- SN_READ_LATCH (R47): a read of STK_SN_LO latches STK_SN_HI and STK_PHASE_NS, at `ns` of the stroke. -/
def execSnReadLatch (ns : Nat) (s : State) : Host.Outcome State Fault Refusal :=
  .next (
    if !s.mainLive then s
    else if s.capAbsent 3 then { s with reply := .data 0 }
    else
      let s := (s.setNum64 STK_SN_LO STK_SN_HI s.sn).put STK_PHASE_NS_NS ns
      { s with reply := .data (s.rd STK_SN_LO) })

end Sys2Proof.Machine
end

