-- ==== Sys2Proof/Machine/MeshPkt.lean ====
section
/-! DEFINITION. Packets that the device sends into the mesh (R287, R289, R291): IPv6 datagrams with a routing header, RPL messages of the
root, contents of broadcasts. Values that RFC 6550, RFC 6554 and RFC 8200 leave to a root are opaque (log entry 120). -/

namespace Sys2Proof.Machine

open Sys2Proof

/-! ### Addresses (R24–R26) -/

/-- The /64 prefix of a mesh cluster (R24). -/
def State.clusterPrefix (s : State) (c : Nat) : List Byte :=
  let region := s.get FWD_SITE_REGION * 16
  s.entPrefix ++ (if c < 240 then [BitVec.ofNat 8 (region + s.get FWD_SITE_SITE), BitVec.ofNat 8 c]
                  else [BitVec.ofNat 8 (region + s.get FWD_SITE_SITE2), BitVec.ofNat 8 (c - 240)])

/-- Interface identifier of a node: its EUI-64 with the universal/local bit inverted (R25). -/
def Node.iid (n : Node) : List Byte := beBytes 8 (Nat.xor n.eui (2 ^ 57))

/-- The device's address in a cluster (R26). -/
def State.rootAddr (s : State) (c : Nat) : List Byte := s.clusterPrefix c ++ beBytes 8 1

/-- Address of a node. -/
def State.nodeAddr (s : State) (i : Nat) : List Byte :=
  match s.node? i with | some n => s.clusterPrefix n.cluster ++ n.iid | none => []

/-! ### Headers -/

/-- An IPv6 header (RFC 8200). -/
def ip6 (src dst : List Byte) (next len : Nat) : List Byte :=
  [0x60, 0, 0, 0] ++ beBytes 2 len ++ leBytes 1 next ++ leBytes 1 (Config.rplOpen 0) ++ src ++ dst

/-- The routing header of type 3 (RFC 6554) over the addresses behind the first hop: CmprI = CmprE = 8 (R289). -/
def routing3 (next : Nat) (rest : List (List Byte)) : List Byte :=
  leBytes 1 next ++ leBytes 1 rest.length ++ [3] ++ leBytes 1 rest.length ++ [0x88, 0, 0, 0] ++ rest.flatMap id

/-- A datagram of the device to a node over its path from the depth-1 ancestor: `next` and `pay` stand behind the routing header, which a
path of one node needs not. -/
def State.routed (s : State) (c : Nat) (path : List Nat) (next : Nat) (pay : List Byte) : List Byte :=
  let hops := path.map fun i => match s.node? i with | some n => n.iid | none => []
  let first := s.nodeAddr (path.headD 0)
  match hops.tail with
  | [] => ip6 (s.rootAddr c) first next pay.length ++ pay
  | rest => ip6 (s.rootAddr c) first 43 ((routing3 next rest).length + pay.length) ++ routing3 next rest ++ pay

/-- Checksum of an upper-layer message over the IPv6 pseudo-header (RFC 8200). -/
def upperCheck (src dst : List Byte) (next : Nat) (msg : List Byte) : Nat :=
  inetCheck (src ++ dst ++ beBytes 4 msg.length ++ [0, 0, 0] ++ leBytes 1 next ++ msg)

/-- An ICMPv6 message of RPL (RFC 6550), type 155. -/
def rplMsg (src dst : List Byte) (code : Nat) (body : List Byte) : List Byte :=
  let m (sum : Nat) : List Byte := [155] ++ leBytes 1 code ++ beBytes 2 sum ++ body
  m (upperCheck src dst 58 (m 0))

/-- A UDP message between equal ports. -/
def udpMsg (src dst : List Byte) (port : Nat) (body : List Byte) : List Byte :=
  let m (sum : Nat) : List Byte := beBytes 2 port ++ beBytes 2 port ++ beBytes 2 (8 + body.length) ++ beBytes 2 sum ++ body
  m (upperCheck src dst 17 (m 0))

/-! ### RPL messages (R287) -/

/-- A DIO of a cluster's DODAG: rank 256, Grounded, MOP 1, with the DODAG Configuration option and the PIO of the cluster prefix. -/
def State.dioBody (s : State) (c version : Nat) : List Byte :=
  leBytes 1 (s.get MSH_NET_CFG_RPL_INSTANCE) ++ leBytes 1 version ++ beBytes 2 256 ++
  leBytes 1 (0x88 + Config.rplOpen 1 % 8) ++ leBytes 1 (Config.rplOpen 2) ++ [0, 0] ++ s.rootAddr c ++
  [4, 14] ++ leBytes 1 (Config.rplOpen 3) ++ leBytes 1 (s.get MSH_NET_CFG_DIO_DOUBLINGS) ++
  leBytes 1 (s.get MSH_NET_CFG_DIO_IMIN) ++ leBytes 1 (Config.rplOpen 4) ++ beBytes 2 (Config.rplOpen 5) ++
  beBytes 2 256 ++ beBytes 2 (s.get MSH_NET_CFG_OCP) ++ [0] ++ leBytes 1 (s.get MSH_PATH_LIFE_LIFE) ++
  beBytes 2 (s.get MSH_PATH_LIFE_UNIT) ++
  [8, 30, 64, 0x40] ++ beBytes 4 (Config.rplOpen 6) ++ beBytes 4 (Config.rplOpen 7) ++ [0, 0, 0, 0] ++ s.clusterPrefix c ++
  List.replicate 8 0

/-- A DAO-ACK (R288). -/
def State.daoAckBody (s : State) (seq status : Nat) : List Byte :=
  leBytes 1 (s.get MSH_NET_CFG_RPL_INSTANCE) ++ [0] ++ leBytes 1 seq ++ leBytes 1 status

/-! ### Contents of frames -/

/-- Port of a message of the device, by its TYPE (R291). -/
def msgPort (m : List Byte) : Nat := if leAt m 0 1 = 0x10 then 0xF0B3 else 0xF0B2

/-- The datagram that carries a body to a node over a path (R289). -/
def State.bodyBytes (s : State) (path : List Nat) (dst : Nat) (body : MeshBody) : List Byte :=
  let c := match s.node? dst with | some n => n.cluster | none => 0
  let a := s.rootAddr c
  let b := s.nodeAddr dst
  match body with
  | .dio v => s.routed c path 58 (rplMsg a b 1 (s.dioBody c v))
  | .daoAck q st => s.routed c path 58 (rplMsg a b 3 (s.daoAckBody q st))
  | .message m => s.routed c path 17 (udpMsg a b (msgPort m) m)
  | .packet p => s.routed c path 41 p
  | .empty => []

/-- Destination of a cluster's broadcasts: all RPL nodes, or all nodes (link-local scope). -/
def allNodes (last : Byte) : List Byte := [0xFF, 0x02] ++ List.replicate 13 0 ++ [last]

/-- Contents of a broadcast (R295, R302): a DIO or a message to every node of a cluster. -/
def State.castBytes (s : State) (c : Nat) (body : MeshBody) : List Byte :=
  let a := s.rootAddr c
  let whole (b : List Byte) (next : Nat) (m : List Byte) : List Byte := ip6 a b next m.length ++ m
  match body with
  | .dio v => whole (allNodes 0x1A) 58 (rplMsg a (allNodes 0x1A) 1 (s.dioBody c v))
  | .message m => whole (allNodes 0x01) 17 (udpMsg a (allNodes 0x01) (msgPort m) m)
  | _ => []

/-- Contents of an Enhanced Beacon (R259): ASN, the full timeslot template, hopping sequence, slotframe length. -/
def State.beaconBytes (s : State) (seq asn : Nat) : List Byte :=
  leBytes 5 asn ++ leBytes 2 (s.get MSH_TEMPLATE_TX_OFFSET_US) ++ leBytes 2 (s.get MSH_TEMPLATE_ACK_DELAY_US) ++
  leBytes 2 (s.get MSH_GUARD_GUARD_US) ++ leBytes 2 (s.get MSH_GUARD_ACK_GUARD_US) ++ leBytes 1 seq ++
  leBytes 1 (s.get MSH_SF_LEN_LOG2_SF)

end Sys2Proof.Machine
end

