-- ==== Sys2Proof/Machine/MeshNet.lean ====
section
/-! DEFINITION. The mesh network layer (R284–R299): schedules, DAOs and departures, DIOs, management messages, 6LoWPAN reassembly,
node and cluster key renewal. -/

namespace Sys2Proof.Machine

open Sys2Proof

/-! ### Schedules (R292–R294) -/

/-- A cell of a SCHEDULE: offset, CHOFF, options ([0] TX, [1] RX). -/
abbrev SchedCell := Nat × Nat × Nat

/-- Insertion by ascending offset. -/
def insertCell (c : SchedCell) : List SchedCell → List SchedCell
  | [] => [c]
  | d :: r => if c.1 < d.1 then c :: d :: r else d :: insertCell c r

/-- Offsets at which a node of depth `n.depth` has the frames it originates sent by the hop at depth `k` (R293). -/
def State.hopSlots (s : State) (n : Node) (k : Nat) : List Nat :=
  (List.range n.upCells).map fun j => n.upOfs + j * (s.sfLen / max 1 n.upCells) - (k - 1)

/-- Cells of a joined node's SCHEDULE in ascending offset (R294). -/
def State.schedCells (s : State) (i : Nat) : List SchedCell :=
  match s.node? i with
  | none => []
  | some n =>
    if !n.joined || n.legacy then []
    else
      let k := n.depth
      let own := (s.hopSlots n k).map fun o => (o, n.upChoff, 1)
      let kids := s.below i
      let relay := kids.flatMap fun j => match s.node? j with
        | some m => (s.hopSlots m (k + 1)).map (fun o => (o, m.upChoff, 2)) ++ (s.hopSlots m k).map (fun o => (o, m.upChoff, 1))
        | none => []
      let down := (n.dnOfs + k - 1, n.dnChoff, 2) :: (if kids.isEmpty then [] else [(n.dnOfs + k, n.dnChoff, 1)])
      (own ++ relay ++ down).foldl (fun acc c => insertCell c acc) []

/-- The SCHEDULE message of a node (R291). -/
def State.schedBytes (s : State) (i : Nat) (n : Node) : List Byte :=
  let cells := s.schedCells i
  let seq := match s.cluster? n.cluster with | some c => c.seq | none => 0
  leBytes 1 0x02 ++ leBytes 1 cells.length ++ leBytes 2 n.schedVer ++ leBytes 1 (s.get MSH_SF_LEN_LOG2_SF) ++
  leBytes 1 s.maxDepth ++ leBytes 1 n.depth ++ leBytes 1 seq ++ leBytes 4 0 ++
  cells.flatMap fun c => leBytes 2 c.1 ++ leBytes 1 c.2.1 ++ leBytes 1 c.2.2 ++ leBytes 1 1 ++ leBytes 3 0

/-- A SCHEDULE is sent to a node; `changed` raises SCHED_VER (R294). -/
def State.sendSched (s : State) (i : Nat) (changed : Bool) : State :=
  let s := s.modNode i fun n => if changed then { n with schedVer := (n.schedVer + 1) % 65536, schedOk := false } else n
  match s.node? i with
  | some n => (s.meshSend i (.message (s.schedBytes i n))).count MSH_SCHED_SENT 1
  | none => s

/-- After a change, every joined node whose cells differ from those in `old` is sent its SCHEDULE, in ascending index. -/
def State.sendChanged (s : State) (old : List (Nat × List SchedCell)) : State :=
  (s.msh.nodes.map (·.1)).foldl (fun s' i =>
    match s.node? i with
    | some n =>
      if n.joined && !n.legacy && (match old.find? fun x => x.1 == i with | some x => x.2 != s.schedCells i | none => true) then
        s'.sendSched i true
      else s'
    | none => s') s

/-- The cells of every joined node now. -/
def State.allSched (s : State) : List (Nat × List SchedCell) :=
  (s.msh.nodes.filter fun x => x.2.joined).map fun x => (x.1, s.schedCells x.1)

/-- The scan of R293 from offset `t`: the first R and CHOFF whose cells are free. -/
def scanUp (taken : List (Nat × Nat)) (m d l p ups : Nat) : Nat → Nat → Option (Nat × Nat)
  | 0, _ => none
  | fuel + 1, t =>
    if t % 16 < m + d - 1 then scanUp taken m d l p ups fuel (t + 1)
    else
      match (List.range l).find? fun ch => (List.range ups).all fun j => (List.range d).all fun h =>
          !taken.contains (t + j * p - h, ch) with
      | some ch => some (t, ch)
      | none => scanUp taken m d l p ups fuel (t + 1)

/-- Downlink columns taken on a sequence: D and CHOFF of its depth-1 nodes. -/
def State.takenDown (s : State) (q : Nat) : List (Nat × Nat) :=
  (s.msh.nodes.filter fun x => x.2.joined && !x.2.legacy && x.2.depth == 1 &&
    (match s.cluster? x.2.cluster with | some c => c.seq == q | none => false)).map fun x => (x.2.dnOfs, x.2.dnChoff)

/-- The lowest odd block, then the lowest CHOFF, whose column is free (R293). -/
def scanDown (taken : List (Nat × Nat)) (l : Nat) : Nat → Nat → Option (Nat × Nat)
  | 0, _ => none
  | fuel + 1, b =>
    match (List.range l).find? fun ch => !taken.contains (16 * b, ch) with
    | some ch => some (16 * b, ch)
    | none => scanDown taken l fuel (b + 2)

/-- The node above, where there is one. -/
def State.nodeAbove (s : State) : Option Nat → Option Node
  | some p => s.node? p
  | none => none

/-- The depth of a node under another, or under the border router. -/
def depthUnder : Option Node → Nat
  | some p => p.depth + 1
  | none => 1

/-- The downward cell of a node: its parent's, or a column of its own where its parent is the border router (R287). -/
def State.downCell (s : State) (c l : Nat) : Option Node → Option (Nat × Nat)
  | some p => some (p.dnOfs, p.dnChoff)
  | none => scanDown (s.takenDown c) l (s.sfLen / 32) 1

/-- Give node `i`, whose PARENT is set, its depth, uplink chain and downlink column; none where nothing is free (R293). A
LEGACY node needs no cells. -/
def State.assignCells (s : State) (i : Nat) : Option State :=
  match s.node? i with
  | none => none
  | some n =>
    match s.cluster? n.cluster with
    | none => none
    | some c =>
      let up := s.nodeAbove n.parent
      let d := depthUnder up
      if n.legacy then some (s.setNode i { n with st := 2, depth := d })
      else
        let l := s.hopLen c.seq
        let p := s.sfLen / max 1 n.upCells
        match scanUp (s.takenUp c.seq) s.maxDepth d l p n.upCells p 0 with
        | none => none
        | some (r, ch) =>
          match s.downCell c.seq l up with
          | none => none
          | some (dn, dch) =>
            some (s.setNode i { n with st := 2, depth := d, upOfs := r, upChoff := ch, dnOfs := dn, dnChoff := dch })

/-! ### Departure (R288) -/

/-- A node leaves its place in the network: its cells are free. -/
def Node.depart (n : Node) : Node :=
  { n with st := 3, depth := 0, upOfs := 0, upChoff := 0, dnOfs := 0, dnChoff := 0, desc := 0, schedOk := false }

/-- DESC of every node follows the paths. -/
def State.showDesc (s : State) : State :=
  s.setMsh { s.msh with nodes := s.msh.nodes.map fun x => (x.1, { x.2 with desc := min 255 (s.below x.1).length }) }

/-- One node departs with a cause. -/
def State.departOne (s : State) (i cause : Nat) : State :=
  ((s.modNode i Node.depart).record EV_NODE_DEPARTED 0 i cause 0).nodeOut i 2 0 cause

/-- A node departs, and every descendant with cause 4; the SCHEDULEs that change are sent. -/
def State.departNode (s : State) (i cause : Nat) : State :=
  let old := s.allSched
  let kids := s.below i
  let s := kids.foldl (fun s k => s.departOne k 4) (s.departOne i cause)
  (s.showDesc.sendChanged old).showMesh

/-- PATH_EXPIRY (R288): nodes whose path lifetime has passed depart. -/
def execPathExpiry (s : State) : Host.Outcome State Fault Refusal :=
  .next (if !s.serving then s else
    let due := (s.msh.nodes.filter fun x => x.2.joined && decide (x.2.pathExpiry < s.sn)).map (·.1)
    due.foldl (fun s i => match s.node? i with
      | some n => if n.joined then s.departNode i 2 else s
      | none => s) s)

/-! ### DAOs (R287, R288) -/

/-- Lollipop order of RFC 6550: `new` is newer than `old`. -/
def lollipopNewer (new old : Nat) : Bool :=
  if 127 < old ∧ new ≤ 127 then decide (256 + new - old ≤ 16)
  else if 127 < new ∧ old ≤ 127 then decide (16 < 256 + old - new)
  else if new ≤ 127 then decide (1 ≤ (new + 128 - old) % 128) && decide ((new + 128 - old) % 128 ≤ 16)
  else decide (old < new) && decide (new - old ≤ 16)

/-- Cells that a relay would list, at most 128. -/
def State.relaysOk (s : State) (i : Nat) : Bool := (s.chainUp 9 i).all fun k => decide ((s.schedCells k).length ≤ 128)

/-- The parent that a DAO names: the border router, a node by its EUI-64, or none known. -/
def State.namedParent (s : State) : Option Nat → Option (Option Nat)
  | none => some none
  | some e => (s.nodeOfEui e).map some

/-- A parent under which no node may stand: one that is not joined, or of another cluster. -/
def parentBad (cluster : Nat) : Option Node → Bool
  | some m => !m.joined || m.cluster != cluster
  | none => false

/-- The parent is the node itself or stands below it. -/
def State.loops (s : State) (i : Nat) : Option Nat → Bool
  | some k => k == i || (s.below i).contains k
  | none => false

/-- The state with a node's path taken, or the DAO-ACK status that rejects it (R288). -/
def State.takePath (s : State) (i : Nat) (n : Node) (parent : Option Nat) : Except Nat State :=
  match s.namedParent parent with
  | none => .error 132
  | some pi =>
    if s.loops i pi then .error 133
    else if parentBad n.cluster (s.nodeAbove pi) then .error 132
    else if s.maxDepth < depthUnder (s.nodeAbove pi) then .error 130
    else
      match (s.setNode i { n with st := 3, parent := pi, depth := 0 }).assignCells i with
      | none => .error 131
      | some s1 => if s1.relaysOk i then .ok s1 else .error 131

/-- After a node's path has changed, its descendants follow in order of depth and index: one that no longer fits departs with
cause 4. -/
def State.refitBelow (s : State) (kids : List Nat) : State :=
  kids.foldl (fun s k =>
    match s.node? k with
    | none => s
    | some n =>
      let up := match n.parent with | some p => s.node? p | none => none
      match up with
      | none => s
      | some p =>
        if !p.joined || decide (s.maxDepth < p.depth + 1) then s.departOne k 4
        else if n.depth = p.depth + 1 then s.setNode k { n with dnOfs := p.dnOfs, dnChoff := p.dnChoff }
        else
          match (s.setNode k { n with st := 3, depth := 0 }).assignCells k with
          | some s' => s'
          | none => s.departOne k 4) s

/-- Nodes by depth, then index. -/
def State.byDepth (s : State) (l : List Nat) : List Nat :=
  (List.range 9).flatMap fun d => l.filter fun i => match s.node? i with | some n => n.depth == d | none => false

/-- A DAO of node `i` that arrived in stroke `a` (R288). -/
def State.dao (s : State) (i a seq lifetime : Nat) (parent : Option Nat) : State :=
  match s.node? i with
  | none => s
  | some n =>
    if (s.cluster? n.cluster).isNone || (n.daoSeen && !lollipopNewer seq n.daoSeq) then s
    else if lifetime = 0 then
      let s := (s.setNode i { n with daoSeq := seq, daoSeen := true }).count MSH_DAO_RX 1
      let s := s.meshSend i (.daoAck seq 0)
      if n.joined then s.departNode i 1 else s
    else
      let old := s.allSched
      let kids := s.byDepth (s.below i)
      match s.takePath i n parent with
      | .error st =>
        let pidx := match parent with | none => 0xFFFFFFFF | some e => (s.nodeOfEui e).getD (Config.freeNat s.free)
        let s := ((s.drawn.count MSH_DAO_REJECT 1).record EV_DAO_REJECTED 0 i st pidx).nodeOut i 3 n.depth st
        s.meshSend i (.daoAck seq st)
      | .ok s1 =>
        let exp := a + lifetime * s.get MSH_PATH_LIFE_UNIT * 4000
        let s1 := (s1.modNode i fun m => { m with daoSeq := seq, daoSeen := true, pathExpiry := exp }).refitBelow kids
        let s1 := s1.showDesc.count MSH_DAO_RX 1
        let depth := match s1.node? i with | some m => m.depth | none => 0
        let s1 := if n.joined then s1 else (s1.record EV_NODE_JOINED 0 i depth n.cluster).nodeOut i 1 depth 0
        ((s1.meshSend i (.daoAck seq 0)).sendChanged old).showMesh

/-- A DAO. -/
def MeshUp.isDao : MeshUp → Bool
  | .dao _ _ _ => true
  | _ => false

/-- A fragment. -/
def MeshUp.isFragment : MeshUp → Bool
  | .fragment _ _ _ _ => true
  | _ => false

/-- A message of a TYPE to a UDP port of ::1 (R291, R304). -/
def MeshUp.isMessage (port typ : Nat) : MeshUp → Bool
  | .message p m => p == port && leAt m 0 1 == typ
  | _ => false

/-- Take the oldest inbox item of a kind. -/
def State.takeItem (s : State) (p : MeshUp → Bool) : Option (State × MeshItem) :=
  match s.msh.inbox.find? fun x => p x.body with
  | some x => some (s.setMsh { s.msh with inbox := s.msh.inbox.erase x }, x)
  | none => none

/-- DAO_RX (R288): the oldest DAO delivered. -/
def execDaoRx (s : State) : Host.Outcome State Fault Refusal :=
  .next (if !s.serving then s else match s.takeItem MeshUp.isDao with
    | some (s, x) => match x.body with
      | .dao seq life parent => s.dao x.node x.arrival seq life parent
      | _ => s
    | none => s)

/-- DIS_RX (R287): answered with a unicast DIO. -/
def execDisRx (s : State) : Host.Outcome State Fault Refusal :=
  .next (if !s.serving then s else match s.takeItem fun b => b == .dis with
    | some (s, x) => match s.node? x.node with
      | some n => match s.cluster? n.cluster with
        | some c => s.meshSend x.node (.dio c.version)
        | none => s
      | none => s
    | none => s)

/-- Strokes of a cluster's Trickle interval: Imin = 2^DIO_IMIN ms, doubled (R287). -/
def State.trickleLen (s : State) (c : Cluster) : Nat := 4 * 2 ^ (s.get MSH_NET_CFG_DIO_IMIN + c.doublings)

/-- DIO_TRICKLE (R287, R295): the cluster's Trickle timer fires, in the second half of its interval (RFC 6550); a DIO is due in a shared
cell and the next interval is doubled, up to DIO_DOUBLINGS. -/
def execDioTrickle (cluster : Nat) (s : State) : Host.Outcome State Fault Refusal :=
  .next (match s.cluster? cluster with
    | none => s
    | some c =>
      if s.meshRuns && decide (c.dioFrom + s.trickleLen c / 2 ≤ s.sn) then
        s.modCluster cluster fun c =>
          { c with dioDue := true, dioFrom := c.dioFrom + s.trickleLen c,
                   doublings := min (s.get MSH_NET_CFG_DIO_DOUBLINGS) (c.doublings + 1) }
      else s)

/-! ### Keys (R296–R298) -/

/-- Generation after g: 255 wraps to 1 (R296). -/
def nextGen (g : Nat) : Nat := if 255 ≤ g then 1 else g + 1

/-- A REKEY for the node is queued already. -/
def State.rekeyQueued (s : State) (i kind : Nat) : Bool :=
  s.msh.queue.any fun q => q.dst == i && match q.body with
    | .message b => leAt b 0 1 == 0x03 && leAt b 1 1 == kind
    | _ => false

/-- The REKEY message (R291): KIND, generation, SWITCH_ASN and the key wrapped under the node key in force. -/
def State.rekeyBytes (s : State) (n : Node) (kind gen switch : Nat) (key : List Byte) : List Byte :=
  leBytes 1 0x03 ++ leBytes 1 kind ++ leBytes 1 gen ++ leBytes 1 0 ++ leBytes 8 switch ++
  slice (Config.aesWrap (s.nodeKey n.eui n.keyGen n.keySlot) key) 0 24 ++ leBytes 4 0

/-- REKEY of a node key is sent to its node, once at a time. -/
def State.sendNodeRekey (s : State) (i : Nat) : State :=
  match s.node? i with
  | none => s
  | some n =>
    if n.keyNext = 0 || s.rekeyQueued i 0 || !s.keyLive 5 i n.keyGen n.keySlot then s
    else s.meshSend i (.message (s.rekeyBytes n 0 n.keyNext 0 (s.nodeKey n.eui n.keyNext n.keyNextSlot)))

/-- A node key renewal starts (R296). -/
def State.startRenewal (s : State) (i : Nat) : State :=
  (s.modNode i fun n => { n with keyNext := nextGen n.keyGen, keyNextSlot := s.newestSlot, rekeyPending := true,
                                 renewMark := false }).sendNodeRekey i

/-- The generation of a cluster key that its nodes are to hold, its slot and SWITCH_ASN, where it came by a renewal (R297). -/
def Cluster.renewing (c : Cluster) : Option (Nat × Nat × Nat) :=
  match c.keyNext with
  | some x => some x
  | none => c.renewed.map fun a => (c.keyGen, c.keySlot, a)

/-- REKEY of a cluster key is sent to a joined node that has not confirmed it (R297). -/
def State.sendClusterRekey (s : State) (i : Nat) : State :=
  match s.node? i with
  | none => s
  | some n =>
    match (s.cluster? n.cluster).bind Cluster.renewing with
    | none => s
    | some (g, slot, asn) =>
      if !n.joined || n.ckeyGen = g || s.rekeyQueued i 1 || !s.keyLive 5 i n.keyGen n.keySlot then s
      else s.meshSend i (.message (s.rekeyBytes n 1 g asn (s.clusterKey n.cluster g slot)))

/-- REKEY_ACK (R297): a node confirms a generation. -/
def execRekeyAck (s : State) : Host.Outcome State Fault Refusal :=
  .next (if !s.serving then s else match s.takeItem (MeshUp.isMessage 0xF0B2 0x04) with
    | some (s, x) => match x.body with
      | .message _ m =>
        if leAt m 1 1 = 1 then
          s.modNode x.node fun n =>
            match (s.cluster? n.cluster).bind Cluster.renewing with
            | some (g, _, _) => if leAt m 2 1 = g then { n with ckeyGen := g } else n
            | none => n
        else s
      | _ => s
    | none => s)

/-- CLUSTER_KEY_SWITCH (R297): clusters whose SWITCH_ASN is reached use the new generation. -/
def execClusterKeySwitch (s : State) : Host.Outcome State Fault Refusal :=
  .next (if !s.serving then s else
    if !s.asnValid then s
    else s.msh.clusters.foldl (fun s x =>
      match x.2.keyNext with
      | some (g, slot, at') =>
        if s.asn < at' then s
        else
          (s.modCluster x.1 fun c => { c with keyGen := g, keySlot := slot, keyNext := none, renewed := some at' }).record
            EV_REKEY_DONE 0 (0x80000000 + x.1) g 0
      | none => s) s)

/-! ### Management messages (R291, R299) -/

/-- A message of right length and known TYPE, from a node to the device (R291, R304). -/
def messageOk (port : Nat) (m : List Byte) : Bool :=
  match port, leAt m 0 1 with
  | 0xF0B2, 0x01 => m.length == 16
  | 0xF0B2, 0x04 => m.length == 4
  | 0xF0B2, 0x05 => decide (1 ≤ leAt m 1 1) && decide (leAt m 1 1 ≤ 8) && m.length == 4 + 4 * leAt m 1 1
  | 0xF0B3, 0x11 => m.length == 16
  | _, _ => false

/-- Node `i` joins the targets of running campaigns whose image its firmware is below (R299). -/
def State.addTarget (s : State) (i : Nat) (n : Node) : State :=
  s.setMsh { s.msh with campaigns := s.msh.campaigns.map fun c =>
    let older := match s.msh.images.find? fun m => m.id == c.image with
      | some m => m.hwClass == n.hwClass && decide (n.fwVersion < m.fwVersion)
      | none => false
    if c.running && older && (c.clusters.any fun k => k.cluster == n.cluster && !k.ended) && !c.targets.contains i then
      { c with targets := c.targets ++ [i] }
    else c }

/-- NODE_STATUS (R291, R299): the entry's FW_VERSION and HW_CLASS are set; another SCHED_VER clears SCHED_OK and the SCHEDULE is
resent; older firmware makes the node a target. -/
def execNodeStatus (s : State) : Host.Outcome State Fault Refusal :=
  .next (if !s.serving then s else match s.takeItem (MeshUp.isMessage 0xF0B2 0x01) with
    | some (s, x) => match x.body, s.node? x.node with
      | .message _ m, some n =>
        let v := leAt m 2 2
        let n : Node := { n with fwVersion := leAt m 4 4, hwClass := leAt m 8 4, schedOk := n.joined && v == n.schedVer }
        let s := s.setNode x.node n
        let s := if n.joined && v != n.schedVer then (s.record EV_SCHED_STALE 0 x.node v n.schedVer).sendSched x.node false else s
        s.addTarget x.node n
      | _, _ => s
    | none => s)

/-- VALUES (R291): the node's values and their SN are replaced, and the host is told (R307). -/
def execValues (s : State) : Host.Outcome State Fault Refusal :=
  .next (if !s.serving then s else match s.takeItem (MeshUp.isMessage 0xF0B2 0x05) with
    | some (s, x) => match x.body with
      | .message _ m =>
        let vs := (List.range (leAt m 1 1)).map fun i => leAt m (4 + 4 * i) 4
        let s := s.modNode x.node fun n => { n with values := vs, valuesSn := x.arrival }
        s.meshItem 0x5010 x.node (leBytes 4 x.node ++ leBytes 1 vs.length ++ leBytes 3 0 ++ leBytes 8 x.arrival ++
          slice (vs.flatMap (leBytes 4)) 0 32)
      | _ => s
    | none => s)

/-! ### Delivery and reassembly (R289, R290) -/

/-- A packet or message of a node reaches the network layer. -/
def State.meshUp (s : State) (x : MeshItem) : State :=
  match x.body with
  | .message p m =>
    if messageOk p m then s.setMsh { s.msh with inbox := s.msh.inbox ++ [x] } else s.count MSH_MSG_DROP 1
  | .packet b => s.ingressPacket (24 + s.get (MSH_CHAN_PORT x.chan)) b
  | .unsupported => s.count MSH_REASM_DROP 1
  | .dataRequest => s
  | .empty => s
  | _ => s.setMsh { s.msh with inbox := s.msh.inbox ++ [x] }

/-- A reassembled datagram: a UDP message to port 0xF0B2 or 0xF0B3 of ::1, or a packet for elsewhere. -/
def State.datagram (s : State) (x : MeshItem) (b : List Byte) : State :=
  if beAt b 6 1 = 17 && s.ownAddress (dstOf b) then s.meshUp { x with body := .message (beAt b 42 2) (b.drop 48) }
  else s.meshUp { x with body := .packet b }

/-- Fragments in ascending offset cover the datagram. -/
def fragsCover (size : Nat) : Nat → List (Nat × List Byte) → Bool
  | o, [] => o == size
  | o, (p, b) :: r => p == o && fragsCover size (o + b.length) r

/-- Insertion by offset; a repeated offset is not inserted again. -/
def insertFrag (f : Nat × List Byte) : List (Nat × List Byte) → List (Nat × List Byte)
  | [] => [f]
  | g :: r => if f.1 < g.1 then f :: g :: r else if f.1 = g.1 then g :: r else g :: insertFrag f r

/-- A fragment with no room: counted, and recorded once per 4,000 strokes (R290). -/
def State.reasmFull (s : State) : State :=
  let s := (s.count MSH_REASM_DROP 1).setMsh { s.msh with reasmCount := s.msh.reasmCount + 1 }
  if (match s.msh.reasmSn with | some x => decide (s.sn < x + 4000) | none => false) then s
  else (s.setMsh { s.msh with reasmSn := some s.sn, reasmCount := 0 }).record EV_REASM_FULL 0 s.msh.reasmCount 0 0

/-- FRAGMENT_RX (R290): the oldest fragment delivered is reassembled. -/
def execFragmentRx (s : State) : Host.Outcome State Fault Refusal :=
  .next (if !s.serving then s else match s.takeItem MeshUp.isFragment with
    | some (s, x) => match x.body with
      | .fragment tag size ofs b =>
        if 1280 < size then s.count MSH_REASM_DROP 1
        else
          let mine (r : MeshReasm) : Bool := r.node == x.node && r.tag == tag && r.size == size
          match s.msh.reasm.find? mine with
          | none =>
            if 1024 ≤ s.msh.reasm.length then s.reasmFull
            else if b.length = size && ofs = 0 then s.datagram x b
            else s.setMsh { s.msh with reasm := s.msh.reasm ++ [⟨x.node, tag, size, [(ofs, b)], x.arrival⟩] }
          | some r =>
            let fr := insertFrag (ofs, b) r.frags
            if fragsCover size 0 fr then
              (s.setMsh { s.msh with reasm := s.msh.reasm.erase r }).datagram x (fr.flatMap (·.2))
            else s.setMsh { s.msh with reasm := s.msh.reasm.map fun y => if mine y then { y with frags := fr } else y }
      | _ => s
    | none => s)

/-- REASSEMBLY_TIMEOUT (R290): reassemblies older than MSH_REASM_S are dropped and counted. -/
def execReassemblyTimeout (s : State) : Host.Outcome State Fault Refusal :=
  .next (if !s.serving then s else
    let old (r : MeshReasm) : Bool := decide (r.firstSn + 4000 * max 1 (s.get MSH_REASM_S_S) ≤ s.sn)
    let n := (s.msh.reasm.filter old).length
    (s.setMsh { s.msh with reasm := s.msh.reasm.filter fun r => !old r }).count MSH_REASM_DROP n)

/-- Node of an IPv6 destination in a cluster: its interface identifier with the universal/local bit inverted (R25). -/
def State.nodeOfAddr (s : State) (cluster : Nat) (a : List Byte) : Option Nat :=
  let eui := Nat.xor (beAt a 8 8) (2 ^ 57)
  match s.nodeOfEui eui with
  | some i => match s.node? i with
    | some n => if n.cluster = cluster then some i else none
    | none => none
  | none => none

/-- MESH_DOWNLINK_PACKET (R289): the oldest packet that the engine routed to the mesh is sent to its node, source-routed. One for
no node of its cluster is dropped. -/
def execMeshDownlinkPacket (s : State) : Host.Outcome State Fault Refusal :=
  .next (if !s.serving then s else match s.msh.toMesh with
    | [] => s
    | (c, pkt) :: r =>
      let s := s.setMsh { s.msh with toMesh := r }
      match s.nodeOfAddr c (dstOf pkt) with
      | some i => s.meshSend i (.packet pkt)
      | none => s)

end Sys2Proof.Machine
end

