-- ==== Sys2Proof/Machine/Update.lean ====
section
/-! DEFINITION. The update pump (R300–R304) and the UPDATE ring commands (R308). -/

namespace Sys2Proof.Machine

open Sys2Proof

/-! ### Symbols (R301) -/

/-- next(x) of R301. -/
def xorshift (x : Nat) : Nat :=
  let x := Nat.xor x (x * 2 ^ 13 % 2 ^ 32)
  let x := Nat.xor x (x / 2 ^ 17)
  Nat.xor x (x * 2 ^ 5 % 2 ^ 32)

/-- Degree of a symbol from 16 random bits. -/
def symbolDegree (r : Nat) : Nat :=
  if r < 3277 then 1 else if r < 32768 then 2 else if r < 45875 then 3 else if r < 55705 then 4
  else if r < 62259 then 8 else 16

/-- Draw distinct blocks until `d` are chosen. The generator's period bounds the draws; the fuel is far above what 16 of them
take. -/
def drawBlocks (d k : Nat) : Nat → Nat → List Nat → List Nat
  | 0, _, acc => acc
  | fuel + 1, x, acc =>
    if d ≤ acc.length then acc
    else
      let x := xorshift x
      drawBlocks d k fuel x (if acc.contains (x % k) then acc else acc ++ [x % k])

/-- set(id, esi, k) of R301. -/
def symbolSet (id esi k : Nat) : List Nat :=
  if esi < k then [esi]
  else
    let x := Nat.xor (Nat.xor (id * 0x9e3779b1 % 2 ^ 32) (esi * 0x85ebca77 % 2 ^ 32)) 0xc2b2ae3d
    let x := xorshift (if x = 0 then 1 else x)
    drawBlocks (min k (symbolDegree (x / 2 ^ 16))) k 65536 x []

/-- Block i of an image, padded with zeros. -/
def Image.block (m : Image) (i : Nat) : List Byte := slice m.body (i * m.blk) m.blk

/-- The encoding symbol of an ESI. -/
def Image.symbol (m : Image) (esi : Nat) : List Byte :=
  (symbolSet m.id esi m.nblk).foldl (fun acc i => acc.zipWith (fun a b => a ^^^ b) (m.block i)) (List.replicate m.blk 0)

/-- The UPDATE_BLOCK message (R302). -/
def Image.message (m : Image) (round campaign esi : Nat) : List Byte :=
  leBytes 1 0x10 ++ leBytes 1 round ++ leBytes 2 m.id ++ leBytes 2 campaign ++ leBytes 2 0 ++ leBytes 4 esi ++
  (if esi = 0xFFFFFFFE then slice m.header 0 64 else if esi = 0xFFFFFFFF then slice m.header 64 64 else m.symbol esi)

/-! ### Rounds (R303) -/

/-- Clusters of running campaigns on a hopping sequence whose update has not ended, ascending. -/
def State.updClusters (s : State) (q : Nat) : List Nat :=
  let mine := s.msh.campaigns.flatMap fun c => if c.running then (c.clusters.filter fun k => !k.ended).map (·.cluster) else []
  ((s.msh.clusters.filter fun x => x.2.enabled && x.2.seq == q).map (·.1)).filter fun c => mine.contains c

/-- The message a cluster sends next, and its progress: a header pair first, then in place of every HDR_EVERY-th message, in the
report gap, and in place of a symbol not ready; else the next symbol. -/
def CampCluster.advance (k : CampCluster) (every asn : Nat) (ready : Bool) : CampCluster × Nat :=
  let close (k : CampCluster) : CampCluster :=
    if k.left = 0 && k.hdr = 0 && k.gap.isNone then { k with gap := some asn } else k
  if k.hdr = 1 then (close { k with hdr := 0 }, 0xFFFFFFFF)
  else if k.hdr = 2 then ({ k with hdr := 1 }, 0xFFFFFFFE)
  else if k.gap.isSome || k.left = 0 || !ready then ({ k with hdr := 1 }, 0xFFFFFFFE)
  else if (k.msgs + 1) % max 1 every = 0 then ({ k with hdr := 1, msgs := k.msgs + 1 }, 0xFFFFFFFE)
  else (close { k with left := k.left - 1, nextEsi := k.nextEsi + 1, msgs := k.msgs + 1 }, k.nextEsi)

/-- The next update message of a cluster. -/
def State.nextUpdate (s : State) (c : Nat) (ready : Bool) : State × List Byte :=
  match s.msh.campaigns.find? fun x => x.running && x.clusters.any fun k => k.cluster == c && !k.ended with
  | none => (s, [])
  | some x =>
    match x.clusters.find? fun k => k.cluster == c, s.msh.images.find? fun m => m.id == x.image with
    | some k, some m =>
      let (k', esi) := k.advance (s.get MSH_UPD_CFG_HDR_EVERY) s.asn ready
      let x' : Campaign := { x with clusters := x.clusters.map fun y => if y.cluster = c then k' else y }
      (s.setMsh { s.msh with campaigns := s.msh.campaigns.map fun y => if y.id = x.id then x' else y },
       m.message (k.round % 256) x.id esi)
    | _, _ => (s, [])

/-- Targets of a campaign with a report of it in one of the states. -/
def State.reported (s : State) (x : Campaign) (states : List Nat) : List Nat :=
  x.targets.filter fun i => match s.node? i with
    | some n => n.updCampaign == x.id && states.contains n.updState
    | none => false

/-- Targets of a campaign in a cluster. -/
def State.targetsIn (s : State) (x : Campaign) (c : Nat) : List Nat :=
  x.targets.filter fun i => match s.node? i with | some n => n.cluster == c | none => false

/-- Every target of the cluster has reported STATE 1, 3 or 4. -/
def State.clusterDone (s : State) (x : Campaign) (c : Nat) : Bool :=
  (s.targetsIn x c).all fun i => (s.reported x [1, 3, 4]).contains i

/-- n_r of R303. -/
def State.roundSize (s : State) (x : Campaign) (c : Nat) : Nat :=
  let m := ((s.targetsIn x c).filter fun i => (s.reported x [0]).contains i).foldl (fun m i =>
    match s.node? i with | some n => max m n.updMissing | none => m) 0
  (m * x.factor + 15) / 16 + x.minimum

/-- A campaign ends with its last cluster. -/
def State.closeCampaign (s : State) (id : Nat) : State :=
  match s.msh.campaigns.find? fun x => x.id == id with
  | none => s
  | some x =>
    if !x.running || !(x.clusters.all fun k => k.ended) then s
    else
      let s' := s.setMsh { s.msh with campaigns := s.msh.campaigns.map fun y => if y.id = id then { y with running := false } else y }
      let done := (s.reported x [1, 4]).length
      (s'.record EV_CAMPAIGN_END 0 id done (x.targets.length - done)).showMesh

/-- A campaign's clusters changed in place. -/
def State.modCamp (s : State) (id c : Nat) (f : CampCluster → CampCluster) : State :=
  s.setMsh { s.msh with campaigns := s.msh.campaigns.map fun y =>
    if y.id = id then { y with clusters := y.clusters.map fun k => if k.cluster = c then f k else k } else y }

/-- UPDATE_ROUND_END (R303): where the report gap of a cluster's round has lasted a slotframe, its update ends or its next round
is sized. -/
def execUpdateRoundEnd (s : State) : Host.Outcome State Fault Refusal :=
  .next (if !s.serving then s else
    if !s.asnValid then s
    else s.msh.campaigns.foldl (fun s x =>
      if !x.running then s
      else
        let s := x.clusters.foldl (fun s k =>
          match k.gap with
          | none => s
          | some g =>
            if k.ended || decide (s.asn < g + s.sfLen) then s
            else if s.clusterDone x k.cluster || decide (x.maxRounds ≤ k.round) then
              s.modCamp x.id k.cluster fun k => { k with ended := true }
            else
              let n := s.roundSize x k.cluster
              s.modCamp x.id k.cluster fun k => { k with round := k.round + 1, left := n, hdr := 2, gap := none }) s
        s.closeCampaign x.id) s)

/-- UPDATE_STATUS (R304): a node's report is kept in its entry and given to the host (R307); a failed or declined one is recorded;
a cluster whose targets have all reported ends. -/
def execUpdateStatus (s : State) : Host.Outcome State Fault Refusal :=
  .next (if !s.serving then s else match s.takeItem (MeshUp.isMessage 0xF0B3 0x11) with
    | some (s, x) => match x.body with
      | .message _ m =>
        let st := leAt m 6 1
        let camp := leAt m 4 2
        let s := s.modNode x.node fun n => { n with updState := st, updCampaign := camp, updMissing := leAt m 8 4 }
        let s := s.meshItem 0x5012 x.node (leBytes 4 x.node ++ leBytes 2 camp ++ leBytes 1 st ++ leBytes 1 0 ++
          leBytes 4 (leAt m 8 4) ++ leBytes 4 (leAt m 12 4) ++ leBytes 8 x.arrival)
        let s := if st = 2 || st = 3 then s.record EV_UPD_NODE_FAIL 0 x.node camp st else s
        match s.node? x.node, s.msh.campaigns.find? fun y => y.id == camp && y.running with
        | some n, some y =>
          if (y.clusters.any fun k => k.cluster == n.cluster && !k.ended) && s.clusterDone y n.cluster then
            (s.modCamp camp n.cluster fun k => { k with ended := true }).closeCampaign camp
          else s
        | _, _ => s
      | _ => s
    | none => s)

/-! ### UPDATE commands (R308) -/

/-- Cause of BAD_IMAGE, if any: 1 MAGIC or FORMAT; 2 LENGTH, BLK or NBLK; 3 BUF_LEN; 4 HASH. -/
def imageFault (b : List Byte) (len : Nat) : Option Nat :=
  let n := leAt b 16 4
  let blk := leAt b 20 2
  if slice b 0 4 != ascii "GWUP" || leAt b 4 2 != 1 then some 1
  else if n = 0 || decide (8388608 < n) || decide (blk < 16) || decide (1024 < blk) || blk % 16 != 0 ||
    leAt b 24 4 != (n + blk - 1) / blk || decide (32768 < leAt b 24 4) then some 2
  else if len ≠ 128 + n then some 3
  else if Config.sha256 (slice b 128 n) != slice b 32 32 then some 4
  else none

/-- UPD_IMAGE_LOAD. -/
def execUpdImageLoad (d : Desc) (s : State) : Host.Outcome State Fault Refusal :=
  .next (s.command d fun s =>
    let b := d.buf
    match imageFault b d.bufLen with
    | some c => s.fail 0x10 c
    | none =>
      let id := leAt b 6 2
      if id = 0 then s.fail 0x10 1
      else if s.msh.images.any (fun m => m.id == id) then s.fail stCONFLICT id
      else if 4 ≤ s.msh.images.length then s.fail 0x12
      else
        let m : Image := { id := id, hwClass := leAt b 8 4, fwVersion := leAt b 12 4, blk := leAt b 20 2, nblk := leAt b 24 4,
                           header := slice b 0 128, body := slice b 128 (leAt b 16 4) }
        (s.setMsh { s.msh with images := s.msh.images ++ [m] }).showMesh.ok (id + 2 ^ 16 * m.nblk))

/-- UPD_IMAGE_DROP: CAMPAIGN_BUSY while a running campaign uses the image. -/
def execUpdImageDrop (d : Desc) (s : State) : Host.Outcome State Fault Refusal :=
  .next (s.command d fun s =>
    let id := d.op 32 2
    if !(s.msh.images.any fun m => m.id == id) then s.fail 0x11
    else if s.msh.campaigns.any (fun c => c.running && c.image == id) then s.fail 0x13
    else (s.setMsh { s.msh with images := s.msh.images.filter fun m => m.id != id }).showMesh.ok)

/-- Clusters set in the 32-byte mask that are enabled. -/
def State.maskClusters (s : State) (b : List Byte) : List Nat :=
  (List.range 256).filter fun c => bit (leAt b (c / 8) 1) (c % 8) && (s.cluster? c).isSome

/-- PSDU limit of a mesh mode (R137, R312). -/
def psduMax (mode : Nat) : Nat := if mode = 0x01 then 127 else 2047

/-- A channel of the cluster's sequence cannot carry an update message of `n` bytes in the update cell (R302, R262). -/
def State.tooNarrow (s : State) (c n : Nat) : Bool :=
  match s.cluster? c with
  | none => false
  | some k => (List.range (s.hopLen k.seq)).any fun i =>
      let ch := s.get (MSH_HOP_CHAN k.seq i)
      let len := n + Config.updOverhead (s.get MSH_CFG_SEC_LEVEL)
      let mode := s.meshMode ch
      let fits (glr : Nat) : Bool := s.fitsCell ch glr len (s.maxDepth - 1) false
      decide (psduMax mode < len) ||
        !(if mode = 0x30 then fits 0 else if mode = 0x31 then fits 1 else if mode = 0x32 then fits 2 || fits 3 || fits 4 || fits 5
          else fits 0)

/-- Targets of a campaign at its start: joined nodes of its clusters and of the image's class, below its version unless FORCE. -/
def State.firstTargets (s : State) (m : Image) (force : Bool) (cs : List Nat) : List Nat :=
  (s.msh.nodes.filter fun x => x.2.joined && cs.contains x.2.cluster && x.2.hwClass == m.hwClass &&
    (force || decide (x.2.fwVersion < m.fwVersion))).map (·.1)

/-- UPD_CAMPAIGN_START. -/
def execUpdCampaignStart (d : Desc) (s : State) : Host.Outcome State Fault Refusal :=
  .next (s.command d fun s =>
    let cs := s.maskClusters d.buf
    let id := d.op 36 2
    let busy := s.msh.campaigns.any fun c =>
      c.running && (c.image == d.op 32 2 || c.clusters.any fun k => !k.ended && cs.contains k.cluster)
    if s.maxDepth = 1 then s.fail stLOCKED
    else match s.msh.images.find? fun m => m.id == d.op 32 2 with
      | none => s.fail 0x11
      | some m =>
        if s.msh.campaigns.any (fun c => c.id == id) then s.fail stCONFLICT id
        else if busy then s.fail 0x13
        else match cs.find? fun c => s.tooNarrow c (12 + max m.blk 64) with
          | some c => s.fail stREFUSED c
          | none =>
            let ts := s.firstTargets m (bit (d.op 34 1) 0) cs
            let x : Campaign := { id := id, image := m.id, maxRounds := d.op 35 1,
                                  factor := if d.op 38 1 = 0 then 24 else d.op 38 1, minimum := d.op 39 1,
                                  clusters := cs.map fun c => { cluster := c, left := m.nblk }, targets := ts }
            (s.setMsh { s.msh with campaigns := s.msh.campaigns ++ [x] }).showMesh.ok ts.length)

/-- UPD_CAMPAIGN_STOP: a running campaign stops. An unknown one is refused (log entry 47). -/
def execUpdCampaignStop (d : Desc) (s : State) : Host.Outcome State Fault Refusal :=
  .next (s.command d fun s =>
    if !(s.msh.campaigns.any fun c => c.id == d.op 32 2) then s.fail stREFUSED
    else
      let cs := s.msh.campaigns.map fun c => if c.id = d.op 32 2 then { c with running := false } else c
      (s.setMsh { s.msh with campaigns := cs }).showMesh.ok)

/-- UPD_QUERY. -/
def execUpdQuery (d : Desc) (s : State) : Host.Outcome State Fault Refusal :=
  .next (s.command d fun s =>
    match s.msh.campaigns.find? fun c => c.id == d.op 32 2 with
    | none => s.fail stREFUSED
    | some x =>
      let rounds := x.clusters.foldl (fun n k => max n k.round) 0
      let esi := x.clusters.foldl (fun n k => max n k.nextEsi) 0
      s.answer d (leBytes 2 x.id ++ leBytes 2 x.image ++ leBytes 1 (b2n x.running) ++ leBytes 1 rounds ++ leBytes 2 0 ++
        leBytes 4 x.targets.length ++ leBytes 4 (s.reported x [1, 4]).length ++ leBytes 4 (s.reported x [2, 3]).length ++
        leBytes 4 esi ++ leBytes 8 0))

end Sys2Proof.Machine
end

