-- ==== Sys2Proof/Machine/MeshMac.lean ====
section
/-! DEFINITION. The Mesh MAC (R258–R283): timeslots, reception, acknowledgements, transmission, legacy mode, the neighbour
cache. -/

namespace Sys2Proof.Machine

open Sys2Proof

/-! ### Synchronisation (R267) -/

/-- Uncertainty of a neighbour in µs at timeslot `a`. -/
def State.uncertainty (s : State) (n : Nbr) (a : Nat) : Nat :=
  n.ofs.natAbs + (a - n.lastSync) * max 1 (s.get MSH_CFG_DRIFT_PPM) / 100

/-- State that an uncertainty gives. -/
def State.syncOf (s : State) (u : Nat) : NbrSync :=
  if u ≤ s.get MSH_GUARD_GUARD_US then .synced else if u ≤ s.get MSH_WIDE_US_US then .drifted else .lost

/-- A neighbour ages: its state follows its uncertainty, entries are recorded. -/
def State.ageNbr (s : State) (i : Nat) (n : Nbr) : State :=
  if n.legacy then s
  else
    let u := s.uncertainty n s.asn
    let y := s.syncOf u
    if y = n.sync then s
    else
      let s := s.setNbr i { n with sync := y }
      match y with
      | .synced => s
      | .drifted => s.record EV_NBR_DRIFTED 0 n.node u 0
      | .lost => s.record EV_NBR_LOST 0 n.node u 0

/-- An accepted frame or a valid acknowledgement resynchronises a neighbour. -/
def State.resync (s : State) (i : Nat) (ofs : Int) (a : Nat) : State :=
  match s.nbr? i with
  | none => s
  | some n =>
    let s := s.setNbr i { n with ofs := ofs, lastSync := a, sync := .synced, changed := true }
    let s := if n.sync = .lost then s.record EV_NBR_RESYNC 0 n.node (sat32 ofs) (a - n.lastSync) else s
    match s.nbr? i with
    | some n => s.ageNbr i n
    | none => s

/-! ### Attempts (R266) -/

/-- An open value of the mesh has been drawn. -/
def State.meshDrawn (s : State) : State := s.setMsh { s.msh with draws := s.msh.draws + 1 }

/-- A frame leaves the queue; ETX of its neighbour is a value the spec leaves open. -/
def State.noteEtx (s : State) (node : Nat) : State :=
  match s.nbrOf node with
  | some i => (s.modNbr i fun n => { n with etx := Config.meshValue s.msh.draws % 65536 }).meshDrawn
  | none => s

/-- An attempt fails: the same bytes are repeated, at most MAX_RETRIES times; then the frame is dropped and counted. -/
def State.attemptFailed (s : State) (id : Nat) : State :=
  match s.msh.queue.find? fun q => q.id == id with
  | none => s
  | some q =>
    if s.get MSH_CFG_MAX_RETRIES < q.attempts + 1 then
      let s := (s.dropQ id).count MSH_TX_FAIL 1
      let s := match s.nbrOf q.hop with
        | some i => s.modNbr i fun n => { n with txFail := n.txFail + 1, changed := true }
        | none => s
      s.noteEtx q.hop
    else s.modQ id fun q => { q with attempts := q.attempts + 1, waiting := false, nb := 0 }

/-- An attempt is acknowledged (R266): the frame's next fragment follows, or the frame has ended. -/
def State.attemptDone (s : State) (q : MeshQ) : State :=
  let s := s.count MSH_TX_OK 1
  let s := match s.nbrOf q.hop with
    | some k => s.modNbr k fun n => { n with txOk := n.txOk + 1, changed := true }
    | none => s
  let s := s.noteEtx q.hop
  if q.more then s.modQ q.id fun q => { q with sentFrags := q.sentFrags + 1, secured := none, attempts := 0,
                                               waiting := false, more := false, nb := 0 }
  else s.dropQ q.id

/-- A neighbour's valid acknowledgement resynchronises it (R267); a legacy node keeps no timeslots. -/
def State.ackSync (s : State) (hop : Nat) (ofs : Int) (a : Nat) : State :=
  match s.nbrOf hop with
  | none => s
  | some k => match s.nbr? k with
    | some m => if m.legacy then s else s.resync k ofs a
    | none => s

/-- A transmit result of stroke `sn` (R266, R267, R276, R280): all but an acknowledgement are failed attempts. -/
def State.takeResult (s : State) (id : Nat) (r : TxResult) (sn : Nat) : State :=
  match s.msh.queue.find? fun q => q.id == id with
  | none => s
  | some q =>
    let a := (sn - s.asnBase) / 40
    match r with
    | .acked ofs => (s.ackSync q.hop ofs a).attemptDone q
    | .nacked ofs => (s.ackSync q.hop ofs a).attemptFailed id
    | .noAccess => (s.count MSH_TX_CCA_FAIL 1).attemptFailed id
    | _ => s.attemptFailed id

/-- The transmit results of the strokes before are processed, in their order. -/
def State.meshResults (s : State) : State :=
  let due := s.msh.results.filter fun r => decide (r.2.2 < s.sn)
  let s := s.setMsh { s.msh with results := s.msh.results.filter fun r => decide (s.sn ≤ r.2.2) }
  due.foldl (fun s r => s.takeResult r.1 r.2.1 r.2.2) s

/-- A frame of the queue waits for its transmit result, on the unit that sends it. -/
def State.resultDue (s : State) (id : Nat) : Option MeshQ :=
  if !s.authority || (s.msh.results.any fun r => r.1 == id) then none else s.msh.queue.find? fun q => q.id == id && q.waiting

/-! ### Timeslots (R263, R292) -/

/-- Cells of the builder at slotframe offset `o`, in link order. -/
def State.cellsAt (s : State) (a : Nat) : List MeshCell :=
  let o := a % s.sfLen
  let q := o % 16
  (List.range 4).flatMap fun k =>
    let mk (ch span : Nat) (u : CellUse) : MeshCell :=
      { seq := k, choff := ch, chan := s.hopChan k ch a, asn := a, span := span, use := u }
    let inSeq (c : Nat) : Bool := match s.cluster? c with | some x => x.seq == k | none => false
    if o / 16 % 2 = 0 && q = 0 then (List.range (s.hopLen k)).map fun ch => mk ch 1 .shared
    else if o / 16 % 2 = 0 && q = 1 && decide (1 < s.maxDepth) then [mk 0 (s.maxDepth - 1) .update]
    else if o / 16 % 2 = 1 && q = 0 then
      s.msh.nodes.filterMap fun x =>
        if x.2.joined && !x.2.legacy && x.2.depth == 1 && inSeq x.2.cluster && x.2.dnOfs == o then
          some (mk x.2.dnChoff 1 (.down x.1)) else none
    else if s.maxDepth ≤ q then
      s.msh.nodes.filterMap fun x =>
        if x.2.joined && !x.2.legacy && inSeq x.2.cluster &&
           ((List.range x.2.upCells).any fun j => x.2.upOfs + j * (s.sfLen / max 1 x.2.upCells) == o) then
          some (mk x.2.upChoff 1 (.up x.1)) else none
    else []

/-- The cell still runs in timeslot `a`. -/
def MeshCell.runs (c : MeshCell) (a : Nat) : Bool := decide (c.asn ≤ a) && decide (a < c.asn + c.span)

/-- A frame was in reception on a mesh channel's receive channel as the timeslot began. -/
def State.chanBusy (s : State) (c : Nat) : Bool := s.msh.busy.contains c

/-- The device may send in the cell. -/
def MeshCell.sends (c : MeshCell) : Bool := match c.use with | .up _ => false | _ => true

/-- Two cells take one mesh channel, or would send on one transmit channel (R263). -/
def State.clashes (s : State) (c d : MeshCell) : Bool :=
  d.chan == c.chan || (c.sends && d.sends && s.get (MSH_CHAN_PORT c.chan) == s.get (MSH_CHAN_PORT d.chan) &&
    s.get (MSH_CHAN_TXCH c.chan) == s.get (MSH_CHAN_TXCH d.chan))

/-- A cell begins, unless its channel is taken: then it is skipped and counted (R263). -/
def State.openCell (s : State) (c : MeshCell) : State :=
  if (s.msh.cells.any fun d => s.clashes c d && d.runs c.asn) || s.chanBusy c.chan then s.count MSH_CELL_MISSED 1
  else s.setMsh { s.msh with cells := s.msh.cells ++ [c] }

/-- TIMESLOT (R263, R267, R280): at a timeslot's start the MAC takes the transmit results, ages its neighbours and begins its cells. -/
def execTimeslot (s : State) : Host.Outcome State Fault Refusal :=
  .next (if !s.serving then s else s.runWork 0x0F 0 fun s =>
    if !s.meshRuns || (s.sn - s.asnBase) % 40 ≠ 0 then s
    else
      let a := s.asn
      let s := s.meshResults
      let s := s.msh.nbrs.foldl (fun s x => s.ageNbr x.1 x.2) s
      let s := s.setMsh { s.msh with cells := s.msh.cells.filter fun c => decide (a < c.asn + c.span + 40) }
      ((s.cellsAt a).foldl (fun s c => s.openCell c) s).showMesh)

/-! ### The neighbour cache (R277–R279) -/

/-- The entry that a node's admission restores from its node register entry. -/
def nbrFrom (i : Nat) (n : Node) (chan short a : Nat) : Nbr :=
  { node := i, eui := n.eui, short := short, chan := chan, legacy := n.legacy, sleepy := n.sleepy, rxValid := n.rxValid,
    dsnValid := n.dsnValid, rxCtr := n.rxCtr, txCtr := n.txCtr, lastDsn := n.lastDsn, txDsn := n.txDsn, keyGen := n.keyGen,
    lastSync := a, lastHeard := a }

/-- Counters of a neighbour entry are written back to its node. -/
def State.writeBack (s : State) (n : Nbr) : State :=
  s.modNode n.node fun m => { m with rxCtr := n.rxCtr, txCtr := n.txCtr, lastDsn := n.lastDsn, keyGen := n.keyGen,
                                     rxValid := n.rxValid, dsnValid := n.dsnValid, txDsn := n.txDsn }

/-- Eviction order: LOST before DRIFTED before SYNCED, then LAST_HEARD_ASN, then EUI. -/
def Nbr.evictBefore (a b : Nbr) : Bool :=
  let rank (n : Nbr) : Nat := match n.sync with | .lost => 0 | .drifted => 1 | .synced => 2
  decide (rank a < rank b) || (rank a == rank b &&
    (decide (a.lastHeard < b.lastHeard) || (a.lastHeard == b.lastHeard && decide (a.eui < b.eui))))

/-- The entry to evict: the lowest without queued frames. -/
def State.evictee (s : State) : Option (Nat × Nbr) :=
  s.msh.nbrs.foldl (fun best x =>
    if s.msh.queue.any fun q => q.hop == x.2.node then best
    else match best with
      | none => some x
      | some b => if x.2.evictBefore b.2 then some x else some b) none

/-- The lowest free cache index from `i` up. -/
def freeIndex {V : Type} : Nat → Nat → Tab V → Nat
  | 0, i, _ => i
  | fuel + 1, i, t => if (tget t i).isSome then freeIndex fuel (i + 1) t else i

/-- A neighbour is admitted; a full cache evicts an entry first (R278). Answers its cache index. -/
def State.admitNbr (s : State) (n : Nbr) : State × Option Nat :=
  if s.msh.nbrs.length < 16384 then
    let i := freeIndex 16384 0 s.msh.nbrs
    (s.setNbr i n, some i)
  else match s.evictee with
    | none => (s, none)
    | some (i, old) =>
      let s := ((s.writeBack old).count MSH_NBR_EVICT 1).record EV_NBR_EVICTED 0 old.node n.node 0
      (s.setNbr i n, some i)

/-- NBR_WRITEBACK (R278): changed entries are written back. -/
def execNbrWriteback (s : State) : Host.Outcome State Fault Refusal :=
  .next (if !s.serving then s else s.msh.nbrs.foldl (fun s x =>
    if x.2.changed then (s.writeBack x.2).modNbr x.1 fun n => { n with changed := false } else s) s)

/-- A neighbour entry is lost to an uncorrectable error (R279): its node is marked for renewal, TX_CTR of the last write-back
raised by MSH_CTR_SKIP. -/
def State.loseNbr (s : State) (i : Nat) (readable : Bool) : State :=
  match s.nbr? i with
  | none => s
  | some n =>
    let s := (s.setMsh { s.msh with nbrs := tdel s.msh.nbrs i }).record EV_NBR_LOST_ENTRY 0 i (if readable then n.node else 0) 0
    (s.modNode n.node fun m => { m with txCtr := min (2 ^ 32 - 1) (m.txCtr + max 1 (s.num MSH_CTR_SKIP)), renewMark := true }).showMesh

/-! ### Reception (R264, R269, R270) -/

/-- Outcome of rx_check. -/
inductive RxVerdict where
  | deliver | duplicate | replay
  deriving DecidableEq, Repr

/-- rx_check of R270 on an entry. -/
def Nbr.rxCheck (n : Nbr) (ctr dsn : Nat) : Nbr × RxVerdict :=
  if n.rxValid && decide (ctr < n.rxCtr) then ({ n with rxReplay := (n.rxReplay + 1) % 65536 }, .replay)
  else if n.rxValid && ctr == n.rxCtr then
    if n.dsnValid && dsn == n.lastDsn then ({ n with rxDup := (n.rxDup + 1) % 65536 }, .duplicate)
    else ({ n with rxReplay := (n.rxReplay + 1) % 65536 }, .replay)
  else
    let n : Nbr := { n with rxCtr := ctr, rxValid := true, changed := true }
    if n.dsnValid && dsn == n.lastDsn then ({ n with rxDup := (n.rxDup + 1) % 65536 }, .duplicate)
    else ({ n with lastDsn := dsn, dsnValid := true, rxOk := n.rxOk + 1 }, .deliver)

/-- A frame of a stale generation (R269, R298). -/
def State.staleGen (s : State) (i gen : Nat) (n : Node) : State :=
  let s := (s.count MSH_RX_AUTH_FAIL 1).count MSH_STALE_KEY 1
  if gen < n.keyGen && !n.staleSeen.contains gen then
    ((s.modNode i fun m => { m with staleSeen := m.staleSeen ++ [gen] }).record EV_NODE_STALE_KEY 0 i gen n.keyGen).nodeOut i 4
      n.depth gen
  else s

/-- REPLAY_SEEN, at most once per 4,000 strokes for the neighbour; a node without an entry has none to hold it back. -/
def State.noteReplay (s : State) (slot : Option Nat) (n : Nbr) (ctr : Nat) : State :=
  let s := s.count MSH_RX_REPLAY 1
  if (match n.replaySn with | some x => decide (s.sn < x + 4000) | none => false) then s
  else
    let s := match slot with | some i => s.modNbr i fun m => { m with replaySn := some s.sn } | none => s
    s.record EV_REPLAY_SEEN 0 n.node ctr n.rxCtr

/-- The first frame under KEY_GEN_NEXT completes the renewal (R296). -/
def State.keyArrived (s : State) (i nbr gen : Nat) : State :=
  match s.node? i with
  | none => s
  | some n =>
    if n.keyNext = 0 || n.keyNext ≠ gen then s
    else
      let s := s.setNode i { n with keyGen := gen, keySlot := n.keyNextSlot, keyNext := 0, rekeyPending := false }
      let s := s.modNbr nbr fun m => { m with keyGen := gen, changed := true }
      (s.record EV_REKEY_DONE 0 i gen 0).nodeOut i 5 n.depth 0

/-- Security, duplicates and admission of a frame heard on mesh channel `c` in timeslot `a`, arrival stroke `arr` (R269, R270,
R278): the cache index and verdict of a frame that passes its MIC. -/
def State.receive (s : State) (c a arr : Nat) (f : MeshIn) : State × Option (Nat × RxVerdict) :=
  match s.nodeOfEui f.src with
  | none => (s.count MSH_RX_UNKNOWN 1, none)
  | some i =>
    match s.node? i with
    | none => (s, none)
    | some n =>
      let slot := s.nbrOf i
      let s := match slot with | some k => s.modNbr k fun m => { m with lastHeard := a } | none => s
      match n.slotOf f.gen with
      | none => (s.staleGen i f.gen n, none)
      | some keySlot =>
        if !s.keyLive 5 i f.gen keySlot || !f.micOk then ((s.touchKey i f.gen keySlot).count MSH_RX_AUTH_FAIL 1, none)
        else
          let s := s.touchKey i f.gen keySlot
          let old := match slot.bind s.nbr? with | some m => m | none => nbrFrom i n c f.short a
          let (m, v) := old.rxCheck f.ctr f.dsn
          match v with
          | .replay =>
            let s := match slot with | some k => s.setNbr k m | none => s
            (s.noteReplay slot m f.ctr, none)
          | _ =>
            let m : Nbr := { m with chan := c, short := if f.short = 0xFFFF then m.short else f.short,
                                    rssi := Config.meshValue s.msh.draws % 65536 }
            let s := s.meshDrawn
            let (s, at') := match slot with
              | some k => (s.setNbr k m, some k)
              | none => s.admitNbr m
            match at' with
            | none => (s, none)
            | some k =>
              let s := s.count (if v = .deliver then MSH_RX_OK else MSH_RX_DUP) 1
              let s := (s.modNode i fun m => { m with lastHeard := arr }).keyArrived i k f.gen
              (s, some (k, v))

/-- What follows when a node is heard (R279, R296, R297). -/
def State.heard (s : State) (i gen : Nat) : State :=
  match s.node? i with
  | none => s
  | some n =>
    let s := if n.renewMark && n.keyNext = 0 then s.startRenewal i
      else if n.rekeyPending && gen = n.keyGen then s.sendNodeRekey i else s
    s.sendClusterRekey i

/-- Deliver a frame's contents to the network layer as its originator's. -/
def State.deliverUp (s : State) (f : MeshIn) (via c arr : Nat) : State :=
  match s.nodeOfEui f.origin with
  | some o => s.meshUp ⟨o, via, c, arr, f.body⟩
  | none => s.count MSH_RX_UNKNOWN 1

/-- Mesh channel, TSCH (`legacy` false) or LEGACY, of a received frame. -/
def State.meshRx (s : State) (legacy : Bool) (f : RxFrame) : Option Nat :=
  (s.meshChanOf f.port f.ch).filter fun c => s.flag (MSH_CHAN_LEGACY c) == legacy

/-- Run the Mesh MAC on the next frame received on its TSCH or LEGACY channels, and commit its intake job. -/
def State.runMeshRx (s : State) (legacy : Bool) (body : RxFrame → Nat → State → State) : State :=
  s.runIntake (fun p => decide (24 ≤ p) && decide (p < 32)) (fun f => (s.meshRx legacy f).isSome) fun _ f t =>
    match s.meshRx legacy f with
    | some c => body f c t
    | none => t

/-- Nearest microsecond of a time in ns. -/
def nearestUs (v : Int) : Int := (v + 500) / 1000

/-- The bytes of an Enh-Ack (R264), under its node's key of the generation it was built with. -/
def State.ackBytes (s : State) (a : MeshAck) : Option (List Byte) :=
  (s.node? a.node).map fun n =>
    s.meshFrame (17 + s.micLen) (s.nodeKey n.eui a.gen ((n.slotOf a.gen).getD n.keySlot)) a.ctr
      (leBytes 1 a.dsn ++ leBytes 2 (unsigned 16 a.correction) ++ leBytes 1 (b2n a.nack)) []

/-- An Enh-Ack is built for a neighbour (R264), an output of the running job (R365). -/
def State.buildAck (s : State) (k c : Nat) (launch latest glr dsn : Nat) (ofs : Int) (nack : Bool) : State :=
  match s.nbr? k with
  | none => s
  | some n =>
    if !s.meshRuns || decide (ctrEnd ≤ n.txCtr) then s
    else
      let a : MeshAck := { chan := c, node := n.node, launch := launch, latest := latest, glr := glr, dsn := dsn, ctr := n.txCtr,
                           gen := n.keyGen, correction := clampI (-2047) 2047 (-ofs), nack := nack, sn := s.sn }
      let s := (s.setNbr k { n with txCtr := n.txCtr + 1, changed := true }).noteCtr n.node (n.txCtr + 1)
      (s.setMsh { s.msh with acks := s.msh.acks ++ [a] }).handOut ((s.ackBytes a).getD [])

/-- The receive cell of a mesh channel that an arrival instant falls in. -/
def State.rxCell (s : State) (c arr : Nat) : Option MeshCell :=
  s.msh.cells.find? fun x => x.chan == c && decide (s.asnNs x.asn ≤ arr) && decide (arr < s.asnNs x.asn + x.span * 10000000) &&
    (match x.use with | .shared => true | .up _ => true | _ => false)

/-- Half-width in µs of the receive window for a sender in a cell (R261, R267). -/
def State.window (s : State) (x : MeshCell) (src : Nat) : Nat :=
  let wide : Bool := match x.use with
    | .up n => match s.nbrOf (s.hopOf n) with
      | some k => match s.nbr? k with
        | some m => m.eui == src && m.sync != .synced
        | none => false
      | none => false
    | _ => false
  if wide then s.get MSH_WIDE_US_US else s.get MSH_GUARD_GUARD_US

/-- The cell is not the sender's own (R299). -/
def State.foreign (s : State) (x : MeshCell) (i : Nat) : Bool :=
  match x.use with | .up n => s.hopOf n != i | _ => false

/-- MESH_FRAME_RX (R264, R267, R269, R270): the oldest frame received on a TSCH channel, as the lane and the CCM check read it.
Outside every receive window it is not heard. A frame not admitted is answered with NACK and goes no further. -/
def execMeshFrameRx (f : MeshIn) (s : State) : Host.Outcome State Fault Refusal :=
  .next (if !s.serving then s else s.runMeshRx false fun rx c s =>
      let arr := absNs rx.sn rx.ns
      match if s.meshRuns then s.rxCell c arr else none with
      | none => s
      | some x =>
        let off : Int := (arr : Int) - (s.asnNs x.asn : Int) - s.get MSH_TEMPLATE_TX_OFFSET_US * 1000
        if s.window x f.src * 1000 < absI off then s
        else
          let us := nearestUs off
          let launch := arr + f.durNs + s.get MSH_TEMPLATE_ACK_DELAY_US * 1000
          let latest := s.asnNs x.asn + spanEnd x.span
          if rx.cell.isNone then
            match (s.nodeOfEui f.src).bind s.nbrOf with
            | some k => if f.ar then s.buildAck k c launch latest rx.mcs f.dsn us true else s
            | none => s
          else match s.receive c x.asn rx.sn f with
            | (s, none) => s.showMesh
            | (s, some (k, v)) =>
              let i := match s.nbr? k with | some m => m.node | none => 0
              let s := s.resync k us x.asn
              let s := if f.ar then s.buildAck k c launch latest rx.mcs f.dsn us false else s
              let s := s.heard i f.gen
              let s :=
                if s.foreign x i then
                  match s.node? i with
                  | some n => if n.joined then (s.setNode i { n with schedOk := false }).sendSched i false else s
                  | none => s
                else s
              (if v = .deliver then s.deliverUp f i c rx.sn else s).showMesh)

/-- Acknowledgements of the strokes to `n` leave at the release point, at `now` ns since SN 0 (R264, R265); one too late, or ending after its cell's
latest end, is not sent. The pending table is rewritten from the indirect queues (R274). -/
def State.releaseMesh (s : State) (n now : Nat) : State :=
  let acks := s.msh.acks.filter fun a => decide (a.sn ≤ n)
  let s := s.setMsh { s.msh with acks := s.msh.acks.filter fun a => decide (n < a.sn) }
  let s := acks.foldl (fun s a =>
    let port := s.get (MSH_CHAN_PORT a.chan)
    let len := 17 + s.micLen
    let late := s.meshSends && (decide (a.launch < now + s.rampNs port + s.get (RAD_PORT_LAT_TX port)) ||
      decide (a.latest < a.launch + s.meshNs a.chan a.glr len))
    if late then
      let s := (s.count MSH_ACK_LATE 1).setMsh { s.msh with lateCount := s.msh.lateCount + 1 }
      if (match s.msh.lateSn with | some x => decide (s.sn < x + 4000) | none => false) then s
      else (s.setMsh { s.msh with lateSn := some s.sn, lateCount := 0 }).record EV_ACK_LATE 0 a.chan s.msh.lateCount 0
    else match s.ackBytes a with
      | none => s
      | some bytes => s.meshRadio a.chan 0 a.glr a.launch bytes) s
  s.setMsh { s.msh with nbrs := s.msh.nbrs.map fun (i, n) => (i, { n with pending := !(s.indirectOf n.node).isEmpty }) }

/-! ### Transmission (R262, R266) -/

/-- A cluster can broadcast a frame in a cell: its counter and key hold, and the frame fits (R262, R271). -/
def State.casts (s : State) (x : MeshCell) (c glr psdu : Nat) : Bool :=
  match s.cluster? c with
  | none => false
  | some k => decide (k.txCtr < ctrEnd) && s.keyLive 6 c k.keyGen k.keySlot && s.fitsCell x.chan glr psdu x.span false

/-- A broadcast of a cluster in a cell (R271, R297): under the cluster key, counted when sent. -/
def State.broadcast (s : State) (x : MeshCell) (c glr psdu : Nat) (pt : List Byte) : State :=
  match s.cluster? c with
  | none => s
  | some k =>
    if !s.casts x c glr psdu then s
    else
      let s := (s.modCluster c fun k => { k with txCtr := k.txCtr + 1, txDsn := (k.txDsn + 1) % 256 }).noteCtr
        (0x80000000 + c) (k.txCtr + 1)
      let s := s.count MSH_TX_OK 1
      s.meshAir x.chan 0 glr (s.asnNs x.asn + s.get MSH_TEMPLATE_TX_OFFSET_US * 1000) psdu (s.clusterKey c k.keyGen k.keySlot)
        k.txCtr (leBytes 1 k.txDsn ++ leBytes 1 k.keyGen) pt

/-- The next of a list of numbers after the last served, wrapping round. -/
def nextAfter (last : Option Nat) (l : List Nat) : Option Nat :=
  match last with
  | none => l.head?
  | some k => (l.find? fun x => decide (k < x)).orElse fun _ => l.head?

/-- Enabled clusters of a hopping sequence, ascending. -/
def State.clustersOn (s : State) (q : Nat) : List Nat := (s.msh.clusters.filter fun x => x.2.enabled && x.2.seq == q).map (·.1)

/-- The Enhanced Beacon of a shared cell (R295): the next cluster of the sequence in ascending order. -/
def State.sendBeacon (s : State) (x : MeshCell) (glr psdu : Nat) : State :=
  match nextAfter (tget s.msh.ebLast x.seq) (s.clustersOn x.seq) with
  | none => s
  | some c =>
    (s.setMsh { s.msh with ebLast := tput s.msh.ebLast x.seq c }).broadcast x c glr psdu (s.beaconBytes x.seq x.asn)

/-- Cluster of a sequence whose DIO is due, lowest first. -/
def State.dioCluster (s : State) (q : Nat) : Option (Nat × Cluster) := s.msh.clusters.find? fun x => x.2.enabled && x.2.seq == q && x.2.dioDue

/-- A due DIO goes out. -/
def State.sendDio (s : State) (x : MeshCell) (c : Nat) (k : Cluster) (glr psdu : Nat) : State :=
  (s.modCluster c fun k => { k with dioDue := false }).broadcast x c glr psdu (s.castBytes c (.dio k.version))

/-- The oldest frame queued for a neighbour that may be sent to it now: the neighbour has an entry and is not LOST (R267). -/
def State.nextFor (s : State) (p : MeshQ → Bool) : Option MeshQ :=
  s.msh.queue.find? fun q => p q && !q.waiting && !q.indirect &&
    (match s.nbrOf q.hop with
     | some k => (match s.nbr? k with | some m => m.legacy || m.sync != .lost | none => false)
     | none => false)

/-- A unicast frame is secured, once for all its attempts (R266, R271), and handed to the radio at `at'`. -/
def State.sendUnicast (s : State) (q : MeshQ) (c glr psdu at' : Nat) (more : Bool) : State :=
  match s.nbrOf q.hop with
  | none => s
  | some k =>
    match s.nbr? k, s.node? q.hop with
    | some m, some n =>
      if q.secured.isNone && decide (ctrEnd ≤ m.txCtr) then s
      else if !s.keyLive 5 q.hop n.keyGen n.keySlot then s.attemptFailed q.id
      else
        let (ctr, dsn) := q.secured.getD (m.txCtr, m.txDsn)
        let s := if q.secured.isNone then s.takeCtr k m else s
        let s := (s.touchKey q.hop n.keyGen n.keySlot).modQ q.id fun q =>
          { q with secured := some (ctr, dsn), waiting := true, more := more }
        s.meshAir c q.id glr at' psdu (s.nodeKey n.eui n.keyGen n.keySlot) ctr
          (leBytes 1 dsn ++ leBytes 1 n.keyGen) (leBytes 2 q.sentFrags ++ s.bodyBytes q.path q.dst q.body)
    | _, _ => s

/-- MESH_TX (R262, R266, R295, R302): the device transmits in the running cell of a sequence and CHOFF. `psdu` is the PSDU's length
as the standards encode the frame, `glr` its GLR mode, `more`: fragments of its datagram remain, `ready`: the update symbol is
encoded in time. -/
def execMeshTx (seq choff psdu glr : Nat) (more ready : Bool) (s : State) : Host.Outcome State Fault Refusal :=
  .next (
    if !s.meshRuns then s
    else match s.msh.cells.find? fun x => x.seq == seq && x.choff == choff && x.asn == s.asn && !x.sent with
      | none => s
      | some x =>
        let s := s.setMsh { s.msh with cells := s.msh.cells.map fun y => if y = x then { y with sent := true } else y }
        match x.use with
        | .up _ => s
        | .shared =>
          let due := s.dioCluster seq
          if choff = 0 then
            match due with
            | some (c, k) => if s.hopLen seq = 1 then s.sendDio x c k glr psdu else s.sendBeacon x glr psdu
            | none => s.sendBeacon x glr psdu
          else if choff = 1 then
            match due with
            | some (c, k) => s.sendDio x c k glr psdu
            | none => s
          else s
        | .update =>
          match nextAfter (tget s.msh.updLast seq) (s.updClusters seq) with
          | none => s
          | some c =>
            let (s, msg) := (s.setMsh { s.msh with updLast := tput s.msh.updLast seq c }).nextUpdate c ready
            let t := s.broadcast x c glr psdu (s.castBytes c (.message msg))
            if s.casts x c glr psdu then t.count MSH_UPD_FRAMES 1 else t
        | .down n =>
          match s.nextFor fun q => q.hop == n with
          | none => s
          | some q =>
            if s.fitsCell x.chan glr psdu x.span true then
              s.sendUnicast q x.chan glr psdu (s.asnNs x.asn + s.get MSH_TEMPLATE_TX_OFFSET_US * 1000) more
            else s.dropQ q.id)

/-- MESH_ACK_RX (R266, R267): an acknowledgement arrives for the frame `a.id`: a transmit result. One that fails its check or falls
outside ACK_GUARD is no acknowledgement. -/
def execMeshAckRx (a : MeshAckIn) (s : State) : Host.Outcome State Fault Refusal :=
  .next (if !s.serving then s else match s.resultDue a.id with
    | none => s
    | some q =>
      let legacy := match (s.nbrOf q.hop).bind s.nbr? with | some m => m.legacy | none => false
      let inTime := legacy || decide (a.ofs.natAbs ≤ s.get MSH_GUARD_ACK_GUARD_US)
      s.reportTx (.mesh 0 q.id) (if !a.valid || !inTime then .unheard else if a.nack then .nacked a.ofs else .acked a.ofs))

/-- MESH_ACK_TIMEOUT (R266): the acknowledgement window of a frame closes empty: a transmit result. -/
def execMeshAckTimeout (id : Nat) (s : State) : Host.Outcome State Fault Refusal :=
  .next (if !s.serving then s else match s.resultDue id with
    | none => s
    | some q => s.reportTx (.mesh 0 q.id) .unheard)

/-! ### Legacy mode and CSMA-CA (R273–R276) -/

/-- A Data Request was answered with the pending bit (R275): the oldest indirect frame of the node may go, or an empty data frame
where the queue has emptied. -/
def State.releaseIndirect (s : State) (i : Nat) : State :=
  match (s.indirectOf i).head? with
  | some q => s.modQ q.id fun q => { q with indirect := false }
  | none =>
    let q : MeshQ := { id := s.msh.nextId, hop := i, dst := i, path := [i], body := .empty, queuedSn := s.sn }
    s.setMsh { s.msh with queue := s.msh.queue ++ [q], nextId := s.msh.nextId + 1 }

/-- LEGACY_FRAME_RX (R273, R274): the oldest frame that the receive hardware accepted on a LEGACY channel is checked and delivered. A
Data Request answered with the pending bit lets a frame of its node's queue go. -/
def execLegacyFrameRx (f : MeshIn) (s : State) : Host.Outcome State Fault Refusal :=
  .next (if !s.serving then s else s.runMeshRx true fun rx c s =>
      if !s.flag MSH_CFG_ENABLE || rx.cell.isNone then s
      else match s.receive c s.asn rx.sn f with
        | (s, none) => s.showMesh
        | (s, some (k, v)) =>
          let i := match s.nbr? k with | some m => m.node | none => 0
          let s := s.heard i f.gen
          let polls := rx.acked == some true && (match legacyHdr rx.bytes with | some h => h.dataRequest | none => false)
          let s := if polls then s.releaseIndirect i else s
          (if v = .deliver then s.deliverUp f i c rx.sn else s).showMesh)

/-- PENDING_EXPIRED (R275): indirect frames held for PERSIST timeslots are dropped and counted. -/
def execPendingExpired (s : State) : Host.Outcome State Fault Refusal :=
  .next (if !s.serving then s else
    let old (q : MeshQ) : Bool := q.indirect && decide (q.queuedSn + 40 * s.get MSH_PEND_CFG_PERSIST ≤ s.sn)
    let n := (s.msh.queue.filter old).length
    (s.setMsh { s.msh with queue := s.msh.queue.filter fun q => !old q }).count MSH_PEND_EXPIRED n)

/-- The frame that CSMA-CA would send on a mesh channel: to a legacy node last heard there, or in a running shared cell to a
neighbour without a downlink column. -/
def State.csmaFrame (s : State) (c : Nat) : Option (MeshQ × Option MeshCell) :=
  if s.flag (MSH_CHAN_LEGACY c) then
    (s.nextFor fun q => match (s.nbrOf q.hop).bind s.nbr? with | some m => m.legacy && m.chan == c | none => false).map
      fun q => (q, none)
  else
    match s.msh.cells.find? fun x => x.chan == c && x.asn == s.asn && x.use == .shared && !x.sent with
    | none => none
    | some x =>
      (s.nextFor fun q => match s.node? q.hop with
        | some n => !n.joined && !n.legacy && (match s.cluster? n.cluster with | some k => k.seq == x.seq | none => false)
        | none => false).map fun q => (q, some x)

/-- Power on a channel above the busy threshold (R276): `down` quarter dB below full scale. -/
def State.ccaBusy (s : State) (down : Nat) : Bool := decide (down < 4 * s.get MSH_CSMA_CFG_CCA_DBFS)

/-- Backoff exponent of the attempt under way (R276), by IEEE 802.15.4 (PRESUMED, log entry 119): in legacy mode it grows with each busy
assessment, in shared cells with each failed attempt, whose first one waits for nothing. -/
def State.backoffExp (s : State) (q : MeshQ) (shared : Bool) : Option Nat :=
  if shared then
    if q.attempts = 0 then none
    else some (min (s.get MSH_CSMA_CFG_TSCH_MAX_BE) (s.get MSH_CSMA_CFG_TSCH_MIN_BE + (q.attempts - 1)))
  else some (min (max 3 (s.get MSH_CSMA_CFG_MAX_BE)) (s.get MSH_CSMA_CFG_MIN_BE + q.nb))

/-- CSMA_BACKOFF (R276): a backoff of `units` backoff units, or shared cells, expires on a mesh channel and the channel's power is
assessed; a wait beyond the exponent's range is none. Free: the frame goes out. Busy: in legacy mode another backoff, up to
MAX_BACKOFFS, then a channel access failure; in a shared cell a channel access failure. The failure is a transmit result of the unit
with authority. -/
def execCsmaBackoff (chan units down psdu glr : Nat) (more : Bool) (s : State) : Host.Outcome State Fault Refusal :=
  .next (
    if !s.meshRuns then s
    else match s.csmaFrame chan with
      | none => s
      | some (q, cell) =>
        if (match s.backoffExp q cell.isSome with | some e => decide (2 ^ e ≤ units) | none => decide (0 < units)) then s
        else if s.ccaBusy down then
          if !s.authority then s
          else if cell.isNone && decide (q.nb < s.get MSH_CSMA_CFG_MAX_BACKOFFS) then s.modQ q.id fun q => { q with nb := q.nb + 1 }
          else (s.modQ q.id fun q => { q with waiting := true }).reportTx (.mesh chan q.id) .noAccess
        else match cell with
          | some x =>
            if s.fitsCell chan glr psdu x.span true then
              let s := s.setMsh { s.msh with cells := s.msh.cells.map fun y => if y = x then { y with sent := true } else y }
              s.sendUnicast q chan glr psdu (s.asnNs x.asn + s.get MSH_TEMPLATE_TX_OFFSET_US * 1000) more
            else s.dropQ q.id
          | none => s.sendUnicast q chan glr psdu (absNs (s.sn + 1) 0) more)

end Sys2Proof.Machine
end

