-- ==== Sys2Proof/Machine/MeshCmds.lean ====
section
/-! DEFINITION. The MESH_CMD and MESH_DATA ring commands (R306, R307). -/

namespace Sys2Proof.Machine

open Sys2Proof

/-- MSH_CLUSTER_SET: opens a cluster, changes it, or closes it. Clusters 240 to 255 need a secondary site of their own (R24); two
enabled clusters of one sequence must not share a PAN ID (R286). -/
def execMshClusterSet (d : Desc) (s : State) : Host.Outcome State Fault Refusal :=
  .next (s.command d fun s =>
    let c := d.op 32 1
    let on := bit (d.op 33 1) 0
    let q := d.op 34 1
    let pan := d.op 36 2
    let site2 := s.flag FWD_SITE_SITE2_EN && s.get FWD_SITE_SITE2 != s.get FWD_SITE_SITE
    let clash := s.msh.clusters.find? fun x => x.1 != c && x.2.enabled && x.2.seq == q && x.2.pan == pan
    if !on then (s.modCluster c fun k => { k with enabled := false }).showMesh.showCache.ok
    else if decide (240 ≤ c) && !site2 then s.fail stREFUSED
    else match clash with
      | some x => s.fail stCONFLICT x.1
      | none =>
        let k : Cluster := match tget s.msh.clusters c with
          | some k => if k.enabled then { k with seq := q, pan := pan }
                      else { k with enabled := true, seq := q, pan := pan, keyGen := d.op 38 1, keySlot := s.newestSlot,
                                    keyNext := none, renewed := none, doublings := 0, dioFrom := s.sn }
          | none => { enabled := true, seq := q, pan := pan, keyGen := d.op 38 1, keySlot := s.newestSlot, dioFrom := s.sn }
        ((s.setMsh { s.msh with clusters := tput s.msh.clusters c k }).usedS (branchEntry 6 k.keySlot)).showMesh.showCache.ok)

/-- One record of MSH_NODE_ADD: the index it takes, or the status and RESULT it fails with. -/
def State.addNode (s : State) (b : List Byte) : Except (Nat × Nat) (State × Nat) :=
  let eui := leAt b 0 8
  let c := leAt b 8 1
  let want := leAt b 12 4
  let count := (s.msh.nodes.filter fun x => x.2.cluster == c).length
  if (s.cluster? c).isNone then .error (0x11, 0)
  else match s.nodeOfEui eui with
    | some i => .error (stCONFLICT, i)
    | none =>
      let i := if want = 0xFFFFFFFF then freeIndex 262144 0 s.msh.nodes else want
      if 262144 ≤ i || decide (16384 ≤ count) then .error (0x12, 0)
      else if (s.node? i).isSome then .error (stCONFLICT, i)
      else
        let n : Node := { eui := eui, legacy := bit (leAt b 9 1) 0, sleepy := bit (leAt b 9 1) 1, cluster := c,
                          upCells := leAt b 10 1, keyGen := leAt b 11 1, keySlot := s.newestSlot }
        .ok (s.setNode i n, i)

/-- The records of MSH_NODE_ADD in turn, up to the first that fails. -/
def State.addNodes (s : State) (b : List Byte) : Nat → Nat → State × List Nat × Option (Nat × Nat)
  | 0, _ => (s, [], none)
  | n + 1, o =>
    match s.addNode (slice b o 16) with
    | .error e => (s, [], some e)
    | .ok (s, i) =>
      let (s, r, e) := s.addNodes b n (o + 16)
      (s, i :: r, e)

/-- MSH_NODE_ADD: the indices taken are written at BUF_ADDR; RESULT counts the records added. Records before a failing one
stand. -/
def execMshNodeAdd (d : Desc) (s : State) : Host.Outcome State Fault Refusal :=
  .next (s.command d fun s =>
    let (s, l, e) := s.addNodes d.buf (d.bufLen / 16) 0
    let s := s.showMesh
    match e with
    | none => { st := s, result := l.length, bytes := l.flatMap (leBytes 4) }
    | some (st, r) => s.fail st (if st = stCONFLICT then r else l.length))

/-- A node leaves the register (R285): it departs with cause 3, its neighbour entry and queued frames go, its entry is cleared. -/
def State.removeNode (s : State) (i : Nat) : State :=
  let s := match s.node? i with
    | some n => if n.joined then s.departNode i 3 else s.departOne i 3
    | none => s
  let nbrs := s.msh.nbrs.filter fun x => x.2.node != i
  let queue := s.msh.queue.filter fun q => q.dst != i && q.hop != i
  let camps := s.msh.campaigns.map fun c => { c with targets := c.targets.filter fun t => t != i }
  (s.setMsh { s.msh with nodes := tdel s.msh.nodes i, nbrs := nbrs, queue := queue, campaigns := camps }).showMesh

/-- MSH_NODE_REMOVE. -/
def execMshNodeRemove (d : Desc) (s : State) : Host.Outcome State Fault Refusal :=
  .next (s.command d fun s =>
    if (s.node? (d.op 32 4)).isNone then s.fail 0x10 else (s.removeNode (d.op 32 4)).ok)

/-- A node register entry's 512 bytes (R284). -/
def Node.bytes (n : Node) : List Byte :=
  leBytes 8 n.eui ++
  leBytes 1 (n.st + 4 * b2n n.legacy + 8 * b2n n.sleepy + 16 * b2n n.schedOk + 32 * b2n n.rekeyPending + 64 * b2n n.renewMark) ++
  leBytes 1 n.cluster ++ leBytes 1 n.depth ++ leBytes 1 n.upCells ++ leBytes 4 (n.parent.getD 0xFFFFFFFF) ++
  leBytes 4 n.rxCtr ++ leBytes 4 n.txCtr ++ leBytes 1 n.lastDsn ++ leBytes 1 n.keyGen ++ leBytes 1 n.keyNext ++
  leBytes 1 n.ckeyGen ++ leBytes 2 n.schedVer ++ leBytes 2 n.upOfs ++ leBytes 1 n.upChoff ++ leBytes 1 n.dnChoff ++
  leBytes 2 n.dnOfs ++ leBytes 1 n.daoSeq ++ leBytes 1 n.desc ++ leBytes 2 0 ++ leBytes 8 n.pathExpiry ++
  leBytes 8 n.lastHeard ++ leBytes 4 n.fwVersion ++ leBytes 4 n.hwClass ++ leBytes 8 n.valuesSn ++
  slice (n.values.flatMap (leBytes 4)) 0 32 ++ leBytes 1 n.values.length ++ leBytes 1 n.updState ++ leBytes 2 n.updCampaign ++
  leBytes 4 n.updMissing ++ List.replicate 400 0

/-- MSH_NODE_READ. -/
def execMshNodeRead (d : Desc) (s : State) : Host.Outcome State Fault Refusal :=
  .next (s.command d fun s =>
    match s.node? (d.op 32 4) with
    | none => s.fail 0x10
    | some n => s.answer d n.bytes)

/-- A neighbour entry's 128 bytes (R277). -/
def Nbr.bytes (n : Nbr) : List Byte :=
  let y := match n.sync with | .synced => 0 | .drifted => 1 | .lost => 2
  leBytes 8 n.eui ++ leBytes 2 n.short ++ leBytes 1 n.chan ++
  leBytes 1 (y + 4 * b2n n.legacy + 8 * b2n n.sleepy + 16 * b2n n.rxValid + 32 * b2n n.dsnValid + 64 * b2n n.pending) ++
  leBytes 4 n.rxCtr ++ leBytes 4 n.txCtr ++ leBytes 1 n.lastDsn ++ leBytes 1 n.txDsn ++ leBytes 1 n.keyGen ++ leBytes 1 0 ++
  leBytes 8 n.lastSync ++ leBytes 4 (unsigned 32 n.ofs) ++ leBytes 8 n.lastHeard ++ leBytes 2 n.rssi ++ leBytes 2 n.etx ++
  leBytes 4 n.node ++ leBytes 4 n.txOk ++ leBytes 4 n.txFail ++ leBytes 4 n.rxOk ++ leBytes 2 n.rxDup ++
  leBytes 2 n.rxReplay ++ List.replicate 60 0

/-- MSH_NBR_READ: NO_ENTRY where the node has no neighbour entry. -/
def execMshNbrRead (d : Desc) (s : State) : Host.Outcome State Fault Refusal :=
  .next (s.command d fun s =>
    if (s.node? (d.op 32 4)).isNone then s.fail 0x10
    else match (s.nbrOf (d.op 32 4)).bind s.nbr? with
      | none => s.fail 0x13
      | some n => s.answer d n.bytes)

/-- Some slot's derivation of a node generation is dead (R298). -/
def State.nodeGenDead (s : State) (i g : Nat) : Bool := s.key.dead.any fun k => k.code == 5 && k.index == i && k.gen == g

/-- A cluster key renewal starts (R297): every joined node is sent its REKEY. -/
def State.renewCluster (s : State) (c : Nat) (k : Cluster) : State :=
  let g := nextGen k.keyGen
  let s := s.modCluster c fun k => { k with keyNext := some (g, s.newestSlot, s.asn + s.num MSH_CLUSTER_SWITCH) }
  ((s.msh.nodes.filter fun x => x.2.joined && x.2.cluster == c).map (·.1)).foldl (fun s i => s.sendClusterRekey i) s

/-- MSH_REKEY (R296–R298). -/
def execMshRekey (d : Desc) (s : State) : Host.Outcome State Fault Refusal :=
  .next (s.command d fun s =>
    let i := d.op 36 4
    if d.op 32 1 = 0 then
      match s.node? i with
      | none => s.fail 0x10
      | some n =>
        if n.rekeyPending then s.fail 0x14
        else if d.op 33 1 = 0 then (s.startRenewal i).ok (nextGen n.keyGen)
        else if s.nodeGenDead i (d.op 34 1) then s.fail stSTALE
        else
          let s := s.modNode i fun n => { n with keyGen := d.op 34 1, keyNext := 0, rekeyPending := false, staleSeen := [] }
          let s := match s.nbrOf i with | some k => s.modNbr k fun m => { m with keyGen := d.op 34 1 } | none => s
          (s.startRenewal i).ok (nextGen (d.op 34 1))
    else
      match s.cluster? i with
      | none => s.fail 0x11
      | some k => if k.keyNext.isSome then s.fail 0x14 else (s.renewCluster i k).showCache.ok (nextGen k.keyGen))

/-- MSH_REPAIR (R287): the DODAG version rises by the lollipop counter of RFC 6550 and Trickle starts afresh. -/
def execMshRepair (d : Desc) (s : State) : Host.Outcome State Fault Refusal :=
  .next (s.command d fun s =>
    match s.cluster? (d.op 32 1) with
    | none => s.fail 0x11
    | some k =>
      let v := if k.version < 128 then (k.version + 1) % 128 else (k.version + 1) % 256
      (s.modCluster (d.op 32 1) fun k => { k with version := v, doublings := 0, dioDue := true, dioFrom := s.sn }).ok v)

/-- MSH_ACTUATE (R307): ACTUATE is sent to the node. -/
def execMshActuate (d : Desc) (s : State) : Host.Outcome State Fault Refusal :=
  .next (s.command d fun s =>
    if (s.node? (d.op 32 4)).isNone then s.fail 0x10
    else (s.actuate (d.op 32 4) (d.op 36 1) (d.op 40 4)).ok)

end Sys2Proof.Machine
end

