-- ==== Sys2Proof/Machine/Pair.lean ====
section
/-! DEFINITION. Pair operation (R356–R381): the mate link, the lease link, the edge tests, handover, priming, the PAIR
commands. -/

namespace Sys2Proof.Machine

open Sys2Proof

/-! ### The mate link (R360–R364) -/

/-- LOG_RX (R360, R361): a LOG frame of input entries is stored; `ns` of the current stroke. -/
def execLogRx (h : MateHdr) (entries : List LogEntry) (ns : Nat) (s : State) : Host.Outcome State Fault Refusal :=
  .next (
    let (s, ok) := s.takeFrame h true ns
    if !ok || !s.storesLog || decide (h.sn ≤ s.pai.done && s.pai.loaded) then s
    else
      let s := s.modLog h.sn fun l => if l.frags.any fun f => f.1 == h.frag then l else { l with frags := l.frags ++ [(h.frag, entries)] }
      s.tryAck h.sn ns)

/-- TB0 of the mate less TB0 of this unit from the four timestamps of one LOG_END and its ACK (R89): sent and got at one end,
got and sent at the other. -/
def pairOffset (sent1 got1 sent2 got2 : Int) : Int := ((got1 - sent1) + (sent2 - got2)) / 2

/-- LOG_END_RX (R361): the LOG_END of a stroke; its header's FRAG numbers it after the last LOG frame. Complete, the log is
acknowledged; else one NAK per stroke names what is missing. The LOG_END before and the ACK that answered it give the four timestamps of
R89, the last of which this one carries. -/
def execLogEndRx (h : MateHdr) (e : LogEnd) (ns : Nat) (s : State) : Host.Outcome State Fault Refusal :=
  .next (
    let (s, ok) := s.takeFrame h true ns
    if !ok || s.authority then s
    else
      let s := match s.pai.lastEnd, s.pai.ackSent with
        | some (sent, got), some ack =>
          let d : Int := -(pairOffset sent got ack e.gotAt)
          (s.pairCompare d).tb0Offer 3 d
        | _, _ => s
      let s := s.setPai { s.pai with lastEnd := some (e.sentAt, s.mateStamp false ns), ackSent := none }
      let s := match e.handover with
        | some sn => (s.setPai { s.pai with hand := some sn, handReq := false }).put PAI_STATUS_HANDOVER 1
        | none => s
      let s := if e.final && s.pai.hand = some h.sn then s.setPai { s.pai with handFinal := true } else s
      if !s.storesLog || decide (h.sn ≤ s.pai.done && s.pai.loaded) then s
      else
        let s := s.modLog h.sn fun l => { l with fin := some e, frames := h.frag }
        let s := s.tryAck h.sn ns
        match s.log? h.sn with
        | some l =>
          if !l.missing.isEmpty && l.naked != some s.sn then
            (s.modLog h.sn fun l => { l with naked := some s.sn }).sendMate 0 h.sn (.nak l.missing)
          else s
        | none => s)

/-- LOG_MISS (R361): at 40 µs a standby has no LOG_END of the previous stroke, which is a log miss, or holds it without a LOG
frame, and then leaves STANDBY at the next edge. -/
def execLogMiss (s : State) : Host.Outcome State Fault Refusal :=
  .next (if !s.serving then s else
    let l := s.sn - 1
    if s.role != .standby || decide (l ≤ s.pai.done) then s
    else match s.log? l with
      | some x =>
        if x.complete then s
        else if x.fin.isSome then s.setPai { s.pai with leaveNext := true }
        else (s.setPai { s.pai with logMiss := s.pai.logMiss + 1 }).count PAI_HB_MISS 1
      | none => (s.setPai { s.pai with logMiss := s.pai.logMiss + 1 }).count PAI_HB_MISS 1)

/-- Least SN above k + 8 with SN mod 40 = 20 (R373). -/
def handoverSn (k : Nat) : Nat := k + 9 + (60 - (k + 9) % 40) % 40

/-- The primary announces a handover asked for in stroke `k` (R373). -/
def State.announce (s : State) (k : Nat) : State :=
  (s.setPai { s.pai with hand := some (handoverSn k), handDone := false }).put PAI_STATUS_HANDOVER 1

/-- ACK_RX (R362): the standby has stored a stroke; held outputs may leave from the next stamp point. A clean ACK puts
commit-before-release in force (R377); in SOLO only from a unit primed since. The request for a handover is answered
(R373). -/
def execAckRx (h : MateHdr) (a : MateAck) (ns : Nat) (s : State) : Host.Outcome State Fault Refusal :=
  .next (
    let (s, ok) := s.takeFrame h false ns
    if !ok || s.role != .primary then s
    else
      let rx := s.mateStamp false ns
      let s := match s.pai.endSent with
        | some (m, tx) => if m = h.sn then s.pairCompare (pairOffset tx a.gotAt a.sentAt rx) else s
        | none => s
      let s := s.setPai { s.pai with acked := s.pai.acked ++ [h.sn], ackMiss := 0, ackAt := rx }
      let primed := s.get PAI_STATUS_SOLO == 0 || match s.pai.snapGiven with | some p => decide (s.pai.soloSn ≤ p) | none => false
      let stand : Option Nat := if a.clean && primed then some (s.pai.mateStandby.getD s.sn) else none
      let s := s.setPai { s.pai with mateStandby := stand }
      if a.request && s.pai.hand.isNone && stand.isSome then s.announce h.sn else s)

/-- NAK_RX (R361): the LOG frames named are sent again at once. -/
def execNakRx (h : MateHdr) (frags : List Nat) (s : State) : Host.Outcome State Fault Refusal :=
  .next (
    let (s, ok) := s.takeFrame h false 0
    if !ok || s.role != .primary then s
    else (s.pai.sent.filter fun x => x.1 == h.sn && frags.contains x.2.1).foldl
      (fun s x => s.sendMate x.2.1 h.sn (.log x.2.2)) s)

/-- FORWARD_RX (R378, R252): a descriptor of the mate enters as if fetched from this unit's ring of its number, to be stamped at
the next stamp point; a host stop acts at once. -/
def execForwardRx (h : MateHdr) (id : Nat) (d : Desc) (ns : Nat) (s : State) : Host.Outcome State Fault Refusal :=
  .next (
    let (s, ok) := s.takeFrame h false ns
    if !ok || s.role != .primary then s
    else if d.opcode = 0x9001 then (if d.op 32 1 = 0 then s.raiseAll 3 ns else s.raiseRobot 9 (d.op 33 1) ns)
    else s.addJob (s.ringJob { d with ring := d.ring % 64 + 128, index := id }))

/-- RESULT_RX (R378, R69): the forwarded descriptor completes with the primary's status, length and result, and this unit's SN of
arrival. -/
def execResultRx (h : MateHdr) (r : MateResult) (s : State) : Host.Outcome State Fault Refusal :=
  .next (
    let (s, ok) := s.takeFrame h true 0
    if !ok then s
    else match s.rings.forwarded.find? fun f => f.id == r.id with
      | none => s
      | some f =>
        let s := s.setRings { s.rings with forwarded := s.rings.forwarded.filter fun x => x.id != r.id }
        let s := s.put PAI_FWD_PENDING_N s.rings.forwarded.length
        (s.complete f.desc r.status r.result r.bytes r.resultLen .status).endJobOf f.desc (r.status == stOK))

/-- MATE_LINK (R380): the mate link is good while a valid frame of it has come in the last 4 strokes. -/
def execMateLink (s : State) : Host.Outcome State Fault Refusal :=
  .next (if !s.serving then s else
    let up := s.paired && s.frameRecent
    if s.flag PAI_STATUS_MATE_LINK = up then s else (s.put PAI_STATUS_MATE_LINK (b2n up)).record EV_MATE_LINK 0 (b2n up) 0 0)

/-! ### Lease tokens (R366) -/

/-- STOP_DIGEST: CRC-32C over the wave flag, the map of robots under ROBOT stop, the stop key generation and the last
CLEAR_SN. -/
def State.stopDigest (s : State) : Nat :=
  let clearSn := match s.stp.clears.getLast? with | some c => c.clearSn | none => 0
  crc32c (leBytes 1 (s.get STP_STATUS_WAVE) ++ ((List.range 8).flatMap fun n => leBytes 4 (s.num (STP_ROBOT_MAP n))) ++
    leBytes 1 s.key.stop.gen ++ leBytes 4 (lo32 clearSn))

/-- The unit holds authority as a pair sees it. -/
def State.holdsAuth (s : State) : Bool := s.role == .primary && s.dev != .halt

/-- Bytes 0 to 23 of this unit's token. -/
def State.tokenBody (s : State) : List Byte :=
  let flags := b2n s.straps.pairId + 2 * b2n s.straps.pairPref + 4 * b2n s.holdsAuth + 8 * b2n (s.get PAI_STATUS_SOLO != 0) +
    16 * b2n (s.dev == .halt) + 32 * b2n (s.role == .standby)
  leBytes 1 flags ++ leBytes 1 (s.dev.code + 16 * s.role.code) ++ [0, 0] ++ leBytes 4 (s.num PAI_EPOCH) ++ leBytes 8 s.sn ++
    leBytes 4 (if s.holdsAuth then lo32 (s.sn + 32) else lo32 s.pai.given) ++ leBytes 4 s.stopDigest

/-- LEASE_TOKEN_TX (R366): the token of this stroke, behind its preamble and start byte. None before the first stroke edge, in RESET,
BOOT and DORMANT, and none while no key of the LOG branch is live (R394: it is not built). -/
def execLeaseTokenTx (s : State) : Host.Outcome State Fault Refusal :=
  .next (
    if s.paired && s.stroked && (s.serving || s.dev == .halt) && s.keyLive 10 0 s.key.log.gen s.key.log.slot then
      let b := s.tokenBody
      let key := s.logKey s.key.log.gen s.key.log.slot
      let nonce := leBytes 1 (0xA0 + b2n s.straps.pairId) ++ leBytes 8 s.sn ++ [0, 0, 0, 0]
      s.emit (.token ([0x55, 0x55, 0xD5] ++ b ++ ccm key nonce b [] 8))
    else s)

/-- The token's fields (R366). -/
def readToken (b : List Byte) : Token :=
  let f := leAt b 0 1
  let st := leAt b 1 1
  { unit := f % 2, pref := bit f 1, auth := bit f 2, solo := bit f 3, halt := bit f 4, clean := bit f 5,
    state := st % 16, role := st / 16 % 4, epoch := leAt b 4 4, sn := leAt b 8 8, lease := leAt b 16 4, stopDigest := leAt b 20 4 }

/-- The SN nearest to `sn` with given low 32 bits. -/
def nearSn (sn v : Nat) : Nat :=
  let c := sn / 2 ^ 32 * 2 ^ 32 + v % 2 ^ 32
  if sn + 2 ^ 31 < c then c - 2 ^ 32 else if c + 2 ^ 31 ≤ sn then c + 2 ^ 32 else c

/-- The token's SN is within 1 of this unit's; before the first stroke edge there is none to compare (R366). -/
def State.tokenSnOk (s : State) (sn : Nat) : Bool := !s.stroked || (decide (sn ≤ s.sn + 1) && decide (s.sn ≤ sn + 1))

/-- LEASE_TOKEN_RX (R366): a token arrives; `mic`: the generation of LOG under which its MIC verifies, if any. Grants, the mate's state, its epoch and the faults of R357 and
R372 follow. -/
def execLeaseTokenRx (bytes : List Byte) (mic : Option Nat) (ns : Nat) (s : State) : Host.Outcome State Fault Refusal :=
  .next (
    if !s.paired || !(s.serving || s.dev == .halt) then s
    else
      let t := readToken bytes
      let good := s.micGood mic
      let s := s.noteMic good
      if !good || !s.tokenSnOk t.sn then s.count PAI_TOKEN_ERR 1
      else
        let p := s.pai
        let was := match p.token with | some x => x.auth | none => false
        let s := s.setPai { p with
          token := some t, tokSn := s.now, tokPeriod := s.tim.periods, tokNow := true
          authTokSn := if t.auth then some s.now else p.authTokSn
          released := p.released || t.halt || (!t.auth && was)
          given := if t.auth then t.lease else p.given
          grant := if t.auth then p.grant else if t.lease = 0 then 0 else nearSn s.sn t.lease }
        let s := (s.put PAI_STATUS_MATE_ROLE t.role).put PAI_STATUS_LEASE_VALID (b2n (decide (s.sn < s.pai.grant)))
        if s.dev = DevState.halt then s
        else
          let s := if t.unit = b2n s.straps.pairId then s.addMism 1 else s.dropMism 1
          let s := if t.pref = s.straps.pairPref then s.addMism 4 else s.dropMism 4
          let s := s.seeEpoch t.epoch t.auth ns
          if s.dev == .operate && t.state == 5 && t.stopDigest != s.stopDigest then
            let s := s.setPai { s.pai with stopDiff := s.pai.stopDiff + 1 }
            if 2 ≤ s.pai.stopDiff then s.pairFault 2 t.epoch ns else s
          else (s.setPai { s.pai with stopDiff := 0 }).endPairFault 2)

/-- LEASE_LINK (R366): good while a valid token has arrived in each of the last 4 strokes. -/
def execLeaseLink (s : State) : Host.Outcome State Fault Refusal :=
  .next (if !s.serving then s else
    let up := s.paired && s.pai.tokLast.length == 4 && s.pai.tokLast.all id
    if s.flag PAI_STATUS_LEASE_LINK = up then s else (s.put PAI_STATUS_LEASE_LINK (b2n up)).record EV_LEASE_LINK 0 (b2n up) 0 0)

/-- PAIR_FAULT_NO_AUTHORITY (R372 kind 3): 40 consecutive strokes without authority here and without a valid AUTH token. -/
def execPairFaultNoAuthority (ns : Nat) (s : State) : Host.Outcome State Fault Refusal :=
  .next (if !s.serving then s else if s.paired && s.stopLive && decide (40 ≤ s.pai.noAuth) then s.pairFault 3 s.mateEpoch ns else s)

/-! ### The tests at a stroke edge (R368) -/

/-- PAIR_EDGE_TEST (R368): whether to yield, to enter or leave SOLO, to take over or to leave STANDBY. -/
def State.pairTest (s : State) : State :=
  let p := s.pai
  let own := s.num PAI_EPOCH
  let solo := s.get PAI_STATUS_SOLO
  match s.role with
  | .primary =>
    if p.authHeard.any fun e => decide (own < e) then s.yieldAuth 1
    else if own < s.flt.epochSeen then s.yieldAuth 2
    else if p.authHeard.contains own && s.straps.pairId then s.yieldAuth 4
    else if solo = 1 && decide (p.grant ≤ s.sn) then s.yieldAuth 3
    else if solo = 0 && p.mateStandby.isSome && decide (4 ≤ p.ackMiss) then s.setSolo (if s.mateHeard then 1 else 2)
    else if solo = 2 && s.mateHeard && !s.mateAuth then s.setSolo 1
    else if solo != 0 && p.mateStandby.isSome then s.setSolo 0
    else s
  | .standby =>
    let authTok := match p.authTokSn with | some x => decide (s.sn ≤ x + 4) | none => false
    if p.released then s.takeOver 2
    else if decide (4 ≤ p.logMiss) && !authTok then s.takeOver 1
    else if 4 ≤ p.logMiss ∨ p.leaveNext then s.leaveStandby
    else s
  | _ => s

/-- The handover announced is over at H + 2: its commands complete with H, or it came to nothing (R373, R379). -/
def State.handoverEdge (s : State) : State :=
  match s.pai.hand with
  | none => s
  | some h =>
    if s.sn < h + 2 then s.setDisp { s.disp with holdRepl := s.role == .primary && s.sn == h }
    else if s.pai.handDone then
      let ds := s.pai.handDescs
      let s := s.setPai { s.pai with hand := none, handReq := false, handFinal := false, handDone := false, handDescs := [] }
      ds.foldl (fun s d => s.finish d (s.ok h)) (s.put PAI_STATUS_HANDOVER 0)
    else s.endHandover

/-- A unit that is not standing by asks for priming by itself, or replays logged strokes (R365, R377). -/
def State.primeEdge (s : State) : State :=
  if s.role != .notStanding then s
  else if s.pai.loaded then
    let s := s.runLogs 4
    let left := s.sn - 1 - s.pai.done
    if left ≤ 1 || decide (left < s.pai.backlog) || s.pai.backlog == 0 then s.setPai { s.pai with backlog := left, backlogSn := s.sn }
    else if s.pai.backlogSn + 40000 ≤ s.sn then s.setPai { s.pai with primeFail := some 3 }
    else s
  else if s.pai.idleHeard % 40 = 39 then s.sendMate 0 s.sn (.primeReq s.digestShown)
  else if s.pai.primeSn.isNone && s.flag PAI_CFG_AUTO_PRIME && !s.pai.detached && s.matePrimary && s.linksGood && !s.mismBlock then
    s.requestPrime
  else s

/-- What a stroke edge does to a paired unit from its second edge on: the counts of R366, R372 and R375, the tests of R368,
handover and priming. -/
def State.pairEdge (s : State) : State :=
  if !s.paired || !s.serving then s
  else
    let p := s.pai
    let authNow := s.role == .primary || match p.authTokSn with | some x => decide (s.sn ≤ x + 1) | none => false
    let s := s.setPai { p with
      tokLast := (p.tokNow :: p.tokLast).take 4, tokNow := false
      noAuth := if p.seenAuth && !authNow then p.noAuth + 1 else 0
      idleHeard := if s.role == .notStanding && s.tokenRecent && !s.mateAuth then p.idleHeard + 1 else 0 }
    let s := if p.authHeard.contains (s.num PAI_EPOCH) then s else s.endPairFault 1
    let s := if s.pai.noAuth = 0 then s.endPairFault 3 else s
    let s := s.pairTest
    let s := s.setPai { s.pai with authHeard := [], released := false }
    let s := s.put PAI_STATUS_LEASE_VALID (b2n (decide (s.sn < s.pai.grant)))
    s.handoverEdge.primeEdge

/-- The first stroke edge (R489, R375): a paired unit is in PRIMING, ROLE 3, and a PAI_ASSUME that waits is acted on; an
unpaired one holds authority, and its epoch is that of R367. -/
def State.pairFirst (s : State) : State :=
  if s.paired then
    let ds := s.pai.assume
    let s := (s.setPai { s.pai with assume := [] }).setRole .notStanding
    let s := s.setDev .priming
    ds.foldl (fun s d =>
      if s.pai.seenAuth then s.finish d (s.fail stLOCKED)
      else if s.mateHeard then s.finish d (s.fail 0x13)
      else let s := s.assume 4; s.finish d (s.ok (s.num PAI_EPOCH))) s
  else (s.setDev (if s.flag SYS_CTRL_QUIET then .quiet else .operate)).assume 5

/-! ### Handover (R373) -/

/-- AUTO_TAKEBACK (R373): a preferred standby with a long enough clean run asks for a handover. -/
def execAutoTakeback (s : State) : Host.Outcome State Fault Refusal :=
  .next (if !s.serving then s else
    let matePref := match s.pai.token with | some t => t.pref | none => true
    if s.flag PAI_CFG_AUTO_TAKEBACK && s.straps.pairPref && s.role == .standby && decide (s.num PAI_HOLDOFF ≤ s.num PAI_CLEAN_RUN) &&
       !matePref && s.pai.hand.isNone then
      s.setPai { s.pai with handReq := true }
    else s)

/-- Ring descriptors of replicated jobs that were held in the still stroke end on the unit that gave up authority: forwarded with
FORWARD_TO_PRIMARY, else NOT_AUTHORITY (R373). -/
def State.endStill (s : State) : State :=
  (s.disp.jobs.filter fun j => j.repl && j.phase == .presented && j.desc.isSome).foldl (fun s j =>
    match j.desc with
    | none => s
    | some d => if d.forward && !d.forwarded then s.forwardDesc d
      else (s.dropJob j.id).complete d stNOT_AUTHORITY 0 [] 0 .status) s

/-- HANDOVER_STILL_STROKE (R373). In H the primary holds ring and intake jobs of replicated classes. In H + 1, once H is
acknowledged and its outputs have left, it becomes STANDBY; the standby that has executed H takes authority. -/
def execHandoverStillStroke (s : State) : Host.Outcome State Fault Refusal :=
  .next (if !s.serving then s else match s.pai.hand with
    | none => s
    | some h =>
      if s.pai.handDone then s
      else if s.role = Role.primary then
        if s.sn = h then s.setDisp { s.disp with holdRepl := true }
        else if h < s.sn && s.pai.acked.contains h && s.pai.held.all fun x => decide (h < x) then
          let ep := s.mateEpoch
          let s := s.setRole .standby
          let s := s.setPai { s.pai with handDone := true, mateStandby := none, done := h, logs := [], held := [], acked := [] }
          let s := s.setDisp { s.disp with holdRepl := false }
          s.endStill.record EV_YIELD 0 5 ep 0
        else s
      else if s.role = Role.standby ∧ s.sn = h + 1 ∧ s.pai.handFinal ∧ h ≤ s.pai.done then
        let s := s.assume 3
        s.setPai { s.pai with handDone := true, mateStandby := some s.sn }
      else s)

/-- AUTHORITY_ASSUME (R375): a preferred unit that has not seen authority since its reset and has for 400 strokes heard a mate
without it assumes authority. -/
def execAuthorityAssume (s : State) : Host.Outcome State Fault Refusal :=
  .next (
    if s.stroked && s.serving && s.role == .notStanding && s.straps.pairPref && !s.pai.seenAuth && decide (400 ≤ s.pai.idleHeard) &&
       !s.mismBlock then s.assume 5
    else s)

/-! ### Priming (R377) -/

/-- PRIME_REQ_RX (R377 step 1): the primary picks the snapshot stroke, the next one, when both links are good and the
configuration digests are equal; different digests are CFG_MISMATCH cause 2 (R357). The size of the copy is a free value. -/
def execPrimeReqRx (h : MateHdr) (digest : List Byte) (s : State) : Host.Outcome State Fault Refusal :=
  .next (
    let (s, ok) := s.takeFrame h false 0
    if !ok then s
    else if digest != s.digestShown then s.addMism 2
    else
      let s := s.dropMism 2
      if s.role != .primary || !s.linksGood || s.pai.snapAt.isSome then s
      else
        let s := s.setPai { s.pai with snapAt := some (s.sn + 1), mateStandby := none }
        let size := Config.freeNat s.free
        s.drawn.record EV_PRIME_START 0 (s.sn + 1) size 0)

/-- SNAPSHOT_RX (R377 step 2): the returning unit takes snapshot frames in order; the last completes the replicated state it
loads. A frame out of order means one was lost. -/
def execSnapshotRx (h : MateHdr) (last : Bool) (data : Option Snapshot) (s : State) : Host.Outcome State Fault Refusal :=
  .next (
    let (s, ok) := s.takeFrame h true 0
    if !ok || s.role != .notStanding || s.pai.primeSn.isNone || s.pai.loaded then s
    else if h.frag != s.pai.snapNext then s.setPai { s.pai with primeFail := some 2 }
    else
      let s := s.setPai { s.pai with snapNext := s.pai.snapNext + 1 }
      match last, data with
      | true, some x => (s.loadSnapshot x).runLogs 4
      | _, _ => s)

/-- PRIME_FAIL (R377): a mismatch (1), a lost snapshot frame (2), a backlog that has not shrunk (3) or a lost link (4) restarts
priming. -/
def execPrimeFail (s : State) : Host.Outcome State Fault Refusal :=
  .next (if !s.serving then s else
    if s.role != .notStanding || s.pai.primeSn.isNone then s
    else
      let cause : Option Nat := if s.linksGood then s.pai.primeFail else some (s.pai.primeFail.getD 4)
      match cause with
      | none => s
      | some c => (s.record EV_PRIME_FAIL 0 c s.sn 0).requestPrime)

/-- PRIME_DONE (R377 step 4): the unit is CLEAN and becomes STANDBY. -/
def State.primeDone (s : State) : State :=
  match s.pai.primeSn with
  | none => s
  | some b =>
    if s.role == .notStanding && s.pai.loaded && decide (s.num PAI_PRIME_CLEAN ≤ s.num PAI_CLEAN_RUN) && !s.mismBlock then
      let s := (s.setRole .standby).put PAI_STATUS_PRIMING 0
      let s := s.setPai { s.pai with primeSn := none, primeFail := none, logMiss := 0, incRun := 0 }
      let s := s.setDev (if s.flag SYS_CTRL_QUIET then .quiet else .operate)
      s.record EV_PRIME_DONE 0 (s.sn - b) 0 0
    else s

/-- DIGEST_COMPARE (R365): own digest of stroke `sn` against the mate's. -/
def State.compareDigest (s : State) (sn : Nat) (own : Option (List Byte)) (mate : List Byte) : State :=
  match own with
  | none =>
    let s := (s.count PAI_DIGEST_INC 1).setNum PAI_CLEAN_RUN 0
    let n := s.pai.incRun + 1
    s.setPai { s.pai with lastResult := 1, incRun := n, leaveNext := s.pai.leaveNext || (s.role == .standby && decide (4 ≤ n)) }
  | some d =>
    if d = mate then
      let s := s.setPai { s.pai with lastResult := 0, incRun := 0 }
      (s.setNum PAI_CLEAN_RUN (min 0xFFFFFFFF (s.num PAI_CLEAN_RUN + 1))).primeDone
    else
      let s := ((s.record EV_DIGEST_MISMATCH 0 sn (leAt d 0 4) (leAt mate 0 4)).count PAI_DIGEST_BAD 1).setNum64 PAI_LAST_BAD_LO
        PAI_LAST_BAD_HI sn
      let p := s.pai
      (s.setPai { p with lastResult := 2, incRun := 0, leaveNext := p.leaveNext || s.role == .standby,
                         primeFail := if s.role == .notStanding then some 1 else p.primeFail }).setNum PAI_CLEAN_RUN 0

/-- The seal (R30, R364, R365): the digest of this stroke is formed, or of the stroke before on the unit that shadows it, which
then compares the digest the last LOG_END brought. A stroke with jobs of the log unfinished is incomplete (R40). -/
def State.sealPair (s : State) : State :=
  if !s.stroked then s
  else
    let m := if s.authority then s.sn else s.sn - 1
    let open' := s.disp.jobs.any fun j => j.phase != .waiting && j.late && j.logged && decide (j.sn ≤ m) && !s.pastClose j
    let prefixes := if s.authority then s.disp.prefixLen else
      match s.pai.prefixes.find? fun x => x.1 == m with | some x => x.2 | none => []
    let own : Option (List Byte) := if s.authority || (decide (m ≤ s.pai.done) && !open') then some (s.outDigest m prefixes) else none
    let s := s.setPai { s.pai with digests := (s.pai.digests.filter fun x => decide (m < x.1 + 4)) ++ [(m, own)] }
    let s := s.setDisp { s.disp with outs := s.disp.outs.filter fun o => decide (m < o.sn + 4) }
    if s.authority || !(s.role == .standby || s.pai.loaded) then s
    else
      let k := s.sn - 2
      match s.pai.digests.find? (fun x => x.1 == k), s.pai.mateDigests.find? (fun x => x.1 == k) with
      | some own, some mate =>
        (s.setPai { s.pai with mateDigests := s.pai.mateDigests.filter fun x => decide (k < x.1) }).compareDigest k own.2 mate.2
      | _, _ => s

/-! ### Commands (R379) -/

/-- PAI_QUERY: 64 bytes. -/
def execPaiQuery (d : Desc) (s : State) : Host.Outcome State Fault Refusal :=
  .next (s.command d fun s => s.answer d
    (leBytes 4 (s.num PAI_STATUS) ++ leBytes 4 (s.num PAI_EPOCH) ++ leBytes 4 s.mateEpoch ++ leBytes 4 (s.num PAI_CLEAN_RUN) ++
     leBytes 8 (if s.role = Role.primary then s.sn - 1 else s.pai.done) ++ leBytes 8 (s.num64 PAI_LAST_BAD_LO PAI_LAST_BAD_HI) ++
     s.digestShown))

/-- PAI_HANDOVER: completes at H + 2 with H. -/
def execPaiHandover (d : Desc) (s : State) : Host.Outcome State Fault Refusal :=
  .next (s.command d fun s =>
    if !s.paired then s.fail 0x10
    else if s.pai.hand.isSome then s.fail 0x12
    else if s.role = Role.primary then
      if s.pai.mateStandby.isNone then s.fail 0x11
      else ((s.setPai { s.pai with handDescs := s.pai.handDescs ++ [d] }).announce s.sn).later
    else if s.role = Role.standby then
      (s.setPai { s.pai with handReq := true, handDescs := s.pai.handDescs ++ [d] }).later
    else s.fail 0x11)

/-- PAI_DETACH: a STANDBY enters PRIMING and asks for no priming until PAI_PRIME. -/
def execPaiDetach (d : Desc) (s : State) : Host.Outcome State Fault Refusal :=
  .next (s.command d fun s =>
    if !s.paired then s.fail 0x10
    else if s.role = Role.primary then s.fail stLOCKED
    else
      let s := if s.role = Role.standby then s.leaveStandby else s
      (s.setPai { s.pai with detached := true }).ok)

/-- PAI_PRIME: sends PRIME_REQ. -/
def execPaiPrime (d : Desc) (s : State) : Host.Outcome State Fault Refusal :=
  .next (s.command d fun s =>
    if !s.paired then s.fail 0x10
    else if !s.matePrimary || !s.linksGood || !s.stroked then s.fail 0x11
    else if s.role = Role.standby then s.ok
    else ((s.setPai { s.pai with detached := false }).requestPrime).ok)

/-- PAI_ASSUME (R375): assumes authority while no mate is heard; before the first stroke edge it waits for that edge, at which
the unit takes its epoch. A cause of R357 holds the unit in PRIMING. -/
def execPaiAssume (d : Desc) (s : State) : Host.Outcome State Fault Refusal :=
  .next (s.command d fun s =>
    if !s.paired then s.fail 0x10
    else if s.pai.seenAuth then s.fail stLOCKED
    else if s.mateHeard then s.fail 0x13
    else if s.mismBlock then s.fail stREFUSED
    else if !s.stroked then (s.setPai { s.pai with assume := s.pai.assume ++ [d] }).later
    else let s := s.assume 4; s.ok (s.num PAI_EPOCH))

end Sys2Proof.Machine
end

