-- ==== Sys2Proof/Machine/Memory.lean ====
section
/-! DEFINITION. Memory integrity (R472–R475): the scrubber. -/

namespace Sys2Proof.Machine

open Sys2Proof

/-- A pass of a memory completes (R474). -/
def State.endLap (s : State) (m : Nat) : State :=
  let lap := s.now - s.mem.lapStart.getD m 0
  let s := s.setMem { s.mem with lapStart := s.mem.lapStart.set m s.now, noted := s.mem.noted.set m false }
  let s := s.setNum (MEM_LAP m) lap
  if s.num MEM_CFG < lap then s.record EV_SCRUB_LAP_LONG 0 m lap 0 else s

/-- Where an uncorrectable error strikes (R475). The allotment store holds replicated state. -/
def State.uncorrAt (s : State) (m addr : Nat) (hit : ScrubHit) : State :=
  if m = 2 then s.fatalHalt 3
  else match hit with
  | .replicated => s.fatalHalt 3
  | .frame id cell place =>
    match s.frame? id with
    | some f => s.drawn.cellError (Config.freeNat s.free % 64) f cell place
    | none => s
  | .record seq => if s.log.damaged.contains seq then s else s.setLog { s.log with damaged := s.log.damaged ++ [seq] }
  | .nbr i readable => s.loseNbr i readable
  | .entry table slot => s.parityFail table slot
  | .key h => (s.setKey { s.key with cache := s.key.cache.filter fun x => x != h, shares := s.key.shares.filter fun e => e.2.1 != h }).showCache
  | .other => if s.mem.bad.contains (m, addr) then s else s.setMem { s.mem with bad := s.mem.bad ++ [(m, addr)] }

/-- A location that no longer shows its error has been written afresh. -/
def State.clearBad (s : State) (m addr : Nat) : State := s.setMem { s.mem with bad := s.mem.bad.filter fun x => x != (m, addr) }

/-- SCRUB_READ (R472–R475): the scrubber reads a location of memory `m` through its checker; `last` ends the pass. -/
def execScrubRead (m addr : Nat) (stored : Stored) (hit : ScrubHit) (last : Bool) (s : State) : Host.Outcome State Fault Refusal :=
  .next (
    if !s.mainLive || !stored.fits m then s
    else
      let (s, bad) := s.checkRead m (stored.found addr)
      let s := match bad with
        | some a => (s.noteUncorr m a 0).uncorrAt m a hit
        | none => s.clearBad m addr
      if last then s.endLap m else s)

/-- A requester's read (R475); answers whether it ends as a bus error: an uncorrectable error, or one the scrubber left as found. -/
def State.requesterRead (s : State) (r : MemRead) : State × Bool :=
  if !r.stored.fits r.m then (s, false)
  else
    let left := s.mem.bad.contains (r.m, r.addr)
    let (s, bad) := s.checkRead r.m (if left then [(r.addr, .uncorrectable)] else r.stored.found r.addr)
    match bad with
    | some a => ((s.noteUncorr r.m a 1).uncorrAt r.m a r.hit, true)
    | none => (s, false)

/-- The read of a protected memory behind a register, if there is one: whether it was uncorrectable. -/
def State.readBehind (s : State) : Option MemRead → State × Bool
  | some r => s.requesterRead r
  | none => (s, false)

/-- RC_REGISTER_READ (R9, R50): an RC register is returned and cleared, a least-value register reloaded; a protected memory may stand
behind the register (`read`), and an uncorrectable error there gives a Completer Abort. -/
def execRcRegisterRead (addr : Nat) (read : Option MemRead) (s : State) : Host.Outcome State Fault Refusal :=
  .next (
    if !s.mainLive then s
    else if addr % 4 != 0 || !s.barListed addr then ({ s with reply := .unsupported } : State).count RNG_BAR_ERR 1
    else
      let (s, bad) := s.readBehind read
      if bad then { s with reply := .abort }
      else
        let t : State := { s with reply := .data (s.regRead addr) }
        match findRow addr (regRows (addr / 0x10000)) with
        | some (r, _) =>
          if r.acc != .rc || s.capAbsent (addr / 0x10000) then t
          else t.setNum addr ((s.leastNow addr).getD 0)
        | none => t)

end Sys2Proof.Machine
end

