-- ==== Sys2Proof/Machine/Strokes.lean ====
section
/-! DEFINITION. The stroke (R27–R46): its edge, the stamp points, release, close and seal, overruns and missed deadlines, the
first edge out of ANCHORING. -/

namespace Sys2Proof.Machine

open Sys2Proof

/-! ### The stroke edge -/

/-- Stroke edges are being issued: they run on in HALT (R491). -/
def State.strokesRun (s : State) : Bool := s.stroked && (s.serving || s.dev == .halt)

/-- QUIET is entered and left (R493). -/
def State.quietEdge (s : State) : State :=
  if s.dev = DevState.operate ∧ s.flag SYS_CTRL_QUIET then s.setDev .quiet
  else if s.dev = DevState.quiet ∧ !s.flag SYS_CTRL_QUIET then s.setDev .operate
  else s

/-- RX_CLIPPING: at most once per 4,000 strokes of a port (R156). -/
def State.noteClip (s : State) (p clips : Nat) : State :=
  let due := match tget s.rad.clipSn p with | some n => decide (n + 4000 ≤ s.sn) | none => true
  if clips = 0 || !due then s
  else (s.setRad { s.rad with clipSn := tput s.rad.clipSn p s.sn }).record EV_RX_CLIPPING 0 p clips 0

/-- Mean power of samples in 0.1 dB below full scale, an I/Q vector of 2,048 (log entry 112): the greatest v with
10^v · mean^100 ≤ full^100, or the one above it. -/
def rxPower (xs : List (Int × Int)) : Nat :=
  let sum := (xs.map fun x => (x.1 * x.1 + x.2 * x.2).toNat).sum
  if sum = 0 then Config.noPower % 65536
  else ((List.range 1200).filter fun v => decide (10 ^ (v + 1) * sum ^ 100 ≤ (4194304 * xs.length) ^ 100)).length + Config.roundUp sum % 2

/-- A received sample at either end of the 12-bit range counts as clipped (log entry 112). -/
def rxClipped (x : Int × Int) : Bool := x.1 == -2048 || x.1 == 2047 || x.2 == -2048 || x.2 == 2047

/-- What the RF ports received in the last stroke (R126, R127, R157), as the clock edges of each: mean power, sample periods with an FR
fault, clipped samples. -/
def State.rfEdge (s : State) (rf : List (List RfClk)) : State :=
  (List.range 8).foldl (fun s p =>
    match rf[p]? with
    | some edges =>
      if s.flag (RAD_PORT_CFG_ENABLE p) then
        let (xs, faults) := iqSamples (iqAlign edges)
        let clips := (xs.filter rxClipped).length
        (((s.put (RAD_PORT_STAT_RX_POWER p) (min (rxPower xs) 65535)).put (RAD_PORT_STAT_FRAME_ERR p) (min faults 255)).count
          (RAD_PORT_CLIP p) clips).noteClip p clips
      else s
    | none => s) s

/-- RESET_OUT_N goes high 10 ms after RESET was left (R492). -/
def State.resetOutTick (s : State) : State :=
  let n := s.sys.resetOutFor + 1
  if s.sys.resetOutLow then s.setSys { s.sys with resetOutFor := n, resetOutLow := decide (n < 40) } else s

/-- The dispatcher begins a stroke: seq starts at 0 (R36); the health word shows the stroke before (R60). -/
def State.dispEdge (s : State) : State :=
  let d := s.disp
  s.setDisp { d with nextSeq := 0, batch := 0, closed := false, stamped := 0, holdRepl := false, overLast := d.overNow, overNow := false }

/-- Timers that an edge releases, with the chain members behind them (R30, R32). -/
def State.dueTimers (s : State) : Nat :=
  (s.disp.jobs.filter fun j => (j.phase == .delayed && decide (j.notBefore ≤ s.jobSn j)) || s.chainDue j).length

/-- Local block-periodic work of the current SN (R33): the move generation of each axis, then each loop due. -/
def State.localWork (s : State) : List (Nat × Nat) :=
  ((List.range 16).filter s.axisEn).map (fun n => (0x13, n)) ++ ((List.range 32).filter s.loopDue).map fun n => (0x14, n)

/-- The mesh channels that a frame in reception holds as a timeslot begins, an input of the log (R12, R263). -/
def State.noteBusy (s : State) : State :=
  let b := (List.range 64).filter fun c => s.rad.lanes.any fun l => l.port == s.get (MSH_CHAN_PORT c) && l.ch == s.get (MSH_CHAN_RXCH c)
  (s.setMsh { s.msh with busy := b }).logInput (.value 0x0A (b.map fun c => BitVec.ofNat 8 c))

/-- The block-periodic jobs of this SN become ready at the edge, in ascending capability and instance, with the seq after the timers
released there (R30, R37). Those of replicated blocks only on a unit with authority: one that shadows its mate runs them with the
mate's log (R364). -/
def State.presentPeriodic (s : State) : State :=
  let q := s.dueTimers
  let s := if s.authority && (s.replWork s.sn).contains (0x0F, 0) then s.noteBusy else s
  let mine := if s.authority then s.replWork s.sn else []
  let own := s.localWork
  let n := mine.length + own.length
  let s := (s.presentWork s.sn true false q mine).presentWork s.sn false false (q + mine.length) own
  (s.setDisp { s.disp with edgeSeq := q + n, stamped := s.disp.stamped + n }).dispatchAll

/-- What every block does at an edge. -/
def State.blockEdges (s : State) (codes : List Int) (mags : List (List Nat)) (rf : List (List RfClk)) : State :=
  let s := s.setGns { s.gns with upPeriods := s.gns.upPeriods + 1, aon := s.gns.aon + 1024 }
  let s := (((s.ptpEdge.agcEdge mags).rfEdge rf).endTx.stopEdge.fleetEdge.startSolves 16).forwardEdge.keyEdge.wlgEdge
  (s.loopsEdge codes).motionEdge.presentPeriodic

/-- STROKE_EDGE (R30): SN increments; `codes` are the samples of the analog inputs, `mags` the samples that the GNSS ports took
in the stroke (R101), `rf` the clock edges of the RF ports' receive halves (R126). In HALT the stroke timer and TB0 run on, and nothing else (R491). -/
def execStrokeEdge (codes : List Int) (mags : List (List Nat)) (rf : List (List RfClk)) (s : State) : Host.Outcome State Fault Refusal :=
  .next (
    if !s.strokesRun then s
    else
      let s := ({ s with sn := s.sn + 1 } : State).resetOutTick.dispEdge.timeEdge
      if s.dev = DevState.halt then s else (s.quietEdge.pairEdge.blockEdges codes mags rf).showDisp)

/-! ### The first edge (R29, R56, R374) -/

/-- SN of the mate's next edge, as its lease tokens show (R374); none when it is not heard or its strokes do not run. -/
def State.mateSn (s : State) : Option Nat :=
  match s.pai.token with
  | some t =>
    if s.paired && s.mateHeard && (t.state == 4 || t.state == 5 || t.state == 6) then some (t.sn + (s.tim.periods - s.pai.tokPeriod) + 1)
    else none
  | none => none

/-- What a count of periods becomes at the first edge: the SN as far from it as periods lay between (R56). -/
def State.rebase (s : State) (first count : Nat) : Nat := first - (s.tim.periods - count)

/-- Deadlines not yet reached become the SN as many strokes after the edge as periods remained; stamped work is of the first
stroke (R56). -/
def State.rebaseJobs (s : State) (first : Nat) : State :=
  s.setJobs (s.disp.jobs.map fun j =>
    if j.stamped then { j with sn := first, deadline := if j.lead.isSome then first + (j.deadline - s.tim.periods) else j.deadline } else j)

/-- Instants the blocks keep become SN in the same way. A wave or a ROBOT stop raised before the edge has its first frame measured
from the edge; SLOTS goes out for every robot in the first superframes; robots count as enrolled at the edge. -/
def State.rebaseBlocks (s : State) (first : Nat) : State :=
  let r := s.rebase first
  let s := s.setMem { s.mem with lapStart := s.mem.lapStart.map r }
  let s := s.setWlg { s.wlg with helloAt := r s.wlg.helloAt }
  let s := s.setLog { s.log with freezeSn := if s.log.frozen then first else s.log.freezeSn }
  let s := s.setStp { s.stp with runA := s.stp.runA.map r, runB := s.stp.runB.map r, diffSn := s.stp.diffSn.map r }
  let s := if s.stp.wavePre then s.setStp { s.stp with waveSn := first, waveNs := 0, wavePre := false } else s
  let s := s.setStp { s.stp with robots := s.stp.robots.map fun x => { x with sn := first, ns := 0 } }
  let s := s.setTim { s.tim with holdSn := s.tim.holdSn.map r }
  let s := s.setDisp { s.disp with bpSn := r s.disp.bpSn }
  let s := s.setGns { s.gns with latched := s.gns.latched.map fun x => (r x.1, x.2) }
  let s := s.setGns { s.gns with checked := s.gns.checked.map fun x => { x with sn := r x.sn }, epochs := s.gns.epochs.map r }
  let s := s.setGns { s.gns with
    tracks := s.gns.tracks.map fun t => { t with lockSn := r t.lockSn, codeCarrier := t.codeCarrier.map fun c => (r c.1, c.2) }
    ifb := s.gns.ifb.map fun x => (x.1, x.2.map fun d => (r d.1, d.2))
    jamAt := s.gns.jamAt.map fun x => (x.1, r x.2) }
  let s := s.setNet { s.net with floatSn := s.net.floatSn.map fun x => (x.1, r x.2) }
  let s := s.setNet { s.net with overSn := s.net.overSn.map fun x => (x.1, r x.2) }
  let s := s.setNet { s.net with learnFullSn := s.net.learnFullSn.map r, abandonSn := s.net.abandonSn.map r }
  let s := s.setPai { s.pai with tokSn := r s.pai.tokSn, micSn := r s.pai.micSn }
  let s := s.setPai { s.pai with frameSn := s.pai.frameSn.map r, authTokSn := s.pai.authTokSn.map r }
  s.setFlt { s.flt with robots := s.flt.robots.map fun x =>
    (x.1, { x.2 with enrolSn := first, specsSf := x.2.specsSf.map fun _ => first / 40 + 1 }) }

/-- The first stroke edge. -/
def State.firstEdge (s : State) (sn : Nat) (codes : List Int) (mags : List (List Nat)) (rf : List (List RfClk)) : State :=
  let s := s.rebaseJobs sn |>.rebaseBlocks sn
  let s := (({ s with sn := sn, stroked := true } : State).rebaseTime s).dispEdge
  let s := ((s.put STK_STATUS_ANCHORED 1).put STK_STATUS_FLOOR_WAIT 0).put STK_STATUS_EPOCH_BAD 0
  let s := s.record EV_ANCHORED 0 sn (hi32 sn) (s.num STK_SN_FLOOR_LO)
  ((s.timeEdge.pairFirst).blockEdges codes mags rf).showDisp

/-- EPOCH_BAD (R29): recorded once. -/
def State.epochBad (s : State) (tai : Nat) : State :=
  let s := (s.put STK_STATUS_EPOCH_BAD 1).put STK_STATUS_FLOOR_WAIT 0
  if s.tim.epochSaid then s
  else (s.setTim { s.tim with epochSaid := true }).record EV_EPOCH_BAD 0 s.siteEpoch tai 0

/-- FLOOR_WAIT (R29): recorded once. -/
def State.floorWait (s : State) (sn : Nat) : State :=
  let s := (s.put STK_STATUS_FLOOR_WAIT 1).put STK_STATUS_EPOCH_BAD 0
  if s.tim.floorSaid then s
  else (s.setTim { s.tim with floorSaid := true }).record EV_FLOOR_WAIT 0 sn (hi32 sn) (s.num STK_SN_FLOOR_LO)

/-- ANCHORED (R29, R374): in ANCHORING an ideal edge is reached, the `i`-th of the TAI second `tai`. A paired unit that hears its
mate's strokes follows the mate's SN and TB0. -/
def execAnchored (tai i : Nat) (codes : List Int) (mags : List (List Nat)) (rf : List (List RfClk)) (s : State) : Host.Outcome State Fault Refusal :=
  .next (
    if s.dev != .anchoring || s.stroked then s
    else match s.mateSn with
      | some n =>
        let s := s.setNum64 STK_SN_FLOOR_LO STK_SN_FLOOR_HI (max (s.num64 STK_SN_FLOOR_LO STK_SN_FLOOR_HI) (n - 1))
        let s := s.anchorToMate
        if tai < s.siteEpoch then s.epochBad tai
        else if s.num64 STK_SN_FLOOR_LO STK_SN_FLOOR_HI < n then s.firstEdge n codes mags rf else s.floorWait n
      | none =>
        if !s.flag TIM_STATUS_TB0_VALID || decide (4000 ≤ i) then s
        else if tai < s.siteEpoch then s.epochBad tai
        else
          let n := (tai - s.siteEpoch) * 4000 + i
          if s.num64 STK_SN_FLOOR_LO STK_SN_FLOOR_HI < n then s.firstEdge n codes mags rf else s.floorWait n)

/-! ### Overruns (R41) -/

/-- An overrun or a missed deadline of a class is counted (R41) and shows in the next health words (R60). -/
def State.countOver (s : State) (cls : Nat) : State :=
  (s.count (STK_CLASS_OVR (cls % 8)) 1).setDisp { s.disp with overNow := true }

/-- STROKE_OVERRUN is counted and recorded. -/
def State.noteOverrun (s : State) (cls prio seq tag : Nat) : State :=
  (s.countOver cls).record EV_STROKE_OVERRUN 0 (256 * cls + prio) seq tag

/-- An ALT_CLAIM in overrun produces a reply with REASON 15 (R222, R234). -/
def State.claimOver (s : State) (d : Desc) : State × CmdRes :=
  let r := leAt d.buf 2 1
  if d.opcode = 0x8002 then
    let (s, a) := s.makeReply r (leAt d.buf 0 1) 15 0 { reason := 15 }
    let s := s.notify r a
    let fits := decide (24 ≤ d.bufLen)
    (s, { st := s, status := some stOVERRUN, result := a.result, bytes := if fits then a.bytes else [] })
  else (s, s.fail stOVERRUN)

/-- What an element delivered to the allotment engine leaves when its check is in overrun (R222, ch. 09): a claim's reply, REASON 15; a
fix has no effect and is counted. -/
def State.elemOver (s : State) (j : Job) : State :=
  match j.src with
  | .element 0x06 r a _ => (s.setBsl { s.bsl with fixes := s.bsl.fixes.filter fun f => !(f.robot == r && f.sn == a) }).count ALT_FIX_STALE 1
  | .element t r a q =>
    match s.flt.inbox.find? fun f => f.isElem t r a q with
    | none => s
    | some f =>
      let s := s.setFlt { s.flt with inbox := s.flt.inbox.erase f }
      if t = 0x21 then
        let (s, x) := s.makeReply r (leAt f.body 0 1) 15 0 { reason := 15 }
        s.fleetReply r q (leBytes 4 q ++ x.bytes)
      else s.count ALT_FIX_STALE 1
  | _ => s

/-- What block-periodic work leaves when it is in overrun: an axis stops (R443), a loop holds its output (ch. 19); the frames of a stroke
and the cells of a timeslot that were to be built are not. -/
def State.workOver (s : State) (j : Job) : State :=
  match j.src with
  | .periodic 0x0C _ => s.setBsl { s.bsl with toEncode := none }
  | .periodic 0x13 n => s.motOverrun n
  | .periodic 0x14 n => s.loopOverrun n
  | _ => s

/-- A job ends by overrun or a missed deadline: without effect, its completion OVERRUN. -/
def State.endOver (s : State) (j : Job) : State :=
  let s := match j.desc with
    | some d =>
      let (s, r) := s.claimOver d
      s.complete d stOVERRUN r.result r.bytes r.bytes.length (s.dueOf d)
    | none => (((s.dropIntake j).dropProc j).elemOver j).workOver j
  (s.endJob j false).startJobs j.cls (executors j.cls)

/-- DEADLINE_MISS is counted and recorded (R42); before the first stroke edge its deadline SN reads 0 (R56). -/
def State.noteMiss (s : State) (cls deadline tag : Nat) : State :=
  (s.countOver cls).record EV_DEADLINE_MISS 0 cls (if s.stroked then deadline else 0) tag

/-- A job of the mate's log beyond its committed prefix, or abandoned, takes the overrun outcome, in its own stroke (R40, R42). -/
def State.endLate (s : State) : Nat → State
  | 0 => s
  | n + 1 =>
    match s.disp.jobs.find? fun j => j.late && (s.pastClose j || s.pastDeadline j) with
    | some j =>
      let s := if j.lead.isSome then s.noteMiss j.cls j.deadline j.tag else s.noteOverrun j.cls j.prio j.seq j.tag
      ({ ({ s with sn := j.sn } : State).endOver j with sn := s.sn } : State).endLate n
    | none => s

/-! ### The input log at the primary (R358–R360) -/

/-- A STOP-class input of the log. -/
def LogEntry.isStop : LogEntry → Bool
  | .stop _ _ => true
  | .clear _ => true
  | _ => false

/-- The log entry of a job of this batch. -/
def State.entryOf (s : State) (j : Job) : Option LogEntry :=
  match j.desc with
  | some d => if d.shadow then none else some (.desc d j.cls j.prio j.batch j.seq)
  | none => (s.frameOf j).map fun f => .frame f j.cls j.batch j.seq

/-- Bytes an entry carries. -/
def LogEntry.load : LogEntry → Nat
  | .desc d _ _ _ _ => d.buf.length
  | .frame f _ _ _ => f.bytes.length
  | .eph e _ => e.data.length
  | .value _ b => b.length
  | _ => 0

/-- The inputs taken and the jobs first stamped at a stamp point leave in a LOG frame, jobs and STOP-class descriptors in the order of
their seq (R37); at 196,608 bytes the replicated classes wait
for the next stroke (R359). -/
def State.sendLog (s : State) (fresh : List Nat) : State :=
  if s.role != .primary then s
  else
    let jobs := (sortRank (s.disp.jobs.filter fun j => j.repl && fresh.contains j.id)).filterMap fun j => (s.entryOf j).map fun e => (j, e)
    let before : Job → Bool := fun j => match j.src with | .ring r _ => decide (r < 36) | _ => false
    let es := s.pai.inputs.filter (fun e => !e.isStop) ++ (jobs.filter fun x => before x.1).map Prod.snd ++
      s.pai.inputs.filter LogEntry.isStop ++ (jobs.filter fun x => !before x.1).map Prod.snd
    if es.isEmpty then s
    else
      let frag := (s.pai.sent.filter fun x => x.1 == s.sn).length
      let bytes := s.pai.logBytes + (es.map fun e => Config.logEntrySize e.load).sum
      let s := s.setPai { s.pai with inputs := [], logBytes := bytes
                                     sent := (s.pai.sent.filter fun x => decide (s.sn < x.1 + 4)) ++ [(s.sn, frag, es)] }
      let s := (s.peak PAI_LOG_PEAK bytes).sendMate frag s.sn (.log es)
      if 196608 ≤ bytes then s.setDisp { s.disp with holdRepl := true } else s

/-- LOG_END of the stroke before (R360), sent at 3 µs by a primary that held authority in it; the counts of the new stroke start. -/
def State.sendLogEnd (s : State) : State :=
  let m := s.sn - 1
  let s :=
    if s.role != .primary || decide (m < s.pai.authSn) then s
    else
      let mine := s.pai.sent.filter fun x => x.1 == m
      let digest := match s.pai.digests.find? fun x => x.1 == m - 1 with | some (_, some d) => d | _ => s.outDigest (m - 1) []
      let e : LogEnd := { count := (mine.map fun x => x.2.2.length).sum, bytes := s.pai.logBytes, prefixLen := s.disp.prefixLen,
                          abandoned := s.pai.abandoned, digest := digest, handover := s.pai.hand, final := s.pai.hand == some m,
                          sentAt := s.mateStamp true 3000, gotAt := s.pai.ackAt }
      let s := s.setPai { s.pai with endSent := some (m, e.sentAt) }
      s.sendMate mine.length m (.logEnd e)
  (s.setPai { s.pai with abandoned := [], logBytes := 0 }).setDisp { s.disp with prefixLen := List.replicate 8 0 }

/-! ### Release (R30, R362, R363) -/

/-- The outputs of a stroke may leave: on a primary whose mate stands by, only with its acknowledgement. -/
def State.mayRelease (s : State) (n : Nat) : Bool :=
  s.role != .primary ||
  match s.pai.mateStandby with
  | some k => decide (n < k) || s.pai.acked.contains n
  | none => s.get PAI_STATUS_SOLO != 1 || decide (s.sn < s.pai.grant)

/-- The outputs of the strokes to `n` leave at `ns` of this stroke; a unit without authority lets none out (R363). -/
def State.releaseOutputs (s : State) (n ns : Nat) : State :=
  let due : List DueCpl := s.rings.due.map fun c =>
    match c.due with | .release m => if m ≤ n then { c with due := .status } else c | .status => c
  let s := s.setRings { s.rings with due := due }
  if s.authority then (s.releaseFleet n ns).releaseMesh n (absNs s.sn ns)
  else
    let s := s.setFlt { s.flt with built := s.flt.built.filter fun b => decide (n + 1 < b.frame.sn) }
    s.setMsh { s.msh with acks := s.msh.acks.filter fun a => decide (n < a.sn) }

/-- Held strokes leave late, in order (R362): each counts, and so does an output that has missed its launch time. -/
def State.releaseLate (s : State) (ns : Nat) : Nat → State
  | 0 => s
  | k + 1 =>
    match s.pai.held with
    | [] => s
    | n :: r =>
      if !s.mayRelease n then s
      else
        let s := s.setPai { s.pai with held := r, acked := s.pai.acked.filter fun x => decide (n < x) }
        let before := s.num RAD_TX_REFUSED + s.num MSH_ACK_LATE
        let s := s.releaseOutputs n ns
        let s := s.count PAI_OUT_DROPPED (s.num RAD_TX_REFUSED + s.num MSH_ACK_LATE - before)
        (s.count PAI_ACK_LATE 1).releaseLate ns k

/-- Instant of stamp point `b` in its stroke (R30). -/
def stampNs (b : Nat) : Nat := 2000 + 31250 * b

/-- STAMP_POINT (R31, R45, R59, R360, R362): the jobs presented are stamped as batch `b`. From the second of a stroke on it is a
status point. -/
def execStampPoint (b : Nat) (s : State) : Host.Outcome State Fault Refusal :=
  .next (
    if !s.stroked || !s.serving || decide (8 ≤ b) then s
    else
      let s := if b = 0 then s.sendLogEnd else s
      let s := s.loopInputs.resumeOne
      let fresh := ((s.toStamp b).filter fun j => j.sn == 0).map Job.id
      let s := ((s.stampBatch b).sendLog fresh).endLate 64
      let s := (s.releaseLate (stampNs b) s.pai.held.length).pressure.showDisp
      if b = 0 then s else s.statusPoint)

/-- TIMER_RELEASE (R32): the NOT_BEFORE stroke of a delayed job has come; batch 0 stamps it. -/
def execTimerRelease (id : Nat) (s : State) : Host.Outcome State Fault Refusal :=
  .next (match s.job? id with
    | none => s
    | some j =>
      if j.phase == .delayed && s.stroked && s.serving && decide (j.notBefore ≤ s.jobSn j) then
        (s.modJob id fun j => { j with phase := .presented }).showDisp
      else s)

/-- RELEASE_POINT (R30, R59, R362): the outputs of SN − 1 leave, or are held behind an acknowledgement that has not come. -/
def execReleasePoint (s : State) : Host.Outcome State Fault Refusal :=
  .next (
    if !s.stroked || !s.serving then s
    else
      let n := s.sn - 1
      let ns := 1000 * s.get STK_PHASE_CFG_RELEASE_OFS
      let s := if s.pai.mateStandby.isNone then s.releaseLate ns s.pai.held.length else s
      let s :=
        if s.pai.held.isEmpty && s.mayRelease n then
          (s.setPai { s.pai with acked := s.pai.acked.filter fun x => decide (n < x) }).releaseOutputs n ns
        else s.setPai { s.pai with held := s.pai.held ++ [n] }
      s.statusPoint)

/-! ### Close and seal -/

/-- CLOSE_POINT (R30): stroke-bound work of this SN ends. A primary whose mate stands by and has not acknowledged the stroke before
counts an ACK miss (R368); the snapshot of this stroke is copied (R377). -/
def execClosePoint (s : State) : Host.Outcome State Fault Refusal :=
  .next (
    if !s.stroked || !s.serving then s
    else
      let s := s.setDisp { s.disp with closed := true }
      let waits := s.role == .primary && match s.pai.mateStandby with | some k => decide (k < s.sn) | none => false
      let missed := waits && (s.pai.held.contains (s.sn - 1)) && !s.pai.acked.contains (s.sn - 1)
      let s := if missed then (s.setPai { s.pai with ackMiss := s.pai.ackMiss + 1 }).count PAI_HB_MISS 1 else s
      if s.pai.snapAt = some s.sn then
        let s := s.setPai { s.pai with snapAt := none, snapGiven := some s.sn }
        s.sendMate 0 s.sn (.snapshot true (some s.snapshot))
      else s)

/-- SEAL_POINT (R30, R364, R365): the output digest of the stroke is formed, and compared where this unit shadows its mate. -/
def execSealPoint (s : State) : Host.Outcome State Fault Refusal :=
  .next (if s.stroked && s.serving then s.sealPair else s)

/-! ### Overruns and missed deadlines (R41, R42) -/

/-- STROKE_OVERRUN (R41): stroke-bound work, of a ring, of an intake or of a block, has not committed by the close point. -/
def execStrokeOverrun (id : Nat) (s : State) : Host.Outcome State Fault Refusal :=
  .next (
    if !s.stroked || !s.serving then s
    else match s.job? id with
      | none => s
      | some j => if s.pastClose j then ((s.noteOverrun j.cls j.prio j.seq j.tag).endOver j).showDisp else s)

/-- The request of a KEY_ATTEST to the Wellhouse is given up. -/
def State.dropStatement (s : State) (d : Desc) : State :=
  s.setWlg { s.wlg with reqs := s.wlg.reqs.filter fun r => r.2.1 != d }

/-- A solution that a primary abandons is logged (R42): its robot, above the ring numbers, and its epoch. -/
def State.logMissed (s : State) (robot : Nat) (w : Solve) : State :=
  if s.role = Role.primary then s.setPai { s.pai with abandoned := s.pai.abandoned ++ [(256 + robot, w.epochSn)] } else s

/-- DEADLINE_MISS (R42, R56): deadline work not finished by the close point of its deadline SN is abandoned. A KEY_ATTEST that
still waits for the Wellhouse's statement ends with the main die's alone (R397); a solution keeps its previous record (R198). -/
def execDeadlineMiss (t : MissTarget) (s : State) : Host.Outcome State Fault Refusal :=
  .next (
    if !s.serving then s
    else match t with
      | .job id =>
        match s.job? id with
        | none => s
        | some j =>
          if !s.pastDeadline j then s
          else
            match j.desc with
            | some d =>
              if s.wlg.reqs.any fun r => r.2.1 == d && d.opcode == 0xE007 then (s.dropStatement d).finish d ((s.dropStatement d).attest d none)
              else (((s.noteMiss j.cls j.deadline j.tag).noteAbandoned j).endOver j).showDisp
            | none => (((s.noteMiss j.cls j.deadline 0).noteAbandoned j).endOver j).showDisp
      | .solve robot =>
        if !s.stroked || !s.disp.closed then s
        else match s.missedSolves.find? fun x => x.1 == robot with
          | none => s
          | some (r, v, w) => ((s.noteMiss 1 w.deadline 0).logMissed r w).abandonSolve r v w)

/-! ### The free-running count (R56) -/

/-- FREE_RUNNING_COUNT_PERIOD (R56): a period of the count before the first stroke edge: its descriptors are stamped with SN 0 and
its status point writes the completions due. -/
def execFreeRunningCountPeriod (s : State) : Host.Outcome State Fault Refusal :=
  .next (
    if s.stroked || !s.mainLive then s
    else
      let s := (s.setTim { s.tim with periods := s.tim.periods + 1 }).setGns
        { s.gns with upPeriods := s.gns.upPeriods + 1, aon := s.gns.aon + 1024 }
      let s := s.resetOutTick.showHoldover.slewTb1
      if !s.serving then s
      else
        let s := (s.ptpEdge.resumeOne.stampBatch 0).pressure.showDisp
        s.statusPoint)

/-! ### The cores' watchdog (R20) -/

/-- CORE_WATCHDOG (R20): a service core has not serviced its watchdog in this stroke; at the fourth stroke running the device
halts. `missed` false: the core serviced it. -/
def execCoreWatchdog (core : Nat) (missed : Bool) (s : State) : Host.Outcome State Fault Refusal :=
  .next (
    if !s.stroked || !s.serving || decide (8 ≤ core) then s
    else
      let n := if missed then s.disp.wdMissed.getD core 0 + 1 else 0
      let s := s.setDisp { s.disp with wdMissed := s.disp.wdMissed.set core n }
      if 4 ≤ n then (s.fatalHalt 2).record EV_CORE_WATCHDOG 0 core n 0 else s)

end Sys2Proof.Machine
end

