-- ==== Sys2Proof/Machine/System.lean ====
section
/-! DEFINITION. SYSTEM (R481–R497, R506, R527): supplies and resets, the image bundle and boot, engagement, QUIET, DORMANT, the
thermal alert, flash and fuses. -/

namespace Sys2Proof.Machine

open Sys2Proof

/-! ### Supplies and resets (R492, R494, R527) -/

/-- Registers held in AON (R398, R492). -/
def aonRegs : List Nat := [SYS_WAKE_CAUSE, KEY_TAMP_CFG, KEY_TAMP_LATCH, KEY_TAMP_COUNT]

/-- The recorder after a reset (R469): cleared, or kept with its store; a freeze in force ends. -/
def Recorder.afterReset (l : Recorder) (kept : Bool) (sn : Nat) : Recorder :=
  if !kept then {}
  else { (if l.frozen then l.thaw sn else l) with started := false }

/-- The device in RESET after a reset of a kind (R492): every register and engine at its reset value, but for AON, a kept recorder
store, the fuses, the boot flash and the Wellhouse. -/
def State.reinit (s : State) (kind : Nat) : State :=
  let aon := kind != 1
  let regs : Tab Word := if aon then s.regs.filter fun x => aonRegs.contains x.1 else []
  let key : Keys := if aon then { lockOn := s.key.lockOn, zeroOn := s.key.zeroOn, owed := s.key.owed } else {}
  let gns : Gnss := if aon then { keepAlive := s.gns.keepAlive, forgetKa := s.gns.forgetKa, aon := s.gns.aon } else {}
  { State.reset with
    pending := s.pending, part := s.part, fuses := s.fuses, pins := s.pins, straps := s.straps, regs := regs
    sys := { flash := s.sys.flash, kind := kind }, log := s.log.afterReset (kind == 3 || kind == 4) s.sn
    key := key, gns := gns, wel := s.wel, reply := s.reply, out := s.out, free := s.free }

/-- The AON domain loses its supply: keep-alive, tamper configuration and latches, wake cause and DORMANT are lost (R506). -/
def State.loseAon (s : State) : State :=
  { s with
    regs := s.regs.filter fun x => !aonRegs.contains x.1
    key := { s.key with lockOn := false, zeroOn := false, owed := [] }
    gns := { s.gns with keepAlive := none, forgetKa := false, aon := 0 }
    dev := if s.dev = DevState.dormant then .reset else s.dev
    pins := { s.pins with aonSupply := false } }

/-- RECORDER_START is the first record after a reset, and the FROZEN_END of a freeze that the reset ended the second (R469). -/
def State.startRecorder (s : State) : State :=
  if s.log.started then s
  else
    let owed := s.log.owedEnd
    let s := s.setLog { s.log with owedEnd := none, started := true }
    let s := s.record EV_RECORDER_START 0 (if s.sys.kind ≤ 2 then 1 else 2) (lo32 s.log.nextSeq) 0
    (s.setLog { s.log with owedEnd := owed }).flushLog

/-- The main supplies come into range (R492, R494): a main-power reset where an AON supply was held throughout, which wakes a
DORMANT device, else a cold one. -/
def State.powerOn (s : State) : State :=
  let kind := if s.pins.aonSupply then 2 else 1
  let was := s.dev
  let s := { (s.reinit kind) with pins := { s.pins with mainSupply := true, aonSupply := true, resetN := false } }
  let s := s.startRecorder
  if was = DevState.dormant then
    (s.put SYS_WAKE_CAUSE_BITS (s.get SYS_WAKE_CAUSE_BITS / 4 * 4 + 1)).record EV_STATE_CHANGE 0 DevState.dormant.code DevState.reset.code 0
  else s

/-- POWER_UP (R492). -/
def execPowerUp (vbat : Bool) (s : State) : Host.Outcome State Fault Refusal :=
  .next (
    if s.pins.mainSupply then s
    else ({ s with pins := { s.pins with vbat := vbat } } : State).powerOn)

/-- A reset with the supplies held (R492): the change of state is recorded, then the device is in RESET. -/
def State.resetHeld (s : State) (kind : Nat) : State :=
  (s.record EV_STATE_CHANGE 0 s.dev.code DevState.reset.code 0).reinit kind

/-- A RESET_N edge wakes a DORMANT device whose main supplies are on (R494). -/
def State.wakeByPin (s : State) : State :=
  let s := s.resetHeld 3
  s.put SYS_WAKE_CAUSE_BITS (s.get SYS_WAKE_CAUSE_BITS / 4 * 4 + 2)

/-- RESET_N_LOW (R492, R494): with the main supplies off RESET_N has no effect. -/
def execResetNLow (s : State) : Host.Outcome State Fault Refusal :=
  .next (
    if !s.pins.mainSupply then s
    else
      let s : State := { s with pins := { s.pins with resetN := false } }
      if s.dev = DevState.reset then s else if s.dev = DevState.dormant then s.wakeByPin else s.resetHeld 3)

/-- RESET_RELEASE (R484, R489, R469): the rising edge of RESET_N samples the straps; with TEST_MODE low the device enters BOOT. -/
def execResetRelease (boot : Nat) (pairId pref test : Bool) (s : State) : Host.Outcome State Fault Refusal :=
  .next (
    if !s.pins.mainSupply || s.dev != .reset then s
    else
      let straps : Straps := if s.pins.resetN then s.straps else { boot := boot % 4, pairId := pairId, pairPref := pref, testMode := test }
      let s : State := { s with pins := { s.pins with resetN := true }, straps := straps }
      if test then s else s.startRecorder.setDev .boot)

/-- COMMANDED_RESET (R492): the reset key in SYS_RESET_CMD. -/
def execCommandedReset (s : State) : Host.Outcome State Fault Refusal := .next (if s.mainLive then s.resetHeld 4 else s)

/-- DORMANT is entered (R494): the stop outputs fall, the keep-alive data is written, every engine and the tokens stop; no key, SN
or replicated state survives; the main supplies may then be removed. -/
def State.enterDormant (s : State) : State :=
  let s := (s.setDev .dormant).writeKeepAlive
  let key : Keys := { lockOn := s.key.lockOn, zeroOn := s.key.zeroOn, owed := s.key.owed }
  let gns : Gnss := { keepAlive := s.gns.keepAlive, forgetKa := s.gns.forgetKa, aon := s.gns.aon }
  let s : State :=
    { State.reset with
      pending := s.pending, part := s.part, fuses := s.fuses, pins := s.pins, straps := s.straps, dev := .dormant, regs := s.regs
      sys := s.sys, log := s.log, key := key, gns := gns, wel := s.wel, reply := s.reply, out := s.out, free := s.free }
  (s.put STK_STATUS_ANCHORED 0).put SYS_STATUS_DORMANT_READY 1

/-- DORMANT_COMMAND (R494): the dormant key in SYS_RESET_CMD; in RESET, BOOT and HALT it is ignored. -/
def execDormantCommand (s : State) : Host.Outcome State Fault Refusal := .next (if s.serving then s.enterDormant else s)

/-- The main die is unpowered without DORMANT (R527): it drives nothing and records nothing. -/
def State.unpowered (s : State) : State :=
  let s := { (s.reinit 2) with pins := { s.pins with mainSupply := false, aonSupply := s.pins.vbat, resetN := false } }
  if s.pins.vbat then s else s.loseAon

/-- MAIN_SUPPLY_LOSS (R494, R527). -/
def execMainSupplyLoss (s : State) : Host.Outcome State Fault Refusal :=
  .next (
    if !s.pins.mainSupply then s
    else if s.pins.vbat && (s.serving || s.dev == .dormant) then
      let t := if s.dev = DevState.dormant then s else s.enterDormant
      { t with pins := { t.pins with mainSupply := false } }
    else s.unpowered)

/-- VBAT_LOSS (R506): with the main supplies off no AON supply is left. -/
def execVbatLoss (s : State) : Host.Outcome State Fault Refusal :=
  .next (
    let s : State := { s with pins := { s.pins with vbat := false } }
    if s.pins.mainSupply then s else s.loseAon)

/-- WAKE (R494): the main supplies return, or RESET_N has an edge while they are on. -/
def execWake (byMain : Bool) (s : State) : Host.Outcome State Fault Refusal :=
  .next (
    if s.dev != .dormant || byMain == s.pins.mainSupply then s
    else if byMain then s.powerOn
    else ({ s with pins := { s.pins with resetN := false } } : State).wakeByPin)

/-! ### The image bundle (R485, R487) -/

/-- Bytes of the boot flash; an erased cell reads 0xFF. -/
def State.flashRead (s : State) (o n : Nat) : List Byte := (List.range n).map fun i => cget (fun _ => 0xFF) s.sys.flash (o + i)

/-- Fields of a bundle header and of its part entries (R485). -/
def bundleParts (h : List Byte) : Nat := leAt h 6 1
def bundleRollback (h : List Byte) : Nat := leAt h 7 1
def bundleLen (h : List Byte) : Nat := leAt h 12 4
def partType (h : List Byte) (p : Nat) : Nat := leAt h (128 + 48 * p) 1
def partOfs (h : List Byte) (p : Nat) : Nat := leAt h (132 + 48 * p) 4
def partLen (h : List Byte) (p : Nat) : Nat := leAt h (136 + 48 * p) 4
def partHash (h : List Byte) (p : Nat) : List Byte := slice h (144 + 48 * p) 32
def ownerKey (h : List Byte) : List Byte := slice h 32 64

/-- Bytes that must be zero. -/
def allZero (h : List Byte) (o n : Nat) : Bool := (slice h o n).all fun b => b == 0

/-- The types of R485: exactly one of TYPE 1 and of TYPE 2, at most one of TYPE 3, which is part 0, and of TYPE 4. -/
def typesOk (h : List Byte) (n : Nat) : Bool :=
  let ts := (List.range n).map (partType h)
  ts.all (fun t => decide (1 ≤ t) && decide (t ≤ 4)) && ts.count 1 == 1 && ts.count 2 == 1 && decide (ts.count 3 ≤ 1) &&
  decide (ts.count 4 ≤ 1) && !((ts.drop 1).contains 3)

/-- header_valid() of R487. -/
def headerValid (h : List Byte) : Bool :=
  let n := bundleParts h
  slice h 0 4 == ascii "GWBI" && leAt h 4 2 == 1 && decide (1 ≤ n) && decide (n ≤ 16) &&
  decide (1024 ≤ bundleLen h) && decide (bundleLen h ≤ 0x01000000) && typesOk h n && allZero h 16 16 && allZero h 96 32 &&
  allZero h (128 + 48 * n) (48 * (16 - n)) &&
  (List.range n).all fun p =>
    allZero h (129 + 48 * p) 3 && allZero h (140 + 48 * p) 4 && decide (partOfs h p + partLen h p ≤ bundleLen h)

/-- Rollback level: ANTIROLL bits blown (R487). -/
def State.rollbackLevel (s : State) : Nat := s.fuses.antiroll

/-- Owner slots: programmed and not revoked (R487). -/
def State.ownerSlots (s : State) : List HashSlot := s.fuses.slots.filter fun x => x.programmed && !x.revoked

/-- The owner test of R487. -/
def State.ownerOk (s : State) (h : List Byte) : Bool :=
  !(s.fuses.slots.any fun x => x.programmed) ||
  ((s.ownerSlots.any fun x => x.hash == Config.sha256 (ownerKey h)) && Config.ecdsaVerify (ownerKey h) (slice h 0 960) (slice h 960 64))

/-- The first part of a bundle at flash offset `base` that fails, with cause 5 or 6; DRAM trains with part 0. -/
def State.partsFail (s : State) (base : Nat) (h : List Byte) (trained : Bool) : Option (Nat × Nat) :=
  (List.range (bundleParts h)).findSome? fun p =>
    if Config.sha256 (s.flashRead (base + partOfs h p) (partLen h p)) != partHash h p then some (5, p)
    else if p == 0 && !trained then some (6, p)
    else none

/-- Cause and part index at which a copy fails R487, if it does. -/
def State.copyFails (s : State) (copy : Nat) (trained : Bool) : Option (Nat × Nat) :=
  let h := s.flashRead (copy * 0x01000000) 1024
  if s.straps.boot = 3 then some (7, 0xFF)
  else if !headerValid h then some (1, 0xFF)
  else if !Config.ecdsaVerify Config.gwemetKey (slice h 0 896) (slice h 896 64) then some (2, 0xFF)
  else if !s.ownerOk h then some (3, 0xFF)
  else if bundleRollback h < s.rollbackLevel then some (4, 0xFF)
  else s.partsFail (copy * 0x01000000) h trained

/-- The pairs of a TYPE 4 part (R486). -/
def readPairs (bs : List Byte) : List (Nat × Nat) :=
  (List.range (bs.length / 8)).map fun i => (leAt bs (8 * i) 4, leAt bs (8 * i + 4) 4)

/-- The registers and state of the bundle booted (R487, R497). -/
def State.showBoot (s : State) (copy : Nat) : State :=
  let base := copy * 0x01000000
  let h := s.flashRead base 1024
  let n := bundleParts h
  let conf := ((List.range n).find? fun p => partType h p == 4).map fun p => readPairs (s.flashRead (base + partOfs h p) (partLen h p))
  let parts : List LoadedPart := (List.range n).map fun p => ⟨partType h p, partHash h p⟩
  let s := s.setSys { s.sys with rollback := bundleRollback h, fwVersion := leAt h 8 4, loaded := parts, config := conf.getD [] }
  let s := (s.put SYS_STATUS_BOOT_COPY copy).setNum IDN_FW_VERSION s.sys.fwVersion
  let s := (s.put SYS_BOOT_INFO_ROLLBACK s.sys.rollback).put SYS_BOOT_INFO_LEVEL s.rollbackLevel
  (s.put SYS_BOOT_INFO_NPART n).put SYS_BOOT_INFO_OWNER (b2n (!allZero h 960 64))

/-- A copy fails (R487). -/
def State.bootFail (s : State) (copy : Nat) (f : Nat × Nat) : State := s.record EV_BOOT_FAIL 0 copy f.1 f.2

/-! ### Engagement (R490) -/

/-- Square of the distance of an ECEF point in 0.1 mm from the earth's centre lies within 6,340 km to 6,400 km. -/
def inShell (p : Int × Int × Int) : Bool :=
  let d := p.1 * p.1 + p.2.1 * p.2.1 + p.2.2 * p.2.2
  decide (63400000000 * 63400000000 ≤ d) && decide (d ≤ 64000000000 * 64000000000)

/-- Offsets at which indexed registers fail. -/
def failing (n ofs step : Nat) (p : Nat → Bool) : List Nat := ((List.range n).filter p).map fun i => ofs + step * i

/-- An offset when a condition holds. -/
def failIf (c : Bool) (ofs : Nat) : List Nat := if c then [ofs] else []

/-- Ports that can be lossless: physical ports and the mate link (R314). -/
def headroomPort (p : Nat) : Bool := decide (p < 24) || p == 43

/-- CISTERN (R314). -/
def State.cisternFails (s : State) : List Nat :=
  let sum (f : Nat → Fld) : Nat := ((List.range 48).map fun n => s.get (f n)).sum
  failIf (decide (65536 < sum CIS_MIN_CELLS + sum CIS_ADM_HDRM + 8192)) 0x018 ++
  failing 48 0x100 16 (fun n => decide (44 ≤ n) && s.get (CIS_MIN_CELLS n) != 0) ++
  failing 48 0x104 16 (fun n => !headroomPort n && s.get (CIS_ADM_HDRM n) != 0) ++
  failing 48 0x400 8 (fun n => headroomPort n && decide (s.get (CIS_PFC_XOFF n) ≤ s.get (CIS_PFC_XON n)))

/-- PORTS (R314). -/
def State.portsFails (s : State) : List Nat :=
  failing 24 0x800 4 fun n =>
    (s.flag (PRT_CFG_PAUSE_EN n) && s.flag (PRT_CFG_PFC_EN n)) || s.get (PRT_CFG_SPEED n) == 3 ||
    (decide (4 ≤ n) && s.get (PRT_CFG_SPEED n) != 2)

/-- TIME (R83, R100). -/
def State.timeFails (s : State) : List Nat :=
  failIf (decide (127 < s.get TIM_TB1_CFG_DOMAIN)) 0x040 ++ failIf (s.asnBase % 40 != 0) 0x060

/-- GNSS (R102, R103, R114). -/
def State.gnssFails (s : State) : List Nat :=
  let on (p : Nat) : Bool := s.flag (GNS_PORT_CFG_ENABLE p)
  failIf (!s.flag GNS_CFG_ARP_MODE && !inShell s.cfgArp) 0x020 ++
  failing 4 0x100 16 fun p => s.get (GNS_PORT_CFG_RATE p) == 3 ||
    (on p && (List.range 4).any fun q => q != p && on q && s.get (GNS_PORT_CFG_BAND q) == s.get (GNS_PORT_CFG_BAND p))

/-- Sample rate of a RATE code of an RF port in kHz (R126). -/
def radRate (c : Nat) : Nat := 7680 * 2 ^ c

/-- A channel of a MODE fits its port at an offset in Hz (R132). -/
def State.chanFits (s : State) (port mode : Nat) (ofs : Int) : Bool :=
  match modeInfo mode with
  | some (_, half) => decide (5 * (absI ofs + 100000 * half) ≤ 2000 * radRate (s.get (RAD_PORT_CFG_RATE port)))
  | none => true

/-- Receive channels enabled, as (port, channel). -/
def State.rxChans (s : State) : List (Nat × Nat) :=
  (List.range 8).flatMap fun p => ((List.range 32).filter fun j => s.flag (RAD_RX_CFG_ENABLE p j)).map fun j => (p, j)

/-- RADIO (R133). -/
def State.radioFails (s : State) : List Nat :=
  let cfl := s.rxChans.filter fun x => isCfl (s.get (RAD_RX_CFG_MODE x.1 x.2))
  failing 8 0x1004 0x400 (fun p => decide (8000 < s.get (RAD_PORT_LAT_RX p)) || decide (8000 < s.get (RAD_PORT_LAT_TX p))) ++
  ((cfl.drop 8).map fun x => 0x1100 + 0x400 * x.1 + 8 * x.2) ++
  (List.range 8).flatMap fun p =>
    failing 32 (0x1100 + 0x400 * p) 8 (fun j => s.flag (RAD_RX_CFG_ENABLE p j) && (modeInfo (s.get (RAD_RX_CFG_MODE p j))).isNone) ++
    failing 32 (0x1104 + 0x400 * p) 8 (fun j => s.flag (RAD_RX_CFG_ENABLE p j) &&
      !s.chanFits p (s.get (RAD_RX_CFG_MODE p j)) (signed 32 (s.num (RAD_RX_OFS p j)))) ++
    failing 4 (0x1200 + 0x400 * p) 8 (fun j => s.flag (RAD_TX_CFG_ENABLE p j) && (modeInfo (s.get (RAD_TX_CFG_MODE p j))).isNone) ++
    failing 4 (0x1204 + 0x400 * p) 8 (fun j => s.flag (RAD_TX_CFG_ENABLE p j) &&
      !s.chanFits p (s.get (RAD_TX_CFG_MODE p j)) (signed 32 (s.num (RAD_TX_OFS p j))))

/-- FLEET (R158). -/
def State.fleetFails (s : State) : List Nat :=
  failing 8 0x020 4 fun c =>
    let port (c : Nat) : Nat := s.get (FLT_CHAN_PORT c)
    let rxMode := s.get (RAD_RX_CFG_MODE (port c) (s.get (FLT_CHAN_RXCH c)))
    s.flag (FLT_CHAN_ENABLE c) &&
    (!isCfl rxMode || s.get (RAD_TX_CFG_MODE (port c) (s.get (FLT_CHAN_TXCH c))) != rxMode || decide (4 < s.get (RAD_RAMP_CFG_RAMP_US (port c))) ||
     (List.range 8).any fun e => e != c && s.flag (FLT_CHAN_ENABLE e) && port e == port c &&
       (s.get (FLT_CHAN_RXCH e) == s.get (FLT_CHAN_RXCH c) || s.get (FLT_CHAN_TXCH e) == s.get (FLT_CHAN_TXCH c)))

/-- The origin of BASELINE (R210). -/
def State.bslOrigin (s : State) : Int × Int × Int :=
  (s.arpReg BSL_ORIGIN_X_LO BSL_ORIGIN_X_HI, s.arpReg BSL_ORIGIN_Y_LO BSL_ORIGIN_Y_HI, s.arpReg BSL_ORIGIN_Z_LO BSL_ORIGIN_Z_HI)

/-- BASELINE (R210). -/
def State.baselineFails (s : State) : List Nat := failIf (s.flag BSL_CFG_ENABLE && !inShell s.bslOrigin) 0x028

/-- Entries of the hopping sequences, as (sequence, entry, mesh channel). -/
def State.hopEntries (s : State) : List (Nat × Nat × Nat) :=
  (List.range 16).flatMap fun q => (List.range (s.hopLen q)).map fun i => (q, i, s.get (MSH_HOP_CHAN q i))

/-- The channel conditions of R258 that an enabled mesh channel breaks. -/
def State.meshChanBad (s : State) (c : Nat) : Bool :=
  let p := s.get (MSH_CHAN_PORT c)
  let r := s.get (MSH_CHAN_RXCH c)
  let t := s.get (MSH_CHAN_TXCH c)
  let rm := s.get (RAD_RX_CFG_MODE p r)
  let tm := s.get (RAD_TX_CFG_MODE p t)
  let legacyMode (m : Nat) : Bool := m == 0x01 || (decide (0x10 ≤ m) && decide (m ≤ 0x13))
  !s.flag (RAD_RX_CFG_ENABLE p r) || !s.flag (RAD_TX_CFG_ENABLE p t) || isCfl rm || isCfl tm || rm != tm ||
  (s.flag (MSH_CHAN_LEGACY c) && (!legacyMode rm || !legacyMode tm ||
    (s.flag MSH_CFG_ENABLE && s.hopEntries.any fun e => e.2.2 == c)))

/-- MESH (R258, R283, R293, R310). -/
def State.meshFails (s : State) : List Nat :=
  let some' := (List.range 64).any fun c => s.flag (MSH_CHAN_ENABLE c)
  let es := if s.flag MSH_CFG_ENABLE then s.hopEntries else []
  failIf (s.get MSH_CFG_SEC_LEVEL == 3) 0x014 ++
  failIf (some' && (decide (s.get MSH_WIDE_US_US < s.get MSH_GUARD_GUARD_US) || decide (s.get MSH_TEMPLATE_TX_OFFSET_US < s.get MSH_WIDE_US_US))) 0x020 ++
  failing 64 0x100 4 (fun c => s.flag (MSH_CHAN_ENABLE c) && s.meshChanBad c) ++
  ((es.filter fun e => !s.flag (MSH_CHAN_ENABLE e.2.2) || s.flag (MSH_CHAN_LEGACY e.2.2) ||
      decide (1 < (es.filter fun f => f.2.2 == e.2.2).length)).map fun e => 0x300 + 0x40 * e.1 + 4 * e.2.1) ++
  failIf (decide (127 < s.get MSH_NET_CFG_RPL_INSTANCE)) 0x1000

/-- KEYS (R490). -/
def State.keysFails (s : State) : List Nat :=
  failIf (!s.siteLoaded && (s.flag FLT_CFG_ENABLE || s.flag MSH_CFG_ENABLE || s.flag PAI_CFG_ENABLE)) 0x010

/-- MOTION (R444, R451). -/
def State.motionFails (s : State) : List Nat :=
  failing 16 0x100 0x40 fun n => (decide (4 ≤ n) && s.get (MOT_AXIS_CFG_MODE n) == 1) || s.get (MOT_AXIS_CFG_GINH_DIR n) == 3

/-- Destinations of the loops that no two may share: PWM output, axis, loop setpoint. -/
def State.loopDst (s : State) (n : Nat) : Option (Nat × Nat) :=
  let w := s.num (LOP_DST n)
  match selKind w with
  | 1 => some (1, selIndex w % 16)
  | 2 => some (2, selIndex w % 16)
  | 4 => some (4, selIndex w % 32)
  | _ => none

/-- LOOPS (R452, R454). -/
def State.loopsFails (s : State) : List Nat :=
  let shared (n : Nat) : Bool := (s.loopDst n).isSome && (List.range 32).any fun m => m != n && s.loopDst m == s.loopDst n
  failing 32 0x1000 0x80 (fun n => decide (s.loopPeriod n ≤ s.get (LOP_CFG_PHASE n))) ++
  failing 32 0x1004 0x80 (fun n => decide (4 < selKind (s.num (LOP_SRC_PV n)))) ++
  failing 32 0x1008 0x80 (fun n => decide (4 < selKind (s.num (LOP_SRC_FF n)))) ++
  failing 32 0x100C 0x80 (fun n => decide (4 < selKind (s.num (LOP_DST n))) || s.innerOf n == some n || shared n) ++
  failing 32 0x102C 0x80 (fun n => !(s.loopPar n 7).lt (s.loopPar n 8))

/-- Offsets in a capability at which SYS_ENGAGE is refused. -/
def State.capFails (s : State) (cap : Nat) : List Nat :=
  match cap with
  | 0x04 => s.ringsRefuse.toList
  | 0x05 => s.cisternFails
  | 0x06 => s.portsFails
  | 0x08 => s.timeFails
  | 0x09 => s.gnssFails
  | 0x0A => s.radioFails
  | 0x0B => s.fleetFails
  | 0x0C => s.baselineFails
  | 0x0F => s.meshFails
  | 0x11 => s.keysFails
  | 0x13 => s.motionFails
  | 0x14 => s.loopsFails
  | 0x16 => failIf (decide (s.get MEM_DRAM_MIB_ATTACHED < 4096)) 0x018
  | _ => []

/-- Least of some offsets. -/
def leastOf : List Nat → Option Nat
  | [] => none
  | a :: r => match leastOf r with | some b => some (min a b) | none => some a

/-- The first failing condition in list order: capability, register offset (R490). -/
def State.engageErr (s : State) : Option (Nat × Nat) :=
  (List.range 23).findSome? fun cap => if s.capAbsent cap then none else (leastOf (s.capFails cap)).map fun o => (cap, o)

/-- A request is refused: SYS_ENGAGE_ERR and ENGAGE_REFUSED (R490, R55). -/
def State.refuseEngage (s : State) (cap ofs : Nat) : State :=
  (((s.put SYS_ENGAGE_ERR_CAP cap).put SYS_ENGAGE_ERR_OFS ofs).put SYS_ENGAGE_ERR_VALID 1).record EV_ENGAGE_REFUSED 0 cap ofs 0

/-- An accepted SYS_ENGAGE: the lock (R55), what is fixed by it (R85, R114, R314, R357, R459), and ANCHORING. -/
def State.acceptEngage (s : State) : State :=
  let s := (s.put SYS_STATUS_ENGAGED 1).setRings { s.rings with unlocked := false }
  let s := s.showDigest
  let sum (f : Nat → Fld) : Nat := ((List.range 48).map fun n => s.get (f n)).sum
  let s := s.put CIS_SHARED_N (65536 - (sum CIS_MIN_CELLS + sum CIS_ADM_HDRM) - s.net.quarantined.length)
  let s := s.put CIS_SHARED_FREE_N s.sharedFree
  let s := if s.flag GNS_CFG_ARP_MODE then s else (s.setGns { s.gns with arp := some s.cfgArp, lastArp := some s.cfgArp }).put GNS_STATUS_BASE_FIXED 1
  let s := if s.flag TIM_TB0_CFG_EFC_EN then s.put TIM_OSC_TUNE_V (s.get TIM_OSC_TUNE_INIT_V) else s
  (s.loopsStart.setTim { s.tim with floorSaid := false, epochSaid := false }).setDev .anchoring

/-- SYS_ENGAGE in SETUP. -/
def State.engage (s : State) : State :=
  if s.dev != .setup then s
  else match s.engageErr with
    | some (cap, ofs) => s.refuseEngage cap ofs
    | none => s.acceptEngage

/-- The relock of the RINGS registers (R55). -/
def State.relock (s : State) : State :=
  if !s.serving || !s.engaged || !s.rings.unlocked then s
  else match s.ringsRefuse with
    | some o => s.refuseEngage 4 o
    | none => s.setRings { s.rings with unlocked := false }

/-- SYS_ENGAGE (R490): SYS_CTRL.ENGAGE = 1. -/
def execSysEngage (s : State) : Host.Outcome State Fault Refusal := .next s.engage

/-- RINGS_RELOCK (R55): SYS_CTRL.ENGAGE = 1 on an engaged device after a host-link reset. -/
def execRingsRelock (s : State) : Host.Outcome State Fault Refusal := .next s.relock

/-- QUIET_REQUEST (R493): SYS_CTRL.QUIET; the device follows it at the next stroke edge. -/
def execQuietRequest (on : Bool) (s : State) : Host.Outcome State Fault Refusal :=
  .next (if s.mainLive then s.put SYS_CTRL_QUIET (b2n on) else s)

/-! ### A host write (R9, R486, R497) -/

/-- A host write of one DWORD at `ns` of the stroke. SYS_CTRL and SYS_RESET_CMD are SYSTEM's own requests. -/
def State.hostWrite (s : State) (a : Nat) (v : Word) (ns : Nat) : State :=
  if !s.mainLive then s
  else if a = SYS_CTRL then
    let s := s.put SYS_CTRL_QUIET (bitsOf v 1 1)
    if bitsOf v 0 1 = 0 then s else if s.engaged then s.relock else s.engage
  else if a = SYS_RESET_CMD then
    if v = 0xC77A0001 then s.resetHeld 4 else if v = 0xC77A0002 ∧ s.serving then s.enterDormant else s
  else s.busWrite a v ns

/-- REGISTER_WRITE (R9). -/
def execRegisterWrite (addr : Nat) (value : Word) (ns : Nat) (s : State) : Host.Outcome State Fault Refusal :=
  .next (s.hostWrite addr value ns)

/-! ### Boot (R486, R487) -/

/-- What boot finds and times before it reads a copy (R487). -/
def State.bootStart (s : State) (sfdp : Option Nat) (bootMs : Nat) : State :=
  let s := (s.setNum SYS_FLASH_SIZE (sfdp.getD 0x02000000)).setNum SYS_BOOT_MS bootMs
  s.setSys { s.sys with resetOutFor := 4 * bootMs, resetOutLow := decide (bootMs < 10) }

/-- A copy that failed is recorded. -/
def State.noteFail (s : State) (copy : Nat) : Option (Nat × Nat) → State
  | some f => s.bootFail copy f
  | none => s

/-- The copy runs (R487): the device is in SETUP, its configuration part is written, and a tamper response owed is taken. -/
def State.bootRun (s : State) (first : Option (Nat × Nat)) (dramMib aon : Nat) (ka : Option (List Byte)) : State :=
  let copy := b2n first.isSome
  let s := s.showBoot copy
  let s := match first with | some f => s.record EV_BOOT_FALLBACK 0 f.1 0 0 | none => s
  let s := s.record EV_BOOT_OK 0 copy s.sys.fwVersion s.rollbackLevel
  let s := ((s.put MEM_DRAM_MIB_ATTACHED dramMib).put MEM_DRAM_MIB_USABLE (dramMib - dramMib / 8)).put MEM_STATUS_DRAM_OK 1
  let s := (s.gnssStart aon ka).setDev .setup
  (s.sys.config.foldl (fun s x => s.hostWrite x.1 (BitVec.ofNat 32 x.2) 0) s).tamperOwed

/-- BOOT (R487): the boot ROM verifies copy 0, then copy 1. `train0`, `train1`: DRAM trains with the copy's parameters; `dramMib`:
capacity found; `sfdp`: density of the flash, when readable; `aon`: the AON cycle count; `ka`: the keep-alive bytes, where
they are not those written. -/
def execBoot (train0 train1 : Bool) (dramMib : Nat) (sfdp : Option Nat) (bootMs aon : Nat) (ka : Option (List Byte)) (s : State) :
    Host.Outcome State Fault Refusal :=
  .next (
    if s.dev != .boot then s
    else
      let s := s.bootStart sfdp bootMs
      let first := s.copyFails 0 train0
      let second := if first.isSome then s.copyFails 1 train1 else none
      let s := (s.noteFail 0 first).noteFail 1 second
      if second.isSome then s.fatalHalt 1 else s.bootRun first dramMib aon ka)

/-- DRAM_TRAINING_FAIL (R491): training fails after boot. -/
def execDramTrainingFail (s : State) : Host.Outcome State Fault Refusal :=
  .next (if s.serving then (s.put MEM_STATUS_DRAM_OK 0).fatalHalt 5 else s)

/-- THERMAL (R496, R497): the junction temperature in 1/16 °C. -/
def execThermal (junction : Int) (s : State) : Host.Outcome State Fault Refusal :=
  .next (if s.mainLive then (s.put SYS_TEMP_T (unsigned 16 (clampI (-32768) 32767 junction))).thermCheck else s)

/-! ### Flash and fuses (R488, R495) -/

/-- Flash cells set from some function of their address. -/
def flashFill (t : Tab Byte) (o n : Nat) (f : Nat → Byte) : Tab Byte :=
  (List.range n).foldl (fun t i => cput (fun _ => 0xFF) t (o + i) (f (o + i))) t

/-- An erase or a program fails (R495): the cells of its range hold what they hold, and how far it came is open. -/
def State.flashBroke (s : State) (o n : Nat) : CmdRes :=
  let k := s.free
  let s := (s.setSys { s.sys with flash := flashFill s.sys.flash o n (Config.flashByte k) }).drawn
  s.fail 0x10 (Config.freeNat k % (n + 1))

/-- SYS_FLASH (R495); `fail`: the part fails an erase or a program. Programming clears bits and sets none, and is read back. -/
def execSysFlash (d : Desc) (fail : Bool) (s : State) : Host.Outcome State Fault Refusal :=
  .next (s.command d fun s =>
    let op := d.op 32 1
    let o := d.op 36 4
    let n := d.op 40 4
    if s.num SYS_FLASH_SIZE < o + n || (op == 1 && (o % 0x10000 != 0 || n % 0x10000 != 0)) then s.fail 0x11
    else if op = 0 then s.answer d (s.flashRead o n) n
    else if fail then s.flashBroke o n
    else if op = 1 then (s.setSys { s.sys with flash := s.sys.flash.filter fun x => decide (x.1 < o) || decide (o + n ≤ x.1) }).ok n
    else
      let old := s.sys.flash
      let want (a : Nat) : Byte := d.buf.getD (a - o) 0
      let have' (a : Nat) : Byte := cget (fun _ => 0xFF) old a &&& want a
      let s := s.setSys { s.sys with flash := flashFill old o n have' }
      if (List.range n).all fun i => have' (o + i) == want (o + i) then s.ok n
      else s.drawn.fail 0x10 (Config.freeNat s.free % (n + 1)))

/-- The fuses changed. -/
def State.setSlot (s : State) (n : Nat) (x : HashSlot) : State := { s with fuses := { s.fuses with slots := lput s.fuses.slots n x } }

/-- A fuse change, failed or not, is recorded with the state that reads back; RESULT carries the level (R488). -/
def State.fuseEnd (s : State) (op slot : Nat) (good : Bool) : CmdRes :=
  let s := s.record EV_FUSE_PROGRAMMED 0 op slot s.rollbackLevel
  if good then s.ok s.rollbackLevel else s.fail 0x14 s.rollbackLevel

/-- SYS_FUSE (R488); `bad`: where a read-back is wrong: 0 the hash, else the programmed or revoked bit; for OP 2 the number of bits
that read back blown before one does not. -/
def execSysFuse (d : Desc) (bad : Option Nat) (s : State) : Host.Outcome State Fault Refusal :=
  .next (s.command d fun s =>
    let op := d.op 32 1
    let n := d.op 33 1
    let x := s.fuses.slots.getD n {}
    let level := s.rollbackLevel
    if s.dev != .setup then s.fail stLOCKED level
    else match op with
      | 0 =>
        if x.programmed || x.interrupted then s.fail 0x12 level
        else
          let hash := slice d.buf 0 32
          match bad with
          | none => (s.setSlot n { x with hash := hash, programmed := true }).fuseEnd 0 n true
          | some 0 => (s.drawn.setSlot n { x with hash := Config.freeBytes s.free 32, interrupted := true }).fuseEnd 0 n false
          | some _ => (s.setSlot n { x with hash := hash, interrupted := true }).fuseEnd 0 n false
      | 1 =>
        if !((List.range 3).any fun m => m != n && match s.fuses.slots[m]? with | some y => y.programmed && !y.revoked | none => false) then s.fail 0x13 level
        else if x.revoked then s.ok level
        else if bad.isSome then s.fuseEnd 1 n false
        else (s.setSlot n { x with revoked := true }).fuseEnd 1 n true
      | _ =>
        let goal := min 64 s.sys.rollback
        if goal ≤ level then s.ok level
        else
          let blown := match bad with | none => goal | some k => level + min k (goal - level - 1)
          ({ s with fuses := { s.fuses with antiroll := blown } } : State).fuseEnd 2 0 bad.isNone)

end Sys2Proof.Machine
end

