-- ==== Sys2Proof/Machine/FrameEnd.lean ====
section
/-! DEFINITION. The end of a copy at an Ethernet port, HOST, the radio side or the service cores (R324), and what it gives there. -/

namespace Sys2Proof.Machine

open Sys2Proof

/-- A packet to an own address reaches the service cores by port 41 (R346). Only the unit holding authority answers (R26): an echo
request; its reply enters the engine from port 41. -/
def State.answerEcho (s : State) (f : Frame) (at' : Nat) : State :=
  if !s.authority || !s.ownAddress (dstOf f.packet) then s
  else match echoReply f.packet with
    | none => s
    | some pkt => match s.storeFrame 41 f.cls pkt true none with
      | none => s
      | some (s, id) => match s.frame? id with
        | none => s
        | some g =>
          let (s, v) := s.lpmPass g pkt (s.candidates (dstOf pkt)) 1
          s.place id at' none none false v

/-- A frame read without damage reaches the block that it is for: a packet for the mesh or a robot as an input of the log (R12, R358), a
frame for the service cores. -/
def State.giveInner (s : State) (f : Frame) (at' : Nat) : InnerUse → State
  | .mesh c pkt =>
    (s.setMsh { s.msh with toMesh := s.msh.toMesh ++ [(c, pkt)] }).logInput (.value 0x07 ([0] ++ leBytes 2 c ++ pkt))
  | .fleet r pkt => (s.fleetQueueData r pkt).logInput (.value 0x07 ([1] ++ leBytes 2 r ++ pkt))
  | .svc => s.answerEcho f at'

/-- A port's read of a frame's cells with the memory error on the way, if any: whether it was uncorrectable. -/
def State.readCells (s : State) (port : Nat) (f : Frame) : Option CellErr → State × Bool
  | some x => s.cellRead port f x
  | none => (s, false)

/-- What a port's read of a frame gives: the state with any memory error noted, and the stomp cause of the copy. -/
def State.readCopy (s : State) (port : Nat) (f : Frame) (read : Option (List Byte)) (err : Option CellErr) : State × Option Nat :=
  let (s, hit) := s.readCells port f err
  let cause := ((s.frame? f.id).getD f).stompCause (read.getD f.bytes) hit
  (match cause with | some c => s.noteStomp port f.ingress c | none => s, cause)

/-- EGRESS_FRAME_END (R324): the last byte of the copy that a fabric port reads: an Ethernet port, HOST (40), MESH(p), FLEET(p) or SVC
(41). `read`: the bytes that the tap saw, where they are not those stored; `err`: a memory error on the way. A stomped copy leaves an
Ethernet port marked, reaches HOST marked, and is not sent by a radio; a service core's job gets nothing of it. -/
def execEgressFrameEnd (port atNs : Nat) (read : Option (List Byte)) (err : Option CellErr) (s : State) :
    Host.Outcome State Fault Refusal :=
  .next (if !s.serving then s else
    if port = 40 then
      match s.net.hostq with
      | [] => s
      | (id, reason, bytes) :: rest =>
        let s := s.setNet { s.net with hostq := rest }
        match s.frame? id with
        | none => s
        | some f =>
          let (s, cause) := s.readCopy 40 f read err
          ((s.hostFrame f reason bytes cause).endCopy id).weighPause f.ingress
    else if 24 ≤ port && port != 43 then
      match s.net.inner.find? fun x => x.port == port with
      | none => s
      | some x =>
        let s := s.setNet { s.net with inner := s.net.inner.erase x }
        match s.frame? x.frame with
        | none => s
        | some f =>
          let (s, cause) := s.readCopy port f read err
          ((if cause.isNone then s.giveInner f atNs x.use else s).endCopy f.id).weighPause f.ingress
    else match (s.eg port).busy with
      | none => s
      | some e =>
        let s := s.setEg port { s.eg port with busy := none }
        match s.frame? e.frame with
        | none => s.endDesc e.desc stMEM_UNCORR 0
        | some f =>
          let (s, cause) := s.readCopy port f read err
          let s := s.emit (.eth port e.bytes cause.isNone)
          let ts := s.stampAt port true e.start
          let s := if e.ptp.isSome && cause.isNone then s.ptpSent port e.bytes ts else s
          let s := s.endDesc e.desc (if cause = some 3 then stMEM_UNCORR else stOK)
            (if e.tsReq then ts % 1000000000 + 2 ^ 32 * lo32 (ts / 1000000000) else 0)
          (s.endCopy e.frame).weighPause f.ingress)

end Sys2Proof.Machine
end

