-- ==== Sys2Proof/Machine/Tables.lean ====
section
/-! DEFINITION. FRAME_OUT and the TABLES ring commands (R350, R352, R353). -/

namespace Sys2Proof.Machine

open Sys2Proof

/-- A command that names a reserved port, or the mate link's, ends with BAD_DESC (R22). -/
def State.badPort (s : State) (d : Desc) : CmdRes := (s.noteBadDesc d).fail stBAD_DESC

/-- Launch time of a FRAME_SEND in ns of the port's time base. -/
def launchOf (d : Desc) : Option Nat :=
  if bit (d.op 37 1) 1 then some (d.op 48 8 * 1000000000 + d.op 44 4) else none

/-- The frame of a FRAME_SEND is placed: the command ends now, or with its first Ethernet copy when it carries a launch time
or asks for a timestamp. -/
def State.sendPlaced (s : State) (d : Desc) (id : Nat) (v : Verdict) : CmdRes :=
  let waits := bit (d.op 37 1) 1 || bit (d.op 37 1) 2
  match v with
  | .notAuthority => (s.freeFrame id).fail stNOT_AUTHORITY
  | .copies ((q, b) :: r) host =>
    if r.isEmpty && host.isNone && !s.linkOf q then (s.freeFrame id).fail 0x11
    else if waits then (s.place id 0 (launchOf d) (some d) (bit (d.op 37 1) 2) (.copies ((q, b) :: r) host)).later
    else (s.place id 0 none none false v).ok
  | .again cand =>
    if waits then (s.place id 0 (launchOf d) (some d) (bit (d.op 37 1) 2) (.again cand)).later
    else (s.place id 0 none (some d) false (.again cand)).later
  | v => (s.place id 0 none none false v).ok

/-- FRAME_SEND (R350): MODE 0 enters the engine as ingress from HOST, MODE 1 goes directly to the egress port. A frame that
cannot be admitted is not consumed (R315). -/
def execFrameSend (d : Desc) (s : State) : Host.Outcome State Fault Refusal :=
  .next (s.command d fun s =>
    let bytes := slice d.buf 0 d.bufLen
    let direct := d.op 32 1 == 1
    let p := d.op 33 1
    if direct && !s.fabricOk p then s.badPort d
    else if bit (d.op 37 1) 0 && crc32c bytes != d.op 40 4 then s.fail 0x10
    else if direct && decide (p < 24) && !s.linkOf p then s.fail 0x11
    else if direct && decide (24 ≤ p) && p != 40 then s.fail 0x11
    else match s.storeFrame 40 (d.op 36 1) bytes true none with
      | none => s.later
      | some (s, id) =>
        let s := s.modFrame id fun f => { f with vlan := d.op 34 2 }
        match s.frame? id with
        | none => s.ok
        | some f =>
          if direct then
            s.sendPlaced d id (if p = 40 then .copies [] (some (1, bytes)) else .copies [(p, bytes)] none)
          else
            let (s, v) := s.lookup f
            s.sendPlaced d id v)

/-! ### TABLES (R352) -/

/-- L2 key of a command: MAC at 32–37, VLAN at 38–39. -/
def macOp (d : Desc) : List Byte := macKey (d.op 38 2) (slice d.ops 0 6)

/-- FWD_MAC_ADD: adds or replaces the entry; NO_RESOURCE where R339 fails. -/
def execFwdMacAdd (d : Desc) (s : State) : Host.Outcome State Fault Refusal :=
  .next (s.command d fun s =>
    if !s.fabricOk (d.op 40 1) then s.badPort d
    else
      let e : L2 := { key := macOp d, port := d.op 40 1, static := bit (d.op 41 1) 0, ts := s.fwdNow }
      match s.findMac e.key with
      | some i => (s.setL2 (tput s.net.l2 i e)).ok
      | none => match cuckoo l2Slots L2.key s.net.l2 e with
        | some t => (s.setL2 t).ok
        | none => s.fail stNO_RESOURCE)

/-- FWD_MAC_DEL: ABSENT_ENTRY where the key is not found. -/
def execFwdMacDel (d : Desc) (s : State) : Host.Outcome State Fault Refusal :=
  .next (s.command d fun s =>
    match s.findMac (macOp d) with
    | some i => (s.setL2 (tdel s.net.l2 i)).ok
    | none => s.fail 0x13)

/-- FWD_MAC_FLUSH: RESULT counts the entries removed. -/
def execFwdMacFlush (d : Desc) (s : State) : Host.Outcome State Fault Refusal :=
  .next (s.command d fun s =>
    if d.op 32 1 = 1 && !s.fabricOk (d.op 33 1) then s.badPort d
    else
      let hit (e : L2) : Bool := match d.op 32 1 with
        | 0 => !e.static
        | 1 => !e.static && e.port == d.op 33 1
        | 2 => !e.static && leAt e.key 0 2 == d.op 34 2
        | _ => true
      let n := (s.net.l2.filter fun x => hit x.2).length
      (s.setL2 (s.net.l2.filter fun x => !hit x.2)).ok n)

/-- The 16-byte record of an L2 entry. -/
def L2.bytes (e : L2) (slot : Nat) : List Byte :=
  slice e.key 0 8 ++ leBytes 1 e.port ++ leBytes 1 (b2n e.static + 2 * b2n e.held) ++ leBytes 2 e.ts ++ leBytes 4 slot

/-- FWD_MAC_READ: as many records as BUF holds; RESULT the next slot, 0xFFFF_FFFF at the end. -/
def execFwdMacRead (d : Desc) (s : State) : Host.Outcome State Fault Refusal :=
  .next (s.command d fun s =>
    let rest := s.net.l2.filter fun x => decide (d.op 32 4 ≤ x.1)
    let now := rest.take (d.bufLen / 16)
    let next := match rest.drop (d.bufLen / 16) with | [] => 0xFFFFFFFF | x :: _ => x.1
    { st := s, result := next, bytes := now.flatMap fun x => x.2.bytes x.1 })

/-- FWD_VLAN_SET. A member or untagged set that names the mate link's own port ends with BAD_DESC (R22). -/
def execFwdVlanSet (d : Desc) (s : State) : Host.Outcome State Fault Refusal :=
  .next (s.command d fun s =>
    let mate := match s.matePort with | some q => bit (d.op 36 4) q || bit (d.op 40 4) q | none => false
    if mate then s.badPort d
    else
    let v : Vlan := { learn := bit (d.op 34 1) 1, members := d.op 36 4 % 2 ^ 24 + 2 ^ 24 * (d.op 44 1 % 2),
                      untagged := d.op 40 4 % 2 ^ 24 + 2 ^ 24 * (d.op 44 1 / 2 % 2) }
    (s.setNet { s.net with
      vlans := if bit (d.op 34 1) 0 then tput s.net.vlans (d.op 32 2) v else tdel s.net.vlans (d.op 32 2) }).ok)

/-- Filter counters of a key raised or lowered; one that has reached 255 never falls (R344). -/
def countFilter (t : Tab Nat) (len : Nat) (key : List Byte) (up : Bool) : Tab Nat :=
  (filterBits len key).foldl (fun t i =>
    let n := tgetD t i 0
    if up then tput t i (min 255 (n + 1)) else if n = 255 then t else lowerCount t i 1) t

/-- Key of a route command: prefix at 32–47, length at 48. -/
def routeOp (d : Desc) : List Byte := routeKey (d.op 48 1) (slice d.ops 0 16)

/-- Slot of a route key. -/
def State.findRoute (s : State) (key : List Byte) : Option Nat := findSlot routeSlots Route.key s.net.routes key

/-- FWD_ROUTE_ADD: CONFLICT on an existing prefix without REPLACE; NO_RESOURCE where the store is full or R339 fails. -/
def execFwdRouteAdd (d : Desc) (s : State) : Host.Outcome State Fault Refusal :=
  .next (s.command d fun s =>
    if d.op 49 1 = 2 && !s.fabricOk (d.op 50 1) then s.badPort d
    else
      let e : Route := { key := routeOp d, kind := d.op 49 1, port := d.op 50 1, vlan := d.op 52 2, nhMac := slice d.ops 22 6 }
      match s.findRoute e.key with
      | some i =>
        if bit (d.op 51 1) 0 then (s.setNet { s.net with routes := tput s.net.routes i e }).ok else s.fail stCONFLICT
      | none => match cuckoo routeSlots Route.key s.net.routes e with
        | some t =>
          (s.setNet { s.net with routes := t, filter := countFilter s.net.filter (d.op 48 1) e.key true }).showTables.ok
        | none => s.fail stNO_RESOURCE)

/-- FWD_ROUTE_DEL: ABSENT_ENTRY where the prefix is not found. -/
def execFwdRouteDel (d : Desc) (s : State) : Host.Outcome State Fault Refusal :=
  .next (s.command d fun s =>
    match s.findRoute (routeOp d) with
    | some i =>
      (s.setNet { s.net with routes := tdel s.net.routes i,
                             filter := countFilter s.net.filter (d.op 48 1) (routeOp d) false }).showTables.ok
    | none => s.fail 0x13)

/-- The gate list of a FWD_GATE_LOAD (R353). -/
def gateListOf (b : List Byte) : GateList :=
  { base := leAt b 0 8 * 1000000000 + leAt b 8 4, cycle := leAt b 12 4,
    entries := (List.range (leAt b 28 2)).map fun i => (leAt b (32 + 8 * i) 1, leAt b (36 + 8 * i) 4) }

/-- FWD_GATE_LOAD: the operational list, or with ADMIN = 1 the administrative one with its change time; a change time already
past becomes the new list's next cycle start (R353). -/
def execFwdGateLoad (d : Desc) (s : State) : Host.Outcome State Fault Refusal :=
  .next (s.command d fun s =>
    let p := d.op 32 1
    if !s.fabricOk p then s.badPort d
    else
      let l := gateListOf d.buf
      let now := s.portNow p 0
      if bit (d.op 33 1) 0 then
        let ch := leAt d.buf 16 8 * 1000000000 + leAt d.buf 24 4
        (s.setGates p { s.gatesOf p with admin := some (l, if ch < now then l.startFrom now else ch) }).ok
      else (s.operate p l now).ok)

/-- FWD_PARITY_READ: the parity log, oldest first; it is cleared. -/
def execFwdParityRead (d : Desc) (s : State) : Host.Outcome State Fault Refusal :=
  .next (s.command d fun s =>
    if d.bufLen < 512 then { st := s, status := some stNO_RESOURCE, len := some 512 }
    else
      { st := s.setNet { s.net with parity := [] }, result := s.net.parity.length,
        bytes := s.net.parity.flatMap fun x => leBytes 4 x.1 ++ leBytes 4 x.2 })

end Sys2Proof.Machine
end

