-- ==== Sys2Proof/Machine/Commit.lean ====
section
/-! DEFINITION. JOB_COMMIT (R39): the end of a job on its executor, and the jobs that its commit lets commit. -/

namespace Sys2Proof.Machine

open Sys2Proof

/-- The meaning of a descriptor's command; a flash or fuse operation that ends in the dispatcher succeeded. -/
def runDesc (d : Desc) (s : State) : Host.Outcome State Fault Refusal :=
  match d.opcode with
  | 0x0101 => execSysFlash d false s
  | 0x0102 => execSysFuse d none s
  | 0x0001 => execEcho d s
  | 0xD001 => execRecRead d s
  | 0xD002 => execRecRelease d s
  | 0xD003 => execRecFreeze d s
  | 0xD004 => execRecThaw d s
  | 0x9001 => execStpStop d s
  | 0x9002 => execStpClear d s
  | 0x9003 => execStpQuery d s
  | 0x0210 => execFltRobotEnrol d s
  | 0x0211 => execFltRobotSlots d s
  | 0x0212 => execFltRobotRetire d s
  | 0x0213 => execFltRobotQuery d s
  | 0x7001 => execBslRoverCfg d s
  | 0x7002 => execBslRoverQuery d s
  | 0x7003 => execBslSetRead d s
  | 0x7004 => execBslStationInfo d s
  | 0x8001 => execAltRoadmapLoad d s
  | 0x8002 => execAltClaim d s
  | 0x8003 => execAltRelease d s
  | 0x8004 => execAltResourceState d s
  | 0x8005 => execAltRobotQuery d s
  | 0x8006 => execAltResourceQuery d s
  | 0x1001 => execFwdMacAdd d s
  | 0x1002 => execFwdMacDel d s
  | 0x1003 => execFwdMacFlush d s
  | 0x1004 => execFwdMacRead d s
  | 0x1005 => execFwdVlanSet d s
  | 0x1006 => execFwdRouteAdd d s
  | 0x1007 => execFwdRouteDel d s
  | 0x1008 => execFwdGateLoad d s
  | 0x1009 => execFwdParityRead d s
  | 0x2001 => execFrameSend d s
  | 0x4001 => execMshClusterSet d s
  | 0x4002 => execMshNodeAdd d s
  | 0x4003 => execMshNodeRemove d s
  | 0x4004 => execMshNodeRead d s
  | 0x4005 => execMshNbrRead d s
  | 0x4006 => execMshRekey d s
  | 0x4007 => execMshRepair d s
  | 0x5001 => execMshActuate d s
  | 0x6001 => execUpdImageLoad d s
  | 0x6002 => execUpdImageDrop d s
  | 0x6003 => execUpdCampaignStart d s
  | 0x6004 => execUpdCampaignStop d s
  | 0x6005 => execUpdQuery d s
  | 0xF001 => execPaiQuery d s
  | 0xF002 => execPaiHandover d s
  | 0xF003 => execPaiDetach d s
  | 0xF004 => execPaiPrime d s
  | 0xF005 => execPaiAssume d s
  | 0xC001 => execWlgRequest d s
  | 0xE001 => execKeyPubRead d s
  | 0xE002 => execKeySiteImport d s
  | 0xE003 => execKeyRoll d s
  | 0xE004 => execKeyInvalidate d s
  | 0xE005 => execKeySiteRetire d s
  | 0xE006 => execKeyExport d s
  | 0xE007 => execKeyAttest d s
  | 0xE008 => execKeyQuery d s
  | 0xE009 => execKeyTampClear d s
  | 0xA001 => execMotSegLoad d s
  | 0xA002 => execMotProfile d s
  | 0xA003 => execMotMove d s
  | 0xA004 => execMotRetune d s
  | 0xA005 => execMotHome d s
  | 0xA006 => execMotStop d s
  | 0xA007 => execMotEnable d s
  | 0xA008 => execMotSetPos d s
  | 0xA009 => execMotQuery d s
  | 0xB001 => execLopMode d s
  | 0xB002 => execLopSetpoint d s
  | 0xB003 => execLopTune d s
  | 0xB004 => execLopQuery d s
  | 0xB005 => execLopTraceArm d s
  | 0xB006 => execLopTraceRead d s
  | op => if op % 0x1000 = 0xFFF then execPostBuffer d s else execNop d s

/-- A ring job that was computed behind a lower commit key may commit now. -/
def State.nextComputed (s : State) (cls : Nat) : Option Job :=
  firstBy (fun a b => decide (a.sn < b.sn) || (a.sn == b.sn && a.keyBelow b))
    (s.disp.jobs.filter fun j => j.cls == cls && j.phase == .computed && j.desc.isSome && !s.keyHeld j)

/-- Computed ring jobs of a class commit in key order as their lower keys end. -/
def State.commitRing (s : State) (cls : Nat) : Nat → State
  | 0 => s
  | n + 1 =>
    match s.nextComputed cls with
    | none => s
    | some j =>
      match j.desc with
      | none => s
      | some d =>
        let t := after (runDesc d s) s
        -- one that is still computed has not ended, and cannot be chosen again
        if (t.job? j.id).any fun k => k.phase == .computed then t else t.commitRing cls n

/-- The read of a job has met an uncorrectable error (R475): its command ends MEM_UNCORR. -/
def State.memStrike (s : State) (j : Job) : State :=
  match j.desc with
  | some d => if s.serving then s.finish d (s.fail stMEM_UNCORR) else s
  | none => s

/-- The job has left its executor for good: it has ended, or its command ends later. -/
def State.left (s : State) (id : Nat) : Bool :=
  match s.job? id with | some j => j.phase == .waiting | none => true

/-- JOB_COMMIT (R34, R39): job `id` leaves its executor at `ns` of the stroke. Where it has finished: with a lower commit key of its
class still open it stays computed; else it commits, and the computed jobs behind it commit in turn. Where a step of deadline work has
ended, it goes back to its ready list, and stroke-bound work of its class goes first. Where it has read a memory, R475 applies, and it
goes on unless the read fails.
The executor takes the next job. The job of a received frame or of a block's own work commits with the row of its block; that of a PROCESS frame, which has none, here. -/
def execJobCommit (id ns : Nat) (how : JobEnd MemRead) (s : State) : Host.Outcome State Fault Refusal :=
  .next (
    if !s.serving then s
    else match s.job? id with
      | none => s
      | some j => match j.desc with
        | none => if how = .finished then s.commitProc j else s
        | some d =>
        if j.phase != .running && j.phase != .computed then s
        else match how with
          | .read r =>
            let (s, bad) := s.requesterRead r
            if bad then ((s.memStrike j).commitRing j.cls 64).showDisp else s
          | .step =>
            if j.lead.isNone || j.phase != .running then s
            else (s.modJob id fun j => { j with phase := .ready }).startJobs j.cls (executors j.cls)
          | .finished =>
            if s.keyHeld j then s.modJob id fun j => { j with phase := .computed }
            else
              let t := after (runDesc d s) s
              let t := if t.left id then t.notePeak j.cls ns else t
              (((t.startJobs j.cls (executors j.cls)).commitRing j.cls 64).pressure).showDisp)

end Sys2Proof.Machine
end

