-- ==== Sys2Proof/Machine/Dispatch.lean ====
section
/-! DEFINITION. The dispatch of the commands to their meanings, one arm per constructor of Instr. -/

namespace Sys2Proof.Machine

open Sys2Proof

def exec (i : Instr) (s : State) : Host.Outcome State Fault Refusal :=
  match i with
  | .powerUp vbat => Sys2Proof.Machine.execPowerUp vbat s
  | .resetNLow => Sys2Proof.Machine.execResetNLow s
  | .resetRelease boot pairId pref test => Sys2Proof.Machine.execResetRelease boot pairId pref test s
  | .boot train0 train1 dramMib sfdp bootMs aon ka => Sys2Proof.Machine.execBoot train0 train1 dramMib sfdp bootMs aon ka s
  | .dramTrainingFail => Sys2Proof.Machine.execDramTrainingFail s
  | .sysEngage => Sys2Proof.Machine.execSysEngage s
  | .ringsRelock => Sys2Proof.Machine.execRingsRelock s
  | .quietRequest on => Sys2Proof.Machine.execQuietRequest on s
  | .commandedReset => Sys2Proof.Machine.execCommandedReset s
  | .dormantCommand => Sys2Proof.Machine.execDormantCommand s
  | .mainSupplyLoss => Sys2Proof.Machine.execMainSupplyLoss s
  | .wake byMain => Sys2Proof.Machine.execWake byMain s
  | .thermal junction => Sys2Proof.Machine.execThermal junction s
  | .sysFlash d fail => Sys2Proof.Machine.execSysFlash d fail s
  | .sysFuse d bad => Sys2Proof.Machine.execSysFuse d bad s
  | .strokeEdge codes mags rf => Sys2Proof.Machine.execStrokeEdge codes mags rf s
  | .anchored tai inst codes mags rf => Sys2Proof.Machine.execAnchored tai inst codes mags rf s
  | .stampPoint b => Sys2Proof.Machine.execStampPoint b s
  | .timerRelease id => Sys2Proof.Machine.execTimerRelease id s
  | .releasePoint => Sys2Proof.Machine.execReleasePoint s
  | .closePoint => Sys2Proof.Machine.execClosePoint s
  | .strokeOverrun id => Sys2Proof.Machine.execStrokeOverrun id s
  | .deadlineMiss t => Sys2Proof.Machine.execDeadlineMiss t s
  | .sealPoint => Sys2Proof.Machine.execSealPoint s
  | .jobCommit id ns how => Sys2Proof.Machine.execJobCommit id ns how s
  | .coreWatchdog core missed => Sys2Proof.Machine.execCoreWatchdog core missed s
  | .doorbellRead fast late prods conss => Sys2Proof.Machine.execDoorbellRead fast late prods conss s
  | .descriptorFetch ring raw => Sys2Proof.Machine.execDescriptorFetch ring raw s
  | .hostDmaError desc how addr => Sys2Proof.Machine.execHostDmaError desc how addr s
  | .bar0BadRequest addr dwords whole => Sys2Proof.Machine.execBar0BadRequest addr dwords whole s
  | .registerWrite addr value ns => Sys2Proof.Machine.execRegisterWrite addr value ns s
  | .rcRegisterRead addr read => Sys2Proof.Machine.execRcRegisterRead addr read s
  | .snReadLatch ns => Sys2Proof.Machine.execSnReadLatch ns s
  | .hostLinkReset => Sys2Proof.Machine.execHostLinkReset s
  | .ringEnable cq n v => Sys2Proof.Machine.execRingEnable cq n v s
  | .ringDisable cq n v => Sys2Proof.Machine.execRingDisable cq n v s
  | .sqFaultClear hi v => Sys2Proof.Machine.execSqFaultClear hi v s
  | .cqFaultClear hi v => Sys2Proof.Machine.execCqFaultClear hi v s
  | .nop d => Sys2Proof.Machine.execNop d s
  | .echo d => Sys2Proof.Machine.execEcho d s
  | .postBuffer d => Sys2Proof.Machine.execPostBuffer d s
  | .forwardTimeout => Sys2Proof.Machine.execForwardTimeout s
  | .tb0Holdover => Sys2Proof.Machine.execTb0Holdover s
  | .holdoverLimit => Sys2Proof.Machine.execHoldoverLimit s
  | .tb0SourceReturn src err => Sys2Proof.Machine.execTb0SourceReturn src err s
  | .tb0Accept value => Sys2Proof.Machine.execTb0Accept value s
  | .ptpSync atNs => Sys2Proof.Machine.execPtpSync atNs s
  | .launchTime port cls atNs => Sys2Proof.Machine.execLaunchTime port cls atNs s
  | .gateInterval port atNs => Sys2Proof.Machine.execGateInterval port atNs s
  | .gateListChange port atNs => Sys2Proof.Machine.execGateListChange port atNs s
  | .tb3Load value atNs => Sys2Proof.Machine.execTb3Load value atNs s
  | .tb3ReadLatch atNs => Sys2Proof.Machine.execTb3ReadLatch atNs s
  | .ppsInEdge tb0 => Sys2Proof.Machine.execPpsInEdge tb0 s
  | .ppsOutPulse => Sys2Proof.Machine.execPpsOutPulse s
  | .portClockLost port devs => Sys2Proof.Machine.execPortClockLost port devs s
  | .gnssPortClockOk port devs => Sys2Proof.Machine.execGnssPortClockOk port devs s
  | .gnssSpiTransfer value => Sys2Proof.Machine.execGnssSpiTransfer value s
  | .channelAssign sats => Sys2Proof.Machine.execChannelAssign sats s
  | .measurementEpoch meas => Sys2Proof.Machine.execMeasurementEpoch meas s
  | .consistencyChecks sol => Sys2Proof.Machine.execConsistencyChecks sol s
  | .ephemerisReceived cst prn diffM data alm utc leap => Sys2Proof.Machine.execEphemerisReceived cst prn diffM data alm utc leap s
  | .setPresented => Sys2Proof.Machine.execSetPresented s
  | .epochMissing => Sys2Proof.Machine.execEpochMissing s
  | .jamDetected port => Sys2Proof.Machine.execJamDetected port s
  | .jamCleared port => Sys2Proof.Machine.execJamCleared port s
  | .surveySlow => Sys2Proof.Machine.execSurveySlow s
  | .surveyRestart => Sys2Proof.Machine.execSurveyRestart s
  | .forgetKeepalive => Sys2Proof.Machine.execForgetKeepalive s
  | .timeLost => Sys2Proof.Machine.execTimeLost s
  | .utcOffsetChange => Sys2Proof.Machine.execUtcOffsetChange s
  | .keepaliveWrite => Sys2Proof.Machine.execKeepaliveWrite s
  | .rfClockLost port devs => Sys2Proof.Machine.execRfClockLost port devs s
  | .rfClockOk port devs => Sys2Proof.Machine.execRfClockOk port devs s
  | .preambleDetect port ch ns => Sys2Proof.Machine.execPreambleDetect port ch ns s
  | .radioFrameReceived f air ok fill => Sys2Proof.Machine.execRadioFrameReceived f air ok fill s
  | .txRequest owner port ch sn ns mcs std atNs bytes => Sys2Proof.Machine.execTxRequest owner port ch sn ns mcs std atNs bytes s
  | .txLaunch id clips => Sys2Proof.Machine.execTxLaunch id clips s
  | .rfSpiTransfer port value => Sys2Proof.Machine.execRfSpiTransfer port value s
  | .calStart value => Sys2Proof.Machine.execCalStart value s
  | .calDone rejection leak txCorr txDc rxCorr => Sys2Proof.Machine.execCalDone rejection leak txCorr txDc rxCorr s
  | .beaconBuild => Sys2Proof.Machine.execBeaconBuild s
  | .uplinkAccept micOk => Sys2Proof.Machine.execUplinkAccept micOk s
  | .robotSilent robot => Sys2Proof.Machine.execRobotSilent robot s
  | .dataReassemblyTimeout => Sys2Proof.Machine.execDataReassemblyTimeout s
  | .fltRobotEnrol d => Sys2Proof.Machine.execFltRobotEnrol d s
  | .fltRobotSlots d => Sys2Proof.Machine.execFltRobotSlots d s
  | .fltRobotRetire d => Sys2Proof.Machine.execFltRobotRetire d s
  | .fltRobotQuery d => Sys2Proof.Machine.execFltRobotQuery d s
  | .correctionEncode => Sys2Proof.Machine.execCorrectionEncode s
  | .rawobsAccept => Sys2Proof.Machine.execRawobsAccept s
  | .fixCommit robot sol => Sys2Proof.Machine.execFixCommit robot sol s
  | .bslRoverCfg d => Sys2Proof.Machine.execBslRoverCfg d s
  | .bslRoverQuery d => Sys2Proof.Machine.execBslRoverQuery d s
  | .bslSetRead d => Sys2Proof.Machine.execBslSetRead d s
  | .bslStationInfo d => Sys2Proof.Machine.execBslStationInfo d s
  | .altRoadmapLoad d => Sys2Proof.Machine.execAltRoadmapLoad d s
  | .altClaim d => Sys2Proof.Machine.execAltClaim d s
  | .claimCheck => Sys2Proof.Machine.execClaimCheck s
  | .altRelease d => Sys2Proof.Machine.execAltRelease d s
  | .altResourceState d => Sys2Proof.Machine.execAltResourceState d s
  | .altRobotQuery d => Sys2Proof.Machine.execAltRobotQuery d s
  | .altResourceQuery d => Sys2Proof.Machine.execAltResourceQuery d s
  | .fixCheck => Sys2Proof.Machine.execFixCheck s
  | .allotEdgeJob => Sys2Proof.Machine.execAllotEdgeJob s
  | .stopInputQualify b run heldUs ns => Sys2Proof.Machine.execStopInputQualify b run heldUs ns s
  | .inputDiscrepancy => Sys2Proof.Machine.execInputDiscrepancy s
  | .outFault output commanded readback heldUs ns => Sys2Proof.Machine.execOutFault output commanded readback heldUs ns s
  | .outputTest => Sys2Proof.Machine.execOutputTest s
  | .outputTestEnd => Sys2Proof.Machine.execOutputTestEnd s
  | .stopCut => Sys2Proof.Machine.execStopCut s
  | .stopFrameTx chan => Sys2Proof.Machine.execStopFrameTx chan s
  | .framePhaseEnd => Sys2Proof.Machine.execFramePhaseEnd s
  | .stpStop d => Sys2Proof.Machine.execStpStop d s
  | .stpClear d => Sys2Proof.Machine.execStpClear d s
  | .stopCleared => Sys2Proof.Machine.execStopCleared s
  | .stpQuery d => Sys2Proof.Machine.execStpQuery d s
  | .timeslot => Sys2Proof.Machine.execTimeslot s
  | .meshFrameRx f => Sys2Proof.Machine.execMeshFrameRx f s
  | .meshTx seq choff psdu glr more ready => Sys2Proof.Machine.execMeshTx seq choff psdu glr more ready s
  | .meshAckRx a => Sys2Proof.Machine.execMeshAckRx a s
  | .meshAckTimeout id => Sys2Proof.Machine.execMeshAckTimeout id s
  | .legacyFrameRx f => Sys2Proof.Machine.execLegacyFrameRx f s
  | .pendingExpired => Sys2Proof.Machine.execPendingExpired s
  | .csmaBackoff chan units down psdu glr more => Sys2Proof.Machine.execCsmaBackoff chan units down psdu glr more s
  | .nbrWriteback => Sys2Proof.Machine.execNbrWriteback s
  | .daoRx => Sys2Proof.Machine.execDaoRx s
  | .pathExpiry => Sys2Proof.Machine.execPathExpiry s
  | .dioTrickle cluster => Sys2Proof.Machine.execDioTrickle cluster s
  | .disRx => Sys2Proof.Machine.execDisRx s
  | .meshDownlinkPacket => Sys2Proof.Machine.execMeshDownlinkPacket s
  | .fragmentRx => Sys2Proof.Machine.execFragmentRx s
  | .reassemblyTimeout => Sys2Proof.Machine.execReassemblyTimeout s
  | .nodeStatus => Sys2Proof.Machine.execNodeStatus s
  | .values => Sys2Proof.Machine.execValues s
  | .rekeyAck => Sys2Proof.Machine.execRekeyAck s
  | .updateStatus => Sys2Proof.Machine.execUpdateStatus s
  | .clusterKeySwitch => Sys2Proof.Machine.execClusterKeySwitch s
  | .updateRoundEnd => Sys2Proof.Machine.execUpdateRoundEnd s
  | .mshClusterSet d => Sys2Proof.Machine.execMshClusterSet d s
  | .mshNodeAdd d => Sys2Proof.Machine.execMshNodeAdd d s
  | .mshNodeRemove d => Sys2Proof.Machine.execMshNodeRemove d s
  | .mshNodeRead d => Sys2Proof.Machine.execMshNodeRead d s
  | .mshNbrRead d => Sys2Proof.Machine.execMshNbrRead d s
  | .mshRekey d => Sys2Proof.Machine.execMshRekey d s
  | .mshRepair d => Sys2Proof.Machine.execMshRepair d s
  | .mshActuate d => Sys2Proof.Machine.execMshActuate d s
  | .updImageLoad d => Sys2Proof.Machine.execUpdImageLoad d s
  | .updImageDrop d => Sys2Proof.Machine.execUpdImageDrop d s
  | .updCampaignStart d => Sys2Proof.Machine.execUpdCampaignStart d s
  | .updCampaignStop d => Sys2Proof.Machine.execUpdCampaignStop d s
  | .updQuery d => Sys2Proof.Machine.execUpdQuery d s
  | .ethFrameRx rx => Sys2Proof.Machine.execEthFrameRx rx s
  | .pauseRefresh port => Sys2Proof.Machine.execPauseRefresh port s
  | .pauseRx port pfc classes quanta atNs => Sys2Proof.Machine.execPauseRx port pfc classes quanta atNs s
  | .pauseExpiry port cls atNs => Sys2Proof.Machine.execPauseExpiry port cls atNs s
  | .egressSelect port atNs => Sys2Proof.Machine.execEgressSelect port atNs s
  | .egressFrameEnd port atNs read err => Sys2Proof.Machine.execEgressFrameEnd port atNs read err s
  | .cisternAudit => Sys2Proof.Machine.execCisternAudit s
  | .linkUp port => Sys2Proof.Machine.execLinkUp port s
  | .linkDown port => Sys2Proof.Machine.execLinkDown port s
  | .mdioAddress value => Sys2Proof.Machine.execMdioAddress value s
  | .mdioWrite value => Sys2Proof.Machine.execMdioWrite value s
  | .mdioReadInc value => Sys2Proof.Machine.execMdioReadInc value s
  | .mdioRead value => Sys2Proof.Machine.execMdioRead value s
  | .floatHitClear high value => Sys2Proof.Machine.execFloatHitClear high value s
  | .learnEvent => Sys2Proof.Machine.execLearnEvent s
  | .heldExpiry => Sys2Proof.Machine.execHeldExpiry s
  | .agingSweep bad => Sys2Proof.Machine.execAgingSweep bad s
  | .lpmRecirculate parity atNs => Sys2Proof.Machine.execLpmRecirculate parity atNs s
  | .frameSend d => Sys2Proof.Machine.execFrameSend d s
  | .fwdMacAdd d => Sys2Proof.Machine.execFwdMacAdd d s
  | .fwdMacDel d => Sys2Proof.Machine.execFwdMacDel d s
  | .fwdMacFlush d => Sys2Proof.Machine.execFwdMacFlush d s
  | .fwdMacRead d => Sys2Proof.Machine.execFwdMacRead d s
  | .fwdVlanSet d => Sys2Proof.Machine.execFwdVlanSet d s
  | .fwdRouteAdd d => Sys2Proof.Machine.execFwdRouteAdd d s
  | .fwdRouteDel d => Sys2Proof.Machine.execFwdRouteDel d s
  | .fwdGateLoad d => Sys2Proof.Machine.execFwdGateLoad d s
  | .fwdParityRead d => Sys2Proof.Machine.execFwdParityRead d s
  | .logRx h entries ns => Sys2Proof.Machine.execLogRx h entries ns s
  | .logEndRx h e ns => Sys2Proof.Machine.execLogEndRx h e ns s
  | .logMiss => Sys2Proof.Machine.execLogMiss s
  | .ackRx h a ns => Sys2Proof.Machine.execAckRx h a ns s
  | .nakRx h frags => Sys2Proof.Machine.execNakRx h frags s
  | .forwardRx h id d ns => Sys2Proof.Machine.execForwardRx h id d ns s
  | .resultRx h r => Sys2Proof.Machine.execResultRx h r s
  | .leaseTokenTx => Sys2Proof.Machine.execLeaseTokenTx s
  | .leaseTokenRx bytes mic ns => Sys2Proof.Machine.execLeaseTokenRx bytes mic ns s
  | .pairFaultNoAuthority ns => Sys2Proof.Machine.execPairFaultNoAuthority ns s
  | .leaseLink => Sys2Proof.Machine.execLeaseLink s
  | .mateLink => Sys2Proof.Machine.execMateLink s
  | .autoTakeback => Sys2Proof.Machine.execAutoTakeback s
  | .handoverStillStroke => Sys2Proof.Machine.execHandoverStillStroke s
  | .authorityAssume => Sys2Proof.Machine.execAuthorityAssume s
  | .primeReqRx h digest => Sys2Proof.Machine.execPrimeReqRx h digest s
  | .snapshotRx h last data => Sys2Proof.Machine.execSnapshotRx h last data s
  | .primeFail => Sys2Proof.Machine.execPrimeFail s
  | .paiQuery d => Sys2Proof.Machine.execPaiQuery d s
  | .paiHandover d => Sys2Proof.Machine.execPaiHandover d s
  | .paiDetach d => Sys2Proof.Machine.execPaiDetach d s
  | .paiPrime d => Sys2Proof.Machine.execPaiPrime d s
  | .paiAssume d => Sys2Proof.Machine.execPaiAssume d s
  | .keyPubRead d => Sys2Proof.Machine.execKeyPubRead d s
  | .keySiteImport d => Sys2Proof.Machine.execKeySiteImport d s
  | .keyRoll d => Sys2Proof.Machine.execKeyRoll d s
  | .keyInvalidate d => Sys2Proof.Machine.execKeyInvalidate d s
  | .keySiteRetire d => Sys2Proof.Machine.execKeySiteRetire d s
  | .keyExport d => Sys2Proof.Machine.execKeyExport d s
  | .keyAttest d => Sys2Proof.Machine.execKeyAttest d s
  | .keyQuery d => Sys2Proof.Machine.execKeyQuery d s
  | .keyTampClear d => Sys2Proof.Machine.execKeyTampClear d s
  | .keySwitch => Sys2Proof.Machine.execKeySwitch s
  | .trngFault test => Sys2Proof.Machine.execTrngFault test s
  | .tamperDetected source => Sys2Proof.Machine.execTamperDetected source s
  | .wellhouseStart romOk nvOk => Sys2Proof.Machine.execWellhouseStart romOk nvOk s
  | .senseFault ch => Sys2Proof.Machine.execSenseFault ch s
  | .senseRecovered ch => Sys2Proof.Machine.execSenseRecovered ch s
  | .zeroTracking n m => Sys2Proof.Machine.execZeroTracking n m s
  | .zero m => Sys2Proof.Machine.execZero m s
  | .tare m => Sys2Proof.Machine.execTare m s
  | .tarePreset => Sys2Proof.Machine.execTarePreset s
  | .tareClear => Sys2Proof.Machine.execTareClear s
  | .weigh m => Sys2Proof.Machine.execWeigh m s
  | .weighingStable n m => Sys2Proof.Machine.execWeighingStable n m s
  | .stabilityTimeout n => Sys2Proof.Machine.execStabilityTimeout n s
  | .cycleFilled => Sys2Proof.Machine.execCycleFilled s
  | .cycleDischarged => Sys2Proof.Machine.execCycleDischarged s
  | .cycleAbort => Sys2Proof.Machine.execCycleAbort s
  | .settleGross n m => Sys2Proof.Machine.execSettleGross n m s
  | .settleEmpty n m => Sys2Proof.Machine.execSettleEmpty n m s
  | .totalRead => Sys2Proof.Machine.execTotalRead s
  | .pulseRead => Sys2Proof.Machine.execPulseRead s
  | .recordRead => Sys2Proof.Machine.execRecordRead s
  | .auditRead => Sys2Proof.Machine.execAuditRead s
  | .paramRead => Sys2Proof.Machine.execParamRead s
  | .rawRead m => Sys2Proof.Machine.execRawRead m s
  | .statement => Sys2Proof.Machine.execStatement s
  | .showId => Sys2Proof.Machine.execShowId s
  | .paramWrite => Sys2Proof.Machine.execParamWrite s
  | .keyEnrol => Sys2Proof.Machine.execKeyEnrol s
  | .auditArchive => Sys2Proof.Machine.execAuditArchive s
  | .pulseEdge n => Sys2Proof.Machine.execPulseEdge n s
  | .sealChange st => Sys2Proof.Machine.execSealChange st s
  | .displayRedraw ms => Sys2Proof.Machine.execDisplayRedraw ms s
  | .recordRx ok => Sys2Proof.Machine.execRecordRx ok s
  | .process ms rates ok => Sys2Proof.Machine.execProcess ms rates ok s
  | .hello ok => Sys2Proof.Machine.execHello ok s
  | .whResponse ok => Sys2Proof.Machine.execWhResponse ok s
  | .credit => Sys2Proof.Machine.execCredit s
  | .delivered => Sys2Proof.Machine.execDelivered s
  | .resend => Sys2Proof.Machine.execResend s
  | .wlgRequest d => Sys2Proof.Machine.execWlgRequest d s
  | .reqTimeout => Sys2Proof.Machine.execReqTimeout s
  | .whLink => Sys2Proof.Machine.execWhLink s
  | .motSegLoad d => Sys2Proof.Machine.execMotSegLoad d s
  | .motProfile d => Sys2Proof.Machine.execMotProfile d s
  | .motMove d => Sys2Proof.Machine.execMotMove d s
  | .motRetune d => Sys2Proof.Machine.execMotRetune d s
  | .motHome d => Sys2Proof.Machine.execMotHome d s
  | .motStop d => Sys2Proof.Machine.execMotStop d s
  | .motEnable d => Sys2Proof.Machine.execMotEnable d s
  | .motSetPos d => Sys2Proof.Machine.execMotSetPos d s
  | .motQuery d => Sys2Proof.Machine.execMotQuery d s
  | .moveStep n => Sys2Proof.Machine.execMoveStep n s
  | .subTick => Sys2Proof.Machine.execSubTick s
  | .axisFault n overload mv heldNs => Sys2Proof.Machine.execAxisFault n overload mv heldNs s
  | .limitQualify n pos level heldUs => Sys2Proof.Machine.execLimitQualify n pos level heldUs s
  | .homeQualify n level heldUs => Sys2Proof.Machine.execHomeQualify n level heldUs s
  | .inhibitFreeze line => Sys2Proof.Machine.execInhibitFreeze line s
  | .positionReadLatch n => Sys2Proof.Machine.execPositionReadLatch n s
  | .loopRun n => Sys2Proof.Machine.execLoopRun n s
  | .lopMode d => Sys2Proof.Machine.execLopMode d s
  | .lopSetpoint d => Sys2Proof.Machine.execLopSetpoint d s
  | .lopTune d => Sys2Proof.Machine.execLopTune d s
  | .lopQuery d => Sys2Proof.Machine.execLopQuery d s
  | .lopTraceArm d => Sys2Proof.Machine.execLopTraceArm d s
  | .lopTraceRead d => Sys2Proof.Machine.execLopTraceRead d s
  | .recRead d => Sys2Proof.Machine.execRecRead d s
  | .recRelease d => Sys2Proof.Machine.execRecRelease d s
  | .recFreeze d => Sys2Proof.Machine.execRecFreeze d s
  | .recThaw d => Sys2Proof.Machine.execRecThaw d s
  | .freezeExpiry => Sys2Proof.Machine.execFreezeExpiry s
  | .windowLoad value => Sys2Proof.Machine.execWindowLoad value s
  | .scrubRead m addr stored hit last => Sys2Proof.Machine.execScrubRead m addr stored hit last s
  | .freeRunningCountPeriod => Sys2Proof.Machine.execFreeRunningCountPeriod s
  | .signalLockLost sig prn => Sys2Proof.Machine.execSignalLockLost sig prn s
  | .gnssSpiDone bits => Sys2Proof.Machine.execGnssSpiDone bits s
  | .rfSpiDone port bits => Sys2Proof.Machine.execRfSpiDone port bits s
  | .mdioDone data => Sys2Proof.Machine.execMdioDone data s
  | .wellhouseReset => Sys2Proof.Machine.execWellhouseReset s
  | .vbatLoss => Sys2Proof.Machine.execVbatLoss s

end Sys2Proof.Machine
end

