-- ==== Sys2Proof/Safety.lean ====
section
/-! DEFINITION. What a sound state of the device is, in the terms that statements use: the fuses only grow, the supplies agree, the
boot flash is in its canonical form. -/

namespace Sys2Proof.Machine

open Sys2Proof

/-- An owner slot after a change (R488): its blown bits stay blown, and the hash of a programmed slot stays. -/
structure SlotGrows (a b : HashSlot) : Prop where
  programmed : a.programmed = true → b.programmed = true
  hash : a.programmed = true → b.hash = a.hash
  interrupted : a.interrupted = true → b.interrupted = true
  revoked : a.revoked = true → b.revoked = true

/-- The owner fuses after a change (R488): blown bits stay blown, and nothing else of the fuses moves. -/
structure FusesGrow (a b : Fuses) : Prop where
  antiroll : a.antiroll ≤ b.antiroll
  length : b.slots.length = a.slots.length
  slots : ∀ n, SlotGrows (a.slots.getD n {}) (b.slots.getD n {})
  serial : b.serial = a.serial
  root : b.rootProgrammed = a.rootProgrammed
  lock : b.lock = a.lock
  fusedOff : b.fusedOff = a.fusedOff

/-- What an erased byte of the boot flash reads as. -/
def erased : Nat → Byte := fun _ => 0xFF

/-- The commands that may move a supply, the straps, a fuse or the boot flash (R482, R484, R488, R492, R494, R495); JOB_COMMIT among
them, since it may commit SYS_FLASH or SYS_FUSE (R39). -/
def moves : Instr → Bool
  | .powerUp .. | .resetNLow .. | .resetRelease .. | .mainSupplyLoss .. | .vbatLoss .. | .wake .. => true
  | .sysFlash .. | .sysFuse .. | .jobCommit .. => true
  | _ => false

/-- A sound state: three owner slots and at most 64 ANTIROLL bits (R382, R488); the two BOOT straps give a number below 4 (R484);
an AON supply is held exactly while the main supplies or VBAT are (R481, R506); the boot flash lists its bytes in rising order, and
no erased one. -/
structure Inv (s : State) : Prop where
  slots : s.fuses.slots.length = 3
  antiroll : s.fuses.antiroll ≤ 64
  boot : s.straps.boot < 4
  supply : s.pins.aonSupply = (s.pins.mainSupply || s.pins.vbat)
  flash : cellsOk erased s.sys.flash = true

/-- A descriptor of this unit's own rings that runs at once (R39, R56, R65, R69): its rings are served, no rule ends it before it is
a job, it is neither late nor forwarded, its time has come, and no job with a lower commit key stands before it. -/
structure Runs (s : State) (d : Desc) : Prop where
  serving : s.serving = true
  shadow : d.shadow = false
  forwarded : d.forwarded = false
  orphan : d.orphan = false
  inTime : s.isOver d = false
  early : s.earlyEnd d = none
  forward : s.mustForward d = false
  key : s.keyWaits d = false
  due : s.notYet d = false

end Sys2Proof.Machine
end

