-- ==== Sys2Proof/Certificates/Slice0/Obligations.lean ====
section
/-! DEFINITION. The statements for the provers, in the order of OBLIGATIONS.json. -/

open Sys2Proof Sys2Proof.Machine

/-- For every command c and every state s, a step of s with c at the front of its queue is exec of c on s with the queue's rest. With an
empty queue the block idles: that idling is the model's own choice (log entry 1). (R9, R61.) -/
def Obligations.StepRunsTheFrontCommand : Prop :=
  (∀ (c : Instr) (rest : List Instr) (s : State), step { s with pending := c :: rest } = exec c { s with pending := rest }) ∧
  (∀ (s : State), s.pending = [] → step s = .next s)

/-- No command ends in a fault or a refusal: what the spec turns away, it turns away with a status, a count or a record. (R9, R73.) -/
def Obligations.EveryCommandIsAnswered : Prop :=
  ∀ (c : Instr) (s : State), ∃ t, exec c s = .next t

/-- The reset state satisfies the invariant, lies in RESET with no stroke issued and SN 0, holds no job, no descriptor, no record and no
output, and its queue is empty. That the supplies are up and the part is a CX7740 is the choice of the model (log entry 13). (R489,
R492, R469.) -/
def Obligations.ResetIsSound : Prop :=
  Inv State.reset ∧ State.reset.dev = .reset ∧ State.reset.stroked = false ∧ State.reset.sn = 0 ∧ State.reset.disp.jobs = [] ∧ State.reset.rings.due = [] ∧ State.reset.log.store = [] ∧ State.reset.out = [] ∧ State.reset.pending = []

/-- From every sound state, whatever command stands at the front of the queue, the next state is sound: three owner slots and at most 64
ANTIROLL bits, BOOT straps below 4, an AON supply exactly while the main supplies or VBAT are held, and a boot flash in its
canonical form. (R382, R484, R488, R494, R495, R506.) -/
def Obligations.EveryStepKeepsTheInvariant : Prop :=
  ∀ (s : State) (t : State), Inv s → step s = .next t → Inv t

/-- Whatever a step runs, blown ANTIROLL bits stay blown, a programmed owner slot keeps its hash and stays programmed, a revoked slot
stays revoked, an interrupted one stays interrupted, and serial number, ROOT, LOCK and the blocks fused off do not move. (R488,
R382.) -/
def Obligations.FusesOnlyGrow : Prop :=
  ∀ (s : State) (t : State), step s = .next t → FusesGrow s.fuses t.fuses

/-- In a device state other than SETUP every command leaves the fuses as they are, SYS_FUSE among them. JOB_COMMIT is left out here: it
runs the commands of the jobs that may then commit, each by its own row. (R488.) -/
def Obligations.FusesChangeInSetupAlone : Prop :=
  ∀ (c : Instr) (s : State) (t : State), s.dev ≠ .setup → (∀ id ns m, c ≠ .jobCommit id ns m) → exec c s = .next t → t.fuses = s.fuses

/-- Every command other than SYS_FLASH and JOB_COMMIT leaves every byte of the boot flash as it was, resets and supply losses included.
(R495, R492.) -/
def Obligations.OnlyFlashCommandsMoveTheFlash : Prop :=
  ∀ (c : Instr) (s : State) (t : State) (a : Nat), (∀ d f, c ≠ .sysFlash d f) → (∀ id ns m, c ≠ .jobCommit id ns m) → exec c s = .next t → cget erased t.sys.flash a = cget erased s.sys.flash a

/-- Every command leaves the rest of the queue and the part number as they are; every command outside the nine rows that may move a
supply, a strap, a fuse or the flash leaves pins and straps as they are. (R1, R482, R484.) -/
def Obligations.QueueAndPartStay : Prop :=
  ∀ (c : Instr) (s : State) (t : State), exec c s = .next t → t.pending = s.pending ∧ t.part = s.part ∧ (moves c = false → t.pins = s.pins ∧ t.straps = s.straps)

/-- When a ring command ends, its effect on every block stands as its meaning left it: the end itself changes the dispatcher (its job
leaves, the next of its domain or chain follows), the completions due, the results handed to the host, and, of all registers, at
most RNG_LOST_CPL. (R66, R70, R71, R72.) -/
def Obligations.CommandsEndWithoutOtherEffect : Prop :=
  ∀ (s : State) (d : Desc) (r : CmdRes), let t := s.finish d r; t.fuses = r.st.fuses ∧ t.pins = r.st.pins ∧ t.straps = r.st.straps ∧ t.dev = r.st.dev ∧ t.role = r.st.role ∧ t.stroked = r.st.stroked ∧ t.sn = r.st.sn ∧ t.sys = r.st.sys ∧ t.log = r.st.log ∧ t.rad = r.st.rad ∧ t.flt = r.st.flt ∧ t.stp = r.st.stp ∧ t.key = r.st.key ∧ t.tim = r.st.tim ∧ t.gns = r.st.gns ∧ t.bsl = r.st.bsl ∧ t.alt = r.st.alt ∧ t.net = r.st.net ∧ t.msh = r.st.msh ∧ t.pai = r.st.pai ∧ t.wel = r.st.wel ∧ t.wlg = r.st.wlg ∧ t.mot = r.st.mot ∧ t.lop = r.st.lop ∧ t.mem = r.st.mem ∧ t.reply = r.st.reply ∧ t.free = r.st.free ∧ ∀ a, a ≠ RNG_LOST_CPL → t.rd a = r.st.rd a

/-- A command of an own ring that ends with a status, is not a QUIET one that ends OK and was not fetched before a host-link reset,
queues its completion behind those already due: on the completion ring of its ring, with its opcode, its tag, the SN, the status,
the RESULT modulo 2^64, and no result bytes. Completions of chain members that it aborts may follow. (R61, R70, R72, R73.) -/
def Obligations.CommandsCompleteOnce : Prop :=
  ∀ (s : State) (u : State) (d : Desc) (st : Nat) (n : Nat), d.shadow = false → d.forwarded = false → d.orphan = false → u.rings.lost.contains d = false → (d.quiet && st == stOK) = false → ∃ rest, (s.finish d (u.fail st n)).rings.due = u.rings.due ++ ⟨u.cqOf d.ring, d.opcode, st, d.tag, u.sn, 0, n % 2 ^ 64, d.bufAddr, [], s.dueOf d, false, false⟩ :: rest

/-- POWER_UP leads to RESET after a main-power reset where an AON supply was held and after a cold one elsewhere. RESET_N low and the
reset key lead to RESET with kinds 3 and 4. A release samples the straps and leads to BOOT with TEST_MODE low, and stays in RESET
with it high. Loss of the main supplies leads to DORMANT on VBAT and to an unpowered die without it. WAKE leads to RESET with its
cause. Loss of VBAT with the main supplies off loses what AON holds. (R481, R484, R489, R492, R494, R506, R527.) -/
def Obligations.SuppliesAndResetsMoveTheDevice : Prop :=
  (∀ (v : Bool) (s : State), s.pins.mainSupply = false → ∃ t, exec (.powerUp v) s = .next t ∧ t.dev = .reset ∧ t.sn = 0 ∧ t.stroked = false ∧ t.pins = ⟨true, true, v, false⟩ ∧ t.sys.kind = (if s.pins.aonSupply then 2 else 1) ∧ t.fuses = s.fuses ∧ t.sys.flash = s.sys.flash) ∧
  (∀ (s : State), s.pins.mainSupply = true → s.dev ≠ .reset → ∃ t, exec .resetNLow s = .next t ∧ t.dev = .reset ∧ t.sys.kind = 3 ∧ t.sn = 0 ∧ t.pins.resetN = false ∧ t.role = .unpaired ∧ t.disp.jobs = [] ∧ t.fuses = s.fuses) ∧
  (∀ (b : Nat) (p : Bool) (q : Bool) (s : State), s.pins.mainSupply = true → s.dev = .reset → s.pins.resetN = false → ∃ t, exec (.resetRelease b p q false) s = .next t ∧ t.dev = .boot ∧ t.straps = ⟨b % 4, p, q, false⟩ ∧ t.pins.resetN = true) ∧
  (∀ (b : Nat) (p : Bool) (q : Bool) (s : State), s.pins.mainSupply = true → s.dev = .reset → s.pins.resetN = false → ∃ t, exec (.resetRelease b p q true) s = .next t ∧ t.dev = .reset ∧ t.straps = ⟨b % 4, p, q, true⟩) ∧
  (∀ (s : State), s.mainLive = true → ∃ t, exec .commandedReset s = .next t ∧ t.dev = .reset ∧ t.sys.kind = 4 ∧ t.sn = 0 ∧ t.fuses = s.fuses ∧ t.pins = s.pins) ∧
  (∀ (s : State), s.serving = true → ∃ t, exec .dormantCommand s = .next t ∧ t.dev = .dormant ∧ t.sn = 0 ∧ t.stroked = false ∧ t.disp.jobs = [] ∧ t.gns.keepAlive.isSome = true ∧ t.get SYS_STATUS_DORMANT_READY = 1) ∧
  (∀ (s : State), s.pins.mainSupply = true → s.pins.vbat = true → s.serving = true → ∃ t, exec .mainSupplyLoss s = .next t ∧ t.dev = .dormant ∧ t.pins.mainSupply = false ∧ t.pins.vbat = true) ∧
  (∀ (s : State), s.pins.mainSupply = true → s.pins.vbat = false → ∃ t, exec .mainSupplyLoss s = .next t ∧ t.dev = .reset ∧ t.pins = ⟨false, false, false, false⟩ ∧ t.gns.keepAlive = none) ∧
  (∀ (s : State), s.dev = .dormant → s.pins.mainSupply = false → ∃ t, exec (.wake true) s = .next t ∧ t.dev = .reset ∧ t.pins.mainSupply = true ∧ t.get SYS_WAKE_CAUSE_BITS % 4 = 1) ∧
  (∀ (s : State), s.dev = .dormant → s.pins.mainSupply = true → ∃ t, exec (.wake false) s = .next t ∧ t.dev = .reset ∧ t.pins.resetN = false ∧ t.get SYS_WAKE_CAUSE_BITS % 4 = 2) ∧
  (∀ (s : State), s.pins.mainSupply = false → ∃ t, exec .vbatLoss s = .next t ∧ t.pins.vbat = false ∧ t.pins.aonSupply = false ∧ t.gns.keepAlive = none ∧ t.key.lockOn = false ∧ t.key.owed = [] ∧ ∀ a, a ∈ [SYS_WAKE_CAUSE, KEY_TAMP_CFG, KEY_TAMP_LATCH, KEY_TAMP_COUNT] → t.rd a = regReset a) ∧
  (∀ (s : State), s.pins.mainSupply = true → exec .vbatLoss s = .next { s with pins := { s.pins with vbat := false } })

/-- In BOOT, with the flash sized and timed, the first copy that passes every check runs; a failure of copy 0 is recorded before copy 1
runs; when both fail, both failures are recorded and the device is in HALT with cause 1, as it is whatever the flash holds with BOOT
straps 3. DRAM training that fails after boot halts with cause 5. (R487, R489, R491.) -/
def Obligations.BootEndsInSetupOrHalt : Prop :=
  (∀ (t0 : Bool) (t1 : Bool) (m : Nat) (z : Option Nat) (ms : Nat) (g : Nat) (k : Option (List Byte)) (s : State), s.dev = .boot → let u := s.bootStart z ms; exec (.boot t0 t1 m z ms g k) s = .next (match u.copyFails 0 t0 with | none => u.bootRun none m g k | some f => match u.copyFails 1 t1 with | none => (u.bootFail 0 f).bootRun (some f) m g k | some h => ((u.bootFail 0 f).bootFail 1 h).fatalHalt 1)) ∧
  (∀ (t0 : Bool) (t1 : Bool) (m : Nat) (z : Option Nat) (ms : Nat) (g : Nat) (k : Option (List Byte)) (s : State), s.dev = .boot → s.straps.boot = 3 → ∃ t, exec (.boot t0 t1 m z ms g k) s = .next t ∧ t.dev = .halt ∧ t.get SYS_STATUS_HALT_CAUSE = 1 ∧ t.num SYS_BOOT_MS = ms % 2 ^ 32) ∧
  (∀ (s : State), s.serving = true → ∃ t, exec .dramTrainingFail s = .next t ∧ t.dev = .halt ∧ t.get SYS_STATUS_HALT_CAUSE = 5)

/-- In SETUP with no failing condition the RWL registers lock and the device is in ANCHORING; with a first failing condition the device
stays in SETUP and SYS_ENGAGE_ERR names its capability and offset. A relock on an engaged, unlocked device with a sound ring set-up
locks RINGS again. QUIET is only stored: the device follows it at the next stroke edge. (R55, R490, R493.) -/
def Obligations.EngagementLocksOrRefuses : Prop :=
  (∀ (s : State), s.dev = .setup → s.engageErr = none → ∃ t, exec .sysEngage s = .next t ∧ t.dev = .anchoring ∧ t.get SYS_STATUS_ENGAGED = 1 ∧ t.rings.unlocked = false) ∧
  (∀ (s : State) (c : Nat) (o : Nat), s.dev = .setup → s.engageErr = some (c, o) → ∃ t, exec .sysEngage s = .next t ∧ t.dev = .setup ∧ t.get SYS_ENGAGE_ERR_CAP = c % 2 ^ SYS_ENGAGE_ERR_CAP.width ∧ t.get SYS_ENGAGE_ERR_OFS = o % 2 ^ SYS_ENGAGE_ERR_OFS.width ∧ t.get SYS_ENGAGE_ERR_VALID = 1) ∧
  (∀ (s : State), s.serving = true → s.engaged = true → s.rings.unlocked = true → s.ringsRefuse = none → exec .ringsRelock s = .next (s.setRings { s.rings with unlocked := false })) ∧
  (∀ (on : Bool) (s : State), s.mainLive = true → exec (.quietRequest on) s = .next (s.put SYS_CTRL_QUIET (b2n on))) ∧
  (∀ (j : Int) (s : State), s.mainLive = true → ∃ t, exec (.thermal j) s = .next t ∧ signed 16 (t.get SYS_TEMP_T) = clampI (-32768) 32767 j ∧ t.get SYS_STATUS_THERM_ALERT = b2n (decide (16 * (s.get SYS_THERM_LIMIT_C : Int) < clampI (-32768) 32767 j)) ∧ t.dev = s.dev)

/-- A read within the flash answers its bytes with its length as RESULT; an erase of whole sectors leaves no cell of its range listed
and no other cell changed; a range beyond the flash ends with status 0x11 and no effect. SYS_FUSE outside SETUP ends LOCKED; in
SETUP an empty slot takes the hash, a taken one ends with status 0x12, and OP 2 raises the level to the ROLLBACK of the running
bundle, never beyond 64. (R488, R495, R73.) -/
def Obligations.FlashAndFuseCommands : Prop :=
  (∀ (d : Desc) (f : Bool) (s : State), Runs s d → d.op 32 1 = 0 → d.op 36 4 + d.op 40 4 ≤ s.num SYS_FLASH_SIZE → exec (.sysFlash d f) s = .next (s.finish d (s.answer d (s.flashRead (d.op 36 4) (d.op 40 4)) (d.op 40 4)))) ∧
  (∀ (d : Desc) (s : State), Runs s d → d.op 32 1 = 1 → d.op 36 4 % 0x10000 = 0 → d.op 40 4 % 0x10000 = 0 → d.op 36 4 + d.op 40 4 ≤ s.num SYS_FLASH_SIZE → ∃ u : State, exec (.sysFlash d false) s = .next (s.finish d (u.ok (d.op 40 4))) ∧ ∀ a, cget erased u.sys.flash a = if d.op 36 4 ≤ a ∧ a < d.op 36 4 + d.op 40 4 then 0xFF else cget erased s.sys.flash a) ∧
  (∀ (d : Desc) (f : Bool) (s : State), Runs s d → s.num SYS_FLASH_SIZE < d.op 36 4 + d.op 40 4 → exec (.sysFlash d f) s = .next (s.finish d (s.fail 0x11))) ∧
  (∀ (d : Desc) (b : Option Nat) (s : State), Runs s d → s.dev ≠ .setup → exec (.sysFuse d b) s = .next (s.finish d (s.fail stLOCKED s.fuses.antiroll))) ∧
  (∀ (d : Desc) (s : State), Runs s d → s.dev = .setup → d.op 32 1 = 0 → s.fuses.slots.getD (d.op 33 1) {} = {} → d.op 33 1 < s.fuses.slots.length → ∃ u : State, exec (.sysFuse d none) s = .next (s.finish d (u.ok s.fuses.antiroll)) ∧ u.fuses.slots.getD (d.op 33 1) {} = { hash := slice d.buf 0 32, programmed := true } ∧ (∀ n, n ≠ d.op 33 1 → u.fuses.slots.getD n {} = s.fuses.slots.getD n {}) ∧ u.fuses.antiroll = s.fuses.antiroll) ∧
  (∀ (d : Desc) (b : Option Nat) (s : State), Runs s d → s.dev = .setup → d.op 32 1 = 0 → (s.fuses.slots.getD (d.op 33 1) {}).programmed = true → exec (.sysFuse d b) s = .next (s.finish d (s.fail 0x12 s.fuses.antiroll))) ∧
  (∀ (d : Desc) (s : State), Runs s d → s.dev = .setup → d.op 32 1 = 2 → s.fuses.antiroll < min 64 s.sys.rollback → ∃ u : State, exec (.sysFuse d none) s = .next (s.finish d (u.ok (min 64 s.sys.rollback))) ∧ u.fuses = { s.fuses with antiroll := min 64 s.sys.rollback })

/-- In ANCHORING with TB0 valid and no mate sending tokens, an edge whose label is at or above the epoch and whose stroke is above the
floor is the first, with SN = (T - SITE_EPOCH) x 4,000 + i; a label below the epoch sets EPOCH_BAD, and a stroke at or below the
floor sets FLOOR_WAIT, and the device stays in ANCHORING with no stroke issued. With a mate that sends tokens the floor rises to the
SN before the mate's, the device takes the mate's SN, and the same two tests hold it. A first edge has the SN given, and goes on
with seq 0, batch 0 and its close point open. Every later edge takes the next SN with seq 0, batch 0 and its close point open, and
keeps the jobs; in HALT nothing else happens at it. (R28, R29, R30.) -/
def Obligations.StrokesBeginAndAdvance : Prop :=
  (∀ (tai : Nat) (n : Nat) (codes : List Int) (mags : List (List Nat)) (rf : List (List RfClk)) (s : State), s.dev = .anchoring → s.stroked = false → s.mateSn = none → s.flag TIM_STATUS_TB0_VALID = true → n < 4000 → s.siteEpoch ≤ tai → s.num64 STK_SN_FLOOR_LO STK_SN_FLOOR_HI < (tai - s.siteEpoch) * 4000 + n → exec (.anchored tai n codes mags rf) s = .next (s.firstEdge ((tai - s.siteEpoch) * 4000 + n) codes mags rf)) ∧
  (∀ (tai : Nat) (n : Nat) (codes : List Int) (mags : List (List Nat)) (rf : List (List RfClk)) (s : State), s.dev = .anchoring → s.stroked = false → s.mateSn = none → s.flag TIM_STATUS_TB0_VALID = true → n < 4000 → tai < s.siteEpoch → exec (.anchored tai n codes mags rf) s = .next (s.epochBad tai)) ∧
  (∀ (tai : Nat) (n : Nat) (codes : List Int) (mags : List (List Nat)) (rf : List (List RfClk)) (s : State), s.dev = .anchoring → s.stroked = false → s.mateSn = none → s.flag TIM_STATUS_TB0_VALID = true → n < 4000 → s.siteEpoch ≤ tai → (tai - s.siteEpoch) * 4000 + n ≤ s.num64 STK_SN_FLOOR_LO STK_SN_FLOOR_HI → exec (.anchored tai n codes mags rf) s = .next (s.floorWait ((tai - s.siteEpoch) * 4000 + n))) ∧
  (∀ (tai : Nat) (n : Nat) (codes : List Int) (mags : List (List Nat)) (rf : List (List RfClk)) (m : Nat) (s : State), s.dev = .anchoring → s.stroked = false → s.mateSn = some m → let u := (s.setNum64 STK_SN_FLOOR_LO STK_SN_FLOOR_HI (max (s.num64 STK_SN_FLOOR_LO STK_SN_FLOOR_HI) (m - 1))).anchorToMate; exec (.anchored tai n codes mags rf) s = .next (if tai < u.siteEpoch then u.epochBad tai else if u.num64 STK_SN_FLOOR_LO STK_SN_FLOOR_HI < m then u.firstEdge m codes mags rf else u.floorWait m)) ∧
  (∀ (tai : Nat) (m : Nat) (s : State), s.dev = .anchoring → s.stroked = false → (s.epochBad tai).dev = .anchoring ∧ (s.epochBad tai).stroked = false ∧ (s.epochBad tai).get STK_STATUS_EPOCH_BAD = 1 ∧ (s.floorWait m).dev = .anchoring ∧ (s.floorWait m).stroked = false ∧ (s.floorWait m).get STK_STATUS_FLOOR_WAIT = 1) ∧
  (∀ (m : Nat) (codes : List Int) (mags : List (List Nat)) (rf : List (List RfClk)) (s : State), ∃ u : State, u.sn = m ∧ u.stroked = true ∧ u.disp.nextSeq = 0 ∧ u.disp.batch = 0 ∧ u.disp.closed = false ∧ s.firstEdge m codes mags rf = (u.timeEdge.pairFirst.blockEdges codes mags rf).showDisp) ∧
  (∀ (codes : List Int) (mags : List (List Nat)) (rf : List (List RfClk)) (s : State), s.strokesRun = true → ∃ u : State, u.sn = s.sn + 1 ∧ u.stroked = s.stroked ∧ u.disp.jobs = s.disp.jobs ∧ u.disp.nextSeq = 0 ∧ u.disp.batch = 0 ∧ u.disp.closed = false ∧ exec (.strokeEdge codes mags rf) s = .next (if u.dev = .halt then u else (u.quietEdge.pairEdge.blockEdges codes mags rf).showDisp))

/-- A stamp point takes the inputs of the loops, lets the next held source go on, stamps the jobs of its batch, sends what the mate
needs of them, ends what the mate has passed by, releases what was held, applies back-pressure, and is a status point but for point
0, which first sends the log of the stroke before. A release point with nothing held that may release gives out the outputs of SN -
1, any other holds that stroke; both are status points. A close point closes the stroke, and gives a snapshot that is due. A seal
point forms the digest. A timer whose stroke has come presents its job. Before the first edge each period of the free-running count
stamps batch 0 and is a status point. (R30, R31, R32, R37, R40.) -/
def Obligations.PointsOfAStroke : Prop :=
  (∀ (b : Nat) (s : State), s.stroked = true → s.serving = true → b < 8 → let u := (if b = 0 then s.sendLogEnd else s).loopInputs.resumeOne; let v := ((u.stampBatch b).sendLog (((u.toStamp b).filter fun j => j.sn == 0).map Job.id)).endLate 64; let w := (v.releaseLate (stampNs b) v.pai.held.length).pressure.showDisp; exec (.stampPoint b) s = .next (if b = 0 then w else w.statusPoint)) ∧
  (∀ (k : Nat) (j : Job) (s : State), s.job? k = some j → j.phase = .delayed → s.stroked = true → s.serving = true → j.notBefore ≤ s.jobSn j → exec (.timerRelease k) s = .next (s.modJob k fun j => { j with phase := .presented }).showDisp) ∧
  (∀ (s : State), s.stroked = true → s.serving = true → s.pai.held = [] → s.mayRelease (s.sn - 1) = true → exec .releasePoint s = .next ((s.setPai { s.pai with acked := s.pai.acked.filter fun x => decide (s.sn - 1 < x) }).releaseOutputs (s.sn - 1) (1000 * s.get STK_PHASE_CFG_RELEASE_OFS)).statusPoint) ∧
  (∀ (s : State), s.stroked = true → s.serving = true → s.pai.mateStandby.isNone = false → (s.pai.held.isEmpty && s.mayRelease (s.sn - 1)) = false → exec .releasePoint s = .next (s.setPai { s.pai with held := s.pai.held ++ [s.sn - 1] }).statusPoint) ∧
  (∀ (s : State), s.stroked = true → s.serving = true → s.role ≠ .primary → s.pai.snapAt ≠ some s.sn → exec .closePoint s = .next (s.setDisp { s.disp with closed := true })) ∧
  (∀ (s : State), s.stroked = true → s.serving = true → ∃ t, exec .closePoint s = .next t ∧ t.disp.closed = true ∧ t.disp.jobs = s.disp.jobs ∧ t.sn = s.sn ∧ t.dev = s.dev) ∧
  (∀ (s : State), s.stroked = true → s.serving = true → s.role = .primary → s.pai.mateStandby = none → s.pai.snapAt = some s.sn → ∃ u : State, exec .closePoint s = .next (u.sendMate 0 s.sn (.snapshot true (some u.snapshot))) ∧ u.disp.closed = true ∧ u.pai.snapAt = none ∧ u.pai.snapGiven = some s.sn) ∧
  (∀ (s : State), s.stroked = true → s.serving = true → exec .sealPoint s = .next s.sealPair) ∧
  (∀ (s : State), s.stroked = false → s.serving = true → ∃ u : State, u.tim.periods = s.tim.periods + 1 ∧ u.gns.aon = s.gns.aon + 1024 ∧ u.disp.jobs = s.disp.jobs ∧ exec .freeRunningCountPeriod s = .next (u.ptpEdge.resumeOne.stampBatch 0).pressure.showDisp.statusPoint)

/-- A running or computed job whose work is done and below which no commit key stands runs its command, and the jobs computed behind it
follow; below a lower key it waits as computed. A step of deadline work puts the job back on its ready list. A memory read that
fails ends the job, any other lets it go on. A job past the close point of its stroke ends in overrun, counted and recorded.
Deadline work past its deadline is abandoned, counted and recorded, a solution of a robot as well; an attestation that waits for its
Wellhouse statement ends without it. A core that misses its watchdog for the fourth stroke halts the device with cause 2; up to
three misses are only counted, and a kick clears the count. (R20, R34, R39, R41, R42, R475, R491.) -/
def Obligations.JobsCommitOrEndLate : Prop :=
  (∀ (k : Nat) (ns : Nat) (j : Job) (d : Desc) (s : State), s.serving = true → s.job? k = some j → j.desc = some d → (j.phase = .running ∨ j.phase = .computed) → s.keyHeld j = false → let t := after (runDesc d s) s; let u := if t.left k then t.notePeak j.cls ns else t; exec (.jobCommit k ns .finished) s = .next (((u.startJobs j.cls (executors j.cls)).commitRing j.cls 64).pressure).showDisp) ∧
  (∀ (k : Nat) (ns : Nat) (j : Job) (d : Desc) (s : State), s.serving = true → s.job? k = some j → j.desc = some d → (j.phase = .running ∨ j.phase = .computed) → s.keyHeld j = true → exec (.jobCommit k ns .finished) s = .next (s.modJob k fun j => { j with phase := .computed })) ∧
  (∀ (k : Nat) (ns : Nat) (j : Job) (d : Desc) (s : State), s.serving = true → s.job? k = some j → j.desc = some d → j.phase = .running → j.lead.isNone = false → exec (.jobCommit k ns .step) s = .next ((s.modJob k fun j => { j with phase := .ready }).startJobs j.cls (executors j.cls))) ∧
  (∀ (k : Nat) (ns : Nat) (r : MemRead) (j : Job) (d : Desc) (s : State), s.serving = true → s.job? k = some j → j.desc = some d → (j.phase = .running ∨ j.phase = .computed) → let u := (s.requesterRead r).1; exec (.jobCommit k ns (.read r)) s = .next (if (s.requesterRead r).2 then ((u.memStrike j).commitRing j.cls 64).showDisp else u)) ∧
  (∀ (k : Nat) (ns : Nat) (j : Job) (s : State), s.serving = true → s.job? k = some j → j.desc = none → exec (.jobCommit k ns .finished) s = .next (s.commitProc j)) ∧
  (∀ (k : Nat) (j : Job) (s : State), s.stroked = true → s.serving = true → s.job? k = some j → s.pastClose j = true → exec (.strokeOverrun k) s = .next (((s.noteOverrun j.cls j.prio j.seq j.tag).endOver j).showDisp)) ∧
  (∀ (k : Nat) (j : Job) (s : State), s.serving = true → s.job? k = some j → s.pastDeadline j = true → (match j.desc with | some d => s.wlg.reqs.any (fun r => r.2.1 == d && d.opcode == 0xE007) | none => false) = false → exec (.deadlineMiss (.job k)) s = .next ((((s.noteMiss j.cls j.deadline j.tag).noteAbandoned j).endOver j).showDisp)) ∧
  (∀ (k : Nat) (j : Job) (d : Desc) (s : State), s.serving = true → s.job? k = some j → s.pastDeadline j = true → j.desc = some d → (s.wlg.reqs.any fun r => r.2.1 == d && d.opcode == 0xE007) = true → exec (.deadlineMiss (.job k)) s = .next ((s.dropStatement d).finish d ((s.dropStatement d).attest d none))) ∧
  (∀ (q : Nat) (r : Rover) (w : Solve) (s : State), s.serving = true → s.stroked = true → s.disp.closed = true → (s.missedSolves.find? fun x => x.1 == q) = some (q, r, w) → exec (.deadlineMiss (.solve q)) s = .next (((s.noteMiss 1 w.deadline 0).logMissed q w).abandonSolve q r w)) ∧
  (∀ (c : Nat) (s : State), s.stroked = true → s.serving = true → c < 8 → 3 ≤ s.disp.wdMissed.getD c 0 → ∃ t, exec (.coreWatchdog c true) s = .next t ∧ t.dev = .halt ∧ t.get SYS_STATUS_HALT_CAUSE = 2) ∧
  (∀ (c : Nat) (s : State), s.stroked = true → s.serving = true → c < 8 → s.disp.wdMissed.getD c 0 < 3 → exec (.coreWatchdog c true) s = .next (s.setDisp { s.disp with wdMissed := s.disp.wdMissed.set c (s.disp.wdMissed.getD c 0 + 1) })) ∧
  (∀ (c : Nat) (s : State), s.stroked = true → s.serving = true → c < 8 → exec (.coreWatchdog c false) s = .next (s.setDisp { s.disp with wdMissed := s.disp.wdMissed.set c 0 }))

/-- A write to STK_SITE_EPOCH_LO is stored in SETUP, and on an engaged device only counted and recorded; a write to a read-only register
changes nothing. A read of an RC register answers it and leaves 0, or the current value where it keeps a least value, and moves no
other register; where the memory behind it fails it is answered Completer Abort. A read of STK_SN_LO answers the SN and latches its
upper half and the phase, and 0 where STROKE is absent. A request that is not one aligned whole DWORD in a listed block is answered
Unsupported Request and counted. (R9, R10, R47, R50, R54, R55, R475.) -/
def Obligations.RegisterAccessesFollowTheirCodes : Prop :=
  (∀ (v : Word) (ns : Nat) (s : State), s.mainLive = true → s.barListed STK_SITE_EPOCH_LO = true → s.capAbsent 3 = false → s.engaged = false → exec (.registerWrite STK_SITE_EPOCH_LO v ns) s = .next (s.wr STK_SITE_EPOCH_LO v)) ∧
  (∀ (v : Word) (ns : Nat) (s : State), s.mainLive = true → s.barListed STK_SITE_EPOCH_LO = true → s.capAbsent 3 = false → s.engaged = true → exec (.registerWrite STK_SITE_EPOCH_LO v ns) s = .next ((s.count RNG_LOCKED_WRITES 1).record EV_REG_LOCKED_WRITE 0 STK_SITE_EPOCH_LO v.toNat 0)) ∧
  (∀ (v : Word) (ns : Nat) (s : State), s.mainLive = true → s.barListed 0x030028 = true → s.capAbsent 3 = false → exec (.registerWrite 0x030028 v ns) s = .next s) ∧
  (∀ (a : Nat) (b : Option MemRead) (r : RegRow) (k : Nat) (s : State) (u : State), s.mainLive = true → a % 4 = 0 → s.barListed a = true → s.readBehind b = (u, false) → findRow a (regRows (a / 0x10000)) = some (r, k) → r.acc = .rc → u.capAbsent (a / 0x10000) = false → ∃ t, exec (.rcRegisterRead a b) s = .next t ∧ t.reply = .data (u.regRead a) ∧ t.num a = (u.leastNow a).getD 0 % 2 ^ 32 ∧ ∀ c, c ≠ a → t.rd c = u.rd c) ∧
  (∀ (a : Nat) (b : Option MemRead) (s : State) (u : State), s.mainLive = true → a % 4 = 0 → s.barListed a = true → s.readBehind b = (u, true) → exec (.rcRegisterRead a b) s = .next { u with reply := .abort }) ∧
  (∀ (ns : Nat) (s : State), s.mainLive = true → s.capAbsent 3 = false → ∃ t, exec (.snReadLatch ns) s = .next t ∧ t.reply = .data (BitVec.ofNat 32 s.sn) ∧ t.num STK_SN_HI = s.sn / 2 ^ 32 % 2 ^ 32 ∧ t.get STK_PHASE_NS_NS = ns % 2 ^ 18) ∧
  (∀ (ns : Nat) (s : State), s.mainLive = true → s.capAbsent 3 = true → exec (.snReadLatch ns) s = .next { s with reply := .data 0 }) ∧
  (∀ (a : Nat) (n : Nat) (w : Bool) (s : State), s.mainLive = true → (a % 4 == 0 && n == 1 && w && s.barListed a) = false → ∃ t, exec (.bar0BadRequest a n w) s = .next t ∧ t.reply = .unsupported ∧ t.num RNG_BAR_ERR = (s.num RNG_BAR_ERR + 1) % 2 ^ 32 ∧ ∀ b, b ≠ RNG_BAR_ERR → t.rd b = s.rd b)

/-- With RINGS present and its registers unlocked, a write that sets ENABLE of an idle ring sets it on with indices 0, and one that
clears ENABLE sets the ring off; with the registers locked both are only counted and recorded. A fault bit is cleared by writing 1.
A doorbell page gives every completion ring its consumer index, then every submission ring its producer index, on a fast poll only
the rings polled so; a late one is counted; a live ring without a fault takes the index, and one beyond its size faults and is
recorded. A chain fetched with room for it is consumed as a whole with a completion reserved for each member, and enters the
dispatcher. A host memory error is counted and recorded with the code of how it ended, sets its bit of the error status, and ends
the job of its descriptor ABORTED with cause 2. A host-link reset sets every RINGS register but the count of lost completions back
to its reset value, leaves RINGS unlocked with its indices 0, and no completion nor posted buffer of the rings of this unit, which
stays engaged in its device state. (R44, R51, R54, R55, R58, R62, R63, R64, R67, R526.) -/
def Obligations.RingsAreSetUpAndServed : Prop :=
  (∀ (cq : Bool) (n : Nat) (v : Word) (s : State), s.mainLive = true → n < 64 → s.capAbsent 4 = false → s.rwlLocked 4 = false → s.ringOn cq n = false → ∃ t, exec (.ringEnable cq n v) s = .next t ∧ t.ringOn cq n = true ∧ (if cq then (t.cq n).prod = 0 ∧ (t.cq n).cons = 0 else (t.sq n).prod = 0 ∧ (t.sq n).cons = 0)) ∧
  (∀ (cq : Bool) (n : Nat) (v : Word) (s : State), s.mainLive = true → n < 64 → s.capAbsent 4 = false → s.rwlLocked 4 = false → ∃ t, exec (.ringDisable cq n v) s = .next t ∧ t.ringOn cq n = false) ∧
  (∀ (cq : Bool) (n : Nat) (v : Word) (s : State), s.mainLive = true → n < 64 → s.capAbsent 4 = false → s.rwlLocked 4 = true → exec (.ringEnable cq n v) s = .next (s.lockedWrite (ringCfg cq n) (withBits v 0 1 1)) ∧ exec (.ringDisable cq n v) s = .next (s.lockedWrite (ringCfg cq n) (withBits v 0 1 0))) ∧
  (∀ (v : Word) (s : State), s.mainLive = true → s.capAbsent 4 = false → exec (.sqFaultClear false v) s = .next (s.wr RNG_SQ_FAULT_LO (s.rd RNG_SQ_FAULT_LO &&& ~~~v)) ∧ exec (.sqFaultClear true v) s = .next (s.wr RNG_SQ_FAULT_HI (s.rd RNG_SQ_FAULT_HI &&& ~~~v))) ∧
  (∀ (v : Word) (s : State), s.mainLive = true → s.capAbsent 4 = false → exec (.cqFaultClear false v) s = .next (s.wr RNG_CQ_FAULT_LO (s.rd RNG_CQ_FAULT_LO &&& ~~~v)) ∧ exec (.cqFaultClear true v) s = .next (s.wr RNG_CQ_FAULT_HI (s.rd RNG_CQ_FAULT_HI &&& ~~~v))) ∧
  (∀ (fast : Bool) (late : Bool) (ps : List Nat) (cs : List Nat) (s : State), s.serving = true → s.pagesOk = true → let u := if late then s.count RNG_DB_LATE 1 else s; exec (.doorbellRead fast late ps cs) s = .next ((List.range 64).foldl (fun t n => if !fast || t.fastPolled (n / 4) then t.readProd n (ps.getD n 0 % 2 ^ 32) else t) ((List.range 64).foldl (fun t n => t.readCons n (cs.getD n 0 % 2 ^ 32)) u))) ∧
  (∀ (n : Nat) (p : Nat) (s : State), s.ringLive false n = true → s.ringFault false n = false → s.readProd n p = if s.ringSize false n < idxSub p (s.sq n).cons then ((s.setRingFault false n).modSq n fun q => { q with prod := (s.sq n).cons }).record EV_RING_RUNAWAY 0 n p (s.sq n).cons else s.modSq n fun q => { q with prod := p }) ∧
  (∀ (n : Nat) (p : Nat) (s : State), s.ringLive true n = true → s.ringFault true n = false → s.readCons n p = if s.ringSize true n < idxSub (s.cq n).prod p then (s.setRingFault true n).record EV_CQ_RUNAWAY 0 n p (s.cq n).prod else s.modCq n fun q => { q with cons := p }) ∧
  (∀ (r : Nat) (raw : List (List Byte × List Byte)) (ds : List Desc) (s : State), s.serving = true → r < 64 → s.ringLive false r = true → s.ringFault false r = false → s.ringFault true (s.cqOf r) = false → readDescs r (s.sq r).cons raw = ds → chainShape ds = true → ds.length ≤ idxSub (s.sq r).prod (s.sq r).cons → ds.length ≤ s.cqFree (s.cqOf r) → (s.disp.held.contains r && r / 4 != 9) = false → (r / 4 = 9 ∨ (s.disp.jobs.filter fun j => j.phase == .presented && !j.isPeriodic).length + ds.length ≤ s.slotsFree) → (s.disp.jobs.any fun j => j.phase == .fenced && (match j.desc with | some d => d.ring == r | none => false)) = false → ((match ds with | d :: _ => decide (s.sn < d.notBefore) && (s.earlyEnd d).isNone && !d.slotless | [] => false) = true → s.timerFree = true) → let u := (s.modSq r fun q => { q with cons := (q.cons + ds.length) % 2 ^ 32 }).modCq (s.cqOf r) fun x => { x with reserved := x.reserved + ds.length }; let v := if ds.length == 16 && (match ds.getLast? with | some d => d.chain | none => false) then ds.foldl (fun t d => t.endEarly d (if t.classAbsent d.ringClass then stABSENT else stBAD_DESC)) u else u.enterChain none false (match ds with | d :: _ => d.notBefore | [] => 0) ds; exec (.descriptorFetch r raw) s = .next (v.pressure.showDisp)) ∧
  (∀ (h : DmaEnd) (a : Nat) (s : State), s.serving = true → let u := (s.count RNG_DMA_ERR 1).record EV_HOST_DMA_ERROR 0 0xFF h.code (lo32 a); exec (.hostDmaError none h a) s = .next (match h.aer with | some b => u.setRings { u.rings with pcie := { u.rings.pcie with aer := setBit u.rings.pcie.aer b } } | none => u)) ∧
  (∀ (h : DmaEnd) (a : Nat) (r : Nat) (n : Nat) (j : Job) (d : Desc) (s : State), s.serving = true → (s.disp.jobs.find? fun j => j.isRing r n) = some j → j.desc = some d → let u := (s.count RNG_DMA_ERR 1).record EV_HOST_DMA_ERROR 0 r h.code (lo32 a); let v := match h.aer with | some b => u.setRings { u.rings with pcie := { u.rings.pcie with aer := setBit u.rings.pcie.aer b } } | none => u; exec (.hostDmaError (some (r, n)) h a) s = .next ((v.noteAbandoned j).finish d (v.fail stABORTED 2))) ∧
  (∀ (s : State), s.mainLive = true → ∃ t, exec .hostLinkReset s = .next t ∧ t.rings.unlocked = true ∧ t.rings.sq = List.replicate 64 {} ∧ t.rings.cq = List.replicate 64 {} ∧ (∀ c, c ∈ t.rings.due → 64 ≤ c.cq) ∧ (∀ p, p ∈ t.rings.posted → 64 ≤ p.ring) ∧ t.engaged = s.engaged ∧ t.dev = s.dev ∧ ∀ a, a / 0x10000 = 4 → a ≠ RNG_LOST_CPL → t.rd a = regReset a)

/-- NOP ends OK with RESULT 0; ECHO ends OK with operand bytes 32 to 39 as RESULT; POST_BUFFER adds its buffer behind those posted and
does not complete, and on the ring of the record link what waits for a buffer may take it at once. A forwarded descriptor without a
result for 400 strokes leaves the list, is recorded, and ends TIMEOUT. (R69, R75, R76.) -/
def Obligations.CommonRingCommands : Prop :=
  (∀ (d : Desc) (s : State), Runs s d → exec (.nop d) s = .next (s.finish d s.ok)) ∧
  (∀ (d : Desc) (s : State), Runs s d → exec (.echo d) s = .next (s.finish d (s.ok (d.op 32 8)))) ∧
  (∀ (d : Desc) (s : State), Runs s d → d.ring ≠ 51 → ∃ u : State, exec (.postBuffer d) s = .next (s.finish d u.later) ∧ u.rings.posted = s.rings.posted ++ [⟨d.ring, d.tag, d.bufAddr, d.bufLen, d.quiet⟩] ∧ u.rings.due = s.rings.due) ∧
  (∀ (d : Desc) (s : State), Runs s d → d.ring = 51 → ∃ u : State, exec (.postBuffer d) s = .next (s.finish d (u.wlgDeliver 64).later) ∧ u.rings.posted = s.rings.posted ++ [⟨d.ring, d.tag, d.bufAddr, d.bufLen, d.quiet⟩] ∧ u.rings.due = s.rings.due) ∧
  (∀ (f : Forwarded) (s : State), s.serving = true → (s.rings.forwarded.find? fun f => decide (f.sentSn + 400 ≤ s.sn)) = some f → let u := s.setRings { s.rings with forwarded := s.rings.forwarded.filter fun x => x.id != f.id }; let v := (u.put PAI_FWD_PENDING_N u.rings.forwarded.length).record EV_FORWARD_TIMEOUT 0 f.desc.ring f.desc.tag 0; exec .forwardTimeout s = .next ((v.complete f.desc stTIMEOUT 0 [] 0 .status).endJobOf f.desc false))

/-- A valid TB0 that loses its source is in holdover, with source 0, no error to slew and its seconds counted from 0; a loss in holdover
leaves no source waiting. Beyond TIM_HOLDOVER_LIMIT the limit is shown and recorded once. The first source makes TB0 valid. A source
that returns in holdover within the re-anchor limit ends it; beyond the limit it waits as TB0_FAR and is recorded, and while it
waits and agrees with itself only its error is noted, until ACCEPT ends holdover with the first that waits. Out of holdover the
error of the source in force is noted and slewed out, and one that disagrees with itself by more than the limit starts holdover. A
PPS_IN edge within 2 us of the last is only recorded as a fault; any other is timestamped, with PPS_IN_OK for a gap of one second
within 1 us. PPS_OUT pulses while its base is valid. (R84, R86, R87, R98.) -/
def Obligations.Tb0FollowsItsSource : Prop :=
  (∀ (s : State), s.mainLive = true → s.flag TIM_STATUS_TB0_VALID = true → s.flag TIM_STATUS_HOLDOVER = false → ∃ t, exec .tb0Holdover s = .next t ∧ t.get TIM_STATUS_HOLDOVER = 1 ∧ t.get STK_STATUS_HOLDOVER = 1 ∧ t.get TIM_STATUS_TB0_SRC = 0 ∧ t.get TIM_STATUS_TB0_VALID = 1 ∧ t.tim.slewQ = 0 ∧ t.tim.holdSn = some s.now ∧ t.num TIM_HOLDOVER_S = 0 ∧ t.sn = s.sn) ∧
  (∀ (s : State), s.mainLive = true → s.flag TIM_STATUS_TB0_VALID = true → s.flag TIM_STATUS_HOLDOVER = true → exec .tb0Holdover s = .next ((s.setTim { s.tim with far := [] }).put TIM_STATUS_TB0_FAR 0)) ∧
  (∀ (s : State), s.mainLive = true → s.flag TIM_STATUS_HOLDOVER = true → s.flag TIM_STATUS_HOLDOVER_EXPIRED = false → s.num TIM_HOLDOVER_LIMIT < s.holdSeconds → exec .holdoverLimit s = .next (((s.setNum TIM_HOLDOVER_S s.holdSeconds).put TIM_STATUS_HOLDOVER_EXPIRED 1).record EV_HOLDOVER_LIMIT 0 s.holdSeconds 0 0)) ∧
  (∀ (k : Nat) (e : Int) (s : State), s.mainLive = true → s.srcEnabled k = true → s.flag TIM_STATUS_TB0_VALID = false → exec (.tb0SourceReturn k e) s = .next ((((s.noteErr k 0).put TIM_STATUS_TB0_VALID 1).put TIM_STATUS_TB0_SRC k).record EV_TB0_SOURCE_OK 0 k 0 0)) ∧
  (∀ (k : Nat) (e : Int) (s : State), s.mainLive = true → s.srcEnabled k = true → s.flag TIM_STATUS_TB0_VALID = true → s.flag TIM_STATUS_HOLDOVER = true → s.tim.far.contains k = false → (absI e : Int) ≤ s.num TIM_REANCHOR_LIMIT_NS → exec (.tb0SourceReturn k e) s = .next ((s.noteErr k e).endHoldover k e)) ∧
  (∀ (k : Nat) (e : Int) (s : State), s.mainLive = true → s.srcEnabled k = true → s.flag TIM_STATUS_TB0_VALID = true → s.flag TIM_STATUS_HOLDOVER = true → s.tim.far.contains k = false → (s.num TIM_REANCHOR_LIMIT_NS : Int) < absI e → let u := s.noteErr k e; exec (.tb0SourceReturn k e) s = .next (((u.setTim { u.tim with far := u.tim.far ++ [k] }).put TIM_STATUS_TB0_FAR 1).record EV_TB0_RETURN_FAR 0 k (sat32 e) 0)) ∧
  (∀ (k : Nat) (e : Int) (s : State), s.mainLive = true → s.srcEnabled k = true → s.flag TIM_STATUS_TB0_VALID = true → s.flag TIM_STATUS_HOLDOVER = true → s.tim.far.contains k = true → (s.num TIM_REANCHOR_LIMIT_NS : Int) < absI e → (match s.errOf k with | some l => decide ((s.num TIM_REANCHOR_LIMIT_NS : Int) < absI (e - l)) | none => false) = false → exec (.tb0SourceReturn k e) s = .next (s.noteErr k e)) ∧
  (∀ (k : Nat) (e : Int) (s : State), s.mainLive = true → s.srcEnabled k = true → s.flag TIM_STATUS_TB0_VALID = true → s.flag TIM_STATUS_HOLDOVER = false → s.get TIM_STATUS_TB0_SRC = k → (match s.errOf k with | some l => decide ((s.num TIM_REANCHOR_LIMIT_NS : Int) < absI (e - l)) | none => false) = false → exec (.tb0SourceReturn k e) s = .next (((s.noteErr k e).slewTb0 e).steerOsc)) ∧
  (∀ (k : Nat) (e : Int) (s : State), s.mainLive = true → s.srcEnabled k = true → s.flag TIM_STATUS_TB0_VALID = true → s.flag TIM_STATUS_HOLDOVER = false → s.get TIM_STATUS_TB0_SRC = k → (match s.errOf k with | some l => decide ((s.num TIM_REANCHOR_LIMIT_NS : Int) < absI (e - l)) | none => false) = true → exec (.tb0SourceReturn k e) s = .next ((s.noteErr k e).enterHoldover)) ∧
  (∀ (v : Word) (k : Nat) (s : State), s.mainLive = true → bitsOf v 0 1 = 1 → ([1, 2, 3].find? s.tim.far.contains) = some k → exec (.tb0Accept v) s = .next (s.endHoldover k ((s.errOf k).getD 0))) ∧
  (∀ (n : Nat) (p : Nat) (s : State), s.mainLive = true → s.tim.ppsLast = some p → p ≤ n → n < p + 2000 → exec (.ppsInEdge n) s = .next (s.record EV_PPS_IN_FAULT 0 (n - p) 0 0)) ∧
  (∀ (n : Nat) (p : Nat) (s : State), s.mainLive = true → s.tim.ppsLast = some p → p + 2000 ≤ n → exec (.ppsInEdge n) s = .next (s.ppsEdge n (decide (absI (((n - p : Nat) : Int) - 1000000000) ≤ 1000)))) ∧
  (∀ (n : Nat) (s : State), s.mainLive = true → s.tim.ppsLast = none → exec (.ppsInEdge n) s = .next (s.ppsEdge n false)) ∧
  (∀ (n : Nat) (g : Bool) (s : State), s.tim.labelFresh = false → s.tim.labelled = false → let t := s.ppsEdge n g; t.tim.ppsLast = some n ∧ t.tim.ppsTb1 = some (n + s.tb1Ofs) ∧ t.num TIM_PPS_IN_NS = n % 1000000000 ∧ t.num TIM_PPS_IN_SEC_LO = n / 1000000000 % 2 ^ 32 ∧ t.get TIM_STATUS_PPS_IN_OK = b2n g) ∧
  (∀ (s : State), s.mainLive = true → s.ppsValid = true → exec .ppsOutPulse s = .next (s.emit (.pps (s.get TIM_PPS_CFG_PPS_OUT_SRC) (s.get TIM_PPS_CFG_PPS_OUT_WIDTH) s.freqOut)))

/-- The first Sync measurement that waits on an enabled port in the slave or boundary role is taken: an offset within TIM_TB1_STEP_NS is
slewed out whole and the agreement count restarts; one beyond it that disagrees with those before clears the count, one that agrees
joins them, and once STEP_CONFIRM of them agree TB1 moves by the offset at once, the step is counted and recorded, and the gate
lists that follow TB1 step with it. LOAD sets TB3 to the values written, from the instant of the write; a read of TIM_TB3_SEC_LO
latches all three words and answers the low seconds. TIM_UTC_OFFSET changes once the announced TAI second is reached. In OPERATE the
keep-alive data takes the ephemerides, the almanacs, the last ARP, the UTC offset, the TAI second with the AON count, and a CRC-32C
over them. (R90, R91, R100, R119, R121.) -/
def Obligations.ClocksTb1AndTb3 : Prop :=
  (∀ (m : SyncMeas) (r : List SyncMeas) (o : Int) (a : Nat) (s : State) (u : State), s.serving = true → s.tim.ptp.meas = m :: r → u = s.setPtp { s.tim.ptp with meas := r } → o = u.syncOffset m a → (u.get TIM_TB1_CFG_ROLE == 1 || u.get TIM_TB1_CFG_ROLE == 3) = true → u.flag (TIM_PORT_PTP_PTP_EN m.port) = true → (absI o : Int) ≤ u.num TIM_TB1_STEP_NS → exec (.ptpSync a) s = .next ((u.setTim { u.tim with syncs := [], tb1Slew := -o, backSlew := false }).setTb1State 2 m.port)) ∧
  (∀ (m : SyncMeas) (r : List SyncMeas) (o : Int) (a : Nat) (s : State) (u : State), s.serving = true → s.tim.ptp.meas = m :: r → u = s.setPtp { s.tim.ptp with meas := r } → o = u.syncOffset m a → (u.get TIM_TB1_CFG_ROLE == 1 || u.get TIM_TB1_CFG_ROLE == 3) = true → u.flag (TIM_PORT_PTP_PTP_EN m.port) = true → (u.num TIM_TB1_STEP_NS : Int) < absI o → (u.tim.backSlew && decide (0 < o)) = false → (u.tim.syncs.all fun x => decide ((absI (x - o) : Int) ≤ u.num TIM_TB1_STEP_NS)) = false → exec (.ptpSync a) s = .next (u.setTim { u.tim with tb1Slew := 0, backSlew := false, syncs := [] })) ∧
  (∀ (m : SyncMeas) (r : List SyncMeas) (o : Int) (a : Nat) (s : State) (u : State), s.serving = true → s.tim.ptp.meas = m :: r → u = s.setPtp { s.tim.ptp with meas := r } → o = u.syncOffset m a → (u.get TIM_TB1_CFG_ROLE == 1 || u.get TIM_TB1_CFG_ROLE == 3) = true → u.flag (TIM_PORT_PTP_PTP_EN m.port) = true → (u.num TIM_TB1_STEP_NS : Int) < absI o → (u.tim.backSlew && decide (0 < o)) = false → (u.tim.syncs.all fun x => decide ((absI (x - o) : Int) ≤ u.num TIM_TB1_STEP_NS)) = true → u.tim.syncs.length + 1 < max 1 (u.get TIM_TB1_CFG_STEP_CONFIRM) → exec (.ptpSync a) s = .next (u.setTim { u.tim with tb1Slew := 0, backSlew := false, syncs := u.tim.syncs ++ [o] })) ∧
  (∀ (m : SyncMeas) (r : List SyncMeas) (o : Int) (a : Nat) (s : State) (u : State), s.serving = true → s.tim.ptp.meas = m :: r → u = s.setPtp { s.tim.ptp with meas := r } → o = u.syncOffset m a → (u.get TIM_TB1_CFG_ROLE == 1 || u.get TIM_TB1_CFG_ROLE == 3) = true → u.flag (TIM_PORT_PTP_PTP_EN m.port) = true → (u.num TIM_TB1_STEP_NS : Int) < absI o → (u.tim.backSlew && decide (0 < o)) = false → (u.tim.syncs.all fun x => decide ((absI (x - o) : Int) ≤ u.num TIM_TB1_STEP_NS)) = true → max 1 (u.get TIM_TB1_CFG_STEP_CONFIRM) ≤ u.tim.syncs.length + 1 → (decide (0 < o) && u.flag TIM_TB1_CFG_NO_BACK_STEP) = false → let v := (u.setTim { u.tim with tb1Slew := 0, backSlew := false, syncs := [] }).moveTb1 (-o); let x := ((v.count TIM_TB1_STEPS 1).record EV_TB1_STEP 0 (lo32 (unsigned 64 (-o))) (hi32 (unsigned 64 (-o))) m.port).setTb1State 2 m.port; exec (.ptpSync a) s = .next ((List.range 24).foldl (fun t p => t.stepPort a p) x)) ∧
  (∀ (v : Word) (a : Nat) (s : State), s.mainLive = true → bitsOf v 0 1 = 1 → exec (.tb3Load v a) s = .next (s.setTim { s.tim with tb3 := (s.tim.tb3Sec : Int) * 1000000000 + (s.tim.tb3Ns : Int), tb3At := s.clockNs a })) ∧
  (∀ (a : Nat) (s : State), s.mainLive = true → ∃ t, exec (.tb3ReadLatch a) s = .next t ∧ t.num TIM_TB3_NS = (s.tb3Now (s.clockNs a) % 1000000000).toNat ∧ t.num64 TIM_TB3_SEC_LO TIM_TB3_SEC_HI = unsigned 64 (s.tb3Now (s.clockNs a) / 1000000000) ∧ t.reply = .data (t.rd TIM_TB3_SEC_LO) ∧ t.tim = s.tim) ∧
  (∀ (v : Int) (a : Nat) (s : State), s.mainLive = true → s.gns.leap = some (v, a) → s.stroked = true → a ≤ s.siteEpoch + s.sn / 4000 → ∃ t, exec .utcOffsetChange s = .next t ∧ t.get TIM_UTC_OFFSET_V = unsigned 16 v % 2 ^ TIM_UTC_OFFSET_V.width ∧ t.gns.leap = none) ∧
  (∀ (s : State), s.dev = .operate → s.stroked = true → ∃ k : KeepAlive, (∃ t, exec .keepaliveWrite s = .next t ∧ t.gns.keepAlive = some k) ∧ k.eph = s.gns.eph ∧ k.alm = s.gns.alm ∧ k.arp = s.gns.lastArp ∧ k.utc = s.get TIM_UTC_OFFSET_V ∧ k.tai = some (s.siteEpoch + s.sn / 4000, s.gns.aon / 125) ∧ k.crc = crc32c (kaBytes k.eph k.alm k.arp k.utc k.osc k.tai))

/-- A frame whose launch time has come becomes an ordinary frame of its queue, and starts when the port is idle with its link up and its
gate lets it go; one found late is counted, and becomes an ordinary frame where LATE_SEND is set, or is discarded where not, and the
frame behind it is weighed; one that would wait longer than TIM_LAUNCH_MAX_WAIT is discarded and recorded; any other waits. At the
end of a gate interval the next entry of the list is in force, after the last the first again; a list held back by a step of its
clock begins with its first entry at its time. At the change time the administrative list becomes operational at the entry of that
time, the gates of no other port change, and the change is recorded. (R96, R97, R353.) -/
def Obligations.GatesAndLaunchTimes : Prop :=
  (∀ (p : Nat) (c : Nat) (a : Nat) (l : Nat) (e : QEntry) (r : List QEntry) (s : State), s.serving = true → s.queue p c = e :: r → e.launch = some l → s.portNow p a = l → let u := s.setQueue p c ({ e with launch := none } :: r); exec (.launchTime p c a) s = .next (if (u.eg p).busy.isNone && u.linkOf p && (u.eligible p c l).isSome then u.startFrame p c a else u)) ∧
  (∀ (p : Nat) (c : Nat) (a : Nat) (l : Nat) (e : QEntry) (r : List QEntry) (s : State), s.serving = true → s.queue p c = e :: r → e.launch = some l → l < s.portNow p a → s.flag (TIM_PORT_PTP_LATE_SEND p) = true → exec (.launchTime p c a) s = .next ((s.count TIM_LAUNCH_LATE 1).setQueue p c ({ e with launch := none } :: r))) ∧
  (∀ (p : Nat) (c : Nat) (a : Nat) (l : Nat) (e : QEntry) (r : List QEntry) (s : State), s.serving = true → s.queue p c = e :: r → e.launch = some l → l < s.portNow p a → s.flag (TIM_PORT_PTP_LATE_SEND p) = false → exec (.launchTime p c a) s = .next ((((s.count TIM_LAUNCH_LATE 1).setQueue p c r).discard e).weighHead p c (s.portNow p a) r.length)) ∧
  (∀ (p : Nat) (c : Nat) (a : Nat) (l : Nat) (e : QEntry) (r : List QEntry) (s : State), s.serving = true → s.queue p c = e :: r → e.launch = some l → s.portNow p a + s.num TIM_LAUNCH_MAX_WAIT * 1000 < l → exec (.launchTime p c a) s = .next ((s.setQueue p c r).launchDrop p e (s.portNow p a))) ∧
  (∀ (p : Nat) (c : Nat) (a : Nat) (l : Nat) (e : QEntry) (r : List QEntry) (s : State), s.serving = true → s.queue p c = e :: r → e.launch = some l → s.portNow p a < l → l ≤ s.portNow p a + s.num TIM_LAUNCH_MAX_WAIT * 1000 → exec (.launchTime p c a) s = .next s) ∧
  (∀ (p : Nat) (a : Nat) (l : GateList) (s : State), s.serving = true → (s.gatesOf p).oper = some l → (s.gatesOf p).held = none → exec (.gateInterval p a) s = .next (s.setGates p { s.gatesOf p with idx := if (s.gatesOf p).idx + 1 < l.spans.length then (s.gatesOf p).idx + 1 else 0 })) ∧
  (∀ (p : Nat) (a : Nat) (l : GateList) (h : Nat) (s : State), s.serving = true → (s.gatesOf p).oper = some l → (s.gatesOf p).held = some h → exec (.gateInterval p a) s = .next (if s.portNow p a < h then s else s.setGates p { s.gatesOf p with idx := 0, held := none })) ∧
  (∀ (p : Nat) (a : Nat) (l : GateList) (k : Nat) (s : State), s.serving = true → (s.gatesOf p).admin = some (l, k) → k ≤ s.portNow p a → let u := s.operate p l (s.portNow p a); exec (.gateListChange p a) s = .next ((u.setGates p { u.gatesOf p with admin := none }).record EV_GATE_LIST_CHANGE 0 p l.entries.length l.cycle)) ∧
  (∀ (p : Nat) (a : Nat) (l : GateList) (k : Nat) (s : State), s.serving = true → (s.gatesOf p).admin = some (l, k) → k ≤ s.portNow p a → ∃ t, exec (.gateListChange p a) s = .next t ∧ (t.gatesOf p).oper = some l ∧ (t.gatesOf p).admin = none ∧ (t.gatesOf p).idx = l.entryAt (s.portNow p a) ∧ ∀ q, q ≠ p → t.gatesOf q = s.gatesOf q)

/-- A clock off by more than 1,000 ppm for 40 strokes drops the tracks of the band of an enabled port, clears CLK_OK and is recorded
with its last deviation; CLK_OK returns with a clock that is within it for 40. GO on the front-end bus is stored with its fields
held to range, and the bits to write leave; while a transfer runs the write changes nothing. Its end clears GO and shifts the
written bits out and the read bits in. Jamming, with the AGC risen and C/N0 fallen by 6 dB, sets JAM of the port once, with the fall
recorded; its end after 4,000 strokes without either clears it and is recorded. A signal that loses lock frees its channel. (R102,
R103, R104, R113.) -/
def Obligations.GnssPortsAndBus : Prop :=
  (∀ (p : Nat) (ds : List Int) (s : State), s.serving = true → clockBad 1000 ds = true → let u := s.setGns { s.gns with tracks := s.gns.tracks.filter fun x => !(s.flag (GNS_PORT_CFG_ENABLE p) && sigBand x.sig == s.get (GNS_PORT_CFG_BAND p)) }; exec (.portClockLost p ds) s = .next (((u.put (GNS_PORT_STAT_CLK_OK p) 0).showGnss).record EV_PORT_CLOCK_LOST 0 p (sat32 (ds.getLastD 0)) 0)) ∧
  (∀ (p : Nat) (ds : List Int) (s : State), s.serving = true → clockGood 1000 ds = true → exec (.gnssPortClockOk p ds) s = .next (s.put (GNS_PORT_STAT_CLK_OK p) 1)) ∧
  (∀ (v : Word) (s : State), s.mainLive = true → s.get GNS_SPI_CTRL_GO = 0 → ∃ t, exec (.gnssSpiTransfer v) s = .next t ∧ t.get GNS_SPI_CTRL_GO = bitsOf v 15 1 ∧ t.get GNS_SPI_CTRL_WBITS = clampN 0 32 (bitsOf v 2 6) ∧ t.get GNS_SPI_CTRL_RBITS = clampN 0 32 (bitsOf v 8 6) ∧ t.out = (if bitsOf v 15 1 = 1 then [Out.spi false (t.get GNS_SPI_CTRL_SEL) (t.get GNS_SPI_CTRL_WBITS) (spiOut (s.num GNS_SPI_DATA) (t.get GNS_SPI_CTRL_WBITS))] else []) ++ s.out ∧ ∀ a, a ≠ GNS_SPI_CTRL → t.rd a = s.rd a) ∧
  (∀ (v : Word) (s : State), s.mainLive = true → s.get GNS_SPI_CTRL_GO = 1 → ∃ t, exec (.gnssSpiTransfer v) s = .next t ∧ t.out = s.out ∧ ∀ a, t.rd a = s.rd a) ∧
  (∀ (b : Nat) (s : State), s.serving = true → s.get GNS_SPI_CTRL_GO = 1 → ∃ t, exec (.gnssSpiDone b) s = .next t ∧ t.get GNS_SPI_CTRL_GO = 0 ∧ t.num GNS_SPI_DATA = (s.num GNS_SPI_DATA * 2 ^ (s.get GNS_SPI_CTRL_WBITS + s.get GNS_SPI_CTRL_RBITS) + b % 2 ^ s.get GNS_SPI_CTRL_RBITS) % 2 ^ 32) ∧
  (∀ (p : Nat) (s : State), s.serving = true → s.flag (GNS_PORT_STAT_JAM p) = false → s.agcRose p = true → 96 ≤ s.cn0Fall p → exec (.jamDetected p) s = .next (((s.put (GNS_PORT_STAT_JAM p) 1).showGnss).record EV_JAM_DETECTED 0 p (s.cn0Fall p * 10 / 16) (s.get (GNS_PORT_STAT_AGC_OUT p)))) ∧
  (∀ (p : Nat) (s : State), s.serving = true → s.flag (GNS_PORT_STAT_JAM p) = true → (match tget s.gns.jamAt p with | some n => decide (n + 4000 ≤ s.now) | none => true) = true → exec (.jamCleared p) s = .next (((s.put (GNS_PORT_STAT_JAM p) 0).showGnss).record EV_JAM_CLEARED 0 p 0 0)) ∧
  (∀ (g : Nat) (p : Nat) (s : State), s.serving = true → exec (.signalLockLost g p) s = .next (s.setGns { s.gns with tracks := s.gns.tracks.filter fun x => !(x.sig == g && x.prn == p) }).showGnss)

/-- Channel assignment keeps the tracks of visible satellites, begins every other track at the stroke of now, and never holds more than
512. A measurement epoch at a multiple of 200 latches the measurements of tracked signals with its SN; its checks consume it, and
keep what becomes its set. From E + 2 to E + 4 the set is presented: its time offer is made or counted as absent, CLOCK_FAR follows
it, and where strokes run the unit that holds authority takes the set. An epoch whose set is not presented by then is missing: it is
counted, recorded, and where it is a correction epoch the correction is withheld with cause 3. A new ephemeris is held; one that
lies more than 10 m from the one held is rejected the first time. A survey is restarted, and shown as slow once. FORGET_KEEPALIVE is
remembered. Twenty epochs without an offer lose GNSS time, and TB0 with it where GNSS was its source. (R106, R107, R108, R111, R115,
R117, R122.) -/
def Obligations.MeasurementEpochs : Prop :=
  (∀ (vs : List SatView) (s : State), s.serving = true → s.gns.tracks.length ≤ 512 → ∃ t, exec (.channelAssign vs) s = .next t ∧ t.gns.tracks.length ≤ 512 ∧ (∀ x, x ∈ t.gns.tracks → x ∈ s.gns.tracks ∨ x.lockSn = s.now) ∧ ∀ x, x ∈ s.gns.tracks → x ∉ t.gns.tracks → ¬ ∃ v, v ∈ vs ∧ v.cst = sigConst x.sig ∧ v.prn = x.prn ∧ (s.get GNS_CFG_ELEV_MASK : Int) * 10 ≤ v.elev) ∧
  (∀ (ms : List Meas) (s : State), s.serving = true → s.now % 200 = 0 → let mine := ms.filter fun m => s.gns.tracks.any fun x => x.sig == m.sig && x.prn == m.prn; let u := s.dropOldEph; let v := u.setGns { u.gns with latched := some (s.now, mine), preEpoch := !s.stroked, epochs := (s.now :: u.gns.epochs).take 2 }; exec (.measurementEpoch ms) s = .next ((List.range 4).foldl (fun t p => t.noteCn0 mine p) v)) ∧
  (∀ (x : Solution) (n : Nat) (ms : List Meas) (s : State), s.serving = true → s.gns.latched = some (n, ms) → ∃ t b, exec (.consistencyChecks x) s = .next t ∧ t.gns.latched = none ∧ t.gns.checked = some b ∧ b.sn = n ∧ b.pre = s.gns.preEpoch ∧ b.tracked = !ms.isEmpty ∧ b.bias = x.bias + signed 32 (s.num GNS_ANT_DELAY_NS) ∧ b.pos = x.pos) ∧
  (∀ (x : Checked) (s : State), s.serving = true → s.gns.checked = some x → x.sn + 2 ≤ s.now → s.now ≤ x.sn + 4 → x.tracked = true → let o := s.offers x; let u := (s.setGns { s.gns with checked := none }).offerEpoch x; let v := u.put GNS_STATUS_CLOCK_FAR (b2n (bit (u.setOf x o).flags 2)); exec .setPresented s = .next (if x.pre || !v.stroked || !v.authority then v else v.presentSet (u.setOf x o))) ∧
  (∀ (e : Nat) (s : State), s.serving = true → s.missingEpoch = some e → let u := (s.setGns { s.gns with latched := none, checked := none }).noOffer; let v := (u.count GNS_EPOCHS_MISSED 1).record EV_EPOCH_MISSING 0 e 0 0; exec .epochMissing s = .next (if v.stroked && v.authority && e % v.corrPeriod == 0 then (v.logInput (.value 0x0C (leBytes 8 e))).withhold 3 e else v)) ∧
  (∀ (e : Nat) (ms : List Meas) (s : State), s.gns.latched = some (e, ms) → s.missingEpoch = if e + 4 ≤ s.now then some e else none) ∧
  (∀ (c : Nat) (p : Nat) (k : Nat) (b : List Byte) (a : Option (List Byte)) (v : Option Int) (l : Option (Int × Nat)) (s : State), s.serving = true → ((s.gns.eph.any fun x => x.cst == c && x.prn == p) && decide (10 < k) && !(s.gns.rejected.any fun x => x.1 == ⟨c, p, b⟩)) = false → ∃ t, exec (.ephemerisReceived c p k b a v l) s = .next t ∧ t.gns.eph = putEph s.gns.eph ⟨c, p, b⟩ ∧ t.gns.tracks = s.gns.tracks) ∧
  (∀ (c : Nat) (p : Nat) (k : Nat) (b : List Byte) (a : Option (List Byte)) (v : Option Int) (l : Option (Int × Nat)) (s : State), s.serving = true → 10 < k → (s.gns.eph.any fun x => x.cst == c && x.prn == p) = true → (s.gns.rejected.any fun x => x.1 == ⟨c, p, b⟩) = false → ∃ t, exec (.ephemerisReceived c p k b a v l) s = .next t ∧ t.gns.eph = s.gns.eph ∧ t.bsl = s.bsl ∧ (t.gns.rejected.any fun x => x.1 == ⟨c, p, b⟩) = true) ∧
  (∀ (v : Survey) (s : State), s.serving = true → s.gns.survey = some v → v.slowSaid = false → s.num GNS_SURVEY_MAX_S ≤ v.seconds s.gns.upPeriods → exec .surveySlow s = .next ((s.setGns { s.gns with survey := some { v with slowSaid := true } }).record EV_SURVEY_SLOW 0 (v.seconds s.gns.upPeriods) (s.num GNS_SURVEY_SIGMA) 0)) ∧
  (∀ (s : State), s.mainLive = true → s.flag GNS_CFG_ARP_MODE = true → ∃ t, exec .surveyRestart s = .next t ∧ t.gns.arp = none ∧ t.gns.survey = (if s.engaged then some ⟨0, (0, 0, 0), 0, s.gns.upPeriods, false⟩ else none) ∧ t.get GNS_STATUS_BASE_FIXED = 0 ∧ t.get GNS_STATUS_SURVEYING = b2n s.engaged ∧ t.num GNS_SURVEY_SIGMA = 0) ∧
  (∀ (s : State), s.mainLive = true → exec .forgetKeepalive s = .next (s.setGns { s.gns with forgetKa := true })) ∧
  (∀ (s : State), s.serving = true → s.gns.lost = false → 20 ≤ s.gns.noOffer → s.flag GNS_STATUS_TIME_VALID = true → let u := (s.setGns { s.gns with lost := true, agree := 0 }).put GNS_STATUS_TIME_VALID 0; let v := u.record EV_TIME_LOST 0 20 (u.get GNS_TRACKED_SATS) 0; exec .timeLost s = .next (if v.get TIM_STATUS_TB0_SRC = 1 && !v.flag TIM_STATUS_HOLDOVER then v.enterHoldover else v))

/-- The correction job of a stroke takes the epoch to encode and commits. Without the set of that epoch the correction is withheld with
cause 3, without a fixed base with cause 1, with a far clock with cause 2, and with more than 128 fragments for the beacons with
cause 4; otherwise the correction is active, its stream is queued for the beacons and given to the host as configured, and a station
record waiting is taken. A RAWOBS element with a cause against it is taken off and counted as rejected; one without becomes the
solution job that waits for its robot, with its deadline. A solution in time leaves its fix record with the rover, no job running,
one more solved, and the fix and a job for the allotment engine; a late one changes nothing. BSL_ROVER_CFG sets the options of a
central robot, with RESET drops its ambiguities and jobs, and refuses another robot with status 0x10, as the query does; the queries
answer what is held; a set no longer held ends STALE; a station record is taken for the next correction epoch. (R36, R187, R194,
R198, R203, R208.) -/
def Obligations.BaselineSolvesAndCorrects : Prop :=
  (∀ (j : Job) (n : Nat) (s : State) (v : State), s.serving = true → s.work 0x0C 0 = some j → v = { s with sn := j.sn } → v.bsl.toEncode = some n → v.baseSet n = none → exec .correctionEncode s = .next (({ (v.setBsl { v.bsl with toEncode := none }).withhold 3 n with sn := s.sn } : State).commitOne j)) ∧
  (∀ (j : Job) (n : Nat) (x : BaseSet) (s : State) (v : State), s.serving = true → s.work 0x0C 0 = some j → v = { s with sn := j.sn } → v.bsl.toEncode = some n → v.baseSet n = some x → (bit x.flags 0 = false ∨ bit x.flags 2 = true) → let u := v.setBsl { v.bsl with toEncode := none, station := v.bsl.newStation.orElse fun _ => v.bsl.station, newStation := none }; exec .correctionEncode s = .next (({ u.withhold (if bit x.flags 0 then 2 else 1) n with sn := s.sn } : State).commitOne j)) ∧
  (∀ (j : Job) (n : Nat) (x : BaseSet) (s : State) (v : State) (u : State) (f : List (List Byte)), s.serving = true → s.work 0x0C 0 = some j → v = { s with sn := j.sn } → v.bsl.toEncode = some n → v.baseSet n = some x → bit x.flags 0 = true → bit x.flags 2 = false → u = v.setBsl { v.bsl with toEncode := none, station := v.bsl.newStation.orElse fun _ => v.bsl.station, newStation := none } → f = fragments (u.get BSL_CORR_FRAG_FRAG) (u.corrStream x).length (u.corrStream x) → let a := ((u.put BSL_STATUS_CORR_ACTIVE 1).put BSL_STATUS_NO_ARP 0).put BSL_STATUS_CLOCK_FAR 0; let b := a.setBsl { a.bsl with withheld := false }; let c := if b.flag BSL_CFG_CORR_BEACON then b.queueCorr n f else b; let d := if c.flag BSL_CFG_CORR_HOST then c.bslItem 28 0x7010 ((u.corrStream x).length % 65536) (leBytes 8 n ++ leBytes 2 (u.corrStream x).length ++ List.replicate 6 0 ++ u.corrStream x) else c; exec .correctionEncode s = .next (({ (if u.flag BSL_CFG_CORR_BEACON && decide (128 < f.length) then u.withhold 4 n else d) with sn := s.sn } : State).commitOne j)) ∧
  (∀ (f : FleetIn) (c : Nat) (s : State), s.serving = true → (s.flt.inbox.find? fun f => f.typ == 0x20) = some f → s.flag BSL_CFG_ENABLE = true → (s.setFlt { s.flt with inbox := s.flt.inbox.erase f }).obsCause f = some c → ∃ t, exec .rawobsAccept s = .next t ∧ t.flt.inbox = s.flt.inbox.erase f ∧ t.num BSL_OBS_REJECT = (s.num BSL_OBS_REJECT + 1) % 2 ^ 32 ∧ t.bsl.sets = s.bsl.sets ∧ t.bsl.fixes = s.bsl.fixes) ∧
  (∀ (f : FleetIn) (s : State) (v : State), s.serving = true → (s.flt.inbox.find? fun f => f.typ == 0x20) = some f → s.flag BSL_CFG_ENABLE = true → v = s.setFlt { s.flt with inbox := s.flt.inbox.erase f } → v.obsCause f = none → ∃ u : State, exec .rawobsAccept s = .next (u.startSolves 16) ∧ (tgetD u.bsl.rovers f.robot {}).waiting.map (fun w => (w.epochSn, w.arrival, w.deadline, w.body)) = some (leAt f.body 0 8, f.arrival, f.arrival + s.get BSL_CFG_DEADLINE, f.body) ∧ (tgetD u.bsl.rovers f.robot {}).lastEpoch = some (leAt f.body 0 8) ∧ (tgetD u.bsl.rovers f.robot {}).slips = obsSlips f.body ∧ u.flt.inbox = s.flt.inbox.erase f) ∧
  (∀ (r : Nat) (v : Rover) (w : Solve) (x : RoverSol) (s : State), s.serving = true → tget s.bsl.rovers r = some v → v.running = some w → (!s.shadows && (decide (w.deadline < s.sn) || (w.deadline == s.sn && s.disp.closed))) = false → ∃ u : State, exec (.fixCommit r x) s = .next (u.startSolves 16) ∧ (∃ v2, tget u.bsl.rovers r = some v2 ∧ v2.running = none ∧ v2.fix.isSome = true ∧ v2.status = s.fixStatus v w x) ∧ u.num BSL_SOLVED = (s.num BSL_SOLVED + 1) % 2 ^ 32 ∧ u.bsl.fixes = insertFix ⟨s.sn, r, s.fixBody w.epochSn (s.fixStatus v w x) x⟩ s.bsl.fixes ∧ (u.disp.jobs.any fun k => k.src == .element 0x06 r s.sn 0) = true) ∧
  (∀ (r : Nat) (v : Rover) (w : Solve) (x : RoverSol) (s : State), s.serving = true → tget s.bsl.rovers r = some v → v.running = some w → (!s.shadows && (decide (w.deadline < s.sn) || (w.deadline == s.sn && s.disp.closed))) = true → exec (.fixCommit r x) s = .next s) ∧
  (∀ (d : Desc) (s : State), Runs s d → s.centralRobot (d.op 32 1) = true → bit (d.op 33 1) 0 = false → ∃ u : State, exec (.bslRoverCfg d) s = .next (s.finish d (u.startSolves 16).ok) ∧ (tgetD u.bsl.rovers (d.op 32 1) {}).accH = (if d.op 36 2 = 0 then 2000 else d.op 36 2) ∧ (tgetD u.bsl.rovers (d.op 32 1) {}).accV = (if d.op 38 2 = 0 then 500 else d.op 38 2) ∧ (tgetD u.bsl.rovers (d.op 32 1) {}).floatOnly = bit (d.op 33 1) 1 ∧ ∀ r, r ≠ d.op 32 1 → tget u.bsl.rovers r = tget s.bsl.rovers r) ∧
  (∀ (d : Desc) (s : State), Runs s d → s.centralRobot (d.op 32 1) = true → bit (d.op 33 1) 0 = true → let n := (tgetD s.bsl.rovers (d.op 32 1) {}).held; ∃ u : State, exec (.bslRoverCfg d) s = .next (s.finish d (if n = 0 then u.startSolves 16 else (u.startSolves 16).record EV_AMB_RESET 0 (d.op 32 1) n 3).ok) ∧ (tgetD u.bsl.rovers (d.op 32 1) {}).held = 0 ∧ (tgetD u.bsl.rovers (d.op 32 1) {}).fixed = 0 ∧ (tgetD u.bsl.rovers (d.op 32 1) {}).ambs = [] ∧ (tgetD u.bsl.rovers (d.op 32 1) {}).waiting = none ∧ (tgetD u.bsl.rovers (d.op 32 1) {}).running = none) ∧
  (∀ (d : Desc) (s : State), Runs s d → s.centralRobot (d.op 32 1) = false → exec (.bslRoverCfg d) s = .next (s.finish d (s.fail 0x10)) ∧ exec (.bslRoverQuery d) s = .next (s.finish d (s.fail 0x10))) ∧
  (∀ (d : Desc) (s : State), Runs s d → s.centralRobot (d.op 32 1) = true → let x := tgetD s.bsl.rovers (d.op 32 1) {}; exec (.bslRoverQuery d) s = .next (s.finish d (s.answer d (slice (x.fix.getD []) 0 48 ++ leBytes 8 (x.lastEpoch.getD 0) ++ leBytes 2 x.held ++ leBytes 2 x.fixed ++ leBytes 1 (b2n x.waiting.isSome) ++ List.replicate 3 0)))) ∧
  (∀ (d : Desc) (x : BaseSet) (s : State), Runs s d → s.baseSet (d.op 32 8) = some x → exec (.bslSetRead d) s = .next (s.finish d (s.answer d x.bytes x.entries.length))) ∧
  (∀ (d : Desc) (s : State), Runs s d → s.baseSet (d.op 32 8) = none → exec (.bslSetRead d) s = .next (s.finish d (s.fail stSTALE))) ∧
  (∀ (d : Desc) (s : State), Runs s d → exec (.bslStationInfo d) s = .next (s.finish d ((s.setBsl { s.bsl with newStation := some d.buf }).ok)))

/-- A clock off by more than 2,000 ppm for 40 strokes ends every reception of the port, cuts its transmissions on air, clears CLK_OK and
is recorded with its last deviation; CLK_OK returns with a clock within it for 40. GO on the transceiver bus is stored with its
fields held to range, and the bits to write leave; while a transfer runs the write changes nothing. Its end clears GO and shifts the
written bits out and the read bits in. Calibration starts in SETUP or QUIET on the port named and is BUSY; its end stores the
corrections, ends BUSY, reports rejection and leakage, and is DONE from 40 dB image rejection on and FAIL below, recorded as such.
(R127, R131, R155.) -/
def Obligations.RadioPortsAndCalibration : Prop :=
  (∀ (p : Nat) (ds : List Int) (s : State), s.serving = true → clockBad 2000 ds = true → let u := ((s.dropRx p).1.cutTx fun x => x.onAir && x.port == p).put (RAD_PORT_STAT_CLK_OK p) 0; let v := u.put RAD_STATUS_CLK_OK (clearBit (u.get RAD_STATUS_CLK_OK) p); exec (.rfClockLost p ds) s = .next (v.record EV_RF_CLOCK_LOST 0 p (sat32 (ds.getLastD 0)) 0)) ∧
  (∀ (p : Nat) (s : State), (s.dropRx p).1.rad.lanes = s.rad.lanes.filter (fun l => l.port != p) ∧ (s.cutTx fun x => x.onAir && x.port == p).rad.tx = s.rad.tx.filter (fun x => !(x.onAir && x.port == p))) ∧
  (∀ (p : Nat) (ds : List Int) (s : State), s.serving = true → clockGood 2000 ds = true → let u := s.put (RAD_PORT_STAT_CLK_OK p) 1; exec (.rfClockOk p ds) s = .next (u.put RAD_STATUS_CLK_OK (setBit (u.get RAD_STATUS_CLK_OK) p))) ∧
  (∀ (p : Nat) (v : Word) (s : State), s.mainLive = true → s.get (RAD_SPI_CTRL_GO p) = 0 → ∃ t, exec (.rfSpiTransfer p v) s = .next t ∧ t.get (RAD_SPI_CTRL_GO p) = bitsOf v 15 1 ∧ t.get (RAD_SPI_CTRL_WBITS p) = clampN 0 32 (bitsOf v 2 6) ∧ t.get (RAD_SPI_CTRL_RBITS p) = clampN 0 32 (bitsOf v 8 6) ∧ t.out = (if bitsOf v 15 1 = 1 then [Out.spi true p (t.get (RAD_SPI_CTRL_WBITS p)) (spiOut (s.num (RAD_SPI_DATA p)) (t.get (RAD_SPI_CTRL_WBITS p)))] else []) ++ s.out ∧ ∀ a, a ≠ RAD_SPI_CTRL p → t.rd a = s.rd a) ∧
  (∀ (p : Nat) (v : Word) (s : State), s.mainLive = true → s.get (RAD_SPI_CTRL_GO p) = 1 → ∃ t, exec (.rfSpiTransfer p v) s = .next t ∧ t.out = s.out ∧ ∀ a, t.rd a = s.rd a) ∧
  (∀ (p : Nat) (b : Nat) (s : State), s.serving = true → s.get (RAD_SPI_CTRL_GO p) = 1 → ∃ t, exec (.rfSpiDone p b) s = .next t ∧ t.get (RAD_SPI_CTRL_GO p) = 0 ∧ t.num (RAD_SPI_DATA p) = (s.num (RAD_SPI_DATA p) * 2 ^ (s.get (RAD_SPI_CTRL_WBITS p) + s.get (RAD_SPI_CTRL_RBITS p)) + b % 2 ^ s.get (RAD_SPI_CTRL_RBITS p)) % 2 ^ 32) ∧
  (∀ (v : Word) (s : State), bitsOf v 8 1 = 1 → (s.dev = .setup ∨ s.dev = .quiet) → s.get RAD_CAL_STAT_BUSY = 0 → ∃ t, exec (.calStart v) s = .next t ∧ t.rad = { s.rad with calPort := some (bitsOf v 0 3) } ∧ t.get RAD_CAL_STAT_BUSY = 1 ∧ t.get RAD_STATUS_CAL = 1) ∧
  (∀ (r : Nat) (l : Nat) (a : Word) (b : Word) (c : Word) (p : Nat) (s : State), s.serving = true → s.rad.calPort = some p → let u := (((s.wr (RAD_TX_CORR p) a).wr (RAD_TX_DC p) b).wr (RAD_RX_CORR p) c).setRad { s.rad with calPort := none }; let v := (((u.put RAD_STATUS_CAL 0).setNum RAD_CAL_STAT 0).put RAD_CAL_STAT_REJECT (clampN 0 255 (r / 10))).put RAD_CAL_STAT_LEAK (clampN 0 255 (l / 10)); exec (.calDone r l a b c) s = .next (if 400 ≤ r then (v.put RAD_CAL_STAT_DONE 1).record EV_CAL_DONE 0 p r l else (v.put RAD_CAL_STAT_FAIL 1).record EV_CAL_FAILED 0 p r 0))

/-- A preamble on an enabled channel of an enabled port with its clock, not blanked and without a lane, takes the reserved lane of a CFL
channel that has one, else the lowest free lane of its kind; with none left the miss is counted for the kind. On a blanked port
nothing changes. A finished frame frees its lane and is received as its PHY allows; on a fleet channel, where the unit is no
standby, one with a bad FCS is counted, a good one is stored, counted and presented to its MAC, or counted as refused where the
Cistern has no room. A request of a frame its owner may send, on an enabled channel of an enabled port, of a size the PHY sends, in
time and overlapping none, is scheduled with its air time, after the transmissions that have ended are taken off; an overlapping
stop frame displaces frames that are none, every other request is refused. At its launch a transmission is on air and its bytes
leave with its PHY header; without the clock, or where its owner may not send, it is taken off. (R129, R130, R134, R135, R151, R154,
R315.) -/
def Obligations.FramesOnAirAndReceived : Prop :=
  (∀ (p : Nat) (c : Nat) (ns : Nat) (k : Nat) (h : Nat) (s : State), s.serving = true → s.get (RAD_RX_CFG_ENABLE p c) = 1 → s.get (RAD_PORT_CFG_ENABLE p) = 1 → s.get (RAD_PORT_STAT_CLK_OK p) = 1 → s.blanked p (absNs s.sn ns) = false → s.rad.lanes.any (fun l => l.port == p && l.ch == c) = false → modeInfo (s.get (RAD_RX_CFG_MODE p c)) = some (k, h) → exec (.preambleDetect p c ns) s = .next (match s.cflRx.findIdx? (fun x => x == (p, c)), s.freeLane k with | some n, _ => (s.setRad { s.rad with lanes := s.rad.lanes ++ [⟨k, n, p, c, true⟩] }).showLanes | none, some n => (s.setRad { s.rad with lanes := s.rad.lanes ++ [⟨k, n, p, c, false⟩] }).showLanes | none, none => s.missLane k)) ∧
  (∀ (p : Nat) (c : Nat) (ns : Nat) (s : State), s.serving = true → s.blanked p (absNs s.sn ns) = true → exec (.preambleDetect p c ns) s = .next s) ∧
  (∀ (f : RxFrame) (air : RxAir) (ok : Bool) (w : Nat) (s : State), s.serving = true → (s.rad.lanes.any fun l => l.port == f.port && l.ch == f.ch) = true → let u := (s.setRad { s.rad with lanes := s.rad.lanes.filter fun l => !(l.port == f.port && l.ch == f.ch) }).showLanes; exec (.radioFrameReceived f air ok w) s = .next (match u.laneFrame f air with | some g => u.passFrame g ok w | none => u)) ∧
  (∀ (g : RxFrame) (ok : Bool) (w : Nat) (u : State), u.role ≠ .standby → u.meshChanOf g.port g.ch = none → (u.fleetChanOf g.port g.ch).isSome = true → let v := u.setFill (32 + g.port) w; u.passFrame g ok w = if !ok then v.count (PRT_RX_BAD (32 + g.port)) 1 else match v.storeFrame (32 + g.port) 0 g.bytes true none with | some (x, n) => let y := x.count (PRT_RX_FRAMES (32 + g.port)) 1; (y.setRad { y.rad with rx := y.rad.rx ++ [{ g with acked := none, cell := some n }] }).presentIntake (32 + g.port) 3 | none => v.admitDrop (32 + g.port)) ∧
  (∀ (o : TxOwner) (p : Nat) (c : Nat) (n : Nat) (ns : Nat) (m : Nat) (k : Nat) (a : Nat) (b : List Byte) (s : State) (w : State) (x : Tx), s.serving = true → w = s.sweepTx (absNs s.sn a) → x = { id := w.rad.nextTx, owner := o, port := p, ch := c, sn := n, ns := ns, len := airNs (w.get (RAD_TX_CFG_MODE p c)) m b.length k, mcs := m, bytes := b } → w.txAllowed o = true → w.flag (RAD_TX_CFG_ENABLE p c) = true → w.flag (RAD_PORT_CFG_ENABLE p) = true → frameFits (w.get (RAD_TX_CFG_MODE p c)) m b.length = true → absNs s.sn a ≤ w.txStart x - w.get (RAD_PORT_LAT_TX p) → w.rad.tx.filter (fun y => w.txOverlap x y) = [] → exec (.txRequest o p c n ns m k a b) s = .next (w.setRad { w.rad with nextTx := w.rad.nextTx + 1, tx := w.rad.tx ++ [x] })) ∧
  (∀ (o : TxOwner) (p : Nat) (c : Nat) (n : Nat) (ns : Nat) (m : Nat) (k : Nat) (a : Nat) (b : List Byte) (s : State) (w : State) (x : Tx), s.serving = true → w = s.sweepTx (absNs s.sn a) → x = { id := w.rad.nextTx, owner := o, port := p, ch := c, sn := n, ns := ns, len := airNs (w.get (RAD_TX_CFG_MODE p c)) m b.length k, mcs := m, bytes := b } → (w.txAllowed o && w.flag (RAD_TX_CFG_ENABLE p c) && w.flag (RAD_PORT_CFG_ENABLE p) && frameFits (w.get (RAD_TX_CFG_MODE p c)) m b.length && decide (absNs s.sn a ≤ w.txStart x - w.get (RAD_PORT_LAT_TX p))) = false → exec (.txRequest o p c n ns m k a b) s = .next ((w.setRad { w.rad with nextTx := w.rad.nextTx + 1 }).refuseTx o p c n)) ∧
  (∀ (o : TxOwner) (p : Nat) (c : Nat) (n : Nat) (ns : Nat) (m : Nat) (k : Nat) (a : Nat) (b : List Byte) (s : State) (w : State) (x : Tx), s.serving = true → w = s.sweepTx (absNs s.sn a) → x = { id := w.rad.nextTx, owner := o, port := p, ch := c, sn := n, ns := ns, len := airNs (w.get (RAD_TX_CFG_MODE p c)) m b.length k, mcs := m, bytes := b } → w.txAllowed o = true → w.flag (RAD_TX_CFG_ENABLE p c) = true → w.flag (RAD_PORT_CFG_ENABLE p) = true → frameFits (w.get (RAD_TX_CFG_MODE p c)) m b.length = true → absNs s.sn a ≤ w.txStart x - w.get (RAD_PORT_LAT_TX p) → w.rad.tx.filter (fun y => w.txOverlap x y) ≠ [] → let v := w.setRad { w.rad with nextTx := w.rad.nextTx + 1 }; exec (.txRequest o p c n ns m k a b) s = .next (if x.isStop && !((w.rad.tx.filter fun y => w.txOverlap x y).any fun y => y.isStop && y.down.isNone) then v.displace x (absNs s.sn a) else v.refuseTx o p c n)) ∧
  (∀ (n : Nat) (m : Nat) (x : Tx) (s : State) (u : State) (t : State), s.serving = true → (s.rad.tx.find? fun t => t.id == n && !t.onAir) = some x → s.get (RAD_PORT_STAT_CLK_OK x.port) ≠ 0 → s.txAllowed x.owner = true → u = (s.sweepTx (s.txStart x)).clipTx x.port m → t = ((u.setRad { u.rad with tx := u.rad.tx.map fun v => if v.id = n then { v with onAir := true } else v }).airs x).raiseLines x → exec (.txLaunch n m) s = .next t ∧ ∃ h fm, Out.air x.port x.ch x.sn x.ns x.owner h x.bytes fm ∈ t.out) ∧
  (∀ (n : Nat) (m : Nat) (x : Tx) (s : State), s.serving = true → (s.rad.tx.find? fun t => t.id == n && !t.onAir) = some x → (s.get (RAD_PORT_STAT_CLK_OK x.port) = 0 ∨ s.txAllowed x.owner = false) → exec (.txLaunch n m) s = .next (s.setRad { s.rad with tx := s.rad.tx.filter fun v => v.id != n }))

/-- The beacon job of a stroke builds for the stroke after it and commits: for strokes 0 to 3 of a superframe every enabled fleet
channel packs its part, the superframe being begun with part 0; for strokes 36 to 39 each builds its unicast frame, and none during
a wave; with the fleet off nothing is built. The intake job of a frame received on a fleet channel takes it out of the Cistern and
through the acceptance steps, and presents its claims and fixes as jobs; with the fleet off it ends there. A robot with slots that
sends no accepted frame for FLT_SILENT_SF superframes is silent, recorded once. A packet incomplete 100 superframes after its first
fragment is discarded and counted. (R36, R39, R167, R169, R170, R176, R182.) -/
def Obligations.FleetMacBuildsAndAccepts : Prop :=
  (∀ (j : Job) (s : State) (v : State), s.serving = true → s.work 0x0B 0 = some j → v = { s with sn := j.sn } → v.flag FLT_CFG_ENABLE = true → 1 ≤ (v.sn + 1) % 40 → (v.sn + 1) % 40 < 4 → exec .beaconBuild s = .next (({ v.fleetChans.foldl (fun u c => u.buildPart ((v.sn + 1) / 40) ((v.sn + 1) % 40) c) v with sn := s.sn } : State).commitOne j)) ∧
  (∀ (j : Job) (s : State) (v : State), s.serving = true → s.work 0x0B 0 = some j → v = { s with sn := j.sn } → v.flag FLT_CFG_ENABLE = true → (v.sn + 1) % 40 = 0 → let u := v.startSuperframe ((v.sn + 1) / 40); exec .beaconBuild s = .next (({ u.fleetChans.foldl (fun u c => u.buildPart ((v.sn + 1) / 40) 0 c) u with sn := s.sn } : State).commitOne j)) ∧
  (∀ (j : Job) (s : State) (v : State), s.serving = true → s.work 0x0B 0 = some j → v = { s with sn := j.sn } → v.flag FLT_CFG_ENABLE = true → 36 ≤ (v.sn + 1) % 40 → exec .beaconBuild s = .next (({ (if v.flag STP_STATUS_WAVE then v else v.fleetChans.foldl (fun u c => u.buildUnicast (v.sn + 1) c) v) with sn := s.sn } : State).commitOne j)) ∧
  (∀ (j : Job) (s : State), s.serving = true → s.work 0x0B 0 = some j → (({ s with sn := j.sn } : State).flag FLT_CFG_ENABLE = false ∨ 4 ≤ (j.sn + 1) % 40 ∧ (j.sn + 1) % 40 < 36) → exec .beaconBuild s = .next (s.commitOne j)) ∧
  (∀ (k : Bool) (f : RxFrame) (j : Job) (c : Nat) (v : State) (s : State), s.serving = true → s.nextIntake (fun p => decide (32 ≤ p) && decide (p < 40)) (fun f => isCfl f.mode) = some (j, f) → v = { s.takeIntake f with sn := j.sn } → v.fleetChanOf f.port f.ch = some c → exec (.uplinkAccept k) s = .next (({ (if v.flag FLT_CFG_ENABLE then (v.acceptUplink c f k).presentElems v.flt.inbox.length j else v) with sn := s.sn } : State).commitOne j)) ∧
  (∀ (r : Nat) (x : Robot) (s : State), s.serving = true → s.robot? r = some x → x.silent = false → (x.specsAt (s.sn / 40)).isEmpty = false → s.get FLT_SILENT_SF_SUPERFRAMES ≤ s.sn / 40 - x.lastSn.getD x.enrolSn / 40 → exec (.robotSilent r) s = .next ((s.modRobot r fun x => { x with silent := true }).record EV_ROBOT_SILENT 0 r (s.sn / 40 - x.lastSn.getD x.enrolSn / 40) 0)) ∧
  (∀ (s : State), s.serving = true → ∃ t, exec .dataReassemblyTimeout s = .next t ∧ t.flt.reasm = s.flt.reasm.filter (fun x => decide (s.sn / 40 < x.firstSf + 100)) ∧ t.num FLT_DATA_DROP = (s.num FLT_DATA_DROP + (s.flt.reasm.filter fun x => decide (x.firstSf + 100 ≤ s.sn / 40)).length) % 2 ^ 32)

/-- Enrolling a new robot on an enabled home channel stores its channel, mode, crew and DL_MCS and leaves every other robot as it is; a
channel that is off ends with status 0x11, a robot already enrolled without REPLACE ends CONFLICT, and with REPLACE it takes the new
values, keeping its slots where its channel stays. Slot specs that clash with none take effect from the next superframe; the first
that clashes ends the command CONFLICT with the other robot and its place. Retiring takes the robot out from now, drops what is
queued for it and turns its items into holds. A query answers 32 bytes of what is held. Slots, retirement and query of a robot that
is not enrolled end with status 0x10. (R73, R181.) -/
def Obligations.FleetRobotCommands : Prop :=
  (∀ (d : Desc) (s : State), Runs s d → s.chanOn (d.op 33 1) = true → s.robot? (d.op 32 1) = none → ∃ u : State, exec (.fltRobotEnrol d) s = .next (s.finish d u.ok) ∧ tget u.flt.robots (d.op 32 1) = some { home := d.op 33 1, central := d.op 34 1 == 1, crew := d.op 35 1, dlMcs := d.op 36 1, enrolSn := s.sn } ∧ ∀ r, r ≠ d.op 32 1 → tget u.flt.robots r = tget s.flt.robots r) ∧
  (∀ (d : Desc) (s : State), Runs s d → s.chanOn (d.op 33 1) = false → exec (.fltRobotEnrol d) s = .next (s.finish d (s.fail 0x11))) ∧
  (∀ (d : Desc) (x : Robot) (s : State), Runs s d → s.chanOn (d.op 33 1) = true → s.robot? (d.op 32 1) = some x → bit (d.op 37 1) 0 = false → exec (.fltRobotEnrol d) s = .next (s.finish d (s.fail stCONFLICT))) ∧
  (∀ (d : Desc) (x : Robot) (s : State), Runs s d → s.chanOn (d.op 33 1) = true → s.robot? (d.op 32 1) = some x → bit (d.op 37 1) 0 = true → ∃ u : State, exec (.fltRobotEnrol d) s = .next (s.finish d u.ok) ∧ tget u.flt.robots (d.op 32 1) = some (let y : Robot := { home := d.op 33 1, central := d.op 34 1 == 1, crew := d.op 35 1, dlMcs := d.op 36 1, enrolSn := s.sn }; if x.home = d.op 33 1 then { y with specs := x.specs, newSpecs := x.newSpecs, specsSf := x.specsSf } else { y with specsSf := some (s.sn / 40 + 1) }) ∧ ∀ r, r ≠ d.op 32 1 → tget u.flt.robots r = tget s.flt.robots r) ∧
  (∀ (d : Desc) (x : Robot) (o : Nat) (i : Nat) (s : State), Runs s d → s.robot? (d.op 32 1) = some x → s.firstClash (d.op 32 1) x.home (readSpecs d.buf) = some (o, i) → exec (.fltRobotSlots d) s = .next (s.finish d (s.fail stCONFLICT (o + 256 * i)))) ∧
  (∀ (d : Desc) (x : Robot) (s : State), Runs s d → s.robot? (d.op 32 1) = some x → s.firstClash (d.op 32 1) x.home (readSpecs d.buf) = none → ∃ u : State, exec (.fltRobotSlots d) s = .next (s.finish d u.ok) ∧ tget u.flt.robots (d.op 32 1) = some { x with specs := x.specsAt (s.sn / 40), newSpecs := some (s.sn / 40 + 1, readSpecs d.buf), specsSf := some (s.sn / 40 + 1) } ∧ ∀ r, r ≠ d.op 32 1 → tget u.flt.robots r = tget s.flt.robots r) ∧
  (∀ (d : Desc) (x : Robot) (s : State), Runs s d → s.robot? (d.op 32 1) = some x → ∃ u : State, exec (.fltRobotRetire d) s = .next (s.finish d u.ok) ∧ tget u.flt.robots (d.op 32 1) = some { x with gone := some s.sn, newSpecs := some (s.sn / 40 + 1, []) } ∧ u.robot? (d.op 32 1) = none ∧ (∀ k, k ∈ u.flt.data → k.robot ≠ d.op 32 1) ∧ (∀ k, k ∈ u.flt.reasm → k.robot ≠ d.op 32 1) ∧ (∀ k, k ∈ u.flt.notices → k.robot ≠ d.op 32 1) ∧ ∀ a, tget u.alt.robots (d.op 32 1) = some a → ∀ k, k ∈ a.chain → k.hold = true) ∧
  (∀ (d : Desc) (x : Robot) (s : State), Runs s d → s.robot? (d.op 32 1) = some x → exec (.fltRobotQuery d) s = .next (s.finish d (s.answer d (leBytes 1 1 ++ leBytes 1 x.home ++ leBytes 1 (b2n x.central) ++ leBytes 1 x.crew ++ leBytes 4 x.high ++ leBytes 8 x.win ++ leBytes 8 (x.lastSn.getD 0) ++ slice (x.health.getD []) 0 8)))) ∧
  (∀ (d : Desc) (s : State), Runs s d → s.robot? (d.op 32 1) = none → exec (.fltRobotSlots d) s = .next (s.finish d (s.fail 0x10)) ∧ exec (.fltRobotRetire d) s = .next (s.finish d (s.fail 0x10)) ∧ exec (.fltRobotQuery d) s = .next (s.finish d (s.fail 0x10)))

/-- With no chain held, a valid roadmap replaces the one in force, RESULT its segment count; with chains held the load ends CONFLICT.
The job of a CLAIM element takes it off, judges it once for its frame and answers it; a second of one frame, or one with the engine
off, is counted as refused. The job of a committed fix, or of a FIX element, takes it off and checks it; with the engine off, or for
a FIX element of a central robot, it is counted as stale. The edge job looks at every robot in turn: what has ended leaves its
chain, an overdue item or an ended lease stops it; with the engine off it only commits. (R36, R39, R213, R221, R222, R227, R228.) -/
def Obligations.AllotmentChecks : Prop :=
  (∀ (d : Desc) (s : State), Runs s d → s.altItems = 0 → roadmapBad d.buf d.bufLen = none → ∃ u : State, exec (.altRoadmapLoad d) s = .next (s.finish d (u.ok (readRoadmap d.buf).segs.length)) ∧ u.alt.roadmap = some (readRoadmap d.buf) ∧ u.alt.robots = s.alt.robots) ∧
  (∀ (d : Desc) (s : State), Runs s d → s.altItems ≠ 0 → exec (.altRoadmapLoad d) s = .next (s.finish d (s.fail stCONFLICT))) ∧
  (∀ (f : FleetIn) (j : Job) (t : Nat) (r : Nat) (a : Nat) (q : Nat) (v : State) (u : State) (s : State), s.serving = true → s.nextElem (fun t => t == 0x21) = some j → j.src = .element t r a q → v = { s with sn := j.sn } → v.takeElem t r a q = some (u, f) → let w := u.setAr f.robot { u.ar f.robot with claimOf := some (f.arrival, f.seq) }; exec .claimCheck s = .next (({ (if (u.ar f.robot).claimOf = some (f.arrival, f.seq) || !u.flag ALT_CFG_ENABLE then u.count ALT_REFUSED 1 else (w.claim f.robot f.body (some f.robot)).1.fleetReply f.robot f.seq (leBytes 4 f.seq ++ (w.claim f.robot f.body (some f.robot)).2.bytes)) with sn := s.sn } : State).commitOne j)) ∧
  (∀ (f : FixIn) (j : Job) (r : Nat) (a : Nat) (q : Nat) (v : State) (s : State), s.serving = true → s.nextElem (fun t => t == 0x22 || t == 0x06) = some j → j.src = .element 0x06 r a q → v = { s with sn := j.sn } → (v.bsl.fixes.find? fun f => f.robot == r && f.sn == a) = some f → let u := v.setBsl { v.bsl with fixes := v.bsl.fixes.erase f }; exec .fixCheck s = .next (({ (if u.flag ALT_CFG_ENABLE then u.checkFix f.robot f.fix else u.count ALT_FIX_STALE 1) with sn := s.sn } : State).commitOne j)) ∧
  (∀ (f : FleetIn) (j : Job) (t : Nat) (r : Nat) (a : Nat) (q : Nat) (v : State) (u : State) (s : State), s.serving = true → s.nextElem (fun t => t == 0x22 || t == 0x06) = some j → j.src = .element t r a q → t ≠ 0x06 → v = { s with sn := j.sn } → v.takeElem t r a q = some (u, f) → exec .fixCheck s = .next (({ (if u.centralRobot f.robot || !u.flag ALT_CFG_ENABLE then u.count ALT_FIX_STALE 1 else u.checkFix f.robot f.body) with sn := s.sn } : State).commitOne j)) ∧
  (∀ (j : Job) (s : State) (v : State), s.serving = true → s.work 0x0D 0 = some j → v = { s with sn := j.sn } → v.flag ALT_CFG_ENABLE = true → exec .allotEdgeJob s = .next (({ (v.alt.robots.foldl (fun s x => let y := (s.ar x.1).expire s.sn (s.num ALT_LATE_GRACE); let s := s.setAr x.1 y; if y.stopped then s else if y.chain.any fun k => k.overdue && decide (k.due ≤ s.sn) then s.conformanceStop x.1 4 0 else if !y.chain.isEmpty && decide (y.lease ≤ s.sn) then s.conformanceStop x.1 5 0 else s) v).showAllot with sn := s.sn } : State).commitOne j)) ∧
  (∀ (j : Job) (s : State), s.serving = true → s.work 0x0D 0 = some j → ({ s with sn := j.sn } : State).flag ALT_CFG_ENABLE = false → exec .allotEdgeJob s = .next (s.commitOne j))

/-- With the engine on, the robot enrolled and room for its reply, a claim ends with the status of its reply, which the robot is told;
with the engine off it ends LOCKED, of a robot not enrolled 0x12, and with less room than 24 bytes NO_RESOURCE with that length.
RELEASE with MODE 0 removes the items that have not begun and are no holds, and answers how many; with MODE 1 it empties the chain
and starts the positions again. A resource is closed or opened, and RESULT is the number of its reservations; one the roadmap does
not have ends BAD_DESC. Queries answer the state and chain of a robot and the reservations of a resource; with no roadmap a resource
command ends with status 0x11. (R73, R221, R226, R231, R232, R233.) -/
def Obligations.AllotmentCommands : Prop :=
  (∀ (d : Desc) (s : State), Runs s d → s.flag ALT_CFG_ENABLE = true → (s.robot? (leAt d.buf 2 1)).isSome = true → 24 ≤ d.bufLen → exec (.altClaim d) s = .next (s.finish d (match s.claim (leAt d.buf 2 1) (slice d.buf 0 (16 + 8 * leAt d.buf 1 1)) none with | (u, a) => { st := u.notify (leAt d.buf 2 1) a, status := some (claimStatus a.reason), result := a.result, bytes := a.bytes }))) ∧
  (∀ (d : Desc) (s : State), Runs s d → s.flag ALT_CFG_ENABLE = false → exec (.altClaim d) s = .next (s.finish d (s.fail stLOCKED))) ∧
  (∀ (d : Desc) (s : State), Runs s d → s.flag ALT_CFG_ENABLE = true → ((s.robot? (leAt d.buf 2 1)).isSome = false ∨ d.bufLen < 24) → exec (.altClaim d) s = .next (s.finish d (if (s.robot? (leAt d.buf 2 1)).isNone then s.fail 0x12 else { st := s, status := some stNO_RESOURCE, len := some 24 }))) ∧
  (∀ (d : Desc) (s : State), Runs s d → d.op 33 1 = 0 → ∃ u : State, exec (.altRelease d) s = .next (s.finish d (u.ok (((s.ar (d.op 32 1)).chain.filter fun k => !k.hold && decide (s.sn < k.en)).length))) ∧ ∀ k, k ∈ (u.ar (d.op 32 1)).chain ↔ k ∈ (s.ar (d.op 32 1)).chain ∧ (k.hold = true ∨ k.en ≤ s.sn)) ∧
  (∀ (d : Desc) (s : State), Runs s d → d.op 33 1 ≠ 0 → ∃ u : State, exec (.altRelease d) s = .next (s.finish d (u.ok (s.ar (d.op 32 1)).chain.length)) ∧ (u.ar (d.op 32 1)).chain = [] ∧ (u.ar (d.op 32 1)).nextPos = 0 ∧ ∀ r, r ≠ d.op 32 1 → u.ar r = s.ar r) ∧
  (∀ (d : Desc) (m : Roadmap) (s : State), Runs s d → s.alt.roadmap = some m → d.op 34 2 < m.count (d.op 32 1) → ∃ u : State, exec (.altResourceState d) s = .next (s.finish d (u.ok (onResource (s.allResv m) (d.op 32 1) (d.op 34 2)).length)) ∧ u.alt.roadmap = some (m.setClosed (d.op 32 1) (d.op 34 2) (d.op 33 1 == 1)) ∧ u.alt.robots = s.alt.robots) ∧
  (∀ (d : Desc) (s : State), Runs s d → let x := s.ar (d.op 32 1); let n := (x.chain.filter Item.hold).length; exec (.altRobotQuery d) s = .next (s.finish d (s.answer d (leBytes 1 (b2n x.stopped) ++ leBytes 1 (x.chain.length - n) ++ leBytes 1 n ++ [0] ++ leBytes 4 x.nextPos ++ leBytes 8 x.lease ++ leBytes 8 (x.lastT.getD 0) ++ leBytes 4 x.fixpos ++ leBytes 4 x.replyNo ++ x.chain.flatMap Item.bytes)))) ∧
  (∀ (d : Desc) (m : Roadmap) (s : State), Runs s d → s.alt.roadmap = some m → m.count (d.op 32 1) ≤ d.op 34 2 → exec (.altResourceState d) s = .next (s.finish d (s.fail stBAD_DESC))) ∧
  (∀ (d : Desc) (m : Roadmap) (s : State), Runs s d → s.alt.roadmap = some m → let rs := onResource (s.allResv m) (d.op 32 1) (d.op 34 2); exec (.altResourceQuery d) s = .next (s.finish d (s.answer d (leBytes 2 rs.length ++ leBytes 6 0 ++ rs.flatMap Resv.bytes)))) ∧
  (∀ (d : Desc) (s : State), Runs s d → s.alt.roadmap = none → exec (.altResourceQuery d) s = .next (s.finish d (s.fail 0x11)) ∧ exec (.altResourceState d) s = .next (s.finish d (s.fail 0x11)))

/-- A channel that does not stand at stop level is qualified at it after FILTER, raises the ALL wave with its cause bit and takes both
outputs low; one that does not stand at run level is qualified at it after FILTER, and only notes since when; a shorter pulse, or a
level it stands at, changes nothing. An output whose readback disagrees for more than 10 us, or instances that disagree, latch
OUT_FAULT and raise the wave with cause bit 3; 10 us or less change nothing. Inputs that differ for longer than STP_DISCREP set
DISCREP once and record it. At its period, with both outputs high and allowed, the output under test is low while the other stays;
at the end of the test both follow R240 again. (R238, R239, R240, R241, R242.) -/
def Obligations.StopInputsAndOutputs : Prop :=
  (∀ (b : Bool) (h : Nat) (ns : Nat) (s : State), s.serving = true → s.get STP_CFG_FILTER ≤ h → s.standsAt b false = false → ∃ t, exec (.stopInputQualify b false h ns) s = .next t ∧ t.get STP_STATUS_WAVE = 1 ∧ bit (t.get STP_STATUS_CAUSES) 0 = true ∧ t.get STP_STATUS_OUT_A_RUN = 0 ∧ t.get STP_STATUS_OUT_B_RUN = 0 ∧ (if b then t.stp.runB else t.stp.runA) = none ∧ t.standsAt b false = true ∧ t.dev = s.dev) ∧
  (∀ (b : Bool) (h : Nat) (ns : Nat) (s : State), s.serving = true → s.get STP_CFG_FILTER ≤ h → s.standsAt b true = false → ∃ t, exec (.stopInputQualify b true h ns) s = .next t ∧ (if b then t.stp.runB else t.stp.runA) = some s.now ∧ t.get STP_STATUS_WAVE = s.get STP_STATUS_WAVE ∧ t.get STP_STATUS_CAUSES = s.get STP_STATUS_CAUSES) ∧
  (∀ (b : Bool) (r : Bool) (h : Nat) (ns : Nat) (s : State), s.serving = true → (h < s.get STP_CFG_FILTER ∨ s.standsAt b r = true) → exec (.stopInputQualify b r h ns) s = .next s) ∧
  (∀ (n : Nat) (c : Bool) (r : Bool) (h : Nat) (ns : Nat) (s : State), s.mainLive = true → s.serving = true → 10 < h → (n = 2 ∨ c ≠ r) → ∃ t, exec (.outFault n c r h ns) s = .next t ∧ t.get STP_STATUS_OUT_FAULT = 1 ∧ t.get STP_STATUS_WAVE = 1 ∧ bit (t.get STP_STATUS_CAUSES) 3 = true ∧ t.get STP_STATUS_OUT_A_RUN = 0 ∧ t.get STP_STATUS_OUT_B_RUN = 0) ∧
  (∀ (n : Nat) (c : Bool) (r : Bool) (h : Nat) (ns : Nat) (s : State), h ≤ 10 → exec (.outFault n c r h ns) s = .next s) ∧
  (∀ (k : Nat) (s : State), s.serving = true → s.stp.diffSn = some k → s.num STP_DISCREP < s.now - k → s.get STP_STATUS_DISCREP = 0 → exec .inputDiscrepancy s = .next (((s.put STP_STATUS_DISCREP 1).setStp { s.stp with bothStop := false }).record EV_INPUT_DISCREPANCY 0 (b2n s.stp.runA.isSome) (b2n s.stp.runB.isSome) (s.now - k))) ∧
  (∀ (s : State), s.stroked = true → s.get STP_CFG_OUT_TEST_EN = 1 → s.sn % 40000 = 0 → s.flag STP_STATUS_OUT_A_RUN = true → s.flag STP_STATUS_OUT_B_RUN = true → s.outAllowed = true → ∃ t, exec .outputTest s = .next t ∧ t.stp.testing = some (s.sn / 40000 % 2) ∧ t.get STP_STATUS_OUT_A_RUN = (if s.sn / 40000 % 2 = 0 then 0 else 1) ∧ t.get STP_STATUS_OUT_B_RUN = (if s.sn / 40000 % 2 = 0 then 1 else 0)) ∧
  (∀ (s : State), s.serving = true → s.outAllowed = true → ∃ t, exec .outputTestEnd s = .next t ∧ t.stp.testing = none ∧ t.get STP_STATUS_OUT_A_RUN = 1 ∧ t.get STP_STATUS_OUT_B_RUN = 1)

/-- At the stop cut every fleet channel gets the frame its window will carry. A frame of the cut leaves on an enabled port with its
clock, in a state in which it may, with its first sample at 4 us, is counted and taken from the cut; an ALL frame begins or keeps
the frame phase and counts its channel as served; a ROBOT frame counts one more of its stop. 400 strokes after the first the ALL
phase ends. STP_STOP with SCOPE 0 raises the ALL wave; with SCOPE 1 a unit with authority raises a stop of the robot, one without
sends it to its mate and holds it pending; both end OK. STP_CLEAR is refused with the status of the condition that fails; else it
waits for the next edge, and before the first edge it acts at once with CLEAR_SN 0. At the edge it is refused where a condition has
failed since; else an ALL clear takes the wave off and drops no ROBOT stop, and answers the SN. STP_QUERY answers STP_STATUS, the
last stop and the robot map. (R243, R244, R245, R247, R251, R252, R255.) -/
def Obligations.StopFramesAndCommands : Prop :=
  (∀ (s : State), s.serving = true → exec .stopCut s = .next (s.setStp { s.stp with cut := s.fleetChans.filterMap s.cutOf })) ∧
  (∀ (n : Nat) (c : CutFrame) (s : State), s.serving = true → (s.stp.cut.find? fun c => c.chan == n && c.sn == s.sn) = some c → s.get (RAD_PORT_STAT_CLK_OK (s.get (FLT_CHAN_PORT n))) ≠ 0 → s.get (RAD_PORT_CFG_ENABLE (s.get (FLT_CHAN_PORT n))) ≠ 0 → s.stopFramesAllowed c.robot.isNone = true → ∃ t, exec (.stopFrameTx n) s = .next t ∧ t.stp.cut = s.stp.cut.filter (fun x => !(x.chan == n && x.sn == s.sn)) ∧ t.num STP_FRAMES = (s.num STP_FRAMES + 1) % 2 ^ 32 ∧ (c.robot = none → t.get STP_STATUS_FRAME_PHASE = 1 ∧ t.stp.phaseSn = some (s.stp.phaseSn.getD s.sn) ∧ n ∈ t.stp.firstSent) ∧ (∀ r, c.robot = some r → t.stp.robots = s.stp.robots.map (fun x => if x.robot = r then { x with sent := x.sent + 1 } else x)) ∧ Out.fleet n s.sn c.frame ∈ t.out ∧ ∃ h b f, Out.air (s.get (FLT_CHAN_PORT n)) (s.get (FLT_CHAN_TXCH n)) s.sn 4000 (.stop n) h b f ∈ t.out) ∧
  (∀ (k : Nat) (s : State), s.serving = true → s.stp.phaseSn = some k → k + 400 ≤ s.sn → exec .framePhaseEnd s = .next (s.put STP_STATUS_FRAME_PHASE 0)) ∧
  (∀ (d : Desc) (s : State), Runs s d → d.op 32 1 = 0 → ∃ u : State, exec (.stpStop d) s = .next (s.finish d u.ok) ∧ u.get STP_STATUS_WAVE = 1 ∧ bit (u.get STP_STATUS_CAUSES) 1 = true ∧ u.get STP_STATUS_OUT_A_RUN = 0 ∧ u.get STP_STATUS_OUT_B_RUN = 0) ∧
  (∀ (d : Desc) (s : State), Runs s d → d.op 32 1 ≠ 0 → s.authority = true → ∃ u : State, exec (.stpStop d) s = .next (s.finish d u.ok) ∧ (∃ x, x ∈ u.stp.robots ∧ x.robot = d.op 33 1 ∧ x.cause = 9 ∧ x.sn = s.sn) ∧ u.get STP_STATUS_WAVE = s.get STP_STATUS_WAVE ∧ u.num STP_ROBOT_STOPS = (s.num STP_ROBOT_STOPS + 1) % 2 ^ 32) ∧
  (∀ (d : Desc) (s : State), Runs s d → d.op 32 1 ≠ 0 → s.authority = false → exec (.stpStop d) s = .next (s.finish d (s.drawn.holdHostStop d (some (d.op 33 1))).ok) ∧ (s.drawn.holdHostStop d (some (d.op 33 1))).stp.hostPending = s.stp.hostPending ++ [some (d.op 33 1)]) ∧
  (∀ (d : Desc) (s : State), Runs s d → s.stroked = true → s.clearRefused (if d.op 32 1 = 0 then none else some (d.op 33 1)) = none → exec (.stpClear d) s = .next (s.finish d (s.setStp { s.stp with clearing := s.stp.clearing ++ [(d, (if d.op 32 1 = 0 then none else some (d.op 33 1)), s.sn)] }).later)) ∧
  (∀ (d : Desc) (s : State), Runs s d → s.stroked = false → s.clearRefused (if d.op 32 1 = 0 then none else some (d.op 33 1)) = none → exec (.stpClear d) s = .next (s.finish d ((s.clearStop (if d.op 32 1 = 0 then none else some (d.op 33 1)) 0).ok 0))) ∧
  (∀ (d : Desc) (n : Nat) (s : State), Runs s d → s.clearRefused (if d.op 32 1 = 0 then none else some (d.op 33 1)) = some n → exec (.stpClear d) s = .next (s.finish d (s.fail n))) ∧
  (∀ (d : Desc) (f : Nat) (s : State), s.serving = true → (s.stp.clearing.find? fun c => decide (c.2.2 < s.sn)) = some (d, none, f) → s.clearRefused none = none → ∃ u : State, exec .stopCleared s = .next (u.finish d (u.ok s.sn)) ∧ u.get STP_STATUS_WAVE = 0 ∧ u.get STP_STATUS_CAUSES = 0 ∧ u.stp.clearing = s.stp.clearing.erase (d, none, f) ∧ u.stp.robots = s.stp.robots) ∧
  (∀ (d : Desc) (r : Option Nat) (f : Nat) (n : Nat) (s : State), s.serving = true → (s.stp.clearing.find? fun c => decide (c.2.2 < s.sn)) = some (d, r, f) → s.clearRefused r = some n → let u := s.setStp { s.stp with clearing := s.stp.clearing.erase (d, r, f) }; exec .stopCleared s = .next (u.finish d (u.fail n))) ∧
  (∀ (d : Desc) (s : State), Runs s d → exec (.stpQuery d) s = .next (s.finish d (s.answer d (leBytes 4 (s.num STP_STATUS) ++ leBytes 4 0 ++ leBytes 8 (s.num64 STP_LAST_SN_LO STP_LAST_SN_HI) ++ (List.range 8).flatMap fun n => leBytes 4 (s.num (STP_ROBOT_MAP n))))))

/-- KEY_PUB_READ answers the attestation key with its endorsement, or the import key. KEY_EXPORT answers a live key wrapped under the
key it is given, at byte 32 of the buffer, and records it; with EXPORT_EN clear, or of another class, it ends with status 0x12, of a
handle out of range BAD_DESC, of no site secret 0x11, of a key not live STALE. KEY_QUERY answers in bit 0 whether the key is live;
of a branch it answers liveness, cache, pin, slot and generation; a handle out of range answers 0, and with no site secret it ends
with status 0x11. Attestation without the Wellhouse answers at once where the buffer holds the statement, and is then recorded; with
its link up it waits for the Wellhouse. Under a tamper lock reads, imports, exports and attestations end TAMPERED. (R385, R391,
R392, R395, R396, R397, R399, R401.) -/
def Obligations.KeyCommandsRead : Prop :=
  (∀ (d : Desc) (s : State), Runs s d → s.tampered = false → d.op 32 1 ≠ 0 → exec (.keyPubRead d) s = .next (s.finish d ((s.usedS 3).answer d (slice (Config.p256Pub importKey) 0 64)))) ∧
  (∀ (d : Desc) (s : State), Runs s d → s.tampered = false → d.op 32 1 = 0 → exec (.keyPubRead d) s = .next (s.finish d ((s.usedS 2).answer d (slice (Config.p256Pub attestKey) 0 64 ++ slice Config.endorse 0 512)))) ∧
  (∀ (d : Desc) (s : State), Runs s d → s.tampered = true → exec (.keyPubRead d) s = .next (s.finish d (s.fail stTAMPERED)) ∧ exec (.keySiteImport d) s = .next (s.finish d (s.fail stTAMPERED)) ∧ exec (.keyAttest d) s = .next (s.finish d (s.fail stTAMPERED))) ∧
  (∀ (d : Desc) (k : DeadKey) (s : State), Runs s d → s.flag KEY_CFG_EXPORT_EN = true → 5 ≤ d.op 32 4 / 2 ^ 28 → d.op 32 4 / 2 ^ 28 ≤ 9 → handleOk (d.op 32 4) = true → s.tampered = false → s.siteLoaded = true → s.keyOf (d.op 32 4) = some k → s.keyLive k.code k.index k.gen k.slot = true → let n := if d.op 32 4 / 2 ^ 28 ≤ 6 then 24 else 40; exec (.keyExport d) s = .next (s.finish d { st := s.record EV_KEY_EXPORTED 0 (d.op 32 4) 0 0, result := n, bytes := slice (Config.aesWrap (slice d.buf 0 32) (s.keyBytes (d.op 32 4 / 2 ^ 28) (d.op 32 4 / 256 % 2 ^ 20) k.gen k.slot)) 0 n, skip := 32 })) ∧
  (∀ (d : Desc) (s : State), Runs s d → s.flag KEY_CFG_EXPORT_EN = true → 5 ≤ d.op 32 4 / 2 ^ 28 → d.op 32 4 / 2 ^ 28 ≤ 9 → (match s.keyOf (d.op 32 4) with | some k => s.keyLive k.code k.index k.gen k.slot | none => false) = false → exec (.keyExport d) s = .next (s.finish d (s.fail (if !handleOk (d.op 32 4) then stBAD_DESC else if s.tampered then stTAMPERED else if !s.siteLoaded then 0x11 else stSTALE)))) ∧
  (∀ (d : Desc) (s : State), Runs s d → (s.flag KEY_CFG_EXPORT_EN = false ∨ d.op 32 4 / 2 ^ 28 < 5 ∨ 9 < d.op 32 4 / 2 ^ 28) → exec (.keyExport d) s = .next (s.finish d (s.fail 0x12))) ∧
  (∀ (d : Desc) (s : State), Runs s d → s.siteLoaded = true → handleOk (d.op 32 4) = true → ∃ n, exec (.keyQuery d) s = .next (s.finish d (s.ok n)) ∧ n % 2 = b2n (match s.keyOf (d.op 32 4) with | some k => s.keyLive k.code k.index k.gen k.slot | none => false)) ∧
  (∀ (d : Desc) (k : DeadKey) (s : State), Runs s d → s.siteLoaded = true → handleOk (d.op 32 4) = true → (d.op 32 4 / 2 ^ 28 = 7 ∨ d.op 32 4 / 2 ^ 28 = 9 ∨ d.op 32 4 / 2 ^ 28 = 10) → s.keyOf (d.op 32 4) = some k → let c := d.op 32 4 / 2 ^ 28; let l := s.keyLive k.code k.index k.gen k.slot; let p := l && (s.branch c).live.contains (k.gen, k.slot); exec (.keyQuery d) s = .next (s.finish d (s.ok (b2n l + 2 * b2n p + 4 * b2n p + 8 * k.slot + 256 * (s.branch c).gen)))) ∧
  (∀ (d : Desc) (s : State), Runs s d → s.siteLoaded = true → handleOk (d.op 32 4) = false → exec (.keyQuery d) s = .next (s.finish d (s.ok 0))) ∧
  (∀ (d : Desc) (s : State), Runs s d → s.siteLoaded = false → exec (.keyQuery d) s = .next (s.finish d (s.fail 0x11))) ∧
  (∀ (d : Desc) (s : State), Runs s d → s.tampered = false → (s.part == .cx7740 && !s.capAbsent 0x12 && s.flag WLG_STATUS_LINK_UP) = false → exec (.keyAttest d) s = .next (s.finish d (if d.bufLen < (coseSign1 s.free attestKey s.serial (s.attestPayload d.nonce none)).length then s.answer d (coseSign1 s.free attestKey s.serial (s.attestPayload d.nonce none)) else ((s.drawn.usedS 2).record EV_ATTESTED 0 (leAt d.nonce 0 4) s.sn 0).answer d (coseSign1 s.free attestKey s.serial (s.attestPayload d.nonce none))))) ∧
  (∀ (d : Desc) (s : State), Runs s d → s.tampered = false → s.part = .cx7740 → s.capAbsent 0x12 = false → s.flag WLG_STATUS_LINK_UP = true → ∃ u : State, exec (.keyAttest d) s = .next (s.finish d u.later) ∧ u.wel.reqs = s.wel.reqs ++ [⟨0x34, s.wlg.nextId, 0, 0, [], d.nonce⟩] ∧ u.wlg.reqs = s.wlg.reqs ++ [(s.wlg.nextId, d, s.sn)])

/-- A well-formed bundle for an empty slot is loaded when it unwraps, and ends with status 0x10 when it does not; a bundle of another
form ends with status 0x10, and one for a loaded slot CONFLICT. A roll introduces the next live generation of its branch with its
switch point, which the branch takes once the point has come; one pending ends it CONFLICT with its point, a point too early REFUSED
with the least, and no generation left 0x13. A generation that is not in force, or a mesh key not in force or with FORCE, is
invalidated with its count; one in force ends CONFLICT; a dead or unknown key counts 0. A slot that is not the newest, without keys
in force, is retired and emptied; the newest, or one a branch uses, ends CONFLICT. Tamper latches are cleared in SETUP alone. A
random-source fault is shown and recorded. A tamper source with response 2 locks the keys; with response 3 it empties site slots,
store and cache and halts the device; both are latched; out of service it is owed until boot ends; with response 0 it is unseen.
(R386, R389, R391, R393, R394, R395, R398, R399, R400.) -/
def Obligations.KeyCommandsChange : Prop :=
  (∀ (d : Desc) (s : State), Runs s d → d.op 32 1 ≤ 1 → s.tampered = false → s.slotLoaded (d.op 32 1) = false → leAt d.buf 0 2 = 1 → leAt d.buf 2 6 = 0 → onCurve (beNat (slice d.buf 8 32)) (beNat (slice d.buf 40 32)) = true → let v := s.usedS 3; exec (.keySiteImport d) s = .next (s.finish d (match Config.aesUnwrap (kdf (Config.p256Ecdh importKey (slice d.buf 8 64)) (ascii "CX77 SITE WRAP") (slice d.buf 8 32) 256) (slice d.buf 72 40) with | none => s.fail 0x10 | some x => (v.loadSite (d.op 32 1) x).1.ok (v.loadSite (d.op 32 1) x).2)) ∧ ∀ x, (v.loadSite (d.op 32 1) x).1.slotLoaded (d.op 32 1) = true) ∧
  (∀ (d : Desc) (s : State), Runs s d → s.tampered = false → (s.slotLoaded (d.op 32 1) = true ∨ leAt d.buf 0 2 ≠ 1 ∨ leAt d.buf 2 6 ≠ 0 ∨ onCurve (beNat (slice d.buf 8 32)) (beNat (slice d.buf 40 32)) = false) → exec (.keySiteImport d) s = .next (s.finish d (s.fail (if s.slotLoaded (d.op 32 1) then stCONFLICT else 0x10)))) ∧
  (∀ (d : Desc) (g : Nat) (s : State), Runs s d → s.siteLoaded = true → (s.branch (d.op 32 1)).next = none → s.pickGen (d.op 32 1) s.newestSlot 255 (s.branch (d.op 32 1)).gen = some g → (s.branch (d.op 32 1)).introduced.contains (g, s.newestSlot) = false → (if d.op 32 1 = 7 then s.sn / 40 + 8 else if d.op 32 1 = 9 then s.sn / 40 + 1 else s.sn + 1) ≤ d.op 40 8 → let c := d.op 32 1; let b := s.branch c; let u := s.setBranch c { b with next := some (g, s.newestSlot, d.op 40 8), introduced := b.introduced ++ [(g, s.newestSlot)] }; exec (.keyRoll d) s = .next (s.finish d ((((u.usedS (branchEntry c s.newestSlot)).showCache).record EV_KEY_ROLLED 0 c g (d.op 40 8)).ok g))) ∧
  (∀ (d : Desc) (g : Nat) (k : Nat) (w : Nat) (s : State), Runs s d → s.siteLoaded = true → (s.branch (d.op 32 1)).next = some (g, k, w) → exec (.keyRoll d) s = .next (s.finish d (s.fail stCONFLICT w))) ∧
  (∀ (d : Desc) (s : State), Runs s d → s.siteLoaded = true → (s.branch (d.op 32 1)).next = none → (match s.pickGen (d.op 32 1) s.newestSlot 255 (s.branch (d.op 32 1)).gen with | some g => (s.branch (d.op 32 1)).introduced.contains (g, s.newestSlot) | none => true) = true → exec (.keyRoll d) s = .next (s.finish d (s.fail 0x13))) ∧
  (∀ (d : Desc) (g : Nat) (s : State), Runs s d → s.siteLoaded = true → (s.branch (d.op 32 1)).next = none → s.pickGen (d.op 32 1) s.newestSlot 255 (s.branch (d.op 32 1)).gen = some g → (s.branch (d.op 32 1)).introduced.contains (g, s.newestSlot) = false → d.op 40 8 < (if d.op 32 1 = 7 then s.sn / 40 + 8 else if d.op 32 1 = 9 then s.sn / 40 + 1 else s.sn + 1) → exec (.keyRoll d) s = .next (s.finish d (s.fail stREFUSED (if d.op 32 1 = 7 then s.sn / 40 + 8 else if d.op 32 1 = 9 then s.sn / 40 + 1 else s.sn + 1)))) ∧
  (∀ (s : State), s.stroked = true → s.serving = true → let sw : Nat → KeyBranch → KeyBranch := fun c b => match b.next with | some (g, k, w) => if switchSn c w ≤ s.sn then { b with gen := g, slot := k, next := none, prev := some (b.gen, b.slot, switchSn c w) } else b | none => b; ∃ t, exec .keySwitch s = .next t ∧ t.key.fleet = sw 7 s.key.fleet ∧ t.key.stop = sw 9 s.key.stop ∧ t.key.log = sw 10 s.key.log ∧ t.get KEY_GEN_LOG = t.key.log.gen % 2 ^ KEY_GEN_LOG.width) ∧
  (∀ (d : Desc) (k : DeadKey) (s : State), Runs s d → s.siteLoaded = true → s.keyOf (d.op 32 4) = some k → s.key.dead.contains k = false → let n := if k.code = 5 ∨ k.code = 6 then 1 else s.branchCount k.code; let f := if k.code = 5 ∨ k.code = 6 then d.op 36 1 % 2 == 0 && s.meshInForce k else (s.branch k.code).live.contains (k.gen, k.slot); exec (.keyInvalidate d) s = .next (s.finish d (if f then s.fail stCONFLICT n else ((s.kill [k]).record EV_KEY_INVALIDATED 0 (d.op 32 4) n s.sn).ok n)) ∧ (s.kill [k]).key.dead = s.key.dead ++ [k]) ∧
  (∀ (d : Desc) (s : State), Runs s d → s.siteLoaded = true → (match s.keyOf (d.op 32 4) with | some k => s.key.dead.contains k | none => true) = true → exec (.keyInvalidate d) s = .next (s.finish d (s.ok 0))) ∧
  (∀ (d : Desc) (s : State), Runs s d → d.op 32 1 ≤ 1 → s.slotLoaded (d.op 32 1) = true → d.op 32 1 ≠ s.newestSlot → (s.branch 7).live.filter (fun g => g.2 == d.op 32 1) = [] → (s.branch 9).live.filter (fun g => g.2 == d.op 32 1) = [] → (s.branch 10).live.filter (fun g => g.2 == d.op 32 1) = [] → (d.op 33 1 % 2 == 0 && (s.meshKeys fun k => k.slot == d.op 32 1).any s.meshInForce) = false → ∃ u : State, exec (.keySiteRetire d) s = .next (s.finish d (u.ok (s.meshKeys fun k => k.slot == d.op 32 1).length)) ∧ u.slotLoaded (d.op 32 1) = false ∧ u.key.retired = s.key.retired ++ [d.op 32 1]) ∧
  (∀ (d : Desc) (s : State), Runs s d → s.slotLoaded (d.op 32 1) = true → d.op 32 1 = s.newestSlot → ∃ n, exec (.keySiteRetire d) s = .next (s.finish d (s.fail stCONFLICT n))) ∧
  (∀ (d : Desc) (s : State), Runs s d → s.dev = .setup → ∃ u : State, exec (.keyTampClear d) s = .next (s.finish d (u.ok (s.get KEY_TAMP_LATCH_BITS))) ∧ u.get KEY_TAMP_LATCH_BITS = 0 ∧ u.key.lockOn = false ∧ u.key.zeroOn = false) ∧
  (∀ (d : Desc) (s : State), Runs s d → s.dev ≠ .setup → exec (.keyTampClear d) s = .next (s.finish d (s.fail stLOCKED))) ∧
  (∀ (n : Nat) (s : State), s.mainLive = true → exec (.trngFault n) s = .next ((s.put KEY_STATUS_TRNG_OK 0).record EV_TRNG_FAULT 0 n 0 0)) ∧
  (∀ (n : Nat) (s : State), s.serving = true → n ≤ 7 → s.get KEY_TAMP_CFG_RESPONSE / 4 ^ n % 4 = 2 → ∃ t, exec (.tamperDetected n) s = .next t ∧ t.key.lockOn = true ∧ bit (t.get KEY_TAMP_LATCH_BITS) n = true ∧ t.tampered = true) ∧
  (∀ (n : Nat) (s : State), s.serving = true → n ≤ 7 → s.get KEY_TAMP_CFG_RESPONSE / 4 ^ n % 4 = 3 → ∃ t, exec (.tamperDetected n) s = .next t ∧ t.key.zeroOn = true ∧ bit (t.get KEY_TAMP_LATCH_BITS) n = true ∧ t.siteLoaded = false ∧ t.key.store.cells = [] ∧ t.key.cache = [] ∧ t.dev = .halt) ∧
  (∀ (n : Nat) (s : State), s.get KEY_TAMP_CFG_RESPONSE / 4 ^ n % 4 = 0 → exec (.tamperDetected n) s = .next s) ∧
  (∀ (n : Nat) (s : State), s.serving = false → s.dev ≠ .halt → n ≤ 7 → s.get KEY_TAMP_CFG_RESPONSE / 4 ^ n % 4 ≠ 0 → ∃ t, exec (.tamperDetected n) s = .next t ∧ t.key.owed = s.key.owed ++ [n] ∧ bit (t.get KEY_TAMP_LATCH_BITS) n = true)

/-- At a timeslot the job takes the transmit results, ages the neighbours, drops the cells that have passed and opens the cells of its
ASN, each unless its channel is taken, when it is counted; between timeslots it only commits. Write-back copies the changed counters
into the node register. The job of a received TSCH frame outside every cell or its window takes nothing from it; one not admitted is
answered with a NACK; a frame that fails its checks ends there, its MAC's counts shown; one that passes resynchronises its
neighbour, is acknowledged where it asks for it, its sender is heard, a sender in another's cell gets its SCHEDULE, and a new one's
contents go on. In a cell the device may use, once: a shared cell on CHOFF 0 sends the Enhanced Beacon, or a due DIO of a sequence
of one channel, CHOFF 1 a due DIO, an update cell the next cluster's message, a downlink cell the next frame of its neighbour, or
drops it where it does not fit. A legacy frame that passes its checks is delivered, and a poll that was promised a frame lets one
go. A backoff beyond its exponent is none; a busy channel costs a legacy frame another backoff up to MAX_BACKOFFS and then, as in a
shared cell, a channel access failure of the unit with authority; on a free one the frame goes out, or is dropped where it does not
fit its cell. (R260, R263, R264, R266, R267, R270, R273, R275, R276, R278, R295, R302.) -/
def Obligations.MeshCellsAndFrames : Prop :=
  (∀ (j : Job) (s : State) (v : State), s.serving = true → s.work 0x0F 0 = some j → v = { s with sn := j.sn } → v.meshRuns = true → (v.sn - v.asnBase) % 40 = 0 → let a := v.meshResults; let b := a.msh.nbrs.foldl (fun s x => s.ageNbr x.1 x.2) a; let d := b.setMsh { b.msh with cells := b.msh.cells.filter fun c => decide (v.asn < c.asn + c.span + 40) }; exec .timeslot s = .next (({ ((d.cellsAt v.asn).foldl (fun s c => s.openCell c) d).showMesh with sn := s.sn } : State).commitOne j)) ∧
  (∀ (j : Job) (s : State), s.serving = true → s.work 0x0F 0 = some j → (({ s with sn := j.sn } : State).meshRuns = false ∨ (j.sn - s.asnBase) % 40 ≠ 0) → exec .timeslot s = .next (s.commitOne j)) ∧
  (∀ (c : MeshCell) (s : State), s.openCell c = if (s.msh.cells.any fun d => s.clashes c d && d.runs c.asn) || s.chanBusy c.chan then s.count MSH_CELL_MISSED 1 else s.setMsh { s.msh with cells := s.msh.cells ++ [c] }) ∧
  (∀ (s : State), s.serving = true → exec .nbrWriteback s = .next (s.msh.nbrs.foldl (fun s x => if x.2.changed then (s.writeBack x.2).modNbr x.1 fun n => { n with changed := false } else s) s)) ∧
  (∀ (m : Nbr) (n : Node) (s : State), s.node? m.node = some n → (s.writeBack m).node? m.node = some { n with rxCtr := m.rxCtr, txCtr := m.txCtr, lastDsn := m.lastDsn, keyGen := m.keyGen, rxValid := m.rxValid, dsnValid := m.dsnValid, txDsn := m.txDsn }) ∧
  (∀ (f : MeshIn) (j : Job) (rx : RxFrame) (c : Nat) (v : State) (s : State), s.serving = true → s.nextIntake (fun p => decide (24 ≤ p) && decide (p < 32)) (fun f => (s.meshRx false f).isSome) = some (j, rx) → v = { s.takeIntake rx with sn := j.sn } → v.meshRx false rx = some c → (if v.meshRuns then v.rxCell c (absNs rx.sn rx.ns) else none) = none → exec (.meshFrameRx f) s = .next (({ v with sn := s.sn } : State).commitOne j)) ∧
  (∀ (f : MeshIn) (j : Job) (rx : RxFrame) (c : Nat) (v : State) (x : MeshCell) (off : Int) (s : State), s.serving = true → s.nextIntake (fun p => decide (24 ≤ p) && decide (p < 32)) (fun f => (s.meshRx false f).isSome) = some (j, rx) → v = { s.takeIntake rx with sn := j.sn } → v.meshRx false rx = some c → v.meshRuns = true → v.rxCell c (absNs rx.sn rx.ns) = some x → off = (absNs rx.sn rx.ns : Int) - (v.asnNs x.asn : Int) - v.get MSH_TEMPLATE_TX_OFFSET_US * 1000 → v.window x f.src * 1000 < absI off → exec (.meshFrameRx f) s = .next (({ v with sn := s.sn } : State).commitOne j)) ∧
  (∀ (f : MeshIn) (j : Job) (rx : RxFrame) (c : Nat) (v : State) (x : MeshCell) (off : Int) (s : State), s.serving = true → s.nextIntake (fun p => decide (24 ≤ p) && decide (p < 32)) (fun f => (s.meshRx false f).isSome) = some (j, rx) → v = { s.takeIntake rx with sn := j.sn } → v.meshRx false rx = some c → v.meshRuns = true → v.rxCell c (absNs rx.sn rx.ns) = some x → off = (absNs rx.sn rx.ns : Int) - (v.asnNs x.asn : Int) - v.get MSH_TEMPLATE_TX_OFFSET_US * 1000 → absI off ≤ v.window x f.src * 1000 → rx.cell = none → let w := match (v.nodeOfEui f.src).bind v.nbrOf with | some k => if f.ar then v.buildAck k c (absNs rx.sn rx.ns + f.durNs + v.get MSH_TEMPLATE_ACK_DELAY_US * 1000) (v.asnNs x.asn + spanEnd x.span) rx.mcs f.dsn (nearestUs off) true else v | none => v; exec (.meshFrameRx f) s = .next (({ w with sn := s.sn } : State).commitOne j)) ∧
  (∀ (f : MeshIn) (j : Job) (rx : RxFrame) (c : Nat) (v : State) (x : MeshCell) (off : Int) (u : State) (s : State), s.serving = true → s.nextIntake (fun p => decide (24 ≤ p) && decide (p < 32)) (fun f => (s.meshRx false f).isSome) = some (j, rx) → v = { s.takeIntake rx with sn := j.sn } → v.meshRx false rx = some c → v.meshRuns = true → v.rxCell c (absNs rx.sn rx.ns) = some x → off = (absNs rx.sn rx.ns : Int) - (v.asnNs x.asn : Int) - v.get MSH_TEMPLATE_TX_OFFSET_US * 1000 → absI off ≤ v.window x f.src * 1000 → rx.cell.isSome = true → v.receive c x.asn rx.sn f = (u, none) → exec (.meshFrameRx f) s = .next (({ u.showMesh with sn := s.sn } : State).commitOne j)) ∧
  (∀ (f : MeshIn) (j : Job) (rx : RxFrame) (c : Nat) (v : State) (x : MeshCell) (off : Int) (k : Nat) (m : Nbr) (y : RxVerdict) (u : State) (s : State), s.serving = true → s.nextIntake (fun p => decide (24 ≤ p) && decide (p < 32)) (fun f => (s.meshRx false f).isSome) = some (j, rx) → v = { s.takeIntake rx with sn := j.sn } → v.meshRx false rx = some c → v.meshRuns = true → v.rxCell c (absNs rx.sn rx.ns) = some x → off = (absNs rx.sn rx.ns : Int) - (v.asnNs x.asn : Int) - v.get MSH_TEMPLATE_TX_OFFSET_US * 1000 → absI off ≤ v.window x f.src * 1000 → rx.cell.isSome = true → v.receive c x.asn rx.sn f = (u, some (k, y)) → (u.nbr? k) = some m → let a := u.resync k (nearestUs off) x.asn; let b := if f.ar then a.buildAck k c (absNs rx.sn rx.ns + f.durNs + v.get MSH_TEMPLATE_ACK_DELAY_US * 1000) (v.asnNs x.asn + spanEnd x.span) rx.mcs f.dsn (nearestUs off) false else a; let h := b.heard m.node f.gen; let w := if h.foreign x m.node then (match h.node? m.node with | some n => if n.joined then (h.setNode m.node { n with schedOk := false }).sendSched m.node false else h | none => h) else h; exec (.meshFrameRx f) s = .next (({ (if y = .deliver then w.deliverUp f m.node c rx.sn else w).showMesh with sn := s.sn } : State).commitOne j)) ∧
  (∀ (seq : Nat) (ch : Nat) (psdu : Nat) (glr : Nat) (b : Bool) (r : Bool) (x : MeshCell) (u : State) (s : State), s.meshRuns = true → (s.msh.cells.find? fun x => x.seq == seq && x.choff == ch && x.asn == s.asn && !x.sent) = some x → u = s.setMsh { s.msh with cells := s.msh.cells.map fun y => if y = x then { y with sent := true } else y } → x.use = .shared → ch = 0 → exec (.meshTx seq ch psdu glr b r) s = .next (match u.dioCluster seq with | some (c, k) => if u.hopLen seq = 1 then u.sendDio x c k glr psdu else u.sendBeacon x glr psdu | none => u.sendBeacon x glr psdu)) ∧
  (∀ (seq : Nat) (ch : Nat) (psdu : Nat) (glr : Nat) (b : Bool) (r : Bool) (x : MeshCell) (u : State) (s : State), s.meshRuns = true → (s.msh.cells.find? fun x => x.seq == seq && x.choff == ch && x.asn == s.asn && !x.sent) = some x → u = s.setMsh { s.msh with cells := s.msh.cells.map fun y => if y = x then { y with sent := true } else y } → x.use = .shared → ch ≠ 0 → exec (.meshTx seq ch psdu glr b r) s = .next (match u.dioCluster seq with | some (c, k) => if ch = 1 then u.sendDio x c k glr psdu else u | none => u)) ∧
  (∀ (seq : Nat) (ch : Nat) (psdu : Nat) (glr : Nat) (b : Bool) (r : Bool) (x : MeshCell) (u : State) (s : State), s.meshRuns = true → (s.msh.cells.find? fun x => x.seq == seq && x.choff == ch && x.asn == s.asn && !x.sent) = some x → u = s.setMsh { s.msh with cells := s.msh.cells.map fun y => if y = x then { y with sent := true } else y } → x.use = .update → exec (.meshTx seq ch psdu glr b r) s = .next (match nextAfter (tget u.msh.updLast seq) (u.updClusters seq) with | none => u | some c => let n := (u.setMsh { u.msh with updLast := tput u.msh.updLast seq c }).nextUpdate c r; let w := n.1.broadcast x c glr psdu (n.1.castBytes c (.message n.2)); if n.1.casts x c glr psdu then w.count MSH_UPD_FRAMES 1 else w)) ∧
  (∀ (seq : Nat) (ch : Nat) (psdu : Nat) (glr : Nat) (b : Bool) (r : Bool) (x : MeshCell) (n : Nat) (u : State) (s : State), s.meshRuns = true → (s.msh.cells.find? fun x => x.seq == seq && x.choff == ch && x.asn == s.asn && !x.sent) = some x → u = s.setMsh { s.msh with cells := s.msh.cells.map fun y => if y = x then { y with sent := true } else y } → x.use = .down n → exec (.meshTx seq ch psdu glr b r) s = .next (match u.nextFor fun q => q.hop == n with | none => u | some q => if u.fitsCell x.chan glr psdu x.span true then u.sendUnicast q x.chan glr psdu (u.asnNs x.asn + u.get MSH_TEMPLATE_TX_OFFSET_US * 1000) b else u.dropQ q.id)) ∧
  (∀ (seq : Nat) (ch : Nat) (psdu : Nat) (glr : Nat) (b : Bool) (r : Bool) (x : MeshCell) (n : Nat) (u : State) (s : State), s.meshRuns = true → (s.msh.cells.find? fun x => x.seq == seq && x.choff == ch && x.asn == s.asn && !x.sent) = some x → u = s.setMsh { s.msh with cells := s.msh.cells.map fun y => if y = x then { y with sent := true } else y } → x.use = .up n → exec (.meshTx seq ch psdu glr b r) s = .next u) ∧
  (∀ (f : MeshIn) (j : Job) (rx : RxFrame) (c : Nat) (v : State) (u : State) (s : State), s.serving = true → s.nextIntake (fun p => decide (24 ≤ p) && decide (p < 32)) (fun f => (s.meshRx true f).isSome) = some (j, rx) → v = { s.takeIntake rx with sn := j.sn } → v.meshRx true rx = some c → v.flag MSH_CFG_ENABLE = true → rx.cell.isSome = true → v.receive c v.asn rx.sn f = (u, none) → exec (.legacyFrameRx f) s = .next (({ u.showMesh with sn := s.sn } : State).commitOne j)) ∧
  (∀ (f : MeshIn) (j : Job) (rx : RxFrame) (c : Nat) (v : State) (k : Nat) (m : Nbr) (y : RxVerdict) (u : State) (s : State), s.serving = true → s.nextIntake (fun p => decide (24 ≤ p) && decide (p < 32)) (fun f => (s.meshRx true f).isSome) = some (j, rx) → v = { s.takeIntake rx with sn := j.sn } → v.meshRx true rx = some c → v.flag MSH_CFG_ENABLE = true → rx.cell.isSome = true → v.receive c v.asn rx.sn f = (u, some (k, y)) → (u.nbr? k) = some m → let h := u.heard m.node f.gen; let w := if rx.acked == some true && (match legacyHdr rx.bytes with | some h => h.dataRequest | none => false) then h.releaseIndirect m.node else h; exec (.legacyFrameRx f) s = .next (({ (if y = .deliver then w.deliverUp f m.node c rx.sn else w).showMesh with sn := s.sn } : State).commitOne j)) ∧
  (∀ (f : MeshIn) (j : Job) (rx : RxFrame) (c : Nat) (v : State) (s : State), s.serving = true → s.nextIntake (fun p => decide (24 ≤ p) && decide (p < 32)) (fun f => (s.meshRx true f).isSome) = some (j, rx) → v = { s.takeIntake rx with sn := j.sn } → v.meshRx true rx = some c → (v.flag MSH_CFG_ENABLE = false ∨ rx.cell = none) → exec (.legacyFrameRx f) s = .next (({ v with sn := s.sn } : State).commitOne j)) ∧
  (∀ (c : Nat) (n : Nat) (d : Nat) (psdu : Nat) (glr : Nat) (b : Bool) (q : MeshQ) (x : Option MeshCell) (s : State), s.meshRuns = true → s.csmaFrame c = some (q, x) → (match s.backoffExp q x.isSome with | some e => decide (2 ^ e ≤ n) | none => decide (0 < n)) = false → s.ccaBusy d = true → exec (.csmaBackoff c n d psdu glr b) s = .next (if !s.authority then s else if x.isNone && decide (q.nb < s.get MSH_CSMA_CFG_MAX_BACKOFFS) then s.modQ q.id fun q => { q with nb := q.nb + 1 } else (s.modQ q.id fun q => { q with waiting := true }).reportTx (.mesh c q.id) .noAccess)) ∧
  (∀ (c : Nat) (n : Nat) (d : Nat) (psdu : Nat) (glr : Nat) (b : Bool) (q : MeshQ) (x : Option MeshCell) (s : State), s.meshRuns = true → s.csmaFrame c = some (q, x) → (match s.backoffExp q x.isSome with | some e => decide (2 ^ e ≤ n) | none => decide (0 < n)) = false → s.ccaBusy d = false → exec (.csmaBackoff c n d psdu glr b) s = .next (match x with | none => s.sendUnicast q c glr psdu (absNs (s.sn + 1) 0) b | some x => if s.fitsCell c glr psdu x.span true then (s.setMsh { s.msh with cells := s.msh.cells.map fun y => if y = x then { y with sent := true } else y }).sendUnicast q c glr psdu (s.asnNs x.asn + s.get MSH_TEMPLATE_TX_OFFSET_US * 1000) b else s.dropQ q.id)) ∧
  (∀ (c : Nat) (n : Nat) (d : Nat) (psdu : Nat) (glr : Nat) (b : Bool) (q : MeshQ) (x : Option MeshCell) (s : State), s.csmaFrame c = some (q, x) → (match s.backoffExp q x.isSome with | some e => decide (2 ^ e ≤ n) | none => decide (0 < n)) = true → exec (.csmaBackoff c n d psdu glr b) s = .next s)

/-- On the unit with authority an acknowledgement of a frame that waits, or the end of its window, is its transmit result. A result
processed at a timeslot completes a frame that is acknowledged; without one, or with a NACK, the attempt fails, and after
MAX_RETRIES repeats the frame is dropped and counted; a frame without channel access is counted beside. Expired indirect frames and
reassemblies are dropped and counted. The oldest DAO is taken by R288, one whose path cannot be taken is counted as rejected and
changes no node; a DIS of a node of a cluster is answered with a DIO; every joined node whose path lifetime has ended departs. The
Trickle timer of a cluster, in the second half of its interval, makes a DIO due and doubles the interval. Status, values and
REKEY_ACK messages are noted in the node entry, other schedule versions are recorded and answered. Every cluster switches to its
next key at SWITCH_ASN, recorded. A fragment of a datagram over 1,280 bytes is dropped and counted; a datagram that its fragments
cover goes on; the first fragment of another opens a reassembly where there is room. A downlink packet goes to the node of its
address in its cluster, or is dropped. (R264, R266, R267, R275, R280, R287, R288, R289, R290, R291, R297, R299.) -/
def Obligations.MeshAcknowledgementsAndNetwork : Prop :=
  (∀ (a : MeshAckIn) (q : MeshQ) (s : State), s.serving = true → s.resultDue a.id = some q → let ok := a.valid && ((match (s.nbrOf q.hop).bind s.nbr? with | some m => m.legacy | none => false) || decide (a.ofs.natAbs ≤ s.get MSH_GUARD_ACK_GUARD_US)); exec (.meshAckRx a) s = .next (s.reportTx (.mesh 0 q.id) (if ok then (if a.nack then .nacked a.ofs else .acked a.ofs) else .unheard))) ∧
  (∀ (i : Nat) (q : MeshQ) (s : State), s.serving = true → s.resultDue i = some q → exec (.meshAckTimeout i) s = .next (s.reportTx (.mesh 0 q.id) .unheard)) ∧
  (∀ (i : Nat) (r : TxResult) (n : Nat) (q : MeshQ) (s : State), (s.msh.queue.find? fun q => q.id == i) = some q → let a := (n - s.asnBase) / 40; s.takeResult i r n = match r with | .acked o => (s.ackSync q.hop o a).attemptDone q | .nacked o => (s.ackSync q.hop o a).attemptFailed i | .noAccess => (s.count MSH_TX_CCA_FAIL 1).attemptFailed i | _ => s.attemptFailed i) ∧
  (∀ (i : Nat) (q : MeshQ) (s : State), (s.msh.queue.find? fun q => q.id == i) = some q → q.attempts + 1 ≤ s.get MSH_CFG_MAX_RETRIES → ∃ t, s.attemptFailed i = t ∧ t.msh.queue = s.msh.queue.map (fun q => if q.id = i then { q with attempts := q.attempts + 1, waiting := false, nb := 0 } else q)) ∧
  (∀ (i : Nat) (q : MeshQ) (s : State), (s.msh.queue.find? fun q => q.id == i) = some q → s.get MSH_CFG_MAX_RETRIES < q.attempts + 1 → ∃ t, s.attemptFailed i = t ∧ t.msh.queue = s.msh.queue.filter (fun q => q.id != i) ∧ t.num MSH_TX_FAIL = (s.num MSH_TX_FAIL + 1) % 2 ^ 32) ∧
  (∀ (s : State), s.serving = true → ∃ t, exec .pendingExpired s = .next t ∧ t.msh.queue = s.msh.queue.filter (fun q => !(q.indirect && decide (q.queuedSn + 40 * s.get MSH_PEND_CFG_PERSIST ≤ s.sn))) ∧ t.num MSH_PEND_EXPIRED = (s.num MSH_PEND_EXPIRED + (s.msh.queue.filter fun q => q.indirect && decide (q.queuedSn + 40 * s.get MSH_PEND_CFG_PERSIST ≤ s.sn)).length) % 2 ^ 32) ∧
  (∀ (x : MeshItem) (q : Nat) (l : Nat) (p : Option Nat) (u : State) (s : State), s.serving = true → s.takeItem (MeshUp.isDao) = some (u, x) → x.body = .dao q l p → exec .daoRx s = .next (u.dao x.node x.arrival q l p)) ∧
  (∀ (i : Nat) (n : Node) (q : Nat) (l : Nat) (a : Nat) (p : Option Nat) (st : Nat) (s : State), s.node? i = some n → (s.cluster? n.cluster).isSome = true → (n.daoSeen = false ∨ lollipopNewer q n.daoSeq = true) → l ≠ 0 → s.takePath i n p = .error st → ∃ t, s.dao i a q l p = t ∧ t.num MSH_DAO_REJECT = (s.num MSH_DAO_REJECT + 1) % 2 ^ 32 ∧ t.msh.nodes = s.msh.nodes) ∧
  (∀ (s : State), s.serving = true → exec .pathExpiry s = .next (((s.msh.nodes.filter fun x => x.2.joined && decide (x.2.pathExpiry < s.sn)).map (·.1)).foldl (fun s i => match s.node? i with | some n => if n.joined then s.departNode i 2 else s | none => s) s)) ∧
  (∀ (i : Nat) (n : Node) (s : State), s.serving = true → s.msh.nodes = [(i, n)] → n.joined = true → n.pathExpiry < s.sn → exec .pathExpiry s = .next (s.departNode i 2)) ∧
  (∀ (x : MeshItem) (n : Node) (c : Cluster) (u : State) (s : State), s.serving = true → s.takeItem (fun b => b == .dis) = some (u, x) → u.node? x.node = some n → u.cluster? n.cluster = some c → exec .disRx s = .next (u.meshSend x.node (.dio c.version))) ∧
  (∀ (c : Nat) (k : Cluster) (s : State), s.cluster? c = some k → s.meshRuns = true → k.dioFrom + s.trickleLen k / 2 ≤ s.sn → exec (.dioTrickle c) s = .next (s.modCluster c fun y => { y with dioDue := true, dioFrom := y.dioFrom + s.trickleLen k, doublings := min (s.get MSH_NET_CFG_DIO_DOUBLINGS) (y.doublings + 1) })) ∧
  (∀ (c : Nat) (k : Cluster) (s : State), s.cluster? c = some k → (s.meshRuns = false ∨ s.sn < k.dioFrom + s.trickleLen k / 2) → exec (.dioTrickle c) s = .next s) ∧
  (∀ (x : MeshItem) (m : List Byte) (p : Nat) (n : Node) (g : Nat) (a : Nat) (b : Nat) (u : State) (s : State), s.serving = true → s.takeItem (MeshUp.isMessage 0xF0B2 0x04) = some (u, x) → x.body = .message p m → leAt m 1 1 = 1 → u.node? x.node = some n → (u.cluster? n.cluster).bind Cluster.renewing = some (g, a, b) → ∃ t, exec .rekeyAck s = .next t ∧ t.node? x.node = some (if leAt m 2 1 = g then { n with ckeyGen := g } else n)) ∧
  (∀ (s : State), s.serving = true → exec .clusterKeySwitch s = .next (if !s.asnValid then s else s.msh.clusters.foldl (fun u x => match x.2.keyNext with | some (g, sl, a) => if u.asn < a then u else (u.modCluster x.1 fun c => { c with keyGen := g, keySlot := sl, keyNext := none, renewed := some a }).record EV_REKEY_DONE 0 (0x80000000 + x.1) g 0 | none => u) s)) ∧
  (∀ (i : Nat) (k : Cluster) (g : Nat) (sl : Nat) (a : Nat) (s : State), s.serving = true → s.asnValid = true → s.msh.clusters = [(i, k)] → k.keyNext = some (g, sl, a) → a ≤ s.asn → ∃ t, exec .clusterKeySwitch s = .next t ∧ t.msh.clusters = [(i, { k with keyGen := g, keySlot := sl, keyNext := none, renewed := some a })]) ∧
  (∀ (x : MeshItem) (m : List Byte) (p : Nat) (n : Node) (u : State) (s : State), s.serving = true → s.takeItem (MeshUp.isMessage 0xF0B2 0x01) = some (u, x) → x.body = .message p m → u.node? x.node = some n → let y : Node := { n with fwVersion := leAt m 4 4, hwClass := leAt m 8 4, schedOk := n.joined && leAt m 2 2 == n.schedVer }; let v := u.setNode x.node y; exec .nodeStatus s = .next ((if n.joined && leAt m 2 2 != n.schedVer then (v.record EV_SCHED_STALE 0 x.node (leAt m 2 2) n.schedVer).sendSched x.node false else v).addTarget x.node y)) ∧
  (∀ (x : MeshItem) (m : List Byte) (p : Nat) (n : Node) (u : State) (s : State), s.serving = true → s.takeItem (MeshUp.isMessage 0xF0B2 0x05) = some (u, x) → x.body = .message p m → u.node? x.node = some n → ∃ t, exec .values s = .next t ∧ t.node? x.node = some { n with values := (List.range (leAt m 1 1)).map (fun i => leAt m (4 + 4 * i) 4), valuesSn := x.arrival }) ∧
  (∀ (x : MeshItem) (tag : Nat) (size : Nat) (o : Nat) (b : List Byte) (u : State) (s : State), s.serving = true → s.takeItem (MeshUp.isFragment) = some (u, x) → x.body = .fragment tag size o b → 1280 < size → exec .fragmentRx s = .next (u.count MSH_REASM_DROP 1)) ∧
  (∀ (x : MeshItem) (tag : Nat) (size : Nat) (o : Nat) (b : List Byte) (r : MeshReasm) (u : State) (s : State), s.serving = true → s.takeItem (MeshUp.isFragment) = some (u, x) → x.body = .fragment tag size o b → size ≤ 1280 → (u.msh.reasm.find? fun r => r.node == x.node && r.tag == tag && r.size == size) = some r → let l := insertFrag (o, b) r.frags; exec .fragmentRx s = .next (if fragsCover size 0 l then (u.setMsh { u.msh with reasm := u.msh.reasm.erase r }).datagram x (l.flatMap (·.2)) else u.setMsh { u.msh with reasm := u.msh.reasm.map fun y => if y.node == x.node && y.tag == tag && y.size == size then { y with frags := l } else y })) ∧
  (∀ (x : MeshItem) (tag : Nat) (size : Nat) (o : Nat) (b : List Byte) (u : State) (s : State), s.serving = true → s.takeItem (MeshUp.isFragment) = some (u, x) → x.body = .fragment tag size o b → size ≤ 1280 → (u.msh.reasm.find? fun r => r.node == x.node && r.tag == tag && r.size == size) = none → exec .fragmentRx s = .next (if 1024 ≤ u.msh.reasm.length then u.reasmFull else if b.length = size && o = 0 then u.datagram x b else u.setMsh { u.msh with reasm := u.msh.reasm ++ [⟨x.node, tag, size, [(o, b)], x.arrival⟩] })) ∧
  (∀ (s : State), s.serving = true → ∃ t, exec .reassemblyTimeout s = .next t ∧ t.msh.reasm = s.msh.reasm.filter (fun r => !decide (r.firstSn + 4000 * max 1 (s.get MSH_REASM_S_S) ≤ s.sn)) ∧ t.num MSH_REASM_DROP = (s.num MSH_REASM_DROP + (s.msh.reasm.filter fun r => decide (r.firstSn + 4000 * max 1 (s.get MSH_REASM_S_S) ≤ s.sn)).length) % 2 ^ 32) ∧
  (∀ (c : Nat) (pkt : List Byte) (r : List (Nat × List Byte)) (s : State), s.serving = true → s.msh.toMesh = (c, pkt) :: r → let u := s.setMsh { s.msh with toMesh := r }; exec .meshDownlinkPacket s = .next (match s.nodeOfAddr c (dstOf pkt) with | some i => u.meshSend i (.packet pkt) | none => u))

/-- A cluster is opened with its sequence, PAN ID and first key, one that is open takes sequence and PAN ID, refused with CONFLICT on a
PAN clash and REFUSED above 239 without a secondary site of its own, and disabled with ENABLE 0. Records are added in turn up to the
first that fails; a valid record commissions its node and answers its index, which is the lowest free one where none is asked for; a
known EUI is a CONFLICT with its index. A node is removed from the register with its frames, its entry and its neighbour entry are
read. A renewal introduces the next generation of a node key, after a generation given with FORCE unless that is dead; a cluster
renewal comes with its switch ASN; a pending one is REKEY_BUSY. A repair raises the DODAG version and starts Trickle afresh. An
actuation is sent to its node. Unknown nodes and closed clusters are refused by status. (R24, R285, R286, R287, R296, R297, R298,
R306, R307.) -/
def Obligations.MeshCommands : Prop :=
  (∀ (d : Desc) (s : State), Runs s d → bit (d.op 33 1) 0 = false → exec (.mshClusterSet d) s = .next (s.finish d (s.modCluster (d.op 32 1) fun k => { k with enabled := false }).showMesh.showCache.ok)) ∧
  (∀ (d : Desc) (s : State), Runs s d → bit (d.op 33 1) 0 = true → (decide (240 ≤ d.op 32 1) && !(s.flag FWD_SITE_SITE2_EN && s.get FWD_SITE_SITE2 != s.get FWD_SITE_SITE)) = false → (s.msh.clusters.find? fun x => x.1 != d.op 32 1 && x.2.enabled && x.2.seq == d.op 34 1 && x.2.pan == d.op 36 2) = none → let new : Cluster := { enabled := true, seq := d.op 34 1, pan := d.op 36 2, keyGen := d.op 38 1, keySlot := s.newestSlot, dioFrom := s.sn }; let k : Cluster := match tget s.msh.clusters (d.op 32 1) with | some k => if k.enabled then { k with seq := d.op 34 1, pan := d.op 36 2 } else { k with enabled := true, seq := d.op 34 1, pan := d.op 36 2, keyGen := d.op 38 1, keySlot := s.newestSlot, keyNext := none, renewed := none, doublings := 0, dioFrom := s.sn } | none => new; exec (.mshClusterSet d) s = .next (s.finish d ((s.setMsh { s.msh with clusters := tput s.msh.clusters (d.op 32 1) k }).usedS (branchEntry 6 k.keySlot)).showMesh.showCache.ok)) ∧
  (∀ (d : Desc) (s : State), Runs s d → bit (d.op 33 1) 0 = true → (decide (240 ≤ d.op 32 1) && !(s.flag FWD_SITE_SITE2_EN && s.get FWD_SITE_SITE2 != s.get FWD_SITE_SITE)) = true → exec (.mshClusterSet d) s = .next (s.finish d (s.fail stREFUSED))) ∧
  (∀ (d : Desc) (x : Nat × Cluster) (s : State), Runs s d → bit (d.op 33 1) 0 = true → (decide (240 ≤ d.op 32 1) && !(s.flag FWD_SITE_SITE2_EN && s.get FWD_SITE_SITE2 != s.get FWD_SITE_SITE)) = false → (s.msh.clusters.find? fun x => x.1 != d.op 32 1 && x.2.enabled && x.2.seq == d.op 34 1 && x.2.pan == d.op 36 2) = some x → exec (.mshClusterSet d) s = .next (s.finish d (s.fail stCONFLICT x.1))) ∧
  (∀ (d : Desc) (s : State), Runs s d → let r := s.addNodes d.buf (d.bufLen / 16) 0; exec (.mshNodeAdd d) s = .next (s.finish d (match r.2.2 with | none => { st := r.1.showMesh, result := r.2.1.length, bytes := r.2.1.flatMap (leBytes 4) } | some (st, n) => r.1.showMesh.fail st (if st = stCONFLICT then n else r.2.1.length)))) ∧
  (∀ (d : Desc) (i : Nat) (s : State), Runs s d → d.bufLen / 16 = 1 → slice d.buf 0 16 = d.buf → (s.cluster? (leAt d.buf 8 1)).isSome = true → s.nodeOfEui (leAt d.buf 0 8) = none → (if leAt d.buf 12 4 = 0xFFFFFFFF then freeIndex 262144 0 s.msh.nodes else leAt d.buf 12 4) = i → i < 262144 → s.node? i = none → (s.msh.nodes.filter fun x => x.2.cluster == leAt d.buf 8 1).length < 16384 → ∃ u : State, exec (.mshNodeAdd d) s = .next (s.finish d { st := u, result := 1, bytes := leBytes 4 i }) ∧ u.node? i = some { eui := leAt d.buf 0 8, legacy := bit (leAt d.buf 9 1) 0, sleepy := bit (leAt d.buf 9 1) 1, cluster := leAt d.buf 8 1, upCells := leAt d.buf 10 1, keyGen := leAt d.buf 11 1, keySlot := s.newestSlot }) ∧
  (∀ (d : Desc) (i : Nat) (s : State), Runs s d → d.bufLen / 16 = 1 → slice d.buf 0 16 = d.buf → (s.cluster? (leAt d.buf 8 1)).isSome = true → s.nodeOfEui (leAt d.buf 0 8) = some i → exec (.mshNodeAdd d) s = .next (s.finish d (s.showMesh.fail stCONFLICT i))) ∧
  (∀ (d : Desc) (s : State), Runs s d → (s.node? (d.op 32 4)).isSome = true → exec (.mshNodeRemove d) s = .next (s.finish d (s.removeNode (d.op 32 4)).ok) ∧ tget (s.removeNode (d.op 32 4)).msh.nodes (d.op 32 4) = none ∧ (∀ q ∈ (s.removeNode (d.op 32 4)).msh.queue, q.dst ≠ d.op 32 4) ∧ ∀ x ∈ (s.removeNode (d.op 32 4)).msh.nbrs, x.2.node ≠ d.op 32 4) ∧
  (∀ (d : Desc) (n : Node) (s : State), Runs s d → s.node? (d.op 32 4) = some n → exec (.mshNodeRead d) s = .next (s.finish d (s.answer d n.bytes))) ∧
  (∀ (d : Desc) (n : Node) (s : State), Runs s d → s.node? (d.op 32 4) = some n → exec (.mshNbrRead d) s = .next (s.finish d (match (s.nbrOf (d.op 32 4)).bind s.nbr? with | none => s.fail 0x13 | some m => s.answer d m.bytes))) ∧
  (∀ (d : Desc) (s : State), Runs s d → s.node? (d.op 32 4) = none → exec (.mshNodeRemove d) s = .next (s.finish d (s.fail 0x10)) ∧ exec (.mshNodeRead d) s = .next (s.finish d (s.fail 0x10)) ∧ exec (.mshNbrRead d) s = .next (s.finish d (s.fail 0x10)) ∧ exec (.mshActuate d) s = .next (s.finish d (s.fail 0x10))) ∧
  (∀ (d : Desc) (n : Node) (s : State), Runs s d → d.op 32 1 = 0 → d.op 33 1 = 0 → s.node? (d.op 36 4) = some n → n.rekeyPending = false → ∃ u : State, exec (.mshRekey d) s = .next (s.finish d (u.ok (nextGen n.keyGen))) ∧ u.node? (d.op 36 4) = some { n with keyNext := nextGen n.keyGen, keyNextSlot := s.newestSlot, rekeyPending := true, renewMark := false }) ∧
  (∀ (d : Desc) (n : Node) (s : State), Runs s d → d.op 32 1 = 0 → d.op 33 1 ≠ 0 → s.node? (d.op 36 4) = some n → n.rekeyPending = false → s.nodeGenDead (d.op 36 4) (d.op 34 1) = false → ∃ u : State, exec (.mshRekey d) s = .next (s.finish d (u.ok (nextGen (d.op 34 1)))) ∧ u.node? (d.op 36 4) = some { n with keyGen := d.op 34 1, staleSeen := [], keyNext := nextGen (d.op 34 1), keyNextSlot := s.newestSlot, rekeyPending := true, renewMark := false }) ∧
  (∀ (d : Desc) (n : Node) (s : State), Runs s d → d.op 32 1 = 0 → s.node? (d.op 36 4) = some n → (n.rekeyPending = true ∨ d.op 33 1 ≠ 0 ∧ s.nodeGenDead (d.op 36 4) (d.op 34 1) = true) → exec (.mshRekey d) s = .next (s.finish d (s.fail (if n.rekeyPending then 0x14 else stSTALE)))) ∧
  (∀ (d : Desc) (k : Cluster) (s : State), Runs s d → d.op 32 1 ≠ 0 → s.cluster? (d.op 36 4) = some k → k.keyNext = none → ∃ u : State, exec (.mshRekey d) s = .next (s.finish d (u.ok (nextGen k.keyGen))) ∧ tget u.msh.clusters (d.op 36 4) = some { k with keyNext := some (nextGen k.keyGen, s.newestSlot, s.asn + s.num MSH_CLUSTER_SWITCH) }) ∧
  (∀ (d : Desc) (k : Cluster) (s : State), Runs s d → d.op 32 1 ≠ 0 → s.cluster? (d.op 36 4) = some k → k.keyNext.isSome = true → exec (.mshRekey d) s = .next (s.finish d (s.fail 0x14))) ∧
  (∀ (d : Desc) (s : State), Runs s d → (if d.op 32 1 = 0 then (s.node? (d.op 36 4)).isNone else (s.cluster? (d.op 36 4)).isNone) = true → exec (.mshRekey d) s = .next (s.finish d (s.fail (if d.op 32 1 = 0 then 0x10 else 0x11)))) ∧
  (∀ (d : Desc) (k : Cluster) (s : State), Runs s d → s.cluster? (d.op 32 1) = some k → let v := if k.version < 128 then (k.version + 1) % 128 else (k.version + 1) % 256; exec (.mshRepair d) s = .next (s.finish d ((s.modCluster (d.op 32 1) fun c => { c with version := v, doublings := 0, dioDue := true, dioFrom := s.sn }).ok v))) ∧
  (∀ (d : Desc) (s : State), Runs s d → s.cluster? (d.op 32 1) = none → exec (.mshRepair d) s = .next (s.finish d (s.fail 0x11))) ∧
  (∀ (d : Desc) (n : Node) (s : State), Runs s d → s.node? (d.op 32 4) = some n → exec (.mshActuate d) s = .next (s.finish d (s.meshSend (d.op 32 4) (.message (leBytes 1 6 ++ leBytes 1 (d.op 36 1) ++ leBytes 2 0 ++ leBytes 4 (d.op 40 4)))).ok))

/-- An image whose header is well formed is held when its SHA-256 agrees and refused with cause 4 when it does not; any other fault of
the image ends with its cause, a known ID CONFLICT, and a fifth image with status 0x12. It is dropped unless a campaign runs on it,
which ends with status 0x13. A campaign starts with its targets while MAX_DEPTH is above 1, which is LOCKED otherwise; an image not
held, a known campaign, a busy image or cluster and a channel too narrow for its messages are refused by status. It stops, and a
query answers 32 bytes of it; both refuse an unknown one. After the report gap a cluster starts its next round with the symbols the
reports ask for, or ends after its last round. An UPDATE_STATUS message is noted in its node entry. (R300, R303, R304, R308.) -/
def Obligations.UpdateImagesAndCampaigns : Prop :=
  (∀ (d : Desc) (s : State), Runs s d → slice d.buf 0 4 = ascii "GWUP" → leAt d.buf 4 2 = 1 → 1 ≤ leAt d.buf 16 4 → leAt d.buf 16 4 ≤ 8388608 → 16 ≤ leAt d.buf 20 2 → leAt d.buf 20 2 ≤ 1024 → leAt d.buf 20 2 % 16 = 0 → leAt d.buf 24 4 = (leAt d.buf 16 4 + leAt d.buf 20 2 - 1) / leAt d.buf 20 2 → leAt d.buf 24 4 ≤ 32768 → d.bufLen = 128 + leAt d.buf 16 4 → leAt d.buf 6 2 ≠ 0 → (∀ m ∈ s.msh.images, m.id ≠ leAt d.buf 6 2) → s.msh.images.length < 4 → let m : Image := { id := leAt d.buf 6 2, hwClass := leAt d.buf 8 4, fwVersion := leAt d.buf 12 4, blk := leAt d.buf 20 2, nblk := leAt d.buf 24 4, header := slice d.buf 0 128, body := slice d.buf 128 (leAt d.buf 16 4) }; exec (.updImageLoad d) s = .next (s.finish d (if Config.sha256 (slice d.buf 128 (leAt d.buf 16 4)) = slice d.buf 32 32 then (s.setMsh { s.msh with images := s.msh.images ++ [m] }).showMesh.ok (m.id + 2 ^ 16 * m.nblk) else s.fail 0x10 4))) ∧
  (∀ (d : Desc) (c : Nat) (s : State), Runs s d → imageFault d.buf d.bufLen = some c → exec (.updImageLoad d) s = .next (s.finish d (s.fail 0x10 c))) ∧
  (∀ (b : List Byte) (n : Nat) (s : State), (slice b 0 4 ≠ ascii "GWUP" ∨ leAt b 4 2 ≠ 1 → imageFault b n = some 1) ∧ (imageFault b n = none → slice b 0 4 = ascii "GWUP" ∧ leAt b 4 2 = 1 ∧ n = 128 + leAt b 16 4 ∧ Config.sha256 (slice b 128 (leAt b 16 4)) = slice b 32 32)) ∧
  (∀ (d : Desc) (s : State), Runs s d → exec (.updImageLoad d) s = .next (s.finish d (match imageFault d.buf d.bufLen with | some c => s.fail 0x10 c | none => if leAt d.buf 6 2 = 0 then s.fail 0x10 1 else if s.msh.images.any (fun m => m.id == leAt d.buf 6 2) then s.fail stCONFLICT (leAt d.buf 6 2) else if 4 ≤ s.msh.images.length then s.fail 0x12 else (s.setMsh { s.msh with images := s.msh.images ++ [{ id := leAt d.buf 6 2, hwClass := leAt d.buf 8 4, fwVersion := leAt d.buf 12 4, blk := leAt d.buf 20 2, nblk := leAt d.buf 24 4, header := slice d.buf 0 128, body := slice d.buf 128 (leAt d.buf 16 4) }] }).showMesh.ok (leAt d.buf 6 2 + 2 ^ 16 * leAt d.buf 24 4)))) ∧
  (∀ (d : Desc) (s : State), Runs s d → (∃ m ∈ s.msh.images, m.id = d.op 32 2) → (∀ c ∈ s.msh.campaigns, c.running = true → c.image ≠ d.op 32 2) → exec (.updImageDrop d) s = .next (s.finish d (s.setMsh { s.msh with images := s.msh.images.filter fun m => m.id != d.op 32 2 }).showMesh.ok)) ∧
  (∀ (d : Desc) (s : State), Runs s d → exec (.updImageDrop d) s = .next (s.finish d (if s.msh.images.any fun m => m.id == d.op 32 2 then (if s.msh.campaigns.any (fun c => c.running && c.image == d.op 32 2) then s.fail 0x13 else (s.setMsh { s.msh with images := s.msh.images.filter fun m => m.id != d.op 32 2 }).showMesh.ok) else s.fail 0x11))) ∧
  (∀ (d : Desc) (s : State), Runs s d → s.maxDepth ≠ 1 → let cs := s.maskClusters d.buf; exec (.updCampaignStart d) s = .next (s.finish d (match s.msh.images.find? fun m => m.id == d.op 32 2 with | none => s.fail 0x11 | some m => if s.msh.campaigns.any (fun c => c.id == d.op 36 2) then s.fail stCONFLICT (d.op 36 2) else if s.msh.campaigns.any (fun c => c.running && (c.image == d.op 32 2 || c.clusters.any fun k => !k.ended && cs.contains k.cluster)) then s.fail 0x13 else match cs.find? fun c => s.tooNarrow c (12 + max m.blk 64) with | some c => s.fail stREFUSED c | none => let ts := s.firstTargets m (bit (d.op 34 1) 0) cs; (s.setMsh { s.msh with campaigns := s.msh.campaigns ++ [{ id := d.op 36 2, image := m.id, maxRounds := d.op 35 1, factor := if d.op 38 1 = 0 then 24 else d.op 38 1, minimum := d.op 39 1, clusters := cs.map fun c => { cluster := c, left := m.nblk }, targets := ts }] }).showMesh.ok ts.length))) ∧
  (∀ (d : Desc) (m : Image) (s : State), Runs s d → s.maxDepth ≠ 1 → (s.msh.images.find? fun m => m.id == d.op 32 2) = some m → (∀ c ∈ s.msh.campaigns, c.id ≠ d.op 36 2 ∧ (c.running = true → c.image ≠ d.op 32 2 ∧ ∀ k ∈ c.clusters, k.ended = true ∨ k.cluster ∉ s.maskClusters d.buf)) → (∀ c ∈ s.maskClusters d.buf, s.tooNarrow c (12 + max m.blk 64) = false) → ∃ u : State, exec (.updCampaignStart d) s = .next (s.finish d (u.ok (s.firstTargets m (bit (d.op 34 1) 0) (s.maskClusters d.buf)).length)) ∧ u.msh.campaigns = s.msh.campaigns ++ [{ id := d.op 36 2, image := m.id, maxRounds := d.op 35 1, factor := if d.op 38 1 = 0 then 24 else d.op 38 1, minimum := d.op 39 1, clusters := (s.maskClusters d.buf).map fun c => { cluster := c, left := m.nblk }, targets := s.firstTargets m (bit (d.op 34 1) 0) (s.maskClusters d.buf) }]) ∧
  (∀ (d : Desc) (s : State), Runs s d → s.maxDepth = 1 → exec (.updCampaignStart d) s = .next (s.finish d (s.fail stLOCKED))) ∧
  (∀ (d : Desc) (c : Campaign) (s : State), Runs s d → c ∈ s.msh.campaigns → c.id = d.op 32 2 → exec (.updCampaignStop d) s = .next (s.finish d (s.setMsh { s.msh with campaigns := s.msh.campaigns.map fun c => if c.id = d.op 32 2 then { c with running := false } else c }).showMesh.ok)) ∧
  (∀ (d : Desc) (x : Campaign) (s : State), Runs s d → (s.msh.campaigns.find? fun c => c.id == d.op 32 2) = some x → exec (.updQuery d) s = .next (s.finish d (s.answer d (leBytes 2 x.id ++ leBytes 2 x.image ++ leBytes 1 (b2n x.running) ++ leBytes 1 (x.clusters.foldl (fun n k => max n k.round) 0) ++ leBytes 2 0 ++ leBytes 4 x.targets.length ++ leBytes 4 (s.reported x [1, 4]).length ++ leBytes 4 (s.reported x [2, 3]).length ++ leBytes 4 (x.clusters.foldl (fun n k => max n k.nextEsi) 0) ++ leBytes 8 0)))) ∧
  (∀ (d : Desc) (s : State), Runs s d → (∀ c ∈ s.msh.campaigns, c.id ≠ d.op 32 2) → exec (.updQuery d) s = .next (s.finish d (s.fail stREFUSED)) ∧ exec (.updCampaignStop d) s = .next (s.finish d (s.fail stREFUSED))) ∧
  (∀ (s : State), s.serving = true → s.asnValid = true → exec .updateRoundEnd s = .next (s.msh.campaigns.foldl (fun u x => if !x.running then u else (x.clusters.foldl (fun u k => match k.gap with | none => u | some g => if k.ended || decide (u.asn < g + u.sfLen) then u else if u.clusterDone x k.cluster || decide (x.maxRounds ≤ k.round) then u.modCamp x.id k.cluster fun k => { k with ended := true } else u.modCamp x.id k.cluster fun y => { y with round := y.round + 1, left := u.roundSize x k.cluster, hdr := 2, gap := none }) u).closeCampaign x.id) s)) ∧
  (∀ (x : Campaign) (k : CampCluster) (g : Nat) (s : State), s.serving = true → s.asnValid = true → s.msh.campaigns = [x] → x.running = true → x.clusters = [k] → k.gap = some g → k.ended = false → g + s.sfLen ≤ s.asn → s.clusterDone x k.cluster = false → k.round < x.maxRounds → ∃ t, exec .updateRoundEnd s = .next t ∧ t.msh.campaigns = [{ x with clusters := [{ k with round := k.round + 1, left := s.roundSize x k.cluster, hdr := 2, gap := none }] }]) ∧
  (∀ (x : Campaign) (k : CampCluster) (g : Nat) (s : State), s.serving = true → s.asnValid = true → s.msh.campaigns = [x] → x.running = true → x.clusters = [k] → k.gap = some g → k.ended = false → g + s.sfLen ≤ s.asn → x.maxRounds ≤ k.round → ∃ t, exec .updateRoundEnd s = .next t ∧ t.msh.campaigns = [{ x with clusters := [{ k with ended := true }], running := false }]) ∧
  (∀ (x : MeshItem) (m : List Byte) (p : Nat) (n : Node) (u : State) (s : State), s.serving = true → s.takeItem (MeshUp.isMessage 0xF0B3 0x11) = some (u, x) → x.body = .message p m → u.node? x.node = some n → ∃ t, exec .updateStatus s = .next t ∧ t.node? x.node = some { n with updState := leAt m 6 1, updCampaign := leAt m 4 2, updMissing := leAt m 8 4 })

/-- A frame on an enabled port with its link up is refused and counted when no cells are admitted; else it is stored, counted and looked
up, and placed when it passes its own checks, ended when it does not. FRAME_SEND checks its port, the FCS it is given and the link
of its port, stores a host frame when there are cells, and places it. An idle port takes the chosen class. The last byte of a copy
ends it: at an Ethernet port it leaves marked sound or stomped, with its timestamp where one is asked for; at HOST it is delivered;
inside it is given to its block where it is sound; its copy is released. A frame read as it was stored, verified and not damaged, is
sound. A pass of the prefix match either goes on with the lengths left, or the packet is placed and a waiting descriptor ends. A
standing XOFF is repeated after XOFF_REFRESH; a received pause that the port honours stops the classes given till its quanta end,
and expires then. Stranded cells are recovered. (R313, R315, R316, R317, R318, R322, R324, R329, R345, R349, R350, R351.) -/
def Obligations.EthernetIntakeAndEgress : Prop :=
  (∀ (i : EthIn) (s : State), s.serving = true → i.port < 24 → s.matePort ≠ some i.port → s.flag (PRT_CFG_ENABLE i.port) = true → s.linkOf i.port = true → (s.setFill i.port i.fill).storeRx i = none → exec (.ethFrameRx i) s = .next (((s.setFill i.port i.fill).admitDrop i.port).weighPause i.port)) ∧
  (∀ (i : EthIn) (id : Nat) (f : Frame) (v : Verdict) (k : Option Nat) (u : State) (w : State) (x : State) (y : State) (s : State), s.serving = true → i.port < 24 → s.matePort ≠ some i.port → s.flag (PRT_CFG_ENABLE i.port) = true → s.linkOf i.port = true → (s.setFill i.port i.fill).storeRx i = some (u, id) → w = ((u.count (PRT_RX_FRAMES i.port) 1).modFrame id fun f => { f with stamps := (u.count (PRT_RX_FRAMES i.port) 1).stampsOf i }).parityFails i.parity → w.frame? id = some f → w.lookup f = (x, v) → x.intakeFault i (!((s.setFill i.port i.fill).storeFrame i.port ((s.setFill i.port i.fill).classOf i.port i.bytes) (i.bytes.take ((s.setFill i.port i.fill).get (PRT_CFG_MAX_FRAME i.port) - 4)) false ((tagOf i.bytes).map fun x => x.1)).isSome) = (y, k) → exec (.ethFrameRx i) s = .next ((match k with | none => y.rxGood i id f v | some c => y.rxBad i id c f v).weighPause i.port)) ∧
  (∀ (p : Nat) (s : State), s.serving = true → tgetD s.net.xoffSn p 0 + s.get CIS_CFG_XOFF_REFRESH ≤ s.now → let u := if s.get (CIS_PFC_STAT_XOFF p) = 0 then s else s.sendXoff p (s.get (CIS_PFC_STAT_XOFF p)); exec (.pauseRefresh p) s = .next (if u.flag (CIS_PFC_STAT_PAUSE p) then u.sendXoff p 0xFF else u)) ∧
  (∀ (p : Nat) (s : State), s.now < tgetD s.net.xoffSn p 0 + s.get CIS_CFG_XOFF_REFRESH → exec (.pauseRefresh p) s = .next s) ∧
  (∀ (p : Nat) (k : Nat) (qs : List Nat) (a : Nat) (s : State), s.serving = true → (p < 24 ∨ p = 43) → s.honours p false = true → exec (.pauseRx p false k qs a) s = .next (s.setPaused p 8 (s.pauseEnd p (s.clockNs a) (qs.getD 0 0))) ∧ (s.setPaused p 8 (s.pauseEnd p (s.clockNs a) (qs.getD 0 0))).get (CIS_PFC_STAT_PAUSED_ALL p) = (if qs.getD 0 0 = 0 then 0 else 1)) ∧
  (∀ (p : Nat) (k : Nat) (qs : List Nat) (a : Nat) (s : State), s.serving = true → (p < 24 ∨ p = 43) → s.honours p true = true → exec (.pauseRx p true k qs a) s = .next ((List.range 8).foldl (fun u c => if bit k c then u.setPaused p c (s.pauseEnd p (s.clockNs a) (qs.getD c 0)) else u) s)) ∧
  (∀ (p : Nat) (c : Nat) (a : Nat) (s : State), s.serving = true → (s.net.paused.any fun x => x.1 == 16 * p + c && decide (x.2 ≤ s.clockNs a)) = true → exec (.pauseExpiry p c a) s = .next (s.setPaused p c none) ∧ (s.setPaused p c none).net.paused = s.net.paused.filter fun x => x.1 != 16 * p + c) ∧
  (∀ (p : Nat) (a : Nat) (c : Nat) (g : List Nat) (k : Nat) (s : State), s.serving = true → (s.eg p).busy = none → s.linkOf p = true → s.matePort ≠ some p → s.choose p (s.portNow p a) = some (c, g, k) → exec (.egressSelect p a) s = .next ((s.setEg p { s.eg p with deficit := g, turn := k }).startFrame p c a)) ∧
  (∀ (p : Nat) (a : Nat) (rd : Option (List Byte)) (er : Option CellErr) (e : QEntry) (f : Frame) (w : State) (s : State), s.serving = true → (p < 24 ∨ p = 43) → (s.eg p).busy = some e → w = s.setEg p { s.eg p with busy := none } → w.frame? e.frame = some f → let c := (w.readCopy p f rd er).2; let v := (w.readCopy p f rd er).1.emit (.eth p e.bytes c.isNone); let ts := v.stampAt p true e.start; let x := if e.ptp.isSome && c.isNone then v.ptpSent p e.bytes ts else v; exec (.egressFrameEnd p a rd er) s = .next (((x.endDesc e.desc (if c = some 3 then stMEM_UNCORR else stOK) (if e.tsReq then ts % 1000000000 + 2 ^ 32 * lo32 (ts / 1000000000) else 0)).endCopy e.frame).weighPause f.ingress)) ∧
  (∀ (p : Nat) (f : Frame) (s : State), s.frame? f.id = some f → f.bad = none → f.verified = true → crc32c f.bytes = f.check → s.readCopy p f none none = (s, none)) ∧
  (∀ (id : Nat) (a : Nat) (rd : Option (List Byte)) (er : Option CellErr) (why : Nat) (b : List Byte) (r : List (Nat × Nat × List Byte)) (f : Frame) (w : State) (s : State), s.serving = true → s.net.hostq = (id, why, b) :: r → w = s.setNet { s.net with hostq := r } → w.frame? id = some f → let c := w.readCopy 40 f rd er; exec (.egressFrameEnd 40 a rd er) s = .next (((c.1.hostFrame f why b c.2).endCopy id).weighPause f.ingress)) ∧
  (∀ (p : Nat) (a : Nat) (rd : Option (List Byte)) (er : Option CellErr) (x : Inner) (f : Frame) (w : State) (s : State), s.serving = true → 24 ≤ p → p ≠ 40 → p ≠ 43 → (s.net.inner.find? fun x => x.port == p) = some x → w = s.setNet { s.net with inner := s.net.inner.erase x } → w.frame? x.frame = some f → let c := w.readCopy p f rd er; exec (.egressFrameEnd p a rd er) s = .next (((if c.2.isNone then c.1.giveInner f a x.use else c.1).endCopy f.id).weighPause f.ingress)) ∧
  (∀ (s : State), s.serving = true → s.net.stranded ≠ [] → ∃ t, exec .cisternAudit s = .next t ∧ t.net.stranded = [] ∧ t.num CIS_LEAK_RECOVERED = (s.num CIS_LEAK_RECOVERED + s.net.stranded.length) % 2 ^ 32 ∧ t.net.frames = s.net.frames) ∧
  (∀ (l : List (Nat × Nat)) (x : Recirc) (r : List Recirc) (f : Frame) (v : Verdict) (a : Nat) (u : State) (w : State) (s : State), s.serving = true → s.net.recirc = x :: r → u = (s.setNet { s.net with recirc := r }).parityFails l → u.frame? x.frame = some f → u.lpmPass f f.packet x.cand (x.pass + 1) = (w, v) → let y := w.place x.frame a x.launch x.desc x.desc.isSome v; exec (.lpmRecirculate l a) s = .next (match v with | .again c => w.setNet { w.net with recirc := w.net.recirc ++ [{ x with cand := c, pass := x.pass + 1 }] } | .copies (_ :: _) _ => y | .notAuthority => y.endDesc x.desc stNOT_AUTHORITY 0 | _ => y.endDesc x.desc stOK 0)) ∧
  (∀ (d : Desc) (s : State), Runs s d → (d.op 32 1 == 1 && !s.fabricOk (d.op 33 1)) = true → exec (.frameSend d) s = .next (s.finish d (s.badPort d))) ∧
  (∀ (d : Desc) (s : State), Runs s d → (d.op 32 1 == 1 && !s.fabricOk (d.op 33 1)) = false → bit (d.op 37 1) 0 = true → crc32c (slice d.buf 0 d.bufLen) ≠ d.op 40 4 → exec (.frameSend d) s = .next (s.finish d (s.fail 0x10))) ∧
  (∀ (d : Desc) (s : State), Runs s d → (bit (d.op 37 1) 0 && crc32c (slice d.buf 0 d.bufLen) != d.op 40 4) = false → d.op 32 1 = 1 → s.fabricOk (d.op 33 1) = true → (if d.op 33 1 < 24 then !s.linkOf (d.op 33 1) else d.op 33 1 != 40) = true → exec (.frameSend d) s = .next (s.finish d (s.fail 0x11))) ∧
  (∀ (d : Desc) (s : State), Runs s d → (bit (d.op 37 1) 0 && crc32c (slice d.buf 0 d.bufLen) != d.op 40 4) = false → (d.op 32 1 ≠ 1 ∨ s.fabricOk (d.op 33 1) = true ∧ (d.op 33 1 = 40 ∨ d.op 33 1 < 24 ∧ s.linkOf (d.op 33 1) = true)) → s.storeFrame 40 (d.op 36 1) (slice d.buf 0 d.bufLen) true none = none → exec (.frameSend d) s = .next (s.finish d s.later)) ∧
  (∀ (d : Desc) (id : Nat) (f : Frame) (u : State) (w : State) (s : State), Runs s d → (bit (d.op 37 1) 0 && crc32c (slice d.buf 0 d.bufLen) != d.op 40 4) = false → d.op 32 1 = 1 → s.fabricOk (d.op 33 1) = true → (d.op 33 1 = 40 ∨ d.op 33 1 < 24 ∧ s.linkOf (d.op 33 1) = true) → s.storeFrame 40 (d.op 36 1) (slice d.buf 0 d.bufLen) true none = some (u, id) → w = (u.modFrame id fun f => { f with vlan := d.op 34 2 }) → w.frame? id = some f → exec (.frameSend d) s = .next (s.finish d (w.sendPlaced d id (if d.op 33 1 = 40 then .copies [] (some (1, slice d.buf 0 d.bufLen)) else .copies [(d.op 33 1, slice d.buf 0 d.bufLen)] none)))) ∧
  (∀ (d : Desc) (id : Nat) (f : Frame) (x : State) (v : Verdict) (u : State) (w : State) (s : State), Runs s d → (bit (d.op 37 1) 0 && crc32c (slice d.buf 0 d.bufLen) != d.op 40 4) = false → d.op 32 1 ≠ 1 → s.storeFrame 40 (d.op 36 1) (slice d.buf 0 d.bufLen) true none = some (u, id) → w = (u.modFrame id fun f => { f with vlan := d.op 34 2 }) → w.frame? id = some f → w.lookup f = (x, v) → exec (.frameSend d) s = .next (s.finish d (x.sendPlaced d id v)))

/-- An enabled port whose link comes up shows it and records it with its speed, a link lost likewise. A write to PRT_FLOAT_HIT clears
the bits written as 1. A write of PRT_MDIO_CMD while GO is clear sets its fields and GO; while GO is set it changes nothing. At the
end of the MDIO frame GO clears and a read shows its data. (R319, R332, R333.) -/
def Obligations.PortsAndMdio : Prop :=
  (∀ (p : Nat) (s : State), s.serving = true → p < 24 → s.flag (PRT_CFG_ENABLE p) = true → bit (s.get PRT_LINK_UP) p = false → ∃ t, exec (.linkUp p) s = .next t ∧ t.get PRT_LINK_UP = setBit (s.get PRT_LINK_UP) p % 2 ^ PRT_LINK_UP.width ∧ t = (s.put PRT_LINK_UP (setBit (s.get PRT_LINK_UP) p)).record EV_LINK_UP 0 p (s.get (PRT_CFG_SPEED p)) 0) ∧
  (∀ (p : Nat) (s : State), s.serving = true → p < 24 → bit (s.get PRT_LINK_UP) p = true → ∃ t, exec (.linkDown p) s = .next t ∧ bit (t.get PRT_LINK_UP) p = false ∧ t = (s.put PRT_LINK_UP (clearBit (s.get PRT_LINK_UP) p)).record EV_LINK_DOWN 0 p 0 0) ∧
  (∀ (v : Word) (s : State), s.mainLive = true → (∃ t, exec (.floatHitClear true v) s = .next t ∧ t.rd PRT_FLOAT_HIT_HI = s.rd PRT_FLOAT_HIT_HI &&& ~~~v ∧ t.rd PRT_FLOAT_HIT_LO = s.rd PRT_FLOAT_HIT_LO) ∧ ∃ t, exec (.floatHitClear false v) s = .next t ∧ t.rd PRT_FLOAT_HIT_LO = s.rd PRT_FLOAT_HIT_LO &&& ~~~v ∧ t.rd PRT_FLOAT_HIT_HI = s.rd PRT_FLOAT_HIT_HI) ∧
  (∀ (v : Word) (s : State), s.mainLive = true → s.flag PRT_MDIO_CMD_GO = false → bitsOf v 12 2 = 0 → exec (.mdioAddress v) s = .next (s.setNum PRT_MDIO_CMD (bitsOf v 0 14 + 2 ^ 15 * bitsOf v 15 1))) ∧
  (∀ (v : Word) (s : State), s.mainLive = true → s.flag PRT_MDIO_CMD_GO = false → bitsOf v 12 2 = 1 → exec (.mdioWrite v) s = .next (s.setNum PRT_MDIO_CMD (bitsOf v 0 14 + 2 ^ 15 * bitsOf v 15 1))) ∧
  (∀ (v : Word) (s : State), s.mainLive = true → s.flag PRT_MDIO_CMD_GO = false → bitsOf v 12 2 = 2 → exec (.mdioReadInc v) s = .next (s.setNum PRT_MDIO_CMD (bitsOf v 0 14 + 2 ^ 15 * bitsOf v 15 1))) ∧
  (∀ (v : Word) (s : State), s.mainLive = true → s.flag PRT_MDIO_CMD_GO = false → bitsOf v 12 2 = 3 → exec (.mdioRead v) s = .next (s.setNum PRT_MDIO_CMD (bitsOf v 0 14 + 2 ^ 15 * bitsOf v 15 1))) ∧
  (∀ (v : Word) (s : State), s.mainLive = true → s.flag PRT_MDIO_CMD_GO = true → exec (.mdioAddress v) s = .next s ∧ exec (.mdioWrite v) s = .next s ∧ exec (.mdioReadInc v) s = .next s ∧ exec (.mdioRead v) s = .next s) ∧
  (∀ (b : Nat) (s : State), s.serving = true → s.flag PRT_MDIO_CMD_GO = true → ∃ t, exec (.mdioDone b) s = .next t ∧ t.flag PRT_MDIO_CMD_GO = false ∧ t.get PRT_MDIO_DATA_V = if 2 ≤ s.get PRT_MDIO_CMD_OP then b % 2 ^ PRT_MDIO_DATA_V.width else s.get PRT_MDIO_DATA_V)

/-- The oldest learn event is learned: it refreshes a known address on its port and enters a new one where a slot is free; a static one
that moves is refused and counted. A hold ends at its time; a sweep drops the entries whose parity fails, removes the learned
entries that have aged, and counts them. A command that names a port it may not ends BAD_DESC. FWD_MAC_ADD replaces or places an
entry, or ends NO_RESOURCE; DEL removes one or ends ABSENT_ENTRY, FLUSH removes what its mode names and answers how many, READ
answers records in slot order and the next slot. VLAN entries are set and removed; routes are added, replaced with REPLACE and else
CONFLICT, or end NO_RESOURCE, and are removed or end ABSENT_ENTRY. A gate list is loaded for now or for its change time, a past one
taken at its next cycle; the parity log is read and cleared. (R337, R338, R339, R340, R343, R344, R352, R353.) -/
def Obligations.ForwardingTables : Prop :=
  (∀ (key : List Byte) (p : Nat) (r : List (List Byte × Nat)) (s : State), s.serving = true → s.net.learnq = (key, p) :: r → exec .learnEvent s = .next ((s.setNet { s.net with learnq := r }).learn key p)) ∧
  (∀ (key : List Byte) (p : Nat) (i : Nat) (e : L2) (r : List (List Byte × Nat)) (s : State), s.serving = true → s.net.learnq = (key, p) :: r → s.findMac key = some i → tget s.net.l2 i = some e → e.port = p → ∃ t, exec .learnEvent s = .next t ∧ t.net.learnq = r ∧ t.net.l2 = tput s.net.l2 i { e with ts := s.fwdNow }) ∧
  (∀ (key : List Byte) (p : Nat) (i : Nat) (e : L2) (r : List (List Byte × Nat)) (s : State), s.serving = true → s.net.learnq = (key, p) :: r → s.findMac key = some i → tget s.net.l2 i = some e → e.port ≠ p → e.held = false → e.static = true → ∃ t, exec .learnEvent s = .next t ∧ t.net.l2 = s.net.l2 ∧ t.num FWD_MOVE_DENIED = (s.num FWD_MOVE_DENIED + 1) % 2 ^ 32) ∧
  (∀ (key : List Byte) (p : Nat) (t2 : Tab L2) (r : List (List Byte × Nat)) (s : State), s.serving = true → s.net.learnq = (key, p) :: r → s.findMac key = none → cuckoo l2Slots L2.key s.net.l2 { key := key, port := p, static := false, ts := s.fwdNow } = some t2 → ∃ t, exec .learnEvent s = .next t ∧ t.net.learnq = r ∧ t.net.l2 = t2) ∧
  (∀ (s : State), s.serving = true → ∃ t, exec .heldExpiry s = .next t ∧ t.net.l2.map (·.1) = s.net.l2.map (·.1) ∧ ∀ x ∈ t.net.l2, x.2.held = true → 32768 ≤ (s.fwdNow + 65536 - x.2.heldUntil) % 65536) ∧
  (∀ (l : List Nat) (u : State) (s : State), s.serving = true → u = (l.filter fun i => (tget s.net.l2 i).isSome).foldl (fun s i => s.parityFail 1 i) s → let old : L2 → Bool := fun e => u.get FWD_CFG_AGE_S != 0 && !e.static && decide (u.get FWD_CFG_AGE_S ≤ (u.fwdNow + 65536 - e.ts) % 65536); exec (.agingSweep l) s = .next ((u.setL2 (u.net.l2.filter fun x => !old x.2)).count FWD_AGED (u.net.l2.filter fun x => old x.2).length)) ∧
  (∀ (s : State), s.serving = true → s.get FWD_CFG_AGE_S ≠ 0 → ∃ t, exec (.agingSweep []) s = .next t ∧ (∀ x ∈ t.net.l2, x ∈ s.net.l2 ∧ (x.2.static = true ∨ (s.fwdNow + 65536 - x.2.ts) % 65536 < s.get FWD_CFG_AGE_S)) ∧ t.num FWD_AGED = (s.num FWD_AGED + (s.net.l2.length - t.net.l2.length)) % 2 ^ 32) ∧
  (∀ (d : Desc) (s : State), Runs s d → s.fabricOk (d.op 40 1) = false → exec (.fwdMacAdd d) s = .next (s.finish d (s.badPort d))) ∧
  (∀ (d : Desc) (s : State), Runs s d → s.fabricOk (d.op 40 1) = true → s.findMac (macKey (d.op 38 2) (slice d.ops 0 6)) = none → exec (.fwdMacAdd d) s = .next (s.finish d (match cuckoo l2Slots L2.key s.net.l2 { key := macKey (d.op 38 2) (slice d.ops 0 6), port := d.op 40 1, static := bit (d.op 41 1) 0, ts := s.fwdNow } with | some t => (s.setL2 t).ok | none => s.fail stNO_RESOURCE))) ∧
  (∀ (d : Desc) (i : Nat) (s : State), Runs s d → s.fabricOk (d.op 40 1) = true → s.findMac (macKey (d.op 38 2) (slice d.ops 0 6)) = some i → ∃ u : State, exec (.fwdMacAdd d) s = .next (s.finish d u.ok) ∧ u.net.l2 = tput s.net.l2 i { key := macKey (d.op 38 2) (slice d.ops 0 6), port := d.op 40 1, static := bit (d.op 41 1) 0, ts := s.fwdNow }) ∧
  (∀ (d : Desc) (t2 : Tab L2) (s : State), Runs s d → s.fabricOk (d.op 40 1) = true → s.findMac (macKey (d.op 38 2) (slice d.ops 0 6)) = none → cuckoo l2Slots L2.key s.net.l2 { key := macKey (d.op 38 2) (slice d.ops 0 6), port := d.op 40 1, static := bit (d.op 41 1) 0, ts := s.fwdNow } = some t2 → exec (.fwdMacAdd d) s = .next (s.finish d (s.setL2 t2).ok)) ∧
  (∀ (d : Desc) (i : Nat) (s : State), Runs s d → s.findMac (macKey (d.op 38 2) (slice d.ops 0 6)) = some i → ∃ u : State, exec (.fwdMacDel d) s = .next (s.finish d u.ok) ∧ u.net.l2 = tdel s.net.l2 i) ∧
  (∀ (d : Desc) (s : State), Runs s d → s.findMac (macKey (d.op 38 2) (slice d.ops 0 6)) = none → exec (.fwdMacDel d) s = .next (s.finish d (s.fail 0x13))) ∧
  (∀ (d : Desc) (s : State), Runs s d → d.op 32 1 = 0 → ∃ u : State, exec (.fwdMacFlush d) s = .next (s.finish d (u.ok (s.net.l2.length - u.net.l2.length))) ∧ u.net.l2 = s.net.l2.filter fun x => x.2.static) ∧
  (∀ (d : Desc) (s : State), Runs s d → d.op 32 1 = 1 → s.fabricOk (d.op 33 1) = true → ∃ u : State, exec (.fwdMacFlush d) s = .next (s.finish d (u.ok (s.net.l2.length - u.net.l2.length))) ∧ u.net.l2 = s.net.l2.filter fun x => x.2.static || x.2.port != d.op 33 1) ∧
  (∀ (d : Desc) (s : State), Runs s d → 2 ≤ d.op 32 1 → let hit : L2 → Bool := fun e => if d.op 32 1 = 2 then !e.static && leAt e.key 0 2 == d.op 34 2 else true; exec (.fwdMacFlush d) s = .next (s.finish d ((s.setL2 (s.net.l2.filter fun x => !hit x.2)).ok (s.net.l2.filter fun x => hit x.2).length))) ∧
  (∀ (d : Desc) (s : State), Runs s d → d.op 32 1 = 1 → s.fabricOk (d.op 33 1) = false → exec (.fwdMacFlush d) s = .next (s.finish d (s.badPort d))) ∧
  (∀ (d : Desc) (s : State), Runs s d → let l := s.net.l2.filter fun x => decide (d.op 32 4 ≤ x.1); exec (.fwdMacRead d) s = .next (s.finish d { st := s, result := (((l.drop (d.bufLen / 16)).head?).map (·.1)).getD 0xFFFFFFFF, bytes := (l.take (d.bufLen / 16)).flatMap fun x => x.2.bytes x.1 })) ∧
  (∀ (d : Desc) (s : State), Runs s d → (match s.matePort with | some q => bit (d.op 36 4) q || bit (d.op 40 4) q | none => false) = true → exec (.fwdVlanSet d) s = .next (s.finish d (s.badPort d))) ∧
  (∀ (d : Desc) (s : State), Runs s d → (match s.matePort with | some q => bit (d.op 36 4) q || bit (d.op 40 4) q | none => false) = false → bit (d.op 34 1) 0 = true → ∃ u : State, exec (.fwdVlanSet d) s = .next (s.finish d u.ok) ∧ u.net.vlans = tput s.net.vlans (d.op 32 2) { learn := bit (d.op 34 1) 1, members := d.op 36 4 % 2 ^ 24 + 2 ^ 24 * (d.op 44 1 % 2), untagged := d.op 40 4 % 2 ^ 24 + 2 ^ 24 * (d.op 44 1 / 2 % 2) }) ∧
  (∀ (d : Desc) (s : State), Runs s d → (match s.matePort with | some q => bit (d.op 36 4) q || bit (d.op 40 4) q | none => false) = false → bit (d.op 34 1) 0 = false → ∃ u : State, exec (.fwdVlanSet d) s = .next (s.finish d u.ok) ∧ u.net.vlans = tdel s.net.vlans (d.op 32 2)) ∧
  (∀ (d : Desc) (t2 : Tab Route) (s : State), Runs s d → (d.op 49 1 ≠ 2 ∨ s.fabricOk (d.op 50 1) = true) → s.findRoute (routeKey (d.op 48 1) (slice d.ops 0 16)) = none → cuckoo routeSlots Route.key s.net.routes { key := routeKey (d.op 48 1) (slice d.ops 0 16), kind := d.op 49 1, port := d.op 50 1, vlan := d.op 52 2, nhMac := slice d.ops 22 6 } = some t2 → ∃ u : State, exec (.fwdRouteAdd d) s = .next (s.finish d u.ok) ∧ u.net.routes = t2 ∧ u.net.filter = countFilter s.net.filter (d.op 48 1) (routeKey (d.op 48 1) (slice d.ops 0 16)) true) ∧
  (∀ (d : Desc) (s : State), Runs s d → d.op 49 1 = 2 → s.fabricOk (d.op 50 1) = false → exec (.fwdRouteAdd d) s = .next (s.finish d (s.badPort d))) ∧
  (∀ (d : Desc) (s : State), Runs s d → (d.op 49 1 ≠ 2 ∨ s.fabricOk (d.op 50 1) = true) → s.findRoute (routeKey (d.op 48 1) (slice d.ops 0 16)) = none → exec (.fwdRouteAdd d) s = .next (s.finish d (match cuckoo routeSlots Route.key s.net.routes { key := routeKey (d.op 48 1) (slice d.ops 0 16), kind := d.op 49 1, port := d.op 50 1, vlan := d.op 52 2, nhMac := slice d.ops 22 6 } with | some t => (s.setNet { s.net with routes := t, filter := countFilter s.net.filter (d.op 48 1) (routeKey (d.op 48 1) (slice d.ops 0 16)) true }).showTables.ok | none => s.fail stNO_RESOURCE))) ∧
  (∀ (d : Desc) (s : State), Runs s d → s.findRoute (routeKey (d.op 48 1) (slice d.ops 0 16)) = none → exec (.fwdRouteDel d) s = .next (s.finish d (s.fail 0x13))) ∧
  (∀ (d : Desc) (i : Nat) (s : State), Runs s d → s.findRoute (routeKey (d.op 48 1) (slice d.ops 0 16)) = some i → ∃ u : State, exec (.fwdRouteDel d) s = .next (s.finish d u.ok) ∧ u.net.routes = tdel s.net.routes i ∧ u.net.filter = countFilter s.net.filter (d.op 48 1) (routeKey (d.op 48 1) (slice d.ops 0 16)) false) ∧
  (∀ (d : Desc) (i : Nat) (s : State), Runs s d → (d.op 49 1 ≠ 2 ∨ s.fabricOk (d.op 50 1) = true) → s.findRoute (routeKey (d.op 48 1) (slice d.ops 0 16)) = some i → exec (.fwdRouteAdd d) s = .next (s.finish d (if bit (d.op 51 1) 0 then (s.setNet { s.net with routes := tput s.net.routes i { key := routeKey (d.op 48 1) (slice d.ops 0 16), kind := d.op 49 1, port := d.op 50 1, vlan := d.op 52 2, nhMac := slice d.ops 22 6 } }).ok else s.fail stCONFLICT))) ∧
  (∀ (d : Desc) (s : State), Runs s d → s.fabricOk (d.op 32 1) = true → bit (d.op 33 1) 0 = false → ∃ u : State, exec (.fwdGateLoad d) s = .next (s.finish d u.ok) ∧ (u.gatesOf (d.op 32 1)).oper = some (gateListOf d.buf) ∧ (u.gatesOf (d.op 32 1)).broken = false ∧ (u.gatesOf (d.op 32 1)).admin = (s.gatesOf (d.op 32 1)).admin) ∧
  (∀ (d : Desc) (n : Nat) (s : State), Runs s d → s.fabricOk (d.op 32 1) = true → bit (d.op 33 1) 0 = true → leAt d.buf 16 8 * 1000000000 + leAt d.buf 24 4 = n → ∃ u : State, exec (.fwdGateLoad d) s = .next (s.finish d u.ok) ∧ (u.gatesOf (d.op 32 1)).admin = some (gateListOf d.buf, if n < s.portNow (d.op 32 1) 0 then (gateListOf d.buf).startFrom (s.portNow (d.op 32 1) 0) else n) ∧ (u.gatesOf (d.op 32 1)).oper = (s.gatesOf (d.op 32 1)).oper) ∧
  (∀ (d : Desc) (s : State), Runs s d → s.fabricOk (d.op 32 1) = false → exec (.fwdGateLoad d) s = .next (s.finish d (s.badPort d))) ∧
  (∀ (d : Desc) (s : State), Runs s d → d.bufLen < 512 → exec (.fwdParityRead d) s = .next (s.finish d { st := s, status := some stNO_RESOURCE, len := some 512 })) ∧
  (∀ (d : Desc) (s : State), Runs s d → 512 ≤ d.bufLen → exec (.fwdParityRead d) s = .next (s.finish d { st := s.setNet { s.net with parity := [] }, result := s.net.parity.length, bytes := s.net.parity.flatMap fun x => leBytes 4 x.1 ++ leBytes 4 x.2 }))

/-- A mate frame that is not admitted does nothing more than its admission, and one whose MIC fails is only noted. A LOG frame enters
the log of its stroke at a unit that stores it and has not executed that stroke, once per FRAG, and the log is acknowledged when it
is complete. A LOG_END at a unit without authority compares the time bases where the timestamps of an exchange are held, keeps its
own, takes over the handover it announces and its final mark, and closes the log of its stroke, whose missing frames it asks for
once. A stroke without its LOG_END is a log miss, one that lacks LOG frames ends STANDBY at the next edge, and a complete one or a
unit that is not STANDBY leaves no mark. At the primary an ACK is noted and compared, ends the misses, makes a clean primed mate
STANDBY and announces the handover it asks for, a NAK resends the frames it names, and a forwarded descriptor enters as one of the
own ring, a host stop acting at once; at another unit they do nothing more. A RESULT completes the forwarded descriptor of its
number; with none of that number it does nothing more. (R357, R360, R361, R362, R364, R378.) -/
def Obligations.LogsAndAcknowledgements : Prop :=
  (∀ (h : MateHdr) (e : List LogEntry) (l : LogEnd) (a : MateAck) (f : List Nat) (i : Nat) (d : Desc) (r : MateResult) (p : List Byte) (b : Bool) (o : Option Snapshot) (ns : Nat) (u : State) (s : State), s.admitMate = (u, false) → ∀ x ∈ [Instr.logRx h e ns, .logEndRx h l ns, .ackRx h a ns, .nakRx h f, .forwardRx h i d ns, .resultRx h r, .primeReqRx h p, .snapshotRx h b o], exec x s = .next u) ∧
  (∀ (h : MateHdr) (e : List LogEntry) (l : LogEnd) (a : MateAck) (f : List Nat) (i : Nat) (d : Desc) (r : MateResult) (p : List Byte) (b : Bool) (o : Option Snapshot) (ns : Nat) (u : State) (s : State), s.admitMate = (u, true) → s.micGood h.mic = false → ∀ x ∈ [Instr.logRx h e ns, .logEndRx h l ns, .ackRx h a ns, .nakRx h f, .forwardRx h i d ns, .resultRx h r, .primeReqRx h p, .snapshotRx h b o], exec x s = .next (u.noteMic false)) ∧
  (∀ (h : MateHdr) (e : List LogEntry) (ns : Nat) (u : State) (s : State), s.takeFrame h true ns = (u, true) → exec (.logRx h e ns) s = .next (if u.storesLog ∧ ¬ (h.sn ≤ u.pai.done ∧ u.pai.loaded) then (u.modLog h.sn fun l => if l.frags.any (fun f => f.1 == h.frag) then l else { l with frags := l.frags ++ [(h.frag, e)] }).tryAck h.sn ns else u)) ∧
  (∀ (h : MateHdr) (e : List LogEntry) (ns : Nat) (u : State) (s : State), s.takeFrame h true ns = (u, true) → s.role = .standby → s.pai.done < h.sn → s.log? h.sn = none → ∃ t, exec (.logRx h e ns) s = .next t ∧ t.log? h.sn = some { sn := h.sn, frags := [(h.frag, e)] } ∧ t.pai.done = s.pai.done) ∧
  (∀ (h : MateHdr) (e : LogEnd) (ns : Nat) (u : State) (s : State), s.takeFrame h true ns = (u, true) → let v := match u.pai.lastEnd, u.pai.ackSent with | some (sent, rcvd), some ack => (u.pairCompare (-(pairOffset sent rcvd ack e.gotAt))).tb0Offer 3 (-(pairOffset sent rcvd ack e.gotAt)) | _, _ => u; let w := v.setPai { v.pai with lastEnd := some (e.sentAt, v.mateStamp false ns), ackSent := none }; let x := match e.handover with | some n => (w.setPai { w.pai with hand := some n, handReq := false }).put PAI_STATUS_HANDOVER 1 | none => w; let y := if e.final && x.pai.hand = some h.sn then x.setPai { x.pai with handFinal := true } else x; let z := (y.modLog h.sn fun l => { l with fin := some e, frames := h.frag }).tryAck h.sn ns; exec (.logEndRx h e ns) s = .next (if u.authority then u else if !y.storesLog || decide (h.sn ≤ y.pai.done && y.pai.loaded) then y else match z.log? h.sn with | some l => if !l.missing.isEmpty && l.naked != some z.sn then (z.modLog h.sn fun l => { l with naked := some z.sn }).sendMate 0 h.sn (.nak l.missing) else z | none => z)) ∧
  (∀ (h : MateHdr) (e : LogEnd) (ns : Nat) (u : State) (s : State), s.takeFrame h true ns = (u, true) → s.role = .standby → s.pai.done < h.sn → s.pai.lastEnd = none → s.log? h.sn = none → h.frag = 1 → ∃ t, exec (.logEndRx h e ns) s = .next t ∧ t.log? h.sn = some { sn := h.sn, fin := some e, frames := 1, naked := some s.sn } ∧ t.pai.lastEnd = some (e.sentAt, u.mateStamp false ns)) ∧
  (∀ (s : State), s.serving = true → (s.role ≠ .standby ∨ s.sn - 1 ≤ s.pai.done) → exec .logMiss s = .next s) ∧
  (∀ (x : StrokeLog) (s : State), s.serving = true → s.log? (s.sn - 1) = some x → x.complete = true → exec .logMiss s = .next s) ∧
  (∀ (s : State), s.serving = true → s.role = .standby → s.pai.done < s.sn - 1 → (∀ x, s.log? (s.sn - 1) = some x → x.fin = none) → ∃ t, exec .logMiss s = .next t ∧ t.pai.logMiss = s.pai.logMiss + 1 ∧ t.pai.leaveNext = s.pai.leaveNext ∧ t.num PAI_HB_MISS = (s.num PAI_HB_MISS + 1) % 2 ^ 32) ∧
  (∀ (x : StrokeLog) (e : LogEnd) (s : State), s.serving = true → s.role = .standby → s.pai.done < s.sn - 1 → s.log? (s.sn - 1) = some x → x.fin = some e → x.missing ≠ [] → exec .logMiss s = .next (s.setPai { s.pai with leaveNext := true })) ∧
  (∀ (h : MateHdr) (a : MateAck) (ns : Nat) (u : State) (s : State), s.takeFrame h false ns = (u, true) → s.role = .primary → let rx := u.mateStamp false ns; let v := match u.pai.endSent with | some (m, tx) => if m = h.sn then u.pairCompare (pairOffset tx a.gotAt a.sentAt rx) else u | none => u; let stand : Option Nat := if a.clean && (v.get PAI_STATUS_SOLO == 0 || match v.pai.snapGiven with | some p => decide (v.pai.soloSn ≤ p) | none => false) then some (v.pai.mateStandby.getD v.sn) else none; let w := v.setPai { v.pai with acked := v.pai.acked ++ [h.sn], ackMiss := 0, ackAt := rx, mateStandby := stand }; exec (.ackRx h a ns) s = .next (if a.request && w.pai.hand.isNone && stand.isSome then w.announce h.sn else w)) ∧
  (∀ (h : MateHdr) (a : MateAck) (ns : Nat) (u : State) (s : State), s.takeFrame h false ns = (u, true) → s.role = .primary → ∃ t, exec (.ackRx h a ns) s = .next t ∧ t.pai.acked = s.pai.acked ++ [h.sn] ∧ t.pai.ackMiss = 0 ∧ (a.clean = false → t.pai.mateStandby = none ∧ t.pai.hand = s.pai.hand) ∧ (a.request = false → t.pai.hand = s.pai.hand)) ∧
  (∀ (h : MateHdr) (a : MateAck) (f : List Nat) (i : Nat) (d : Desc) (ns : Nat) (u : State) (v : State) (s : State), s.takeFrame h false ns = (u, true) → s.takeFrame h false 0 = (v, true) → s.role ≠ .primary → exec (.ackRx h a ns) s = .next u ∧ exec (.nakRx h f) s = .next v ∧ exec (.forwardRx h i d ns) s = .next u) ∧
  (∀ (h : MateHdr) (f : List Nat) (u : State) (s : State), s.takeFrame h false 0 = (u, true) → s.role = .primary → exec (.nakRx h f) s = .next ((s.pai.sent.filter fun x => x.1 == h.sn && f.contains x.2.1).foldl (fun t x => t.sendMate x.2.1 h.sn (.log x.2.2)) u)) ∧
  (∀ (h : MateHdr) (i : Nat) (d : Desc) (ns : Nat) (u : State) (s : State), s.takeFrame h false ns = (u, true) → s.role = .primary → exec (.forwardRx h i d ns) s = .next (if d.opcode = 0x9001 then (if d.op 32 1 = 0 then u.raiseAll 3 ns else u.raiseRobot 9 (d.op 33 1) ns) else u.addJob (u.ringJob { d with ring := d.ring % 64 + 128, index := i }))) ∧
  (∀ (h : MateHdr) (r : MateResult) (f : Forwarded) (u : State) (s : State), s.takeFrame h true 0 = (u, true) → (u.rings.forwarded.find? fun f => f.id == r.id) = some f → let w := (u.setRings { u.rings with forwarded := u.rings.forwarded.filter fun x => x.id != r.id }).put PAI_FWD_PENDING_N (u.rings.forwarded.filter fun x => x.id != r.id).length; exec (.resultRx h r) s = .next ((w.complete f.desc r.status r.result r.bytes r.resultLen .status).endJobOf f.desc (r.status == stOK))) ∧
  (∀ (h : MateHdr) (r : MateResult) (u : State) (s : State), s.takeFrame h true 0 = (u, true) → (u.rings.forwarded.find? fun f => f.id == r.id) = none → exec (.resultRx h r) s = .next u)

/-- Every stroke a paired unit with a live LOG key sends its token behind its preamble; without one, unpaired or before its first stroke
it sends none. A token whose MIC or SN fails is counted, a valid one is noted with its fields and its grant, also in HALT. The link
bits follow the last strokes and are recorded when they change. 40 strokes without authority raise pair fault 3, fewer none. A
preferred standby with a clean run asks for its takeback, another unit does not. At H the primary holds its replicated work, after
it yields, and the standby takes over at H + 1; without an announced handover nothing happens. A preferred unit that has never seen
authority assumes it after 400 idle tokens, another unit does not. A PRIME_REQ with another digest is a mismatch; one with the same
digest arms a snapshot for the next stroke at a primary with good links and none under way. Snapshot frames are taken in order and
loaded with the last; one out of order fails the priming. A priming that fails, or whose links are lost, is recorded and asked for
again. (R366, R367, R368, R372, R373, R375, R377, R380, R394.) -/
def Obligations.LeaseAndAuthority : Prop :=
  (∀ (s : State), s.paired = true → s.stroked = true → (s.serving || s.dev == .halt) = true → s.keyLive 10 0 s.key.log.gen s.key.log.slot = true → exec .leaseTokenTx s = .next (s.emit (.token ([0x55, 0x55, 0xD5] ++ s.tokenBody ++ ccm (s.logKey s.key.log.gen s.key.log.slot) (leBytes 1 (0xA0 + b2n s.straps.pairId) ++ leBytes 8 s.sn ++ [0, 0, 0, 0]) s.tokenBody [] 8)))) ∧
  (∀ (s : State), (s.paired && s.stroked && (s.serving || s.dev == .halt) && s.keyLive 10 0 s.key.log.gen s.key.log.slot) = false → exec .leaseTokenTx s = .next s) ∧
  (∀ (b : List Byte) (m : Option Nat) (ns : Nat) (s : State), (s.paired && (s.serving || s.dev == .halt)) = false → exec (.leaseTokenRx b m ns) s = .next s) ∧
  (∀ (b : List Byte) (m : Option Nat) (ns : Nat) (s : State), s.paired = true → (s.serving || s.dev == .halt) = true → (s.micGood m && s.tokenSnOk (readToken b).sn) = false → exec (.leaseTokenRx b m ns) s = .next ((s.noteMic (s.micGood m)).count PAI_TOKEN_ERR 1)) ∧
  (∀ (b : List Byte) (m : Option Nat) (ns : Nat) (s : State), s.paired = true → (s.serving || s.dev == .halt) = true → s.micGood m = true → s.tokenSnOk (readToken b).sn = true → let k := readToken b; ∃ t, exec (.leaseTokenRx b m ns) s = .next t ∧ t.pai.token = some k ∧ t.pai.tokSn = s.now ∧ t.pai.tokNow = true ∧ t.pai.grant = (if k.auth then s.pai.grant else if k.lease = 0 then 0 else nearSn s.sn k.lease) ∧ t.pai.given = (if k.auth then k.lease else s.pai.given) ∧ t.get PAI_STATUS_MATE_ROLE = k.role) ∧
  (∀ (ns : Nat) (s : State), s.serving = true → s.paired = true → s.stopLive = true → 40 ≤ s.pai.noAuth → exec (.pairFaultNoAuthority ns) s = .next (s.pairFault 3 s.mateEpoch ns)) ∧
  (∀ (ns : Nat) (s : State), (s.serving && s.paired && s.stopLive && decide (40 ≤ s.pai.noAuth)) = false → exec (.pairFaultNoAuthority ns) s = .next s) ∧
  (∀ (s : State), s.serving = true → s.paired = true → s.pai.tokLast = [true, true, true, true] → s.flag PAI_STATUS_LEASE_LINK = false → exec .leaseLink s = .next ((s.put PAI_STATUS_LEASE_LINK 1).record EV_LEASE_LINK 0 1 0 0)) ∧
  (∀ (s : State), s.serving = true → s.pai.tokLast ≠ [true, true, true, true] ∧ s.pai.tokLast.length ≤ 4 → s.flag PAI_STATUS_LEASE_LINK = true → exec .leaseLink s = .next ((s.put PAI_STATUS_LEASE_LINK 0).record EV_LEASE_LINK 0 0 0 0)) ∧
  (∀ (s : State), (s.serving = false ∨ s.flag PAI_STATUS_LEASE_LINK = (s.paired && s.pai.tokLast.length == 4 && s.pai.tokLast.all id)) → exec .leaseLink s = .next s) ∧
  (∀ (s : State), s.serving = true → s.paired = true → s.frameRecent = true → s.flag PAI_STATUS_MATE_LINK = false → exec .mateLink s = .next ((s.put PAI_STATUS_MATE_LINK 1).record EV_MATE_LINK 0 1 0 0)) ∧
  (∀ (s : State), s.serving = true → s.frameRecent = false → s.flag PAI_STATUS_MATE_LINK = true → exec .mateLink s = .next ((s.put PAI_STATUS_MATE_LINK 0).record EV_MATE_LINK 0 0 0 0)) ∧
  (∀ (s : State), (s.serving = false ∨ s.flag PAI_STATUS_MATE_LINK = (s.paired && s.frameRecent)) → exec .mateLink s = .next s) ∧
  (∀ (t : Token) (s : State), s.serving = true → s.flag PAI_CFG_AUTO_TAKEBACK = true → s.straps.pairPref = true → s.role = .standby → s.num PAI_HOLDOFF ≤ s.num PAI_CLEAN_RUN → s.pai.token = some t → t.pref = false → s.pai.hand = none → exec .autoTakeback s = .next (s.setPai { s.pai with handReq := true })) ∧
  (∀ (s : State), (s.serving = false ∨ s.flag PAI_CFG_AUTO_TAKEBACK = false ∨ s.straps.pairPref = false ∨ s.role ≠ .standby ∨ s.num PAI_CLEAN_RUN < s.num PAI_HOLDOFF ∨ s.pai.token = none ∨ s.pai.hand.isSome = true) → exec .autoTakeback s = .next s) ∧
  (∀ (s : State), (s.serving = false ∨ s.pai.hand = none ∨ s.pai.handDone = true) → exec .handoverStillStroke s = .next s) ∧
  (∀ (h : Nat) (s : State), s.serving = true → s.pai.hand = some h → s.pai.handDone = false → s.role = .primary → s.sn = h → exec .handoverStillStroke s = .next (s.setDisp { s.disp with holdRepl := true })) ∧
  (∀ (h : Nat) (s : State), s.serving = true → s.pai.hand = some h → s.pai.handDone = false → s.role = .primary → h < s.sn → s.pai.acked.contains h = true → (∀ x ∈ s.pai.held, h < x) → ∃ t, exec .handoverStillStroke s = .next t ∧ t.role = .standby ∧ t.pai.handDone = true ∧ t.pai.mateStandby = none ∧ t.disp.holdRepl = false ∧ t.get PAI_STATUS_ROLE = Role.standby.code) ∧
  (∀ (h : Nat) (s : State), s.serving = true → s.pai.hand = some h → s.pai.handDone = false → s.role = .standby → s.sn = h + 1 → s.pai.handFinal = true → h ≤ s.pai.done → s.paired = true → ∃ t, exec .handoverStillStroke s = .next t ∧ t.role = .primary ∧ t.pai.handDone = true ∧ t.pai.mateStandby = some s.sn) ∧
  (∀ (s : State), s.stroked = true → s.serving = true → s.role = .notStanding → s.straps.pairPref = true → s.pai.seenAuth = false → 400 ≤ s.pai.idleHeard → s.mismBlock = false → s.paired = true → ∃ t, exec .authorityAssume s = .next t ∧ t = s.assume 5 ∧ t.role = .primary ∧ t.pai.seenAuth = true ∧ t.num PAI_EPOCH = s.newEpoch % 2 ^ 32) ∧
  (∀ (s : State), (s.stroked = false ∨ s.serving = false ∨ s.role ≠ .notStanding ∨ s.straps.pairPref = false ∨ s.pai.seenAuth = true ∨ s.pai.idleHeard < 400 ∨ s.mismBlock = true) → exec .authorityAssume s = .next s) ∧
  (∀ (h : MateHdr) (p : List Byte) (u : State) (s : State), s.takeFrame h false 0 = (u, true) → let w := u.dropMism 2; exec (.primeReqRx h p) s = .next (if p != u.digestShown then u.addMism 2 else if w.role = .primary ∧ w.linksGood ∧ w.pai.snapAt = none then ((w.setPai { w.pai with snapAt := some (w.sn + 1), mateStandby := none }).drawn.record EV_PRIME_START 0 (w.sn + 1) (Config.freeNat w.free) 0) else w)) ∧
  (∀ (h : MateHdr) (b : Bool) (o : Option Snapshot) (u : State) (s : State), s.takeFrame h true 0 = (u, true) → (s.role ≠ .notStanding ∧ s.authority = false ∨ s.role = .notStanding ∧ (s.pai.primeSn = none ∨ s.pai.loaded = true)) → exec (.snapshotRx h b o) s = .next u) ∧
  (∀ (h : MateHdr) (b : Bool) (o : Option Snapshot) (k : Nat) (u : State) (s : State), s.takeFrame h true 0 = (u, true) → s.role = .notStanding → s.pai.primeSn = some k → s.pai.loaded = false → h.frag = s.pai.snapNext → let w := u.setPai { u.pai with snapNext := u.pai.snapNext + 1 }; exec (.snapshotRx h b o) s = .next (match b, o with | true, some x => (w.loadSnapshot x).runLogs 4 | _, _ => w)) ∧
  (∀ (h : MateHdr) (b : Bool) (o : Option Snapshot) (k : Nat) (u : State) (s : State), s.takeFrame h true 0 = (u, true) → s.role = .notStanding → s.pai.primeSn = some k → s.pai.loaded = false → h.frag ≠ s.pai.snapNext → exec (.snapshotRx h b o) s = .next (u.setPai { u.pai with primeFail := some 2 })) ∧
  (∀ (k : Nat) (c : Nat) (s : State), s.serving = true → s.role = .notStanding → s.pai.primeSn = some k → s.linksGood = true → s.pai.primeFail = some c → exec .primeFail s = .next ((s.record EV_PRIME_FAIL 0 c s.sn 0).requestPrime)) ∧
  (∀ (k : Nat) (s : State), s.serving = true → s.role = .notStanding → s.pai.primeSn = some k → s.linksGood = false → exec .primeFail s = .next ((s.record EV_PRIME_FAIL 0 (s.pai.primeFail.getD 4) s.sn 0).requestPrime)) ∧
  (∀ (s : State), (s.serving = false ∨ s.role ≠ .notStanding ∨ s.pai.primeSn = none ∨ (s.linksGood = true ∧ s.pai.primeFail = none)) → exec .primeFail s = .next s)

/-- PAI_QUERY answers 64 bytes of status. PAI_HANDOVER announces H on a primary whose mate is STANDBY and asks for it on a standby;
without a standing mate it ends MATE_NOT_READY, and a second one finds the first pending. PAI_DETACH takes a standby out of STANDBY,
asks a unit that is not standing by for no priming, and is LOCKED on the primary. PAI_PRIME asks for priming while the mate is
PRIMARY and both links are good, has nothing to do on a standby, and else ends MATE_NOT_READY. PAI_ASSUME takes authority unless it
has been seen, the mate is heard or a configuration fault holds the unit; before the first stroke it waits. All but the query are
refused on an unpaired unit. (R373, R375, R377, R378, R379.) -/
def Obligations.PairCommands : Prop :=
  (∀ (d : Desc) (s : State), Runs s d → ∃ b, exec (.paiQuery d) s = .next (s.finish d (s.answer d b)) ∧ b.length = 64 ∧ b.take 12 = leBytes 4 (s.num PAI_STATUS) ++ leBytes 4 (s.num PAI_EPOCH) ++ leBytes 4 s.mateEpoch) ∧
  (∀ (d : Desc) (s : State), Runs s d → s.paired = false → exec (.paiHandover d) s = .next (s.finish d (s.fail 0x10)) ∧ exec (.paiDetach d) s = .next (s.finish d (s.fail 0x10)) ∧ exec (.paiPrime d) s = .next (s.finish d (s.fail 0x10)) ∧ exec (.paiAssume d) s = .next (s.finish d (s.fail 0x10))) ∧
  (∀ (d : Desc) (k : Nat) (s : State), Runs s d → s.paired = true → s.pai.hand = none → s.role = .primary → s.pai.mateStandby = some k → ∃ u : State, exec (.paiHandover d) s = .next (s.finish d u.later) ∧ u.pai.hand = some (handoverSn s.sn) ∧ u.pai.handDescs = s.pai.handDescs ++ [d] ∧ u.get PAI_STATUS_HANDOVER = 1) ∧
  (∀ (d : Desc) (h : Nat) (s : State), Runs s d → s.paired = true → s.pai.hand = some h → exec (.paiHandover d) s = .next (s.finish d (s.fail 0x12))) ∧
  (∀ (d : Desc) (s : State), Runs s d → s.paired = true → s.pai.hand = none → s.role = .standby → exec (.paiHandover d) s = .next (s.finish d (s.setPai { s.pai with handReq := true, handDescs := s.pai.handDescs ++ [d] }).later)) ∧
  (∀ (d : Desc) (s : State), Runs s d → s.paired = true → s.role = .primary → exec (.paiDetach d) s = .next (s.finish d (s.fail stLOCKED))) ∧
  (∀ (d : Desc) (s : State), Runs s d → s.paired = true → s.role = .standby → exec (.paiDetach d) s = .next (s.finish d (s.leaveStandby.setPai { s.leaveStandby.pai with detached := true }).ok) ∧ s.leaveStandby.role = .notStanding) ∧
  (∀ (d : Desc) (s : State), Runs s d → s.paired = true → s.matePrimary = true → s.linksGood = true → s.stroked = true → s.role = .notStanding → ∃ u : State, exec (.paiPrime d) s = .next (s.finish d u.ok) ∧ u.pai.primeSn = some s.sn ∧ u.pai.detached = false ∧ u.get PAI_STATUS_PRIMING = 1) ∧
  (∀ (d : Desc) (s : State), Runs s d → s.paired = true → s.pai.seenAuth = true → exec (.paiAssume d) s = .next (s.finish d (s.fail stLOCKED))) ∧
  (∀ (d : Desc) (s : State), Runs s d → s.paired = true → s.pai.seenAuth = false → s.mateHeard = true → exec (.paiAssume d) s = .next (s.finish d (s.fail 0x13))) ∧
  (∀ (d : Desc) (s : State), Runs s d → s.paired = true → s.pai.seenAuth = false → s.mateHeard = false → s.mismBlock = false → s.stroked = true → exec (.paiAssume d) s = .next (s.finish d ((s.assume 4).ok ((s.assume 4).num PAI_EPOCH))) ∧ (s.assume 4).role = .primary) ∧
  (∀ (d : Desc) (s : State), Runs s d → s.paired = true → s.pai.hand = none → (s.role = .primary ∧ s.pai.mateStandby = none ∨ s.role = .notStanding) → exec (.paiHandover d) s = .next (s.finish d (s.fail 0x11))) ∧
  (∀ (d : Desc) (s : State), Runs s d → s.paired = true → s.role = .notStanding → exec (.paiDetach d) s = .next (s.finish d (s.setPai { s.pai with detached := true }).ok)) ∧
  (∀ (d : Desc) (s : State), Runs s d → s.paired = true → (s.matePrimary && s.linksGood && s.stroked) = false → exec (.paiPrime d) s = .next (s.finish d (s.fail 0x11))) ∧
  (∀ (d : Desc) (s : State), Runs s d → s.paired = true → s.matePrimary = true → s.linksGood = true → s.stroked = true → s.role = .standby → exec (.paiPrime d) s = .next (s.finish d s.ok)) ∧
  (∀ (d : Desc) (s : State), Runs s d → s.paired = true → s.pai.seenAuth = false → s.mateHeard = false → s.mismBlock = true → exec (.paiAssume d) s = .next (s.finish d (s.fail stREFUSED))) ∧
  (∀ (d : Desc) (s : State), Runs s d → s.paired = true → s.pai.seenAuth = false → s.mateHeard = false → s.mismBlock = false → s.stroked = false → exec (.paiAssume d) s = .next (s.finish d (s.setPai { s.pai with assume := s.pai.assume ++ [d] }).later))

/-- A request is acted on once, by the Wellhouse that runs: with none of its CODE, or without power, nothing happens. Each instrument
refuses what its kind and state do not allow. ZERO on a stable weight within the zero range moves the zero and answers its record,
else it is BACKLOG, UNSTABLE or OUT_OF_RANGE. TARE takes the stable gross within its range, TARE_PRESET a value up to TARE_MAX,
TARE_CLEAR none; else TARE ends UNSTABLE or OUT_OF_RANGE and TARE_PRESET OUT_OF_RANGE. WEIGH waits for stability, then makes its
record or ends with its error, and times out UNSTABLE; in BACKLOG, out of range or while another stands it is refused. Zero-tracking
moves the zero by at most its step, and only on a stable gross weight near zero. A cycle goes from EMPTY to SETTLE_G, takes its
gross, empties, settles and adds its net to TOTAL; a request in another state ends CYCLE_STATE. CYCLE_ABORT, a range error or a
timeout halts it, and before its time nothing happens. (R409, R410, R411, R412, R413, R414, R421, R422.) -/
def Obligations.WeighingInstruments : Prop :=
  (∀ (m : WlIn) (s : State), (s.whUp = false ∨ s.wel.reqs = []) → ∀ x ∈ [Instr.zero m, .tare m, .tarePreset, .tareClear, .weigh m, .cycleFilled, .cycleDischarged, .cycleAbort, .totalRead, .pulseRead, .recordRead, .auditRead, .paramRead, .rawRead m, .statement, .showId, .paramWrite, .keyEnrol, .auditArchive], exec x s = .next s) ∧
  (∀ (m : WlIn) (r : WhReq) (u : State) (s : State), s.whUp = true → (s.wel.reqs.find? fun r => r.code == 16) = some r → u = s.setWel { s.wel with reqs := s.wel.reqs.erase r } → u.instRefuses r.instr 1 = none → u.wel.backlog = false → u.isStable r.instr m = true → absI ((u.inst r.instr).z16 + u.weight16 r.instr m) ≤ 16 * u.param r.instr 0x13 → let v := u.modInst r.instr fun x => { x with z16 := (u.inst r.instr).z16 + u.weight16 r.instr m }; let w := v.whRecord 6 r.instr (v.weightFlags r.instr m 0) r.tag (v.param r.instr 0x03) 0 0 0 (v.inst r.instr).total 0; exec (.zero m) s = .next (if w.wel.die = 2 then w.respond r 0x14 [] else w.respond r 0 w.lastRecord.2)) ∧
  (∀ (m : WlIn) (r : WhReq) (u : State) (s : State), s.whUp = true → (s.wel.reqs.find? fun r => r.code == 16) = some r → u = s.setWel { s.wel with reqs := s.wel.reqs.erase r } → u.instRefuses r.instr 1 = none → u.wel.backlog = false → u.isStable r.instr m = false → exec (.zero m) s = .next (u.respond r 0x10 [])) ∧
  (∀ (m : WlIn) (st : Nat) (r : WhReq) (u : State) (s : State), s.whUp = true → (s.wel.reqs.find? fun r => r.code == 16) = some r → u = s.setWel { s.wel with reqs := s.wel.reqs.erase r } → u.instRefuses r.instr 1 = some st → exec (.zero m) s = .next (u.respond r st [])) ∧
  (∀ (m : WlIn) (g : Int) (r : WhReq) (u : State) (s : State), s.whUp = true → (s.wel.reqs.find? fun r => r.code == 17) = some r → u = s.setWel { s.wel with reqs := s.wel.reqs.erase r } → u.instRefuses r.instr 1 = none → u.isStable r.instr m = true → g = whole16 (u.weight16 r.instr m) → 0 < g → g ≤ u.param r.instr 0x15 → exec (.tare m) s = .next ((u.modInst r.instr fun x => { x with tare := some (g, false) }).respond r 0 [])) ∧
  (∀ (r : WhReq) (u : State) (s : State), s.whUp = true → (s.wel.reqs.find? fun r => r.code == 18) = some r → u = s.setWel { s.wel with reqs := s.wel.reqs.erase r } → u.instRefuses r.instr 1 = none → leAt r.args 0 4 ≤ u.param r.instr 0x15 → exec .tarePreset s = .next ((u.modInst r.instr fun x => { x with tare := some ((leAt r.args 0 4 : Int), true) }).respond r 0 [])) ∧
  (∀ (r : WhReq) (u : State) (s : State), s.whUp = true → (s.wel.reqs.find? fun r => r.code == 19) = some r → u = s.setWel { s.wel with reqs := s.wel.reqs.erase r } → u.instRefuses r.instr 1 = none → exec .tareClear s = .next ((u.modInst r.instr fun x => { x with tare := none }).respond r 0 [])) ∧
  (∀ (m : WlIn) (r : WhReq) (u : State) (s : State), s.whUp = true → (s.wel.reqs.find? fun r => r.code == 20) = some r → u = s.setWel { s.wel with reqs := s.wel.reqs.erase r } → u.instRefuses r.instr 1 = none → u.wel.backlog = false → (u.inst r.instr).weigh = none → u.outOfRange r.instr (u.weight16 r.instr m) = false → exec (.weigh m) s = .next (u.modInst r.instr fun x => { x with weigh := some (r, u.wel.ms) })) ∧
  (∀ (m : WlIn) (r : WhReq) (u : State) (s : State), s.whUp = true → (s.wel.reqs.find? fun r => r.code == 20) = some r → u = s.setWel { s.wel with reqs := s.wel.reqs.erase r } → u.instRefuses r.instr 1 = none → u.wel.backlog = false → (u.inst r.instr).weigh = none → u.outOfRange r.instr (u.weight16 r.instr m) = true → exec (.weigh m) s = .next (u.respond r 0x11 [])) ∧
  (∀ (i : Nat) (m : WlIn) (r : WhReq) (t : Nat) (s : State), s.whUp = true → (s.inst i).weigh = some (r, t) → s.isStable i m = true → let u := s.modInst i fun x => { x with weigh := none }; exec (.weighingStable i m) s = .next (if u.instErr i then u.respond r 0x14 [] else if u.outOfRange i (u.weight16 i m) then u.respond r 0x11 [] else u.weighRecord i r m)) ∧
  (∀ (i : Nat) (r : WhReq) (t : Nat) (s : State), s.whUp = true → (s.inst i).weigh = some (r, t) → t + s.param i 0x17 ≤ s.wel.ms → exec (.stabilityTimeout i) s = .next ((s.modInst i fun x => { x with weigh := none }).respond r 0x10 [])) ∧
  (∀ (i : Nat) (s : State), s.whUp = true → (s.inst i).weigh = none → (s.inst i).cyc = .settleG → (s.inst i).since + s.param i 0x16 + s.param i 0x17 ≤ s.wel.ms → exec (.stabilityTimeout i) s = .next (s.haltCycle i)) ∧
  (∀ (i : Nat) (m : WlIn) (s : State), s.whUp = true → s.inUse i = true → s.instErr i = false → s.isStable i m = true → (s.inst i).tare = none → absI (s.weight16 i m) ≤ 8 * s.param i 0x04 → exec (.zeroTracking i m) s = .next (s.modInst i fun x => { x with z16 := x.z16 + clampI (-(s.param i 0x14 : Int)) (s.param i 0x14) (s.weight16 i m) })) ∧
  (∀ (r : WhReq) (u : State) (s : State), s.whUp = true → (s.wel.reqs.find? fun r => r.code == 32) = some r → u = s.setWel { s.wel with reqs := s.wel.reqs.erase r } → u.instRefuses r.instr 2 = none → u.wel.backlog = false → (u.inst r.instr).cyc = .empty → exec .cycleFilled s = .next ((u.modInst r.instr fun x => { x with cyc := .settleG, since := u.wel.ms, gross := none, tag := r.tag, cycle := x.cycle + 1 }).respond r 0 [])) ∧
  (∀ (r : WhReq) (u : State) (s : State), s.whUp = true → (s.wel.reqs.find? fun r => r.code == 32) = some r → u = s.setWel { s.wel with reqs := s.wel.reqs.erase r } → u.instRefuses r.instr 2 = none → u.wel.backlog = false → (u.inst r.instr).cyc ≠ .empty → exec .cycleFilled s = .next (u.respond r 0x16 [])) ∧
  (∀ (r : WhReq) (u : State) (s : State), s.whUp = true → (s.wel.reqs.find? fun r => r.code == 33) = some r → u = s.setWel { s.wel with reqs := s.wel.reqs.erase r } → u.instRefuses r.instr 2 = none → (u.inst r.instr).cyc = .emptying → exec .cycleDischarged s = .next ((u.modInst r.instr fun x => { x with cyc := .settleE, since := u.wel.ms, tag := r.tag }).respond r 0 [])) ∧
  (∀ (r : WhReq) (u : State) (s : State), s.whUp = true → (s.wel.reqs.find? fun r => r.code == 34) = some r → u = s.setWel { s.wel with reqs := s.wel.reqs.erase r } → u.instRefuses r.instr 2 = none → exec .cycleAbort s = .next ((u.haltCycle r.instr).respond r 0 [])) ∧
  (∀ (i : Nat) (m : WlIn) (s : State), s.settled i m .settleG = true → s.outOfRange i (s.weight16 i m) = false → s.instErr i = false → let g := whole16 (s.weight16 i m); let u := s.modInst i fun x => { x with cyc := .emptying, since := s.wel.ms, gross := some g }; exec (.settleGross i m) s = .next (u.whRecord 2 i (u.weightFlags i m (s.weight16 i m)) (s.inst i).tag (u.param i 0x03) g 0 g (s.inst i).total (s.inst i).cycle)) ∧
  (∀ (i : Nat) (m : WlIn) (g : Int) (s : State), s.settled i m .settleE = true → s.outOfRange i (s.weight16 i m) = false → s.instErr i = false → (s.inst i).gross = some g → let e := whole16 (s.weight16 i m); let total := unsigned 64 (((s.inst i).total : Int) + (g - e)); let u := s.modInst i fun x => { x with cyc := .empty, since := s.wel.ms, gross := none, total := total }; exec (.settleEmpty i m) s = .next (u.whRecord 3 i (u.weightFlags i m (s.weight16 i m)) (s.inst i).tag (u.param i 0x03) g e (g - e) total (s.inst i).cycle)) ∧
  (∀ (i : Nat) (m : WlIn) (s : State), s.settled i m .settleE = true → s.outOfRange i (s.weight16 i m) = false → s.instErr i = false → (s.inst i).gross = none → exec (.settleEmpty i m) s = .next ((s.modInst i fun x => { x with cyc := .empty, since := s.wel.ms }).whError i)) ∧
  (∀ (m : WlIn) (st : Nat) (r : WhReq) (u : State) (s : State), s.whUp = true → (s.wel.reqs.find? fun r => r.code == 17) = some r → u = s.setWel { s.wel with reqs := s.wel.reqs.erase r } → u.instRefuses r.instr 1 = some st → exec (.tare m) s = .next (u.respond r st [])) ∧
  (∀ (st : Nat) (r : WhReq) (u : State) (s : State), s.whUp = true → (s.wel.reqs.find? fun r => r.code == 18) = some r → u = s.setWel { s.wel with reqs := s.wel.reqs.erase r } → u.instRefuses r.instr 1 = some st → exec .tarePreset s = .next (u.respond r st [])) ∧
  (∀ (st : Nat) (r : WhReq) (u : State) (s : State), s.whUp = true → (s.wel.reqs.find? fun r => r.code == 19) = some r → u = s.setWel { s.wel with reqs := s.wel.reqs.erase r } → u.instRefuses r.instr 1 = some st → exec .tareClear s = .next (u.respond r st [])) ∧
  (∀ (m : WlIn) (st : Nat) (r : WhReq) (u : State) (s : State), s.whUp = true → (s.wel.reqs.find? fun r => r.code == 20) = some r → u = s.setWel { s.wel with reqs := s.wel.reqs.erase r } → u.instRefuses r.instr 1 = some st → exec (.weigh m) s = .next (u.respond r st [])) ∧
  (∀ (st : Nat) (r : WhReq) (u : State) (s : State), s.whUp = true → (s.wel.reqs.find? fun r => r.code == 32) = some r → u = s.setWel { s.wel with reqs := s.wel.reqs.erase r } → u.instRefuses r.instr 2 = some st → exec .cycleFilled s = .next (u.respond r st [])) ∧
  (∀ (st : Nat) (r : WhReq) (u : State) (s : State), s.whUp = true → (s.wel.reqs.find? fun r => r.code == 33) = some r → u = s.setWel { s.wel with reqs := s.wel.reqs.erase r } → u.instRefuses r.instr 2 = some st → exec .cycleDischarged s = .next (u.respond r st [])) ∧
  (∀ (st : Nat) (r : WhReq) (u : State) (s : State), s.whUp = true → (s.wel.reqs.find? fun r => r.code == 34) = some r → u = s.setWel { s.wel with reqs := s.wel.reqs.erase r } → u.instRefuses r.instr 2 = some st → exec .cycleAbort s = .next (u.respond r st [])) ∧
  (∀ (st : Nat) (r : WhReq) (u : State) (s : State), s.whUp = true → (s.wel.reqs.find? fun r => r.code == 35) = some r → u = s.setWel { s.wel with reqs := s.wel.reqs.erase r } → u.instRefuses r.instr 0 = some st → exec .totalRead s = .next (u.respond r st [])) ∧
  (∀ (m : WlIn) (r : WhReq) (u : State) (s : State), s.whUp = true → (s.wel.reqs.find? fun r => r.code == 16) = some r → u = s.setWel { s.wel with reqs := s.wel.reqs.erase r } → u.instRefuses r.instr 1 = none → (u.wel.backlog = true ∨ u.isStable r.instr m = false ∨ 16 * (u.param r.instr 0x13 : Int) < absI ((u.inst r.instr).z16 + u.weight16 r.instr m)) → exec (.zero m) s = .next (u.respond r (if u.wel.backlog then 0x12 else if u.isStable r.instr m then 0x11 else 0x10) [])) ∧
  (∀ (m : WlIn) (g : Int) (r : WhReq) (u : State) (s : State), s.whUp = true → (s.wel.reqs.find? fun r => r.code == 17) = some r → u = s.setWel { s.wel with reqs := s.wel.reqs.erase r } → u.instRefuses r.instr 1 = none → g = whole16 (u.weight16 r.instr m) → (u.isStable r.instr m = false ∨ g ≤ 0 ∨ (u.param r.instr 0x15 : Int) < g) → exec (.tare m) s = .next (u.respond r (if u.isStable r.instr m then 0x11 else 0x10) [])) ∧
  (∀ (r : WhReq) (u : State) (s : State), s.whUp = true → (s.wel.reqs.find? fun r => r.code == 0x12) = some r → u = s.setWel { s.wel with reqs := s.wel.reqs.erase r } → u.instRefuses r.instr 1 = none → u.param r.instr 0x15 < leAt r.args 0 4 → exec .tarePreset s = .next (u.respond r 0x11 [])) ∧
  (∀ (m : WlIn) (r : WhReq) (u : State) (s : State), s.whUp = true → (s.wel.reqs.find? fun r => r.code == 20) = some r → u = s.setWel { s.wel with reqs := s.wel.reqs.erase r } → u.instRefuses r.instr 1 = none → (u.wel.backlog = true ∨ (u.inst r.instr).weigh.isSome = true) → exec (.weigh m) s = .next (u.respond r (if u.wel.backlog then 0x12 else 0x18) [])) ∧
  (∀ (i : Nat) (m : WlIn) (s : State), (s.whUp = false ∨ (s.inst i).weigh = none ∨ s.isStable i m = false) → exec (.weighingStable i m) s = .next s) ∧
  (∀ (i : Nat) (s : State), (s.whUp = false ∨ s.wel.ms < s.param i 0x17 ∨ (s.inst i).weigh = none ∧ ((s.inst i).cyc = .empty ∨ (s.inst i).cyc = .emptying ∨ (s.inst i).cyc = .halted)) → exec (.stabilityTimeout i) s = .next s) ∧
  (∀ (i : Nat) (s : State), s.whUp = true → (s.inst i).weigh = none → (s.inst i).cyc = .settleE → (s.inst i).since + s.param i 0x16 + s.param i 0x17 ≤ s.wel.ms → exec (.stabilityTimeout i) s = .next (s.haltCycle i)) ∧
  (∀ (i : Nat) (m : WlIn) (s : State), (s.whUp = false ∨ s.inUse i = false ∨ s.instErr i = true ∨ s.isStable i m = false ∨ (s.inst i).tare.isSome = true ∨ 8 * (s.param i 0x04 : Int) < absI (s.weight16 i m)) → exec (.zeroTracking i m) s = .next s) ∧
  (∀ (r : WhReq) (u : State) (s : State), s.whUp = true → (s.wel.reqs.find? fun r => r.code == 32) = some r → u = s.setWel { s.wel with reqs := s.wel.reqs.erase r } → u.instRefuses r.instr 2 = none → u.wel.backlog = true → exec .cycleFilled s = .next (u.respond r 0x12 [])) ∧
  (∀ (r : WhReq) (u : State) (s : State), s.whUp = true → (s.wel.reqs.find? fun r => r.code == 33) = some r → u = s.setWel { s.wel with reqs := s.wel.reqs.erase r } → u.instRefuses r.instr 2 = none → (u.inst r.instr).cyc = .halted → exec .cycleDischarged s = .next ((u.modInst r.instr fun x => { x with cyc := .settleE, since := u.wel.ms, tag := r.tag }).respond r 0 [])) ∧
  (∀ (r : WhReq) (u : State) (s : State), s.whUp = true → (s.wel.reqs.find? fun r => r.code == 33) = some r → u = s.setWel { s.wel with reqs := s.wel.reqs.erase r } → u.instRefuses r.instr 2 = none → (u.inst r.instr).cyc ≠ .emptying → (u.inst r.instr).cyc ≠ .halted → exec .cycleDischarged s = .next (u.respond r 0x16 [])) ∧
  (∀ (i : Nat) (m : WlIn) (s : State), s.settled i m .settleG = true → (s.outOfRange i (s.weight16 i m) = true ∨ s.instErr i = true) → exec (.settleGross i m) s = .next (s.haltCycle i)) ∧
  (∀ (i : Nat) (m : WlIn) (s : State), s.settled i m .settleE = true → (s.outOfRange i (s.weight16 i m) = true ∨ s.instErr i = true) → exec (.settleEmpty i m) s = .next (s.haltCycle i)) ∧
  (∀ (i : Nat) (m : WlIn) (s : State), s.settled i m .settleG = false → exec (.settleGross i m) s = .next s) ∧
  (∀ (i : Nat) (m : WlIn) (s : State), s.settled i m .settleE = false → exec (.settleEmpty i m) s = .next s)

/-- At its start the Wellhouse of a CX7740 checks itself, counts the boot, runs its instruments and makes a POWER_UP record; its reset
takes it down alone; a CX7720 has none. A channel out of its sense voltage enters the faults, one that returns leaves them. A pulse
is counted on an enabled input, a seal change is taken, the display shows test, identification or bands. The reads answer what they
name, each with its record where it makes one, or the error for an input, record or length it does not have. Parameters, keys and
the archive are written only while the seal is open and the die is not in ERROR, under an enrolled key, with their audit entries; a
write out of order, out of range, on an instrument in use or without room is refused by its status. (R405, R406, R409, R416, R422,
R424, R425, R426, R427, R428.) -/
def Obligations.WellhouseDieAndRequests : Prop :=
  (∀ (a : Bool) (b : Bool) (s : State), s.part = .cx7740 → ∃ t, exec (.wellhouseStart a b) s = .next t ∧ t.wel.up = true ∧ t.wel.bootCount = (s.wel.bootCount + 1) % 65536 ∧ t.wel.reqs = [] ∧ t.wel.ms = 0 ∧ ((a && b) = false → t.wel.die = 2) ∧ t.dev = s.dev ∧ t.sn = s.sn) ∧
  (∀ (s : State), exec .wellhouseReset s = .next (s.setWel { s.wel with up := false, die := 0, reqs := [], resps := [], helloNow := false, credit := 0 })) ∧
  (∀ (c : Nat) (s : State), s.whUp = true → c < 8 → s.wel.badCh.contains c = false → ∃ t, exec (.senseFault c) s = .next t ∧ t.wel.badCh = s.wel.badCh ++ [c] ∧ t.wel.sealed = s.wel.sealed) ∧
  (∀ (c : Nat) (s : State), s.whUp = true → s.wel.badCh.contains c = true → ∃ t, exec (.senseRecovered c) s = .next t ∧ t.wel.badCh = s.wel.badCh.filter (fun x => x != c)) ∧
  (∀ (n : Nat) (s : State), s.whUp = true → n < 4 → s.param 0xF n ≠ 0 → exec (.pulseEdge n) s = .next (s.setWel { s.wel with pulses := lmod s.wel.pulses n fun c => (c + 1) % 2 ^ 64 })) ∧
  (∀ (k : Nat) (s : State), s.whUp = true → k ≤ 2 → k ≠ s.wel.sealed → ¬ (s.wel.sealed = 1 ∧ k = 0) → exec (.sealChange k) s = .next (s.setWel { s.wel with sealed := k })) ∧
  (∀ (s : State), s.whUp = true → s.wel.sealed = 1 → exec (.sealChange 0) s = .next (s.setWel { s.wel with sealed := 0 }).checkParams) ∧
  (∀ (ms : List WlIn) (s : State), s.whUp = true → s.wel.ms < 1000 → exec (.displayRedraw ms) s = .next (s.emit (.display .lit))) ∧
  (∀ (ms : List WlIn) (s : State), s.whUp = true → 3000 ≤ s.wel.ms → s.wel.showUntil ≤ s.wel.ms → ∃ bs, exec (.displayRedraw ms) s = .next (s.emit (.display (.bands bs s.wel.sealed (if s.wel.die = 2 then some s.wel.err else none)))) ∧ bs.map (·.instr) = (List.range 4).filter s.inUse) ∧
  (∀ (r : WhReq) (u : State) (s : State), s.whUp = true → (s.wel.reqs.find? fun r => r.code == 35) = some r → u = s.setWel { s.wel with reqs := s.wel.reqs.erase r } → u.instRefuses r.instr 0 = none → let w := u.whRecord 4 r.instr (u.whFlags false false false false false) r.tag (u.param r.instr 0x03) 0 0 0 (u.inst r.instr).total (u.inst r.instr).cycle; exec .totalRead s = .next (if w.wel.die = 2 then w.respond r 0x14 [] else w.respond r 0 (leBytes 4 w.lastRecord.1))) ∧
  (∀ (r : WhReq) (u : State) (s : State), s.whUp = true → (s.wel.reqs.find? fun r => r.code == 36) = some r → u = s.setWel { s.wel with reqs := s.wel.reqs.erase r } → u.wel.die ≠ 2 → r.instr < 4 → let w := u.whRecord 5 r.instr (u.whFlags false false false false false) r.tag (u.param 0xF r.instr) 0 0 0 (u.wel.pulses.getD r.instr 0) 0; exec .pulseRead s = .next (if w.wel.die = 2 then w.respond r 0x14 [] else w.respond r 0 (leBytes 4 w.lastRecord.1))) ∧
  (∀ (r : WhReq) (u : State) (s : State), s.whUp = true → (s.wel.reqs.find? fun r => r.code == 48) = some r → u = s.setWel { s.wel with reqs := s.wel.reqs.erase r } → (u.wel.store.find? fun x => x.1 == leAt r.args 0 4) = none → exec .recordRead s = .next (u.respond r 0x17 [])) ∧
  (∀ (r : WhReq) (q : List WhReq) (b : List Byte) (s : State), s.whUp = true → s.wel.reqs = r :: q → r.code = 0x30 → (s.wel.store.find? fun x => x.1 == leAt r.args 0 4) = some (leAt r.args 0 4, b) → exec .recordRead s = .next ((s.setWel { s.wel with reqs := q }).respond r 0 b)) ∧
  (∀ (r : WhReq) (u : State) (s : State), s.whUp = true → (s.wel.reqs.find? fun r => r.code == 49) = some r → u = s.setWel { s.wel with reqs := s.wel.reqs.erase r } → exec .auditRead s = .next (u.respond r 0 ((u.wel.audit.drop (leAt r.args 0 4)).take (leAt r.args 4 4)).flatten)) ∧
  (∀ (r : WhReq) (u : State) (s : State), s.whUp = true → (s.wel.reqs.find? fun r => r.code == 50) = some r → u = s.setWel { s.wel with reqs := s.wel.reqs.erase r } → exec .paramRead s = .next (u.respond r 0 u.paramBytes)) ∧
  (∀ (m : WlIn) (r : WhReq) (u : State) (s : State), s.whUp = true → (s.wel.reqs.find? fun r => r.code == 51) = some r → u = s.setWel { s.wel with reqs := s.wel.reqs.erase r } → ∃ b, exec (.rawRead m) s = .next (u.respond r 0 b) ∧ b.length = 8 * ((List.range 8).filter fun c => bit (u.param r.instr 0x01) c).length) ∧
  (∀ (r : WhReq) (u : State) (s : State), s.whUp = true → (s.wel.reqs.find? fun r => r.code == 52) = some r → u = s.setWel { s.wel with reqs := s.wel.reqs.erase r } → 8 ≤ r.body.length → r.body.length ≤ 32 → exec .statement s = .next (u.drawn.respond r 0 (u.whStatement r.body))) ∧
  (∀ (r : WhReq) (u : State) (s : State), s.whUp = true → (s.wel.reqs.find? fun r => r.code == 53) = some r → u = s.setWel { s.wel with reqs := s.wel.reqs.erase r } → exec .showId s = .next ((u.setWel { u.wel with showUntil := u.wel.ms + 5000 }).respond r 0 [])) ∧
  (∀ (r : WhReq) (u : State) (s : State), s.whUp = true → (s.wel.reqs.find? fun r => r.code == 64) = some r → u = s.setWel { s.wel with reqs := s.wel.reqs.erase r } → u.wel.die ≠ 2 → u.wel.sealed ≠ 1 → exec .paramWrite s = .next (u.respond r stSEALED [])) ∧
  (∀ (n : Nat) (es : List (Nat × Nat)) (v : State) (r : WhReq) (u : State) (s : State), s.whUp = true → (s.wel.reqs.find? fun r => r.code == 64) = some r → u = s.setWel { s.wel with reqs := s.wel.reqs.erase r } → u.wel.die ≠ 2 → u.wel.sealed = 1 → n = leAt r.body 4 1 → r.body.length = 72 + 8 * n → es = (List.range n).map (fun k => (leAt r.body (8 + 8 * k) 2, leAt r.body (12 + 8 * k) 4)) → v = u.setWel { u.wel with params := es.foldl (fun t e => tput t e.1 e.2) u.wel.params } → leAt r.body 0 4 = u.wel.eventCtr → 1 ≤ n → n ≤ 16 → es.all (fun e => paramOk e.1 e.2) = true → v.channelsApart = true → es.any (fun e => decide (e.1 < 0x400) && !u.atRest (e.1 / 0x100)) = false → u.wel.audit.length + n ≤ 16384 → exec .paramWrite s = .next (match u.signerOf (r.body.take (8 + 8 * n)) (r.body.drop (8 + 8 * n)) with | none => u.respond r 0x13 [] | some k => ((v.setWel { v.wel with eventCtr := u.wel.eventCtr + 1, audit := u.wel.audit ++ es.map fun e => u.auditEntry (u.wel.eventCtr + 1) e.1 (tgetD u.wel.params e.1 0) e.2 (some k) }).paramRecord r).respond r 0 (leBytes 4 (u.wel.eventCtr + 1)))) ∧
  (∀ (r : WhReq) (u : State) (s : State), s.whUp = true → (s.wel.reqs.find? fun r => r.code == 65) = some r → u = s.setWel { s.wel with reqs := s.wel.reqs.erase r } → u.wel.die ≠ 2 → u.wel.sealed = 1 → 64 ≤ r.body.length → u.wel.keys = [] → u.wel.audit.length < 16384 → ∃ t, exec .keyEnrol s = .next t ∧ t.wel.keys = [r.body.take 64] ∧ t.wel.eventCtr = u.wel.eventCtr + 1) ∧
  (∀ (r : WhReq) (u : State) (s : State), s.whUp = true → (s.wel.reqs.find? fun r => r.code == 66) = some r → u = s.setWel { s.wel with reqs := s.wel.reqs.erase r } → u.wel.die ≠ 2 → u.wel.sealed = 1 → exec .auditArchive s = .next (if (r.body.take 32 != Config.sha256 u.wel.audit.flatten) = true then u.respond r 0x13 [] else match u.signerOf (r.body.take 32) (r.body.drop 32) with | none => u.respond r 0x13 [] | some k => (u.setWel { u.wel with audit := [u.auditEntry u.wel.eventCtr 0xFFFF 0 0 (some k)] }).respond r 0 (leBytes 4 u.wel.audit.length))) ∧
  (∀ (a : Bool) (b : Bool) (s : State), s.part ≠ .cx7740 → exec (.wellhouseStart a b) s = .next s) ∧
  (∀ (c : Nat) (s : State), (s.whUp = false ∨ s.wel.badCh.contains c = true ∨ 8 ≤ c) → exec (.senseFault c) s = .next s) ∧
  (∀ (c : Nat) (s : State), (s.whUp = false ∨ s.wel.badCh.contains c = false) → exec (.senseRecovered c) s = .next s) ∧
  (∀ (n : Nat) (s : State), (s.whUp = false ∨ 4 ≤ n ∨ s.param 0xF n = 0) → exec (.pulseEdge n) s = .next s) ∧
  (∀ (k : Nat) (s : State), (s.whUp = false ∨ 2 < k ∨ k = s.wel.sealed) → exec (.sealChange k) s = .next s) ∧
  (∀ (ms : List WlIn) (s : State), s.whUp = false → exec (.displayRedraw ms) s = .next s) ∧
  (∀ (ms : List WlIn) (s : State), s.whUp = true → 1000 ≤ s.wel.ms → (s.wel.ms < 3000 ∨ s.wel.ms < s.wel.showUntil) → exec (.displayRedraw ms) s = .next (s.emit (.display (.ident whVersion whChecksum)))) ∧
  (∀ (r : WhReq) (u : State) (s : State), s.whUp = true → (s.wel.reqs.find? fun r => r.code == 36) = some r → u = s.setWel { s.wel with reqs := s.wel.reqs.erase r } → (u.wel.die = 2 ∨ 4 ≤ r.instr) → exec .pulseRead s = .next (u.respond r (if u.wel.die = 2 then 0x14 else 0x11) [])) ∧
  (∀ (x : Nat × List Byte) (r : WhReq) (u : State) (s : State), s.whUp = true → (s.wel.reqs.find? fun r => r.code == 48) = some r → u = s.setWel { s.wel with reqs := s.wel.reqs.erase r } → (u.wel.store.find? fun x => x.1 == leAt r.args 0 4) = some x → exec .recordRead s = .next (u.respond r 0 x.2)) ∧
  (∀ (r : WhReq) (u : State) (s : State), s.whUp = true → (s.wel.reqs.find? fun r => r.code == 52) = some r → u = s.setWel { s.wel with reqs := s.wel.reqs.erase r } → (r.body.length < 8 ∨ 32 < r.body.length) → exec .statement s = .next (u.respond r 0x11 [])) ∧
  (∀ (r : WhReq) (u : State) (s : State), s.whUp = true → (s.wel.reqs.find? fun r => r.code == 64) = some r → u = s.setWel { s.wel with reqs := s.wel.reqs.erase r } → u.wel.die = 2 → exec .paramWrite s = .next (u.respond r 0x14 [])) ∧
  (∀ (r : WhReq) (u : State) (s : State), s.whUp = true → (s.wel.reqs.find? fun r => r.code == 65) = some r → u = s.setWel { s.wel with reqs := s.wel.reqs.erase r } → u.wel.die = 2 → exec .keyEnrol s = .next (u.respond r 0x14 [])) ∧
  (∀ (r : WhReq) (u : State) (s : State), s.whUp = true → (s.wel.reqs.find? fun r => r.code == 66) = some r → u = s.setWel { s.wel with reqs := s.wel.reqs.erase r } → u.wel.die = 2 → exec .auditArchive s = .next (u.respond r 0x14 [])) ∧
  (∀ (r : WhReq) (u : State) (s : State), s.whUp = true → (s.wel.reqs.find? fun r => r.code == 65) = some r → u = s.setWel { s.wel with reqs := s.wel.reqs.erase r } → u.wel.die ≠ 2 → u.wel.sealed ≠ 1 → exec .keyEnrol s = .next (u.respond r stSEALED [])) ∧
  (∀ (r : WhReq) (u : State) (s : State), s.whUp = true → (s.wel.reqs.find? fun r => r.code == 66) = some r → u = s.setWel { s.wel with reqs := s.wel.reqs.erase r } → u.wel.die ≠ 2 → u.wel.sealed ≠ 1 → exec .auditArchive s = .next (u.respond r stSEALED [])) ∧
  (∀ (r : WhReq) (u : State) (s : State), s.whUp = true → (s.wel.reqs.find? fun r => r.code == 64) = some r → u = s.setWel { s.wel with reqs := s.wel.reqs.erase r } → u.wel.die ≠ 2 → u.wel.sealed = 1 → r.body.length ≠ 72 + 8 * leAt r.body 4 1 → exec .paramWrite s = .next (u.respond r 0x13 [])) ∧
  (∀ (n : Nat) (es : List (Nat × Nat)) (v : State) (st : Nat) (r : WhReq) (u : State) (s : State), s.whUp = true → (s.wel.reqs.find? fun r => r.code == 64) = some r → u = s.setWel { s.wel with reqs := s.wel.reqs.erase r } → u.wel.die ≠ 2 → u.wel.sealed = 1 → n = leAt r.body 4 1 → r.body.length = 72 + 8 * n → es = (List.range n).map (fun k => (leAt r.body (8 + 8 * k) 2, leAt r.body (12 + 8 * k) 4)) → v = u.setWel { u.wel with params := es.foldl (fun t e => tput t e.1 e.2) u.wel.params } → (st = (if leAt r.body 0 4 ≠ u.wel.eventCtr then 0x13 else if n < 1 ∨ 16 < n ∨ es.all (fun e => paramOk e.1 e.2) = false ∨ v.channelsApart = false then 0x11 else if es.any (fun e => decide (e.1 < 0x400) && !u.atRest (e.1 / 0x100)) = true then 0x16 else if 16384 < u.wel.audit.length + n then 0x15 else 0)) → st ≠ 0 → exec .paramWrite s = .next (u.respond r (if (u.signerOf (r.body.take (8 + 8 * n)) (r.body.drop (8 + 8 * n))).isNone then 0x13 else st) [])) ∧
  (∀ (r : WhReq) (u : State) (s : State), s.whUp = true → (s.wel.reqs.find? fun r => r.code == 65) = some r → u = s.setWel { s.wel with reqs := s.wel.reqs.erase r } → u.wel.die ≠ 2 → u.wel.sealed = 1 → let key := r.body.take 64; let signer := u.signerOf key (r.body.drop 64); exec .keyEnrol s = .next (if r.body.length < 64 ∨ u.wel.keys ≠ [] ∧ signer = none then u.respond r 0x13 [] else if 8 ≤ u.wel.keys.length then u.respond r 0x11 [] else if 16384 ≤ u.wel.audit.length then u.respond r 0x15 [] else ((u.setWel { u.wel with keys := u.wel.keys ++ [key], eventCtr := u.wel.eventCtr + 1, audit := u.wel.audit ++ [u.auditEntry (u.wel.eventCtr + 1) 0xFFF0 0 0 signer] }).paramRecord r).respond r 0 (leBytes 4 (u.wel.keys.length + 1))))

/-- Without power, credit or a record to send none crosses. A record sent with credit whose SEQ is the one expected, and that the
Cistern admits, is held with its arrival SN and delivered, a PARAM record with an event of its own; one below is counted, one above,
one not admitted and one in a bad frame ask for RESEND. Credit is granted for the places left and the cells there are, none to a
gateway that is not enabled. DELIVERED moves the lowest undelivered SEQ, RESEND the next SEQ to send; with no such frame on the link
nothing happens. A request goes to the Wellhouse and waits; its response completes it, a statement the KEY_ATTEST that asked for it,
one for no request is lost, and after 4,000 strokes a request ends with TIMEOUT. PROCESS counts the millisecond and halts the cycles
out of range; a good frame enters the Cistern and its intake, and the loop units have its values when the intake job commits. HELLO
brings the link up and shows what it tells, and 8,000 strokes without one take it down. A bad frame is counted. (R414, R418, R419,
R420, R421, R423, R428, R430, R431.) -/
def Obligations.GatewayAndRecordLink : Prop :=
  (∀ (ok : Bool) (s : State), (s.whUp = false ∨ s.wel.credit = 0 ∨ (s.wel.store.find? fun x => x.1 == s.wel.sendSeq) = none) → exec (.recordRx ok) s = .next s) ∧
  (∀ (ok : Bool) (q : Nat) (b : List Byte) (u : State) (s : State), s.whUp = true → s.wel.credit ≠ 0 → (s.wel.store.find? fun x => x.1 == s.wel.sendSeq) = some (q, b) → u = s.setWel { s.wel with credit := s.wel.credit - 1, sendSeq := s.wel.sendSeq + 1 } → u.wlgUp = false → exec (.recordRx ok) s = .next u) ∧
  (∀ (q : Nat) (b : List Byte) (u : State) (v : State) (cell : Nat) (s : State), s.whUp = true → s.wel.credit ≠ 0 → (s.wel.store.find? fun x => x.1 == s.wel.sendSeq) = some (q, b) → u = s.setWel { s.wel with credit := s.wel.credit - 1, sendSeq := s.wel.sendSeq + 1 } → u.wlgUp = true → u.wlg.expect.getD q = q → u.storeFrame 42 0 b true none = some (v, cell) → let w := (v.setWlg { v.wlg with expect := some (q + 1), held := v.wlg.held ++ [(q, b, v.sn, cell, true)] }).showHeld; exec (.recordRx true) s = .next ((if leAt b 0 1 = 7 then w.record EV_PARAM_CHANGED 0 (leAt b 8 4) q 0 else w).wlgDeliver 64)) ∧
  (∀ (q : Nat) (b : List Byte) (u : State) (s : State), s.whUp = true → s.wel.credit ≠ 0 → (s.wel.store.find? fun x => x.1 == s.wel.sendSeq) = some (q, b) → u = s.setWel { s.wel with credit := s.wel.credit - 1, sendSeq := s.wel.sendSeq + 1 } → u.wlgUp = true → u.wlg.expect.getD q = q → (u.storeFrame 42 0 b true none).isSome = false → exec (.recordRx true) s = .next ((u.admitDrop 42).wlgSend 0x03 q)) ∧
  (∀ (q : Nat) (b : List Byte) (u : State) (e : Nat) (s : State), s.whUp = true → s.wel.credit ≠ 0 → (s.wel.store.find? fun x => x.1 == s.wel.sendSeq) = some (q, b) → u = s.setWel { s.wel with credit := s.wel.credit - 1, sendSeq := s.wel.sendSeq + 1 } → u.wlgUp = true → u.wlg.expect = some e → q < e → exec (.recordRx true) s = .next (u.count WLG_DUP 1)) ∧
  (∀ (q : Nat) (b : List Byte) (u : State) (e : Nat) (s : State), s.whUp = true → s.wel.credit ≠ 0 → (s.wel.store.find? fun x => x.1 == s.wel.sendSeq) = some (q, b) → u = s.setWel { s.wel with credit := s.wel.credit - 1, sendSeq := s.wel.sendSeq + 1 } → u.wlgUp = true → u.wlg.expect = some e → e < q → exec (.recordRx true) s = .next (u.wlgSend 0x03 e)) ∧
  (∀ (q : Nat) (b : List Byte) (u : State) (s : State), s.whUp = true → s.wel.credit ≠ 0 → (s.wel.store.find? fun x => x.1 == s.wel.sendSeq) = some (q, b) → u = s.setWel { s.wel with credit := s.wel.credit - 1, sendSeq := s.wel.sendSeq + 1 } → u.wlgUp = true → exec (.recordRx false) s = .next (u.wlgBadFrame.wlgSend 0x03 (u.wlg.expect.getD q))) ∧
  (∀ (m : List WlIn) (rs : List Word) (ok : Bool) (s : State), s.whUp = false → exec (.process m rs ok) s = .next s) ∧
  (∀ (m : List WlIn) (rs : List Word) (ok : Bool) (u : State) (s : State), s.whUp = true → u = (s.setWel { s.wel with ms := s.wel.ms + 1 }).haltRange m → exec (.process m rs ok) s = .next (if u.wlgUp = false then u else if ok = false then u.wlgBadFrame else if u.flag WLG_CFG_PROC_EN = false then u else u.enterProc ((List.range 4).map fun i => ⟨unsigned 32 (whole16 (u.weight16 i (m.getD i ⟨[], [], 0⟩))), (rs.getD i 0).toNat, u.procState i, u.weightFlags i (m.getD i ⟨[], [], 0⟩) (u.weight16 i (m.getD i ⟨[], [], 0⟩)), u.sn⟩))) ∧
  (∀ (m : List WlIn) (rs : List Word) (ok : Bool) (s : State), s.whUp = true → ∃ t, exec (.process m rs ok) s = .next t ∧ t.wel.ms = s.wel.ms + 1 ∧ t.wlg.proc = s.wlg.proc) ∧
  (∀ (m : List WlIn) (rs : List Word) (s : State), s.whUp = true → (s.wlgUp && s.flag WLG_CFG_PROC_EN) = true → (((s.setWel { s.wel with ms := s.wel.ms + 1 }).haltRange m).storeFrame 42 0 (List.replicate 52 0) true none).isSome = true → ∃ t, exec (.process m rs true) s = .next t ∧ t.disp.jobs.length = s.disp.jobs.length + 1 ∧ ∃ id vs, t.wlg.frames = s.wlg.frames ++ [(s.disp.nextId, id, vs)] ∧ vs.length = 4 ∧ ∀ v ∈ vs, v.sn = s.sn) ∧
  (∀ (k : Nat) (ns : Nat) (j : Job) (f : Nat × Nat × List ProcValue) (s : State), s.serving = true → s.job? k = some j → j.desc = none → s.procFrame j = some f → s.mayCommit j = true → exec (.jobCommit k ns .finished) s = .next ((((s.setWlg { s.wlg with frames := s.wlg.frames.erase f }).freeFrame f.2.1).setWlg { ((s.setWlg { s.wlg with frames := s.wlg.frames.erase f }).freeFrame f.2.1).wlg with proc := f.2.2.map some }).commitOne j)) ∧
  (∀ (s : State), s.whUp = true → (s.setWel { s.wel with helloNow := false }).wlgUp = true → exec (.hello true) s = .next (s.setWel { s.wel with helloNow := false }).helloViews.helloDie.helloSeal.helloBacklog.helloLink.helloRecords ∧ (s.setWel { s.wel with helloNow := false }).helloViews.helloDie.helloSeal.helloBacklog.helloLink.flag WLG_STATUS_LINK_UP = true) ∧
  (∀ (s : State), s.whUp = true → (s.setWel { s.wel with helloNow := false }).wlgUp = true → exec (.hello false) s = .next (s.setWel { s.wel with helloNow := false }).wlgBadFrame) ∧
  (∀ (ok : Bool) (s : State), s.whUp = false → exec (.hello ok) s = .next s) ∧
  (∀ (ok : Bool) (s : State), s.whUp = true → (s.setWel { s.wel with helloNow := false }).wlgUp = false → exec (.hello ok) s = .next (s.setWel { s.wel with helloNow := false })) ∧
  (∀ (p : WhResp) (q : List WhResp) (d : Desc) (k : Nat) (u : State) (s : State), s.wel.resps = p :: q → u = s.setWel { s.wel with resps := q } → u.wlgUp = true → (u.wlg.reqs.find? fun x => x.1 == p.id) = some (p.id, d, k) → d.opcode ≠ 0xE007 → p.status = 0 → let v := u.setWlg { u.wlg with reqs := u.wlg.reqs.filter fun x => x.1 != p.id }; exec (.whResponse true) s = .next (v.finish d (v.answer d p.bytes (if givesNumber p.code then leAt p.bytes 0 4 else 0)))) ∧
  (∀ (p : WhResp) (q : List WhResp) (d : Desc) (k : Nat) (u : State) (s : State), s.wel.resps = p :: q → u = s.setWel { s.wel with resps := q } → u.wlgUp = true → (u.wlg.reqs.find? fun x => x.1 == p.id) = some (p.id, d, k) → d.opcode ≠ 0xE007 → p.status ≠ 0 → let v := u.setWlg { u.wlg with reqs := u.wlg.reqs.filter fun x => x.1 != p.id }; exec (.whResponse true) s = .next (v.finish d (v.fail p.status))) ∧
  (∀ (s : State), s.whUp = true → s.wlgUp = true → s.flag WLG_CFG_ENABLE = true → (s.storeFrame 42 0 (List.replicate 128 0) true none).isSome = true → ∃ t, exec .credit s = .next t ∧ t = s.setWel { s.wel with credit := s.recordRoom (64 - s.wlg.held.length) } ∧ t.wel.credit ≤ 64 - s.wlg.held.length ∧ (s.wlg.held.length < 64 → 1 ≤ t.wel.credit)) ∧
  (∀ (s : State), s.whUp = true → (s.wlgUp && s.flag WLG_CFG_ENABLE) = false → exec .credit s = .next (s.setWel { s.wel with credit := 0 })) ∧
  (∀ (s : State), s.whUp = false → exec .credit s = .next s) ∧
  (∀ (s : State), (s.serving = false ∨ s.linkFrame 0x02 = none) → exec .delivered s = .next s) ∧
  (∀ (s : State), (s.serving = false ∨ s.linkFrame 0x03 = none) → exec .resend s = .next s) ∧
  (∀ (q : Nat) (s : State), s.serving = true → s.linkFrame 0x02 = some q → (s.whUp = false ∨ s.wel.nextSeq ≤ q) → exec .delivered s = .next (s.linkDrop 0x02 q)) ∧
  (∀ (q : Nat) (s : State), s.serving = true → s.linkFrame 0x03 = some q → s.whUp = false → exec .resend s = .next (s.linkDrop 0x03 q)) ∧
  (∀ (ok : Bool) (s : State), s.wel.resps = [] → exec (.whResponse ok) s = .next s) ∧
  (∀ (ok : Bool) (p : WhResp) (q : List WhResp) (u : State) (s : State), s.wel.resps = p :: q → u = s.setWel { s.wel with resps := q } → (u.wlgUp = false ∨ (ok = true ∧ (u.wlg.reqs.find? fun x => x.1 == p.id) = none)) → exec (.whResponse ok) s = .next u) ∧
  (∀ (p : WhResp) (q : List WhResp) (u : State) (s : State), s.wel.resps = p :: q → u = s.setWel { s.wel with resps := q } → u.wlgUp = true → exec (.whResponse false) s = .next u.wlgBadFrame) ∧
  (∀ (p : WhResp) (q : List WhResp) (d : Desc) (k : Nat) (u : State) (s : State), s.wel.resps = p :: q → u = s.setWel { s.wel with resps := q } → u.wlgUp = true → (u.wlg.reqs.find? fun x => x.1 == p.id) = some (p.id, d, k) → d.opcode = 0xE007 → let v := u.setWlg { u.wlg with reqs := u.wlg.reqs.filter fun x => x.1 != p.id }; exec (.whResponse true) s = .next (v.finish d (v.attest d (if p.status = 0 then some p.bytes else none)))) ∧
  (∀ (q : Nat) (s : State), s.serving = true → s.linkFrame 0x02 = some q → (s.linkDrop 0x02 q).whUp = true → q < (s.linkDrop 0x02 q).wel.nextSeq → let u := s.linkDrop 0x02 q; exec .delivered s = .next (u.setWel { u.wel with lowest := max u.wel.lowest (q + 1) }).noteBacklog) ∧
  (∀ (q : Nat) (s : State), s.serving = true → s.linkFrame 0x03 = some q → (s.linkDrop 0x03 q).whUp = true → let u := s.linkDrop 0x03 q; exec .resend s = .next (u.setWel { u.wel with sendSeq := max u.wel.lowest (min q u.wel.nextSeq), helloNow := true })) ∧
  (∀ (d : Desc) (s : State), Runs s d → s.flag WLG_STATUS_LINK_UP = true → s.whUp = true → ∃ u : State, exec (.wlgRequest d) s = .next (s.finish d u.later) ∧ u.wel.reqs = s.wel.reqs ++ [⟨d.op 32 1, s.wlg.nextId, d.op 36 4, d.op 33 1, slice d.ops 8 8, d.buf⟩] ∧ u.wlg.reqs = s.wlg.reqs ++ [(s.wlg.nextId, d, s.sn)]) ∧
  (∀ (d : Desc) (s : State), Runs s d → s.flag WLG_STATUS_LINK_UP = false → exec (.wlgRequest d) s = .next (s.finish d (s.fail stABSENT))) ∧
  (∀ (i : Nat) (d : Desc) (k : Nat) (s : State), s.serving = true → (s.wlg.reqs.find? fun q => q.2.1.opcode == 0xC001 && decide (q.2.2 + 4000 ≤ s.sn)) = some (i, d, k) → ∃ u : State, exec .reqTimeout s = .next (u.finish d (u.fail stTIMEOUT)) ∧ u.wlg.reqs = s.wlg.reqs.filter (fun q => q.1 != i) ∧ u.wel.reqs = s.wel.reqs.filter (fun r => r.id != i) ∧ u.num WLG_REQ_TIMEOUT = (s.num WLG_REQ_TIMEOUT + 1) % 2 ^ 32) ∧
  (∀ (s : State), s.wlgUp = true → s.flag WLG_STATUS_LINK_UP = true → s.wlg.helloAt + 8000 ≤ s.now → exec .whLink s = .next ((s.put WLG_STATUS_LINK_UP 0).record EV_WH_LINK 0 0 s.wel.serial s.wel.bootCount)) ∧
  (∀ (d : Desc) (s : State), Runs s d → s.flag WLG_STATUS_LINK_UP = true → s.whUp = false → exec (.wlgRequest d) s = .next (s.finish d (s.setWlg { s.wlg with nextId := (s.wlg.nextId + 1) % 0x10000, reqs := s.wlg.reqs ++ [(s.wlg.nextId, d, s.sn)] }).later)) ∧
  (∀ (s : State), (s.serving = false ∨ (s.wlg.reqs.find? fun q => q.2.1.opcode == 0xC001 && decide (q.2.2 + 4000 ≤ s.sn)) = none) → exec .reqTimeout s = .next s) ∧
  (∀ (s : State), (s.wlgUp = false ∨ s.flag WLG_STATUS_LINK_UP = false ∨ s.now < s.wlg.helloAt + 8000) → exec .whLink s = .next s)

/-- MOT_SEG_LOAD writes the segments named at once, CONFLICT where the range holds the running or the next one. MOT_PROFILE, MOT_MOVE
and MOT_HOME start on a standing axis and complete later; they are refused when the axis is busy or follows a loop, not referenced,
at a latched limit or inhibited in that direction, a profile whose first segment is not there BAD_PROFILE, a homing with a creep
above SAFE_V HOME_NOT_FOUND; a homing that begins with HOME active begins with the creep away from it. MOT_RETUNE changes a running
move from the next stroke, and is AXIS_BUSY without one. MOT_STOP ends at once when its axes stand, else when they do. MOT_ENABLE
enables with the fault cleared or takes the drive of the power stage, MOT_SET_POS sets and references a position and moves the
latches with it, MOT_QUERY answers 32 bytes. On a disabled axis every command is LOCKED. (R438, R439, R440, R443, R445, R447, R448,
R449.) -/
def Obligations.MotionCommands : Prop :=
  (∀ (d : Desc) (s : State), Runs s d → (s.flag (MOT_AXIS_CFG_ENABLE (d.op 32 1)) = false ∨ (s.axis (d.op 32 1)).enabled = false) → exec (.motSegLoad d) s = .next (s.finish d (s.fail stLOCKED)) ∧ exec (.motProfile d) s = .next (s.finish d (s.fail stLOCKED)) ∧ exec (.motMove d) s = .next (s.finish d (s.fail stLOCKED)) ∧ exec (.motRetune d) s = .next (s.finish d (s.fail stLOCKED)) ∧ exec (.motHome d) s = .next (s.finish d (s.fail stLOCKED)) ∧ exec (.motSetPos d) s = .next (s.finish d (s.fail stLOCKED)) ∧ exec (.motQuery d) s = .next (s.finish d (s.fail stLOCKED))) ∧
  (∀ (d : Desc) (n : Nat) (s : State), Runs s d → n = d.op 32 1 → s.flag (MOT_AXIS_CFG_ENABLE n) = true → (s.axis n).enabled = true → (s.axis n).cmd = none → d.bufLen / 16 = 1 → ∃ u : State, exec (.motSegLoad d) s = .next (s.finish d u.ok) ∧ (u.axis n).segs = tput (s.axis n).segs (d.op 33 1) (AxisSeg.ofBytes (slice d.buf 0 16)) ∧ (u.axis n).pos = (s.axis n).pos) ∧
  (∀ (d : Desc) (n : Nat) (e : Desc) (i : Nat) (s : State), Runs s d → n = d.op 32 1 → s.flag (MOT_AXIS_CFG_ENABLE n) = true → (s.axis n).enabled = true → (s.axis n).cmd = some (.profile e i) → d.op 33 1 ≤ i → i < d.op 33 1 + d.bufLen / 16 → exec (.motSegLoad d) s = .next (s.finish d (s.fail stCONFLICT))) ∧
  (∀ (d : Desc) (n : Nat) (r : Run) (s : State), Runs s d → n = d.op 32 1 → s.flag (MOT_AXIS_CFG_ENABLE n) = true → (s.axis n).enabled = true → (s.axis n).speed = none → (s.axis n).busy = false → (s.axis n).referenced = true → (s.axis n).runOf (d.op 33 1) (s.axis n).pos 0 = some r → (s.axis n).latchedToward (decide ((s.axis n).pos < r.p1)) = false → s.blocks n (decide ((s.axis n).pos < r.p1)) = false → exec (.motProfile d) s = .next (s.finish d (s.modAxis n fun a => { a with cmd := some (.profile d (d.op 33 1)), plan := some r, target := micro r.p1 }).later)) ∧
  (∀ (d : Desc) (n : Nat) (s : State), Runs s d → n = d.op 32 1 → s.flag (MOT_AXIS_CFG_ENABLE n) = true → (s.axis n).enabled = true → (s.axis n).speed = none → (s.axis n).busy = false → (s.axis n).referenced = false → bit (d.op 34 1) 0 = false → exec (.motProfile d) s = .next (s.finish d (s.fail stNOT_REFERENCED))) ∧
  (∀ (d : Desc) (n : Nat) (t : Int) (s : State), Runs s d → n = d.op 32 1 → s.flag (MOT_AXIS_CFG_ENABLE n) = true → (s.axis n).enabled = true → (s.axis n).speed = none → (s.axis n).busy = false → bit (d.op 33 1) 0 = false → t = wrapQ (signed 64 (d.op 40 8) * 65536) → (s.axis n).latchedToward (decide ((s.axis n).pos < t)) = false → s.blocks n (decide ((s.axis n).pos < t)) = false → exec (.motMove d) s = .next (s.finish d (s.modAxis n fun a => { a with cmd := some (.move d t (if d.op 48 4 = 0 then s.axisVmax n else d.op 48 4) (max 1 (d.op 52 4)) (max 1 (d.op 56 4)) none false none), target := micro t }).later)) ∧
  (∀ (d : Desc) (n : Nat) (s : State), Runs s d → n = d.op 32 1 → s.flag (MOT_AXIS_CFG_ENABLE n) = true → (s.axis n).enabled = true → (s.axis n).busy = true → exec (.motMove d) s = .next (s.finish d (s.fail stAXIS_BUSY)) ∧ exec (.motSetPos d) s = .next (s.finish d (s.fail stAXIS_BUSY)) ∧ exec (.motHome d) s = .next (s.finish d (s.fail stAXIS_BUSY)) ∧ exec (.motProfile d) s = .next (s.finish d (s.fail stAXIS_BUSY))) ∧
  (∀ (d : Desc) (n : Nat) (e : Desc) (t : Int) (vm : Nat) (ac : Nat) (de : Nat) (rp : Option Nat) (dn : Bool) (s : State), Runs s d → n = d.op 32 1 → s.flag (MOT_AXIS_CFG_ENABLE n) = true → (s.axis n).enabled = true → (s.axis n).cmd = some (.move e t vm ac de rp dn none) → exec (.motRetune d) s = .next (s.finish d (s.modAxis n fun a => { a with cmd := some (.move e t vm ac de rp dn (some (d.op 48 4, d.op 52 4, d.op 56 4))) }).ok)) ∧
  (∀ (d : Desc) (n : Nat) (s : State), Runs s d → n = d.op 32 1 → s.flag (MOT_AXIS_CFG_ENABLE n) = true → (s.axis n).enabled = true → (s.axis n).speed = none → (s.axis n).busy = false → (s.axis n).home.active = false → d.op 44 4 ≤ s.num (MOT_SAFE_V n) → (s.axis n).latchedToward (!bit (d.op 33 1) 0) = false → s.blocks n (!bit (d.op 33 1) 0) = false → exec (.motHome d) s = .next (s.finish d (s.modAxis n fun a => { a with cmd := some (.home d (bit (d.op 33 1) 0) (d.op 40 4) (d.op 44 4) (max 1 (d.op 56 4)) (signed 64 (d.op 48 8)) 2 0 s.sn) }).later)) ∧
  (∀ (d : Desc) (s : State), Runs s d → (∀ n < 16, bit (d.op 32 2) n = true → s.flag (MOT_AXIS_CFG_ENABLE n) = true ∧ (s.axis n).enabled = true ∧ (s.axis n).cmd = none ∧ (s.axis n).v16 = 0) → ∃ u : State, exec (.motStop d) s = .next (s.finish d u.ok) ∧ ∀ n < 16, bit (d.op 32 2) n = true → (u.axis n).run = none ∧ (u.axis n).plan = none ∧ (u.axis n).pos = (s.axis n).pos) ∧
  (∀ (d : Desc) (n : Nat) (s : State), Runs s d → n < 16 → bit (d.op 32 2) n = true → (s.axis n).enabled = false → exec (.motStop d) s = .next (s.finish d (s.fail stLOCKED))) ∧
  (∀ (d : Desc) (n : Nat) (s : State), Runs s d → n = d.op 32 1 → s.flag (MOT_AXIS_CFG_ENABLE n) = true → d.op 33 1 = 1 → exec (.motEnable d) s = .next (s.finish d (s.modAxis n fun a => { a with enabled := true, fault := false, overspeed := false }).ok)) ∧
  (∀ (d : Desc) (n : Nat) (s : State), Runs s d → n = d.op 32 1 → s.flag (MOT_AXIS_CFG_ENABLE n) = true → d.op 33 1 = 0 → (s.axis n).enabled = true → exec (.motEnable d) s = .next (s.finish d ((s.powerDown n).endAxis n stLOCKED).stopsDone.ok) ∧ ((s.powerDown n).axis n).enabled = false ∧ ((s.powerDown n).axis n).v16 = 0) ∧
  (∀ (d : Desc) (n : Nat) (s : State), Runs s d → n = d.op 32 1 → s.flag (MOT_AXIS_CFG_ENABLE n) = true → (s.axis n).enabled = true → (s.axis n).busy = false → ∃ u : State, exec (.motSetPos d) s = .next (s.finish d u.ok) ∧ (u.axis n).pos = signed 64 (d.op 40 8) * 65536 ∧ (u.axis n).referenced = true ∧ (u.axis n).segs = (s.axis n).segs) ∧
  (∀ (d : Desc) (n : Nat) (s : State), Runs s d → n = d.op 32 1 → s.flag (MOT_AXIS_CFG_ENABLE n) = true → (s.axis n).enabled = true → ∃ b, exec (.motQuery d) s = .next (s.finish d (s.answer d b)) ∧ b.length = 32 ∧ b.take 8 = leBytes 8 (unsigned 64 (s.axis n).pos)) ∧
  (∀ (d : Desc) (n : Nat) (s : State), Runs s d → n = d.op 32 1 → s.flag (MOT_AXIS_CFG_ENABLE n) = true → (s.axis n).enabled = true → (∀ e i, (s.axis n).cmd = some (.profile e i) → ¬ (d.op 33 1 ≤ i ∧ i < d.op 33 1 + d.bufLen / 16) ∧ ∀ g k, tget (s.axis n).segs i = some g → nextSeg i g = some k → ¬ (d.op 33 1 ≤ k ∧ k < d.op 33 1 + d.bufLen / 16)) → ∃ u : State, exec (.motSegLoad d) s = .next (s.finish d u.ok) ∧ (u.axis n).segs = (List.range (d.bufLen / 16)).foldl (fun t k => tput t (d.op 33 1 + k) (AxisSeg.ofBytes (slice d.buf (16 * k) 16))) (s.axis n).segs ∧ (u.axis n).cmd = (s.axis n).cmd) ∧
  (∀ (d : Desc) (n : Nat) (e : Desc) (i : Nat) (g : AxisSeg) (k : Nat) (s : State), Runs s d → n = d.op 32 1 → s.flag (MOT_AXIS_CFG_ENABLE n) = true → (s.axis n).enabled = true → (s.axis n).cmd = some (.profile e i) → tget (s.axis n).segs i = some g → nextSeg i g = some k → d.op 33 1 ≤ k → k < d.op 33 1 + d.bufLen / 16 → exec (.motSegLoad d) s = .next (s.finish d (s.fail stCONFLICT))) ∧
  (∀ (d : Desc) (n : Nat) (s : State), Runs s d → n = d.op 32 1 → s.flag (MOT_AXIS_CFG_ENABLE n) = true → (s.axis n).enabled = true → exec (.motProfile d) s = .next (s.finish d (if (s.axis n).speed.isSome ∨ (s.axis n).busy then s.fail stAXIS_BUSY else if (s.axis n).referenced = false ∧ bit (d.op 34 1) 0 = false then s.fail stNOT_REFERENCED else match (s.axis n).runOf (d.op 33 1) (s.axis n).pos 0 with | none => s.fail stBAD_PROFILE | some r => if r.p1 ≠ (s.axis n).pos ∧ (s.axis n).latchedToward (decide ((s.axis n).pos < r.p1)) then s.fail stLIMIT else if r.p1 ≠ (s.axis n).pos ∧ s.blocks n (decide ((s.axis n).pos < r.p1)) then s.fail stINHIBITED else (s.modAxis n fun a => { a with cmd := some (.profile d (d.op 33 1)), plan := some r, target := micro r.p1 }).later))) ∧
  (∀ (d : Desc) (n : Nat) (t : Int) (s : State), Runs s d → n = d.op 32 1 → s.flag (MOT_AXIS_CFG_ENABLE n) = true → (s.axis n).enabled = true → t = wrapQ (if bit (d.op 33 1) 0 then (s.axis n).pos + signed 64 (d.op 40 8) * 65536 else signed 64 (d.op 40 8) * 65536) → exec (.motMove d) s = .next (s.finish d (if (s.axis n).speed.isSome ∨ (s.axis n).busy then s.fail stAXIS_BUSY else if t ≠ (s.axis n).pos ∧ (s.axis n).latchedToward (decide ((s.axis n).pos < t)) then s.fail stLIMIT else if t ≠ (s.axis n).pos ∧ s.blocks n (decide ((s.axis n).pos < t)) then s.fail stINHIBITED else (s.modAxis n fun a => { a with cmd := some (.move d t (if d.op 48 4 = 0 then s.axisVmax n else d.op 48 4) (max 1 (d.op 52 4)) (max 1 (d.op 56 4)) none false none), target := micro t }).later))) ∧
  (∀ (d : Desc) (n : Nat) (e : Desc) (t : Int) (vm : Nat) (ac : Nat) (de : Nat) (rp : Option Nat) (dn : Bool) (o : Nat × Nat × Nat) (s : State), Runs s d → n = d.op 32 1 → s.flag (MOT_AXIS_CFG_ENABLE n) = true → (s.axis n).enabled = true → (s.axis n).cmd = some (.move e t vm ac de rp dn (some o)) → exec (.motRetune d) s = .next (s.finish d (s.modAxis n fun a => { a with cmd := some (.move e t vm ac de rp dn (some (if d.op 48 4 = 0 then o.1 else d.op 48 4, if d.op 52 4 = 0 then o.2.1 else d.op 52 4, if d.op 56 4 = 0 then o.2.2 else d.op 56 4))) }).ok)) ∧
  (∀ (d : Desc) (n : Nat) (s : State), Runs s d → n = d.op 32 1 → s.flag (MOT_AXIS_CFG_ENABLE n) = true → (s.axis n).enabled = true → (∀ e t vm ac de rp dn o, (s.axis n).cmd ≠ some (.move e t vm ac de rp dn o)) → exec (.motRetune d) s = .next (s.finish d (s.fail stAXIS_BUSY))) ∧
  (∀ (d : Desc) (n : Nat) (s : State), Runs s d → n = d.op 32 1 → s.flag (MOT_AXIS_CFG_ENABLE n) = true → (s.axis n).enabled = true → (s.axis n).speed = none → (s.axis n).busy = false → (s.axis n).home.active = true → d.op 44 4 ≤ s.num (MOT_SAFE_V n) → (s.axis n).latchedToward (bit (d.op 33 1) 0) = false → s.blocks n (bit (d.op 33 1) 0) = false → exec (.motHome d) s = .next (s.finish d (s.modAxis n fun a => { a with cmd := some (.home d (bit (d.op 33 1) 0) (d.op 40 4) (d.op 44 4) (max 1 (d.op 56 4)) (signed 64 (d.op 48 8)) 4 0 s.sn) }).later)) ∧
  (∀ (d : Desc) (n : Nat) (s : State), Runs s d → n = d.op 32 1 → s.flag (MOT_AXIS_CFG_ENABLE n) = true → (s.axis n).enabled = true → (s.axis n).speed = none → (s.axis n).busy = false → s.num (MOT_SAFE_V n) < d.op 44 4 → exec (.motHome d) s = .next (s.finish d ((s.record EV_HOME_FAILED 0 n 1 0).fail stHOME_NOT_FOUND))) ∧
  (∀ (d : Desc) (n : Nat) (up : Bool) (s : State), Runs s d → n = d.op 32 1 → s.flag (MOT_AXIS_CFG_ENABLE n) = true → (s.axis n).enabled = true → (s.axis n).speed = none → (s.axis n).busy = false → d.op 44 4 ≤ s.num (MOT_SAFE_V n) → up = (if (s.axis n).home.active then bit (d.op 33 1) 0 else !bit (d.op 33 1) 0) → ((s.axis n).latchedToward up = true ∨ s.blocks n up = true) → exec (.motHome d) s = .next (s.finish d (s.fail (if (s.axis n).latchedToward up then stLIMIT else stINHIBITED)))) ∧
  (∀ (d : Desc) (s : State), Runs s d → (∀ n < 16, bit (d.op 32 2) n = true → s.flag (MOT_AXIS_CFG_ENABLE n) = true ∧ (s.axis n).enabled = true) → (∃ n < 16, bit (d.op 32 2) n = true ∧ (s.axis n).v16 ≠ 0) → let u := ((List.range 16).filter fun n => bit (d.op 32 2) n).foldl (fun s n => s.stopAxis n stSTOPPED) s; exec (.motStop d) s = .next (s.finish d (u.setMot { u.mot with stops := u.mot.stops ++ [(d, d.op 32 2)] }).later)) ∧
  (∀ (d : Desc) (n : Nat) (s : State), Runs s d → n < 16 → bit (d.op 32 2) n = true → s.flag (MOT_AXIS_CFG_ENABLE n) = false → exec (.motStop d) s = .next (s.finish d (s.fail stLOCKED))) ∧
  (∀ (d : Desc) (s : State), Runs s d → s.flag (MOT_AXIS_CFG_ENABLE (d.op 32 1)) = false → exec (.motEnable d) s = .next (s.finish d (s.fail stLOCKED))) ∧
  (∀ (d : Desc) (n : Nat) (s : State), Runs s d → n = d.op 32 1 → s.flag (MOT_AXIS_CFG_ENABLE n) = true → d.op 33 1 ≠ 1 → (s.axis n).enabled = false → exec (.motEnable d) s = .next (s.finish d s.ok)) ∧
  (∀ (d : Desc) (n : Nat) (s : State), Runs s d → n = d.op 32 1 → s.flag (MOT_AXIS_CFG_ENABLE n) = true → (s.axis n).enabled = true → (s.axis n).busy = false → ∃ u : State, exec (.motSetPos d) s = .next (s.finish d u.ok) ∧ (u.axis n).latchP = (s.axis n).latchP.map (fun p => p + (signed 64 (d.op 40 8) * 65536 - (s.axis n).pos)) ∧ (u.axis n).latchN = (s.axis n).latchN.map (fun p => p + (signed 64 (d.op 40 8) * 65536 - (s.axis n).pos))) ∧
  (∀ (d : Desc) (n : Nat) (s : State), Runs s d → n = d.op 32 1 → s.flag (MOT_AXIS_CFG_ENABLE n) = true → (s.axis n).enabled = true → exec (.motQuery d) s = .next (s.finish d (s.answer d (leBytes 8 (unsigned 64 (s.axis n).pos) ++ leBytes 4 (unsigned 32 (s.axis n).v) ++ leBytes 4 (s.axStat n) ++ leBytes 8 (unsigned 64 (s.axis n).target) ++ leBytes 8 0))))

/-- At a sub-tick every enabled axis takes its next position, and the bridges of the axes in drive what they are given: one with a
segment in force takes its position and velocity from the cubic when the step is small and free. Once a stroke the job of an axis
gives a running move or search its next segment. A driver fault that has stood long enough powers the axis down, counts and ends its
command with AXIS_FAULT; a shorter one, one already latched and one of an axis not in the configuration do nothing. A limit
qualified active latches the position and stops an axis that moves toward it; home qualified active ends a search, and qualified
inactive in the creep sets the home position and ends MOT_HOME; an input that has not stood long enough does nothing. An inhibit
freezes an axis that moves in a blocked direction. A read of MOT_POS_LO latches the position. Before the first stroke and in HALT
the axes do nothing. (R434, R435, R436, R437, R439, R443, R444, R445, R446, R447, R448, R451.) -/
def Obligations.MotionHardware : Prop :=
  (∀ (s : State), s.motLive = true → exec .subTick s = .next ((List.range 16).foldl State.tickAxis s).driveAxes.stopsDone) ∧
  (∀ (n : Nat) (o : Bool) (mv : Nat) (ns : Nat) (s : State), s.motLive = false → exec .subTick s = .next s ∧ exec (.axisFault n o mv ns) s = .next s ∧ exec (.inhibitFreeze n) s = .next s) ∧
  (∀ (n : Nat) (r : Run) (st : Int) (s : State), s.motLive = true → n < 16 → s.axisEn n = true → (∀ m < 16, m ≠ n → s.axisEn m = false) → s.mot.stops = [] → s.waveStops n = false → (s.axis n).stopping = false → (s.axis n).run = some r → st = r.p (r.k + 1) - (if r.k = 0 then r.p0 else r.p r.k) → absI st ≤ 256 * 65536 → s.blocks n (decide (0 < st)) = false → (s.axis n).latchedToward (decide (0 < st)) = false → r.k + 1 ≠ 16 * r.t → ∃ t, exec .subTick s = .next t ∧ (t.axis n).pos = wrapQ ((s.axis n).pos + st) ∧ (t.axis n).v16 = 256 * st ∧ (t.axis n).run = some { r with k := r.k + 1 } ∧ (t.axis n).cmd = (s.axis n).cmd ∧ t.out = Out.axes [(n, t.axisBridge n)] :: s.out ∧ ∀ m < 16, m ≠ n → t.axis m = s.axis m) ∧
  (∀ (s : State), s.motLive = true → (∀ m < 16, s.axisEn m = false) → exec .subTick s = .next s.stopsDone) ∧
  (∀ (n : Nat) (j : Job) (v : State) (s : State), s.serving = true → s.work 0x13 n = some j → v = { s with sn := j.sn } → exec (.moveStep n) s = .next (({ (if v.axisEn n && !(v.axis n).stopping && (v.axis n).plan.isNone then v.modAxis n Axis.planned else v) with sn := s.sn } : State).commitOne j)) ∧
  (∀ (n : Nat) (s : State), (s.serving = false ∨ s.work 0x13 n = none) → exec (.moveStep n) s = .next s) ∧
  (∀ (n : Nat) (o : Bool) (mv : Nat) (ns : Nat) (s : State), s.motLive = true → n < 16 → s.flag (MOT_AXIS_CFG_ENABLE n) = true → (s.axis n).fault = false → (s.axis n).enabled = true → (if o then 1000 else 2000) ≤ ns → (o = false ∨ s.get (MOT_OC_OC_LIMIT n) * 250 < mv * 255) → let u := ((s.count MOT_FAULTS 1).record EV_AXIS_FAULT 0 n (if o then 1 else 0) mv).powerDown n; exec (.axisFault n o mv ns) s = .next ((u.modAxis n fun a => { a with fault := true }).endAxis n stAXIS_FAULT).stopsDone ∧ (u.axis n).enabled = false ∧ (u.axis n).v16 = 0) ∧
  (∀ (n : Nat) (o : Bool) (mv : Nat) (ns : Nat) (s : State), (16 ≤ n ∨ s.flag (MOT_AXIS_CFG_ENABLE n) = false ∨ (s.axis n).fault = true ∨ ns < (if o then 1000 else 2000) ∨ (o = true ∧ mv * 255 ≤ s.get (MOT_OC_OC_LIMIT n) * 250)) → exec (.axisFault n o mv ns) s = .next s) ∧
  (∀ (n : Nat) (p : Bool) (l : Bool) (us : Nat) (s : State), (s.mainLive = false ∨ 16 ≤ n ∨ s.qualified n us = false) → exec (.limitQualify n p l us) s = .next s ∧ exec (.homeQualify n l us) s = .next s) ∧
  (∀ (n : Nat) (l : Bool) (us : Nat) (e : Desc) (i : Nat) (x : AxisIn) (u : State) (s : State), s.mainLive = true → n < 16 → s.qualified n us = true → l ≠ s.flag (MOT_AXIS_CFG_LIMP_POL n) → s.noteChatter n 0 ((s.axis n).limp.change true s.sn) = (u, x) → (s.axis n).latchP = none → 0 < (s.axis n).v16 → (s.axis n).cmd = some (.profile e i) → ∃ w : State, exec (.limitQualify n true l us) s = .next ((w.stopAxis n stLIMIT).clearLatches n).stopsDone ∧ (w.axis n).latchP = some (s.axis n).pos ∧ (w.axis n).limp = x ∧ (w.axis n).pos = (s.axis n).pos) ∧
  (∀ (n : Nat) (l : Bool) (us : Nat) (x : AxisIn) (u : State) (s : State), s.mainLive = true → n < 16 → s.qualified n us = true → l ≠ s.flag (MOT_AXIS_CFG_LIMN_POL n) → s.noteChatter n 1 ((s.axis n).limn.change true s.sn) = (u, x) → (s.axis n).latchN = none → 0 ≤ (s.axis n).v16 → ∃ w : State, exec (.limitQualify n false l us) s = .next (w.clearLatches n).stopsDone ∧ (w.axis n).latchN = some (s.axis n).pos ∧ (w.axis n).limn = x ∧ (w.axis n).cmd = (s.axis n).cmd ∧ (w.axis n).v16 = (s.axis n).v16) ∧
  (∀ (n : Nat) (p : Bool) (l : Bool) (us : Nat) (u : State) (x : AxisIn) (s : State), s.mainLive = true → n < 16 → s.qualified n us = true → l = s.flag (if p then MOT_AXIS_CFG_LIMP_POL n else MOT_AXIS_CFG_LIMN_POL n) → s.noteChatter n (if p then 0 else 1) ((if p then (s.axis n).limp else (s.axis n).limn).change false s.sn) = (u, x) → exec (.limitQualify n p l us) s = .next ((u.modAxis n fun a => if p then { a with limp := x } else { a with limn := x }).clearLatches n).stopsDone) ∧
  (∀ (n : Nat) (l : Bool) (us : Nat) (e : Desc) (ng : Bool) (se : Nat) (cr : Nat) (ac : Nat) (hp : Int) (k : Nat) (li : Nat) (s0 : Nat) (x : AxisIn) (u : State) (s : State), s.mainLive = true → n < 16 → s.qualified n us = true → l ≠ s.flag (MOT_AXIS_CFG_HOME_POL n) → s.noteChatter n 2 ((s.axis n).home.change true s.sn) = (u, x) → (s.axis n).cmd = some (.home e ng se cr ac hp k li s0) → k ≠ 4 → ∃ w : State, exec (.homeQualify n l us) s = .next ((w.haltAxis n).modAxis n fun a => { a with cmd := some (.home e ng se cr ac hp 4 li s0) }) ∧ (w.axis n).home = x) ∧
  (∀ (n : Nat) (l : Bool) (us : Nat) (e : Desc) (ng : Bool) (se : Nat) (cr : Nat) (ac : Nat) (hp : Int) (li : Nat) (s0 : Nat) (r : Run) (s : State), s.mainLive = true → n < 16 → s.qualified n us = true → l = s.flag (MOT_AXIS_CFG_HOME_POL n) → (s.axis n).home.active = true → (s.axis n).cmd = some (.home e ng se cr ac hp 4 li s0) → (s.axis n).run = some r → ∃ w : State, exec (.homeQualify n l us) s = .next ((w.record EV_HOMED 0 n (unsigned 32 hp) (s.sn - s0)).stopAxis n stOK) ∧ (w.axis n).pos = hp * 65536 ∧ (w.axis n).referenced = true) ∧
  (∀ (n : Nat) (l : Bool) (us : Nat) (x : AxisIn) (u : State) (s : State), s.mainLive = true → n < 16 → s.qualified n us = true → s.noteChatter n 2 ((s.axis n).home.change (l != s.flag (MOT_AXIS_CFG_HOME_POL n)) s.sn) = (u, x) → (s.axis n).cmd = none → exec (.homeQualify n l us) s = .next (u.modAxis n fun a => { a with home := x })) ∧
  (∀ (n : Nat) (s : State), s.motLive = true → n < 16 → s.axisEn n = true → (s.axis n).v16 ≠ 0 → s.blocks n (decide (0 < (s.axis n).v16)) = true → s.mot.stops = [] → (∀ m < 16, m ≠ n → s.axisEn m = false) → exec (.inhibitFreeze (s.get (MOT_AXIS_CFG_GINH_LINE n))) s = .next (s.freezeAxis n) ∧ ((s.freezeAxis n).axis n).v16 = 0 ∧ ((s.freezeAxis n).axis n).cmd = none) ∧
  (∀ (g : Nat) (s : State), s.motLive = true → (∀ m < 16, s.axisEn m = false ∨ s.get (MOT_AXIS_CFG_GINH_LINE m) ≠ g ∨ (s.axis m).v16 = 0 ∨ s.blocks m (decide (0 < (s.axis m).v16)) = false) → exec (.inhibitFreeze g) s = .next s.stopsDone) ∧
  (∀ (n : Nat) (s : State), s.mainLive = true → ∃ t, exec (.positionReadLatch n) s = .next t ∧ t.num64 (MOT_POS_LO n) (MOT_POS_HI n) = unsigned 64 (micro (s.axis n).pos) ∧ t.reply = .data (t.rd (MOT_POS_LO n)) ∧ t.mot = s.mot) ∧
  (∀ (n : Nat) (s : State), s.mainLive = false → exec (.positionReadLatch n) s = .next s)

/-- The job of a loop runs once a stroke, after the due loops below it; without its job nothing runs, and a loop that is not due, has
run or waits for one below only ends its job. A loop in AUTO with fresh sources computes its nodes in binary32 as R457 writes them,
keeps i, d and u, and has run for this stroke; a node that is not finite holds the output, counts and is recorded. With a stale
source it holds its output and counts. A loop that is OFF only notes the stroke. LOP_MODE, LOP_SETPOINT and LOP_TUNE wait for the
next run, a setpoint of an inner loop is CASCADED and a bad parameter BAD_VALUE. LOP_QUERY answers 32 bytes. LOP_TRACE_ARM starts a
buffer empty, LOP_TRACE_READ answers samples with the trigger index, or NO_RESOURCE with the length needed. On a loop not enabled
the commands end with LOOP_OFF. (R452, R454, R457, R458, R459, R460, R461, R462.) -/
def Obligations.LoopsRunAndCommands : Prop :=
  (∀ (n : Nat) (s : State), (s.serving = false ∨ s.work 0x14 n = none) → exec (.loopRun n) s = .next s) ∧
  (∀ (n : Nat) (j : Job) (v : State) (s : State), s.serving = true → s.work 0x14 n = some j → v = { s with sn := j.sn } → (32 ≤ n ∨ v.loopDue n = false ∨ (v.loop n).doneSn = v.sn ∨ ∃ m < n, v.loopDue m = true ∧ (v.loop m).doneSn ≠ v.sn) → exec (.loopRun n) s = .next (s.commitOne j)) ∧
  (∀ (n : Nat) (j : Job) (o : LawOut) (pv : Fl) (ff : Fl) (v : State) (s : State), s.serving = true → s.work 0x14 n = some j → v = { s with sn := j.sn } → n < 32 → v.loopDue n = true → (v.loop n).doneSn ≠ v.sn → (∀ m < n, v.loopDue m = true → (v.loop m).doneSn = v.sn) → (v.loop n).reqs = [] → (v.loop n).want = 2 → (v.loop n).mode = 2 → v.innerOf n = none → selKind (v.num (LOP_DST n)) = 0 → v.srcStale n (v.loop n).srcPv = false → pv = ((Fl.ofBits (v.loop n).srcPv.x).mul (v.loopPar n 9)).add (v.loopPar n 10) → ff = (if v.srcStale n (v.loop n).srcFf then Fl.zero else Fl.ofBits (v.loop n).srcFf.x) → ff.isFinite = true → o = v.law n pv ff none false false → o.badNode = none → ∃ t, exec (.loopRun n) s = .next t ∧ (t.loop n).u = o.u.toBits ∧ (t.loop n).i = o.i.toBits ∧ (t.loop n).d = o.d.toBits ∧ (t.loop n).xPrev = o.x.toBits ∧ (t.loop n).pv = pv.toBits ∧ (t.loop n).held = 0 ∧ (t.loop n).doneSn = j.sn ∧ (t.loop n).lastSn = j.sn ∧ (t.loop n).mode = 2) ∧
  (∀ (n : Nat) (j : Job) (k : Nat) (pv : Fl) (ff : Fl) (v : State) (s : State), s.serving = true → s.work 0x14 n = some j → v = { s with sn := j.sn } → n < 32 → v.loopDue n = true → (v.loop n).doneSn ≠ v.sn → (∀ m < n, v.loopDue m = true → (v.loop m).doneSn = v.sn) → (v.loop n).reqs = [] → (v.loop n).want = 2 → (v.loop n).mode = 2 → v.innerOf n = none → selKind (v.num (LOP_DST n)) = 0 → v.srcStale n (v.loop n).srcPv = false → pv = ((Fl.ofBits (v.loop n).srcPv.x).mul (v.loopPar n 9)).add (v.loopPar n 10) → ff = (if v.srcStale n (v.loop n).srcFf then Fl.zero else Fl.ofBits (v.loop n).srcFf.x) → (if ff.isFinite then (v.law n pv ff none false false).badNode else some 6) = some k → (v.loop n).held + 1 < v.failPeriods n → n < v.lop.loops.length → ∃ t, exec (.loopRun n) s = .next t ∧ (t.loop n).u = (v.loop n).u ∧ (t.loop n).i = (v.loop n).i ∧ (t.loop n).numeric = true ∧ (t.loop n).held = (v.loop n).held + 1 ∧ (t.loop n).mode = 2 ∧ t.num (LOP_OVR n) = (s.num (LOP_OVR n) + 1) % 2 ^ 32) ∧
  (∀ (n : Nat) (j : Job) (v : State) (s : State), s.serving = true → s.work 0x14 n = some j → v = { s with sn := j.sn } → n < 32 → v.loopDue n = true → (v.loop n).doneSn ≠ v.sn → (∀ m < n, v.loopDue m = true → (v.loop m).doneSn = v.sn) → (v.loop n).reqs = [] → (v.loop n).want = 2 → (v.loop n).mode = 2 → v.innerOf n = none → v.srcStale n (v.loop n).srcPv = true → (v.loop n).held + 1 < v.failPeriods n → ∃ t, exec (.loopRun n) s = .next t ∧ (t.loop n).u = (v.loop n).u ∧ (t.loop n).i = (v.loop n).i ∧ (t.loop n).stale = true ∧ (t.loop n).held = (v.loop n).held + 1 ∧ (t.loop n).mode = 2 ∧ t.num (LOP_OVR n) = (s.num (LOP_OVR n) + 1) % 2 ^ 32) ∧
  (∀ (n : Nat) (j : Job) (v : State) (s : State), s.serving = true → s.work 0x14 n = some j → v = { s with sn := j.sn } → n < 32 → v.loopDue n = true → (v.loop n).doneSn ≠ v.sn → (∀ m < n, v.loopDue m = true → (v.loop m).doneSn = v.sn) → (v.loop n).reqs = [] → (v.loop n).want = 0 → (v.loop n).mode = 0 → n < v.lop.loops.length → ∃ t, exec (.loopRun n) s = .next t ∧ t.loop n = { v.loop n with doneSn := j.sn } ∧ t.lop.traces = s.lop.traces) ∧
  (∀ (d : Desc) (n : Nat) (s : State), Runs s d → n = d.op 32 1 → s.flag (LOP_CFG_ENABLE n) = true → exec (.lopMode d) s = .next (s.finish d (s.modLoop n fun l => { l with reqs := l.reqs ++ [(d, .mode (d.op 33 1) (if bit (d.op 34 1) 0 then some (d.op 40 4) else none))] }).later)) ∧
  (∀ (d : Desc) (n : Nat) (s : State), Runs s d → n = d.op 32 1 → s.flag (LOP_CFG_ENABLE n) = true → (∀ k ∈ s.outerOf n, (s.loop k).mode = 0) → exec (.lopSetpoint d) s = .next (s.finish d (s.modLoop n fun l => { l with reqs := l.reqs ++ [(d, .setpoint (d.op 40 4))] }).later)) ∧
  (∀ (d : Desc) (n : Nat) (k : Nat) (s : State), Runs s d → n = d.op 32 1 → s.flag (LOP_CFG_ENABLE n) = true → k ∈ s.outerOf n → (s.loop k).mode ≠ 0 → exec (.lopSetpoint d) s = .next (s.finish d (s.fail stCASCADED))) ∧
  (∀ (d : Desc) (n : Nat) (s : State), Runs s d → n = d.op 32 1 → s.flag (LOP_CFG_ENABLE n) = true → (∀ g < 12, (Fl.ofBits (leAt d.buf (4 * g) 4)).isFinite = true) → (Fl.ofBits (leAt d.buf 28 4)).lt (Fl.ofBits (leAt d.buf 32 4)) = true → (Fl.ofBits (leAt d.buf 12 4)).lt Fl.zero = false → exec (.lopTune d) s = .next (s.finish d (s.modLoop n fun l => { l with reqs := l.reqs ++ [(d, .tune ((List.range 12).map fun g => leAt d.buf (4 * g) 4))] }).later)) ∧
  (∀ (d : Desc) (n : Nat) (s : State), Runs s d → n = d.op 32 1 → s.flag (LOP_CFG_ENABLE n) = true → (Fl.ofBits (leAt d.buf 28 4)).lt (Fl.ofBits (leAt d.buf 32 4)) = false → exec (.lopTune d) s = .next (s.finish d (s.fail stBAD_VALUE))) ∧
  (∀ (d : Desc) (n : Nat) (s : State), Runs s d → n = d.op 32 1 → s.flag (LOP_CFG_ENABLE n) = true → ∃ b, exec (.lopQuery d) s = .next (s.finish d (s.answer d b)) ∧ b.length = 32 ∧ b.take 4 = leBytes 4 (s.loop n).stat) ∧
  (∀ (d : Desc) (s : State), Runs s d → s.flag (LOP_CFG_ENABLE (d.op 32 1)) = false → exec (.lopMode d) s = .next (s.finish d (s.fail stLOOP_OFF)) ∧ exec (.lopSetpoint d) s = .next (s.finish d (s.fail stLOOP_OFF)) ∧ exec (.lopTune d) s = .next (s.finish d (s.fail stLOOP_OFF)) ∧ exec (.lopQuery d) s = .next (s.finish d (s.fail stLOOP_OFF))) ∧
  (∀ (d : Desc) (s : State), Runs s d → d.op 32 1 < s.lop.traces.length → ∃ u : State, exec (.lopTraceArm d) s = .next (s.finish d u.ok) ∧ u.trace (d.op 32 1) = { running := true, single := d.op 33 1 == 1, trigger := d.op 34 1, node := d.op 35 1, pre := d.op 36 2, level := d.op 40 4, skip := max 1 (s.get (LOP_TRACE_CFG_DECIM (d.op 32 1))) - 1 } ∧ u.lop.loops = s.lop.loops) ∧
  (∀ (d : Desc) (s : State), Runs s d → 8 + 24 * d.op 44 4 ≤ d.bufLen → let x := s.trace (d.op 32 1); exec (.lopTraceRead d) s = .next (s.finish d (s.answer d (leBytes 4 x.samples.length ++ leBytes 4 x.trigIndex ++ ((x.samples.drop (d.op 40 4)).take (d.op 44 4)).flatMap fun y => leBytes 8 y.1 ++ y.2.flatMap fun v => leBytes 4 v)))) ∧
  (∀ (d : Desc) (n : Nat) (g : Nat) (s : State), Runs s d → n = d.op 32 1 → s.flag (LOP_CFG_ENABLE n) = true → g < 12 → ((Fl.ofBits (leAt d.buf (4 * g) 4)).isFinite = false ∨ (Fl.ofBits (leAt d.buf 12 4)).lt Fl.zero = true) → exec (.lopTune d) s = .next (s.finish d (s.fail stBAD_VALUE))) ∧
  (∀ (d : Desc) (n : Nat) (s : State), Runs s d → n = d.op 32 1 → s.flag (LOP_CFG_ENABLE n) = true → exec (.lopQuery d) s = .next (s.finish d (s.answer d (leBytes 4 (s.loop n).stat ++ leBytes 4 (s.loop n).sp ++ leBytes 4 (s.loop n).pv ++ leBytes 4 (s.loop n).u ++ leBytes 4 (s.loop n).i ++ leBytes 4 (s.loop n).d ++ leBytes 8 (s.loop n).lastSn)))) ∧
  (∀ (d : Desc) (s : State), Runs s d → d.bufLen < 8 + 24 * d.op 44 4 → exec (.lopTraceRead d) s = .next (s.finish d { st := s, status := some stNO_RESOURCE, len := some (8 + 24 * d.op 44 4) }))

/-- REC_READ answers up to count held records from the first SEQ on, STALE below the head. REC_RELEASE frees the records up to a SEQ
from the head and answers how many. REC_FREEZE stops the writing, FROZEN when it already stands; REC_THAW and the end of FREEZE_MAX
end it, with the records lost in the answer. A write of REC_WIN_IDX loads the record at that position, or zero past the held count,
and frees nothing. A read larger than its buffer ends NO_RESOURCE with the length needed. (R467, R468, R470, R471, R477.) -/
def Obligations.RecorderCommands : Prop :=
  (∀ (d : Desc) (s : State), Runs s d → s.log.headSeq ≤ d.op 32 4 → 32 * d.op 36 4 ≤ d.bufLen → let rs := (s.log.store.filter fun r => decide (d.op 32 4 ≤ r.seq)).take (d.op 36 4); exec (.recRead d) s = .next (s.finish d { st := s.count REC_DAMAGED (s.log.damagedIn rs), result := rs.length, bytes := rs.flatMap s.log.readBytes })) ∧
  (∀ (d : Desc) (s : State), Runs s d → d.op 32 4 < s.log.headSeq → exec (.recRead d) s = .next (s.finish d (s.fail stSTALE))) ∧
  (∀ (d : Desc) (s : State), Runs s d → let l := s.log.store.dropWhile fun r => decide (r.seq ≤ d.op 32 4); exec (.recRelease d) s = .next (s.finish d (({ s with log := { s.log with store := l } } : State).flushLog.ok (s.log.store.length - l.length)))) ∧
  (∀ (d : Desc) (s : State), Runs s d → s.log.frozen = false → exec (.recFreeze d) s = .next (s.finish d ({ s with log := { s.log with frozen := true, freezeSn := s.sn, frozenCount := 0, frozenFirst := none } } : State).ok)) ∧
  (∀ (d : Desc) (s : State), Runs s d → s.log.frozen = true → exec (.recFreeze d) s = .next (s.finish d (s.fail stFROZEN)) ∧ exec (.recThaw d) s = .next (s.finish d (({ s with log := s.log.thaw s.sn } : State).flushLog.ok s.log.frozenCount)) ∧ (s.log.thaw s.sn).frozen = false ∧ (s.log.thaw s.sn).store = s.log.store) ∧
  (∀ (s : State), s.mainLive = true → s.log.frozen = true → s.log.freezeSn + s.get REC_CFG_FREEZE_MAX ≤ s.sn → exec .freezeExpiry s = .next ({ s with log := s.log.thaw s.sn } : State).flushLog) ∧
  (∀ (v : Word) (r : Rec) (s : State), s.mainLive = true → s.log.store[(s.put REC_WIN_IDX_POS v.toNat).get REC_WIN_IDX_POS]? = some r → exec (.windowLoad v) s = .next (((s.put REC_WIN_IDX_POS v.toNat).loadWindow (s.log.readBytes r)).count REC_DAMAGED (s.log.damagedIn [r]))) ∧
  (∀ (v : Word) (s : State), s.mainLive = true → s.log.store.length ≤ (s.put REC_WIN_IDX_POS v.toNat).get REC_WIN_IDX_POS → ∃ t, exec (.windowLoad v) s = .next t ∧ (∀ k < 8, t.num (REC_WIN_DATA k) = 0) ∧ t.log = s.log) ∧
  (∀ (d : Desc) (s : State), Runs s d → s.log.headSeq ≤ d.op 32 4 → d.bufLen < 32 * d.op 36 4 → exec (.recRead d) s = .next (s.finish d { st := s, status := some stNO_RESOURCE, len := some (32 * d.op 36 4) })) ∧
  (∀ (d : Desc) (s : State), Runs s d → s.log.frozen = false → exec (.recThaw d) s = .next (s.finish d (s.ok 0))) ∧
  (∀ (s : State), (s.mainLive = false ∨ s.log.frozen = false ∨ s.sn < s.log.freezeSn + s.get REC_CFG_FREEZE_MAX) → exec .freezeExpiry s = .next s) ∧
  (∀ (v : Word) (s : State), s.mainLive = false → exec (.windowLoad v) s = .next s)

/-- What the scrubber reads at a place is checked by the code its memory has. A clean read changes nothing but the pass, and clears the
mark of the place. A corrected error is counted and recorded for the first in a pass of its memory. An uncorrectable error is
counted, shown and recorded; it halts the device in the allotment store or in replicated state, drops a table entry, discards a key
cache entry, or marks a record or a location. The last location of a memory ends its pass and shows its lap. Before the device is
live, and for a code that the memory does not have, nothing happens. (R17, R327, R343, R472, R473, R474, R475.) -/
def Obligations.MemoryScrub : Prop :=
  (∀ (m : Nat) (a : Nat) (x : Stored) (h : ScrubHit) (l : Bool) (s : State), (s.mainLive = false ∨ x.fits m = false) → exec (.scrubRead m a x h l) s = .next s) ∧
  (∀ (m : Nat) (a : Nat) (x : Stored) (h : ScrubHit) (l : Bool) (s : State), s.mainLive = true → x.fits m = true → let u := (s.checkRead m (x.found a)).1; let w := match (s.checkRead m (x.found a)).2 with | some k => (u.noteUncorr m k 0).uncorrAt m k h | none => u.clearBad m a; exec (.scrubRead m a x h l) s = .next (if l then w.endLap m else w)) ∧
  (∀ (m : Nat) (a : Nat) (d : Nat) (c : Nat) (h : ScrubHit) (s : State), s.mainLive = true → (Stored.byte d c).fits m = true → hammingDecode d c = .clean → exec (.scrubRead m a (.byte d c) h false) s = .next (s.clearBad m a) ∧ exec (.scrubRead m a (.byte d c) h true) s = .next ((s.clearBad m a).endLap m)) ∧
  (∀ (m : Nat) (a : Nat) (d : Nat) (c : Nat) (b : Nat) (x : Nat) (h : ScrubHit) (s : State), s.mainLive = true → (Stored.byte d c).fits m = true → 2 ≤ m → hammingDecode d c = .corrected b x → s.mem.noted.getD m false = true → ∃ t, exec (.scrubRead m a (.byte d c) h false) s = .next t ∧ t.num (MEM_CORR m) = (s.num (MEM_CORR m) + 1) % 2 ^ 32 ∧ t.num (MEM_LAST_ADDR m) = a % 2 ^ 32 ∧ t.log = s.log) ∧
  (∀ (m : Nat) (a : Nat) (d : Nat) (c : Nat) (b : Nat) (x : Nat) (h : ScrubHit) (s : State), s.mainLive = true → (Stored.byte d c).fits m = true → 2 ≤ m → hammingDecode d c = .corrected b x → s.mem.noted.getD m false = false → exec (.scrubRead m a (.byte d c) h false) s = .next (((((s.count (MEM_CORR m) 1).setNum (MEM_LAST_ADDR m) a).setMem { s.mem with noted := s.mem.noted.set m true }).record EV_MEM_CORRECTED 0 m a x).clearBad m a)) ∧
  (∀ (a : Nat) (d : Nat) (c : Nat) (h : ScrubHit) (s : State), s.mainLive = true → (Stored.byte d c).fits 2 = true → hammingDecode d c = .uncorrectable → exec (.scrubRead 2 a (.byte d c) h false) s = .next ((s.noteUncorr 2 a 0).fatalHalt 3)) ∧
  (∀ (m : Nat) (a : Nat) (d : Nat) (c : Nat) (s : State), s.mainLive = true → m ≠ 2 → (Stored.byte d c).fits m = true → hammingDecode d c = .uncorrectable → exec (.scrubRead m a (.byte d c) .replicated false) s = .next ((s.noteUncorr m a 0).fatalHalt 3) ∧ (∀ k, ∃ u, exec (.scrubRead m a (.byte d c) (.key k) false) s = .next u ∧ u.key.cache = s.key.cache.filter (fun x => x != k)) ∧ (∀ q, ∃ u, exec (.scrubRead m a (.byte d c) (.record q) false) s = .next u ∧ q ∈ u.log.damaged) ∧ ∃ u, exec (.scrubRead m a (.byte d c) .other false) s = .next u ∧ (m, a) ∈ u.mem.bad) ∧
  (∀ (a : Nat) (b : Nat) (i : Nat) (s : State), s.mainLive = true → exec (.scrubRead 3 a (.entry false) (.entry b i) false) s = .next ((s.noteUncorr 3 a 0).parityFail b i) ∧ exec (.scrubRead 3 a (.entry true) (.entry b i) false) s = .next (s.clearBad 3 a)) ∧
  (∀ (m : Nat) (a : Nat) (b : List Byte) (h : ScrubHit) (s : State), s.mainLive = true → (Stored.block b).fits m = true → a % 8 = 7 → exec (.scrubRead m a (.block b) h false) s = .next (match lineErrors a b with | none => (s.noteUncorr m a 0).uncorrAt m a h | some [] => s.clearBad m a | some e => (s.noteCorrected m a e.length).clearBad m a))

/-- AXn_EN and every gate input are low before the first stroke edge, in RESET and in HALT, while the axis is disabled, and while a
fault is latched. A reset of the main die leaves every axis disabled and unreferenced: every reset of the model makes its state by
reinit, and RESET_N low in a running device ends in such a state. The state of the Wellhouse plays no part: replacing it changes no
output. (R434.) -/
def Obligations.AxisOutputsAreOffAtRest : Prop :=
  (∀ (n : Nat) (s : State), s.stroked = false → s.axisEn n = false ∧ s.axisBridge n = .off) ∧
  (∀ (n : Nat) (s : State), (s.dev = .reset ∨ s.dev = .halt) → s.axisEn n = false ∧ s.axisBridge n = .off) ∧
  (∀ (n : Nat) (s : State), (s.axis n).enabled = false → s.axisEn n = false ∧ s.axisBridge n = .off) ∧
  (∀ (n : Nat) (s : State), (s.axis n).fault = true → s.axisEn n = false ∧ s.axisBridge n = .off) ∧
  (∀ (k : Nat) (n : Nat) (s : State), ((s.reinit k).axis n).enabled = false ∧ ((s.reinit k).axis n).referenced = false) ∧
  (∀ (n : Nat) (s : State), s.pins.mainSupply = true → s.dev ≠ .reset → ∃ t, exec .resetNLow s = .next t ∧ (t.axis n).enabled = false ∧ (t.axis n).referenced = false ∧ t.axisBridge n = .off) ∧
  (∀ (n : Nat) (w : Well) (s : State), ({ s with wel := w } : State).axisEn n = s.axisEn n ∧ ({ s with wel := w } : State).axisBridge n = s.axisBridge n)

/-- When the segment in force of an enabled axis asks for more than 256 microsteps in one sub-tick, the axis keeps its position, the
stop generator starts (it runs while the axis still moves), OVERSPEED is set, REFERENCED is cleared, the running command ends with
BAD_PROFILE and OVERSPEED is recorded first. One of at most 256 microsteps sets no OVERSPEED and ends no command. The other axes are
disabled in the second and third clause, so that the state after the sub-tick is the named one. (R437.) -/
def Obligations.OverspeedStopsTheAxis : Prop :=
  (∀ (n : Nat) (r : Run) (m : Int) (s : State), (s.axis n).run = some r → m = r.p (r.k + 1) - (if r.k = 0 then r.p0 else r.p r.k) → 256 * 65536 < absI m → let u := ((s.modAxis n fun a => { a with overspeed := true }).record EV_OVERSPEED 0 n (s.axis n).seg (absI m / 65536)).loseReference n 3; s.tickRun n r = u.stopAxis n stBAD_PROFILE ∧ (n < s.mot.axes.length → (u.axis n).overspeed = true ∧ (u.axis n).referenced = false ∧ (u.axis n).pos = (s.axis n).pos)) ∧
  (∀ (n : Nat) (r : Run) (m : Int) (s : State), s.motLive = true → n < 16 → s.mot.axes.length = 16 → s.axisEn n = true → (∀ k < 16, k ≠ n → s.axisEn k = false) → s.waveStops n = false → s.mot.stops = [] → (s.axis n).stopping = false → (s.axis n).cmd = none → (s.axis n).run = some r → m = r.p (r.k + 1) - (if r.k = 0 then r.p0 else r.p r.k) → 256 * 65536 < absI m → ∃ t, exec .subTick s = .next t ∧ (t.axis n).pos = (s.axis n).pos ∧ (t.axis n).stopping = ((s.axis n).v16 != 0) ∧ (t.axis n).run = none ∧ (t.axis n).overspeed = true ∧ (t.axis n).referenced = false ∧ ∀ k < 16, k ≠ n → t.axis k = s.axis k) ∧
  (∀ (n : Nat) (c : AxisCmd) (s : State), (s.axis n).cmd = some c → n < s.mot.axes.length → ∃ u : State, s.stopAxis n stBAD_PROFILE = u.finish c.desc (u.fail stBAD_PROFILE) ∧ (u.axis n).cmd = none ∧ (u.axis n).run = none ∧ (u.axis n).stopping = ((s.axis n).v16 != 0) ∧ (u.axis n).pos = (s.axis n).pos) ∧
  (∀ (n : Nat) (r : Run) (m : Int) (s : State), (s.axis n).run = some r → r.k + 1 ≠ 16 * r.t → m = r.p (r.k + 1) - (if r.k = 0 then r.p0 else r.p r.k) → absI m ≤ 256 * 65536 → s.blocks n (decide (0 < m)) = false → (s.axis n).latchedToward (decide (0 < m)) = false → ∃ t, s.tickRun n r = t ∧ (t.axis n).overspeed = (s.axis n).overspeed ∧ (t.axis n).cmd = (s.axis n).cmd ∧ t.log = s.log)

/-- In SETUP, with FLEET present (a fused-off block has no enabled channel, R54), SYS_ENGAGE leaves the device in SETUP and shows the
refusal when, for an enabled fleet channel: the MODE of its receive channel is not 0x40, 0x41 or 0x42; the MODE of its transmit
channel differs from it; another enabled fleet channel of the same port names the same receive or transmit channel; or RAMP_US of
its port exceeds 4. (R158.) -/
def Obligations.EngageRefusesBadFleetChannels : Prop :=
  (∀ (c : Nat) (m : Nat) (s : State), s.dev = .setup → s.capAbsent 0x0B = false → c < 8 → s.flag (FLT_CHAN_ENABLE c) = true → m = s.get (RAD_RX_CFG_MODE (s.get (FLT_CHAN_PORT c)) (s.get (FLT_CHAN_RXCH c))) → m ≠ 0x40 ∧ m ≠ 0x41 ∧ m ≠ 0x42 → ∃ cap ofs, exec .sysEngage s = .next (s.refuseEngage cap ofs) ∧ (s.refuseEngage cap ofs).dev = .setup ∧ (s.refuseEngage cap ofs).flag SYS_ENGAGE_ERR_VALID = true) ∧
  (∀ (c : Nat) (s : State), s.dev = .setup → s.capAbsent 0x0B = false → c < 8 → s.flag (FLT_CHAN_ENABLE c) = true → s.get (RAD_TX_CFG_MODE (s.get (FLT_CHAN_PORT c)) (s.get (FLT_CHAN_TXCH c))) ≠ s.get (RAD_RX_CFG_MODE (s.get (FLT_CHAN_PORT c)) (s.get (FLT_CHAN_RXCH c))) → ∃ cap ofs, exec .sysEngage s = .next (s.refuseEngage cap ofs) ∧ (s.refuseEngage cap ofs).dev = .setup ∧ (s.refuseEngage cap ofs).flag SYS_ENGAGE_ERR_VALID = true) ∧
  (∀ (c : Nat) (e : Nat) (s : State), s.dev = .setup → s.capAbsent 0x0B = false → c < 8 → s.flag (FLT_CHAN_ENABLE c) = true → e < 8 → e ≠ c → s.flag (FLT_CHAN_ENABLE e) = true → s.get (FLT_CHAN_PORT e) = s.get (FLT_CHAN_PORT c) → (s.get (FLT_CHAN_RXCH e) = s.get (FLT_CHAN_RXCH c) ∨ s.get (FLT_CHAN_TXCH e) = s.get (FLT_CHAN_TXCH c)) → ∃ cap ofs, exec .sysEngage s = .next (s.refuseEngage cap ofs) ∧ (s.refuseEngage cap ofs).dev = .setup ∧ (s.refuseEngage cap ofs).flag SYS_ENGAGE_ERR_VALID = true) ∧
  (∀ (c : Nat) (s : State), s.dev = .setup → s.capAbsent 0x0B = false → c < 8 → s.flag (FLT_CHAN_ENABLE c) = true → 4 < s.get (RAD_RAMP_CFG_RAMP_US (s.get (FLT_CHAN_PORT c))) → ∃ cap ofs, exec .sysEngage s = .next (s.refuseEngage cap ofs) ∧ (s.refuseEngage cap ofs).dev = .setup ∧ (s.refuseEngage cap ofs).flag SYS_ENGAGE_ERR_VALID = true)

/-- POWER_UP, RESET_N low, its release, a commanded reset, DORMANT, the loss of the main supplies or of VBAT, a wake, a host-link reset,
a core watchdog and SYS_ENGAGE all answer a next state whose Wellhouse is the one before. (R405, R483, R492.) -/
def Obligations.MainDieEventsLeaveTheWellhouse : Prop :=
  (∀ (v : Bool) (s : State), ∃ t, exec (.powerUp v) s = .next t ∧ t.wel = s.wel) ∧
  (∀ (s : State), ∃ t, exec .resetNLow s = .next t ∧ t.wel = s.wel) ∧
  (∀ (b : Nat) (i : Bool) (p : Bool) (m : Bool) (s : State), ∃ t, exec (.resetRelease b i p m) s = .next t ∧ t.wel = s.wel) ∧
  (∀ (s : State), ∃ t, exec .commandedReset s = .next t ∧ t.wel = s.wel) ∧
  (∀ (s : State), ∃ t, exec .dormantCommand s = .next t ∧ t.wel = s.wel) ∧
  (∀ (s : State), ∃ t, exec .mainSupplyLoss s = .next t ∧ t.wel = s.wel) ∧
  (∀ (s : State), ∃ t, exec .vbatLoss s = .next t ∧ t.wel = s.wel) ∧
  (∀ (m : Bool) (s : State), ∃ t, exec (.wake m) s = .next t ∧ t.wel = s.wel) ∧
  (∀ (s : State), ∃ t, exec .hostLinkReset s = .next t ∧ t.wel = s.wel) ∧
  (∀ (k : Nat) (m : Bool) (s : State), ∃ t, exec (.coreWatchdog k m) s = .next t ∧ t.wel = s.wel) ∧
  (∀ (s : State), ∃ t, exec .sysEngage s = .next t ∧ t.wel = s.wel)
end

