-- ==== Sys2Proof/Laws/Table.lean ====
section
/-! SUPPORT. What the sparse tables do: reading after a write, and the canonical form that every operation keeps. -/

namespace Sys2Proof.Machine

variable {V : Type}

/-- Keys strictly rising. -/
theorem tabOkFrom_iff (lo : Option Nat) (t : Tab V) :
    tabOkFrom lo t = true ↔ (∀ l ∈ lo, ∀ x ∈ t, l < x.1) ∧ t.Pairwise fun a b => a.1 < b.1 := by
  induction t generalizing lo with
  | nil => cases lo <;> simp [tabOkFrom]
  | cons x r ih =>
    cases lo with
    | none => simp [tabOkFrom, ih]
    | some l =>
      simp only [tabOkFrom, Bool.and_eq_true, decide_eq_true_eq, ih, Option.mem_def, Option.some.injEq, forall_eq',
        List.mem_cons, List.pairwise_cons, forall_eq_or_imp]
      constructor
      · rintro ⟨h, h1, h2⟩
        exact ⟨⟨h, fun y hy => h.trans (h1 y hy)⟩, h1, h2⟩
      · rintro ⟨⟨h, -⟩, h1, h2⟩
        exact ⟨h, h1, h2⟩

theorem tabOk_iff (t : Tab V) : tabOk t = true ↔ t.Pairwise fun a b => a.1 < b.1 := by
  simp [tabOk, tabOkFrom_iff]

/-- A key of the table after a write is the written one or an old one. -/
theorem mem_tput {t : Tab V} {k : Nat} {v : V} {x : Nat × V} (h : x ∈ tput t k v) : x = (k, v) ∨ x ∈ t := by
  induction t with
  | nil => simp only [tput, List.mem_singleton] at h; exact .inl h
  | cons y r ih =>
    simp only [tput] at h
    split at h
    · simpa using h
    · split at h
      · rcases List.mem_cons.mp h with h | h
        · exact .inl h
        · exact .inr (List.mem_cons_of_mem _ h)
      · rcases List.mem_cons.mp h with h | h
        · exact .inr (by simp [h])
        · exact (ih h).imp id (List.mem_cons_of_mem _)

theorem tdel_eq_filter (t : Tab V) (k : Nat) : tdel t k = t.filter fun x => decide (x.1 ≠ k) := by
  induction t with
  | nil => rfl
  | cons y r ih =>
    simp only [tdel, ih]
    by_cases h : y.1 = k
    · rw [if_pos h, List.filter_cons_of_neg (by simpa using h)]
    · rw [if_neg h, List.filter_cons_of_pos (by simpa using h)]

theorem mem_tdel {t : Tab V} {k : Nat} {x : Nat × V} (h : x ∈ tdel t k) : x ∈ t := by
  rw [tdel_eq_filter] at h
  exact List.mem_of_mem_filter h

theorem tabOk_tput {t : Tab V} (k : Nat) (v : V) (h : tabOk t = true) : tabOk (tput t k v) = true := by
  rw [tabOk_iff] at *
  induction t with
  | nil => simp [tput]
  | cons y r ih =>
    obtain ⟨hy, hr⟩ := List.pairwise_cons.mp h
    simp only [tput]
    split
    · refine List.pairwise_cons.mpr ⟨?_, h⟩
      intro x hx
      rcases List.mem_cons.mp hx with rfl | hx
      · assumption
      · exact lt_trans ‹_› (hy x hx)
    · split
      · subst k; exact List.pairwise_cons.mpr ⟨hy, hr⟩
      · refine List.pairwise_cons.mpr ⟨?_, ih hr⟩
        intro x hx
        rcases mem_tput hx with rfl | hx
        · simp only; omega
        · exact hy x hx

theorem tabOk_tdel {t : Tab V} (k : Nat) (h : tabOk t = true) : tabOk (tdel t k) = true := by
  rw [tabOk_iff] at *
  rw [tdel_eq_filter]
  exact h.filter _

/-- A write of a cell keeps the canonical form. -/
theorem cellsOk_cput [DecidableEq V] (d : Nat → V) {t : Tab V} (k : Nat) (v : V) (h : cellsOk d t = true) :
    cellsOk d (cput d t k v) = true := by
  simp only [cellsOk, Bool.and_eq_true, List.all_eq_true, decide_eq_true_eq] at *
  unfold cput
  split
  · exact ⟨tabOk_tdel _ h.1, fun x hx => h.2 x (mem_tdel hx)⟩
  · refine ⟨tabOk_tput _ _ h.1, fun x hx => ?_⟩
    rcases mem_tput hx with rfl | hx
    · assumption
    · exact h.2 x hx

/-- So does leaving out the cells of some keys. -/
theorem cellsOk_filter [DecidableEq V] (d : Nat → V) {t : Tab V} (p : Nat × V → Bool) (h : cellsOk d t = true) :
    cellsOk d (t.filter p) = true := by
  simp only [cellsOk, Bool.and_eq_true, List.all_eq_true, decide_eq_true_eq, tabOk_iff] at *
  exact ⟨h.1.filter _, fun x hx => h.2 x (List.mem_of_mem_filter hx)⟩

/-- Reading an entry after a write. -/
theorem tget_tput {t : Tab V} (k k' : Nat) (v : V) : tget (tput t k v) k' = if k = k' then some v else tget t k' := by
  induction t with
  | nil => simp [tput, tget]
  | cons y r ih =>
    simp only [tput]
    split
    · simp [tget]
    · split
      · subst k; simp only [tget]; split <;> rfl
      · simp only [tget, ih]
        by_cases h : y.1 = k'
        · subst h; rw [if_pos rfl, if_neg (by omega), if_pos rfl]
        · rw [if_neg h, if_neg h]

/-- Reading an entry after its removal, or another's. -/
theorem tget_tdel {t : Tab V} (k k' : Nat) : tget (tdel t k) k' = if k = k' then none else tget t k' := by
  induction t with
  | nil => simp [tdel, tget]
  | cons y r ih =>
    simp only [tdel]
    split
    · rename_i hk
      rw [ih]
      by_cases h' : k = k'
      · rw [if_pos h', if_pos h']
      · rw [if_neg h', if_neg h']; simp only [tget, if_neg (show y.1 ≠ k' by omega)]
    · simp only [tget, ih]
      by_cases h : y.1 = k'
      · subst h; rw [if_pos rfl, if_neg (by omega), if_pos rfl]
      · rw [if_neg h, if_neg h]

/-- Reading a cell after a write. -/
theorem cget_cput [DecidableEq V] (d : Nat → V) {t : Tab V} (k k' : Nat) (v : V) :
    cget d (cput d t k v) k' = if k = k' then v else cget d t k' := by
  unfold cget cput
  split
  · rw [tget_tdel]; split
    · rename_i hk; subst hk; simp [*]
    · rfl
  · rw [tget_tput]; split <;> rfl

end Sys2Proof.Machine
end

