-- ==== Sys2Proof/Laws/State.lean ====
section
/-! SUPPORT. What each update of the state leaves and sets, field by field, and how registers and their fields read after a write. -/

namespace Sys2Proof.Machine

open Sys2Proof

/-! ### setDisp -/

@[simp] theorem State.setDisp_pending (s : State) (x : Disp) : (s.setDisp x).pending = s.pending := rfl
@[simp] theorem State.setDisp_part (s : State) (x : Disp) : (s.setDisp x).part = s.part := rfl
@[simp] theorem State.setDisp_fuses (s : State) (x : Disp) : (s.setDisp x).fuses = s.fuses := rfl
@[simp] theorem State.setDisp_pins (s : State) (x : Disp) : (s.setDisp x).pins = s.pins := rfl
@[simp] theorem State.setDisp_straps (s : State) (x : Disp) : (s.setDisp x).straps = s.straps := rfl
@[simp] theorem State.setDisp_dev (s : State) (x : Disp) : (s.setDisp x).dev = s.dev := rfl
@[simp] theorem State.setDisp_role (s : State) (x : Disp) : (s.setDisp x).role = s.role := rfl
@[simp] theorem State.setDisp_stroked (s : State) (x : Disp) : (s.setDisp x).stroked = s.stroked := rfl
@[simp] theorem State.setDisp_sn (s : State) (x : Disp) : (s.setDisp x).sn = s.sn := rfl
@[simp] theorem State.setDisp_regs (s : State) (x : Disp) : (s.setDisp x).regs = s.regs := rfl
@[simp] theorem State.setDisp_sys (s : State) (x : Disp) : (s.setDisp x).sys = s.sys := rfl
@[simp] theorem State.setDisp_log (s : State) (x : Disp) : (s.setDisp x).log = s.log := rfl
@[simp] theorem State.setDisp_disp (s : State) (x : Disp) : (s.setDisp x).disp = x := rfl
@[simp] theorem State.setDisp_rings (s : State) (x : Disp) : (s.setDisp x).rings = s.rings := rfl
@[simp] theorem State.setDisp_rad (s : State) (x : Disp) : (s.setDisp x).rad = s.rad := rfl
@[simp] theorem State.setDisp_flt (s : State) (x : Disp) : (s.setDisp x).flt = s.flt := rfl
@[simp] theorem State.setDisp_stp (s : State) (x : Disp) : (s.setDisp x).stp = s.stp := rfl
@[simp] theorem State.setDisp_key (s : State) (x : Disp) : (s.setDisp x).key = s.key := rfl
@[simp] theorem State.setDisp_tim (s : State) (x : Disp) : (s.setDisp x).tim = s.tim := rfl
@[simp] theorem State.setDisp_gns (s : State) (x : Disp) : (s.setDisp x).gns = s.gns := rfl
@[simp] theorem State.setDisp_bsl (s : State) (x : Disp) : (s.setDisp x).bsl = s.bsl := rfl
@[simp] theorem State.setDisp_alt (s : State) (x : Disp) : (s.setDisp x).alt = s.alt := rfl
@[simp] theorem State.setDisp_net (s : State) (x : Disp) : (s.setDisp x).net = s.net := rfl
@[simp] theorem State.setDisp_msh (s : State) (x : Disp) : (s.setDisp x).msh = s.msh := rfl
@[simp] theorem State.setDisp_pai (s : State) (x : Disp) : (s.setDisp x).pai = s.pai := rfl
@[simp] theorem State.setDisp_wel (s : State) (x : Disp) : (s.setDisp x).wel = s.wel := rfl
@[simp] theorem State.setDisp_wlg (s : State) (x : Disp) : (s.setDisp x).wlg = s.wlg := rfl
@[simp] theorem State.setDisp_mot (s : State) (x : Disp) : (s.setDisp x).mot = s.mot := rfl
@[simp] theorem State.setDisp_lop (s : State) (x : Disp) : (s.setDisp x).lop = s.lop := rfl
@[simp] theorem State.setDisp_mem (s : State) (x : Disp) : (s.setDisp x).mem = s.mem := rfl
@[simp] theorem State.setDisp_reply (s : State) (x : Disp) : (s.setDisp x).reply = s.reply := rfl
@[simp] theorem State.setDisp_out (s : State) (x : Disp) : (s.setDisp x).out = s.out := rfl
@[simp] theorem State.setDisp_free (s : State) (x : Disp) : (s.setDisp x).free = s.free := rfl

/-! ### setRings -/

@[simp] theorem State.setRings_pending (s : State) (x : Rings) : (s.setRings x).pending = s.pending := rfl
@[simp] theorem State.setRings_part (s : State) (x : Rings) : (s.setRings x).part = s.part := rfl
@[simp] theorem State.setRings_fuses (s : State) (x : Rings) : (s.setRings x).fuses = s.fuses := rfl
@[simp] theorem State.setRings_pins (s : State) (x : Rings) : (s.setRings x).pins = s.pins := rfl
@[simp] theorem State.setRings_straps (s : State) (x : Rings) : (s.setRings x).straps = s.straps := rfl
@[simp] theorem State.setRings_dev (s : State) (x : Rings) : (s.setRings x).dev = s.dev := rfl
@[simp] theorem State.setRings_role (s : State) (x : Rings) : (s.setRings x).role = s.role := rfl
@[simp] theorem State.setRings_stroked (s : State) (x : Rings) : (s.setRings x).stroked = s.stroked := rfl
@[simp] theorem State.setRings_sn (s : State) (x : Rings) : (s.setRings x).sn = s.sn := rfl
@[simp] theorem State.setRings_regs (s : State) (x : Rings) : (s.setRings x).regs = s.regs := rfl
@[simp] theorem State.setRings_sys (s : State) (x : Rings) : (s.setRings x).sys = s.sys := rfl
@[simp] theorem State.setRings_log (s : State) (x : Rings) : (s.setRings x).log = s.log := rfl
@[simp] theorem State.setRings_disp (s : State) (x : Rings) : (s.setRings x).disp = s.disp := rfl
@[simp] theorem State.setRings_rings (s : State) (x : Rings) : (s.setRings x).rings = x := rfl
@[simp] theorem State.setRings_rad (s : State) (x : Rings) : (s.setRings x).rad = s.rad := rfl
@[simp] theorem State.setRings_flt (s : State) (x : Rings) : (s.setRings x).flt = s.flt := rfl
@[simp] theorem State.setRings_stp (s : State) (x : Rings) : (s.setRings x).stp = s.stp := rfl
@[simp] theorem State.setRings_key (s : State) (x : Rings) : (s.setRings x).key = s.key := rfl
@[simp] theorem State.setRings_tim (s : State) (x : Rings) : (s.setRings x).tim = s.tim := rfl
@[simp] theorem State.setRings_gns (s : State) (x : Rings) : (s.setRings x).gns = s.gns := rfl
@[simp] theorem State.setRings_bsl (s : State) (x : Rings) : (s.setRings x).bsl = s.bsl := rfl
@[simp] theorem State.setRings_alt (s : State) (x : Rings) : (s.setRings x).alt = s.alt := rfl
@[simp] theorem State.setRings_net (s : State) (x : Rings) : (s.setRings x).net = s.net := rfl
@[simp] theorem State.setRings_msh (s : State) (x : Rings) : (s.setRings x).msh = s.msh := rfl
@[simp] theorem State.setRings_pai (s : State) (x : Rings) : (s.setRings x).pai = s.pai := rfl
@[simp] theorem State.setRings_wel (s : State) (x : Rings) : (s.setRings x).wel = s.wel := rfl
@[simp] theorem State.setRings_wlg (s : State) (x : Rings) : (s.setRings x).wlg = s.wlg := rfl
@[simp] theorem State.setRings_mot (s : State) (x : Rings) : (s.setRings x).mot = s.mot := rfl
@[simp] theorem State.setRings_lop (s : State) (x : Rings) : (s.setRings x).lop = s.lop := rfl
@[simp] theorem State.setRings_mem (s : State) (x : Rings) : (s.setRings x).mem = s.mem := rfl
@[simp] theorem State.setRings_reply (s : State) (x : Rings) : (s.setRings x).reply = s.reply := rfl
@[simp] theorem State.setRings_out (s : State) (x : Rings) : (s.setRings x).out = s.out := rfl
@[simp] theorem State.setRings_free (s : State) (x : Rings) : (s.setRings x).free = s.free := rfl

/-! ### setLog -/

@[simp] theorem State.setLog_pending (s : State) (x : Recorder) : (s.setLog x).pending = s.pending := rfl
@[simp] theorem State.setLog_part (s : State) (x : Recorder) : (s.setLog x).part = s.part := rfl
@[simp] theorem State.setLog_fuses (s : State) (x : Recorder) : (s.setLog x).fuses = s.fuses := rfl
@[simp] theorem State.setLog_pins (s : State) (x : Recorder) : (s.setLog x).pins = s.pins := rfl
@[simp] theorem State.setLog_straps (s : State) (x : Recorder) : (s.setLog x).straps = s.straps := rfl
@[simp] theorem State.setLog_dev (s : State) (x : Recorder) : (s.setLog x).dev = s.dev := rfl
@[simp] theorem State.setLog_role (s : State) (x : Recorder) : (s.setLog x).role = s.role := rfl
@[simp] theorem State.setLog_stroked (s : State) (x : Recorder) : (s.setLog x).stroked = s.stroked := rfl
@[simp] theorem State.setLog_sn (s : State) (x : Recorder) : (s.setLog x).sn = s.sn := rfl
@[simp] theorem State.setLog_regs (s : State) (x : Recorder) : (s.setLog x).regs = s.regs := rfl
@[simp] theorem State.setLog_sys (s : State) (x : Recorder) : (s.setLog x).sys = s.sys := rfl
@[simp] theorem State.setLog_log (s : State) (x : Recorder) : (s.setLog x).log = x := rfl
@[simp] theorem State.setLog_disp (s : State) (x : Recorder) : (s.setLog x).disp = s.disp := rfl
@[simp] theorem State.setLog_rings (s : State) (x : Recorder) : (s.setLog x).rings = s.rings := rfl
@[simp] theorem State.setLog_rad (s : State) (x : Recorder) : (s.setLog x).rad = s.rad := rfl
@[simp] theorem State.setLog_flt (s : State) (x : Recorder) : (s.setLog x).flt = s.flt := rfl
@[simp] theorem State.setLog_stp (s : State) (x : Recorder) : (s.setLog x).stp = s.stp := rfl
@[simp] theorem State.setLog_key (s : State) (x : Recorder) : (s.setLog x).key = s.key := rfl
@[simp] theorem State.setLog_tim (s : State) (x : Recorder) : (s.setLog x).tim = s.tim := rfl
@[simp] theorem State.setLog_gns (s : State) (x : Recorder) : (s.setLog x).gns = s.gns := rfl
@[simp] theorem State.setLog_bsl (s : State) (x : Recorder) : (s.setLog x).bsl = s.bsl := rfl
@[simp] theorem State.setLog_alt (s : State) (x : Recorder) : (s.setLog x).alt = s.alt := rfl
@[simp] theorem State.setLog_net (s : State) (x : Recorder) : (s.setLog x).net = s.net := rfl
@[simp] theorem State.setLog_msh (s : State) (x : Recorder) : (s.setLog x).msh = s.msh := rfl
@[simp] theorem State.setLog_pai (s : State) (x : Recorder) : (s.setLog x).pai = s.pai := rfl
@[simp] theorem State.setLog_wel (s : State) (x : Recorder) : (s.setLog x).wel = s.wel := rfl
@[simp] theorem State.setLog_wlg (s : State) (x : Recorder) : (s.setLog x).wlg = s.wlg := rfl
@[simp] theorem State.setLog_mot (s : State) (x : Recorder) : (s.setLog x).mot = s.mot := rfl
@[simp] theorem State.setLog_lop (s : State) (x : Recorder) : (s.setLog x).lop = s.lop := rfl
@[simp] theorem State.setLog_mem (s : State) (x : Recorder) : (s.setLog x).mem = s.mem := rfl
@[simp] theorem State.setLog_reply (s : State) (x : Recorder) : (s.setLog x).reply = s.reply := rfl
@[simp] theorem State.setLog_out (s : State) (x : Recorder) : (s.setLog x).out = s.out := rfl
@[simp] theorem State.setLog_free (s : State) (x : Recorder) : (s.setLog x).free = s.free := rfl

/-! ### setSys -/

@[simp] theorem State.setSys_pending (s : State) (x : Sys) : (s.setSys x).pending = s.pending := rfl
@[simp] theorem State.setSys_part (s : State) (x : Sys) : (s.setSys x).part = s.part := rfl
@[simp] theorem State.setSys_fuses (s : State) (x : Sys) : (s.setSys x).fuses = s.fuses := rfl
@[simp] theorem State.setSys_pins (s : State) (x : Sys) : (s.setSys x).pins = s.pins := rfl
@[simp] theorem State.setSys_straps (s : State) (x : Sys) : (s.setSys x).straps = s.straps := rfl
@[simp] theorem State.setSys_dev (s : State) (x : Sys) : (s.setSys x).dev = s.dev := rfl
@[simp] theorem State.setSys_role (s : State) (x : Sys) : (s.setSys x).role = s.role := rfl
@[simp] theorem State.setSys_stroked (s : State) (x : Sys) : (s.setSys x).stroked = s.stroked := rfl
@[simp] theorem State.setSys_sn (s : State) (x : Sys) : (s.setSys x).sn = s.sn := rfl
@[simp] theorem State.setSys_regs (s : State) (x : Sys) : (s.setSys x).regs = s.regs := rfl
@[simp] theorem State.setSys_sys (s : State) (x : Sys) : (s.setSys x).sys = x := rfl
@[simp] theorem State.setSys_log (s : State) (x : Sys) : (s.setSys x).log = s.log := rfl
@[simp] theorem State.setSys_disp (s : State) (x : Sys) : (s.setSys x).disp = s.disp := rfl
@[simp] theorem State.setSys_rings (s : State) (x : Sys) : (s.setSys x).rings = s.rings := rfl
@[simp] theorem State.setSys_rad (s : State) (x : Sys) : (s.setSys x).rad = s.rad := rfl
@[simp] theorem State.setSys_flt (s : State) (x : Sys) : (s.setSys x).flt = s.flt := rfl
@[simp] theorem State.setSys_stp (s : State) (x : Sys) : (s.setSys x).stp = s.stp := rfl
@[simp] theorem State.setSys_key (s : State) (x : Sys) : (s.setSys x).key = s.key := rfl
@[simp] theorem State.setSys_tim (s : State) (x : Sys) : (s.setSys x).tim = s.tim := rfl
@[simp] theorem State.setSys_gns (s : State) (x : Sys) : (s.setSys x).gns = s.gns := rfl
@[simp] theorem State.setSys_bsl (s : State) (x : Sys) : (s.setSys x).bsl = s.bsl := rfl
@[simp] theorem State.setSys_alt (s : State) (x : Sys) : (s.setSys x).alt = s.alt := rfl
@[simp] theorem State.setSys_net (s : State) (x : Sys) : (s.setSys x).net = s.net := rfl
@[simp] theorem State.setSys_msh (s : State) (x : Sys) : (s.setSys x).msh = s.msh := rfl
@[simp] theorem State.setSys_pai (s : State) (x : Sys) : (s.setSys x).pai = s.pai := rfl
@[simp] theorem State.setSys_wel (s : State) (x : Sys) : (s.setSys x).wel = s.wel := rfl
@[simp] theorem State.setSys_wlg (s : State) (x : Sys) : (s.setSys x).wlg = s.wlg := rfl
@[simp] theorem State.setSys_mot (s : State) (x : Sys) : (s.setSys x).mot = s.mot := rfl
@[simp] theorem State.setSys_lop (s : State) (x : Sys) : (s.setSys x).lop = s.lop := rfl
@[simp] theorem State.setSys_mem (s : State) (x : Sys) : (s.setSys x).mem = s.mem := rfl
@[simp] theorem State.setSys_reply (s : State) (x : Sys) : (s.setSys x).reply = s.reply := rfl
@[simp] theorem State.setSys_out (s : State) (x : Sys) : (s.setSys x).out = s.out := rfl
@[simp] theorem State.setSys_free (s : State) (x : Sys) : (s.setSys x).free = s.free := rfl

/-! ### setRad -/

@[simp] theorem State.setRad_pending (s : State) (x : Radio) : (s.setRad x).pending = s.pending := rfl
@[simp] theorem State.setRad_part (s : State) (x : Radio) : (s.setRad x).part = s.part := rfl
@[simp] theorem State.setRad_fuses (s : State) (x : Radio) : (s.setRad x).fuses = s.fuses := rfl
@[simp] theorem State.setRad_pins (s : State) (x : Radio) : (s.setRad x).pins = s.pins := rfl
@[simp] theorem State.setRad_straps (s : State) (x : Radio) : (s.setRad x).straps = s.straps := rfl
@[simp] theorem State.setRad_dev (s : State) (x : Radio) : (s.setRad x).dev = s.dev := rfl
@[simp] theorem State.setRad_role (s : State) (x : Radio) : (s.setRad x).role = s.role := rfl
@[simp] theorem State.setRad_stroked (s : State) (x : Radio) : (s.setRad x).stroked = s.stroked := rfl
@[simp] theorem State.setRad_sn (s : State) (x : Radio) : (s.setRad x).sn = s.sn := rfl
@[simp] theorem State.setRad_regs (s : State) (x : Radio) : (s.setRad x).regs = s.regs := rfl
@[simp] theorem State.setRad_sys (s : State) (x : Radio) : (s.setRad x).sys = s.sys := rfl
@[simp] theorem State.setRad_log (s : State) (x : Radio) : (s.setRad x).log = s.log := rfl
@[simp] theorem State.setRad_disp (s : State) (x : Radio) : (s.setRad x).disp = s.disp := rfl
@[simp] theorem State.setRad_rings (s : State) (x : Radio) : (s.setRad x).rings = s.rings := rfl
@[simp] theorem State.setRad_rad (s : State) (x : Radio) : (s.setRad x).rad = x := rfl
@[simp] theorem State.setRad_flt (s : State) (x : Radio) : (s.setRad x).flt = s.flt := rfl
@[simp] theorem State.setRad_stp (s : State) (x : Radio) : (s.setRad x).stp = s.stp := rfl
@[simp] theorem State.setRad_key (s : State) (x : Radio) : (s.setRad x).key = s.key := rfl
@[simp] theorem State.setRad_tim (s : State) (x : Radio) : (s.setRad x).tim = s.tim := rfl
@[simp] theorem State.setRad_gns (s : State) (x : Radio) : (s.setRad x).gns = s.gns := rfl
@[simp] theorem State.setRad_bsl (s : State) (x : Radio) : (s.setRad x).bsl = s.bsl := rfl
@[simp] theorem State.setRad_alt (s : State) (x : Radio) : (s.setRad x).alt = s.alt := rfl
@[simp] theorem State.setRad_net (s : State) (x : Radio) : (s.setRad x).net = s.net := rfl
@[simp] theorem State.setRad_msh (s : State) (x : Radio) : (s.setRad x).msh = s.msh := rfl
@[simp] theorem State.setRad_pai (s : State) (x : Radio) : (s.setRad x).pai = s.pai := rfl
@[simp] theorem State.setRad_wel (s : State) (x : Radio) : (s.setRad x).wel = s.wel := rfl
@[simp] theorem State.setRad_wlg (s : State) (x : Radio) : (s.setRad x).wlg = s.wlg := rfl
@[simp] theorem State.setRad_mot (s : State) (x : Radio) : (s.setRad x).mot = s.mot := rfl
@[simp] theorem State.setRad_lop (s : State) (x : Radio) : (s.setRad x).lop = s.lop := rfl
@[simp] theorem State.setRad_mem (s : State) (x : Radio) : (s.setRad x).mem = s.mem := rfl
@[simp] theorem State.setRad_reply (s : State) (x : Radio) : (s.setRad x).reply = s.reply := rfl
@[simp] theorem State.setRad_out (s : State) (x : Radio) : (s.setRad x).out = s.out := rfl
@[simp] theorem State.setRad_free (s : State) (x : Radio) : (s.setRad x).free = s.free := rfl

/-! ### setFlt -/

@[simp] theorem State.setFlt_pending (s : State) (x : Fleet) : (s.setFlt x).pending = s.pending := rfl
@[simp] theorem State.setFlt_part (s : State) (x : Fleet) : (s.setFlt x).part = s.part := rfl
@[simp] theorem State.setFlt_fuses (s : State) (x : Fleet) : (s.setFlt x).fuses = s.fuses := rfl
@[simp] theorem State.setFlt_pins (s : State) (x : Fleet) : (s.setFlt x).pins = s.pins := rfl
@[simp] theorem State.setFlt_straps (s : State) (x : Fleet) : (s.setFlt x).straps = s.straps := rfl
@[simp] theorem State.setFlt_dev (s : State) (x : Fleet) : (s.setFlt x).dev = s.dev := rfl
@[simp] theorem State.setFlt_role (s : State) (x : Fleet) : (s.setFlt x).role = s.role := rfl
@[simp] theorem State.setFlt_stroked (s : State) (x : Fleet) : (s.setFlt x).stroked = s.stroked := rfl
@[simp] theorem State.setFlt_sn (s : State) (x : Fleet) : (s.setFlt x).sn = s.sn := rfl
@[simp] theorem State.setFlt_regs (s : State) (x : Fleet) : (s.setFlt x).regs = s.regs := rfl
@[simp] theorem State.setFlt_sys (s : State) (x : Fleet) : (s.setFlt x).sys = s.sys := rfl
@[simp] theorem State.setFlt_log (s : State) (x : Fleet) : (s.setFlt x).log = s.log := rfl
@[simp] theorem State.setFlt_disp (s : State) (x : Fleet) : (s.setFlt x).disp = s.disp := rfl
@[simp] theorem State.setFlt_rings (s : State) (x : Fleet) : (s.setFlt x).rings = s.rings := rfl
@[simp] theorem State.setFlt_rad (s : State) (x : Fleet) : (s.setFlt x).rad = s.rad := rfl
@[simp] theorem State.setFlt_flt (s : State) (x : Fleet) : (s.setFlt x).flt = x := rfl
@[simp] theorem State.setFlt_stp (s : State) (x : Fleet) : (s.setFlt x).stp = s.stp := rfl
@[simp] theorem State.setFlt_key (s : State) (x : Fleet) : (s.setFlt x).key = s.key := rfl
@[simp] theorem State.setFlt_tim (s : State) (x : Fleet) : (s.setFlt x).tim = s.tim := rfl
@[simp] theorem State.setFlt_gns (s : State) (x : Fleet) : (s.setFlt x).gns = s.gns := rfl
@[simp] theorem State.setFlt_bsl (s : State) (x : Fleet) : (s.setFlt x).bsl = s.bsl := rfl
@[simp] theorem State.setFlt_alt (s : State) (x : Fleet) : (s.setFlt x).alt = s.alt := rfl
@[simp] theorem State.setFlt_net (s : State) (x : Fleet) : (s.setFlt x).net = s.net := rfl
@[simp] theorem State.setFlt_msh (s : State) (x : Fleet) : (s.setFlt x).msh = s.msh := rfl
@[simp] theorem State.setFlt_pai (s : State) (x : Fleet) : (s.setFlt x).pai = s.pai := rfl
@[simp] theorem State.setFlt_wel (s : State) (x : Fleet) : (s.setFlt x).wel = s.wel := rfl
@[simp] theorem State.setFlt_wlg (s : State) (x : Fleet) : (s.setFlt x).wlg = s.wlg := rfl
@[simp] theorem State.setFlt_mot (s : State) (x : Fleet) : (s.setFlt x).mot = s.mot := rfl
@[simp] theorem State.setFlt_lop (s : State) (x : Fleet) : (s.setFlt x).lop = s.lop := rfl
@[simp] theorem State.setFlt_mem (s : State) (x : Fleet) : (s.setFlt x).mem = s.mem := rfl
@[simp] theorem State.setFlt_reply (s : State) (x : Fleet) : (s.setFlt x).reply = s.reply := rfl
@[simp] theorem State.setFlt_out (s : State) (x : Fleet) : (s.setFlt x).out = s.out := rfl
@[simp] theorem State.setFlt_free (s : State) (x : Fleet) : (s.setFlt x).free = s.free := rfl

/-! ### setStp -/

@[simp] theorem State.setStp_pending (s : State) (x : Stop) : (s.setStp x).pending = s.pending := rfl
@[simp] theorem State.setStp_part (s : State) (x : Stop) : (s.setStp x).part = s.part := rfl
@[simp] theorem State.setStp_fuses (s : State) (x : Stop) : (s.setStp x).fuses = s.fuses := rfl
@[simp] theorem State.setStp_pins (s : State) (x : Stop) : (s.setStp x).pins = s.pins := rfl
@[simp] theorem State.setStp_straps (s : State) (x : Stop) : (s.setStp x).straps = s.straps := rfl
@[simp] theorem State.setStp_dev (s : State) (x : Stop) : (s.setStp x).dev = s.dev := rfl
@[simp] theorem State.setStp_role (s : State) (x : Stop) : (s.setStp x).role = s.role := rfl
@[simp] theorem State.setStp_stroked (s : State) (x : Stop) : (s.setStp x).stroked = s.stroked := rfl
@[simp] theorem State.setStp_sn (s : State) (x : Stop) : (s.setStp x).sn = s.sn := rfl
@[simp] theorem State.setStp_regs (s : State) (x : Stop) : (s.setStp x).regs = s.regs := rfl
@[simp] theorem State.setStp_sys (s : State) (x : Stop) : (s.setStp x).sys = s.sys := rfl
@[simp] theorem State.setStp_log (s : State) (x : Stop) : (s.setStp x).log = s.log := rfl
@[simp] theorem State.setStp_disp (s : State) (x : Stop) : (s.setStp x).disp = s.disp := rfl
@[simp] theorem State.setStp_rings (s : State) (x : Stop) : (s.setStp x).rings = s.rings := rfl
@[simp] theorem State.setStp_rad (s : State) (x : Stop) : (s.setStp x).rad = s.rad := rfl
@[simp] theorem State.setStp_flt (s : State) (x : Stop) : (s.setStp x).flt = s.flt := rfl
@[simp] theorem State.setStp_stp (s : State) (x : Stop) : (s.setStp x).stp = x := rfl
@[simp] theorem State.setStp_key (s : State) (x : Stop) : (s.setStp x).key = s.key := rfl
@[simp] theorem State.setStp_tim (s : State) (x : Stop) : (s.setStp x).tim = s.tim := rfl
@[simp] theorem State.setStp_gns (s : State) (x : Stop) : (s.setStp x).gns = s.gns := rfl
@[simp] theorem State.setStp_bsl (s : State) (x : Stop) : (s.setStp x).bsl = s.bsl := rfl
@[simp] theorem State.setStp_alt (s : State) (x : Stop) : (s.setStp x).alt = s.alt := rfl
@[simp] theorem State.setStp_net (s : State) (x : Stop) : (s.setStp x).net = s.net := rfl
@[simp] theorem State.setStp_msh (s : State) (x : Stop) : (s.setStp x).msh = s.msh := rfl
@[simp] theorem State.setStp_pai (s : State) (x : Stop) : (s.setStp x).pai = s.pai := rfl
@[simp] theorem State.setStp_wel (s : State) (x : Stop) : (s.setStp x).wel = s.wel := rfl
@[simp] theorem State.setStp_wlg (s : State) (x : Stop) : (s.setStp x).wlg = s.wlg := rfl
@[simp] theorem State.setStp_mot (s : State) (x : Stop) : (s.setStp x).mot = s.mot := rfl
@[simp] theorem State.setStp_lop (s : State) (x : Stop) : (s.setStp x).lop = s.lop := rfl
@[simp] theorem State.setStp_mem (s : State) (x : Stop) : (s.setStp x).mem = s.mem := rfl
@[simp] theorem State.setStp_reply (s : State) (x : Stop) : (s.setStp x).reply = s.reply := rfl
@[simp] theorem State.setStp_out (s : State) (x : Stop) : (s.setStp x).out = s.out := rfl
@[simp] theorem State.setStp_free (s : State) (x : Stop) : (s.setStp x).free = s.free := rfl

/-! ### setKey -/

@[simp] theorem State.setKey_pending (s : State) (x : Keys) : (s.setKey x).pending = s.pending := rfl
@[simp] theorem State.setKey_part (s : State) (x : Keys) : (s.setKey x).part = s.part := rfl
@[simp] theorem State.setKey_fuses (s : State) (x : Keys) : (s.setKey x).fuses = s.fuses := rfl
@[simp] theorem State.setKey_pins (s : State) (x : Keys) : (s.setKey x).pins = s.pins := rfl
@[simp] theorem State.setKey_straps (s : State) (x : Keys) : (s.setKey x).straps = s.straps := rfl
@[simp] theorem State.setKey_dev (s : State) (x : Keys) : (s.setKey x).dev = s.dev := rfl
@[simp] theorem State.setKey_role (s : State) (x : Keys) : (s.setKey x).role = s.role := rfl
@[simp] theorem State.setKey_stroked (s : State) (x : Keys) : (s.setKey x).stroked = s.stroked := rfl
@[simp] theorem State.setKey_sn (s : State) (x : Keys) : (s.setKey x).sn = s.sn := rfl
@[simp] theorem State.setKey_regs (s : State) (x : Keys) : (s.setKey x).regs = s.regs := rfl
@[simp] theorem State.setKey_sys (s : State) (x : Keys) : (s.setKey x).sys = s.sys := rfl
@[simp] theorem State.setKey_log (s : State) (x : Keys) : (s.setKey x).log = s.log := rfl
@[simp] theorem State.setKey_disp (s : State) (x : Keys) : (s.setKey x).disp = s.disp := rfl
@[simp] theorem State.setKey_rings (s : State) (x : Keys) : (s.setKey x).rings = s.rings := rfl
@[simp] theorem State.setKey_rad (s : State) (x : Keys) : (s.setKey x).rad = s.rad := rfl
@[simp] theorem State.setKey_flt (s : State) (x : Keys) : (s.setKey x).flt = s.flt := rfl
@[simp] theorem State.setKey_stp (s : State) (x : Keys) : (s.setKey x).stp = s.stp := rfl
@[simp] theorem State.setKey_key (s : State) (x : Keys) : (s.setKey x).key = x := rfl
@[simp] theorem State.setKey_tim (s : State) (x : Keys) : (s.setKey x).tim = s.tim := rfl
@[simp] theorem State.setKey_gns (s : State) (x : Keys) : (s.setKey x).gns = s.gns := rfl
@[simp] theorem State.setKey_bsl (s : State) (x : Keys) : (s.setKey x).bsl = s.bsl := rfl
@[simp] theorem State.setKey_alt (s : State) (x : Keys) : (s.setKey x).alt = s.alt := rfl
@[simp] theorem State.setKey_net (s : State) (x : Keys) : (s.setKey x).net = s.net := rfl
@[simp] theorem State.setKey_msh (s : State) (x : Keys) : (s.setKey x).msh = s.msh := rfl
@[simp] theorem State.setKey_pai (s : State) (x : Keys) : (s.setKey x).pai = s.pai := rfl
@[simp] theorem State.setKey_wel (s : State) (x : Keys) : (s.setKey x).wel = s.wel := rfl
@[simp] theorem State.setKey_wlg (s : State) (x : Keys) : (s.setKey x).wlg = s.wlg := rfl
@[simp] theorem State.setKey_mot (s : State) (x : Keys) : (s.setKey x).mot = s.mot := rfl
@[simp] theorem State.setKey_lop (s : State) (x : Keys) : (s.setKey x).lop = s.lop := rfl
@[simp] theorem State.setKey_mem (s : State) (x : Keys) : (s.setKey x).mem = s.mem := rfl
@[simp] theorem State.setKey_reply (s : State) (x : Keys) : (s.setKey x).reply = s.reply := rfl
@[simp] theorem State.setKey_out (s : State) (x : Keys) : (s.setKey x).out = s.out := rfl
@[simp] theorem State.setKey_free (s : State) (x : Keys) : (s.setKey x).free = s.free := rfl

/-! ### setTim -/

@[simp] theorem State.setTim_pending (s : State) (x : Timing) : (s.setTim x).pending = s.pending := rfl
@[simp] theorem State.setTim_part (s : State) (x : Timing) : (s.setTim x).part = s.part := rfl
@[simp] theorem State.setTim_fuses (s : State) (x : Timing) : (s.setTim x).fuses = s.fuses := rfl
@[simp] theorem State.setTim_pins (s : State) (x : Timing) : (s.setTim x).pins = s.pins := rfl
@[simp] theorem State.setTim_straps (s : State) (x : Timing) : (s.setTim x).straps = s.straps := rfl
@[simp] theorem State.setTim_dev (s : State) (x : Timing) : (s.setTim x).dev = s.dev := rfl
@[simp] theorem State.setTim_role (s : State) (x : Timing) : (s.setTim x).role = s.role := rfl
@[simp] theorem State.setTim_stroked (s : State) (x : Timing) : (s.setTim x).stroked = s.stroked := rfl
@[simp] theorem State.setTim_sn (s : State) (x : Timing) : (s.setTim x).sn = s.sn := rfl
@[simp] theorem State.setTim_regs (s : State) (x : Timing) : (s.setTim x).regs = s.regs := rfl
@[simp] theorem State.setTim_sys (s : State) (x : Timing) : (s.setTim x).sys = s.sys := rfl
@[simp] theorem State.setTim_log (s : State) (x : Timing) : (s.setTim x).log = s.log := rfl
@[simp] theorem State.setTim_disp (s : State) (x : Timing) : (s.setTim x).disp = s.disp := rfl
@[simp] theorem State.setTim_rings (s : State) (x : Timing) : (s.setTim x).rings = s.rings := rfl
@[simp] theorem State.setTim_rad (s : State) (x : Timing) : (s.setTim x).rad = s.rad := rfl
@[simp] theorem State.setTim_flt (s : State) (x : Timing) : (s.setTim x).flt = s.flt := rfl
@[simp] theorem State.setTim_stp (s : State) (x : Timing) : (s.setTim x).stp = s.stp := rfl
@[simp] theorem State.setTim_key (s : State) (x : Timing) : (s.setTim x).key = s.key := rfl
@[simp] theorem State.setTim_tim (s : State) (x : Timing) : (s.setTim x).tim = x := rfl
@[simp] theorem State.setTim_gns (s : State) (x : Timing) : (s.setTim x).gns = s.gns := rfl
@[simp] theorem State.setTim_bsl (s : State) (x : Timing) : (s.setTim x).bsl = s.bsl := rfl
@[simp] theorem State.setTim_alt (s : State) (x : Timing) : (s.setTim x).alt = s.alt := rfl
@[simp] theorem State.setTim_net (s : State) (x : Timing) : (s.setTim x).net = s.net := rfl
@[simp] theorem State.setTim_msh (s : State) (x : Timing) : (s.setTim x).msh = s.msh := rfl
@[simp] theorem State.setTim_pai (s : State) (x : Timing) : (s.setTim x).pai = s.pai := rfl
@[simp] theorem State.setTim_wel (s : State) (x : Timing) : (s.setTim x).wel = s.wel := rfl
@[simp] theorem State.setTim_wlg (s : State) (x : Timing) : (s.setTim x).wlg = s.wlg := rfl
@[simp] theorem State.setTim_mot (s : State) (x : Timing) : (s.setTim x).mot = s.mot := rfl
@[simp] theorem State.setTim_lop (s : State) (x : Timing) : (s.setTim x).lop = s.lop := rfl
@[simp] theorem State.setTim_mem (s : State) (x : Timing) : (s.setTim x).mem = s.mem := rfl
@[simp] theorem State.setTim_reply (s : State) (x : Timing) : (s.setTim x).reply = s.reply := rfl
@[simp] theorem State.setTim_out (s : State) (x : Timing) : (s.setTim x).out = s.out := rfl
@[simp] theorem State.setTim_free (s : State) (x : Timing) : (s.setTim x).free = s.free := rfl

/-! ### setGns -/

@[simp] theorem State.setGns_pending (s : State) (x : Gnss) : (s.setGns x).pending = s.pending := rfl
@[simp] theorem State.setGns_part (s : State) (x : Gnss) : (s.setGns x).part = s.part := rfl
@[simp] theorem State.setGns_fuses (s : State) (x : Gnss) : (s.setGns x).fuses = s.fuses := rfl
@[simp] theorem State.setGns_pins (s : State) (x : Gnss) : (s.setGns x).pins = s.pins := rfl
@[simp] theorem State.setGns_straps (s : State) (x : Gnss) : (s.setGns x).straps = s.straps := rfl
@[simp] theorem State.setGns_dev (s : State) (x : Gnss) : (s.setGns x).dev = s.dev := rfl
@[simp] theorem State.setGns_role (s : State) (x : Gnss) : (s.setGns x).role = s.role := rfl
@[simp] theorem State.setGns_stroked (s : State) (x : Gnss) : (s.setGns x).stroked = s.stroked := rfl
@[simp] theorem State.setGns_sn (s : State) (x : Gnss) : (s.setGns x).sn = s.sn := rfl
@[simp] theorem State.setGns_regs (s : State) (x : Gnss) : (s.setGns x).regs = s.regs := rfl
@[simp] theorem State.setGns_sys (s : State) (x : Gnss) : (s.setGns x).sys = s.sys := rfl
@[simp] theorem State.setGns_log (s : State) (x : Gnss) : (s.setGns x).log = s.log := rfl
@[simp] theorem State.setGns_disp (s : State) (x : Gnss) : (s.setGns x).disp = s.disp := rfl
@[simp] theorem State.setGns_rings (s : State) (x : Gnss) : (s.setGns x).rings = s.rings := rfl
@[simp] theorem State.setGns_rad (s : State) (x : Gnss) : (s.setGns x).rad = s.rad := rfl
@[simp] theorem State.setGns_flt (s : State) (x : Gnss) : (s.setGns x).flt = s.flt := rfl
@[simp] theorem State.setGns_stp (s : State) (x : Gnss) : (s.setGns x).stp = s.stp := rfl
@[simp] theorem State.setGns_key (s : State) (x : Gnss) : (s.setGns x).key = s.key := rfl
@[simp] theorem State.setGns_tim (s : State) (x : Gnss) : (s.setGns x).tim = s.tim := rfl
@[simp] theorem State.setGns_gns (s : State) (x : Gnss) : (s.setGns x).gns = x := rfl
@[simp] theorem State.setGns_bsl (s : State) (x : Gnss) : (s.setGns x).bsl = s.bsl := rfl
@[simp] theorem State.setGns_alt (s : State) (x : Gnss) : (s.setGns x).alt = s.alt := rfl
@[simp] theorem State.setGns_net (s : State) (x : Gnss) : (s.setGns x).net = s.net := rfl
@[simp] theorem State.setGns_msh (s : State) (x : Gnss) : (s.setGns x).msh = s.msh := rfl
@[simp] theorem State.setGns_pai (s : State) (x : Gnss) : (s.setGns x).pai = s.pai := rfl
@[simp] theorem State.setGns_wel (s : State) (x : Gnss) : (s.setGns x).wel = s.wel := rfl
@[simp] theorem State.setGns_wlg (s : State) (x : Gnss) : (s.setGns x).wlg = s.wlg := rfl
@[simp] theorem State.setGns_mot (s : State) (x : Gnss) : (s.setGns x).mot = s.mot := rfl
@[simp] theorem State.setGns_lop (s : State) (x : Gnss) : (s.setGns x).lop = s.lop := rfl
@[simp] theorem State.setGns_mem (s : State) (x : Gnss) : (s.setGns x).mem = s.mem := rfl
@[simp] theorem State.setGns_reply (s : State) (x : Gnss) : (s.setGns x).reply = s.reply := rfl
@[simp] theorem State.setGns_out (s : State) (x : Gnss) : (s.setGns x).out = s.out := rfl
@[simp] theorem State.setGns_free (s : State) (x : Gnss) : (s.setGns x).free = s.free := rfl

/-! ### setBsl -/

@[simp] theorem State.setBsl_pending (s : State) (x : Baseline) : (s.setBsl x).pending = s.pending := rfl
@[simp] theorem State.setBsl_part (s : State) (x : Baseline) : (s.setBsl x).part = s.part := rfl
@[simp] theorem State.setBsl_fuses (s : State) (x : Baseline) : (s.setBsl x).fuses = s.fuses := rfl
@[simp] theorem State.setBsl_pins (s : State) (x : Baseline) : (s.setBsl x).pins = s.pins := rfl
@[simp] theorem State.setBsl_straps (s : State) (x : Baseline) : (s.setBsl x).straps = s.straps := rfl
@[simp] theorem State.setBsl_dev (s : State) (x : Baseline) : (s.setBsl x).dev = s.dev := rfl
@[simp] theorem State.setBsl_role (s : State) (x : Baseline) : (s.setBsl x).role = s.role := rfl
@[simp] theorem State.setBsl_stroked (s : State) (x : Baseline) : (s.setBsl x).stroked = s.stroked := rfl
@[simp] theorem State.setBsl_sn (s : State) (x : Baseline) : (s.setBsl x).sn = s.sn := rfl
@[simp] theorem State.setBsl_regs (s : State) (x : Baseline) : (s.setBsl x).regs = s.regs := rfl
@[simp] theorem State.setBsl_sys (s : State) (x : Baseline) : (s.setBsl x).sys = s.sys := rfl
@[simp] theorem State.setBsl_log (s : State) (x : Baseline) : (s.setBsl x).log = s.log := rfl
@[simp] theorem State.setBsl_disp (s : State) (x : Baseline) : (s.setBsl x).disp = s.disp := rfl
@[simp] theorem State.setBsl_rings (s : State) (x : Baseline) : (s.setBsl x).rings = s.rings := rfl
@[simp] theorem State.setBsl_rad (s : State) (x : Baseline) : (s.setBsl x).rad = s.rad := rfl
@[simp] theorem State.setBsl_flt (s : State) (x : Baseline) : (s.setBsl x).flt = s.flt := rfl
@[simp] theorem State.setBsl_stp (s : State) (x : Baseline) : (s.setBsl x).stp = s.stp := rfl
@[simp] theorem State.setBsl_key (s : State) (x : Baseline) : (s.setBsl x).key = s.key := rfl
@[simp] theorem State.setBsl_tim (s : State) (x : Baseline) : (s.setBsl x).tim = s.tim := rfl
@[simp] theorem State.setBsl_gns (s : State) (x : Baseline) : (s.setBsl x).gns = s.gns := rfl
@[simp] theorem State.setBsl_bsl (s : State) (x : Baseline) : (s.setBsl x).bsl = x := rfl
@[simp] theorem State.setBsl_alt (s : State) (x : Baseline) : (s.setBsl x).alt = s.alt := rfl
@[simp] theorem State.setBsl_net (s : State) (x : Baseline) : (s.setBsl x).net = s.net := rfl
@[simp] theorem State.setBsl_msh (s : State) (x : Baseline) : (s.setBsl x).msh = s.msh := rfl
@[simp] theorem State.setBsl_pai (s : State) (x : Baseline) : (s.setBsl x).pai = s.pai := rfl
@[simp] theorem State.setBsl_wel (s : State) (x : Baseline) : (s.setBsl x).wel = s.wel := rfl
@[simp] theorem State.setBsl_wlg (s : State) (x : Baseline) : (s.setBsl x).wlg = s.wlg := rfl
@[simp] theorem State.setBsl_mot (s : State) (x : Baseline) : (s.setBsl x).mot = s.mot := rfl
@[simp] theorem State.setBsl_lop (s : State) (x : Baseline) : (s.setBsl x).lop = s.lop := rfl
@[simp] theorem State.setBsl_mem (s : State) (x : Baseline) : (s.setBsl x).mem = s.mem := rfl
@[simp] theorem State.setBsl_reply (s : State) (x : Baseline) : (s.setBsl x).reply = s.reply := rfl
@[simp] theorem State.setBsl_out (s : State) (x : Baseline) : (s.setBsl x).out = s.out := rfl
@[simp] theorem State.setBsl_free (s : State) (x : Baseline) : (s.setBsl x).free = s.free := rfl

/-! ### setAlt -/

@[simp] theorem State.setAlt_pending (s : State) (x : Allot) : (s.setAlt x).pending = s.pending := rfl
@[simp] theorem State.setAlt_part (s : State) (x : Allot) : (s.setAlt x).part = s.part := rfl
@[simp] theorem State.setAlt_fuses (s : State) (x : Allot) : (s.setAlt x).fuses = s.fuses := rfl
@[simp] theorem State.setAlt_pins (s : State) (x : Allot) : (s.setAlt x).pins = s.pins := rfl
@[simp] theorem State.setAlt_straps (s : State) (x : Allot) : (s.setAlt x).straps = s.straps := rfl
@[simp] theorem State.setAlt_dev (s : State) (x : Allot) : (s.setAlt x).dev = s.dev := rfl
@[simp] theorem State.setAlt_role (s : State) (x : Allot) : (s.setAlt x).role = s.role := rfl
@[simp] theorem State.setAlt_stroked (s : State) (x : Allot) : (s.setAlt x).stroked = s.stroked := rfl
@[simp] theorem State.setAlt_sn (s : State) (x : Allot) : (s.setAlt x).sn = s.sn := rfl
@[simp] theorem State.setAlt_regs (s : State) (x : Allot) : (s.setAlt x).regs = s.regs := rfl
@[simp] theorem State.setAlt_sys (s : State) (x : Allot) : (s.setAlt x).sys = s.sys := rfl
@[simp] theorem State.setAlt_log (s : State) (x : Allot) : (s.setAlt x).log = s.log := rfl
@[simp] theorem State.setAlt_disp (s : State) (x : Allot) : (s.setAlt x).disp = s.disp := rfl
@[simp] theorem State.setAlt_rings (s : State) (x : Allot) : (s.setAlt x).rings = s.rings := rfl
@[simp] theorem State.setAlt_rad (s : State) (x : Allot) : (s.setAlt x).rad = s.rad := rfl
@[simp] theorem State.setAlt_flt (s : State) (x : Allot) : (s.setAlt x).flt = s.flt := rfl
@[simp] theorem State.setAlt_stp (s : State) (x : Allot) : (s.setAlt x).stp = s.stp := rfl
@[simp] theorem State.setAlt_key (s : State) (x : Allot) : (s.setAlt x).key = s.key := rfl
@[simp] theorem State.setAlt_tim (s : State) (x : Allot) : (s.setAlt x).tim = s.tim := rfl
@[simp] theorem State.setAlt_gns (s : State) (x : Allot) : (s.setAlt x).gns = s.gns := rfl
@[simp] theorem State.setAlt_bsl (s : State) (x : Allot) : (s.setAlt x).bsl = s.bsl := rfl
@[simp] theorem State.setAlt_alt (s : State) (x : Allot) : (s.setAlt x).alt = x := rfl
@[simp] theorem State.setAlt_net (s : State) (x : Allot) : (s.setAlt x).net = s.net := rfl
@[simp] theorem State.setAlt_msh (s : State) (x : Allot) : (s.setAlt x).msh = s.msh := rfl
@[simp] theorem State.setAlt_pai (s : State) (x : Allot) : (s.setAlt x).pai = s.pai := rfl
@[simp] theorem State.setAlt_wel (s : State) (x : Allot) : (s.setAlt x).wel = s.wel := rfl
@[simp] theorem State.setAlt_wlg (s : State) (x : Allot) : (s.setAlt x).wlg = s.wlg := rfl
@[simp] theorem State.setAlt_mot (s : State) (x : Allot) : (s.setAlt x).mot = s.mot := rfl
@[simp] theorem State.setAlt_lop (s : State) (x : Allot) : (s.setAlt x).lop = s.lop := rfl
@[simp] theorem State.setAlt_mem (s : State) (x : Allot) : (s.setAlt x).mem = s.mem := rfl
@[simp] theorem State.setAlt_reply (s : State) (x : Allot) : (s.setAlt x).reply = s.reply := rfl
@[simp] theorem State.setAlt_out (s : State) (x : Allot) : (s.setAlt x).out = s.out := rfl
@[simp] theorem State.setAlt_free (s : State) (x : Allot) : (s.setAlt x).free = s.free := rfl

/-! ### setNet -/

@[simp] theorem State.setNet_pending (s : State) (x : Net) : (s.setNet x).pending = s.pending := rfl
@[simp] theorem State.setNet_part (s : State) (x : Net) : (s.setNet x).part = s.part := rfl
@[simp] theorem State.setNet_fuses (s : State) (x : Net) : (s.setNet x).fuses = s.fuses := rfl
@[simp] theorem State.setNet_pins (s : State) (x : Net) : (s.setNet x).pins = s.pins := rfl
@[simp] theorem State.setNet_straps (s : State) (x : Net) : (s.setNet x).straps = s.straps := rfl
@[simp] theorem State.setNet_dev (s : State) (x : Net) : (s.setNet x).dev = s.dev := rfl
@[simp] theorem State.setNet_role (s : State) (x : Net) : (s.setNet x).role = s.role := rfl
@[simp] theorem State.setNet_stroked (s : State) (x : Net) : (s.setNet x).stroked = s.stroked := rfl
@[simp] theorem State.setNet_sn (s : State) (x : Net) : (s.setNet x).sn = s.sn := rfl
@[simp] theorem State.setNet_regs (s : State) (x : Net) : (s.setNet x).regs = s.regs := rfl
@[simp] theorem State.setNet_sys (s : State) (x : Net) : (s.setNet x).sys = s.sys := rfl
@[simp] theorem State.setNet_log (s : State) (x : Net) : (s.setNet x).log = s.log := rfl
@[simp] theorem State.setNet_disp (s : State) (x : Net) : (s.setNet x).disp = s.disp := rfl
@[simp] theorem State.setNet_rings (s : State) (x : Net) : (s.setNet x).rings = s.rings := rfl
@[simp] theorem State.setNet_rad (s : State) (x : Net) : (s.setNet x).rad = s.rad := rfl
@[simp] theorem State.setNet_flt (s : State) (x : Net) : (s.setNet x).flt = s.flt := rfl
@[simp] theorem State.setNet_stp (s : State) (x : Net) : (s.setNet x).stp = s.stp := rfl
@[simp] theorem State.setNet_key (s : State) (x : Net) : (s.setNet x).key = s.key := rfl
@[simp] theorem State.setNet_tim (s : State) (x : Net) : (s.setNet x).tim = s.tim := rfl
@[simp] theorem State.setNet_gns (s : State) (x : Net) : (s.setNet x).gns = s.gns := rfl
@[simp] theorem State.setNet_bsl (s : State) (x : Net) : (s.setNet x).bsl = s.bsl := rfl
@[simp] theorem State.setNet_alt (s : State) (x : Net) : (s.setNet x).alt = s.alt := rfl
@[simp] theorem State.setNet_net (s : State) (x : Net) : (s.setNet x).net = x := rfl
@[simp] theorem State.setNet_msh (s : State) (x : Net) : (s.setNet x).msh = s.msh := rfl
@[simp] theorem State.setNet_pai (s : State) (x : Net) : (s.setNet x).pai = s.pai := rfl
@[simp] theorem State.setNet_wel (s : State) (x : Net) : (s.setNet x).wel = s.wel := rfl
@[simp] theorem State.setNet_wlg (s : State) (x : Net) : (s.setNet x).wlg = s.wlg := rfl
@[simp] theorem State.setNet_mot (s : State) (x : Net) : (s.setNet x).mot = s.mot := rfl
@[simp] theorem State.setNet_lop (s : State) (x : Net) : (s.setNet x).lop = s.lop := rfl
@[simp] theorem State.setNet_mem (s : State) (x : Net) : (s.setNet x).mem = s.mem := rfl
@[simp] theorem State.setNet_reply (s : State) (x : Net) : (s.setNet x).reply = s.reply := rfl
@[simp] theorem State.setNet_out (s : State) (x : Net) : (s.setNet x).out = s.out := rfl
@[simp] theorem State.setNet_free (s : State) (x : Net) : (s.setNet x).free = s.free := rfl

/-! ### setMsh -/

@[simp] theorem State.setMsh_pending (s : State) (x : Mesh) : (s.setMsh x).pending = s.pending := rfl
@[simp] theorem State.setMsh_part (s : State) (x : Mesh) : (s.setMsh x).part = s.part := rfl
@[simp] theorem State.setMsh_fuses (s : State) (x : Mesh) : (s.setMsh x).fuses = s.fuses := rfl
@[simp] theorem State.setMsh_pins (s : State) (x : Mesh) : (s.setMsh x).pins = s.pins := rfl
@[simp] theorem State.setMsh_straps (s : State) (x : Mesh) : (s.setMsh x).straps = s.straps := rfl
@[simp] theorem State.setMsh_dev (s : State) (x : Mesh) : (s.setMsh x).dev = s.dev := rfl
@[simp] theorem State.setMsh_role (s : State) (x : Mesh) : (s.setMsh x).role = s.role := rfl
@[simp] theorem State.setMsh_stroked (s : State) (x : Mesh) : (s.setMsh x).stroked = s.stroked := rfl
@[simp] theorem State.setMsh_sn (s : State) (x : Mesh) : (s.setMsh x).sn = s.sn := rfl
@[simp] theorem State.setMsh_regs (s : State) (x : Mesh) : (s.setMsh x).regs = s.regs := rfl
@[simp] theorem State.setMsh_sys (s : State) (x : Mesh) : (s.setMsh x).sys = s.sys := rfl
@[simp] theorem State.setMsh_log (s : State) (x : Mesh) : (s.setMsh x).log = s.log := rfl
@[simp] theorem State.setMsh_disp (s : State) (x : Mesh) : (s.setMsh x).disp = s.disp := rfl
@[simp] theorem State.setMsh_rings (s : State) (x : Mesh) : (s.setMsh x).rings = s.rings := rfl
@[simp] theorem State.setMsh_rad (s : State) (x : Mesh) : (s.setMsh x).rad = s.rad := rfl
@[simp] theorem State.setMsh_flt (s : State) (x : Mesh) : (s.setMsh x).flt = s.flt := rfl
@[simp] theorem State.setMsh_stp (s : State) (x : Mesh) : (s.setMsh x).stp = s.stp := rfl
@[simp] theorem State.setMsh_key (s : State) (x : Mesh) : (s.setMsh x).key = s.key := rfl
@[simp] theorem State.setMsh_tim (s : State) (x : Mesh) : (s.setMsh x).tim = s.tim := rfl
@[simp] theorem State.setMsh_gns (s : State) (x : Mesh) : (s.setMsh x).gns = s.gns := rfl
@[simp] theorem State.setMsh_bsl (s : State) (x : Mesh) : (s.setMsh x).bsl = s.bsl := rfl
@[simp] theorem State.setMsh_alt (s : State) (x : Mesh) : (s.setMsh x).alt = s.alt := rfl
@[simp] theorem State.setMsh_net (s : State) (x : Mesh) : (s.setMsh x).net = s.net := rfl
@[simp] theorem State.setMsh_msh (s : State) (x : Mesh) : (s.setMsh x).msh = x := rfl
@[simp] theorem State.setMsh_pai (s : State) (x : Mesh) : (s.setMsh x).pai = s.pai := rfl
@[simp] theorem State.setMsh_wel (s : State) (x : Mesh) : (s.setMsh x).wel = s.wel := rfl
@[simp] theorem State.setMsh_wlg (s : State) (x : Mesh) : (s.setMsh x).wlg = s.wlg := rfl
@[simp] theorem State.setMsh_mot (s : State) (x : Mesh) : (s.setMsh x).mot = s.mot := rfl
@[simp] theorem State.setMsh_lop (s : State) (x : Mesh) : (s.setMsh x).lop = s.lop := rfl
@[simp] theorem State.setMsh_mem (s : State) (x : Mesh) : (s.setMsh x).mem = s.mem := rfl
@[simp] theorem State.setMsh_reply (s : State) (x : Mesh) : (s.setMsh x).reply = s.reply := rfl
@[simp] theorem State.setMsh_out (s : State) (x : Mesh) : (s.setMsh x).out = s.out := rfl
@[simp] theorem State.setMsh_free (s : State) (x : Mesh) : (s.setMsh x).free = s.free := rfl

/-! ### setPai -/

@[simp] theorem State.setPai_pending (s : State) (x : Pair) : (s.setPai x).pending = s.pending := rfl
@[simp] theorem State.setPai_part (s : State) (x : Pair) : (s.setPai x).part = s.part := rfl
@[simp] theorem State.setPai_fuses (s : State) (x : Pair) : (s.setPai x).fuses = s.fuses := rfl
@[simp] theorem State.setPai_pins (s : State) (x : Pair) : (s.setPai x).pins = s.pins := rfl
@[simp] theorem State.setPai_straps (s : State) (x : Pair) : (s.setPai x).straps = s.straps := rfl
@[simp] theorem State.setPai_dev (s : State) (x : Pair) : (s.setPai x).dev = s.dev := rfl
@[simp] theorem State.setPai_role (s : State) (x : Pair) : (s.setPai x).role = s.role := rfl
@[simp] theorem State.setPai_stroked (s : State) (x : Pair) : (s.setPai x).stroked = s.stroked := rfl
@[simp] theorem State.setPai_sn (s : State) (x : Pair) : (s.setPai x).sn = s.sn := rfl
@[simp] theorem State.setPai_regs (s : State) (x : Pair) : (s.setPai x).regs = s.regs := rfl
@[simp] theorem State.setPai_sys (s : State) (x : Pair) : (s.setPai x).sys = s.sys := rfl
@[simp] theorem State.setPai_log (s : State) (x : Pair) : (s.setPai x).log = s.log := rfl
@[simp] theorem State.setPai_disp (s : State) (x : Pair) : (s.setPai x).disp = s.disp := rfl
@[simp] theorem State.setPai_rings (s : State) (x : Pair) : (s.setPai x).rings = s.rings := rfl
@[simp] theorem State.setPai_rad (s : State) (x : Pair) : (s.setPai x).rad = s.rad := rfl
@[simp] theorem State.setPai_flt (s : State) (x : Pair) : (s.setPai x).flt = s.flt := rfl
@[simp] theorem State.setPai_stp (s : State) (x : Pair) : (s.setPai x).stp = s.stp := rfl
@[simp] theorem State.setPai_key (s : State) (x : Pair) : (s.setPai x).key = s.key := rfl
@[simp] theorem State.setPai_tim (s : State) (x : Pair) : (s.setPai x).tim = s.tim := rfl
@[simp] theorem State.setPai_gns (s : State) (x : Pair) : (s.setPai x).gns = s.gns := rfl
@[simp] theorem State.setPai_bsl (s : State) (x : Pair) : (s.setPai x).bsl = s.bsl := rfl
@[simp] theorem State.setPai_alt (s : State) (x : Pair) : (s.setPai x).alt = s.alt := rfl
@[simp] theorem State.setPai_net (s : State) (x : Pair) : (s.setPai x).net = s.net := rfl
@[simp] theorem State.setPai_msh (s : State) (x : Pair) : (s.setPai x).msh = s.msh := rfl
@[simp] theorem State.setPai_pai (s : State) (x : Pair) : (s.setPai x).pai = x := rfl
@[simp] theorem State.setPai_wel (s : State) (x : Pair) : (s.setPai x).wel = s.wel := rfl
@[simp] theorem State.setPai_wlg (s : State) (x : Pair) : (s.setPai x).wlg = s.wlg := rfl
@[simp] theorem State.setPai_mot (s : State) (x : Pair) : (s.setPai x).mot = s.mot := rfl
@[simp] theorem State.setPai_lop (s : State) (x : Pair) : (s.setPai x).lop = s.lop := rfl
@[simp] theorem State.setPai_mem (s : State) (x : Pair) : (s.setPai x).mem = s.mem := rfl
@[simp] theorem State.setPai_reply (s : State) (x : Pair) : (s.setPai x).reply = s.reply := rfl
@[simp] theorem State.setPai_out (s : State) (x : Pair) : (s.setPai x).out = s.out := rfl
@[simp] theorem State.setPai_free (s : State) (x : Pair) : (s.setPai x).free = s.free := rfl

/-! ### setWel -/

@[simp] theorem State.setWel_pending (s : State) (x : Well) : (s.setWel x).pending = s.pending := rfl
@[simp] theorem State.setWel_part (s : State) (x : Well) : (s.setWel x).part = s.part := rfl
@[simp] theorem State.setWel_fuses (s : State) (x : Well) : (s.setWel x).fuses = s.fuses := rfl
@[simp] theorem State.setWel_pins (s : State) (x : Well) : (s.setWel x).pins = s.pins := rfl
@[simp] theorem State.setWel_straps (s : State) (x : Well) : (s.setWel x).straps = s.straps := rfl
@[simp] theorem State.setWel_dev (s : State) (x : Well) : (s.setWel x).dev = s.dev := rfl
@[simp] theorem State.setWel_role (s : State) (x : Well) : (s.setWel x).role = s.role := rfl
@[simp] theorem State.setWel_stroked (s : State) (x : Well) : (s.setWel x).stroked = s.stroked := rfl
@[simp] theorem State.setWel_sn (s : State) (x : Well) : (s.setWel x).sn = s.sn := rfl
@[simp] theorem State.setWel_regs (s : State) (x : Well) : (s.setWel x).regs = s.regs := rfl
@[simp] theorem State.setWel_sys (s : State) (x : Well) : (s.setWel x).sys = s.sys := rfl
@[simp] theorem State.setWel_log (s : State) (x : Well) : (s.setWel x).log = s.log := rfl
@[simp] theorem State.setWel_disp (s : State) (x : Well) : (s.setWel x).disp = s.disp := rfl
@[simp] theorem State.setWel_rings (s : State) (x : Well) : (s.setWel x).rings = s.rings := rfl
@[simp] theorem State.setWel_rad (s : State) (x : Well) : (s.setWel x).rad = s.rad := rfl
@[simp] theorem State.setWel_flt (s : State) (x : Well) : (s.setWel x).flt = s.flt := rfl
@[simp] theorem State.setWel_stp (s : State) (x : Well) : (s.setWel x).stp = s.stp := rfl
@[simp] theorem State.setWel_key (s : State) (x : Well) : (s.setWel x).key = s.key := rfl
@[simp] theorem State.setWel_tim (s : State) (x : Well) : (s.setWel x).tim = s.tim := rfl
@[simp] theorem State.setWel_gns (s : State) (x : Well) : (s.setWel x).gns = s.gns := rfl
@[simp] theorem State.setWel_bsl (s : State) (x : Well) : (s.setWel x).bsl = s.bsl := rfl
@[simp] theorem State.setWel_alt (s : State) (x : Well) : (s.setWel x).alt = s.alt := rfl
@[simp] theorem State.setWel_net (s : State) (x : Well) : (s.setWel x).net = s.net := rfl
@[simp] theorem State.setWel_msh (s : State) (x : Well) : (s.setWel x).msh = s.msh := rfl
@[simp] theorem State.setWel_pai (s : State) (x : Well) : (s.setWel x).pai = s.pai := rfl
@[simp] theorem State.setWel_wel (s : State) (x : Well) : (s.setWel x).wel = x := rfl
@[simp] theorem State.setWel_wlg (s : State) (x : Well) : (s.setWel x).wlg = s.wlg := rfl
@[simp] theorem State.setWel_mot (s : State) (x : Well) : (s.setWel x).mot = s.mot := rfl
@[simp] theorem State.setWel_lop (s : State) (x : Well) : (s.setWel x).lop = s.lop := rfl
@[simp] theorem State.setWel_mem (s : State) (x : Well) : (s.setWel x).mem = s.mem := rfl
@[simp] theorem State.setWel_reply (s : State) (x : Well) : (s.setWel x).reply = s.reply := rfl
@[simp] theorem State.setWel_out (s : State) (x : Well) : (s.setWel x).out = s.out := rfl
@[simp] theorem State.setWel_free (s : State) (x : Well) : (s.setWel x).free = s.free := rfl

/-! ### setWlg -/

@[simp] theorem State.setWlg_pending (s : State) (x : Wellgate) : (s.setWlg x).pending = s.pending := rfl
@[simp] theorem State.setWlg_part (s : State) (x : Wellgate) : (s.setWlg x).part = s.part := rfl
@[simp] theorem State.setWlg_fuses (s : State) (x : Wellgate) : (s.setWlg x).fuses = s.fuses := rfl
@[simp] theorem State.setWlg_pins (s : State) (x : Wellgate) : (s.setWlg x).pins = s.pins := rfl
@[simp] theorem State.setWlg_straps (s : State) (x : Wellgate) : (s.setWlg x).straps = s.straps := rfl
@[simp] theorem State.setWlg_dev (s : State) (x : Wellgate) : (s.setWlg x).dev = s.dev := rfl
@[simp] theorem State.setWlg_role (s : State) (x : Wellgate) : (s.setWlg x).role = s.role := rfl
@[simp] theorem State.setWlg_stroked (s : State) (x : Wellgate) : (s.setWlg x).stroked = s.stroked := rfl
@[simp] theorem State.setWlg_sn (s : State) (x : Wellgate) : (s.setWlg x).sn = s.sn := rfl
@[simp] theorem State.setWlg_regs (s : State) (x : Wellgate) : (s.setWlg x).regs = s.regs := rfl
@[simp] theorem State.setWlg_sys (s : State) (x : Wellgate) : (s.setWlg x).sys = s.sys := rfl
@[simp] theorem State.setWlg_log (s : State) (x : Wellgate) : (s.setWlg x).log = s.log := rfl
@[simp] theorem State.setWlg_disp (s : State) (x : Wellgate) : (s.setWlg x).disp = s.disp := rfl
@[simp] theorem State.setWlg_rings (s : State) (x : Wellgate) : (s.setWlg x).rings = s.rings := rfl
@[simp] theorem State.setWlg_rad (s : State) (x : Wellgate) : (s.setWlg x).rad = s.rad := rfl
@[simp] theorem State.setWlg_flt (s : State) (x : Wellgate) : (s.setWlg x).flt = s.flt := rfl
@[simp] theorem State.setWlg_stp (s : State) (x : Wellgate) : (s.setWlg x).stp = s.stp := rfl
@[simp] theorem State.setWlg_key (s : State) (x : Wellgate) : (s.setWlg x).key = s.key := rfl
@[simp] theorem State.setWlg_tim (s : State) (x : Wellgate) : (s.setWlg x).tim = s.tim := rfl
@[simp] theorem State.setWlg_gns (s : State) (x : Wellgate) : (s.setWlg x).gns = s.gns := rfl
@[simp] theorem State.setWlg_bsl (s : State) (x : Wellgate) : (s.setWlg x).bsl = s.bsl := rfl
@[simp] theorem State.setWlg_alt (s : State) (x : Wellgate) : (s.setWlg x).alt = s.alt := rfl
@[simp] theorem State.setWlg_net (s : State) (x : Wellgate) : (s.setWlg x).net = s.net := rfl
@[simp] theorem State.setWlg_msh (s : State) (x : Wellgate) : (s.setWlg x).msh = s.msh := rfl
@[simp] theorem State.setWlg_pai (s : State) (x : Wellgate) : (s.setWlg x).pai = s.pai := rfl
@[simp] theorem State.setWlg_wel (s : State) (x : Wellgate) : (s.setWlg x).wel = s.wel := rfl
@[simp] theorem State.setWlg_wlg (s : State) (x : Wellgate) : (s.setWlg x).wlg = x := rfl
@[simp] theorem State.setWlg_mot (s : State) (x : Wellgate) : (s.setWlg x).mot = s.mot := rfl
@[simp] theorem State.setWlg_lop (s : State) (x : Wellgate) : (s.setWlg x).lop = s.lop := rfl
@[simp] theorem State.setWlg_mem (s : State) (x : Wellgate) : (s.setWlg x).mem = s.mem := rfl
@[simp] theorem State.setWlg_reply (s : State) (x : Wellgate) : (s.setWlg x).reply = s.reply := rfl
@[simp] theorem State.setWlg_out (s : State) (x : Wellgate) : (s.setWlg x).out = s.out := rfl
@[simp] theorem State.setWlg_free (s : State) (x : Wellgate) : (s.setWlg x).free = s.free := rfl

/-! ### setMot -/

@[simp] theorem State.setMot_pending (s : State) (x : Motion) : (s.setMot x).pending = s.pending := rfl
@[simp] theorem State.setMot_part (s : State) (x : Motion) : (s.setMot x).part = s.part := rfl
@[simp] theorem State.setMot_fuses (s : State) (x : Motion) : (s.setMot x).fuses = s.fuses := rfl
@[simp] theorem State.setMot_pins (s : State) (x : Motion) : (s.setMot x).pins = s.pins := rfl
@[simp] theorem State.setMot_straps (s : State) (x : Motion) : (s.setMot x).straps = s.straps := rfl
@[simp] theorem State.setMot_dev (s : State) (x : Motion) : (s.setMot x).dev = s.dev := rfl
@[simp] theorem State.setMot_role (s : State) (x : Motion) : (s.setMot x).role = s.role := rfl
@[simp] theorem State.setMot_stroked (s : State) (x : Motion) : (s.setMot x).stroked = s.stroked := rfl
@[simp] theorem State.setMot_sn (s : State) (x : Motion) : (s.setMot x).sn = s.sn := rfl
@[simp] theorem State.setMot_regs (s : State) (x : Motion) : (s.setMot x).regs = s.regs := rfl
@[simp] theorem State.setMot_sys (s : State) (x : Motion) : (s.setMot x).sys = s.sys := rfl
@[simp] theorem State.setMot_log (s : State) (x : Motion) : (s.setMot x).log = s.log := rfl
@[simp] theorem State.setMot_disp (s : State) (x : Motion) : (s.setMot x).disp = s.disp := rfl
@[simp] theorem State.setMot_rings (s : State) (x : Motion) : (s.setMot x).rings = s.rings := rfl
@[simp] theorem State.setMot_rad (s : State) (x : Motion) : (s.setMot x).rad = s.rad := rfl
@[simp] theorem State.setMot_flt (s : State) (x : Motion) : (s.setMot x).flt = s.flt := rfl
@[simp] theorem State.setMot_stp (s : State) (x : Motion) : (s.setMot x).stp = s.stp := rfl
@[simp] theorem State.setMot_key (s : State) (x : Motion) : (s.setMot x).key = s.key := rfl
@[simp] theorem State.setMot_tim (s : State) (x : Motion) : (s.setMot x).tim = s.tim := rfl
@[simp] theorem State.setMot_gns (s : State) (x : Motion) : (s.setMot x).gns = s.gns := rfl
@[simp] theorem State.setMot_bsl (s : State) (x : Motion) : (s.setMot x).bsl = s.bsl := rfl
@[simp] theorem State.setMot_alt (s : State) (x : Motion) : (s.setMot x).alt = s.alt := rfl
@[simp] theorem State.setMot_net (s : State) (x : Motion) : (s.setMot x).net = s.net := rfl
@[simp] theorem State.setMot_msh (s : State) (x : Motion) : (s.setMot x).msh = s.msh := rfl
@[simp] theorem State.setMot_pai (s : State) (x : Motion) : (s.setMot x).pai = s.pai := rfl
@[simp] theorem State.setMot_wel (s : State) (x : Motion) : (s.setMot x).wel = s.wel := rfl
@[simp] theorem State.setMot_wlg (s : State) (x : Motion) : (s.setMot x).wlg = s.wlg := rfl
@[simp] theorem State.setMot_mot (s : State) (x : Motion) : (s.setMot x).mot = x := rfl
@[simp] theorem State.setMot_lop (s : State) (x : Motion) : (s.setMot x).lop = s.lop := rfl
@[simp] theorem State.setMot_mem (s : State) (x : Motion) : (s.setMot x).mem = s.mem := rfl
@[simp] theorem State.setMot_reply (s : State) (x : Motion) : (s.setMot x).reply = s.reply := rfl
@[simp] theorem State.setMot_out (s : State) (x : Motion) : (s.setMot x).out = s.out := rfl
@[simp] theorem State.setMot_free (s : State) (x : Motion) : (s.setMot x).free = s.free := rfl

/-! ### setLop -/

@[simp] theorem State.setLop_pending (s : State) (x : Loops) : (s.setLop x).pending = s.pending := rfl
@[simp] theorem State.setLop_part (s : State) (x : Loops) : (s.setLop x).part = s.part := rfl
@[simp] theorem State.setLop_fuses (s : State) (x : Loops) : (s.setLop x).fuses = s.fuses := rfl
@[simp] theorem State.setLop_pins (s : State) (x : Loops) : (s.setLop x).pins = s.pins := rfl
@[simp] theorem State.setLop_straps (s : State) (x : Loops) : (s.setLop x).straps = s.straps := rfl
@[simp] theorem State.setLop_dev (s : State) (x : Loops) : (s.setLop x).dev = s.dev := rfl
@[simp] theorem State.setLop_role (s : State) (x : Loops) : (s.setLop x).role = s.role := rfl
@[simp] theorem State.setLop_stroked (s : State) (x : Loops) : (s.setLop x).stroked = s.stroked := rfl
@[simp] theorem State.setLop_sn (s : State) (x : Loops) : (s.setLop x).sn = s.sn := rfl
@[simp] theorem State.setLop_regs (s : State) (x : Loops) : (s.setLop x).regs = s.regs := rfl
@[simp] theorem State.setLop_sys (s : State) (x : Loops) : (s.setLop x).sys = s.sys := rfl
@[simp] theorem State.setLop_log (s : State) (x : Loops) : (s.setLop x).log = s.log := rfl
@[simp] theorem State.setLop_disp (s : State) (x : Loops) : (s.setLop x).disp = s.disp := rfl
@[simp] theorem State.setLop_rings (s : State) (x : Loops) : (s.setLop x).rings = s.rings := rfl
@[simp] theorem State.setLop_rad (s : State) (x : Loops) : (s.setLop x).rad = s.rad := rfl
@[simp] theorem State.setLop_flt (s : State) (x : Loops) : (s.setLop x).flt = s.flt := rfl
@[simp] theorem State.setLop_stp (s : State) (x : Loops) : (s.setLop x).stp = s.stp := rfl
@[simp] theorem State.setLop_key (s : State) (x : Loops) : (s.setLop x).key = s.key := rfl
@[simp] theorem State.setLop_tim (s : State) (x : Loops) : (s.setLop x).tim = s.tim := rfl
@[simp] theorem State.setLop_gns (s : State) (x : Loops) : (s.setLop x).gns = s.gns := rfl
@[simp] theorem State.setLop_bsl (s : State) (x : Loops) : (s.setLop x).bsl = s.bsl := rfl
@[simp] theorem State.setLop_alt (s : State) (x : Loops) : (s.setLop x).alt = s.alt := rfl
@[simp] theorem State.setLop_net (s : State) (x : Loops) : (s.setLop x).net = s.net := rfl
@[simp] theorem State.setLop_msh (s : State) (x : Loops) : (s.setLop x).msh = s.msh := rfl
@[simp] theorem State.setLop_pai (s : State) (x : Loops) : (s.setLop x).pai = s.pai := rfl
@[simp] theorem State.setLop_wel (s : State) (x : Loops) : (s.setLop x).wel = s.wel := rfl
@[simp] theorem State.setLop_wlg (s : State) (x : Loops) : (s.setLop x).wlg = s.wlg := rfl
@[simp] theorem State.setLop_mot (s : State) (x : Loops) : (s.setLop x).mot = s.mot := rfl
@[simp] theorem State.setLop_lop (s : State) (x : Loops) : (s.setLop x).lop = x := rfl
@[simp] theorem State.setLop_mem (s : State) (x : Loops) : (s.setLop x).mem = s.mem := rfl
@[simp] theorem State.setLop_reply (s : State) (x : Loops) : (s.setLop x).reply = s.reply := rfl
@[simp] theorem State.setLop_out (s : State) (x : Loops) : (s.setLop x).out = s.out := rfl
@[simp] theorem State.setLop_free (s : State) (x : Loops) : (s.setLop x).free = s.free := rfl

/-! ### setMem -/

@[simp] theorem State.setMem_pending (s : State) (x : Memories) : (s.setMem x).pending = s.pending := rfl
@[simp] theorem State.setMem_part (s : State) (x : Memories) : (s.setMem x).part = s.part := rfl
@[simp] theorem State.setMem_fuses (s : State) (x : Memories) : (s.setMem x).fuses = s.fuses := rfl
@[simp] theorem State.setMem_pins (s : State) (x : Memories) : (s.setMem x).pins = s.pins := rfl
@[simp] theorem State.setMem_straps (s : State) (x : Memories) : (s.setMem x).straps = s.straps := rfl
@[simp] theorem State.setMem_dev (s : State) (x : Memories) : (s.setMem x).dev = s.dev := rfl
@[simp] theorem State.setMem_role (s : State) (x : Memories) : (s.setMem x).role = s.role := rfl
@[simp] theorem State.setMem_stroked (s : State) (x : Memories) : (s.setMem x).stroked = s.stroked := rfl
@[simp] theorem State.setMem_sn (s : State) (x : Memories) : (s.setMem x).sn = s.sn := rfl
@[simp] theorem State.setMem_regs (s : State) (x : Memories) : (s.setMem x).regs = s.regs := rfl
@[simp] theorem State.setMem_sys (s : State) (x : Memories) : (s.setMem x).sys = s.sys := rfl
@[simp] theorem State.setMem_log (s : State) (x : Memories) : (s.setMem x).log = s.log := rfl
@[simp] theorem State.setMem_disp (s : State) (x : Memories) : (s.setMem x).disp = s.disp := rfl
@[simp] theorem State.setMem_rings (s : State) (x : Memories) : (s.setMem x).rings = s.rings := rfl
@[simp] theorem State.setMem_rad (s : State) (x : Memories) : (s.setMem x).rad = s.rad := rfl
@[simp] theorem State.setMem_flt (s : State) (x : Memories) : (s.setMem x).flt = s.flt := rfl
@[simp] theorem State.setMem_stp (s : State) (x : Memories) : (s.setMem x).stp = s.stp := rfl
@[simp] theorem State.setMem_key (s : State) (x : Memories) : (s.setMem x).key = s.key := rfl
@[simp] theorem State.setMem_tim (s : State) (x : Memories) : (s.setMem x).tim = s.tim := rfl
@[simp] theorem State.setMem_gns (s : State) (x : Memories) : (s.setMem x).gns = s.gns := rfl
@[simp] theorem State.setMem_bsl (s : State) (x : Memories) : (s.setMem x).bsl = s.bsl := rfl
@[simp] theorem State.setMem_alt (s : State) (x : Memories) : (s.setMem x).alt = s.alt := rfl
@[simp] theorem State.setMem_net (s : State) (x : Memories) : (s.setMem x).net = s.net := rfl
@[simp] theorem State.setMem_msh (s : State) (x : Memories) : (s.setMem x).msh = s.msh := rfl
@[simp] theorem State.setMem_pai (s : State) (x : Memories) : (s.setMem x).pai = s.pai := rfl
@[simp] theorem State.setMem_wel (s : State) (x : Memories) : (s.setMem x).wel = s.wel := rfl
@[simp] theorem State.setMem_wlg (s : State) (x : Memories) : (s.setMem x).wlg = s.wlg := rfl
@[simp] theorem State.setMem_mot (s : State) (x : Memories) : (s.setMem x).mot = s.mot := rfl
@[simp] theorem State.setMem_lop (s : State) (x : Memories) : (s.setMem x).lop = s.lop := rfl
@[simp] theorem State.setMem_mem (s : State) (x : Memories) : (s.setMem x).mem = x := rfl
@[simp] theorem State.setMem_reply (s : State) (x : Memories) : (s.setMem x).reply = s.reply := rfl
@[simp] theorem State.setMem_out (s : State) (x : Memories) : (s.setMem x).out = s.out := rfl
@[simp] theorem State.setMem_free (s : State) (x : Memories) : (s.setMem x).free = s.free := rfl

/-! ### wr -/

@[simp] theorem State.wr_pending (s : State) (a : Nat) (v : Word) : (s.wr a v).pending = s.pending := rfl
@[simp] theorem State.wr_part (s : State) (a : Nat) (v : Word) : (s.wr a v).part = s.part := rfl
@[simp] theorem State.wr_fuses (s : State) (a : Nat) (v : Word) : (s.wr a v).fuses = s.fuses := rfl
@[simp] theorem State.wr_pins (s : State) (a : Nat) (v : Word) : (s.wr a v).pins = s.pins := rfl
@[simp] theorem State.wr_straps (s : State) (a : Nat) (v : Word) : (s.wr a v).straps = s.straps := rfl
@[simp] theorem State.wr_dev (s : State) (a : Nat) (v : Word) : (s.wr a v).dev = s.dev := rfl
@[simp] theorem State.wr_role (s : State) (a : Nat) (v : Word) : (s.wr a v).role = s.role := rfl
@[simp] theorem State.wr_stroked (s : State) (a : Nat) (v : Word) : (s.wr a v).stroked = s.stroked := rfl
@[simp] theorem State.wr_sn (s : State) (a : Nat) (v : Word) : (s.wr a v).sn = s.sn := rfl
@[simp] theorem State.wr_sys (s : State) (a : Nat) (v : Word) : (s.wr a v).sys = s.sys := rfl
@[simp] theorem State.wr_log (s : State) (a : Nat) (v : Word) : (s.wr a v).log = s.log := rfl
@[simp] theorem State.wr_disp (s : State) (a : Nat) (v : Word) : (s.wr a v).disp = s.disp := rfl
@[simp] theorem State.wr_rings (s : State) (a : Nat) (v : Word) : (s.wr a v).rings = s.rings := rfl
@[simp] theorem State.wr_rad (s : State) (a : Nat) (v : Word) : (s.wr a v).rad = s.rad := rfl
@[simp] theorem State.wr_flt (s : State) (a : Nat) (v : Word) : (s.wr a v).flt = s.flt := rfl
@[simp] theorem State.wr_stp (s : State) (a : Nat) (v : Word) : (s.wr a v).stp = s.stp := rfl
@[simp] theorem State.wr_key (s : State) (a : Nat) (v : Word) : (s.wr a v).key = s.key := rfl
@[simp] theorem State.wr_tim (s : State) (a : Nat) (v : Word) : (s.wr a v).tim = s.tim := rfl
@[simp] theorem State.wr_gns (s : State) (a : Nat) (v : Word) : (s.wr a v).gns = s.gns := rfl
@[simp] theorem State.wr_bsl (s : State) (a : Nat) (v : Word) : (s.wr a v).bsl = s.bsl := rfl
@[simp] theorem State.wr_alt (s : State) (a : Nat) (v : Word) : (s.wr a v).alt = s.alt := rfl
@[simp] theorem State.wr_net (s : State) (a : Nat) (v : Word) : (s.wr a v).net = s.net := rfl
@[simp] theorem State.wr_msh (s : State) (a : Nat) (v : Word) : (s.wr a v).msh = s.msh := rfl
@[simp] theorem State.wr_pai (s : State) (a : Nat) (v : Word) : (s.wr a v).pai = s.pai := rfl
@[simp] theorem State.wr_wel (s : State) (a : Nat) (v : Word) : (s.wr a v).wel = s.wel := rfl
@[simp] theorem State.wr_wlg (s : State) (a : Nat) (v : Word) : (s.wr a v).wlg = s.wlg := rfl
@[simp] theorem State.wr_mot (s : State) (a : Nat) (v : Word) : (s.wr a v).mot = s.mot := rfl
@[simp] theorem State.wr_lop (s : State) (a : Nat) (v : Word) : (s.wr a v).lop = s.lop := rfl
@[simp] theorem State.wr_mem (s : State) (a : Nat) (v : Word) : (s.wr a v).mem = s.mem := rfl
@[simp] theorem State.wr_reply (s : State) (a : Nat) (v : Word) : (s.wr a v).reply = s.reply := rfl
@[simp] theorem State.wr_out (s : State) (a : Nat) (v : Word) : (s.wr a v).out = s.out := rfl
@[simp] theorem State.wr_free (s : State) (a : Nat) (v : Word) : (s.wr a v).free = s.free := rfl

/-! ### put -/

@[simp] theorem State.put_pending (s : State) (f : Fld) (v : Nat) : (s.put f v).pending = s.pending := rfl
@[simp] theorem State.put_part (s : State) (f : Fld) (v : Nat) : (s.put f v).part = s.part := rfl
@[simp] theorem State.put_fuses (s : State) (f : Fld) (v : Nat) : (s.put f v).fuses = s.fuses := rfl
@[simp] theorem State.put_pins (s : State) (f : Fld) (v : Nat) : (s.put f v).pins = s.pins := rfl
@[simp] theorem State.put_straps (s : State) (f : Fld) (v : Nat) : (s.put f v).straps = s.straps := rfl
@[simp] theorem State.put_dev (s : State) (f : Fld) (v : Nat) : (s.put f v).dev = s.dev := rfl
@[simp] theorem State.put_role (s : State) (f : Fld) (v : Nat) : (s.put f v).role = s.role := rfl
@[simp] theorem State.put_stroked (s : State) (f : Fld) (v : Nat) : (s.put f v).stroked = s.stroked := rfl
@[simp] theorem State.put_sn (s : State) (f : Fld) (v : Nat) : (s.put f v).sn = s.sn := rfl
@[simp] theorem State.put_sys (s : State) (f : Fld) (v : Nat) : (s.put f v).sys = s.sys := rfl
@[simp] theorem State.put_log (s : State) (f : Fld) (v : Nat) : (s.put f v).log = s.log := rfl
@[simp] theorem State.put_disp (s : State) (f : Fld) (v : Nat) : (s.put f v).disp = s.disp := rfl
@[simp] theorem State.put_rings (s : State) (f : Fld) (v : Nat) : (s.put f v).rings = s.rings := rfl
@[simp] theorem State.put_rad (s : State) (f : Fld) (v : Nat) : (s.put f v).rad = s.rad := rfl
@[simp] theorem State.put_flt (s : State) (f : Fld) (v : Nat) : (s.put f v).flt = s.flt := rfl
@[simp] theorem State.put_stp (s : State) (f : Fld) (v : Nat) : (s.put f v).stp = s.stp := rfl
@[simp] theorem State.put_key (s : State) (f : Fld) (v : Nat) : (s.put f v).key = s.key := rfl
@[simp] theorem State.put_tim (s : State) (f : Fld) (v : Nat) : (s.put f v).tim = s.tim := rfl
@[simp] theorem State.put_gns (s : State) (f : Fld) (v : Nat) : (s.put f v).gns = s.gns := rfl
@[simp] theorem State.put_bsl (s : State) (f : Fld) (v : Nat) : (s.put f v).bsl = s.bsl := rfl
@[simp] theorem State.put_alt (s : State) (f : Fld) (v : Nat) : (s.put f v).alt = s.alt := rfl
@[simp] theorem State.put_net (s : State) (f : Fld) (v : Nat) : (s.put f v).net = s.net := rfl
@[simp] theorem State.put_msh (s : State) (f : Fld) (v : Nat) : (s.put f v).msh = s.msh := rfl
@[simp] theorem State.put_pai (s : State) (f : Fld) (v : Nat) : (s.put f v).pai = s.pai := rfl
@[simp] theorem State.put_wel (s : State) (f : Fld) (v : Nat) : (s.put f v).wel = s.wel := rfl
@[simp] theorem State.put_wlg (s : State) (f : Fld) (v : Nat) : (s.put f v).wlg = s.wlg := rfl
@[simp] theorem State.put_mot (s : State) (f : Fld) (v : Nat) : (s.put f v).mot = s.mot := rfl
@[simp] theorem State.put_lop (s : State) (f : Fld) (v : Nat) : (s.put f v).lop = s.lop := rfl
@[simp] theorem State.put_mem (s : State) (f : Fld) (v : Nat) : (s.put f v).mem = s.mem := rfl
@[simp] theorem State.put_reply (s : State) (f : Fld) (v : Nat) : (s.put f v).reply = s.reply := rfl
@[simp] theorem State.put_out (s : State) (f : Fld) (v : Nat) : (s.put f v).out = s.out := rfl
@[simp] theorem State.put_free (s : State) (f : Fld) (v : Nat) : (s.put f v).free = s.free := rfl

/-! ### setNum -/

@[simp] theorem State.setNum_pending (s : State) (a v : Nat) : (s.setNum a v).pending = s.pending := rfl
@[simp] theorem State.setNum_part (s : State) (a v : Nat) : (s.setNum a v).part = s.part := rfl
@[simp] theorem State.setNum_fuses (s : State) (a v : Nat) : (s.setNum a v).fuses = s.fuses := rfl
@[simp] theorem State.setNum_pins (s : State) (a v : Nat) : (s.setNum a v).pins = s.pins := rfl
@[simp] theorem State.setNum_straps (s : State) (a v : Nat) : (s.setNum a v).straps = s.straps := rfl
@[simp] theorem State.setNum_dev (s : State) (a v : Nat) : (s.setNum a v).dev = s.dev := rfl
@[simp] theorem State.setNum_role (s : State) (a v : Nat) : (s.setNum a v).role = s.role := rfl
@[simp] theorem State.setNum_stroked (s : State) (a v : Nat) : (s.setNum a v).stroked = s.stroked := rfl
@[simp] theorem State.setNum_sn (s : State) (a v : Nat) : (s.setNum a v).sn = s.sn := rfl
@[simp] theorem State.setNum_sys (s : State) (a v : Nat) : (s.setNum a v).sys = s.sys := rfl
@[simp] theorem State.setNum_log (s : State) (a v : Nat) : (s.setNum a v).log = s.log := rfl
@[simp] theorem State.setNum_disp (s : State) (a v : Nat) : (s.setNum a v).disp = s.disp := rfl
@[simp] theorem State.setNum_rings (s : State) (a v : Nat) : (s.setNum a v).rings = s.rings := rfl
@[simp] theorem State.setNum_rad (s : State) (a v : Nat) : (s.setNum a v).rad = s.rad := rfl
@[simp] theorem State.setNum_flt (s : State) (a v : Nat) : (s.setNum a v).flt = s.flt := rfl
@[simp] theorem State.setNum_stp (s : State) (a v : Nat) : (s.setNum a v).stp = s.stp := rfl
@[simp] theorem State.setNum_key (s : State) (a v : Nat) : (s.setNum a v).key = s.key := rfl
@[simp] theorem State.setNum_tim (s : State) (a v : Nat) : (s.setNum a v).tim = s.tim := rfl
@[simp] theorem State.setNum_gns (s : State) (a v : Nat) : (s.setNum a v).gns = s.gns := rfl
@[simp] theorem State.setNum_bsl (s : State) (a v : Nat) : (s.setNum a v).bsl = s.bsl := rfl
@[simp] theorem State.setNum_alt (s : State) (a v : Nat) : (s.setNum a v).alt = s.alt := rfl
@[simp] theorem State.setNum_net (s : State) (a v : Nat) : (s.setNum a v).net = s.net := rfl
@[simp] theorem State.setNum_msh (s : State) (a v : Nat) : (s.setNum a v).msh = s.msh := rfl
@[simp] theorem State.setNum_pai (s : State) (a v : Nat) : (s.setNum a v).pai = s.pai := rfl
@[simp] theorem State.setNum_wel (s : State) (a v : Nat) : (s.setNum a v).wel = s.wel := rfl
@[simp] theorem State.setNum_wlg (s : State) (a v : Nat) : (s.setNum a v).wlg = s.wlg := rfl
@[simp] theorem State.setNum_mot (s : State) (a v : Nat) : (s.setNum a v).mot = s.mot := rfl
@[simp] theorem State.setNum_lop (s : State) (a v : Nat) : (s.setNum a v).lop = s.lop := rfl
@[simp] theorem State.setNum_mem (s : State) (a v : Nat) : (s.setNum a v).mem = s.mem := rfl
@[simp] theorem State.setNum_reply (s : State) (a v : Nat) : (s.setNum a v).reply = s.reply := rfl
@[simp] theorem State.setNum_out (s : State) (a v : Nat) : (s.setNum a v).out = s.out := rfl
@[simp] theorem State.setNum_free (s : State) (a v : Nat) : (s.setNum a v).free = s.free := rfl

/-! ### setNum64 -/

@[simp] theorem State.setNum64_pending (s : State) (lo hi v : Nat) : (s.setNum64 lo hi v).pending = s.pending := rfl
@[simp] theorem State.setNum64_part (s : State) (lo hi v : Nat) : (s.setNum64 lo hi v).part = s.part := rfl
@[simp] theorem State.setNum64_fuses (s : State) (lo hi v : Nat) : (s.setNum64 lo hi v).fuses = s.fuses := rfl
@[simp] theorem State.setNum64_pins (s : State) (lo hi v : Nat) : (s.setNum64 lo hi v).pins = s.pins := rfl
@[simp] theorem State.setNum64_straps (s : State) (lo hi v : Nat) : (s.setNum64 lo hi v).straps = s.straps := rfl
@[simp] theorem State.setNum64_dev (s : State) (lo hi v : Nat) : (s.setNum64 lo hi v).dev = s.dev := rfl
@[simp] theorem State.setNum64_role (s : State) (lo hi v : Nat) : (s.setNum64 lo hi v).role = s.role := rfl
@[simp] theorem State.setNum64_stroked (s : State) (lo hi v : Nat) : (s.setNum64 lo hi v).stroked = s.stroked := rfl
@[simp] theorem State.setNum64_sn (s : State) (lo hi v : Nat) : (s.setNum64 lo hi v).sn = s.sn := rfl
@[simp] theorem State.setNum64_sys (s : State) (lo hi v : Nat) : (s.setNum64 lo hi v).sys = s.sys := rfl
@[simp] theorem State.setNum64_log (s : State) (lo hi v : Nat) : (s.setNum64 lo hi v).log = s.log := rfl
@[simp] theorem State.setNum64_disp (s : State) (lo hi v : Nat) : (s.setNum64 lo hi v).disp = s.disp := rfl
@[simp] theorem State.setNum64_rings (s : State) (lo hi v : Nat) : (s.setNum64 lo hi v).rings = s.rings := rfl
@[simp] theorem State.setNum64_rad (s : State) (lo hi v : Nat) : (s.setNum64 lo hi v).rad = s.rad := rfl
@[simp] theorem State.setNum64_flt (s : State) (lo hi v : Nat) : (s.setNum64 lo hi v).flt = s.flt := rfl
@[simp] theorem State.setNum64_stp (s : State) (lo hi v : Nat) : (s.setNum64 lo hi v).stp = s.stp := rfl
@[simp] theorem State.setNum64_key (s : State) (lo hi v : Nat) : (s.setNum64 lo hi v).key = s.key := rfl
@[simp] theorem State.setNum64_tim (s : State) (lo hi v : Nat) : (s.setNum64 lo hi v).tim = s.tim := rfl
@[simp] theorem State.setNum64_gns (s : State) (lo hi v : Nat) : (s.setNum64 lo hi v).gns = s.gns := rfl
@[simp] theorem State.setNum64_bsl (s : State) (lo hi v : Nat) : (s.setNum64 lo hi v).bsl = s.bsl := rfl
@[simp] theorem State.setNum64_alt (s : State) (lo hi v : Nat) : (s.setNum64 lo hi v).alt = s.alt := rfl
@[simp] theorem State.setNum64_net (s : State) (lo hi v : Nat) : (s.setNum64 lo hi v).net = s.net := rfl
@[simp] theorem State.setNum64_msh (s : State) (lo hi v : Nat) : (s.setNum64 lo hi v).msh = s.msh := rfl
@[simp] theorem State.setNum64_pai (s : State) (lo hi v : Nat) : (s.setNum64 lo hi v).pai = s.pai := rfl
@[simp] theorem State.setNum64_wel (s : State) (lo hi v : Nat) : (s.setNum64 lo hi v).wel = s.wel := rfl
@[simp] theorem State.setNum64_wlg (s : State) (lo hi v : Nat) : (s.setNum64 lo hi v).wlg = s.wlg := rfl
@[simp] theorem State.setNum64_mot (s : State) (lo hi v : Nat) : (s.setNum64 lo hi v).mot = s.mot := rfl
@[simp] theorem State.setNum64_lop (s : State) (lo hi v : Nat) : (s.setNum64 lo hi v).lop = s.lop := rfl
@[simp] theorem State.setNum64_mem (s : State) (lo hi v : Nat) : (s.setNum64 lo hi v).mem = s.mem := rfl
@[simp] theorem State.setNum64_reply (s : State) (lo hi v : Nat) : (s.setNum64 lo hi v).reply = s.reply := rfl
@[simp] theorem State.setNum64_out (s : State) (lo hi v : Nat) : (s.setNum64 lo hi v).out = s.out := rfl
@[simp] theorem State.setNum64_free (s : State) (lo hi v : Nat) : (s.setNum64 lo hi v).free = s.free := rfl

/-! ### count -/

@[simp] theorem State.count_pending (s : State) (a n : Nat) : (s.count a n).pending = s.pending := rfl
@[simp] theorem State.count_part (s : State) (a n : Nat) : (s.count a n).part = s.part := rfl
@[simp] theorem State.count_fuses (s : State) (a n : Nat) : (s.count a n).fuses = s.fuses := rfl
@[simp] theorem State.count_pins (s : State) (a n : Nat) : (s.count a n).pins = s.pins := rfl
@[simp] theorem State.count_straps (s : State) (a n : Nat) : (s.count a n).straps = s.straps := rfl
@[simp] theorem State.count_dev (s : State) (a n : Nat) : (s.count a n).dev = s.dev := rfl
@[simp] theorem State.count_role (s : State) (a n : Nat) : (s.count a n).role = s.role := rfl
@[simp] theorem State.count_stroked (s : State) (a n : Nat) : (s.count a n).stroked = s.stroked := rfl
@[simp] theorem State.count_sn (s : State) (a n : Nat) : (s.count a n).sn = s.sn := rfl
@[simp] theorem State.count_sys (s : State) (a n : Nat) : (s.count a n).sys = s.sys := rfl
@[simp] theorem State.count_log (s : State) (a n : Nat) : (s.count a n).log = s.log := rfl
@[simp] theorem State.count_disp (s : State) (a n : Nat) : (s.count a n).disp = s.disp := rfl
@[simp] theorem State.count_rings (s : State) (a n : Nat) : (s.count a n).rings = s.rings := rfl
@[simp] theorem State.count_rad (s : State) (a n : Nat) : (s.count a n).rad = s.rad := rfl
@[simp] theorem State.count_flt (s : State) (a n : Nat) : (s.count a n).flt = s.flt := rfl
@[simp] theorem State.count_stp (s : State) (a n : Nat) : (s.count a n).stp = s.stp := rfl
@[simp] theorem State.count_key (s : State) (a n : Nat) : (s.count a n).key = s.key := rfl
@[simp] theorem State.count_tim (s : State) (a n : Nat) : (s.count a n).tim = s.tim := rfl
@[simp] theorem State.count_gns (s : State) (a n : Nat) : (s.count a n).gns = s.gns := rfl
@[simp] theorem State.count_bsl (s : State) (a n : Nat) : (s.count a n).bsl = s.bsl := rfl
@[simp] theorem State.count_alt (s : State) (a n : Nat) : (s.count a n).alt = s.alt := rfl
@[simp] theorem State.count_net (s : State) (a n : Nat) : (s.count a n).net = s.net := rfl
@[simp] theorem State.count_msh (s : State) (a n : Nat) : (s.count a n).msh = s.msh := rfl
@[simp] theorem State.count_pai (s : State) (a n : Nat) : (s.count a n).pai = s.pai := rfl
@[simp] theorem State.count_wel (s : State) (a n : Nat) : (s.count a n).wel = s.wel := rfl
@[simp] theorem State.count_wlg (s : State) (a n : Nat) : (s.count a n).wlg = s.wlg := rfl
@[simp] theorem State.count_mot (s : State) (a n : Nat) : (s.count a n).mot = s.mot := rfl
@[simp] theorem State.count_lop (s : State) (a n : Nat) : (s.count a n).lop = s.lop := rfl
@[simp] theorem State.count_mem (s : State) (a n : Nat) : (s.count a n).mem = s.mem := rfl
@[simp] theorem State.count_reply (s : State) (a n : Nat) : (s.count a n).reply = s.reply := rfl
@[simp] theorem State.count_out (s : State) (a n : Nat) : (s.count a n).out = s.out := rfl
@[simp] theorem State.count_free (s : State) (a n : Nat) : (s.count a n).free = s.free := rfl

/-! ### emit -/

@[simp] theorem State.emit_pending (s : State) (o : Out) : (s.emit o).pending = s.pending := rfl
@[simp] theorem State.emit_part (s : State) (o : Out) : (s.emit o).part = s.part := rfl
@[simp] theorem State.emit_fuses (s : State) (o : Out) : (s.emit o).fuses = s.fuses := rfl
@[simp] theorem State.emit_pins (s : State) (o : Out) : (s.emit o).pins = s.pins := rfl
@[simp] theorem State.emit_straps (s : State) (o : Out) : (s.emit o).straps = s.straps := rfl
@[simp] theorem State.emit_dev (s : State) (o : Out) : (s.emit o).dev = s.dev := rfl
@[simp] theorem State.emit_role (s : State) (o : Out) : (s.emit o).role = s.role := rfl
@[simp] theorem State.emit_stroked (s : State) (o : Out) : (s.emit o).stroked = s.stroked := rfl
@[simp] theorem State.emit_sn (s : State) (o : Out) : (s.emit o).sn = s.sn := rfl
@[simp] theorem State.emit_regs (s : State) (o : Out) : (s.emit o).regs = s.regs := rfl
@[simp] theorem State.emit_sys (s : State) (o : Out) : (s.emit o).sys = s.sys := rfl
@[simp] theorem State.emit_log (s : State) (o : Out) : (s.emit o).log = s.log := rfl
@[simp] theorem State.emit_disp (s : State) (o : Out) : (s.emit o).disp = s.disp := rfl
@[simp] theorem State.emit_rings (s : State) (o : Out) : (s.emit o).rings = s.rings := rfl
@[simp] theorem State.emit_rad (s : State) (o : Out) : (s.emit o).rad = s.rad := rfl
@[simp] theorem State.emit_flt (s : State) (o : Out) : (s.emit o).flt = s.flt := rfl
@[simp] theorem State.emit_stp (s : State) (o : Out) : (s.emit o).stp = s.stp := rfl
@[simp] theorem State.emit_key (s : State) (o : Out) : (s.emit o).key = s.key := rfl
@[simp] theorem State.emit_tim (s : State) (o : Out) : (s.emit o).tim = s.tim := rfl
@[simp] theorem State.emit_gns (s : State) (o : Out) : (s.emit o).gns = s.gns := rfl
@[simp] theorem State.emit_bsl (s : State) (o : Out) : (s.emit o).bsl = s.bsl := rfl
@[simp] theorem State.emit_alt (s : State) (o : Out) : (s.emit o).alt = s.alt := rfl
@[simp] theorem State.emit_net (s : State) (o : Out) : (s.emit o).net = s.net := rfl
@[simp] theorem State.emit_msh (s : State) (o : Out) : (s.emit o).msh = s.msh := rfl
@[simp] theorem State.emit_pai (s : State) (o : Out) : (s.emit o).pai = s.pai := rfl
@[simp] theorem State.emit_wel (s : State) (o : Out) : (s.emit o).wel = s.wel := rfl
@[simp] theorem State.emit_wlg (s : State) (o : Out) : (s.emit o).wlg = s.wlg := rfl
@[simp] theorem State.emit_mot (s : State) (o : Out) : (s.emit o).mot = s.mot := rfl
@[simp] theorem State.emit_lop (s : State) (o : Out) : (s.emit o).lop = s.lop := rfl
@[simp] theorem State.emit_mem (s : State) (o : Out) : (s.emit o).mem = s.mem := rfl
@[simp] theorem State.emit_reply (s : State) (o : Out) : (s.emit o).reply = s.reply := rfl
@[simp] theorem State.emit_free (s : State) (o : Out) : (s.emit o).free = s.free := rfl
@[simp] theorem State.emit_out (s : State) (o : Out) : (s.emit o).out = o :: s.out := rfl

/-! ### drawn -/

@[simp] theorem State.drawn_pending (s : State) : (s.drawn).pending = s.pending := rfl
@[simp] theorem State.drawn_part (s : State) : (s.drawn).part = s.part := rfl
@[simp] theorem State.drawn_fuses (s : State) : (s.drawn).fuses = s.fuses := rfl
@[simp] theorem State.drawn_pins (s : State) : (s.drawn).pins = s.pins := rfl
@[simp] theorem State.drawn_straps (s : State) : (s.drawn).straps = s.straps := rfl
@[simp] theorem State.drawn_dev (s : State) : (s.drawn).dev = s.dev := rfl
@[simp] theorem State.drawn_role (s : State) : (s.drawn).role = s.role := rfl
@[simp] theorem State.drawn_stroked (s : State) : (s.drawn).stroked = s.stroked := rfl
@[simp] theorem State.drawn_sn (s : State) : (s.drawn).sn = s.sn := rfl
@[simp] theorem State.drawn_regs (s : State) : (s.drawn).regs = s.regs := rfl
@[simp] theorem State.drawn_sys (s : State) : (s.drawn).sys = s.sys := rfl
@[simp] theorem State.drawn_log (s : State) : (s.drawn).log = s.log := rfl
@[simp] theorem State.drawn_disp (s : State) : (s.drawn).disp = s.disp := rfl
@[simp] theorem State.drawn_rings (s : State) : (s.drawn).rings = s.rings := rfl
@[simp] theorem State.drawn_rad (s : State) : (s.drawn).rad = s.rad := rfl
@[simp] theorem State.drawn_flt (s : State) : (s.drawn).flt = s.flt := rfl
@[simp] theorem State.drawn_stp (s : State) : (s.drawn).stp = s.stp := rfl
@[simp] theorem State.drawn_key (s : State) : (s.drawn).key = s.key := rfl
@[simp] theorem State.drawn_tim (s : State) : (s.drawn).tim = s.tim := rfl
@[simp] theorem State.drawn_gns (s : State) : (s.drawn).gns = s.gns := rfl
@[simp] theorem State.drawn_bsl (s : State) : (s.drawn).bsl = s.bsl := rfl
@[simp] theorem State.drawn_alt (s : State) : (s.drawn).alt = s.alt := rfl
@[simp] theorem State.drawn_net (s : State) : (s.drawn).net = s.net := rfl
@[simp] theorem State.drawn_msh (s : State) : (s.drawn).msh = s.msh := rfl
@[simp] theorem State.drawn_pai (s : State) : (s.drawn).pai = s.pai := rfl
@[simp] theorem State.drawn_wel (s : State) : (s.drawn).wel = s.wel := rfl
@[simp] theorem State.drawn_wlg (s : State) : (s.drawn).wlg = s.wlg := rfl
@[simp] theorem State.drawn_mot (s : State) : (s.drawn).mot = s.mot := rfl
@[simp] theorem State.drawn_lop (s : State) : (s.drawn).lop = s.lop := rfl
@[simp] theorem State.drawn_mem (s : State) : (s.drawn).mem = s.mem := rfl
@[simp] theorem State.drawn_reply (s : State) : (s.drawn).reply = s.reply := rfl
@[simp] theorem State.drawn_out (s : State) : (s.drawn).out = s.out := rfl
@[simp] theorem State.drawn_free (s : State) : s.drawn.free = s.free + 1 := rfl

/-! ### Reading registers -/

/-- A state with the same registers reads the same. -/
theorem State.rd_congr {s t : State} (h : t.regs = s.regs) (a : Nat) : t.rd a = s.rd a := by
  unfold State.rd; rw [h]

theorem State.get_congr {s t : State} (h : t.regs = s.regs) (f : Fld) : t.get f = s.get f := by
  unfold State.get; rw [State.rd_congr h]

theorem State.num_congr {s t : State} (h : t.regs = s.regs) (a : Nat) : t.num a = s.num a := by
  unfold State.num; rw [State.rd_congr h]

/-- A register after a write, and any other. -/
theorem State.rd_wr (s : State) (a b : Nat) (v : Word) : (s.wr a v).rd b = if a = b then v else s.rd b := cget_cput _ _ _ _

@[simp] theorem State.rd_wr_same (s : State) (a : Nat) (v : Word) : (s.wr a v).rd a = v := by rw [State.rd_wr, if_pos rfl]

theorem State.rd_wr_ne (s : State) {a b : Nat} (v : Word) (h : a ≠ b) : (s.wr a v).rd b = s.rd b := by rw [State.rd_wr, if_neg h]

theorem State.rd_setNum (s : State) (a b v : Nat) : (s.setNum a v).rd b = if a = b then BitVec.ofNat 32 v else s.rd b := State.rd_wr _ _ _ _

theorem State.num_setNum (s : State) (a v : Nat) : (s.setNum a v).num a = v % 2 ^ 32 := by
  unfold State.num; rw [State.rd_setNum, if_pos rfl, BitVec.toNat_ofNat]

theorem State.num_setNum_ne (s : State) {a b : Nat} (v : Nat) (h : a ≠ b) : (s.setNum a v).num b = s.num b := by
  unfold State.num; rw [State.rd_setNum, if_neg h]

/-- A write keeps the register table in its canonical form. -/
theorem State.regs_wr_ok (s : State) (a : Nat) (v : Word) (h : cellsOk regReset s.regs = true) :
    cellsOk regReset (s.wr a v).regs = true := cellsOk_cput _ _ _ h

end Sys2Proof.Machine
end

