-- ==== Sys2Proof/Laws/Bits.lean ====
section
/-! SUPPORT. Register fields: what a field reads after it, or another field, is written. -/

namespace Sys2Proof.Machine

open Sys2Proof

/-- A word in three parts at a field. -/
theorem split_at (x lo n : Nat) :
    x = x / 2 ^ (lo + n) * 2 ^ (lo + n) + x / 2 ^ lo % 2 ^ n * 2 ^ lo + x % 2 ^ lo := by
  have h1 := Nat.div_add_mod x (2 ^ lo)
  have h2 := Nat.div_add_mod (x / 2 ^ lo) (2 ^ n)
  rw [Nat.div_div_eq_div_mul, ← pow_add] at h2
  calc x = 2 ^ lo * (x / 2 ^ lo) + x % 2 ^ lo := h1.symm
    _ = 2 ^ lo * (2 ^ n * (x / 2 ^ (lo + n)) + x / 2 ^ lo % 2 ^ n) + x % 2 ^ lo := by rw [h2]
    _ = _ := by rw [pow_add]; ring

theorem bitsOf_eq (w : Word) (lo n : Nat) : bitsOf w lo n = w.toNat / 2 ^ lo % 2 ^ n := by
  unfold bitsOf; rw [Nat.shiftRight_eq_div_pow]

/-- The word with a field replaced, as a number. -/
theorem toNat_withBits (w : Word) {lo n : Nat} (h : lo + n ≤ 32) (v : Nat) :
    (withBits w lo n v).toNat = w.toNat / 2 ^ (lo + n) * 2 ^ (lo + n) + v % 2 ^ n * 2 ^ lo + w.toNat % 2 ^ lo := by
  unfold withBits
  dsimp only
  rw [BitVec.toNat_ofNat, bitsOf_eq]
  have hs := split_at w.toNat lo n
  have hw : w.toNat < 2 ^ 32 := w.isLt
  have hlo : w.toNat % 2 ^ lo < 2 ^ lo := Nat.mod_lt _ (by positivity)
  have hv : v % 2 ^ n < 2 ^ n := Nat.mod_lt _ (by positivity)
  have hfield : v % 2 ^ n * 2 ^ lo + w.toNat % 2 ^ lo < 2 ^ (lo + n) := by
    calc v % 2 ^ n * 2 ^ lo + w.toNat % 2 ^ lo < v % 2 ^ n * 2 ^ lo + 2 ^ lo := by omega
      _ = (v % 2 ^ n + 1) * 2 ^ lo := by ring
      _ ≤ 2 ^ n * 2 ^ lo := Nat.mul_le_mul_right _ hv
      _ = 2 ^ (lo + n) := by rw [← pow_add, Nat.add_comm]
  have htop : w.toNat / 2 ^ (lo + n) < 2 ^ (32 - (lo + n)) := by
    apply Nat.div_lt_of_lt_mul
    rw [← pow_add]
    rwa [show lo + n + (32 - (lo + n)) = 32 by omega]
  have hbound : w.toNat / 2 ^ (lo + n) * 2 ^ (lo + n) + v % 2 ^ n * 2 ^ lo + w.toNat % 2 ^ lo < 2 ^ 32 := by
    calc _ < w.toNat / 2 ^ (lo + n) * 2 ^ (lo + n) + 2 ^ (lo + n) := by omega
      _ = (w.toNat / 2 ^ (lo + n) + 1) * 2 ^ (lo + n) := by ring
      _ ≤ 2 ^ (32 - (lo + n)) * 2 ^ (lo + n) := Nat.mul_le_mul_right _ htop
      _ = 2 ^ 32 := by rw [← pow_add]; congr 1; omega
  rw [show w.toNat - w.toNat / 2 ^ lo % 2 ^ n * 2 ^ lo + v % 2 ^ n * 2 ^ lo
      = w.toNat / 2 ^ (lo + n) * 2 ^ (lo + n) + v % 2 ^ n * 2 ^ lo + w.toNat % 2 ^ lo by omega]
  exact Nat.mod_eq_of_lt hbound

/-- A field reads what was written to it. -/
theorem bitsOf_withBits (w : Word) {lo n : Nat} (h : lo + n ≤ 32) (v : Nat) : bitsOf (withBits w lo n v) lo n = v % 2 ^ n := by
  rw [bitsOf_eq, toNat_withBits w h]
  have hlo : w.toNat % 2 ^ lo < 2 ^ lo := Nat.mod_lt _ (by positivity)
  have e : w.toNat / 2 ^ (lo + n) * 2 ^ (lo + n) + v % 2 ^ n * 2 ^ lo + w.toNat % 2 ^ lo
      = w.toNat % 2 ^ lo + 2 ^ lo * (v % 2 ^ n + 2 ^ n * (w.toNat / 2 ^ (lo + n))) := by rw [pow_add]; ring
  rw [e, Nat.add_mul_div_left _ _ (by positivity), Nat.div_eq_of_lt hlo, Nat.zero_add, Nat.add_mul_mod_self_left, Nat.mod_mod]

/-- A field below the written one reads as before. -/
theorem bitsOf_withBits_below (w : Word) {lo n : Nat} (h : lo + n ≤ 32) (v : Nat) {lo' n' : Nat} (hd : lo' + n' ≤ lo) :
    bitsOf (withBits w lo n v) lo' n' = bitsOf w lo' n' := by
  have key : ∀ x : Nat, x / 2 ^ lo' % 2 ^ n' = x % 2 ^ lo / 2 ^ lo' % 2 ^ n' := by
    intro x
    have hd' : 2 ^ (lo' + n') ∣ 2 ^ lo := pow_dvd_pow 2 hd
    have h1 : ∀ y : Nat, y / 2 ^ lo' % 2 ^ n' = y % 2 ^ (lo' + n') / 2 ^ lo' := by
      intro y; rw [pow_add, Nat.mod_mul_right_div_self]
    rw [h1, h1 (x % 2 ^ lo), Nat.mod_mod_of_dvd _ hd']
  rw [bitsOf_eq, bitsOf_eq, toNat_withBits w h, key, key w.toNat]
  have e : w.toNat / 2 ^ (lo + n) * 2 ^ (lo + n) + v % 2 ^ n * 2 ^ lo + w.toNat % 2 ^ lo
      = w.toNat % 2 ^ lo + 2 ^ lo * (v % 2 ^ n + 2 ^ n * (w.toNat / 2 ^ (lo + n))) := by rw [pow_add]; ring
  rw [e, Nat.add_mul_mod_self_left, Nat.mod_mod]

/-- A field above the written one reads as before. -/
theorem bitsOf_withBits_above (w : Word) {lo n : Nat} (h : lo + n ≤ 32) (v : Nat) {lo' n' : Nat} (hd : lo + n ≤ lo') :
    bitsOf (withBits w lo n v) lo' n' = bitsOf w lo' n' := by
  rw [bitsOf_eq, bitsOf_eq, toNat_withBits w h]
  have hlo : w.toNat % 2 ^ lo < 2 ^ lo := Nat.mod_lt _ (by positivity)
  have hv : v % 2 ^ n < 2 ^ n := Nat.mod_lt _ (by positivity)
  have hfield : v % 2 ^ n * 2 ^ lo + w.toNat % 2 ^ lo < 2 ^ (lo + n) := by
    calc v % 2 ^ n * 2 ^ lo + w.toNat % 2 ^ lo < v % 2 ^ n * 2 ^ lo + 2 ^ lo := by omega
      _ = (v % 2 ^ n + 1) * 2 ^ lo := by ring
      _ ≤ 2 ^ n * 2 ^ lo := Nat.mul_le_mul_right _ hv
      _ = 2 ^ (lo + n) := by rw [← pow_add, Nat.add_comm]
  obtain ⟨k, rfl⟩ := Nat.exists_eq_add_of_le hd
  have top : (w.toNat / 2 ^ (lo + n) * 2 ^ (lo + n) + v % 2 ^ n * 2 ^ lo + w.toNat % 2 ^ lo) / 2 ^ (lo + n)
      = w.toNat / 2 ^ (lo + n) := by
    rw [show w.toNat / 2 ^ (lo + n) * 2 ^ (lo + n) + v % 2 ^ n * 2 ^ lo + w.toNat % 2 ^ lo
        = (v % 2 ^ n * 2 ^ lo + w.toNat % 2 ^ lo) + 2 ^ (lo + n) * (w.toNat / 2 ^ (lo + n)) by ring,
      Nat.add_mul_div_left _ _ (by positivity), Nat.div_eq_of_lt hfield, Nat.zero_add]
  rw [pow_add 2 (lo + n) k, ← Nat.div_div_eq_div_mul, top, Nat.div_div_eq_div_mul]

/-- A register field reads what was put into it. -/
theorem State.get_put (s : State) (f : Fld) (v : Nat) (h : f.lo + f.width ≤ 32) : (s.put f v).get f = v % 2 ^ f.width := by
  unfold State.get State.put
  rw [State.rd_wr_same, bitsOf_withBits _ h]

/-- A field of another register reads as before. -/
theorem State.get_put_other (s : State) (f g : Fld) (v : Nat) (h : f.addr ≠ g.addr) : (s.put f v).get g = s.get g := by
  unfold State.get State.put
  rw [State.rd_wr_ne _ _ h]

/-- Another field of the same register reads as before. -/
theorem State.get_put_apart (s : State) (f g : Fld) (v : Nat) (ha : f.addr = g.addr) (h : f.lo + f.width ≤ 32)
    (hd : g.lo + g.width ≤ f.lo ∨ f.lo + f.width ≤ g.lo) : (s.put f v).get g = s.get g := by
  unfold State.get State.put
  rw [ha, State.rd_wr_same]
  rcases hd with hd | hd
  · exact bitsOf_withBits_below _ h _ hd
  · exact bitsOf_withBits_above _ h _ hd

end Sys2Proof.Machine
end

