-- ==== Sys2Proof/Laws/Command.lean ====
section
/-! SUPPORT. What the operations that every command uses leave and set: a record, a change of device state, the end of a command. -/

namespace Sys2Proof.Machine

open Sys2Proof

/-! ### A record -/

@[simp] theorem State.record_pending (s : State) (c x p q r : Nat) : (s.record c x p q r).pending = s.pending := (rfl)
@[simp] theorem State.record_part (s : State) (c x p q r : Nat) : (s.record c x p q r).part = s.part := (rfl)
@[simp] theorem State.record_fuses (s : State) (c x p q r : Nat) : (s.record c x p q r).fuses = s.fuses := (rfl)
@[simp] theorem State.record_pins (s : State) (c x p q r : Nat) : (s.record c x p q r).pins = s.pins := (rfl)
@[simp] theorem State.record_straps (s : State) (c x p q r : Nat) : (s.record c x p q r).straps = s.straps := (rfl)
@[simp] theorem State.record_dev (s : State) (c x p q r : Nat) : (s.record c x p q r).dev = s.dev := (rfl)
@[simp] theorem State.record_role (s : State) (c x p q r : Nat) : (s.record c x p q r).role = s.role := (rfl)
@[simp] theorem State.record_stroked (s : State) (c x p q r : Nat) : (s.record c x p q r).stroked = s.stroked := (rfl)
@[simp] theorem State.record_sn (s : State) (c x p q r : Nat) : (s.record c x p q r).sn = s.sn := (rfl)
@[simp] theorem State.record_regs (s : State) (c x p q r : Nat) : (s.record c x p q r).regs = s.regs := (rfl)
@[simp] theorem State.record_sys (s : State) (c x p q r : Nat) : (s.record c x p q r).sys = s.sys := (rfl)
@[simp] theorem State.record_disp (s : State) (c x p q r : Nat) : (s.record c x p q r).disp = s.disp := (rfl)
@[simp] theorem State.record_rings (s : State) (c x p q r : Nat) : (s.record c x p q r).rings = s.rings := (rfl)
@[simp] theorem State.record_rad (s : State) (c x p q r : Nat) : (s.record c x p q r).rad = s.rad := (rfl)
@[simp] theorem State.record_flt (s : State) (c x p q r : Nat) : (s.record c x p q r).flt = s.flt := (rfl)
@[simp] theorem State.record_stp (s : State) (c x p q r : Nat) : (s.record c x p q r).stp = s.stp := (rfl)
@[simp] theorem State.record_key (s : State) (c x p q r : Nat) : (s.record c x p q r).key = s.key := (rfl)
@[simp] theorem State.record_tim (s : State) (c x p q r : Nat) : (s.record c x p q r).tim = s.tim := (rfl)
@[simp] theorem State.record_gns (s : State) (c x p q r : Nat) : (s.record c x p q r).gns = s.gns := (rfl)
@[simp] theorem State.record_bsl (s : State) (c x p q r : Nat) : (s.record c x p q r).bsl = s.bsl := (rfl)
@[simp] theorem State.record_alt (s : State) (c x p q r : Nat) : (s.record c x p q r).alt = s.alt := (rfl)
@[simp] theorem State.record_net (s : State) (c x p q r : Nat) : (s.record c x p q r).net = s.net := (rfl)
@[simp] theorem State.record_msh (s : State) (c x p q r : Nat) : (s.record c x p q r).msh = s.msh := (rfl)
@[simp] theorem State.record_pai (s : State) (c x p q r : Nat) : (s.record c x p q r).pai = s.pai := (rfl)
@[simp] theorem State.record_wel (s : State) (c x p q r : Nat) : (s.record c x p q r).wel = s.wel := (rfl)
@[simp] theorem State.record_wlg (s : State) (c x p q r : Nat) : (s.record c x p q r).wlg = s.wlg := (rfl)
@[simp] theorem State.record_mot (s : State) (c x p q r : Nat) : (s.record c x p q r).mot = s.mot := (rfl)
@[simp] theorem State.record_lop (s : State) (c x p q r : Nat) : (s.record c x p q r).lop = s.lop := (rfl)
@[simp] theorem State.record_mem (s : State) (c x p q r : Nat) : (s.record c x p q r).mem = s.mem := (rfl)
@[simp] theorem State.record_reply (s : State) (c x p q r : Nat) : (s.record c x p q r).reply = s.reply := (rfl)
@[simp] theorem State.record_out (s : State) (c x p q r : Nat) : (s.record c x p q r).out = s.out := (rfl)

@[simp] theorem State.record_free (s : State) (c x p q r : Nat) : (s.record c x p q r).free = s.free + 1 := (rfl)

/-- A record moves no register. -/
@[simp] theorem State.record_rd (s : State) (c x p q r a : Nat) : (s.record c x p q r).rd a = s.rd a := (rfl)

@[simp] theorem State.record_get (s : State) (c x p q r : Nat) (f : Fld) : (s.record c x p q r).get f = s.get f := (rfl)

@[simp] theorem State.record_num (s : State) (c x p q r a : Nat) : (s.record c x p q r).num a = s.num a := (rfl)

/-! ### A change of device state -/

/-- What every step of a fold leaves alone, the fold does. -/
theorem foldl_keeps {α β : Type} (π : State → β) (g : State → α → State) (l : List α) (s : State) (h : ∀ s a, π (g s a) = π s) :
    π (l.foldl g s) = π s := by
  induction l generalizing s with
  | nil => rfl
  | cons a l ih => rw [List.foldl_cons, ih, h]

/-- The operations that a transmission cut off uses: registers of RADIO, its state, reports, inputs of the log, outputs. -/
structure TxFree {β : Type} (π : State → β) : Prop where
  rad : ∀ s r, π (s.setRad r) = π s
  put : ∀ s (f : Fld) n, f.addr / 0x10000 = 10 → π (s.put f n) = π s
  msh : ∀ s m, π (s.setMsh m) = π s
  pai : ∀ s x, π (s.setPai x) = π s
  out : ∀ s o, π (s.emit o) = π s

theorem TxFree.showTx {β : Type} {π : State → β} (h : TxFree π) (s : State) : π s.showTx = π s := by
  unfold State.showTx
  dsimp only
  rw [h.put _ _ _ (by decide), h.put _ _ _ (by decide)]
  have key : ∀ (l : List Nat) (g : Nat → Nat) (s : State), (∀ p ∈ l, p < 8) →
      π (l.foldl (fun s' p => s'.put (RAD_PORT_STAT_TX_ACTIVE p) (g p)) s) = π s := by
    intro l g
    induction l with
    | nil => exact fun _ _ => rfl
    | cons a l ih =>
      intro s hl
      rw [List.foldl_cons, ih _ fun p hp => hl p (List.mem_cons_of_mem _ hp), h.put _ _ _ (by
        have := hl a List.mem_cons_self
        simp only [RAD_PORT_STAT]
        omega)]
  exact key _ _ _ fun p hp => List.mem_range.mp hp

theorem TxFree.reportTx {β : Type} {π : State → β} (h : TxFree π) (s : State) (o : TxOwner) (r : TxResult) :
    π (s.reportTx o r) = π s := by
  have key : ∀ (s : State) e, π (s.logInput e) = π s := fun s e => by
    unfold State.logInput
    split
    · exact h.pai _ _
    · rfl
  unfold State.reportTx
  rw [key]
  split
  · exact h.msh _ _
  · exact h.rad _ _

/-- What a cut of transmissions leaves alone. -/
theorem TxFree.cutTx {β : Type} {π : State → β} (h : TxFree π) (s : State) (p : Tx → Bool) : π (s.cutTx p) = π s := by
  unfold State.cutTx
  dsimp only
  split
  · rfl
  · exact (foldl_keeps π _ _ _ fun s q => h.out _ _).trans
      ((foldl_keeps π _ _ _ fun s t => h.reportTx _ _ _).trans ((h.showTx _).trans (h.rad _ _)))

/-- What a change of device state leaves alone. -/
theorem TxFree.setDev {β : Type} {π : State → β} (h : TxFree π) (hr : ∀ s c x p q r, π (State.record s c x p q r) = π s)
    (hs : ∀ (s : State) x, π (s.setStp x) = π s) (hp : ∀ (s : State) (f : Fld) n, f.addr = STP_STATUS → π (s.put f n) = π s)
    (hd : ∀ (s : State) d, π { s with dev := d } = π s) (s : State) (d : DevState) : π (s.setDev d) = π s := by
  unfold State.setDev
  rw [hr, h.cutTx]
  unfold State.applyOut
  dsimp only
  rw [hs, hp _ _ _ rfl, hp _ _ _ rfl, hd]

/-- With no transmission held, a cut does nothing. -/
theorem State.cutTx_idle {s : State} (h : s.rad.tx = []) (p : Tx → Bool) : s.cutTx p = s := by
  simp [State.cutTx, h]

@[simp] theorem State.setDev_pending (s : State) (d : DevState) : (s.setDev d).pending = s.pending :=
  TxFree.setDev (π := fun s => s.pending) ⟨fun _ _ => rfl, fun _ _ _ _ => rfl, fun _ _ => rfl, fun _ _ => rfl, fun _ _ => rfl⟩
    (fun _ _ _ _ _ _ => rfl) (fun _ _ => rfl) (fun _ _ _ _ => rfl) (fun _ _ => rfl) s d
@[simp] theorem State.setDev_part (s : State) (d : DevState) : (s.setDev d).part = s.part :=
  TxFree.setDev (π := fun s => s.part) ⟨fun _ _ => rfl, fun _ _ _ _ => rfl, fun _ _ => rfl, fun _ _ => rfl, fun _ _ => rfl⟩
    (fun _ _ _ _ _ _ => rfl) (fun _ _ => rfl) (fun _ _ _ _ => rfl) (fun _ _ => rfl) s d
@[simp] theorem State.setDev_fuses (s : State) (d : DevState) : (s.setDev d).fuses = s.fuses :=
  TxFree.setDev (π := fun s => s.fuses) ⟨fun _ _ => rfl, fun _ _ _ _ => rfl, fun _ _ => rfl, fun _ _ => rfl, fun _ _ => rfl⟩
    (fun _ _ _ _ _ _ => rfl) (fun _ _ => rfl) (fun _ _ _ _ => rfl) (fun _ _ => rfl) s d
@[simp] theorem State.setDev_pins (s : State) (d : DevState) : (s.setDev d).pins = s.pins :=
  TxFree.setDev (π := fun s => s.pins) ⟨fun _ _ => rfl, fun _ _ _ _ => rfl, fun _ _ => rfl, fun _ _ => rfl, fun _ _ => rfl⟩
    (fun _ _ _ _ _ _ => rfl) (fun _ _ => rfl) (fun _ _ _ _ => rfl) (fun _ _ => rfl) s d
@[simp] theorem State.setDev_straps (s : State) (d : DevState) : (s.setDev d).straps = s.straps :=
  TxFree.setDev (π := fun s => s.straps) ⟨fun _ _ => rfl, fun _ _ _ _ => rfl, fun _ _ => rfl, fun _ _ => rfl, fun _ _ => rfl⟩
    (fun _ _ _ _ _ _ => rfl) (fun _ _ => rfl) (fun _ _ _ _ => rfl) (fun _ _ => rfl) s d
@[simp] theorem State.setDev_role (s : State) (d : DevState) : (s.setDev d).role = s.role :=
  TxFree.setDev (π := fun s => s.role) ⟨fun _ _ => rfl, fun _ _ _ _ => rfl, fun _ _ => rfl, fun _ _ => rfl, fun _ _ => rfl⟩
    (fun _ _ _ _ _ _ => rfl) (fun _ _ => rfl) (fun _ _ _ _ => rfl) (fun _ _ => rfl) s d
@[simp] theorem State.setDev_stroked (s : State) (d : DevState) : (s.setDev d).stroked = s.stroked :=
  TxFree.setDev (π := fun s => s.stroked) ⟨fun _ _ => rfl, fun _ _ _ _ => rfl, fun _ _ => rfl, fun _ _ => rfl, fun _ _ => rfl⟩
    (fun _ _ _ _ _ _ => rfl) (fun _ _ => rfl) (fun _ _ _ _ => rfl) (fun _ _ => rfl) s d
@[simp] theorem State.setDev_sn (s : State) (d : DevState) : (s.setDev d).sn = s.sn :=
  TxFree.setDev (π := fun s => s.sn) ⟨fun _ _ => rfl, fun _ _ _ _ => rfl, fun _ _ => rfl, fun _ _ => rfl, fun _ _ => rfl⟩
    (fun _ _ _ _ _ _ => rfl) (fun _ _ => rfl) (fun _ _ _ _ => rfl) (fun _ _ => rfl) s d
@[simp] theorem State.setDev_sys (s : State) (d : DevState) : (s.setDev d).sys = s.sys :=
  TxFree.setDev (π := fun s => s.sys) ⟨fun _ _ => rfl, fun _ _ _ _ => rfl, fun _ _ => rfl, fun _ _ => rfl, fun _ _ => rfl⟩
    (fun _ _ _ _ _ _ => rfl) (fun _ _ => rfl) (fun _ _ _ _ => rfl) (fun _ _ => rfl) s d
@[simp] theorem State.setDev_disp (s : State) (d : DevState) : (s.setDev d).disp = s.disp :=
  TxFree.setDev (π := fun s => s.disp) ⟨fun _ _ => rfl, fun _ _ _ _ => rfl, fun _ _ => rfl, fun _ _ => rfl, fun _ _ => rfl⟩
    (fun _ _ _ _ _ _ => rfl) (fun _ _ => rfl) (fun _ _ _ _ => rfl) (fun _ _ => rfl) s d
@[simp] theorem State.setDev_rings (s : State) (d : DevState) : (s.setDev d).rings = s.rings :=
  TxFree.setDev (π := fun s => s.rings) ⟨fun _ _ => rfl, fun _ _ _ _ => rfl, fun _ _ => rfl, fun _ _ => rfl, fun _ _ => rfl⟩
    (fun _ _ _ _ _ _ => rfl) (fun _ _ => rfl) (fun _ _ _ _ => rfl) (fun _ _ => rfl) s d
@[simp] theorem State.setDev_flt (s : State) (d : DevState) : (s.setDev d).flt = s.flt :=
  TxFree.setDev (π := fun s => s.flt) ⟨fun _ _ => rfl, fun _ _ _ _ => rfl, fun _ _ => rfl, fun _ _ => rfl, fun _ _ => rfl⟩
    (fun _ _ _ _ _ _ => rfl) (fun _ _ => rfl) (fun _ _ _ _ => rfl) (fun _ _ => rfl) s d
@[simp] theorem State.setDev_key (s : State) (d : DevState) : (s.setDev d).key = s.key :=
  TxFree.setDev (π := fun s => s.key) ⟨fun _ _ => rfl, fun _ _ _ _ => rfl, fun _ _ => rfl, fun _ _ => rfl, fun _ _ => rfl⟩
    (fun _ _ _ _ _ _ => rfl) (fun _ _ => rfl) (fun _ _ _ _ => rfl) (fun _ _ => rfl) s d
@[simp] theorem State.setDev_tim (s : State) (d : DevState) : (s.setDev d).tim = s.tim :=
  TxFree.setDev (π := fun s => s.tim) ⟨fun _ _ => rfl, fun _ _ _ _ => rfl, fun _ _ => rfl, fun _ _ => rfl, fun _ _ => rfl⟩
    (fun _ _ _ _ _ _ => rfl) (fun _ _ => rfl) (fun _ _ _ _ => rfl) (fun _ _ => rfl) s d
@[simp] theorem State.setDev_gns (s : State) (d : DevState) : (s.setDev d).gns = s.gns :=
  TxFree.setDev (π := fun s => s.gns) ⟨fun _ _ => rfl, fun _ _ _ _ => rfl, fun _ _ => rfl, fun _ _ => rfl, fun _ _ => rfl⟩
    (fun _ _ _ _ _ _ => rfl) (fun _ _ => rfl) (fun _ _ _ _ => rfl) (fun _ _ => rfl) s d
@[simp] theorem State.setDev_bsl (s : State) (d : DevState) : (s.setDev d).bsl = s.bsl :=
  TxFree.setDev (π := fun s => s.bsl) ⟨fun _ _ => rfl, fun _ _ _ _ => rfl, fun _ _ => rfl, fun _ _ => rfl, fun _ _ => rfl⟩
    (fun _ _ _ _ _ _ => rfl) (fun _ _ => rfl) (fun _ _ _ _ => rfl) (fun _ _ => rfl) s d
@[simp] theorem State.setDev_alt (s : State) (d : DevState) : (s.setDev d).alt = s.alt :=
  TxFree.setDev (π := fun s => s.alt) ⟨fun _ _ => rfl, fun _ _ _ _ => rfl, fun _ _ => rfl, fun _ _ => rfl, fun _ _ => rfl⟩
    (fun _ _ _ _ _ _ => rfl) (fun _ _ => rfl) (fun _ _ _ _ => rfl) (fun _ _ => rfl) s d
@[simp] theorem State.setDev_net (s : State) (d : DevState) : (s.setDev d).net = s.net :=
  TxFree.setDev (π := fun s => s.net) ⟨fun _ _ => rfl, fun _ _ _ _ => rfl, fun _ _ => rfl, fun _ _ => rfl, fun _ _ => rfl⟩
    (fun _ _ _ _ _ _ => rfl) (fun _ _ => rfl) (fun _ _ _ _ => rfl) (fun _ _ => rfl) s d
@[simp] theorem State.setDev_wel (s : State) (d : DevState) : (s.setDev d).wel = s.wel :=
  TxFree.setDev (π := fun s => s.wel) ⟨fun _ _ => rfl, fun _ _ _ _ => rfl, fun _ _ => rfl, fun _ _ => rfl, fun _ _ => rfl⟩
    (fun _ _ _ _ _ _ => rfl) (fun _ _ => rfl) (fun _ _ _ _ => rfl) (fun _ _ => rfl) s d
@[simp] theorem State.setDev_wlg (s : State) (d : DevState) : (s.setDev d).wlg = s.wlg :=
  TxFree.setDev (π := fun s => s.wlg) ⟨fun _ _ => rfl, fun _ _ _ _ => rfl, fun _ _ => rfl, fun _ _ => rfl, fun _ _ => rfl⟩
    (fun _ _ _ _ _ _ => rfl) (fun _ _ => rfl) (fun _ _ _ _ => rfl) (fun _ _ => rfl) s d
@[simp] theorem State.setDev_mot (s : State) (d : DevState) : (s.setDev d).mot = s.mot :=
  TxFree.setDev (π := fun s => s.mot) ⟨fun _ _ => rfl, fun _ _ _ _ => rfl, fun _ _ => rfl, fun _ _ => rfl, fun _ _ => rfl⟩
    (fun _ _ _ _ _ _ => rfl) (fun _ _ => rfl) (fun _ _ _ _ => rfl) (fun _ _ => rfl) s d
@[simp] theorem State.setDev_lop (s : State) (d : DevState) : (s.setDev d).lop = s.lop :=
  TxFree.setDev (π := fun s => s.lop) ⟨fun _ _ => rfl, fun _ _ _ _ => rfl, fun _ _ => rfl, fun _ _ => rfl, fun _ _ => rfl⟩
    (fun _ _ _ _ _ _ => rfl) (fun _ _ => rfl) (fun _ _ _ _ => rfl) (fun _ _ => rfl) s d
@[simp] theorem State.setDev_mem (s : State) (d : DevState) : (s.setDev d).mem = s.mem :=
  TxFree.setDev (π := fun s => s.mem) ⟨fun _ _ => rfl, fun _ _ _ _ => rfl, fun _ _ => rfl, fun _ _ => rfl, fun _ _ => rfl⟩
    (fun _ _ _ _ _ _ => rfl) (fun _ _ => rfl) (fun _ _ _ _ => rfl) (fun _ _ => rfl) s d
@[simp] theorem State.setDev_reply (s : State) (d : DevState) : (s.setDev d).reply = s.reply :=
  TxFree.setDev (π := fun s => s.reply) ⟨fun _ _ => rfl, fun _ _ _ _ => rfl, fun _ _ => rfl, fun _ _ => rfl, fun _ _ => rfl⟩
    (fun _ _ _ _ _ _ => rfl) (fun _ _ => rfl) (fun _ _ _ _ => rfl) (fun _ _ => rfl) s d

@[simp] theorem State.setDev_dev (s : State) (d : DevState) : (s.setDev d).dev = d := by
  unfold State.setDev
  rw [State.record_dev, TxFree.cutTx (π := fun s => s.dev) ⟨fun _ _ => rfl, fun _ _ _ _ => rfl, fun _ _ => rfl, fun _ _ => rfl, fun _ _ => rfl⟩]
  rfl

/-- A change of device state moves no register but STP_STATUS and those of RADIO. -/
theorem State.setDev_rd (s : State) (d : DevState) (a : Nat) (h : a ≠ STP_STATUS) (hr : a / 0x10000 ≠ 10) : (s.setDev d).rd a = s.rd a := by
  unfold State.setDev
  rw [State.record_rd]
  refine (TxFree.cutTx (π := fun s => s.rd a) ⟨fun _ _ => rfl, fun s f n hf => ?_, fun _ _ => rfl, fun _ _ => rfl, fun _ _ => rfl⟩ _ _).trans ?_
  · exact State.rd_wr_ne _ _ fun e => hr (e ▸ hf)
  · unfold State.applyOut State.put
    exact (State.rd_wr_ne _ _ fun e => h e.symm).trans (State.rd_wr_ne _ _ fun e => h e.symm)

theorem State.setDev_get (s : State) (d : DevState) (f : Fld) (h : f.addr ≠ STP_STATUS) (hr : f.addr / 0x10000 ≠ 10) :
    (s.setDev d).get f = s.get f := by
  unfold State.get; rw [State.setDev_rd _ _ _ h hr]

theorem State.setDev_num (s : State) (d : DevState) (a : Nat) (h : a ≠ STP_STATUS) (hr : a / 0x10000 ≠ 10) : (s.setDev d).num a = s.num a := by
  unfold State.num; rw [State.setDev_rd _ _ _ h hr]

/-! ### A ring command -/

/-- A descriptor that runs has the effect of its body, and then its end. -/
theorem State.command_runs {s : State} {d : Desc} (h : Runs s d) (body : State → CmdRes) : s.command d body = s.finish d (body s) := by
  obtain ⟨h1, h2, h3, h4, h5, h6, h7, h8, h9⟩ := h
  simp [State.command, h1, h2, h3, h4, h5, h6, h7, h8, h9]

end Sys2Proof.Machine
end

