-- ==== Sys2Proof/Laws/Fixed.lean ====
section
/-! SUPPORT. The part of the state that only supplies, straps, fuses and the boot flash change: one lemma per operation says that
it leaves this part alone. -/

namespace Sys2Proof.Machine

open Sys2Proof

/-- The queue, the part, its fuses and pins, the straps as sampled, the boot flash. -/
structure Fixed where
  pending : List Instr
  part : Part
  fuses : Fuses
  pins : Pins
  straps : Straps
  flash : Tab Byte

/-- That part of a state. -/
def State.fixed (s : State) : Fixed := ⟨s.pending, s.part, s.fuses, s.pins, s.straps, s.sys.flash⟩

/-- A fold of steps that leave it alone. -/
@[simp] theorem foldl_fixed {α : Type} (g : State → α → State) (l : List α) (s : State) (h : ∀ s a, (g s a).fixed = s.fixed) :
    (l.foldl g s).fixed = s.fixed := by
  induction l generalizing s with
  | nil => rfl
  | cons a l ih => rw [List.foldl_cons, ih, h]

/-- A fold that carries the state beside something else. -/
theorem foldl_pair_fixed {α β : Type} (g : State × β → α → State × β) (l : List α) (p : State × β)
    (h : ∀ p a, (g p a).1.fixed = p.1.fixed) : (l.foldl g p).1.fixed = p.1.fixed := by
  induction l generalizing p with
  | nil => rfl
  | cons a l ih => rw [List.foldl_cons, ih, h]

@[simp] theorem ite_fixed (c : Prop) [Decidable c] (a b : State) : (if c then a else b).fixed = if c then a.fixed else b.fixed := by
  split <;> rfl

/-- An update of any other fields. -/
@[simp] theorem mk_fixed (s : State) {dev'} {role'} {stroked'} {sn'} {regs'} {log'} {disp'} {rings'} {rad'} {flt'} {stp'} {key'} {tim'} {gns'} {bsl'} {alt'} {net'} {msh'} {pai'} {wel'} {wlg'} {mot'} {lop'} {mem'} {reply'} {out'} {free'} :
    (State.mk s.pending s.part s.fuses s.pins s.straps dev' role' stroked' sn' regs' s.sys log' disp' rings' rad' flt' stp' key' tim' gns' bsl' alt' net' msh' pai' wel' wlg' mot' lop' mem' reply' out' free').fixed = s.fixed := rfl

/-- An update of SYSTEM that keeps the flash. -/
theorem mk_sys_fixed (s : State) {dev'} {role'} {stroked'} {sn'} {regs'} {log'} {disp'} {rings'} {rad'} {flt'} {stp'} {key'} {tim'} {gns'} {bsl'} {alt'} {net'} {msh'} {pai'} {wel'} {wlg'} {mot'} {lop'} {mem'} {reply'} {out'} {free'} {sys'} (h : sys'.flash = s.sys.flash) :
    (State.mk s.pending s.part s.fuses s.pins s.straps dev' role' stroked' sn' regs' sys' log' disp' rings' rad' flt' stp' key' tim' gns' bsl' alt' net' msh' pai' wel' wlg' mot' lop' mem' reply' out' free').fixed = s.fixed := by
  simp only [State.fixed, h]

@[simp] theorem fixed_flash (s : State) : { s.fixed with flash := s.sys.flash } = s.fixed := rfl

theorem fixed_sys (s : State) : s.fixed.flash = s.sys.flash := rfl

/-- The state of a pair that an operation answered. -/
theorem pair_fixed {α : Type} {p : State × α} {s' : State} {a : α} {t : Fixed} (h : p = (s', a)) (hp : p.1.fixed = t) :
    s'.fixed = t := by rw [← hp, h]

/-- The same where the pair may be missing. -/
theorem optpair_fixed {α : Type} {o : Option (State × α)} {s' : State} {a : α} {t : Fixed} (h : o = some (s', a))
    (hp : ∀ p, o = some p → p.1.fixed = t) : s'.fixed = t := hp _ h

@[simp] theorem st_ite (c : Prop) [Decidable c] (a b : CmdRes) : (if c then a else b).st = if c then a.st else b.st := by
  split <;> rfl

/-- What a meaning that goes on answers. -/
@[simp] theorem after_next (t s : State) : after (.next t) s = t := rfl

@[simp] theorem after_ite (c : Prop) [Decidable c] (a b : Host.Outcome State Fault Refusal) (s : State) :
    after (if c then a else b) s = if c then after a s else after b s := by split <;> rfl

end Sys2Proof.Machine
end

