-- ==== Sys2Proof/Laws/FixedOps.lean ====
section
/-! SUPPORT. What the operations of Machine/Ops.lean leave alone (Laws/Fixed.lean). -/

set_option linter.all false

namespace Sys2Proof.Machine

open Sys2Proof

@[simp] theorem State.setDisp_fixed (s : State) (x : Disp) : (State.setDisp s x).fixed = s.fixed := by
  unfold State.setDisp
  repeat' (first | (simp only [↓mk_fixed, ↓ite_fixed, ite_self, ↓st_ite]; done) | split | (simp only [↓mk_fixed, ↓ite_fixed, ite_self, ↓st_ite]; split) | (simp only [↓mk_fixed, ↓ite_fixed, ite_self, ↓st_ite]) | (with_reducible refine (foldl_fixed _ _ _ (fun _ _ => ?_)).trans ?_) | (with_reducible refine (foldl_pair_fixed _ _ _ (fun _ _ => ?_)).trans ?_) | dsimp only | (simp_all; done))

@[simp] theorem State.setRings_fixed (s : State) (x : Rings) : (State.setRings s x).fixed = s.fixed := by
  unfold State.setRings
  repeat' (first | (simp only [↓mk_fixed, ↓ite_fixed, ite_self, ↓st_ite]; done) | split | (simp only [↓mk_fixed, ↓ite_fixed, ite_self, ↓st_ite]; split) | (simp only [↓mk_fixed, ↓ite_fixed, ite_self, ↓st_ite]) | (with_reducible refine (foldl_fixed _ _ _ (fun _ _ => ?_)).trans ?_) | (with_reducible refine (foldl_pair_fixed _ _ _ (fun _ _ => ?_)).trans ?_) | dsimp only | (simp_all; done))

@[simp] theorem State.setLog_fixed (s : State) (x : Recorder) : (State.setLog s x).fixed = s.fixed := by
  unfold State.setLog
  repeat' (first | (simp only [↓mk_fixed, ↓ite_fixed, ite_self, ↓st_ite]; done) | split | (simp only [↓mk_fixed, ↓ite_fixed, ite_self, ↓st_ite]; split) | (simp only [↓mk_fixed, ↓ite_fixed, ite_self, ↓st_ite]) | (with_reducible refine (foldl_fixed _ _ _ (fun _ _ => ?_)).trans ?_) | (with_reducible refine (foldl_pair_fixed _ _ _ (fun _ _ => ?_)).trans ?_) | dsimp only | (simp_all; done))

theorem State.setSys_fixed (s : State) (x : Sys) (h : x.flash = s.sys.flash) : (s.setSys x).fixed = s.fixed := by
  simp only [State.setSys, State.fixed, h]

@[simp] theorem State.setRad_fixed (s : State) (x : Radio) : (State.setRad s x).fixed = s.fixed := by
  unfold State.setRad
  repeat' (first | (simp only [↓mk_fixed, ↓ite_fixed, ite_self, ↓st_ite]; done) | split | (simp only [↓mk_fixed, ↓ite_fixed, ite_self, ↓st_ite]; split) | (simp only [↓mk_fixed, ↓ite_fixed, ite_self, ↓st_ite]) | (with_reducible refine (foldl_fixed _ _ _ (fun _ _ => ?_)).trans ?_) | (with_reducible refine (foldl_pair_fixed _ _ _ (fun _ _ => ?_)).trans ?_) | dsimp only | (simp_all; done))

@[simp] theorem State.setFlt_fixed (s : State) (x : Fleet) : (State.setFlt s x).fixed = s.fixed := by
  unfold State.setFlt
  repeat' (first | (simp only [↓mk_fixed, ↓ite_fixed, ite_self, ↓st_ite]; done) | split | (simp only [↓mk_fixed, ↓ite_fixed, ite_self, ↓st_ite]; split) | (simp only [↓mk_fixed, ↓ite_fixed, ite_self, ↓st_ite]) | (with_reducible refine (foldl_fixed _ _ _ (fun _ _ => ?_)).trans ?_) | (with_reducible refine (foldl_pair_fixed _ _ _ (fun _ _ => ?_)).trans ?_) | dsimp only | (simp_all; done))

@[simp] theorem State.setStp_fixed (s : State) (x : Stop) : (State.setStp s x).fixed = s.fixed := by
  unfold State.setStp
  repeat' (first | (simp only [↓mk_fixed, ↓ite_fixed, ite_self, ↓st_ite]; done) | split | (simp only [↓mk_fixed, ↓ite_fixed, ite_self, ↓st_ite]; split) | (simp only [↓mk_fixed, ↓ite_fixed, ite_self, ↓st_ite]) | (with_reducible refine (foldl_fixed _ _ _ (fun _ _ => ?_)).trans ?_) | (with_reducible refine (foldl_pair_fixed _ _ _ (fun _ _ => ?_)).trans ?_) | dsimp only | (simp_all; done))

@[simp] theorem State.setKey_fixed (s : State) (x : Keys) : (State.setKey s x).fixed = s.fixed := by
  unfold State.setKey
  repeat' (first | (simp only [↓mk_fixed, ↓ite_fixed, ite_self, ↓st_ite]; done) | split | (simp only [↓mk_fixed, ↓ite_fixed, ite_self, ↓st_ite]; split) | (simp only [↓mk_fixed, ↓ite_fixed, ite_self, ↓st_ite]) | (with_reducible refine (foldl_fixed _ _ _ (fun _ _ => ?_)).trans ?_) | (with_reducible refine (foldl_pair_fixed _ _ _ (fun _ _ => ?_)).trans ?_) | dsimp only | (simp_all; done))

@[simp] theorem State.setTim_fixed (s : State) (x : Timing) : (State.setTim s x).fixed = s.fixed := by
  unfold State.setTim
  repeat' (first | (simp only [↓mk_fixed, ↓ite_fixed, ite_self, ↓st_ite]; done) | split | (simp only [↓mk_fixed, ↓ite_fixed, ite_self, ↓st_ite]; split) | (simp only [↓mk_fixed, ↓ite_fixed, ite_self, ↓st_ite]) | (with_reducible refine (foldl_fixed _ _ _ (fun _ _ => ?_)).trans ?_) | (with_reducible refine (foldl_pair_fixed _ _ _ (fun _ _ => ?_)).trans ?_) | dsimp only | (simp_all; done))

@[simp] theorem State.setGns_fixed (s : State) (x : Gnss) : (State.setGns s x).fixed = s.fixed := by
  unfold State.setGns
  repeat' (first | (simp only [↓mk_fixed, ↓ite_fixed, ite_self, ↓st_ite]; done) | split | (simp only [↓mk_fixed, ↓ite_fixed, ite_self, ↓st_ite]; split) | (simp only [↓mk_fixed, ↓ite_fixed, ite_self, ↓st_ite]) | (with_reducible refine (foldl_fixed _ _ _ (fun _ _ => ?_)).trans ?_) | (with_reducible refine (foldl_pair_fixed _ _ _ (fun _ _ => ?_)).trans ?_) | dsimp only | (simp_all; done))

@[simp] theorem State.setBsl_fixed (s : State) (x : Baseline) : (State.setBsl s x).fixed = s.fixed := by
  unfold State.setBsl
  repeat' (first | (simp only [↓mk_fixed, ↓ite_fixed, ite_self, ↓st_ite]; done) | split | (simp only [↓mk_fixed, ↓ite_fixed, ite_self, ↓st_ite]; split) | (simp only [↓mk_fixed, ↓ite_fixed, ite_self, ↓st_ite]) | (with_reducible refine (foldl_fixed _ _ _ (fun _ _ => ?_)).trans ?_) | (with_reducible refine (foldl_pair_fixed _ _ _ (fun _ _ => ?_)).trans ?_) | dsimp only | (simp_all; done))

@[simp] theorem State.setAlt_fixed (s : State) (x : Allot) : (State.setAlt s x).fixed = s.fixed := by
  unfold State.setAlt
  repeat' (first | (simp only [↓mk_fixed, ↓ite_fixed, ite_self, ↓st_ite]; done) | split | (simp only [↓mk_fixed, ↓ite_fixed, ite_self, ↓st_ite]; split) | (simp only [↓mk_fixed, ↓ite_fixed, ite_self, ↓st_ite]) | (with_reducible refine (foldl_fixed _ _ _ (fun _ _ => ?_)).trans ?_) | (with_reducible refine (foldl_pair_fixed _ _ _ (fun _ _ => ?_)).trans ?_) | dsimp only | (simp_all; done))

@[simp] theorem State.setNet_fixed (s : State) (x : Net) : (State.setNet s x).fixed = s.fixed := by
  unfold State.setNet
  repeat' (first | (simp only [↓mk_fixed, ↓ite_fixed, ite_self, ↓st_ite]; done) | split | (simp only [↓mk_fixed, ↓ite_fixed, ite_self, ↓st_ite]; split) | (simp only [↓mk_fixed, ↓ite_fixed, ite_self, ↓st_ite]) | (with_reducible refine (foldl_fixed _ _ _ (fun _ _ => ?_)).trans ?_) | (with_reducible refine (foldl_pair_fixed _ _ _ (fun _ _ => ?_)).trans ?_) | dsimp only | (simp_all; done))

@[simp] theorem State.setMsh_fixed (s : State) (x : Mesh) : (State.setMsh s x).fixed = s.fixed := by
  unfold State.setMsh
  repeat' (first | (simp only [↓mk_fixed, ↓ite_fixed, ite_self, ↓st_ite]; done) | split | (simp only [↓mk_fixed, ↓ite_fixed, ite_self, ↓st_ite]; split) | (simp only [↓mk_fixed, ↓ite_fixed, ite_self, ↓st_ite]) | (with_reducible refine (foldl_fixed _ _ _ (fun _ _ => ?_)).trans ?_) | (with_reducible refine (foldl_pair_fixed _ _ _ (fun _ _ => ?_)).trans ?_) | dsimp only | (simp_all; done))

@[simp] theorem State.setPai_fixed (s : State) (x : Pair) : (State.setPai s x).fixed = s.fixed := by
  unfold State.setPai
  repeat' (first | (simp only [↓mk_fixed, ↓ite_fixed, ite_self, ↓st_ite]; done) | split | (simp only [↓mk_fixed, ↓ite_fixed, ite_self, ↓st_ite]; split) | (simp only [↓mk_fixed, ↓ite_fixed, ite_self, ↓st_ite]) | (with_reducible refine (foldl_fixed _ _ _ (fun _ _ => ?_)).trans ?_) | (with_reducible refine (foldl_pair_fixed _ _ _ (fun _ _ => ?_)).trans ?_) | dsimp only | (simp_all; done))

@[simp] theorem State.setWel_fixed (s : State) (x : Well) : (State.setWel s x).fixed = s.fixed := by
  unfold State.setWel
  repeat' (first | (simp only [↓mk_fixed, ↓ite_fixed, ite_self, ↓st_ite]; done) | split | (simp only [↓mk_fixed, ↓ite_fixed, ite_self, ↓st_ite]; split) | (simp only [↓mk_fixed, ↓ite_fixed, ite_self, ↓st_ite]) | (with_reducible refine (foldl_fixed _ _ _ (fun _ _ => ?_)).trans ?_) | (with_reducible refine (foldl_pair_fixed _ _ _ (fun _ _ => ?_)).trans ?_) | dsimp only | (simp_all; done))

@[simp] theorem State.setWlg_fixed (s : State) (x : Wellgate) : (State.setWlg s x).fixed = s.fixed := by
  unfold State.setWlg
  repeat' (first | (simp only [↓mk_fixed, ↓ite_fixed, ite_self, ↓st_ite]; done) | split | (simp only [↓mk_fixed, ↓ite_fixed, ite_self, ↓st_ite]; split) | (simp only [↓mk_fixed, ↓ite_fixed, ite_self, ↓st_ite]) | (with_reducible refine (foldl_fixed _ _ _ (fun _ _ => ?_)).trans ?_) | (with_reducible refine (foldl_pair_fixed _ _ _ (fun _ _ => ?_)).trans ?_) | dsimp only | (simp_all; done))

@[simp] theorem State.setMot_fixed (s : State) (x : Motion) : (State.setMot s x).fixed = s.fixed := by
  unfold State.setMot
  repeat' (first | (simp only [↓mk_fixed, ↓ite_fixed, ite_self, ↓st_ite]; done) | split | (simp only [↓mk_fixed, ↓ite_fixed, ite_self, ↓st_ite]; split) | (simp only [↓mk_fixed, ↓ite_fixed, ite_self, ↓st_ite]) | (with_reducible refine (foldl_fixed _ _ _ (fun _ _ => ?_)).trans ?_) | (with_reducible refine (foldl_pair_fixed _ _ _ (fun _ _ => ?_)).trans ?_) | dsimp only | (simp_all; done))

@[simp] theorem State.setLop_fixed (s : State) (x : Loops) : (State.setLop s x).fixed = s.fixed := by
  unfold State.setLop
  repeat' (first | (simp only [↓mk_fixed, ↓ite_fixed, ite_self, ↓st_ite]; done) | split | (simp only [↓mk_fixed, ↓ite_fixed, ite_self, ↓st_ite]; split) | (simp only [↓mk_fixed, ↓ite_fixed, ite_self, ↓st_ite]) | (with_reducible refine (foldl_fixed _ _ _ (fun _ _ => ?_)).trans ?_) | (with_reducible refine (foldl_pair_fixed _ _ _ (fun _ _ => ?_)).trans ?_) | dsimp only | (simp_all; done))

@[simp] theorem State.setMem_fixed (s : State) (x : Memories) : (State.setMem s x).fixed = s.fixed := by
  unfold State.setMem
  repeat' (first | (simp only [↓mk_fixed, ↓ite_fixed, ite_self, ↓st_ite]; done) | split | (simp only [↓mk_fixed, ↓ite_fixed, ite_self, ↓st_ite]; split) | (simp only [↓mk_fixed, ↓ite_fixed, ite_self, ↓st_ite]) | (with_reducible refine (foldl_fixed _ _ _ (fun _ _ => ?_)).trans ?_) | (with_reducible refine (foldl_pair_fixed _ _ _ (fun _ _ => ?_)).trans ?_) | dsimp only | (simp_all; done))

@[simp] theorem State.wr_fixed (s : State) (a : Nat) (v : Word) : (State.wr s a v).fixed = s.fixed := by
  unfold State.wr
  repeat' (first | (simp only [↓mk_fixed, ↓ite_fixed, ite_self, ↓st_ite]; done) | split | (simp only [↓mk_fixed, ↓ite_fixed, ite_self, ↓st_ite]; split) | (simp only [↓mk_fixed, ↓ite_fixed, ite_self, ↓st_ite]) | (with_reducible refine (foldl_fixed _ _ _ (fun _ _ => ?_)).trans ?_) | (with_reducible refine (foldl_pair_fixed _ _ _ (fun _ _ => ?_)).trans ?_) | dsimp only | (simp_all; done))

@[simp] theorem State.put_fixed (s : State) (f : Fld) (v : Nat) : (State.put s f v).fixed = s.fixed := by
  unfold State.put
  repeat' (first | (simp only [↓State.wr_fixed, ↓mk_fixed, ↓ite_fixed, ite_self, ↓st_ite]; done) | split | (simp only [↓State.wr_fixed, ↓mk_fixed, ↓ite_fixed, ite_self, ↓st_ite]; split) | (simp only [↓State.wr_fixed, ↓mk_fixed, ↓ite_fixed, ite_self, ↓st_ite]) | (with_reducible refine (foldl_fixed _ _ _ (fun _ _ => ?_)).trans ?_) | (with_reducible refine (foldl_pair_fixed _ _ _ (fun _ _ => ?_)).trans ?_) | dsimp only | (simp_all; done))

@[simp] theorem State.setNum_fixed (s : State) (a : Nat) (v : Nat) : (State.setNum s a v).fixed = s.fixed := by
  unfold State.setNum
  repeat' (first | (simp only [↓State.wr_fixed, ↓mk_fixed, ↓ite_fixed, ite_self, ↓st_ite]; done) | split | (simp only [↓State.wr_fixed, ↓mk_fixed, ↓ite_fixed, ite_self, ↓st_ite]; split) | (simp only [↓State.wr_fixed, ↓mk_fixed, ↓ite_fixed, ite_self, ↓st_ite]) | (with_reducible refine (foldl_fixed _ _ _ (fun _ _ => ?_)).trans ?_) | (with_reducible refine (foldl_pair_fixed _ _ _ (fun _ _ => ?_)).trans ?_) | dsimp only | (simp_all; done))

@[simp] theorem State.count_fixed (s : State) (a : Nat) (n : Nat) : (State.count s a n).fixed = s.fixed := by
  unfold State.count
  repeat' (first | (simp only [↓State.setNum_fixed, ↓mk_fixed, ↓ite_fixed, ite_self, ↓st_ite]; done) | split | (simp only [↓State.setNum_fixed, ↓mk_fixed, ↓ite_fixed, ite_self, ↓st_ite]; split) | (simp only [↓State.setNum_fixed, ↓mk_fixed, ↓ite_fixed, ite_self, ↓st_ite]) | (with_reducible refine (foldl_fixed _ _ _ (fun _ _ => ?_)).trans ?_) | (with_reducible refine (foldl_pair_fixed _ _ _ (fun _ _ => ?_)).trans ?_) | dsimp only | (simp_all; done))

@[simp] theorem State.setNum64_fixed (s : State) (lo hi : Nat) (v : Nat) : (State.setNum64 s lo hi v).fixed = s.fixed := by
  unfold State.setNum64
  repeat' (first | (simp only [↓State.setNum_fixed, ↓mk_fixed, ↓ite_fixed, ite_self, ↓st_ite]; done) | split | (simp only [↓State.setNum_fixed, ↓mk_fixed, ↓ite_fixed, ite_self, ↓st_ite]; split) | (simp only [↓State.setNum_fixed, ↓mk_fixed, ↓ite_fixed, ite_self, ↓st_ite]) | (with_reducible refine (foldl_fixed _ _ _ (fun _ _ => ?_)).trans ?_) | (with_reducible refine (foldl_pair_fixed _ _ _ (fun _ _ => ?_)).trans ?_) | dsimp only | (simp_all; done))

@[simp] theorem State.peak_fixed (s : State) (a : Nat) (v : Nat) : (State.peak s a v).fixed = s.fixed := by
  unfold State.peak
  repeat' (first | (simp only [↓State.setNum_fixed, ↓mk_fixed, ↓ite_fixed, ite_self, ↓st_ite]; done) | split | (simp only [↓State.setNum_fixed, ↓mk_fixed, ↓ite_fixed, ite_self, ↓st_ite]; split) | (simp only [↓State.setNum_fixed, ↓mk_fixed, ↓ite_fixed, ite_self, ↓st_ite]) | (with_reducible refine (foldl_fixed _ _ _ (fun _ _ => ?_)).trans ?_) | (with_reducible refine (foldl_pair_fixed _ _ _ (fun _ _ => ?_)).trans ?_) | dsimp only | (simp_all; done))

@[simp] theorem State.drawn_fixed (s : State) : (State.drawn s).fixed = s.fixed := by
  unfold State.drawn
  repeat' (first | (simp only [↓mk_fixed, ↓ite_fixed, ite_self, ↓st_ite]; done) | split | (simp only [↓mk_fixed, ↓ite_fixed, ite_self, ↓st_ite]; split) | (simp only [↓mk_fixed, ↓ite_fixed, ite_self, ↓st_ite]) | (with_reducible refine (foldl_fixed _ _ _ (fun _ _ => ?_)).trans ?_) | (with_reducible refine (foldl_pair_fixed _ _ _ (fun _ _ => ?_)).trans ?_) | dsimp only | (simp_all; done))

@[simp] theorem State.emit_fixed (s : State) (o : Out) : (State.emit s o).fixed = s.fixed := by
  unfold State.emit
  repeat' (first | (simp only [↓mk_fixed, ↓ite_fixed, ite_self, ↓st_ite]; done) | split | (simp only [↓mk_fixed, ↓ite_fixed, ite_self, ↓st_ite]; split) | (simp only [↓mk_fixed, ↓ite_fixed, ite_self, ↓st_ite]) | (with_reducible refine (foldl_fixed _ _ _ (fun _ _ => ?_)).trans ?_) | (with_reducible refine (foldl_pair_fixed _ _ _ (fun _ _ => ?_)).trans ?_) | dsimp only | (simp_all; done))

@[simp] theorem State.sendMate_fixed (s : State) (frag sn : Nat) (body : MateBody) : (State.sendMate s frag sn body).fixed = s.fixed := by
  unfold State.sendMate
  repeat' (first | (simp only [↓State.emit_fixed, ↓mk_fixed, ↓ite_fixed, ite_self, ↓st_ite]; done) | split | (simp only [↓State.emit_fixed, ↓mk_fixed, ↓ite_fixed, ite_self, ↓st_ite]; split) | (simp only [↓State.emit_fixed, ↓mk_fixed, ↓ite_fixed, ite_self, ↓st_ite]) | (with_reducible refine (foldl_fixed _ _ _ (fun _ _ => ?_)).trans ?_) | (with_reducible refine (foldl_pair_fixed _ _ _ (fun _ _ => ?_)).trans ?_) | dsimp only | (simp_all; done))

@[simp] theorem State.handOut_fixed (s : State) (bs : List Byte) : (State.handOut s bs).fixed = s.fixed := by
  unfold State.handOut
  repeat' (first | (simp only [↓State.setDisp_fixed, ↓mk_fixed, ↓ite_fixed, ite_self, ↓st_ite]; done) | split | (simp only [↓State.setDisp_fixed, ↓mk_fixed, ↓ite_fixed, ite_self, ↓st_ite]; split) | (simp only [↓State.setDisp_fixed, ↓mk_fixed, ↓ite_fixed, ite_self, ↓st_ite]) | (with_reducible refine (foldl_fixed _ _ _ (fun _ _ => ?_)).trans ?_) | (with_reducible refine (foldl_pair_fixed _ _ _ (fun _ _ => ?_)).trans ?_) | dsimp only | (simp_all; done))

@[simp] theorem State.logInput_fixed (s : State) (e : LogEntry) : (State.logInput s e).fixed = s.fixed := by
  unfold State.logInput
  repeat' (first | (simp only [↓State.setPai_fixed, ↓mk_fixed, ↓ite_fixed, ite_self, ↓st_ite]; done) | split | (simp only [↓State.setPai_fixed, ↓mk_fixed, ↓ite_fixed, ite_self, ↓st_ite]; split) | (simp only [↓State.setPai_fixed, ↓mk_fixed, ↓ite_fixed, ite_self, ↓st_ite]) | (with_reducible refine (foldl_fixed _ _ _ (fun _ _ => ?_)).trans ?_) | (with_reducible refine (foldl_pair_fixed _ _ _ (fun _ _ => ?_)).trans ?_) | dsimp only | (simp_all; done))

@[simp] theorem State.reportTx_fixed (s : State) (o : TxOwner) (r : TxResult) : (State.reportTx s o r).fixed = s.fixed := by
  unfold State.reportTx
  repeat' (first | (simp only [↓State.logInput_fixed, ↓State.setMsh_fixed, ↓State.setRad_fixed, ↓mk_fixed, ↓ite_fixed, ite_self, ↓st_ite]; done) | split | (simp only [↓State.logInput_fixed, ↓State.setMsh_fixed, ↓State.setRad_fixed, ↓mk_fixed, ↓ite_fixed, ite_self, ↓st_ite]; split) | (simp only [↓State.logInput_fixed, ↓State.setMsh_fixed, ↓State.setRad_fixed, ↓mk_fixed, ↓ite_fixed, ite_self, ↓st_ite]) | (with_reducible refine (foldl_fixed _ _ _ (fun _ _ => ?_)).trans ?_) | (with_reducible refine (foldl_pair_fixed _ _ _ (fun _ _ => ?_)).trans ?_) | dsimp only | (simp_all; done))

@[simp] theorem State.record_fixed (s : State) (code source p0 p1 p2 : Nat) : (State.record s code source p0 p1 p2).fixed = s.fixed := by
  unfold State.record
  repeat' (first | (simp only [↓mk_fixed, ↓ite_fixed, ite_self, ↓st_ite]; done) | split | (simp only [↓mk_fixed, ↓ite_fixed, ite_self, ↓st_ite]; split) | (simp only [↓mk_fixed, ↓ite_fixed, ite_self, ↓st_ite]) | (with_reducible refine (foldl_fixed _ _ _ (fun _ _ => ?_)).trans ?_) | (with_reducible refine (foldl_pair_fixed _ _ _ (fun _ _ => ?_)).trans ?_) | dsimp only | (simp_all; done))

@[simp] theorem State.applyOut_fixed (s : State) : (State.applyOut s).fixed = s.fixed := by
  unfold State.applyOut
  repeat' (first | (simp only [↓State.put_fixed, ↓mk_fixed, ↓ite_fixed, ite_self, ↓st_ite]; done) | split | (simp only [↓State.put_fixed, ↓mk_fixed, ↓ite_fixed, ite_self, ↓st_ite]; split) | (simp only [↓State.put_fixed, ↓mk_fixed, ↓ite_fixed, ite_self, ↓st_ite]) | (with_reducible refine (foldl_fixed _ _ _ (fun _ _ => ?_)).trans ?_) | (with_reducible refine (foldl_pair_fixed _ _ _ (fun _ _ => ?_)).trans ?_) | dsimp only | (simp_all; done))

@[simp] theorem State.showTx_fixed (s : State) : (State.showTx s).fixed = s.fixed := by
  unfold State.showTx
  repeat' (first | (simp only [↓State.put_fixed, ↓mk_fixed, ↓ite_fixed, ite_self, ↓st_ite]; done) | split | (simp only [↓State.put_fixed, ↓mk_fixed, ↓ite_fixed, ite_self, ↓st_ite]; split) | (simp only [↓State.put_fixed, ↓mk_fixed, ↓ite_fixed, ite_self, ↓st_ite]) | (with_reducible refine (foldl_fixed _ _ _ (fun _ _ => ?_)).trans ?_) | (with_reducible refine (foldl_pair_fixed _ _ _ (fun _ _ => ?_)).trans ?_) | dsimp only | (simp_all; done))

@[simp] theorem State.restLines_fixed (s : State) (p : Nat) : (State.restLines s p).fixed = s.fixed := by
  unfold State.restLines
  repeat' (first | (simp only [↓State.emit_fixed, ↓mk_fixed, ↓ite_fixed, ite_self, ↓st_ite]; done) | split | (simp only [↓State.emit_fixed, ↓mk_fixed, ↓ite_fixed, ite_self, ↓st_ite]; split) | (simp only [↓State.emit_fixed, ↓mk_fixed, ↓ite_fixed, ite_self, ↓st_ite]) | (with_reducible refine (foldl_fixed _ _ _ (fun _ _ => ?_)).trans ?_) | (with_reducible refine (foldl_pair_fixed _ _ _ (fun _ _ => ?_)).trans ?_) | dsimp only | (simp_all; done))

@[simp] theorem State.cutTx_fixed (s : State) (p : Tx → Bool) : (State.cutTx s p).fixed = s.fixed := by
  unfold State.cutTx
  repeat' (first | (simp only [↓State.reportTx_fixed, ↓State.restLines_fixed, ↓State.setRad_fixed, ↓State.showTx_fixed, ↓mk_fixed, ↓ite_fixed, ite_self, ↓st_ite]; done) | split | (simp only [↓State.reportTx_fixed, ↓State.restLines_fixed, ↓State.setRad_fixed, ↓State.showTx_fixed, ↓mk_fixed, ↓ite_fixed, ite_self, ↓st_ite]; split) | (simp only [↓State.reportTx_fixed, ↓State.restLines_fixed, ↓State.setRad_fixed, ↓State.showTx_fixed, ↓mk_fixed, ↓ite_fixed, ite_self, ↓st_ite]) | (with_reducible refine (foldl_fixed _ _ _ (fun _ _ => ?_)).trans ?_) | (with_reducible refine (foldl_pair_fixed _ _ _ (fun _ _ => ?_)).trans ?_) | dsimp only | (simp_all; done))

@[simp] theorem State.setDev_fixed (s : State) (d : DevState) : (State.setDev s d).fixed = s.fixed := by
  unfold State.setDev
  repeat' (first | (simp only [↓State.applyOut_fixed, ↓State.cutTx_fixed, ↓State.record_fixed, ↓mk_fixed, ↓ite_fixed, ite_self, ↓st_ite]; done) | split | (simp only [↓State.applyOut_fixed, ↓State.cutTx_fixed, ↓State.record_fixed, ↓mk_fixed, ↓ite_fixed, ite_self, ↓st_ite]; split) | (simp only [↓State.applyOut_fixed, ↓State.cutTx_fixed, ↓State.record_fixed, ↓mk_fixed, ↓ite_fixed, ite_self, ↓st_ite]) | (with_reducible refine (foldl_fixed _ _ _ (fun _ _ => ?_)).trans ?_) | (with_reducible refine (foldl_pair_fixed _ _ _ (fun _ _ => ?_)).trans ?_) | dsimp only | (simp_all; done))

@[simp] theorem State.drivePwm_fixed (s : State) (was : List Nat) : (State.drivePwm s was).fixed = s.fixed := by
  unfold State.drivePwm
  repeat' (first | (simp only [↓State.emit_fixed, ↓mk_fixed, ↓ite_fixed, ite_self, ↓st_ite]; done) | split | (simp only [↓State.emit_fixed, ↓mk_fixed, ↓ite_fixed, ite_self, ↓st_ite]; split) | (simp only [↓State.emit_fixed, ↓mk_fixed, ↓ite_fixed, ite_self, ↓st_ite]) | (with_reducible refine (foldl_fixed _ _ _ (fun _ _ => ?_)).trans ?_) | (with_reducible refine (foldl_pair_fixed _ _ _ (fun _ _ => ?_)).trans ?_) | dsimp only | (simp_all; done))

@[simp] theorem State.pwmLow_fixed (s : State) : (State.pwmLow s).fixed = s.fixed := by
  unfold State.pwmLow
  repeat' (first | (simp only [↓State.drivePwm_fixed, ↓State.setLop_fixed, ↓mk_fixed, ↓ite_fixed, ite_self, ↓st_ite]; done) | split | (simp only [↓State.drivePwm_fixed, ↓State.setLop_fixed, ↓mk_fixed, ↓ite_fixed, ite_self, ↓st_ite]; split) | (simp only [↓State.drivePwm_fixed, ↓State.setLop_fixed, ↓mk_fixed, ↓ite_fixed, ite_self, ↓st_ite]) | (with_reducible refine (foldl_fixed _ _ _ (fun _ _ => ?_)).trans ?_) | (with_reducible refine (foldl_pair_fixed _ _ _ (fun _ _ => ?_)).trans ?_) | dsimp only | (simp_all; done))

@[simp] theorem State.fatalHalt_fixed (s : State) (cause : Nat) : (State.fatalHalt s cause).fixed = s.fixed := by
  unfold State.fatalHalt
  repeat' (first | (simp only [↓State.put_fixed, ↓State.pwmLow_fixed, ↓State.setDev_fixed, ↓mk_fixed, ↓ite_fixed, ite_self, ↓st_ite]; done) | split | (simp only [↓State.put_fixed, ↓State.pwmLow_fixed, ↓State.setDev_fixed, ↓mk_fixed, ↓ite_fixed, ite_self, ↓st_ite]; split) | (simp only [↓State.put_fixed, ↓State.pwmLow_fixed, ↓State.setDev_fixed, ↓mk_fixed, ↓ite_fixed, ite_self, ↓st_ite]) | (with_reducible refine (foldl_fixed _ _ _ (fun _ _ => ?_)).trans ?_) | (with_reducible refine (foldl_pair_fixed _ _ _ (fun _ _ => ?_)).trans ?_) | dsimp only | (simp_all; done))

@[simp] theorem State.unreserve_fixed (s : State) (cq : Nat) : (State.unreserve s cq).fixed = s.fixed := by
  unfold State.unreserve
  repeat' (first | (simp only [↓mk_fixed, ↓ite_fixed, ite_self, ↓st_ite]; done) | split | (simp only [↓mk_fixed, ↓ite_fixed, ite_self, ↓st_ite]; split) | (simp only [↓mk_fixed, ↓ite_fixed, ite_self, ↓st_ite]) | (with_reducible refine (foldl_fixed _ _ _ (fun _ _ => ?_)).trans ?_) | (with_reducible refine (foldl_pair_fixed _ _ _ (fun _ _ => ?_)).trans ?_) | dsimp only | (simp_all; done))

@[simp] theorem State.addDue_fixed (s : State) (c : DueCpl) : (State.addDue s c).fixed = s.fixed := by
  unfold State.addDue
  repeat' (first | (simp only [↓mk_fixed, ↓ite_fixed, ite_self, ↓st_ite]; done) | split | (simp only [↓mk_fixed, ↓ite_fixed, ite_self, ↓st_ite]; split) | (simp only [↓mk_fixed, ↓ite_fixed, ite_self, ↓st_ite]) | (with_reducible refine (foldl_fixed _ _ _ (fun _ _ => ?_)).trans ?_) | (with_reducible refine (foldl_pair_fixed _ _ _ (fun _ _ => ?_)).trans ?_) | dsimp only | (simp_all; done))

@[simp] theorem State.complete_fixed (s : State) (d : Desc) (status result : Nat) (bytes : List Byte) (resultLen : Nat) (due : DueWhen) : (State.complete s d status result bytes resultLen due).fixed = s.fixed := by
  unfold State.complete
  repeat' (first | (simp only [↓State.addDue_fixed, ↓State.count_fixed, ↓State.setRings_fixed, ↓State.unreserve_fixed, ↓mk_fixed, ↓ite_fixed, ite_self, ↓st_ite]; done) | split | (simp only [↓State.addDue_fixed, ↓State.count_fixed, ↓State.setRings_fixed, ↓State.unreserve_fixed, ↓mk_fixed, ↓ite_fixed, ite_self, ↓st_ite]; split) | (simp only [↓State.addDue_fixed, ↓State.count_fixed, ↓State.setRings_fixed, ↓State.unreserve_fixed, ↓mk_fixed, ↓ite_fixed, ite_self, ↓st_ite]) | (with_reducible refine (foldl_fixed _ _ _ (fun _ _ => ?_)).trans ?_) | (with_reducible refine (foldl_pair_fixed _ _ _ (fun _ _ => ?_)).trans ?_) | dsimp only | (simp_all; done))

end Sys2Proof.Machine
end

