-- ==== Sys2Proof/Laws/FixedJobs.lean ====
section
/-! SUPPORT. What the operations of Machine/Jobs.lean leave alone (Laws/Fixed.lean). -/

set_option linter.all false

namespace Sys2Proof.Machine

open Sys2Proof

@[simp] theorem State.setJobs_fixed (s : State) (js : List Job) : (State.setJobs s js).fixed = s.fixed := by
  unfold State.setJobs
  repeat' (first | (simp only [↓mk_fixed, ↓ite_fixed, ite_self, ↓st_ite]; done) | split | (simp only [↓mk_fixed, ↓ite_fixed, ite_self, ↓st_ite]; split) | (simp only [↓mk_fixed, ↓ite_fixed, ite_self, ↓st_ite]) | (with_reducible refine (foldl_fixed _ _ _ (fun _ _ => ?_)).trans ?_) | (with_reducible refine (foldl_pair_fixed _ _ _ (fun _ _ => ?_)).trans ?_) | dsimp only | (simp_all; done))

@[simp] theorem State.modJob_fixed (s : State) (id : Nat) (f : Job → Job) : (State.modJob s id f).fixed = s.fixed := by
  unfold State.modJob
  repeat' (first | (simp only [↓State.setJobs_fixed, ↓mk_fixed, ↓ite_fixed, ite_self, ↓st_ite]; done) | split | (simp only [↓State.setJobs_fixed, ↓mk_fixed, ↓ite_fixed, ite_self, ↓st_ite]; split) | (simp only [↓State.setJobs_fixed, ↓mk_fixed, ↓ite_fixed, ite_self, ↓st_ite]) | (with_reducible refine (foldl_fixed _ _ _ (fun _ _ => ?_)).trans ?_) | (with_reducible refine (foldl_pair_fixed _ _ _ (fun _ _ => ?_)).trans ?_) | dsimp only | (simp_all; done))

@[simp] theorem State.addJob_fixed (s : State) (j : Job) : (State.addJob s j).fixed = s.fixed := by
  unfold State.addJob
  repeat' (first | (simp only [↓mk_fixed, ↓ite_fixed, ite_self, ↓st_ite]; done) | split | (simp only [↓mk_fixed, ↓ite_fixed, ite_self, ↓st_ite]; split) | (simp only [↓mk_fixed, ↓ite_fixed, ite_self, ↓st_ite]) | (with_reducible refine (foldl_fixed _ _ _ (fun _ _ => ?_)).trans ?_) | (with_reducible refine (foldl_pair_fixed _ _ _ (fun _ _ => ?_)).trans ?_) | dsimp only | (simp_all; done))

@[simp] theorem State.stamp_fixed (s : State) (b : Nat) (j : Job) : (State.stamp s b j).fixed = s.fixed := by
  unfold State.stamp
  repeat' (first | (simp only [↓State.modJob_fixed, ↓mk_fixed, ↓ite_fixed, ite_self, ↓st_ite]; done) | split | (simp only [↓State.modJob_fixed, ↓mk_fixed, ↓ite_fixed, ite_self, ↓st_ite]; split) | (simp only [↓State.modJob_fixed, ↓mk_fixed, ↓ite_fixed, ite_self, ↓st_ite]) | (with_reducible refine (foldl_fixed _ _ _ (fun _ _ => ?_)).trans ?_) | (with_reducible refine (foldl_pair_fixed _ _ _ (fun _ _ => ?_)).trans ?_) | dsimp only | (simp_all; done))

@[simp] theorem State.startJobs_fixed (s : State) (cls : Nat) (x0 : Nat) : (State.startJobs s cls x0).fixed = s.fixed := by
  induction x0 generalizing s cls with
  | zero => simp [State.startJobs]
  | succ n ih =>
    unfold State.startJobs
    repeat' (first | (simp only [↓ih, ↓State.modJob_fixed, ↓mk_fixed, ↓ite_fixed, ite_self, ↓st_ite]; done) | split | (simp only [↓ih, ↓State.modJob_fixed, ↓mk_fixed, ↓ite_fixed, ite_self, ↓st_ite]; split) | (simp only [↓ih, ↓State.modJob_fixed, ↓mk_fixed, ↓ite_fixed, ite_self, ↓st_ite]) | (with_reducible refine (foldl_fixed _ _ _ (fun _ _ => ?_)).trans ?_) | (with_reducible refine (foldl_pair_fixed _ _ _ (fun _ _ => ?_)).trans ?_) | dsimp only | (simp_all; done))

@[simp] theorem State.dispatchAll_fixed (s : State) : (State.dispatchAll s).fixed = s.fixed := by
  unfold State.dispatchAll
  repeat' (first | (simp only [↓State.startJobs_fixed, ↓mk_fixed, ↓ite_fixed, ite_self, ↓st_ite]; done) | split | (simp only [↓State.startJobs_fixed, ↓mk_fixed, ↓ite_fixed, ite_self, ↓st_ite]; split) | (simp only [↓State.startJobs_fixed, ↓mk_fixed, ↓ite_fixed, ite_self, ↓st_ite]) | (with_reducible refine (foldl_fixed _ _ _ (fun _ _ => ?_)).trans ?_) | (with_reducible refine (foldl_pair_fixed _ _ _ (fun _ _ => ?_)).trans ?_) | dsimp only | (simp_all; done))

@[simp] theorem State.freeDomain_fixed (s : State) (domain : Nat) : (State.freeDomain s domain).fixed = s.fixed := by
  unfold State.freeDomain
  repeat' (first | (simp only [↓State.modJob_fixed, ↓mk_fixed, ↓ite_fixed, ite_self, ↓st_ite]; done) | split | (simp only [↓State.modJob_fixed, ↓mk_fixed, ↓ite_fixed, ite_self, ↓st_ite]; split) | (simp only [↓State.modJob_fixed, ↓mk_fixed, ↓ite_fixed, ite_self, ↓st_ite]) | (with_reducible refine (foldl_fixed _ _ _ (fun _ _ => ?_)).trans ?_) | (with_reducible refine (foldl_pair_fixed _ _ _ (fun _ _ => ?_)).trans ?_) | dsimp only | (simp_all; done))

@[simp] theorem State.dropJob_fixed (s : State) (id : Nat) : (State.dropJob s id).fixed = s.fixed := by
  unfold State.dropJob
  repeat' (first | (simp only [↓State.setJobs_fixed, ↓mk_fixed, ↓ite_fixed, ite_self, ↓st_ite]; done) | split | (simp only [↓State.setJobs_fixed, ↓mk_fixed, ↓ite_fixed, ite_self, ↓st_ite]; split) | (simp only [↓State.setJobs_fixed, ↓mk_fixed, ↓ite_fixed, ite_self, ↓st_ite]) | (with_reducible refine (foldl_fixed _ _ _ (fun _ _ => ?_)).trans ?_) | (with_reducible refine (foldl_pair_fixed _ _ _ (fun _ _ => ?_)).trans ?_) | dsimp only | (simp_all; done))

@[simp] theorem State.dropDesc_fixed (s : State) (d : Desc) : (State.dropDesc s d).fixed = s.fixed := by
  unfold State.dropDesc
  repeat' (first | (simp only [↓State.setJobs_fixed, ↓mk_fixed, ↓ite_fixed, ite_self, ↓st_ite]; done) | split | (simp only [↓State.setJobs_fixed, ↓mk_fixed, ↓ite_fixed, ite_self, ↓st_ite]; split) | (simp only [↓State.setJobs_fixed, ↓mk_fixed, ↓ite_fixed, ite_self, ↓st_ite]) | (with_reducible refine (foldl_fixed _ _ _ (fun _ _ => ?_)).trans ?_) | (with_reducible refine (foldl_pair_fixed _ _ _ (fun _ _ => ?_)).trans ?_) | dsimp only | (simp_all; done))

@[simp] theorem State.abortChain_fixed (s : State) (id : Nat) (x0 : Nat) : (State.abortChain s id x0).fixed = s.fixed := by
  induction x0 generalizing s id with
  | zero => simp [State.abortChain]
  | succ n ih =>
    unfold State.abortChain
    repeat' (first | (simp only [↓ih, ↓State.complete_fixed, ↓State.dropJob_fixed, ↓State.freeDomain_fixed, ↓mk_fixed, ↓ite_fixed, ite_self, ↓st_ite]; done) | split | (simp only [↓ih, ↓State.complete_fixed, ↓State.dropJob_fixed, ↓State.freeDomain_fixed, ↓mk_fixed, ↓ite_fixed, ite_self, ↓st_ite]; split) | (simp only [↓ih, ↓State.complete_fixed, ↓State.dropJob_fixed, ↓State.freeDomain_fixed, ↓mk_fixed, ↓ite_fixed, ite_self, ↓st_ite]) | (with_reducible refine (foldl_fixed _ _ _ (fun _ _ => ?_)).trans ?_) | (with_reducible refine (foldl_pair_fixed _ _ _ (fun _ _ => ?_)).trans ?_) | dsimp only | (simp_all; done))

@[simp] theorem State.endJob_fixed (s : State) (j : Job) (ok : Bool) : (State.endJob s j ok).fixed = s.fixed := by
  unfold State.endJob
  repeat' (first | (simp only [↓State.abortChain_fixed, ↓State.dropJob_fixed, ↓State.freeDomain_fixed, ↓State.modJob_fixed, ↓mk_fixed, ↓ite_fixed, ite_self, ↓st_ite]; done) | split | (simp only [↓State.abortChain_fixed, ↓State.dropJob_fixed, ↓State.freeDomain_fixed, ↓State.modJob_fixed, ↓mk_fixed, ↓ite_fixed, ite_self, ↓st_ite]; split) | (simp only [↓State.abortChain_fixed, ↓State.dropJob_fixed, ↓State.freeDomain_fixed, ↓State.modJob_fixed, ↓mk_fixed, ↓ite_fixed, ite_self, ↓st_ite]) | (with_reducible refine (foldl_fixed _ _ _ (fun _ _ => ?_)).trans ?_) | (with_reducible refine (foldl_pair_fixed _ _ _ (fun _ _ => ?_)).trans ?_) | dsimp only | (simp_all; done))

@[simp] theorem State.noteBadDesc_fixed (s : State) (d : Desc) : (State.noteBadDesc s d).fixed = s.fixed := by
  unfold State.noteBadDesc
  repeat' (first | (simp only [↓State.count_fixed, ↓State.record_fixed, ↓mk_fixed, ↓ite_fixed, ite_self, ↓st_ite]; done) | split | (simp only [↓State.count_fixed, ↓State.record_fixed, ↓mk_fixed, ↓ite_fixed, ite_self, ↓st_ite]; split) | (simp only [↓State.count_fixed, ↓State.record_fixed, ↓mk_fixed, ↓ite_fixed, ite_self, ↓st_ite]) | (with_reducible refine (foldl_fixed _ _ _ (fun _ _ => ?_)).trans ?_) | (with_reducible refine (foldl_pair_fixed _ _ _ (fun _ _ => ?_)).trans ?_) | dsimp only | (simp_all; done))

@[simp] theorem State.stampOne_fixed (s : State) (b : Nat) (j : Job) : (State.stampOne s b j).fixed = s.fixed := by
  unfold State.stampOne
  repeat' (first | (simp only [↓State.complete_fixed, ↓State.dropJob_fixed, ↓State.endJob_fixed, ↓State.noteBadDesc_fixed, ↓State.stamp_fixed, ↓mk_fixed, ↓ite_fixed, ite_self, ↓st_ite]; done) | split | (simp only [↓State.complete_fixed, ↓State.dropJob_fixed, ↓State.endJob_fixed, ↓State.noteBadDesc_fixed, ↓State.stamp_fixed, ↓mk_fixed, ↓ite_fixed, ite_self, ↓st_ite]; split) | (simp only [↓State.complete_fixed, ↓State.dropJob_fixed, ↓State.endJob_fixed, ↓State.noteBadDesc_fixed, ↓State.stamp_fixed, ↓mk_fixed, ↓ite_fixed, ite_self, ↓st_ite]) | (with_reducible refine (foldl_fixed _ _ _ (fun _ _ => ?_)).trans ?_) | (with_reducible refine (foldl_pair_fixed _ _ _ (fun _ _ => ?_)).trans ?_) | dsimp only | (simp_all; done))

@[simp] theorem State.stampBatch_fixed (s : State) (b : Nat) : (State.stampBatch s b).fixed = s.fixed := by
  unfold State.stampBatch
  repeat' (first | (simp only [↓State.dispatchAll_fixed, ↓State.setDisp_fixed, ↓State.setJobs_fixed, ↓State.stampOne_fixed, ↓mk_fixed, ↓ite_fixed, ite_self, ↓st_ite]; done) | split | (simp only [↓State.dispatchAll_fixed, ↓State.setDisp_fixed, ↓State.setJobs_fixed, ↓State.stampOne_fixed, ↓mk_fixed, ↓ite_fixed, ite_self, ↓st_ite]; split) | (simp only [↓State.dispatchAll_fixed, ↓State.setDisp_fixed, ↓State.setJobs_fixed, ↓State.stampOne_fixed, ↓mk_fixed, ↓ite_fixed, ite_self, ↓st_ite]) | (with_reducible refine (foldl_fixed _ _ _ (fun _ _ => ?_)).trans ?_) | (with_reducible refine (foldl_pair_fixed _ _ _ (fun _ _ => ?_)).trans ?_) | dsimp only | (simp_all; done))

@[simp] theorem State.noteOut_fixed (s : State) (j : Job) : (State.noteOut s j).fixed = s.fixed := by
  unfold State.noteOut
  repeat' (first | (simp only [↓State.setDisp_fixed, ↓mk_fixed, ↓ite_fixed, ite_self, ↓st_ite]; done) | split | (simp only [↓State.setDisp_fixed, ↓mk_fixed, ↓ite_fixed, ite_self, ↓st_ite]; split) | (simp only [↓State.setDisp_fixed, ↓mk_fixed, ↓ite_fixed, ite_self, ↓st_ite]) | (with_reducible refine (foldl_fixed _ _ _ (fun _ _ => ?_)).trans ?_) | (with_reducible refine (foldl_pair_fixed _ _ _ (fun _ _ => ?_)).trans ?_) | dsimp only | (simp_all; done))

@[simp] theorem State.countPrefix_fixed (s : State) (j : Job) : (State.countPrefix s j).fixed = s.fixed := by
  unfold State.countPrefix
  repeat' (first | (simp only [↓State.setDisp_fixed, ↓mk_fixed, ↓ite_fixed, ite_self, ↓st_ite]; done) | split | (simp only [↓State.setDisp_fixed, ↓mk_fixed, ↓ite_fixed, ite_self, ↓st_ite]; split) | (simp only [↓State.setDisp_fixed, ↓mk_fixed, ↓ite_fixed, ite_self, ↓st_ite]) | (with_reducible refine (foldl_fixed _ _ _ (fun _ _ => ?_)).trans ?_) | (with_reducible refine (foldl_pair_fixed _ _ _ (fun _ _ => ?_)).trans ?_) | dsimp only | (simp_all; done))

@[simp] theorem State.endJobOf_fixed (s : State) (d : Desc) (ok : Bool) : (State.endJobOf s d ok).fixed = s.fixed := by
  unfold State.endJobOf
  repeat' (first | (simp only [↓State.countPrefix_fixed, ↓State.endJob_fixed, ↓State.noteOut_fixed, ↓State.startJobs_fixed, ↓mk_fixed, ↓ite_fixed, ite_self, ↓st_ite]; done) | split | (simp only [↓State.countPrefix_fixed, ↓State.endJob_fixed, ↓State.noteOut_fixed, ↓State.startJobs_fixed, ↓mk_fixed, ↓ite_fixed, ite_self, ↓st_ite]; split) | (simp only [↓State.countPrefix_fixed, ↓State.endJob_fixed, ↓State.noteOut_fixed, ↓State.startJobs_fixed, ↓mk_fixed, ↓ite_fixed, ite_self, ↓st_ite]) | (with_reducible refine (foldl_fixed _ _ _ (fun _ _ => ?_)).trans ?_) | (with_reducible refine (foldl_pair_fixed _ _ _ (fun _ _ => ?_)).trans ?_) | dsimp only | (simp_all; done))

@[simp] theorem State.waitJobOf_fixed (s : State) (d : Desc) : (State.waitJobOf s d).fixed = s.fixed := by
  unfold State.waitJobOf
  repeat' (first | (simp only [↓State.countPrefix_fixed, ↓State.modJob_fixed, ↓State.noteOut_fixed, ↓State.startJobs_fixed, ↓mk_fixed, ↓ite_fixed, ite_self, ↓st_ite]; done) | split | (simp only [↓State.countPrefix_fixed, ↓State.modJob_fixed, ↓State.noteOut_fixed, ↓State.startJobs_fixed, ↓mk_fixed, ↓ite_fixed, ite_self, ↓st_ite]; split) | (simp only [↓State.countPrefix_fixed, ↓State.modJob_fixed, ↓State.noteOut_fixed, ↓State.startJobs_fixed, ↓mk_fixed, ↓ite_fixed, ite_self, ↓st_ite]) | (with_reducible refine (foldl_fixed _ _ _ (fun _ _ => ?_)).trans ?_) | (with_reducible refine (foldl_pair_fixed _ _ _ (fun _ _ => ?_)).trans ?_) | dsimp only | (simp_all; done))

@[simp] theorem State.notePeak_fixed (s : State) (cls ns : Nat) : (State.notePeak s cls ns).fixed = s.fixed := by
  unfold State.notePeak
  repeat' (first | (simp only [↓State.peak_fixed, ↓mk_fixed, ↓ite_fixed, ite_self, ↓st_ite]; done) | split | (simp only [↓State.peak_fixed, ↓mk_fixed, ↓ite_fixed, ite_self, ↓st_ite]; split) | (simp only [↓State.peak_fixed, ↓mk_fixed, ↓ite_fixed, ite_self, ↓st_ite]) | (with_reducible refine (foldl_fixed _ _ _ (fun _ _ => ?_)).trans ?_) | (with_reducible refine (foldl_pair_fixed _ _ _ (fun _ _ => ?_)).trans ?_) | dsimp only | (simp_all; done))

@[simp] theorem State.commitOne_fixed (s : State) (j : Job) : (State.commitOne s j).fixed = s.fixed := by
  unfold State.commitOne
  repeat' (first | (simp only [↓State.countPrefix_fixed, ↓State.drawn_fixed, ↓State.endJob_fixed, ↓State.noteOut_fixed, ↓State.notePeak_fixed, ↓State.startJobs_fixed, ↓mk_fixed, ↓ite_fixed, ite_self, ↓st_ite]; done) | split | (simp only [↓State.countPrefix_fixed, ↓State.drawn_fixed, ↓State.endJob_fixed, ↓State.noteOut_fixed, ↓State.notePeak_fixed, ↓State.startJobs_fixed, ↓mk_fixed, ↓ite_fixed, ite_self, ↓st_ite]; split) | (simp only [↓State.countPrefix_fixed, ↓State.drawn_fixed, ↓State.endJob_fixed, ↓State.noteOut_fixed, ↓State.notePeak_fixed, ↓State.startJobs_fixed, ↓mk_fixed, ↓ite_fixed, ite_self, ↓st_ite]) | (with_reducible refine (foldl_fixed _ _ _ (fun _ _ => ?_)).trans ?_) | (with_reducible refine (foldl_pair_fixed _ _ _ (fun _ _ => ?_)).trans ?_) | dsimp only | (simp_all; done))

@[simp] theorem State.presentWork_fixed (s : State) (sn : Nat) (repl late : Bool) (q : Nat) (x0 : List (Nat × Nat)) : (State.presentWork s sn repl late q x0).fixed = s.fixed := by
  induction x0 generalizing s sn repl late q with
  | nil => simp [State.presentWork]
  | cons x l ih =>
    unfold State.presentWork
    repeat' (first | (simp only [↓ih, ↓State.addJob_fixed, ↓mk_fixed, ↓ite_fixed, ite_self, ↓st_ite]; done) | split | (simp only [↓ih, ↓State.addJob_fixed, ↓mk_fixed, ↓ite_fixed, ite_self, ↓st_ite]; split) | (simp only [↓ih, ↓State.addJob_fixed, ↓mk_fixed, ↓ite_fixed, ite_self, ↓st_ite]) | (with_reducible refine (foldl_fixed _ _ _ (fun _ _ => ?_)).trans ?_) | (with_reducible refine (foldl_pair_fixed _ _ _ (fun _ _ => ?_)).trans ?_) | dsimp only | (simp_all; done))

@[simp] theorem State.runWork_fixed (s : State) (cap inst : Nat) (body : State → State) (hbody : ∀ a0, (body a0).fixed = a0.fixed) : (State.runWork s cap inst body).fixed = s.fixed := by
  unfold State.runWork
  repeat' (first | (simp only [↓hbody, ↓State.commitOne_fixed, ↓mk_fixed, ↓ite_fixed, ite_self, ↓st_ite]; done) | split | (simp only [↓hbody, ↓State.commitOne_fixed, ↓mk_fixed, ↓ite_fixed, ite_self, ↓st_ite]; split) | (simp only [↓hbody, ↓State.commitOne_fixed, ↓mk_fixed, ↓ite_fixed, ite_self, ↓st_ite]) | (with_reducible refine (foldl_fixed _ _ _ (fun _ _ => ?_)).trans ?_) | (with_reducible refine (foldl_pair_fixed _ _ _ (fun _ _ => ?_)).trans ?_) | dsimp only | (simp_all; done))

end Sys2Proof.Machine
end

