-- ==== Sys2Proof/Laws/FixedCommands.lean ====
section
/-! SUPPORT. What the operations of Machine/Commands.lean leave alone (Laws/Fixed.lean). -/

set_option linter.all false

namespace Sys2Proof.Machine

open Sys2Proof

@[simp] theorem State.endEarly_fixed (s : State) (d : Desc) (status : Nat) : (State.endEarly s d status).fixed = s.fixed := by
  unfold State.endEarly
  repeat' (first | (simp only [↓State.complete_fixed, ↓State.endJobOf_fixed, ↓State.noteBadDesc_fixed, ↓mk_fixed, ↓ite_fixed, ite_self, ↓st_ite]; done) | split | (simp only [↓State.complete_fixed, ↓State.endJobOf_fixed, ↓State.noteBadDesc_fixed, ↓mk_fixed, ↓ite_fixed, ite_self, ↓st_ite]; split) | (simp only [↓State.complete_fixed, ↓State.endJobOf_fixed, ↓State.noteBadDesc_fixed, ↓mk_fixed, ↓ite_fixed, ite_self, ↓st_ite]) | (with_reducible refine (foldl_fixed _ _ _ (fun _ _ => ?_)).trans ?_) | (with_reducible refine (foldl_pair_fixed _ _ _ (fun _ _ => ?_)).trans ?_) | dsimp only | (simp_all; done))

@[simp] theorem State.forwardDesc_fixed (s : State) (d : Desc) : (State.forwardDesc s d).fixed = s.fixed := by
  unfold State.forwardDesc
  repeat' (first | (simp only [↓State.addJob_fixed, ↓State.modJob_fixed, ↓State.put_fixed, ↓State.sendMate_fixed, ↓State.setRings_fixed, ↓mk_fixed, ↓ite_fixed, ite_self, ↓st_ite]; done) | split | (simp only [↓State.addJob_fixed, ↓State.modJob_fixed, ↓State.put_fixed, ↓State.sendMate_fixed, ↓State.setRings_fixed, ↓mk_fixed, ↓ite_fixed, ite_self, ↓st_ite]; split) | (simp only [↓State.addJob_fixed, ↓State.modJob_fixed, ↓State.put_fixed, ↓State.sendMate_fixed, ↓State.setRings_fixed, ↓mk_fixed, ↓ite_fixed, ite_self, ↓st_ite]) | (with_reducible refine (foldl_fixed _ _ _ (fun _ _ => ?_)).trans ?_) | (with_reducible refine (foldl_pair_fixed _ _ _ (fun _ _ => ?_)).trans ?_) | dsimp only | (simp_all; done))

@[simp] theorem State.ok_fixed (s : State) (result : Nat) : (State.ok s result).st.fixed = s.fixed := by
  unfold State.ok
  repeat' (first | (simp only [↓mk_fixed, ↓ite_fixed, ite_self, ↓st_ite]; done) | split | (simp only [↓mk_fixed, ↓ite_fixed, ite_self, ↓st_ite]; split) | (simp only [↓mk_fixed, ↓ite_fixed, ite_self, ↓st_ite]) | (with_reducible refine (foldl_fixed _ _ _ (fun _ _ => ?_)).trans ?_) | (with_reducible refine (foldl_pair_fixed _ _ _ (fun _ _ => ?_)).trans ?_) | dsimp only | (simp_all; done))

@[simp] theorem State.fail_fixed (s : State) (status : Nat) (result : Nat) : (State.fail s status result).st.fixed = s.fixed := by
  unfold State.fail
  repeat' (first | (simp only [↓mk_fixed, ↓ite_fixed, ite_self, ↓st_ite]; done) | split | (simp only [↓mk_fixed, ↓ite_fixed, ite_self, ↓st_ite]; split) | (simp only [↓mk_fixed, ↓ite_fixed, ite_self, ↓st_ite]) | (with_reducible refine (foldl_fixed _ _ _ (fun _ _ => ?_)).trans ?_) | (with_reducible refine (foldl_pair_fixed _ _ _ (fun _ _ => ?_)).trans ?_) | dsimp only | (simp_all; done))

@[simp] theorem State.later_fixed (s : State) : (State.later s).st.fixed = s.fixed := by
  unfold State.later
  repeat' (first | (simp only [↓mk_fixed, ↓ite_fixed, ite_self, ↓st_ite]; done) | split | (simp only [↓mk_fixed, ↓ite_fixed, ite_self, ↓st_ite]; split) | (simp only [↓mk_fixed, ↓ite_fixed, ite_self, ↓st_ite]) | (with_reducible refine (foldl_fixed _ _ _ (fun _ _ => ?_)).trans ?_) | (with_reducible refine (foldl_pair_fixed _ _ _ (fun _ _ => ?_)).trans ?_) | dsimp only | (simp_all; done))

@[simp] theorem State.answer_fixed (s : State) (d : Desc) (bytes : List Byte) (result : Nat) : (State.answer s d bytes result).st.fixed = s.fixed := by
  unfold State.answer
  repeat' (first | (simp only [↓mk_fixed, ↓ite_fixed, ite_self, ↓st_ite]; done) | split | (simp only [↓mk_fixed, ↓ite_fixed, ite_self, ↓st_ite]; split) | (simp only [↓mk_fixed, ↓ite_fixed, ite_self, ↓st_ite]) | (with_reducible refine (foldl_fixed _ _ _ (fun _ _ => ?_)).trans ?_) | (with_reducible refine (foldl_pair_fixed _ _ _ (fun _ _ => ?_)).trans ?_) | dsimp only | (simp_all; done))

@[simp] theorem State.finish_fixed (s : State) (d : Desc) (r : CmdRes) : (State.finish s d r).fixed = r.st.fixed := by
  unfold State.finish
  repeat' (first | (simp only [↓State.complete_fixed, ↓State.endJobOf_fixed, ↓State.handOut_fixed, ↓State.waitJobOf_fixed, ↓mk_fixed, ↓ite_fixed, ite_self, ↓st_ite]; done) | split | (simp only [↓State.complete_fixed, ↓State.endJobOf_fixed, ↓State.handOut_fixed, ↓State.waitJobOf_fixed, ↓mk_fixed, ↓ite_fixed, ite_self, ↓st_ite]; split) | (simp only [↓State.complete_fixed, ↓State.endJobOf_fixed, ↓State.handOut_fixed, ↓State.waitJobOf_fixed, ↓mk_fixed, ↓ite_fixed, ite_self, ↓st_ite]) | (with_reducible refine (foldl_fixed _ _ _ (fun _ _ => ?_)).trans ?_) | (with_reducible refine (foldl_pair_fixed _ _ _ (fun _ _ => ?_)).trans ?_) | dsimp only | (simp_all; done))

@[simp] theorem State.computedOf_fixed (s : State) (d : Desc) : (State.computedOf s d).fixed = s.fixed := by
  unfold State.computedOf
  repeat' (first | (simp only [↓State.modJob_fixed, ↓mk_fixed, ↓ite_fixed, ite_self, ↓st_ite]; done) | split | (simp only [↓State.modJob_fixed, ↓mk_fixed, ↓ite_fixed, ite_self, ↓st_ite]; split) | (simp only [↓State.modJob_fixed, ↓mk_fixed, ↓ite_fixed, ite_self, ↓st_ite]) | (with_reducible refine (foldl_fixed _ _ _ (fun _ _ => ?_)).trans ?_) | (with_reducible refine (foldl_pair_fixed _ _ _ (fun _ _ => ?_)).trans ?_) | dsimp only | (simp_all; done))

@[simp] theorem State.command_fixed (s : State) (d : Desc) (body : State → CmdRes) (hbody : ∀ a0, (body a0).st.fixed = a0.fixed) : (State.command s d body).fixed = s.fixed := by
  unfold State.command
  repeat' (first | (simp only [↓hbody, ↓State.computedOf_fixed, ↓State.endEarly_fixed, ↓State.finish_fixed, ↓State.forwardDesc_fixed, ↓mk_fixed, ↓ite_fixed, ite_self, ↓st_ite]; done) | split | (simp only [↓hbody, ↓State.computedOf_fixed, ↓State.endEarly_fixed, ↓State.finish_fixed, ↓State.forwardDesc_fixed, ↓mk_fixed, ↓ite_fixed, ite_self, ↓st_ite]; split) | (simp only [↓hbody, ↓State.computedOf_fixed, ↓State.endEarly_fixed, ↓State.finish_fixed, ↓State.forwardDesc_fixed, ↓mk_fixed, ↓ite_fixed, ite_self, ↓st_ite]) | (with_reducible refine (foldl_fixed _ _ _ (fun _ _ => ?_)).trans ?_) | (with_reducible refine (foldl_pair_fixed _ _ _ (fun _ _ => ?_)).trans ?_) | dsimp only | (simp_all; done))

@[simp] theorem State.postBuffer_fixed (s : State) (d : Desc) : (State.postBuffer s d).fixed = s.fixed := by
  unfold State.postBuffer
  repeat' (first | (simp only [↓State.setRings_fixed, ↓mk_fixed, ↓ite_fixed, ite_self, ↓st_ite]; done) | split | (simp only [↓State.setRings_fixed, ↓mk_fixed, ↓ite_fixed, ite_self, ↓st_ite]; split) | (simp only [↓State.setRings_fixed, ↓mk_fixed, ↓ite_fixed, ite_self, ↓st_ite]) | (with_reducible refine (foldl_fixed _ _ _ (fun _ _ => ?_)).trans ?_) | (with_reducible refine (foldl_pair_fixed _ _ _ (fun _ _ => ?_)).trans ?_) | dsimp only | (simp_all; done))

@[simp] theorem State.deliverFrom_fixed (s : State) (ring opcode result : Nat) (bytes : List Byte) (due : DueWhen) (x0 : Nat) : (State.deliverFrom s ring opcode result bytes due x0).1.fixed = s.fixed := by
  induction x0 generalizing s ring opcode result bytes due with
  | zero => simp [State.deliverFrom]
  | succ n ih =>
    unfold State.deliverFrom
    repeat' (first | (simp only [↓ih, ↓State.addDue_fixed, ↓mk_fixed, ↓ite_fixed, ite_self, ↓st_ite]; done) | split | (simp only [↓ih, ↓State.addDue_fixed, ↓mk_fixed, ↓ite_fixed, ite_self, ↓st_ite]; split) | (simp only [↓ih, ↓State.addDue_fixed, ↓mk_fixed, ↓ite_fixed, ite_self, ↓st_ite]) | (with_reducible refine (foldl_fixed _ _ _ (fun _ _ => ?_)).trans ?_) | (with_reducible refine (foldl_pair_fixed _ _ _ (fun _ _ => ?_)).trans ?_) | dsimp only | (simp_all; done))

@[simp] theorem State.deliver_fixed (s : State) (ring opcode result : Nat) (bytes : List Byte) (due : DueWhen) : (State.deliver s ring opcode result bytes due).1.fixed = s.fixed := by
  unfold State.deliver
  repeat' (first | (simp only [↓State.deliverFrom_fixed, ↓State.handOut_fixed, ↓mk_fixed, ↓ite_fixed, ite_self, ↓st_ite]; done) | split | (simp only [↓State.deliverFrom_fixed, ↓State.handOut_fixed, ↓mk_fixed, ↓ite_fixed, ite_self, ↓st_ite]; split) | (simp only [↓State.deliverFrom_fixed, ↓State.handOut_fixed, ↓mk_fixed, ↓ite_fixed, ite_self, ↓st_ite]) | (simp only [pair_fixed ‹State.deliverFrom _ _ _ _ _ _ _  = (_, _)› (State.deliverFrom_fixed _ _ _ _ _ _ _ ), ↓State.deliverFrom_fixed, ↓State.handOut_fixed, ↓mk_fixed, ↓ite_fixed, ite_self, ↓st_ite]) | (with_reducible refine (foldl_fixed _ _ _ (fun _ _ => ?_)).trans ?_) | (with_reducible refine (foldl_pair_fixed _ _ _ (fun _ _ => ?_)).trans ?_) | dsimp only | (simp_all; done))

end Sys2Proof.Machine
end

