-- ==== Sys2Proof/Laws/FixedMemCheck.lean ====
section
/-! SUPPORT. What the operations of Machine/MemCheck.lean leave alone (Laws/Fixed.lean). -/

set_option linter.all false

namespace Sys2Proof.Machine

open Sys2Proof

@[simp] theorem State.noteCorrected_fixed (s : State) (m addr info : Nat) : (State.noteCorrected s m addr info).fixed = s.fixed := by
  unfold State.noteCorrected
  repeat' (first | (simp only [↓State.count_fixed, ↓State.record_fixed, ↓State.setMem_fixed, ↓State.setNum_fixed, ↓mk_fixed, ↓ite_fixed, ite_self, ↓st_ite]; done) | split | (simp only [↓State.count_fixed, ↓State.record_fixed, ↓State.setMem_fixed, ↓State.setNum_fixed, ↓mk_fixed, ↓ite_fixed, ite_self, ↓st_ite]; split) | (simp only [↓State.count_fixed, ↓State.record_fixed, ↓State.setMem_fixed, ↓State.setNum_fixed, ↓mk_fixed, ↓ite_fixed, ite_self, ↓st_ite]) | (with_reducible refine (foldl_fixed _ _ _ (fun _ _ => ?_)).trans ?_) | (with_reducible refine (foldl_pair_fixed _ _ _ (fun _ _ => ?_)).trans ?_) | dsimp only | (simp_all; done))

@[simp] theorem State.noteUncorr_fixed (s : State) (m addr who : Nat) : (State.noteUncorr s m addr who).fixed = s.fixed := by
  unfold State.noteUncorr
  repeat' (first | (simp only [↓State.count_fixed, ↓State.put_fixed, ↓State.record_fixed, ↓State.setNum_fixed, ↓mk_fixed, ↓ite_fixed, ite_self, ↓st_ite]; done) | split | (simp only [↓State.count_fixed, ↓State.put_fixed, ↓State.record_fixed, ↓State.setNum_fixed, ↓mk_fixed, ↓ite_fixed, ite_self, ↓st_ite]; split) | (simp only [↓State.count_fixed, ↓State.put_fixed, ↓State.record_fixed, ↓State.setNum_fixed, ↓mk_fixed, ↓ite_fixed, ite_self, ↓st_ite]) | (with_reducible refine (foldl_fixed _ _ _ (fun _ _ => ?_)).trans ?_) | (with_reducible refine (foldl_pair_fixed _ _ _ (fun _ _ => ?_)).trans ?_) | dsimp only | (simp_all; done))

@[simp] theorem State.checkRead_fixed (s : State) (m : Nat) (found : List (Nat × ScrubRes)) : (State.checkRead s m found).1.fixed = s.fixed := by
  unfold State.checkRead
  repeat' (first | (simp only [↓State.noteCorrected_fixed, ↓mk_fixed, ↓ite_fixed, ite_self, ↓st_ite]; done) | split | (simp only [↓State.noteCorrected_fixed, ↓mk_fixed, ↓ite_fixed, ite_self, ↓st_ite]; split) | (simp only [↓State.noteCorrected_fixed, ↓mk_fixed, ↓ite_fixed, ite_self, ↓st_ite]) | (with_reducible refine (foldl_fixed _ _ _ (fun _ _ => ?_)).trans ?_) | (with_reducible refine (foldl_pair_fixed _ _ _ (fun _ _ => ?_)).trans ?_) | dsimp only | (simp_all; done))

end Sys2Proof.Machine
end

