-- ==== Sys2Proof/Laws/FixedTime.lean ====
section
/-! SUPPORT. What the operations of Machine/Time.lean leave alone (Laws/Fixed.lean). -/

set_option linter.all false

namespace Sys2Proof.Machine

open Sys2Proof

@[simp] theorem State.noteErr_fixed (s : State) (src : Nat) (e : Int) : (State.noteErr s src e).fixed = s.fixed := by
  unfold State.noteErr
  repeat' (first | (simp only [↓State.setNum_fixed, ↓State.setTim_fixed, ↓mk_fixed, ↓ite_fixed, ite_self, ↓st_ite]; done) | split | (simp only [↓State.setNum_fixed, ↓State.setTim_fixed, ↓mk_fixed, ↓ite_fixed, ite_self, ↓st_ite]; split) | (simp only [↓State.setNum_fixed, ↓State.setTim_fixed, ↓mk_fixed, ↓ite_fixed, ite_self, ↓st_ite]) | (with_reducible refine (foldl_fixed _ _ _ (fun _ _ => ?_)).trans ?_) | (with_reducible refine (foldl_pair_fixed _ _ _ (fun _ _ => ?_)).trans ?_) | dsimp only | (simp_all; done))

@[simp] theorem State.dropFar_fixed (s : State) (src : Nat) : (State.dropFar s src).fixed = s.fixed := by
  unfold State.dropFar
  repeat' (first | (simp only [↓State.put_fixed, ↓State.setTim_fixed, ↓mk_fixed, ↓ite_fixed, ite_self, ↓st_ite]; done) | split | (simp only [↓State.put_fixed, ↓State.setTim_fixed, ↓mk_fixed, ↓ite_fixed, ite_self, ↓st_ite]; split) | (simp only [↓State.put_fixed, ↓State.setTim_fixed, ↓mk_fixed, ↓ite_fixed, ite_self, ↓st_ite]) | (with_reducible refine (foldl_fixed _ _ _ (fun _ _ => ?_)).trans ?_) | (with_reducible refine (foldl_pair_fixed _ _ _ (fun _ _ => ?_)).trans ?_) | dsimp only | (simp_all; done))

@[simp] theorem State.startSlew_fixed (s : State) (e : Int) : (State.startSlew s e).fixed = s.fixed := by
  unfold State.startSlew
  repeat' (first | (simp only [↓State.put_fixed, ↓State.record_fixed, ↓State.setTim_fixed, ↓mk_fixed, ↓ite_fixed, ite_self, ↓st_ite]; done) | split | (simp only [↓State.put_fixed, ↓State.record_fixed, ↓State.setTim_fixed, ↓mk_fixed, ↓ite_fixed, ite_self, ↓st_ite]; split) | (simp only [↓State.put_fixed, ↓State.record_fixed, ↓State.setTim_fixed, ↓mk_fixed, ↓ite_fixed, ite_self, ↓st_ite]) | (with_reducible refine (foldl_fixed _ _ _ (fun _ _ => ?_)).trans ?_) | (with_reducible refine (foldl_pair_fixed _ _ _ (fun _ _ => ?_)).trans ?_) | dsimp only | (simp_all; done))

@[simp] theorem State.slewTb0_fixed (s : State) (e : Int) : (State.slewTb0 s e).fixed = s.fixed := by
  unfold State.slewTb0
  repeat' (first | (simp only [↓State.setTim_fixed, ↓State.startSlew_fixed, ↓mk_fixed, ↓ite_fixed, ite_self, ↓st_ite]; done) | split | (simp only [↓State.setTim_fixed, ↓State.startSlew_fixed, ↓mk_fixed, ↓ite_fixed, ite_self, ↓st_ite]; split) | (simp only [↓State.setTim_fixed, ↓State.startSlew_fixed, ↓mk_fixed, ↓ite_fixed, ite_self, ↓st_ite]) | (with_reducible refine (foldl_fixed _ _ _ (fun _ _ => ?_)).trans ?_) | (with_reducible refine (foldl_pair_fixed _ _ _ (fun _ _ => ?_)).trans ?_) | dsimp only | (simp_all; done))

@[simp] theorem State.steerOsc_fixed (s : State) : (State.steerOsc s).fixed = s.fixed := by
  unfold State.steerOsc
  repeat' (first | (simp only [↓State.drawn_fixed, ↓State.put_fixed, ↓State.setTim_fixed, ↓mk_fixed, ↓ite_fixed, ite_self, ↓st_ite]; done) | split | (simp only [↓State.drawn_fixed, ↓State.put_fixed, ↓State.setTim_fixed, ↓mk_fixed, ↓ite_fixed, ite_self, ↓st_ite]; split) | (simp only [↓State.drawn_fixed, ↓State.put_fixed, ↓State.setTim_fixed, ↓mk_fixed, ↓ite_fixed, ite_self, ↓st_ite]) | (with_reducible refine (foldl_fixed _ _ _ (fun _ _ => ?_)).trans ?_) | (with_reducible refine (foldl_pair_fixed _ _ _ (fun _ _ => ?_)).trans ?_) | dsimp only | (simp_all; done))

@[simp] theorem State.enterHoldover_fixed (s : State) : (State.enterHoldover s).fixed = s.fixed := by
  unfold State.enterHoldover
  repeat' (first | (simp only [↓State.put_fixed, ↓State.record_fixed, ↓State.setNum_fixed, ↓State.setTim_fixed, ↓mk_fixed, ↓ite_fixed, ite_self, ↓st_ite]; done) | split | (simp only [↓State.put_fixed, ↓State.record_fixed, ↓State.setNum_fixed, ↓State.setTim_fixed, ↓mk_fixed, ↓ite_fixed, ite_self, ↓st_ite]; split) | (simp only [↓State.put_fixed, ↓State.record_fixed, ↓State.setNum_fixed, ↓State.setTim_fixed, ↓mk_fixed, ↓ite_fixed, ite_self, ↓st_ite]) | (with_reducible refine (foldl_fixed _ _ _ (fun _ _ => ?_)).trans ?_) | (with_reducible refine (foldl_pair_fixed _ _ _ (fun _ _ => ?_)).trans ?_) | dsimp only | (simp_all; done))

@[simp] theorem State.endHoldover_fixed (s : State) (src : Nat) (e : Int) : (State.endHoldover s src e).fixed = s.fixed := by
  unfold State.endHoldover
  repeat' (first | (simp only [↓State.put_fixed, ↓State.record_fixed, ↓State.setTim_fixed, ↓State.slewTb0_fixed, ↓State.steerOsc_fixed, ↓mk_fixed, ↓ite_fixed, ite_self, ↓st_ite]; done) | split | (simp only [↓State.put_fixed, ↓State.record_fixed, ↓State.setTim_fixed, ↓State.slewTb0_fixed, ↓State.steerOsc_fixed, ↓mk_fixed, ↓ite_fixed, ite_self, ↓st_ite]; split) | (simp only [↓State.put_fixed, ↓State.record_fixed, ↓State.setTim_fixed, ↓State.slewTb0_fixed, ↓State.steerOsc_fixed, ↓mk_fixed, ↓ite_fixed, ite_self, ↓st_ite]) | (with_reducible refine (foldl_fixed _ _ _ (fun _ _ => ?_)).trans ?_) | (with_reducible refine (foldl_pair_fixed _ _ _ (fun _ _ => ?_)).trans ?_) | dsimp only | (simp_all; done))

@[simp] theorem State.returnSrc_fixed (s : State) (src : Nat) (e : Int) (jumped : Bool) : (State.returnSrc s src e jumped).fixed = s.fixed := by
  unfold State.returnSrc
  repeat' (first | (simp only [↓State.dropFar_fixed, ↓State.endHoldover_fixed, ↓State.noteErr_fixed, ↓State.put_fixed, ↓State.record_fixed, ↓State.setTim_fixed, ↓mk_fixed, ↓ite_fixed, ite_self, ↓st_ite]; done) | split | (simp only [↓State.dropFar_fixed, ↓State.endHoldover_fixed, ↓State.noteErr_fixed, ↓State.put_fixed, ↓State.record_fixed, ↓State.setTim_fixed, ↓mk_fixed, ↓ite_fixed, ite_self, ↓st_ite]; split) | (simp only [↓State.dropFar_fixed, ↓State.endHoldover_fixed, ↓State.noteErr_fixed, ↓State.put_fixed, ↓State.record_fixed, ↓State.setTim_fixed, ↓mk_fixed, ↓ite_fixed, ite_self, ↓st_ite]) | (with_reducible refine (foldl_fixed _ _ _ (fun _ _ => ?_)).trans ?_) | (with_reducible refine (foldl_pair_fixed _ _ _ (fun _ _ => ?_)).trans ?_) | dsimp only | (simp_all; done))

@[simp] theorem State.tb0Offer_fixed (s : State) (src : Nat) (e : Int) : (State.tb0Offer s src e).fixed = s.fixed := by
  unfold State.tb0Offer
  repeat' (first | (simp only [↓State.enterHoldover_fixed, ↓State.noteErr_fixed, ↓State.put_fixed, ↓State.record_fixed, ↓State.returnSrc_fixed, ↓State.slewTb0_fixed, ↓State.steerOsc_fixed, ↓mk_fixed, ↓ite_fixed, ite_self, ↓st_ite]; done) | split | (simp only [↓State.enterHoldover_fixed, ↓State.noteErr_fixed, ↓State.put_fixed, ↓State.record_fixed, ↓State.returnSrc_fixed, ↓State.slewTb0_fixed, ↓State.steerOsc_fixed, ↓mk_fixed, ↓ite_fixed, ite_self, ↓st_ite]; split) | (simp only [↓State.enterHoldover_fixed, ↓State.noteErr_fixed, ↓State.put_fixed, ↓State.record_fixed, ↓State.returnSrc_fixed, ↓State.slewTb0_fixed, ↓State.steerOsc_fixed, ↓mk_fixed, ↓ite_fixed, ite_self, ↓st_ite]) | (with_reducible refine (foldl_fixed _ _ _ (fun _ _ => ?_)).trans ?_) | (with_reducible refine (foldl_pair_fixed _ _ _ (fun _ _ => ?_)).trans ?_) | dsimp only | (simp_all; done))

@[simp] theorem State.anchorToMate_fixed (s : State) : (State.anchorToMate s).fixed = s.fixed := by
  unfold State.anchorToMate
  repeat' (first | (simp only [↓State.put_fixed, ↓State.record_fixed, ↓State.setTim_fixed, ↓mk_fixed, ↓ite_fixed, ite_self, ↓st_ite]; done) | split | (simp only [↓State.put_fixed, ↓State.record_fixed, ↓State.setTim_fixed, ↓mk_fixed, ↓ite_fixed, ite_self, ↓st_ite]; split) | (simp only [↓State.put_fixed, ↓State.record_fixed, ↓State.setTim_fixed, ↓mk_fixed, ↓ite_fixed, ite_self, ↓st_ite]) | (with_reducible refine (foldl_fixed _ _ _ (fun _ _ => ?_)).trans ?_) | (with_reducible refine (foldl_pair_fixed _ _ _ (fun _ _ => ?_)).trans ?_) | dsimp only | (simp_all; done))

@[simp] theorem execTb0Holdover_fixed (s : State) : (after (execTb0Holdover s) s).fixed = s.fixed := by
  unfold execTb0Holdover
  repeat (first | rw [after_next] | rw [after_ite] | fail)
  repeat' (first | (simp only [↓State.enterHoldover_fixed, ↓State.put_fixed, ↓State.setTim_fixed, ↓mk_fixed, ↓ite_fixed, ite_self, ↓st_ite]; done) | split | (simp only [↓State.enterHoldover_fixed, ↓State.put_fixed, ↓State.setTim_fixed, ↓mk_fixed, ↓ite_fixed, ite_self, ↓st_ite]; split) | (simp only [↓State.enterHoldover_fixed, ↓State.put_fixed, ↓State.setTim_fixed, ↓mk_fixed, ↓ite_fixed, ite_self, ↓st_ite]) | (with_reducible refine (foldl_fixed _ _ _ (fun _ _ => ?_)).trans ?_) | (with_reducible refine (foldl_pair_fixed _ _ _ (fun _ _ => ?_)).trans ?_) | dsimp only | (simp_all; done))

@[simp] theorem State.showHoldover_fixed (s : State) : (State.showHoldover s).fixed = s.fixed := by
  unfold State.showHoldover
  repeat' (first | (simp only [↓State.setNum_fixed, ↓mk_fixed, ↓ite_fixed, ite_self, ↓st_ite]; done) | split | (simp only [↓State.setNum_fixed, ↓mk_fixed, ↓ite_fixed, ite_self, ↓st_ite]; split) | (simp only [↓State.setNum_fixed, ↓mk_fixed, ↓ite_fixed, ite_self, ↓st_ite]) | (with_reducible refine (foldl_fixed _ _ _ (fun _ _ => ?_)).trans ?_) | (with_reducible refine (foldl_pair_fixed _ _ _ (fun _ _ => ?_)).trans ?_) | dsimp only | (simp_all; done))

@[simp] theorem execHoldoverLimit_fixed (s : State) : (after (execHoldoverLimit s) s).fixed = s.fixed := by
  unfold execHoldoverLimit
  repeat (first | rw [after_next] | rw [after_ite] | fail)
  repeat' (first | (simp only [↓State.put_fixed, ↓State.record_fixed, ↓State.setNum_fixed, ↓mk_fixed, ↓ite_fixed, ite_self, ↓st_ite]; done) | split | (simp only [↓State.put_fixed, ↓State.record_fixed, ↓State.setNum_fixed, ↓mk_fixed, ↓ite_fixed, ite_self, ↓st_ite]; split) | (simp only [↓State.put_fixed, ↓State.record_fixed, ↓State.setNum_fixed, ↓mk_fixed, ↓ite_fixed, ite_self, ↓st_ite]) | (with_reducible refine (foldl_fixed _ _ _ (fun _ _ => ?_)).trans ?_) | (with_reducible refine (foldl_pair_fixed _ _ _ (fun _ _ => ?_)).trans ?_) | dsimp only | (simp_all; done))

@[simp] theorem execTb0SourceReturn_fixed (src : Nat) (err : Int) (s : State) : (after (execTb0SourceReturn src err s) s).fixed = s.fixed := by
  unfold execTb0SourceReturn
  repeat (first | rw [after_next] | rw [after_ite] | fail)
  repeat' (first | (simp only [↓State.tb0Offer_fixed, ↓mk_fixed, ↓ite_fixed, ite_self, ↓st_ite]; done) | split | (simp only [↓State.tb0Offer_fixed, ↓mk_fixed, ↓ite_fixed, ite_self, ↓st_ite]; split) | (simp only [↓State.tb0Offer_fixed, ↓mk_fixed, ↓ite_fixed, ite_self, ↓st_ite]) | (with_reducible refine (foldl_fixed _ _ _ (fun _ _ => ?_)).trans ?_) | (with_reducible refine (foldl_pair_fixed _ _ _ (fun _ _ => ?_)).trans ?_) | dsimp only | (simp_all; done))

@[simp] theorem execTb0Accept_fixed (value : Word) (s : State) : (after (execTb0Accept value s) s).fixed = s.fixed := by
  unfold execTb0Accept
  repeat (first | rw [after_next] | rw [after_ite] | fail)
  repeat' (first | (simp only [↓State.endHoldover_fixed, ↓mk_fixed, ↓ite_fixed, ite_self, ↓st_ite]; done) | split | (simp only [↓State.endHoldover_fixed, ↓mk_fixed, ↓ite_fixed, ite_self, ↓st_ite]; split) | (simp only [↓State.endHoldover_fixed, ↓mk_fixed, ↓ite_fixed, ite_self, ↓st_ite]) | (with_reducible refine (foldl_fixed _ _ _ (fun _ _ => ?_)).trans ?_) | (with_reducible refine (foldl_pair_fixed _ _ _ (fun _ _ => ?_)).trans ?_) | dsimp only | (simp_all; done))

@[simp] theorem State.moveTb1_fixed (s : State) (d : Int) : (State.moveTb1 s d).fixed = s.fixed := by
  unfold State.moveTb1
  repeat' (first | (simp only [↓State.setNum64_fixed, ↓mk_fixed, ↓ite_fixed, ite_self, ↓st_ite]; done) | split | (simp only [↓State.setNum64_fixed, ↓mk_fixed, ↓ite_fixed, ite_self, ↓st_ite]; split) | (simp only [↓State.setNum64_fixed, ↓mk_fixed, ↓ite_fixed, ite_self, ↓st_ite]) | (with_reducible refine (foldl_fixed _ _ _ (fun _ _ => ?_)).trans ?_) | (with_reducible refine (foldl_pair_fixed _ _ _ (fun _ _ => ?_)).trans ?_) | dsimp only | (simp_all; done))

@[simp] theorem State.setTb1State_fixed (s : State) (st port : Nat) : (State.setTb1State s st port).fixed = s.fixed := by
  unfold State.setTb1State
  repeat' (first | (simp only [↓State.put_fixed, ↓State.record_fixed, ↓mk_fixed, ↓ite_fixed, ite_self, ↓st_ite]; done) | split | (simp only [↓State.put_fixed, ↓State.record_fixed, ↓mk_fixed, ↓ite_fixed, ite_self, ↓st_ite]; split) | (simp only [↓State.put_fixed, ↓State.record_fixed, ↓mk_fixed, ↓ite_fixed, ite_self, ↓st_ite]) | (with_reducible refine (foldl_fixed _ _ _ (fun _ _ => ?_)).trans ?_) | (with_reducible refine (foldl_pair_fixed _ _ _ (fun _ _ => ?_)).trans ?_) | dsimp only | (simp_all; done))

@[simp] theorem State.ptpServo_fixed (s : State) (port : Nat) (offset : Int) : (State.ptpServo s port offset).1.fixed = s.fixed := by
  unfold State.ptpServo
  repeat' (first | (simp only [↓State.count_fixed, ↓State.moveTb1_fixed, ↓State.record_fixed, ↓State.setTb1State_fixed, ↓State.setTim_fixed, ↓mk_fixed, ↓ite_fixed, ite_self, ↓st_ite]; done) | split | (simp only [↓State.count_fixed, ↓State.moveTb1_fixed, ↓State.record_fixed, ↓State.setTb1State_fixed, ↓State.setTim_fixed, ↓mk_fixed, ↓ite_fixed, ite_self, ↓st_ite]; split) | (simp only [↓State.count_fixed, ↓State.moveTb1_fixed, ↓State.record_fixed, ↓State.setTb1State_fixed, ↓State.setTim_fixed, ↓mk_fixed, ↓ite_fixed, ite_self, ↓st_ite]) | (with_reducible refine (foldl_fixed _ _ _ (fun _ _ => ?_)).trans ?_) | (with_reducible refine (foldl_pair_fixed _ _ _ (fun _ _ => ?_)).trans ?_) | dsimp only | (simp_all; done))

@[simp] theorem State.slewTb1_fixed (s : State) : (State.slewTb1 s).fixed = s.fixed := by
  unfold State.slewTb1
  repeat' (first | (simp only [↓State.moveTb1_fixed, ↓State.setTim_fixed, ↓mk_fixed, ↓ite_fixed, ite_self, ↓st_ite]; done) | split | (simp only [↓State.moveTb1_fixed, ↓State.setTim_fixed, ↓mk_fixed, ↓ite_fixed, ite_self, ↓st_ite]; split) | (simp only [↓State.moveTb1_fixed, ↓State.setTim_fixed, ↓mk_fixed, ↓ite_fixed, ite_self, ↓st_ite]) | (with_reducible refine (foldl_fixed _ _ _ (fun _ _ => ?_)).trans ?_) | (with_reducible refine (foldl_pair_fixed _ _ _ (fun _ _ => ?_)).trans ?_) | dsimp only | (simp_all; done))

@[simp] theorem State.rebaseTb3_fixed (s : State) (now : Nat) : (State.rebaseTb3 s now).fixed = s.fixed := by
  unfold State.rebaseTb3
  repeat' (first | (simp only [↓State.setTim_fixed, ↓mk_fixed, ↓ite_fixed, ite_self, ↓st_ite]; done) | split | (simp only [↓State.setTim_fixed, ↓mk_fixed, ↓ite_fixed, ite_self, ↓st_ite]; split) | (simp only [↓State.setTim_fixed, ↓mk_fixed, ↓ite_fixed, ite_self, ↓st_ite]) | (with_reducible refine (foldl_fixed _ _ _ (fun _ _ => ?_)).trans ?_) | (with_reducible refine (foldl_pair_fixed _ _ _ (fun _ _ => ?_)).trans ?_) | dsimp only | (simp_all; done))

@[simp] theorem execTb3Load_fixed (value : Word) (atNs : Nat) (s : State) : (after (execTb3Load value atNs s) s).fixed = s.fixed := by
  unfold execTb3Load
  repeat (first | rw [after_next] | rw [after_ite] | fail)
  repeat' (first | (simp only [↓State.setTim_fixed, ↓mk_fixed, ↓ite_fixed, ite_self, ↓st_ite]; done) | split | (simp only [↓State.setTim_fixed, ↓mk_fixed, ↓ite_fixed, ite_self, ↓st_ite]; split) | (simp only [↓State.setTim_fixed, ↓mk_fixed, ↓ite_fixed, ite_self, ↓st_ite]) | (with_reducible refine (foldl_fixed _ _ _ (fun _ _ => ?_)).trans ?_) | (with_reducible refine (foldl_pair_fixed _ _ _ (fun _ _ => ?_)).trans ?_) | dsimp only | (simp_all; done))

@[simp] theorem execTb3ReadLatch_fixed (atNs : Nat) (s : State) : (after (execTb3ReadLatch atNs s) s).fixed = s.fixed := by
  unfold execTb3ReadLatch
  repeat (first | rw [after_next] | rw [after_ite] | fail)
  repeat' (first | (simp only [↓State.setNum64_fixed, ↓State.setNum_fixed, ↓mk_fixed, ↓ite_fixed, ite_self, ↓st_ite]; done) | split | (simp only [↓State.setNum64_fixed, ↓State.setNum_fixed, ↓mk_fixed, ↓ite_fixed, ite_self, ↓st_ite]; split) | (simp only [↓State.setNum64_fixed, ↓State.setNum_fixed, ↓mk_fixed, ↓ite_fixed, ite_self, ↓st_ite]) | (with_reducible refine (foldl_fixed _ _ _ (fun _ _ => ?_)).trans ?_) | (with_reducible refine (foldl_pair_fixed _ _ _ (fun _ _ => ?_)).trans ?_) | dsimp only | (simp_all; done))

@[simp] theorem State.ppsEdge_fixed (s : State) (tb0 : Nat) (good : Bool) : (State.ppsEdge s tb0 good).fixed = s.fixed := by
  unfold State.ppsEdge
  repeat' (first | (simp only [↓State.put_fixed, ↓State.setNum64_fixed, ↓State.setNum_fixed, ↓State.setTim_fixed, ↓State.tb0Offer_fixed, ↓mk_fixed, ↓ite_fixed, ite_self, ↓st_ite]; done) | split | (simp only [↓State.put_fixed, ↓State.setNum64_fixed, ↓State.setNum_fixed, ↓State.setTim_fixed, ↓State.tb0Offer_fixed, ↓mk_fixed, ↓ite_fixed, ite_self, ↓st_ite]; split) | (simp only [↓State.put_fixed, ↓State.setNum64_fixed, ↓State.setNum_fixed, ↓State.setTim_fixed, ↓State.tb0Offer_fixed, ↓mk_fixed, ↓ite_fixed, ite_self, ↓st_ite]) | (with_reducible refine (foldl_fixed _ _ _ (fun _ _ => ?_)).trans ?_) | (with_reducible refine (foldl_pair_fixed _ _ _ (fun _ _ => ?_)).trans ?_) | dsimp only | (simp_all; done))

@[simp] theorem execPpsInEdge_fixed (tb0 : Nat) (s : State) : (after (execPpsInEdge tb0 s) s).fixed = s.fixed := by
  unfold execPpsInEdge
  repeat (first | rw [after_next] | rw [after_ite] | fail)
  repeat' (first | (simp only [↓State.ppsEdge_fixed, ↓State.record_fixed, ↓mk_fixed, ↓ite_fixed, ite_self, ↓st_ite]; done) | split | (simp only [↓State.ppsEdge_fixed, ↓State.record_fixed, ↓mk_fixed, ↓ite_fixed, ite_self, ↓st_ite]; split) | (simp only [↓State.ppsEdge_fixed, ↓State.record_fixed, ↓mk_fixed, ↓ite_fixed, ite_self, ↓st_ite]) | (with_reducible refine (foldl_fixed _ _ _ (fun _ _ => ?_)).trans ?_) | (with_reducible refine (foldl_pair_fixed _ _ _ (fun _ _ => ?_)).trans ?_) | dsimp only | (simp_all; done))

@[simp] theorem State.ppsWatch_fixed (s : State) : (State.ppsWatch s).fixed = s.fixed := by
  unfold State.ppsWatch
  repeat' (first | (simp only [↓State.put_fixed, ↓mk_fixed, ↓ite_fixed, ite_self, ↓st_ite]; done) | split | (simp only [↓State.put_fixed, ↓mk_fixed, ↓ite_fixed, ite_self, ↓st_ite]; split) | (simp only [↓State.put_fixed, ↓mk_fixed, ↓ite_fixed, ite_self, ↓st_ite]) | (with_reducible refine (foldl_fixed _ _ _ (fun _ _ => ?_)).trans ?_) | (with_reducible refine (foldl_pair_fixed _ _ _ (fun _ _ => ?_)).trans ?_) | dsimp only | (simp_all; done))

@[simp] theorem execPpsOutPulse_fixed (s : State) : (after (execPpsOutPulse s) s).fixed = s.fixed := by
  unfold execPpsOutPulse
  repeat (first | rw [after_next] | rw [after_ite] | fail)
  repeat' (first | (simp only [↓State.emit_fixed, ↓mk_fixed, ↓ite_fixed, ite_self, ↓st_ite]; done) | split | (simp only [↓State.emit_fixed, ↓mk_fixed, ↓ite_fixed, ite_self, ↓st_ite]; split) | (simp only [↓State.emit_fixed, ↓mk_fixed, ↓ite_fixed, ite_self, ↓st_ite]) | (with_reducible refine (foldl_fixed _ _ _ (fun _ _ => ?_)).trans ?_) | (with_reducible refine (foldl_pair_fixed _ _ _ (fun _ _ => ?_)).trans ?_) | dsimp only | (simp_all; done))

@[simp] theorem State.timeEdge_fixed (s : State) : (State.timeEdge s).fixed = s.fixed := by
  unfold State.timeEdge
  repeat' (first | (simp only [↓State.ppsWatch_fixed, ↓State.put_fixed, ↓State.setTim_fixed, ↓State.showHoldover_fixed, ↓State.slewTb1_fixed, ↓State.startSlew_fixed, ↓mk_fixed, ↓ite_fixed, ite_self, ↓st_ite]; done) | split | (simp only [↓State.ppsWatch_fixed, ↓State.put_fixed, ↓State.setTim_fixed, ↓State.showHoldover_fixed, ↓State.slewTb1_fixed, ↓State.startSlew_fixed, ↓mk_fixed, ↓ite_fixed, ite_self, ↓st_ite]; split) | (simp only [↓State.ppsWatch_fixed, ↓State.put_fixed, ↓State.setTim_fixed, ↓State.showHoldover_fixed, ↓State.slewTb1_fixed, ↓State.startSlew_fixed, ↓mk_fixed, ↓ite_fixed, ite_self, ↓st_ite]) | (with_reducible refine (foldl_fixed _ _ _ (fun _ _ => ?_)).trans ?_) | (with_reducible refine (foldl_pair_fixed _ _ _ (fun _ _ => ?_)).trans ?_) | dsimp only | (simp_all; done))

@[simp] theorem State.rebaseTime_fixed (s before : State) : (State.rebaseTime s before).fixed = s.fixed := by
  unfold State.rebaseTime
  repeat' (first | (simp only [↓State.moveTb1_fixed, ↓State.setTim_fixed, ↓mk_fixed, ↓ite_fixed, ite_self, ↓st_ite]; done) | split | (simp only [↓State.moveTb1_fixed, ↓State.setTim_fixed, ↓mk_fixed, ↓ite_fixed, ite_self, ↓st_ite]; split) | (simp only [↓State.moveTb1_fixed, ↓State.setTim_fixed, ↓mk_fixed, ↓ite_fixed, ite_self, ↓st_ite]) | (with_reducible refine (foldl_fixed _ _ _ (fun _ _ => ?_)).trans ?_) | (with_reducible refine (foldl_pair_fixed _ _ _ (fun _ _ => ?_)).trans ?_) | dsimp only | (simp_all; done))

@[simp] theorem State.pairCompare_fixed (s : State) (diff : Int) : (State.pairCompare s diff).fixed = s.fixed := by
  unfold State.pairCompare
  repeat' (first | (simp only [↓State.record_fixed, ↓State.setTim_fixed, ↓mk_fixed, ↓ite_fixed, ite_self, ↓st_ite]; done) | split | (simp only [↓State.record_fixed, ↓State.setTim_fixed, ↓mk_fixed, ↓ite_fixed, ite_self, ↓st_ite]; split) | (simp only [↓State.record_fixed, ↓State.setTim_fixed, ↓mk_fixed, ↓ite_fixed, ite_self, ↓st_ite]) | (with_reducible refine (foldl_fixed _ _ _ (fun _ _ => ?_)).trans ?_) | (with_reducible refine (foldl_pair_fixed _ _ _ (fun _ _ => ?_)).trans ?_) | dsimp only | (simp_all; done))

end Sys2Proof.Machine
end

