-- ==== Sys2Proof/Laws/FixedCistern.lean ====
section
/-! SUPPORT. What the operations of Machine/Cistern.lean leave alone (Laws/Fixed.lean). -/

set_option linter.all false

namespace Sys2Proof.Machine

open Sys2Proof

@[simp] theorem State.showPool_fixed (s : State) (p : Nat) : (State.showPool s p).fixed = s.fixed := by
  unfold State.showPool
  repeat' (first | (simp only [↓State.put_fixed, ↓mk_fixed, ↓ite_fixed, ite_self, ↓st_ite]; done) | split | (simp only [↓State.put_fixed, ↓mk_fixed, ↓ite_fixed, ite_self, ↓st_ite]; split) | (simp only [↓State.put_fixed, ↓mk_fixed, ↓ite_fixed, ite_self, ↓st_ite]) | (with_reducible refine (foldl_fixed _ _ _ (fun _ _ => ?_)).trans ?_) | (with_reducible refine (foldl_pair_fixed _ _ _ (fun _ _ => ?_)).trans ?_) | dsimp only | (simp_all; done))

@[simp] theorem State.takeCell_fixed (s : State) (p : Nat) (x0 : CellCat) : (State.takeCell s p x0).fixed = s.fixed := by
  unfold State.takeCell
  repeat' (first | (simp only [↓State.setNet_fixed, ↓mk_fixed, ↓ite_fixed, ite_self, ↓st_ite]; done) | split | (simp only [↓State.setNet_fixed, ↓mk_fixed, ↓ite_fixed, ite_self, ↓st_ite]; split) | (simp only [↓State.setNet_fixed, ↓mk_fixed, ↓ite_fixed, ite_self, ↓st_ite]) | (with_reducible refine (foldl_fixed _ _ _ (fun _ _ => ?_)).trans ?_) | (with_reducible refine (foldl_pair_fixed _ _ _ (fun _ _ => ?_)).trans ?_) | dsimp only | (simp_all; done))

theorem State.admitCells_fixed (s : State) (p c n : Nat) {t} (h : State.admitCells s p c n = some t) : t.fixed = s.fixed := by
  induction n generalizing s with
  | zero => cases h; rfl
  | succ n ih =>
    unfold State.admitCells at h
    split at h
    · rw [ih _ h, State.takeCell_fixed]
    · cases h

@[simp] theorem State.freeCells_fixed (s : State) (p n : Nat) : (State.freeCells s p n).fixed = s.fixed := by
  unfold State.freeCells
  repeat' (first | (simp only [↓State.setNet_fixed, ↓mk_fixed, ↓ite_fixed, ite_self, ↓st_ite]; done) | split | (simp only [↓State.setNet_fixed, ↓mk_fixed, ↓ite_fixed, ite_self, ↓st_ite]; split) | (simp only [↓State.setNet_fixed, ↓mk_fixed, ↓ite_fixed, ite_self, ↓st_ite]) | (with_reducible refine (foldl_fixed _ _ _ (fun _ _ => ?_)).trans ?_) | (with_reducible refine (foldl_pair_fixed _ _ _ (fun _ _ => ?_)).trans ?_) | dsimp only | (simp_all; done))

theorem State.storeFrame_fixed (s : State) (p cls : Nat) (bytes : List Byte) (verified : Bool) (pcp : Option Nat) {t} (h : State.storeFrame s p cls bytes verified pcp = some t) : t.1.fixed = s.fixed := by
  revert h
  unfold State.storeFrame
  intro h
  repeat' (first | (simp only [↓State.setNet_fixed, ↓State.showPool_fixed, ↓mk_fixed, ↓ite_fixed, ite_self, ↓st_ite]; done) | split | (simp only [↓State.setNet_fixed, ↓State.showPool_fixed, ↓mk_fixed, ↓ite_fixed, ite_self, ↓st_ite]; split) | (simp only [↓State.setNet_fixed, ↓State.showPool_fixed, ↓mk_fixed, ↓ite_fixed, ite_self, ↓st_ite]) | (simp only [State.admitCells_fixed _ _ _ _  ‹State.admitCells _ _ _ _  = some _›, ↓State.setNet_fixed, ↓State.showPool_fixed, ↓mk_fixed, ↓ite_fixed, ite_self, ↓st_ite]) | (with_reducible refine (foldl_fixed _ _ _ (fun _ _ => ?_)).trans ?_) | (with_reducible refine (foldl_pair_fixed _ _ _ (fun _ _ => ?_)).trans ?_) | dsimp only | (split at h) | (cases h; done) | (cases h) | (injection h with h; subst h) | (simp_all; done))

@[simp] theorem State.modFrame_fixed (s : State) (id : Nat) (f : Frame → Frame) : (State.modFrame s id f).fixed = s.fixed := by
  unfold State.modFrame
  repeat' (first | (simp only [↓State.setNet_fixed, ↓mk_fixed, ↓ite_fixed, ite_self, ↓st_ite]; done) | split | (simp only [↓State.setNet_fixed, ↓mk_fixed, ↓ite_fixed, ite_self, ↓st_ite]; split) | (simp only [↓State.setNet_fixed, ↓mk_fixed, ↓ite_fixed, ite_self, ↓st_ite]) | (with_reducible refine (foldl_fixed _ _ _ (fun _ _ => ?_)).trans ?_) | (with_reducible refine (foldl_pair_fixed _ _ _ (fun _ _ => ?_)).trans ?_) | dsimp only | (simp_all; done))

@[simp] theorem State.quarantine_fixed (s : State) (c : Nat) : (State.quarantine s c).fixed = s.fixed := by
  unfold State.quarantine
  repeat' (first | (simp only [↓State.put_fixed, ↓State.record_fixed, ↓State.setNet_fixed, ↓mk_fixed, ↓ite_fixed, ite_self, ↓st_ite]; done) | split | (simp only [↓State.put_fixed, ↓State.record_fixed, ↓State.setNet_fixed, ↓mk_fixed, ↓ite_fixed, ite_self, ↓st_ite]; split) | (simp only [↓State.put_fixed, ↓State.record_fixed, ↓State.setNet_fixed, ↓mk_fixed, ↓ite_fixed, ite_self, ↓st_ite]) | (with_reducible refine (foldl_fixed _ _ _ (fun _ _ => ?_)).trans ?_) | (with_reducible refine (foldl_pair_fixed _ _ _ (fun _ _ => ?_)).trans ?_) | dsimp only | (simp_all; done))

@[simp] theorem State.freeFrame_fixed (s : State) (id : Nat) : (State.freeFrame s id).fixed = s.fixed := by
  unfold State.freeFrame
  repeat' (first | (simp only [↓State.freeCells_fixed, ↓State.quarantine_fixed, ↓State.setNet_fixed, ↓State.showPool_fixed, ↓mk_fixed, ↓ite_fixed, ite_self, ↓st_ite]; done) | split | (simp only [↓State.freeCells_fixed, ↓State.quarantine_fixed, ↓State.setNet_fixed, ↓State.showPool_fixed, ↓mk_fixed, ↓ite_fixed, ite_self, ↓st_ite]; split) | (simp only [↓State.freeCells_fixed, ↓State.quarantine_fixed, ↓State.setNet_fixed, ↓State.showPool_fixed, ↓mk_fixed, ↓ite_fixed, ite_self, ↓st_ite]) | (with_reducible refine (foldl_fixed _ _ _ (fun _ _ => ?_)).trans ?_) | (with_reducible refine (foldl_pair_fixed _ _ _ (fun _ _ => ?_)).trans ?_) | dsimp only | (simp_all; done))

@[simp] theorem State.endCopy_fixed (s : State) (id : Nat) : (State.endCopy s id).fixed = s.fixed := by
  unfold State.endCopy
  repeat' (first | (simp only [↓State.freeFrame_fixed, ↓State.modFrame_fixed, ↓mk_fixed, ↓ite_fixed, ite_self, ↓st_ite]; done) | split | (simp only [↓State.freeFrame_fixed, ↓State.modFrame_fixed, ↓mk_fixed, ↓ite_fixed, ite_self, ↓st_ite]; split) | (simp only [↓State.freeFrame_fixed, ↓State.modFrame_fixed, ↓mk_fixed, ↓ite_fixed, ite_self, ↓st_ite]) | (with_reducible refine (foldl_fixed _ _ _ (fun _ _ => ?_)).trans ?_) | (with_reducible refine (foldl_pair_fixed _ _ _ (fun _ _ => ?_)).trans ?_) | dsimp only | (simp_all; done))

@[simp] theorem State.admitDrop_fixed (s : State) (p : Nat) : (State.admitDrop s p).fixed = s.fixed := by
  unfold State.admitDrop
  repeat' (first | (simp only [↓State.count_fixed, ↓State.record_fixed, ↓State.setNet_fixed, ↓mk_fixed, ↓ite_fixed, ite_self, ↓st_ite]; done) | split | (simp only [↓State.count_fixed, ↓State.record_fixed, ↓State.setNet_fixed, ↓mk_fixed, ↓ite_fixed, ite_self, ↓st_ite]; split) | (simp only [↓State.count_fixed, ↓State.record_fixed, ↓State.setNet_fixed, ↓mk_fixed, ↓ite_fixed, ite_self, ↓st_ite]) | (with_reducible refine (foldl_fixed _ _ _ (fun _ _ => ?_)).trans ?_) | (with_reducible refine (foldl_pair_fixed _ _ _ (fun _ _ => ?_)).trans ?_) | dsimp only | (simp_all; done))

@[simp] theorem State.sendXoff_fixed (s : State) (p classes : Nat) : (State.sendXoff s p classes).fixed = s.fixed := by
  unfold State.sendXoff
  repeat' (first | (simp only [↓State.emit_fixed, ↓State.setNet_fixed, ↓mk_fixed, ↓ite_fixed, ite_self, ↓st_ite]; done) | split | (simp only [↓State.emit_fixed, ↓State.setNet_fixed, ↓mk_fixed, ↓ite_fixed, ite_self, ↓st_ite]; split) | (simp only [↓State.emit_fixed, ↓State.setNet_fixed, ↓mk_fixed, ↓ite_fixed, ite_self, ↓st_ite]) | (with_reducible refine (foldl_fixed _ _ _ (fun _ _ => ?_)).trans ?_) | (with_reducible refine (foldl_pair_fixed _ _ _ (fun _ _ => ?_)).trans ?_) | dsimp only | (simp_all; done))

@[simp] theorem State.pfcClass_fixed (s : State) (p c : Nat) : (State.pfcClass s p c).fixed = s.fixed := by
  unfold State.pfcClass
  repeat' (first | (simp only [↓State.emit_fixed, ↓State.put_fixed, ↓State.record_fixed, ↓State.sendXoff_fixed, ↓mk_fixed, ↓ite_fixed, ite_self, ↓st_ite]; done) | split | (simp only [↓State.emit_fixed, ↓State.put_fixed, ↓State.record_fixed, ↓State.sendXoff_fixed, ↓mk_fixed, ↓ite_fixed, ite_self, ↓st_ite]; split) | (simp only [↓State.emit_fixed, ↓State.put_fixed, ↓State.record_fixed, ↓State.sendXoff_fixed, ↓mk_fixed, ↓ite_fixed, ite_self, ↓st_ite]) | (with_reducible refine (foldl_fixed _ _ _ (fun _ _ => ?_)).trans ?_) | (with_reducible refine (foldl_pair_fixed _ _ _ (fun _ _ => ?_)).trans ?_) | dsimp only | (simp_all; done))

@[simp] theorem State.pausePort_fixed (s : State) (p : Nat) : (State.pausePort s p).fixed = s.fixed := by
  unfold State.pausePort
  repeat' (first | (simp only [↓State.emit_fixed, ↓State.put_fixed, ↓State.record_fixed, ↓State.sendXoff_fixed, ↓mk_fixed, ↓ite_fixed, ite_self, ↓st_ite]; done) | split | (simp only [↓State.emit_fixed, ↓State.put_fixed, ↓State.record_fixed, ↓State.sendXoff_fixed, ↓mk_fixed, ↓ite_fixed, ite_self, ↓st_ite]; split) | (simp only [↓State.emit_fixed, ↓State.put_fixed, ↓State.record_fixed, ↓State.sendXoff_fixed, ↓mk_fixed, ↓ite_fixed, ite_self, ↓st_ite]) | (with_reducible refine (foldl_fixed _ _ _ (fun _ _ => ?_)).trans ?_) | (with_reducible refine (foldl_pair_fixed _ _ _ (fun _ _ => ?_)).trans ?_) | dsimp only | (simp_all; done))

@[simp] theorem State.weighPause_fixed (s : State) (p : Nat) : (State.weighPause s p).fixed = s.fixed := by
  unfold State.weighPause
  repeat' (first | (simp only [↓State.pausePort_fixed, ↓State.pfcClass_fixed, ↓mk_fixed, ↓ite_fixed, ite_self, ↓st_ite]; done) | split | (simp only [↓State.pausePort_fixed, ↓State.pfcClass_fixed, ↓mk_fixed, ↓ite_fixed, ite_self, ↓st_ite]; split) | (simp only [↓State.pausePort_fixed, ↓State.pfcClass_fixed, ↓mk_fixed, ↓ite_fixed, ite_self, ↓st_ite]) | (with_reducible refine (foldl_fixed _ _ _ (fun _ _ => ?_)).trans ?_) | (with_reducible refine (foldl_pair_fixed _ _ _ (fun _ _ => ?_)).trans ?_) | dsimp only | (simp_all; done))

@[simp] theorem execPauseRefresh_fixed (port : Nat) (s : State) : (after (execPauseRefresh port s) s).fixed = s.fixed := by
  unfold execPauseRefresh
  repeat (first | rw [after_next] | rw [after_ite] | fail)
  repeat' (first | (simp only [↓State.sendXoff_fixed, ↓mk_fixed, ↓ite_fixed, ite_self, ↓st_ite]; done) | split | (simp only [↓State.sendXoff_fixed, ↓mk_fixed, ↓ite_fixed, ite_self, ↓st_ite]; split) | (simp only [↓State.sendXoff_fixed, ↓mk_fixed, ↓ite_fixed, ite_self, ↓st_ite]) | (with_reducible refine (foldl_fixed _ _ _ (fun _ _ => ?_)).trans ?_) | (with_reducible refine (foldl_pair_fixed _ _ _ (fun _ _ => ?_)).trans ?_) | dsimp only | (simp_all; done))

@[simp] theorem State.setPaused_fixed (s : State) (p c : Nat) (until' : Option Nat) : (State.setPaused s p c until').fixed = s.fixed := by
  unfold State.setPaused
  repeat' (first | (simp only [↓State.put_fixed, ↓State.setNet_fixed, ↓mk_fixed, ↓ite_fixed, ite_self, ↓st_ite]; done) | split | (simp only [↓State.put_fixed, ↓State.setNet_fixed, ↓mk_fixed, ↓ite_fixed, ite_self, ↓st_ite]; split) | (simp only [↓State.put_fixed, ↓State.setNet_fixed, ↓mk_fixed, ↓ite_fixed, ite_self, ↓st_ite]) | (with_reducible refine (foldl_fixed _ _ _ (fun _ _ => ?_)).trans ?_) | (with_reducible refine (foldl_pair_fixed _ _ _ (fun _ _ => ?_)).trans ?_) | dsimp only | (simp_all; done))

@[simp] theorem execPauseRx_fixed (port : Nat) (pfc : Bool) (classes : Nat) (quanta : List Nat) (atNs : Nat) (s : State) : (after (execPauseRx port pfc classes quanta atNs s) s).fixed = s.fixed := by
  unfold execPauseRx
  repeat (first | rw [after_next] | rw [after_ite] | fail)
  repeat' (first | (simp only [↓State.setPaused_fixed, ↓mk_fixed, ↓ite_fixed, ite_self, ↓st_ite]; done) | split | (simp only [↓State.setPaused_fixed, ↓mk_fixed, ↓ite_fixed, ite_self, ↓st_ite]; split) | (simp only [↓State.setPaused_fixed, ↓mk_fixed, ↓ite_fixed, ite_self, ↓st_ite]) | (with_reducible refine (foldl_fixed _ _ _ (fun _ _ => ?_)).trans ?_) | (with_reducible refine (foldl_pair_fixed _ _ _ (fun _ _ => ?_)).trans ?_) | dsimp only | (simp_all; done))

@[simp] theorem execPauseExpiry_fixed (port cls atNs : Nat) (s : State) : (after (execPauseExpiry port cls atNs s) s).fixed = s.fixed := by
  unfold execPauseExpiry
  repeat (first | rw [after_next] | rw [after_ite] | fail)
  repeat' (first | (simp only [↓State.setPaused_fixed, ↓mk_fixed, ↓ite_fixed, ite_self, ↓st_ite]; done) | split | (simp only [↓State.setPaused_fixed, ↓mk_fixed, ↓ite_fixed, ite_self, ↓st_ite]; split) | (simp only [↓State.setPaused_fixed, ↓mk_fixed, ↓ite_fixed, ite_self, ↓st_ite]) | (with_reducible refine (foldl_fixed _ _ _ (fun _ _ => ?_)).trans ?_) | (with_reducible refine (foldl_pair_fixed _ _ _ (fun _ _ => ?_)).trans ?_) | dsimp only | (simp_all; done))

@[simp] theorem State.setFloatHit_fixed (s : State) (p : Nat) : (State.setFloatHit s p).fixed = s.fixed := by
  unfold State.setFloatHit
  repeat' (first | (simp only [↓State.setNum_fixed, ↓mk_fixed, ↓ite_fixed, ite_self, ↓st_ite]; done) | split | (simp only [↓State.setNum_fixed, ↓mk_fixed, ↓ite_fixed, ite_self, ↓st_ite]; split) | (simp only [↓State.setNum_fixed, ↓mk_fixed, ↓ite_fixed, ite_self, ↓st_ite]) | (with_reducible refine (foldl_fixed _ _ _ (fun _ _ => ?_)).trans ?_) | (with_reducible refine (foldl_pair_fixed _ _ _ (fun _ _ => ?_)).trans ?_) | dsimp only | (simp_all; done))

@[simp] theorem State.setFill_fixed (s : State) (p w : Nat) : (State.setFill s p w).fixed = s.fixed := by
  unfold State.setFill
  repeat' (first | (simp only [↓State.put_fixed, ↓State.record_fixed, ↓State.setFloatHit_fixed, ↓State.setNet_fixed, ↓mk_fixed, ↓ite_fixed, ite_self, ↓st_ite]; done) | split | (simp only [↓State.put_fixed, ↓State.record_fixed, ↓State.setFloatHit_fixed, ↓State.setNet_fixed, ↓mk_fixed, ↓ite_fixed, ite_self, ↓st_ite]; split) | (simp only [↓State.put_fixed, ↓State.record_fixed, ↓State.setFloatHit_fixed, ↓State.setNet_fixed, ↓mk_fixed, ↓ite_fixed, ite_self, ↓st_ite]) | (with_reducible refine (foldl_fixed _ _ _ (fun _ _ => ?_)).trans ?_) | (with_reducible refine (foldl_pair_fixed _ _ _ (fun _ _ => ?_)).trans ?_) | dsimp only | (simp_all; done))

@[simp] theorem execFloatHitClear_fixed (high : Bool) (value : Word) (s : State) : (after (execFloatHitClear high value s) s).fixed = s.fixed := by
  unfold execFloatHitClear
  repeat (first | rw [after_next] | rw [after_ite] | fail)
  repeat' (first | (simp only [↓State.wr_fixed, ↓mk_fixed, ↓ite_fixed, ite_self, ↓st_ite]; done) | split | (simp only [↓State.wr_fixed, ↓mk_fixed, ↓ite_fixed, ite_self, ↓st_ite]; split) | (simp only [↓State.wr_fixed, ↓mk_fixed, ↓ite_fixed, ite_self, ↓st_ite]) | (with_reducible refine (foldl_fixed _ _ _ (fun _ _ => ?_)).trans ?_) | (with_reducible refine (foldl_pair_fixed _ _ _ (fun _ _ => ?_)).trans ?_) | dsimp only | (simp_all; done))

@[simp] theorem execCisternAudit_fixed (s : State) : (after (execCisternAudit s) s).fixed = s.fixed := by
  unfold execCisternAudit
  repeat (first | rw [after_next] | rw [after_ite] | fail)
  repeat' (first | (simp only [↓State.count_fixed, ↓State.put_fixed, ↓State.record_fixed, ↓State.setNet_fixed, ↓mk_fixed, ↓ite_fixed, ite_self, ↓st_ite]; done) | split | (simp only [↓State.count_fixed, ↓State.put_fixed, ↓State.record_fixed, ↓State.setNet_fixed, ↓mk_fixed, ↓ite_fixed, ite_self, ↓st_ite]; split) | (simp only [↓State.count_fixed, ↓State.put_fixed, ↓State.record_fixed, ↓State.setNet_fixed, ↓mk_fixed, ↓ite_fixed, ite_self, ↓st_ite]) | (with_reducible refine (foldl_fixed _ _ _ (fun _ _ => ?_)).trans ?_) | (with_reducible refine (foldl_pair_fixed _ _ _ (fun _ _ => ?_)).trans ?_) | dsimp only | (simp_all; done))

@[simp] theorem execLinkUp_fixed (port : Nat) (s : State) : (after (execLinkUp port s) s).fixed = s.fixed := by
  unfold execLinkUp
  repeat (first | rw [after_next] | rw [after_ite] | fail)
  repeat' (first | (simp only [↓State.put_fixed, ↓State.record_fixed, ↓mk_fixed, ↓ite_fixed, ite_self, ↓st_ite]; done) | split | (simp only [↓State.put_fixed, ↓State.record_fixed, ↓mk_fixed, ↓ite_fixed, ite_self, ↓st_ite]; split) | (simp only [↓State.put_fixed, ↓State.record_fixed, ↓mk_fixed, ↓ite_fixed, ite_self, ↓st_ite]) | (with_reducible refine (foldl_fixed _ _ _ (fun _ _ => ?_)).trans ?_) | (with_reducible refine (foldl_pair_fixed _ _ _ (fun _ _ => ?_)).trans ?_) | dsimp only | (simp_all; done))

@[simp] theorem execLinkDown_fixed (port : Nat) (s : State) : (after (execLinkDown port s) s).fixed = s.fixed := by
  unfold execLinkDown
  repeat (first | rw [after_next] | rw [after_ite] | fail)
  repeat' (first | (simp only [↓State.put_fixed, ↓State.record_fixed, ↓mk_fixed, ↓ite_fixed, ite_self, ↓st_ite]; done) | split | (simp only [↓State.put_fixed, ↓State.record_fixed, ↓mk_fixed, ↓ite_fixed, ite_self, ↓st_ite]; split) | (simp only [↓State.put_fixed, ↓State.record_fixed, ↓mk_fixed, ↓ite_fixed, ite_self, ↓st_ite]) | (with_reducible refine (foldl_fixed _ _ _ (fun _ _ => ?_)).trans ?_) | (with_reducible refine (foldl_pair_fixed _ _ _ (fun _ _ => ?_)).trans ?_) | dsimp only | (simp_all; done))

@[simp] theorem State.mdioCmd_fixed (s : State) (op : Nat) (value : Word) : (State.mdioCmd s op value).fixed = s.fixed := by
  unfold State.mdioCmd
  repeat' (first | (simp only [↓State.setNum_fixed, ↓mk_fixed, ↓ite_fixed, ite_self, ↓st_ite]; done) | split | (simp only [↓State.setNum_fixed, ↓mk_fixed, ↓ite_fixed, ite_self, ↓st_ite]; split) | (simp only [↓State.setNum_fixed, ↓mk_fixed, ↓ite_fixed, ite_self, ↓st_ite]) | (with_reducible refine (foldl_fixed _ _ _ (fun _ _ => ?_)).trans ?_) | (with_reducible refine (foldl_pair_fixed _ _ _ (fun _ _ => ?_)).trans ?_) | dsimp only | (simp_all; done))

@[simp] theorem execMdioAddress_fixed (value : Word) (s : State) : (after (execMdioAddress value s) s).fixed = s.fixed := by
  unfold execMdioAddress
  repeat (first | rw [after_next] | rw [after_ite] | fail)
  repeat' (first | (simp only [↓State.mdioCmd_fixed, ↓mk_fixed, ↓ite_fixed, ite_self, ↓st_ite]; done) | split | (simp only [↓State.mdioCmd_fixed, ↓mk_fixed, ↓ite_fixed, ite_self, ↓st_ite]; split) | (simp only [↓State.mdioCmd_fixed, ↓mk_fixed, ↓ite_fixed, ite_self, ↓st_ite]) | (with_reducible refine (foldl_fixed _ _ _ (fun _ _ => ?_)).trans ?_) | (with_reducible refine (foldl_pair_fixed _ _ _ (fun _ _ => ?_)).trans ?_) | dsimp only | (simp_all; done))

@[simp] theorem execMdioWrite_fixed (value : Word) (s : State) : (after (execMdioWrite value s) s).fixed = s.fixed := by
  unfold execMdioWrite
  repeat (first | rw [after_next] | rw [after_ite] | fail)
  repeat' (first | (simp only [↓State.mdioCmd_fixed, ↓mk_fixed, ↓ite_fixed, ite_self, ↓st_ite]; done) | split | (simp only [↓State.mdioCmd_fixed, ↓mk_fixed, ↓ite_fixed, ite_self, ↓st_ite]; split) | (simp only [↓State.mdioCmd_fixed, ↓mk_fixed, ↓ite_fixed, ite_self, ↓st_ite]) | (with_reducible refine (foldl_fixed _ _ _ (fun _ _ => ?_)).trans ?_) | (with_reducible refine (foldl_pair_fixed _ _ _ (fun _ _ => ?_)).trans ?_) | dsimp only | (simp_all; done))

@[simp] theorem execMdioReadInc_fixed (value : Word) (s : State) : (after (execMdioReadInc value s) s).fixed = s.fixed := by
  unfold execMdioReadInc
  repeat (first | rw [after_next] | rw [after_ite] | fail)
  repeat' (first | (simp only [↓State.mdioCmd_fixed, ↓mk_fixed, ↓ite_fixed, ite_self, ↓st_ite]; done) | split | (simp only [↓State.mdioCmd_fixed, ↓mk_fixed, ↓ite_fixed, ite_self, ↓st_ite]; split) | (simp only [↓State.mdioCmd_fixed, ↓mk_fixed, ↓ite_fixed, ite_self, ↓st_ite]) | (with_reducible refine (foldl_fixed _ _ _ (fun _ _ => ?_)).trans ?_) | (with_reducible refine (foldl_pair_fixed _ _ _ (fun _ _ => ?_)).trans ?_) | dsimp only | (simp_all; done))

@[simp] theorem execMdioRead_fixed (value : Word) (s : State) : (after (execMdioRead value s) s).fixed = s.fixed := by
  unfold execMdioRead
  repeat (first | rw [after_next] | rw [after_ite] | fail)
  repeat' (first | (simp only [↓State.mdioCmd_fixed, ↓mk_fixed, ↓ite_fixed, ite_self, ↓st_ite]; done) | split | (simp only [↓State.mdioCmd_fixed, ↓mk_fixed, ↓ite_fixed, ite_self, ↓st_ite]; split) | (simp only [↓State.mdioCmd_fixed, ↓mk_fixed, ↓ite_fixed, ite_self, ↓st_ite]) | (with_reducible refine (foldl_fixed _ _ _ (fun _ _ => ?_)).trans ?_) | (with_reducible refine (foldl_pair_fixed _ _ _ (fun _ _ => ?_)).trans ?_) | dsimp only | (simp_all; done))

@[simp] theorem execMdioDone_fixed (data : Nat) (s : State) : (after (execMdioDone data s) s).fixed = s.fixed := by
  unfold execMdioDone
  repeat (first | rw [after_next] | rw [after_ite] | fail)
  repeat' (first | (simp only [↓State.put_fixed, ↓mk_fixed, ↓ite_fixed, ite_self, ↓st_ite]; done) | split | (simp only [↓State.put_fixed, ↓mk_fixed, ↓ite_fixed, ite_self, ↓st_ite]; split) | (simp only [↓State.put_fixed, ↓mk_fixed, ↓ite_fixed, ite_self, ↓st_ite]) | (with_reducible refine (foldl_fixed _ _ _ (fun _ _ => ?_)).trans ?_) | (with_reducible refine (foldl_pair_fixed _ _ _ (fun _ _ => ?_)).trans ?_) | dsimp only | (simp_all; done))

end Sys2Proof.Machine
end

