-- ==== Sys2Proof/Laws/FixedEgress.lean ====
section
/-! SUPPORT. What the operations of Machine/Egress.lean leave alone (Laws/Fixed.lean). -/

set_option linter.all false

namespace Sys2Proof.Machine

open Sys2Proof

@[simp] theorem State.setEg_fixed (s : State) (p : Nat) (e : Egress) : (State.setEg s p e).fixed = s.fixed := by
  unfold State.setEg
  repeat' (first | (simp only [↓State.setNet_fixed, ↓mk_fixed, ↓ite_fixed, ite_self, ↓st_ite]; done) | split | (simp only [↓State.setNet_fixed, ↓mk_fixed, ↓ite_fixed, ite_self, ↓st_ite]; split) | (simp only [↓State.setNet_fixed, ↓mk_fixed, ↓ite_fixed, ite_self, ↓st_ite]) | (with_reducible refine (foldl_fixed _ _ _ (fun _ _ => ?_)).trans ?_) | (with_reducible refine (foldl_pair_fixed _ _ _ (fun _ _ => ?_)).trans ?_) | dsimp only | (simp_all; done))

@[simp] theorem State.setGates_fixed (s : State) (p : Nat) (g : Gates) : (State.setGates s p g).fixed = s.fixed := by
  unfold State.setGates
  repeat' (first | (simp only [↓State.setNet_fixed, ↓mk_fixed, ↓ite_fixed, ite_self, ↓st_ite]; done) | split | (simp only [↓State.setNet_fixed, ↓mk_fixed, ↓ite_fixed, ite_self, ↓st_ite]; split) | (simp only [↓State.setNet_fixed, ↓mk_fixed, ↓ite_fixed, ite_self, ↓st_ite]) | (with_reducible refine (foldl_fixed _ _ _ (fun _ _ => ?_)).trans ?_) | (with_reducible refine (foldl_pair_fixed _ _ _ (fun _ _ => ?_)).trans ?_) | dsimp only | (simp_all; done))

@[simp] theorem execGateInterval_fixed (port atNs : Nat) (s : State) : (after (execGateInterval port atNs s) s).fixed = s.fixed := by
  unfold execGateInterval
  repeat (first | rw [after_next] | rw [after_ite] | fail)
  repeat' (first | (simp only [↓State.setGates_fixed, ↓mk_fixed, ↓ite_fixed, ite_self, ↓st_ite]; done) | split | (simp only [↓State.setGates_fixed, ↓mk_fixed, ↓ite_fixed, ite_self, ↓st_ite]; split) | (simp only [↓State.setGates_fixed, ↓mk_fixed, ↓ite_fixed, ite_self, ↓st_ite]) | (with_reducible refine (foldl_fixed _ _ _ (fun _ _ => ?_)).trans ?_) | (with_reducible refine (foldl_pair_fixed _ _ _ (fun _ _ => ?_)).trans ?_) | dsimp only | (simp_all; done))

@[simp] theorem State.operate_fixed (s : State) (p : Nat) (l : GateList) (now : Nat) : (State.operate s p l now).fixed = s.fixed := by
  unfold State.operate
  repeat' (first | (simp only [↓State.setGates_fixed, ↓mk_fixed, ↓ite_fixed, ite_self, ↓st_ite]; done) | split | (simp only [↓State.setGates_fixed, ↓mk_fixed, ↓ite_fixed, ite_self, ↓st_ite]; split) | (simp only [↓State.setGates_fixed, ↓mk_fixed, ↓ite_fixed, ite_self, ↓st_ite]) | (with_reducible refine (foldl_fixed _ _ _ (fun _ _ => ?_)).trans ?_) | (with_reducible refine (foldl_pair_fixed _ _ _ (fun _ _ => ?_)).trans ?_) | dsimp only | (simp_all; done))

@[simp] theorem execGateListChange_fixed (port atNs : Nat) (s : State) : (after (execGateListChange port atNs s) s).fixed = s.fixed := by
  unfold execGateListChange
  repeat (first | rw [after_next] | rw [after_ite] | fail)
  repeat' (first | (simp only [↓State.operate_fixed, ↓State.record_fixed, ↓State.setGates_fixed, ↓mk_fixed, ↓ite_fixed, ite_self, ↓st_ite]; done) | split | (simp only [↓State.operate_fixed, ↓State.record_fixed, ↓State.setGates_fixed, ↓mk_fixed, ↓ite_fixed, ite_self, ↓st_ite]; split) | (simp only [↓State.operate_fixed, ↓State.record_fixed, ↓State.setGates_fixed, ↓mk_fixed, ↓ite_fixed, ite_self, ↓st_ite]) | (with_reducible refine (foldl_fixed _ _ _ (fun _ _ => ?_)).trans ?_) | (with_reducible refine (foldl_pair_fixed _ _ _ (fun _ _ => ?_)).trans ?_) | dsimp only | (simp_all; done))

@[simp] theorem State.endDesc_fixed (s : State) (d : Option Desc) (status result : Nat) : (State.endDesc s d status result).fixed = s.fixed := by
  unfold State.endDesc
  repeat' (first | (simp only [↓State.finish_fixed, ↓mk_fixed, ↓ite_fixed, ite_self, ↓st_ite]; done) | split | (simp only [↓State.finish_fixed, ↓mk_fixed, ↓ite_fixed, ite_self, ↓st_ite]; split) | (simp only [↓State.finish_fixed, ↓mk_fixed, ↓ite_fixed, ite_self, ↓st_ite]) | (with_reducible refine (foldl_fixed _ _ _ (fun _ _ => ?_)).trans ?_) | (with_reducible refine (foldl_pair_fixed _ _ _ (fun _ _ => ?_)).trans ?_) | dsimp only | (simp_all; done))

@[simp] theorem State.discard_fixed (s : State) (e : QEntry) : (State.discard s e).fixed = s.fixed := by
  unfold State.discard
  repeat' (first | (simp only [↓State.endCopy_fixed, ↓State.endDesc_fixed, ↓mk_fixed, ↓ite_fixed, ite_self, ↓st_ite]; done) | split | (simp only [↓State.endCopy_fixed, ↓State.endDesc_fixed, ↓mk_fixed, ↓ite_fixed, ite_self, ↓st_ite]; split) | (simp only [↓State.endCopy_fixed, ↓State.endDesc_fixed, ↓mk_fixed, ↓ite_fixed, ite_self, ↓st_ite]) | (with_reducible refine (foldl_fixed _ _ _ (fun _ _ => ?_)).trans ?_) | (with_reducible refine (foldl_pair_fixed _ _ _ (fun _ _ => ?_)).trans ?_) | dsimp only | (simp_all; done))

@[simp] theorem State.launchDrop_fixed (s : State) (p : Nat) (e : QEntry) (now : Nat) : (State.launchDrop s p e now).fixed = s.fixed := by
  unfold State.launchDrop
  repeat' (first | (simp only [↓State.count_fixed, ↓State.discard_fixed, ↓State.record_fixed, ↓mk_fixed, ↓ite_fixed, ite_self, ↓st_ite]; done) | split | (simp only [↓State.count_fixed, ↓State.discard_fixed, ↓State.record_fixed, ↓mk_fixed, ↓ite_fixed, ite_self, ↓st_ite]; split) | (simp only [↓State.count_fixed, ↓State.discard_fixed, ↓State.record_fixed, ↓mk_fixed, ↓ite_fixed, ite_self, ↓st_ite]) | (with_reducible refine (foldl_fixed _ _ _ (fun _ _ => ?_)).trans ?_) | (with_reducible refine (foldl_pair_fixed _ _ _ (fun _ _ => ?_)).trans ?_) | dsimp only | (simp_all; done))

@[simp] theorem State.setQueue_fixed (s : State) (p c : Nat) (q : List QEntry) : (State.setQueue s p c q).fixed = s.fixed := by
  unfold State.setQueue
  repeat' (first | (simp only [↓State.setEg_fixed, ↓mk_fixed, ↓ite_fixed, ite_self, ↓st_ite]; done) | split | (simp only [↓State.setEg_fixed, ↓mk_fixed, ↓ite_fixed, ite_self, ↓st_ite]; split) | (simp only [↓State.setEg_fixed, ↓mk_fixed, ↓ite_fixed, ite_self, ↓st_ite]) | (with_reducible refine (foldl_fixed _ _ _ (fun _ _ => ?_)).trans ?_) | (with_reducible refine (foldl_pair_fixed _ _ _ (fun _ _ => ?_)).trans ?_) | dsimp only | (simp_all; done))

@[simp] theorem State.weighHead_fixed (s : State) (p c now : Nat) (x0 : Nat) : (State.weighHead s p c now x0).fixed = s.fixed := by
  induction x0 generalizing s p c now with
  | zero => simp [State.weighHead]
  | succ n ih =>
    unfold State.weighHead
    repeat' (first | (simp only [↓ih, ↓State.count_fixed, ↓State.discard_fixed, ↓State.setQueue_fixed, ↓mk_fixed, ↓ite_fixed, ite_self, ↓st_ite]; done) | split | (simp only [↓ih, ↓State.count_fixed, ↓State.discard_fixed, ↓State.setQueue_fixed, ↓mk_fixed, ↓ite_fixed, ite_self, ↓st_ite]; split) | (simp only [↓ih, ↓State.count_fixed, ↓State.discard_fixed, ↓State.setQueue_fixed, ↓mk_fixed, ↓ite_fixed, ite_self, ↓st_ite]) | (with_reducible refine (foldl_fixed _ _ _ (fun _ _ => ?_)).trans ?_) | (with_reducible refine (foldl_pair_fixed _ _ _ (fun _ _ => ?_)).trans ?_) | dsimp only | (simp_all; done))

@[simp] theorem State.enqueue_fixed (s : State) (p at' : Nat) (e : QEntry) : (State.enqueue s p at' e).fixed = s.fixed := by
  unfold State.enqueue
  repeat' (first | (simp only [↓State.count_fixed, ↓State.endCopy_fixed, ↓State.endDesc_fixed, ↓State.launchDrop_fixed, ↓State.setQueue_fixed, ↓State.weighHead_fixed, ↓mk_fixed, ↓ite_fixed, ite_self, ↓st_ite]; done) | split | (simp only [↓State.count_fixed, ↓State.endCopy_fixed, ↓State.endDesc_fixed, ↓State.launchDrop_fixed, ↓State.setQueue_fixed, ↓State.weighHead_fixed, ↓mk_fixed, ↓ite_fixed, ite_self, ↓st_ite]; split) | (simp only [↓State.count_fixed, ↓State.endCopy_fixed, ↓State.endDesc_fixed, ↓State.launchDrop_fixed, ↓State.setQueue_fixed, ↓State.weighHead_fixed, ↓mk_fixed, ↓ite_fixed, ite_self, ↓st_ite]) | (with_reducible refine (foldl_fixed _ _ _ (fun _ _ => ?_)).trans ?_) | (with_reducible refine (foldl_pair_fixed _ _ _ (fun _ _ => ?_)).trans ?_) | dsimp only | (simp_all; done))

@[simp] theorem State.startFrame_fixed (s : State) (p c at' : Nat) : (State.startFrame s p c at').fixed = s.fixed := by
  unfold State.startFrame
  repeat' (first | (simp only [↓State.setEg_fixed, ↓State.setQueue_fixed, ↓State.weighHead_fixed, ↓mk_fixed, ↓ite_fixed, ite_self, ↓st_ite]; done) | split | (simp only [↓State.setEg_fixed, ↓State.setQueue_fixed, ↓State.weighHead_fixed, ↓mk_fixed, ↓ite_fixed, ite_self, ↓st_ite]; split) | (simp only [↓State.setEg_fixed, ↓State.setQueue_fixed, ↓State.weighHead_fixed, ↓mk_fixed, ↓ite_fixed, ite_self, ↓st_ite]) | (with_reducible refine (foldl_fixed _ _ _ (fun _ _ => ?_)).trans ?_) | (with_reducible refine (foldl_pair_fixed _ _ _ (fun _ _ => ?_)).trans ?_) | dsimp only | (simp_all; done))

@[simp] theorem execEgressSelect_fixed (port atNs : Nat) (s : State) : (after (execEgressSelect port atNs s) s).fixed = s.fixed := by
  unfold execEgressSelect
  repeat (first | rw [after_next] | rw [after_ite] | fail)
  repeat' (first | (simp only [↓State.setEg_fixed, ↓State.startFrame_fixed, ↓mk_fixed, ↓ite_fixed, ite_self, ↓st_ite]; done) | split | (simp only [↓State.setEg_fixed, ↓State.startFrame_fixed, ↓mk_fixed, ↓ite_fixed, ite_self, ↓st_ite]; split) | (simp only [↓State.setEg_fixed, ↓State.startFrame_fixed, ↓mk_fixed, ↓ite_fixed, ite_self, ↓st_ite]) | (with_reducible refine (foldl_fixed _ _ _ (fun _ _ => ?_)).trans ?_) | (with_reducible refine (foldl_pair_fixed _ _ _ (fun _ _ => ?_)).trans ?_) | dsimp only | (simp_all; done))

@[simp] theorem execLaunchTime_fixed (port cls atNs : Nat) (s : State) : (after (execLaunchTime port cls atNs s) s).fixed = s.fixed := by
  unfold execLaunchTime
  repeat (first | rw [after_next] | rw [after_ite] | fail)
  repeat' (first | (simp only [↓State.launchDrop_fixed, ↓State.setQueue_fixed, ↓State.startFrame_fixed, ↓State.weighHead_fixed, ↓mk_fixed, ↓ite_fixed, ite_self, ↓st_ite]; done) | split | (simp only [↓State.launchDrop_fixed, ↓State.setQueue_fixed, ↓State.startFrame_fixed, ↓State.weighHead_fixed, ↓mk_fixed, ↓ite_fixed, ite_self, ↓st_ite]; split) | (simp only [↓State.launchDrop_fixed, ↓State.setQueue_fixed, ↓State.startFrame_fixed, ↓State.weighHead_fixed, ↓mk_fixed, ↓ite_fixed, ite_self, ↓st_ite]) | (with_reducible refine (foldl_fixed _ _ _ (fun _ _ => ?_)).trans ?_) | (with_reducible refine (foldl_pair_fixed _ _ _ (fun _ _ => ?_)).trans ?_) | dsimp only | (simp_all; done))

@[simp] theorem State.relaunch_fixed (s : State) (p now : Nat) : (State.relaunch s p now).fixed = s.fixed := by
  unfold State.relaunch
  repeat' (first | (simp only [↓State.launchDrop_fixed, ↓State.setQueue_fixed, ↓State.weighHead_fixed, ↓mk_fixed, ↓ite_fixed, ite_self, ↓st_ite]; done) | split | (simp only [↓State.launchDrop_fixed, ↓State.setQueue_fixed, ↓State.weighHead_fixed, ↓mk_fixed, ↓ite_fixed, ite_self, ↓st_ite]; split) | (simp only [↓State.launchDrop_fixed, ↓State.setQueue_fixed, ↓State.weighHead_fixed, ↓mk_fixed, ↓ite_fixed, ite_self, ↓st_ite]) | (with_reducible refine (foldl_fixed _ _ _ (fun _ _ => ?_)).trans ?_) | (with_reducible refine (foldl_pair_fixed _ _ _ (fun _ _ => ?_)).trans ?_) | dsimp only | (simp_all; done))

@[simp] theorem State.stepPort_fixed (s : State) (at' p : Nat) : (State.stepPort s at' p).fixed = s.fixed := by
  unfold State.stepPort
  repeat' (first | (simp only [↓State.relaunch_fixed, ↓State.setGates_fixed, ↓mk_fixed, ↓ite_fixed, ite_self, ↓st_ite]; done) | split | (simp only [↓State.relaunch_fixed, ↓State.setGates_fixed, ↓mk_fixed, ↓ite_fixed, ite_self, ↓st_ite]; split) | (simp only [↓State.relaunch_fixed, ↓State.setGates_fixed, ↓mk_fixed, ↓ite_fixed, ite_self, ↓st_ite]) | (with_reducible refine (foldl_fixed _ _ _ (fun _ _ => ?_)).trans ?_) | (with_reducible refine (foldl_pair_fixed _ _ _ (fun _ _ => ?_)).trans ?_) | dsimp only | (simp_all; done))

end Sys2Proof.Machine
end

