-- ==== Sys2Proof/Laws/FixedPtp.lean ====
section
/-! SUPPORT. What the operations of Machine/Ptp.lean leave alone (Laws/Fixed.lean). -/

set_option linter.all false

namespace Sys2Proof.Machine

open Sys2Proof

@[simp] theorem State.setPtp_fixed (s : State) (x : Ptp) : (State.setPtp s x).fixed = s.fixed := by
  unfold State.setPtp
  repeat' (first | (simp only [↓State.setTim_fixed, ↓mk_fixed, ↓ite_fixed, ite_self, ↓st_ite]; done) | split | (simp only [↓State.setTim_fixed, ↓mk_fixed, ↓ite_fixed, ite_self, ↓st_ite]; split) | (simp only [↓State.setTim_fixed, ↓mk_fixed, ↓ite_fixed, ite_self, ↓st_ite]) | (with_reducible refine (foldl_fixed _ _ _ (fun _ _ => ?_)).trans ?_) | (with_reducible refine (foldl_pair_fixed _ _ _ (fun _ _ => ?_)).trans ?_) | dsimp only | (simp_all; done))

@[simp] theorem State.setPtpPort_fixed (s : State) (p : Nat) (x : PtpPort) : (State.setPtpPort s p x).fixed = s.fixed := by
  unfold State.setPtpPort
  repeat' (first | (simp only [↓State.setPtp_fixed, ↓mk_fixed, ↓ite_fixed, ite_self, ↓st_ite]; done) | split | (simp only [↓State.setPtp_fixed, ↓mk_fixed, ↓ite_fixed, ite_self, ↓st_ite]; split) | (simp only [↓State.setPtp_fixed, ↓mk_fixed, ↓ite_fixed, ite_self, ↓st_ite]) | (with_reducible refine (foldl_fixed _ _ _ (fun _ _ => ?_)).trans ?_) | (with_reducible refine (foldl_pair_fixed _ _ _ (fun _ _ => ?_)).trans ?_) | dsimp only | (simp_all; done))

theorem State.sendPtp_fixed (s : State) (p rx : Nat) (msg : List Byte) {t} (h : State.sendPtp s p rx msg = some t) : t.fixed = s.fixed := by
  simp only [State.sendPtp] at h
  split at h
  · cases h
  · rename_i h1
    cases h
    simp only [State.enqueue_fixed, State.modFrame_fixed]
    exact State.storeFrame_fixed _ _ _ _ _ _ h1

@[simp] theorem State.answerPtp_fixed (s : State) (p rx : Nat) (msg : List Byte) : (State.answerPtp s p rx msg).fixed = s.fixed := by
  unfold State.answerPtp
  cases h : s.sendPtp p rx msg with
  | none => rfl
  | some t => exact State.sendPtp_fixed _ _ _ _ h

@[simp] theorem State.grandmaster_fixed (s : State) : (State.grandmaster s).fixed = s.fixed := by
  unfold State.grandmaster
  repeat' (first | (simp only [↓State.count_fixed, ↓State.moveTb1_fixed, ↓State.record_fixed, ↓State.setTb1State_fixed, ↓State.setTim_fixed, ↓State.stepPort_fixed, ↓mk_fixed, ↓ite_fixed, ite_self, ↓st_ite]; done) | split | (simp only [↓State.count_fixed, ↓State.moveTb1_fixed, ↓State.record_fixed, ↓State.setTb1State_fixed, ↓State.setTim_fixed, ↓State.stepPort_fixed, ↓mk_fixed, ↓ite_fixed, ite_self, ↓st_ite]; split) | (simp only [↓State.count_fixed, ↓State.moveTb1_fixed, ↓State.record_fixed, ↓State.setTb1State_fixed, ↓State.setTim_fixed, ↓State.stepPort_fixed, ↓mk_fixed, ↓ite_fixed, ite_self, ↓st_ite]) | (with_reducible refine (foldl_fixed _ _ _ (fun _ _ => ?_)).trans ?_) | (with_reducible refine (foldl_pair_fixed _ _ _ (fun _ _ => ?_)).trans ?_) | dsimp only | (simp_all; done))

@[simp] theorem State.listen_fixed (s : State) (p : Nat) : (State.listen s p).fixed = s.fixed := by
  unfold State.listen
  repeat' (first | (simp only [↓State.setTb1State_fixed, ↓State.setTim_fixed, ↓mk_fixed, ↓ite_fixed, ite_self, ↓st_ite]; done) | split | (simp only [↓State.setTb1State_fixed, ↓State.setTim_fixed, ↓mk_fixed, ↓ite_fixed, ite_self, ↓st_ite]; split) | (simp only [↓State.setTb1State_fixed, ↓State.setTim_fixed, ↓mk_fixed, ↓ite_fixed, ite_self, ↓st_ite]) | (with_reducible refine (foldl_fixed _ _ _ (fun _ _ => ?_)).trans ?_) | (with_reducible refine (foldl_pair_fixed _ _ _ (fun _ _ => ?_)).trans ?_) | dsimp only | (simp_all; done))

@[simp] theorem State.elect_fixed (s : State) (was : Option PtpMaster) : (State.elect s was).fixed = s.fixed := by
  unfold State.elect
  repeat' (first | (simp only [↓State.grandmaster_fixed, ↓State.listen_fixed, ↓State.setTb1State_fixed, ↓mk_fixed, ↓ite_fixed, ite_self, ↓st_ite]; done) | split | (simp only [↓State.grandmaster_fixed, ↓State.listen_fixed, ↓State.setTb1State_fixed, ↓mk_fixed, ↓ite_fixed, ite_self, ↓st_ite]; split) | (simp only [↓State.grandmaster_fixed, ↓State.listen_fixed, ↓State.setTb1State_fixed, ↓mk_fixed, ↓ite_fixed, ite_self, ↓st_ite]) | (with_reducible refine (foldl_fixed _ _ _ (fun _ _ => ?_)).trans ?_) | (with_reducible refine (foldl_pair_fixed _ _ _ (fun _ _ => ?_)).trans ?_) | dsimp only | (simp_all; done))

@[simp] theorem State.sendDue_fixed (s : State) (p : Nat) (msg : List Byte) (next : PtpPort → PtpPort) : (State.sendDue s p msg next).fixed = s.fixed := by
  unfold State.sendDue
  repeat' (first | (simp only [↓State.setPtpPort_fixed, ↓mk_fixed, ↓ite_fixed, ite_self, ↓st_ite]; done) | split | (simp only [↓State.setPtpPort_fixed, ↓mk_fixed, ↓ite_fixed, ite_self, ↓st_ite]; split) | (simp only [↓State.setPtpPort_fixed, ↓mk_fixed, ↓ite_fixed, ite_self, ↓st_ite]) | (simp only [State.sendPtp_fixed _ _ _ _  ‹State.sendPtp _ _ _ _  = some _›, ↓State.setPtpPort_fixed, ↓mk_fixed, ↓ite_fixed, ite_self, ↓st_ite]) | (with_reducible refine (foldl_fixed _ _ _ (fun _ _ => ?_)).trans ?_) | (with_reducible refine (foldl_pair_fixed _ _ _ (fun _ _ => ?_)).trans ?_) | dsimp only | (simp_all; done))

@[simp] theorem State.ptpPortEdge_fixed (s : State) (p : Nat) : (State.ptpPortEdge s p).fixed = s.fixed := by
  unfold State.ptpPortEdge
  repeat' (first | (simp only [↓State.sendDue_fixed, ↓mk_fixed, ↓ite_fixed, ite_self, ↓st_ite]; done) | split | (simp only [↓State.sendDue_fixed, ↓mk_fixed, ↓ite_fixed, ite_self, ↓st_ite]; split) | (simp only [↓State.sendDue_fixed, ↓mk_fixed, ↓ite_fixed, ite_self, ↓st_ite]) | (with_reducible refine (foldl_fixed _ _ _ (fun _ _ => ?_)).trans ?_) | (with_reducible refine (foldl_pair_fixed _ _ _ (fun _ _ => ?_)).trans ?_) | dsimp only | (simp_all; done))

@[simp] theorem State.ptpEdge_fixed (s : State) : (State.ptpEdge s).fixed = s.fixed := by
  unfold State.ptpEdge
  repeat' (first | (simp only [↓State.elect_fixed, ↓State.ptpPortEdge_fixed, ↓State.setPtp_fixed, ↓mk_fixed, ↓ite_fixed, ite_self, ↓st_ite]; done) | split | (simp only [↓State.elect_fixed, ↓State.ptpPortEdge_fixed, ↓State.setPtp_fixed, ↓mk_fixed, ↓ite_fixed, ite_self, ↓st_ite]; split) | (simp only [↓State.elect_fixed, ↓State.ptpPortEdge_fixed, ↓State.setPtp_fixed, ↓mk_fixed, ↓ite_fixed, ite_self, ↓st_ite]) | (with_reducible refine (foldl_fixed _ _ _ (fun _ _ => ?_)).trans ?_) | (with_reducible refine (foldl_pair_fixed _ _ _ (fun _ _ => ?_)).trans ?_) | dsimp only | (simp_all; done))

@[simp] theorem State.ptpSent_fixed (s : State) (p : Nat) (b : List Byte) (ts : Nat) : (State.ptpSent s p b ts).fixed = s.fixed := by
  unfold State.ptpSent
  repeat' (first | (simp only [↓State.answerPtp_fixed, ↓State.setPtpPort_fixed, ↓mk_fixed, ↓ite_fixed, ite_self, ↓st_ite]; done) | split | (simp only [↓State.answerPtp_fixed, ↓State.setPtpPort_fixed, ↓mk_fixed, ↓ite_fixed, ite_self, ↓st_ite]; split) | (simp only [↓State.answerPtp_fixed, ↓State.setPtpPort_fixed, ↓mk_fixed, ↓ite_fixed, ite_self, ↓st_ite]) | (with_reducible refine (foldl_fixed _ _ _ (fun _ _ => ?_)).trans ?_) | (with_reducible refine (foldl_pair_fixed _ _ _ (fun _ _ => ?_)).trans ?_) | dsimp only | (simp_all; done))

@[simp] theorem State.measured_fixed (s : State) (p sec ns : Nat) (corr : Int) (rx : Nat) : (State.measured s p sec ns corr rx).fixed = s.fixed := by
  unfold State.measured
  repeat' (first | (simp only [↓State.sendDue_fixed, ↓State.setPtpPort_fixed, ↓State.setPtp_fixed, ↓mk_fixed, ↓ite_fixed, ite_self, ↓st_ite]; done) | split | (simp only [↓State.sendDue_fixed, ↓State.setPtpPort_fixed, ↓State.setPtp_fixed, ↓mk_fixed, ↓ite_fixed, ite_self, ↓st_ite]; split) | (simp only [↓State.sendDue_fixed, ↓State.setPtpPort_fixed, ↓State.setPtp_fixed, ↓mk_fixed, ↓ite_fixed, ite_self, ↓st_ite]) | (with_reducible refine (foldl_fixed _ _ _ (fun _ _ => ?_)).trans ?_) | (with_reducible refine (foldl_pair_fixed _ _ _ (fun _ _ => ?_)).trans ?_) | dsimp only | (simp_all; done))

@[simp] theorem State.ptpMessage_fixed (s : State) (p rx : Nat) (m : List Byte) : (State.ptpMessage s p rx m).fixed = s.fixed := by
  unfold State.ptpMessage
  repeat' (first | (simp only [↓State.answerPtp_fixed, ↓State.elect_fixed, ↓State.measured_fixed, ↓State.setPtpPort_fixed, ↓State.setPtp_fixed, ↓mk_fixed, ↓ite_fixed, ite_self, ↓st_ite]; done) | split | (simp only [↓State.answerPtp_fixed, ↓State.elect_fixed, ↓State.measured_fixed, ↓State.setPtpPort_fixed, ↓State.setPtp_fixed, ↓mk_fixed, ↓ite_fixed, ite_self, ↓st_ite]; split) | (simp only [↓State.answerPtp_fixed, ↓State.elect_fixed, ↓State.measured_fixed, ↓State.setPtpPort_fixed, ↓State.setPtp_fixed, ↓mk_fixed, ↓ite_fixed, ite_self, ↓st_ite]) | (with_reducible refine (foldl_fixed _ _ _ (fun _ _ => ?_)).trans ?_) | (with_reducible refine (foldl_pair_fixed _ _ _ (fun _ _ => ?_)).trans ?_) | dsimp only | (simp_all; done))

@[simp] theorem State.ptpReceive_fixed (s : State) (p rx : Nat) (b : List Byte) : (State.ptpReceive s p rx b).fixed = s.fixed := by
  unfold State.ptpReceive
  repeat' (first | (simp only [↓State.ptpMessage_fixed, ↓mk_fixed, ↓ite_fixed, ite_self, ↓st_ite]; done) | split | (simp only [↓State.ptpMessage_fixed, ↓mk_fixed, ↓ite_fixed, ite_self, ↓st_ite]; split) | (simp only [↓State.ptpMessage_fixed, ↓mk_fixed, ↓ite_fixed, ite_self, ↓st_ite]) | (with_reducible refine (foldl_fixed _ _ _ (fun _ _ => ?_)).trans ?_) | (with_reducible refine (foldl_pair_fixed _ _ _ (fun _ _ => ?_)).trans ?_) | dsimp only | (simp_all; done))

@[simp] theorem execPtpSync_fixed (atNs : Nat) (s : State) : (after (execPtpSync atNs s) s).fixed = s.fixed := by
  unfold execPtpSync
  repeat (first | rw [after_next] | rw [after_ite] | fail)
  repeat' (first | (simp only [↓State.ptpServo_fixed, ↓State.setPtp_fixed, ↓State.stepPort_fixed, ↓mk_fixed, ↓ite_fixed, ite_self, ↓st_ite]; done) | split | (simp only [↓State.ptpServo_fixed, ↓State.setPtp_fixed, ↓State.stepPort_fixed, ↓mk_fixed, ↓ite_fixed, ite_self, ↓st_ite]; split) | (simp only [↓State.ptpServo_fixed, ↓State.setPtp_fixed, ↓State.stepPort_fixed, ↓mk_fixed, ↓ite_fixed, ite_self, ↓st_ite]) | (simp only [pair_fixed ‹State.ptpServo _ _ _  = (_, _)› (State.ptpServo_fixed _ _ _ ), ↓State.ptpServo_fixed, ↓State.setPtp_fixed, ↓State.stepPort_fixed, ↓mk_fixed, ↓ite_fixed, ite_self, ↓st_ite]) | (with_reducible refine (foldl_fixed _ _ _ (fun _ _ => ?_)).trans ?_) | (with_reducible refine (foldl_pair_fixed _ _ _ (fun _ _ => ?_)).trans ?_) | dsimp only | (simp_all; done))

end Sys2Proof.Machine
end

