-- ==== Sys2Proof/Laws/FixedEgressEnd.lean ====
section
/-! SUPPORT. What the operations of Machine/EgressEnd.lean leave alone (Laws/Fixed.lean). -/

set_option linter.all false

namespace Sys2Proof.Machine

open Sys2Proof

@[simp] theorem State.noteStomp_fixed (s : State) (p ingress cause : Nat) : (State.noteStomp s p ingress cause).fixed = s.fixed := by
  unfold State.noteStomp
  repeat' (first | (simp only [↓State.count_fixed, ↓State.record_fixed, ↓mk_fixed, ↓ite_fixed, ite_self, ↓st_ite]; done) | split | (simp only [↓State.count_fixed, ↓State.record_fixed, ↓mk_fixed, ↓ite_fixed, ite_self, ↓st_ite]; split) | (simp only [↓State.count_fixed, ↓State.record_fixed, ↓mk_fixed, ↓ite_fixed, ite_self, ↓st_ite]) | (with_reducible refine (foldl_fixed _ _ _ (fun _ _ => ?_)).trans ?_) | (with_reducible refine (foldl_pair_fixed _ _ _ (fun _ _ => ?_)).trans ?_) | dsimp only | (simp_all; done))

@[simp] theorem State.dropQueued_fixed (s : State) (id : Nat) : (State.dropQueued s id).fixed = s.fixed := by
  unfold State.dropQueued
  repeat' (first | (simp only [↓State.endCopy_fixed, ↓State.endDesc_fixed, ↓State.setQueue_fixed, ↓mk_fixed, ↓ite_fixed, ite_self, ↓st_ite]; done) | split | (simp only [↓State.endCopy_fixed, ↓State.endDesc_fixed, ↓State.setQueue_fixed, ↓mk_fixed, ↓ite_fixed, ite_self, ↓st_ite]; split) | (simp only [↓State.endCopy_fixed, ↓State.endDesc_fixed, ↓State.setQueue_fixed, ↓mk_fixed, ↓ite_fixed, ite_self, ↓st_ite]) | (with_reducible refine (foldl_fixed _ _ _ (fun _ _ => ?_)).trans ?_) | (with_reducible refine (foldl_pair_fixed _ _ _ (fun _ _ => ?_)).trans ?_) | dsimp only | (simp_all; done))

@[simp] theorem State.dropHostq_fixed (s : State) (id : Nat) : (State.dropHostq s id).fixed = s.fixed := by
  unfold State.dropHostq
  repeat' (first | (simp only [↓State.endCopy_fixed, ↓State.setNet_fixed, ↓mk_fixed, ↓ite_fixed, ite_self, ↓st_ite]; done) | split | (simp only [↓State.endCopy_fixed, ↓State.setNet_fixed, ↓mk_fixed, ↓ite_fixed, ite_self, ↓st_ite]; split) | (simp only [↓State.endCopy_fixed, ↓State.setNet_fixed, ↓mk_fixed, ↓ite_fixed, ite_self, ↓st_ite]) | (with_reducible refine (foldl_fixed _ _ _ (fun _ _ => ?_)).trans ?_) | (with_reducible refine (foldl_pair_fixed _ _ _ (fun _ _ => ?_)).trans ?_) | dsimp only | (simp_all; done))

@[simp] theorem State.dropInner_fixed (s : State) (id : Nat) : (State.dropInner s id).fixed = s.fixed := by
  unfold State.dropInner
  repeat' (first | (simp only [↓State.endCopy_fixed, ↓State.setNet_fixed, ↓mk_fixed, ↓ite_fixed, ite_self, ↓st_ite]; done) | split | (simp only [↓State.endCopy_fixed, ↓State.setNet_fixed, ↓mk_fixed, ↓ite_fixed, ite_self, ↓st_ite]; split) | (simp only [↓State.endCopy_fixed, ↓State.setNet_fixed, ↓mk_fixed, ↓ite_fixed, ite_self, ↓st_ite]) | (with_reducible refine (foldl_fixed _ _ _ (fun _ _ => ?_)).trans ?_) | (with_reducible refine (foldl_pair_fixed _ _ _ (fun _ _ => ?_)).trans ?_) | dsimp only | (simp_all; done))

@[simp] theorem State.cellError_fixed (s : State) (p : Nat) (f : Frame) (k place : Nat) : (State.cellError s p f k place).fixed = s.fixed := by
  unfold State.cellError
  repeat' (first | (simp only [↓State.count_fixed, ↓State.dropHostq_fixed, ↓State.dropInner_fixed, ↓State.dropQueued_fixed, ↓State.modFrame_fixed, ↓State.record_fixed, ↓mk_fixed, ↓ite_fixed, ite_self, ↓st_ite]; done) | split | (simp only [↓State.count_fixed, ↓State.dropHostq_fixed, ↓State.dropInner_fixed, ↓State.dropQueued_fixed, ↓State.modFrame_fixed, ↓State.record_fixed, ↓mk_fixed, ↓ite_fixed, ite_self, ↓st_ite]; split) | (simp only [↓State.count_fixed, ↓State.dropHostq_fixed, ↓State.dropInner_fixed, ↓State.dropQueued_fixed, ↓State.modFrame_fixed, ↓State.record_fixed, ↓mk_fixed, ↓ite_fixed, ite_self, ↓st_ite]) | (with_reducible refine (foldl_fixed _ _ _ (fun _ _ => ?_)).trans ?_) | (with_reducible refine (foldl_pair_fixed _ _ _ (fun _ _ => ?_)).trans ?_) | dsimp only | (simp_all; done))

@[simp] theorem State.cellRead_fixed (s : State) (p : Nat) (f : Frame) (err : CellErr) : (State.cellRead s p f err).1.fixed = s.fixed := by
  unfold State.cellRead
  repeat' (first | (simp only [↓State.cellError_fixed, ↓State.checkRead_fixed, ↓State.noteUncorr_fixed, ↓mk_fixed, ↓ite_fixed, ite_self, ↓st_ite]; done) | split | (simp only [↓State.cellError_fixed, ↓State.checkRead_fixed, ↓State.noteUncorr_fixed, ↓mk_fixed, ↓ite_fixed, ite_self, ↓st_ite]; split) | (simp only [↓State.cellError_fixed, ↓State.checkRead_fixed, ↓State.noteUncorr_fixed, ↓mk_fixed, ↓ite_fixed, ite_self, ↓st_ite]) | (simp only [pair_fixed ‹State.checkRead _ _ _  = (_, _)› (State.checkRead_fixed _ _ _ ), ↓State.cellError_fixed, ↓State.checkRead_fixed, ↓State.noteUncorr_fixed, ↓mk_fixed, ↓ite_fixed, ite_self, ↓st_ite]) | (with_reducible refine (foldl_fixed _ _ _ (fun _ _ => ?_)).trans ?_) | (with_reducible refine (foldl_pair_fixed _ _ _ (fun _ _ => ?_)).trans ?_) | dsimp only | (simp_all; done))

@[simp] theorem State.hostFrame_fixed (s : State) (f : Frame) (reason : Nat) (bytes : List Byte) (cause : Option Nat) : (State.hostFrame s f reason bytes cause).fixed = s.fixed := by
  unfold State.hostFrame
  repeat' (first | (simp only [↓State.count_fixed, ↓State.deliver_fixed, ↓State.ok_fixed, ↓State.setRings_fixed, ↓mk_fixed, ↓ite_fixed, ite_self, ↓st_ite]; done) | split | (simp only [↓State.count_fixed, ↓State.deliver_fixed, ↓State.ok_fixed, ↓State.setRings_fixed, ↓mk_fixed, ↓ite_fixed, ite_self, ↓st_ite]; split) | (simp only [↓State.count_fixed, ↓State.deliver_fixed, ↓State.ok_fixed, ↓State.setRings_fixed, ↓mk_fixed, ↓ite_fixed, ite_self, ↓st_ite]) | (simp only [pair_fixed ‹State.deliver _ _ _ _ _ _  = (_, _)› (State.deliver_fixed _ _ _ _ _ _ ), ↓State.count_fixed, ↓State.deliver_fixed, ↓State.ok_fixed, ↓State.setRings_fixed, ↓mk_fixed, ↓ite_fixed, ite_self, ↓st_ite]) | (with_reducible refine (foldl_fixed _ _ _ (fun _ _ => ?_)).trans ?_) | (with_reducible refine (foldl_pair_fixed _ _ _ (fun _ _ => ?_)).trans ?_) | dsimp only | (simp_all; done))

end Sys2Proof.Machine
end

