-- ==== Sys2Proof/Laws/FixedFleetData.lean ====
section
/-! SUPPORT. What the operations of Machine/FleetData.lean leave alone (Laws/Fixed.lean). -/

set_option linter.all false

namespace Sys2Proof.Machine

open Sys2Proof

@[simp] theorem State.modRobot_fixed (s : State) (r : Nat) (f : Robot → Robot) : (State.modRobot s r f).fixed = s.fixed := by
  unfold State.modRobot
  repeat' (first | (simp only [↓State.setFlt_fixed, ↓mk_fixed, ↓ite_fixed, ite_self, ↓st_ite]; done) | split | (simp only [↓State.setFlt_fixed, ↓mk_fixed, ↓ite_fixed, ite_self, ↓st_ite]; split) | (simp only [↓State.setFlt_fixed, ↓mk_fixed, ↓ite_fixed, ite_self, ↓st_ite]) | (with_reducible refine (foldl_fixed _ _ _ (fun _ _ => ?_)).trans ?_) | (with_reducible refine (foldl_pair_fixed _ _ _ (fun _ _ => ?_)).trans ?_) | dsimp only | (simp_all; done))

@[simp] theorem State.fleetQueueData_fixed (s : State) (robot : Nat) (bytes : List Byte) : (State.fleetQueueData s robot bytes).fixed = s.fixed := by
  unfold State.fleetQueueData
  repeat' (first | (simp only [↓State.count_fixed, ↓State.setFlt_fixed, ↓mk_fixed, ↓ite_fixed, ite_self, ↓st_ite]; done) | split | (simp only [↓State.count_fixed, ↓State.setFlt_fixed, ↓mk_fixed, ↓ite_fixed, ite_self, ↓st_ite]; split) | (simp only [↓State.count_fixed, ↓State.setFlt_fixed, ↓mk_fixed, ↓ite_fixed, ite_self, ↓st_ite]) | (with_reducible refine (foldl_fixed _ _ _ (fun _ _ => ?_)).trans ?_) | (with_reducible refine (foldl_pair_fixed _ _ _ (fun _ _ => ?_)).trans ?_) | dsimp only | (simp_all; done))

end Sys2Proof.Machine
end

