-- ==== Sys2Proof/Laws/FixedForward.lean ====
section
/-! SUPPORT. What the operations of Machine/Forward.lean leave alone (Laws/Fixed.lean). -/

set_option linter.all false

namespace Sys2Proof.Machine

open Sys2Proof

@[simp] theorem State.showTables_fixed (s : State) : (State.showTables s).fixed = s.fixed := by
  unfold State.showTables
  repeat' (first | (simp only [↓State.put_fixed, ↓mk_fixed, ↓ite_fixed, ite_self, ↓st_ite]; done) | split | (simp only [↓State.put_fixed, ↓mk_fixed, ↓ite_fixed, ite_self, ↓st_ite]; split) | (simp only [↓State.put_fixed, ↓mk_fixed, ↓ite_fixed, ite_self, ↓st_ite]) | (with_reducible refine (foldl_fixed _ _ _ (fun _ _ => ?_)).trans ?_) | (with_reducible refine (foldl_pair_fixed _ _ _ (fun _ _ => ?_)).trans ?_) | dsimp only | (simp_all; done))

@[simp] theorem State.setL2_fixed (s : State) (t : Tab L2) : (State.setL2 s t).fixed = s.fixed := by
  unfold State.setL2
  repeat' (first | (simp only [↓State.setNet_fixed, ↓State.showTables_fixed, ↓mk_fixed, ↓ite_fixed, ite_self, ↓st_ite]; done) | split | (simp only [↓State.setNet_fixed, ↓State.showTables_fixed, ↓mk_fixed, ↓ite_fixed, ite_self, ↓st_ite]; split) | (simp only [↓State.setNet_fixed, ↓State.showTables_fixed, ↓mk_fixed, ↓ite_fixed, ite_self, ↓st_ite]) | (with_reducible refine (foldl_fixed _ _ _ (fun _ _ => ?_)).trans ?_) | (with_reducible refine (foldl_pair_fixed _ _ _ (fun _ _ => ?_)).trans ?_) | dsimp only | (simp_all; done))

@[simp] theorem State.parityFail_fixed (s : State) (table slot : Nat) : (State.parityFail s table slot).fixed = s.fixed := by
  unfold State.parityFail
  repeat' (first | (simp only [↓State.count_fixed, ↓State.record_fixed, ↓State.setGates_fixed, ↓State.setL2_fixed, ↓State.setNet_fixed, ↓State.showTables_fixed, ↓mk_fixed, ↓ite_fixed, ite_self, ↓st_ite]; done) | split | (simp only [↓State.count_fixed, ↓State.record_fixed, ↓State.setGates_fixed, ↓State.setL2_fixed, ↓State.setNet_fixed, ↓State.showTables_fixed, ↓mk_fixed, ↓ite_fixed, ite_self, ↓st_ite]; split) | (simp only [↓State.count_fixed, ↓State.record_fixed, ↓State.setGates_fixed, ↓State.setL2_fixed, ↓State.setNet_fixed, ↓State.showTables_fixed, ↓mk_fixed, ↓ite_fixed, ite_self, ↓st_ite]) | (with_reducible refine (foldl_fixed _ _ _ (fun _ _ => ?_)).trans ?_) | (with_reducible refine (foldl_pair_fixed _ _ _ (fun _ _ => ?_)).trans ?_) | dsimp only | (simp_all; done))

@[simp] theorem State.parityFails_fixed (s : State) (l : List (Nat × Nat)) : (State.parityFails s l).fixed = s.fixed := by
  unfold State.parityFails
  repeat' (first | (simp only [↓State.parityFail_fixed, ↓mk_fixed, ↓ite_fixed, ite_self, ↓st_ite]; done) | split | (simp only [↓State.parityFail_fixed, ↓mk_fixed, ↓ite_fixed, ite_self, ↓st_ite]; split) | (simp only [↓State.parityFail_fixed, ↓mk_fixed, ↓ite_fixed, ite_self, ↓st_ite]) | (with_reducible refine (foldl_fixed _ _ _ (fun _ _ => ?_)).trans ?_) | (with_reducible refine (foldl_pair_fixed _ _ _ (fun _ _ => ?_)).trans ?_) | dsimp only | (simp_all; done))

@[simp] theorem State.learnFull_fixed (s : State) (port : Nat) : (State.learnFull s port).fixed = s.fixed := by
  unfold State.learnFull
  repeat' (first | (simp only [↓State.count_fixed, ↓State.record_fixed, ↓State.setNet_fixed, ↓mk_fixed, ↓ite_fixed, ite_self, ↓st_ite]; done) | split | (simp only [↓State.count_fixed, ↓State.record_fixed, ↓State.setNet_fixed, ↓mk_fixed, ↓ite_fixed, ite_self, ↓st_ite]; split) | (simp only [↓State.count_fixed, ↓State.record_fixed, ↓State.setNet_fixed, ↓mk_fixed, ↓ite_fixed, ite_self, ↓st_ite]) | (with_reducible refine (foldl_fixed _ _ _ (fun _ _ => ?_)).trans ?_) | (with_reducible refine (foldl_pair_fixed _ _ _ (fun _ _ => ?_)).trans ?_) | dsimp only | (simp_all; done))

@[simp] theorem State.queueLearn_fixed (s : State) (key : List Byte) (port : Nat) : (State.queueLearn s key port).fixed = s.fixed := by
  unfold State.queueLearn
  repeat' (first | (simp only [↓State.learnFull_fixed, ↓State.setNet_fixed, ↓mk_fixed, ↓ite_fixed, ite_self, ↓st_ite]; done) | split | (simp only [↓State.learnFull_fixed, ↓State.setNet_fixed, ↓mk_fixed, ↓ite_fixed, ite_self, ↓st_ite]; split) | (simp only [↓State.learnFull_fixed, ↓State.setNet_fixed, ↓mk_fixed, ↓ite_fixed, ite_self, ↓st_ite]) | (with_reducible refine (foldl_fixed _ _ _ (fun _ _ => ?_)).trans ?_) | (with_reducible refine (foldl_pair_fixed _ _ _ (fun _ _ => ?_)).trans ?_) | dsimp only | (simp_all; done))

@[simp] theorem State.learn_fixed (s : State) (key : List Byte) (p : Nat) : (State.learn s key p).fixed = s.fixed := by
  unfold State.learn
  repeat' (first | (simp only [↓State.count_fixed, ↓State.learnFull_fixed, ↓State.record_fixed, ↓State.setL2_fixed, ↓mk_fixed, ↓ite_fixed, ite_self, ↓st_ite]; done) | split | (simp only [↓State.count_fixed, ↓State.learnFull_fixed, ↓State.record_fixed, ↓State.setL2_fixed, ↓mk_fixed, ↓ite_fixed, ite_self, ↓st_ite]; split) | (simp only [↓State.count_fixed, ↓State.learnFull_fixed, ↓State.record_fixed, ↓State.setL2_fixed, ↓mk_fixed, ↓ite_fixed, ite_self, ↓st_ite]) | (with_reducible refine (foldl_fixed _ _ _ (fun _ _ => ?_)).trans ?_) | (with_reducible refine (foldl_pair_fixed _ _ _ (fun _ _ => ?_)).trans ?_) | dsimp only | (simp_all; done))

@[simp] theorem execLearnEvent_fixed (s : State) : (after (execLearnEvent s) s).fixed = s.fixed := by
  unfold execLearnEvent
  repeat (first | rw [after_next] | rw [after_ite] | fail)
  repeat' (first | (simp only [↓State.learn_fixed, ↓State.setNet_fixed, ↓mk_fixed, ↓ite_fixed, ite_self, ↓st_ite]; done) | split | (simp only [↓State.learn_fixed, ↓State.setNet_fixed, ↓mk_fixed, ↓ite_fixed, ite_self, ↓st_ite]; split) | (simp only [↓State.learn_fixed, ↓State.setNet_fixed, ↓mk_fixed, ↓ite_fixed, ite_self, ↓st_ite]) | (with_reducible refine (foldl_fixed _ _ _ (fun _ _ => ?_)).trans ?_) | (with_reducible refine (foldl_pair_fixed _ _ _ (fun _ _ => ?_)).trans ?_) | dsimp only | (simp_all; done))

@[simp] theorem execHeldExpiry_fixed (s : State) : (after (execHeldExpiry s) s).fixed = s.fixed := by
  unfold execHeldExpiry
  repeat (first | rw [after_next] | rw [after_ite] | fail)
  repeat' (first | (simp only [↓State.setL2_fixed, ↓mk_fixed, ↓ite_fixed, ite_self, ↓st_ite]; done) | split | (simp only [↓State.setL2_fixed, ↓mk_fixed, ↓ite_fixed, ite_self, ↓st_ite]; split) | (simp only [↓State.setL2_fixed, ↓mk_fixed, ↓ite_fixed, ite_self, ↓st_ite]) | (with_reducible refine (foldl_fixed _ _ _ (fun _ _ => ?_)).trans ?_) | (with_reducible refine (foldl_pair_fixed _ _ _ (fun _ _ => ?_)).trans ?_) | dsimp only | (simp_all; done))

@[simp] theorem execAgingSweep_fixed (bad : List Nat) (s : State) : (after (execAgingSweep bad s) s).fixed = s.fixed := by
  unfold execAgingSweep
  repeat (first | rw [after_next] | rw [after_ite] | fail)
  repeat' (first | (simp only [↓State.count_fixed, ↓State.parityFail_fixed, ↓State.setL2_fixed, ↓mk_fixed, ↓ite_fixed, ite_self, ↓st_ite]; done) | split | (simp only [↓State.count_fixed, ↓State.parityFail_fixed, ↓State.setL2_fixed, ↓mk_fixed, ↓ite_fixed, ite_self, ↓st_ite]; split) | (simp only [↓State.count_fixed, ↓State.parityFail_fixed, ↓State.setL2_fixed, ↓mk_fixed, ↓ite_fixed, ite_self, ↓st_ite]) | (with_reducible refine (foldl_fixed _ _ _ (fun _ _ => ?_)).trans ?_) | (with_reducible refine (foldl_pair_fixed _ _ _ (fun _ _ => ?_)).trans ?_) | dsimp only | (simp_all; done))

@[simp] theorem State.byRoute_fixed (s : State) (f : Frame) (e : Route) (pkt : List Byte) : (State.byRoute s f e pkt).1.fixed = s.fixed := by
  unfold State.byRoute
  repeat' (first | (simp only [↓State.count_fixed, ↓mk_fixed, ↓ite_fixed, ite_self, ↓st_ite]; done) | split | (simp only [↓State.count_fixed, ↓mk_fixed, ↓ite_fixed, ite_self, ↓st_ite]; split) | (simp only [↓State.count_fixed, ↓mk_fixed, ↓ite_fixed, ite_self, ↓st_ite]) | (with_reducible refine (foldl_fixed _ _ _ (fun _ _ => ?_)).trans ?_) | (with_reducible refine (foldl_pair_fixed _ _ _ (fun _ _ => ?_)).trans ?_) | dsimp only | (simp_all; done))

@[simp] theorem State.lpmPass_fixed (s : State) (f : Frame) (pkt : List Byte) (cand : List Nat) (pass : Nat) : (State.lpmPass s f pkt cand pass).1.fixed = s.fixed := by
  unfold State.lpmPass
  repeat' (first | (simp only [↓State.byRoute_fixed, ↓State.count_fixed, ↓State.record_fixed, ↓State.setNet_fixed, ↓mk_fixed, ↓ite_fixed, ite_self, ↓st_ite]; done) | split | (simp only [↓State.byRoute_fixed, ↓State.count_fixed, ↓State.record_fixed, ↓State.setNet_fixed, ↓mk_fixed, ↓ite_fixed, ite_self, ↓st_ite]; split) | (simp only [↓State.byRoute_fixed, ↓State.count_fixed, ↓State.record_fixed, ↓State.setNet_fixed, ↓mk_fixed, ↓ite_fixed, ite_self, ↓st_ite]) | (simp only [pair_fixed ‹State.byRoute _ _ _ _  = (_, _)› (State.byRoute_fixed _ _ _ _ ), ↓State.byRoute_fixed, ↓State.count_fixed, ↓State.record_fixed, ↓State.setNet_fixed, ↓mk_fixed, ↓ite_fixed, ite_self, ↓st_ite]) | (with_reducible refine (foldl_fixed _ _ _ (fun _ _ => ?_)).trans ?_) | (with_reducible refine (foldl_pair_fixed _ _ _ (fun _ _ => ?_)).trans ?_) | dsimp only | (simp_all; done))

@[simp] theorem State.route_fixed (s : State) (f : Frame) (pkt : List Byte) : (State.route s f pkt).1.fixed = s.fixed := by
  unfold State.route
  repeat' (first | (simp only [↓State.count_fixed, ↓State.lpmPass_fixed, ↓mk_fixed, ↓ite_fixed, ite_self, ↓st_ite]; done) | split | (simp only [↓State.count_fixed, ↓State.lpmPass_fixed, ↓mk_fixed, ↓ite_fixed, ite_self, ↓st_ite]; split) | (simp only [↓State.count_fixed, ↓State.lpmPass_fixed, ↓mk_fixed, ↓ite_fixed, ite_self, ↓st_ite]) | (simp only [pair_fixed ‹State.lpmPass _ _ _ _ _  = (_, _)› (State.lpmPass_fixed _ _ _ _ _ ), ↓State.count_fixed, ↓State.lpmPass_fixed, ↓mk_fixed, ↓ite_fixed, ite_self, ↓st_ite]) | (with_reducible refine (foldl_fixed _ _ _ (fun _ _ => ?_)).trans ?_) | (with_reducible refine (foldl_pair_fixed _ _ _ (fun _ _ => ?_)).trans ?_) | dsimp only | (simp_all; done))

@[simp] theorem State.flood_fixed (s : State) (f : Frame) (vid : Nat) : (State.flood s f vid).1.fixed = s.fixed := by
  unfold State.flood
  repeat' (first | (simp only [↓State.count_fixed, ↓mk_fixed, ↓ite_fixed, ite_self, ↓st_ite]; done) | split | (simp only [↓State.count_fixed, ↓mk_fixed, ↓ite_fixed, ite_self, ↓st_ite]; split) | (simp only [↓State.count_fixed, ↓mk_fixed, ↓ite_fixed, ite_self, ↓st_ite]) | (with_reducible refine (foldl_fixed _ _ _ (fun _ _ => ?_)).trans ?_) | (with_reducible refine (foldl_pair_fixed _ _ _ (fun _ _ => ?_)).trans ?_) | dsimp only | (simp_all; done))

@[simp] theorem State.bridge_fixed (s : State) (f : Frame) (vid : Nat) : (State.bridge s f vid).1.fixed = s.fixed := by
  unfold State.bridge
  repeat' (first | (simp only [↓State.flood_fixed, ↓mk_fixed, ↓ite_fixed, ite_self, ↓st_ite]; done) | split | (simp only [↓State.flood_fixed, ↓mk_fixed, ↓ite_fixed, ite_self, ↓st_ite]; split) | (simp only [↓State.flood_fixed, ↓mk_fixed, ↓ite_fixed, ite_self, ↓st_ite]) | (simp only [pair_fixed ‹State.flood _ _ _  = (_, _)› (State.flood_fixed _ _ _ ), ↓State.flood_fixed, ↓mk_fixed, ↓ite_fixed, ite_self, ↓st_ite]) | (with_reducible refine (foldl_fixed _ _ _ (fun _ _ => ?_)).trans ?_) | (with_reducible refine (foldl_pair_fixed _ _ _ (fun _ _ => ?_)).trans ?_) | dsimp only | (simp_all; done))

@[simp] theorem State.lookup_fixed (s : State) (f : Frame) : (State.lookup s f).1.fixed = s.fixed := by
  unfold State.lookup
  repeat' (first | (simp only [↓State.bridge_fixed, ↓State.count_fixed, ↓State.modFrame_fixed, ↓State.route_fixed, ↓mk_fixed, ↓ite_fixed, ite_self, ↓st_ite]; done) | split | (simp only [↓State.bridge_fixed, ↓State.count_fixed, ↓State.modFrame_fixed, ↓State.route_fixed, ↓mk_fixed, ↓ite_fixed, ite_self, ↓st_ite]; split) | (simp only [↓State.bridge_fixed, ↓State.count_fixed, ↓State.modFrame_fixed, ↓State.route_fixed, ↓mk_fixed, ↓ite_fixed, ite_self, ↓st_ite]) | (simp only [pair_fixed ‹State.route _ _ _  = (_, _)› (State.route_fixed _ _ _ ), ↓State.bridge_fixed, ↓State.count_fixed, ↓State.modFrame_fixed, ↓State.route_fixed, ↓mk_fixed, ↓ite_fixed, ite_self, ↓st_ite]) | (simp only [pair_fixed ‹State.bridge _ _ _  = (_, _)› (State.bridge_fixed _ _ _ ), ↓State.bridge_fixed, ↓State.count_fixed, ↓State.modFrame_fixed, ↓State.route_fixed, ↓mk_fixed, ↓ite_fixed, ite_self, ↓st_ite]) | (with_reducible refine (foldl_fixed _ _ _ (fun _ _ => ?_)).trans ?_) | (with_reducible refine (foldl_pair_fixed _ _ _ (fun _ _ => ?_)).trans ?_) | dsimp only | (simp_all; done))

@[simp] theorem State.toInner_fixed (s : State) (port id : Nat) (use : InnerUse) : (State.toInner s port id use).fixed = s.fixed := by
  unfold State.toInner
  repeat' (first | (simp only [↓State.modFrame_fixed, ↓State.setNet_fixed, ↓mk_fixed, ↓ite_fixed, ite_self, ↓st_ite]; done) | split | (simp only [↓State.modFrame_fixed, ↓State.setNet_fixed, ↓mk_fixed, ↓ite_fixed, ite_self, ↓st_ite]; split) | (simp only [↓State.modFrame_fixed, ↓State.setNet_fixed, ↓mk_fixed, ↓ite_fixed, ite_self, ↓st_ite]) | (with_reducible refine (foldl_fixed _ _ _ (fun _ _ => ?_)).trans ?_) | (with_reducible refine (foldl_pair_fixed _ _ _ (fun _ _ => ?_)).trans ?_) | dsimp only | (simp_all; done))

@[simp] theorem State.place_fixed (s : State) (id at' : Nat) (launch : Option Nat) (desc : Option Desc) (tsReq : Bool) (x0 : Verdict) : (State.place s id at' launch desc tsReq x0).fixed = s.fixed := by
  unfold State.place
  repeat' (first | (simp only [↓State.enqueue_fixed, ↓State.freeFrame_fixed, ↓State.modFrame_fixed, ↓State.setNet_fixed, ↓State.toInner_fixed, ↓mk_fixed, ↓ite_fixed, ite_self, ↓st_ite]; done) | split | (simp only [↓State.enqueue_fixed, ↓State.freeFrame_fixed, ↓State.modFrame_fixed, ↓State.setNet_fixed, ↓State.toInner_fixed, ↓mk_fixed, ↓ite_fixed, ite_self, ↓st_ite]; split) | (simp only [↓State.enqueue_fixed, ↓State.freeFrame_fixed, ↓State.modFrame_fixed, ↓State.setNet_fixed, ↓State.toInner_fixed, ↓mk_fixed, ↓ite_fixed, ite_self, ↓st_ite]) | (with_reducible refine (foldl_fixed _ _ _ (fun _ _ => ?_)).trans ?_) | (with_reducible refine (foldl_pair_fixed _ _ _ (fun _ _ => ?_)).trans ?_) | dsimp only | (simp_all; done))

@[simp] theorem execLpmRecirculate_fixed (parity : List (Nat × Nat)) (atNs : Nat) (s : State) : (after (execLpmRecirculate parity atNs s) s).fixed = s.fixed := by
  unfold execLpmRecirculate
  repeat (first | rw [after_next] | rw [after_ite] | fail)
  repeat' (first | (simp only [↓State.endDesc_fixed, ↓State.lpmPass_fixed, ↓State.parityFails_fixed, ↓State.place_fixed, ↓State.setNet_fixed, ↓mk_fixed, ↓ite_fixed, ite_self, ↓st_ite]; done) | split | (simp only [↓State.endDesc_fixed, ↓State.lpmPass_fixed, ↓State.parityFails_fixed, ↓State.place_fixed, ↓State.setNet_fixed, ↓mk_fixed, ↓ite_fixed, ite_self, ↓st_ite]; split) | (simp only [↓State.endDesc_fixed, ↓State.lpmPass_fixed, ↓State.parityFails_fixed, ↓State.place_fixed, ↓State.setNet_fixed, ↓mk_fixed, ↓ite_fixed, ite_self, ↓st_ite]) | (simp only [pair_fixed ‹State.lpmPass _ _ _ _ _  = (_, _)› (State.lpmPass_fixed _ _ _ _ _ ), ↓State.endDesc_fixed, ↓State.lpmPass_fixed, ↓State.parityFails_fixed, ↓State.place_fixed, ↓State.setNet_fixed, ↓mk_fixed, ↓ite_fixed, ite_self, ↓st_ite]) | (with_reducible refine (foldl_fixed _ _ _ (fun _ _ => ?_)).trans ?_) | (with_reducible refine (foldl_pair_fixed _ _ _ (fun _ _ => ?_)).trans ?_) | dsimp only | (simp_all; done))

@[simp] theorem State.ingressPacket_fixed (s : State) (p : Nat) (pkt : List Byte) : (State.ingressPacket s p pkt).fixed = s.fixed := by
  unfold State.ingressPacket
  repeat' (first | (simp only [↓State.admitDrop_fixed, ↓State.lookup_fixed, ↓State.place_fixed, ↓mk_fixed, ↓ite_fixed, ite_self, ↓st_ite]; done) | split | (simp only [↓State.admitDrop_fixed, ↓State.lookup_fixed, ↓State.place_fixed, ↓mk_fixed, ↓ite_fixed, ite_self, ↓st_ite]; split) | (simp only [↓State.admitDrop_fixed, ↓State.lookup_fixed, ↓State.place_fixed, ↓mk_fixed, ↓ite_fixed, ite_self, ↓st_ite]) | (simp only [optpair_fixed ‹State.storeFrame _ _ _ _ _ _  = some (_, _)› (fun _ h => State.storeFrame_fixed _ _ _ _ _ _  h), ↓State.admitDrop_fixed, ↓State.lookup_fixed, ↓State.place_fixed, ↓mk_fixed, ↓ite_fixed, ite_self, ↓st_ite]) | (simp only [pair_fixed ‹State.lookup _ _  = (_, _)› (State.lookup_fixed _ _ ), ↓State.admitDrop_fixed, ↓State.lookup_fixed, ↓State.place_fixed, ↓mk_fixed, ↓ite_fixed, ite_self, ↓st_ite]) | (with_reducible refine (foldl_fixed _ _ _ (fun _ _ => ?_)).trans ?_) | (with_reducible refine (foldl_pair_fixed _ _ _ (fun _ _ => ?_)).trans ?_) | dsimp only | (simp_all; done))

@[simp] theorem State.noteOversize_fixed (s : State) (p len : Nat) : (State.noteOversize s p len).fixed = s.fixed := by
  unfold State.noteOversize
  repeat' (first | (simp only [↓State.count_fixed, ↓State.record_fixed, ↓State.setNet_fixed, ↓mk_fixed, ↓ite_fixed, ite_self, ↓st_ite]; done) | split | (simp only [↓State.count_fixed, ↓State.record_fixed, ↓State.setNet_fixed, ↓mk_fixed, ↓ite_fixed, ite_self, ↓st_ite]; split) | (simp only [↓State.count_fixed, ↓State.record_fixed, ↓State.setNet_fixed, ↓mk_fixed, ↓ite_fixed, ite_self, ↓st_ite]) | (with_reducible refine (foldl_fixed _ _ _ (fun _ _ => ?_)).trans ?_) | (with_reducible refine (foldl_pair_fixed _ _ _ (fun _ _ => ?_)).trans ?_) | dsimp only | (simp_all; done))

@[simp] theorem State.noteOverflow_fixed (s : State) (p : Nat) : (State.noteOverflow s p).fixed = s.fixed := by
  unfold State.noteOverflow
  repeat' (first | (simp only [↓State.count_fixed, ↓State.record_fixed, ↓State.setNet_fixed, ↓mk_fixed, ↓ite_fixed, ite_self, ↓st_ite]; done) | split | (simp only [↓State.count_fixed, ↓State.record_fixed, ↓State.setNet_fixed, ↓mk_fixed, ↓ite_fixed, ite_self, ↓st_ite]; split) | (simp only [↓State.count_fixed, ↓State.record_fixed, ↓State.setNet_fixed, ↓mk_fixed, ↓ite_fixed, ite_self, ↓st_ite]) | (with_reducible refine (foldl_fixed _ _ _ (fun _ _ => ?_)).trans ?_) | (with_reducible refine (foldl_pair_fixed _ _ _ (fun _ _ => ?_)).trans ?_) | dsimp only | (simp_all; done))

@[simp] theorem State.intakeFault_fixed (s : State) (i : EthIn) (refused : Bool) : (State.intakeFault s i refused).1.fixed = s.fixed := by
  unfold State.intakeFault
  repeat' (first | (simp only [↓State.admitDrop_fixed, ↓State.count_fixed, ↓State.noteOverflow_fixed, ↓State.noteOversize_fixed, ↓mk_fixed, ↓ite_fixed, ite_self, ↓st_ite]; done) | split | (simp only [↓State.admitDrop_fixed, ↓State.count_fixed, ↓State.noteOverflow_fixed, ↓State.noteOversize_fixed, ↓mk_fixed, ↓ite_fixed, ite_self, ↓st_ite]; split) | (simp only [↓State.admitDrop_fixed, ↓State.count_fixed, ↓State.noteOverflow_fixed, ↓State.noteOversize_fixed, ↓mk_fixed, ↓ite_fixed, ite_self, ↓st_ite]) | (with_reducible refine (foldl_fixed _ _ _ (fun _ _ => ?_)).trans ?_) | (with_reducible refine (foldl_pair_fixed _ _ _ (fun _ _ => ?_)).trans ?_) | dsimp only | (simp_all; done))

theorem State.storeRx_fixed (s : State) (i : EthIn) {t} (h : State.storeRx s i = some t) : t.1.fixed = s.fixed := by
  simp only [State.storeRx] at h
  split at h
  · exact State.storeFrame_fixed _ _ _ _ _ _ h
  · split at h
    · exact State.storeFrame_fixed _ _ _ _ _ _ h
    · cases h

@[simp] theorem State.rxGood_fixed (s : State) (i : EthIn) (id : Nat) (f : Frame) (v : Verdict) : (State.rxGood s i id f v).fixed = s.fixed := by
  unfold State.rxGood
  repeat' (first | (simp only [↓State.learn_fixed, ↓State.modFrame_fixed, ↓State.place_fixed, ↓State.ptpReceive_fixed, ↓State.queueLearn_fixed, ↓State.startFrame_fixed, ↓mk_fixed, ↓ite_fixed, ite_self, ↓st_ite]; done) | split | (simp only [↓State.learn_fixed, ↓State.modFrame_fixed, ↓State.place_fixed, ↓State.ptpReceive_fixed, ↓State.queueLearn_fixed, ↓State.startFrame_fixed, ↓mk_fixed, ↓ite_fixed, ite_self, ↓st_ite]; split) | (simp only [↓State.learn_fixed, ↓State.modFrame_fixed, ↓State.place_fixed, ↓State.ptpReceive_fixed, ↓State.queueLearn_fixed, ↓State.startFrame_fixed, ↓mk_fixed, ↓ite_fixed, ite_self, ↓st_ite]) | (with_reducible refine (foldl_fixed _ _ _ (fun _ _ => ?_)).trans ?_) | (with_reducible refine (foldl_pair_fixed _ _ _ (fun _ _ => ?_)).trans ?_) | dsimp only | (simp_all; done))

@[simp] theorem State.rxBad_fixed (s : State) (i : EthIn) (id c : Nat) (f : Frame) (v : Verdict) : (State.rxBad s i id c f v).fixed = s.fixed := by
  unfold State.rxBad
  repeat' (first | (simp only [↓State.freeFrame_fixed, ↓State.modFrame_fixed, ↓State.place_fixed, ↓State.setQueue_fixed, ↓State.startFrame_fixed, ↓mk_fixed, ↓ite_fixed, ite_self, ↓st_ite]; done) | split | (simp only [↓State.freeFrame_fixed, ↓State.modFrame_fixed, ↓State.place_fixed, ↓State.setQueue_fixed, ↓State.startFrame_fixed, ↓mk_fixed, ↓ite_fixed, ite_self, ↓st_ite]; split) | (simp only [↓State.freeFrame_fixed, ↓State.modFrame_fixed, ↓State.place_fixed, ↓State.setQueue_fixed, ↓State.startFrame_fixed, ↓mk_fixed, ↓ite_fixed, ite_self, ↓st_ite]) | (with_reducible refine (foldl_fixed _ _ _ (fun _ _ => ?_)).trans ?_) | (with_reducible refine (foldl_pair_fixed _ _ _ (fun _ _ => ?_)).trans ?_) | dsimp only | (simp_all; done))

@[simp] theorem execEthFrameRx_fixed (i : EthIn) (s : State) : (after (execEthFrameRx i s) s).fixed = s.fixed := by
  unfold execEthFrameRx
  repeat (first | rw [after_next] | rw [after_ite] | fail)
  repeat' (first | (simp only [↓State.admitDrop_fixed, ↓State.count_fixed, ↓State.intakeFault_fixed, ↓State.lookup_fixed, ↓State.modFrame_fixed, ↓State.parityFails_fixed, ↓State.rxBad_fixed, ↓State.rxGood_fixed, ↓State.setFill_fixed, ↓State.weighPause_fixed, ↓mk_fixed, ↓ite_fixed, ite_self, ↓st_ite]; done) | split | (simp only [↓State.admitDrop_fixed, ↓State.count_fixed, ↓State.intakeFault_fixed, ↓State.lookup_fixed, ↓State.modFrame_fixed, ↓State.parityFails_fixed, ↓State.rxBad_fixed, ↓State.rxGood_fixed, ↓State.setFill_fixed, ↓State.weighPause_fixed, ↓mk_fixed, ↓ite_fixed, ite_self, ↓st_ite]; split) | (simp only [↓State.admitDrop_fixed, ↓State.count_fixed, ↓State.intakeFault_fixed, ↓State.lookup_fixed, ↓State.modFrame_fixed, ↓State.parityFails_fixed, ↓State.rxBad_fixed, ↓State.rxGood_fixed, ↓State.setFill_fixed, ↓State.weighPause_fixed, ↓mk_fixed, ↓ite_fixed, ite_self, ↓st_ite]) | (simp only [optpair_fixed ‹State.storeFrame _ _ _ _ _ _  = some (_, _)› (fun _ h => State.storeFrame_fixed _ _ _ _ _ _  h), ↓State.admitDrop_fixed, ↓State.count_fixed, ↓State.intakeFault_fixed, ↓State.lookup_fixed, ↓State.modFrame_fixed, ↓State.parityFails_fixed, ↓State.rxBad_fixed, ↓State.rxGood_fixed, ↓State.setFill_fixed, ↓State.weighPause_fixed, ↓mk_fixed, ↓ite_fixed, ite_self, ↓st_ite]) | (simp only [optpair_fixed ‹State.storeRx _ _  = some (_, _)› (fun _ h => State.storeRx_fixed _ _  h), ↓State.admitDrop_fixed, ↓State.count_fixed, ↓State.intakeFault_fixed, ↓State.lookup_fixed, ↓State.modFrame_fixed, ↓State.parityFails_fixed, ↓State.rxBad_fixed, ↓State.rxGood_fixed, ↓State.setFill_fixed, ↓State.weighPause_fixed, ↓mk_fixed, ↓ite_fixed, ite_self, ↓st_ite]) | (simp only [pair_fixed ‹State.lookup _ _  = (_, _)› (State.lookup_fixed _ _ ), ↓State.admitDrop_fixed, ↓State.count_fixed, ↓State.intakeFault_fixed, ↓State.lookup_fixed, ↓State.modFrame_fixed, ↓State.parityFails_fixed, ↓State.rxBad_fixed, ↓State.rxGood_fixed, ↓State.setFill_fixed, ↓State.weighPause_fixed, ↓mk_fixed, ↓ite_fixed, ite_self, ↓st_ite]) | (simp only [pair_fixed ‹State.intakeFault _ _ _  = (_, _)› (State.intakeFault_fixed _ _ _ ), ↓State.admitDrop_fixed, ↓State.count_fixed, ↓State.intakeFault_fixed, ↓State.lookup_fixed, ↓State.modFrame_fixed, ↓State.parityFails_fixed, ↓State.rxBad_fixed, ↓State.rxGood_fixed, ↓State.setFill_fixed, ↓State.weighPause_fixed, ↓mk_fixed, ↓ite_fixed, ite_self, ↓st_ite]) | (with_reducible refine (foldl_fixed _ _ _ (fun _ _ => ?_)).trans ?_) | (with_reducible refine (foldl_pair_fixed _ _ _ (fun _ _ => ?_)).trans ?_) | dsimp only | (simp_all; done))

@[simp] theorem State.forwardEdge_fixed (s : State) : (State.forwardEdge s).fixed = s.fixed := by
  unfold State.forwardEdge
  repeat' (first | (simp only [↓State.put_fixed, ↓State.setNet_fixed, ↓mk_fixed, ↓ite_fixed, ite_self, ↓st_ite]; done) | split | (simp only [↓State.put_fixed, ↓State.setNet_fixed, ↓mk_fixed, ↓ite_fixed, ite_self, ↓st_ite]; split) | (simp only [↓State.put_fixed, ↓State.setNet_fixed, ↓mk_fixed, ↓ite_fixed, ite_self, ↓st_ite]) | (with_reducible refine (foldl_fixed _ _ _ (fun _ _ => ?_)).trans ?_) | (with_reducible refine (foldl_pair_fixed _ _ _ (fun _ _ => ?_)).trans ?_) | dsimp only | (simp_all; done))

end Sys2Proof.Machine
end

