-- ==== Sys2Proof/Laws/FixedRadio.lean ====
section
/-! SUPPORT. What the operations of Machine/Radio.lean leave alone (Laws/Fixed.lean). -/

set_option linter.all false

namespace Sys2Proof.Machine

open Sys2Proof

@[simp] theorem State.noteBlank_fixed (s : State) (t : Tx) : (State.noteBlank s t).fixed = s.fixed := by
  unfold State.noteBlank
  repeat' (first | (simp only [↓State.setRad_fixed, ↓mk_fixed, ↓ite_fixed, ite_self, ↓st_ite]; done) | split | (simp only [↓State.setRad_fixed, ↓mk_fixed, ↓ite_fixed, ite_self, ↓st_ite]; split) | (simp only [↓State.setRad_fixed, ↓mk_fixed, ↓ite_fixed, ite_self, ↓st_ite]) | (with_reducible refine (foldl_fixed _ _ _ (fun _ _ => ?_)).trans ?_) | (with_reducible refine (foldl_pair_fixed _ _ _ (fun _ _ => ?_)).trans ?_) | dsimp only | (simp_all; done))

@[simp] theorem State.sweepTx_fixed (s : State) (by' : Nat) : (State.sweepTx s by').fixed = s.fixed := by
  unfold State.sweepTx
  repeat' (first | (simp only [↓State.emit_fixed, ↓State.noteBlank_fixed, ↓State.setRad_fixed, ↓State.showTx_fixed, ↓mk_fixed, ↓ite_fixed, ite_self, ↓st_ite]; done) | split | (simp only [↓State.emit_fixed, ↓State.noteBlank_fixed, ↓State.setRad_fixed, ↓State.showTx_fixed, ↓mk_fixed, ↓ite_fixed, ite_self, ↓st_ite]; split) | (simp only [↓State.emit_fixed, ↓State.noteBlank_fixed, ↓State.setRad_fixed, ↓State.showTx_fixed, ↓mk_fixed, ↓ite_fixed, ite_self, ↓st_ite]) | (with_reducible refine (foldl_fixed _ _ _ (fun _ _ => ?_)).trans ?_) | (with_reducible refine (foldl_pair_fixed _ _ _ (fun _ _ => ?_)).trans ?_) | dsimp only | (simp_all; done))

@[simp] theorem State.showLanes_fixed (s : State) : (State.showLanes s).fixed = s.fixed := by
  unfold State.showLanes
  repeat' (first | (simp only [↓State.put_fixed, ↓mk_fixed, ↓ite_fixed, ite_self, ↓st_ite]; done) | split | (simp only [↓State.put_fixed, ↓mk_fixed, ↓ite_fixed, ite_self, ↓st_ite]; split) | (simp only [↓State.put_fixed, ↓mk_fixed, ↓ite_fixed, ite_self, ↓st_ite]) | (with_reducible refine (foldl_fixed _ _ _ (fun _ _ => ?_)).trans ?_) | (with_reducible refine (foldl_pair_fixed _ _ _ (fun _ _ => ?_)).trans ?_) | dsimp only | (simp_all; done))

@[simp] theorem State.dropRx_fixed (s : State) (p : Nat) : (State.dropRx s p).1.fixed = s.fixed := by
  unfold State.dropRx
  repeat' (first | (simp only [↓State.setRad_fixed, ↓State.showLanes_fixed, ↓mk_fixed, ↓ite_fixed, ite_self, ↓st_ite]; done) | split | (simp only [↓State.setRad_fixed, ↓State.showLanes_fixed, ↓mk_fixed, ↓ite_fixed, ite_self, ↓st_ite]; split) | (simp only [↓State.setRad_fixed, ↓State.showLanes_fixed, ↓mk_fixed, ↓ite_fixed, ite_self, ↓st_ite]) | (with_reducible refine (foldl_fixed _ _ _ (fun _ _ => ?_)).trans ?_) | (with_reducible refine (foldl_pair_fixed _ _ _ (fun _ _ => ?_)).trans ?_) | dsimp only | (simp_all; done))

@[simp] theorem execRfClockLost_fixed (port : Nat) (devs : List Int) (s : State) : (after (execRfClockLost port devs s) s).fixed = s.fixed := by
  unfold execRfClockLost
  repeat (first | rw [after_next] | rw [after_ite] | fail)
  repeat' (first | (simp only [↓State.cutTx_fixed, ↓State.dropRx_fixed, ↓State.put_fixed, ↓State.record_fixed, ↓mk_fixed, ↓ite_fixed, ite_self, ↓st_ite]; done) | split | (simp only [↓State.cutTx_fixed, ↓State.dropRx_fixed, ↓State.put_fixed, ↓State.record_fixed, ↓mk_fixed, ↓ite_fixed, ite_self, ↓st_ite]; split) | (simp only [↓State.cutTx_fixed, ↓State.dropRx_fixed, ↓State.put_fixed, ↓State.record_fixed, ↓mk_fixed, ↓ite_fixed, ite_self, ↓st_ite]) | (simp only [pair_fixed ‹State.dropRx _ _  = (_, _)› (State.dropRx_fixed _ _ ), ↓State.cutTx_fixed, ↓State.dropRx_fixed, ↓State.put_fixed, ↓State.record_fixed, ↓mk_fixed, ↓ite_fixed, ite_self, ↓st_ite]) | (with_reducible refine (foldl_fixed _ _ _ (fun _ _ => ?_)).trans ?_) | (with_reducible refine (foldl_pair_fixed _ _ _ (fun _ _ => ?_)).trans ?_) | dsimp only | (simp_all; done))

@[simp] theorem execRfClockOk_fixed (port : Nat) (devs : List Int) (s : State) : (after (execRfClockOk port devs s) s).fixed = s.fixed := by
  unfold execRfClockOk
  repeat (first | rw [after_next] | rw [after_ite] | fail)
  repeat' (first | (simp only [↓State.put_fixed, ↓mk_fixed, ↓ite_fixed, ite_self, ↓st_ite]; done) | split | (simp only [↓State.put_fixed, ↓mk_fixed, ↓ite_fixed, ite_self, ↓st_ite]; split) | (simp only [↓State.put_fixed, ↓mk_fixed, ↓ite_fixed, ite_self, ↓st_ite]) | (with_reducible refine (foldl_fixed _ _ _ (fun _ _ => ?_)).trans ?_) | (with_reducible refine (foldl_pair_fixed _ _ _ (fun _ _ => ?_)).trans ?_) | dsimp only | (simp_all; done))

@[simp] theorem State.missLane_fixed (s : State) (kind : Nat) : (State.missLane s kind).fixed = s.fixed := by
  unfold State.missLane
  repeat' (first | (simp only [↓State.count_fixed, ↓State.setRad_fixed, ↓mk_fixed, ↓ite_fixed, ite_self, ↓st_ite]; done) | split | (simp only [↓State.count_fixed, ↓State.setRad_fixed, ↓mk_fixed, ↓ite_fixed, ite_self, ↓st_ite]; split) | (simp only [↓State.count_fixed, ↓State.setRad_fixed, ↓mk_fixed, ↓ite_fixed, ite_self, ↓st_ite]) | (with_reducible refine (foldl_fixed _ _ _ (fun _ _ => ?_)).trans ?_) | (with_reducible refine (foldl_pair_fixed _ _ _ (fun _ _ => ?_)).trans ?_) | dsimp only | (simp_all; done))

@[simp] theorem State.laneEdge_fixed (s : State) : (State.laneEdge s).fixed = s.fixed := by
  unfold State.laneEdge
  repeat' (first | (simp only [↓State.record_fixed, ↓State.setRad_fixed, ↓mk_fixed, ↓ite_fixed, ite_self, ↓st_ite]; done) | split | (simp only [↓State.record_fixed, ↓State.setRad_fixed, ↓mk_fixed, ↓ite_fixed, ite_self, ↓st_ite]; split) | (simp only [↓State.record_fixed, ↓State.setRad_fixed, ↓mk_fixed, ↓ite_fixed, ite_self, ↓st_ite]) | (with_reducible refine (foldl_fixed _ _ _ (fun _ _ => ?_)).trans ?_) | (with_reducible refine (foldl_pair_fixed _ _ _ (fun _ _ => ?_)).trans ?_) | dsimp only | (simp_all; done))

@[simp] theorem execPreambleDetect_fixed (port ch ns : Nat) (s : State) : (after (execPreambleDetect port ch ns s) s).fixed = s.fixed := by
  unfold execPreambleDetect
  repeat (first | rw [after_next] | rw [after_ite] | fail)
  repeat' (first | (simp only [↓State.missLane_fixed, ↓State.setRad_fixed, ↓State.showLanes_fixed, ↓mk_fixed, ↓ite_fixed, ite_self, ↓st_ite]; done) | split | (simp only [↓State.missLane_fixed, ↓State.setRad_fixed, ↓State.showLanes_fixed, ↓mk_fixed, ↓ite_fixed, ite_self, ↓st_ite]; split) | (simp only [↓State.missLane_fixed, ↓State.setRad_fixed, ↓State.showLanes_fixed, ↓mk_fixed, ↓ite_fixed, ite_self, ↓st_ite]) | (with_reducible refine (foldl_fixed _ _ _ (fun _ _ => ?_)).trans ?_) | (with_reducible refine (foldl_pair_fixed _ _ _ (fun _ _ => ?_)).trans ?_) | dsimp only | (simp_all; done))

@[simp] theorem State.refuseTx_fixed (s : State) (o : TxOwner) (port ch sn : Nat) : (State.refuseTx s o port ch sn).fixed = s.fixed := by
  unfold State.refuseTx
  repeat' (first | (simp only [↓State.count_fixed, ↓State.record_fixed, ↓State.reportTx_fixed, ↓mk_fixed, ↓ite_fixed, ite_self, ↓st_ite]; done) | split | (simp only [↓State.count_fixed, ↓State.record_fixed, ↓State.reportTx_fixed, ↓mk_fixed, ↓ite_fixed, ite_self, ↓st_ite]; split) | (simp only [↓State.count_fixed, ↓State.record_fixed, ↓State.reportTx_fixed, ↓mk_fixed, ↓ite_fixed, ite_self, ↓st_ite]) | (with_reducible refine (foldl_fixed _ _ _ (fun _ _ => ?_)).trans ?_) | (with_reducible refine (foldl_pair_fixed _ _ _ (fun _ _ => ?_)).trans ?_) | dsimp only | (simp_all; done))

@[simp] theorem State.rampDown_fixed (s : State) (now : Nat) (hit : List Tx) : (State.rampDown s now hit).fixed = s.fixed := by
  unfold State.rampDown
  repeat' (first | (simp only [↓State.count_fixed, ↓State.emit_fixed, ↓State.reportTx_fixed, ↓State.setRad_fixed, ↓State.showTx_fixed, ↓mk_fixed, ↓ite_fixed, ite_self, ↓st_ite]; done) | split | (simp only [↓State.count_fixed, ↓State.emit_fixed, ↓State.reportTx_fixed, ↓State.setRad_fixed, ↓State.showTx_fixed, ↓mk_fixed, ↓ite_fixed, ite_self, ↓st_ite]; split) | (simp only [↓State.count_fixed, ↓State.emit_fixed, ↓State.reportTx_fixed, ↓State.setRad_fixed, ↓State.showTx_fixed, ↓mk_fixed, ↓ite_fixed, ite_self, ↓st_ite]) | (with_reducible refine (foldl_fixed _ _ _ (fun _ _ => ?_)).trans ?_) | (with_reducible refine (foldl_pair_fixed _ _ _ (fun _ _ => ?_)).trans ?_) | dsimp only | (simp_all; done))

@[simp] theorem State.preemptPort_fixed (s : State) (now port : Nat) : (State.preemptPort s now port).fixed = s.fixed := by
  unfold State.preemptPort
  repeat' (first | (simp only [↓State.emit_fixed, ↓State.rampDown_fixed, ↓State.record_fixed, ↓State.sweepTx_fixed, ↓mk_fixed, ↓ite_fixed, ite_self, ↓st_ite]; done) | split | (simp only [↓State.emit_fixed, ↓State.rampDown_fixed, ↓State.record_fixed, ↓State.sweepTx_fixed, ↓mk_fixed, ↓ite_fixed, ite_self, ↓st_ite]; split) | (simp only [↓State.emit_fixed, ↓State.rampDown_fixed, ↓State.record_fixed, ↓State.sweepTx_fixed, ↓mk_fixed, ↓ite_fixed, ite_self, ↓st_ite]) | (with_reducible refine (foldl_fixed _ _ _ (fun _ _ => ?_)).trans ?_) | (with_reducible refine (foldl_pair_fixed _ _ _ (fun _ _ => ?_)).trans ?_) | dsimp only | (simp_all; done))

@[simp] theorem State.displace_fixed (s : State) (t : Tx) (now : Nat) : (State.displace s t now).fixed = s.fixed := by
  unfold State.displace
  repeat' (first | (simp only [↓State.rampDown_fixed, ↓State.record_fixed, ↓State.refuseTx_fixed, ↓State.setRad_fixed, ↓mk_fixed, ↓ite_fixed, ite_self, ↓st_ite]; done) | split | (simp only [↓State.rampDown_fixed, ↓State.record_fixed, ↓State.refuseTx_fixed, ↓State.setRad_fixed, ↓mk_fixed, ↓ite_fixed, ite_self, ↓st_ite]; split) | (simp only [↓State.rampDown_fixed, ↓State.record_fixed, ↓State.refuseTx_fixed, ↓State.setRad_fixed, ↓mk_fixed, ↓ite_fixed, ite_self, ↓st_ite]) | (with_reducible refine (foldl_fixed _ _ _ (fun _ _ => ?_)).trans ?_) | (with_reducible refine (foldl_pair_fixed _ _ _ (fun _ _ => ?_)).trans ?_) | dsimp only | (simp_all; done))

@[simp] theorem State.txRequest_fixed (s : State) (o : TxOwner) (port ch sn ns mcs std now : Nat) (bytes : List Byte) : (State.txRequest s o port ch sn ns mcs std now bytes).fixed = s.fixed := by
  unfold State.txRequest
  repeat' (first | (simp only [↓State.displace_fixed, ↓State.refuseTx_fixed, ↓State.setRad_fixed, ↓State.sweepTx_fixed, ↓mk_fixed, ↓ite_fixed, ite_self, ↓st_ite]; done) | split | (simp only [↓State.displace_fixed, ↓State.refuseTx_fixed, ↓State.setRad_fixed, ↓State.sweepTx_fixed, ↓mk_fixed, ↓ite_fixed, ite_self, ↓st_ite]; split) | (simp only [↓State.displace_fixed, ↓State.refuseTx_fixed, ↓State.setRad_fixed, ↓State.sweepTx_fixed, ↓mk_fixed, ↓ite_fixed, ite_self, ↓st_ite]) | (with_reducible refine (foldl_fixed _ _ _ (fun _ _ => ?_)).trans ?_) | (with_reducible refine (foldl_pair_fixed _ _ _ (fun _ _ => ?_)).trans ?_) | dsimp only | (simp_all; done))

@[simp] theorem execTxRequest_fixed (owner : TxOwner) (port ch sn ns mcs std atNs : Nat) (bytes : List Byte) (s : State) : (after (execTxRequest owner port ch sn ns mcs std atNs bytes s) s).fixed = s.fixed := by
  unfold execTxRequest
  repeat (first | rw [after_next] | rw [after_ite] | fail)
  repeat' (first | (simp only [↓State.txRequest_fixed, ↓mk_fixed, ↓ite_fixed, ite_self, ↓st_ite]; done) | split | (simp only [↓State.txRequest_fixed, ↓mk_fixed, ↓ite_fixed, ite_self, ↓st_ite]; split) | (simp only [↓State.txRequest_fixed, ↓mk_fixed, ↓ite_fixed, ite_self, ↓st_ite]) | (with_reducible refine (foldl_fixed _ _ _ (fun _ _ => ?_)).trans ?_) | (with_reducible refine (foldl_pair_fixed _ _ _ (fun _ _ => ?_)).trans ?_) | dsimp only | (simp_all; done))

@[simp] theorem State.airs_fixed (s : State) (t : Tx) : (State.airs s t).fixed = s.fixed := by
  unfold State.airs
  repeat' (first | (simp only [↓State.count_fixed, ↓State.dropRx_fixed, ↓State.emit_fixed, ↓State.showTx_fixed, ↓mk_fixed, ↓ite_fixed, ite_self, ↓st_ite]; done) | split | (simp only [↓State.count_fixed, ↓State.dropRx_fixed, ↓State.emit_fixed, ↓State.showTx_fixed, ↓mk_fixed, ↓ite_fixed, ite_self, ↓st_ite]; split) | (simp only [↓State.count_fixed, ↓State.dropRx_fixed, ↓State.emit_fixed, ↓State.showTx_fixed, ↓mk_fixed, ↓ite_fixed, ite_self, ↓st_ite]) | (simp only [pair_fixed ‹State.dropRx _ _  = (_, _)› (State.dropRx_fixed _ _ ), ↓State.count_fixed, ↓State.dropRx_fixed, ↓State.emit_fixed, ↓State.showTx_fixed, ↓mk_fixed, ↓ite_fixed, ite_self, ↓st_ite]) | (with_reducible refine (foldl_fixed _ _ _ (fun _ _ => ?_)).trans ?_) | (with_reducible refine (foldl_pair_fixed _ _ _ (fun _ _ => ?_)).trans ?_) | dsimp only | (simp_all; done))

@[simp] theorem State.clipTx_fixed (s : State) (p n : Nat) : (State.clipTx s p n).fixed = s.fixed := by
  unfold State.clipTx
  repeat' (first | (simp only [↓State.setRad_fixed, ↓mk_fixed, ↓ite_fixed, ite_self, ↓st_ite]; done) | split | (simp only [↓State.setRad_fixed, ↓mk_fixed, ↓ite_fixed, ite_self, ↓st_ite]; split) | (simp only [↓State.setRad_fixed, ↓mk_fixed, ↓ite_fixed, ite_self, ↓st_ite]) | (with_reducible refine (foldl_fixed _ _ _ (fun _ _ => ?_)).trans ?_) | (with_reducible refine (foldl_pair_fixed _ _ _ (fun _ _ => ?_)).trans ?_) | dsimp only | (simp_all; done))

@[simp] theorem State.raiseLines_fixed (s : State) (t : Tx) : (State.raiseLines s t).fixed = s.fixed := by
  unfold State.raiseLines
  repeat' (first | (simp only [↓State.emit_fixed, ↓mk_fixed, ↓ite_fixed, ite_self, ↓st_ite]; done) | split | (simp only [↓State.emit_fixed, ↓mk_fixed, ↓ite_fixed, ite_self, ↓st_ite]; split) | (simp only [↓State.emit_fixed, ↓mk_fixed, ↓ite_fixed, ite_self, ↓st_ite]) | (with_reducible refine (foldl_fixed _ _ _ (fun _ _ => ?_)).trans ?_) | (with_reducible refine (foldl_pair_fixed _ _ _ (fun _ _ => ?_)).trans ?_) | dsimp only | (simp_all; done))

@[simp] theorem execTxLaunch_fixed (id clips : Nat) (s : State) : (after (execTxLaunch id clips s) s).fixed = s.fixed := by
  unfold execTxLaunch
  repeat (first | rw [after_next] | rw [after_ite] | fail)
  repeat' (first | (simp only [↓State.airs_fixed, ↓State.clipTx_fixed, ↓State.raiseLines_fixed, ↓State.setRad_fixed, ↓State.sweepTx_fixed, ↓mk_fixed, ↓ite_fixed, ite_self, ↓st_ite]; done) | split | (simp only [↓State.airs_fixed, ↓State.clipTx_fixed, ↓State.raiseLines_fixed, ↓State.setRad_fixed, ↓State.sweepTx_fixed, ↓mk_fixed, ↓ite_fixed, ite_self, ↓st_ite]; split) | (simp only [↓State.airs_fixed, ↓State.clipTx_fixed, ↓State.raiseLines_fixed, ↓State.setRad_fixed, ↓State.sweepTx_fixed, ↓mk_fixed, ↓ite_fixed, ite_self, ↓st_ite]) | (with_reducible refine (foldl_fixed _ _ _ (fun _ _ => ?_)).trans ?_) | (with_reducible refine (foldl_pair_fixed _ _ _ (fun _ _ => ?_)).trans ?_) | dsimp only | (simp_all; done))

@[simp] theorem State.endTx_fixed (s : State) : (State.endTx s).fixed = s.fixed := by
  unfold State.endTx
  repeat' (first | (simp only [↓State.laneEdge_fixed, ↓State.sweepTx_fixed, ↓mk_fixed, ↓ite_fixed, ite_self, ↓st_ite]; done) | split | (simp only [↓State.laneEdge_fixed, ↓State.sweepTx_fixed, ↓mk_fixed, ↓ite_fixed, ite_self, ↓st_ite]; split) | (simp only [↓State.laneEdge_fixed, ↓State.sweepTx_fixed, ↓mk_fixed, ↓ite_fixed, ite_self, ↓st_ite]) | (with_reducible refine (foldl_fixed _ _ _ (fun _ _ => ?_)).trans ?_) | (with_reducible refine (foldl_pair_fixed _ _ _ (fun _ _ => ?_)).trans ?_) | dsimp only | (simp_all; done))

@[simp] theorem execRfSpiTransfer_fixed (port : Nat) (value : Word) (s : State) : (after (execRfSpiTransfer port value s) s).fixed = s.fixed := by
  unfold execRfSpiTransfer
  repeat (first | rw [after_next] | rw [after_ite] | fail)
  repeat' (first | (simp only [↓State.emit_fixed, ↓State.wr_fixed, ↓mk_fixed, ↓ite_fixed, ite_self, ↓st_ite]; done) | split | (simp only [↓State.emit_fixed, ↓State.wr_fixed, ↓mk_fixed, ↓ite_fixed, ite_self, ↓st_ite]; split) | (simp only [↓State.emit_fixed, ↓State.wr_fixed, ↓mk_fixed, ↓ite_fixed, ite_self, ↓st_ite]) | (with_reducible refine (foldl_fixed _ _ _ (fun _ _ => ?_)).trans ?_) | (with_reducible refine (foldl_pair_fixed _ _ _ (fun _ _ => ?_)).trans ?_) | dsimp only | (simp_all; done))

@[simp] theorem execRfSpiDone_fixed (port bits : Nat) (s : State) : (after (execRfSpiDone port bits s) s).fixed = s.fixed := by
  unfold execRfSpiDone
  repeat (first | rw [after_next] | rw [after_ite] | fail)
  repeat' (first | (simp only [↓State.put_fixed, ↓State.setNum_fixed, ↓mk_fixed, ↓ite_fixed, ite_self, ↓st_ite]; done) | split | (simp only [↓State.put_fixed, ↓State.setNum_fixed, ↓mk_fixed, ↓ite_fixed, ite_self, ↓st_ite]; split) | (simp only [↓State.put_fixed, ↓State.setNum_fixed, ↓mk_fixed, ↓ite_fixed, ite_self, ↓st_ite]) | (with_reducible refine (foldl_fixed _ _ _ (fun _ _ => ?_)).trans ?_) | (with_reducible refine (foldl_pair_fixed _ _ _ (fun _ _ => ?_)).trans ?_) | dsimp only | (simp_all; done))

@[simp] theorem execCalStart_fixed (value : Word) (s : State) : (after (execCalStart value s) s).fixed = s.fixed := by
  unfold execCalStart
  repeat (first | rw [after_next] | rw [after_ite] | fail)
  repeat' (first | (simp only [↓State.put_fixed, ↓State.setNum_fixed, ↓State.setRad_fixed, ↓mk_fixed, ↓ite_fixed, ite_self, ↓st_ite]; done) | split | (simp only [↓State.put_fixed, ↓State.setNum_fixed, ↓State.setRad_fixed, ↓mk_fixed, ↓ite_fixed, ite_self, ↓st_ite]; split) | (simp only [↓State.put_fixed, ↓State.setNum_fixed, ↓State.setRad_fixed, ↓mk_fixed, ↓ite_fixed, ite_self, ↓st_ite]) | (with_reducible refine (foldl_fixed _ _ _ (fun _ _ => ?_)).trans ?_) | (with_reducible refine (foldl_pair_fixed _ _ _ (fun _ _ => ?_)).trans ?_) | dsimp only | (simp_all; done))

@[simp] theorem execCalDone_fixed (rejection leak : Nat) (txCorr txDc rxCorr : Word) (s : State) : (after (execCalDone rejection leak txCorr txDc rxCorr s) s).fixed = s.fixed := by
  unfold execCalDone
  repeat (first | rw [after_next] | rw [after_ite] | fail)
  repeat' (first | (simp only [↓State.put_fixed, ↓State.record_fixed, ↓State.setNum_fixed, ↓State.setRad_fixed, ↓State.wr_fixed, ↓mk_fixed, ↓ite_fixed, ite_self, ↓st_ite]; done) | split | (simp only [↓State.put_fixed, ↓State.record_fixed, ↓State.setNum_fixed, ↓State.setRad_fixed, ↓State.wr_fixed, ↓mk_fixed, ↓ite_fixed, ite_self, ↓st_ite]; split) | (simp only [↓State.put_fixed, ↓State.record_fixed, ↓State.setNum_fixed, ↓State.setRad_fixed, ↓State.wr_fixed, ↓mk_fixed, ↓ite_fixed, ite_self, ↓st_ite]) | (with_reducible refine (foldl_fixed _ _ _ (fun _ _ => ?_)).trans ?_) | (with_reducible refine (foldl_pair_fixed _ _ _ (fun _ _ => ?_)).trans ?_) | dsimp only | (simp_all; done))

end Sys2Proof.Machine
end

