-- ==== Sys2Proof/Laws/FixedStop.lean ====
section
/-! SUPPORT. What the operations of Machine/Stop.lean leave alone (Laws/Fixed.lean). -/

set_option linter.all false

namespace Sys2Proof.Machine

open Sys2Proof

@[simp] theorem State.preemptFleet_fixed (s : State) (now : Nat) : (State.preemptFleet s now).fixed = s.fixed := by
  unfold State.preemptFleet
  repeat' (first | (simp only [↓State.preemptPort_fixed, ↓mk_fixed, ↓ite_fixed, ite_self, ↓st_ite]; done) | split | (simp only [↓State.preemptPort_fixed, ↓mk_fixed, ↓ite_fixed, ite_self, ↓st_ite]; split) | (simp only [↓State.preemptPort_fixed, ↓mk_fixed, ↓ite_fixed, ite_self, ↓st_ite]) | (with_reducible refine (foldl_fixed _ _ _ (fun _ _ => ?_)).trans ?_) | (with_reducible refine (foldl_pair_fixed _ _ _ (fun _ _ => ?_)).trans ?_) | dsimp only | (simp_all; done))

@[simp] theorem State.discardBuilt_fixed (s : State) (robot : Option Nat) : (State.discardBuilt s robot).fixed = s.fixed := by
  unfold State.discardBuilt
  repeat' (first | (simp only [↓State.setFlt_fixed, ↓State.setRad_fixed, ↓mk_fixed, ↓ite_fixed, ite_self, ↓st_ite]; done) | split | (simp only [↓State.setFlt_fixed, ↓State.setRad_fixed, ↓mk_fixed, ↓ite_fixed, ite_self, ↓st_ite]; split) | (simp only [↓State.setFlt_fixed, ↓State.setRad_fixed, ↓mk_fixed, ↓ite_fixed, ite_self, ↓st_ite]) | (with_reducible refine (foldl_fixed _ _ _ (fun _ _ => ?_)).trans ?_) | (with_reducible refine (foldl_pair_fixed _ _ _ (fun _ _ => ?_)).trans ?_) | dsimp only | (simp_all; done))

@[simp] theorem State.showQual_fixed (s : State) (sn ns : Nat) : (State.showQual s sn ns).fixed = s.fixed := by
  unfold State.showQual
  repeat' (first | (simp only [↓State.put_fixed, ↓State.setNum64_fixed, ↓mk_fixed, ↓ite_fixed, ite_self, ↓st_ite]; done) | split | (simp only [↓State.put_fixed, ↓State.setNum64_fixed, ↓mk_fixed, ↓ite_fixed, ite_self, ↓st_ite]; split) | (simp only [↓State.put_fixed, ↓State.setNum64_fixed, ↓mk_fixed, ↓ite_fixed, ite_self, ↓st_ite]) | (with_reducible refine (foldl_fixed _ _ _ (fun _ _ => ?_)).trans ?_) | (with_reducible refine (foldl_pair_fixed _ _ _ (fun _ _ => ?_)).trans ?_) | dsimp only | (simp_all; done))

@[simp] theorem State.raiseAll_fixed (s : State) (cause ns : Nat) : (State.raiseAll s cause ns).fixed = s.fixed := by
  unfold State.raiseAll
  repeat' (first | (simp only [↓State.applyOut_fixed, ↓State.count_fixed, ↓State.discardBuilt_fixed, ↓State.logInput_fixed, ↓State.preemptFleet_fixed, ↓State.put_fixed, ↓State.record_fixed, ↓State.setStp_fixed, ↓State.showQual_fixed, ↓mk_fixed, ↓ite_fixed, ite_self, ↓st_ite]; done) | split | (simp only [↓State.applyOut_fixed, ↓State.count_fixed, ↓State.discardBuilt_fixed, ↓State.logInput_fixed, ↓State.preemptFleet_fixed, ↓State.put_fixed, ↓State.record_fixed, ↓State.setStp_fixed, ↓State.showQual_fixed, ↓mk_fixed, ↓ite_fixed, ite_self, ↓st_ite]; split) | (simp only [↓State.applyOut_fixed, ↓State.count_fixed, ↓State.discardBuilt_fixed, ↓State.logInput_fixed, ↓State.preemptFleet_fixed, ↓State.put_fixed, ↓State.record_fixed, ↓State.setStp_fixed, ↓State.showQual_fixed, ↓mk_fixed, ↓ite_fixed, ite_self, ↓st_ite]) | (with_reducible refine (foldl_fixed _ _ _ (fun _ _ => ?_)).trans ?_) | (with_reducible refine (foldl_pair_fixed _ _ _ (fun _ _ => ?_)).trans ?_) | dsimp only | (simp_all; done))

@[simp] theorem State.showRobotStops_fixed (s : State) : (State.showRobotStops s).fixed = s.fixed := by
  unfold State.showRobotStops
  repeat' (first | (simp only [↓State.put_fixed, ↓State.setNum_fixed, ↓mk_fixed, ↓ite_fixed, ite_self, ↓st_ite]; done) | split | (simp only [↓State.put_fixed, ↓State.setNum_fixed, ↓mk_fixed, ↓ite_fixed, ite_self, ↓st_ite]; split) | (simp only [↓State.put_fixed, ↓State.setNum_fixed, ↓mk_fixed, ↓ite_fixed, ite_self, ↓st_ite]) | (with_reducible refine (foldl_fixed _ _ _ (fun _ _ => ?_)).trans ?_) | (with_reducible refine (foldl_pair_fixed _ _ _ (fun _ _ => ?_)).trans ?_) | dsimp only | (simp_all; done))

@[simp] theorem State.raiseRobot_fixed (s : State) (cause robot ns : Nat) : (State.raiseRobot s cause robot ns).fixed = s.fixed := by
  unfold State.raiseRobot
  repeat' (first | (simp only [↓State.applyOut_fixed, ↓State.count_fixed, ↓State.discardBuilt_fixed, ↓State.logInput_fixed, ↓State.preemptFleet_fixed, ↓State.record_fixed, ↓State.setStp_fixed, ↓State.showQual_fixed, ↓State.showRobotStops_fixed, ↓mk_fixed, ↓ite_fixed, ite_self, ↓st_ite]; done) | split | (simp only [↓State.applyOut_fixed, ↓State.count_fixed, ↓State.discardBuilt_fixed, ↓State.logInput_fixed, ↓State.preemptFleet_fixed, ↓State.record_fixed, ↓State.setStp_fixed, ↓State.showQual_fixed, ↓State.showRobotStops_fixed, ↓mk_fixed, ↓ite_fixed, ite_self, ↓st_ite]; split) | (simp only [↓State.applyOut_fixed, ↓State.count_fixed, ↓State.discardBuilt_fixed, ↓State.logInput_fixed, ↓State.preemptFleet_fixed, ↓State.record_fixed, ↓State.setStp_fixed, ↓State.showQual_fixed, ↓State.showRobotStops_fixed, ↓mk_fixed, ↓ite_fixed, ite_self, ↓st_ite]) | (with_reducible refine (foldl_fixed _ _ _ (fun _ _ => ?_)).trans ?_) | (with_reducible refine (foldl_pair_fixed _ _ _ (fun _ _ => ?_)).trans ?_) | dsimp only | (simp_all; done))

@[simp] theorem State.noteLevels_fixed (s : State) : (State.noteLevels s).fixed = s.fixed := by
  unfold State.noteLevels
  repeat' (first | (simp only [↓State.put_fixed, ↓State.setStp_fixed, ↓mk_fixed, ↓ite_fixed, ite_self, ↓st_ite]; done) | split | (simp only [↓State.put_fixed, ↓State.setStp_fixed, ↓mk_fixed, ↓ite_fixed, ite_self, ↓st_ite]; split) | (simp only [↓State.put_fixed, ↓State.setStp_fixed, ↓mk_fixed, ↓ite_fixed, ite_self, ↓st_ite]) | (with_reducible refine (foldl_fixed _ _ _ (fun _ _ => ?_)).trans ?_) | (with_reducible refine (foldl_pair_fixed _ _ _ (fun _ _ => ?_)).trans ?_) | dsimp only | (simp_all; done))

@[simp] theorem execStopInputQualify_fixed (b run : Bool) (heldUs ns : Nat) (s : State) : (after (execStopInputQualify b run heldUs ns s) s).fixed = s.fixed := by
  unfold execStopInputQualify
  repeat (first | rw [after_next] | rw [after_ite] | fail)
  repeat' (first | (simp only [↓State.noteLevels_fixed, ↓State.put_fixed, ↓State.raiseAll_fixed, ↓State.setStp_fixed, ↓mk_fixed, ↓ite_fixed, ite_self, ↓st_ite]; done) | split | (simp only [↓State.noteLevels_fixed, ↓State.put_fixed, ↓State.raiseAll_fixed, ↓State.setStp_fixed, ↓mk_fixed, ↓ite_fixed, ite_self, ↓st_ite]; split) | (simp only [↓State.noteLevels_fixed, ↓State.put_fixed, ↓State.raiseAll_fixed, ↓State.setStp_fixed, ↓mk_fixed, ↓ite_fixed, ite_self, ↓st_ite]) | (with_reducible refine (foldl_fixed _ _ _ (fun _ _ => ?_)).trans ?_) | (with_reducible refine (foldl_pair_fixed _ _ _ (fun _ _ => ?_)).trans ?_) | dsimp only | (simp_all; done))

@[simp] theorem execInputDiscrepancy_fixed (s : State) : (after (execInputDiscrepancy s) s).fixed = s.fixed := by
  unfold execInputDiscrepancy
  repeat (first | rw [after_next] | rw [after_ite] | fail)
  repeat' (first | (simp only [↓State.put_fixed, ↓State.record_fixed, ↓State.setStp_fixed, ↓mk_fixed, ↓ite_fixed, ite_self, ↓st_ite]; done) | split | (simp only [↓State.put_fixed, ↓State.record_fixed, ↓State.setStp_fixed, ↓mk_fixed, ↓ite_fixed, ite_self, ↓st_ite]; split) | (simp only [↓State.put_fixed, ↓State.record_fixed, ↓State.setStp_fixed, ↓mk_fixed, ↓ite_fixed, ite_self, ↓st_ite]) | (with_reducible refine (foldl_fixed _ _ _ (fun _ _ => ?_)).trans ?_) | (with_reducible refine (foldl_pair_fixed _ _ _ (fun _ _ => ?_)).trans ?_) | dsimp only | (simp_all; done))

@[simp] theorem execOutFault_fixed (output : Nat) (commanded readback : Bool) (heldUs ns : Nat) (s : State) : (after (execOutFault output commanded readback heldUs ns s) s).fixed = s.fixed := by
  unfold execOutFault
  repeat (first | rw [after_next] | rw [after_ite] | fail)
  repeat' (first | (simp only [↓State.put_fixed, ↓State.raiseAll_fixed, ↓State.record_fixed, ↓mk_fixed, ↓ite_fixed, ite_self, ↓st_ite]; done) | split | (simp only [↓State.put_fixed, ↓State.raiseAll_fixed, ↓State.record_fixed, ↓mk_fixed, ↓ite_fixed, ite_self, ↓st_ite]; split) | (simp only [↓State.put_fixed, ↓State.raiseAll_fixed, ↓State.record_fixed, ↓mk_fixed, ↓ite_fixed, ite_self, ↓st_ite]) | (with_reducible refine (foldl_fixed _ _ _ (fun _ _ => ?_)).trans ?_) | (with_reducible refine (foldl_pair_fixed _ _ _ (fun _ _ => ?_)).trans ?_) | dsimp only | (simp_all; done))

@[simp] theorem execOutputTest_fixed (s : State) : (after (execOutputTest s) s).fixed = s.fixed := by
  unfold execOutputTest
  repeat (first | rw [after_next] | rw [after_ite] | fail)
  repeat' (first | (simp only [↓State.applyOut_fixed, ↓State.setStp_fixed, ↓mk_fixed, ↓ite_fixed, ite_self, ↓st_ite]; done) | split | (simp only [↓State.applyOut_fixed, ↓State.setStp_fixed, ↓mk_fixed, ↓ite_fixed, ite_self, ↓st_ite]; split) | (simp only [↓State.applyOut_fixed, ↓State.setStp_fixed, ↓mk_fixed, ↓ite_fixed, ite_self, ↓st_ite]) | (with_reducible refine (foldl_fixed _ _ _ (fun _ _ => ?_)).trans ?_) | (with_reducible refine (foldl_pair_fixed _ _ _ (fun _ _ => ?_)).trans ?_) | dsimp only | (simp_all; done))

@[simp] theorem execOutputTestEnd_fixed (s : State) : (after (execOutputTestEnd s) s).fixed = s.fixed := by
  unfold execOutputTestEnd
  repeat (first | rw [after_next] | rw [after_ite] | fail)
  repeat' (first | (simp only [↓State.applyOut_fixed, ↓State.setStp_fixed, ↓mk_fixed, ↓ite_fixed, ite_self, ↓st_ite]; done) | split | (simp only [↓State.applyOut_fixed, ↓State.setStp_fixed, ↓mk_fixed, ↓ite_fixed, ite_self, ↓st_ite]; split) | (simp only [↓State.applyOut_fixed, ↓State.setStp_fixed, ↓mk_fixed, ↓ite_fixed, ite_self, ↓st_ite]) | (with_reducible refine (foldl_fixed _ _ _ (fun _ _ => ?_)).trans ?_) | (with_reducible refine (foldl_pair_fixed _ _ _ (fun _ _ => ?_)).trans ?_) | dsimp only | (simp_all; done))

@[simp] theorem execStopCut_fixed (s : State) : (after (execStopCut s) s).fixed = s.fixed := by
  unfold execStopCut
  repeat (first | rw [after_next] | rw [after_ite] | fail)
  repeat' (first | (simp only [↓State.setStp_fixed, ↓mk_fixed, ↓ite_fixed, ite_self, ↓st_ite]; done) | split | (simp only [↓State.setStp_fixed, ↓mk_fixed, ↓ite_fixed, ite_self, ↓st_ite]; split) | (simp only [↓State.setStp_fixed, ↓mk_fixed, ↓ite_fixed, ite_self, ↓st_ite]) | (with_reducible refine (foldl_fixed _ _ _ (fun _ _ => ?_)).trans ?_) | (with_reducible refine (foldl_pair_fixed _ _ _ (fun _ _ => ?_)).trans ?_) | dsimp only | (simp_all; done))

@[simp] theorem State.noteFirst_fixed (s : State) (chan qual bound : Nat) : (State.noteFirst s chan qual bound).fixed = s.fixed := by
  unfold State.noteFirst
  repeat' (first | (simp only [↓State.put_fixed, ↓State.record_fixed, ↓mk_fixed, ↓ite_fixed, ite_self, ↓st_ite]; done) | split | (simp only [↓State.put_fixed, ↓State.record_fixed, ↓mk_fixed, ↓ite_fixed, ite_self, ↓st_ite]; split) | (simp only [↓State.put_fixed, ↓State.record_fixed, ↓mk_fixed, ↓ite_fixed, ite_self, ↓st_ite]) | (with_reducible refine (foldl_fixed _ _ _ (fun _ _ => ?_)).trans ?_) | (with_reducible refine (foldl_pair_fixed _ _ _ (fun _ _ => ?_)).trans ?_) | dsimp only | (simp_all; done))

@[simp] theorem execStopFrameTx_fixed (chan : Nat) (s : State) : (after (execStopFrameTx chan s) s).fixed = s.fixed := by
  unfold execStopFrameTx
  repeat (first | rw [after_next] | rw [after_ite] | fail)
  repeat' (first | (simp only [↓State.airs_fixed, ↓State.count_fixed, ↓State.displace_fixed, ↓State.emit_fixed, ↓State.noteFirst_fixed, ↓State.put_fixed, ↓State.raiseLines_fixed, ↓State.setRad_fixed, ↓State.setStp_fixed, ↓State.sweepTx_fixed, ↓mk_fixed, ↓ite_fixed, ite_self, ↓st_ite]; done) | split | (simp only [↓State.airs_fixed, ↓State.count_fixed, ↓State.displace_fixed, ↓State.emit_fixed, ↓State.noteFirst_fixed, ↓State.put_fixed, ↓State.raiseLines_fixed, ↓State.setRad_fixed, ↓State.setStp_fixed, ↓State.sweepTx_fixed, ↓mk_fixed, ↓ite_fixed, ite_self, ↓st_ite]; split) | (simp only [↓State.airs_fixed, ↓State.count_fixed, ↓State.displace_fixed, ↓State.emit_fixed, ↓State.noteFirst_fixed, ↓State.put_fixed, ↓State.raiseLines_fixed, ↓State.setRad_fixed, ↓State.setStp_fixed, ↓State.sweepTx_fixed, ↓mk_fixed, ↓ite_fixed, ite_self, ↓st_ite]) | (with_reducible refine (foldl_fixed _ _ _ (fun _ _ => ?_)).trans ?_) | (with_reducible refine (foldl_pair_fixed _ _ _ (fun _ _ => ?_)).trans ?_) | dsimp only | (simp_all; done))

@[simp] theorem execFramePhaseEnd_fixed (s : State) : (after (execFramePhaseEnd s) s).fixed = s.fixed := by
  unfold execFramePhaseEnd
  repeat (first | rw [after_next] | rw [after_ite] | fail)
  repeat' (first | (simp only [↓State.put_fixed, ↓mk_fixed, ↓ite_fixed, ite_self, ↓st_ite]; done) | split | (simp only [↓State.put_fixed, ↓mk_fixed, ↓ite_fixed, ite_self, ↓st_ite]; split) | (simp only [↓State.put_fixed, ↓mk_fixed, ↓ite_fixed, ite_self, ↓st_ite]) | (with_reducible refine (foldl_fixed _ _ _ (fun _ _ => ?_)).trans ?_) | (with_reducible refine (foldl_pair_fixed _ _ _ (fun _ _ => ?_)).trans ?_) | dsimp only | (simp_all; done))

@[simp] theorem State.holdHostStop_fixed (s : State) (d : Desc) (robot : Option Nat) : (State.holdHostStop s d robot).fixed = s.fixed := by
  unfold State.holdHostStop
  repeat' (first | (simp only [↓State.sendMate_fixed, ↓State.setRings_fixed, ↓State.setStp_fixed, ↓mk_fixed, ↓ite_fixed, ite_self, ↓st_ite]; done) | split | (simp only [↓State.sendMate_fixed, ↓State.setRings_fixed, ↓State.setStp_fixed, ↓mk_fixed, ↓ite_fixed, ite_self, ↓st_ite]; split) | (simp only [↓State.sendMate_fixed, ↓State.setRings_fixed, ↓State.setStp_fixed, ↓mk_fixed, ↓ite_fixed, ite_self, ↓st_ite]) | (with_reducible refine (foldl_fixed _ _ _ (fun _ _ => ?_)).trans ?_) | (with_reducible refine (foldl_pair_fixed _ _ _ (fun _ _ => ?_)).trans ?_) | dsimp only | (simp_all; done))

@[simp] theorem execStpStop_fixed (d : Desc) (s : State) : (after (execStpStop d s) s).fixed = s.fixed := by
  unfold execStpStop
  repeat (first | rw [after_next] | rw [after_ite] | fail)
  repeat' (first | (simp only [↓State.command_fixed, ↓State.drawn_fixed, ↓State.holdHostStop_fixed, ↓State.ok_fixed, ↓State.raiseAll_fixed, ↓State.raiseRobot_fixed, ↓mk_fixed, ↓ite_fixed, ite_self, ↓st_ite]; done) | split | (simp only [↓State.command_fixed, ↓State.drawn_fixed, ↓State.holdHostStop_fixed, ↓State.ok_fixed, ↓State.raiseAll_fixed, ↓State.raiseRobot_fixed, ↓mk_fixed, ↓ite_fixed, ite_self, ↓st_ite]; split) | (simp only [↓State.command_fixed, ↓State.drawn_fixed, ↓State.holdHostStop_fixed, ↓State.ok_fixed, ↓State.raiseAll_fixed, ↓State.raiseRobot_fixed, ↓mk_fixed, ↓ite_fixed, ite_self, ↓st_ite]) | (with_reducible refine (State.command_fixed _ _ _ (fun _ => ?_)).trans ?_) | (with_reducible refine (foldl_fixed _ _ _ (fun _ _ => ?_)).trans ?_) | (with_reducible refine (foldl_pair_fixed _ _ _ (fun _ _ => ?_)).trans ?_) | dsimp only | (simp_all; done))

@[simp] theorem execStpQuery_fixed (d : Desc) (s : State) : (after (execStpQuery d s) s).fixed = s.fixed := by
  unfold execStpQuery
  repeat (first | rw [after_next] | rw [after_ite] | fail)
  repeat' (first | (simp only [↓State.answer_fixed, ↓State.command_fixed, ↓mk_fixed, ↓ite_fixed, ite_self, ↓st_ite]; done) | split | (simp only [↓State.answer_fixed, ↓State.command_fixed, ↓mk_fixed, ↓ite_fixed, ite_self, ↓st_ite]; split) | (simp only [↓State.answer_fixed, ↓State.command_fixed, ↓mk_fixed, ↓ite_fixed, ite_self, ↓st_ite]) | (with_reducible refine (State.command_fixed _ _ _ (fun _ => ?_)).trans ?_) | (with_reducible refine (foldl_fixed _ _ _ (fun _ _ => ?_)).trans ?_) | (with_reducible refine (foldl_pair_fixed _ _ _ (fun _ _ => ?_)).trans ?_) | dsimp only | (simp_all; done))

end Sys2Proof.Machine
end

