-- ==== Sys2Proof/Laws/FixedIntake.lean ====
section
/-! SUPPORT. What the operations of Machine/Intake.lean leave alone (Laws/Fixed.lean). -/

set_option linter.all false

namespace Sys2Proof.Machine

open Sys2Proof

@[simp] theorem State.presentIntake_fixed (s : State) (p cls : Nat) : (State.presentIntake s p cls).fixed = s.fixed := by
  unfold State.presentIntake
  repeat' (first | (simp only [↓State.addJob_fixed, ↓mk_fixed, ↓ite_fixed, ite_self, ↓st_ite]; done) | split | (simp only [↓State.addJob_fixed, ↓mk_fixed, ↓ite_fixed, ite_self, ↓st_ite]; split) | (simp only [↓State.addJob_fixed, ↓mk_fixed, ↓ite_fixed, ite_self, ↓st_ite]) | (with_reducible refine (foldl_fixed _ _ _ (fun _ _ => ?_)).trans ?_) | (with_reducible refine (foldl_pair_fixed _ _ _ (fun _ _ => ?_)).trans ?_) | dsimp only | (simp_all; done))

@[simp] theorem State.freeCell_fixed (s : State) (f : RxFrame) : (State.freeCell s f).fixed = s.fixed := by
  unfold State.freeCell
  repeat' (first | (simp only [↓State.freeFrame_fixed, ↓mk_fixed, ↓ite_fixed, ite_self, ↓st_ite]; done) | split | (simp only [↓State.freeFrame_fixed, ↓mk_fixed, ↓ite_fixed, ite_self, ↓st_ite]; split) | (simp only [↓State.freeFrame_fixed, ↓mk_fixed, ↓ite_fixed, ite_self, ↓st_ite]) | (with_reducible refine (foldl_fixed _ _ _ (fun _ _ => ?_)).trans ?_) | (with_reducible refine (foldl_pair_fixed _ _ _ (fun _ _ => ?_)).trans ?_) | dsimp only | (simp_all; done))

@[simp] theorem State.takeIntake_fixed (s : State) (f : RxFrame) : (State.takeIntake s f).fixed = s.fixed := by
  unfold State.takeIntake
  repeat' (first | (simp only [↓State.freeCell_fixed, ↓State.setRad_fixed, ↓mk_fixed, ↓ite_fixed, ite_self, ↓st_ite]; done) | split | (simp only [↓State.freeCell_fixed, ↓State.setRad_fixed, ↓mk_fixed, ↓ite_fixed, ite_self, ↓st_ite]; split) | (simp only [↓State.freeCell_fixed, ↓State.setRad_fixed, ↓mk_fixed, ↓ite_fixed, ite_self, ↓st_ite]) | (with_reducible refine (foldl_fixed _ _ _ (fun _ _ => ?_)).trans ?_) | (with_reducible refine (foldl_pair_fixed _ _ _ (fun _ _ => ?_)).trans ?_) | dsimp only | (simp_all; done))

@[simp] theorem State.dropIntake_fixed (s : State) (j : Job) : (State.dropIntake s j).fixed = s.fixed := by
  unfold State.dropIntake
  repeat' (first | (simp only [↓State.takeIntake_fixed, ↓mk_fixed, ↓ite_fixed, ite_self, ↓st_ite]; done) | split | (simp only [↓State.takeIntake_fixed, ↓mk_fixed, ↓ite_fixed, ite_self, ↓st_ite]; split) | (simp only [↓State.takeIntake_fixed, ↓mk_fixed, ↓ite_fixed, ite_self, ↓st_ite]) | (with_reducible refine (foldl_fixed _ _ _ (fun _ _ => ?_)).trans ?_) | (with_reducible refine (foldl_pair_fixed _ _ _ (fun _ _ => ?_)).trans ?_) | dsimp only | (simp_all; done))

@[simp] theorem State.runIntake_fixed (s : State) (port : Nat → Bool) (p : RxFrame → Bool) (body : Job → RxFrame → State → State) (hbody : ∀ a0 a1 a2, (body a0 a1 a2).fixed = a2.fixed) : (State.runIntake s port p body).fixed = s.fixed := by
  unfold State.runIntake
  repeat' (first | (simp only [↓hbody, ↓State.commitOne_fixed, ↓State.takeIntake_fixed, ↓mk_fixed, ↓ite_fixed, ite_self, ↓st_ite]; done) | split | (simp only [↓hbody, ↓State.commitOne_fixed, ↓State.takeIntake_fixed, ↓mk_fixed, ↓ite_fixed, ite_self, ↓st_ite]; split) | (simp only [↓hbody, ↓State.commitOne_fixed, ↓State.takeIntake_fixed, ↓mk_fixed, ↓ite_fixed, ite_self, ↓st_ite]) | (with_reducible refine (foldl_fixed _ _ _ (fun _ _ => ?_)).trans ?_) | (with_reducible refine (foldl_pair_fixed _ _ _ (fun _ _ => ?_)).trans ?_) | dsimp only | (simp_all; done))

@[simp] theorem State.immAck_fixed (s : State) (c : Nat) (h : LegacyHdr) (f : RxFrame) : (State.immAck s c h f).1.fixed = s.fixed := by
  unfold State.immAck
  repeat' (first | (simp only [↓State.emit_fixed, ↓State.operate_fixed, ↓mk_fixed, ↓ite_fixed, ite_self, ↓st_ite]; done) | split | (simp only [↓State.emit_fixed, ↓State.operate_fixed, ↓mk_fixed, ↓ite_fixed, ite_self, ↓st_ite]; split) | (simp only [↓State.emit_fixed, ↓State.operate_fixed, ↓mk_fixed, ↓ite_fixed, ite_self, ↓st_ite]) | (with_reducible refine (foldl_fixed _ _ _ (fun _ _ => ?_)).trans ?_) | (with_reducible refine (foldl_pair_fixed _ _ _ (fun _ _ => ?_)).trans ?_) | dsimp only | (simp_all; done))

@[simp] theorem State.rxHardware_fixed (s : State) (f : RxFrame) (ok : Bool) : (State.rxHardware s f ok).1.fixed = s.fixed := by
  unfold State.rxHardware
  repeat' (first | (simp only [↓State.count_fixed, ↓State.immAck_fixed, ↓State.ok_fixed, ↓mk_fixed, ↓ite_fixed, ite_self, ↓st_ite]; done) | split | (simp only [↓State.count_fixed, ↓State.immAck_fixed, ↓State.ok_fixed, ↓mk_fixed, ↓ite_fixed, ite_self, ↓st_ite]; split) | (simp only [↓State.count_fixed, ↓State.immAck_fixed, ↓State.ok_fixed, ↓mk_fixed, ↓ite_fixed, ite_self, ↓st_ite]) | (simp only [pair_fixed ‹State.immAck _ _ _ _  = (_, _)› (State.immAck_fixed _ _ _ _ ), ↓State.count_fixed, ↓State.immAck_fixed, ↓State.ok_fixed, ↓mk_fixed, ↓ite_fixed, ite_self, ↓st_ite]) | (with_reducible refine (foldl_fixed _ _ _ (fun _ _ => ?_)).trans ?_) | (with_reducible refine (foldl_pair_fixed _ _ _ (fun _ _ => ?_)).trans ?_) | dsimp only | (simp_all; done))

@[simp] theorem State.passFrame_fixed (s : State) (f : RxFrame) (ok : Bool) (fill : Nat) : (State.passFrame s f ok fill).fixed = s.fixed := by
  unfold State.passFrame
  repeat' (first | (simp only [↓State.admitDrop_fixed, ↓State.count_fixed, ↓State.ok_fixed, ↓State.presentIntake_fixed, ↓State.rxHardware_fixed, ↓State.setFill_fixed, ↓State.setRad_fixed, ↓mk_fixed, ↓ite_fixed, ite_self, ↓st_ite]; done) | split | (simp only [↓State.admitDrop_fixed, ↓State.count_fixed, ↓State.ok_fixed, ↓State.presentIntake_fixed, ↓State.rxHardware_fixed, ↓State.setFill_fixed, ↓State.setRad_fixed, ↓mk_fixed, ↓ite_fixed, ite_self, ↓st_ite]; split) | (simp only [↓State.admitDrop_fixed, ↓State.count_fixed, ↓State.ok_fixed, ↓State.presentIntake_fixed, ↓State.rxHardware_fixed, ↓State.setFill_fixed, ↓State.setRad_fixed, ↓mk_fixed, ↓ite_fixed, ite_self, ↓st_ite]) | (simp only [optpair_fixed ‹State.storeFrame _ _ _ _ _ _  = some (_, _)› (fun _ h => State.storeFrame_fixed _ _ _ _ _ _  h), ↓State.admitDrop_fixed, ↓State.count_fixed, ↓State.ok_fixed, ↓State.presentIntake_fixed, ↓State.rxHardware_fixed, ↓State.setFill_fixed, ↓State.setRad_fixed, ↓mk_fixed, ↓ite_fixed, ite_self, ↓st_ite]) | (simp only [pair_fixed ‹State.rxHardware _ _ _  = (_, _)› (State.rxHardware_fixed _ _ _ ), ↓State.admitDrop_fixed, ↓State.count_fixed, ↓State.ok_fixed, ↓State.presentIntake_fixed, ↓State.rxHardware_fixed, ↓State.setFill_fixed, ↓State.setRad_fixed, ↓mk_fixed, ↓ite_fixed, ite_self, ↓st_ite]) | (with_reducible refine (foldl_fixed _ _ _ (fun _ _ => ?_)).trans ?_) | (with_reducible refine (foldl_pair_fixed _ _ _ (fun _ _ => ?_)).trans ?_) | dsimp only | (simp_all; done))

@[simp] theorem execRadioFrameReceived_fixed (f : RxFrame) (air : RxAir) (ok : Bool) (fill : Nat) (s : State) : (after (execRadioFrameReceived f air ok fill s) s).fixed = s.fixed := by
  unfold execRadioFrameReceived
  repeat (first | rw [after_next] | rw [after_ite] | fail)
  repeat' (first | (simp only [↓State.ok_fixed, ↓State.passFrame_fixed, ↓State.setRad_fixed, ↓State.showLanes_fixed, ↓mk_fixed, ↓ite_fixed, ite_self, ↓st_ite]; done) | split | (simp only [↓State.ok_fixed, ↓State.passFrame_fixed, ↓State.setRad_fixed, ↓State.showLanes_fixed, ↓mk_fixed, ↓ite_fixed, ite_self, ↓st_ite]; split) | (simp only [↓State.ok_fixed, ↓State.passFrame_fixed, ↓State.setRad_fixed, ↓State.showLanes_fixed, ↓mk_fixed, ↓ite_fixed, ite_self, ↓st_ite]) | (with_reducible refine (foldl_fixed _ _ _ (fun _ _ => ?_)).trans ?_) | (with_reducible refine (foldl_pair_fixed _ _ _ (fun _ _ => ?_)).trans ?_) | dsimp only | (simp_all; done))

end Sys2Proof.Machine
end

