-- ==== Sys2Proof/Laws/FixedFleet.lean ====
section
/-! SUPPORT. What the operations of Machine/Fleet.lean leave alone (Laws/Fixed.lean). -/

set_option linter.all false

namespace Sys2Proof.Machine

open Sys2Proof

@[simp] theorem State.showFleet_fixed (s : State) : (State.showFleet s).fixed = s.fixed := by
  unfold State.showFleet
  repeat' (first | (simp only [↓State.setNum64_fixed, ↓mk_fixed, ↓ite_fixed, ite_self, ↓st_ite]; done) | split | (simp only [↓State.setNum64_fixed, ↓mk_fixed, ↓ite_fixed, ite_self, ↓st_ite]; split) | (simp only [↓State.setNum64_fixed, ↓mk_fixed, ↓ite_fixed, ite_self, ↓st_ite]) | (with_reducible refine (foldl_fixed _ _ _ (fun _ _ => ?_)).trans ?_) | (with_reducible refine (foldl_pair_fixed _ _ _ (fun _ _ => ?_)).trans ?_) | dsimp only | (simp_all; done))

@[simp] theorem State.queueElem_fixed (s : State) (robot rank epochSn : Nat) (e : Elem) : (State.queueElem s robot rank epochSn e).fixed = s.fixed := by
  unfold State.queueElem
  repeat' (first | (simp only [↓State.setFlt_fixed, ↓mk_fixed, ↓ite_fixed, ite_self, ↓st_ite]; done) | split | (simp only [↓State.setFlt_fixed, ↓mk_fixed, ↓ite_fixed, ite_self, ↓st_ite]; split) | (simp only [↓State.setFlt_fixed, ↓mk_fixed, ↓ite_fixed, ite_self, ↓st_ite]) | (with_reducible refine (foldl_fixed _ _ _ (fun _ _ => ?_)).trans ?_) | (with_reducible refine (foldl_pair_fixed _ _ _ (fun _ _ => ?_)).trans ?_) | dsimp only | (simp_all; done))

@[simp] theorem State.queueAck_fixed (s : State) (robot : Nat) : (State.queueAck s robot).fixed = s.fixed := by
  unfold State.queueAck
  repeat' (first | (simp only [↓State.queueElem_fixed, ↓mk_fixed, ↓ite_fixed, ite_self, ↓st_ite]; done) | split | (simp only [↓State.queueElem_fixed, ↓mk_fixed, ↓ite_fixed, ite_self, ↓st_ite]; split) | (simp only [↓State.queueElem_fixed, ↓mk_fixed, ↓ite_fixed, ite_self, ↓st_ite]) | (with_reducible refine (foldl_fixed _ _ _ (fun _ _ => ?_)).trans ?_) | (with_reducible refine (foldl_pair_fixed _ _ _ (fun _ _ => ?_)).trans ?_) | dsimp only | (simp_all; done))

@[simp] theorem State.fleetReply_fixed (s : State) (robot seq : Nat) (body : List Byte) : (State.fleetReply s robot seq body).fixed = s.fixed := by
  unfold State.fleetReply
  repeat' (first | (simp only [↓State.modRobot_fixed, ↓State.queueElem_fixed, ↓mk_fixed, ↓ite_fixed, ite_self, ↓st_ite]; done) | split | (simp only [↓State.modRobot_fixed, ↓State.queueElem_fixed, ↓mk_fixed, ↓ite_fixed, ite_self, ↓st_ite]; split) | (simp only [↓State.modRobot_fixed, ↓State.queueElem_fixed, ↓mk_fixed, ↓ite_fixed, ite_self, ↓st_ite]) | (with_reducible refine (foldl_fixed _ _ _ (fun _ _ => ?_)).trans ?_) | (with_reducible refine (foldl_pair_fixed _ _ _ (fun _ _ => ?_)).trans ?_) | dsimp only | (simp_all; done))

@[simp] theorem State.startSuperframe_fixed (s : State) (sf : Nat) : (State.startSuperframe s sf).fixed = s.fixed := by
  unfold State.startSuperframe
  repeat' (first | (simp only [↓State.queueElem_fixed, ↓State.setFlt_fixed, ↓mk_fixed, ↓ite_fixed, ite_self, ↓st_ite]; done) | split | (simp only [↓State.queueElem_fixed, ↓State.setFlt_fixed, ↓mk_fixed, ↓ite_fixed, ite_self, ↓st_ite]; split) | (simp only [↓State.queueElem_fixed, ↓State.setFlt_fixed, ↓mk_fixed, ↓ite_fixed, ite_self, ↓st_ite]) | (with_reducible refine (foldl_fixed _ _ _ (fun _ _ => ?_)).trans ?_) | (with_reducible refine (foldl_pair_fixed _ _ _ (fun _ _ => ?_)).trans ?_) | dsimp only | (simp_all; done))

@[simp] theorem State.keepBuilt_fixed (s : State) (b : BuiltFrame) : (State.keepBuilt s b).fixed = s.fixed := by
  unfold State.keepBuilt
  repeat' (first | (simp only [↓State.handOut_fixed, ↓State.setFlt_fixed, ↓mk_fixed, ↓ite_fixed, ite_self, ↓st_ite]; done) | split | (simp only [↓State.handOut_fixed, ↓State.setFlt_fixed, ↓mk_fixed, ↓ite_fixed, ite_self, ↓st_ite]; split) | (simp only [↓State.handOut_fixed, ↓State.setFlt_fixed, ↓mk_fixed, ↓ite_fixed, ite_self, ↓st_ite]) | (with_reducible refine (foldl_fixed _ _ _ (fun _ _ => ?_)).trans ?_) | (with_reducible refine (foldl_pair_fixed _ _ _ (fun _ _ => ?_)).trans ?_) | dsimp only | (simp_all; done))

@[simp] theorem State.buildPart_fixed (s : State) (sf p c : Nat) : (State.buildPart s sf p c).fixed = s.fixed := by
  unfold State.buildPart
  repeat' (first | (simp only [↓State.count_fixed, ↓State.keepBuilt_fixed, ↓State.record_fixed, ↓State.setFlt_fixed, ↓mk_fixed, ↓ite_fixed, ite_self, ↓st_ite]; done) | split | (simp only [↓State.count_fixed, ↓State.keepBuilt_fixed, ↓State.record_fixed, ↓State.setFlt_fixed, ↓mk_fixed, ↓ite_fixed, ite_self, ↓st_ite]; split) | (simp only [↓State.count_fixed, ↓State.keepBuilt_fixed, ↓State.record_fixed, ↓State.setFlt_fixed, ↓mk_fixed, ↓ite_fixed, ite_self, ↓st_ite]) | (with_reducible refine (foldl_fixed _ _ _ (fun _ _ => ?_)).trans ?_) | (with_reducible refine (foldl_pair_fixed _ _ _ (fun _ _ => ?_)).trans ?_) | dsimp only | (simp_all; done))

@[simp] theorem State.buildUnicast_fixed (s : State) (sn c : Nat) : (State.buildUnicast s sn c).fixed = s.fixed := by
  unfold State.buildUnicast
  repeat' (first | (simp only [↓State.keepBuilt_fixed, ↓State.setFlt_fixed, ↓mk_fixed, ↓ite_fixed, ite_self, ↓st_ite]; done) | split | (simp only [↓State.keepBuilt_fixed, ↓State.setFlt_fixed, ↓mk_fixed, ↓ite_fixed, ite_self, ↓st_ite]; split) | (simp only [↓State.keepBuilt_fixed, ↓State.setFlt_fixed, ↓mk_fixed, ↓ite_fixed, ite_self, ↓st_ite]) | (with_reducible refine (foldl_fixed _ _ _ (fun _ _ => ?_)).trans ?_) | (with_reducible refine (foldl_pair_fixed _ _ _ (fun _ _ => ?_)).trans ?_) | dsimp only | (simp_all; done))

@[simp] theorem execBeaconBuild_fixed (s : State) : (after (execBeaconBuild s) s).fixed = s.fixed := by
  unfold execBeaconBuild
  repeat (first | rw [after_next] | rw [after_ite] | fail)
  repeat' (first | (simp only [↓State.buildPart_fixed, ↓State.buildUnicast_fixed, ↓State.runWork_fixed, ↓State.startSuperframe_fixed, ↓mk_fixed, ↓ite_fixed, ite_self, ↓st_ite]; done) | split | (simp only [↓State.buildPart_fixed, ↓State.buildUnicast_fixed, ↓State.runWork_fixed, ↓State.startSuperframe_fixed, ↓mk_fixed, ↓ite_fixed, ite_self, ↓st_ite]; split) | (simp only [↓State.buildPart_fixed, ↓State.buildUnicast_fixed, ↓State.runWork_fixed, ↓State.startSuperframe_fixed, ↓mk_fixed, ↓ite_fixed, ite_self, ↓st_ite]) | (with_reducible refine (State.runWork_fixed _ _ _ _ (fun _ => ?_)).trans ?_) | (with_reducible refine (foldl_fixed _ _ _ (fun _ _ => ?_)).trans ?_) | (with_reducible refine (foldl_pair_fixed _ _ _ (fun _ _ => ?_)).trans ?_) | dsimp only | (simp_all; done))

@[simp] theorem State.releaseFleet_fixed (s : State) (n nowNs : Nat) : (State.releaseFleet s n nowNs).fixed = s.fixed := by
  unfold State.releaseFleet
  repeat' (first | (simp only [↓State.emit_fixed, ↓State.operate_fixed, ↓State.refuseTx_fixed, ↓State.setFlt_fixed, ↓State.txRequest_fixed, ↓mk_fixed, ↓ite_fixed, ite_self, ↓st_ite]; done) | split | (simp only [↓State.emit_fixed, ↓State.operate_fixed, ↓State.refuseTx_fixed, ↓State.setFlt_fixed, ↓State.txRequest_fixed, ↓mk_fixed, ↓ite_fixed, ite_self, ↓st_ite]; split) | (simp only [↓State.emit_fixed, ↓State.operate_fixed, ↓State.refuseTx_fixed, ↓State.setFlt_fixed, ↓State.txRequest_fixed, ↓mk_fixed, ↓ite_fixed, ite_self, ↓st_ite]) | (with_reducible refine (foldl_fixed _ _ _ (fun _ _ => ?_)).trans ?_) | (with_reducible refine (foldl_pair_fixed _ _ _ (fun _ _ => ?_)).trans ?_) | dsimp only | (simp_all; done))

@[simp] theorem State.fleetPacket_fixed (s : State) (port : Nat) (bytes : List Byte) : (State.fleetPacket s port bytes).fixed = s.fixed := by
  unfold State.fleetPacket
  repeat' (first | (simp only [↓State.count_fixed, ↓State.ingressPacket_fixed, ↓mk_fixed, ↓ite_fixed, ite_self, ↓st_ite]; done) | split | (simp only [↓State.count_fixed, ↓State.ingressPacket_fixed, ↓mk_fixed, ↓ite_fixed, ite_self, ↓st_ite]; split) | (simp only [↓State.count_fixed, ↓State.ingressPacket_fixed, ↓mk_fixed, ↓ite_fixed, ite_self, ↓st_ite]) | (with_reducible refine (foldl_fixed _ _ _ (fun _ _ => ?_)).trans ?_) | (with_reducible refine (foldl_pair_fixed _ _ _ (fun _ _ => ?_)).trans ?_) | dsimp only | (simp_all; done))

@[simp] theorem State.fleetFragment_fixed (s : State) (port robot arrival : Nat) (body : List Byte) : (State.fleetFragment s port robot arrival body).fixed = s.fixed := by
  unfold State.fleetFragment
  repeat' (first | (simp only [↓State.fleetPacket_fixed, ↓State.setFlt_fixed, ↓mk_fixed, ↓ite_fixed, ite_self, ↓st_ite]; done) | split | (simp only [↓State.fleetPacket_fixed, ↓State.setFlt_fixed, ↓mk_fixed, ↓ite_fixed, ite_self, ↓st_ite]; split) | (simp only [↓State.fleetPacket_fixed, ↓State.setFlt_fixed, ↓mk_fixed, ↓ite_fixed, ite_self, ↓st_ite]) | (with_reducible refine (foldl_fixed _ _ _ (fun _ _ => ?_)).trans ?_) | (with_reducible refine (foldl_pair_fixed _ _ _ (fun _ _ => ?_)).trans ?_) | dsimp only | (simp_all; done))

@[simp] theorem State.fleetHealth_fixed (s : State) (robot : Nat) (body : List Byte) : (State.fleetHealth s robot body).fixed = s.fixed := by
  unfold State.fleetHealth
  repeat' (first | (simp only [↓State.modRobot_fixed, ↓State.record_fixed, ↓mk_fixed, ↓ite_fixed, ite_self, ↓st_ite]; done) | split | (simp only [↓State.modRobot_fixed, ↓State.record_fixed, ↓mk_fixed, ↓ite_fixed, ite_self, ↓st_ite]; split) | (simp only [↓State.modRobot_fixed, ↓State.record_fixed, ↓mk_fixed, ↓ite_fixed, ite_self, ↓st_ite]) | (with_reducible refine (foldl_fixed _ _ _ (fun _ _ => ?_)).trans ?_) | (with_reducible refine (foldl_pair_fixed _ _ _ (fun _ _ => ?_)).trans ?_) | dsimp only | (simp_all; done))

@[simp] theorem State.presentElems_fixed (s : State) (old : Nat) (j : Job) : (State.presentElems s old j).fixed = s.fixed := by
  unfold State.presentElems
  repeat' (first | (simp only [↓State.addJob_fixed, ↓mk_fixed, ↓ite_fixed, ite_self, ↓st_ite]; done) | split | (simp only [↓State.addJob_fixed, ↓mk_fixed, ↓ite_fixed, ite_self, ↓st_ite]; split) | (simp only [↓State.addJob_fixed, ↓mk_fixed, ↓ite_fixed, ite_self, ↓st_ite]) | (with_reducible refine (foldl_fixed _ _ _ (fun _ _ => ?_)).trans ?_) | (with_reducible refine (foldl_pair_fixed _ _ _ (fun _ _ => ?_)).trans ?_) | dsimp only | (simp_all; done))

@[simp] theorem State.fleetDeliver_fixed (s : State) (port robot arrival seq : Nat) (es : List Elem) : (State.fleetDeliver s port robot arrival seq es).fixed = s.fixed := by
  unfold State.fleetDeliver
  repeat' (first | (simp only [↓State.count_fixed, ↓State.fleetFragment_fixed, ↓State.fleetHealth_fixed, ↓State.setFlt_fixed, ↓mk_fixed, ↓ite_fixed, ite_self, ↓st_ite]; done) | split | (simp only [↓State.count_fixed, ↓State.fleetFragment_fixed, ↓State.fleetHealth_fixed, ↓State.setFlt_fixed, ↓mk_fixed, ↓ite_fixed, ite_self, ↓st_ite]; split) | (simp only [↓State.count_fixed, ↓State.fleetFragment_fixed, ↓State.fleetHealth_fixed, ↓State.setFlt_fixed, ↓mk_fixed, ↓ite_fixed, ite_self, ↓st_ite]) | (with_reducible refine (foldl_fixed _ _ _ (fun _ _ => ?_)).trans ?_) | (with_reducible refine (foldl_pair_fixed _ _ _ (fun _ _ => ?_)).trans ?_) | dsimp only | (simp_all; done))

@[simp] theorem State.noteAccepted_fixed (s : State) (robot arrival : Nat) (snr : Int) : (State.noteAccepted s robot arrival snr).fixed = s.fixed := by
  unfold State.noteAccepted
  repeat' (first | (simp only [↓State.modRobot_fixed, ↓State.queueAck_fixed, ↓mk_fixed, ↓ite_fixed, ite_self, ↓st_ite]; done) | split | (simp only [↓State.modRobot_fixed, ↓State.queueAck_fixed, ↓mk_fixed, ↓ite_fixed, ite_self, ↓st_ite]; split) | (simp only [↓State.modRobot_fixed, ↓State.queueAck_fixed, ↓mk_fixed, ↓ite_fixed, ite_self, ↓st_ite]) | (with_reducible refine (foldl_fixed _ _ _ (fun _ _ => ?_)).trans ?_) | (with_reducible refine (foldl_pair_fixed _ _ _ (fun _ _ => ?_)).trans ?_) | dsimp only | (simp_all; done))

@[simp] theorem State.seqRule_fixed (s : State) (robot port arrival flags seq : Nat) (snr : Int) (es : List Elem) : (State.seqRule s robot port arrival flags seq snr es).fixed = s.fixed := by
  unfold State.seqRule
  repeat' (first | (simp only [↓State.count_fixed, ↓State.fleetDeliver_fixed, ↓State.modRobot_fixed, ↓State.noteAccepted_fixed, ↓State.queueAck_fixed, ↓State.queueElem_fixed, ↓State.record_fixed, ↓mk_fixed, ↓ite_fixed, ite_self, ↓st_ite]; done) | split | (simp only [↓State.count_fixed, ↓State.fleetDeliver_fixed, ↓State.modRobot_fixed, ↓State.noteAccepted_fixed, ↓State.queueAck_fixed, ↓State.queueElem_fixed, ↓State.record_fixed, ↓mk_fixed, ↓ite_fixed, ite_self, ↓st_ite]; split) | (simp only [↓State.count_fixed, ↓State.fleetDeliver_fixed, ↓State.modRobot_fixed, ↓State.noteAccepted_fixed, ↓State.queueAck_fixed, ↓State.queueElem_fixed, ↓State.record_fixed, ↓mk_fixed, ↓ite_fixed, ite_self, ↓st_ite]) | (with_reducible refine (foldl_fixed _ _ _ (fun _ _ => ?_)).trans ?_) | (with_reducible refine (foldl_pair_fixed _ _ _ (fun _ _ => ?_)).trans ?_) | dsimp only | (simp_all; done))

@[simp] theorem State.fleetAuthFail_fixed (s : State) (r : Nat) (x : Robot) (c arrival : Nat) : (State.fleetAuthFail s r x c arrival).fixed = s.fixed := by
  unfold State.fleetAuthFail
  repeat' (first | (simp only [↓State.count_fixed, ↓State.modRobot_fixed, ↓State.record_fixed, ↓mk_fixed, ↓ite_fixed, ite_self, ↓st_ite]; done) | split | (simp only [↓State.count_fixed, ↓State.modRobot_fixed, ↓State.record_fixed, ↓mk_fixed, ↓ite_fixed, ite_self, ↓st_ite]; split) | (simp only [↓State.count_fixed, ↓State.modRobot_fixed, ↓State.record_fixed, ↓mk_fixed, ↓ite_fixed, ite_self, ↓st_ite]) | (with_reducible refine (foldl_fixed _ _ _ (fun _ _ => ?_)).trans ?_) | (with_reducible refine (foldl_pair_fixed _ _ _ (fun _ _ => ?_)).trans ?_) | dsimp only | (simp_all; done))

@[simp] theorem State.acceptUplink_fixed (s : State) (c : Nat) (f : RxFrame) (micOk : Bool) : (State.acceptUplink s c f micOk).fixed = s.fixed := by
  unfold State.acceptUplink
  repeat' (first | (simp only [↓State.count_fixed, ↓State.fleetAuthFail_fixed, ↓State.modRobot_fixed, ↓State.record_fixed, ↓State.seqRule_fixed, ↓State.setFlt_fixed, ↓mk_fixed, ↓ite_fixed, ite_self, ↓st_ite]; done) | split | (simp only [↓State.count_fixed, ↓State.fleetAuthFail_fixed, ↓State.modRobot_fixed, ↓State.record_fixed, ↓State.seqRule_fixed, ↓State.setFlt_fixed, ↓mk_fixed, ↓ite_fixed, ite_self, ↓st_ite]; split) | (simp only [↓State.count_fixed, ↓State.fleetAuthFail_fixed, ↓State.modRobot_fixed, ↓State.record_fixed, ↓State.seqRule_fixed, ↓State.setFlt_fixed, ↓mk_fixed, ↓ite_fixed, ite_self, ↓st_ite]) | (with_reducible refine (foldl_fixed _ _ _ (fun _ _ => ?_)).trans ?_) | (with_reducible refine (foldl_pair_fixed _ _ _ (fun _ _ => ?_)).trans ?_) | dsimp only | (simp_all; done))

@[simp] theorem execUplinkAccept_fixed (micOk : Bool) (s : State) : (after (execUplinkAccept micOk s) s).fixed = s.fixed := by
  unfold execUplinkAccept
  repeat (first | rw [after_next] | rw [after_ite] | fail)
  repeat' (first | (simp only [↓State.acceptUplink_fixed, ↓State.presentElems_fixed, ↓State.runIntake_fixed, ↓mk_fixed, ↓ite_fixed, ite_self, ↓st_ite]; done) | split | (simp only [↓State.acceptUplink_fixed, ↓State.presentElems_fixed, ↓State.runIntake_fixed, ↓mk_fixed, ↓ite_fixed, ite_self, ↓st_ite]; split) | (simp only [↓State.acceptUplink_fixed, ↓State.presentElems_fixed, ↓State.runIntake_fixed, ↓mk_fixed, ↓ite_fixed, ite_self, ↓st_ite]) | (with_reducible refine (State.runIntake_fixed _ _ _ _ (fun _ _ _ => ?_)).trans ?_) | (with_reducible refine (foldl_fixed _ _ _ (fun _ _ => ?_)).trans ?_) | (with_reducible refine (foldl_pair_fixed _ _ _ (fun _ _ => ?_)).trans ?_) | dsimp only | (simp_all; done))

@[simp] theorem execRobotSilent_fixed (robot : Nat) (s : State) : (after (execRobotSilent robot s) s).fixed = s.fixed := by
  unfold execRobotSilent
  repeat (first | rw [after_next] | rw [after_ite] | fail)
  repeat' (first | (simp only [↓State.modRobot_fixed, ↓State.record_fixed, ↓mk_fixed, ↓ite_fixed, ite_self, ↓st_ite]; done) | split | (simp only [↓State.modRobot_fixed, ↓State.record_fixed, ↓mk_fixed, ↓ite_fixed, ite_self, ↓st_ite]; split) | (simp only [↓State.modRobot_fixed, ↓State.record_fixed, ↓mk_fixed, ↓ite_fixed, ite_self, ↓st_ite]) | (with_reducible refine (foldl_fixed _ _ _ (fun _ _ => ?_)).trans ?_) | (with_reducible refine (foldl_pair_fixed _ _ _ (fun _ _ => ?_)).trans ?_) | dsimp only | (simp_all; done))

@[simp] theorem execDataReassemblyTimeout_fixed (s : State) : (after (execDataReassemblyTimeout s) s).fixed = s.fixed := by
  unfold execDataReassemblyTimeout
  repeat (first | rw [after_next] | rw [after_ite] | fail)
  repeat' (first | (simp only [↓State.count_fixed, ↓State.setFlt_fixed, ↓mk_fixed, ↓ite_fixed, ite_self, ↓st_ite]; done) | split | (simp only [↓State.count_fixed, ↓State.setFlt_fixed, ↓mk_fixed, ↓ite_fixed, ite_self, ↓st_ite]; split) | (simp only [↓State.count_fixed, ↓State.setFlt_fixed, ↓mk_fixed, ↓ite_fixed, ite_self, ↓st_ite]) | (with_reducible refine (foldl_fixed _ _ _ (fun _ _ => ?_)).trans ?_) | (with_reducible refine (foldl_pair_fixed _ _ _ (fun _ _ => ?_)).trans ?_) | dsimp only | (simp_all; done))

@[simp] theorem State.dropRover_fixed (s : State) (r : Nat) : (State.dropRover s r).fixed = s.fixed := by
  unfold State.dropRover
  repeat' (first | (simp only [↓State.put_fixed, ↓State.setBsl_fixed, ↓mk_fixed, ↓ite_fixed, ite_self, ↓st_ite]; done) | split | (simp only [↓State.put_fixed, ↓State.setBsl_fixed, ↓mk_fixed, ↓ite_fixed, ite_self, ↓st_ite]; split) | (simp only [↓State.put_fixed, ↓State.setBsl_fixed, ↓mk_fixed, ↓ite_fixed, ite_self, ↓st_ite]) | (with_reducible refine (foldl_fixed _ _ _ (fun _ _ => ?_)).trans ?_) | (with_reducible refine (foldl_pair_fixed _ _ _ (fun _ _ => ?_)).trans ?_) | dsimp only | (simp_all; done))

@[simp] theorem State.retireHolds_fixed (s : State) (r : Nat) : (State.retireHolds s r).fixed = s.fixed := by
  unfold State.retireHolds
  repeat' (first | (simp only [↓State.setAlt_fixed, ↓mk_fixed, ↓ite_fixed, ite_self, ↓st_ite]; done) | split | (simp only [↓State.setAlt_fixed, ↓mk_fixed, ↓ite_fixed, ite_self, ↓st_ite]; split) | (simp only [↓State.setAlt_fixed, ↓mk_fixed, ↓ite_fixed, ite_self, ↓st_ite]) | (with_reducible refine (foldl_fixed _ _ _ (fun _ _ => ?_)).trans ?_) | (with_reducible refine (foldl_pair_fixed _ _ _ (fun _ _ => ?_)).trans ?_) | dsimp only | (simp_all; done))

@[simp] theorem execFltRobotEnrol_fixed (d : Desc) (s : State) : (after (execFltRobotEnrol d s) s).fixed = s.fixed := by
  unfold execFltRobotEnrol
  repeat (first | rw [after_next] | rw [after_ite] | fail)
  repeat' (first | (simp only [↓State.command_fixed, ↓State.dropRover_fixed, ↓State.fail_fixed, ↓State.ok_fixed, ↓State.record_fixed, ↓State.setFlt_fixed, ↓State.usedS_fixed, ↓mk_fixed, ↓ite_fixed, ite_self, ↓st_ite]; done) | split | (simp only [↓State.command_fixed, ↓State.dropRover_fixed, ↓State.fail_fixed, ↓State.ok_fixed, ↓State.record_fixed, ↓State.setFlt_fixed, ↓State.usedS_fixed, ↓mk_fixed, ↓ite_fixed, ite_self, ↓st_ite]; split) | (simp only [↓State.command_fixed, ↓State.dropRover_fixed, ↓State.fail_fixed, ↓State.ok_fixed, ↓State.record_fixed, ↓State.setFlt_fixed, ↓State.usedS_fixed, ↓mk_fixed, ↓ite_fixed, ite_self, ↓st_ite]) | (with_reducible refine (State.command_fixed _ _ _ (fun _ => ?_)).trans ?_) | (with_reducible refine (foldl_fixed _ _ _ (fun _ _ => ?_)).trans ?_) | (with_reducible refine (foldl_pair_fixed _ _ _ (fun _ _ => ?_)).trans ?_) | dsimp only | (simp_all; done))

@[simp] theorem execFltRobotSlots_fixed (d : Desc) (s : State) : (after (execFltRobotSlots d s) s).fixed = s.fixed := by
  unfold execFltRobotSlots
  repeat (first | rw [after_next] | rw [after_ite] | fail)
  repeat' (first | (simp only [↓State.command_fixed, ↓State.fail_fixed, ↓State.modRobot_fixed, ↓State.ok_fixed, ↓mk_fixed, ↓ite_fixed, ite_self, ↓st_ite]; done) | split | (simp only [↓State.command_fixed, ↓State.fail_fixed, ↓State.modRobot_fixed, ↓State.ok_fixed, ↓mk_fixed, ↓ite_fixed, ite_self, ↓st_ite]; split) | (simp only [↓State.command_fixed, ↓State.fail_fixed, ↓State.modRobot_fixed, ↓State.ok_fixed, ↓mk_fixed, ↓ite_fixed, ite_self, ↓st_ite]) | (with_reducible refine (State.command_fixed _ _ _ (fun _ => ?_)).trans ?_) | (with_reducible refine (foldl_fixed _ _ _ (fun _ _ => ?_)).trans ?_) | (with_reducible refine (foldl_pair_fixed _ _ _ (fun _ _ => ?_)).trans ?_) | dsimp only | (simp_all; done))

@[simp] theorem execFltRobotRetire_fixed (d : Desc) (s : State) : (after (execFltRobotRetire d s) s).fixed = s.fixed := by
  unfold execFltRobotRetire
  repeat (first | rw [after_next] | rw [after_ite] | fail)
  repeat' (first | (simp only [↓State.command_fixed, ↓State.dropRover_fixed, ↓State.fail_fixed, ↓State.modRobot_fixed, ↓State.ok_fixed, ↓State.record_fixed, ↓State.retireHolds_fixed, ↓State.setFlt_fixed, ↓mk_fixed, ↓ite_fixed, ite_self, ↓st_ite]; done) | split | (simp only [↓State.command_fixed, ↓State.dropRover_fixed, ↓State.fail_fixed, ↓State.modRobot_fixed, ↓State.ok_fixed, ↓State.record_fixed, ↓State.retireHolds_fixed, ↓State.setFlt_fixed, ↓mk_fixed, ↓ite_fixed, ite_self, ↓st_ite]; split) | (simp only [↓State.command_fixed, ↓State.dropRover_fixed, ↓State.fail_fixed, ↓State.modRobot_fixed, ↓State.ok_fixed, ↓State.record_fixed, ↓State.retireHolds_fixed, ↓State.setFlt_fixed, ↓mk_fixed, ↓ite_fixed, ite_self, ↓st_ite]) | (with_reducible refine (State.command_fixed _ _ _ (fun _ => ?_)).trans ?_) | (with_reducible refine (foldl_fixed _ _ _ (fun _ _ => ?_)).trans ?_) | (with_reducible refine (foldl_pair_fixed _ _ _ (fun _ _ => ?_)).trans ?_) | dsimp only | (simp_all; done))

@[simp] theorem execFltRobotQuery_fixed (d : Desc) (s : State) : (after (execFltRobotQuery d s) s).fixed = s.fixed := by
  unfold execFltRobotQuery
  repeat (first | rw [after_next] | rw [after_ite] | fail)
  repeat' (first | (simp only [↓State.answer_fixed, ↓State.command_fixed, ↓State.fail_fixed, ↓mk_fixed, ↓ite_fixed, ite_self, ↓st_ite]; done) | split | (simp only [↓State.answer_fixed, ↓State.command_fixed, ↓State.fail_fixed, ↓mk_fixed, ↓ite_fixed, ite_self, ↓st_ite]; split) | (simp only [↓State.answer_fixed, ↓State.command_fixed, ↓State.fail_fixed, ↓mk_fixed, ↓ite_fixed, ite_self, ↓st_ite]) | (with_reducible refine (State.command_fixed _ _ _ (fun _ => ?_)).trans ?_) | (with_reducible refine (foldl_fixed _ _ _ (fun _ _ => ?_)).trans ?_) | (with_reducible refine (foldl_pair_fixed _ _ _ (fun _ _ => ?_)).trans ?_) | dsimp only | (simp_all; done))

@[simp] theorem State.fleetEdge_fixed (s : State) : (State.fleetEdge s).fixed = s.fixed := by
  unfold State.fleetEdge
  repeat' (first | (simp only [↓State.setFlt_fixed, ↓State.showFleet_fixed, ↓mk_fixed, ↓ite_fixed, ite_self, ↓st_ite]; done) | split | (simp only [↓State.setFlt_fixed, ↓State.showFleet_fixed, ↓mk_fixed, ↓ite_fixed, ite_self, ↓st_ite]; split) | (simp only [↓State.setFlt_fixed, ↓State.showFleet_fixed, ↓mk_fixed, ↓ite_fixed, ite_self, ↓st_ite]) | (with_reducible refine (foldl_fixed _ _ _ (fun _ _ => ?_)).trans ?_) | (with_reducible refine (foldl_pair_fixed _ _ _ (fun _ _ => ?_)).trans ?_) | dsimp only | (simp_all; done))

end Sys2Proof.Machine
end

