-- ==== Sys2Proof/Laws/FixedGnss.lean ====
section
/-! SUPPORT. What the operations of Machine/Gnss.lean leave alone (Laws/Fixed.lean). -/

set_option linter.all false

namespace Sys2Proof.Machine

open Sys2Proof

@[simp] theorem State.showGnss_fixed (s : State) : (State.showGnss s).fixed = s.fixed := by
  unfold State.showGnss
  repeat' (first | (simp only [↓State.put_fixed, ↓mk_fixed, ↓ite_fixed, ite_self, ↓st_ite]; done) | split | (simp only [↓State.put_fixed, ↓mk_fixed, ↓ite_fixed, ite_self, ↓st_ite]; split) | (simp only [↓State.put_fixed, ↓mk_fixed, ↓ite_fixed, ite_self, ↓st_ite]) | (with_reducible refine (foldl_fixed _ _ _ (fun _ _ => ?_)).trans ?_) | (with_reducible refine (foldl_pair_fixed _ _ _ (fun _ _ => ?_)).trans ?_) | dsimp only | (simp_all; done))

@[simp] theorem execPortClockLost_fixed (port : Nat) (devs : List Int) (s : State) : (after (execPortClockLost port devs s) s).fixed = s.fixed := by
  unfold execPortClockLost
  repeat (first | rw [after_next] | rw [after_ite] | fail)
  repeat' (first | (simp only [↓State.put_fixed, ↓State.record_fixed, ↓State.setGns_fixed, ↓State.showGnss_fixed, ↓mk_fixed, ↓ite_fixed, ite_self, ↓st_ite]; done) | split | (simp only [↓State.put_fixed, ↓State.record_fixed, ↓State.setGns_fixed, ↓State.showGnss_fixed, ↓mk_fixed, ↓ite_fixed, ite_self, ↓st_ite]; split) | (simp only [↓State.put_fixed, ↓State.record_fixed, ↓State.setGns_fixed, ↓State.showGnss_fixed, ↓mk_fixed, ↓ite_fixed, ite_self, ↓st_ite]) | (with_reducible refine (foldl_fixed _ _ _ (fun _ _ => ?_)).trans ?_) | (with_reducible refine (foldl_pair_fixed _ _ _ (fun _ _ => ?_)).trans ?_) | dsimp only | (simp_all; done))

@[simp] theorem execGnssPortClockOk_fixed (port : Nat) (devs : List Int) (s : State) : (after (execGnssPortClockOk port devs s) s).fixed = s.fixed := by
  unfold execGnssPortClockOk
  repeat (first | rw [after_next] | rw [after_ite] | fail)
  repeat' (first | (simp only [↓State.put_fixed, ↓mk_fixed, ↓ite_fixed, ite_self, ↓st_ite]; done) | split | (simp only [↓State.put_fixed, ↓mk_fixed, ↓ite_fixed, ite_self, ↓st_ite]; split) | (simp only [↓State.put_fixed, ↓mk_fixed, ↓ite_fixed, ite_self, ↓st_ite]) | (with_reducible refine (foldl_fixed _ _ _ (fun _ _ => ?_)).trans ?_) | (with_reducible refine (foldl_pair_fixed _ _ _ (fun _ _ => ?_)).trans ?_) | dsimp only | (simp_all; done))

@[simp] theorem execGnssSpiTransfer_fixed (value : Word) (s : State) : (after (execGnssSpiTransfer value s) s).fixed = s.fixed := by
  unfold execGnssSpiTransfer
  repeat (first | rw [after_next] | rw [after_ite] | fail)
  repeat' (first | (simp only [↓State.emit_fixed, ↓State.wr_fixed, ↓mk_fixed, ↓ite_fixed, ite_self, ↓st_ite]; done) | split | (simp only [↓State.emit_fixed, ↓State.wr_fixed, ↓mk_fixed, ↓ite_fixed, ite_self, ↓st_ite]; split) | (simp only [↓State.emit_fixed, ↓State.wr_fixed, ↓mk_fixed, ↓ite_fixed, ite_self, ↓st_ite]) | (with_reducible refine (foldl_fixed _ _ _ (fun _ _ => ?_)).trans ?_) | (with_reducible refine (foldl_pair_fixed _ _ _ (fun _ _ => ?_)).trans ?_) | dsimp only | (simp_all; done))

@[simp] theorem execGnssSpiDone_fixed (bits : Nat) (s : State) : (after (execGnssSpiDone bits s) s).fixed = s.fixed := by
  unfold execGnssSpiDone
  repeat (first | rw [after_next] | rw [after_ite] | fail)
  repeat' (first | (simp only [↓State.put_fixed, ↓State.setNum_fixed, ↓mk_fixed, ↓ite_fixed, ite_self, ↓st_ite]; done) | split | (simp only [↓State.put_fixed, ↓State.setNum_fixed, ↓mk_fixed, ↓ite_fixed, ite_self, ↓st_ite]; split) | (simp only [↓State.put_fixed, ↓State.setNum_fixed, ↓mk_fixed, ↓ite_fixed, ite_self, ↓st_ite]) | (with_reducible refine (foldl_fixed _ _ _ (fun _ _ => ?_)).trans ?_) | (with_reducible refine (foldl_pair_fixed _ _ _ (fun _ _ => ?_)).trans ?_) | dsimp only | (simp_all; done))

@[simp] theorem State.agcPort_fixed (s : State) (p m : Nat) : (State.agcPort s p m).fixed = s.fixed := by
  unfold State.agcPort
  repeat' (first | (simp only [↓State.put_fixed, ↓State.setGns_fixed, ↓mk_fixed, ↓ite_fixed, ite_self, ↓st_ite]; done) | split | (simp only [↓State.put_fixed, ↓State.setGns_fixed, ↓mk_fixed, ↓ite_fixed, ite_self, ↓st_ite]; split) | (simp only [↓State.put_fixed, ↓State.setGns_fixed, ↓mk_fixed, ↓ite_fixed, ite_self, ↓st_ite]) | (with_reducible refine (foldl_fixed _ _ _ (fun _ _ => ?_)).trans ?_) | (with_reducible refine (foldl_pair_fixed _ _ _ (fun _ _ => ?_)).trans ?_) | dsimp only | (simp_all; done))

@[simp] theorem State.noteJam_fixed (s : State) (p : Nat) : (State.noteJam s p).fixed = s.fixed := by
  unfold State.noteJam
  repeat' (first | (simp only [↓State.setGns_fixed, ↓mk_fixed, ↓ite_fixed, ite_self, ↓st_ite]; done) | split | (simp only [↓State.setGns_fixed, ↓mk_fixed, ↓ite_fixed, ite_self, ↓st_ite]; split) | (simp only [↓State.setGns_fixed, ↓mk_fixed, ↓ite_fixed, ite_self, ↓st_ite]) | (with_reducible refine (foldl_fixed _ _ _ (fun _ _ => ?_)).trans ?_) | (with_reducible refine (foldl_pair_fixed _ _ _ (fun _ _ => ?_)).trans ?_) | dsimp only | (simp_all; done))

@[simp] theorem State.agcEdge_fixed (s : State) (samples : List (List Nat)) : (State.agcEdge s samples).fixed = s.fixed := by
  unfold State.agcEdge
  repeat' (first | (simp only [↓State.agcPort_fixed, ↓State.noteJam_fixed, ↓State.setGns_fixed, ↓mk_fixed, ↓ite_fixed, ite_self, ↓st_ite]; done) | split | (simp only [↓State.agcPort_fixed, ↓State.noteJam_fixed, ↓State.setGns_fixed, ↓mk_fixed, ↓ite_fixed, ite_self, ↓st_ite]; split) | (simp only [↓State.agcPort_fixed, ↓State.noteJam_fixed, ↓State.setGns_fixed, ↓mk_fixed, ↓ite_fixed, ite_self, ↓st_ite]) | (with_reducible refine (foldl_fixed _ _ _ (fun _ _ => ?_)).trans ?_) | (with_reducible refine (foldl_pair_fixed _ _ _ (fun _ _ => ?_)).trans ?_) | dsimp only | (simp_all; done))

@[simp] theorem execJamDetected_fixed (port : Nat) (s : State) : (after (execJamDetected port s) s).fixed = s.fixed := by
  unfold execJamDetected
  repeat (first | rw [after_next] | rw [after_ite] | fail)
  repeat' (first | (simp only [↓State.put_fixed, ↓State.record_fixed, ↓State.showGnss_fixed, ↓mk_fixed, ↓ite_fixed, ite_self, ↓st_ite]; done) | split | (simp only [↓State.put_fixed, ↓State.record_fixed, ↓State.showGnss_fixed, ↓mk_fixed, ↓ite_fixed, ite_self, ↓st_ite]; split) | (simp only [↓State.put_fixed, ↓State.record_fixed, ↓State.showGnss_fixed, ↓mk_fixed, ↓ite_fixed, ite_self, ↓st_ite]) | (with_reducible refine (foldl_fixed _ _ _ (fun _ _ => ?_)).trans ?_) | (with_reducible refine (foldl_pair_fixed _ _ _ (fun _ _ => ?_)).trans ?_) | dsimp only | (simp_all; done))

@[simp] theorem execJamCleared_fixed (port : Nat) (s : State) : (after (execJamCleared port s) s).fixed = s.fixed := by
  unfold execJamCleared
  repeat (first | rw [after_next] | rw [after_ite] | fail)
  repeat' (first | (simp only [↓State.put_fixed, ↓State.record_fixed, ↓State.showGnss_fixed, ↓mk_fixed, ↓ite_fixed, ite_self, ↓st_ite]; done) | split | (simp only [↓State.put_fixed, ↓State.record_fixed, ↓State.showGnss_fixed, ↓mk_fixed, ↓ite_fixed, ite_self, ↓st_ite]; split) | (simp only [↓State.put_fixed, ↓State.record_fixed, ↓State.showGnss_fixed, ↓mk_fixed, ↓ite_fixed, ite_self, ↓st_ite]) | (with_reducible refine (foldl_fixed _ _ _ (fun _ _ => ?_)).trans ?_) | (with_reducible refine (foldl_pair_fixed _ _ _ (fun _ _ => ?_)).trans ?_) | dsimp only | (simp_all; done))

@[simp] theorem execChannelAssign_fixed (sats : List SatView) (s : State) : (after (execChannelAssign sats s) s).fixed = s.fixed := by
  unfold execChannelAssign
  repeat (first | rw [after_next] | rw [after_ite] | fail)
  repeat' (first | (simp only [↓State.record_fixed, ↓State.setGns_fixed, ↓State.showGnss_fixed, ↓mk_fixed, ↓ite_fixed, ite_self, ↓st_ite]; done) | split | (simp only [↓State.record_fixed, ↓State.setGns_fixed, ↓State.showGnss_fixed, ↓mk_fixed, ↓ite_fixed, ite_self, ↓st_ite]; split) | (simp only [↓State.record_fixed, ↓State.setGns_fixed, ↓State.showGnss_fixed, ↓mk_fixed, ↓ite_fixed, ite_self, ↓st_ite]) | (with_reducible refine (foldl_fixed _ _ _ (fun _ _ => ?_)).trans ?_) | (with_reducible refine (foldl_pair_fixed _ _ _ (fun _ _ => ?_)).trans ?_) | dsimp only | (simp_all; done))

@[simp] theorem execSignalLockLost_fixed (sig prn : Nat) (s : State) : (after (execSignalLockLost sig prn s) s).fixed = s.fixed := by
  unfold execSignalLockLost
  repeat (first | rw [after_next] | rw [after_ite] | fail)
  repeat' (first | (simp only [↓State.setGns_fixed, ↓State.showGnss_fixed, ↓mk_fixed, ↓ite_fixed, ite_self, ↓st_ite]; done) | split | (simp only [↓State.setGns_fixed, ↓State.showGnss_fixed, ↓mk_fixed, ↓ite_fixed, ite_self, ↓st_ite]; split) | (simp only [↓State.setGns_fixed, ↓State.showGnss_fixed, ↓mk_fixed, ↓ite_fixed, ite_self, ↓st_ite]) | (with_reducible refine (foldl_fixed _ _ _ (fun _ _ => ?_)).trans ?_) | (with_reducible refine (foldl_pair_fixed _ _ _ (fun _ _ => ?_)).trans ?_) | dsimp only | (simp_all; done))

@[simp] theorem State.noteCn0_fixed (s : State) (meas : List Meas) (p : Nat) : (State.noteCn0 s meas p).fixed = s.fixed := by
  unfold State.noteCn0
  repeat' (first | (simp only [↓State.noteJam_fixed, ↓State.setGns_fixed, ↓mk_fixed, ↓ite_fixed, ite_self, ↓st_ite]; done) | split | (simp only [↓State.noteJam_fixed, ↓State.setGns_fixed, ↓mk_fixed, ↓ite_fixed, ite_self, ↓st_ite]; split) | (simp only [↓State.noteJam_fixed, ↓State.setGns_fixed, ↓mk_fixed, ↓ite_fixed, ite_self, ↓st_ite]) | (with_reducible refine (foldl_fixed _ _ _ (fun _ _ => ?_)).trans ?_) | (with_reducible refine (foldl_pair_fixed _ _ _ (fun _ _ => ?_)).trans ?_) | dsimp only | (simp_all; done))

@[simp] theorem State.dropOldEph_fixed (s : State) : (State.dropOldEph s).fixed = s.fixed := by
  unfold State.dropOldEph
  repeat' (first | (simp only [↓State.setGns_fixed, ↓mk_fixed, ↓ite_fixed, ite_self, ↓st_ite]; done) | split | (simp only [↓State.setGns_fixed, ↓mk_fixed, ↓ite_fixed, ite_self, ↓st_ite]; split) | (simp only [↓State.setGns_fixed, ↓mk_fixed, ↓ite_fixed, ite_self, ↓st_ite]) | (with_reducible refine (foldl_fixed _ _ _ (fun _ _ => ?_)).trans ?_) | (with_reducible refine (foldl_pair_fixed _ _ _ (fun _ _ => ?_)).trans ?_) | dsimp only | (simp_all; done))

@[simp] theorem execMeasurementEpoch_fixed (meas : List Meas) (s : State) : (after (execMeasurementEpoch meas s) s).fixed = s.fixed := by
  unfold execMeasurementEpoch
  repeat (first | rw [after_next] | rw [after_ite] | fail)
  repeat' (first | (simp only [↓State.dropOldEph_fixed, ↓State.noteCn0_fixed, ↓State.setGns_fixed, ↓mk_fixed, ↓ite_fixed, ite_self, ↓st_ite]; done) | split | (simp only [↓State.dropOldEph_fixed, ↓State.noteCn0_fixed, ↓State.setGns_fixed, ↓mk_fixed, ↓ite_fixed, ite_self, ↓st_ite]; split) | (simp only [↓State.dropOldEph_fixed, ↓State.noteCn0_fixed, ↓State.setGns_fixed, ↓mk_fixed, ↓ite_fixed, ite_self, ↓st_ite]) | (with_reducible refine (foldl_fixed _ _ _ (fun _ _ => ?_)).trans ?_) | (with_reducible refine (foldl_pair_fixed _ _ _ (fun _ _ => ?_)).trans ?_) | dsimp only | (simp_all; done))

@[simp] theorem State.exclude_fixed (s : State) (check sig prn : Nat) (cm : Int) : (State.exclude s check sig prn cm).fixed = s.fixed := by
  unfold State.exclude
  repeat' (first | (simp only [↓State.count_fixed, ↓State.record_fixed, ↓mk_fixed, ↓ite_fixed, ite_self, ↓st_ite]; done) | split | (simp only [↓State.count_fixed, ↓State.record_fixed, ↓mk_fixed, ↓ite_fixed, ite_self, ↓st_ite]; split) | (simp only [↓State.count_fixed, ↓State.record_fixed, ↓mk_fixed, ↓ite_fixed, ite_self, ↓st_ite]) | (with_reducible refine (foldl_fixed _ _ _ (fun _ _ => ?_)).trans ?_) | (with_reducible refine (foldl_pair_fixed _ _ _ (fun _ _ => ?_)).trans ?_) | dsimp only | (simp_all; done))

@[simp] theorem State.checkSlip_fixed (s : State) (sn : Nat) (m : Meas) : (State.checkSlip s sn m).1.fixed = s.fixed := by
  unfold State.checkSlip
  repeat' (first | (simp only [↓State.setGns_fixed, ↓mk_fixed, ↓ite_fixed, ite_self, ↓st_ite]; done) | split | (simp only [↓State.setGns_fixed, ↓mk_fixed, ↓ite_fixed, ite_self, ↓st_ite]; split) | (simp only [↓State.setGns_fixed, ↓mk_fixed, ↓ite_fixed, ite_self, ↓st_ite]) | (with_reducible refine (foldl_fixed _ _ _ (fun _ _ => ?_)).trans ?_) | (with_reducible refine (foldl_pair_fixed _ _ _ (fun _ _ => ?_)).trans ?_) | dsimp only | (simp_all; done))

@[simp] theorem State.checkIfb_fixed (s : State) (sn : Nat) (es : List SetEntry) : (State.checkIfb s sn es).1.fixed = s.fixed := by
  unfold State.checkIfb
  repeat' (first | (simp only [↓State.exclude_fixed, ↓State.setGns_fixed, ↓mk_fixed, ↓ite_fixed, ite_self, ↓st_ite]; done) | split | (simp only [↓State.exclude_fixed, ↓State.setGns_fixed, ↓mk_fixed, ↓ite_fixed, ite_self, ↓st_ite]; split) | (simp only [↓State.exclude_fixed, ↓State.setGns_fixed, ↓mk_fixed, ↓ite_fixed, ite_self, ↓st_ite]) | (with_reducible refine (foldl_fixed _ _ _ (fun _ _ => ?_)).trans ?_) | (with_reducible refine (foldl_pair_fixed _ _ _ (fun _ _ => ?_)).trans ?_) | dsimp only | (simp_all; done))

@[simp] theorem State.setSurvey_fixed (s : State) (p : Int × Int × Int) : (State.setSurvey s p).fixed = s.fixed := by
  unfold State.setSurvey
  repeat' (first | (simp only [↓State.setNum_fixed, ↓mk_fixed, ↓ite_fixed, ite_self, ↓st_ite]; done) | split | (simp only [↓State.setNum_fixed, ↓mk_fixed, ↓ite_fixed, ite_self, ↓st_ite]; split) | (simp only [↓State.setNum_fixed, ↓mk_fixed, ↓ite_fixed, ite_self, ↓st_ite]) | (with_reducible refine (foldl_fixed _ _ _ (fun _ _ => ?_)).trans ?_) | (with_reducible refine (foldl_pair_fixed _ _ _ (fun _ _ => ?_)).trans ?_) | dsimp only | (simp_all; done))

@[simp] theorem State.surveyEpoch_fixed (s : State) (p : Int × Int × Int) : (State.surveyEpoch s p).fixed = s.fixed := by
  unfold State.surveyEpoch
  repeat' (first | (simp only [↓State.put_fixed, ↓State.record_fixed, ↓State.setGns_fixed, ↓State.setNum_fixed, ↓State.setSurvey_fixed, ↓mk_fixed, ↓ite_fixed, ite_self, ↓st_ite]; done) | split | (simp only [↓State.put_fixed, ↓State.record_fixed, ↓State.setGns_fixed, ↓State.setNum_fixed, ↓State.setSurvey_fixed, ↓mk_fixed, ↓ite_fixed, ite_self, ↓st_ite]; split) | (simp only [↓State.put_fixed, ↓State.record_fixed, ↓State.setGns_fixed, ↓State.setNum_fixed, ↓State.setSurvey_fixed, ↓mk_fixed, ↓ite_fixed, ite_self, ↓st_ite]) | (with_reducible refine (foldl_fixed _ _ _ (fun _ _ => ?_)).trans ?_) | (with_reducible refine (foldl_pair_fixed _ _ _ (fun _ _ => ?_)).trans ?_) | dsimp only | (simp_all; done))

@[simp] theorem State.checkClock_fixed (s : State) (sol : Solution) (sn : Nat) (bias : Int) (es : List SetEntry) : (State.checkClock s sol sn bias es).1.fixed = s.fixed := by
  unfold State.checkClock
  repeat' (first | (simp only [↓State.put_fixed, ↓State.record_fixed, ↓State.setGns_fixed, ↓mk_fixed, ↓ite_fixed, ite_self, ↓st_ite]; done) | split | (simp only [↓State.put_fixed, ↓State.record_fixed, ↓State.setGns_fixed, ↓mk_fixed, ↓ite_fixed, ite_self, ↓st_ite]; split) | (simp only [↓State.put_fixed, ↓State.record_fixed, ↓State.setGns_fixed, ↓mk_fixed, ↓ite_fixed, ite_self, ↓st_ite]) | (with_reducible refine (foldl_fixed _ _ _ (fun _ _ => ?_)).trans ?_) | (with_reducible refine (foldl_pair_fixed _ _ _ (fun _ _ => ?_)).trans ?_) | dsimp only | (simp_all; done))

@[simp] theorem State.noOffer_fixed (s : State) : (State.noOffer s).fixed = s.fixed := by
  unfold State.noOffer
  repeat' (first | (simp only [↓State.setGns_fixed, ↓mk_fixed, ↓ite_fixed, ite_self, ↓st_ite]; done) | split | (simp only [↓State.setGns_fixed, ↓mk_fixed, ↓ite_fixed, ite_self, ↓st_ite]; split) | (simp only [↓State.setGns_fixed, ↓mk_fixed, ↓ite_fixed, ite_self, ↓st_ite]) | (with_reducible refine (foldl_fixed _ _ _ (fun _ _ => ?_)).trans ?_) | (with_reducible refine (foldl_pair_fixed _ _ _ (fun _ _ => ?_)).trans ?_) | dsimp only | (simp_all; done))

@[simp] theorem State.noteAgree_fixed (s : State) (bias drift : Int) : (State.noteAgree s bias drift).fixed = s.fixed := by
  unfold State.noteAgree
  repeat' (first | (simp only [↓State.setGns_fixed, ↓mk_fixed, ↓ite_fixed, ite_self, ↓st_ite]; done) | split | (simp only [↓State.setGns_fixed, ↓mk_fixed, ↓ite_fixed, ite_self, ↓st_ite]; split) | (simp only [↓State.setGns_fixed, ↓mk_fixed, ↓ite_fixed, ite_self, ↓st_ite]) | (with_reducible refine (foldl_fixed _ _ _ (fun _ _ => ?_)).trans ?_) | (with_reducible refine (foldl_pair_fixed _ _ _ (fun _ _ => ?_)).trans ?_) | dsimp only | (simp_all; done))

@[simp] theorem State.startSurvey_fixed (s : State) : (State.startSurvey s).fixed = s.fixed := by
  unfold State.startSurvey
  repeat' (first | (simp only [↓State.put_fixed, ↓State.setGns_fixed, ↓mk_fixed, ↓ite_fixed, ite_self, ↓st_ite]; done) | split | (simp only [↓State.put_fixed, ↓State.setGns_fixed, ↓mk_fixed, ↓ite_fixed, ite_self, ↓st_ite]; split) | (simp only [↓State.put_fixed, ↓State.setGns_fixed, ↓mk_fixed, ↓ite_fixed, ite_self, ↓st_ite]) | (with_reducible refine (foldl_fixed _ _ _ (fun _ _ => ?_)).trans ?_) | (with_reducible refine (foldl_pair_fixed _ _ _ (fun _ _ => ?_)).trans ?_) | dsimp only | (simp_all; done))

@[simp] theorem State.gnssOffer_fixed (s : State) (bias drift : Int) (sats : Nat) : (State.gnssOffer s bias drift sats).fixed = s.fixed := by
  unfold State.gnssOffer
  repeat' (first | (simp only [↓State.noOffer_fixed, ↓State.noteAgree_fixed, ↓State.put_fixed, ↓State.record_fixed, ↓State.setGns_fixed, ↓State.setNum_fixed, ↓State.startSurvey_fixed, ↓State.tb0Offer_fixed, ↓mk_fixed, ↓ite_fixed, ite_self, ↓st_ite]; done) | split | (simp only [↓State.noOffer_fixed, ↓State.noteAgree_fixed, ↓State.put_fixed, ↓State.record_fixed, ↓State.setGns_fixed, ↓State.setNum_fixed, ↓State.startSurvey_fixed, ↓State.tb0Offer_fixed, ↓mk_fixed, ↓ite_fixed, ite_self, ↓st_ite]; split) | (simp only [↓State.noOffer_fixed, ↓State.noteAgree_fixed, ↓State.put_fixed, ↓State.record_fixed, ↓State.setGns_fixed, ↓State.setNum_fixed, ↓State.startSurvey_fixed, ↓State.tb0Offer_fixed, ↓mk_fixed, ↓ite_fixed, ite_self, ↓st_ite]) | (with_reducible refine (foldl_fixed _ _ _ (fun _ _ => ?_)).trans ?_) | (with_reducible refine (foldl_pair_fixed _ _ _ (fun _ _ => ?_)).trans ?_) | dsimp only | (simp_all; done))

@[simp] theorem State.checkResidual_fixed (s : State) (sig prn : Nat) (cm : Int) (es : List SetEntry) : (State.checkResidual s sig prn cm es).1.fixed = s.fixed := by
  unfold State.checkResidual
  repeat' (first | (simp only [↓State.exclude_fixed, ↓mk_fixed, ↓ite_fixed, ite_self, ↓st_ite]; done) | split | (simp only [↓State.exclude_fixed, ↓mk_fixed, ↓ite_fixed, ite_self, ↓st_ite]; split) | (simp only [↓State.exclude_fixed, ↓mk_fixed, ↓ite_fixed, ite_self, ↓st_ite]) | (with_reducible refine (foldl_fixed _ _ _ (fun _ _ => ?_)).trans ?_) | (with_reducible refine (foldl_pair_fixed _ _ _ (fun _ _ => ?_)).trans ?_) | dsimp only | (simp_all; done))

@[simp] theorem State.checkMeas_fixed (s : State) (sol : Solution) (sn : Nat) (meas : List Meas) : (State.checkMeas s sol sn meas).1.fixed = s.fixed := by
  unfold State.checkMeas
  repeat' (first | (simp only [↓State.checkIfb_fixed, ↓State.checkResidual_fixed, ↓State.checkSlip_fixed, ↓mk_fixed, ↓ite_fixed, ite_self, ↓st_ite]; done) | split | (simp only [↓State.checkIfb_fixed, ↓State.checkResidual_fixed, ↓State.checkSlip_fixed, ↓mk_fixed, ↓ite_fixed, ite_self, ↓st_ite]; split) | (simp only [↓State.checkIfb_fixed, ↓State.checkResidual_fixed, ↓State.checkSlip_fixed, ↓mk_fixed, ↓ite_fixed, ite_self, ↓st_ite]) | (simp only [pair_fixed ‹State.checkSlip _ _ _  = (_, _)› (State.checkSlip_fixed _ _ _ ), ↓State.checkIfb_fixed, ↓State.checkResidual_fixed, ↓State.checkSlip_fixed, ↓mk_fixed, ↓ite_fixed, ite_self, ↓st_ite]) | (simp only [pair_fixed ‹State.checkIfb _ _ _  = (_, _)› (State.checkIfb_fixed _ _ _ ), ↓State.checkIfb_fixed, ↓State.checkResidual_fixed, ↓State.checkSlip_fixed, ↓mk_fixed, ↓ite_fixed, ite_self, ↓st_ite]) | (simp only [pair_fixed ‹State.checkResidual _ _ _ _ _  = (_, _)› (State.checkResidual_fixed _ _ _ _ _ ), ↓State.checkIfb_fixed, ↓State.checkResidual_fixed, ↓State.checkSlip_fixed, ↓mk_fixed, ↓ite_fixed, ite_self, ↓st_ite]) | (with_reducible refine (foldl_fixed _ _ _ (fun _ _ => ?_)).trans ?_) | (with_reducible refine (foldl_pair_fixed _ _ _ (fun _ _ => ?_)).trans ?_) | dsimp only | (simp_all; done))

@[simp] theorem State.offerEpoch_fixed (s : State) (x : Checked) : (State.offerEpoch s x).fixed = s.fixed := by
  unfold State.offerEpoch
  repeat' (first | (simp only [↓State.gnssOffer_fixed, ↓State.noOffer_fixed, ↓State.surveyEpoch_fixed, ↓mk_fixed, ↓ite_fixed, ite_self, ↓st_ite]; done) | split | (simp only [↓State.gnssOffer_fixed, ↓State.noOffer_fixed, ↓State.surveyEpoch_fixed, ↓mk_fixed, ↓ite_fixed, ite_self, ↓st_ite]; split) | (simp only [↓State.gnssOffer_fixed, ↓State.noOffer_fixed, ↓State.surveyEpoch_fixed, ↓mk_fixed, ↓ite_fixed, ite_self, ↓st_ite]) | (with_reducible refine (foldl_fixed _ _ _ (fun _ _ => ?_)).trans ?_) | (with_reducible refine (foldl_pair_fixed _ _ _ (fun _ _ => ?_)).trans ?_) | dsimp only | (simp_all; done))

@[simp] theorem execConsistencyChecks_fixed (sol : Solution) (s : State) : (after (execConsistencyChecks sol s) s).fixed = s.fixed := by
  unfold execConsistencyChecks
  repeat (first | rw [after_next] | rw [after_ite] | fail)
  repeat' (first | (simp only [↓State.checkClock_fixed, ↓State.checkMeas_fixed, ↓State.setGns_fixed, ↓mk_fixed, ↓ite_fixed, ite_self, ↓st_ite]; done) | split | (simp only [↓State.checkClock_fixed, ↓State.checkMeas_fixed, ↓State.setGns_fixed, ↓mk_fixed, ↓ite_fixed, ite_self, ↓st_ite]; split) | (simp only [↓State.checkClock_fixed, ↓State.checkMeas_fixed, ↓State.setGns_fixed, ↓mk_fixed, ↓ite_fixed, ite_self, ↓st_ite]) | (simp only [pair_fixed ‹State.checkClock _ _ _ _ _  = (_, _)› (State.checkClock_fixed _ _ _ _ _ ), ↓State.checkClock_fixed, ↓State.checkMeas_fixed, ↓State.setGns_fixed, ↓mk_fixed, ↓ite_fixed, ite_self, ↓st_ite]) | (simp only [pair_fixed ‹State.checkMeas _ _ _ _  = (_, _)› (State.checkMeas_fixed _ _ _ _ ), ↓State.checkClock_fixed, ↓State.checkMeas_fixed, ↓State.setGns_fixed, ↓mk_fixed, ↓ite_fixed, ite_self, ↓st_ite]) | (with_reducible refine (foldl_fixed _ _ _ (fun _ _ => ?_)).trans ?_) | (with_reducible refine (foldl_pair_fixed _ _ _ (fun _ _ => ?_)).trans ?_) | dsimp only | (simp_all; done))

@[simp] theorem execTimeLost_fixed (s : State) : (after (execTimeLost s) s).fixed = s.fixed := by
  unfold execTimeLost
  repeat (first | rw [after_next] | rw [after_ite] | fail)
  repeat' (first | (simp only [↓State.enterHoldover_fixed, ↓State.noOffer_fixed, ↓State.put_fixed, ↓State.record_fixed, ↓State.setGns_fixed, ↓mk_fixed, ↓ite_fixed, ite_self, ↓st_ite]; done) | split | (simp only [↓State.enterHoldover_fixed, ↓State.noOffer_fixed, ↓State.put_fixed, ↓State.record_fixed, ↓State.setGns_fixed, ↓mk_fixed, ↓ite_fixed, ite_self, ↓st_ite]; split) | (simp only [↓State.enterHoldover_fixed, ↓State.noOffer_fixed, ↓State.put_fixed, ↓State.record_fixed, ↓State.setGns_fixed, ↓mk_fixed, ↓ite_fixed, ite_self, ↓st_ite]) | (with_reducible refine (foldl_fixed _ _ _ (fun _ _ => ?_)).trans ?_) | (with_reducible refine (foldl_pair_fixed _ _ _ (fun _ _ => ?_)).trans ?_) | dsimp only | (simp_all; done))

@[simp] theorem State.utcHeard_fixed (s : State) (cst : Nat) (v : Int) : (State.utcHeard s cst v).fixed = s.fixed := by
  unfold State.utcHeard
  repeat' (first | (simp only [↓State.put_fixed, ↓State.setGns_fixed, ↓mk_fixed, ↓ite_fixed, ite_self, ↓st_ite]; done) | split | (simp only [↓State.put_fixed, ↓State.setGns_fixed, ↓mk_fixed, ↓ite_fixed, ite_self, ↓st_ite]; split) | (simp only [↓State.put_fixed, ↓State.setGns_fixed, ↓mk_fixed, ↓ite_fixed, ite_self, ↓st_ite]) | (with_reducible refine (foldl_fixed _ _ _ (fun _ _ => ?_)).trans ?_) | (with_reducible refine (foldl_pair_fixed _ _ _ (fun _ _ => ?_)).trans ?_) | dsimp only | (simp_all; done))

@[simp] theorem State.leapHeard_fixed (s : State) (cst : Nat) (l : Int × Nat) : (State.leapHeard s cst l).fixed = s.fixed := by
  unfold State.leapHeard
  repeat' (first | (simp only [↓State.record_fixed, ↓State.setGns_fixed, ↓mk_fixed, ↓ite_fixed, ite_self, ↓st_ite]; done) | split | (simp only [↓State.record_fixed, ↓State.setGns_fixed, ↓mk_fixed, ↓ite_fixed, ite_self, ↓st_ite]; split) | (simp only [↓State.record_fixed, ↓State.setGns_fixed, ↓mk_fixed, ↓ite_fixed, ite_self, ↓st_ite]) | (with_reducible refine (foldl_fixed _ _ _ (fun _ _ => ?_)).trans ?_) | (with_reducible refine (foldl_pair_fixed _ _ _ (fun _ _ => ?_)).trans ?_) | dsimp only | (simp_all; done))

@[simp] theorem State.presentEph_fixed (s : State) (e : Eph) : (State.presentEph s e).fixed = s.fixed := by
  unfold State.presentEph
  repeat' (first | (simp only [↓State.setGns_fixed, ↓mk_fixed, ↓ite_fixed, ite_self, ↓st_ite]; done) | split | (simp only [↓State.setGns_fixed, ↓mk_fixed, ↓ite_fixed, ite_self, ↓st_ite]; split) | (simp only [↓State.setGns_fixed, ↓mk_fixed, ↓ite_fixed, ite_self, ↓st_ite]) | (with_reducible refine (foldl_fixed _ _ _ (fun _ _ => ?_)).trans ?_) | (with_reducible refine (foldl_pair_fixed _ _ _ (fun _ _ => ?_)).trans ?_) | dsimp only | (simp_all; done))

@[simp] theorem execEphemerisReceived_fixed (cst prn diffM : Nat) (data : List Byte) (alm : Option (List Byte)) (utc : Option Int) (leap : Option (Int × Nat)) (s : State) : (after (execEphemerisReceived cst prn diffM data alm utc leap s) s).fixed = s.fixed := by
  unfold execEphemerisReceived
  repeat (first | rw [after_next] | rw [after_ite] | fail)
  repeat' (first | (simp only [↓State.leapHeard_fixed, ↓State.presentEph_fixed, ↓State.record_fixed, ↓State.setGns_fixed, ↓State.utcHeard_fixed, ↓mk_fixed, ↓ite_fixed, ite_self, ↓st_ite]; done) | split | (simp only [↓State.leapHeard_fixed, ↓State.presentEph_fixed, ↓State.record_fixed, ↓State.setGns_fixed, ↓State.utcHeard_fixed, ↓mk_fixed, ↓ite_fixed, ite_self, ↓st_ite]; split) | (simp only [↓State.leapHeard_fixed, ↓State.presentEph_fixed, ↓State.record_fixed, ↓State.setGns_fixed, ↓State.utcHeard_fixed, ↓mk_fixed, ↓ite_fixed, ite_self, ↓st_ite]) | (with_reducible refine (foldl_fixed _ _ _ (fun _ _ => ?_)).trans ?_) | (with_reducible refine (foldl_pair_fixed _ _ _ (fun _ _ => ?_)).trans ?_) | dsimp only | (simp_all; done))

@[simp] theorem execUtcOffsetChange_fixed (s : State) : (after (execUtcOffsetChange s) s).fixed = s.fixed := by
  unfold execUtcOffsetChange
  repeat (first | rw [after_next] | rw [after_ite] | fail)
  repeat' (first | (simp only [↓State.put_fixed, ↓State.setGns_fixed, ↓mk_fixed, ↓ite_fixed, ite_self, ↓st_ite]; done) | split | (simp only [↓State.put_fixed, ↓State.setGns_fixed, ↓mk_fixed, ↓ite_fixed, ite_self, ↓st_ite]; split) | (simp only [↓State.put_fixed, ↓State.setGns_fixed, ↓mk_fixed, ↓ite_fixed, ite_self, ↓st_ite]) | (with_reducible refine (foldl_fixed _ _ _ (fun _ _ => ?_)).trans ?_) | (with_reducible refine (foldl_pair_fixed _ _ _ (fun _ _ => ?_)).trans ?_) | dsimp only | (simp_all; done))

@[simp] theorem execSurveySlow_fixed (s : State) : (after (execSurveySlow s) s).fixed = s.fixed := by
  unfold execSurveySlow
  repeat (first | rw [after_next] | rw [after_ite] | fail)
  repeat' (first | (simp only [↓State.record_fixed, ↓State.setGns_fixed, ↓mk_fixed, ↓ite_fixed, ite_self, ↓st_ite]; done) | split | (simp only [↓State.record_fixed, ↓State.setGns_fixed, ↓mk_fixed, ↓ite_fixed, ite_self, ↓st_ite]; split) | (simp only [↓State.record_fixed, ↓State.setGns_fixed, ↓mk_fixed, ↓ite_fixed, ite_self, ↓st_ite]) | (with_reducible refine (foldl_fixed _ _ _ (fun _ _ => ?_)).trans ?_) | (with_reducible refine (foldl_pair_fixed _ _ _ (fun _ _ => ?_)).trans ?_) | dsimp only | (simp_all; done))

@[simp] theorem execSurveyRestart_fixed (s : State) : (after (execSurveyRestart s) s).fixed = s.fixed := by
  unfold execSurveyRestart
  repeat (first | rw [after_next] | rw [after_ite] | fail)
  repeat' (first | (simp only [↓State.put_fixed, ↓State.setGns_fixed, ↓State.setNum_fixed, ↓mk_fixed, ↓ite_fixed, ite_self, ↓st_ite]; done) | split | (simp only [↓State.put_fixed, ↓State.setGns_fixed, ↓State.setNum_fixed, ↓mk_fixed, ↓ite_fixed, ite_self, ↓st_ite]; split) | (simp only [↓State.put_fixed, ↓State.setGns_fixed, ↓State.setNum_fixed, ↓mk_fixed, ↓ite_fixed, ite_self, ↓st_ite]) | (with_reducible refine (foldl_fixed _ _ _ (fun _ _ => ?_)).trans ?_) | (with_reducible refine (foldl_pair_fixed _ _ _ (fun _ _ => ?_)).trans ?_) | dsimp only | (simp_all; done))

@[simp] theorem execForgetKeepalive_fixed (s : State) : (after (execForgetKeepalive s) s).fixed = s.fixed := by
  unfold execForgetKeepalive
  repeat (first | rw [after_next] | rw [after_ite] | fail)
  repeat' (first | (simp only [↓State.setGns_fixed, ↓mk_fixed, ↓ite_fixed, ite_self, ↓st_ite]; done) | split | (simp only [↓State.setGns_fixed, ↓mk_fixed, ↓ite_fixed, ite_self, ↓st_ite]; split) | (simp only [↓State.setGns_fixed, ↓mk_fixed, ↓ite_fixed, ite_self, ↓st_ite]) | (with_reducible refine (foldl_fixed _ _ _ (fun _ _ => ?_)).trans ?_) | (with_reducible refine (foldl_pair_fixed _ _ _ (fun _ _ => ?_)).trans ?_) | dsimp only | (simp_all; done))

@[simp] theorem State.writeKeepAlive_fixed (s : State) : (State.writeKeepAlive s).fixed = s.fixed := by
  unfold State.writeKeepAlive
  repeat' (first | (simp only [↓State.drawn_fixed, ↓State.setGns_fixed, ↓mk_fixed, ↓ite_fixed, ite_self, ↓st_ite]; done) | split | (simp only [↓State.drawn_fixed, ↓State.setGns_fixed, ↓mk_fixed, ↓ite_fixed, ite_self, ↓st_ite]; split) | (simp only [↓State.drawn_fixed, ↓State.setGns_fixed, ↓mk_fixed, ↓ite_fixed, ite_self, ↓st_ite]) | (with_reducible refine (foldl_fixed _ _ _ (fun _ _ => ?_)).trans ?_) | (with_reducible refine (foldl_pair_fixed _ _ _ (fun _ _ => ?_)).trans ?_) | dsimp only | (simp_all; done))

@[simp] theorem execKeepaliveWrite_fixed (s : State) : (after (execKeepaliveWrite s) s).fixed = s.fixed := by
  unfold execKeepaliveWrite
  repeat (first | rw [after_next] | rw [after_ite] | fail)
  repeat' (first | (simp only [↓State.operate_fixed, ↓State.writeKeepAlive_fixed, ↓mk_fixed, ↓ite_fixed, ite_self, ↓st_ite]; done) | split | (simp only [↓State.operate_fixed, ↓State.writeKeepAlive_fixed, ↓mk_fixed, ↓ite_fixed, ite_self, ↓st_ite]; split) | (simp only [↓State.operate_fixed, ↓State.writeKeepAlive_fixed, ↓mk_fixed, ↓ite_fixed, ite_self, ↓st_ite]) | (with_reducible refine (foldl_fixed _ _ _ (fun _ _ => ?_)).trans ?_) | (with_reducible refine (foldl_pair_fixed _ _ _ (fun _ _ => ?_)).trans ?_) | dsimp only | (simp_all; done))

@[simp] theorem State.gnssStart_fixed (s : State) (aon : Nat) (raw : Option (List Byte)) : (State.gnssStart s aon raw).fixed = s.fixed := by
  unfold State.gnssStart
  repeat' (first | (simp only [↓State.put_fixed, ↓State.record_fixed, ↓State.setGns_fixed, ↓State.setNum_fixed, ↓mk_fixed, ↓ite_fixed, ite_self, ↓st_ite]; done) | split | (simp only [↓State.put_fixed, ↓State.record_fixed, ↓State.setGns_fixed, ↓State.setNum_fixed, ↓mk_fixed, ↓ite_fixed, ite_self, ↓st_ite]; split) | (simp only [↓State.put_fixed, ↓State.record_fixed, ↓State.setGns_fixed, ↓State.setNum_fixed, ↓mk_fixed, ↓ite_fixed, ite_self, ↓st_ite]) | (with_reducible refine (foldl_fixed _ _ _ (fun _ _ => ?_)).trans ?_) | (with_reducible refine (foldl_pair_fixed _ _ _ (fun _ _ => ?_)).trans ?_) | dsimp only | (simp_all; done))

end Sys2Proof.Machine
end

