-- ==== Sys2Proof/Laws/FixedBaseline.lean ====
section
/-! SUPPORT. What the operations of Machine/Baseline.lean leave alone (Laws/Fixed.lean). -/

set_option linter.all false

namespace Sys2Proof.Machine

open Sys2Proof

@[simp] theorem State.bslItem_fixed (s : State) (ring opcode result : Nat) (bytes : List Byte) : (State.bslItem s ring opcode result bytes).fixed = s.fixed := by
  unfold State.bslItem
  repeat' (first | (simp only [↓State.count_fixed, ↓State.deliver_fixed, ↓State.record_fixed, ↓State.setBsl_fixed, ↓mk_fixed, ↓ite_fixed, ite_self, ↓st_ite]; done) | split | (simp only [↓State.count_fixed, ↓State.deliver_fixed, ↓State.record_fixed, ↓State.setBsl_fixed, ↓mk_fixed, ↓ite_fixed, ite_self, ↓st_ite]; split) | (simp only [↓State.count_fixed, ↓State.deliver_fixed, ↓State.record_fixed, ↓State.setBsl_fixed, ↓mk_fixed, ↓ite_fixed, ite_self, ↓st_ite]) | (simp only [pair_fixed ‹State.deliver _ _ _ _ _ _  = (_, _)› (State.deliver_fixed _ _ _ _ _ _ ), ↓State.count_fixed, ↓State.deliver_fixed, ↓State.record_fixed, ↓State.setBsl_fixed, ↓mk_fixed, ↓ite_fixed, ite_self, ↓st_ite]) | (with_reducible refine (foldl_fixed _ _ _ (fun _ _ => ?_)).trans ?_) | (with_reducible refine (foldl_pair_fixed _ _ _ (fun _ _ => ?_)).trans ?_) | dsimp only | (simp_all; done))

@[simp] theorem State.startSolves_fixed (s : State) (x0 : Nat) : (State.startSolves s x0).fixed = s.fixed := by
  induction x0 generalizing s with
  | zero => simp [State.startSolves]
  | succ n ih =>
    unfold State.startSolves
    repeat' (first | (simp only [↓ih, ↓State.put_fixed, ↓State.setBsl_fixed, ↓mk_fixed, ↓ite_fixed, ite_self, ↓st_ite]; done) | split | (simp only [↓ih, ↓State.put_fixed, ↓State.setBsl_fixed, ↓mk_fixed, ↓ite_fixed, ite_self, ↓st_ite]; split) | (simp only [↓ih, ↓State.put_fixed, ↓State.setBsl_fixed, ↓mk_fixed, ↓ite_fixed, ite_self, ↓st_ite]) | (with_reducible refine (foldl_fixed _ _ _ (fun _ _ => ?_)).trans ?_) | (with_reducible refine (foldl_pair_fixed _ _ _ (fun _ _ => ?_)).trans ?_) | dsimp only | (simp_all; done))

@[simp] theorem State.takeSet_fixed (s : State) (x : BaseSet) : (State.takeSet s x).fixed = s.fixed := by
  unfold State.takeSet
  repeat' (first | (simp only [↓State.setBsl_fixed, ↓State.startSolves_fixed, ↓mk_fixed, ↓ite_fixed, ite_self, ↓st_ite]; done) | split | (simp only [↓State.setBsl_fixed, ↓State.startSolves_fixed, ↓mk_fixed, ↓ite_fixed, ite_self, ↓st_ite]; split) | (simp only [↓State.setBsl_fixed, ↓State.startSolves_fixed, ↓mk_fixed, ↓ite_fixed, ite_self, ↓st_ite]) | (with_reducible refine (foldl_fixed _ _ _ (fun _ _ => ?_)).trans ?_) | (with_reducible refine (foldl_pair_fixed _ _ _ (fun _ _ => ?_)).trans ?_) | dsimp only | (simp_all; done))

@[simp] theorem State.presentEncode_fixed (s : State) (epoch : Nat) (logged : Option Nat) : (State.presentEncode s epoch logged).fixed = s.fixed := by
  unfold State.presentEncode
  repeat' (first | (simp only [↓State.addJob_fixed, ↓State.setBsl_fixed, ↓mk_fixed, ↓ite_fixed, ite_self, ↓st_ite]; done) | split | (simp only [↓State.addJob_fixed, ↓State.setBsl_fixed, ↓mk_fixed, ↓ite_fixed, ite_self, ↓st_ite]; split) | (simp only [↓State.addJob_fixed, ↓State.setBsl_fixed, ↓mk_fixed, ↓ite_fixed, ite_self, ↓st_ite]) | (with_reducible refine (foldl_fixed _ _ _ (fun _ _ => ?_)).trans ?_) | (with_reducible refine (foldl_pair_fixed _ _ _ (fun _ _ => ?_)).trans ?_) | dsimp only | (simp_all; done))

@[simp] theorem State.presentEphs_fixed (s : State) (epoch : Nat) : (State.presentEphs s epoch).fixed = s.fixed := by
  unfold State.presentEphs
  repeat' (first | (simp only [↓State.logInput_fixed, ↓State.setBsl_fixed, ↓State.setGns_fixed, ↓mk_fixed, ↓ite_fixed, ite_self, ↓st_ite]; done) | split | (simp only [↓State.logInput_fixed, ↓State.setBsl_fixed, ↓State.setGns_fixed, ↓mk_fixed, ↓ite_fixed, ite_self, ↓st_ite]; split) | (simp only [↓State.logInput_fixed, ↓State.setBsl_fixed, ↓State.setGns_fixed, ↓mk_fixed, ↓ite_fixed, ite_self, ↓st_ite]) | (with_reducible refine (foldl_fixed _ _ _ (fun _ _ => ?_)).trans ?_) | (with_reducible refine (foldl_pair_fixed _ _ _ (fun _ _ => ?_)).trans ?_) | dsimp only | (simp_all; done))

@[simp] theorem State.presentSet_fixed (s : State) (x : BaseSet) : (State.presentSet s x).fixed = s.fixed := by
  unfold State.presentSet
  repeat' (first | (simp only [↓State.logInput_fixed, ↓State.presentEncode_fixed, ↓State.presentEphs_fixed, ↓State.takeSet_fixed, ↓mk_fixed, ↓ite_fixed, ite_self, ↓st_ite]; done) | split | (simp only [↓State.logInput_fixed, ↓State.presentEncode_fixed, ↓State.presentEphs_fixed, ↓State.takeSet_fixed, ↓mk_fixed, ↓ite_fixed, ite_self, ↓st_ite]; split) | (simp only [↓State.logInput_fixed, ↓State.presentEncode_fixed, ↓State.presentEphs_fixed, ↓State.takeSet_fixed, ↓mk_fixed, ↓ite_fixed, ite_self, ↓st_ite]) | (with_reducible refine (foldl_fixed _ _ _ (fun _ _ => ?_)).trans ?_) | (with_reducible refine (foldl_pair_fixed _ _ _ (fun _ _ => ?_)).trans ?_) | dsimp only | (simp_all; done))

@[simp] theorem execSetPresented_fixed (s : State) : (after (execSetPresented s) s).fixed = s.fixed := by
  unfold execSetPresented
  repeat (first | rw [after_next] | rw [after_ite] | fail)
  repeat' (first | (simp only [↓State.offerEpoch_fixed, ↓State.presentSet_fixed, ↓State.put_fixed, ↓State.setGns_fixed, ↓mk_fixed, ↓ite_fixed, ite_self, ↓st_ite]; done) | split | (simp only [↓State.offerEpoch_fixed, ↓State.presentSet_fixed, ↓State.put_fixed, ↓State.setGns_fixed, ↓mk_fixed, ↓ite_fixed, ite_self, ↓st_ite]; split) | (simp only [↓State.offerEpoch_fixed, ↓State.presentSet_fixed, ↓State.put_fixed, ↓State.setGns_fixed, ↓mk_fixed, ↓ite_fixed, ite_self, ↓st_ite]) | (with_reducible refine (foldl_fixed _ _ _ (fun _ _ => ?_)).trans ?_) | (with_reducible refine (foldl_pair_fixed _ _ _ (fun _ _ => ?_)).trans ?_) | dsimp only | (simp_all; done))

@[simp] theorem State.withhold_fixed (s : State) (cause epoch : Nat) : (State.withhold s cause epoch).fixed = s.fixed := by
  unfold State.withhold
  repeat' (first | (simp only [↓State.count_fixed, ↓State.put_fixed, ↓State.record_fixed, ↓State.setBsl_fixed, ↓mk_fixed, ↓ite_fixed, ite_self, ↓st_ite]; done) | split | (simp only [↓State.count_fixed, ↓State.put_fixed, ↓State.record_fixed, ↓State.setBsl_fixed, ↓mk_fixed, ↓ite_fixed, ite_self, ↓st_ite]; split) | (simp only [↓State.count_fixed, ↓State.put_fixed, ↓State.record_fixed, ↓State.setBsl_fixed, ↓mk_fixed, ↓ite_fixed, ite_self, ↓st_ite]) | (with_reducible refine (foldl_fixed _ _ _ (fun _ _ => ?_)).trans ?_) | (with_reducible refine (foldl_pair_fixed _ _ _ (fun _ _ => ?_)).trans ?_) | dsimp only | (simp_all; done))

@[simp] theorem execEpochMissing_fixed (s : State) : (after (execEpochMissing s) s).fixed = s.fixed := by
  unfold execEpochMissing
  repeat (first | rw [after_next] | rw [after_ite] | fail)
  repeat' (first | (simp only [↓State.count_fixed, ↓State.logInput_fixed, ↓State.noOffer_fixed, ↓State.record_fixed, ↓State.setGns_fixed, ↓State.withhold_fixed, ↓mk_fixed, ↓ite_fixed, ite_self, ↓st_ite]; done) | split | (simp only [↓State.count_fixed, ↓State.logInput_fixed, ↓State.noOffer_fixed, ↓State.record_fixed, ↓State.setGns_fixed, ↓State.withhold_fixed, ↓mk_fixed, ↓ite_fixed, ite_self, ↓st_ite]; split) | (simp only [↓State.count_fixed, ↓State.logInput_fixed, ↓State.noOffer_fixed, ↓State.record_fixed, ↓State.setGns_fixed, ↓State.withhold_fixed, ↓mk_fixed, ↓ite_fixed, ite_self, ↓st_ite]) | (with_reducible refine (foldl_fixed _ _ _ (fun _ _ => ?_)).trans ?_) | (with_reducible refine (foldl_pair_fixed _ _ _ (fun _ _ => ?_)).trans ?_) | dsimp only | (simp_all; done))

@[simp] theorem State.queueCorr_fixed (s : State) (epoch : Nat) (frs : List (List Byte)) : (State.queueCorr s epoch frs).fixed = s.fixed := by
  unfold State.queueCorr
  repeat' (first | (simp only [↓State.setFlt_fixed, ↓mk_fixed, ↓ite_fixed, ite_self, ↓st_ite]; done) | split | (simp only [↓State.setFlt_fixed, ↓mk_fixed, ↓ite_fixed, ite_self, ↓st_ite]; split) | (simp only [↓State.setFlt_fixed, ↓mk_fixed, ↓ite_fixed, ite_self, ↓st_ite]) | (with_reducible refine (foldl_fixed _ _ _ (fun _ _ => ?_)).trans ?_) | (with_reducible refine (foldl_pair_fixed _ _ _ (fun _ _ => ?_)).trans ?_) | dsimp only | (simp_all; done))

@[simp] theorem execCorrectionEncode_fixed (s : State) : (after (execCorrectionEncode s) s).fixed = s.fixed := by
  unfold execCorrectionEncode
  repeat (first | rw [after_next] | rw [after_ite] | fail)
  repeat' (first | (simp only [↓State.bslItem_fixed, ↓State.put_fixed, ↓State.queueCorr_fixed, ↓State.runWork_fixed, ↓State.setBsl_fixed, ↓State.withhold_fixed, ↓mk_fixed, ↓ite_fixed, ite_self, ↓st_ite]; done) | split | (simp only [↓State.bslItem_fixed, ↓State.put_fixed, ↓State.queueCorr_fixed, ↓State.runWork_fixed, ↓State.setBsl_fixed, ↓State.withhold_fixed, ↓mk_fixed, ↓ite_fixed, ite_self, ↓st_ite]; split) | (simp only [↓State.bslItem_fixed, ↓State.put_fixed, ↓State.queueCorr_fixed, ↓State.runWork_fixed, ↓State.setBsl_fixed, ↓State.withhold_fixed, ↓mk_fixed, ↓ite_fixed, ite_self, ↓st_ite]) | (with_reducible refine (State.runWork_fixed _ _ _ _ (fun _ => ?_)).trans ?_) | (with_reducible refine (foldl_fixed _ _ _ (fun _ _ => ?_)).trans ?_) | (with_reducible refine (foldl_pair_fixed _ _ _ (fun _ _ => ?_)).trans ?_) | dsimp only | (simp_all; done))

@[simp] theorem execRawobsAccept_fixed (s : State) : (after (execRawobsAccept s) s).fixed = s.fixed := by
  unfold execRawobsAccept
  repeat (first | rw [after_next] | rw [after_ite] | fail)
  repeat' (first | (simp only [↓State.count_fixed, ↓State.record_fixed, ↓State.setBsl_fixed, ↓State.setFlt_fixed, ↓State.startSolves_fixed, ↓mk_fixed, ↓ite_fixed, ite_self, ↓st_ite]; done) | split | (simp only [↓State.count_fixed, ↓State.record_fixed, ↓State.setBsl_fixed, ↓State.setFlt_fixed, ↓State.startSolves_fixed, ↓mk_fixed, ↓ite_fixed, ite_self, ↓st_ite]; split) | (simp only [↓State.count_fixed, ↓State.record_fixed, ↓State.setBsl_fixed, ↓State.setFlt_fixed, ↓State.startSolves_fixed, ↓mk_fixed, ↓ite_fixed, ite_self, ↓st_ite]) | (with_reducible refine (foldl_fixed _ _ _ (fun _ _ => ?_)).trans ?_) | (with_reducible refine (foldl_pair_fixed _ _ _ (fun _ _ => ?_)).trans ?_) | dsimp only | (simp_all; done))

@[simp] theorem State.fixOut_fixed (s : State) (robot : Nat) (rec' : List Byte) : (State.fixOut s robot rec').fixed = s.fixed := by
  unfold State.fixOut
  repeat' (first | (simp only [↓State.bslItem_fixed, ↓mk_fixed, ↓ite_fixed, ite_self, ↓st_ite]; done) | split | (simp only [↓State.bslItem_fixed, ↓mk_fixed, ↓ite_fixed, ite_self, ↓st_ite]; split) | (simp only [↓State.bslItem_fixed, ↓mk_fixed, ↓ite_fixed, ite_self, ↓st_ite]) | (with_reducible refine (foldl_fixed _ _ _ (fun _ _ => ?_)).trans ?_) | (with_reducible refine (foldl_pair_fixed _ _ _ (fun _ _ => ?_)).trans ?_) | dsimp only | (simp_all; done))

@[simp] theorem execFixCommit_fixed (robot : Nat) (sol : RoverSol) (s : State) : (after (execFixCommit robot sol s) s).fixed = s.fixed := by
  unfold execFixCommit
  repeat (first | rw [after_next] | rw [after_ite] | fail)
  repeat' (first | (simp only [↓State.addJob_fixed, ↓State.count_fixed, ↓State.drawn_fixed, ↓State.fixOut_fixed, ↓State.notePeak_fixed, ↓State.peak_fixed, ↓State.queueElem_fixed, ↓State.record_fixed, ↓State.setBsl_fixed, ↓State.startSolves_fixed, ↓mk_fixed, ↓ite_fixed, ite_self, ↓st_ite]; done) | split | (simp only [↓State.addJob_fixed, ↓State.count_fixed, ↓State.drawn_fixed, ↓State.fixOut_fixed, ↓State.notePeak_fixed, ↓State.peak_fixed, ↓State.queueElem_fixed, ↓State.record_fixed, ↓State.setBsl_fixed, ↓State.startSolves_fixed, ↓mk_fixed, ↓ite_fixed, ite_self, ↓st_ite]; split) | (simp only [↓State.addJob_fixed, ↓State.count_fixed, ↓State.drawn_fixed, ↓State.fixOut_fixed, ↓State.notePeak_fixed, ↓State.peak_fixed, ↓State.queueElem_fixed, ↓State.record_fixed, ↓State.setBsl_fixed, ↓State.startSolves_fixed, ↓mk_fixed, ↓ite_fixed, ite_self, ↓st_ite]) | (with_reducible refine (foldl_fixed _ _ _ (fun _ _ => ?_)).trans ?_) | (with_reducible refine (foldl_pair_fixed _ _ _ (fun _ _ => ?_)).trans ?_) | dsimp only | (simp_all; done))

@[simp] theorem State.abandonSolve_fixed (s : State) (robot : Nat) (r : Rover) (w : Solve) : (State.abandonSolve s robot r w).fixed = s.fixed := by
  unfold State.abandonSolve
  repeat' (first | (simp only [↓State.count_fixed, ↓State.fixOut_fixed, ↓State.setBsl_fixed, ↓State.startSolves_fixed, ↓mk_fixed, ↓ite_fixed, ite_self, ↓st_ite]; done) | split | (simp only [↓State.count_fixed, ↓State.fixOut_fixed, ↓State.setBsl_fixed, ↓State.startSolves_fixed, ↓mk_fixed, ↓ite_fixed, ite_self, ↓st_ite]; split) | (simp only [↓State.count_fixed, ↓State.fixOut_fixed, ↓State.setBsl_fixed, ↓State.startSolves_fixed, ↓mk_fixed, ↓ite_fixed, ite_self, ↓st_ite]) | (with_reducible refine (foldl_fixed _ _ _ (fun _ _ => ?_)).trans ?_) | (with_reducible refine (foldl_pair_fixed _ _ _ (fun _ _ => ?_)).trans ?_) | dsimp only | (simp_all; done))

@[simp] theorem execBslRoverCfg_fixed (d : Desc) (s : State) : (after (execBslRoverCfg d s) s).fixed = s.fixed := by
  unfold execBslRoverCfg
  repeat (first | rw [after_next] | rw [after_ite] | fail)
  repeat' (first | (simp only [↓State.command_fixed, ↓State.fail_fixed, ↓State.ok_fixed, ↓State.record_fixed, ↓State.setBsl_fixed, ↓State.startSolves_fixed, ↓mk_fixed, ↓ite_fixed, ite_self, ↓st_ite]; done) | split | (simp only [↓State.command_fixed, ↓State.fail_fixed, ↓State.ok_fixed, ↓State.record_fixed, ↓State.setBsl_fixed, ↓State.startSolves_fixed, ↓mk_fixed, ↓ite_fixed, ite_self, ↓st_ite]; split) | (simp only [↓State.command_fixed, ↓State.fail_fixed, ↓State.ok_fixed, ↓State.record_fixed, ↓State.setBsl_fixed, ↓State.startSolves_fixed, ↓mk_fixed, ↓ite_fixed, ite_self, ↓st_ite]) | (with_reducible refine (State.command_fixed _ _ _ (fun _ => ?_)).trans ?_) | (with_reducible refine (foldl_fixed _ _ _ (fun _ _ => ?_)).trans ?_) | (with_reducible refine (foldl_pair_fixed _ _ _ (fun _ _ => ?_)).trans ?_) | dsimp only | (simp_all; done))

@[simp] theorem execBslRoverQuery_fixed (d : Desc) (s : State) : (after (execBslRoverQuery d s) s).fixed = s.fixed := by
  unfold execBslRoverQuery
  repeat (first | rw [after_next] | rw [after_ite] | fail)
  repeat' (first | (simp only [↓State.answer_fixed, ↓State.command_fixed, ↓State.fail_fixed, ↓mk_fixed, ↓ite_fixed, ite_self, ↓st_ite]; done) | split | (simp only [↓State.answer_fixed, ↓State.command_fixed, ↓State.fail_fixed, ↓mk_fixed, ↓ite_fixed, ite_self, ↓st_ite]; split) | (simp only [↓State.answer_fixed, ↓State.command_fixed, ↓State.fail_fixed, ↓mk_fixed, ↓ite_fixed, ite_self, ↓st_ite]) | (with_reducible refine (State.command_fixed _ _ _ (fun _ => ?_)).trans ?_) | (with_reducible refine (foldl_fixed _ _ _ (fun _ _ => ?_)).trans ?_) | (with_reducible refine (foldl_pair_fixed _ _ _ (fun _ _ => ?_)).trans ?_) | dsimp only | (simp_all; done))

@[simp] theorem execBslSetRead_fixed (d : Desc) (s : State) : (after (execBslSetRead d s) s).fixed = s.fixed := by
  unfold execBslSetRead
  repeat (first | rw [after_next] | rw [after_ite] | fail)
  repeat' (first | (simp only [↓State.answer_fixed, ↓State.command_fixed, ↓State.fail_fixed, ↓mk_fixed, ↓ite_fixed, ite_self, ↓st_ite]; done) | split | (simp only [↓State.answer_fixed, ↓State.command_fixed, ↓State.fail_fixed, ↓mk_fixed, ↓ite_fixed, ite_self, ↓st_ite]; split) | (simp only [↓State.answer_fixed, ↓State.command_fixed, ↓State.fail_fixed, ↓mk_fixed, ↓ite_fixed, ite_self, ↓st_ite]) | (with_reducible refine (State.command_fixed _ _ _ (fun _ => ?_)).trans ?_) | (with_reducible refine (foldl_fixed _ _ _ (fun _ _ => ?_)).trans ?_) | (with_reducible refine (foldl_pair_fixed _ _ _ (fun _ _ => ?_)).trans ?_) | dsimp only | (simp_all; done))

@[simp] theorem execBslStationInfo_fixed (d : Desc) (s : State) : (after (execBslStationInfo d s) s).fixed = s.fixed := by
  unfold execBslStationInfo
  repeat (first | rw [after_next] | rw [after_ite] | fail)
  repeat' (first | (simp only [↓State.command_fixed, ↓State.ok_fixed, ↓State.setBsl_fixed, ↓mk_fixed, ↓ite_fixed, ite_self, ↓st_ite]; done) | split | (simp only [↓State.command_fixed, ↓State.ok_fixed, ↓State.setBsl_fixed, ↓mk_fixed, ↓ite_fixed, ite_self, ↓st_ite]; split) | (simp only [↓State.command_fixed, ↓State.ok_fixed, ↓State.setBsl_fixed, ↓mk_fixed, ↓ite_fixed, ite_self, ↓st_ite]) | (with_reducible refine (State.command_fixed _ _ _ (fun _ => ?_)).trans ?_) | (with_reducible refine (foldl_fixed _ _ _ (fun _ _ => ?_)).trans ?_) | (with_reducible refine (foldl_pair_fixed _ _ _ (fun _ _ => ?_)).trans ?_) | dsimp only | (simp_all; done))

end Sys2Proof.Machine
end

