-- ==== Sys2Proof/Laws/FixedAllot.lean ====
section
/-! SUPPORT. What the operations of Machine/Allot.lean leave alone (Laws/Fixed.lean). -/

set_option linter.all false

namespace Sys2Proof.Machine

open Sys2Proof

@[simp] theorem State.setAr_fixed (s : State) (r : Nat) (x : AltRobot) : (State.setAr s r x).fixed = s.fixed := by
  unfold State.setAr
  repeat' (first | (simp only [↓State.setAlt_fixed, ↓mk_fixed, ↓ite_fixed, ite_self, ↓st_ite]; done) | split | (simp only [↓State.setAlt_fixed, ↓mk_fixed, ↓ite_fixed, ite_self, ↓st_ite]; split) | (simp only [↓State.setAlt_fixed, ↓mk_fixed, ↓ite_fixed, ite_self, ↓st_ite]) | (with_reducible refine (foldl_fixed _ _ _ (fun _ _ => ?_)).trans ?_) | (with_reducible refine (foldl_pair_fixed _ _ _ (fun _ _ => ?_)).trans ?_) | dsimp only | (simp_all; done))

@[simp] theorem State.showAllot_fixed (s : State) : (State.showAllot s).fixed = s.fixed := by
  unfold State.showAllot
  repeat' (first | (simp only [↓State.put_fixed, ↓State.setNum_fixed, ↓mk_fixed, ↓ite_fixed, ite_self, ↓st_ite]; done) | split | (simp only [↓State.put_fixed, ↓State.setNum_fixed, ↓mk_fixed, ↓ite_fixed, ite_self, ↓st_ite]; split) | (simp only [↓State.put_fixed, ↓State.setNum_fixed, ↓mk_fixed, ↓ite_fixed, ite_self, ↓st_ite]) | (with_reducible refine (foldl_fixed _ _ _ (fun _ _ => ?_)).trans ?_) | (with_reducible refine (foldl_pair_fixed _ _ _ (fun _ _ => ?_)).trans ?_) | dsimp only | (simp_all; done))

@[simp] theorem State.altItem_fixed (s : State) (opcode result : Nat) (bytes : List Byte) : (State.altItem s opcode result bytes).fixed = s.fixed := by
  unfold State.altItem
  repeat' (first | (simp only [↓State.count_fixed, ↓State.deliver_fixed, ↓mk_fixed, ↓ite_fixed, ite_self, ↓st_ite]; done) | split | (simp only [↓State.count_fixed, ↓State.deliver_fixed, ↓mk_fixed, ↓ite_fixed, ite_self, ↓st_ite]; split) | (simp only [↓State.count_fixed, ↓State.deliver_fixed, ↓mk_fixed, ↓ite_fixed, ite_self, ↓st_ite]) | (simp only [pair_fixed ‹State.deliver _ _ _ _ _ _  = (_, _)› (State.deliver_fixed _ _ _ _ _ _ ), ↓State.count_fixed, ↓State.deliver_fixed, ↓mk_fixed, ↓ite_fixed, ite_self, ↓st_ite]) | (with_reducible refine (foldl_fixed _ _ _ (fun _ _ => ?_)).trans ?_) | (with_reducible refine (foldl_pair_fixed _ _ _ (fun _ _ => ?_)).trans ?_) | dsimp only | (simp_all; done))

@[simp] theorem State.makeReply_fixed (s : State) (r kind reason first : Nat) (f : Refused) : (State.makeReply s r kind reason first f).1.fixed = s.fixed := by
  unfold State.makeReply
  repeat' (first | (simp only [↓State.altItem_fixed, ↓State.setAr_fixed, ↓mk_fixed, ↓ite_fixed, ite_self, ↓st_ite]; done) | split | (simp only [↓State.altItem_fixed, ↓State.setAr_fixed, ↓mk_fixed, ↓ite_fixed, ite_self, ↓st_ite]; split) | (simp only [↓State.altItem_fixed, ↓State.setAr_fixed, ↓mk_fixed, ↓ite_fixed, ite_self, ↓st_ite]) | (with_reducible refine (foldl_fixed _ _ _ (fun _ _ => ?_)).trans ?_) | (with_reducible refine (foldl_pair_fixed _ _ _ (fun _ _ => ?_)).trans ?_) | dsimp only | (simp_all; done))

@[simp] theorem State.notify_fixed (s : State) (r : Nat) (a : AltReply) : (State.notify s r a).fixed = s.fixed := by
  unfold State.notify
  repeat' (first | (simp only [↓State.setFlt_fixed, ↓mk_fixed, ↓ite_fixed, ite_self, ↓st_ite]; done) | split | (simp only [↓State.setFlt_fixed, ↓mk_fixed, ↓ite_fixed, ite_self, ↓st_ite]; split) | (simp only [↓State.setFlt_fixed, ↓mk_fixed, ↓ite_fixed, ite_self, ↓st_ite]) | (with_reducible refine (foldl_fixed _ _ _ (fun _ _ => ?_)).trans ?_) | (with_reducible refine (foldl_pair_fixed _ _ _ (fun _ _ => ?_)).trans ?_) | dsimp only | (simp_all; done))

@[simp] theorem State.stopRobot_fixed (s : State) (r cause t : Nat) : (State.stopRobot s r cause t).1.fixed = s.fixed := by
  unfold State.stopRobot
  repeat' (first | (simp only [↓State.altItem_fixed, ↓State.count_fixed, ↓State.drawn_fixed, ↓State.makeReply_fixed, ↓State.notify_fixed, ↓State.raiseRobot_fixed, ↓State.record_fixed, ↓State.setAr_fixed, ↓mk_fixed, ↓ite_fixed, ite_self, ↓st_ite]; done) | split | (simp only [↓State.altItem_fixed, ↓State.count_fixed, ↓State.drawn_fixed, ↓State.makeReply_fixed, ↓State.notify_fixed, ↓State.raiseRobot_fixed, ↓State.record_fixed, ↓State.setAr_fixed, ↓mk_fixed, ↓ite_fixed, ite_self, ↓st_ite]; split) | (simp only [↓State.altItem_fixed, ↓State.count_fixed, ↓State.drawn_fixed, ↓State.makeReply_fixed, ↓State.notify_fixed, ↓State.raiseRobot_fixed, ↓State.record_fixed, ↓State.setAr_fixed, ↓mk_fixed, ↓ite_fixed, ite_self, ↓st_ite]) | (simp only [pair_fixed ‹State.makeReply _ _ _ _ _ _  = (_, _)› (State.makeReply_fixed _ _ _ _ _ _ ), ↓State.altItem_fixed, ↓State.count_fixed, ↓State.drawn_fixed, ↓State.makeReply_fixed, ↓State.notify_fixed, ↓State.raiseRobot_fixed, ↓State.record_fixed, ↓State.setAr_fixed, ↓mk_fixed, ↓ite_fixed, ite_self, ↓st_ite]) | (with_reducible refine (foldl_fixed _ _ _ (fun _ _ => ?_)).trans ?_) | (with_reducible refine (foldl_pair_fixed _ _ _ (fun _ _ => ?_)).trans ?_) | dsimp only | (simp_all; done))

@[simp] theorem State.revoke_fixed (s : State) (r j holder : Nat) (k : Item) (f : Refused) : (State.revoke s r j holder k f).fixed = s.fixed := by
  unfold State.revoke
  repeat' (first | (simp only [↓State.count_fixed, ↓State.makeReply_fixed, ↓State.notify_fixed, ↓State.record_fixed, ↓State.setAr_fixed, ↓mk_fixed, ↓ite_fixed, ite_self, ↓st_ite]; done) | split | (simp only [↓State.count_fixed, ↓State.makeReply_fixed, ↓State.notify_fixed, ↓State.record_fixed, ↓State.setAr_fixed, ↓mk_fixed, ↓ite_fixed, ite_self, ↓st_ite]; split) | (simp only [↓State.count_fixed, ↓State.makeReply_fixed, ↓State.notify_fixed, ↓State.record_fixed, ↓State.setAr_fixed, ↓mk_fixed, ↓ite_fixed, ite_self, ↓st_ite]) | (simp only [pair_fixed ‹State.makeReply _ _ _ _ _ _  = (_, _)› (State.makeReply_fixed _ _ _ _ _ _ ), ↓State.count_fixed, ↓State.makeReply_fixed, ↓State.notify_fixed, ↓State.record_fixed, ↓State.setAr_fixed, ↓mk_fixed, ↓ite_fixed, ite_self, ↓st_ite]) | (with_reducible refine (foldl_fixed _ _ _ (fun _ _ => ?_)).trans ?_) | (with_reducible refine (foldl_pair_fixed _ _ _ (fun _ _ => ?_)).trans ?_) | dsimp only | (simp_all; done))

@[simp] theorem State.hitRobot_fixed (s : State) (m : Roadmap) (holder : Nat) (holds : List Resv) (r : Nat) : (State.hitRobot s m holder holds r).1.fixed = s.fixed := by
  unfold State.hitRobot
  repeat' (first | (simp only [↓State.revoke_fixed, ↓State.stopRobot_fixed, ↓mk_fixed, ↓ite_fixed, ite_self, ↓st_ite]; done) | split | (simp only [↓State.revoke_fixed, ↓State.stopRobot_fixed, ↓mk_fixed, ↓ite_fixed, ite_self, ↓st_ite]; split) | (simp only [↓State.revoke_fixed, ↓State.stopRobot_fixed, ↓mk_fixed, ↓ite_fixed, ite_self, ↓st_ite]) | (simp only [pair_fixed ‹State.stopRobot _ _ _ _  = (_, _)› (State.stopRobot_fixed _ _ _ _ ), ↓State.revoke_fixed, ↓State.stopRobot_fixed, ↓mk_fixed, ↓ite_fixed, ite_self, ↓st_ite]) | (with_reducible refine (foldl_fixed _ _ _ (fun _ _ => ?_)).trans ?_) | (with_reducible refine (foldl_pair_fixed _ _ _ (fun _ _ => ?_)).trans ?_) | dsimp only | (simp_all; done))

@[simp] theorem State.spreadHolds_fixed (s : State) (m : Roadmap) (x0 : Nat) (x1 : List (Nat × List Item)) :
    (State.spreadHolds s m x0 x1).fixed = s.fixed := by
  induction x0 generalizing s x1 with
  | zero => simp [State.spreadHolds]
  | succ n ih =>
    cases x1 with
    | nil => simp [State.spreadHolds]
    | cons a l =>
      simp only [State.spreadHolds, ih]
      exact foldl_pair_fixed _ _ _ (fun _ _ => by simp only [State.hitRobot_fixed])

@[simp] theorem State.conformanceStop_fixed (s : State) (r cause t : Nat) : (State.conformanceStop s r cause t).fixed = s.fixed := by
  unfold State.conformanceStop
  repeat' (first | (simp only [↓State.showAllot_fixed, ↓State.spreadHolds_fixed, ↓State.stopRobot_fixed, ↓mk_fixed, ↓ite_fixed, ite_self, ↓st_ite]; done) | split | (simp only [↓State.showAllot_fixed, ↓State.spreadHolds_fixed, ↓State.stopRobot_fixed, ↓mk_fixed, ↓ite_fixed, ite_self, ↓st_ite]; split) | (simp only [↓State.showAllot_fixed, ↓State.spreadHolds_fixed, ↓State.stopRobot_fixed, ↓mk_fixed, ↓ite_fixed, ite_self, ↓st_ite]) | (simp only [pair_fixed ‹State.stopRobot _ _ _ _  = (_, _)› (State.stopRobot_fixed _ _ _ _ ), ↓State.showAllot_fixed, ↓State.spreadHolds_fixed, ↓State.stopRobot_fixed, ↓mk_fixed, ↓ite_fixed, ite_self, ↓st_ite]) | (with_reducible refine (foldl_fixed _ _ _ (fun _ _ => ?_)).trans ?_) | (with_reducible refine (foldl_pair_fixed _ _ _ (fun _ _ => ?_)).trans ?_) | dsimp only | (simp_all; done))

@[simp] theorem execAllotEdgeJob_fixed (s : State) : (after (execAllotEdgeJob s) s).fixed = s.fixed := by
  unfold execAllotEdgeJob
  repeat (first | rw [after_next] | rw [after_ite] | fail)
  repeat' (first | (simp only [↓State.conformanceStop_fixed, ↓State.runWork_fixed, ↓State.setAr_fixed, ↓State.showAllot_fixed, ↓mk_fixed, ↓ite_fixed, ite_self, ↓st_ite]; done) | split | (simp only [↓State.conformanceStop_fixed, ↓State.runWork_fixed, ↓State.setAr_fixed, ↓State.showAllot_fixed, ↓mk_fixed, ↓ite_fixed, ite_self, ↓st_ite]; split) | (simp only [↓State.conformanceStop_fixed, ↓State.runWork_fixed, ↓State.setAr_fixed, ↓State.showAllot_fixed, ↓mk_fixed, ↓ite_fixed, ite_self, ↓st_ite]) | (with_reducible refine (State.runWork_fixed _ _ _ _ (fun _ => ?_)).trans ?_) | (with_reducible refine (foldl_fixed _ _ _ (fun _ _ => ?_)).trans ?_) | (with_reducible refine (foldl_pair_fixed _ _ _ (fun _ _ => ?_)).trans ?_) | dsimp only | (simp_all; done))

@[simp] theorem State.checkFix_fixed (s : State) (r : Nat) (b : List Byte) : (State.checkFix s r b).fixed = s.fixed := by
  unfold State.checkFix
  repeat' (first | (simp only [↓State.conformanceStop_fixed, ↓State.count_fixed, ↓State.setAr_fixed, ↓State.showAllot_fixed, ↓mk_fixed, ↓ite_fixed, ite_self, ↓st_ite]; done) | split | (simp only [↓State.conformanceStop_fixed, ↓State.count_fixed, ↓State.setAr_fixed, ↓State.showAllot_fixed, ↓mk_fixed, ↓ite_fixed, ite_self, ↓st_ite]; split) | (simp only [↓State.conformanceStop_fixed, ↓State.count_fixed, ↓State.setAr_fixed, ↓State.showAllot_fixed, ↓mk_fixed, ↓ite_fixed, ite_self, ↓st_ite]) | (with_reducible refine (foldl_fixed _ _ _ (fun _ _ => ?_)).trans ?_) | (with_reducible refine (foldl_pair_fixed _ _ _ (fun _ _ => ?_)).trans ?_) | dsimp only | (simp_all; done))

@[simp] theorem State.runElem_fixed (s : State) (p : Nat → Bool) (body : JobSrc → State → State) (hbody : ∀ a0 a1, (body a0 a1).fixed = a1.fixed) : (State.runElem s p body).fixed = s.fixed := by
  unfold State.runElem
  repeat' (first | (simp only [↓hbody, ↓State.commitOne_fixed, ↓mk_fixed, ↓ite_fixed, ite_self, ↓st_ite]; done) | split | (simp only [↓hbody, ↓State.commitOne_fixed, ↓mk_fixed, ↓ite_fixed, ite_self, ↓st_ite]; split) | (simp only [↓hbody, ↓State.commitOne_fixed, ↓mk_fixed, ↓ite_fixed, ite_self, ↓st_ite]) | (with_reducible refine (foldl_fixed _ _ _ (fun _ _ => ?_)).trans ?_) | (with_reducible refine (foldl_pair_fixed _ _ _ (fun _ _ => ?_)).trans ?_) | dsimp only | (simp_all; done))

theorem State.takeElem_fixed (s : State) (typ robot arrival seq : Nat) {t} (h : State.takeElem s typ robot arrival seq = some t) : t.1.fixed = s.fixed := by
  revert h
  unfold State.takeElem
  intro h
  repeat' (first | (simp only [↓State.setFlt_fixed, ↓mk_fixed, ↓ite_fixed, ite_self, ↓st_ite]; done) | split | (simp only [↓State.setFlt_fixed, ↓mk_fixed, ↓ite_fixed, ite_self, ↓st_ite]; split) | (simp only [↓State.setFlt_fixed, ↓mk_fixed, ↓ite_fixed, ite_self, ↓st_ite]) | (with_reducible refine (foldl_fixed _ _ _ (fun _ _ => ?_)).trans ?_) | (with_reducible refine (foldl_pair_fixed _ _ _ (fun _ _ => ?_)).trans ?_) | dsimp only | (split at h) | (cases h; done) | (cases h) | (injection h with h; subst h) | (simp_all; done))

@[simp] theorem execFixCheck_fixed (s : State) : (after (execFixCheck s) s).fixed = s.fixed := by
  unfold execFixCheck
  repeat (first | rw [after_next] | rw [after_ite] | fail)
  repeat' (first | (simp only [↓State.checkFix_fixed, ↓State.count_fixed, ↓State.runElem_fixed, ↓State.setBsl_fixed, ↓mk_fixed, ↓ite_fixed, ite_self, ↓st_ite]; done) | split | (simp only [↓State.checkFix_fixed, ↓State.count_fixed, ↓State.runElem_fixed, ↓State.setBsl_fixed, ↓mk_fixed, ↓ite_fixed, ite_self, ↓st_ite]; split) | (simp only [↓State.checkFix_fixed, ↓State.count_fixed, ↓State.runElem_fixed, ↓State.setBsl_fixed, ↓mk_fixed, ↓ite_fixed, ite_self, ↓st_ite]) | (simp only [optpair_fixed ‹State.takeElem _ _ _ _ _  = some (_, _)› (fun _ h => State.takeElem_fixed _ _ _ _ _  h), ↓State.checkFix_fixed, ↓State.count_fixed, ↓State.runElem_fixed, ↓State.setBsl_fixed, ↓mk_fixed, ↓ite_fixed, ite_self, ↓st_ite]) | (with_reducible refine (State.runElem_fixed _ _ _ (fun _ _ => ?_)).trans ?_) | (with_reducible refine (foldl_fixed _ _ _ (fun _ _ => ?_)).trans ?_) | (with_reducible refine (foldl_pair_fixed _ _ _ (fun _ _ => ?_)).trans ?_) | dsimp only | (simp_all; done))

@[simp] theorem State.claim_fixed (s : State) (r : Nat) (b : List Byte) (from' : Option Nat) : (State.claim s r b from').1.fixed = s.fixed := by
  unfold State.claim
  repeat' (first | (simp only [↓State.count_fixed, ↓State.drawn_fixed, ↓State.makeReply_fixed, ↓State.ok_fixed, ↓State.peak_fixed, ↓State.record_fixed, ↓State.setAr_fixed, ↓State.showAllot_fixed, ↓mk_fixed, ↓ite_fixed, ite_self, ↓st_ite]; done) | split | (simp only [↓State.count_fixed, ↓State.drawn_fixed, ↓State.makeReply_fixed, ↓State.ok_fixed, ↓State.peak_fixed, ↓State.record_fixed, ↓State.setAr_fixed, ↓State.showAllot_fixed, ↓mk_fixed, ↓ite_fixed, ite_self, ↓st_ite]; split) | (simp only [↓State.count_fixed, ↓State.drawn_fixed, ↓State.makeReply_fixed, ↓State.ok_fixed, ↓State.peak_fixed, ↓State.record_fixed, ↓State.setAr_fixed, ↓State.showAllot_fixed, ↓mk_fixed, ↓ite_fixed, ite_self, ↓st_ite]) | (simp only [pair_fixed ‹State.makeReply _ _ _ _ _ _  = (_, _)› (State.makeReply_fixed _ _ _ _ _ _ ), ↓State.count_fixed, ↓State.drawn_fixed, ↓State.makeReply_fixed, ↓State.ok_fixed, ↓State.peak_fixed, ↓State.record_fixed, ↓State.setAr_fixed, ↓State.showAllot_fixed, ↓mk_fixed, ↓ite_fixed, ite_self, ↓st_ite]) | (with_reducible refine (foldl_fixed _ _ _ (fun _ _ => ?_)).trans ?_) | (with_reducible refine (foldl_pair_fixed _ _ _ (fun _ _ => ?_)).trans ?_) | dsimp only | (simp_all; done))

@[simp] theorem execClaimCheck_fixed (s : State) : (after (execClaimCheck s) s).fixed = s.fixed := by
  unfold execClaimCheck
  repeat (first | rw [after_next] | rw [after_ite] | fail)
  repeat' (first | (simp only [↓State.claim_fixed, ↓State.count_fixed, ↓State.fleetReply_fixed, ↓State.runElem_fixed, ↓State.setAr_fixed, ↓mk_fixed, ↓ite_fixed, ite_self, ↓st_ite]; done) | split | (simp only [↓State.claim_fixed, ↓State.count_fixed, ↓State.fleetReply_fixed, ↓State.runElem_fixed, ↓State.setAr_fixed, ↓mk_fixed, ↓ite_fixed, ite_self, ↓st_ite]; split) | (simp only [↓State.claim_fixed, ↓State.count_fixed, ↓State.fleetReply_fixed, ↓State.runElem_fixed, ↓State.setAr_fixed, ↓mk_fixed, ↓ite_fixed, ite_self, ↓st_ite]) | (simp only [optpair_fixed ‹State.takeElem _ _ _ _ _  = some (_, _)› (fun _ h => State.takeElem_fixed _ _ _ _ _  h), ↓State.claim_fixed, ↓State.count_fixed, ↓State.fleetReply_fixed, ↓State.runElem_fixed, ↓State.setAr_fixed, ↓mk_fixed, ↓ite_fixed, ite_self, ↓st_ite]) | (simp only [pair_fixed ‹State.claim _ _ _ _  = (_, _)› (State.claim_fixed _ _ _ _ ), ↓State.claim_fixed, ↓State.count_fixed, ↓State.fleetReply_fixed, ↓State.runElem_fixed, ↓State.setAr_fixed, ↓mk_fixed, ↓ite_fixed, ite_self, ↓st_ite]) | (with_reducible refine (State.runElem_fixed _ _ _ (fun _ _ => ?_)).trans ?_) | (with_reducible refine (foldl_fixed _ _ _ (fun _ _ => ?_)).trans ?_) | (with_reducible refine (foldl_pair_fixed _ _ _ (fun _ _ => ?_)).trans ?_) | dsimp only | (simp_all; done))

@[simp] theorem execAltRoadmapLoad_fixed (d : Desc) (s : State) : (after (execAltRoadmapLoad d s) s).fixed = s.fixed := by
  unfold execAltRoadmapLoad
  repeat (first | rw [after_next] | rw [after_ite] | fail)
  repeat' (first | (simp only [↓State.command_fixed, ↓State.fail_fixed, ↓State.ok_fixed, ↓State.record_fixed, ↓State.setAlt_fixed, ↓State.showAllot_fixed, ↓mk_fixed, ↓ite_fixed, ite_self, ↓st_ite]; done) | split | (simp only [↓State.command_fixed, ↓State.fail_fixed, ↓State.ok_fixed, ↓State.record_fixed, ↓State.setAlt_fixed, ↓State.showAllot_fixed, ↓mk_fixed, ↓ite_fixed, ite_self, ↓st_ite]; split) | (simp only [↓State.command_fixed, ↓State.fail_fixed, ↓State.ok_fixed, ↓State.record_fixed, ↓State.setAlt_fixed, ↓State.showAllot_fixed, ↓mk_fixed, ↓ite_fixed, ite_self, ↓st_ite]) | (with_reducible refine (State.command_fixed _ _ _ (fun _ => ?_)).trans ?_) | (with_reducible refine (foldl_fixed _ _ _ (fun _ _ => ?_)).trans ?_) | (with_reducible refine (foldl_pair_fixed _ _ _ (fun _ _ => ?_)).trans ?_) | dsimp only | (simp_all; done))

@[simp] theorem execAltClaim_fixed (d : Desc) (s : State) : (after (execAltClaim d s) s).fixed = s.fixed := by
  unfold execAltClaim
  repeat (first | rw [after_next] | rw [after_ite] | fail)
  repeat' (first | (simp only [↓State.claim_fixed, ↓State.command_fixed, ↓State.fail_fixed, ↓State.notify_fixed, ↓mk_fixed, ↓ite_fixed, ite_self, ↓st_ite]; done) | split | (simp only [↓State.claim_fixed, ↓State.command_fixed, ↓State.fail_fixed, ↓State.notify_fixed, ↓mk_fixed, ↓ite_fixed, ite_self, ↓st_ite]; split) | (simp only [↓State.claim_fixed, ↓State.command_fixed, ↓State.fail_fixed, ↓State.notify_fixed, ↓mk_fixed, ↓ite_fixed, ite_self, ↓st_ite]) | (simp only [pair_fixed ‹State.claim _ _ _ _  = (_, _)› (State.claim_fixed _ _ _ _ ), ↓State.claim_fixed, ↓State.command_fixed, ↓State.fail_fixed, ↓State.notify_fixed, ↓mk_fixed, ↓ite_fixed, ite_self, ↓st_ite]) | (with_reducible refine (State.command_fixed _ _ _ (fun _ => ?_)).trans ?_) | (with_reducible refine (foldl_fixed _ _ _ (fun _ _ => ?_)).trans ?_) | (with_reducible refine (foldl_pair_fixed _ _ _ (fun _ _ => ?_)).trans ?_) | dsimp only | (simp_all; done))

@[simp] theorem execAltRelease_fixed (d : Desc) (s : State) : (after (execAltRelease d s) s).fixed = s.fixed := by
  unfold execAltRelease
  repeat (first | rw [after_next] | rw [after_ite] | fail)
  repeat' (first | (simp only [↓State.command_fixed, ↓State.makeReply_fixed, ↓State.notify_fixed, ↓State.ok_fixed, ↓State.record_fixed, ↓State.setAr_fixed, ↓State.showAllot_fixed, ↓mk_fixed, ↓ite_fixed, ite_self, ↓st_ite]; done) | split | (simp only [↓State.command_fixed, ↓State.makeReply_fixed, ↓State.notify_fixed, ↓State.ok_fixed, ↓State.record_fixed, ↓State.setAr_fixed, ↓State.showAllot_fixed, ↓mk_fixed, ↓ite_fixed, ite_self, ↓st_ite]; split) | (simp only [↓State.command_fixed, ↓State.makeReply_fixed, ↓State.notify_fixed, ↓State.ok_fixed, ↓State.record_fixed, ↓State.setAr_fixed, ↓State.showAllot_fixed, ↓mk_fixed, ↓ite_fixed, ite_self, ↓st_ite]) | (simp only [pair_fixed ‹State.makeReply _ _ _ _ _ _  = (_, _)› (State.makeReply_fixed _ _ _ _ _ _ ), ↓State.command_fixed, ↓State.makeReply_fixed, ↓State.notify_fixed, ↓State.ok_fixed, ↓State.record_fixed, ↓State.setAr_fixed, ↓State.showAllot_fixed, ↓mk_fixed, ↓ite_fixed, ite_self, ↓st_ite]) | (with_reducible refine (State.command_fixed _ _ _ (fun _ => ?_)).trans ?_) | (with_reducible refine (foldl_fixed _ _ _ (fun _ _ => ?_)).trans ?_) | (with_reducible refine (foldl_pair_fixed _ _ _ (fun _ _ => ?_)).trans ?_) | dsimp only | (simp_all; done))

@[simp] theorem execAltResourceState_fixed (d : Desc) (s : State) : (after (execAltResourceState d s) s).fixed = s.fixed := by
  unfold execAltResourceState
  repeat (first | rw [after_next] | rw [after_ite] | fail)
  repeat' (first | (simp only [↓State.command_fixed, ↓State.count_fixed, ↓State.fail_fixed, ↓State.ok_fixed, ↓State.record_fixed, ↓State.setAlt_fixed, ↓mk_fixed, ↓ite_fixed, ite_self, ↓st_ite]; done) | split | (simp only [↓State.command_fixed, ↓State.count_fixed, ↓State.fail_fixed, ↓State.ok_fixed, ↓State.record_fixed, ↓State.setAlt_fixed, ↓mk_fixed, ↓ite_fixed, ite_self, ↓st_ite]; split) | (simp only [↓State.command_fixed, ↓State.count_fixed, ↓State.fail_fixed, ↓State.ok_fixed, ↓State.record_fixed, ↓State.setAlt_fixed, ↓mk_fixed, ↓ite_fixed, ite_self, ↓st_ite]) | (with_reducible refine (State.command_fixed _ _ _ (fun _ => ?_)).trans ?_) | (with_reducible refine (foldl_fixed _ _ _ (fun _ _ => ?_)).trans ?_) | (with_reducible refine (foldl_pair_fixed _ _ _ (fun _ _ => ?_)).trans ?_) | dsimp only | (simp_all; done))

@[simp] theorem execAltRobotQuery_fixed (d : Desc) (s : State) : (after (execAltRobotQuery d s) s).fixed = s.fixed := by
  unfold execAltRobotQuery
  repeat (first | rw [after_next] | rw [after_ite] | fail)
  repeat' (first | (simp only [↓State.answer_fixed, ↓State.command_fixed, ↓mk_fixed, ↓ite_fixed, ite_self, ↓st_ite]; done) | split | (simp only [↓State.answer_fixed, ↓State.command_fixed, ↓mk_fixed, ↓ite_fixed, ite_self, ↓st_ite]; split) | (simp only [↓State.answer_fixed, ↓State.command_fixed, ↓mk_fixed, ↓ite_fixed, ite_self, ↓st_ite]) | (with_reducible refine (State.command_fixed _ _ _ (fun _ => ?_)).trans ?_) | (with_reducible refine (foldl_fixed _ _ _ (fun _ _ => ?_)).trans ?_) | (with_reducible refine (foldl_pair_fixed _ _ _ (fun _ _ => ?_)).trans ?_) | dsimp only | (simp_all; done))

@[simp] theorem execAltResourceQuery_fixed (d : Desc) (s : State) : (after (execAltResourceQuery d s) s).fixed = s.fixed := by
  unfold execAltResourceQuery
  repeat (first | rw [after_next] | rw [after_ite] | fail)
  repeat' (first | (simp only [↓State.answer_fixed, ↓State.command_fixed, ↓State.fail_fixed, ↓mk_fixed, ↓ite_fixed, ite_self, ↓st_ite]; done) | split | (simp only [↓State.answer_fixed, ↓State.command_fixed, ↓State.fail_fixed, ↓mk_fixed, ↓ite_fixed, ite_self, ↓st_ite]; split) | (simp only [↓State.answer_fixed, ↓State.command_fixed, ↓State.fail_fixed, ↓mk_fixed, ↓ite_fixed, ite_self, ↓st_ite]) | (with_reducible refine (State.command_fixed _ _ _ (fun _ => ?_)).trans ?_) | (with_reducible refine (foldl_fixed _ _ _ (fun _ _ => ?_)).trans ?_) | (with_reducible refine (foldl_pair_fixed _ _ _ (fun _ _ => ?_)).trans ?_) | dsimp only | (simp_all; done))

@[simp] theorem State.altStopCleared_fixed (s : State) (r : Nat) : (State.altStopCleared s r).fixed = s.fixed := by
  unfold State.altStopCleared
  repeat' (first | (simp only [↓State.setAr_fixed, ↓State.showAllot_fixed, ↓mk_fixed, ↓ite_fixed, ite_self, ↓st_ite]; done) | split | (simp only [↓State.setAr_fixed, ↓State.showAllot_fixed, ↓mk_fixed, ↓ite_fixed, ite_self, ↓st_ite]; split) | (simp only [↓State.setAr_fixed, ↓State.showAllot_fixed, ↓mk_fixed, ↓ite_fixed, ite_self, ↓st_ite]) | (with_reducible refine (foldl_fixed _ _ _ (fun _ _ => ?_)).trans ?_) | (with_reducible refine (foldl_pair_fixed _ _ _ (fun _ _ => ?_)).trans ?_) | dsimp only | (simp_all; done))

end Sys2Proof.Machine
end

