-- ==== Sys2Proof/Laws/FixedKeys.lean ====
section
/-! SUPPORT. What the operations of Machine/Keys.lean leave alone (Laws/Fixed.lean). -/

set_option linter.all false

namespace Sys2Proof.Machine

open Sys2Proof

@[simp] theorem State.showTamper_fixed (s : State) : (State.showTamper s).fixed = s.fixed := by
  unfold State.showTamper
  repeat' (first | (simp only [↓State.put_fixed, ↓mk_fixed, ↓ite_fixed, ite_self, ↓st_ite]; done) | split | (simp only [↓State.put_fixed, ↓mk_fixed, ↓ite_fixed, ite_self, ↓st_ite]; split) | (simp only [↓State.put_fixed, ↓mk_fixed, ↓ite_fixed, ite_self, ↓st_ite]) | (with_reducible refine (foldl_fixed _ _ _ (fun _ _ => ?_)).trans ?_) | (with_reducible refine (foldl_pair_fixed _ _ _ (fun _ _ => ?_)).trans ?_) | dsimp only | (simp_all; done))

@[simp] theorem execKeyPubRead_fixed (d : Desc) (s : State) : (after (execKeyPubRead d s) s).fixed = s.fixed := by
  unfold execKeyPubRead
  repeat (first | rw [after_next] | rw [after_ite] | fail)
  repeat' (first | (simp only [↓State.answer_fixed, ↓State.command_fixed, ↓State.fail_fixed, ↓State.usedS_fixed, ↓mk_fixed, ↓ite_fixed, ite_self, ↓st_ite]; done) | split | (simp only [↓State.answer_fixed, ↓State.command_fixed, ↓State.fail_fixed, ↓State.usedS_fixed, ↓mk_fixed, ↓ite_fixed, ite_self, ↓st_ite]; split) | (simp only [↓State.answer_fixed, ↓State.command_fixed, ↓State.fail_fixed, ↓State.usedS_fixed, ↓mk_fixed, ↓ite_fixed, ite_self, ↓st_ite]) | (with_reducible refine (State.command_fixed _ _ _ (fun _ => ?_)).trans ?_) | (with_reducible refine (foldl_fixed _ _ _ (fun _ _ => ?_)).trans ?_) | (with_reducible refine (foldl_pair_fixed _ _ _ (fun _ _ => ?_)).trans ?_) | dsimp only | (simp_all; done))

@[simp] theorem State.showTag_fixed (s : State) (slot tag : Nat) : (State.showTag s slot tag).fixed = s.fixed := by
  unfold State.showTag
  repeat' (first | (simp only [↓State.setNum64_fixed, ↓mk_fixed, ↓ite_fixed, ite_self, ↓st_ite]; done) | split | (simp only [↓State.setNum64_fixed, ↓mk_fixed, ↓ite_fixed, ite_self, ↓st_ite]; split) | (simp only [↓State.setNum64_fixed, ↓mk_fixed, ↓ite_fixed, ite_self, ↓st_ite]) | (with_reducible refine (foldl_fixed _ _ _ (fun _ _ => ?_)).trans ?_) | (with_reducible refine (foldl_pair_fixed _ _ _ (fun _ _ => ?_)).trans ?_) | dsimp only | (simp_all; done))

@[simp] theorem State.putBranches_fixed (s : State) (slot : Nat) : (State.putBranches s slot).fixed = s.fixed := by
  unfold State.putBranches
  repeat' (first | (simp only [↓State.putS_fixed, ↓State.usedS_fixed, ↓mk_fixed, ↓ite_fixed, ite_self, ↓st_ite]; done) | split | (simp only [↓State.putS_fixed, ↓State.usedS_fixed, ↓mk_fixed, ↓ite_fixed, ite_self, ↓st_ite]; split) | (simp only [↓State.putS_fixed, ↓State.usedS_fixed, ↓mk_fixed, ↓ite_fixed, ite_self, ↓st_ite]) | (with_reducible refine (foldl_fixed _ _ _ (fun _ _ => ?_)).trans ?_) | (with_reducible refine (foldl_pair_fixed _ _ _ (fun _ _ => ?_)).trans ?_) | dsimp only | (simp_all; done))

@[simp] theorem State.loadSite_fixed (s : State) (slot : Nat) (secret : List Byte) : (State.loadSite s slot secret).1.fixed = s.fixed := by
  unfold State.loadSite
  repeat' (first | (simp only [↓State.putBranches_fixed, ↓State.putS_fixed, ↓State.put_fixed, ↓State.record_fixed, ↓State.setKey_fixed, ↓State.showCache_fixed, ↓State.showGens_fixed, ↓State.showTag_fixed, ↓mk_fixed, ↓ite_fixed, ite_self, ↓st_ite]; done) | split | (simp only [↓State.putBranches_fixed, ↓State.putS_fixed, ↓State.put_fixed, ↓State.record_fixed, ↓State.setKey_fixed, ↓State.showCache_fixed, ↓State.showGens_fixed, ↓State.showTag_fixed, ↓mk_fixed, ↓ite_fixed, ite_self, ↓st_ite]; split) | (simp only [↓State.putBranches_fixed, ↓State.putS_fixed, ↓State.put_fixed, ↓State.record_fixed, ↓State.setKey_fixed, ↓State.showCache_fixed, ↓State.showGens_fixed, ↓State.showTag_fixed, ↓mk_fixed, ↓ite_fixed, ite_self, ↓st_ite]) | (with_reducible refine (foldl_fixed _ _ _ (fun _ _ => ?_)).trans ?_) | (with_reducible refine (foldl_pair_fixed _ _ _ (fun _ _ => ?_)).trans ?_) | dsimp only | (simp_all; done))

@[simp] theorem execKeySiteImport_fixed (d : Desc) (s : State) : (after (execKeySiteImport d s) s).fixed = s.fixed := by
  unfold execKeySiteImport
  repeat (first | rw [after_next] | rw [after_ite] | fail)
  repeat' (first | (simp only [↓State.command_fixed, ↓State.fail_fixed, ↓State.loadSite_fixed, ↓State.ok_fixed, ↓State.usedS_fixed, ↓mk_fixed, ↓ite_fixed, ite_self, ↓st_ite]; done) | split | (simp only [↓State.command_fixed, ↓State.fail_fixed, ↓State.loadSite_fixed, ↓State.ok_fixed, ↓State.usedS_fixed, ↓mk_fixed, ↓ite_fixed, ite_self, ↓st_ite]; split) | (simp only [↓State.command_fixed, ↓State.fail_fixed, ↓State.loadSite_fixed, ↓State.ok_fixed, ↓State.usedS_fixed, ↓mk_fixed, ↓ite_fixed, ite_self, ↓st_ite]) | (simp only [pair_fixed ‹State.loadSite _ _ _  = (_, _)› (State.loadSite_fixed _ _ _ ), ↓State.command_fixed, ↓State.fail_fixed, ↓State.loadSite_fixed, ↓State.ok_fixed, ↓State.usedS_fixed, ↓mk_fixed, ↓ite_fixed, ite_self, ↓st_ite]) | (with_reducible refine (State.command_fixed _ _ _ (fun _ => ?_)).trans ?_) | (with_reducible refine (foldl_fixed _ _ _ (fun _ _ => ?_)).trans ?_) | (with_reducible refine (foldl_pair_fixed _ _ _ (fun _ _ => ?_)).trans ?_) | dsimp only | (simp_all; done))

@[simp] theorem State.setBranch_fixed (s : State) (code : Nat) (b : KeyBranch) : (State.setBranch s code b).fixed = s.fixed := by
  unfold State.setBranch
  repeat' (first | (simp only [↓State.setKey_fixed, ↓mk_fixed, ↓ite_fixed, ite_self, ↓st_ite]; done) | split | (simp only [↓State.setKey_fixed, ↓mk_fixed, ↓ite_fixed, ite_self, ↓st_ite]; split) | (simp only [↓State.setKey_fixed, ↓mk_fixed, ↓ite_fixed, ite_self, ↓st_ite]) | (with_reducible refine (foldl_fixed _ _ _ (fun _ _ => ?_)).trans ?_) | (with_reducible refine (foldl_pair_fixed _ _ _ (fun _ _ => ?_)).trans ?_) | dsimp only | (simp_all; done))

@[simp] theorem execKeyRoll_fixed (d : Desc) (s : State) : (after (execKeyRoll d s) s).fixed = s.fixed := by
  unfold execKeyRoll
  repeat (first | rw [after_next] | rw [after_ite] | fail)
  repeat' (first | (simp only [↓State.command_fixed, ↓State.fail_fixed, ↓State.ok_fixed, ↓State.record_fixed, ↓State.setBranch_fixed, ↓State.showCache_fixed, ↓State.usedS_fixed, ↓mk_fixed, ↓ite_fixed, ite_self, ↓st_ite]; done) | split | (simp only [↓State.command_fixed, ↓State.fail_fixed, ↓State.ok_fixed, ↓State.record_fixed, ↓State.setBranch_fixed, ↓State.showCache_fixed, ↓State.usedS_fixed, ↓mk_fixed, ↓ite_fixed, ite_self, ↓st_ite]; split) | (simp only [↓State.command_fixed, ↓State.fail_fixed, ↓State.ok_fixed, ↓State.record_fixed, ↓State.setBranch_fixed, ↓State.showCache_fixed, ↓State.usedS_fixed, ↓mk_fixed, ↓ite_fixed, ite_self, ↓st_ite]) | (with_reducible refine (State.command_fixed _ _ _ (fun _ => ?_)).trans ?_) | (with_reducible refine (foldl_fixed _ _ _ (fun _ _ => ?_)).trans ?_) | (with_reducible refine (foldl_pair_fixed _ _ _ (fun _ _ => ?_)).trans ?_) | dsimp only | (simp_all; done))

@[simp] theorem State.switchBranch_fixed (s : State) (code : Nat) : (State.switchBranch s code).fixed = s.fixed := by
  unfold State.switchBranch
  repeat' (first | (simp only [↓State.setBranch_fixed, ↓mk_fixed, ↓ite_fixed, ite_self, ↓st_ite]; done) | split | (simp only [↓State.setBranch_fixed, ↓mk_fixed, ↓ite_fixed, ite_self, ↓st_ite]; split) | (simp only [↓State.setBranch_fixed, ↓mk_fixed, ↓ite_fixed, ite_self, ↓st_ite]) | (with_reducible refine (foldl_fixed _ _ _ (fun _ _ => ?_)).trans ?_) | (with_reducible refine (foldl_pair_fixed _ _ _ (fun _ _ => ?_)).trans ?_) | dsimp only | (simp_all; done))

@[simp] theorem execKeySwitch_fixed (s : State) : (after (execKeySwitch s) s).fixed = s.fixed := by
  unfold execKeySwitch
  repeat (first | rw [after_next] | rw [after_ite] | fail)
  repeat' (first | (simp only [↓State.showCache_fixed, ↓State.showGens_fixed, ↓State.switchBranch_fixed, ↓mk_fixed, ↓ite_fixed, ite_self, ↓st_ite]; done) | split | (simp only [↓State.showCache_fixed, ↓State.showGens_fixed, ↓State.switchBranch_fixed, ↓mk_fixed, ↓ite_fixed, ite_self, ↓st_ite]; split) | (simp only [↓State.showCache_fixed, ↓State.showGens_fixed, ↓State.switchBranch_fixed, ↓mk_fixed, ↓ite_fixed, ite_self, ↓st_ite]) | (with_reducible refine (foldl_fixed _ _ _ (fun _ _ => ?_)).trans ?_) | (with_reducible refine (foldl_pair_fixed _ _ _ (fun _ _ => ?_)).trans ?_) | dsimp only | (simp_all; done))

@[simp] theorem State.kill_fixed (s : State) (ks : List DeadKey) : (State.kill s ks).fixed = s.fixed := by
  unfold State.kill
  repeat' (first | (simp only [↓State.setKey_fixed, ↓State.showCache_fixed, ↓mk_fixed, ↓ite_fixed, ite_self, ↓st_ite]; done) | split | (simp only [↓State.setKey_fixed, ↓State.showCache_fixed, ↓mk_fixed, ↓ite_fixed, ite_self, ↓st_ite]; split) | (simp only [↓State.setKey_fixed, ↓State.showCache_fixed, ↓mk_fixed, ↓ite_fixed, ite_self, ↓st_ite]) | (with_reducible refine (foldl_fixed _ _ _ (fun _ _ => ?_)).trans ?_) | (with_reducible refine (foldl_pair_fixed _ _ _ (fun _ _ => ?_)).trans ?_) | dsimp only | (simp_all; done))

@[simp] theorem execKeyInvalidate_fixed (d : Desc) (s : State) : (after (execKeyInvalidate d s) s).fixed = s.fixed := by
  unfold execKeyInvalidate
  repeat (first | rw [after_next] | rw [after_ite] | fail)
  repeat' (first | (simp only [↓State.command_fixed, ↓State.fail_fixed, ↓State.kill_fixed, ↓State.ok_fixed, ↓State.record_fixed, ↓mk_fixed, ↓ite_fixed, ite_self, ↓st_ite]; done) | split | (simp only [↓State.command_fixed, ↓State.fail_fixed, ↓State.kill_fixed, ↓State.ok_fixed, ↓State.record_fixed, ↓mk_fixed, ↓ite_fixed, ite_self, ↓st_ite]; split) | (simp only [↓State.command_fixed, ↓State.fail_fixed, ↓State.kill_fixed, ↓State.ok_fixed, ↓State.record_fixed, ↓mk_fixed, ↓ite_fixed, ite_self, ↓st_ite]) | (with_reducible refine (State.command_fixed _ _ _ (fun _ => ?_)).trans ?_) | (with_reducible refine (foldl_fixed _ _ _ (fun _ _ => ?_)).trans ?_) | (with_reducible refine (foldl_pair_fixed _ _ _ (fun _ _ => ?_)).trans ?_) | dsimp only | (simp_all; done))

@[simp] theorem State.unloadSite_fixed (s : State) (slot : Nat) : (State.unloadSite s slot).fixed = s.fixed := by
  unfold State.unloadSite
  repeat' (first | (simp only [↓State.dropS_fixed, ↓State.put_fixed, ↓State.showTag_fixed, ↓mk_fixed, ↓ite_fixed, ite_self, ↓st_ite]; done) | split | (simp only [↓State.dropS_fixed, ↓State.put_fixed, ↓State.showTag_fixed, ↓mk_fixed, ↓ite_fixed, ite_self, ↓st_ite]; split) | (simp only [↓State.dropS_fixed, ↓State.put_fixed, ↓State.showTag_fixed, ↓mk_fixed, ↓ite_fixed, ite_self, ↓st_ite]) | (with_reducible refine (foldl_fixed _ _ _ (fun _ _ => ?_)).trans ?_) | (with_reducible refine (foldl_pair_fixed _ _ _ (fun _ _ => ?_)).trans ?_) | dsimp only | (simp_all; done))

@[simp] theorem execKeySiteRetire_fixed (d : Desc) (s : State) : (after (execKeySiteRetire d s) s).fixed = s.fixed := by
  unfold execKeySiteRetire
  repeat (first | rw [after_next] | rw [after_ite] | fail)
  repeat' (first | (simp only [↓State.command_fixed, ↓State.fail_fixed, ↓State.kill_fixed, ↓State.ok_fixed, ↓State.record_fixed, ↓State.setKey_fixed, ↓State.showCache_fixed, ↓State.unloadSite_fixed, ↓mk_fixed, ↓ite_fixed, ite_self, ↓st_ite]; done) | split | (simp only [↓State.command_fixed, ↓State.fail_fixed, ↓State.kill_fixed, ↓State.ok_fixed, ↓State.record_fixed, ↓State.setKey_fixed, ↓State.showCache_fixed, ↓State.unloadSite_fixed, ↓mk_fixed, ↓ite_fixed, ite_self, ↓st_ite]; split) | (simp only [↓State.command_fixed, ↓State.fail_fixed, ↓State.kill_fixed, ↓State.ok_fixed, ↓State.record_fixed, ↓State.setKey_fixed, ↓State.showCache_fixed, ↓State.unloadSite_fixed, ↓mk_fixed, ↓ite_fixed, ite_self, ↓st_ite]) | (with_reducible refine (State.command_fixed _ _ _ (fun _ => ?_)).trans ?_) | (with_reducible refine (foldl_fixed _ _ _ (fun _ _ => ?_)).trans ?_) | (with_reducible refine (foldl_pair_fixed _ _ _ (fun _ _ => ?_)).trans ?_) | dsimp only | (simp_all; done))

@[simp] theorem execKeyExport_fixed (d : Desc) (s : State) : (after (execKeyExport d s) s).fixed = s.fixed := by
  unfold execKeyExport
  repeat (first | rw [after_next] | rw [after_ite] | fail)
  repeat' (first | (simp only [↓State.command_fixed, ↓State.fail_fixed, ↓State.record_fixed, ↓mk_fixed, ↓ite_fixed, ite_self, ↓st_ite]; done) | split | (simp only [↓State.command_fixed, ↓State.fail_fixed, ↓State.record_fixed, ↓mk_fixed, ↓ite_fixed, ite_self, ↓st_ite]; split) | (simp only [↓State.command_fixed, ↓State.fail_fixed, ↓State.record_fixed, ↓mk_fixed, ↓ite_fixed, ite_self, ↓st_ite]) | (with_reducible refine (State.command_fixed _ _ _ (fun _ => ?_)).trans ?_) | (with_reducible refine (foldl_fixed _ _ _ (fun _ _ => ?_)).trans ?_) | (with_reducible refine (foldl_pair_fixed _ _ _ (fun _ _ => ?_)).trans ?_) | dsimp only | (simp_all; done))

@[simp] theorem execKeyQuery_fixed (d : Desc) (s : State) : (after (execKeyQuery d s) s).fixed = s.fixed := by
  unfold execKeyQuery
  repeat (first | rw [after_next] | rw [after_ite] | fail)
  repeat' (first | (simp only [↓State.command_fixed, ↓State.fail_fixed, ↓State.ok_fixed, ↓mk_fixed, ↓ite_fixed, ite_self, ↓st_ite]; done) | split | (simp only [↓State.command_fixed, ↓State.fail_fixed, ↓State.ok_fixed, ↓mk_fixed, ↓ite_fixed, ite_self, ↓st_ite]; split) | (simp only [↓State.command_fixed, ↓State.fail_fixed, ↓State.ok_fixed, ↓mk_fixed, ↓ite_fixed, ite_self, ↓st_ite]) | (with_reducible refine (State.command_fixed _ _ _ (fun _ => ?_)).trans ?_) | (with_reducible refine (foldl_fixed _ _ _ (fun _ _ => ?_)).trans ?_) | (with_reducible refine (foldl_pair_fixed _ _ _ (fun _ _ => ?_)).trans ?_) | dsimp only | (simp_all; done))

@[simp] theorem State.attest_fixed (s : State) (d : Desc) (well : Option (List Byte)) : (State.attest s d well).st.fixed = s.fixed := by
  unfold State.attest
  repeat' (first | (simp only [↓State.answer_fixed, ↓State.drawn_fixed, ↓State.fail_fixed, ↓State.record_fixed, ↓State.usedS_fixed, ↓mk_fixed, ↓ite_fixed, ite_self, ↓st_ite]; done) | split | (simp only [↓State.answer_fixed, ↓State.drawn_fixed, ↓State.fail_fixed, ↓State.record_fixed, ↓State.usedS_fixed, ↓mk_fixed, ↓ite_fixed, ite_self, ↓st_ite]; split) | (simp only [↓State.answer_fixed, ↓State.drawn_fixed, ↓State.fail_fixed, ↓State.record_fixed, ↓State.usedS_fixed, ↓mk_fixed, ↓ite_fixed, ite_self, ↓st_ite]) | (with_reducible refine (foldl_fixed _ _ _ (fun _ _ => ?_)).trans ?_) | (with_reducible refine (foldl_pair_fixed _ _ _ (fun _ _ => ?_)).trans ?_) | dsimp only | (simp_all; done))

@[simp] theorem execKeyAttest_fixed (d : Desc) (s : State) : (after (execKeyAttest d s) s).fixed = s.fixed := by
  unfold execKeyAttest
  repeat (first | rw [after_next] | rw [after_ite] | fail)
  repeat' (first | (simp only [↓State.attest_fixed, ↓State.command_fixed, ↓State.fail_fixed, ↓State.later_fixed, ↓State.setWel_fixed, ↓State.setWlg_fixed, ↓mk_fixed, ↓ite_fixed, ite_self, ↓st_ite]; done) | split | (simp only [↓State.attest_fixed, ↓State.command_fixed, ↓State.fail_fixed, ↓State.later_fixed, ↓State.setWel_fixed, ↓State.setWlg_fixed, ↓mk_fixed, ↓ite_fixed, ite_self, ↓st_ite]; split) | (simp only [↓State.attest_fixed, ↓State.command_fixed, ↓State.fail_fixed, ↓State.later_fixed, ↓State.setWel_fixed, ↓State.setWlg_fixed, ↓mk_fixed, ↓ite_fixed, ite_self, ↓st_ite]) | (with_reducible refine (State.command_fixed _ _ _ (fun _ => ?_)).trans ?_) | (with_reducible refine (foldl_fixed _ _ _ (fun _ _ => ?_)).trans ?_) | (with_reducible refine (foldl_pair_fixed _ _ _ (fun _ _ => ?_)).trans ?_) | dsimp only | (simp_all; done))

@[simp] theorem State.abandonKeys_fixed (s : State) : (State.abandonKeys s).fixed = s.fixed := by
  unfold State.abandonKeys
  repeat' (first | (simp only [↓State.fail_fixed, ↓State.finish_fixed, ↓State.setWlg_fixed, ↓mk_fixed, ↓ite_fixed, ite_self, ↓st_ite]; done) | split | (simp only [↓State.fail_fixed, ↓State.finish_fixed, ↓State.setWlg_fixed, ↓mk_fixed, ↓ite_fixed, ite_self, ↓st_ite]; split) | (simp only [↓State.fail_fixed, ↓State.finish_fixed, ↓State.setWlg_fixed, ↓mk_fixed, ↓ite_fixed, ite_self, ↓st_ite]) | (with_reducible refine (foldl_fixed _ _ _ (fun _ _ => ?_)).trans ?_) | (with_reducible refine (foldl_pair_fixed _ _ _ (fun _ _ => ?_)).trans ?_) | dsimp only | (simp_all; done))

@[simp] theorem State.zeroise_fixed (s : State) (source : Nat) : (State.zeroise s source).fixed = s.fixed := by
  unfold State.zeroise
  repeat' (first | (simp only [↓State.fatalHalt_fixed, ↓State.record_fixed, ↓State.setKey_fixed, ↓State.showCache_fixed, ↓State.showTamper_fixed, ↓State.unloadSite_fixed, ↓mk_fixed, ↓ite_fixed, ite_self, ↓st_ite]; done) | split | (simp only [↓State.fatalHalt_fixed, ↓State.record_fixed, ↓State.setKey_fixed, ↓State.showCache_fixed, ↓State.showTamper_fixed, ↓State.unloadSite_fixed, ↓mk_fixed, ↓ite_fixed, ite_self, ↓st_ite]; split) | (simp only [↓State.fatalHalt_fixed, ↓State.record_fixed, ↓State.setKey_fixed, ↓State.showCache_fixed, ↓State.showTamper_fixed, ↓State.unloadSite_fixed, ↓mk_fixed, ↓ite_fixed, ite_self, ↓st_ite]) | (with_reducible refine (foldl_fixed _ _ _ (fun _ _ => ?_)).trans ?_) | (with_reducible refine (foldl_pair_fixed _ _ _ (fun _ _ => ?_)).trans ?_) | dsimp only | (simp_all; done))

@[simp] theorem State.tamperActs_fixed (s : State) (source : Nat) : (State.tamperActs s source).fixed = s.fixed := by
  unfold State.tamperActs
  repeat' (first | (simp only [↓State.abandonKeys_fixed, ↓State.setKey_fixed, ↓State.showTamper_fixed, ↓State.zeroise_fixed, ↓mk_fixed, ↓ite_fixed, ite_self, ↓st_ite]; done) | split | (simp only [↓State.abandonKeys_fixed, ↓State.setKey_fixed, ↓State.showTamper_fixed, ↓State.zeroise_fixed, ↓mk_fixed, ↓ite_fixed, ite_self, ↓st_ite]; split) | (simp only [↓State.abandonKeys_fixed, ↓State.setKey_fixed, ↓State.showTamper_fixed, ↓State.zeroise_fixed, ↓mk_fixed, ↓ite_fixed, ite_self, ↓st_ite]) | (with_reducible refine (foldl_fixed _ _ _ (fun _ _ => ?_)).trans ?_) | (with_reducible refine (foldl_pair_fixed _ _ _ (fun _ _ => ?_)).trans ?_) | dsimp only | (simp_all; done))

@[simp] theorem execTamperDetected_fixed (source : Nat) (s : State) : (after (execTamperDetected source s) s).fixed = s.fixed := by
  unfold execTamperDetected
  repeat (first | rw [after_next] | rw [after_ite] | fail)
  repeat' (first | (simp only [↓State.count_fixed, ↓State.put_fixed, ↓State.record_fixed, ↓State.setKey_fixed, ↓State.tamperActs_fixed, ↓mk_fixed, ↓ite_fixed, ite_self, ↓st_ite]; done) | split | (simp only [↓State.count_fixed, ↓State.put_fixed, ↓State.record_fixed, ↓State.setKey_fixed, ↓State.tamperActs_fixed, ↓mk_fixed, ↓ite_fixed, ite_self, ↓st_ite]; split) | (simp only [↓State.count_fixed, ↓State.put_fixed, ↓State.record_fixed, ↓State.setKey_fixed, ↓State.tamperActs_fixed, ↓mk_fixed, ↓ite_fixed, ite_self, ↓st_ite]) | (with_reducible refine (foldl_fixed _ _ _ (fun _ _ => ?_)).trans ?_) | (with_reducible refine (foldl_pair_fixed _ _ _ (fun _ _ => ?_)).trans ?_) | dsimp only | (simp_all; done))

@[simp] theorem State.startStore_fixed (s : State) : (State.startStore s).fixed = s.fixed := by
  unfold State.startStore
  repeat' (first | (simp only [↓State.drawn_fixed, ↓State.putS_fixed, ↓State.setKey_fixed, ↓mk_fixed, ↓ite_fixed, ite_self, ↓st_ite]; done) | split | (simp only [↓State.drawn_fixed, ↓State.putS_fixed, ↓State.setKey_fixed, ↓mk_fixed, ↓ite_fixed, ite_self, ↓st_ite]; split) | (simp only [↓State.drawn_fixed, ↓State.putS_fixed, ↓State.setKey_fixed, ↓mk_fixed, ↓ite_fixed, ite_self, ↓st_ite]) | (with_reducible refine (foldl_fixed _ _ _ (fun _ _ => ?_)).trans ?_) | (with_reducible refine (foldl_pair_fixed _ _ _ (fun _ _ => ?_)).trans ?_) | dsimp only | (simp_all; done))

@[simp] theorem State.tamperOwed_fixed (s : State) : (State.tamperOwed s).fixed = s.fixed := by
  unfold State.tamperOwed
  repeat' (first | (simp only [↓State.setKey_fixed, ↓State.showTamper_fixed, ↓State.startStore_fixed, ↓State.tamperActs_fixed, ↓mk_fixed, ↓ite_fixed, ite_self, ↓st_ite]; done) | split | (simp only [↓State.setKey_fixed, ↓State.showTamper_fixed, ↓State.startStore_fixed, ↓State.tamperActs_fixed, ↓mk_fixed, ↓ite_fixed, ite_self, ↓st_ite]; split) | (simp only [↓State.setKey_fixed, ↓State.showTamper_fixed, ↓State.startStore_fixed, ↓State.tamperActs_fixed, ↓mk_fixed, ↓ite_fixed, ite_self, ↓st_ite]) | (with_reducible refine (foldl_fixed _ _ _ (fun _ _ => ?_)).trans ?_) | (with_reducible refine (foldl_pair_fixed _ _ _ (fun _ _ => ?_)).trans ?_) | dsimp only | (simp_all; done))

@[simp] theorem execKeyTampClear_fixed (d : Desc) (s : State) : (after (execKeyTampClear d s) s).fixed = s.fixed := by
  unfold execKeyTampClear
  repeat (first | rw [after_next] | rw [after_ite] | fail)
  repeat' (first | (simp only [↓State.command_fixed, ↓State.drawn_fixed, ↓State.fail_fixed, ↓State.ok_fixed, ↓State.put_fixed, ↓State.record_fixed, ↓State.setKey_fixed, ↓State.showTamper_fixed, ↓mk_fixed, ↓ite_fixed, ite_self, ↓st_ite]; done) | split | (simp only [↓State.command_fixed, ↓State.drawn_fixed, ↓State.fail_fixed, ↓State.ok_fixed, ↓State.put_fixed, ↓State.record_fixed, ↓State.setKey_fixed, ↓State.showTamper_fixed, ↓mk_fixed, ↓ite_fixed, ite_self, ↓st_ite]; split) | (simp only [↓State.command_fixed, ↓State.drawn_fixed, ↓State.fail_fixed, ↓State.ok_fixed, ↓State.put_fixed, ↓State.record_fixed, ↓State.setKey_fixed, ↓State.showTamper_fixed, ↓mk_fixed, ↓ite_fixed, ite_self, ↓st_ite]) | (with_reducible refine (State.command_fixed _ _ _ (fun _ => ?_)).trans ?_) | (with_reducible refine (foldl_fixed _ _ _ (fun _ _ => ?_)).trans ?_) | (with_reducible refine (foldl_pair_fixed _ _ _ (fun _ _ => ?_)).trans ?_) | dsimp only | (simp_all; done))

@[simp] theorem execTrngFault_fixed (test : Nat) (s : State) : (after (execTrngFault test s) s).fixed = s.fixed := by
  unfold execTrngFault
  repeat (first | rw [after_next] | rw [after_ite] | fail)
  repeat' (first | (simp only [↓State.put_fixed, ↓State.record_fixed, ↓mk_fixed, ↓ite_fixed, ite_self, ↓st_ite]; done) | split | (simp only [↓State.put_fixed, ↓State.record_fixed, ↓mk_fixed, ↓ite_fixed, ite_self, ↓st_ite]; split) | (simp only [↓State.put_fixed, ↓State.record_fixed, ↓mk_fixed, ↓ite_fixed, ite_self, ↓st_ite]) | (with_reducible refine (foldl_fixed _ _ _ (fun _ _ => ?_)).trans ?_) | (with_reducible refine (foldl_pair_fixed _ _ _ (fun _ _ => ?_)).trans ?_) | dsimp only | (simp_all; done))

@[simp] theorem State.remask_fixed (s : State) : (State.remask s).fixed = s.fixed := by
  unfold State.remask
  repeat' (first | (simp only [↓State.drawn_fixed, ↓State.setKey_fixed, ↓mk_fixed, ↓ite_fixed, ite_self, ↓st_ite]; done) | split | (simp only [↓State.drawn_fixed, ↓State.setKey_fixed, ↓mk_fixed, ↓ite_fixed, ite_self, ↓st_ite]; split) | (simp only [↓State.drawn_fixed, ↓State.setKey_fixed, ↓mk_fixed, ↓ite_fixed, ite_self, ↓st_ite]) | (with_reducible refine (foldl_fixed _ _ _ (fun _ _ => ?_)).trans ?_) | (with_reducible refine (foldl_pair_fixed _ _ _ (fun _ _ => ?_)).trans ?_) | dsimp only | (simp_all; done))

@[simp] theorem State.keyEdge_fixed (s : State) : (State.keyEdge s).fixed = s.fixed := by
  unfold State.keyEdge
  repeat' (first | (simp only [↓State.fillCache_fixed, ↓State.remask_fixed, ↓State.setKey_fixed, ↓State.setNum_fixed, ↓mk_fixed, ↓ite_fixed, ite_self, ↓st_ite]; done) | split | (simp only [↓State.fillCache_fixed, ↓State.remask_fixed, ↓State.setKey_fixed, ↓State.setNum_fixed, ↓mk_fixed, ↓ite_fixed, ite_self, ↓st_ite]; split) | (simp only [↓State.fillCache_fixed, ↓State.remask_fixed, ↓State.setKey_fixed, ↓State.setNum_fixed, ↓mk_fixed, ↓ite_fixed, ite_self, ↓st_ite]) | (with_reducible refine (foldl_fixed _ _ _ (fun _ _ => ?_)).trans ?_) | (with_reducible refine (foldl_pair_fixed _ _ _ (fun _ _ => ?_)).trans ?_) | dsimp only | (simp_all; done))

end Sys2Proof.Machine
end

