-- ==== Sys2Proof/Laws/FixedWellhouse.lean ====
section
/-! SUPPORT. What the operations of Machine/Wellhouse.lean leave alone (Laws/Fixed.lean). -/

set_option linter.all false

namespace Sys2Proof.Machine

open Sys2Proof

@[simp] theorem State.modInst_fixed (s : State) (i : Nat) (f : Instrument → Instrument) : (State.modInst s i f).fixed = s.fixed := by
  unfold State.modInst
  repeat' (first | (simp only [↓State.setWel_fixed, ↓mk_fixed, ↓ite_fixed, ite_self, ↓st_ite]; done) | split | (simp only [↓State.setWel_fixed, ↓mk_fixed, ↓ite_fixed, ite_self, ↓st_ite]; split) | (simp only [↓State.setWel_fixed, ↓mk_fixed, ↓ite_fixed, ite_self, ↓st_ite]) | (with_reducible refine (foldl_fixed _ _ _ (fun _ _ => ?_)).trans ?_) | (with_reducible refine (foldl_pair_fixed _ _ _ (fun _ _ => ?_)).trans ?_) | dsimp only | (simp_all; done))

@[simp] theorem State.dieError_fixed (s : State) : (State.dieError s).fixed = s.fixed := by
  unfold State.dieError
  repeat' (first | (simp only [↓State.drawn_fixed, ↓State.setWel_fixed, ↓mk_fixed, ↓ite_fixed, ite_self, ↓st_ite]; done) | split | (simp only [↓State.drawn_fixed, ↓State.setWel_fixed, ↓mk_fixed, ↓ite_fixed, ite_self, ↓st_ite]; split) | (simp only [↓State.drawn_fixed, ↓State.setWel_fixed, ↓mk_fixed, ↓ite_fixed, ite_self, ↓st_ite]) | (with_reducible refine (foldl_fixed _ _ _ (fun _ _ => ?_)).trans ?_) | (with_reducible refine (foldl_pair_fixed _ _ _ (fun _ _ => ?_)).trans ?_) | dsimp only | (simp_all; done))

@[simp] theorem State.noteBacklog_fixed (s : State) : (State.noteBacklog s).fixed = s.fixed := by
  unfold State.noteBacklog
  repeat' (first | (simp only [↓State.setWel_fixed, ↓mk_fixed, ↓ite_fixed, ite_self, ↓st_ite]; done) | split | (simp only [↓State.setWel_fixed, ↓mk_fixed, ↓ite_fixed, ite_self, ↓st_ite]; split) | (simp only [↓State.setWel_fixed, ↓mk_fixed, ↓ite_fixed, ite_self, ↓st_ite]) | (with_reducible refine (foldl_fixed _ _ _ (fun _ _ => ?_)).trans ?_) | (with_reducible refine (foldl_pair_fixed _ _ _ (fun _ _ => ?_)).trans ?_) | dsimp only | (simp_all; done))

@[simp] theorem State.whRecord_fixed (s : State) (kind i flags tag : Nat) (d : Nat) (gross tare net : Int) (total cycle : Nat) : (State.whRecord s kind i flags tag d gross tare net total cycle).fixed = s.fixed := by
  unfold State.whRecord
  repeat' (first | (simp only [↓State.dieError_fixed, ↓State.drawn_fixed, ↓State.noteBacklog_fixed, ↓State.setWel_fixed, ↓mk_fixed, ↓ite_fixed, ite_self, ↓st_ite]; done) | split | (simp only [↓State.dieError_fixed, ↓State.drawn_fixed, ↓State.noteBacklog_fixed, ↓State.setWel_fixed, ↓mk_fixed, ↓ite_fixed, ite_self, ↓st_ite]; split) | (simp only [↓State.dieError_fixed, ↓State.drawn_fixed, ↓State.noteBacklog_fixed, ↓State.setWel_fixed, ↓mk_fixed, ↓ite_fixed, ite_self, ↓st_ite]) | (with_reducible refine (foldl_fixed _ _ _ (fun _ _ => ?_)).trans ?_) | (with_reducible refine (foldl_pair_fixed _ _ _ (fun _ _ => ?_)).trans ?_) | dsimp only | (simp_all; done))

@[simp] theorem State.whError_fixed (s : State) (i : Nat) : (State.whError s i).fixed = s.fixed := by
  unfold State.whError
  repeat' (first | (simp only [↓State.drawn_fixed, ↓State.modInst_fixed, ↓State.whRecord_fixed, ↓mk_fixed, ↓ite_fixed, ite_self, ↓st_ite]; done) | split | (simp only [↓State.drawn_fixed, ↓State.modInst_fixed, ↓State.whRecord_fixed, ↓mk_fixed, ↓ite_fixed, ite_self, ↓st_ite]; split) | (simp only [↓State.drawn_fixed, ↓State.modInst_fixed, ↓State.whRecord_fixed, ↓mk_fixed, ↓ite_fixed, ite_self, ↓st_ite]) | (with_reducible refine (foldl_fixed _ _ _ (fun _ _ => ?_)).trans ?_) | (with_reducible refine (foldl_pair_fixed _ _ _ (fun _ _ => ?_)).trans ?_) | dsimp only | (simp_all; done))

@[simp] theorem State.respond_fixed (s : State) (r : WhReq) (status : Nat) (bytes : List Byte) : (State.respond s r status bytes).fixed = s.fixed := by
  unfold State.respond
  repeat' (first | (simp only [↓State.setWel_fixed, ↓mk_fixed, ↓ite_fixed, ite_self, ↓st_ite]; done) | split | (simp only [↓State.setWel_fixed, ↓mk_fixed, ↓ite_fixed, ite_self, ↓st_ite]; split) | (simp only [↓State.setWel_fixed, ↓mk_fixed, ↓ite_fixed, ite_self, ↓st_ite]) | (with_reducible refine (foldl_fixed _ _ _ (fun _ _ => ?_)).trans ?_) | (with_reducible refine (foldl_pair_fixed _ _ _ (fun _ _ => ?_)).trans ?_) | dsimp only | (simp_all; done))

@[simp] theorem State.takeReq_fixed (s : State) (code : Nat) (act : State → WhReq → State) (hact : ∀ a0 a1, (act a0 a1).fixed = a0.fixed) : (State.takeReq s code act).fixed = s.fixed := by
  unfold State.takeReq
  repeat' (first | (simp only [↓hact, ↓State.setWel_fixed, ↓mk_fixed, ↓ite_fixed, ite_self, ↓st_ite]; done) | split | (simp only [↓hact, ↓State.setWel_fixed, ↓mk_fixed, ↓ite_fixed, ite_self, ↓st_ite]; split) | (simp only [↓hact, ↓State.setWel_fixed, ↓mk_fixed, ↓ite_fixed, ite_self, ↓st_ite]) | (with_reducible refine (foldl_fixed _ _ _ (fun _ _ => ?_)).trans ?_) | (with_reducible refine (foldl_pair_fixed _ _ _ (fun _ _ => ?_)).trans ?_) | dsimp only | (simp_all; done))

@[simp] theorem State.onInst_fixed (s : State) (r : WhReq) (kind : Nat) (act : State → State) (hact : ∀ a0, (act a0).fixed = a0.fixed) : (State.onInst s r kind act).fixed = s.fixed := by
  unfold State.onInst
  repeat' (first | (simp only [↓hact, ↓State.respond_fixed, ↓mk_fixed, ↓ite_fixed, ite_self, ↓st_ite]; done) | split | (simp only [↓hact, ↓State.respond_fixed, ↓mk_fixed, ↓ite_fixed, ite_self, ↓st_ite]; split) | (simp only [↓hact, ↓State.respond_fixed, ↓mk_fixed, ↓ite_fixed, ite_self, ↓st_ite]) | (with_reducible refine (foldl_fixed _ _ _ (fun _ _ => ?_)).trans ?_) | (with_reducible refine (foldl_pair_fixed _ _ _ (fun _ _ => ?_)).trans ?_) | dsimp only | (simp_all; done))

@[simp] theorem State.weighRecord_fixed (s : State) (i : Nat) (r : WhReq) (m : WlIn) : (State.weighRecord s i r m).fixed = s.fixed := by
  unfold State.weighRecord
  repeat' (first | (simp only [↓State.respond_fixed, ↓State.whRecord_fixed, ↓mk_fixed, ↓ite_fixed, ite_self, ↓st_ite]; done) | split | (simp only [↓State.respond_fixed, ↓State.whRecord_fixed, ↓mk_fixed, ↓ite_fixed, ite_self, ↓st_ite]; split) | (simp only [↓State.respond_fixed, ↓State.whRecord_fixed, ↓mk_fixed, ↓ite_fixed, ite_self, ↓st_ite]) | (with_reducible refine (foldl_fixed _ _ _ (fun _ _ => ?_)).trans ?_) | (with_reducible refine (foldl_pair_fixed _ _ _ (fun _ _ => ?_)).trans ?_) | dsimp only | (simp_all; done))

@[simp] theorem execZero_fixed (m : WlIn) (s : State) : (after (execZero m s) s).fixed = s.fixed := by
  unfold execZero
  repeat (first | rw [after_next] | rw [after_ite] | fail)
  repeat' (first | (simp only [↓State.modInst_fixed, ↓State.onInst_fixed, ↓State.respond_fixed, ↓State.takeReq_fixed, ↓State.whRecord_fixed, ↓mk_fixed, ↓ite_fixed, ite_self, ↓st_ite]; done) | split | (simp only [↓State.modInst_fixed, ↓State.onInst_fixed, ↓State.respond_fixed, ↓State.takeReq_fixed, ↓State.whRecord_fixed, ↓mk_fixed, ↓ite_fixed, ite_self, ↓st_ite]; split) | (simp only [↓State.modInst_fixed, ↓State.onInst_fixed, ↓State.respond_fixed, ↓State.takeReq_fixed, ↓State.whRecord_fixed, ↓mk_fixed, ↓ite_fixed, ite_self, ↓st_ite]) | (with_reducible refine (State.onInst_fixed _ _ _ _ (fun _ => ?_)).trans ?_) | (with_reducible refine (State.takeReq_fixed _ _ _ (fun _ _ => ?_)).trans ?_) | (with_reducible refine (foldl_fixed _ _ _ (fun _ _ => ?_)).trans ?_) | (with_reducible refine (foldl_pair_fixed _ _ _ (fun _ _ => ?_)).trans ?_) | dsimp only | (simp_all; done))

@[simp] theorem execTare_fixed (m : WlIn) (s : State) : (after (execTare m s) s).fixed = s.fixed := by
  unfold execTare
  repeat (first | rw [after_next] | rw [after_ite] | fail)
  repeat' (first | (simp only [↓State.modInst_fixed, ↓State.onInst_fixed, ↓State.respond_fixed, ↓State.takeReq_fixed, ↓mk_fixed, ↓ite_fixed, ite_self, ↓st_ite]; done) | split | (simp only [↓State.modInst_fixed, ↓State.onInst_fixed, ↓State.respond_fixed, ↓State.takeReq_fixed, ↓mk_fixed, ↓ite_fixed, ite_self, ↓st_ite]; split) | (simp only [↓State.modInst_fixed, ↓State.onInst_fixed, ↓State.respond_fixed, ↓State.takeReq_fixed, ↓mk_fixed, ↓ite_fixed, ite_self, ↓st_ite]) | (with_reducible refine (State.onInst_fixed _ _ _ _ (fun _ => ?_)).trans ?_) | (with_reducible refine (State.takeReq_fixed _ _ _ (fun _ _ => ?_)).trans ?_) | (with_reducible refine (foldl_fixed _ _ _ (fun _ _ => ?_)).trans ?_) | (with_reducible refine (foldl_pair_fixed _ _ _ (fun _ _ => ?_)).trans ?_) | dsimp only | (simp_all; done))

@[simp] theorem execTarePreset_fixed (s : State) : (after (execTarePreset s) s).fixed = s.fixed := by
  unfold execTarePreset
  repeat (first | rw [after_next] | rw [after_ite] | fail)
  repeat' (first | (simp only [↓State.modInst_fixed, ↓State.onInst_fixed, ↓State.respond_fixed, ↓State.takeReq_fixed, ↓mk_fixed, ↓ite_fixed, ite_self, ↓st_ite]; done) | split | (simp only [↓State.modInst_fixed, ↓State.onInst_fixed, ↓State.respond_fixed, ↓State.takeReq_fixed, ↓mk_fixed, ↓ite_fixed, ite_self, ↓st_ite]; split) | (simp only [↓State.modInst_fixed, ↓State.onInst_fixed, ↓State.respond_fixed, ↓State.takeReq_fixed, ↓mk_fixed, ↓ite_fixed, ite_self, ↓st_ite]) | (with_reducible refine (State.onInst_fixed _ _ _ _ (fun _ => ?_)).trans ?_) | (with_reducible refine (State.takeReq_fixed _ _ _ (fun _ _ => ?_)).trans ?_) | (with_reducible refine (foldl_fixed _ _ _ (fun _ _ => ?_)).trans ?_) | (with_reducible refine (foldl_pair_fixed _ _ _ (fun _ _ => ?_)).trans ?_) | dsimp only | (simp_all; done))

@[simp] theorem execTareClear_fixed (s : State) : (after (execTareClear s) s).fixed = s.fixed := by
  unfold execTareClear
  repeat (first | rw [after_next] | rw [after_ite] | fail)
  repeat' (first | (simp only [↓State.modInst_fixed, ↓State.onInst_fixed, ↓State.respond_fixed, ↓State.takeReq_fixed, ↓mk_fixed, ↓ite_fixed, ite_self, ↓st_ite]; done) | split | (simp only [↓State.modInst_fixed, ↓State.onInst_fixed, ↓State.respond_fixed, ↓State.takeReq_fixed, ↓mk_fixed, ↓ite_fixed, ite_self, ↓st_ite]; split) | (simp only [↓State.modInst_fixed, ↓State.onInst_fixed, ↓State.respond_fixed, ↓State.takeReq_fixed, ↓mk_fixed, ↓ite_fixed, ite_self, ↓st_ite]) | (with_reducible refine (State.onInst_fixed _ _ _ _ (fun _ => ?_)).trans ?_) | (with_reducible refine (State.takeReq_fixed _ _ _ (fun _ _ => ?_)).trans ?_) | (with_reducible refine (foldl_fixed _ _ _ (fun _ _ => ?_)).trans ?_) | (with_reducible refine (foldl_pair_fixed _ _ _ (fun _ _ => ?_)).trans ?_) | dsimp only | (simp_all; done))

@[simp] theorem execWeigh_fixed (m : WlIn) (s : State) : (after (execWeigh m s) s).fixed = s.fixed := by
  unfold execWeigh
  repeat (first | rw [after_next] | rw [after_ite] | fail)
  repeat' (first | (simp only [↓State.modInst_fixed, ↓State.onInst_fixed, ↓State.respond_fixed, ↓State.takeReq_fixed, ↓mk_fixed, ↓ite_fixed, ite_self, ↓st_ite]; done) | split | (simp only [↓State.modInst_fixed, ↓State.onInst_fixed, ↓State.respond_fixed, ↓State.takeReq_fixed, ↓mk_fixed, ↓ite_fixed, ite_self, ↓st_ite]; split) | (simp only [↓State.modInst_fixed, ↓State.onInst_fixed, ↓State.respond_fixed, ↓State.takeReq_fixed, ↓mk_fixed, ↓ite_fixed, ite_self, ↓st_ite]) | (with_reducible refine (State.onInst_fixed _ _ _ _ (fun _ => ?_)).trans ?_) | (with_reducible refine (State.takeReq_fixed _ _ _ (fun _ _ => ?_)).trans ?_) | (with_reducible refine (foldl_fixed _ _ _ (fun _ _ => ?_)).trans ?_) | (with_reducible refine (foldl_pair_fixed _ _ _ (fun _ _ => ?_)).trans ?_) | dsimp only | (simp_all; done))

@[simp] theorem execWeighingStable_fixed (i : Nat) (m : WlIn) (s : State) : (after (execWeighingStable i m s) s).fixed = s.fixed := by
  unfold execWeighingStable
  repeat (first | rw [after_next] | rw [after_ite] | fail)
  repeat' (first | (simp only [↓State.modInst_fixed, ↓State.respond_fixed, ↓State.weighRecord_fixed, ↓mk_fixed, ↓ite_fixed, ite_self, ↓st_ite]; done) | split | (simp only [↓State.modInst_fixed, ↓State.respond_fixed, ↓State.weighRecord_fixed, ↓mk_fixed, ↓ite_fixed, ite_self, ↓st_ite]; split) | (simp only [↓State.modInst_fixed, ↓State.respond_fixed, ↓State.weighRecord_fixed, ↓mk_fixed, ↓ite_fixed, ite_self, ↓st_ite]) | (with_reducible refine (foldl_fixed _ _ _ (fun _ _ => ?_)).trans ?_) | (with_reducible refine (foldl_pair_fixed _ _ _ (fun _ _ => ?_)).trans ?_) | dsimp only | (simp_all; done))

@[simp] theorem State.haltCycle_fixed (s : State) (i : Nat) : (State.haltCycle s i).fixed = s.fixed := by
  unfold State.haltCycle
  repeat' (first | (simp only [↓State.modInst_fixed, ↓State.whError_fixed, ↓mk_fixed, ↓ite_fixed, ite_self, ↓st_ite]; done) | split | (simp only [↓State.modInst_fixed, ↓State.whError_fixed, ↓mk_fixed, ↓ite_fixed, ite_self, ↓st_ite]; split) | (simp only [↓State.modInst_fixed, ↓State.whError_fixed, ↓mk_fixed, ↓ite_fixed, ite_self, ↓st_ite]) | (with_reducible refine (foldl_fixed _ _ _ (fun _ _ => ?_)).trans ?_) | (with_reducible refine (foldl_pair_fixed _ _ _ (fun _ _ => ?_)).trans ?_) | dsimp only | (simp_all; done))

@[simp] theorem execStabilityTimeout_fixed (i : Nat) (s : State) : (after (execStabilityTimeout i s) s).fixed = s.fixed := by
  unfold execStabilityTimeout
  repeat (first | rw [after_next] | rw [after_ite] | fail)
  repeat' (first | (simp only [↓State.haltCycle_fixed, ↓State.modInst_fixed, ↓State.respond_fixed, ↓mk_fixed, ↓ite_fixed, ite_self, ↓st_ite]; done) | split | (simp only [↓State.haltCycle_fixed, ↓State.modInst_fixed, ↓State.respond_fixed, ↓mk_fixed, ↓ite_fixed, ite_self, ↓st_ite]; split) | (simp only [↓State.haltCycle_fixed, ↓State.modInst_fixed, ↓State.respond_fixed, ↓mk_fixed, ↓ite_fixed, ite_self, ↓st_ite]) | (with_reducible refine (foldl_fixed _ _ _ (fun _ _ => ?_)).trans ?_) | (with_reducible refine (foldl_pair_fixed _ _ _ (fun _ _ => ?_)).trans ?_) | dsimp only | (simp_all; done))

@[simp] theorem execCycleFilled_fixed (s : State) : (after (execCycleFilled s) s).fixed = s.fixed := by
  unfold execCycleFilled
  repeat (first | rw [after_next] | rw [after_ite] | fail)
  repeat' (first | (simp only [↓State.modInst_fixed, ↓State.onInst_fixed, ↓State.respond_fixed, ↓State.takeReq_fixed, ↓mk_fixed, ↓ite_fixed, ite_self, ↓st_ite]; done) | split | (simp only [↓State.modInst_fixed, ↓State.onInst_fixed, ↓State.respond_fixed, ↓State.takeReq_fixed, ↓mk_fixed, ↓ite_fixed, ite_self, ↓st_ite]; split) | (simp only [↓State.modInst_fixed, ↓State.onInst_fixed, ↓State.respond_fixed, ↓State.takeReq_fixed, ↓mk_fixed, ↓ite_fixed, ite_self, ↓st_ite]) | (with_reducible refine (State.onInst_fixed _ _ _ _ (fun _ => ?_)).trans ?_) | (with_reducible refine (State.takeReq_fixed _ _ _ (fun _ _ => ?_)).trans ?_) | (with_reducible refine (foldl_fixed _ _ _ (fun _ _ => ?_)).trans ?_) | (with_reducible refine (foldl_pair_fixed _ _ _ (fun _ _ => ?_)).trans ?_) | dsimp only | (simp_all; done))

@[simp] theorem execCycleDischarged_fixed (s : State) : (after (execCycleDischarged s) s).fixed = s.fixed := by
  unfold execCycleDischarged
  repeat (first | rw [after_next] | rw [after_ite] | fail)
  repeat' (first | (simp only [↓State.modInst_fixed, ↓State.onInst_fixed, ↓State.respond_fixed, ↓State.takeReq_fixed, ↓mk_fixed, ↓ite_fixed, ite_self, ↓st_ite]; done) | split | (simp only [↓State.modInst_fixed, ↓State.onInst_fixed, ↓State.respond_fixed, ↓State.takeReq_fixed, ↓mk_fixed, ↓ite_fixed, ite_self, ↓st_ite]; split) | (simp only [↓State.modInst_fixed, ↓State.onInst_fixed, ↓State.respond_fixed, ↓State.takeReq_fixed, ↓mk_fixed, ↓ite_fixed, ite_self, ↓st_ite]) | (with_reducible refine (State.onInst_fixed _ _ _ _ (fun _ => ?_)).trans ?_) | (with_reducible refine (State.takeReq_fixed _ _ _ (fun _ _ => ?_)).trans ?_) | (with_reducible refine (foldl_fixed _ _ _ (fun _ _ => ?_)).trans ?_) | (with_reducible refine (foldl_pair_fixed _ _ _ (fun _ _ => ?_)).trans ?_) | dsimp only | (simp_all; done))

@[simp] theorem execCycleAbort_fixed (s : State) : (after (execCycleAbort s) s).fixed = s.fixed := by
  unfold execCycleAbort
  repeat (first | rw [after_next] | rw [after_ite] | fail)
  repeat' (first | (simp only [↓State.haltCycle_fixed, ↓State.onInst_fixed, ↓State.respond_fixed, ↓State.takeReq_fixed, ↓mk_fixed, ↓ite_fixed, ite_self, ↓st_ite]; done) | split | (simp only [↓State.haltCycle_fixed, ↓State.onInst_fixed, ↓State.respond_fixed, ↓State.takeReq_fixed, ↓mk_fixed, ↓ite_fixed, ite_self, ↓st_ite]; split) | (simp only [↓State.haltCycle_fixed, ↓State.onInst_fixed, ↓State.respond_fixed, ↓State.takeReq_fixed, ↓mk_fixed, ↓ite_fixed, ite_self, ↓st_ite]) | (with_reducible refine (State.onInst_fixed _ _ _ _ (fun _ => ?_)).trans ?_) | (with_reducible refine (State.takeReq_fixed _ _ _ (fun _ _ => ?_)).trans ?_) | (with_reducible refine (foldl_fixed _ _ _ (fun _ _ => ?_)).trans ?_) | (with_reducible refine (foldl_pair_fixed _ _ _ (fun _ _ => ?_)).trans ?_) | dsimp only | (simp_all; done))

@[simp] theorem execSettleGross_fixed (i : Nat) (m : WlIn) (s : State) : (after (execSettleGross i m s) s).fixed = s.fixed := by
  unfold execSettleGross
  repeat (first | rw [after_next] | rw [after_ite] | fail)
  repeat' (first | (simp only [↓State.haltCycle_fixed, ↓State.modInst_fixed, ↓State.whRecord_fixed, ↓mk_fixed, ↓ite_fixed, ite_self, ↓st_ite]; done) | split | (simp only [↓State.haltCycle_fixed, ↓State.modInst_fixed, ↓State.whRecord_fixed, ↓mk_fixed, ↓ite_fixed, ite_self, ↓st_ite]; split) | (simp only [↓State.haltCycle_fixed, ↓State.modInst_fixed, ↓State.whRecord_fixed, ↓mk_fixed, ↓ite_fixed, ite_self, ↓st_ite]) | (with_reducible refine (foldl_fixed _ _ _ (fun _ _ => ?_)).trans ?_) | (with_reducible refine (foldl_pair_fixed _ _ _ (fun _ _ => ?_)).trans ?_) | dsimp only | (simp_all; done))

@[simp] theorem execSettleEmpty_fixed (i : Nat) (m : WlIn) (s : State) : (after (execSettleEmpty i m s) s).fixed = s.fixed := by
  unfold execSettleEmpty
  repeat (first | rw [after_next] | rw [after_ite] | fail)
  repeat' (first | (simp only [↓State.haltCycle_fixed, ↓State.modInst_fixed, ↓State.whError_fixed, ↓State.whRecord_fixed, ↓mk_fixed, ↓ite_fixed, ite_self, ↓st_ite]; done) | split | (simp only [↓State.haltCycle_fixed, ↓State.modInst_fixed, ↓State.whError_fixed, ↓State.whRecord_fixed, ↓mk_fixed, ↓ite_fixed, ite_self, ↓st_ite]; split) | (simp only [↓State.haltCycle_fixed, ↓State.modInst_fixed, ↓State.whError_fixed, ↓State.whRecord_fixed, ↓mk_fixed, ↓ite_fixed, ite_self, ↓st_ite]) | (with_reducible refine (foldl_fixed _ _ _ (fun _ _ => ?_)).trans ?_) | (with_reducible refine (foldl_pair_fixed _ _ _ (fun _ _ => ?_)).trans ?_) | dsimp only | (simp_all; done))

@[simp] theorem execTotalRead_fixed (s : State) : (after (execTotalRead s) s).fixed = s.fixed := by
  unfold execTotalRead
  repeat (first | rw [after_next] | rw [after_ite] | fail)
  repeat' (first | (simp only [↓State.onInst_fixed, ↓State.respond_fixed, ↓State.takeReq_fixed, ↓State.whRecord_fixed, ↓mk_fixed, ↓ite_fixed, ite_self, ↓st_ite]; done) | split | (simp only [↓State.onInst_fixed, ↓State.respond_fixed, ↓State.takeReq_fixed, ↓State.whRecord_fixed, ↓mk_fixed, ↓ite_fixed, ite_self, ↓st_ite]; split) | (simp only [↓State.onInst_fixed, ↓State.respond_fixed, ↓State.takeReq_fixed, ↓State.whRecord_fixed, ↓mk_fixed, ↓ite_fixed, ite_self, ↓st_ite]) | (with_reducible refine (State.onInst_fixed _ _ _ _ (fun _ => ?_)).trans ?_) | (with_reducible refine (State.takeReq_fixed _ _ _ (fun _ _ => ?_)).trans ?_) | (with_reducible refine (foldl_fixed _ _ _ (fun _ _ => ?_)).trans ?_) | (with_reducible refine (foldl_pair_fixed _ _ _ (fun _ _ => ?_)).trans ?_) | dsimp only | (simp_all; done))

@[simp] theorem execPulseRead_fixed (s : State) : (after (execPulseRead s) s).fixed = s.fixed := by
  unfold execPulseRead
  repeat (first | rw [after_next] | rw [after_ite] | fail)
  repeat' (first | (simp only [↓State.respond_fixed, ↓State.takeReq_fixed, ↓State.whRecord_fixed, ↓mk_fixed, ↓ite_fixed, ite_self, ↓st_ite]; done) | split | (simp only [↓State.respond_fixed, ↓State.takeReq_fixed, ↓State.whRecord_fixed, ↓mk_fixed, ↓ite_fixed, ite_self, ↓st_ite]; split) | (simp only [↓State.respond_fixed, ↓State.takeReq_fixed, ↓State.whRecord_fixed, ↓mk_fixed, ↓ite_fixed, ite_self, ↓st_ite]) | (with_reducible refine (State.takeReq_fixed _ _ _ (fun _ _ => ?_)).trans ?_) | (with_reducible refine (foldl_fixed _ _ _ (fun _ _ => ?_)).trans ?_) | (with_reducible refine (foldl_pair_fixed _ _ _ (fun _ _ => ?_)).trans ?_) | dsimp only | (simp_all; done))

@[simp] theorem execRecordRead_fixed (s : State) : (after (execRecordRead s) s).fixed = s.fixed := by
  unfold execRecordRead
  repeat (first | rw [after_next] | rw [after_ite] | fail)
  repeat' (first | (simp only [↓State.respond_fixed, ↓State.takeReq_fixed, ↓mk_fixed, ↓ite_fixed, ite_self, ↓st_ite]; done) | split | (simp only [↓State.respond_fixed, ↓State.takeReq_fixed, ↓mk_fixed, ↓ite_fixed, ite_self, ↓st_ite]; split) | (simp only [↓State.respond_fixed, ↓State.takeReq_fixed, ↓mk_fixed, ↓ite_fixed, ite_self, ↓st_ite]) | (with_reducible refine (State.takeReq_fixed _ _ _ (fun _ _ => ?_)).trans ?_) | (with_reducible refine (foldl_fixed _ _ _ (fun _ _ => ?_)).trans ?_) | (with_reducible refine (foldl_pair_fixed _ _ _ (fun _ _ => ?_)).trans ?_) | dsimp only | (simp_all; done))

@[simp] theorem execAuditRead_fixed (s : State) : (after (execAuditRead s) s).fixed = s.fixed := by
  unfold execAuditRead
  repeat (first | rw [after_next] | rw [after_ite] | fail)
  repeat' (first | (simp only [↓State.respond_fixed, ↓State.takeReq_fixed, ↓mk_fixed, ↓ite_fixed, ite_self, ↓st_ite]; done) | split | (simp only [↓State.respond_fixed, ↓State.takeReq_fixed, ↓mk_fixed, ↓ite_fixed, ite_self, ↓st_ite]; split) | (simp only [↓State.respond_fixed, ↓State.takeReq_fixed, ↓mk_fixed, ↓ite_fixed, ite_self, ↓st_ite]) | (with_reducible refine (State.takeReq_fixed _ _ _ (fun _ _ => ?_)).trans ?_) | (with_reducible refine (foldl_fixed _ _ _ (fun _ _ => ?_)).trans ?_) | (with_reducible refine (foldl_pair_fixed _ _ _ (fun _ _ => ?_)).trans ?_) | dsimp only | (simp_all; done))

@[simp] theorem execParamRead_fixed (s : State) : (after (execParamRead s) s).fixed = s.fixed := by
  unfold execParamRead
  repeat (first | rw [after_next] | rw [after_ite] | fail)
  repeat' (first | (simp only [↓State.respond_fixed, ↓State.takeReq_fixed, ↓mk_fixed, ↓ite_fixed, ite_self, ↓st_ite]; done) | split | (simp only [↓State.respond_fixed, ↓State.takeReq_fixed, ↓mk_fixed, ↓ite_fixed, ite_self, ↓st_ite]; split) | (simp only [↓State.respond_fixed, ↓State.takeReq_fixed, ↓mk_fixed, ↓ite_fixed, ite_self, ↓st_ite]) | (with_reducible refine (State.takeReq_fixed _ _ _ (fun _ _ => ?_)).trans ?_) | (with_reducible refine (foldl_fixed _ _ _ (fun _ _ => ?_)).trans ?_) | (with_reducible refine (foldl_pair_fixed _ _ _ (fun _ _ => ?_)).trans ?_) | dsimp only | (simp_all; done))

@[simp] theorem execRawRead_fixed (m : WlIn) (s : State) : (after (execRawRead m s) s).fixed = s.fixed := by
  unfold execRawRead
  repeat (first | rw [after_next] | rw [after_ite] | fail)
  repeat' (first | (simp only [↓State.respond_fixed, ↓State.takeReq_fixed, ↓mk_fixed, ↓ite_fixed, ite_self, ↓st_ite]; done) | split | (simp only [↓State.respond_fixed, ↓State.takeReq_fixed, ↓mk_fixed, ↓ite_fixed, ite_self, ↓st_ite]; split) | (simp only [↓State.respond_fixed, ↓State.takeReq_fixed, ↓mk_fixed, ↓ite_fixed, ite_self, ↓st_ite]) | (with_reducible refine (State.takeReq_fixed _ _ _ (fun _ _ => ?_)).trans ?_) | (with_reducible refine (foldl_fixed _ _ _ (fun _ _ => ?_)).trans ?_) | (with_reducible refine (foldl_pair_fixed _ _ _ (fun _ _ => ?_)).trans ?_) | dsimp only | (simp_all; done))

@[simp] theorem execStatement_fixed (s : State) : (after (execStatement s) s).fixed = s.fixed := by
  unfold execStatement
  repeat (first | rw [after_next] | rw [after_ite] | fail)
  repeat' (first | (simp only [↓State.drawn_fixed, ↓State.respond_fixed, ↓State.takeReq_fixed, ↓mk_fixed, ↓ite_fixed, ite_self, ↓st_ite]; done) | split | (simp only [↓State.drawn_fixed, ↓State.respond_fixed, ↓State.takeReq_fixed, ↓mk_fixed, ↓ite_fixed, ite_self, ↓st_ite]; split) | (simp only [↓State.drawn_fixed, ↓State.respond_fixed, ↓State.takeReq_fixed, ↓mk_fixed, ↓ite_fixed, ite_self, ↓st_ite]) | (with_reducible refine (State.takeReq_fixed _ _ _ (fun _ _ => ?_)).trans ?_) | (with_reducible refine (foldl_fixed _ _ _ (fun _ _ => ?_)).trans ?_) | (with_reducible refine (foldl_pair_fixed _ _ _ (fun _ _ => ?_)).trans ?_) | dsimp only | (simp_all; done))

@[simp] theorem execShowId_fixed (s : State) : (after (execShowId s) s).fixed = s.fixed := by
  unfold execShowId
  repeat (first | rw [after_next] | rw [after_ite] | fail)
  repeat' (first | (simp only [↓State.respond_fixed, ↓State.setWel_fixed, ↓State.takeReq_fixed, ↓mk_fixed, ↓ite_fixed, ite_self, ↓st_ite]; done) | split | (simp only [↓State.respond_fixed, ↓State.setWel_fixed, ↓State.takeReq_fixed, ↓mk_fixed, ↓ite_fixed, ite_self, ↓st_ite]; split) | (simp only [↓State.respond_fixed, ↓State.setWel_fixed, ↓State.takeReq_fixed, ↓mk_fixed, ↓ite_fixed, ite_self, ↓st_ite]) | (with_reducible refine (State.takeReq_fixed _ _ _ (fun _ _ => ?_)).trans ?_) | (with_reducible refine (foldl_fixed _ _ _ (fun _ _ => ?_)).trans ?_) | (with_reducible refine (foldl_pair_fixed _ _ _ (fun _ _ => ?_)).trans ?_) | dsimp only | (simp_all; done))

@[simp] theorem State.paramRecord_fixed (s : State) (r : WhReq) : (State.paramRecord s r).fixed = s.fixed := by
  unfold State.paramRecord
  repeat' (first | (simp only [↓State.whRecord_fixed, ↓mk_fixed, ↓ite_fixed, ite_self, ↓st_ite]; done) | split | (simp only [↓State.whRecord_fixed, ↓mk_fixed, ↓ite_fixed, ite_self, ↓st_ite]; split) | (simp only [↓State.whRecord_fixed, ↓mk_fixed, ↓ite_fixed, ite_self, ↓st_ite]) | (with_reducible refine (foldl_fixed _ _ _ (fun _ _ => ?_)).trans ?_) | (with_reducible refine (foldl_pair_fixed _ _ _ (fun _ _ => ?_)).trans ?_) | dsimp only | (simp_all; done))

@[simp] theorem execParamWrite_fixed (s : State) : (after (execParamWrite s) s).fixed = s.fixed := by
  unfold execParamWrite
  repeat (first | rw [after_next] | rw [after_ite] | fail)
  repeat' (first | (simp only [↓State.paramRecord_fixed, ↓State.respond_fixed, ↓State.setWel_fixed, ↓State.takeReq_fixed, ↓mk_fixed, ↓ite_fixed, ite_self, ↓st_ite]; done) | split | (simp only [↓State.paramRecord_fixed, ↓State.respond_fixed, ↓State.setWel_fixed, ↓State.takeReq_fixed, ↓mk_fixed, ↓ite_fixed, ite_self, ↓st_ite]; split) | (simp only [↓State.paramRecord_fixed, ↓State.respond_fixed, ↓State.setWel_fixed, ↓State.takeReq_fixed, ↓mk_fixed, ↓ite_fixed, ite_self, ↓st_ite]) | (with_reducible refine (State.takeReq_fixed _ _ _ (fun _ _ => ?_)).trans ?_) | (with_reducible refine (foldl_fixed _ _ _ (fun _ _ => ?_)).trans ?_) | (with_reducible refine (foldl_pair_fixed _ _ _ (fun _ _ => ?_)).trans ?_) | dsimp only | (simp_all; done))

@[simp] theorem execKeyEnrol_fixed (s : State) : (after (execKeyEnrol s) s).fixed = s.fixed := by
  unfold execKeyEnrol
  repeat (first | rw [after_next] | rw [after_ite] | fail)
  repeat' (first | (simp only [↓State.paramRecord_fixed, ↓State.respond_fixed, ↓State.setWel_fixed, ↓State.takeReq_fixed, ↓mk_fixed, ↓ite_fixed, ite_self, ↓st_ite]; done) | split | (simp only [↓State.paramRecord_fixed, ↓State.respond_fixed, ↓State.setWel_fixed, ↓State.takeReq_fixed, ↓mk_fixed, ↓ite_fixed, ite_self, ↓st_ite]; split) | (simp only [↓State.paramRecord_fixed, ↓State.respond_fixed, ↓State.setWel_fixed, ↓State.takeReq_fixed, ↓mk_fixed, ↓ite_fixed, ite_self, ↓st_ite]) | (with_reducible refine (State.takeReq_fixed _ _ _ (fun _ _ => ?_)).trans ?_) | (with_reducible refine (foldl_fixed _ _ _ (fun _ _ => ?_)).trans ?_) | (with_reducible refine (foldl_pair_fixed _ _ _ (fun _ _ => ?_)).trans ?_) | dsimp only | (simp_all; done))

@[simp] theorem execAuditArchive_fixed (s : State) : (after (execAuditArchive s) s).fixed = s.fixed := by
  unfold execAuditArchive
  repeat (first | rw [after_next] | rw [after_ite] | fail)
  repeat' (first | (simp only [↓State.respond_fixed, ↓State.setWel_fixed, ↓State.takeReq_fixed, ↓mk_fixed, ↓ite_fixed, ite_self, ↓st_ite]; done) | split | (simp only [↓State.respond_fixed, ↓State.setWel_fixed, ↓State.takeReq_fixed, ↓mk_fixed, ↓ite_fixed, ite_self, ↓st_ite]; split) | (simp only [↓State.respond_fixed, ↓State.setWel_fixed, ↓State.takeReq_fixed, ↓mk_fixed, ↓ite_fixed, ite_self, ↓st_ite]) | (with_reducible refine (State.takeReq_fixed _ _ _ (fun _ _ => ?_)).trans ?_) | (with_reducible refine (foldl_fixed _ _ _ (fun _ _ => ?_)).trans ?_) | (with_reducible refine (foldl_pair_fixed _ _ _ (fun _ _ => ?_)).trans ?_) | dsimp only | (simp_all; done))

@[simp] theorem State.checkParams_fixed (s : State) : (State.checkParams s).fixed = s.fixed := by
  unfold State.checkParams
  repeat' (first | (simp only [↓State.haltCycle_fixed, ↓State.modInst_fixed, ↓mk_fixed, ↓ite_fixed, ite_self, ↓st_ite]; done) | split | (simp only [↓State.haltCycle_fixed, ↓State.modInst_fixed, ↓mk_fixed, ↓ite_fixed, ite_self, ↓st_ite]; split) | (simp only [↓State.haltCycle_fixed, ↓State.modInst_fixed, ↓mk_fixed, ↓ite_fixed, ite_self, ↓st_ite]) | (with_reducible refine (foldl_fixed _ _ _ (fun _ _ => ?_)).trans ?_) | (with_reducible refine (foldl_pair_fixed _ _ _ (fun _ _ => ?_)).trans ?_) | dsimp only | (simp_all; done))

@[simp] theorem execWellhouseStart_fixed (romOk nvOk : Bool) (s : State) : (after (execWellhouseStart romOk nvOk s) s).fixed = s.fixed := by
  unfold execWellhouseStart
  repeat (first | rw [after_next] | rw [after_ite] | fail)
  repeat' (first | (simp only [↓State.checkParams_fixed, ↓State.dieError_fixed, ↓State.setWel_fixed, ↓State.whRecord_fixed, ↓mk_fixed, ↓ite_fixed, ite_self, ↓st_ite]; done) | split | (simp only [↓State.checkParams_fixed, ↓State.dieError_fixed, ↓State.setWel_fixed, ↓State.whRecord_fixed, ↓mk_fixed, ↓ite_fixed, ite_self, ↓st_ite]; split) | (simp only [↓State.checkParams_fixed, ↓State.dieError_fixed, ↓State.setWel_fixed, ↓State.whRecord_fixed, ↓mk_fixed, ↓ite_fixed, ite_self, ↓st_ite]) | (with_reducible refine (foldl_fixed _ _ _ (fun _ _ => ?_)).trans ?_) | (with_reducible refine (foldl_pair_fixed _ _ _ (fun _ _ => ?_)).trans ?_) | dsimp only | (simp_all; done))

@[simp] theorem execWellhouseReset_fixed (s : State) : (after (execWellhouseReset s) s).fixed = s.fixed := by
  unfold execWellhouseReset
  repeat (first | rw [after_next] | rw [after_ite] | fail)
  repeat' (first | (simp only [↓State.setWel_fixed, ↓mk_fixed, ↓ite_fixed, ite_self, ↓st_ite]; done) | split | (simp only [↓State.setWel_fixed, ↓mk_fixed, ↓ite_fixed, ite_self, ↓st_ite]; split) | (simp only [↓State.setWel_fixed, ↓mk_fixed, ↓ite_fixed, ite_self, ↓st_ite]) | (with_reducible refine (foldl_fixed _ _ _ (fun _ _ => ?_)).trans ?_) | (with_reducible refine (foldl_pair_fixed _ _ _ (fun _ _ => ?_)).trans ?_) | dsimp only | (simp_all; done))

@[simp] theorem execSenseFault_fixed (ch : Nat) (s : State) : (after (execSenseFault ch s) s).fixed = s.fixed := by
  unfold execSenseFault
  repeat (first | rw [after_next] | rw [after_ite] | fail)
  repeat' (first | (simp only [↓State.haltCycle_fixed, ↓State.modInst_fixed, ↓State.respond_fixed, ↓State.setWel_fixed, ↓State.whError_fixed, ↓mk_fixed, ↓ite_fixed, ite_self, ↓st_ite]; done) | split | (simp only [↓State.haltCycle_fixed, ↓State.modInst_fixed, ↓State.respond_fixed, ↓State.setWel_fixed, ↓State.whError_fixed, ↓mk_fixed, ↓ite_fixed, ite_self, ↓st_ite]; split) | (simp only [↓State.haltCycle_fixed, ↓State.modInst_fixed, ↓State.respond_fixed, ↓State.setWel_fixed, ↓State.whError_fixed, ↓mk_fixed, ↓ite_fixed, ite_self, ↓st_ite]) | (with_reducible refine (foldl_fixed _ _ _ (fun _ _ => ?_)).trans ?_) | (with_reducible refine (foldl_pair_fixed _ _ _ (fun _ _ => ?_)).trans ?_) | dsimp only | (simp_all; done))

@[simp] theorem execSenseRecovered_fixed (ch : Nat) (s : State) : (after (execSenseRecovered ch s) s).fixed = s.fixed := by
  unfold execSenseRecovered
  repeat (first | rw [after_next] | rw [after_ite] | fail)
  repeat' (first | (simp only [↓State.setWel_fixed, ↓State.whError_fixed, ↓mk_fixed, ↓ite_fixed, ite_self, ↓st_ite]; done) | split | (simp only [↓State.setWel_fixed, ↓State.whError_fixed, ↓mk_fixed, ↓ite_fixed, ite_self, ↓st_ite]; split) | (simp only [↓State.setWel_fixed, ↓State.whError_fixed, ↓mk_fixed, ↓ite_fixed, ite_self, ↓st_ite]) | (with_reducible refine (foldl_fixed _ _ _ (fun _ _ => ?_)).trans ?_) | (with_reducible refine (foldl_pair_fixed _ _ _ (fun _ _ => ?_)).trans ?_) | dsimp only | (simp_all; done))

@[simp] theorem execZeroTracking_fixed (i : Nat) (m : WlIn) (s : State) : (after (execZeroTracking i m s) s).fixed = s.fixed := by
  unfold execZeroTracking
  repeat (first | rw [after_next] | rw [after_ite] | fail)
  repeat' (first | (simp only [↓State.modInst_fixed, ↓mk_fixed, ↓ite_fixed, ite_self, ↓st_ite]; done) | split | (simp only [↓State.modInst_fixed, ↓mk_fixed, ↓ite_fixed, ite_self, ↓st_ite]; split) | (simp only [↓State.modInst_fixed, ↓mk_fixed, ↓ite_fixed, ite_self, ↓st_ite]) | (with_reducible refine (foldl_fixed _ _ _ (fun _ _ => ?_)).trans ?_) | (with_reducible refine (foldl_pair_fixed _ _ _ (fun _ _ => ?_)).trans ?_) | dsimp only | (simp_all; done))

@[simp] theorem execPulseEdge_fixed (n : Nat) (s : State) : (after (execPulseEdge n s) s).fixed = s.fixed := by
  unfold execPulseEdge
  repeat (first | rw [after_next] | rw [after_ite] | fail)
  repeat' (first | (simp only [↓State.setWel_fixed, ↓mk_fixed, ↓ite_fixed, ite_self, ↓st_ite]; done) | split | (simp only [↓State.setWel_fixed, ↓mk_fixed, ↓ite_fixed, ite_self, ↓st_ite]; split) | (simp only [↓State.setWel_fixed, ↓mk_fixed, ↓ite_fixed, ite_self, ↓st_ite]) | (with_reducible refine (foldl_fixed _ _ _ (fun _ _ => ?_)).trans ?_) | (with_reducible refine (foldl_pair_fixed _ _ _ (fun _ _ => ?_)).trans ?_) | dsimp only | (simp_all; done))

@[simp] theorem execSealChange_fixed (st : Nat) (s : State) : (after (execSealChange st s) s).fixed = s.fixed := by
  unfold execSealChange
  repeat (first | rw [after_next] | rw [after_ite] | fail)
  repeat' (first | (simp only [↓State.checkParams_fixed, ↓State.setWel_fixed, ↓mk_fixed, ↓ite_fixed, ite_self, ↓st_ite]; done) | split | (simp only [↓State.checkParams_fixed, ↓State.setWel_fixed, ↓mk_fixed, ↓ite_fixed, ite_self, ↓st_ite]; split) | (simp only [↓State.checkParams_fixed, ↓State.setWel_fixed, ↓mk_fixed, ↓ite_fixed, ite_self, ↓st_ite]) | (with_reducible refine (foldl_fixed _ _ _ (fun _ _ => ?_)).trans ?_) | (with_reducible refine (foldl_pair_fixed _ _ _ (fun _ _ => ?_)).trans ?_) | dsimp only | (simp_all; done))

@[simp] theorem execDisplayRedraw_fixed (ms : List WlIn) (s : State) : (after (execDisplayRedraw ms s) s).fixed = s.fixed := by
  unfold execDisplayRedraw
  repeat (first | rw [after_next] | rw [after_ite] | fail)
  repeat' (first | (simp only [↓State.emit_fixed, ↓mk_fixed, ↓ite_fixed, ite_self, ↓st_ite]; done) | split | (simp only [↓State.emit_fixed, ↓mk_fixed, ↓ite_fixed, ite_self, ↓st_ite]; split) | (simp only [↓State.emit_fixed, ↓mk_fixed, ↓ite_fixed, ite_self, ↓st_ite]) | (with_reducible refine (foldl_fixed _ _ _ (fun _ _ => ?_)).trans ?_) | (with_reducible refine (foldl_pair_fixed _ _ _ (fun _ _ => ?_)).trans ?_) | dsimp only | (simp_all; done))

end Sys2Proof.Machine
end

