-- ==== Sys2Proof/Laws/FixedWellgate.lean ====
section
/-! SUPPORT. What the operations of Machine/Wellgate.lean leave alone (Laws/Fixed.lean). -/

set_option linter.all false

namespace Sys2Proof.Machine

open Sys2Proof

@[simp] theorem State.wlgBadFrame_fixed (s : State) : (State.wlgBadFrame s).fixed = s.fixed := by
  unfold State.wlgBadFrame
  repeat' (first | (simp only [↓State.count_fixed, ↓State.setWlg_fixed, ↓mk_fixed, ↓ite_fixed, ite_self, ↓st_ite]; done) | split | (simp only [↓State.count_fixed, ↓State.setWlg_fixed, ↓mk_fixed, ↓ite_fixed, ite_self, ↓st_ite]; split) | (simp only [↓State.count_fixed, ↓State.setWlg_fixed, ↓mk_fixed, ↓ite_fixed, ite_self, ↓st_ite]) | (with_reducible refine (foldl_fixed _ _ _ (fun _ _ => ?_)).trans ?_) | (with_reducible refine (foldl_pair_fixed _ _ _ (fun _ _ => ?_)).trans ?_) | dsimp only | (simp_all; done))

@[simp] theorem State.wlgSend_fixed (s : State) (code v : Nat) : (State.wlgSend s code v).fixed = s.fixed := by
  unfold State.wlgSend
  repeat' (first | (simp only [↓State.setWlg_fixed, ↓mk_fixed, ↓ite_fixed, ite_self, ↓st_ite]; done) | split | (simp only [↓State.setWlg_fixed, ↓mk_fixed, ↓ite_fixed, ite_self, ↓st_ite]; split) | (simp only [↓State.setWlg_fixed, ↓mk_fixed, ↓ite_fixed, ite_self, ↓st_ite]) | (with_reducible refine (foldl_fixed _ _ _ (fun _ _ => ?_)).trans ?_) | (with_reducible refine (foldl_pair_fixed _ _ _ (fun _ _ => ?_)).trans ?_) | dsimp only | (simp_all; done))

@[simp] theorem State.showHeld_fixed (s : State) : (State.showHeld s).fixed = s.fixed := by
  unfold State.showHeld
  repeat' (first | (simp only [↓State.put_fixed, ↓mk_fixed, ↓ite_fixed, ite_self, ↓st_ite]; done) | split | (simp only [↓State.put_fixed, ↓mk_fixed, ↓ite_fixed, ite_self, ↓st_ite]; split) | (simp only [↓State.put_fixed, ↓mk_fixed, ↓ite_fixed, ite_self, ↓st_ite]) | (with_reducible refine (foldl_fixed _ _ _ (fun _ _ => ?_)).trans ?_) | (with_reducible refine (foldl_pair_fixed _ _ _ (fun _ _ => ?_)).trans ?_) | dsimp only | (simp_all; done))

@[simp] theorem State.wlgDeliver_fixed (s : State) (x0 : Nat) : (State.wlgDeliver s x0).fixed = s.fixed := by
  induction x0 generalizing s with
  | zero => simp [State.wlgDeliver]
  | succ n ih =>
    unfold State.wlgDeliver
    repeat' (first | (simp only [↓ih, ↓State.deliver_fixed, ↓State.freeFrame_fixed, ↓State.setWlg_fixed, ↓mk_fixed, ↓ite_fixed, ite_self, ↓st_ite]; done) | split | (simp only [↓ih, ↓State.deliver_fixed, ↓State.freeFrame_fixed, ↓State.setWlg_fixed, ↓mk_fixed, ↓ite_fixed, ite_self, ↓st_ite]; split) | (simp only [↓ih, ↓State.deliver_fixed, ↓State.freeFrame_fixed, ↓State.setWlg_fixed, ↓mk_fixed, ↓ite_fixed, ite_self, ↓st_ite]) | (simp only [↓ih, pair_fixed ‹State.deliver _ _ _ _ _ _  = (_, _)› (State.deliver_fixed _ _ _ _ _ _ ), ↓State.deliver_fixed, ↓State.freeFrame_fixed, ↓State.setWlg_fixed, ↓mk_fixed, ↓ite_fixed, ite_self, ↓st_ite]) | (with_reducible refine (foldl_fixed _ _ _ (fun _ _ => ?_)).trans ?_) | (with_reducible refine (foldl_pair_fixed _ _ _ (fun _ _ => ?_)).trans ?_) | dsimp only | (simp_all; done))

@[simp] theorem State.wlgWritten_fixed (s : State) (seq : Nat) : (State.wlgWritten s seq).fixed = s.fixed := by
  unfold State.wlgWritten
  repeat' (first | (simp only [↓State.count_fixed, ↓State.setNum_fixed, ↓State.setWlg_fixed, ↓State.showHeld_fixed, ↓State.wlgSend_fixed, ↓mk_fixed, ↓ite_fixed, ite_self, ↓st_ite]; done) | split | (simp only [↓State.count_fixed, ↓State.setNum_fixed, ↓State.setWlg_fixed, ↓State.showHeld_fixed, ↓State.wlgSend_fixed, ↓mk_fixed, ↓ite_fixed, ite_self, ↓st_ite]; split) | (simp only [↓State.count_fixed, ↓State.setNum_fixed, ↓State.setWlg_fixed, ↓State.showHeld_fixed, ↓State.wlgSend_fixed, ↓mk_fixed, ↓ite_fixed, ite_self, ↓st_ite]) | (with_reducible refine (foldl_fixed _ _ _ (fun _ _ => ?_)).trans ?_) | (with_reducible refine (foldl_pair_fixed _ _ _ (fun _ _ => ?_)).trans ?_) | dsimp only | (simp_all; done))

@[simp] theorem execRecordRx_fixed (ok : Bool) (s : State) : (after (execRecordRx ok s) s).fixed = s.fixed := by
  unfold execRecordRx
  repeat (first | rw [after_next] | rw [after_ite] | fail)
  repeat' (first | (simp only [↓State.admitDrop_fixed, ↓State.count_fixed, ↓State.ok_fixed, ↓State.record_fixed, ↓State.setWel_fixed, ↓State.setWlg_fixed, ↓State.showHeld_fixed, ↓State.wlgBadFrame_fixed, ↓State.wlgDeliver_fixed, ↓State.wlgSend_fixed, ↓mk_fixed, ↓ite_fixed, ite_self, ↓st_ite]; done) | split | (simp only [↓State.admitDrop_fixed, ↓State.count_fixed, ↓State.ok_fixed, ↓State.record_fixed, ↓State.setWel_fixed, ↓State.setWlg_fixed, ↓State.showHeld_fixed, ↓State.wlgBadFrame_fixed, ↓State.wlgDeliver_fixed, ↓State.wlgSend_fixed, ↓mk_fixed, ↓ite_fixed, ite_self, ↓st_ite]; split) | (simp only [↓State.admitDrop_fixed, ↓State.count_fixed, ↓State.ok_fixed, ↓State.record_fixed, ↓State.setWel_fixed, ↓State.setWlg_fixed, ↓State.showHeld_fixed, ↓State.wlgBadFrame_fixed, ↓State.wlgDeliver_fixed, ↓State.wlgSend_fixed, ↓mk_fixed, ↓ite_fixed, ite_self, ↓st_ite]) | (simp only [optpair_fixed ‹State.storeFrame _ _ _ _ _ _  = some (_, _)› (fun _ h => State.storeFrame_fixed _ _ _ _ _ _  h), ↓State.admitDrop_fixed, ↓State.count_fixed, ↓State.ok_fixed, ↓State.record_fixed, ↓State.setWel_fixed, ↓State.setWlg_fixed, ↓State.showHeld_fixed, ↓State.wlgBadFrame_fixed, ↓State.wlgDeliver_fixed, ↓State.wlgSend_fixed, ↓mk_fixed, ↓ite_fixed, ite_self, ↓st_ite]) | (with_reducible refine (foldl_fixed _ _ _ (fun _ _ => ?_)).trans ?_) | (with_reducible refine (foldl_pair_fixed _ _ _ (fun _ _ => ?_)).trans ?_) | dsimp only | (simp_all; done))

@[simp] theorem execCredit_fixed (s : State) : (after (execCredit s) s).fixed = s.fixed := by
  unfold execCredit
  repeat (first | rw [after_next] | rw [after_ite] | fail)
  repeat' (first | (simp only [↓State.setWel_fixed, ↓mk_fixed, ↓ite_fixed, ite_self, ↓st_ite]; done) | split | (simp only [↓State.setWel_fixed, ↓mk_fixed, ↓ite_fixed, ite_self, ↓st_ite]; split) | (simp only [↓State.setWel_fixed, ↓mk_fixed, ↓ite_fixed, ite_self, ↓st_ite]) | (with_reducible refine (foldl_fixed _ _ _ (fun _ _ => ?_)).trans ?_) | (with_reducible refine (foldl_pair_fixed _ _ _ (fun _ _ => ?_)).trans ?_) | dsimp only | (simp_all; done))

@[simp] theorem State.linkDrop_fixed (s : State) (code v : Nat) : (State.linkDrop s code v).fixed = s.fixed := by
  unfold State.linkDrop
  repeat' (first | (simp only [↓State.setWlg_fixed, ↓mk_fixed, ↓ite_fixed, ite_self, ↓st_ite]; done) | split | (simp only [↓State.setWlg_fixed, ↓mk_fixed, ↓ite_fixed, ite_self, ↓st_ite]; split) | (simp only [↓State.setWlg_fixed, ↓mk_fixed, ↓ite_fixed, ite_self, ↓st_ite]) | (with_reducible refine (foldl_fixed _ _ _ (fun _ _ => ?_)).trans ?_) | (with_reducible refine (foldl_pair_fixed _ _ _ (fun _ _ => ?_)).trans ?_) | dsimp only | (simp_all; done))

@[simp] theorem execDelivered_fixed (s : State) : (after (execDelivered s) s).fixed = s.fixed := by
  unfold execDelivered
  repeat (first | rw [after_next] | rw [after_ite] | fail)
  repeat' (first | (simp only [↓State.linkDrop_fixed, ↓State.noteBacklog_fixed, ↓State.setWel_fixed, ↓mk_fixed, ↓ite_fixed, ite_self, ↓st_ite]; done) | split | (simp only [↓State.linkDrop_fixed, ↓State.noteBacklog_fixed, ↓State.setWel_fixed, ↓mk_fixed, ↓ite_fixed, ite_self, ↓st_ite]; split) | (simp only [↓State.linkDrop_fixed, ↓State.noteBacklog_fixed, ↓State.setWel_fixed, ↓mk_fixed, ↓ite_fixed, ite_self, ↓st_ite]) | (with_reducible refine (foldl_fixed _ _ _ (fun _ _ => ?_)).trans ?_) | (with_reducible refine (foldl_pair_fixed _ _ _ (fun _ _ => ?_)).trans ?_) | dsimp only | (simp_all; done))

@[simp] theorem execResend_fixed (s : State) : (after (execResend s) s).fixed = s.fixed := by
  unfold execResend
  repeat (first | rw [after_next] | rw [after_ite] | fail)
  repeat' (first | (simp only [↓State.linkDrop_fixed, ↓State.setWel_fixed, ↓mk_fixed, ↓ite_fixed, ite_self, ↓st_ite]; done) | split | (simp only [↓State.linkDrop_fixed, ↓State.setWel_fixed, ↓mk_fixed, ↓ite_fixed, ite_self, ↓st_ite]; split) | (simp only [↓State.linkDrop_fixed, ↓State.setWel_fixed, ↓mk_fixed, ↓ite_fixed, ite_self, ↓st_ite]) | (with_reducible refine (foldl_fixed _ _ _ (fun _ _ => ?_)).trans ?_) | (with_reducible refine (foldl_pair_fixed _ _ _ (fun _ _ => ?_)).trans ?_) | dsimp only | (simp_all; done))

@[simp] theorem State.showProc_fixed (s : State) (i : Nat) (v : ProcValue) : (State.showProc s i v).fixed = s.fixed := by
  unfold State.showProc
  repeat' (first | (simp only [↓State.record_fixed, ↓State.setNum_fixed, ↓State.setWlg_fixed, ↓mk_fixed, ↓ite_fixed, ite_self, ↓st_ite]; done) | split | (simp only [↓State.record_fixed, ↓State.setNum_fixed, ↓State.setWlg_fixed, ↓mk_fixed, ↓ite_fixed, ite_self, ↓st_ite]; split) | (simp only [↓State.record_fixed, ↓State.setNum_fixed, ↓State.setWlg_fixed, ↓mk_fixed, ↓ite_fixed, ite_self, ↓st_ite]) | (with_reducible refine (foldl_fixed _ _ _ (fun _ _ => ?_)).trans ?_) | (with_reducible refine (foldl_pair_fixed _ _ _ (fun _ _ => ?_)).trans ?_) | dsimp only | (simp_all; done))

@[simp] theorem State.dropProc_fixed (s : State) (j : Job) : (State.dropProc s j).fixed = s.fixed := by
  unfold State.dropProc
  repeat' (first | (simp only [↓State.freeFrame_fixed, ↓State.setWlg_fixed, ↓mk_fixed, ↓ite_fixed, ite_self, ↓st_ite]; done) | split | (simp only [↓State.freeFrame_fixed, ↓State.setWlg_fixed, ↓mk_fixed, ↓ite_fixed, ite_self, ↓st_ite]; split) | (simp only [↓State.freeFrame_fixed, ↓State.setWlg_fixed, ↓mk_fixed, ↓ite_fixed, ite_self, ↓st_ite]) | (with_reducible refine (foldl_fixed _ _ _ (fun _ _ => ?_)).trans ?_) | (with_reducible refine (foldl_pair_fixed _ _ _ (fun _ _ => ?_)).trans ?_) | dsimp only | (simp_all; done))

@[simp] theorem State.commitProc_fixed (s : State) (j : Job) : (State.commitProc s j).fixed = s.fixed := by
  unfold State.commitProc
  repeat' (first | (simp only [↓State.commitOne_fixed, ↓State.dropProc_fixed, ↓State.setWlg_fixed, ↓mk_fixed, ↓ite_fixed, ite_self, ↓st_ite]; done) | split | (simp only [↓State.commitOne_fixed, ↓State.dropProc_fixed, ↓State.setWlg_fixed, ↓mk_fixed, ↓ite_fixed, ite_self, ↓st_ite]; split) | (simp only [↓State.commitOne_fixed, ↓State.dropProc_fixed, ↓State.setWlg_fixed, ↓mk_fixed, ↓ite_fixed, ite_self, ↓st_ite]) | (with_reducible refine (foldl_fixed _ _ _ (fun _ _ => ?_)).trans ?_) | (with_reducible refine (foldl_pair_fixed _ _ _ (fun _ _ => ?_)).trans ?_) | dsimp only | (simp_all; done))

@[simp] theorem State.enterProc_fixed (s : State) (vs : List ProcValue) : (State.enterProc s vs).fixed = s.fixed := by
  unfold State.enterProc
  repeat' (first | (simp only [↓State.addJob_fixed, ↓State.admitDrop_fixed, ↓State.setWlg_fixed, ↓State.showProc_fixed, ↓mk_fixed, ↓ite_fixed, ite_self, ↓st_ite]; done) | split | (simp only [↓State.addJob_fixed, ↓State.admitDrop_fixed, ↓State.setWlg_fixed, ↓State.showProc_fixed, ↓mk_fixed, ↓ite_fixed, ite_self, ↓st_ite]; split) | (simp only [↓State.addJob_fixed, ↓State.admitDrop_fixed, ↓State.setWlg_fixed, ↓State.showProc_fixed, ↓mk_fixed, ↓ite_fixed, ite_self, ↓st_ite]) | (simp only [optpair_fixed ‹State.storeFrame _ _ _ _ _ _  = some (_, _)› (fun _ h => State.storeFrame_fixed _ _ _ _ _ _  h), ↓State.addJob_fixed, ↓State.admitDrop_fixed, ↓State.setWlg_fixed, ↓State.showProc_fixed, ↓mk_fixed, ↓ite_fixed, ite_self, ↓st_ite]) | (with_reducible refine (foldl_fixed _ _ _ (fun _ _ => ?_)).trans ?_) | (with_reducible refine (foldl_pair_fixed _ _ _ (fun _ _ => ?_)).trans ?_) | dsimp only | (simp_all; done))

@[simp] theorem State.haltRange_fixed (s : State) (ms : List WlIn) : (State.haltRange s ms).fixed = s.fixed := by
  unfold State.haltRange
  repeat' (first | (simp only [↓State.haltCycle_fixed, ↓mk_fixed, ↓ite_fixed, ite_self, ↓st_ite]; done) | split | (simp only [↓State.haltCycle_fixed, ↓mk_fixed, ↓ite_fixed, ite_self, ↓st_ite]; split) | (simp only [↓State.haltCycle_fixed, ↓mk_fixed, ↓ite_fixed, ite_self, ↓st_ite]) | (with_reducible refine (foldl_fixed _ _ _ (fun _ _ => ?_)).trans ?_) | (with_reducible refine (foldl_pair_fixed _ _ _ (fun _ _ => ?_)).trans ?_) | dsimp only | (simp_all; done))

@[simp] theorem execProcess_fixed (ms : List WlIn) (rates : List Word) (ok : Bool) (s : State) : (after (execProcess ms rates ok s) s).fixed = s.fixed := by
  unfold execProcess
  repeat (first | rw [after_next] | rw [after_ite] | fail)
  repeat' (first | (simp only [↓State.enterProc_fixed, ↓State.haltRange_fixed, ↓State.ok_fixed, ↓State.setWel_fixed, ↓State.wlgBadFrame_fixed, ↓mk_fixed, ↓ite_fixed, ite_self, ↓st_ite]; done) | split | (simp only [↓State.enterProc_fixed, ↓State.haltRange_fixed, ↓State.ok_fixed, ↓State.setWel_fixed, ↓State.wlgBadFrame_fixed, ↓mk_fixed, ↓ite_fixed, ite_self, ↓st_ite]; split) | (simp only [↓State.enterProc_fixed, ↓State.haltRange_fixed, ↓State.ok_fixed, ↓State.setWel_fixed, ↓State.wlgBadFrame_fixed, ↓mk_fixed, ↓ite_fixed, ite_self, ↓st_ite]) | (with_reducible refine (foldl_fixed _ _ _ (fun _ _ => ?_)).trans ?_) | (with_reducible refine (foldl_pair_fixed _ _ _ (fun _ _ => ?_)).trans ?_) | dsimp only | (simp_all; done))

@[simp] theorem State.helloViews_fixed (s : State) : (State.helloViews s).fixed = s.fixed := by
  unfold State.helloViews
  repeat' (first | (simp only [↓State.put_fixed, ↓State.setNum64_fixed, ↓State.setNum_fixed, ↓mk_fixed, ↓ite_fixed, ite_self, ↓st_ite]; done) | split | (simp only [↓State.put_fixed, ↓State.setNum64_fixed, ↓State.setNum_fixed, ↓mk_fixed, ↓ite_fixed, ite_self, ↓st_ite]; split) | (simp only [↓State.put_fixed, ↓State.setNum64_fixed, ↓State.setNum_fixed, ↓mk_fixed, ↓ite_fixed, ite_self, ↓st_ite]) | (with_reducible refine (foldl_fixed _ _ _ (fun _ _ => ?_)).trans ?_) | (with_reducible refine (foldl_pair_fixed _ _ _ (fun _ _ => ?_)).trans ?_) | dsimp only | (simp_all; done))

@[simp] theorem State.helloDie_fixed (s : State) : (State.helloDie s).fixed = s.fixed := by
  unfold State.helloDie
  repeat' (first | (simp only [↓State.put_fixed, ↓State.record_fixed, ↓mk_fixed, ↓ite_fixed, ite_self, ↓st_ite]; done) | split | (simp only [↓State.put_fixed, ↓State.record_fixed, ↓mk_fixed, ↓ite_fixed, ite_self, ↓st_ite]; split) | (simp only [↓State.put_fixed, ↓State.record_fixed, ↓mk_fixed, ↓ite_fixed, ite_self, ↓st_ite]) | (with_reducible refine (foldl_fixed _ _ _ (fun _ _ => ?_)).trans ?_) | (with_reducible refine (foldl_pair_fixed _ _ _ (fun _ _ => ?_)).trans ?_) | dsimp only | (simp_all; done))

@[simp] theorem State.helloSeal_fixed (s : State) : (State.helloSeal s).fixed = s.fixed := by
  unfold State.helloSeal
  repeat' (first | (simp only [↓State.put_fixed, ↓State.record_fixed, ↓mk_fixed, ↓ite_fixed, ite_self, ↓st_ite]; done) | split | (simp only [↓State.put_fixed, ↓State.record_fixed, ↓mk_fixed, ↓ite_fixed, ite_self, ↓st_ite]; split) | (simp only [↓State.put_fixed, ↓State.record_fixed, ↓mk_fixed, ↓ite_fixed, ite_self, ↓st_ite]) | (with_reducible refine (foldl_fixed _ _ _ (fun _ _ => ?_)).trans ?_) | (with_reducible refine (foldl_pair_fixed _ _ _ (fun _ _ => ?_)).trans ?_) | dsimp only | (simp_all; done))

@[simp] theorem State.helloBacklog_fixed (s : State) : (State.helloBacklog s).fixed = s.fixed := by
  unfold State.helloBacklog
  repeat' (first | (simp only [↓State.put_fixed, ↓State.record_fixed, ↓mk_fixed, ↓ite_fixed, ite_self, ↓st_ite]; done) | split | (simp only [↓State.put_fixed, ↓State.record_fixed, ↓mk_fixed, ↓ite_fixed, ite_self, ↓st_ite]; split) | (simp only [↓State.put_fixed, ↓State.record_fixed, ↓mk_fixed, ↓ite_fixed, ite_self, ↓st_ite]) | (with_reducible refine (foldl_fixed _ _ _ (fun _ _ => ?_)).trans ?_) | (with_reducible refine (foldl_pair_fixed _ _ _ (fun _ _ => ?_)).trans ?_) | dsimp only | (simp_all; done))

@[simp] theorem State.helloLink_fixed (s : State) : (State.helloLink s).fixed = s.fixed := by
  unfold State.helloLink
  repeat' (first | (simp only [↓State.put_fixed, ↓State.record_fixed, ↓State.setWlg_fixed, ↓mk_fixed, ↓ite_fixed, ite_self, ↓st_ite]; done) | split | (simp only [↓State.put_fixed, ↓State.record_fixed, ↓State.setWlg_fixed, ↓mk_fixed, ↓ite_fixed, ite_self, ↓st_ite]; split) | (simp only [↓State.put_fixed, ↓State.record_fixed, ↓State.setWlg_fixed, ↓mk_fixed, ↓ite_fixed, ite_self, ↓st_ite]) | (with_reducible refine (foldl_fixed _ _ _ (fun _ _ => ?_)).trans ?_) | (with_reducible refine (foldl_pair_fixed _ _ _ (fun _ _ => ?_)).trans ?_) | dsimp only | (simp_all; done))

@[simp] theorem State.helloRecords_fixed (s : State) : (State.helloRecords s).fixed = s.fixed := by
  unfold State.helloRecords
  repeat' (first | (simp only [↓State.setWlg_fixed, ↓State.wlgSend_fixed, ↓mk_fixed, ↓ite_fixed, ite_self, ↓st_ite]; done) | split | (simp only [↓State.setWlg_fixed, ↓State.wlgSend_fixed, ↓mk_fixed, ↓ite_fixed, ite_self, ↓st_ite]; split) | (simp only [↓State.setWlg_fixed, ↓State.wlgSend_fixed, ↓mk_fixed, ↓ite_fixed, ite_self, ↓st_ite]) | (with_reducible refine (foldl_fixed _ _ _ (fun _ _ => ?_)).trans ?_) | (with_reducible refine (foldl_pair_fixed _ _ _ (fun _ _ => ?_)).trans ?_) | dsimp only | (simp_all; done))

@[simp] theorem execHello_fixed (ok : Bool) (s : State) : (after (execHello ok s) s).fixed = s.fixed := by
  unfold execHello
  repeat (first | rw [after_next] | rw [after_ite] | fail)
  repeat' (first | (simp only [↓State.helloBacklog_fixed, ↓State.helloDie_fixed, ↓State.helloLink_fixed, ↓State.helloRecords_fixed, ↓State.helloSeal_fixed, ↓State.helloViews_fixed, ↓State.ok_fixed, ↓State.setWel_fixed, ↓State.wlgBadFrame_fixed, ↓mk_fixed, ↓ite_fixed, ite_self, ↓st_ite]; done) | split | (simp only [↓State.helloBacklog_fixed, ↓State.helloDie_fixed, ↓State.helloLink_fixed, ↓State.helloRecords_fixed, ↓State.helloSeal_fixed, ↓State.helloViews_fixed, ↓State.ok_fixed, ↓State.setWel_fixed, ↓State.wlgBadFrame_fixed, ↓mk_fixed, ↓ite_fixed, ite_self, ↓st_ite]; split) | (simp only [↓State.helloBacklog_fixed, ↓State.helloDie_fixed, ↓State.helloLink_fixed, ↓State.helloRecords_fixed, ↓State.helloSeal_fixed, ↓State.helloViews_fixed, ↓State.ok_fixed, ↓State.setWel_fixed, ↓State.wlgBadFrame_fixed, ↓mk_fixed, ↓ite_fixed, ite_self, ↓st_ite]) | (with_reducible refine (foldl_fixed _ _ _ (fun _ _ => ?_)).trans ?_) | (with_reducible refine (foldl_pair_fixed _ _ _ (fun _ _ => ?_)).trans ?_) | dsimp only | (simp_all; done))

@[simp] theorem execWhLink_fixed (s : State) : (after (execWhLink s) s).fixed = s.fixed := by
  unfold execWhLink
  repeat (first | rw [after_next] | rw [after_ite] | fail)
  repeat' (first | (simp only [↓State.put_fixed, ↓State.record_fixed, ↓mk_fixed, ↓ite_fixed, ite_self, ↓st_ite]; done) | split | (simp only [↓State.put_fixed, ↓State.record_fixed, ↓mk_fixed, ↓ite_fixed, ite_self, ↓st_ite]; split) | (simp only [↓State.put_fixed, ↓State.record_fixed, ↓mk_fixed, ↓ite_fixed, ite_self, ↓st_ite]) | (with_reducible refine (foldl_fixed _ _ _ (fun _ _ => ?_)).trans ?_) | (with_reducible refine (foldl_pair_fixed _ _ _ (fun _ _ => ?_)).trans ?_) | dsimp only | (simp_all; done))

@[simp] theorem State.wlgEdge_fixed (s : State) : (State.wlgEdge s).fixed = s.fixed := by
  unfold State.wlgEdge
  repeat' (first | (simp only [↓State.record_fixed, ↓State.setWlg_fixed, ↓mk_fixed, ↓ite_fixed, ite_self, ↓st_ite]; done) | split | (simp only [↓State.record_fixed, ↓State.setWlg_fixed, ↓mk_fixed, ↓ite_fixed, ite_self, ↓st_ite]; split) | (simp only [↓State.record_fixed, ↓State.setWlg_fixed, ↓mk_fixed, ↓ite_fixed, ite_self, ↓st_ite]) | (with_reducible refine (foldl_fixed _ _ _ (fun _ _ => ?_)).trans ?_) | (with_reducible refine (foldl_pair_fixed _ _ _ (fun _ _ => ?_)).trans ?_) | dsimp only | (simp_all; done))

@[simp] theorem execWlgRequest_fixed (d : Desc) (s : State) : (after (execWlgRequest d s) s).fixed = s.fixed := by
  unfold execWlgRequest
  repeat (first | rw [after_next] | rw [after_ite] | fail)
  repeat' (first | (simp only [↓State.command_fixed, ↓State.fail_fixed, ↓State.later_fixed, ↓State.setWel_fixed, ↓State.setWlg_fixed, ↓mk_fixed, ↓ite_fixed, ite_self, ↓st_ite]; done) | split | (simp only [↓State.command_fixed, ↓State.fail_fixed, ↓State.later_fixed, ↓State.setWel_fixed, ↓State.setWlg_fixed, ↓mk_fixed, ↓ite_fixed, ite_self, ↓st_ite]; split) | (simp only [↓State.command_fixed, ↓State.fail_fixed, ↓State.later_fixed, ↓State.setWel_fixed, ↓State.setWlg_fixed, ↓mk_fixed, ↓ite_fixed, ite_self, ↓st_ite]) | (with_reducible refine (State.command_fixed _ _ _ (fun _ => ?_)).trans ?_) | (with_reducible refine (foldl_fixed _ _ _ (fun _ _ => ?_)).trans ?_) | (with_reducible refine (foldl_pair_fixed _ _ _ (fun _ _ => ?_)).trans ?_) | dsimp only | (simp_all; done))

@[simp] theorem execWhResponse_fixed (ok : Bool) (s : State) : (after (execWhResponse ok s) s).fixed = s.fixed := by
  unfold execWhResponse
  repeat (first | rw [after_next] | rw [after_ite] | fail)
  repeat' (first | (simp only [↓State.answer_fixed, ↓State.attest_fixed, ↓State.fail_fixed, ↓State.finish_fixed, ↓State.ok_fixed, ↓State.setWel_fixed, ↓State.setWlg_fixed, ↓State.wlgBadFrame_fixed, ↓mk_fixed, ↓ite_fixed, ite_self, ↓st_ite]; done) | split | (simp only [↓State.answer_fixed, ↓State.attest_fixed, ↓State.fail_fixed, ↓State.finish_fixed, ↓State.ok_fixed, ↓State.setWel_fixed, ↓State.setWlg_fixed, ↓State.wlgBadFrame_fixed, ↓mk_fixed, ↓ite_fixed, ite_self, ↓st_ite]; split) | (simp only [↓State.answer_fixed, ↓State.attest_fixed, ↓State.fail_fixed, ↓State.finish_fixed, ↓State.ok_fixed, ↓State.setWel_fixed, ↓State.setWlg_fixed, ↓State.wlgBadFrame_fixed, ↓mk_fixed, ↓ite_fixed, ite_self, ↓st_ite]) | (with_reducible refine (foldl_fixed _ _ _ (fun _ _ => ?_)).trans ?_) | (with_reducible refine (foldl_pair_fixed _ _ _ (fun _ _ => ?_)).trans ?_) | dsimp only | (simp_all; done))

@[simp] theorem execReqTimeout_fixed (s : State) : (after (execReqTimeout s) s).fixed = s.fixed := by
  unfold execReqTimeout
  repeat (first | rw [after_next] | rw [after_ite] | fail)
  repeat' (first | (simp only [↓State.count_fixed, ↓State.fail_fixed, ↓State.finish_fixed, ↓State.record_fixed, ↓State.setWel_fixed, ↓State.setWlg_fixed, ↓mk_fixed, ↓ite_fixed, ite_self, ↓st_ite]; done) | split | (simp only [↓State.count_fixed, ↓State.fail_fixed, ↓State.finish_fixed, ↓State.record_fixed, ↓State.setWel_fixed, ↓State.setWlg_fixed, ↓mk_fixed, ↓ite_fixed, ite_self, ↓st_ite]; split) | (simp only [↓State.count_fixed, ↓State.fail_fixed, ↓State.finish_fixed, ↓State.record_fixed, ↓State.setWel_fixed, ↓State.setWlg_fixed, ↓mk_fixed, ↓ite_fixed, ite_self, ↓st_ite]) | (with_reducible refine (foldl_fixed _ _ _ (fun _ _ => ?_)).trans ?_) | (with_reducible refine (foldl_pair_fixed _ _ _ (fun _ _ => ?_)).trans ?_) | dsimp only | (simp_all; done))

end Sys2Proof.Machine
end

