-- ==== Sys2Proof/Laws/FixedMotion.lean ====
section
/-! SUPPORT. What the operations of Machine/Motion.lean leave alone (Laws/Fixed.lean). -/

set_option linter.all false

namespace Sys2Proof.Machine

open Sys2Proof

@[simp] theorem State.modAxis_fixed (s : State) (n : Nat) (f : Axis → Axis) : (State.modAxis s n f).fixed = s.fixed := by
  unfold State.modAxis
  repeat' (first | (simp only [↓State.setMot_fixed, ↓mk_fixed, ↓ite_fixed, ite_self, ↓st_ite]; done) | split | (simp only [↓State.setMot_fixed, ↓mk_fixed, ↓ite_fixed, ite_self, ↓st_ite]; split) | (simp only [↓State.setMot_fixed, ↓mk_fixed, ↓ite_fixed, ite_self, ↓st_ite]) | (with_reducible refine (foldl_fixed _ _ _ (fun _ _ => ?_)).trans ?_) | (with_reducible refine (foldl_pair_fixed _ _ _ (fun _ _ => ?_)).trans ?_) | dsimp only | (simp_all; done))

@[simp] theorem State.driveAxes_fixed (s : State) : (State.driveAxes s).fixed = s.fixed := by
  unfold State.driveAxes
  repeat' (first | (simp only [↓State.emit_fixed, ↓mk_fixed, ↓ite_fixed, ite_self, ↓st_ite]; done) | split | (simp only [↓State.emit_fixed, ↓mk_fixed, ↓ite_fixed, ite_self, ↓st_ite]; split) | (simp only [↓State.emit_fixed, ↓mk_fixed, ↓ite_fixed, ite_self, ↓st_ite]) | (with_reducible refine (foldl_fixed _ _ _ (fun _ _ => ?_)).trans ?_) | (with_reducible refine (foldl_pair_fixed _ _ _ (fun _ _ => ?_)).trans ?_) | dsimp only | (simp_all; done))

@[simp] theorem State.endAxis_fixed (s : State) (n status : Nat) : (State.endAxis s n status).fixed = s.fixed := by
  unfold State.endAxis
  repeat' (first | (simp only [↓State.fail_fixed, ↓State.finish_fixed, ↓State.modAxis_fixed, ↓mk_fixed, ↓ite_fixed, ite_self, ↓st_ite]; done) | split | (simp only [↓State.fail_fixed, ↓State.finish_fixed, ↓State.modAxis_fixed, ↓mk_fixed, ↓ite_fixed, ite_self, ↓st_ite]; split) | (simp only [↓State.fail_fixed, ↓State.finish_fixed, ↓State.modAxis_fixed, ↓mk_fixed, ↓ite_fixed, ite_self, ↓st_ite]) | (with_reducible refine (foldl_fixed _ _ _ (fun _ _ => ?_)).trans ?_) | (with_reducible refine (foldl_pair_fixed _ _ _ (fun _ _ => ?_)).trans ?_) | dsimp only | (simp_all; done))

@[simp] theorem State.haltAxis_fixed (s : State) (n : Nat) : (State.haltAxis s n).fixed = s.fixed := by
  unfold State.haltAxis
  repeat' (first | (simp only [↓State.modAxis_fixed, ↓mk_fixed, ↓ite_fixed, ite_self, ↓st_ite]; done) | split | (simp only [↓State.modAxis_fixed, ↓mk_fixed, ↓ite_fixed, ite_self, ↓st_ite]; split) | (simp only [↓State.modAxis_fixed, ↓mk_fixed, ↓ite_fixed, ite_self, ↓st_ite]) | (with_reducible refine (foldl_fixed _ _ _ (fun _ _ => ?_)).trans ?_) | (with_reducible refine (foldl_pair_fixed _ _ _ (fun _ _ => ?_)).trans ?_) | dsimp only | (simp_all; done))

@[simp] theorem State.stopAxis_fixed (s : State) (n status : Nat) : (State.stopAxis s n status).fixed = s.fixed := by
  unfold State.stopAxis
  repeat' (first | (simp only [↓State.endAxis_fixed, ↓State.haltAxis_fixed, ↓mk_fixed, ↓ite_fixed, ite_self, ↓st_ite]; done) | split | (simp only [↓State.endAxis_fixed, ↓State.haltAxis_fixed, ↓mk_fixed, ↓ite_fixed, ite_self, ↓st_ite]; split) | (simp only [↓State.endAxis_fixed, ↓State.haltAxis_fixed, ↓mk_fixed, ↓ite_fixed, ite_self, ↓st_ite]) | (with_reducible refine (foldl_fixed _ _ _ (fun _ _ => ?_)).trans ?_) | (with_reducible refine (foldl_pair_fixed _ _ _ (fun _ _ => ?_)).trans ?_) | dsimp only | (simp_all; done))

@[simp] theorem State.loseReference_fixed (s : State) (n cause : Nat) : (State.loseReference s n cause).fixed = s.fixed := by
  unfold State.loseReference
  repeat' (first | (simp only [↓State.modAxis_fixed, ↓State.record_fixed, ↓mk_fixed, ↓ite_fixed, ite_self, ↓st_ite]; done) | split | (simp only [↓State.modAxis_fixed, ↓State.record_fixed, ↓mk_fixed, ↓ite_fixed, ite_self, ↓st_ite]; split) | (simp only [↓State.modAxis_fixed, ↓State.record_fixed, ↓mk_fixed, ↓ite_fixed, ite_self, ↓st_ite]) | (with_reducible refine (foldl_fixed _ _ _ (fun _ _ => ?_)).trans ?_) | (with_reducible refine (foldl_pair_fixed _ _ _ (fun _ _ => ?_)).trans ?_) | dsimp only | (simp_all; done))

@[simp] theorem State.powerDown_fixed (s : State) (n : Nat) : (State.powerDown s n).fixed = s.fixed := by
  unfold State.powerDown
  repeat' (first | (simp only [↓State.loseReference_fixed, ↓State.modAxis_fixed, ↓mk_fixed, ↓ite_fixed, ite_self, ↓st_ite]; done) | split | (simp only [↓State.loseReference_fixed, ↓State.modAxis_fixed, ↓mk_fixed, ↓ite_fixed, ite_self, ↓st_ite]; split) | (simp only [↓State.loseReference_fixed, ↓State.modAxis_fixed, ↓mk_fixed, ↓ite_fixed, ite_self, ↓st_ite]) | (with_reducible refine (foldl_fixed _ _ _ (fun _ _ => ?_)).trans ?_) | (with_reducible refine (foldl_pair_fixed _ _ _ (fun _ _ => ?_)).trans ?_) | dsimp only | (simp_all; done))

@[simp] theorem State.freezeAxis_fixed (s : State) (n : Nat) : (State.freezeAxis s n).fixed = s.fixed := by
  unfold State.freezeAxis
  repeat' (first | (simp only [↓State.endAxis_fixed, ↓State.loseReference_fixed, ↓State.modAxis_fixed, ↓State.record_fixed, ↓mk_fixed, ↓ite_fixed, ite_self, ↓st_ite]; done) | split | (simp only [↓State.endAxis_fixed, ↓State.loseReference_fixed, ↓State.modAxis_fixed, ↓State.record_fixed, ↓mk_fixed, ↓ite_fixed, ite_self, ↓st_ite]; split) | (simp only [↓State.endAxis_fixed, ↓State.loseReference_fixed, ↓State.modAxis_fixed, ↓State.record_fixed, ↓mk_fixed, ↓ite_fixed, ite_self, ↓st_ite]) | (with_reducible refine (foldl_fixed _ _ _ (fun _ _ => ?_)).trans ?_) | (with_reducible refine (foldl_pair_fixed _ _ _ (fun _ _ => ?_)).trans ?_) | dsimp only | (simp_all; done))

@[simp] theorem State.stopsDone_fixed (s : State) : (State.stopsDone s).fixed = s.fixed := by
  unfold State.stopsDone
  repeat' (first | (simp only [↓State.finish_fixed, ↓State.ok_fixed, ↓State.setMot_fixed, ↓mk_fixed, ↓ite_fixed, ite_self, ↓st_ite]; done) | split | (simp only [↓State.finish_fixed, ↓State.ok_fixed, ↓State.setMot_fixed, ↓mk_fixed, ↓ite_fixed, ite_self, ↓st_ite]; split) | (simp only [↓State.finish_fixed, ↓State.ok_fixed, ↓State.setMot_fixed, ↓mk_fixed, ↓ite_fixed, ite_self, ↓st_ite]) | (with_reducible refine (foldl_fixed _ _ _ (fun _ _ => ?_)).trans ?_) | (with_reducible refine (foldl_pair_fixed _ _ _ (fun _ _ => ?_)).trans ?_) | dsimp only | (simp_all; done))

@[simp] theorem State.homeFailed_fixed (s : State) (n step : Nat) : (State.homeFailed s n step).fixed = s.fixed := by
  unfold State.homeFailed
  repeat' (first | (simp only [↓State.record_fixed, ↓State.stopAxis_fixed, ↓mk_fixed, ↓ite_fixed, ite_self, ↓st_ite]; done) | split | (simp only [↓State.record_fixed, ↓State.stopAxis_fixed, ↓mk_fixed, ↓ite_fixed, ite_self, ↓st_ite]; split) | (simp only [↓State.record_fixed, ↓State.stopAxis_fixed, ↓mk_fixed, ↓ite_fixed, ite_self, ↓st_ite]) | (with_reducible refine (foldl_fixed _ _ _ (fun _ _ => ?_)).trans ?_) | (with_reducible refine (foldl_pair_fixed _ _ _ (fun _ _ => ?_)).trans ?_) | dsimp only | (simp_all; done))

@[simp] theorem State.segmentEnd_fixed (s : State) (n : Nat) (r : Run) : (State.segmentEnd s n r).fixed = s.fixed := by
  unfold State.segmentEnd
  repeat' (first | (simp only [↓State.endAxis_fixed, ↓State.modAxis_fixed, ↓State.stopAxis_fixed, ↓mk_fixed, ↓ite_fixed, ite_self, ↓st_ite]; done) | split | (simp only [↓State.endAxis_fixed, ↓State.modAxis_fixed, ↓State.stopAxis_fixed, ↓mk_fixed, ↓ite_fixed, ite_self, ↓st_ite]; split) | (simp only [↓State.endAxis_fixed, ↓State.modAxis_fixed, ↓State.stopAxis_fixed, ↓mk_fixed, ↓ite_fixed, ite_self, ↓st_ite]) | (with_reducible refine (foldl_fixed _ _ _ (fun _ _ => ?_)).trans ?_) | (with_reducible refine (foldl_pair_fixed _ _ _ (fun _ _ => ?_)).trans ?_) | dsimp only | (simp_all; done))

@[simp] theorem State.tickRun_fixed (s : State) (n : Nat) (r : Run) : (State.tickRun s n r).fixed = s.fixed := by
  unfold State.tickRun
  repeat' (first | (simp only [↓State.freezeAxis_fixed, ↓State.homeFailed_fixed, ↓State.loseReference_fixed, ↓State.modAxis_fixed, ↓State.record_fixed, ↓State.segmentEnd_fixed, ↓State.stopAxis_fixed, ↓mk_fixed, ↓ite_fixed, ite_self, ↓st_ite]; done) | split | (simp only [↓State.freezeAxis_fixed, ↓State.homeFailed_fixed, ↓State.loseReference_fixed, ↓State.modAxis_fixed, ↓State.record_fixed, ↓State.segmentEnd_fixed, ↓State.stopAxis_fixed, ↓mk_fixed, ↓ite_fixed, ite_self, ↓st_ite]; split) | (simp only [↓State.freezeAxis_fixed, ↓State.homeFailed_fixed, ↓State.loseReference_fixed, ↓State.modAxis_fixed, ↓State.record_fixed, ↓State.segmentEnd_fixed, ↓State.stopAxis_fixed, ↓mk_fixed, ↓ite_fixed, ite_self, ↓st_ite]) | (with_reducible refine (foldl_fixed _ _ _ (fun _ _ => ?_)).trans ?_) | (with_reducible refine (foldl_pair_fixed _ _ _ (fun _ _ => ?_)).trans ?_) | dsimp only | (simp_all; done))

@[simp] theorem State.tickStop_fixed (s : State) (n : Nat) : (State.tickStop s n).fixed = s.fixed := by
  unfold State.tickStop
  repeat' (first | (simp only [↓State.freezeAxis_fixed, ↓State.modAxis_fixed, ↓mk_fixed, ↓ite_fixed, ite_self, ↓st_ite]; done) | split | (simp only [↓State.freezeAxis_fixed, ↓State.modAxis_fixed, ↓mk_fixed, ↓ite_fixed, ite_self, ↓st_ite]; split) | (simp only [↓State.freezeAxis_fixed, ↓State.modAxis_fixed, ↓mk_fixed, ↓ite_fixed, ite_self, ↓st_ite]) | (with_reducible refine (foldl_fixed _ _ _ (fun _ _ => ?_)).trans ?_) | (with_reducible refine (foldl_pair_fixed _ _ _ (fun _ _ => ?_)).trans ?_) | dsimp only | (simp_all; done))

@[simp] theorem State.clearLatches_fixed (s : State) (n : Nat) : (State.clearLatches s n).fixed = s.fixed := by
  unfold State.clearLatches
  repeat' (first | (simp only [↓State.modAxis_fixed, ↓mk_fixed, ↓ite_fixed, ite_self, ↓st_ite]; done) | split | (simp only [↓State.modAxis_fixed, ↓mk_fixed, ↓ite_fixed, ite_self, ↓st_ite]; split) | (simp only [↓State.modAxis_fixed, ↓mk_fixed, ↓ite_fixed, ite_self, ↓st_ite]) | (with_reducible refine (foldl_fixed _ _ _ (fun _ _ => ?_)).trans ?_) | (with_reducible refine (foldl_pair_fixed _ _ _ (fun _ _ => ?_)).trans ?_) | dsimp only | (simp_all; done))

@[simp] theorem State.tickAxis_fixed (s : State) (n : Nat) : (State.tickAxis s n).fixed = s.fixed := by
  unfold State.tickAxis
  repeat' (first | (simp only [↓State.clearLatches_fixed, ↓State.modAxis_fixed, ↓State.stopAxis_fixed, ↓State.tickRun_fixed, ↓State.tickStop_fixed, ↓mk_fixed, ↓ite_fixed, ite_self, ↓st_ite]; done) | split | (simp only [↓State.clearLatches_fixed, ↓State.modAxis_fixed, ↓State.stopAxis_fixed, ↓State.tickRun_fixed, ↓State.tickStop_fixed, ↓mk_fixed, ↓ite_fixed, ite_self, ↓st_ite]; split) | (simp only [↓State.clearLatches_fixed, ↓State.modAxis_fixed, ↓State.stopAxis_fixed, ↓State.tickRun_fixed, ↓State.tickStop_fixed, ↓mk_fixed, ↓ite_fixed, ite_self, ↓st_ite]) | (with_reducible refine (foldl_fixed _ _ _ (fun _ _ => ?_)).trans ?_) | (with_reducible refine (foldl_pair_fixed _ _ _ (fun _ _ => ?_)).trans ?_) | dsimp only | (simp_all; done))

@[simp] theorem execSubTick_fixed (s : State) : (after (execSubTick s) s).fixed = s.fixed := by
  unfold execSubTick
  repeat (first | rw [after_next] | rw [after_ite] | fail)
  repeat' (first | (simp only [↓State.driveAxes_fixed, ↓State.stopsDone_fixed, ↓State.tickAxis_fixed, ↓mk_fixed, ↓ite_fixed, ite_self, ↓st_ite]; done) | split | (simp only [↓State.driveAxes_fixed, ↓State.stopsDone_fixed, ↓State.tickAxis_fixed, ↓mk_fixed, ↓ite_fixed, ite_self, ↓st_ite]; split) | (simp only [↓State.driveAxes_fixed, ↓State.stopsDone_fixed, ↓State.tickAxis_fixed, ↓mk_fixed, ↓ite_fixed, ite_self, ↓st_ite]) | (with_reducible refine (foldl_fixed _ _ _ (fun _ _ => ?_)).trans ?_) | (with_reducible refine (foldl_pair_fixed _ _ _ (fun _ _ => ?_)).trans ?_) | dsimp only | (simp_all; done))

@[simp] theorem execMoveStep_fixed (n : Nat) (s : State) : (after (execMoveStep n s) s).fixed = s.fixed := by
  unfold execMoveStep
  repeat (first | rw [after_next] | rw [after_ite] | fail)
  repeat' (first | (simp only [↓State.modAxis_fixed, ↓State.runWork_fixed, ↓mk_fixed, ↓ite_fixed, ite_self, ↓st_ite]; done) | split | (simp only [↓State.modAxis_fixed, ↓State.runWork_fixed, ↓mk_fixed, ↓ite_fixed, ite_self, ↓st_ite]; split) | (simp only [↓State.modAxis_fixed, ↓State.runWork_fixed, ↓mk_fixed, ↓ite_fixed, ite_self, ↓st_ite]) | (with_reducible refine (State.runWork_fixed _ _ _ _ (fun _ => ?_)).trans ?_) | (with_reducible refine (foldl_fixed _ _ _ (fun _ _ => ?_)).trans ?_) | (with_reducible refine (foldl_pair_fixed _ _ _ (fun _ _ => ?_)).trans ?_) | dsimp only | (simp_all; done))

@[simp] theorem State.motOverrun_fixed (s : State) (n : Nat) : (State.motOverrun s n).fixed = s.fixed := by
  unfold State.motOverrun
  repeat' (first | (simp only [↓State.stopAxis_fixed, ↓mk_fixed, ↓ite_fixed, ite_self, ↓st_ite]; done) | split | (simp only [↓State.stopAxis_fixed, ↓mk_fixed, ↓ite_fixed, ite_self, ↓st_ite]; split) | (simp only [↓State.stopAxis_fixed, ↓mk_fixed, ↓ite_fixed, ite_self, ↓st_ite]) | (with_reducible refine (foldl_fixed _ _ _ (fun _ _ => ?_)).trans ?_) | (with_reducible refine (foldl_pair_fixed _ _ _ (fun _ _ => ?_)).trans ?_) | dsimp only | (simp_all; done))

@[simp] theorem State.loopStep_fixed (s : State) (n : Nat) (goal : Int) : (State.loopStep s n goal).fixed = s.fixed := by
  unfold State.loopStep
  repeat' (first | (simp only [↓State.modAxis_fixed, ↓mk_fixed, ↓ite_fixed, ite_self, ↓st_ite]; done) | split | (simp only [↓State.modAxis_fixed, ↓mk_fixed, ↓ite_fixed, ite_self, ↓st_ite]; split) | (simp only [↓State.modAxis_fixed, ↓mk_fixed, ↓ite_fixed, ite_self, ↓st_ite]) | (with_reducible refine (foldl_fixed _ _ _ (fun _ _ => ?_)).trans ?_) | (with_reducible refine (foldl_pair_fixed _ _ _ (fun _ _ => ?_)).trans ?_) | dsimp only | (simp_all; done))

@[simp] theorem State.motionEdge_fixed (s : State) : (State.motionEdge s).fixed = s.fixed := by
  unfold State.motionEdge
  repeat' (first | (simp only [↓State.haltAxis_fixed, ↓State.loopStep_fixed, ↓State.modAxis_fixed, ↓mk_fixed, ↓ite_fixed, ite_self, ↓st_ite]; done) | split | (simp only [↓State.haltAxis_fixed, ↓State.loopStep_fixed, ↓State.modAxis_fixed, ↓mk_fixed, ↓ite_fixed, ite_self, ↓st_ite]; split) | (simp only [↓State.haltAxis_fixed, ↓State.loopStep_fixed, ↓State.modAxis_fixed, ↓mk_fixed, ↓ite_fixed, ite_self, ↓st_ite]) | (with_reducible refine (foldl_fixed _ _ _ (fun _ _ => ?_)).trans ?_) | (with_reducible refine (foldl_pair_fixed _ _ _ (fun _ _ => ?_)).trans ?_) | dsimp only | (simp_all; done))

@[simp] theorem State.setSpeed_fixed (s : State) (n : Nat) (v : Option Int) : (State.setSpeed s n v).fixed = s.fixed := by
  unfold State.setSpeed
  repeat' (first | (simp only [↓State.modAxis_fixed, ↓mk_fixed, ↓ite_fixed, ite_self, ↓st_ite]; done) | split | (simp only [↓State.modAxis_fixed, ↓mk_fixed, ↓ite_fixed, ite_self, ↓st_ite]; split) | (simp only [↓State.modAxis_fixed, ↓mk_fixed, ↓ite_fixed, ite_self, ↓st_ite]) | (with_reducible refine (foldl_fixed _ _ _ (fun _ _ => ?_)).trans ?_) | (with_reducible refine (foldl_pair_fixed _ _ _ (fun _ _ => ?_)).trans ?_) | dsimp only | (simp_all; done))

@[simp] theorem execAxisFault_fixed (n : Nat) (overload : Bool) (mv heldNs : Nat) (s : State) : (after (execAxisFault n overload mv heldNs s) s).fixed = s.fixed := by
  unfold execAxisFault
  repeat (first | rw [after_next] | rw [after_ite] | fail)
  repeat' (first | (simp only [↓State.count_fixed, ↓State.endAxis_fixed, ↓State.modAxis_fixed, ↓State.powerDown_fixed, ↓State.record_fixed, ↓State.stopsDone_fixed, ↓mk_fixed, ↓ite_fixed, ite_self, ↓st_ite]; done) | split | (simp only [↓State.count_fixed, ↓State.endAxis_fixed, ↓State.modAxis_fixed, ↓State.powerDown_fixed, ↓State.record_fixed, ↓State.stopsDone_fixed, ↓mk_fixed, ↓ite_fixed, ite_self, ↓st_ite]; split) | (simp only [↓State.count_fixed, ↓State.endAxis_fixed, ↓State.modAxis_fixed, ↓State.powerDown_fixed, ↓State.record_fixed, ↓State.stopsDone_fixed, ↓mk_fixed, ↓ite_fixed, ite_self, ↓st_ite]) | (with_reducible refine (foldl_fixed _ _ _ (fun _ _ => ?_)).trans ?_) | (with_reducible refine (foldl_pair_fixed _ _ _ (fun _ _ => ?_)).trans ?_) | dsimp only | (simp_all; done))

@[simp] theorem State.noteChatter_fixed (s : State) (n k : Nat) (x : AxisIn) : (State.noteChatter s n k x).1.fixed = s.fixed := by
  unfold State.noteChatter
  repeat' (first | (simp only [↓State.record_fixed, ↓mk_fixed, ↓ite_fixed, ite_self, ↓st_ite]; done) | split | (simp only [↓State.record_fixed, ↓mk_fixed, ↓ite_fixed, ite_self, ↓st_ite]; split) | (simp only [↓State.record_fixed, ↓mk_fixed, ↓ite_fixed, ite_self, ↓st_ite]) | (with_reducible refine (foldl_fixed _ _ _ (fun _ _ => ?_)).trans ?_) | (with_reducible refine (foldl_pair_fixed _ _ _ (fun _ _ => ?_)).trans ?_) | dsimp only | (simp_all; done))

@[simp] theorem execLimitQualify_fixed (n : Nat) (pos level : Bool) (heldUs : Nat) (s : State) : (after (execLimitQualify n pos level heldUs s) s).fixed = s.fixed := by
  unfold execLimitQualify
  repeat (first | rw [after_next] | rw [after_ite] | fail)
  repeat' (first | (simp only [↓State.clearLatches_fixed, ↓State.haltAxis_fixed, ↓State.homeFailed_fixed, ↓State.modAxis_fixed, ↓State.noteChatter_fixed, ↓State.record_fixed, ↓State.stopAxis_fixed, ↓State.stopsDone_fixed, ↓mk_fixed, ↓ite_fixed, ite_self, ↓st_ite]; done) | split | (simp only [↓State.clearLatches_fixed, ↓State.haltAxis_fixed, ↓State.homeFailed_fixed, ↓State.modAxis_fixed, ↓State.noteChatter_fixed, ↓State.record_fixed, ↓State.stopAxis_fixed, ↓State.stopsDone_fixed, ↓mk_fixed, ↓ite_fixed, ite_self, ↓st_ite]; split) | (simp only [↓State.clearLatches_fixed, ↓State.haltAxis_fixed, ↓State.homeFailed_fixed, ↓State.modAxis_fixed, ↓State.noteChatter_fixed, ↓State.record_fixed, ↓State.stopAxis_fixed, ↓State.stopsDone_fixed, ↓mk_fixed, ↓ite_fixed, ite_self, ↓st_ite]) | (simp only [pair_fixed ‹State.noteChatter _ _ _ _  = (_, _)› (State.noteChatter_fixed _ _ _ _ ), ↓State.clearLatches_fixed, ↓State.haltAxis_fixed, ↓State.homeFailed_fixed, ↓State.modAxis_fixed, ↓State.noteChatter_fixed, ↓State.record_fixed, ↓State.stopAxis_fixed, ↓State.stopsDone_fixed, ↓mk_fixed, ↓ite_fixed, ite_self, ↓st_ite]) | (with_reducible refine (foldl_fixed _ _ _ (fun _ _ => ?_)).trans ?_) | (with_reducible refine (foldl_pair_fixed _ _ _ (fun _ _ => ?_)).trans ?_) | dsimp only | (simp_all; done))

@[simp] theorem execHomeQualify_fixed (n : Nat) (level : Bool) (heldUs : Nat) (s : State) : (after (execHomeQualify n level heldUs s) s).fixed = s.fixed := by
  unfold execHomeQualify
  repeat (first | rw [after_next] | rw [after_ite] | fail)
  repeat' (first | (simp only [↓State.haltAxis_fixed, ↓State.modAxis_fixed, ↓State.noteChatter_fixed, ↓State.record_fixed, ↓State.stopAxis_fixed, ↓mk_fixed, ↓ite_fixed, ite_self, ↓st_ite]; done) | split | (simp only [↓State.haltAxis_fixed, ↓State.modAxis_fixed, ↓State.noteChatter_fixed, ↓State.record_fixed, ↓State.stopAxis_fixed, ↓mk_fixed, ↓ite_fixed, ite_self, ↓st_ite]; split) | (simp only [↓State.haltAxis_fixed, ↓State.modAxis_fixed, ↓State.noteChatter_fixed, ↓State.record_fixed, ↓State.stopAxis_fixed, ↓mk_fixed, ↓ite_fixed, ite_self, ↓st_ite]) | (simp only [pair_fixed ‹State.noteChatter _ _ _ _  = (_, _)› (State.noteChatter_fixed _ _ _ _ ), ↓State.haltAxis_fixed, ↓State.modAxis_fixed, ↓State.noteChatter_fixed, ↓State.record_fixed, ↓State.stopAxis_fixed, ↓mk_fixed, ↓ite_fixed, ite_self, ↓st_ite]) | (with_reducible refine (foldl_fixed _ _ _ (fun _ _ => ?_)).trans ?_) | (with_reducible refine (foldl_pair_fixed _ _ _ (fun _ _ => ?_)).trans ?_) | dsimp only | (simp_all; done))

@[simp] theorem execInhibitFreeze_fixed (line : Nat) (s : State) : (after (execInhibitFreeze line s) s).fixed = s.fixed := by
  unfold execInhibitFreeze
  repeat (first | rw [after_next] | rw [after_ite] | fail)
  repeat' (first | (simp only [↓State.freezeAxis_fixed, ↓State.stopsDone_fixed, ↓mk_fixed, ↓ite_fixed, ite_self, ↓st_ite]; done) | split | (simp only [↓State.freezeAxis_fixed, ↓State.stopsDone_fixed, ↓mk_fixed, ↓ite_fixed, ite_self, ↓st_ite]; split) | (simp only [↓State.freezeAxis_fixed, ↓State.stopsDone_fixed, ↓mk_fixed, ↓ite_fixed, ite_self, ↓st_ite]) | (with_reducible refine (foldl_fixed _ _ _ (fun _ _ => ?_)).trans ?_) | (with_reducible refine (foldl_pair_fixed _ _ _ (fun _ _ => ?_)).trans ?_) | dsimp only | (simp_all; done))

@[simp] theorem execPositionReadLatch_fixed (n : Nat) (s : State) : (after (execPositionReadLatch n s) s).fixed = s.fixed := by
  unfold execPositionReadLatch
  repeat (first | rw [after_next] | rw [after_ite] | fail)
  repeat' (first | (simp only [↓State.setNum64_fixed, ↓mk_fixed, ↓ite_fixed, ite_self, ↓st_ite]; done) | split | (simp only [↓State.setNum64_fixed, ↓mk_fixed, ↓ite_fixed, ite_self, ↓st_ite]; split) | (simp only [↓State.setNum64_fixed, ↓mk_fixed, ↓ite_fixed, ite_self, ↓st_ite]) | (with_reducible refine (foldl_fixed _ _ _ (fun _ _ => ?_)).trans ?_) | (with_reducible refine (foldl_pair_fixed _ _ _ (fun _ _ => ?_)).trans ?_) | dsimp only | (simp_all; done))

@[simp] theorem State.onAxis_fixed (s : State) (d : Desc) (body : Nat → Axis → CmdRes) (hbody : ∀ a0 a1, (body a0 a1).st.fixed = s.fixed) : (State.onAxis s d body).st.fixed = s.fixed := by
  unfold State.onAxis
  repeat' (first | (simp only [↓hbody, ↓State.fail_fixed, ↓mk_fixed, ↓ite_fixed, ite_self, ↓st_ite]; done) | split | (simp only [↓hbody, ↓State.fail_fixed, ↓mk_fixed, ↓ite_fixed, ite_self, ↓st_ite]; split) | (simp only [↓hbody, ↓State.fail_fixed, ↓mk_fixed, ↓ite_fixed, ite_self, ↓st_ite]) | (with_reducible refine (foldl_fixed _ _ _ (fun _ _ => ?_)).trans ?_) | (with_reducible refine (foldl_pair_fixed _ _ _ (fun _ _ => ?_)).trans ?_) | dsimp only | (simp_all; done))

@[simp] theorem execMotSegLoad_fixed (d : Desc) (s : State) : (after (execMotSegLoad d s) s).fixed = s.fixed := by
  unfold execMotSegLoad
  repeat (first | rw [after_next] | rw [after_ite] | fail)
  repeat' (first | (simp only [↓State.command_fixed, ↓State.count_fixed, ↓State.fail_fixed, ↓State.modAxis_fixed, ↓State.ok_fixed, ↓State.onAxis_fixed, ↓mk_fixed, ↓ite_fixed, ite_self, ↓st_ite]; done) | split | (simp only [↓State.command_fixed, ↓State.count_fixed, ↓State.fail_fixed, ↓State.modAxis_fixed, ↓State.ok_fixed, ↓State.onAxis_fixed, ↓mk_fixed, ↓ite_fixed, ite_self, ↓st_ite]; split) | (simp only [↓State.command_fixed, ↓State.count_fixed, ↓State.fail_fixed, ↓State.modAxis_fixed, ↓State.ok_fixed, ↓State.onAxis_fixed, ↓mk_fixed, ↓ite_fixed, ite_self, ↓st_ite]) | (with_reducible refine (State.command_fixed _ _ _ (fun _ => ?_)).trans ?_) | (with_reducible refine (State.onAxis_fixed _ _ _ (fun _ _ => ?_)).trans ?_) | (with_reducible refine (foldl_fixed _ _ _ (fun _ _ => ?_)).trans ?_) | (with_reducible refine (foldl_pair_fixed _ _ _ (fun _ _ => ?_)).trans ?_) | dsimp only | (simp_all; done))

@[simp] theorem execMotProfile_fixed (d : Desc) (s : State) : (after (execMotProfile d s) s).fixed = s.fixed := by
  unfold execMotProfile
  repeat (first | rw [after_next] | rw [after_ite] | fail)
  repeat' (first | (simp only [↓State.command_fixed, ↓State.fail_fixed, ↓State.later_fixed, ↓State.modAxis_fixed, ↓State.onAxis_fixed, ↓mk_fixed, ↓ite_fixed, ite_self, ↓st_ite]; done) | split | (simp only [↓State.command_fixed, ↓State.fail_fixed, ↓State.later_fixed, ↓State.modAxis_fixed, ↓State.onAxis_fixed, ↓mk_fixed, ↓ite_fixed, ite_self, ↓st_ite]; split) | (simp only [↓State.command_fixed, ↓State.fail_fixed, ↓State.later_fixed, ↓State.modAxis_fixed, ↓State.onAxis_fixed, ↓mk_fixed, ↓ite_fixed, ite_self, ↓st_ite]) | (with_reducible refine (State.command_fixed _ _ _ (fun _ => ?_)).trans ?_) | (with_reducible refine (State.onAxis_fixed _ _ _ (fun _ _ => ?_)).trans ?_) | (with_reducible refine (foldl_fixed _ _ _ (fun _ _ => ?_)).trans ?_) | (with_reducible refine (foldl_pair_fixed _ _ _ (fun _ _ => ?_)).trans ?_) | dsimp only | (simp_all; done))

@[simp] theorem execMotMove_fixed (d : Desc) (s : State) : (after (execMotMove d s) s).fixed = s.fixed := by
  unfold execMotMove
  repeat (first | rw [after_next] | rw [after_ite] | fail)
  repeat' (first | (simp only [↓State.command_fixed, ↓State.fail_fixed, ↓State.later_fixed, ↓State.modAxis_fixed, ↓State.onAxis_fixed, ↓mk_fixed, ↓ite_fixed, ite_self, ↓st_ite]; done) | split | (simp only [↓State.command_fixed, ↓State.fail_fixed, ↓State.later_fixed, ↓State.modAxis_fixed, ↓State.onAxis_fixed, ↓mk_fixed, ↓ite_fixed, ite_self, ↓st_ite]; split) | (simp only [↓State.command_fixed, ↓State.fail_fixed, ↓State.later_fixed, ↓State.modAxis_fixed, ↓State.onAxis_fixed, ↓mk_fixed, ↓ite_fixed, ite_self, ↓st_ite]) | (with_reducible refine (State.command_fixed _ _ _ (fun _ => ?_)).trans ?_) | (with_reducible refine (State.onAxis_fixed _ _ _ (fun _ _ => ?_)).trans ?_) | (with_reducible refine (foldl_fixed _ _ _ (fun _ _ => ?_)).trans ?_) | (with_reducible refine (foldl_pair_fixed _ _ _ (fun _ _ => ?_)).trans ?_) | dsimp only | (simp_all; done))

@[simp] theorem execMotRetune_fixed (d : Desc) (s : State) : (after (execMotRetune d s) s).fixed = s.fixed := by
  unfold execMotRetune
  repeat (first | rw [after_next] | rw [after_ite] | fail)
  repeat' (first | (simp only [↓State.command_fixed, ↓State.fail_fixed, ↓State.modAxis_fixed, ↓State.ok_fixed, ↓State.onAxis_fixed, ↓mk_fixed, ↓ite_fixed, ite_self, ↓st_ite]; done) | split | (simp only [↓State.command_fixed, ↓State.fail_fixed, ↓State.modAxis_fixed, ↓State.ok_fixed, ↓State.onAxis_fixed, ↓mk_fixed, ↓ite_fixed, ite_self, ↓st_ite]; split) | (simp only [↓State.command_fixed, ↓State.fail_fixed, ↓State.modAxis_fixed, ↓State.ok_fixed, ↓State.onAxis_fixed, ↓mk_fixed, ↓ite_fixed, ite_self, ↓st_ite]) | (with_reducible refine (State.command_fixed _ _ _ (fun _ => ?_)).trans ?_) | (with_reducible refine (State.onAxis_fixed _ _ _ (fun _ _ => ?_)).trans ?_) | (with_reducible refine (foldl_fixed _ _ _ (fun _ _ => ?_)).trans ?_) | (with_reducible refine (foldl_pair_fixed _ _ _ (fun _ _ => ?_)).trans ?_) | dsimp only | (simp_all; done))

@[simp] theorem execMotHome_fixed (d : Desc) (s : State) : (after (execMotHome d s) s).fixed = s.fixed := by
  unfold execMotHome
  repeat (first | rw [after_next] | rw [after_ite] | fail)
  repeat' (first | (simp only [↓State.command_fixed, ↓State.fail_fixed, ↓State.later_fixed, ↓State.modAxis_fixed, ↓State.onAxis_fixed, ↓State.record_fixed, ↓mk_fixed, ↓ite_fixed, ite_self, ↓st_ite]; done) | split | (simp only [↓State.command_fixed, ↓State.fail_fixed, ↓State.later_fixed, ↓State.modAxis_fixed, ↓State.onAxis_fixed, ↓State.record_fixed, ↓mk_fixed, ↓ite_fixed, ite_self, ↓st_ite]; split) | (simp only [↓State.command_fixed, ↓State.fail_fixed, ↓State.later_fixed, ↓State.modAxis_fixed, ↓State.onAxis_fixed, ↓State.record_fixed, ↓mk_fixed, ↓ite_fixed, ite_self, ↓st_ite]) | (with_reducible refine (State.command_fixed _ _ _ (fun _ => ?_)).trans ?_) | (with_reducible refine (State.onAxis_fixed _ _ _ (fun _ _ => ?_)).trans ?_) | (with_reducible refine (foldl_fixed _ _ _ (fun _ _ => ?_)).trans ?_) | (with_reducible refine (foldl_pair_fixed _ _ _ (fun _ _ => ?_)).trans ?_) | dsimp only | (simp_all; done))

@[simp] theorem execMotStop_fixed (d : Desc) (s : State) : (after (execMotStop d s) s).fixed = s.fixed := by
  unfold execMotStop
  repeat (first | rw [after_next] | rw [after_ite] | fail)
  repeat' (first | (simp only [↓State.command_fixed, ↓State.fail_fixed, ↓State.later_fixed, ↓State.ok_fixed, ↓State.setMot_fixed, ↓State.stopAxis_fixed, ↓mk_fixed, ↓ite_fixed, ite_self, ↓st_ite]; done) | split | (simp only [↓State.command_fixed, ↓State.fail_fixed, ↓State.later_fixed, ↓State.ok_fixed, ↓State.setMot_fixed, ↓State.stopAxis_fixed, ↓mk_fixed, ↓ite_fixed, ite_self, ↓st_ite]; split) | (simp only [↓State.command_fixed, ↓State.fail_fixed, ↓State.later_fixed, ↓State.ok_fixed, ↓State.setMot_fixed, ↓State.stopAxis_fixed, ↓mk_fixed, ↓ite_fixed, ite_self, ↓st_ite]) | (with_reducible refine (State.command_fixed _ _ _ (fun _ => ?_)).trans ?_) | (with_reducible refine (foldl_fixed _ _ _ (fun _ _ => ?_)).trans ?_) | (with_reducible refine (foldl_pair_fixed _ _ _ (fun _ _ => ?_)).trans ?_) | dsimp only | (simp_all; done))

@[simp] theorem execMotEnable_fixed (d : Desc) (s : State) : (after (execMotEnable d s) s).fixed = s.fixed := by
  unfold execMotEnable
  repeat (first | rw [after_next] | rw [after_ite] | fail)
  repeat' (first | (simp only [↓State.command_fixed, ↓State.endAxis_fixed, ↓State.fail_fixed, ↓State.modAxis_fixed, ↓State.ok_fixed, ↓State.powerDown_fixed, ↓State.stopsDone_fixed, ↓mk_fixed, ↓ite_fixed, ite_self, ↓st_ite]; done) | split | (simp only [↓State.command_fixed, ↓State.endAxis_fixed, ↓State.fail_fixed, ↓State.modAxis_fixed, ↓State.ok_fixed, ↓State.powerDown_fixed, ↓State.stopsDone_fixed, ↓mk_fixed, ↓ite_fixed, ite_self, ↓st_ite]; split) | (simp only [↓State.command_fixed, ↓State.endAxis_fixed, ↓State.fail_fixed, ↓State.modAxis_fixed, ↓State.ok_fixed, ↓State.powerDown_fixed, ↓State.stopsDone_fixed, ↓mk_fixed, ↓ite_fixed, ite_self, ↓st_ite]) | (with_reducible refine (State.command_fixed _ _ _ (fun _ => ?_)).trans ?_) | (with_reducible refine (foldl_fixed _ _ _ (fun _ _ => ?_)).trans ?_) | (with_reducible refine (foldl_pair_fixed _ _ _ (fun _ _ => ?_)).trans ?_) | dsimp only | (simp_all; done))

@[simp] theorem execMotSetPos_fixed (d : Desc) (s : State) : (after (execMotSetPos d s) s).fixed = s.fixed := by
  unfold execMotSetPos
  repeat (first | rw [after_next] | rw [after_ite] | fail)
  repeat' (first | (simp only [↓State.command_fixed, ↓State.fail_fixed, ↓State.modAxis_fixed, ↓State.ok_fixed, ↓State.onAxis_fixed, ↓mk_fixed, ↓ite_fixed, ite_self, ↓st_ite]; done) | split | (simp only [↓State.command_fixed, ↓State.fail_fixed, ↓State.modAxis_fixed, ↓State.ok_fixed, ↓State.onAxis_fixed, ↓mk_fixed, ↓ite_fixed, ite_self, ↓st_ite]; split) | (simp only [↓State.command_fixed, ↓State.fail_fixed, ↓State.modAxis_fixed, ↓State.ok_fixed, ↓State.onAxis_fixed, ↓mk_fixed, ↓ite_fixed, ite_self, ↓st_ite]) | (with_reducible refine (State.command_fixed _ _ _ (fun _ => ?_)).trans ?_) | (with_reducible refine (State.onAxis_fixed _ _ _ (fun _ _ => ?_)).trans ?_) | (with_reducible refine (foldl_fixed _ _ _ (fun _ _ => ?_)).trans ?_) | (with_reducible refine (foldl_pair_fixed _ _ _ (fun _ _ => ?_)).trans ?_) | dsimp only | (simp_all; done))

@[simp] theorem execMotQuery_fixed (d : Desc) (s : State) : (after (execMotQuery d s) s).fixed = s.fixed := by
  unfold execMotQuery
  repeat (first | rw [after_next] | rw [after_ite] | fail)
  repeat' (first | (simp only [↓State.answer_fixed, ↓State.command_fixed, ↓State.onAxis_fixed, ↓mk_fixed, ↓ite_fixed, ite_self, ↓st_ite]; done) | split | (simp only [↓State.answer_fixed, ↓State.command_fixed, ↓State.onAxis_fixed, ↓mk_fixed, ↓ite_fixed, ite_self, ↓st_ite]; split) | (simp only [↓State.answer_fixed, ↓State.command_fixed, ↓State.onAxis_fixed, ↓mk_fixed, ↓ite_fixed, ite_self, ↓st_ite]) | (with_reducible refine (State.command_fixed _ _ _ (fun _ => ?_)).trans ?_) | (with_reducible refine (State.onAxis_fixed _ _ _ (fun _ _ => ?_)).trans ?_) | (with_reducible refine (foldl_fixed _ _ _ (fun _ _ => ?_)).trans ?_) | (with_reducible refine (foldl_pair_fixed _ _ _ (fun _ _ => ?_)).trans ?_) | dsimp only | (simp_all; done))

end Sys2Proof.Machine
end

