-- ==== Sys2Proof/Laws/FixedLoops.lean ====
section
/-! SUPPORT. What the operations of Machine/Loops.lean leave alone (Laws/Fixed.lean). -/

set_option linter.all false

namespace Sys2Proof.Machine

open Sys2Proof

@[simp] theorem State.modLoop_fixed (s : State) (n : Nat) (f : Loop → Loop) : (State.modLoop s n f).fixed = s.fixed := by
  unfold State.modLoop
  repeat' (first | (simp only [↓State.setLop_fixed, ↓mk_fixed, ↓ite_fixed, ite_self, ↓st_ite]; done) | split | (simp only [↓State.setLop_fixed, ↓mk_fixed, ↓ite_fixed, ite_self, ↓st_ite]; split) | (simp only [↓State.setLop_fixed, ↓mk_fixed, ↓ite_fixed, ite_self, ↓st_ite]) | (with_reducible refine (foldl_fixed _ _ _ (fun _ _ => ?_)).trans ?_) | (with_reducible refine (foldl_pair_fixed _ _ _ (fun _ _ => ?_)).trans ?_) | dsimp only | (simp_all; done))

@[simp] theorem State.modTrace_fixed (s : State) (t : Nat) (f : Trace → Trace) : (State.modTrace s t f).fixed = s.fixed := by
  unfold State.modTrace
  repeat' (first | (simp only [↓State.setLop_fixed, ↓mk_fixed, ↓ite_fixed, ite_self, ↓st_ite]; done) | split | (simp only [↓State.setLop_fixed, ↓mk_fixed, ↓ite_fixed, ite_self, ↓st_ite]; split) | (simp only [↓State.setLop_fixed, ↓mk_fixed, ↓ite_fixed, ite_self, ↓st_ite]) | (with_reducible refine (foldl_fixed _ _ _ (fun _ _ => ?_)).trans ?_) | (with_reducible refine (foldl_pair_fixed _ _ _ (fun _ _ => ?_)).trans ?_) | dsimp only | (simp_all; done))

@[simp] theorem State.showLoop_fixed (s : State) (n : Nat) : (State.showLoop s n).fixed = s.fixed := by
  unfold State.showLoop
  repeat' (first | (simp only [↓State.setNum_fixed, ↓mk_fixed, ↓ite_fixed, ite_self, ↓st_ite]; done) | split | (simp only [↓State.setNum_fixed, ↓mk_fixed, ↓ite_fixed, ite_self, ↓st_ite]; split) | (simp only [↓State.setNum_fixed, ↓mk_fixed, ↓ite_fixed, ite_self, ↓st_ite]) | (with_reducible refine (foldl_fixed _ _ _ (fun _ _ => ?_)).trans ?_) | (with_reducible refine (foldl_pair_fixed _ _ _ (fun _ _ => ?_)).trans ?_) | dsimp only | (simp_all; done))

@[simp] theorem State.loopSend_fixed (s : State) (n : Nat) : (State.loopSend s n).fixed = s.fixed := by
  unfold State.loopSend
  repeat' (first | (simp only [↓State.modLoop_fixed, ↓State.setLop_fixed, ↓mk_fixed, ↓ite_fixed, ite_self, ↓st_ite]; done) | split | (simp only [↓State.modLoop_fixed, ↓State.setLop_fixed, ↓mk_fixed, ↓ite_fixed, ite_self, ↓st_ite]; split) | (simp only [↓State.modLoop_fixed, ↓State.setLop_fixed, ↓mk_fixed, ↓ite_fixed, ite_self, ↓st_ite]) | (with_reducible refine (foldl_fixed _ _ _ (fun _ _ => ?_)).trans ?_) | (with_reducible refine (foldl_pair_fixed _ _ _ (fun _ _ => ?_)).trans ?_) | dsimp only | (simp_all; done))

@[simp] theorem State.loopInputs_fixed (s : State) : (State.loopInputs s).fixed = s.fixed := by
  unfold State.loopInputs
  repeat' (first | (simp only [↓State.actuate_fixed, ↓State.logInput_fixed, ↓State.setLop_fixed, ↓mk_fixed, ↓ite_fixed, ite_self, ↓st_ite]; done) | split | (simp only [↓State.actuate_fixed, ↓State.logInput_fixed, ↓State.setLop_fixed, ↓mk_fixed, ↓ite_fixed, ite_self, ↓st_ite]; split) | (simp only [↓State.actuate_fixed, ↓State.logInput_fixed, ↓State.setLop_fixed, ↓mk_fixed, ↓ite_fixed, ite_self, ↓st_ite]) | (with_reducible refine (foldl_fixed _ _ _ (fun _ _ => ?_)).trans ?_) | (with_reducible refine (foldl_pair_fixed _ _ _ (fun _ _ => ?_)).trans ?_) | dsimp only | (simp_all; done))

@[simp] theorem State.showTrace_fixed (s : State) (t : Nat) : (State.showTrace s t).fixed = s.fixed := by
  unfold State.showTrace
  repeat' (first | (simp only [↓State.setNum_fixed, ↓mk_fixed, ↓ite_fixed, ite_self, ↓st_ite]; done) | split | (simp only [↓State.setNum_fixed, ↓mk_fixed, ↓ite_fixed, ite_self, ↓st_ite]; split) | (simp only [↓State.setNum_fixed, ↓mk_fixed, ↓ite_fixed, ite_self, ↓st_ite]) | (with_reducible refine (foldl_fixed _ _ _ (fun _ _ => ?_)).trans ?_) | (with_reducible refine (foldl_pair_fixed _ _ _ (fun _ _ => ?_)).trans ?_) | dsimp only | (simp_all; done))

@[simp] theorem State.traceRun_fixed (s : State) (n : Nat) (modeChanged : Bool) (t : Nat) : (State.traceRun s n modeChanged t).fixed = s.fixed := by
  unfold State.traceRun
  repeat' (first | (simp only [↓State.modTrace_fixed, ↓State.record_fixed, ↓State.showTrace_fixed, ↓mk_fixed, ↓ite_fixed, ite_self, ↓st_ite]; done) | split | (simp only [↓State.modTrace_fixed, ↓State.record_fixed, ↓State.showTrace_fixed, ↓mk_fixed, ↓ite_fixed, ite_self, ↓st_ite]; split) | (simp only [↓State.modTrace_fixed, ↓State.record_fixed, ↓State.showTrace_fixed, ↓mk_fixed, ↓ite_fixed, ite_self, ↓st_ite]) | (with_reducible refine (foldl_fixed _ _ _ (fun _ _ => ?_)).trans ?_) | (with_reducible refine (foldl_pair_fixed _ _ _ (fun _ _ => ?_)).trans ?_) | dsimp only | (simp_all; done))

@[simp] theorem State.traceAll_fixed (s : State) (n : Nat) (modeChanged : Bool) : (State.traceAll s n modeChanged).fixed = s.fixed := by
  unfold State.traceAll
  repeat' (first | (simp only [↓State.traceRun_fixed, ↓mk_fixed, ↓ite_fixed, ite_self, ↓st_ite]; done) | split | (simp only [↓State.traceRun_fixed, ↓mk_fixed, ↓ite_fixed, ite_self, ↓st_ite]; split) | (simp only [↓State.traceRun_fixed, ↓mk_fixed, ↓ite_fixed, ite_self, ↓st_ite]) | (with_reducible refine (foldl_fixed _ _ _ (fun _ _ => ?_)).trans ?_) | (with_reducible refine (foldl_pair_fixed _ _ _ (fun _ _ => ?_)).trans ?_) | dsimp only | (simp_all; done))

@[simp] theorem State.takeMode_fixed (s : State) (n : Nat) : (State.takeMode s n).fixed = s.fixed := by
  unfold State.takeMode
  repeat' (first | (simp only [↓State.modLoop_fixed, ↓State.record_fixed, ↓mk_fixed, ↓ite_fixed, ite_self, ↓st_ite]; done) | split | (simp only [↓State.modLoop_fixed, ↓State.record_fixed, ↓mk_fixed, ↓ite_fixed, ite_self, ↓st_ite]; split) | (simp only [↓State.modLoop_fixed, ↓State.record_fixed, ↓mk_fixed, ↓ite_fixed, ite_self, ↓st_ite]) | (with_reducible refine (foldl_fixed _ _ _ (fun _ _ => ?_)).trans ?_) | (with_reducible refine (foldl_pair_fixed _ _ _ (fun _ _ => ?_)).trans ?_) | dsimp only | (simp_all; done))

@[simp] theorem State.takeLoopReq_fixed (s : State) (n : Nat) (x0 : LoopReq) : (State.takeLoopReq s n x0).fixed = s.fixed := by
  unfold State.takeLoopReq
  repeat' (first | (simp only [↓State.modLoop_fixed, ↓State.setNum_fixed, ↓mk_fixed, ↓ite_fixed, ite_self, ↓st_ite]; done) | split | (simp only [↓State.modLoop_fixed, ↓State.setNum_fixed, ↓mk_fixed, ↓ite_fixed, ite_self, ↓st_ite]; split) | (simp only [↓State.modLoop_fixed, ↓State.setNum_fixed, ↓mk_fixed, ↓ite_fixed, ite_self, ↓st_ite]) | (with_reducible refine (foldl_fixed _ _ _ (fun _ _ => ?_)).trans ?_) | (with_reducible refine (foldl_pair_fixed _ _ _ (fun _ _ => ?_)).trans ?_) | dsimp only | (simp_all; done))

@[simp] theorem State.heldRun_fixed (s : State) (n cause : Nat) : (State.heldRun s n cause).fixed = s.fixed := by
  unfold State.heldRun
  repeat' (first | (simp only [↓State.count_fixed, ↓State.modLoop_fixed, ↓State.record_fixed, ↓State.takeMode_fixed, ↓mk_fixed, ↓ite_fixed, ite_self, ↓st_ite]; done) | split | (simp only [↓State.count_fixed, ↓State.modLoop_fixed, ↓State.record_fixed, ↓State.takeMode_fixed, ↓mk_fixed, ↓ite_fixed, ite_self, ↓st_ite]; split) | (simp only [↓State.count_fixed, ↓State.modLoop_fixed, ↓State.record_fixed, ↓State.takeMode_fixed, ↓mk_fixed, ↓ite_fixed, ite_self, ↓st_ite]) | (with_reducible refine (foldl_fixed _ _ _ (fun _ _ => ?_)).trans ?_) | (with_reducible refine (foldl_pair_fixed _ _ _ (fun _ _ => ?_)).trans ?_) | dsimp only | (simp_all; done))

@[simp] theorem State.runLaw_fixed (s : State) (n : Nat) : (State.runLaw s n).fixed = s.fixed := by
  unfold State.runLaw
  repeat' (first | (simp only [↓State.heldRun_fixed, ↓State.loopSend_fixed, ↓State.modLoop_fixed, ↓State.record_fixed, ↓State.showLoop_fixed, ↓mk_fixed, ↓ite_fixed, ite_self, ↓st_ite]; done) | split | (simp only [↓State.heldRun_fixed, ↓State.loopSend_fixed, ↓State.modLoop_fixed, ↓State.record_fixed, ↓State.showLoop_fixed, ↓mk_fixed, ↓ite_fixed, ite_self, ↓st_ite]; split) | (simp only [↓State.heldRun_fixed, ↓State.loopSend_fixed, ↓State.modLoop_fixed, ↓State.record_fixed, ↓State.showLoop_fixed, ↓mk_fixed, ↓ite_fixed, ite_self, ↓st_ite]) | (with_reducible refine (foldl_fixed _ _ _ (fun _ _ => ?_)).trans ?_) | (with_reducible refine (foldl_pair_fixed _ _ _ (fun _ _ => ?_)).trans ?_) | dsimp only | (simp_all; done))

@[simp] theorem State.endReqs_fixed (s : State) (n : Nat) (reqs : List (Desc × LoopReq)) : (State.endReqs s n reqs).fixed = s.fixed := by
  unfold State.endReqs
  repeat' (first | (simp only [↓State.finish_fixed, ↓State.modLoop_fixed, ↓State.ok_fixed, ↓mk_fixed, ↓ite_fixed, ite_self, ↓st_ite]; done) | split | (simp only [↓State.finish_fixed, ↓State.modLoop_fixed, ↓State.ok_fixed, ↓mk_fixed, ↓ite_fixed, ite_self, ↓st_ite]; split) | (simp only [↓State.finish_fixed, ↓State.modLoop_fixed, ↓State.ok_fixed, ↓mk_fixed, ↓ite_fixed, ite_self, ↓st_ite]) | (with_reducible refine (foldl_fixed _ _ _ (fun _ _ => ?_)).trans ?_) | (with_reducible refine (foldl_pair_fixed _ _ _ (fun _ _ => ?_)).trans ?_) | dsimp only | (simp_all; done))

@[simp] theorem execLoopRun_fixed (n : Nat) (s : State) : (after (execLoopRun n s) s).fixed = s.fixed := by
  unfold execLoopRun
  repeat (first | rw [after_next] | rw [after_ite] | fail)
  repeat' (first | (simp only [↓State.endReqs_fixed, ↓State.heldRun_fixed, ↓State.modLoop_fixed, ↓State.record_fixed, ↓State.runLaw_fixed, ↓State.runWork_fixed, ↓State.showLoop_fixed, ↓State.takeLoopReq_fixed, ↓State.takeMode_fixed, ↓State.traceAll_fixed, ↓mk_fixed, ↓ite_fixed, ite_self, ↓st_ite]; done) | split | (simp only [↓State.endReqs_fixed, ↓State.heldRun_fixed, ↓State.modLoop_fixed, ↓State.record_fixed, ↓State.runLaw_fixed, ↓State.runWork_fixed, ↓State.showLoop_fixed, ↓State.takeLoopReq_fixed, ↓State.takeMode_fixed, ↓State.traceAll_fixed, ↓mk_fixed, ↓ite_fixed, ite_self, ↓st_ite]; split) | (simp only [↓State.endReqs_fixed, ↓State.heldRun_fixed, ↓State.modLoop_fixed, ↓State.record_fixed, ↓State.runLaw_fixed, ↓State.runWork_fixed, ↓State.showLoop_fixed, ↓State.takeLoopReq_fixed, ↓State.takeMode_fixed, ↓State.traceAll_fixed, ↓mk_fixed, ↓ite_fixed, ite_self, ↓st_ite]) | (with_reducible refine (State.runWork_fixed _ _ _ _ (fun _ => ?_)).trans ?_) | (with_reducible refine (foldl_fixed _ _ _ (fun _ _ => ?_)).trans ?_) | (with_reducible refine (foldl_pair_fixed _ _ _ (fun _ _ => ?_)).trans ?_) | dsimp only | (simp_all; done))

@[simp] theorem State.loopOverrun_fixed (s : State) (n : Nat) : (State.loopOverrun s n).fixed = s.fixed := by
  unfold State.loopOverrun
  repeat' (first | (simp only [↓State.heldRun_fixed, ↓State.modLoop_fixed, ↓State.showLoop_fixed, ↓State.traceAll_fixed, ↓mk_fixed, ↓ite_fixed, ite_self, ↓st_ite]; done) | split | (simp only [↓State.heldRun_fixed, ↓State.modLoop_fixed, ↓State.showLoop_fixed, ↓State.traceAll_fixed, ↓mk_fixed, ↓ite_fixed, ite_self, ↓st_ite]; split) | (simp only [↓State.heldRun_fixed, ↓State.modLoop_fixed, ↓State.showLoop_fixed, ↓State.traceAll_fixed, ↓mk_fixed, ↓ite_fixed, ite_self, ↓st_ite]) | (with_reducible refine (foldl_fixed _ _ _ (fun _ _ => ?_)).trans ?_) | (with_reducible refine (foldl_pair_fixed _ _ _ (fun _ _ => ?_)).trans ?_) | dsimp only | (simp_all; done))

@[simp] theorem State.loopsStart_fixed (s : State) : (State.loopsStart s).fixed = s.fixed := by
  unfold State.loopsStart
  repeat' (first | (simp only [↓State.modLoop_fixed, ↓State.showLoop_fixed, ↓mk_fixed, ↓ite_fixed, ite_self, ↓st_ite]; done) | split | (simp only [↓State.modLoop_fixed, ↓State.showLoop_fixed, ↓mk_fixed, ↓ite_fixed, ite_self, ↓st_ite]; split) | (simp only [↓State.modLoop_fixed, ↓State.showLoop_fixed, ↓mk_fixed, ↓ite_fixed, ite_self, ↓st_ite]) | (with_reducible refine (foldl_fixed _ _ _ (fun _ _ => ?_)).trans ?_) | (with_reducible refine (foldl_pair_fixed _ _ _ (fun _ _ => ?_)).trans ?_) | dsimp only | (simp_all; done))

@[simp] theorem State.sampleAi_fixed (s : State) (codes : List Int) : (State.sampleAi s codes).fixed = s.fixed := by
  unfold State.sampleAi
  repeat' (first | (simp only [↓State.record_fixed, ↓State.setLop_fixed, ↓State.setNum_fixed, ↓mk_fixed, ↓ite_fixed, ite_self, ↓st_ite]; done) | split | (simp only [↓State.record_fixed, ↓State.setLop_fixed, ↓State.setNum_fixed, ↓mk_fixed, ↓ite_fixed, ite_self, ↓st_ite]; split) | (simp only [↓State.record_fixed, ↓State.setLop_fixed, ↓State.setNum_fixed, ↓mk_fixed, ↓ite_fixed, ite_self, ↓st_ite]) | (with_reducible refine (foldl_fixed _ _ _ (fun _ _ => ?_)).trans ?_) | (with_reducible refine (foldl_pair_fixed _ _ _ (fun _ _ => ?_)).trans ?_) | dsimp only | (simp_all; done))

@[simp] theorem State.loopsEdge_fixed (s : State) (codes : List Int) : (State.loopsEdge s codes).fixed = s.fixed := by
  unfold State.loopsEdge
  repeat' (first | (simp only [↓State.drivePwm_fixed, ↓State.modLoop_fixed, ↓State.sampleAi_fixed, ↓State.setLop_fixed, ↓State.setSpeed_fixed, ↓mk_fixed, ↓ite_fixed, ite_self, ↓st_ite]; done) | split | (simp only [↓State.drivePwm_fixed, ↓State.modLoop_fixed, ↓State.sampleAi_fixed, ↓State.setLop_fixed, ↓State.setSpeed_fixed, ↓mk_fixed, ↓ite_fixed, ite_self, ↓st_ite]; split) | (simp only [↓State.drivePwm_fixed, ↓State.modLoop_fixed, ↓State.sampleAi_fixed, ↓State.setLop_fixed, ↓State.setSpeed_fixed, ↓mk_fixed, ↓ite_fixed, ite_self, ↓st_ite]) | (with_reducible refine (foldl_fixed _ _ _ (fun _ _ => ?_)).trans ?_) | (with_reducible refine (foldl_pair_fixed _ _ _ (fun _ _ => ?_)).trans ?_) | dsimp only | (simp_all; done))

@[simp] theorem State.onLoop_fixed (s : State) (d : Desc) (body : Nat → Loop → CmdRes) (hbody : ∀ a0 a1, (body a0 a1).st.fixed = s.fixed) : (State.onLoop s d body).st.fixed = s.fixed := by
  unfold State.onLoop
  repeat' (first | (simp only [↓hbody, ↓State.fail_fixed, ↓mk_fixed, ↓ite_fixed, ite_self, ↓st_ite]; done) | split | (simp only [↓hbody, ↓State.fail_fixed, ↓mk_fixed, ↓ite_fixed, ite_self, ↓st_ite]; split) | (simp only [↓hbody, ↓State.fail_fixed, ↓mk_fixed, ↓ite_fixed, ite_self, ↓st_ite]) | (with_reducible refine (foldl_fixed _ _ _ (fun _ _ => ?_)).trans ?_) | (with_reducible refine (foldl_pair_fixed _ _ _ (fun _ _ => ?_)).trans ?_) | dsimp only | (simp_all; done))

@[simp] theorem State.askLoop_fixed (s : State) (n : Nat) (d : Desc) (r : LoopReq) : (State.askLoop s n d r).st.fixed = s.fixed := by
  unfold State.askLoop
  repeat' (first | (simp only [↓State.later_fixed, ↓State.modLoop_fixed, ↓mk_fixed, ↓ite_fixed, ite_self, ↓st_ite]; done) | split | (simp only [↓State.later_fixed, ↓State.modLoop_fixed, ↓mk_fixed, ↓ite_fixed, ite_self, ↓st_ite]; split) | (simp only [↓State.later_fixed, ↓State.modLoop_fixed, ↓mk_fixed, ↓ite_fixed, ite_self, ↓st_ite]) | (with_reducible refine (foldl_fixed _ _ _ (fun _ _ => ?_)).trans ?_) | (with_reducible refine (foldl_pair_fixed _ _ _ (fun _ _ => ?_)).trans ?_) | dsimp only | (simp_all; done))

@[simp] theorem execLopMode_fixed (d : Desc) (s : State) : (after (execLopMode d s) s).fixed = s.fixed := by
  unfold execLopMode
  repeat (first | rw [after_next] | rw [after_ite] | fail)
  repeat' (first | (simp only [↓State.askLoop_fixed, ↓State.command_fixed, ↓State.onLoop_fixed, ↓mk_fixed, ↓ite_fixed, ite_self, ↓st_ite]; done) | split | (simp only [↓State.askLoop_fixed, ↓State.command_fixed, ↓State.onLoop_fixed, ↓mk_fixed, ↓ite_fixed, ite_self, ↓st_ite]; split) | (simp only [↓State.askLoop_fixed, ↓State.command_fixed, ↓State.onLoop_fixed, ↓mk_fixed, ↓ite_fixed, ite_self, ↓st_ite]) | (with_reducible refine (State.command_fixed _ _ _ (fun _ => ?_)).trans ?_) | (with_reducible refine (State.onLoop_fixed _ _ _ (fun _ _ => ?_)).trans ?_) | (with_reducible refine (foldl_fixed _ _ _ (fun _ _ => ?_)).trans ?_) | (with_reducible refine (foldl_pair_fixed _ _ _ (fun _ _ => ?_)).trans ?_) | dsimp only | (simp_all; done))

@[simp] theorem execLopSetpoint_fixed (d : Desc) (s : State) : (after (execLopSetpoint d s) s).fixed = s.fixed := by
  unfold execLopSetpoint
  repeat (first | rw [after_next] | rw [after_ite] | fail)
  repeat' (first | (simp only [↓State.askLoop_fixed, ↓State.command_fixed, ↓State.fail_fixed, ↓State.onLoop_fixed, ↓mk_fixed, ↓ite_fixed, ite_self, ↓st_ite]; done) | split | (simp only [↓State.askLoop_fixed, ↓State.command_fixed, ↓State.fail_fixed, ↓State.onLoop_fixed, ↓mk_fixed, ↓ite_fixed, ite_self, ↓st_ite]; split) | (simp only [↓State.askLoop_fixed, ↓State.command_fixed, ↓State.fail_fixed, ↓State.onLoop_fixed, ↓mk_fixed, ↓ite_fixed, ite_self, ↓st_ite]) | (with_reducible refine (State.command_fixed _ _ _ (fun _ => ?_)).trans ?_) | (with_reducible refine (State.onLoop_fixed _ _ _ (fun _ _ => ?_)).trans ?_) | (with_reducible refine (foldl_fixed _ _ _ (fun _ _ => ?_)).trans ?_) | (with_reducible refine (foldl_pair_fixed _ _ _ (fun _ _ => ?_)).trans ?_) | dsimp only | (simp_all; done))

@[simp] theorem execLopTune_fixed (d : Desc) (s : State) : (after (execLopTune d s) s).fixed = s.fixed := by
  unfold execLopTune
  repeat (first | rw [after_next] | rw [after_ite] | fail)
  repeat' (first | (simp only [↓State.askLoop_fixed, ↓State.command_fixed, ↓State.fail_fixed, ↓State.onLoop_fixed, ↓mk_fixed, ↓ite_fixed, ite_self, ↓st_ite]; done) | split | (simp only [↓State.askLoop_fixed, ↓State.command_fixed, ↓State.fail_fixed, ↓State.onLoop_fixed, ↓mk_fixed, ↓ite_fixed, ite_self, ↓st_ite]; split) | (simp only [↓State.askLoop_fixed, ↓State.command_fixed, ↓State.fail_fixed, ↓State.onLoop_fixed, ↓mk_fixed, ↓ite_fixed, ite_self, ↓st_ite]) | (with_reducible refine (State.command_fixed _ _ _ (fun _ => ?_)).trans ?_) | (with_reducible refine (State.onLoop_fixed _ _ _ (fun _ _ => ?_)).trans ?_) | (with_reducible refine (foldl_fixed _ _ _ (fun _ _ => ?_)).trans ?_) | (with_reducible refine (foldl_pair_fixed _ _ _ (fun _ _ => ?_)).trans ?_) | dsimp only | (simp_all; done))

@[simp] theorem execLopQuery_fixed (d : Desc) (s : State) : (after (execLopQuery d s) s).fixed = s.fixed := by
  unfold execLopQuery
  repeat (first | rw [after_next] | rw [after_ite] | fail)
  repeat' (first | (simp only [↓State.answer_fixed, ↓State.command_fixed, ↓State.onLoop_fixed, ↓mk_fixed, ↓ite_fixed, ite_self, ↓st_ite]; done) | split | (simp only [↓State.answer_fixed, ↓State.command_fixed, ↓State.onLoop_fixed, ↓mk_fixed, ↓ite_fixed, ite_self, ↓st_ite]; split) | (simp only [↓State.answer_fixed, ↓State.command_fixed, ↓State.onLoop_fixed, ↓mk_fixed, ↓ite_fixed, ite_self, ↓st_ite]) | (with_reducible refine (State.command_fixed _ _ _ (fun _ => ?_)).trans ?_) | (with_reducible refine (State.onLoop_fixed _ _ _ (fun _ _ => ?_)).trans ?_) | (with_reducible refine (foldl_fixed _ _ _ (fun _ _ => ?_)).trans ?_) | (with_reducible refine (foldl_pair_fixed _ _ _ (fun _ _ => ?_)).trans ?_) | dsimp only | (simp_all; done))

@[simp] theorem execLopTraceArm_fixed (d : Desc) (s : State) : (after (execLopTraceArm d s) s).fixed = s.fixed := by
  unfold execLopTraceArm
  repeat (first | rw [after_next] | rw [after_ite] | fail)
  repeat' (first | (simp only [↓State.command_fixed, ↓State.modTrace_fixed, ↓State.ok_fixed, ↓State.showTrace_fixed, ↓mk_fixed, ↓ite_fixed, ite_self, ↓st_ite]; done) | split | (simp only [↓State.command_fixed, ↓State.modTrace_fixed, ↓State.ok_fixed, ↓State.showTrace_fixed, ↓mk_fixed, ↓ite_fixed, ite_self, ↓st_ite]; split) | (simp only [↓State.command_fixed, ↓State.modTrace_fixed, ↓State.ok_fixed, ↓State.showTrace_fixed, ↓mk_fixed, ↓ite_fixed, ite_self, ↓st_ite]) | (with_reducible refine (State.command_fixed _ _ _ (fun _ => ?_)).trans ?_) | (with_reducible refine (foldl_fixed _ _ _ (fun _ _ => ?_)).trans ?_) | (with_reducible refine (foldl_pair_fixed _ _ _ (fun _ _ => ?_)).trans ?_) | dsimp only | (simp_all; done))

@[simp] theorem execLopTraceRead_fixed (d : Desc) (s : State) : (after (execLopTraceRead d s) s).fixed = s.fixed := by
  unfold execLopTraceRead
  repeat (first | rw [after_next] | rw [after_ite] | fail)
  repeat' (first | (simp only [↓State.answer_fixed, ↓State.command_fixed, ↓State.count_fixed, ↓mk_fixed, ↓ite_fixed, ite_self, ↓st_ite]; done) | split | (simp only [↓State.answer_fixed, ↓State.command_fixed, ↓State.count_fixed, ↓mk_fixed, ↓ite_fixed, ite_self, ↓st_ite]; split) | (simp only [↓State.answer_fixed, ↓State.command_fixed, ↓State.count_fixed, ↓mk_fixed, ↓ite_fixed, ite_self, ↓st_ite]) | (with_reducible refine (State.command_fixed _ _ _ (fun _ => ?_)).trans ?_) | (with_reducible refine (foldl_fixed _ _ _ (fun _ _ => ?_)).trans ?_) | (with_reducible refine (foldl_pair_fixed _ _ _ (fun _ _ => ?_)).trans ?_) | dsimp only | (simp_all; done))

end Sys2Proof.Machine
end

