-- ==== Sys2Proof/Laws/FixedMeshNet.lean ====
section
/-! SUPPORT. What the operations of Machine/MeshNet.lean leave alone (Laws/Fixed.lean). -/

set_option linter.all false

namespace Sys2Proof.Machine

open Sys2Proof

@[simp] theorem State.sendSched_fixed (s : State) (i : Nat) (changed : Bool) : (State.sendSched s i changed).fixed = s.fixed := by
  unfold State.sendSched
  repeat' (first | (simp only [↓State.count_fixed, ↓State.meshSend_fixed, ↓State.modNode_fixed, ↓mk_fixed, ↓ite_fixed, ite_self, ↓st_ite]; done) | split | (simp only [↓State.count_fixed, ↓State.meshSend_fixed, ↓State.modNode_fixed, ↓mk_fixed, ↓ite_fixed, ite_self, ↓st_ite]; split) | (simp only [↓State.count_fixed, ↓State.meshSend_fixed, ↓State.modNode_fixed, ↓mk_fixed, ↓ite_fixed, ite_self, ↓st_ite]) | (with_reducible refine (foldl_fixed _ _ _ (fun _ _ => ?_)).trans ?_) | (with_reducible refine (foldl_pair_fixed _ _ _ (fun _ _ => ?_)).trans ?_) | dsimp only | (simp_all; done))

@[simp] theorem State.sendChanged_fixed (s : State) (old : List (Nat × List SchedCell)) : (State.sendChanged s old).fixed = s.fixed := by
  unfold State.sendChanged
  repeat' (first | (simp only [↓State.sendSched_fixed, ↓mk_fixed, ↓ite_fixed, ite_self, ↓st_ite]; done) | split | (simp only [↓State.sendSched_fixed, ↓mk_fixed, ↓ite_fixed, ite_self, ↓st_ite]; split) | (simp only [↓State.sendSched_fixed, ↓mk_fixed, ↓ite_fixed, ite_self, ↓st_ite]) | (with_reducible refine (foldl_fixed _ _ _ (fun _ _ => ?_)).trans ?_) | (with_reducible refine (foldl_pair_fixed _ _ _ (fun _ _ => ?_)).trans ?_) | dsimp only | (simp_all; done))

theorem State.assignCells_fixed (s : State) (i : Nat) {t} (h : State.assignCells s i = some t) : t.fixed = s.fixed := by
  unfold State.assignCells at h
  dsimp only at h
  repeat' split at h
  all_goals first | (cases h; done) | (cases h; simp only [State.setNode_fixed])

@[simp] theorem State.showDesc_fixed (s : State) : (State.showDesc s).fixed = s.fixed := by
  unfold State.showDesc
  repeat' (first | (simp only [↓State.setMsh_fixed, ↓mk_fixed, ↓ite_fixed, ite_self, ↓st_ite]; done) | split | (simp only [↓State.setMsh_fixed, ↓mk_fixed, ↓ite_fixed, ite_self, ↓st_ite]; split) | (simp only [↓State.setMsh_fixed, ↓mk_fixed, ↓ite_fixed, ite_self, ↓st_ite]) | (with_reducible refine (foldl_fixed _ _ _ (fun _ _ => ?_)).trans ?_) | (with_reducible refine (foldl_pair_fixed _ _ _ (fun _ _ => ?_)).trans ?_) | dsimp only | (simp_all; done))

@[simp] theorem State.departOne_fixed (s : State) (i cause : Nat) : (State.departOne s i cause).fixed = s.fixed := by
  unfold State.departOne
  repeat' (first | (simp only [↓State.modNode_fixed, ↓State.nodeOut_fixed, ↓State.record_fixed, ↓mk_fixed, ↓ite_fixed, ite_self, ↓st_ite]; done) | split | (simp only [↓State.modNode_fixed, ↓State.nodeOut_fixed, ↓State.record_fixed, ↓mk_fixed, ↓ite_fixed, ite_self, ↓st_ite]; split) | (simp only [↓State.modNode_fixed, ↓State.nodeOut_fixed, ↓State.record_fixed, ↓mk_fixed, ↓ite_fixed, ite_self, ↓st_ite]) | (with_reducible refine (foldl_fixed _ _ _ (fun _ _ => ?_)).trans ?_) | (with_reducible refine (foldl_pair_fixed _ _ _ (fun _ _ => ?_)).trans ?_) | dsimp only | (simp_all; done))

@[simp] theorem State.departNode_fixed (s : State) (i cause : Nat) : (State.departNode s i cause).fixed = s.fixed := by
  unfold State.departNode
  repeat' (first | (simp only [↓State.departOne_fixed, ↓State.sendChanged_fixed, ↓State.showDesc_fixed, ↓State.showMesh_fixed, ↓mk_fixed, ↓ite_fixed, ite_self, ↓st_ite]; done) | split | (simp only [↓State.departOne_fixed, ↓State.sendChanged_fixed, ↓State.showDesc_fixed, ↓State.showMesh_fixed, ↓mk_fixed, ↓ite_fixed, ite_self, ↓st_ite]; split) | (simp only [↓State.departOne_fixed, ↓State.sendChanged_fixed, ↓State.showDesc_fixed, ↓State.showMesh_fixed, ↓mk_fixed, ↓ite_fixed, ite_self, ↓st_ite]) | (with_reducible refine (foldl_fixed _ _ _ (fun _ _ => ?_)).trans ?_) | (with_reducible refine (foldl_pair_fixed _ _ _ (fun _ _ => ?_)).trans ?_) | dsimp only | (simp_all; done))

@[simp] theorem execPathExpiry_fixed (s : State) : (after (execPathExpiry s) s).fixed = s.fixed := by
  unfold execPathExpiry
  repeat (first | rw [after_next] | rw [after_ite] | fail)
  repeat' (first | (simp only [↓State.departNode_fixed, ↓mk_fixed, ↓ite_fixed, ite_self, ↓st_ite]; done) | split | (simp only [↓State.departNode_fixed, ↓mk_fixed, ↓ite_fixed, ite_self, ↓st_ite]; split) | (simp only [↓State.departNode_fixed, ↓mk_fixed, ↓ite_fixed, ite_self, ↓st_ite]) | (with_reducible refine (foldl_fixed _ _ _ (fun _ _ => ?_)).trans ?_) | (with_reducible refine (foldl_pair_fixed _ _ _ (fun _ _ => ?_)).trans ?_) | dsimp only | (simp_all; done))

theorem State.takePath_fixed (s : State) (i : Nat) (n : Node) (parent : Option Nat) {t} (h : State.takePath s i n parent = .ok t) :
    t.fixed = s.fixed := by
  unfold State.takePath at h
  repeat' split at h
  all_goals first
    | (cases h; done)
    | (cases h; simp only [State.assignCells_fixed _ _ ‹State.assignCells _ _ = some _›, State.setNode_fixed])

@[simp] theorem State.refitBelow_fixed (s : State) (kids : List Nat) : (State.refitBelow s kids).fixed = s.fixed := by
  unfold State.refitBelow
  repeat' (first | (simp only [↓State.departOne_fixed, ↓State.setNode_fixed, ↓mk_fixed, ↓ite_fixed, ite_self, ↓st_ite]; done) | split | (simp only [↓State.departOne_fixed, ↓State.setNode_fixed, ↓mk_fixed, ↓ite_fixed, ite_self, ↓st_ite]; split) | (simp only [↓State.departOne_fixed, ↓State.setNode_fixed, ↓mk_fixed, ↓ite_fixed, ite_self, ↓st_ite]) | (simp only [State.assignCells_fixed _ _  ‹State.assignCells _ _  = some _›, ↓State.departOne_fixed, ↓State.setNode_fixed, ↓mk_fixed, ↓ite_fixed, ite_self, ↓st_ite]) | (with_reducible refine (foldl_fixed _ _ _ (fun _ _ => ?_)).trans ?_) | (with_reducible refine (foldl_pair_fixed _ _ _ (fun _ _ => ?_)).trans ?_) | dsimp only | (simp_all; done))

@[simp] theorem State.dao_fixed (s : State) (i a seq lifetime : Nat) (parent : Option Nat) : (State.dao s i a seq lifetime parent).fixed = s.fixed := by
  unfold State.dao
  repeat' (first | (simp only [↓State.count_fixed, ↓State.departNode_fixed, ↓State.drawn_fixed, ↓State.meshSend_fixed, ↓State.modNode_fixed, ↓State.nodeOut_fixed, ↓State.ok_fixed, ↓State.record_fixed, ↓State.refitBelow_fixed, ↓State.sendChanged_fixed, ↓State.setNode_fixed, ↓State.showDesc_fixed, ↓State.showMesh_fixed, ↓mk_fixed, ↓ite_fixed, ite_self, ↓st_ite]; done) | split | (simp only [↓State.count_fixed, ↓State.departNode_fixed, ↓State.drawn_fixed, ↓State.meshSend_fixed, ↓State.modNode_fixed, ↓State.nodeOut_fixed, ↓State.ok_fixed, ↓State.record_fixed, ↓State.refitBelow_fixed, ↓State.sendChanged_fixed, ↓State.setNode_fixed, ↓State.showDesc_fixed, ↓State.showMesh_fixed, ↓mk_fixed, ↓ite_fixed, ite_self, ↓st_ite]; split) | (simp only [↓State.count_fixed, ↓State.departNode_fixed, ↓State.drawn_fixed, ↓State.meshSend_fixed, ↓State.modNode_fixed, ↓State.nodeOut_fixed, ↓State.ok_fixed, ↓State.record_fixed, ↓State.refitBelow_fixed, ↓State.sendChanged_fixed, ↓State.setNode_fixed, ↓State.showDesc_fixed, ↓State.showMesh_fixed, ↓mk_fixed, ↓ite_fixed, ite_self, ↓st_ite]) | (simp only [State.takePath_fixed _ _ _ _  ‹State.takePath _ _ _ _  = .ok _›, ↓State.count_fixed, ↓State.departNode_fixed, ↓State.drawn_fixed, ↓State.meshSend_fixed, ↓State.modNode_fixed, ↓State.nodeOut_fixed, ↓State.ok_fixed, ↓State.record_fixed, ↓State.refitBelow_fixed, ↓State.sendChanged_fixed, ↓State.setNode_fixed, ↓State.showDesc_fixed, ↓State.showMesh_fixed, ↓mk_fixed, ↓ite_fixed, ite_self, ↓st_ite]) | (with_reducible refine (foldl_fixed _ _ _ (fun _ _ => ?_)).trans ?_) | (with_reducible refine (foldl_pair_fixed _ _ _ (fun _ _ => ?_)).trans ?_) | dsimp only | (simp_all; done))

theorem State.takeItem_fixed (s : State) (p : MeshUp → Bool) {t} (h : State.takeItem s p = some t) : t.1.fixed = s.fixed := by
  revert h
  unfold State.takeItem
  intro h
  repeat' (first | (simp only [↓State.setMsh_fixed, ↓mk_fixed, ↓ite_fixed, ite_self, ↓st_ite]; done) | split | (simp only [↓State.setMsh_fixed, ↓mk_fixed, ↓ite_fixed, ite_self, ↓st_ite]; split) | (simp only [↓State.setMsh_fixed, ↓mk_fixed, ↓ite_fixed, ite_self, ↓st_ite]) | (with_reducible refine (foldl_fixed _ _ _ (fun _ _ => ?_)).trans ?_) | (with_reducible refine (foldl_pair_fixed _ _ _ (fun _ _ => ?_)).trans ?_) | dsimp only | (split at h) | (cases h; done) | (cases h) | (injection h with h; subst h) | (simp_all; done))

@[simp] theorem execDaoRx_fixed (s : State) : (after (execDaoRx s) s).fixed = s.fixed := by
  unfold execDaoRx
  repeat (first | rw [after_next] | rw [after_ite] | fail)
  repeat' (first | (simp only [↓State.dao_fixed, ↓mk_fixed, ↓ite_fixed, ite_self, ↓st_ite]; done) | split | (simp only [↓State.dao_fixed, ↓mk_fixed, ↓ite_fixed, ite_self, ↓st_ite]; split) | (simp only [↓State.dao_fixed, ↓mk_fixed, ↓ite_fixed, ite_self, ↓st_ite]) | (simp only [optpair_fixed ‹State.takeItem _ _  = some (_, _)› (fun _ h => State.takeItem_fixed _ _  h), ↓State.dao_fixed, ↓mk_fixed, ↓ite_fixed, ite_self, ↓st_ite]) | (with_reducible refine (foldl_fixed _ _ _ (fun _ _ => ?_)).trans ?_) | (with_reducible refine (foldl_pair_fixed _ _ _ (fun _ _ => ?_)).trans ?_) | dsimp only | (simp_all; done))

@[simp] theorem execDisRx_fixed (s : State) : (after (execDisRx s) s).fixed = s.fixed := by
  unfold execDisRx
  repeat (first | rw [after_next] | rw [after_ite] | fail)
  repeat' (first | (simp only [↓State.meshSend_fixed, ↓mk_fixed, ↓ite_fixed, ite_self, ↓st_ite]; done) | split | (simp only [↓State.meshSend_fixed, ↓mk_fixed, ↓ite_fixed, ite_self, ↓st_ite]; split) | (simp only [↓State.meshSend_fixed, ↓mk_fixed, ↓ite_fixed, ite_self, ↓st_ite]) | (simp only [optpair_fixed ‹State.takeItem _ _  = some (_, _)› (fun _ h => State.takeItem_fixed _ _  h), ↓State.meshSend_fixed, ↓mk_fixed, ↓ite_fixed, ite_self, ↓st_ite]) | (with_reducible refine (foldl_fixed _ _ _ (fun _ _ => ?_)).trans ?_) | (with_reducible refine (foldl_pair_fixed _ _ _ (fun _ _ => ?_)).trans ?_) | dsimp only | (simp_all; done))

@[simp] theorem execDioTrickle_fixed (cluster : Nat) (s : State) : (after (execDioTrickle cluster s) s).fixed = s.fixed := by
  unfold execDioTrickle
  repeat (first | rw [after_next] | rw [after_ite] | fail)
  repeat' (first | (simp only [↓State.modCluster_fixed, ↓mk_fixed, ↓ite_fixed, ite_self, ↓st_ite]; done) | split | (simp only [↓State.modCluster_fixed, ↓mk_fixed, ↓ite_fixed, ite_self, ↓st_ite]; split) | (simp only [↓State.modCluster_fixed, ↓mk_fixed, ↓ite_fixed, ite_self, ↓st_ite]) | (with_reducible refine (foldl_fixed _ _ _ (fun _ _ => ?_)).trans ?_) | (with_reducible refine (foldl_pair_fixed _ _ _ (fun _ _ => ?_)).trans ?_) | dsimp only | (simp_all; done))

@[simp] theorem State.sendNodeRekey_fixed (s : State) (i : Nat) : (State.sendNodeRekey s i).fixed = s.fixed := by
  unfold State.sendNodeRekey
  repeat' (first | (simp only [↓State.meshSend_fixed, ↓mk_fixed, ↓ite_fixed, ite_self, ↓st_ite]; done) | split | (simp only [↓State.meshSend_fixed, ↓mk_fixed, ↓ite_fixed, ite_self, ↓st_ite]; split) | (simp only [↓State.meshSend_fixed, ↓mk_fixed, ↓ite_fixed, ite_self, ↓st_ite]) | (with_reducible refine (foldl_fixed _ _ _ (fun _ _ => ?_)).trans ?_) | (with_reducible refine (foldl_pair_fixed _ _ _ (fun _ _ => ?_)).trans ?_) | dsimp only | (simp_all; done))

@[simp] theorem State.startRenewal_fixed (s : State) (i : Nat) : (State.startRenewal s i).fixed = s.fixed := by
  unfold State.startRenewal
  repeat' (first | (simp only [↓State.modNode_fixed, ↓State.sendNodeRekey_fixed, ↓mk_fixed, ↓ite_fixed, ite_self, ↓st_ite]; done) | split | (simp only [↓State.modNode_fixed, ↓State.sendNodeRekey_fixed, ↓mk_fixed, ↓ite_fixed, ite_self, ↓st_ite]; split) | (simp only [↓State.modNode_fixed, ↓State.sendNodeRekey_fixed, ↓mk_fixed, ↓ite_fixed, ite_self, ↓st_ite]) | (with_reducible refine (foldl_fixed _ _ _ (fun _ _ => ?_)).trans ?_) | (with_reducible refine (foldl_pair_fixed _ _ _ (fun _ _ => ?_)).trans ?_) | dsimp only | (simp_all; done))

@[simp] theorem State.sendClusterRekey_fixed (s : State) (i : Nat) : (State.sendClusterRekey s i).fixed = s.fixed := by
  unfold State.sendClusterRekey
  repeat' (first | (simp only [↓State.meshSend_fixed, ↓mk_fixed, ↓ite_fixed, ite_self, ↓st_ite]; done) | split | (simp only [↓State.meshSend_fixed, ↓mk_fixed, ↓ite_fixed, ite_self, ↓st_ite]; split) | (simp only [↓State.meshSend_fixed, ↓mk_fixed, ↓ite_fixed, ite_self, ↓st_ite]) | (with_reducible refine (foldl_fixed _ _ _ (fun _ _ => ?_)).trans ?_) | (with_reducible refine (foldl_pair_fixed _ _ _ (fun _ _ => ?_)).trans ?_) | dsimp only | (simp_all; done))

@[simp] theorem execRekeyAck_fixed (s : State) : (after (execRekeyAck s) s).fixed = s.fixed := by
  unfold execRekeyAck
  repeat (first | rw [after_next] | rw [after_ite] | fail)
  repeat' (first | (simp only [↓State.modNode_fixed, ↓mk_fixed, ↓ite_fixed, ite_self, ↓st_ite]; done) | split | (simp only [↓State.modNode_fixed, ↓mk_fixed, ↓ite_fixed, ite_self, ↓st_ite]; split) | (simp only [↓State.modNode_fixed, ↓mk_fixed, ↓ite_fixed, ite_self, ↓st_ite]) | (simp only [optpair_fixed ‹State.takeItem _ _  = some (_, _)› (fun _ h => State.takeItem_fixed _ _  h), ↓State.modNode_fixed, ↓mk_fixed, ↓ite_fixed, ite_self, ↓st_ite]) | (with_reducible refine (foldl_fixed _ _ _ (fun _ _ => ?_)).trans ?_) | (with_reducible refine (foldl_pair_fixed _ _ _ (fun _ _ => ?_)).trans ?_) | dsimp only | (simp_all; done))

@[simp] theorem execClusterKeySwitch_fixed (s : State) : (after (execClusterKeySwitch s) s).fixed = s.fixed := by
  unfold execClusterKeySwitch
  repeat (first | rw [after_next] | rw [after_ite] | fail)
  repeat' (first | (simp only [↓State.modCluster_fixed, ↓State.record_fixed, ↓mk_fixed, ↓ite_fixed, ite_self, ↓st_ite]; done) | split | (simp only [↓State.modCluster_fixed, ↓State.record_fixed, ↓mk_fixed, ↓ite_fixed, ite_self, ↓st_ite]; split) | (simp only [↓State.modCluster_fixed, ↓State.record_fixed, ↓mk_fixed, ↓ite_fixed, ite_self, ↓st_ite]) | (with_reducible refine (foldl_fixed _ _ _ (fun _ _ => ?_)).trans ?_) | (with_reducible refine (foldl_pair_fixed _ _ _ (fun _ _ => ?_)).trans ?_) | dsimp only | (simp_all; done))

@[simp] theorem State.addTarget_fixed (s : State) (i : Nat) (n : Node) : (State.addTarget s i n).fixed = s.fixed := by
  unfold State.addTarget
  repeat' (first | (simp only [↓State.setMsh_fixed, ↓mk_fixed, ↓ite_fixed, ite_self, ↓st_ite]; done) | split | (simp only [↓State.setMsh_fixed, ↓mk_fixed, ↓ite_fixed, ite_self, ↓st_ite]; split) | (simp only [↓State.setMsh_fixed, ↓mk_fixed, ↓ite_fixed, ite_self, ↓st_ite]) | (with_reducible refine (foldl_fixed _ _ _ (fun _ _ => ?_)).trans ?_) | (with_reducible refine (foldl_pair_fixed _ _ _ (fun _ _ => ?_)).trans ?_) | dsimp only | (simp_all; done))

@[simp] theorem execNodeStatus_fixed (s : State) : (after (execNodeStatus s) s).fixed = s.fixed := by
  unfold execNodeStatus
  repeat (first | rw [after_next] | rw [after_ite] | fail)
  repeat' (first | (simp only [↓State.addTarget_fixed, ↓State.record_fixed, ↓State.sendSched_fixed, ↓State.setNode_fixed, ↓mk_fixed, ↓ite_fixed, ite_self, ↓st_ite]; done) | split | (simp only [↓State.addTarget_fixed, ↓State.record_fixed, ↓State.sendSched_fixed, ↓State.setNode_fixed, ↓mk_fixed, ↓ite_fixed, ite_self, ↓st_ite]; split) | (simp only [↓State.addTarget_fixed, ↓State.record_fixed, ↓State.sendSched_fixed, ↓State.setNode_fixed, ↓mk_fixed, ↓ite_fixed, ite_self, ↓st_ite]) | (simp only [optpair_fixed ‹State.takeItem _ _  = some (_, _)› (fun _ h => State.takeItem_fixed _ _  h), ↓State.addTarget_fixed, ↓State.record_fixed, ↓State.sendSched_fixed, ↓State.setNode_fixed, ↓mk_fixed, ↓ite_fixed, ite_self, ↓st_ite]) | (with_reducible refine (foldl_fixed _ _ _ (fun _ _ => ?_)).trans ?_) | (with_reducible refine (foldl_pair_fixed _ _ _ (fun _ _ => ?_)).trans ?_) | dsimp only | (simp_all; done))

@[simp] theorem execValues_fixed (s : State) : (after (execValues s) s).fixed = s.fixed := by
  unfold execValues
  repeat (first | rw [after_next] | rw [after_ite] | fail)
  repeat' (first | (simp only [↓State.meshItem_fixed, ↓State.modNode_fixed, ↓mk_fixed, ↓ite_fixed, ite_self, ↓st_ite]; done) | split | (simp only [↓State.meshItem_fixed, ↓State.modNode_fixed, ↓mk_fixed, ↓ite_fixed, ite_self, ↓st_ite]; split) | (simp only [↓State.meshItem_fixed, ↓State.modNode_fixed, ↓mk_fixed, ↓ite_fixed, ite_self, ↓st_ite]) | (simp only [optpair_fixed ‹State.takeItem _ _  = some (_, _)› (fun _ h => State.takeItem_fixed _ _  h), ↓State.meshItem_fixed, ↓State.modNode_fixed, ↓mk_fixed, ↓ite_fixed, ite_self, ↓st_ite]) | (with_reducible refine (foldl_fixed _ _ _ (fun _ _ => ?_)).trans ?_) | (with_reducible refine (foldl_pair_fixed _ _ _ (fun _ _ => ?_)).trans ?_) | dsimp only | (simp_all; done))

@[simp] theorem State.meshUp_fixed (s : State) (x : MeshItem) : (State.meshUp s x).fixed = s.fixed := by
  unfold State.meshUp
  repeat' (first | (simp only [↓State.count_fixed, ↓State.ingressPacket_fixed, ↓State.setMsh_fixed, ↓mk_fixed, ↓ite_fixed, ite_self, ↓st_ite]; done) | split | (simp only [↓State.count_fixed, ↓State.ingressPacket_fixed, ↓State.setMsh_fixed, ↓mk_fixed, ↓ite_fixed, ite_self, ↓st_ite]; split) | (simp only [↓State.count_fixed, ↓State.ingressPacket_fixed, ↓State.setMsh_fixed, ↓mk_fixed, ↓ite_fixed, ite_self, ↓st_ite]) | (with_reducible refine (foldl_fixed _ _ _ (fun _ _ => ?_)).trans ?_) | (with_reducible refine (foldl_pair_fixed _ _ _ (fun _ _ => ?_)).trans ?_) | dsimp only | (simp_all; done))

@[simp] theorem State.datagram_fixed (s : State) (x : MeshItem) (b : List Byte) : (State.datagram s x b).fixed = s.fixed := by
  unfold State.datagram
  repeat' (first | (simp only [↓State.meshUp_fixed, ↓mk_fixed, ↓ite_fixed, ite_self, ↓st_ite]; done) | split | (simp only [↓State.meshUp_fixed, ↓mk_fixed, ↓ite_fixed, ite_self, ↓st_ite]; split) | (simp only [↓State.meshUp_fixed, ↓mk_fixed, ↓ite_fixed, ite_self, ↓st_ite]) | (with_reducible refine (foldl_fixed _ _ _ (fun _ _ => ?_)).trans ?_) | (with_reducible refine (foldl_pair_fixed _ _ _ (fun _ _ => ?_)).trans ?_) | dsimp only | (simp_all; done))

@[simp] theorem State.reasmFull_fixed (s : State) : (State.reasmFull s).fixed = s.fixed := by
  unfold State.reasmFull
  repeat' (first | (simp only [↓State.count_fixed, ↓State.record_fixed, ↓State.setMsh_fixed, ↓mk_fixed, ↓ite_fixed, ite_self, ↓st_ite]; done) | split | (simp only [↓State.count_fixed, ↓State.record_fixed, ↓State.setMsh_fixed, ↓mk_fixed, ↓ite_fixed, ite_self, ↓st_ite]; split) | (simp only [↓State.count_fixed, ↓State.record_fixed, ↓State.setMsh_fixed, ↓mk_fixed, ↓ite_fixed, ite_self, ↓st_ite]) | (with_reducible refine (foldl_fixed _ _ _ (fun _ _ => ?_)).trans ?_) | (with_reducible refine (foldl_pair_fixed _ _ _ (fun _ _ => ?_)).trans ?_) | dsimp only | (simp_all; done))

@[simp] theorem execFragmentRx_fixed (s : State) : (after (execFragmentRx s) s).fixed = s.fixed := by
  unfold execFragmentRx
  repeat (first | rw [after_next] | rw [after_ite] | fail)
  repeat' (first | (simp only [↓State.count_fixed, ↓State.datagram_fixed, ↓State.reasmFull_fixed, ↓State.setMsh_fixed, ↓mk_fixed, ↓ite_fixed, ite_self, ↓st_ite]; done) | split | (simp only [↓State.count_fixed, ↓State.datagram_fixed, ↓State.reasmFull_fixed, ↓State.setMsh_fixed, ↓mk_fixed, ↓ite_fixed, ite_self, ↓st_ite]; split) | (simp only [↓State.count_fixed, ↓State.datagram_fixed, ↓State.reasmFull_fixed, ↓State.setMsh_fixed, ↓mk_fixed, ↓ite_fixed, ite_self, ↓st_ite]) | (simp only [optpair_fixed ‹State.takeItem _ _  = some (_, _)› (fun _ h => State.takeItem_fixed _ _  h), ↓State.count_fixed, ↓State.datagram_fixed, ↓State.reasmFull_fixed, ↓State.setMsh_fixed, ↓mk_fixed, ↓ite_fixed, ite_self, ↓st_ite]) | (with_reducible refine (foldl_fixed _ _ _ (fun _ _ => ?_)).trans ?_) | (with_reducible refine (foldl_pair_fixed _ _ _ (fun _ _ => ?_)).trans ?_) | dsimp only | (simp_all; done))

@[simp] theorem execReassemblyTimeout_fixed (s : State) : (after (execReassemblyTimeout s) s).fixed = s.fixed := by
  unfold execReassemblyTimeout
  repeat (first | rw [after_next] | rw [after_ite] | fail)
  repeat' (first | (simp only [↓State.count_fixed, ↓State.setMsh_fixed, ↓mk_fixed, ↓ite_fixed, ite_self, ↓st_ite]; done) | split | (simp only [↓State.count_fixed, ↓State.setMsh_fixed, ↓mk_fixed, ↓ite_fixed, ite_self, ↓st_ite]; split) | (simp only [↓State.count_fixed, ↓State.setMsh_fixed, ↓mk_fixed, ↓ite_fixed, ite_self, ↓st_ite]) | (with_reducible refine (foldl_fixed _ _ _ (fun _ _ => ?_)).trans ?_) | (with_reducible refine (foldl_pair_fixed _ _ _ (fun _ _ => ?_)).trans ?_) | dsimp only | (simp_all; done))

@[simp] theorem execMeshDownlinkPacket_fixed (s : State) : (after (execMeshDownlinkPacket s) s).fixed = s.fixed := by
  unfold execMeshDownlinkPacket
  repeat (first | rw [after_next] | rw [after_ite] | fail)
  repeat' (first | (simp only [↓State.meshSend_fixed, ↓State.setMsh_fixed, ↓mk_fixed, ↓ite_fixed, ite_self, ↓st_ite]; done) | split | (simp only [↓State.meshSend_fixed, ↓State.setMsh_fixed, ↓mk_fixed, ↓ite_fixed, ite_self, ↓st_ite]; split) | (simp only [↓State.meshSend_fixed, ↓State.setMsh_fixed, ↓mk_fixed, ↓ite_fixed, ite_self, ↓st_ite]) | (with_reducible refine (foldl_fixed _ _ _ (fun _ _ => ?_)).trans ?_) | (with_reducible refine (foldl_pair_fixed _ _ _ (fun _ _ => ?_)).trans ?_) | dsimp only | (simp_all; done))

end Sys2Proof.Machine
end

