-- ==== Sys2Proof/Laws/FixedMeshMac.lean ====
section
/-! SUPPORT. What the operations of Machine/MeshMac.lean leave alone (Laws/Fixed.lean). -/

set_option linter.all false

namespace Sys2Proof.Machine

open Sys2Proof

@[simp] theorem State.ageNbr_fixed (s : State) (i : Nat) (n : Nbr) : (State.ageNbr s i n).fixed = s.fixed := by
  unfold State.ageNbr
  repeat' (first | (simp only [↓State.record_fixed, ↓State.setNbr_fixed, ↓mk_fixed, ↓ite_fixed, ite_self, ↓st_ite]; done) | split | (simp only [↓State.record_fixed, ↓State.setNbr_fixed, ↓mk_fixed, ↓ite_fixed, ite_self, ↓st_ite]; split) | (simp only [↓State.record_fixed, ↓State.setNbr_fixed, ↓mk_fixed, ↓ite_fixed, ite_self, ↓st_ite]) | (with_reducible refine (foldl_fixed _ _ _ (fun _ _ => ?_)).trans ?_) | (with_reducible refine (foldl_pair_fixed _ _ _ (fun _ _ => ?_)).trans ?_) | dsimp only | (simp_all; done))

@[simp] theorem State.resync_fixed (s : State) (i : Nat) (ofs : Int) (a : Nat) : (State.resync s i ofs a).fixed = s.fixed := by
  unfold State.resync
  repeat' (first | (simp only [↓State.ageNbr_fixed, ↓State.record_fixed, ↓State.setNbr_fixed, ↓mk_fixed, ↓ite_fixed, ite_self, ↓st_ite]; done) | split | (simp only [↓State.ageNbr_fixed, ↓State.record_fixed, ↓State.setNbr_fixed, ↓mk_fixed, ↓ite_fixed, ite_self, ↓st_ite]; split) | (simp only [↓State.ageNbr_fixed, ↓State.record_fixed, ↓State.setNbr_fixed, ↓mk_fixed, ↓ite_fixed, ite_self, ↓st_ite]) | (with_reducible refine (foldl_fixed _ _ _ (fun _ _ => ?_)).trans ?_) | (with_reducible refine (foldl_pair_fixed _ _ _ (fun _ _ => ?_)).trans ?_) | dsimp only | (simp_all; done))

@[simp] theorem State.meshDrawn_fixed (s : State) : (State.meshDrawn s).fixed = s.fixed := by
  unfold State.meshDrawn
  repeat' (first | (simp only [↓State.setMsh_fixed, ↓mk_fixed, ↓ite_fixed, ite_self, ↓st_ite]; done) | split | (simp only [↓State.setMsh_fixed, ↓mk_fixed, ↓ite_fixed, ite_self, ↓st_ite]; split) | (simp only [↓State.setMsh_fixed, ↓mk_fixed, ↓ite_fixed, ite_self, ↓st_ite]) | (with_reducible refine (foldl_fixed _ _ _ (fun _ _ => ?_)).trans ?_) | (with_reducible refine (foldl_pair_fixed _ _ _ (fun _ _ => ?_)).trans ?_) | dsimp only | (simp_all; done))

@[simp] theorem State.noteEtx_fixed (s : State) (node : Nat) : (State.noteEtx s node).fixed = s.fixed := by
  unfold State.noteEtx
  repeat' (first | (simp only [↓State.meshDrawn_fixed, ↓State.modNbr_fixed, ↓mk_fixed, ↓ite_fixed, ite_self, ↓st_ite]; done) | split | (simp only [↓State.meshDrawn_fixed, ↓State.modNbr_fixed, ↓mk_fixed, ↓ite_fixed, ite_self, ↓st_ite]; split) | (simp only [↓State.meshDrawn_fixed, ↓State.modNbr_fixed, ↓mk_fixed, ↓ite_fixed, ite_self, ↓st_ite]) | (with_reducible refine (foldl_fixed _ _ _ (fun _ _ => ?_)).trans ?_) | (with_reducible refine (foldl_pair_fixed _ _ _ (fun _ _ => ?_)).trans ?_) | dsimp only | (simp_all; done))

@[simp] theorem State.attemptFailed_fixed (s : State) (id : Nat) : (State.attemptFailed s id).fixed = s.fixed := by
  unfold State.attemptFailed
  repeat' (first | (simp only [↓State.count_fixed, ↓State.dropQ_fixed, ↓State.modNbr_fixed, ↓State.modQ_fixed, ↓State.noteEtx_fixed, ↓mk_fixed, ↓ite_fixed, ite_self, ↓st_ite]; done) | split | (simp only [↓State.count_fixed, ↓State.dropQ_fixed, ↓State.modNbr_fixed, ↓State.modQ_fixed, ↓State.noteEtx_fixed, ↓mk_fixed, ↓ite_fixed, ite_self, ↓st_ite]; split) | (simp only [↓State.count_fixed, ↓State.dropQ_fixed, ↓State.modNbr_fixed, ↓State.modQ_fixed, ↓State.noteEtx_fixed, ↓mk_fixed, ↓ite_fixed, ite_self, ↓st_ite]) | (with_reducible refine (foldl_fixed _ _ _ (fun _ _ => ?_)).trans ?_) | (with_reducible refine (foldl_pair_fixed _ _ _ (fun _ _ => ?_)).trans ?_) | dsimp only | (simp_all; done))

@[simp] theorem State.attemptDone_fixed (s : State) (q : MeshQ) : (State.attemptDone s q).fixed = s.fixed := by
  unfold State.attemptDone
  repeat' (first | (simp only [↓State.count_fixed, ↓State.dropQ_fixed, ↓State.modNbr_fixed, ↓State.modQ_fixed, ↓State.noteEtx_fixed, ↓mk_fixed, ↓ite_fixed, ite_self, ↓st_ite]; done) | split | (simp only [↓State.count_fixed, ↓State.dropQ_fixed, ↓State.modNbr_fixed, ↓State.modQ_fixed, ↓State.noteEtx_fixed, ↓mk_fixed, ↓ite_fixed, ite_self, ↓st_ite]; split) | (simp only [↓State.count_fixed, ↓State.dropQ_fixed, ↓State.modNbr_fixed, ↓State.modQ_fixed, ↓State.noteEtx_fixed, ↓mk_fixed, ↓ite_fixed, ite_self, ↓st_ite]) | (with_reducible refine (foldl_fixed _ _ _ (fun _ _ => ?_)).trans ?_) | (with_reducible refine (foldl_pair_fixed _ _ _ (fun _ _ => ?_)).trans ?_) | dsimp only | (simp_all; done))

@[simp] theorem State.ackSync_fixed (s : State) (hop : Nat) (ofs : Int) (a : Nat) : (State.ackSync s hop ofs a).fixed = s.fixed := by
  unfold State.ackSync
  repeat' (first | (simp only [↓State.resync_fixed, ↓mk_fixed, ↓ite_fixed, ite_self, ↓st_ite]; done) | split | (simp only [↓State.resync_fixed, ↓mk_fixed, ↓ite_fixed, ite_self, ↓st_ite]; split) | (simp only [↓State.resync_fixed, ↓mk_fixed, ↓ite_fixed, ite_self, ↓st_ite]) | (with_reducible refine (foldl_fixed _ _ _ (fun _ _ => ?_)).trans ?_) | (with_reducible refine (foldl_pair_fixed _ _ _ (fun _ _ => ?_)).trans ?_) | dsimp only | (simp_all; done))

@[simp] theorem State.takeResult_fixed (s : State) (id : Nat) (r : TxResult) (sn : Nat) : (State.takeResult s id r sn).fixed = s.fixed := by
  unfold State.takeResult
  repeat' (first | (simp only [↓State.ackSync_fixed, ↓State.attemptDone_fixed, ↓State.attemptFailed_fixed, ↓State.count_fixed, ↓mk_fixed, ↓ite_fixed, ite_self, ↓st_ite]; done) | split | (simp only [↓State.ackSync_fixed, ↓State.attemptDone_fixed, ↓State.attemptFailed_fixed, ↓State.count_fixed, ↓mk_fixed, ↓ite_fixed, ite_self, ↓st_ite]; split) | (simp only [↓State.ackSync_fixed, ↓State.attemptDone_fixed, ↓State.attemptFailed_fixed, ↓State.count_fixed, ↓mk_fixed, ↓ite_fixed, ite_self, ↓st_ite]) | (with_reducible refine (foldl_fixed _ _ _ (fun _ _ => ?_)).trans ?_) | (with_reducible refine (foldl_pair_fixed _ _ _ (fun _ _ => ?_)).trans ?_) | dsimp only | (simp_all; done))

@[simp] theorem State.meshResults_fixed (s : State) : (State.meshResults s).fixed = s.fixed := by
  unfold State.meshResults
  repeat' (first | (simp only [↓State.setMsh_fixed, ↓State.takeResult_fixed, ↓mk_fixed, ↓ite_fixed, ite_self, ↓st_ite]; done) | split | (simp only [↓State.setMsh_fixed, ↓State.takeResult_fixed, ↓mk_fixed, ↓ite_fixed, ite_self, ↓st_ite]; split) | (simp only [↓State.setMsh_fixed, ↓State.takeResult_fixed, ↓mk_fixed, ↓ite_fixed, ite_self, ↓st_ite]) | (with_reducible refine (foldl_fixed _ _ _ (fun _ _ => ?_)).trans ?_) | (with_reducible refine (foldl_pair_fixed _ _ _ (fun _ _ => ?_)).trans ?_) | dsimp only | (simp_all; done))

@[simp] theorem State.openCell_fixed (s : State) (c : MeshCell) : (State.openCell s c).fixed = s.fixed := by
  unfold State.openCell
  repeat' (first | (simp only [↓State.count_fixed, ↓State.setMsh_fixed, ↓mk_fixed, ↓ite_fixed, ite_self, ↓st_ite]; done) | split | (simp only [↓State.count_fixed, ↓State.setMsh_fixed, ↓mk_fixed, ↓ite_fixed, ite_self, ↓st_ite]; split) | (simp only [↓State.count_fixed, ↓State.setMsh_fixed, ↓mk_fixed, ↓ite_fixed, ite_self, ↓st_ite]) | (with_reducible refine (foldl_fixed _ _ _ (fun _ _ => ?_)).trans ?_) | (with_reducible refine (foldl_pair_fixed _ _ _ (fun _ _ => ?_)).trans ?_) | dsimp only | (simp_all; done))

@[simp] theorem execTimeslot_fixed (s : State) : (after (execTimeslot s) s).fixed = s.fixed := by
  unfold execTimeslot
  repeat (first | rw [after_next] | rw [after_ite] | fail)
  repeat' (first | (simp only [↓State.ageNbr_fixed, ↓State.meshResults_fixed, ↓State.openCell_fixed, ↓State.runWork_fixed, ↓State.setMsh_fixed, ↓State.showMesh_fixed, ↓mk_fixed, ↓ite_fixed, ite_self, ↓st_ite]; done) | split | (simp only [↓State.ageNbr_fixed, ↓State.meshResults_fixed, ↓State.openCell_fixed, ↓State.runWork_fixed, ↓State.setMsh_fixed, ↓State.showMesh_fixed, ↓mk_fixed, ↓ite_fixed, ite_self, ↓st_ite]; split) | (simp only [↓State.ageNbr_fixed, ↓State.meshResults_fixed, ↓State.openCell_fixed, ↓State.runWork_fixed, ↓State.setMsh_fixed, ↓State.showMesh_fixed, ↓mk_fixed, ↓ite_fixed, ite_self, ↓st_ite]) | (with_reducible refine (State.runWork_fixed _ _ _ _ (fun _ => ?_)).trans ?_) | (with_reducible refine (foldl_fixed _ _ _ (fun _ _ => ?_)).trans ?_) | (with_reducible refine (foldl_pair_fixed _ _ _ (fun _ _ => ?_)).trans ?_) | dsimp only | (simp_all; done))

@[simp] theorem State.writeBack_fixed (s : State) (n : Nbr) : (State.writeBack s n).fixed = s.fixed := by
  unfold State.writeBack
  repeat' (first | (simp only [↓State.modNode_fixed, ↓mk_fixed, ↓ite_fixed, ite_self, ↓st_ite]; done) | split | (simp only [↓State.modNode_fixed, ↓mk_fixed, ↓ite_fixed, ite_self, ↓st_ite]; split) | (simp only [↓State.modNode_fixed, ↓mk_fixed, ↓ite_fixed, ite_self, ↓st_ite]) | (with_reducible refine (foldl_fixed _ _ _ (fun _ _ => ?_)).trans ?_) | (with_reducible refine (foldl_pair_fixed _ _ _ (fun _ _ => ?_)).trans ?_) | dsimp only | (simp_all; done))

@[simp] theorem State.admitNbr_fixed (s : State) (n : Nbr) : (State.admitNbr s n).1.fixed = s.fixed := by
  unfold State.admitNbr
  repeat' (first | (simp only [↓State.count_fixed, ↓State.record_fixed, ↓State.setNbr_fixed, ↓State.writeBack_fixed, ↓mk_fixed, ↓ite_fixed, ite_self, ↓st_ite]; done) | split | (simp only [↓State.count_fixed, ↓State.record_fixed, ↓State.setNbr_fixed, ↓State.writeBack_fixed, ↓mk_fixed, ↓ite_fixed, ite_self, ↓st_ite]; split) | (simp only [↓State.count_fixed, ↓State.record_fixed, ↓State.setNbr_fixed, ↓State.writeBack_fixed, ↓mk_fixed, ↓ite_fixed, ite_self, ↓st_ite]) | (with_reducible refine (foldl_fixed _ _ _ (fun _ _ => ?_)).trans ?_) | (with_reducible refine (foldl_pair_fixed _ _ _ (fun _ _ => ?_)).trans ?_) | dsimp only | (simp_all; done))

@[simp] theorem execNbrWriteback_fixed (s : State) : (after (execNbrWriteback s) s).fixed = s.fixed := by
  unfold execNbrWriteback
  repeat (first | rw [after_next] | rw [after_ite] | fail)
  repeat' (first | (simp only [↓State.modNbr_fixed, ↓State.writeBack_fixed, ↓mk_fixed, ↓ite_fixed, ite_self, ↓st_ite]; done) | split | (simp only [↓State.modNbr_fixed, ↓State.writeBack_fixed, ↓mk_fixed, ↓ite_fixed, ite_self, ↓st_ite]; split) | (simp only [↓State.modNbr_fixed, ↓State.writeBack_fixed, ↓mk_fixed, ↓ite_fixed, ite_self, ↓st_ite]) | (with_reducible refine (foldl_fixed _ _ _ (fun _ _ => ?_)).trans ?_) | (with_reducible refine (foldl_pair_fixed _ _ _ (fun _ _ => ?_)).trans ?_) | dsimp only | (simp_all; done))

@[simp] theorem State.loseNbr_fixed (s : State) (i : Nat) (readable : Bool) : (State.loseNbr s i readable).fixed = s.fixed := by
  unfold State.loseNbr
  repeat' (first | (simp only [↓State.modNode_fixed, ↓State.record_fixed, ↓State.setMsh_fixed, ↓State.showMesh_fixed, ↓mk_fixed, ↓ite_fixed, ite_self, ↓st_ite]; done) | split | (simp only [↓State.modNode_fixed, ↓State.record_fixed, ↓State.setMsh_fixed, ↓State.showMesh_fixed, ↓mk_fixed, ↓ite_fixed, ite_self, ↓st_ite]; split) | (simp only [↓State.modNode_fixed, ↓State.record_fixed, ↓State.setMsh_fixed, ↓State.showMesh_fixed, ↓mk_fixed, ↓ite_fixed, ite_self, ↓st_ite]) | (with_reducible refine (foldl_fixed _ _ _ (fun _ _ => ?_)).trans ?_) | (with_reducible refine (foldl_pair_fixed _ _ _ (fun _ _ => ?_)).trans ?_) | dsimp only | (simp_all; done))

@[simp] theorem State.staleGen_fixed (s : State) (i gen : Nat) (n : Node) : (State.staleGen s i gen n).fixed = s.fixed := by
  unfold State.staleGen
  repeat' (first | (simp only [↓State.count_fixed, ↓State.modNode_fixed, ↓State.nodeOut_fixed, ↓State.record_fixed, ↓mk_fixed, ↓ite_fixed, ite_self, ↓st_ite]; done) | split | (simp only [↓State.count_fixed, ↓State.modNode_fixed, ↓State.nodeOut_fixed, ↓State.record_fixed, ↓mk_fixed, ↓ite_fixed, ite_self, ↓st_ite]; split) | (simp only [↓State.count_fixed, ↓State.modNode_fixed, ↓State.nodeOut_fixed, ↓State.record_fixed, ↓mk_fixed, ↓ite_fixed, ite_self, ↓st_ite]) | (with_reducible refine (foldl_fixed _ _ _ (fun _ _ => ?_)).trans ?_) | (with_reducible refine (foldl_pair_fixed _ _ _ (fun _ _ => ?_)).trans ?_) | dsimp only | (simp_all; done))

@[simp] theorem State.noteReplay_fixed (s : State) (slot : Option Nat) (n : Nbr) (ctr : Nat) : (State.noteReplay s slot n ctr).fixed = s.fixed := by
  unfold State.noteReplay
  dsimp only
  rw [ite_fixed, State.record_fixed, State.count_fixed]
  cases slot <;> simp only [State.modNbr_fixed, State.count_fixed, ite_self]

@[simp] theorem State.keyArrived_fixed (s : State) (i nbr gen : Nat) : (State.keyArrived s i nbr gen).fixed = s.fixed := by
  unfold State.keyArrived
  repeat' (first | (simp only [↓State.modNbr_fixed, ↓State.nodeOut_fixed, ↓State.record_fixed, ↓State.setNode_fixed, ↓mk_fixed, ↓ite_fixed, ite_self, ↓st_ite]; done) | split | (simp only [↓State.modNbr_fixed, ↓State.nodeOut_fixed, ↓State.record_fixed, ↓State.setNode_fixed, ↓mk_fixed, ↓ite_fixed, ite_self, ↓st_ite]; split) | (simp only [↓State.modNbr_fixed, ↓State.nodeOut_fixed, ↓State.record_fixed, ↓State.setNode_fixed, ↓mk_fixed, ↓ite_fixed, ite_self, ↓st_ite]) | (with_reducible refine (foldl_fixed _ _ _ (fun _ _ => ?_)).trans ?_) | (with_reducible refine (foldl_pair_fixed _ _ _ (fun _ _ => ?_)).trans ?_) | dsimp only | (simp_all; done))

@[simp] theorem State.receive_fixed (s : State) (c a arr : Nat) (f : MeshIn) : (State.receive s c a arr f).1.fixed = s.fixed := by
  unfold State.receive
  repeat' (first | (simp only [↓State.admitNbr_fixed, ↓State.count_fixed, ↓State.deliver_fixed, ↓State.keyArrived_fixed, ↓State.meshDrawn_fixed, ↓State.modNbr_fixed, ↓State.modNode_fixed, ↓State.noteReplay_fixed, ↓State.setNbr_fixed, ↓State.staleGen_fixed, ↓State.touchKey_fixed, ↓mk_fixed, ↓ite_fixed, ite_self, ↓st_ite]; done) | split | (simp only [↓State.admitNbr_fixed, ↓State.count_fixed, ↓State.deliver_fixed, ↓State.keyArrived_fixed, ↓State.meshDrawn_fixed, ↓State.modNbr_fixed, ↓State.modNode_fixed, ↓State.noteReplay_fixed, ↓State.setNbr_fixed, ↓State.staleGen_fixed, ↓State.touchKey_fixed, ↓mk_fixed, ↓ite_fixed, ite_self, ↓st_ite]; split) | (simp only [↓State.admitNbr_fixed, ↓State.count_fixed, ↓State.deliver_fixed, ↓State.keyArrived_fixed, ↓State.meshDrawn_fixed, ↓State.modNbr_fixed, ↓State.modNode_fixed, ↓State.noteReplay_fixed, ↓State.setNbr_fixed, ↓State.staleGen_fixed, ↓State.touchKey_fixed, ↓mk_fixed, ↓ite_fixed, ite_self, ↓st_ite]) | (simp only [pair_fixed ‹State.deliver _ _ _ _ _ _  = (_, _)› (State.deliver_fixed _ _ _ _ _ _ ), ↓State.admitNbr_fixed, ↓State.count_fixed, ↓State.deliver_fixed, ↓State.keyArrived_fixed, ↓State.meshDrawn_fixed, ↓State.modNbr_fixed, ↓State.modNode_fixed, ↓State.noteReplay_fixed, ↓State.setNbr_fixed, ↓State.staleGen_fixed, ↓State.touchKey_fixed, ↓mk_fixed, ↓ite_fixed, ite_self, ↓st_ite]) | (simp only [pair_fixed ‹State.admitNbr _ _  = (_, _)› (State.admitNbr_fixed _ _ ), ↓State.admitNbr_fixed, ↓State.count_fixed, ↓State.deliver_fixed, ↓State.keyArrived_fixed, ↓State.meshDrawn_fixed, ↓State.modNbr_fixed, ↓State.modNode_fixed, ↓State.noteReplay_fixed, ↓State.setNbr_fixed, ↓State.staleGen_fixed, ↓State.touchKey_fixed, ↓mk_fixed, ↓ite_fixed, ite_self, ↓st_ite]) | (with_reducible refine (foldl_fixed _ _ _ (fun _ _ => ?_)).trans ?_) | (with_reducible refine (foldl_pair_fixed _ _ _ (fun _ _ => ?_)).trans ?_) | dsimp only | (simp_all; done))

@[simp] theorem State.heard_fixed (s : State) (i gen : Nat) : (State.heard s i gen).fixed = s.fixed := by
  unfold State.heard
  repeat' (first | (simp only [↓State.sendClusterRekey_fixed, ↓State.sendNodeRekey_fixed, ↓State.startRenewal_fixed, ↓mk_fixed, ↓ite_fixed, ite_self, ↓st_ite]; done) | split | (simp only [↓State.sendClusterRekey_fixed, ↓State.sendNodeRekey_fixed, ↓State.startRenewal_fixed, ↓mk_fixed, ↓ite_fixed, ite_self, ↓st_ite]; split) | (simp only [↓State.sendClusterRekey_fixed, ↓State.sendNodeRekey_fixed, ↓State.startRenewal_fixed, ↓mk_fixed, ↓ite_fixed, ite_self, ↓st_ite]) | (with_reducible refine (foldl_fixed _ _ _ (fun _ _ => ?_)).trans ?_) | (with_reducible refine (foldl_pair_fixed _ _ _ (fun _ _ => ?_)).trans ?_) | dsimp only | (simp_all; done))

@[simp] theorem State.deliverUp_fixed (s : State) (f : MeshIn) (via c arr : Nat) : (State.deliverUp s f via c arr).fixed = s.fixed := by
  unfold State.deliverUp
  repeat' (first | (simp only [↓State.count_fixed, ↓State.meshUp_fixed, ↓mk_fixed, ↓ite_fixed, ite_self, ↓st_ite]; done) | split | (simp only [↓State.count_fixed, ↓State.meshUp_fixed, ↓mk_fixed, ↓ite_fixed, ite_self, ↓st_ite]; split) | (simp only [↓State.count_fixed, ↓State.meshUp_fixed, ↓mk_fixed, ↓ite_fixed, ite_self, ↓st_ite]) | (with_reducible refine (foldl_fixed _ _ _ (fun _ _ => ?_)).trans ?_) | (with_reducible refine (foldl_pair_fixed _ _ _ (fun _ _ => ?_)).trans ?_) | dsimp only | (simp_all; done))

@[simp] theorem State.runMeshRx_fixed (s : State) (legacy : Bool) (body : RxFrame → Nat → State → State) (hbody : ∀ a0 a1 a2, (body a0 a1 a2).fixed = a2.fixed) : (State.runMeshRx s legacy body).fixed = s.fixed := by
  unfold State.runMeshRx
  repeat' (first | (simp only [↓hbody, ↓State.runIntake_fixed, ↓mk_fixed, ↓ite_fixed, ite_self, ↓st_ite]; done) | split | (simp only [↓hbody, ↓State.runIntake_fixed, ↓mk_fixed, ↓ite_fixed, ite_self, ↓st_ite]; split) | (simp only [↓hbody, ↓State.runIntake_fixed, ↓mk_fixed, ↓ite_fixed, ite_self, ↓st_ite]) | (with_reducible refine (State.runIntake_fixed _ _ _ _ (fun _ _ _ => ?_)).trans ?_) | (with_reducible refine (foldl_fixed _ _ _ (fun _ _ => ?_)).trans ?_) | (with_reducible refine (foldl_pair_fixed _ _ _ (fun _ _ => ?_)).trans ?_) | dsimp only | (simp_all; done))

@[simp] theorem State.buildAck_fixed (s : State) (k c : Nat) (launch latest glr dsn : Nat) (ofs : Int) (nack : Bool) : (State.buildAck s k c launch latest glr dsn ofs nack).fixed = s.fixed := by
  unfold State.buildAck
  repeat' (first | (simp only [↓State.handOut_fixed, ↓State.noteCtr_fixed, ↓State.setMsh_fixed, ↓State.setNbr_fixed, ↓mk_fixed, ↓ite_fixed, ite_self, ↓st_ite]; done) | split | (simp only [↓State.handOut_fixed, ↓State.noteCtr_fixed, ↓State.setMsh_fixed, ↓State.setNbr_fixed, ↓mk_fixed, ↓ite_fixed, ite_self, ↓st_ite]; split) | (simp only [↓State.handOut_fixed, ↓State.noteCtr_fixed, ↓State.setMsh_fixed, ↓State.setNbr_fixed, ↓mk_fixed, ↓ite_fixed, ite_self, ↓st_ite]) | (with_reducible refine (foldl_fixed _ _ _ (fun _ _ => ?_)).trans ?_) | (with_reducible refine (foldl_pair_fixed _ _ _ (fun _ _ => ?_)).trans ?_) | dsimp only | (simp_all; done))

@[simp] theorem execMeshFrameRx_fixed (f : MeshIn) (s : State) : (after (execMeshFrameRx f s) s).fixed = s.fixed := by
  unfold execMeshFrameRx
  repeat (first | rw [after_next] | rw [after_ite] | fail)
  repeat' (first | (simp only [↓State.buildAck_fixed, ↓State.deliverUp_fixed, ↓State.deliver_fixed, ↓State.heard_fixed, ↓State.receive_fixed, ↓State.resync_fixed, ↓State.runMeshRx_fixed, ↓State.sendSched_fixed, ↓State.setNode_fixed, ↓State.showMesh_fixed, ↓mk_fixed, ↓ite_fixed, ite_self, ↓st_ite]; done) | split | (simp only [↓State.buildAck_fixed, ↓State.deliverUp_fixed, ↓State.deliver_fixed, ↓State.heard_fixed, ↓State.receive_fixed, ↓State.resync_fixed, ↓State.runMeshRx_fixed, ↓State.sendSched_fixed, ↓State.setNode_fixed, ↓State.showMesh_fixed, ↓mk_fixed, ↓ite_fixed, ite_self, ↓st_ite]; split) | (simp only [↓State.buildAck_fixed, ↓State.deliverUp_fixed, ↓State.deliver_fixed, ↓State.heard_fixed, ↓State.receive_fixed, ↓State.resync_fixed, ↓State.runMeshRx_fixed, ↓State.sendSched_fixed, ↓State.setNode_fixed, ↓State.showMesh_fixed, ↓mk_fixed, ↓ite_fixed, ite_self, ↓st_ite]) | (simp only [pair_fixed ‹State.deliver _ _ _ _ _ _  = (_, _)› (State.deliver_fixed _ _ _ _ _ _ ), ↓State.buildAck_fixed, ↓State.deliverUp_fixed, ↓State.deliver_fixed, ↓State.heard_fixed, ↓State.receive_fixed, ↓State.resync_fixed, ↓State.runMeshRx_fixed, ↓State.sendSched_fixed, ↓State.setNode_fixed, ↓State.showMesh_fixed, ↓mk_fixed, ↓ite_fixed, ite_self, ↓st_ite]) | (simp only [pair_fixed ‹State.receive _ _ _ _ _  = (_, _)› (State.receive_fixed _ _ _ _ _ ), ↓State.buildAck_fixed, ↓State.deliverUp_fixed, ↓State.deliver_fixed, ↓State.heard_fixed, ↓State.receive_fixed, ↓State.resync_fixed, ↓State.runMeshRx_fixed, ↓State.sendSched_fixed, ↓State.setNode_fixed, ↓State.showMesh_fixed, ↓mk_fixed, ↓ite_fixed, ite_self, ↓st_ite]) | (with_reducible refine (State.runMeshRx_fixed _ _ _ (fun _ _ _ => ?_)).trans ?_) | (with_reducible refine (foldl_fixed _ _ _ (fun _ _ => ?_)).trans ?_) | (with_reducible refine (foldl_pair_fixed _ _ _ (fun _ _ => ?_)).trans ?_) | dsimp only | (simp_all; done))

@[simp] theorem State.releaseMesh_fixed (s : State) (n now : Nat) : (State.releaseMesh s n now).fixed = s.fixed := by
  unfold State.releaseMesh
  repeat' (first | (simp only [↓State.count_fixed, ↓State.meshRadio_fixed, ↓State.record_fixed, ↓State.setMsh_fixed, ↓mk_fixed, ↓ite_fixed, ite_self, ↓st_ite]; done) | split | (simp only [↓State.count_fixed, ↓State.meshRadio_fixed, ↓State.record_fixed, ↓State.setMsh_fixed, ↓mk_fixed, ↓ite_fixed, ite_self, ↓st_ite]; split) | (simp only [↓State.count_fixed, ↓State.meshRadio_fixed, ↓State.record_fixed, ↓State.setMsh_fixed, ↓mk_fixed, ↓ite_fixed, ite_self, ↓st_ite]) | (with_reducible refine (foldl_fixed _ _ _ (fun _ _ => ?_)).trans ?_) | (with_reducible refine (foldl_pair_fixed _ _ _ (fun _ _ => ?_)).trans ?_) | dsimp only | (simp_all; done))

@[simp] theorem State.broadcast_fixed (s : State) (x : MeshCell) (c glr psdu : Nat) (pt : List Byte) : (State.broadcast s x c glr psdu pt).fixed = s.fixed := by
  unfold State.broadcast
  repeat' (first | (simp only [↓State.count_fixed, ↓State.meshAir_fixed, ↓State.modCluster_fixed, ↓State.noteCtr_fixed, ↓mk_fixed, ↓ite_fixed, ite_self, ↓st_ite]; done) | split | (simp only [↓State.count_fixed, ↓State.meshAir_fixed, ↓State.modCluster_fixed, ↓State.noteCtr_fixed, ↓mk_fixed, ↓ite_fixed, ite_self, ↓st_ite]; split) | (simp only [↓State.count_fixed, ↓State.meshAir_fixed, ↓State.modCluster_fixed, ↓State.noteCtr_fixed, ↓mk_fixed, ↓ite_fixed, ite_self, ↓st_ite]) | (with_reducible refine (foldl_fixed _ _ _ (fun _ _ => ?_)).trans ?_) | (with_reducible refine (foldl_pair_fixed _ _ _ (fun _ _ => ?_)).trans ?_) | dsimp only | (simp_all; done))

@[simp] theorem State.sendBeacon_fixed (s : State) (x : MeshCell) (glr psdu : Nat) : (State.sendBeacon s x glr psdu).fixed = s.fixed := by
  unfold State.sendBeacon
  repeat' (first | (simp only [↓State.broadcast_fixed, ↓State.setMsh_fixed, ↓mk_fixed, ↓ite_fixed, ite_self, ↓st_ite]; done) | split | (simp only [↓State.broadcast_fixed, ↓State.setMsh_fixed, ↓mk_fixed, ↓ite_fixed, ite_self, ↓st_ite]; split) | (simp only [↓State.broadcast_fixed, ↓State.setMsh_fixed, ↓mk_fixed, ↓ite_fixed, ite_self, ↓st_ite]) | (with_reducible refine (foldl_fixed _ _ _ (fun _ _ => ?_)).trans ?_) | (with_reducible refine (foldl_pair_fixed _ _ _ (fun _ _ => ?_)).trans ?_) | dsimp only | (simp_all; done))

@[simp] theorem State.sendDio_fixed (s : State) (x : MeshCell) (c : Nat) (k : Cluster) (glr psdu : Nat) : (State.sendDio s x c k glr psdu).fixed = s.fixed := by
  unfold State.sendDio
  repeat' (first | (simp only [↓State.broadcast_fixed, ↓State.modCluster_fixed, ↓mk_fixed, ↓ite_fixed, ite_self, ↓st_ite]; done) | split | (simp only [↓State.broadcast_fixed, ↓State.modCluster_fixed, ↓mk_fixed, ↓ite_fixed, ite_self, ↓st_ite]; split) | (simp only [↓State.broadcast_fixed, ↓State.modCluster_fixed, ↓mk_fixed, ↓ite_fixed, ite_self, ↓st_ite]) | (with_reducible refine (foldl_fixed _ _ _ (fun _ _ => ?_)).trans ?_) | (with_reducible refine (foldl_pair_fixed _ _ _ (fun _ _ => ?_)).trans ?_) | dsimp only | (simp_all; done))

@[simp] theorem State.sendUnicast_fixed (s : State) (q : MeshQ) (c glr psdu at' : Nat) (more : Bool) : (State.sendUnicast s q c glr psdu at' more).fixed = s.fixed := by
  unfold State.sendUnicast
  repeat' (first | (simp only [↓State.attemptFailed_fixed, ↓State.meshAir_fixed, ↓State.modQ_fixed, ↓State.takeCtr_fixed, ↓State.touchKey_fixed, ↓mk_fixed, ↓ite_fixed, ite_self, ↓st_ite]; done) | split | (simp only [↓State.attemptFailed_fixed, ↓State.meshAir_fixed, ↓State.modQ_fixed, ↓State.takeCtr_fixed, ↓State.touchKey_fixed, ↓mk_fixed, ↓ite_fixed, ite_self, ↓st_ite]; split) | (simp only [↓State.attemptFailed_fixed, ↓State.meshAir_fixed, ↓State.modQ_fixed, ↓State.takeCtr_fixed, ↓State.touchKey_fixed, ↓mk_fixed, ↓ite_fixed, ite_self, ↓st_ite]) | (with_reducible refine (foldl_fixed _ _ _ (fun _ _ => ?_)).trans ?_) | (with_reducible refine (foldl_pair_fixed _ _ _ (fun _ _ => ?_)).trans ?_) | dsimp only | (simp_all; done))

@[simp] theorem execMeshTx_fixed (seq choff psdu glr : Nat) (more ready : Bool) (s : State) : (after (execMeshTx seq choff psdu glr more ready s) s).fixed = s.fixed := by
  unfold execMeshTx
  repeat (first | rw [after_next] | rw [after_ite] | fail)
  repeat' (first | (simp only [↓State.broadcast_fixed, ↓State.count_fixed, ↓State.dropQ_fixed, ↓State.nextUpdate_fixed, ↓State.sendBeacon_fixed, ↓State.sendDio_fixed, ↓State.sendUnicast_fixed, ↓State.setMsh_fixed, ↓mk_fixed, ↓ite_fixed, ite_self, ↓st_ite]; done) | split | (simp only [↓State.broadcast_fixed, ↓State.count_fixed, ↓State.dropQ_fixed, ↓State.nextUpdate_fixed, ↓State.sendBeacon_fixed, ↓State.sendDio_fixed, ↓State.sendUnicast_fixed, ↓State.setMsh_fixed, ↓mk_fixed, ↓ite_fixed, ite_self, ↓st_ite]; split) | (simp only [↓State.broadcast_fixed, ↓State.count_fixed, ↓State.dropQ_fixed, ↓State.nextUpdate_fixed, ↓State.sendBeacon_fixed, ↓State.sendDio_fixed, ↓State.sendUnicast_fixed, ↓State.setMsh_fixed, ↓mk_fixed, ↓ite_fixed, ite_self, ↓st_ite]) | (simp only [pair_fixed ‹State.nextUpdate _ _ _  = (_, _)› (State.nextUpdate_fixed _ _ _ ), ↓State.broadcast_fixed, ↓State.count_fixed, ↓State.dropQ_fixed, ↓State.nextUpdate_fixed, ↓State.sendBeacon_fixed, ↓State.sendDio_fixed, ↓State.sendUnicast_fixed, ↓State.setMsh_fixed, ↓mk_fixed, ↓ite_fixed, ite_self, ↓st_ite]) | (with_reducible refine (foldl_fixed _ _ _ (fun _ _ => ?_)).trans ?_) | (with_reducible refine (foldl_pair_fixed _ _ _ (fun _ _ => ?_)).trans ?_) | dsimp only | (simp_all; done))

@[simp] theorem execMeshAckRx_fixed (a : MeshAckIn) (s : State) : (after (execMeshAckRx a s) s).fixed = s.fixed := by
  unfold execMeshAckRx
  repeat (first | rw [after_next] | rw [after_ite] | fail)
  repeat' (first | (simp only [↓State.reportTx_fixed, ↓mk_fixed, ↓ite_fixed, ite_self, ↓st_ite]; done) | split | (simp only [↓State.reportTx_fixed, ↓mk_fixed, ↓ite_fixed, ite_self, ↓st_ite]; split) | (simp only [↓State.reportTx_fixed, ↓mk_fixed, ↓ite_fixed, ite_self, ↓st_ite]) | (with_reducible refine (foldl_fixed _ _ _ (fun _ _ => ?_)).trans ?_) | (with_reducible refine (foldl_pair_fixed _ _ _ (fun _ _ => ?_)).trans ?_) | dsimp only | (simp_all; done))

@[simp] theorem execMeshAckTimeout_fixed (id : Nat) (s : State) : (after (execMeshAckTimeout id s) s).fixed = s.fixed := by
  unfold execMeshAckTimeout
  repeat (first | rw [after_next] | rw [after_ite] | fail)
  repeat' (first | (simp only [↓State.reportTx_fixed, ↓mk_fixed, ↓ite_fixed, ite_self, ↓st_ite]; done) | split | (simp only [↓State.reportTx_fixed, ↓mk_fixed, ↓ite_fixed, ite_self, ↓st_ite]; split) | (simp only [↓State.reportTx_fixed, ↓mk_fixed, ↓ite_fixed, ite_self, ↓st_ite]) | (with_reducible refine (foldl_fixed _ _ _ (fun _ _ => ?_)).trans ?_) | (with_reducible refine (foldl_pair_fixed _ _ _ (fun _ _ => ?_)).trans ?_) | dsimp only | (simp_all; done))

@[simp] theorem State.releaseIndirect_fixed (s : State) (i : Nat) : (State.releaseIndirect s i).fixed = s.fixed := by
  unfold State.releaseIndirect
  repeat' (first | (simp only [↓State.modQ_fixed, ↓State.setMsh_fixed, ↓mk_fixed, ↓ite_fixed, ite_self, ↓st_ite]; done) | split | (simp only [↓State.modQ_fixed, ↓State.setMsh_fixed, ↓mk_fixed, ↓ite_fixed, ite_self, ↓st_ite]; split) | (simp only [↓State.modQ_fixed, ↓State.setMsh_fixed, ↓mk_fixed, ↓ite_fixed, ite_self, ↓st_ite]) | (with_reducible refine (foldl_fixed _ _ _ (fun _ _ => ?_)).trans ?_) | (with_reducible refine (foldl_pair_fixed _ _ _ (fun _ _ => ?_)).trans ?_) | dsimp only | (simp_all; done))

@[simp] theorem execLegacyFrameRx_fixed (f : MeshIn) (s : State) : (after (execLegacyFrameRx f s) s).fixed = s.fixed := by
  unfold execLegacyFrameRx
  repeat (first | rw [after_next] | rw [after_ite] | fail)
  repeat' (first | (simp only [↓State.deliverUp_fixed, ↓State.deliver_fixed, ↓State.heard_fixed, ↓State.receive_fixed, ↓State.releaseIndirect_fixed, ↓State.runMeshRx_fixed, ↓State.showMesh_fixed, ↓mk_fixed, ↓ite_fixed, ite_self, ↓st_ite]; done) | split | (simp only [↓State.deliverUp_fixed, ↓State.deliver_fixed, ↓State.heard_fixed, ↓State.receive_fixed, ↓State.releaseIndirect_fixed, ↓State.runMeshRx_fixed, ↓State.showMesh_fixed, ↓mk_fixed, ↓ite_fixed, ite_self, ↓st_ite]; split) | (simp only [↓State.deliverUp_fixed, ↓State.deliver_fixed, ↓State.heard_fixed, ↓State.receive_fixed, ↓State.releaseIndirect_fixed, ↓State.runMeshRx_fixed, ↓State.showMesh_fixed, ↓mk_fixed, ↓ite_fixed, ite_self, ↓st_ite]) | (simp only [pair_fixed ‹State.deliver _ _ _ _ _ _  = (_, _)› (State.deliver_fixed _ _ _ _ _ _ ), ↓State.deliverUp_fixed, ↓State.deliver_fixed, ↓State.heard_fixed, ↓State.receive_fixed, ↓State.releaseIndirect_fixed, ↓State.runMeshRx_fixed, ↓State.showMesh_fixed, ↓mk_fixed, ↓ite_fixed, ite_self, ↓st_ite]) | (simp only [pair_fixed ‹State.receive _ _ _ _ _  = (_, _)› (State.receive_fixed _ _ _ _ _ ), ↓State.deliverUp_fixed, ↓State.deliver_fixed, ↓State.heard_fixed, ↓State.receive_fixed, ↓State.releaseIndirect_fixed, ↓State.runMeshRx_fixed, ↓State.showMesh_fixed, ↓mk_fixed, ↓ite_fixed, ite_self, ↓st_ite]) | (with_reducible refine (State.runMeshRx_fixed _ _ _ (fun _ _ _ => ?_)).trans ?_) | (with_reducible refine (foldl_fixed _ _ _ (fun _ _ => ?_)).trans ?_) | (with_reducible refine (foldl_pair_fixed _ _ _ (fun _ _ => ?_)).trans ?_) | dsimp only | (simp_all; done))

@[simp] theorem execPendingExpired_fixed (s : State) : (after (execPendingExpired s) s).fixed = s.fixed := by
  unfold execPendingExpired
  repeat (first | rw [after_next] | rw [after_ite] | fail)
  repeat' (first | (simp only [↓State.count_fixed, ↓State.setMsh_fixed, ↓mk_fixed, ↓ite_fixed, ite_self, ↓st_ite]; done) | split | (simp only [↓State.count_fixed, ↓State.setMsh_fixed, ↓mk_fixed, ↓ite_fixed, ite_self, ↓st_ite]; split) | (simp only [↓State.count_fixed, ↓State.setMsh_fixed, ↓mk_fixed, ↓ite_fixed, ite_self, ↓st_ite]) | (with_reducible refine (foldl_fixed _ _ _ (fun _ _ => ?_)).trans ?_) | (with_reducible refine (foldl_pair_fixed _ _ _ (fun _ _ => ?_)).trans ?_) | dsimp only | (simp_all; done))

@[simp] theorem execCsmaBackoff_fixed (chan units down psdu glr : Nat) (more : Bool) (s : State) : (after (execCsmaBackoff chan units down psdu glr more s) s).fixed = s.fixed := by
  unfold execCsmaBackoff
  repeat (first | rw [after_next] | rw [after_ite] | fail)
  repeat' (first | (simp only [↓State.dropQ_fixed, ↓State.modQ_fixed, ↓State.reportTx_fixed, ↓State.sendUnicast_fixed, ↓State.setMsh_fixed, ↓mk_fixed, ↓ite_fixed, ite_self, ↓st_ite]; done) | split | (simp only [↓State.dropQ_fixed, ↓State.modQ_fixed, ↓State.reportTx_fixed, ↓State.sendUnicast_fixed, ↓State.setMsh_fixed, ↓mk_fixed, ↓ite_fixed, ite_self, ↓st_ite]; split) | (simp only [↓State.dropQ_fixed, ↓State.modQ_fixed, ↓State.reportTx_fixed, ↓State.sendUnicast_fixed, ↓State.setMsh_fixed, ↓mk_fixed, ↓ite_fixed, ite_self, ↓st_ite]) | (with_reducible refine (foldl_fixed _ _ _ (fun _ _ => ?_)).trans ?_) | (with_reducible refine (foldl_pair_fixed _ _ _ (fun _ _ => ?_)).trans ?_) | dsimp only | (simp_all; done))

end Sys2Proof.Machine
end

