-- ==== Sys2Proof/Laws/FixedMeshCmds.lean ====
section
/-! SUPPORT. What the operations of Machine/MeshCmds.lean leave alone (Laws/Fixed.lean). -/

set_option linter.all false

namespace Sys2Proof.Machine

open Sys2Proof

@[simp] theorem execMshClusterSet_fixed (d : Desc) (s : State) : (after (execMshClusterSet d s) s).fixed = s.fixed := by
  unfold execMshClusterSet
  repeat (first | rw [after_next] | rw [after_ite] | fail)
  repeat' (first | (simp only [↓State.command_fixed, ↓State.fail_fixed, ↓State.modCluster_fixed, ↓State.ok_fixed, ↓State.setMsh_fixed, ↓State.showCache_fixed, ↓State.showMesh_fixed, ↓State.usedS_fixed, ↓mk_fixed, ↓ite_fixed, ite_self, ↓st_ite]; done) | split | (simp only [↓State.command_fixed, ↓State.fail_fixed, ↓State.modCluster_fixed, ↓State.ok_fixed, ↓State.setMsh_fixed, ↓State.showCache_fixed, ↓State.showMesh_fixed, ↓State.usedS_fixed, ↓mk_fixed, ↓ite_fixed, ite_self, ↓st_ite]; split) | (simp only [↓State.command_fixed, ↓State.fail_fixed, ↓State.modCluster_fixed, ↓State.ok_fixed, ↓State.setMsh_fixed, ↓State.showCache_fixed, ↓State.showMesh_fixed, ↓State.usedS_fixed, ↓mk_fixed, ↓ite_fixed, ite_self, ↓st_ite]) | (with_reducible refine (State.command_fixed _ _ _ (fun _ => ?_)).trans ?_) | (with_reducible refine (foldl_fixed _ _ _ (fun _ _ => ?_)).trans ?_) | (with_reducible refine (foldl_pair_fixed _ _ _ (fun _ _ => ?_)).trans ?_) | dsimp only | (simp_all; done))

theorem State.addNode_fixed (s : State) (b : List Byte) {t} (h : State.addNode s b = .ok t) : t.1.fixed = s.fixed := by
  unfold State.addNode at h
  dsimp only at h
  repeat' split at h
  all_goals first | (cases h; done) | (cases h; simp only [State.setNode_fixed])

@[simp] theorem State.addNodes_fixed (s : State) (b : List Byte) (x0 x1 : Nat) : (State.addNodes s b x0 x1).1.fixed = s.fixed := by
  induction x0 generalizing s x1 with
  | zero => rfl
  | succ n ih =>
    unfold State.addNodes
    split
    · rfl
    · dsimp only
      rw [ih]
      exact State.addNode_fixed _ _ ‹State.addNode _ _ = .ok _›

@[simp] theorem execMshNodeAdd_fixed (d : Desc) (s : State) : (after (execMshNodeAdd d s) s).fixed = s.fixed := by
  unfold execMshNodeAdd
  repeat (first | rw [after_next] | rw [after_ite] | fail)
  repeat' (first | (simp only [↓State.addNodes_fixed, ↓State.command_fixed, ↓State.fail_fixed, ↓State.showMesh_fixed, ↓mk_fixed, ↓ite_fixed, ite_self, ↓st_ite]; done) | split | (simp only [↓State.addNodes_fixed, ↓State.command_fixed, ↓State.fail_fixed, ↓State.showMesh_fixed, ↓mk_fixed, ↓ite_fixed, ite_self, ↓st_ite]; split) | (simp only [↓State.addNodes_fixed, ↓State.command_fixed, ↓State.fail_fixed, ↓State.showMesh_fixed, ↓mk_fixed, ↓ite_fixed, ite_self, ↓st_ite]) | (simp only [pair_fixed ‹State.addNodes _ _ _ _  = (_, _)› (State.addNodes_fixed _ _ _ _ ), ↓State.addNodes_fixed, ↓State.command_fixed, ↓State.fail_fixed, ↓State.showMesh_fixed, ↓mk_fixed, ↓ite_fixed, ite_self, ↓st_ite]) | (with_reducible refine (State.command_fixed _ _ _ (fun _ => ?_)).trans ?_) | (with_reducible refine (foldl_fixed _ _ _ (fun _ _ => ?_)).trans ?_) | (with_reducible refine (foldl_pair_fixed _ _ _ (fun _ _ => ?_)).trans ?_) | dsimp only | (simp_all; done))

@[simp] theorem State.removeNode_fixed (s : State) (i : Nat) : (State.removeNode s i).fixed = s.fixed := by
  unfold State.removeNode
  repeat' (first | (simp only [↓State.departNode_fixed, ↓State.departOne_fixed, ↓State.setMsh_fixed, ↓State.showMesh_fixed, ↓mk_fixed, ↓ite_fixed, ite_self, ↓st_ite]; done) | split | (simp only [↓State.departNode_fixed, ↓State.departOne_fixed, ↓State.setMsh_fixed, ↓State.showMesh_fixed, ↓mk_fixed, ↓ite_fixed, ite_self, ↓st_ite]; split) | (simp only [↓State.departNode_fixed, ↓State.departOne_fixed, ↓State.setMsh_fixed, ↓State.showMesh_fixed, ↓mk_fixed, ↓ite_fixed, ite_self, ↓st_ite]) | (with_reducible refine (foldl_fixed _ _ _ (fun _ _ => ?_)).trans ?_) | (with_reducible refine (foldl_pair_fixed _ _ _ (fun _ _ => ?_)).trans ?_) | dsimp only | (simp_all; done))

@[simp] theorem execMshNodeRemove_fixed (d : Desc) (s : State) : (after (execMshNodeRemove d s) s).fixed = s.fixed := by
  unfold execMshNodeRemove
  repeat (first | rw [after_next] | rw [after_ite] | fail)
  repeat' (first | (simp only [↓State.command_fixed, ↓State.fail_fixed, ↓State.ok_fixed, ↓State.removeNode_fixed, ↓mk_fixed, ↓ite_fixed, ite_self, ↓st_ite]; done) | split | (simp only [↓State.command_fixed, ↓State.fail_fixed, ↓State.ok_fixed, ↓State.removeNode_fixed, ↓mk_fixed, ↓ite_fixed, ite_self, ↓st_ite]; split) | (simp only [↓State.command_fixed, ↓State.fail_fixed, ↓State.ok_fixed, ↓State.removeNode_fixed, ↓mk_fixed, ↓ite_fixed, ite_self, ↓st_ite]) | (with_reducible refine (State.command_fixed _ _ _ (fun _ => ?_)).trans ?_) | (with_reducible refine (foldl_fixed _ _ _ (fun _ _ => ?_)).trans ?_) | (with_reducible refine (foldl_pair_fixed _ _ _ (fun _ _ => ?_)).trans ?_) | dsimp only | (simp_all; done))

@[simp] theorem execMshNodeRead_fixed (d : Desc) (s : State) : (after (execMshNodeRead d s) s).fixed = s.fixed := by
  unfold execMshNodeRead
  repeat (first | rw [after_next] | rw [after_ite] | fail)
  repeat' (first | (simp only [↓State.answer_fixed, ↓State.command_fixed, ↓State.fail_fixed, ↓mk_fixed, ↓ite_fixed, ite_self, ↓st_ite]; done) | split | (simp only [↓State.answer_fixed, ↓State.command_fixed, ↓State.fail_fixed, ↓mk_fixed, ↓ite_fixed, ite_self, ↓st_ite]; split) | (simp only [↓State.answer_fixed, ↓State.command_fixed, ↓State.fail_fixed, ↓mk_fixed, ↓ite_fixed, ite_self, ↓st_ite]) | (with_reducible refine (State.command_fixed _ _ _ (fun _ => ?_)).trans ?_) | (with_reducible refine (foldl_fixed _ _ _ (fun _ _ => ?_)).trans ?_) | (with_reducible refine (foldl_pair_fixed _ _ _ (fun _ _ => ?_)).trans ?_) | dsimp only | (simp_all; done))

@[simp] theorem execMshNbrRead_fixed (d : Desc) (s : State) : (after (execMshNbrRead d s) s).fixed = s.fixed := by
  unfold execMshNbrRead
  repeat (first | rw [after_next] | rw [after_ite] | fail)
  repeat' (first | (simp only [↓State.answer_fixed, ↓State.command_fixed, ↓State.fail_fixed, ↓mk_fixed, ↓ite_fixed, ite_self, ↓st_ite]; done) | split | (simp only [↓State.answer_fixed, ↓State.command_fixed, ↓State.fail_fixed, ↓mk_fixed, ↓ite_fixed, ite_self, ↓st_ite]; split) | (simp only [↓State.answer_fixed, ↓State.command_fixed, ↓State.fail_fixed, ↓mk_fixed, ↓ite_fixed, ite_self, ↓st_ite]) | (with_reducible refine (State.command_fixed _ _ _ (fun _ => ?_)).trans ?_) | (with_reducible refine (foldl_fixed _ _ _ (fun _ _ => ?_)).trans ?_) | (with_reducible refine (foldl_pair_fixed _ _ _ (fun _ _ => ?_)).trans ?_) | dsimp only | (simp_all; done))

@[simp] theorem State.renewCluster_fixed (s : State) (c : Nat) (k : Cluster) : (State.renewCluster s c k).fixed = s.fixed := by
  unfold State.renewCluster
  repeat' (first | (simp only [↓State.modCluster_fixed, ↓State.sendClusterRekey_fixed, ↓mk_fixed, ↓ite_fixed, ite_self, ↓st_ite]; done) | split | (simp only [↓State.modCluster_fixed, ↓State.sendClusterRekey_fixed, ↓mk_fixed, ↓ite_fixed, ite_self, ↓st_ite]; split) | (simp only [↓State.modCluster_fixed, ↓State.sendClusterRekey_fixed, ↓mk_fixed, ↓ite_fixed, ite_self, ↓st_ite]) | (with_reducible refine (foldl_fixed _ _ _ (fun _ _ => ?_)).trans ?_) | (with_reducible refine (foldl_pair_fixed _ _ _ (fun _ _ => ?_)).trans ?_) | dsimp only | (simp_all; done))

@[simp] theorem execMshRekey_fixed (d : Desc) (s : State) : (after (execMshRekey d s) s).fixed = s.fixed := by
  unfold execMshRekey
  repeat (first | rw [after_next] | rw [after_ite] | fail)
  repeat' (first | (simp only [↓State.command_fixed, ↓State.fail_fixed, ↓State.modNbr_fixed, ↓State.modNode_fixed, ↓State.ok_fixed, ↓State.renewCluster_fixed, ↓State.showCache_fixed, ↓State.startRenewal_fixed, ↓mk_fixed, ↓ite_fixed, ite_self, ↓st_ite]; done) | split | (simp only [↓State.command_fixed, ↓State.fail_fixed, ↓State.modNbr_fixed, ↓State.modNode_fixed, ↓State.ok_fixed, ↓State.renewCluster_fixed, ↓State.showCache_fixed, ↓State.startRenewal_fixed, ↓mk_fixed, ↓ite_fixed, ite_self, ↓st_ite]; split) | (simp only [↓State.command_fixed, ↓State.fail_fixed, ↓State.modNbr_fixed, ↓State.modNode_fixed, ↓State.ok_fixed, ↓State.renewCluster_fixed, ↓State.showCache_fixed, ↓State.startRenewal_fixed, ↓mk_fixed, ↓ite_fixed, ite_self, ↓st_ite]) | (with_reducible refine (State.command_fixed _ _ _ (fun _ => ?_)).trans ?_) | (with_reducible refine (foldl_fixed _ _ _ (fun _ _ => ?_)).trans ?_) | (with_reducible refine (foldl_pair_fixed _ _ _ (fun _ _ => ?_)).trans ?_) | dsimp only | (simp_all; done))

@[simp] theorem execMshRepair_fixed (d : Desc) (s : State) : (after (execMshRepair d s) s).fixed = s.fixed := by
  unfold execMshRepair
  repeat (first | rw [after_next] | rw [after_ite] | fail)
  repeat' (first | (simp only [↓State.command_fixed, ↓State.fail_fixed, ↓State.modCluster_fixed, ↓State.ok_fixed, ↓mk_fixed, ↓ite_fixed, ite_self, ↓st_ite]; done) | split | (simp only [↓State.command_fixed, ↓State.fail_fixed, ↓State.modCluster_fixed, ↓State.ok_fixed, ↓mk_fixed, ↓ite_fixed, ite_self, ↓st_ite]; split) | (simp only [↓State.command_fixed, ↓State.fail_fixed, ↓State.modCluster_fixed, ↓State.ok_fixed, ↓mk_fixed, ↓ite_fixed, ite_self, ↓st_ite]) | (with_reducible refine (State.command_fixed _ _ _ (fun _ => ?_)).trans ?_) | (with_reducible refine (foldl_fixed _ _ _ (fun _ _ => ?_)).trans ?_) | (with_reducible refine (foldl_pair_fixed _ _ _ (fun _ _ => ?_)).trans ?_) | dsimp only | (simp_all; done))

@[simp] theorem execMshActuate_fixed (d : Desc) (s : State) : (after (execMshActuate d s) s).fixed = s.fixed := by
  unfold execMshActuate
  repeat (first | rw [after_next] | rw [after_ite] | fail)
  repeat' (first | (simp only [↓State.actuate_fixed, ↓State.command_fixed, ↓State.fail_fixed, ↓State.ok_fixed, ↓mk_fixed, ↓ite_fixed, ite_self, ↓st_ite]; done) | split | (simp only [↓State.actuate_fixed, ↓State.command_fixed, ↓State.fail_fixed, ↓State.ok_fixed, ↓mk_fixed, ↓ite_fixed, ite_self, ↓st_ite]; split) | (simp only [↓State.actuate_fixed, ↓State.command_fixed, ↓State.fail_fixed, ↓State.ok_fixed, ↓mk_fixed, ↓ite_fixed, ite_self, ↓st_ite]) | (with_reducible refine (State.command_fixed _ _ _ (fun _ => ?_)).trans ?_) | (with_reducible refine (foldl_fixed _ _ _ (fun _ _ => ?_)).trans ?_) | (with_reducible refine (foldl_pair_fixed _ _ _ (fun _ _ => ?_)).trans ?_) | dsimp only | (simp_all; done))

end Sys2Proof.Machine
end

