-- ==== Sys2Proof/Laws/FixedStopClear.lean ====
section
/-! SUPPORT. What the operations of Machine/StopClear.lean leave alone (Laws/Fixed.lean). -/

set_option linter.all false

namespace Sys2Proof.Machine

open Sys2Proof

@[simp] theorem State.clearStop_fixed (s : State) (robot : Option Nat) (sn : Nat) : (State.clearStop s robot sn).fixed = s.fixed := by
  unfold State.clearStop
  repeat' (first | (simp only [↓State.altStopCleared_fixed, ↓State.applyOut_fixed, ↓State.logInput_fixed, ↓State.put_fixed, ↓State.record_fixed, ↓State.setStp_fixed, ↓State.showRobotStops_fixed, ↓mk_fixed, ↓ite_fixed, ite_self, ↓st_ite]; done) | split | (simp only [↓State.altStopCleared_fixed, ↓State.applyOut_fixed, ↓State.logInput_fixed, ↓State.put_fixed, ↓State.record_fixed, ↓State.setStp_fixed, ↓State.showRobotStops_fixed, ↓mk_fixed, ↓ite_fixed, ite_self, ↓st_ite]; split) | (simp only [↓State.altStopCleared_fixed, ↓State.applyOut_fixed, ↓State.logInput_fixed, ↓State.put_fixed, ↓State.record_fixed, ↓State.setStp_fixed, ↓State.showRobotStops_fixed, ↓mk_fixed, ↓ite_fixed, ite_self, ↓st_ite]) | (with_reducible refine (foldl_fixed _ _ _ (fun _ _ => ?_)).trans ?_) | (with_reducible refine (foldl_pair_fixed _ _ _ (fun _ _ => ?_)).trans ?_) | dsimp only | (simp_all; done))

@[simp] theorem execStpClear_fixed (d : Desc) (s : State) : (after (execStpClear d s) s).fixed = s.fixed := by
  unfold execStpClear
  repeat (first | rw [after_next] | rw [after_ite] | fail)
  repeat' (first | (simp only [↓State.clearStop_fixed, ↓State.command_fixed, ↓State.fail_fixed, ↓State.later_fixed, ↓State.ok_fixed, ↓State.setStp_fixed, ↓mk_fixed, ↓ite_fixed, ite_self, ↓st_ite]; done) | split | (simp only [↓State.clearStop_fixed, ↓State.command_fixed, ↓State.fail_fixed, ↓State.later_fixed, ↓State.ok_fixed, ↓State.setStp_fixed, ↓mk_fixed, ↓ite_fixed, ite_self, ↓st_ite]; split) | (simp only [↓State.clearStop_fixed, ↓State.command_fixed, ↓State.fail_fixed, ↓State.later_fixed, ↓State.ok_fixed, ↓State.setStp_fixed, ↓mk_fixed, ↓ite_fixed, ite_self, ↓st_ite]) | (with_reducible refine (State.command_fixed _ _ _ (fun _ => ?_)).trans ?_) | (with_reducible refine (foldl_fixed _ _ _ (fun _ _ => ?_)).trans ?_) | (with_reducible refine (foldl_pair_fixed _ _ _ (fun _ _ => ?_)).trans ?_) | dsimp only | (simp_all; done))

@[simp] theorem execStopCleared_fixed (s : State) : (after (execStopCleared s) s).fixed = s.fixed := by
  unfold execStopCleared
  repeat (first | rw [after_next] | rw [after_ite] | fail)
  repeat' (first | (simp only [↓State.clearStop_fixed, ↓State.fail_fixed, ↓State.finish_fixed, ↓State.ok_fixed, ↓State.setStp_fixed, ↓mk_fixed, ↓ite_fixed, ite_self, ↓st_ite]; done) | split | (simp only [↓State.clearStop_fixed, ↓State.fail_fixed, ↓State.finish_fixed, ↓State.ok_fixed, ↓State.setStp_fixed, ↓mk_fixed, ↓ite_fixed, ite_self, ↓st_ite]; split) | (simp only [↓State.clearStop_fixed, ↓State.fail_fixed, ↓State.finish_fixed, ↓State.ok_fixed, ↓State.setStp_fixed, ↓mk_fixed, ↓ite_fixed, ite_self, ↓st_ite]) | (with_reducible refine (foldl_fixed _ _ _ (fun _ _ => ?_)).trans ?_) | (with_reducible refine (foldl_pair_fixed _ _ _ (fun _ _ => ?_)).trans ?_) | dsimp only | (simp_all; done))

@[simp] theorem State.stopEdge_fixed (s : State) : (State.stopEdge s).fixed = s.fixed := by
  unfold State.stopEdge
  repeat' (first | (simp only [↓State.setStp_fixed, ↓mk_fixed, ↓ite_fixed, ite_self, ↓st_ite]; done) | split | (simp only [↓State.setStp_fixed, ↓mk_fixed, ↓ite_fixed, ite_self, ↓st_ite]; split) | (simp only [↓State.setStp_fixed, ↓mk_fixed, ↓ite_fixed, ite_self, ↓st_ite]) | (with_reducible refine (foldl_fixed _ _ _ (fun _ _ => ?_)).trans ?_) | (with_reducible refine (foldl_pair_fixed _ _ _ (fun _ _ => ?_)).trans ?_) | dsimp only | (simp_all; done))

end Sys2Proof.Machine
end

