-- ==== Sys2Proof/Laws/FixedPairBase.lean ====
section
/-! SUPPORT. What the operations of Machine/PairBase.lean leave alone (Laws/Fixed.lean). -/

set_option linter.all false

namespace Sys2Proof.Machine

open Sys2Proof

@[simp] theorem State.setRole_fixed (s : State) (r : Role) : (State.setRole s r).fixed = s.fixed := by
  unfold State.setRole
  repeat' (first | (simp only [↓State.put_fixed, ↓mk_fixed, ↓ite_fixed, ite_self, ↓st_ite]; done) | split | (simp only [↓State.put_fixed, ↓mk_fixed, ↓ite_fixed, ite_self, ↓st_ite]; split) | (simp only [↓State.put_fixed, ↓mk_fixed, ↓ite_fixed, ite_self, ↓st_ite]) | (with_reducible refine (foldl_fixed _ _ _ (fun _ _ => ?_)).trans ?_) | (with_reducible refine (foldl_pair_fixed _ _ _ (fun _ _ => ?_)).trans ?_) | dsimp only | (simp_all; done))

@[simp] theorem State.addMism_fixed (s : State) (c : Nat) : (State.addMism s c).fixed = s.fixed := by
  unfold State.addMism
  repeat' (first | (simp only [↓State.put_fixed, ↓State.record_fixed, ↓State.setPai_fixed, ↓mk_fixed, ↓ite_fixed, ite_self, ↓st_ite]; done) | split | (simp only [↓State.put_fixed, ↓State.record_fixed, ↓State.setPai_fixed, ↓mk_fixed, ↓ite_fixed, ite_self, ↓st_ite]; split) | (simp only [↓State.put_fixed, ↓State.record_fixed, ↓State.setPai_fixed, ↓mk_fixed, ↓ite_fixed, ite_self, ↓st_ite]) | (with_reducible refine (foldl_fixed _ _ _ (fun _ _ => ?_)).trans ?_) | (with_reducible refine (foldl_pair_fixed _ _ _ (fun _ _ => ?_)).trans ?_) | dsimp only | (simp_all; done))

@[simp] theorem State.dropMism_fixed (s : State) (c : Nat) : (State.dropMism s c).fixed = s.fixed := by
  unfold State.dropMism
  repeat' (first | (simp only [↓State.put_fixed, ↓State.setPai_fixed, ↓mk_fixed, ↓ite_fixed, ite_self, ↓st_ite]; done) | split | (simp only [↓State.put_fixed, ↓State.setPai_fixed, ↓mk_fixed, ↓ite_fixed, ite_self, ↓st_ite]; split) | (simp only [↓State.put_fixed, ↓State.setPai_fixed, ↓mk_fixed, ↓ite_fixed, ite_self, ↓st_ite]) | (with_reducible refine (foldl_fixed _ _ _ (fun _ _ => ?_)).trans ?_) | (with_reducible refine (foldl_pair_fixed _ _ _ (fun _ _ => ?_)).trans ?_) | dsimp only | (simp_all; done))

@[simp] theorem State.noteMic_fixed (s : State) (good : Bool) : (State.noteMic s good).fixed = s.fixed := by
  unfold State.noteMic
  repeat' (first | (simp only [↓State.addMism_fixed, ↓State.dropMism_fixed, ↓State.setPai_fixed, ↓mk_fixed, ↓ite_fixed, ite_self, ↓st_ite]; done) | split | (simp only [↓State.addMism_fixed, ↓State.dropMism_fixed, ↓State.setPai_fixed, ↓mk_fixed, ↓ite_fixed, ite_self, ↓st_ite]; split) | (simp only [↓State.addMism_fixed, ↓State.dropMism_fixed, ↓State.setPai_fixed, ↓mk_fixed, ↓ite_fixed, ite_self, ↓st_ite]) | (with_reducible refine (foldl_fixed _ _ _ (fun _ _ => ?_)).trans ?_) | (with_reducible refine (foldl_pair_fixed _ _ _ (fun _ _ => ?_)).trans ?_) | dsimp only | (simp_all; done))

@[simp] theorem State.pairFault_fixed (s : State) (kind mateEpoch ns : Nat) : (State.pairFault s kind mateEpoch ns).fixed = s.fixed := by
  unfold State.pairFault
  repeat' (first | (simp only [↓State.raiseAll_fixed, ↓State.record_fixed, ↓State.setStp_fixed, ↓mk_fixed, ↓ite_fixed, ite_self, ↓st_ite]; done) | split | (simp only [↓State.raiseAll_fixed, ↓State.record_fixed, ↓State.setStp_fixed, ↓mk_fixed, ↓ite_fixed, ite_self, ↓st_ite]; split) | (simp only [↓State.raiseAll_fixed, ↓State.record_fixed, ↓State.setStp_fixed, ↓mk_fixed, ↓ite_fixed, ite_self, ↓st_ite]) | (with_reducible refine (foldl_fixed _ _ _ (fun _ _ => ?_)).trans ?_) | (with_reducible refine (foldl_pair_fixed _ _ _ (fun _ _ => ?_)).trans ?_) | dsimp only | (simp_all; done))

@[simp] theorem State.endPairFault_fixed (s : State) (kind : Nat) : (State.endPairFault s kind).fixed = s.fixed := by
  unfold State.endPairFault
  repeat' (first | (simp only [↓State.setStp_fixed, ↓mk_fixed, ↓ite_fixed, ite_self, ↓st_ite]; done) | split | (simp only [↓State.setStp_fixed, ↓mk_fixed, ↓ite_fixed, ite_self, ↓st_ite]; split) | (simp only [↓State.setStp_fixed, ↓mk_fixed, ↓ite_fixed, ite_self, ↓st_ite]) | (with_reducible refine (foldl_fixed _ _ _ (fun _ _ => ?_)).trans ?_) | (with_reducible refine (foldl_pair_fixed _ _ _ (fun _ _ => ?_)).trans ?_) | dsimp only | (simp_all; done))

@[simp] theorem State.seeEpoch_fixed (s : State) (e : Nat) (auth : Bool) (ns : Nat) : (State.seeEpoch s e auth ns).fixed = s.fixed := by
  unfold State.seeEpoch
  repeat' (first | (simp only [↓State.pairFault_fixed, ↓State.peak_fixed, ↓State.setPai_fixed, ↓mk_fixed, ↓ite_fixed, ite_self, ↓st_ite]; done) | split | (simp only [↓State.pairFault_fixed, ↓State.peak_fixed, ↓State.setPai_fixed, ↓mk_fixed, ↓ite_fixed, ite_self, ↓st_ite]; split) | (simp only [↓State.pairFault_fixed, ↓State.peak_fixed, ↓State.setPai_fixed, ↓mk_fixed, ↓ite_fixed, ite_self, ↓st_ite]) | (with_reducible refine (foldl_fixed _ _ _ (fun _ _ => ?_)).trans ?_) | (with_reducible refine (foldl_pair_fixed _ _ _ (fun _ _ => ?_)).trans ?_) | dsimp only | (simp_all; done))

@[simp] theorem State.admitMate_fixed (s : State) : (State.admitMate s).1.fixed = s.fixed := by
  unfold State.admitMate
  repeat' (first | (simp only [↓State.admitDrop_fixed, ↓State.drawn_fixed, ↓State.freeFrame_fixed, ↓State.weighPause_fixed, ↓mk_fixed, ↓ite_fixed, ite_self, ↓st_ite]; done) | split | (simp only [↓State.admitDrop_fixed, ↓State.drawn_fixed, ↓State.freeFrame_fixed, ↓State.weighPause_fixed, ↓mk_fixed, ↓ite_fixed, ite_self, ↓st_ite]; split) | (simp only [↓State.admitDrop_fixed, ↓State.drawn_fixed, ↓State.freeFrame_fixed, ↓State.weighPause_fixed, ↓mk_fixed, ↓ite_fixed, ite_self, ↓st_ite]) | (simp only [optpair_fixed ‹State.storeFrame _ _ _ _ _ _  = some (_, _)› (fun _ h => State.storeFrame_fixed _ _ _ _ _ _  h), ↓State.admitDrop_fixed, ↓State.drawn_fixed, ↓State.freeFrame_fixed, ↓State.weighPause_fixed, ↓mk_fixed, ↓ite_fixed, ite_self, ↓st_ite]) | (with_reducible refine (foldl_fixed _ _ _ (fun _ _ => ?_)).trans ?_) | (with_reducible refine (foldl_pair_fixed _ _ _ (fun _ _ => ?_)).trans ?_) | dsimp only | (simp_all; done))

@[simp] theorem State.takeFrame_fixed (s : State) (h : MateHdr) (auth : Bool) (ns : Nat) : (State.takeFrame s h auth ns).1.fixed = s.fixed := by
  unfold State.takeFrame
  repeat' (first | (simp only [↓State.addMism_fixed, ↓State.admitMate_fixed, ↓State.dropMism_fixed, ↓State.noteMic_fixed, ↓State.seeEpoch_fixed, ↓State.setPai_fixed, ↓mk_fixed, ↓ite_fixed, ite_self, ↓st_ite]; done) | split | (simp only [↓State.addMism_fixed, ↓State.admitMate_fixed, ↓State.dropMism_fixed, ↓State.noteMic_fixed, ↓State.seeEpoch_fixed, ↓State.setPai_fixed, ↓mk_fixed, ↓ite_fixed, ite_self, ↓st_ite]; split) | (simp only [↓State.addMism_fixed, ↓State.admitMate_fixed, ↓State.dropMism_fixed, ↓State.noteMic_fixed, ↓State.seeEpoch_fixed, ↓State.setPai_fixed, ↓mk_fixed, ↓ite_fixed, ite_self, ↓st_ite]) | (simp only [pair_fixed ‹State.admitMate _  = (_, _)› (State.admitMate_fixed _ ), ↓State.addMism_fixed, ↓State.admitMate_fixed, ↓State.dropMism_fixed, ↓State.noteMic_fixed, ↓State.seeEpoch_fixed, ↓State.setPai_fixed, ↓mk_fixed, ↓ite_fixed, ite_self, ↓st_ite]) | (with_reducible refine (foldl_fixed _ _ _ (fun _ _ => ?_)).trans ?_) | (with_reducible refine (foldl_pair_fixed _ _ _ (fun _ _ => ?_)).trans ?_) | dsimp only | (simp_all; done))

@[simp] theorem State.setSolo_fixed (s : State) (m : Nat) : (State.setSolo s m).fixed = s.fixed := by
  unfold State.setSolo
  repeat' (first | (simp only [↓State.put_fixed, ↓State.record_fixed, ↓State.setPai_fixed, ↓mk_fixed, ↓ite_fixed, ite_self, ↓st_ite]; done) | split | (simp only [↓State.put_fixed, ↓State.record_fixed, ↓State.setPai_fixed, ↓mk_fixed, ↓ite_fixed, ite_self, ↓st_ite]; split) | (simp only [↓State.put_fixed, ↓State.record_fixed, ↓State.setPai_fixed, ↓mk_fixed, ↓ite_fixed, ite_self, ↓st_ite]) | (with_reducible refine (foldl_fixed _ _ _ (fun _ _ => ?_)).trans ?_) | (with_reducible refine (foldl_pair_fixed _ _ _ (fun _ _ => ?_)).trans ?_) | dsimp only | (simp_all; done))

@[simp] theorem State.presentLate_fixed (s : State) (sn : Nat) : (State.presentLate s sn).fixed = s.fixed := by
  unfold State.presentLate
  repeat' (first | (simp only [↓State.presentWork_fixed, ↓mk_fixed, ↓ite_fixed, ite_self, ↓st_ite]; done) | split | (simp only [↓State.presentWork_fixed, ↓mk_fixed, ↓ite_fixed, ite_self, ↓st_ite]; split) | (simp only [↓State.presentWork_fixed, ↓mk_fixed, ↓ite_fixed, ite_self, ↓st_ite]) | (with_reducible refine (foldl_fixed _ _ _ (fun _ _ => ?_)).trans ?_) | (with_reducible refine (foldl_pair_fixed _ _ _ (fun _ _ => ?_)).trans ?_) | dsimp only | (simp_all; done))

@[simp] theorem State.pendingStops_fixed (s : State) : (State.pendingStops s).fixed = s.fixed := by
  unfold State.pendingStops
  repeat' (first | (simp only [↓State.raiseRobot_fixed, ↓State.setStp_fixed, ↓mk_fixed, ↓ite_fixed, ite_self, ↓st_ite]; done) | split | (simp only [↓State.raiseRobot_fixed, ↓State.setStp_fixed, ↓mk_fixed, ↓ite_fixed, ite_self, ↓st_ite]; split) | (simp only [↓State.raiseRobot_fixed, ↓State.setStp_fixed, ↓mk_fixed, ↓ite_fixed, ite_self, ↓st_ite]) | (with_reducible refine (foldl_fixed _ _ _ (fun _ _ => ?_)).trans ?_) | (with_reducible refine (foldl_pair_fixed _ _ _ (fun _ _ => ?_)).trans ?_) | dsimp only | (simp_all; done))

@[simp] theorem State.endHandover_fixed (s : State) : (State.endHandover s).fixed = s.fixed := by
  unfold State.endHandover
  repeat' (first | (simp only [↓State.fail_fixed, ↓State.finish_fixed, ↓State.put_fixed, ↓State.setPai_fixed, ↓mk_fixed, ↓ite_fixed, ite_self, ↓st_ite]; done) | split | (simp only [↓State.fail_fixed, ↓State.finish_fixed, ↓State.put_fixed, ↓State.setPai_fixed, ↓mk_fixed, ↓ite_fixed, ite_self, ↓st_ite]; split) | (simp only [↓State.fail_fixed, ↓State.finish_fixed, ↓State.put_fixed, ↓State.setPai_fixed, ↓mk_fixed, ↓ite_fixed, ite_self, ↓st_ite]) | (with_reducible refine (foldl_fixed _ _ _ (fun _ _ => ?_)).trans ?_) | (with_reducible refine (foldl_pair_fixed _ _ _ (fun _ _ => ?_)).trans ?_) | dsimp only | (simp_all; done))

@[simp] theorem State.assume_fixed (s : State) (cause : Nat) : (State.assume s cause).fixed = s.fixed := by
  unfold State.assume
  repeat' (first | (simp only [↓State.addJob_fixed, ↓State.count_fixed, ↓State.dropDesc_fixed, ↓State.endPairFault_fixed, ↓State.enterHoldover_fixed, ↓State.meshSkip_fixed, ↓State.operate_fixed, ↓State.pendingStops_fixed, ↓State.presentLate_fixed, ↓State.put_fixed, ↓State.record_fixed, ↓State.setDev_fixed, ↓State.setNum_fixed, ↓State.setPai_fixed, ↓State.setRings_fixed, ↓State.setRole_fixed, ↓mk_fixed, ↓ite_fixed, ite_self, ↓st_ite]; done) | split | (simp only [↓State.addJob_fixed, ↓State.count_fixed, ↓State.dropDesc_fixed, ↓State.endPairFault_fixed, ↓State.enterHoldover_fixed, ↓State.meshSkip_fixed, ↓State.operate_fixed, ↓State.pendingStops_fixed, ↓State.presentLate_fixed, ↓State.put_fixed, ↓State.record_fixed, ↓State.setDev_fixed, ↓State.setNum_fixed, ↓State.setPai_fixed, ↓State.setRings_fixed, ↓State.setRole_fixed, ↓mk_fixed, ↓ite_fixed, ite_self, ↓st_ite]; split) | (simp only [↓State.addJob_fixed, ↓State.count_fixed, ↓State.dropDesc_fixed, ↓State.endPairFault_fixed, ↓State.enterHoldover_fixed, ↓State.meshSkip_fixed, ↓State.operate_fixed, ↓State.pendingStops_fixed, ↓State.presentLate_fixed, ↓State.put_fixed, ↓State.record_fixed, ↓State.setDev_fixed, ↓State.setNum_fixed, ↓State.setPai_fixed, ↓State.setRings_fixed, ↓State.setRole_fixed, ↓mk_fixed, ↓ite_fixed, ite_self, ↓st_ite]) | (with_reducible refine (foldl_fixed _ _ _ (fun _ _ => ?_)).trans ?_) | (with_reducible refine (foldl_pair_fixed _ _ _ (fun _ _ => ?_)).trans ?_) | dsimp only | (simp_all; done))

@[simp] theorem State.voidJobs_fixed (s : State) (p : Job → Bool) : (State.voidJobs s p).fixed = s.fixed := by
  unfold State.voidJobs
  repeat' (first | (simp only [↓State.complete_fixed, ↓State.dropIntake_fixed, ↓State.dropJob_fixed, ↓mk_fixed, ↓ite_fixed, ite_self, ↓st_ite]; done) | split | (simp only [↓State.complete_fixed, ↓State.dropIntake_fixed, ↓State.dropJob_fixed, ↓mk_fixed, ↓ite_fixed, ite_self, ↓st_ite]; split) | (simp only [↓State.complete_fixed, ↓State.dropIntake_fixed, ↓State.dropJob_fixed, ↓mk_fixed, ↓ite_fixed, ite_self, ↓st_ite]) | (with_reducible refine (foldl_fixed _ _ _ (fun _ _ => ?_)).trans ?_) | (with_reducible refine (foldl_pair_fixed _ _ _ (fun _ _ => ?_)).trans ?_) | dsimp only | (simp_all; done))

@[simp] theorem State.discardHeld_fixed (s : State) : (State.discardHeld s).fixed = s.fixed := by
  unfold State.discardHeld
  repeat' (first | (simp only [↓State.setFlt_fixed, ↓State.setMsh_fixed, ↓State.setPai_fixed, ↓State.setRad_fixed, ↓State.setRings_fixed, ↓mk_fixed, ↓ite_fixed, ite_self, ↓st_ite]; done) | split | (simp only [↓State.setFlt_fixed, ↓State.setMsh_fixed, ↓State.setPai_fixed, ↓State.setRad_fixed, ↓State.setRings_fixed, ↓mk_fixed, ↓ite_fixed, ite_self, ↓st_ite]; split) | (simp only [↓State.setFlt_fixed, ↓State.setMsh_fixed, ↓State.setPai_fixed, ↓State.setRad_fixed, ↓State.setRings_fixed, ↓mk_fixed, ↓ite_fixed, ite_self, ↓st_ite]) | (with_reducible refine (foldl_fixed _ _ _ (fun _ _ => ?_)).trans ?_) | (with_reducible refine (foldl_pair_fixed _ _ _ (fun _ _ => ?_)).trans ?_) | dsimp only | (simp_all; done))

@[simp] theorem State.toPriming_fixed (s : State) : (State.toPriming s).fixed = s.fixed := by
  unfold State.toPriming
  repeat' (first | (simp only [↓State.operate_fixed, ↓State.put_fixed, ↓State.setDev_fixed, ↓State.setNum_fixed, ↓State.setPai_fixed, ↓State.setRole_fixed, ↓mk_fixed, ↓ite_fixed, ite_self, ↓st_ite]; done) | split | (simp only [↓State.operate_fixed, ↓State.put_fixed, ↓State.setDev_fixed, ↓State.setNum_fixed, ↓State.setPai_fixed, ↓State.setRole_fixed, ↓mk_fixed, ↓ite_fixed, ite_self, ↓st_ite]; split) | (simp only [↓State.operate_fixed, ↓State.put_fixed, ↓State.setDev_fixed, ↓State.setNum_fixed, ↓State.setPai_fixed, ↓State.setRole_fixed, ↓mk_fixed, ↓ite_fixed, ite_self, ↓st_ite]) | (with_reducible refine (foldl_fixed _ _ _ (fun _ _ => ?_)).trans ?_) | (with_reducible refine (foldl_pair_fixed _ _ _ (fun _ _ => ?_)).trans ?_) | dsimp only | (simp_all; done))

@[simp] theorem State.yieldAuth_fixed (s : State) (cause : Nat) : (State.yieldAuth s cause).fixed = s.fixed := by
  unfold State.yieldAuth
  repeat' (first | (simp only [↓State.discardHeld_fixed, ↓State.endHandover_fixed, ↓State.record_fixed, ↓State.setNum_fixed, ↓State.setSolo_fixed, ↓State.toPriming_fixed, ↓State.voidJobs_fixed, ↓mk_fixed, ↓ite_fixed, ite_self, ↓st_ite]; done) | split | (simp only [↓State.discardHeld_fixed, ↓State.endHandover_fixed, ↓State.record_fixed, ↓State.setNum_fixed, ↓State.setSolo_fixed, ↓State.toPriming_fixed, ↓State.voidJobs_fixed, ↓mk_fixed, ↓ite_fixed, ite_self, ↓st_ite]; split) | (simp only [↓State.discardHeld_fixed, ↓State.endHandover_fixed, ↓State.record_fixed, ↓State.setNum_fixed, ↓State.setSolo_fixed, ↓State.toPriming_fixed, ↓State.voidJobs_fixed, ↓mk_fixed, ↓ite_fixed, ite_self, ↓st_ite]) | (with_reducible refine (foldl_fixed _ _ _ (fun _ _ => ?_)).trans ?_) | (with_reducible refine (foldl_pair_fixed _ _ _ (fun _ _ => ?_)).trans ?_) | dsimp only | (simp_all; done))

@[simp] theorem State.leaveStandby_fixed (s : State) : (State.leaveStandby s).fixed = s.fixed := by
  unfold State.leaveStandby
  repeat' (first | (simp only [↓State.endHandover_fixed, ↓State.toPriming_fixed, ↓mk_fixed, ↓ite_fixed, ite_self, ↓st_ite]; done) | split | (simp only [↓State.endHandover_fixed, ↓State.toPriming_fixed, ↓mk_fixed, ↓ite_fixed, ite_self, ↓st_ite]; split) | (simp only [↓State.endHandover_fixed, ↓State.toPriming_fixed, ↓mk_fixed, ↓ite_fixed, ite_self, ↓st_ite]) | (with_reducible refine (foldl_fixed _ _ _ (fun _ _ => ?_)).trans ?_) | (with_reducible refine (foldl_pair_fixed _ _ _ (fun _ _ => ?_)).trans ?_) | dsimp only | (simp_all; done))

@[simp] theorem State.takeOver_fixed (s : State) (cause : Nat) : (State.takeOver s cause).fixed = s.fixed := by
  unfold State.takeOver
  repeat' (first | (simp only [↓State.assume_fixed, ↓State.endHandover_fixed, ↓State.setSolo_fixed, ↓mk_fixed, ↓ite_fixed, ite_self, ↓st_ite]; done) | split | (simp only [↓State.assume_fixed, ↓State.endHandover_fixed, ↓State.setSolo_fixed, ↓mk_fixed, ↓ite_fixed, ite_self, ↓st_ite]; split) | (simp only [↓State.assume_fixed, ↓State.endHandover_fixed, ↓State.setSolo_fixed, ↓mk_fixed, ↓ite_fixed, ite_self, ↓st_ite]) | (with_reducible refine (foldl_fixed _ _ _ (fun _ _ => ?_)).trans ?_) | (with_reducible refine (foldl_pair_fixed _ _ _ (fun _ _ => ?_)).trans ?_) | dsimp only | (simp_all; done))

@[simp] theorem State.modLog_fixed (s : State) (sn : Nat) (f : StrokeLog → StrokeLog) : (State.modLog s sn f).fixed = s.fixed := by
  unfold State.modLog
  repeat' (first | (simp only [↓State.setPai_fixed, ↓mk_fixed, ↓ite_fixed, ite_self, ↓st_ite]; done) | split | (simp only [↓State.setPai_fixed, ↓mk_fixed, ↓ite_fixed, ite_self, ↓st_ite]; split) | (simp only [↓State.setPai_fixed, ↓mk_fixed, ↓ite_fixed, ite_self, ↓st_ite]) | (with_reducible refine (foldl_fixed _ _ _ (fun _ _ => ?_)).trans ?_) | (with_reducible refine (foldl_pair_fixed _ _ _ (fun _ _ => ?_)).trans ?_) | dsimp only | (simp_all; done))

@[simp] theorem State.shadowDesc_fixed (s : State) (sn : Nat) (d : Desc) (c p b q : Nat) : (State.shadowDesc s sn d c p b q).fixed = s.fixed := by
  unfold State.shadowDesc
  repeat' (first | (simp only [↓State.addJob_fixed, ↓mk_fixed, ↓ite_fixed, ite_self, ↓st_ite]; done) | split | (simp only [↓State.addJob_fixed, ↓mk_fixed, ↓ite_fixed, ite_self, ↓st_ite]; split) | (simp only [↓State.addJob_fixed, ↓mk_fixed, ↓ite_fixed, ite_self, ↓st_ite]) | (with_reducible refine (foldl_fixed _ _ _ (fun _ _ => ?_)).trans ?_) | (with_reducible refine (foldl_pair_fixed _ _ _ (fun _ _ => ?_)).trans ?_) | dsimp only | (simp_all; done))

@[simp] theorem State.applyEntry_fixed (s : State) (sn : Nat) (x : LogEntry) : (State.applyEntry s sn x).fixed = s.fixed := by
  unfold State.applyEntry
  repeat' (first | (simp only [↓State.actuate_fixed, ↓State.addJob_fixed, ↓State.clearStop_fixed, ↓State.fleetQueueData_fixed, ↓State.postBuffer_fixed, ↓State.presentEncode_fixed, ↓State.raiseAll_fixed, ↓State.raiseRobot_fixed, ↓State.setBsl_fixed, ↓State.setMsh_fixed, ↓State.setRad_fixed, ↓State.setStp_fixed, ↓State.shadowDesc_fixed, ↓State.takeSet_fixed, ↓State.withhold_fixed, ↓mk_fixed, ↓ite_fixed, ite_self, ↓st_ite]; done) | split | (simp only [↓State.actuate_fixed, ↓State.addJob_fixed, ↓State.clearStop_fixed, ↓State.fleetQueueData_fixed, ↓State.postBuffer_fixed, ↓State.presentEncode_fixed, ↓State.raiseAll_fixed, ↓State.raiseRobot_fixed, ↓State.setBsl_fixed, ↓State.setMsh_fixed, ↓State.setRad_fixed, ↓State.setStp_fixed, ↓State.shadowDesc_fixed, ↓State.takeSet_fixed, ↓State.withhold_fixed, ↓mk_fixed, ↓ite_fixed, ite_self, ↓st_ite]; split) | (simp only [↓State.actuate_fixed, ↓State.addJob_fixed, ↓State.clearStop_fixed, ↓State.fleetQueueData_fixed, ↓State.postBuffer_fixed, ↓State.presentEncode_fixed, ↓State.raiseAll_fixed, ↓State.raiseRobot_fixed, ↓State.setBsl_fixed, ↓State.setMsh_fixed, ↓State.setRad_fixed, ↓State.setStp_fixed, ↓State.shadowDesc_fixed, ↓State.takeSet_fixed, ↓State.withhold_fixed, ↓mk_fixed, ↓ite_fixed, ite_self, ↓st_ite]) | (with_reducible refine (foldl_fixed _ _ _ (fun _ _ => ?_)).trans ?_) | (with_reducible refine (foldl_pair_fixed _ _ _ (fun _ _ => ?_)).trans ?_) | dsimp only | (simp_all; done))

@[simp] theorem State.abandonLogged_fixed (s : State) (x : Nat × Nat) : (State.abandonLogged s x).fixed = s.fixed := by
  unfold State.abandonLogged
  repeat' (first | (simp only [↓State.abandonSolve_fixed, ↓State.setJobs_fixed, ↓mk_fixed, ↓ite_fixed, ite_self, ↓st_ite]; done) | split | (simp only [↓State.abandonSolve_fixed, ↓State.setJobs_fixed, ↓mk_fixed, ↓ite_fixed, ite_self, ↓st_ite]; split) | (simp only [↓State.abandonSolve_fixed, ↓State.setJobs_fixed, ↓mk_fixed, ↓ite_fixed, ite_self, ↓st_ite]) | (with_reducible refine (foldl_fixed _ _ _ (fun _ _ => ?_)).trans ?_) | (with_reducible refine (foldl_pair_fixed _ _ _ (fun _ _ => ?_)).trans ?_) | dsimp only | (simp_all; done))

@[simp] theorem State.applyLog_fixed (s : State) (l : StrokeLog) : (State.applyLog s l).fixed = s.fixed := by
  unfold State.applyLog
  repeat' (first | (simp only [↓State.abandonLogged_fixed, ↓State.applyEntry_fixed, ↓State.dispatchAll_fixed, ↓State.presentLate_fixed, ↓State.setPai_fixed, ↓mk_fixed, ↓ite_fixed, ite_self, ↓st_ite]; done) | split | (simp only [↓State.abandonLogged_fixed, ↓State.applyEntry_fixed, ↓State.dispatchAll_fixed, ↓State.presentLate_fixed, ↓State.setPai_fixed, ↓mk_fixed, ↓ite_fixed, ite_self, ↓st_ite]; split) | (simp only [↓State.abandonLogged_fixed, ↓State.applyEntry_fixed, ↓State.dispatchAll_fixed, ↓State.presentLate_fixed, ↓State.setPai_fixed, ↓mk_fixed, ↓ite_fixed, ite_self, ↓st_ite]) | (with_reducible refine (foldl_fixed _ _ _ (fun _ _ => ?_)).trans ?_) | (with_reducible refine (foldl_pair_fixed _ _ _ (fun _ _ => ?_)).trans ?_) | dsimp only | (simp_all; done))

@[simp] theorem State.runLogs_fixed (s : State) (x0 : Nat) : (State.runLogs s x0).fixed = s.fixed := by
  induction x0 generalizing s with
  | zero => simp [State.runLogs]
  | succ n ih =>
    unfold State.runLogs
    repeat' (first | (simp only [↓ih, ↓State.applyLog_fixed, ↓State.complete_fixed, ↓mk_fixed, ↓ite_fixed, ite_self, ↓st_ite]; done) | split | (simp only [↓ih, ↓State.applyLog_fixed, ↓State.complete_fixed, ↓mk_fixed, ↓ite_fixed, ite_self, ↓st_ite]; split) | (simp only [↓ih, ↓State.applyLog_fixed, ↓State.complete_fixed, ↓mk_fixed, ↓ite_fixed, ite_self, ↓st_ite]) | (with_reducible refine (foldl_fixed _ _ _ (fun _ _ => ?_)).trans ?_) | (with_reducible refine (foldl_pair_fixed _ _ _ (fun _ _ => ?_)).trans ?_) | dsimp only | (simp_all; done))

@[simp] theorem State.tryAck_fixed (s : State) (sn ns : Nat) : (State.tryAck s sn ns).fixed = s.fixed := by
  unfold State.tryAck
  repeat' (first | (simp only [↓State.complete_fixed, ↓State.modLog_fixed, ↓State.runLogs_fixed, ↓State.sendMate_fixed, ↓State.setPai_fixed, ↓mk_fixed, ↓ite_fixed, ite_self, ↓st_ite]; done) | split | (simp only [↓State.complete_fixed, ↓State.modLog_fixed, ↓State.runLogs_fixed, ↓State.sendMate_fixed, ↓State.setPai_fixed, ↓mk_fixed, ↓ite_fixed, ite_self, ↓st_ite]; split) | (simp only [↓State.complete_fixed, ↓State.modLog_fixed, ↓State.runLogs_fixed, ↓State.sendMate_fixed, ↓State.setPai_fixed, ↓mk_fixed, ↓ite_fixed, ite_self, ↓st_ite]) | (with_reducible refine (foldl_fixed _ _ _ (fun _ _ => ?_)).trans ?_) | (with_reducible refine (foldl_pair_fixed _ _ _ (fun _ _ => ?_)).trans ?_) | dsimp only | (simp_all; done))

@[simp] theorem State.showDigest_fixed (s : State) : (State.showDigest s).fixed = s.fixed := by
  unfold State.showDigest
  repeat' (first | (simp only [↓State.setNum_fixed, ↓mk_fixed, ↓ite_fixed, ite_self, ↓st_ite]; done) | split | (simp only [↓State.setNum_fixed, ↓mk_fixed, ↓ite_fixed, ite_self, ↓st_ite]; split) | (simp only [↓State.setNum_fixed, ↓mk_fixed, ↓ite_fixed, ite_self, ↓st_ite]) | (with_reducible refine (foldl_fixed _ _ _ (fun _ _ => ?_)).trans ?_) | (with_reducible refine (foldl_pair_fixed _ _ _ (fun _ _ => ?_)).trans ?_) | dsimp only | (simp_all; done))

@[simp] theorem State.requestPrime_fixed (s : State) : (State.requestPrime s).fixed = s.fixed := by
  unfold State.requestPrime
  repeat' (first | (simp only [↓State.put_fixed, ↓State.sendMate_fixed, ↓State.setNum_fixed, ↓State.setPai_fixed, ↓mk_fixed, ↓ite_fixed, ite_self, ↓st_ite]; done) | split | (simp only [↓State.put_fixed, ↓State.sendMate_fixed, ↓State.setNum_fixed, ↓State.setPai_fixed, ↓mk_fixed, ↓ite_fixed, ite_self, ↓st_ite]; split) | (simp only [↓State.put_fixed, ↓State.sendMate_fixed, ↓State.setNum_fixed, ↓State.setPai_fixed, ↓mk_fixed, ↓ite_fixed, ite_self, ↓st_ite]) | (with_reducible refine (foldl_fixed _ _ _ (fun _ _ => ?_)).trans ?_) | (with_reducible refine (foldl_pair_fixed _ _ _ (fun _ _ => ?_)).trans ?_) | dsimp only | (simp_all; done))

@[simp] theorem State.loadSnapshot_fixed (s : State) (x : Snapshot) : (State.loadSnapshot s x).fixed = s.fixed := by
  unfold State.loadSnapshot
  repeat' (first | (simp only [↓State.addJob_fixed, ↓State.applyOut_fixed, ↓State.put_fixed, ↓State.raiseAll_fixed, ↓State.setJobs_fixed, ↓State.setKey_fixed, ↓State.setPai_fixed, ↓State.setRings_fixed, ↓State.setStp_fixed, ↓State.showGens_fixed, ↓State.showRobotStops_fixed, ↓mk_fixed, ↓ite_fixed, ite_self, ↓st_ite]; done) | split | (simp only [↓State.addJob_fixed, ↓State.applyOut_fixed, ↓State.put_fixed, ↓State.raiseAll_fixed, ↓State.setJobs_fixed, ↓State.setKey_fixed, ↓State.setPai_fixed, ↓State.setRings_fixed, ↓State.setStp_fixed, ↓State.showGens_fixed, ↓State.showRobotStops_fixed, ↓mk_fixed, ↓ite_fixed, ite_self, ↓st_ite]; split) | (simp only [↓State.addJob_fixed, ↓State.applyOut_fixed, ↓State.put_fixed, ↓State.raiseAll_fixed, ↓State.setJobs_fixed, ↓State.setKey_fixed, ↓State.setPai_fixed, ↓State.setRings_fixed, ↓State.setStp_fixed, ↓State.showGens_fixed, ↓State.showRobotStops_fixed, ↓mk_fixed, ↓ite_fixed, ite_self, ↓st_ite]) | (with_reducible refine (foldl_fixed _ _ _ (fun _ _ => ?_)).trans ?_) | (with_reducible refine (foldl_pair_fixed _ _ _ (fun _ _ => ?_)).trans ?_) | dsimp only | (simp_all; done))

end Sys2Proof.Machine
end

