-- ==== Sys2Proof/Laws/FixedPair.lean ====
section
/-! SUPPORT. What the operations of Machine/Pair.lean leave alone (Laws/Fixed.lean). -/

set_option linter.all false

namespace Sys2Proof.Machine

open Sys2Proof

@[simp] theorem execLogRx_fixed (h : MateHdr) (entries : List LogEntry) (ns : Nat) (s : State) : (after (execLogRx h entries ns s) s).fixed = s.fixed := by
  unfold execLogRx
  repeat (first | rw [after_next] | rw [after_ite] | fail)
  repeat' (first | (simp only [↓State.modLog_fixed, ↓State.ok_fixed, ↓State.takeFrame_fixed, ↓State.tryAck_fixed, ↓mk_fixed, ↓ite_fixed, ite_self, ↓st_ite]; done) | split | (simp only [↓State.modLog_fixed, ↓State.ok_fixed, ↓State.takeFrame_fixed, ↓State.tryAck_fixed, ↓mk_fixed, ↓ite_fixed, ite_self, ↓st_ite]; split) | (simp only [↓State.modLog_fixed, ↓State.ok_fixed, ↓State.takeFrame_fixed, ↓State.tryAck_fixed, ↓mk_fixed, ↓ite_fixed, ite_self, ↓st_ite]) | (simp only [pair_fixed ‹State.takeFrame _ _ _ _  = (_, _)› (State.takeFrame_fixed _ _ _ _ ), ↓State.modLog_fixed, ↓State.ok_fixed, ↓State.takeFrame_fixed, ↓State.tryAck_fixed, ↓mk_fixed, ↓ite_fixed, ite_self, ↓st_ite]) | (with_reducible refine (foldl_fixed _ _ _ (fun _ _ => ?_)).trans ?_) | (with_reducible refine (foldl_pair_fixed _ _ _ (fun _ _ => ?_)).trans ?_) | dsimp only | (simp_all; done))

@[simp] theorem execLogEndRx_fixed (h : MateHdr) (e : LogEnd) (ns : Nat) (s : State) : (after (execLogEndRx h e ns s) s).fixed = s.fixed := by
  unfold execLogEndRx
  repeat (first | rw [after_next] | rw [after_ite] | fail)
  repeat' (first | (simp only [↓State.modLog_fixed, ↓State.ok_fixed, ↓State.pairCompare_fixed, ↓State.put_fixed, ↓State.sendMate_fixed, ↓State.setPai_fixed, ↓State.takeFrame_fixed, ↓State.tb0Offer_fixed, ↓State.tryAck_fixed, ↓mk_fixed, ↓ite_fixed, ite_self, ↓st_ite]; done) | split | (simp only [↓State.modLog_fixed, ↓State.ok_fixed, ↓State.pairCompare_fixed, ↓State.put_fixed, ↓State.sendMate_fixed, ↓State.setPai_fixed, ↓State.takeFrame_fixed, ↓State.tb0Offer_fixed, ↓State.tryAck_fixed, ↓mk_fixed, ↓ite_fixed, ite_self, ↓st_ite]; split) | (simp only [↓State.modLog_fixed, ↓State.ok_fixed, ↓State.pairCompare_fixed, ↓State.put_fixed, ↓State.sendMate_fixed, ↓State.setPai_fixed, ↓State.takeFrame_fixed, ↓State.tb0Offer_fixed, ↓State.tryAck_fixed, ↓mk_fixed, ↓ite_fixed, ite_self, ↓st_ite]) | (simp only [pair_fixed ‹State.takeFrame _ _ _ _  = (_, _)› (State.takeFrame_fixed _ _ _ _ ), ↓State.modLog_fixed, ↓State.ok_fixed, ↓State.pairCompare_fixed, ↓State.put_fixed, ↓State.sendMate_fixed, ↓State.setPai_fixed, ↓State.takeFrame_fixed, ↓State.tb0Offer_fixed, ↓State.tryAck_fixed, ↓mk_fixed, ↓ite_fixed, ite_self, ↓st_ite]) | (with_reducible refine (foldl_fixed _ _ _ (fun _ _ => ?_)).trans ?_) | (with_reducible refine (foldl_pair_fixed _ _ _ (fun _ _ => ?_)).trans ?_) | dsimp only | (simp_all; done))

@[simp] theorem execLogMiss_fixed (s : State) : (after (execLogMiss s) s).fixed = s.fixed := by
  unfold execLogMiss
  repeat (first | rw [after_next] | rw [after_ite] | fail)
  repeat' (first | (simp only [↓State.complete_fixed, ↓State.count_fixed, ↓State.setPai_fixed, ↓mk_fixed, ↓ite_fixed, ite_self, ↓st_ite]; done) | split | (simp only [↓State.complete_fixed, ↓State.count_fixed, ↓State.setPai_fixed, ↓mk_fixed, ↓ite_fixed, ite_self, ↓st_ite]; split) | (simp only [↓State.complete_fixed, ↓State.count_fixed, ↓State.setPai_fixed, ↓mk_fixed, ↓ite_fixed, ite_self, ↓st_ite]) | (with_reducible refine (foldl_fixed _ _ _ (fun _ _ => ?_)).trans ?_) | (with_reducible refine (foldl_pair_fixed _ _ _ (fun _ _ => ?_)).trans ?_) | dsimp only | (simp_all; done))

@[simp] theorem State.announce_fixed (s : State) (k : Nat) : (State.announce s k).fixed = s.fixed := by
  unfold State.announce
  repeat' (first | (simp only [↓State.put_fixed, ↓State.setPai_fixed, ↓mk_fixed, ↓ite_fixed, ite_self, ↓st_ite]; done) | split | (simp only [↓State.put_fixed, ↓State.setPai_fixed, ↓mk_fixed, ↓ite_fixed, ite_self, ↓st_ite]; split) | (simp only [↓State.put_fixed, ↓State.setPai_fixed, ↓mk_fixed, ↓ite_fixed, ite_self, ↓st_ite]) | (with_reducible refine (foldl_fixed _ _ _ (fun _ _ => ?_)).trans ?_) | (with_reducible refine (foldl_pair_fixed _ _ _ (fun _ _ => ?_)).trans ?_) | dsimp only | (simp_all; done))

@[simp] theorem execAckRx_fixed (h : MateHdr) (a : MateAck) (ns : Nat) (s : State) : (after (execAckRx h a ns s) s).fixed = s.fixed := by
  unfold execAckRx
  repeat (first | rw [after_next] | rw [after_ite] | fail)
  repeat' (first | (simp only [↓State.announce_fixed, ↓State.ok_fixed, ↓State.pairCompare_fixed, ↓State.setPai_fixed, ↓State.takeFrame_fixed, ↓mk_fixed, ↓ite_fixed, ite_self, ↓st_ite]; done) | split | (simp only [↓State.announce_fixed, ↓State.ok_fixed, ↓State.pairCompare_fixed, ↓State.setPai_fixed, ↓State.takeFrame_fixed, ↓mk_fixed, ↓ite_fixed, ite_self, ↓st_ite]; split) | (simp only [↓State.announce_fixed, ↓State.ok_fixed, ↓State.pairCompare_fixed, ↓State.setPai_fixed, ↓State.takeFrame_fixed, ↓mk_fixed, ↓ite_fixed, ite_self, ↓st_ite]) | (simp only [pair_fixed ‹State.takeFrame _ _ _ _  = (_, _)› (State.takeFrame_fixed _ _ _ _ ), ↓State.announce_fixed, ↓State.ok_fixed, ↓State.pairCompare_fixed, ↓State.setPai_fixed, ↓State.takeFrame_fixed, ↓mk_fixed, ↓ite_fixed, ite_self, ↓st_ite]) | (with_reducible refine (foldl_fixed _ _ _ (fun _ _ => ?_)).trans ?_) | (with_reducible refine (foldl_pair_fixed _ _ _ (fun _ _ => ?_)).trans ?_) | dsimp only | (simp_all; done))

@[simp] theorem execNakRx_fixed (h : MateHdr) (frags : List Nat) (s : State) : (after (execNakRx h frags s) s).fixed = s.fixed := by
  unfold execNakRx
  repeat (first | rw [after_next] | rw [after_ite] | fail)
  repeat' (first | (simp only [↓State.ok_fixed, ↓State.sendMate_fixed, ↓State.takeFrame_fixed, ↓mk_fixed, ↓ite_fixed, ite_self, ↓st_ite]; done) | split | (simp only [↓State.ok_fixed, ↓State.sendMate_fixed, ↓State.takeFrame_fixed, ↓mk_fixed, ↓ite_fixed, ite_self, ↓st_ite]; split) | (simp only [↓State.ok_fixed, ↓State.sendMate_fixed, ↓State.takeFrame_fixed, ↓mk_fixed, ↓ite_fixed, ite_self, ↓st_ite]) | (simp only [pair_fixed ‹State.takeFrame _ _ _ _  = (_, _)› (State.takeFrame_fixed _ _ _ _ ), ↓State.ok_fixed, ↓State.sendMate_fixed, ↓State.takeFrame_fixed, ↓mk_fixed, ↓ite_fixed, ite_self, ↓st_ite]) | (with_reducible refine (foldl_fixed _ _ _ (fun _ _ => ?_)).trans ?_) | (with_reducible refine (foldl_pair_fixed _ _ _ (fun _ _ => ?_)).trans ?_) | dsimp only | (simp_all; done))

@[simp] theorem execForwardRx_fixed (h : MateHdr) (id : Nat) (d : Desc) (ns : Nat) (s : State) : (after (execForwardRx h id d ns s) s).fixed = s.fixed := by
  unfold execForwardRx
  repeat (first | rw [after_next] | rw [after_ite] | fail)
  repeat' (first | (simp only [↓State.addJob_fixed, ↓State.ok_fixed, ↓State.raiseAll_fixed, ↓State.raiseRobot_fixed, ↓State.takeFrame_fixed, ↓mk_fixed, ↓ite_fixed, ite_self, ↓st_ite]; done) | split | (simp only [↓State.addJob_fixed, ↓State.ok_fixed, ↓State.raiseAll_fixed, ↓State.raiseRobot_fixed, ↓State.takeFrame_fixed, ↓mk_fixed, ↓ite_fixed, ite_self, ↓st_ite]; split) | (simp only [↓State.addJob_fixed, ↓State.ok_fixed, ↓State.raiseAll_fixed, ↓State.raiseRobot_fixed, ↓State.takeFrame_fixed, ↓mk_fixed, ↓ite_fixed, ite_self, ↓st_ite]) | (simp only [pair_fixed ‹State.takeFrame _ _ _ _  = (_, _)› (State.takeFrame_fixed _ _ _ _ ), ↓State.addJob_fixed, ↓State.ok_fixed, ↓State.raiseAll_fixed, ↓State.raiseRobot_fixed, ↓State.takeFrame_fixed, ↓mk_fixed, ↓ite_fixed, ite_self, ↓st_ite]) | (with_reducible refine (foldl_fixed _ _ _ (fun _ _ => ?_)).trans ?_) | (with_reducible refine (foldl_pair_fixed _ _ _ (fun _ _ => ?_)).trans ?_) | dsimp only | (simp_all; done))

@[simp] theorem execResultRx_fixed (h : MateHdr) (r : MateResult) (s : State) : (after (execResultRx h r s) s).fixed = s.fixed := by
  unfold execResultRx
  repeat (first | rw [after_next] | rw [after_ite] | fail)
  repeat' (first | (simp only [↓State.complete_fixed, ↓State.endJobOf_fixed, ↓State.ok_fixed, ↓State.put_fixed, ↓State.setRings_fixed, ↓State.takeFrame_fixed, ↓mk_fixed, ↓ite_fixed, ite_self, ↓st_ite]; done) | split | (simp only [↓State.complete_fixed, ↓State.endJobOf_fixed, ↓State.ok_fixed, ↓State.put_fixed, ↓State.setRings_fixed, ↓State.takeFrame_fixed, ↓mk_fixed, ↓ite_fixed, ite_self, ↓st_ite]; split) | (simp only [↓State.complete_fixed, ↓State.endJobOf_fixed, ↓State.ok_fixed, ↓State.put_fixed, ↓State.setRings_fixed, ↓State.takeFrame_fixed, ↓mk_fixed, ↓ite_fixed, ite_self, ↓st_ite]) | (simp only [pair_fixed ‹State.takeFrame _ _ _ _  = (_, _)› (State.takeFrame_fixed _ _ _ _ ), ↓State.complete_fixed, ↓State.endJobOf_fixed, ↓State.ok_fixed, ↓State.put_fixed, ↓State.setRings_fixed, ↓State.takeFrame_fixed, ↓mk_fixed, ↓ite_fixed, ite_self, ↓st_ite]) | (with_reducible refine (foldl_fixed _ _ _ (fun _ _ => ?_)).trans ?_) | (with_reducible refine (foldl_pair_fixed _ _ _ (fun _ _ => ?_)).trans ?_) | dsimp only | (simp_all; done))

@[simp] theorem execMateLink_fixed (s : State) : (after (execMateLink s) s).fixed = s.fixed := by
  unfold execMateLink
  repeat (first | rw [after_next] | rw [after_ite] | fail)
  repeat' (first | (simp only [↓State.put_fixed, ↓State.record_fixed, ↓mk_fixed, ↓ite_fixed, ite_self, ↓st_ite]; done) | split | (simp only [↓State.put_fixed, ↓State.record_fixed, ↓mk_fixed, ↓ite_fixed, ite_self, ↓st_ite]; split) | (simp only [↓State.put_fixed, ↓State.record_fixed, ↓mk_fixed, ↓ite_fixed, ite_self, ↓st_ite]) | (with_reducible refine (foldl_fixed _ _ _ (fun _ _ => ?_)).trans ?_) | (with_reducible refine (foldl_pair_fixed _ _ _ (fun _ _ => ?_)).trans ?_) | dsimp only | (simp_all; done))

@[simp] theorem execLeaseTokenTx_fixed (s : State) : (after (execLeaseTokenTx s) s).fixed = s.fixed := by
  unfold execLeaseTokenTx
  repeat (first | rw [after_next] | rw [after_ite] | fail)
  repeat' (first | (simp only [↓State.emit_fixed, ↓mk_fixed, ↓ite_fixed, ite_self, ↓st_ite]; done) | split | (simp only [↓State.emit_fixed, ↓mk_fixed, ↓ite_fixed, ite_self, ↓st_ite]; split) | (simp only [↓State.emit_fixed, ↓mk_fixed, ↓ite_fixed, ite_self, ↓st_ite]) | (with_reducible refine (foldl_fixed _ _ _ (fun _ _ => ?_)).trans ?_) | (with_reducible refine (foldl_pair_fixed _ _ _ (fun _ _ => ?_)).trans ?_) | dsimp only | (simp_all; done))

@[simp] theorem execLeaseTokenRx_fixed (bytes : List Byte) (mic : Option Nat) (ns : Nat) (s : State) : (after (execLeaseTokenRx bytes mic ns s) s).fixed = s.fixed := by
  unfold execLeaseTokenRx
  repeat (first | rw [after_next] | rw [after_ite] | fail)
  repeat' (first | (simp only [↓State.addMism_fixed, ↓State.count_fixed, ↓State.dropMism_fixed, ↓State.endPairFault_fixed, ↓State.noteMic_fixed, ↓State.operate_fixed, ↓State.pairFault_fixed, ↓State.put_fixed, ↓State.seeEpoch_fixed, ↓State.setPai_fixed, ↓mk_fixed, ↓ite_fixed, ite_self, ↓st_ite]; done) | split | (simp only [↓State.addMism_fixed, ↓State.count_fixed, ↓State.dropMism_fixed, ↓State.endPairFault_fixed, ↓State.noteMic_fixed, ↓State.operate_fixed, ↓State.pairFault_fixed, ↓State.put_fixed, ↓State.seeEpoch_fixed, ↓State.setPai_fixed, ↓mk_fixed, ↓ite_fixed, ite_self, ↓st_ite]; split) | (simp only [↓State.addMism_fixed, ↓State.count_fixed, ↓State.dropMism_fixed, ↓State.endPairFault_fixed, ↓State.noteMic_fixed, ↓State.operate_fixed, ↓State.pairFault_fixed, ↓State.put_fixed, ↓State.seeEpoch_fixed, ↓State.setPai_fixed, ↓mk_fixed, ↓ite_fixed, ite_self, ↓st_ite]) | (with_reducible refine (foldl_fixed _ _ _ (fun _ _ => ?_)).trans ?_) | (with_reducible refine (foldl_pair_fixed _ _ _ (fun _ _ => ?_)).trans ?_) | dsimp only | (simp_all; done))

@[simp] theorem execLeaseLink_fixed (s : State) : (after (execLeaseLink s) s).fixed = s.fixed := by
  unfold execLeaseLink
  repeat (first | rw [after_next] | rw [after_ite] | fail)
  repeat' (first | (simp only [↓State.put_fixed, ↓State.record_fixed, ↓mk_fixed, ↓ite_fixed, ite_self, ↓st_ite]; done) | split | (simp only [↓State.put_fixed, ↓State.record_fixed, ↓mk_fixed, ↓ite_fixed, ite_self, ↓st_ite]; split) | (simp only [↓State.put_fixed, ↓State.record_fixed, ↓mk_fixed, ↓ite_fixed, ite_self, ↓st_ite]) | (with_reducible refine (foldl_fixed _ _ _ (fun _ _ => ?_)).trans ?_) | (with_reducible refine (foldl_pair_fixed _ _ _ (fun _ _ => ?_)).trans ?_) | dsimp only | (simp_all; done))

@[simp] theorem execPairFaultNoAuthority_fixed (ns : Nat) (s : State) : (after (execPairFaultNoAuthority ns s) s).fixed = s.fixed := by
  unfold execPairFaultNoAuthority
  repeat (first | rw [after_next] | rw [after_ite] | fail)
  repeat' (first | (simp only [↓State.pairFault_fixed, ↓mk_fixed, ↓ite_fixed, ite_self, ↓st_ite]; done) | split | (simp only [↓State.pairFault_fixed, ↓mk_fixed, ↓ite_fixed, ite_self, ↓st_ite]; split) | (simp only [↓State.pairFault_fixed, ↓mk_fixed, ↓ite_fixed, ite_self, ↓st_ite]) | (with_reducible refine (foldl_fixed _ _ _ (fun _ _ => ?_)).trans ?_) | (with_reducible refine (foldl_pair_fixed _ _ _ (fun _ _ => ?_)).trans ?_) | dsimp only | (simp_all; done))

@[simp] theorem State.pairTest_fixed (s : State) : (State.pairTest s).fixed = s.fixed := by
  unfold State.pairTest
  repeat' (first | (simp only [↓State.leaveStandby_fixed, ↓State.setSolo_fixed, ↓State.takeOver_fixed, ↓State.yieldAuth_fixed, ↓mk_fixed, ↓ite_fixed, ite_self, ↓st_ite]; done) | split | (simp only [↓State.leaveStandby_fixed, ↓State.setSolo_fixed, ↓State.takeOver_fixed, ↓State.yieldAuth_fixed, ↓mk_fixed, ↓ite_fixed, ite_self, ↓st_ite]; split) | (simp only [↓State.leaveStandby_fixed, ↓State.setSolo_fixed, ↓State.takeOver_fixed, ↓State.yieldAuth_fixed, ↓mk_fixed, ↓ite_fixed, ite_self, ↓st_ite]) | (with_reducible refine (foldl_fixed _ _ _ (fun _ _ => ?_)).trans ?_) | (with_reducible refine (foldl_pair_fixed _ _ _ (fun _ _ => ?_)).trans ?_) | dsimp only | (simp_all; done))

@[simp] theorem State.handoverEdge_fixed (s : State) : (State.handoverEdge s).fixed = s.fixed := by
  unfold State.handoverEdge
  repeat' (first | (simp only [↓State.endHandover_fixed, ↓State.finish_fixed, ↓State.ok_fixed, ↓State.put_fixed, ↓State.setDisp_fixed, ↓State.setPai_fixed, ↓mk_fixed, ↓ite_fixed, ite_self, ↓st_ite]; done) | split | (simp only [↓State.endHandover_fixed, ↓State.finish_fixed, ↓State.ok_fixed, ↓State.put_fixed, ↓State.setDisp_fixed, ↓State.setPai_fixed, ↓mk_fixed, ↓ite_fixed, ite_self, ↓st_ite]; split) | (simp only [↓State.endHandover_fixed, ↓State.finish_fixed, ↓State.ok_fixed, ↓State.put_fixed, ↓State.setDisp_fixed, ↓State.setPai_fixed, ↓mk_fixed, ↓ite_fixed, ite_self, ↓st_ite]) | (with_reducible refine (foldl_fixed _ _ _ (fun _ _ => ?_)).trans ?_) | (with_reducible refine (foldl_pair_fixed _ _ _ (fun _ _ => ?_)).trans ?_) | dsimp only | (simp_all; done))

@[simp] theorem State.primeEdge_fixed (s : State) : (State.primeEdge s).fixed = s.fixed := by
  unfold State.primeEdge
  repeat' (first | (simp only [↓State.requestPrime_fixed, ↓State.runLogs_fixed, ↓State.sendMate_fixed, ↓State.setPai_fixed, ↓mk_fixed, ↓ite_fixed, ite_self, ↓st_ite]; done) | split | (simp only [↓State.requestPrime_fixed, ↓State.runLogs_fixed, ↓State.sendMate_fixed, ↓State.setPai_fixed, ↓mk_fixed, ↓ite_fixed, ite_self, ↓st_ite]; split) | (simp only [↓State.requestPrime_fixed, ↓State.runLogs_fixed, ↓State.sendMate_fixed, ↓State.setPai_fixed, ↓mk_fixed, ↓ite_fixed, ite_self, ↓st_ite]) | (with_reducible refine (foldl_fixed _ _ _ (fun _ _ => ?_)).trans ?_) | (with_reducible refine (foldl_pair_fixed _ _ _ (fun _ _ => ?_)).trans ?_) | dsimp only | (simp_all; done))

@[simp] theorem State.pairEdge_fixed (s : State) : (State.pairEdge s).fixed = s.fixed := by
  unfold State.pairEdge
  repeat' (first | (simp only [↓State.endPairFault_fixed, ↓State.handoverEdge_fixed, ↓State.pairTest_fixed, ↓State.primeEdge_fixed, ↓State.put_fixed, ↓State.setPai_fixed, ↓mk_fixed, ↓ite_fixed, ite_self, ↓st_ite]; done) | split | (simp only [↓State.endPairFault_fixed, ↓State.handoverEdge_fixed, ↓State.pairTest_fixed, ↓State.primeEdge_fixed, ↓State.put_fixed, ↓State.setPai_fixed, ↓mk_fixed, ↓ite_fixed, ite_self, ↓st_ite]; split) | (simp only [↓State.endPairFault_fixed, ↓State.handoverEdge_fixed, ↓State.pairTest_fixed, ↓State.primeEdge_fixed, ↓State.put_fixed, ↓State.setPai_fixed, ↓mk_fixed, ↓ite_fixed, ite_self, ↓st_ite]) | (with_reducible refine (foldl_fixed _ _ _ (fun _ _ => ?_)).trans ?_) | (with_reducible refine (foldl_pair_fixed _ _ _ (fun _ _ => ?_)).trans ?_) | dsimp only | (simp_all; done))

@[simp] theorem State.pairFirst_fixed (s : State) : (State.pairFirst s).fixed = s.fixed := by
  unfold State.pairFirst
  repeat' (first | (simp only [↓State.assume_fixed, ↓State.fail_fixed, ↓State.finish_fixed, ↓State.ok_fixed, ↓State.operate_fixed, ↓State.setDev_fixed, ↓State.setPai_fixed, ↓State.setRole_fixed, ↓mk_fixed, ↓ite_fixed, ite_self, ↓st_ite]; done) | split | (simp only [↓State.assume_fixed, ↓State.fail_fixed, ↓State.finish_fixed, ↓State.ok_fixed, ↓State.operate_fixed, ↓State.setDev_fixed, ↓State.setPai_fixed, ↓State.setRole_fixed, ↓mk_fixed, ↓ite_fixed, ite_self, ↓st_ite]; split) | (simp only [↓State.assume_fixed, ↓State.fail_fixed, ↓State.finish_fixed, ↓State.ok_fixed, ↓State.operate_fixed, ↓State.setDev_fixed, ↓State.setPai_fixed, ↓State.setRole_fixed, ↓mk_fixed, ↓ite_fixed, ite_self, ↓st_ite]) | (with_reducible refine (foldl_fixed _ _ _ (fun _ _ => ?_)).trans ?_) | (with_reducible refine (foldl_pair_fixed _ _ _ (fun _ _ => ?_)).trans ?_) | dsimp only | (simp_all; done))

@[simp] theorem execAutoTakeback_fixed (s : State) : (after (execAutoTakeback s) s).fixed = s.fixed := by
  unfold execAutoTakeback
  repeat (first | rw [after_next] | rw [after_ite] | fail)
  repeat' (first | (simp only [↓State.setPai_fixed, ↓mk_fixed, ↓ite_fixed, ite_self, ↓st_ite]; done) | split | (simp only [↓State.setPai_fixed, ↓mk_fixed, ↓ite_fixed, ite_self, ↓st_ite]; split) | (simp only [↓State.setPai_fixed, ↓mk_fixed, ↓ite_fixed, ite_self, ↓st_ite]) | (with_reducible refine (foldl_fixed _ _ _ (fun _ _ => ?_)).trans ?_) | (with_reducible refine (foldl_pair_fixed _ _ _ (fun _ _ => ?_)).trans ?_) | dsimp only | (simp_all; done))

@[simp] theorem State.endStill_fixed (s : State) : (State.endStill s).fixed = s.fixed := by
  unfold State.endStill
  repeat' (first | (simp only [↓State.complete_fixed, ↓State.dropJob_fixed, ↓State.forwardDesc_fixed, ↓mk_fixed, ↓ite_fixed, ite_self, ↓st_ite]; done) | split | (simp only [↓State.complete_fixed, ↓State.dropJob_fixed, ↓State.forwardDesc_fixed, ↓mk_fixed, ↓ite_fixed, ite_self, ↓st_ite]; split) | (simp only [↓State.complete_fixed, ↓State.dropJob_fixed, ↓State.forwardDesc_fixed, ↓mk_fixed, ↓ite_fixed, ite_self, ↓st_ite]) | (with_reducible refine (foldl_fixed _ _ _ (fun _ _ => ?_)).trans ?_) | (with_reducible refine (foldl_pair_fixed _ _ _ (fun _ _ => ?_)).trans ?_) | dsimp only | (simp_all; done))

@[simp] theorem execHandoverStillStroke_fixed (s : State) : (after (execHandoverStillStroke s) s).fixed = s.fixed := by
  unfold execHandoverStillStroke
  repeat (first | rw [after_next] | rw [after_ite] | fail)
  repeat' (first | (simp only [↓State.assume_fixed, ↓State.endStill_fixed, ↓State.record_fixed, ↓State.setDisp_fixed, ↓State.setPai_fixed, ↓State.setRole_fixed, ↓mk_fixed, ↓ite_fixed, ite_self, ↓st_ite]; done) | split | (simp only [↓State.assume_fixed, ↓State.endStill_fixed, ↓State.record_fixed, ↓State.setDisp_fixed, ↓State.setPai_fixed, ↓State.setRole_fixed, ↓mk_fixed, ↓ite_fixed, ite_self, ↓st_ite]; split) | (simp only [↓State.assume_fixed, ↓State.endStill_fixed, ↓State.record_fixed, ↓State.setDisp_fixed, ↓State.setPai_fixed, ↓State.setRole_fixed, ↓mk_fixed, ↓ite_fixed, ite_self, ↓st_ite]) | (with_reducible refine (foldl_fixed _ _ _ (fun _ _ => ?_)).trans ?_) | (with_reducible refine (foldl_pair_fixed _ _ _ (fun _ _ => ?_)).trans ?_) | dsimp only | (simp_all; done))

@[simp] theorem execAuthorityAssume_fixed (s : State) : (after (execAuthorityAssume s) s).fixed = s.fixed := by
  unfold execAuthorityAssume
  repeat (first | rw [after_next] | rw [after_ite] | fail)
  repeat' (first | (simp only [↓State.assume_fixed, ↓mk_fixed, ↓ite_fixed, ite_self, ↓st_ite]; done) | split | (simp only [↓State.assume_fixed, ↓mk_fixed, ↓ite_fixed, ite_self, ↓st_ite]; split) | (simp only [↓State.assume_fixed, ↓mk_fixed, ↓ite_fixed, ite_self, ↓st_ite]) | (with_reducible refine (foldl_fixed _ _ _ (fun _ _ => ?_)).trans ?_) | (with_reducible refine (foldl_pair_fixed _ _ _ (fun _ _ => ?_)).trans ?_) | dsimp only | (simp_all; done))

@[simp] theorem execPrimeReqRx_fixed (h : MateHdr) (digest : List Byte) (s : State) : (after (execPrimeReqRx h digest s) s).fixed = s.fixed := by
  unfold execPrimeReqRx
  repeat (first | rw [after_next] | rw [after_ite] | fail)
  repeat' (first | (simp only [↓State.addMism_fixed, ↓State.drawn_fixed, ↓State.dropMism_fixed, ↓State.ok_fixed, ↓State.record_fixed, ↓State.setPai_fixed, ↓State.takeFrame_fixed, ↓mk_fixed, ↓ite_fixed, ite_self, ↓st_ite]; done) | split | (simp only [↓State.addMism_fixed, ↓State.drawn_fixed, ↓State.dropMism_fixed, ↓State.ok_fixed, ↓State.record_fixed, ↓State.setPai_fixed, ↓State.takeFrame_fixed, ↓mk_fixed, ↓ite_fixed, ite_self, ↓st_ite]; split) | (simp only [↓State.addMism_fixed, ↓State.drawn_fixed, ↓State.dropMism_fixed, ↓State.ok_fixed, ↓State.record_fixed, ↓State.setPai_fixed, ↓State.takeFrame_fixed, ↓mk_fixed, ↓ite_fixed, ite_self, ↓st_ite]) | (simp only [pair_fixed ‹State.takeFrame _ _ _ _  = (_, _)› (State.takeFrame_fixed _ _ _ _ ), ↓State.addMism_fixed, ↓State.drawn_fixed, ↓State.dropMism_fixed, ↓State.ok_fixed, ↓State.record_fixed, ↓State.setPai_fixed, ↓State.takeFrame_fixed, ↓mk_fixed, ↓ite_fixed, ite_self, ↓st_ite]) | (with_reducible refine (foldl_fixed _ _ _ (fun _ _ => ?_)).trans ?_) | (with_reducible refine (foldl_pair_fixed _ _ _ (fun _ _ => ?_)).trans ?_) | dsimp only | (simp_all; done))

@[simp] theorem execSnapshotRx_fixed (h : MateHdr) (last : Bool) (data : Option Snapshot) (s : State) : (after (execSnapshotRx h last data s) s).fixed = s.fixed := by
  unfold execSnapshotRx
  repeat (first | rw [after_next] | rw [after_ite] | fail)
  repeat' (first | (simp only [↓State.loadSnapshot_fixed, ↓State.ok_fixed, ↓State.runLogs_fixed, ↓State.setPai_fixed, ↓State.takeFrame_fixed, ↓mk_fixed, ↓ite_fixed, ite_self, ↓st_ite]; done) | split | (simp only [↓State.loadSnapshot_fixed, ↓State.ok_fixed, ↓State.runLogs_fixed, ↓State.setPai_fixed, ↓State.takeFrame_fixed, ↓mk_fixed, ↓ite_fixed, ite_self, ↓st_ite]; split) | (simp only [↓State.loadSnapshot_fixed, ↓State.ok_fixed, ↓State.runLogs_fixed, ↓State.setPai_fixed, ↓State.takeFrame_fixed, ↓mk_fixed, ↓ite_fixed, ite_self, ↓st_ite]) | (simp only [pair_fixed ‹State.takeFrame _ _ _ _  = (_, _)› (State.takeFrame_fixed _ _ _ _ ), ↓State.loadSnapshot_fixed, ↓State.ok_fixed, ↓State.runLogs_fixed, ↓State.setPai_fixed, ↓State.takeFrame_fixed, ↓mk_fixed, ↓ite_fixed, ite_self, ↓st_ite]) | (with_reducible refine (foldl_fixed _ _ _ (fun _ _ => ?_)).trans ?_) | (with_reducible refine (foldl_pair_fixed _ _ _ (fun _ _ => ?_)).trans ?_) | dsimp only | (simp_all; done))

@[simp] theorem execPrimeFail_fixed (s : State) : (after (execPrimeFail s) s).fixed = s.fixed := by
  unfold execPrimeFail
  repeat (first | rw [after_next] | rw [after_ite] | fail)
  repeat' (first | (simp only [↓State.record_fixed, ↓State.requestPrime_fixed, ↓mk_fixed, ↓ite_fixed, ite_self, ↓st_ite]; done) | split | (simp only [↓State.record_fixed, ↓State.requestPrime_fixed, ↓mk_fixed, ↓ite_fixed, ite_self, ↓st_ite]; split) | (simp only [↓State.record_fixed, ↓State.requestPrime_fixed, ↓mk_fixed, ↓ite_fixed, ite_self, ↓st_ite]) | (with_reducible refine (foldl_fixed _ _ _ (fun _ _ => ?_)).trans ?_) | (with_reducible refine (foldl_pair_fixed _ _ _ (fun _ _ => ?_)).trans ?_) | dsimp only | (simp_all; done))

@[simp] theorem State.primeDone_fixed (s : State) : (State.primeDone s).fixed = s.fixed := by
  unfold State.primeDone
  repeat' (first | (simp only [↓State.operate_fixed, ↓State.put_fixed, ↓State.record_fixed, ↓State.setDev_fixed, ↓State.setPai_fixed, ↓State.setRole_fixed, ↓mk_fixed, ↓ite_fixed, ite_self, ↓st_ite]; done) | split | (simp only [↓State.operate_fixed, ↓State.put_fixed, ↓State.record_fixed, ↓State.setDev_fixed, ↓State.setPai_fixed, ↓State.setRole_fixed, ↓mk_fixed, ↓ite_fixed, ite_self, ↓st_ite]; split) | (simp only [↓State.operate_fixed, ↓State.put_fixed, ↓State.record_fixed, ↓State.setDev_fixed, ↓State.setPai_fixed, ↓State.setRole_fixed, ↓mk_fixed, ↓ite_fixed, ite_self, ↓st_ite]) | (with_reducible refine (foldl_fixed _ _ _ (fun _ _ => ?_)).trans ?_) | (with_reducible refine (foldl_pair_fixed _ _ _ (fun _ _ => ?_)).trans ?_) | dsimp only | (simp_all; done))

@[simp] theorem State.compareDigest_fixed (s : State) (sn : Nat) (own : Option (List Byte)) (mate : List Byte) : (State.compareDigest s sn own mate).fixed = s.fixed := by
  unfold State.compareDigest
  repeat' (first | (simp only [↓State.count_fixed, ↓State.primeDone_fixed, ↓State.record_fixed, ↓State.setNum64_fixed, ↓State.setNum_fixed, ↓State.setPai_fixed, ↓mk_fixed, ↓ite_fixed, ite_self, ↓st_ite]; done) | split | (simp only [↓State.count_fixed, ↓State.primeDone_fixed, ↓State.record_fixed, ↓State.setNum64_fixed, ↓State.setNum_fixed, ↓State.setPai_fixed, ↓mk_fixed, ↓ite_fixed, ite_self, ↓st_ite]; split) | (simp only [↓State.count_fixed, ↓State.primeDone_fixed, ↓State.record_fixed, ↓State.setNum64_fixed, ↓State.setNum_fixed, ↓State.setPai_fixed, ↓mk_fixed, ↓ite_fixed, ite_self, ↓st_ite]) | (with_reducible refine (foldl_fixed _ _ _ (fun _ _ => ?_)).trans ?_) | (with_reducible refine (foldl_pair_fixed _ _ _ (fun _ _ => ?_)).trans ?_) | dsimp only | (simp_all; done))

@[simp] theorem State.sealPair_fixed (s : State) : (State.sealPair s).fixed = s.fixed := by
  unfold State.sealPair
  repeat' (first | (simp only [↓State.compareDigest_fixed, ↓State.setDisp_fixed, ↓State.setPai_fixed, ↓mk_fixed, ↓ite_fixed, ite_self, ↓st_ite]; done) | split | (simp only [↓State.compareDigest_fixed, ↓State.setDisp_fixed, ↓State.setPai_fixed, ↓mk_fixed, ↓ite_fixed, ite_self, ↓st_ite]; split) | (simp only [↓State.compareDigest_fixed, ↓State.setDisp_fixed, ↓State.setPai_fixed, ↓mk_fixed, ↓ite_fixed, ite_self, ↓st_ite]) | (with_reducible refine (foldl_fixed _ _ _ (fun _ _ => ?_)).trans ?_) | (with_reducible refine (foldl_pair_fixed _ _ _ (fun _ _ => ?_)).trans ?_) | dsimp only | (simp_all; done))

@[simp] theorem execPaiQuery_fixed (d : Desc) (s : State) : (after (execPaiQuery d s) s).fixed = s.fixed := by
  unfold execPaiQuery
  repeat (first | rw [after_next] | rw [after_ite] | fail)
  repeat' (first | (simp only [↓State.answer_fixed, ↓State.command_fixed, ↓mk_fixed, ↓ite_fixed, ite_self, ↓st_ite]; done) | split | (simp only [↓State.answer_fixed, ↓State.command_fixed, ↓mk_fixed, ↓ite_fixed, ite_self, ↓st_ite]; split) | (simp only [↓State.answer_fixed, ↓State.command_fixed, ↓mk_fixed, ↓ite_fixed, ite_self, ↓st_ite]) | (with_reducible refine (State.command_fixed _ _ _ (fun _ => ?_)).trans ?_) | (with_reducible refine (foldl_fixed _ _ _ (fun _ _ => ?_)).trans ?_) | (with_reducible refine (foldl_pair_fixed _ _ _ (fun _ _ => ?_)).trans ?_) | dsimp only | (simp_all; done))

@[simp] theorem execPaiHandover_fixed (d : Desc) (s : State) : (after (execPaiHandover d s) s).fixed = s.fixed := by
  unfold execPaiHandover
  repeat (first | rw [after_next] | rw [after_ite] | fail)
  repeat' (first | (simp only [↓State.announce_fixed, ↓State.command_fixed, ↓State.fail_fixed, ↓State.later_fixed, ↓State.setPai_fixed, ↓mk_fixed, ↓ite_fixed, ite_self, ↓st_ite]; done) | split | (simp only [↓State.announce_fixed, ↓State.command_fixed, ↓State.fail_fixed, ↓State.later_fixed, ↓State.setPai_fixed, ↓mk_fixed, ↓ite_fixed, ite_self, ↓st_ite]; split) | (simp only [↓State.announce_fixed, ↓State.command_fixed, ↓State.fail_fixed, ↓State.later_fixed, ↓State.setPai_fixed, ↓mk_fixed, ↓ite_fixed, ite_self, ↓st_ite]) | (with_reducible refine (State.command_fixed _ _ _ (fun _ => ?_)).trans ?_) | (with_reducible refine (foldl_fixed _ _ _ (fun _ _ => ?_)).trans ?_) | (with_reducible refine (foldl_pair_fixed _ _ _ (fun _ _ => ?_)).trans ?_) | dsimp only | (simp_all; done))

@[simp] theorem execPaiDetach_fixed (d : Desc) (s : State) : (after (execPaiDetach d s) s).fixed = s.fixed := by
  unfold execPaiDetach
  repeat (first | rw [after_next] | rw [after_ite] | fail)
  repeat' (first | (simp only [↓State.command_fixed, ↓State.fail_fixed, ↓State.leaveStandby_fixed, ↓State.ok_fixed, ↓State.setPai_fixed, ↓mk_fixed, ↓ite_fixed, ite_self, ↓st_ite]; done) | split | (simp only [↓State.command_fixed, ↓State.fail_fixed, ↓State.leaveStandby_fixed, ↓State.ok_fixed, ↓State.setPai_fixed, ↓mk_fixed, ↓ite_fixed, ite_self, ↓st_ite]; split) | (simp only [↓State.command_fixed, ↓State.fail_fixed, ↓State.leaveStandby_fixed, ↓State.ok_fixed, ↓State.setPai_fixed, ↓mk_fixed, ↓ite_fixed, ite_self, ↓st_ite]) | (with_reducible refine (State.command_fixed _ _ _ (fun _ => ?_)).trans ?_) | (with_reducible refine (foldl_fixed _ _ _ (fun _ _ => ?_)).trans ?_) | (with_reducible refine (foldl_pair_fixed _ _ _ (fun _ _ => ?_)).trans ?_) | dsimp only | (simp_all; done))

@[simp] theorem execPaiPrime_fixed (d : Desc) (s : State) : (after (execPaiPrime d s) s).fixed = s.fixed := by
  unfold execPaiPrime
  repeat (first | rw [after_next] | rw [after_ite] | fail)
  repeat' (first | (simp only [↓State.command_fixed, ↓State.fail_fixed, ↓State.ok_fixed, ↓State.requestPrime_fixed, ↓State.setPai_fixed, ↓mk_fixed, ↓ite_fixed, ite_self, ↓st_ite]; done) | split | (simp only [↓State.command_fixed, ↓State.fail_fixed, ↓State.ok_fixed, ↓State.requestPrime_fixed, ↓State.setPai_fixed, ↓mk_fixed, ↓ite_fixed, ite_self, ↓st_ite]; split) | (simp only [↓State.command_fixed, ↓State.fail_fixed, ↓State.ok_fixed, ↓State.requestPrime_fixed, ↓State.setPai_fixed, ↓mk_fixed, ↓ite_fixed, ite_self, ↓st_ite]) | (with_reducible refine (State.command_fixed _ _ _ (fun _ => ?_)).trans ?_) | (with_reducible refine (foldl_fixed _ _ _ (fun _ _ => ?_)).trans ?_) | (with_reducible refine (foldl_pair_fixed _ _ _ (fun _ _ => ?_)).trans ?_) | dsimp only | (simp_all; done))

@[simp] theorem execPaiAssume_fixed (d : Desc) (s : State) : (after (execPaiAssume d s) s).fixed = s.fixed := by
  unfold execPaiAssume
  repeat (first | rw [after_next] | rw [after_ite] | fail)
  repeat' (first | (simp only [↓State.assume_fixed, ↓State.command_fixed, ↓State.fail_fixed, ↓State.later_fixed, ↓State.ok_fixed, ↓State.setPai_fixed, ↓mk_fixed, ↓ite_fixed, ite_self, ↓st_ite]; done) | split | (simp only [↓State.assume_fixed, ↓State.command_fixed, ↓State.fail_fixed, ↓State.later_fixed, ↓State.ok_fixed, ↓State.setPai_fixed, ↓mk_fixed, ↓ite_fixed, ite_self, ↓st_ite]; split) | (simp only [↓State.assume_fixed, ↓State.command_fixed, ↓State.fail_fixed, ↓State.later_fixed, ↓State.ok_fixed, ↓State.setPai_fixed, ↓mk_fixed, ↓ite_fixed, ite_self, ↓st_ite]) | (with_reducible refine (State.command_fixed _ _ _ (fun _ => ?_)).trans ?_) | (with_reducible refine (foldl_fixed _ _ _ (fun _ _ => ?_)).trans ?_) | (with_reducible refine (foldl_pair_fixed _ _ _ (fun _ _ => ?_)).trans ?_) | dsimp only | (simp_all; done))

end Sys2Proof.Machine
end

