-- ==== Sys2Proof/Laws/FixedRings.lean ====
section
/-! SUPPORT. What the operations of Machine/Rings.lean leave alone (Laws/Fixed.lean). -/

set_option linter.all false

namespace Sys2Proof.Machine

open Sys2Proof

@[simp] theorem State.noteCfgErr_fixed (s : State) (cq : Bool) (n cause : Nat) : (State.noteCfgErr s cq n cause).fixed = s.fixed := by
  unfold State.noteCfgErr
  repeat' (first | (simp only [↓State.put_fixed, ↓mk_fixed, ↓ite_fixed, ite_self, ↓st_ite]; done) | split | (simp only [↓State.put_fixed, ↓mk_fixed, ↓ite_fixed, ite_self, ↓st_ite]; split) | (simp only [↓State.put_fixed, ↓mk_fixed, ↓ite_fixed, ite_self, ↓st_ite]) | (with_reducible refine (foldl_fixed _ _ _ (fun _ _ => ?_)).trans ?_) | (with_reducible refine (foldl_pair_fixed _ _ _ (fun _ _ => ?_)).trans ?_) | dsimp only | (simp_all; done))

@[simp] theorem State.scanRings_fixed (s : State) : (State.scanRings s).fixed = s.fixed := by
  unfold State.scanRings
  repeat' (first | (simp only [↓State.noteCfgErr_fixed, ↓mk_fixed, ↓ite_fixed, ite_self, ↓st_ite]; done) | split | (simp only [↓State.noteCfgErr_fixed, ↓mk_fixed, ↓ite_fixed, ite_self, ↓st_ite]; split) | (simp only [↓State.noteCfgErr_fixed, ↓mk_fixed, ↓ite_fixed, ite_self, ↓st_ite]) | (with_reducible refine (foldl_fixed _ _ _ (fun _ _ => ?_)).trans ?_) | (with_reducible refine (foldl_pair_fixed _ _ _ (fun _ _ => ?_)).trans ?_) | dsimp only | (simp_all; done))

@[simp] theorem State.lockedWrite_fixed (s : State) (a : Nat) (v : Word) : (State.lockedWrite s a v).fixed = s.fixed := by
  unfold State.lockedWrite
  repeat' (first | (simp only [↓State.count_fixed, ↓State.record_fixed, ↓mk_fixed, ↓ite_fixed, ite_self, ↓st_ite]; done) | split | (simp only [↓State.count_fixed, ↓State.record_fixed, ↓mk_fixed, ↓ite_fixed, ite_self, ↓st_ite]; split) | (simp only [↓State.count_fixed, ↓State.record_fixed, ↓mk_fixed, ↓ite_fixed, ite_self, ↓st_ite]) | (with_reducible refine (foldl_fixed _ _ _ (fun _ _ => ?_)).trans ?_) | (with_reducible refine (foldl_pair_fixed _ _ _ (fun _ _ => ?_)).trans ?_) | dsimp only | (simp_all; done))

@[simp] theorem State.setRingFault_fixed (s : State) (cq : Bool) (n : Nat) : (State.setRingFault s cq n).fixed = s.fixed := by
  unfold State.setRingFault
  repeat' (first | (simp only [↓State.setNum_fixed, ↓mk_fixed, ↓ite_fixed, ite_self, ↓st_ite]; done) | split | (simp only [↓State.setNum_fixed, ↓mk_fixed, ↓ite_fixed, ite_self, ↓st_ite]; split) | (simp only [↓State.setNum_fixed, ↓mk_fixed, ↓ite_fixed, ite_self, ↓st_ite]) | (with_reducible refine (foldl_fixed _ _ _ (fun _ _ => ?_)).trans ?_) | (with_reducible refine (foldl_pair_fixed _ _ _ (fun _ _ => ?_)).trans ?_) | dsimp only | (simp_all; done))

@[simp] theorem State.modSq_fixed (s : State) (n : Nat) (f : SqRing → SqRing) : (State.modSq s n f).fixed = s.fixed := by
  unfold State.modSq
  repeat' (first | (simp only [↓State.setRings_fixed, ↓mk_fixed, ↓ite_fixed, ite_self, ↓st_ite]; done) | split | (simp only [↓State.setRings_fixed, ↓mk_fixed, ↓ite_fixed, ite_self, ↓st_ite]; split) | (simp only [↓State.setRings_fixed, ↓mk_fixed, ↓ite_fixed, ite_self, ↓st_ite]) | (with_reducible refine (foldl_fixed _ _ _ (fun _ _ => ?_)).trans ?_) | (with_reducible refine (foldl_pair_fixed _ _ _ (fun _ _ => ?_)).trans ?_) | dsimp only | (simp_all; done))

@[simp] theorem State.modCq_fixed (s : State) (n : Nat) (f : CqRing → CqRing) : (State.modCq s n f).fixed = s.fixed := by
  unfold State.modCq
  repeat' (first | (simp only [↓State.setRings_fixed, ↓mk_fixed, ↓ite_fixed, ite_self, ↓st_ite]; done) | split | (simp only [↓State.setRings_fixed, ↓mk_fixed, ↓ite_fixed, ite_self, ↓st_ite]; split) | (simp only [↓State.setRings_fixed, ↓mk_fixed, ↓ite_fixed, ite_self, ↓st_ite]) | (with_reducible refine (foldl_fixed _ _ _ (fun _ _ => ?_)).trans ?_) | (with_reducible refine (foldl_pair_fixed _ _ _ (fun _ _ => ?_)).trans ?_) | dsimp only | (simp_all; done))

@[simp] theorem State.abortDesc_fixed (s : State) (d : Desc) (cause : Nat) : (State.abortDesc s d cause).fixed = s.fixed := by
  unfold State.abortDesc
  repeat' (first | (simp only [↓State.complete_fixed, ↓mk_fixed, ↓ite_fixed, ite_self, ↓st_ite]; done) | split | (simp only [↓State.complete_fixed, ↓mk_fixed, ↓ite_fixed, ite_self, ↓st_ite]; split) | (simp only [↓State.complete_fixed, ↓mk_fixed, ↓ite_fixed, ite_self, ↓st_ite]) | (with_reducible refine (foldl_fixed _ _ _ (fun _ _ => ?_)).trans ?_) | (with_reducible refine (foldl_pair_fixed _ _ _ (fun _ _ => ?_)).trans ?_) | dsimp only | (simp_all; done))

@[simp] theorem State.noteAbandoned_fixed (s : State) (j : Job) : (State.noteAbandoned s j).fixed = s.fixed := by
  unfold State.noteAbandoned
  repeat' (first | (simp only [↓State.setPai_fixed, ↓mk_fixed, ↓ite_fixed, ite_self, ↓st_ite]; done) | split | (simp only [↓State.setPai_fixed, ↓mk_fixed, ↓ite_fixed, ite_self, ↓st_ite]; split) | (simp only [↓State.setPai_fixed, ↓mk_fixed, ↓ite_fixed, ite_self, ↓st_ite]) | (with_reducible refine (foldl_fixed _ _ _ (fun _ _ => ?_)).trans ?_) | (with_reducible refine (foldl_pair_fixed _ _ _ (fun _ _ => ?_)).trans ?_) | dsimp only | (simp_all; done))

@[simp] theorem State.abortRing_fixed (s : State) (n : Nat) : (State.abortRing s n).fixed = s.fixed := by
  unfold State.abortRing
  repeat' (first | (simp only [↓State.abortDesc_fixed, ↓State.dropJob_fixed, ↓State.freeDomain_fixed, ↓State.noteAbandoned_fixed, ↓mk_fixed, ↓ite_fixed, ite_self, ↓st_ite]; done) | split | (simp only [↓State.abortDesc_fixed, ↓State.dropJob_fixed, ↓State.freeDomain_fixed, ↓State.noteAbandoned_fixed, ↓mk_fixed, ↓ite_fixed, ite_self, ↓st_ite]; split) | (simp only [↓State.abortDesc_fixed, ↓State.dropJob_fixed, ↓State.freeDomain_fixed, ↓State.noteAbandoned_fixed, ↓mk_fixed, ↓ite_fixed, ite_self, ↓st_ite]) | (with_reducible refine (foldl_fixed _ _ _ (fun _ _ => ?_)).trans ?_) | (with_reducible refine (foldl_pair_fixed _ _ _ (fun _ _ => ?_)).trans ?_) | dsimp only | (simp_all; done))

@[simp] theorem State.writeRingCfg_fixed (s : State) (cq : Bool) (n : Nat) (v : Word) : (State.writeRingCfg s cq n v).fixed = s.fixed := by
  unfold State.writeRingCfg
  repeat' (first | (simp only [↓State.abortRing_fixed, ↓State.lockedWrite_fixed, ↓State.modCq_fixed, ↓State.modSq_fixed, ↓State.noteCfgErr_fixed, ↓State.scanRings_fixed, ↓State.wr_fixed, ↓mk_fixed, ↓ite_fixed, ite_self, ↓st_ite]; done) | split | (simp only [↓State.abortRing_fixed, ↓State.lockedWrite_fixed, ↓State.modCq_fixed, ↓State.modSq_fixed, ↓State.noteCfgErr_fixed, ↓State.scanRings_fixed, ↓State.wr_fixed, ↓mk_fixed, ↓ite_fixed, ite_self, ↓st_ite]; split) | (simp only [↓State.abortRing_fixed, ↓State.lockedWrite_fixed, ↓State.modCq_fixed, ↓State.modSq_fixed, ↓State.noteCfgErr_fixed, ↓State.scanRings_fixed, ↓State.wr_fixed, ↓mk_fixed, ↓ite_fixed, ite_self, ↓st_ite]) | (with_reducible refine (foldl_fixed _ _ _ (fun _ _ => ?_)).trans ?_) | (with_reducible refine (foldl_pair_fixed _ _ _ (fun _ _ => ?_)).trans ?_) | dsimp only | (simp_all; done))

@[simp] theorem State.writeRingBase_fixed (s : State) (cq : Bool) (n a : Nat) (v : Word) : (State.writeRingBase s cq n a v).fixed = s.fixed := by
  unfold State.writeRingBase
  repeat' (first | (simp only [↓State.lockedWrite_fixed, ↓State.noteCfgErr_fixed, ↓State.wr_fixed, ↓mk_fixed, ↓ite_fixed, ite_self, ↓st_ite]; done) | split | (simp only [↓State.lockedWrite_fixed, ↓State.noteCfgErr_fixed, ↓State.wr_fixed, ↓mk_fixed, ↓ite_fixed, ite_self, ↓st_ite]; split) | (simp only [↓State.lockedWrite_fixed, ↓State.noteCfgErr_fixed, ↓State.wr_fixed, ↓mk_fixed, ↓ite_fixed, ite_self, ↓st_ite]) | (with_reducible refine (foldl_fixed _ _ _ (fun _ _ => ?_)).trans ?_) | (with_reducible refine (foldl_pair_fixed _ _ _ (fun _ _ => ?_)).trans ?_) | dsimp only | (simp_all; done))

@[simp] theorem execRingEnable_fixed (cq : Bool) (n : Nat) (v : Word) (s : State) : (after (execRingEnable cq n v s) s).fixed = s.fixed := by
  unfold execRingEnable
  repeat (first | rw [after_next] | rw [after_ite] | fail)
  repeat' (first | (simp only [↓State.writeRingCfg_fixed, ↓mk_fixed, ↓ite_fixed, ite_self, ↓st_ite]; done) | split | (simp only [↓State.writeRingCfg_fixed, ↓mk_fixed, ↓ite_fixed, ite_self, ↓st_ite]; split) | (simp only [↓State.writeRingCfg_fixed, ↓mk_fixed, ↓ite_fixed, ite_self, ↓st_ite]) | (with_reducible refine (foldl_fixed _ _ _ (fun _ _ => ?_)).trans ?_) | (with_reducible refine (foldl_pair_fixed _ _ _ (fun _ _ => ?_)).trans ?_) | dsimp only | (simp_all; done))

@[simp] theorem execRingDisable_fixed (cq : Bool) (n : Nat) (v : Word) (s : State) : (after (execRingDisable cq n v s) s).fixed = s.fixed := by
  unfold execRingDisable
  repeat (first | rw [after_next] | rw [after_ite] | fail)
  repeat' (first | (simp only [↓State.writeRingCfg_fixed, ↓mk_fixed, ↓ite_fixed, ite_self, ↓st_ite]; done) | split | (simp only [↓State.writeRingCfg_fixed, ↓mk_fixed, ↓ite_fixed, ite_self, ↓st_ite]; split) | (simp only [↓State.writeRingCfg_fixed, ↓mk_fixed, ↓ite_fixed, ite_self, ↓st_ite]) | (with_reducible refine (foldl_fixed _ _ _ (fun _ _ => ?_)).trans ?_) | (with_reducible refine (foldl_pair_fixed _ _ _ (fun _ _ => ?_)).trans ?_) | dsimp only | (simp_all; done))

@[simp] theorem execSqFaultClear_fixed (hi : Bool) (v : Word) (s : State) : (after (execSqFaultClear hi v s) s).fixed = s.fixed := by
  unfold execSqFaultClear
  repeat (first | rw [after_next] | rw [after_ite] | fail)
  repeat' (first | (simp only [↓State.wr_fixed, ↓mk_fixed, ↓ite_fixed, ite_self, ↓st_ite]; done) | split | (simp only [↓State.wr_fixed, ↓mk_fixed, ↓ite_fixed, ite_self, ↓st_ite]; split) | (simp only [↓State.wr_fixed, ↓mk_fixed, ↓ite_fixed, ite_self, ↓st_ite]) | (with_reducible refine (foldl_fixed _ _ _ (fun _ _ => ?_)).trans ?_) | (with_reducible refine (foldl_pair_fixed _ _ _ (fun _ _ => ?_)).trans ?_) | dsimp only | (simp_all; done))

@[simp] theorem execCqFaultClear_fixed (hi : Bool) (v : Word) (s : State) : (after (execCqFaultClear hi v s) s).fixed = s.fixed := by
  unfold execCqFaultClear
  repeat (first | rw [after_next] | rw [after_ite] | fail)
  repeat' (first | (simp only [↓State.wr_fixed, ↓mk_fixed, ↓ite_fixed, ite_self, ↓st_ite]; done) | split | (simp only [↓State.wr_fixed, ↓mk_fixed, ↓ite_fixed, ite_self, ↓st_ite]; split) | (simp only [↓State.wr_fixed, ↓mk_fixed, ↓ite_fixed, ite_self, ↓st_ite]) | (with_reducible refine (foldl_fixed _ _ _ (fun _ _ => ?_)).trans ?_) | (with_reducible refine (foldl_pair_fixed _ _ _ (fun _ _ => ?_)).trans ?_) | dsimp only | (simp_all; done))

@[simp] theorem State.readProd_fixed (s : State) (n p : Nat) : (State.readProd s n p).fixed = s.fixed := by
  unfold State.readProd
  repeat' (first | (simp only [↓State.modSq_fixed, ↓State.record_fixed, ↓State.setRingFault_fixed, ↓mk_fixed, ↓ite_fixed, ite_self, ↓st_ite]; done) | split | (simp only [↓State.modSq_fixed, ↓State.record_fixed, ↓State.setRingFault_fixed, ↓mk_fixed, ↓ite_fixed, ite_self, ↓st_ite]; split) | (simp only [↓State.modSq_fixed, ↓State.record_fixed, ↓State.setRingFault_fixed, ↓mk_fixed, ↓ite_fixed, ite_self, ↓st_ite]) | (with_reducible refine (foldl_fixed _ _ _ (fun _ _ => ?_)).trans ?_) | (with_reducible refine (foldl_pair_fixed _ _ _ (fun _ _ => ?_)).trans ?_) | dsimp only | (simp_all; done))

@[simp] theorem State.readCons_fixed (s : State) (n h : Nat) : (State.readCons s n h).fixed = s.fixed := by
  unfold State.readCons
  repeat' (first | (simp only [↓State.modCq_fixed, ↓State.record_fixed, ↓State.setRingFault_fixed, ↓mk_fixed, ↓ite_fixed, ite_self, ↓st_ite]; done) | split | (simp only [↓State.modCq_fixed, ↓State.record_fixed, ↓State.setRingFault_fixed, ↓mk_fixed, ↓ite_fixed, ite_self, ↓st_ite]; split) | (simp only [↓State.modCq_fixed, ↓State.record_fixed, ↓State.setRingFault_fixed, ↓mk_fixed, ↓ite_fixed, ite_self, ↓st_ite]) | (with_reducible refine (foldl_fixed _ _ _ (fun _ _ => ?_)).trans ?_) | (with_reducible refine (foldl_pair_fixed _ _ _ (fun _ _ => ?_)).trans ?_) | dsimp only | (simp_all; done))

@[simp] theorem execDoorbellRead_fixed (fast late : Bool) (prods conss : List Nat) (s : State) : (after (execDoorbellRead fast late prods conss s) s).fixed = s.fixed := by
  unfold execDoorbellRead
  repeat (first | rw [after_next] | rw [after_ite] | fail)
  repeat' (first | (simp only [↓State.count_fixed, ↓State.readCons_fixed, ↓State.readProd_fixed, ↓mk_fixed, ↓ite_fixed, ite_self, ↓st_ite]; done) | split | (simp only [↓State.count_fixed, ↓State.readCons_fixed, ↓State.readProd_fixed, ↓mk_fixed, ↓ite_fixed, ite_self, ↓st_ite]; split) | (simp only [↓State.count_fixed, ↓State.readCons_fixed, ↓State.readProd_fixed, ↓mk_fixed, ↓ite_fixed, ite_self, ↓st_ite]) | (with_reducible refine (foldl_fixed _ _ _ (fun _ _ => ?_)).trans ?_) | (with_reducible refine (foldl_pair_fixed _ _ _ (fun _ _ => ?_)).trans ?_) | dsimp only | (simp_all; done))

@[simp] theorem State.showDisp_fixed (s : State) : (State.showDisp s).fixed = s.fixed := by
  unfold State.showDisp
  repeat' (first | (simp only [↓State.put_fixed, ↓State.setNum_fixed, ↓mk_fixed, ↓ite_fixed, ite_self, ↓st_ite]; done) | split | (simp only [↓State.put_fixed, ↓State.setNum_fixed, ↓mk_fixed, ↓ite_fixed, ite_self, ↓st_ite]; split) | (simp only [↓State.put_fixed, ↓State.setNum_fixed, ↓mk_fixed, ↓ite_fixed, ite_self, ↓st_ite]) | (with_reducible refine (foldl_fixed _ _ _ (fun _ _ => ?_)).trans ?_) | (with_reducible refine (foldl_pair_fixed _ _ _ (fun _ _ => ?_)).trans ?_) | dsimp only | (simp_all; done))

@[simp] theorem State.enterDesc_fixed (s : State) (d : Desc) (prev : Option Nat) : (State.enterDesc s d prev).1.fixed = s.fixed := by
  unfold State.enterDesc
  repeat' (first | (simp only [↓State.addJob_fixed, ↓State.forwardDesc_fixed, ↓mk_fixed, ↓ite_fixed, ite_self, ↓st_ite]; done) | split | (simp only [↓State.addJob_fixed, ↓State.forwardDesc_fixed, ↓mk_fixed, ↓ite_fixed, ite_self, ↓st_ite]; split) | (simp only [↓State.addJob_fixed, ↓State.forwardDesc_fixed, ↓mk_fixed, ↓ite_fixed, ite_self, ↓st_ite]) | (with_reducible refine (foldl_fixed _ _ _ (fun _ _ => ?_)).trans ?_) | (with_reducible refine (foldl_pair_fixed _ _ _ (fun _ _ => ?_)).trans ?_) | dsimp only | (simp_all; done))

@[simp] theorem State.enterChain_fixed (s : State) (prev : Option Nat) (dead : Bool) (nb : Nat) (x0 : List Desc) : (State.enterChain s prev dead nb x0).fixed = s.fixed := by
  induction x0 generalizing s prev dead nb with
  | nil => simp [State.enterChain]
  | cons x l ih =>
    unfold State.enterChain
    repeat' (first | (simp only [↓ih, ↓State.abortDesc_fixed, ↓State.endEarly_fixed, ↓State.enterDesc_fixed, ↓State.setDisp_fixed, ↓mk_fixed, ↓ite_fixed, ite_self, ↓st_ite]; done) | split | (simp only [↓ih, ↓State.abortDesc_fixed, ↓State.endEarly_fixed, ↓State.enterDesc_fixed, ↓State.setDisp_fixed, ↓mk_fixed, ↓ite_fixed, ite_self, ↓st_ite]; split) | (simp only [↓ih, ↓State.abortDesc_fixed, ↓State.endEarly_fixed, ↓State.enterDesc_fixed, ↓State.setDisp_fixed, ↓mk_fixed, ↓ite_fixed, ite_self, ↓st_ite]) | (simp only [↓ih, pair_fixed ‹State.enterDesc _ _ _  = (_, _)› (State.enterDesc_fixed _ _ _ ), ↓State.abortDesc_fixed, ↓State.endEarly_fixed, ↓State.enterDesc_fixed, ↓State.setDisp_fixed, ↓mk_fixed, ↓ite_fixed, ite_self, ↓st_ite]) | (with_reducible refine (foldl_fixed _ _ _ (fun _ _ => ?_)).trans ?_) | (with_reducible refine (foldl_pair_fixed _ _ _ (fun _ _ => ?_)).trans ?_) | dsimp only | (simp_all; done))

@[simp] theorem State.showHeldSources_fixed (s : State) : (State.showHeldSources s).fixed = s.fixed := by
  unfold State.showHeldSources
  repeat' (first | (simp only [↓State.setNum_fixed, ↓mk_fixed, ↓ite_fixed, ite_self, ↓st_ite]; done) | split | (simp only [↓State.setNum_fixed, ↓mk_fixed, ↓ite_fixed, ite_self, ↓st_ite]; split) | (simp only [↓State.setNum_fixed, ↓mk_fixed, ↓ite_fixed, ite_self, ↓st_ite]) | (with_reducible refine (foldl_fixed _ _ _ (fun _ _ => ?_)).trans ?_) | (with_reducible refine (foldl_pair_fixed _ _ _ (fun _ _ => ?_)).trans ?_) | dsimp only | (simp_all; done))

@[simp] theorem State.pressure_fixed (s : State) : (State.pressure s).fixed = s.fixed := by
  unfold State.pressure
  repeat' (first | (simp only [↓State.put_fixed, ↓State.record_fixed, ↓State.setDisp_fixed, ↓State.showHeldSources_fixed, ↓mk_fixed, ↓ite_fixed, ite_self, ↓st_ite]; done) | split | (simp only [↓State.put_fixed, ↓State.record_fixed, ↓State.setDisp_fixed, ↓State.showHeldSources_fixed, ↓mk_fixed, ↓ite_fixed, ite_self, ↓st_ite]; split) | (simp only [↓State.put_fixed, ↓State.record_fixed, ↓State.setDisp_fixed, ↓State.showHeldSources_fixed, ↓mk_fixed, ↓ite_fixed, ite_self, ↓st_ite]) | (with_reducible refine (foldl_fixed _ _ _ (fun _ _ => ?_)).trans ?_) | (with_reducible refine (foldl_pair_fixed _ _ _ (fun _ _ => ?_)).trans ?_) | dsimp only | (simp_all; done))

@[simp] theorem State.resumeOne_fixed (s : State) : (State.resumeOne s).fixed = s.fixed := by
  unfold State.resumeOne
  repeat' (first | (simp only [↓State.put_fixed, ↓State.record_fixed, ↓State.setDisp_fixed, ↓State.showHeldSources_fixed, ↓mk_fixed, ↓ite_fixed, ite_self, ↓st_ite]; done) | split | (simp only [↓State.put_fixed, ↓State.record_fixed, ↓State.setDisp_fixed, ↓State.showHeldSources_fixed, ↓mk_fixed, ↓ite_fixed, ite_self, ↓st_ite]; split) | (simp only [↓State.put_fixed, ↓State.record_fixed, ↓State.setDisp_fixed, ↓State.showHeldSources_fixed, ↓mk_fixed, ↓ite_fixed, ite_self, ↓st_ite]) | (with_reducible refine (foldl_fixed _ _ _ (fun _ _ => ?_)).trans ?_) | (with_reducible refine (foldl_pair_fixed _ _ _ (fun _ _ => ?_)).trans ?_) | dsimp only | (simp_all; done))

@[simp] theorem execDescriptorFetch_fixed (ring : Nat) (raw : List (List Byte × List Byte)) (s : State) : (after (execDescriptorFetch ring raw s) s).fixed = s.fixed := by
  unfold execDescriptorFetch
  repeat (first | rw [after_next] | rw [after_ite] | fail)
  repeat' (first | (simp only [↓State.endEarly_fixed, ↓State.enterChain_fixed, ↓State.modCq_fixed, ↓State.modSq_fixed, ↓State.pressure_fixed, ↓State.put_fixed, ↓State.record_fixed, ↓State.showDisp_fixed, ↓mk_fixed, ↓ite_fixed, ite_self, ↓st_ite]; done) | split | (simp only [↓State.endEarly_fixed, ↓State.enterChain_fixed, ↓State.modCq_fixed, ↓State.modSq_fixed, ↓State.pressure_fixed, ↓State.put_fixed, ↓State.record_fixed, ↓State.showDisp_fixed, ↓mk_fixed, ↓ite_fixed, ite_self, ↓st_ite]; split) | (simp only [↓State.endEarly_fixed, ↓State.enterChain_fixed, ↓State.modCq_fixed, ↓State.modSq_fixed, ↓State.pressure_fixed, ↓State.put_fixed, ↓State.record_fixed, ↓State.showDisp_fixed, ↓mk_fixed, ↓ite_fixed, ite_self, ↓st_ite]) | (with_reducible refine (foldl_fixed _ _ _ (fun _ _ => ?_)).trans ?_) | (with_reducible refine (foldl_pair_fixed _ _ _ (fun _ _ => ?_)).trans ?_) | dsimp only | (simp_all; done))

@[simp] theorem State.writeCpl_fixed (s : State) (c : DueCpl) : (State.writeCpl s c).fixed = s.fixed := by
  unfold State.writeCpl
  repeat' (first | (simp only [↓State.count_fixed, ↓State.emit_fixed, ↓State.modCq_fixed, ↓State.sendMate_fixed, ↓State.setRings_fixed, ↓State.unreserve_fixed, ↓State.wlgWritten_fixed, ↓mk_fixed, ↓ite_fixed, ite_self, ↓st_ite]; done) | split | (simp only [↓State.count_fixed, ↓State.emit_fixed, ↓State.modCq_fixed, ↓State.sendMate_fixed, ↓State.setRings_fixed, ↓State.unreserve_fixed, ↓State.wlgWritten_fixed, ↓mk_fixed, ↓ite_fixed, ite_self, ↓st_ite]; split) | (simp only [↓State.count_fixed, ↓State.emit_fixed, ↓State.modCq_fixed, ↓State.sendMate_fixed, ↓State.setRings_fixed, ↓State.unreserve_fixed, ↓State.wlgWritten_fixed, ↓mk_fixed, ↓ite_fixed, ite_self, ↓st_ite]) | (with_reducible refine (foldl_fixed _ _ _ (fun _ _ => ?_)).trans ?_) | (with_reducible refine (foldl_pair_fixed _ _ _ (fun _ _ => ?_)).trans ?_) | dsimp only | (simp_all; done))

@[simp] theorem State.writeCpls_fixed (s : State) : (State.writeCpls s).fixed = s.fixed := by
  unfold State.writeCpls
  repeat' (first | (simp only [↓State.setRings_fixed, ↓State.writeCpl_fixed, ↓mk_fixed, ↓ite_fixed, ite_self, ↓st_ite]; done) | split | (simp only [↓State.setRings_fixed, ↓State.writeCpl_fixed, ↓mk_fixed, ↓ite_fixed, ite_self, ↓st_ite]; split) | (simp only [↓State.setRings_fixed, ↓State.writeCpl_fixed, ↓mk_fixed, ↓ite_fixed, ite_self, ↓st_ite]) | (with_reducible refine (foldl_fixed _ _ _ (fun _ _ => ?_)).trans ?_) | (with_reducible refine (foldl_pair_fixed _ _ _ (fun _ _ => ?_)).trans ?_) | dsimp only | (simp_all; done))

@[simp] theorem State.writeIndices_fixed (s : State) : (State.writeIndices s).fixed = s.fixed := by
  unfold State.writeIndices
  repeat' (first | (simp only [↓State.emit_fixed, ↓State.modCq_fixed, ↓State.modSq_fixed, ↓mk_fixed, ↓ite_fixed, ite_self, ↓st_ite]; done) | split | (simp only [↓State.emit_fixed, ↓State.modCq_fixed, ↓State.modSq_fixed, ↓mk_fixed, ↓ite_fixed, ite_self, ↓st_ite]; split) | (simp only [↓State.emit_fixed, ↓State.modCq_fixed, ↓State.modSq_fixed, ↓mk_fixed, ↓ite_fixed, ite_self, ↓st_ite]) | (with_reducible refine (foldl_fixed _ _ _ (fun _ _ => ?_)).trans ?_) | (with_reducible refine (foldl_pair_fixed _ _ _ (fun _ _ => ?_)).trans ?_) | dsimp only | (simp_all; done))

@[simp] theorem State.sendVector_fixed (s : State) (v : Nat) : (State.sendVector s v).fixed = s.fixed := by
  unfold State.sendVector
  repeat' (first | (simp only [↓State.emit_fixed, ↓State.setNum_fixed, ↓mk_fixed, ↓ite_fixed, ite_self, ↓st_ite]; done) | split | (simp only [↓State.emit_fixed, ↓State.setNum_fixed, ↓mk_fixed, ↓ite_fixed, ite_self, ↓st_ite]; split) | (simp only [↓State.emit_fixed, ↓State.setNum_fixed, ↓mk_fixed, ↓ite_fixed, ite_self, ↓st_ite]) | (with_reducible refine (foldl_fixed _ _ _ (fun _ _ => ?_)).trans ?_) | (with_reducible refine (foldl_pair_fixed _ _ _ (fun _ _ => ?_)).trans ?_) | dsimp only | (simp_all; done))

@[simp] theorem State.signal_fixed (s : State) (healthChanged : Bool) : (State.signal s healthChanged).fixed = s.fixed := by
  unfold State.signal
  repeat' (first | (simp only [↓State.modCq_fixed, ↓State.sendVector_fixed, ↓State.setNet_fixed, ↓mk_fixed, ↓ite_fixed, ite_self, ↓st_ite]; done) | split | (simp only [↓State.modCq_fixed, ↓State.sendVector_fixed, ↓State.setNet_fixed, ↓mk_fixed, ↓ite_fixed, ite_self, ↓st_ite]; split) | (simp only [↓State.modCq_fixed, ↓State.sendVector_fixed, ↓State.setNet_fixed, ↓mk_fixed, ↓ite_fixed, ite_self, ↓st_ite]) | (with_reducible refine (foldl_fixed _ _ _ (fun _ _ => ?_)).trans ?_) | (with_reducible refine (foldl_pair_fixed _ _ _ (fun _ _ => ?_)).trans ?_) | dsimp only | (simp_all; done))

@[simp] theorem State.statusPoint_fixed (s : State) : (State.statusPoint s).fixed = s.fixed := by
  unfold State.statusPoint
  repeat' (first | (simp only [↓State.emit_fixed, ↓State.setRings_fixed, ↓State.signal_fixed, ↓State.streamRecords_fixed, ↓State.writeCpls_fixed, ↓State.writeIndices_fixed, ↓mk_fixed, ↓ite_fixed, ite_self, ↓st_ite]; done) | split | (simp only [↓State.emit_fixed, ↓State.setRings_fixed, ↓State.signal_fixed, ↓State.streamRecords_fixed, ↓State.writeCpls_fixed, ↓State.writeIndices_fixed, ↓mk_fixed, ↓ite_fixed, ite_self, ↓st_ite]; split) | (simp only [↓State.emit_fixed, ↓State.setRings_fixed, ↓State.signal_fixed, ↓State.streamRecords_fixed, ↓State.writeCpls_fixed, ↓State.writeIndices_fixed, ↓mk_fixed, ↓ite_fixed, ite_self, ↓st_ite]) | (with_reducible refine (foldl_fixed _ _ _ (fun _ _ => ?_)).trans ?_) | (with_reducible refine (foldl_pair_fixed _ _ _ (fun _ _ => ?_)).trans ?_) | dsimp only | (simp_all; done))

@[simp] theorem execHostDmaError_fixed (desc : Option (Nat × Nat)) (how : DmaEnd) (addr : Nat) (s : State) : (after (execHostDmaError desc how addr s) s).fixed = s.fixed := by
  unfold execHostDmaError
  repeat (first | rw [after_next] | rw [after_ite] | fail)
  repeat' (first | (simp only [↓State.count_fixed, ↓State.fail_fixed, ↓State.finish_fixed, ↓State.noteAbandoned_fixed, ↓State.record_fixed, ↓State.setRings_fixed, ↓mk_fixed, ↓ite_fixed, ite_self, ↓st_ite]; done) | split | (simp only [↓State.count_fixed, ↓State.fail_fixed, ↓State.finish_fixed, ↓State.noteAbandoned_fixed, ↓State.record_fixed, ↓State.setRings_fixed, ↓mk_fixed, ↓ite_fixed, ite_self, ↓st_ite]; split) | (simp only [↓State.count_fixed, ↓State.fail_fixed, ↓State.finish_fixed, ↓State.noteAbandoned_fixed, ↓State.record_fixed, ↓State.setRings_fixed, ↓mk_fixed, ↓ite_fixed, ite_self, ↓st_ite]) | (with_reducible refine (foldl_fixed _ _ _ (fun _ _ => ?_)).trans ?_) | (with_reducible refine (foldl_pair_fixed _ _ _ (fun _ _ => ?_)).trans ?_) | dsimp only | (simp_all; done))

@[simp] theorem execBar0BadRequest_fixed (addr dwords : Nat) (whole : Bool) (s : State) : (after (execBar0BadRequest addr dwords whole s) s).fixed = s.fixed := by
  unfold execBar0BadRequest
  repeat (first | rw [after_next] | rw [after_ite] | fail)
  repeat' (first | (simp only [↓State.count_fixed, ↓mk_fixed, ↓ite_fixed, ite_self, ↓st_ite]; done) | split | (simp only [↓State.count_fixed, ↓mk_fixed, ↓ite_fixed, ite_self, ↓st_ite]; split) | (simp only [↓State.count_fixed, ↓mk_fixed, ↓ite_fixed, ite_self, ↓st_ite]) | (with_reducible refine (foldl_fixed _ _ _ (fun _ _ => ?_)).trans ?_) | (with_reducible refine (foldl_pair_fixed _ _ _ (fun _ _ => ?_)).trans ?_) | dsimp only | (simp_all; done))

@[simp] theorem execHostLinkReset_fixed (s : State) : (after (execHostLinkReset s) s).fixed = s.fixed := by
  unfold execHostLinkReset
  repeat (first | rw [after_next] | rw [after_ite] | fail)
  repeat' (first | (simp only [↓State.count_fixed, ↓State.record_fixed, ↓State.setJobs_fixed, ↓State.setRings_fixed, ↓State.showDisp_fixed, ↓mk_fixed, ↓ite_fixed, ite_self, ↓st_ite]; done) | split | (simp only [↓State.count_fixed, ↓State.record_fixed, ↓State.setJobs_fixed, ↓State.setRings_fixed, ↓State.showDisp_fixed, ↓mk_fixed, ↓ite_fixed, ite_self, ↓st_ite]; split) | (simp only [↓State.count_fixed, ↓State.record_fixed, ↓State.setJobs_fixed, ↓State.setRings_fixed, ↓State.showDisp_fixed, ↓mk_fixed, ↓ite_fixed, ite_self, ↓st_ite]) | (with_reducible refine (foldl_fixed _ _ _ (fun _ _ => ?_)).trans ?_) | (with_reducible refine (foldl_pair_fixed _ _ _ (fun _ _ => ?_)).trans ?_) | dsimp only | (simp_all; done))

@[simp] theorem execNop_fixed (d : Desc) (s : State) : (after (execNop d s) s).fixed = s.fixed := by
  unfold execNop
  repeat (first | rw [after_next] | rw [after_ite] | fail)
  repeat' (first | (simp only [↓State.command_fixed, ↓State.ok_fixed, ↓mk_fixed, ↓ite_fixed, ite_self, ↓st_ite]; done) | split | (simp only [↓State.command_fixed, ↓State.ok_fixed, ↓mk_fixed, ↓ite_fixed, ite_self, ↓st_ite]; split) | (simp only [↓State.command_fixed, ↓State.ok_fixed, ↓mk_fixed, ↓ite_fixed, ite_self, ↓st_ite]) | (with_reducible refine (State.command_fixed _ _ _ (fun _ => ?_)).trans ?_) | (with_reducible refine (foldl_fixed _ _ _ (fun _ _ => ?_)).trans ?_) | (with_reducible refine (foldl_pair_fixed _ _ _ (fun _ _ => ?_)).trans ?_) | dsimp only | (simp_all; done))

@[simp] theorem execEcho_fixed (d : Desc) (s : State) : (after (execEcho d s) s).fixed = s.fixed := by
  unfold execEcho
  repeat (first | rw [after_next] | rw [after_ite] | fail)
  repeat' (first | (simp only [↓State.command_fixed, ↓State.ok_fixed, ↓mk_fixed, ↓ite_fixed, ite_self, ↓st_ite]; done) | split | (simp only [↓State.command_fixed, ↓State.ok_fixed, ↓mk_fixed, ↓ite_fixed, ite_self, ↓st_ite]; split) | (simp only [↓State.command_fixed, ↓State.ok_fixed, ↓mk_fixed, ↓ite_fixed, ite_self, ↓st_ite]) | (with_reducible refine (State.command_fixed _ _ _ (fun _ => ?_)).trans ?_) | (with_reducible refine (foldl_fixed _ _ _ (fun _ _ => ?_)).trans ?_) | (with_reducible refine (foldl_pair_fixed _ _ _ (fun _ _ => ?_)).trans ?_) | dsimp only | (simp_all; done))

@[simp] theorem execPostBuffer_fixed (d : Desc) (s : State) : (after (execPostBuffer d s) s).fixed = s.fixed := by
  unfold execPostBuffer
  repeat (first | rw [after_next] | rw [after_ite] | fail)
  repeat' (first | (simp only [↓State.command_fixed, ↓State.later_fixed, ↓State.logInput_fixed, ↓State.postBuffer_fixed, ↓State.wlgDeliver_fixed, ↓mk_fixed, ↓ite_fixed, ite_self, ↓st_ite]; done) | split | (simp only [↓State.command_fixed, ↓State.later_fixed, ↓State.logInput_fixed, ↓State.postBuffer_fixed, ↓State.wlgDeliver_fixed, ↓mk_fixed, ↓ite_fixed, ite_self, ↓st_ite]; split) | (simp only [↓State.command_fixed, ↓State.later_fixed, ↓State.logInput_fixed, ↓State.postBuffer_fixed, ↓State.wlgDeliver_fixed, ↓mk_fixed, ↓ite_fixed, ite_self, ↓st_ite]) | (with_reducible refine (State.command_fixed _ _ _ (fun _ => ?_)).trans ?_) | (with_reducible refine (foldl_fixed _ _ _ (fun _ _ => ?_)).trans ?_) | (with_reducible refine (foldl_pair_fixed _ _ _ (fun _ _ => ?_)).trans ?_) | dsimp only | (simp_all; done))

@[simp] theorem execForwardTimeout_fixed (s : State) : (after (execForwardTimeout s) s).fixed = s.fixed := by
  unfold execForwardTimeout
  repeat (first | rw [after_next] | rw [after_ite] | fail)
  repeat' (first | (simp only [↓State.complete_fixed, ↓State.endJobOf_fixed, ↓State.put_fixed, ↓State.record_fixed, ↓State.setRings_fixed, ↓mk_fixed, ↓ite_fixed, ite_self, ↓st_ite]; done) | split | (simp only [↓State.complete_fixed, ↓State.endJobOf_fixed, ↓State.put_fixed, ↓State.record_fixed, ↓State.setRings_fixed, ↓mk_fixed, ↓ite_fixed, ite_self, ↓st_ite]; split) | (simp only [↓State.complete_fixed, ↓State.endJobOf_fixed, ↓State.put_fixed, ↓State.record_fixed, ↓State.setRings_fixed, ↓mk_fixed, ↓ite_fixed, ite_self, ↓st_ite]) | (with_reducible refine (foldl_fixed _ _ _ (fun _ _ => ?_)).trans ?_) | (with_reducible refine (foldl_pair_fixed _ _ _ (fun _ _ => ?_)).trans ?_) | dsimp only | (simp_all; done))

end Sys2Proof.Machine
end

