-- ==== Sys2Proof/Laws/FixedBusRegs.lean ====
section
/-! SUPPORT. What the operations of Machine/BusRegs.lean leave alone (Laws/Fixed.lean). -/

set_option linter.all false

namespace Sys2Proof.Machine

open Sys2Proof

@[simp] theorem State.writeMdio_fixed (s : State) (v : Word) : (State.writeMdio s v).fixed = s.fixed := by
  unfold State.writeMdio
  repeat' (first | (simp only [↓execMdioAddress_fixed, ↓execMdioReadInc_fixed, ↓execMdioRead_fixed, ↓execMdioWrite_fixed, ↓mk_fixed, ↓ite_fixed, ite_self, ↓st_ite]; done) | split | (simp only [↓execMdioAddress_fixed, ↓execMdioReadInc_fixed, ↓execMdioRead_fixed, ↓execMdioWrite_fixed, ↓mk_fixed, ↓ite_fixed, ite_self, ↓st_ite]; split) | (simp only [↓execMdioAddress_fixed, ↓execMdioReadInc_fixed, ↓execMdioRead_fixed, ↓execMdioWrite_fixed, ↓mk_fixed, ↓ite_fixed, ite_self, ↓st_ite]) | (with_reducible refine (foldl_fixed _ _ _ (fun _ _ => ?_)).trans ?_) | (with_reducible refine (foldl_pair_fixed _ _ _ (fun _ _ => ?_)).trans ?_) | dsimp only | (simp_all; done))

@[simp] theorem State.writeGnsCmd_fixed (s : State) (v : Word) : (State.writeGnsCmd s v).fixed = s.fixed := by
  unfold State.writeGnsCmd
  repeat' (first | (simp only [↓execForgetKeepalive_fixed, ↓execSurveyRestart_fixed, ↓mk_fixed, ↓ite_fixed, ite_self, ↓st_ite]; done) | split | (simp only [↓execForgetKeepalive_fixed, ↓execSurveyRestart_fixed, ↓mk_fixed, ↓ite_fixed, ite_self, ↓st_ite]; split) | (simp only [↓execForgetKeepalive_fixed, ↓execSurveyRestart_fixed, ↓mk_fixed, ↓ite_fixed, ite_self, ↓st_ite]) | (with_reducible refine (foldl_fixed _ _ _ (fun _ _ => ?_)).trans ?_) | (with_reducible refine (foldl_pair_fixed _ _ _ (fun _ _ => ?_)).trans ?_) | dsimp only | (simp_all; done))

@[simp] theorem State.unmaskVector_fixed (s : State) (v : Nat) : (State.unmaskVector s v).fixed = s.fixed := by
  unfold State.unmaskVector
  repeat' (first | (simp only [↓State.emit_fixed, ↓State.setNum_fixed, ↓mk_fixed, ↓ite_fixed, ite_self, ↓st_ite]; done) | split | (simp only [↓State.emit_fixed, ↓State.setNum_fixed, ↓mk_fixed, ↓ite_fixed, ite_self, ↓st_ite]; split) | (simp only [↓State.emit_fixed, ↓State.setNum_fixed, ↓mk_fixed, ↓ite_fixed, ite_self, ↓st_ite]) | (with_reducible refine (foldl_fixed _ _ _ (fun _ _ => ?_)).trans ?_) | (with_reducible refine (foldl_pair_fixed _ _ _ (fun _ _ => ?_)).trans ?_) | dsimp only | (simp_all; done))

@[simp] theorem State.thermCheck_fixed (s : State) : (State.thermCheck s).fixed = s.fixed := by
  unfold State.thermCheck
  repeat' (first | (simp only [↓State.put_fixed, ↓State.record_fixed, ↓mk_fixed, ↓ite_fixed, ite_self, ↓st_ite]; done) | split | (simp only [↓State.put_fixed, ↓State.record_fixed, ↓mk_fixed, ↓ite_fixed, ite_self, ↓st_ite]; split) | (simp only [↓State.put_fixed, ↓State.record_fixed, ↓mk_fixed, ↓ite_fixed, ite_self, ↓st_ite]) | (with_reducible refine (foldl_fixed _ _ _ (fun _ _ => ?_)).trans ?_) | (with_reducible refine (foldl_pair_fixed _ _ _ (fun _ _ => ?_)).trans ?_) | dsimp only | (simp_all; done))

@[simp] theorem State.regChanged_fixed (s : State) (a : Nat) : (State.regChanged s a).fixed = s.fixed := by
  unfold State.regChanged
  repeat' (first | (simp only [↓State.scanRings_fixed, ↓State.setTim_fixed, ↓State.showGnss_fixed, ↓State.thermCheck_fixed, ↓State.unmaskVector_fixed, ↓mk_fixed, ↓ite_fixed, ite_self, ↓st_ite]; done) | split | (simp only [↓State.scanRings_fixed, ↓State.setTim_fixed, ↓State.showGnss_fixed, ↓State.thermCheck_fixed, ↓State.unmaskVector_fixed, ↓mk_fixed, ↓ite_fixed, ite_self, ↓st_ite]; split) | (simp only [↓State.scanRings_fixed, ↓State.setTim_fixed, ↓State.showGnss_fixed, ↓State.thermCheck_fixed, ↓State.unmaskVector_fixed, ↓mk_fixed, ↓ite_fixed, ite_self, ↓st_ite]) | (with_reducible refine (foldl_fixed _ _ _ (fun _ _ => ?_)).trans ?_) | (with_reducible refine (foldl_pair_fixed _ _ _ (fun _ _ => ?_)).trans ?_) | dsimp only | (simp_all; done))

@[simp] theorem State.writeTb3_fixed (s : State) (a : Nat) (v : Word) : (State.writeTb3 s a v).fixed = s.fixed := by
  unfold State.writeTb3
  repeat' (first | (simp only [↓State.setTim_fixed, ↓mk_fixed, ↓ite_fixed, ite_self, ↓st_ite]; done) | split | (simp only [↓State.setTim_fixed, ↓mk_fixed, ↓ite_fixed, ite_self, ↓st_ite]; split) | (simp only [↓State.setTim_fixed, ↓mk_fixed, ↓ite_fixed, ite_self, ↓st_ite]) | (with_reducible refine (foldl_fixed _ _ _ (fun _ _ => ?_)).trans ?_) | (with_reducible refine (foldl_pair_fixed _ _ _ (fun _ _ => ?_)).trans ?_) | dsimp only | (simp_all; done))

@[simp] theorem State.writeOpen_fixed (s : State) (r : RegRow) (a : Nat) (v : Word) (ns : Nat) : (State.writeOpen s r a v ns).fixed = s.fixed := by
  unfold State.writeOpen
  repeat' (first | (simp only [↓State.rebaseTb3_fixed, ↓State.regChanged_fixed, ↓State.wr_fixed, ↓State.writeGnsCmd_fixed, ↓State.writeMdio_fixed, ↓State.writeTb3_fixed, ↓execCalStart_fixed, ↓execGnssSpiTransfer_fixed, ↓execRfSpiTransfer_fixed, ↓execTb0Accept_fixed, ↓execTb3Load_fixed, ↓execWindowLoad_fixed, ↓mk_fixed, ↓ite_fixed, ite_self, ↓st_ite]; done) | split | (simp only [↓State.rebaseTb3_fixed, ↓State.regChanged_fixed, ↓State.wr_fixed, ↓State.writeGnsCmd_fixed, ↓State.writeMdio_fixed, ↓State.writeTb3_fixed, ↓execCalStart_fixed, ↓execGnssSpiTransfer_fixed, ↓execRfSpiTransfer_fixed, ↓execTb0Accept_fixed, ↓execTb3Load_fixed, ↓execWindowLoad_fixed, ↓mk_fixed, ↓ite_fixed, ite_self, ↓st_ite]; split) | (simp only [↓State.rebaseTb3_fixed, ↓State.regChanged_fixed, ↓State.wr_fixed, ↓State.writeGnsCmd_fixed, ↓State.writeMdio_fixed, ↓State.writeTb3_fixed, ↓execCalStart_fixed, ↓execGnssSpiTransfer_fixed, ↓execRfSpiTransfer_fixed, ↓execTb0Accept_fixed, ↓execTb3Load_fixed, ↓execWindowLoad_fixed, ↓mk_fixed, ↓ite_fixed, ite_self, ↓st_ite]) | (with_reducible refine (foldl_fixed _ _ _ (fun _ _ => ?_)).trans ?_) | (with_reducible refine (foldl_pair_fixed _ _ _ (fun _ _ => ?_)).trans ?_) | dsimp only | (simp_all; done))

theorem State.writeRingReg_fixed (s : State) (a : Nat) (v : Word) {t} (h : State.writeRingReg s a v = some t) : t.fixed = s.fixed := by
  revert h
  unfold State.writeRingReg
  intro h
  repeat' (first | (simp only [↓State.writeRingBase_fixed, ↓State.writeRingCfg_fixed, ↓mk_fixed, ↓ite_fixed, ite_self, ↓st_ite]; done) | split | (simp only [↓State.writeRingBase_fixed, ↓State.writeRingCfg_fixed, ↓mk_fixed, ↓ite_fixed, ite_self, ↓st_ite]; split) | (simp only [↓State.writeRingBase_fixed, ↓State.writeRingCfg_fixed, ↓mk_fixed, ↓ite_fixed, ite_self, ↓st_ite]) | (with_reducible refine (foldl_fixed _ _ _ (fun _ _ => ?_)).trans ?_) | (with_reducible refine (foldl_pair_fixed _ _ _ (fun _ _ => ?_)).trans ?_) | dsimp only | (split at h) | (cases h; done) | (cases h) | (injection h with h; subst h) | (simp_all; done))

@[simp] theorem State.busWrite_fixed (s : State) (a : Nat) (v : Word) (ns : Nat) : (State.busWrite s a v ns).fixed = s.fixed := by
  unfold State.busWrite
  repeat' (first | (simp only [↓State.count_fixed, ↓State.lockedWrite_fixed, ↓State.writeOpen_fixed, ↓mk_fixed, ↓ite_fixed, ite_self, ↓st_ite]; done) | split | (simp only [↓State.count_fixed, ↓State.lockedWrite_fixed, ↓State.writeOpen_fixed, ↓mk_fixed, ↓ite_fixed, ite_self, ↓st_ite]; split) | (simp only [↓State.count_fixed, ↓State.lockedWrite_fixed, ↓State.writeOpen_fixed, ↓mk_fixed, ↓ite_fixed, ite_self, ↓st_ite]) | (simp only [State.writeRingReg_fixed _ _ _  ‹State.writeRingReg _ _ _  = some _›, ↓State.count_fixed, ↓State.lockedWrite_fixed, ↓State.writeOpen_fixed, ↓mk_fixed, ↓ite_fixed, ite_self, ↓st_ite]) | (with_reducible refine (foldl_fixed _ _ _ (fun _ _ => ?_)).trans ?_) | (with_reducible refine (foldl_pair_fixed _ _ _ (fun _ _ => ?_)).trans ?_) | dsimp only | (simp_all; done))

@[simp] theorem execSnReadLatch_fixed (ns : Nat) (s : State) : (after (execSnReadLatch ns s) s).fixed = s.fixed := by
  unfold execSnReadLatch
  repeat (first | rw [after_next] | rw [after_ite] | fail)
  repeat' (first | (simp only [↓State.put_fixed, ↓State.setNum64_fixed, ↓mk_fixed, ↓ite_fixed, ite_self, ↓st_ite]; done) | split | (simp only [↓State.put_fixed, ↓State.setNum64_fixed, ↓mk_fixed, ↓ite_fixed, ite_self, ↓st_ite]; split) | (simp only [↓State.put_fixed, ↓State.setNum64_fixed, ↓mk_fixed, ↓ite_fixed, ite_self, ↓st_ite]) | (with_reducible refine (foldl_fixed _ _ _ (fun _ _ => ?_)).trans ?_) | (with_reducible refine (foldl_pair_fixed _ _ _ (fun _ _ => ?_)).trans ?_) | dsimp only | (simp_all; done))

end Sys2Proof.Machine
end

