-- ==== Sys2Proof/Laws/FixedMemory.lean ====
section
/-! SUPPORT. What the operations of Machine/Memory.lean leave alone (Laws/Fixed.lean). -/

set_option linter.all false

namespace Sys2Proof.Machine

open Sys2Proof

@[simp] theorem State.endLap_fixed (s : State) (m : Nat) : (State.endLap s m).fixed = s.fixed := by
  unfold State.endLap
  repeat' (first | (simp only [↓State.record_fixed, ↓State.setMem_fixed, ↓State.setNum_fixed, ↓mk_fixed, ↓ite_fixed, ite_self, ↓st_ite]; done) | split | (simp only [↓State.record_fixed, ↓State.setMem_fixed, ↓State.setNum_fixed, ↓mk_fixed, ↓ite_fixed, ite_self, ↓st_ite]; split) | (simp only [↓State.record_fixed, ↓State.setMem_fixed, ↓State.setNum_fixed, ↓mk_fixed, ↓ite_fixed, ite_self, ↓st_ite]) | (with_reducible refine (foldl_fixed _ _ _ (fun _ _ => ?_)).trans ?_) | (with_reducible refine (foldl_pair_fixed _ _ _ (fun _ _ => ?_)).trans ?_) | dsimp only | (simp_all; done))

@[simp] theorem State.uncorrAt_fixed (s : State) (m addr : Nat) (hit : ScrubHit) : (State.uncorrAt s m addr hit).fixed = s.fixed := by
  unfold State.uncorrAt
  repeat' (first | (simp only [↓State.cellError_fixed, ↓State.drawn_fixed, ↓State.fatalHalt_fixed, ↓State.loseNbr_fixed, ↓State.parityFail_fixed, ↓State.place_fixed, ↓State.record_fixed, ↓State.setKey_fixed, ↓State.setLog_fixed, ↓State.setMem_fixed, ↓State.showCache_fixed, ↓mk_fixed, ↓ite_fixed, ite_self, ↓st_ite]; done) | split | (simp only [↓State.cellError_fixed, ↓State.drawn_fixed, ↓State.fatalHalt_fixed, ↓State.loseNbr_fixed, ↓State.parityFail_fixed, ↓State.place_fixed, ↓State.record_fixed, ↓State.setKey_fixed, ↓State.setLog_fixed, ↓State.setMem_fixed, ↓State.showCache_fixed, ↓mk_fixed, ↓ite_fixed, ite_self, ↓st_ite]; split) | (simp only [↓State.cellError_fixed, ↓State.drawn_fixed, ↓State.fatalHalt_fixed, ↓State.loseNbr_fixed, ↓State.parityFail_fixed, ↓State.place_fixed, ↓State.record_fixed, ↓State.setKey_fixed, ↓State.setLog_fixed, ↓State.setMem_fixed, ↓State.showCache_fixed, ↓mk_fixed, ↓ite_fixed, ite_self, ↓st_ite]) | (with_reducible refine (foldl_fixed _ _ _ (fun _ _ => ?_)).trans ?_) | (with_reducible refine (foldl_pair_fixed _ _ _ (fun _ _ => ?_)).trans ?_) | dsimp only | (simp_all; done))

@[simp] theorem State.clearBad_fixed (s : State) (m addr : Nat) : (State.clearBad s m addr).fixed = s.fixed := by
  unfold State.clearBad
  repeat' (first | (simp only [↓State.setMem_fixed, ↓mk_fixed, ↓ite_fixed, ite_self, ↓st_ite]; done) | split | (simp only [↓State.setMem_fixed, ↓mk_fixed, ↓ite_fixed, ite_self, ↓st_ite]; split) | (simp only [↓State.setMem_fixed, ↓mk_fixed, ↓ite_fixed, ite_self, ↓st_ite]) | (with_reducible refine (foldl_fixed _ _ _ (fun _ _ => ?_)).trans ?_) | (with_reducible refine (foldl_pair_fixed _ _ _ (fun _ _ => ?_)).trans ?_) | dsimp only | (simp_all; done))

@[simp] theorem execScrubRead_fixed (m addr : Nat) (stored : Stored) (hit : ScrubHit) (last : Bool) (s : State) : (after (execScrubRead m addr stored hit last s) s).fixed = s.fixed := by
  unfold execScrubRead
  repeat (first | rw [after_next] | rw [after_ite] | fail)
  repeat' (first | (simp only [↓State.checkRead_fixed, ↓State.clearBad_fixed, ↓State.endLap_fixed, ↓State.noteUncorr_fixed, ↓State.uncorrAt_fixed, ↓mk_fixed, ↓ite_fixed, ite_self, ↓st_ite]; done) | split | (simp only [↓State.checkRead_fixed, ↓State.clearBad_fixed, ↓State.endLap_fixed, ↓State.noteUncorr_fixed, ↓State.uncorrAt_fixed, ↓mk_fixed, ↓ite_fixed, ite_self, ↓st_ite]; split) | (simp only [↓State.checkRead_fixed, ↓State.clearBad_fixed, ↓State.endLap_fixed, ↓State.noteUncorr_fixed, ↓State.uncorrAt_fixed, ↓mk_fixed, ↓ite_fixed, ite_self, ↓st_ite]) | (simp only [pair_fixed ‹State.checkRead _ _ _  = (_, _)› (State.checkRead_fixed _ _ _ ), ↓State.checkRead_fixed, ↓State.clearBad_fixed, ↓State.endLap_fixed, ↓State.noteUncorr_fixed, ↓State.uncorrAt_fixed, ↓mk_fixed, ↓ite_fixed, ite_self, ↓st_ite]) | (with_reducible refine (foldl_fixed _ _ _ (fun _ _ => ?_)).trans ?_) | (with_reducible refine (foldl_pair_fixed _ _ _ (fun _ _ => ?_)).trans ?_) | dsimp only | (simp_all; done))

@[simp] theorem State.requesterRead_fixed (s : State) (r : MemRead) : (State.requesterRead s r).1.fixed = s.fixed := by
  unfold State.requesterRead
  repeat' (first | (simp only [↓State.checkRead_fixed, ↓State.noteUncorr_fixed, ↓State.uncorrAt_fixed, ↓mk_fixed, ↓ite_fixed, ite_self, ↓st_ite]; done) | split | (simp only [↓State.checkRead_fixed, ↓State.noteUncorr_fixed, ↓State.uncorrAt_fixed, ↓mk_fixed, ↓ite_fixed, ite_self, ↓st_ite]; split) | (simp only [↓State.checkRead_fixed, ↓State.noteUncorr_fixed, ↓State.uncorrAt_fixed, ↓mk_fixed, ↓ite_fixed, ite_self, ↓st_ite]) | (simp only [pair_fixed ‹State.checkRead _ _ _  = (_, _)› (State.checkRead_fixed _ _ _ ), ↓State.checkRead_fixed, ↓State.noteUncorr_fixed, ↓State.uncorrAt_fixed, ↓mk_fixed, ↓ite_fixed, ite_self, ↓st_ite]) | (with_reducible refine (foldl_fixed _ _ _ (fun _ _ => ?_)).trans ?_) | (with_reducible refine (foldl_pair_fixed _ _ _ (fun _ _ => ?_)).trans ?_) | dsimp only | (simp_all; done))

@[simp] theorem State.readBehind_fixed (s : State) (x0 : Option MemRead) : (State.readBehind s x0).1.fixed = s.fixed := by
  unfold State.readBehind
  repeat' (first | (simp only [↓State.requesterRead_fixed, ↓mk_fixed, ↓ite_fixed, ite_self, ↓st_ite]; done) | split | (simp only [↓State.requesterRead_fixed, ↓mk_fixed, ↓ite_fixed, ite_self, ↓st_ite]; split) | (simp only [↓State.requesterRead_fixed, ↓mk_fixed, ↓ite_fixed, ite_self, ↓st_ite]) | (simp only [pair_fixed ‹State.requesterRead _ _  = (_, _)› (State.requesterRead_fixed _ _ ), ↓State.requesterRead_fixed, ↓mk_fixed, ↓ite_fixed, ite_self, ↓st_ite]) | (with_reducible refine (foldl_fixed _ _ _ (fun _ _ => ?_)).trans ?_) | (with_reducible refine (foldl_pair_fixed _ _ _ (fun _ _ => ?_)).trans ?_) | dsimp only | (simp_all; done))

@[simp] theorem execRcRegisterRead_fixed (addr : Nat) (read : Option MemRead) (s : State) : (after (execRcRegisterRead addr read s) s).fixed = s.fixed := by
  unfold execRcRegisterRead
  repeat (first | rw [after_next] | rw [after_ite] | fail)
  repeat' (first | (simp only [↓State.count_fixed, ↓State.readBehind_fixed, ↓State.setNum_fixed, ↓mk_fixed, ↓ite_fixed, ite_self, ↓st_ite]; done) | split | (simp only [↓State.count_fixed, ↓State.readBehind_fixed, ↓State.setNum_fixed, ↓mk_fixed, ↓ite_fixed, ite_self, ↓st_ite]; split) | (simp only [↓State.count_fixed, ↓State.readBehind_fixed, ↓State.setNum_fixed, ↓mk_fixed, ↓ite_fixed, ite_self, ↓st_ite]) | (simp only [pair_fixed ‹State.readBehind _ _  = (_, _)› (State.readBehind_fixed _ _ ), ↓State.count_fixed, ↓State.readBehind_fixed, ↓State.setNum_fixed, ↓mk_fixed, ↓ite_fixed, ite_self, ↓st_ite]) | (with_reducible refine (foldl_fixed _ _ _ (fun _ _ => ?_)).trans ?_) | (with_reducible refine (foldl_pair_fixed _ _ _ (fun _ _ => ?_)).trans ?_) | dsimp only | (simp_all; done))

end Sys2Proof.Machine
end

