-- ==== Sys2Proof/Laws/FixedStrokes.lean ====
section
/-! SUPPORT. What the operations of Machine/Strokes.lean leave alone (Laws/Fixed.lean). -/

set_option linter.all false

namespace Sys2Proof.Machine

open Sys2Proof

@[simp] theorem State.quietEdge_fixed (s : State) : (State.quietEdge s).fixed = s.fixed := by
  unfold State.quietEdge
  repeat' (first | (simp only [↓State.operate_fixed, ↓State.setDev_fixed, ↓mk_fixed, ↓ite_fixed, ite_self, ↓st_ite]; done) | split | (simp only [↓State.operate_fixed, ↓State.setDev_fixed, ↓mk_fixed, ↓ite_fixed, ite_self, ↓st_ite]; split) | (simp only [↓State.operate_fixed, ↓State.setDev_fixed, ↓mk_fixed, ↓ite_fixed, ite_self, ↓st_ite]) | (with_reducible refine (foldl_fixed _ _ _ (fun _ _ => ?_)).trans ?_) | (with_reducible refine (foldl_pair_fixed _ _ _ (fun _ _ => ?_)).trans ?_) | dsimp only | (simp_all; done))

@[simp] theorem State.noteClip_fixed (s : State) (p clips : Nat) : (State.noteClip s p clips).fixed = s.fixed := by
  unfold State.noteClip
  repeat' (first | (simp only [↓State.record_fixed, ↓State.setRad_fixed, ↓mk_fixed, ↓ite_fixed, ite_self, ↓st_ite]; done) | split | (simp only [↓State.record_fixed, ↓State.setRad_fixed, ↓mk_fixed, ↓ite_fixed, ite_self, ↓st_ite]; split) | (simp only [↓State.record_fixed, ↓State.setRad_fixed, ↓mk_fixed, ↓ite_fixed, ite_self, ↓st_ite]) | (with_reducible refine (foldl_fixed _ _ _ (fun _ _ => ?_)).trans ?_) | (with_reducible refine (foldl_pair_fixed _ _ _ (fun _ _ => ?_)).trans ?_) | dsimp only | (simp_all; done))

@[simp] theorem State.rfEdge_fixed (s : State) (rf : List (List RfClk)) : (State.rfEdge s rf).fixed = s.fixed := by
  unfold State.rfEdge
  repeat' (first | (simp only [↓State.count_fixed, ↓State.noteClip_fixed, ↓State.put_fixed, ↓mk_fixed, ↓ite_fixed, ite_self, ↓st_ite]; done) | split | (simp only [↓State.count_fixed, ↓State.noteClip_fixed, ↓State.put_fixed, ↓mk_fixed, ↓ite_fixed, ite_self, ↓st_ite]; split) | (simp only [↓State.count_fixed, ↓State.noteClip_fixed, ↓State.put_fixed, ↓mk_fixed, ↓ite_fixed, ite_self, ↓st_ite]) | (with_reducible refine (foldl_fixed _ _ _ (fun _ _ => ?_)).trans ?_) | (with_reducible refine (foldl_pair_fixed _ _ _ (fun _ _ => ?_)).trans ?_) | dsimp only | (simp_all; done))

@[simp] theorem State.resetOutTick_fixed (s : State) : (State.resetOutTick s).fixed = s.fixed := by
  unfold State.resetOutTick
  repeat' (first | (simp only [↓State.setSys_fixed, ↓mk_fixed, ↓ite_fixed, ite_self, ↓st_ite]; done) | split | (simp only [↓State.setSys_fixed, ↓mk_fixed, ↓ite_fixed, ite_self, ↓st_ite]; split) | (simp only [↓State.setSys_fixed, ↓mk_fixed, ↓ite_fixed, ite_self, ↓st_ite]) | (with_reducible refine (foldl_fixed _ _ _ (fun _ _ => ?_)).trans ?_) | (with_reducible refine (foldl_pair_fixed _ _ _ (fun _ _ => ?_)).trans ?_) | dsimp only | (simp_all; done))

@[simp] theorem State.dispEdge_fixed (s : State) : (State.dispEdge s).fixed = s.fixed := by
  unfold State.dispEdge
  repeat' (first | (simp only [↓State.setDisp_fixed, ↓mk_fixed, ↓ite_fixed, ite_self, ↓st_ite]; done) | split | (simp only [↓State.setDisp_fixed, ↓mk_fixed, ↓ite_fixed, ite_self, ↓st_ite]; split) | (simp only [↓State.setDisp_fixed, ↓mk_fixed, ↓ite_fixed, ite_self, ↓st_ite]) | (with_reducible refine (foldl_fixed _ _ _ (fun _ _ => ?_)).trans ?_) | (with_reducible refine (foldl_pair_fixed _ _ _ (fun _ _ => ?_)).trans ?_) | dsimp only | (simp_all; done))

@[simp] theorem State.noteBusy_fixed (s : State) : (State.noteBusy s).fixed = s.fixed := by
  unfold State.noteBusy
  repeat' (first | (simp only [↓State.logInput_fixed, ↓State.setMsh_fixed, ↓mk_fixed, ↓ite_fixed, ite_self, ↓st_ite]; done) | split | (simp only [↓State.logInput_fixed, ↓State.setMsh_fixed, ↓mk_fixed, ↓ite_fixed, ite_self, ↓st_ite]; split) | (simp only [↓State.logInput_fixed, ↓State.setMsh_fixed, ↓mk_fixed, ↓ite_fixed, ite_self, ↓st_ite]) | (with_reducible refine (foldl_fixed _ _ _ (fun _ _ => ?_)).trans ?_) | (with_reducible refine (foldl_pair_fixed _ _ _ (fun _ _ => ?_)).trans ?_) | dsimp only | (simp_all; done))

@[simp] theorem State.presentPeriodic_fixed (s : State) : (State.presentPeriodic s).fixed = s.fixed := by
  unfold State.presentPeriodic
  repeat' (first | (simp only [↓State.dispatchAll_fixed, ↓State.noteBusy_fixed, ↓State.presentWork_fixed, ↓State.setDisp_fixed, ↓mk_fixed, ↓ite_fixed, ite_self, ↓st_ite]; done) | split | (simp only [↓State.dispatchAll_fixed, ↓State.noteBusy_fixed, ↓State.presentWork_fixed, ↓State.setDisp_fixed, ↓mk_fixed, ↓ite_fixed, ite_self, ↓st_ite]; split) | (simp only [↓State.dispatchAll_fixed, ↓State.noteBusy_fixed, ↓State.presentWork_fixed, ↓State.setDisp_fixed, ↓mk_fixed, ↓ite_fixed, ite_self, ↓st_ite]) | (with_reducible refine (foldl_fixed _ _ _ (fun _ _ => ?_)).trans ?_) | (with_reducible refine (foldl_pair_fixed _ _ _ (fun _ _ => ?_)).trans ?_) | dsimp only | (simp_all; done))

@[simp] theorem State.blockEdges_fixed (s : State) (codes : List Int) (mags : List (List Nat)) (rf : List (List RfClk)) : (State.blockEdges s codes mags rf).fixed = s.fixed := by
  unfold State.blockEdges
  repeat' (first | (simp only [↓State.agcEdge_fixed, ↓State.endTx_fixed, ↓State.fleetEdge_fixed, ↓State.forwardEdge_fixed, ↓State.keyEdge_fixed, ↓State.loopsEdge_fixed, ↓State.motionEdge_fixed, ↓State.presentPeriodic_fixed, ↓State.ptpEdge_fixed, ↓State.rfEdge_fixed, ↓State.setGns_fixed, ↓State.startSolves_fixed, ↓State.stopEdge_fixed, ↓State.wlgEdge_fixed, ↓mk_fixed, ↓ite_fixed, ite_self, ↓st_ite]; done) | split | (simp only [↓State.agcEdge_fixed, ↓State.endTx_fixed, ↓State.fleetEdge_fixed, ↓State.forwardEdge_fixed, ↓State.keyEdge_fixed, ↓State.loopsEdge_fixed, ↓State.motionEdge_fixed, ↓State.presentPeriodic_fixed, ↓State.ptpEdge_fixed, ↓State.rfEdge_fixed, ↓State.setGns_fixed, ↓State.startSolves_fixed, ↓State.stopEdge_fixed, ↓State.wlgEdge_fixed, ↓mk_fixed, ↓ite_fixed, ite_self, ↓st_ite]; split) | (simp only [↓State.agcEdge_fixed, ↓State.endTx_fixed, ↓State.fleetEdge_fixed, ↓State.forwardEdge_fixed, ↓State.keyEdge_fixed, ↓State.loopsEdge_fixed, ↓State.motionEdge_fixed, ↓State.presentPeriodic_fixed, ↓State.ptpEdge_fixed, ↓State.rfEdge_fixed, ↓State.setGns_fixed, ↓State.startSolves_fixed, ↓State.stopEdge_fixed, ↓State.wlgEdge_fixed, ↓mk_fixed, ↓ite_fixed, ite_self, ↓st_ite]) | (with_reducible refine (foldl_fixed _ _ _ (fun _ _ => ?_)).trans ?_) | (with_reducible refine (foldl_pair_fixed _ _ _ (fun _ _ => ?_)).trans ?_) | dsimp only | (simp_all; done))

@[simp] theorem execStrokeEdge_fixed (codes : List Int) (mags : List (List Nat)) (rf : List (List RfClk)) (s : State) : (after (execStrokeEdge codes mags rf s) s).fixed = s.fixed := by
  unfold execStrokeEdge
  repeat (first | rw [after_next] | rw [after_ite] | fail)
  repeat' (first | (simp only [↓State.blockEdges_fixed, ↓State.dispEdge_fixed, ↓State.pairEdge_fixed, ↓State.quietEdge_fixed, ↓State.resetOutTick_fixed, ↓State.showDisp_fixed, ↓State.timeEdge_fixed, ↓mk_fixed, ↓ite_fixed, ite_self, ↓st_ite]; done) | split | (simp only [↓State.blockEdges_fixed, ↓State.dispEdge_fixed, ↓State.pairEdge_fixed, ↓State.quietEdge_fixed, ↓State.resetOutTick_fixed, ↓State.showDisp_fixed, ↓State.timeEdge_fixed, ↓mk_fixed, ↓ite_fixed, ite_self, ↓st_ite]; split) | (simp only [↓State.blockEdges_fixed, ↓State.dispEdge_fixed, ↓State.pairEdge_fixed, ↓State.quietEdge_fixed, ↓State.resetOutTick_fixed, ↓State.showDisp_fixed, ↓State.timeEdge_fixed, ↓mk_fixed, ↓ite_fixed, ite_self, ↓st_ite]) | (with_reducible refine (foldl_fixed _ _ _ (fun _ _ => ?_)).trans ?_) | (with_reducible refine (foldl_pair_fixed _ _ _ (fun _ _ => ?_)).trans ?_) | dsimp only | (simp_all; done))

@[simp] theorem State.rebaseJobs_fixed (s : State) (first : Nat) : (State.rebaseJobs s first).fixed = s.fixed := by
  unfold State.rebaseJobs
  repeat' (first | (simp only [↓State.setJobs_fixed, ↓mk_fixed, ↓ite_fixed, ite_self, ↓st_ite]; done) | split | (simp only [↓State.setJobs_fixed, ↓mk_fixed, ↓ite_fixed, ite_self, ↓st_ite]; split) | (simp only [↓State.setJobs_fixed, ↓mk_fixed, ↓ite_fixed, ite_self, ↓st_ite]) | (with_reducible refine (foldl_fixed _ _ _ (fun _ _ => ?_)).trans ?_) | (with_reducible refine (foldl_pair_fixed _ _ _ (fun _ _ => ?_)).trans ?_) | dsimp only | (simp_all; done))

@[simp] theorem State.rebaseBlocks_fixed (s : State) (first : Nat) : (State.rebaseBlocks s first).fixed = s.fixed := by
  unfold State.rebaseBlocks
  repeat' (first | (simp only [↓State.setDisp_fixed, ↓State.setFlt_fixed, ↓State.setGns_fixed, ↓State.setLog_fixed, ↓State.setMem_fixed, ↓State.setNet_fixed, ↓State.setPai_fixed, ↓State.setStp_fixed, ↓State.setTim_fixed, ↓State.setWlg_fixed, ↓mk_fixed, ↓ite_fixed, ite_self, ↓st_ite]; done) | split | (simp only [↓State.setDisp_fixed, ↓State.setFlt_fixed, ↓State.setGns_fixed, ↓State.setLog_fixed, ↓State.setMem_fixed, ↓State.setNet_fixed, ↓State.setPai_fixed, ↓State.setStp_fixed, ↓State.setTim_fixed, ↓State.setWlg_fixed, ↓mk_fixed, ↓ite_fixed, ite_self, ↓st_ite]; split) | (simp only [↓State.setDisp_fixed, ↓State.setFlt_fixed, ↓State.setGns_fixed, ↓State.setLog_fixed, ↓State.setMem_fixed, ↓State.setNet_fixed, ↓State.setPai_fixed, ↓State.setStp_fixed, ↓State.setTim_fixed, ↓State.setWlg_fixed, ↓mk_fixed, ↓ite_fixed, ite_self, ↓st_ite]) | (with_reducible refine (foldl_fixed _ _ _ (fun _ _ => ?_)).trans ?_) | (with_reducible refine (foldl_pair_fixed _ _ _ (fun _ _ => ?_)).trans ?_) | dsimp only | (simp_all; done))

@[simp] theorem State.firstEdge_fixed (s : State) (sn : Nat) (codes : List Int) (mags : List (List Nat)) (rf : List (List RfClk)) : (State.firstEdge s sn codes mags rf).fixed = s.fixed := by
  unfold State.firstEdge
  repeat' (first | (simp only [↓State.blockEdges_fixed, ↓State.dispEdge_fixed, ↓State.pairFirst_fixed, ↓State.put_fixed, ↓State.rebaseBlocks_fixed, ↓State.rebaseJobs_fixed, ↓State.rebaseTime_fixed, ↓State.record_fixed, ↓State.showDisp_fixed, ↓State.timeEdge_fixed, ↓mk_fixed, ↓ite_fixed, ite_self, ↓st_ite]; done) | split | (simp only [↓State.blockEdges_fixed, ↓State.dispEdge_fixed, ↓State.pairFirst_fixed, ↓State.put_fixed, ↓State.rebaseBlocks_fixed, ↓State.rebaseJobs_fixed, ↓State.rebaseTime_fixed, ↓State.record_fixed, ↓State.showDisp_fixed, ↓State.timeEdge_fixed, ↓mk_fixed, ↓ite_fixed, ite_self, ↓st_ite]; split) | (simp only [↓State.blockEdges_fixed, ↓State.dispEdge_fixed, ↓State.pairFirst_fixed, ↓State.put_fixed, ↓State.rebaseBlocks_fixed, ↓State.rebaseJobs_fixed, ↓State.rebaseTime_fixed, ↓State.record_fixed, ↓State.showDisp_fixed, ↓State.timeEdge_fixed, ↓mk_fixed, ↓ite_fixed, ite_self, ↓st_ite]) | (with_reducible refine (foldl_fixed _ _ _ (fun _ _ => ?_)).trans ?_) | (with_reducible refine (foldl_pair_fixed _ _ _ (fun _ _ => ?_)).trans ?_) | dsimp only | (simp_all; done))

@[simp] theorem State.epochBad_fixed (s : State) (tai : Nat) : (State.epochBad s tai).fixed = s.fixed := by
  unfold State.epochBad
  repeat' (first | (simp only [↓State.put_fixed, ↓State.record_fixed, ↓State.setTim_fixed, ↓mk_fixed, ↓ite_fixed, ite_self, ↓st_ite]; done) | split | (simp only [↓State.put_fixed, ↓State.record_fixed, ↓State.setTim_fixed, ↓mk_fixed, ↓ite_fixed, ite_self, ↓st_ite]; split) | (simp only [↓State.put_fixed, ↓State.record_fixed, ↓State.setTim_fixed, ↓mk_fixed, ↓ite_fixed, ite_self, ↓st_ite]) | (with_reducible refine (foldl_fixed _ _ _ (fun _ _ => ?_)).trans ?_) | (with_reducible refine (foldl_pair_fixed _ _ _ (fun _ _ => ?_)).trans ?_) | dsimp only | (simp_all; done))

@[simp] theorem State.floorWait_fixed (s : State) (sn : Nat) : (State.floorWait s sn).fixed = s.fixed := by
  unfold State.floorWait
  repeat' (first | (simp only [↓State.put_fixed, ↓State.record_fixed, ↓State.setTim_fixed, ↓mk_fixed, ↓ite_fixed, ite_self, ↓st_ite]; done) | split | (simp only [↓State.put_fixed, ↓State.record_fixed, ↓State.setTim_fixed, ↓mk_fixed, ↓ite_fixed, ite_self, ↓st_ite]; split) | (simp only [↓State.put_fixed, ↓State.record_fixed, ↓State.setTim_fixed, ↓mk_fixed, ↓ite_fixed, ite_self, ↓st_ite]) | (with_reducible refine (foldl_fixed _ _ _ (fun _ _ => ?_)).trans ?_) | (with_reducible refine (foldl_pair_fixed _ _ _ (fun _ _ => ?_)).trans ?_) | dsimp only | (simp_all; done))

@[simp] theorem execAnchored_fixed (tai i : Nat) (codes : List Int) (mags : List (List Nat)) (rf : List (List RfClk)) (s : State) : (after (execAnchored tai i codes mags rf s) s).fixed = s.fixed := by
  unfold execAnchored
  repeat (first | rw [after_next] | rw [after_ite] | fail)
  repeat' (first | (simp only [↓State.anchorToMate_fixed, ↓State.epochBad_fixed, ↓State.firstEdge_fixed, ↓State.floorWait_fixed, ↓State.setNum64_fixed, ↓mk_fixed, ↓ite_fixed, ite_self, ↓st_ite]; done) | split | (simp only [↓State.anchorToMate_fixed, ↓State.epochBad_fixed, ↓State.firstEdge_fixed, ↓State.floorWait_fixed, ↓State.setNum64_fixed, ↓mk_fixed, ↓ite_fixed, ite_self, ↓st_ite]; split) | (simp only [↓State.anchorToMate_fixed, ↓State.epochBad_fixed, ↓State.firstEdge_fixed, ↓State.floorWait_fixed, ↓State.setNum64_fixed, ↓mk_fixed, ↓ite_fixed, ite_self, ↓st_ite]) | (with_reducible refine (foldl_fixed _ _ _ (fun _ _ => ?_)).trans ?_) | (with_reducible refine (foldl_pair_fixed _ _ _ (fun _ _ => ?_)).trans ?_) | dsimp only | (simp_all; done))

@[simp] theorem State.countOver_fixed (s : State) (cls : Nat) : (State.countOver s cls).fixed = s.fixed := by
  unfold State.countOver
  repeat' (first | (simp only [↓State.count_fixed, ↓State.setDisp_fixed, ↓mk_fixed, ↓ite_fixed, ite_self, ↓st_ite]; done) | split | (simp only [↓State.count_fixed, ↓State.setDisp_fixed, ↓mk_fixed, ↓ite_fixed, ite_self, ↓st_ite]; split) | (simp only [↓State.count_fixed, ↓State.setDisp_fixed, ↓mk_fixed, ↓ite_fixed, ite_self, ↓st_ite]) | (with_reducible refine (foldl_fixed _ _ _ (fun _ _ => ?_)).trans ?_) | (with_reducible refine (foldl_pair_fixed _ _ _ (fun _ _ => ?_)).trans ?_) | dsimp only | (simp_all; done))

@[simp] theorem State.noteOverrun_fixed (s : State) (cls prio seq tag : Nat) : (State.noteOverrun s cls prio seq tag).fixed = s.fixed := by
  unfold State.noteOverrun
  repeat' (first | (simp only [↓State.countOver_fixed, ↓State.record_fixed, ↓mk_fixed, ↓ite_fixed, ite_self, ↓st_ite]; done) | split | (simp only [↓State.countOver_fixed, ↓State.record_fixed, ↓mk_fixed, ↓ite_fixed, ite_self, ↓st_ite]; split) | (simp only [↓State.countOver_fixed, ↓State.record_fixed, ↓mk_fixed, ↓ite_fixed, ite_self, ↓st_ite]) | (with_reducible refine (foldl_fixed _ _ _ (fun _ _ => ?_)).trans ?_) | (with_reducible refine (foldl_pair_fixed _ _ _ (fun _ _ => ?_)).trans ?_) | dsimp only | (simp_all; done))

@[simp] theorem State.claimOver_fixed (s : State) (d : Desc) : (State.claimOver s d).1.fixed = s.fixed := by
  unfold State.claimOver
  repeat' (first | (simp only [↓State.fail_fixed, ↓State.makeReply_fixed, ↓State.notify_fixed, ↓mk_fixed, ↓ite_fixed, ite_self, ↓st_ite]; done) | split | (simp only [↓State.fail_fixed, ↓State.makeReply_fixed, ↓State.notify_fixed, ↓mk_fixed, ↓ite_fixed, ite_self, ↓st_ite]; split) | (simp only [↓State.fail_fixed, ↓State.makeReply_fixed, ↓State.notify_fixed, ↓mk_fixed, ↓ite_fixed, ite_self, ↓st_ite]) | (simp only [pair_fixed ‹State.makeReply _ _ _ _ _ _  = (_, _)› (State.makeReply_fixed _ _ _ _ _ _ ), ↓State.fail_fixed, ↓State.makeReply_fixed, ↓State.notify_fixed, ↓mk_fixed, ↓ite_fixed, ite_self, ↓st_ite]) | (with_reducible refine (foldl_fixed _ _ _ (fun _ _ => ?_)).trans ?_) | (with_reducible refine (foldl_pair_fixed _ _ _ (fun _ _ => ?_)).trans ?_) | dsimp only | (simp_all; done))

@[simp] theorem State.elemOver_fixed (s : State) (j : Job) : (State.elemOver s j).fixed = s.fixed := by
  unfold State.elemOver
  repeat' (first | (simp only [↓State.count_fixed, ↓State.fleetReply_fixed, ↓State.makeReply_fixed, ↓State.setBsl_fixed, ↓State.setFlt_fixed, ↓mk_fixed, ↓ite_fixed, ite_self, ↓st_ite]; done) | split | (simp only [↓State.count_fixed, ↓State.fleetReply_fixed, ↓State.makeReply_fixed, ↓State.setBsl_fixed, ↓State.setFlt_fixed, ↓mk_fixed, ↓ite_fixed, ite_self, ↓st_ite]; split) | (simp only [↓State.count_fixed, ↓State.fleetReply_fixed, ↓State.makeReply_fixed, ↓State.setBsl_fixed, ↓State.setFlt_fixed, ↓mk_fixed, ↓ite_fixed, ite_self, ↓st_ite]) | (simp only [pair_fixed ‹State.makeReply _ _ _ _ _ _  = (_, _)› (State.makeReply_fixed _ _ _ _ _ _ ), ↓State.count_fixed, ↓State.fleetReply_fixed, ↓State.makeReply_fixed, ↓State.setBsl_fixed, ↓State.setFlt_fixed, ↓mk_fixed, ↓ite_fixed, ite_self, ↓st_ite]) | (with_reducible refine (foldl_fixed _ _ _ (fun _ _ => ?_)).trans ?_) | (with_reducible refine (foldl_pair_fixed _ _ _ (fun _ _ => ?_)).trans ?_) | dsimp only | (simp_all; done))

@[simp] theorem State.workOver_fixed (s : State) (j : Job) : (State.workOver s j).fixed = s.fixed := by
  unfold State.workOver
  repeat' (first | (simp only [↓State.loopOverrun_fixed, ↓State.motOverrun_fixed, ↓State.setBsl_fixed, ↓mk_fixed, ↓ite_fixed, ite_self, ↓st_ite]; done) | split | (simp only [↓State.loopOverrun_fixed, ↓State.motOverrun_fixed, ↓State.setBsl_fixed, ↓mk_fixed, ↓ite_fixed, ite_self, ↓st_ite]; split) | (simp only [↓State.loopOverrun_fixed, ↓State.motOverrun_fixed, ↓State.setBsl_fixed, ↓mk_fixed, ↓ite_fixed, ite_self, ↓st_ite]) | (with_reducible refine (foldl_fixed _ _ _ (fun _ _ => ?_)).trans ?_) | (with_reducible refine (foldl_pair_fixed _ _ _ (fun _ _ => ?_)).trans ?_) | dsimp only | (simp_all; done))

@[simp] theorem State.endOver_fixed (s : State) (j : Job) : (State.endOver s j).fixed = s.fixed := by
  unfold State.endOver
  repeat' (first | (simp only [↓State.claimOver_fixed, ↓State.complete_fixed, ↓State.dropIntake_fixed, ↓State.dropProc_fixed, ↓State.elemOver_fixed, ↓State.endJob_fixed, ↓State.startJobs_fixed, ↓State.workOver_fixed, ↓mk_fixed, ↓ite_fixed, ite_self, ↓st_ite]; done) | split | (simp only [↓State.claimOver_fixed, ↓State.complete_fixed, ↓State.dropIntake_fixed, ↓State.dropProc_fixed, ↓State.elemOver_fixed, ↓State.endJob_fixed, ↓State.startJobs_fixed, ↓State.workOver_fixed, ↓mk_fixed, ↓ite_fixed, ite_self, ↓st_ite]; split) | (simp only [↓State.claimOver_fixed, ↓State.complete_fixed, ↓State.dropIntake_fixed, ↓State.dropProc_fixed, ↓State.elemOver_fixed, ↓State.endJob_fixed, ↓State.startJobs_fixed, ↓State.workOver_fixed, ↓mk_fixed, ↓ite_fixed, ite_self, ↓st_ite]) | (simp only [pair_fixed ‹State.claimOver _ _  = (_, _)› (State.claimOver_fixed _ _ ), ↓State.claimOver_fixed, ↓State.complete_fixed, ↓State.dropIntake_fixed, ↓State.dropProc_fixed, ↓State.elemOver_fixed, ↓State.endJob_fixed, ↓State.startJobs_fixed, ↓State.workOver_fixed, ↓mk_fixed, ↓ite_fixed, ite_self, ↓st_ite]) | (with_reducible refine (foldl_fixed _ _ _ (fun _ _ => ?_)).trans ?_) | (with_reducible refine (foldl_pair_fixed _ _ _ (fun _ _ => ?_)).trans ?_) | dsimp only | (simp_all; done))

@[simp] theorem State.noteMiss_fixed (s : State) (cls deadline tag : Nat) : (State.noteMiss s cls deadline tag).fixed = s.fixed := by
  unfold State.noteMiss
  repeat' (first | (simp only [↓State.countOver_fixed, ↓State.record_fixed, ↓mk_fixed, ↓ite_fixed, ite_self, ↓st_ite]; done) | split | (simp only [↓State.countOver_fixed, ↓State.record_fixed, ↓mk_fixed, ↓ite_fixed, ite_self, ↓st_ite]; split) | (simp only [↓State.countOver_fixed, ↓State.record_fixed, ↓mk_fixed, ↓ite_fixed, ite_self, ↓st_ite]) | (with_reducible refine (foldl_fixed _ _ _ (fun _ _ => ?_)).trans ?_) | (with_reducible refine (foldl_pair_fixed _ _ _ (fun _ _ => ?_)).trans ?_) | dsimp only | (simp_all; done))

@[simp] theorem State.endLate_fixed (s : State) (x0 : Nat) : (State.endLate s x0).fixed = s.fixed := by
  induction x0 generalizing s with
  | zero => simp [State.endLate]
  | succ n ih =>
    unfold State.endLate
    repeat' (first | (simp only [↓ih, ↓State.endOver_fixed, ↓State.noteMiss_fixed, ↓State.noteOverrun_fixed, ↓mk_fixed, ↓ite_fixed, ite_self, ↓st_ite]; done) | split | (simp only [↓ih, ↓State.endOver_fixed, ↓State.noteMiss_fixed, ↓State.noteOverrun_fixed, ↓mk_fixed, ↓ite_fixed, ite_self, ↓st_ite]; split) | (simp only [↓ih, ↓State.endOver_fixed, ↓State.noteMiss_fixed, ↓State.noteOverrun_fixed, ↓mk_fixed, ↓ite_fixed, ite_self, ↓st_ite]) | (with_reducible refine (foldl_fixed _ _ _ (fun _ _ => ?_)).trans ?_) | (with_reducible refine (foldl_pair_fixed _ _ _ (fun _ _ => ?_)).trans ?_) | dsimp only | (simp_all; done))

@[simp] theorem State.sendLog_fixed (s : State) (fresh : List Nat) : (State.sendLog s fresh).fixed = s.fixed := by
  unfold State.sendLog
  repeat' (first | (simp only [↓State.peak_fixed, ↓State.sendMate_fixed, ↓State.setDisp_fixed, ↓State.setPai_fixed, ↓mk_fixed, ↓ite_fixed, ite_self, ↓st_ite]; done) | split | (simp only [↓State.peak_fixed, ↓State.sendMate_fixed, ↓State.setDisp_fixed, ↓State.setPai_fixed, ↓mk_fixed, ↓ite_fixed, ite_self, ↓st_ite]; split) | (simp only [↓State.peak_fixed, ↓State.sendMate_fixed, ↓State.setDisp_fixed, ↓State.setPai_fixed, ↓mk_fixed, ↓ite_fixed, ite_self, ↓st_ite]) | (with_reducible refine (foldl_fixed _ _ _ (fun _ _ => ?_)).trans ?_) | (with_reducible refine (foldl_pair_fixed _ _ _ (fun _ _ => ?_)).trans ?_) | dsimp only | (simp_all; done))

@[simp] theorem State.sendLogEnd_fixed (s : State) : (State.sendLogEnd s).fixed = s.fixed := by
  unfold State.sendLogEnd
  repeat' (first | (simp only [↓State.count_fixed, ↓State.sendMate_fixed, ↓State.setDisp_fixed, ↓State.setPai_fixed, ↓mk_fixed, ↓ite_fixed, ite_self, ↓st_ite]; done) | split | (simp only [↓State.count_fixed, ↓State.sendMate_fixed, ↓State.setDisp_fixed, ↓State.setPai_fixed, ↓mk_fixed, ↓ite_fixed, ite_self, ↓st_ite]; split) | (simp only [↓State.count_fixed, ↓State.sendMate_fixed, ↓State.setDisp_fixed, ↓State.setPai_fixed, ↓mk_fixed, ↓ite_fixed, ite_self, ↓st_ite]) | (with_reducible refine (foldl_fixed _ _ _ (fun _ _ => ?_)).trans ?_) | (with_reducible refine (foldl_pair_fixed _ _ _ (fun _ _ => ?_)).trans ?_) | dsimp only | (simp_all; done))

@[simp] theorem State.releaseOutputs_fixed (s : State) (n ns : Nat) : (State.releaseOutputs s n ns).fixed = s.fixed := by
  unfold State.releaseOutputs
  repeat' (first | (simp only [↓State.releaseFleet_fixed, ↓State.releaseMesh_fixed, ↓State.setFlt_fixed, ↓State.setMsh_fixed, ↓State.setRings_fixed, ↓mk_fixed, ↓ite_fixed, ite_self, ↓st_ite]; done) | split | (simp only [↓State.releaseFleet_fixed, ↓State.releaseMesh_fixed, ↓State.setFlt_fixed, ↓State.setMsh_fixed, ↓State.setRings_fixed, ↓mk_fixed, ↓ite_fixed, ite_self, ↓st_ite]; split) | (simp only [↓State.releaseFleet_fixed, ↓State.releaseMesh_fixed, ↓State.setFlt_fixed, ↓State.setMsh_fixed, ↓State.setRings_fixed, ↓mk_fixed, ↓ite_fixed, ite_self, ↓st_ite]) | (with_reducible refine (foldl_fixed _ _ _ (fun _ _ => ?_)).trans ?_) | (with_reducible refine (foldl_pair_fixed _ _ _ (fun _ _ => ?_)).trans ?_) | dsimp only | (simp_all; done))

@[simp] theorem State.releaseLate_fixed (s : State) (ns : Nat) (x0 : Nat) : (State.releaseLate s ns x0).fixed = s.fixed := by
  induction x0 generalizing s ns with
  | zero => simp [State.releaseLate]
  | succ n ih =>
    unfold State.releaseLate
    repeat' (first | (simp only [↓ih, ↓State.count_fixed, ↓State.releaseOutputs_fixed, ↓State.setPai_fixed, ↓mk_fixed, ↓ite_fixed, ite_self, ↓st_ite]; done) | split | (simp only [↓ih, ↓State.count_fixed, ↓State.releaseOutputs_fixed, ↓State.setPai_fixed, ↓mk_fixed, ↓ite_fixed, ite_self, ↓st_ite]; split) | (simp only [↓ih, ↓State.count_fixed, ↓State.releaseOutputs_fixed, ↓State.setPai_fixed, ↓mk_fixed, ↓ite_fixed, ite_self, ↓st_ite]) | (with_reducible refine (foldl_fixed _ _ _ (fun _ _ => ?_)).trans ?_) | (with_reducible refine (foldl_pair_fixed _ _ _ (fun _ _ => ?_)).trans ?_) | dsimp only | (simp_all; done))

@[simp] theorem execStampPoint_fixed (b : Nat) (s : State) : (after (execStampPoint b s) s).fixed = s.fixed := by
  unfold execStampPoint
  repeat (first | rw [after_next] | rw [after_ite] | fail)
  repeat' (first | (simp only [↓State.endLate_fixed, ↓State.loopInputs_fixed, ↓State.pressure_fixed, ↓State.releaseLate_fixed, ↓State.resumeOne_fixed, ↓State.sendLogEnd_fixed, ↓State.sendLog_fixed, ↓State.showDisp_fixed, ↓State.stampBatch_fixed, ↓State.statusPoint_fixed, ↓mk_fixed, ↓ite_fixed, ite_self, ↓st_ite]; done) | split | (simp only [↓State.endLate_fixed, ↓State.loopInputs_fixed, ↓State.pressure_fixed, ↓State.releaseLate_fixed, ↓State.resumeOne_fixed, ↓State.sendLogEnd_fixed, ↓State.sendLog_fixed, ↓State.showDisp_fixed, ↓State.stampBatch_fixed, ↓State.statusPoint_fixed, ↓mk_fixed, ↓ite_fixed, ite_self, ↓st_ite]; split) | (simp only [↓State.endLate_fixed, ↓State.loopInputs_fixed, ↓State.pressure_fixed, ↓State.releaseLate_fixed, ↓State.resumeOne_fixed, ↓State.sendLogEnd_fixed, ↓State.sendLog_fixed, ↓State.showDisp_fixed, ↓State.stampBatch_fixed, ↓State.statusPoint_fixed, ↓mk_fixed, ↓ite_fixed, ite_self, ↓st_ite]) | (with_reducible refine (foldl_fixed _ _ _ (fun _ _ => ?_)).trans ?_) | (with_reducible refine (foldl_pair_fixed _ _ _ (fun _ _ => ?_)).trans ?_) | dsimp only | (simp_all; done))

@[simp] theorem execTimerRelease_fixed (id : Nat) (s : State) : (after (execTimerRelease id s) s).fixed = s.fixed := by
  unfold execTimerRelease
  repeat (first | rw [after_next] | rw [after_ite] | fail)
  repeat' (first | (simp only [↓State.modJob_fixed, ↓State.showDisp_fixed, ↓mk_fixed, ↓ite_fixed, ite_self, ↓st_ite]; done) | split | (simp only [↓State.modJob_fixed, ↓State.showDisp_fixed, ↓mk_fixed, ↓ite_fixed, ite_self, ↓st_ite]; split) | (simp only [↓State.modJob_fixed, ↓State.showDisp_fixed, ↓mk_fixed, ↓ite_fixed, ite_self, ↓st_ite]) | (with_reducible refine (foldl_fixed _ _ _ (fun _ _ => ?_)).trans ?_) | (with_reducible refine (foldl_pair_fixed _ _ _ (fun _ _ => ?_)).trans ?_) | dsimp only | (simp_all; done))

@[simp] theorem execReleasePoint_fixed (s : State) : (after (execReleasePoint s) s).fixed = s.fixed := by
  unfold execReleasePoint
  repeat (first | rw [after_next] | rw [after_ite] | fail)
  repeat' (first | (simp only [↓State.releaseLate_fixed, ↓State.releaseOutputs_fixed, ↓State.setPai_fixed, ↓State.statusPoint_fixed, ↓mk_fixed, ↓ite_fixed, ite_self, ↓st_ite]; done) | split | (simp only [↓State.releaseLate_fixed, ↓State.releaseOutputs_fixed, ↓State.setPai_fixed, ↓State.statusPoint_fixed, ↓mk_fixed, ↓ite_fixed, ite_self, ↓st_ite]; split) | (simp only [↓State.releaseLate_fixed, ↓State.releaseOutputs_fixed, ↓State.setPai_fixed, ↓State.statusPoint_fixed, ↓mk_fixed, ↓ite_fixed, ite_self, ↓st_ite]) | (with_reducible refine (foldl_fixed _ _ _ (fun _ _ => ?_)).trans ?_) | (with_reducible refine (foldl_pair_fixed _ _ _ (fun _ _ => ?_)).trans ?_) | dsimp only | (simp_all; done))

@[simp] theorem execClosePoint_fixed (s : State) : (after (execClosePoint s) s).fixed = s.fixed := by
  unfold execClosePoint
  repeat (first | rw [after_next] | rw [after_ite] | fail)
  repeat' (first | (simp only [↓State.count_fixed, ↓State.sendMate_fixed, ↓State.setDisp_fixed, ↓State.setPai_fixed, ↓mk_fixed, ↓ite_fixed, ite_self, ↓st_ite]; done) | split | (simp only [↓State.count_fixed, ↓State.sendMate_fixed, ↓State.setDisp_fixed, ↓State.setPai_fixed, ↓mk_fixed, ↓ite_fixed, ite_self, ↓st_ite]; split) | (simp only [↓State.count_fixed, ↓State.sendMate_fixed, ↓State.setDisp_fixed, ↓State.setPai_fixed, ↓mk_fixed, ↓ite_fixed, ite_self, ↓st_ite]) | (with_reducible refine (foldl_fixed _ _ _ (fun _ _ => ?_)).trans ?_) | (with_reducible refine (foldl_pair_fixed _ _ _ (fun _ _ => ?_)).trans ?_) | dsimp only | (simp_all; done))

@[simp] theorem execSealPoint_fixed (s : State) : (after (execSealPoint s) s).fixed = s.fixed := by
  unfold execSealPoint
  repeat (first | rw [after_next] | rw [after_ite] | fail)
  repeat' (first | (simp only [↓State.sealPair_fixed, ↓mk_fixed, ↓ite_fixed, ite_self, ↓st_ite]; done) | split | (simp only [↓State.sealPair_fixed, ↓mk_fixed, ↓ite_fixed, ite_self, ↓st_ite]; split) | (simp only [↓State.sealPair_fixed, ↓mk_fixed, ↓ite_fixed, ite_self, ↓st_ite]) | (with_reducible refine (foldl_fixed _ _ _ (fun _ _ => ?_)).trans ?_) | (with_reducible refine (foldl_pair_fixed _ _ _ (fun _ _ => ?_)).trans ?_) | dsimp only | (simp_all; done))

@[simp] theorem execStrokeOverrun_fixed (id : Nat) (s : State) : (after (execStrokeOverrun id s) s).fixed = s.fixed := by
  unfold execStrokeOverrun
  repeat (first | rw [after_next] | rw [after_ite] | fail)
  repeat' (first | (simp only [↓State.endOver_fixed, ↓State.noteOverrun_fixed, ↓State.showDisp_fixed, ↓mk_fixed, ↓ite_fixed, ite_self, ↓st_ite]; done) | split | (simp only [↓State.endOver_fixed, ↓State.noteOverrun_fixed, ↓State.showDisp_fixed, ↓mk_fixed, ↓ite_fixed, ite_self, ↓st_ite]; split) | (simp only [↓State.endOver_fixed, ↓State.noteOverrun_fixed, ↓State.showDisp_fixed, ↓mk_fixed, ↓ite_fixed, ite_self, ↓st_ite]) | (with_reducible refine (foldl_fixed _ _ _ (fun _ _ => ?_)).trans ?_) | (with_reducible refine (foldl_pair_fixed _ _ _ (fun _ _ => ?_)).trans ?_) | dsimp only | (simp_all; done))

@[simp] theorem State.dropStatement_fixed (s : State) (d : Desc) : (State.dropStatement s d).fixed = s.fixed := by
  unfold State.dropStatement
  repeat' (first | (simp only [↓State.setWlg_fixed, ↓mk_fixed, ↓ite_fixed, ite_self, ↓st_ite]; done) | split | (simp only [↓State.setWlg_fixed, ↓mk_fixed, ↓ite_fixed, ite_self, ↓st_ite]; split) | (simp only [↓State.setWlg_fixed, ↓mk_fixed, ↓ite_fixed, ite_self, ↓st_ite]) | (with_reducible refine (foldl_fixed _ _ _ (fun _ _ => ?_)).trans ?_) | (with_reducible refine (foldl_pair_fixed _ _ _ (fun _ _ => ?_)).trans ?_) | dsimp only | (simp_all; done))

@[simp] theorem State.logMissed_fixed (s : State) (robot : Nat) (w : Solve) : (State.logMissed s robot w).fixed = s.fixed := by
  unfold State.logMissed
  repeat' (first | (simp only [↓State.setPai_fixed, ↓mk_fixed, ↓ite_fixed, ite_self, ↓st_ite]; done) | split | (simp only [↓State.setPai_fixed, ↓mk_fixed, ↓ite_fixed, ite_self, ↓st_ite]; split) | (simp only [↓State.setPai_fixed, ↓mk_fixed, ↓ite_fixed, ite_self, ↓st_ite]) | (with_reducible refine (foldl_fixed _ _ _ (fun _ _ => ?_)).trans ?_) | (with_reducible refine (foldl_pair_fixed _ _ _ (fun _ _ => ?_)).trans ?_) | dsimp only | (simp_all; done))

@[simp] theorem execDeadlineMiss_fixed (t : MissTarget) (s : State) : (after (execDeadlineMiss t s) s).fixed = s.fixed := by
  unfold execDeadlineMiss
  repeat (first | rw [after_next] | rw [after_ite] | fail)
  repeat' (first | (simp only [↓State.abandonSolve_fixed, ↓State.attest_fixed, ↓State.dropStatement_fixed, ↓State.endOver_fixed, ↓State.finish_fixed, ↓State.logMissed_fixed, ↓State.noteAbandoned_fixed, ↓State.noteMiss_fixed, ↓State.showDisp_fixed, ↓mk_fixed, ↓ite_fixed, ite_self, ↓st_ite]; done) | split | (simp only [↓State.abandonSolve_fixed, ↓State.attest_fixed, ↓State.dropStatement_fixed, ↓State.endOver_fixed, ↓State.finish_fixed, ↓State.logMissed_fixed, ↓State.noteAbandoned_fixed, ↓State.noteMiss_fixed, ↓State.showDisp_fixed, ↓mk_fixed, ↓ite_fixed, ite_self, ↓st_ite]; split) | (simp only [↓State.abandonSolve_fixed, ↓State.attest_fixed, ↓State.dropStatement_fixed, ↓State.endOver_fixed, ↓State.finish_fixed, ↓State.logMissed_fixed, ↓State.noteAbandoned_fixed, ↓State.noteMiss_fixed, ↓State.showDisp_fixed, ↓mk_fixed, ↓ite_fixed, ite_self, ↓st_ite]) | (with_reducible refine (foldl_fixed _ _ _ (fun _ _ => ?_)).trans ?_) | (with_reducible refine (foldl_pair_fixed _ _ _ (fun _ _ => ?_)).trans ?_) | dsimp only | (simp_all; done))

@[simp] theorem execFreeRunningCountPeriod_fixed (s : State) : (after (execFreeRunningCountPeriod s) s).fixed = s.fixed := by
  unfold execFreeRunningCountPeriod
  repeat (first | rw [after_next] | rw [after_ite] | fail)
  repeat' (first | (simp only [↓State.pressure_fixed, ↓State.ptpEdge_fixed, ↓State.resetOutTick_fixed, ↓State.resumeOne_fixed, ↓State.setGns_fixed, ↓State.setTim_fixed, ↓State.showDisp_fixed, ↓State.showHoldover_fixed, ↓State.slewTb1_fixed, ↓State.stampBatch_fixed, ↓State.statusPoint_fixed, ↓mk_fixed, ↓ite_fixed, ite_self, ↓st_ite]; done) | split | (simp only [↓State.pressure_fixed, ↓State.ptpEdge_fixed, ↓State.resetOutTick_fixed, ↓State.resumeOne_fixed, ↓State.setGns_fixed, ↓State.setTim_fixed, ↓State.showDisp_fixed, ↓State.showHoldover_fixed, ↓State.slewTb1_fixed, ↓State.stampBatch_fixed, ↓State.statusPoint_fixed, ↓mk_fixed, ↓ite_fixed, ite_self, ↓st_ite]; split) | (simp only [↓State.pressure_fixed, ↓State.ptpEdge_fixed, ↓State.resetOutTick_fixed, ↓State.resumeOne_fixed, ↓State.setGns_fixed, ↓State.setTim_fixed, ↓State.showDisp_fixed, ↓State.showHoldover_fixed, ↓State.slewTb1_fixed, ↓State.stampBatch_fixed, ↓State.statusPoint_fixed, ↓mk_fixed, ↓ite_fixed, ite_self, ↓st_ite]) | (with_reducible refine (foldl_fixed _ _ _ (fun _ _ => ?_)).trans ?_) | (with_reducible refine (foldl_pair_fixed _ _ _ (fun _ _ => ?_)).trans ?_) | dsimp only | (simp_all; done))

@[simp] theorem execCoreWatchdog_fixed (core : Nat) (missed : Bool) (s : State) : (after (execCoreWatchdog core missed s) s).fixed = s.fixed := by
  unfold execCoreWatchdog
  repeat (first | rw [after_next] | rw [after_ite] | fail)
  repeat' (first | (simp only [↓State.fatalHalt_fixed, ↓State.record_fixed, ↓State.setDisp_fixed, ↓mk_fixed, ↓ite_fixed, ite_self, ↓st_ite]; done) | split | (simp only [↓State.fatalHalt_fixed, ↓State.record_fixed, ↓State.setDisp_fixed, ↓mk_fixed, ↓ite_fixed, ite_self, ↓st_ite]; split) | (simp only [↓State.fatalHalt_fixed, ↓State.record_fixed, ↓State.setDisp_fixed, ↓mk_fixed, ↓ite_fixed, ite_self, ↓st_ite]) | (with_reducible refine (foldl_fixed _ _ _ (fun _ _ => ?_)).trans ?_) | (with_reducible refine (foldl_pair_fixed _ _ _ (fun _ _ => ?_)).trans ?_) | dsimp only | (simp_all; done))

end Sys2Proof.Machine
end

