-- ==== Sys2Proof/Laws/FixedSystem.lean ====
section
/-! SUPPORT. What the operations of Machine/System.lean leave alone (Laws/Fixed.lean). -/

set_option linter.all false

namespace Sys2Proof.Machine

open Sys2Proof

@[simp] theorem State.reinit_fixed (s : State) (kind : Nat) : (State.reinit s kind).fixed = s.fixed := rfl

@[simp] theorem State.startRecorder_fixed (s : State) : (State.startRecorder s).fixed = s.fixed := by
  unfold State.startRecorder
  repeat' (first | (simp only [↓State.flushLog_fixed, ↓State.record_fixed, ↓State.setLog_fixed, ↓mk_fixed, ↓ite_fixed, ite_self, ↓st_ite]; done) | split | (simp only [↓State.flushLog_fixed, ↓State.record_fixed, ↓State.setLog_fixed, ↓mk_fixed, ↓ite_fixed, ite_self, ↓st_ite]; split) | (simp only [↓State.flushLog_fixed, ↓State.record_fixed, ↓State.setLog_fixed, ↓mk_fixed, ↓ite_fixed, ite_self, ↓st_ite]) | (with_reducible refine (foldl_fixed _ _ _ (fun _ _ => ?_)).trans ?_) | (with_reducible refine (foldl_pair_fixed _ _ _ (fun _ _ => ?_)).trans ?_) | dsimp only | (simp_all; done))

@[simp] theorem State.resetHeld_fixed (s : State) (kind : Nat) : (State.resetHeld s kind).fixed = s.fixed := by
  unfold State.resetHeld
  repeat' (first | (simp only [↓State.record_fixed, ↓State.reinit_fixed, ↓mk_fixed, ↓ite_fixed, ite_self, ↓st_ite]; done) | split | (simp only [↓State.record_fixed, ↓State.reinit_fixed, ↓mk_fixed, ↓ite_fixed, ite_self, ↓st_ite]; split) | (simp only [↓State.record_fixed, ↓State.reinit_fixed, ↓mk_fixed, ↓ite_fixed, ite_self, ↓st_ite]) | (with_reducible refine (foldl_fixed _ _ _ (fun _ _ => ?_)).trans ?_) | (with_reducible refine (foldl_pair_fixed _ _ _ (fun _ _ => ?_)).trans ?_) | dsimp only | (simp_all; done))

@[simp] theorem State.wakeByPin_fixed (s : State) : (State.wakeByPin s).fixed = s.fixed := by
  unfold State.wakeByPin
  repeat' (first | (simp only [↓State.put_fixed, ↓State.resetHeld_fixed, ↓mk_fixed, ↓ite_fixed, ite_self, ↓st_ite]; done) | split | (simp only [↓State.put_fixed, ↓State.resetHeld_fixed, ↓mk_fixed, ↓ite_fixed, ite_self, ↓st_ite]; split) | (simp only [↓State.put_fixed, ↓State.resetHeld_fixed, ↓mk_fixed, ↓ite_fixed, ite_self, ↓st_ite]) | (with_reducible refine (foldl_fixed _ _ _ (fun _ _ => ?_)).trans ?_) | (with_reducible refine (foldl_pair_fixed _ _ _ (fun _ _ => ?_)).trans ?_) | dsimp only | (simp_all; done))

@[simp] theorem execCommandedReset_fixed (s : State) : (after (execCommandedReset s) s).fixed = s.fixed := by
  unfold execCommandedReset
  repeat (first | rw [after_next] | rw [after_ite] | fail)
  repeat' (first | (simp only [↓State.resetHeld_fixed, ↓mk_fixed, ↓ite_fixed, ite_self, ↓st_ite]; done) | split | (simp only [↓State.resetHeld_fixed, ↓mk_fixed, ↓ite_fixed, ite_self, ↓st_ite]; split) | (simp only [↓State.resetHeld_fixed, ↓mk_fixed, ↓ite_fixed, ite_self, ↓st_ite]) | (with_reducible refine (foldl_fixed _ _ _ (fun _ _ => ?_)).trans ?_) | (with_reducible refine (foldl_pair_fixed _ _ _ (fun _ _ => ?_)).trans ?_) | dsimp only | (simp_all; done))

@[simp] theorem State.enterDormant_fixed (s : State) : (State.enterDormant s).fixed = s.fixed := by
  unfold State.enterDormant
  repeat' (first | (simp only [↓State.put_fixed, ↓State.setDev_fixed, ↓State.writeKeepAlive_fixed, ↓mk_fixed, ↓ite_fixed, ite_self, ↓st_ite, ↓mk_sys_fixed]; done) | split | (simp only [↓State.put_fixed, ↓State.setDev_fixed, ↓State.writeKeepAlive_fixed, ↓mk_fixed, ↓ite_fixed, ite_self, ↓st_ite, ↓mk_sys_fixed]; split) | (simp only [↓State.put_fixed, ↓State.setDev_fixed, ↓State.writeKeepAlive_fixed, ↓mk_fixed, ↓ite_fixed, ite_self, ↓st_ite, ↓mk_sys_fixed]) | (with_reducible refine (foldl_fixed _ _ _ (fun _ _ => ?_)).trans ?_) | (with_reducible refine (foldl_pair_fixed _ _ _ (fun _ _ => ?_)).trans ?_) | dsimp only | (simp_all; done))

@[simp] theorem execDormantCommand_fixed (s : State) : (after (execDormantCommand s) s).fixed = s.fixed := by
  unfold execDormantCommand
  repeat (first | rw [after_next] | rw [after_ite] | fail)
  repeat' (first | (simp only [↓State.enterDormant_fixed, ↓mk_fixed, ↓ite_fixed, ite_self, ↓st_ite]; done) | split | (simp only [↓State.enterDormant_fixed, ↓mk_fixed, ↓ite_fixed, ite_self, ↓st_ite]; split) | (simp only [↓State.enterDormant_fixed, ↓mk_fixed, ↓ite_fixed, ite_self, ↓st_ite]) | (with_reducible refine (foldl_fixed _ _ _ (fun _ _ => ?_)).trans ?_) | (with_reducible refine (foldl_pair_fixed _ _ _ (fun _ _ => ?_)).trans ?_) | dsimp only | (simp_all; done))

@[simp] theorem State.showBoot_fixed (s : State) (copy : Nat) : (State.showBoot s copy).fixed = s.fixed := by
  unfold State.showBoot
  repeat' (first | (simp only [↓State.put_fixed, ↓State.setNum_fixed, ↓State.setSys_fixed, ↓mk_fixed, ↓ite_fixed, ite_self, ↓st_ite]; done) | split | (simp only [↓State.put_fixed, ↓State.setNum_fixed, ↓State.setSys_fixed, ↓mk_fixed, ↓ite_fixed, ite_self, ↓st_ite]; split) | (simp only [↓State.put_fixed, ↓State.setNum_fixed, ↓State.setSys_fixed, ↓mk_fixed, ↓ite_fixed, ite_self, ↓st_ite]) | (with_reducible refine (foldl_fixed _ _ _ (fun _ _ => ?_)).trans ?_) | (with_reducible refine (foldl_pair_fixed _ _ _ (fun _ _ => ?_)).trans ?_) | dsimp only | (simp_all; done))

@[simp] theorem State.bootFail_fixed (s : State) (copy : Nat) (f : Nat × Nat) : (State.bootFail s copy f).fixed = s.fixed := by
  unfold State.bootFail
  repeat' (first | (simp only [↓State.record_fixed, ↓mk_fixed, ↓ite_fixed, ite_self, ↓st_ite]; done) | split | (simp only [↓State.record_fixed, ↓mk_fixed, ↓ite_fixed, ite_self, ↓st_ite]; split) | (simp only [↓State.record_fixed, ↓mk_fixed, ↓ite_fixed, ite_self, ↓st_ite]) | (with_reducible refine (foldl_fixed _ _ _ (fun _ _ => ?_)).trans ?_) | (with_reducible refine (foldl_pair_fixed _ _ _ (fun _ _ => ?_)).trans ?_) | dsimp only | (simp_all; done))

@[simp] theorem State.refuseEngage_fixed (s : State) (cap ofs : Nat) : (State.refuseEngage s cap ofs).fixed = s.fixed := by
  unfold State.refuseEngage
  repeat' (first | (simp only [↓State.put_fixed, ↓State.record_fixed, ↓mk_fixed, ↓ite_fixed, ite_self, ↓st_ite]; done) | split | (simp only [↓State.put_fixed, ↓State.record_fixed, ↓mk_fixed, ↓ite_fixed, ite_self, ↓st_ite]; split) | (simp only [↓State.put_fixed, ↓State.record_fixed, ↓mk_fixed, ↓ite_fixed, ite_self, ↓st_ite]) | (with_reducible refine (foldl_fixed _ _ _ (fun _ _ => ?_)).trans ?_) | (with_reducible refine (foldl_pair_fixed _ _ _ (fun _ _ => ?_)).trans ?_) | dsimp only | (simp_all; done))

@[simp] theorem State.acceptEngage_fixed (s : State) : (State.acceptEngage s).fixed = s.fixed := by
  unfold State.acceptEngage
  repeat' (first | (simp only [↓State.loopsStart_fixed, ↓State.put_fixed, ↓State.setDev_fixed, ↓State.setGns_fixed, ↓State.setRings_fixed, ↓State.setTim_fixed, ↓State.showDigest_fixed, ↓mk_fixed, ↓ite_fixed, ite_self, ↓st_ite]; done) | split | (simp only [↓State.loopsStart_fixed, ↓State.put_fixed, ↓State.setDev_fixed, ↓State.setGns_fixed, ↓State.setRings_fixed, ↓State.setTim_fixed, ↓State.showDigest_fixed, ↓mk_fixed, ↓ite_fixed, ite_self, ↓st_ite]; split) | (simp only [↓State.loopsStart_fixed, ↓State.put_fixed, ↓State.setDev_fixed, ↓State.setGns_fixed, ↓State.setRings_fixed, ↓State.setTim_fixed, ↓State.showDigest_fixed, ↓mk_fixed, ↓ite_fixed, ite_self, ↓st_ite]) | (with_reducible refine (foldl_fixed _ _ _ (fun _ _ => ?_)).trans ?_) | (with_reducible refine (foldl_pair_fixed _ _ _ (fun _ _ => ?_)).trans ?_) | dsimp only | (simp_all; done))

@[simp] theorem State.engage_fixed (s : State) : (State.engage s).fixed = s.fixed := by
  unfold State.engage
  repeat' (first | (simp only [↓State.acceptEngage_fixed, ↓State.refuseEngage_fixed, ↓mk_fixed, ↓ite_fixed, ite_self, ↓st_ite]; done) | split | (simp only [↓State.acceptEngage_fixed, ↓State.refuseEngage_fixed, ↓mk_fixed, ↓ite_fixed, ite_self, ↓st_ite]; split) | (simp only [↓State.acceptEngage_fixed, ↓State.refuseEngage_fixed, ↓mk_fixed, ↓ite_fixed, ite_self, ↓st_ite]) | (with_reducible refine (foldl_fixed _ _ _ (fun _ _ => ?_)).trans ?_) | (with_reducible refine (foldl_pair_fixed _ _ _ (fun _ _ => ?_)).trans ?_) | dsimp only | (simp_all; done))

@[simp] theorem State.relock_fixed (s : State) : (State.relock s).fixed = s.fixed := by
  unfold State.relock
  repeat' (first | (simp only [↓State.refuseEngage_fixed, ↓State.setRings_fixed, ↓mk_fixed, ↓ite_fixed, ite_self, ↓st_ite]; done) | split | (simp only [↓State.refuseEngage_fixed, ↓State.setRings_fixed, ↓mk_fixed, ↓ite_fixed, ite_self, ↓st_ite]; split) | (simp only [↓State.refuseEngage_fixed, ↓State.setRings_fixed, ↓mk_fixed, ↓ite_fixed, ite_self, ↓st_ite]) | (with_reducible refine (foldl_fixed _ _ _ (fun _ _ => ?_)).trans ?_) | (with_reducible refine (foldl_pair_fixed _ _ _ (fun _ _ => ?_)).trans ?_) | dsimp only | (simp_all; done))

@[simp] theorem execSysEngage_fixed (s : State) : (after (execSysEngage s) s).fixed = s.fixed := by
  unfold execSysEngage
  repeat (first | rw [after_next] | rw [after_ite] | fail)
  repeat' (first | (simp only [↓State.engage_fixed, ↓mk_fixed, ↓ite_fixed, ite_self, ↓st_ite]; done) | split | (simp only [↓State.engage_fixed, ↓mk_fixed, ↓ite_fixed, ite_self, ↓st_ite]; split) | (simp only [↓State.engage_fixed, ↓mk_fixed, ↓ite_fixed, ite_self, ↓st_ite]) | (with_reducible refine (foldl_fixed _ _ _ (fun _ _ => ?_)).trans ?_) | (with_reducible refine (foldl_pair_fixed _ _ _ (fun _ _ => ?_)).trans ?_) | dsimp only | (simp_all; done))

@[simp] theorem execRingsRelock_fixed (s : State) : (after (execRingsRelock s) s).fixed = s.fixed := by
  unfold execRingsRelock
  repeat (first | rw [after_next] | rw [after_ite] | fail)
  repeat' (first | (simp only [↓State.relock_fixed, ↓mk_fixed, ↓ite_fixed, ite_self, ↓st_ite]; done) | split | (simp only [↓State.relock_fixed, ↓mk_fixed, ↓ite_fixed, ite_self, ↓st_ite]; split) | (simp only [↓State.relock_fixed, ↓mk_fixed, ↓ite_fixed, ite_self, ↓st_ite]) | (with_reducible refine (foldl_fixed _ _ _ (fun _ _ => ?_)).trans ?_) | (with_reducible refine (foldl_pair_fixed _ _ _ (fun _ _ => ?_)).trans ?_) | dsimp only | (simp_all; done))

@[simp] theorem execQuietRequest_fixed (on : Bool) (s : State) : (after (execQuietRequest on s) s).fixed = s.fixed := by
  unfold execQuietRequest
  repeat (first | rw [after_next] | rw [after_ite] | fail)
  repeat' (first | (simp only [↓State.put_fixed, ↓mk_fixed, ↓ite_fixed, ite_self, ↓st_ite]; done) | split | (simp only [↓State.put_fixed, ↓mk_fixed, ↓ite_fixed, ite_self, ↓st_ite]; split) | (simp only [↓State.put_fixed, ↓mk_fixed, ↓ite_fixed, ite_self, ↓st_ite]) | (with_reducible refine (foldl_fixed _ _ _ (fun _ _ => ?_)).trans ?_) | (with_reducible refine (foldl_pair_fixed _ _ _ (fun _ _ => ?_)).trans ?_) | dsimp only | (simp_all; done))

@[simp] theorem State.hostWrite_fixed (s : State) (a : Nat) (v : Word) (ns : Nat) : (State.hostWrite s a v ns).fixed = s.fixed := by
  unfold State.hostWrite
  repeat' (first | (simp only [↓State.busWrite_fixed, ↓State.engage_fixed, ↓State.enterDormant_fixed, ↓State.put_fixed, ↓State.relock_fixed, ↓State.resetHeld_fixed, ↓mk_fixed, ↓ite_fixed, ite_self, ↓st_ite]; done) | split | (simp only [↓State.busWrite_fixed, ↓State.engage_fixed, ↓State.enterDormant_fixed, ↓State.put_fixed, ↓State.relock_fixed, ↓State.resetHeld_fixed, ↓mk_fixed, ↓ite_fixed, ite_self, ↓st_ite]; split) | (simp only [↓State.busWrite_fixed, ↓State.engage_fixed, ↓State.enterDormant_fixed, ↓State.put_fixed, ↓State.relock_fixed, ↓State.resetHeld_fixed, ↓mk_fixed, ↓ite_fixed, ite_self, ↓st_ite]) | (with_reducible refine (foldl_fixed _ _ _ (fun _ _ => ?_)).trans ?_) | (with_reducible refine (foldl_pair_fixed _ _ _ (fun _ _ => ?_)).trans ?_) | dsimp only | (simp_all; done))

@[simp] theorem execRegisterWrite_fixed (addr : Nat) (value : Word) (ns : Nat) (s : State) : (after (execRegisterWrite addr value ns s) s).fixed = s.fixed := by
  unfold execRegisterWrite
  repeat (first | rw [after_next] | rw [after_ite] | fail)
  repeat' (first | (simp only [↓State.hostWrite_fixed, ↓mk_fixed, ↓ite_fixed, ite_self, ↓st_ite]; done) | split | (simp only [↓State.hostWrite_fixed, ↓mk_fixed, ↓ite_fixed, ite_self, ↓st_ite]; split) | (simp only [↓State.hostWrite_fixed, ↓mk_fixed, ↓ite_fixed, ite_self, ↓st_ite]) | (with_reducible refine (foldl_fixed _ _ _ (fun _ _ => ?_)).trans ?_) | (with_reducible refine (foldl_pair_fixed _ _ _ (fun _ _ => ?_)).trans ?_) | dsimp only | (simp_all; done))

@[simp] theorem State.bootStart_fixed (s : State) (sfdp : Option Nat) (bootMs : Nat) : (State.bootStart s sfdp bootMs).fixed = s.fixed := by
  unfold State.bootStart
  repeat' (first | (simp only [↓State.setNum_fixed, ↓State.setSys_fixed, ↓mk_fixed, ↓ite_fixed, ite_self, ↓st_ite]; done) | split | (simp only [↓State.setNum_fixed, ↓State.setSys_fixed, ↓mk_fixed, ↓ite_fixed, ite_self, ↓st_ite]; split) | (simp only [↓State.setNum_fixed, ↓State.setSys_fixed, ↓mk_fixed, ↓ite_fixed, ite_self, ↓st_ite]) | (with_reducible refine (foldl_fixed _ _ _ (fun _ _ => ?_)).trans ?_) | (with_reducible refine (foldl_pair_fixed _ _ _ (fun _ _ => ?_)).trans ?_) | dsimp only | (simp_all; done))

@[simp] theorem State.noteFail_fixed (s : State) (copy : Nat) (x0 : Option (Nat × Nat)) : (State.noteFail s copy x0).fixed = s.fixed := by
  unfold State.noteFail
  repeat' (first | (simp only [↓State.bootFail_fixed, ↓mk_fixed, ↓ite_fixed, ite_self, ↓st_ite]; done) | split | (simp only [↓State.bootFail_fixed, ↓mk_fixed, ↓ite_fixed, ite_self, ↓st_ite]; split) | (simp only [↓State.bootFail_fixed, ↓mk_fixed, ↓ite_fixed, ite_self, ↓st_ite]) | (with_reducible refine (foldl_fixed _ _ _ (fun _ _ => ?_)).trans ?_) | (with_reducible refine (foldl_pair_fixed _ _ _ (fun _ _ => ?_)).trans ?_) | dsimp only | (simp_all; done))

@[simp] theorem State.bootRun_fixed (s : State) (first : Option (Nat × Nat)) (dramMib aon : Nat) (ka : Option (List Byte)) : (State.bootRun s first dramMib aon ka).fixed = s.fixed := by
  unfold State.bootRun
  repeat' (first | (simp only [↓State.gnssStart_fixed, ↓State.hostWrite_fixed, ↓State.put_fixed, ↓State.record_fixed, ↓State.setDev_fixed, ↓State.showBoot_fixed, ↓State.tamperOwed_fixed, ↓mk_fixed, ↓ite_fixed, ite_self, ↓st_ite]; done) | split | (simp only [↓State.gnssStart_fixed, ↓State.hostWrite_fixed, ↓State.put_fixed, ↓State.record_fixed, ↓State.setDev_fixed, ↓State.showBoot_fixed, ↓State.tamperOwed_fixed, ↓mk_fixed, ↓ite_fixed, ite_self, ↓st_ite]; split) | (simp only [↓State.gnssStart_fixed, ↓State.hostWrite_fixed, ↓State.put_fixed, ↓State.record_fixed, ↓State.setDev_fixed, ↓State.showBoot_fixed, ↓State.tamperOwed_fixed, ↓mk_fixed, ↓ite_fixed, ite_self, ↓st_ite]) | (with_reducible refine (foldl_fixed _ _ _ (fun _ _ => ?_)).trans ?_) | (with_reducible refine (foldl_pair_fixed _ _ _ (fun _ _ => ?_)).trans ?_) | dsimp only | (simp_all; done))

@[simp] theorem execBoot_fixed (train0 train1 : Bool) (dramMib : Nat) (sfdp : Option Nat) (bootMs aon : Nat) (ka : Option (List Byte)) (s : State) : (after (execBoot train0 train1 dramMib sfdp bootMs aon ka s) s).fixed = s.fixed := by
  unfold execBoot
  repeat (first | rw [after_next] | rw [after_ite] | fail)
  repeat' (first | (simp only [↓State.bootRun_fixed, ↓State.bootStart_fixed, ↓State.fatalHalt_fixed, ↓State.noteFail_fixed, ↓mk_fixed, ↓ite_fixed, ite_self, ↓st_ite]; done) | split | (simp only [↓State.bootRun_fixed, ↓State.bootStart_fixed, ↓State.fatalHalt_fixed, ↓State.noteFail_fixed, ↓mk_fixed, ↓ite_fixed, ite_self, ↓st_ite]; split) | (simp only [↓State.bootRun_fixed, ↓State.bootStart_fixed, ↓State.fatalHalt_fixed, ↓State.noteFail_fixed, ↓mk_fixed, ↓ite_fixed, ite_self, ↓st_ite]) | (with_reducible refine (foldl_fixed _ _ _ (fun _ _ => ?_)).trans ?_) | (with_reducible refine (foldl_pair_fixed _ _ _ (fun _ _ => ?_)).trans ?_) | dsimp only | (simp_all; done))

@[simp] theorem execDramTrainingFail_fixed (s : State) : (after (execDramTrainingFail s) s).fixed = s.fixed := by
  unfold execDramTrainingFail
  repeat (first | rw [after_next] | rw [after_ite] | fail)
  repeat' (first | (simp only [↓State.fatalHalt_fixed, ↓State.put_fixed, ↓mk_fixed, ↓ite_fixed, ite_self, ↓st_ite]; done) | split | (simp only [↓State.fatalHalt_fixed, ↓State.put_fixed, ↓mk_fixed, ↓ite_fixed, ite_self, ↓st_ite]; split) | (simp only [↓State.fatalHalt_fixed, ↓State.put_fixed, ↓mk_fixed, ↓ite_fixed, ite_self, ↓st_ite]) | (with_reducible refine (foldl_fixed _ _ _ (fun _ _ => ?_)).trans ?_) | (with_reducible refine (foldl_pair_fixed _ _ _ (fun _ _ => ?_)).trans ?_) | dsimp only | (simp_all; done))

@[simp] theorem execThermal_fixed (junction : Int) (s : State) : (after (execThermal junction s) s).fixed = s.fixed := by
  unfold execThermal
  repeat (first | rw [after_next] | rw [after_ite] | fail)
  repeat' (first | (simp only [↓State.put_fixed, ↓State.thermCheck_fixed, ↓mk_fixed, ↓ite_fixed, ite_self, ↓st_ite]; done) | split | (simp only [↓State.put_fixed, ↓State.thermCheck_fixed, ↓mk_fixed, ↓ite_fixed, ite_self, ↓st_ite]; split) | (simp only [↓State.put_fixed, ↓State.thermCheck_fixed, ↓mk_fixed, ↓ite_fixed, ite_self, ↓st_ite]) | (with_reducible refine (foldl_fixed _ _ _ (fun _ _ => ?_)).trans ?_) | (with_reducible refine (foldl_pair_fixed _ _ _ (fun _ _ => ?_)).trans ?_) | dsimp only | (simp_all; done))

@[simp] theorem State.fuseEnd_fixed (s : State) (op slot : Nat) (good : Bool) : (State.fuseEnd s op slot good).st.fixed = s.fixed := by
  unfold State.fuseEnd
  repeat' (first | (simp only [↓State.fail_fixed, ↓State.ok_fixed, ↓State.record_fixed, ↓mk_fixed, ↓ite_fixed, ite_self, ↓st_ite]; done) | split | (simp only [↓State.fail_fixed, ↓State.ok_fixed, ↓State.record_fixed, ↓mk_fixed, ↓ite_fixed, ite_self, ↓st_ite]; split) | (simp only [↓State.fail_fixed, ↓State.ok_fixed, ↓State.record_fixed, ↓mk_fixed, ↓ite_fixed, ite_self, ↓st_ite]) | (with_reducible refine (foldl_fixed _ _ _ (fun _ _ => ?_)).trans ?_) | (with_reducible refine (foldl_pair_fixed _ _ _ (fun _ _ => ?_)).trans ?_) | dsimp only | (simp_all; done))

end Sys2Proof.Machine
end

