-- ==== Sys2Proof/Laws/FixedFrameEnd.lean ====
section
/-! SUPPORT. What the operations of Machine/FrameEnd.lean leave alone (Laws/Fixed.lean). -/

set_option linter.all false

namespace Sys2Proof.Machine

open Sys2Proof

@[simp] theorem State.answerEcho_fixed (s : State) (f : Frame) (at' : Nat) : (State.answerEcho s f at').fixed = s.fixed := by
  unfold State.answerEcho
  repeat' (first | (simp only [↓State.lpmPass_fixed, ↓State.place_fixed, ↓mk_fixed, ↓ite_fixed, ite_self, ↓st_ite]; done) | split | (simp only [↓State.lpmPass_fixed, ↓State.place_fixed, ↓mk_fixed, ↓ite_fixed, ite_self, ↓st_ite]; split) | (simp only [↓State.lpmPass_fixed, ↓State.place_fixed, ↓mk_fixed, ↓ite_fixed, ite_self, ↓st_ite]) | (simp only [optpair_fixed ‹State.storeFrame _ _ _ _ _ _  = some (_, _)› (fun _ h => State.storeFrame_fixed _ _ _ _ _ _  h), ↓State.lpmPass_fixed, ↓State.place_fixed, ↓mk_fixed, ↓ite_fixed, ite_self, ↓st_ite]) | (simp only [pair_fixed ‹State.lpmPass _ _ _ _ _  = (_, _)› (State.lpmPass_fixed _ _ _ _ _ ), ↓State.lpmPass_fixed, ↓State.place_fixed, ↓mk_fixed, ↓ite_fixed, ite_self, ↓st_ite]) | (with_reducible refine (foldl_fixed _ _ _ (fun _ _ => ?_)).trans ?_) | (with_reducible refine (foldl_pair_fixed _ _ _ (fun _ _ => ?_)).trans ?_) | dsimp only | (simp_all; done))

@[simp] theorem State.giveInner_fixed (s : State) (f : Frame) (at' : Nat) (x0 : InnerUse) : (State.giveInner s f at' x0).fixed = s.fixed := by
  unfold State.giveInner
  repeat' (first | (simp only [↓State.answerEcho_fixed, ↓State.fleetQueueData_fixed, ↓State.logInput_fixed, ↓State.setMsh_fixed, ↓mk_fixed, ↓ite_fixed, ite_self, ↓st_ite]; done) | split | (simp only [↓State.answerEcho_fixed, ↓State.fleetQueueData_fixed, ↓State.logInput_fixed, ↓State.setMsh_fixed, ↓mk_fixed, ↓ite_fixed, ite_self, ↓st_ite]; split) | (simp only [↓State.answerEcho_fixed, ↓State.fleetQueueData_fixed, ↓State.logInput_fixed, ↓State.setMsh_fixed, ↓mk_fixed, ↓ite_fixed, ite_self, ↓st_ite]) | (with_reducible refine (foldl_fixed _ _ _ (fun _ _ => ?_)).trans ?_) | (with_reducible refine (foldl_pair_fixed _ _ _ (fun _ _ => ?_)).trans ?_) | dsimp only | (simp_all; done))

@[simp] theorem State.readCells_fixed (s : State) (port : Nat) (f : Frame) (x0 : Option CellErr) : (State.readCells s port f x0).1.fixed = s.fixed := by
  unfold State.readCells
  repeat' (first | (simp only [↓State.cellRead_fixed, ↓mk_fixed, ↓ite_fixed, ite_self, ↓st_ite]; done) | split | (simp only [↓State.cellRead_fixed, ↓mk_fixed, ↓ite_fixed, ite_self, ↓st_ite]; split) | (simp only [↓State.cellRead_fixed, ↓mk_fixed, ↓ite_fixed, ite_self, ↓st_ite]) | (simp only [pair_fixed ‹State.cellRead _ _ _ _  = (_, _)› (State.cellRead_fixed _ _ _ _ ), ↓State.cellRead_fixed, ↓mk_fixed, ↓ite_fixed, ite_self, ↓st_ite]) | (with_reducible refine (foldl_fixed _ _ _ (fun _ _ => ?_)).trans ?_) | (with_reducible refine (foldl_pair_fixed _ _ _ (fun _ _ => ?_)).trans ?_) | dsimp only | (simp_all; done))

@[simp] theorem State.readCopy_fixed (s : State) (port : Nat) (f : Frame) (read : Option (List Byte)) (err : Option CellErr) : (State.readCopy s port f read err).1.fixed = s.fixed := by
  unfold State.readCopy
  repeat' (first | (simp only [↓State.noteStomp_fixed, ↓State.readCells_fixed, ↓mk_fixed, ↓ite_fixed, ite_self, ↓st_ite]; done) | split | (simp only [↓State.noteStomp_fixed, ↓State.readCells_fixed, ↓mk_fixed, ↓ite_fixed, ite_self, ↓st_ite]; split) | (simp only [↓State.noteStomp_fixed, ↓State.readCells_fixed, ↓mk_fixed, ↓ite_fixed, ite_self, ↓st_ite]) | (simp only [pair_fixed ‹State.readCells _ _ _ _  = (_, _)› (State.readCells_fixed _ _ _ _ ), ↓State.noteStomp_fixed, ↓State.readCells_fixed, ↓mk_fixed, ↓ite_fixed, ite_self, ↓st_ite]) | (with_reducible refine (foldl_fixed _ _ _ (fun _ _ => ?_)).trans ?_) | (with_reducible refine (foldl_pair_fixed _ _ _ (fun _ _ => ?_)).trans ?_) | dsimp only | (simp_all; done))

@[simp] theorem execEgressFrameEnd_fixed (port atNs : Nat) (read : Option (List Byte)) (err : Option CellErr) (s : State) : (after (execEgressFrameEnd port atNs read err s) s).fixed = s.fixed := by
  unfold execEgressFrameEnd
  repeat (first | rw [after_next] | rw [after_ite] | fail)
  repeat' (first | (simp only [↓State.emit_fixed, ↓State.endCopy_fixed, ↓State.endDesc_fixed, ↓State.giveInner_fixed, ↓State.hostFrame_fixed, ↓State.ptpSent_fixed, ↓State.readCopy_fixed, ↓State.setEg_fixed, ↓State.setNet_fixed, ↓State.weighPause_fixed, ↓mk_fixed, ↓ite_fixed, ite_self, ↓st_ite]; done) | split | (simp only [↓State.emit_fixed, ↓State.endCopy_fixed, ↓State.endDesc_fixed, ↓State.giveInner_fixed, ↓State.hostFrame_fixed, ↓State.ptpSent_fixed, ↓State.readCopy_fixed, ↓State.setEg_fixed, ↓State.setNet_fixed, ↓State.weighPause_fixed, ↓mk_fixed, ↓ite_fixed, ite_self, ↓st_ite]; split) | (simp only [↓State.emit_fixed, ↓State.endCopy_fixed, ↓State.endDesc_fixed, ↓State.giveInner_fixed, ↓State.hostFrame_fixed, ↓State.ptpSent_fixed, ↓State.readCopy_fixed, ↓State.setEg_fixed, ↓State.setNet_fixed, ↓State.weighPause_fixed, ↓mk_fixed, ↓ite_fixed, ite_self, ↓st_ite]) | (simp only [pair_fixed ‹State.readCopy _ _ _ _ _  = (_, _)› (State.readCopy_fixed _ _ _ _ _ ), ↓State.emit_fixed, ↓State.endCopy_fixed, ↓State.endDesc_fixed, ↓State.giveInner_fixed, ↓State.hostFrame_fixed, ↓State.ptpSent_fixed, ↓State.readCopy_fixed, ↓State.setEg_fixed, ↓State.setNet_fixed, ↓State.weighPause_fixed, ↓mk_fixed, ↓ite_fixed, ite_self, ↓st_ite]) | (with_reducible refine (foldl_fixed _ _ _ (fun _ _ => ?_)).trans ?_) | (with_reducible refine (foldl_pair_fixed _ _ _ (fun _ _ => ?_)).trans ?_) | dsimp only | (simp_all; done))

end Sys2Proof.Machine
end

