-- ==== Sys2Proof/Laws/FixedTables.lean ====
section
/-! SUPPORT. What the operations of Machine/Tables.lean leave alone (Laws/Fixed.lean). -/

set_option linter.all false

namespace Sys2Proof.Machine

open Sys2Proof

@[simp] theorem State.badPort_fixed (s : State) (d : Desc) : (State.badPort s d).st.fixed = s.fixed := by
  unfold State.badPort
  repeat' (first | (simp only [↓State.fail_fixed, ↓State.noteBadDesc_fixed, ↓mk_fixed, ↓ite_fixed, ite_self, ↓st_ite]; done) | split | (simp only [↓State.fail_fixed, ↓State.noteBadDesc_fixed, ↓mk_fixed, ↓ite_fixed, ite_self, ↓st_ite]; split) | (simp only [↓State.fail_fixed, ↓State.noteBadDesc_fixed, ↓mk_fixed, ↓ite_fixed, ite_self, ↓st_ite]) | (with_reducible refine (foldl_fixed _ _ _ (fun _ _ => ?_)).trans ?_) | (with_reducible refine (foldl_pair_fixed _ _ _ (fun _ _ => ?_)).trans ?_) | dsimp only | (simp_all; done))

@[simp] theorem State.sendPlaced_fixed (s : State) (d : Desc) (id : Nat) (v : Verdict) : (State.sendPlaced s d id v).st.fixed = s.fixed := by
  unfold State.sendPlaced
  repeat' (first | (simp only [↓State.fail_fixed, ↓State.freeFrame_fixed, ↓State.later_fixed, ↓State.ok_fixed, ↓State.place_fixed, ↓mk_fixed, ↓ite_fixed, ite_self, ↓st_ite]; done) | split | (simp only [↓State.fail_fixed, ↓State.freeFrame_fixed, ↓State.later_fixed, ↓State.ok_fixed, ↓State.place_fixed, ↓mk_fixed, ↓ite_fixed, ite_self, ↓st_ite]; split) | (simp only [↓State.fail_fixed, ↓State.freeFrame_fixed, ↓State.later_fixed, ↓State.ok_fixed, ↓State.place_fixed, ↓mk_fixed, ↓ite_fixed, ite_self, ↓st_ite]) | (with_reducible refine (foldl_fixed _ _ _ (fun _ _ => ?_)).trans ?_) | (with_reducible refine (foldl_pair_fixed _ _ _ (fun _ _ => ?_)).trans ?_) | dsimp only | (simp_all; done))

@[simp] theorem execFrameSend_fixed (d : Desc) (s : State) : (after (execFrameSend d s) s).fixed = s.fixed := by
  unfold execFrameSend
  repeat (first | rw [after_next] | rw [after_ite] | fail)
  repeat' (first | (simp only [↓State.badPort_fixed, ↓State.command_fixed, ↓State.fail_fixed, ↓State.later_fixed, ↓State.lookup_fixed, ↓State.modFrame_fixed, ↓State.ok_fixed, ↓State.sendPlaced_fixed, ↓mk_fixed, ↓ite_fixed, ite_self, ↓st_ite]; done) | split | (simp only [↓State.badPort_fixed, ↓State.command_fixed, ↓State.fail_fixed, ↓State.later_fixed, ↓State.lookup_fixed, ↓State.modFrame_fixed, ↓State.ok_fixed, ↓State.sendPlaced_fixed, ↓mk_fixed, ↓ite_fixed, ite_self, ↓st_ite]; split) | (simp only [↓State.badPort_fixed, ↓State.command_fixed, ↓State.fail_fixed, ↓State.later_fixed, ↓State.lookup_fixed, ↓State.modFrame_fixed, ↓State.ok_fixed, ↓State.sendPlaced_fixed, ↓mk_fixed, ↓ite_fixed, ite_self, ↓st_ite]) | (simp only [optpair_fixed ‹State.storeFrame _ _ _ _ _ _  = some (_, _)› (fun _ h => State.storeFrame_fixed _ _ _ _ _ _  h), ↓State.badPort_fixed, ↓State.command_fixed, ↓State.fail_fixed, ↓State.later_fixed, ↓State.lookup_fixed, ↓State.modFrame_fixed, ↓State.ok_fixed, ↓State.sendPlaced_fixed, ↓mk_fixed, ↓ite_fixed, ite_self, ↓st_ite]) | (simp only [pair_fixed ‹State.lookup _ _  = (_, _)› (State.lookup_fixed _ _ ), ↓State.badPort_fixed, ↓State.command_fixed, ↓State.fail_fixed, ↓State.later_fixed, ↓State.lookup_fixed, ↓State.modFrame_fixed, ↓State.ok_fixed, ↓State.sendPlaced_fixed, ↓mk_fixed, ↓ite_fixed, ite_self, ↓st_ite]) | (with_reducible refine (State.command_fixed _ _ _ (fun _ => ?_)).trans ?_) | (with_reducible refine (foldl_fixed _ _ _ (fun _ _ => ?_)).trans ?_) | (with_reducible refine (foldl_pair_fixed _ _ _ (fun _ _ => ?_)).trans ?_) | dsimp only | (simp_all; done))

@[simp] theorem execFwdMacAdd_fixed (d : Desc) (s : State) : (after (execFwdMacAdd d s) s).fixed = s.fixed := by
  unfold execFwdMacAdd
  repeat (first | rw [after_next] | rw [after_ite] | fail)
  repeat' (first | (simp only [↓State.badPort_fixed, ↓State.command_fixed, ↓State.fail_fixed, ↓State.ok_fixed, ↓State.setL2_fixed, ↓mk_fixed, ↓ite_fixed, ite_self, ↓st_ite]; done) | split | (simp only [↓State.badPort_fixed, ↓State.command_fixed, ↓State.fail_fixed, ↓State.ok_fixed, ↓State.setL2_fixed, ↓mk_fixed, ↓ite_fixed, ite_self, ↓st_ite]; split) | (simp only [↓State.badPort_fixed, ↓State.command_fixed, ↓State.fail_fixed, ↓State.ok_fixed, ↓State.setL2_fixed, ↓mk_fixed, ↓ite_fixed, ite_self, ↓st_ite]) | (with_reducible refine (State.command_fixed _ _ _ (fun _ => ?_)).trans ?_) | (with_reducible refine (foldl_fixed _ _ _ (fun _ _ => ?_)).trans ?_) | (with_reducible refine (foldl_pair_fixed _ _ _ (fun _ _ => ?_)).trans ?_) | dsimp only | (simp_all; done))

@[simp] theorem execFwdMacDel_fixed (d : Desc) (s : State) : (after (execFwdMacDel d s) s).fixed = s.fixed := by
  unfold execFwdMacDel
  repeat (first | rw [after_next] | rw [after_ite] | fail)
  repeat' (first | (simp only [↓State.command_fixed, ↓State.fail_fixed, ↓State.ok_fixed, ↓State.setL2_fixed, ↓mk_fixed, ↓ite_fixed, ite_self, ↓st_ite]; done) | split | (simp only [↓State.command_fixed, ↓State.fail_fixed, ↓State.ok_fixed, ↓State.setL2_fixed, ↓mk_fixed, ↓ite_fixed, ite_self, ↓st_ite]; split) | (simp only [↓State.command_fixed, ↓State.fail_fixed, ↓State.ok_fixed, ↓State.setL2_fixed, ↓mk_fixed, ↓ite_fixed, ite_self, ↓st_ite]) | (with_reducible refine (State.command_fixed _ _ _ (fun _ => ?_)).trans ?_) | (with_reducible refine (foldl_fixed _ _ _ (fun _ _ => ?_)).trans ?_) | (with_reducible refine (foldl_pair_fixed _ _ _ (fun _ _ => ?_)).trans ?_) | dsimp only | (simp_all; done))

@[simp] theorem execFwdMacFlush_fixed (d : Desc) (s : State) : (after (execFwdMacFlush d s) s).fixed = s.fixed := by
  unfold execFwdMacFlush
  repeat (first | rw [after_next] | rw [after_ite] | fail)
  repeat' (first | (simp only [↓State.badPort_fixed, ↓State.command_fixed, ↓State.ok_fixed, ↓State.setL2_fixed, ↓mk_fixed, ↓ite_fixed, ite_self, ↓st_ite]; done) | split | (simp only [↓State.badPort_fixed, ↓State.command_fixed, ↓State.ok_fixed, ↓State.setL2_fixed, ↓mk_fixed, ↓ite_fixed, ite_self, ↓st_ite]; split) | (simp only [↓State.badPort_fixed, ↓State.command_fixed, ↓State.ok_fixed, ↓State.setL2_fixed, ↓mk_fixed, ↓ite_fixed, ite_self, ↓st_ite]) | (with_reducible refine (State.command_fixed _ _ _ (fun _ => ?_)).trans ?_) | (with_reducible refine (foldl_fixed _ _ _ (fun _ _ => ?_)).trans ?_) | (with_reducible refine (foldl_pair_fixed _ _ _ (fun _ _ => ?_)).trans ?_) | dsimp only | (simp_all; done))

@[simp] theorem execFwdMacRead_fixed (d : Desc) (s : State) : (after (execFwdMacRead d s) s).fixed = s.fixed := by
  unfold execFwdMacRead
  repeat (first | rw [after_next] | rw [after_ite] | fail)
  repeat' (first | (simp only [↓State.command_fixed, ↓mk_fixed, ↓ite_fixed, ite_self, ↓st_ite]; done) | split | (simp only [↓State.command_fixed, ↓mk_fixed, ↓ite_fixed, ite_self, ↓st_ite]; split) | (simp only [↓State.command_fixed, ↓mk_fixed, ↓ite_fixed, ite_self, ↓st_ite]) | (with_reducible refine (State.command_fixed _ _ _ (fun _ => ?_)).trans ?_) | (with_reducible refine (foldl_fixed _ _ _ (fun _ _ => ?_)).trans ?_) | (with_reducible refine (foldl_pair_fixed _ _ _ (fun _ _ => ?_)).trans ?_) | dsimp only | (simp_all; done))

@[simp] theorem execFwdVlanSet_fixed (d : Desc) (s : State) : (after (execFwdVlanSet d s) s).fixed = s.fixed := by
  unfold execFwdVlanSet
  repeat (first | rw [after_next] | rw [after_ite] | fail)
  repeat' (first | (simp only [↓State.badPort_fixed, ↓State.command_fixed, ↓State.learn_fixed, ↓State.ok_fixed, ↓State.setNet_fixed, ↓mk_fixed, ↓ite_fixed, ite_self, ↓st_ite]; done) | split | (simp only [↓State.badPort_fixed, ↓State.command_fixed, ↓State.learn_fixed, ↓State.ok_fixed, ↓State.setNet_fixed, ↓mk_fixed, ↓ite_fixed, ite_self, ↓st_ite]; split) | (simp only [↓State.badPort_fixed, ↓State.command_fixed, ↓State.learn_fixed, ↓State.ok_fixed, ↓State.setNet_fixed, ↓mk_fixed, ↓ite_fixed, ite_self, ↓st_ite]) | (with_reducible refine (State.command_fixed _ _ _ (fun _ => ?_)).trans ?_) | (with_reducible refine (foldl_fixed _ _ _ (fun _ _ => ?_)).trans ?_) | (with_reducible refine (foldl_pair_fixed _ _ _ (fun _ _ => ?_)).trans ?_) | dsimp only | (simp_all; done))

@[simp] theorem execFwdRouteAdd_fixed (d : Desc) (s : State) : (after (execFwdRouteAdd d s) s).fixed = s.fixed := by
  unfold execFwdRouteAdd
  repeat (first | rw [after_next] | rw [after_ite] | fail)
  repeat' (first | (simp only [↓State.badPort_fixed, ↓State.command_fixed, ↓State.fail_fixed, ↓State.ok_fixed, ↓State.setNet_fixed, ↓State.showTables_fixed, ↓mk_fixed, ↓ite_fixed, ite_self, ↓st_ite]; done) | split | (simp only [↓State.badPort_fixed, ↓State.command_fixed, ↓State.fail_fixed, ↓State.ok_fixed, ↓State.setNet_fixed, ↓State.showTables_fixed, ↓mk_fixed, ↓ite_fixed, ite_self, ↓st_ite]; split) | (simp only [↓State.badPort_fixed, ↓State.command_fixed, ↓State.fail_fixed, ↓State.ok_fixed, ↓State.setNet_fixed, ↓State.showTables_fixed, ↓mk_fixed, ↓ite_fixed, ite_self, ↓st_ite]) | (with_reducible refine (State.command_fixed _ _ _ (fun _ => ?_)).trans ?_) | (with_reducible refine (foldl_fixed _ _ _ (fun _ _ => ?_)).trans ?_) | (with_reducible refine (foldl_pair_fixed _ _ _ (fun _ _ => ?_)).trans ?_) | dsimp only | (simp_all; done))

@[simp] theorem execFwdRouteDel_fixed (d : Desc) (s : State) : (after (execFwdRouteDel d s) s).fixed = s.fixed := by
  unfold execFwdRouteDel
  repeat (first | rw [after_next] | rw [after_ite] | fail)
  repeat' (first | (simp only [↓State.command_fixed, ↓State.fail_fixed, ↓State.ok_fixed, ↓State.setNet_fixed, ↓State.showTables_fixed, ↓mk_fixed, ↓ite_fixed, ite_self, ↓st_ite]; done) | split | (simp only [↓State.command_fixed, ↓State.fail_fixed, ↓State.ok_fixed, ↓State.setNet_fixed, ↓State.showTables_fixed, ↓mk_fixed, ↓ite_fixed, ite_self, ↓st_ite]; split) | (simp only [↓State.command_fixed, ↓State.fail_fixed, ↓State.ok_fixed, ↓State.setNet_fixed, ↓State.showTables_fixed, ↓mk_fixed, ↓ite_fixed, ite_self, ↓st_ite]) | (with_reducible refine (State.command_fixed _ _ _ (fun _ => ?_)).trans ?_) | (with_reducible refine (foldl_fixed _ _ _ (fun _ _ => ?_)).trans ?_) | (with_reducible refine (foldl_pair_fixed _ _ _ (fun _ _ => ?_)).trans ?_) | dsimp only | (simp_all; done))

@[simp] theorem execFwdGateLoad_fixed (d : Desc) (s : State) : (after (execFwdGateLoad d s) s).fixed = s.fixed := by
  unfold execFwdGateLoad
  repeat (first | rw [after_next] | rw [after_ite] | fail)
  repeat' (first | (simp only [↓State.badPort_fixed, ↓State.command_fixed, ↓State.ok_fixed, ↓State.operate_fixed, ↓State.setGates_fixed, ↓mk_fixed, ↓ite_fixed, ite_self, ↓st_ite]; done) | split | (simp only [↓State.badPort_fixed, ↓State.command_fixed, ↓State.ok_fixed, ↓State.operate_fixed, ↓State.setGates_fixed, ↓mk_fixed, ↓ite_fixed, ite_self, ↓st_ite]; split) | (simp only [↓State.badPort_fixed, ↓State.command_fixed, ↓State.ok_fixed, ↓State.operate_fixed, ↓State.setGates_fixed, ↓mk_fixed, ↓ite_fixed, ite_self, ↓st_ite]) | (with_reducible refine (State.command_fixed _ _ _ (fun _ => ?_)).trans ?_) | (with_reducible refine (foldl_fixed _ _ _ (fun _ _ => ?_)).trans ?_) | (with_reducible refine (foldl_pair_fixed _ _ _ (fun _ _ => ?_)).trans ?_) | dsimp only | (simp_all; done))

@[simp] theorem execFwdParityRead_fixed (d : Desc) (s : State) : (after (execFwdParityRead d s) s).fixed = s.fixed := by
  unfold execFwdParityRead
  repeat (first | rw [after_next] | rw [after_ite] | fail)
  repeat' (first | (simp only [↓State.command_fixed, ↓State.setNet_fixed, ↓mk_fixed, ↓ite_fixed, ite_self, ↓st_ite]; done) | split | (simp only [↓State.command_fixed, ↓State.setNet_fixed, ↓mk_fixed, ↓ite_fixed, ite_self, ↓st_ite]; split) | (simp only [↓State.command_fixed, ↓State.setNet_fixed, ↓mk_fixed, ↓ite_fixed, ite_self, ↓st_ite]) | (with_reducible refine (State.command_fixed _ _ _ (fun _ => ?_)).trans ?_) | (with_reducible refine (foldl_fixed _ _ _ (fun _ _ => ?_)).trans ?_) | (with_reducible refine (foldl_pair_fixed _ _ _ (fun _ _ => ?_)).trans ?_) | dsimp only | (simp_all; done))

end Sys2Proof.Machine
end

