-- ==== Sys2Proof/Laws/Kept.lean ====
section
/-! SUPPORT. The commands that move a supply, the straps, a fuse or the boot flash: what each leaves of them. Every other meaning
leaves them all alone (Laws/Fixed*.lean). -/

namespace Sys2Proof.Machine

open Sys2Proof

theorem SlotGrows.refl (a : HashSlot) : SlotGrows a a := ⟨id, fun _ => rfl, id, id⟩

theorem SlotGrows.trans {a b c : HashSlot} (h : SlotGrows a b) (g : SlotGrows b c) : SlotGrows a c :=
  ⟨fun p => g.1 (h.1 p), fun p => (g.2 (h.1 p)).trans (h.2 p), fun p => g.3 (h.3 p), fun p => g.4 (h.4 p)⟩

theorem FusesGrow.refl (a : Fuses) : FusesGrow a a := ⟨le_refl _, rfl, fun _ => SlotGrows.refl _, rfl, rfl, rfl, rfl⟩

theorem FusesGrow.trans {a b c : Fuses} (h : FusesGrow a b) (g : FusesGrow b c) : FusesGrow a c :=
  ⟨h.1.trans g.1, g.2.trans h.2, fun n => (h.3 n).trans (g.3 n), g.4.trans h.4, g.5.trans h.5, g.6.trans h.6, g.7.trans h.7⟩

/-- What a change of fuses or flash leaves of the fixed part. -/
structure Kept (s t : State) : Prop where
  pending : t.pending = s.pending
  part : t.part = s.part
  pins : t.pins = s.pins
  straps : t.straps = s.straps
  fuses : FusesGrow s.fuses t.fuses
  antiroll : s.fuses.antiroll ≤ 64 → t.fuses.antiroll ≤ 64
  flash : cellsOk erased s.sys.flash = true → cellsOk erased t.sys.flash = true

theorem Kept.trans {s t u : State} (h : Kept s t) (g : Kept t u) : Kept s u :=
  ⟨g.pending.trans h.pending, g.part.trans h.part, g.pins.trans h.pins, g.straps.trans h.straps, h.fuses.trans g.fuses,
   fun x => g.antiroll (h.antiroll x), fun x => g.flash (h.flash x)⟩

/-- A change that leaves the fixed part alone. -/
theorem kept_of_fixed {s t : State} (h : t.fixed = s.fixed) : Kept s t := by
  simp only [State.fixed, Fixed.mk.injEq] at h
  obtain ⟨h1, h2, h3, h4, h5, h6⟩ := h
  exact ⟨h1, h2, h4, h5, by rw [h3]; exact FusesGrow.refl _, fun x => by rw [h3]; exact x, fun x => by rw [h6]; exact x⟩

theorem Kept.then_fixed {s t u : State} (h : Kept s t) (g : u.fixed = t.fixed) : Kept s u := h.trans (kept_of_fixed g)

theorem Kept.upto {s t u : State} (g : u.fixed = t.fixed) (h : Kept s t) : Kept s u := h.then_fixed g

/-- A ring command changes what its body changes. -/
theorem State.command_kept (s : State) (d : Desc) (body : State → CmdRes) (hb : ∀ s, Kept s (body s).st) :
    Kept s (s.command d body) := by
  unfold State.command
  dsimp only
  split
  · exact kept_of_fixed rfl
  · split
    · split
      · exact kept_of_fixed rfl
      · split
        · exact kept_of_fixed (State.computedOf_fixed _ _)
        · refine Kept.trans (kept_of_fixed (t := { s with sn := match s.jobOf d with
            | some j => if d.shadow = true then j.sn else s.sn
            | none => s.sn }) rfl) (Kept.then_fixed (hb _) ?_)
          exact (mk_fixed _).trans (State.finish_fixed _ _ _)
    · split
      · exact kept_of_fixed rfl
      · split
        · exact kept_of_fixed (State.endEarly_fixed _ _ _)
        · split
          · exact kept_of_fixed (State.forwardDesc_fixed _ _)
          · split
            · exact kept_of_fixed rfl
            · split
              · exact kept_of_fixed (State.computedOf_fixed _ _)
              · exact (hb s).then_fixed (State.finish_fixed _ _ _)

/-- A change of the boot flash alone. -/
theorem setFlash_kept (s : State) (f : Tab Byte) (h : cellsOk erased s.sys.flash = true → cellsOk erased f = true) :
    Kept s (s.setSys { s.sys with flash := f }) :=
  ⟨rfl, rfl, rfl, rfl, FusesGrow.refl _, id, h⟩

theorem flashFill_ok {t : Tab Byte} (o n : Nat) (f : Nat → Byte) (h : cellsOk erased t = true) :
    cellsOk erased (flashFill t o n f) = true := by
  unfold flashFill
  generalize List.range n = l
  induction l generalizing t with
  | nil => exact h
  | cons a l ih => exact ih (cellsOk_cput _ _ _ h)

theorem State.flashBroke_kept (s : State) (o n : Nat) : Kept s (s.flashBroke o n).st :=
  Kept.upto ((State.fail_fixed _ _ _).trans (State.drawn_fixed _)) (setFlash_kept s _ (flashFill_ok o n _))

/-- SYS_FLASH changes the boot flash alone (R495). -/
theorem execSysFlash_kept (d : Desc) (fail : Bool) (s : State) : Kept s (after (execSysFlash d fail s) s) := by
  unfold execSysFlash
  rw [after_next]
  refine State.command_kept _ _ _ fun s => ?_
  dsimp only
  split
  · exact kept_of_fixed (State.fail_fixed _ _ _)
  · split
    · exact kept_of_fixed (State.answer_fixed _ _ _ _)
    · split
      · exact State.flashBroke_kept _ _ _
      · split
        · refine Kept.upto (State.ok_fixed _ _) (setFlash_kept s _ ?_)
          exact fun h => cellsOk_filter _ _ h
        · split
          · exact Kept.upto (State.ok_fixed _ _) (setFlash_kept s _ (flashFill_ok _ _ _))
          · exact Kept.upto ((State.fail_fixed _ _ _).trans (State.drawn_fixed _)) (setFlash_kept s _ (flashFill_ok _ _ _))

/-- A slot that grows. -/
theorem setSlot_kept (s : State) (n : Nat) (x : HashSlot) (h : SlotGrows (s.fuses.slots.getD n {}) x) : Kept s (s.setSlot n x) := by
  refine ⟨rfl, rfl, rfl, rfl, ⟨le_refl _, by simp [State.setSlot, lput], fun m => ?_, rfl, rfl, rfl, rfl⟩, id, id⟩
  simp only [State.setSlot, lput, List.getD_eq_getElem?_getD, List.getElem?_set]
  split
  · split
    · rename_i hm hl
      subst hm
      simpa [List.getD_eq_getElem?_getD] using h
    · rw [List.getElem?_eq_none (by omega)]; exact SlotGrows.refl _
  · exact SlotGrows.refl _

theorem fuseEnd_kept (s : State) (op slot : Nat) (good : Bool) : Kept s (s.fuseEnd op slot good).st :=
  kept_of_fixed (State.fuseEnd_fixed _ _ _ _)

/-- SYS_FUSE blows fuses and changes nothing else of the fixed part (R488). -/
theorem execSysFuse_kept (d : Desc) (bad : Option Nat) (s : State) : Kept s (after (execSysFuse d bad s) s) := by
  unfold execSysFuse
  rw [after_next]
  refine State.command_kept _ _ _ fun s => ?_
  dsimp only
  split
  · exact kept_of_fixed (State.fail_fixed _ _ _)
  · split
    · split
      · exact kept_of_fixed (State.fail_fixed _ _ _)
      · rename_i h
        have h' := h
        simp only [Bool.or_eq_true, not_or, Bool.not_eq_true] at h'
        split
        · refine Kept.trans (setSlot_kept s _ _ ?_) (fuseEnd_kept _ _ _ _)
          exact ⟨fun g => absurd (h'.1.symm.trans g) Bool.false_ne_true, fun g => absurd (h'.1.symm.trans g) Bool.false_ne_true, fun g => absurd (h'.2.symm.trans g) Bool.false_ne_true, id⟩
        · refine Kept.trans (kept_of_fixed (State.drawn_fixed s)) (Kept.trans (setSlot_kept _ _ _ ?_) (fuseEnd_kept _ _ _ _))
          exact ⟨fun g => absurd (h'.1.symm.trans g) Bool.false_ne_true, fun g => absurd (h'.1.symm.trans g) Bool.false_ne_true, fun _ => rfl, id⟩
        · refine Kept.trans (setSlot_kept s _ _ ?_) (fuseEnd_kept _ _ _ _)
          exact ⟨fun g => absurd (h'.1.symm.trans g) Bool.false_ne_true, fun g => absurd (h'.1.symm.trans g) Bool.false_ne_true, fun _ => rfl, id⟩
    · split
      · exact kept_of_fixed (State.fail_fixed _ _ _)
      · split
        · exact kept_of_fixed (State.ok_fixed _ _)
        · split
          · exact fuseEnd_kept _ _ _ _
          · refine Kept.trans (setSlot_kept s _ _ ?_) (fuseEnd_kept _ _ _ _)
            exact ⟨id, fun _ => rfl, id, fun _ => rfl⟩
    · split
      · exact kept_of_fixed (State.ok_fixed _ _)
      · rename_i h
        refine Kept.trans (t := { s with fuses := { s.fuses with antiroll := _ } }) ?_ (fuseEnd_kept _ _ _ _)
        simp only [State.rollbackLevel, not_le, lt_min_iff] at h
        refine ⟨rfl, rfl, rfl, rfl, ⟨?_, rfl, fun _ => SlotGrows.refl _, rfl, rfl, rfl, rfl⟩, fun _ => ?_, id⟩
        · simp only [State.rollbackLevel]; split <;> omega
        · simp only [State.rollbackLevel]; split <;> omega

theorem runDesc_kept (d : Desc) (s : State) : Kept s (after (runDesc d s) s) := by
  unfold runDesc
  split
  case h_1 => exact execSysFlash_kept _ _ _
  case h_2 => exact execSysFuse_kept _ _ _
  all_goals try split
  all_goals exact kept_of_fixed (by simp)

theorem State.commitRing_kept (s : State) (cls n : Nat) : Kept s (s.commitRing cls n) := by
  induction n generalizing s with
  | zero => exact kept_of_fixed rfl
  | succ n ih =>
    unfold State.commitRing
    split
    · exact kept_of_fixed rfl
    · split
      · exact kept_of_fixed rfl
      · dsimp only
        split
        · exact runDesc_kept _ _
        · exact (runDesc_kept _ _).trans (ih _)

/-- JOB_COMMIT changes what the jobs it commits change (R39). -/
theorem execJobCommit_kept (id ns : Nat) (how : JobEnd MemRead) (s : State) :
    Kept s (after (execJobCommit id ns how s) s) := by
  unfold execJobCommit
  rw [after_next]
  split
  · exact kept_of_fixed rfl
  · split
    · exact kept_of_fixed rfl
    · split
      · split
        · exact kept_of_fixed (State.commitProc_fixed _ _)
        · exact kept_of_fixed rfl
      · rename_i d _
        split
        · exact kept_of_fixed rfl
        · split
          · rename_i r
            dsimp only
            split
            · exact ((kept_of_fixed ((State.memStrike_fixed _ _).trans (State.requesterRead_fixed s r))).trans
                (State.commitRing_kept _ _ _)).then_fixed (State.showDisp_fixed _)
            · exact kept_of_fixed (State.requesterRead_fixed s r)
          · split
            · exact kept_of_fixed rfl
            · exact kept_of_fixed (by simp only [State.startJobs_fixed, State.modJob_fixed])
          · split
            · exact kept_of_fixed (State.modJob_fixed _ _ _)
            · refine Kept.upto (State.showDisp_fixed _) (Kept.upto (State.pressure_fixed _) ?_)
              refine Kept.trans ?_ (State.commitRing_kept _ _ _)
              refine Kept.upto ?_ (runDesc_kept d s)
              rw [State.startJobs_fixed]
              split <;> simp only [State.notePeak_fixed]

/-! ### Supplies, RESET_N and the straps -/

/-- What a supply or reset row leaves of the fixed part. -/
structure Supplied (s t : State) : Prop where
  pending : t.pending = s.pending
  part : t.part = s.part
  fuses : t.fuses = s.fuses
  flash : t.sys.flash = s.sys.flash
  boot : s.straps.boot < 4 → t.straps.boot < 4
  supply : s.pins.aonSupply = (s.pins.mainSupply || s.pins.vbat) → t.pins.aonSupply = (t.pins.mainSupply || t.pins.vbat)

/-- By the fixed part of the states. -/
theorem supplied_of_fixed {s t u : State} (h : Supplied s t) (g : u.fixed = t.fixed) : Supplied s u := by
  simp only [State.fixed, Fixed.mk.injEq] at g
  obtain ⟨g1, g2, g3, g4, g5, g6⟩ := g
  exact ⟨g1.trans h.pending, g2.trans h.part, g3.trans h.fuses, g6.trans h.flash, fun x => by rw [g5]; exact h.boot x,
    fun x => by rw [g4]; exact h.supply x⟩

theorem Supplied.refl (s : State) : Supplied s s := ⟨rfl, rfl, rfl, rfl, id, id⟩

theorem State.powerOn_fixed (s : State) : (s.powerOn).fixed = { s.fixed with pins := { s.pins with mainSupply := true, aonSupply := true, resetN := false } } := by
  unfold State.powerOn
  dsimp only
  split
  · rw [State.record_fixed, State.put_fixed, State.startRecorder_fixed]; rfl
  · rw [State.startRecorder_fixed]; rfl

theorem execPowerUp_supplied (vbat : Bool) (s : State) : Supplied s (after (execPowerUp vbat s) s) := by
  unfold execPowerUp
  rw [after_next]
  split
  · exact Supplied.refl s
  · refine supplied_of_fixed (t := { s with pins := { s.pins with mainSupply := true, aonSupply := true, resetN := false, vbat := vbat } })
      ⟨rfl, rfl, rfl, rfl, id, fun _ => rfl⟩ (State.powerOn_fixed _)

theorem execResetNLow_supplied (s : State) : Supplied s (after (execResetNLow s) s) := by
  unfold execResetNLow
  rw [after_next]
  split
  · exact Supplied.refl s
  · have h : Supplied s { s with pins := { s.pins with resetN := false } } := ⟨rfl, rfl, rfl, rfl, id, id⟩
    dsimp only
    split
    · exact h
    · split
      · exact supplied_of_fixed h (State.wakeByPin_fixed _)
      · exact supplied_of_fixed h (State.resetHeld_fixed _ _)

theorem execResetRelease_supplied (boot : Nat) (pairId pref test : Bool) (s : State) :
    Supplied s (after (execResetRelease boot pairId pref test s) s) := by
  unfold execResetRelease
  rw [after_next]
  split
  · exact Supplied.refl s
  · have h : ∀ x : Straps, (s.straps.boot < 4 → x.boot < 4) →
        Supplied s { s with pins := { s.pins with resetN := true }, straps := x } := fun _ g => ⟨rfl, rfl, rfl, rfl, g, id⟩
    have h' : ∀ x : Straps, (s.straps.boot < 4 → x.boot < 4) →
        Supplied s (({ s with pins := { s.pins with resetN := true }, straps := x } : State).startRecorder.setDev .boot) :=
      fun x g => supplied_of_fixed (h x g) (by rw [State.setDev_fixed, State.startRecorder_fixed])
    dsimp only
    split <;> split
    all_goals first
      | exact h _ id
      | exact h _ fun _ => Nat.mod_lt _ (by decide)
      | exact h' _ id
      | exact h' _ fun _ => Nat.mod_lt _ (by decide)

/-- The AON domain's loss, with VBAT and the main supplies gone. -/
theorem State.loseAon_supplied {s t : State} (h : Supplied s t) (hm : t.pins.mainSupply = false) (hv : t.pins.vbat = false) :
    Supplied s t.loseAon :=
  ⟨h.pending, h.part, h.fuses, h.flash, h.boot, fun _ => by simp [State.loseAon, hm, hv]⟩

theorem execMainSupplyLoss_supplied (s : State) : Supplied s (after (execMainSupplyLoss s) s) := by
  unfold execMainSupplyLoss
  rw [after_next]
  split
  · exact Supplied.refl s
  · split
    · rename_i hm hv
      simp only [Bool.not_eq_true, Bool.not_eq_false', Bool.and_eq_true] at hm hv
      have key : ∀ t : State, t.fixed = s.fixed → Supplied s { t with pins := { t.pins with mainSupply := false } } := by
        intro t ht
        simp only [State.fixed, Fixed.mk.injEq] at ht
        obtain ⟨g1, g2, g3, g4, g5, g6⟩ := ht
        refine ⟨g1, g2, g3, g6, fun x => by rw [g5]; exact x, fun x => ?_⟩
        simp only [g4, x, hv.1, Bool.or_true]
      dsimp only
      split
      · exact key s rfl
      · exact key _ (State.enterDormant_fixed _)
    · unfold State.unpowered
      dsimp only
      split
      · exact ⟨rfl, rfl, rfl, rfl, id, fun _ => by simp⟩
      · rename_i hv
        exact State.loseAon_supplied ⟨rfl, rfl, rfl, rfl, id, fun _ => by simp⟩ rfl (by simpa using hv)

theorem execVbatLoss_supplied (s : State) : Supplied s (after (execVbatLoss s) s) := by
  unfold execVbatLoss
  rw [after_next]
  dsimp only
  split
  · rename_i hm
    exact ⟨rfl, rfl, rfl, rfl, id, fun x => by simp only [hm, Bool.true_or] at x ⊢; exact x⟩
  · rename_i hm
    exact ⟨rfl, rfl, rfl, rfl, id, fun _ => by simpa [State.loseAon] using hm⟩

theorem execWake_supplied (byMain : Bool) (s : State) : Supplied s (after (execWake byMain s) s) := by
  unfold execWake
  rw [after_next]
  split
  · exact Supplied.refl s
  · split
    · exact supplied_of_fixed (t := { s with pins := { s.pins with mainSupply := true, aonSupply := true, resetN := false } })
        ⟨rfl, rfl, rfl, rfl, id, fun _ => rfl⟩ (State.powerOn_fixed _)
    · exact supplied_of_fixed (t := { s with pins := { s.pins with resetN := false } }) ⟨rfl, rfl, rfl, rfl, id, id⟩
        (State.wakeByPin_fixed _)

end Sys2Proof.Machine
end

