-- ==== Sys2Proof/Laws/Exec.lean ====
section
/-! SUPPORT. What one command leaves alone, whichever it is: the queue, the part, and all but nine commands leave pins, straps,
fuses and the boot flash. -/

namespace Sys2Proof.Machine

open Sys2Proof

/-- A command that goes on answers its `after`. -/
theorem after_of_next {o : Host.Outcome State Fault Refusal} {s t : State} (h : o = .next t) : after o s = t := by
  rw [h, after_next]

/-- Every command but the nine of `moves` leaves the queue, the part, fuses, pins, straps and flash alone. -/
theorem exec_fixed (c : Instr) (s : State) (h : moves c = false) : (after (exec c s) s).fixed = s.fixed := by
  cases c <;> first | (simp only [moves, Bool.true_eq_false] at h; done) | simp [exec]

/-- What a command that may change a fuse or the flash leaves, as a sound state sees it. -/
theorem inv_of_kept {s t : State} (h : Kept s t) (i : Inv s) : Inv t :=
  ⟨h.fuses.length.trans i.slots, h.antiroll i.antiroll, h.straps ▸ i.boot, h.pins ▸ i.supply, h.flash i.flash⟩

/-- What a supply or reset row leaves, as a sound state sees it. -/
theorem inv_of_supplied {s t : State} (h : Supplied s t) (i : Inv s) : Inv t :=
  ⟨h.fuses ▸ i.slots, h.fuses ▸ i.antiroll, h.boot i.boot, h.supply i.supply, h.flash ▸ i.flash⟩

end Sys2Proof.Machine
end

