-- ==== Sys2Proof/Laws/Mate.lean ====
section
/-! SUPPORT. When a mate-link frame is taken (R313, R357, R360): the unit is paired and serves, its cells are admitted, and its MIC
verifies. -/

namespace Sys2Proof.Machine

open Sys2Proof

/-- A frame of the mate link finds its cells where each length that one may have does. -/
theorem State.admitMate_ok {s : State} (hp : s.paired = true) (hv : s.serving = true)
    (hc : ∀ k < 37, (s.drawn.admitCells 43 0 k).isSome = true) : s.admitMate.2 = true := by
  have hk := hc (cellsFor (List.replicate (60 + Config.freeNat s.free % 9153) (0 : Byte)).length) (by simp [cellsFor]; omega)
  obtain ⟨x, hx⟩ := Option.isSome_iff_exists.mp hk
  unfold State.admitMate State.storeFrame
  simp only [hp, hv, hx, Bool.not_true, Bool.or_self, Bool.false_eq_true, if_false]

/-- A frame is taken just where it is admitted and its MIC is good. -/
theorem State.takeFrame_snd (s : State) (h : MateHdr) (auth : Bool) (ns : Nat) :
    (s.takeFrame h auth ns).2 = (s.admitMate.2 && s.micGood h.mic) := by
  unfold State.takeFrame
  dsimp only
  split
  · rename_i ha; simp_all
  · split <;> simp_all

/-- A frame whose MIC fails is only noted. -/
theorem State.takeFrame_bad {s : State} {h : MateHdr} (auth : Bool) (ns : Nat) (ha : s.admitMate.2 = true)
    (hm : s.micGood h.mic = false) : s.takeFrame h auth ns = (s.admitMate.1.noteMic false, false) := by
  unfold State.takeFrame
  simp [ha, hm]

/-- A frame that is not admitted leaves what the admission left. -/
theorem State.takeFrame_full {s : State} (h : MateHdr) (auth : Bool) (ns : Nat) (ha : s.admitMate.2 = false) :
    s.takeFrame h auth ns = (s.admitMate.1, false) := by
  unfold State.takeFrame
  simp [ha]

/-- A frame with a good MIC, taken where it finds its cells, and the state it leaves. -/
theorem State.takeFrame_ok {s : State} {h : MateHdr} {auth : Bool} {ns : Nat} (hp : s.paired = true) (hv : s.serving = true)
    (hm : s.micGood h.mic = true) (hc : ∀ k < 37, (s.drawn.admitCells 43 0 k).isSome = true) :
    s.takeFrame h auth ns = ((s.takeFrame h auth ns).1, true) :=
  Prod.ext rfl (by rw [s.takeFrame_snd, State.admitMate_ok hp hv hc, hm]; rfl)

/-! ### What a frame of the mate leaves alone -/

/-- What a unit keeps of its mate, without what the reception of a frame notes. -/
def Pair.apart (p : Pair) : Pair :=
  { p with micRun := 0, micSn := 0, frameSn := none, mism := [], prefSaid := false, known := 0, authHeard := [], seenAuth := false }

/-- The state without the registers, the Cistern, the recorder, what has left the device, and what the reception of a mate frame notes
of the mate. -/
def State.apart (s : State) : State :=
  { s with net := {}, regs := [], log := {}, out := [], free := 0, pai := s.pai.apart }

@[simp] theorem State.put_apart (s : State) (f : Fld) (v : Nat) : (s.put f v).apart = s.apart := (rfl)
@[simp] theorem State.setNum_apart (s : State) (a v : Nat) : (s.setNum a v).apart = s.apart := (rfl)
@[simp] theorem State.count_apart (s : State) (a n : Nat) : (s.count a n).apart = s.apart := (rfl)
@[simp] theorem State.record_apart (s : State) (c o p q r : Nat) : (s.record c o p q r).apart = s.apart := (rfl)
@[simp] theorem State.emit_apart (s : State) (o : Out) : (s.emit o).apart = s.apart := (rfl)
@[simp] theorem State.drawn_apart (s : State) : s.drawn.apart = s.apart := (rfl)
@[simp] theorem State.setNet_apart (s : State) (n : Net) : (s.setNet n).apart = s.apart := (rfl)

theorem State.setPai_apart (s : State) {p : Pair} (h : p.apart = s.pai.apart) : (s.setPai p).apart = s.apart := by
  unfold State.setPai State.apart
  rw [show ({ s with pai := p } : State).pai = p from rfl, h]

theorem ite_apart (c : Prop) [Decidable c] (a b : State) : (if c then a else b).apart = if c then a.apart else b.apart := by
  split <;> rfl

@[simp] theorem State.peak_apart (s : State) (a v : Nat) : (s.peak a v).apart = s.apart := by
  unfold State.peak; split <;> rfl

theorem foldl_apart {α : Type} (g : State → α → State) (l : List α) (h : ∀ s a, (g s a).apart = s.apart) (s : State) :
    (l.foldl g s).apart = s.apart := by
  induction l generalizing s with
  | nil => rfl
  | cons a l ih => rw [List.foldl_cons, ih, h]

@[simp] theorem State.takeCell_apart (s : State) (p : Nat) (k : CellCat) : (s.takeCell p k).apart = s.apart := by
  cases k <;> rfl

theorem State.admitCells_apart (p c n : Nat) : ∀ {s t : State}, s.admitCells p c n = some t → t.apart = s.apart := by
  induction n with
  | zero => intro s t h; cases h; rfl
  | succ n ih =>
    intro s t h
    rw [State.admitCells] at h
    split at h
    · rw [ih h, State.takeCell_apart]
    · cases h

@[simp] theorem State.showPool_apart (s : State) (p : Nat) : (s.showPool p).apart = s.apart := by
  unfold State.showPool
  simp only [State.put_apart, ite_apart, ite_self]

theorem State.storeFrame_apart {s t : State} {p c id : Nat} {b : List Byte} {v : Bool} {o : Option Nat}
    (h : s.storeFrame p c b v o = some (t, id)) : t.apart = s.apart := by
  unfold State.storeFrame at h
  split at h
  · cases h
  · rename_i u hu
    simp only [Option.some.injEq, Prod.mk.injEq] at h
    obtain ⟨rfl, -⟩ := h
    rw [State.showPool_apart, State.setNet_apart, State.admitCells_apart p c _ hu]

@[simp] theorem State.quarantine_apart (s : State) (c : Nat) : (s.quarantine c).apart = s.apart := by
  unfold State.quarantine
  simp only [State.record_apart, State.put_apart, State.setNet_apart, ite_apart, ite_self]

@[simp] theorem State.freeFrame_apart (s : State) (id : Nat) : (s.freeFrame id).apart = s.apart := by
  unfold State.freeFrame
  split
  · rfl
  · dsimp only
    rw [State.showPool_apart, foldl_apart _ _ (fun s c => s.quarantine_apart c)]
    unfold State.freeCells
    simp only [State.setNet_apart]

@[simp] theorem State.pausePort_apart (s : State) (p : Nat) : (s.pausePort p).apart = s.apart := by
  unfold State.pausePort State.sendXoff
  simp only [State.record_apart, State.emit_apart, State.put_apart, State.setNet_apart, ite_apart, ite_self]

theorem State.weighPause_apart (s : State) : (s.weighPause 43).apart = s.apart := s.pausePort_apart 43

@[simp] theorem State.admitDrop_apart (s : State) (p : Nat) : (s.admitDrop p).apart = s.apart := by
  unfold State.admitDrop
  simp only [State.record_apart, State.count_apart, State.setNet_apart, ite_apart, ite_self]

@[simp] theorem State.admitMate_apart (s : State) : s.admitMate.1.apart = s.apart := by
  unfold State.admitMate
  split
  · rfl
  · dsimp only
    split
    · rw [State.weighPause_apart, State.admitDrop_apart, State.drawn_apart]
    · rename_i t id ht
      rw [State.weighPause_apart, State.freeFrame_apart, State.weighPause_apart, State.storeFrame_apart ht, State.drawn_apart]

@[simp] theorem State.addMism_apart (s : State) (c : Nat) : (s.addMism c).apart = s.apart := by
  unfold State.addMism
  simp only [State.record_apart, State.put_apart, ite_apart, ite_self]
  split
  · rfl
  · exact State.setPai_apart _ rfl

@[simp] theorem State.dropMism_apart (s : State) (c : Nat) : (s.dropMism c).apart = s.apart := by
  unfold State.dropMism
  simp only [State.put_apart]
  exact State.setPai_apart _ rfl

@[simp] theorem State.noteMic_apart (s : State) (good : Bool) : (s.noteMic good).apart = s.apart := by
  unfold State.noteMic
  simp only [State.addMism_apart, State.dropMism_apart, ite_apart, ite_self]
  split
  · exact State.setPai_apart _ rfl
  · split
    · rfl
    · exact State.setPai_apart _ rfl

/-- An epoch seen in a frame that only a unit without authority sends, or seen by such a unit. -/
theorem State.seeEpoch_apart (s : State) (e : Nat) {auth : Bool} (ns : Nat) (h : auth = false ∨ s.authority = false) :
    (s.seeEpoch e auth ns).apart = s.apart := by
  have key : ∀ u : State, u.apart = s.apart → u.authority = s.authority →
      (if u.authority then (if auth && e == u.num PAI_EPOCH then u.pairFault 1 e ns else u) else u.peak PAI_EPOCH e).apart = s.apart := by
    intro u hu hr
    rw [hr]
    rcases h with h | h
    · subst h
      simp only [Bool.false_and, Bool.false_eq_true, if_false, ite_apart, State.peak_apart, ite_self, hu]
    · simp only [h, Bool.false_eq_true, if_false, State.peak_apart, hu]
  unfold State.seeEpoch
  exact key _ (State.setPai_apart s rfl) rfl

theorem State.authority_apart {s t : State} (h : s.apart = t.apart) : s.authority = t.authority := by
  have h : s.apart.role = t.apart.role := by rw [h]
  unfold State.authority
  rw [show s.role = t.role from h]

/-- A mate frame of a TYPE that the unit with authority does not send, or one that a unit without authority takes, changes only what
`apart` erases. -/
theorem State.takeFrame_apart (s : State) (h : MateHdr) {auth : Bool} (ns : Nat) (ha : auth = false ∨ s.authority = false) :
    (s.takeFrame h auth ns).1.apart = s.apart := by
  unfold State.takeFrame
  dsimp only
  split
  · exact s.admitMate_apart
  · split
    · rw [State.noteMic_apart, State.admitMate_apart]
    · dsimp only
      have key : ∀ u : State, u.apart = s.apart → (u.seeEpoch h.epoch auth ns).apart = s.apart := by
        intro u hu
        rw [State.seeEpoch_apart u h.epoch ns (ha.imp id fun x => by rw [State.authority_apart hu]; exact x), hu]
      apply key
      rw [ite_apart, State.addMism_apart, State.dropMism_apart, ite_self]
      exact (State.setPai_apart _ rfl).trans ((State.noteMic_apart _ _).trans s.admitMate_apart)

end Sys2Proof.Machine
end

