-- ==== Sys2Proof/WellFormed.lean ====
section
/-! DEFINITION. Well-formed commands: every field of a descriptor fits its width (R61), the bytes read lie in the buffer, and the
other operands stay in what the device can see. -/

namespace Sys2Proof

open Machine

/-- The fields of a descriptor fit their widths (R61). -/
def descWf (d : Desc) : Bool :=
  decide (d.ring < 64) && decide (d.index < 2 ^ 32) && decide (d.opcode < 2 ^ 16) && decide (d.flags < 2 ^ 8) && decide (d.tag < 2 ^ 32) &&
  decide (d.notBefore < 2 ^ 64) && decide (d.bufAddr < 2 ^ 64) && decide (d.bufLen < 2 ^ 32) && decide (d.od < 2 ^ 16) &&
  decide (d.rsv < 2 ^ 16) && decide (d.ops.length = 32) && decide (d.buf.length ≤ d.bufLen)

/-- The descriptor a ring command carries. -/
def Instr.desc : Instr → Option Desc
  | .sysFlash d _ => some d
  | .sysFuse d _ => some d
  | .nop d => some d
  | .echo d => some d
  | .postBuffer d => some d
  | .fltRobotEnrol d => some d
  | .fltRobotSlots d => some d
  | .fltRobotRetire d => some d
  | .fltRobotQuery d => some d
  | .bslRoverCfg d => some d
  | .bslRoverQuery d => some d
  | .bslSetRead d => some d
  | .bslStationInfo d => some d
  | .altRoadmapLoad d => some d
  | .altClaim d => some d
  | .altRelease d => some d
  | .altResourceState d => some d
  | .altRobotQuery d => some d
  | .altResourceQuery d => some d
  | .stpStop d => some d
  | .stpClear d => some d
  | .stpQuery d => some d
  | .mshClusterSet d => some d
  | .mshNodeAdd d => some d
  | .mshNodeRemove d => some d
  | .mshNodeRead d => some d
  | .mshNbrRead d => some d
  | .mshRekey d => some d
  | .mshRepair d => some d
  | .mshActuate d => some d
  | .updImageLoad d => some d
  | .updImageDrop d => some d
  | .updCampaignStart d => some d
  | .updCampaignStop d => some d
  | .updQuery d => some d
  | .frameSend d => some d
  | .fwdMacAdd d => some d
  | .fwdMacDel d => some d
  | .fwdMacFlush d => some d
  | .fwdMacRead d => some d
  | .fwdVlanSet d => some d
  | .fwdRouteAdd d => some d
  | .fwdRouteDel d => some d
  | .fwdGateLoad d => some d
  | .fwdParityRead d => some d
  | .paiQuery d => some d
  | .paiHandover d => some d
  | .paiDetach d => some d
  | .paiPrime d => some d
  | .paiAssume d => some d
  | .keyPubRead d => some d
  | .keySiteImport d => some d
  | .keyRoll d => some d
  | .keyInvalidate d => some d
  | .keySiteRetire d => some d
  | .keyExport d => some d
  | .keyAttest d => some d
  | .keyQuery d => some d
  | .keyTampClear d => some d
  | .wlgRequest d => some d
  | .motSegLoad d => some d
  | .motProfile d => some d
  | .motMove d => some d
  | .motRetune d => some d
  | .motHome d => some d
  | .motStop d => some d
  | .motEnable d => some d
  | .motSetPos d => some d
  | .motQuery d => some d
  | .lopMode d => some d
  | .lopSetpoint d => some d
  | .lopTune d => some d
  | .lopQuery d => some d
  | .lopTraceArm d => some d
  | .lopTraceRead d => some d
  | .recRead d => some d
  | .recRelease d => some d
  | .recFreeze d => some d
  | .recThaw d => some d
  | _ => none

/-- A well-formed command. -/
def Instr.wf (i : Instr) : Bool :=
  (match i.desc with | some d => descWf d | none => true) &&
  match i with
  | .registerWrite addr _ ns => decide (addr < 2 ^ 24) && decide (ns < 250020)
  | .rcRegisterRead addr r => decide (addr < 2 ^ 24) && r.all fun r => r.stored.fits r.m
  | .snReadLatch ns => decide (ns < 250020)
  | .resetRelease b _ _ _ => decide (b < 4)
  | .stampPoint b => decide (b < 8)
  | .descriptorFetch ring raw => decide (ring < 64) && raw.all fun x => x.1.length == 64
  | .jobCommit _ ns how => decide (ns < 250020) && (match how with | .read r => r.stored.fits r.m | _ => true)
  | .scrubRead m _ stored _ _ => stored.fits m
  | .anchored _ i _ _ _ => decide (i < 4000)
  | _ => true

end Sys2Proof
end

