-- ==== Sys2Proof/Tests/Slice0.lean ====
section
/-! SUPPORT. Small tests: what well-formedness refuses, and for every clause of the statements a concrete state and operands that meet
its hypotheses together. -/

namespace Sys2Proof.Tests

open Sys2Proof Sys2Proof.Machine

set_option Elab.async false

/-! ### Helper states -/

/-- An engaged device in OPERATE with some registers set. -/
def tLive (regs : Tab Word) : State := { State.reset with dev := .operate, stroked := true, sn := 100, regs := regs }

/-- A device in SETUP with some registers set and some blocks fused off. -/
def tSetup (regs : Tab Word) (off : List Nat) : State := { State.reset with dev := .setup, regs := regs, fuses := { fusedOff := off } }

/-- A device without any supply. -/
def tOff : State := { State.reset with pins := { mainSupply := false, aonSupply := false, vbat := false } }

/-- A descriptor of ring `r` with operand bytes from byte 32 on. -/
def tDesc (r op : Nat) (ops : List Byte) : Desc :=
  { ring := r, index := 0, opcode := op, flags := 0, tag := 7, notBefore := 0, bufAddr := 0, bufLen := 0, od := 0, rsv := 0,
    ops := ops ++ List.replicate (32 - ops.length) 0, buf := [] }

/-- The conditions of `Runs`, as a Bool. -/
def runsB (s : State) (d : Desc) : Bool :=
  s.serving && !d.shadow && !d.forwarded && !d.orphan && !s.isOver d && s.earlyEnd d == none && !s.mustForward d && !s.keyWaits d &&
  !s.notYet d

theorem runs_of {s : State} {d : Desc} (h : runsB s d = true) : Runs s d := by
  simp only [runsB, Bool.and_eq_true, Bool.not_eq_true', beq_iff_eq] at h
  obtain ⟨⟨⟨⟨⟨⟨⟨⟨h1, h2⟩, h3⟩, h4⟩, h5⟩, h6⟩, h7⟩, h8⟩, h9⟩ := h
  exact ⟨h1, h2, h3, h4, h5, h6, h7, h8, h9⟩

theorem reset_inv : Inv State.reset := ⟨rfl, by decide, by decide, rfl, rfl⟩

/-! ### What well-formedness refuses (R61) -/

def tGood : Desc := tDesc 0 0 []

theorem test_wf_good : (Instr.nop tGood).wf = true := by decide
theorem test_wf_ring : (Instr.nop { tGood with ring := 64 }).wf = false := by decide
theorem test_wf_index : (Instr.nop { tGood with index := 2 ^ 32 }).wf = false := by decide
theorem test_wf_opcode : (Instr.nop { tGood with opcode := 2 ^ 16 }).wf = false := by decide
theorem test_wf_flags : (Instr.nop { tGood with flags := 2 ^ 8 }).wf = false := by decide
theorem test_wf_tag : (Instr.nop { tGood with tag := 2 ^ 32 }).wf = false := by decide
theorem test_wf_notBefore : (Instr.nop { tGood with notBefore := 2 ^ 64 }).wf = false := by decide
theorem test_wf_bufAddr : (Instr.nop { tGood with bufAddr := 2 ^ 64 }).wf = false := by decide
theorem test_wf_bufLen : (Instr.nop { tGood with bufLen := 2 ^ 32 }).wf = false := by decide
theorem test_wf_od : (Instr.nop { tGood with od := 2 ^ 16 }).wf = false := by decide
theorem test_wf_rsv : (Instr.nop { tGood with rsv := 2 ^ 16 }).wf = false := by decide
theorem test_wf_ops : (Instr.nop { tGood with ops := [] }).wf = false := by decide
theorem test_wf_buf : (Instr.nop { tGood with buf := [0] }).wf = false := by decide
theorem test_wf_write_addr : (Instr.registerWrite (2 ^ 24) 0 0).wf = false := by decide
theorem test_wf_write_ns : (Instr.registerWrite 0 0 250020).wf = false := by decide
theorem test_wf_read_addr : (Instr.rcRegisterRead (2 ^ 24) none).wf = false := by decide
theorem test_wf_read_stored : (Instr.rcRegisterRead 0 (some ⟨3, 0, .byte 0 0, .other⟩)).wf = false := by decide
theorem test_wf_latch_ns : (Instr.snReadLatch 250020).wf = false := by decide
theorem test_wf_straps : (Instr.resetRelease 4 false false false).wf = false := by decide
theorem test_wf_stampPoint : (Instr.stampPoint 8).wf = false := by decide
theorem test_wf_fetch_ring : (Instr.descriptorFetch 64 []).wf = false := by decide
theorem test_wf_fetch_desc : (Instr.descriptorFetch 0 [([0], [])]).wf = false := by decide
theorem test_wf_commit_ns : (Instr.jobCommit 0 250020 .finished).wf = false := by decide
theorem test_wf_commit_read : (Instr.jobCommit 0 0 (.read ⟨3, 0, .byte 0 0, .other⟩)).wf = false := by decide
theorem test_wf_scrub : (Instr.scrubRead 2 0 (.entry true) .other false).wf = false := by decide
theorem test_wf_anchored : (Instr.anchored 0 4000 [] [] []).wf = false := by decide

/-! ### The worked example of track allotment (R217, R218): HEADWAY 400, junction 12 with CLEAR 20; offsets from B -/

def tSeg (f t : Nat) : Seg := ⟨f, t, 0xFFFF, 900, 400, 0, false, []⟩

/-- Segments 100 (11 to 12), 101 (12 to 13), 102 (14 to 12). -/
def tMap : Roadmap :=
  ⟨1, 0, [], List.replicate 12 0 ++ [20, 0, 0], List.replicate 100 (tSeg 0 0) ++ [tSeg 11 12, tSeg 12 13, tSeg 14 12]⟩

/-- Robot 5. -/
def tFive : List Item := [⟨0, 100, 0, 1000, 2600, false, false, 0⟩, ⟨1, 101, 0, 2400, 4000, false, false, 0⟩]

/-- Robot 9, as granted. -/
def tNine : List Item := [⟨0, 100, 0, 1400, 3000, false, false, 0⟩, ⟨1, 101, 0, 2800, 4400, false, false, 0⟩]

/-- Robot 5 holds junction 12 for [2,380, 2,620). -/
theorem test_junction_window :
    (tMap.reservations 5 tFive).any (fun r => r.kind == 2 && r.id == 12 && r.en == 2380 && r.ex == 2620) = true := by decide +kernel

/-- Robot 9's first claim is refused: HEADWAY, INDEX 0, segment 100, OTHER 5. -/
theorem test_headway :
    tMap.itemConflict (tMap.reservations 5 tFive) [⟨0, 100, 0, 1300, 2800, false, false, 0⟩, ⟨1, 101, 0, 2700, 4300, false, false, 0⟩] 0 0 =
      some ⟨8, 0, 1, 100, 5⟩ := by decide +kernel

/-- Its second claim meets no conflict. -/
theorem test_follows :
    tMap.itemConflict (tMap.reservations 5 tFive) tNine 0 0 = none ∧ tMap.itemConflict (tMap.reservations 5 tFive) tNine 1 1 = none := by
  decide +kernel

/-- Robot 12 against both: SEG_OVERLAP, OTHER 9. -/
theorem test_overlap :
    tMap.itemConflict (tMap.reservations 5 tFive ++ tMap.reservations 9 tNine) [⟨0, 100, 1, 2900, 3700, false, false, 0⟩] 0 0 =
      some ⟨7, 0, 1, 100, 9⟩ := by decide +kernel

/-- Robot 12's second claim is granted. -/
theorem test_third_claim :
    tMap.itemConflict (tMap.reservations 5 tFive ++ tMap.reservations 9 tNine)
      [⟨0, 102, 0, 3300, 3700, false, false, 0⟩, ⟨1, 100, 1, 3600, 4400, false, false, 0⟩] 1 1 = none := by decide +kernel

/-! ### Single steps and helpers against the spec's listings -/

/-- The first bits of the GLR preamble, worked by hand from the listing of R140: r starts at 0x3f and the first output is 1 xor 1. -/
theorem test_glr_preamble : glrPreamble.take 9 = [0, 0, 0, 0, 0, 1, 0, 0, 0] ∧ glrPreamble.length = 64 := by decide

/-- The worked lengths of R142: 64 bytes in GLR mode 3, 1 and 127 bytes in GLR mode 0. -/
theorem test_glr_lengths :
    codedBits 512 1 2 = 1160 ∧ glrSymbols 3 64 = 740 ∧ codedBits 8 1 2 = 332 ∧ glrSymbols 0 1 = 460 ∧ glrSymbols 0 127 = 3248 := by decide

/-- A table word spells no command: no row of the table gives bits. -/
theorem test_decode_none (n w : Nat) : decodeTableWord n w = none := rfl

/-- After reset the queue is empty and a step idles. -/
theorem test_idle : step State.reset = .next State.reset := by rfl

/-- A fused-off block's submissions end ABSENT (R54): the instrument rings of the smaller part (R3). -/
theorem test_absent_well :
    ({ tLive [] with part := .cx7720 } : State).earlyEnd (tDesc 48 0xC001 []) = some 0x09 := by decide +kernel

/-- The half-bridge inputs of a phase (R433). -/
theorem test_phase_inputs :
    PhaseDrive.inputs .forward = (true, false) ∧ PhaseDrive.inputs .reverse = (false, true) ∧ PhaseDrive.inputs .slow = (false, false) := by
  decide

/-- A move of 257 microsteps in a sub-tick is an overspeed, one of 256 is not (R437). -/
theorem test_overspeed_bound : (decide (256 * 65536 < absI (257 * 65536)) && !decide (256 * 65536 < absI (256 * 65536))) = true := by decide

/-! ### For every clause of the statements, a state and operands that meet its hypotheses -/

/-- SYS_STATUS of an engaged device. -/
def tRingRegs : Tab Word := [(SYS_STATUS, 0x40)]

theorem tRing_sound : State.ringsRefuse { tLive tRingRegs with rings := { unlocked := true } } = none := by
  decide +kernel

/-- ANCHORING on a valid TB0. -/
def tAnchoring : State := { State.reset with dev := .anchoring, regs := [(TIM_STATUS, 0xFFFFFFFF)] }

/-- A job of ring 0, index 0, of stroke 99. -/
def tJob (p : JobPhase) : Job := { id := 5, src := .ring 0 0, desc := some (tDesc 0 0 []), cls := 0, prio := 0, repl := false, sn := 99, phase := p }

/-- A device with one job in its dispatcher. -/
def tWith (j : Job) : State := { tLive [] with disp := { jobs := [j] } }

/-- Two replicated jobs, the first with the lower key. -/
def tWithTwo : State :=
  { tLive [] with disp := { jobs := [{ tJob .ready with id := 4, repl := true, seq := 1 }, { tJob .running with repl := true, seq := 2 }] } }

/-- Ring 0 with a descriptor in it, its completion ring enabled. -/
def tFetch : State :=
  { tLive [(RNG_DB_PAGE_LO, 0x1000), (RNG_ST_PAGE_LO, 0x2000), (RNG_SQ_CFG 0, 0x40001), (RNG_CQ_CFG 0, 0x40001)] with
    rings := { sq := List.replicate 64 { prod := 1 } } }

/-- A solution job of epoch 200, due at stroke 90. -/
def tSolve : Solve := ⟨200, 50, 90, [], 0, []⟩

/-- A Sync measurement whose offset is `o`, and a slave port 0 that holds it. -/
def tSync (o : Int) : SyncMeas := ⟨0, 0, 0, -o * 65536, 0⟩

def tSlave (o : Int) (t : Timing) : State :=
  { tLive [(TIM_TB1_CFG, 0xFFFFFFFD), (TIM_PORT_PTP 0, 0xFFFFFFFF), (TIM_TB1_STEP_NS, 100)] with tim := { t with ptp := { meas := [tSync o] } } }

/-- A queue entry that may leave at once on TB1. -/
def tQEntry : QEntry := { frame := 0, size := 64, cls := 0, launch := some 25000000, bytes := [] }

/-- It stands at the head of queue 0 of port 0, which is busy. -/
def tQueued : State := { tLive [(TIM_PORT_PTP 0, 0x40)] with net := { egress := [(0, { queues := [[tQEntry]], busy := some tQEntry })] } }

/-- One whose launch time lies far ahead. -/
def tQueuedFar : State := { tLive [] with net := { egress := [(0, { queues := [[{ tQEntry with launch := some (10 ^ 30) }]] })] } }

/-- A gate list with two entries. -/
def tGateList : GateList := ⟨0, 1000, [(0xFF, 500), (0, 500)]⟩

def tMeas : Meas := ⟨0, 7, 0, 450, 0, 0, 0, false⟩

/-- A base measurement set of epoch 200 with its base fixed. -/
def tSet : BaseSet := ⟨200, 1, 0, (0, 0, 0), 0, [⟨tMeas, 0, 10⟩]⟩

def tRoverSol : RoverSol := ⟨8, (0, 0, 0), ⟨1, -14⟩, ⟨0, 0⟩, ⟨1, -14⟩, ⟨1, -12⟩, ⟨20, 0⟩, 20, 100, 7, [], 7, [48], [], 10⟩

def tSolution : Solution := ⟨[], 0, 0, (0, 0, 0)⟩

/-- Epoch 200 after its checks. -/
def tChecked : Checked := ⟨200, false, true, none, 0, (0, 0, 0), 0, 4, true, [⟨tMeas, 0, 10⟩]⟩

/-- The state with a block-periodic job of its stroke, ready. -/
def tWork (cap inst : Nat) (s : State) : State :=
  { s with disp := { jobs := [periodicJob s.sn 0 cap inst (workCls cap) true false] } }

/-- The intake job of a frame on a fabric port, in its dispatcher. -/
def tIntakeJob (p cls : Nat) : Job := { id := 5, src := .intake p 0, cls := cls, prio := 0, sn := 100, phase := .ready }

def tIntake (p cls : Nat) (s : State) : State := { s with disp := { jobs := [{ tIntakeJob p cls with sn := s.sn }] } }

/-- The job of a fleet element. -/
def tElemJob (e : FleetIn) : Job :=
  { id := 5, src := .element e.typ e.robot e.arrival e.seq, cls := 2, prio := 1, sn := 100, phase := .ready }

/-- A CLAIM element of robot 9, and a committed fix of it, each with its job. -/
def tClaim : FleetIn := ⟨0x21, 9, 90, 1, []⟩

def tClaimed : State := { tLive [(ALT_CFG, 0xFFFFFFFF)] with flt := { inbox := [tClaim] }, disp := { jobs := [tElemJob tClaim] } }

def tOwnFix : State :=
  { tLive [(ALT_CFG, 0xFFFFFFFF)] with
    flt := { inbox := [{ tClaim with typ := 0x22 }] }, disp := { jobs := [tElemJob { tClaim with typ := 0x22 }] } }

def tFixElem : FleetIn := ⟨0x06, 9, 90, 1, []⟩

def tFixed : State := { tLive [(ALT_CFG, 0xFFFFFFFF)] with bsl := { fixes := [⟨90, 9, []⟩] }, disp := { jobs := [tElemJob tFixElem] } }

/-- A correction epoch taken to be encoded. -/
def tEncU : State :=
  tWork 0x0C 0 { tLive [] with bsl := { toEncode := none, sets := [{ tSet with epochSn := 4000, flags := 1 }] } }

/-- Port 1 is jammed: its AGC has risen from 0 and C/N0 has fallen from 200 to 100. -/
def tJam : State :=
  { tLive [(GNS_PORT_STAT 1, 0x0003FF00)] with gns := { agcHist := [(1, List.replicate 4001 0)], cn0Hist := [(1, 100 :: List.replicate 20 200)] } }

/-- A RAWOBS element of robot 9. -/
def tRawobs : FleetIn := ⟨0x20, 9, 90, 1, []⟩

/-- A robot in central mode, number 3. -/
def tCentral : State := { tLive [] with flt := { robots := [(3, { home := 0, central := true, crew := 0, dlMcs := 0 })] } }

/-- A RAWOBS element of robot 3 for epoch 200, with one observation. -/
def tObs : FleetIn := ⟨0x20, 3, 250, 1, leBytes 8 200 ++ [1, 0, 0, 0, 5, 0] ++ List.replicate 9 0⟩

def tObsIn : State := { tCentral with regs := [(BSL_CFG, 0xFFFFFFFF)], flt := { tCentral.flt with inbox := [tObs] } }

/-- RF port 0 on, receive channel 0 in a narrowband mode. -/
def tRadio : State := tLive [(RAD_PORT_CFG 0, 0xFFFFFFFF), (RAD_PORT_STAT 0, 0xFFFFFFFF), (RAD_RX_CFG 0 0, 0x101)]

/-- A fleet frame received on port 0, channel 0. -/
def tRx : RxFrame := ⟨0, 0, 0x40, 0, 90, 0, 0, 0, 0, 0, [1, 2, 3], none, none⟩

/-- A fleet channel on port 0, channel 0. -/
def tFleet : State := tLive [(FLT_CFG, 0xFFFFFFFF), (FLT_CHAN 0, 1)]

/-- Its lane, on which the frame ends. -/
def tLaned : State := { tFleet with rad := { lanes := [⟨1, 0, 0, 0, true⟩] } }

def tLaneFreed : State :=
  (tLaned.setRad { tLaned.rad with lanes := tLaned.rad.lanes.filter fun l => !(l.port == tRx.port && l.ch == tRx.ch) }).showLanes

/-- The frame waits for its MAC. -/
def tRxed : State := { tFleet with rad := { rx := [tRx] } }

def tTx : Tx := { id := 4, owner := .beacon 0 0, port := 0, ch := 0, sn := 101, ns := 0, len := 100, mcs := 0, bytes := [9] }

/-- Port 0 and its transmit channel 0 are on. -/
def tTxPort (l : List Tx) : State :=
  { tLive [(RAD_TX_CFG 0 0, 1), (RAD_PORT_CFG 0, 0xFFFFFFFF), (RAD_PORT_LAT 0, 0), (RAD_RAMP_CFG 0, 0)] with rad := { tx := l } }

/-- A robot with one slot, not heard for a superframe. -/
def tSilent : Robot := { home := 0, central := true, crew := 0, dlMcs := 0, specs := [⟨4, 1, 0, 0⟩] }

/-- A roadmap of one segment, 112 bytes with its CRC-32C. -/
def tRoadBody : List Byte :=
  leBytes 2 0xFFFF ++ leBytes 2 0xFFFF ++ leBytes 2 0xFFFF ++ leBytes 2 1000 ++ leBytes 2 0 ++ leBytes 1 2 ++ leBytes 1 0 ++ leBytes 4 0 ++
  leBytes 4 0 ++ leBytes 4 0 ++ leBytes 4 10000 ++ leBytes 4 0 ++ List.replicate 48 0

def tRoadBuf : List Byte :=
  leBytes 2 1 ++ leBytes 2 0 ++ leBytes 4 1 ++ leBytes 4 0 ++ leBytes 4 0 ++ leBytes 4 7 ++ leBytes 4 (crc32c tRoadBody) ++ leBytes 8 0 ++
  tRoadBody

def tRoadLoad : Desc := { tDesc 32 0x8001 [] with bufLen := 112, buf := tRoadBuf }

def tRoad : Roadmap := readRoadmap tRoadBuf

/-- An ALL frame of stroke 100 on fleet channel 0. -/
def tCut : CutFrame := ⟨0, 100, none, (tLive []).stopFrame 0 100 none⟩

/-- Site slot A loaded, exports enabled. -/
def tSite : State :=
  { tLive [(KEY_CFG, 0xFFFFFFFF)] with
    key := { store := { cells := [(4, ⟨[], []⟩)] }, scheduled := true, fleet := firstBranch 0, stop := firstBranch 0, log := firstBranch 0 } }

/-- A bundle whose public point is the base point of P-256. -/
def tImport : Desc :=
  { tDesc 56 0xE002 [] with
    bufLen := 112
    buf := leBytes 2 1 ++ leBytes 6 0 ++
      (leBytes 32 0x6B17D1F2E12C4247F8BCE6E563A440F277037D812DEB33A0F4A13945D898C296).reverse ++
      (leBytes 32 0x4FE342E2FE1A7F9B8EE7EB4A7C0F9E162BCE33576B315ECECBB6406837BF51F5).reverse ++ List.replicate 40 0 }


/-- A mesh cluster. -/
def tCluster : Cluster := { enabled := true, seq := 0, pan := 0, keyGen := 1, keySlot := 0 }

/-- A joined node of depth 1 with its uplink cell at offset 8. -/
def tNode : Node :=
  { eui := 2 ^ 57, st := 2, legacy := false, sleepy := false, cluster := 0, depth := 1, upCells := 1, keyGen := 1, upOfs := 8, pathExpiry := 1000 }

/-- Its neighbour entry. -/
def tNbr : Nbr :=
  { node := 5, eui := 2 ^ 57, chan := 0, legacy := false, sleepy := false, rxValid := false, dsnValid := false, rxCtr := 0, txCtr := 0,
    lastDsn := 0, txDsn := 0, keyGen := 1 }

/-- The mesh runs on channel 0 with one cluster and one node; ASN 8 begins. -/
def tMesh : State :=
  { tLive [(MSH_CFG, 0x31), (MSH_CHAN 0, 1)] with
    sn := 320, key := tSite.key, msh := { clusters := [(0, tCluster)], nodes := [(5, tNode)], nbrs := [(0, tNbr)] } }

def tMeshQ : MeshQ := { id := 3, hop := 5, dst := 5, path := [5], body := .empty, queuedSn := 80 }

def tMeshIn : MeshIn := ⟨2 ^ 57, 2 ^ 57, 0xFFFF, 1, 5, 1, false, true, 0, .dis⟩

/-- A frame on mesh channel 0 at its nominal instant in ASN 8. -/
def tMeshFrame : RxFrame := ⟨0, 0, 0, 0, 320, 2120000, 0, 0, 0, 0, [], some 0, none⟩

def tMeshCell : MeshCell := ⟨0, 0, 0, 8, 1, .up 5, false⟩

def tMeshHears : State := { tMesh with rad := { rx := [tMeshFrame] }, msh := { tMesh.msh with cells := [tMeshCell] } }

/-- Its intake job, and the state after a frame is taken. -/
def tMeshJob : Job := { tIntakeJob 24 4 with sn := 320 }

def tTaken (s : State) (f : RxFrame) : State := { s.takeIntake f with sn := 320 }

/-- The frame where no cell runs, far from its nominal instant, and not admitted. -/
def tMeshRx : State := { tMesh with rad := { rx := [tMeshFrame] } }

def tMeshLate : State := { tMeshHears with rad := { rx := [{ tMeshFrame with ns := 9000000 }] } }

def tMeshFull : State := { tMeshHears with rad := { rx := [{ tMeshFrame with cell := none }] } }

/-- One cell runs; the device has sent in it. -/
def tMeshOne (c : MeshCell) : State := { tMesh with msh := { tMesh.msh with cells := [c] } }

def tMeshSent (c : MeshCell) : State := tMeshOne { c with sent := true }

/-- A frame waits for its acknowledgement. -/
def tMeshWaits (n : Nat) : State :=
  { tMesh with msh := { tMesh.msh with queue := [{ tMeshQ with waiting := true, attempts := n }] } }

/-- The node speaks on a legacy channel. -/
def tLegacy : State :=
  { tMesh with regs := [(MSH_CFG, 0x31), (MSH_CHAN 0, 3)], rad := { rx := [tMeshFrame] }, msh := { tMesh.msh with nbrs := [(0, { tNbr with legacy := true })] } }

def tLegacyFull : State := { tLegacy with rad := { rx := [{ tMeshFrame with cell := none }] } }

def tLegacyQ : State := { tLegacy with msh := { tLegacy.msh with queue := [tMeshQ] } }

/-- Its cluster renews its key. -/
def tMeshRenewing : State := { tMesh with msh := { tMesh.msh with clusters := [(0, { tCluster with keyNext := some (2, 0, 900) })] } }

def tPacket : List Byte := List.replicate 40 0

/-- A frame waits for its downlink cell. -/
def tMeshDown (sent : Bool) : State :=
  { tMesh with
    regs := [(RAD_TX_CFG 0 0, 0x100), (MSH_CFG, 0x31), (MSH_CHAN 0, 1)]
    msh := { tMesh.msh with queue := [tMeshQ], cells := [{ tMeshCell with use := .down 5, sent := sent }] } }

/-- An image of one block of 16 bytes with a zero hash. -/
def tImageHead : List Byte :=
  ascii "GWUP" ++ leBytes 2 1 ++ leBytes 2 7 ++ leBytes 4 0 ++ leBytes 4 1 ++ leBytes 4 16 ++ leBytes 2 16 ++ leBytes 2 0 ++ leBytes 4 1 ++
  List.replicate 116 0

def tImage : Image := ⟨7, 0, 1, 16, 1, [], []⟩

/-- A campaign on it, its cluster in the report gap. -/
def tCampaign : Campaign :=
  { id := 9, image := 7, maxRounds := 3, factor := 24, minimum := 0, clusters := [{ cluster := 0, left := 0, gap := some 3 }], targets := [5] }

def tUpdates (runs : Bool) : State :=
  { tMesh with msh := { tMesh.msh with images := [tImage], campaigns := if runs then [tCampaign] else [] } }

/-- A stored frame that passed its checks, and one of the host. -/
def tFrame : Frame := { id := 0, ingress := 0, cls := 0, bytes := [], cells := [0], guar := 1, shared := 0, hdrm := 0, arrSn := 100, verified := true, check := crc32c [] }

def tHostFrame : Frame := { tFrame with ingress := 40, bytes := List.replicate 60 0 }

/-- Port 0 is enabled with its link up and cells of its own, and port 40 has cells. -/
def tEth : State := tLive [(CIS_MIN 0, 4), (CIS_MIN 40, 4), (PRT_LINK, 1), (PRT_CFG 0, 0x05F20001)]

/-- It may not store anything. -/
def tEthFull : State := tLive [(CIS_MIN 0, 0), (CIS_SHARED, 0), (PRT_LINK, 1), (PRT_CFG 0, 0x05F20001)]

/-- A good untagged frame of 64 bytes on port 0. -/
def tEthIn : EthIn := ⟨0, List.replicate 60 0, true, 1, false, false, 0, []⟩

/-- It is stored and counted. -/
def tEthStored : State × Nat := ((tEth.setFill 0 1).storeRx tEthIn).getD (tEth, 0)

def tEthW : State :=
  let u := tEthStored.1.count (PRT_RX_FRAMES 0) 1
  (u.modFrame tEthStored.2 fun f => { f with stamps := u.stampsOf tEthIn }).parityFails []

theorem some_getD {α : Type} (o : Option α) (d : α) (h : o.isSome = true) : o = some (o.getD d) := by
  cases o with
  | none => simp at h
  | some x => rfl

theorem some_pair {α β : Type} (o : Option (α × β)) (d : α × β) (h : o.isSome = true) : o = some ((o.getD d).1, (o.getD d).2) :=
  some_getD o d h

theorem pair_eta {α β : Type} (p : α × β) : p = (p.1, p.2) := rfl

theorem pair_snd {α β : Type} {b : β} (p : α × β) (h : p.2 = b) : p = (p.1, b) := by
  rw [← h]

theorem tEth_stored : (tEth.setFill tEthIn.port tEthIn.fill).storeRx tEthIn = some (tEthStored.1, tEthStored.2) :=
  some_pair _ (tEth, 0) (by decide +kernel)

/-- A frame waits in queue 0 of port 0. -/
def tEgress : State :=
  { tEth with net := { egress := [(0, { queues := [{ tQEntry with launch := none }] :: List.replicate 7 [] })] } }

/-- A host frame is stored. -/
def tSent : State := (((tEgress.storeFrame 40 0 (List.replicate 60 0) true none).getD (tEgress, 0)).1).modFrame 0 fun f => { f with vlan := 0 }

/-- The stored frame is on the wire of port 0. -/
def tOnWire : State := { tLive [] with net := { frames := [tFrame], egress := [(0, { busy := some tQEntry })] } }

/-- A packet between passes of the prefix match. -/
def tRecirc : State :=
  { tLive [(FWD_CFG, 0xFFFFFFFF)] with net := { frames := [tFrame], recirc := [⟨0, [64, 60, 56, 52, 48, 44], 1, none, none⟩] } }

/-- An L2 entry of port 3 in its first home. -/
def tMac : List Byte := macKey 1 [2, 0, 0, 0, 0, 5]

def tMacOps : List Byte := [2, 0, 0, 0, 0, 5, 1, 0]

def tL2 : L2 := { key := tMac, port := 3, static := false }

def tTables : State := { tLive [] with net := { l2 := [(slotOf l2Slots 0 tMac, tL2)] } }

/-- A route of 64 bits. -/
def tRoutes : State :=
  { tLive [] with
    net := { routes := [(slotOf routeSlots 0 (routeKey 64 (List.replicate 16 0)), ⟨routeKey 64 (List.replicate 16 0), 1, 0, 0, []⟩)] } }

/-- A gate list of one entry. -/
def tGateBuf : List Byte :=
  List.replicate 12 0 ++ leBytes 4 1000 ++ leBytes 8 9 ++ leBytes 4 0 ++ leBytes 4 1 ++ leBytes 4 255 ++ leBytes 4 1000

/-- A paired unit in a role, and the header of a frame of its mate for stroke 99. -/
def tPair (r : Role) : State := { tLive [(PAI_CFG, 1)] with role := r, key := tSite.key }

/-- A frame of its mate is taken. -/
theorem take_pair {s : State} {h : MateHdr} {a : Bool} {ns : Nat} (hp : s.paired = true) (hv : s.serving = true) (hm : s.micGood h.mic = true)
    (hc : ∀ k < 37, (s.drawn.admitCells 43 0 k).isSome = true) : s.takeFrame h a ns = ((s.takeFrame h a ns).1, true) :=
  State.takeFrame_ok hp hv hm hc

theorem admit_pair {s : State} (hp : s.paired = true) (hv : s.serving = true)
    (hc : ∀ k < 37, (s.drawn.admitCells 43 0 k).isSome = true) : s.admitMate = (s.admitMate.1, true) :=
  Prod.ext rfl (State.admitMate_ok hp hv hc)

theorem rings_take {s : State} {h : MateHdr} {a : Bool} {ns : Nat} (ha : s.authority = false) :
    (s.takeFrame h a ns).1.rings = s.rings := by
  have e := s.takeFrame_apart h (auth := a) ns (.inr ha)
  have k : (s.takeFrame h a ns).1.apart.rings = s.apart.rings := by rw [e]
  exact k

def tMateHdr : MateHdr := { unit := 1, frag := 0, epoch := 0, sn := 99 }

def tLogEnd : LogEnd := ⟨0, 0, [], [], [], none, false, 0, 0⟩

/-- A descriptor forwarded to the mate. -/
def tForwarded : Forwarded := { id := 4, desc := tDesc 32 0x8003 [1], sentSn := 98 }

def tForwards : State := { tPair .standby with rings := { forwarded := [tForwarded] } }

/-- Both links are good. -/
def tLinked : State := { tPair .primary with regs := [(PAI_CFG, 1), (PAI_STATUS, 0xFFFFFFFF)] }

/-- A unit asks for priming. -/
def tPriming : State :=
  { tLinked with role := .notStanding, pai := { primeSn := some 90 } }

def tSnap : Snapshot :=
  ⟨99, {}, {}, {}, {}, false, 0, [], [], [], [], firstBranch 0, firstBranch 0, firstBranch 0, [], [], []⟩

/-- Its mate is primary. -/
def tMatePrimary : State :=
  { tPriming with pai := { token := some { readToken [] with role := 1 }, tokSn := 99, tokLast := [true, true, true, true] } }

/-- A request of a code, its readings, and a Wellhouse whose instrument 0 is of a kind. -/
def tReq (code : Nat) (body : List Byte) : WhReq := ⟨code, 4, 7, 0, [0, 0, 0, 0, 0, 0, 0, 0], body⟩

def tLoad (w : Int) : WlIn := ⟨[w], [2000000], 0⟩

def tWell (kind : Nat) (reqs : List WhReq) (i : Instrument) : State :=
  { tLive [] with
    wel :=
      { up := true, die := 1, reqs := reqs, instr := [i, {}, {}, {}], ms := 5000
        params := [(0, kind), (1, 1), (4, 1), (5, 1000), (8, 0x3F800000), (9, 0x3F800000), (0x12, 0x10000), (0x13, 100), (0x14, 1), (0x15, 1000), (0xF00, 1)] } }

/-- The same in BACKLOG. -/
def tWellFull (kind : Nat) (reqs : List WhReq) (i : Instrument) : State :=
  let s := tWell kind reqs i
  s.setWel { s.wel with backlog := true }

/-- The same in ERROR, and with a record in its store. -/
def tWellDead (kind : Nat) (reqs : List WhReq) (i : Instrument) : State :=
  let s := tWell kind reqs i
  s.setWel { s.wel with die := 2 }

def tWellStored (kind : Nat) (reqs : List WhReq) (i : Instrument) : State :=
  let s := tWell kind reqs i
  s.setWel { s.wel with store := [(0, [1, 2])] }

/-- The same with its seal open. -/
def tWellOpen (reqs : List WhReq) (i : Instrument) : State :=
  let s := tWell 1 reqs i
  s.setWel { s.wel with sealed := 1 }

/-- A record stands in the store and credit is held. -/
def tLink : State :=
  { tWell 1 [] {} with
    regs := [(CIS_MIN 42, 4), (WLG_CFG, 0xFFFFFFFF)]
    wel := { (tWell 1 [] {}).wel with store := [(0, [1, 0])], nextSeq := 1, credit := 1 } }

def tLinkStored : State × Nat :=
  ((tLink.setWel { tLink.wel with credit := 0, sendSeq := 1 }).storeFrame 42 0 [1, 0] true none).getD (tLink, 0)

theorem tLink_stored :
    (tLink.setWel { tLink.wel with credit := 0, sendSeq := 1 }).storeFrame 42 0 [1, 0] true none = some (tLinkStored.1, tLinkStored.2) :=
  some_pair _ (tLink, 0) (by decide +kernel)

/-- No cell for it, and a record of a SEQ against the one expected. -/
def tLinkFull : State := { tLink with regs := [(CIS_MIN 42, 0), (CIS_SHARED, 0), (WLG_CFG, 0xFFFFFFFF)] }

def tLinkAt (q e : Nat) : State :=
  { tLink with wel := { tLink.wel with store := [(q, [1, 0])], sendSeq := q, nextSeq := q + 1 }, wlg := { expect := some e } }

/-- A PROCESS frame at its intake. -/
def tProcJob : Job := { tJob .ready with src := .intake 42 9, desc := none, cls := 6, sn := 100 }

def tProc : State := { tWith tProcJob with wlg := { frames := [(9, 0, [⟨1, 2, 0, 0, 99⟩])] } }

/-- A request waits for its response. -/
def tAsked (resps : List WhResp) : State :=
  { tWell 1 [] {} with
    wlg := { reqs := [(4, tDesc 48 0xC001 [0x14], 90)] }, wel := { (tWell 1 [] {}).wel with resps := resps } }

/-- A KEY_ATTEST waits for the statement. -/
def tAttests (resps : List WhResp) : State :=
  { tWell 1 [] {} with wlg := { reqs := [(4, tDesc 56 0xE007 [], 90)] }, wel := { (tWell 1 [] {}).wel with resps := resps } }

/-- An enabled, referenced axis that stands, as axis 0. -/
def tAxis : Axis := { enabled := true, referenced := true }

def tMot (a : Axis) (regs : Tab Word) : State :=
  { tLive (if regs.isEmpty then [(MOT_AXIS_CFG 0, 1)] else regs) with mot := { axes := a :: List.replicate 15 {} } }

/-- Loop 0 is enabled, in AUTO and due in every stroke. -/
def tLoop : State := { tLive [(LOP_CFG 0, 0x101)] with lop := { loops := { want := 2, mode := 2 } :: List.replicate 31 {} } }

def tLoopPv : Fl := ((Fl.ofBits (tLoop.loop 0).srcPv.x).mul (tLoop.loopPar 0 9)).add (tLoop.loopPar 0 10)

def tLoopFf : Fl := if tLoop.srcStale 0 (tLoop.loop 0).srcFf then Fl.zero else Fl.ofBits (tLoop.loop 0).srcFf.x

/-- Its source is stale, or not finite. -/
def tLoopStale : State :=
  { tLoop with regs := [(LOP_CFG 0, 0x131)], lop := { loops := [{ want := 2, mode := 2, srcPv := { bad := true } }] } }

def tLoopNan : State :=
  { tLoop with regs := [(LOP_CFG 0, 0x131)], lop := { loops := [{ want := 2, mode := 2, srcPv := { x := 0x7F800000 } }] } }

def tLoopNanPv : Fl := ((Fl.ofBits (tLoopNan.loop 0).srcPv.x).mul (tLoopNan.loopPar 0 9)).add (tLoopNan.loopPar 0 10)

/-- Loop 0 gives the setpoint of loop 1. -/
def tCascade : State := { tLoop with regs := [(LOP_CFG 0, 0x101), (LOP_CFG 1, 0x101), (LOP_DST 0, 0x40000001)] }

/-- One record is held. -/
def tRec : Rec := ⟨0x0801, 0, 0, 0, 0, 0, 0, 1, 0⟩

def tRecorded : State := { tLive [] with log := { store := [tRec], nextSeq := 1 } }

/-- Protection levels of R200 by hand: 1000 · 6 · 2^−7 + 10 = 56.875 and 1000 · 5.5 · 2^−6 + 10 = 95.9375, rounded up. -/
theorem test_protection : (tLive []).plFields 3 tRoverSol = (57, 96) := by decide +kernel

/-- R195 by hand: 66 light milliseconds and 10,684,889 steps of 0.02 m restore 20,000,000.008 m. -/
theorem test_restore :
    (((tLive []).restore ⟨200, 1, 0, (0, 0, 0), 0, [⟨⟨0, 5, 0, 0, 20000000 * 65536, 0, 0, false⟩, 0, 0⟩]⟩
      (leBytes 8 200 ++ [1, 0, 0, 0] ++ [5, 0] ++ leBytes 3 10684889 ++ leBytes 3 0 ++ leBytes 2 0 ++ [40])).map
        fun r => (r.pr.mul (Dy.ofInt 1000)).toInt) = [20000000008] := by decide +kernel

theorem wit_StepRunsTheFrontCommand_2 : ∃ (s : State), s.pending = [] :=
  ⟨State.reset, by decide⟩

theorem wit_EveryStepKeepsTheInvariant_1 : ∃ (s : State) (t : State), Inv s ∧ step s = .next t :=
  ⟨State.reset, State.reset, (reset_inv), (rfl)⟩

theorem wit_FusesOnlyGrow_1 : ∃ (s : State) (t : State), step s = .next t :=
  ⟨State.reset, State.reset, (rfl)⟩

theorem wit_FusesChangeInSetupAlone_1 : ∃ (c : Instr) (s : State) (t : State), s.dev ≠ .setup ∧ (∀ id ns m, c ≠ .jobCommit id ns m) ∧ exec c s = .next t :=
  ⟨.quietRequest true, State.reset, State.reset, by decide, (fun _ _ _ h => nomatch h), (rfl)⟩

theorem wit_OnlyFlashCommandsMoveTheFlash_1 : ∃ (c : Instr) (s : State) (t : State) (_a : Nat), (∀ d f, c ≠ .sysFlash d f) ∧ (∀ id ns m, c ≠ .jobCommit id ns m) ∧ exec c s = .next t :=
  ⟨.sealPoint, State.reset, State.reset, 0, (fun _ _ h => nomatch h), (fun _ _ _ h => nomatch h), (rfl)⟩

theorem wit_QueueAndPartStay_1 : ∃ (c : Instr) (s : State) (t : State), exec c s = .next t :=
  ⟨.sealPoint, State.reset, State.reset, (rfl)⟩

theorem wit_CommandsCompleteOnce_1 : ∃ (_s : State) (u : State) (d : Desc) (st : Nat) (_n : Nat), d.shadow = false ∧ d.forwarded = false ∧ d.orphan = false ∧ u.rings.lost.contains d = false ∧ (d.quiet && st == stOK) = false :=
  ⟨tLive [], tLive [], tDesc 0 0x0001 [], 0, 0, by decide, by decide, by decide, by decide, by decide⟩

theorem wit_SuppliesAndResetsMoveTheDevice_1 : ∃ (_v : Bool) (s : State), s.pins.mainSupply = false :=
  ⟨true, tOff, by decide⟩

theorem wit_SuppliesAndResetsMoveTheDevice_2 : ∃ (s : State), s.pins.mainSupply = true ∧ s.dev ≠ .reset :=
  ⟨tLive [], by decide, by decide⟩

theorem wit_SuppliesAndResetsMoveTheDevice_3 : ∃ (_b : Nat) (_p : Bool) (_q : Bool) (s : State), s.pins.mainSupply = true ∧ s.dev = .reset ∧ s.pins.resetN = false :=
  ⟨3, true, false, State.reset, by decide, by decide, by decide⟩

theorem wit_SuppliesAndResetsMoveTheDevice_4 : ∃ (_b : Nat) (_p : Bool) (_q : Bool) (s : State), s.pins.mainSupply = true ∧ s.dev = .reset ∧ s.pins.resetN = false :=
  ⟨4, true, false, State.reset, by decide, by decide, by decide⟩

theorem wit_SuppliesAndResetsMoveTheDevice_5 : ∃ (s : State), s.mainLive = true :=
  ⟨tLive [], by decide⟩

theorem wit_SuppliesAndResetsMoveTheDevice_6 : ∃ (s : State), s.serving = true :=
  ⟨tLive [], by decide⟩

theorem wit_SuppliesAndResetsMoveTheDevice_7 : ∃ (s : State), s.pins.mainSupply = true ∧ s.pins.vbat = true ∧ s.serving = true :=
  ⟨tLive [], by decide, by decide, by decide⟩

theorem wit_SuppliesAndResetsMoveTheDevice_8 : ∃ (s : State), s.pins.mainSupply = true ∧ s.pins.vbat = false :=
  ⟨{ tLive [] with pins := { vbat := false } }, by decide, by decide⟩

theorem wit_SuppliesAndResetsMoveTheDevice_9 : ∃ (s : State), s.dev = .dormant ∧ s.pins.mainSupply = false :=
  ⟨{ tOff with dev := .dormant }, by decide, by decide⟩

theorem wit_SuppliesAndResetsMoveTheDevice_10 : ∃ (s : State), s.dev = .dormant ∧ s.pins.mainSupply = true :=
  ⟨{ State.reset with dev := .dormant }, by decide, by decide⟩

theorem wit_SuppliesAndResetsMoveTheDevice_11 : ∃ (s : State), s.pins.mainSupply = false :=
  ⟨tOff, by decide⟩

theorem wit_SuppliesAndResetsMoveTheDevice_12 : ∃ (s : State), s.pins.mainSupply = true :=
  ⟨State.reset, by decide⟩

theorem wit_BootEndsInSetupOrHalt_1 : ∃ (_t0 : Bool) (_t1 : Bool) (_m : Nat) (_z : Option Nat) (_ms : Nat) (_g : Nat) (_k : Option (List Byte)) (s : State), s.dev = .boot :=
  ⟨true, true, 4096, none, 5, 0, none, { State.reset with dev := .boot }, by decide⟩

theorem wit_BootEndsInSetupOrHalt_2 : ∃ (_t0 : Bool) (_t1 : Bool) (_m : Nat) (_z : Option Nat) (_ms : Nat) (_g : Nat) (_k : Option (List Byte)) (s : State), s.dev = .boot ∧ s.straps.boot = 3 :=
  ⟨true, true, 4096, none, 5, 0, none, { State.reset with dev := .boot, straps := ⟨3, false, false, false⟩ }, by decide, by decide⟩

theorem wit_BootEndsInSetupOrHalt_3 : ∃ (s : State), s.serving = true :=
  ⟨tLive [], by decide⟩

theorem wit_EngagementLocksOrRefuses_1 : ∃ (s : State), s.dev = .setup ∧ s.engageErr = none :=
  ⟨tSetup [] (List.range 23), by decide, by decide⟩

theorem wit_EngagementLocksOrRefuses_2 : ∃ (s : State) (c : Nat) (o : Nat), s.dev = .setup ∧ s.engageErr = some (c, o) :=
  ⟨tSetup [] ((List.range 23).filter (· != 0x16)), 0x16, 0x018, by decide, by decide⟩

theorem wit_EngagementLocksOrRefuses_3 : ∃ (s : State), s.serving = true ∧ s.engaged = true ∧ s.rings.unlocked = true ∧ s.ringsRefuse = none :=
  ⟨{ tLive tRingRegs with rings := { unlocked := true } }, by decide, by decide, by decide, (tRing_sound)⟩

theorem wit_EngagementLocksOrRefuses_4 : ∃ (_on : Bool) (s : State), s.mainLive = true :=
  ⟨true, tLive [], by decide⟩

theorem wit_EngagementLocksOrRefuses_5 : ∃ (_j : Int) (s : State), s.mainLive = true :=
  ⟨2000, tLive [], by decide⟩

theorem wit_FlashAndFuseCommands_1 : ∃ (d : Desc) (_f : Bool) (s : State), Runs s d ∧ d.op 32 1 = 0 ∧ d.op 36 4 + d.op 40 4 ≤ s.num SYS_FLASH_SIZE :=
  ⟨tDesc 0 0x0101 [], false, tLive [(SYS_FLASH_SIZE, 0x2000000)], runs_of (by decide), by decide, by decide⟩

theorem wit_FlashAndFuseCommands_2 : ∃ (d : Desc) (s : State), Runs s d ∧ d.op 32 1 = 1 ∧ d.op 36 4 % 0x10000 = 0 ∧ d.op 40 4 % 0x10000 = 0 ∧ d.op 36 4 + d.op 40 4 ≤ s.num SYS_FLASH_SIZE :=
  ⟨tDesc 0 0x0101 (leBytes 4 1 ++ leBytes 4 0 ++ leBytes 4 0x10000), tLive [(SYS_FLASH_SIZE, 0x2000000)], runs_of (by decide), by decide, by decide, by decide, by decide⟩

theorem wit_FlashAndFuseCommands_3 : ∃ (d : Desc) (_f : Bool) (s : State), Runs s d ∧ s.num SYS_FLASH_SIZE < d.op 36 4 + d.op 40 4 :=
  ⟨tDesc 0 0x0101 (leBytes 4 0 ++ leBytes 4 5), true, tLive [(SYS_FLASH_SIZE, 4)], runs_of (by decide), by decide⟩

theorem wit_FlashAndFuseCommands_4 : ∃ (d : Desc) (_b : Option Nat) (s : State), Runs s d ∧ s.dev ≠ .setup :=
  ⟨tDesc 0 0x0102 [2], none, tLive [], runs_of (by decide), by decide⟩

theorem wit_FlashAndFuseCommands_5 : ∃ (d : Desc) (s : State), Runs s d ∧ s.dev = .setup ∧ d.op 32 1 = 0 ∧ s.fuses.slots.getD (d.op 33 1) {} = {} ∧ d.op 33 1 < s.fuses.slots.length :=
  ⟨{ tDesc 0 0x0102 [0, 1] with bufLen := 32, buf := List.replicate 32 7 }, tSetup [] [], runs_of (by decide), by decide, by decide, by decide, by decide⟩

theorem wit_FlashAndFuseCommands_6 : ∃ (d : Desc) (_b : Option Nat) (s : State), Runs s d ∧ s.dev = .setup ∧ d.op 32 1 = 0 ∧ (s.fuses.slots.getD (d.op 33 1) {}).programmed = true :=
  ⟨{ tDesc 0 0x0102 [0, 2] with bufLen := 32, buf := List.replicate 32 7 }, none, { tSetup [] [] with fuses := { slots := [{}, {}, { programmed := true }] } }, runs_of (by decide), by decide, by decide, by decide⟩

theorem wit_FlashAndFuseCommands_7 : ∃ (d : Desc) (s : State), Runs s d ∧ s.dev = .setup ∧ d.op 32 1 = 2 ∧ s.fuses.antiroll < min 64 s.sys.rollback :=
  ⟨tDesc 0 0x0102 [2], { tSetup [] [] with sys := { rollback := 200 } }, runs_of (by decide), by decide, by decide, by decide⟩

theorem wit_StrokesBeginAndAdvance_1 : ∃ (tai : Nat) (n : Nat) (_codes : List Int) (_mags : List (List Nat)) (_rf : List (List RfClk)) (s : State), s.dev = .anchoring ∧ s.stroked = false ∧ s.mateSn = none ∧ s.flag TIM_STATUS_TB0_VALID = true ∧ n < 4000 ∧ s.siteEpoch ≤ tai ∧ s.num64 STK_SN_FLOOR_LO STK_SN_FLOOR_HI < (tai - s.siteEpoch) * 4000 + n :=
  ⟨9, 3, [], [], [], tAnchoring, by decide, by decide, by decide, by decide, by decide, by decide, by decide⟩

theorem wit_StrokesBeginAndAdvance_2 : ∃ (tai : Nat) (n : Nat) (_codes : List Int) (_mags : List (List Nat)) (_rf : List (List RfClk)) (s : State), s.dev = .anchoring ∧ s.stroked = false ∧ s.mateSn = none ∧ s.flag TIM_STATUS_TB0_VALID = true ∧ n < 4000 ∧ tai < s.siteEpoch :=
  ⟨9, 3, [], [], [], { tAnchoring with regs := [(TIM_STATUS, 0xFFFFFFFF), (STK_SITE_EPOCH_LO, 10)] }, by decide, by decide, by decide, (by decide +kernel), by decide, (by decide +kernel)⟩

theorem wit_StrokesBeginAndAdvance_3 : ∃ (tai : Nat) (n : Nat) (_codes : List Int) (_mags : List (List Nat)) (_rf : List (List RfClk)) (s : State), s.dev = .anchoring ∧ s.stroked = false ∧ s.mateSn = none ∧ s.flag TIM_STATUS_TB0_VALID = true ∧ n < 4000 ∧ s.siteEpoch ≤ tai ∧ (tai - s.siteEpoch) * 4000 + n ≤ s.num64 STK_SN_FLOOR_LO STK_SN_FLOOR_HI :=
  ⟨0, 0, [], [], [], tAnchoring, by decide, by decide, by decide, by decide, by decide, by decide, by decide⟩

theorem wit_StrokesBeginAndAdvance_4 : ∃ (_tai : Nat) (_n : Nat) (_codes : List Int) (_mags : List (List Nat)) (_rf : List (List RfClk)) (m : Nat) (s : State), s.dev = .anchoring ∧ s.stroked = false ∧ s.mateSn = some m :=
  ⟨0, 0, [], [], [], 100, { tAnchoring with role := .notStanding, regs := [(PAI_CFG, 1)], pai := { token := some { readToken [] with state := 4, sn := 99 }, tokLast := [true, true, true, true] } }, by decide, by decide, (by decide +kernel)⟩

theorem wit_StrokesBeginAndAdvance_5 : ∃ (_tai : Nat) (_m : Nat) (s : State), s.dev = .anchoring ∧ s.stroked = false :=
  ⟨0, 0, tAnchoring, by decide, by decide⟩

theorem wit_StrokesBeginAndAdvance_7 : ∃ (_codes : List Int) (_mags : List (List Nat)) (_rf : List (List RfClk)) (s : State), s.strokesRun = true :=
  ⟨[], [], [], tLive [], by decide⟩

theorem wit_PointsOfAStroke_1 : ∃ (b : Nat) (s : State), s.stroked = true ∧ s.serving = true ∧ b < 8 :=
  ⟨7, tLive [], by decide, by decide, by decide⟩

theorem wit_PointsOfAStroke_2 : ∃ (k : Nat) (j : Job) (s : State), s.job? k = some j ∧ j.phase = .delayed ∧ s.stroked = true ∧ s.serving = true ∧ j.notBefore ≤ s.jobSn j :=
  ⟨5, tJob .delayed, tWith (tJob .delayed), by decide, by decide, by decide, by decide, by decide⟩

theorem wit_PointsOfAStroke_3 : ∃ (s : State), s.stroked = true ∧ s.serving = true ∧ s.pai.held = [] ∧ s.mayRelease (s.sn - 1) = true :=
  ⟨tLive [], by decide, by decide, by decide, by decide⟩

theorem wit_PointsOfAStroke_4 : ∃ (s : State), s.stroked = true ∧ s.serving = true ∧ s.pai.mateStandby.isNone = false ∧ (s.pai.held.isEmpty && s.mayRelease (s.sn - 1)) = false :=
  ⟨{ tLive [] with role := .primary, pai := { mateStandby := some 50 } }, by decide, by decide, by decide, by decide⟩

theorem wit_PointsOfAStroke_5 : ∃ (s : State), s.stroked = true ∧ s.serving = true ∧ s.role ≠ .primary ∧ s.pai.snapAt ≠ some s.sn :=
  ⟨tLive [], by decide, by decide, by decide, by decide⟩

theorem wit_PointsOfAStroke_6 : ∃ (s : State), s.stroked = true ∧ s.serving = true :=
  ⟨tLive [], by decide, by decide⟩

theorem wit_PointsOfAStroke_7 : ∃ (s : State), s.stroked = true ∧ s.serving = true ∧ s.role = .primary ∧ s.pai.mateStandby = none ∧ s.pai.snapAt = some s.sn :=
  ⟨{ tLive [] with role := .primary, pai := { snapAt := some 100 } }, by decide, by decide, by decide, by decide, by decide⟩

theorem wit_PointsOfAStroke_8 : ∃ (s : State), s.stroked = true ∧ s.serving = true :=
  ⟨tLive [], by decide, by decide⟩

theorem wit_PointsOfAStroke_9 : ∃ (s : State), s.stroked = false ∧ s.serving = true :=
  ⟨tSetup [] [], by decide, by decide⟩

theorem wit_JobsCommitOrEndLate_1 : ∃ (k : Nat) (_ns : Nat) (j : Job) (d : Desc) (s : State), s.serving = true ∧ s.job? k = some j ∧ j.desc = some d ∧ (j.phase = .running ∨ j.phase = .computed) ∧ s.keyHeld j = false :=
  ⟨5, 100, tJob .running, tDesc 0 0 [], tWith (tJob .running), by decide, by decide, by decide, by decide, by decide⟩

theorem wit_JobsCommitOrEndLate_2 : ∃ (k : Nat) (_ns : Nat) (j : Job) (d : Desc) (s : State), s.serving = true ∧ s.job? k = some j ∧ j.desc = some d ∧ (j.phase = .running ∨ j.phase = .computed) ∧ s.keyHeld j = true :=
  ⟨5, 100, { tJob .running with repl := true, seq := 2 }, tDesc 0 0 [], tWithTwo, by decide, by decide, by decide, by decide, by decide⟩

theorem wit_JobsCommitOrEndLate_3 : ∃ (k : Nat) (_ns : Nat) (j : Job) (d : Desc) (s : State), s.serving = true ∧ s.job? k = some j ∧ j.desc = some d ∧ j.phase = .running ∧ j.lead.isNone = false :=
  ⟨5, 100, { tJob .running with lead := some 40 }, tDesc 0 0 [], tWith { tJob .running with lead := some 40 }, by decide, by decide, by decide, by decide, by decide⟩

theorem wit_JobsCommitOrEndLate_4 : ∃ (k : Nat) (_ns : Nat) (_r : MemRead) (j : Job) (d : Desc) (s : State), s.serving = true ∧ s.job? k = some j ∧ j.desc = some d ∧ (j.phase = .running ∨ j.phase = .computed) :=
  ⟨5, 100, ⟨0, 0, .byte 0 0, .other⟩, tJob .running, tDesc 0 0 [], tWith (tJob .running), by decide, by decide, by decide, by decide⟩

theorem wit_JobsCommitOrEndLate_5 : ∃ (k : Nat) (_ns : Nat) (j : Job) (s : State), s.serving = true ∧ s.job? k = some j ∧ j.desc = none :=
  ⟨5, 100, { tJob .running with desc := none }, tWith { tJob .running with desc := none }, by decide, by decide, by decide⟩

theorem wit_JobsCommitOrEndLate_6 : ∃ (k : Nat) (j : Job) (s : State), s.stroked = true ∧ s.serving = true ∧ s.job? k = some j ∧ s.pastClose j = true :=
  ⟨5, tJob .running, tWith (tJob .running), by decide, by decide, by decide, by decide⟩

theorem wit_JobsCommitOrEndLate_7 : ∃ (k : Nat) (j : Job) (s : State), s.serving = true ∧ s.job? k = some j ∧ s.pastDeadline j = true ∧ (match j.desc with | some d => s.wlg.reqs.any (fun r => r.2.1 == d && d.opcode == 0xE007) | none => false) = false :=
  ⟨5, { tJob .running with lead := some 4, deadline := 90 }, tWith { tJob .running with lead := some 4, deadline := 90 }, by decide, by decide, by decide, by decide⟩

theorem wit_JobsCommitOrEndLate_8 : ∃ (k : Nat) (j : Job) (d : Desc) (s : State), s.serving = true ∧ s.job? k = some j ∧ s.pastDeadline j = true ∧ j.desc = some d ∧ (s.wlg.reqs.any fun r => r.2.1 == d && d.opcode == 0xE007) = true :=
  ⟨5, { tJob .running with desc := some (tDesc 56 0xE007 []), lead := some 4, deadline := 90 }, tDesc 56 0xE007 [], { tWith { tJob .running with desc := some (tDesc 56 0xE007 []), lead := some 4, deadline := 90 } with wlg := { reqs := [(4, tDesc 56 0xE007 [], 90)] } }, by decide, by decide, by decide, by decide, by decide⟩

theorem wit_JobsCommitOrEndLate_9 : ∃ (q : Nat) (r : Rover) (w : Solve) (s : State), s.serving = true ∧ s.stroked = true ∧ s.disp.closed = true ∧ (s.missedSolves.find? fun x => x.1 == q) = some (q, r, w) :=
  ⟨9, { running := some tSolve }, tSolve, { tLive [] with disp := { closed := true }, bsl := { rovers := [(9, { running := some tSolve })] } }, by decide, by decide, by decide, by decide⟩

theorem wit_JobsCommitOrEndLate_10 : ∃ (c : Nat) (s : State), s.stroked = true ∧ s.serving = true ∧ c < 8 ∧ 3 ≤ s.disp.wdMissed.getD c 0 :=
  ⟨7, { tLive [] with disp := { wdMissed := List.replicate 8 3 } }, by decide, by decide, by decide, by decide⟩

theorem wit_JobsCommitOrEndLate_11 : ∃ (c : Nat) (s : State), s.stroked = true ∧ s.serving = true ∧ c < 8 ∧ s.disp.wdMissed.getD c 0 < 3 :=
  ⟨0, tLive [], by decide, by decide, by decide, by decide⟩

theorem wit_JobsCommitOrEndLate_12 : ∃ (c : Nat) (s : State), s.stroked = true ∧ s.serving = true ∧ c < 8 :=
  ⟨0, tLive [], by decide, by decide, by decide⟩

theorem wit_RegisterAccessesFollowTheirCodes_1 : ∃ (_v : Word) (_ns : Nat) (s : State), s.mainLive = true ∧ s.barListed STK_SITE_EPOCH_LO = true ∧ s.capAbsent 3 = false ∧ s.engaged = false :=
  ⟨7, 0, tSetup [] [], by decide, by decide, by decide, by decide⟩

theorem wit_RegisterAccessesFollowTheirCodes_2 : ∃ (_v : Word) (_ns : Nat) (s : State), s.mainLive = true ∧ s.barListed STK_SITE_EPOCH_LO = true ∧ s.capAbsent 3 = false ∧ s.engaged = true :=
  ⟨7, 0, tLive tRingRegs, by decide, by decide, by decide, by decide⟩

theorem wit_RegisterAccessesFollowTheirCodes_3 : ∃ (_v : Word) (_ns : Nat) (s : State), s.mainLive = true ∧ s.barListed 0x030028 = true ∧ s.capAbsent 3 = false :=
  ⟨7, 0, tLive [], by decide, by decide, by decide⟩

theorem wit_RegisterAccessesFollowTheirCodes_4 : ∃ (a : Nat) (b : Option MemRead) (r : RegRow) (k : Nat) (s : State) (u : State), s.mainLive = true ∧ a % 4 = 0 ∧ s.barListed a = true ∧ s.readBehind b = (u, false) ∧ findRow a (regRows (a / 0x10000)) = some (r, k) ∧ r.acc = .rc ∧ u.capAbsent (a / 0x10000) = false :=
  ⟨RNG_LOST_CPL, none, ⟨0x04004C, 0x1000, 1, 0x1, 1, .rc, 0x0, 0x0, []⟩, 0, tLive [], tLive [], by decide, by decide, by decide, (rfl), by decide, by decide, by decide⟩

theorem wit_RegisterAccessesFollowTheirCodes_5 : ∃ (a : Nat) (b : Option MemRead) (s : State) (u : State), s.mainLive = true ∧ a % 4 = 0 ∧ s.barListed a = true ∧ s.readBehind b = (u, true) :=
  ⟨RNG_LOST_CPL, some ⟨0, 0, .byte 0 3, .other⟩, tLive [], ((tLive []).readBehind (some ⟨0, 0, .byte 0 3, .other⟩)).1, by decide, by decide, by decide, (pair_snd _ (by decide +kernel))⟩

theorem wit_RegisterAccessesFollowTheirCodes_6 : ∃ (_ns : Nat) (s : State), s.mainLive = true ∧ s.capAbsent 3 = false :=
  ⟨249999, tLive [], by decide, by decide⟩

theorem wit_RegisterAccessesFollowTheirCodes_7 : ∃ (_ns : Nat) (s : State), s.mainLive = true ∧ s.capAbsent 3 = true :=
  ⟨249999, tSetup [] [3], by decide, by decide⟩

theorem wit_RegisterAccessesFollowTheirCodes_8 : ∃ (a : Nat) (n : Nat) (w : Bool) (s : State), s.mainLive = true ∧ (a % 4 == 0 && n == 1 && w && s.barListed a) = false :=
  ⟨2, 1, true, tLive [], by decide, by decide⟩

theorem wit_RingsAreSetUpAndServed_1 : ∃ (cq : Bool) (n : Nat) (_v : Word) (s : State), s.mainLive = true ∧ n < 64 ∧ s.capAbsent 4 = false ∧ s.rwlLocked 4 = false ∧ s.ringOn cq n = false :=
  ⟨false, 63, 0x40001, tSetup [] [], by decide, by decide, by decide, by decide, by decide⟩

theorem wit_RingsAreSetUpAndServed_2 : ∃ (_cq : Bool) (n : Nat) (_v : Word) (s : State), s.mainLive = true ∧ n < 64 ∧ s.capAbsent 4 = false ∧ s.rwlLocked 4 = false :=
  ⟨true, 0, 0x40000, tSetup [] [], by decide, by decide, by decide, by decide⟩

theorem wit_RingsAreSetUpAndServed_3 : ∃ (_cq : Bool) (n : Nat) (_v : Word) (s : State), s.mainLive = true ∧ n < 64 ∧ s.capAbsent 4 = false ∧ s.rwlLocked 4 = true :=
  ⟨true, 0, 0x40000, tLive tRingRegs, by decide, by decide, by decide, by decide⟩

theorem wit_RingsAreSetUpAndServed_4 : ∃ (_v : Word) (s : State), s.mainLive = true ∧ s.capAbsent 4 = false :=
  ⟨1, tLive [], by decide, by decide⟩

theorem wit_RingsAreSetUpAndServed_5 : ∃ (_v : Word) (s : State), s.mainLive = true ∧ s.capAbsent 4 = false :=
  ⟨1, tLive [], by decide, by decide⟩

theorem wit_RingsAreSetUpAndServed_6 : ∃ (_fast : Bool) (_late : Bool) (_ps : List Nat) (_cs : List Nat) (s : State), s.serving = true ∧ s.pagesOk = true :=
  ⟨true, true, [], [], tLive [(RNG_DB_PAGE_LO, 0x1000), (RNG_ST_PAGE_LO, 0x2000)], by decide, by decide⟩

theorem wit_RingsAreSetUpAndServed_7 : ∃ (n : Nat) (_p : Nat) (s : State), s.ringLive false n = true ∧ s.ringFault false n = false :=
  ⟨0, 1, tFetch, (by decide +kernel), (by decide +kernel)⟩

theorem wit_RingsAreSetUpAndServed_8 : ∃ (n : Nat) (_p : Nat) (s : State), s.ringLive true n = true ∧ s.ringFault true n = false :=
  ⟨0, 1, tFetch, (by decide +kernel), (by decide +kernel)⟩

theorem wit_RingsAreSetUpAndServed_9 : ∃ (r : Nat) (raw : List (List Byte × List Byte)) (ds : List Desc) (s : State), s.serving = true ∧ r < 64 ∧ s.ringLive false r = true ∧ s.ringFault false r = false ∧ s.ringFault true (s.cqOf r) = false ∧ readDescs r (s.sq r).cons raw = ds ∧ chainShape ds = true ∧ ds.length ≤ idxSub (s.sq r).prod (s.sq r).cons ∧ ds.length ≤ s.cqFree (s.cqOf r) ∧ (s.disp.held.contains r && r / 4 != 9) = false ∧ (r / 4 = 9 ∨ (s.disp.jobs.filter fun j => j.phase == .presented && !j.isPeriodic).length + ds.length ≤ s.slotsFree) ∧ (s.disp.jobs.any fun j => j.phase == .fenced && (match j.desc with | some d => d.ring == r | none => false)) = false ∧ ((match ds with | d :: _ => decide (s.sn < d.notBefore) && (s.earlyEnd d).isNone && !d.slotless | [] => false) = true → s.timerFree = true) :=
  ⟨0, [(List.replicate 64 0, [])], readDescs 0 0 [(List.replicate 64 0, [])], tFetch, by decide, by decide, (by decide +kernel), (by decide +kernel), (by decide +kernel), (by decide +kernel), (by decide +kernel), (by decide +kernel), (by decide +kernel), (by decide +kernel), (.inr (by decide +kernel)), (by decide +kernel), (fun _ => by decide +kernel)⟩

theorem wit_RingsAreSetUpAndServed_10 : ∃ (_h : DmaEnd) (_a : Nat) (s : State), s.serving = true :=
  ⟨.timeout, 0x1000, tLive [], by decide⟩

theorem wit_RingsAreSetUpAndServed_11 : ∃ (_h : DmaEnd) (_a : Nat) (r : Nat) (n : Nat) (j : Job) (d : Desc) (s : State), s.serving = true ∧ (s.disp.jobs.find? fun j => j.isRing r n) = some j ∧ j.desc = some d :=
  ⟨.abort, 0x1000, 0, 0, tJob .running, tDesc 0 0 [], tWith (tJob .running), by decide, by decide, by decide⟩

theorem wit_RingsAreSetUpAndServed_12 : ∃ (s : State), s.mainLive = true :=
  ⟨tLive [], by decide⟩

theorem wit_CommonRingCommands_1 : ∃ (d : Desc) (s : State), Runs s d :=
  ⟨tDesc 0 0 [], tLive [], runs_of (by decide)⟩

theorem wit_CommonRingCommands_2 : ∃ (d : Desc) (s : State), Runs s d :=
  ⟨tDesc 0 1 [5], tLive [], runs_of (by decide)⟩

theorem wit_CommonRingCommands_3 : ∃ (d : Desc) (s : State), Runs s d ∧ d.ring ≠ 51 :=
  ⟨{ tDesc 12 0x3FFF [] with bufLen := 64 }, tLive [], runs_of (by decide), by decide⟩

theorem wit_CommonRingCommands_4 : ∃ (d : Desc) (s : State), Runs s d ∧ d.ring = 51 :=
  ⟨{ tDesc 51 0xCFFF [] with bufLen := 64 }, tLive [], runs_of (by decide), by decide⟩

theorem wit_CommonRingCommands_5 : ∃ (f : Forwarded) (s : State), s.serving = true ∧ (s.rings.forwarded.find? fun f => decide (f.sentSn + 400 ≤ s.sn)) = some f :=
  ⟨⟨tDesc 0 0 [], 0, 1⟩, { tLive [] with sn := 400, rings := { forwarded := [⟨tDesc 0 0 [], 0, 1⟩] } }, by decide, by decide⟩

theorem wit_Tb0FollowsItsSource_1 : ∃ (s : State), s.mainLive = true ∧ s.flag TIM_STATUS_TB0_VALID = true ∧ s.flag TIM_STATUS_HOLDOVER = false :=
  ⟨tLive [(TIM_STATUS, 0x5)], by decide, by decide, by decide⟩

theorem wit_Tb0FollowsItsSource_2 : ∃ (s : State), s.mainLive = true ∧ s.flag TIM_STATUS_TB0_VALID = true ∧ s.flag TIM_STATUS_HOLDOVER = true :=
  ⟨{ tLive [(TIM_STATUS, 0xE)] with tim := { far := [2] } }, by decide, by decide, by decide⟩

theorem wit_Tb0FollowsItsSource_3 : ∃ (s : State), s.mainLive = true ∧ s.flag TIM_STATUS_HOLDOVER = true ∧ s.flag TIM_STATUS_HOLDOVER_EXPIRED = false ∧ s.num TIM_HOLDOVER_LIMIT < s.holdSeconds :=
  ⟨{ tLive [(TIM_STATUS, 0xC), (TIM_HOLDOVER_LIMIT, 1)] with sn := 8001, tim := { holdSn := some 0 } }, by decide, by decide, by decide, by decide⟩

theorem wit_Tb0FollowsItsSource_4 : ∃ (k : Nat) (_e : Int) (s : State), s.mainLive = true ∧ s.srcEnabled k = true ∧ s.flag TIM_STATUS_TB0_VALID = false :=
  ⟨3, 5, { tLive [] with role := .primary }, by decide, by decide, by decide⟩

theorem wit_Tb0FollowsItsSource_5 : ∃ (k : Nat) (e : Int) (s : State), s.mainLive = true ∧ s.srcEnabled k = true ∧ s.flag TIM_STATUS_TB0_VALID = true ∧ s.flag TIM_STATUS_HOLDOVER = true ∧ s.tim.far.contains k = false ∧ (absI e : Int) ≤ s.num TIM_REANCHOR_LIMIT_NS :=
  ⟨3, 5, { tLive [(TIM_STATUS, 0xC), (TIM_REANCHOR_LIMIT_NS, 100)] with role := .primary }, by decide, by decide, by decide, by decide, by decide, by decide⟩

theorem wit_Tb0FollowsItsSource_6 : ∃ (k : Nat) (e : Int) (s : State), s.mainLive = true ∧ s.srcEnabled k = true ∧ s.flag TIM_STATUS_TB0_VALID = true ∧ s.flag TIM_STATUS_HOLDOVER = true ∧ s.tim.far.contains k = false ∧ (s.num TIM_REANCHOR_LIMIT_NS : Int) < absI e :=
  ⟨3, -500, { tLive [(TIM_STATUS, 0xC), (TIM_REANCHOR_LIMIT_NS, 100)] with role := .primary }, by decide, by decide, by decide, by decide, by decide, by decide⟩

theorem wit_Tb0FollowsItsSource_7 : ∃ (k : Nat) (e : Int) (s : State), s.mainLive = true ∧ s.srcEnabled k = true ∧ s.flag TIM_STATUS_TB0_VALID = true ∧ s.flag TIM_STATUS_HOLDOVER = true ∧ s.tim.far.contains k = true ∧ (s.num TIM_REANCHOR_LIMIT_NS : Int) < absI e ∧ (match s.errOf k with | some l => decide ((s.num TIM_REANCHOR_LIMIT_NS : Int) < absI (e - l)) | none => false) = false :=
  ⟨3, -500, { tLive [(TIM_STATUS, 0xC), (TIM_REANCHOR_LIMIT_NS, 100)] with role := .primary, tim := { far := [3], errs := [(3, -480)] } }, by decide, by decide, by decide, by decide, by decide, by decide, by decide⟩

theorem wit_Tb0FollowsItsSource_8 : ∃ (k : Nat) (e : Int) (s : State), s.mainLive = true ∧ s.srcEnabled k = true ∧ s.flag TIM_STATUS_TB0_VALID = true ∧ s.flag TIM_STATUS_HOLDOVER = false ∧ s.get TIM_STATUS_TB0_SRC = k ∧ (match s.errOf k with | some l => decide ((s.num TIM_REANCHOR_LIMIT_NS : Int) < absI (e - l)) | none => false) = false :=
  ⟨3, -50, { tLive [(TIM_STATUS, 0x7), (TIM_REANCHOR_LIMIT_NS, 100)] with role := .primary, tim := { errs := [(3, -40)] } }, by decide, by decide, by decide, by decide, by decide, by decide⟩

theorem wit_Tb0FollowsItsSource_9 : ∃ (k : Nat) (e : Int) (s : State), s.mainLive = true ∧ s.srcEnabled k = true ∧ s.flag TIM_STATUS_TB0_VALID = true ∧ s.flag TIM_STATUS_HOLDOVER = false ∧ s.get TIM_STATUS_TB0_SRC = k ∧ (match s.errOf k with | some l => decide ((s.num TIM_REANCHOR_LIMIT_NS : Int) < absI (e - l)) | none => false) = true :=
  ⟨3, -500, { tLive [(TIM_STATUS, 0x7), (TIM_REANCHOR_LIMIT_NS, 100)] with role := .primary, tim := { errs := [(3, -40)] } }, by decide, by decide, by decide, by decide, by decide, by decide⟩

theorem wit_Tb0FollowsItsSource_10 : ∃ (v : Word) (k : Nat) (s : State), s.mainLive = true ∧ bitsOf v 0 1 = 1 ∧ ([1, 2, 3].find? s.tim.far.contains) = some k :=
  ⟨1, 2, { tLive [(TIM_STATUS, 0xE)] with tim := { far := [2] } }, by decide, by decide, by decide⟩

theorem wit_Tb0FollowsItsSource_11 : ∃ (n : Nat) (p : Nat) (s : State), s.mainLive = true ∧ s.tim.ppsLast = some p ∧ p ≤ n ∧ n < p + 2000 :=
  ⟨1999, 0, { tLive [] with tim := { ppsLast := some 0 } }, by decide, by decide, by decide, by decide⟩

theorem wit_Tb0FollowsItsSource_12 : ∃ (n : Nat) (p : Nat) (s : State), s.mainLive = true ∧ s.tim.ppsLast = some p ∧ p + 2000 ≤ n :=
  ⟨1000000300, 0, { tLive [] with tim := { ppsLast := some 0 } }, by decide, by decide, by decide⟩

theorem wit_Tb0FollowsItsSource_13 : ∃ (_n : Nat) (s : State), s.mainLive = true ∧ s.tim.ppsLast = none :=
  ⟨5000000007, tLive [], by decide, by decide⟩

theorem wit_Tb0FollowsItsSource_14 : ∃ (_n : Nat) (_g : Bool) (s : State), s.tim.labelFresh = false ∧ s.tim.labelled = false :=
  ⟨5000000007, true, tLive [], by decide, by decide⟩

theorem wit_Tb0FollowsItsSource_15 : ∃ (s : State), s.mainLive = true ∧ s.ppsValid = true :=
  ⟨tLive [(TIM_STATUS, 0x4), (TIM_PPS_CFG, 0)], by decide, by decide⟩

theorem wit_ClocksTb1AndTb3_1 : ∃ (m : SyncMeas) (r : List SyncMeas) (o : Int) (a : Nat) (s : State) (u : State), s.serving = true ∧ s.tim.ptp.meas = m :: r ∧ u = s.setPtp { s.tim.ptp with meas := r } ∧ o = u.syncOffset m a ∧ (u.get TIM_TB1_CFG_ROLE == 1 || u.get TIM_TB1_CFG_ROLE == 3) = true ∧ u.flag (TIM_PORT_PTP_PTP_EN m.port) = true ∧ (absI o : Int) ≤ u.num TIM_TB1_STEP_NS :=
  ⟨tSync (20), [], 20, 0, tSlave (20) {}, (tSlave (20) {}).setPtp { (tSlave (20) {}).tim.ptp with meas := [] }, (by decide +kernel), by decide, (rfl), (by decide +kernel), (by decide +kernel), (by decide +kernel), (by decide +kernel)⟩

theorem wit_ClocksTb1AndTb3_2 : ∃ (m : SyncMeas) (r : List SyncMeas) (o : Int) (a : Nat) (s : State) (u : State), s.serving = true ∧ s.tim.ptp.meas = m :: r ∧ u = s.setPtp { s.tim.ptp with meas := r } ∧ o = u.syncOffset m a ∧ (u.get TIM_TB1_CFG_ROLE == 1 || u.get TIM_TB1_CFG_ROLE == 3) = true ∧ u.flag (TIM_PORT_PTP_PTP_EN m.port) = true ∧ (u.num TIM_TB1_STEP_NS : Int) < absI o ∧ (u.tim.backSlew && decide (0 < o)) = false ∧ (u.tim.syncs.all fun x => decide ((absI (x - o) : Int) ≤ u.num TIM_TB1_STEP_NS)) = false :=
  ⟨tSync (500), [], 500, 0, tSlave (500) { syncs := [900] }, (tSlave (500) { syncs := [900] }).setPtp { (tSlave (500) { syncs := [900] }).tim.ptp with meas := [] }, (by decide +kernel), by decide, (rfl), (by decide +kernel), (by decide +kernel), (by decide +kernel), (by decide +kernel), (by decide +kernel), (by decide +kernel)⟩

theorem wit_ClocksTb1AndTb3_3 : ∃ (m : SyncMeas) (r : List SyncMeas) (o : Int) (a : Nat) (s : State) (u : State), s.serving = true ∧ s.tim.ptp.meas = m :: r ∧ u = s.setPtp { s.tim.ptp with meas := r } ∧ o = u.syncOffset m a ∧ (u.get TIM_TB1_CFG_ROLE == 1 || u.get TIM_TB1_CFG_ROLE == 3) = true ∧ u.flag (TIM_PORT_PTP_PTP_EN m.port) = true ∧ (u.num TIM_TB1_STEP_NS : Int) < absI o ∧ (u.tim.backSlew && decide (0 < o)) = false ∧ (u.tim.syncs.all fun x => decide ((absI (x - o) : Int) ≤ u.num TIM_TB1_STEP_NS)) = true ∧ u.tim.syncs.length + 1 < max 1 (u.get TIM_TB1_CFG_STEP_CONFIRM) :=
  ⟨tSync (500), [], 500, 0, tSlave (500) {}, (tSlave (500) {}).setPtp { (tSlave (500) {}).tim.ptp with meas := [] }, (by decide +kernel), by decide, (rfl), (by decide +kernel), (by decide +kernel), (by decide +kernel), (by decide +kernel), (by decide +kernel), (by decide +kernel), (by decide +kernel)⟩

theorem wit_ClocksTb1AndTb3_4 : ∃ (m : SyncMeas) (r : List SyncMeas) (o : Int) (a : Nat) (s : State) (u : State), s.serving = true ∧ s.tim.ptp.meas = m :: r ∧ u = s.setPtp { s.tim.ptp with meas := r } ∧ o = u.syncOffset m a ∧ (u.get TIM_TB1_CFG_ROLE == 1 || u.get TIM_TB1_CFG_ROLE == 3) = true ∧ u.flag (TIM_PORT_PTP_PTP_EN m.port) = true ∧ (u.num TIM_TB1_STEP_NS : Int) < absI o ∧ (u.tim.backSlew && decide (0 < o)) = false ∧ (u.tim.syncs.all fun x => decide ((absI (x - o) : Int) ≤ u.num TIM_TB1_STEP_NS)) = true ∧ max 1 (u.get TIM_TB1_CFG_STEP_CONFIRM) ≤ u.tim.syncs.length + 1 ∧ (decide (0 < o) && u.flag TIM_TB1_CFG_NO_BACK_STEP) = false :=
  ⟨tSync (-500), [], -500, 0, tSlave (-500) { syncs := List.replicate 16 (-500) }, (tSlave (-500) { syncs := List.replicate 16 (-500) }).setPtp { (tSlave (-500) { syncs := List.replicate 16 (-500) }).tim.ptp with meas := [] }, (by decide +kernel), by decide, (rfl), (by decide +kernel), (by decide +kernel), (by decide +kernel), (by decide +kernel), (by decide +kernel), (by decide +kernel), (by decide +kernel), (by decide +kernel)⟩

theorem wit_ClocksTb1AndTb3_5 : ∃ (v : Word) (_a : Nat) (s : State), s.mainLive = true ∧ bitsOf v 0 1 = 1 :=
  ⟨1, 0, tLive [], by decide, by decide⟩

theorem wit_ClocksTb1AndTb3_6 : ∃ (_a : Nat) (s : State), s.mainLive = true :=
  ⟨0, tLive [], by decide⟩

theorem wit_ClocksTb1AndTb3_7 : ∃ (v : Int) (a : Nat) (s : State), s.mainLive = true ∧ s.gns.leap = some (v, a) ∧ s.stroked = true ∧ a ≤ s.siteEpoch + s.sn / 4000 :=
  ⟨37, 0, { tLive [] with gns := { leap := some (37, 0) } }, by decide, by decide, by decide, by decide⟩

theorem wit_ClocksTb1AndTb3_8 : ∃ (s : State), s.dev = .operate ∧ s.stroked = true :=
  ⟨tLive [], by decide, by decide⟩

theorem wit_GatesAndLaunchTimes_1 : ∃ (p : Nat) (c : Nat) (a : Nat) (l : Nat) (e : QEntry) (r : List QEntry) (s : State), s.serving = true ∧ s.queue p c = e :: r ∧ e.launch = some l ∧ s.portNow p a = l :=
  ⟨0, 0, 0, 25000000, tQEntry, [], tQueued, by decide, by decide, by decide, by decide⟩

theorem wit_GatesAndLaunchTimes_2 : ∃ (p : Nat) (c : Nat) (a : Nat) (l : Nat) (e : QEntry) (r : List QEntry) (s : State), s.serving = true ∧ s.queue p c = e :: r ∧ e.launch = some l ∧ l < s.portNow p a ∧ s.flag (TIM_PORT_PTP_LATE_SEND p) = true :=
  ⟨0, 0, 9, 25000000, tQEntry, [], { tQueued with regs := [(TIM_PORT_PTP 0, 0xFFFFFFFF)] }, (by decide +kernel), (by decide +kernel), (by decide +kernel), (by decide +kernel), (by decide +kernel)⟩

theorem wit_GatesAndLaunchTimes_3 : ∃ (p : Nat) (c : Nat) (a : Nat) (l : Nat) (e : QEntry) (r : List QEntry) (s : State), s.serving = true ∧ s.queue p c = e :: r ∧ e.launch = some l ∧ l < s.portNow p a ∧ s.flag (TIM_PORT_PTP_LATE_SEND p) = false :=
  ⟨0, 0, 9, 25000000, tQEntry, [], tQueued, (by decide +kernel), (by decide +kernel), (by decide +kernel), (by decide +kernel), (by decide +kernel)⟩

theorem wit_GatesAndLaunchTimes_4 : ∃ (p : Nat) (c : Nat) (a : Nat) (l : Nat) (e : QEntry) (r : List QEntry) (s : State), s.serving = true ∧ s.queue p c = e :: r ∧ e.launch = some l ∧ s.portNow p a + s.num TIM_LAUNCH_MAX_WAIT * 1000 < l :=
  ⟨0, 0, 0, 10 ^ 30, { tQEntry with launch := some (10 ^ 30) }, [], tQueuedFar, by decide, by decide, by decide, by decide⟩

theorem wit_GatesAndLaunchTimes_5 : ∃ (p : Nat) (c : Nat) (a : Nat) (l : Nat) (e : QEntry) (r : List QEntry) (s : State), s.serving = true ∧ s.queue p c = e :: r ∧ e.launch = some l ∧ s.portNow p a < l ∧ l ≤ s.portNow p a + s.num TIM_LAUNCH_MAX_WAIT * 1000 :=
  ⟨0, 0, 0, 25000001, { tQEntry with launch := some 25000001 }, [], { tQueuedFar with regs := [(TIM_LAUNCH_MAX_WAIT, 5)], net := { egress := [(0, { queues := [[{ tQEntry with launch := some 25000001 }]] })] } }, (by decide +kernel), (by decide +kernel), (by decide +kernel), (by decide +kernel), (by decide +kernel)⟩

theorem wit_GatesAndLaunchTimes_6 : ∃ (p : Nat) (_a : Nat) (l : GateList) (s : State), s.serving = true ∧ (s.gatesOf p).oper = some l ∧ (s.gatesOf p).held = none :=
  ⟨0, 0, tGateList, { tLive [] with net := { gates := [(0, { oper := some tGateList })] } }, by decide, by decide, by decide⟩

theorem wit_GatesAndLaunchTimes_7 : ∃ (p : Nat) (_a : Nat) (l : GateList) (h : Nat) (s : State), s.serving = true ∧ (s.gatesOf p).oper = some l ∧ (s.gatesOf p).held = some h :=
  ⟨0, 0, tGateList, 5, { tLive [] with net := { gates := [(0, { oper := some tGateList, held := some 5 })] } }, by decide, by decide, by decide⟩

theorem wit_GatesAndLaunchTimes_8 : ∃ (p : Nat) (a : Nat) (l : GateList) (k : Nat) (s : State), s.serving = true ∧ (s.gatesOf p).admin = some (l, k) ∧ k ≤ s.portNow p a :=
  ⟨0, 0, tGateList, 0, { tLive [] with net := { gates := [(0, { admin := some (tGateList, 0) })] } }, by decide, by decide, by decide⟩

theorem wit_GatesAndLaunchTimes_9 : ∃ (p : Nat) (a : Nat) (l : GateList) (k : Nat) (s : State), s.serving = true ∧ (s.gatesOf p).admin = some (l, k) ∧ k ≤ s.portNow p a :=
  ⟨0, 0, tGateList, 0, { tLive [] with net := { gates := [(0, { admin := some (tGateList, 0) })] } }, by decide, by decide, by decide⟩

theorem wit_GnssPortsAndBus_1 : ∃ (_p : Nat) (ds : List Int) (s : State), s.serving = true ∧ clockBad 1000 ds = true :=
  ⟨0, List.replicate 40 1500, tLive [], by decide, by decide⟩

theorem wit_GnssPortsAndBus_2 : ∃ (_p : Nat) (ds : List Int) (s : State), s.serving = true ∧ clockGood 1000 ds = true :=
  ⟨3, List.replicate 40 (-1000), tLive [], by decide, by decide⟩

theorem wit_GnssPortsAndBus_3 : ∃ (_v : Word) (s : State), s.mainLive = true ∧ s.get GNS_SPI_CTRL_GO = 0 :=
  ⟨0x8104, tLive [], by decide, by decide⟩

theorem wit_GnssPortsAndBus_4 : ∃ (_v : Word) (s : State), s.mainLive = true ∧ s.get GNS_SPI_CTRL_GO = 1 :=
  ⟨0x8104, tLive [(GNS_SPI_CTRL, 0x8800)], by decide, by decide⟩

theorem wit_GnssPortsAndBus_5 : ∃ (_b : Nat) (s : State), s.serving = true ∧ s.get GNS_SPI_CTRL_GO = 1 :=
  ⟨0xAB, tLive [(GNS_SPI_CTRL, 0x8800)], by decide, by decide⟩

theorem wit_GnssPortsAndBus_6 : ∃ (p : Nat) (s : State), s.serving = true ∧ s.flag (GNS_PORT_STAT_JAM p) = false ∧ s.agcRose p = true ∧ 96 ≤ s.cn0Fall p :=
  ⟨1, tJam, (by decide +kernel), (by decide +kernel), (by decide +kernel), (by decide +kernel)⟩

theorem wit_GnssPortsAndBus_7 : ∃ (p : Nat) (s : State), s.serving = true ∧ s.flag (GNS_PORT_STAT_JAM p) = true ∧ (match tget s.gns.jamAt p with | some n => decide (n + 4000 ≤ s.now) | none => true) = true :=
  ⟨1, { tLive [(GNS_PORT_STAT 1, 0xFFFFFFFF)] with sn := 4005, gns := { jamAt := [(1, 5)] } }, (by decide +kernel), (by decide +kernel), (by decide +kernel)⟩

theorem wit_GnssPortsAndBus_8 : ∃ (_g : Nat) (_p : Nat) (s : State), s.serving = true :=
  ⟨0, 7, tLive [], by decide⟩

theorem wit_MeasurementEpochs_1 : ∃ (_vs : List SatView) (s : State), s.serving = true ∧ s.gns.tracks.length ≤ 512 :=
  ⟨[], tLive [], by decide, by decide⟩

theorem wit_MeasurementEpochs_2 : ∃ (_ms : List Meas) (s : State), s.serving = true ∧ s.now % 200 = 0 :=
  ⟨[], { tLive [] with sn := 400 }, by decide, by decide⟩

theorem wit_MeasurementEpochs_3 : ∃ (_x : Solution) (n : Nat) (ms : List Meas) (s : State), s.serving = true ∧ s.gns.latched = some (n, ms) :=
  ⟨tSolution, 200, [], { tLive [] with gns := { latched := some (200, []) } }, by decide, by decide⟩

theorem wit_MeasurementEpochs_4 : ∃ (x : Checked) (s : State), s.serving = true ∧ s.gns.checked = some x ∧ x.sn + 2 ≤ s.now ∧ s.now ≤ x.sn + 4 ∧ x.tracked = true :=
  ⟨tChecked, { tLive [] with sn := 203, gns := { checked := some tChecked } }, by decide, by decide, by decide, by decide, by decide⟩

theorem wit_MeasurementEpochs_5 : ∃ (e : Nat) (s : State), s.serving = true ∧ s.missingEpoch = some e :=
  ⟨200, { tLive [] with sn := 204, gns := { latched := some (200, []) } }, by decide, by decide⟩

theorem wit_MeasurementEpochs_6 : ∃ (e : Nat) (ms : List Meas) (s : State), s.gns.latched = some (e, ms) :=
  ⟨200, [], { tLive [] with sn := 204, gns := { latched := some (200, []) } }, by decide⟩

theorem wit_MeasurementEpochs_7 : ∃ (c : Nat) (p : Nat) (k : Nat) (b : List Byte) (_a : Option (List Byte)) (_v : Option Int) (_l : Option (Int × Nat)) (s : State), s.serving = true ∧ ((s.gns.eph.any fun x => x.cst == c && x.prn == p) && decide (10 < k) && !(s.gns.rejected.any fun x => x.1 == ⟨c, p, b⟩)) = false :=
  ⟨0, 5, 3, [1], none, none, none, tLive [], by decide, by decide⟩

theorem wit_MeasurementEpochs_8 : ∃ (c : Nat) (p : Nat) (k : Nat) (b : List Byte) (_a : Option (List Byte)) (_v : Option Int) (_l : Option (Int × Nat)) (s : State), s.serving = true ∧ 10 < k ∧ (s.gns.eph.any fun x => x.cst == c && x.prn == p) = true ∧ (s.gns.rejected.any fun x => x.1 == ⟨c, p, b⟩) = false :=
  ⟨0, 5, 11, [1], none, none, none, { tLive [] with gns := { eph := [⟨0, 5, [2]⟩] } }, by decide, by decide, by decide, by decide⟩

theorem wit_MeasurementEpochs_9 : ∃ (v : Survey) (s : State), s.serving = true ∧ s.gns.survey = some v ∧ v.slowSaid = false ∧ s.num GNS_SURVEY_MAX_S ≤ v.seconds s.gns.upPeriods :=
  ⟨⟨0, (0, 0, 0), 0, 0, false⟩, { tLive [(GNS_SURVEY_MAX_S, 1)] with gns := { upPeriods := 4000, survey := some ⟨0, (0, 0, 0), 0, 0, false⟩ } }, by decide, by decide, by decide, by decide⟩

theorem wit_MeasurementEpochs_10 : ∃ (s : State), s.mainLive = true ∧ s.flag GNS_CFG_ARP_MODE = true :=
  ⟨tLive [(GNS_CFG, 0xFFFFFFFF)], by decide, by decide⟩

theorem wit_MeasurementEpochs_11 : ∃ (s : State), s.mainLive = true :=
  ⟨tLive [], by decide⟩

theorem wit_MeasurementEpochs_12 : ∃ (s : State), s.serving = true ∧ s.gns.lost = false ∧ 20 ≤ s.gns.noOffer ∧ s.flag GNS_STATUS_TIME_VALID = true :=
  ⟨{ tLive [(GNS_STATUS, 0xFFFFFFFF), (TIM_STATUS, 6)] with gns := { noOffer := 20 } }, by decide, by decide, by decide, by decide⟩

theorem wit_BaselineSolvesAndCorrects_1 : ∃ (j : Job) (n : Nat) (s : State) (v : State), s.serving = true ∧ s.work 0x0C 0 = some j ∧ v = { s with sn := j.sn } ∧ v.bsl.toEncode = some n ∧ v.baseSet n = none :=
  ⟨periodicJob 100 0 0x0C 0 0 true false, 4000, tWork 0x0C 0 { tLive [] with bsl := { toEncode := some 4000, sets := [] } }, tWork 0x0C 0 { tLive [] with bsl := { toEncode := some 4000, sets := [] } }, by decide, (by decide +kernel), (rfl), by decide, (by decide +kernel)⟩

theorem wit_BaselineSolvesAndCorrects_2 : ∃ (j : Job) (n : Nat) (x : BaseSet) (s : State) (v : State), s.serving = true ∧ s.work 0x0C 0 = some j ∧ v = { s with sn := j.sn } ∧ v.bsl.toEncode = some n ∧ v.baseSet n = some x ∧ (bit x.flags 0 = false ∨ bit x.flags 2 = true) :=
  ⟨periodicJob 100 0 0x0C 0 0 true false, 4000, { tSet with epochSn := 4000, flags := 0 }, tWork 0x0C 0 { tLive [] with bsl := { toEncode := some 4000, sets := [{ tSet with epochSn := 4000, flags := 0 }] } }, tWork 0x0C 0 { tLive [] with bsl := { toEncode := some 4000, sets := [{ tSet with epochSn := 4000, flags := 0 }] } }, by decide, (by decide +kernel), (rfl), by decide, (by decide +kernel), by decide⟩

theorem wit_BaselineSolvesAndCorrects_3 : ∃ (j : Job) (n : Nat) (x : BaseSet) (s : State) (v : State) (u : State) (f : List (List Byte)), s.serving = true ∧ s.work 0x0C 0 = some j ∧ v = { s with sn := j.sn } ∧ v.bsl.toEncode = some n ∧ v.baseSet n = some x ∧ bit x.flags 0 = true ∧ bit x.flags 2 = false ∧ u = v.setBsl { v.bsl with toEncode := none, station := v.bsl.newStation.orElse fun _ => v.bsl.station, newStation := none } ∧ f = fragments (u.get BSL_CORR_FRAG_FRAG) (u.corrStream x).length (u.corrStream x) :=
  ⟨periodicJob 100 0 0x0C 0 0 true false, 4000, { tSet with epochSn := 4000, flags := 1 }, tWork 0x0C 0 { tLive [] with bsl := { toEncode := some 4000, sets := [{ tSet with epochSn := 4000, flags := 1 }] } }, tWork 0x0C 0 { tLive [] with bsl := { toEncode := some 4000, sets := [{ tSet with epochSn := 4000, flags := 1 }] } }, tEncU, fragments (tEncU.get BSL_CORR_FRAG_FRAG) (tEncU.corrStream ({ tSet with epochSn := 4000, flags := 1 })).length (tEncU.corrStream ({ tSet with epochSn := 4000, flags := 1 })), by decide, (by decide +kernel), (rfl), by decide, (by decide +kernel), by decide, by decide, (rfl), (rfl)⟩

theorem wit_BaselineSolvesAndCorrects_4 : ∃ (f : FleetIn) (c : Nat) (s : State), s.serving = true ∧ (s.flt.inbox.find? fun f => f.typ == 0x20) = some f ∧ s.flag BSL_CFG_ENABLE = true ∧ (s.setFlt { s.flt with inbox := s.flt.inbox.erase f }).obsCause f = some c :=
  ⟨tRawobs, 1, { tLive [(BSL_CFG, 0xFFFFFFFF)] with flt := { inbox := [tRawobs] } }, by decide, by decide, by decide, by decide⟩

theorem wit_BaselineSolvesAndCorrects_5 : ∃ (f : FleetIn) (s : State) (v : State), s.serving = true ∧ (s.flt.inbox.find? fun f => f.typ == 0x20) = some f ∧ s.flag BSL_CFG_ENABLE = true ∧ v = s.setFlt { s.flt with inbox := s.flt.inbox.erase f } ∧ v.obsCause f = none :=
  ⟨tObs, tObsIn, tObsIn.setFlt { tObsIn.flt with inbox := [] }, (by decide +kernel), (by decide +kernel), (by decide +kernel), (rfl), (by decide +kernel)⟩

theorem wit_BaselineSolvesAndCorrects_6 : ∃ (r : Nat) (v : Rover) (w : Solve) (_x : RoverSol) (s : State), s.serving = true ∧ tget s.bsl.rovers r = some v ∧ v.running = some w ∧ (!s.shadows && (decide (w.deadline < s.sn) || (w.deadline == s.sn && s.disp.closed))) = false :=
  ⟨1, { running := some ⟨200, 210, 300, [], 0, []⟩ }, ⟨200, 210, 300, [], 0, []⟩, tRoverSol, { tLive [] with bsl := { rovers := [(1, { running := some ⟨200, 210, 300, [], 0, []⟩ })] } }, by decide, by decide, by decide, by decide⟩

theorem wit_BaselineSolvesAndCorrects_7 : ∃ (r : Nat) (v : Rover) (w : Solve) (_x : RoverSol) (s : State), s.serving = true ∧ tget s.bsl.rovers r = some v ∧ v.running = some w ∧ (!s.shadows && (decide (w.deadline < s.sn) || (w.deadline == s.sn && s.disp.closed))) = true :=
  ⟨1, { running := some ⟨200, 210, 99, [], 0, []⟩ }, ⟨200, 210, 99, [], 0, []⟩, tRoverSol, { tLive [] with bsl := { rovers := [(1, { running := some ⟨200, 210, 99, [], 0, []⟩ })] } }, by decide, by decide, by decide, by decide⟩

theorem wit_BaselineSolvesAndCorrects_8 : ∃ (d : Desc) (s : State), Runs s d ∧ s.centralRobot (d.op 32 1) = true ∧ bit (d.op 33 1) 0 = false :=
  ⟨tDesc 28 0x7001 [3, 2], tCentral, runs_of (by decide), by decide, by decide⟩

theorem wit_BaselineSolvesAndCorrects_9 : ∃ (d : Desc) (s : State), Runs s d ∧ s.centralRobot (d.op 32 1) = true ∧ bit (d.op 33 1) 0 = true :=
  ⟨tDesc 28 0x7001 [3, 3], tCentral, runs_of (by decide), by decide, by decide⟩

theorem wit_BaselineSolvesAndCorrects_10 : ∃ (d : Desc) (s : State), Runs s d ∧ s.centralRobot (d.op 32 1) = false :=
  ⟨tDesc 28 0x7001 [3], tLive [], runs_of (by decide), by decide⟩

theorem wit_BaselineSolvesAndCorrects_11 : ∃ (d : Desc) (s : State), Runs s d ∧ s.centralRobot (d.op 32 1) = true :=
  ⟨{ tDesc 28 0x7002 [3] with bufLen := 64 }, tCentral, runs_of (by decide), by decide⟩

theorem wit_BaselineSolvesAndCorrects_12 : ∃ (d : Desc) (x : BaseSet) (s : State), Runs s d ∧ s.baseSet (d.op 32 8) = some x :=
  ⟨{ tDesc 28 0x7003 [200] with bufLen := 4096 }, tSet, { tLive [] with bsl := { sets := [tSet] } }, runs_of (by decide), by decide⟩

theorem wit_BaselineSolvesAndCorrects_13 : ∃ (d : Desc) (s : State), Runs s d ∧ s.baseSet (d.op 32 8) = none :=
  ⟨{ tDesc 28 0x7003 [200] with bufLen := 4096 }, tLive [], runs_of (by decide), by decide⟩

theorem wit_BaselineSolvesAndCorrects_14 : ∃ (d : Desc) (s : State), Runs s d :=
  ⟨{ tDesc 28 0x7004 [] with bufLen := 16, buf := List.replicate 16 0 }, tLive [], runs_of (by decide)⟩

theorem wit_RadioPortsAndCalibration_1 : ∃ (_p : Nat) (ds : List Int) (s : State), s.serving = true ∧ clockBad 2000 ds = true :=
  ⟨2, List.replicate 40 2500, tLive [], by decide, by decide⟩

theorem wit_RadioPortsAndCalibration_3 : ∃ (_p : Nat) (ds : List Int) (s : State), s.serving = true ∧ clockGood 2000 ds = true :=
  ⟨7, List.replicate 40 (-2000), tLive [], by decide, by decide⟩

theorem wit_RadioPortsAndCalibration_4 : ∃ (p : Nat) (_v : Word) (s : State), s.mainLive = true ∧ s.get (RAD_SPI_CTRL_GO p) = 0 :=
  ⟨1, 0xA104, tLive [], by decide, by decide⟩

theorem wit_RadioPortsAndCalibration_5 : ∃ (p : Nat) (_v : Word) (s : State), s.mainLive = true ∧ s.get (RAD_SPI_CTRL_GO p) = 1 :=
  ⟨1, 0xA104, tLive [(RAD_SPI_CTRL 1, 0x8800)], by decide, by decide⟩

theorem wit_RadioPortsAndCalibration_6 : ∃ (p : Nat) (_b : Nat) (s : State), s.serving = true ∧ s.get (RAD_SPI_CTRL_GO p) = 1 :=
  ⟨1, 0x1FF, tLive [(RAD_SPI_CTRL 1, 0x8800)], by decide, by decide⟩

theorem wit_RadioPortsAndCalibration_7 : ∃ (v : Word) (s : State), bitsOf v 8 1 = 1 ∧ (s.dev = .setup ∨ s.dev = .quiet) ∧ s.get RAD_CAL_STAT_BUSY = 0 :=
  ⟨0x105, tSetup [] [], by decide, by decide, by decide⟩

theorem wit_RadioPortsAndCalibration_8 : ∃ (_r : Nat) (_l : Nat) (_a : Word) (_b : Word) (_c : Word) (p : Nat) (s : State), s.serving = true ∧ s.rad.calPort = some p :=
  ⟨400, 300, 1, 2, 3, 5, { tSetup [] [] with rad := { calPort := some 5 } }, by decide, by decide⟩

theorem wit_FramesOnAirAndReceived_1 : ∃ (p : Nat) (c : Nat) (ns : Nat) (k : Nat) (h : Nat) (s : State), s.serving = true ∧ s.get (RAD_RX_CFG_ENABLE p c) = 1 ∧ s.get (RAD_PORT_CFG_ENABLE p) = 1 ∧ s.get (RAD_PORT_STAT_CLK_OK p) = 1 ∧ s.blanked p (absNs s.sn ns) = false ∧ s.rad.lanes.any (fun l => l.port == p && l.ch == c) = false ∧ modeInfo (s.get (RAD_RX_CFG_MODE p c)) = some (k, h) :=
  ⟨0, 0, 0, 0, 10, tRadio, by decide, by decide, by decide, by decide, (by decide +kernel), by decide, (by decide +kernel)⟩

theorem wit_FramesOnAirAndReceived_2 : ∃ (p : Nat) (_c : Nat) (ns : Nat) (s : State), s.serving = true ∧ s.blanked p (absNs s.sn ns) = true :=
  ⟨0, 0, 0, { tLive [] with rad := { blankTo := [(0, 10 ^ 12)] } }, by decide, (by decide +kernel)⟩

theorem wit_FramesOnAirAndReceived_3 : ∃ (f : RxFrame) (_air : RxAir) (_ok : Bool) (_w : Nat) (s : State), s.serving = true ∧ (s.rad.lanes.any fun l => l.port == f.port && l.ch == f.ch) = true :=
  ⟨tRx, .cfl [] [], true, 10, tLaned, by decide, (by decide +kernel)⟩

theorem wit_FramesOnAirAndReceived_4 : ∃ (g : RxFrame) (_ok : Bool) (_w : Nat) (u : State), u.role ≠ .standby ∧ u.meshChanOf g.port g.ch = none ∧ (u.fleetChanOf g.port g.ch).isSome = true :=
  ⟨tRx, true, 10, tLaneFreed, by decide, (by decide +kernel), (by decide +kernel)⟩

theorem wit_FramesOnAirAndReceived_5 : ∃ (o : TxOwner) (p : Nat) (c : Nat) (n : Nat) (ns : Nat) (m : Nat) (k : Nat) (a : Nat) (b : List Byte) (s : State) (w : State) (x : Tx), s.serving = true ∧ w = s.sweepTx (absNs s.sn a) ∧ x = { id := w.rad.nextTx, owner := o, port := p, ch := c, sn := n, ns := ns, len := airNs (w.get (RAD_TX_CFG_MODE p c)) m b.length k, mcs := m, bytes := b } ∧ w.txAllowed o = true ∧ w.flag (RAD_TX_CFG_ENABLE p c) = true ∧ w.flag (RAD_PORT_CFG_ENABLE p) = true ∧ frameFits (w.get (RAD_TX_CFG_MODE p c)) m b.length = true ∧ absNs s.sn a ≤ w.txStart x - w.get (RAD_PORT_LAT_TX p) ∧ w.rad.tx.filter (fun y => w.txOverlap x y) = [] :=
  ⟨.beacon 0 0, 0, 0, 102, 0, 0, 1000, 0, [1, 2], (tTxPort []), (tTxPort []), { id := 0, owner := .beacon 0 0, port := 0, ch := 0, sn := 102, ns := 0, len := airNs 0 0 2 1000, mcs := 0, bytes := [1, 2] }, by decide, (by decide +kernel), (by decide +kernel), (by decide +kernel), (by decide +kernel), (by decide +kernel), (by decide +kernel), (by decide +kernel), (by decide +kernel)⟩

theorem wit_FramesOnAirAndReceived_6 : ∃ (o : TxOwner) (p : Nat) (c : Nat) (n : Nat) (ns : Nat) (m : Nat) (k : Nat) (a : Nat) (b : List Byte) (s : State) (w : State) (x : Tx), s.serving = true ∧ w = s.sweepTx (absNs s.sn a) ∧ x = { id := w.rad.nextTx, owner := o, port := p, ch := c, sn := n, ns := ns, len := airNs (w.get (RAD_TX_CFG_MODE p c)) m b.length k, mcs := m, bytes := b } ∧ (w.txAllowed o && w.flag (RAD_TX_CFG_ENABLE p c) && w.flag (RAD_PORT_CFG_ENABLE p) && frameFits (w.get (RAD_TX_CFG_MODE p c)) m b.length && decide (absNs s.sn a ≤ w.txStart x - w.get (RAD_PORT_LAT_TX p))) = false :=
  ⟨.beacon 0 0, 0, 0, 99, 0, 0, 1000, 0, [1, 2], (tTxPort []), (tTxPort []), { id := 0, owner := .beacon 0 0, port := 0, ch := 0, sn := 99, ns := 0, len := airNs 0 0 2 1000, mcs := 0, bytes := [1, 2] }, by decide, (by decide +kernel), (by decide +kernel), (by decide +kernel)⟩

theorem wit_FramesOnAirAndReceived_7 : ∃ (o : TxOwner) (p : Nat) (c : Nat) (n : Nat) (ns : Nat) (m : Nat) (k : Nat) (a : Nat) (b : List Byte) (s : State) (w : State) (x : Tx), s.serving = true ∧ w = s.sweepTx (absNs s.sn a) ∧ x = { id := w.rad.nextTx, owner := o, port := p, ch := c, sn := n, ns := ns, len := airNs (w.get (RAD_TX_CFG_MODE p c)) m b.length k, mcs := m, bytes := b } ∧ w.txAllowed o = true ∧ w.flag (RAD_TX_CFG_ENABLE p c) = true ∧ w.flag (RAD_PORT_CFG_ENABLE p) = true ∧ frameFits (w.get (RAD_TX_CFG_MODE p c)) m b.length = true ∧ absNs s.sn a ≤ w.txStart x - w.get (RAD_PORT_LAT_TX p) ∧ w.rad.tx.filter (fun y => w.txOverlap x y) ≠ [] :=
  ⟨.beacon 0 0, 0, 0, 102, 0, 0, 1000, 0, [1, 2], (tTxPort [{ tTx with sn := 102, len := 10 ^ 6 }]), (tTxPort [{ tTx with sn := 102, len := 10 ^ 6 }]), { id := 0, owner := .beacon 0 0, port := 0, ch := 0, sn := 102, ns := 0, len := airNs 0 0 2 1000, mcs := 0, bytes := [1, 2] }, by decide, (by decide +kernel), (by decide +kernel), (by decide +kernel), (by decide +kernel), (by decide +kernel), (by decide +kernel), (by decide +kernel), (by decide +kernel)⟩

theorem wit_FramesOnAirAndReceived_8 : ∃ (n : Nat) (m : Nat) (x : Tx) (s : State) (u : State) (t : State), s.serving = true ∧ (s.rad.tx.find? fun t => t.id == n && !t.onAir) = some x ∧ s.get (RAD_PORT_STAT_CLK_OK x.port) ≠ 0 ∧ s.txAllowed x.owner = true ∧ u = (s.sweepTx (s.txStart x)).clipTx x.port m ∧ t = ((u.setRad { u.rad with tx := u.rad.tx.map fun v => if v.id = n then { v with onAir := true } else v }).airs x).raiseLines x :=
  ⟨4, 0, tTx, { tLive [(RAD_PORT_STAT 0, 0xFFFFFFFF)] with rad := { tx := [tTx] } }, _, _, by decide, (by decide +kernel), by decide, by decide, (rfl), (rfl)⟩

theorem wit_FramesOnAirAndReceived_9 : ∃ (n : Nat) (_m : Nat) (x : Tx) (s : State), s.serving = true ∧ (s.rad.tx.find? fun t => t.id == n && !t.onAir) = some x ∧ (s.get (RAD_PORT_STAT_CLK_OK x.port) = 0 ∨ s.txAllowed x.owner = false) :=
  ⟨4, 0, tTx, { tLive [] with rad := { tx := [tTx] } }, by decide, (by decide +kernel), by decide⟩

theorem wit_FleetMacBuildsAndAccepts_1 : ∃ (j : Job) (s : State) (v : State), s.serving = true ∧ s.work 0x0B 0 = some j ∧ v = { s with sn := j.sn } ∧ v.flag FLT_CFG_ENABLE = true ∧ 1 ≤ (v.sn + 1) % 40 ∧ (v.sn + 1) % 40 < 4 :=
  ⟨periodicJob 40 0 0x0B 0 (workCls 0x0B) true false, (tWork 0x0B 0 { tLive [(FLT_CFG, 0xFFFFFFFF)] with sn := 40 }), (tWork 0x0B 0 { tLive [(FLT_CFG, 0xFFFFFFFF)] with sn := 40 }), by decide, (by decide +kernel), (rfl), by decide, by decide, by decide⟩

theorem wit_FleetMacBuildsAndAccepts_2 : ∃ (j : Job) (s : State) (v : State), s.serving = true ∧ s.work 0x0B 0 = some j ∧ v = { s with sn := j.sn } ∧ v.flag FLT_CFG_ENABLE = true ∧ (v.sn + 1) % 40 = 0 :=
  ⟨periodicJob 39 0 0x0B 0 (workCls 0x0B) true false, (tWork 0x0B 0 { tLive [(FLT_CFG, 0xFFFFFFFF)] with sn := 39 }), (tWork 0x0B 0 { tLive [(FLT_CFG, 0xFFFFFFFF)] with sn := 39 }), by decide, (by decide +kernel), (rfl), by decide, by decide⟩

theorem wit_FleetMacBuildsAndAccepts_3 : ∃ (j : Job) (s : State) (v : State), s.serving = true ∧ s.work 0x0B 0 = some j ∧ v = { s with sn := j.sn } ∧ v.flag FLT_CFG_ENABLE = true ∧ 36 ≤ (v.sn + 1) % 40 :=
  ⟨periodicJob 38 0 0x0B 0 (workCls 0x0B) true false, (tWork 0x0B 0 { tLive [(FLT_CFG, 0xFFFFFFFF)] with sn := 38 }), (tWork 0x0B 0 { tLive [(FLT_CFG, 0xFFFFFFFF)] with sn := 38 }), by decide, (by decide +kernel), (rfl), by decide, by decide⟩

theorem wit_FleetMacBuildsAndAccepts_4 : ∃ (j : Job) (s : State), s.serving = true ∧ s.work 0x0B 0 = some j ∧ (({ s with sn := j.sn } : State).flag FLT_CFG_ENABLE = false ∨ 4 ≤ (j.sn + 1) % 40 ∧ (j.sn + 1) % 40 < 36) :=
  ⟨periodicJob 50 0 0x0B 0 (workCls 0x0B) true false, (tWork 0x0B 0 { tLive [(FLT_CFG, 0xFFFFFFFF)] with sn := 50 }), by decide, (by decide +kernel), (by decide +kernel)⟩

theorem wit_FleetMacBuildsAndAccepts_5 : ∃ (_k : Bool) (f : RxFrame) (j : Job) (c : Nat) (v : State) (s : State), s.serving = true ∧ s.nextIntake (fun p => decide (32 ≤ p) && decide (p < 40)) (fun f => isCfl f.mode) = some (j, f) ∧ v = { s.takeIntake f with sn := j.sn } ∧ v.fleetChanOf f.port f.ch = some c :=
  ⟨true, tRx, tIntakeJob 32 3, 0, { (tIntake 32 3 tRxed).takeIntake tRx with sn := 100 }, tIntake 32 3 tRxed, by decide, (by decide +kernel), (rfl), (by decide +kernel)⟩

theorem wit_FleetMacBuildsAndAccepts_6 : ∃ (r : Nat) (x : Robot) (s : State), s.serving = true ∧ s.robot? r = some x ∧ x.silent = false ∧ (x.specsAt (s.sn / 40)).isEmpty = false ∧ s.get FLT_SILENT_SF_SUPERFRAMES ≤ s.sn / 40 - x.lastSn.getD x.enrolSn / 40 :=
  ⟨3, tSilent, { tLive [(FLT_SILENT_SF, 1)] with flt := { robots := [(3, tSilent)] } }, by decide, by decide, by decide, by decide, by decide⟩

theorem wit_FleetMacBuildsAndAccepts_7 : ∃ (s : State), s.serving = true :=
  ⟨tLive [], by decide⟩

theorem wit_FleetRobotCommands_1 : ∃ (d : Desc) (s : State), Runs s d ∧ s.chanOn (d.op 33 1) = true ∧ s.robot? (d.op 32 1) = none :=
  ⟨tDesc 0 0x0210 [3, 0, 1], tLive [(FLT_CHAN 0, 1)], runs_of (by decide), (by decide +kernel), by decide⟩

theorem wit_FleetRobotCommands_2 : ∃ (d : Desc) (s : State), Runs s d ∧ s.chanOn (d.op 33 1) = false :=
  ⟨tDesc 0 0x0210 [3, 0, 1], tLive [], runs_of (by decide), (by decide +kernel)⟩

theorem wit_FleetRobotCommands_3 : ∃ (d : Desc) (x : Robot) (s : State), Runs s d ∧ s.chanOn (d.op 33 1) = true ∧ s.robot? (d.op 32 1) = some x ∧ bit (d.op 37 1) 0 = false :=
  ⟨tDesc 0 0x0210 [3, 0, 1], tSilent, { tLive [(FLT_CHAN 0, 1)] with flt := { robots := [(3, tSilent)] } }, runs_of (by decide), (by decide +kernel), by decide, by decide⟩

theorem wit_FleetRobotCommands_4 : ∃ (d : Desc) (x : Robot) (s : State), Runs s d ∧ s.chanOn (d.op 33 1) = true ∧ s.robot? (d.op 32 1) = some x ∧ bit (d.op 37 1) 0 = true :=
  ⟨tDesc 0 0x0210 [3, 0, 1, 0, 0, 1], tSilent, { tLive [(FLT_CHAN 0, 1)] with flt := { robots := [(3, tSilent)] } }, runs_of (by decide), (by decide +kernel), by decide, by decide⟩

theorem wit_FleetRobotCommands_5 : ∃ (d : Desc) (x : Robot) (o : Nat) (i : Nat) (s : State), Runs s d ∧ s.robot? (d.op 32 1) = some x ∧ s.firstClash (d.op 32 1) x.home (readSpecs d.buf) = some (o, i) :=
  ⟨{ tDesc 0 0x0211 [3] with bufLen := 12, buf := [1, 0, 0, 0, 4, 0, 1, 0, 0, 0, 0, 0] }, tSilent, 4, 0, { tLive [(FLT_CHAN 0, 1)] with flt := { robots := [(3, tSilent), (4, tSilent)] } }, runs_of (by decide), by decide, (by decide +kernel)⟩

theorem wit_FleetRobotCommands_6 : ∃ (d : Desc) (x : Robot) (s : State), Runs s d ∧ s.robot? (d.op 32 1) = some x ∧ s.firstClash (d.op 32 1) x.home (readSpecs d.buf) = none :=
  ⟨{ tDesc 0 0x0211 [3] with bufLen := 12, buf := [1, 0, 0, 0, 4, 0, 1, 0, 0, 0, 0, 0] }, tSilent, { tLive [(FLT_CHAN 0, 1)] with flt := { robots := [(3, tSilent)] } }, runs_of (by decide), by decide, by decide⟩

theorem wit_FleetRobotCommands_7 : ∃ (d : Desc) (x : Robot) (s : State), Runs s d ∧ s.robot? (d.op 32 1) = some x :=
  ⟨tDesc 0 0x0212 [3], tSilent, { tLive [(FLT_CHAN 0, 1)] with flt := { robots := [(3, tSilent)] } }, runs_of (by decide), by decide⟩

theorem wit_FleetRobotCommands_8 : ∃ (d : Desc) (x : Robot) (s : State), Runs s d ∧ s.robot? (d.op 32 1) = some x :=
  ⟨{ tDesc 0 0x0213 [3] with bufLen := 32 }, tSilent, { tLive [(FLT_CHAN 0, 1)] with flt := { robots := [(3, tSilent)] } }, runs_of (by decide), by decide⟩

theorem wit_FleetRobotCommands_9 : ∃ (d : Desc) (s : State), Runs s d ∧ s.robot? (d.op 32 1) = none :=
  ⟨tDesc 0 0x0212 [3], tLive [], runs_of (by decide), by decide⟩

theorem wit_AllotmentChecks_1 : ∃ (d : Desc) (s : State), Runs s d ∧ s.altItems = 0 ∧ roadmapBad d.buf d.bufLen = none :=
  ⟨tRoadLoad, tLive [], runs_of (by decide), by decide, (by decide +kernel)⟩

theorem wit_AllotmentChecks_2 : ∃ (d : Desc) (s : State), Runs s d ∧ s.altItems ≠ 0 :=
  ⟨tRoadLoad, { tLive [] with alt := { robots := [(3, { chain := [⟨1, 0, 0, 0, 500, false, false, 0⟩] })] } }, runs_of (by decide), by decide⟩

theorem wit_AllotmentChecks_3 : ∃ (f : FleetIn) (j : Job) (t : Nat) (r : Nat) (a : Nat) (q : Nat) (v : State) (u : State) (s : State), s.serving = true ∧ s.nextElem (fun t => t == 0x21) = some j ∧ j.src = .element t r a q ∧ v = { s with sn := j.sn } ∧ v.takeElem t r a q = some (u, f) :=
  ⟨tClaim, tElemJob tClaim, 0x21, 9, 90, 1, { tClaimed with sn := 100 }, ({ tClaimed with sn := 100 } : State).setFlt { tClaimed.flt with inbox := [] }, tClaimed, by decide, (by decide +kernel), (rfl), (rfl), (by decide +kernel)⟩

theorem wit_AllotmentChecks_4 : ∃ (f : FixIn) (j : Job) (r : Nat) (a : Nat) (q : Nat) (v : State) (s : State), s.serving = true ∧ s.nextElem (fun t => t == 0x22 || t == 0x06) = some j ∧ j.src = .element 0x06 r a q ∧ v = { s with sn := j.sn } ∧ (v.bsl.fixes.find? fun f => f.robot == r && f.sn == a) = some f :=
  ⟨⟨90, 9, []⟩, tElemJob tFixElem, 9, 90, 1, { tFixed with sn := 100 }, tFixed, by decide, (by decide +kernel), (rfl), (rfl), (by decide +kernel)⟩

theorem wit_AllotmentChecks_5 : ∃ (f : FleetIn) (j : Job) (t : Nat) (r : Nat) (a : Nat) (q : Nat) (v : State) (u : State) (s : State), s.serving = true ∧ s.nextElem (fun t => t == 0x22 || t == 0x06) = some j ∧ j.src = .element t r a q ∧ t ≠ 0x06 ∧ v = { s with sn := j.sn } ∧ v.takeElem t r a q = some (u, f) :=
  ⟨{ tClaim with typ := 0x22 }, tElemJob { tClaim with typ := 0x22 }, 0x22, 9, 90, 1, { tOwnFix with sn := 100 }, ({ tOwnFix with sn := 100 } : State).setFlt { tOwnFix.flt with inbox := [] }, tOwnFix, by decide, (by decide +kernel), (rfl), by decide, (rfl), (by decide +kernel)⟩

theorem wit_AllotmentChecks_6 : ∃ (j : Job) (s : State) (v : State), s.serving = true ∧ s.work 0x0D 0 = some j ∧ v = { s with sn := j.sn } ∧ v.flag ALT_CFG_ENABLE = true :=
  ⟨periodicJob 100 0 0x0D 0 (workCls 0x0D) true false, tWork 0x0D 0 (tLive [(ALT_CFG, 0xFFFFFFFF)]), tWork 0x0D 0 (tLive [(ALT_CFG, 0xFFFFFFFF)]), by decide, (by decide +kernel), (rfl), by decide⟩

theorem wit_AllotmentChecks_7 : ∃ (j : Job) (s : State), s.serving = true ∧ s.work 0x0D 0 = some j ∧ ({ s with sn := j.sn } : State).flag ALT_CFG_ENABLE = false :=
  ⟨periodicJob 100 0 0x0D 0 (workCls 0x0D) true false, tWork 0x0D 0 (tLive [(ALT_CFG, 0)]), by decide, (by decide +kernel), by decide⟩

theorem wit_AllotmentCommands_1 : ∃ (d : Desc) (s : State), Runs s d ∧ s.flag ALT_CFG_ENABLE = true ∧ (s.robot? (leAt d.buf 2 1)).isSome = true ∧ 24 ≤ d.bufLen :=
  ⟨{ tDesc 32 0x8002 [] with bufLen := 24, buf := [0, 0, 3] }, { tLive [(ALT_CFG, 0xFFFFFFFF)] with flt := { robots := [(3, tSilent)] } }, runs_of (by decide), by decide, by decide, by decide⟩

theorem wit_AllotmentCommands_2 : ∃ (d : Desc) (s : State), Runs s d ∧ s.flag ALT_CFG_ENABLE = false :=
  ⟨{ tDesc 32 0x8002 [] with bufLen := 24, buf := [0, 0, 3] }, tLive [(ALT_CFG, 0)], runs_of (by decide), by decide⟩

theorem wit_AllotmentCommands_3 : ∃ (d : Desc) (s : State), Runs s d ∧ s.flag ALT_CFG_ENABLE = true ∧ ((s.robot? (leAt d.buf 2 1)).isSome = false ∨ d.bufLen < 24) :=
  ⟨{ tDesc 32 0x8002 [] with bufLen := 24, buf := [0, 0, 3] }, tLive [(ALT_CFG, 0xFFFFFFFF)], runs_of (by decide), by decide, by decide⟩

theorem wit_AllotmentCommands_4 : ∃ (d : Desc) (s : State), Runs s d ∧ d.op 33 1 = 0 :=
  ⟨tDesc 32 0x8003 [3], tLive [], runs_of (by decide), by decide⟩

theorem wit_AllotmentCommands_5 : ∃ (d : Desc) (s : State), Runs s d ∧ d.op 33 1 ≠ 0 :=
  ⟨tDesc 32 0x8003 [3, 1], tLive [], runs_of (by decide), by decide⟩

theorem wit_AllotmentCommands_6 : ∃ (d : Desc) (m : Roadmap) (s : State), Runs s d ∧ s.alt.roadmap = some m ∧ d.op 34 2 < m.count (d.op 32 1) :=
  ⟨tDesc 32 0x8004 [1, 1], tRoad, { tLive [] with alt := { roadmap := some tRoad } }, runs_of (by decide), (rfl), (by decide +kernel)⟩

theorem wit_AllotmentCommands_7 : ∃ (d : Desc) (s : State), Runs s d :=
  ⟨{ tDesc 32 0x8005 [3] with bufLen := 32 }, tLive [], runs_of (by decide)⟩

theorem wit_AllotmentCommands_8 : ∃ (d : Desc) (m : Roadmap) (s : State), Runs s d ∧ s.alt.roadmap = some m ∧ m.count (d.op 32 1) ≤ d.op 34 2 :=
  ⟨tDesc 32 0x8004 [1, 1, 5], tRoad, { tLive [] with alt := { roadmap := some tRoad } }, runs_of (by decide), (rfl), (by decide +kernel)⟩

theorem wit_AllotmentCommands_9 : ∃ (d : Desc) (m : Roadmap) (s : State), Runs s d ∧ s.alt.roadmap = some m :=
  ⟨{ tDesc 32 0x8006 [1] with bufLen := 32 }, tRoad, { tLive [] with alt := { roadmap := some tRoad } }, runs_of (by decide), (rfl)⟩

theorem wit_AllotmentCommands_10 : ∃ (d : Desc) (s : State), Runs s d ∧ s.alt.roadmap = none :=
  ⟨{ tDesc 32 0x8006 [1] with bufLen := 32 }, tLive [], runs_of (by decide), by decide⟩

theorem wit_StopInputsAndOutputs_1 : ∃ (b : Bool) (h : Nat) (_ns : Nat) (s : State), s.serving = true ∧ s.get STP_CFG_FILTER ≤ h ∧ s.standsAt b false = false :=
  ⟨true, 100, 100, tLive [(STP_STATUS, 0)], by decide, by decide, by decide⟩

theorem wit_StopInputsAndOutputs_2 : ∃ (b : Bool) (h : Nat) (_ns : Nat) (s : State), s.serving = true ∧ s.get STP_CFG_FILTER ≤ h ∧ s.standsAt b true = false :=
  ⟨false, 100, 100, tLive [], by decide, by decide, by decide⟩

theorem wit_StopInputsAndOutputs_3 : ∃ (b : Bool) (r : Bool) (h : Nat) (_ns : Nat) (s : State), s.serving = true ∧ (h < s.get STP_CFG_FILTER ∨ s.standsAt b r = true) :=
  ⟨true, false, 3, 100, tLive [(STP_CFG, 0xFFFFFFFF)], by decide, by decide⟩

theorem wit_StopInputsAndOutputs_4 : ∃ (n : Nat) (c : Bool) (r : Bool) (h : Nat) (_ns : Nat) (s : State), s.mainLive = true ∧ s.serving = true ∧ 10 < h ∧ (n = 2 ∨ c ≠ r) :=
  ⟨0, true, false, 11, 5, tLive [], by decide, by decide, by decide, by decide⟩

theorem wit_StopInputsAndOutputs_5 : ∃ (_n : Nat) (_c : Bool) (_r : Bool) (h : Nat) (_ns : Nat) (_s : State), h ≤ 10 :=
  ⟨0, true, false, 10, 5, tLive [], by decide⟩

theorem wit_StopInputsAndOutputs_6 : ∃ (k : Nat) (s : State), s.serving = true ∧ s.stp.diffSn = some k ∧ s.num STP_DISCREP < s.now - k ∧ s.get STP_STATUS_DISCREP = 0 :=
  ⟨0, { tLive [(STP_DISCREP, 4)] with stp := { diffSn := some 0 } }, by decide, by decide, by decide, by decide⟩

theorem wit_StopInputsAndOutputs_7 : ∃ (s : State), s.stroked = true ∧ s.get STP_CFG_OUT_TEST_EN = 1 ∧ s.sn % 40000 = 0 ∧ s.flag STP_STATUS_OUT_A_RUN = true ∧ s.flag STP_STATUS_OUT_B_RUN = true ∧ s.outAllowed = true :=
  ⟨{ tLive [(STP_STATUS, 0x60), (STP_CFG, 0xFFFFFFFF)] with sn := 40000 }, by decide, by decide, by decide, by decide, by decide, by decide⟩

theorem wit_StopInputsAndOutputs_8 : ∃ (s : State), s.serving = true ∧ s.outAllowed = true :=
  ⟨tLive [(STP_STATUS, 0), (STP_CFG, 0)], by decide, by decide⟩

theorem wit_StopFramesAndCommands_1 : ∃ (s : State), s.serving = true :=
  ⟨tLive [], by decide⟩

theorem wit_StopFramesAndCommands_2 : ∃ (n : Nat) (c : CutFrame) (s : State), s.serving = true ∧ (s.stp.cut.find? fun c => c.chan == n && c.sn == s.sn) = some c ∧ s.get (RAD_PORT_STAT_CLK_OK (s.get (FLT_CHAN_PORT n))) ≠ 0 ∧ s.get (RAD_PORT_CFG_ENABLE (s.get (FLT_CHAN_PORT n))) ≠ 0 ∧ s.stopFramesAllowed c.robot.isNone = true :=
  ⟨0, tCut, { tLive [(RAD_PORT_STAT 0, 0xFFFFFFFF), (RAD_PORT_CFG 0, 0xFFFFFFFF)] with stp := { cut := [tCut] } }, by decide, by decide, by decide, by decide, by decide⟩

theorem wit_StopFramesAndCommands_3 : ∃ (k : Nat) (s : State), s.serving = true ∧ s.stp.phaseSn = some k ∧ k + 400 ≤ s.sn :=
  ⟨0, { tLive [] with sn := 400, stp := { phaseSn := some 0 } }, by decide, by decide, by decide⟩

theorem wit_StopFramesAndCommands_4 : ∃ (d : Desc) (s : State), Runs s d ∧ d.op 32 1 = 0 :=
  ⟨tDesc 36 0x9001 [], tLive [], runs_of (by decide), by decide⟩

theorem wit_StopFramesAndCommands_5 : ∃ (d : Desc) (s : State), Runs s d ∧ d.op 32 1 ≠ 0 ∧ s.authority = true :=
  ⟨tDesc 36 0x9001 [1, 5], tLive [], runs_of (by decide), by decide, by decide⟩

theorem wit_StopFramesAndCommands_6 : ∃ (d : Desc) (s : State), Runs s d ∧ d.op 32 1 ≠ 0 ∧ s.authority = false :=
  ⟨tDesc 36 0x9001 [1, 5], { tLive [] with role := .standby }, runs_of (by decide), by decide, by decide⟩

theorem wit_StopFramesAndCommands_7 : ∃ (d : Desc) (s : State), Runs s d ∧ s.stroked = true ∧ s.clearRefused (if d.op 32 1 = 0 then none else some (d.op 33 1)) = none :=
  ⟨tDesc 36 0x9002 [1, 5], tLive [(STP_STATUS, 0)], runs_of (by decide), by decide, by decide⟩

theorem wit_StopFramesAndCommands_8 : ∃ (d : Desc) (s : State), Runs s d ∧ s.stroked = false ∧ s.clearRefused (if d.op 32 1 = 0 then none else some (d.op 33 1)) = none :=
  ⟨tDesc 36 0x9002 [1, 5], { tLive [(STP_STATUS, 0)] with stroked := false }, runs_of (by decide), by decide, by decide⟩

theorem wit_StopFramesAndCommands_9 : ∃ (d : Desc) (n : Nat) (s : State), Runs s d ∧ s.clearRefused (if d.op 32 1 = 0 then none else some (d.op 33 1)) = some n :=
  ⟨tDesc 36 0x9002 [1, 5], 0x12, tLive [(STP_STATUS, 0xFFFFFFFF)], runs_of (by decide), by decide⟩

theorem wit_StopFramesAndCommands_10 : ∃ (d : Desc) (f : Nat) (s : State), s.serving = true ∧ (s.stp.clearing.find? fun c => decide (c.2.2 < s.sn)) = some (d, none, f) ∧ s.clearRefused none = none :=
  ⟨tDesc 36 0x9002 [0], 99, { tLive [(STP_STATUS, 0), (STP_RUN_QUAL, 4)] with stp := { runA := some 0, runB := some 0, clearing := [(tDesc 36 0x9002 [0], none, 99)] } }, by decide, by decide, by decide⟩

theorem wit_StopFramesAndCommands_11 : ∃ (d : Desc) (r : Option Nat) (f : Nat) (n : Nat) (s : State), s.serving = true ∧ (s.stp.clearing.find? fun c => decide (c.2.2 < s.sn)) = some (d, r, f) ∧ s.clearRefused r = some n :=
  ⟨tDesc 36 0x9002 [0], none, 99, 0x10, { tLive [(STP_STATUS, 0), (STP_RUN_QUAL, 4)] with stp := { clearing := [(tDesc 36 0x9002 [0], none, 99)] } }, by decide, by decide, by decide⟩

theorem wit_StopFramesAndCommands_12 : ∃ (d : Desc) (s : State), Runs s d :=
  ⟨{ tDesc 36 0x9003 [] with bufLen := 48 }, tLive [], runs_of (by decide)⟩

theorem wit_KeyCommandsRead_1 : ∃ (d : Desc) (s : State), Runs s d ∧ s.tampered = false ∧ d.op 32 1 ≠ 0 :=
  ⟨{ tDesc 56 0xE001 [1] with bufLen := 64 }, tLive [], runs_of (by decide), by decide, by decide⟩

theorem wit_KeyCommandsRead_2 : ∃ (d : Desc) (s : State), Runs s d ∧ s.tampered = false ∧ d.op 32 1 = 0 :=
  ⟨{ tDesc 56 0xE001 [0] with bufLen := 576 }, tLive [], runs_of (by decide), by decide, by decide⟩

theorem wit_KeyCommandsRead_3 : ∃ (d : Desc) (s : State), Runs s d ∧ s.tampered = true :=
  ⟨{ tDesc 56 0xE001 [0] with bufLen := 576 }, { tLive [] with key := { lockOn := true } }, runs_of (by decide), by decide⟩

theorem wit_KeyCommandsRead_4 : ∃ (d : Desc) (k : DeadKey) (s : State), Runs s d ∧ s.flag KEY_CFG_EXPORT_EN = true ∧ 5 ≤ d.op 32 4 / 2 ^ 28 ∧ d.op 32 4 / 2 ^ 28 ≤ 9 ∧ handleOk (d.op 32 4) = true ∧ s.tampered = false ∧ s.siteLoaded = true ∧ s.keyOf (d.op 32 4) = some k ∧ s.keyLive k.code k.index k.gen k.slot = true :=
  ⟨{ tDesc 56 0xE006 (leBytes 4 0x90000001) with bufLen := 72 }, ⟨9, 0, 1, 0⟩, tSite, runs_of (by decide), by decide, by decide, by decide, by decide, by decide, by decide, by decide, by decide⟩

theorem wit_KeyCommandsRead_5 : ∃ (d : Desc) (s : State), Runs s d ∧ s.flag KEY_CFG_EXPORT_EN = true ∧ 5 ≤ d.op 32 4 / 2 ^ 28 ∧ d.op 32 4 / 2 ^ 28 ≤ 9 ∧ (match s.keyOf (d.op 32 4) with | some k => s.keyLive k.code k.index k.gen k.slot | none => false) = false :=
  ⟨{ tDesc 56 0xE006 (leBytes 4 0x90000002) with bufLen := 72 }, tSite, runs_of (by decide), by decide, by decide, by decide, (by decide +kernel)⟩

theorem wit_KeyCommandsRead_6 : ∃ (d : Desc) (s : State), Runs s d ∧ (s.flag KEY_CFG_EXPORT_EN = false ∨ d.op 32 4 / 2 ^ 28 < 5 ∨ 9 < d.op 32 4 / 2 ^ 28) :=
  ⟨{ tDesc 56 0xE006 (leBytes 4 0x90000001) with bufLen := 72 }, tLive [(KEY_CFG, 0)], runs_of (by decide), by decide⟩

theorem wit_KeyCommandsRead_7 : ∃ (d : Desc) (s : State), Runs s d ∧ s.siteLoaded = true ∧ handleOk (d.op 32 4) = true :=
  ⟨tDesc 56 0xE008 (leBytes 4 0x90000001), tSite, runs_of (by decide), by decide, by decide⟩

theorem wit_KeyCommandsRead_8 : ∃ (d : Desc) (k : DeadKey) (s : State), Runs s d ∧ s.siteLoaded = true ∧ handleOk (d.op 32 4) = true ∧ (d.op 32 4 / 2 ^ 28 = 7 ∨ d.op 32 4 / 2 ^ 28 = 9 ∨ d.op 32 4 / 2 ^ 28 = 10) ∧ s.keyOf (d.op 32 4) = some k :=
  ⟨tDesc 56 0xE008 (leBytes 4 0x90000001), ⟨9, 0, 1, 0⟩, tSite, runs_of (by decide), by decide, by decide, by decide, (by decide +kernel)⟩

theorem wit_KeyCommandsRead_9 : ∃ (d : Desc) (s : State), Runs s d ∧ s.siteLoaded = true ∧ handleOk (d.op 32 4) = false :=
  ⟨tDesc 56 0xE008 (leBytes 4 0xB0000001), tSite, runs_of (by decide), by decide, by decide⟩

theorem wit_KeyCommandsRead_10 : ∃ (d : Desc) (s : State), Runs s d ∧ s.siteLoaded = false :=
  ⟨tDesc 56 0xE008 [], tLive [], runs_of (by decide), by decide⟩

theorem wit_KeyCommandsRead_11 : ∃ (d : Desc) (s : State), Runs s d ∧ s.tampered = false ∧ (s.part == .cx7740 && !s.capAbsent 0x12 && s.flag WLG_STATUS_LINK_UP) = false :=
  ⟨{ tDesc 56 0xE007 [8] with bufLen := 512, buf := List.replicate 8 1 }, { tLive [] with part := .cx7720 }, runs_of (by decide), by decide, by decide⟩

theorem wit_KeyCommandsRead_12 : ∃ (d : Desc) (s : State), Runs s d ∧ s.tampered = false ∧ s.part = .cx7740 ∧ s.capAbsent 0x12 = false ∧ s.flag WLG_STATUS_LINK_UP = true :=
  ⟨{ tDesc 56 0xE007 [8] with bufLen := 512, buf := List.replicate 8 1 }, tLive [(WLG_STATUS, 0xFFFFFFFF)], runs_of (by decide), by decide, by decide, by decide, by decide⟩

theorem wit_KeyCommandsChange_1 : ∃ (d : Desc) (s : State), Runs s d ∧ d.op 32 1 ≤ 1 ∧ s.tampered = false ∧ s.slotLoaded (d.op 32 1) = false ∧ leAt d.buf 0 2 = 1 ∧ leAt d.buf 2 6 = 0 ∧ onCurve (beNat (slice d.buf 8 32)) (beNat (slice d.buf 40 32)) = true :=
  ⟨tImport, tLive [], runs_of (by decide), by decide, by decide, by decide, by decide, by decide, (by decide +kernel)⟩

theorem wit_KeyCommandsChange_2 : ∃ (d : Desc) (s : State), Runs s d ∧ s.tampered = false ∧ (s.slotLoaded (d.op 32 1) = true ∨ leAt d.buf 0 2 ≠ 1 ∨ leAt d.buf 2 6 ≠ 0 ∨ onCurve (beNat (slice d.buf 8 32)) (beNat (slice d.buf 40 32)) = false) :=
  ⟨{ tImport with buf := List.replicate 112 0 }, tLive [], runs_of (by decide), by decide, by decide⟩

theorem wit_KeyCommandsChange_3 : ∃ (d : Desc) (g : Nat) (s : State), Runs s d ∧ s.siteLoaded = true ∧ (s.branch (d.op 32 1)).next = none ∧ s.pickGen (d.op 32 1) s.newestSlot 255 (s.branch (d.op 32 1)).gen = some g ∧ (s.branch (d.op 32 1)).introduced.contains (g, s.newestSlot) = false ∧ (if d.op 32 1 = 7 then s.sn / 40 + 8 else if d.op 32 1 = 9 then s.sn / 40 + 1 else s.sn + 1) ≤ d.op 40 8 :=
  ⟨tDesc 56 0xE003 ([9, 0, 0, 0, 0, 0, 0, 0] ++ leBytes 8 3), 2, tSite, runs_of (by decide), by decide, by decide, by decide, by decide, by decide⟩

theorem wit_KeyCommandsChange_4 : ∃ (d : Desc) (g : Nat) (k : Nat) (w : Nat) (s : State), Runs s d ∧ s.siteLoaded = true ∧ (s.branch (d.op 32 1)).next = some (g, k, w) :=
  ⟨tDesc 56 0xE003 ([9, 0, 0, 0, 0, 0, 0, 0] ++ leBytes 8 3), 2, 0, 7, { tSite with key := { tSite.key with stop := { gen := 1, next := some (2, 0, 7) } } }, runs_of (by decide), by decide, by decide⟩

theorem wit_KeyCommandsChange_5 : ∃ (d : Desc) (s : State), Runs s d ∧ s.siteLoaded = true ∧ (s.branch (d.op 32 1)).next = none ∧ (match s.pickGen (d.op 32 1) s.newestSlot 255 (s.branch (d.op 32 1)).gen with | some g => (s.branch (d.op 32 1)).introduced.contains (g, s.newestSlot) | none => true) = true :=
  ⟨tDesc 56 0xE003 ([9, 0, 0, 0, 0, 0, 0, 0] ++ leBytes 8 3), { tSite with key := { tSite.key with stop := { gen := 1, introduced := [(1, 0), (2, 0)] } } }, runs_of (by decide), by decide, by decide, (by decide +kernel)⟩

theorem wit_KeyCommandsChange_6 : ∃ (d : Desc) (g : Nat) (s : State), Runs s d ∧ s.siteLoaded = true ∧ (s.branch (d.op 32 1)).next = none ∧ s.pickGen (d.op 32 1) s.newestSlot 255 (s.branch (d.op 32 1)).gen = some g ∧ (s.branch (d.op 32 1)).introduced.contains (g, s.newestSlot) = false ∧ d.op 40 8 < (if d.op 32 1 = 7 then s.sn / 40 + 8 else if d.op 32 1 = 9 then s.sn / 40 + 1 else s.sn + 1) :=
  ⟨tDesc 56 0xE003 ([9, 0, 0, 0, 0, 0, 0, 0] ++ leBytes 8 2), 2, tSite, runs_of (by decide), by decide, by decide, by decide, by decide, by decide⟩

theorem wit_KeyCommandsChange_7 : ∃ (s : State), s.stroked = true ∧ s.serving = true :=
  ⟨{ tLive [] with key := { log := { gen := 1, next := some (2, 0, 50) } } }, by decide, by decide⟩

theorem wit_KeyCommandsChange_8 : ∃ (d : Desc) (k : DeadKey) (s : State), Runs s d ∧ s.siteLoaded = true ∧ s.keyOf (d.op 32 4) = some k ∧ s.key.dead.contains k = false :=
  ⟨tDesc 56 0xE004 (leBytes 4 0x90000001), ⟨9, 0, 1, 0⟩, { tSite with key := { tSite.key with stop := { gen := 3, introduced := [(1, 0), (3, 0)] } } }, runs_of (by decide), by decide, by decide, by decide⟩

theorem wit_KeyCommandsChange_9 : ∃ (d : Desc) (s : State), Runs s d ∧ s.siteLoaded = true ∧ (match s.keyOf (d.op 32 4) with | some k => s.key.dead.contains k | none => true) = true :=
  ⟨tDesc 56 0xE004 (leBytes 4 0x90000005), tSite, runs_of (by decide), by decide, by decide⟩

theorem wit_KeyCommandsChange_10 : ∃ (d : Desc) (s : State), Runs s d ∧ d.op 32 1 ≤ 1 ∧ s.slotLoaded (d.op 32 1) = true ∧ d.op 32 1 ≠ s.newestSlot ∧ (s.branch 7).live.filter (fun g => g.2 == d.op 32 1) = [] ∧ (s.branch 9).live.filter (fun g => g.2 == d.op 32 1) = [] ∧ (s.branch 10).live.filter (fun g => g.2 == d.op 32 1) = [] ∧ (d.op 33 1 % 2 == 0 && (s.meshKeys fun k => k.slot == d.op 32 1).any s.meshInForce) = false :=
  ⟨tDesc 56 0xE005 [1], { tSite with key := { tSite.key with store := { cells := [(4, ⟨[], []⟩), (5, ⟨[], []⟩)] } } }, runs_of (by decide), by decide, by decide, by decide, by decide, by decide, by decide, by decide⟩

theorem wit_KeyCommandsChange_11 : ∃ (d : Desc) (s : State), Runs s d ∧ s.slotLoaded (d.op 32 1) = true ∧ d.op 32 1 = s.newestSlot :=
  ⟨tDesc 56 0xE005 [0], tSite, runs_of (by decide), by decide, by decide⟩

theorem wit_KeyCommandsChange_12 : ∃ (d : Desc) (s : State), Runs s d ∧ s.dev = .setup :=
  ⟨tDesc 56 0xE009 [], tSetup [(KEY_TAMP_LATCH, 3)] [], runs_of (by decide), by decide⟩

theorem wit_KeyCommandsChange_13 : ∃ (d : Desc) (s : State), Runs s d ∧ s.dev ≠ .setup :=
  ⟨tDesc 56 0xE009 [], tLive [], runs_of (by decide), by decide⟩

theorem wit_KeyCommandsChange_14 : ∃ (_n : Nat) (s : State), s.mainLive = true :=
  ⟨1, tLive [], by decide⟩

theorem wit_KeyCommandsChange_15 : ∃ (n : Nat) (s : State), s.serving = true ∧ n ≤ 7 ∧ s.get KEY_TAMP_CFG_RESPONSE / 4 ^ n % 4 = 2 :=
  ⟨3, tLive [(KEY_TAMP_CFG, 0xAAAA)], by decide, by decide, by decide⟩

theorem wit_KeyCommandsChange_16 : ∃ (n : Nat) (s : State), s.serving = true ∧ n ≤ 7 ∧ s.get KEY_TAMP_CFG_RESPONSE / 4 ^ n % 4 = 3 :=
  ⟨3, tLive [(KEY_TAMP_CFG, 0xFFFF)], by decide, by decide, by decide⟩

theorem wit_KeyCommandsChange_17 : ∃ (n : Nat) (s : State), s.get KEY_TAMP_CFG_RESPONSE / 4 ^ n % 4 = 0 :=
  ⟨3, tLive [(KEY_TAMP_CFG, 0)], by decide⟩

theorem wit_KeyCommandsChange_18 : ∃ (n : Nat) (s : State), s.serving = false ∧ s.dev ≠ .halt ∧ n ≤ 7 ∧ s.get KEY_TAMP_CFG_RESPONSE / 4 ^ n % 4 ≠ 0 :=
  ⟨3, { State.reset with regs := [(KEY_TAMP_CFG, 0xAAAA)] }, by decide, by decide, by decide, by decide⟩

theorem wit_MeshCellsAndFrames_1 : ∃ (j : Job) (s : State) (v : State), s.serving = true ∧ s.work 0x0F 0 = some j ∧ v = { s with sn := j.sn } ∧ v.meshRuns = true ∧ (v.sn - v.asnBase) % 40 = 0 :=
  ⟨periodicJob 320 0 0x0F 0 (workCls 0x0F) true false, tWork 0x0F 0 (tMesh), tWork 0x0F 0 (tMesh), by decide, (by decide +kernel), (rfl), by decide, by decide⟩

theorem wit_MeshCellsAndFrames_2 : ∃ (j : Job) (s : State), s.serving = true ∧ s.work 0x0F 0 = some j ∧ (({ s with sn := j.sn } : State).meshRuns = false ∨ (j.sn - s.asnBase) % 40 ≠ 0) :=
  ⟨{ periodicJob 321 0 0x0F 0 (workCls 0x0F) true false with phase := .ready }, tWork 0x0F 0 { tMesh with sn := 321 }, by decide, (by decide +kernel), (by decide +kernel)⟩

theorem wit_MeshCellsAndFrames_4 : ∃ (s : State), s.serving = true :=
  ⟨tMesh, by decide⟩

theorem wit_MeshCellsAndFrames_5 : ∃ (m : Nbr) (n : Node) (s : State), s.node? m.node = some n :=
  ⟨tNbr, tNode, tMesh, by decide⟩

theorem wit_MeshCellsAndFrames_6 : ∃ (f : MeshIn) (j : Job) (rx : RxFrame) (c : Nat) (v : State) (s : State), s.serving = true ∧ s.nextIntake (fun p => decide (24 ≤ p) && decide (p < 32)) (fun f => (s.meshRx false f).isSome) = some (j, rx) ∧ v = { s.takeIntake rx with sn := j.sn } ∧ v.meshRx false rx = some c ∧ (if v.meshRuns then v.rxCell c (absNs rx.sn rx.ns) else none) = none :=
  ⟨tMeshIn, tMeshJob, tMeshFrame, 0, tTaken (tIntake 24 4 tMeshRx) tMeshFrame, tIntake 24 4 tMeshRx, by decide, (by decide +kernel), (rfl), (by decide +kernel), (by decide +kernel)⟩

theorem wit_MeshCellsAndFrames_7 : ∃ (f : MeshIn) (j : Job) (rx : RxFrame) (c : Nat) (v : State) (x : MeshCell) (off : Int) (s : State), s.serving = true ∧ s.nextIntake (fun p => decide (24 ≤ p) && decide (p < 32)) (fun f => (s.meshRx false f).isSome) = some (j, rx) ∧ v = { s.takeIntake rx with sn := j.sn } ∧ v.meshRx false rx = some c ∧ v.meshRuns = true ∧ v.rxCell c (absNs rx.sn rx.ns) = some x ∧ off = (absNs rx.sn rx.ns : Int) - (v.asnNs x.asn : Int) - v.get MSH_TEMPLATE_TX_OFFSET_US * 1000 ∧ v.window x f.src * 1000 < absI off :=
  ⟨tMeshIn, tMeshJob, { tMeshFrame with ns := 9000000 }, 0, tTaken (tIntake 24 4 tMeshLate) { tMeshFrame with ns := 9000000 }, tMeshCell, 6880000, tIntake 24 4 tMeshLate, by decide, (by decide +kernel), (rfl), (by decide +kernel), (by decide +kernel), (by decide +kernel), (by decide +kernel), (by decide +kernel)⟩

theorem wit_MeshCellsAndFrames_8 : ∃ (f : MeshIn) (j : Job) (rx : RxFrame) (c : Nat) (v : State) (x : MeshCell) (off : Int) (s : State), s.serving = true ∧ s.nextIntake (fun p => decide (24 ≤ p) && decide (p < 32)) (fun f => (s.meshRx false f).isSome) = some (j, rx) ∧ v = { s.takeIntake rx with sn := j.sn } ∧ v.meshRx false rx = some c ∧ v.meshRuns = true ∧ v.rxCell c (absNs rx.sn rx.ns) = some x ∧ off = (absNs rx.sn rx.ns : Int) - (v.asnNs x.asn : Int) - v.get MSH_TEMPLATE_TX_OFFSET_US * 1000 ∧ absI off ≤ v.window x f.src * 1000 ∧ rx.cell = none :=
  ⟨tMeshIn, tMeshJob, { tMeshFrame with cell := none }, 0, tTaken (tIntake 24 4 tMeshFull) { tMeshFrame with cell := none }, tMeshCell, 0, tIntake 24 4 tMeshFull, by decide, (by decide +kernel), (rfl), (by decide +kernel), (by decide +kernel), (by decide +kernel), (by decide +kernel), (by decide +kernel), by decide⟩

theorem wit_MeshCellsAndFrames_9 : ∃ (f : MeshIn) (j : Job) (rx : RxFrame) (c : Nat) (v : State) (x : MeshCell) (off : Int) (u : State) (s : State), s.serving = true ∧ s.nextIntake (fun p => decide (24 ≤ p) && decide (p < 32)) (fun f => (s.meshRx false f).isSome) = some (j, rx) ∧ v = { s.takeIntake rx with sn := j.sn } ∧ v.meshRx false rx = some c ∧ v.meshRuns = true ∧ v.rxCell c (absNs rx.sn rx.ns) = some x ∧ off = (absNs rx.sn rx.ns : Int) - (v.asnNs x.asn : Int) - v.get MSH_TEMPLATE_TX_OFFSET_US * 1000 ∧ absI off ≤ v.window x f.src * 1000 ∧ rx.cell.isSome = true ∧ v.receive c x.asn rx.sn f = (u, none) :=
  ⟨{ tMeshIn with src := 1 }, tMeshJob, tMeshFrame, 0, tTaken (tIntake 24 4 tMeshHears) tMeshFrame, tMeshCell, 0, ((tTaken (tIntake 24 4 tMeshHears) tMeshFrame).receive 0 8 320 { tMeshIn with src := 1 }).1, tIntake 24 4 tMeshHears, by decide, (by decide +kernel), (rfl), (by decide +kernel), (by decide +kernel), (by decide +kernel), (by decide +kernel), (by decide +kernel), by decide, (pair_snd _ (by decide +kernel))⟩

theorem wit_MeshCellsAndFrames_10 : ∃ (f : MeshIn) (j : Job) (rx : RxFrame) (c : Nat) (v : State) (x : MeshCell) (off : Int) (k : Nat) (m : Nbr) (y : RxVerdict) (u : State) (s : State), s.serving = true ∧ s.nextIntake (fun p => decide (24 ≤ p) && decide (p < 32)) (fun f => (s.meshRx false f).isSome) = some (j, rx) ∧ v = { s.takeIntake rx with sn := j.sn } ∧ v.meshRx false rx = some c ∧ v.meshRuns = true ∧ v.rxCell c (absNs rx.sn rx.ns) = some x ∧ off = (absNs rx.sn rx.ns : Int) - (v.asnNs x.asn : Int) - v.get MSH_TEMPLATE_TX_OFFSET_US * 1000 ∧ absI off ≤ v.window x f.src * 1000 ∧ rx.cell.isSome = true ∧ v.receive c x.asn rx.sn f = (u, some (k, y)) ∧ (u.nbr? k) = some m :=
  ⟨tMeshIn, tMeshJob, tMeshFrame, 0, tTaken (tIntake 24 4 tMeshHears) tMeshFrame, tMeshCell, 0, 0, ((tTaken (tIntake 24 4 tMeshHears) tMeshFrame).receive 0 8 320 tMeshIn).1.nbr? 0 |>.getD tNbr, .deliver, ((tTaken (tIntake 24 4 tMeshHears) tMeshFrame).receive 0 8 320 tMeshIn).1, tIntake 24 4 tMeshHears, by decide, (by decide +kernel), (rfl), (by decide +kernel), (by decide +kernel), (by decide +kernel), (by decide +kernel), (by decide +kernel), by decide, (pair_snd _ (by decide +kernel)), (some_getD _ _ (by decide +kernel))⟩

theorem wit_MeshCellsAndFrames_11 : ∃ (seq : Nat) (ch : Nat) (_psdu : Nat) (_glr : Nat) (_b : Bool) (_r : Bool) (x : MeshCell) (u : State) (s : State), s.meshRuns = true ∧ (s.msh.cells.find? fun x => x.seq == seq && x.choff == ch && x.asn == s.asn && !x.sent) = some x ∧ u = s.setMsh { s.msh with cells := s.msh.cells.map fun y => if y = x then { y with sent := true } else y } ∧ x.use = .shared ∧ ch = 0 :=
  ⟨0, 0, 10, 0, false, true, { tMeshCell with use := .shared, choff := 0 }, tMeshSent ({ tMeshCell with use := .shared, choff := 0 }), tMeshOne ({ tMeshCell with use := .shared, choff := 0 }), by decide, (by decide +kernel), (rfl), by decide, by decide⟩

theorem wit_MeshCellsAndFrames_12 : ∃ (seq : Nat) (ch : Nat) (_psdu : Nat) (_glr : Nat) (_b : Bool) (_r : Bool) (x : MeshCell) (u : State) (s : State), s.meshRuns = true ∧ (s.msh.cells.find? fun x => x.seq == seq && x.choff == ch && x.asn == s.asn && !x.sent) = some x ∧ u = s.setMsh { s.msh with cells := s.msh.cells.map fun y => if y = x then { y with sent := true } else y } ∧ x.use = .shared ∧ ch ≠ 0 :=
  ⟨0, 1, 10, 0, false, true, { tMeshCell with use := .shared, choff := 1 }, tMeshSent ({ tMeshCell with use := .shared, choff := 1 }), tMeshOne ({ tMeshCell with use := .shared, choff := 1 }), by decide, (by decide +kernel), (rfl), by decide, by decide⟩

theorem wit_MeshCellsAndFrames_13 : ∃ (seq : Nat) (ch : Nat) (_psdu : Nat) (_glr : Nat) (_b : Bool) (_r : Bool) (x : MeshCell) (u : State) (s : State), s.meshRuns = true ∧ (s.msh.cells.find? fun x => x.seq == seq && x.choff == ch && x.asn == s.asn && !x.sent) = some x ∧ u = s.setMsh { s.msh with cells := s.msh.cells.map fun y => if y = x then { y with sent := true } else y } ∧ x.use = .update :=
  ⟨0, 0, 10, 0, false, true, { tMeshCell with use := .update, choff := 0 }, tMeshSent ({ tMeshCell with use := .update, choff := 0 }), tMeshOne ({ tMeshCell with use := .update, choff := 0 }), by decide, (by decide +kernel), (rfl), by decide⟩

theorem wit_MeshCellsAndFrames_14 : ∃ (seq : Nat) (ch : Nat) (_psdu : Nat) (_glr : Nat) (_b : Bool) (_r : Bool) (x : MeshCell) (n : Nat) (u : State) (s : State), s.meshRuns = true ∧ (s.msh.cells.find? fun x => x.seq == seq && x.choff == ch && x.asn == s.asn && !x.sent) = some x ∧ u = s.setMsh { s.msh with cells := s.msh.cells.map fun y => if y = x then { y with sent := true } else y } ∧ x.use = .down n :=
  ⟨0, 0, 10, 0, false, true, { tMeshCell with use := .down 5 }, 5, tMeshDown true, tMeshDown false, by decide, (by decide +kernel), (rfl), by decide⟩

theorem wit_MeshCellsAndFrames_15 : ∃ (seq : Nat) (ch : Nat) (_psdu : Nat) (_glr : Nat) (_b : Bool) (_r : Bool) (x : MeshCell) (n : Nat) (u : State) (s : State), s.meshRuns = true ∧ (s.msh.cells.find? fun x => x.seq == seq && x.choff == ch && x.asn == s.asn && !x.sent) = some x ∧ u = s.setMsh { s.msh with cells := s.msh.cells.map fun y => if y = x then { y with sent := true } else y } ∧ x.use = .up n :=
  ⟨0, 0, 10, 0, false, true, { tMeshCell with use := .up 5, choff := 0 }, 5, tMeshSent ({ tMeshCell with use := .up 5, choff := 0 }), tMeshOne ({ tMeshCell with use := .up 5, choff := 0 }), by decide, (by decide +kernel), (rfl), by decide⟩

theorem wit_MeshCellsAndFrames_16 : ∃ (f : MeshIn) (j : Job) (rx : RxFrame) (c : Nat) (v : State) (u : State) (s : State), s.serving = true ∧ s.nextIntake (fun p => decide (24 ≤ p) && decide (p < 32)) (fun f => (s.meshRx true f).isSome) = some (j, rx) ∧ v = { s.takeIntake rx with sn := j.sn } ∧ v.meshRx true rx = some c ∧ v.flag MSH_CFG_ENABLE = true ∧ rx.cell.isSome = true ∧ v.receive c v.asn rx.sn f = (u, none) :=
  ⟨{ tMeshIn with src := 1 }, tMeshJob, tMeshFrame, 0, tTaken (tIntake 24 4 tLegacy) tMeshFrame, ((tTaken (tIntake 24 4 tLegacy) tMeshFrame).receive 0 (tTaken (tIntake 24 4 tLegacy) tMeshFrame).asn 320 { tMeshIn with src := 1 }).1, tIntake 24 4 tLegacy, by decide, (by decide +kernel), (rfl), (by decide +kernel), (by decide +kernel), (by decide +kernel), (pair_snd _ (by decide +kernel))⟩

theorem wit_MeshCellsAndFrames_17 : ∃ (f : MeshIn) (j : Job) (rx : RxFrame) (c : Nat) (v : State) (k : Nat) (m : Nbr) (y : RxVerdict) (u : State) (s : State), s.serving = true ∧ s.nextIntake (fun p => decide (24 ≤ p) && decide (p < 32)) (fun f => (s.meshRx true f).isSome) = some (j, rx) ∧ v = { s.takeIntake rx with sn := j.sn } ∧ v.meshRx true rx = some c ∧ v.flag MSH_CFG_ENABLE = true ∧ rx.cell.isSome = true ∧ v.receive c v.asn rx.sn f = (u, some (k, y)) ∧ (u.nbr? k) = some m :=
  ⟨tMeshIn, tMeshJob, tMeshFrame, 0, tTaken (tIntake 24 4 tLegacy) tMeshFrame, 0, ((tTaken (tIntake 24 4 tLegacy) tMeshFrame).receive 0 (tTaken (tIntake 24 4 tLegacy) tMeshFrame).asn 320 tMeshIn).1.nbr? 0 |>.getD tNbr, .deliver, ((tTaken (tIntake 24 4 tLegacy) tMeshFrame).receive 0 (tTaken (tIntake 24 4 tLegacy) tMeshFrame).asn 320 tMeshIn).1, tIntake 24 4 tLegacy, by decide, (by decide +kernel), (rfl), (by decide +kernel), (by decide +kernel), (by decide +kernel), (pair_snd _ (by decide +kernel)), (some_getD _ _ (by decide +kernel))⟩

theorem wit_MeshCellsAndFrames_18 : ∃ (f : MeshIn) (j : Job) (rx : RxFrame) (c : Nat) (v : State) (s : State), s.serving = true ∧ s.nextIntake (fun p => decide (24 ≤ p) && decide (p < 32)) (fun f => (s.meshRx true f).isSome) = some (j, rx) ∧ v = { s.takeIntake rx with sn := j.sn } ∧ v.meshRx true rx = some c ∧ (v.flag MSH_CFG_ENABLE = false ∨ rx.cell = none) :=
  ⟨tMeshIn, tMeshJob, { tMeshFrame with cell := none }, 0, tTaken (tIntake 24 4 tLegacyFull) { tMeshFrame with cell := none }, tIntake 24 4 tLegacyFull, by decide, (by decide +kernel), (rfl), (by decide +kernel), (by decide +kernel)⟩

theorem wit_MeshCellsAndFrames_19 : ∃ (c : Nat) (n : Nat) (d : Nat) (_psdu : Nat) (_glr : Nat) (_b : Bool) (q : MeshQ) (x : Option MeshCell) (s : State), s.meshRuns = true ∧ s.csmaFrame c = some (q, x) ∧ (match s.backoffExp q x.isSome with | some e => decide (2 ^ e ≤ n) | none => decide (0 < n)) = false ∧ s.ccaBusy d = true :=
  ⟨0, 0, 0, 10, 0, false, tMeshQ, none, tLegacyQ, by decide, (by decide +kernel), (by decide +kernel), (by decide +kernel)⟩

theorem wit_MeshCellsAndFrames_20 : ∃ (c : Nat) (n : Nat) (d : Nat) (_psdu : Nat) (_glr : Nat) (_b : Bool) (q : MeshQ) (x : Option MeshCell) (s : State), s.meshRuns = true ∧ s.csmaFrame c = some (q, x) ∧ (match s.backoffExp q x.isSome with | some e => decide (2 ^ e ≤ n) | none => decide (0 < n)) = false ∧ s.ccaBusy d = false :=
  ⟨0, 0, 2000, 10, 0, false, tMeshQ, none, tLegacyQ, by decide, (by decide +kernel), (by decide +kernel), (by decide +kernel)⟩

theorem wit_MeshCellsAndFrames_21 : ∃ (c : Nat) (n : Nat) (_d : Nat) (_psdu : Nat) (_glr : Nat) (_b : Bool) (q : MeshQ) (x : Option MeshCell) (s : State), s.csmaFrame c = some (q, x) ∧ (match s.backoffExp q x.isSome with | some e => decide (2 ^ e ≤ n) | none => decide (0 < n)) = true :=
  ⟨0, 100000, 0, 10, 0, false, tMeshQ, none, tLegacyQ, (by decide +kernel), (by decide +kernel)⟩

theorem wit_MeshAcknowledgementsAndNetwork_1 : ∃ (a : MeshAckIn) (q : MeshQ) (s : State), s.serving = true ∧ s.resultDue a.id = some q :=
  ⟨⟨3, true, 10, false⟩, { tMeshQ with waiting := true }, tMeshWaits 0, by decide, (by decide +kernel)⟩

theorem wit_MeshAcknowledgementsAndNetwork_2 : ∃ (i : Nat) (q : MeshQ) (s : State), s.serving = true ∧ s.resultDue i = some q :=
  ⟨3, { tMeshQ with waiting := true }, tMeshWaits 0, by decide, (by decide +kernel)⟩

theorem wit_MeshAcknowledgementsAndNetwork_3 : ∃ (i : Nat) (_r : TxResult) (_n : Nat) (q : MeshQ) (s : State), (s.msh.queue.find? fun q => q.id == i) = some q :=
  ⟨3, .unheard, 330, { tMeshQ with waiting := true }, tMeshWaits 0, by decide⟩

theorem wit_MeshAcknowledgementsAndNetwork_4 : ∃ (i : Nat) (q : MeshQ) (s : State), (s.msh.queue.find? fun q => q.id == i) = some q ∧ q.attempts + 1 ≤ s.get MSH_CFG_MAX_RETRIES :=
  ⟨3, { tMeshQ with waiting := true }, tMeshWaits 0, by decide, by decide⟩

theorem wit_MeshAcknowledgementsAndNetwork_5 : ∃ (i : Nat) (q : MeshQ) (s : State), (s.msh.queue.find? fun q => q.id == i) = some q ∧ s.get MSH_CFG_MAX_RETRIES < q.attempts + 1 :=
  ⟨3, { tMeshQ with waiting := true, attempts := 9 }, tMeshWaits 9, by decide, by decide⟩

theorem wit_MeshAcknowledgementsAndNetwork_6 : ∃ (s : State), s.serving = true :=
  ⟨tMesh, by decide⟩

theorem wit_MeshAcknowledgementsAndNetwork_7 : ∃ (x : MeshItem) (q : Nat) (l : Nat) (p : Option Nat) (u : State) (s : State), s.serving = true ∧ s.takeItem (MeshUp.isDao) = some (u, x) ∧ x.body = .dao q l p :=
  ⟨⟨5, 5, 0, 80, .dao 241 1 none⟩, 241, 1, none, tMesh, { tMesh with msh := { tMesh.msh with inbox := [⟨5, 5, 0, 80, .dao 241 1 none⟩] } }, by decide, (rfl), by decide⟩

theorem wit_MeshAcknowledgementsAndNetwork_8 : ∃ (i : Nat) (n : Node) (q : Nat) (l : Nat) (_a : Nat) (p : Option Nat) (st : Nat) (s : State), s.node? i = some n ∧ (s.cluster? n.cluster).isSome = true ∧ (n.daoSeen = false ∨ lollipopNewer q n.daoSeq = true) ∧ l ≠ 0 ∧ s.takePath i n p = .error st :=
  ⟨5, { tNode with cluster := 0 }, 241, 1, 80, some 0x99, 132, tMesh, by decide, by decide, (by decide), by decide, (rfl)⟩

theorem wit_MeshAcknowledgementsAndNetwork_9 : ∃ (s : State), s.serving = true :=
  ⟨tMesh, by decide⟩

theorem wit_MeshAcknowledgementsAndNetwork_10 : ∃ (i : Nat) (n : Node) (s : State), s.serving = true ∧ s.msh.nodes = [(i, n)] ∧ n.joined = true ∧ n.pathExpiry < s.sn :=
  ⟨5, { tNode with pathExpiry := 7 }, { tMesh with msh := { tMesh.msh with nodes := [(5, { tNode with pathExpiry := 7 })] } }, by decide, by decide, by decide, by decide⟩

theorem wit_MeshAcknowledgementsAndNetwork_11 : ∃ (x : MeshItem) (n : Node) (c : Cluster) (u : State) (s : State), s.serving = true ∧ s.takeItem (fun b => b == .dis) = some (u, x) ∧ u.node? x.node = some n ∧ u.cluster? n.cluster = some c :=
  ⟨⟨5, 5, 0, 80, .dis⟩, tNode, tCluster, tMesh, { tMesh with msh := { tMesh.msh with inbox := [⟨5, 5, 0, 80, .dis⟩] } }, by decide, (rfl), by decide, by decide⟩

theorem wit_MeshAcknowledgementsAndNetwork_12 : ∃ (c : Nat) (k : Cluster) (s : State), s.cluster? c = some k ∧ s.meshRuns = true ∧ k.dioFrom + s.trickleLen k / 2 ≤ s.sn :=
  ⟨0, tCluster, { tMesh with sn := 400000 }, by decide, by decide, (by decide +kernel)⟩

theorem wit_MeshAcknowledgementsAndNetwork_13 : ∃ (c : Nat) (k : Cluster) (s : State), s.cluster? c = some k ∧ (s.meshRuns = false ∨ s.sn < k.dioFrom + s.trickleLen k / 2) :=
  ⟨0, { tCluster with dioFrom := 400 }, { tMesh with msh := { tMesh.msh with clusters := [(0, { tCluster with dioFrom := 400 })] } }, by decide, (by decide +kernel)⟩

theorem wit_MeshAcknowledgementsAndNetwork_14 : ∃ (x : MeshItem) (m : List Byte) (p : Nat) (n : Node) (g : Nat) (a : Nat) (b : Nat) (u : State) (s : State), s.serving = true ∧ s.takeItem (MeshUp.isMessage 0xF0B2 0x04) = some (u, x) ∧ x.body = .message p m ∧ leAt m 1 1 = 1 ∧ u.node? x.node = some n ∧ (u.cluster? n.cluster).bind Cluster.renewing = some (g, a, b) :=
  ⟨⟨5, 5, 0, 80, .message 0xF0B2 [4, 1, 2, 0]⟩, [4, 1, 2, 0], 0xF0B2, tNode, 2, 0, 900, tMeshRenewing, { tMeshRenewing with msh := { tMeshRenewing.msh with inbox := [⟨5, 5, 0, 80, .message 0xF0B2 [4, 1, 2, 0]⟩] } }, by decide, (rfl), by decide, by decide, by decide, by decide⟩

theorem wit_MeshAcknowledgementsAndNetwork_15 : ∃ (s : State), s.serving = true :=
  ⟨tMesh, by decide⟩

theorem wit_MeshAcknowledgementsAndNetwork_16 : ∃ (i : Nat) (k : Cluster) (g : Nat) (sl : Nat) (a : Nat) (s : State), s.serving = true ∧ s.asnValid = true ∧ s.msh.clusters = [(i, k)] ∧ k.keyNext = some (g, sl, a) ∧ a ≤ s.asn :=
  ⟨0, { tCluster with keyNext := some (2, 0, 1) }, 2, 0, 1, { tMesh with msh := { tMesh.msh with clusters := [(0, { tCluster with keyNext := some (2, 0, 1) })] } }, by decide, by decide, by decide, by decide, by decide⟩

theorem wit_MeshAcknowledgementsAndNetwork_17 : ∃ (x : MeshItem) (m : List Byte) (p : Nat) (n : Node) (u : State) (s : State), s.serving = true ∧ s.takeItem (MeshUp.isMessage 0xF0B2 0x01) = some (u, x) ∧ x.body = .message p m ∧ u.node? x.node = some n :=
  ⟨⟨5, 5, 0, 80, .message 0xF0B2 (1 :: List.replicate 15 0)⟩, 1 :: List.replicate 15 0, 0xF0B2, tNode, tMesh, { tMesh with msh := { tMesh.msh with inbox := [⟨5, 5, 0, 80, .message 0xF0B2 (1 :: List.replicate 15 0)⟩] } }, by decide, (rfl), by decide, by decide⟩

theorem wit_MeshAcknowledgementsAndNetwork_18 : ∃ (x : MeshItem) (m : List Byte) (p : Nat) (n : Node) (u : State) (s : State), s.serving = true ∧ s.takeItem (MeshUp.isMessage 0xF0B2 0x05) = some (u, x) ∧ x.body = .message p m ∧ u.node? x.node = some n :=
  ⟨⟨5, 5, 0, 80, .message 0xF0B2 [5, 1, 0, 0, 9, 0, 0, 0]⟩, [5, 1, 0, 0, 9, 0, 0, 0], 0xF0B2, tNode, tMesh, { tMesh with msh := { tMesh.msh with inbox := [⟨5, 5, 0, 80, .message 0xF0B2 [5, 1, 0, 0, 9, 0, 0, 0]⟩] } }, by decide, (rfl), by decide, by decide⟩

theorem wit_MeshAcknowledgementsAndNetwork_19 : ∃ (x : MeshItem) (tag : Nat) (size : Nat) (o : Nat) (b : List Byte) (u : State) (s : State), s.serving = true ∧ s.takeItem (MeshUp.isFragment) = some (u, x) ∧ x.body = .fragment tag size o b ∧ 1280 < size :=
  ⟨⟨5, 5, 0, 80, .fragment 1 1281 0 [0]⟩, 1, 1281, 0, [0], tMesh, { tMesh with msh := { tMesh.msh with inbox := [⟨5, 5, 0, 80, .fragment 1 1281 0 [0]⟩] } }, by decide, (rfl), by decide, by decide⟩

theorem wit_MeshAcknowledgementsAndNetwork_20 : ∃ (x : MeshItem) (tag : Nat) (size : Nat) (o : Nat) (b : List Byte) (r : MeshReasm) (u : State) (s : State), s.serving = true ∧ s.takeItem (MeshUp.isFragment) = some (u, x) ∧ x.body = .fragment tag size o b ∧ size ≤ 1280 ∧ (u.msh.reasm.find? fun r => r.node == x.node && r.tag == tag && r.size == size) = some r :=
  ⟨⟨5, 5, 0, 80, .fragment 1 5 4 [0]⟩, 1, 5, 4, [0], ⟨5, 1, 5, [(0, [1, 2, 3, 4])], 70⟩, { tMesh with msh := { tMesh.msh with reasm := [⟨5, 1, 5, [(0, [1, 2, 3, 4])], 70⟩] } }, { tMesh with msh := { tMesh.msh with reasm := [⟨5, 1, 5, [(0, [1, 2, 3, 4])], 70⟩], inbox := [⟨5, 5, 0, 80, .fragment 1 5 4 [0]⟩] } }, by decide, (rfl), by decide, by decide, by decide⟩

theorem wit_MeshAcknowledgementsAndNetwork_21 : ∃ (x : MeshItem) (tag : Nat) (size : Nat) (o : Nat) (b : List Byte) (u : State) (s : State), s.serving = true ∧ s.takeItem (MeshUp.isFragment) = some (u, x) ∧ x.body = .fragment tag size o b ∧ size ≤ 1280 ∧ (u.msh.reasm.find? fun r => r.node == x.node && r.tag == tag && r.size == size) = none :=
  ⟨⟨5, 5, 0, 80, .fragment 1 5 4 [0]⟩, 1, 5, 4, [0], tMesh, { tMesh with msh := { tMesh.msh with inbox := [⟨5, 5, 0, 80, .fragment 1 5 4 [0]⟩] } }, by decide, (rfl), by decide, by decide, by decide⟩

theorem wit_MeshAcknowledgementsAndNetwork_22 : ∃ (s : State), s.serving = true :=
  ⟨tMesh, by decide⟩

theorem wit_MeshAcknowledgementsAndNetwork_23 : ∃ (c : Nat) (pkt : List Byte) (r : List (Nat × List Byte)) (s : State), s.serving = true ∧ s.msh.toMesh = (c, pkt) :: r :=
  ⟨0, tPacket, [], { tMesh with msh := { tMesh.msh with toMesh := [(0, tPacket)] } }, by decide, by decide⟩

theorem wit_MeshCommands_1 : ∃ (d : Desc) (s : State), Runs s d ∧ bit (d.op 33 1) 0 = false :=
  ⟨tDesc 16 0x4001 [0, 0], tMesh, runs_of (by decide), by decide⟩

theorem wit_MeshCommands_2 : ∃ (d : Desc) (s : State), Runs s d ∧ bit (d.op 33 1) 0 = true ∧ (decide (240 ≤ d.op 32 1) && !(s.flag FWD_SITE_SITE2_EN && s.get FWD_SITE_SITE2 != s.get FWD_SITE_SITE)) = false ∧ (s.msh.clusters.find? fun x => x.1 != d.op 32 1 && x.2.enabled && x.2.seq == d.op 34 1 && x.2.pan == d.op 36 2) = none :=
  ⟨tDesc 16 0x4001 [1, 1, 0, 0, 9, 0, 1], tMesh, runs_of (by decide), by decide, (by decide +kernel), (by decide +kernel)⟩

theorem wit_MeshCommands_3 : ∃ (d : Desc) (s : State), Runs s d ∧ bit (d.op 33 1) 0 = true ∧ (decide (240 ≤ d.op 32 1) && !(s.flag FWD_SITE_SITE2_EN && s.get FWD_SITE_SITE2 != s.get FWD_SITE_SITE)) = true :=
  ⟨tDesc 16 0x4001 [240, 1, 0, 0, 9, 0, 1], tMesh, runs_of (by decide), by decide, (by decide +kernel)⟩

theorem wit_MeshCommands_4 : ∃ (d : Desc) (x : Nat × Cluster) (s : State), Runs s d ∧ bit (d.op 33 1) 0 = true ∧ (decide (240 ≤ d.op 32 1) && !(s.flag FWD_SITE_SITE2_EN && s.get FWD_SITE_SITE2 != s.get FWD_SITE_SITE)) = false ∧ (s.msh.clusters.find? fun x => x.1 != d.op 32 1 && x.2.enabled && x.2.seq == d.op 34 1 && x.2.pan == d.op 36 2) = some x :=
  ⟨tDesc 16 0x4001 [1, 1, 0, 0, 0, 0, 1], (0, tCluster), tMesh, runs_of (by decide), by decide, (by decide +kernel), (by decide +kernel)⟩

theorem wit_MeshCommands_5 : ∃ (d : Desc) (s : State), Runs s d :=
  ⟨{ tDesc 16 0x4002 [] with bufLen := 16, buf := leBytes 8 77 ++ [0, 0, 1, 1] ++ leBytes 4 9 }, tMesh, runs_of (by decide)⟩

theorem wit_MeshCommands_6 : ∃ (d : Desc) (i : Nat) (s : State), Runs s d ∧ d.bufLen / 16 = 1 ∧ slice d.buf 0 16 = d.buf ∧ (s.cluster? (leAt d.buf 8 1)).isSome = true ∧ s.nodeOfEui (leAt d.buf 0 8) = none ∧ (if leAt d.buf 12 4 = 0xFFFFFFFF then freeIndex 262144 0 s.msh.nodes else leAt d.buf 12 4) = i ∧ i < 262144 ∧ s.node? i = none ∧ (s.msh.nodes.filter fun x => x.2.cluster == leAt d.buf 8 1).length < 16384 :=
  ⟨{ tDesc 16 0x4002 [] with bufLen := 16, buf := leBytes 8 77 ++ [0, 0, 1, 1] ++ leBytes 4 9 }, 9, tMesh, runs_of (by decide), by decide, by decide, by decide, by decide, by decide, by decide, by decide, by decide⟩

theorem wit_MeshCommands_7 : ∃ (d : Desc) (i : Nat) (s : State), Runs s d ∧ d.bufLen / 16 = 1 ∧ slice d.buf 0 16 = d.buf ∧ (s.cluster? (leAt d.buf 8 1)).isSome = true ∧ s.nodeOfEui (leAt d.buf 0 8) = some i :=
  ⟨{ tDesc 16 0x4002 [] with bufLen := 16, buf := leBytes 8 (2 ^ 57) ++ [0, 0, 1, 1] ++ leBytes 4 9 }, 5, tMesh, runs_of (by decide), by decide, by decide, by decide, by decide⟩

theorem wit_MeshCommands_8 : ∃ (d : Desc) (s : State), Runs s d ∧ (s.node? (d.op 32 4)).isSome = true :=
  ⟨tDesc 16 0x4003 (leBytes 4 5), tMesh, runs_of (by decide), by decide⟩

theorem wit_MeshCommands_9 : ∃ (d : Desc) (n : Node) (s : State), Runs s d ∧ s.node? (d.op 32 4) = some n :=
  ⟨{ tDesc 16 0x4004 (leBytes 4 5) with bufLen := 512 }, tNode, tMesh, runs_of (by decide), by decide⟩

theorem wit_MeshCommands_10 : ∃ (d : Desc) (n : Node) (s : State), Runs s d ∧ s.node? (d.op 32 4) = some n :=
  ⟨{ tDesc 16 0x4005 (leBytes 4 5) with bufLen := 128 }, tNode, tMesh, runs_of (by decide), by decide⟩

theorem wit_MeshCommands_11 : ∃ (d : Desc) (s : State), Runs s d ∧ s.node? (d.op 32 4) = none :=
  ⟨tDesc 16 0x4004 (leBytes 4 6), tMesh, runs_of (by decide), by decide⟩

theorem wit_MeshCommands_12 : ∃ (d : Desc) (n : Node) (s : State), Runs s d ∧ d.op 32 1 = 0 ∧ d.op 33 1 = 0 ∧ s.node? (d.op 36 4) = some n ∧ n.rekeyPending = false :=
  ⟨tDesc 16 0x4006 (leBytes 4 0 ++ leBytes 4 5), tNode, tMesh, runs_of (by decide), by decide, by decide, by decide, by decide⟩

theorem wit_MeshCommands_13 : ∃ (d : Desc) (n : Node) (s : State), Runs s d ∧ d.op 32 1 = 0 ∧ d.op 33 1 ≠ 0 ∧ s.node? (d.op 36 4) = some n ∧ n.rekeyPending = false ∧ s.nodeGenDead (d.op 36 4) (d.op 34 1) = false :=
  ⟨tDesc 16 0x4006 ([0, 1, 3, 0] ++ leBytes 4 5), tNode, tMesh, runs_of (by decide), by decide, by decide, by decide, by decide, by decide⟩

theorem wit_MeshCommands_14 : ∃ (d : Desc) (n : Node) (s : State), Runs s d ∧ d.op 32 1 = 0 ∧ s.node? (d.op 36 4) = some n ∧ (n.rekeyPending = true ∨ d.op 33 1 ≠ 0 ∧ s.nodeGenDead (d.op 36 4) (d.op 34 1) = true) :=
  ⟨tDesc 16 0x4006 (leBytes 4 0 ++ leBytes 4 5), { tNode with rekeyPending := true }, { tMesh with msh := { tMesh.msh with nodes := [(5, { tNode with rekeyPending := true })] } }, runs_of (by decide), by decide, by decide, by decide⟩

theorem wit_MeshCommands_15 : ∃ (d : Desc) (k : Cluster) (s : State), Runs s d ∧ d.op 32 1 ≠ 0 ∧ s.cluster? (d.op 36 4) = some k ∧ k.keyNext = none :=
  ⟨tDesc 16 0x4006 [1], tCluster, tMesh, runs_of (by decide), by decide, by decide, by decide⟩

theorem wit_MeshCommands_16 : ∃ (d : Desc) (k : Cluster) (s : State), Runs s d ∧ d.op 32 1 ≠ 0 ∧ s.cluster? (d.op 36 4) = some k ∧ k.keyNext.isSome = true :=
  ⟨tDesc 16 0x4006 [1], { tCluster with keyNext := some (2, 0, 900) }, tMeshRenewing, runs_of (by decide), by decide, by decide, by decide⟩

theorem wit_MeshCommands_17 : ∃ (d : Desc) (s : State), Runs s d ∧ (if d.op 32 1 = 0 then (s.node? (d.op 36 4)).isNone else (s.cluster? (d.op 36 4)).isNone) = true :=
  ⟨tDesc 16 0x4006 (leBytes 4 0 ++ leBytes 4 6), tMesh, runs_of (by decide), by decide⟩

theorem wit_MeshCommands_18 : ∃ (d : Desc) (k : Cluster) (s : State), Runs s d ∧ s.cluster? (d.op 32 1) = some k :=
  ⟨tDesc 16 0x4007 [0], { tCluster with version := 3 }, { tMesh with msh := { tMesh.msh with clusters := [(0, { tCluster with version := 3 })] } }, runs_of (by decide), by decide⟩

theorem wit_MeshCommands_19 : ∃ (d : Desc) (s : State), Runs s d ∧ s.cluster? (d.op 32 1) = none :=
  ⟨tDesc 16 0x4007 [9], tMesh, runs_of (by decide), by decide⟩

theorem wit_MeshCommands_20 : ∃ (d : Desc) (n : Node) (s : State), Runs s d ∧ s.node? (d.op 32 4) = some n :=
  ⟨tDesc 20 0x5001 (leBytes 4 5 ++ [1]), tNode, tMesh, runs_of (by decide), by decide⟩

theorem wit_UpdateImagesAndCampaigns_1 : ∃ (d : Desc) (s : State), Runs s d ∧ slice d.buf 0 4 = ascii "GWUP" ∧ leAt d.buf 4 2 = 1 ∧ 1 ≤ leAt d.buf 16 4 ∧ leAt d.buf 16 4 ≤ 8388608 ∧ 16 ≤ leAt d.buf 20 2 ∧ leAt d.buf 20 2 ≤ 1024 ∧ leAt d.buf 20 2 % 16 = 0 ∧ leAt d.buf 24 4 = (leAt d.buf 16 4 + leAt d.buf 20 2 - 1) / leAt d.buf 20 2 ∧ leAt d.buf 24 4 ≤ 32768 ∧ d.bufLen = 128 + leAt d.buf 16 4 ∧ leAt d.buf 6 2 ≠ 0 ∧ (∀ m ∈ s.msh.images, m.id ≠ leAt d.buf 6 2) ∧ s.msh.images.length < 4 :=
  ⟨{ tDesc 24 0x6001 [] with bufLen := 144, buf := tImageHead }, tMesh, runs_of (by decide), by decide, by decide, by decide, by decide, by decide, by decide, by decide, by decide, by decide, by decide, by decide, by decide, by decide⟩

theorem wit_UpdateImagesAndCampaigns_2 : ∃ (d : Desc) (c : Nat) (s : State), Runs s d ∧ imageFault d.buf d.bufLen = some c :=
  ⟨tDesc 24 0x6001 [], 1, tMesh, runs_of (by decide), (by decide +kernel)⟩

theorem wit_UpdateImagesAndCampaigns_4 : ∃ (d : Desc) (s : State), Runs s d :=
  ⟨tDesc 24 0x6001 [], tMesh, runs_of (by decide)⟩

theorem wit_UpdateImagesAndCampaigns_5 : ∃ (d : Desc) (s : State), Runs s d ∧ (∃ m ∈ s.msh.images, m.id = d.op 32 2) ∧ (∀ c ∈ s.msh.campaigns, c.running = true → c.image ≠ d.op 32 2) :=
  ⟨tDesc 24 0x6002 [7], tUpdates false, runs_of (by decide), (⟨tImage, by decide, by decide⟩), by decide⟩

theorem wit_UpdateImagesAndCampaigns_6 : ∃ (d : Desc) (s : State), Runs s d :=
  ⟨tDesc 24 0x6002 [7], tUpdates true, runs_of (by decide)⟩

theorem wit_UpdateImagesAndCampaigns_7 : ∃ (d : Desc) (s : State), Runs s d ∧ s.maxDepth ≠ 1 :=
  ⟨{ tDesc 24 0x6003 [7, 0, 0, 3, 9] with bufLen := 32, buf := List.replicate 32 0 }, tUpdates false, runs_of (by decide), (by decide +kernel)⟩

theorem wit_UpdateImagesAndCampaigns_8 : ∃ (d : Desc) (m : Image) (s : State), Runs s d ∧ s.maxDepth ≠ 1 ∧ (s.msh.images.find? fun m => m.id == d.op 32 2) = some m ∧ (∀ c ∈ s.msh.campaigns, c.id ≠ d.op 36 2 ∧ (c.running = true → c.image ≠ d.op 32 2 ∧ ∀ k ∈ c.clusters, k.ended = true ∨ k.cluster ∉ s.maskClusters d.buf)) ∧ (∀ c ∈ s.maskClusters d.buf, s.tooNarrow c (12 + max m.blk 64) = false) :=
  ⟨{ tDesc 24 0x6003 [7, 0, 0, 3, 9] with bufLen := 32, buf := List.replicate 32 0 }, tImage, tUpdates false, runs_of (by decide), by decide, by decide, by decide, (by decide +kernel)⟩

theorem wit_UpdateImagesAndCampaigns_9 : ∃ (d : Desc) (s : State), Runs s d ∧ s.maxDepth = 1 :=
  ⟨{ tDesc 24 0x6003 [7, 0, 0, 3, 9] with bufLen := 32, buf := List.replicate 32 0 }, tLive [(MSH_NET_CFG, 1)], runs_of (by decide), by decide⟩

theorem wit_UpdateImagesAndCampaigns_10 : ∃ (d : Desc) (c : Campaign) (s : State), Runs s d ∧ c ∈ s.msh.campaigns ∧ c.id = d.op 32 2 :=
  ⟨tDesc 24 0x6004 [9], tCampaign, tUpdates true, runs_of (by decide), by decide, by decide⟩

theorem wit_UpdateImagesAndCampaigns_11 : ∃ (d : Desc) (x : Campaign) (s : State), Runs s d ∧ (s.msh.campaigns.find? fun c => c.id == d.op 32 2) = some x :=
  ⟨{ tDesc 24 0x6005 [9] with bufLen := 32 }, tCampaign, tUpdates true, runs_of (by decide), by decide⟩

theorem wit_UpdateImagesAndCampaigns_12 : ∃ (d : Desc) (s : State), Runs s d ∧ (∀ c ∈ s.msh.campaigns, c.id ≠ d.op 32 2) :=
  ⟨{ tDesc 24 0x6005 [4] with bufLen := 32 }, tUpdates true, runs_of (by decide), by decide⟩

theorem wit_UpdateImagesAndCampaigns_13 : ∃ (s : State), s.serving = true ∧ s.asnValid = true :=
  ⟨{ tUpdates true with sn := 400000 }, by decide, by decide⟩

theorem wit_UpdateImagesAndCampaigns_14 : ∃ (x : Campaign) (k : CampCluster) (g : Nat) (s : State), s.serving = true ∧ s.asnValid = true ∧ s.msh.campaigns = [x] ∧ x.running = true ∧ x.clusters = [k] ∧ k.gap = some g ∧ k.ended = false ∧ g + s.sfLen ≤ s.asn ∧ s.clusterDone x k.cluster = false ∧ k.round < x.maxRounds :=
  ⟨tCampaign, { cluster := 0, left := 0, gap := some 3 }, 3, { tUpdates true with sn := 400000 }, by decide, by decide, by decide, by decide, by decide, by decide, by decide, by decide, by decide, by decide⟩

theorem wit_UpdateImagesAndCampaigns_15 : ∃ (x : Campaign) (k : CampCluster) (g : Nat) (s : State), s.serving = true ∧ s.asnValid = true ∧ s.msh.campaigns = [x] ∧ x.running = true ∧ x.clusters = [k] ∧ k.gap = some g ∧ k.ended = false ∧ g + s.sfLen ≤ s.asn ∧ x.maxRounds ≤ k.round :=
  ⟨{ tCampaign with maxRounds := 0 }, { cluster := 0, left := 0, gap := some 3 }, 3, { tUpdates true with sn := 400000, msh := { tMesh.msh with campaigns := [{ tCampaign with maxRounds := 0 }] } }, by decide, by decide, by decide, by decide, by decide, by decide, by decide, by decide, by decide⟩

theorem wit_UpdateImagesAndCampaigns_16 : ∃ (x : MeshItem) (m : List Byte) (p : Nat) (n : Node) (u : State) (s : State), s.serving = true ∧ s.takeItem (MeshUp.isMessage 0xF0B3 0x11) = some (u, x) ∧ x.body = .message p m ∧ u.node? x.node = some n :=
  ⟨⟨5, 5, 0, 80, .message 0xF0B3 (0x11 :: List.replicate 15 0)⟩, 0x11 :: List.replicate 15 0, 0xF0B3, tNode, tMesh, { tMesh with msh := { tMesh.msh with inbox := [⟨5, 5, 0, 80, .message 0xF0B3 (0x11 :: List.replicate 15 0)⟩] } }, by decide, (rfl), by decide, by decide⟩

theorem wit_EthernetIntakeAndEgress_1 : ∃ (i : EthIn) (s : State), s.serving = true ∧ i.port < 24 ∧ s.matePort ≠ some i.port ∧ s.flag (PRT_CFG_ENABLE i.port) = true ∧ s.linkOf i.port = true ∧ (s.setFill i.port i.fill).storeRx i = none :=
  ⟨{ tEthIn with bytes := List.replicate 60 0 }, tEthFull, by decide, by decide, by decide, by decide, by decide, (by decide +kernel)⟩

theorem wit_EthernetIntakeAndEgress_2 : ∃ (i : EthIn) (id : Nat) (f : Frame) (v : Verdict) (k : Option Nat) (u : State) (w : State) (x : State) (y : State) (s : State), s.serving = true ∧ i.port < 24 ∧ s.matePort ≠ some i.port ∧ s.flag (PRT_CFG_ENABLE i.port) = true ∧ s.linkOf i.port = true ∧ (s.setFill i.port i.fill).storeRx i = some (u, id) ∧ w = ((u.count (PRT_RX_FRAMES i.port) 1).modFrame id fun f => { f with stamps := (u.count (PRT_RX_FRAMES i.port) 1).stampsOf i }).parityFails i.parity ∧ w.frame? id = some f ∧ w.lookup f = (x, v) ∧ x.intakeFault i (!((s.setFill i.port i.fill).storeFrame i.port ((s.setFill i.port i.fill).classOf i.port i.bytes) (i.bytes.take ((s.setFill i.port i.fill).get (PRT_CFG_MAX_FRAME i.port) - 4)) false ((tagOf i.bytes).map fun x => x.1)).isSome) = (y, k) :=
  ⟨tEthIn, tEthStored.2, (tEthW.frame? tEthStored.2).getD tFrame, (tEthW.lookup ((tEthW.frame? tEthStored.2).getD tFrame)).2, none, tEthStored.1, tEthW, (tEthW.lookup ((tEthW.frame? tEthStored.2).getD tFrame)).1, ((tEthW.lookup ((tEthW.frame? tEthStored.2).getD tFrame)).1.intakeFault tEthIn (!((tEth.setFill tEthIn.port tEthIn.fill).storeFrame tEthIn.port ((tEth.setFill tEthIn.port tEthIn.fill).classOf tEthIn.port tEthIn.bytes) (tEthIn.bytes.take ((tEth.setFill tEthIn.port tEthIn.fill).get (PRT_CFG_MAX_FRAME tEthIn.port) - 4)) false ((tagOf tEthIn.bytes).map fun x => x.1)).isSome)).1, tEth, by decide, by decide, by decide, by decide, by decide, (tEth_stored), (rfl), (some_getD _ _ (by decide +kernel)), (pair_eta _), (pair_snd _ (by decide +kernel))⟩

theorem wit_EthernetIntakeAndEgress_3 : ∃ (p : Nat) (s : State), s.serving = true ∧ tgetD s.net.xoffSn p 0 + s.get CIS_CFG_XOFF_REFRESH ≤ s.now :=
  ⟨0, { tLive [(CIS_PFC_STAT 0, 0x10003)] with sn := 400000 }, by decide, (by decide +kernel)⟩

theorem wit_EthernetIntakeAndEgress_4 : ∃ (p : Nat) (s : State), s.now < tgetD s.net.xoffSn p 0 + s.get CIS_CFG_XOFF_REFRESH :=
  ⟨0, { tLive [(CIS_PFC_STAT 0, 0x10003)] with net := { xoffSn := [(0, 200)] } }, (by decide +kernel)⟩

theorem wit_EthernetIntakeAndEgress_5 : ∃ (p : Nat) (_k : Nat) (_qs : List Nat) (_a : Nat) (s : State), s.serving = true ∧ (p < 24 ∨ p = 43) ∧ s.honours p false = true :=
  ⟨0, 0, [5], 7, tLive [(PRT_CFG 0, 0xFFFFFFFF)], by decide, (by decide), by decide⟩

theorem wit_EthernetIntakeAndEgress_6 : ∃ (p : Nat) (_k : Nat) (_qs : List Nat) (_a : Nat) (s : State), s.serving = true ∧ (p < 24 ∨ p = 43) ∧ s.honours p true = true :=
  ⟨0, 3, [5, 6], 7, tLive [(PRT_CFG 0, 0xFFFFFFFF)], by decide, (by decide), by decide⟩

theorem wit_EthernetIntakeAndEgress_7 : ∃ (p : Nat) (c : Nat) (a : Nat) (s : State), s.serving = true ∧ (s.net.paused.any fun x => x.1 == 16 * p + c && decide (x.2 ≤ s.clockNs a)) = true :=
  ⟨1, 2, 7, { tLive [] with net := { paused := [(18, 0)] } }, by decide, (by decide +kernel)⟩

theorem wit_EthernetIntakeAndEgress_8 : ∃ (p : Nat) (a : Nat) (c : Nat) (g : List Nat) (k : Nat) (s : State), s.serving = true ∧ (s.eg p).busy = none ∧ s.linkOf p = true ∧ s.matePort ≠ some p ∧ s.choose p (s.portNow p a) = some (c, g, k) :=
  ⟨0, 0, 0, ((tEgress.choose 0 (tEgress.portNow 0 0)).getD (0, [], 0)).2.1, ((tEgress.choose 0 (tEgress.portNow 0 0)).getD (0, [], 0)).2.2, tEgress, by decide, by decide, by decide, by decide, (by decide +kernel)⟩

theorem wit_EthernetIntakeAndEgress_9 : ∃ (p : Nat) (_a : Nat) (_rd : Option (List Byte)) (_er : Option CellErr) (e : QEntry) (f : Frame) (w : State) (s : State), s.serving = true ∧ (p < 24 ∨ p = 43) ∧ (s.eg p).busy = some e ∧ w = s.setEg p { s.eg p with busy := none } ∧ w.frame? e.frame = some f :=
  ⟨0, 0, none, none, tQEntry, tFrame, tOnWire.setEg 0 { tOnWire.eg 0 with busy := none }, tOnWire, by decide, by decide, by decide, (rfl), by decide⟩

theorem wit_EthernetIntakeAndEgress_10 : ∃ (_p : Nat) (f : Frame) (s : State), s.frame? f.id = some f ∧ f.bad = none ∧ f.verified = true ∧ crc32c f.bytes = f.check :=
  ⟨0, tFrame, tOnWire, by decide, by decide, by decide, (by decide +kernel)⟩

theorem wit_EthernetIntakeAndEgress_11 : ∃ (id : Nat) (_a : Nat) (_rd : Option (List Byte)) (_er : Option CellErr) (why : Nat) (b : List Byte) (r : List (Nat × Nat × List Byte)) (f : Frame) (w : State) (s : State), s.serving = true ∧ s.net.hostq = (id, why, b) :: r ∧ w = s.setNet { s.net with hostq := r } ∧ w.frame? id = some f :=
  ⟨0, 0, none, none, 1, [], [], tFrame, { tLive [] with net := { frames := [tFrame], hostq := [] } }, { tLive [] with net := { frames := [tFrame], hostq := [(0, 1, [])] } }, by decide, by decide, (rfl), by decide⟩

theorem wit_EthernetIntakeAndEgress_12 : ∃ (p : Nat) (_a : Nat) (_rd : Option (List Byte)) (_er : Option CellErr) (x : Inner) (f : Frame) (w : State) (s : State), s.serving = true ∧ 24 ≤ p ∧ p ≠ 40 ∧ p ≠ 43 ∧ (s.net.inner.find? fun x => x.port == p) = some x ∧ w = s.setNet { s.net with inner := s.net.inner.erase x } ∧ w.frame? x.frame = some f :=
  ⟨24, 0, none, none, ⟨24, 0, .mesh 0 []⟩, tFrame, { tLive [] with net := { frames := [tFrame], inner := [] } }, { tLive [] with net := { frames := [tFrame], inner := [⟨24, 0, .mesh 0 []⟩] } }, by decide, by decide, by decide, by decide, by decide, (rfl), by decide⟩

theorem wit_EthernetIntakeAndEgress_13 : ∃ (s : State), s.serving = true ∧ s.net.stranded ≠ [] :=
  ⟨{ tLive [] with net := { stranded := [7, 8] } }, by decide, by decide⟩

theorem wit_EthernetIntakeAndEgress_14 : ∃ (l : List (Nat × Nat)) (x : Recirc) (r : List Recirc) (f : Frame) (v : Verdict) (_a : Nat) (u : State) (w : State) (s : State), s.serving = true ∧ s.net.recirc = x :: r ∧ u = (s.setNet { s.net with recirc := r }).parityFails l ∧ u.frame? x.frame = some f ∧ u.lpmPass f f.packet x.cand (x.pass + 1) = (w, v) :=
  ⟨[], ⟨0, [64, 60, 56, 52, 48, 44], 1, none, none⟩, [], tFrame, .again [48, 44], 0, { tRecirc with net := { tRecirc.net with recirc := [] } }, (({ tRecirc with net := { tRecirc.net with recirc := [] } }).lpmPass tFrame tFrame.packet [64, 60, 56, 52, 48, 44] 2).1, tRecirc, by decide, by decide, (rfl), by decide, (rfl)⟩

theorem wit_EthernetIntakeAndEgress_15 : ∃ (d : Desc) (s : State), Runs s d ∧ (d.op 32 1 == 1 && !s.fabricOk (d.op 33 1)) = true :=
  ⟨{ tDesc 8 0x2001 [1, 45] with bufLen := 60, buf := List.replicate 60 0 }, tLive [], runs_of (by decide), (by decide +kernel)⟩

theorem wit_EthernetIntakeAndEgress_16 : ∃ (d : Desc) (s : State), Runs s d ∧ (d.op 32 1 == 1 && !s.fabricOk (d.op 33 1)) = false ∧ bit (d.op 37 1) 0 = true ∧ crc32c (slice d.buf 0 d.bufLen) ≠ d.op 40 4 :=
  ⟨{ tDesc 8 0x2001 [1, 0, 0, 0, 0, 1, 0, 0, 9] with bufLen := 60, buf := List.replicate 60 0 }, tLive [], runs_of (by decide), (by decide +kernel), by decide, (by decide +kernel)⟩

theorem wit_EthernetIntakeAndEgress_17 : ∃ (d : Desc) (s : State), Runs s d ∧ (bit (d.op 37 1) 0 && crc32c (slice d.buf 0 d.bufLen) != d.op 40 4) = false ∧ d.op 32 1 = 1 ∧ s.fabricOk (d.op 33 1) = true ∧ (if d.op 33 1 < 24 then !s.linkOf (d.op 33 1) else d.op 33 1 != 40) = true :=
  ⟨{ tDesc 8 0x2001 [1] with bufLen := 60, buf := List.replicate 60 0 }, tLive [], runs_of (by decide), (by decide +kernel), by decide, by decide, by decide⟩

theorem wit_EthernetIntakeAndEgress_18 : ∃ (d : Desc) (s : State), Runs s d ∧ (bit (d.op 37 1) 0 && crc32c (slice d.buf 0 d.bufLen) != d.op 40 4) = false ∧ (d.op 32 1 ≠ 1 ∨ s.fabricOk (d.op 33 1) = true ∧ (d.op 33 1 = 40 ∨ d.op 33 1 < 24 ∧ s.linkOf (d.op 33 1) = true)) ∧ s.storeFrame 40 (d.op 36 1) (slice d.buf 0 d.bufLen) true none = none :=
  ⟨{ tDesc 8 0x2001 [] with bufLen := 60, buf := List.replicate 60 0 }, tLive [(CIS_MIN 40, 0), (CIS_SHARED, 0)], runs_of (by decide), (by decide +kernel), by decide, (by decide +kernel)⟩

theorem wit_EthernetIntakeAndEgress_19 : ∃ (d : Desc) (id : Nat) (f : Frame) (u : State) (w : State) (s : State), Runs s d ∧ (bit (d.op 37 1) 0 && crc32c (slice d.buf 0 d.bufLen) != d.op 40 4) = false ∧ d.op 32 1 = 1 ∧ s.fabricOk (d.op 33 1) = true ∧ (d.op 33 1 = 40 ∨ d.op 33 1 < 24 ∧ s.linkOf (d.op 33 1) = true) ∧ s.storeFrame 40 (d.op 36 1) (slice d.buf 0 d.bufLen) true none = some (u, id) ∧ w = (u.modFrame id fun f => { f with vlan := d.op 34 2 }) ∧ w.frame? id = some f :=
  ⟨{ tDesc 8 0x2001 [1] with bufLen := 60, buf := List.replicate 60 0 }, 0, (tSent.frame? 0).getD tHostFrame, ((tEgress.storeFrame 40 0 (List.replicate 60 0) true none).getD (tEgress, 0)).1, tSent, tEgress, runs_of (by decide), (by decide +kernel), by decide, by decide, (by decide +kernel), (by decide +kernel), (rfl), (some_getD _ _ (by decide +kernel))⟩

theorem wit_EthernetIntakeAndEgress_20 : ∃ (d : Desc) (id : Nat) (f : Frame) (x : State) (v : Verdict) (u : State) (w : State) (s : State), Runs s d ∧ (bit (d.op 37 1) 0 && crc32c (slice d.buf 0 d.bufLen) != d.op 40 4) = false ∧ d.op 32 1 ≠ 1 ∧ s.storeFrame 40 (d.op 36 1) (slice d.buf 0 d.bufLen) true none = some (u, id) ∧ w = (u.modFrame id fun f => { f with vlan := d.op 34 2 }) ∧ w.frame? id = some f ∧ w.lookup f = (x, v) :=
  ⟨{ tDesc 8 0x2001 [] with bufLen := 60, buf := List.replicate 60 0 }, 0, (tSent.frame? 0).getD tHostFrame, (tSent.lookup ((tSent.frame? 0).getD tHostFrame)).1, (tSent.lookup ((tSent.frame? 0).getD tHostFrame)).2, ((tEgress.storeFrame 40 0 (List.replicate 60 0) true none).getD (tEgress, 0)).1, tSent, tEgress, runs_of (by decide), (by decide +kernel), by decide, (by decide +kernel), (rfl), (some_getD _ _ (by decide +kernel)), (pair_eta _)⟩

theorem wit_PortsAndMdio_1 : ∃ (p : Nat) (s : State), s.serving = true ∧ p < 24 ∧ s.flag (PRT_CFG_ENABLE p) = true ∧ bit (s.get PRT_LINK_UP) p = false :=
  ⟨3, tLive [(PRT_CFG 3, 0xFFFFFFFF)], by decide, by decide, by decide, by decide⟩

theorem wit_PortsAndMdio_2 : ∃ (p : Nat) (s : State), s.serving = true ∧ p < 24 ∧ bit (s.get PRT_LINK_UP) p = true :=
  ⟨3, tLive [(PRT_LINK, 8)], by decide, by decide, by decide⟩

theorem wit_PortsAndMdio_3 : ∃ (_v : Word) (s : State), s.mainLive = true :=
  ⟨3, tLive [], by decide⟩

theorem wit_PortsAndMdio_4 : ∃ (v : Word) (s : State), s.mainLive = true ∧ s.flag PRT_MDIO_CMD_GO = false ∧ bitsOf v 12 2 = 0 :=
  ⟨0x8000, tLive [], by decide, by decide, by decide⟩

theorem wit_PortsAndMdio_5 : ∃ (v : Word) (s : State), s.mainLive = true ∧ s.flag PRT_MDIO_CMD_GO = false ∧ bitsOf v 12 2 = 1 :=
  ⟨0x9000, tLive [], by decide, by decide, by decide⟩

theorem wit_PortsAndMdio_6 : ∃ (v : Word) (s : State), s.mainLive = true ∧ s.flag PRT_MDIO_CMD_GO = false ∧ bitsOf v 12 2 = 2 :=
  ⟨0xA000, tLive [], by decide, by decide, by decide⟩

theorem wit_PortsAndMdio_7 : ∃ (v : Word) (s : State), s.mainLive = true ∧ s.flag PRT_MDIO_CMD_GO = false ∧ bitsOf v 12 2 = 3 :=
  ⟨0xB000, tLive [], by decide, by decide, by decide⟩

theorem wit_PortsAndMdio_8 : ∃ (_v : Word) (s : State), s.mainLive = true ∧ s.flag PRT_MDIO_CMD_GO = true :=
  ⟨0x8000, tLive [(PRT_MDIO_CMD, 0xFFFFFFFF)], by decide, by decide⟩

theorem wit_PortsAndMdio_9 : ∃ (_b : Nat) (s : State), s.serving = true ∧ s.flag PRT_MDIO_CMD_GO = true :=
  ⟨77, tLive [(PRT_MDIO_CMD, 0xB000)], by decide, by decide⟩

theorem wit_ForwardingTables_1 : ∃ (key : List Byte) (p : Nat) (r : List (List Byte × Nat)) (s : State), s.serving = true ∧ s.net.learnq = (key, p) :: r :=
  ⟨tMac, 3, [], { tTables with net := { tTables.net with learnq := [(tMac, 3)] } }, by decide, by decide⟩

theorem wit_ForwardingTables_2 : ∃ (key : List Byte) (p : Nat) (i : Nat) (e : L2) (r : List (List Byte × Nat)) (s : State), s.serving = true ∧ s.net.learnq = (key, p) :: r ∧ s.findMac key = some i ∧ tget s.net.l2 i = some e ∧ e.port = p :=
  ⟨tMac, 3, slotOf l2Slots 0 tMac, tL2, [], { tTables with net := { tTables.net with learnq := [(tMac, 3)] } }, by decide, by decide, (by decide +kernel), (by decide +kernel), by decide⟩

theorem wit_ForwardingTables_3 : ∃ (key : List Byte) (p : Nat) (i : Nat) (e : L2) (r : List (List Byte × Nat)) (s : State), s.serving = true ∧ s.net.learnq = (key, p) :: r ∧ s.findMac key = some i ∧ tget s.net.l2 i = some e ∧ e.port ≠ p ∧ e.held = false ∧ e.static = true :=
  ⟨tMac, 4, slotOf l2Slots 0 tMac, { tL2 with static := true }, [], { tLive [] with net := { l2 := [(slotOf l2Slots 0 tMac, { tL2 with static := true })], learnq := [(tMac, 4)] } }, by decide, by decide, (by decide +kernel), (by decide +kernel), by decide, by decide, by decide⟩

theorem wit_ForwardingTables_4 : ∃ (key : List Byte) (p : Nat) (t2 : Tab L2) (r : List (List Byte × Nat)) (s : State), s.serving = true ∧ s.net.learnq = (key, p) :: r ∧ s.findMac key = none ∧ cuckoo l2Slots L2.key s.net.l2 { key := key, port := p, static := false, ts := s.fwdNow } = some t2 :=
  ⟨tMac, 3, [(slotOf l2Slots 0 tMac, tL2)], [], { tLive [] with net := { learnq := [(tMac, 3)] } }, by decide, by decide, (by decide +kernel), (by decide +kernel)⟩

theorem wit_ForwardingTables_5 : ∃ (s : State), s.serving = true :=
  ⟨{ tLive [] with net := { l2 := [(7, { tL2 with held := true })] } }, by decide⟩

theorem wit_ForwardingTables_6 : ∃ (l : List Nat) (u : State) (s : State), s.serving = true ∧ u = (l.filter fun i => (tget s.net.l2 i).isSome).foldl (fun s i => s.parityFail 1 i) s :=
  ⟨[], { tLive [] with net := { l2 := [(7, { tL2 with ts := 1 })] } }, { tLive [] with net := { l2 := [(7, { tL2 with ts := 1 })] } }, by decide, (rfl)⟩

theorem wit_ForwardingTables_7 : ∃ (s : State), s.serving = true ∧ s.get FWD_CFG_AGE_S ≠ 0 :=
  ⟨{ tLive [] with net := { l2 := [(7, { tL2 with ts := 1 })] } }, by decide, by decide⟩

theorem wit_ForwardingTables_8 : ∃ (d : Desc) (s : State), Runs s d ∧ s.fabricOk (d.op 40 1) = false :=
  ⟨tDesc 4 0x1001 (tMacOps.take 6 ++ [1, 0, 45]), tLive [], runs_of (by decide), (by decide)⟩

theorem wit_ForwardingTables_9 : ∃ (d : Desc) (s : State), Runs s d ∧ s.fabricOk (d.op 40 1) = true ∧ s.findMac (macKey (d.op 38 2) (slice d.ops 0 6)) = none :=
  ⟨tDesc 4 0x1001 (tMacOps ++ [3]), tLive [], runs_of (by decide), by decide, (by decide +kernel)⟩

theorem wit_ForwardingTables_10 : ∃ (d : Desc) (i : Nat) (s : State), Runs s d ∧ s.fabricOk (d.op 40 1) = true ∧ s.findMac (macKey (d.op 38 2) (slice d.ops 0 6)) = some i :=
  ⟨tDesc 4 0x1001 (tMacOps ++ [9, 1]), slotOf l2Slots 0 tMac, tTables, runs_of (by decide), by decide, (by decide +kernel)⟩

theorem wit_ForwardingTables_11 : ∃ (d : Desc) (t2 : Tab L2) (s : State), Runs s d ∧ s.fabricOk (d.op 40 1) = true ∧ s.findMac (macKey (d.op 38 2) (slice d.ops 0 6)) = none ∧ cuckoo l2Slots L2.key s.net.l2 { key := macKey (d.op 38 2) (slice d.ops 0 6), port := d.op 40 1, static := bit (d.op 41 1) 0, ts := s.fwdNow } = some t2 :=
  ⟨tDesc 4 0x1001 (tMacOps ++ [3]), [(slotOf l2Slots 0 tMac, tL2)], tLive [], runs_of (by decide), by decide, (by decide +kernel), (by decide +kernel)⟩

theorem wit_ForwardingTables_12 : ∃ (d : Desc) (i : Nat) (s : State), Runs s d ∧ s.findMac (macKey (d.op 38 2) (slice d.ops 0 6)) = some i :=
  ⟨tDesc 4 0x1002 tMacOps, slotOf l2Slots 0 tMac, tTables, runs_of (by decide), (by decide +kernel)⟩

theorem wit_ForwardingTables_13 : ∃ (d : Desc) (s : State), Runs s d ∧ s.findMac (macKey (d.op 38 2) (slice d.ops 0 6)) = none :=
  ⟨tDesc 4 0x1002 tMacOps, tLive [], runs_of (by decide), (by decide +kernel)⟩

theorem wit_ForwardingTables_14 : ∃ (d : Desc) (s : State), Runs s d ∧ d.op 32 1 = 0 :=
  ⟨tDesc 4 0x1003 [0], tTables, runs_of (by decide), by decide⟩

theorem wit_ForwardingTables_15 : ∃ (d : Desc) (s : State), Runs s d ∧ d.op 32 1 = 1 ∧ s.fabricOk (d.op 33 1) = true :=
  ⟨tDesc 4 0x1003 [1, 3], tTables, runs_of (by decide), by decide, by decide⟩

theorem wit_ForwardingTables_16 : ∃ (d : Desc) (s : State), Runs s d ∧ 2 ≤ d.op 32 1 :=
  ⟨tDesc 4 0x1003 [2, 0, 1, 0], tTables, runs_of (by decide), by decide⟩

theorem wit_ForwardingTables_17 : ∃ (d : Desc) (s : State), Runs s d ∧ d.op 32 1 = 1 ∧ s.fabricOk (d.op 33 1) = false :=
  ⟨tDesc 4 0x1003 [1, 45], tTables, runs_of (by decide), by decide, (by decide)⟩

theorem wit_ForwardingTables_18 : ∃ (d : Desc) (s : State), Runs s d :=
  ⟨{ tDesc 4 0x1004 [] with bufLen := 32 }, tTables, runs_of (by decide)⟩

theorem wit_ForwardingTables_19 : ∃ (d : Desc) (s : State), Runs s d ∧ (match s.matePort with | some q => bit (d.op 36 4) q || bit (d.op 40 4) q | none => false) = true :=
  ⟨tDesc 4 0x1005 [5, 0, 3, 0, 7, 0, 0, 0, 7], tLive [(PAI_CFG, 1)], runs_of (by decide), (by decide +kernel)⟩

theorem wit_ForwardingTables_20 : ∃ (d : Desc) (s : State), Runs s d ∧ (match s.matePort with | some q => bit (d.op 36 4) q || bit (d.op 40 4) q | none => false) = false ∧ bit (d.op 34 1) 0 = true :=
  ⟨tDesc 4 0x1005 [5, 0, 3, 0, 7, 0, 0, 0, 7], tLive [], runs_of (by decide), by decide, by decide⟩

theorem wit_ForwardingTables_21 : ∃ (d : Desc) (s : State), Runs s d ∧ (match s.matePort with | some q => bit (d.op 36 4) q || bit (d.op 40 4) q | none => false) = false ∧ bit (d.op 34 1) 0 = false :=
  ⟨tDesc 4 0x1005 [5, 0, 0], tLive [], runs_of (by decide), by decide, by decide⟩

theorem wit_ForwardingTables_22 : ∃ (d : Desc) (t2 : Tab Route) (s : State), Runs s d ∧ (d.op 49 1 ≠ 2 ∨ s.fabricOk (d.op 50 1) = true) ∧ s.findRoute (routeKey (d.op 48 1) (slice d.ops 0 16)) = none ∧ cuckoo routeSlots Route.key s.net.routes { key := routeKey (d.op 48 1) (slice d.ops 0 16), kind := d.op 49 1, port := d.op 50 1, vlan := d.op 52 2, nhMac := slice d.ops 22 6 } = some t2 :=
  ⟨tDesc 4 0x1006 (List.replicate 16 0 ++ [64, 1]), [(slotOf routeSlots 0 (routeKey 64 (List.replicate 16 0)), ⟨routeKey 64 (List.replicate 16 0), 1, 0, 0, List.replicate 6 0⟩)], tLive [], runs_of (by decide), by decide, (by decide +kernel), (by decide +kernel)⟩

theorem wit_ForwardingTables_23 : ∃ (d : Desc) (s : State), Runs s d ∧ d.op 49 1 = 2 ∧ s.fabricOk (d.op 50 1) = false :=
  ⟨tDesc 4 0x1006 (List.replicate 16 0 ++ [64, 2, 0]), tLive [(PAI_CFG, 1)], runs_of (by decide), by decide, (by decide +kernel)⟩

theorem wit_ForwardingTables_24 : ∃ (d : Desc) (s : State), Runs s d ∧ (d.op 49 1 ≠ 2 ∨ s.fabricOk (d.op 50 1) = true) ∧ s.findRoute (routeKey (d.op 48 1) (slice d.ops 0 16)) = none :=
  ⟨tDesc 4 0x1006 (List.replicate 16 0 ++ [64, 1]), tLive [], runs_of (by decide), by decide, (by decide +kernel)⟩

theorem wit_ForwardingTables_25 : ∃ (d : Desc) (s : State), Runs s d ∧ s.findRoute (routeKey (d.op 48 1) (slice d.ops 0 16)) = none :=
  ⟨tDesc 4 0x1007 (List.replicate 16 0 ++ [64]), tLive [], runs_of (by decide), (by decide +kernel)⟩

theorem wit_ForwardingTables_26 : ∃ (d : Desc) (i : Nat) (s : State), Runs s d ∧ s.findRoute (routeKey (d.op 48 1) (slice d.ops 0 16)) = some i :=
  ⟨tDesc 4 0x1007 (List.replicate 16 0 ++ [64]), slotOf routeSlots 0 (routeKey 64 (List.replicate 16 0)), tRoutes, runs_of (by decide), (by decide +kernel)⟩

theorem wit_ForwardingTables_27 : ∃ (d : Desc) (i : Nat) (s : State), Runs s d ∧ (d.op 49 1 ≠ 2 ∨ s.fabricOk (d.op 50 1) = true) ∧ s.findRoute (routeKey (d.op 48 1) (slice d.ops 0 16)) = some i :=
  ⟨tDesc 4 0x1006 (List.replicate 16 0 ++ [64, 1]), slotOf routeSlots 0 (routeKey 64 (List.replicate 16 0)), tRoutes, runs_of (by decide), by decide, (by decide +kernel)⟩

theorem wit_ForwardingTables_28 : ∃ (d : Desc) (s : State), Runs s d ∧ s.fabricOk (d.op 32 1) = true ∧ bit (d.op 33 1) 0 = false :=
  ⟨{ tDesc 4 0x1008 [2] with bufLen := 40, buf := tGateBuf }, tLive [], runs_of (by decide), by decide, by decide⟩

theorem wit_ForwardingTables_29 : ∃ (d : Desc) (n : Nat) (s : State), Runs s d ∧ s.fabricOk (d.op 32 1) = true ∧ bit (d.op 33 1) 0 = true ∧ leAt d.buf 16 8 * 1000000000 + leAt d.buf 24 4 = n :=
  ⟨{ tDesc 4 0x1008 [2, 1] with bufLen := 40, buf := tGateBuf }, 9000000000, tLive [], runs_of (by decide), by decide, by decide, by decide⟩

theorem wit_ForwardingTables_30 : ∃ (d : Desc) (s : State), Runs s d ∧ s.fabricOk (d.op 32 1) = false :=
  ⟨{ tDesc 4 0x1008 [0] with bufLen := 40, buf := tGateBuf }, tLive [(PAI_CFG, 1)], runs_of (by decide), (by decide +kernel)⟩

theorem wit_ForwardingTables_31 : ∃ (d : Desc) (s : State), Runs s d ∧ d.bufLen < 512 :=
  ⟨{ tDesc 4 0x1009 [] with bufLen := 32 }, tLive [], runs_of (by decide), by decide⟩

theorem wit_ForwardingTables_32 : ∃ (d : Desc) (s : State), Runs s d ∧ 512 ≤ d.bufLen :=
  ⟨{ tDesc 4 0x1009 [] with bufLen := 512 }, { tLive [] with net := { parity := [(1, 7)] } }, runs_of (by decide), by decide⟩

theorem wit_LogsAndAcknowledgements_1 : ∃ (_h : MateHdr) (_e : List LogEntry) (_l : LogEnd) (_a : MateAck) (_f : List Nat) (_i : Nat) (_d : Desc) (_r : MateResult) (_p : List Byte) (_b : Bool) (_o : Option Snapshot) (_ns : Nat) (u : State) (s : State), s.admitMate = (u, false) :=
  ⟨tMateHdr, [], tLogEnd, ⟨0, true, false, 0, 0⟩, [], 0, tDesc 32 0x8003 [1], ⟨4, 0, 0, 7, []⟩, [], false, none, 0, tLive [], tLive [], (rfl)⟩

theorem wit_LogsAndAcknowledgements_2 : ∃ (h : MateHdr) (_e : List LogEntry) (_l : LogEnd) (_a : MateAck) (_f : List Nat) (_i : Nat) (_d : Desc) (_r : MateResult) (_p : List Byte) (_b : Bool) (_o : Option Snapshot) (_ns : Nat) (u : State) (s : State), s.admitMate = (u, true) ∧ s.micGood h.mic = false :=
  ⟨{ tMateHdr with mic := none }, [], tLogEnd, ⟨0, true, false, 0, 0⟩, [], 0, tDesc 32 0x8003 [1], ⟨4, 0, 0, 7, []⟩, [], false, none, 0, (tPair .standby).admitMate.1, tPair .standby, (admit_pair rfl rfl (by decide +kernel)), by decide⟩

theorem wit_LogsAndAcknowledgements_3 : ∃ (h : MateHdr) (_e : List LogEntry) (ns : Nat) (u : State) (s : State), s.takeFrame h true ns = (u, true) :=
  ⟨tMateHdr, [], 0, ((tPair .standby).takeFrame tMateHdr true 0).1, tPair .standby, (take_pair rfl rfl (by decide +kernel) (by decide +kernel))⟩

theorem wit_LogsAndAcknowledgements_4 : ∃ (h : MateHdr) (_e : List LogEntry) (ns : Nat) (u : State) (s : State), s.takeFrame h true ns = (u, true) ∧ s.role = .standby ∧ s.pai.done < h.sn ∧ s.log? h.sn = none :=
  ⟨tMateHdr, [], 0, ((tPair .standby).takeFrame tMateHdr true 0).1, tPair .standby, (take_pair rfl rfl (by decide +kernel) (by decide +kernel)), by decide, by decide, by decide⟩

theorem wit_LogsAndAcknowledgements_5 : ∃ (h : MateHdr) (_e : LogEnd) (ns : Nat) (u : State) (s : State), s.takeFrame h true ns = (u, true) :=
  ⟨tMateHdr, tLogEnd, 0, ((tPair .standby).takeFrame tMateHdr true 0).1, tPair .standby, (take_pair rfl rfl (by decide +kernel) (by decide +kernel))⟩

theorem wit_LogsAndAcknowledgements_6 : ∃ (h : MateHdr) (_e : LogEnd) (ns : Nat) (u : State) (s : State), s.takeFrame h true ns = (u, true) ∧ s.role = .standby ∧ s.pai.done < h.sn ∧ s.pai.lastEnd = none ∧ s.log? h.sn = none ∧ h.frag = 1 :=
  ⟨{ tMateHdr with frag := 1 }, tLogEnd, 0, ((tPair .standby).takeFrame { tMateHdr with frag := 1 } true 0).1, tPair .standby, (take_pair rfl rfl (by decide +kernel) (by decide +kernel)), by decide, by decide, by decide, by decide, by decide⟩

theorem wit_LogsAndAcknowledgements_7 : ∃ (s : State), s.serving = true ∧ (s.role ≠ .standby ∨ s.sn - 1 ≤ s.pai.done) :=
  ⟨tPair .primary, by decide, by decide⟩

theorem wit_LogsAndAcknowledgements_8 : ∃ (x : StrokeLog) (s : State), s.serving = true ∧ s.log? (s.sn - 1) = some x ∧ x.complete = true :=
  ⟨{ sn := 99, fin := some tLogEnd }, { tPair .standby with pai := { logs := [{ sn := 99, fin := some tLogEnd }] } }, by decide, by decide, by decide⟩

theorem wit_LogsAndAcknowledgements_9 : ∃ (s : State), s.serving = true ∧ s.role = .standby ∧ s.pai.done < s.sn - 1 ∧ (∀ x, s.log? (s.sn - 1) = some x → x.fin = none) :=
  ⟨{ tPair .standby with pai := { logs := [{ sn := 99 }] } }, by decide, by decide, by decide, (fun x h => by cases h; rfl)⟩

theorem wit_LogsAndAcknowledgements_10 : ∃ (x : StrokeLog) (e : LogEnd) (s : State), s.serving = true ∧ s.role = .standby ∧ s.pai.done < s.sn - 1 ∧ s.log? (s.sn - 1) = some x ∧ x.fin = some e ∧ x.missing ≠ [] :=
  ⟨{ sn := 99, fin := some tLogEnd, frames := 1 }, tLogEnd, { tPair .standby with pai := { logs := [{ sn := 99, fin := some tLogEnd, frames := 1 }] } }, by decide, by decide, by decide, by decide, by decide, by decide⟩

theorem wit_LogsAndAcknowledgements_11 : ∃ (h : MateHdr) (_a : MateAck) (ns : Nat) (u : State) (s : State), s.takeFrame h false ns = (u, true) ∧ s.role = .primary :=
  ⟨tMateHdr, ⟨0, true, false, 0, 0⟩, 0, ((tPair .primary).takeFrame tMateHdr false 0).1, tPair .primary, (take_pair rfl rfl (by decide +kernel) (by decide +kernel)), by decide⟩

theorem wit_LogsAndAcknowledgements_12 : ∃ (h : MateHdr) (_a : MateAck) (ns : Nat) (u : State) (s : State), s.takeFrame h false ns = (u, true) ∧ s.role = .primary :=
  ⟨tMateHdr, ⟨0, true, false, 0, 0⟩, 0, ((tPair .primary).takeFrame tMateHdr false 0).1, tPair .primary, (take_pair rfl rfl (by decide +kernel) (by decide +kernel)), by decide⟩

theorem wit_LogsAndAcknowledgements_13 : ∃ (h : MateHdr) (_a : MateAck) (_f : List Nat) (_i : Nat) (_d : Desc) (ns : Nat) (u : State) (v : State) (s : State), s.takeFrame h false ns = (u, true) ∧ s.takeFrame h false 0 = (v, true) ∧ s.role ≠ .primary :=
  ⟨tMateHdr, ⟨0, true, false, 0, 0⟩, [], 0, tDesc 32 0x8003 [1], 7, ((tPair .standby).takeFrame tMateHdr false 7).1, ((tPair .standby).takeFrame tMateHdr false 0).1, tPair .standby, (take_pair rfl rfl (by decide +kernel) (by decide +kernel)), (take_pair rfl rfl (by decide +kernel) (by decide +kernel)), by decide⟩

theorem wit_LogsAndAcknowledgements_14 : ∃ (h : MateHdr) (_f : List Nat) (u : State) (s : State), s.takeFrame h false 0 = (u, true) ∧ s.role = .primary :=
  ⟨tMateHdr, [2], (({ tPair .primary with pai := { sent := [(99, 2, []), (99, 3, [])] } }).takeFrame tMateHdr false 0).1, { tPair .primary with pai := { sent := [(99, 2, []), (99, 3, [])] } }, (take_pair rfl rfl (by decide +kernel) (by decide +kernel)), by decide⟩

theorem wit_LogsAndAcknowledgements_15 : ∃ (h : MateHdr) (_i : Nat) (_d : Desc) (ns : Nat) (u : State) (s : State), s.takeFrame h false ns = (u, true) ∧ s.role = .primary :=
  ⟨tMateHdr, 4, tDesc 32 0x8003 [1], 0, ((tPair .primary).takeFrame tMateHdr false 0).1, tPair .primary, (take_pair rfl rfl (by decide +kernel) (by decide +kernel)), by decide⟩

theorem wit_LogsAndAcknowledgements_16 : ∃ (h : MateHdr) (r : MateResult) (f : Forwarded) (u : State) (s : State), s.takeFrame h true 0 = (u, true) ∧ (u.rings.forwarded.find? fun f => f.id == r.id) = some f :=
  ⟨tMateHdr, ⟨4, 0, 0, 7, []⟩, tForwarded, ((tForwards).takeFrame tMateHdr true 0).1, tForwards, (take_pair rfl rfl (by decide +kernel) (by decide +kernel)), (by rw [rings_take rfl]; decide)⟩

theorem wit_LogsAndAcknowledgements_17 : ∃ (h : MateHdr) (r : MateResult) (u : State) (s : State), s.takeFrame h true 0 = (u, true) ∧ (u.rings.forwarded.find? fun f => f.id == r.id) = none :=
  ⟨tMateHdr, ⟨5, 0, 0, 7, []⟩, ((tForwards).takeFrame tMateHdr true 0).1, tForwards, (take_pair rfl rfl (by decide +kernel) (by decide +kernel)), (by rw [rings_take rfl]; decide)⟩

theorem wit_LeaseAndAuthority_1 : ∃ (s : State), s.paired = true ∧ s.stroked = true ∧ (s.serving || s.dev == .halt) = true ∧ s.keyLive 10 0 s.key.log.gen s.key.log.slot = true :=
  ⟨tPair .primary, by decide, by decide, by decide, by decide⟩

theorem wit_LeaseAndAuthority_2 : ∃ (s : State), (s.paired && s.stroked && (s.serving || s.dev == .halt) && s.keyLive 10 0 s.key.log.gen s.key.log.slot) = false :=
  ⟨tLive [], by decide⟩

theorem wit_LeaseAndAuthority_3 : ∃ (_b : List Byte) (_m : Option Nat) (_ns : Nat) (s : State), (s.paired && (s.serving || s.dev == .halt)) = false :=
  ⟨[], none, 0, tLive [], by decide⟩

theorem wit_LeaseAndAuthority_4 : ∃ (b : List Byte) (m : Option Nat) (_ns : Nat) (s : State), s.paired = true ∧ (s.serving || s.dev == .halt) = true ∧ (s.micGood m && s.tokenSnOk (readToken b).sn) = false :=
  ⟨[], none, 0, tPair .primary, by decide, by decide, by decide⟩

theorem wit_LeaseAndAuthority_5 : ∃ (b : List Byte) (m : Option Nat) (_ns : Nat) (s : State), s.paired = true ∧ (s.serving || s.dev == .halt) = true ∧ s.micGood m = true ∧ s.tokenSnOk (readToken b).sn = true :=
  ⟨[0, 0, 0, 0, 0, 0, 0, 0, 100], some 1, 0, tPair .primary, by decide, by decide, by decide, by decide⟩

theorem wit_LeaseAndAuthority_6 : ∃ (_ns : Nat) (s : State), s.serving = true ∧ s.paired = true ∧ s.stopLive = true ∧ 40 ≤ s.pai.noAuth :=
  ⟨0, { tPair .standby with pai := { noAuth := 40 } }, by decide, by decide, by decide, by decide⟩

theorem wit_LeaseAndAuthority_7 : ∃ (_ns : Nat) (s : State), (s.serving && s.paired && s.stopLive && decide (40 ≤ s.pai.noAuth)) = false :=
  ⟨0, { tPair .standby with pai := { noAuth := 39 } }, by decide⟩

theorem wit_LeaseAndAuthority_8 : ∃ (s : State), s.serving = true ∧ s.paired = true ∧ s.pai.tokLast = [true, true, true, true] ∧ s.flag PAI_STATUS_LEASE_LINK = false :=
  ⟨{ tPair .standby with pai := { tokLast := [true, true, true, true] } }, by decide, by decide, by decide, by decide⟩

theorem wit_LeaseAndAuthority_9 : ∃ (s : State), s.serving = true ∧ s.pai.tokLast ≠ [true, true, true, true] ∧ s.pai.tokLast.length ≤ 4 ∧ s.flag PAI_STATUS_LEASE_LINK = true :=
  ⟨tLive [(PAI_CFG, 1), (PAI_STATUS, 0xFFFFFFFF)], by decide, by decide, by decide⟩

theorem wit_LeaseAndAuthority_10 : ∃ (s : State), (s.serving = false ∨ s.flag PAI_STATUS_LEASE_LINK = (s.paired && s.pai.tokLast.length == 4 && s.pai.tokLast.all id)) :=
  ⟨tPair .primary, by decide⟩

theorem wit_LeaseAndAuthority_11 : ∃ (s : State), s.serving = true ∧ s.paired = true ∧ s.frameRecent = true ∧ s.flag PAI_STATUS_MATE_LINK = false :=
  ⟨{ tPair .standby with pai := { frameSn := some 99 } }, by decide, by decide, by decide, by decide⟩

theorem wit_LeaseAndAuthority_12 : ∃ (s : State), s.serving = true ∧ s.frameRecent = false ∧ s.flag PAI_STATUS_MATE_LINK = true :=
  ⟨tLive [(PAI_CFG, 1), (PAI_STATUS, 0xFFFFFFFF)], by decide, by decide, by decide⟩

theorem wit_LeaseAndAuthority_13 : ∃ (s : State), (s.serving = false ∨ s.flag PAI_STATUS_MATE_LINK = (s.paired && s.frameRecent)) :=
  ⟨tPair .primary, by decide⟩

theorem wit_LeaseAndAuthority_14 : ∃ (t : Token) (s : State), s.serving = true ∧ s.flag PAI_CFG_AUTO_TAKEBACK = true ∧ s.straps.pairPref = true ∧ s.role = .standby ∧ s.num PAI_HOLDOFF ≤ s.num PAI_CLEAN_RUN ∧ s.pai.token = some t ∧ t.pref = false ∧ s.pai.hand = none :=
  ⟨readToken [], { tPair .standby with straps := { pairPref := true }, regs := [(PAI_CFG, 0xFFFFFFFF), (PAI_HOLDOFF, 0), (PAI_CLEAN_RUN, 9)], pai := { token := some (readToken []) } }, by decide, by decide, by decide, by decide, by decide, by decide, by decide, by decide⟩

theorem wit_LeaseAndAuthority_15 : ∃ (s : State), (s.serving = false ∨ s.flag PAI_CFG_AUTO_TAKEBACK = false ∨ s.straps.pairPref = false ∨ s.role ≠ .standby ∨ s.num PAI_CLEAN_RUN < s.num PAI_HOLDOFF ∨ s.pai.token = none ∨ s.pai.hand.isSome = true) :=
  ⟨tPair .primary, (by simp [tPair])⟩

theorem wit_LeaseAndAuthority_16 : ∃ (s : State), (s.serving = false ∨ s.pai.hand = none ∨ s.pai.handDone = true) :=
  ⟨tPair .primary, (.inr (.inl rfl))⟩

theorem wit_LeaseAndAuthority_17 : ∃ (h : Nat) (s : State), s.serving = true ∧ s.pai.hand = some h ∧ s.pai.handDone = false ∧ s.role = .primary ∧ s.sn = h :=
  ⟨100, { tPair .primary with pai := { hand := some 100 } }, by decide, by decide, by decide, by decide, by decide⟩

theorem wit_LeaseAndAuthority_18 : ∃ (h : Nat) (s : State), s.serving = true ∧ s.pai.hand = some h ∧ s.pai.handDone = false ∧ s.role = .primary ∧ h < s.sn ∧ s.pai.acked.contains h = true ∧ (∀ x ∈ s.pai.held, h < x) :=
  ⟨99, { tPair .primary with pai := { hand := some 99, acked := [99] } }, by decide, by decide, by decide, by decide, by decide, by decide, by decide⟩

theorem wit_LeaseAndAuthority_19 : ∃ (h : Nat) (s : State), s.serving = true ∧ s.pai.hand = some h ∧ s.pai.handDone = false ∧ s.role = .standby ∧ s.sn = h + 1 ∧ s.pai.handFinal = true ∧ h ≤ s.pai.done ∧ s.paired = true :=
  ⟨99, { tPair .standby with pai := { hand := some 99, handFinal := true, done := 99 } }, by decide, by decide, by decide, by decide, by decide, by decide, by decide, by decide⟩

theorem wit_LeaseAndAuthority_20 : ∃ (s : State), s.stroked = true ∧ s.serving = true ∧ s.role = .notStanding ∧ s.straps.pairPref = true ∧ s.pai.seenAuth = false ∧ 400 ≤ s.pai.idleHeard ∧ s.mismBlock = false ∧ s.paired = true :=
  ⟨{ tPair .notStanding with straps := { pairPref := true }, pai := { idleHeard := 400 } }, by decide, by decide, by decide, by decide, by decide, by decide, by decide, by decide⟩

theorem wit_LeaseAndAuthority_21 : ∃ (s : State), (s.stroked = false ∨ s.serving = false ∨ s.role ≠ .notStanding ∨ s.straps.pairPref = false ∨ s.pai.seenAuth = true ∨ s.pai.idleHeard < 400 ∨ s.mismBlock = true) :=
  ⟨tPair .primary, (.inr (.inr (.inl (by decide))))⟩

theorem wit_LeaseAndAuthority_22 : ∃ (h : MateHdr) (_p : List Byte) (u : State) (s : State), s.takeFrame h false 0 = (u, true) :=
  ⟨tMateHdr, [], ((tLinked).takeFrame tMateHdr false 0).1, tLinked, (take_pair rfl rfl (by decide +kernel) (by decide +kernel))⟩

theorem wit_LeaseAndAuthority_23 : ∃ (h : MateHdr) (_b : Bool) (_o : Option Snapshot) (u : State) (s : State), s.takeFrame h true 0 = (u, true) ∧ (s.role ≠ .notStanding ∧ s.authority = false ∨ s.role = .notStanding ∧ (s.pai.primeSn = none ∨ s.pai.loaded = true)) :=
  ⟨tMateHdr, false, none, ((tPair .standby).takeFrame tMateHdr true 0).1, tPair .standby, (take_pair rfl rfl (by decide +kernel) (by decide +kernel)), by decide⟩

theorem wit_LeaseAndAuthority_24 : ∃ (h : MateHdr) (_b : Bool) (_o : Option Snapshot) (k : Nat) (u : State) (s : State), s.takeFrame h true 0 = (u, true) ∧ s.role = .notStanding ∧ s.pai.primeSn = some k ∧ s.pai.loaded = false ∧ h.frag = s.pai.snapNext :=
  ⟨tMateHdr, true, some tSnap, 90, ((tPriming).takeFrame tMateHdr true 0).1, tPriming, (take_pair rfl rfl (by decide +kernel) (by decide +kernel)), by decide, by decide, by decide, by decide⟩

theorem wit_LeaseAndAuthority_25 : ∃ (h : MateHdr) (_b : Bool) (_o : Option Snapshot) (k : Nat) (u : State) (s : State), s.takeFrame h true 0 = (u, true) ∧ s.role = .notStanding ∧ s.pai.primeSn = some k ∧ s.pai.loaded = false ∧ h.frag ≠ s.pai.snapNext :=
  ⟨{ tMateHdr with frag := 3 }, false, none, 90, ((tPriming).takeFrame { tMateHdr with frag := 3 } true 0).1, tPriming, (take_pair rfl rfl (by decide +kernel) (by decide +kernel)), by decide, by decide, by decide, by decide⟩

theorem wit_LeaseAndAuthority_26 : ∃ (k : Nat) (c : Nat) (s : State), s.serving = true ∧ s.role = .notStanding ∧ s.pai.primeSn = some k ∧ s.linksGood = true ∧ s.pai.primeFail = some c :=
  ⟨90, 2, { tPriming with pai := { primeSn := some 90, primeFail := some 2 } }, by decide, by decide, by decide, by decide, by decide⟩

theorem wit_LeaseAndAuthority_27 : ∃ (k : Nat) (s : State), s.serving = true ∧ s.role = .notStanding ∧ s.pai.primeSn = some k ∧ s.linksGood = false :=
  ⟨90, { tPair .notStanding with pai := { primeSn := some 90 } }, by decide, by decide, by decide, by decide⟩

theorem wit_LeaseAndAuthority_28 : ∃ (s : State), (s.serving = false ∨ s.role ≠ .notStanding ∨ s.pai.primeSn = none ∨ (s.linksGood = true ∧ s.pai.primeFail = none)) :=
  ⟨tPair .primary, (.inr (.inl (by decide)))⟩

theorem wit_PairCommands_1 : ∃ (d : Desc) (s : State), Runs s d :=
  ⟨{ tDesc 60 0xF001 [] with bufLen := 64 }, tLive [], runs_of (by decide)⟩

theorem wit_PairCommands_2 : ∃ (d : Desc) (s : State), Runs s d ∧ s.paired = false :=
  ⟨tDesc 60 0xF002 [], tLive [], runs_of (by decide), by decide⟩

theorem wit_PairCommands_3 : ∃ (d : Desc) (k : Nat) (s : State), Runs s d ∧ s.paired = true ∧ s.pai.hand = none ∧ s.role = .primary ∧ s.pai.mateStandby = some k :=
  ⟨tDesc 60 0xF002 [], 90, { tPair .primary with pai := { mateStandby := some 90 } }, runs_of (by decide), by decide, by decide, by decide, by decide⟩

theorem wit_PairCommands_4 : ∃ (d : Desc) (h : Nat) (s : State), Runs s d ∧ s.paired = true ∧ s.pai.hand = some h :=
  ⟨tDesc 60 0xF002 [], 90, { tPair .primary with pai := { hand := some 90 } }, runs_of (by decide), by decide, by decide⟩

theorem wit_PairCommands_5 : ∃ (d : Desc) (s : State), Runs s d ∧ s.paired = true ∧ s.pai.hand = none ∧ s.role = .standby :=
  ⟨tDesc 60 0xF002 [], tPair .standby, runs_of (by decide), by decide, by decide, by decide⟩

theorem wit_PairCommands_6 : ∃ (d : Desc) (s : State), Runs s d ∧ s.paired = true ∧ s.role = .primary :=
  ⟨tDesc 60 0xF003 [], tPair .primary, runs_of (by decide), by decide, by decide⟩

theorem wit_PairCommands_7 : ∃ (d : Desc) (s : State), Runs s d ∧ s.paired = true ∧ s.role = .standby :=
  ⟨tDesc 60 0xF003 [], tPair .standby, runs_of (by decide), by decide, by decide⟩

theorem wit_PairCommands_8 : ∃ (d : Desc) (s : State), Runs s d ∧ s.paired = true ∧ s.matePrimary = true ∧ s.linksGood = true ∧ s.stroked = true ∧ s.role = .notStanding :=
  ⟨tDesc 60 0xF004 [], tMatePrimary, runs_of (by decide), by decide, by decide, by decide, by decide, by decide⟩

theorem wit_PairCommands_9 : ∃ (d : Desc) (s : State), Runs s d ∧ s.paired = true ∧ s.pai.seenAuth = true :=
  ⟨tDesc 60 0xF005 [], { tPair .notStanding with pai := { seenAuth := true } }, runs_of (by decide), by decide, by decide⟩

theorem wit_PairCommands_10 : ∃ (d : Desc) (s : State), Runs s d ∧ s.paired = true ∧ s.pai.seenAuth = false ∧ s.mateHeard = true :=
  ⟨tDesc 60 0xF005 [], { tPair .notStanding with pai := { frameSn := some 99 } }, runs_of (by decide), by decide, by decide, by decide⟩

theorem wit_PairCommands_11 : ∃ (d : Desc) (s : State), Runs s d ∧ s.paired = true ∧ s.pai.seenAuth = false ∧ s.mateHeard = false ∧ s.mismBlock = false ∧ s.stroked = true :=
  ⟨tDesc 60 0xF005 [], tPair .notStanding, runs_of (by decide), by decide, by decide, by decide, by decide, by decide⟩

theorem wit_PairCommands_12 : ∃ (d : Desc) (s : State), Runs s d ∧ s.paired = true ∧ s.pai.hand = none ∧ (s.role = .primary ∧ s.pai.mateStandby = none ∨ s.role = .notStanding) :=
  ⟨tDesc 60 0xF002 [], tPair .notStanding, runs_of (by decide), by decide, by decide, by decide⟩

theorem wit_PairCommands_13 : ∃ (d : Desc) (s : State), Runs s d ∧ s.paired = true ∧ s.role = .notStanding :=
  ⟨tDesc 60 0xF003 [], tPair .notStanding, runs_of (by decide), by decide, by decide⟩

theorem wit_PairCommands_14 : ∃ (d : Desc) (s : State), Runs s d ∧ s.paired = true ∧ (s.matePrimary && s.linksGood && s.stroked) = false :=
  ⟨tDesc 60 0xF004 [], tPair .notStanding, runs_of (by decide), by decide, by decide⟩

theorem wit_PairCommands_15 : ∃ (d : Desc) (s : State), Runs s d ∧ s.paired = true ∧ s.matePrimary = true ∧ s.linksGood = true ∧ s.stroked = true ∧ s.role = .standby :=
  ⟨tDesc 60 0xF004 [], { tMatePrimary with role := .standby }, runs_of (by decide), by decide, by decide, by decide, by decide, by decide⟩

theorem wit_PairCommands_16 : ∃ (d : Desc) (s : State), Runs s d ∧ s.paired = true ∧ s.pai.seenAuth = false ∧ s.mateHeard = false ∧ s.mismBlock = true :=
  ⟨tDesc 60 0xF005 [], { tPair .notStanding with pai := { mism := [2] } }, runs_of (by decide), by decide, by decide, by decide, by decide⟩

theorem wit_PairCommands_17 : ∃ (d : Desc) (s : State), Runs s d ∧ s.paired = true ∧ s.pai.seenAuth = false ∧ s.mateHeard = false ∧ s.mismBlock = false ∧ s.stroked = false :=
  ⟨tDesc 60 0xF005 [], { tSetup [(PAI_CFG, 1)] [] with role := .notStanding }, runs_of (by decide), by decide, by decide, by decide, by decide, by decide⟩

theorem wit_WeighingInstruments_1 : ∃ (_m : WlIn) (s : State), (s.whUp = false ∨ s.wel.reqs = []) :=
  ⟨tLoad 0, tLive [], by decide⟩

theorem wit_WeighingInstruments_2 : ∃ (m : WlIn) (r : WhReq) (u : State) (s : State), s.whUp = true ∧ (s.wel.reqs.find? fun r => r.code == 16) = some r ∧ u = s.setWel { s.wel with reqs := s.wel.reqs.erase r } ∧ u.instRefuses r.instr 1 = none ∧ u.wel.backlog = false ∧ u.isStable r.instr m = true ∧ absI ((u.inst r.instr).z16 + u.weight16 r.instr m) ≤ 16 * u.param r.instr 0x13 :=
  ⟨tLoad 0, tReq 16 [], tWell 1 [] {}, tWell 1 [tReq 16 []] {}, by decide, by decide, (rfl), (by decide +kernel), by decide, (by decide +kernel), (by decide +kernel)⟩

theorem wit_WeighingInstruments_3 : ∃ (m : WlIn) (r : WhReq) (u : State) (s : State), s.whUp = true ∧ (s.wel.reqs.find? fun r => r.code == 16) = some r ∧ u = s.setWel { s.wel with reqs := s.wel.reqs.erase r } ∧ u.instRefuses r.instr 1 = none ∧ u.wel.backlog = false ∧ u.isStable r.instr m = false :=
  ⟨{ tLoad 0 with spread := 9 }, tReq 16 [], tWell 1 [] {}, tWell 1 [tReq 16 []] {}, by decide, by decide, (rfl), (by decide +kernel), by decide, (by decide +kernel)⟩

theorem wit_WeighingInstruments_4 : ∃ (_m : WlIn) (st : Nat) (r : WhReq) (u : State) (s : State), s.whUp = true ∧ (s.wel.reqs.find? fun r => r.code == 16) = some r ∧ u = s.setWel { s.wel with reqs := s.wel.reqs.erase r } ∧ u.instRefuses r.instr 1 = some st :=
  ⟨tLoad 0, 0x16, tReq 16 [], tWell 2 [] {}, tWell 2 [tReq 16 []] {}, by decide, by decide, (rfl), (by decide +kernel)⟩

theorem wit_WeighingInstruments_5 : ∃ (m : WlIn) (g : Int) (r : WhReq) (u : State) (s : State), s.whUp = true ∧ (s.wel.reqs.find? fun r => r.code == 17) = some r ∧ u = s.setWel { s.wel with reqs := s.wel.reqs.erase r } ∧ u.instRefuses r.instr 1 = none ∧ u.isStable r.instr m = true ∧ g = whole16 (u.weight16 r.instr m) ∧ 0 < g ∧ g ≤ u.param r.instr 0x15 :=
  ⟨tLoad 100, 100, tReq 17 [], tWell 1 [] {}, tWell 1 [tReq 17 []] {}, by decide, by decide, (rfl), (by decide +kernel), (by decide +kernel), (by decide +kernel), by decide, (by decide +kernel)⟩

theorem wit_WeighingInstruments_6 : ∃ (r : WhReq) (u : State) (s : State), s.whUp = true ∧ (s.wel.reqs.find? fun r => r.code == 18) = some r ∧ u = s.setWel { s.wel with reqs := s.wel.reqs.erase r } ∧ u.instRefuses r.instr 1 = none ∧ leAt r.args 0 4 ≤ u.param r.instr 0x15 :=
  ⟨tReq 18 [], tWell 1 [] {}, tWell 1 [tReq 18 []] {}, by decide, by decide, (rfl), (by decide +kernel), (by decide +kernel)⟩

theorem wit_WeighingInstruments_7 : ∃ (r : WhReq) (u : State) (s : State), s.whUp = true ∧ (s.wel.reqs.find? fun r => r.code == 19) = some r ∧ u = s.setWel { s.wel with reqs := s.wel.reqs.erase r } ∧ u.instRefuses r.instr 1 = none :=
  ⟨tReq 19 [], tWell 1 [] {}, tWell 1 [tReq 19 []] {}, by decide, by decide, (rfl), (by decide +kernel)⟩

theorem wit_WeighingInstruments_8 : ∃ (m : WlIn) (r : WhReq) (u : State) (s : State), s.whUp = true ∧ (s.wel.reqs.find? fun r => r.code == 20) = some r ∧ u = s.setWel { s.wel with reqs := s.wel.reqs.erase r } ∧ u.instRefuses r.instr 1 = none ∧ u.wel.backlog = false ∧ (u.inst r.instr).weigh = none ∧ u.outOfRange r.instr (u.weight16 r.instr m) = false :=
  ⟨tLoad 100, tReq 20 [], tWell 1 [] {}, tWell 1 [tReq 20 []] {}, by decide, by decide, (rfl), (by decide +kernel), by decide, by decide, (by decide +kernel)⟩

theorem wit_WeighingInstruments_9 : ∃ (m : WlIn) (r : WhReq) (u : State) (s : State), s.whUp = true ∧ (s.wel.reqs.find? fun r => r.code == 20) = some r ∧ u = s.setWel { s.wel with reqs := s.wel.reqs.erase r } ∧ u.instRefuses r.instr 1 = none ∧ u.wel.backlog = false ∧ (u.inst r.instr).weigh = none ∧ u.outOfRange r.instr (u.weight16 r.instr m) = true :=
  ⟨tLoad 5000, tReq 20 [], tWell 1 [] {}, tWell 1 [tReq 20 []] {}, by decide, by decide, (rfl), (by decide +kernel), by decide, by decide, (by decide +kernel)⟩

theorem wit_WeighingInstruments_10 : ∃ (i : Nat) (m : WlIn) (r : WhReq) (t : Nat) (s : State), s.whUp = true ∧ (s.inst i).weigh = some (r, t) ∧ s.isStable i m = true :=
  ⟨0, tLoad 100, tReq 0x14 [], 0, tWell 1 [] { weigh := some (tReq 0x14 [], 0) }, by decide, by decide, (by decide +kernel)⟩

theorem wit_WeighingInstruments_11 : ∃ (i : Nat) (r : WhReq) (t : Nat) (s : State), s.whUp = true ∧ (s.inst i).weigh = some (r, t) ∧ t + s.param i 0x17 ≤ s.wel.ms :=
  ⟨0, tReq 0x14 [], 0, tWell 1 [] { weigh := some (tReq 0x14 [], 0) }, by decide, by decide, by decide⟩

theorem wit_WeighingInstruments_12 : ∃ (i : Nat) (s : State), s.whUp = true ∧ (s.inst i).weigh = none ∧ (s.inst i).cyc = .settleG ∧ (s.inst i).since + s.param i 0x16 + s.param i 0x17 ≤ s.wel.ms :=
  ⟨0, tWell 2 [] { cyc := .settleG }, by decide, by decide, by decide, by decide⟩

theorem wit_WeighingInstruments_13 : ∃ (i : Nat) (m : WlIn) (s : State), s.whUp = true ∧ s.inUse i = true ∧ s.instErr i = false ∧ s.isStable i m = true ∧ (s.inst i).tare = none ∧ absI (s.weight16 i m) ≤ 8 * s.param i 0x04 :=
  ⟨0, tLoad 0, tWell 1 [] {}, by decide, (by decide +kernel), (by decide +kernel), (by decide +kernel), by decide, (by decide +kernel)⟩

theorem wit_WeighingInstruments_14 : ∃ (r : WhReq) (u : State) (s : State), s.whUp = true ∧ (s.wel.reqs.find? fun r => r.code == 32) = some r ∧ u = s.setWel { s.wel with reqs := s.wel.reqs.erase r } ∧ u.instRefuses r.instr 2 = none ∧ u.wel.backlog = false ∧ (u.inst r.instr).cyc = .empty :=
  ⟨tReq 32 [], tWell 2 [] {}, tWell 2 [tReq 32 []] {}, by decide, by decide, (rfl), (by decide +kernel), by decide, by decide⟩

theorem wit_WeighingInstruments_15 : ∃ (r : WhReq) (u : State) (s : State), s.whUp = true ∧ (s.wel.reqs.find? fun r => r.code == 32) = some r ∧ u = s.setWel { s.wel with reqs := s.wel.reqs.erase r } ∧ u.instRefuses r.instr 2 = none ∧ u.wel.backlog = false ∧ (u.inst r.instr).cyc ≠ .empty :=
  ⟨tReq 32 [], tWell 2 [] { cyc := .emptying }, tWell 2 [tReq 32 []] { cyc := .emptying }, by decide, by decide, (rfl), (by decide +kernel), by decide, by decide⟩

theorem wit_WeighingInstruments_16 : ∃ (r : WhReq) (u : State) (s : State), s.whUp = true ∧ (s.wel.reqs.find? fun r => r.code == 33) = some r ∧ u = s.setWel { s.wel with reqs := s.wel.reqs.erase r } ∧ u.instRefuses r.instr 2 = none ∧ (u.inst r.instr).cyc = .emptying :=
  ⟨tReq 33 [], tWell 2 [] { cyc := .emptying }, tWell 2 [tReq 33 []] { cyc := .emptying }, by decide, by decide, (rfl), (by decide +kernel), by decide⟩

theorem wit_WeighingInstruments_17 : ∃ (r : WhReq) (u : State) (s : State), s.whUp = true ∧ (s.wel.reqs.find? fun r => r.code == 34) = some r ∧ u = s.setWel { s.wel with reqs := s.wel.reqs.erase r } ∧ u.instRefuses r.instr 2 = none :=
  ⟨tReq 34 [], tWell 2 [] { cyc := .emptying }, tWell 2 [tReq 34 []] { cyc := .emptying }, by decide, by decide, (rfl), (by decide +kernel)⟩

theorem wit_WeighingInstruments_18 : ∃ (i : Nat) (m : WlIn) (s : State), s.settled i m .settleG = true ∧ s.outOfRange i (s.weight16 i m) = false ∧ s.instErr i = false :=
  ⟨0, tLoad 100, tWell 2 [] { cyc := .settleG }, (by decide +kernel), (by decide +kernel), (by decide +kernel)⟩

theorem wit_WeighingInstruments_19 : ∃ (i : Nat) (m : WlIn) (g : Int) (s : State), s.settled i m .settleE = true ∧ s.outOfRange i (s.weight16 i m) = false ∧ s.instErr i = false ∧ (s.inst i).gross = some g :=
  ⟨0, tLoad 0, 100, tWell 2 [] { cyc := .settleE, gross := some 100 }, (by decide +kernel), (by decide +kernel), (by decide +kernel), by decide⟩

theorem wit_WeighingInstruments_20 : ∃ (i : Nat) (m : WlIn) (s : State), s.settled i m .settleE = true ∧ s.outOfRange i (s.weight16 i m) = false ∧ s.instErr i = false ∧ (s.inst i).gross = none :=
  ⟨0, tLoad 0, tWell 2 [] { cyc := .settleE }, (by decide +kernel), (by decide +kernel), (by decide +kernel), by decide⟩

theorem wit_WeighingInstruments_21 : ∃ (_m : WlIn) (st : Nat) (r : WhReq) (u : State) (s : State), s.whUp = true ∧ (s.wel.reqs.find? fun r => r.code == 17) = some r ∧ u = s.setWel { s.wel with reqs := s.wel.reqs.erase r } ∧ u.instRefuses r.instr 1 = some st :=
  ⟨tLoad 0, 0x16, tReq 17 [], tWell 2 [] {}, tWell 2 [tReq 17 []] {}, by decide, by decide, (rfl), (by decide +kernel)⟩

theorem wit_WeighingInstruments_22 : ∃ (st : Nat) (r : WhReq) (u : State) (s : State), s.whUp = true ∧ (s.wel.reqs.find? fun r => r.code == 18) = some r ∧ u = s.setWel { s.wel with reqs := s.wel.reqs.erase r } ∧ u.instRefuses r.instr 1 = some st :=
  ⟨0x16, tReq 18 [], tWell 2 [] {}, tWell 2 [tReq 18 []] {}, by decide, by decide, (rfl), (by decide +kernel)⟩

theorem wit_WeighingInstruments_23 : ∃ (st : Nat) (r : WhReq) (u : State) (s : State), s.whUp = true ∧ (s.wel.reqs.find? fun r => r.code == 19) = some r ∧ u = s.setWel { s.wel with reqs := s.wel.reqs.erase r } ∧ u.instRefuses r.instr 1 = some st :=
  ⟨0x16, tReq 19 [], tWell 2 [] {}, tWell 2 [tReq 19 []] {}, by decide, by decide, (rfl), (by decide +kernel)⟩

theorem wit_WeighingInstruments_24 : ∃ (_m : WlIn) (st : Nat) (r : WhReq) (u : State) (s : State), s.whUp = true ∧ (s.wel.reqs.find? fun r => r.code == 20) = some r ∧ u = s.setWel { s.wel with reqs := s.wel.reqs.erase r } ∧ u.instRefuses r.instr 1 = some st :=
  ⟨tLoad 0, 0x16, tReq 20 [], tWell 2 [] {}, tWell 2 [tReq 20 []] {}, by decide, by decide, (rfl), (by decide +kernel)⟩

theorem wit_WeighingInstruments_25 : ∃ (st : Nat) (r : WhReq) (u : State) (s : State), s.whUp = true ∧ (s.wel.reqs.find? fun r => r.code == 32) = some r ∧ u = s.setWel { s.wel with reqs := s.wel.reqs.erase r } ∧ u.instRefuses r.instr 2 = some st :=
  ⟨0x16, tReq 32 [], tWell 1 [] {}, tWell 1 [tReq 32 []] {}, by decide, by decide, (rfl), (by decide +kernel)⟩

theorem wit_WeighingInstruments_26 : ∃ (st : Nat) (r : WhReq) (u : State) (s : State), s.whUp = true ∧ (s.wel.reqs.find? fun r => r.code == 33) = some r ∧ u = s.setWel { s.wel with reqs := s.wel.reqs.erase r } ∧ u.instRefuses r.instr 2 = some st :=
  ⟨0x16, tReq 33 [], tWell 1 [] {}, tWell 1 [tReq 33 []] {}, by decide, by decide, (rfl), (by decide +kernel)⟩

theorem wit_WeighingInstruments_27 : ∃ (st : Nat) (r : WhReq) (u : State) (s : State), s.whUp = true ∧ (s.wel.reqs.find? fun r => r.code == 34) = some r ∧ u = s.setWel { s.wel with reqs := s.wel.reqs.erase r } ∧ u.instRefuses r.instr 2 = some st :=
  ⟨0x16, tReq 34 [], tWell 1 [] {}, tWell 1 [tReq 34 []] {}, by decide, by decide, (rfl), (by decide +kernel)⟩

theorem wit_WeighingInstruments_28 : ∃ (st : Nat) (r : WhReq) (u : State) (s : State), s.whUp = true ∧ (s.wel.reqs.find? fun r => r.code == 35) = some r ∧ u = s.setWel { s.wel with reqs := s.wel.reqs.erase r } ∧ u.instRefuses r.instr 0 = some st :=
  ⟨0x14, tReq 35 [], tWell 1 [] { bad := true }, tWell 1 [tReq 35 []] { bad := true }, by decide, by decide, (rfl), (by decide +kernel)⟩

theorem wit_WeighingInstruments_29 : ∃ (m : WlIn) (r : WhReq) (u : State) (s : State), s.whUp = true ∧ (s.wel.reqs.find? fun r => r.code == 16) = some r ∧ u = s.setWel { s.wel with reqs := s.wel.reqs.erase r } ∧ u.instRefuses r.instr 1 = none ∧ (u.wel.backlog = true ∨ u.isStable r.instr m = false ∨ 16 * (u.param r.instr 0x13 : Int) < absI ((u.inst r.instr).z16 + u.weight16 r.instr m)) :=
  ⟨{ tLoad 0 with spread := 9 }, tReq 16 [], tWell 1 [] {}, tWell 1 [tReq 16 []] {}, by decide, by decide, (rfl), (by decide +kernel), (by decide +kernel)⟩

theorem wit_WeighingInstruments_30 : ∃ (m : WlIn) (g : Int) (r : WhReq) (u : State) (s : State), s.whUp = true ∧ (s.wel.reqs.find? fun r => r.code == 17) = some r ∧ u = s.setWel { s.wel with reqs := s.wel.reqs.erase r } ∧ u.instRefuses r.instr 1 = none ∧ g = whole16 (u.weight16 r.instr m) ∧ (u.isStable r.instr m = false ∨ g ≤ 0 ∨ (u.param r.instr 0x15 : Int) < g) :=
  ⟨tLoad 0, 0, tReq 17 [], tWell 1 [] {}, tWell 1 [tReq 17 []] {}, by decide, by decide, (rfl), (by decide +kernel), (by decide +kernel), (by decide +kernel)⟩

theorem wit_WeighingInstruments_31 : ∃ (r : WhReq) (u : State) (s : State), s.whUp = true ∧ (s.wel.reqs.find? fun r => r.code == 0x12) = some r ∧ u = s.setWel { s.wel with reqs := s.wel.reqs.erase r } ∧ u.instRefuses r.instr 1 = none ∧ u.param r.instr 0x15 < leAt r.args 0 4 :=
  ⟨{ tReq 0x12 [] with args := [255, 255, 255, 255, 0, 0, 0, 0] }, tWell 1 [] {}, tWell 1 [{ tReq 0x12 [] with args := [255, 255, 255, 255, 0, 0, 0, 0] }] {}, by decide, by decide, (rfl), (by decide +kernel), (by decide +kernel)⟩

theorem wit_WeighingInstruments_32 : ∃ (_m : WlIn) (r : WhReq) (u : State) (s : State), s.whUp = true ∧ (s.wel.reqs.find? fun r => r.code == 20) = some r ∧ u = s.setWel { s.wel with reqs := s.wel.reqs.erase r } ∧ u.instRefuses r.instr 1 = none ∧ (u.wel.backlog = true ∨ (u.inst r.instr).weigh.isSome = true) :=
  ⟨tLoad 100, tReq 20 [], tWell 1 [] { weigh := some (tReq 0x14 [], 0) }, tWell 1 [tReq 20 []] { weigh := some (tReq 0x14 [], 0) }, by decide, by decide, (rfl), (by decide +kernel), by decide⟩

theorem wit_WeighingInstruments_33 : ∃ (i : Nat) (m : WlIn) (s : State), (s.whUp = false ∨ (s.inst i).weigh = none ∨ s.isStable i m = false) :=
  ⟨0, tLoad 100, tWell 1 [] {}, (.inr (.inl rfl))⟩

theorem wit_WeighingInstruments_34 : ∃ (i : Nat) (s : State), (s.whUp = false ∨ s.wel.ms < s.param i 0x17 ∨ (s.inst i).weigh = none ∧ ((s.inst i).cyc = .empty ∨ (s.inst i).cyc = .emptying ∨ (s.inst i).cyc = .halted)) :=
  ⟨0, tWell 1 [] {}, (.inr (.inr (by decide)))⟩

theorem wit_WeighingInstruments_35 : ∃ (i : Nat) (s : State), s.whUp = true ∧ (s.inst i).weigh = none ∧ (s.inst i).cyc = .settleE ∧ (s.inst i).since + s.param i 0x16 + s.param i 0x17 ≤ s.wel.ms :=
  ⟨0, tWell 2 [] { cyc := .settleE }, by decide, by decide, by decide, by decide⟩

theorem wit_WeighingInstruments_36 : ∃ (i : Nat) (m : WlIn) (s : State), (s.whUp = false ∨ s.inUse i = false ∨ s.instErr i = true ∨ s.isStable i m = false ∨ (s.inst i).tare.isSome = true ∨ 8 * (s.param i 0x04 : Int) < absI (s.weight16 i m)) :=
  ⟨0, tLoad 0, tLive [], (.inl rfl)⟩

theorem wit_WeighingInstruments_37 : ∃ (r : WhReq) (u : State) (s : State), s.whUp = true ∧ (s.wel.reqs.find? fun r => r.code == 32) = some r ∧ u = s.setWel { s.wel with reqs := s.wel.reqs.erase r } ∧ u.instRefuses r.instr 2 = none ∧ u.wel.backlog = true :=
  ⟨tReq 32 [], tWellFull 2 [] { cyc := .empty }, tWellFull 2 [tReq 32 []] { cyc := .empty }, by decide, by decide, (rfl), (by decide +kernel), by decide⟩

theorem wit_WeighingInstruments_38 : ∃ (r : WhReq) (u : State) (s : State), s.whUp = true ∧ (s.wel.reqs.find? fun r => r.code == 33) = some r ∧ u = s.setWel { s.wel with reqs := s.wel.reqs.erase r } ∧ u.instRefuses r.instr 2 = none ∧ (u.inst r.instr).cyc = .halted :=
  ⟨tReq 33 [], tWell 2 [] { cyc := .halted }, tWell 2 [tReq 33 []] { cyc := .halted }, by decide, by decide, (rfl), (by decide +kernel), by decide⟩

theorem wit_WeighingInstruments_39 : ∃ (r : WhReq) (u : State) (s : State), s.whUp = true ∧ (s.wel.reqs.find? fun r => r.code == 33) = some r ∧ u = s.setWel { s.wel with reqs := s.wel.reqs.erase r } ∧ u.instRefuses r.instr 2 = none ∧ (u.inst r.instr).cyc ≠ .emptying ∧ (u.inst r.instr).cyc ≠ .halted :=
  ⟨tReq 33 [], tWell 2 [] {}, tWell 2 [tReq 33 []] {}, by decide, by decide, (rfl), (by decide +kernel), by decide, by decide⟩

theorem wit_WeighingInstruments_40 : ∃ (i : Nat) (m : WlIn) (s : State), s.settled i m .settleG = true ∧ (s.outOfRange i (s.weight16 i m) = true ∨ s.instErr i = true) :=
  ⟨0, tLoad 5000, tWell 2 [] { cyc := .settleG }, (by decide +kernel), (by decide +kernel)⟩

theorem wit_WeighingInstruments_41 : ∃ (i : Nat) (m : WlIn) (s : State), s.settled i m .settleE = true ∧ (s.outOfRange i (s.weight16 i m) = true ∨ s.instErr i = true) :=
  ⟨0, tLoad 5000, tWell 2 [] { cyc := .settleE }, (by decide +kernel), (by decide +kernel)⟩

theorem wit_WeighingInstruments_42 : ∃ (i : Nat) (m : WlIn) (s : State), s.settled i m .settleG = false :=
  ⟨0, tLoad 100, tWell 2 [] {}, (by decide +kernel)⟩

theorem wit_WeighingInstruments_43 : ∃ (i : Nat) (m : WlIn) (s : State), s.settled i m .settleE = false :=
  ⟨0, tLoad 100, tWell 2 [] {}, (by decide +kernel)⟩

theorem wit_WellhouseDieAndRequests_1 : ∃ (_a : Bool) (_b : Bool) (s : State), s.part = .cx7740 :=
  ⟨true, true, tLive [], by decide⟩

theorem wit_WellhouseDieAndRequests_3 : ∃ (c : Nat) (s : State), s.whUp = true ∧ c < 8 ∧ s.wel.badCh.contains c = false :=
  ⟨0, tWell 1 [] {}, by decide, by decide, by decide⟩

theorem wit_WellhouseDieAndRequests_4 : ∃ (c : Nat) (s : State), s.whUp = true ∧ s.wel.badCh.contains c = true :=
  ⟨3, { tWell 1 [] {} with wel := { (tWell 1 [] {}).wel with badCh := [3] } }, by decide, by decide⟩

theorem wit_WellhouseDieAndRequests_5 : ∃ (n : Nat) (s : State), s.whUp = true ∧ n < 4 ∧ s.param 0xF n ≠ 0 :=
  ⟨0, tWell 1 [] {}, by decide, by decide, by decide⟩

theorem wit_WellhouseDieAndRequests_6 : ∃ (k : Nat) (s : State), s.whUp = true ∧ k ≤ 2 ∧ k ≠ s.wel.sealed ∧ ¬ (s.wel.sealed = 1 ∧ k = 0) :=
  ⟨1, tWell 1 [] {}, by decide, by decide, by decide, by decide⟩

theorem wit_WellhouseDieAndRequests_7 : ∃ (s : State), s.whUp = true ∧ s.wel.sealed = 1 :=
  ⟨{ tWell 1 [] {} with wel := { (tWell 1 [] {}).wel with sealed := 1 } }, by decide, by decide⟩

theorem wit_WellhouseDieAndRequests_8 : ∃ (_ms : List WlIn) (s : State), s.whUp = true ∧ s.wel.ms < 1000 :=
  ⟨[], { tWell 1 [] {} with wel := { (tWell 1 [] {}).wel with ms := 9 } }, by decide, by decide⟩

theorem wit_WellhouseDieAndRequests_9 : ∃ (_ms : List WlIn) (s : State), s.whUp = true ∧ 3000 ≤ s.wel.ms ∧ s.wel.showUntil ≤ s.wel.ms :=
  ⟨[], tWell 1 [] {}, by decide, by decide, by decide⟩

theorem wit_WellhouseDieAndRequests_10 : ∃ (r : WhReq) (u : State) (s : State), s.whUp = true ∧ (s.wel.reqs.find? fun r => r.code == 35) = some r ∧ u = s.setWel { s.wel with reqs := s.wel.reqs.erase r } ∧ u.instRefuses r.instr 0 = none :=
  ⟨tReq 35 [], tWell 2 [] {}, tWell 2 [tReq 35 []] {}, by decide, by decide, (rfl), (by decide +kernel)⟩

theorem wit_WellhouseDieAndRequests_11 : ∃ (r : WhReq) (u : State) (s : State), s.whUp = true ∧ (s.wel.reqs.find? fun r => r.code == 36) = some r ∧ u = s.setWel { s.wel with reqs := s.wel.reqs.erase r } ∧ u.wel.die ≠ 2 ∧ r.instr < 4 :=
  ⟨tReq 36 [], tWell 1 [] {}, tWell 1 [tReq 36 []] {}, by decide, by decide, (rfl), by decide, by decide⟩

theorem wit_WellhouseDieAndRequests_12 : ∃ (r : WhReq) (u : State) (s : State), s.whUp = true ∧ (s.wel.reqs.find? fun r => r.code == 48) = some r ∧ u = s.setWel { s.wel with reqs := s.wel.reqs.erase r } ∧ (u.wel.store.find? fun x => x.1 == leAt r.args 0 4) = none :=
  ⟨tReq 48 [], tWell 1 [] {}, tWell 1 [tReq 48 []] {}, by decide, by decide, (rfl), by decide⟩

theorem wit_WellhouseDieAndRequests_13 : ∃ (r : WhReq) (q : List WhReq) (b : List Byte) (s : State), s.whUp = true ∧ s.wel.reqs = r :: q ∧ r.code = 0x30 ∧ (s.wel.store.find? fun x => x.1 == leAt r.args 0 4) = some (leAt r.args 0 4, b) :=
  ⟨tReq 0x30 [], [], [1, 2], { tWell 1 [tReq 0x30 []] {} with wel := { (tWell 1 [tReq 0x30 []] {}).wel with store := [(0, [1, 2])] } }, by decide, by decide, by decide, by decide⟩

theorem wit_WellhouseDieAndRequests_14 : ∃ (r : WhReq) (u : State) (s : State), s.whUp = true ∧ (s.wel.reqs.find? fun r => r.code == 49) = some r ∧ u = s.setWel { s.wel with reqs := s.wel.reqs.erase r } :=
  ⟨tReq 49 [], tWell 1 [] {}, tWell 1 [tReq 49 []] {}, by decide, by decide, (rfl)⟩

theorem wit_WellhouseDieAndRequests_15 : ∃ (r : WhReq) (u : State) (s : State), s.whUp = true ∧ (s.wel.reqs.find? fun r => r.code == 50) = some r ∧ u = s.setWel { s.wel with reqs := s.wel.reqs.erase r } :=
  ⟨tReq 50 [], tWell 1 [] {}, tWell 1 [tReq 50 []] {}, by decide, by decide, (rfl)⟩

theorem wit_WellhouseDieAndRequests_16 : ∃ (_m : WlIn) (r : WhReq) (u : State) (s : State), s.whUp = true ∧ (s.wel.reqs.find? fun r => r.code == 51) = some r ∧ u = s.setWel { s.wel with reqs := s.wel.reqs.erase r } :=
  ⟨tLoad 100, tReq 51 [], tWell 1 [] {}, tWell 1 [tReq 51 []] {}, by decide, by decide, (rfl)⟩

theorem wit_WellhouseDieAndRequests_17 : ∃ (r : WhReq) (u : State) (s : State), s.whUp = true ∧ (s.wel.reqs.find? fun r => r.code == 52) = some r ∧ u = s.setWel { s.wel with reqs := s.wel.reqs.erase r } ∧ 8 ≤ r.body.length ∧ r.body.length ≤ 32 :=
  ⟨tReq 52 (List.replicate 8 1), tWell 1 [] {}, tWell 1 [tReq 52 (List.replicate 8 1)] {}, by decide, by decide, (rfl), by decide, by decide⟩

theorem wit_WellhouseDieAndRequests_18 : ∃ (r : WhReq) (u : State) (s : State), s.whUp = true ∧ (s.wel.reqs.find? fun r => r.code == 53) = some r ∧ u = s.setWel { s.wel with reqs := s.wel.reqs.erase r } :=
  ⟨tReq 53 [], tWell 1 [] {}, tWell 1 [tReq 53 []] {}, by decide, by decide, (rfl)⟩

theorem wit_WellhouseDieAndRequests_19 : ∃ (r : WhReq) (u : State) (s : State), s.whUp = true ∧ (s.wel.reqs.find? fun r => r.code == 64) = some r ∧ u = s.setWel { s.wel with reqs := s.wel.reqs.erase r } ∧ u.wel.die ≠ 2 ∧ u.wel.sealed ≠ 1 :=
  ⟨tReq 64 [], tWell 1 [] {}, tWell 1 [tReq 64 []] {}, by decide, by decide, (rfl), by decide, by decide⟩

theorem wit_WellhouseDieAndRequests_20 : ∃ (n : Nat) (es : List (Nat × Nat)) (v : State) (r : WhReq) (u : State) (s : State), s.whUp = true ∧ (s.wel.reqs.find? fun r => r.code == 64) = some r ∧ u = s.setWel { s.wel with reqs := s.wel.reqs.erase r } ∧ u.wel.die ≠ 2 ∧ u.wel.sealed = 1 ∧ n = leAt r.body 4 1 ∧ r.body.length = 72 + 8 * n ∧ es = (List.range n).map (fun k => (leAt r.body (8 + 8 * k) 2, leAt r.body (12 + 8 * k) 4)) ∧ v = u.setWel { u.wel with params := es.foldl (fun t e => tput t e.1 e.2) u.wel.params } ∧ leAt r.body 0 4 = u.wel.eventCtr ∧ 1 ≤ n ∧ n ≤ 16 ∧ es.all (fun e => paramOk e.1 e.2) = true ∧ v.channelsApart = true ∧ es.any (fun e => decide (e.1 < 0x400) && !u.atRest (e.1 / 0x100)) = false ∧ u.wel.audit.length + n ≤ 16384 :=
  ⟨1, [(2, 1)], (tWellOpen [] {}).setWel { (tWellOpen [] {}).wel with params := tput (tWellOpen [] {}).wel.params 2 1 }, tReq 64 (leBytes 4 0 ++ leBytes 4 1 ++ leBytes 4 2 ++ leBytes 4 1 ++ List.replicate 64 0), tWellOpen [] {}, tWellOpen [tReq 64 (leBytes 4 0 ++ leBytes 4 1 ++ leBytes 4 2 ++ leBytes 4 1 ++ List.replicate 64 0)] {}, by decide, by decide, (rfl), by decide, (rfl), (by decide +kernel), (by decide +kernel), (by decide +kernel), (rfl), (by decide +kernel), by decide, by decide, (by decide +kernel), (by decide +kernel), (by decide +kernel), by decide⟩

theorem wit_WellhouseDieAndRequests_21 : ∃ (r : WhReq) (u : State) (s : State), s.whUp = true ∧ (s.wel.reqs.find? fun r => r.code == 65) = some r ∧ u = s.setWel { s.wel with reqs := s.wel.reqs.erase r } ∧ u.wel.die ≠ 2 ∧ u.wel.sealed = 1 ∧ 64 ≤ r.body.length ∧ u.wel.keys = [] ∧ u.wel.audit.length < 16384 :=
  ⟨tReq 65 (List.replicate 64 0), tWellOpen [] {}, tWellOpen [tReq 65 (List.replicate 64 0)] {}, by decide, by decide, (rfl), by decide, by decide, by decide, by decide, by decide⟩

theorem wit_WellhouseDieAndRequests_22 : ∃ (r : WhReq) (u : State) (s : State), s.whUp = true ∧ (s.wel.reqs.find? fun r => r.code == 66) = some r ∧ u = s.setWel { s.wel with reqs := s.wel.reqs.erase r } ∧ u.wel.die ≠ 2 ∧ u.wel.sealed = 1 :=
  ⟨tReq 66 (List.replicate 32 0), tWellOpen [] {}, tWellOpen [tReq 66 (List.replicate 32 0)] {}, by decide, by decide, (rfl), by decide, by decide⟩

theorem wit_WellhouseDieAndRequests_23 : ∃ (_a : Bool) (_b : Bool) (s : State), s.part ≠ .cx7740 :=
  ⟨true, true, { State.reset with part := .cx7720 }, by decide⟩

theorem wit_WellhouseDieAndRequests_24 : ∃ (c : Nat) (s : State), (s.whUp = false ∨ s.wel.badCh.contains c = true ∨ 8 ≤ c) :=
  ⟨8, tWell 1 [] {}, by decide⟩

theorem wit_WellhouseDieAndRequests_25 : ∃ (c : Nat) (s : State), (s.whUp = false ∨ s.wel.badCh.contains c = false) :=
  ⟨3, tWell 1 [] {}, by decide⟩

theorem wit_WellhouseDieAndRequests_26 : ∃ (n : Nat) (s : State), (s.whUp = false ∨ 4 ≤ n ∨ s.param 0xF n = 0) :=
  ⟨4, tWell 1 [] {}, by decide⟩

theorem wit_WellhouseDieAndRequests_27 : ∃ (k : Nat) (s : State), (s.whUp = false ∨ 2 < k ∨ k = s.wel.sealed) :=
  ⟨3, tWell 1 [] {}, by decide⟩

theorem wit_WellhouseDieAndRequests_28 : ∃ (_ms : List WlIn) (s : State), s.whUp = false :=
  ⟨[], tLive [], by decide⟩

theorem wit_WellhouseDieAndRequests_29 : ∃ (_ms : List WlIn) (s : State), s.whUp = true ∧ 1000 ≤ s.wel.ms ∧ (s.wel.ms < 3000 ∨ s.wel.ms < s.wel.showUntil) :=
  ⟨[], { tWell 1 [] {} with wel := { (tWell 1 [] {}).wel with ms := 1000 } }, by decide, by decide, by decide⟩

theorem wit_WellhouseDieAndRequests_30 : ∃ (r : WhReq) (u : State) (s : State), s.whUp = true ∧ (s.wel.reqs.find? fun r => r.code == 36) = some r ∧ u = s.setWel { s.wel with reqs := s.wel.reqs.erase r } ∧ (u.wel.die = 2 ∨ 4 ≤ r.instr) :=
  ⟨tReq 36 [], tWellDead 1 [] {}, tWellDead 1 [tReq 36 []] {}, by decide, by decide, (rfl), by decide⟩

theorem wit_WellhouseDieAndRequests_31 : ∃ (x : Nat × List Byte) (r : WhReq) (u : State) (s : State), s.whUp = true ∧ (s.wel.reqs.find? fun r => r.code == 48) = some r ∧ u = s.setWel { s.wel with reqs := s.wel.reqs.erase r } ∧ (u.wel.store.find? fun x => x.1 == leAt r.args 0 4) = some x :=
  ⟨(0, [1, 2]), tReq 48 [], tWellStored 1 [] {}, tWellStored 1 [tReq 48 []] {}, by decide, by decide, (rfl), by decide⟩

theorem wit_WellhouseDieAndRequests_32 : ∃ (r : WhReq) (u : State) (s : State), s.whUp = true ∧ (s.wel.reqs.find? fun r => r.code == 52) = some r ∧ u = s.setWel { s.wel with reqs := s.wel.reqs.erase r } ∧ (r.body.length < 8 ∨ 32 < r.body.length) :=
  ⟨tReq 52 [], tWell 1 [] {}, tWell 1 [tReq 52 []] {}, by decide, by decide, (rfl), by decide⟩

theorem wit_WellhouseDieAndRequests_33 : ∃ (r : WhReq) (u : State) (s : State), s.whUp = true ∧ (s.wel.reqs.find? fun r => r.code == 64) = some r ∧ u = s.setWel { s.wel with reqs := s.wel.reqs.erase r } ∧ u.wel.die = 2 :=
  ⟨tReq 64 [], tWellDead 1 [] {}, tWellDead 1 [tReq 64 []] {}, by decide, by decide, (rfl), by decide⟩

theorem wit_WellhouseDieAndRequests_34 : ∃ (r : WhReq) (u : State) (s : State), s.whUp = true ∧ (s.wel.reqs.find? fun r => r.code == 65) = some r ∧ u = s.setWel { s.wel with reqs := s.wel.reqs.erase r } ∧ u.wel.die = 2 :=
  ⟨tReq 65 [], tWellDead 1 [] {}, tWellDead 1 [tReq 65 []] {}, by decide, by decide, (rfl), by decide⟩

theorem wit_WellhouseDieAndRequests_35 : ∃ (r : WhReq) (u : State) (s : State), s.whUp = true ∧ (s.wel.reqs.find? fun r => r.code == 66) = some r ∧ u = s.setWel { s.wel with reqs := s.wel.reqs.erase r } ∧ u.wel.die = 2 :=
  ⟨tReq 66 [], tWellDead 1 [] {}, tWellDead 1 [tReq 66 []] {}, by decide, by decide, (rfl), by decide⟩

theorem wit_WellhouseDieAndRequests_36 : ∃ (r : WhReq) (u : State) (s : State), s.whUp = true ∧ (s.wel.reqs.find? fun r => r.code == 65) = some r ∧ u = s.setWel { s.wel with reqs := s.wel.reqs.erase r } ∧ u.wel.die ≠ 2 ∧ u.wel.sealed ≠ 1 :=
  ⟨tReq 65 [], tWell 1 [] {}, tWell 1 [tReq 65 []] {}, by decide, by decide, (rfl), by decide, by decide⟩

theorem wit_WellhouseDieAndRequests_37 : ∃ (r : WhReq) (u : State) (s : State), s.whUp = true ∧ (s.wel.reqs.find? fun r => r.code == 66) = some r ∧ u = s.setWel { s.wel with reqs := s.wel.reqs.erase r } ∧ u.wel.die ≠ 2 ∧ u.wel.sealed ≠ 1 :=
  ⟨tReq 66 [], tWell 1 [] {}, tWell 1 [tReq 66 []] {}, by decide, by decide, (rfl), by decide, by decide⟩

theorem wit_WellhouseDieAndRequests_38 : ∃ (r : WhReq) (u : State) (s : State), s.whUp = true ∧ (s.wel.reqs.find? fun r => r.code == 64) = some r ∧ u = s.setWel { s.wel with reqs := s.wel.reqs.erase r } ∧ u.wel.die ≠ 2 ∧ u.wel.sealed = 1 ∧ r.body.length ≠ 72 + 8 * leAt r.body 4 1 :=
  ⟨tReq 64 [], tWellOpen [] {}, tWellOpen [tReq 64 []] {}, by decide, by decide, (rfl), by decide, by decide, by decide⟩

theorem wit_WellhouseDieAndRequests_39 : ∃ (n : Nat) (es : List (Nat × Nat)) (v : State) (st : Nat) (r : WhReq) (u : State) (s : State), s.whUp = true ∧ (s.wel.reqs.find? fun r => r.code == 64) = some r ∧ u = s.setWel { s.wel with reqs := s.wel.reqs.erase r } ∧ u.wel.die ≠ 2 ∧ u.wel.sealed = 1 ∧ n = leAt r.body 4 1 ∧ r.body.length = 72 + 8 * n ∧ es = (List.range n).map (fun k => (leAt r.body (8 + 8 * k) 2, leAt r.body (12 + 8 * k) 4)) ∧ v = u.setWel { u.wel with params := es.foldl (fun t e => tput t e.1 e.2) u.wel.params } ∧ (st = (if leAt r.body 0 4 ≠ u.wel.eventCtr then 0x13 else if n < 1 ∨ 16 < n ∨ es.all (fun e => paramOk e.1 e.2) = false ∨ v.channelsApart = false then 0x11 else if es.any (fun e => decide (e.1 < 0x400) && !u.atRest (e.1 / 0x100)) = true then 0x16 else if 16384 < u.wel.audit.length + n then 0x15 else 0)) ∧ st ≠ 0 :=
  ⟨0, [], (tWellOpen [] {}).setWel { (tWellOpen [] {}).wel with params := (tWellOpen [] {}).wel.params }, 0x11, tReq 64 (leBytes 4 0 ++ leBytes 4 0 ++ List.replicate 64 0), tWellOpen [] {}, tWellOpen [tReq 64 (leBytes 4 0 ++ leBytes 4 0 ++ List.replicate 64 0)] {}, by decide, by decide, (rfl), by decide, (rfl), (by decide +kernel), (by decide +kernel), (by decide +kernel), (rfl), (by decide +kernel), (by decide +kernel)⟩

theorem wit_WellhouseDieAndRequests_40 : ∃ (r : WhReq) (u : State) (s : State), s.whUp = true ∧ (s.wel.reqs.find? fun r => r.code == 65) = some r ∧ u = s.setWel { s.wel with reqs := s.wel.reqs.erase r } ∧ u.wel.die ≠ 2 ∧ u.wel.sealed = 1 :=
  ⟨tReq 65 [], tWellOpen [] {}, tWellOpen [tReq 65 []] {}, by decide, by decide, (rfl), by decide, by decide⟩

theorem wit_GatewayAndRecordLink_1 : ∃ (_ok : Bool) (s : State), (s.whUp = false ∨ s.wel.credit = 0 ∨ (s.wel.store.find? fun x => x.1 == s.wel.sendSeq) = none) :=
  ⟨true, tLive [], (.inl rfl)⟩

theorem wit_GatewayAndRecordLink_2 : ∃ (_ok : Bool) (q : Nat) (b : List Byte) (u : State) (s : State), s.whUp = true ∧ s.wel.credit ≠ 0 ∧ (s.wel.store.find? fun x => x.1 == s.wel.sendSeq) = some (q, b) ∧ u = s.setWel { s.wel with credit := s.wel.credit - 1, sendSeq := s.wel.sendSeq + 1 } ∧ u.wlgUp = false :=
  ⟨true, 0, [1, 0], { tLink.setWel { tLink.wel with credit := 0, sendSeq := 1 } with dev := .dormant }, { tLink with dev := .dormant }, by decide, by decide, by decide, (rfl), by decide⟩

theorem wit_GatewayAndRecordLink_3 : ∃ (q : Nat) (b : List Byte) (u : State) (v : State) (cell : Nat) (s : State), s.whUp = true ∧ s.wel.credit ≠ 0 ∧ (s.wel.store.find? fun x => x.1 == s.wel.sendSeq) = some (q, b) ∧ u = s.setWel { s.wel with credit := s.wel.credit - 1, sendSeq := s.wel.sendSeq + 1 } ∧ u.wlgUp = true ∧ u.wlg.expect.getD q = q ∧ u.storeFrame 42 0 b true none = some (v, cell) :=
  ⟨0, [1, 0], tLink.setWel { tLink.wel with credit := 0, sendSeq := 1 }, tLinkStored.1, tLinkStored.2, tLink, by decide, by decide, by decide, (rfl), by decide, (rfl), (tLink_stored)⟩

theorem wit_GatewayAndRecordLink_4 : ∃ (q : Nat) (b : List Byte) (u : State) (s : State), s.whUp = true ∧ s.wel.credit ≠ 0 ∧ (s.wel.store.find? fun x => x.1 == s.wel.sendSeq) = some (q, b) ∧ u = s.setWel { s.wel with credit := s.wel.credit - 1, sendSeq := s.wel.sendSeq + 1 } ∧ u.wlgUp = true ∧ u.wlg.expect.getD q = q ∧ (u.storeFrame 42 0 b true none).isSome = false :=
  ⟨0, [1, 0], tLinkFull.setWel { tLinkFull.wel with credit := 0, sendSeq := 1 }, tLinkFull, by decide, by decide, by decide, (rfl), by decide, (rfl), (by decide +kernel)⟩

theorem wit_GatewayAndRecordLink_5 : ∃ (q : Nat) (b : List Byte) (u : State) (e : Nat) (s : State), s.whUp = true ∧ s.wel.credit ≠ 0 ∧ (s.wel.store.find? fun x => x.1 == s.wel.sendSeq) = some (q, b) ∧ u = s.setWel { s.wel with credit := s.wel.credit - 1, sendSeq := s.wel.sendSeq + 1 } ∧ u.wlgUp = true ∧ u.wlg.expect = some e ∧ q < e :=
  ⟨0, [1, 0], { tLink with wlg := { expect := some 5 } }.setWel { tLink.wel with credit := 0, sendSeq := 1 }, 5, { tLink with wlg := { expect := some 5 } }, by decide, by decide, by decide, (rfl), by decide, by decide, by decide⟩

theorem wit_GatewayAndRecordLink_6 : ∃ (q : Nat) (b : List Byte) (u : State) (e : Nat) (s : State), s.whUp = true ∧ s.wel.credit ≠ 0 ∧ (s.wel.store.find? fun x => x.1 == s.wel.sendSeq) = some (q, b) ∧ u = s.setWel { s.wel with credit := s.wel.credit - 1, sendSeq := s.wel.sendSeq + 1 } ∧ u.wlgUp = true ∧ u.wlg.expect = some e ∧ e < q :=
  ⟨1, [1, 0], (tLinkAt 1 0).setWel { (tLinkAt 1 0).wel with credit := 0, sendSeq := 2 }, 0, tLinkAt 1 0, by decide, by decide, by decide, (rfl), by decide, by decide, by decide⟩

theorem wit_GatewayAndRecordLink_7 : ∃ (q : Nat) (b : List Byte) (u : State) (s : State), s.whUp = true ∧ s.wel.credit ≠ 0 ∧ (s.wel.store.find? fun x => x.1 == s.wel.sendSeq) = some (q, b) ∧ u = s.setWel { s.wel with credit := s.wel.credit - 1, sendSeq := s.wel.sendSeq + 1 } ∧ u.wlgUp = true :=
  ⟨0, [1, 0], tLink.setWel { tLink.wel with credit := 0, sendSeq := 1 }, tLink, by decide, by decide, by decide, (rfl), by decide⟩

theorem wit_GatewayAndRecordLink_8 : ∃ (_m : List WlIn) (_rs : List Word) (_ok : Bool) (s : State), s.whUp = false :=
  ⟨[], [], true, tLive [], by decide⟩

theorem wit_GatewayAndRecordLink_9 : ∃ (m : List WlIn) (_rs : List Word) (_ok : Bool) (u : State) (s : State), s.whUp = true ∧ u = (s.setWel { s.wel with ms := s.wel.ms + 1 }).haltRange m :=
  ⟨[], [], true, ((tWell 1 [] {}).setWel { (tWell 1 [] {}).wel with ms := (tWell 1 [] {}).wel.ms + 1 }).haltRange [], tWell 1 [] {}, by decide, (rfl)⟩

theorem wit_GatewayAndRecordLink_10 : ∃ (_m : List WlIn) (_rs : List Word) (_ok : Bool) (s : State), s.whUp = true :=
  ⟨[], [], true, tWell 1 [] {}, by decide⟩

theorem wit_GatewayAndRecordLink_11 : ∃ (m : List WlIn) (_rs : List Word) (s : State), s.whUp = true ∧ (s.wlgUp && s.flag WLG_CFG_PROC_EN) = true ∧ (((s.setWel { s.wel with ms := s.wel.ms + 1 }).haltRange m).storeFrame 42 0 (List.replicate 52 0) true none).isSome = true :=
  ⟨[], [], { tWell 1 [] {} with regs := [(CIS_MIN 42, 4), (WLG_CFG, 0xFFFFFFFF)] }, by decide, by decide, (by decide +kernel)⟩

theorem wit_GatewayAndRecordLink_12 : ∃ (k : Nat) (_ns : Nat) (j : Job) (f : Nat × Nat × List ProcValue) (s : State), s.serving = true ∧ s.job? k = some j ∧ j.desc = none ∧ s.procFrame j = some f ∧ s.mayCommit j = true :=
  ⟨5, 0, tProcJob, (9, 0, [⟨1, 2, 0, 0, 99⟩]), tProc, by decide, by decide, by decide, by decide, by decide⟩

theorem wit_GatewayAndRecordLink_13 : ∃ (s : State), s.whUp = true ∧ (s.setWel { s.wel with helloNow := false }).wlgUp = true :=
  ⟨tWell 1 [] {}, by decide, by decide⟩

theorem wit_GatewayAndRecordLink_14 : ∃ (s : State), s.whUp = true ∧ (s.setWel { s.wel with helloNow := false }).wlgUp = true :=
  ⟨tWell 1 [] {}, by decide, by decide⟩

theorem wit_GatewayAndRecordLink_15 : ∃ (_ok : Bool) (s : State), s.whUp = false :=
  ⟨true, tLive [], by decide⟩

theorem wit_GatewayAndRecordLink_16 : ∃ (_ok : Bool) (s : State), s.whUp = true ∧ (s.setWel { s.wel with helloNow := false }).wlgUp = false :=
  ⟨true, { tWell 1 [] {} with dev := .dormant }, by decide, by decide⟩

theorem wit_GatewayAndRecordLink_17 : ∃ (p : WhResp) (q : List WhResp) (d : Desc) (k : Nat) (u : State) (s : State), s.wel.resps = p :: q ∧ u = s.setWel { s.wel with resps := q } ∧ u.wlgUp = true ∧ (u.wlg.reqs.find? fun x => x.1 == p.id) = some (p.id, d, k) ∧ d.opcode ≠ 0xE007 ∧ p.status = 0 :=
  ⟨⟨4, 0x14, 0, [9, 0, 0, 0]⟩, [], tDesc 48 0xC001 [0x14], 90, tAsked [], tAsked [⟨4, 0x14, 0, [9, 0, 0, 0]⟩], by decide, (rfl), by decide, by decide, by decide, by decide⟩

theorem wit_GatewayAndRecordLink_18 : ∃ (p : WhResp) (q : List WhResp) (d : Desc) (k : Nat) (u : State) (s : State), s.wel.resps = p :: q ∧ u = s.setWel { s.wel with resps := q } ∧ u.wlgUp = true ∧ (u.wlg.reqs.find? fun x => x.1 == p.id) = some (p.id, d, k) ∧ d.opcode ≠ 0xE007 ∧ p.status ≠ 0 :=
  ⟨⟨4, 0x14, 0x10, []⟩, [], tDesc 48 0xC001 [0x14], 90, tAsked [], tAsked [⟨4, 0x14, 0x10, []⟩], by decide, (rfl), by decide, by decide, by decide, by decide⟩

theorem wit_GatewayAndRecordLink_19 : ∃ (s : State), s.whUp = true ∧ s.wlgUp = true ∧ s.flag WLG_CFG_ENABLE = true ∧ (s.storeFrame 42 0 (List.replicate 128 0) true none).isSome = true :=
  ⟨tLink, by decide, by decide, by decide, (by decide +kernel)⟩

theorem wit_GatewayAndRecordLink_20 : ∃ (s : State), s.whUp = true ∧ (s.wlgUp && s.flag WLG_CFG_ENABLE) = false :=
  ⟨{ tLink with regs := [(WLG_CFG, 0)] }, by decide, by decide⟩

theorem wit_GatewayAndRecordLink_21 : ∃ (s : State), s.whUp = false :=
  ⟨tLive [], by decide⟩

theorem wit_GatewayAndRecordLink_22 : ∃ (s : State), (s.serving = false ∨ s.linkFrame 0x02 = none) :=
  ⟨tLink, by decide⟩

theorem wit_GatewayAndRecordLink_23 : ∃ (s : State), (s.serving = false ∨ s.linkFrame 0x03 = none) :=
  ⟨tLink, by decide⟩

theorem wit_GatewayAndRecordLink_24 : ∃ (q : Nat) (s : State), s.serving = true ∧ s.linkFrame 0x02 = some q ∧ (s.whUp = false ∨ s.wel.nextSeq ≤ q) :=
  ⟨5, { tLink with wlg := { link := [(2, 5)] } }, by decide, by decide, by decide⟩

theorem wit_GatewayAndRecordLink_25 : ∃ (q : Nat) (s : State), s.serving = true ∧ s.linkFrame 0x03 = some q ∧ s.whUp = false :=
  ⟨5, { tLive [] with wlg := { link := [(3, 5)] } }, by decide, by decide, by decide⟩

theorem wit_GatewayAndRecordLink_26 : ∃ (_ok : Bool) (s : State), s.wel.resps = [] :=
  ⟨true, tAsked [], by decide⟩

theorem wit_GatewayAndRecordLink_27 : ∃ (ok : Bool) (p : WhResp) (q : List WhResp) (u : State) (s : State), s.wel.resps = p :: q ∧ u = s.setWel { s.wel with resps := q } ∧ (u.wlgUp = false ∨ (ok = true ∧ (u.wlg.reqs.find? fun x => x.1 == p.id) = none)) :=
  ⟨true, ⟨5, 0x14, 0, []⟩, [], tAsked [], tAsked [⟨5, 0x14, 0, []⟩], by decide, (rfl), by decide⟩

theorem wit_GatewayAndRecordLink_28 : ∃ (p : WhResp) (q : List WhResp) (u : State) (s : State), s.wel.resps = p :: q ∧ u = s.setWel { s.wel with resps := q } ∧ u.wlgUp = true :=
  ⟨⟨4, 0x14, 0, []⟩, [], tAsked [], tAsked [⟨4, 0x14, 0, []⟩], by decide, (rfl), by decide⟩

theorem wit_GatewayAndRecordLink_29 : ∃ (p : WhResp) (q : List WhResp) (d : Desc) (k : Nat) (u : State) (s : State), s.wel.resps = p :: q ∧ u = s.setWel { s.wel with resps := q } ∧ u.wlgUp = true ∧ (u.wlg.reqs.find? fun x => x.1 == p.id) = some (p.id, d, k) ∧ d.opcode = 0xE007 :=
  ⟨⟨4, 0x34, 0, [9, 0, 0, 0]⟩, [], tDesc 56 0xE007 [], 90, tAttests [], tAttests [⟨4, 0x34, 0, [9, 0, 0, 0]⟩], by decide, (rfl), by decide, by decide, by decide⟩

theorem wit_GatewayAndRecordLink_30 : ∃ (q : Nat) (s : State), s.serving = true ∧ s.linkFrame 0x02 = some q ∧ (s.linkDrop 0x02 q).whUp = true ∧ q < (s.linkDrop 0x02 q).wel.nextSeq :=
  ⟨0, { tLink with wlg := { link := [(2, 0)] } }, by decide, by decide, by decide, by decide⟩

theorem wit_GatewayAndRecordLink_31 : ∃ (q : Nat) (s : State), s.serving = true ∧ s.linkFrame 0x03 = some q ∧ (s.linkDrop 0x03 q).whUp = true :=
  ⟨0, { tLink with wlg := { link := [(3, 0)] } }, by decide, by decide, by decide⟩

theorem wit_GatewayAndRecordLink_32 : ∃ (d : Desc) (s : State), Runs s d ∧ s.flag WLG_STATUS_LINK_UP = true ∧ s.whUp = true :=
  ⟨tDesc 48 0xC001 [0x14], { tWell 1 [] {} with regs := [(WLG_STATUS, 0xFFFFFFFF)] }, runs_of (by decide), by decide, by decide⟩

theorem wit_GatewayAndRecordLink_33 : ∃ (d : Desc) (s : State), Runs s d ∧ s.flag WLG_STATUS_LINK_UP = false :=
  ⟨tDesc 48 0xC001 [0x14], tWell 1 [] {}, runs_of (by decide), by decide⟩

theorem wit_GatewayAndRecordLink_34 : ∃ (i : Nat) (d : Desc) (k : Nat) (s : State), s.serving = true ∧ (s.wlg.reqs.find? fun q => q.2.1.opcode == 0xC001 && decide (q.2.2 + 4000 ≤ s.sn)) = some (i, d, k) :=
  ⟨4, tDesc 48 0xC001 [0x14], 90, { tAsked [] with sn := 4090 }, by decide, by decide⟩

theorem wit_GatewayAndRecordLink_35 : ∃ (s : State), s.wlgUp = true ∧ s.flag WLG_STATUS_LINK_UP = true ∧ s.wlg.helloAt + 8000 ≤ s.now :=
  ⟨{ tLive [(WLG_STATUS, 0xFFFFFFFF)] with sn := 8000 }, by decide, by decide, by decide⟩

theorem wit_GatewayAndRecordLink_36 : ∃ (d : Desc) (s : State), Runs s d ∧ s.flag WLG_STATUS_LINK_UP = true ∧ s.whUp = false :=
  ⟨tDesc 48 0xC001 [0x14], tLive [(WLG_STATUS, 0xFFFFFFFF)], runs_of (by decide), by decide, by decide⟩

theorem wit_GatewayAndRecordLink_37 : ∃ (s : State), (s.serving = false ∨ (s.wlg.reqs.find? fun q => q.2.1.opcode == 0xC001 && decide (q.2.2 + 4000 ≤ s.sn)) = none) :=
  ⟨tAsked [], by decide⟩

theorem wit_GatewayAndRecordLink_38 : ∃ (s : State), (s.wlgUp = false ∨ s.flag WLG_STATUS_LINK_UP = false ∨ s.now < s.wlg.helloAt + 8000) :=
  ⟨tLive [], by decide⟩

theorem wit_MotionCommands_1 : ∃ (d : Desc) (s : State), Runs s d ∧ (s.flag (MOT_AXIS_CFG_ENABLE (d.op 32 1)) = false ∨ (s.axis (d.op 32 1)).enabled = false) :=
  ⟨tDesc 40 0xA002 [], tLive [], runs_of (by decide), by decide⟩

theorem wit_MotionCommands_2 : ∃ (d : Desc) (n : Nat) (s : State), Runs s d ∧ n = d.op 32 1 ∧ s.flag (MOT_AXIS_CFG_ENABLE n) = true ∧ (s.axis n).enabled = true ∧ (s.axis n).cmd = none ∧ d.bufLen / 16 = 1 :=
  ⟨{ tDesc 40 0xA001 [0, 3] with bufLen := 16, buf := leBytes 8 1 ++ leBytes 8 0 }, 0, tMot { tAxis with pos := 0 } [], runs_of (by decide), by decide, by decide, by decide, by decide, by decide⟩

theorem wit_MotionCommands_3 : ∃ (d : Desc) (n : Nat) (e : Desc) (i : Nat) (s : State), Runs s d ∧ n = d.op 32 1 ∧ s.flag (MOT_AXIS_CFG_ENABLE n) = true ∧ (s.axis n).enabled = true ∧ (s.axis n).cmd = some (.profile e i) ∧ d.op 33 1 ≤ i ∧ i < d.op 33 1 + d.bufLen / 16 :=
  ⟨{ tDesc 40 0xA001 [0, 3] with bufLen := 16, buf := leBytes 8 1 ++ leBytes 8 0 }, 0, tDesc 40 0xA002 [], 3, tMot { tAxis with cmd := some (.profile (tDesc 40 0xA002 []) 3) } [], runs_of (by decide), by decide, by decide, by decide, by decide, by decide, by decide⟩

theorem wit_MotionCommands_4 : ∃ (d : Desc) (n : Nat) (r : Run) (s : State), Runs s d ∧ n = d.op 32 1 ∧ s.flag (MOT_AXIS_CFG_ENABLE n) = true ∧ (s.axis n).enabled = true ∧ (s.axis n).speed = none ∧ (s.axis n).busy = false ∧ (s.axis n).referenced = true ∧ (s.axis n).runOf (d.op 33 1) (s.axis n).pos 0 = some r ∧ (s.axis n).latchedToward (decide ((s.axis n).pos < r.p1)) = false ∧ s.blocks n (decide ((s.axis n).pos < r.p1)) = false :=
  ⟨tDesc 40 0xA002 [0, 3], 0, ⟨0, 0, 0, 0, 1, 0⟩, tMot { tAxis with segs := [(3, ⟨1, true, none, 0, 0⟩)] } [], runs_of (by decide), by decide, by decide, by decide, by decide, by decide, by decide, by decide, by decide, by decide⟩

theorem wit_MotionCommands_5 : ∃ (d : Desc) (n : Nat) (s : State), Runs s d ∧ n = d.op 32 1 ∧ s.flag (MOT_AXIS_CFG_ENABLE n) = true ∧ (s.axis n).enabled = true ∧ (s.axis n).speed = none ∧ (s.axis n).busy = false ∧ (s.axis n).referenced = false ∧ bit (d.op 34 1) 0 = false :=
  ⟨tDesc 40 0xA002 [0, 3], 0, tMot { tAxis with referenced := false } [], runs_of (by decide), by decide, by decide, by decide, by decide, by decide, by decide, by decide⟩

theorem wit_MotionCommands_6 : ∃ (d : Desc) (n : Nat) (t : Int) (s : State), Runs s d ∧ n = d.op 32 1 ∧ s.flag (MOT_AXIS_CFG_ENABLE n) = true ∧ (s.axis n).enabled = true ∧ (s.axis n).speed = none ∧ (s.axis n).busy = false ∧ bit (d.op 33 1) 0 = false ∧ t = wrapQ (signed 64 (d.op 40 8) * 65536) ∧ (s.axis n).latchedToward (decide ((s.axis n).pos < t)) = false ∧ s.blocks n (decide ((s.axis n).pos < t)) = false :=
  ⟨tDesc 40 0xA003 [0, 0], 0, 0, tMot tAxis [], runs_of (by decide), by decide, by decide, by decide, by decide, by decide, by decide, by decide, by decide, by decide⟩

theorem wit_MotionCommands_7 : ∃ (d : Desc) (n : Nat) (s : State), Runs s d ∧ n = d.op 32 1 ∧ s.flag (MOT_AXIS_CFG_ENABLE n) = true ∧ (s.axis n).enabled = true ∧ (s.axis n).busy = true :=
  ⟨tDesc 40 0xA003 [0, 0], 0, tMot { tAxis with v16 := 5 } [], runs_of (by decide), by decide, by decide, by decide, by decide⟩

theorem wit_MotionCommands_8 : ∃ (d : Desc) (n : Nat) (e : Desc) (t : Int) (vm : Nat) (ac : Nat) (de : Nat) (rp : Option Nat) (dn : Bool) (s : State), Runs s d ∧ n = d.op 32 1 ∧ s.flag (MOT_AXIS_CFG_ENABLE n) = true ∧ (s.axis n).enabled = true ∧ (s.axis n).cmd = some (.move e t vm ac de rp dn none) :=
  ⟨tDesc 40 0xA004 [0], 0, tDesc 40 0xA003 [], 0, 1, 1, 1, none, false, tMot { tAxis with cmd := some (.move (tDesc 40 0xA003 []) 0 1 1 1 none false none) } [], runs_of (by decide), by decide, by decide, by decide, by decide⟩

theorem wit_MotionCommands_9 : ∃ (d : Desc) (n : Nat) (s : State), Runs s d ∧ n = d.op 32 1 ∧ s.flag (MOT_AXIS_CFG_ENABLE n) = true ∧ (s.axis n).enabled = true ∧ (s.axis n).speed = none ∧ (s.axis n).busy = false ∧ (s.axis n).home.active = false ∧ d.op 44 4 ≤ s.num (MOT_SAFE_V n) ∧ (s.axis n).latchedToward (!bit (d.op 33 1) 0) = false ∧ s.blocks n (!bit (d.op 33 1) 0) = false :=
  ⟨tDesc 40 0xA005 [0, 0], 0, tMot tAxis [], runs_of (by decide), by decide, by decide, by decide, by decide, by decide, by decide, by decide, by decide, by decide⟩

theorem wit_MotionCommands_10 : ∃ (d : Desc) (s : State), Runs s d ∧ (∀ n < 16, bit (d.op 32 2) n = true → s.flag (MOT_AXIS_CFG_ENABLE n) = true ∧ (s.axis n).enabled = true ∧ (s.axis n).cmd = none ∧ (s.axis n).v16 = 0) :=
  ⟨tDesc 40 0xA006 [1], tMot tAxis [], runs_of (by decide), by decide⟩

theorem wit_MotionCommands_11 : ∃ (d : Desc) (n : Nat) (s : State), Runs s d ∧ n < 16 ∧ bit (d.op 32 2) n = true ∧ (s.axis n).enabled = false :=
  ⟨tDesc 40 0xA006 [1], 0, tLive [], runs_of (by decide), by decide, by decide, by decide⟩

theorem wit_MotionCommands_12 : ∃ (d : Desc) (n : Nat) (s : State), Runs s d ∧ n = d.op 32 1 ∧ s.flag (MOT_AXIS_CFG_ENABLE n) = true ∧ d.op 33 1 = 1 :=
  ⟨tDesc 40 0xA007 [0, 1], 0, tMot {} [], runs_of (by decide), by decide, by decide, by decide⟩

theorem wit_MotionCommands_13 : ∃ (d : Desc) (n : Nat) (s : State), Runs s d ∧ n = d.op 32 1 ∧ s.flag (MOT_AXIS_CFG_ENABLE n) = true ∧ d.op 33 1 = 0 ∧ (s.axis n).enabled = true :=
  ⟨tDesc 40 0xA007 [0, 0], 0, tMot tAxis [], runs_of (by decide), by decide, by decide, by decide, by decide⟩

theorem wit_MotionCommands_14 : ∃ (d : Desc) (n : Nat) (s : State), Runs s d ∧ n = d.op 32 1 ∧ s.flag (MOT_AXIS_CFG_ENABLE n) = true ∧ (s.axis n).enabled = true ∧ (s.axis n).busy = false :=
  ⟨tDesc 40 0xA008 [0], 0, tMot { tAxis with pos := 0 } [], runs_of (by decide), by decide, by decide, by decide, by decide⟩

theorem wit_MotionCommands_15 : ∃ (d : Desc) (n : Nat) (s : State), Runs s d ∧ n = d.op 32 1 ∧ s.flag (MOT_AXIS_CFG_ENABLE n) = true ∧ (s.axis n).enabled = true :=
  ⟨{ tDesc 40 0xA009 [0] with bufLen := 32 }, 0, tMot { tAxis with pos := 0 } [], runs_of (by decide), by decide, by decide, by decide⟩

theorem wit_MotionCommands_16 : ∃ (d : Desc) (n : Nat) (s : State), Runs s d ∧ n = d.op 32 1 ∧ s.flag (MOT_AXIS_CFG_ENABLE n) = true ∧ (s.axis n).enabled = true ∧ (∀ e i, (s.axis n).cmd = some (.profile e i) → ¬ (d.op 33 1 ≤ i ∧ i < d.op 33 1 + d.bufLen / 16) ∧ ∀ g k, tget (s.axis n).segs i = some g → nextSeg i g = some k → ¬ (d.op 33 1 ≤ k ∧ k < d.op 33 1 + d.bufLen / 16)) :=
  ⟨{ tDesc 40 0xA001 [0, 3] with bufLen := 16, buf := leBytes 8 1 ++ leBytes 8 0 }, 0, tMot { tAxis with pos := 0 } [], runs_of (by decide), by decide, by decide, by decide, (fun _ _ h => by simp [tMot, tAxis, State.axis] at h)⟩

theorem wit_MotionCommands_17 : ∃ (d : Desc) (n : Nat) (e : Desc) (i : Nat) (g : AxisSeg) (k : Nat) (s : State), Runs s d ∧ n = d.op 32 1 ∧ s.flag (MOT_AXIS_CFG_ENABLE n) = true ∧ (s.axis n).enabled = true ∧ (s.axis n).cmd = some (.profile e i) ∧ tget (s.axis n).segs i = some g ∧ nextSeg i g = some k ∧ d.op 33 1 ≤ k ∧ k < d.op 33 1 + d.bufLen / 16 :=
  ⟨{ tDesc 40 0xA001 [0, 3] with bufLen := 16, buf := leBytes 8 1 ++ leBytes 8 0 }, 0, tDesc 40 0xA002 [], 2, ⟨1, false, none, 0, 0⟩, 3, tMot { tAxis with cmd := some (.profile (tDesc 40 0xA002 []) 2), segs := [(2, ⟨1, false, none, 0, 0⟩)] } [], runs_of (by decide), by decide, by decide, by decide, by decide, by decide, by decide, by decide, by decide⟩

theorem wit_MotionCommands_18 : ∃ (d : Desc) (n : Nat) (s : State), Runs s d ∧ n = d.op 32 1 ∧ s.flag (MOT_AXIS_CFG_ENABLE n) = true ∧ (s.axis n).enabled = true :=
  ⟨tDesc 40 0xA002 [0, 3], 0, tMot { tAxis with pos := 0 } [], runs_of (by decide), by decide, by decide, by decide⟩

theorem wit_MotionCommands_19 : ∃ (d : Desc) (n : Nat) (t : Int) (s : State), Runs s d ∧ n = d.op 32 1 ∧ s.flag (MOT_AXIS_CFG_ENABLE n) = true ∧ (s.axis n).enabled = true ∧ t = wrapQ (if bit (d.op 33 1) 0 then (s.axis n).pos + signed 64 (d.op 40 8) * 65536 else signed 64 (d.op 40 8) * 65536) :=
  ⟨tDesc 40 0xA003 [0, 1], 0, 7, tMot { tAxis with pos := 7 } [], runs_of (by decide), by decide, by decide, by decide, by decide⟩

theorem wit_MotionCommands_20 : ∃ (d : Desc) (n : Nat) (e : Desc) (t : Int) (vm : Nat) (ac : Nat) (de : Nat) (rp : Option Nat) (dn : Bool) (o : Nat × Nat × Nat) (s : State), Runs s d ∧ n = d.op 32 1 ∧ s.flag (MOT_AXIS_CFG_ENABLE n) = true ∧ (s.axis n).enabled = true ∧ (s.axis n).cmd = some (.move e t vm ac de rp dn (some o)) :=
  ⟨tDesc 40 0xA004 [0], 0, tDesc 40 0xA003 [], 0, 1, 1, 1, none, false, (3, 4, 5), tMot { tAxis with cmd := some (.move (tDesc 40 0xA003 []) 0 1 1 1 none false (some (3, 4, 5))) } [], runs_of (by decide), by decide, by decide, by decide, by decide⟩

theorem wit_MotionCommands_21 : ∃ (d : Desc) (n : Nat) (s : State), Runs s d ∧ n = d.op 32 1 ∧ s.flag (MOT_AXIS_CFG_ENABLE n) = true ∧ (s.axis n).enabled = true ∧ (∀ e t vm ac de rp dn o, (s.axis n).cmd ≠ some (.move e t vm ac de rp dn o)) :=
  ⟨tDesc 40 0xA004 [0], 0, tMot { tAxis with pos := 0 } [], runs_of (by decide), by decide, by decide, by decide, (by simp [tMot, tAxis, State.axis])⟩

theorem wit_MotionCommands_22 : ∃ (d : Desc) (n : Nat) (s : State), Runs s d ∧ n = d.op 32 1 ∧ s.flag (MOT_AXIS_CFG_ENABLE n) = true ∧ (s.axis n).enabled = true ∧ (s.axis n).speed = none ∧ (s.axis n).busy = false ∧ (s.axis n).home.active = true ∧ d.op 44 4 ≤ s.num (MOT_SAFE_V n) ∧ (s.axis n).latchedToward (bit (d.op 33 1) 0) = false ∧ s.blocks n (bit (d.op 33 1) 0) = false :=
  ⟨tDesc 40 0xA005 [0, 1], 0, tMot { tAxis with home := { active := true } } [], runs_of (by decide), by decide, by decide, by decide, by decide, by decide, by decide, by decide, by decide, by decide⟩

theorem wit_MotionCommands_23 : ∃ (d : Desc) (n : Nat) (s : State), Runs s d ∧ n = d.op 32 1 ∧ s.flag (MOT_AXIS_CFG_ENABLE n) = true ∧ (s.axis n).enabled = true ∧ (s.axis n).speed = none ∧ (s.axis n).busy = false ∧ s.num (MOT_SAFE_V n) < d.op 44 4 :=
  ⟨tDesc 40 0xA005 [0, 0, 0, 0, 0, 0, 0, 0, 0, 0, 0, 0, 9], 0, tMot tAxis [(MOT_AXIS_CFG 0, 1), (MOT_SAFE_V 0, 0)], runs_of (by decide), by decide, by decide, by decide, by decide, by decide, by decide⟩

theorem wit_MotionCommands_24 : ∃ (d : Desc) (n : Nat) (up : Bool) (s : State), Runs s d ∧ n = d.op 32 1 ∧ s.flag (MOT_AXIS_CFG_ENABLE n) = true ∧ (s.axis n).enabled = true ∧ (s.axis n).speed = none ∧ (s.axis n).busy = false ∧ d.op 44 4 ≤ s.num (MOT_SAFE_V n) ∧ up = (if (s.axis n).home.active then bit (d.op 33 1) 0 else !bit (d.op 33 1) 0) ∧ ((s.axis n).latchedToward up = true ∨ s.blocks n up = true) :=
  ⟨tDesc 40 0xA005 [0, 0], 0, true, tMot { tAxis with latchP := some 0 } [], runs_of (by decide), by decide, by decide, by decide, by decide, by decide, by decide, by decide, by decide⟩

theorem wit_MotionCommands_25 : ∃ (d : Desc) (s : State), Runs s d ∧ (∀ n < 16, bit (d.op 32 2) n = true → s.flag (MOT_AXIS_CFG_ENABLE n) = true ∧ (s.axis n).enabled = true) ∧ (∃ n < 16, bit (d.op 32 2) n = true ∧ (s.axis n).v16 ≠ 0) :=
  ⟨tDesc 40 0xA006 [1], tMot { tAxis with v16 := 5 } [], runs_of (by decide), by decide, by decide⟩

theorem wit_MotionCommands_26 : ∃ (d : Desc) (n : Nat) (s : State), Runs s d ∧ n < 16 ∧ bit (d.op 32 2) n = true ∧ s.flag (MOT_AXIS_CFG_ENABLE n) = false :=
  ⟨tDesc 40 0xA006 [1], 0, tLive [], runs_of (by decide), by decide, by decide, by decide⟩

theorem wit_MotionCommands_27 : ∃ (d : Desc) (s : State), Runs s d ∧ s.flag (MOT_AXIS_CFG_ENABLE (d.op 32 1)) = false :=
  ⟨tDesc 40 0xA007 [0, 1], tLive [], runs_of (by decide), by decide⟩

theorem wit_MotionCommands_28 : ∃ (d : Desc) (n : Nat) (s : State), Runs s d ∧ n = d.op 32 1 ∧ s.flag (MOT_AXIS_CFG_ENABLE n) = true ∧ d.op 33 1 ≠ 1 ∧ (s.axis n).enabled = false :=
  ⟨tDesc 40 0xA007 [0, 0], 0, tMot {} [], runs_of (by decide), by decide, by decide, by decide, by decide⟩

theorem wit_MotionCommands_29 : ∃ (d : Desc) (n : Nat) (s : State), Runs s d ∧ n = d.op 32 1 ∧ s.flag (MOT_AXIS_CFG_ENABLE n) = true ∧ (s.axis n).enabled = true ∧ (s.axis n).busy = false :=
  ⟨tDesc 40 0xA008 [0], 0, tMot { tAxis with pos := 0 } [], runs_of (by decide), by decide, by decide, by decide, by decide⟩

theorem wit_MotionCommands_30 : ∃ (d : Desc) (n : Nat) (s : State), Runs s d ∧ n = d.op 32 1 ∧ s.flag (MOT_AXIS_CFG_ENABLE n) = true ∧ (s.axis n).enabled = true :=
  ⟨{ tDesc 40 0xA009 [0] with bufLen := 32 }, 0, tMot { tAxis with pos := 0 } [], runs_of (by decide), by decide, by decide, by decide⟩

theorem wit_MotionHardware_1 : ∃ (s : State), s.motLive = true :=
  ⟨tMot tAxis [], by decide⟩

theorem wit_MotionHardware_2 : ∃ (_n : Nat) (_o : Bool) (_mv : Nat) (_ns : Nat) (s : State), s.motLive = false :=
  ⟨0, true, 9, 2000, State.reset, by decide⟩

theorem wit_MotionHardware_3 : ∃ (n : Nat) (r : Run) (st : Int) (s : State), s.motLive = true ∧ n < 16 ∧ s.axisEn n = true ∧ (∀ m < 16, m ≠ n → s.axisEn m = false) ∧ s.mot.stops = [] ∧ s.waveStops n = false ∧ (s.axis n).stopping = false ∧ (s.axis n).run = some r ∧ st = r.p (r.k + 1) - (if r.k = 0 then r.p0 else r.p r.k) ∧ absI st ≤ 256 * 65536 ∧ s.blocks n (decide (0 < st)) = false ∧ (s.axis n).latchedToward (decide (0 < st)) = false ∧ r.k + 1 ≠ 16 * r.t :=
  ⟨0, ⟨0, 0, 65536, 0, 1, 0⟩, 736, tMot { tAxis with run := some ⟨0, 0, 65536, 0, 1, 0⟩ } [], by decide, by decide, by decide, by decide, by decide, by decide, by decide, by decide, by decide, by decide, by decide, by decide, by decide⟩

theorem wit_MotionHardware_4 : ∃ (s : State), s.motLive = true ∧ (∀ m < 16, s.axisEn m = false) :=
  ⟨tLive [], by decide, by decide⟩

theorem wit_MotionHardware_5 : ∃ (n : Nat) (j : Job) (v : State) (s : State), s.serving = true ∧ s.work 0x13 n = some j ∧ v = { s with sn := j.sn } :=
  ⟨0, periodicJob 100 0 0x13 0 (workCls 0x13) true false, { tWork 0x13 0 (tMot tAxis []) with sn := 100 }, tWork 0x13 0 (tMot tAxis []), by decide, (by decide +kernel), (rfl)⟩

theorem wit_MotionHardware_6 : ∃ (n : Nat) (s : State), (s.serving = false ∨ s.work 0x13 n = none) :=
  ⟨0, tMot tAxis [], (.inr (by decide))⟩

theorem wit_MotionHardware_7 : ∃ (n : Nat) (o : Bool) (mv : Nat) (ns : Nat) (s : State), s.motLive = true ∧ n < 16 ∧ s.flag (MOT_AXIS_CFG_ENABLE n) = true ∧ (s.axis n).fault = false ∧ (s.axis n).enabled = true ∧ (if o then 1000 else 2000) ≤ ns ∧ (o = false ∨ s.get (MOT_OC_OC_LIMIT n) * 250 < mv * 255) :=
  ⟨0, false, 0, 2000, tMot tAxis [], by decide, by decide, by decide, by decide, by decide, by decide, by decide⟩

theorem wit_MotionHardware_8 : ∃ (n : Nat) (o : Bool) (mv : Nat) (ns : Nat) (s : State), (16 ≤ n ∨ s.flag (MOT_AXIS_CFG_ENABLE n) = false ∨ (s.axis n).fault = true ∨ ns < (if o then 1000 else 2000) ∨ (o = true ∧ mv * 255 ≤ s.get (MOT_OC_OC_LIMIT n) * 250)) :=
  ⟨0, false, 0, 1999, tMot tAxis [], by decide⟩

theorem wit_MotionHardware_9 : ∃ (n : Nat) (_p : Bool) (_l : Bool) (us : Nat) (s : State), (s.mainLive = false ∨ 16 ≤ n ∨ s.qualified n us = false) :=
  ⟨0, true, true, 0, tMot tAxis [], by decide⟩

theorem wit_MotionHardware_10 : ∃ (n : Nat) (l : Bool) (us : Nat) (e : Desc) (i : Nat) (x : AxisIn) (u : State) (s : State), s.mainLive = true ∧ n < 16 ∧ s.qualified n us = true ∧ l ≠ s.flag (MOT_AXIS_CFG_LIMP_POL n) ∧ s.noteChatter n 0 ((s.axis n).limp.change true s.sn) = (u, x) ∧ (s.axis n).latchP = none ∧ 0 < (s.axis n).v16 ∧ (s.axis n).cmd = some (.profile e i) :=
  ⟨0, true, 5000, tDesc 40 0xA002 [], 0, { active := true, changes := [100] }, tMot { tAxis with v16 := 5, cmd := some (.profile (tDesc 40 0xA002 []) 0) } [], tMot { tAxis with v16 := 5, cmd := some (.profile (tDesc 40 0xA002 []) 0) } [], by decide, by decide, by decide, by decide, (rfl), by decide, by decide, by decide⟩

theorem wit_MotionHardware_11 : ∃ (n : Nat) (l : Bool) (us : Nat) (x : AxisIn) (u : State) (s : State), s.mainLive = true ∧ n < 16 ∧ s.qualified n us = true ∧ l ≠ s.flag (MOT_AXIS_CFG_LIMN_POL n) ∧ s.noteChatter n 1 ((s.axis n).limn.change true s.sn) = (u, x) ∧ (s.axis n).latchN = none ∧ 0 ≤ (s.axis n).v16 :=
  ⟨0, true, 5000, { active := true, changes := [100] }, tMot tAxis [], tMot tAxis [], by decide, by decide, by decide, by decide, (rfl), by decide, by decide⟩

theorem wit_MotionHardware_12 : ∃ (n : Nat) (p : Bool) (l : Bool) (us : Nat) (u : State) (x : AxisIn) (s : State), s.mainLive = true ∧ n < 16 ∧ s.qualified n us = true ∧ l = s.flag (if p then MOT_AXIS_CFG_LIMP_POL n else MOT_AXIS_CFG_LIMN_POL n) ∧ s.noteChatter n (if p then 0 else 1) ((if p then (s.axis n).limp else (s.axis n).limn).change false s.sn) = (u, x) :=
  ⟨0, true, false, 5000, tMot tAxis [], {}, tMot tAxis [], by decide, by decide, by decide, by decide, (rfl)⟩

theorem wit_MotionHardware_13 : ∃ (n : Nat) (l : Bool) (us : Nat) (e : Desc) (ng : Bool) (se : Nat) (cr : Nat) (ac : Nat) (hp : Int) (k : Nat) (li : Nat) (s0 : Nat) (x : AxisIn) (u : State) (s : State), s.mainLive = true ∧ n < 16 ∧ s.qualified n us = true ∧ l ≠ s.flag (MOT_AXIS_CFG_HOME_POL n) ∧ s.noteChatter n 2 ((s.axis n).home.change true s.sn) = (u, x) ∧ (s.axis n).cmd = some (.home e ng se cr ac hp k li s0) ∧ k ≠ 4 :=
  ⟨0, true, 5000, tDesc 40 0xA005 [], false, 9, 1, 1, 0, 2, 0, 90, { active := true, changes := [100] }, tMot { tAxis with cmd := some (.home (tDesc 40 0xA005 []) false 9 1 1 0 2 0 90) } [], tMot { tAxis with cmd := some (.home (tDesc 40 0xA005 []) false 9 1 1 0 2 0 90) } [], by decide, by decide, by decide, by decide, (rfl), by decide, by decide⟩

theorem wit_MotionHardware_14 : ∃ (n : Nat) (l : Bool) (us : Nat) (e : Desc) (ng : Bool) (se : Nat) (cr : Nat) (ac : Nat) (hp : Int) (li : Nat) (s0 : Nat) (r : Run) (s : State), s.mainLive = true ∧ n < 16 ∧ s.qualified n us = true ∧ l = s.flag (MOT_AXIS_CFG_HOME_POL n) ∧ (s.axis n).home.active = true ∧ (s.axis n).cmd = some (.home e ng se cr ac hp 4 li s0) ∧ (s.axis n).run = some r :=
  ⟨0, false, 5000, tDesc 40 0xA005 [], false, 9, 1, 1, 7, 0, 90, ⟨0, 0, 0, 0, 1, 0⟩, tMot { tAxis with home := { active := true }, run := some ⟨0, 0, 0, 0, 1, 0⟩, cmd := some (.home (tDesc 40 0xA005 []) false 9 1 1 7 4 0 90) } [], by decide, by decide, by decide, by decide, by decide, by decide, by decide⟩

theorem wit_MotionHardware_15 : ∃ (n : Nat) (l : Bool) (us : Nat) (x : AxisIn) (u : State) (s : State), s.mainLive = true ∧ n < 16 ∧ s.qualified n us = true ∧ s.noteChatter n 2 ((s.axis n).home.change (l != s.flag (MOT_AXIS_CFG_HOME_POL n)) s.sn) = (u, x) ∧ (s.axis n).cmd = none :=
  ⟨0, false, 5000, {}, tMot tAxis [], tMot tAxis [], by decide, by decide, by decide, (rfl), by decide⟩

theorem wit_MotionHardware_16 : ∃ (n : Nat) (s : State), s.motLive = true ∧ n < 16 ∧ s.axisEn n = true ∧ (s.axis n).v16 ≠ 0 ∧ s.blocks n (decide (0 < (s.axis n).v16)) = true ∧ s.mot.stops = [] ∧ (∀ m < 16, m ≠ n → s.axisEn m = false) :=
  ⟨0, tMot { tAxis with v16 := 5 } [(MOT_AXIS_CFG 0, 0x101)], by decide, by decide, by decide, by decide, by decide, by decide, by decide⟩

theorem wit_MotionHardware_17 : ∃ (g : Nat) (s : State), s.motLive = true ∧ (∀ m < 16, s.axisEn m = false ∨ s.get (MOT_AXIS_CFG_GINH_LINE m) ≠ g ∨ (s.axis m).v16 = 0 ∨ s.blocks m (decide (0 < (s.axis m).v16)) = false) :=
  ⟨0, tMot tAxis [], by decide, by decide⟩

theorem wit_MotionHardware_18 : ∃ (_n : Nat) (s : State), s.mainLive = true :=
  ⟨0, tMot tAxis [], by decide⟩

theorem wit_MotionHardware_19 : ∃ (_n : Nat) (s : State), s.mainLive = false :=
  ⟨0, State.reset, by decide⟩

theorem wit_LoopsRunAndCommands_1 : ∃ (n : Nat) (s : State), (s.serving = false ∨ s.work 0x14 n = none) :=
  ⟨0, tLoop, (.inr (by decide))⟩

theorem wit_LoopsRunAndCommands_2 : ∃ (n : Nat) (j : Job) (v : State) (s : State), s.serving = true ∧ s.work 0x14 n = some j ∧ v = { s with sn := j.sn } ∧ (32 ≤ n ∨ v.loopDue n = false ∨ (v.loop n).doneSn = v.sn ∨ ∃ m < n, v.loopDue m = true ∧ (v.loop m).doneSn ≠ v.sn) :=
  ⟨0, periodicJob 100 0 0x14 0 (workCls 0x14) true false, { tWork 0x14 0 (tLive []) with sn := 100 }, tWork 0x14 0 (tLive []), by decide, (by decide +kernel), (rfl), (.inr (.inl (by decide +kernel)))⟩

theorem wit_LoopsRunAndCommands_3 : ∃ (n : Nat) (j : Job) (o : LawOut) (pv : Fl) (ff : Fl) (v : State) (s : State), s.serving = true ∧ s.work 0x14 n = some j ∧ v = { s with sn := j.sn } ∧ n < 32 ∧ v.loopDue n = true ∧ (v.loop n).doneSn ≠ v.sn ∧ (∀ m < n, v.loopDue m = true → (v.loop m).doneSn = v.sn) ∧ (v.loop n).reqs = [] ∧ (v.loop n).want = 2 ∧ (v.loop n).mode = 2 ∧ v.innerOf n = none ∧ selKind (v.num (LOP_DST n)) = 0 ∧ v.srcStale n (v.loop n).srcPv = false ∧ pv = ((Fl.ofBits (v.loop n).srcPv.x).mul (v.loopPar n 9)).add (v.loopPar n 10) ∧ ff = (if v.srcStale n (v.loop n).srcFf then Fl.zero else Fl.ofBits (v.loop n).srcFf.x) ∧ ff.isFinite = true ∧ o = v.law n pv ff none false false ∧ o.badNode = none :=
  ⟨0, periodicJob 100 0 0x14 0 (workCls 0x14) true false, ({ tWork 0x14 0 (tLoop) with sn := 100 }).law 0 tLoopPv tLoopFf none false false, tLoopPv, tLoopFf, { tWork 0x14 0 (tLoop) with sn := 100 }, tWork 0x14 0 (tLoop), by decide, (by decide +kernel), (rfl), by decide, by decide, by decide, by decide, by decide, by decide, by decide, by decide, by decide, by decide, (rfl), (rfl), (by decide +kernel), (rfl), (by decide +kernel)⟩

theorem wit_LoopsRunAndCommands_4 : ∃ (n : Nat) (j : Job) (k : Nat) (pv : Fl) (ff : Fl) (v : State) (s : State), s.serving = true ∧ s.work 0x14 n = some j ∧ v = { s with sn := j.sn } ∧ n < 32 ∧ v.loopDue n = true ∧ (v.loop n).doneSn ≠ v.sn ∧ (∀ m < n, v.loopDue m = true → (v.loop m).doneSn = v.sn) ∧ (v.loop n).reqs = [] ∧ (v.loop n).want = 2 ∧ (v.loop n).mode = 2 ∧ v.innerOf n = none ∧ selKind (v.num (LOP_DST n)) = 0 ∧ v.srcStale n (v.loop n).srcPv = false ∧ pv = ((Fl.ofBits (v.loop n).srcPv.x).mul (v.loopPar n 9)).add (v.loopPar n 10) ∧ ff = (if v.srcStale n (v.loop n).srcFf then Fl.zero else Fl.ofBits (v.loop n).srcFf.x) ∧ (if ff.isFinite then (v.law n pv ff none false false).badNode else some 6) = some k ∧ (v.loop n).held + 1 < v.failPeriods n ∧ n < v.lop.loops.length :=
  ⟨0, periodicJob 100 0 0x14 0 (workCls 0x14) true false, 1, tLoopNanPv, Fl.zero, { tWork 0x14 0 (tLoopNan) with sn := 100 }, tWork 0x14 0 (tLoopNan), by decide, (by decide +kernel), (rfl), by decide, by decide, by decide, by decide, by decide, by decide, by decide, by decide, by decide, by decide, (by decide +kernel), (by decide +kernel), (by decide +kernel), (by decide +kernel), (by decide +kernel)⟩

theorem wit_LoopsRunAndCommands_5 : ∃ (n : Nat) (j : Job) (v : State) (s : State), s.serving = true ∧ s.work 0x14 n = some j ∧ v = { s with sn := j.sn } ∧ n < 32 ∧ v.loopDue n = true ∧ (v.loop n).doneSn ≠ v.sn ∧ (∀ m < n, v.loopDue m = true → (v.loop m).doneSn = v.sn) ∧ (v.loop n).reqs = [] ∧ (v.loop n).want = 2 ∧ (v.loop n).mode = 2 ∧ v.innerOf n = none ∧ v.srcStale n (v.loop n).srcPv = true ∧ (v.loop n).held + 1 < v.failPeriods n :=
  ⟨0, periodicJob 100 0 0x14 0 (workCls 0x14) true false, { tWork 0x14 0 (tLoopStale) with sn := 100 }, tWork 0x14 0 (tLoopStale), by decide, (by decide +kernel), (rfl), by decide, by decide, by decide, by decide, by decide, by decide, by decide, by decide, (by decide +kernel), by decide⟩

theorem wit_LoopsRunAndCommands_6 : ∃ (n : Nat) (j : Job) (v : State) (s : State), s.serving = true ∧ s.work 0x14 n = some j ∧ v = { s with sn := j.sn } ∧ n < 32 ∧ v.loopDue n = true ∧ (v.loop n).doneSn ≠ v.sn ∧ (∀ m < n, v.loopDue m = true → (v.loop m).doneSn = v.sn) ∧ (v.loop n).reqs = [] ∧ (v.loop n).want = 0 ∧ (v.loop n).mode = 0 ∧ n < v.lop.loops.length :=
  ⟨0, periodicJob 100 0 0x14 0 (workCls 0x14) true false, { tWork 0x14 0 ({ tLoop with lop := {} }) with sn := 100 }, tWork 0x14 0 ({ tLoop with lop := {} }), by decide, (by decide +kernel), (rfl), by decide, by decide, by decide, by decide, by decide, by decide, by decide, by decide⟩

theorem wit_LoopsRunAndCommands_7 : ∃ (d : Desc) (n : Nat) (s : State), Runs s d ∧ n = d.op 32 1 ∧ s.flag (LOP_CFG_ENABLE n) = true :=
  ⟨tDesc 44 0xB001 [0, 2], 0, tLoop, runs_of (by decide), by decide, by decide⟩

theorem wit_LoopsRunAndCommands_8 : ∃ (d : Desc) (n : Nat) (s : State), Runs s d ∧ n = d.op 32 1 ∧ s.flag (LOP_CFG_ENABLE n) = true ∧ (∀ k ∈ s.outerOf n, (s.loop k).mode = 0) :=
  ⟨tDesc 44 0xB002 [0], 0, tLoop, runs_of (by decide), by decide, by decide, by decide⟩

theorem wit_LoopsRunAndCommands_9 : ∃ (d : Desc) (n : Nat) (k : Nat) (s : State), Runs s d ∧ n = d.op 32 1 ∧ s.flag (LOP_CFG_ENABLE n) = true ∧ k ∈ s.outerOf n ∧ (s.loop k).mode ≠ 0 :=
  ⟨tDesc 44 0xB002 [1], 1, 0, tCascade, runs_of (by decide), by decide, by decide, by decide, by decide⟩

theorem wit_LoopsRunAndCommands_10 : ∃ (d : Desc) (n : Nat) (s : State), Runs s d ∧ n = d.op 32 1 ∧ s.flag (LOP_CFG_ENABLE n) = true ∧ (∀ g < 12, (Fl.ofBits (leAt d.buf (4 * g) 4)).isFinite = true) ∧ (Fl.ofBits (leAt d.buf 28 4)).lt (Fl.ofBits (leAt d.buf 32 4)) = true ∧ (Fl.ofBits (leAt d.buf 12 4)).lt Fl.zero = false :=
  ⟨{ tDesc 44 0xB003 [0] with bufLen := 48, buf := List.replicate 32 0 ++ leBytes 4 0x3F800000 ++ List.replicate 12 0 }, 0, tLoop, runs_of (by decide), by decide, by decide, (by decide +kernel), (by decide +kernel), (by decide +kernel)⟩

theorem wit_LoopsRunAndCommands_11 : ∃ (d : Desc) (n : Nat) (s : State), Runs s d ∧ n = d.op 32 1 ∧ s.flag (LOP_CFG_ENABLE n) = true ∧ (Fl.ofBits (leAt d.buf 28 4)).lt (Fl.ofBits (leAt d.buf 32 4)) = false :=
  ⟨{ tDesc 44 0xB003 [0] with bufLen := 48, buf := List.replicate 48 0 }, 0, tLoop, runs_of (by decide), by decide, by decide, (by decide +kernel)⟩

theorem wit_LoopsRunAndCommands_12 : ∃ (d : Desc) (n : Nat) (s : State), Runs s d ∧ n = d.op 32 1 ∧ s.flag (LOP_CFG_ENABLE n) = true :=
  ⟨{ tDesc 44 0xB004 [0] with bufLen := 32 }, 0, tLoop, runs_of (by decide), by decide, by decide⟩

theorem wit_LoopsRunAndCommands_13 : ∃ (d : Desc) (s : State), Runs s d ∧ s.flag (LOP_CFG_ENABLE (d.op 32 1)) = false :=
  ⟨tDesc 44 0xB001 [0, 2], tLive [], runs_of (by decide), by decide⟩

theorem wit_LoopsRunAndCommands_14 : ∃ (d : Desc) (s : State), Runs s d ∧ d.op 32 1 < s.lop.traces.length :=
  ⟨tDesc 44 0xB005 [1], tLoop, runs_of (by decide), by decide⟩

theorem wit_LoopsRunAndCommands_15 : ∃ (d : Desc) (s : State), Runs s d ∧ 8 + 24 * d.op 44 4 ≤ d.bufLen :=
  ⟨{ tDesc 44 0xB006 [1] with bufLen := 8 }, tLoop, runs_of (by decide), by decide⟩

theorem wit_LoopsRunAndCommands_16 : ∃ (d : Desc) (n : Nat) (g : Nat) (s : State), Runs s d ∧ n = d.op 32 1 ∧ s.flag (LOP_CFG_ENABLE n) = true ∧ g < 12 ∧ ((Fl.ofBits (leAt d.buf (4 * g) 4)).isFinite = false ∨ (Fl.ofBits (leAt d.buf 12 4)).lt Fl.zero = true) :=
  ⟨{ tDesc 44 0xB003 [0] with bufLen := 48, buf := List.replicate 12 0 ++ leBytes 4 0xBF800000 ++ List.replicate 32 0 }, 0, 0, tLoop, runs_of (by decide), by decide, by decide, by decide, (.inr (by decide +kernel))⟩

theorem wit_LoopsRunAndCommands_17 : ∃ (d : Desc) (n : Nat) (s : State), Runs s d ∧ n = d.op 32 1 ∧ s.flag (LOP_CFG_ENABLE n) = true :=
  ⟨{ tDesc 44 0xB004 [0] with bufLen := 32 }, 0, tLoop, runs_of (by decide), by decide, by decide⟩

theorem wit_LoopsRunAndCommands_18 : ∃ (d : Desc) (s : State), Runs s d ∧ d.bufLen < 8 + 24 * d.op 44 4 :=
  ⟨{ tDesc 44 0xB006 [1, 0, 0, 0, 0, 0, 0, 0, 0, 0, 0, 0, 1] with bufLen := 8 }, tLoop, runs_of (by decide), by decide⟩

theorem wit_RecorderCommands_1 : ∃ (d : Desc) (s : State), Runs s d ∧ s.log.headSeq ≤ d.op 32 4 ∧ 32 * d.op 36 4 ≤ d.bufLen :=
  ⟨{ tDesc 52 0xD001 (leBytes 4 0 ++ leBytes 4 1) with bufLen := 32 }, tRecorded, runs_of (by decide), by decide, by decide⟩

theorem wit_RecorderCommands_2 : ∃ (d : Desc) (s : State), Runs s d ∧ d.op 32 4 < s.log.headSeq :=
  ⟨{ tDesc 52 0xD001 (leBytes 4 0 ++ leBytes 4 1) with bufLen := 32 }, { tLive [] with log := { nextSeq := 4 } }, runs_of (by decide), by decide⟩

theorem wit_RecorderCommands_3 : ∃ (d : Desc) (s : State), Runs s d :=
  ⟨tDesc 52 0xD002 [], tRecorded, runs_of (by decide)⟩

theorem wit_RecorderCommands_4 : ∃ (d : Desc) (s : State), Runs s d ∧ s.log.frozen = false :=
  ⟨tDesc 52 0xD003 [], tRecorded, runs_of (by decide), by decide⟩

theorem wit_RecorderCommands_5 : ∃ (d : Desc) (s : State), Runs s d ∧ s.log.frozen = true :=
  ⟨tDesc 52 0xD004 [], { tLive [] with log := { frozen := true } }, runs_of (by decide), by decide⟩

theorem wit_RecorderCommands_6 : ∃ (s : State), s.mainLive = true ∧ s.log.frozen = true ∧ s.log.freezeSn + s.get REC_CFG_FREEZE_MAX ≤ s.sn :=
  ⟨{ tLive [(REC_CFG, 0)] with log := { frozen := true } }, by decide, by decide, by decide⟩

theorem wit_RecorderCommands_7 : ∃ (v : Word) (r : Rec) (s : State), s.mainLive = true ∧ s.log.store[(s.put REC_WIN_IDX_POS v.toNat).get REC_WIN_IDX_POS]? = some r :=
  ⟨0, tRec, tRecorded, by decide, (by decide +kernel)⟩

theorem wit_RecorderCommands_8 : ∃ (v : Word) (s : State), s.mainLive = true ∧ s.log.store.length ≤ (s.put REC_WIN_IDX_POS v.toNat).get REC_WIN_IDX_POS :=
  ⟨5, tRecorded, by decide, (by decide +kernel)⟩

theorem wit_RecorderCommands_9 : ∃ (d : Desc) (s : State), Runs s d ∧ s.log.headSeq ≤ d.op 32 4 ∧ d.bufLen < 32 * d.op 36 4 :=
  ⟨{ tDesc 52 0xD001 (leBytes 4 0 ++ leBytes 4 2) with bufLen := 32 }, tRecorded, runs_of (by decide), by decide, by decide⟩

theorem wit_RecorderCommands_10 : ∃ (d : Desc) (s : State), Runs s d ∧ s.log.frozen = false :=
  ⟨tDesc 52 0xD004 [], tRecorded, runs_of (by decide), by decide⟩

theorem wit_RecorderCommands_11 : ∃ (s : State), (s.mainLive = false ∨ s.log.frozen = false ∨ s.sn < s.log.freezeSn + s.get REC_CFG_FREEZE_MAX) :=
  ⟨tRecorded, (.inr (.inl rfl))⟩

theorem wit_RecorderCommands_12 : ∃ (_v : Word) (s : State), s.mainLive = false :=
  ⟨5, State.reset, by decide⟩

theorem wit_MemoryScrub_1 : ∃ (m : Nat) (_a : Nat) (x : Stored) (_h : ScrubHit) (_l : Bool) (s : State), (s.mainLive = false ∨ x.fits m = false) :=
  ⟨3, 0, .byte 0 0, .other, false, tLive [], by decide⟩

theorem wit_MemoryScrub_2 : ∃ (m : Nat) (_a : Nat) (x : Stored) (_h : ScrubHit) (_l : Bool) (s : State), s.mainLive = true ∧ x.fits m = true :=
  ⟨2, 0, .byte 0 0, .other, false, tLive [], by decide, by decide⟩

theorem wit_MemoryScrub_3 : ∃ (m : Nat) (_a : Nat) (d : Nat) (c : Nat) (_h : ScrubHit) (s : State), s.mainLive = true ∧ (Stored.byte d c).fits m = true ∧ hammingDecode d c = .clean :=
  ⟨2, 0, 0, 0, .other, tLive [], by decide, by decide, (by decide +kernel)⟩

theorem wit_MemoryScrub_4 : ∃ (m : Nat) (_a : Nat) (d : Nat) (c : Nat) (b : Nat) (x : Nat) (_h : ScrubHit) (s : State), s.mainLive = true ∧ (Stored.byte d c).fits m = true ∧ 2 ≤ m ∧ hammingDecode d c = .corrected b x ∧ s.mem.noted.getD m false = true :=
  ⟨4, 9, 1, 0, (match hammingDecode 1 0 with | .corrected b _ => b | _ => 0), (match hammingDecode 1 0 with | .corrected _ x => x | _ => 0), .other, { tLive [] with mem := { noted := List.replicate 19 true } }, by decide, by decide, by decide, (by decide +kernel), by decide⟩

theorem wit_MemoryScrub_5 : ∃ (m : Nat) (_a : Nat) (d : Nat) (c : Nat) (b : Nat) (x : Nat) (_h : ScrubHit) (s : State), s.mainLive = true ∧ (Stored.byte d c).fits m = true ∧ 2 ≤ m ∧ hammingDecode d c = .corrected b x ∧ s.mem.noted.getD m false = false :=
  ⟨4, 9, 1, 0, (match hammingDecode 1 0 with | .corrected b _ => b | _ => 0), (match hammingDecode 1 0 with | .corrected _ x => x | _ => 0), .other, tLive [], by decide, by decide, by decide, (by decide +kernel), by decide⟩

theorem wit_MemoryScrub_6 : ∃ (_a : Nat) (d : Nat) (c : Nat) (_h : ScrubHit) (s : State), s.mainLive = true ∧ (Stored.byte d c).fits 2 = true ∧ hammingDecode d c = .uncorrectable :=
  ⟨0, 3, 0, .other, tLive [], by decide, by decide, (by decide +kernel)⟩

theorem wit_MemoryScrub_7 : ∃ (m : Nat) (_a : Nat) (d : Nat) (c : Nat) (s : State), s.mainLive = true ∧ m ≠ 2 ∧ (Stored.byte d c).fits m = true ∧ hammingDecode d c = .uncorrectable :=
  ⟨4, 0, 3, 0, tLive [], by decide, by decide, by decide, (by decide +kernel)⟩

theorem wit_MemoryScrub_8 : ∃ (_a : Nat) (_b : Nat) (_i : Nat) (s : State), s.mainLive = true :=
  ⟨0, 1, 7, tLive [], by decide⟩

theorem wit_MemoryScrub_9 : ∃ (m : Nat) (a : Nat) (b : List Byte) (_h : ScrubHit) (s : State), s.mainLive = true ∧ (Stored.block b).fits m = true ∧ a % 8 = 7 :=
  ⟨17, 7, List.replicate 512 0, .other, tLive [], by decide, (by decide +kernel), by decide⟩

theorem wit_AxisOutputsAreOffAtRest_1 : ∃ (_n : Nat) (s : State), s.stroked = false :=
  ⟨0, State.reset, by decide⟩

theorem wit_AxisOutputsAreOffAtRest_2 : ∃ (_n : Nat) (s : State), (s.dev = .reset ∨ s.dev = .halt) :=
  ⟨0, State.reset, (Or.inl rfl)⟩

theorem wit_AxisOutputsAreOffAtRest_3 : ∃ (n : Nat) (s : State), (s.axis n).enabled = false :=
  ⟨0, State.reset, by decide⟩

theorem wit_AxisOutputsAreOffAtRest_4 : ∃ (n : Nat) (s : State), (s.axis n).fault = true :=
  ⟨0, tMot { tAxis with fault := true } [], by decide⟩

theorem wit_AxisOutputsAreOffAtRest_6 : ∃ (_n : Nat) (s : State), s.pins.mainSupply = true ∧ s.dev ≠ .reset :=
  ⟨0, tMot tAxis [], by decide, by decide⟩

theorem wit_OverspeedStopsTheAxis_1 : ∃ (n : Nat) (r : Run) (m : Int) (s : State), (s.axis n).run = some r ∧ m = r.p (r.k + 1) - (if r.k = 0 then r.p0 else r.p r.k) ∧ 256 * 65536 < absI m :=
  ⟨0, ⟨0, 0, 2 ^ 40, 0, 1, 0⟩, (⟨0, 0, 2 ^ 40, 0, 1, 0⟩ : Run).p 1 - 0, tMot { tAxis with run := some ⟨0, 0, 2 ^ 40, 0, 1, 0⟩ } [], by decide, (rfl), by decide⟩

theorem wit_OverspeedStopsTheAxis_2 : ∃ (n : Nat) (r : Run) (m : Int) (s : State), s.motLive = true ∧ n < 16 ∧ s.mot.axes.length = 16 ∧ s.axisEn n = true ∧ (∀ k < 16, k ≠ n → s.axisEn k = false) ∧ s.waveStops n = false ∧ s.mot.stops = [] ∧ (s.axis n).stopping = false ∧ (s.axis n).cmd = none ∧ (s.axis n).run = some r ∧ m = r.p (r.k + 1) - (if r.k = 0 then r.p0 else r.p r.k) ∧ 256 * 65536 < absI m :=
  ⟨0, ⟨0, 0, 2 ^ 40, 0, 1, 0⟩, (⟨0, 0, 2 ^ 40, 0, 1, 0⟩ : Run).p 1 - 0, tMot { tAxis with run := some ⟨0, 0, 2 ^ 40, 0, 1, 0⟩ } [], by decide, by decide, by decide, by decide, by decide, by decide, by decide, by decide, by decide, by decide, (rfl), by decide⟩

theorem wit_OverspeedStopsTheAxis_3 : ∃ (n : Nat) (c : AxisCmd) (s : State), (s.axis n).cmd = some c ∧ n < s.mot.axes.length :=
  ⟨0, .profile (tDesc 40 0xA002 []) 0, tMot { tAxis with cmd := some (.profile (tDesc 40 0xA002 []) 0) } [], by decide, by decide⟩

theorem wit_OverspeedStopsTheAxis_4 : ∃ (n : Nat) (r : Run) (m : Int) (s : State), (s.axis n).run = some r ∧ r.k + 1 ≠ 16 * r.t ∧ m = r.p (r.k + 1) - (if r.k = 0 then r.p0 else r.p r.k) ∧ absI m ≤ 256 * 65536 ∧ s.blocks n (decide (0 < m)) = false ∧ (s.axis n).latchedToward (decide (0 < m)) = false :=
  ⟨0, ⟨0, 0, 65536, 0, 1, 0⟩, 736, tMot { tAxis with run := some ⟨0, 0, 65536, 0, 1, 0⟩ } [], by decide, by decide, by decide, by decide, by decide, by decide⟩

theorem wit_EngageRefusesBadFleetChannels_1 : ∃ (c : Nat) (m : Nat) (s : State), s.dev = .setup ∧ s.capAbsent 0x0B = false ∧ c < 8 ∧ s.flag (FLT_CHAN_ENABLE c) = true ∧ m = s.get (RAD_RX_CFG_MODE (s.get (FLT_CHAN_PORT c)) (s.get (FLT_CHAN_RXCH c))) ∧ m ≠ 0x40 ∧ m ≠ 0x41 ∧ m ≠ 0x42 :=
  ⟨0, 0, tSetup [(FLT_CHAN 0, 1)] [], by decide, by decide, by decide, by decide, by decide, by decide⟩

theorem wit_EngageRefusesBadFleetChannels_2 : ∃ (c : Nat) (s : State), s.dev = .setup ∧ s.capAbsent 0x0B = false ∧ c < 8 ∧ s.flag (FLT_CHAN_ENABLE c) = true ∧ s.get (RAD_TX_CFG_MODE (s.get (FLT_CHAN_PORT c)) (s.get (FLT_CHAN_TXCH c))) ≠ s.get (RAD_RX_CFG_MODE (s.get (FLT_CHAN_PORT c)) (s.get (FLT_CHAN_RXCH c))) :=
  ⟨0, tSetup [(FLT_CHAN 0, 1), (RAD_RX_CFG 0 0, 0x4001)] [], by decide, by decide, by decide, by decide, by decide⟩

theorem wit_EngageRefusesBadFleetChannels_3 : ∃ (c : Nat) (e : Nat) (s : State), s.dev = .setup ∧ s.capAbsent 0x0B = false ∧ c < 8 ∧ s.flag (FLT_CHAN_ENABLE c) = true ∧ e < 8 ∧ e ≠ c ∧ s.flag (FLT_CHAN_ENABLE e) = true ∧ s.get (FLT_CHAN_PORT e) = s.get (FLT_CHAN_PORT c) ∧ (s.get (FLT_CHAN_RXCH e) = s.get (FLT_CHAN_RXCH c) ∨ s.get (FLT_CHAN_TXCH e) = s.get (FLT_CHAN_TXCH c)) :=
  ⟨0, 1, tSetup [(FLT_CHAN 0, 1), (FLT_CHAN 1, 1)] [], by decide, by decide, by decide, by decide, by decide, by decide, by decide, by decide, by decide⟩

theorem wit_EngageRefusesBadFleetChannels_4 : ∃ (c : Nat) (s : State), s.dev = .setup ∧ s.capAbsent 0x0B = false ∧ c < 8 ∧ s.flag (FLT_CHAN_ENABLE c) = true ∧ 4 < s.get (RAD_RAMP_CFG_RAMP_US (s.get (FLT_CHAN_PORT c))) :=
  ⟨0, tSetup [(FLT_CHAN 0, 1), (RAD_RAMP_CFG 0, 0xFF)] [], by decide, by decide, by decide, by decide, by decide⟩

end Sys2Proof.Tests
end

/-! PROOFS. The scope family: a step runs the front command, every command answers, the queue and the part stay, and BAR0 accesses
follow their codes. -/

namespace Sys2Proof.Machine

open Sys2Proof

/-! ### The step and its answers -/

/-- The front command runs on the rest of the queue. -/
theorem step_cons (c : Instr) (rest : List Instr) (s : State) :
    step { s with pending := c :: rest } = exec c { s with pending := rest } := rfl

/-- The block idles on an empty queue (log entry 1). -/
theorem step_nil {s : State} (h : s.pending = []) : step s = .next s := by
  unfold step
  rw [h]

/-- Settles O1: the two cases of `step` on the queue. -/
theorem stepRunsTheFrontCommand : Obligations.StepRunsTheFrontCommand :=
  ⟨step_cons, fun _ => step_nil⟩

/-- The meaning of every row is a `next` at its head: what the spec turns away is decided inside it (log entry 3). -/
theorem exec_eq_next_after (c : Instr) (s : State) : exec c s = .next (after (exec c s) s) := by
  cases c <;> rfl

/-- Settles O2: `after` names the state that each command answers. -/
theorem everyCommandIsAnswered : Obligations.EveryCommandIsAnswered :=
  fun c s => ⟨after (exec c s) s, exec_eq_next_after c s⟩

/-! ### The queue and the part -/

theorem Supplied.queue_part {s t : State} (h : Supplied s t) : t.pending = s.pending ∧ t.part = s.part := ⟨h.pending, h.part⟩

theorem Kept.queue_part {s t : State} (h : Kept s t) : t.pending = s.pending ∧ t.part = s.part := ⟨h.pending, h.part⟩

/-- The nine rows of `moves` keep the queue and the part too: six are supply or reset rows, three change fuses or flash alone. -/
theorem exec_queue_part_of_moves {c : Instr} (s : State) (h : moves c = true) :
    (after (exec c s) s).pending = s.pending ∧ (after (exec c s) s).part = s.part := by
  unfold moves at h
  split at h
  case h_1 => exact (execPowerUp_supplied _ s).queue_part
  case h_2 => exact (execResetNLow_supplied s).queue_part
  case h_3 => exact (execResetRelease_supplied _ _ _ _ s).queue_part
  case h_4 => exact (execMainSupplyLoss_supplied s).queue_part
  case h_5 => exact (execVbatLoss_supplied s).queue_part
  case h_6 => exact (execWake_supplied _ s).queue_part
  case h_7 => exact (execSysFlash_kept _ _ s).queue_part
  case h_8 => exact (execSysFuse_kept _ _ s).queue_part
  case h_9 => exact (execJobCommit_kept _ _ _ s).queue_part
  case h_10 => exact absurd h Bool.false_ne_true

/-- Settles O8: outside the nine rows of `moves` the whole fixed part stays; within them the queue and the part do. -/
theorem queueAndPartStay : Obligations.QueueAndPartStay := by
  intro c s t h
  rw [← after_of_next (s := s) h]
  cases hm : moves c with
  | true =>
    obtain ⟨hq, hp⟩ := exec_queue_part_of_moves s hm
    exact ⟨hq, hp, fun hf => absurd hf (by decide)⟩
  | false =>
    have hfix := exec_fixed c s hm
    simp only [State.fixed, Fixed.mk.injEq] at hfix
    obtain ⟨hpending, hpart, -, hpins, hstraps, -⟩ := hfix
    exact ⟨hpending, hpart, fun _ => ⟨hpins, hstraps⟩⟩

/-! ### Host writes by access code (R9, R54, R55) -/

/-- A write that is none of SYSTEM's own requests is one on the bus. -/
theorem exec_registerWrite_bus {s : State} {a : Nat} (v : Word) (ns : Nat) (hl : s.mainLive = true) (hc : a ≠ SYS_CTRL)
    (hr : a ≠ SYS_RESET_CMD) : exec (.registerWrite a v ns) s = .next (s.busWrite a v ns) := by
  change Host.Outcome.next (s.hostWrite a v ns) = _
  unfold State.hostWrite
  simp only [hl, Bool.not_true, Bool.false_eq_true, if_false, if_neg hc, if_neg hr]

section
variable {s : State} {a : Nat} {r : RegRow} {k : Nat}

/-- A write to a read-only register changes nothing (R9). -/
theorem State.busWrite_ro (v : Word) (ns : Nat) (h4 : a % 4 = 0) (hi : 0x10000 ≤ a) (hb : s.barListed a = true)
    (hp : s.capAbsent (a / 0x10000) = false) (hf : findRow a (regRows (a / 0x10000)) = some (r, k)) (hr : r.acc = .ro) :
    s.busWrite a v ns = s := by
  simp [State.busWrite, h4, Nat.not_lt.mpr hi, hb, hp, hf, hr]

/-- A write to an RWL register that no ring set-up rule governs: counted and recorded while locked, open elsewhere (R55). -/
theorem State.busWrite_rwl (v : Word) (ns : Nat) (h4 : a % 4 = 0) (hi : 0x10000 ≤ a) (hb : s.barListed a = true)
    (hp : s.capAbsent (a / 0x10000) = false) (hf : findRow a (regRows (a / 0x10000)) = some (r, k)) (hr : r.acc = .rwl)
    (hn : s.writeRingReg a v = none) :
    s.busWrite a v ns = if s.rwlLocked (a / 0x10000) then s.lockedWrite a v else s.writeOpen r a v ns := by
  simp [State.busWrite, h4, Nat.not_lt.mpr hi, hb, hp, hf, hr, hn]
end

/-- The RWL registers of a block other than RINGS are locked exactly on an engaged device (R55). -/
theorem State.rwlLocked_eq_engaged (s : State) {cap : Nat} (h : cap ≠ 4) : s.rwlLocked cap = s.engaged := by
  simp [State.rwlLocked, h]

/-- The row of STK_SITE_EPOCH_LO: RWL, one field over the whole DWORD. -/
def siteEpochRow : RegRow := ⟨STK_SITE_EPOCH_LO, 0x1000, 1, 0x1, 1, .rwl, 0, 0, [⟨0, 32, 0, 4294967295⟩]⟩

theorem findRow_siteEpoch : findRow STK_SITE_EPOCH_LO (regRows 3) = some (siteEpochRow, 0) := by decide

/-- A field over the whole DWORD takes the written value. -/
theorem applyFields_whole (old v : Word) : applyFields [⟨0, 32, 0, 4294967295⟩] old v = v := by
  apply BitVec.eq_of_toNat_eq
  have hv : v.toNat < 2 ^ 32 := v.isLt
  have hold : old.toNat < 2 ^ 32 := old.isLt
  have hc : clampN 0 4294967295 (bitsOf v 0 32) = v.toNat := by
    rw [bitsOf_eq, clampN, if_neg (Nat.not_lt_zero _), if_neg (by omega)]
    omega
  simp only [applyFields, List.foldl_cons, List.foldl_nil, toNat_withBits old (lo := 0) (n := 32) (by decide), hc]
  omega

/-- An open write of STK_SITE_EPOCH_LO stores the value and brings nothing with it. -/
theorem State.writeOpen_siteEpoch (s : State) (v : Word) (ns : Nat) :
    s.writeOpen siteEpochRow STK_SITE_EPOCH_LO v ns = s.wr STK_SITE_EPOCH_LO v := by
  change (s.wr STK_SITE_EPOCH_LO (applyFields [⟨0, 32, 0, 4294967295⟩] (s.rd STK_SITE_EPOCH_LO) v)).regChanged STK_SITE_EPOCH_LO = _
  rw [applyFields_whole]
  rfl

/-- A write to STK_SITE_EPOCH_LO: counted and recorded on an engaged device, stored elsewhere (R55). -/
theorem exec_registerWrite_siteEpoch {s : State} (v : Word) (ns : Nat) (hl : s.mainLive = true)
    (hb : s.barListed STK_SITE_EPOCH_LO = true) (hp : s.capAbsent 3 = false) :
    exec (.registerWrite STK_SITE_EPOCH_LO v ns) s =
      .next (if s.engaged then s.lockedWrite STK_SITE_EPOCH_LO v else s.wr STK_SITE_EPOCH_LO v) := by
  rw [exec_registerWrite_bus v ns hl (by decide) (by decide),
    State.busWrite_rwl v ns (by decide) (by decide) hb hp findRow_siteEpoch rfl rfl,
    State.rwlLocked_eq_engaged s (by decide), State.writeOpen_siteEpoch]

/-- A write to STK_PHASE_NS, a read-only register, changes nothing. -/
theorem exec_registerWrite_phaseNs {s : State} (v : Word) (ns : Nat) (hl : s.mainLive = true)
    (hb : s.barListed STK_PHASE_NS = true) (hp : s.capAbsent 3 = false) :
    exec (.registerWrite STK_PHASE_NS v ns) s = .next s := by
  have hf : findRow STK_PHASE_NS (regRows (STK_PHASE_NS / 0x10000)) =
      some (⟨STK_PHASE_NS, 0x1000, 1, 0x1, 1, .ro, 0, 0, []⟩, 0) := by decide
  rw [exec_registerWrite_bus v ns hl (by decide) (by decide), State.busWrite_ro v ns (by decide) (by decide) hb hp hf rfl]

/-! ### Host reads with an effect (R9, R47, R50, R475) -/

/-- A read whose memory behind it fails is answered Completer Abort (R50, R475). -/
theorem exec_rcRegisterRead_abort {s u : State} {a : Nat} {b : Option MemRead} (hl : s.mainLive = true) (h4 : a % 4 = 0)
    (hb : s.barListed a = true) (hu : s.readBehind b = (u, true)) :
    exec (.rcRegisterRead a b) s = .next { u with reply := .abort } := by
  change execRcRegisterRead a b s = _
  simp [execRcRegisterRead, hl, h4, hb, hu]

/-- A read of an RC register answers it, then clears it or reloads its least value (R9). -/
theorem exec_rcRegisterRead_rc {s u : State} {a : Nat} {b : Option MemRead} {r : RegRow} {k : Nat} (hl : s.mainLive = true)
    (h4 : a % 4 = 0) (hb : s.barListed a = true) (hu : s.readBehind b = (u, false))
    (hf : findRow a (regRows (a / 0x10000)) = some (r, k)) (hr : r.acc = .rc) (hp : u.capAbsent (a / 0x10000) = false) :
    exec (.rcRegisterRead a b) s = .next (({ u with reply := .data (u.regRead a) } : State).setNum a ((u.leastNow a).getD 0)) := by
  change execRcRegisterRead a b s = _
  simp [execRcRegisterRead, hl, h4, hb, hu, hf, hr, hp]

/-- A write of a register leaves the reads of all others. -/
theorem State.rd_setNum_ne (s : State) {a b : Nat} (v : Nat) (h : b ≠ a) : (s.setNum a v).rd b = s.rd b := by
  rw [State.rd_setNum, if_neg h.symm]

/-- The state after a read of STK_SN_LO: SN latched in STK_SN_LO and STK_SN_HI, the phase in STK_PHASE_NS (R47). -/
def State.snLatched (s : State) (ns : Nat) : State := (s.setNum64 STK_SN_LO STK_SN_HI s.sn).put STK_PHASE_NS_NS ns

theorem exec_snReadLatch_present {s : State} (ns : Nat) (hl : s.mainLive = true) (hp : s.capAbsent 3 = false) :
    exec (.snReadLatch ns) s = .next { s.snLatched ns with reply := .data ((s.snLatched ns).rd STK_SN_LO) } := by
  change execSnReadLatch ns s = _
  simp [execSnReadLatch, hl, hp, State.snLatched]

theorem exec_snReadLatch_absent {s : State} (ns : Nat) (hl : s.mainLive = true) (hp : s.capAbsent 3 = true) :
    exec (.snReadLatch ns) s = .next { s with reply := .data 0 } := by
  change execSnReadLatch ns s = _
  simp [execSnReadLatch, hl, hp]

theorem State.rd_snLatched_lo (s : State) (ns : Nat) : (s.snLatched ns).rd STK_SN_LO = BitVec.ofNat 32 s.sn := by
  unfold State.snLatched State.put State.setNum64
  rw [State.rd_wr_ne _ _ (by decide), State.rd_setNum_ne _ _ (by decide), State.rd_setNum, if_pos rfl]
  simp [lo32, ← BitVec.toNat_inj]

theorem State.num_snLatched_hi (s : State) (ns : Nat) : (s.snLatched ns).num STK_SN_HI = s.sn / 2 ^ 32 % 2 ^ 32 := by
  have h : (s.snLatched ns).num STK_SN_HI = (s.setNum64 STK_SN_LO STK_SN_HI s.sn).num STK_SN_HI :=
    congrArg BitVec.toNat (State.rd_wr_ne _ _ (by decide))
  rw [h, State.setNum64, State.num_setNum, hi32, Nat.mod_mod]

theorem State.get_snLatched_phase (s : State) (ns : Nat) : (s.snLatched ns).get STK_PHASE_NS_NS = ns % 2 ^ 18 :=
  State.get_put _ _ _ (by decide)

/-- A request that is not one aligned whole DWORD in a listed block is unsupported and counted (R50). -/
theorem exec_bar0BadRequest_bad {s : State} {a n : Nat} {w : Bool} (hl : s.mainLive = true)
    (h : (a % 4 == 0 && n == 1 && w && s.barListed a) = false) :
    exec (.bar0BadRequest a n w) s = .next (({ s with reply := .unsupported } : State).count RNG_BAR_ERR 1) := by
  change execBar0BadRequest a n w s = _
  unfold execBar0BadRequest
  rw [hl, h]
  rfl

/-- Settles O18: each clause by the lemma about its access. -/
theorem registerAccessesFollowTheirCodes : Obligations.RegisterAccessesFollowTheirCodes := by
  refine ⟨?openWrite, ?lockedWrite, fun v ns s => exec_registerWrite_phaseNs v ns, ?rcRead,
    fun a b s u => exec_rcRegisterRead_abort, ?latch, fun ns s => exec_snReadLatch_absent ns, ?bad⟩
  case openWrite =>
    intro v ns s hl hb hp he
    rw [exec_registerWrite_siteEpoch v ns hl hb hp, he]
    rfl
  case lockedWrite =>
    intro v ns s hl hb hp he
    rw [exec_registerWrite_siteEpoch v ns hl hb hp, he]
    rfl
  case rcRead =>
    intro a b r k s u hl h4 hb hu hf hr hp
    exact ⟨_, exec_rcRegisterRead_rc hl h4 hb hu hf hr hp, rfl, State.num_setNum _ _ _, fun c hc => State.rd_setNum_ne _ _ hc⟩
  case latch =>
    intro ns s hl hp
    exact ⟨_, exec_snReadLatch_present ns hl hp, congrArg Reply.data (State.rd_snLatched_lo s ns), State.num_snLatched_hi s ns,
      State.get_snLatched_phase s ns⟩
  case bad =>
    intro a n w s hl h
    exact ⟨_, exec_bar0BadRequest_bad hl h, rfl, State.num_setNum _ _ _, fun b hb => State.rd_setNum_ne _ _ hb⟩

end Sys2Proof.Machine

/-! PROOFS. The architecture family: jobs commit in key order or end late, the scrubber acts on what it finds, and the mesh commands
change the registers of clusters and nodes. -/

namespace Sys2Proof.Machine

open Sys2Proof

/-! ### A job leaves its executor (R34, R39, R475) -/

/-- A ring job that the dispatcher runs, or has computed, on a served device. -/
structure OnExecutor (s : State) (id : Nat) (j : Job) (d : Desc) : Prop where
  serving : s.serving = true
  job : s.job? id = some j
  desc : j.desc = some d
  phase : j.phase = .running ∨ j.phase = .computed

/-- The phase test of JOB_COMMIT lets such a job through. -/
theorem OnExecutor.phase_open {s : State} {id : Nat} {j : Job} {d : Desc} (h : OnExecutor s id j d) :
    (j.phase != .running && j.phase != .computed) = false := by
  rcases h.phase with hp | hp <;> rw [hp] <;> rfl

section
variable {s : State} {id : Nat} {j : Job} {d : Desc} (h : OnExecutor s id j d) (ns : Nat)
include h

/-- Its work is done and no lower key stands: its command runs, and the jobs computed behind it follow. -/
theorem exec_jobCommit_finished (hk : s.keyHeld j = false) :
    exec (.jobCommit id ns .finished) s = .next
      ((((if (after (runDesc d s) s).left id then (after (runDesc d s) s).notePeak j.cls ns else after (runDesc d s) s).startJobs
        j.cls (executors j.cls)).commitRing j.cls 64).pressure).showDisp := by
  change execJobCommit id ns .finished s = _
  simp [execJobCommit, h.serving, h.job, h.desc, h.phase_open, hk]

/-- A lower key stands: it waits as computed. -/
theorem exec_jobCommit_keyHeld (hk : s.keyHeld j = true) :
    exec (.jobCommit id ns .finished) s = .next (s.modJob id fun j => { j with phase := .computed }) := by
  change execJobCommit id ns .finished s = _
  simp [execJobCommit, h.serving, h.job, h.desc, h.phase_open, hk]

/-- A step of deadline work has ended: the job is back on its ready list. -/
theorem exec_jobCommit_step (hr : j.phase = .running) (hl : j.lead.isNone = false) :
    exec (.jobCommit id ns .step) s =
      .next ((s.modJob id fun j => { j with phase := .ready }).startJobs j.cls (executors j.cls)) := by
  change execJobCommit id ns .step s = _
  simp [execJobCommit, h.serving, h.job, h.desc, hr, hl]

/-- The job has read a memory: it ends where the read fails. -/
theorem exec_jobCommit_read (r : MemRead) :
    exec (.jobCommit id ns (.read r)) s = .next
      (if (s.requesterRead r).2 then (((s.requesterRead r).1.memStrike j).commitRing j.cls 64).showDisp else (s.requesterRead r).1) := by
  change execJobCommit id ns (.read r) s = _
  simp [execJobCommit, h.serving, h.job, h.desc, h.phase_open]

end

/-- A job without a descriptor commits with the row of its block, a PROCESS frame here. -/
theorem exec_jobCommit_internal {s : State} {id : Nat} {j : Job} (ns : Nat) (hs : s.serving = true) (hj : s.job? id = some j)
    (hd : j.desc = none) : exec (.jobCommit id ns .finished) s = .next (s.commitProc j) := by
  change execJobCommit id ns .finished s = _
  simp [execJobCommit, hs, hj, hd]

/-! ### Late work (R41, R42, R397) -/

/-- Stroke-bound work past its close point ends in overrun. -/
theorem exec_strokeOverrun_late {s : State} {id : Nat} {j : Job} (ht : s.stroked = true) (hs : s.serving = true)
    (hj : s.job? id = some j) (hp : s.pastClose j = true) :
    exec (.strokeOverrun id) s = .next ((s.noteOverrun j.cls j.prio j.seq j.tag).endOver j).showDisp := by
  change execStrokeOverrun id s = _
  simp [execStrokeOverrun, ht, hs, hj, hp]

/-- The descriptor is a KEY_ATTEST whose request to the Wellhouse is open. -/
def State.awaitsStatement (s : State) (d : Desc) : Bool := s.wlg.reqs.any fun r => r.2.1 == d && d.opcode == 0xE007

/-- Deadline work past its deadline is abandoned, unless it awaits the Wellhouse's statement. -/
theorem exec_deadlineMiss_abandoned {s : State} {id : Nat} {j : Job} (hs : s.serving = true) (hj : s.job? id = some j)
    (hp : s.pastDeadline j = true) (hw : ∀ d, j.desc = some d → s.awaitsStatement d = false) :
    exec (.deadlineMiss (.job id)) s = .next (((s.noteMiss j.cls j.deadline j.tag).noteAbandoned j).endOver j).showDisp := by
  change execDeadlineMiss (.job id) s = _
  unfold execDeadlineMiss
  cases hd : j.desc with
  | none => simp [hs, hj, hp, hd, Job.tag]
  | some d =>
    have hw := hw d hd
    unfold State.awaitsStatement at hw
    simp only [hs, hj, hp, hd, hw]
    rfl

/-- An attestation past its deadline ends without the Wellhouse's statement (R397). -/
theorem exec_deadlineMiss_statement {s : State} {id : Nat} {j : Job} {d : Desc} (hs : s.serving = true) (hj : s.job? id = some j)
    (hp : s.pastDeadline j = true) (hd : j.desc = some d) (hw : s.awaitsStatement d = true) :
    exec (.deadlineMiss (.job id)) s = .next ((s.dropStatement d).finish d ((s.dropStatement d).attest d none)) := by
  change execDeadlineMiss (.job id) s = _
  unfold execDeadlineMiss
  unfold State.awaitsStatement at hw
  simp only [hs, hj, hp, hd, hw]
  rfl

/-- A robot's solution past its deadline is abandoned (R198). -/
theorem exec_deadlineMiss_solve {s : State} {q : Nat} {r : Rover} {w : Solve} (hs : s.serving = true) (ht : s.stroked = true)
    (hc : s.disp.closed = true) (hf : (s.missedSolves.find? fun x => x.1 == q) = some (q, r, w)) :
    exec (.deadlineMiss (.solve q)) s = .next (((s.noteMiss 1 w.deadline 0).logMissed q w).abandonSolve q r w) := by
  change execDeadlineMiss (.solve q) s = _
  simp [execDeadlineMiss, hs, ht, hc, hf]

/-! ### The watchdog of a core (R20, R491) -/

theorem State.dev_ne_halt_of_serving {s : State} (h : s.serving = true) : s.dev ≠ .halt := by
  intro hd
  simp [State.serving, hd] at h

@[simp] theorem State.drivePwm_dev (s : State) (was : List Nat) : (s.drivePwm was).dev = s.dev := by
  unfold State.drivePwm
  split <;> rfl

@[simp] theorem State.drivePwm_get (s : State) (was : List Nat) (f : Fld) : (s.drivePwm was).get f = s.get f := by
  unfold State.drivePwm
  split <;> rfl

/-- A fatal cause leaves the device in HALT, whatever it was in (R491). -/
@[simp] theorem State.fatalHalt_dev (s : State) (cause : Nat) : (s.fatalHalt cause).dev = .halt := by
  unfold State.fatalHalt
  split
  · assumption
  · exact State.setDev_dev _ _

/-- A device that is not halted shows the cause (R491). -/
theorem State.fatalHalt_cause {s : State} (cause : Nat) (h : s.dev ≠ .halt) :
    (s.fatalHalt cause).get SYS_STATUS_HALT_CAUSE = cause % 2 ^ SYS_STATUS_HALT_CAUSE.width := by
  unfold State.fatalHalt
  rw [if_neg h, State.setDev_get _ _ _ (by decide) (by decide), State.pwmLow, State.drivePwm_get]
  exact State.get_put s SYS_STATUS_HALT_CAUSE cause (by decide)

/-- Strokes running in which a core has not kicked its watchdog, after one more report. -/
def State.missesAfter (s : State) (c : Nat) (missed : Bool) : Nat := if missed then s.disp.wdMissed.getD c 0 + 1 else 0

/-- The count of a core noted. -/
def State.noteWatchdog (s : State) (c n : Nat) : State := s.setDisp { s.disp with wdMissed := s.disp.wdMissed.set c n }

/-- A core's watchdog is counted or cleared, and halts the device at the fourth stroke running. -/
theorem exec_coreWatchdog {s : State} {c : Nat} (missed : Bool) (ht : s.stroked = true) (hs : s.serving = true) (hc : c < 8) :
    exec (.coreWatchdog c missed) s = .next
      (if 4 ≤ s.missesAfter c missed then
        ((s.noteWatchdog c (s.missesAfter c missed)).fatalHalt 2).record EV_CORE_WATCHDOG 0 c (s.missesAfter c missed) 0
      else s.noteWatchdog c (s.missesAfter c missed)) := by
  change execCoreWatchdog c missed s = _
  simp [execCoreWatchdog, ht, hs, Nat.not_le.mpr hc, State.missesAfter, State.noteWatchdog]

/-- Settles O17: each clause by the lemma about its row. -/
theorem jobsCommitOrEndLate : Obligations.JobsCommitOrEndLate := by
  refine ⟨?finished, ?held, ?step, ?read, fun k ns j s => exec_jobCommit_internal ns, fun k j s => exec_strokeOverrun_late, ?missed,
    fun k j d s => exec_deadlineMiss_statement, fun q r w s => exec_deadlineMiss_solve, ?fourth, ?counted, ?kicked⟩
  case finished => exact fun k ns j d s hs hj hd hp hk => exec_jobCommit_finished ⟨hs, hj, hd, hp⟩ ns hk
  case held => exact fun k ns j d s hs hj hd hp hk => exec_jobCommit_keyHeld ⟨hs, hj, hd, hp⟩ ns hk
  case step => exact fun k ns j d s hs hj hd hp hl => exec_jobCommit_step ⟨hs, hj, hd, .inl hp⟩ ns hp hl
  case read => exact fun k ns r j d s hs hj hd hp => exec_jobCommit_read ⟨hs, hj, hd, hp⟩ ns r
  case missed =>
    intro k j s hs hj hp hw
    refine exec_deadlineMiss_abandoned hs hj hp fun d hd => ?_
    rw [hd] at hw
    exact hw
  case fourth =>
    intro c s ht hs hc h3
    have h4 : 4 ≤ s.missesAfter c true := Nat.succ_le_succ h3
    refine ⟨_, by rw [exec_coreWatchdog true ht hs hc, if_pos h4], ?_, ?_⟩
    · rw [State.record_dev, State.fatalHalt_dev]
    · rw [State.record_get]
      exact State.fatalHalt_cause 2 (State.dev_ne_halt_of_serving hs)
  case counted =>
    intro c s ht hs hc h3
    have h4 : ¬ 4 ≤ s.missesAfter c true := Nat.not_le.mpr (Nat.succ_lt_succ h3)
    rw [exec_coreWatchdog true ht hs hc, if_neg h4]
    rfl
  case kicked => exact fun c s ht hs hc => exec_coreWatchdog false ht hs hc

/-! ### A read of the scrubber (R472–R475) -/

/-- What the scrubber leaves of a read before the end of a pass: each correction noted, and an uncorrectable error acting where it
strikes, or the mark of the place cleared. -/
def State.scrubbed (s : State) (m a : Nat) (x : Stored) (h : ScrubHit) : State :=
  match (s.checkRead m (x.found a)).2 with
  | some k => ((s.checkRead m (x.found a)).1.noteUncorr m k 0).uncorrAt m k h
  | none => (s.checkRead m (x.found a)).1.clearBad m a

/-- The scrubber is idle before the device is live, and for a code that the memory does not have. -/
theorem exec_scrubRead_idle {m : Nat} {x : Stored} {s : State} (a : Nat) (h : ScrubHit) (l : Bool)
    (hi : s.mainLive = false ∨ x.fits m = false) : exec (.scrubRead m a x h l) s = .next s := by
  change execScrubRead m a x h l s = _
  rcases hi with hi | hi <;> simp [execScrubRead, hi]

section
variable {m : Nat} {x : Stored} {s : State} (hl : s.mainLive = true) (hx : x.fits m = true)
include hl hx

/-- A read with the memory's own code is checked, and the last one ends the pass. -/
theorem exec_scrubRead (a : Nat) (h : ScrubHit) (l : Bool) :
    exec (.scrubRead m a x h l) s = .next (if l then (s.scrubbed m a x h).endLap m else s.scrubbed m a x h) := by
  change execScrubRead m a x h l s = _
  simp only [execScrubRead, hl, hx]
  rfl

theorem exec_scrubRead_within (a : Nat) (h : ScrubHit) : exec (.scrubRead m a x h false) s = .next (s.scrubbed m a x h) :=
  exec_scrubRead hl hx a h false

end

/-! ### A location with one result -/

/-- A place found clean loses its mark. -/
theorem State.scrubbed_clean (s : State) {m a : Nat} {x : Stored} (h : ScrubHit) (hf : x.found a = [(a, .clean)]) :
    s.scrubbed m a x h = s.clearBad m a := by
  simp [State.scrubbed, State.checkRead, hf]

/-- A place found with a corrected error is noted, and loses its mark. -/
theorem State.scrubbed_corrected (s : State) {m a n : Nat} {x : Stored} (h : ScrubHit) (hf : x.found a = [(a, .corrected n)]) :
    s.scrubbed m a x h = (s.noteCorrected m a n).clearBad m a := by
  simp [State.scrubbed, State.checkRead, hf]

/-- An uncorrectable error is noted and acts where it strikes. -/
theorem State.scrubbed_uncorrectable (s : State) {m a : Nat} {x : Stored} (h : ScrubHit) (hf : x.found a = [(a, .uncorrectable)]) :
    s.scrubbed m a x h = (s.noteUncorr m a 0).uncorrAt m a h := by
  simp [State.scrubbed, State.checkRead, hf]

theorem Stored.found_byte_clean {d c : Nat} (a : Nat) (h : hammingDecode d c = .clean) :
    (Stored.byte d c).found a = [(a, .clean)] := by
  simp [Stored.found, h]

theorem Stored.found_byte_corrected {d c b n : Nat} (a : Nat) (h : hammingDecode d c = .corrected b n) :
    (Stored.byte d c).found a = [(a, .corrected n)] := by
  simp [Stored.found, h]

theorem Stored.found_byte_uncorrectable {d c : Nat} (a : Nat) (h : hammingDecode d c = .uncorrectable) :
    (Stored.byte d c).found a = [(a, .uncorrectable)] := by
  simp [Stored.found, h]

/-- The check line of a DRAM group stands for itself alone (R473). -/
theorem Stored.found_checkLine {a : Nat} (b : List Byte) (h : a % 8 = 7) :
    (Stored.block b).found a = [(a, errRes (lineErrors a b))] := by
  simp [Stored.found, h]

/-! ### Counting a corrected error (R475) -/

/-- Outside the Cistern's two memories a correction is counted and its address shown; it is recorded once in a pass. -/
theorem State.noteCorrected_eq (s : State) {m : Nat} (a n : Nat) (hm : 2 ≤ m) :
    s.noteCorrected m a n =
      if s.mem.noted.getD m false then (s.count (MEM_CORR m) 1).setNum (MEM_LAST_ADDR m) a
      else (((s.count (MEM_CORR m) 1).setNum (MEM_LAST_ADDR m) a).setMem { s.mem with noted := s.mem.noted.set m true }).record
        EV_MEM_CORRECTED 0 m a n := by
  unfold State.noteCorrected
  dsimp only
  rw [if_neg (by omega : ¬ m ≤ 1)]
  rfl

theorem State.num_clearBad (s : State) (m a r : Nat) : (s.clearBad m a).num r = s.num r := State.num_congr rfl r

theorem MEM_LAST_ADDR_ne_CORR (m : Nat) : MEM_LAST_ADDR m ≠ MEM_CORR m := by
  unfold MEM_LAST_ADDR MEM_CORR
  omega

/-! ### Where an uncorrectable error strikes (R475) -/

theorem State.uncorrAt_replicated (s : State) (m a : Nat) : s.uncorrAt m a .replicated = s.fatalHalt 3 := ite_self _

section
variable {m : Nat} (hm : m ≠ 2) (s : State) (a : Nat)
include hm

theorem State.uncorrAt_key (k : Nat) :
    s.uncorrAt m a (.key k) = (s.setKey { s.key with
      cache := s.key.cache.filter fun x => x != k, shares := s.key.shares.filter fun e => e.2.1 != k }).showCache := if_neg hm

/-- A record that it strikes stands marked as damaged. -/
theorem State.uncorrAt_record (q : Nat) : q ∈ (s.uncorrAt m a (.record q)).log.damaged := by
  simp only [State.uncorrAt, if_neg hm]
  split
  · exact List.contains_iff_mem.mp ‹_›
  · exact List.mem_append_right _ List.mem_cons_self

/-- A location without a rule of its own stands marked. -/
theorem State.uncorrAt_other : (m, a) ∈ (s.uncorrAt m a .other).mem.bad := by
  simp only [State.uncorrAt, if_neg hm]
  split
  · exact List.contains_iff_mem.mp ‹_›
  · exact List.mem_append_right _ List.mem_cons_self

end

/-! ### The key cache's entries follow its keys (R390) -/

theorem State.enterKey_cache (s : State) (x : Nat × Nat) : (s.enterKey x).key.cache = s.key.cache := by
  unfold State.enterKey
  split <;> rfl

@[simp] theorem State.showCache_cache (s : State) : s.showCache.key.cache = s.key.cache :=
  foldl_keeps (fun s => s.key.cache) State.enterKey _ _ State.enterKey_cache

/-- Settles O54: each clause by what the scrubber finds at the place. -/
theorem memoryScrub : Obligations.MemoryScrub := by
  refine ⟨fun m a x h l s => exec_scrubRead_idle a h l, ?read, ?clean, ?counted, ?recorded, ?store, ?strike, ?entry, ?checkLine⟩
  case read => exact fun m a x h l s hl hx => exec_scrubRead hl hx a h l
  case clean =>
    intro m a d c h s hl hx hd
    rw [exec_scrubRead hl hx, exec_scrubRead hl hx, State.scrubbed_clean s h (Stored.found_byte_clean a hd)]
    exact ⟨rfl, rfl⟩
  case counted =>
    intro m a d c b x h s hl hx hm hd hn
    refine ⟨_, exec_scrubRead_within hl hx a h, ?_⟩
    rw [State.scrubbed_corrected s h (Stored.found_byte_corrected a hd), State.noteCorrected_eq s a x hm, if_pos hn,
      State.num_clearBad, State.num_clearBad, State.num_setNum_ne _ _ (MEM_LAST_ADDR_ne_CORR m), State.count, State.num_setNum,
      State.num_setNum]
    exact ⟨rfl, rfl, rfl⟩
  case recorded =>
    intro m a d c b x h s hl hx hm hd hn
    rw [exec_scrubRead_within hl hx, State.scrubbed_corrected s h (Stored.found_byte_corrected a hd),
      State.noteCorrected_eq s a x hm, if_neg (by rw [hn]; exact Bool.false_ne_true)]
  case store =>
    intro a d c h s hl hx hd
    rw [exec_scrubRead_within hl hx, State.scrubbed_uncorrectable s h (Stored.found_byte_uncorrectable a hd)]
    rfl
  case strike =>
    intro m a d c s hl hx2 hx hd
    have hread (h : ScrubHit) : exec (.scrubRead m a (.byte d c) h false) s = .next ((s.noteUncorr m a 0).uncorrAt m a h) := by
      rw [exec_scrubRead_within hl hx, State.scrubbed_uncorrectable s h (Stored.found_byte_uncorrectable a hd)]
    refine ⟨?_, fun k => ⟨_, hread _, ?_⟩, fun q => ⟨_, hread _, State.uncorrAt_record hx2 _ a q⟩, _, hread _,
      State.uncorrAt_other hx2 _ a⟩
    · rw [hread, State.uncorrAt_replicated]
    · rw [State.uncorrAt_key hx2, State.showCache_cache]
      rfl
  case entry =>
    intro a b i s hl
    rw [exec_scrubRead_within hl rfl, exec_scrubRead_within hl rfl, State.scrubbed_uncorrectable s _ rfl,
      State.scrubbed_clean s _ rfl]
    exact ⟨rfl, rfl⟩
  case checkLine =>
    intro m a b h s hl hx ha
    have hf := Stored.found_checkLine b ha
    rw [exec_scrubRead_within hl hx]
    cases he : lineErrors a b with
    | none => exact congrArg _ (s.scrubbed_uncorrectable h (hf.trans (by rw [he]; rfl)))
    | some l =>
      cases l with
      | nil => exact congrArg _ (s.scrubbed_clean h (hf.trans (by rw [he]; rfl)))
      | cons i r => exact congrArg _ (s.scrubbed_corrected h (hf.trans (by rw [he]; rfl)))

/-! ### A row that is a ring command -/

/-- A descriptor that runs ends as its body answers. -/
theorem Runs.next_command {s : State} {d : Desc} (h : Runs s d) {body : State → CmdRes} {r : CmdRes} (hb : body s = r) :
    (.next (s.command d body) : Host.Outcome State Fault Refusal) = .next (s.finish d r) := by
  rw [State.command_runs h, hb]

/-! ### Tables of nodes and clusters -/

theorem tget_tmod {V : Type} {t : Tab V} {k : Nat} {v : V} (f : V → V) (h : tget t k = some v) : tget (tmod t k f) k = some (f v) := by
  unfold tmod
  rw [h]
  exact (tget_tput k k (f v)).trans (if_pos rfl)

theorem State.node?_congr {s t : State} (h : t.msh.nodes = s.msh.nodes) (i : Nat) : t.node? i = s.node? i := congrArg (tget · i) h

theorem State.node?_setNode (s : State) (i : Nat) (n : Node) : (s.setNode i n).node? i = some n :=
  (tget_tput i i n).trans (if_pos rfl)

theorem State.node?_modNode {s : State} {i : Nat} {n : Node} (f : Node → Node) (h : s.node? i = some n) :
    (s.modNode i f).node? i = some (f n) := tget_tmod f h

/-- The entry of an enabled cluster stands in the table. -/
theorem State.tget_of_cluster? {s : State} {i : Nat} {k : Cluster} (h : s.cluster? i = some k) : tget s.msh.clusters i = some k := by
  unfold State.cluster? at h
  split at h
  case h_1 x hx =>
    split at h
    · rw [hx, h]
    · exact absurd h (Option.some_ne_none k).symm
  case h_2 => exact absurd h (Option.some_ne_none k).symm

theorem State.tget_modCluster {s : State} {i : Nat} {k : Cluster} (f : Cluster → Cluster) (h : tget s.msh.clusters i = some k) :
    tget (s.modCluster i f).msh.clusters i = some (f k) := tget_tmod f h

/-! ### What sending and showing leave of the mesh's registers -/

@[simp] theorem State.showMesh_msh (s : State) : s.showMesh.msh = s.msh := by
  simp only [State.showMesh, State.put_msh]

theorem State.enterKey_msh (s : State) (x : Nat × Nat) : (s.enterKey x).msh = s.msh := by
  unfold State.enterKey
  split <;> rfl

@[simp] theorem State.showCache_msh (s : State) : s.showCache.msh = s.msh :=
  foldl_keeps (fun s => s.msh) State.enterKey _ _ State.enterKey_msh

/-- The node and cluster registers: a frame queued for a node leaves them alone. -/
def State.meshTables (s : State) : Tab Node × Tab Cluster := (s.msh.nodes, s.msh.clusters)

theorem State.nodes_of_tables {s t : State} (h : t.meshTables = s.meshTables) : t.msh.nodes = s.msh.nodes := congrArg Prod.fst h

theorem State.clusters_of_tables {s t : State} (h : t.meshTables = s.meshTables) : t.msh.clusters = s.msh.clusters :=
  congrArg Prod.snd h

theorem State.meshSend_tables (s : State) (i : Nat) (b : MeshBody) : (s.meshSend i b).meshTables = s.meshTables := by
  unfold State.meshSend
  dsimp only
  rw [apply_ite State.meshTables]
  exact ite_self _

theorem State.sendNodeRekey_tables (s : State) (i : Nat) : (s.sendNodeRekey i).meshTables = s.meshTables := by
  unfold State.sendNodeRekey
  split
  · rfl
  · split
    · rfl
    · exact State.meshSend_tables _ _ _

theorem State.sendClusterRekey_tables (s : State) (i : Nat) : (s.sendClusterRekey i).meshTables = s.meshTables := by
  unfold State.sendClusterRekey
  split
  · rfl
  · split
    · rfl
    · split
      · rfl
      · exact State.meshSend_tables _ _ _

/-! ### MSH_CLUSTER_SET (R24, R286) -/

/-- The cluster is above 239, and the device has no secondary site other than its own (R24). -/
def State.siteRefuses (s : State) (c : Nat) : Bool :=
  decide (240 ≤ c) && !(s.flag FWD_SITE_SITE2_EN && s.get FWD_SITE_SITE2 != s.get FWD_SITE_SITE)

/-- Another enabled cluster with the sequence and PAN ID of the descriptor (R286). -/
def State.panClash (s : State) (d : Desc) : Option (Nat × Cluster) :=
  s.msh.clusters.find? fun x => x.1 != d.op 32 1 && x.2.enabled && x.2.seq == d.op 34 1 && x.2.pan == d.op 36 2

/-- The entry of the cluster once it is set: an open one takes sequence and PAN ID, another opens with its first key. -/
def State.clusterSet (s : State) (d : Desc) : Cluster :=
  match tget s.msh.clusters (d.op 32 1) with
  | some k =>
    if k.enabled then { k with seq := d.op 34 1, pan := d.op 36 2 }
    else { k with enabled := true, seq := d.op 34 1, pan := d.op 36 2, keyGen := d.op 38 1, keySlot := s.newestSlot, keyNext := none,
                  renewed := none, doublings := 0, dioFrom := s.sn }
  | none => { enabled := true, seq := d.op 34 1, pan := d.op 36 2, keyGen := d.op 38 1, keySlot := s.newestSlot, dioFrom := s.sn }

section
variable {d : Desc} {s : State} (h : Runs s d)
include h

theorem exec_mshClusterSet_off (hb : bit (d.op 33 1) 0 = false) :
    exec (.mshClusterSet d) s =
      .next (s.finish d (s.modCluster (d.op 32 1) fun k => { k with enabled := false }).showMesh.showCache.ok) :=
  h.next_command (by simp [hb])

theorem exec_mshClusterSet_refused (hb : bit (d.op 33 1) 0 = true) (hr : s.siteRefuses (d.op 32 1) = true) :
    exec (.mshClusterSet d) s = .next (s.finish d (s.fail stREFUSED)) := by
  unfold State.siteRefuses at hr
  refine h.next_command ?_
  simp only [hb, hr]
  rfl

theorem exec_mshClusterSet_conflict {x : Nat × Cluster} (hb : bit (d.op 33 1) 0 = true) (hr : s.siteRefuses (d.op 32 1) = false)
    (hx : s.panClash d = some x) : exec (.mshClusterSet d) s = .next (s.finish d (s.fail stCONFLICT x.1)) := by
  unfold State.siteRefuses at hr
  unfold State.panClash at hx
  refine h.next_command ?_
  simp only [hb, hr, hx]
  rfl

theorem exec_mshClusterSet_on (hb : bit (d.op 33 1) 0 = true) (hr : s.siteRefuses (d.op 32 1) = false) (hx : s.panClash d = none) :
    exec (.mshClusterSet d) s = .next (s.finish d
      ((s.setMsh { s.msh with clusters := tput s.msh.clusters (d.op 32 1) (s.clusterSet d) }).usedS
        (branchEntry 6 (s.clusterSet d).keySlot)).showMesh.showCache.ok) := by
  unfold State.siteRefuses at hr
  unfold State.panClash at hx
  refine h.next_command ?_
  simp only [hb, hr, hx]
  rfl

end

/-! ### MSH_NODE_ADD -/

/-- The index that a record asks for: its own, or the lowest free one. -/
def State.wantedIndex (s : State) (b : List Byte) : Nat :=
  if leAt b 12 4 = 0xFFFFFFFF then freeIndex 262144 0 s.msh.nodes else leAt b 12 4

/-- The node that a record commissions. -/
def State.commissioned (s : State) (b : List Byte) : Node :=
  { eui := leAt b 0 8, legacy := bit (leAt b 9 1) 0, sleepy := bit (leAt b 9 1) 1, cluster := leAt b 8 1, upCells := leAt b 10 1,
    keyGen := leAt b 11 1, keySlot := s.newestSlot }

/-- A record whose EUI is known is a conflict with its index. -/
theorem State.addNode_known {s : State} {b : List Byte} {i : Nat} (hc : (s.cluster? (leAt b 8 1)).isSome = true)
    (he : s.nodeOfEui (leAt b 0 8) = some i) : s.addNode b = .error (stCONFLICT, i) := by
  simp [State.addNode, Option.isNone_eq_false_iff.mpr hc, he]

/-- A valid record commissions its node. -/
theorem State.addNode_ok {s : State} {b : List Byte} {i : Nat} (hc : (s.cluster? (leAt b 8 1)).isSome = true)
    (he : s.nodeOfEui (leAt b 0 8) = none) (hw : s.wantedIndex b = i) (hi : i < 262144) (hn : s.node? i = none)
    (hk : (s.msh.nodes.filter fun x => x.2.cluster == leAt b 8 1).length < 16384) :
    s.addNode b = .ok (s.setNode i (s.commissioned b), i) := by
  unfold State.wantedIndex at hw
  simp [State.addNode, Option.isNone_eq_false_iff.mpr hc, he, hw, hn, Nat.not_le.mpr hi, Nat.not_le.mpr hk, State.commissioned]

/-- How MSH_NODE_ADD ends after its records. -/
def State.nodesAdded (r : State × List Nat × Option (Nat × Nat)) : CmdRes :=
  match r.2.2 with
  | none => { st := r.1.showMesh, result := r.2.1.length, bytes := r.2.1.flatMap (leBytes 4) }
  | some (st, n) => r.1.showMesh.fail st (if st = stCONFLICT then n else r.2.1.length)

theorem exec_mshNodeAdd {d : Desc} {s : State} (h : Runs s d) :
    exec (.mshNodeAdd d) s = .next (s.finish d (State.nodesAdded (s.addNodes d.buf (d.bufLen / 16) 0))) :=
  h.next_command rfl

/-- A single record that fails ends the command so. -/
theorem State.addNodes_one_error {s : State} {b : List Byte} {e : Nat × Nat} (hb : slice b 0 16 = b) (he : s.addNode b = .error e) :
    s.addNodes b 1 0 = (s, [], some e) := by
  simp [State.addNodes, hb, he]

/-- A single valid record answers its index. -/
theorem State.addNodes_one_ok {s t : State} {b : List Byte} {i : Nat} (hb : slice b 0 16 = b) (hi : s.addNode b = .ok (t, i)) :
    s.addNodes b 1 0 = (t, [i], none) := by
  simp [State.addNodes, hb, hi]

/-! ### MSH_NODE_REMOVE, MSH_NODE_READ, MSH_NBR_READ, MSH_ACTUATE -/

/-- The state in which the node's departure is known, before its entries go. -/
def State.departed (s : State) (i : Nat) : State :=
  match s.node? i with
  | some n => if n.joined then s.departNode i 3 else s.departOne i 3
  | none => s

theorem State.removeNode_nodes (s : State) (i : Nat) : (s.removeNode i).msh.nodes = tdel (s.departed i).msh.nodes i := (rfl)

theorem State.removeNode_queue (s : State) (i : Nat) :
    (s.removeNode i).msh.queue = (s.departed i).msh.queue.filter fun q => q.dst != i && q.hop != i := (rfl)

theorem State.removeNode_nbrs (s : State) (i : Nat) :
    (s.removeNode i).msh.nbrs = (s.departed i).msh.nbrs.filter fun x => x.2.node != i := (rfl)

theorem State.tget_removeNode (s : State) (i : Nat) : tget (s.removeNode i).msh.nodes i = none := by
  rw [State.removeNode_nodes]
  exact (tget_tdel i i).trans (if_pos rfl)

theorem State.dst_ne_of_mem_removeNode {s : State} {i : Nat} {q : MeshQ} (h : q ∈ (s.removeNode i).msh.queue) : q.dst ≠ i := by
  rw [State.removeNode_queue] at h
  have hq := (List.mem_filter.mp h).2
  rw [Bool.and_eq_true, bne_iff_ne] at hq
  exact hq.1

theorem State.node_ne_of_mem_removeNode {s : State} {i : Nat} {x : Nat × Nbr} (h : x ∈ (s.removeNode i).msh.nbrs) :
    x.2.node ≠ i := by
  rw [State.removeNode_nbrs] at h
  exact bne_iff_ne.mp (List.mem_filter.mp h).2

section
variable {d : Desc} {s : State} (h : Runs s d)
include h

theorem exec_mshNodeRemove_known (hn : (s.node? (d.op 32 4)).isSome = true) :
    exec (.mshNodeRemove d) s = .next (s.finish d (s.removeNode (d.op 32 4)).ok) := by
  obtain ⟨n, hn⟩ := Option.isSome_iff_exists.mp hn
  exact h.next_command (by simp [hn])

theorem exec_mshNodeRead_known {n : Node} (hn : s.node? (d.op 32 4) = some n) :
    exec (.mshNodeRead d) s = .next (s.finish d (s.answer d n.bytes)) :=
  h.next_command (by simp [hn])

theorem exec_mshNbrRead_known {n : Node} (hn : s.node? (d.op 32 4) = some n) :
    exec (.mshNbrRead d) s = .next (s.finish d
      (match (s.nbrOf (d.op 32 4)).bind s.nbr? with | none => s.fail 0x13 | some m => s.answer d m.bytes)) := by
  refine h.next_command ?_
  simp only [hn]
  rfl

theorem exec_mshActuate_known {n : Node} (hn : s.node? (d.op 32 4) = some n) :
    exec (.mshActuate d) s = .next (s.finish d
      (s.meshSend (d.op 32 4) (.message (leBytes 1 6 ++ leBytes 1 (d.op 36 1) ++ leBytes 2 0 ++ leBytes 4 (d.op 40 4)))).ok) :=
  h.next_command (by simp [State.actuate, hn])

/-- The four commands of a node refuse one that is unknown. -/
theorem exec_mshNode_unknown (hn : s.node? (d.op 32 4) = none) :
    exec (.mshNodeRemove d) s = .next (s.finish d (s.fail 0x10)) ∧ exec (.mshNodeRead d) s = .next (s.finish d (s.fail 0x10)) ∧
    exec (.mshNbrRead d) s = .next (s.finish d (s.fail 0x10)) ∧ exec (.mshActuate d) s = .next (s.finish d (s.fail 0x10)) := by
  have hu := Option.isNone_iff_eq_none.mpr hn
  exact ⟨h.next_command (if_pos hu), h.next_command (by rw [hn]), h.next_command (if_pos hu), h.next_command (if_pos hu)⟩

end

/-! ### MSH_REKEY (R296–R298) -/

/-- The node once a renewal of its key has started. -/
def Node.renewing (n : Node) (slot : Nat) : Node :=
  { n with keyNext := nextGen n.keyGen, keyNextSlot := slot, rekeyPending := true, renewMark := false }

/-- A renewal introduces the next generation of the node's key. -/
theorem State.node?_startRenewal {s : State} {i : Nat} {n : Node} (h : s.node? i = some n) :
    (s.startRenewal i).node? i = some (n.renewing s.newestSlot) := by
  refine (State.node?_congr (State.nodes_of_tables (State.sendNodeRekey_tables _ i)) i).trans ?_
  exact State.node?_modNode _ h

/-- The node takes a generation given with FORCE, and its neighbour entry with it. -/
def State.forceGen (s : State) (i g : Nat) : State :=
  let s := s.modNode i fun n => { n with keyGen := g, keyNext := 0, rekeyPending := false, staleSeen := [] }
  match s.nbrOf i with | some k => s.modNbr k fun m => { m with keyGen := g } | none => s

theorem State.forceGen_newestSlot (s : State) (i g : Nat) : (s.forceGen i g).newestSlot = s.newestSlot := by
  unfold State.forceGen
  dsimp only
  split <;> rfl

theorem State.node?_forceGen {s : State} {i : Nat} {n : Node} (g : Nat) (h : s.node? i = some n) :
    (s.forceGen i g).node? i = some { n with keyGen := g, keyNext := 0, rekeyPending := false, staleSeen := [] } := by
  refine (State.node?_congr ?_ i).trans
    (State.node?_modNode (fun n => { n with keyGen := g, keyNext := 0, rekeyPending := false, staleSeen := [] }) h)
  unfold State.forceGen
  dsimp only
  split <;> rfl

theorem State.renewCluster_tables (s : State) (c : Nat) (k : Cluster) :
    (s.renewCluster c k).meshTables =
      (s.modCluster c fun k' => { k' with keyNext := some (nextGen k.keyGen, s.newestSlot, s.asn + s.num MSH_CLUSTER_SWITCH) }).meshTables :=
  foldl_keeps State.meshTables State.sendClusterRekey _ _ State.sendClusterRekey_tables

/-- A cluster renewal comes with its switch ASN. -/
theorem State.tget_renewCluster {s : State} {c : Nat} {k : Cluster} (h : s.cluster? c = some k) :
    tget (s.renewCluster c k).msh.clusters c =
      some { k with keyNext := some (nextGen k.keyGen, s.newestSlot, s.asn + s.num MSH_CLUSTER_SWITCH) } := by
  rw [State.clusters_of_tables (s.renewCluster_tables c k)]
  exact State.tget_modCluster _ (State.tget_of_cluster? h)

section
variable {d : Desc} {s : State} (h : Runs s d)
include h

/-- A node's renewal: a pending one and a dead generation are refused, FORCE gives the generation before. -/
theorem exec_mshRekey_node {n : Node} (h0 : d.op 32 1 = 0) (hn : s.node? (d.op 36 4) = some n) :
    exec (.mshRekey d) s = .next (s.finish d
      (if n.rekeyPending then s.fail 0x14
        else if d.op 33 1 = 0 then (s.startRenewal (d.op 36 4)).ok (nextGen n.keyGen)
        else if s.nodeGenDead (d.op 36 4) (d.op 34 1) then s.fail stSTALE
        else ((s.forceGen (d.op 36 4) (d.op 34 1)).startRenewal (d.op 36 4)).ok (nextGen (d.op 34 1)))) := by
  refine h.next_command ?_
  simp only [h0, hn]
  rfl

/-- A cluster's renewal: a pending one is refused. -/
theorem exec_mshRekey_cluster {k : Cluster} (h0 : d.op 32 1 ≠ 0) (hk : s.cluster? (d.op 36 4) = some k) :
    exec (.mshRekey d) s = .next (s.finish d
      (if k.keyNext.isSome then s.fail 0x14 else (s.renewCluster (d.op 36 4) k).showCache.ok (nextGen k.keyGen))) := by
  refine h.next_command ?_
  simp only [h0, hk]
  rfl

/-- An unknown node and a closed cluster are refused. -/
theorem exec_mshRekey_unknown
    (hu : (if d.op 32 1 = 0 then (s.node? (d.op 36 4)).isNone else (s.cluster? (d.op 36 4)).isNone) = true) :
    exec (.mshRekey d) s = .next (s.finish d (s.fail (if d.op 32 1 = 0 then 0x10 else 0x11))) := by
  refine h.next_command ?_
  by_cases h0 : d.op 32 1 = 0
  · simp only [if_pos h0, Option.isNone_iff_eq_none] at hu ⊢
    rw [hu]
  · simp only [if_neg h0, Option.isNone_iff_eq_none] at hu ⊢
    rw [hu]

end

/-! ### MSH_REPAIR (R287) -/

/-- The DODAG version after this one, by the lollipop counter of RFC 6550. -/
def Cluster.nextVersion (k : Cluster) : Nat := if k.version < 128 then (k.version + 1) % 128 else (k.version + 1) % 256

theorem exec_mshRepair_open {d : Desc} {k : Cluster} {s : State} (h : Runs s d) (hk : s.cluster? (d.op 32 1) = some k) :
    exec (.mshRepair d) s = .next (s.finish d ((s.modCluster (d.op 32 1) fun c =>
      { c with version := k.nextVersion, doublings := 0, dioDue := true, dioFrom := s.sn }).ok k.nextVersion)) := by
  refine h.next_command ?_
  simp only [hk]
  rfl

theorem exec_mshRepair_closed {d : Desc} {s : State} (h : Runs s d) (hk : s.cluster? (d.op 32 1) = none) :
    exec (.mshRepair d) s = .next (s.finish d (s.fail 0x11)) :=
  h.next_command (by simp [hk])

/-- Settles O39: each clause by the lemma about its command. -/
theorem meshCommands : Obligations.MeshCommands := by
  refine ⟨fun d s => exec_mshClusterSet_off, fun d s => exec_mshClusterSet_on, fun d s => exec_mshClusterSet_refused,
    fun d x s h => exec_mshClusterSet_conflict h, fun d s => exec_mshNodeAdd, ?commissioned, ?known, ?removed,
    fun d n s h => exec_mshNodeRead_known h, fun d n s h => exec_mshNbrRead_known h, fun d s => exec_mshNode_unknown, ?renewal, ?forced,
    ?nodeRefused, ?clusterRenewal, ?clusterPending, fun d s => exec_mshRekey_unknown, fun d k s => exec_mshRepair_open,
    fun d s => exec_mshRepair_closed, fun d n s h => exec_mshActuate_known h⟩
  case commissioned =>
    intro d i s h h1 hb hc he hw hi hn hk
    refine ⟨(s.setNode i (s.commissioned d.buf)).showMesh, ?_, ?_⟩
    · rw [exec_mshNodeAdd h, h1, State.addNodes_one_ok hb (State.addNode_ok hc he hw hi hn hk)]
      simp [State.nodesAdded]
    · rw [State.node?_congr (congrArg Mesh.nodes (State.showMesh_msh _))]
      exact State.node?_setNode s i _
  case known =>
    intro d i s h h1 hb hc he
    rw [exec_mshNodeAdd h, h1, State.addNodes_one_error hb (State.addNode_known hc he)]
    rfl
  case removed =>
    exact fun d s h hn => ⟨exec_mshNodeRemove_known h hn, s.tget_removeNode _, fun q => State.dst_ne_of_mem_removeNode,
      fun x => State.node_ne_of_mem_removeNode⟩
  case renewal =>
    intro d n s h h0 h1 hn hp
    refine ⟨s.startRenewal (d.op 36 4), ?_, State.node?_startRenewal hn⟩
    simp [exec_mshRekey_node h h0 hn, hp, h1]
  case forced =>
    intro d n s h h0 h1 hn hp hd
    refine ⟨(s.forceGen (d.op 36 4) (d.op 34 1)).startRenewal (d.op 36 4), ?_, ?_⟩
    · simp [exec_mshRekey_node h h0 hn, hp, h1, hd]
    · rw [State.node?_startRenewal (State.node?_forceGen _ hn), State.forceGen_newestSlot]
      rfl
  case nodeRefused =>
    intro d n s h h0 hn hr
    rw [exec_mshRekey_node h h0 hn]
    cases hp : n.rekeyPending with
    | true => rfl
    | false =>
      obtain ⟨h1, hd⟩ := hr.resolve_left (by simp [hp])
      simp [h1, hd]
  case clusterRenewal =>
    intro d k s h h0 hk hp
    refine ⟨(s.renewCluster (d.op 36 4) k).showCache, ?_, ?_⟩
    · simp [exec_mshRekey_cluster h h0 hk, hp]
    · rw [State.showCache_msh]
      exact State.tget_renewCluster hk
  case clusterPending =>
    intro d k s h h0 hk hp
    rw [exec_mshRekey_cluster h h0 hk, if_pos hp]

end Sys2Proof.Machine

/-! PROOFS. The strokes and dispatch family: edges and the points of a stroke, the ring service, corrections and solutions, the fleet
MAC, the checks of track allotment. -/

namespace Sys2Proof.Machine

open Sys2Proof

/-! ### What TIME leaves alone -/

/-- SN, the device state, the dispatcher and the GNSS baseband: no step of the time bases moves them. -/
structure BesideTime where
  sn : Nat
  stroked : Bool
  dev : DevState
  disp : Disp
  gns : Gnss

/-- That part of a state. -/
def State.besideTime (s : State) : BesideTime := ⟨s.sn, s.stroked, s.dev, s.disp, s.gns⟩

@[simp] theorem State.startSlew_besideTime (s : State) (e : Int) : (s.startSlew e).besideTime = s.besideTime := by
  unfold State.startSlew
  split <;> rfl

@[simp] theorem State.slewTb1_besideTime (s : State) : s.slewTb1.besideTime = s.besideTime := by
  unfold State.slewTb1
  split <;> rfl

@[simp] theorem State.ppsWatch_besideTime (s : State) : s.ppsWatch.besideTime = s.besideTime := by
  unfold State.ppsWatch
  split
  · split <;> rfl
  · rfl

@[simp] theorem State.showHoldover_besideTime (s : State) : s.showHoldover.besideTime = s.besideTime := by
  unfold State.showHoldover
  split <;> rfl

@[simp] theorem State.rebaseTime_besideTime (s before : State) : (s.rebaseTime before).besideTime = s.besideTime := by
  unfold State.rebaseTime
  dsimp only
  split <;> rfl

@[simp] theorem State.resetOutTick_besideTime (s : State) : s.resetOutTick.besideTime = s.besideTime := by
  unfold State.resetOutTick
  dsimp only
  split <;> rfl

/-- The time bases' own work at an edge, before the slews and the seconds of a holdover run on (R27). -/
def State.slewTb0Edge (s : State) : State :=
  let s := s.startSlew (s.tim.slewQ / 4)
  let step : Int := s.get TIM_TB0_CFG_SLEW
  let s := s.setTim { s.tim with slewQ := s.tim.slewQ - clampI (-step) step s.tim.slewQ }
  if s.tim.slewQ = 0 then (s.put STK_STATUS_SLEWING 0).setTim { s.tim with slewing := false } else s

theorem State.timeEdge_eq (s : State) :
    s.timeEdge = s.slewTb0Edge.slewTb1.ppsWatch.showHoldover.put TIM_STATUS_ASN_WAIT
      (b2n (decide (s.slewTb0Edge.slewTb1.ppsWatch.sn < s.slewTb0Edge.slewTb1.ppsWatch.asnBase))) := rfl

theorem State.slewTb0Edge_besideTime (s : State) : s.slewTb0Edge.besideTime = s.besideTime := by
  unfold State.slewTb0Edge
  dsimp only
  split <;> exact State.startSlew_besideTime s _

@[simp] theorem State.timeEdge_besideTime (s : State) : s.timeEdge.besideTime = s.besideTime := by
  rw [State.timeEdge_eq]
  exact (State.showHoldover_besideTime _).trans ((State.ppsWatch_besideTime _).trans
    ((State.slewTb1_besideTime _).trans s.slewTb0Edge_besideTime))

/-- The periods of the free-running count are no business of the holdover's seconds, nor of TB1's slew. -/
theorem State.showHoldover_periods (s : State) : s.showHoldover.tim.periods = s.tim.periods := by
  unfold State.showHoldover
  split <;> rfl

theorem State.slewTb1_periods (s : State) : s.slewTb1.tim.periods = s.tim.periods := by
  unfold State.slewTb1
  split <;> rfl

/-! ### ANCHORED: the first edge (R28, R29, R374) -/

/-- The two tests of R29 on an edge labelled `tai` whose stroke would be `n`. -/
def State.judgeEdge (s : State) (tai n : Nat) (codes : List Int) (mags : List (List Nat)) (rf : List (List RfClk)) : State :=
  if tai < s.siteEpoch then s.epochBad tai
  else if s.num64 STK_SN_FLOOR_LO STK_SN_FLOOR_HI < n then s.firstEdge n codes mags rf else s.floorWait n

section
variable {s : State} {tai n : Nat} (codes : List Int) (mags : List (List Nat)) (rf : List (List RfClk))

theorem State.judgeEdge_early (n : Nat) (h : tai < s.siteEpoch) : s.judgeEdge tai n codes mags rf = s.epochBad tai := if_pos h

theorem State.judgeEdge_first (h : s.siteEpoch ≤ tai) (hf : s.num64 STK_SN_FLOOR_LO STK_SN_FLOOR_HI < n) :
    s.judgeEdge tai n codes mags rf = s.firstEdge n codes mags rf := (if_neg (Nat.not_lt.mpr h)).trans (if_pos hf)

theorem State.judgeEdge_floor (h : s.siteEpoch ≤ tai) (hf : n ≤ s.num64 STK_SN_FLOOR_LO STK_SN_FLOOR_HI) :
    s.judgeEdge tai n codes mags rf = s.floorWait n := (if_neg (Nat.not_lt.mpr h)).trans (if_neg (Nat.not_lt.mpr hf))

variable (hd : s.dev = .anchoring) (hs : s.stroked = false)
include hd hs

/-- By TB0, the stroke of the `i`-th edge of TAI second `tai` is (T − SITE_EPOCH) × 4,000 + i (R28). -/
theorem exec_anchored_own {i : Nat} (hm : s.mateSn = none) (hv : s.flag TIM_STATUS_TB0_VALID = true) (hi : i < 4000) :
    exec (.anchored tai i codes mags rf) s = .next (s.judgeEdge tai ((tai - s.siteEpoch) * 4000 + i) codes mags rf) := by
  change execAnchored tai i codes mags rf s = _
  simp [execAnchored, hd, hs, hm, hv, hi, State.judgeEdge]

/-- A unit that hears its mate's strokes raises its floor to below the mate's SN, and takes TB0 and SN from it (R374). -/
theorem exec_anchored_mate {m : Nat} (i : Nat) (hm : s.mateSn = some m) :
    exec (.anchored tai i codes mags rf) s = .next
      ((s.setNum64 STK_SN_FLOOR_LO STK_SN_FLOOR_HI (max (s.num64 STK_SN_FLOOR_LO STK_SN_FLOOR_HI) (m - 1))).anchorToMate.judgeEdge
        tai m codes mags rf) := by
  change execAnchored tai i codes mags rf s = _
  simp only [execAnchored, hd, hs, hm]
  rfl

end

/-! ### EPOCH_BAD and FLOOR_WAIT (R29) -/

@[simp] theorem State.epochBad_besideTime (s : State) (tai : Nat) : (s.epochBad tai).besideTime = s.besideTime := by
  unfold State.epochBad
  dsimp only
  split <;> simp [State.besideTime]

theorem State.epochBad_get (s : State) (tai : Nat) : (s.epochBad tai).get STK_STATUS_EPOCH_BAD = 1 := by
  have h : ((s.put STK_STATUS_EPOCH_BAD 1).put STK_STATUS_FLOOR_WAIT 0).get STK_STATUS_EPOCH_BAD = 1 := by
    rw [State.get_put_apart _ STK_STATUS_FLOOR_WAIT STK_STATUS_EPOCH_BAD _ rfl (by decide) (by decide), State.get_put _ _ _ (by decide)]
    rfl
  unfold State.epochBad
  dsimp only
  split <;> exact h

@[simp] theorem State.floorWait_besideTime (s : State) (n : Nat) : (s.floorWait n).besideTime = s.besideTime := by
  unfold State.floorWait
  dsimp only
  split <;> simp [State.besideTime]

theorem State.floorWait_get (s : State) (n : Nat) : (s.floorWait n).get STK_STATUS_FLOOR_WAIT = 1 := by
  have h : ((s.put STK_STATUS_FLOOR_WAIT 1).put STK_STATUS_EPOCH_BAD 0).get STK_STATUS_FLOOR_WAIT = 1 := by
    rw [State.get_put_apart _ STK_STATUS_EPOCH_BAD STK_STATUS_FLOOR_WAIT _ rfl (by decide) (by decide), State.get_put _ _ _ (by decide)]
    rfl
  unfold State.floorWait
  dsimp only
  split <;> exact h

/-! ### Edges (R29, R30) -/

/-- The first edge with its SN, the stroke begun and recorded, before the blocks' work at it. -/
def State.anchoredAt (s : State) (sn : Nat) : State :=
  let s := s.rebaseJobs sn |>.rebaseBlocks sn
  let s := (({ s with sn := sn, stroked := true } : State).rebaseTime s).dispEdge
  let s := ((s.put STK_STATUS_ANCHORED 1).put STK_STATUS_FLOOR_WAIT 0).put STK_STATUS_EPOCH_BAD 0
  s.record EV_ANCHORED 0 sn (hi32 sn) (s.num STK_SN_FLOOR_LO)

theorem State.firstEdge_eq (s : State) (sn : Nat) (codes : List Int) (mags : List (List Nat)) (rf : List (List RfClk)) :
    s.firstEdge sn codes mags rf = ((s.anchoredAt sn).timeEdge.pairFirst.blockEdges codes mags rf).showDisp := rfl

theorem State.anchoredAt_sn (s : State) (sn : Nat) : (s.anchoredAt sn).sn = sn := by
  unfold State.anchoredAt State.dispEdge
  simp only [State.record_sn, State.put_sn, State.setDisp_sn]
  exact congrArg BesideTime.sn (State.rebaseTime_besideTime _ _)

theorem State.anchoredAt_stroked (s : State) (sn : Nat) : (s.anchoredAt sn).stroked = true := by
  unfold State.anchoredAt State.dispEdge
  simp only [State.record_stroked, State.put_stroked, State.setDisp_stroked]
  exact congrArg BesideTime.stroked (State.rebaseTime_besideTime _ _)

/-- A later edge before the blocks' work at it: the next SN, the stroke begun, the time bases run on. -/
def State.nextStroke (s : State) : State := ({ s with sn := s.sn + 1 } : State).resetOutTick.dispEdge.timeEdge

theorem State.dispEdge_besideTime (s : State) : s.dispEdge.besideTime = { s.besideTime with disp := s.dispEdge.disp } := rfl

theorem State.nextStroke_besideTime (s : State) :
    s.nextStroke.besideTime = { s.besideTime with sn := s.sn + 1, disp := s.dispEdge.disp } := by
  have h := State.resetOutTick_besideTime { s with sn := s.sn + 1 }
  have hdisp : ({ s with sn := s.sn + 1 } : State).resetOutTick.disp = s.disp := congrArg BesideTime.disp h
  unfold State.nextStroke
  rw [State.timeEdge_besideTime, State.dispEdge_besideTime, h]
  unfold State.dispEdge
  dsimp only
  rw [hdisp]
  rfl

theorem exec_strokeEdge {s : State} (codes : List Int) (mags : List (List Nat)) (rf : List (List RfClk)) (h : s.strokesRun = true) :
    exec (.strokeEdge codes mags rf) s = .next
      (if s.nextStroke.dev = .halt then s.nextStroke else (s.nextStroke.quietEdge.pairEdge.blockEdges codes mags rf).showDisp) := by
  change execStrokeEdge codes mags rf s = _
  simp only [execStrokeEdge, h]
  rfl

/-- Settles O15: the two tests of R29 on an edge, and what an edge sets before the blocks' work at it. -/
theorem strokesBeginAndAdvance : Obligations.StrokesBeginAndAdvance := by
  refine ⟨?first, ?early, ?floor, ?mate, ?shown, ?begun, ?next⟩
  case first =>
    intro tai n codes mags rf s hd hs hm hv hn he hf
    rw [exec_anchored_own codes mags rf hd hs hm hv hn, State.judgeEdge_first codes mags rf he hf]
  case early =>
    intro tai n codes mags rf s hd hs hm hv hn he
    rw [exec_anchored_own codes mags rf hd hs hm hv hn, State.judgeEdge_early codes mags rf _ he]
  case floor =>
    intro tai n codes mags rf s hd hs hm hv hn he hf
    rw [exec_anchored_own codes mags rf hd hs hm hv hn, State.judgeEdge_floor codes mags rf he hf]
  case mate => exact fun tai n codes mags rf m s hd hs hm => exec_anchored_mate codes mags rf hd hs n hm
  case shown =>
    intro tai m s hd hs
    have he := s.epochBad_besideTime tai
    have hf := s.floorWait_besideTime m
    exact ⟨(congrArg BesideTime.dev he).trans hd, (congrArg BesideTime.stroked he).trans hs, s.epochBad_get tai,
      (congrArg BesideTime.dev hf).trans hd, (congrArg BesideTime.stroked hf).trans hs, s.floorWait_get m⟩
  case begun =>
    exact fun m codes mags rf s => ⟨s.anchoredAt m, s.anchoredAt_sn m, s.anchoredAt_stroked m, rfl, rfl, rfl,
      s.firstEdge_eq m codes mags rf⟩
  case next =>
    intro codes mags rf s h
    have hu := s.nextStroke_besideTime
    have hdisp : s.nextStroke.disp = s.dispEdge.disp := congrArg BesideTime.disp hu
    refine ⟨s.nextStroke, congrArg BesideTime.sn hu, congrArg BesideTime.stroked hu, ?_, ?_, ?_, ?_,
      exec_strokeEdge codes mags rf h⟩ <;>
      rw [hdisp] <;> rfl

/-! ### The points of a stroke (R30) -/

/-- The outputs of stroke `n` leave at a release point, or are held behind others or an acknowledgement (R362). -/
def State.releaseStroke (s : State) (n ns : Nat) : State :=
  if s.pai.held.isEmpty && s.mayRelease n then
    (s.setPai { s.pai with acked := s.pai.acked.filter fun x => decide (n < x) }).releaseOutputs n ns
  else s.setPai { s.pai with held := s.pai.held ++ [n] }

section
variable {s : State} (ht : s.stroked = true) (hs : s.serving = true)
include ht hs

/-- What a stamp point does before it is a status point (R31, R45, R360, R362). -/
theorem exec_stampPoint {b : Nat} (hb : b < 8) :
    exec (.stampPoint b) s = .next (
      let u := (if b = 0 then s.sendLogEnd else s).loopInputs.resumeOne
      let v := ((u.stampBatch b).sendLog (((u.toStamp b).filter fun j => j.sn == 0).map Job.id)).endLate 64
      let w := (v.releaseLate (stampNs b) v.pai.held.length).pressure.showDisp
      if b = 0 then w else w.statusPoint) := by
  change execStampPoint b s = _
  simp [execStampPoint, ht, hs, hb]

/-- A timer whose stroke has come presents its job (R32). -/
theorem exec_timerRelease {k : Nat} {j : Job} (hj : s.job? k = some j) (hp : j.phase = .delayed) (hn : j.notBefore ≤ s.jobSn j) :
    exec (.timerRelease k) s = .next (s.modJob k fun j => { j with phase := .presented }).showDisp := by
  change execTimerRelease k s = _
  simp [execTimerRelease, ht, hs, hj, hp, hn]

/-- A release point: what was held first, while the mate does not stand by, then the stroke before (R362). -/
theorem exec_releasePoint : exec .releasePoint s = .next
    ((if s.pai.mateStandby.isNone then s.releaseLate (1000 * s.get STK_PHASE_CFG_RELEASE_OFS) s.pai.held.length else s).releaseStroke
      (s.sn - 1) (1000 * s.get STK_PHASE_CFG_RELEASE_OFS)).statusPoint := by
  change Host.Outcome.next (if !s.stroked || !s.serving then s else
    ((if s.pai.mateStandby.isNone then s.releaseLate (1000 * s.get STK_PHASE_CFG_RELEASE_OFS) s.pai.held.length else s).releaseStroke
      (s.sn - 1) (1000 * s.get STK_PHASE_CFG_RELEASE_OFS)).statusPoint) = _
  rw [ht, hs]
  rfl

theorem exec_sealPoint : exec .sealPoint s = .next s.sealPair := by
  change execSealPoint s = _
  simp [execSealPoint, ht, hs]

end

/-! ### The close point (R30, R368, R377) -/

/-- A primary's mate stands by and has not acknowledged the stroke before. -/
def State.ackMissed (s : State) : Bool :=
  (s.role == .primary && match s.pai.mateStandby with | some k => decide (k < s.sn) | none => false) &&
    s.pai.held.contains (s.sn - 1) && !s.pai.acked.contains (s.sn - 1)

/-- The stroke's close point has come. -/
def State.shut (s : State) : State := s.setDisp { s.disp with closed := true }

/-- An acknowledgement that has not come is counted. -/
def State.countAck (s : State) : State :=
  if s.ackMissed then (s.setPai { s.pai with ackMiss := s.pai.ackMiss + 1 }).count PAI_HB_MISS 1 else s

/-- The snapshot of the current stroke has been given. -/
def State.snapTaken (s : State) : State := s.setPai { s.pai with snapAt := none, snapGiven := some s.sn }

/-- The snapshot that is due is given. -/
def State.giveSnapshot (s : State) : State :=
  if s.pai.snapAt = some s.sn then s.snapTaken.sendMate 0 s.sn (.snapshot true (some s.snapTaken.snapshot)) else s

theorem exec_closePoint {s : State} (ht : s.stroked = true) (hs : s.serving = true) :
    exec .closePoint s = .next s.shut.countAck.giveSnapshot := by
  change execClosePoint s = _
  unfold execClosePoint
  rw [ht, hs]
  rfl

/-- SN, the device state and the dispatcher: an acknowledgement and a snapshot are no business of theirs. -/
def State.besidePair (s : State) : Nat × DevState × Disp := (s.sn, s.dev, s.disp)

theorem State.countAck_besidePair (s : State) : s.countAck.besidePair = s.besidePair := by
  unfold State.countAck
  split <;> rfl

theorem State.sendMate_besidePair (s : State) (frag sn : Nat) (b : MateBody) : (s.sendMate frag sn b).besidePair = s.besidePair := by
  unfold State.sendMate
  split <;> rfl

theorem State.giveSnapshot_besidePair (s : State) : s.giveSnapshot.besidePair = s.besidePair := by
  unfold State.giveSnapshot
  split
  · exact State.sendMate_besidePair _ _ _ _
  · rfl

theorem State.countAck_none {s : State} (h : s.ackMissed = false) : s.countAck = s := if_neg (ne_true_of_eq_false h)

/-- Only a primary counts acknowledgements, and only of a mate that stands by. -/
theorem State.ackMissed_shut_of_role {s : State} (h : s.role ≠ .primary) : s.shut.ackMissed = false := by
  have hr : (s.shut.role == Role.primary) = false := beq_false_of_ne h
  simp [State.ackMissed, hr]

theorem State.ackMissed_shut_of_alone {s : State} (h : s.pai.mateStandby = none) : s.shut.ackMissed = false := by
  have hm : s.shut.pai.mateStandby = none := h
  simp [State.ackMissed, hm]

/-! ### The free-running count (R56) -/

/-- A period of the free-running count, before its stamp point. -/
def State.nextPeriod (s : State) : State :=
  ((s.setTim { s.tim with periods := s.tim.periods + 1 }).setGns
    { s.gns with upPeriods := s.gns.upPeriods + 1, aon := s.gns.aon + 1024 }).resetOutTick.showHoldover.slewTb1

theorem State.nextPeriod_besideTime (s : State) :
    s.nextPeriod.besideTime = { s.besideTime with gns := { s.gns with upPeriods := s.gns.upPeriods + 1, aon := s.gns.aon + 1024 } } :=
  (State.slewTb1_besideTime _).trans ((State.showHoldover_besideTime _).trans (State.resetOutTick_besideTime _))

theorem State.resetOutTick_tim (s : State) : s.resetOutTick.tim = s.tim := by
  unfold State.resetOutTick
  dsimp only
  split <;> rfl

theorem State.nextPeriod_periods (s : State) : s.nextPeriod.tim.periods = s.tim.periods + 1 :=
  (State.slewTb1_periods _).trans ((State.showHoldover_periods _).trans (congrArg Timing.periods (State.resetOutTick_tim _)))

theorem State.serving_congr {s t : State} (h : t.dev = s.dev) : t.serving = s.serving := by
  unfold State.serving
  rw [h]

theorem State.mainLive_of_serving {s : State} (h : s.serving = true) : s.mainLive = true := by
  simp [State.mainLive, h]

theorem exec_freeRunningCountPeriod {s : State} (ht : s.stroked = false) (hs : s.serving = true) :
    exec .freeRunningCountPeriod s = .next (s.nextPeriod.ptpEdge.resumeOne.stampBatch 0).pressure.showDisp.statusPoint := by
  have hu : s.nextPeriod.serving = true := (State.serving_congr (congrArg BesideTime.dev s.nextPeriod_besideTime)).trans hs
  change Host.Outcome.next (if s.stroked || !s.mainLive then s else if !s.nextPeriod.serving then s.nextPeriod else
    (s.nextPeriod.ptpEdge.resumeOne.stampBatch 0).pressure.showDisp.statusPoint) = _
  rw [ht, State.mainLive_of_serving hs, hu]
  rfl

/-- Settles O16: each clause by the lemma about its point. -/
theorem pointsOfAStroke : Obligations.PointsOfAStroke := by
  refine ⟨fun b s ht hs => exec_stampPoint ht hs, fun k j s hj hp ht hs => exec_timerRelease ht hs hj hp, ?free, ?held, ?plain, ?closes,
    ?snapshot, fun s => exec_sealPoint, ?period⟩
  case free =>
    intro s ht hs hh hm
    rw [exec_releasePoint ht hs]
    simp [hh, hm, State.releaseLate, State.releaseStroke]
  case held =>
    intro s ht hs hk hm
    rw [exec_releasePoint ht hs, hk, if_neg Bool.false_ne_true, State.releaseStroke, if_neg (ne_true_of_eq_false hm)]
  case plain =>
    intro s ht hs hr hn
    rw [exec_closePoint ht hs, State.countAck_none (State.ackMissed_shut_of_role hr)]
    exact congrArg _ (if_neg hn)
  case closes =>
    intro s ht hs
    have h := (State.giveSnapshot_besidePair _).trans s.shut.countAck_besidePair
    have hdisp : s.shut.countAck.giveSnapshot.disp = s.shut.disp := congrArg (fun x => x.2.2) h
    exact ⟨_, exec_closePoint ht hs, congrArg Disp.closed hdisp, (congrArg Disp.jobs hdisp).trans rfl, congrArg Prod.fst h,
      congrArg (fun x => x.2.1) h⟩
  case snapshot =>
    intro s ht hs hr hm hn
    refine ⟨s.shut.snapTaken, ?_, rfl, rfl, rfl⟩
    rw [exec_closePoint ht hs, State.countAck_none (State.ackMissed_shut_of_alone hm)]
    exact congrArg _ (if_pos hn)
  case period =>
    intro s ht hs
    have hu := s.nextPeriod_besideTime
    exact ⟨s.nextPeriod, s.nextPeriod_periods, congrArg (fun x => x.gns.aon) hu, congrArg (fun x => x.disp.jobs) hu,
      exec_freeRunningCountPeriod ht hs⟩

/-! ### Work of a block (R36, R39) -/

/-- The block-periodic job of a block runs in its own stroke and commits. -/
theorem State.runWork_eq {s : State} {cap inst : Nat} {j : Job} (h : s.work cap inst = some j) (body : State → State) :
    s.runWork cap inst body = ({ body { s with sn := j.sn } with sn := s.sn } : State).commitOne j := by
  unfold State.runWork
  rw [h]

/-- So does the job of an element. -/
theorem State.runElem_eq {s : State} {p : Nat → Bool} {j : Job} (h : s.nextElem p = some j) (body : JobSrc → State → State) :
    s.runElem p body = ({ body j.src { s with sn := j.sn } with sn := s.sn } : State).commitOne j := by
  unfold State.runElem
  rw [h]

/-- So does the intake job of a MAC, its frame out of the Cistern. -/
theorem State.runIntake_eq {s : State} {port : Nat → Bool} {p : RxFrame → Bool} {j : Job} {f : RxFrame}
    (h : s.nextIntake port p = some (j, f)) (body : Job → RxFrame → State → State) :
    s.runIntake port p body = ({ body j f { s.takeIntake f with sn := j.sn } with sn := s.sn } : State).commitOne j := by
  unfold State.runIntake
  rw [h]

/-! ### BEACON_BUILD (R166, R167, R176) -/

/-- What the beacon job builds in its stroke, for the stroke after it. -/
def State.buildBeacon (s : State) : State :=
  let sn := s.sn + 1
  if !s.flag FLT_CFG_ENABLE then s
  else if sn % 40 < 4 then
    let s := if sn % 40 = 0 then s.startSuperframe (sn / 40) else s
    s.fleetChans.foldl (fun s c => s.buildPart (sn / 40) (sn % 40) c) s
  else if 36 ≤ sn % 40 && !s.flag STP_STATUS_WAVE then s.fleetChans.foldl (fun s c => s.buildUnicast sn c) s
  else s

theorem exec_beaconBuild {s : State} {j : Job} (hs : s.serving = true) (hj : s.work 0x0B 0 = some j) :
    exec .beaconBuild s = .next (({ ({ s with sn := j.sn } : State).buildBeacon with sn := s.sn } : State).commitOne j) := by
  change Host.Outcome.next (if !s.serving then s else s.runWork 0x0B 0 State.buildBeacon) = _
  rw [hs, State.runWork_eq hj]
  rfl

section
variable {s : State} (he : s.flag FLT_CFG_ENABLE = true)
include he

/-- Parts 1 to 3 of a superframe are packed. -/
theorem State.buildBeacon_part (h1 : 1 ≤ (s.sn + 1) % 40) (h4 : (s.sn + 1) % 40 < 4) :
    s.buildBeacon = s.fleetChans.foldl (fun u c => u.buildPart ((s.sn + 1) / 40) ((s.sn + 1) % 40) c) s := by
  have h0 : (s.sn + 1) % 40 ≠ 0 := Nat.one_le_iff_ne_zero.mp h1
  simp [State.buildBeacon, he, h4, h0]

/-- Part 0 begins the superframe. -/
theorem State.buildBeacon_head (h0 : (s.sn + 1) % 40 = 0) :
    s.buildBeacon = (s.startSuperframe ((s.sn + 1) / 40)).fleetChans.foldl (fun u c => u.buildPart ((s.sn + 1) / 40) 0 c)
      (s.startSuperframe ((s.sn + 1) / 40)) := by
  simp [State.buildBeacon, he, h0]

/-- In the last strokes of a superframe unicast frames are built, none during a wave (R242). -/
theorem State.buildBeacon_unicast (h : 36 ≤ (s.sn + 1) % 40) :
    s.buildBeacon = if s.flag STP_STATUS_WAVE then s else s.fleetChans.foldl (fun u c => u.buildUnicast (s.sn + 1) c) s := by
  have h4 : ¬ (s.sn + 1) % 40 < 4 := by omega
  cases hw : s.flag STP_STATUS_WAVE <;> simp [State.buildBeacon, he, h4, h, hw]

end

/-- With the fleet off, and in the strokes between, nothing is built. -/
theorem State.buildBeacon_none {s : State}
    (h : s.flag FLT_CFG_ENABLE = false ∨ 4 ≤ (s.sn + 1) % 40 ∧ (s.sn + 1) % 40 < 36) : s.buildBeacon = s := by
  rcases h with h | ⟨h4, h36⟩
  · simp [State.buildBeacon, h]
  · have h4' : ¬ (s.sn + 1) % 40 < 4 := Nat.not_lt.mpr h4
    have h36' : ¬ 36 ≤ (s.sn + 1) % 40 := Nat.not_le.mpr h36
    simp [State.buildBeacon, h4', h36']

/-! ### UPLINK_ACCEPT, ROBOT_SILENT, DATA_REASSEMBLY_TIMEOUT (R170, R176, R182) -/

theorem exec_uplinkAccept {s : State} {f : RxFrame} {j : Job} {c : Nat} (ok : Bool) (hs : s.serving = true)
    (hn : s.nextIntake (fun p => decide (32 ≤ p) && decide (p < 40)) (fun f => isCfl f.mode) = some (j, f))
    (hc : ({ s.takeIntake f with sn := j.sn } : State).fleetChanOf f.port f.ch = some c) :
    exec (.uplinkAccept ok) s = .next (({
      (if ({ s.takeIntake f with sn := j.sn } : State).flag FLT_CFG_ENABLE then
        (({ s.takeIntake f with sn := j.sn } : State).acceptUplink c f ok).presentElems
          ({ s.takeIntake f with sn := j.sn } : State).flt.inbox.length j
      else { s.takeIntake f with sn := j.sn }) with sn := s.sn } : State).commitOne j) := by
  change execUplinkAccept ok s = _
  unfold execUplinkAccept
  rw [hs, State.runIntake_eq hn]
  simp only [hc]
  rfl

theorem exec_robotSilent_late {s : State} {r : Nat} {x : Robot} (hs : s.serving = true) (hr : s.robot? r = some x)
    (hx : x.silent = false) (hp : (x.specsAt (s.sn / 40)).isEmpty = false)
    (hn : s.get FLT_SILENT_SF_SUPERFRAMES ≤ s.sn / 40 - x.lastSn.getD x.enrolSn / 40) :
    exec (.robotSilent r) s = .next ((s.modRobot r fun x => { x with silent := true }).record EV_ROBOT_SILENT 0 r
      (s.sn / 40 - x.lastSn.getD x.enrolSn / 40) 0) := by
  change execRobotSilent r s = _
  simp [execRobotSilent, hs, hr, hx, hp, Nat.not_lt.mpr hn]

/-- Packets incomplete 100 superframes after their first fragment are discarded. -/
def State.dropReasm (s : State) : State :=
  s.setFlt { s.flt with reasm := s.flt.reasm.filter fun x => decide (s.sn / 40 < x.firstSf + 100) }

theorem exec_dataReassemblyTimeout {s : State} (hs : s.serving = true) :
    exec .dataReassemblyTimeout s = .next
      (s.dropReasm.count FLT_DATA_DROP (s.flt.reasm.filter fun x => decide (x.firstSf + 100 ≤ s.sn / 40)).length) := by
  change execDataReassemblyTimeout s = _
  simp only [execDataReassemblyTimeout, hs]
  rfl

/-- Settles O29: each clause by the lemma about its row, the beacon's by the strokes of the superframe. -/
theorem fleetMacBuildsAndAccepts : Obligations.FleetMacBuildsAndAccepts := by
  refine ⟨?part, ?head, ?unicast, ?none, ?uplink, fun r x s => exec_robotSilent_late, ?dropped⟩
  case part =>
    rintro j s v hs hj rfl he h1 h4
    rw [exec_beaconBuild hs hj, State.buildBeacon_part he h1 h4]
  case head =>
    rintro j s v hs hj rfl he h0
    rw [exec_beaconBuild hs hj, State.buildBeacon_head he h0]
  case unicast =>
    rintro j s v hs hj rfl he h
    rw [exec_beaconBuild hs hj, State.buildBeacon_unicast he h]
  case none =>
    intro j s hs hj h
    rw [exec_beaconBuild hs hj, State.buildBeacon_none h]
  case uplink =>
    rintro k f j c v s hs hn rfl hc
    exact exec_uplinkAccept k hs hn hc
  case dropped =>
    exact fun s hs => ⟨_, exec_dataReassemblyTimeout hs, rfl, State.num_setNum _ _ _⟩

/-! ### ALT_ROADMAP_LOAD (R213) -/

@[simp] theorem State.showAllot_alt (s : State) : s.showAllot.alt = s.alt := by
  simp only [State.showAllot, State.setNum_alt, State.put_alt]

/-- The roadmap in force is replaced, and shown and recorded. -/
def State.withRoadmap (s : State) (m : Roadmap) : State :=
  (s.setAlt { s.alt with roadmap := some m }).showAllot.record EV_ROADMAP_LOADED 0 m.id m.segs.length m.crc

theorem State.withRoadmap_alt (s : State) (m : Roadmap) : (s.withRoadmap m).alt = { s.alt with roadmap := some m } := by
  simp only [State.withRoadmap, State.record_alt, State.showAllot_alt, State.setAlt_alt]

section
variable {d : Desc} {s : State} (h : Runs s d)
include h

theorem exec_altRoadmapLoad_valid (hi : s.altItems = 0) (hb : roadmapBad d.buf d.bufLen = none) :
    exec (.altRoadmapLoad d) s =
      .next (s.finish d ((s.withRoadmap (readRoadmap d.buf)).ok (readRoadmap d.buf).segs.length)) := by
  refine h.next_command ?_
  simp only [hi, hb]
  rfl

theorem exec_altRoadmapLoad_conflict (hi : s.altItems ≠ 0) : exec (.altRoadmapLoad d) s = .next (s.finish d (s.fail stCONFLICT)) :=
  h.next_command (by simp [hi])

end

/-! ### CLAIM_CHECK and FIX_CHECK (R216, R217, R227) -/

/-- The claim of a delivered element is judged once for its frame, and answered. -/
def State.judgeElem (s : State) (f : FleetIn) : State :=
  if (s.ar f.robot).claimOf = some (f.arrival, f.seq) || !s.flag ALT_CFG_ENABLE then s.count ALT_REFUSED 1
  else
    let w := s.setAr f.robot { s.ar f.robot with claimOf := some (f.arrival, f.seq) }
    (w.claim f.robot f.body (some f.robot)).1.fleetReply f.robot f.seq
      (leBytes 4 f.seq ++ (w.claim f.robot f.body (some f.robot)).2.bytes)

theorem exec_claimCheck {s u : State} {f : FleetIn} {j : Job} {t r a q : Nat} (hs : s.serving = true)
    (hj : s.nextElem (fun t => t == 0x21) = some j) (hsrc : j.src = .element t r a q)
    (hf : ({ s with sn := j.sn } : State).takeElem t r a q = some (u, f)) :
    exec .claimCheck s = .next (({ u.judgeElem f with sn := s.sn } : State).commitOne j) := by
  change execClaimCheck s = _
  unfold execClaimCheck
  rw [hs, State.runElem_eq hj]
  simp only [hsrc, hf]
  rfl

/-- The fix that the unit solved itself is taken off and checked, or counted as stale with the engine off. -/
theorem exec_fixCheck_own {s : State} {f : FixIn} {j : Job} {r a q : Nat} (hs : s.serving = true)
    (hj : s.nextElem (fun t => t == 0x22 || t == 0x06) = some j) (hsrc : j.src = .element 0x06 r a q)
    (hf : (s.bsl.fixes.find? fun f => f.robot == r && f.sn == a) = some f) :
    exec .fixCheck s = .next (
      let v : State := { s with sn := j.sn }
      let u := v.setBsl { v.bsl with fixes := v.bsl.fixes.erase f }
      ({ (if u.flag ALT_CFG_ENABLE then u.checkFix f.robot f.fix else u.count ALT_FIX_STALE 1) with sn := s.sn } : State).commitOne j) := by
  change execFixCheck s = _
  unfold execFixCheck
  rw [hs, State.runElem_eq hj]
  simp only [hsrc, hf]
  rfl

/-- A FIX element is taken off and checked, or counted as stale of a central robot and with the engine off. -/
theorem exec_fixCheck_element {s u : State} {f : FleetIn} {j : Job} {t r a q : Nat} (hs : s.serving = true)
    (hj : s.nextElem (fun t => t == 0x22 || t == 0x06) = some j) (hsrc : j.src = .element t r a q) (ht : t ≠ 0x06)
    (hf : ({ s with sn := j.sn } : State).takeElem t r a q = some (u, f)) :
    exec .fixCheck s = .next (
      ({ (if u.centralRobot f.robot || !u.flag ALT_CFG_ENABLE then u.count ALT_FIX_STALE 1 else u.checkFix f.robot f.body)
        with sn := s.sn } : State).commitOne j) := by
  change execFixCheck s = _
  unfold execFixCheck
  rw [hs, State.runElem_eq hj]
  simp only [hsrc, hf]
  rfl

/-! ### ALLOT_EDGE_JOB (R224) -/

/-- One robot at the edge job: what has ended leaves its chain; an overdue item or an ended lease stops it. -/
def State.edgeRobot (s : State) (r : Nat) : State :=
  let y := (s.ar r).expire s.sn (s.num ALT_LATE_GRACE)
  let s := s.setAr r y
  if y.stopped then s
  else if y.chain.any fun k => k.overdue && decide (k.due ≤ s.sn) then s.conformanceStop r 4 0
  else if !y.chain.isEmpty && decide (y.lease ≤ s.sn) then s.conformanceStop r 5 0
  else s

/-- The edge job looks at every robot in turn; with the engine off it does nothing. -/
def State.allotEdge (s : State) : State :=
  if !s.flag ALT_CFG_ENABLE then s else (s.alt.robots.foldl (fun s x => s.edgeRobot x.1) s).showAllot

theorem exec_allotEdgeJob {s : State} {j : Job} (hs : s.serving = true) (hj : s.work 0x0D 0 = some j) :
    exec .allotEdgeJob s = .next (({ ({ s with sn := j.sn } : State).allotEdge with sn := s.sn } : State).commitOne j) := by
  change Host.Outcome.next (if !s.serving then s else s.runWork 0x0D 0 State.allotEdge) = _
  rw [hs, State.runWork_eq hj]
  rfl

theorem State.allotEdge_on {s : State} (he : s.flag ALT_CFG_ENABLE = true) :
    s.allotEdge = (s.alt.robots.foldl (fun s x => s.edgeRobot x.1) s).showAllot := by
  simp [State.allotEdge, he]

theorem State.allotEdge_off {s : State} (he : s.flag ALT_CFG_ENABLE = false) : s.allotEdge = s := by
  simp [State.allotEdge, he]

/-- Settles O31: each clause by the lemma about its row. -/
theorem allotmentChecks : Obligations.AllotmentChecks := by
  refine ⟨?load, fun d s => exec_altRoadmapLoad_conflict, ?claim, ?own, ?element, ?edge, ?off⟩
  case load =>
    intro d s h hi hb
    have ha := s.withRoadmap_alt (readRoadmap d.buf)
    exact ⟨_, exec_altRoadmapLoad_valid h hi hb, congrArg Allot.roadmap ha, (congrArg Allot.robots ha).trans rfl⟩
  case claim =>
    rintro f j t r a q v u s hs hj hsrc rfl hf
    exact exec_claimCheck hs hj hsrc hf
  case own =>
    rintro f j r a q v s hs hj hsrc rfl hf
    exact exec_fixCheck_own hs hj hsrc hf
  case element =>
    rintro f j t r a q v u s hs hj hsrc ht rfl hf
    exact exec_fixCheck_element hs hj hsrc ht hf
  case edge =>
    rintro j s v hs hj rfl he
    rw [exec_allotEdgeJob hs hj, State.allotEdge_on he]
    rfl
  case off =>
    intro j s hs hj he
    rw [exec_allotEdgeJob hs hj, State.allotEdge_off he]

/-! ### CORRECTION_ENCODE (R187, R190, R191) -/

/-- The station record that waits is taken for the epoch to encode. -/
def State.takeStation (s : State) : State :=
  s.setBsl { s.bsl with toEncode := none, station := s.bsl.newStation.orElse fun _ => s.bsl.station, newStation := none }

/-- The fragments of an epoch's correction stream. -/
def State.corrFragments (s : State) (x : BaseSet) : List (List Byte) :=
  fragments (s.get BSL_CORR_FRAG_FRAG) (s.corrStream x).length (s.corrStream x)

/-- The correction is active; its stream goes to the beacons and to the host as configured. -/
def State.sendCorr (s : State) (n : Nat) (x : BaseSet) : State :=
  let a := ((s.put BSL_STATUS_CORR_ACTIVE 1).put BSL_STATUS_NO_ARP 0).put BSL_STATUS_CLOCK_FAR 0
  let b := a.setBsl { a.bsl with withheld := false }
  let c := if b.flag BSL_CFG_CORR_BEACON then b.queueCorr n (s.corrFragments x) else b
  if c.flag BSL_CFG_CORR_HOST then
    c.bslItem 28 0x7010 ((s.corrStream x).length % 65536)
      (leBytes 8 n ++ leBytes 2 (s.corrStream x).length ++ List.replicate 6 0 ++ s.corrStream x)
  else c

/-- The set of an epoch is encoded, or the epoch withheld. -/
def State.encodeSet (s : State) (n : Nat) (x : BaseSet) : State :=
  if !bit x.flags 0 then s.withhold 1 n
  else if bit x.flags 2 then s.withhold 2 n
  else if s.flag BSL_CFG_CORR_BEACON && decide (128 < (s.corrFragments x).length) then s.withhold 4 n
  else s.sendCorr n x

/-- What the correction job does in its stroke. -/
def State.encodeCorr (s : State) : State :=
  match s.bsl.toEncode with
  | none => s
  | some n => match s.baseSet n with
    | none => (s.setBsl { s.bsl with toEncode := none }).withhold 3 n
    | some x => s.takeStation.encodeSet n x

theorem exec_correctionEncode {s : State} {j : Job} (hs : s.serving = true) (hj : s.work 0x0C 0 = some j) :
    exec .correctionEncode s = .next (({ ({ s with sn := j.sn } : State).encodeCorr with sn := s.sn } : State).commitOne j) := by
  change Host.Outcome.next (if !s.serving then s else s.runWork 0x0C 0 State.encodeCorr) = _
  rw [hs, State.runWork_eq hj]
  rfl

section
variable {s : State} {n : Nat} (he : s.bsl.toEncode = some n)
include he

theorem State.encodeCorr_missing (hb : s.baseSet n = none) :
    s.encodeCorr = (s.setBsl { s.bsl with toEncode := none }).withhold 3 n := by
  simp only [State.encodeCorr, he, hb]

theorem State.encodeCorr_held {x : BaseSet} (hb : s.baseSet n = some x) : s.encodeCorr = s.takeStation.encodeSet n x := by
  simp only [State.encodeCorr, he, hb]

end

/-- Without a fixed base the cause is 1, with a far clock 2. -/
theorem State.encodeSet_withheld (s : State) (n : Nat) {x : BaseSet} (h : bit x.flags 0 = false ∨ bit x.flags 2 = true) :
    s.encodeSet n x = s.withhold (if bit x.flags 0 then 2 else 1) n := by
  unfold State.encodeSet
  cases h0 : bit x.flags 0 with
  | false => rfl
  | true =>
    have h2 : bit x.flags 2 = true := h.resolve_left (by simp [h0])
    simp [h2]

theorem State.encodeSet_sent (s : State) (n : Nat) {x : BaseSet} (h0 : bit x.flags 0 = true) (h2 : bit x.flags 2 = false) :
    s.encodeSet n x =
      if s.flag BSL_CFG_CORR_BEACON && decide (128 < (s.corrFragments x).length) then s.withhold 4 n else s.sendCorr n x := by
  simp [State.encodeSet, h0, h2]

/-! ### RAWOBS_ACCEPT (R194, R196, R197) -/

/-- The element is off the fleet link's deliveries. -/
def State.tookElem (s : State) (f : FleetIn) : State := s.setFlt { s.flt with inbox := s.flt.inbox.erase f }

/-- A RAWOBS is rejected: counted, and recorded once per superframe for its robot. -/
def State.rejectObs (s : State) (f : FleetIn) (c : Nat) : State :=
  let rover := tgetD s.bsl.rovers f.robot {}
  let s := s.count BSL_OBS_REJECT 1
  if rover.rejectSf = some (s.sn / 40) then s
  else
    let s := s.setBsl { s.bsl with rovers := tput s.bsl.rovers f.robot { rover with rejectSf := some (s.sn / 40) } }
    s.record EV_OBS_REJECTED 0 f.robot c (leAt f.body 0 8)

/-- The solution job that a RAWOBS of a rover becomes. -/
def State.obsJob (s : State) (x : Rover) (f : FleetIn) : Solve :=
  ⟨leAt f.body 0 8, f.arrival, f.arrival + s.get BSL_CFG_DEADLINE, f.body, s.bsl.nextOrder,
    (match x.waiting with | some w => w.slipped | none => []) ++ slipped x.slips (obsSlips f.body)⟩

/-- A job that waits for the rover is superseded. -/
def State.supersede (s : State) (x : Rover) (f : FleetIn) : State :=
  match x.waiting with
  | some w => (s.count BSL_SUPERSEDED 1).record EV_SUPERSEDED 0 f.robot w.epochSn 0
  | none => s

/-- The solution job waits for its rover. -/
def State.queueObs (s : State) (x : Rover) (f : FleetIn) : State :=
  s.setBsl { s.bsl with
    rovers := tput s.bsl.rovers f.robot
      { x with lastEpoch := some (leAt f.body 0 8), waiting := some (s.obsJob x f), slips := obsSlips f.body }
    nextOrder := s.bsl.nextOrder + 1 }

theorem tgetD_tput {V : Type} (t : Tab V) (k : Nat) (v w : V) : tgetD (tput t k v) k w = v := by
  simp [tgetD, tget_tput]

theorem State.rover_queueObs (s : State) (x : Rover) (f : FleetIn) : tgetD (s.queueObs x f).bsl.rovers f.robot {} =
    { x with lastEpoch := some (leAt f.body 0 8), waiting := some (s.obsJob x f), slips := obsSlips f.body } :=
  tgetD_tput _ _ _ _

theorem State.supersede_flt (s : State) (x : Rover) (f : FleetIn) : (s.supersede x f).flt = s.flt := by
  unfold State.supersede
  split <;> simp

theorem State.supersede_deadline (s : State) (x : Rover) (f : FleetIn) :
    (s.supersede x f).get BSL_CFG_DEADLINE = s.get BSL_CFG_DEADLINE := by
  unfold State.supersede
  split
  · exact congrArg (bitsOf · _ _) (State.rd_setNum_ne _ _ (by decide))
  · rfl

section
variable {s : State} {f : FleetIn} (hs : s.serving = true) (hf : (s.flt.inbox.find? fun f => f.typ == 0x20) = some f)
  (he : s.flag BSL_CFG_ENABLE = true)
include hs hf he

theorem exec_rawobsAccept_rejected {c : Nat} (hc : (s.tookElem f).obsCause f = some c) :
    exec .rawobsAccept s = .next ((s.tookElem f).rejectObs f c) := by
  have he' : (s.tookElem f).flag BSL_CFG_ENABLE = true := he
  change execRawobsAccept s = _
  unfold execRawobsAccept
  unfold State.tookElem at hc he'
  simp only [hs, hf, he', hc]
  rfl

theorem exec_rawobsAccept_queued (hc : (s.tookElem f).obsCause f = none) :
    let x := tgetD s.bsl.rovers f.robot {}
    exec .rawobsAccept s = .next ((((s.tookElem f).supersede x f).queueObs x f).startSolves 16) := by
  intro x
  have he' : (s.tookElem f).flag BSL_CFG_ENABLE = true := he
  change execRawobsAccept s = _
  unfold execRawobsAccept
  rw [hs, hf]
  change Host.Outcome.next (if !(s.tookElem f).flag BSL_CFG_ENABLE then s.tookElem f else match (s.tookElem f).obsCause f with
    | some c => (s.tookElem f).rejectObs f c
    | none => (((s.tookElem f).supersede x f).queueObs x f).startSolves 16) = _
  rw [he', hc]
  rfl

end

theorem State.rejectObs_fields (s : State) (f : FleetIn) (c : Nat) :
    (s.rejectObs f c).flt = s.flt ∧ (s.rejectObs f c).num BSL_OBS_REJECT = (s.num BSL_OBS_REJECT + 1) % 2 ^ 32 ∧
      (s.rejectObs f c).bsl.sets = s.bsl.sets ∧ (s.rejectObs f c).bsl.fixes = s.bsl.fixes := by
  unfold State.rejectObs
  dsimp only
  split
  · exact ⟨rfl, State.num_setNum _ _ _, rfl, rfl⟩
  · refine ⟨by simp, ?_, by simp, by simp⟩
    rw [State.record_num]
    exact State.num_setNum _ _ _

/-! ### FIX_COMMIT (R198, R203): what its outputs leave unchanged -/

/-- Rovers, fixes for the allotment engine, solutions counted and jobs. -/
def State.solveView (s : State) : Tab Rover × List FixIn × Nat × List Job := (s.bsl.rovers, s.bsl.fixes, s.num BSL_SOLVED, s.disp.jobs)

theorem State.solveView_setNum (s : State) {a : Nat} (v : Nat) (h : a ≠ BSL_SOLVED) : (s.setNum a v).solveView = s.solveView :=
  congrArg (fun n => (s.bsl.rovers, s.bsl.fixes, n, s.disp.jobs)) (State.num_setNum_ne s v h)

theorem State.solveView_peak (s : State) {a : Nat} (v : Nat) (h : a ≠ BSL_SOLVED) : (s.peak a v).solveView = s.solveView := by
  unfold State.peak
  split
  · exact s.solveView_setNum v h
  · rfl

theorem State.solveView_notePeak (s : State) (ns : Nat) : (s.notePeak 1 ns).solveView = s.solveView := by
  unfold State.notePeak
  split
  · exact s.solveView_peak _ (by decide)
  · rfl

@[simp] theorem State.solveView_record (s : State) (c x p q r : Nat) : (s.record c x p q r).solveView = s.solveView := by
  simp [State.solveView]

theorem State.solveView_addDue (s : State) (c : DueCpl) : (s.addDue c).solveView = s.solveView := by
  unfold State.addDue
  split <;> rfl

theorem State.solveView_deliverFrom (s : State) (g o r : Nat) (b : List Byte) (due : DueWhen) (n : Nat) :
    (s.deliverFrom g o r b due n).1.solveView = s.solveView := by
  induction n generalizing s with
  | zero => rfl
  | succ n ih =>
    unfold State.deliverFrom
    split
    · rfl
    · dsimp only
      split
      · rw [ih, State.solveView_addDue]; rfl
      · rw [State.solveView_addDue]; rfl

theorem State.solveView_deliver (s : State) (g o r : Nat) (b : List Byte) (due : DueWhen) :
    (s.deliver g o r b due).1.solveView = s.solveView := by
  unfold State.deliver
  split
  · exact State.solveView_deliverFrom _ _ _ _ _ _ _
  · exact State.solveView_deliverFrom _ _ _ _ _ _ _

theorem State.solveView_bslItem (s : State) (g o r : Nat) (b : List Byte) : (s.bslItem g o r b).solveView = s.solveView := by
  have hd := s.solveView_deliver g o r b s.replDue
  unfold State.bslItem
  generalize s.deliver g o r b s.replDue = x at hd
  obtain ⟨t, found⟩ := x
  have hc : (t.count BSL_HOST_MISS 1).solveView = s.solveView := (t.solveView_setNum _ (by decide)).trans hd
  dsimp only
  split
  · exact hd
  · rw [apply_ite State.solveView, State.solveView_record]
    exact (ite_self _).trans hc

theorem State.solveView_queueElem (s : State) (r k e : Nat) (x : Elem) : (s.queueElem r k e x).solveView = s.solveView := by
  unfold State.queueElem
  split <;> rfl

/-! ### FIX_COMMIT: what it does -/

/-- What a committed fix changes is recorded: slips, innovations, a long baseline, the status. -/
def State.recordFix (s : State) (n : Nat) (r : Rover) (x : RoverSol) (slips innov : List (Nat × Nat)) (long : Bool) (st : Nat) : State :=
  let s := if slips.isEmpty then s else s.record EV_AMB_RESET 0 n slips.length 1
  let s := if innov.isEmpty then s else s.record EV_AMB_RESET 0 n innov.length 2
  let s := if long && !r.long then s.record EV_BASELINE_LONG 0 n x.baseline 0 else s
  if st != r.status then s.record EV_FIX_STATUS 0 n r.status st else s

/-- The rover takes the fix, which is counted. -/
def State.storeFix (s : State) (n : Nat) (r : Rover) (fixed steps : Nat) : State :=
  (((s.setBsl { s.bsl with rovers := tput s.bsl.rovers n r }).count BSL_SOLVED 1).count BSL_FIXED fixed).peak BSL_PEAK_STEPS steps

/-- The fix goes to the allotment engine, with a job for it. -/
def State.giveFix (s : State) (n : Nat) (body : List Byte) : State :=
  (s.setBsl { s.bsl with fixes := insertFix ⟨s.sn, n, body⟩ s.bsl.fixes }).addJob
    { id := 0, src := .element 0x06 n s.sn 0, cls := 2, prio := 1, phase := .presented }

/-- The fix goes to the host and to the robot. -/
def State.sendFix (s : State) (n epoch : Nat) (body bytes : List Byte) : State :=
  ((s.drawn.notePeak 1 (Config.recNs s.free % 250020)).fixOut n bytes).queueElem n 5 epoch ⟨0x06, n, body⟩

theorem State.solveView_recordFix (s : State) (n : Nat) (r : Rover) (x : RoverSol) (slips innov : List (Nat × Nat)) (long : Bool)
    (st : Nat) : (s.recordFix n r x slips innov long st).solveView = s.solveView := by
  simp only [State.recordFix, apply_ite State.solveView, State.solveView_record, ite_self]

theorem State.solveView_storeFix (s : State) (n : Nat) (r : Rover) (fixed steps : Nat) :
    (s.storeFix n r fixed steps).solveView = (tput s.bsl.rovers n r, s.bsl.fixes, (s.num BSL_SOLVED + 1) % 2 ^ 32, s.disp.jobs) := by
  unfold State.storeFix State.count
  rw [State.solveView_peak _ _ (by decide), State.solveView_setNum _ _ (by decide)]
  exact congrArg (fun n => (_, _, n, _)) (State.num_setNum _ _ _)

theorem State.solveView_sendFix (s : State) (n epoch : Nat) (body bytes : List Byte) :
    (s.sendFix n epoch body bytes).solveView = s.solveView := by
  unfold State.sendFix State.fixOut
  rw [State.solveView_queueElem, State.solveView_bslItem, State.solveView_notePeak]
  rfl

section
variable {s : State} {n : Nat} {r : Rover} {w : Solve} {x : RoverSol} (hs : s.serving = true) (hr : tget s.bsl.rovers n = some r)
  (hw : r.running = some w)
include hs hr hw

theorem exec_fixCommit_late (hl : (!s.shadows && (decide (w.deadline < s.sn) || (w.deadline == s.sn && s.disp.closed))) = true) :
    exec (.fixCommit n x) s = .next s := by
  change execFixCommit n x s = _
  unfold execFixCommit
  rw [hs, hr]
  rw [if_neg (by decide)]
  dsimp -zeta only
  rw [hw]
  dsimp -zeta only
  rw [if_pos hl]

/-- A solution in time is stored with its rover, recorded, given to the allotment engine and sent. -/
theorem exec_fixCommit (hl : (!s.shadows && (decide (w.deadline < s.sn) || (w.deadline == s.sn && s.disp.closed))) = false) :
    let st := s.fixStatus r w x
    let body := s.fixBody w.epochSn st x
    ∃ r' bytes fixed steps slips innov long,
      exec (.fixCommit n x) s = .next
        (((((s.storeFix n r' fixed steps).recordFix n r x slips innov long st).giveFix n body).sendFix n w.epochSn body
          bytes).startSolves 16) ∧
      r'.running = none ∧ r'.fix = some bytes ∧ r'.status = st := by
  intro st body
  change ∃ r' bytes fixed steps slips innov long, execFixCommit n x s = _ ∧ _
  unfold execFixCommit
  rw [hs, hr]
  rw [if_neg (by decide)]
  dsimp -zeta only
  rw [hw]
  dsimp -zeta only
  rw [if_neg (by rw [hl]; exact Bool.false_ne_true)]
  exact ⟨_, _, _, _, _, _, _, rfl, rfl, rfl, rfl⟩

end

theorem State.sn_fixed (s : State) (n : Nat) (r' : Rover) (fixed steps : Nat) (r : Rover) (x : RoverSol) (slips innov : List (Nat × Nat))
    (long : Bool) (st : Nat) : ((s.storeFix n r' fixed steps).recordFix n r x slips innov long st).sn = s.sn := by
  have hr : ∀ t : State, (t.recordFix n r x slips innov long st).sn = t.sn := fun t => by
    simp only [State.recordFix, apply_ite State.sn, State.record_sn, ite_self]
  rw [hr]
  unfold State.storeFix State.peak
  split <;> rfl

/-- The job that a committed fix makes for the allotment engine. -/
def fixJob (id n sn : Nat) : Job := { id := id, src := .element 0x06 n sn 0, cls := 2, prio := 1, phase := .presented }

theorem State.solveView_giveFix (s : State) (n : Nat) (body : List Byte) : (s.giveFix n body).solveView =
    (s.solveView.1, insertFix ⟨s.sn, n, body⟩ s.solveView.2.1, s.solveView.2.2.1,
      s.solveView.2.2.2 ++ [fixJob s.disp.nextId n s.sn]) := rfl

/-- A solution in time: the fix is with the rover and the allotment engine, one more is solved, and a job is made. -/
theorem exec_fixCommit_view {s : State} {n : Nat} {r : Rover} {w : Solve} {x : RoverSol} (hs : s.serving = true)
    (hr : tget s.bsl.rovers n = some r) (hw : r.running = some w)
    (hl : (!s.shadows && (decide (w.deadline < s.sn) || (w.deadline == s.sn && s.disp.closed))) = false) :
    ∃ (u : State) (r' : Rover) (i : Nat), exec (.fixCommit n x) s = .next (u.startSolves 16) ∧
      u.solveView = (tput s.bsl.rovers n r', insertFix ⟨s.sn, n, s.fixBody w.epochSn (s.fixStatus r w x) x⟩ s.bsl.fixes,
        (s.num BSL_SOLVED + 1) % 2 ^ 32, s.disp.jobs ++ [fixJob i n s.sn]) ∧
      r'.running = none ∧ r'.fix.isSome = true ∧ r'.status = s.fixStatus r w x := by
  obtain ⟨r', bytes, fixed, steps, slips, innov, long, he, hrun, hfix, hst⟩ := exec_fixCommit (x := x) hs hr hw hl
  refine ⟨_, r', ?id, he, ?view, hrun, by rw [hfix]; rfl, hst⟩
  case view => rw [State.solveView_sendFix, State.solveView_giveFix, State.solveView_recordFix, State.solveView_storeFix, State.sn_fixed]

/-! ### The ring commands (R208) -/

/-- The options that a BSL_ROVER_CFG gives a rover. -/
def Rover.configured (x : Rover) (d : Desc) : Rover :=
  { x with
    accH := if d.op 36 2 = 0 then 2000 else d.op 36 2
    accV := if d.op 38 2 = 0 then 500 else d.op 38 2
    floatOnly := bit (d.op 33 1) 1 }

/-- A rover without ambiguities and jobs. -/
def Rover.dropped (x : Rover) : Rover := { x with held := 0, fixed := 0, ambs := [], outs := [], waiting := none, running := none }

/-- A rover's record replaced. -/
def State.setRover (s : State) (n : Nat) (x : Rover) : State := s.setBsl { s.bsl with rovers := tput s.bsl.rovers n x }

theorem State.rover_setRover (s : State) (n : Nat) (x : Rover) : tgetD (s.setRover n x).bsl.rovers n {} = x := tgetD_tput _ _ _ _

section
variable {s : State} {d : Desc} (h : Runs s d)
include h

theorem exec_bslRoverCfg : exec (.bslRoverCfg d) s = .next (s.finish d (if !s.centralRobot (d.op 32 1) then s.fail 0x10 else
    let x := tgetD s.bsl.rovers (d.op 32 1) {}
    let reset := bit (d.op 33 1) 0
    let u := (s.setRover (d.op 32 1) (if reset then (x.configured d).dropped else x.configured d)).startSolves 16
    (if reset && x.held != 0 then u.record EV_AMB_RESET 0 (d.op 32 1) x.held 3 else u).ok)) :=
  h.next_command rfl

theorem exec_bslRoverQuery : exec (.bslRoverQuery d) s = .next (s.finish d (if !s.centralRobot (d.op 32 1) then s.fail 0x10 else
    let x := tgetD s.bsl.rovers (d.op 32 1) {}
    s.answer d (slice (x.fix.getD []) 0 48 ++ leBytes 8 (x.lastEpoch.getD 0) ++ leBytes 2 x.held ++ leBytes 2 x.fixed ++
      leBytes 1 (b2n x.waiting.isSome) ++ List.replicate 3 0))) :=
  h.next_command rfl

theorem exec_bslRoverCfg_kept (hc : s.centralRobot (d.op 32 1) = true) (hr : bit (d.op 33 1) 0 = false) :
    exec (.bslRoverCfg d) s =
      .next (s.finish d ((s.setRover (d.op 32 1) ((tgetD s.bsl.rovers (d.op 32 1) {}).configured d)).startSolves 16).ok) := by
  simp [exec_bslRoverCfg h, hc, hr]

theorem exec_bslRoverCfg_reset (hc : s.centralRobot (d.op 32 1) = true) (hr : bit (d.op 33 1) 0 = true) :
    let n := (tgetD s.bsl.rovers (d.op 32 1) {}).held
    let u := (s.setRover (d.op 32 1) ((tgetD s.bsl.rovers (d.op 32 1) {}).configured d).dropped).startSolves 16
    exec (.bslRoverCfg d) s = .next (s.finish d (if n = 0 then u else u.record EV_AMB_RESET 0 (d.op 32 1) n 3).ok) := by
  rw [exec_bslRoverCfg h, hc, hr]
  by_cases hn : (tgetD s.bsl.rovers (d.op 32 1) {}).held = 0
  · simp [hn]
  · simp [hn]

theorem exec_bslSetRead : exec (.bslSetRead d) s = .next (s.finish d (match s.baseSet (d.op 32 8) with
    | none => s.fail stSTALE
    | some x => s.answer d x.bytes x.entries.length)) :=
  h.next_command rfl

end

/-- Settles O26: the job of each stroke or element by its case; a fix in time through the part of the state that its outputs leave
unchanged. -/
theorem baselineSolvesAndCorrects : Obligations.BaselineSolvesAndCorrects := by
  refine ⟨?missing, ?withheld, ?sent, ?rejected, ?queued, ?fixInTime, ?fixLate, ?cfgKept, ?cfgReset, ?refused, ?query, ?setHeld,
    ?setStale, ?station⟩
  case missing =>
    rintro j n s v hs hj rfl he hb
    rw [exec_correctionEncode hs hj, State.encodeCorr_missing he hb]
  case withheld =>
    rintro j n x s v hs hj rfl he hb hx
    rw [exec_correctionEncode hs hj, State.encodeCorr_held he hb, State.encodeSet_withheld _ n hx]
    rfl
  case sent =>
    rintro j n x s v u f hs hj rfl he hb h0 h2 rfl rfl
    rw [exec_correctionEncode hs hj, State.encodeCorr_held he hb, State.encodeSet_sent _ n h0 h2]
    rfl
  case rejected =>
    intro f c s hs hf he hc
    obtain ⟨hflt, hnum, hsets, hfixes⟩ := (s.tookElem f).rejectObs_fields f c
    exact ⟨_, exec_rawobsAccept_rejected hs hf he hc, by rw [hflt]; rfl, hnum, hsets, hfixes⟩
  case queued =>
    rintro f s v hs hf he rfl hc
    refine ⟨_, exec_rawobsAccept_queued hs hf he hc, ?_⟩
    rw [State.rover_queueObs]
    refine ⟨?_, rfl, rfl, ?_⟩
    · simp only [State.obsJob, State.supersede_deadline, Option.map_some]
      rfl
    · exact (congrArg (fun x : Fleet => x.inbox) (State.supersede_flt _ _ f)).trans rfl
  case fixInTime =>
    intro n r w x s hs hr hw hl
    obtain ⟨u, r', i, he, hv, hrun, hfix, hst⟩ := exec_fixCommit_view (x := x) hs hr hw hl
    injection hv with hrovers hv
    injection hv with hfixes hv
    injection hv with hsolved hjobs
    refine ⟨u, he, ⟨r', by rw [hrovers, tget_tput, if_pos rfl], hrun, hfix, hst⟩, hsolved, hfixes, ?_⟩
    rw [hjobs, List.any_append]
    simp [fixJob]
  case fixLate =>
    intro n r w x s hs hr hw hl
    exact exec_fixCommit_late hs hr hw hl
  case cfgKept =>
    intro d s h hc hr
    refine ⟨_, exec_bslRoverCfg_kept h hc hr, ?_⟩
    rw [State.rover_setRover]
    exact ⟨rfl, rfl, rfl, fun r hne => (tget_tput _ r _).trans (if_neg hne.symm)⟩
  case cfgReset =>
    intro d s h hc hr
    refine ⟨_, exec_bslRoverCfg_reset h hc hr, ?_⟩
    rw [State.rover_setRover]
    exact ⟨rfl, rfl, rfl, rfl, rfl⟩
  case refused =>
    intro d s h hc
    exact ⟨by simp [exec_bslRoverCfg h, hc], by simp [exec_bslRoverQuery h, hc]⟩
  case query =>
    intro d s h hc
    simp [exec_bslRoverQuery h, hc]
  case setHeld =>
    intro d x s h hx
    rw [exec_bslSetRead h, hx]
  case setStale =>
    intro d s h hx
    rw [exec_bslSetRead h, hx]
  case station =>
    intro d s h
    exact h.next_command rfl

/-! ### Ring set-up (R62, R80) -/

/-- The word that a write of a ring's CFG register stores: the size of an enabled ring stays, reserved bits read 0. -/
def cfgWord (cq keepSize : Bool) (v old : Word) : Word :=
  let v := if keepSize then withBits v 16 5 (bitsOf old 16 5) else v
  if cq then withBits (withBits (withBits v 1 7 0) 14 2 0) 21 11 0 else withBits (withBits (withBits v 1 3 0) 14 2 0) 21 11 0

/-- A write of an enabled ring's CFG register that would change its size. -/
def State.resizes (s : State) (cq : Bool) (n : Nat) (v : Word) : Bool :=
  s.ringOn cq n && bitsOf v 16 5 != bitsOf (s.rd (ringCfg cq n)) 16 5

/-- A ring's CFG register takes what is written. -/
def State.storeCfg (s : State) (cq : Bool) (n : Nat) (v : Word) : State :=
  let t := s.wr (ringCfg cq n) (cfgWord cq (s.resizes cq n v) v (s.rd (ringCfg cq n)))
  if s.resizes cq n v then t.noteCfgErr cq n 5 else t

/-- The indices of a ring are 0. -/
def State.freshRing (s : State) (cq : Bool) (n : Nat) : State :=
  if cq then s.modCq n fun q => { shown := q.shown } else s.modSq n fun q => { shown := q.shown }

/-- What follows from a ring that was enabled or not. -/
def State.switchRing (s : State) (was cq : Bool) (n : Nat) : State :=
  if !was && s.ringOn cq n then s.freshRing cq n
  else if was && !s.ringOn cq n && !cq then s.abortRing n
  else s

theorem State.writeRingCfg_unlocked {s : State} (cq : Bool) (n : Nat) (v : Word) (hl : s.rwlLocked 4 = false) :
    s.writeRingCfg cq n v = ((s.storeCfg cq n v).switchRing (s.ringOn cq n) cq n).scanRings := by
  change (if s.rwlLocked 4 then _ else _) = _
  rw [hl]
  rfl

theorem ringCfg_ne_cfgErr (cq : Bool) (n : Nat) : ringCfg cq n ≠ RNG_CFG_ERR := by
  unfold ringCfg RNG_CQ_CFG RNG_SQ_CFG RNG_CFG_ERR
  split <;> omega

theorem ringCfg_ne_lostCpl (cq : Bool) (n : Nat) : ringCfg cq n ≠ RNG_LOST_CPL := by
  unfold ringCfg RNG_CQ_CFG RNG_SQ_CFG RNG_LOST_CPL
  split <;> omega

/-- Clearing the reserved bits of a CFG word leaves ENABLE. -/
theorem bitsOf_reserved (v : Word) {k : Nat} (hk : 1 + k ≤ 32) :
    bitsOf (withBits (withBits (withBits v 1 k 0) 14 2 0) 21 11 0) 0 1 = bitsOf v 0 1 := by
  rw [bitsOf_withBits_below _ (by decide) _ (by decide), bitsOf_withBits_below _ (by decide) _ (by decide),
    bitsOf_withBits_below _ hk _ (by decide)]

theorem bitsOf_cfgWord (cq keepSize : Bool) (v old : Word) : bitsOf (cfgWord cq keepSize v old) 0 1 = bitsOf v 0 1 := by
  have hv : bitsOf (if keepSize then withBits v 16 5 (bitsOf old 16 5) else v) 0 1 = bitsOf v 0 1 := by
    split
    · exact bitsOf_withBits_below _ (by decide) _ (by decide)
    · rfl
  cases cq with
  | false => exact (bitsOf_reserved _ (by decide)).trans hv
  | true => exact (bitsOf_reserved _ (by decide)).trans hv

/-! RNG_CFG_ERR is all of the set-up that a fault noted changes. -/

theorem State.rd_noteCfgErr (s : State) (cq : Bool) (n c : Nat) {a : Nat} (h : a ≠ RNG_CFG_ERR) :
    (s.noteCfgErr cq n c).rd a = s.rd a := by
  unfold State.noteCfgErr
  split
  · rfl
  · simp only [State.put, State.rd_wr_ne _ _ h.symm]

theorem State.rings_noteCfgErr (s : State) (cq : Bool) (n c : Nat) : (s.noteCfgErr cq n c).rings = s.rings := by
  unfold State.noteCfgErr
  split
  · rfl
  · rw [State.put_rings, State.put_rings, State.put_rings, State.put_rings]

theorem State.rd_scanRings (s : State) {a : Nat} (h : a ≠ RNG_CFG_ERR) : s.scanRings.rd a = s.rd a := by
  unfold State.scanRings
  split
  · exact State.rd_noteCfgErr _ _ _ _ h
  · rfl

theorem State.rings_scanRings (s : State) : s.scanRings.rings = s.rings := by
  unfold State.scanRings
  split
  · exact State.rings_noteCfgErr _ _ _ _
  · rfl

theorem State.ringOn_scanRings (s : State) (cq : Bool) (n : Nat) : s.scanRings.ringOn cq n = s.ringOn cq n := by
  unfold State.ringOn
  rw [State.rd_scanRings _ (ringCfg_ne_cfgErr cq n)]

theorem State.ringOn_storeCfg (s : State) (cq : Bool) (n : Nat) (v : Word) : (s.storeCfg cq n v).ringOn cq n = (bitsOf v 0 1 == 1) := by
  have hw : ((s.wr (ringCfg cq n) (cfgWord cq (s.resizes cq n v) v (s.rd (ringCfg cq n)))).rd (ringCfg cq n)) =
      cfgWord cq (s.resizes cq n v) v (s.rd (ringCfg cq n)) := State.rd_wr_same _ _ _
  unfold State.ringOn State.storeCfg
  dsimp only
  split
  · rw [State.rd_noteCfgErr _ _ _ _ (ringCfg_ne_cfgErr cq n), hw, bitsOf_cfgWord]
  · rw [hw, bitsOf_cfgWord]

theorem State.ringOn_freshRing (s : State) (cq : Bool) (n : Nat) : (s.freshRing cq n).ringOn cq n = s.ringOn cq n := by
  unfold State.freshRing
  split <;> rfl

/-! Of the registers, descriptors that end change the count of lost completions alone. -/

theorem State.rd_addDue (s : State) (c : DueCpl) (a : Nat) : (s.addDue c).rd a = s.rd a := by
  unfold State.addDue
  split <;> rfl

theorem State.rd_complete (s : State) (d : Desc) (st r : Nat) (b : List Byte) (n : Nat) (due : DueWhen) {a : Nat} (h : a ≠ RNG_LOST_CPL) :
    (s.complete d st r b n due).rd a = s.rd a := by
  unfold State.complete State.count
  simp only [apply_ite (State.rd · a), State.rd_addDue, State.rd_setNum_ne _ _ h]
  simp only [State.setRings, State.unreserve, State.rd, ite_self]

theorem State.rd_freeDomain (s : State) (n a : Nat) : (s.freeDomain n).rd a = s.rd a := by
  unfold State.freeDomain
  split
  · rfl
  · split
    · split <;> rfl
    · rfl

theorem State.rd_noteAbandoned (s : State) (j : Job) (a : Nat) : (s.noteAbandoned j).rd a = s.rd a := by
  unfold State.noteAbandoned
  split
  · split <;> rfl
  · rfl

theorem State.rd_abortRing (s : State) (n : Nat) {a : Nat} (h : a ≠ RNG_LOST_CPL) : (s.abortRing n).rd a = s.rd a := by
  have hj : ∀ (t : State) (j : Job), (((t.noteAbandoned j).dropJob j.id).freeDomain j.domain).rd a = t.rd a := fun t j =>
    (State.rd_freeDomain _ _ a).trans (t.rd_noteAbandoned j a)
  refine foldl_keeps (State.rd · a) _ _ s fun t j => ?_
  dsimp only
  split
  · exact (State.rd_complete _ _ _ _ _ _ _ h).trans (hj t j)
  · exact hj t j

theorem State.ringOn_switchRing (s : State) (was cq : Bool) (n : Nat) : (s.switchRing was cq n).ringOn cq n = s.ringOn cq n := by
  unfold State.switchRing
  split
  · exact s.ringOn_freshRing cq n
  · split
    · exact congrArg (fun w => bitsOf w 0 1 == 1) (s.rd_abortRing n (ringCfg_ne_lostCpl cq n))
    · rfl

theorem State.ringOn_writeRingCfg {s : State} (cq : Bool) (n : Nat) (v : Word) (hl : s.rwlLocked 4 = false) :
    (s.writeRingCfg cq n v).ringOn cq n = (bitsOf v 0 1 == 1) := by
  rw [State.writeRingCfg_unlocked cq n v hl, State.ringOn_scanRings, State.ringOn_switchRing, State.ringOn_storeCfg]

/-- An element of a list replaced is the replacement, and the default beyond its end. -/
theorem lmod_getD {V : Type} (l : List V) (i : Nat) (f : V → V) (v : V) {P : V → Prop} (hf : ∀ x, P (f x)) (hv : P v) :
    P ((lmod l i f).getD i v) := by
  unfold lmod
  rcases h : l[i]? with _ | x
  · simpa [h] using hv
  · obtain ⟨hi, -⟩ := List.getElem?_eq_some_iff.mp h
    simpa [hi] using hf x

/-- A ring set on has indices 0. -/
theorem State.indices_freshRing (s : State) (cq : Bool) (n : Nat) :
    if cq then ((s.freshRing cq n).cq n).prod = 0 ∧ ((s.freshRing cq n).cq n).cons = 0
    else ((s.freshRing cq n).sq n).prod = 0 ∧ ((s.freshRing cq n).sq n).cons = 0 := by
  cases cq with
  | true => exact lmod_getD (P := fun q : CqRing => q.prod = 0 ∧ q.cons = 0) _ _ _ _ (fun _ => ⟨rfl, rfl⟩) ⟨rfl, rfl⟩
  | false => exact lmod_getD (P := fun q : SqRing => q.prod = 0 ∧ q.cons = 0) _ _ _ _ (fun _ => ⟨rfl, rfl⟩) ⟨rfl, rfl⟩

theorem State.rings_writeRingCfg_enable {s : State} (cq : Bool) (n : Nat) {v : Word} (hl : s.rwlLocked 4 = false)
    (hs : s.ringOn cq n = false) (hv : bitsOf v 0 1 = 1) : (s.writeRingCfg cq n v).rings = ((s.storeCfg cq n v).freshRing cq n).rings := by
  rw [State.writeRingCfg_unlocked cq n v hl, State.rings_scanRings, hs, State.switchRing, State.ringOn_storeCfg, hv]
  rfl

section
variable {s : State} (hm : s.mainLive = true) (hc : s.capAbsent 4 = false)
include hm hc

theorem exec_ringEnable (cq : Bool) {n : Nat} (v : Word) (hn : n < 64) :
    exec (.ringEnable cq n v) s = .next (s.writeRingCfg cq n (withBits v 0 1 1)) := by
  change execRingEnable cq n v s = _
  simp [execRingEnable, hm, hc, hn]

theorem exec_ringDisable (cq : Bool) {n : Nat} (v : Word) (hn : n < 64) :
    exec (.ringDisable cq n v) s = .next (s.writeRingCfg cq n (withBits v 0 1 0)) := by
  change execRingDisable cq n v s = _
  simp [execRingDisable, hm, hc, hn]

theorem exec_sqFaultClear (hi : Bool) (v : Word) :
    let a := if hi then RNG_SQ_FAULT_HI else RNG_SQ_FAULT_LO
    exec (.sqFaultClear hi v) s = .next (s.wr a (s.rd a &&& ~~~v)) := by
  change execSqFaultClear hi v s = _
  simp [execSqFaultClear, hm, hc]

theorem exec_cqFaultClear (hi : Bool) (v : Word) :
    let a := if hi then RNG_CQ_FAULT_HI else RNG_CQ_FAULT_LO
    exec (.cqFaultClear hi v) s = .next (s.wr a (s.rd a &&& ~~~v)) := by
  change execCqFaultClear hi v s = _
  simp [execCqFaultClear, hm, hc]

end

theorem State.writeRingCfg_locked {s : State} (cq : Bool) (n : Nat) (v : Word) (hl : s.rwlLocked 4 = true) :
    s.writeRingCfg cq n v = s.lockedWrite (ringCfg cq n) v := by
  change (if s.rwlLocked 4 then _ else _) = _
  rw [hl]
  rfl

/-! ### Doorbell reads and fetches (R58, R63 to R67) -/

theorem exec_doorbellRead (fast late : Bool) (ps cs : List Nat) {s : State} (hs : s.serving = true) (hp : s.pagesOk = true) :
    exec (.doorbellRead fast late ps cs) s =
      .next ((List.range 64).foldl (fun t n => if !fast || t.fastPolled (n / 4) then t.readProd n (ps.getD n 0 % 2 ^ 32) else t)
        ((List.range 64).foldl (fun t n => t.readCons n (cs.getD n 0 % 2 ^ 32)) (if late then s.count RNG_DB_LATE 1 else s))) := by
  change execDoorbellRead fast late ps cs s = _
  unfold execDoorbellRead
  rw [hs, hp]
  rfl

theorem State.readProd_live {s : State} {n : Nat} (p : Nat) (hl : s.ringLive false n = true) (hf : s.ringFault false n = false) :
    s.readProd n p = if s.ringSize false n < idxSub p (s.sq n).cons
      then ((s.setRingFault false n).modSq n fun q => { q with prod := (s.sq n).cons }).record EV_RING_RUNAWAY 0 n p (s.sq n).cons
      else s.modSq n fun q => { q with prod := p } := by
  simp [State.readProd, hl, hf]

theorem State.readCons_live {s : State} {n : Nat} (p : Nat) (hl : s.ringLive true n = true) (hf : s.ringFault true n = false) :
    s.readCons n p = if s.ringSize true n < idxSub (s.cq n).prod p
      then (s.setRingFault true n).record EV_CQ_RUNAWAY 0 n p (s.cq n).prod
      else s.modCq n fun q => { q with cons := p } := by
  simp [State.readCons, hl, hf]

/-- The chain is consumed, with a completion reserved for each member. -/
def State.takeChain (s : State) (r n : Nat) : State :=
  (s.modSq r fun q => { q with cons := (q.cons + n) % 2 ^ 32 }).modCq (s.cqOf r) fun x => { x with reserved := x.reserved + n }

/-- The chain taken enters the dispatcher; one of 16 members without an end is refused. -/
def State.enterTaken (s : State) (ds : List Desc) : State :=
  if ds.length == 16 && (match ds.getLast? with | some d => d.chain | none => false) then
    ds.foldl (fun t d => t.endEarly d (if t.classAbsent d.ringClass then stABSENT else stBAD_DESC)) s
  else s.enterChain none false (match ds with | d :: _ => d.notBefore | [] => 0) ds

/-- The first member of a chain waits for its stroke on a timer. -/
def State.wantsTimer (s : State) (ds : List Desc) : Bool :=
  decide (s.sn < match ds with | d :: _ => d.notBefore | [] => 0) &&
    match ds with | d :: _ => (s.earlyEnd d).isNone && !d.slotless | [] => false

theorem State.wantsTimer_eq (s : State) (ds : List Desc) : s.wantsTimer ds =
    match ds with | d :: _ => decide (s.sn < d.notBefore) && (s.earlyEnd d).isNone && !d.slotless | [] => false := by
  cases ds with
  | nil => exact Bool.and_false _
  | cons d ds => exact (Bool.and_assoc _ _ _).symm

/-- A member of a chain of a ring stands behind a fence. -/
def State.fencedOn (s : State) (r : Nat) : Bool :=
  s.disp.jobs.any fun j => j.phase == .fenced && (match j.desc with | some d => d.ring == r | none => false)

/-- Jobs presented and not yet stamped. -/
def State.presentedJobs (s : State) : Nat := (s.disp.jobs.filter fun j => j.phase == .presented && !j.isPeriodic).length

theorem exec_descriptorFetch {s : State} {r : Nat} {raw : List (List Byte × List Byte)} {ds : List Desc} (hs : s.serving = true)
    (hr : r < 64) (hl : s.ringLive false r = true) (hf : s.ringFault false r = false) (hcf : s.ringFault true (s.cqOf r) = false)
    (hd : readDescs r (s.sq r).cons raw = ds) (hsh : chainShape ds = true) (hn : ds.length ≤ idxSub (s.sq r).prod (s.sq r).cons)
    (hfree : ds.length ≤ s.cqFree (s.cqOf r)) (hh : (s.disp.held.contains r && r / 4 != 9) = false)
    (hslots : r / 4 = 9 ∨ s.presentedJobs + ds.length ≤ s.slotsFree) (hfence : s.fencedOn r = false)
    (ht : s.wantsTimer ds = true → s.timerFree = true) :
    exec (.descriptorFetch r raw) s = .next ((((s.takeChain r ds.length).enterTaken ds).pressure).showDisp) := by
  subst hd
  have hroom : (!(r / 4 == 9) && decide (s.slotsFree < s.presentedJobs + (readDescs r (s.sq r).cons raw).length)) = false := by
    rcases hslots with h | h
    · simp [h]
    · simp [Nat.not_lt.mpr h]
  have htimer : (s.wantsTimer (readDescs r (s.sq r).cons raw) && !s.timerFree) = false := by
    cases h : s.wantsTimer (readDescs r (s.sq r).cons raw) with
    | false => rfl
    | true => simp [ht h]
  change execDescriptorFetch r raw s = _
  unfold execDescriptorFetch
  extract_lets q ds n c stop held waiting nb wants
  have hheld : (held || (!stop && decide (s.slotsFree < waiting + n))) = false := Bool.or_eq_false_iff.mpr ⟨hh, hroom⟩
  have hwants : (wants && !s.timerFree) = false := htimer
  rw [if_neg (by simp [hs, hr, hl, hf, c, hcf]), if_neg (by simp [ds, n, c, q, hsh, hn, hfree]), hheld, hwants]
  exact congrArg Host.Outcome.next (if_neg (ne_true_of_eq_false hfence))

/-! ### Host memory errors (R66, R526) -/

/-- A host memory error is counted and recorded, and sets its bit of the error status. -/
def State.noteDma (s : State) (ring : Nat) (h : DmaEnd) (a : Nat) : State :=
  let u := (s.count RNG_DMA_ERR 1).record EV_HOST_DMA_ERROR 0 ring h.code (lo32 a)
  match h.aer with
  | some b => u.setRings { u.rings with pcie := { u.rings.pcie with aer := setBit u.rings.pcie.aer b } }
  | none => u

theorem exec_hostDmaError_page {s : State} (h : DmaEnd) (a : Nat) (hs : s.serving = true) :
    exec (.hostDmaError none h a) s = .next (s.noteDma 0xFF h a) := by
  change execHostDmaError none h a s = _
  unfold execHostDmaError
  rw [hs]
  rfl

theorem State.noteDma_jobs (s : State) (r : Nat) (h : DmaEnd) (a : Nat) : (s.noteDma r h a).disp.jobs = s.disp.jobs := by
  unfold State.noteDma
  dsimp only
  split <;> simp

theorem exec_hostDmaError_desc {s : State} (h : DmaEnd) (a : Nat) {r n : Nat} {j : Job} {d : Desc} (hs : s.serving = true)
    (hj : (s.disp.jobs.find? fun j => j.isRing r n) = some j) (hd : j.desc = some d) :
    exec (.hostDmaError (some (r, n)) h a) s =
      .next (((s.noteDma r h a).noteAbandoned j).finish d ((s.noteDma r h a).fail stABORTED 2)) := by
  rw [← s.noteDma_jobs r h a] at hj
  change Host.Outcome.next (if !s.serving then s else
    match (s.noteDma r h a).disp.jobs.find? fun j => j.isRing r n with
    | some j => match j.desc with
      | some d => ((s.noteDma r h a).noteAbandoned j).finish d ((s.noteDma r h a).fail stABORTED 2)
      | none => s.noteDma r h a
    | none => s.noteDma r h a) = _
  rw [hs, hj]
  dsimp only
  rw [hd]
  rfl

/-! ### The host-link reset (R51) -/

/-- A job for a ring of this unit, not yet stamped. -/
def Job.unstamped (j : Job) : Bool := !j.stamped && match j.desc with | some d => decide (d.ring < 64) | none => false

/-- The jobs that stay after a host-link reset: those that have descriptors complete no more. -/
def State.orphanJobs (s : State) : State :=
  s.setJobs ((s.disp.jobs.filter fun j => !j.unstamped).map fun j =>
    match j.desc with
    | some d =>
      if j.phase != .waiting && decide (d.ring < 64) then
        { j with desc := some { d with ring := d.ring + 192 }, src := .ring (d.ring + 192) d.index }
      else j
    | none => j)

/-- The rings after a host-link reset. -/
def State.rings0 (s : State) : Rings where
  due := s.rings.due.filter fun c => decide (64 ≤ c.cq)
  forwarded := s.rings.forwarded
  nextFwd := s.rings.nextFwd
  lost := s.rings.lost ++ s.disp.jobs.filterMap fun j => if j.phase == .waiting then j.desc.filter fun d => decide (d.ring < 64) else none
  unlocked := true
  posted := s.rings.posted.filter fun p => decide (64 ≤ p.ring)

/-- The registers of RINGS have their reset values. -/
def State.clearRingRegs (s : State) : State := { s with regs := s.regs.filter fun x => x.1 / 0x10000 != 4 }

/-- The completions that a host-link reset discards. -/
def State.lostAtReset (s : State) : Nat :=
  (s.rings.due.filter fun c => decide (c.cq < 64)).length + (s.disp.jobs.filter Job.unstamped).length

/-- The host link is reset. -/
def State.afterLinkReset (s : State) : State :=
  (((s.orphanJobs.setRings s.rings0).clearRingRegs.count RNG_LOST_CPL s.lostAtReset).record EV_HOST_LINK_RESET 0 s.lostAtReset 0 0).showDisp

theorem exec_hostLinkReset {s : State} (hm : s.mainLive = true) : exec .hostLinkReset s = .next s.afterLinkReset := by
  change Host.Outcome.next (if !s.mainLive then s else _) = _
  rw [hm]
  rfl

/-- What the dispatcher shows is in the stroke controller's registers. -/
theorem State.rd_showDisp (s : State) {a : Nat} (h : a / 0x10000 ≠ 3) : s.showDisp.rd a = s.rd a := by
  have h1 : a ≠ STK_SLOTS_FREE := fun e => h (by rw [e]; rfl)
  have h2 : a ≠ STK_TIMERS_USED := fun e => h (by rw [e]; rfl)
  have h3 : a ≠ STK_SLOTS_LOW := fun e => h (by rw [e]; rfl)
  have h4 : a ≠ STK_STATUS_TIMERS_FULL.addr := fun e => h (by rw [e]; rfl)
  unfold State.showDisp State.put
  simp only [apply_ite (State.rd · a), State.rd_wr_ne _ _ h4.symm, State.rd_setNum_ne _ _ h3, State.rd_setNum_ne _ _ h2,
    State.rd_setNum_ne _ _ h1, ite_self]

theorem State.rings_showDisp (s : State) : s.showDisp.rings = s.rings := by
  simp only [State.showDisp, apply_ite State.rings, State.put_rings, State.setNum_rings, ite_self]

theorem State.dev_showDisp (s : State) : s.showDisp.dev = s.dev := by
  simp only [State.showDisp, apply_ite State.dev, State.put_dev, State.setNum_dev, ite_self]

/-- Registers outside RINGS stay, those of RINGS have no entry. -/
theorem tget_filter {V : Type} (t : Tab V) (p : Nat → Bool) (k : Nat) :
    tget (t.filter fun x => p x.1) k = if p k then tget t k else none := by
  induction t with
  | nil => simp [tget]
  | cons x t ih =>
    obtain ⟨i, v⟩ := x
    by_cases hi : i = k
    · subst hi
      cases hp : p i <;> simp [tget, hp, ih]
    · cases hp : p i <;> simp [tget, hp, ih, hi]

theorem State.rd_clearRingRegs (s : State) (a : Nat) : s.clearRingRegs.rd a = if a / 0x10000 = 4 then regReset a else s.rd a := by
  unfold State.clearRingRegs State.rd cget
  rw [tget_filter s.regs (fun k => k / 0x10000 != 4) a]
  by_cases h : a / 0x10000 = 4
  · simp [h]
  · simp [h]

theorem State.rd_afterLinkReset (s : State) {a : Nat} (h : a / 0x10000 ≠ 3) (hne : a ≠ RNG_LOST_CPL) :
    s.afterLinkReset.rd a = if a / 0x10000 = 4 then regReset a else s.rd a := by
  rw [State.afterLinkReset, State.rd_showDisp _ h, State.record_rd]
  exact (State.rd_setNum_ne _ _ hne).trans (State.rd_clearRingRegs _ a)

/-- Settles O19: a write of a ring's set-up by the word it stores and what follows from it; the host-link reset by the registers
and rings it leaves; each other event by its case. -/
theorem ringsAreSetUpAndServed : Obligations.RingsAreSetUpAndServed := by
  refine ⟨?enable, ?disable, ?locked, ?sqClear, ?cqClear, ?doorbell, ?prod, ?cons, ?fetch, ?dmaPage, ?dmaDesc, ?linkReset⟩
  case enable =>
    intro cq n v s hm hn hc hl ho
    have hv : bitsOf (withBits v 0 1 1) 0 1 = 1 := bitsOf_withBits v (by decide) 1
    refine ⟨_, exec_ringEnable hm hc cq v hn, by rw [State.ringOn_writeRingCfg cq n _ hl, hv]; rfl, ?_⟩
    unfold State.sq State.cq
    rw [State.rings_writeRingCfg_enable cq n hl ho hv]
    exact State.indices_freshRing _ cq n
  case disable =>
    intro cq n v s hm hn hc hl
    have hv : bitsOf (withBits v 0 1 0) 0 1 = 0 := bitsOf_withBits v (by decide) 0
    exact ⟨_, exec_ringDisable hm hc cq v hn, by rw [State.ringOn_writeRingCfg cq n _ hl, hv]; rfl⟩
  case locked =>
    intro cq n v s hm hn hc hl
    rw [exec_ringEnable hm hc cq v hn, exec_ringDisable hm hc cq v hn, State.writeRingCfg_locked cq n _ hl,
      State.writeRingCfg_locked cq n _ hl]
    exact ⟨rfl, rfl⟩
  case sqClear =>
    intro v s hm hc
    exact ⟨exec_sqFaultClear hm hc false v, exec_sqFaultClear hm hc true v⟩
  case cqClear =>
    intro v s hm hc
    exact ⟨exec_cqFaultClear hm hc false v, exec_cqFaultClear hm hc true v⟩
  case doorbell =>
    intro fast late ps cs s hs hp
    exact exec_doorbellRead fast late ps cs hs hp
  case prod =>
    intro n p s hl hf
    exact State.readProd_live p hl hf
  case cons =>
    intro n p s hl hf
    exact State.readCons_live p hl hf
  case fetch =>
    intro r raw ds s hs hr hl hf hcf hd hsh hn hfree hh hslots hfence ht
    refine exec_descriptorFetch hs hr hl hf hcf hd hsh hn hfree hh hslots hfence fun hw => ht ?_
    rw [State.wantsTimer_eq] at hw
    exact hw
  case dmaPage =>
    intro h a s hs
    exact exec_hostDmaError_page h a hs
  case dmaDesc =>
    intro h a r n j d s hs hj hd
    exact exec_hostDmaError_desc h a hs hj hd
  case linkReset =>
    intro s hm
    have hrings : s.afterLinkReset.rings = s.rings0 := by
      rw [State.afterLinkReset, State.rings_showDisp]
      rfl
    have hstatus : s.afterLinkReset.rd SYS_STATUS = s.rd SYS_STATUS := by
      rw [State.rd_afterLinkReset s (by decide) (by decide)]
      rfl
    have hdev : s.afterLinkReset.dev = s.dev := by
      rw [State.afterLinkReset, State.dev_showDisp, State.record_dev, State.count_dev]
      rfl
    refine ⟨_, exec_hostLinkReset hm, congrArg Rings.unlocked hrings, congrArg Rings.sq hrings, congrArg Rings.cq hrings,
      fun c hc => ?_, fun p hp => ?_, congrArg (fun w => bitsOf w 6 1 == 1) hstatus, hdev, fun a ha hne => ?_⟩
    · rw [hrings] at hc
      exact of_decide_eq_true (List.mem_filter.mp hc).2
    · rw [hrings] at hp
      exact of_decide_eq_true (List.mem_filter.mp hp).2
    · rw [State.rd_afterLinkReset s (by rw [ha]; decide) hne, if_pos ha]

end Sys2Proof.Machine

/-! PROOFS. The host, rings and capabilities family: the end of a command, engagement, the common ring commands, and the commands of
the fleet's robots and of track allotment. -/

namespace Sys2Proof.Machine

open Sys2Proof

/-! ### What the end of a command is made of (R38, R66, R67, R70–R72) -/

/-- A relation in which every update of the dispatcher and every completion stands, and which composes. -/
structure EndSteps (R : State → State → Prop) : Prop where
  refl : ∀ s, R s s
  trans : ∀ {s t u}, R s t → R t u → R s u
  disp : ∀ s x, R s (s.setDisp x)
  complete : ∀ s d st n b l w, R s (s.complete d st n b l w)

section
variable {R : State → State → Prop} (h : EndSteps R)
include h

theorem EndSteps.freeDomain (s : State) (n : Nat) : R s (s.freeDomain n) := by
  unfold State.freeDomain
  split
  · exact h.refl s
  · split
    · split
      · exact h.disp s _
      · exact h.refl s
    · exact h.refl s

/-- A chain is aborted member by member: each leaves, completes and frees its domain. -/
theorem EndSteps.abortChain (s : State) (id n : Nat) : R s (s.abortChain id n) := by
  induction n generalizing s id with
  | zero => exact h.refl s
  | succ n ih =>
    unfold State.abortChain
    split
    case h_1 => exact h.refl s
    case h_2 j _ =>
      have hleft : R s (s.dropJob j.id) := h.disp s _
      refine h.trans (h.trans hleft ?_) (h.trans (h.freeDomain _ _) (ih _ _))
      split
      · exact h.complete _ _ _ _ _ _ _
      · exact h.refl _

theorem EndSteps.endJob (s : State) (j : Job) (ok : Bool) : R s (s.endJob j ok) := by
  have hleft : R s ((s.dropJob j.id).freeDomain j.domain) := h.trans (h.disp s _) (h.freeDomain _ _)
  unfold State.endJob
  dsimp only
  split
  · split
    · split
      · exact h.trans hleft (h.disp _ _)
      · exact hleft
    · exact hleft
  · exact h.trans hleft (h.abortChain _ _ _)

theorem EndSteps.startJobs (s : State) (cls n : Nat) : R s (s.startJobs cls n) := by
  induction n generalizing s with
  | zero => exact h.refl s
  | succ n ih =>
    unfold State.startJobs
    split
    · exact h.refl s
    · split
      · exact h.trans (h.disp s _) (ih _)
      · exact h.refl s

/-- A job that commits is counted, and what it gave out is kept (R40, R365). -/
theorem EndSteps.notedJob (s : State) (j : Job) : R s ((s.countPrefix j).noteOut j) := by
  refine h.trans ?_ (h.disp _ _)
  unfold State.countPrefix
  split
  · exact h.disp s _
  · exact h.refl s

theorem EndSteps.endJobOf (s : State) (d : Desc) (ok : Bool) : R s (s.endJobOf d ok) := by
  unfold State.endJobOf
  split
  · exact h.trans (h.trans (h.notedJob s _) (h.endJob _ _ ok)) (h.startJobs _ _ _)
  · exact h.refl s

theorem EndSteps.waitJobOf (s : State) (d : Desc) : R s (s.waitJobOf d) := by
  unfold State.waitJobOf
  split
  · exact h.trans (h.trans (h.notedJob s _) (h.disp _ _)) (h.startJobs _ _ _)
  · exact h.refl s

end

/-- The state that a replicated command leaves has handed out its answer (R365). -/
def State.answered (s : State) (d : Desc) (st : Nat) (r : CmdRes) : State :=
  if s.classRepl d then r.st.handOut (leBytes 1 st ++ leBytes 8 r.result ++ r.bytes) else r.st

theorem State.finish_later (s : State) (d : Desc) {r : CmdRes} (hr : r.status = none) : s.finish d r = r.st.waitJobOf d := by
  unfold State.finish
  rw [hr]

theorem State.finish_ended (s : State) (d : Desc) {r : CmdRes} {st : Nat} (hr : r.status = some st) :
    s.finish d r = ((s.answered d st r).complete { d with bufAddr := d.bufAddr + r.skip } st r.result r.bytes
      (r.len.getD r.bytes.length) ((s.answered d st r).dueOf d)).endJobOf d (st == stOK) := by
  unfold State.finish
  rw [hr]
  rfl

theorem EndSteps.answered {R : State → State → Prop} (h : EndSteps R) (s : State) (d : Desc) (st : Nat) (r : CmdRes) :
    R r.st (s.answered d st r) := by
  unfold State.answered
  split
  · exact h.disp _ _
  · exact h.refl _

/-- The end of a command is composed of updates of the dispatcher and completions. -/
theorem EndSteps.finish {R : State → State → Prop} (h : EndSteps R) (s : State) (d : Desc) (r : CmdRes) : R r.st (s.finish d r) := by
  cases hr : r.status with
  | none =>
    rw [s.finish_later d hr]
    exact h.waitJobOf _ d
  | some st =>
    rw [s.finish_ended d hr]
    exact h.trans (h.trans (h.answered s d st r) (h.complete _ _ _ _ _ _ _)) (h.endJobOf _ _ _)

/-! ### What the end of a command leaves alone -/

/-- The state beside the dispatcher, the rings and the registers. -/
def State.besideEnd (s : State) : State := { s with disp := {}, rings := {}, regs := [] }

theorem State.besideEnd_addDue (s : State) (c : DueCpl) : (s.addDue c).besideEnd = s.besideEnd := by
  unfold State.addDue
  split <;> rfl

theorem State.besideEnd_complete (s : State) (d : Desc) (st n : Nat) (b : List Byte) (l : Nat) (w : DueWhen) :
    (s.complete d st n b l w).besideEnd = s.besideEnd := by
  have hcount (t : State) : (t.count RNG_LOST_CPL 1).besideEnd = t.besideEnd := rfl
  have hrings (x : Rings) : (s.setRings x).besideEnd = s.besideEnd := rfl
  have hfree (q : Nat) : (s.unreserve q).besideEnd = s.besideEnd := rfl
  unfold State.complete
  simp only [apply_ite State.besideEnd, State.besideEnd_addDue, hcount, hrings, hfree, ite_self]

/-- The second state differs from the first in the dispatcher, the rings and RNG_LOST_CPL at most. -/
def SameBesideEnd (s t : State) : Prop := t.besideEnd = s.besideEnd ∧ ∀ a, a ≠ RNG_LOST_CPL → t.rd a = s.rd a

theorem endSteps_sameBesideEnd : EndSteps SameBesideEnd where
  refl _ := ⟨rfl, fun _ _ => rfl⟩
  trans h k := ⟨k.1.trans h.1, fun a ha => (k.2 a ha).trans (h.2 a ha)⟩
  disp _ _ := ⟨rfl, fun _ _ => rfl⟩
  complete s d st n b l w := ⟨s.besideEnd_complete d st n b l w, fun _ ha => s.rd_complete d st n b l w ha⟩

/-- Settles O9: the end is composed of steps that change only the dispatcher, the rings and RNG_LOST_CPL. -/
theorem commandsEndWithoutOtherEffect : Obligations.CommandsEndWithoutOtherEffect := by
  intro s d r
  obtain ⟨hb, hrd⟩ := endSteps_sameBesideEnd.finish s d r
  have keep {β : Type} (π : State → β) : π (s.finish d r).besideEnd = π r.st.besideEnd := congrArg π hb
  exact ⟨keep State.fuses, keep State.pins, keep State.straps, keep State.dev, keep State.role, keep State.stroked,
    keep State.sn, keep State.sys, keep State.log, keep State.rad, keep State.flt, keep State.stp, keep State.key,
    keep State.tim, keep State.gns, keep State.bsl, keep State.alt, keep State.net, keep State.msh, keep State.pai,
    keep State.wel, keep State.wlg, keep State.mot, keep State.lop, keep State.mem, keep State.reply,
    keep State.free, hrd⟩

/-! ### The completion of a command (R61, R70, R72) -/

theorem State.due_grows_addDue (s : State) (c : DueCpl) : s.rings.due <+: (s.addDue c).rings.due := by
  unfold State.addDue
  split
  · exact List.prefix_rfl
  · exact List.prefix_append _ _

/-- A completion never displaces one already due. -/
theorem State.due_grows_complete (s : State) (d : Desc) (st n : Nat) (b : List Byte) (l : Nat) (w : DueWhen) :
    s.rings.due <+: (s.complete d st n b l w).rings.due := by
  unfold State.complete
  split_ifs
  · exact List.prefix_rfl
  · exact List.prefix_rfl
  · exact List.prefix_rfl
  · exact s.due_grows_addDue _
  · exact List.prefix_rfl
  · exact s.due_grows_addDue _
  · exact s.due_grows_addDue _

theorem endSteps_dueGrows : EndSteps fun s t => s.rings.due <+: t.rings.due where
  refl _ := List.prefix_rfl
  trans := List.IsPrefix.trans
  disp _ _ := List.prefix_rfl
  complete := State.due_grows_complete

/-- A completion ring has one of 64 numbers. -/
theorem State.cqOf_lt (s : State) (n : Nat) : s.cqOf n < 64 := by
  unfold State.cqOf State.get
  rw [bitsOf_eq]
  exact Nat.mod_lt _ (Nat.two_pow_pos 6)

/-- The completion of a descriptor of an own ring. -/
def State.ownCpl (s : State) (d : Desc) (st n : Nat) (b : List Byte) (l : Nat) (w : DueWhen) : DueCpl :=
  ⟨s.cqOf d.ring, d.opcode, st, d.tag, s.sn, l, n % 2 ^ 64, d.bufAddr, b, w, false, false⟩

theorem State.due_complete_own {s : State} {d : Desc} {st : Nat} (n : Nat) (b : List Byte) (l : Nat) (w : DueWhen)
    (hs : d.shadow = false) (hf : d.forwarded = false) (ho : d.orphan = false) (hl : s.rings.lost.contains d = false)
    (hq : (d.quiet && st == stOK) = false) :
    (s.complete d st n b l w).rings.due = s.rings.due ++ [s.ownCpl d st n b l w] := by
  have hown : ¬ (64 ≤ s.cqOf d.ring ∧ s.cqOf d.ring < 128) := fun hc => Nat.not_le.mpr (s.cqOf_lt d.ring) hc.1
  unfold State.complete State.addDue
  rw [hs, ho, hl, hf, hq]
  simp only [Bool.false_eq_true, if_false, if_neg hown]
  rfl

/-- A command that ends queues its completion behind those due, for the stroke in which its meaning left the device. -/
theorem State.due_finish_fail (s : State) {u : State} {d : Desc} {st : Nat} (n : Nat) (hs : d.shadow = false)
    (hf : d.forwarded = false) (ho : d.orphan = false) (hl : u.rings.lost.contains d = false) (hq : (d.quiet && st == stOK) = false) :
    ∃ rest, (s.finish d (u.fail st n)).rings.due = u.rings.due ++ u.ownCpl d st n [] 0 (u.dueOf d) :: rest := by
  have hrings : (s.answered d st (u.fail st n)).rings = u.rings := by
    unfold State.answered
    split <;> rfl
  have hcpl : (s.answered d st (u.fail st n)).ownCpl d st n [] 0 ((s.answered d st (u.fail st n)).dueOf d) =
      u.ownCpl d st n [] 0 (u.dueOf d) := by
    unfold State.answered
    split <;> rfl
  rw [s.finish_ended d (r := u.fail st n) rfl]
  obtain ⟨rest, hrest⟩ := endSteps_dueGrows.endJobOf ((s.answered d st (u.fail st n)).complete d st n [] 0
    ((s.answered d st (u.fail st n)).dueOf d)) d (st == stOK)
  refine ⟨rest, hrest.symm.trans ?_⟩
  rw [State.due_complete_own n [] 0 _ hs hf ho (hrings ▸ hl) hq, hrings, hcpl, List.append_assoc]
  rfl

/-- An STP_CLEAR of ring 36, a command of a replicated block. -/
def clearDesc : Desc := ⟨36, 0, 0x9002, 0, 0, 0, 0, 0, 0, 0, [], []⟩

/-- The device after its first stroke edge. -/
def strokedReset : State := { State.reset with stroked := true }

/-- Refutes O10: the statement takes the due time of the completion from the state before the command, for any state that the command
may leave. Before the first stroke edge it would fall due at the status point; where the meaning has left the device behind that
edge, it falls due at the release point of the stroke (R72). -/
theorem not_commandsCompleteOnce : ¬ Obligations.CommandsCompleteOnce := by
  intro h
  obtain ⟨rest, hrest⟩ := h State.reset strokedReset clearDesc stREFUSED 0 rfl rfl rfl rfl rfl
  obtain ⟨rest', hrest'⟩ := State.reset.due_finish_fail (u := strokedReset) (d := clearDesc) (st := stREFUSED) 0 rfl rfl rfl rfl rfl
  have hcpl := (List.cons.inj (List.append_cancel_left (hrest'.symm.trans hrest))).1
  have hdue : strokedReset.dueOf clearDesc = State.reset.dueOf clearDesc := congrArg DueCpl.due hcpl
  exact absurd hdue (by decide)

/-! ### SYS_ENGAGE (R490) -/

theorem State.rd_put_ne (s : State) {a : Nat} (f : Fld) (v : Nat) (h : f.addr ≠ a) : (s.put f v).rd a = s.rd a := State.rd_wr_ne s _ h

theorem State.rd_showLoop (s : State) (n : Nat) {a : Nat} (h : a < 0x140000) : (s.showLoop n).rd a = s.rd a := by
  have hstat : a ≠ LOP_STAT n := by unfold LOP_STAT; omega
  have hsp : a ≠ LOP_SP n := by unfold LOP_SP; omega
  have hpv : a ≠ LOP_PV n := by unfold LOP_PV; omega
  have hu : a ≠ LOP_U n := by unfold LOP_U; omega
  simp only [State.showLoop, State.rd_setNum_ne _ _ hu, State.rd_setNum_ne _ _ hpv, State.rd_setNum_ne _ _ hsp,
    State.rd_setNum_ne _ _ hstat]

/-- The loops that start show themselves in the registers of LOOPS alone. -/
theorem State.rd_loopsStart (s : State) {a : Nat} (h : a < 0x140000) : s.loopsStart.rd a = s.rd a := by
  refine foldl_keeps (State.rd · a) _ _ s fun t n => ?_
  dsimp only
  split
  · exact State.rd_showLoop _ n h
  · rfl

theorem State.rings_showLoop (s : State) (n : Nat) : (s.showLoop n).rings = s.rings := by
  simp only [State.showLoop, State.setNum_rings]

theorem State.rings_loopsStart (s : State) : s.loopsStart.rings = s.rings := by
  unfold State.loopsStart
  refine foldl_keeps State.rings _ _ s fun t n => ?_
  dsimp only
  split
  · exact (State.rings_showLoop _ n).trans (State.setLop_rings _ _)
  · rfl

theorem State.rd_showDigest (s : State) {a : Nat} (h : a < 0x100000) : s.showDigest.rd a = s.rd a :=
  foldl_keeps (State.rd · a) _ _ s fun t n => t.rd_setNum_ne _ (by unfold PAI_CFG_DIGEST; omega)

theorem State.rings_showDigest (s : State) : s.showDigest.rings = s.rings := foldl_keeps State.rings _ _ s fun _ _ => rfl

/-- ENGAGED stands, and the RINGS registers are locked with the rest. -/
def State.lockAll (s : State) : State := (s.put SYS_STATUS_ENGAGED 1).setRings { s.rings with unlocked := false }

theorem State.dev_acceptEngage (s : State) : s.acceptEngage.dev = .anchoring := State.setDev_dev _ _

/-- After the lock SYS_ENGAGE moves no register of SYSTEM. -/
theorem State.rd_acceptEngage (s : State) : s.acceptEngage.rd SYS_STATUS = s.lockAll.rd SYS_STATUS := by
  have hgns (t : State) (x : Gnss) : (t.setGns x).rd SYS_STATUS = t.rd SYS_STATUS := rfl
  have htim (t : State) (x : Timing) : (t.setTim x).rd SYS_STATUS = t.rd SYS_STATUS := rfl
  unfold State.acceptEngage
  dsimp only
  rw [State.setDev_rd _ _ _ (by decide) (by decide), htim, State.rd_loopsStart _ (by decide)]
  simp only [apply_ite (State.rd · SYS_STATUS), State.rd_put_ne _ _ _ (show TIM_OSC_TUNE_V.addr ≠ SYS_STATUS by decide),
    State.rd_put_ne _ _ _ (show GNS_STATUS_BASE_FIXED.addr ≠ SYS_STATUS by decide), hgns,
    State.rd_put_ne _ _ _ (show CIS_SHARED_FREE_N.addr ≠ SYS_STATUS by decide),
    State.rd_put_ne _ _ _ (show CIS_SHARED_N.addr ≠ SYS_STATUS by decide),
    State.rd_showDigest _ (show SYS_STATUS < 0x100000 by decide), ite_self]
  rfl

theorem State.engaged_acceptEngage (s : State) : s.acceptEngage.get SYS_STATUS_ENGAGED = 1 := by
  have h : s.acceptEngage.get SYS_STATUS_ENGAGED = (s.put SYS_STATUS_ENGAGED 1).get SYS_STATUS_ENGAGED :=
    congrArg (bitsOf · 6 1) s.rd_acceptEngage
  rw [h, State.get_put _ _ _ (by decide)]
  rfl

theorem State.rings_acceptEngage (s : State) : s.acceptEngage.rings = { s.rings with unlocked := false } := by
  unfold State.acceptEngage
  dsimp only
  rw [State.setDev_rings, State.setTim_rings, State.rings_loopsStart]
  simp only [apply_ite State.rings, State.put_rings, State.setGns_rings, State.rings_showDigest, State.setRings_rings, ite_self]

theorem exec_sysEngage_accepted {s : State} (hd : s.dev = .setup) (he : s.engageErr = none) :
    exec .sysEngage s = .next s.acceptEngage := by
  change Host.Outcome.next s.engage = _
  simp [State.engage, hd, he]

theorem exec_sysEngage_refused {s : State} {c o : Nat} (hd : s.dev = .setup) (he : s.engageErr = some (c, o)) :
    exec .sysEngage s = .next (s.refuseEngage c o) := by
  change Host.Outcome.next s.engage = _
  simp [State.engage, hd, he]

theorem State.dev_refuseEngage (s : State) (c o : Nat) : (s.refuseEngage c o).dev = s.dev := by
  unfold State.refuseEngage
  rw [State.record_dev, State.put_dev, State.put_dev, State.put_dev]

/-- A refusal shows capability, offset and VALID, each in its field (R490). -/
theorem State.engageErr_refuseEngage (s : State) (c o : Nat) :
    (s.refuseEngage c o).get SYS_ENGAGE_ERR_CAP = c % 2 ^ SYS_ENGAGE_ERR_CAP.width ∧
    (s.refuseEngage c o).get SYS_ENGAGE_ERR_OFS = o % 2 ^ SYS_ENGAGE_ERR_OFS.width ∧
    (s.refuseEngage c o).get SYS_ENGAGE_ERR_VALID = 1 := by
  unfold State.refuseEngage
  rw [State.record_get, State.record_get, State.record_get]
  refine ⟨?cap, ?ofs, ?valid⟩
  case cap =>
    rw [State.get_put_apart _ SYS_ENGAGE_ERR_VALID SYS_ENGAGE_ERR_CAP _ rfl (by decide) (by decide),
      State.get_put_apart _ SYS_ENGAGE_ERR_OFS SYS_ENGAGE_ERR_CAP _ rfl (by decide) (by decide), State.get_put _ _ _ (by decide)]
  case ofs =>
    rw [State.get_put_apart _ SYS_ENGAGE_ERR_VALID SYS_ENGAGE_ERR_OFS _ rfl (by decide) (by decide), State.get_put _ _ _ (by decide)]
  case valid => exact State.get_put _ _ _ (by decide)

/-! ### The relock, QUIET and the junction temperature (R55, R493, R496, R497) -/

theorem exec_ringsRelock_sound {s : State} (hs : s.serving = true) (he : s.engaged = true) (hu : s.rings.unlocked = true)
    (hr : s.ringsRefuse = none) : exec .ringsRelock s = .next (s.setRings { s.rings with unlocked := false }) := by
  change Host.Outcome.next s.relock = _
  simp [State.relock, hs, he, hu, hr]

theorem exec_quietRequest_live {s : State} (on : Bool) (hm : s.mainLive = true) :
    exec (.quietRequest on) s = .next (s.put SYS_CTRL_QUIET (b2n on)) :=
  congrArg Host.Outcome.next (if_pos hm)

/-- The junction temperature as SYS_TEMP holds it: saturated to 16 bits. -/
def junctionClamp (j : Int) : Int := clampI (-32768) 32767 j

theorem exec_thermal_live {s : State} (j : Int) (hm : s.mainLive = true) :
    exec (.thermal j) s = .next (s.put SYS_TEMP_T (unsigned 16 (junctionClamp j))).thermCheck :=
  congrArg Host.Outcome.next (if_pos hm)

theorem signed_unsigned_clamp (j : Int) : signed 16 (unsigned 16 (junctionClamp j) % 2 ^ 16) = junctionClamp j := by
  have hlo : -32768 ≤ junctionClamp j := by unfold junctionClamp clampI; split_ifs <;> omega
  have hhi : junctionClamp j ≤ 32767 := by unfold junctionClamp clampI; split_ifs <;> omega
  unfold signed unsigned
  dsimp only
  split_ifs <;> omega

/-- A one-bit field reads as its flag. -/
theorem State.get_eq_b2n_flag (s : State) {f : Fld} (hf : f.width = 1) : s.get f = b2n (s.flag f) := by
  have hlt : s.get f < 2 := by
    unfold State.get
    rw [bitsOf_eq, hf]
    exact Nat.mod_lt _ (by decide)
  unfold State.flag b2n
  rcases (by omega : s.get f = 0 ∨ s.get f = 1) with h | h <;> simp [h]

/-- The alert stands exactly above the limit. -/
theorem State.alert_thermCheck (s : State) :
    s.thermCheck.get SYS_STATUS_THERM_ALERT = b2n (decide ((16 * s.get SYS_THERM_LIMIT_C : Int) < signed 16 (s.get SYS_TEMP_T))) := by
  unfold State.thermCheck
  dsimp only
  split
  case isTrue h => rw [h]; exact s.get_eq_b2n_flag rfl
  case isFalse =>
    rw [State.record_get, State.get_put _ _ _ (by decide)]
    exact Nat.mod_eq_of_lt (by unfold b2n; split <;> decide)

theorem State.temp_thermCheck (s : State) : s.thermCheck.get SYS_TEMP_T = s.get SYS_TEMP_T := by
  unfold State.thermCheck
  dsimp only
  split
  · rfl
  · rw [State.record_get, State.get_put_other _ _ _ _ (by decide)]

theorem State.dev_thermCheck (s : State) : s.thermCheck.dev = s.dev := by
  unfold State.thermCheck
  dsimp only
  split <;> rfl

/-- Settles O13: each clause by the lemma about its row. -/
theorem engagementLocksOrRefuses : Obligations.EngagementLocksOrRefuses := by
  refine ⟨?accepted, ?refused, fun s => exec_ringsRelock_sound, fun on s => exec_quietRequest_live on, ?thermal⟩
  case accepted =>
    intro s hd he
    exact ⟨_, exec_sysEngage_accepted hd he, s.dev_acceptEngage, s.engaged_acceptEngage, congrArg Rings.unlocked s.rings_acceptEngage⟩
  case refused =>
    intro s c o hd he
    exact ⟨_, exec_sysEngage_refused hd he, (s.dev_refuseEngage c o).trans hd, s.engageErr_refuseEngage c o⟩
  case thermal =>
    intro j s hm
    have ht : signed 16 ((s.put SYS_TEMP_T (unsigned 16 (junctionClamp j))).get SYS_TEMP_T) = junctionClamp j := by
      rw [State.get_put _ _ _ (by decide)]
      exact signed_unsigned_clamp j
    refine ⟨_, exec_thermal_live j hm, ?_, ?_, State.dev_thermCheck _⟩
    · rw [State.temp_thermCheck, ht]
      rfl
    · rw [State.alert_thermCheck, ht, State.get_put_other _ _ _ _ (by decide)]
      rfl

/-! ### NOP, ECHO, POST_BUFFER, the timeout of a forwarded descriptor (R69, R75, R76) -/

/-- A buffer is posted; on a ring of a replicated class the log carries it (R358). -/
def State.postLogged (s : State) (d : Desc) : State :=
  if replClass d.ringClass && d.ring < 64 then (s.postBuffer d).logInput (.desc d 7 ((s.postBuffer d).get (RNG_SQ_CFG_PRIO d.ring)) 0 0)
  else s.postBuffer d

theorem State.rings_logInput (s : State) (e : LogEntry) : (s.logInput e).rings = s.rings := by
  unfold State.logInput
  split <;> rfl

theorem State.rings_postLogged (s : State) (d : Desc) : (s.postLogged d).rings = (s.postBuffer d).rings := by
  unfold State.postLogged
  split
  · exact State.rings_logInput _ _
  · rfl

/-- The posted buffer joins those of its ring; on the ring of the record link the held records take it (R430). -/
theorem exec_postBuffer {s : State} {d : Desc} (h : Runs s d) :
    exec (.postBuffer d) s =
      .next (s.finish d (if d.ring = 51 then (s.postLogged d).wlgDeliver 64 else s.postLogged d).later) :=
  h.next_command rfl

theorem exec_forwardTimeout_expired {s : State} {f : Forwarded} (hs : s.serving = true)
    (hf : (s.rings.forwarded.find? fun f => decide (f.sentSn + 400 ≤ s.sn)) = some f) :
    exec .forwardTimeout s = .next (
      let u := s.setRings { s.rings with forwarded := s.rings.forwarded.filter fun x => x.id != f.id }
      let v := (u.put PAI_FWD_PENDING_N u.rings.forwarded.length).record EV_FORWARD_TIMEOUT 0 f.desc.ring f.desc.tag 0
      (v.complete f.desc stTIMEOUT 0 [] 0 .status).endJobOf f.desc false) := by
  change execForwardTimeout s = _
  simp [execForwardTimeout, hs, hf]

/-- Settles O20: each clause by the lemma about its row. -/
theorem commonRingCommands : Obligations.CommonRingCommands := by
  refine ⟨fun d s h => h.next_command rfl, fun d s h => h.next_command rfl, ?posted, ?taken,
    fun f s => exec_forwardTimeout_expired⟩
  case posted =>
    intro d s h hr
    refine ⟨s.postLogged d, by rw [exec_postBuffer h, if_neg hr], ?_⟩
    rw [State.rings_postLogged]
    exact ⟨rfl, rfl⟩
  case taken =>
    intro d s h hr
    refine ⟨s.postLogged d, by rw [exec_postBuffer h, if_pos hr], ?_⟩
    rw [State.rings_postLogged]
    exact ⟨rfl, rfl⟩

/-! ### FLT_ROBOT_ENROL (R181) -/

theorem tget_tmod_ne {V : Type} (t : Tab V) {k k' : Nat} (f : V → V) (h : k ≠ k') : tget (tmod t k f) k' = tget t k' := by
  unfold tmod
  split
  · exact (tget_tput _ _ _).trans (if_neg h)
  · rfl

theorem State.usedS_flt (s : State) (i : Nat) : (s.usedS i).flt = s.flt := by
  unfold State.usedS
  split <;> rfl

/-- A robot as FLT_ROBOT_ENROL describes it, enrolled now. -/
def Robot.described (d : Desc) (sn : Nat) : Robot :=
  { home := d.op 33 1, central := d.op 34 1 == 1, crew := d.op 35 1, dlMcs := d.op 36 1, enrolSn := sn }

/-- A robot replaced by a description: it keeps its slots where its channel stays. -/
def Robot.replacedBy (x y : Robot) (sf : Nat) : Robot :=
  if x.home = y.home then { y with specs := x.specs, newSpecs := x.newSpecs, specsSf := x.specsSf }
  else { y with specsSf := some sf }

/-- The robot of the descriptor is stored; its beacon elements move to its channel, and its Baseline state is discarded. -/
def State.enrol (s : State) (d : Desc) (x : Robot) : State :=
  let t := s.setFlt { s.flt with
    robots := tput s.flt.robots (d.op 32 1) x
    bcn := s.flt.bcn.map fun b => if b.rank ≤ 5 && b.key == d.op 32 1 then { b with chan := d.op 33 1 } else b }
  ((t.usedS (branchEntry 8 t.key.fleet.slot)).dropRover (d.op 32 1)).record EV_ROBOT_ENROLLED 0 (d.op 32 1) (d.op 33 1) (d.op 34 1)

theorem State.robots_enrol (s : State) (d : Desc) (x : Robot) :
    (s.enrol d x).flt.robots = tput s.flt.robots (d.op 32 1) x :=
  congrArg Fleet.robots (State.usedS_flt (s.setFlt { s.flt with
    robots := tput s.flt.robots (d.op 32 1) x
    bcn := s.flt.bcn.map fun b => if b.rank ≤ 5 && b.key == d.op 32 1 then { b with chan := d.op 33 1 } else b }) _)

theorem State.tget_enrol (s : State) (d : Desc) (x : Robot) :
    tget (s.enrol d x).flt.robots (d.op 32 1) = some x ∧
    ∀ r, r ≠ d.op 32 1 → tget (s.enrol d x).flt.robots r = tget s.flt.robots r := by
  rw [State.robots_enrol]
  exact ⟨(tget_tput _ _ _).trans (if_pos rfl), fun r hr => (tget_tput _ _ _).trans (if_neg hr.symm)⟩

section
variable {d : Desc} {s : State} (h : Runs s d)
include h

theorem exec_fltRobotEnrol_off (hc : s.chanOn (d.op 33 1) = false) :
    exec (.fltRobotEnrol d) s = .next (s.finish d (s.fail 0x11)) :=
  h.next_command (by simp [hc])

theorem exec_fltRobotEnrol_known {x : Robot} (hc : s.chanOn (d.op 33 1) = true) (hx : s.robot? (d.op 32 1) = some x)
    (hb : bit (d.op 37 1) 0 = false) : exec (.fltRobotEnrol d) s = .next (s.finish d (s.fail stCONFLICT)) :=
  h.next_command (by simp [hc, hx, hb])

theorem exec_fltRobotEnrol_new (hc : s.chanOn (d.op 33 1) = true) (hx : s.robot? (d.op 32 1) = none) :
    exec (.fltRobotEnrol d) s = .next (s.finish d (s.enrol d (Robot.described d s.sn)).ok) := by
  refine h.next_command ?_
  simp only [hc, hx]
  rfl

theorem exec_fltRobotEnrol_replaced {x : Robot} (hc : s.chanOn (d.op 33 1) = true) (hx : s.robot? (d.op 32 1) = some x)
    (hb : bit (d.op 37 1) 0 = true) :
    exec (.fltRobotEnrol d) s =
      .next (s.finish d (s.enrol d (x.replacedBy (Robot.described d s.sn) (s.sn / 40 + 1))).ok) := by
  refine h.next_command ?_
  simp only [hc, hx, hb]
  rfl

end

/-! ### FLT_ROBOT_SLOTS, FLT_ROBOT_RETIRE, FLT_ROBOT_QUERY (R169, R181, R230) -/

theorem State.tget_of_robot? {s : State} {r : Nat} {x : Robot} (h : s.robot? r = some x) : tget s.flt.robots r = some x := by
  unfold State.robot? at h
  split at h
  case h_1 y hy =>
    split at h
    · rw [hy, h]
    · exact absurd h (Option.some_ne_none x).symm
  case h_2 => exact absurd h (Option.some_ne_none x).symm

/-- A robot that has gone is enrolled no more. -/
theorem State.robot?_gone {s : State} {r n : Nat} {x : Robot} (h : tget s.flt.robots r = some x) (hg : x.gone = some n) :
    s.robot? r = none := by
  simp [State.robot?, h, hg]

/-- A robot's new slots, in force from a superframe on. -/
def Robot.slotted (x : Robot) (sf : Nat) (sp : List SlotSpec) : Robot :=
  { x with specs := x.specsAt sf, newSpecs := some (sf + 1, sp), specsSf := some (sf + 1) }

/-- A robot taken out: its slots end with the superframe. -/
def Robot.retired (x : Robot) (sn : Nat) : Robot := { x with gone := some sn, newSpecs := some (sn / 40 + 1, []) }

/-- The robot is taken out, and what is queued for it goes. -/
def State.withdrawn (s : State) (r : Nat) : State :=
  let t := s.modRobot r fun x => x.retired s.sn
  t.setFlt { t.flt with
    bcn := t.flt.bcn.filter fun b => b.rank == 6 || b.key != r
    notices := t.flt.notices.filter fun n => n.robot != r
    data := t.flt.data.filter fun x => x.robot != r
    reasm := t.flt.reasm.filter fun x => x.robot != r }

/-- Its items turn into holds, and its Baseline state is discarded. -/
def State.retire (s : State) (r : Nat) : State :=
  (((s.withdrawn r).retireHolds r).dropRover r).record EV_ROBOT_RETIRED 0 r 0 0

theorem State.flt_retire (s : State) (r : Nat) : (s.retire r).flt = (s.withdrawn r).flt := (rfl)

theorem State.robots_withdrawn (s : State) (r : Nat) :
    (s.withdrawn r).flt.robots = tmod s.flt.robots r fun x => x.retired s.sn := (rfl)

theorem State.allotted_retire (s : State) (r : Nat) :
    (s.retire r).alt.robots = tmod s.alt.robots r fun x => { x with chain := x.chain.map Item.toHold } := (rfl)

theorem State.tget_retire {s : State} {r : Nat} {x : Robot} (h : s.robot? r = some x) :
    tget (s.retire r).flt.robots r = some (x.retired s.sn) := by
  rw [State.flt_retire, State.robots_withdrawn]
  exact tget_tmod _ (State.tget_of_robot? h)

/-- Nothing stays queued for the robot. -/
theorem State.queues_retire (s : State) (r : Nat) :
    (∀ k, k ∈ (s.retire r).flt.data → k.robot ≠ r) ∧ (∀ k, k ∈ (s.retire r).flt.reasm → k.robot ≠ r) ∧
    ∀ k, k ∈ (s.retire r).flt.notices → k.robot ≠ r :=
  ⟨fun _ hk => bne_iff_ne.mp (List.mem_filter.mp hk).2, fun _ hk => bne_iff_ne.mp (List.mem_filter.mp hk).2,
    fun _ hk => bne_iff_ne.mp (List.mem_filter.mp hk).2⟩

/-- Every item of a retired robot is a hold (R230). -/
theorem State.holds_retire {s : State} {r : Nat} {a : AltRobot} (h : tget (s.retire r).alt.robots r = some a) :
    ∀ k ∈ a.chain, k.hold = true := by
  rw [State.allotted_retire] at h
  cases hy : tget s.alt.robots r with
  | none =>
    unfold tmod at h
    rw [hy] at h
    exact absurd (hy.symm.trans h) (Option.some_ne_none a).symm
  | some y =>
    rw [tget_tmod _ hy] at h
    cases h
    intro k hk
    obtain ⟨i, -, rfl⟩ := List.mem_map.mp hk
    rfl

section
variable {d : Desc} {s : State} (h : Runs s d)
include h

theorem exec_fltRobotSlots_clash {x : Robot} {o i : Nat} (hx : s.robot? (d.op 32 1) = some x)
    (hf : s.firstClash (d.op 32 1) x.home (readSpecs d.buf) = some (o, i)) :
    exec (.fltRobotSlots d) s = .next (s.finish d (s.fail stCONFLICT (o + 256 * i))) :=
  h.next_command (by simp [hx, hf])

theorem exec_fltRobotSlots_free {x : Robot} (hx : s.robot? (d.op 32 1) = some x)
    (hf : s.firstClash (d.op 32 1) x.home (readSpecs d.buf) = none) :
    exec (.fltRobotSlots d) s =
      .next (s.finish d (s.modRobot (d.op 32 1) fun x => x.slotted (s.sn / 40) (readSpecs d.buf)).ok) := by
  refine h.next_command ?_
  simp only [hx, hf]
  rfl

theorem exec_fltRobotRetire_known {x : Robot} (hx : s.robot? (d.op 32 1) = some x) :
    exec (.fltRobotRetire d) s = .next (s.finish d (s.retire (d.op 32 1)).ok) := by
  refine h.next_command ?_
  simp only [hx]
  rfl

theorem exec_fltRobotQuery_known {x : Robot} (hx : s.robot? (d.op 32 1) = some x) :
    exec (.fltRobotQuery d) s = .next (s.finish d (s.answer d (leBytes 1 1 ++ leBytes 1 x.home ++ leBytes 1 (b2n x.central) ++
      leBytes 1 x.crew ++ leBytes 4 x.high ++ leBytes 8 x.win ++ leBytes 8 (x.lastSn.getD 0) ++ slice (x.health.getD []) 0 8))) := by
  refine h.next_command ?_
  simp only [hx]

/-- The three commands of an enrolled robot refuse any other. -/
theorem exec_fltRobot_unknown (hx : s.robot? (d.op 32 1) = none) :
    exec (.fltRobotSlots d) s = .next (s.finish d (s.fail 0x10)) ∧ exec (.fltRobotRetire d) s = .next (s.finish d (s.fail 0x10)) ∧
    exec (.fltRobotQuery d) s = .next (s.finish d (s.fail 0x10)) :=
  ⟨h.next_command (by simp only [hx]), h.next_command (by simp only [hx]), h.next_command (by simp only [hx])⟩

end

/-- Settles O30: each clause by the lemma about its command. -/
theorem fleetRobotCommands : Obligations.FleetRobotCommands := by
  refine ⟨?enrolled, fun d s => exec_fltRobotEnrol_off, fun d x s h => exec_fltRobotEnrol_known h, ?replaced,
    fun d x o i s h => exec_fltRobotSlots_clash h, ?slots, ?retired, fun d x s h => exec_fltRobotQuery_known h,
    fun d s => exec_fltRobot_unknown⟩
  case enrolled => exact fun d s h hc hx => ⟨_, exec_fltRobotEnrol_new h hc hx, s.tget_enrol d _⟩
  case replaced => exact fun d x s h hc hx hb => ⟨_, exec_fltRobotEnrol_replaced h hc hx hb, s.tget_enrol d _⟩
  case slots =>
    exact fun d x s h hx hf => ⟨_, exec_fltRobotSlots_free h hx hf, tget_tmod _ (State.tget_of_robot? hx),
      fun r hr => tget_tmod_ne _ _ hr.symm⟩
  case retired =>
    intro d x s h hx
    obtain ⟨hdata, hreasm, hnotices⟩ := s.queues_retire (d.op 32 1)
    exact ⟨_, exec_fltRobotRetire_known h hx, State.tget_retire hx, State.robot?_gone (State.tget_retire hx) rfl, hdata, hreasm,
      hnotices, fun a => State.holds_retire⟩

/-! ### ALT_CLAIM (R216, R221) -/

section
variable {d : Desc} {s : State} (h : Runs s d)
include h

/-- How a claim of the host ends: with the reply of the engine, of which the robot is told. -/
theorem exec_altClaim_judged (he : s.flag ALT_CFG_ENABLE = true) (hr : (s.robot? (leAt d.buf 2 1)).isSome = true) (hl : 24 ≤ d.bufLen) :
    exec (.altClaim d) s = .next (s.finish d (match s.claim (leAt d.buf 2 1) (slice d.buf 0 (16 + 8 * leAt d.buf 1 1)) none with
      | (u, a) => { st := u.notify (leAt d.buf 2 1) a, status := some (claimStatus a.reason), result := a.result, bytes := a.bytes })) := by
  refine h.next_command ?_
  simp only [he, Option.isNone_eq_false_iff.mpr hr, if_neg (Nat.not_lt.mpr hl)]
  rfl

theorem exec_altClaim_off (he : s.flag ALT_CFG_ENABLE = false) : exec (.altClaim d) s = .next (s.finish d (s.fail stLOCKED)) :=
  h.next_command (by simp [he])

theorem exec_altClaim_refused (he : s.flag ALT_CFG_ENABLE = true)
    (hr : (s.robot? (leAt d.buf 2 1)).isSome = false ∨ d.bufLen < 24) :
    exec (.altClaim d) s = .next (s.finish d (if (s.robot? (leAt d.buf 2 1)).isNone then s.fail 0x12
      else { st := s, status := some stNO_RESOURCE, len := some 24 })) := by
  refine h.next_command ?_
  simp only [he]
  cases hn : (s.robot? (leAt d.buf 2 1)).isNone with
  | true => rfl
  | false =>
    have hlen : d.bufLen < 24 := hr.resolve_left (by simp [Option.isNone_eq_false_iff.mp hn])
    simp [hlen]

end

/-! ### ALT_RELEASE (R232) -/

/-- The items of a robot that have not begun and are no holds. -/
def State.futureItems (s : State) (r : Nat) : List Item := (s.ar r).chain.filter fun k => !k.hold && decide (s.sn < k.en)

/-- They leave the chain. -/
def State.releaseFuture (s : State) (r : Nat) : State :=
  s.setAr r { s.ar r with chain := (s.ar r).chain.filter fun k => !(s.futureItems r).contains k }

/-- The robot is told from which position on its items are released. -/
def State.tellReleased (s : State) (r : Nat) : List Item → State
  | k :: _ => (s.makeReply r 2 0 k.pos { reason := 0 }).1.notify r (s.makeReply r 2 0 k.pos { reason := 0 }).2
  | [] => s

/-- The chain is emptied, holds and all, and the positions start again. -/
def State.releaseAll (s : State) (r : Nat) : State :=
  let t := s.setAr r { s.ar r with chain := [], nextPos := 0, replyNo := 0, fixpos := 0 }
  let holds := ((s.ar r).chain.filter Item.hold).length
  if holds != 0 then t.record EV_HOLD_RELEASED 0 r holds 1 else t

theorem State.ar_congr {s t : State} (h : t.alt = s.alt) (r : Nat) : t.ar r = s.ar r := by
  unfold State.ar
  rw [h]

theorem State.ar_setAr (s : State) (r : Nat) (x : AltRobot) : (s.setAr r x).ar r = x := tgetD_tput _ _ _ _

theorem State.ar_setAr_ne (s : State) {r q : Nat} (x : AltRobot) (h : q ≠ r) : (s.setAr r x).ar q = s.ar q :=
  congrArg (Option.getD · ({} : AltRobot)) ((tget_tput r q x).trans (if_neg h.symm))

theorem State.alt_addDue (s : State) (c : DueCpl) : (s.addDue c).alt = s.alt := by
  unfold State.addDue
  split <;> rfl

theorem State.alt_deliverFrom (s : State) (ring op res : Nat) (b : List Byte) (w : DueWhen) (n : Nat) :
    (s.deliverFrom ring op res b w n).1.alt = s.alt := by
  induction n generalizing s with
  | zero => rfl
  | succ n ih =>
    unfold State.deliverFrom
    split
    · rfl
    · dsimp only
      split
      · exact (ih _).trans (State.alt_addDue _ _)
      · exact State.alt_addDue _ _

/-- An item for the host leaves the allotment engine alone. -/
theorem State.alt_altItem (s : State) (op res : Nat) (b : List Byte) : (s.altItem op res b).alt = s.alt := by
  have hdeliver : (s.deliver 35 op res b s.replDue).1.alt = s.alt := by
    unfold State.deliver
    split
    · exact State.alt_deliverFrom _ _ _ _ _ _ _
    · exact State.alt_deliverFrom _ _ _ _ _ _ _
  unfold State.altItem
  dsimp only
  split
  · exact hdeliver
  · exact hdeliver

/-- A reply takes the robot's next number and leaves its chain. -/
theorem State.chain_makeReply (s : State) (r kind reason first : Nat) (f : Refused) :
    ((s.makeReply r kind reason first f).1.ar r).chain = (s.ar r).chain := by
  have h : (s.makeReply r kind reason first f).1.ar r = { s.ar r with replyNo := (s.ar r).replyNo + 1 } :=
    (State.ar_congr (State.alt_altItem _ _ _ _) r).trans (s.ar_setAr r _)
  rw [h]

theorem State.chain_tellReleased (s : State) (r : Nat) (l : List Item) : ((s.tellReleased r l).ar r).chain = (s.ar r).chain := by
  cases l with
  | nil => rfl
  | cons k l => exact s.chain_makeReply r 2 0 k.pos { reason := 0 }

theorem State.mem_futureItems {s : State} {r : Nat} {k : Item} :
    k ∈ s.futureItems r ↔ k ∈ (s.ar r).chain ∧ k.hold = false ∧ s.sn < k.en := by
  simp [State.futureItems]

/-- What stays has begun or is a hold. -/
theorem State.mem_chain_releaseFuture {s : State} {r : Nat} {k : Item} :
    k ∈ ((s.releaseFuture r).ar r).chain ↔ k ∈ (s.ar r).chain ∧ (k.hold = true ∨ k.en ≤ s.sn) := by
  have hstay (hk : k ∈ (s.ar r).chain) : k ∉ s.futureItems r ↔ k.hold = true ∨ k.en ≤ s.sn := by
    rw [State.mem_futureItems, ← Nat.not_lt]
    cases k.hold <;> simp [hk]
  rw [State.releaseFuture, State.ar_setAr, List.mem_filter, Bool.not_eq_true', ← Bool.not_eq_true, List.contains_iff_mem]
  exact and_congr_right hstay

theorem State.alt_releaseAll (s : State) (r : Nat) :
    (s.releaseAll r).alt = (s.setAr r { s.ar r with chain := [], nextPos := 0, replyNo := 0, fixpos := 0 }).alt := by
  unfold State.releaseAll
  dsimp only
  split <;> rfl

section
variable {d : Desc} {s : State} (h : Runs s d)
include h

theorem exec_altRelease_future (h0 : d.op 33 1 = 0) :
    exec (.altRelease d) s = .next (s.finish d
      (((s.releaseFuture (d.op 32 1)).tellReleased (d.op 32 1) (s.futureItems (d.op 32 1))).showAllot.ok
        (s.futureItems (d.op 32 1)).length)) :=
  h.next_command (if_pos h0)

theorem exec_altRelease_all (h0 : d.op 33 1 ≠ 0) :
    exec (.altRelease d) s = .next (s.finish d ((s.releaseAll (d.op 32 1)).showAllot.ok (s.ar (d.op 32 1)).chain.length)) :=
  h.next_command (if_neg h0)

end

/-! ### ALT_RESOURCE_STATE, ALT_RESOURCE_QUERY (R231, R233) -/

section
variable {d : Desc} {s : State} (h : Runs s d)
include h

theorem exec_altResourceState_known {m : Roadmap} (hm : s.alt.roadmap = some m) (hi : d.op 34 2 < m.count (d.op 32 1)) :
    exec (.altResourceState d) s = .next (s.finish d
      (((s.setAlt { s.alt with roadmap := some (m.setClosed (d.op 32 1) (d.op 34 2) (d.op 33 1 == 1)) }).record EV_RESOURCE_STATE 0
        (d.op 32 1) (d.op 34 2) (d.op 33 1)).ok (onResource (s.allResv m) (d.op 32 1) (d.op 34 2)).length)) := by
  refine h.next_command ?_
  simp only [hm, if_neg (Nat.not_le.mpr hi)]

theorem exec_altResourceState_beyond {m : Roadmap} (hm : s.alt.roadmap = some m) (hi : m.count (d.op 32 1) ≤ d.op 34 2) :
    exec (.altResourceState d) s = .next (s.finish d (s.fail stBAD_DESC)) := by
  refine h.next_command ?_
  simp only [hm, if_pos hi]

theorem exec_altResourceQuery_roadmap {m : Roadmap} (hm : s.alt.roadmap = some m) :
    let rs := onResource (s.allResv m) (d.op 32 1) (d.op 34 2)
    exec (.altResourceQuery d) s = .next (s.finish d (s.answer d (leBytes 2 rs.length ++ leBytes 6 0 ++ rs.flatMap Resv.bytes))) := by
  refine h.next_command ?_
  simp only [hm]

/-- Both commands of a resource need a roadmap. -/
theorem exec_altResource_noRoadmap (hm : s.alt.roadmap = none) :
    exec (.altResourceQuery d) s = .next (s.finish d (s.fail 0x11)) ∧
    exec (.altResourceState d) s = .next (s.finish d (s.fail 0x11)) :=
  ⟨h.next_command (by simp only [hm]), h.next_command (by simp only [hm])⟩

end

/-- Settles O32: each clause by the lemma about its command; a release by what its chain keeps. -/
theorem allotmentCommands : Obligations.AllotmentCommands := by
  refine ⟨fun d s => exec_altClaim_judged, fun d s => exec_altClaim_off, fun d s => exec_altClaim_refused, ?future, ?all, ?closed,
    fun d s h => h.next_command rfl, fun d m s h => exec_altResourceState_beyond h, fun d m s h => exec_altResourceQuery_roadmap h,
    fun d s => exec_altResource_noRoadmap⟩
  case future =>
    intro d s h h0
    refine ⟨_, exec_altRelease_future h h0, fun k => ?_⟩
    rw [State.ar_congr (State.showAllot_alt _), State.chain_tellReleased]
    exact State.mem_chain_releaseFuture
  case all =>
    intro d s h h0
    have har (r : Nat) := State.ar_congr ((State.showAllot_alt _).trans (s.alt_releaseAll (d.op 32 1))) r
    refine ⟨_, exec_altRelease_all h h0, ?_, ?_, fun r hr => ?_⟩
    · rw [har, State.ar_setAr]
    · rw [har, State.ar_setAr]
    · rw [har, State.ar_setAr_ne _ _ hr]
  case closed => exact fun d m s h hm hi => ⟨_, exec_altResourceState_known h hm hi, rfl, rfl⟩

end Sys2Proof.Machine

/-! PROOFS. The time bases family: TB0 and its sources, TB1's servo, TB3, gates and launch times. -/

namespace Sys2Proof.Machine

open Sys2Proof

/-! ### Registers after a write elsewhere -/

theorem State.get_setTim (s : State) (x : Timing) (f : Fld) : (s.setTim x).get f = s.get f := rfl

theorem State.get_eq_one_of_flag {s : State} {f : Fld} (h : s.flag f = true) : s.get f = 1 := eq_of_beq h

theorem State.num_put_ne (s : State) {a : Nat} (f : Fld) (v : Nat) (h : f.addr ≠ a) : (s.put f v).num a = s.num a :=
  congrArg BitVec.toNat (s.rd_put_ne f v h)

theorem State.get_setNum_ne (s : State) {a : Nat} (v : Nat) (f : Fld) (h : f.addr ≠ a) : (s.setNum a v).get f = s.get f :=
  congrArg (bitsOf · f.lo f.width) (s.rd_setNum_ne v h)

theorem State.num_setNum64_lo (s : State) {lo hi : Nat} (v : Nat) (h : lo ≠ hi) : (s.setNum64 lo hi v).num lo = v % 2 ^ 32 := by
  rw [State.setNum64, State.num_setNum_ne _ _ h.symm, State.num_setNum, lo32, Nat.mod_mod]

theorem State.num_setNum64_hi (s : State) (lo hi v : Nat) : (s.setNum64 lo hi v).num hi = v / 2 ^ 32 % 2 ^ 32 := by
  rw [State.setNum64, State.num_setNum, hi32, Nat.mod_mod]

/-- A register pair reads the 64-bit number written to it. -/
theorem State.num64_setNum64 (s : State) {lo hi v : Nat} (h : lo ≠ hi) (hv : v < 2 ^ 64) : (s.setNum64 lo hi v).num64 lo hi = v := by
  rw [State.num64, State.num_setNum64_lo _ _ h, State.num_setNum64_hi]
  omega

theorem b2n_lt_two (b : Bool) : b2n b < 2 := by
  cases b <;> decide

theorem unsigned_lt (n : Nat) (v : Int) : unsigned n v < 2 ^ n := by
  have h : (0 : Int) < ((2 ^ n : Nat) : Int) := by positivity
  have hlo := Int.emod_nonneg v h.ne'
  have hhi := Int.emod_lt_of_pos v h
  unfold unsigned
  omega

/-! ### TB0 enters holdover (R86) -/

theorem exec_tb0Holdover_enters {s : State} (hm : s.mainLive = true) (hv : s.flag TIM_STATUS_TB0_VALID = true)
    (hh : s.flag TIM_STATUS_HOLDOVER = false) : exec .tb0Holdover s = .next s.enterHoldover := by
  change execTb0Holdover s = _
  simp [execTb0Holdover, hm, hv, hh]

/-- A loss in holdover: whatever waited beyond the limit waits no more (log entry 26). -/
theorem exec_tb0Holdover_again {s : State} (hm : s.mainLive = true) (hv : s.flag TIM_STATUS_TB0_VALID = true)
    (hh : s.flag TIM_STATUS_HOLDOVER = true) :
    exec .tb0Holdover s = .next ((s.setTim { s.tim with far := [] }).put TIM_STATUS_TB0_FAR 0) := by
  change execTb0Holdover s = _
  simp [execTb0Holdover, hm, hv, hh]

/-- What the status registers show on entering holdover: TB0 stays as valid as it was. -/
theorem State.enterHoldover_shown (s : State) :
    s.enterHoldover.get TIM_STATUS_HOLDOVER = 1 ∧ s.enterHoldover.get STK_STATUS_HOLDOVER = 1 ∧
    s.enterHoldover.get TIM_STATUS_TB0_SRC = 0 ∧ s.enterHoldover.get TIM_STATUS_TB0_VALID = s.get TIM_STATUS_TB0_VALID := by
  unfold State.enterHoldover
  refine ⟨?_, ?_, ?_, ?_⟩ <;>
    simp (disch := decide) only [State.record_get, State.get_setNum_ne, State.get_put, State.get_put_other, State.get_put_apart,
      State.get_setTim, Nat.reducePow, Nat.reduceMod]

theorem State.enterHoldover_seconds (s : State) : s.enterHoldover.num TIM_HOLDOVER_S = 0 := by
  rw [State.enterHoldover, State.record_num, State.num_setNum, Nat.zero_mod]

/-- No error is left to slew, and the holdover's seconds count from here. -/
theorem State.enterHoldover_tim (s : State) : s.enterHoldover.tim.slewQ = 0 ∧ s.enterHoldover.tim.holdSn = some s.now := ⟨rfl, rfl⟩

theorem State.enterHoldover_sn (s : State) : s.enterHoldover.sn = s.sn := by
  simp only [State.enterHoldover, State.record_sn, State.setNum_sn, State.put_sn, State.setTim_sn]

theorem exec_holdoverLimit_passed {s : State} (hm : s.mainLive = true) (hh : s.flag TIM_STATUS_HOLDOVER = true)
    (he : s.flag TIM_STATUS_HOLDOVER_EXPIRED = false) (hl : s.num TIM_HOLDOVER_LIMIT < s.holdSeconds) :
    exec .holdoverLimit s = .next
      (((s.setNum TIM_HOLDOVER_S s.holdSeconds).put TIM_STATUS_HOLDOVER_EXPIRED 1).record EV_HOLDOVER_LIMIT 0 s.holdSeconds 0 0) := by
  change execHoldoverLimit s = _
  simp [execHoldoverLimit, hm, hh, he, hl]

/-! ### A source offers time to TB0 (R84, R87) -/

theorem exec_tb0SourceReturn_live {s : State} (k : Nat) (e : Int) (hm : s.mainLive = true) :
    exec (.tb0SourceReturn k e) s = .next (s.tb0Offer k e) := by
  change execTb0SourceReturn k e s = _
  simp [execTb0SourceReturn, hm]

/-- A source disagrees with its own last error by more than the re-anchor limit. -/
def State.jumps (s : State) (k : Nat) (e : Int) : Bool :=
  match s.errOf k with
  | some l => decide ((s.num TIM_REANCHOR_LIMIT_NS : Int) < absI (e - l))
  | none => false

/-- Noting an error moves TIM_TB0_ERR_NS alone. -/
theorem State.reanchorLimit_noteErr (s : State) (k : Nat) (e : Int) :
    (s.noteErr k e).num TIM_REANCHOR_LIMIT_NS = s.num TIM_REANCHOR_LIMIT_NS :=
  State.num_setNum_ne _ _ (by decide)

section
variable {s : State} {k : Nat} {e : Int}

theorem State.returnSrc_near (j : Bool) (hc : s.tim.far.contains k = false) (hl : (absI e : Int) ≤ s.num TIM_REANCHOR_LIMIT_NS) :
    s.returnSrc k e j = (s.noteErr k e).endHoldover k e := by
  have hw : (s.noteErr k e).tim.far.contains k = false := hc
  simp only [State.returnSrc, State.reanchorLimit_noteErr, hw, Bool.false_and, Bool.false_eq_true, if_false, if_pos hl]

/-- Beyond the limit for the first time: the source waits, and its return is recorded. -/
theorem State.returnSrc_far (j : Bool) (hc : s.tim.far.contains k = false) (hl : (s.num TIM_REANCHOR_LIMIT_NS : Int) < absI e) :
    s.returnSrc k e j =
      let u := s.noteErr k e
      ((u.setTim { u.tim with far := u.tim.far ++ [k] }).put TIM_STATUS_TB0_FAR 1).record EV_TB0_RETURN_FAR 0 k (sat32 e) 0 := by
  have hw : (s.noteErr k e).tim.far.contains k = false := hc
  simp only [State.returnSrc, State.reanchorLimit_noteErr, hw, Bool.false_and, Bool.false_eq_true, if_false, if_neg (Int.not_le.mpr hl)]

theorem State.returnSrc_waits (hc : s.tim.far.contains k = true) (hl : (s.num TIM_REANCHOR_LIMIT_NS : Int) < absI e) :
    s.returnSrc k e false = s.noteErr k e := by
  have hw : (s.noteErr k e).tim.far.contains k = true := hc
  simp only [State.returnSrc, State.reanchorLimit_noteErr, hw, Int.not_le.mpr hl, Bool.and_false, Bool.false_eq_true, if_false, if_true]

variable (he : s.srcEnabled k = true)
include he

theorem State.tb0Offer_first (e : Int) (hv : s.flag TIM_STATUS_TB0_VALID = false) :
    s.tb0Offer k e =
      (((s.noteErr k 0).put TIM_STATUS_TB0_VALID 1).put TIM_STATUS_TB0_SRC k).record EV_TB0_SOURCE_OK 0 k 0 0 := by
  simp [State.tb0Offer, he, hv]

theorem State.tb0Offer_holdover (hv : s.flag TIM_STATUS_TB0_VALID = true) (hh : s.flag TIM_STATUS_HOLDOVER = true) :
    s.tb0Offer k e = s.returnSrc k e (s.jumps k e) := by
  simp only [State.tb0Offer, he, hv, hh]
  rfl

theorem State.tb0Offer_current (hv : s.flag TIM_STATUS_TB0_VALID = true) (hh : s.flag TIM_STATUS_HOLDOVER = false)
    (hk : s.get TIM_STATUS_TB0_SRC = k) :
    s.tb0Offer k e = if s.jumps k e then (s.noteErr k e).enterHoldover else ((s.noteErr k e).slewTb0 e).steerOsc := by
  simp only [State.tb0Offer, he, hv, hh, hk]
  rfl

end

theorem exec_tb0Accept_waiting {s : State} {v : Word} {k : Nat} (hm : s.mainLive = true) (hv : bitsOf v 0 1 = 1)
    (hk : [1, 2, 3].find? s.tim.far.contains = some k) :
    exec (.tb0Accept v) s = .next (s.endHoldover k ((s.errOf k).getD 0)) := by
  change execTb0Accept v s = _
  simp only [execTb0Accept, hm, hv, hk]
  rfl

/-! ### PPS_IN and PPS_OUT (R98) -/

theorem exec_ppsInEdge_fault {s : State} {n p : Nat} (hm : s.mainLive = true) (hp : s.tim.ppsLast = some p) (hpn : p ≤ n)
    (hg : n < p + 2000) : exec (.ppsInEdge n) s = .next (s.record EV_PPS_IN_FAULT 0 (n - p) 0 0) := by
  have hgap : n - p < 2000 := by omega
  change execPpsInEdge n s = _
  simp [execPpsInEdge, hm, hp, hgap]

theorem exec_ppsInEdge_counts {s : State} {n p : Nat} (hm : s.mainLive = true) (hp : s.tim.ppsLast = some p) (hg : p + 2000 ≤ n) :
    exec (.ppsInEdge n) s = .next (s.ppsEdge n (decide (absI (((n - p : Nat) : Int) - 1000000000) ≤ 1000))) := by
  have hgap : ¬ n - p < 2000 := by omega
  change execPpsInEdge n s = _
  simp only [execPpsInEdge, hm, hp, hgap]
  rfl

theorem exec_ppsInEdge_first {s : State} (n : Nat) (hm : s.mainLive = true) (hp : s.tim.ppsLast = none) :
    exec (.ppsInEdge n) s = .next (s.ppsEdge n false) := by
  change execPpsInEdge n s = _
  simp [execPpsInEdge, hm, hp]

/-- An edge that counts, before it offers time: its timestamps in TB0 and TB1, and PPS_IN_OK. -/
def State.ppsStamped (s : State) (n : Nat) (good : Bool) : State :=
  (((s.setTim { s.tim with ppsLast := some n, ppsTb1 := some (n + s.tb1Ofs) }).setNum64 TIM_PPS_IN_SEC_LO TIM_PPS_IN_SEC_HI
    (n / 1000000000)).setNum TIM_PPS_IN_NS (n % 1000000000)).put TIM_STATUS_PPS_IN_OK (b2n good)

/-- Without a label an edge offers no time. -/
theorem State.ppsEdge_unlabelled {s : State} (n : Nat) (good : Bool) (hf : s.tim.labelFresh = false) (hl : s.tim.labelled = false) :
    s.ppsEdge n good = s.ppsStamped n good := by
  have hf' : (s.ppsStamped n good).tim.labelFresh = false := hf
  have hl' : (s.ppsStamped n good).tim.labelled = false := hl
  exact (if_neg (ne_true_of_eq_false hf')).trans (if_neg (ne_true_of_eq_false hl'))

theorem State.ppsStamped_ns (s : State) (n : Nat) (good : Bool) : (s.ppsStamped n good).num TIM_PPS_IN_NS = n % 1000000000 := by
  rw [State.ppsStamped, State.num_put_ne _ _ _ (by decide), State.num_setNum]
  omega

theorem State.ppsStamped_sec (s : State) (n : Nat) (good : Bool) :
    (s.ppsStamped n good).num TIM_PPS_IN_SEC_LO = n / 1000000000 % 2 ^ 32 := by
  rw [State.ppsStamped, State.num_put_ne _ _ _ (by decide), State.num_setNum_ne _ _ (by decide), State.num_setNum64_lo _ _ (by decide)]

theorem State.ppsStamped_ok (s : State) (n : Nat) (good : Bool) : (s.ppsStamped n good).get TIM_STATUS_PPS_IN_OK = b2n good :=
  (State.get_put _ _ _ (by decide)).trans (Nat.mod_eq_of_lt (b2n_lt_two good))

theorem exec_ppsOutPulse_valid {s : State} (hm : s.mainLive = true) (hv : s.ppsValid = true) :
    exec .ppsOutPulse s =
      .next (s.emit (.pps (s.get TIM_PPS_CFG_PPS_OUT_SRC) (s.get TIM_PPS_CFG_PPS_OUT_WIDTH) s.freqOut)) := by
  change execPpsOutPulse s = _
  simp [execPpsOutPulse, hm, hv]

/-- Settles O21: a loss, a return and an edge of PPS_IN each by the lemma about what they do to TB0. -/
theorem tb0FollowsItsSource : Obligations.Tb0FollowsItsSource := by
  refine ⟨?enters, fun s => exec_tb0Holdover_again, fun s => exec_holdoverLimit_passed, ?first, ?near, ?far, ?waits, ?follows, ?disagrees,
    fun v k s => exec_tb0Accept_waiting, fun n p s => exec_ppsInEdge_fault, fun n p s => exec_ppsInEdge_counts,
    fun n s => exec_ppsInEdge_first n, ?stamped, fun s => exec_ppsOutPulse_valid⟩
  case enters =>
    intro s hm hv hh
    obtain ⟨hold, stk, src, valid⟩ := s.enterHoldover_shown
    obtain ⟨slew, since⟩ := s.enterHoldover_tim
    exact ⟨s.enterHoldover, exec_tb0Holdover_enters hm hv hh, hold, stk, src, valid.trans (State.get_eq_one_of_flag hv), slew, since,
      s.enterHoldover_seconds, s.enterHoldover_sn⟩
  case first =>
    intro k e s hm he hv
    rw [exec_tb0SourceReturn_live k e hm, State.tb0Offer_first he e hv]
  case near =>
    intro k e s hm he hv hh hc hl
    rw [exec_tb0SourceReturn_live k e hm, State.tb0Offer_holdover he hv hh, State.returnSrc_near _ hc hl]
  case far =>
    intro k e s hm he hv hh hc hl
    rw [exec_tb0SourceReturn_live k e hm, State.tb0Offer_holdover he hv hh, State.returnSrc_far _ hc hl]
  case waits =>
    intro k e s hm he hv hh hc hl hj
    have hj : s.jumps k e = false := hj
    rw [exec_tb0SourceReturn_live k e hm, State.tb0Offer_holdover he hv hh, hj, State.returnSrc_waits hc hl]
  case follows =>
    intro k e s hm he hv hh hk hj
    have hj : s.jumps k e = false := hj
    rw [exec_tb0SourceReturn_live k e hm, State.tb0Offer_current he hv hh hk, hj, if_neg Bool.false_ne_true]
  case disagrees =>
    intro k e s hm he hv hh hk hj
    have hj : s.jumps k e = true := hj
    rw [exec_tb0SourceReturn_live k e hm, State.tb0Offer_current he hv hh hk, if_pos hj]
  case stamped =>
    intro n g s hf hl
    dsimp only
    rw [State.ppsEdge_unlabelled n g hf hl]
    exact ⟨rfl, rfl, s.ppsStamped_ns n g, s.ppsStamped_sec n g, s.ppsStamped_ok n g⟩

end Sys2Proof.Machine

namespace Sys2Proof.Machine

open Sys2Proof

/-! ### A Sync measurement reaches TB1's servo (R91, R92) -/

/-- The servo takes the first measurement that waits, of an enabled port where the role is slave or boundary; `u` is the state
without it. -/
structure TakesSync (s u : State) (m : SyncMeas) (r : List SyncMeas) : Prop where
  serving : s.serving = true
  meas : s.tim.ptp.meas = m :: r
  rest : u = s.setPtp { s.tim.ptp with meas := r }
  role : (u.get TIM_TB1_CFG_ROLE == 1 || u.get TIM_TB1_CFG_ROLE == 3) = true
  enabled : u.flag (TIM_PORT_PTP_PTP_EN m.port) = true

/-- What PTP_SYNC does with the servo's answer: after a step of TB1 the ports that follow it step too. -/
def afterServo (a : Nat) (x : State × Option Int) : State :=
  match x with
  | (t, none) => t
  | (t, some _) => (List.range 24).foldl (fun t p => t.stepPort a p) t

theorem exec_ptpSync_taken {s u : State} {m : SyncMeas} {r : List SyncMeas} (a : Nat) (h : TakesSync s u m r) :
    exec (.ptpSync a) s = .next (afterServo a (u.ptpServo m.port (u.syncOffset m a))) := by
  obtain ⟨hs, hm, rfl, hr, he⟩ := h
  change execPtpSync a s = _
  simp only [execPtpSync, hs, hm, hr, he, Bool.not_true, Bool.or_self, Bool.false_eq_true, if_false]
  generalize State.ptpServo _ _ _ = x
  rcases x with ⟨t, _ | d⟩ <;> rfl

section
variable {u : State} {o : Int}

theorem State.ptpServo_near (port : Nat) (hl : (absI o : Int) ≤ u.num TIM_TB1_STEP_NS) :
    u.ptpServo port o = ((u.setTim { u.tim with syncs := [], tb1Slew := -o, backSlew := false }).setTb1State 2 port, none) :=
  if_pos hl

/-- The measurements beyond the threshold that stand so far agree with one more. -/
def State.syncsAgree (u : State) (o : Int) : Bool := u.tim.syncs.all fun x => decide ((absI (x - o) : Int) ≤ u.num TIM_TB1_STEP_NS)

variable (port : Nat) (hl : (u.num TIM_TB1_STEP_NS : Int) < absI o) (hb : (u.tim.backSlew && decide (0 < o)) = false)
include hl hb

/-- An offset beyond the threshold that no forbidden backward step is being slewed for: the slew stops, and the agreement decides. -/
theorem State.ptpServo_beyond : u.ptpServo port o =
    if !u.syncsAgree o then (u.setTim { u.tim with tb1Slew := 0, backSlew := false, syncs := [] }, none)
    else if u.tim.syncs.length + 1 < max 1 (u.get TIM_TB1_CFG_STEP_CONFIRM) then
      (u.setTim { u.tim with tb1Slew := 0, backSlew := false, syncs := u.tim.syncs ++ [o] }, none)
    else if 0 < o && u.flag TIM_TB1_CFG_NO_BACK_STEP then
      (u.setTim { u.tim with syncs := [], tb1Slew := -o, backSlew := true }, none)
    else
      let v := (u.setTim { u.tim with tb1Slew := 0, backSlew := false, syncs := [] }).moveTb1 (-o)
      (((v.count TIM_TB1_STEPS 1).record EV_TB1_STEP 0 (lo32 (unsigned 64 (-o))) (hi32 (unsigned 64 (-o))) port).setTb1State 2 port,
        some (-o)) := by
  have hlen : (u.tim.syncs ++ [o]).length = u.tim.syncs.length + 1 := List.length_append
  rw [State.ptpServo, if_neg (Int.not_le.mpr hl), if_neg (ne_true_of_eq_false hb), ← hlen]
  rfl

theorem State.ptpServo_disagrees (ha : u.syncsAgree o = false) :
    u.ptpServo port o = (u.setTim { u.tim with tb1Slew := 0, backSlew := false, syncs := [] }, none) := by
  rw [State.ptpServo_beyond port hl hb, ha]
  rfl

variable (ha : u.syncsAgree o = true)
include ha

theorem State.ptpServo_joins (hn : u.tim.syncs.length + 1 < max 1 (u.get TIM_TB1_CFG_STEP_CONFIRM)) :
    u.ptpServo port o = (u.setTim { u.tim with tb1Slew := 0, backSlew := false, syncs := u.tim.syncs ++ [o] }, none) := by
  rw [State.ptpServo_beyond port hl hb, ha, if_pos hn]
  rfl

theorem State.ptpServo_steps (hn : max 1 (u.get TIM_TB1_CFG_STEP_CONFIRM) ≤ u.tim.syncs.length + 1)
    (hf : (decide (0 < o) && u.flag TIM_TB1_CFG_NO_BACK_STEP) = false) :
    u.ptpServo port o =
      let v := (u.setTim { u.tim with tb1Slew := 0, backSlew := false, syncs := [] }).moveTb1 (-o)
      (((v.count TIM_TB1_STEPS 1).record EV_TB1_STEP 0 (lo32 (unsigned 64 (-o))) (hi32 (unsigned 64 (-o))) port).setTb1State 2 port,
        some (-o)) := by
  rw [State.ptpServo_beyond port hl hb, ha, if_neg (Nat.not_lt.mpr hn), if_neg (ne_true_of_eq_false hf)]
  rfl

end

/-! ### TB3 (R100) -/

theorem exec_tb3Load_set {s : State} {v : Word} (a : Nat) (hm : s.mainLive = true) (hv : bitsOf v 0 1 = 1) :
    exec (.tb3Load v a) s = .next
      (s.setTim { s.tim with tb3 := (s.tim.tb3Sec : Int) * 1000000000 + (s.tim.tb3Ns : Int), tb3At := s.clockNs a }) := by
  change execTb3Load v a s = _
  simp [execTb3Load, hm, hv]

/-- The state with TB3 at `a` ns of the stroke latched in its three registers. -/
def State.tb3Latched (s : State) (a : Nat) : State :=
  (s.setNum64 TIM_TB3_SEC_LO TIM_TB3_SEC_HI (unsigned 64 (s.tb3Now (s.clockNs a) / 1000000000))).setNum TIM_TB3_NS
    (s.tb3Now (s.clockNs a) % 1000000000).toNat

theorem exec_tb3ReadLatch_live {s : State} (a : Nat) (hm : s.mainLive = true) :
    exec (.tb3ReadLatch a) s = .next { s.tb3Latched a with reply := .data ((s.tb3Latched a).rd TIM_TB3_SEC_LO) } := by
  change execTb3ReadLatch a s = _
  simp [execTb3ReadLatch, hm, State.tb3Latched]

theorem State.tb3Latched_ns (s : State) (a : Nat) :
    (s.tb3Latched a).num TIM_TB3_NS = (s.tb3Now (s.clockNs a) % 1000000000).toNat := by
  rw [State.tb3Latched, State.num_setNum]
  omega

theorem State.tb3Latched_sec (s : State) (a : Nat) :
    (s.tb3Latched a).num64 TIM_TB3_SEC_LO TIM_TB3_SEC_HI = unsigned 64 (s.tb3Now (s.clockNs a) / 1000000000) := by
  rw [State.num64, State.tb3Latched, State.num_setNum_ne _ _ (by decide), State.num_setNum_ne _ _ (by decide)]
  exact State.num64_setNum64 s (by decide) (unsigned_lt _ _)

/-! ### TAI − UTC and the keep-alive data (R119, R121) -/

theorem exec_utcOffsetChange_reached {s : State} {v : Int} {a : Nat} (hm : s.mainLive = true) (hl : s.gns.leap = some (v, a))
    (ht : s.stroked = true) (ha : a ≤ s.siteEpoch + s.sn / 4000) :
    exec .utcOffsetChange s = .next ((s.setGns { s.gns with leap := none }).put TIM_UTC_OFFSET_V (unsigned 16 v)) := by
  change execUtcOffsetChange s = _
  simp [execUtcOffsetChange, hm, hl, ht, ha]

/-- The keep-alive data that a unit whose strokes run writes; the oscillator's estimate is a free value. -/
def State.keepAliveNow (s : State) : KeepAlive :=
  { eph := s.gns.eph, alm := s.gns.alm, arp := s.gns.lastArp, utc := s.get TIM_UTC_OFFSET_V, osc := Config.freeNat s.free
    tai := some (s.siteEpoch + s.sn / 4000, s.gns.aon / 125)
    crc := crc32c (kaBytes s.gns.eph s.gns.alm s.gns.lastArp (s.get TIM_UTC_OFFSET_V) (Config.freeNat s.free)
      (some (s.siteEpoch + s.sn / 4000, s.gns.aon / 125))) }

theorem exec_keepaliveWrite_operate {s : State} (hd : s.dev = .operate) (ht : s.stroked = true) :
    exec .keepaliveWrite s = .next (s.setGns { s.gns with keepAlive := some s.keepAliveNow }).drawn := by
  change execKeepaliveWrite s = _
  simp [execKeepaliveWrite, State.writeKeepAlive, State.keepAliveNow, hd, ht]

/-- Settles O22: a Sync measurement by what the servo answers on it, the rest each by the lemma about its row. -/
theorem clocksTb1AndTb3 : Obligations.ClocksTb1AndTb3 := by
  refine ⟨?near, ?disagrees, ?joins, ?steps, fun v a s => exec_tb3Load_set a, ?latched, ?utc, ?kept⟩
  case near =>
    intro m r o a s u hs hm hu ho hr he hl
    subst ho
    rw [exec_ptpSync_taken a ⟨hs, hm, hu, hr, he⟩, State.ptpServo_near m.port hl]
    rfl
  case disagrees =>
    intro m r o a s u hs hm hu ho hr he hl hb ha
    subst ho
    rw [exec_ptpSync_taken a ⟨hs, hm, hu, hr, he⟩, State.ptpServo_disagrees m.port hl hb ha]
    rfl
  case joins =>
    intro m r o a s u hs hm hu ho hr he hl hb ha hn
    subst ho
    rw [exec_ptpSync_taken a ⟨hs, hm, hu, hr, he⟩, State.ptpServo_joins m.port hl hb ha hn]
    rfl
  case steps =>
    intro m r o a s u hs hm hu ho hr he hl hb ha hn hf
    subst ho
    rw [exec_ptpSync_taken a ⟨hs, hm, hu, hr, he⟩, State.ptpServo_steps m.port hl hb ha hn hf]
    rfl
  case latched =>
    intro a s hm
    exact ⟨_, exec_tb3ReadLatch_live a hm, s.tb3Latched_ns a, s.tb3Latched_sec a, rfl, rfl⟩
  case utc =>
    intro v a s hm hl ht ha
    exact ⟨_, exec_utcOffsetChange_reached hm hl ht ha, State.get_put _ _ _ (by decide), rfl⟩
  case kept => exact fun s hd ht => ⟨s.keepAliveNow, ⟨_, exec_keepaliveWrite_operate hd ht, rfl⟩, rfl, rfl, rfl, rfl, rfl, rfl⟩

end Sys2Proof.Machine

namespace Sys2Proof.Machine

open Sys2Proof

/-! ### A launch time is reached (R96) -/

/-- The frame at the head of a queue of a served device has a launch time. -/
structure LaunchAt (s : State) (p c l : Nat) (e : QEntry) (r : List QEntry) : Prop where
  serving : s.serving = true
  queue : s.queue p c = e :: r
  launch : e.launch = some l

/-- No port's register of PTP is the count of late launches. -/
theorem State.lateSend_count (s : State) (p n : Nat) :
    (s.count TIM_LAUNCH_LATE n).flag (TIM_PORT_PTP_LATE_SEND p) = s.flag (TIM_PORT_PTP_LATE_SEND p) :=
  congrArg (· == 1) (State.get_setNum_ne s _ (TIM_PORT_PTP_LATE_SEND p) (show 0x080404 + 0x8 * p ≠ 0x080058 by omega))

section
variable {s : State} {p c l : Nat} {e : QEntry} {r : List QEntry}

/-- A launch time already past is counted; LATE_SEND decides what becomes of its frame. -/
theorem State.weighHead_late {now : Nat} (fuel : Nat) (hq : s.queue p c = e :: r) (hl : e.launch = some l) (hn : l < now) :
    s.weighHead p c now (fuel + 1) =
      if s.flag (TIM_PORT_PTP_LATE_SEND p) then (s.count TIM_LAUNCH_LATE 1).setQueue p c ({ e with launch := none } :: r)
      else (((s.count TIM_LAUNCH_LATE 1).setQueue p c r).discard e).weighHead p c now fuel := by
  simp only [State.weighHead, hq, hl, Nat.not_le.mpr hn, if_false, State.lateSend_count]

variable (h : LaunchAt s p c l e r) {a : Nat}
include h

theorem exec_launchTime_due (hn : s.portNow p a = l) :
    exec (.launchTime p c a) s = .next (
      let u := s.setQueue p c ({ e with launch := none } :: r)
      if (u.eg p).busy.isNone && u.linkOf p && (u.eligible p c l).isSome then u.startFrame p c a else u) := by
  change execLaunchTime p c a s = _
  simp only [execLaunchTime, h.serving, h.queue, h.launch, hn, Nat.lt_irrefl]
  rfl

theorem exec_launchTime_late (hn : l < s.portNow p a) :
    exec (.launchTime p c a) s = .next (s.weighHead p c (s.portNow p a) (r.length + 1)) := by
  change execLaunchTime p c a s = _
  simp [execLaunchTime, h.serving, h.queue, h.launch, hn, Nat.lt_asymm hn]

/-- The launch time lies ahead: the frame waits, unless it would wait longer than TIM_LAUNCH_MAX_WAIT. -/
theorem exec_launchTime_ahead (hn : s.portNow p a < l) :
    exec (.launchTime p c a) s = .next
      (if s.tooFar l (s.portNow p a) then (s.setQueue p c r).launchDrop p e (s.portNow p a) else s) := by
  change execLaunchTime p c a s = _
  simp [execLaunchTime, h.serving, h.queue, h.launch, hn]

end

/-! ### Gates (R97, R353) -/

theorem State.gatesOf_setGates (s : State) (p : Nat) (g : Gates) : (s.setGates p g).gatesOf p = g := tgetD_tput _ _ _ _

theorem State.gatesOf_setGates_ne (s : State) {p q : Nat} (g : Gates) (h : q ≠ p) : (s.setGates p g).gatesOf q = s.gatesOf q :=
  congrArg (Option.getD · ({} : Gates)) ((tget_tput p q g).trans (if_neg h.symm))

section
variable {s : State} {p : Nat} {l : GateList} (a : Nat) (hs : s.serving = true)
include hs

theorem exec_gateInterval_next (ho : (s.gatesOf p).oper = some l) (hh : (s.gatesOf p).held = none) :
    exec (.gateInterval p a) s = .next
      (s.setGates p { s.gatesOf p with idx := if (s.gatesOf p).idx + 1 < l.spans.length then (s.gatesOf p).idx + 1 else 0 }) := by
  change execGateInterval p a s = _
  simp only [execGateInterval, hs, ho, hh]
  rfl

/-- Gates held by a step of their clock begin with the first entry, at their time (R92). -/
theorem exec_gateInterval_held {h : Nat} (ho : (s.gatesOf p).oper = some l) (hh : (s.gatesOf p).held = some h) :
    exec (.gateInterval p a) s = .next
      (if s.portNow p a < h then s else s.setGates p { s.gatesOf p with idx := 0, held := none }) := by
  change execGateInterval p a s = _
  simp only [execGateInterval, hs, ho, hh]
  rfl

/-- The administrative list of a port is the operational one from `now` on. -/
def State.takeAdmin (s : State) (p : Nat) (l : GateList) (now : Nat) : State :=
  (s.operate p l now).setGates p { (s.operate p l now).gatesOf p with admin := none }

theorem exec_gateListChange_reached {k : Nat} (hadm : (s.gatesOf p).admin = some (l, k)) (hk : k ≤ s.portNow p a) :
    exec (.gateListChange p a) s = .next
      ((s.takeAdmin p l (s.portNow p a)).record EV_GATE_LIST_CHANGE 0 p l.entries.length l.cycle) := by
  change execGateListChange p a s = _
  simp only [execGateListChange, hs, hadm, Nat.not_lt.mpr hk]
  rfl

end

theorem State.gatesOf_takeAdmin (s : State) (p : Nat) (l : GateList) (now : Nat) :
    (s.takeAdmin p l now).gatesOf p =
      { s.gatesOf p with oper := some l, idx := l.entryAt now, held := none, broken := false, admin := none } := by
  rw [State.takeAdmin, State.gatesOf_setGates, State.operate, State.gatesOf_setGates]

theorem State.gatesOf_takeAdmin_ne (s : State) {p q : Nat} (l : GateList) (now : Nat) (h : q ≠ p) :
    (s.takeAdmin p l now).gatesOf q = s.gatesOf q := by
  rw [State.takeAdmin, State.gatesOf_setGates_ne _ _ h, State.operate, State.gatesOf_setGates_ne _ _ h]

/-- Settles O23: a launch time by whether it is due, past or ahead; gates by the lemma about their row. -/
theorem gatesAndLaunchTimes : Obligations.GatesAndLaunchTimes := by
  refine ⟨fun p c a l e r s hs hq hl => exec_launchTime_due ⟨hs, hq, hl⟩, ?sent, ?discarded, ?dropped, ?waits,
    fun p a l s hs => exec_gateInterval_next a hs, fun p a l h s hs => exec_gateInterval_held a hs,
    fun p a l k s hs => exec_gateListChange_reached a hs, ?changed⟩
  case sent =>
    intro p c a l e r s hs hq hl hn hf
    rw [exec_launchTime_late ⟨hs, hq, hl⟩ hn, State.weighHead_late _ hq hl hn, if_pos hf]
  case discarded =>
    intro p c a l e r s hs hq hl hn hf
    rw [exec_launchTime_late ⟨hs, hq, hl⟩ hn, State.weighHead_late _ hq hl hn, if_neg (ne_true_of_eq_false hf)]
  case dropped =>
    intro p c a l e r s hs hq hl hn
    rw [exec_launchTime_ahead ⟨hs, hq, hl⟩ (by omega), State.tooFar, if_pos (decide_eq_true hn)]
  case waits =>
    intro p c a l e r s hs hq hl hn hw
    have hfar : s.tooFar l (s.portNow p a) = false := decide_eq_false (Nat.not_lt.mpr hw)
    rw [exec_launchTime_ahead ⟨hs, hq, hl⟩ hn, hfar, if_neg Bool.false_ne_true]
  case changed =>
    intro p a l k s hs hadm hk
    have hg := s.gatesOf_takeAdmin p l (s.portNow p a)
    exact ⟨_, exec_gateListChange_reached a hs hadm hk, congrArg Gates.oper hg, congrArg Gates.admin hg, congrArg Gates.idx hg,
      fun q hq => s.gatesOf_takeAdmin_ne l _ hq⟩

end Sys2Proof.Machine

/-! PROOFS. The GNSS baseband family: ports, the front-end bus and jamming; channels, measurement epochs, ephemerides, the survey. -/

namespace Sys2Proof.Machine

open Sys2Proof

/-! ### Ports, jamming and loss of lock (R102, R106, R113) -/

/-- No condition of R113 has held at a port for 4,000 strokes. -/
def State.jamOver (s : State) (p : Nat) : Bool :=
  match tget s.gns.jamAt p with
  | some n => decide (n + 4000 ≤ s.now)
  | none => true

section
variable {s : State} (hs : s.serving = true)
include hs

/-- A clock lost drops the tracks of the port's band, clears CLK_OK and is recorded with its last deviation (R102). -/
theorem exec_portClockLost_bad (p : Nat) {ds : List Int} (hb : clockBad 1000 ds = true) :
    exec (.portClockLost p ds) s = .next
      ((((s.setGns { s.gns with tracks := s.gns.tracks.filter fun x =>
        !(s.flag (GNS_PORT_CFG_ENABLE p) && sigBand x.sig == s.get (GNS_PORT_CFG_BAND p)) }).put
          (GNS_PORT_STAT_CLK_OK p) 0).showGnss).record EV_PORT_CLOCK_LOST 0 p (sat32 (ds.getLastD 0)) 0) := by
  change execPortClockLost p ds s = _
  simp only [execPortClockLost, hs, hb, Bool.not_true, Bool.or_self, Bool.false_eq_true, if_false]

theorem exec_gnssPortClockOk_good (p : Nat) {ds : List Int} (hg : clockGood 1000 ds = true) :
    exec (.gnssPortClockOk p ds) s = .next (s.put (GNS_PORT_STAT_CLK_OK p) 1) := by
  change execGnssPortClockOk p ds s = _
  simp [execGnssPortClockOk, hs, hg]

/-- Jamming begins where both conditions hold and JAM is not set yet (R113). -/
theorem exec_jamDetected_first {p : Nat} (hj : s.flag (GNS_PORT_STAT_JAM p) = false) (ha : s.agcRose p = true)
    (hc : 96 ≤ s.cn0Fall p) :
    exec (.jamDetected p) s = .next
      (((s.put (GNS_PORT_STAT_JAM p) 1).showGnss).record EV_JAM_DETECTED 0 p (s.cn0Fall p * 10 / 16)
        (s.get (GNS_PORT_STAT_AGC_OUT p))) := by
  have hfall : decide (s.cn0Fall p < 96) = false := decide_eq_false (Nat.not_lt.mpr hc)
  change execJamDetected p s = _
  simp [execJamDetected, hs, hj, ha, hfall]

theorem exec_jamCleared_over {p : Nat} (hj : s.flag (GNS_PORT_STAT_JAM p) = true) (ho : s.jamOver p = true) :
    exec (.jamCleared p) s = .next (((s.put (GNS_PORT_STAT_JAM p) 0).showGnss).record EV_JAM_CLEARED 0 p 0 0) := by
  have hrow : execJamCleared p s = .next (if !s.serving then s
      else if s.flag (GNS_PORT_STAT_JAM p) && s.jamOver p then
        ((s.put (GNS_PORT_STAT_JAM p) 0).showGnss).record EV_JAM_CLEARED 0 p 0 0
      else s) := rfl
  change execJamCleared p s = _
  simp [hrow, hs, hj, ho]

theorem exec_signalLockLost_serving (g p : Nat) :
    exec (.signalLockLost g p) s = .next
      (s.setGns { s.gns with tracks := s.gns.tracks.filter fun x => !(x.sig == g && x.prn == p) }).showGnss := by
  change execSignalLockLost g p s = _
  simp only [execSignalLockLost, hs, Bool.not_true, Bool.false_eq_true, if_false]

end

/-! ### An SPI control register as it is written (R104, R131) -/

theorem bitsOf_lt (w : Word) (lo n : Nat) : bitsOf w lo n < 2 ^ n := Nat.mod_lt _ (Nat.two_pow_pos n)

theorem clampN_le {lo hi : Nat} (h : lo ≤ hi) (v : Nat) : clampN lo hi v ≤ hi := by
  unfold clampN
  split
  · exact h
  · split <;> omega

theorem spiWrite_busy {w : Word} (v : Word) (sel : Bool) (h : bitsOf w 15 1 = 1) : spiWrite w v sel = w := if_pos h

section
variable {w : Word} (v : Word) (sel : Bool) (h : bitsOf w 15 1 ≠ 1)
include h

theorem bitsOf_spiWrite_go : bitsOf (spiWrite w v sel) 15 1 = bitsOf v 15 1 := by
  rw [spiWrite, if_neg h]
  dsimp only
  rw [bitsOf_withBits_below _ (by decide) _ (by decide), bitsOf_withBits _ (by decide)]
  exact Nat.mod_eq_of_lt (bitsOf_lt v 15 1)

theorem bitsOf_spiWrite_rbits : bitsOf (spiWrite w v sel) 8 6 = clampN 0 32 (bitsOf v 8 6) := by
  rw [spiWrite, if_neg h]
  dsimp only
  rw [bitsOf_withBits_below _ (by decide) _ (by decide), bitsOf_withBits_below _ (by decide) _ (by decide),
    bitsOf_withBits _ (by decide)]
  exact Nat.mod_eq_of_lt ((clampN_le (by decide) _).trans_lt (by decide))

theorem bitsOf_spiWrite_wbits : bitsOf (spiWrite w v sel) 2 6 = clampN 0 32 (bitsOf v 2 6) := by
  rw [spiWrite, if_neg h]
  dsimp only
  rw [bitsOf_withBits_below _ (by decide) _ (by decide), bitsOf_withBits_below _ (by decide) _ (by decide),
    bitsOf_withBits_below _ (by decide) _ (by decide), bitsOf_withBits _ (by decide)]
  exact Nat.mod_eq_of_lt ((clampN_le (by decide) _).trans_lt (by decide))

end

/-! ### The front-end bus (R104) -/

/-- The state with a write to GNS_SPI_CTRL done, before any bit leaves. -/
def State.gnssSpiWritten (s : State) (v : Word) : State := s.wr GNS_SPI_CTRL (spiWrite (s.rd GNS_SPI_CTRL) v true)

/-- The bits that leave when a transfer of the front-end bus starts. -/
def State.gnssSpiOut (s : State) : Out :=
  .spi false (s.get GNS_SPI_CTRL_SEL) (s.get GNS_SPI_CTRL_WBITS) (spiOut (s.num GNS_SPI_DATA) (s.get GNS_SPI_CTRL_WBITS))

theorem State.rd_gnssSpiWritten (s : State) (v : Word) {a : Nat} (h : a ≠ GNS_SPI_CTRL) : (s.gnssSpiWritten v).rd a = s.rd a :=
  State.rd_wr_ne _ _ h.symm

/-- A field of GNS_SPI_CTRL after the write is that field of the word that `spiWrite` makes. -/
theorem State.get_gnssSpiWritten (s : State) (v : Word) (lo n : Nat) :
    (s.gnssSpiWritten v).get ⟨GNS_SPI_CTRL, lo, n⟩ = bitsOf (spiWrite (s.rd GNS_SPI_CTRL) v true) lo n :=
  congrArg (bitsOf · lo n) (State.rd_wr_same _ _ _)

section
variable {s : State} (v : Word) (hg : s.get GNS_SPI_CTRL_GO ≠ 1)
include hg

theorem State.go_gnssSpiWritten : (s.gnssSpiWritten v).get GNS_SPI_CTRL_GO = bitsOf v 15 1 :=
  (s.get_gnssSpiWritten v 15 1).trans (bitsOf_spiWrite_go v true hg)

theorem State.wbits_gnssSpiWritten : (s.gnssSpiWritten v).get GNS_SPI_CTRL_WBITS = clampN 0 32 (bitsOf v 2 6) :=
  (s.get_gnssSpiWritten v 2 6).trans (bitsOf_spiWrite_wbits v true hg)

theorem State.rbits_gnssSpiWritten : (s.gnssSpiWritten v).get GNS_SPI_CTRL_RBITS = clampN 0 32 (bitsOf v 8 6) :=
  (s.get_gnssSpiWritten v 8 6).trans (bitsOf_spiWrite_rbits v true hg)

end

theorem exec_gnssSpiTransfer_idle {s : State} (v : Word) (hm : s.mainLive = true) (hg : s.get GNS_SPI_CTRL_GO ≠ 1) :
    exec (.gnssSpiTransfer v) s = .next
      (if (s.gnssSpiWritten v).flag GNS_SPI_CTRL_GO then (s.gnssSpiWritten v).emit (s.gnssSpiWritten v).gnssSpiOut
       else s.gnssSpiWritten v) := by
  have hrow : execGnssSpiTransfer v s = .next (if !s.mainLive then s
      else if s.flag GNS_SPI_CTRL_GO || !(s.gnssSpiWritten v).flag GNS_SPI_CTRL_GO then s.gnssSpiWritten v
      else (s.gnssSpiWritten v).emit (s.gnssSpiWritten v).gnssSpiOut) := rfl
  have hidle : s.flag GNS_SPI_CTRL_GO = false := beq_false_of_ne hg
  change execGnssSpiTransfer v s = _
  simp only [hrow, hm, hidle, Bool.not_true, Bool.false_or, Bool.false_eq_true, if_false]
  cases (s.gnssSpiWritten v).flag GNS_SPI_CTRL_GO <;> rfl

/-- While a transfer runs a write rewrites the register with what it holds, and no bit leaves. -/
theorem exec_gnssSpiTransfer_busy {s : State} (v : Word) (hm : s.mainLive = true) (hg : s.get GNS_SPI_CTRL_GO = 1) :
    exec (.gnssSpiTransfer v) s = .next (s.wr GNS_SPI_CTRL (s.rd GNS_SPI_CTRL)) := by
  have hbusy : s.flag GNS_SPI_CTRL_GO = true := beq_of_eq hg
  have hkeep : spiWrite (s.rd GNS_SPI_CTRL) v true = s.rd GNS_SPI_CTRL := spiWrite_busy v true hg
  change execGnssSpiTransfer v s = _
  simp [execGnssSpiTransfer, hm, hbusy, hkeep]

/-- A register written with what it holds reads as before, as do all others. -/
theorem State.rd_wr_self (s : State) (a b : Nat) : (s.wr a (s.rd a)).rd b = s.rd b := by
  rw [State.rd_wr]
  split
  · next h => rw [h]
  · rfl

theorem exec_gnssSpiDone_busy {s : State} (b : Nat) (hs : s.serving = true) (hg : s.get GNS_SPI_CTRL_GO = 1) :
    exec (.gnssSpiDone b) s = .next ((s.put GNS_SPI_CTRL_GO 0).setNum GNS_SPI_DATA
      (spiShift (s.num GNS_SPI_DATA) (s.get GNS_SPI_CTRL_WBITS) (s.get GNS_SPI_CTRL_RBITS) b)) := by
  change execGnssSpiDone b s = _
  simp [execGnssSpiDone, hs, hg]

/-- Settles O24: the front-end bus by what a write of its control register leaves there, the rest each by the lemma about its row. -/
theorem gnssPortsAndBus : Obligations.GnssPortsAndBus := by
  refine ⟨fun p ds s hs => exec_portClockLost_bad hs p, fun p ds s hs => exec_gnssPortClockOk_good hs p, ?started, ?ignored, ?done,
    fun p s hs => exec_jamDetected_first hs, fun p s hs => exec_jamCleared_over hs, fun g p s hs => exec_signalLockLost_serving hs g p⟩
  case started =>
    intro v s hm hg
    have hidle : s.get GNS_SPI_CTRL_GO ≠ 1 := by
      rw [hg]
      decide
    have hgo := State.go_gnssSpiWritten v hidle
    have hw := State.wbits_gnssSpiWritten v hidle
    have hr := State.rbits_gnssSpiWritten v hidle
    have hdata : (s.gnssSpiWritten v).num GNS_SPI_DATA = s.num GNS_SPI_DATA :=
      congrArg BitVec.toNat (s.rd_gnssSpiWritten v (by decide))
    refine ⟨_, exec_gnssSpiTransfer_idle v hm hidle, ?_⟩
    by_cases h : bitsOf v 15 1 = 1
    · have hf : (s.gnssSpiWritten v).flag GNS_SPI_CTRL_GO = true := beq_of_eq (hgo.trans h)
      rw [if_pos hf, if_pos h, ← hdata]
      exact ⟨hgo, hw, hr, rfl, fun a => s.rd_gnssSpiWritten v⟩
    · have hf : (s.gnssSpiWritten v).flag GNS_SPI_CTRL_GO = false := beq_false_of_ne fun e => h (hgo.symm.trans e)
      rw [if_neg (ne_true_of_eq_false hf), if_neg h]
      exact ⟨hgo, hw, hr, rfl, fun a => s.rd_gnssSpiWritten v⟩
  case ignored =>
    intro v s hm hg
    exact ⟨_, exec_gnssSpiTransfer_busy v hm hg, rfl, s.rd_wr_self _⟩
  case done =>
    intro b s hs hg
    refine ⟨_, exec_gnssSpiDone_busy b hs hg, ?_, State.num_setNum _ _ _⟩
    rw [State.get_setNum_ne _ _ _ (by decide), State.get_put _ _ _ (by decide), Nat.zero_mod]

end Sys2Proof.Machine

namespace Sys2Proof.Machine

open Sys2Proof

/-! ### Channel assignment (R106) -/

@[simp] theorem State.showGnss_gns (s : State) : s.showGnss.gns = s.gns := by
  simp only [State.showGnss, State.put_gns]

/-- The tracks that an assignment leaves in their channels: those of satellites not below the mask. -/
def State.keptTracks (s : State) (vs : List SatView) : List Track :=
  s.gns.tracks.filter fun t => vs.any fun v =>
    v.cst == sigConst t.sig && v.prn == t.prn && decide ((s.get GNS_CFG_ELEV_MASK : Int) * 10 ≤ v.elev)

/-- The tracks that an assignment would begin, the highest satellite first. -/
def State.wantedTracks (s : State) (vs : List SatView) : List Track :=
  ((vs.filter fun v => bit (s.get GNS_CFG_CONST_EN) v.cst &&
      decide ((s.get GNS_CFG_ELEV_MASK : Int) * 10 < v.elev)).foldl (fun l v => insertSat v l) []).flatMap fun v =>
    (constSigs v.cst).filterMap fun g =>
      if s.sigAvail g && s.sigClock g && !((s.keptTracks vs).any fun t => t.sig == g && t.prn == v.prn) then
        some (⟨g, v.prn, v.fcn, s.now, none⟩ : Track)
      else none

/-- The tracks after an assignment: the kept ones, then as many of the wanted ones as channels are free. -/
def State.assignedTracks (s : State) (vs : List SatView) : List Track :=
  s.keptTracks vs ++ (s.wantedTracks vs).take (512 - (s.keptTracks vs).length)

/-- Wanted signals without a channel are recorded once while any are left. -/
def State.tellFull (s : State) (left : Nat) : State :=
  if left = 0 then s.setGns { s.gns with fullSaid := false }
  else if s.gns.fullSaid then s
  else (s.setGns { s.gns with fullSaid := true }).record EV_CHANNELS_FULL 0 left 0 0

theorem State.tellFull_tracks (s : State) (left : Nat) : (s.tellFull left).gns.tracks = s.gns.tracks := by
  unfold State.tellFull
  split
  · rfl
  · split <;> rfl

theorem exec_channelAssign_serving {s : State} (vs : List SatView) (hs : s.serving = true) :
    exec (.channelAssign vs) s = .next ((s.setGns { s.gns with tracks := s.assignedTracks vs }).showGnss.tellFull
      ((s.wantedTracks vs).length - (512 - (s.keptTracks vs).length))) := by
  have hrow : execChannelAssign vs s = .next (if !s.serving then s
      else (s.setGns { s.gns with tracks := s.assignedTracks vs }).showGnss.tellFull
        ((s.wantedTracks vs).length - (512 - (s.keptTracks vs).length))) := rfl
  change execChannelAssign vs s = _
  rw [hrow, hs]
  rfl

theorem State.length_keptTracks_le (s : State) (vs : List SatView) : (s.keptTracks vs).length ≤ s.gns.tracks.length :=
  List.length_filter_le _ _

theorem State.length_assignedTracks_le {s : State} (vs : List SatView) (h : s.gns.tracks.length ≤ 512) :
    (s.assignedTracks vs).length ≤ 512 := by
  have hkept := s.length_keptTracks_le vs
  have htaken := (s.wantedTracks vs).length_take_le (512 - (s.keptTracks vs).length)
  rw [State.assignedTracks, List.length_append]
  omega

theorem State.lockSn_of_mem_wantedTracks {s : State} {vs : List SatView} {x : Track} (h : x ∈ s.wantedTracks vs) :
    x.lockSn = s.now := by
  obtain ⟨v, -, hv⟩ := List.mem_flatMap.mp h
  obtain ⟨g, -, hg⟩ := List.mem_filterMap.mp hv
  split at hg
  · cases hg
    rfl
  · cases hg

/-- A track after an assignment was there before, or begins now. -/
theorem State.mem_assignedTracks {s : State} {vs : List SatView} {x : Track} (h : x ∈ s.assignedTracks vs) :
    x ∈ s.gns.tracks ∨ x.lockSn = s.now :=
  (List.mem_append.mp h).imp List.mem_of_mem_filter fun hw => State.lockSn_of_mem_wantedTracks (List.mem_of_mem_take hw)

/-- A track that an assignment drops is of no satellite in view above the mask. -/
theorem State.not_visible_of_not_mem_assignedTracks {s : State} {vs : List SatView} {x : Track} (h : x ∈ s.gns.tracks)
    (hx : x ∉ s.assignedTracks vs) :
    ¬ ∃ v, v ∈ vs ∧ v.cst = sigConst x.sig ∧ v.prn = x.prn ∧ (s.get GNS_CFG_ELEV_MASK : Int) * 10 ≤ v.elev := by
  rintro ⟨v, hv, hc, hp, he⟩
  have hkept : x ∈ s.keptTracks vs :=
    List.mem_filter.mpr ⟨h, List.any_eq_true.mpr ⟨v, hv, by simp [hc, hp, he]⟩⟩
  exact hx (List.mem_append_left _ hkept)

/-! ### The latch of a measurement epoch (R107, R110) -/

theorem State.dropOldEph_now (s : State) : s.dropOldEph.now = s.now := by
  unfold State.dropOldEph
  dsimp only
  split <;> rfl

theorem State.dropOldEph_stroked (s : State) : s.dropOldEph.stroked = s.stroked := by
  unfold State.dropOldEph
  dsimp only
  split <;> rfl

/-- The state with the measurements of this count latched as an epoch. -/
def State.latchEpoch (s : State) (mine : List Meas) : State :=
  s.setGns { s.gns with latched := some (s.now, mine), preEpoch := !s.stroked, epochs := (s.now :: s.gns.epochs).take 2 }

/-- What a latched epoch measures: the signals in track. -/
def State.trackedOf (s : State) (ms : List Meas) : List Meas :=
  ms.filter fun m => s.gns.tracks.any fun t => t.sig == m.sig && t.prn == m.prn

theorem exec_measurementEpoch_latches {s : State} (ms : List Meas) (hs : s.serving = true) (hn : s.now % 200 = 0) :
    exec (.measurementEpoch ms) s = .next
      ((List.range 4).foldl (fun t p => t.noteCn0 (s.trackedOf ms) p) (s.dropOldEph.latchEpoch (s.trackedOf ms))) := by
  have hrow : execMeasurementEpoch ms s = .next (if !s.serving || s.now % 200 != 0 then s
      else (List.range 4).foldl (fun t p => t.noteCn0 (s.trackedOf ms) p) (s.dropOldEph.latchEpoch (s.trackedOf ms))) := rfl
  change execMeasurementEpoch ms s = _
  rw [hrow, hs, hn]
  rfl

/-! ### The checks of an epoch (R111, R112) -/

/-- What every step of a fold that carries a value with the state leaves alone, the fold does. -/
theorem foldl_fst_keeps {α β γ : Type} (π : State → γ) (g : State × β → α → State × β) (l : List α) (x : State × β)
    (h : ∀ x a, π (g x a).1 = π x.1) : π (l.foldl g x).1 = π x.1 := by
  induction l generalizing x with
  | nil => rfl
  | cons a l ih => rw [List.foldl_cons, ih, h]

/-- What the checks of an epoch read beside its measurements and leave alone: when it was latched, and the antenna's delay. -/
def State.beforeChecks (s : State) : Bool × Nat := (s.gns.preEpoch, s.num GNS_ANT_DELAY_NS)

theorem State.exclude_beforeChecks (s : State) (c g p : Nat) (cm : Int) : (s.exclude c g p cm).beforeChecks = s.beforeChecks :=
  Prod.ext rfl (State.num_setNum_ne _ _ (by decide))

theorem State.checkSlip_beforeChecks (s : State) (sn : Nat) (m : Meas) : (s.checkSlip sn m).1.beforeChecks = s.beforeChecks := rfl

theorem State.checkIfb_beforeChecks (s : State) (sn : Nat) (es : List SetEntry) :
    (s.checkIfb sn es).1.beforeChecks = s.beforeChecks := by
  unfold State.checkIfb
  dsimp only
  refine (foldl_keeps State.beforeChecks (fun t (x : IfbKey × Int) => t.setGns (t.gns.addIfb x.1 sn x.2)) _ _
    fun _ _ => rfl).trans (foldl_keeps State.beforeChecks _ _ s fun t e => ?_)
  split
  · exact t.exclude_beforeChecks _ _ _ _
  · rfl

theorem State.checkResidual_beforeChecks (s : State) (g p : Nat) (cm : Int) (es : List SetEntry) :
    (s.checkResidual g p cm es).1.beforeChecks = s.beforeChecks := by
  unfold State.checkResidual
  dsimp only
  split
  · rfl
  · exact s.exclude_beforeChecks _ _ _ _

theorem State.checkMeas_beforeChecks (s : State) (x : Solution) (sn : Nat) (ms : List Meas) :
    (s.checkMeas x sn ms).1.beforeChecks = s.beforeChecks := by
  unfold State.checkMeas
  refine (foldl_fst_keeps State.beforeChecks _ _ _ fun y _ => y.1.checkResidual_beforeChecks _ _ _ _).trans ?_
  refine (State.checkIfb_beforeChecks _ _ _).trans ?_
  exact foldl_fst_keeps State.beforeChecks _ _ (s, []) fun y m => y.1.checkSlip_beforeChecks sn m

theorem State.checkClock_preEpoch (s : State) (x : Solution) (sn : Nat) (bias : Int) (es : List SetEntry) :
    (s.checkClock x sn bias es).1.gns.preEpoch = s.gns.preEpoch := by
  unfold State.checkClock
  split
  · rfl
  · dsimp only
    split <;> split <;> rfl

theorem State.antDelay_checkMeas (s : State) (x : Solution) (sn : Nat) (ms : List Meas) :
    (s.checkMeas x sn ms).1.num GNS_ANT_DELAY_NS = s.num GNS_ANT_DELAY_NS := congrArg Prod.snd (s.checkMeas_beforeChecks x sn ms)

/-- GNSS time less TB0 as a solution finds it, with the antenna's delay (log entry 31). -/
def State.biasOf (s : State) (x : Solution) : Int := x.bias + signed 32 (s.num GNS_ANT_DELAY_NS)

/-- The state after the checks of an epoch, with the outcome of check 6. -/
def State.judgeEpoch (s : State) (x : Solution) (sn : Nat) (ms : List Meas) : State × Bool :=
  (s.checkMeas x sn ms).1.checkClock x sn (s.biasOf x) (s.checkMeas x sn ms).2

theorem State.preEpoch_judgeEpoch (s : State) (x : Solution) (sn : Nat) (ms : List Meas) :
    (s.judgeEpoch x sn ms).1.gns.preEpoch = s.gns.preEpoch :=
  (State.checkClock_preEpoch _ _ _ _ _).trans (congrArg Prod.fst (s.checkMeas_beforeChecks x sn ms))

/-- What the checks make of an epoch: it stands until it is presented. -/
def State.checkedOf (s : State) (x : Solution) (sn : Nat) (ms : List Meas) : Checked :=
  { sn := sn, pre := s.gns.preEpoch, tracked := !ms.isEmpty, arp := (s.judgeEpoch x sn ms).1.gns.arp, bias := s.biasOf x, pos := x.pos
    drift := x.drift, sats := goodSats (s.checkMeas x sn ms).2, clkOk := (s.judgeEpoch x sn ms).2, entries := (s.checkMeas x sn ms).2 }

theorem exec_consistencyChecks_latched {s : State} (x : Solution) {n : Nat} {ms : List Meas} (hs : s.serving = true)
    (hl : s.gns.latched = some (n, ms)) :
    exec (.consistencyChecks x) s = .next ((s.judgeEpoch x n ms).1.setGns
      { (s.judgeEpoch x n ms).1.gns with latched := none, checked := some (s.checkedOf x n ms) }) := by
  change execConsistencyChecks x s = _
  rw [State.checkedOf, ← s.preEpoch_judgeEpoch x n ms, State.judgeEpoch, State.biasOf, ← s.antDelay_checkMeas x n ms]
  simp only [execConsistencyChecks, hs, hl, Bool.not_true, Bool.false_eq_true, if_false]

/-! ### Presentation, and an epoch that misses it (R107, R108, R117) -/

theorem exec_setPresented_due {s : State} {x : Checked} (hs : s.serving = true) (hc : s.gns.checked = some x)
    (hlo : x.sn + 2 ≤ s.now) (hhi : s.now ≤ x.sn + 4) (ht : x.tracked = true) :
    let u := (s.setGns { s.gns with checked := none }).offerEpoch x
    let v := u.put GNS_STATUS_CLOCK_FAR (b2n (bit (u.setOf x (s.offers x)).flags 2))
    exec .setPresented s = .next (if x.pre || !v.stroked || !v.authority then v else v.presentSet (u.setOf x (s.offers x))) := by
  have hlate : decide (x.sn + 4 < s.now) = false := decide_eq_false (Nat.not_lt.mpr hhi)
  change execSetPresented s = _
  simp only [execSetPresented, hs, hc, ht, hlate, Nat.not_lt.mpr hlo, decide_false, Bool.not_true, Bool.or_self, Bool.false_eq_true,
    if_false]

theorem exec_epochMissing_some {s : State} {e : Nat} (hs : s.serving = true) (he : s.missingEpoch = some e) :
    let u := (s.setGns { s.gns with latched := none, checked := none }).noOffer
    let v := (u.count GNS_EPOCHS_MISSED 1).record EV_EPOCH_MISSING 0 e 0 0
    exec .epochMissing s = .next
      (if v.stroked && v.authority && e % v.corrPeriod == 0 then (v.logInput (.value 0x0C (leBytes 8 e))).withhold 3 e else v) := by
  change execEpochMissing s = _
  simp only [execEpochMissing, hs, he, Bool.not_true, Bool.false_eq_true, if_false]

/-- A latched epoch whose checks are not complete is missing at E + 4. -/
theorem State.missingEpoch_latched {s : State} {e : Nat} {ms : List Meas} (h : s.gns.latched = some (e, ms)) :
    s.missingEpoch = if e + 4 ≤ s.now then some e else none := by
  simp only [State.missingEpoch, h]

/-! ### Ephemerides (R111 check 2, R119, R186) -/

/-- What the rest of an ephemeris message leaves alone. -/
def State.besideMessage (s : State) : List Eph × List (Eph × Nat) × List Track × Baseline :=
  (s.gns.eph, s.gns.rejected, s.gns.tracks, s.bsl)

theorem State.utcHeard_besideMessage (s : State) (c : Nat) (v : Int) : (s.utcHeard c v).besideMessage = s.besideMessage := by
  unfold State.utcHeard
  dsimp only
  split <;> rfl

theorem State.leapHeard_besideMessage (s : State) (c : Nat) (l : Int × Nat) : (s.leapHeard c l).besideMessage = s.besideMessage := by
  unfold State.leapHeard
  dsimp only
  split <;> rfl

/-- A message may carry an almanac, TAI − UTC, and an announced leap second. -/
def State.hearAlmanac (s : State) (c p : Nat) (a : Option (List Byte)) : State :=
  match a with
  | some b => s.setGns { s.gns with alm := putEph s.gns.alm ⟨c, p, b⟩ }
  | none => s

def State.hearUtc (s : State) (c : Nat) (v : Option Int) : State :=
  match v with
  | some v => s.utcHeard c v
  | none => s

def State.hearLeap (s : State) (c : Nat) (l : Option (Int × Nat)) : State :=
  match l with
  | some l => s.leapHeard c l
  | none => s

theorem State.hearAlmanac_besideMessage (s : State) (c p : Nat) (a : Option (List Byte)) :
    (s.hearAlmanac c p a).besideMessage = s.besideMessage := by
  cases a <;> rfl

theorem State.hearUtc_besideMessage (s : State) (c : Nat) (v : Option Int) : (s.hearUtc c v).besideMessage = s.besideMessage := by
  cases v with
  | none => rfl
  | some v => exact s.utcHeard_besideMessage c v

theorem State.hearLeap_besideMessage (s : State) (c : Nat) (l : Option (Int × Nat)) :
    (s.hearLeap c l).besideMessage = s.besideMessage := by
  cases l with
  | none => rfl
  | some l => exact s.leapHeard_besideMessage c l

/-- What follows the ephemeris in its message. -/
def State.hearMessage (s : State) (c p : Nat) (a : Option (List Byte)) (v : Option Int) (l : Option (Int × Nat)) : State :=
  ((s.hearAlmanac c p a).hearUtc c v).hearLeap c l

theorem State.hearMessage_besideMessage (s : State) (c p : Nat) (a : Option (List Byte)) (v : Option Int) (l : Option (Int × Nat)) :
    (s.hearMessage c p a v l).besideMessage = s.besideMessage :=
  (State.hearLeap_besideMessage _ c l).trans ((State.hearUtc_besideMessage _ c v).trans (s.hearAlmanac_besideMessage c p a))

/-- Check 2 turns an ephemeris away: it lies more than 10 m from the one held, and was not turned away before. -/
def State.rejectsEph (s : State) (e : Eph) (k : Nat) : Bool :=
  (s.gns.eph.any fun x => x.cst == e.cst && x.prn == e.prn) && decide (10 < k) && !(s.gns.rejected.any fun x => x.1 == e)

/-- The ephemerides turned away of other satellites. -/
def State.rejectedOthers (s : State) (e : Eph) : List (Eph × Nat) :=
  s.gns.rejected.filter fun x => !(x.1.cst == e.cst && x.1.prn == e.prn)

/-- An ephemeris is turned away; the time of the satellite's first rejection stands. -/
def State.rejectEph (s : State) (e : Eph) (k : Nat) : State :=
  let since := (s.gns.rejected.find? fun x => x.1.cst == e.cst && x.1.prn == e.prn).map Prod.snd
  (s.setGns { s.gns with rejected := s.rejectedOthers e ++ [(e, since.getD s.gns.upPeriods)] }).record EV_EPHEMERIS_REJECTED 0
    (256 * e.cst + e.prn) k 0

/-- An ephemeris is held, and an input of the Baseline engine. -/
def State.holdEph (s : State) (e : Eph) : State :=
  (s.setGns { s.gns with eph := putEph s.gns.eph e, rejected := s.rejectedOthers e }).presentEph e

theorem exec_ephemerisReceived_serving {s : State} (c p k : Nat) (b : List Byte) (a : Option (List Byte)) (v : Option Int)
    (l : Option (Int × Nat)) (hs : s.serving = true) :
    exec (.ephemerisReceived c p k b a v l) s = .next
      ((if s.rejectsEph ⟨c, p, b⟩ k then s.rejectEph ⟨c, p, b⟩ k else s.holdEph ⟨c, p, b⟩).hearMessage c p a v l) := by
  have hrow : execEphemerisReceived c p k b a v l s = .next (if !s.serving then s
      else (if s.rejectsEph ⟨c, p, b⟩ k then s.rejectEph ⟨c, p, b⟩ k else s.holdEph ⟨c, p, b⟩).hearMessage c p a v l) := rfl
  change execEphemerisReceived c p k b a v l s = _
  rw [hrow, hs]
  rfl

theorem State.rejected_rejectEph (s : State) (e : Eph) (k : Nat) : ((s.rejectEph e k).gns.rejected.any fun x => x.1 == e) = true := by
  simp [State.rejectEph]

/-! ### The survey, the keep-alive data and the loss of time (R115, R117, R122) -/

theorem exec_surveySlow_first {s : State} {v : Survey} (hs : s.serving = true) (hv : s.gns.survey = some v)
    (hf : v.slowSaid = false) (hm : s.num GNS_SURVEY_MAX_S ≤ v.seconds s.gns.upPeriods) :
    exec .surveySlow s = .next ((s.setGns { s.gns with survey := some { v with slowSaid := true } }).record EV_SURVEY_SLOW 0
      (v.seconds s.gns.upPeriods) (s.num GNS_SURVEY_SIGMA) 0) := by
  have hreached : decide (v.seconds s.gns.upPeriods < s.num GNS_SURVEY_MAX_S) = false := decide_eq_false (Nat.not_lt.mpr hm)
  change execSurveySlow s = _
  simp only [execSurveySlow, hs, hv, hf, hreached, Bool.not_true, Bool.or_self, Bool.false_eq_true, if_false]

/-- The survey that a restart leaves: before SYS_ENGAGE none. -/
def State.newSurvey (s : State) : Option Survey := if s.engaged then some ⟨0, (0, 0, 0), 0, s.gns.upPeriods, false⟩ else none

/-- The state after a restart of the survey. -/
def State.surveyRestarted (s : State) : State :=
  (((s.setGns { s.gns with arp := none, survey := s.newSurvey }).put GNS_STATUS_BASE_FIXED 0).put GNS_STATUS_SURVEYING
    (b2n s.newSurvey.isSome)).setNum GNS_SURVEY_SIGMA 0

theorem exec_surveyRestart_own {s : State} (hm : s.mainLive = true) (hc : s.flag GNS_CFG_ARP_MODE = true) :
    exec .surveyRestart s = .next s.surveyRestarted := by
  change execSurveyRestart s = _
  simp only [execSurveyRestart, hm, hc, Bool.not_true, Bool.false_eq_true, if_false, if_true]
  rfl

theorem State.isSome_newSurvey (s : State) : s.newSurvey.isSome = s.engaged := by
  unfold State.newSurvey
  cases s.engaged <;> rfl

theorem State.baseFixed_surveyRestarted (s : State) : s.surveyRestarted.get GNS_STATUS_BASE_FIXED = 0 := by
  rw [State.surveyRestarted, State.get_setNum_ne _ _ _ (by decide), State.get_put_apart _ _ _ _ (by rfl) (by decide) (by decide),
    State.get_put _ _ _ (by decide), Nat.zero_mod]

theorem State.surveying_surveyRestarted (s : State) : s.surveyRestarted.get GNS_STATUS_SURVEYING = b2n s.engaged := by
  rw [State.surveyRestarted, State.get_setNum_ne _ _ _ (by decide), State.get_put _ _ _ (by decide), State.isSome_newSurvey]
  exact Nat.mod_eq_of_lt (b2n_lt_two _)

theorem exec_forgetKeepalive_live {s : State} (hm : s.mainLive = true) :
    exec .forgetKeepalive s = .next (s.setGns { s.gns with forgetKa := true }) := by
  change execForgetKeepalive s = _
  simp only [execForgetKeepalive, hm, Bool.not_true, Bool.false_eq_true, if_false]

/-- The twentieth epoch without an offer loses GNSS time, and TB0 with it where GNSS is its source. -/
theorem exec_timeLost_first {s : State} (hs : s.serving = true) (hl : s.gns.lost = false) (hn : 20 ≤ s.gns.noOffer)
    (hv : s.flag GNS_STATUS_TIME_VALID = true) :
    let u := (s.setGns { s.gns with lost := true, agree := 0 }).put GNS_STATUS_TIME_VALID 0
    let v := u.record EV_TIME_LOST 0 20 (u.get GNS_TRACKED_SATS) 0
    exec .timeLost s = .next (if v.get TIM_STATUS_TB0_SRC = 1 && !v.flag TIM_STATUS_HOLDOVER then v.enterHoldover else v) := by
  have hfew : decide (s.gns.noOffer < 20) = false := decide_eq_false (Nat.not_lt.mpr hn)
  change execTimeLost s = _
  simp only [execTimeLost, hs, hl, hfew, hv, Bool.not_true, Bool.or_self, Bool.false_eq_true, if_false]

/-- Settles O25: an assignment by what it keeps and begins, the checks by what they leave of the epoch, an ephemeris by check 2, the
rest each by the lemma about its row. -/
theorem measurementEpochs : Obligations.MeasurementEpochs := by
  refine ⟨?assign, ?latch, ?checks, fun x s => exec_setPresented_due, fun e s => exec_epochMissing_some,
    fun e ms s => State.missingEpoch_latched, ?held, ?rejected, fun v s => exec_surveySlow_first, ?restart,
    fun s => exec_forgetKeepalive_live, fun s => exec_timeLost_first⟩
  case assign =>
    intro vs s hs hlen
    refine ⟨_, exec_channelAssign_serving vs hs, ?_⟩
    rw [State.tellFull_tracks, State.showGnss_gns, State.setGns_gns]
    exact ⟨State.length_assignedTracks_le vs hlen, fun x => State.mem_assignedTracks,
      fun x => State.not_visible_of_not_mem_assignedTracks⟩
  case latch =>
    intro ms s hs hn
    rw [exec_measurementEpoch_latches ms hs hn, State.latchEpoch, State.dropOldEph_now, State.dropOldEph_stroked]
    rfl
  case checks =>
    intro x n ms s hs hl
    exact ⟨_, _, exec_consistencyChecks_latched x hs hl, rfl, rfl, rfl, rfl, rfl, rfl, rfl⟩
  case held =>
    intro c p k b a v l s hs hj
    have hj : s.rejectsEph ⟨c, p, b⟩ k = false := hj
    have hkeep := (s.holdEph ⟨c, p, b⟩).hearMessage_besideMessage c p a v l
    rw [exec_ephemerisReceived_serving c p k b a v l hs, hj]
    exact ⟨_, rfl, congrArg Prod.fst hkeep, congrArg (·.2.2.1) hkeep⟩
  case rejected =>
    intro c p k b a v l s hs hk he hr
    have hj : s.rejectsEph ⟨c, p, b⟩ k = true := by simp [State.rejectsEph, hk, he, hr]
    have hkeep := (s.rejectEph ⟨c, p, b⟩ k).hearMessage_besideMessage c p a v l
    rw [exec_ephemerisReceived_serving c p k b a v l hs, hj]
    refine ⟨_, rfl, congrArg Prod.fst hkeep, congrArg (·.2.2.2) hkeep, ?_⟩
    exact (congrArg (List.any · _) (congrArg (·.2.1) hkeep)).trans (s.rejected_rejectEph _ k)
  case restart =>
    intro s hm hc
    exact ⟨s.surveyRestarted, exec_surveyRestart_own hm hc, rfl, rfl, s.baseFixed_surveyRestarted, s.surveying_surveyRestarted,
      State.num_setNum _ _ _⟩

end Sys2Proof.Machine

/-! PROOFS. The radio family: port clocks, the transceiver bus, calibration. -/

namespace Sys2Proof.Machine

open Sys2Proof

/-! ### What the lane and transmitter displays leave alone (R134, R157) -/

@[simp] theorem State.showLanes_rad (s : State) : s.showLanes.rad = s.rad :=
  (State.put_rad _ _ _).trans (State.put_rad _ _ _)

@[simp] theorem State.showTx_rad (s : State) : s.showTx.rad = s.rad := by
  unfold State.showTx
  dsimp only
  rw [State.put_rad, State.put_rad]
  exact foldl_keeps State.rad _ _ _ fun _ _ => State.put_rad _ _ _

/-- A report to a MAC changes no transmission. -/
theorem State.reportTx_tx (s : State) (o : TxOwner) (r : TxResult) : (s.reportTx o r).rad.tx = s.rad.tx := by
  have hlog (t : State) (e : LogEntry) : (t.logInput e).rad = t.rad := by
    unfold State.logInput
    split <;> rfl
  unfold State.reportTx
  rw [hlog]
  cases o <;> rfl

theorem State.dropRx_lanes (s : State) (p : Nat) : (s.dropRx p).1.rad.lanes = s.rad.lanes.filter fun l => l.port != p := rfl

/-- A cut takes exactly the transmissions named off; the reports and the lines at rest keep the others. -/
theorem State.cutTx_tx (s : State) (p : Tx → Bool) : (s.cutTx p).rad.tx = s.rad.tx.filter fun t => !p t := by
  unfold State.cutTx
  dsimp only
  split
  · next h =>
    have hnone : ∀ t ∈ s.rad.tx, ¬ p t = true := List.filter_eq_nil_iff.mp (List.isEmpty_iff.mp h)
    exact (List.filter_eq_self.mpr fun t ht => by simp [hnone t ht]).symm
  · rw [foldl_keeps (fun s => s.rad.tx) State.restLines _ _ fun _ _ => rfl,
      foldl_keeps (fun s => s.rad.tx) _ _ _ fun s t => s.reportTx_tx _ _, State.showTx_rad]
    rfl

/-! ### Port clocks (R127) -/

section
variable {s : State} (hs : s.serving = true)
include hs

theorem exec_rfClockLost_bad (p : Nat) {ds : List Int} (hb : clockBad 2000 ds = true) :
    let u := ((s.dropRx p).1.cutTx fun x => x.onAir && x.port == p).put (RAD_PORT_STAT_CLK_OK p) 0
    let v := u.put RAD_STATUS_CLK_OK (clearBit (u.get RAD_STATUS_CLK_OK) p)
    exec (.rfClockLost p ds) s = .next (v.record EV_RF_CLOCK_LOST 0 p (sat32 (ds.getLastD 0)) 0) := by
  change execRfClockLost p ds s = _
  simp only [execRfClockLost, hs, hb, Bool.not_true, Bool.or_self, Bool.false_eq_true, if_false]

theorem exec_rfClockOk_good (p : Nat) {ds : List Int} (hg : clockGood 2000 ds = true) :
    let u := s.put (RAD_PORT_STAT_CLK_OK p) 1
    exec (.rfClockOk p ds) s = .next (u.put RAD_STATUS_CLK_OK (setBit (u.get RAD_STATUS_CLK_OK) p)) := by
  change execRfClockOk p ds s = _
  simp only [execRfClockOk, hs, hg, Bool.not_true, Bool.or_self, Bool.false_eq_true, if_false]

end

/-! ### The transceiver bus (R131) -/

theorem RAD_SPI_DATA_ne_CTRL (p : Nat) : RAD_SPI_DATA p ≠ RAD_SPI_CTRL p := by
  unfold RAD_SPI_DATA RAD_SPI_CTRL
  omega

/-- The state with a write of `v` to the SPI control register at `a` done, before any bit leaves. -/
def State.spiWritten (s : State) (a : Nat) (v : Word) (sel : Bool) : State := s.wr a (spiWrite (s.rd a) v sel)

/-- A field of an SPI control register after the write is that field of the word that `spiWrite` makes. -/
theorem State.get_spiWritten (s : State) (a : Nat) (v : Word) (sel : Bool) (lo n : Nat) :
    (s.spiWritten a v sel).get ⟨a, lo, n⟩ = bitsOf (spiWrite (s.rd a) v sel) lo n :=
  congrArg (bitsOf · lo n) (State.rd_wr_same _ _ _)

theorem State.rd_spiWritten (s : State) {a b : Nat} (v : Word) (sel : Bool) (h : b ≠ a) : (s.spiWritten a v sel).rd b = s.rd b :=
  State.rd_wr_ne _ _ h.symm

/-- The state after a write of `v` to RAD_SPI_CTRL_n while no transfer runs: where GO is set now, the bits to write leave. -/
def State.rfSpiStarted (s : State) (p : Nat) (v : Word) : State :=
  let t := s.spiWritten (RAD_SPI_CTRL p) v false
  if t.flag (RAD_SPI_CTRL_GO p) then
    t.emit (.spi true p (t.get (RAD_SPI_CTRL_WBITS p)) (spiOut (t.num (RAD_SPI_DATA p)) (t.get (RAD_SPI_CTRL_WBITS p))))
  else t

theorem State.regs_rfSpiStarted (s : State) (p : Nat) (v : Word) :
    (s.rfSpiStarted p v).regs = (s.spiWritten (RAD_SPI_CTRL p) v false).regs := by
  unfold State.rfSpiStarted
  dsimp only
  split <;> rfl

theorem State.rd_rfSpiStarted (s : State) (p : Nat) (v : Word) {a : Nat} (h : a ≠ RAD_SPI_CTRL p) :
    (s.rfSpiStarted p v).rd a = s.rd a :=
  (State.rd_congr (s.regs_rfSpiStarted p v) a).trans (s.rd_spiWritten v false h)

theorem State.get_rfSpiStarted (s : State) (p : Nat) (v : Word) (lo n : Nat) :
    (s.rfSpiStarted p v).get ⟨RAD_SPI_CTRL p, lo, n⟩ = bitsOf (spiWrite (s.rd (RAD_SPI_CTRL p)) v false) lo n :=
  (State.get_congr (s.regs_rfSpiStarted p v) _).trans (s.get_spiWritten _ v false lo n)

/-- The bits that leave are the top WBITS bits of the data register, which the write of the control register keeps. -/
theorem State.out_rfSpiStarted (s : State) (p : Nat) (v : Word) :
    (s.rfSpiStarted p v).out = (if (s.rfSpiStarted p v).get (RAD_SPI_CTRL_GO p) = 1 then
      [Out.spi true p ((s.rfSpiStarted p v).get (RAD_SPI_CTRL_WBITS p))
        (spiOut (s.num (RAD_SPI_DATA p)) ((s.rfSpiStarted p v).get (RAD_SPI_CTRL_WBITS p)))] else []) ++ s.out := by
  have hdata : (s.spiWritten (RAD_SPI_CTRL p) v false).num (RAD_SPI_DATA p) = s.num (RAD_SPI_DATA p) :=
    congrArg BitVec.toNat (s.rd_spiWritten v false (RAD_SPI_DATA_ne_CTRL p))
  rw [State.get_congr (s.regs_rfSpiStarted p v), State.get_congr (s.regs_rfSpiStarted p v), State.rfSpiStarted, hdata]
  by_cases h : (s.spiWritten (RAD_SPI_CTRL p) v false).get (RAD_SPI_CTRL_GO p) = 1
  · rw [if_pos h, State.flag, if_pos (beq_of_eq h)]
    rfl
  · rw [if_neg h, State.flag, if_neg (ne_true_of_eq_false (beq_false_of_ne h))]
    rfl

theorem exec_rfSpiTransfer_idle {s : State} {p : Nat} (v : Word) (hm : s.mainLive = true) (hg : s.get (RAD_SPI_CTRL_GO p) ≠ 1) :
    exec (.rfSpiTransfer p v) s = .next (s.rfSpiStarted p v) := by
  have hidle : s.flag (RAD_SPI_CTRL_GO p) = false := beq_false_of_ne hg
  change execRfSpiTransfer p v s = _
  simp only [execRfSpiTransfer, hm, hidle, Bool.not_true, Bool.false_or, Bool.false_eq_true, if_false, Bool.not_eq_true']
  simp only [← Bool.not_eq_true, ite_not]
  rfl

/-- While a transfer runs a write rewrites the register with what it holds, and no bit leaves. -/
theorem exec_rfSpiTransfer_busy {s : State} {p : Nat} (v : Word) (hm : s.mainLive = true) (hg : s.get (RAD_SPI_CTRL_GO p) = 1) :
    exec (.rfSpiTransfer p v) s = .next (s.wr (RAD_SPI_CTRL p) (s.rd (RAD_SPI_CTRL p))) := by
  have hbusy : s.flag (RAD_SPI_CTRL_GO p) = true := beq_of_eq hg
  have hkeep : spiWrite (s.rd (RAD_SPI_CTRL p)) v false = s.rd (RAD_SPI_CTRL p) := spiWrite_busy v false hg
  change execRfSpiTransfer p v s = _
  simp [execRfSpiTransfer, hm, hbusy, hkeep]

theorem exec_rfSpiDone_busy {s : State} {p : Nat} (b : Nat) (hs : s.serving = true) (hg : s.get (RAD_SPI_CTRL_GO p) = 1) :
    exec (.rfSpiDone p b) s = .next ((s.put (RAD_SPI_CTRL_GO p) 0).setNum (RAD_SPI_DATA p)
      (spiShift (s.num (RAD_SPI_DATA p)) (s.get (RAD_SPI_CTRL_WBITS p)) (s.get (RAD_SPI_CTRL_RBITS p)) b)) := by
  change execRfSpiDone p b s = _
  simp [execRfSpiDone, hs, hg]

/-! ### Calibration (R155) -/

/-- The state in which the calibration of a port has begun. -/
def State.calStarted (s : State) (p : Nat) : State :=
  ((s.setNum RAD_CAL_STAT 1).put RAD_STATUS_CAL 1).setRad { s.rad with calPort := some p }

theorem exec_calStart_begins {s : State} {v : Word} (hv : bitsOf v 8 1 = 1) (hd : s.dev = .setup ∨ s.dev = .quiet)
    (hb : s.get RAD_CAL_STAT_BUSY = 0) : exec (.calStart v) s = .next (s.calStarted (bitsOf v 0 3)) := by
  have hdev : (s.dev == .setup || s.dev == .quiet) = true := by
    rcases hd with h | h <;> rw [h] <;> rfl
  change execCalStart v s = _
  simp only [execCalStart, hv, hdev, hb, decide_true, beq_self_eq_true, Bool.and_self, if_true]
  rw [State.calStarted, State.put_rad, State.setNum_rad]

theorem State.busy_calStarted (s : State) (p : Nat) : (s.calStarted p).get RAD_CAL_STAT_BUSY = 1 := by
  rw [State.calStarted, State.get_congr (State.setRad_regs _ _), State.get_put_other _ _ _ _ (by decide)]
  exact congrArg (bitsOf · 0 1) (State.rd_wr_same _ _ _)

theorem State.shown_calStarted (s : State) (p : Nat) : (s.calStarted p).get RAD_STATUS_CAL = 1 := by
  rw [State.calStarted, State.get_congr (State.setRad_regs _ _), State.get_put _ _ _ (by decide)]
  rfl

/-- Calibration ends on the port where it began: DONE from 40 dB image rejection on, FAIL below. -/
theorem exec_calDone_running {s : State} {p : Nat} (r l : Nat) (a b c : Word) (hs : s.serving = true)
    (hp : s.rad.calPort = some p) :
    let u := (((s.wr (RAD_TX_CORR p) a).wr (RAD_TX_DC p) b).wr (RAD_RX_CORR p) c).setRad { s.rad with calPort := none }
    let v := (((u.put RAD_STATUS_CAL 0).setNum RAD_CAL_STAT 0).put RAD_CAL_STAT_REJECT (clampN 0 255 (r / 10))).put
      RAD_CAL_STAT_LEAK (clampN 0 255 (l / 10))
    exec (.calDone r l a b c) s = .next (if 400 ≤ r then (v.put RAD_CAL_STAT_DONE 1).record EV_CAL_DONE 0 p r l
      else (v.put RAD_CAL_STAT_FAIL 1).record EV_CAL_FAILED 0 p r 0) := by
  change execCalDone r l a b c s = _
  simp only [execCalDone, hs, hp, Bool.not_true, Bool.false_eq_true, if_false, ← Nat.not_le, ite_not]
  rfl

/-- Settles O27: the transceiver bus by what a write of its control register leaves there, a lost clock by what a cut keeps, the
rest each by the lemma about its row. -/
theorem radioPortsAndCalibration : Obligations.RadioPortsAndCalibration := by
  refine ⟨fun p ds s hs => exec_rfClockLost_bad hs p, fun p s => ⟨s.dropRx_lanes p, s.cutTx_tx _⟩,
    fun p ds s hs => exec_rfClockOk_good hs p, ?started, ?ignored, ?done, ?calStart,
    fun r l a b c p s => exec_calDone_running r l a b c⟩
  case started =>
    intro p v s hm hg
    have hidle : s.get (RAD_SPI_CTRL_GO p) ≠ 1 := by
      rw [hg]
      decide
    have hgo : (s.rfSpiStarted p v).get (RAD_SPI_CTRL_GO p) = bitsOf v 15 1 :=
      (s.get_rfSpiStarted p v 15 1).trans (bitsOf_spiWrite_go v false hidle)
    exact ⟨_, exec_rfSpiTransfer_idle v hm hidle, hgo, (s.get_rfSpiStarted p v 2 6).trans (bitsOf_spiWrite_wbits v false hidle),
      (s.get_rfSpiStarted p v 8 6).trans (bitsOf_spiWrite_rbits v false hidle), hgo ▸ s.out_rfSpiStarted p v,
      fun a => s.rd_rfSpiStarted p v⟩
  case ignored =>
    intro p v s hm hg
    exact ⟨_, exec_rfSpiTransfer_busy v hm hg, rfl, s.rd_wr_self _⟩
  case done =>
    intro p b s hs hg
    refine ⟨_, exec_rfSpiDone_busy b hs hg, ?_, State.num_setNum _ _ _⟩
    rw [State.get_setNum_ne _ _ _ (RAD_SPI_DATA_ne_CTRL p).symm, State.get_put _ _ _ (show 15 + 1 ≤ 32 by decide), Nat.zero_mod]
  case calStart =>
    intro v s hv hd hb
    exact ⟨_, exec_calStart_begins hv hd hb, rfl, s.busy_calStarted _, s.shown_calStarted _⟩

end Sys2Proof.Machine

/-! PROOFS. The radio family: lanes, received frames, transmissions. -/

namespace Sys2Proof.Machine

open Sys2Proof

/-! ### A preamble takes a lane (R130, R134) -/

/-- The lane that a preamble takes: the reserved one of a CFL channel, else the lowest free one of its kind. -/
def State.laneFor (s : State) (p c k : Nat) : Option Lane :=
  match s.cflRx.findIdx? fun x => x == (p, c) with
  | some n => some ⟨k, n, p, c, true⟩
  | none => (s.freeLane k).map fun n => ⟨k, n, p, c, false⟩

/-- The state with a lane taken, or with the miss counted for the kind. -/
def State.takeLane (s : State) (k : Nat) : Option Lane → State
  | some l => (s.setRad { s.rad with lanes := s.rad.lanes ++ [l] }).showLanes
  | none => s.missLane k

section
variable {s : State} {p c ns : Nat} (hs : s.serving = true)
include hs

theorem exec_preambleDetect_blanked (hb : s.blanked p (absNs s.sn ns) = true) : exec (.preambleDetect p c ns) s = .next s := by
  change execPreambleDetect p c ns s = _
  simp only [execPreambleDetect, hs, hb, Bool.or_true, Bool.true_or, Bool.not_true, Bool.false_eq_true, if_false, if_true]

theorem exec_preambleDetect_heard {k h : Nat} (he : s.get (RAD_RX_CFG_ENABLE p c) = 1) (hp : s.get (RAD_PORT_CFG_ENABLE p) = 1)
    (hk : s.get (RAD_PORT_STAT_CLK_OK p) = 1) (hb : s.blanked p (absNs s.sn ns) = false)
    (hl : s.rad.lanes.any (fun l => l.port == p && l.ch == c) = false)
    (hm : modeInfo (s.get (RAD_RX_CFG_MODE p c)) = some (k, h)) :
    exec (.preambleDetect p c ns) s = .next (s.takeLane k (s.laneFor p c k)) := by
  change execPreambleDetect p c ns s = _
  simp only [execPreambleDetect, hs, he, hp, hk, hb, hl, hm, Nat.one_ne_zero, decide_false, Bool.or_self, Bool.not_true,
    Bool.false_eq_true, if_false, State.laneFor]
  cases s.cflRx.findIdx? fun x => x == (p, c) with
  | some n => rfl
  | none => cases s.freeLane k <;> rfl

end

/-! ### A received frame (R135, R315) -/

/-- The state with the lane of a frame's channel free again. -/
def State.freeLaneOf (s : State) (f : RxFrame) : State :=
  (s.setRad { s.rad with lanes := s.rad.lanes.filter fun l => !(l.port == f.port && l.ch == f.ch) }).showLanes

/-- What the lane read of a frame's samples goes to its MAC; a frame that the receiver discards ends there. -/
def State.deliverAir (u : State) (f : RxFrame) (air : RxAir) (ok : Bool) (w : Nat) : State :=
  match u.laneFrame f air with
  | some g => u.passFrame g ok w
  | none => u

theorem exec_radioFrameReceived_laned {s : State} {f : RxFrame} (air : RxAir) (ok : Bool) (w : Nat) (hs : s.serving = true)
    (hl : (s.rad.lanes.any fun l => l.port == f.port && l.ch == f.ch) = true) :
    exec (.radioFrameReceived f air ok w) s = .next ((s.freeLaneOf f).deliverAir f air ok w) := by
  change execRadioFrameReceived f air ok w s = _
  simp only [execRadioFrameReceived, hs, hl, Bool.not_true, Bool.false_eq_true, if_false]
  rfl

/-- What a change of an intake FIFO's fill uses: registers of the fabric ports, the fabric's state, the recorder. -/
structure FillFree {β : Type} (π : State → β) : Prop where
  wr : ∀ s a v, a / 0x10000 = 6 → π (State.wr s a v) = π s
  net : ∀ s x, π (State.setNet s x) = π s
  record : ∀ s c x p q r, π (State.record s c x p q r) = π s

/-- What a new fill of an intake FIFO leaves alone. -/
theorem FillFree.setFill {β : Type} {π : State → β} (h : FillFree π) (s : State) {p : Nat} (w : Nat) (hp : p < 64) :
    π (s.setFill p w) = π s := by
  have hput (t : State) (f : Fld) (v : Nat) (hf : f.addr / 0x10000 = 6) : π (t.put f v) = π t := h.wr _ _ _ hf
  have hfill : PRT_FILL p / 0x10000 = 6 := by unfold PRT_FILL; omega
  have hpeak : PRT_FILL_PEAK p / 0x10000 = 6 := by unfold PRT_FILL_PEAK; omega
  have hfloat (t : State) : π (t.setFloatHit p) = π t := by
    unfold State.setFloatHit
    split <;> exact h.wr _ _ _ (by decide)
  have hite {c : Prop} [Decidable c] {x y : State} (hx : π x = π s) (hy : π y = π s) : π (if c then x else y) = π s := by
    split <;> assumption
  unfold State.setFill
  extract_lets words mark shown peaked rose net marked hit hitNet due dueNet told
  have hshown : π shown = π s := hput _ _ _ hfill
  have hpeaked : π peaked = π s := hite ((hput _ _ _ hpeak).trans hshown) hshown
  have hmarked : π marked = π s := (h.net _ _).trans hpeaked
  have hhit : π hit = π s := (hfloat _).trans hmarked
  have hdue : π due = π s := hite ((h.net _ _).trans hhit) hhit
  have hsaid (x : Net) : π ((due.setNet x).record EV_FLOAT_MARK 0 p words 0) = π s :=
    (h.record _ _ _ _ _ _).trans ((h.net _ _).trans hdue)
  have htold : π told = π s := by
    refine hite hmarked ?_
    split
    · exact hite hdue (hsaid _)
    · exact hsaid _
  exact hite ((h.net _ _).trans htold) (hite ((h.net _ _).trans htold) htold)

theorem State.role_setFill (s : State) {p : Nat} (w : Nat) (hp : p < 64) : (s.setFill p w).role = s.role :=
  FillFree.setFill (π := State.role) ⟨fun _ _ _ _ => rfl, fun _ _ => rfl, fun _ _ _ _ _ _ => rfl⟩ s w hp

theorem State.rd_setFill (s : State) {p : Nat} (w : Nat) (hp : p < 64) {a : Nat} (ha : a / 0x10000 ≠ 6) :
    (s.setFill p w).rd a = s.rd a :=
  FillFree.setFill (π := fun s => s.rd a)
    ⟨fun _ _ _ hb => State.rd_wr_ne _ _ fun e => ha (e ▸ hb), fun _ _ => rfl, fun _ _ _ _ _ _ => rfl⟩ s w hp

/-- Every MSH_CHAN_n stands in the block of MESH. -/
theorem State.meshChanOf_congr {s t : State} (h : ∀ a, a / 0x10000 = 0x0F → t.rd a = s.rd a) (p c : Nat) :
    t.meshChanOf p c = s.meshChanOf p c := by
  refine List.find?_congr fun n hn => ?_
  have hrd : t.rd (MSH_CHAN n) = s.rd (MSH_CHAN n) := h _ (by
    have := List.mem_range.mp hn
    unfold MSH_CHAN
    omega)
  simp only [State.flag, State.get, hrd]

/-- The port of a fleet channel is one of 8. -/
theorem State.port_lt_of_fleetChanOf {s : State} {p c : Nat} (h : (s.fleetChanOf p c).isSome = true) : p < 8 := by
  obtain ⟨n, hn⟩ := Option.isSome_iff_exists.mp h
  have hport : (s.get (FLT_CHAN_PORT n) == p && s.get (FLT_CHAN_RXCH n) == c) = true :=
    List.find?_some (p := fun c' => s.get (FLT_CHAN_PORT c') == p && s.get (FLT_CHAN_RXCH c') == c) hn
  rw [Bool.and_eq_true, beq_iff_eq] at hport
  exact hport.1 ▸ bitsOf_lt _ _ _

/-- A frame of a channel that is none of the mesh is passed on where its check passed. -/
theorem State.rxHardware_fleet {s : State} {f : RxFrame} (ok : Bool) (h : s.meshChanOf f.port f.ch = none) :
    s.rxHardware f ok = (s, if ok then some f else none) := by
  simp only [State.rxHardware, h, Option.filter_none]

/-- A frame of a fleet channel with its check passed, as the Cistern takes or refuses it. -/
def State.storeFleet (v : State) (g : RxFrame) : State :=
  match v.storeFrame (32 + g.port) 0 g.bytes true none with
  | some (x, n) =>
    let y := x.count (PRT_RX_FRAMES (32 + g.port)) 1
    (y.setRad { y.rad with rx := y.rad.rx ++ [{ g with acked := none, cell := some n }] }).presentIntake (32 + g.port) 3
  | none => v.admitDrop (32 + g.port)

/-- On a fleet channel of a unit that is no standby, a frame with a bad FCS is counted, any other goes to the Cistern. -/
theorem State.passFrame_fleet {u : State} {g : RxFrame} (ok : Bool) (w : Nat) (hr : u.role ≠ .standby)
    (hm : u.meshChanOf g.port g.ch = none) (hf : (u.fleetChanOf g.port g.ch).isSome = true) :
    u.passFrame g ok w = if !ok then (u.setFill (32 + g.port) w).count (PRT_RX_BAD (32 + g.port)) 1
      else (u.setFill (32 + g.port) w).storeFleet g := by
  have hp : g.port < 8 := State.port_lt_of_fleetChanOf hf
  have hrole : (u.setFill (32 + g.port) w).role ≠ .standby := by
    rw [u.role_setFill w (by omega)]
    exact hr
  have hmesh : (u.setFill (32 + g.port) w).meshChanOf g.port g.ch = none :=
    (State.meshChanOf_congr (fun a ha => u.rd_setFill w (by omega) (by omega)) _ _).trans hm
  have hbad : ((u.setFill (32 + g.port) w).count (PRT_RX_BAD (32 + g.port)) 1).meshChanOf g.port g.ch = none :=
    (State.meshChanOf_congr (fun a ha => State.rd_setNum_ne _ _ (by unfold PRT_RX_BAD; omega)) _ _).trans hmesh
  have hfleet : (u.fleetChanOf g.port g.ch).isNone = false := Option.isNone_eq_false_iff.mpr hf
  simp only [State.passFrame, hm, hfleet, Option.isSome_none, Bool.and_false, Bool.false_eq_true, if_false]
  cases ok with
  | false =>
    rw [if_neg Bool.false_ne_true, if_neg (by exact hrole), State.rxHardware_fleet (f := { g with acked := none }) false hbad]
    rfl
  | true =>
    rw [if_pos rfl, if_neg hrole, State.rxHardware_fleet (f := { g with acked := none }) true hmesh]
    rfl

/-! ### A transmission is requested (R151, R154) -/

/-- The transmission that a request makes, with its air time. -/
def State.txOf (w : State) (o : TxOwner) (p c n ns m k : Nat) (b : List Byte) : Tx :=
  { id := w.rad.nextTx, owner := o, port := p, ch := c, sn := n, ns := ns, len := airNs (w.get (RAD_TX_CFG_MODE p c)) m b.length k
    mcs := m, bytes := b }

/-- The owner may send, the channel and its port run, the PHY sends a frame of this size, and the request came in time. -/
def State.txAdmits (w : State) (x : Tx) (now : Nat) : Bool :=
  w.txAllowed x.owner && w.flag (RAD_TX_CFG_ENABLE x.port x.ch) && w.flag (RAD_PORT_CFG_ENABLE x.port) &&
  frameFits (w.get (RAD_TX_CFG_MODE x.port x.ch)) x.mcs x.bytes.length &&
  decide (now ≤ w.txStart x - w.get (RAD_PORT_LAT_TX x.port))

/-- The transmissions that a new one overlaps. -/
def State.txLaps (w : State) (x : Tx) : List Tx := w.rad.tx.filter fun y => w.txOverlap x y

/-- The state with the next number of a transmission given out. -/
def State.txNumbered (w : State) : State := w.setRad { w.rad with nextTx := w.rad.nextTx + 1 }

/-- What becomes of a requested transmission. -/
def State.scheduleTx (w : State) (x : Tx) (now : Nat) : State :=
  if !w.txAdmits x now then w.txNumbered.refuseTx x.owner x.port x.ch x.sn
  else if (w.txLaps x).isEmpty then w.setRad { w.rad with nextTx := w.rad.nextTx + 1, tx := w.rad.tx ++ [x] }
  else if x.isStop && !((w.txLaps x).any fun y => y.isStop && y.down.isNone) then w.txNumbered.displace x now
  else w.txNumbered.refuseTx x.owner x.port x.ch x.sn

/-- A request is judged after the transmissions that have ended are taken off. -/
theorem exec_txRequest_serving {s w : State} {x : Tx} {o : TxOwner} {p c n ns m k a : Nat} {b : List Byte} (hs : s.serving = true)
    (hw : w = s.sweepTx (absNs s.sn a)) (hx : x = w.txOf o p c n ns m k b) :
    exec (.txRequest o p c n ns m k a b) s = .next (w.scheduleTx x (absNs s.sn a)) := by
  have htime (i j : Nat) : decide (i < j) = !decide (j ≤ i) := by simp only [← decide_not, Nat.not_le]
  change execTxRequest o p c n ns m k a b s = _
  rw [execTxRequest, hs, State.txRequest, ← hw, htime, ← Bool.not_and, ← Bool.not_and, ← Bool.not_and, ← Bool.not_and]
  subst hx
  rfl

section
variable {w : State} {x : Tx} {now : Nat}

theorem State.txAdmits_of {o : TxOwner} {p c n ns m k : Nat} {b : List Byte} (hx : x = w.txOf o p c n ns m k b)
    (ho : w.txAllowed o = true) (hc : w.flag (RAD_TX_CFG_ENABLE p c) = true) (hp : w.flag (RAD_PORT_CFG_ENABLE p) = true)
    (hf : frameFits (w.get (RAD_TX_CFG_MODE p c)) m b.length = true) (ht : now ≤ w.txStart x - w.get (RAD_PORT_LAT_TX p)) :
    w.txAdmits x now = true := by
  subst hx
  simp only [State.txAdmits, State.txOf, ho, hc, hp, hf, Bool.true_and]
  exact decide_eq_true ht

theorem State.scheduleTx_refused (h : w.txAdmits x now = false) :
    w.scheduleTx x now = w.txNumbered.refuseTx x.owner x.port x.ch x.sn := by
  rw [State.scheduleTx, h]
  rfl

theorem State.scheduleTx_clear (h : w.txAdmits x now = true) (hl : w.txLaps x = []) :
    w.scheduleTx x now = w.setRad { w.rad with nextTx := w.rad.nextTx + 1, tx := w.rad.tx ++ [x] } := by
  rw [State.scheduleTx, h, hl]
  rfl

theorem State.scheduleTx_overlapping (h : w.txAdmits x now = true) (hl : w.txLaps x ≠ []) :
    w.scheduleTx x now = if x.isStop && !((w.txLaps x).any fun y => y.isStop && y.down.isNone) then w.txNumbered.displace x now
      else w.txNumbered.refuseTx x.owner x.port x.ch x.sn := by
  rw [State.scheduleTx, h, List.isEmpty_eq_false_iff.mpr hl]
  rfl

end

/-! ### A transmission is launched (R127, R129, R154) -/

/-- The state in which transmission `n` is on air with its lines up. -/
def State.launched (s : State) (n m : Nat) (x : Tx) : State :=
  let u := (s.sweepTx (s.txStart x)).clipTx x.port m
  ((u.setRad { u.rad with tx := u.rad.tx.map fun v => if v.id = n then { v with onAir := true } else v }).airs x).raiseLines x

section
variable {s : State} {n : Nat} (m : Nat) {x : Tx} (hs : s.serving = true)
  (hx : (s.rad.tx.find? fun t => t.id == n && !t.onAir) = some x)
include hs hx

theorem exec_txLaunch_sent (hc : s.get (RAD_PORT_STAT_CLK_OK x.port) ≠ 0) (ho : s.txAllowed x.owner = true) :
    exec (.txLaunch n m) s = .next (s.launched n m x) := by
  change execTxLaunch n m s = _
  simp only [execTxLaunch, hs, hx, hc, ho, decide_false, Bool.not_true, Bool.or_self, Bool.false_eq_true, if_false]
  rfl

theorem exec_txLaunch_unsent (h : s.get (RAD_PORT_STAT_CLK_OK x.port) = 0 ∨ s.txAllowed x.owner = false) :
    exec (.txLaunch n m) s = .next (s.setRad { s.rad with tx := s.rad.tx.filter fun v => v.id != n }) := by
  have hstop : (decide (s.get (RAD_PORT_STAT_CLK_OK x.port) = 0) || !s.txAllowed x.owner) = true := by
    rcases h with h | h <;> simp [h]
  change execTxLaunch n m s = _
  simp only [execTxLaunch, hs, hx, hstop, Bool.not_true, Bool.false_eq_true, if_false, if_true]

end

theorem State.mem_out_raiseLines {s : State} {o : Out} (t : Tx) (h : o ∈ s.out) : o ∈ (s.raiseLines t).out := by
  unfold State.raiseLines
  split
  · exact h
  · exact List.mem_cons_of_mem _ h

/-- The bytes of a transmission leave with a PHY header word and a waveform. -/
theorem State.air_mem_out_airs (s : State) (x : Tx) :
    ∃ h fm, Out.air x.port x.ch x.sn x.ns x.owner h x.bytes fm ∈ (s.airs x).out :=
  ⟨_, _, List.mem_cons_self⟩

/-- Settles O28: a preamble by the lane it takes, a frame by its fleet channel, a request by what becomes of its transmission. -/
theorem framesOnAirAndReceived : Obligations.FramesOnAirAndReceived := by
  refine ⟨?preamble, fun p c ns s hs => exec_preambleDetect_blanked hs,
    fun f air ok w s hs hl => exec_radioFrameReceived_laned air ok w hs hl, fun g ok w u => State.passFrame_fleet ok w,
    ?scheduled, ?refused, ?overlapping, ?sent, fun n m x s hs hx => exec_txLaunch_unsent m hs hx⟩
  case preamble =>
    intro p c ns k h s hs he hp hk hb hl hm
    rw [exec_preambleDetect_heard hs he hp hk hb hl hm, State.laneFor]
    cases s.cflRx.findIdx? fun x => x == (p, c) with
    | some n => rfl
    | none => cases s.freeLane k <;> rfl
  case scheduled =>
    intro o p c n ns m k a b s w x hs hw hx ho hc hp hf ht hl
    rw [exec_txRequest_serving hs hw hx, State.scheduleTx_clear (State.txAdmits_of hx ho hc hp hf ht) hl]
  case refused =>
    intro o p c n ns m k a b s w x hs hw hx hno
    rw [exec_txRequest_serving hs hw hx]
    subst hx
    exact congrArg Host.Outcome.next (State.scheduleTx_refused (x := w.txOf o p c n ns m k b) hno)
  case overlapping =>
    intro o p c n ns m k a b s w x hs hw hx ho hc hp hf ht hl
    rw [exec_txRequest_serving hs hw hx, State.scheduleTx_overlapping (State.txAdmits_of hx ho hc hp hf ht) hl]
    subst hx
    rfl
  case sent =>
    rintro n m x s u t hs hx hc ho rfl rfl
    obtain ⟨h, fm, hout⟩ := State.air_mem_out_airs _ x
    exact ⟨exec_txLaunch_sent m hs hx hc ho, h, fm, State.mem_out_raiseLines x hout⟩

end Sys2Proof.Machine

/-! PROOFS. The fleet link family: a condition of R158 that an enabled fleet channel breaks is found by SYS_ENGAGE, which then refuses. -/

namespace Sys2Proof.Machine

open Sys2Proof

/-! ### What SYS_ENGAGE finds (R490) -/

theorem leastOf_eq_none {l : List Nat} : leastOf l = none ↔ l = [] := by
  cases l with
  | nil => simp [leastOf]
  | cons a r => unfold leastOf; cases leastOf r <;> simp

theorem failing_eq_nil {n ofs step : Nat} {p : Nat → Bool} : failing n ofs step p = [] ↔ ∀ i < n, p i = false := by
  simp [failing]

/-- One failing offset in one present capability of the list is enough for an error. -/
theorem State.engageErr_of_capFails {s : State} {cap : Nat} (hc : cap < 23) (ha : s.capAbsent cap = false)
    (hf : s.capFails cap ≠ []) : ∃ c o, s.engageErr = some (c, o) := by
  have hne : s.engageErr ≠ none := fun hn => by
    have hcap := List.findSome?_eq_none_iff.mp hn cap (List.mem_range.mpr hc)
    rw [ha, if_neg Bool.false_ne_true, Option.map_eq_none_iff] at hcap
    exact hf (leastOf_eq_none.mp hcap)
  obtain ⟨⟨c, o⟩, h⟩ := Option.ne_none_iff_exists'.mp hne
  exact ⟨c, o, h⟩

/-- A capability with a failing offset makes SYS_ENGAGE refuse: the device stays in SETUP and VALID is set. -/
theorem exec_sysEngage_of_capFails {s : State} {cap : Nat} (hd : s.dev = .setup) (hc : cap < 23) (ha : s.capAbsent cap = false)
    (hf : s.capFails cap ≠ []) :
    ∃ c o, exec .sysEngage s = .next (s.refuseEngage c o) ∧ (s.refuseEngage c o).dev = .setup ∧
      (s.refuseEngage c o).flag SYS_ENGAGE_ERR_VALID = true := by
  obtain ⟨c, o, he⟩ := State.engageErr_of_capFails hc ha hf
  obtain ⟨-, -, hvalid⟩ := s.engageErr_refuseEngage c o
  exact ⟨c, o, exec_sysEngage_refused hd he, (s.dev_refuseEngage c o).trans hd, beq_iff_eq.mpr hvalid⟩

/-! ### The conditions of FLEET (R158) -/

theorem isCfl_iff (m : Nat) : isCfl m = true ↔ m = 0x40 ∨ m = 0x41 ∨ m = 0x42 := by
  simp [isCfl, or_assoc]

/-- MODE of the receive channel that a fleet channel names. -/
def State.fleetRxMode (s : State) (c : Nat) : Nat := s.get (RAD_RX_CFG_MODE (s.get (FLT_CHAN_PORT c)) (s.get (FLT_CHAN_RXCH c)))

/-- MODE of the transmit channel that a fleet channel names. -/
def State.fleetTxMode (s : State) (c : Nat) : Nat := s.get (RAD_TX_CFG_MODE (s.get (FLT_CHAN_PORT c)) (s.get (FLT_CHAN_TXCH c)))

/-- The four conditions of R158 on a fleet channel. -/
inductive State.FleetChanBad (s : State) (c : Nat) : Prop
  | rxMode (h : isCfl (s.fleetRxMode c) = false)
  | txMode (h : s.fleetTxMode c ≠ s.fleetRxMode c)
  | shared (e : Nat) (he : e < 8) (hne : e ≠ c) (hen : s.flag (FLT_CHAN_ENABLE e) = true)
      (hport : s.get (FLT_CHAN_PORT e) = s.get (FLT_CHAN_PORT c))
      (hch : s.get (FLT_CHAN_RXCH e) = s.get (FLT_CHAN_RXCH c) ∨ s.get (FLT_CHAN_TXCH e) = s.get (FLT_CHAN_TXCH c))
  | ramp (h : 4 < s.get (RAD_RAMP_CFG_RAMP_US (s.get (FLT_CHAN_PORT c))))

/-- FLEET fails at no offset exactly when no enabled channel breaks a condition. -/
theorem State.fleetFails_eq_nil (s : State) :
    s.fleetFails = [] ↔ ∀ c < 8, s.flag (FLT_CHAN_ENABLE c) = true → ¬ s.FleetChanBad c := by
  refine failing_eq_nil.trans (forall₂_congr fun c _ => ?_)
  simp only [Bool.and_eq_false_imp, Bool.or_eq_false_iff, Bool.not_eq_false', bne_eq_false_iff_eq, decide_eq_false_iff_not,
    List.any_eq_false, List.mem_range, Bool.and_eq_true, bne_iff_ne, beq_iff_eq, Bool.or_eq_true]
  refine forall_congr' fun _ => ⟨?sound, ?clear⟩
  case sound =>
    rintro ⟨⟨⟨hrx, htx⟩, hramp⟩, hshared⟩ hbad
    cases hbad with
    | rxMode h => exact Bool.false_ne_true (h.symm.trans hrx)
    | txMode h => exact h htx
    | shared e he hne hen hport hch => exact hshared e he ⟨⟨⟨hne, hen⟩, hport⟩, hch⟩
    | ramp h => exact hramp h
  case clear =>
    intro hgood
    exact ⟨⟨⟨by_contra fun h => hgood (.rxMode (Bool.eq_false_of_not_eq_true h)), by_contra fun h => hgood (.txMode h)⟩,
      fun h => hgood (.ramp h)⟩, fun e he ⟨⟨⟨hne, hen⟩, hport⟩, hch⟩ => hgood (.shared e he hne hen hport hch)⟩

/-- SYS_ENGAGE is refused while an enabled fleet channel breaks a condition. -/
theorem exec_sysEngage_of_fleetChanBad {s : State} {c : Nat} (hd : s.dev = .setup) (ha : s.capAbsent 0x0B = false) (hc : c < 8)
    (he : s.flag (FLT_CHAN_ENABLE c) = true) (hbad : s.FleetChanBad c) :
    ∃ cap ofs, exec .sysEngage s = .next (s.refuseEngage cap ofs) ∧ (s.refuseEngage cap ofs).dev = .setup ∧
      (s.refuseEngage cap ofs).flag SYS_ENGAGE_ERR_VALID = true :=
  exec_sysEngage_of_capFails hd (by decide) ha fun hnil => s.fleetFails_eq_nil.mp hnil c hc he hbad

/-- Settles O57: each clause names the condition of R158 that its channel breaks. -/
theorem engageRefusesBadFleetChannels : Obligations.EngageRefusesBadFleetChannels := by
  refine ⟨?rxMode, ?txMode, ?shared, ?ramp⟩
  case rxMode =>
    rintro c m s hd ha hc he rfl ⟨h40, h41, h42⟩
    have hmode : isCfl (s.fleetRxMode c) = false := Bool.eq_false_of_not_eq_true fun h => by
      rcases (isCfl_iff _).mp h with h | h | h
      exacts [h40 h, h41 h, h42 h]
    exact exec_sysEngage_of_fleetChanBad hd ha hc he (.rxMode hmode)
  case txMode => exact fun c s hd ha hc he h => exec_sysEngage_of_fleetChanBad hd ha hc he (.txMode h)
  case shared =>
    exact fun c e s hd ha hc he h8 hne hen hport hch =>
      exec_sysEngage_of_fleetChanBad hd ha hc he (.shared e h8 hne hen hport hch)
  case ramp => exact fun c s hd ha hc he h => exec_sysEngage_of_fleetChanBad hd ha hc he (.ramp h)

end Sys2Proof.Machine

/-! PROOFS. The stop chain family: what a stop leaves alone, the inputs, the outputs and their test. -/

namespace Sys2Proof.Machine

open Sys2Proof

/-! ### What the radio's part in a stop leaves alone (R151, R153, R242) -/

/-- The stroke, the device state, what the stop chain keeps, and its registers. -/
structure StopView where
  sn : Nat
  dev : DevState
  stp : Stop
  regs : Nat → Word

/-- That part of a state. -/
def State.stopView (s : State) : StopView := ⟨s.sn, s.dev, s.stp, fun a => if a / 0x10000 = 14 then s.rd a else 0⟩

section
variable {s t : State} (h : t.stopView = s.stopView)
include h

theorem State.sn_of_stopView : t.sn = s.sn := congrArg StopView.sn h

theorem State.dev_of_stopView : t.dev = s.dev := congrArg StopView.dev h

theorem State.stp_of_stopView : t.stp = s.stp := congrArg StopView.stp h

theorem State.rd_of_stopView {a : Nat} (ha : a / 0x10000 = 14) : t.rd a = s.rd a := by
  have hregs := congrFun (congrArg StopView.regs h) a
  unfold State.stopView at hregs
  simpa only [ha, if_true] using hregs

theorem State.get_of_stopView {f : Fld} (hf : f.addr / 0x10000 = 14) : t.get f = s.get f :=
  congrArg (bitsOf · f.lo f.width) (State.rd_of_stopView h hf)

theorem State.num_of_stopView {a : Nat} (ha : a / 0x10000 = 14) : t.num a = s.num a :=
  congrArg BitVec.toNat (State.rd_of_stopView h ha)

end

theorem State.stopView_wr (s : State) {a : Nat} (v : Word) (h : a / 0x10000 ≠ 14) : (s.wr a v).stopView = s.stopView := by
  refine congrArg (StopView.mk s.sn s.dev s.stp) (funext fun b => ?_)
  split
  · next hb => exact s.rd_wr_ne v fun e => h (e ▸ hb)
  · rfl

theorem State.stopView_count (s : State) {a : Nat} (n : Nat) (h : a / 0x10000 ≠ 14) : (s.count a n).stopView = s.stopView :=
  s.stopView_wr _ h

theorem txFree_stopView : TxFree State.stopView :=
  ⟨fun _ _ => rfl, fun s f _ h => s.stopView_wr _ (by omega), fun _ _ => rfl, fun _ _ => rfl, fun _ _ => rfl⟩

@[simp] theorem State.stopView_setRad (s : State) (r : Radio) : (s.setRad r).stopView = s.stopView := rfl

@[simp] theorem State.stopView_setFlt (s : State) (x : Fleet) : (s.setFlt x).stopView = s.stopView := rfl

@[simp] theorem State.stopView_emit (s : State) (o : Out) : (s.emit o).stopView = s.stopView := rfl

@[simp] theorem State.stopView_record (s : State) (c x p q r : Nat) : (s.record c x p q r).stopView = s.stopView := (rfl)

@[simp] theorem State.stopView_showTx (s : State) : s.showTx.stopView = s.stopView := txFree_stopView.showTx s

@[simp] theorem State.stopView_reportTx (s : State) (o : TxOwner) (r : TxResult) : (s.reportTx o r).stopView = s.stopView :=
  txFree_stopView.reportTx s o r

@[simp] theorem State.stopView_logInput (s : State) (e : LogEntry) : (s.logInput e).stopView = s.stopView := by
  unfold State.logInput
  split <;> rfl

theorem State.stopView_noteBlank (s : State) (t : Tx) : (s.noteBlank t).stopView = s.stopView := by
  unfold State.noteBlank
  split <;> rfl

@[simp] theorem State.stopView_sweepTx (s : State) (by' : Nat) : (s.sweepTx by').stopView = s.stopView := by
  unfold State.sweepTx
  dsimp only
  split
  · rfl
  · rw [foldl_keeps State.stopView, foldl_keeps State.stopView _ _ _ State.stopView_noteBlank]
    · simp
    · intro u p
      split
      · rfl
      · split
        · rfl
        · split <;> rfl

@[simp] theorem State.stopView_rampDown (s : State) (now : Nat) (l : List Tx) : (s.rampDown now l).stopView = s.stopView := by
  unfold State.rampDown
  dsimp only
  rw [State.stopView_count _ _ (by decide), foldl_keeps State.stopView _ _ _ fun _ _ => by simp]
  simp

@[simp] theorem State.stopView_preemptPort (s : State) (now p : Nat) : (s.preemptPort now p).stopView = s.stopView := by
  unfold State.preemptPort
  dsimp only
  split <;> simp

@[simp] theorem State.stopView_preemptFleet (s : State) (now : Nat) : (s.preemptFleet now).stopView = s.stopView :=
  foldl_keeps _ _ _ _ fun u p => u.stopView_preemptPort now p

@[simp] theorem State.stopView_discardBuilt (s : State) (r : Option Nat) : (s.discardBuilt r).stopView = s.stopView := rfl

@[simp] theorem State.stopView_refuseTx (s : State) (o : TxOwner) (p c n : Nat) : (s.refuseTx o p c n).stopView = s.stopView := by
  unfold State.refuseTx
  rw [State.stopView_record, State.stopView_count _ _ (by decide), State.stopView_reportTx]

@[simp] theorem State.stopView_displace (s : State) (t : Tx) (now : Nat) : (s.displace t now).stopView = s.stopView := by
  unfold State.displace
  dsimp only
  rw [foldl_keeps State.stopView _ _ _ fun _ _ => by simp, State.stopView_setRad,
    foldl_keeps State.stopView _ _ _ fun _ _ => State.stopView_refuseTx _ _ _ _ _]

theorem State.stopView_dropRx (s : State) (p : Nat) : (s.dropRx p).1.stopView = s.stopView := by
  unfold State.dropRx State.showLanes
  rw [txFree_stopView.put _ _ _ (by decide), txFree_stopView.put _ _ _ (by decide), State.stopView_setRad]

@[simp] theorem State.stopView_airs (s : State) (t : Tx) : (s.airs t).stopView = s.stopView := by
  unfold State.airs
  dsimp only
  rw [State.stopView_emit]
  split
  · rw [State.stopView_count _ _ (by decide), State.stopView_dropRx, State.stopView_showTx]
  · exact s.stopView_showTx

@[simp] theorem State.stopView_raiseLines (s : State) (t : Tx) : (s.raiseLines t).stopView = s.stopView := by
  unfold State.raiseLines
  split <;> rfl

/-- Once the outputs are driven, what raising a stop does is the radio's, the fleet's, the log's and the recorder's. -/
theorem State.stopView_stopTold (u : State) (now : Nat) (r : Option Nat) (e : LogEntry) (p0 p1 p2 : Nat) :
    ((((u.preemptFleet now).discardBuilt r).logInput e).record EV_STOP_RAISED 0 p0 p1 p2).stopView = u.stopView := by
  rw [State.stopView_record, State.stopView_logInput, State.stopView_discardBuilt, State.stopView_preemptFleet]

/-! ### The stop outputs (R240, R241) -/

theorem State.get_setStp (s : State) (x : Stop) (f : Fld) : (s.setStp x).get f = s.get f := rfl

@[simp] theorem State.sn_applyOut (s : State) : s.applyOut.sn = s.sn := by
  unfold State.applyOut
  rw [State.setStp_sn, State.put_sn, State.put_sn]

@[simp] theorem State.dev_applyOut (s : State) : s.applyOut.dev = s.dev := by
  unfold State.applyOut
  rw [State.setStp_dev, State.put_dev, State.put_dev]

@[simp] theorem State.stp_applyOut (s : State) : s.applyOut.stp = { s.stp with act := s.stopAct } := (rfl)

theorem State.get_applyOut (s : State) {f : Fld} (h : f.addr = STP_STATUS) (hf : f.lo + f.width ≤ 5 ∨ 7 ≤ f.lo) :
    s.applyOut.get f = s.get f := by
  unfold State.applyOut
  dsimp only
  rw [State.get_setStp, State.get_put_apart _ _ _ _ h.symm (by decide) (by dsimp only; omega),
    State.get_put_apart _ _ _ _ h.symm (by decide) (by dsimp only; omega)]

theorem State.outA_applyOut (s : State) :
    s.applyOut.get STP_STATUS_OUT_A_RUN = b2n (s.outAllowed && s.stp.testing != some 0) := by
  unfold State.applyOut
  dsimp only
  rw [State.get_setStp, State.get_put_apart _ STP_STATUS_OUT_B_RUN STP_STATUS_OUT_A_RUN _ rfl (by decide) (by decide),
    State.get_put _ _ _ (by decide)]
  exact Nat.mod_eq_of_lt (b2n_lt_two _)

theorem State.outB_applyOut (s : State) :
    s.applyOut.get STP_STATUS_OUT_B_RUN = b2n (s.outAllowed && s.stp.testing != some 1) := by
  unfold State.applyOut
  dsimp only
  rw [State.get_setStp, State.get_put _ _ _ (by decide)]
  exact Nat.mod_eq_of_lt (b2n_lt_two _)

/-- An output that R240 does not allow is low. -/
theorem State.outs_applyOut_low {s : State} (h : s.outAllowed = false) :
    s.applyOut.get STP_STATUS_OUT_A_RUN = 0 ∧ s.applyOut.get STP_STATUS_OUT_B_RUN = 0 := by
  rw [State.outA_applyOut, State.outB_applyOut, h]
  exact ⟨rfl, rfl⟩

/-! ### An ALL stop is raised (R237, R242, R257) -/

theorem bit_eq_testBit (n i : Nat) : bit n i = n.testBit i := by
  rw [bit, Nat.testBit_eq_decide_div_mod_eq]
  rfl

theorem bit_setBit (n i : Nat) : bit (setBit n i) i = true := by
  unfold setBit
  split
  · assumption
  · next h =>
    unfold bit at h ⊢
    rw [Nat.add_div_right _ (Nat.two_pow_pos i)]
    simp only [beq_iff_eq] at h ⊢
    omega

theorem bit_mod_two_pow {n i w : Nat} (h : i < w) : bit (n % 2 ^ w) i = bit n i := by
  rw [bit_eq_testBit, bit_eq_testBit, Nat.testBit_mod_two_pow, decide_eq_true h, Bool.true_and]

theorem causeBit_lt (c : Nat) : causeBit c < 4 := by
  unfold causeBit
  split <;> decide

@[simp] theorem State.dev_showQual (s : State) (sn ns : Nat) : (s.showQual sn ns).dev = s.dev := (rfl)

@[simp] theorem State.stp_showQual (s : State) (sn ns : Nat) : (s.showQual sn ns).stp = s.stp := (rfl)

theorem State.get_showQual (s : State) (sn ns : Nat) {f : Fld} (h : f.addr = STP_STATUS) : (s.showQual sn ns).get f = s.get f := by
  unfold State.showQual State.setNum64
  rw [State.get_put_other _ _ _ _ (h ▸ by decide), State.get_setNum_ne _ _ _ (h ▸ by decide),
    State.get_setNum_ne _ _ _ (h ▸ by decide)]

/-- A wave that was not in force is counted. -/
def State.countWave (s : State) : State := if s.get STP_STATUS_WAVE = 0 then s.count STP_WAVES 1 else s

theorem State.countWave_kept (s : State) :
    s.countWave.dev = s.dev ∧ s.countWave.stp = s.stp ∧ ∀ f : Fld, f.addr = STP_STATUS → s.countWave.get f = s.get f := by
  unfold State.countWave
  split
  · exact ⟨rfl, rfl, fun f h => State.get_setNum_ne _ _ _ (h ▸ by decide)⟩
  · exact ⟨rfl, rfl, fun _ _ => rfl⟩

/-- The wave is shown in force, with its cause. -/
def State.showWave (s : State) (c : Nat) : State :=
  (s.put STP_STATUS_WAVE 1).put STP_STATUS_CAUSES (setBit (s.get STP_STATUS_CAUSES) (causeBit c))

theorem State.wave_showWave (s : State) (c : Nat) : (s.showWave c).get STP_STATUS_WAVE = 1 :=
  (State.get_put_apart _ STP_STATUS_CAUSES STP_STATUS_WAVE _ rfl (by decide) (by decide)).trans (State.get_put _ _ _ (by decide))

theorem State.causes_showWave (s : State) (c : Nat) : bit ((s.showWave c).get STP_STATUS_CAUSES) (causeBit c) = true := by
  unfold State.showWave
  rw [State.get_put _ _ _ (by decide)]
  exact (bit_mod_two_pow (causeBit_lt c)).trans (bit_setBit _ _)

theorem State.get_showWave (s : State) (c : Nat) {f : Fld} (h : f.addr = STP_STATUS) (hlo : 1 ≤ f.lo) (hhi : f.lo + f.width ≤ 8) :
    (s.showWave c).get f = s.get f :=
  (State.get_put_apart _ STP_STATUS_CAUSES f _ h.symm (by decide) (.inl hhi)).trans
    (State.get_put_apart _ STP_STATUS_WAVE f _ h.symm (by decide) (.inr hlo))

/-- What stands once a wave is raised: its cause is shown and both outputs are low, and of the stop chain's status the inputs' levels,
DISCREP and OUT_FAULT are as they were. -/
structure WaveRaised (s t : State) (c : Nat) : Prop where
  wave : t.get STP_STATUS_WAVE = 1
  cause : bit (t.get STP_STATUS_CAUSES) (causeBit c) = true
  outA : t.get STP_STATUS_OUT_A_RUN = 0
  outB : t.get STP_STATUS_OUT_B_RUN = 0
  kept : ∀ f : Fld, f.addr = STP_STATUS → 1 ≤ f.lo → f.lo + f.width ≤ 5 → t.get f = s.get f
  runA : t.stp.runA = s.stp.runA
  runB : t.stp.runB = s.stp.runB
  dev : t.dev = s.dev

theorem State.raiseAll_raised (s : State) (c ns : Nat) : WaveRaised s (s.raiseAll c ns) c := by
  obtain ⟨hdev, hstp, hget⟩ := s.countWave_kept
  unfold State.raiseAll
  extract_lets counted shown stop begun driven sent
  have hview : ((sent.logInput (.stop none c)).record EV_STOP_RAISED 0 c 0xFF sent.sn).stopView = driven.stopView :=
    driven.stopView_stopTold _ _ _ _ _ _
  have hbegun (f : Fld) (h : f.addr = STP_STATUS) : (begun.showQual begun.sn ns).get f = (s.countWave.showWave c).get f :=
    (State.get_showQual _ _ _ h).trans (shown.get_setStp _ f)
  have hdriven (f : Fld) (h : f.addr = STP_STATUS) (hf : f.lo + f.width ≤ 5 ∨ 7 ≤ f.lo) :
      driven.get f = (s.countWave.showWave c).get f := (State.get_applyOut _ h hf).trans (hbegun f h)
  have hlow : (begun.showQual begun.sn ns).outAllowed = false := by
    unfold State.outAllowed
    rw [hbegun _ rfl, State.wave_showWave]
    simp
  obtain ⟨hA, hB⟩ := State.outs_applyOut_low hlow
  have hkept : driven.dev = s.dev ∧ driven.stp.runA = s.stp.runA ∧ driven.stp.runB = s.stp.runB := by
    rw [← hdev, ← hstp]
    simp [driven, begun, stop, shown, counted, State.countWave]
  obtain ⟨hdrivenDev, hrunA, hrunB⟩ := hkept
  constructor
  case wave => rw [State.get_of_stopView hview (by decide), hdriven _ rfl (by decide), State.wave_showWave]
  case cause => rw [State.get_of_stopView hview (by decide), hdriven _ rfl (by decide), State.causes_showWave]
  case outA => exact (State.get_of_stopView hview (by decide)).trans hA
  case outB => exact (State.get_of_stopView hview (by decide)).trans hB
  case kept =>
    intro f h hlo hhi
    rw [State.get_of_stopView hview (h ▸ by decide), hdriven f h (.inl hhi), State.get_showWave _ _ h hlo (by omega), hget f h]
  case runA => exact (congrArg Stop.runA (State.stp_of_stopView hview)).trans hrunA
  case runB => exact (congrArg Stop.runB (State.stp_of_stopView hview)).trans hrunB
  case dev => exact (State.dev_of_stopView hview).trans hdrivenDev

/-! ### The inputs (R238, R239) -/

/-- Since when a channel has stood at run level. -/
def State.runSince (s : State) (b : Bool) : Option Nat := if b then s.stp.runB else s.stp.runA

/-- A channel takes a level. -/
def State.takeLevel (s : State) (b run : Bool) : State :=
  let since := if run then some s.now else none
  if b then (s.setStp { s.stp with runB := since }).put STP_STATUS_IN_B_STOP (b2n !run)
  else (s.setStp { s.stp with runA := since }).put STP_STATUS_IN_A_STOP (b2n !run)

theorem State.runSince_takeLevel (s : State) (b run : Bool) :
    (s.takeLevel b run).runSince b = if run then some s.now else none := by
  cases b <;> rfl

theorem State.dev_takeLevel (s : State) (b run : Bool) : (s.takeLevel b run).dev = s.dev := by
  cases b <;> rfl

theorem State.get_takeLevel (s : State) (b run : Bool) {f : Fld} (h : f.addr = STP_STATUS) (hf : f.lo + f.width ≤ 1 ∨ 3 ≤ f.lo) :
    (s.takeLevel b run).get f = s.get f := by
  cases b with
  | false => exact State.get_put_apart _ _ _ _ h.symm (by decide) (hf.imp id fun h3 => by dsimp only; omega)
  | true => exact State.get_put_apart _ _ _ _ h.symm (by decide) (hf.imp (fun h1 => by dsimp only; omega) id)

/-- At stop level the channel stands there. -/
theorem State.standsAt_takeLevel (s : State) (b : Bool) : (s.takeLevel b false).standsAt b false = true := by
  have hput (u : State) (f : Fld) (hf : f.lo + f.width ≤ 32) (hw : f.width = 1) : (u.put f 1).flag f = true := by
    unfold State.flag
    rw [State.get_put _ _ _ hf, hw]
    rfl
  cases b with
  | false => exact hput _ STP_STATUS_IN_A_STOP (by decide) rfl
  | true => exact hput _ STP_STATUS_IN_B_STOP (by decide) rfl

/-- A change of the discrepancy leaves the qualified levels alone, and of the status all but DISCREP. -/
structure LevelsKept (s t : State) : Prop where
  runA : t.stp.runA = s.stp.runA
  runB : t.stp.runB = s.stp.runB
  dev : t.dev = s.dev
  status : ∀ f : Fld, f.addr = STP_STATUS → f.lo + f.width ≤ 3 ∨ 4 ≤ f.lo → t.get f = s.get f

theorem State.noteLevels_kept (s : State) : LevelsKept s s.noteLevels := by
  unfold State.noteLevels
  extract_lets noted bothStop bothRun
  split
  · exact ⟨rfl, rfl, rfl, fun _ _ _ => rfl⟩
  · split
    · exact ⟨rfl, rfl, rfl, fun f h hf => State.get_put_apart _ STP_STATUS_DISCREP f _ h.symm (by decide) hf⟩
    · exact ⟨rfl, rfl, rfl, fun _ _ _ => rfl⟩

section
variable {s : State} {b run : Bool} {h : Nat} (ns : Nat) (hs : s.serving = true)
include hs

/-- Held for FILTER, a level at which the channel does not stand is qualified; stop level raises an ALL stop. -/
theorem exec_stopInputQualify_taken (hf : s.get STP_CFG_FILTER ≤ h) (hl : s.standsAt b run = false) :
    exec (.stopInputQualify b run h ns) s = .next (if run then (s.takeLevel b run).noteLevels
      else (s.takeLevel b run).noteLevels.raiseAll (if b then 2 else 1) ns) := by
  change execStopInputQualify b run h ns s = _
  simp only [execStopInputQualify, State.stopLive, hs, hl, decide_eq_false (Nat.not_lt.mpr hf), Bool.not_true, Bool.or_self,
    Bool.false_eq_true, if_false]
  rfl

/-- A shorter pulse passes unseen, and a level at which the channel stands is not qualified again. -/
theorem exec_stopInputQualify_unseen (hl : h < s.get STP_CFG_FILTER ∨ s.standsAt b run = true) :
    exec (.stopInputQualify b run h ns) s = .next s := by
  have hskip : (decide (h < s.get STP_CFG_FILTER) || s.standsAt b run) = true := by
    rcases hl with hl | hl <;> simp [hl]
  change execStopInputQualify b run h ns s = _
  simp only [execStopInputQualify, State.stopLive, hs, Bool.not_true, Bool.false_or, hskip, Bool.false_eq_true, if_false, if_true]

/-- Inputs that have differed for longer than STP_DISCREP set DISCREP, and it is recorded. -/
theorem exec_inputDiscrepancy_latched {k : Nat} (hk : s.stp.diffSn = some k) (hl : s.num STP_DISCREP < s.now - k)
    (hd : s.get STP_STATUS_DISCREP = 0) :
    exec .inputDiscrepancy s = .next (((s.put STP_STATUS_DISCREP 1).setStp { s.stp with bothStop := false }).record
      EV_INPUT_DISCREPANCY 0 (b2n s.stp.runA.isSome) (b2n s.stp.runB.isSome) (s.now - k)) := by
  change execInputDiscrepancy s = _
  simp only [execInputDiscrepancy, hs, hk, hd, decide_eq_true hl, Bool.not_true, Bool.false_eq_true, if_false, beq_self_eq_true,
    Bool.and_self, if_true]

end

theorem State.runSince_of_kept {s t : State} (hA : t.stp.runA = s.stp.runA) (hB : t.stp.runB = s.stp.runB) (b : Bool) :
    t.runSince b = s.runSince b := by
  cases b
  · exact hA
  · exact hB

theorem State.standsAt_stop_congr {s t : State} (h : ∀ f : Fld, f.addr = STP_STATUS → 1 ≤ f.lo → f.lo + f.width ≤ 3 → t.get f = s.get f)
    (b : Bool) : t.standsAt b false = s.standsAt b false := by
  cases b
  · exact congrArg (· == 1) (h STP_STATUS_IN_A_STOP rfl (by decide) (by decide))
  · exact congrArg (· == 1) (h STP_STATUS_IN_B_STOP rfl (by decide) (by decide))

/-! ### Output faults and output tests (R240, R241) -/

theorem exec_outFault_latched {s : State} {n h : Nat} {c r : Bool} (ns : Nat) (hm : s.mainLive = true) (hs : s.serving = true)
    (hh : 10 < h) (hd : n = 2 ∨ c ≠ r) :
    exec (.outFault n c r h ns) s =
      .next (((s.put STP_STATUS_OUT_FAULT 1).record EV_OUT_FAULT 0 n (b2n c) (b2n r)).raiseAll 5 ns) := by
  have hagree : (n != 2 && c == r) = false := by
    rcases hd with rfl | hd
    · rfl
    · rw [beq_eq_false_iff_ne.mpr hd, Bool.and_false]
  change execOutFault n c r h ns s = _
  simp only [execOutFault, State.stopLive, hm, hs, decide_eq_false (Nat.not_le.mpr hh), hagree, Bool.not_true, Bool.or_self,
    Bool.false_eq_true, if_false]

theorem exec_outFault_short {s : State} {n h : Nat} (c r : Bool) (ns : Nat) (hh : h ≤ 10) :
    exec (.outFault n c r h ns) s = .next s := by
  change execOutFault n c r h ns s = _
  simp only [execOutFault, decide_eq_true hh, Bool.or_true, Bool.true_or, if_true, ite_self]

/-- The state with an output under test, or none. -/
def State.setTesting (s : State) (o : Option Nat) : State := s.setStp { s.stp with testing := o }

theorem exec_outputTest_due {s : State} (ht : s.stroked = true) (he : s.get STP_CFG_OUT_TEST_EN = 1) (hn : s.sn % 40000 = 0)
    (hA : s.flag STP_STATUS_OUT_A_RUN = true) (hB : s.flag STP_STATUS_OUT_B_RUN = true) :
    exec .outputTest s = .next (s.setTesting (some (s.sn / 40000 % 2))).applyOut := by
  change execOutputTest s = _
  simp only [execOutputTest, ht, he, hn, hA, hB, beq_self_eq_true, Bool.and_self, if_true]
  rfl

theorem exec_outputTestEnd_serving {s : State} (hs : s.serving = true) :
    exec .outputTestEnd s = .next (s.setTesting none).applyOut := by
  change execOutputTestEnd s = _
  rw [execOutputTestEnd, hs]
  rfl

/-- Where R240 allows the outputs, each is high but the one under test. -/
theorem State.outs_applyOut_testing {s : State} (h : s.outAllowed = true) (o : Option Nat) :
    (s.setTesting o).applyOut.stp.testing = o ∧
    (s.setTesting o).applyOut.get STP_STATUS_OUT_A_RUN = (if o = some 0 then 0 else 1) ∧
    (s.setTesting o).applyOut.get STP_STATUS_OUT_B_RUN = (if o = some 1 then 0 else 1) := by
  have hlevel (k : Nat) : b2n (true && o != some k) = if o = some k then 0 else 1 := by
    by_cases ho : o = some k <;> simp [ho, b2n]
  have hallowed : (s.setTesting o).outAllowed = true := h
  rw [State.outA_applyOut, State.outB_applyOut, hallowed]
  exact ⟨rfl, hlevel 0, hlevel 1⟩

/-- Settles O33: each clause by the lemma about its row, and what a raised wave shows. -/
theorem stopInputsAndOutputs : Obligations.StopInputsAndOutputs := by
  refine ⟨?stop, ?run, fun b r h ns s hs hl => exec_stopInputQualify_unseen ns hs hl, ?fault,
    fun n c r h ns s hh => exec_outFault_short c r ns hh, fun k s hs hk hl hd => exec_inputDiscrepancy_latched hs hk hl hd, ?test, ?ended⟩
  case stop =>
    intro b h ns s hs hf hl
    have hk := (s.takeLevel b false).noteLevels_kept
    have hr := (s.takeLevel b false).noteLevels.raiseAll_raised (if b then 2 else 1) ns
    have hbit : causeBit (if b then 2 else 1) = 0 := by cases b <;> rfl
    refine ⟨_, exec_stopInputQualify_taken ns hs hf hl, hr.wave, hbit ▸ hr.cause, hr.outA, hr.outB, ?since, ?stands,
      hr.dev.trans (hk.dev.trans (s.dev_takeLevel b false))⟩
    case since =>
      exact (State.runSince_of_kept hr.runA hr.runB b).trans
        ((State.runSince_of_kept hk.runA hk.runB b).trans (s.runSince_takeLevel b false))
    case stands =>
      exact (State.standsAt_stop_congr (fun f hf hlo hhi => hr.kept f hf hlo (by omega)) b).trans
        ((State.standsAt_stop_congr (fun f hf _ hhi => hk.status f hf (.inl hhi)) b).trans (s.standsAt_takeLevel b))
  case run =>
    intro b h ns s hs hf hl
    have hk := (s.takeLevel b true).noteLevels_kept
    exact ⟨_, exec_stopInputQualify_taken ns hs hf hl, (State.runSince_of_kept hk.runA hk.runB b).trans (s.runSince_takeLevel b true),
      (hk.status _ rfl (by decide)).trans (s.get_takeLevel b true rfl (by decide)),
      (hk.status _ rfl (by decide)).trans (s.get_takeLevel b true rfl (by decide))⟩
  case fault =>
    intro n c r h ns s hm hs hh hd
    have hr := ((s.put STP_STATUS_OUT_FAULT 1).record EV_OUT_FAULT 0 n (b2n c) (b2n r)).raiseAll_raised 5 ns
    have hlatched : ((s.put STP_STATUS_OUT_FAULT 1).record EV_OUT_FAULT 0 n (b2n c) (b2n r)).get STP_STATUS_OUT_FAULT = 1 := by
      rw [State.record_get, State.get_put _ _ _ (by decide)]
      rfl
    exact ⟨_, exec_outFault_latched ns hm hs hh hd, (hr.kept _ rfl (by decide) (by decide)).trans hlatched, hr.wave, hr.cause,
      hr.outA, hr.outB⟩
  case test =>
    intro s ht he hn hA hB ho
    obtain ⟨htest, houtA, houtB⟩ := State.outs_applyOut_testing ho (some (s.sn / 40000 % 2))
    refine ⟨_, exec_outputTest_due ht he hn hA hB, htest, houtA.trans ?_, houtB.trans ?_⟩
    · simp only [Option.some.injEq]
    · rcases Nat.mod_two_eq_zero_or_one (s.sn / 40000) with h2 | h2 <;> simp [h2]
  case ended =>
    intro s hs ho
    obtain ⟨htest, houtA, houtB⟩ := State.outs_applyOut_testing ho none
    exact ⟨_, exec_outputTestEnd_serving hs, htest, houtA, houtB⟩

end Sys2Proof.Machine

/-! PROOFS. The stop chain family: the stop cut, the stop frames, and the commands of the stop chain. -/

namespace Sys2Proof.Machine

open Sys2Proof

/-! ### The stop frames (R243, R244, R245, R247) -/

theorem exec_stopCut_serving {s : State} (hs : s.serving = true) :
    exec .stopCut s = .next (s.setStp { s.stp with cut := s.fleetChans.filterMap s.cutOf }) := by
  change execStopCut s = _
  rw [execStopCut, hs]
  rfl

theorem exec_framePhaseEnd_over {s : State} {k : Nat} (hs : s.serving = true) (hk : s.stp.phaseSn = some k) (hn : k + 400 ≤ s.sn) :
    exec .framePhaseEnd s = .next (s.put STP_STATUS_FRAME_PHASE 0) := by
  change execFramePhaseEnd s = _
  simp only [execFramePhaseEnd, hs, hk, hn, Bool.not_true, Bool.false_eq_true, if_false, if_true]

/-- The transmission that carries a frame of the cut, its first STF sample at 4 µs. -/
def State.stopTx (s : State) (n : Nat) (c : CutFrame) : Tx :=
  { id := s.rad.nextTx, owner := .stop n, port := s.get (FLT_CHAN_PORT n), ch := s.get (FLT_CHAN_TXCH n), sn := s.sn, ns := 4000
    len := 67200, mcs := stopMcs (s.get (RAD_TX_CFG_MODE (s.get (FLT_CHAN_PORT n)) (s.get (FLT_CHAN_TXCH n))))
    bytes := c.frame.psdu (s.stopKey c.frame.kgen ((s.key.stop.slotOf c.frame.kgen).getD s.key.stop.slot)), onAir := true }

/-- A stop frame's transmission displaces what it overlaps, goes on air and raises its port's lines. -/
def State.airStop (u : State) (t : Tx) : State :=
  (((u.setRad { u.rad with nextTx := u.rad.nextTx + 1 }).displace t (u.txStart t)).airs t).raiseLines t

/-- The state with a stop frame's transmission on air. -/
def State.stopAired (s : State) (t : Tx) : State := (s.sweepTx (s.txStart t)).airStop t

/-- The frame on air is taken from the cut, and counted. -/
def State.cutSent (u : State) (n : Nat) (c : CutFrame) : State :=
  let v := u.setStp { u.stp with cut := u.stp.cut.filter fun x => !(x.chan == n && x.sn == u.sn) }
  (v.emit (.fleet n v.sn c.frame)).count STP_FRAMES 1

/-- The frame phase with an ALL frame sent in it. -/
def State.inPhase (u : State) : State :=
  (u.setStp { u.stp with phaseSn := some (u.stp.phaseSn.getD u.sn) }).put STP_STATUS_FRAME_PHASE 1

/-- A channel is one of those served since the last ALL cause. -/
def State.serve (u : State) (n : Nat) : State := u.setStp { u.stp with firstSent := u.stp.firstSent ++ [n] }

/-- An ALL frame begins or keeps the frame phase, and serves its channel. -/
def State.noteAll (u : State) (n : Nat) : State :=
  if u.inPhase.stp.firstSent.contains n then u.inPhase
  else (u.inPhase.serve n).noteFirst n (absNs u.inPhase.stp.waveSn u.inPhase.stp.waveNs) (u.inPhase.firstBound none)

/-- The stops with one more frame of a robot's sent. -/
def State.robotSent (u : State) (r : Nat) : State :=
  u.setStp { u.stp with robots := u.stp.robots.map fun x => if x.robot = r then { x with sent := x.sent + 1 } else x }

/-- A ROBOT frame counts for its stop. -/
def State.noteRobot (u : State) (n r : Nat) : State :=
  match u.stp.robots.find? fun x => x.robot == r with
  | some x => if x.sent = 0 then (u.robotSent r).noteFirst n (absNs x.sn x.ns) (u.firstBound (some r)) else u.robotSent r
  | none => u.robotSent r

/-- A frame sent, by what it stops. -/
def State.noteSent (u : State) (n : Nat) : Option Nat → State
  | none => u.noteAll n
  | some r => u.noteRobot n r

theorem exec_stopFrameTx_sent {s : State} {n : Nat} {c : CutFrame} (hs : s.serving = true)
    (hc : (s.stp.cut.find? fun c => c.chan == n && c.sn == s.sn) = some c)
    (hk : s.get (RAD_PORT_STAT_CLK_OK (s.get (FLT_CHAN_PORT n))) ≠ 0)
    (he : s.get (RAD_PORT_CFG_ENABLE (s.get (FLT_CHAN_PORT n))) ≠ 0) (ha : s.stopFramesAllowed c.robot.isNone = true) :
    exec (.stopFrameTx n) s = .next (((s.stopAired (s.stopTx n c)).cutSent n c).noteSent n c.robot) := by
  have hserved : ¬ (!s.serving) = true := by simp [hs]
  have hmay : (decide (s.get (RAD_PORT_STAT_CLK_OK (s.get (FLT_CHAN_PORT n))) = 0) ||
      decide (s.get (RAD_PORT_CFG_ENABLE (s.get (FLT_CHAN_PORT n))) = 0) || !s.stopFramesAllowed c.robot.isNone) = false := by
    simp [hk, he, ha]
  change execStopFrameTx n s = _
  rw [execStopFrameTx, if_neg hserved, hc]
  refine congrArg Host.Outcome.next ((if_neg (ne_true_of_eq_false hmay)).trans ?_)
  cases c.robot <;> rfl

theorem State.stopView_airStop (u : State) (t : Tx) : (u.airStop t).stopView = u.stopView := by
  unfold State.airStop
  rw [State.stopView_raiseLines, State.stopView_airs, State.stopView_displace, State.stopView_setRad]

theorem State.stopView_stopAired (s : State) (t : Tx) : (s.stopAired t).stopView = s.stopView :=
  (State.stopView_airStop _ t).trans (s.stopView_sweepTx _)

theorem State.stp_cutSent (u : State) (n : Nat) (c : CutFrame) : (u.cutSent n c).stp =
    { u.stp with cut := u.stp.cut.filter fun x => !(x.chan == n && x.sn == u.sn) } := (rfl)

theorem State.sn_cutSent (u : State) (n : Nat) (c : CutFrame) : (u.cutSent n c).sn = u.sn := (rfl)

theorem State.out_cutSent (u : State) (n : Nat) (c : CutFrame) : (u.cutSent n c).out = .fleet n u.sn c.frame :: u.out := (rfl)

theorem State.frames_cutSent (u : State) (n : Nat) (c : CutFrame) :
    (u.cutSent n c).num STP_FRAMES = (u.num STP_FRAMES + 1) % 2 ^ 32 := State.num_setNum _ _ _

/-- The frame leaves with its bytes, from its first sample on. -/
theorem State.air_mem_out_stopAired (s : State) (n : Nat) (c : CutFrame) :
    ∃ h b f, Out.air (s.get (FLT_CHAN_PORT n)) (s.get (FLT_CHAN_TXCH n)) s.sn 4000 (.stop n) h b f ∈ (s.stopAired (s.stopTx n c)).out := by
  obtain ⟨h, f, hair⟩ := State.air_mem_out_airs _ (s.stopTx n c)
  exact ⟨h, _, f, State.mem_out_raiseLines (s.stopTx n c) hair⟩

/-- A first frame's time is kept in STP_WORST_NS where it is the greatest. -/
def State.noteWorst (u : State) (t : Nat) : State :=
  if u.get STP_WORST_NS_NS < t then u.put STP_WORST_NS_NS (clampN 0 0xFFFFF t) else u

/-- A first frame past its bound is recorded. -/
def State.noteLate (u : State) (n t b : Nat) : State := if b < t then u.record EV_STOP_LATE 0 n t 0 else u

theorem State.noteFirst_eq (u : State) (n q b : Nat) :
    u.noteFirst n q b = (u.noteWorst (absNs u.sn 71200 - q)).noteLate n (absNs u.sn 71200 - q) b := rfl

/-- What a record and a new STP_WORST_NS leave: the stops, the outputs, and every other register. -/
def SameButWorst (u t : State) : Prop := t.stp = u.stp ∧ t.out = u.out ∧ ∀ a, a ≠ STP_WORST_NS → t.rd a = u.rd a

theorem State.noteWorst_kept (u : State) (t : Nat) : SameButWorst u (u.noteWorst t) := by
  unfold State.noteWorst
  split
  · exact ⟨u.put_stp _ _, u.put_out _ _, fun a ha => u.rd_put_ne STP_WORST_NS_NS _ ha.symm⟩
  · exact ⟨rfl, rfl, fun _ _ => rfl⟩

theorem State.noteLate_kept (u : State) (n t b : Nat) : SameButWorst u (u.noteLate n t b) := by
  unfold State.noteLate
  split
  · exact ⟨u.record_stp _ _ _ _ _, u.record_out _ _ _ _ _, fun a _ => u.record_rd _ _ _ _ _ a⟩
  · exact ⟨rfl, rfl, fun _ _ => rfl⟩

theorem State.noteFirst_kept (u : State) (n q b : Nat) : SameButWorst u (u.noteFirst n q b) := by
  obtain ⟨hstp, hout, hrd⟩ := u.noteWorst_kept (absNs u.sn 71200 - q)
  obtain ⟨hstp', hout', hrd'⟩ := (u.noteWorst (absNs u.sn 71200 - q)).noteLate_kept n (absNs u.sn 71200 - q) b
  rw [State.noteFirst_eq]
  exact ⟨hstp'.trans hstp, hout'.trans hout, fun a ha => (hrd' a ha).trans (hrd a ha)⟩

/-- What a frame sent leaves in the stop chain, by what it stops. -/
structure FrameNoted (u t : State) (n : Nat) (r : Option Nat) : Prop where
  cut : t.stp.cut = u.stp.cut
  frames : t.num STP_FRAMES = u.num STP_FRAMES
  out : t.out = u.out
  all : r = none → t.get STP_STATUS_FRAME_PHASE = 1 ∧ t.stp.phaseSn = some (u.stp.phaseSn.getD u.sn) ∧ n ∈ t.stp.firstSent
  robot : ∀ q, r = some q → t.stp.robots = u.stp.robots.map fun x => if x.robot = q then { x with sent := x.sent + 1 } else x

theorem State.inPhase_shown (u : State) : u.inPhase.get STP_STATUS_FRAME_PHASE = 1 := State.get_put _ _ _ (by decide)

theorem State.inPhase_frames (u : State) : u.inPhase.num STP_FRAMES = u.num STP_FRAMES := State.num_put_ne _ _ _ (by decide)

theorem State.inPhase_out (u : State) : u.inPhase.out = u.out := State.put_out _ _ _

theorem State.inPhase_stp (u : State) : u.inPhase.stp = { u.stp with phaseSn := some (u.stp.phaseSn.getD u.sn) } :=
  State.put_stp _ _ _

theorem State.noteAll_noted (u : State) (n : Nat) : FrameNoted u (u.noteAll n) n none := by
  have hphase : u.inPhase.stp.cut = u.stp.cut ∧ u.inPhase.stp.phaseSn = some (u.stp.phaseSn.getD u.sn) := by
    rw [State.inPhase_stp]
    exact ⟨rfl, rfl⟩
  obtain ⟨hcut, hsn⟩ := hphase
  unfold State.noteAll
  split
  · next h =>
    exact ⟨hcut, u.inPhase_frames, u.inPhase_out, fun _ => ⟨u.inPhase_shown, hsn, List.contains_iff_mem.mp h⟩, nofun⟩
  · obtain ⟨hstp, hout, hrd⟩ := (u.inPhase.serve n).noteFirst_kept n (absNs u.inPhase.stp.waveSn u.inPhase.stp.waveNs)
      (u.inPhase.firstBound none)
    constructor
    case cut => rwa [hstp]
    case frames => exact (congrArg BitVec.toNat (hrd STP_FRAMES (by decide))).trans u.inPhase_frames
    case out => exact hout.trans u.inPhase_out
    case all =>
      refine fun _ => ⟨(congrArg (bitsOf · 7 1) (hrd STP_STATUS (by decide))).trans u.inPhase_shown, ?_, ?_⟩
      · rwa [hstp]
      · rw [hstp]
        exact List.mem_append_right _ List.mem_cons_self
    case robot => exact nofun

theorem State.noteRobot_noted (u : State) (n r : Nat) : FrameNoted u (u.noteRobot n r) n (some r) := by
  have hsent : FrameNoted u (u.robotSent r) n (some r) :=
    ⟨rfl, rfl, rfl, nofun, fun q hq => by cases hq; rfl⟩
  have hfirst (q b : Nat) : FrameNoted u ((u.robotSent r).noteFirst n q b) n (some r) := by
    obtain ⟨hstp, hout, hrd⟩ := (u.robotSent r).noteFirst_kept n q b
    exact ⟨hstp ▸ rfl, congrArg BitVec.toNat (hrd STP_FRAMES (by decide)), hout, nofun, fun q hq => hstp ▸ hsent.robot q hq⟩
  unfold State.noteRobot
  split
  · split
    · exact hfirst _ _
    · exact hsent
  · exact hsent

theorem State.noteSent_noted (u : State) (n : Nat) (r : Option Nat) : FrameNoted u (u.noteSent n r) n r := by
  cases r with
  | none => exact u.noteAll_noted n
  | some r => exact u.noteRobot_noted n r

/-! ### STP_STOP (R252, R255) -/

theorem State.rd_applyOut (s : State) {a : Nat} (h : a ≠ STP_STATUS) : s.applyOut.rd a = s.rd a := by
  unfold State.applyOut
  rw [State.rd_congr (State.setStp_regs _ _), State.rd_put_ne _ STP_STATUS_OUT_B_RUN _ h.symm,
    State.rd_put_ne _ STP_STATUS_OUT_A_RUN _ h.symm]

theorem State.rd_showQual (s : State) (sn ns : Nat) {a : Nat} (h : 0x0E0030 ≤ a) : (s.showQual sn ns).rd a = s.rd a := by
  unfold State.showQual State.setNum64
  rw [State.rd_put_ne _ _ _ (by simp only [STP_LAST_NS]; omega), State.rd_setNum_ne _ _ (by simp only [STP_LAST_SN_HI]; omega),
    State.rd_setNum_ne _ _ (by simp only [STP_LAST_SN_LO]; omega)]

@[simp] theorem State.stp_showRobotStops (s : State) : s.showRobotStops.stp = s.stp := by
  unfold State.showRobotStops
  extract_lets has t
  exact (t.put_stp _ _).trans (foldl_keeps State.stp _ _ _ fun u n => u.setNum_stp _ _)

theorem State.rd_showRobotStops (s : State) {a : Nat} (h : a < 0x0E0100) (ha : a ≠ STP_STATUS) : s.showRobotStops.rd a = s.rd a := by
  unfold State.showRobotStops
  extract_lets has t
  exact (t.rd_put_ne STP_STATUS_ROBOTS _ ha.symm).trans
    (foldl_keeps (State.rd · a) _ _ _ fun u n => u.rd_setNum_ne _ (by simp only [STP_ROBOT_MAP]; omega))

theorem State.get_showRobotStops (s : State) {f : Fld} (h : f.addr = STP_STATUS) (hf : f.lo + f.width ≤ 16) :
    s.showRobotStops.get f = s.get f := by
  unfold State.showRobotStops
  extract_lets has t
  exact (t.get_put_apart STP_STATUS_ROBOTS f _ h.symm (by decide) (.inl hf)).trans
    (foldl_keeps (State.get · f) _ _ _ fun u n => u.get_setNum_ne _ _ (h ▸ by simp only [STP_ROBOT_MAP, STP_STATUS]; omega))

/-- A ROBOT stop stands among the stops with its cause and stroke, is counted, and the wave is as it was. -/
theorem State.raiseRobot_raised (s : State) (c r ns : Nat) :
    (∃ x, x ∈ (s.raiseRobot c r ns).stp.robots ∧ x.robot = r ∧ x.cause = c ∧ x.sn = s.sn) ∧
    (s.raiseRobot c r ns).get STP_STATUS_WAVE = s.get STP_STATUS_WAVE ∧
    (s.raiseRobot c r ns).num STP_ROBOT_STOPS = (s.num STP_ROBOT_STOPS + 1) % 2 ^ 32 := by
  unfold State.raiseRobot
  extract_lets counted stop raised driven sent
  have hview : ((sent.logInput (.stop (some r) c)).record EV_STOP_RAISED 0 (256 + c) r sent.sn).stopView = driven.stopView :=
    driven.stopView_stopTold _ _ _ _ _ _
  have hrobots : driven.stp.robots = raised.stp.robots := by simp [driven]
  have hsn : counted.sn = s.sn := s.setNum_sn _ _
  have hget (f : Fld) (hf : f.addr = STP_STATUS) : raised.get f = s.get f :=
    (counted.get_setStp _ f).trans (s.get_setNum_ne _ f (hf ▸ by decide))
  have hcount : raised.rd STP_ROBOT_STOPS = BitVec.ofNat 32 (s.num STP_ROBOT_STOPS + 1) :=
    (State.rd_congr (counted.setStp_regs _) _).trans (s.rd_wr_same _ _)
  refine ⟨⟨{ robot := r, cause := c, sn := counted.sn, ns := ns }, ?_, rfl, rfl, hsn⟩, ?_, ?_⟩
  · rw [State.stp_of_stopView hview, hrobots]
    exact List.mem_append_right _ List.mem_cons_self
  · rw [State.get_of_stopView hview (by decide), State.get_applyOut _ rfl (by decide), State.get_showQual _ _ _ rfl,
      State.get_showRobotStops _ rfl (by decide), hget _ rfl]
  · rw [State.num_of_stopView hview (by decide), State.num, State.rd_applyOut _ (by decide), State.rd_showQual _ _ _ (by decide),
      State.rd_showRobotStops _ (by decide) (by decide), hcount, BitVec.toNat_ofNat]

/-- The instant within the stroke at which a fetched stop qualifies. -/
def State.fetchNs (s : State) : Nat := if s.stroked then Config.freeNat s.free % 250020 else 0

section
variable {d : Desc} {s : State} (h : Runs s d)
include h

theorem exec_stpStop_all (h0 : d.op 32 1 = 0) :
    exec (.stpStop d) s = .next (s.finish d ((s.drawn.holdHostStop d none).raiseAll 3 s.fetchNs).ok) :=
  h.next_command (if_pos h0)

theorem exec_stpStop_robot (h0 : d.op 32 1 ≠ 0) (ha : s.authority = true) :
    exec (.stpStop d) s = .next (s.finish d (s.drawn.raiseRobot 9 (d.op 33 1) s.fetchNs).ok) :=
  h.next_command ((if_neg h0).trans (if_pos ha))

theorem exec_stpStop_held (h0 : d.op 32 1 ≠ 0) (ha : s.authority = false) :
    exec (.stpStop d) s = .next (s.finish d (s.drawn.holdHostStop d (some (d.op 33 1))).ok) :=
  h.next_command ((if_neg h0).trans (if_neg (ne_true_of_eq_false ha)))

end

/-- A unit without authority holds a host stop pending. -/
theorem State.hostPending_holdHostStop {s : State} (d : Desc) (r : Option Nat) (ha : s.authority = false) :
    (s.holdHostStop d r).stp.hostPending = s.stp.hostPending ++ [r] := by
  unfold State.holdHostStop
  rw [if_neg (ne_true_of_eq_false ha)]
  extract_lets held
  unfold State.sendMate
  split <;> rfl

/-! ### STP_CLEAR and STP_QUERY (R251, R255) -/

/-- What a clear is for: ALL, or a robot. -/
def Desc.clearOf (d : Desc) : Option Nat := if d.op 32 1 = 0 then none else some (d.op 33 1)

section
variable {d : Desc} {s : State} (h : Runs s d)
include h

theorem exec_stpClear_refused {n : Nat} (hr : s.clearRefused d.clearOf = some n) :
    exec (.stpClear d) s = .next (s.finish d (s.fail n)) := by
  unfold Desc.clearOf at hr
  refine h.next_command ?_
  simp only [hr]

theorem exec_stpClear_waits (ht : s.stroked = true) (hr : s.clearRefused d.clearOf = none) :
    exec (.stpClear d) s = .next (s.finish d
      (s.setStp { s.stp with clearing := s.stp.clearing ++ [(d, d.clearOf, s.sn)] }).later) := by
  unfold Desc.clearOf at hr
  refine h.next_command ?_
  simp only [hr, ht, if_true]
  rfl

theorem exec_stpClear_early (ht : s.stroked = false) (hr : s.clearRefused d.clearOf = none) :
    exec (.stpClear d) s = .next (s.finish d ((s.clearStop d.clearOf 0).ok 0)) := by
  unfold Desc.clearOf at hr
  refine h.next_command ?_
  simp only [hr, ht, Bool.false_eq_true, if_false]
  rfl

end

/-- The state with a waiting clear taken off. -/
def State.clearTaken (s : State) (x : Desc × Option Nat × Nat) : State :=
  s.setStp { s.stp with clearing := s.stp.clearing.erase x }

section
variable {s : State} {d : Desc} {r : Option Nat} {f : Nat} (hs : s.serving = true)
  (hc : (s.stp.clearing.find? fun c => decide (c.2.2 < s.sn)) = some (d, r, f))
include hs hc

theorem exec_stopCleared_done (hr : s.clearRefused r = none) :
    exec .stopCleared s = .next ((((s.clearTaken (d, r, f)).clearStop r s.sn)).finish d
      (((s.clearTaken (d, r, f)).clearStop r s.sn).ok ((s.clearTaken (d, r, f)).clearStop r s.sn).sn)) := by
  have hr' : (s.setStp { s.stp with clearing := s.stp.clearing.erase (d, r, f) }).clearRefused r = none := hr
  change execStopCleared s = _
  simp only [execStopCleared, hs, hc, hr', Bool.not_true, Bool.false_eq_true, if_false]
  rfl

theorem exec_stopCleared_refused {n : Nat} (hr : s.clearRefused r = some n) :
    exec .stopCleared s = .next ((s.clearTaken (d, r, f)).finish d ((s.clearTaken (d, r, f)).fail n)) := by
  have hr' : (s.setStp { s.stp with clearing := s.stp.clearing.erase (d, r, f) }).clearRefused r = some n := hr
  change execStopCleared s = _
  simp only [execStopCleared, hs, hc, hr', Bool.not_true, Bool.false_eq_true, if_false]
  rfl

end

/-- No wave is in force, with no cause, and no frame phase. -/
def State.waveOff (s : State) : State := ((s.put STP_STATUS_WAVE 0).put STP_STATUS_CAUSES 0).put STP_STATUS_FRAME_PHASE 0

theorem State.get_waveOff (s : State) : s.waveOff.get STP_STATUS_WAVE = 0 ∧ s.waveOff.get STP_STATUS_CAUSES = 0 := by
  unfold State.waveOff
  rw [State.get_put_apart _ STP_STATUS_FRAME_PHASE STP_STATUS_WAVE _ rfl (by decide) (by decide),
    State.get_put_apart _ STP_STATUS_CAUSES STP_STATUS_WAVE _ rfl (by decide) (by decide),
    State.get_put_apart _ STP_STATUS_FRAME_PHASE STP_STATUS_CAUSES _ rfl (by decide) (by decide),
    State.get_put _ _ _ (by decide), State.get_put _ _ _ (by decide)]
  exact ⟨rfl, rfl⟩

/-- The frame phase is over, its channels forgotten. -/
def State.phaseOff (s : State) : State := s.setStp { s.stp with phaseSn := none, firstSent := [] }

/-- The CLEAR elements of a clear are due. -/
def State.clearDue (s : State) (r : Option Nat) (n : Nat) : State :=
  s.setStp { s.stp with clears := s.stp.clears ++ [⟨r, n, n / 40 + 1⟩] }

/-- An ALL clear takes the wave and its causes off and leaves the SN, the ROBOT stops and the waiting clears. -/
theorem State.clearStop_all (s : State) (n : Nat) :
    (s.clearStop none n).sn = s.sn ∧ (s.clearStop none n).get STP_STATUS_WAVE = 0 ∧ (s.clearStop none n).get STP_STATUS_CAUSES = 0 ∧
    (s.clearStop none n).stp.clearing = s.stp.clearing ∧ (s.clearStop none n).stp.robots = s.stp.robots := by
  have heq : s.clearStop none n =
      ((s.waveOff.phaseOff.clearDue none n).logInput (.clear none)).applyOut.record EV_STOP_CLEARED 0 0 0xFF n := rfl
  have hview := (s.waveOff.phaseOff.clearDue none n).stopView_logInput (.clear none)
  have hget (f : Fld) (h : f.addr = STP_STATUS) (hf : f.lo + f.width ≤ 5 ∨ 7 ≤ f.lo) :
      (s.clearStop none n).get f = s.waveOff.get f := by
    rw [heq, State.record_get, State.get_applyOut _ h hf, State.get_of_stopView hview (h ▸ by decide)]
    rfl
  have hoff : s.waveOff.sn = s.sn ∧ s.waveOff.stp = s.stp := by
    unfold State.waveOff
    simp
  obtain ⟨hsn, hstp⟩ := hoff
  refine ⟨?_, (hget _ rfl (by decide)).trans s.get_waveOff.1, (hget _ rfl (by decide)).trans s.get_waveOff.2, ?_, ?_⟩
  · rw [heq, State.record_sn, State.sn_applyOut, State.sn_of_stopView hview, State.clearDue, State.setStp_sn, State.phaseOff,
      State.setStp_sn, hsn]
  · rw [heq, State.record_stp, State.stp_applyOut, State.stp_of_stopView hview]
    exact (rfl : _ = s.waveOff.stp.clearing).trans (congrArg Stop.clearing hstp)
  · rw [heq, State.record_stp, State.stp_applyOut, State.stp_of_stopView hview]
    exact (rfl : _ = s.waveOff.stp.robots).trans (congrArg Stop.robots hstp)

/-- Settles O34: each clause by the lemma about its row; a frame sent by what it leaves noted, a stop by what its raising shows. -/
theorem stopFramesAndCommands : Obligations.StopFramesAndCommands := by
  refine ⟨fun s hs => exec_stopCut_serving hs, ?frame, fun k s hs hk hn => exec_framePhaseEnd_over hs hk hn, ?stopAll, ?stopRobot,
    ?held, fun d s h ht hr => exec_stpClear_waits h ht hr, fun d s h ht hr => exec_stpClear_early h ht hr,
    fun d n s h hr => exec_stpClear_refused h hr, ?cleared, fun d r f n s hs hc hr => exec_stopCleared_refused hs hc hr,
    fun d s h => h.next_command rfl⟩
  case frame =>
    intro n c s hs hc hk he ha
    have hview := s.stopView_stopAired (s.stopTx n c)
    have hn := ((s.stopAired (s.stopTx n c)).cutSent n c).noteSent_noted n c.robot
    obtain ⟨hcut, hframes, hout, hall, hrobot⟩ := hn
    rw [State.stp_cutSent, State.stp_of_stopView hview, State.sn_of_stopView hview] at hcut
    rw [State.frames_cutSent, State.num_of_stopView hview (by decide)] at hframes
    rw [State.out_cutSent, State.sn_of_stopView hview] at hout
    rw [State.stp_cutSent, State.sn_cutSent, State.stp_of_stopView hview, State.sn_of_stopView hview] at hall
    rw [State.stp_cutSent, State.stp_of_stopView hview] at hrobot
    obtain ⟨h, b, f, hair⟩ := s.air_mem_out_stopAired n c
    refine ⟨_, exec_stopFrameTx_sent hs hc hk he ha, hcut, hframes, hall, hrobot, ?_, h, b, f, ?_⟩
    · exact hout ▸ List.mem_cons_self
    · exact hout ▸ List.mem_cons_of_mem _ hair
  case stopAll =>
    intro d s h h0
    have hr := (s.drawn.holdHostStop d none).raiseAll_raised 3 s.fetchNs
    exact ⟨_, exec_stpStop_all h h0, hr.wave, hr.cause, hr.outA, hr.outB⟩
  case stopRobot =>
    intro d s h h0 ha
    exact ⟨_, exec_stpStop_robot h h0 ha, s.drawn.raiseRobot_raised 9 (d.op 33 1) s.fetchNs⟩
  case held => exact fun d s h h0 ha => ⟨exec_stpStop_held h h0 ha, s.drawn.hostPending_holdHostStop d _ ha⟩
  case cleared =>
    intro d f s hs hc hr
    obtain ⟨hsn, hwave, hcauses, hclearing, hrobots⟩ := (s.clearTaken (d, none, f)).clearStop_all s.sn
    refine ⟨_, ?_, hwave, hcauses, hclearing, hrobots⟩
    have hdone := exec_stopCleared_done hs hc hr
    rwa [hsn] at hdone

end Sys2Proof.Machine

/-! PROOFS. The Mesh MAC: the mesh channel of a received frame is the one it was received on, not the one read when its cells have
returned. -/

namespace Sys2Proof.Machine

open Sys2Proof

/-! ### The end of a job that is no ring job (R36, R39) -/

/-- It leaves every register alone but the peak of its class and the count of lost completions. -/
theorem State.num_commitOne (s : State) (j : Job) {a : Nat} (hl : a ≠ RNG_LOST_CPL) (hp : STK_CLASS_PEAK (j.cls % 8) ≠ a) :
    (s.commitOne j).num a = s.num a := by
  have hpeak (t : State) (ns : Nat) : (t.notePeak j.cls ns).num a = t.num a := by
    unfold State.notePeak State.peak
    split
    · split
      · exact State.num_setNum_ne _ _ hp
      · rfl
    · rfl
  have hend (t : State) : (((t.countPrefix j).noteOut j).endJob j true |>.startJobs j.cls (executors j.cls)).num a = t.num a :=
    congrArg BitVec.toNat ((endSteps_sameBesideEnd.trans (endSteps_sameBesideEnd.trans (endSteps_sameBesideEnd.notedJob t j)
      (endSteps_sameBesideEnd.endJob _ j true)) (endSteps_sameBesideEnd.startJobs _ j.cls (executors j.cls))).2 a hl)
  exact (hend _).trans (hpeak _ _)

/-- The intake job of the Mesh MAC runs on its frame and commits, on the channel that the frame was received on. -/
theorem State.runMeshRx_eq {s : State} {legacy : Bool} {j : Job} {rx : RxFrame} {c : Nat}
    (hn : s.nextIntake (fun p => decide (24 ≤ p) && decide (p < 32)) (fun f => (s.meshRx legacy f).isSome) = some (j, rx))
    (hc : s.meshRx legacy rx = some c) (body : RxFrame → Nat → State → State) :
    s.runMeshRx legacy body = ({ body rx c { s.takeIntake rx with sn := j.sn } with sn := s.sn } : State).commitOne j := by
  unfold State.runMeshRx
  rw [State.runIntake_eq hn]
  simp only [hc]

/-- A frame that a cell of its channel hears in its window, and that fails its checks, ends there (R264, R269, R270). -/
theorem exec_meshFrameRx_rejected {f : MeshIn} {s v u : State} {j : Job} {rx : RxFrame} {c : Nat} {x : MeshCell}
    (hs : s.serving = true)
    (hn : s.nextIntake (fun p => decide (24 ≤ p) && decide (p < 32)) (fun f => (s.meshRx false f).isSome) = some (j, rx))
    (hv : v = { s.takeIntake rx with sn := j.sn }) (hc : s.meshRx false rx = some c) (hr : v.meshRuns = true)
    (hx : v.rxCell c (absNs rx.sn rx.ns) = some x)
    (hw : absI ((absNs rx.sn rx.ns : Int) - (v.asnNs x.asn : Int) - v.get MSH_TEMPLATE_TX_OFFSET_US * 1000) ≤ v.window x f.src * 1000)
    (ha : rx.cell.isNone = false) (hu : v.receive c x.asn rx.sn f = (u, none)) :
    exec (.meshFrameRx f) s = .next (({ u.showMesh with sn := s.sn } : State).commitOne j) := by
  change execMeshFrameRx f s = _
  unfold execMeshFrameRx
  rw [hs, State.runMeshRx_eq hn hc, ← hv]
  simp only [hr, if_true, hx, Nat.not_lt.mpr hw, ha, hu]
  rfl

/-! ### A frame whose end moves its mesh channel (R264, R311, R321) -/

/-- A frame on receive channel 0 of radio port 0, at its nominal instant in ASN 0. -/
def overlaidRx : RxFrame :=
  { port := 0, ch := 0, mode := 0, mcs := 0, sn := 0, ns := 2120000, rssi := 0, snr := 0, cfo := 0, ldpcIter := 0, bytes := [],
    cell := some 0 }

/-- Its intake job. -/
def overlaidJob : Job := { id := 5, src := .intake 24 0, cls := 4, prio := 0, phase := .ready }

/-- What the lane reads of it: a frame of a node that the register does not hold. -/
def strangerIn : MeshIn :=
  { src := 1, origin := 1, short := 0xFFFF, gen := 1, ctr := 0, dsn := 0, ar := false, micOk := true, durNs := 0, body := .empty }

/-- The frame in the Cistern, from a fabric port beyond the 44 of the device, chosen so that CIS_USE of the port and MSH_CHAN 2 are one
address. -/
def overlaidFrame : Frame :=
  { id := 0, ingress := 40960, cls := 0, bytes := [], cells := [], guar := 0, shared := 0, hdrm := 0, arrSn := 0, verified := true }

/-- A shared cell of mesh channel 2 in ASN 0. -/
def overlaidCell : MeshCell := ⟨0, 0, 2, 0, 1, .shared, false⟩

/-- Mesh channels 2 and 3 both take receive channel 0 of radio port 0; a cell runs on channel 2. -/
def overlaidState : State :=
  { State.reset with
    dev := .operate, stroked := true, regs := [(MSH_CFG, 1), (MSH_CHAN 2, 1), (MSH_CHAN 3, 1)],
    rad := { rx := [overlaidRx] }, net := { frames := [overlaidFrame] }, disp := { jobs := [overlaidJob] },
    msh := { cells := [overlaidCell] } }

/-- The state in which the Mesh MAC runs on the frame: its cells have returned. -/
def overlaidTaken : State := { overlaidState.takeIntake overlaidRx with sn := overlaidJob.sn }

/-- The mesh channel that the frame was received on. -/
theorem overlaidState_meshRx : overlaidState.meshRx false overlaidRx = some 2 := by decide +kernel

/-- Once its cells have returned, the register of channel 2 is overwritten, and channel 3 takes its place. -/
theorem overlaidTaken_meshRx : overlaidTaken.meshRx false overlaidRx = some 3 := by decide +kernel

theorem overlaidState_nextIntake :
    overlaidState.nextIntake (fun p => decide (24 ≤ p) && decide (p < 32)) (fun f => (overlaidState.meshRx false f).isSome) =
      some (overlaidJob, overlaidRx) := by decide +kernel

/-- The cell of channel 2 hears the frame: its unknown sender is counted. -/
theorem exec_meshFrameRx_overlaid :
    exec (.meshFrameRx strangerIn) overlaidState =
      .next (({ (overlaidTaken.count MSH_RX_UNKNOWN 1).showMesh with sn := overlaidState.sn } : State).commitOne overlaidJob) :=
  exec_meshFrameRx_rejected (x := overlaidCell) rfl overlaidState_nextIntake rfl overlaidState_meshRx (by decide +kernel)
    (by decide +kernel) (by decide +kernel) rfl rfl

/-- Refutes O37, in the clause of a frame outside every cell: the statement reads the frame's mesh channel in the state that its cells
have returned to, the model in the state it was received in. They differ where the frame's end overwrites the channel's register, as
the use register of a fabric port beyond the device's 44 does: the statement speaks of every state, those with such a frame too. -/
theorem not_meshCellsAndFrames : ¬ Obligations.MeshCellsAndFrames := by
  rintro ⟨-, -, -, -, -, hunheard, -⟩
  have hstep := hunheard strangerIn overlaidJob overlaidRx 3 overlaidTaken overlaidState rfl overlaidState_nextIntake rfl
    overlaidTaken_meshRx (by decide +kernel)
  have hends := congrArg (State.num · MSH_RX_UNKNOWN) (Host.Outcome.next.inj (exec_meshFrameRx_overlaid.symm.trans hstep))
  simp only [State.num_commitOne _ overlaidJob (a := MSH_RX_UNKNOWN) (by decide) (by decide)] at hends
  exact absurd hends (by decide +kernel)

end Sys2Proof.Machine

/-! PROOFS. The Mesh MAC and its network layer: transmit results, indirect frames, DAOs and path lifetimes, DIS and Trickle, management
messages, cluster keys, reassembly, downlink packets. -/

namespace Sys2Proof.Machine

open Sys2Proof

/-! ### Transmit results (R266, R267) -/

/-- The frame is queued for a neighbour that keeps no timeslots. -/
def State.legacyHop (s : State) (q : MeshQ) : Bool :=
  match (s.nbrOf q.hop).bind s.nbr? with | some m => m.legacy | none => false

/-- The acknowledgement passes its check and falls in its window, which a legacy neighbour's has not (R267). -/
def State.ackCounts (s : State) (q : MeshQ) (a : MeshAckIn) : Bool :=
  a.valid && (s.legacyHop q || decide (a.ofs.natAbs ≤ s.get MSH_GUARD_ACK_GUARD_US))

theorem exec_meshAckRx_due {s : State} {a : MeshAckIn} {q : MeshQ} (hs : s.serving = true) (hq : s.resultDue a.id = some q) :
    exec (.meshAckRx a) s = .next (s.reportTx (.mesh 0 q.id)
      (if s.ackCounts q a then (if a.nack then .nacked a.ofs else .acked a.ofs) else .unheard)) := by
  have hflip (b c : Bool) {α : Type} (x y : α) : (if !b || !c then x else y) = if b && c then y else x := by
    cases b <;> cases c <;> rfl
  change execMeshAckRx a s = _
  unfold execMeshAckRx
  rw [hs, hq]
  exact congrArg (fun r => Host.Outcome.next (s.reportTx (.mesh 0 q.id) r)) (hflip _ _ _ _)

theorem exec_meshAckTimeout_due {s : State} {i : Nat} {q : MeshQ} (hs : s.serving = true) (hq : s.resultDue i = some q) :
    exec (.meshAckTimeout i) s = .next (s.reportTx (.mesh 0 q.id) .unheard) := by
  change execMeshAckTimeout i s = _
  simp [execMeshAckTimeout, hs, hq]

/-! ### Failed attempts (R266) -/

/-- A frame that was dropped is noted with its neighbour. -/
def State.noteUnsent (s : State) (hop : Nat) : State :=
  (match s.nbrOf hop with
    | some k => s.modNbr k fun n => { n with txFail := n.txFail + 1, changed := true }
    | none => s).noteEtx hop

section
variable {s : State} {i : Nat} {q : MeshQ} (hq : (s.msh.queue.find? fun q => q.id == i) = some q)
include hq

theorem State.takeResult_queued (r : TxResult) (n : Nat) :
    s.takeResult i r n = match r with
      | .acked o => (s.ackSync q.hop o ((n - s.asnBase) / 40)).attemptDone q
      | .nacked o => (s.ackSync q.hop o ((n - s.asnBase) / 40)).attemptFailed i
      | .noAccess => (s.count MSH_TX_CCA_FAIL 1).attemptFailed i
      | _ => s.attemptFailed i := by
  cases r <;> simp only [State.takeResult, hq]

/-- An attempt short of MAX_RETRIES repeats is made again. -/
theorem State.attemptFailed_repeats (hr : q.attempts + 1 ≤ s.get MSH_CFG_MAX_RETRIES) :
    s.attemptFailed i = s.modQ i fun q => { q with attempts := q.attempts + 1, waiting := false, nb := 0 } := by
  unfold State.attemptFailed
  rw [hq]
  exact if_neg (Nat.not_lt.mpr hr)

theorem State.attemptFailed_drops (hr : s.get MSH_CFG_MAX_RETRIES < q.attempts + 1) :
    s.attemptFailed i = ((s.dropQ i).count MSH_TX_FAIL 1).noteUnsent q.hop := by
  unfold State.attemptFailed
  rw [hq]
  exact if_pos hr

end

/-- What is noted with a neighbour is no frame of the queue and no register. -/
theorem State.noteUnsent_kept (s : State) (hop : Nat) :
    (s.noteUnsent hop).msh.queue = s.msh.queue ∧ (s.noteUnsent hop).regs = s.regs := by
  have hetx (t : State) : (t.noteEtx hop).msh.queue = t.msh.queue ∧ (t.noteEtx hop).regs = t.regs := by
    unfold State.noteEtx
    split <;> exact ⟨rfl, rfl⟩
  unfold State.noteUnsent
  split
  · exact hetx _
  · exact hetx _

/-! ### PENDING_EXPIRED (R275) -/

/-- The frame has been held for its node's poll for PERSIST timeslots. -/
def State.pendingOver (s : State) (q : MeshQ) : Bool := q.indirect && decide (q.queuedSn + 40 * s.get MSH_PEND_CFG_PERSIST ≤ s.sn)

theorem exec_pendingExpired {s : State} (hs : s.serving = true) :
    exec .pendingExpired s = .next ((s.setMsh { s.msh with queue := s.msh.queue.filter fun q => !s.pendingOver q }).count
      MSH_PEND_EXPIRED (s.msh.queue.filter s.pendingOver).length) := by
  change execPendingExpired s = _
  unfold execPendingExpired
  rw [hs]
  rfl

/-! ### An item for the host (R76, R305) -/

/-- An item delivered to a posted buffer changes rings and dispatcher alone. -/
theorem State.deliver_keeps {β : Type} (π : State → β) (hrings : ∀ s x, π (s.setRings x) = π s) (hdisp : ∀ s x, π (s.setDisp x) = π s)
    (s : State) (g o r : Nat) (b : List Byte) (w : DueWhen) : π (s.deliver g o r b w).1 = π s := by
  have hadd (t : State) (c : DueCpl) : π (t.addDue c) = π t := by
    unfold State.addDue
    split
    · rfl
    · exact hrings t _
  have hfrom (n : Nat) : ∀ (t : State) (k : Nat), π (t.deliverFrom k o r b w n).1 = π t := by
    induction n with
    | zero => exact fun _ _ => rfl
    | succ n ih =>
      intro t k
      unfold State.deliverFrom
      split
      · rfl
      · dsimp only
        split
        · exact (ih _ _).trans ((hadd _ _).trans (hrings t _))
        · exact (hadd _ _).trans (hrings t _)
  unfold State.deliver
  split
  · exact (hfrom _ _ _).trans (hdisp s _)
  · exact hfrom _ _ _

/-- A MESH_DATA item leaves the mesh alone, and of its registers moves the count of items without a buffer. -/
theorem State.meshItem_kept (s : State) (o r : Nat) (b : List Byte) :
    (s.meshItem o r b).msh = s.msh ∧ ∀ a, MSH_HOST_MISS ≠ a → (s.meshItem o r b).num a = s.num a := by
  have hmsh := s.deliver_keeps State.msh (fun _ _ => rfl) (fun _ _ => rfl) 23 o r b s.replDue
  have hnum (a : Nat) := s.deliver_keeps (State.num · a) (fun _ _ => rfl) (fun _ _ => rfl) 23 o r b s.replDue
  unfold State.meshItem
  dsimp only
  split
  · exact ⟨hmsh, fun a _ => hnum a⟩
  · exact ⟨hmsh, fun a ha => (State.num_setNum_ne _ _ ha).trans (hnum a)⟩

/-! ### DAOs and path lifetimes (R287, R288) -/

theorem exec_daoRx_taken {s u : State} {x : MeshItem} {q l : Nat} {p : Option Nat} (hs : s.serving = true)
    (hx : s.takeItem MeshUp.isDao = some (u, x)) (hb : x.body = .dao q l p) :
    exec .daoRx s = .next (u.dao x.node x.arrival q l p) := by
  change execDaoRx s = _
  simp [execDaoRx, hs, hx, hb]

/-- The index of the parent that a rejected DAO names, as its record shows it. -/
def State.parentIndex (s : State) : Option Nat → Nat
  | none => 0xFFFFFFFF
  | some e => (s.nodeOfEui e).getD (Config.freeNat s.free)

/-- A DAO is rejected: counted, recorded, told to the host. -/
def State.daoRejected (s : State) (i st : Nat) (n : Node) (p : Option Nat) : State :=
  ((s.drawn.count MSH_DAO_REJECT 1).record EV_DAO_REJECTED 0 i st (s.parentIndex p)).nodeOut i 3 n.depth st

theorem State.daoRejected_kept (s : State) (i st : Nat) (n : Node) (p : Option Nat) :
    (s.daoRejected i st n p).msh = s.msh ∧ (s.daoRejected i st n p).num MSH_DAO_REJECT = (s.num MSH_DAO_REJECT + 1) % 2 ^ 32 := by
  obtain ⟨hmsh, hnum⟩ := ((s.drawn.count MSH_DAO_REJECT 1).record EV_DAO_REJECTED 0 i st (s.parentIndex p)).meshItem_kept 0x5011 0
    (leBytes 4 i ++ leBytes 1 3 ++ leBytes 1 n.depth ++ leBytes 1 st ++ leBytes 1 0 ++ leBytes 8 s.sn)
  exact ⟨hmsh, (hnum _ (by decide)).trans (State.num_setNum _ _ _)⟩

/-- A newer DAO whose path cannot be taken is rejected and answered so. -/
theorem State.dao_rejected {s : State} {i q l st : Nat} {n : Node} {p : Option Nat} (a : Nat) (hn : s.node? i = some n)
    (hc : (s.cluster? n.cluster).isSome = true) (hq : n.daoSeen = false ∨ lollipopNewer q n.daoSeq = true) (hl : l ≠ 0)
    (hp : s.takePath i n p = .error st) : s.dao i a q l p = (s.daoRejected i st n p).meshSend i (.daoAck q st) := by
  have hnew : ((s.cluster? n.cluster).isNone || (n.daoSeen && !lollipopNewer q n.daoSeq)) = false := by
    rw [Option.isNone_eq_false_iff.mpr hc]
    rcases hq with h | h <;> simp [h]
  unfold State.dao
  simp only [hn, hnew, if_neg hl, hp]
  cases p <;> rfl

theorem State.num_meshSend (s : State) (i : Nat) (b : MeshBody) (a : Nat) : (s.meshSend i b).num a = s.num a := by
  unfold State.meshSend
  dsimp only
  rw [apply_ite (State.num · a)]
  exact ite_self _

/-- Joined nodes whose path lifetime has ended. -/
def State.pathsOver (s : State) : List Nat := (s.msh.nodes.filter fun x => x.2.joined && decide (x.2.pathExpiry < s.sn)).map (·.1)

/-- A node that is still joined departs with cause 2. -/
def State.expirePath (s : State) (i : Nat) : State :=
  match s.node? i with
  | some n => if n.joined then s.departNode i 2 else s
  | none => s

theorem exec_pathExpiry {s : State} (hs : s.serving = true) : exec .pathExpiry s = .next (s.pathsOver.foldl State.expirePath s) := by
  change execPathExpiry s = _
  unfold execPathExpiry
  rw [hs]
  rfl

theorem State.expirePath_joined {s : State} {i : Nat} {n : Node} (hn : s.node? i = some n) (hj : n.joined = true) :
    s.expirePath i = s.departNode i 2 := by
  simp [State.expirePath, hn, hj]

/-! ### DIS and the Trickle timer (R287, R295) -/

theorem exec_disRx_answered {s u : State} {x : MeshItem} {n : Node} {c : Cluster} (hs : s.serving = true)
    (hx : s.takeItem (fun b => b == .dis) = some (u, x)) (hn : u.node? x.node = some n) (hc : u.cluster? n.cluster = some c) :
    exec .disRx s = .next (u.meshSend x.node (.dio c.version)) := by
  change execDisRx s = _
  simp [execDisRx, hs, hx, hn, hc]

/-- Only what the change makes of the cluster's entry counts. -/
theorem State.modCluster_congr {s : State} {i : Nat} {k : Cluster} {f g : Cluster → Cluster} (hk : s.cluster? i = some k)
    (h : f k = g k) : s.modCluster i f = s.modCluster i g := by
  simp only [State.modCluster, tmod, State.tget_of_cluster? hk, h]

/-- The timer of an open cluster fires in the second half of its interval, and nowhere else. -/
theorem exec_dioTrickle_open {s : State} {c : Nat} {k : Cluster} (hk : s.cluster? c = some k) :
    exec (.dioTrickle c) s = .next (if s.meshRuns && decide (k.dioFrom + s.trickleLen k / 2 ≤ s.sn) then
      s.modCluster c fun y => { y with dioDue := true, dioFrom := y.dioFrom + s.trickleLen k,
                                       doublings := min (s.get MSH_NET_CFG_DIO_DOUBLINGS) (y.doublings + 1) } else s) := by
  change execDioTrickle c s = _
  simp only [execDioTrickle, hk]
  exact congrArg Host.Outcome.next (if_congr Iff.rfl (State.modCluster_congr hk rfl) rfl)

/-! ### Messages of a node (R291, R297, R299) -/

/-- A node confirms the generation of a cluster key that is being renewed. -/
def State.confirmKey (s : State) (g : Nat) (n : Node) : Node :=
  match (s.cluster? n.cluster).bind Cluster.renewing with
  | some (h, _, _) => if g = h then { n with ckeyGen := h } else n
  | none => n

theorem exec_rekeyAck_cluster {s u : State} {x : MeshItem} {p : Nat} {m : List Byte} (hs : s.serving = true)
    (hx : s.takeItem (MeshUp.isMessage 0xF0B2 0x04) = some (u, x)) (hb : x.body = .message p m) (hm : leAt m 1 1 = 1) :
    exec .rekeyAck s = .next (u.modNode x.node (u.confirmKey (leAt m 2 1))) := by
  change execRekeyAck s = _
  simp only [execRekeyAck, hs, hx, hb, hm]
  rfl

/-- The entry of a node whose NODE_STATUS has come. -/
def Node.reported (n : Node) (m : List Byte) : Node :=
  { n with fwVersion := leAt m 4 4, hwClass := leAt m 8 4, schedOk := n.joined && leAt m 2 2 == n.schedVer }

theorem exec_nodeStatus_known {s u : State} {x : MeshItem} {p : Nat} {m : List Byte} {n : Node} (hs : s.serving = true)
    (hx : s.takeItem (MeshUp.isMessage 0xF0B2 0x01) = some (u, x)) (hb : x.body = .message p m) (hn : u.node? x.node = some n) :
    exec .nodeStatus s = .next ((if n.joined && leAt m 2 2 != n.schedVer then
        ((u.setNode x.node (n.reported m)).record EV_SCHED_STALE 0 x.node (leAt m 2 2) n.schedVer).sendSched x.node false
      else u.setNode x.node (n.reported m)).addTarget x.node (n.reported m)) := by
  change execNodeStatus s = _
  simp only [execNodeStatus, hs, hx, hb, hn]
  rfl

/-- The values that a VALUES message carries. -/
def valuesOf (m : List Byte) : List Nat := (List.range (leAt m 1 1)).map fun i => leAt m (4 + 4 * i) 4

theorem exec_values_message {s u : State} {x : MeshItem} {p : Nat} {m : List Byte} (hs : s.serving = true)
    (hx : s.takeItem (MeshUp.isMessage 0xF0B2 0x05) = some (u, x)) (hb : x.body = .message p m) :
    exec .values s = .next ((u.modNode x.node fun n => { n with values := valuesOf m, valuesSn := x.arrival }).meshItem 0x5010 x.node
      (leBytes 4 x.node ++ leBytes 1 (valuesOf m).length ++ leBytes 3 0 ++ leBytes 8 x.arrival ++
        slice ((valuesOf m).flatMap (leBytes 4)) 0 32)) := by
  change execValues s = _
  simp only [execValues, hs, hx, hb]
  rfl

/-! ### CLUSTER_KEY_SWITCH (R297) -/

/-- A cluster whose SWITCH_ASN is reached uses its next generation, recorded. -/
def State.switchKey (s : State) (x : Nat × Cluster) : State :=
  match x.2.keyNext with
  | some (g, sl, a) =>
    if s.asn < a then s
    else (s.modCluster x.1 fun c => { c with keyGen := g, keySlot := sl, keyNext := none, renewed := some a }).record EV_REKEY_DONE 0
      (0x80000000 + x.1) g 0
  | none => s

theorem exec_clusterKeySwitch {s : State} (hs : s.serving = true) :
    exec .clusterKeySwitch s = .next (if !s.asnValid then s else s.msh.clusters.foldl State.switchKey s) := by
  change execClusterKeySwitch s = _
  unfold execClusterKeySwitch
  rw [hs]
  rfl

theorem State.switchKey_reached {s : State} {i g sl a : Nat} {k : Cluster} (hk : k.keyNext = some (g, sl, a)) (ha : a ≤ s.asn) :
    s.switchKey (i, k) = (s.modCluster i fun c => { c with keyGen := g, keySlot := sl, keyNext := none, renewed := some a }).record
      EV_REKEY_DONE 0 (0x80000000 + i) g 0 := by
  simp only [State.switchKey, hk]
  exact if_neg (Nat.not_lt.mpr ha)

theorem State.clusters_modCluster_single {s : State} {i : Nat} {k : Cluster} (f : Cluster → Cluster) (hc : s.msh.clusters = [(i, k)]) :
    (s.modCluster i f).msh.clusters = [(i, f k)] := by
  simp [State.modCluster, hc, tmod, tget, tput]

/-! ### Reassembly (R290) -/

section
variable {s u : State} {x : MeshItem} {tag size o : Nat} {b : List Byte} (hs : s.serving = true)
  (hx : s.takeItem MeshUp.isFragment = some (u, x)) (hb : x.body = .fragment tag size o b)
include hs hx hb

theorem exec_fragmentRx_tooLong (hl : 1280 < size) : exec .fragmentRx s = .next (u.count MSH_REASM_DROP 1) := by
  change execFragmentRx s = _
  simp [execFragmentRx, hs, hx, hb, hl]

/-- A fragment joins the reassembly of its datagram, which goes on once it is covered. -/
theorem exec_fragmentRx_joins {r : MeshReasm} (hl : size ≤ 1280)
    (hr : (u.msh.reasm.find? fun r => r.node == x.node && r.tag == tag && r.size == size) = some r) :
    exec .fragmentRx s = .next (if fragsCover size 0 (insertFrag (o, b) r.frags) then
        (u.setMsh { u.msh with reasm := u.msh.reasm.erase r }).datagram x ((insertFrag (o, b) r.frags).flatMap (·.2))
      else u.setMsh { u.msh with reasm := u.msh.reasm.map fun y =>
        if y.node == x.node && y.tag == tag && y.size == size then { y with frags := insertFrag (o, b) r.frags } else y }) := by
  change execFragmentRx s = _
  simp only [execFragmentRx, hs, hx, hb, Nat.not_lt.mpr hl, hr]
  rfl

/-- The first fragment of a datagram is the whole of it, or opens a reassembly where there is room. -/
theorem exec_fragmentRx_opens (hl : size ≤ 1280)
    (hr : (u.msh.reasm.find? fun r => r.node == x.node && r.tag == tag && r.size == size) = none) :
    exec .fragmentRx s = .next (if 1024 ≤ u.msh.reasm.length then u.reasmFull
      else if b.length = size && o = 0 then u.datagram x b
      else u.setMsh { u.msh with reasm := u.msh.reasm ++ [⟨x.node, tag, size, [(o, b)], x.arrival⟩] }) := by
  change execFragmentRx s = _
  simp only [execFragmentRx, hs, hx, hb, Nat.not_lt.mpr hl, hr]
  rfl

end

/-- The reassembly has waited for its fragments for MSH_REASM_S. -/
def State.reasmOver (s : State) (r : MeshReasm) : Bool := decide (r.firstSn + 4000 * max 1 (s.get MSH_REASM_S_S) ≤ s.sn)

theorem exec_reassemblyTimeout {s : State} (hs : s.serving = true) :
    exec .reassemblyTimeout s = .next ((s.setMsh { s.msh with reasm := s.msh.reasm.filter fun r => !s.reasmOver r }).count
      MSH_REASM_DROP (s.msh.reasm.filter s.reasmOver).length) := by
  change execReassemblyTimeout s = _
  unfold execReassemblyTimeout
  rw [hs]
  rfl

/-! ### MESH_DOWNLINK_PACKET (R289) -/

/-- The oldest packet for the mesh is taken off. -/
def State.downTaken (s : State) (r : List (Nat × List Byte)) : State := s.setMsh { s.msh with toMesh := r }

theorem exec_meshDownlinkPacket_some {s : State} {c : Nat} {pkt : List Byte} {r : List (Nat × List Byte)} (hs : s.serving = true)
    (hr : s.msh.toMesh = (c, pkt) :: r) :
    exec .meshDownlinkPacket s = .next (match s.nodeOfAddr c (dstOf pkt) with
      | some i => (s.downTaken r).meshSend i (.packet pkt)
      | none => s.downTaken r) := by
  change execMeshDownlinkPacket s = _
  simp only [execMeshDownlinkPacket, hs, hr]
  rfl

/-- Settles O38: each clause by the lemma about its row, or about the operation that it speaks of. -/
theorem meshAcknowledgementsAndNetwork : Obligations.MeshAcknowledgementsAndNetwork := by
  refine ⟨fun a q s => exec_meshAckRx_due, fun i q s => exec_meshAckTimeout_due, fun i r n q s hq => s.takeResult_queued hq r n,
    fun i q s hq hr => ⟨_, State.attemptFailed_repeats hq hr, rfl⟩, ?dropped, ?expired, fun x q l p u s => exec_daoRx_taken, ?rejected,
    fun s => exec_pathExpiry, ?departs, fun x n c u s => exec_disRx_answered, ?fires, ?early, ?confirmed,
    fun s => exec_clusterKeySwitch, ?switched, fun x m p n u s => exec_nodeStatus_known, ?values,
    fun x tag size o b u s => exec_fragmentRx_tooLong, fun x tag size o b r u s hs hx hb hl => exec_fragmentRx_joins hs hx hb hl,
    fun x tag size o b u s => exec_fragmentRx_opens, ?reassembly, fun c pkt r s => exec_meshDownlinkPacket_some⟩
  case dropped =>
    intro i q s hq hr
    obtain ⟨hqueue, hregs⟩ := ((s.dropQ i).count MSH_TX_FAIL 1).noteUnsent_kept q.hop
    exact ⟨_, State.attemptFailed_drops hq hr, hqueue, (State.num_congr hregs _).trans (State.num_setNum _ _ _)⟩
  case expired => exact fun s hs => ⟨_, exec_pendingExpired hs, rfl, State.num_setNum _ _ _⟩
  case rejected =>
    intro i n q l a p st s hn hc hq hl hp
    obtain ⟨hmsh, hnum⟩ := s.daoRejected_kept i st n p
    refine ⟨_, State.dao_rejected a hn hc hq hl hp, (State.num_meshSend _ _ _ _).trans hnum, ?_⟩
    exact (State.nodes_of_tables (State.meshSend_tables _ _ _)).trans (congrArg Mesh.nodes hmsh)
  case departs =>
    intro i n s hs hnodes hj hp
    have hn : s.node? i = some n := by simp [State.node?, hnodes, tget]
    have hover : s.pathsOver = [i] := by simp [State.pathsOver, hnodes, hj, hp]
    rw [exec_pathExpiry hs, hover]
    exact congrArg _ (State.expirePath_joined hn hj)
  case fires =>
    intro c k s hk hr hd
    simp [exec_dioTrickle_open hk, hr, hd]
  case early =>
    intro c k s hk h
    have hoff : (s.meshRuns && decide (k.dioFrom + s.trickleLen k / 2 ≤ s.sn)) = false := by
      rcases h with hr | hd
      · simp [hr]
      · simp [Nat.not_le.mpr hd]
    simp [exec_dioTrickle_open hk, hoff]
  case confirmed =>
    intro x m p n g a b u s hs hx hb hm hn hg
    refine ⟨_, exec_rekeyAck_cluster hs hx hb hm, ?_⟩
    rw [State.node?_modNode _ hn, State.confirmKey, hg]
  case switched =>
    intro i k g sl a s hs hv hc hk ha
    refine ⟨_, exec_clusterKeySwitch hs, ?_⟩
    rw [hv, hc]
    refine (congrArg (fun t => t.msh.clusters) (State.switchKey_reached hk ha)).trans ?_
    rw [State.record_msh]
    exact State.clusters_modCluster_single _ hc
  case values =>
    intro x m p n u s hs hx hb hn
    refine ⟨_, exec_values_message hs hx hb, ?_⟩
    rw [State.node?_congr (congrArg Mesh.nodes (State.meshItem_kept _ _ _ _).1), State.node?_modNode _ hn]
    rfl
  case reassembly => exact fun s hs => ⟨_, exec_reassemblyTimeout hs, rfl, State.num_setNum _ _ _⟩

end Sys2Proof.Machine

/-! PROOFS. The mesh network and updates family: images, campaigns and their commands, the end of a round, a node's report. -/

namespace Sys2Proof.Machine

open Sys2Proof

/-! ### Images (R300, R308) -/

/-- The sizes in an image's header agree (R300): LENGTH, BLK and NBLK. -/
structure SizesAgree (b : List Byte) : Prop where
  lengthPos : 1 ≤ leAt b 16 4
  lengthMax : leAt b 16 4 ≤ 8388608
  blkMin : 16 ≤ leAt b 20 2
  blkMax : leAt b 20 2 ≤ 1024
  blkEven : leAt b 20 2 % 16 = 0
  nblk : leAt b 24 4 = (leAt b 16 4 + leAt b 20 2 - 1) / leAt b 20 2
  nblkMax : leAt b 24 4 ≤ 32768

theorem imageFault_kind {b : List Byte} (n : Nat) (h : slice b 0 4 ≠ ascii "GWUP" ∨ leAt b 4 2 ≠ 1) : imageFault b n = some 1 := by
  unfold imageFault
  exact if_pos (by simpa using h)

/-- With a sound header the hash alone decides. -/
theorem imageFault_header {b : List Byte} {n : Nat} (hm : slice b 0 4 = ascii "GWUP") (hf : leAt b 4 2 = 1) (hs : SizesAgree b)
    (hn : n = 128 + leAt b 16 4) :
    imageFault b n = if Config.sha256 (slice b 128 (leAt b 16 4)) = slice b 32 32 then none else some 4 := by
  obtain ⟨hpos, hmax, hmin, hblk, heven, hnblk, hcount⟩ := hs
  have hsizes : (leAt b 16 4 = 0 || decide (8388608 < leAt b 16 4) || decide (leAt b 20 2 < 16) || decide (1024 < leAt b 20 2) ||
      leAt b 20 2 % 16 != 0 || leAt b 24 4 != (leAt b 16 4 + leAt b 20 2 - 1) / leAt b 20 2 || decide (32768 < leAt b 24 4)) = false := by
    simp [← hnblk, Nat.one_le_iff_ne_zero.mp hpos, hmax, hmin, hblk, heven, hcount]
  unfold imageFault
  simp [hm, hf, hsizes, hn]

theorem imageFault_none {b : List Byte} {n : Nat} (h : imageFault b n = none) : slice b 0 4 = ascii "GWUP" ∧ leAt b 4 2 = 1 ∧
    n = 128 + leAt b 16 4 ∧ Config.sha256 (slice b 128 (leAt b 16 4)) = slice b 32 32 := by
  unfold imageFault at h
  dsimp only at h
  split at h
  · cases h
  next hkind =>
    split at h
    · cases h
    split at h
    · cases h
    next hlen =>
      split at h
      · cases h
      next hhash =>
        obtain ⟨hm, hf⟩ : slice b 0 4 = ascii "GWUP" ∧ leAt b 4 2 = 1 := by simpa using hkind
        exact ⟨hm, hf, not_not.mp hlen, by simpa using hhash⟩

/-- The image that a buffer gives (R300). -/
def imageOf (b : List Byte) : Image :=
  { id := leAt b 6 2, hwClass := leAt b 8 4, fwVersion := leAt b 12 4, blk := leAt b 20 2, nblk := leAt b 24 4,
    header := slice b 0 128, body := slice b 128 (leAt b 16 4) }

/-- A sound image is held, unless its ID is 0 or known, or four are held. -/
def State.holdImage (s : State) (m : Image) : CmdRes :=
  if m.id = 0 then s.fail 0x10 1
  else if s.msh.images.any (fun x => x.id == m.id) then s.fail stCONFLICT m.id
  else if 4 ≤ s.msh.images.length then s.fail 0x12
  else (s.setMsh { s.msh with images := s.msh.images ++ [m] }).showMesh.ok (m.id + 2 ^ 16 * m.nblk)

theorem State.holdImage_new {s : State} {m : Image} (h0 : m.id ≠ 0) (hnew : ∀ x ∈ s.msh.images, x.id ≠ m.id)
    (hroom : s.msh.images.length < 4) :
    s.holdImage m = (s.setMsh { s.msh with images := s.msh.images ++ [m] }).showMesh.ok (m.id + 2 ^ 16 * m.nblk) := by
  have hany : s.msh.images.any (fun x => x.id == m.id) = false := by simpa using hnew
  simp [State.holdImage, h0, hany, Nat.not_le.mpr hroom]

/-- What UPD_IMAGE_LOAD answers. -/
def State.loadImage (s : State) (b : List Byte) (n : Nat) : CmdRes :=
  match imageFault b n with
  | some c => s.fail 0x10 c
  | none => s.holdImage (imageOf b)

/-- What UPD_IMAGE_DROP answers. -/
def State.dropImage (s : State) (i : Nat) : CmdRes :=
  if s.msh.images.any fun m => m.id == i then
    (if s.msh.campaigns.any (fun c => c.running && c.image == i) then s.fail 0x13
    else (s.setMsh { s.msh with images := s.msh.images.filter fun m => m.id != i }).showMesh.ok)
  else s.fail 0x11

theorem State.dropImage_idle {s : State} {i : Nat} (hheld : ∃ m ∈ s.msh.images, m.id = i)
    (hidle : ∀ c ∈ s.msh.campaigns, c.running = true → c.image ≠ i) :
    s.dropImage i = (s.setMsh { s.msh with images := s.msh.images.filter fun m => m.id != i }).showMesh.ok := by
  have hany : (s.msh.images.any fun m => m.id == i) = true := by simpa using hheld
  have hbusy : (s.msh.campaigns.any fun c => c.running && c.image == i) = false := by simpa using hidle
  simp [State.dropImage, hany, hbusy]

section
variable {d : Desc} {s : State} (h : Runs s d)
include h

theorem exec_updImageLoad : exec (.updImageLoad d) s = .next (s.finish d (s.loadImage d.buf d.bufLen)) := h.next_command rfl

theorem exec_updImageLoad_fault {c : Nat} (hc : imageFault d.buf d.bufLen = some c) :
    exec (.updImageLoad d) s = .next (s.finish d (s.fail 0x10 c)) := by
  rw [exec_updImageLoad h, State.loadImage, hc]

theorem exec_updImageLoad_sound (hc : imageFault d.buf d.bufLen = none) :
    exec (.updImageLoad d) s = .next (s.finish d (s.holdImage (imageOf d.buf))) := by
  rw [exec_updImageLoad h, State.loadImage, hc]

theorem exec_updImageDrop : exec (.updImageDrop d) s = .next (s.finish d (s.dropImage (d.op 32 2))) := by
  refine h.next_command ?_
  unfold State.dropImage
  dsimp only
  cases s.msh.images.any fun m => m.id == d.op 32 2 <;> rfl

end

/-! ### Campaigns and their commands (R303, R308) -/

/-- The campaign that UPD_CAMPAIGN_START starts. -/
def State.campaignOf (s : State) (d : Desc) (m : Image) : Campaign :=
  { id := d.op 36 2, image := m.id, maxRounds := d.op 35 1, factor := if d.op 38 1 = 0 then 24 else d.op 38 1, minimum := d.op 39 1,
    clusters := (s.maskClusters d.buf).map fun c => { cluster := c, left := m.nblk },
    targets := s.firstTargets m (bit (d.op 34 1) 0) (s.maskClusters d.buf) }

/-- A campaign joins those of the unit. -/
def State.addCampaign (s : State) (x : Campaign) : State := s.setMsh { s.msh with campaigns := s.msh.campaigns ++ [x] }

/-- A running campaign has the image or a cluster that the command names. -/
def State.campaignBusy (s : State) (d : Desc) : Bool :=
  s.msh.campaigns.any fun c =>
    c.running && (c.image == d.op 32 2 || c.clusters.any fun k => !k.ended && (s.maskClusters d.buf).contains k.cluster)

/-- What UPD_CAMPAIGN_START answers while MAX_DEPTH is above 1. -/
def State.startCampaign (s : State) (d : Desc) : CmdRes :=
  match s.msh.images.find? fun m => m.id == d.op 32 2 with
  | none => s.fail 0x11
  | some m =>
    if s.msh.campaigns.any (fun c => c.id == d.op 36 2) then s.fail stCONFLICT (d.op 36 2)
    else if s.campaignBusy d then s.fail 0x13
    else match (s.maskClusters d.buf).find? fun c => s.tooNarrow c (12 + max m.blk 64) with
      | some c => s.fail stREFUSED c
      | none => (s.addCampaign (s.campaignOf d m)).showMesh.ok (s.campaignOf d m).targets.length

theorem State.startCampaign_new {s : State} {d : Desc} {m : Image} (hm : (s.msh.images.find? fun m => m.id == d.op 32 2) = some m)
    (hnew : ∀ c ∈ s.msh.campaigns, c.id ≠ d.op 36 2) (hidle : s.campaignBusy d = false)
    (hwide : ∀ c ∈ s.maskClusters d.buf, s.tooNarrow c (12 + max m.blk 64) = false) :
    s.startCampaign d = (s.addCampaign (s.campaignOf d m)).showMesh.ok (s.campaignOf d m).targets.length := by
  have hany : (s.msh.campaigns.any fun c => c.id == d.op 36 2) = false := by simpa using hnew
  have hfind : ((s.maskClusters d.buf).find? fun c => s.tooNarrow c (12 + max m.blk 64)) = none := by simpa using hwide
  simp [State.startCampaign, hm, hany, hidle, hfind]

theorem State.campaignBusy_idle {s : State} {d : Desc} (h : ∀ c ∈ s.msh.campaigns, c.running = true →
    c.image ≠ d.op 32 2 ∧ ∀ k ∈ c.clusters, k.ended = true ∨ k.cluster ∉ s.maskClusters d.buf) : s.campaignBusy d = false := by
  refine List.any_eq_false.mpr fun c hc hbusy => ?_
  obtain ⟨hrun, hused⟩ := Bool.and_eq_true_iff.mp hbusy
  obtain ⟨himage, hclusters⟩ := h c hc hrun
  rcases Bool.or_eq_true_iff.mp hused with hsame | hshared
  · exact himage (beq_iff_eq.mp hsame)
  · obtain ⟨k, hk, hopen⟩ := List.any_eq_true.mp hshared
    rcases hclusters k hk with hended | hout
    · simp [hended] at hopen
    · simp [hout] at hopen

/-- A campaign no longer runs. -/
def State.stopCampaign (s : State) (i : Nat) : State :=
  s.setMsh { s.msh with campaigns := s.msh.campaigns.map fun c => if c.id = i then { c with running := false } else c }

section
variable {d : Desc} {s : State} (h : Runs s d)
include h

theorem exec_updCampaignStart_deep (hd : s.maxDepth ≠ 1) : exec (.updCampaignStart d) s = .next (s.finish d (s.startCampaign d)) :=
  h.next_command (if_neg hd)

theorem exec_updCampaignStart_locked (hd : s.maxDepth = 1) : exec (.updCampaignStart d) s = .next (s.finish d (s.fail stLOCKED)) :=
  h.next_command (if_pos hd)

theorem exec_updCampaignStop_known {c : Campaign} (hc : c ∈ s.msh.campaigns) (hid : c.id = d.op 32 2) :
    exec (.updCampaignStop d) s = .next (s.finish d (s.stopCampaign (d.op 32 2)).showMesh.ok) := by
  have hany : (s.msh.campaigns.any fun c => c.id == d.op 32 2) = true := List.any_eq_true.mpr ⟨c, hc, beq_iff_eq.mpr hid⟩
  exact h.next_command (if_neg (by simp [hany]))

theorem exec_updCampaignStop_unknown (hc : ∀ c ∈ s.msh.campaigns, c.id ≠ d.op 32 2) :
    exec (.updCampaignStop d) s = .next (s.finish d (s.fail stREFUSED)) := by
  have hany : (s.msh.campaigns.any fun c => c.id == d.op 32 2) = false := by simpa using hc
  exact h.next_command (if_pos (by simp [hany]))

theorem exec_updQuery_known {x : Campaign} (hx : (s.msh.campaigns.find? fun c => c.id == d.op 32 2) = some x) :
    exec (.updQuery d) s = .next (s.finish d (s.answer d (leBytes 2 x.id ++ leBytes 2 x.image ++ leBytes 1 (b2n x.running) ++
      leBytes 1 (x.clusters.foldl (fun n k => max n k.round) 0) ++ leBytes 2 0 ++ leBytes 4 x.targets.length ++
      leBytes 4 (s.reported x [1, 4]).length ++ leBytes 4 (s.reported x [2, 3]).length ++
      leBytes 4 (x.clusters.foldl (fun n k => max n k.nextEsi) 0) ++ leBytes 8 0))) :=
  h.next_command (by rw [hx])

theorem exec_updQuery_unknown (hc : ∀ c ∈ s.msh.campaigns, c.id ≠ d.op 32 2) :
    exec (.updQuery d) s = .next (s.finish d (s.fail stREFUSED)) := by
  have hfind : (s.msh.campaigns.find? fun c => c.id == d.op 32 2) = none := by simpa using hc
  exact h.next_command (by rw [hfind])

end

/-! ### The end of a round (R303) -/

/-- The update of a cluster ends. -/
def CampCluster.over (k : CampCluster) : CampCluster := { k with ended := true }

/-- The next round of a cluster, with `n` symbols. -/
def CampCluster.nextRound (n : Nat) (k : CampCluster) : CampCluster := { k with round := k.round + 1, left := n, hdr := 2, gap := none }

/-- A cluster of a running campaign whose report gap has lasted a slotframe ends, or starts its next round. -/
def State.endRound (s : State) (x : Campaign) (k : CampCluster) : State :=
  match k.gap with
  | none => s
  | some g =>
    if k.ended || decide (s.asn < g + s.sfLen) then s
    else if s.clusterDone x k.cluster || decide (x.maxRounds ≤ k.round) then s.modCamp x.id k.cluster CampCluster.over
    else s.modCamp x.id k.cluster (CampCluster.nextRound (s.roundSize x k.cluster))

/-- The rounds of a campaign's clusters end, and with the last cluster the campaign. -/
def State.endRounds (s : State) (x : Campaign) : State :=
  if !x.running then s else (x.clusters.foldl (fun u k => u.endRound x k) s).closeCampaign x.id

theorem exec_updateRoundEnd {s : State} (hs : s.serving = true) (hv : s.asnValid = true) :
    exec .updateRoundEnd s = .next (s.msh.campaigns.foldl State.endRounds s) := by
  change execUpdateRoundEnd s = _
  simp only [execUpdateRoundEnd, hs, hv]
  rfl

/-- In a unit's only campaign, with one cluster, that cluster's round ends. -/
theorem exec_updateRoundEnd_single {s : State} {x : Campaign} {k : CampCluster} (hs : s.serving = true) (hv : s.asnValid = true)
    (hx : s.msh.campaigns = [x]) (hr : x.running = true) (hk : x.clusters = [k]) :
    exec .updateRoundEnd s = .next ((s.endRound x k).closeCampaign x.id) := by
  rw [exec_updateRoundEnd hs hv, hx]
  simp [State.endRounds, hr, hk]

section
variable {s : State} {x : Campaign} {k : CampCluster} {g : Nat} (hg : k.gap = some g) (he : k.ended = false) (ha : g + s.sfLen ≤ s.asn)
include hg he ha

theorem State.endRound_next (hd : s.clusterDone x k.cluster = false) (hr : k.round < x.maxRounds) :
    s.endRound x k = s.modCamp x.id k.cluster (CampCluster.nextRound (s.roundSize x k.cluster)) := by
  simp [State.endRound, hg, he, Nat.not_lt.mpr ha, hd, Nat.not_le.mpr hr]

theorem State.endRound_last (hr : x.maxRounds ≤ k.round) :
    s.endRound x k = s.modCamp x.id k.cluster CampCluster.over := by
  simp [State.endRound, hg, he, Nat.not_lt.mpr ha, hr]

end

theorem State.campaigns_modCamp_single {s : State} {x : Campaign} {k : CampCluster} (f : CampCluster → CampCluster)
    (hx : s.msh.campaigns = [x]) (hk : x.clusters = [k]) :
    (s.modCamp x.id k.cluster f).msh.campaigns = [{ x with clusters := [f k] }] := by
  simp [State.modCamp, hx, hk]

section
variable {s : State} {x : Campaign} (hx : s.msh.campaigns = [x])
include hx

theorem State.closeCampaign_open (hk : (x.clusters.all fun k => k.ended) = false) : s.closeCampaign x.id = s := by
  simp [State.closeCampaign, hx, hk]

theorem State.campaigns_closeCampaign_ended (hr : x.running = true) (hk : (x.clusters.all fun k => k.ended) = true) :
    (s.closeCampaign x.id).msh.campaigns = [{ x with running := false }] := by
  simp [State.closeCampaign, hx, hr, hk]

end

/-! ### UPDATE_STATUS (R304) -/

/-- The entry of a node whose UPDATE_STATUS has come. -/
def Node.updReported (n : Node) (m : List Byte) : Node :=
  { n with updState := leAt m 6 1, updCampaign := leAt m 4 2, updMissing := leAt m 8 4 }

/-- The report goes to the host; a failed or declined update is recorded. -/
def State.tellReport (s : State) (x : MeshItem) (m : List Byte) : State :=
  let told := s.meshItem 0x5012 x.node (leBytes 4 x.node ++ leBytes 2 (leAt m 4 2) ++ leBytes 1 (leAt m 6 1) ++ leBytes 1 0 ++
    leBytes 4 (leAt m 8 4) ++ leBytes 4 (leAt m 12 4) ++ leBytes 8 x.arrival)
  if leAt m 6 1 = 2 || leAt m 6 1 = 3 then told.record EV_UPD_NODE_FAIL 0 x.node (leAt m 4 2) (leAt m 6 1) else told

/-- A cluster of a running campaign whose targets have all reported ends. -/
def State.endReported (s : State) (i camp : Nat) : State :=
  match s.node? i, s.msh.campaigns.find? fun y => y.id == camp && y.running with
  | some n, some y =>
    if (y.clusters.any fun k => k.cluster == n.cluster && !k.ended) && s.clusterDone y n.cluster then
      (s.modCamp camp n.cluster CampCluster.over).closeCampaign camp
    else s
  | _, _ => s

theorem exec_updateStatus_message {s u : State} {x : MeshItem} {p : Nat} {m : List Byte} (hs : s.serving = true)
    (hx : s.takeItem (MeshUp.isMessage 0xF0B3 0x11) = some (u, x)) (hb : x.body = .message p m) :
    exec .updateStatus s =
      .next (((u.modNode x.node fun n => n.updReported m).tellReport x m).endReported x.node (leAt m 4 2)) := by
  change execUpdateStatus s = _
  simp only [execUpdateStatus, hs, hx, hb]
  rfl

theorem State.tellReport_msh (s : State) (x : MeshItem) (m : List Byte) : (s.tellReport x m).msh = s.msh := by
  unfold State.tellReport
  extract_lets told
  have htold : told.msh = s.msh := (s.meshItem_kept _ _ _).1
  split
  · exact (told.record_msh _ _ _ _ _).trans htold
  · exact htold

theorem State.nodes_closeCampaign (s : State) (i : Nat) : (s.closeCampaign i).msh.nodes = s.msh.nodes := by
  unfold State.closeCampaign
  split
  · rfl
  · split
    · rfl
    · simp

theorem State.nodes_endReported (s : State) (i camp : Nat) : (s.endReported i camp).msh.nodes = s.msh.nodes := by
  unfold State.endReported
  split
  · split
    · exact State.nodes_closeCampaign _ _
    · rfl
  · rfl

/-- Settles O40: each clause by the lemma about its command or row; the two rounds of one cluster by what a round's end makes of the
campaign, and whether it then closes. -/
theorem updateImagesAndCampaigns : Obligations.UpdateImagesAndCampaigns := by
  refine ⟨?loads, fun d c s h => exec_updImageLoad_fault h, fun b n s => ⟨imageFault_kind n, imageFault_none⟩,
    fun d s h => exec_updImageLoad h, ?drops, fun d s h => exec_updImageDrop h, fun d s h => exec_updCampaignStart_deep h, ?starts,
    fun d s h => exec_updCampaignStart_locked h, fun d c s h => exec_updCampaignStop_known h, fun d x s h => exec_updQuery_known h,
    fun d s h hc => ⟨exec_updQuery_unknown h hc, exec_updCampaignStop_unknown h hc⟩,
    fun s => exec_updateRoundEnd, ?next, ?last, ?status⟩
  case loads =>
    intro d s h hm hf hpos hmax hmin hblk heven hnblk hcount hlen h0 hnew hroom
    have hfault := imageFault_header hm hf ⟨hpos, hmax, hmin, hblk, heven, hnblk, hcount⟩ hlen
    dsimp only
    split
    next hhash =>
      rw [exec_updImageLoad_sound h (hfault.trans (if_pos hhash)), State.holdImage_new h0 hnew hroom]
      rfl
    next hhash => exact exec_updImageLoad_fault h (hfault.trans (if_neg hhash))
  case drops =>
    intro d s h hheld hidle
    rw [exec_updImageDrop h, State.dropImage_idle hheld hidle]
  case starts =>
    intro d m s h hd hm hc hwide
    have hidle := State.campaignBusy_idle fun c hmem => (hc c hmem).2
    refine ⟨_, (exec_updCampaignStart_deep h hd).trans
      (congrArg (Host.Outcome.next <| s.finish d ·) (State.startCampaign_new hm (fun c hmem => (hc c hmem).1) hidle hwide)), ?_⟩
    simp [State.addCampaign, State.campaignOf]
  case next =>
    intro x k g s hs hv hx hr hk hg he ha hd hround
    have hcamp := State.campaigns_modCamp_single (CampCluster.nextRound (s.roundSize x k.cluster)) hx hk
    refine ⟨_, exec_updateRoundEnd_single hs hv hx hr hk, ?_⟩
    rw [State.endRound_next hg he ha hd hround]
    exact (congrArg (·.msh.campaigns) (State.closeCampaign_open hcamp (by simp [CampCluster.nextRound, he]))).trans hcamp
  case last =>
    intro x k g s hs hv hx hr hk hg he ha hround
    have hcamp := State.campaigns_modCamp_single CampCluster.over hx hk
    refine ⟨_, exec_updateRoundEnd_single hs hv hx hr hk, ?_⟩
    rw [State.endRound_last hg he ha hround]
    exact State.campaigns_closeCampaign_ended hcamp hr (by simp [CampCluster.over])
  case status =>
    intro x m p n u s hs hx hb hn
    refine ⟨_, exec_updateStatus_message hs hx hb, ?_⟩
    rw [State.node?_congr ((State.nodes_endReported _ _ _).trans (congrArg Mesh.nodes (State.tellReport_msh _ _ _))),
      State.node?_modNode _ hn]
    rfl

end Sys2Proof.Machine

/-! PROOFS. The safety family: the reset state is sound, every step keeps a sound state sound, fuses only grow and change in SETUP, the
flash moves by its commands; supplies, resets, boot, flash and fuse commands. -/

namespace Sys2Proof.Machine

open Sys2Proof

/-! ### Soundness (R382, R484, R488, R494, R495, R506) -/

/-- Settles O3: the reset state is a literal. -/
theorem resetIsSound : Obligations.ResetIsSound :=
  ⟨⟨rfl, by decide, by decide, rfl, rfl⟩, rfl, rfl, rfl, rfl, rfl, rfl, rfl, rfl⟩

/-- A command is a supply or reset row, or changes at most fuses and flash. -/
theorem exec_supplied_or_kept (c : Instr) (s : State) : Supplied s (after (exec c s) s) ∨ Kept s (after (exec c s) s) := by
  cases hm : moves c with
  | false => exact .inr (kept_of_fixed (exec_fixed c s hm))
  | true =>
    unfold moves at hm
    split at hm
    case h_1 => exact .inl (execPowerUp_supplied _ s)
    case h_2 => exact .inl (execResetNLow_supplied s)
    case h_3 => exact .inl (execResetRelease_supplied _ _ _ _ s)
    case h_4 => exact .inl (execMainSupplyLoss_supplied s)
    case h_5 => exact .inl (execVbatLoss_supplied s)
    case h_6 => exact .inl (execWake_supplied _ s)
    case h_7 => exact .inr (execSysFlash_kept _ _ s)
    case h_8 => exact .inr (execSysFuse_kept _ _ s)
    case h_9 => exact .inr (execJobCommit_kept _ _ _ s)
    case h_10 => exact absurd hm Bool.false_ne_true

/-- A step keeps what every command keeps: it runs one on the rest of the queue, or idles. -/
theorem step_keeps {R : State → State → Prop} {s t : State} (h : step s = .next t) (hidle : R s s)
    (hexec : ∀ c rest, s.pending = c :: rest → R s (after (exec c { s with pending := rest }) { s with pending := rest })) : R s t := by
  cases hq : s.pending with
  | nil =>
    rw [step_nil hq] at h
    cases h
    exact hidle
  | cons c rest =>
    have hs : s = { s with pending := c :: rest } := by rw [← hq]
    rw [hs, step_cons] at h
    rw [← after_of_next (s := { s with pending := rest }) h]
    exact hexec c rest hq

/-- Settles O4: a supply or reset row and a change of fuses or flash each keep the parts of the invariant. -/
theorem everyStepKeepsTheInvariant : Obligations.EveryStepKeepsTheInvariant := by
  intro s t hinv h
  refine step_keeps (R := fun s t => Inv s → Inv t) h id (fun c rest _ hinv => ?_) hinv
  have hrest : Inv { s with pending := rest } := ⟨hinv.slots, hinv.antiroll, hinv.boot, hinv.supply, hinv.flash⟩
  rcases exec_supplied_or_kept c { s with pending := rest } with hk | hk
  · exact inv_of_supplied hk hrest
  · exact inv_of_kept hk hrest

/-- Settles O5: supply and reset rows keep the fuses, the others let them grow. -/
theorem fusesOnlyGrow : Obligations.FusesOnlyGrow := by
  intro s t h
  refine step_keeps (R := fun s t => FusesGrow s.fuses t.fuses) h (FusesGrow.refl _) fun c rest _ => ?_
  rcases exec_supplied_or_kept c { s with pending := rest } with hk | hk
  · rw [hk.fuses]
    exact FusesGrow.refl _
  · exact hk.fuses

/-! ### Fuses and flash by command (R488, R495) -/

/-- A ring command keeps a part of the fixed state that its body keeps, in the SN it runs in. -/
theorem State.command_keeps {β : Type} (g : Fixed → β) (s : State) (d : Desc) (body : State → CmdRes)
    (hb : ∀ n, g (body { s with sn := n }).st.fixed = g s.fixed) : g (s.command d body).fixed = g s.fixed := by
  have hrun : ∀ n, g (s.finish d (body { s with sn := n })).fixed = g s.fixed := fun n => by rw [State.finish_fixed, hb]
  unfold State.command
  dsimp only
  split
  · rfl
  split
  · split
    · rfl
    split
    · rw [State.computedOf_fixed]
    · exact (congrArg g (mk_fixed _)).trans (hrun _)
  split
  · rfl
  split
  · rw [State.endEarly_fixed]
  split
  · rw [State.forwardDesc_fixed]
  split
  · rfl
  split
  · rw [State.computedOf_fixed]
  · exact hrun s.sn

/-- Outside SETUP SYS_FUSE ends LOCKED and blows nothing (R488). -/
theorem execSysFuse_fuses_outside (d : Desc) (b : Option Nat) {s : State} (h : s.dev ≠ .setup) :
    (after (execSysFuse d b s) s).fuses = s.fuses := by
  unfold execSysFuse
  rw [after_next]
  refine State.command_keeps Fixed.fuses s d _ fun n => ?_
  simp only [bne_iff_ne.mpr h, if_true]
  exact congrArg Fixed.fuses (State.fail_fixed _ _ _)

/-- SYS_FLASH touches no fuse. -/
theorem execSysFlash_fuses (d : Desc) (f : Bool) (s : State) : (after (execSysFlash d f s) s).fuses = s.fuses := by
  unfold execSysFlash
  rw [after_next]
  refine State.command_keeps Fixed.fuses s d _ fun n => ?_
  dsimp only
  split
  · rfl
  split
  · exact congrArg Fixed.fuses (State.answer_fixed _ _ _ _)
  split
  · rfl
  split
  · rfl
  split <;> rfl

/-- Settles O6: SYS_FUSE ends LOCKED there, SYS_FLASH and the supply rows touch no fuse, and no other row does. -/
theorem fusesChangeInSetupAlone : Obligations.FusesChangeInSetupAlone := by
  intro c s t hdev hcommit h
  rw [← after_of_next (s := s) h]
  cases hm : moves c with
  | false => exact congrArg Fixed.fuses (exec_fixed c s hm)
  | true =>
    unfold moves at hm
    split at hm
    case h_1 => exact (execPowerUp_supplied _ s).fuses
    case h_2 => exact (execResetNLow_supplied s).fuses
    case h_3 => exact (execResetRelease_supplied _ _ _ _ s).fuses
    case h_4 => exact (execMainSupplyLoss_supplied s).fuses
    case h_5 => exact (execVbatLoss_supplied s).fuses
    case h_6 => exact (execWake_supplied _ s).fuses
    case h_7 => exact execSysFlash_fuses _ _ s
    case h_8 => exact execSysFuse_fuses_outside _ _ hdev
    case h_9 => exact absurd rfl (hcommit _ _ _)
    case h_10 => exact absurd hm Bool.false_ne_true

theorem State.fuseEnd_flash (s : State) (op slot : Nat) (good : Bool) : (s.fuseEnd op slot good).st.fixed.flash = s.sys.flash :=
  congrArg Fixed.flash (State.fuseEnd_fixed _ _ _ _)

/-- SYS_FUSE moves no byte of the boot flash. -/
theorem execSysFuse_flash (d : Desc) (b : Option Nat) (s : State) : (after (execSysFuse d b s) s).sys.flash = s.sys.flash := by
  unfold execSysFuse
  rw [after_next]
  refine State.command_keeps Fixed.flash s d _ fun n => ?_
  dsimp only
  split
  · exact congrArg Fixed.flash (State.fail_fixed _ _ _)
  split
  · split
    · exact congrArg Fixed.flash (State.fail_fixed _ _ _)
    split <;> exact State.fuseEnd_flash _ _ _ _
  · split
    · exact congrArg Fixed.flash (State.fail_fixed _ _ _)
    split
    · exact congrArg Fixed.flash (State.ok_fixed _ _)
    split <;> exact State.fuseEnd_flash _ _ _ _
  · split
    · exact congrArg Fixed.flash (State.ok_fixed _ _)
    · exact State.fuseEnd_flash _ _ _ _

/-- Settles O7: the supply rows and SYS_FUSE keep the flash, and no other row but the two left out is in `moves`. -/
theorem onlyFlashCommandsMoveTheFlash : Obligations.OnlyFlashCommandsMoveTheFlash := by
  intro c s t a hflash hcommit h
  rw [← after_of_next (s := s) h]
  refine congrArg (cget erased · a) ?_
  cases hm : moves c with
  | false => exact congrArg Fixed.flash (exec_fixed c s hm)
  | true =>
    unfold moves at hm
    split at hm
    case h_1 => exact (execPowerUp_supplied _ s).flash
    case h_2 => exact (execResetNLow_supplied s).flash
    case h_3 => exact (execResetRelease_supplied _ _ _ _ s).flash
    case h_4 => exact (execMainSupplyLoss_supplied s).flash
    case h_5 => exact (execVbatLoss_supplied s).flash
    case h_6 => exact (execWake_supplied _ s).flash
    case h_7 => exact absurd rfl (hflash _ _)
    case h_8 => exact execSysFuse_flash _ _ s
    case h_9 => exact absurd rfl (hcommit _ _ _)
    case h_10 => exact absurd hm Bool.false_ne_true

end Sys2Proof.Machine

/-! PROOFS. The safety family: supplies and resets, boot, the flash and fuse commands. -/

namespace Sys2Proof.Machine

open Sys2Proof

/-! ### Supplies and resets (R481, R492, R494, R506, R527) -/

/-- The start of the recorder moves the recorder and the free values alone (R469). -/
theorem State.startRecorder_eq (s : State) : ∃ l n, s.startRecorder = { s with log := l, free := n } := by
  unfold State.startRecorder
  split
  · exact ⟨s.log, s.free, rfl⟩
  · exact ⟨_, _, rfl⟩

/-- The state that the main supplies lead to before the recorder starts (R492). -/
def State.supplied (s : State) : State :=
  { s.reinit (if s.pins.aonSupply then 2 else 1) with pins := { s.pins with mainSupply := true, aonSupply := true, resetN := false } }

theorem State.powerOn_awake {s : State} (h : s.dev ≠ .dormant) : s.powerOn = s.supplied.startRecorder := by
  unfold State.powerOn
  simp only [h, if_false]
  rfl

/-- A DORMANT device notes the cause of its waking (R494). -/
theorem State.powerOn_dormant {s : State} (h : s.dev = .dormant) : s.powerOn = (s.supplied.startRecorder.put SYS_WAKE_CAUSE_BITS
    (s.supplied.startRecorder.get SYS_WAKE_CAUSE_BITS / 4 * 4 + 1)).record EV_STATE_CHANGE 0 DevState.dormant.code
      DevState.reset.code 0 := by
  unfold State.powerOn
  simp only [h, if_true]
  rfl

/-- What the rows of the supplies read of a state after `powerOn`. -/
structure PoweredOn (s t : State) : Prop where
  dev : t.dev = .reset
  sn : t.sn = 0
  stroked : t.stroked = false
  pins : t.pins = { s.pins with mainSupply := true, aonSupply := true, resetN := false }
  kind : t.sys.kind = if s.pins.aonSupply then 2 else 1
  fuses : t.fuses = s.fuses
  flash : t.sys.flash = s.sys.flash

theorem State.poweredOn (s : State) : PoweredOn s s.powerOn := by
  obtain ⟨l, n, he⟩ := s.supplied.startRecorder_eq
  by_cases h : s.dev = .dormant
  · rw [State.powerOn_dormant h, he]
    exact ⟨rfl, rfl, rfl, rfl, rfl, rfl, rfl⟩
  · rw [State.powerOn_awake h, he]
    exact ⟨rfl, rfl, rfl, rfl, rfl, rfl, rfl⟩

theorem exec_powerUp_off {s : State} (v : Bool) (hm : s.pins.mainSupply = false) :
    exec (.powerUp v) s = .next ({ s with pins := { s.pins with vbat := v } } : State).powerOn := by
  change execPowerUp v s = _
  simp [execPowerUp, hm]

/-- RESET_N is low. -/
def State.pinLow (s : State) : State := { s with pins := { s.pins with resetN := false } }

section
variable {s : State} (hm : s.pins.mainSupply = true)
include hm

theorem exec_resetNLow_awake (hr : s.dev ≠ .reset) (hd : s.dev ≠ .dormant) :
    exec .resetNLow s = .next (s.pinLow.resetHeld 3) := by
  change execResetNLow s = _
  simp [execResetNLow, State.pinLow, hm, hr, hd]

theorem exec_resetNLow_dormant (hd : s.dev = .dormant) : exec .resetNLow s = .next s.pinLow.wakeByPin := by
  change execResetNLow s = _
  simp [execResetNLow, State.pinLow, hm, hd]
end

section
variable {s : State} (hm : s.pins.mainSupply = true) (hr : s.dev = .reset)
include hm hr

/-- The rising edge of RESET_N samples the straps (R484). -/
def State.sampled (s : State) (x : Straps) : State := { s with pins := { s.pins with resetN := true }, straps := x }

theorem exec_resetRelease_boot (b : Nat) (p q : Bool) (hn : s.pins.resetN = false) :
    exec (.resetRelease b p q false) s = .next ((s.sampled ⟨b % 4, p, q, false⟩).startRecorder.setDev .boot) := by
  change execResetRelease b p q false s = _
  simp [execResetRelease, hm, hr, hn, State.sampled]

theorem exec_resetRelease_test (b : Nat) (p q : Bool) (hn : s.pins.resetN = false) :
    exec (.resetRelease b p q true) s = .next (s.sampled ⟨b % 4, p, q, true⟩) := by
  change execResetRelease b p q true s = _
  simp [execResetRelease, hm, hr, hn, State.sampled]
end

theorem exec_commandedReset_live {s : State} (h : s.mainLive = true) : exec .commandedReset s = .next (s.resetHeld 4) := by
  change execCommandedReset s = _
  simp [execCommandedReset, h]

theorem exec_dormantCommand_serving {s : State} (h : s.serving = true) : exec .dormantCommand s = .next s.enterDormant := by
  change execDormantCommand s = _
  simp [execDormantCommand, h]

/-- A serving device enters DORMANT on VBAT when the main supplies go (R494). -/
theorem exec_mainSupplyLoss_vbat {s : State} (hm : s.pins.mainSupply = true) (hv : s.pins.vbat = true) (hs : s.serving = true) :
    exec .mainSupplyLoss s =
      .next { s.enterDormant with pins := { s.enterDormant.pins with mainSupply := false } } := by
  have hd : s.dev ≠ .dormant := fun h => by simp [State.serving, h] at hs
  change execMainSupplyLoss s = _
  simp [execMainSupplyLoss, hm, hv, hs, hd]

theorem State.enterDormant_pins (s : State) : s.enterDormant.pins = s.pins := congrArg Fixed.pins (State.enterDormant_fixed s)

theorem exec_mainSupplyLoss_dark {s : State} (hm : s.pins.mainSupply = true) (hv : s.pins.vbat = false) :
    exec .mainSupplyLoss s =
      .next (State.loseAon { s.reinit 2 with pins := { s.pins with mainSupply := false, aonSupply := false, resetN := false } }) := by
  change execMainSupplyLoss s = _
  simp [execMainSupplyLoss, State.unpowered, hm, hv]

theorem exec_wake_main {s : State} (hd : s.dev = .dormant) (hm : s.pins.mainSupply = false) :
    exec (.wake true) s = .next s.powerOn := by
  change execWake true s = _
  simp [execWake, hm, hd]

theorem exec_wake_pin {s : State} (hd : s.dev = .dormant) (hm : s.pins.mainSupply = true) :
    exec (.wake false) s = .next s.pinLow.wakeByPin := by
  change execWake false s = _
  simp [execWake, State.pinLow, hm, hd]

theorem exec_vbatLoss_dark {s : State} (hm : s.pins.mainSupply = false) :
    exec .vbatLoss s = .next (State.loseAon { s with pins := { s.pins with vbat := false } }) := by
  change execVbatLoss s = _
  simp [execVbatLoss, hm]

/-- The registers of AON have their reset values once its supply is lost (R506). -/
theorem State.rd_loseAon (s : State) {a : Nat} (h : a ∈ aonRegs) : s.loseAon.rd a = regReset a := by
  unfold State.loseAon State.rd cget
  rw [tget_filter s.regs (fun k => !aonRegs.contains k) a]
  simp [h]

/-- Settles O11: each clause by the lemma about its row, and what it reads of the state that the row answers. -/
theorem suppliesAndResetsMoveTheDevice : Obligations.SuppliesAndResetsMoveTheDevice := by
  refine ⟨?powerUp, ?resetN, ?release, ?test, ?key, ?dormant, ?lossVbat, ?lossDark, ?wakeMain, ?wakePin, ?vbat, ?vbatMain⟩
  case powerUp =>
    intro v s hm
    obtain ⟨hdev, hsn, hstroked, hpins, hkind, hfuses, hflash⟩ := State.poweredOn { s with pins := { s.pins with vbat := v } }
    exact ⟨_, exec_powerUp_off v hm, hdev, hsn, hstroked, hpins, hkind, hfuses, hflash⟩
  case resetN =>
    intro s hm hr
    by_cases hd : s.dev = .dormant
    · exact ⟨_, exec_resetNLow_dormant hm hd, rfl, rfl, rfl, rfl, rfl, rfl, rfl⟩
    · exact ⟨_, exec_resetNLow_awake hm hr hd, rfl, rfl, rfl, rfl, rfl, rfl, rfl⟩
  case release =>
    intro b p q s hm hr hn
    obtain ⟨l, n, he⟩ := (s.sampled ⟨b % 4, p, q, false⟩).startRecorder_eq
    refine ⟨_, exec_resetRelease_boot hm hr b p q hn, State.setDev_dev _ _, ?_, ?_⟩
    · rw [State.setDev_straps, he]
      rfl
    · rw [State.setDev_pins, he]
      rfl
  case test =>
    intro b p q s hm hr hn
    exact ⟨_, exec_resetRelease_test hm hr b p q hn, hr, rfl⟩
  case key =>
    intro s h
    exact ⟨_, exec_commandedReset_live h, rfl, rfl, rfl, rfl, rfl⟩
  case dormant =>
    intro s h
    exact ⟨_, exec_dormantCommand_serving h, rfl, rfl, rfl, rfl, rfl, State.get_put _ _ _ (by decide)⟩
  case lossVbat =>
    intro s hm hv hs
    exact ⟨_, exec_mainSupplyLoss_vbat hm hv hs, rfl, rfl, (congrArg Pins.vbat s.enterDormant_pins).trans hv⟩
  case lossDark =>
    intro s hm hv
    refine ⟨_, exec_mainSupplyLoss_dark hm hv, rfl, ?_, rfl⟩
    simp [State.loseAon, hv]
  case wakeMain =>
    intro s hd hm
    refine ⟨_, exec_wake_main hd hm, (State.poweredOn s).dev, congrArg Pins.mainSupply (State.poweredOn s).pins, ?_⟩
    rw [State.powerOn_dormant hd, State.record_get, State.get_put _ _ _ (by decide)]
    simp only [SYS_WAKE_CAUSE_BITS]
    omega
  case wakePin =>
    intro s hd hm
    refine ⟨_, exec_wake_pin hd hm, rfl, rfl, ?_⟩
    rw [State.wakeByPin, State.get_put _ _ _ (by decide)]
    simp only [SYS_WAKE_CAUSE_BITS]
    omega
  case vbat =>
    intro s hm
    exact ⟨_, exec_vbatLoss_dark hm, rfl, rfl, rfl, rfl, rfl, fun a ha => State.rd_loseAon _ ha⟩
  case vbatMain =>
    intro s hm
    change execVbatLoss s = _
    simp [execVbatLoss, hm]

/-! ### Boot (R487, R489, R491) -/

theorem exec_boot_first {s : State} (t0 t1 : Bool) (m : Nat) (z : Option Nat) (ms g : Nat) (k : Option (List Byte)) (hd : s.dev = .boot)
    (h0 : (s.bootStart z ms).copyFails 0 t0 = none) :
    exec (.boot t0 t1 m z ms g k) s = .next ((s.bootStart z ms).bootRun none m g k) := by
  change execBoot t0 t1 m z ms g k s = _
  simp [execBoot, hd, h0, State.noteFail]

theorem exec_boot_second {s : State} (t0 t1 : Bool) (m : Nat) (z : Option Nat) (ms g : Nat) (k : Option (List Byte)) {f : Nat × Nat}
    (hd : s.dev = .boot) (h0 : (s.bootStart z ms).copyFails 0 t0 = some f) (h1 : (s.bootStart z ms).copyFails 1 t1 = none) :
    exec (.boot t0 t1 m z ms g k) s = .next (((s.bootStart z ms).bootFail 0 f).bootRun (some f) m g k) := by
  change execBoot t0 t1 m z ms g k s = _
  simp [execBoot, hd, h0, h1, State.noteFail]

theorem exec_boot_fails {s : State} (t0 t1 : Bool) (m : Nat) (z : Option Nat) (ms g : Nat) (k : Option (List Byte)) {f h : Nat × Nat}
    (hd : s.dev = .boot) (h0 : (s.bootStart z ms).copyFails 0 t0 = some f) (h1 : (s.bootStart z ms).copyFails 1 t1 = some h) :
    exec (.boot t0 t1 m z ms g k) s = .next ((((s.bootStart z ms).bootFail 0 f).bootFail 1 h).fatalHalt 1) := by
  change execBoot t0 t1 m z ms g k s = _
  simp [execBoot, hd, h0, h1, State.noteFail]

/-- BOOT straps 3 fail either copy, whatever the flash holds (R484, R487). -/
theorem State.copyFails_straps3 {s : State} (copy : Nat) (t : Bool) (h : s.straps.boot = 3) : s.copyFails copy t = some (7, 0xFF) := by
  simp [State.copyFails, h]

/-- A fatal halt leaves the registers outside SYSTEM's status, the stop chain's and RADIO's. -/
theorem State.num_fatalHalt (s : State) (cause : Nat) {a : Nat} (hs : a ≠ SYS_STATUS) (ht : a ≠ STP_STATUS) (hr : a / 0x10000 ≠ 10) :
    (s.fatalHalt cause).num a = s.num a := by
  unfold State.fatalHalt
  split
  · rfl
  rw [State.setDev_num _ _ _ ht hr]
  have hpwm : ∀ u : State, u.pwmLow.num a = u.num a := by
    intro u
    unfold State.pwmLow State.drivePwm
    split <;> rfl
  rw [hpwm]
  exact State.num_put_ne _ _ _ hs.symm

theorem State.bootStart_dev (s : State) (z : Option Nat) (ms : Nat) : (s.bootStart z ms).dev = s.dev := (rfl)

theorem State.num_bootStart (s : State) (z : Option Nat) (ms : Nat) : (s.bootStart z ms).num SYS_BOOT_MS = ms % 2 ^ 32 :=
  State.num_setNum (s.setNum SYS_FLASH_SIZE (z.getD 0x02000000)) SYS_BOOT_MS ms

theorem exec_dramTrainingFail_serving {s : State} (h : s.serving = true) :
    exec .dramTrainingFail s = .next ((s.put MEM_STATUS_DRAM_OK 0).fatalHalt 5) := by
  change execDramTrainingFail s = _
  simp [execDramTrainingFail, h]

/-- Settles O12: by which copies fail; with BOOT straps 3 both do. -/
theorem bootEndsInSetupOrHalt : Obligations.BootEndsInSetupOrHalt := by
  refine ⟨?copies, ?straps, ?dram⟩
  case copies =>
    intro t0 t1 m z ms g k s hd
    dsimp only
    cases h0 : (s.bootStart z ms).copyFails 0 t0 with
    | none => exact exec_boot_first t0 t1 m z ms g k hd h0
    | some f =>
      cases h1 : (s.bootStart z ms).copyFails 1 t1 with
      | none => exact exec_boot_second t0 t1 m z ms g k hd h0 h1
      | some h => exact exec_boot_fails t0 t1 m z ms g k hd h0 h1
  case straps =>
    intro t0 t1 m z ms g k s hd hb
    have hfail : ∀ c t, (s.bootStart z ms).copyFails c t = some (7, 0xFF) := fun c t => State.copyFails_straps3 c t hb
    have hdev : (((s.bootStart z ms).bootFail 0 (7, 0xFF)).bootFail 1 (7, 0xFF)).dev ≠ .halt := by
      rw [State.bootFail, State.record_dev, State.bootFail, State.record_dev, State.bootStart_dev, hd]
      decide
    refine ⟨_, exec_boot_fails t0 t1 m z ms g k hd (hfail 0 t0) (hfail 1 t1), State.fatalHalt_dev _ _,
      State.fatalHalt_cause 1 hdev, ?_⟩
    rw [State.num_fatalHalt _ _ (by decide) (by decide) (by decide), State.bootFail, State.record_num, State.bootFail,
      State.record_num, State.num_bootStart]
  case dram =>
    intro s h
    exact ⟨_, exec_dramTrainingFail_serving h, State.fatalHalt_dev _ _, State.fatalHalt_cause 5 (State.dev_ne_halt_of_serving (s := s) h)⟩

/-! ### SYS_FLASH and SYS_FUSE (R488, R495) -/

section
variable {d : Desc} {s : State} (h : Runs s d)
include h

theorem exec_sysFlash_beyond (f : Bool) (hn : s.num SYS_FLASH_SIZE < d.op 36 4 + d.op 40 4) :
    exec (.sysFlash d f) s = .next (s.finish d (s.fail 0x11)) :=
  h.next_command (by simp [hn])

theorem exec_sysFlash_read (f : Bool) (h0 : d.op 32 1 = 0) (hn : d.op 36 4 + d.op 40 4 ≤ s.num SYS_FLASH_SIZE) :
    exec (.sysFlash d f) s = .next (s.finish d (s.answer d (s.flashRead (d.op 36 4) (d.op 40 4)) (d.op 40 4))) :=
  h.next_command (by simp [h0, Nat.not_lt.mpr hn])

theorem exec_sysFlash_erase (h1 : d.op 32 1 = 1) (ho : d.op 36 4 % 0x10000 = 0) (hs : d.op 40 4 % 0x10000 = 0)
    (hn : d.op 36 4 + d.op 40 4 ≤ s.num SYS_FLASH_SIZE) :
    exec (.sysFlash d false) s = .next (s.finish d ((s.setSys { s.sys with
      flash := s.sys.flash.filter fun x => decide (x.1 < d.op 36 4) || decide (d.op 36 4 + d.op 40 4 ≤ x.1) }).ok (d.op 40 4))) :=
  h.next_command (by simp [h1, ho, hs, Nat.not_lt.mpr hn])

theorem exec_sysFuse_locked (b : Option Nat) (hd : s.dev ≠ .setup) :
    exec (.sysFuse d b) s = .next (s.finish d (s.fail stLOCKED s.fuses.antiroll)) :=
  h.next_command (by simp [hd, State.rollbackLevel])

theorem exec_sysFuse_taken (b : Option Nat) (hd : s.dev = .setup) (h0 : d.op 32 1 = 0)
    (hp : (s.fuses.slots.getD (d.op 33 1) {}).programmed = true) :
    exec (.sysFuse d b) s = .next (s.finish d (s.fail 0x12 s.fuses.antiroll)) := by
  refine h.next_command ?_
  dsimp only
  simp only [h0, hd, hp, bne_self_eq_false, Bool.false_eq_true, if_false, Bool.true_or, if_true]
  rfl

theorem exec_sysFuse_program (hd : s.dev = .setup) (h0 : d.op 32 1 = 0) (he : s.fuses.slots.getD (d.op 33 1) {} = {}) :
    exec (.sysFuse d none) s =
      .next (s.finish d ((s.setSlot (d.op 33 1) { hash := slice d.buf 0 32, programmed := true }).fuseEnd 0 (d.op 33 1) true)) := by
  refine h.next_command ?_
  dsimp only
  simp only [h0, hd, he, bne_self_eq_false, Bool.false_eq_true, if_false, Bool.or_self]

theorem exec_sysFuse_rollback (hd : s.dev = .setup) (h2 : d.op 32 1 = 2) (hl : s.fuses.antiroll < min 64 s.sys.rollback) :
    exec (.sysFuse d none) s =
      .next (s.finish d (({ s with fuses := { s.fuses with antiroll := min 64 s.sys.rollback } } : State).fuseEnd 2 0 true)) := by
  refine h.next_command ?_
  dsimp only
  simp only [h2, hd, State.rollbackLevel, Nat.not_le.mpr hl, bne_self_eq_false, Bool.false_eq_true, if_false, Option.isNone_none]
end

/-- Settles O14: each clause by the lemma about its case of the command. -/
theorem flashAndFuseCommands : Obligations.FlashAndFuseCommands := by
  refine ⟨fun d f s h => exec_sysFlash_read h f, ?erase, fun d f s h => exec_sysFlash_beyond h f,
    fun d b s h => exec_sysFuse_locked h b, ?program, fun d b s h => exec_sysFuse_taken h b, ?rollback⟩
  case erase =>
    intro d s h h1 ho hs hn
    refine ⟨_, exec_sysFlash_erase h h1 ho hs hn, fun a => ?_⟩
    have hget := tget_filter s.sys.flash (fun k => decide (k < d.op 36 4) || decide (d.op 36 4 + d.op 40 4 ≤ k)) a
    unfold cget
    rw [State.setSys_sys, hget]
    by_cases hin : d.op 36 4 ≤ a ∧ a < d.op 36 4 + d.op 40 4
    · simp [hin, Nat.not_lt.mpr hin.1, Nat.not_le.mpr hin.2, erased]
    · rw [if_neg hin, if_pos]
      simp only [Bool.or_eq_true, decide_eq_true_eq]
      omega
  case program =>
    intro d s h hd h0 he hlen
    refine ⟨_, exec_sysFuse_program h hd h0 he, ?_, fun n hn => ?_, rfl⟩
    · simp [State.setSlot, lput, hlen]
    · simp [State.setSlot, lput, List.getElem?_set_ne hn.symm]
  case rollback =>
    intro d s h hd h2 hl
    exact ⟨_, exec_sysFuse_rollback h hd h2 hl, rfl⟩

end Sys2Proof.Machine

/-! PROOFS. The Wellhouse stands apart from the main die's supplies and resets; the recorder's commands and its window. -/

namespace Sys2Proof.Machine

open Sys2Proof

/-! ### The main die's events and the Wellhouse (R405, R483, R492) -/

theorem State.startRecorder_wel (s : State) : s.startRecorder.wel = s.wel := by
  obtain ⟨l, n, he⟩ := s.startRecorder_eq
  rw [he]

theorem State.powerOn_wel (s : State) : s.powerOn.wel = s.wel := by
  by_cases h : s.dev = .dormant
  · rw [State.powerOn_dormant h, State.record_wel, State.put_wel, State.startRecorder_wel]
    rfl
  · rw [State.powerOn_awake h, State.startRecorder_wel]
    rfl

theorem State.enterDormant_wel (s : State) : s.enterDormant.wel = s.wel := by
  unfold State.enterDormant State.writeKeepAlive
  dsimp only
  rw [State.put_wel, State.put_wel, State.drawn_wel, State.setGns_wel, State.setDev_wel]

@[simp] theorem State.drivePwm_wel (s : State) (was : List Nat) : (s.drivePwm was).wel = s.wel := by
  unfold State.drivePwm
  split <;> rfl

theorem State.fatalHalt_wel (s : State) (cause : Nat) : (s.fatalHalt cause).wel = s.wel := by
  unfold State.fatalHalt
  split
  · rfl
  · rw [State.setDev_wel, State.pwmLow, State.drivePwm_wel]
    rfl

theorem State.showLoop_wel (s : State) (n : Nat) : (s.showLoop n).wel = s.wel := by
  simp only [State.showLoop, State.setNum_wel]

theorem State.loopsStart_wel (s : State) : s.loopsStart.wel = s.wel := by
  unfold State.loopsStart
  refine foldl_keeps State.wel _ _ s fun t n => ?_
  dsimp only
  split
  · exact (State.showLoop_wel _ n).trans (State.setLop_wel _ _)
  · rfl

theorem State.showDigest_wel (s : State) : s.showDigest.wel = s.wel := foldl_keeps State.wel _ _ s fun _ _ => rfl

theorem State.acceptEngage_wel (s : State) : s.acceptEngage.wel = s.wel := by
  unfold State.acceptEngage
  dsimp only
  rw [State.setDev_wel, State.setTim_wel, State.loopsStart_wel]
  simp only [apply_ite State.wel, State.put_wel, State.setGns_wel, State.showDigest_wel, State.setRings_wel, ite_self]

theorem State.refuseEngage_wel (s : State) (c o : Nat) : (s.refuseEngage c o).wel = s.wel := by
  unfold State.refuseEngage
  rw [State.record_wel, State.put_wel, State.put_wel, State.put_wel]

theorem State.showDisp_wel (s : State) : s.showDisp.wel = s.wel := by
  simp only [State.showDisp, apply_ite State.wel, State.put_wel, State.setNum_wel, ite_self]

section
variable (s : State)

theorem after_powerUp_wel (v : Bool) : (after (execPowerUp v s) s).wel = s.wel := by
  unfold execPowerUp
  rw [after_next]
  split
  · rfl
  · exact State.powerOn_wel _

theorem after_resetNLow_wel : (after (execResetNLow s) s).wel = s.wel := by
  unfold execResetNLow
  rw [after_next]
  split
  · rfl
  dsimp only
  split
  · rfl
  split <;> rfl

theorem after_resetRelease_wel (b : Nat) (i p m : Bool) : (after (execResetRelease b i p m s) s).wel = s.wel := by
  unfold execResetRelease
  rw [after_next]
  split
  · rfl
  dsimp only
  split
  · rfl
  · rw [State.setDev_wel, State.startRecorder_wel]

theorem after_commandedReset_wel : (after (execCommandedReset s) s).wel = s.wel := by
  unfold execCommandedReset
  rw [after_next]
  split <;> rfl

theorem after_dormantCommand_wel : (after (execDormantCommand s) s).wel = s.wel := by
  unfold execDormantCommand
  rw [after_next]
  split
  · exact s.enterDormant_wel
  · rfl

theorem after_mainSupplyLoss_wel : (after (execMainSupplyLoss s) s).wel = s.wel := by
  unfold execMainSupplyLoss
  rw [after_next]
  split
  · rfl
  split
  · dsimp only
    split
    · rfl
    · exact s.enterDormant_wel
  · unfold State.unpowered
    dsimp only
    split <;> rfl

theorem after_vbatLoss_wel : (after (execVbatLoss s) s).wel = s.wel := by
  unfold execVbatLoss
  rw [after_next]
  dsimp only
  split <;> rfl

theorem after_wake_wel (m : Bool) : (after (execWake m s) s).wel = s.wel := by
  unfold execWake
  rw [after_next]
  split
  · rfl
  split
  · exact s.powerOn_wel
  · rfl

theorem after_hostLinkReset_wel : (after (exec .hostLinkReset s) s).wel = s.wel := by
  cases hm : s.mainLive with
  | true =>
    rw [exec_hostLinkReset hm, after_next, State.afterLinkReset, State.showDisp_wel]
    rfl
  | false =>
    change (after (execHostLinkReset s) s).wel = s.wel
    unfold execHostLinkReset
    rw [after_next, hm]
    rfl

theorem after_coreWatchdog_wel (k : Nat) (m : Bool) : (after (execCoreWatchdog k m s) s).wel = s.wel := by
  unfold execCoreWatchdog
  rw [after_next]
  split
  · rfl
  dsimp only
  rw [apply_ite State.wel, State.record_wel, State.fatalHalt_wel, ite_self]
  rfl

theorem after_sysEngage_wel : (after (exec .sysEngage s) s).wel = s.wel := by
  by_cases hd : s.dev = .setup
  · cases he : s.engageErr with
    | none => rw [exec_sysEngage_accepted hd he, after_next, State.acceptEngage_wel]
    | some x => rw [exec_sysEngage_refused hd he, after_next, State.refuseEngage_wel]
  · change (after (execSysEngage s) s).wel = s.wel
    rw [execSysEngage, after_next, State.engage, if_pos (bne_iff_ne.mpr hd)]
end

/-- Settles O58: each clause by what its row leaves of the Wellhouse. -/
theorem mainDieEventsLeaveTheWellhouse : Obligations.MainDieEventsLeaveTheWellhouse := by
  refine ⟨fun v s => ⟨_, exec_eq_next_after _ s, after_powerUp_wel s v⟩, fun s => ⟨_, exec_eq_next_after _ s, after_resetNLow_wel s⟩,
    fun b i p m s => ⟨_, exec_eq_next_after _ s, after_resetRelease_wel s b i p m⟩,
    fun s => ⟨_, exec_eq_next_after _ s, after_commandedReset_wel s⟩, fun s => ⟨_, exec_eq_next_after _ s, after_dormantCommand_wel s⟩,
    fun s => ⟨_, exec_eq_next_after _ s, after_mainSupplyLoss_wel s⟩, fun s => ⟨_, exec_eq_next_after _ s, after_vbatLoss_wel s⟩,
    fun m s => ⟨_, exec_eq_next_after _ s, after_wake_wel s m⟩, fun s => ⟨_, exec_eq_next_after _ s, after_hostLinkReset_wel s⟩,
    fun k m s => ⟨_, exec_eq_next_after _ s, after_coreWatchdog_wel s k m⟩,
    fun s => ⟨_, exec_eq_next_after _ s, after_sysEngage_wel s⟩⟩

/-! ### The window of the recorder (R471) -/

/-- A row of registers set one after another reads what was set. -/
theorem State.num_foldl_setNum {f : Nat → Nat} (hf : Function.Injective f) (g : Nat → Nat) (l : List Nat) {k : Nat} (hk : k ∈ l)
    (s : State) : (l.foldl (fun s k => s.setNum (f k) (g k)) s).num (f k) = g k % 2 ^ 32 := by
  induction l using List.reverseRecOn with
  | nil => exact absurd hk List.not_mem_nil
  | append_singleton l j ih =>
    rw [List.foldl_append, List.foldl_cons, List.foldl_nil]
    by_cases hj : j = k
    · rw [hj, State.num_setNum]
    · rw [State.num_setNum_ne _ _ fun e => hj (hf e)]
      exact ih ((List.mem_append.mp hk).resolve_right fun h => hj (List.mem_singleton.mp h).symm)

theorem REC_WIN_DATA_injective : Function.Injective REC_WIN_DATA := by
  intro a b h
  unfold REC_WIN_DATA at h
  omega

theorem State.num_loadWindow (s : State) (b : List Byte) {k : Nat} (hk : k < 8) :
    (s.loadWindow b).num (REC_WIN_DATA k) = leAt b (4 * k) 4 % 2 ^ 32 :=
  State.num_foldl_setNum REC_WIN_DATA_injective _ _ (List.mem_range.mpr hk) s

theorem State.loadWindow_log (s : State) (b : List Byte) : (s.loadWindow b).log = s.log :=
  foldl_keeps State.log _ _ s fun _ _ => rfl

theorem leNat_replicate_zero (n : Nat) : leNat (List.replicate n 0) = 0 := by
  induction n with
  | zero => rfl
  | succ n ih => exact (Nat.zero_add _).trans (by rw [ih])

theorem leAt_nil (o n : Nat) : leAt [] o n = 0 := by
  simpa [leAt, slice] using leNat_replicate_zero n

theorem exec_windowLoad_held {v : Word} {r : Rec} {s : State} (hl : s.mainLive = true)
    (hr : s.log.store[(s.put REC_WIN_IDX_POS v.toNat).get REC_WIN_IDX_POS]? = some r) :
    exec (.windowLoad v) s = .next (((s.put REC_WIN_IDX_POS v.toNat).loadWindow (s.log.readBytes r)).count REC_DAMAGED
      (s.log.damagedIn [r])) := by
  change execWindowLoad v s = _
  simp only [execWindowLoad, hl, Bool.not_true, Bool.false_eq_true, if_false, State.put_log, hr]

theorem exec_windowLoad_past {v : Word} {s : State} (hl : s.mainLive = true)
    (hp : s.log.store.length ≤ (s.put REC_WIN_IDX_POS v.toNat).get REC_WIN_IDX_POS) :
    exec (.windowLoad v) s = .next ((s.put REC_WIN_IDX_POS v.toNat).loadWindow []) := by
  change execWindowLoad v s = _
  simp only [execWindowLoad, hl, Bool.not_true, Bool.false_eq_true, if_false, State.put_log, List.getElem?_eq_none hp]

/-! ### REC_READ, REC_RELEASE, REC_FREEZE, REC_THAW (R468, R470, R477) -/

section
variable {d : Desc} {s : State} (h : Runs s d)
include h

theorem exec_recRead_held (hf : s.log.headSeq ≤ d.op 32 4) (hl : 32 * d.op 36 4 ≤ d.bufLen) :
    let rs := (s.log.store.filter fun r => decide (d.op 32 4 ≤ r.seq)).take (d.op 36 4)
    exec (.recRead d) s = .next (s.finish d { st := s.count REC_DAMAGED (s.log.damagedIn rs), result := rs.length,
                                              bytes := rs.flatMap s.log.readBytes }) :=
  h.next_command (by simp [Nat.not_lt.mpr hf, Nat.not_lt.mpr hl])

theorem exec_recRead_short (hf : s.log.headSeq ≤ d.op 32 4) (hl : d.bufLen < 32 * d.op 36 4) :
    exec (.recRead d) s = .next (s.finish d { st := s, status := some stNO_RESOURCE, len := some (32 * d.op 36 4) }) :=
  h.next_command (by simp [Nat.not_lt.mpr hf, hl])

theorem exec_recRead_stale (hf : d.op 32 4 < s.log.headSeq) : exec (.recRead d) s = .next (s.finish d (s.fail stSTALE)) :=
  h.next_command (if_pos hf)

theorem exec_recFreeze_open (hf : s.log.frozen = false) :
    exec (.recFreeze d) s = .next (s.finish d (State.ok
      { s with log := { s.log with frozen := true, freezeSn := s.sn, frozenCount := 0, frozenFirst := none } })) :=
  h.next_command (by simp [hf])

theorem exec_recFreeze_frozen (hf : s.log.frozen = true) : exec (.recFreeze d) s = .next (s.finish d (s.fail stFROZEN)) :=
  h.next_command (if_pos hf)

theorem exec_recThaw_frozen (hf : s.log.frozen = true) :
    exec (.recThaw d) s = .next (s.finish d (({ s with log := s.log.thaw s.sn } : State).flushLog.ok s.log.frozenCount)) :=
  h.next_command (if_pos hf)

theorem exec_recThaw_open (hf : s.log.frozen = false) : exec (.recThaw d) s = .next (s.finish d (s.ok 0)) :=
  h.next_command (by simp [hf])

end

theorem exec_freezeExpiry_due {s : State} (hl : s.mainLive = true) (hf : s.log.frozen = true)
    (hn : s.log.freezeSn + s.get REC_CFG_FREEZE_MAX ≤ s.sn) :
    exec .freezeExpiry s = .next ({ s with log := s.log.thaw s.sn } : State).flushLog := by
  change execFreezeExpiry s = _
  simp [execFreezeExpiry, hl, hf, hn]

theorem exec_freezeExpiry_idle {s : State}
    (h : s.mainLive = false ∨ s.log.frozen = false ∨ s.sn < s.log.freezeSn + s.get REC_CFG_FREEZE_MAX) :
    exec .freezeExpiry s = .next s := by
  change execFreezeExpiry s = _
  unfold execFreezeExpiry
  rcases h with h | h | h
  · rw [h]
    rfl
  · simp [h]
  · simp [Nat.not_le.mpr h]

/-- Settles O53: each clause by the lemma about its command or row. -/
theorem recorderCommands : Obligations.RecorderCommands := by
  refine ⟨fun d s h => exec_recRead_held h, fun d s h => exec_recRead_stale h, fun d s h => h.next_command rfl,
    fun d s h => exec_recFreeze_open h, fun d s h hf => ⟨exec_recFreeze_frozen h hf, exec_recThaw_frozen h hf, rfl, rfl⟩,
    fun s => exec_freezeExpiry_due, fun v r s => exec_windowLoad_held, ?past, fun d s h => exec_recRead_short h,
    fun d s h => exec_recThaw_open h, fun s => exec_freezeExpiry_idle, ?dead⟩
  case past =>
    intro v s hl hp
    refine ⟨_, exec_windowLoad_past hl hp, fun k hk => ?_, State.loadWindow_log _ _⟩
    rw [State.num_loadWindow _ _ hk, leAt_nil, Nat.zero_mod]
  case dead =>
    intro v s hl
    change execWindowLoad v s = _
    simp [execWindowLoad, hl]

end Sys2Proof.Machine

/-! PROOFS. The Cistern and the Ethernet ports: intake, pause, egress, the end of a copy, FRAME_SEND; links, float hits, MDIO. -/

namespace Sys2Proof.Machine

open Sys2Proof

/-! ### Links, float hits and MDIO (R319, R331, R333) -/

theorem bit_clearBit (n i : Nat) : bit (clearBit n i) i = false := by
  unfold clearBit
  split
  next h =>
    simp only [bit, beq_iff_eq] at h
    have hle : 2 ^ i ≤ n := by
      by_contra hlt
      rw [Nat.div_eq_of_lt (not_le.mp hlt)] at h
      exact absurd h (by decide)
    obtain ⟨m, rfl⟩ := Nat.exists_eq_add_of_le' hle
    rw [Nat.add_div_right _ (Nat.two_pow_pos i)] at h
    simp only [bit, Nat.add_sub_cancel, beq_eq_false_iff_ne]
    omega
  next h => exact Bool.eq_false_iff.mpr h

section
variable {s : State} {p : Nat} (hs : s.serving = true) (hp : p < 24)
include hs hp

theorem exec_linkUp_down (he : s.flag (PRT_CFG_ENABLE p) = true) (hb : bit (s.get PRT_LINK_UP) p = false) :
    exec (.linkUp p) s = .next ((s.put PRT_LINK_UP (setBit (s.get PRT_LINK_UP) p)).record EV_LINK_UP 0 p (s.get (PRT_CFG_SPEED p)) 0) := by
  change execLinkUp p s = _
  simp [execLinkUp, hs, he, hb, Nat.not_le.mpr hp]

theorem exec_linkDown_up (hb : bit (s.get PRT_LINK_UP) p = true) :
    exec (.linkDown p) s = .next ((s.put PRT_LINK_UP (clearBit (s.get PRT_LINK_UP) p)).record EV_LINK_DOWN 0 p 0 0) := by
  change execLinkDown p s = _
  simp [execLinkDown, hs, hb, Nat.not_le.mpr hp]

end

section
variable {s : State} (v : Word) (hl : s.mainLive = true)
include hl

theorem exec_floatHitClear_hi : exec (.floatHitClear true v) s = .next (s.wr PRT_FLOAT_HIT_HI (s.rd PRT_FLOAT_HIT_HI &&& ~~~v)) := by
  change execFloatHitClear true v s = _
  simp [execFloatHitClear, hl]

theorem exec_floatHitClear_lo : exec (.floatHitClear false v) s = .next (s.wr PRT_FLOAT_HIT_LO (s.rd PRT_FLOAT_HIT_LO &&& ~~~v)) := by
  change execFloatHitClear false v s = _
  simp [execFloatHitClear, hl]

end

/-- While GO is set a write of PRT_MDIO_CMD changes nothing (log entry 40). -/
theorem State.mdioCmd_busy {s : State} (op : Nat) (v : Word) (hg : s.flag PRT_MDIO_CMD_GO = true) : s.mdioCmd op v = s :=
  if_pos (by simp [hg])

theorem State.mdioCmd_idle {s : State} {op : Nat} {v : Word} (hg : s.flag PRT_MDIO_CMD_GO = false) (ho : bitsOf v 12 2 = op) :
    s.mdioCmd op v = s.setNum PRT_MDIO_CMD (bitsOf v 0 14 + 2 ^ 15 * bitsOf v 15 1) :=
  if_neg (by simp [hg, ho])

section
variable {s : State} (v : Word) (hl : s.mainLive = true)
include hl

theorem exec_mdioAddress_live : exec (.mdioAddress v) s = .next (s.mdioCmd 0 v) := by
  change execMdioAddress v s = _
  simp [execMdioAddress, hl]

theorem exec_mdioWrite_live : exec (.mdioWrite v) s = .next (s.mdioCmd 1 v) := by
  change execMdioWrite v s = _
  simp [execMdioWrite, hl]

theorem exec_mdioReadInc_live : exec (.mdioReadInc v) s = .next (s.mdioCmd 2 v) := by
  change execMdioReadInc v s = _
  simp [execMdioReadInc, hl]

theorem exec_mdioRead_live : exec (.mdioRead v) s = .next (s.mdioCmd 3 v) := by
  change execMdioRead v s = _
  simp [execMdioRead, hl]

end

/-- The MDIO frame is over; a read cycle's answer stands in PRT_MDIO_DATA. -/
def State.mdioOver (s : State) (data : Nat) : State :=
  if 2 ≤ s.get PRT_MDIO_CMD_OP then (s.put PRT_MDIO_CMD_GO 0).put PRT_MDIO_DATA_V data else s.put PRT_MDIO_CMD_GO 0

theorem exec_mdioDone_running {s : State} (data : Nat) (hs : s.serving = true) (hg : s.flag PRT_MDIO_CMD_GO = true) :
    exec (.mdioDone data) s = .next (s.mdioOver data) := by
  change execMdioDone data s = _
  have hop : (s.put PRT_MDIO_CMD_GO 0).get PRT_MDIO_CMD_OP = s.get PRT_MDIO_CMD_OP :=
    State.get_put_apart s _ _ 0 rfl (by decide) (.inl (by decide))
  simp only [execMdioDone, hs, hg, hop, Bool.not_true, Bool.false_eq_true, if_false, State.mdioOver]

theorem State.go_mdioOver (s : State) (data : Nat) : (s.mdioOver data).flag PRT_MDIO_CMD_GO = false := by
  have hgo : (s.mdioOver data).get PRT_MDIO_CMD_GO = (s.put PRT_MDIO_CMD_GO 0).get PRT_MDIO_CMD_GO := by
    unfold State.mdioOver
    split
    · exact State.get_put_other (s.put PRT_MDIO_CMD_GO 0) PRT_MDIO_DATA_V PRT_MDIO_CMD_GO data (by decide)
    · rfl
  rw [State.flag, hgo, State.get_put _ _ _ (by decide)]
  rfl

theorem State.data_mdioOver (s : State) (data : Nat) : (s.mdioOver data).get PRT_MDIO_DATA_V =
    if 2 ≤ s.get PRT_MDIO_CMD_OP then data % 2 ^ PRT_MDIO_DATA_V.width else s.get PRT_MDIO_DATA_V := by
  unfold State.mdioOver
  split
  · exact State.get_put (s.put PRT_MDIO_CMD_GO 0) PRT_MDIO_DATA_V data (by decide)
  · exact State.get_put_other s PRT_MDIO_CMD_GO PRT_MDIO_DATA_V 0 (by decide)

/-- Settles O42: each clause by the lemma about its row. -/
theorem portsAndMdio : Obligations.PortsAndMdio := by
  refine ⟨?up, ?down, ?hits, ?address, ?write, ?readInc, ?read, ?busy, ?done⟩
  case up =>
    intro p s hs hp he hb
    refine ⟨_, exec_linkUp_down hs hp he hb, ?_, rfl⟩
    rw [State.record_get, State.get_put _ _ _ (by decide)]
  case down =>
    intro p s hs hp hb
    refine ⟨_, exec_linkDown_up hs hp hb, ?_, rfl⟩
    rw [State.record_get, State.get_put _ _ _ (by decide), bit_mod_two_pow hp, bit_clearBit]
  case hits =>
    intro v s hl
    exact ⟨⟨_, exec_floatHitClear_hi v hl, State.rd_wr_same _ _ _, State.rd_wr_ne _ _ (by decide)⟩,
      _, exec_floatHitClear_lo v hl, State.rd_wr_same _ _ _, State.rd_wr_ne _ _ (by decide)⟩
  case address =>
    intro v s hl hg ho
    rw [exec_mdioAddress_live v hl, State.mdioCmd_idle hg ho]
  case write =>
    intro v s hl hg ho
    rw [exec_mdioWrite_live v hl, State.mdioCmd_idle hg ho]
  case readInc =>
    intro v s hl hg ho
    rw [exec_mdioReadInc_live v hl, State.mdioCmd_idle hg ho]
  case read =>
    intro v s hl hg ho
    rw [exec_mdioRead_live v hl, State.mdioCmd_idle hg ho]
  case busy =>
    intro v s hl hg
    rw [exec_mdioAddress_live v hl, exec_mdioWrite_live v hl, exec_mdioReadInc_live v hl, exec_mdioRead_live v hl]
    simp only [State.mdioCmd_busy _ v hg, and_self]
  case done =>
    intro b s hs hg
    exact ⟨_, exec_mdioDone_running b hs hg, State.go_mdioOver s b, State.data_mdioOver s b⟩

/-! ### Intake of an Ethernet frame (R313, R315, R318, R322) -/

/-- A frame on an enabled port whose link is up, and which is not the mate link's. -/
structure PortOpen (s : State) (p : Nat) : Prop where
  serving : s.serving = true
  port : p < 24
  mate : s.matePort ≠ some p
  enabled : s.flag (PRT_CFG_ENABLE p) = true
  link : s.linkOf p = true

section
variable {i : EthIn} {s : State} (h : PortOpen s i.port)
include h

theorem exec_ethFrameRx_refused (hn : (s.setFill i.port i.fill).storeRx i = none) :
    exec (.ethFrameRx i) s = .next (((s.setFill i.port i.fill).admitDrop i.port).weighPause i.port) := by
  obtain ⟨hs, hp, hm, he, hl⟩ := h
  change execEthFrameRx i s = _
  simp [execEthFrameRx, hs, hm, he, hl, hn, Nat.not_le.mpr hp]

theorem exec_ethFrameRx_stored {id : Nat} {f : Frame} {v : Verdict} {k : Option Nat} {u w x y : State}
    (hu : (s.setFill i.port i.fill).storeRx i = some (u, id))
    (hw : w = ((u.count (PRT_RX_FRAMES i.port) 1).modFrame id fun f =>
      { f with stamps := (u.count (PRT_RX_FRAMES i.port) 1).stampsOf i }).parityFails i.parity)
    (hf : w.frame? id = some f) (hx : w.lookup f = (x, v))
    (hy : x.intakeFault i (!((s.setFill i.port i.fill).storeFrame i.port ((s.setFill i.port i.fill).classOf i.port i.bytes)
      (i.bytes.take ((s.setFill i.port i.fill).get (PRT_CFG_MAX_FRAME i.port) - 4)) false
      ((tagOf i.bytes).map fun x => x.1)).isSome) = (y, k)) :
    exec (.ethFrameRx i) s =
      .next ((match k with | none => y.rxGood i id f v | some c => y.rxBad i id c f v).weighPause i.port) := by
  obtain ⟨hs, hp, hm, he, hl⟩ := h
  subst hw
  change execEthFrameRx i s = _
  simp only [execEthFrameRx, hs, hm, he, hl, Nat.not_le.mpr hp, Bool.not_true, Bool.false_eq_true, decide_false, if_false,
    Bool.or_self, hu, hf, hx, hy]
  all_goals (cases k <;> rfl)

end

/-! ### Pause (R316, R317) -/

theorem exec_pauseRefresh_due {s : State} {p : Nat} (hs : s.serving = true)
    (hd : tgetD s.net.xoffSn p 0 + s.get CIS_CFG_XOFF_REFRESH ≤ s.now) :
    let u := if s.get (CIS_PFC_STAT_XOFF p) = 0 then s else s.sendXoff p (s.get (CIS_PFC_STAT_XOFF p))
    exec (.pauseRefresh p) s = .next (if u.flag (CIS_PFC_STAT_PAUSE p) then u.sendXoff p 0xFF else u) := by
  change _ = _
  change execPauseRefresh p s = _
  simp [execPauseRefresh, hs, Nat.not_lt.mpr hd]

theorem exec_pauseRefresh_early {s : State} {p : Nat} (hd : s.now < tgetD s.net.xoffSn p 0 + s.get CIS_CFG_XOFF_REFRESH) :
    exec (.pauseRefresh p) s = .next s := by
  change execPauseRefresh p s = _
  simp [execPauseRefresh, hd]

section
variable {s : State} {p : Nat} (k : Nat) (qs : List Nat) (a : Nat) (hs : s.serving = true) (hp : p < 24 ∨ p = 43)
include hs hp

theorem exec_pauseRx_all (hh : s.honours p false = true) :
    exec (.pauseRx p false k qs a) s = .next (s.setPaused p 8 (s.pauseEnd p (s.clockNs a) (qs.getD 0 0))) := by
  change execPauseRx p false k qs a s = _
  have hport : (decide (p < 24) || p == 43) = true := by simpa using hp
  simp only [execPauseRx, hs, hh, hport, Bool.not_true, Bool.or_self, Bool.false_eq_true, if_false, Bool.not_false, if_true]

theorem exec_pauseRx_classes (hh : s.honours p true = true) :
    exec (.pauseRx p true k qs a) s =
      .next ((List.range 8).foldl (fun u c => if bit k c then u.setPaused p c (s.pauseEnd p (s.clockNs a) (qs.getD c 0)) else u) s) := by
  change execPauseRx p true k qs a s = _
  have hport : (decide (p < 24) || p == 43) = true := by simpa using hp
  simp only [execPauseRx, hs, hh, hport, Bool.not_true, Bool.or_self, Bool.false_eq_true, if_false]

end

theorem State.pausedAll_setPaused (s : State) (p : Nat) (o : Option Nat) :
    (s.setPaused p 8 o).get (CIS_PFC_STAT_PAUSED_ALL p) = b2n o.isSome := by
  refine (State.get_put _ (CIS_PFC_STAT_PAUSED_ALL p) (b2n o.isSome) (by norm_num)).trans ?_
  cases o <;> rfl

theorem State.pauseEnd_isSome (s : State) (p now q : Nat) : (s.pauseEnd p now q).isSome = !decide (q = 0) := by
  unfold State.pauseEnd
  split <;> simp_all

theorem exec_pauseExpiry_over {s : State} {p c a : Nat} (hs : s.serving = true)
    (hd : (s.net.paused.any fun x => x.1 == 16 * p + c && decide (x.2 ≤ s.clockNs a)) = true) :
    exec (.pauseExpiry p c a) s = .next (s.setPaused p c none) := by
  change execPauseExpiry p c a s = _
  simp only [execPauseExpiry, hs, hd, Bool.not_true, Bool.false_eq_true, if_false, if_true]

theorem State.paused_setPaused_none (s : State) (p c : Nat) :
    (s.setPaused p c none).net.paused = s.net.paused.filter fun x => x.1 != 16 * p + c := by
  unfold State.setPaused
  dsimp only
  split <;> rfl

/-! ### Egress (R324, R349) -/

theorem exec_egressSelect_chosen {s : State} {p a c k : Nat} {g : List Nat} (hs : s.serving = true) (hb : (s.eg p).busy = none)
    (hl : s.linkOf p = true) (hm : s.matePort ≠ some p) (hc : s.choose p (s.portNow p a) = some (c, g, k)) :
    exec (.egressSelect p a) s = .next ((s.setEg p { s.eg p with deficit := g, turn := k }).startFrame p c a) := by
  change execEgressSelect p a s = _
  simp [execEgressSelect, hs, hb, hl, hm, hc]

section
variable {p a : Nat} {rd : Option (List Byte)} {er : Option CellErr} {f : Frame} {s w : State} (hs : s.serving = true)
include hs

/-- The last byte of a copy at an Ethernet port. -/
theorem exec_egressFrameEnd_eth {e : QEntry} (hp : p < 24 ∨ p = 43) (hb : (s.eg p).busy = some e)
    (hw : w = s.setEg p { s.eg p with busy := none }) (hf : w.frame? e.frame = some f) :
    let c := (w.readCopy p f rd er).2
    let v := (w.readCopy p f rd er).1.emit (.eth p e.bytes c.isNone)
    let ts := v.stampAt p true e.start
    let x := if e.ptp.isSome && c.isNone then v.ptpSent p e.bytes ts else v
    exec (.egressFrameEnd p a rd er) s = .next (((x.endDesc e.desc (if c = some 3 then stMEM_UNCORR else stOK)
      (if e.tsReq then ts % 1000000000 + 2 ^ 32 * lo32 (ts / 1000000000) else 0)).endCopy e.frame).weighPause f.ingress) := by
  subst hw
  have h40 : p ≠ 40 := by omega
  have hin : (decide (24 ≤ p) && p != 43) = false := by
    rcases hp with hp | hp
    · simp [Nat.not_le.mpr hp]
    · simp [hp]
  change execEgressFrameEnd p a rd er s = _
  simp only [execEgressFrameEnd, hs, h40, hin, hb, hf, Bool.not_true, Bool.false_eq_true, if_false]

/-- The last byte of a copy at HOST. -/
theorem exec_egressFrameEnd_host {id why : Nat} {b : List Byte} {r : List (Nat × Nat × List Byte)}
    (hq : s.net.hostq = (id, why, b) :: r) (hw : w = s.setNet { s.net with hostq := r }) (hf : w.frame? id = some f) :
    let c := w.readCopy 40 f rd er
    exec (.egressFrameEnd 40 a rd er) s = .next (((c.1.hostFrame f why b c.2).endCopy id).weighPause f.ingress) := by
  subst hw
  change execEgressFrameEnd 40 a rd er s = _
  simp only [execEgressFrameEnd, hs, hq, hf, Bool.not_true, Bool.false_eq_true, if_false, if_true]

/-- The last byte of a copy for a block inside. -/
theorem exec_egressFrameEnd_inner {x : Inner} (h24 : 24 ≤ p) (h40 : p ≠ 40) (h43 : p ≠ 43)
    (hx : (s.net.inner.find? fun x => x.port == p) = some x) (hw : w = s.setNet { s.net with inner := s.net.inner.erase x })
    (hf : w.frame? x.frame = some f) :
    let c := w.readCopy p f rd er
    exec (.egressFrameEnd p a rd er) s =
      .next (((if c.2.isNone then c.1.giveInner f a x.use else c.1).endCopy f.id).weighPause f.ingress) := by
  subst hw
  have hin : (decide (24 ≤ p) && p != 43) = true := by simp [h24, h43]
  change execEgressFrameEnd p a rd er s = _
  simp only [execEgressFrameEnd, hs, h40, hin, hx, hf, Bool.not_true, Bool.false_eq_true, if_false, if_true]

end

/-- A frame read as it was stored, verified and not damaged, is sound. -/
theorem State.readCopy_sound {s : State} (p : Nat) {f : Frame} (hf : s.frame? f.id = some f) (hb : f.bad = none)
    (hv : f.verified = true) (hc : crc32c f.bytes = f.check) : s.readCopy p f none none = (s, none) := by
  have hcause : f.stompCause f.bytes false = none := by simp [Frame.stompCause, hb, hv, hc]
  simp [State.readCopy, State.readCells, hf, hcause]

/-- Stranded cells return to the pool (R329). -/
theorem exec_cisternAudit_stranded {s : State} (hs : s.serving = true) (hn : s.net.stranded ≠ []) :
    exec .cisternAudit s = .next ((((s.setNet { s.net with stranded := [] }).count CIS_LEAK_RECOVERED s.net.stranded.length).put
      CIS_STATUS_FREE ((s.setNet { s.net with stranded := [] }).count CIS_LEAK_RECOVERED s.net.stranded.length).cellsFree).record
        EV_CELLS_RECOVERED 0 s.net.stranded.length 0 0) := by
  change execCisternAudit s = _
  simp [execCisternAudit, hs, hn]

/-! ### Further passes of the route lookup (R345) -/

/-- What becomes of a recirculated packet whose pass answers `v`: it goes on with the lengths left, or is placed, and a descriptor that
no copy holds ends. -/
def State.recircled (w : State) (x : Recirc) (a : Nat) (v : Verdict) : State :=
  match v with
  | .again c => w.setNet { w.net with recirc := w.net.recirc ++ [{ x with cand := c, pass := x.pass + 1 }] }
  | .copies (_ :: _) _ => w.place x.frame a x.launch x.desc x.desc.isSome v
  | .notAuthority => (w.place x.frame a x.launch x.desc x.desc.isSome v).endDesc x.desc stNOT_AUTHORITY 0
  | _ => (w.place x.frame a x.launch x.desc x.desc.isSome v).endDesc x.desc stOK 0

theorem exec_lpmRecirculate_pass {l : List (Nat × Nat)} {x : Recirc} {r : List Recirc} {f : Frame} {v : Verdict} (a : Nat)
    {u w s : State} (hs : s.serving = true) (hr : s.net.recirc = x :: r)
    (hu : u = (s.setNet { s.net with recirc := r }).parityFails l) (hf : u.frame? x.frame = some f)
    (hv : u.lpmPass f f.packet x.cand (x.pass + 1) = (w, v)) : exec (.lpmRecirculate l a) s = .next (w.recircled x a v) := by
  subst hu
  change execLpmRecirculate l a s = _
  simp only [execLpmRecirculate, hs, hr, hf, hv, Bool.not_true, Bool.false_eq_true, if_false]
  cases v with
  | copies c h => cases c <;> rfl
  | _ => rfl

/-! ### FRAME_SEND (R350) -/

section
variable {d : Desc} {s : State} (h : Runs s d)
include h

theorem exec_frameSend_badPort (hp : (d.op 32 1 == 1 && !s.fabricOk (d.op 33 1)) = true) :
    exec (.frameSend d) s = .next (s.finish d (s.badPort d)) :=
  h.next_command (if_pos hp)

theorem exec_frameSend_badFcs (hp : (d.op 32 1 == 1 && !s.fabricOk (d.op 33 1)) = false) (hb : bit (d.op 37 1) 0 = true)
    (hc : crc32c (slice d.buf 0 d.bufLen) ≠ d.op 40 4) : exec (.frameSend d) s = .next (s.finish d (s.fail 0x10)) :=
  h.next_command (by simp [hp, hb, hc])

end

/-- A FRAME_SEND whose port may be named, whose FCS agrees where it is given, and whose Ethernet port has its link. -/
structure SendsFrame (s : State) (d : Desc) : Prop where
  runs : Runs s d
  fcs : (bit (d.op 37 1) 0 && crc32c (slice d.buf 0 d.bufLen) != d.op 40 4) = false

section
variable {d : Desc} {s : State} (h : SendsFrame s d)
include h

theorem exec_frameSend_noLink (h1 : d.op 32 1 = 1) (hp : s.fabricOk (d.op 33 1) = true)
    (hl : (if d.op 33 1 < 24 then !s.linkOf (d.op 33 1) else d.op 33 1 != 40) = true) :
    exec (.frameSend d) s = .next (s.finish d (s.fail 0x11)) := by
  refine h.runs.next_command ?_
  by_cases hlt : d.op 33 1 < 24
  · rw [if_pos hlt] at hl
    simp only [h1, hp, h.fcs, hlt, hl, beq_self_eq_true, Bool.not_true, Bool.and_false, Bool.false_eq_true, if_false, decide_true,
      Bool.and_self, if_true]
  · rw [if_neg hlt] at hl
    simp only [h1, hp, h.fcs, hlt, hl, Nat.not_lt.mp hlt, beq_self_eq_true, Bool.not_true, Bool.and_false, Bool.false_and,
      Bool.false_eq_true, if_false, decide_true, decide_false, Bool.and_self, if_true]

/-- The port of a direct frame may be named and its link is up. -/
def State.sendOk (s : State) (p : Nat) : Prop := s.fabricOk p = true ∧ (p = 40 ∨ p < 24 ∧ s.linkOf p = true)

theorem exec_frameSend_noCells (hp : d.op 32 1 ≠ 1 ∨ s.sendOk (d.op 33 1))
    (hn : s.storeFrame 40 (d.op 36 1) (slice d.buf 0 d.bufLen) true none = none) :
    exec (.frameSend d) s = .next (s.finish d s.later) := by
  refine h.runs.next_command ?_
  rcases hp with hp | ⟨hok, hp | ⟨hp, hl⟩⟩
  · simp [hp, h.fcs, hn]
  · simp [hp ▸ hok, hp, h.fcs, hn]
  · simp [hok, hp, hl, h.fcs, hn, Nat.not_le.mpr hp]

theorem exec_frameSend_direct {id : Nat} {f : Frame} {u w : State} (h1 : d.op 32 1 = 1) (hp : s.sendOk (d.op 33 1))
    (hu : s.storeFrame 40 (d.op 36 1) (slice d.buf 0 d.bufLen) true none = some (u, id))
    (hw : w = u.modFrame id fun f => { f with vlan := d.op 34 2 }) (hf : w.frame? id = some f) :
    exec (.frameSend d) s = .next (s.finish d (w.sendPlaced d id (if d.op 33 1 = 40 then .copies [] (some (1, slice d.buf 0 d.bufLen))
      else .copies [(d.op 33 1, slice d.buf 0 d.bufLen)] none))) := by
  subst hw
  refine h.runs.next_command ?_
  obtain ⟨hok, hp | ⟨hp, hl⟩⟩ := hp
  · simp [hp ▸ hok, hp, h1, h.fcs, hu, hf]
  · simp [hok, hp, hl, h1, h.fcs, hu, hf, Nat.not_le.mpr hp]

theorem exec_frameSend_engine {id : Nat} {f : Frame} {x : State} {v : Verdict} {u w : State} (h1 : d.op 32 1 ≠ 1)
    (hu : s.storeFrame 40 (d.op 36 1) (slice d.buf 0 d.bufLen) true none = some (u, id))
    (hw : w = u.modFrame id fun f => { f with vlan := d.op 34 2 }) (hf : w.frame? id = some f) (hx : w.lookup f = (x, v)) :
    exec (.frameSend d) s = .next (s.finish d (x.sendPlaced d id v)) := by
  subst hw
  refine h.runs.next_command ?_
  simp [h1, h.fcs, hu, hf, hx]

end

/-- Settles O41: each clause by the lemma about its row or command. -/
theorem ethernetIntakeAndEgress : Obligations.EthernetIntakeAndEgress := by
  refine ⟨fun i s hs hp hm he hl => exec_ethFrameRx_refused ⟨hs, hp, hm, he, hl⟩,
    fun i id f v k u w x y s hs hp hm he hl => exec_ethFrameRx_stored ⟨hs, hp, hm, he, hl⟩,
    fun p s => exec_pauseRefresh_due, fun p s => exec_pauseRefresh_early, ?pauseAll, fun p k qs a s => exec_pauseRx_classes k qs a,
    fun p c a s hs hd => ⟨exec_pauseExpiry_over hs hd, State.paused_setPaused_none s p c⟩,
    fun p a c g k s => exec_egressSelect_chosen, fun p a rd er e f w s hs => exec_egressFrameEnd_eth hs,
    fun p f s => State.readCopy_sound p, fun id a rd er why b r f w s hs => exec_egressFrameEnd_host hs,
    fun p a rd er x f w s hs => exec_egressFrameEnd_inner hs, ?audit, ?pass,
    fun d s => exec_frameSend_badPort, fun d s => exec_frameSend_badFcs, fun d s h hc => exec_frameSend_noLink ⟨h, hc⟩,
    fun d s h hc => exec_frameSend_noCells ⟨h, hc⟩, fun d id f u w s h hc h1 hok hp => exec_frameSend_direct ⟨h, hc⟩ h1 ⟨hok, hp⟩,
    fun d id f x v u w s h hc => exec_frameSend_engine ⟨h, hc⟩⟩
  case pauseAll =>
    intro p k qs a s hs hp hh
    refine ⟨exec_pauseRx_all k qs a hs hp hh, ?_⟩
    rw [State.pausedAll_setPaused, State.pauseEnd_isSome]
    simp [b2n]
  case pass =>
    intro l x r f v a u w s hs hr hu hf hv
    rw [exec_lpmRecirculate_pass a hs hr hu hf hv]
    cases v with
    | copies c h => cases c <;> rfl
    | _ => rfl
  case audit =>
    intro s hs hn
    refine ⟨_, exec_cisternAudit_stranded hs hn, rfl, ?_, rfl⟩
    rw [State.record_num, State.num_put_ne _ _ _ (by decide)]
    exact State.num_setNum _ _ _

end Sys2Proof.Machine

/-! PROOFS. The forwarding tables: learning, holds and ageing, and the commands of the L2, VLAN, route and gate tables. -/

namespace Sys2Proof.Machine

open Sys2Proof

/-! ### Tables and their registers (R336, R339) -/

theorem State.showTables_net (s : State) : s.showTables.net = s.net := rfl

theorem State.setL2_net (s : State) (t : Tab L2) : (s.setL2 t).net = { s.net with l2 := t } := rfl

/-- The table registers are two of their own. -/
theorem State.num_setL2 (s : State) (t : Tab L2) {a : Nat} (hm : FWD_MAC_USED_N.addr ≠ a) (hr : FWD_ROUTE_USED_N.addr ≠ a) :
    (s.setL2 t).num a = s.num a := by
  rw [State.setL2, State.showTables, State.num_put_ne _ _ _ hr, State.num_put_ne _ _ _ hm]
  rfl

/-! ### Learning (R337) -/

theorem exec_learnEvent_oldest {key : List Byte} {p : Nat} {r : List (List Byte × Nat)} {s : State} (hs : s.serving = true)
    (hq : s.net.learnq = (key, p) :: r) : exec .learnEvent s = .next ((s.setNet { s.net with learnq := r }).learn key p) := by
  change execLearnEvent s = _
  simp only [execLearnEvent, hs, hq, Bool.not_true, Bool.false_eq_true, if_false]

section
variable {s : State} {key : List Byte} {p : Nat}

/-- An address on its port is refreshed. -/
theorem State.learn_refresh {i : Nat} {e : L2} (hf : s.findMac key = some i) (he : tget s.net.l2 i = some e) (hp : e.port = p) :
    s.learn key p = s.setL2 (tput s.net.l2 i { e with ts := s.fwdNow }) := by
  simp only [State.learn, hf, he, hp, if_true]

/-- A static address stays on its port. -/
theorem State.learn_denied {i : Nat} {e : L2} (hf : s.findMac key = some i) (he : tget s.net.l2 i = some e) (hp : e.port ≠ p)
    (hh : e.held = false) (hst : e.static = true) : s.learn key p = s.count FWD_MOVE_DENIED 1 := by
  simp only [State.learn, hf, he, hp, hh, hst, Bool.false_eq_true, if_false, if_true]

/-- A new address is entered where a slot is free. -/
theorem State.learn_new {t : Tab L2} (hf : s.findMac key = none)
    (hc : cuckoo l2Slots L2.key s.net.l2 { key := key, port := p, static := false, ts := s.fwdNow } = some t) :
    s.learn key p = s.setL2 t := by
  simp only [State.learn, hf, hc]

end

/-! ### Holds and ageing (R337, R342) -/

/-- HELD is over for an entry (R337). -/
def L2.unheld (e : L2) (now : Nat) : L2 :=
  if e.held && decide ((now + 65536 - e.heldUntil) % 65536 < 32768) then { e with held := false } else e

theorem exec_heldExpiry_serving {s : State} (hs : s.serving = true) :
    exec .heldExpiry s = .next (s.setL2 (s.net.l2.map fun x => (x.1, x.2.unheld s.fwdNow))) := by
  change execHeldExpiry s = _
  simp only [execHeldExpiry, hs, Bool.not_true, Bool.false_eq_true, if_false, L2.unheld]

theorem L2.held_unheld {e : L2} {now : Nat} (h : (e.unheld now).held = true) :
    32768 ≤ (now + 65536 - (e.unheld now).heldUntil) % 65536 := by
  unfold L2.unheld at h ⊢
  split at h
  next hc => exact absurd h Bool.false_ne_true
  next hc =>
    rw [if_neg hc]
    simpa [h] using hc

/-- A learned entry has reached its age at `now` (R342). -/
def L2.aged (e : L2) (age now : Nat) : Bool := age != 0 && !e.static && decide (age ≤ (now + 65536 - e.ts) % 65536)

/-- The aged entries leave and are counted. -/
def State.dropAged (u : State) : State :=
  (u.setL2 (u.net.l2.filter fun x => !x.2.aged (u.get FWD_CFG_AGE_S) u.fwdNow)).count FWD_AGED
    (u.net.l2.filter fun x => x.2.aged (u.get FWD_CFG_AGE_S) u.fwdNow).length

theorem exec_agingSweep_serving {s : State} (l : List Nat) (hs : s.serving = true) :
    exec (.agingSweep l) s = .next ((l.filter fun i => (tget s.net.l2 i).isSome).foldl (fun s i => s.parityFail 1 i) s).dropAged := by
  change execAgingSweep l s = _
  simp only [execAgingSweep, hs, Bool.not_true, Bool.false_eq_true, if_false]
  rfl

theorem State.mem_dropAged {s : State} (ha : s.get FWD_CFG_AGE_S ≠ 0) {x : Nat × L2} (h : x ∈ s.dropAged.net.l2) :
    x ∈ s.net.l2 ∧ (x.2.static = true ∨ (s.fwdNow + 65536 - x.2.ts) % 65536 < s.get FWD_CFG_AGE_S) := by
  have hf : x ∈ s.net.l2.filter fun x => !x.2.aged (s.get FWD_CFG_AGE_S) s.fwdNow := h
  obtain ⟨hmem, hold⟩ := List.mem_filter.mp hf
  refine ⟨hmem, ?_⟩
  simp only [L2.aged, bne_iff_ne.mpr ha, Bool.true_and, Bool.not_eq_true', Bool.and_eq_false_iff, Bool.not_eq_false', decide_eq_false_iff_not,
    not_le] at hold
  exact hold

theorem State.aged_dropAged (s : State) :
    s.dropAged.num FWD_AGED = (s.num FWD_AGED + (s.net.l2.length - s.dropAged.net.l2.length)) % 2 ^ 32 := by
  have hlen := List.length_eq_countP_add_countP (fun x : Nat × L2 => x.2.aged (s.get FWD_CFG_AGE_S) s.fwdNow) (l := s.net.l2)
  have hl2 : s.dropAged.net.l2 = s.net.l2.filter fun x => !x.2.aged (s.get FWD_CFG_AGE_S) s.fwdNow := rfl
  rw [hl2, State.dropAged, State.count, State.num_setNum, State.num_setL2 _ _ (by decide) (by decide)]
  simp only [List.countP_eq_length_filter, Bool.not_eq_true, Bool.decide_eq_false] at hlen
  congr 2
  omega

/-! ### The L2 table's commands (R352) -/

section
variable {d : Desc} {s : State} (h : Runs s d)
include h

/-- The entry that FWD_MAC_ADD asks for. -/
def State.macEntry (s : State) (d : Desc) : L2 :=
  { key := macKey (d.op 38 2) (slice d.ops 0 6), port := d.op 40 1, static := bit (d.op 41 1) 0, ts := s.fwdNow }

theorem exec_fwdMacAdd_badPort (hp : s.fabricOk (d.op 40 1) = false) : exec (.fwdMacAdd d) s = .next (s.finish d (s.badPort d)) :=
  h.next_command (by simp [hp])

theorem exec_fwdMacAdd_known {i : Nat} (hp : s.fabricOk (d.op 40 1) = true)
    (hf : s.findMac (macKey (d.op 38 2) (slice d.ops 0 6)) = some i) :
    exec (.fwdMacAdd d) s = .next (s.finish d (s.setL2 (tput s.net.l2 i (s.macEntry d))).ok) :=
  h.next_command (by simp only [hp, macOp, hf, Bool.not_true, Bool.false_eq_true, if_false, State.macEntry])

theorem exec_fwdMacAdd_placed {t : Tab L2} (hp : s.fabricOk (d.op 40 1) = true)
    (hf : s.findMac (macKey (d.op 38 2) (slice d.ops 0 6)) = none) (hc : cuckoo l2Slots L2.key s.net.l2 (s.macEntry d) = some t) :
    exec (.fwdMacAdd d) s = .next (s.finish d (s.setL2 t).ok) := by
  unfold State.macEntry at hc
  exact h.next_command (by simp only [hp, macOp, hf, hc, Bool.not_true, Bool.false_eq_true, if_false])

theorem exec_fwdMacAdd_full (hp : s.fabricOk (d.op 40 1) = true)
    (hf : s.findMac (macKey (d.op 38 2) (slice d.ops 0 6)) = none) (hc : cuckoo l2Slots L2.key s.net.l2 (s.macEntry d) = none) :
    exec (.fwdMacAdd d) s = .next (s.finish d (s.fail stNO_RESOURCE)) := by
  unfold State.macEntry at hc
  exact h.next_command (by simp only [hp, macOp, hf, hc, Bool.not_true, Bool.false_eq_true, if_false])

theorem exec_fwdMacDel_known {i : Nat} (hf : s.findMac (macKey (d.op 38 2) (slice d.ops 0 6)) = some i) :
    exec (.fwdMacDel d) s = .next (s.finish d (s.setL2 (tdel s.net.l2 i)).ok) :=
  h.next_command (by simp only [macOp, hf])

theorem exec_fwdMacDel_absent (hf : s.findMac (macKey (d.op 38 2) (slice d.ops 0 6)) = none) :
    exec (.fwdMacDel d) s = .next (s.finish d (s.fail 0x13)) :=
  h.next_command (by simp only [macOp, hf])

/-- An entry that FWD_MAC_FLUSH removes by its mode. -/
def Desc.flushes (d : Desc) (e : L2) : Bool :=
  match d.op 32 1 with
  | 0 => !e.static
  | 1 => !e.static && e.port == d.op 33 1
  | 2 => !e.static && leAt e.key 0 2 == d.op 34 2
  | _ => true

theorem exec_fwdMacFlush (hp : (decide (d.op 32 1 = 1) && !s.fabricOk (d.op 33 1)) = false) :
    exec (.fwdMacFlush d) s = .next (s.finish d ((s.setL2 (s.net.l2.filter fun x => !d.flushes x.2)).ok
      (s.net.l2.filter fun x => d.flushes x.2).length)) := by
  refine h.next_command ?_
  dsimp only
  rw [hp]
  rfl

theorem exec_fwdMacFlush_badPort (h1 : d.op 32 1 = 1) (hp : s.fabricOk (d.op 33 1) = false) :
    exec (.fwdMacFlush d) s = .next (s.finish d (s.badPort d)) :=
  h.next_command (by simp [h1, hp])

theorem exec_fwdMacRead :
    let l := s.net.l2.filter fun x => decide (d.op 32 4 ≤ x.1)
    exec (.fwdMacRead d) s = .next (s.finish d
      { st := s, result := (((l.drop (d.bufLen / 16)).head?).map (·.1)).getD 0xFFFFFFFF
        bytes := (l.take (d.bufLen / 16)).flatMap fun x => x.2.bytes x.1 }) := by
  refine h.next_command ?_
  dsimp only
  cases (s.net.l2.filter fun x => decide (d.op 32 4 ≤ x.1)).drop (d.bufLen / 16) <;> rfl

end

/-- What stays and what goes add up. -/
theorem length_filter_not {α : Type} (l : List α) (p : α → Bool) :
    (l.filter p).length = l.length - (l.filter fun x => !p x).length := by
  have hlen := List.length_eq_countP_add_countP p (l := l)
  simp only [List.countP_eq_length_filter, Bool.not_eq_true, Bool.decide_eq_false] at hlen
  omega

/-! ### VLANs and routes (R344, R352) -/

/-- A member or untagged set that names the mate link's own port (R22). -/
def State.namesMate (s : State) (d : Desc) : Bool :=
  match s.matePort with
  | some q => bit (d.op 36 4) q || bit (d.op 40 4) q
  | none => false

section
variable {d : Desc} {s : State} (h : Runs s d)
include h

theorem exec_fwdVlanSet_badPort (hm : s.namesMate d = true) : exec (.fwdVlanSet d) s = .next (s.finish d (s.badPort d)) :=
  h.next_command (if_pos hm)

/-- The VLAN entry that FWD_VLAN_SET asks for. -/
def Desc.vlanEntry (d : Desc) : Vlan where
  learn := bit (d.op 34 1) 1
  members := d.op 36 4 % 2 ^ 24 + 2 ^ 24 * (d.op 44 1 % 2)
  untagged := d.op 40 4 % 2 ^ 24 + 2 ^ 24 * (d.op 44 1 / 2 % 2)

theorem exec_fwdVlanSet_set (hm : s.namesMate d = false) (hb : bit (d.op 34 1) 0 = true) :
    exec (.fwdVlanSet d) s = .next (s.finish d (s.setNet { s.net with vlans := tput s.net.vlans (d.op 32 2) d.vlanEntry }).ok) := by
  refine h.next_command ((if_neg (Bool.eq_false_iff.mp hm)).trans ?_)
  rw [hb]
  rfl

theorem exec_fwdVlanSet_removed (hm : s.namesMate d = false) (hb : bit (d.op 34 1) 0 = false) :
    exec (.fwdVlanSet d) s = .next (s.finish d (s.setNet { s.net with vlans := tdel s.net.vlans (d.op 32 2) }).ok) := by
  refine h.next_command ((if_neg (Bool.eq_false_iff.mp hm)).trans ?_)
  rw [hb]
  rfl

/-- The route that FWD_ROUTE_ADD asks for. -/
def Desc.route (d : Desc) : Route :=
  { key := routeKey (d.op 48 1) (slice d.ops 0 16), kind := d.op 49 1, port := d.op 50 1, vlan := d.op 52 2, nhMac := slice d.ops 22 6 }

/-- The routes and their filter after an addition or removal (R344). -/
def State.setRoutes (s : State) (t : Tab Route) (d : Desc) (up : Bool) : State :=
  (s.setNet { s.net with routes := t
                         filter := countFilter s.net.filter (d.op 48 1) (routeKey (d.op 48 1) (slice d.ops 0 16)) up }).showTables

theorem exec_fwdRouteAdd_badPort (h2 : d.op 49 1 = 2) (hp : s.fabricOk (d.op 50 1) = false) :
    exec (.fwdRouteAdd d) s = .next (s.finish d (s.badPort d)) :=
  h.next_command (by simp [h2, hp])

section
variable (hp : d.op 49 1 ≠ 2 ∨ s.fabricOk (d.op 50 1) = true)
include hp

theorem exec_fwdRouteAdd_placed {t : Tab Route} (hf : s.findRoute (routeKey (d.op 48 1) (slice d.ops 0 16)) = none)
    (hc : cuckoo routeSlots Route.key s.net.routes d.route = some t) :
    exec (.fwdRouteAdd d) s = .next (s.finish d (s.setRoutes t d true).ok) := by
  have hport : (decide (d.op 49 1 = 2) && !s.fabricOk (d.op 50 1)) = false := by simpa [imp_iff_not_or] using hp
  unfold Desc.route at hc
  exact h.next_command (by simp only [hport, routeOp, hf, hc, Bool.false_eq_true, if_false, State.setRoutes])

theorem exec_fwdRouteAdd_full (hf : s.findRoute (routeKey (d.op 48 1) (slice d.ops 0 16)) = none)
    (hc : cuckoo routeSlots Route.key s.net.routes d.route = none) :
    exec (.fwdRouteAdd d) s = .next (s.finish d (s.fail stNO_RESOURCE)) := by
  have hport : (decide (d.op 49 1 = 2) && !s.fabricOk (d.op 50 1)) = false := by simpa [imp_iff_not_or] using hp
  unfold Desc.route at hc
  exact h.next_command (by simp only [hport, routeOp, hf, hc, Bool.false_eq_true, if_false])

theorem exec_fwdRouteAdd_known {i : Nat} (hf : s.findRoute (routeKey (d.op 48 1) (slice d.ops 0 16)) = some i) :
    exec (.fwdRouteAdd d) s = .next (s.finish d (if bit (d.op 51 1) 0 then
      (s.setNet { s.net with routes := tput s.net.routes i d.route }).ok else s.fail stCONFLICT)) := by
  have hport : (decide (d.op 49 1 = 2) && !s.fabricOk (d.op 50 1)) = false := by simpa [imp_iff_not_or] using hp
  exact h.next_command (by simp only [hport, routeOp, hf, Bool.false_eq_true, if_false, Desc.route])

end

theorem exec_fwdRouteDel_known {i : Nat} (hf : s.findRoute (routeKey (d.op 48 1) (slice d.ops 0 16)) = some i) :
    exec (.fwdRouteDel d) s = .next (s.finish d (s.setRoutes (tdel s.net.routes i) d false).ok) :=
  h.next_command (by simp only [routeOp, hf, State.setRoutes])

theorem exec_fwdRouteDel_absent (hf : s.findRoute (routeKey (d.op 48 1) (slice d.ops 0 16)) = none) :
    exec (.fwdRouteDel d) s = .next (s.finish d (s.fail 0x13)) :=
  h.next_command (by simp only [routeOp, hf])

/-! ### Gate lists and the parity log (R343, R353) -/

theorem exec_fwdGateLoad_badPort (hp : s.fabricOk (d.op 32 1) = false) :
    exec (.fwdGateLoad d) s = .next (s.finish d (s.badPort d)) :=
  h.next_command (by simp [hp])

theorem exec_fwdGateLoad_now (hp : s.fabricOk (d.op 32 1) = true) (hb : bit (d.op 33 1) 0 = false) :
    exec (.fwdGateLoad d) s = .next (s.finish d (s.operate (d.op 32 1) (gateListOf d.buf) (s.portNow (d.op 32 1) 0)).ok) :=
  h.next_command (by simp [hp, hb])

theorem exec_fwdGateLoad_admin {n : Nat} (hp : s.fabricOk (d.op 32 1) = true) (hb : bit (d.op 33 1) 0 = true)
    (hn : leAt d.buf 16 8 * 1000000000 + leAt d.buf 24 4 = n) :
    exec (.fwdGateLoad d) s = .next (s.finish d (s.setGates (d.op 32 1) { s.gatesOf (d.op 32 1) with
      admin := some (gateListOf d.buf, if n < s.portNow (d.op 32 1) 0 then (gateListOf d.buf).startFrom (s.portNow (d.op 32 1) 0)
        else n) }).ok) :=
  h.next_command (by simp only [hp, hb, hn, Bool.not_true, Bool.false_eq_true, if_false, if_true])

theorem exec_fwdParityRead_short (hl : d.bufLen < 512) :
    exec (.fwdParityRead d) s = .next (s.finish d { st := s, status := some stNO_RESOURCE, len := some 512 }) :=
  h.next_command (if_pos hl)

theorem exec_fwdParityRead_read (hl : 512 ≤ d.bufLen) :
    exec (.fwdParityRead d) s = .next (s.finish d { st := s.setNet { s.net with parity := [] }, result := s.net.parity.length
                                                    bytes := s.net.parity.flatMap fun x => leBytes 4 x.1 ++ leBytes 4 x.2 }) :=
  h.next_command (if_neg (Nat.not_lt.mpr hl))

end

/-- Settles O43: each clause by the lemma about its row or command. -/
theorem forwardingTables : Obligations.ForwardingTables := by
  refine ⟨fun key p r s => exec_learnEvent_oldest, ?refresh, ?denied, ?new, ?held, fun l u s hs hu => hu ▸ exec_agingSweep_serving l hs,
    ?aged, fun d s h => exec_fwdMacAdd_badPort h, ?add, ?replace, fun d t s h => exec_fwdMacAdd_placed h, ?del,
    fun d s h => exec_fwdMacDel_absent h, ?flush0, ?flush1, ?flush2, fun d s h => exec_fwdMacFlush_badPort h,
    fun d s h => exec_fwdMacRead h, fun d s h => exec_fwdVlanSet_badPort h, ?vlan, ?noVlan, ?route,
    fun d s h => exec_fwdRouteAdd_badPort h, ?routeAdd, fun d s h => exec_fwdRouteDel_absent h, ?routeDel,
    fun d i s h hp => exec_fwdRouteAdd_known h hp, ?gateNow, ?gateAdmin, fun d s h => exec_fwdGateLoad_badPort h,
    fun d s h => exec_fwdParityRead_short h, fun d s h => exec_fwdParityRead_read h⟩
  case refresh =>
    intro key p i e r s hs hq hf he hp
    refine ⟨_, exec_learnEvent_oldest hs hq, ?_⟩
    rw [State.learn_refresh (s := s.setNet { s.net with learnq := r }) hf he hp]
    exact ⟨rfl, rfl⟩
  case denied =>
    intro key p i e r s hs hq hf he hp hh hst
    refine ⟨_, exec_learnEvent_oldest hs hq, ?_⟩
    rw [State.learn_denied (s := s.setNet { s.net with learnq := r }) hf he hp hh hst]
    exact ⟨rfl, State.num_setNum _ _ _⟩
  case new =>
    intro key p t r s hs hq hf hc
    refine ⟨_, exec_learnEvent_oldest hs hq, ?_⟩
    rw [State.learn_new (s := s.setNet { s.net with learnq := r }) hf hc]
    exact ⟨rfl, rfl⟩
  case held =>
    intro s hs
    refine ⟨_, exec_heldExpiry_serving hs, ?_, fun x hx hheld => ?_⟩
    · simp [State.setL2_net]
    · rw [State.setL2_net] at hx
      obtain ⟨y, -, rfl⟩ := List.mem_map.mp hx
      exact L2.held_unheld hheld
  case aged =>
    intro s hs ha
    exact ⟨_, exec_agingSweep_serving [] hs, fun x hx => State.mem_dropAged ha hx, State.aged_dropAged s⟩
  case add =>
    intro d s h hp hf
    split
    next t hc => exact exec_fwdMacAdd_placed h hp hf hc
    next hc => exact exec_fwdMacAdd_full h hp hf hc
  case replace =>
    intro d i s h hp hf
    exact ⟨_, exec_fwdMacAdd_known h hp hf, rfl⟩
  case del =>
    intro d i s h hf
    exact ⟨_, exec_fwdMacDel_known h hf, rfl⟩
  case flush0 =>
    intro d s h h0
    have hfl : ∀ e, d.flushes e = !e.static := fun e => by simp [Desc.flushes, h0]
    refine ⟨s.setL2 (s.net.l2.filter fun x => !d.flushes x.2), ?_, ?_⟩
    · rw [exec_fwdMacFlush h (by simp [h0]), length_filter_not]
      rfl
    · simp [State.setL2_net, hfl]
  case flush1 =>
    intro d s h h1 hp
    have hfl : ∀ e, d.flushes e = (!e.static && e.port == d.op 33 1) := fun e => by simp [Desc.flushes, h1]
    refine ⟨s.setL2 (s.net.l2.filter fun x => !d.flushes x.2), ?_, ?_⟩
    · rw [exec_fwdMacFlush h (by simp [hp]), length_filter_not]
      rfl
    · simp [State.setL2_net, hfl, bne]
  case flush2 =>
    intro d s h h2
    have hfl : ∀ e, d.flushes e = if d.op 32 1 = 2 then !e.static && leAt e.key 0 2 == d.op 34 2 else true := by
      intro e
      unfold Desc.flushes
      split <;> simp_all
    simp only [← hfl]
    exact exec_fwdMacFlush h (by simp [show d.op 32 1 ≠ 1 by omega])
  case vlan =>
    intro d s h hm hb
    exact ⟨_, exec_fwdVlanSet_set h hm hb, rfl⟩
  case noVlan =>
    intro d s h hm hb
    exact ⟨_, exec_fwdVlanSet_removed h hm hb, rfl⟩
  case route =>
    intro d t s h hp hf hc
    exact ⟨_, exec_fwdRouteAdd_placed h hp hf hc, rfl, rfl⟩
  case routeAdd =>
    intro d s h hp hf
    split
    next t hc => exact exec_fwdRouteAdd_placed h hp hf hc
    next hc => exact exec_fwdRouteAdd_full h hp hf hc
  case routeDel =>
    intro d i s h hf
    exact ⟨_, exec_fwdRouteDel_known h hf, rfl, rfl⟩
  case gateNow =>
    intro d s h hp hb
    refine ⟨_, exec_fwdGateLoad_now h hp hb, ?_⟩
    rw [State.operate, State.gatesOf_setGates]
    exact ⟨rfl, rfl, rfl⟩
  case gateAdmin =>
    intro d n s h hp hb hn
    refine ⟨_, exec_fwdGateLoad_admin h hp hb hn, ?_⟩
    rw [State.gatesOf_setGates]
    exact ⟨rfl, rfl⟩

end Sys2Proof.Machine

/-! PROOFS. Pair operation: the frames of the mate link (R357 to R378). A frame that is taken leaves everything but what `State.apart`
erases, so role, logs and counts of the pair are those of the state before. -/

namespace Sys2Proof.Machine

open Sys2Proof

/-! ### A frame of the mate -/

section
variable {s u : State} {h : MateHdr} {auth : Bool} {ns : Nat}

/-- A frame the admission refuses is not taken. -/
theorem State.takeFrame_of_refused (hu : s.admitMate = (u, false)) : s.takeFrame h auth ns = (u, false) := by
  rw [State.takeFrame_full h auth ns (by rw [hu]), hu]

/-- A frame whose MIC fails is not taken. -/
theorem State.takeFrame_of_bad (hu : s.admitMate = (u, true)) (hm : s.micGood h.mic = false) :
    s.takeFrame h auth ns = (u.noteMic false, false) := by
  rw [State.takeFrame_bad auth ns (by rw [hu]) hm, hu]

/-- What a taken frame leaves alone. -/
theorem State.apart_of_taken (hu : s.takeFrame h auth ns = (u, true)) (ha : auth = false ∨ s.authority = false) :
    u.apart = s.apart := by
  have key := s.takeFrame_apart h ns ha
  rwa [hu] at key

theorem State.role_of_apart (ha : u.apart = s.apart) : u.role = s.role := congrArg (fun t => t.role) ha
theorem State.sn_of_apart (ha : u.apart = s.apart) : u.sn = s.sn := congrArg (fun t => t.sn) ha
theorem State.logs_of_apart (ha : u.apart = s.apart) : u.pai.logs = s.pai.logs := congrArg (fun t => t.pai.logs) ha
theorem State.log?_of_apart (ha : u.apart = s.apart) (n : Nat) : u.log? n = s.log? n := by
  unfold State.log?; rw [State.logs_of_apart ha]
theorem State.done_of_apart (ha : u.apart = s.apart) : u.pai.done = s.pai.done := congrArg (fun t => t.pai.done) ha
theorem State.lastEnd_of_apart (ha : u.apart = s.apart) : u.pai.lastEnd = s.pai.lastEnd := congrArg (fun t => t.pai.lastEnd) ha
theorem State.acked_of_apart (ha : u.apart = s.apart) : u.pai.acked = s.pai.acked := congrArg (fun t => t.pai.acked) ha
theorem State.hand_of_apart (ha : u.apart = s.apart) : u.pai.hand = s.pai.hand := congrArg (fun t => t.pai.hand) ha
theorem State.sent_of_apart (ha : u.apart = s.apart) : u.pai.sent = s.pai.sent := congrArg (fun t => t.pai.sent) ha

theorem State.authority_of_standby (hr : s.role = .standby) : s.authority = false := by simp [State.authority, hr]

theorem State.storesLog_of_standby (hr : s.role = .standby) : s.storesLog = true := by simp [State.storesLog, hr]

/-- The eight receptions of the mate link do nothing once their frame is not taken. -/
theorem exec_mateRx_of_not_taken (hu : ∀ (auth : Bool) (ns : Nat), s.takeFrame h auth ns = (u, false)) (e : List LogEntry) (l : LogEnd)
    (a : MateAck) (f : List Nat) (i : Nat) (d : Desc) (r : MateResult) (p : List Byte) (b : Bool) (o : Option Snapshot) :
    ∀ x ∈ [Instr.logRx h e ns, .logEndRx h l ns, .ackRx h a ns, .nakRx h f, .forwardRx h i d ns, .resultRx h r, .primeReqRx h p,
      .snapshotRx h b o], exec x s = .next u := by
  simp only [List.forall_mem_cons, List.not_mem_nil, false_imp_iff, implies_true, and_true]
  refine ⟨?_, ?_, ?_, ?_, ?_, ?_, ?_, ?_⟩
  · change execLogRx h e ns s = _; simp [execLogRx, hu]
  · change execLogEndRx h l ns s = _; simp [execLogEndRx, hu]
  · change execAckRx h a ns s = _; simp [execAckRx, hu]
  · change execNakRx h f s = _; simp [execNakRx, hu]
  · change execForwardRx h i d ns s = _; simp [execForwardRx, hu]
  · change execResultRx h r s = _; simp [execResultRx, hu]
  · change execPrimeReqRx h p s = _; simp [execPrimeReqRx, hu]
  · change execSnapshotRx h b o s = _; simp [execSnapshotRx, hu]
end

/-! ### The log of a stroke -/

theorem State.log?_setPai (s : State) (p : Pair) (n : Nat) : (s.setPai p).log? n = p.logs.find? fun l => l.sn == n := rfl

/-- A log that is begun stands as `f` makes it. -/
theorem State.log?_modLog_new {s : State} {n : Nat} {f : StrokeLog → StrokeLog} (hn : s.log? n = none)
    (hf : (f { sn := n }).sn = n) : (s.modLog n f).log? n = some (f { sn := n }) := by
  unfold State.modLog
  rw [State.log?_setPai]
  have hnone : (s.pai.logs.find? fun l => l.sn == n) = none := hn
  simp [hn, List.find?_append, hnone, hf]

/-- A log that stands is changed in place. -/
theorem State.log?_modLog_some {s : State} {n : Nat} {f : StrokeLog → StrokeLog} {x : StrokeLog} (hx : s.log? n = some x)
    (hf : ∀ l, (f l).sn = l.sn) : (s.modLog n f).log? n = some (f x) := by
  unfold State.modLog
  rw [State.log?_setPai, if_pos (by rw [hx]; rfl), List.find?_map]
  have hcomp : ((fun l : StrokeLog => l.sn == n) ∘ fun l => if l.sn = n then f l else l) = fun l => l.sn == n := by
    funext l
    simp only [Function.comp]
    split
    · rw [hf]
    · rfl
  have hsn : x.sn = n := by simpa using List.find?_some hx
  rw [hcomp, show (s.pai.logs.find? fun l => l.sn == n) = some x from hx, Option.map_some, if_pos hsn]

@[simp] theorem State.modLog_done (s : State) (n : Nat) (f : StrokeLog → StrokeLog) : (s.modLog n f).pai.done = s.pai.done := rfl
@[simp] theorem State.modLog_lastEnd (s : State) (n : Nat) (f : StrokeLog → StrokeLog) :
    (s.modLog n f).pai.lastEnd = s.pai.lastEnd := rfl

/-- A log that is not complete is not acknowledged, and runs nothing. -/
theorem State.tryAck_incomplete {s : State} {n : Nat} {x : StrokeLog} (ns : Nat) (hx : s.log? n = some x)
    (hc : x.complete = false) : s.tryAck n ns = s := by
  unfold State.tryAck
  simp [hx, hc]

@[simp] theorem State.sendMate_pai (s : State) (k n : Nat) (b : MateBody) : (s.sendMate k n b).pai = s.pai := by
  unfold State.sendMate; split <;> rfl

theorem State.log?_sendMate (s : State) (k m : Nat) (b : MateBody) (n : Nat) : (s.sendMate k m b).log? n = s.log? n := by
  unfold State.log?; rw [State.sendMate_pai]

@[simp] theorem State.pairCompare_pai (s : State) (d : Int) : (s.pairCompare d).pai = s.pai := by
  unfold State.pairCompare; dsimp only; split <;> rfl

section
variable {s u : State} {h : MateHdr} {ns : Nat}

/-- A LOG frame that is taken enters the log of its stroke where the unit stores it (R360, R361). -/
theorem exec_logRx_taken (e : List LogEntry) (hu : s.takeFrame h true ns = (u, true)) : exec (.logRx h e ns) s =
    .next (if u.storesLog ∧ ¬ (h.sn ≤ u.pai.done ∧ u.pai.loaded) then
      (u.modLog h.sn fun l => if l.frags.any (fun f => f.1 == h.frag) then l else
        { l with frags := l.frags ++ [(h.frag, e)] }).tryAck h.sn ns else u) := by
  change execLogRx h e ns s = _
  unfold execLogRx
  rw [hu]
  by_cases hst : u.storesLog = true <;> by_cases hl : h.sn ≤ u.pai.done ∧ u.pai.loaded = true <;> simp [hst, hl]

/-- The first LOG frame of a stroke that a standby has not executed begins its log. -/
theorem exec_logRx_first (e : List LogEntry) (hu : s.takeFrame h true ns = (u, true)) (hr : s.role = .standby)
    (hd : s.pai.done < h.sn) (hl : s.log? h.sn = none) :
    ∃ t, exec (.logRx h e ns) s = .next t ∧ t.log? h.sn = some { sn := h.sn, frags := [(h.frag, e)] } ∧
      t.pai.done = s.pai.done := by
  have hap := State.apart_of_taken hu (.inr (State.authority_of_standby hr))
  have hul : u.log? h.sn = none := by rw [State.log?_of_apart hap, hl]
  have hud : u.pai.done = s.pai.done := State.done_of_apart hap
  have hst : u.storesLog = true := State.storesLog_of_standby ((State.role_of_apart hap).trans hr)
  rw [exec_logRx_taken e hu, if_pos ⟨hst, fun hc => absurd hc.1 (by omega)⟩]
  have hnew := State.log?_modLog_new (f := fun l => if l.frags.any (fun f => f.1 == h.frag) then l else
    { l with frags := l.frags ++ [(h.frag, e)] }) hul rfl
  refine ⟨_, rfl, ?_⟩
  rw [State.tryAck_incomplete ns hnew rfl]
  exact ⟨hnew, hud⟩

/-! ### LOG_END -/

/-- The time bases compared over the exchange a LOG_END closes, where its other timestamps are held (R89). -/
def State.endCompared (s : State) (e : LogEnd) : State :=
  match s.pai.lastEnd, s.pai.ackSent with
  | some (sent, rcvd), some ack =>
    (s.pairCompare (-(pairOffset sent rcvd ack e.gotAt))).tb0Offer 3 (-(pairOffset sent rcvd ack e.gotAt))
  | _, _ => s

/-- The timestamps of a LOG_END kept. -/
def State.endStamped (s : State) (e : LogEnd) (ns : Nat) : State :=
  s.setPai { s.pai with lastEnd := some (e.sentAt, s.mateStamp false ns), ackSent := none }

/-- The handover a LOG_END announces taken over (R373). -/
def State.endHand (s : State) (e : LogEnd) : State :=
  match e.handover with
  | some n => (s.setPai { s.pai with hand := some n, handReq := false }).put PAI_STATUS_HANDOVER 1
  | none => s

/-- The final mark of a LOG_END taken over (R373). -/
def State.endMark (s : State) (e : LogEnd) (n : Nat) : State :=
  if e.final && s.pai.hand = some n then s.setPai { s.pai with handFinal := true } else s

/-- The log of a stroke closed by its LOG_END, and its missing frames asked for once (R361). -/
def State.endLog (s : State) (e : LogEnd) (h : MateHdr) (ns : Nat) : State :=
  let z := (s.modLog h.sn fun l => { l with fin := some e, frames := h.frag }).tryAck h.sn ns
  if !s.storesLog || decide (h.sn ≤ s.pai.done && s.pai.loaded) then s
  else match z.log? h.sn with
    | some l => if !l.missing.isEmpty && l.naked != some z.sn then
        (z.modLog h.sn fun l => { l with naked := some z.sn }).sendMate 0 h.sn (.nak l.missing) else z
    | none => z

theorem exec_logEndRx_taken (e : LogEnd) (hu : s.takeFrame h true ns = (u, true)) : exec (.logEndRx h e ns) s =
    .next (if u.authority then u else ((((u.endCompared e).endStamped e ns).endHand e).endMark e h.sn).endLog e h ns) := by
  change execLogEndRx h e ns s = _
  unfold execLogEndRx
  rw [hu]
  by_cases ha : u.authority = true
  · simp [ha]
  · simp only [ha, Bool.not_true, Bool.false_or, Bool.false_eq_true, if_false]
    unfold State.endLog State.endMark State.endHand State.endStamped State.endCompared
    simp only [Bool.and_eq_true, decide_eq_true_eq]
    all_goals rfl

/-- What the reading of a LOG_END leaves of the pair's logs, the stroke executed, the role and the stroke. -/
theorem State.endMark_keeps (s : State) (e : LogEnd) (ns n : Nat) (t : State)
    (ht : t = ((s.endStamped e ns).endHand e).endMark e n) :
    t.pai.logs = s.pai.logs ∧ t.pai.done = s.pai.done ∧ t.role = s.role ∧ t.sn = s.sn ∧
      t.pai.lastEnd = some (e.sentAt, s.mateStamp false ns) := by
  have hhand : ∀ w : State, (w.endHand e).pai.logs = w.pai.logs ∧ (w.endHand e).pai.done = w.pai.done ∧
      (w.endHand e).role = w.role ∧ (w.endHand e).sn = w.sn ∧ (w.endHand e).pai.lastEnd = w.pai.lastEnd := by
    intro w
    unfold State.endHand
    cases e.handover with
    | none => exact ⟨rfl, rfl, rfl, rfl, rfl⟩
    | some k => simp only [State.put_pai, State.put_role, State.put_sn]; exact ⟨rfl, rfl, rfl, rfl, rfl⟩
  have hmark : ∀ w : State, (w.endMark e n).pai.logs = w.pai.logs ∧ (w.endMark e n).pai.done = w.pai.done ∧
      (w.endMark e n).role = w.role ∧ (w.endMark e n).sn = w.sn ∧ (w.endMark e n).pai.lastEnd = w.pai.lastEnd := by
    intro w
    unfold State.endMark
    split <;> exact ⟨rfl, rfl, rfl, rfl, rfl⟩
  obtain ⟨hl, hd, hr, hs, hq⟩ := hmark ((s.endStamped e ns).endHand e)
  obtain ⟨hl', hd', hr', hs', hq'⟩ := hhand (s.endStamped e ns)
  subst ht
  exact ⟨hl.trans hl', hd.trans hd', hr.trans hr', hs.trans hs', hq.trans hq'⟩

/-- A LOG_END that numbers one LOG frame, none of which has come, asks for it. -/
theorem exec_logEndRx_first (e : LogEnd) (hu : s.takeFrame h true ns = (u, true)) (hr : s.role = .standby)
    (hd : s.pai.done < h.sn) (he : s.pai.lastEnd = none) (hl : s.log? h.sn = none) (hf : h.frag = 1) :
    ∃ t, exec (.logEndRx h e ns) s = .next t ∧
      t.log? h.sn = some { sn := h.sn, fin := some e, frames := 1, naked := some s.sn } ∧
      t.pai.lastEnd = some (e.sentAt, u.mateStamp false ns) := by
  have hap := State.apart_of_taken hu (.inr (State.authority_of_standby hr))
  have hur : u.role = .standby := (State.role_of_apart hap).trans hr
  have hcmp : u.endCompared e = u := by unfold State.endCompared; rw [State.lastEnd_of_apart hap, he]
  rw [exec_logEndRx_taken e hu, if_neg (by simp [State.authority_of_standby hur]), hcmp]
  generalize hy : ((u.endStamped e ns).endHand e).endMark e h.sn = y
  obtain ⟨hyl, hyd, hyr, hys, hye⟩ := State.endMark_keeps u e ns h.sn y hy.symm
  have hynone : y.log? h.sn = none := by
    unfold State.log?; rw [hyl]; exact (State.log?_of_apart hap h.sn).trans hl
  have hnew := State.log?_modLog_new (f := fun l => { l with fin := some e, frames := h.frag }) hynone rfl
  have hmiss : StrokeLog.missing { sn := h.sn, fin := some e, frames := h.frag } = [0] := by
    simp [StrokeLog.missing, hf]
  have htry := State.tryAck_incomplete ns hnew (by unfold StrokeLog.complete; rw [hmiss]; rfl)
  have hsome := State.log?_modLog_some (f := fun l => { l with naked := some y.sn }) hnew (fun _ => rfl)
  have hlate : decide (h.sn ≤ y.pai.done && y.pai.loaded) = false := by
    rw [hyd, State.done_of_apart hap]
    simp [Nat.not_le.mpr hd]
  refine ⟨_, rfl, ?_⟩
  unfold State.endLog
  simp only [State.storesLog_of_standby (hyr.trans hur), hlate, htry, hnew, hmiss]
  refine ⟨?_, ?_⟩
  · refine (State.log?_sendMate _ _ _ _ _).trans (hsome.trans ?_)
    rw [hf, hys, State.sn_of_apart hap]
  · exact (congrArg Pair.lastEnd (State.sendMate_pai _ _ _ _)).trans hye
/-! ### LOG_MISS -/

theorem exec_logMiss_idle (hv : s.serving = true) (hi : s.role ≠ .standby ∨ s.sn - 1 ≤ s.pai.done) :
    exec .logMiss s = .next s := by
  change execLogMiss s = _
  rcases hi with hr | hd
  · simp [execLogMiss, hv, hr]
  · simp [execLogMiss, hv, hd]

theorem exec_logMiss_complete {x : StrokeLog} (hv : s.serving = true) (hx : s.log? (s.sn - 1) = some x)
    (hc : x.complete = true) : exec .logMiss s = .next s := by
  change execLogMiss s = _
  simp [execLogMiss, hv, hx, hc]

theorem exec_logMiss_missed (hv : s.serving = true) (hr : s.role = .standby) (hd : s.pai.done < s.sn - 1)
    (hl : ∀ x, s.log? (s.sn - 1) = some x → x.fin = none) :
    exec .logMiss s = .next ((s.setPai { s.pai with logMiss := s.pai.logMiss + 1 }).count PAI_HB_MISS 1) := by
  change execLogMiss s = _
  cases hx : s.log? (s.sn - 1) with
  | none => simp [execLogMiss, hv, hr, Nat.not_le.mpr hd, hx]
  | some x => simp [execLogMiss, hv, hr, Nat.not_le.mpr hd, hx, StrokeLog.complete, hl x hx]

theorem exec_logMiss_gap {x : StrokeLog} {e : LogEnd} (hv : s.serving = true) (hr : s.role = .standby)
    (hd : s.pai.done < s.sn - 1) (hx : s.log? (s.sn - 1) = some x) (hf : x.fin = some e) (hm : x.missing ≠ []) :
    exec .logMiss s = .next (s.setPai { s.pai with leaveNext := true }) := by
  change execLogMiss s = _
  simp [execLogMiss, hv, hr, Nat.not_le.mpr hd, hx, StrokeLog.complete, hf, hm]

/-! ### ACK, NAK, FORWARD, RESULT -/

/-- The time bases compared over the LOG_END an ACK answers (R89). -/
def State.ackCompared (s : State) (h : MateHdr) (a : MateAck) (rx : Int) : State :=
  match s.pai.endSent with
  | some (m, tx) => if m = h.sn then s.pairCompare (pairOffset tx a.gotAt a.sentAt rx) else s
  | none => s

@[simp] theorem State.ackCompared_pai (s : State) (h : MateHdr) (a : MateAck) (rx : Int) :
    (s.ackCompared h a rx).pai = s.pai := by
  unfold State.ackCompared
  split
  · rw [apply_ite State.pai, State.pairCompare_pai, ite_self]
  · rfl

/-- The stroke from which the mate stands by, by an ACK (R362, R377). -/
def State.ackStand (s : State) (a : MateAck) : Option Nat :=
  if a.clean && (s.get PAI_STATUS_SOLO == 0 || match s.pai.snapGiven with | some p => decide (s.pai.soloSn ≤ p) | none => false)
  then some (s.pai.mateStandby.getD s.sn) else none

/-- An ACK noted. -/
def State.ackNoted (s : State) (h : MateHdr) (a : MateAck) (rx : Int) : State :=
  s.setPai { s.pai with acked := s.pai.acked ++ [h.sn], ackMiss := 0, ackAt := rx, mateStandby := s.ackStand a }

theorem exec_ackRx_taken (a : MateAck) (hu : s.takeFrame h false ns = (u, true)) (hr : s.role = .primary) :
    exec (.ackRx h a ns) s =
      let v := u.ackCompared h a (u.mateStamp false ns)
      let w := v.ackNoted h a (u.mateStamp false ns)
      .next (if a.request && w.pai.hand.isNone && (v.ackStand a).isSome then w.announce h.sn else w) := by
  have hur : u.role = .primary := (State.role_of_apart (State.apart_of_taken hu (.inl rfl))).trans hr
  change execAckRx h a ns s = _
  unfold execAckRx
  rw [hu]
  simp only [hur, Bool.not_true, Bool.false_or, bne_self_eq_false, Bool.false_eq_true, if_false]
  rfl

/-- What an ACK leaves of the pair. -/
theorem exec_ackRx_pai (a : MateAck) (hu : s.takeFrame h false ns = (u, true)) (hr : s.role = .primary) :
    ∃ t, exec (.ackRx h a ns) s = .next t ∧ t.pai.acked = s.pai.acked ++ [h.sn] ∧ t.pai.ackMiss = 0 ∧
      (a.clean = false → t.pai.mateStandby = none ∧ t.pai.hand = s.pai.hand) ∧
      (a.request = false → t.pai.hand = s.pai.hand) := by
  have hap := State.apart_of_taken hu (.inl rfl)
  have hacked := State.acked_of_apart hap
  have hhand := State.hand_of_apart hap
  rw [exec_ackRx_taken a hu hr]
  refine ⟨_, rfl, ?_⟩
  split
  case isTrue hc =>
    simp only [Bool.and_eq_true] at hc
    obtain ⟨⟨hreq, -⟩, hst⟩ := hc
    simp only [State.announce, State.put_pai, State.setPai_pai, State.ackNoted, State.ackCompared_pai, hacked]
    refine ⟨trivial, trivial, fun hcl => ?_, fun hq => ?_⟩
    · simp [State.ackStand, hcl] at hst
    · rw [hq] at hreq; cases hreq
  case isFalse =>
    simp only [State.ackNoted, State.setPai_pai, State.ackCompared_pai, hacked, hhand]
    refine ⟨trivial, trivial, fun hcl => ⟨?_, trivial⟩, fun _ => trivial⟩
    simp [State.ackStand, hcl]

theorem exec_nakRx_taken (f : List Nat) (hu : s.takeFrame h false 0 = (u, true)) (hr : s.role = .primary) :
    exec (.nakRx h f) s = .next ((s.pai.sent.filter fun x => x.1 == h.sn && f.contains x.2.1).foldl
      (fun t x => t.sendMate x.2.1 h.sn (.log x.2.2)) u) := by
  have hap := State.apart_of_taken hu (.inl rfl)
  have hur : u.role = .primary := (State.role_of_apart hap).trans hr
  change execNakRx h f s = _
  simp [execNakRx, hu, hur, State.sent_of_apart hap]

theorem exec_forwardRx_taken (i : Nat) (d : Desc) (hu : s.takeFrame h false ns = (u, true)) (hr : s.role = .primary) :
    exec (.forwardRx h i d ns) s = .next (if d.opcode = 0x9001 then
      (if d.op 32 1 = 0 then u.raiseAll 3 ns else u.raiseRobot 9 (d.op 33 1) ns)
      else u.addJob (u.ringJob { d with ring := d.ring % 64 + 128, index := i })) := by
  have hur : u.role = .primary := (State.role_of_apart (State.apart_of_taken hu (.inl rfl))).trans hr
  change execForwardRx h i d ns s = _
  simp [execForwardRx, hu, hur]

/-- A unit that is not PRIMARY does nothing with the frames its standby would send. -/
theorem exec_primaryRx_elsewhere {v : State} (a : MateAck) (f : List Nat) (i : Nat) (d : Desc)
    (hu : s.takeFrame h false ns = (u, true)) (hv : s.takeFrame h false 0 = (v, true)) (hr : s.role ≠ .primary) :
    exec (.ackRx h a ns) s = .next u ∧ exec (.nakRx h f) s = .next v ∧ exec (.forwardRx h i d ns) s = .next u := by
  have hur : u.role ≠ .primary := by rw [State.role_of_apart (State.apart_of_taken hu (.inl rfl))]; exact hr
  have hvr : v.role ≠ .primary := by rw [State.role_of_apart (State.apart_of_taken hv (.inl rfl))]; exact hr
  refine ⟨?_, ?_, ?_⟩
  · change execAckRx h a ns s = _
    simp [execAckRx, hu, hur]
  · change execNakRx h f s = _
    simp [execNakRx, hv, hvr]
  · change execForwardRx h i d ns s = _
    simp [execForwardRx, hu, hur]

/-- The forwarded descriptors without the one a RESULT names. -/
def State.lessForwarded (s : State) (id : Nat) : State :=
  (s.setRings { s.rings with forwarded := s.rings.forwarded.filter fun x => x.id != id }).put PAI_FWD_PENDING_N
    (s.rings.forwarded.filter fun x => x.id != id).length

theorem exec_resultRx_known {r : MateResult} {f : Forwarded} (hu : s.takeFrame h true 0 = (u, true))
    (hf : (u.rings.forwarded.find? fun f => f.id == r.id) = some f) :
    exec (.resultRx h r) s = .next (((u.lessForwarded r.id).complete f.desc r.status r.result r.bytes r.resultLen .status).endJobOf
      f.desc (r.status == stOK)) := by
  change execResultRx h r s = _
  unfold execResultRx
  rw [hu]
  simp only [Bool.not_true, Bool.false_eq_true, if_false]
  rw [hf]
  rfl

theorem exec_resultRx_unknown {r : MateResult} (hu : s.takeFrame h true 0 = (u, true))
    (hf : (u.rings.forwarded.find? fun f => f.id == r.id) = none) : exec (.resultRx h r) s = .next u := by
  change execResultRx h r s = _
  unfold execResultRx
  rw [hu]
  simp only [Bool.not_true, Bool.false_eq_true, if_false]
  rw [hf]
end

/-- Settles O44: a frame that is taken leaves what `apart` keeps, and each reception then acts as its row says. -/
theorem logsAndAcknowledgements : Obligations.LogsAndAcknowledgements := by
  unfold Obligations.LogsAndAcknowledgements
  refine ⟨?refused, ?bad, fun h e ns u s hu => exec_logRx_taken e hu, fun h e ns u s hu hr hd hl => exec_logRx_first e hu hr hd hl,
    fun h e ns u s hu => exec_logEndRx_taken e hu,
    fun h e ns u s hu hr hd he hl hf => exec_logEndRx_first e hu hr hd he hl hf,
    fun s hv hi => exec_logMiss_idle hv hi, fun x s hv hx hc => exec_logMiss_complete hv hx hc, ?missed,
    fun x e s hv hr hd hx hf hm => exec_logMiss_gap hv hr hd hx hf hm,
    fun h a ns u s hu hr => exec_ackRx_taken a hu hr, fun h a ns u s hu hr => exec_ackRx_pai a hu hr,
    fun h a f i d ns u v s hu hv hr => exec_primaryRx_elsewhere a f i d hu hv hr,
    fun h f u s hu hr => exec_nakRx_taken f hu hr, fun h i d ns u s hu hr => exec_forwardRx_taken i d hu hr,
    fun h r f u s hu hf => exec_resultRx_known hu hf, fun h r u s hu hf => exec_resultRx_unknown hu hf⟩
  case refused =>
    intro h e l a f i d r p b o ns u s hu
    exact exec_mateRx_of_not_taken (fun _ _ => State.takeFrame_of_refused hu) e l a f i d r p b o
  case bad =>
    intro h e l a f i d r p b o ns u s hu hm
    exact exec_mateRx_of_not_taken (fun _ _ => State.takeFrame_of_bad hu hm) e l a f i d r p b o
  case missed =>
    intro s hv hr hd hl
    refine ⟨_, exec_logMiss_missed hv hr hd hl, rfl, rfl, ?_⟩
    exact State.num_setNum _ _ _

end Sys2Proof.Machine

/-! PROOFS. Pair operation: what a stop, a change of device state, a forwarded descriptor and the assumption of authority leave of the
pair (R252, R367 to R378). -/

namespace Sys2Proof.Machine

open Sys2Proof

/-! ### The view of the pair

Role, stroke, the pair without the inputs of the log, the hold of the still stroke, and the registers PAI_CFG to PAI_EPOCH_FLOOR: what
stops, jobs, rings, radio and recorder never move. -/

/-- That part of a state which a cut of transmissions leaves alone with its inputs too. -/
structure PairRegs where
  role : Role
  sn : Nat
  hold : Bool
  regs : Nat → Word

def State.pairRegs (s : State) : PairRegs :=
  ⟨s.role, s.sn, s.disp.holdRepl, fun a => if PAI_CFG ≤ a ∧ a ≤ PAI_EPOCH_FLOOR then s.rd a else 0⟩

/-- The pair without the inputs that wait for the log. -/
def State.pairKept (s : State) : Pair := { s.pai with inputs := [] }

def State.pairView (s : State) : PairRegs × Pair := (s.pairRegs, s.pairKept)

section
variable {s t : State} (h : t.pairView = s.pairView)
include h

theorem State.role_of_pairView : t.role = s.role := congrArg (fun v => v.1.role) h
theorem State.sn_of_pairView : t.sn = s.sn := congrArg (fun v => v.1.sn) h
theorem State.hold_of_pairView : t.disp.holdRepl = s.disp.holdRepl := congrArg (fun v => v.1.hold) h

theorem State.rd_of_pairView {a : Nat} (ha : PAI_CFG ≤ a ∧ a ≤ PAI_EPOCH_FLOOR) : t.rd a = s.rd a := by
  have hregs := congrFun (congrArg (fun v => v.1.regs) h) a
  unfold State.pairView State.pairRegs at hregs
  simpa only [ha, and_self, if_true] using hregs

theorem State.get_of_pairView {f : Fld} (hf : PAI_CFG ≤ f.addr ∧ f.addr ≤ PAI_EPOCH_FLOOR) : t.get f = s.get f :=
  congrArg (bitsOf · f.lo f.width) (State.rd_of_pairView h hf)

theorem State.num_of_pairView {a : Nat} (ha : PAI_CFG ≤ a ∧ a ≤ PAI_EPOCH_FLOOR) : t.num a = s.num a :=
  congrArg BitVec.toNat (State.rd_of_pairView h ha)

theorem State.kept_of_pairView : t.pairKept = s.pairKept := congrArg Prod.snd h
theorem State.known_of_pairView : t.pai.known = s.pai.known := congrArg (fun v => v.2.known) h
theorem State.seenAuth_of_pairView : t.pai.seenAuth = s.pai.seenAuth := congrArg (fun v => v.2.seenAuth) h
theorem State.handDone_of_pairView : t.pai.handDone = s.pai.handDone := congrArg (fun v => v.2.handDone) h
theorem State.mateStandby_of_pairView : t.pai.mateStandby = s.pai.mateStandby := congrArg (fun v => v.2.mateStandby) h

end

theorem State.pairView_ext {s t : State} (hr : t.pairRegs = s.pairRegs) (hp : t.pairKept = s.pairKept) : t.pairView = s.pairView :=
  Prod.ext hr hp

theorem State.pairRegs_wr (s : State) {a : Nat} (v : Word) (h : a < PAI_CFG ∨ PAI_EPOCH_FLOOR < a) :
    (s.wr a v).pairRegs = s.pairRegs := by
  refine congrArg (PairRegs.mk s.role s.sn s.disp.holdRepl) (funext fun b => ?_)
  split
  · next hb => exact s.rd_wr_ne v (by omega)
  · rfl

theorem State.pairView_wr (s : State) {a : Nat} (v : Word) (h : a < PAI_CFG ∨ PAI_EPOCH_FLOOR < a) :
    (s.wr a v).pairView = s.pairView := State.pairView_ext (s.pairRegs_wr v h) rfl

theorem State.pairView_put (s : State) {f : Fld} (v : Nat) (h : f.addr < PAI_CFG ∨ PAI_EPOCH_FLOOR < f.addr) :
    (s.put f v).pairView = s.pairView := s.pairView_wr _ h

theorem State.pairView_setNum (s : State) {a : Nat} (v : Nat) (h : a < PAI_CFG ∨ PAI_EPOCH_FLOOR < a) :
    (s.setNum a v).pairView = s.pairView := s.pairView_wr _ h

theorem State.pairView_count (s : State) {a : Nat} (n : Nat) (h : a < PAI_CFG ∨ PAI_EPOCH_FLOOR < a) :
    (s.count a n).pairView = s.pairView := s.pairView_wr _ h

@[simp] theorem State.pairView_setRad (s : State) (r : Radio) : (s.setRad r).pairView = s.pairView := rfl
@[simp] theorem State.pairView_setFlt (s : State) (x : Fleet) : (s.setFlt x).pairView = s.pairView := rfl
@[simp] theorem State.pairView_setMsh (s : State) (x : Mesh) : (s.setMsh x).pairView = s.pairView := rfl
@[simp] theorem State.pairView_setStp (s : State) (x : Stop) : (s.setStp x).pairView = s.pairView := rfl
@[simp] theorem State.pairView_setTim (s : State) (x : Timing) : (s.setTim x).pairView = s.pairView := rfl
@[simp] theorem State.pairView_setRings (s : State) (x : Rings) : (s.setRings x).pairView = s.pairView := rfl
@[simp] theorem State.pairView_setJobs (s : State) (x : List Job) : (s.setJobs x).pairView = s.pairView := rfl
@[simp] theorem State.pairView_emit (s : State) (o : Out) : (s.emit o).pairView = s.pairView := rfl
@[simp] theorem State.pairView_record (s : State) (c x p q r : Nat) : (s.record c x p q r).pairView = s.pairView := (rfl)
@[simp] theorem State.pairView_addJob (s : State) (j : Job) : (s.addJob j).pairView = s.pairView := (rfl)
@[simp] theorem State.pairView_dropDesc (s : State) (d : Desc) : (s.dropDesc d).pairView = s.pairView := rfl
@[simp] theorem State.pairView_dropJob (s : State) (n : Nat) : (s.dropJob n).pairView = s.pairView := rfl
@[simp] theorem State.pairView_modJob (s : State) (n : Nat) (f : Job → Job) : (s.modJob n f).pairView = s.pairView := rfl

@[simp] theorem State.pairView_logInput (s : State) (e : LogEntry) : (s.logInput e).pairView = s.pairView := by
  unfold State.logInput
  split <;> rfl

/-! ### Transmissions cut, stops raised -/

theorem txFree_pairRegs : TxFree State.pairRegs :=
  ⟨fun _ _ => rfl, fun s f _ h => s.pairRegs_wr _ (by simp only [PAI_CFG]; omega), fun _ _ => rfl, fun _ _ => rfl, fun _ _ => rfl⟩

@[simp] theorem State.pairView_showTx (s : State) : s.showTx.pairView = s.pairView := by
  refine State.pairView_ext (txFree_pairRegs.showTx s) (congrArg (fun p : Pair => { p with inputs := [] }) ?_)
  unfold State.showTx
  dsimp only
  rw [State.put_pai, State.put_pai]
  exact foldl_keeps State.pai _ _ _ fun _ _ => State.put_pai _ _ _

@[simp] theorem State.pairView_reportTx (s : State) (o : TxOwner) (r : TxResult) : (s.reportTx o r).pairView = s.pairView := by
  unfold State.reportTx
  rw [State.pairView_logInput]
  split <;> rfl

@[simp] theorem State.pairView_cutTx (s : State) (p : Tx → Bool) : (s.cutTx p).pairView = s.pairView := by
  unfold State.cutTx
  dsimp only
  split
  · rfl
  · rw [foldl_keeps State.pairView State.restLines _ _ fun _ _ => rfl, foldl_keeps State.pairView _ _ _ fun _ _ =>
      State.pairView_reportTx _ _ _, State.pairView_showTx, State.pairView_setRad]

@[simp] theorem State.pairView_applyOut (s : State) : s.applyOut.pairView = s.pairView := by
  unfold State.applyOut
  dsimp only
  rw [State.pairView_setStp, State.pairView_put _ _ (by decide), State.pairView_put _ _ (by decide)]

@[simp] theorem State.pairView_setDev (s : State) (d : DevState) : (s.setDev d).pairView = s.pairView := by
  unfold State.setDev
  rw [State.pairView_record, State.pairView_cutTx, State.pairView_applyOut]
  rfl

theorem State.pairView_noteBlank (s : State) (t : Tx) : (s.noteBlank t).pairView = s.pairView := by
  unfold State.noteBlank
  split <;> rfl

@[simp] theorem State.pairView_sweepTx (s : State) (n : Nat) : (s.sweepTx n).pairView = s.pairView := by
  unfold State.sweepTx
  dsimp only
  split
  · rfl
  · rw [foldl_keeps State.pairView, foldl_keeps State.pairView _ _ _ State.pairView_noteBlank, State.pairView_showTx,
      State.pairView_setRad]
    intro u p
    split
    · rfl
    · split
      · rfl
      · split <;> rfl

@[simp] theorem State.pairView_rampDown (s : State) (now : Nat) (l : List Tx) : (s.rampDown now l).pairView = s.pairView := by
  unfold State.rampDown
  dsimp only
  rw [State.pairView_count _ _ (by decide), foldl_keeps State.pairView _ _ _ fun _ _ => by simp]
  simp

@[simp] theorem State.pairView_preemptPort (s : State) (now p : Nat) : (s.preemptPort now p).pairView = s.pairView := by
  unfold State.preemptPort
  dsimp only
  split <;> simp

@[simp] theorem State.pairView_preemptFleet (s : State) (now : Nat) : (s.preemptFleet now).pairView = s.pairView :=
  foldl_keeps _ _ _ _ fun u p => u.pairView_preemptPort now p

@[simp] theorem State.pairView_discardBuilt (s : State) (r : Option Nat) : (s.discardBuilt r).pairView = s.pairView := rfl

@[simp] theorem State.pairView_showQual (s : State) (n m : Nat) : (s.showQual n m).pairView = s.pairView := by
  unfold State.showQual State.setNum64
  rw [State.pairView_put _ _ (by decide), State.pairView_setNum _ _ (by decide), State.pairView_setNum _ _ (by decide)]

@[simp] theorem State.pairView_showRobotStops (s : State) : s.showRobotStops.pairView = s.pairView := by
  unfold State.showRobotStops
  extract_lets has t
  exact (t.pairView_put (f := STP_STATUS_ROBOTS) _ (by decide)).trans (foldl_range_keeps s)
where
  foldl_range_keeps (s : State) {g : Nat → Nat} :
      ((List.range 8).foldl (fun u n => u.setNum (STP_ROBOT_MAP n) (g n)) s).pairView = s.pairView := by
    have key : ∀ (l : List Nat) (s : State), (∀ n ∈ l, n < 8) →
        (l.foldl (fun u n => u.setNum (STP_ROBOT_MAP n) (g n)) s).pairView = s.pairView := by
      intro l
      induction l with
      | nil => exact fun _ _ => rfl
      | cons n l ih =>
        intro s hl
        rw [List.foldl_cons, ih _ fun m hm => hl m (List.mem_cons_of_mem _ hm), State.pairView_setNum]
        have := hl n List.mem_cons_self
        simp only [STP_ROBOT_MAP, PAI_CFG]
        omega
    exact key _ s fun n hn => List.mem_range.mp hn

@[simp] theorem State.pairView_raiseRobot (s : State) (c r ns : Nat) : (s.raiseRobot c r ns).pairView = s.pairView := by
  unfold State.raiseRobot
  extract_lets counted stop raised driven sent
  rw [State.pairView_record, State.pairView_logInput]
  unfold sent driven raised stop counted
  simp only [State.pairView_discardBuilt, State.pairView_preemptFleet, State.pairView_applyOut, State.pairView_showQual,
    State.pairView_showRobotStops, State.pairView_setStp]
  exact s.pairView_count _ (by decide)

@[simp] theorem State.pairView_raiseAll (s : State) (c ns : Nat) : (s.raiseAll c ns).pairView = s.pairView := by
  unfold State.raiseAll
  extract_lets counted wave stop driven sent quiet
  rw [State.pairView_record, State.pairView_logInput]
  unfold quiet sent driven
  simp only [State.pairView_discardBuilt, State.pairView_preemptFleet, State.pairView_applyOut, State.pairView_showQual,
    State.pairView_setStp]
  unfold wave counted
  rw [State.pairView_put _ _ (by decide), State.pairView_put _ _ (by decide)]
  split
  · exact s.pairView_count _ (by decide)
  · rfl

@[simp] theorem State.pairView_pairFault (s : State) (k e ns : Nat) : (s.pairFault k e ns).pairView = s.pairView := by
  unfold State.pairFault
  dsimp only
  split
  · rfl
  · split
    · rw [State.pairView_raiseAll]; rfl
    · rfl

@[simp] theorem State.pairView_endPairFault (s : State) (k : Nat) : (s.endPairFault k).pairView = s.pairView := rfl

/-! ### Jobs and descriptors -/

@[simp] theorem State.pairView_presentWork (sn : Nat) (r l : Bool) (w : List (Nat × Nat)) : ∀ (s : State) (q : Nat),
    (s.presentWork sn r l q w).pairView = s.pairView := by
  induction w with
  | nil => exact fun _ _ => rfl
  | cons x w ih => intro s q; rw [State.presentWork, ih, State.pairView_addJob]

@[simp] theorem State.pairView_presentLate (s : State) (n : Nat) : (s.presentLate n).pairView = s.pairView := by
  unfold State.presentLate
  rw [State.pairView_presentWork]

@[simp] theorem State.pairView_meshSkip (s : State) : s.meshSkip.pairView = s.pairView := by
  unfold State.meshSkip
  extract_lets k up ends who t
  exact foldl_keeps State.pairView _ _ _ fun _ _ => rfl

@[simp] theorem State.pairView_pendingStops (s : State) : s.pendingStops.pairView = s.pairView := by
  unfold State.pendingStops
  refine foldl_keeps State.pairView _ _ _ fun u r => ?_
  split
  · rfl
  · exact u.pairView_raiseRobot _ _ _

@[simp] theorem State.pairView_addDue (s : State) (c : DueCpl) : (s.addDue c).pairView = s.pairView := by
  unfold State.addDue
  split <;> rfl

@[simp] theorem State.pairView_complete (s : State) (d : Desc) (st r : Nat) (b : List Byte) (n : Nat) (w : DueWhen) :
    (s.complete d st r b n w).pairView = s.pairView := by
  unfold State.complete
  split
  · rfl
  split
  · exact s.pairView_count _ (by decide)
  split
  · rw [State.pairView_count _ _ (by decide)]; rfl
  split
  · exact s.pairView_addDue _
  split
  · split
    · rfl
    · exact s.pairView_addDue _
  · exact s.pairView_addDue _

@[simp] theorem State.pairView_sendMate (s : State) (f n : Nat) (b : MateBody) : (s.sendMate f n b).pairView = s.pairView := by
  unfold State.sendMate
  split <;> rfl

@[simp] theorem State.pairView_forwardDesc (s : State) (d : Desc) : (s.forwardDesc d).pairView = s.pairView := by
  unfold State.forwardDesc
  split
  · rfl
  · extract_lets u id v w
    rw [State.pairView_sendMate, State.pairView_put _ _ (by decide)]
    unfold w u
    rw [State.pairView_setRings]
    split <;> rfl

@[simp] theorem State.pairView_endStill (s : State) : s.endStill.pairView = s.pairView := by
  unfold State.endStill
  refine foldl_keeps State.pairView _ _ _ fun u j => ?_
  split
  · rfl
  · split
    · exact u.pairView_forwardDesc _
    · rw [State.pairView_complete, State.pairView_dropJob]

end Sys2Proof.Machine

/-! PROOFS. Pair operation: lease tokens, links, handover and priming (R366 to R377). -/

namespace Sys2Proof.Machine

open Sys2Proof

/-! ### Authority taken -/

@[simp] theorem State.pairView_enterHoldover (s : State) : s.enterHoldover.pairView = s.pairView := by
  unfold State.enterHoldover
  extract_lets src t u v w
  rw [State.pairView_record, State.pairView_setNum _ _ (by decide)]
  unfold w v u
  simp only [State.pairView_put _ _ (show (TIM_STATUS_TB0_SRC).addr < PAI_CFG ∨ _ from by decide),
    State.pairView_put _ _ (show (TIM_STATUS_TB0_FAR).addr < PAI_CFG ∨ _ from by decide),
    State.pairView_put _ _ (show (TIM_STATUS_HOLDOVER_EXPIRED).addr < PAI_CFG ∨ _ from by decide),
    State.pairView_put _ _ (show (TIM_STATUS_HOLDOVER).addr < PAI_CFG ∨ _ from by decide),
    State.pairView_put _ _ (show (STK_STATUS_HOLDOVER).addr < PAI_CFG ∨ _ from by decide), State.pairView_setTim]

/-- TB0 in holdover where it followed the mate's (R89). -/
def State.leaveMateTime (s : State) : State :=
  if s.get TIM_STATUS_TB0_SRC = 3 ∧ !s.flag TIM_STATUS_HOLDOVER then s.enterHoldover else s

@[simp] theorem State.pairView_leaveMateTime (s : State) : s.leaveMateTime.pairView = s.pairView := by
  unfold State.leaveMateTime
  split
  · exact s.pairView_enterHoldover
  · rfl

/-- The epoch, the role and the counts of a unit that takes authority (R367). -/
def State.takeRole (s : State) : State :=
  let u := (s.setNum PAI_EPOCH s.newEpoch).setRole (if s.paired then .primary else .unpaired)
  let p := u.pai
  u.setPai { p with seenAuth := true, noAuth := 0, idleHeard := 0, mateStandby := none, ackMiss := 0, logMiss := 0,
                    leaveNext := false, primeSn := none, loaded := false, logs := [], held := [], acked := [], authSn := u.sn }

/-- What a unit does once it has authority: fault 3 ends, the device state, the mesh counters, the takeover recorded, the descriptors
it had forwarded and the strokes it has no log of, the stops held pending (R252, R272, R369, R378). -/
def State.afterRole (s : State) (e cause last : Nat) (missed : List Nat) : State :=
  let s := (s.put PAI_STATUS_PRIMING 0).endPairFault 3
  let s := if s.dev = DevState.priming then s.setDev (if s.flag SYS_CTRL_QUIET then .quiet else .operate) else s
  let s := (s.meshSkip.record EV_TAKEOVER 0 e cause last).count PAI_TAKEOVERS 1
  let fw := s.rings.forwarded
  let s := s.setRings { s.rings with forwarded := [], posted := s.rings.posted.filter fun x => decide (x.ring < 64) }
  let s := s.put PAI_FWD_PENDING_N 0
  let s := missed.foldl State.presentLate s
  (fw.foldl (fun s f => (s.dropDesc f.desc).addJob (s.ringJob f.desc)) s).pendingStops

theorem State.assume_eq (s : State) (cause : Nat) : s.assume cause =
    s.leaveMateTime.takeRole.afterRole s.leaveMateTime.newEpoch cause s.leaveMateTime.pai.done
      (if s.leaveMateTime.role = Role.standby then
        (List.range (s.leaveMateTime.sn - 1 - s.leaveMateTime.pai.done)).map (· + s.leaveMateTime.pai.done + 1) else []) := rfl

theorem State.takeRole_role (s : State) : s.takeRole.role = if s.paired then .primary else .unpaired := by
  simp only [State.takeRole, State.setRole, State.setPai_role, State.put_role]

theorem State.takeRole_seenAuth (s : State) : s.takeRole.pai.seenAuth = true := by
  simp only [State.takeRole, State.setRole, State.setPai_pai]

theorem State.takeRole_sn (s : State) : s.takeRole.sn = s.sn := by
  simp only [State.takeRole, State.setRole, State.setPai_sn, State.put_sn, State.setNum_sn]

theorem State.takeRole_epoch (s : State) : s.takeRole.num PAI_EPOCH = s.newEpoch % 2 ^ 32 := by
  unfold State.takeRole State.setRole
  dsimp only
  rw [State.num_congr (State.setPai_regs _ _), State.num_put_ne _ _ _ (by decide), State.num_put_ne _ _ _ (by decide)]
  exact State.num_setNum _ _ _

theorem State.pairView_afterRole (s : State) (e cause last : Nat) (missed : List Nat) :
    (s.afterRole e cause last missed).pairView = (s.put PAI_STATUS_PRIMING 0).pairView := by
  unfold State.afterRole
  extract_lets a b c fw d x y z
  rw [State.pairView_pendingStops, foldl_keeps State.pairView _ _ _ fun u f => (State.pairView_addJob _ _).trans
    (State.pairView_dropDesc _ _)]
  unfold z
  rw [foldl_keeps State.pairView _ _ _ State.pairView_presentLate]
  unfold y x c
  rw [State.pairView_put _ _ (by decide), State.pairView_setRings, State.pairView_count _ _ (by decide), State.pairView_record,
    State.pairView_meshSkip]
  unfold b
  split
  · exact State.pairView_setDev _ _
  · rfl

theorem State.newEpoch_leaveMateTime (s : State) : s.leaveMateTime.newEpoch = s.newEpoch := by
  have hv := s.pairView_leaveMateTime
  have hflt : s.leaveMateTime.flt = s.flt := by
    unfold State.leaveMateTime State.enterHoldover
    split
    · simp only [State.record_flt, State.setNum_flt, State.put_flt, State.setTim_flt]
    · rfl
  have hknown : s.leaveMateTime.pai.known = s.pai.known := State.known_of_pairView hv
  unfold State.newEpoch State.epochKnown
  rw [State.num_of_pairView hv (a := PAI_EPOCH) (by decide), State.num_of_pairView hv (a := PAI_EPOCH_FLOOR) (by decide), hflt, hknown,
    State.sn_of_pairView hv]

/-- A unit that assumes authority: its role, that it has seen authority, its stroke, its epoch. -/
theorem State.assume_taken (s : State) (cause : Nat) :
    (s.assume cause).role = (if s.paired then .primary else .unpaired) ∧ (s.assume cause).pai.seenAuth = true ∧
      (s.assume cause).sn = s.sn ∧ (s.assume cause).num PAI_EPOCH = s.newEpoch % 2 ^ 32 := by
  have hv : (s.assume cause).pairView = (s.leaveMateTime.takeRole.put PAI_STATUS_PRIMING 0).pairView := by
    rw [State.assume_eq]
    exact State.pairView_afterRole _ _ _ _ _
  have hm := s.pairView_leaveMateTime
  refine ⟨?_, ?_, ?_, ?_⟩
  · refine (State.role_of_pairView hv).trans ?_
    have hpaired : s.leaveMateTime.paired = s.paired := by
      unfold State.paired State.flag
      rw [State.get_of_pairView hm (by decide)]
    rw [State.put_role, State.takeRole_role, hpaired]
  · rw [State.seenAuth_of_pairView hv, State.put_pai, State.takeRole_seenAuth]
  · rw [State.sn_of_pairView hv, State.put_sn, State.takeRole_sn, State.sn_of_pairView hm]
  · rw [State.num_of_pairView hv (by decide), State.num_put_ne _ _ _ (by decide), State.takeRole_epoch, s.newEpoch_leaveMateTime]

/-! ### Lease tokens (R366) -/

section
variable {s : State}

theorem exec_leaseTokenTx_sends (hp : s.paired = true) (hst : s.stroked = true) (hv : (s.serving || s.dev == .halt) = true)
    (hk : s.keyLive 10 0 s.key.log.gen s.key.log.slot = true) :
    exec .leaseTokenTx s = .next (s.emit (.token ([0x55, 0x55, 0xD5] ++ s.tokenBody ++
      ccm (s.logKey s.key.log.gen s.key.log.slot) (leBytes 1 (0xA0 + b2n s.straps.pairId) ++ leBytes 8 s.sn ++ [0, 0, 0, 0])
        s.tokenBody [] 8))) := by
  change execLeaseTokenTx s = _
  unfold execLeaseTokenTx
  rw [if_pos (by rw [hp, hst, hv, hk]; rfl)]

theorem exec_leaseTokenTx_silent
    (h : (s.paired && s.stroked && (s.serving || s.dev == .halt) && s.keyLive 10 0 s.key.log.gen s.key.log.slot) = false) :
    exec .leaseTokenTx s = .next s := by
  change execLeaseTokenTx s = _
  unfold execLeaseTokenTx
  rw [if_neg (by rw [h]; decide)]

theorem exec_leaseTokenRx_deaf {b : List Byte} {m : Option Nat} {ns : Nat}
    (h : (s.paired && (s.serving || s.dev == .halt)) = false) : exec (.leaseTokenRx b m ns) s = .next s := by
  change execLeaseTokenRx b m ns s = _
  unfold execLeaseTokenRx
  rw [if_pos (by rw [← Bool.not_and, h]; rfl)]

theorem exec_leaseTokenRx_bad {b : List Byte} {m : Option Nat} {ns : Nat} (hp : s.paired = true)
    (hv : (s.serving || s.dev == .halt) = true) (hb : (s.micGood m && s.tokenSnOk (readToken b).sn) = false) :
    exec (.leaseTokenRx b m ns) s = .next ((s.noteMic (s.micGood m)).count PAI_TOKEN_ERR 1) := by
  have hap := s.noteMic_apart (s.micGood m)
  have hsn : (s.noteMic (s.micGood m)).tokenSnOk (readToken b).sn = s.tokenSnOk (readToken b).sn :=
    congrArg (fun t => t.tokenSnOk (readToken b).sn) hap
  change execLeaseTokenRx b m ns s = _
  unfold execLeaseTokenRx
  simp only [hp, hv, hsn, Bool.not_true, Bool.or_self, Bool.false_eq_true, if_false]
  rw [if_pos (by rw [← Bool.not_and, hb]; rfl)]

/-- A valid token noted: its fields and its grant, and the register's view of them. -/
def State.tokenNoted (s : State) (t : Token) : State :=
  let p := s.pai
  let was := match p.token with | some x => x.auth | none => false
  let s := s.setPai { p with
    token := some t, tokSn := s.now, tokPeriod := s.tim.periods, tokNow := true
    authTokSn := if t.auth then some s.now else p.authTokSn
    released := p.released || t.halt || (!t.auth && was)
    given := if t.auth then t.lease else p.given
    grant := if t.auth then p.grant else if t.lease = 0 then 0 else nearSn s.sn t.lease }
  (s.put PAI_STATUS_MATE_ROLE t.role).put PAI_STATUS_LEASE_VALID (b2n (decide (s.sn < s.pai.grant)))

/-- A valid token judged: configuration faults, epoch and pair faults (R357, R367, R372). -/
def State.tokenJudged (s : State) (t : Token) (ns : Nat) : State :=
  if s.dev = DevState.halt then s
  else
    let s := if t.unit = b2n s.straps.pairId then s.addMism 1 else s.dropMism 1
    let s := if t.pref = s.straps.pairPref then s.addMism 4 else s.dropMism 4
    let s := s.seeEpoch t.epoch t.auth ns
    if s.dev == .operate && t.state == 5 && t.stopDigest != s.stopDigest then
      let s := s.setPai { s.pai with stopDiff := s.pai.stopDiff + 1 }
      if 2 ≤ s.pai.stopDiff then s.pairFault 2 t.epoch ns else s
    else (s.setPai { s.pai with stopDiff := 0 }).endPairFault 2

theorem exec_leaseTokenRx_good {b : List Byte} {m : Option Nat} {ns : Nat} (hp : s.paired = true)
    (hv : (s.serving || s.dev == .halt) = true) (hm : s.micGood m = true) (hk : s.tokenSnOk (readToken b).sn = true) :
    exec (.leaseTokenRx b m ns) s = .next (((s.noteMic true).tokenNoted (readToken b)).tokenJudged (readToken b) ns) := by
  have hap := s.noteMic_apart true
  have hsn : (s.noteMic true).tokenSnOk (readToken b).sn = true :=
    (congrArg (fun t => t.tokenSnOk (readToken b).sn) hap).trans hk
  change execLeaseTokenRx b m ns s = _
  unfold execLeaseTokenRx
  simp only [hp, hv, hm, hsn, Bool.not_true, Bool.or_self, Bool.false_eq_true, if_false]
  rfl

/-- What the judging of a token leaves: the token, its stroke, the grants and the mate's role. -/
def State.tokenView (s : State) : Option Token × Nat × Bool × Nat × Nat × Nat :=
  (s.pai.token, s.pai.tokSn, s.pai.tokNow, s.pai.grant, s.pai.given, s.get PAI_STATUS_MATE_ROLE)

theorem State.tokenView_of_pairView {t : State} (h : t.pairView = s.pairView) : t.tokenView = s.tokenView := by
  have hg : t.get PAI_STATUS_MATE_ROLE = s.get PAI_STATUS_MATE_ROLE := State.get_of_pairView h (by decide)
  have hp := congrArg (fun v => (v.2.token, v.2.tokSn, v.2.tokNow, v.2.grant, v.2.given)) h
  simp only [Prod.mk.injEq] at hp
  obtain ⟨h1, h2, h3, h4, h5⟩ := hp
  unfold State.tokenView
  rw [hg, show t.pai.token = s.pai.token from h1, show t.pai.tokSn = s.pai.tokSn from h2, show t.pai.tokNow = s.pai.tokNow from h3,
    show t.pai.grant = s.pai.grant from h4, show t.pai.given = s.pai.given from h5]

theorem State.tokenView_put_mism (s : State) (v : Nat) : (s.put PAI_STATUS_CFG_MISMATCH v).tokenView = s.tokenView := by
  unfold State.tokenView
  rw [State.put_pai, State.get_put_apart _ PAI_STATUS_CFG_MISMATCH PAI_STATUS_MATE_ROLE _ rfl (by decide) (by decide)]

theorem State.tokenView_record (s : State) (c x p q r : Nat) : (s.record c x p q r).tokenView = s.tokenView := (rfl)

theorem State.tokenView_addMism (s : State) (c : Nat) : (s.addMism c).tokenView = s.tokenView := by
  unfold State.addMism
  split
  · rfl
  · extract_lets said p u w
    have hw : w.tokenView = s.tokenView := u.tokenView_put_mism 1
    split
    · exact hw
    · exact (w.tokenView_record _ _ _ _ _).trans hw

theorem State.tokenView_dropMism (s : State) (c : Nat) : (s.dropMism c).tokenView = s.tokenView :=
  State.tokenView_put_mism _ _

theorem State.tokenView_seeEpoch (s : State) (e : Nat) (a : Bool) (ns : Nat) : (s.seeEpoch e a ns).tokenView = s.tokenView := by
  unfold State.seeEpoch
  extract_lets p u
  have hu : u.tokenView = s.tokenView := rfl
  split
  · split
    · exact (State.tokenView_of_pairView (u.pairView_pairFault _ _ _)).trans hu
    · exact hu
  · unfold State.peak
    split
    · have hget : (u.setNum PAI_EPOCH e).get PAI_STATUS_MATE_ROLE = u.get PAI_STATUS_MATE_ROLE :=
        u.get_setNum_ne e PAI_STATUS_MATE_ROLE (by decide)
      unfold State.tokenView
      rw [hget]
      exact hu
    · exact hu

theorem State.tokenView_tokenJudged (s : State) (t : Token) (ns : Nat) : (s.tokenJudged t ns).tokenView = s.tokenView := by
  unfold State.tokenJudged
  split
  · rfl
  · extract_lets u v w p x
    have hu : u.tokenView = s.tokenView := by
      unfold u
      split
      · exact s.tokenView_addMism 1
      · exact s.tokenView_dropMism 1
    have hv : v.tokenView = u.tokenView := by
      unfold v
      split
      · exact u.tokenView_addMism 4
      · exact u.tokenView_dropMism 4
    have hw : w.tokenView = s.tokenView := ((v.tokenView_seeEpoch _ _ _).trans hv).trans hu
    split
    · split
      · exact (State.tokenView_of_pairView (x.pairView_pairFault _ _ _)).trans hw
      · exact hw
    · exact hw

/-- A valid token's fields and grant stand after it. -/
theorem exec_leaseTokenRx_noted {b : List Byte} {m : Option Nat} {ns : Nat} (hp : s.paired = true)
    (hv : (s.serving || s.dev == .halt) = true) (hm : s.micGood m = true) (hk : s.tokenSnOk (readToken b).sn = true) :
    let k := readToken b
    ∃ t, exec (.leaseTokenRx b m ns) s = .next t ∧ t.pai.token = some k ∧ t.pai.tokSn = s.now ∧ t.pai.tokNow = true ∧
      t.pai.grant = (if k.auth then s.pai.grant else if k.lease = 0 then 0 else nearSn s.sn k.lease) ∧
      t.pai.given = (if k.auth then k.lease else s.pai.given) ∧ t.get PAI_STATUS_MATE_ROLE = k.role := by
  intro k
  have hap := s.noteMic_apart true
  have hnow : (s.noteMic true).now = s.now := congrArg (fun t => t.now) hap
  have hsn : (s.noteMic true).sn = s.sn := State.sn_of_apart hap
  have hgrant : (s.noteMic true).pai.grant = s.pai.grant := congrArg (fun t => t.pai.grant) hap
  have hgiven : (s.noteMic true).pai.given = s.pai.given := congrArg (fun t => t.pai.given) hap
  have hrole : k.role % 4 = k.role := Nat.mod_mod _ _
  have hview := State.tokenView_tokenJudged ((s.noteMic true).tokenNoted k) k ns
  have hnoted : ((s.noteMic true).tokenNoted k).tokenView = (some k, s.now, true,
      (if k.auth then s.pai.grant else if k.lease = 0 then 0 else nearSn s.sn k.lease),
      (if k.auth then k.lease else s.pai.given), k.role) := by
    unfold State.tokenNoted State.tokenView
    dsimp only
    rw [State.get_put_apart _ PAI_STATUS_LEASE_VALID PAI_STATUS_MATE_ROLE _ rfl (by decide) (by decide),
      State.get_put _ PAI_STATUS_MATE_ROLE _ (by decide)]
    simp only [State.put_pai, State.setPai_pai, hnow, hsn, hgrant, hgiven]
    rw [show 2 ^ PAI_STATUS_MATE_ROLE.width = 4 from rfl, hrole]
  rw [hnoted] at hview
  unfold State.tokenView at hview
  simp only [Prod.mk.injEq] at hview
  exact ⟨_, exec_leaseTokenRx_good hp hv hm hk, hview⟩

/-! ### Links and pair fault 3 (R366, R368, R372) -/

theorem exec_pairFaultNoAuthority_raised {ns : Nat} (hv : s.serving = true) (hp : s.paired = true) (hl : s.stopLive = true)
    (hn : 40 ≤ s.pai.noAuth) : exec (.pairFaultNoAuthority ns) s = .next (s.pairFault 3 s.mateEpoch ns) := by
  change execPairFaultNoAuthority ns s = _
  simp [execPairFaultNoAuthority, hv, hp, hl, hn]

theorem exec_pairFaultNoAuthority_none {ns : Nat}
    (h : (s.serving && s.paired && s.stopLive && decide (40 ≤ s.pai.noAuth)) = false) :
    exec (.pairFaultNoAuthority ns) s = .next s := by
  change execPairFaultNoAuthority ns s = _
  unfold execPairFaultNoAuthority
  split
  · rfl
  · next hv =>
    rw [Bool.not_eq_true, Bool.not_eq_false'] at hv
    rw [hv, Bool.true_and] at h
    rw [if_neg (by rw [h]; decide)]

/-- A valid token in each of the last four strokes. -/
theorem tokLast_full_iff (l : List Bool) : (l.length == 4 && l.all id) = true ↔ l = [true, true, true, true] := by
  rw [Bool.and_eq_true, beq_iff_eq, List.all_eq_true, show [true, true, true, true] = List.replicate 4 true from rfl,
    List.eq_replicate_iff]
  rfl

theorem exec_leaseLink_up (hv : s.serving = true) (hp : s.paired = true) (ht : s.pai.tokLast = [true, true, true, true])
    (hf : s.flag PAI_STATUS_LEASE_LINK = false) :
    exec .leaseLink s = .next ((s.put PAI_STATUS_LEASE_LINK 1).record EV_LEASE_LINK 0 1 0 0) := by
  change execLeaseLink s = _
  simp [execLeaseLink, hv, hp, ht, hf, b2n]

theorem exec_leaseLink_down (hv : s.serving = true) (ht : s.pai.tokLast ≠ [true, true, true, true])
    (hf : s.flag PAI_STATUS_LEASE_LINK = true) :
    exec .leaseLink s = .next ((s.put PAI_STATUS_LEASE_LINK 0).record EV_LEASE_LINK 0 0 0 0) := by
  have hup : (s.pai.tokLast.length == 4 && s.pai.tokLast.all id) = false :=
    Bool.eq_false_iff.mpr fun h => ht ((tokLast_full_iff _).mp h)
  change execLeaseLink s = _
  unfold execLeaseLink
  simp only [Bool.and_assoc, hup, hv, hf, Bool.and_false]
  rfl

theorem exec_leaseLink_same (h : s.serving = false ∨
    s.flag PAI_STATUS_LEASE_LINK = (s.paired && s.pai.tokLast.length == 4 && s.pai.tokLast.all id)) :
    exec .leaseLink s = .next s := by
  change execLeaseLink s = _
  unfold execLeaseLink
  rcases h with hv | hf
  · rw [if_pos (by rw [hv]; rfl)]
  · dsimp only
    rw [if_pos hf, ite_self]

theorem exec_mateLink_up (hv : s.serving = true) (hp : s.paired = true) (hr : s.frameRecent = true)
    (hf : s.flag PAI_STATUS_MATE_LINK = false) :
    exec .mateLink s = .next ((s.put PAI_STATUS_MATE_LINK 1).record EV_MATE_LINK 0 1 0 0) := by
  change execMateLink s = _
  simp [execMateLink, hv, hp, hr, hf, b2n]

theorem exec_mateLink_down (hv : s.serving = true) (hr : s.frameRecent = false) (hf : s.flag PAI_STATUS_MATE_LINK = true) :
    exec .mateLink s = .next ((s.put PAI_STATUS_MATE_LINK 0).record EV_MATE_LINK 0 0 0 0) := by
  change execMateLink s = _
  simp [execMateLink, hv, hr, hf, b2n]

theorem exec_mateLink_same (h : s.serving = false ∨ s.flag PAI_STATUS_MATE_LINK = (s.paired && s.frameRecent)) :
    exec .mateLink s = .next s := by
  change execMateLink s = _
  unfold execMateLink
  rcases h with hv | hf
  · rw [if_pos (by rw [hv]; rfl)]
  · dsimp only
    rw [if_pos hf, ite_self]

/-! ### Handover and authority (R373, R375) -/

theorem exec_autoTakeback_asks {t : Token} (hv : s.serving = true) (ha : s.flag PAI_CFG_AUTO_TAKEBACK = true)
    (hp : s.straps.pairPref = true) (hr : s.role = .standby) (hn : s.num PAI_HOLDOFF ≤ s.num PAI_CLEAN_RUN)
    (ht : s.pai.token = some t) (htp : t.pref = false) (hh : s.pai.hand = none) :
    exec .autoTakeback s = .next (s.setPai { s.pai with handReq := true }) := by
  change execAutoTakeback s = _
  simp [execAutoTakeback, hv, ha, hp, hr, hn, ht, htp, hh]

theorem exec_autoTakeback_none (h : s.serving = false ∨ s.flag PAI_CFG_AUTO_TAKEBACK = false ∨ s.straps.pairPref = false ∨
    s.role ≠ .standby ∨ s.num PAI_CLEAN_RUN < s.num PAI_HOLDOFF ∨ s.pai.token = none ∨ s.pai.hand.isSome = true) :
    exec .autoTakeback s = .next s := by
  change execAutoTakeback s = _
  unfold execAutoTakeback
  rcases h with h | h | h | h | h | h | h
  · simp [h]
  · simp [h]
  · simp [h]
  · simp [h]
  · simp [Nat.not_le.mpr h]
  · simp [h]
  · simp [Option.isSome_iff_ne_none.mp h]

theorem exec_handoverStill_none (h : s.serving = false ∨ s.pai.hand = none ∨ s.pai.handDone = true) :
    exec .handoverStillStroke s = .next s := by
  change execHandoverStillStroke s = _
  unfold execHandoverStillStroke
  rcases h with h | h | h
  · simp [h]
  · simp [h]
  · cases hh : s.pai.hand <;> simp [h]

section
variable {k : Nat} (hv : s.serving = true) (hh : s.pai.hand = some k) (hd : s.pai.handDone = false)
include hv hh hd

theorem exec_handoverStill_holds (hr : s.role = .primary) (hs : s.sn = k) :
    exec .handoverStillStroke s = .next (s.setDisp { s.disp with holdRepl := true }) := by
  change execHandoverStillStroke s = _
  simp [execHandoverStillStroke, hv, hh, hd, hr, hs]

/-- The primary of stroke `k` stands by from the next on: its role, its pair, and no hold. -/
def State.standAside (s : State) (k : Nat) : State :=
  let s := s.setRole .standby
  let s := s.setPai { s.pai with handDone := true, mateStandby := none, done := k, logs := [], held := [], acked := [] }
  s.setDisp { s.disp with holdRepl := false }

theorem exec_handoverStill_yields (hr : s.role = .primary) (hs : k < s.sn) (ha : s.pai.acked.contains k = true)
    (ho : ∀ x ∈ s.pai.held, k < x) : exec .handoverStillStroke s =
      .next ((s.standAside k).endStill.record EV_YIELD 0 5 s.mateEpoch 0) := by
  have hall : (s.pai.held.all fun x => decide (k < x)) = true := List.all_eq_true.mpr fun x hx => decide_eq_true (ho x hx)
  change execHandoverStillStroke s = _
  unfold execHandoverStillStroke
  simp only [hv, hh, hd, hr, Nat.ne_of_gt hs, ha, hall, hs, Bool.not_true, Bool.false_eq_true, if_false, if_true, decide_true,
    Bool.and_self]
  rfl

theorem exec_handoverStill_standsAside (hr : s.role = .primary) (hs : k < s.sn) (ha : s.pai.acked.contains k = true)
    (ho : ∀ x ∈ s.pai.held, k < x) :
    ∃ t, exec .handoverStillStroke s = .next t ∧ t.role = .standby ∧ t.pai.handDone = true ∧ t.pai.mateStandby = none ∧
      t.disp.holdRepl = false ∧ t.get PAI_STATUS_ROLE = Role.standby.code := by
  have hview : ((s.standAside k).endStill.record EV_YIELD 0 5 s.mateEpoch 0).pairView = (s.standAside k).pairView := by
    rw [State.pairView_record, State.pairView_endStill]
  refine ⟨_, exec_handoverStill_yields hv hh hd hr hs ha ho, (State.role_of_pairView hview).trans ?_,
    (State.handDone_of_pairView hview).trans ?_, (State.mateStandby_of_pairView hview).trans ?_,
    (State.hold_of_pairView hview).trans ?_, (State.get_of_pairView hview (by decide)).trans ?_⟩
  · simp only [State.standAside, State.setRole, State.setDisp_role, State.setPai_role, State.put_role]
  · simp only [State.standAside, State.setDisp_pai, State.setPai_pai]
  · simp only [State.standAside, State.setDisp_pai, State.setPai_pai]
  · simp only [State.standAside, State.setDisp_disp]
  · unfold State.standAside State.setRole
    dsimp only
    rw [State.get_congr (State.setDisp_regs _ _), State.get_congr (State.setPai_regs _ _),
      State.get_put_other _ SYS_STATUS_ROLE PAI_STATUS_ROLE _ (by decide), State.get_put _ PAI_STATUS_ROLE _ (by decide)]
    rfl

theorem exec_handoverStill_takes (hr : s.role = .standby) (hs : s.sn = k + 1) (hf : s.pai.handFinal = true)
    (ho : k ≤ s.pai.done) (hp : s.paired = true) :
    ∃ t, exec .handoverStillStroke s = .next t ∧ t.role = .primary ∧ t.pai.handDone = true ∧ t.pai.mateStandby = some s.sn := by
  obtain ⟨hrole, -, hsn, -⟩ := s.assume_taken 3
  refine ⟨(s.assume 3).setPai { (s.assume 3).pai with handDone := true, mateStandby := some (s.assume 3).sn }, ?_, ?_, rfl, ?_⟩
  · change execHandoverStillStroke s = _
    unfold execHandoverStillStroke
    simp [hv, hh, hd, hr, hs, hf, ho]
  · rw [State.setPai_role, hrole, hp]; rfl
  · rw [State.setPai_pai, hsn]
end

theorem exec_authorityAssume_takes (hst : s.stroked = true) (hv : s.serving = true) (hr : s.role = .notStanding)
    (hp : s.straps.pairPref = true) (ha : s.pai.seenAuth = false) (hi : 400 ≤ s.pai.idleHeard) (hm : s.mismBlock = false) :
    exec .authorityAssume s = .next (s.assume 5) := by
  change execAuthorityAssume s = _
  simp [execAuthorityAssume, hst, hv, hr, hp, ha, hi, hm]

theorem exec_authorityAssume_none (h : s.stroked = false ∨ s.serving = false ∨ s.role ≠ .notStanding ∨ s.straps.pairPref = false ∨
    s.pai.seenAuth = true ∨ s.pai.idleHeard < 400 ∨ s.mismBlock = true) : exec .authorityAssume s = .next s := by
  change execAuthorityAssume s = _
  unfold execAuthorityAssume
  rcases h with h | h | h | h | h | h | h
  · simp [h]
  · simp [h]
  · simp [h]
  · simp [h]
  · simp [h]
  · simp [Nat.not_le.mpr h]
  · simp [h]

/-! ### Priming (R377) -/

section
variable {u : State} {h : MateHdr}

theorem exec_primeReqRx_taken (p : List Byte) (hu : s.takeFrame h false 0 = (u, true)) :
    let w := u.dropMism 2
    exec (.primeReqRx h p) s = .next (if p != u.digestShown then u.addMism 2
      else if w.role = .primary ∧ w.linksGood ∧ w.pai.snapAt = none then
        ((w.setPai { w.pai with snapAt := some (w.sn + 1), mateStandby := none }).drawn.record EV_PRIME_START 0 (w.sn + 1)
          (Config.freeNat w.free) 0) else w) := by
  intro w
  have hcond : (w.role != .primary || !w.linksGood || w.pai.snapAt.isSome) =
      !decide (w.role = .primary ∧ w.linksGood = true ∧ w.pai.snapAt = none) := by
    by_cases hr : w.role = .primary <;> cases hl : w.linksGood <;> cases hs : w.pai.snapAt <;> simp [hr]
  change execPrimeReqRx h p s = _
  unfold execPrimeReqRx
  rw [hu]
  simp only [Bool.not_true, Bool.false_eq_true, if_false]
  rw [hcond]
  by_cases hc : w.role = .primary ∧ w.linksGood = true ∧ w.pai.snapAt = none
  · simp only [hc, and_self, decide_true, Bool.not_true, Bool.false_eq_true, if_false, if_true]; rfl
  · simp only [hc, decide_false, Bool.not_false, if_true, if_false]; rfl

theorem exec_snapshotRx_ignored (b : Bool) (o : Option Snapshot) (hu : s.takeFrame h true 0 = (u, true))
    (hc : s.role ≠ .notStanding ∧ s.authority = false ∨ s.role = .notStanding ∧ (s.pai.primeSn = none ∨ s.pai.loaded = true)) :
    exec (.snapshotRx h b o) s = .next u := by
  have hauth : s.authority = false := by
    rcases hc with ⟨-, ha⟩ | ⟨hr, -⟩
    · exact ha
    · simp [State.authority, hr]
  have hap := State.apart_of_taken hu (.inr hauth)
  have hrole := State.role_of_apart hap
  have hprime : u.pai.primeSn = s.pai.primeSn := congrArg (fun t => t.pai.primeSn) hap
  have hload : u.pai.loaded = s.pai.loaded := congrArg (fun t => t.pai.loaded) hap
  change execSnapshotRx h b o s = _
  unfold execSnapshotRx
  rw [hu]
  rcases hc with ⟨hr, -⟩ | ⟨hr, hp | hl⟩
  · simp [hrole, hr]
  · simp [hrole, hr, hprime, hp]
  · simp [hrole, hr, hload, hl]

section
variable {k : Nat} (hu : s.takeFrame h true 0 = (u, true)) (hr : s.role = .notStanding) (hp : s.pai.primeSn = some k)
  (hl : s.pai.loaded = false)
include hu hr hp hl

/-- What the unit that is primed finds when a snapshot frame is taken. -/
theorem State.primed_of_taken : u.role = .notStanding ∧ u.pai.primeSn = some k ∧ u.pai.loaded = false ∧
    u.pai.snapNext = s.pai.snapNext := by
  have hap := State.apart_of_taken hu (.inr (by simp [State.authority, hr]))
  exact ⟨(State.role_of_apart hap).trans hr, (congrArg (fun t => t.pai.primeSn) hap).trans hp,
    (congrArg (fun t => t.pai.loaded) hap).trans hl, congrArg (fun t => t.pai.snapNext) hap⟩

/-- A snapshot frame in order: the replicated state loaded with the last. -/
def State.snapshotTaken (w : State) (b : Bool) (o : Option Snapshot) : State :=
  match b, o with
  | true, some x => (w.loadSnapshot x).runLogs 4
  | _, _ => w

theorem exec_snapshotRx_next (b : Bool) (o : Option Snapshot) (hf : h.frag = s.pai.snapNext) :
    exec (.snapshotRx h b o) s =
      .next ((u.setPai { u.pai with snapNext := u.pai.snapNext + 1 }).snapshotTaken b o) := by
  obtain ⟨hur, hup, hul, hun⟩ := State.primed_of_taken hu hr hp hl
  change execSnapshotRx h b o s = _
  unfold execSnapshotRx
  rw [hu]
  simp only [hur, hup, hul, hf, ← hun, Bool.not_true, bne_self_eq_false, Option.isNone_some, Bool.or_self, Bool.false_eq_true,
    if_false]
  rfl

theorem exec_snapshotRx_gap (b : Bool) (o : Option Snapshot) (hf : h.frag ≠ s.pai.snapNext) :
    exec (.snapshotRx h b o) s = .next (u.setPai { u.pai with primeFail := some 2 }) := by
  obtain ⟨hur, hup, hul, hun⟩ := State.primed_of_taken hu hr hp hl
  change execSnapshotRx h b o s = _
  unfold execSnapshotRx
  rw [hu]
  simp [hur, hup, hul, hun, hf]
end
end

theorem exec_primeFail_cause {k c : Nat} (hv : s.serving = true) (hr : s.role = .notStanding) (hp : s.pai.primeSn = some k)
    (hg : s.linksGood = true) (hc : s.pai.primeFail = some c) :
    exec .primeFail s = .next ((s.record EV_PRIME_FAIL 0 c s.sn 0).requestPrime) := by
  change execPrimeFail s = _
  simp [execPrimeFail, hv, hr, hp, hg, hc]

theorem exec_primeFail_link {k : Nat} (hv : s.serving = true) (hr : s.role = .notStanding) (hp : s.pai.primeSn = some k)
    (hg : s.linksGood = false) :
    exec .primeFail s = .next ((s.record EV_PRIME_FAIL 0 (s.pai.primeFail.getD 4) s.sn 0).requestPrime) := by
  change execPrimeFail s = _
  simp [execPrimeFail, hv, hr, hp, hg]

theorem exec_primeFail_none (h : s.serving = false ∨ s.role ≠ .notStanding ∨ s.pai.primeSn = none ∨
    (s.linksGood = true ∧ s.pai.primeFail = none)) : exec .primeFail s = .next s := by
  change execPrimeFail s = _
  unfold execPrimeFail
  rcases h with h | h | h | ⟨hg, hf⟩
  · simp [h]
  · simp [h]
  · simp [h]
  · simp [hg, hf]

end

/-- Settles O45: each row of the lease link, of handover and of priming acts by the lemma of its case; what the taking of authority and
the judging of a token leave of the pair is said once, by its view. -/
theorem leaseAndAuthority : Obligations.LeaseAndAuthority := by
  unfold Obligations.LeaseAndAuthority
  refine ⟨fun s hp hst hv hk => exec_leaseTokenTx_sends hp hst hv hk, fun s hc => exec_leaseTokenTx_silent hc,
    fun b m ns s hc => exec_leaseTokenRx_deaf hc, fun b m ns s hp hv hb => exec_leaseTokenRx_bad hp hv hb,
    fun b m ns s hp hv hm hk => exec_leaseTokenRx_noted hp hv hm hk,
    fun ns s hv hp hl hn => exec_pairFaultNoAuthority_raised hv hp hl hn, fun ns s hc => exec_pairFaultNoAuthority_none hc,
    fun s hv hp ht hf => exec_leaseLink_up hv hp ht hf, fun s hv ht hf => exec_leaseLink_down hv ht.1 hf,
    fun s hc => exec_leaseLink_same hc, fun s hv hp hr hf => exec_mateLink_up hv hp hr hf,
    fun s hv hr hf => exec_mateLink_down hv hr hf, fun s hc => exec_mateLink_same hc,
    fun t s hv ha hp hr hn ht htp hh => exec_autoTakeback_asks hv ha hp hr hn ht htp hh, fun s hc => exec_autoTakeback_none hc,
    fun s hc => exec_handoverStill_none hc, fun k s hv hh hd hr hs => exec_handoverStill_holds hv hh hd hr hs,
    fun k s hv hh hd hr hs ha ho => exec_handoverStill_standsAside hv hh hd hr hs ha ho,
    fun k s hv hh hd hr hs hf ho hp => exec_handoverStill_takes hv hh hd hr hs hf ho hp, ?cold,
    fun s hc => exec_authorityAssume_none hc, fun h p u s hu => exec_primeReqRx_taken p hu,
    fun h b o u s hu hc => exec_snapshotRx_ignored b o hu hc, ?snapshot,
    fun h b o k u s hu hr hp hl hf => exec_snapshotRx_gap hu hr hp hl b o hf,
    fun k c s hv hr hp hg hc => exec_primeFail_cause hv hr hp hg hc, fun k s hv hr hp hg => exec_primeFail_link hv hr hp hg,
    fun s hc => exec_primeFail_none hc⟩
  case cold =>
    intro s hst hv hr hp ha hi hm hpair
    obtain ⟨hrole, hseen, -, hepoch⟩ := s.assume_taken 5
    exact ⟨_, exec_authorityAssume_takes hst hv hr hp ha hi hm, rfl, by rw [hrole, hpair]; rfl, hseen, hepoch⟩
  case snapshot =>
    intro h b o k u s hu hr hp hl hf
    exact exec_snapshotRx_next hu hr hp hl b o hf

end Sys2Proof.Machine

/-! PROOFS. The PAIR commands (R373 to R379). -/

namespace Sys2Proof.Machine

open Sys2Proof

theorem leBytes_length (k : Nat) : ∀ v : Nat, (leBytes k v).length = k := by
  induction k with
  | zero => exact fun _ => rfl
  | succ k ih => intro v; rw [leBytes, List.length_cons, ih]

theorem State.digestShown_length (s : State) : s.digestShown.length = 32 := by
  unfold State.digestShown
  rw [List.length_flatMap, List.map_congr_left fun n _ => leBytes_length 4 _]
  rfl

/-- A unit that leaves STANDBY stands by no more. -/
theorem State.leaveStandby_role (s : State) : s.leaveStandby.role = .notStanding := by
  unfold State.leaveStandby State.toPriming
  extract_lets u p v w
  have hw : w.role = .notStanding := by
    simp only [w, v, u, State.put_role, State.setPai_role, State.setNum_role, State.setRole]
  split
  · rw [State.setDev_role, hw]
  · exact hw

/-- The bytes PAI_QUERY answers. -/
def State.pairStatus (s : State) : List Byte :=
  leBytes 4 (s.num PAI_STATUS) ++ leBytes 4 (s.num PAI_EPOCH) ++ leBytes 4 s.mateEpoch ++ leBytes 4 (s.num PAI_CLEAN_RUN) ++
    leBytes 8 (if s.role = Role.primary then s.sn - 1 else s.pai.done) ++ leBytes 8 (s.num64 PAI_LAST_BAD_LO PAI_LAST_BAD_HI) ++
    s.digestShown

theorem State.pairStatus_length (s : State) : s.pairStatus.length = 64 := by
  simp only [State.pairStatus, List.length_append, leBytes_length, State.digestShown_length]

theorem State.pairStatus_take (s : State) :
    s.pairStatus.take 12 = leBytes 4 (s.num PAI_STATUS) ++ leBytes 4 (s.num PAI_EPOCH) ++ leBytes 4 s.mateEpoch := by
  unfold State.pairStatus
  rw [List.append_assoc, List.append_assoc, List.append_assoc,
    List.take_left' (by simp only [List.length_append, leBytes_length])]

section
variable {d : Desc} {s : State} (h : Runs s d)
include h

theorem exec_paiQuery_answers : exec (.paiQuery d) s = .next (s.finish d (s.answer d s.pairStatus)) := by
  change execPaiQuery d s = _
  exact h.next_command rfl

/-- On an unpaired unit the four commands that act are refused. -/
theorem exec_pai_unpaired (hp : s.paired = false) :
    exec (.paiHandover d) s = .next (s.finish d (s.fail 0x10)) ∧ exec (.paiDetach d) s = .next (s.finish d (s.fail 0x10)) ∧
      exec (.paiPrime d) s = .next (s.finish d (s.fail 0x10)) ∧ exec (.paiAssume d) s = .next (s.finish d (s.fail 0x10)) := by
  refine ⟨?_, ?_, ?_, ?_⟩
  · change execPaiHandover d s = _
    exact h.next_command (by simp [hp])
  · change execPaiDetach d s = _
    exact h.next_command (by simp [hp])
  · change execPaiPrime d s = _
    exact h.next_command (by simp [hp])
  · change execPaiAssume d s = _
    exact h.next_command (by simp [hp])

section
variable (hp : s.paired = true)
include hp

/-! ### PAI_HANDOVER -/

theorem exec_paiHandover_primary {k : Nat} (hh : s.pai.hand = none) (hr : s.role = .primary) (hm : s.pai.mateStandby = some k) :
    exec (.paiHandover d) s =
      .next (s.finish d ((s.setPai { s.pai with handDescs := s.pai.handDescs ++ [d] }).announce s.sn).later) := by
  change execPaiHandover d s = _
  exact h.next_command (by simp [hp, hh, hr, hm])

theorem exec_paiHandover_pending {k : Nat} (hh : s.pai.hand = some k) :
    exec (.paiHandover d) s = .next (s.finish d (s.fail 0x12)) := by
  change execPaiHandover d s = _
  exact h.next_command (by simp [hp, hh])

theorem exec_paiHandover_standby (hh : s.pai.hand = none) (hr : s.role = .standby) : exec (.paiHandover d) s =
    .next (s.finish d (s.setPai { s.pai with handReq := true, handDescs := s.pai.handDescs ++ [d] }).later) := by
  change execPaiHandover d s = _
  exact h.next_command (by simp [hp, hh, hr])

theorem exec_paiHandover_not_ready (hh : s.pai.hand = none)
    (hr : s.role = .primary ∧ s.pai.mateStandby = none ∨ s.role = .notStanding) :
    exec (.paiHandover d) s = .next (s.finish d (s.fail 0x11)) := by
  change execPaiHandover d s = _
  rcases hr with ⟨hr, hm⟩ | hr
  · exact h.next_command (by simp [hp, hh, hr, hm])
  · exact h.next_command (by simp [hp, hh, hr])

/-! ### PAI_DETACH, PAI_PRIME -/

theorem exec_paiDetach_primary (hr : s.role = .primary) : exec (.paiDetach d) s = .next (s.finish d (s.fail stLOCKED)) := by
  change execPaiDetach d s = _
  exact h.next_command (by simp [hp, hr])

theorem exec_paiDetach_standby (hr : s.role = .standby) : exec (.paiDetach d) s =
    .next (s.finish d (s.leaveStandby.setPai { s.leaveStandby.pai with detached := true }).ok) := by
  change execPaiDetach d s = _
  exact h.next_command (by simp [hp, hr])

theorem exec_paiDetach_idle (hr : s.role = .notStanding) :
    exec (.paiDetach d) s = .next (s.finish d (s.setPai { s.pai with detached := true }).ok) := by
  change execPaiDetach d s = _
  exact h.next_command (by simp [hp, hr])

theorem exec_paiPrime_not_ready (hm : (s.matePrimary && s.linksGood && s.stroked) = false) :
    exec (.paiPrime d) s = .next (s.finish d (s.fail 0x11)) := by
  change execPaiPrime d s = _
  refine h.next_command ?_
  rw [if_neg (by simp [hp]), if_pos (by rw [← Bool.not_and, ← Bool.not_and, hm]; rfl)]

theorem exec_paiPrime_standby (hm : s.matePrimary = true) (hl : s.linksGood = true) (hst : s.stroked = true)
    (hr : s.role = .standby) : exec (.paiPrime d) s = .next (s.finish d s.ok) := by
  change execPaiPrime d s = _
  exact h.next_command (by simp [hp, hm, hl, hst, hr])

theorem exec_paiPrime_asks (hm : s.matePrimary = true) (hl : s.linksGood = true) (hst : s.stroked = true)
    (hr : s.role = .notStanding) : exec (.paiPrime d) s =
      .next (s.finish d ((s.setPai { s.pai with detached := false }).requestPrime).ok) := by
  change execPaiPrime d s = _
  exact h.next_command (by simp [hp, hm, hl, hst, hr])

/-! ### PAI_ASSUME -/

theorem exec_paiAssume_locked (ha : s.pai.seenAuth = true) :
    exec (.paiAssume d) s = .next (s.finish d (s.fail stLOCKED)) := by
  change execPaiAssume d s = _
  exact h.next_command (by simp [hp, ha])

variable (ha : s.pai.seenAuth = false)
include ha

theorem exec_paiAssume_heard (hm : s.mateHeard = true) : exec (.paiAssume d) s = .next (s.finish d (s.fail 0x13)) := by
  change execPaiAssume d s = _
  exact h.next_command (by simp [hp, ha, hm])

theorem exec_paiAssume_refused (hm : s.mateHeard = false) (hb : s.mismBlock = true) :
    exec (.paiAssume d) s = .next (s.finish d (s.fail stREFUSED)) := by
  change execPaiAssume d s = _
  exact h.next_command (by simp [hp, ha, hm, hb])

theorem exec_paiAssume_waits (hm : s.mateHeard = false) (hb : s.mismBlock = false) (hst : s.stroked = false) :
    exec (.paiAssume d) s = .next (s.finish d (s.setPai { s.pai with assume := s.pai.assume ++ [d] }).later) := by
  change execPaiAssume d s = _
  exact h.next_command (by simp [hp, ha, hm, hb, hst])

theorem exec_paiAssume_takes (hm : s.mateHeard = false) (hb : s.mismBlock = false) (hst : s.stroked = true) :
    exec (.paiAssume d) s = .next (s.finish d ((s.assume 4).ok ((s.assume 4).num PAI_EPOCH))) := by
  change execPaiAssume d s = _
  exact h.next_command (by simp [hp, ha, hm, hb, hst])
end
end

/-- What the announcement of a handover leaves in the pair and in its register. -/
theorem State.announce_handover (s : State) (k : Nat) : (s.announce k).pai.hand = some (handoverSn k) ∧
    (s.announce k).pai.handDescs = s.pai.handDescs ∧ (s.announce k).get PAI_STATUS_HANDOVER = 1 := by
  unfold State.announce
  refine ⟨?_, ?_, State.get_put _ PAI_STATUS_HANDOVER 1 (by decide)⟩ <;> rw [State.put_pai, State.setPai_pai]

/-- What a request for priming leaves in the pair and in its register. -/
theorem State.requestPrime_asked (s : State) : s.requestPrime.pai.primeSn = some s.sn ∧
    s.requestPrime.pai.detached = s.pai.detached ∧ s.requestPrime.get PAI_STATUS_PRIMING = 1 := by
  have hget (t : State) (k n : Nat) (b : MateBody) : (t.sendMate k n b).get PAI_STATUS_PRIMING = t.get PAI_STATUS_PRIMING := by
    unfold State.sendMate
    split <;> rfl
  unfold State.requestPrime
  dsimp only
  refine ⟨?_, ?_, ?_⟩
  · rw [State.sendMate_pai, State.setNum_pai, State.put_pai, State.setPai_pai]
  · rw [State.sendMate_pai, State.setNum_pai, State.put_pai, State.setPai_pai]
  · rw [hget, State.get_setNum_ne _ _ _ (by decide)]
    exact State.get_put _ PAI_STATUS_PRIMING 1 (by decide)

/-- Settles O46: each PAIR command takes the branch its role and the pair's state name. -/
theorem pairCommands : Obligations.PairCommands := by
  unfold Obligations.PairCommands
  refine ⟨fun d s h => ⟨_, exec_paiQuery_answers h, s.pairStatus_length, s.pairStatus_take⟩, fun d s h hp => exec_pai_unpaired h hp,
    ?announced, fun d k s h hp hh => exec_paiHandover_pending h hp hh, fun d s h hp hh hr => exec_paiHandover_standby h hp hh hr,
    fun d s h hp hr => exec_paiDetach_primary h hp hr,
    fun d s h hp hr => ⟨exec_paiDetach_standby h hp hr, s.leaveStandby_role⟩, ?prime,
    fun d s h hp ha => exec_paiAssume_locked h hp ha, fun d s h hp ha hm => exec_paiAssume_heard h hp ha hm, ?takes,
    fun d s h hp hh hr => exec_paiHandover_not_ready h hp hh hr, fun d s h hp hr => exec_paiDetach_idle h hp hr,
    fun d s h hp hm => exec_paiPrime_not_ready h hp hm,
    fun d s h hp hm hl hst hr => exec_paiPrime_standby h hp hm hl hst hr,
    fun d s h hp ha hm hb => exec_paiAssume_refused h hp ha hm hb,
    fun d s h hp ha hm hb hst => exec_paiAssume_waits h hp ha hm hb hst⟩
  case announced =>
    intro d k s h hp hh hr hm
    obtain ⟨hhand, hdescs, hget⟩ := (s.setPai { s.pai with handDescs := s.pai.handDescs ++ [d] }).announce_handover s.sn
    exact ⟨(s.setPai { s.pai with handDescs := s.pai.handDescs ++ [d] }).announce s.sn,
      exec_paiHandover_primary h hp hh hr hm, hhand, hdescs, hget⟩
  case prime =>
    intro d s h hp hm hl hst hr
    obtain ⟨hsn, hdet, hget⟩ := (s.setPai { s.pai with detached := false }).requestPrime_asked
    exact ⟨(s.setPai { s.pai with detached := false }).requestPrime, exec_paiPrime_asks h hp hm hl hst hr, hsn, hdet, hget⟩
  case takes =>
    intro d s h hp ha hm hb hst
    refine ⟨exec_paiAssume_takes h hp ha hm hb hst, ?_⟩
    rw [(s.assume_taken 4).1, hp]
    rfl

end Sys2Proof.Machine

/-! PROOFS. Motion: what the operations of an axis leave, the outputs at rest (R434) and the overspeed (R437). -/

namespace Sys2Proof.Machine

open Sys2Proof

/-! ### An axis changed -/

section
variable {V : Type} {l : List V} {n m : Nat} (f : V → V) (d : V)

theorem lmod_of_lt (h : n < l.length) : lmod l n f = l.set n (f l[n]) := by
  unfold lmod
  rw [List.getElem?_eq_getElem h]

theorem lmod_of_le (h : l.length ≤ n) : lmod l n f = l := by
  unfold lmod
  rw [List.getElem?_eq_none h]

@[simp] theorem lmod_length : (lmod l n f).length = l.length := by
  unfold lmod
  split
  · exact List.length_set
  · rfl

theorem getD_lmod_same (h : n < l.length) : (lmod l n f).getD n d = f (l.getD n d) := by
  rw [lmod_of_lt f h, List.getD_eq_getElem _ _ (by rwa [List.length_set]), List.getElem_set_self, List.getD_eq_getElem _ _ h]

theorem getD_lmod_ne (h : m ≠ n) : (lmod l n f).getD m d = l.getD m d := by
  unfold lmod
  split
  · simp only [List.getD_eq_getElem?_getD, List.getElem?_set_ne h.symm]
  · rfl
end

section
variable {s : State} {n m : Nat}

theorem State.axis_congr {t : State} (h : t.mot = s.mot) (n : Nat) : t.axis n = s.axis n := by
  unfold State.axis; rw [h]

theorem State.axis_modAxis (f : Axis → Axis) (h : n < s.mot.axes.length) : (s.modAxis n f).axis n = f (s.axis n) :=
  getD_lmod_same f {} h

theorem State.axis_modAxis_ne (f : Axis → Axis) (h : m ≠ n) : (s.modAxis n f).axis m = s.axis m :=
  getD_lmod_ne f {} h

@[simp] theorem State.modAxis_axes_length (s : State) (n : Nat) (f : Axis → Axis) :
    (s.modAxis n f).mot.axes.length = s.mot.axes.length := lmod_length f

/-- An axis that the list does not hold is at rest. -/
theorem State.axis_of_le (h : s.mot.axes.length ≤ n) : s.axis n = {} := by
  unfold State.axis
  exact List.getD_eq_default _ _ h

theorem State.lt_of_enabled (h : (s.axis n).enabled = true) : n < s.mot.axes.length := by
  by_contra hn
  rw [State.axis_of_le (Nat.le_of_not_lt hn)] at h
  cases h

theorem State.lt_of_cmd {c : AxisCmd} (h : (s.axis n).cmd = some c) : n < s.mot.axes.length := by
  by_contra hn
  rw [State.axis_of_le (Nat.le_of_not_lt hn)] at h
  cases h

theorem State.lt_of_run {r : Run} (h : (s.axis n).run = some r) : n < s.mot.axes.length := by
  by_contra hn
  rw [State.axis_of_le (Nat.le_of_not_lt hn)] at h
  cases h

theorem State.enabled_of_axisEn (h : s.axisEn n = true) : (s.axis n).enabled = true := by
  unfold State.axisEn at h
  simp only [Bool.and_eq_true] at h
  exact h.1.2

@[simp] theorem State.finish_mot (s : State) (d : Desc) (r : CmdRes) : (s.finish d r).mot = r.st.mot := by
  obtain ⟨-, -, -, -, -, -, -, -, -, -, -, -, -, -, -, -, -, -, -, -, -, -, hmot, -⟩ := commandsEndWithoutOtherEffect s d r
  exact hmot

@[simp] theorem State.fail_st (s : State) (k : Nat) : (s.fail k).st = s := rfl
@[simp] theorem State.ok_st (s : State) (r : Nat) : (s.ok r).st = s := rfl

/-! ### Ends and stops -/

/-- An axis whose command has ended. -/
def Axis.ended (a : Axis) : Axis := { a with cmd := none, run := none, plan := none }

/-- An axis its stop generator holds. -/
def Axis.halted (a : Axis) : Axis := { a with run := none, plan := none, stopping := a.v16 != 0 }

theorem State.endAxis_eq (s : State) (n status : Nat) : s.endAxis n status =
    match (s.axis n).cmd with
    | some c => (s.modAxis n Axis.ended).finish c.desc ((s.modAxis n Axis.ended).fail status)
    | none => s.modAxis n Axis.ended := by
  unfold State.endAxis
  cases h : (s.axis n).cmd with
  | none => simp only [h]; rfl
  | some c => simp only [h]; rfl

theorem State.endAxis_mot (s : State) (n status : Nat) : (s.endAxis n status).mot = (s.modAxis n Axis.ended).mot := by
  rw [State.endAxis_eq]
  cases (s.axis n).cmd with
  | none => rfl
  | some c => exact State.finish_mot _ _ _

theorem State.stopAxis_mot (s : State) (n status : Nat) :
    (s.stopAxis n status).mot = ((s.modAxis n Axis.halted).modAxis n Axis.ended).mot := State.endAxis_mot _ _ _

@[simp] theorem State.stopAxis_axes_length (s : State) (n status : Nat) :
    (s.stopAxis n status).mot.axes.length = s.mot.axes.length := by
  rw [State.stopAxis_mot, State.modAxis_axes_length, State.modAxis_axes_length]

theorem State.axis_endAxis (status : Nat) (h : n < s.mot.axes.length) : (s.endAxis n status).axis n = (s.axis n).ended := by
  rw [State.axis_congr (s.endAxis_mot n status), State.axis_modAxis _ h]

theorem State.axis_endAxis_ne (status : Nat) (h : m ≠ n) : (s.endAxis n status).axis m = s.axis m := by
  rw [State.axis_congr (s.endAxis_mot n status), State.axis_modAxis_ne _ h]

theorem State.axis_stopAxis (status : Nat) (h : n < s.mot.axes.length) :
    (s.stopAxis n status).axis n = (s.axis n).halted.ended := by
  rw [State.axis_congr (s.stopAxis_mot n status), State.axis_modAxis _ (by simpa using h), State.axis_modAxis _ h]

theorem State.axis_stopAxis_ne (status : Nat) (h : m ≠ n) : (s.stopAxis n status).axis m = s.axis m := by
  rw [State.axis_congr (s.stopAxis_mot n status), State.axis_modAxis_ne _ h, State.axis_modAxis_ne _ h]

/-- A stop is the end of the halted axis. -/
theorem State.stopAxis_eq_finish {c : AxisCmd} (status : Nat) (h : (s.axis n).cmd = some c) :
    s.stopAxis n status = ((s.modAxis n Axis.halted).modAxis n Axis.ended).finish c.desc
      (((s.modAxis n Axis.halted).modAxis n Axis.ended).fail status) := by
  have hcmd : ((s.haltAxis n).axis n).cmd = some c := by
    unfold State.haltAxis
    rw [State.axis_modAxis _ (State.lt_of_cmd h), ← h]
  unfold State.stopAxis
  rw [State.endAxis_eq, hcmd]
  rfl

theorem State.stopAxis_idle (status : Nat) (h : (s.axis n).cmd = none) (hn : n < s.mot.axes.length) :
    s.stopAxis n status = (s.modAxis n Axis.halted).modAxis n Axis.ended := by
  have hcmd : ((s.haltAxis n).axis n).cmd = none := by
    unfold State.haltAxis
    rw [State.axis_modAxis _ hn, ← h]
  unfold State.stopAxis
  rw [State.endAxis_eq, hcmd]
  rfl

theorem State.stopsDone_nil (h : s.mot.stops = []) : s.stopsDone = s := by
  unfold State.stopsDone
  rw [h]
  rfl

/-- The completion of MOT_STOP commands changes no axis. -/
theorem State.stopsDone_axes (s : State) : s.stopsDone.mot.axes = s.mot.axes := by
  unfold State.stopsDone
  refine foldl_keeps (fun t => t.mot.axes) _ _ s fun t x => ?_
  split
  · rw [State.finish_mot]; rfl
  · rfl

theorem State.loseReference_axis (c : Nat) (h : n < s.mot.axes.length) :
    (s.loseReference n c).axis n = { s.axis n with referenced := false } := by
  unfold State.loseReference
  split
  · exact State.axis_modAxis _ h
  · next hr =>
    rw [← Bool.eq_false_iff.mpr hr]

theorem State.loseReference_axis_ne (c : Nat) (h : m ≠ n) : (s.loseReference n c).axis m = s.axis m := by
  unfold State.loseReference
  split
  · exact State.axis_modAxis_ne _ h
  · rfl

@[simp] theorem State.loseReference_axes_length (s : State) (n c : Nat) :
    (s.loseReference n c).mot.axes.length = s.mot.axes.length := by
  unfold State.loseReference
  split
  · exact State.modAxis_axes_length _ _ _
  · rfl

/-! ### Outputs at rest (R434) -/

theorem State.axisBridge_of_off (h : s.axisEn n = false) : s.axisBridge n = .off := by
  unfold State.axisBridge
  simp [h]

theorem State.axisOff_of_not_live (h : s.motLive = false) : s.axisEn n = false ∧ s.axisBridge n = .off := by
  have hen : s.axisEn n = false := by simp [State.axisEn, h]
  exact ⟨hen, State.axisBridge_of_off hen⟩

theorem State.axisOff_of_disabled (h : (s.axis n).enabled = false) : s.axisEn n = false ∧ s.axisBridge n = .off := by
  have hen : s.axisEn n = false := by simp [State.axisEn, h]
  exact ⟨hen, State.axisBridge_of_off hen⟩

theorem State.axisOff_of_fault (h : (s.axis n).fault = true) : s.axisEn n = false ∧ s.axisBridge n = .off := by
  have hen : s.axisEn n = false := by simp [State.axisEn, h]
  exact ⟨hen, State.axisBridge_of_off hen⟩

/-- Every axis is at rest after a reset. -/
theorem State.axis_reinit (s : State) (k n : Nat) : (s.reinit k).axis n = {} := by
  have hmot : (s.reinit k).mot = {} := rfl
  unfold State.axis
  rw [hmot]
  show (List.replicate 16 ({} : Axis)).getD n {} = {}
  by_cases h : n < 16
  · rw [List.getD_eq_getElem _ _ (by simpa using h), List.getElem_replicate]
  · rw [List.getD_eq_default _ _ (by simpa using Nat.le_of_not_lt h)]

/-- RESET_N low in a device that is not in RESET ends in a state whose axes are those of a reset. -/
theorem exec_resetNLow_axes (hm : s.pins.mainSupply = true) (hr : s.dev ≠ .reset) :
    ∃ t, exec .resetNLow s = .next t ∧ ∀ n, t.axis n = {} := by
  by_cases hd : s.dev = .dormant
  · exact ⟨_, exec_resetNLow_dormant hm hd, fun n => by
      unfold State.wakeByPin State.resetHeld
      rw [State.axis_congr (State.put_mot _ _ _), State.axis_reinit]⟩
  · exact ⟨_, exec_resetNLow_awake hm hr hd, fun n => State.axis_reinit _ _ _⟩

end

/-- Settles O55: an axis that is not live, not enabled or in fault is not driven, and a reset leaves none enabled. -/
theorem axisOutputsAreOffAtRest : Obligations.AxisOutputsAreOffAtRest := by
  unfold Obligations.AxisOutputsAreOffAtRest
  refine ⟨?unstroked, ?halted, fun n s h => State.axisOff_of_disabled h, fun n s h => State.axisOff_of_fault h, ?reinit, ?pin,
    fun n w s => ⟨rfl, rfl⟩⟩
  case unstroked =>
    intro n s h
    exact State.axisOff_of_not_live (by simp [State.motLive, h])
  case halted =>
    intro n s h
    have hserve : s.serving = false := by rcases h with h | h <;> simp [State.serving, h]
    exact State.axisOff_of_not_live (by simp [State.motLive, hserve])
  case reinit =>
    intro k n s
    rw [State.axis_reinit]
    exact ⟨rfl, rfl⟩
  case pin =>
    intro n s hm hr
    obtain ⟨t, ht, hax⟩ := exec_resetNLow_axes hm hr
    have hen : (t.axis n).enabled = false := by rw [hax]
    exact ⟨t, ht, hen, by rw [hax], (State.axisOff_of_disabled hen).2⟩

end Sys2Proof.Machine

/-! PROOFS. Motion: the overspeed (R437), and an input of an axis that the state does not hold. -/

namespace Sys2Proof.Machine

open Sys2Proof

/-! ### One axis at a sub-tick -/

/-- A fold that does nothing but at one member of a list without repetitions. -/
theorem foldl_only {α : Type} {g : State → α → State} {n : α} : ∀ {l : List α} {s : State}, l.Nodup → n ∈ l →
    (∀ k ∈ l, k ≠ n → g s k = s) → (∀ k ∈ l, k ≠ n → g (g s n) k = g s n) → l.foldl g s = g s n := by
  have rest : ∀ (l : List α) (t : State), (∀ k ∈ l, g t k = t) → l.foldl g t = t := by
    intro l
    induction l with
    | nil => exact fun _ _ => rfl
    | cons a l ih =>
      intro t h
      rw [List.foldl_cons, h a List.mem_cons_self, ih t fun k hk => h k (List.mem_cons_of_mem _ hk)]
  intro l
  induction l with
  | nil => intro s _ hn; cases hn
  | cons a l ih =>
    intro s hd hn hs ht
    obtain ⟨ha, hl⟩ := List.nodup_cons.mp hd
    rw [List.foldl_cons]
    by_cases e : a = n
    · subst e
      exact rest l _ fun k hk => ht k (List.mem_cons_of_mem _ hk) fun hka => ha (hka ▸ hk)
    · rw [hs a List.mem_cons_self e]
      exact ih hl ((List.mem_cons.mp hn).resolve_left fun hna => e hna.symm) (fun k hk => hs k (List.mem_cons_of_mem _ hk))
        fun k hk => ht k (List.mem_cons_of_mem _ hk)

section
variable {s : State} {n : Nat}

theorem State.tickAxis_off (h : s.axisEn n = false) : s.tickAxis n = s := by
  unfold State.tickAxis
  simp [h]

/-- The count of sub-ticks at rest. -/
def Axis.rested (a : Axis) : Axis := if a.v16 = 0 then { a with still := a.still + 1 } else { a with still := 0, froze := false }

theorem State.tickAxis_run {r : Run} (he : s.axisEn n = true) (hw : s.waveStops n = false) (hs : (s.axis n).stopping = false)
    (hr : (s.axis n).run = some r) : s.tickAxis n = ((s.tickRun n r).modAxis n Axis.rested).clearLatches n := by
  unfold State.tickAxis
  simp only [he, hw, hs, hr, Bool.not_true, Bool.false_eq_true, Bool.false_and, if_false]
  rfl

/-- With one axis in drive, a sub-tick is that axis's, when it leaves the others out of drive. -/
theorem State.tickAxes_one (hn : n < 16) (ho : ∀ k < 16, k ≠ n → s.axisEn k = false)
    (ht : ∀ k < 16, k ≠ n → (s.tickAxis n).axisEn k = false) : (List.range 16).foldl State.tickAxis s = s.tickAxis n :=
  foldl_only List.nodup_range (List.mem_range.mpr hn) (fun k hk hkn => State.tickAxis_off (ho k (List.mem_range.mp hk) hkn))
    fun k hk hkn => State.tickAxis_off (ht k (List.mem_range.mp hk) hkn)

theorem State.driveAxes_mot (s : State) : s.driveAxes.mot = s.mot := by
  unfold State.driveAxes
  split <;> rfl

/-! ### The overspeed -/

/-- The overspeed noted and recorded, and the reference lost. -/
def State.overspeedNoted (s : State) (n : Nat) (m : Int) : State :=
  ((s.modAxis n fun a => { a with overspeed := true }).record EV_OVERSPEED 0 n (s.axis n).seg (absI m / 65536)).loseReference n 3

section
variable {r : Run} {m : Int} (hr : (s.axis n).run = some r)
  (hm : m = r.p (r.k + 1) - (if r.k = 0 then r.p0 else r.p r.k))

include hm in
theorem State.tickRun_overspeed (hv : 256 * 65536 < absI m) :
    s.tickRun n r = (s.overspeedNoted n m).stopAxis n stBAD_PROFILE := by
  subst hm
  unfold State.tickRun
  exact if_pos hv

theorem State.overspeedNoted_axis (m : Int) (h : n < s.mot.axes.length) :
    (s.overspeedNoted n m).axis n = { s.axis n with overspeed := true, referenced := false } := by
  unfold State.overspeedNoted
  rw [State.loseReference_axis _ (by rw [State.record_mot, State.modAxis_axes_length]; exact h),
    State.axis_congr (State.record_mot _ _ _ _ _ _), State.axis_modAxis _ h]

theorem State.overspeedNoted_axis_ne {k : Nat} (m : Int) (h : k ≠ n) : (s.overspeedNoted n m).axis k = s.axis k := by
  unfold State.overspeedNoted
  rw [State.loseReference_axis_ne _ h, State.axis_congr (State.record_mot _ _ _ _ _ _), State.axis_modAxis_ne _ h]

theorem State.overspeedNoted_axes_length (s : State) (n : Nat) (m : Int) :
    (s.overspeedNoted n m).mot.axes.length = s.mot.axes.length := by
  unfold State.overspeedNoted
  rw [State.loseReference_axes_length, State.record_mot, State.modAxis_axes_length]

theorem State.loseReference_keeps {β : Type} (π : State → β) (hm : ∀ t x, π (State.setMot t x) = π t)
    (hr : ∀ t c x p q r, π (State.record t c x p q r) = π t) (s : State) (n c : Nat) : π (s.loseReference n c) = π s := by
  unfold State.loseReference
  split
  · exact (hr _ _ _ _ _ _).trans (hm _ _)
  · rfl

theorem State.overspeedNoted_keeps {β : Type} (π : State → β) (hm : ∀ t x, π (State.setMot t x) = π t)
    (hr : ∀ t c x p q r, π (State.record t c x p q r) = π t) (s : State) (n : Nat) (m : Int) :
    π (s.overspeedNoted n m) = π s :=
  (State.loseReference_keeps π hm hr _ _ _).trans ((hr _ _ _ _ _ _).trans (hm _ _))

theorem State.overspeedNoted_stops (s : State) (n : Nat) (m : Int) : (s.overspeedNoted n m).mot.stops = s.mot.stops := by
  unfold State.overspeedNoted State.loseReference
  split <;> rfl

theorem State.overspeedNoted_motLive (s : State) (n : Nat) (m : Int) : (s.overspeedNoted n m).motLive = s.motLive :=
  State.overspeedNoted_keeps State.motLive (fun _ _ => rfl) (fun _ _ _ _ _ _ => rfl) s n m

theorem State.modAxis_motLive (s : State) (n : Nat) (f : Axis → Axis) : (s.modAxis n f).motLive = s.motLive := rfl

/-- An axis without a command at an overspeed: halted, its segments gone, the flag up and the reference lost. -/
def State.overspeedTick (s : State) (n : Nat) (m : Int) : State :=
  ((((s.overspeedNoted n m).modAxis n Axis.halted).modAxis n Axis.ended).modAxis n Axis.rested).clearLatches n

include hr hm in
theorem State.tickAxis_overspeed (he : s.axisEn n = true) (hw : s.waveStops n = false) (hs : (s.axis n).stopping = false)
    (hc : (s.axis n).cmd = none) (hv : 256 * 65536 < absI m) : s.tickAxis n = s.overspeedTick n m := by
  have hn := State.lt_of_run hr
  rw [State.tickAxis_run he hw hs hr, State.tickRun_overspeed hm hv,
    State.stopAxis_idle _ (by rw [State.overspeedNoted_axis m hn]; exact hc) (by rw [State.overspeedNoted_axes_length]; exact hn)]
  rfl

theorem State.overspeedTick_axis (m : Int) (h : n < s.mot.axes.length) :
    ∃ a, (s.overspeedTick n m).axis n = a ∧ a.pos = (s.axis n).pos ∧ a.stopping = ((s.axis n).v16 != 0) ∧ a.run = none ∧
      a.overspeed = true ∧ a.referenced = false := by
  have hlen : n < (s.overspeedNoted n m).mot.axes.length := by rw [State.overspeedNoted_axes_length]; exact h
  refine ⟨_, rfl, ?_⟩
  unfold State.overspeedTick State.clearLatches
  rw [State.axis_modAxis _ (by simpa using hlen), State.axis_modAxis _ (by simpa using hlen),
    State.axis_modAxis _ (by simpa using hlen), State.axis_modAxis _ hlen, State.overspeedNoted_axis m h]
  unfold Axis.rested
  split <;> exact ⟨rfl, rfl, rfl, rfl, rfl⟩

theorem State.overspeedTick_axis_ne {k : Nat} (m : Int) (h : k ≠ n) : (s.overspeedTick n m).axis k = s.axis k := by
  unfold State.overspeedTick State.clearLatches
  rw [State.axis_modAxis_ne _ h, State.axis_modAxis_ne _ h, State.axis_modAxis_ne _ h, State.axis_modAxis_ne _ h,
    State.overspeedNoted_axis_ne m h]

theorem State.overspeedTick_axisEn_ne {k : Nat} (m : Int) (h : k ≠ n) : (s.overspeedTick n m).axisEn k = s.axisEn k := by
  unfold State.axisEn
  rw [State.overspeedTick_axis_ne m h]
  unfold State.overspeedTick State.clearLatches
  simp only [State.modAxis_motLive, State.overspeedNoted_motLive]

include hr hm in
/-- A sub-tick in which the one axis in drive overspeeds. -/
theorem exec_subTick_overspeed (hl : s.motLive = true) (hn : n < 16) (he : s.axisEn n = true)
    (ho : ∀ k < 16, k ≠ n → s.axisEn k = false) (hw : s.waveStops n = false) (hst : s.mot.stops = [])
    (hs : (s.axis n).stopping = false) (hc : (s.axis n).cmd = none) (hv : 256 * 65536 < absI m) :
    exec .subTick s = .next (s.overspeedTick n m).driveAxes := by
  have htick := State.tickAxis_overspeed hr hm he hw hs hc hv
  have hstops : (s.overspeedTick n m).driveAxes.mot.stops = [] := by
    rw [State.driveAxes_mot]
    exact (s.overspeedNoted_stops n m).trans hst
  change execSubTick s = _
  unfold execSubTick
  rw [if_pos hl, State.tickAxes_one hn ho fun k hk hkn => by rw [htick, State.overspeedTick_axisEn_ne m hkn, ho k hk hkn], htick,
    State.stopsDone_nil hstops]

include hm in
/-- A sub-tick of a segment within the bound, free to move, that does not end. -/
theorem State.tickRun_free (hk : r.k + 1 ≠ 16 * r.t) (hv : absI m ≤ 256 * 65536) (hb : s.blocks n (decide (0 < m)) = false)
    (hla : (s.axis n).latchedToward (decide (0 < m)) = false) :
    s.tickRun n r = s.modAxis n fun a => { a with pos := wrapQ (a.pos + m), v16 := 256 * m, run := some { r with k := r.k + 1 } } := by
  subst hm
  have hlast : (r.k + 1 == 16 * r.t) = false := beq_false_of_ne hk
  unfold State.tickRun
  dsimp only
  rw [if_neg (Nat.not_lt.mpr hv), hb, hla, hlast]
  simp
end
end

/-- Settles O56: a step beyond the bound takes the overspeed branch of the sub-tick, one within it does not. -/
theorem overspeedStopsTheAxis : Obligations.OverspeedStopsTheAxis := by
  unfold Obligations.OverspeedStopsTheAxis
  refine ⟨?noted, ?tick, ?ends, ?small⟩
  case noted =>
    intro n r m s hr hm hv
    refine ⟨State.tickRun_overspeed hm hv, fun hn => ?_⟩
    have hax := State.overspeedNoted_axis m hn
    unfold State.overspeedNoted at hax
    rw [hax]
    exact ⟨rfl, rfl, rfl⟩
  case tick =>
    intro n r m s hl hn hlen he ho hw hst hs hc hr hm hv
    obtain ⟨a, ha, hpos, hstop, hrun, hover, href⟩ := State.overspeedTick_axis m (State.lt_of_run hr)
    have hax (k : Nat) : (s.overspeedTick n m).driveAxes.axis k = (s.overspeedTick n m).axis k :=
      State.axis_congr (State.driveAxes_mot _) k
    refine ⟨_, exec_subTick_overspeed hr hm hl hn he ho hw hst hs hc hv, ?_⟩
    rw [hax, ha]
    exact ⟨hpos, hstop, hrun, hover, href, fun k _ hk => by rw [hax, State.overspeedTick_axis_ne m hk]⟩
  case ends =>
    intro n c s hc hn
    refine ⟨_, State.stopAxis_eq_finish stBAD_PROFILE hc, ?_⟩
    rw [State.axis_modAxis _ (by simpa using hn), State.axis_modAxis _ hn]
    exact ⟨rfl, rfl, rfl, rfl⟩
  case small =>
    intro n r m s hr hk hm hv hb hla
    refine ⟨_, rfl, ?_⟩
    rw [State.tickRun_free hm hk hv hb hla, State.axis_modAxis _ (State.lt_of_run hr)]
    exact ⟨rfl, rfl, rfl⟩

/-! ### An axis the state does not hold -/

section
variable {s : State} (h : s.mot.axes = [])
include h

theorem State.modAxis_of_nil (n : Nat) (f : Axis → Axis) : (s.modAxis n f).mot.axes = [] := by
  have hnil : lmod s.mot.axes n f = s.mot.axes := lmod_of_le f (by rw [h]; exact Nat.zero_le n)
  exact hnil.trans h

/-- A negative limit that qualifies active leaves the empty list of axes empty. -/
theorem exec_limitQualify_of_nil {n us : Nat} {l : Bool} (hv : s.mainLive = true) (hn : n < 16) (hq : s.qualified n us = true)
    (hl : l ≠ s.flag (MOT_AXIS_CFG_LIMN_POL n)) :
    ∃ t, exec (.limitQualify n false l us) s = .next t ∧ t.mot.axes = [] := by
  have hax : s.axis n = {} := State.axis_of_le (by rw [h]; exact Nat.zero_le n)
  have hactive : (l != s.flag (MOT_AXIS_CFG_LIMN_POL n)) = true := bne_iff_ne.mpr hl
  have hnote (x : AxisIn) : (s.noteChatter n 1 x).1.mot.axes = [] := by
    unfold State.noteChatter
    split
    · exact h
    · exact h
  refine ⟨_, rfl, ?_⟩
  have hlatched : Axis.latchedToward {} false = false := rfl
  simp only [hv, hq, Nat.not_le.mpr hn, hax, hactive, hlatched, Bool.false_eq_true, if_false, Bool.not_true, decide_false, Bool.or_self,
    Int.lt_irrefl]
  rw [State.stopsDone_axes]
  exact State.modAxis_of_nil (State.modAxis_of_nil (State.modAxis_of_nil (hnote _) _ _) _ _) _ _
end

/-- A state that holds no axis. -/
def axisless : State := { State.reset with dev := .operate, mot := { axes := [] } }

/-- Refutes O51: in a state that holds no axis, a negative limit that qualifies active latches no position, for there is no axis to
hold it; the clause of the negative limit asks for one. -/
theorem not_motionHardware : ¬ Obligations.MotionHardware := by
  unfold Obligations.MotionHardware
  rintro ⟨-, -, -, -, -, -, -, -, -, -, hneg, -⟩
  have hnil : axisless.mot.axes = [] := rfl
  have hv : axisless.mainLive = true := by decide
  have hq : axisless.qualified 0 (2 ^ 32) = true := by decide
  have hl : (!axisless.flag (MOT_AXIS_CFG_LIMN_POL 0)) ≠ axisless.flag (MOT_AXIS_CFG_LIMN_POL 0) := Bool.not_ne_self _
  obtain ⟨t, ht, htnil⟩ := exec_limitQualify_of_nil hnil hv (by decide) hq hl
  obtain ⟨w, hw, hlatch, -⟩ := hneg 0 _ (2 ^ 32) _ _ axisless hv (by decide) hq hl rfl rfl (by decide)
  have heq : t = (w.clearLatches 0).stopsDone := Host.Outcome.next.inj (ht.symm.trans hw)
  have hwnil : w.mot.axes.length = 0 := by
    rw [heq, State.stopsDone_axes] at htnil
    have hlen := State.modAxis_axes_length w 0 _ ▸ congrArg List.length htnil
    exact hlen
  rw [State.axis_of_le (Nat.le_of_eq hwnil)] at hlatch
  cases hlatch

end Sys2Proof.Machine

/-! PROOFS. The MOTION commands (R438 to R449). -/

namespace Sys2Proof.Machine

open Sys2Proof

/-! ### Commands that name an axis -/

theorem State.onAxis_locked {d : Desc} {s : State} {body : Nat → Axis → CmdRes}
    (ho : s.flag (MOT_AXIS_CFG_ENABLE (d.op 32 1)) = false ∨ (s.axis (d.op 32 1)).enabled = false) :
    s.onAxis d body = s.fail stLOCKED := by
  unfold State.onAxis
  rcases ho with ho | ho <;> simp [ho]

theorem State.onAxis_enabled {d : Desc} {s : State} {n : Nat} (hn : n = d.op 32 1) (hf : s.flag (MOT_AXIS_CFG_ENABLE n) = true)
    (he : (s.axis n).enabled = true) (body : Nat → Axis → CmdRes) : s.onAxis d body = body n (s.axis n) := by
  subst hn
  unfold State.onAxis
  simp [hf, he]

/-- A table of segments with those of the command's buffer (R438). -/
def Desc.loadSegs (d : Desc) (t : Tab AxisSeg) : Tab AxisSeg :=
  (List.range (d.bufLen / 16)).foldl (fun t i => tput t (d.op 33 1 + i) (AxisSeg.ofBytes (slice d.buf (16 * i) 16))) t

theorem Desc.loadSegs_one {d : Desc} (h : d.bufLen / 16 = 1) (t : Tab AxisSeg) :
    d.loadSegs t = tput t (d.op 33 1) (AxisSeg.ofBytes (slice d.buf 0 16)) := by
  unfold Desc.loadSegs
  rw [h, List.range_one, List.foldl_cons, List.foldl_nil, Nat.add_zero, Nat.mul_zero]

section
variable {d : Desc} {s : State} (h : Runs s d)
include h

theorem exec_mot_locked (ho : s.flag (MOT_AXIS_CFG_ENABLE (d.op 32 1)) = false ∨ (s.axis (d.op 32 1)).enabled = false) :
    exec (.motSegLoad d) s = .next (s.finish d (s.fail stLOCKED)) ∧ exec (.motProfile d) s = .next (s.finish d (s.fail stLOCKED)) ∧
    exec (.motMove d) s = .next (s.finish d (s.fail stLOCKED)) ∧ exec (.motRetune d) s = .next (s.finish d (s.fail stLOCKED)) ∧
    exec (.motHome d) s = .next (s.finish d (s.fail stLOCKED)) ∧ exec (.motSetPos d) s = .next (s.finish d (s.fail stLOCKED)) ∧
    exec (.motQuery d) s = .next (s.finish d (s.fail stLOCKED)) := by
  refine ⟨?_, ?_, ?_, ?_, ?_, ?_, ?_⟩
  · change execMotSegLoad d s = _
    exact h.next_command (State.onAxis_locked ho)
  · change execMotProfile d s = _
    exact h.next_command (State.onAxis_locked ho)
  · change execMotMove d s = _
    exact h.next_command (State.onAxis_locked ho)
  · change execMotRetune d s = _
    exact h.next_command (State.onAxis_locked ho)
  · change execMotHome d s = _
    exact h.next_command (State.onAxis_locked ho)
  · change execMotSetPos d s = _
    exact h.next_command (State.onAxis_locked ho)
  · change execMotQuery d s = _
    exact h.next_command (State.onAxis_locked ho)

section
variable {n : Nat} (hn : n = d.op 32 1) (hf : s.flag (MOT_AXIS_CFG_ENABLE n) = true) (he : (s.axis n).enabled = true)
include hn hf he

/-! ### MOT_SEG_LOAD -/

theorem exec_motSegLoad_loads
    (hc : ∀ e i, (s.axis n).cmd = some (.profile e i) → ¬ (d.op 33 1 ≤ i ∧ i < d.op 33 1 + d.bufLen / 16) ∧
      ∀ g k, tget (s.axis n).segs i = some g → nextSeg i g = some k → ¬ (d.op 33 1 ≤ k ∧ k < d.op 33 1 + d.bufLen / 16)) :
    exec (.motSegLoad d) s = .next (s.finish d (s.modAxis n fun a => { a with segs := d.loadSegs (s.axis n).segs }).ok) := by
  change execMotSegLoad d s = _
  refine h.next_command ((State.onAxis_enabled hn hf he _).trans ?_)
  dsimp only
  refine if_neg ?_
  split
  · next e i hcmd =>
    obtain ⟨hi, hk⟩ := hc e i hcmd
    have hbi : (decide (d.op 33 1 ≤ i) && decide (i < d.op 33 1 + d.bufLen / 16)) = false := by
      rw [Bool.eq_false_iff]; simpa using hi
    rw [hbi, Bool.false_or]
    split
    · next k hnext =>
      obtain ⟨g, hg, hgk⟩ := Option.bind_eq_some_iff.mp hnext
      simpa using hk g k hg hgk
    · decide
  · decide

theorem exec_motSegLoad_running {e : Desc} {i : Nat} (hc : (s.axis n).cmd = some (.profile e i)) (h1 : d.op 33 1 ≤ i)
    (h2 : i < d.op 33 1 + d.bufLen / 16) : exec (.motSegLoad d) s = .next (s.finish d (s.fail stCONFLICT)) := by
  change execMotSegLoad d s = _
  refine h.next_command ((State.onAxis_enabled hn hf he _).trans ?_)
  simp [hc, h1, h2]

theorem exec_motSegLoad_next {e : Desc} {i k : Nat} {g : AxisSeg} (hc : (s.axis n).cmd = some (.profile e i))
    (hg : tget (s.axis n).segs i = some g) (hk : nextSeg i g = some k) (h1 : d.op 33 1 ≤ k)
    (h2 : k < d.op 33 1 + d.bufLen / 16) : exec (.motSegLoad d) s = .next (s.finish d (s.fail stCONFLICT)) := by
  change execMotSegLoad d s = _
  refine h.next_command ((State.onAxis_enabled hn hf he _).trans ?_)
  simp [hc, hg, hk, h1, h2]

/-! ### MOT_PROFILE, MOT_MOVE, MOT_HOME -/

/-- What MOT_PROFILE answers on an enabled axis (R438, R449). -/
theorem exec_motProfile_answers : exec (.motProfile d) s = .next (s.finish d
    (if (s.axis n).speed.isSome ∨ (s.axis n).busy then s.fail stAXIS_BUSY
      else if (s.axis n).referenced = false ∧ bit (d.op 34 1) 0 = false then s.fail stNOT_REFERENCED
      else match (s.axis n).runOf (d.op 33 1) (s.axis n).pos 0 with
        | none => s.fail stBAD_PROFILE
        | some r =>
          if r.p1 ≠ (s.axis n).pos ∧ (s.axis n).latchedToward (decide ((s.axis n).pos < r.p1)) then s.fail stLIMIT
          else if r.p1 ≠ (s.axis n).pos ∧ s.blocks n (decide ((s.axis n).pos < r.p1)) then s.fail stINHIBITED
          else (s.modAxis n fun a =>
            { a with cmd := some (.profile d (d.op 33 1)), plan := some r, target := micro r.p1 }).later)) := by
  change execMotProfile d s = _
  refine h.next_command ((State.onAxis_enabled hn hf he _).trans ?_)
  dsimp only
  cases (s.axis n).runOf (d.op 33 1) (s.axis n).pos 0 <;>
    simp only [Bool.or_eq_true, Bool.and_eq_true, Bool.not_eq_true', bne_iff_ne]

/-- What MOT_MOVE answers on an enabled axis (R439, R449). -/
theorem exec_motMove_answers {t : Int} (ht : t = wrapQ (if bit (d.op 33 1) 0 then (s.axis n).pos + signed 64 (d.op 40 8) * 65536
    else signed 64 (d.op 40 8) * 65536)) : exec (.motMove d) s = .next (s.finish d
    (if (s.axis n).speed.isSome ∨ (s.axis n).busy then s.fail stAXIS_BUSY
      else if t ≠ (s.axis n).pos ∧ (s.axis n).latchedToward (decide ((s.axis n).pos < t)) then s.fail stLIMIT
      else if t ≠ (s.axis n).pos ∧ s.blocks n (decide ((s.axis n).pos < t)) then s.fail stINHIBITED
      else (s.modAxis n fun a =>
        { a with cmd := some (.move d t (if d.op 48 4 = 0 then s.axisVmax n else d.op 48 4) (max 1 (d.op 52 4)) (max 1 (d.op 56 4))
                   none false none), target := micro t }).later)) := by
  subst ht
  change execMotMove d s = _
  refine h.next_command ((State.onAxis_enabled hn hf he _).trans ?_)
  simp only [Bool.or_eq_true, Bool.and_eq_true, bne_iff_ne]

/-- What MOT_HOME answers on an enabled axis (R447, R449). -/
theorem exec_motHome_answers {up : Bool} (hu : up = if (s.axis n).home.active then bit (d.op 33 1) 0 else !bit (d.op 33 1) 0) :
    exec (.motHome d) s = .next (s.finish d
      (if (s.axis n).speed.isSome || (s.axis n).busy then s.fail stAXIS_BUSY
        else if s.num (MOT_SAFE_V n) < d.op 44 4 then (s.record EV_HOME_FAILED 0 n 1 0).fail stHOME_NOT_FOUND
        else if (s.axis n).latchedToward up then s.fail stLIMIT
        else if s.blocks n up then s.fail stINHIBITED
        else (s.modAxis n fun a => { a with cmd := some (.home d (bit (d.op 33 1) 0) (d.op 40 4) (d.op 44 4) (max 1 (d.op 56 4))
          (signed 64 (d.op 48 8)) (if (s.axis n).home.active then 4 else 2) 0 s.sn) }).later)) := by
  subst hu
  change execMotHome d s = _
  exact h.next_command (State.onAxis_enabled hn hf he _)

/-- An axis that is busy takes no command that would start on it. -/
theorem exec_mot_busy (hb : (s.axis n).busy = true) : exec (.motMove d) s = .next (s.finish d (s.fail stAXIS_BUSY)) ∧
    exec (.motSetPos d) s = .next (s.finish d (s.fail stAXIS_BUSY)) ∧
    exec (.motHome d) s = .next (s.finish d (s.fail stAXIS_BUSY)) ∧
    exec (.motProfile d) s = .next (s.finish d (s.fail stAXIS_BUSY)) := by
  refine ⟨?_, ?_, ?_, ?_⟩
  · rw [exec_motMove_answers h hn hf he rfl, if_pos (.inr hb)]
  · change execMotSetPos d s = _
    exact h.next_command ((State.onAxis_enabled hn hf he _).trans (if_pos hb))
  · rw [exec_motHome_answers h hn hf he rfl, if_pos (by rw [hb, Bool.or_true])]
  · rw [exec_motProfile_answers h hn hf he, if_pos (.inr hb)]

section
variable (hs : (s.axis n).speed = none) (hb : (s.axis n).busy = false)
include hs hb

theorem exec_motProfile_starts {r : Run} (href : (s.axis n).referenced = true)
    (hr : (s.axis n).runOf (d.op 33 1) (s.axis n).pos 0 = some r)
    (hla : (s.axis n).latchedToward (decide ((s.axis n).pos < r.p1)) = false)
    (hbl : s.blocks n (decide ((s.axis n).pos < r.p1)) = false) :
    exec (.motProfile d) s = .next (s.finish d
      (s.modAxis n fun a => { a with cmd := some (.profile d (d.op 33 1)), plan := some r, target := micro r.p1 }).later) := by
  rw [exec_motProfile_answers h hn hf he]
  simp [hs, hb, href, hr, hla, hbl]

theorem exec_motProfile_unreferenced (href : (s.axis n).referenced = false) (hbit : bit (d.op 34 1) 0 = false) :
    exec (.motProfile d) s = .next (s.finish d (s.fail stNOT_REFERENCED)) := by
  rw [exec_motProfile_answers h hn hf he]
  simp [hs, hb, href, hbit]

theorem exec_motMove_starts {t : Int} (hbit : bit (d.op 33 1) 0 = false) (ht : t = wrapQ (signed 64 (d.op 40 8) * 65536))
    (hla : (s.axis n).latchedToward (decide ((s.axis n).pos < t)) = false)
    (hbl : s.blocks n (decide ((s.axis n).pos < t)) = false) :
    exec (.motMove d) s = .next (s.finish d (s.modAxis n fun a =>
      { a with cmd := some (.move d t (if d.op 48 4 = 0 then s.axisVmax n else d.op 48 4) (max 1 (d.op 52 4)) (max 1 (d.op 56 4))
                 none false none), target := micro t }).later) := by
  rw [exec_motMove_answers h hn hf he (t := t) (by rw [hbit, ht]; rfl)]
  simp [hs, hb, hla, hbl]

theorem exec_motHome_starts {up : Bool} (hu : up = if (s.axis n).home.active then bit (d.op 33 1) 0 else !bit (d.op 33 1) 0)
    (hv : d.op 44 4 ≤ s.num (MOT_SAFE_V n)) (hla : (s.axis n).latchedToward up = false) (hbl : s.blocks n up = false) :
    exec (.motHome d) s = .next (s.finish d (s.modAxis n fun a =>
      { a with cmd := some (.home d (bit (d.op 33 1) 0) (d.op 40 4) (d.op 44 4) (max 1 (d.op 56 4)) (signed 64 (d.op 48 8))
          (if (s.axis n).home.active then 4 else 2) 0 s.sn) }).later) := by
  rw [exec_motHome_answers h hn hf he hu]
  simp [hs, hb, Nat.not_lt.mpr hv, hla, hbl]

theorem exec_motHome_fast (hv : s.num (MOT_SAFE_V n) < d.op 44 4) :
    exec (.motHome d) s = .next (s.finish d ((s.record EV_HOME_FAILED 0 n 1 0).fail stHOME_NOT_FOUND)) := by
  rw [exec_motHome_answers h hn hf he rfl]
  simp [hs, hb, hv]

theorem exec_motHome_barred {up : Bool} (hu : up = if (s.axis n).home.active then bit (d.op 33 1) 0 else !bit (d.op 33 1) 0)
    (hv : d.op 44 4 ≤ s.num (MOT_SAFE_V n)) (hbar : (s.axis n).latchedToward up = true ∨ s.blocks n up = true) :
    exec (.motHome d) s = .next (s.finish d (s.fail (if (s.axis n).latchedToward up then stLIMIT else stINHIBITED))) := by
  rw [exec_motHome_answers h hn hf he hu]
  cases hla : (s.axis n).latchedToward up
  · have hbl : s.blocks n up = true := hbar.resolve_left (by rw [hla]; decide)
    simp [hs, hb, Nat.not_lt.mpr hv, hbl]
  · simp [hs, hb, Nat.not_lt.mpr hv]
end

/-! ### MOT_RETUNE, MOT_SET_POS, MOT_QUERY -/

theorem exec_motRetune_move {e : Desc} {t : Int} {vm ac de : Nat} {rp : Option Nat} {dn : Bool} {o : Option (Nat × Nat × Nat)}
    (hc : (s.axis n).cmd = some (.move e t vm ac de rp dn o)) :
    exec (.motRetune d) s = .next (s.finish d (s.modAxis n fun a => { a with cmd := some (.move e t vm ac de rp dn
      (some (if d.op 48 4 = 0 then (o.getD (0, 0, 0)).1 else d.op 48 4, if d.op 52 4 = 0 then (o.getD (0, 0, 0)).2.1 else d.op 52 4,
        if d.op 56 4 = 0 then (o.getD (0, 0, 0)).2.2 else d.op 56 4))) }).ok) := by
  change execMotRetune d s = _
  refine h.next_command ((State.onAxis_enabled hn hf he _).trans ?_)
  rw [hc]

theorem exec_motRetune_none (hc : ∀ e t vm ac de rp dn o, (s.axis n).cmd ≠ some (.move e t vm ac de rp dn o)) :
    exec (.motRetune d) s = .next (s.finish d (s.fail stAXIS_BUSY)) := by
  change execMotRetune d s = _
  refine h.next_command ((State.onAxis_enabled hn hf he _).trans ?_)
  split
  · next hcmd => exact absurd hcmd (hc _ _ _ _ _ _ _ _)
  · rfl

/-- The position of an axis set: its latches move with it. -/
def Axis.placed (a : Axis) (p shift : Int) : Axis :=
  { a with pos := p, referenced := true, latchP := a.latchP.map (· + shift), latchN := a.latchN.map (· + shift) }

theorem exec_motSetPos_places (hb : (s.axis n).busy = false) : exec (.motSetPos d) s = .next (s.finish d
    (s.modAxis n fun a => a.placed (signed 64 (d.op 40 8) * 65536) (signed 64 (d.op 40 8) * 65536 - (s.axis n).pos)).ok) := by
  change execMotSetPos d s = _
  exact h.next_command ((State.onAxis_enabled hn hf he _).trans (if_neg (by rw [hb]; decide)))

theorem exec_motQuery_answers : exec (.motQuery d) s = .next (s.finish d (s.answer d (leBytes 8 (unsigned 64 (s.axis n).pos) ++
    leBytes 4 (unsigned 32 (s.axis n).v) ++ leBytes 4 (s.axStat n) ++ leBytes 8 (unsigned 64 (s.axis n).target) ++ leBytes 8 0))) := by
  change execMotQuery d s = _
  exact h.next_command (State.onAxis_enabled hn hf he _)
end

/-! ### MOT_STOP -/

/-- The axes MOT_STOP names. -/
def Desc.stopAxes (d : Desc) : List Nat := (List.range 16).filter fun n => bit (d.op 32 2) n

omit h in
theorem Desc.mem_stopAxes {n : Nat} : n ∈ d.stopAxes ↔ n < 16 ∧ bit (d.op 32 2) n = true := by
  simp [Desc.stopAxes]

/-- The axes MOT_STOP names stopped. -/
def State.stopAll (s : State) (l : List Nat) : State := l.foldl (fun s n => s.stopAxis n stSTOPPED) s

omit h in
theorem State.stopAll_length (l : List Nat) : ∀ s : State, (s.stopAll l).mot.axes.length = s.mot.axes.length := by
  induction l with
  | nil => exact fun _ => rfl
  | cons n l ih => intro s; exact (ih _).trans (State.stopAxis_axes_length _ _ _)

omit h in
/-- A stopped axis keeps its velocity and position; one that is named has no segment left and its stop generator runs while it moves. -/
theorem State.stopAll_axis (l : List Nat) : ∀ (s : State) (n : Nat), n < s.mot.axes.length →
    ((s.stopAll l).axis n).v16 = (s.axis n).v16 ∧ ((s.stopAll l).axis n).pos = (s.axis n).pos ∧
    (n ∈ l ∨ (s.axis n).run = none ∧ (s.axis n).plan = none ∧ (s.axis n).stopping = ((s.axis n).v16 != 0) →
      ((s.stopAll l).axis n).run = none ∧ ((s.stopAll l).axis n).plan = none ∧
      ((s.stopAll l).axis n).stopping = ((s.axis n).v16 != 0)) := by
  induction l with
  | nil =>
    intro s n _
    exact ⟨rfl, rfl, fun h => h.resolve_left List.not_mem_nil⟩
  | cons k l ih =>
    intro s n hn
    obtain ⟨hv, hp, hq⟩ := ih (s.stopAxis k stSTOPPED) n (by rwa [State.stopAxis_axes_length])
    by_cases e : n = k
    · subst e
      rw [State.axis_stopAxis stSTOPPED hn] at hv hp hq
      exact ⟨hv, hp, fun _ => hq (.inr ⟨rfl, rfl, rfl⟩)⟩
    · rw [State.axis_stopAxis_ne stSTOPPED e] at hv hp hq
      exact ⟨hv, hp, fun hm => hq (hm.imp_left fun hmem => (List.mem_cons.mp hmem).resolve_left e)⟩

theorem exec_motStop_locked {n : Nat} (hn : n < 16) (hb : bit (d.op 32 2) n = true)
    (ho : s.flag (MOT_AXIS_CFG_ENABLE n) = false ∨ (s.axis n).enabled = false) :
    exec (.motStop d) s = .next (s.finish d (s.fail stLOCKED)) := by
  change execMotStop d s = _
  refine h.next_command (if_pos (List.any_eq_true.mpr ⟨n, Desc.mem_stopAxes.mpr ⟨hn, hb⟩, ?_⟩))
  rcases ho with ho | ho <;> simp [ho]

section
variable (ho : ∀ n < 16, bit (d.op 32 2) n = true → s.flag (MOT_AXIS_CFG_ENABLE n) = true ∧ (s.axis n).enabled = true)
include ho

/-- What MOT_STOP answers when the axes it names are enabled. -/
theorem exec_motStop_answers : exec (.motStop d) s = .next (s.finish d
    (if d.stopAxes.all fun n => ((s.stopAll d.stopAxes).axis n).stands then (s.stopAll d.stopAxes).ok
      else ((s.stopAll d.stopAxes).setMot { (s.stopAll d.stopAxes).mot with
        stops := (s.stopAll d.stopAxes).mot.stops ++ [(d, d.op 32 2)] }).later)) := by
  change execMotStop d s = _
  refine h.next_command (if_neg ?_)
  rw [List.any_eq_true]
  rintro ⟨n, hmem, hbad⟩
  obtain ⟨hn, hb⟩ := Desc.mem_stopAxes.mp hmem
  obtain ⟨hf, he⟩ := ho n hn hb
  simp [hf, he] at hbad

theorem exec_motStop_stands (hv : ∀ n < 16, bit (d.op 32 2) n = true → (s.axis n).v16 = 0) :
    exec (.motStop d) s = .next (s.finish d (s.stopAll d.stopAxes).ok) := by
  rw [exec_motStop_answers h ho, if_pos]
  rw [List.all_eq_true]
  intro n hmem
  obtain ⟨hn, hb⟩ := Desc.mem_stopAxes.mp hmem
  obtain ⟨hv16, -, hrest⟩ := State.stopAll_axis d.stopAxes s n (State.lt_of_enabled (ho n hn hb).2)
  obtain ⟨-, -, hstop⟩ := hrest (.inl hmem)
  unfold Axis.stands
  rw [hv16, hstop, hv n hn hb]
  rfl

theorem exec_motStop_waits (hv : ∃ n < 16, bit (d.op 32 2) n = true ∧ (s.axis n).v16 ≠ 0) :
    exec (.motStop d) s = .next (s.finish d ((s.stopAll d.stopAxes).setMot { (s.stopAll d.stopAxes).mot with
      stops := (s.stopAll d.stopAxes).mot.stops ++ [(d, d.op 32 2)] }).later) := by
  obtain ⟨n, hn, hb, hne⟩ := hv
  rw [exec_motStop_answers h ho, if_neg]
  rw [List.all_eq_true]
  intro hall
  have hst := hall n (Desc.mem_stopAxes.mpr ⟨hn, hb⟩)
  obtain ⟨hv16, -⟩ := State.stopAll_axis d.stopAxes s n (State.lt_of_enabled (ho n hn hb).2)
  unfold Axis.stands at hst
  rw [hv16] at hst
  simp [hne] at hst
end

/-! ### MOT_ENABLE -/

section
variable {n : Nat} (hn : n = d.op 32 1) (hf : s.flag (MOT_AXIS_CFG_ENABLE n) = true)
include hn hf

theorem exec_motEnable_enables (hx : d.op 33 1 = 1) : exec (.motEnable d) s =
    .next (s.finish d (s.modAxis n fun a => { a with enabled := true, fault := false, overspeed := false }).ok) := by
  subst hn
  change execMotEnable d s = _
  exact h.next_command (by simp [hf, hx])

theorem exec_motEnable_disables (hx : d.op 33 1 ≠ 1) (he : (s.axis n).enabled = true) : exec (.motEnable d) s =
    .next (s.finish d ((s.powerDown n).endAxis n stLOCKED).stopsDone.ok) := by
  subst hn
  change execMotEnable d s = _
  exact h.next_command (by simp [hf, hx, he])

theorem exec_motEnable_off (hx : d.op 33 1 ≠ 1) (he : (s.axis n).enabled = false) :
    exec (.motEnable d) s = .next (s.finish d s.ok) := by
  subst hn
  change execMotEnable d s = _
  exact h.next_command (by simp [hf, hx, he])
end

theorem exec_motEnable_locked (hf : s.flag (MOT_AXIS_CFG_ENABLE (d.op 32 1)) = false) :
    exec (.motEnable d) s = .next (s.finish d (s.fail stLOCKED)) := by
  change execMotEnable d s = _
  exact h.next_command (by simp [hf])
end

/-- A driver stage without power: disabled and at rest. -/
theorem State.powerDown_axis {s : State} {n : Nat} (hn : n < s.mot.axes.length) :
    ((s.powerDown n).axis n).enabled = false ∧ ((s.powerDown n).axis n).v16 = 0 := by
  unfold State.powerDown
  extract_lets a keep u
  have hu : (u.axis n).enabled = false ∧ (u.axis n).v16 = 0 := by
    unfold u
    rw [State.axis_modAxis _ hn]
    exact ⟨rfl, rfl⟩
  split
  · exact hu
  · rw [State.loseReference_axis _ (by unfold u; simpa using hn)]
    exact hu

/-- Settles O50: each MOTION command takes the branch its axis names. -/
theorem motionCommands : Obligations.MotionCommands := by
  unfold Obligations.MotionCommands
  refine ⟨fun d s h ho => exec_mot_locked h ho, ?loadOne,
    fun d n e i s h hn hf he hc h1 h2 => exec_motSegLoad_running h hn hf he hc h1 h2,
    fun d n r s h hn hf he hs hb href hr hla hbl => exec_motProfile_starts h hn hf he hs hb href hr hla hbl,
    fun d n s h hn hf he hs hb href hbit => exec_motProfile_unreferenced h hn hf he hs hb href hbit,
    fun d n t s h hn hf he hs hb hbit ht hla hbl => exec_motMove_starts h hn hf he hs hb hbit ht hla hbl,
    fun d n s h hn hf he hb => exec_mot_busy h hn hf he hb,
    fun d n e t vm ac de rp dn s h hn hf he hc => ?retuneFirst, ?homeAway, ?stopStands,
    fun d n s h hn hb he => exec_motStop_locked h hn hb (.inr he),
    fun d n s h hn hf hx => exec_motEnable_enables h hn hf hx, ?disable, ?setPos,
    fun d n s h hn hf he => ⟨_, exec_motQuery_answers h hn hf he, ?_, ?_⟩, ?load,
    fun d n e i g k s h hn hf he hc hg hk h1 h2 => exec_motSegLoad_next h hn hf he hc hg hk h1 h2,
    fun d n s h hn hf he => exec_motProfile_answers h hn hf he,
    fun d n t s h hn hf he ht => exec_motMove_answers h hn hf he ht,
    fun d n e t vm ac de rp dn o s h hn hf he hc => ?retuneAgain,
    fun d n s h hn hf he hc => exec_motRetune_none h hn hf he hc, ?homeCreep,
    fun d n s h hn hf he hs hb hv => exec_motHome_fast h hn hf he hs hb hv,
    fun d n up s h hn hf he hs hb hv hu hbar => exec_motHome_barred h hn hf he hs hb hu hv hbar,
    fun d s h ho hv => exec_motStop_waits h ho hv,
    fun d n s h hn hb hf => exec_motStop_locked h hn hb (.inl hf), fun d s h hf => exec_motEnable_locked h hf,
    fun d n s h hn hf hx he => exec_motEnable_off h hn hf hx he, ?setPosLatches,
    fun d n s h hn hf he => exec_motQuery_answers h hn hf he⟩
  case loadOne =>
    intro d n s h hn hf he hc hone
    refine ⟨_, exec_motSegLoad_loads h hn hf he (fun e i hcmd => by rw [hc] at hcmd; cases hcmd), ?_⟩
    rw [State.axis_modAxis _ (State.lt_of_enabled he), Desc.loadSegs_one hone]
    exact ⟨rfl, rfl⟩
  case retuneFirst =>
    have hpick (x : Nat) : (if x = 0 then 0 else x) = x := by split <;> omega
    refine (exec_motRetune_move h hn hf he hc).trans ?_
    simp only [Option.getD_none, hpick]
  case retuneAgain =>
    refine (exec_motRetune_move h hn hf he hc).trans ?_
    simp only [Option.getD_some]
  case homeAway =>
    intro d n s h hn hf he hs hb hact hv hla hbl
    refine (exec_motHome_starts h hn hf he hs hb (up := !bit (d.op 33 1) 0) (by rw [hact]; rfl) hv hla hbl).trans ?_
    rw [hact]
    rfl
  case stopStands =>
    intro d s h ho
    have hen : ∀ n < 16, bit (d.op 32 2) n = true → s.flag (MOT_AXIS_CFG_ENABLE n) = true ∧ (s.axis n).enabled = true :=
      fun n hn hb => ⟨(ho n hn hb).1, (ho n hn hb).2.1⟩
    refine ⟨_, exec_motStop_stands h hen fun n hn hb => (ho n hn hb).2.2.2, fun n hn hb => ?_⟩
    obtain ⟨-, hpos, hrest⟩ := State.stopAll_axis d.stopAxes s n (State.lt_of_enabled (hen n hn hb).2)
    obtain ⟨hrun, hplan, -⟩ := hrest (.inl (Desc.mem_stopAxes.mpr ⟨hn, hb⟩))
    exact ⟨hrun, hplan, hpos⟩
  case disable =>
    intro d n s h hn hf hx he
    exact ⟨exec_motEnable_disables h hn hf (by omega) he, State.powerDown_axis (State.lt_of_enabled he)⟩
  case setPos =>
    intro d n s h hn hf he hb
    refine ⟨_, exec_motSetPos_places h hn hf he hb, ?_⟩
    rw [State.axis_modAxis _ (State.lt_of_enabled he)]
    simp only [Axis.placed, and_self]
  case load =>
    intro d n s h hn hf he hc
    refine ⟨_, exec_motSegLoad_loads h hn hf he hc, ?_⟩
    rw [State.axis_modAxis _ (State.lt_of_enabled he)]
    exact ⟨rfl, rfl⟩
  case homeCreep =>
    intro d n s h hn hf he hs hb hact hv hla hbl
    refine (exec_motHome_starts h hn hf he hs hb (up := bit (d.op 33 1) 0) (by rw [hact]; rfl) hv hla hbl).trans ?_
    rw [hact]
    rfl
  case setPosLatches =>
    intro d n s h hn hf he hb
    refine ⟨_, exec_motSetPos_places h hn hf he hb, ?_⟩
    rw [State.axis_modAxis _ (State.lt_of_enabled he)]
    simp only [Axis.placed, and_self]
  · simp only [List.length_append, leBytes_length]
  · rw [List.append_assoc, List.append_assoc, List.append_assoc, List.take_left' (leBytes_length 8 _)]

end Sys2Proof.Machine

/-! PROOFS. The key commands that read (R391 to R401). -/

namespace Sys2Proof.Machine

open Sys2Proof

/-- The key that a handle names is live. -/
def State.handleLive (s : State) (h : Nat) : Bool :=
  match s.keyOf h with
  | some k => s.keyLive k.code k.index k.gen k.slot
  | none => false

/-! ### What KEY_QUERY answers (R401) -/

/-- The generation in force of the branch, cluster or node of a handle. -/
def State.keyForce (s : State) (h : Nat) : Nat :=
  match h / 2 ^ 28 with
  | 5 => (s.node? (h / 256 % 2 ^ 20)).elim 0 fun n => n.keyGen
  | 6 => (s.cluster? (h / 256 % 2 ^ 20)).elim 0 fun c => c.keyGen
  | c => (s.branch c).gen

/-- A live key that a handle names is pinned in the cache. -/
def State.keyPinned (s : State) (h : Nat) (k : DeadKey) : Bool :=
  s.keyLive k.code k.index k.gen k.slot && match h / 2 ^ 28 with
    | 5 => false
    | 6 => (s.cluster? k.index).elim false fun c => c.enabled
    | 8 => (s.branch 8).live.contains (k.gen, k.slot) && s.flt.robots.any fun x => x.1 == h / 256 % 256 && x.2.gone.isNone
    | c => (s.branch c).live.contains (k.gen, k.slot)

/-- The answer of KEY_QUERY for a handle. -/
def State.keyReport (s : State) (h : Nat) : Nat :=
  match s.keyOf h with
  | none => 256 * s.keyForce h
  | some k => b2n (s.keyLive k.code k.index k.gen k.slot) +
      2 * b2n (s.keyPinned h k || (h / 2 ^ 28 == 5 && s.key.cache.contains (0x50000000 + 256 * k.index + k.gen))) +
      4 * b2n (s.keyPinned h k) + 8 * k.slot + 256 * s.keyForce h

/-- Bit 0 of the answer is the liveness of the key. -/
theorem State.keyReport_odd (s : State) (h : Nat) : s.keyReport h % 2 = b2n (s.handleLive h) := by
  have hodd (b : Bool) (p q r t : Nat) : (b2n b + 2 * p + 4 * q + 8 * r + 256 * t) % 2 = b2n b := by
    cases b <;> simp [b2n] <;> omega
  unfold State.keyReport State.handleLive
  cases s.keyOf h with
  | none => exact (show 256 * s.keyForce h % 2 = 0 by omega)
  | some k => exact hodd _ _ _ _ _

section
variable {d : Desc} {s : State} (h : Runs s d)
include h

/-! ### Under a tamper lock; public keys -/

theorem exec_key_tampered (ht : s.tampered = true) : exec (.keyPubRead d) s = .next (s.finish d (s.fail stTAMPERED)) ∧
    exec (.keySiteImport d) s = .next (s.finish d (s.fail stTAMPERED)) ∧
    exec (.keyAttest d) s = .next (s.finish d (s.fail stTAMPERED)) := by
  refine ⟨?_, ?_, ?_⟩
  · change execKeyPubRead d s = _
    exact h.next_command (if_pos ht)
  · change execKeySiteImport d s = _
    exact h.next_command (if_pos ht)
  · change execKeyAttest d s = _
    exact h.next_command (if_pos ht)

section
variable (ht : s.tampered = false)
include ht

theorem exec_keyPubRead_attest (ho : d.op 32 1 = 0) : exec (.keyPubRead d) s = .next (s.finish d ((s.usedS 2).answer d
    (slice (Config.p256Pub attestKey) 0 64 ++ slice Config.endorse 0 512))) := by
  change execKeyPubRead d s = _
  refine h.next_command ?_
  rw [if_neg (by rw [ht]; decide), if_pos ho]

theorem exec_keyPubRead_import (ho : d.op 32 1 ≠ 0) :
    exec (.keyPubRead d) s = .next (s.finish d ((s.usedS 3).answer d (slice (Config.p256Pub importKey) 0 64))) := by
  change execKeyPubRead d s = _
  refine h.next_command ?_
  rw [if_neg (by rw [ht]; decide), if_neg ho]

/-! ### KEY_ATTEST -/

/-- The statement of the main die alone (R397). -/
def State.ownStatement (s : State) (d : Desc) : List Byte := coseSign1 s.free attestKey s.serial (s.attestPayload d.nonce none)

theorem exec_keyAttest_alone (hl : (s.part == .cx7740 && !s.capAbsent 0x12 && s.flag WLG_STATUS_LINK_UP) = false) :
    exec (.keyAttest d) s = .next (s.finish d (if d.bufLen < (s.ownStatement d).length then s.answer d (s.ownStatement d)
      else ((s.drawn.usedS 2).record EV_ATTESTED 0 (leAt d.nonce 0 4) s.sn 0).answer d (s.ownStatement d))) := by
  change execKeyAttest d s = _
  refine h.next_command ?_
  rw [if_neg (by rw [ht]; decide), if_neg (by rw [hl]; decide)]
  unfold State.attest
  rw [if_neg (by rw [ht]; decide)]
  rfl

/-- A request of an attestation to the Wellhouse. -/
def State.askWellhouse (s : State) (d : Desc) : State :=
  let u := s.setWel { s.wel with reqs := s.wel.reqs ++ [⟨0x34, s.wlg.nextId, 0, 0, [], d.nonce⟩] }
  u.setWlg { u.wlg with nextId := (s.wlg.nextId + 1) % 0x10000, reqs := u.wlg.reqs ++ [(s.wlg.nextId, d, u.sn)] }

theorem exec_keyAttest_asks (hp : s.part = .cx7740) (hc : s.capAbsent 0x12 = false) (hl : s.flag WLG_STATUS_LINK_UP = true) :
    exec (.keyAttest d) s = .next (s.finish d (s.askWellhouse d).later) := by
  change execKeyAttest d s = _
  refine h.next_command ?_
  rw [if_neg (by rw [ht]; decide), if_pos (by rw [hp, hc, hl]; rfl)]
  rfl
end

/-! ### KEY_EXPORT -/

theorem exec_keyExport_barred (hb : s.flag KEY_CFG_EXPORT_EN = false ∨ d.op 32 4 / 2 ^ 28 < 5 ∨ 9 < d.op 32 4 / 2 ^ 28) :
    exec (.keyExport d) s = .next (s.finish d (s.fail 0x12)) := by
  change execKeyExport d s = _
  refine h.next_command (if_pos ?_)
  rcases hb with hb | hb | hb <;> simp [hb, -Nat.reducePow]

section
variable (hx : s.flag KEY_CFG_EXPORT_EN = true) (h5 : 5 ≤ d.op 32 4 / 2 ^ 28) (h9 : d.op 32 4 / 2 ^ 28 ≤ 9)
include hx h5 h9

omit h in
theorem State.export_open : ¬ (!s.flag KEY_CFG_EXPORT_EN || decide (d.op 32 4 / 2 ^ 28 < 5) || decide (9 < d.op 32 4 / 2 ^ 28)) = true := by
  simp [hx, h5, h9, -Nat.reducePow]

theorem exec_keyExport_wraps {k : DeadKey} (ho : handleOk (d.op 32 4) = true) (ht : s.tampered = false) (hs : s.siteLoaded = true)
    (hk : s.keyOf (d.op 32 4) = some k) (hv : s.keyLive k.code k.index k.gen k.slot = true) :
    exec (.keyExport d) s = .next (s.finish d
      { st := s.record EV_KEY_EXPORTED 0 (d.op 32 4) 0 0, result := if d.op 32 4 / 2 ^ 28 ≤ 6 then 24 else 40,
        bytes := slice (Config.aesWrap (slice d.buf 0 32) (s.keyBytes (d.op 32 4 / 2 ^ 28) (d.op 32 4 / 256 % 2 ^ 20) k.gen k.slot)) 0
          (if d.op 32 4 / 2 ^ 28 ≤ 6 then 24 else 40), skip := 32 }) := by
  change execKeyExport d s = _
  refine h.next_command ?_
  dsimp only
  rw [if_neg (State.export_open hx h5 h9), ho, ht, hs, hk]
  dsimp only
  rw [hv]
  rfl

/-- What keeps a key from being exported, in the order of the tests (R396). -/
theorem exec_keyExport_refused (hd : s.handleLive (d.op 32 4) = false) :
    exec (.keyExport d) s = .next (s.finish d (s.fail (if !handleOk (d.op 32 4) then stBAD_DESC else if s.tampered then stTAMPERED
      else if !s.siteLoaded then 0x11 else stSTALE))) := by
  change execKeyExport d s = _
  refine h.next_command ?_
  dsimp only
  rw [if_neg (State.export_open hx h5 h9)]
  cases handleOk (d.op 32 4)
  · rfl
  cases s.tampered
  case true => rfl
  cases s.siteLoaded
  · rfl
  unfold State.handleLive at hd
  cases hk : s.keyOf (d.op 32 4) with
  | none => rfl
  | some k =>
    rw [hk] at hd
    dsimp only at hd ⊢
    rw [hd]
    rfl
end

/-! ### KEY_QUERY -/

theorem exec_keyQuery_no_site (hs : s.siteLoaded = false) : exec (.keyQuery d) s = .next (s.finish d (s.fail 0x11)) := by
  change execKeyQuery d s = _
  exact h.next_command (if_pos (by rw [hs]; rfl))

section
variable (hs : s.siteLoaded = true)
include hs

theorem exec_keyQuery_bad (ho : handleOk (d.op 32 4) = false) : exec (.keyQuery d) s = .next (s.finish d (s.ok 0)) := by
  change execKeyQuery d s = _
  refine h.next_command ?_
  dsimp only
  rw [if_neg (by rw [hs]; decide), if_pos (by rw [ho]; rfl)]

variable (ho : handleOk (d.op 32 4) = true)
include ho

theorem exec_keyQuery_answers : exec (.keyQuery d) s = .next (s.finish d (s.ok (s.keyReport (d.op 32 4)))) := by
  change execKeyQuery d s = _
  refine h.next_command ?_
  dsimp only
  rw [if_neg (by rw [hs]; decide), if_neg (by rw [ho]; decide)]
  unfold State.keyReport
  cases s.keyOf (d.op 32 4) <;> rfl

/-- The answer for a generation of a branch: a pinned key is cached. -/
theorem exec_keyQuery_branch {k : DeadKey} {c : Nat} (hc : d.op 32 4 / 2 ^ 28 = c) (hc7 : c = 7 ∨ c = 9 ∨ c = 10)
    (hk : s.keyOf (d.op 32 4) = some k) :
    let l := s.keyLive k.code k.index k.gen k.slot
    let p := l && (s.branch c).live.contains (k.gen, k.slot)
    exec (.keyQuery d) s =
      .next (s.finish d (s.ok (b2n l + 2 * b2n p + 4 * b2n p + 8 * k.slot + 256 * (s.branch c).gen))) := by
  intro l p
  rw [exec_keyQuery_answers h hs ho]
  unfold State.keyReport State.keyForce State.keyPinned
  rw [hk, hc]
  rcases hc7 with e | e | e <;> subst e <;> simp [l, p]
end
end

/-- Settles O35: each reading key command answers what the key its handle names allows. -/
theorem keyCommandsRead : Obligations.KeyCommandsRead := by
  unfold Obligations.KeyCommandsRead
  refine ⟨fun d s h ht ho => exec_keyPubRead_import h ht ho, fun d s h ht ho => exec_keyPubRead_attest h ht ho,
    fun d s h ht => exec_key_tampered h ht,
    fun d k s h hx h5 h9 ho ht hs hk hv => exec_keyExport_wraps h hx h5 h9 ho ht hs hk hv,
    fun d s h hx h5 h9 hd => exec_keyExport_refused h hx h5 h9 hd, fun d s h hb => exec_keyExport_barred h hb,
    fun d s h hs ho => ⟨_, exec_keyQuery_answers h hs ho, s.keyReport_odd _⟩,
    fun d k s h hs ho hc hk => exec_keyQuery_branch h hs ho rfl hc hk,
    fun d s h hs ho => exec_keyQuery_bad h hs ho, fun d s h hs => exec_keyQuery_no_site h hs,
    fun d s h ht hl => exec_keyAttest_alone h ht hl,
    fun d s h ht hp hc hl => ⟨s.askWellhouse d, exec_keyAttest_asks h ht hp hc hl, rfl, rfl⟩⟩

end Sys2Proof.Machine

/-! PROOFS. The key commands that change keys, and the tamper responses (R386 to R400). -/

namespace Sys2Proof.Machine

open Sys2Proof

/-! ### What the cache's entries leave of the keys -/

/-- The keys without the entries that the cache holds. -/
def State.keyView (s : State) : Keys := { s.key with shares := [] }

theorem State.keyView_enterKey (s : State) (x : Nat × Nat) : (s.enterKey x).keyView = s.keyView := by
  unfold State.enterKey
  split <;> rfl

theorem State.keyView_showCache (s : State) : s.showCache.keyView = s.keyView :=
  foldl_keeps State.keyView State.enterKey _ _ State.keyView_enterKey

theorem State.rd_enterKey (s : State) (x : Nat × Nat) (a : Nat) : (s.enterKey x).rd a = s.rd a := by
  unfold State.enterKey
  split <;> rfl

theorem State.rd_showCache (s : State) {a : Nat} (h : a ≠ KEY_CACHE_USE) : s.showCache.rd a = s.rd a := by
  unfold State.showCache State.fillCache
  rw [foldl_keeps (State.rd · a) State.enterKey _ _ fun s x => s.rd_enterKey x a]
  rw [State.rd_congr (State.setKey_regs _ _), State.rd_put_ne _ KEY_CACHE_USE_USED _ h.symm,
    State.rd_put_ne _ KEY_CACHE_USE_PINNED _ h.symm]

theorem State.dead_showCache (s : State) : s.showCache.key.dead = s.key.dead := congrArg (fun k => k.dead) s.keyView_showCache
theorem State.fleet_showCache (s : State) : s.showCache.key.fleet = s.key.fleet := congrArg (fun k => k.fleet) s.keyView_showCache
theorem State.stop_showCache (s : State) : s.showCache.key.stop = s.key.stop := congrArg (fun k => k.stop) s.keyView_showCache
theorem State.log_showCache (s : State) : s.showCache.key.log = s.key.log := congrArg (fun k => k.log) s.keyView_showCache
theorem State.store_showCache (s : State) : s.showCache.key.store = s.key.store := congrArg (fun k => k.store) s.keyView_showCache
theorem State.retired_showCache (s : State) : s.showCache.key.retired = s.key.retired := congrArg (fun k => k.retired) s.keyView_showCache
theorem State.zeroOn_showCache (s : State) : s.showCache.key.zeroOn = s.key.zeroOn := congrArg (fun k => k.zeroOn) s.keyView_showCache

@[simp] theorem State.showGens_key (s : State) : s.showGens.key = s.key := by
  simp only [State.showGens, State.setNum_key, State.put_key]

@[simp] theorem State.showTag_key (s : State) (k t : Nat) : (s.showTag k t).key = s.key := by
  unfold State.showTag State.setNum64
  split <;> simp only [State.setNum_key]

@[simp] theorem State.showTamper_key (s : State) : s.showTamper.key = s.key := by
  simp only [State.showTamper, State.put_key]

theorem State.get_of_rd {s t : State} {f : Fld} (h : t.rd f.addr = s.rd f.addr) : t.get f = s.get f :=
  congrArg (bitsOf · f.lo f.width) h

/-! ### The class S store (R392) -/

theorem State.slotLoaded_congr {s t : State} (h : t.key.store = s.key.store) (n : Nat) : t.slotLoaded n = s.slotLoaded n := by
  unfold State.slotLoaded Keys.siteA Keys.siteB Keys.classS
  rw [h]

theorem State.slotLoaded_eq_classS (s : State) {n : Nat} (h : n ≤ 1) : s.slotLoaded n = (s.key.classS (4 + n)).isSome := by
  obtain rfl | rfl : n = 0 ∨ n = 1 := by omega
  · rfl
  · rfl

/-- A written entry stands, and every entry that stood. -/
theorem State.classS_putS (s : State) (i j : Nat) (k : List Byte) (h : i = j ∨ (s.key.classS j).isSome = true) :
    ((s.putS i k).key.classS j).isSome = true := by
  unfold State.putS Keys.classS
  simp only [State.setKey_key]
  rw [tget_tput, Option.isSome_map]
  split
  · rfl
  · next hne =>
    rcases h with rfl | h
    · exact absurd rfl hne
    · unfold Keys.classS at h
      rwa [Option.isSome_map] at h

theorem State.classS_usedS (s : State) (i j : Nat) (h : (s.key.classS j).isSome = true) :
    ((s.usedS i).key.classS j).isSome = true := by
  unfold State.usedS
  split
  · exact s.classS_putS i j _ (.inr h)
  · exact h

theorem State.classS_foldl_putS {α : Type} (i : α → Nat) (k : State → α → List Byte) (j : Nat) (l : List α) : ∀ s : State,
    (s.key.classS j).isSome = true → ((l.foldl (fun s x => s.putS (i x) (k s x)) s).key.classS j).isSome = true := by
  induction l with
  | nil => exact fun _ h => h
  | cons a l ih => exact fun s h => ih _ (s.classS_putS _ _ _ (.inr h))

theorem State.classS_putBranches (s : State) (n j : Nat) (h : (s.key.classS j).isSome = true) :
    ((s.putBranches n).key.classS j).isSome = true :=
  State.classS_usedS _ _ _ (State.classS_foldl_putS _ _ _ _ _ h)

/-- A secret that is loaded loads its slot. -/
theorem State.loadSite_loaded (s : State) {n : Nat} (h : n ≤ 1) (x : List Byte) : (s.loadSite n x).1.slotLoaded n = true := by
  have hput : (((s.putS (4 + n) x).putBranches n).key.classS (4 + n)).isSome = true :=
    State.classS_putBranches _ _ _ (s.classS_putS _ _ _ (.inl rfl))
  have hstore : (s.loadSite n x).1.key.store = ((s.putS (4 + n) x).putBranches n).key.store := by
    unfold State.loadSite
    extract_lets tag u k k' k'' v w
    rw [State.record_key, State.store_showCache, State.showGens_key, State.showTag_key]
    have hw : w.key = k'' := by
      unfold w v
      split <;> simp only [State.put_key, State.setKey_key]
    rw [hw]
    unfold k'' k' k
    split <;> rfl
  rw [State.slotLoaded_congr hstore, State.slotLoaded_eq_classS _ h]
  exact hput

/-- An emptied entry is gone, and none comes. -/
theorem State.classS_dropS (s : State) (i j : Nat) (h : i = j ∨ s.key.classS j = none) : (s.dropS i).key.classS j = none := by
  unfold State.dropS Keys.classS
  simp only [State.setKey_key]
  rw [tget_tdel]
  split
  · rfl
  · next hne =>
    rcases h with rfl | h
    · exact absurd rfl hne
    · exact h

theorem State.classS_foldl_dropS (j : Nat) (l : List Nat) : ∀ s : State, (j ∈ l ∨ s.key.classS j = none) →
    (l.foldl (fun s i => s.dropS i) s).key.classS j = none := by
  induction l with
  | nil => exact fun s h => h.resolve_left List.not_mem_nil
  | cons a l ih =>
    intro s h
    refine ih _ ?_
    by_cases hm : j ∈ l
    · exact .inl hm
    · refine .inr (s.classS_dropS a j ?_)
      exact h.imp_left fun hj => ((List.mem_cons.mp hj).resolve_right hm).symm

/-- A slot emptied holds no secret. -/
theorem State.unloadSite_empty (s : State) {n : Nat} (h : n ≤ 1) : (s.unloadSite n).slotLoaded n = false := by
  rw [State.slotLoaded_eq_classS _ h]
  unfold State.unloadSite
  extract_lets u
  have hu : u.key.classS (4 + n) = none := State.classS_foldl_dropS (4 + n) _ s (.inl List.mem_cons_self)
  rw [State.showTag_key]
  split <;> rw [State.put_key, hu] <;> rfl

theorem State.retired_unloadSite (s : State) (n : Nat) : (s.unloadSite n).key.retired = s.key.retired := by
  unfold State.unloadSite
  extract_lets u
  have hu : u.key.retired = s.key.retired := foldl_keeps (fun t => t.key.retired) _ _ s fun _ _ => rfl
  rw [State.showTag_key]
  split <;> rw [State.put_key, hu]

theorem State.retired_kill (s : State) (l : List DeadKey) : (s.kill l).key.retired = s.key.retired := by
  unfold State.kill
  rw [State.retired_showCache]
  rfl

theorem State.dead_kill (s : State) (l : List DeadKey) : (s.kill l).key.dead = s.key.dead ++ l := by
  unfold State.kill
  rw [State.dead_showCache]
  rfl

end Sys2Proof.Machine

/-! PROOFS. The key commands that change keys, and the tamper responses (R386 to R400). -/

namespace Sys2Proof.Machine

open Sys2Proof

section
variable {d : Desc} {s : State} (h : Runs s d)
include h

/-! ### KEY_SITE_IMPORT -/

section
variable (ht : s.tampered = false)
include ht

theorem exec_keySiteImport_wellFormed (hs : s.slotLoaded (d.op 32 1) = false) (h1 : leAt d.buf 0 2 = 1) (h2 : leAt d.buf 2 6 = 0)
    (hc : onCurve (beNat (slice d.buf 8 32)) (beNat (slice d.buf 40 32)) = true) :
    exec (.keySiteImport d) s = .next (s.finish d
      (match Config.aesUnwrap (kdf (Config.p256Ecdh importKey (slice d.buf 8 64)) (ascii "CX77 SITE WRAP") (slice d.buf 8 32) 256)
          (slice d.buf 72 40) with
        | none => s.fail 0x10
        | some x => ((s.usedS 3).loadSite (d.op 32 1) x).1.ok ((s.usedS 3).loadSite (d.op 32 1) x).2)) := by
  change execKeySiteImport d s = _
  refine h.next_command ?_
  dsimp only
  rw [if_neg (by rw [ht]; decide), if_neg (by rw [hs]; decide)]
  refine (if_neg (by rw [h1, h2, hc]; decide)).trans ?_
  cases Config.aesUnwrap (kdf (Config.p256Ecdh importKey (slice d.buf 8 64)) (ascii "CX77 SITE WRAP") (slice d.buf 8 32) 256)
    (slice d.buf 72 40) <;> rfl

theorem exec_keySiteImport_refused (hb : s.slotLoaded (d.op 32 1) = true ∨ leAt d.buf 0 2 ≠ 1 ∨ leAt d.buf 2 6 ≠ 0 ∨
    onCurve (beNat (slice d.buf 8 32)) (beNat (slice d.buf 40 32)) = false) :
    exec (.keySiteImport d) s = .next (s.finish d (s.fail (if s.slotLoaded (d.op 32 1) then stCONFLICT else 0x10))) := by
  change execKeySiteImport d s = _
  refine h.next_command ?_
  dsimp only
  rw [if_neg (by rw [ht]; decide)]
  cases hs : s.slotLoaded (d.op 32 1) with
  | true => rfl
  | false =>
    rw [if_neg (by decide), if_pos]
    · rfl
    · rcases hb.resolve_left (by rw [hs]; decide) with hb | hb | hb <;> simp [hb]
end

/-! ### KEY_ROLL -/

/-- The least switch point of a roll (R393). -/
def State.leastSwitch (s : State) (code : Nat) : Nat :=
  if code = 7 then s.sn / 40 + 8 else if code = 9 then s.sn / 40 + 1 else s.sn + 1

section
variable (hs : s.siteLoaded = true)
include hs

theorem exec_keyRoll_pending {g k w : Nat} (hn : (s.branch (d.op 32 1)).next = some (g, k, w)) :
    exec (.keyRoll d) s = .next (s.finish d (s.fail stCONFLICT w)) := by
  change execKeyRoll d s = _
  refine h.next_command ?_
  dsimp only
  rw [if_neg (by rw [hs]; decide), hn]

section
variable (hn : (s.branch (d.op 32 1)).next = none)
include hn

/-- No generation is left: none is live, or the one that is has been introduced. -/
theorem exec_keyRoll_spent (hg : (match s.pickGen (d.op 32 1) s.newestSlot 255 (s.branch (d.op 32 1)).gen with
      | some g => (s.branch (d.op 32 1)).introduced.contains (g, s.newestSlot)
      | none => true) = true) : exec (.keyRoll d) s = .next (s.finish d (s.fail 0x13)) := by
  change execKeyRoll d s = _
  refine h.next_command ?_
  dsimp only
  rw [if_neg (by rw [hs]; decide), hn]
  cases hp : s.pickGen (d.op 32 1) s.newestSlot 255 (s.branch (d.op 32 1)).gen with
  | none => rfl
  | some g =>
    rw [hp] at hg
    exact if_pos hg

section
variable {g : Nat} (hp : s.pickGen (d.op 32 1) s.newestSlot 255 (s.branch (d.op 32 1)).gen = some g)
  (hi : (s.branch (d.op 32 1)).introduced.contains (g, s.newestSlot) = false)
include hp hi

theorem exec_keyRoll_early (hv : d.op 40 8 < s.leastSwitch (d.op 32 1)) :
    exec (.keyRoll d) s = .next (s.finish d (s.fail stREFUSED (s.leastSwitch (d.op 32 1)))) := by
  change execKeyRoll d s = _
  refine h.next_command ?_
  dsimp only
  rw [if_neg (by rw [hs]; decide), hn]
  dsimp only
  rw [hp]
  dsimp only
  rw [hi, if_neg (by decide)]
  exact if_pos hv

/-- The branch of a code with the generation a roll introduces. -/
def State.rolled (s : State) (c g v : Nat) : State :=
  s.setBranch c { s.branch c with
    next := some (g, s.newestSlot, v), introduced := (s.branch c).introduced ++ [(g, s.newestSlot)] }

theorem exec_keyRoll_rolls (hv : s.leastSwitch (d.op 32 1) ≤ d.op 40 8) : exec (.keyRoll d) s = .next (s.finish d
    (((((s.rolled (d.op 32 1) g (d.op 40 8)).usedS (branchEntry (d.op 32 1) s.newestSlot)).showCache).record EV_KEY_ROLLED 0
      (d.op 32 1) g (d.op 40 8)).ok g)) := by
  change execKeyRoll d s = _
  refine h.next_command ?_
  dsimp only
  rw [if_neg (by rw [hs]; decide), hn]
  dsimp only
  rw [hp]
  dsimp only
  rw [hi, if_neg (by decide)]
  exact if_neg (Nat.not_lt.mpr hv)
end
end

/-! ### KEY_INVALIDATE -/

/-- The keys an invalidation counts. -/
def State.killCount (s : State) (k : DeadKey) : Nat := if k.code = 5 ∨ k.code = 6 then 1 else s.branchCount k.code

/-- A key that an invalidation spares: in force in its branch, or in the mesh without FORCE (R395). -/
def State.killBarred (s : State) (k : DeadKey) (force : Nat) : Bool :=
  if k.code = 5 ∨ k.code = 6 then force % 2 == 0 && s.meshInForce k else (s.branch k.code).live.contains (k.gen, k.slot)

theorem exec_keyInvalidate_live {k : DeadKey} (hk : s.keyOf (d.op 32 4) = some k) (hd : s.key.dead.contains k = false) :
    exec (.keyInvalidate d) s = .next (s.finish d
      (if s.killBarred k (d.op 36 1) then s.fail stCONFLICT (s.killCount k)
        else ((s.kill [k]).record EV_KEY_INVALIDATED 0 (d.op 32 4) (s.killCount k) s.sn).ok (s.killCount k))) := by
  change execKeyInvalidate d s = _
  refine h.next_command ?_
  dsimp only
  rw [if_neg (by rw [hs]; decide), hk]
  dsimp only
  rw [hd, if_neg (by decide)]
  unfold State.killBarred State.killCount
  by_cases hc : k.code = 5 ∨ k.code = 6
  · simp only [hc, if_true, Bool.and_eq_true, beq_iff_eq]
  · simp only [hc, if_false]

theorem exec_keyInvalidate_dead (hk : (match s.keyOf (d.op 32 4) with | some k => s.key.dead.contains k | none => true) = true) :
    exec (.keyInvalidate d) s = .next (s.finish d (s.ok 0)) := by
  change execKeyInvalidate d s = _
  refine h.next_command ?_
  dsimp only
  rw [if_neg (by rw [hs]; decide)]
  cases hkey : s.keyOf (d.op 32 4) with
  | none => rfl
  | some k =>
    rw [hkey] at hk
    exact if_pos hk
end

/-! ### KEY_SITE_RETIRE -/

section
variable (hs : s.slotLoaded (d.op 32 1) = true)
include hs

/-- The mesh keys of a slot. -/
def State.slotMeshKeys (s : State) (slot : Nat) : List DeadKey := s.meshKeys fun k => k.slot == slot

/-- The generations of the branches introduced under a slot. -/
def State.slotGens (s : State) (slot : Nat) : List DeadKey :=
  [7, 9, 10].flatMap fun c => ((s.branch c).introduced.filter fun g => g.2 == slot).map fun g => (⟨c, 0, g.1, slot⟩ : DeadKey)

/-- A slot emptied, its keys dead. -/
def State.slotEmptied (s : State) (slot : Nat) : State := (s.kill (s.slotMeshKeys slot ++ s.slotGens slot)).unloadSite slot

/-- A slot retired. -/
def State.slotRetired (s : State) (slot : Nat) : State :=
  ((s.slotEmptied slot).setKey { (s.slotEmptied slot).key with retired := (s.slotEmptied slot).key.retired ++ [slot] }).showCache

theorem exec_keySiteRetire_newest (hn : d.op 32 1 = s.newestSlot) :
    ∃ n, exec (.keySiteRetire d) s = .next (s.finish d (s.fail stCONFLICT n)) := by
  refine ⟨((s.branch 7).live.filter fun g => g.2 == d.op 32 1).length * s.branchCount 7 +
    ((s.branch 9).live.filter fun g => g.2 == d.op 32 1).length * s.branchCount 9 +
    ((s.branch 10).live.filter fun g => g.2 == d.op 32 1).length * s.branchCount 10 + (s.slotMeshKeys (d.op 32 1)).length, ?_⟩
  change execKeySiteRetire d s = _
  refine h.next_command ?_
  dsimp only
  rw [if_neg (by rw [hs]; decide)]
  exact if_pos (by simp [hn])

theorem exec_keySiteRetire_retires (hn : d.op 32 1 ≠ s.newestSlot) (h7 : (s.branch 7).live.filter (fun g => g.2 == d.op 32 1) = [])
    (h9 : (s.branch 9).live.filter (fun g => g.2 == d.op 32 1) = [])
    (h10 : (s.branch 10).live.filter (fun g => g.2 == d.op 32 1) = [])
    (hm : (d.op 33 1 % 2 == 0 && (s.slotMeshKeys (d.op 32 1)).any s.meshInForce) = false) :
    exec (.keySiteRetire d) s = .next (s.finish d (((s.slotRetired (d.op 32 1)).record EV_SLOT_RETIRED 0 (d.op 32 1)
      (s.slotMeshKeys (d.op 32 1)).length (s.slotEmptied (d.op 32 1)).sn).ok (s.slotMeshKeys (d.op 32 1)).length)) := by
  unfold State.slotMeshKeys at hm
  change execKeySiteRetire d s = _
  refine h.next_command ?_
  dsimp only
  rw [if_neg (by rw [hs]; decide)]
  simp only [h7, h9, h10, hm, List.length_nil, Nat.zero_mul, Nat.add_zero, Nat.zero_add, bne_self_eq_false, beq_eq_false_iff_ne.mpr hn, Bool.or_self,
    Bool.false_eq_true, if_false]
  rfl
end

/-! ### KEY_TAMP_CLEAR -/

/-- The tamper latches and the responses cleared (R399). -/
def State.tamperCleared (s : State) : State :=
  ((s.put KEY_TAMP_LATCH_BITS 0).setKey { (s.put KEY_TAMP_LATCH_BITS 0).key with lockOn := false, zeroOn := false }).showTamper

theorem exec_keyTampClear_setup (hd : s.dev = .setup) : exec (.keyTampClear d) s = .next (s.finish d
    ((s.tamperCleared.drawn.record (0x4400 + Config.freeNat s.tamperCleared.free % 0x400) 0 (s.get KEY_TAMP_LATCH_BITS) 0 0).ok
      (s.get KEY_TAMP_LATCH_BITS))) := by
  change execKeyTampClear d s = _
  exact h.next_command (if_neg (by rw [hd]; decide))

theorem exec_keyTampClear_locked (hd : s.dev ≠ .setup) : exec (.keyTampClear d) s = .next (s.finish d (s.fail stLOCKED)) := by
  change execKeyTampClear d s = _
  exact h.next_command (if_pos (bne_iff_ne.mpr hd))
end

theorem State.slotRetired_left (s : State) {n : Nat} (h : n ≤ 1) : (s.slotRetired n).slotLoaded n = false ∧
    (s.slotRetired n).key.retired = s.key.retired ++ [n] := by
  unfold State.slotRetired
  refine ⟨?_, ?_⟩
  · rw [State.slotLoaded_congr (State.store_showCache _)]
    exact (State.slotLoaded_congr rfl n).trans (State.unloadSite_empty _ h)
  · rw [State.retired_showCache, State.setKey_key]
    unfold State.slotEmptied
    rw [State.retired_unloadSite, State.retired_kill]

theorem State.tamperCleared_left (s : State) : s.tamperCleared.get KEY_TAMP_LATCH_BITS = 0 ∧ s.tamperCleared.key.lockOn = false ∧
    s.tamperCleared.key.zeroOn = false := by
  unfold State.tamperCleared
  refine ⟨?_, ?_, ?_⟩
  · unfold State.showTamper
    rw [State.get_put_other _ KEY_STATUS_ZEROISED KEY_TAMP_LATCH_BITS _ (by decide),
      State.get_put_other _ KEY_STATUS_LOCKED KEY_TAMP_LATCH_BITS _ (by decide), State.get_congr (State.setKey_regs _ _),
      State.get_put _ KEY_TAMP_LATCH_BITS _ (by decide), Nat.zero_mod]
  · rw [State.showTamper_key, State.setKey_key]
  · rw [State.showTamper_key, State.setKey_key]

/-! ### KEY_SWITCH -/

/-- A branch whose switch point has come, with its next generation in force (R393). -/
def KeyBranch.switched (b : KeyBranch) (c sn : Nat) : KeyBranch :=
  match b.next with
  | some (g, k, w) =>
    if switchSn c w ≤ sn then { b with gen := g, slot := k, next := none, prev := some (b.gen, b.slot, switchSn c w) } else b
  | none => b

theorem State.switchBranch_eq (s : State) (c : Nat) : s.switchBranch c = s.setBranch c ((s.branch c).switched c s.sn) ∨
    s.switchBranch c = s ∧ (s.branch c).switched c s.sn = s.branch c := by
  unfold State.switchBranch KeyBranch.switched
  cases hn : (s.branch c).next with
  | none => exact .inr ⟨by simp only [hn], rfl⟩
  | some x =>
    obtain ⟨g, k, w⟩ := x
    by_cases hw : switchSn c w ≤ s.sn
    · exact .inl (by simp only [hn, hw, if_true])
    · exact .inr (by simp only [hn, hw, if_false, and_self])

theorem State.switchBranch_fleet (s : State) : (s.switchBranch 7).key = { s.key with fleet := s.key.fleet.switched 7 s.sn } ∧
    (s.switchBranch 7).sn = s.sn := by
  rcases s.switchBranch_eq 7 with h | ⟨h, hb⟩
  · rw [h]; exact ⟨rfl, rfl⟩
  · rw [h]
    exact ⟨by rw [show s.key.fleet.switched 7 s.sn = s.key.fleet from hb], rfl⟩

theorem State.switchBranch_stop (s : State) : (s.switchBranch 9).key = { s.key with stop := s.key.stop.switched 9 s.sn } ∧
    (s.switchBranch 9).sn = s.sn := by
  rcases s.switchBranch_eq 9 with h | ⟨h, hb⟩
  · rw [h]; exact ⟨rfl, rfl⟩
  · rw [h]
    exact ⟨by rw [show s.key.stop.switched 9 s.sn = s.key.stop from hb], rfl⟩

theorem State.switchBranch_log (s : State) : (s.switchBranch 10).key = { s.key with log := s.key.log.switched 10 s.sn } := by
  rcases s.switchBranch_eq 10 with h | ⟨h, hb⟩
  · rw [h]; rfl
  · rw [h, show s.key.log.switched 10 s.sn = s.key.log from hb]

/-- The three branches with what their switch points brought. -/
def State.switchAll (s : State) : State := ((s.switchBranch 7).switchBranch 9).switchBranch 10

theorem State.switchAll_key (s : State) : s.switchAll.key = { s.key with
    fleet := s.key.fleet.switched 7 s.sn, stop := s.key.stop.switched 9 s.sn, log := s.key.log.switched 10 s.sn } := by
  unfold State.switchAll
  obtain ⟨h7, hs7⟩ := s.switchBranch_fleet
  obtain ⟨h9, hs9⟩ := (s.switchBranch 7).switchBranch_stop
  rw [State.switchBranch_log, h9, hs9, h7, hs7]

theorem exec_keySwitch_serving {s : State} (hst : s.stroked = true) (hv : s.serving = true) :
    exec .keySwitch s = .next s.switchAll.showGens.showCache := by
  change execKeySwitch s = _
  unfold execKeySwitch
  rw [if_pos (by rw [hst, hv]; rfl)]
  rfl

theorem State.get_gen_log (s : State) : s.showGens.showCache.get KEY_GEN_LOG = s.key.log.gen % 2 ^ KEY_GEN_LOG.width := by
  rw [State.get_of_rd (State.rd_showCache _ (by decide))]
  unfold State.showGens
  rw [State.get_setNum_ne _ _ _ (by decide), State.get_put _ KEY_GEN_LOG _ (by decide)]

end Sys2Proof.Machine

/-! PROOFS. The tamper responses (R391, R398 to R400). -/

namespace Sys2Proof.Machine

open Sys2Proof

/-! ### A tamper detected -/

theorem State.finish_key (s : State) (d : Desc) (r : CmdRes) : (s.finish d r).key = r.st.key := by
  obtain ⟨-, -, -, -, -, -, -, -, -, -, -, -, hkey, -⟩ := commandsEndWithoutOtherEffect s d r
  exact hkey

theorem State.finish_rd (s : State) (d : Desc) (r : CmdRes) {a : Nat} (h : a ≠ RNG_LOST_CPL) : (s.finish d r).rd a = r.st.rd a := by
  obtain ⟨-, -, -, -, -, -, -, -, -, -, -, -, -, -, -, -, -, -, -, -, -, -, -, -, -, -, -, hrd⟩ :=
    commandsEndWithoutOtherEffect s d r
  exact hrd a h

theorem State.abandonKeys_key (s : State) : s.abandonKeys.key = s.key :=
  foldl_keeps (fun t => t.key) _ _ _ fun t _ => t.finish_key _ _

theorem State.rd_abandonKeys (s : State) {a : Nat} (h : a ≠ RNG_LOST_CPL) : s.abandonKeys.rd a = s.rd a :=
  foldl_keeps (State.rd · a) _ _ _ fun t _ => t.finish_rd _ _ h

theorem State.rd_showTamper (s : State) {a : Nat} (h : a ≠ KEY_STATUS) : s.showTamper.rd a = s.rd a := by
  unfold State.showTamper
  rw [State.rd_put_ne _ KEY_STATUS_ZEROISED _ h.symm, State.rd_put_ne _ KEY_STATUS_LOCKED _ h.symm]

theorem State.rd_unloadSite (s : State) (n : Nat) {a : Nat} (h : a ≠ KEY_STATUS) (ht : a < KEY_SITE_TAG_A_LO) :
    (s.unloadSite n).rd a = s.rd a := by
  have htag : ∀ u : State, (u.showTag n 0).rd a = u.rd a := by
    intro u
    unfold State.showTag State.setNum64
    have hlo : a ≠ KEY_SITE_TAG_A_LO ∧ a ≠ KEY_SITE_TAG_A_HI ∧ a ≠ KEY_SITE_TAG_B_LO ∧ a ≠ KEY_SITE_TAG_B_HI := by
      refine ⟨?_, ?_, ?_, ?_⟩ <;> simp only [KEY_SITE_TAG_A_LO, KEY_SITE_TAG_A_HI, KEY_SITE_TAG_B_LO, KEY_SITE_TAG_B_HI] at ht ⊢ <;>
        omega
    obtain ⟨h1, h2, h3, h4⟩ := hlo
    split
    · rw [State.rd_setNum_ne _ _ h2, State.rd_setNum_ne _ _ h1]
    · rw [State.rd_setNum_ne _ _ h4, State.rd_setNum_ne _ _ h3]
  unfold State.unloadSite
  extract_lets u
  have hu : u.rd a = s.rd a := foldl_keeps (State.rd · a) _ _ s fun _ _ => rfl
  rw [htag]
  split
  · exact (State.rd_put_ne _ KEY_STATUS_SLOT_A _ h.symm).trans hu
  · exact (State.rd_put_ne _ KEY_STATUS_SLOT_B _ h.symm).trans hu

theorem State.fatalHalt_key (s : State) (c : Nat) : (s.fatalHalt c).key = s.key := by
  have hpwm : ∀ u : State, u.pwmLow.key = u.key := by
    intro u
    unfold State.pwmLow State.drivePwm
    split <;> rfl
  unfold State.fatalHalt
  split
  · rfl
  · rw [State.setDev_key, hpwm, State.put_key]

theorem State.rd_fatalHalt (s : State) (c : Nat) {a : Nat} (hs : a ≠ SYS_STATUS) (ht : a ≠ STP_STATUS) (hr : a / 0x10000 ≠ 10) :
    (s.fatalHalt c).rd a = s.rd a := BitVec.eq_of_toNat_eq (s.num_fatalHalt c hs ht hr)

/-- A source latched, counted and recorded (R399). -/
def State.tamperNoted (s : State) (n : Nat) : State :=
  let r := s.get KEY_TAMP_CFG_RESPONSE / 4 ^ n % 4
  let s := s.put KEY_TAMP_LATCH_BITS (setBit (s.get KEY_TAMP_LATCH_BITS) n)
  let s := if s.num KEY_TAMP_COUNT = 0xFFFFFFFF then s else s.count KEY_TAMP_COUNT 1
  let s := if s.dev = DevState.dormant then s.put SYS_WAKE_CAUSE_BITS (setBit (s.get SYS_WAKE_CAUSE_BITS) 2) else s
  s.record EV_TAMPER_DETECTED 0 n r (s.num KEY_TAMP_COUNT)

theorem State.tamperNoted_key (s : State) (n : Nat) : (s.tamperNoted n).key = s.key := by
  unfold State.tamperNoted
  extract_lets r u v w
  have hv : v.key = s.key := by
    unfold v
    split <;> rfl
  rw [State.record_key]
  unfold w
  split
  · rw [State.put_key, hv]
  · exact hv

theorem State.rd_tamperNoted (s : State) (n : Nat) {a : Nat} (hl : a ≠ KEY_TAMP_LATCH) (hc : a ≠ KEY_TAMP_COUNT)
    (hw : a ≠ SYS_WAKE_CAUSE) : (s.tamperNoted n).rd a = s.rd a := by
  unfold State.tamperNoted
  extract_lets r u v w
  have hu : u.rd a = s.rd a := State.rd_put_ne s KEY_TAMP_LATCH_BITS _ hl.symm
  have hv : v.rd a = s.rd a := by
    unfold v
    split
    · exact hu
    · exact (State.rd_setNum_ne u _ hc).trans hu
  rw [State.record_rd]
  unfold w
  split
  · exact (State.rd_put_ne v SYS_WAKE_CAUSE_BITS _ hw.symm).trans hv
  · exact hv

theorem State.tamperNoted_latched (s : State) {n : Nat} (h : n ≤ 7) : bit ((s.tamperNoted n).get KEY_TAMP_LATCH_BITS) n = true := by
  unfold State.tamperNoted
  extract_lets r u v w
  have hu : bit (u.get KEY_TAMP_LATCH_BITS) n = true := by
    unfold u
    rw [State.get_put _ KEY_TAMP_LATCH_BITS _ (by decide)]
    exact (bit_mod_two_pow (Nat.lt_succ_of_le h)).trans (bit_setBit _ _)
  have hv : v.get KEY_TAMP_LATCH_BITS = u.get KEY_TAMP_LATCH_BITS := by
    unfold v
    split
    · rfl
    · exact u.get_setNum_ne _ _ (by decide)
  have hw : w.get KEY_TAMP_LATCH_BITS = u.get KEY_TAMP_LATCH_BITS := by
    unfold w
    split
    · exact (State.get_put_other v SYS_WAKE_CAUSE_BITS KEY_TAMP_LATCH_BITS _ (by decide)).trans hv
    · exact hv
  rw [State.record_get, hw]
  exact hu

section
variable {s : State} {n : Nat}

theorem exec_trngFault_live (h : s.mainLive = true) :
    exec (.trngFault n) s = .next ((s.put KEY_STATUS_TRNG_OK 0).record EV_TRNG_FAULT 0 n 0 0) := by
  change execTrngFault n s = _
  unfold execTrngFault
  rw [if_neg (by rw [h]; decide)]

theorem exec_tamperDetected_unseen (h : s.get KEY_TAMP_CFG_RESPONSE / 4 ^ n % 4 = 0) : exec (.tamperDetected n) s = .next s := by
  change execTamperDetected n s = _
  unfold execTamperDetected
  dsimp only
  rw [if_pos (.inr h)]

theorem State.tamperNoted_dev (s : State) (n : Nat) : (s.tamperNoted n).dev = s.dev := by
  unfold State.tamperNoted
  extract_lets r u v w
  have hv : v.dev = s.dev := by
    unfold v
    split <;> rfl
  rw [State.record_dev]
  unfold w
  split
  · rw [State.put_dev, hv]
  · exact hv

variable (hn : n ≤ 7) (hr : s.get KEY_TAMP_CFG_RESPONSE / 4 ^ n % 4 ≠ 0)
include hn hr

theorem exec_tamperDetected_serving (hv : s.serving = true) :
    exec (.tamperDetected n) s = .next ((s.tamperNoted n).tamperActs n) := by
  have hserve : (s.tamperNoted n).serving = true := by
    unfold State.serving at hv ⊢
    rwa [State.tamperNoted_dev]
  change execTamperDetected n s = _
  unfold execTamperDetected
  dsimp only
  rw [if_neg (by omega)]
  exact congrArg Host.Outcome.next (if_pos (by
    show ((s.tamperNoted n).serving || (s.tamperNoted n).dev == .halt) = true
    rw [hserve]
    rfl))

/-- The owed response of a source that no key engine can act on (R400). -/
def State.tamperKept (s : State) (n r : Nat) : State :=
  s.setKey { s.key with owed := s.key.owed ++ [n], lockOn := s.key.lockOn || r == 2, zeroOn := s.key.zeroOn || r == 3 }

theorem exec_tamperDetected_owed (hv : s.serving = false) (hd : s.dev ≠ .halt) : exec (.tamperDetected n) s =
    .next ((s.tamperNoted n).tamperKept n (s.get KEY_TAMP_CFG_RESPONSE / 4 ^ n % 4)) := by
  have hserve : (s.tamperNoted n).serving = false := by
    unfold State.serving at hv ⊢
    rwa [State.tamperNoted_dev]
  change execTamperDetected n s = _
  unfold execTamperDetected
  dsimp only
  rw [if_neg (by omega)]
  exact congrArg Host.Outcome.next (if_neg (by
    show ¬ ((s.tamperNoted n).serving || (s.tamperNoted n).dev == .halt) = true
    rw [hserve, State.tamperNoted_dev]
    simpa using hd))
end

theorem State.tamperNoted_response (s : State) (n : Nat) :
    (s.tamperNoted n).get KEY_TAMP_CFG_RESPONSE = s.get KEY_TAMP_CFG_RESPONSE :=
  State.get_of_rd (s.rd_tamperNoted n (by decide) (by decide) (by decide))

/-- The lock response: the keys locked, the key commands in progress abandoned. -/
def State.tamperLocked (s : State) : State := (s.setKey { s.key with lockOn := true }).showTamper.abandonKeys

theorem State.tamperActs_lock {s : State} {n : Nat} (h : s.get KEY_TAMP_CFG_RESPONSE / 4 ^ n % 4 = 2) :
    s.tamperActs n = s.tamperLocked := by
  unfold State.tamperActs
  rw [h]
  rfl

theorem State.tamperActs_zeroise {s : State} {n : Nat} (h : s.get KEY_TAMP_CFG_RESPONSE / 4 ^ n % 4 = 3) :
    s.tamperActs n = s.abandonKeys.zeroise n := by
  unfold State.tamperActs
  rw [h]
  rfl

theorem State.tamperLocked_key (s : State) : s.tamperLocked.key = { s.key with lockOn := true } := by
  unfold State.tamperLocked
  rw [State.abandonKeys_key, State.showTamper_key, State.setKey_key]

theorem State.rd_tamperLocked (s : State) : s.tamperLocked.rd KEY_TAMP_LATCH = s.rd KEY_TAMP_LATCH := by
  unfold State.tamperLocked
  rw [State.rd_abandonKeys _ (by decide), State.rd_showTamper _ (by decide), State.rd_congr (State.setKey_regs _ _)]

/-- The slots, the store and the cache emptied, and the response latched. -/
def State.keysWiped (s : State) : State :=
  s.setKey { s.key with cache := [], shares := [], zeroOn := true, store := { s.key.store with cells := [] } }

theorem State.zeroise_eq (s : State) (n : Nat) : s.zeroise n =
    ((((s.unloadSite 0).unloadSite 1).keysWiped.showTamper.showCache).record EV_ZEROISED 0 n 0 0).fatalHalt 4 := rfl

/-- What zeroising leaves of the keys: no cell of the store, no cached handle, the response latched. -/
theorem State.zeroise_keys (s : State) (n : Nat) : (s.zeroise n).key.zeroOn = true ∧ (s.zeroise n).key.store.cells = [] ∧
    (s.zeroise n).key.cache = [] ∧ (s.zeroise n).dev = .halt ∧ (s.zeroise n).rd KEY_TAMP_LATCH = s.rd KEY_TAMP_LATCH := by
  rw [State.zeroise_eq]
  refine ⟨?_, ?_, ?_, State.fatalHalt_dev _ _, ?_⟩
  · rw [State.fatalHalt_key, State.record_key, State.zeroOn_showCache, State.showTamper_key, State.keysWiped, State.setKey_key]
  · rw [State.fatalHalt_key, State.record_key, State.store_showCache, State.showTamper_key, State.keysWiped, State.setKey_key]
  · rw [State.fatalHalt_key, State.record_key, State.showCache_cache, State.showTamper_key, State.keysWiped, State.setKey_key]
  · rw [State.rd_fatalHalt _ _ (by decide) (by decide) (by decide), State.record_rd, State.rd_showCache _ (by decide),
      State.rd_showTamper _ (by decide), State.keysWiped, State.rd_congr (State.setKey_regs _ _),
      State.rd_unloadSite _ _ (by decide) (by decide), State.rd_unloadSite _ _ (by decide) (by decide)]

theorem State.siteLoaded_of_no_cells {s : State} (h : s.key.store.cells = []) : s.siteLoaded = false := by
  unfold State.siteLoaded Keys.siteA Keys.siteB Keys.classS
  rw [h]
  rfl

/-- Settles O36: each key command takes the branch that slot, branch and generation name, and a tamper source acts by its response. -/
theorem keyCommandsChange : Obligations.KeyCommandsChange := by
  unfold Obligations.KeyCommandsChange
  refine ⟨fun d s h h1 ht hs hv h0 hc => ⟨exec_keySiteImport_wellFormed h ht hs hv h0 hc, fun x => State.loadSite_loaded _ h1 x⟩,
    fun d s h ht hb => exec_keySiteImport_refused h ht hb,
    fun d g s h hs hn hp hi hv => exec_keyRoll_rolls h hs hn hp hi hv,
    fun d g k w s h hs hn => exec_keyRoll_pending h hs hn, fun d s h hs hn hg => exec_keyRoll_spent h hs hn hg,
    fun d g s h hs hn hp hi hv => exec_keyRoll_early h hs hn hp hi hv, ?switch,
    fun d k s h hs hk hd => ⟨exec_keyInvalidate_live h hs hk hd, s.dead_kill _⟩,
    fun d s h hs hk => exec_keyInvalidate_dead h hs hk, ?retire, fun d s h hs hn => exec_keySiteRetire_newest h hs hn, ?clear,
    fun d s h hd => exec_keyTampClear_locked h hd, fun n s h => exec_trngFault_live h, ?lock, ?zeroise,
    fun n s h => exec_tamperDetected_unseen h, ?owed⟩
  case switch =>
    intro s hst hv
    refine ⟨_, exec_keySwitch_serving hst hv, ?_, ?_, ?_, ?_⟩
    · rw [State.fleet_showCache, State.showGens_key, State.switchAll_key]; rfl
    · rw [State.stop_showCache, State.showGens_key, State.switchAll_key]; rfl
    · rw [State.log_showCache, State.showGens_key, State.switchAll_key]; rfl
    · rw [State.get_gen_log, State.log_showCache, State.showGens_key]
  case retire =>
    intro d s h h1 hs hn h7 h9 h10 hm
    obtain ⟨hslot, hret⟩ := s.slotRetired_left h1
    exact ⟨_, exec_keySiteRetire_retires h hs hn h7 h9 h10 hm, hslot, hret⟩
  case clear =>
    intro d s h hd
    obtain ⟨hlatch, hlock, hzero⟩ := s.tamperCleared_left
    exact ⟨_, exec_keyTampClear_setup h hd, hlatch, hlock, hzero⟩
  case lock =>
    intro n s hv hn hr
    have hacts : (s.tamperNoted n).tamperActs n = (s.tamperNoted n).tamperLocked :=
      State.tamperActs_lock (by rw [State.tamperNoted_response]; exact hr)
    have hlock : (s.tamperNoted n).tamperLocked.key.lockOn = true := by rw [State.tamperLocked_key]
    refine ⟨(s.tamperNoted n).tamperLocked, ?_, hlock, ?_, ?_⟩
    · rw [exec_tamperDetected_serving hn (by omega) hv, hacts]
    · rw [State.get_of_rd (State.rd_tamperLocked _)]
      exact s.tamperNoted_latched hn
    · unfold State.tampered
      rw [hlock]
      rfl
  case zeroise =>
    intro n s hv hn hr
    have hacts : (s.tamperNoted n).tamperActs n = (s.tamperNoted n).abandonKeys.zeroise n :=
      State.tamperActs_zeroise (by rw [State.tamperNoted_response]; exact hr)
    obtain ⟨hzero, hcells, hcache, hdev, hrd⟩ := (s.tamperNoted n).abandonKeys.zeroise_keys n
    have hlatch : ((s.tamperNoted n).abandonKeys.zeroise n).get KEY_TAMP_LATCH_BITS = (s.tamperNoted n).get KEY_TAMP_LATCH_BITS :=
      State.get_of_rd (f := KEY_TAMP_LATCH_BITS) (hrd.trans (State.rd_abandonKeys _ (by decide)))
    refine ⟨(s.tamperNoted n).abandonKeys.zeroise n, by rw [exec_tamperDetected_serving hn (by omega) hv, hacts], hzero, ?_,
      State.siteLoaded_of_no_cells hcells, hcells, hcache, hdev⟩
    rw [hlatch]
    exact s.tamperNoted_latched hn
  case owed =>
    intro n s hv hd hn hr
    refine ⟨_, exec_tamperDetected_owed hn hr hv hd, ?_, ?_⟩ <;> unfold State.tamperKept
    · rw [State.setKey_key, State.tamperNoted_key]
    · rw [State.get_congr (State.setKey_regs _ _)]
      exact s.tamperNoted_latched hn

end Sys2Proof.Machine

/-! PROOFS. The weighing instruments of the Wellhouse (R411 to R414, R422). -/

namespace Sys2Proof.Machine

open Sys2Proof

/-! ### A request is taken (R422) -/

/-- The state once a request has been taken from the link. -/
def State.reqTaken (s : State) (r : WhReq) : State := s.setWel { s.wel with reqs := s.wel.reqs.erase r }

section
variable {s : State} {code : Nat} {act : State → WhReq → State}

theorem State.takeReq_none (h : s.whUp = false ∨ s.wel.reqs = []) : s.takeReq code act = s := by
  unfold State.takeReq
  rcases h with h | h
  · rw [h]; rfl
  · rw [h, List.find?_nil, ite_self]

theorem State.takeReq_some {r : WhReq} (hw : s.whUp = true) (hr : (s.wel.reqs.find? fun r => r.code == code) = some r) :
    s.takeReq code act = act (s.reqTaken r) r := by
  unfold State.takeReq
  rw [hw, hr]
  rfl

theorem State.onInst_refused {r : WhReq} {kind st : Nat} {f : State → State} (h : s.instRefuses r.instr kind = some st) :
    s.onInst r kind f = s.respond r st [] := by
  unfold State.onInst
  rw [h]

theorem State.onInst_acts {r : WhReq} {kind : Nat} {f : State → State} (h : s.instRefuses r.instr kind = none) :
    s.onInst r kind f = f s := by
  unfold State.onInst
  rw [h]
end

/-- Without power, or without a request on the link, no request acts. -/
theorem exec_requests_idle {s : State} (m : WlIn) (h : s.whUp = false ∨ s.wel.reqs = []) :
    ∀ x ∈ [Instr.zero m, .tare m, .tarePreset, .tareClear, .weigh m, .cycleFilled, .cycleDischarged, .cycleAbort, .totalRead,
      .pulseRead, .recordRead, .auditRead, .paramRead, .rawRead m, .statement, .showId, .paramWrite, .keyEnrol, .auditArchive],
      exec x s = .next s := by
  have key {code : Nat} {act : State → WhReq → State} :
      (.next (s.takeReq code act) : Host.Outcome State Fault Refusal) = .next s := congrArg _ (State.takeReq_none h)
  simp only [List.forall_mem_cons, List.not_mem_nil, false_imp_iff, implies_true, and_true]
  exact ⟨key, key, key, key, key, key, key, key, key, key, key, key, key, key, key, key, key, key, key⟩

section
variable {s u : State} {r : WhReq} (hw : s.whUp = true)
include hw

/-! ### ZERO, TARE, WEIGH (R411, R412) -/

section
variable {m : WlIn} (hr : (s.wel.reqs.find? fun r => r.code == 0x10) = some r) (hu : u = s.reqTaken r)
include hr hu

theorem exec_zero_barred {st : Nat} (hi : u.instRefuses r.instr 1 = some st) : exec (.zero m) s = .next (u.respond r st []) := by
  subst hu
  change execZero m s = _
  unfold execZero
  rw [State.takeReq_some hw hr, State.onInst_refused hi]

variable (hi : u.instRefuses r.instr 1 = none)
include hi

theorem exec_zero_refused (hb : u.wel.backlog = true ∨ u.isStable r.instr m = false ∨
    16 * u.param r.instr 0x13 < absI ((u.inst r.instr).z16 + u.weight16 r.instr m)) :
    exec (.zero m) s =
      .next (u.respond r (if u.wel.backlog then 0x12 else if u.isStable r.instr m then 0x11 else 0x10) []) := by
  subst hu
  change execZero m s = _
  unfold execZero
  rw [State.takeReq_some hw hr, State.onInst_acts hi]
  dsimp only
  cases hbl : (s.reqTaken r).wel.backlog with
  | true => rfl
  | false =>
    cases hst : (s.reqTaken r).isStable r.instr m with
    | false => rfl
    | true =>
      have hz := (hb.resolve_left (by rw [hbl]; decide)).resolve_left (by rw [hst]; decide)
      rw [if_neg (by decide), if_neg (by decide), if_pos (by exact_mod_cast hz)]
      rfl

/-- The zero moved. -/
def State.zeroed (u : State) (i : Nat) (m : WlIn) : State :=
  u.modInst i fun x => { x with z16 := (u.inst i).z16 + u.weight16 i m }

/-- The record of a zero setting. -/
def State.zeroRecord (v : State) (r : WhReq) (m : WlIn) : State :=
  v.whRecord 6 r.instr (v.weightFlags r.instr m 0) r.tag (v.param r.instr 0x03) 0 0 0 (v.inst r.instr).total 0

theorem exec_zero_sets (hb : u.wel.backlog = false) (hst : u.isStable r.instr m = true)
    (hz : absI ((u.inst r.instr).z16 + u.weight16 r.instr m) ≤ 16 * u.param r.instr 0x13) :
    exec (.zero m) s = .next (if ((u.zeroed r.instr m).zeroRecord r m).wel.die = 2
      then ((u.zeroed r.instr m).zeroRecord r m).respond r 0x14 []
      else ((u.zeroed r.instr m).zeroRecord r m).respond r 0 ((u.zeroed r.instr m).zeroRecord r m).lastRecord.2) := by
  subst hu
  change execZero m s = _
  unfold execZero
  rw [State.takeReq_some hw hr, State.onInst_acts hi]
  dsimp only
  rw [hb, hst, if_neg (by decide), if_neg (by decide), if_neg (by exact_mod_cast Nat.not_lt.mpr hz)]
  rfl
end

section
variable {m : WlIn} (hr : (s.wel.reqs.find? fun r => r.code == 0x11) = some r) (hu : u = s.reqTaken r)
include hr hu

theorem exec_tare_barred {st : Nat} (hi : u.instRefuses r.instr 1 = some st) : exec (.tare m) s = .next (u.respond r st []) := by
  subst hu
  change execTare m s = _
  unfold execTare
  rw [State.takeReq_some hw hr, State.onInst_refused hi]

variable (hi : u.instRefuses r.instr 1 = none)
include hi

theorem exec_tare_refused {g : Int} (hg : g = whole16 (u.weight16 r.instr m))
    (hb : u.isStable r.instr m = false ∨ g ≤ 0 ∨ (u.param r.instr 0x15 : Int) < g) :
    exec (.tare m) s = .next (u.respond r (if u.isStable r.instr m then 0x11 else 0x10) []) := by
  subst hu hg
  change execTare m s = _
  unfold execTare
  rw [State.takeReq_some hw hr, State.onInst_acts hi]
  dsimp only
  cases hst : (s.reqTaken r).isStable r.instr m with
  | false => rfl
  | true =>
    rw [if_neg (by decide), if_pos (hb.resolve_left (by rw [hst]; decide))]
    rfl

theorem exec_tare_takes {g : Int} (hst : u.isStable r.instr m = true) (hg : g = whole16 (u.weight16 r.instr m)) (h0 : 0 < g)
    (hmax : g ≤ u.param r.instr 0x15) :
    exec (.tare m) s = .next ((u.modInst r.instr fun x => { x with tare := some (g, false) }).respond r 0 []) := by
  subst hu hg
  change execTare m s = _
  unfold execTare
  rw [State.takeReq_some hw hr, State.onInst_acts hi]
  dsimp only
  rw [hst, if_neg (by decide), if_neg (by omega)]
end

section
variable (hr : (s.wel.reqs.find? fun r => r.code == 0x12) = some r) (hu : u = s.reqTaken r)
include hr hu

theorem exec_tarePreset_barred {st : Nat} (hi : u.instRefuses r.instr 1 = some st) :
    exec .tarePreset s = .next (u.respond r st []) := by
  subst hu
  change execTarePreset s = _
  unfold execTarePreset
  rw [State.takeReq_some hw hr, State.onInst_refused hi]

variable (hi : u.instRefuses r.instr 1 = none)
include hi

theorem exec_tarePreset_large (ht : u.param r.instr 0x15 < leAt r.args 0 4) : exec .tarePreset s = .next (u.respond r 0x11 []) := by
  subst hu
  change execTarePreset s = _
  unfold execTarePreset
  rw [State.takeReq_some hw hr, State.onInst_acts hi]
  exact congrArg _ (if_pos ht)

theorem exec_tarePreset_takes (ht : leAt r.args 0 4 ≤ u.param r.instr 0x15) : exec .tarePreset s =
    .next ((u.modInst r.instr fun x => { x with tare := some ((leAt r.args 0 4 : Int), true) }).respond r 0 []) := by
  subst hu
  change execTarePreset s = _
  unfold execTarePreset
  rw [State.takeReq_some hw hr, State.onInst_acts hi]
  exact congrArg _ (if_neg (Nat.not_lt.mpr ht))
end

section
variable (hr : (s.wel.reqs.find? fun r => r.code == 0x13) = some r) (hu : u = s.reqTaken r)
include hr hu

theorem exec_tareClear_barred {st : Nat} (hi : u.instRefuses r.instr 1 = some st) :
    exec .tareClear s = .next (u.respond r st []) := by
  subst hu
  change execTareClear s = _
  unfold execTareClear
  rw [State.takeReq_some hw hr, State.onInst_refused hi]

theorem exec_tareClear_clears (hi : u.instRefuses r.instr 1 = none) :
    exec .tareClear s = .next ((u.modInst r.instr fun x => { x with tare := none }).respond r 0 []) := by
  subst hu
  change execTareClear s = _
  unfold execTareClear
  rw [State.takeReq_some hw hr, State.onInst_acts hi]
end

section
variable {m : WlIn} (hr : (s.wel.reqs.find? fun r => r.code == 0x14) = some r) (hu : u = s.reqTaken r)
include hr hu

theorem exec_weigh_barred {st : Nat} (hi : u.instRefuses r.instr 1 = some st) : exec (.weigh m) s = .next (u.respond r st []) := by
  subst hu
  change execWeigh m s = _
  unfold execWeigh
  rw [State.takeReq_some hw hr, State.onInst_refused hi]

variable (hi : u.instRefuses r.instr 1 = none)
include hi

theorem exec_weigh_busy (hb : u.wel.backlog = true ∨ (u.inst r.instr).weigh.isSome = true) :
    exec (.weigh m) s = .next (u.respond r (if u.wel.backlog then 0x12 else 0x18) []) := by
  subst hu
  change execWeigh m s = _
  unfold execWeigh
  rw [State.takeReq_some hw hr, State.onInst_acts hi]
  cases hbl : (s.reqTaken r).wel.backlog with
  | true => rfl
  | false =>
    rw [if_neg (by decide), if_pos (hb.resolve_left (by rw [hbl]; decide))]
    rfl

variable (hb : u.wel.backlog = false) (hn : (u.inst r.instr).weigh = none)
include hb hn

theorem exec_weigh_out (ho : u.outOfRange r.instr (u.weight16 r.instr m) = true) :
    exec (.weigh m) s = .next (u.respond r 0x11 []) := by
  subst hu
  change execWeigh m s = _
  unfold execWeigh
  rw [State.takeReq_some hw hr, State.onInst_acts hi, hb, hn, if_neg (by decide), if_neg (by decide), if_pos ho]

theorem exec_weigh_waits (ho : u.outOfRange r.instr (u.weight16 r.instr m) = false) :
    exec (.weigh m) s = .next (u.modInst r.instr fun x => { x with weigh := some (r, u.wel.ms) }) := by
  subst hu
  change execWeigh m s = _
  unfold execWeigh
  rw [State.takeReq_some hw hr, State.onInst_acts hi, hb, hn, if_neg (by decide), if_neg (by decide), if_neg (by rw [ho]; decide)]
end

/-! ### The totalising cycle (R413, R414) -/

section
variable (hr : (s.wel.reqs.find? fun r => r.code == 0x20) = some r) (hu : u = s.reqTaken r)
include hr hu

theorem exec_cycleFilled_barred {st : Nat} (hi : u.instRefuses r.instr 2 = some st) :
    exec .cycleFilled s = .next (u.respond r st []) := by
  subst hu
  change execCycleFilled s = _
  unfold execCycleFilled
  rw [State.takeReq_some hw hr, State.onInst_refused hi]

variable (hi : u.instRefuses r.instr 2 = none)
include hi

theorem exec_cycleFilled_backlog (hb : u.wel.backlog = true) : exec .cycleFilled s = .next (u.respond r 0x12 []) := by
  subst hu
  change execCycleFilled s = _
  unfold execCycleFilled
  rw [State.takeReq_some hw hr, State.onInst_acts hi, if_pos hb]

variable (hb : u.wel.backlog = false)
include hb

theorem exec_cycleFilled_state (hc : (u.inst r.instr).cyc ≠ .empty) : exec .cycleFilled s = .next (u.respond r 0x16 []) := by
  subst hu
  change execCycleFilled s = _
  unfold execCycleFilled
  rw [State.takeReq_some hw hr, State.onInst_acts hi, hb, if_neg (by decide), if_pos (bne_iff_ne.mpr hc)]

theorem exec_cycleFilled_starts (hc : (u.inst r.instr).cyc = .empty) : exec .cycleFilled s =
    .next ((u.modInst r.instr fun x => { x with
      cyc := .settleG, since := u.wel.ms, gross := none, tag := r.tag, cycle := x.cycle + 1 }).respond r 0 []) := by
  subst hu
  change execCycleFilled s = _
  unfold execCycleFilled
  rw [State.takeReq_some hw hr, State.onInst_acts hi, hb, if_neg (by decide), if_neg (by rw [hc]; decide)]
end

section
variable (hr : (s.wel.reqs.find? fun r => r.code == 0x21) = some r) (hu : u = s.reqTaken r)
include hr hu

theorem exec_cycleDischarged_barred {st : Nat} (hi : u.instRefuses r.instr 2 = some st) :
    exec .cycleDischarged s = .next (u.respond r st []) := by
  subst hu
  change execCycleDischarged s = _
  unfold execCycleDischarged
  rw [State.takeReq_some hw hr, State.onInst_refused hi]

variable (hi : u.instRefuses r.instr 2 = none)
include hi

theorem exec_cycleDischarged_settles (hc : (u.inst r.instr).cyc = .emptying ∨ (u.inst r.instr).cyc = .halted) :
    exec .cycleDischarged s =
      .next ((u.modInst r.instr fun x => { x with cyc := .settleE, since := u.wel.ms, tag := r.tag }).respond r 0 []) := by
  subst hu
  change execCycleDischarged s = _
  unfold execCycleDischarged
  rw [State.takeReq_some hw hr, State.onInst_acts hi]
  refine congrArg _ (if_neg ?_)
  rcases hc with hc | hc <;> rw [hc] <;> decide

theorem exec_cycleDischarged_state (he : (u.inst r.instr).cyc ≠ .emptying) (hh : (u.inst r.instr).cyc ≠ .halted) :
    exec .cycleDischarged s = .next (u.respond r 0x16 []) := by
  subst hu
  change execCycleDischarged s = _
  unfold execCycleDischarged
  rw [State.takeReq_some hw hr, State.onInst_acts hi]
  exact congrArg _ (if_pos (by simp [he, hh]))
end

section
variable (hr : (s.wel.reqs.find? fun r => r.code == 0x22) = some r) (hu : u = s.reqTaken r)
include hr hu

theorem exec_cycleAbort_barred {st : Nat} (hi : u.instRefuses r.instr 2 = some st) :
    exec .cycleAbort s = .next (u.respond r st []) := by
  subst hu
  change execCycleAbort s = _
  unfold execCycleAbort
  rw [State.takeReq_some hw hr, State.onInst_refused hi]

theorem exec_cycleAbort_halts (hi : u.instRefuses r.instr 2 = none) :
    exec .cycleAbort s = .next ((u.haltCycle r.instr).respond r 0 []) := by
  subst hu
  change execCycleAbort s = _
  unfold execCycleAbort
  rw [State.takeReq_some hw hr, State.onInst_acts hi]
end

theorem exec_totalRead_barred {st : Nat} (hr : (s.wel.reqs.find? fun r => r.code == 0x23) = some r) (hu : u = s.reqTaken r)
    (hi : u.instRefuses r.instr 0 = some st) : exec .totalRead s = .next (u.respond r st []) := by
  subst hu
  change execTotalRead s = _
  unfold execTotalRead
  rw [State.takeReq_some hw hr, State.onInst_refused hi]
end

section
variable {s : State} {i : Nat} {m : WlIn}

theorem exec_weighingStable_records {r : WhReq} {t : Nat} (hw : s.whUp = true) (hg : (s.inst i).weigh = some (r, t))
    (hst : s.isStable i m = true) :
    let u := s.modInst i fun x => { x with weigh := none }
    exec (.weighingStable i m) s = .next (if u.instErr i then u.respond r 0x14 []
      else if u.outOfRange i (u.weight16 i m) then u.respond r 0x11 [] else u.weighRecord i r m) := by
  change execWeighingStable i m s = _
  unfold execWeighingStable
  rw [hg]
  dsimp only
  rw [hw, hst, if_neg (by decide)]

theorem exec_weighingStable_none (h : s.whUp = false ∨ (s.inst i).weigh = none ∨ s.isStable i m = false) :
    exec (.weighingStable i m) s = .next s := by
  change execWeighingStable i m s = _
  unfold execWeighingStable
  cases hg : (s.inst i).weigh with
  | none => rfl
  | some x =>
    refine congrArg _ (if_pos ?_)
    rcases h with h | h | h
    · rw [h]; rfl
    · rw [hg] at h; cases h
    · rw [h]; exact Bool.or_true _

/-! ### Timeouts and zero-tracking -/

theorem exec_stabilityTimeout_weigh {r : WhReq} {t : Nat} (hw : s.whUp = true) (hg : (s.inst i).weigh = some (r, t))
    (ht : t + s.param i 0x17 ≤ s.wel.ms) :
    exec (.stabilityTimeout i) s = .next ((s.modInst i fun x => { x with weigh := none }).respond r 0x10 []) := by
  change execStabilityTimeout i s = _
  unfold execStabilityTimeout
  dsimp only
  rw [hw, hg, if_neg (by decide)]
  exact congrArg _ (if_pos ht)

theorem exec_stabilityTimeout_cycle (hw : s.whUp = true) (hg : (s.inst i).weigh = none)
    (hc : (s.inst i).cyc = .settleG ∨ (s.inst i).cyc = .settleE)
    (ht : (s.inst i).since + s.param i 0x16 + s.param i 0x17 ≤ s.wel.ms) : exec (.stabilityTimeout i) s = .next (s.haltCycle i) := by
  change execStabilityTimeout i s = _
  unfold execStabilityTimeout
  dsimp only
  rw [hw, hg, if_neg (by decide)]
  refine congrArg _ (if_pos ?_)
  rcases hc with hc | hc <;> simp [hc, ht]

theorem exec_stabilityTimeout_none (h : s.whUp = false ∨ s.wel.ms < s.param i 0x17 ∨ (s.inst i).weigh = none ∧
    ((s.inst i).cyc = .empty ∨ (s.inst i).cyc = .emptying ∨ (s.inst i).cyc = .halted)) :
    exec (.stabilityTimeout i) s = .next s := by
  change execStabilityTimeout i s = _
  unfold execStabilityTimeout
  dsimp only
  rcases h with h | h | ⟨hg, hc⟩
  · rw [h]; rfl
  · cases hg : (s.inst i).weigh with
    | none =>
      have hlate : ¬ (s.inst i).since + s.param i 0x16 + s.param i 0x17 ≤ s.wel.ms := by omega
      simp [hlate]
    | some x =>
      have hlate : ¬ x.2 + s.param i 0x17 ≤ s.wel.ms := by omega
      simp [hlate]
  · rw [hg]
    rcases hc with hc | hc | hc <;> simp [hc]

theorem exec_zeroTracking_moves (hw : s.whUp = true) (hi : s.inUse i = true) (he : s.instErr i = false) (hst : s.isStable i m = true)
    (ht : (s.inst i).tare = none) (hz : absI (s.weight16 i m) ≤ 8 * s.param i 0x04) : exec (.zeroTracking i m) s =
      .next (s.modInst i fun x => { x with z16 := x.z16 + clampI (-(s.param i 0x14 : Int)) (s.param i 0x14) (s.weight16 i m) }) := by
  change execZeroTracking i m s = _
  unfold execZeroTracking
  dsimp only
  rw [hw, hi, he, hst, ht, if_neg (by simpa using hz)]

theorem exec_zeroTracking_none (h : s.whUp = false ∨ s.inUse i = false ∨ s.instErr i = true ∨ s.isStable i m = false ∨
    (s.inst i).tare.isSome = true ∨ 8 * s.param i 0x04 < absI (s.weight16 i m)) : exec (.zeroTracking i m) s = .next s := by
  change execZeroTracking i m s = _
  unfold execZeroTracking
  refine congrArg _ (if_pos ?_)
  rcases h with h | h | h | h | h | h <;> simp [h]

/-! ### The cycle settles -/

theorem exec_settleGross_none (h : s.settled i m .settleG = false) : exec (.settleGross i m) s = .next s := by
  change execSettleGross i m s = _
  unfold execSettleGross
  rw [h]
  rfl

theorem exec_settleEmpty_none (h : s.settled i m .settleE = false) : exec (.settleEmpty i m) s = .next s := by
  change execSettleEmpty i m s = _
  unfold execSettleEmpty
  rw [h]
  rfl

theorem exec_settleGross_halts (h : s.settled i m .settleG = true)
    (ho : s.outOfRange i (s.weight16 i m) = true ∨ s.instErr i = true) : exec (.settleGross i m) s = .next (s.haltCycle i) := by
  change execSettleGross i m s = _
  unfold execSettleGross
  rw [h, if_neg (by decide)]
  exact congrArg _ (if_pos (by rcases ho with ho | ho <;> simp [ho]))

theorem exec_settleEmpty_halts (h : s.settled i m .settleE = true)
    (ho : s.outOfRange i (s.weight16 i m) = true ∨ s.instErr i = true) : exec (.settleEmpty i m) s = .next (s.haltCycle i) := by
  change execSettleEmpty i m s = _
  unfold execSettleEmpty
  rw [h, if_neg (by decide)]
  exact congrArg _ (if_pos (by rcases ho with ho | ho <;> simp [ho]))

section
variable (ho : s.outOfRange i (s.weight16 i m) = false) (he : s.instErr i = false)
include ho he

theorem exec_settleGross_records (h : s.settled i m .settleG = true) :
    let g := whole16 (s.weight16 i m)
    let u := s.modInst i fun x => { x with cyc := .emptying, since := s.wel.ms, gross := some g }
    exec (.settleGross i m) s = .next (u.whRecord 2 i (u.weightFlags i m (s.weight16 i m)) (s.inst i).tag (u.param i 0x03) g 0 g
      (s.inst i).total (s.inst i).cycle) := by
  change execSettleGross i m s = _
  unfold execSettleGross
  rw [h, if_neg (by decide)]
  exact congrArg _ (if_neg (by rw [ho, he]; decide))

theorem exec_settleEmpty_adds {g : Int} (h : s.settled i m .settleE = true) (hg : (s.inst i).gross = some g) :
    let e := whole16 (s.weight16 i m)
    let total := unsigned 64 (((s.inst i).total : Int) + (g - e))
    let u := s.modInst i fun x => { x with cyc := .empty, since := s.wel.ms, gross := none, total := total }
    exec (.settleEmpty i m) s = .next (u.whRecord 3 i (u.weightFlags i m (s.weight16 i m)) (s.inst i).tag (u.param i 0x03) g e (g - e)
      total (s.inst i).cycle) := by
  change execSettleEmpty i m s = _
  unfold execSettleEmpty
  rw [h, if_neg (by decide)]
  dsimp only
  rw [if_neg (by rw [ho, he]; decide), hg]

theorem exec_settleEmpty_grossless (h : s.settled i m .settleE = true) (hg : (s.inst i).gross = none) :
    exec (.settleEmpty i m) s = .next ((s.modInst i fun x => { x with cyc := .empty, since := s.wel.ms }).whError i) := by
  change execSettleEmpty i m s = _
  unfold execSettleEmpty
  rw [h, if_neg (by decide)]
  dsimp only
  rw [if_neg (by rw [ho, he]; decide), hg]
end
end

/-- Settles O47: a request is taken once and acts by the state of its instrument; the cycle and the timeouts act by theirs. -/
theorem weighingInstruments : Obligations.WeighingInstruments := by
  unfold Obligations.WeighingInstruments
  refine ⟨fun m s h => exec_requests_idle m h, fun m r u s hw hr hu hi hb hst hz => exec_zero_sets hw hr hu hi hb hst hz,
    ?zeroUnstable, fun m st r u s hw hr hu hi => exec_zero_barred hw hr hu hi,
    fun m g r u s hw hr hu hi hst hg h0 hmax => exec_tare_takes hw hr hu hi hst hg h0 hmax,
    fun r u s hw hr hu hi ht => exec_tarePreset_takes hw hr hu hi ht, fun r u s hw hr hu hi => exec_tareClear_clears hw hr hu hi,
    fun m r u s hw hr hu hi hb hn ho => exec_weigh_waits hw hr hu hi hb hn ho,
    fun m r u s hw hr hu hi hb hn ho => exec_weigh_out hw hr hu hi hb hn ho,
    fun i m r t s hw hg hst => exec_weighingStable_records hw hg hst,
    fun i r t s hw hg ht => exec_stabilityTimeout_weigh hw hg ht,
    fun i s hw hg hc ht => exec_stabilityTimeout_cycle hw hg (.inl hc) ht,
    fun i m s hw hi he hst ht hz => exec_zeroTracking_moves hw hi he hst ht hz,
    fun r u s hw hr hu hi hb hc => exec_cycleFilled_starts hw hr hu hi hb hc,
    fun r u s hw hr hu hi hb hc => exec_cycleFilled_state hw hr hu hi hb hc,
    fun r u s hw hr hu hi hc => exec_cycleDischarged_settles hw hr hu hi (.inl hc),
    fun r u s hw hr hu hi => exec_cycleAbort_halts hw hr hu hi, fun i m s h ho he => exec_settleGross_records ho he h,
    fun i m g s h ho he hg => exec_settleEmpty_adds ho he h hg, fun i m s h ho he hg => exec_settleEmpty_grossless ho he h hg,
    fun m st r u s hw hr hu hi => exec_tare_barred hw hr hu hi, fun st r u s hw hr hu hi => exec_tarePreset_barred hw hr hu hi,
    fun st r u s hw hr hu hi => exec_tareClear_barred hw hr hu hi, fun m st r u s hw hr hu hi => exec_weigh_barred hw hr hu hi,
    fun st r u s hw hr hu hi => exec_cycleFilled_barred hw hr hu hi,
    fun st r u s hw hr hu hi => exec_cycleDischarged_barred hw hr hu hi,
    fun st r u s hw hr hu hi => exec_cycleAbort_barred hw hr hu hi, fun st r u s hw hr hu hi => exec_totalRead_barred hw hr hu hi,
    ?zeroRefused, fun m g r u s hw hr hu hi hg hb => exec_tare_refused hw hr hu hi hg hb,
    fun r u s hw hr hu hi ht => exec_tarePreset_large hw hr hu hi ht, fun m r u s hw hr hu hi hb => exec_weigh_busy hw hr hu hi hb,
    fun i m s h => exec_weighingStable_none h, fun i s h => exec_stabilityTimeout_none h,
    fun i s hw hg hc ht => exec_stabilityTimeout_cycle hw hg (.inr hc) ht, ?trackingNone,
    fun r u s hw hr hu hi hb => exec_cycleFilled_backlog hw hr hu hi hb,
    fun r u s hw hr hu hi hc => exec_cycleDischarged_settles hw hr hu hi (.inr hc),
    fun r u s hw hr hu hi he hh => exec_cycleDischarged_state hw hr hu hi he hh, fun i m s h ho => exec_settleGross_halts h ho,
    fun i m s h ho => exec_settleEmpty_halts h ho, fun i m s h => exec_settleGross_none h, fun i m s h => exec_settleEmpty_none h⟩
  case zeroUnstable =>
    intro m r u s hw hr hu hi hb hst
    rw [exec_zero_refused hw hr hu hi (.inr (.inl hst)), hb, hst]
    rfl
  case zeroRefused =>
    intro m r u s hw hr hu hi hb
    exact exec_zero_refused hw hr hu hi (hb.imp_right (Or.imp_right fun hz => by exact_mod_cast hz))
  case trackingNone =>
    intro i m s h
    exact exec_zeroTracking_none (h.imp_right (Or.imp_right (Or.imp_right (Or.imp_right (Or.imp_right fun hz => by exact_mod_cast hz)))))

end Sys2Proof.Machine

/-! PROOFS. The Wellhouse die: its start, channels, seal, pulses, display, reads and sealed writes (R405 to R428). -/

namespace Sys2Proof.Machine

open Sys2Proof

/-! ### What a record, an error and a response of the Wellhouse leave alone -/

/-- What a record, an error of the die, a halted cycle and a response leave of the Wellhouse: all but the record store, the
instruments, the error of the die and the responses. -/
def Well.kept (w : Well) : Well :=
  { w with die := 0, err := 0, instr := [], store := [], nextSeq := 0, backlog := false, resps := [] }

/-- The state apart from those and the count of free values. -/
def State.wellView (s : State) : State := { s with free := 0, wel := s.wel.kept }

theorem State.wellView_setWel {s : State} {w : Well} (h : w.kept = s.wel.kept) : (s.setWel w).wellView = s.wellView :=
  congrArg (fun k => ({ s with free := 0, wel := k } : State)) h

theorem State.wellView_drawn (s : State) : s.drawn.wellView = s.wellView := rfl
theorem State.wellView_modInst (s : State) (i : Nat) (f : Instrument → Instrument) : (s.modInst i f).wellView = s.wellView := rfl
theorem State.wellView_respond (s : State) (r : WhReq) (st : Nat) (b : List Byte) : (s.respond r st b).wellView = s.wellView := rfl
theorem State.wellView_dieError (s : State) : s.dieError.wellView = s.wellView := rfl
theorem State.wellView_noteBacklog (s : State) : s.noteBacklog.wellView = s.wellView := State.wellView_setWel rfl

theorem State.wellView_whRecord (s : State) (kind i flags tag d : Nat) (gross tare net : Int) (total cycle : Nat) :
    (s.whRecord kind i flags tag d gross tare net total cycle).wellView = s.wellView := by
  unfold State.whRecord
  split
  · exact s.wellView_dieError
  · refine ((State.wellView_noteBacklog _).trans (State.wellView_setWel (s := s.drawn) ?_)).trans s.wellView_drawn
    simp only [Well.kept, State.drawn]

theorem State.wellView_whError (s : State) (i : Nat) : (s.whError i).wellView = s.wellView :=
  State.wellView_whRecord ..

theorem State.wellView_haltCycle (s : State) (i : Nat) : (s.haltCycle i).wellView = s.wellView :=
  State.wellView_whError _ i

theorem State.wellView_checkParams (s : State) : s.checkParams.wellView = s.wellView := by
  refine foldl_keeps State.wellView _ _ s fun s i => ?_
  dsimp only
  split
  · exact State.wellView_haltCycle _ i
  · rfl

section
variable {s t : State} (h : t.wellView = s.wellView)
include h

theorem State.wel_up_of_view : t.wel.up = s.wel.up := (congrArg (fun x : State => x.wel.up) h :)
theorem State.wel_bootCount_of_view : t.wel.bootCount = s.wel.bootCount := (congrArg (fun x : State => x.wel.bootCount) h :)
theorem State.wel_reqs_of_view : t.wel.reqs = s.wel.reqs := (congrArg (fun x : State => x.wel.reqs) h :)
theorem State.wel_ms_of_view : t.wel.ms = s.wel.ms := (congrArg (fun x : State => x.wel.ms) h :)
theorem State.wel_badCh_of_view : t.wel.badCh = s.wel.badCh := (congrArg (fun x : State => x.wel.badCh) h :)
theorem State.wel_sealed_of_view : t.wel.sealed = s.wel.sealed := (congrArg (fun x : State => x.wel.sealed) h :)
theorem State.wel_keys_of_view : t.wel.keys = s.wel.keys := (congrArg (fun x : State => x.wel.keys) h :)
theorem State.wel_eventCtr_of_view : t.wel.eventCtr = s.wel.eventCtr := (congrArg (fun x : State => x.wel.eventCtr) h :)
theorem State.dev_of_wellView : t.dev = s.dev := (congrArg (fun x : State => x.dev) h :)
theorem State.sn_of_wellView : t.sn = s.sn := (congrArg (fun x : State => x.sn) h :)
end

/-! ### Start and reset (R405, R406) -/

/-- The die after power-up, before its record and its checks. -/
def State.wellStarted (s : State) : State :=
  s.setWel { s.wel with
    up := true, die := 1, instr := s.wel.instr.map fun x => ({ total := x.total, cycle := x.cycle } : Instrument), badCh := []
    ms := 0, showUntil := 0, reqs := [], resps := [], bootCount := (s.wel.bootCount + 1) % 0x10000, credit := 0
    sendSeq := s.wel.lowest, helloNow := true }

/-- The POWER_UP record. -/
def State.powerUpRecord (s : State) : State := s.whRecord 9 0xFF (s.whFlags false false false false false) 0 0 0 0 0 0 0

theorem exec_wellhouseStart_runs (a b : Bool) {s : State} (hp : s.part = .cx7740) : exec (.wellhouseStart a b) s =
    .next (if a && b then s.wellStarted.powerUpRecord.checkParams else s.wellStarted.powerUpRecord.dieError) := by
  change execWellhouseStart a b s = _
  unfold execWellhouseStart
  rw [hp, if_neg (by decide)]
  rfl

theorem exec_wellhouseStart_absent (a b : Bool) {s : State} (hp : s.part ≠ .cx7740) : exec (.wellhouseStart a b) s = .next s := by
  change execWellhouseStart a b s = _
  unfold execWellhouseStart
  exact congrArg _ (if_pos (bne_iff_ne.mpr hp))

theorem exec_wellhouseStart_state (a b : Bool) {s : State} (hp : s.part = .cx7740) : ∃ t, exec (.wellhouseStart a b) s = .next t ∧
    t.wel.up = true ∧ t.wel.bootCount = (s.wel.bootCount + 1) % 65536 ∧ t.wel.reqs = [] ∧ t.wel.ms = 0 ∧
    ((a && b) = false → t.wel.die = 2) ∧ t.dev = s.dev ∧ t.sn = s.sn := by
  refine ⟨_, exec_wellhouseStart_runs a b hp, ?_⟩
  have hv : (if a && b then s.wellStarted.powerUpRecord.checkParams else s.wellStarted.powerUpRecord.dieError).wellView =
      s.wellStarted.wellView := by
    have hr : s.wellStarted.powerUpRecord.wellView = s.wellStarted.wellView := State.wellView_whRecord ..
    split
    · exact (State.wellView_checkParams _).trans hr
    · exact (State.wellView_dieError _).trans hr
  refine ⟨State.wel_up_of_view hv, State.wel_bootCount_of_view hv, State.wel_reqs_of_view hv, State.wel_ms_of_view hv, fun hab => ?_,
    (State.dev_of_wellView hv :), (State.sn_of_wellView hv :)⟩
  rw [hab]
  rfl

/-! ### Channels, pulses and the seal (R409, R416, R424) -/

/-- The WEIGH of an instrument ends with WH_ERROR, if one stands. -/
def State.weighFailed (s : State) (i : Nat) : State :=
  match (s.inst i).weigh with
  | some (r, _) => (s.modInst i fun x => { x with weigh := none }).respond r 0x14 []
  | none => s

/-- What a channel's fault does to an instrument that uses it. -/
def State.channelFault (s : State) (i : Nat) : State :=
  if (s.weighFailed i).param i 0x00 = 2 then (s.weighFailed i).haltCycle i else (s.weighFailed i).whError i

theorem State.wellView_channelFault (s : State) (i : Nat) : (s.channelFault i).wellView = s.wellView := by
  have hf : (s.weighFailed i).wellView = s.wellView := by
    unfold State.weighFailed
    split <;> rfl
  unfold State.channelFault
  split
  · exact (State.wellView_haltCycle _ i).trans hf
  · exact (State.wellView_whError _ i).trans hf

section
variable {s : State} (hw : s.whUp = true)
include hw

theorem exec_senseFault_enters {c : Nat} (hc : c < 8) (hb : s.wel.badCh.contains c = false) : ∃ t, exec (.senseFault c) s = .next t ∧
    t.wel.badCh = s.wel.badCh ++ [c] ∧ t.wel.sealed = s.wel.sealed := by
  have hv := foldl_keeps State.wellView State.channelFault ((s.usersOf c).filter fun i => !s.instErr i)
    (s.setWel { s.wel with badCh := s.wel.badCh ++ [c] }) State.wellView_channelFault
  refine ⟨_, ?_, (State.wel_badCh_of_view hv :), (State.wel_sealed_of_view hv :)⟩
  change execSenseFault c s = _
  unfold execSenseFault
  rw [hw, hb, if_neg (by simpa using hc)]
  rfl

theorem exec_senseRecovered_leaves {c : Nat} (hb : s.wel.badCh.contains c = true) : ∃ t, exec (.senseRecovered c) s = .next t ∧
    t.wel.badCh = s.wel.badCh.filter (fun x => x != c) := by
  change ∃ t, execSenseRecovered c s = _ ∧ _
  unfold execSenseRecovered
  rw [hw, hb, if_neg (by decide)]
  exact ⟨_, rfl, State.wel_badCh_of_view (foldl_keeps State.wellView State.whError _ _ State.wellView_whError)⟩

theorem exec_pulseEdge_counts {n : Nat} (hn : n < 4) (hp : s.param 0xF n ≠ 0) :
    exec (.pulseEdge n) s = .next (s.setWel { s.wel with pulses := lmod s.wel.pulses n fun c => (c + 1) % 2 ^ 64 }) := by
  change execPulseEdge n s = _
  unfold execPulseEdge
  exact congrArg _ (if_pos (by simp [hw, hn, hp]))

theorem exec_sealChange_taken {k : Nat} (hk : k ≤ 2) (hd : k ≠ s.wel.sealed) : exec (.sealChange k) s =
    .next (if s.wel.sealed = 1 ∧ k = 0 then (s.setWel { s.wel with sealed := k }).checkParams else s.setWel { s.wel with sealed := k }) := by
  change execSealChange k s = _
  unfold execSealChange
  rw [hw, if_neg (by simp [hk, hd])]
  simp only [Bool.and_eq_true, decide_eq_true_eq]

/-! ### The display (R427) -/

theorem exec_displayRedraw_lit (ms : List WlIn) (ht : s.wel.ms < 1000) :
    exec (.displayRedraw ms) s = .next (s.emit (.display .lit)) := by
  change execDisplayRedraw ms s = _
  unfold execDisplayRedraw
  rw [hw, if_neg (by decide)]
  exact congrArg _ (if_pos ht)

theorem exec_displayRedraw_ident (ms : List WlIn) (ht : 1000 ≤ s.wel.ms) (hs : s.wel.ms < 3000 ∨ s.wel.ms < s.wel.showUntil) :
    exec (.displayRedraw ms) s = .next (s.emit (.display (.ident whVersion whChecksum))) := by
  change execDisplayRedraw ms s = _
  unfold execDisplayRedraw
  rw [hw, if_neg (by decide), if_neg (Nat.not_lt.mpr ht)]
  exact congrArg _ (if_pos hs)

theorem exec_displayRedraw_bands (ms : List WlIn) (ht : 3000 ≤ s.wel.ms) (hs : s.wel.showUntil ≤ s.wel.ms) :
    ∃ bs, exec (.displayRedraw ms) s =
      .next (s.emit (.display (.bands bs s.wel.sealed (if s.wel.die = 2 then some s.wel.err else none)))) ∧
      bs.map (·.instr) = (List.range 4).filter s.inUse := by
  change ∃ bs, execDisplayRedraw ms s = _ ∧ _
  unfold execDisplayRedraw
  rw [hw, if_neg (by decide), if_neg (by omega), if_neg (by omega)]
  refine ⟨_, rfl, ?_⟩
  rw [List.map_map]
  exact List.map_id _
end

section
variable {s : State}

theorem exec_senseFault_none {c : Nat} (h : s.whUp = false ∨ s.wel.badCh.contains c = true ∨ 8 ≤ c) :
    exec (.senseFault c) s = .next s := by
  change execSenseFault c s = _
  unfold execSenseFault
  refine congrArg _ (if_pos ?_)
  rcases h with h | h | h
  · rw [h]; rfl
  · rw [h, Bool.or_true, Bool.true_or]
  · rw [decide_eq_true h, Bool.or_true]

theorem exec_senseRecovered_none {c : Nat} (h : s.whUp = false ∨ s.wel.badCh.contains c = false) :
    exec (.senseRecovered c) s = .next s := by
  change execSenseRecovered c s = _
  unfold execSenseRecovered
  refine congrArg _ (if_pos ?_)
  rcases h with h | h
  · rw [h]; rfl
  · rw [h]; exact Bool.or_true _

theorem exec_pulseEdge_none {n : Nat} (h : s.whUp = false ∨ 4 ≤ n ∨ s.param 0xF n = 0) : exec (.pulseEdge n) s = .next s := by
  change execPulseEdge n s = _
  unfold execPulseEdge
  refine congrArg _ (if_neg ?_)
  rcases h with h | h | h <;> simp [h]

theorem exec_sealChange_none {k : Nat} (h : s.whUp = false ∨ 2 < k ∨ k = s.wel.sealed) : exec (.sealChange k) s = .next s := by
  change execSealChange k s = _
  unfold execSealChange
  refine congrArg _ (if_pos ?_)
  rcases h with h | h | h <;> simp [h]

theorem exec_displayRedraw_none (ms : List WlIn) (hw : s.whUp = false) : exec (.displayRedraw ms) s = .next s := by
  change execDisplayRedraw ms s = _
  unfold execDisplayRedraw
  rw [hw]
  rfl
end

/-! ### Reads (R416, R422, R426, R428) -/

/-- The parameters of `v` in force in `u`, with the event counter raised and an audit entry for each, signed with `k`. -/
def State.paramsWritten (u v : State) (es : List (Nat × Nat)) (k : List Byte) : State :=
  v.setWel { v.wel with
    eventCtr := u.wel.eventCtr + 1
    audit := u.wel.audit ++ es.map fun e => u.auditEntry (u.wel.eventCtr + 1) e.1 (tgetD u.wel.params e.1 0) e.2 (some k) }

section
variable {s u : State} {r : WhReq} (hw : s.whUp = true)
include hw

theorem exec_totalRead_answers (hr : (s.wel.reqs.find? fun r => r.code == 0x23) = some r) (hu : u = s.reqTaken r)
    (hi : u.instRefuses r.instr 0 = none) :
    let w := u.whRecord 4 r.instr (u.whFlags false false false false false) r.tag (u.param r.instr 0x03) 0 0 0 (u.inst r.instr).total
      (u.inst r.instr).cycle
    exec .totalRead s = .next (if w.wel.die = 2 then w.respond r 0x14 [] else w.respond r 0 (leBytes 4 w.lastRecord.1)) := by
  subst hu
  change execTotalRead s = _
  unfold execTotalRead
  rw [State.takeReq_some hw hr, State.onInst_acts hi]

section
variable (hr : (s.wel.reqs.find? fun r => r.code == 0x24) = some r) (hu : u = s.reqTaken r)
include hr hu

theorem exec_pulseRead_answers (hd : u.wel.die ≠ 2) (hi : r.instr < 4) :
    let w := u.whRecord 5 r.instr (u.whFlags false false false false false) r.tag (u.param 0xF r.instr) 0 0 0
      (u.wel.pulses.getD r.instr 0) 0
    exec .pulseRead s = .next (if w.wel.die = 2 then w.respond r 0x14 [] else w.respond r 0 (leBytes 4 w.lastRecord.1)) := by
  subst hu
  change execPulseRead s = _
  unfold execPulseRead
  rw [State.takeReq_some hw hr, if_neg hd, if_neg (Nat.not_le.mpr hi)]

theorem exec_pulseRead_refused (h : u.wel.die = 2 ∨ 4 ≤ r.instr) :
    exec .pulseRead s = .next (u.respond r (if u.wel.die = 2 then 0x14 else 0x11) []) := by
  subst hu
  change execPulseRead s = _
  unfold execPulseRead
  rw [State.takeReq_some hw hr]
  by_cases hd : (s.reqTaken r).wel.die = 2
  · rw [if_pos hd, if_pos hd]
  · rw [if_neg hd, if_pos (h.resolve_left hd), if_neg hd]
end

section
variable (hr : (s.wel.reqs.find? fun r => r.code == 0x30) = some r) (hu : u = s.reqTaken r)
include hr hu

theorem exec_recordRead_missing (hx : (u.wel.store.find? fun x => x.1 == leAt r.args 0 4) = none) :
    exec .recordRead s = .next (u.respond r 0x17 []) := by
  subst hu
  change execRecordRead s = _
  unfold execRecordRead
  rw [State.takeReq_some hw hr, hx]

theorem exec_recordRead_found {x : Nat × List Byte} (hx : (u.wel.store.find? fun x => x.1 == leAt r.args 0 4) = some x) :
    exec .recordRead s = .next (u.respond r 0 x.2) := by
  subst hu
  change execRecordRead s = _
  unfold execRecordRead
  rw [State.takeReq_some hw hr, hx]
end

theorem exec_recordRead_first {q : List WhReq} {b : List Byte} (hq : s.wel.reqs = r :: q) (hc : r.code = 0x30)
    (hx : (s.wel.store.find? fun x => x.1 == leAt r.args 0 4) = some (leAt r.args 0 4, b)) :
    exec .recordRead s = .next ((s.setWel { s.wel with reqs := q }).respond r 0 b) := by
  have hr : (s.wel.reqs.find? fun r => r.code == 0x30) = some r := by
    rw [hq]; exact List.find?_cons_of_pos (beq_iff_eq.mpr hc)
  have hu : s.setWel { s.wel with reqs := q } = s.reqTaken r := by
    unfold State.reqTaken; rw [hq, List.erase_cons_head]
  exact exec_recordRead_found hw hr hu hx

theorem exec_auditRead_answers (hr : (s.wel.reqs.find? fun r => r.code == 0x31) = some r) (hu : u = s.reqTaken r) :
    exec .auditRead s = .next (u.respond r 0 ((u.wel.audit.drop (leAt r.args 0 4)).take (leAt r.args 4 4)).flatten) := by
  subst hu
  exact congrArg _ (State.takeReq_some hw hr)

theorem exec_paramRead_answers (hr : (s.wel.reqs.find? fun r => r.code == 0x32) = some r) (hu : u = s.reqTaken r) :
    exec .paramRead s = .next (u.respond r 0 u.paramBytes) := by
  subst hu
  exact congrArg _ (State.takeReq_some hw hr)

theorem exec_rawRead_answers (m : WlIn) (hr : (s.wel.reqs.find? fun r => r.code == 0x33) = some r) (hu : u = s.reqTaken r) :
    ∃ b, exec (.rawRead m) s = .next (u.respond r 0 b) ∧
      b.length = 8 * ((List.range 8).filter fun c => bit (u.param r.instr 0x01) c).length := by
  subst hu
  refine ⟨_, congrArg _ (State.takeReq_some hw hr), ?_⟩
  simp only [List.length_flatMap, List.length_append, leBytes_length, List.map_const', List.sum_replicate, smul_eq_mul]
  omega

section
variable (hr : (s.wel.reqs.find? fun r => r.code == 0x34) = some r) (hu : u = s.reqTaken r)
include hr hu

theorem exec_statement_signs (hlo : 8 ≤ r.body.length) (hhi : r.body.length ≤ 32) :
    exec .statement s = .next (u.drawn.respond r 0 (u.whStatement r.body)) := by
  subst hu
  change execStatement s = _
  unfold execStatement
  rw [State.takeReq_some hw hr, if_neg (by omega)]

theorem exec_statement_refused (h : r.body.length < 8 ∨ 32 < r.body.length) : exec .statement s = .next (u.respond r 0x11 []) := by
  subst hu
  change execStatement s = _
  unfold execStatement
  rw [State.takeReq_some hw hr, if_pos h]
end

theorem exec_showId_answers (hr : (s.wel.reqs.find? fun r => r.code == 0x35) = some r) (hu : u = s.reqTaken r) :
    exec .showId s = .next ((u.setWel { u.wel with showUntil := u.wel.ms + 5000 }).respond r 0 []) := by
  subst hu
  exact congrArg _ (State.takeReq_some hw hr)

/-! ### Sealed writes (R425, R426) -/

section
variable (hr : (s.wel.reqs.find? fun r => r.code == 0x40) = some r) (hu : u = s.reqTaken r)
include hr hu

theorem exec_paramWrite_error (hd : u.wel.die = 2) : exec .paramWrite s = .next (u.respond r 0x14 []) := by
  subst hu
  change execParamWrite s = _
  unfold execParamWrite
  rw [State.takeReq_some hw hr]
  exact congrArg _ (if_pos hd)

variable (hd : u.wel.die ≠ 2)
include hd

theorem exec_paramWrite_sealed (hs : u.wel.sealed ≠ 1) : exec .paramWrite s = .next (u.respond r stSEALED []) := by
  subst hu
  change execParamWrite s = _
  unfold execParamWrite
  rw [State.takeReq_some hw hr]
  dsimp only
  rw [if_neg hd, if_pos (bne_iff_ne.mpr hs)]

variable (hs : u.wel.sealed = 1)
include hs

theorem exec_paramWrite_length (hl : r.body.length ≠ 72 + 8 * leAt r.body 4 1) : exec .paramWrite s = .next (u.respond r 0x13 []) := by
  subst hu
  change execParamWrite s = _
  unfold execParamWrite
  rw [State.takeReq_some hw hr]
  dsimp only
  rw [if_neg hd, if_neg (by rw [hs]; decide), if_pos (bne_iff_ne.mpr hl)]

variable {n : Nat} {es : List (Nat × Nat)} {v : State} (hn : n = leAt r.body 4 1) (hl : r.body.length = 72 + 8 * n)
  (hes : es = (List.range n).map fun k => (leAt r.body (8 + 8 * k) 2, leAt r.body (12 + 8 * k) 4))
  (hv : v = u.setWel { u.wel with params := es.foldl (fun t e => tput t e.1 e.2) u.wel.params })
include hn hl hes hv

theorem exec_paramWrite_checked : exec .paramWrite s = .next (match u.signerOf (r.body.take (8 + 8 * n)) (r.body.drop (8 + 8 * n)) with
    | none => u.respond r 0x13 []
    | some k =>
      if leAt r.body 0 4 ≠ u.wel.eventCtr then u.respond r 0x13 []
      else if n < 1 ∨ 16 < n ∨ es.all (fun e => paramOk e.1 e.2) = false ∨ v.channelsApart = false then u.respond r 0x11 []
      else if es.any (fun e => decide (e.1 < 0x400) && !u.atRest (e.1 / 0x100)) = true then u.respond r 0x16 []
      else if 16384 < u.wel.audit.length + n then u.respond r 0x15 []
      else ((u.paramsWritten v es k).paramRecord r).respond r 0 (leBytes 4 (u.wel.eventCtr + 1))) := by
  subst hu hn hes hv
  change execParamWrite s = _
  unfold execParamWrite
  rw [State.takeReq_some hw hr]
  dsimp only
  rw [if_neg hd, if_neg (by rw [hs]; decide), if_neg (by simpa using hl)]
  simp only [bne_iff_ne, Bool.not_eq_eq_eq_not, Bool.not_true]
  rfl

theorem exec_paramWrite_writes (hc : leAt r.body 0 4 = u.wel.eventCtr) (h1 : 1 ≤ n) (h16 : n ≤ 16)
    (hok : es.all (fun e => paramOk e.1 e.2) = true) (hap : v.channelsApart = true)
    (hrest : es.any (fun e => decide (e.1 < 0x400) && !u.atRest (e.1 / 0x100)) = false) (hroom : u.wel.audit.length + n ≤ 16384) :
    exec .paramWrite s = .next (match u.signerOf (r.body.take (8 + 8 * n)) (r.body.drop (8 + 8 * n)) with
      | none => u.respond r 0x13 []
      | some k => ((u.paramsWritten v es k).paramRecord r).respond r 0 (leBytes 4 (u.wel.eventCtr + 1))) := by
  rw [exec_paramWrite_checked hw hr hu hd hs hn hl hes hv]
  cases u.signerOf (r.body.take (8 + 8 * n)) (r.body.drop (8 + 8 * n)) with
  | none => rfl
  | some k =>
    dsimp only
    rw [if_neg (not_not_intro hc), if_neg (by simp [hok, hap]; omega), if_neg (by simp [hrest]), if_neg (Nat.not_lt.mpr hroom)]

theorem exec_paramWrite_refused {st : Nat} (hst : st = (if leAt r.body 0 4 ≠ u.wel.eventCtr then 0x13
      else if n < 1 ∨ 16 < n ∨ es.all (fun e => paramOk e.1 e.2) = false ∨ v.channelsApart = false then 0x11
      else if es.any (fun e => decide (e.1 < 0x400) && !u.atRest (e.1 / 0x100)) = true then 0x16
      else if 16384 < u.wel.audit.length + n then 0x15 else 0)) (h0 : st ≠ 0) :
    exec .paramWrite s = .next (u.respond r
      (if (u.signerOf (r.body.take (8 + 8 * n)) (r.body.drop (8 + 8 * n))).isNone then 0x13 else st) []) := by
  rw [exec_paramWrite_checked hw hr hu hd hs hn hl hes hv]
  cases u.signerOf (r.body.take (8 + 8 * n)) (r.body.drop (8 + 8 * n)) with
  | none => rfl
  | some k =>
    subst hst
    simp only [Option.isNone_some, Bool.false_eq_true, if_false]
    split_ifs at h0 ⊢
    · rfl
    · rfl
    · rfl
    · rfl
    · exact absurd rfl h0
end

/-! ### KEY_ENROL and AUDIT_ARCHIVE -/

section
variable (hr : (s.wel.reqs.find? fun r => r.code == 0x41) = some r) (hu : u = s.reqTaken r)
include hr hu

theorem exec_keyEnrol_error (hd : u.wel.die = 2) : exec .keyEnrol s = .next (u.respond r 0x14 []) := by
  subst hu
  change execKeyEnrol s = _
  unfold execKeyEnrol
  rw [State.takeReq_some hw hr]
  exact congrArg _ (if_pos hd)

variable (hd : u.wel.die ≠ 2)
include hd

theorem exec_keyEnrol_sealed (hs : u.wel.sealed ≠ 1) : exec .keyEnrol s = .next (u.respond r stSEALED []) := by
  subst hu
  change execKeyEnrol s = _
  unfold execKeyEnrol
  rw [State.takeReq_some hw hr]
  dsimp only
  rw [if_neg hd, if_pos (bne_iff_ne.mpr hs)]

variable (hs : u.wel.sealed = 1)
include hs

/-- The key enrolled, with its audit entry. -/
def State.keyEnrolled (u : State) (key : List Byte) (signer : Option (List Byte)) : State :=
  u.setWel { u.wel with
    keys := u.wel.keys ++ [key], eventCtr := u.wel.eventCtr + 1
    audit := u.wel.audit ++ [u.auditEntry (u.wel.eventCtr + 1) 0xFFF0 0 0 signer] }

theorem exec_keyEnrol_checked : let key := r.body.take 64; let signer := u.signerOf key (r.body.drop 64)
    exec .keyEnrol s = .next (if r.body.length < 64 ∨ u.wel.keys ≠ [] ∧ signer = none then u.respond r 0x13 []
      else if 8 ≤ u.wel.keys.length then u.respond r 0x11 [] else if 16384 ≤ u.wel.audit.length then u.respond r 0x15 []
      else ((u.keyEnrolled key signer).paramRecord r).respond r 0 (leBytes 4 (u.wel.keys.length + 1))) := by
  subst hu
  intro key signer
  change execKeyEnrol s = _
  unfold execKeyEnrol
  rw [State.takeReq_some hw hr]
  dsimp only
  rw [if_neg hd, if_neg (by rw [hs]; decide)]
  have hlen (x : List (List Byte)) : (x ++ [key]).length = x.length + 1 := List.length_append
  simp only [Bool.not_eq_eq_eq_not, Bool.not_true, List.isEmpty_eq_false_iff, Option.isNone_iff_eq_none, State.setWel_wel, hlen,
    key, signer]
  rfl

theorem exec_keyEnrol_first (hl : 64 ≤ r.body.length) (hk : u.wel.keys = []) (ha : u.wel.audit.length < 16384) :
    ∃ t, exec .keyEnrol s = .next t ∧ t.wel.keys = [r.body.take 64] ∧ t.wel.eventCtr = u.wel.eventCtr + 1 := by
  refine ⟨_, exec_keyEnrol_checked hw hr hu hd hs, ?_⟩
  rw [if_neg (by rw [hk]; simpa using hl), if_neg (by rw [hk]; decide), if_neg (Nat.not_le.mpr ha)]
  have hv : (((u.keyEnrolled (r.body.take 64) (u.signerOf (r.body.take 64) (r.body.drop 64))).paramRecord r).respond r 0
      (leBytes 4 (u.wel.keys.length + 1))).wellView =
      (u.keyEnrolled (r.body.take 64) (u.signerOf (r.body.take 64) (r.body.drop 64))).wellView := State.wellView_whRecord ..
  refine ⟨(State.wel_keys_of_view hv).trans ?_, (State.wel_eventCtr_of_view hv :)⟩
  exact congrArg (· ++ [r.body.take 64]) hk
end

section
variable (hr : (s.wel.reqs.find? fun r => r.code == 0x42) = some r) (hu : u = s.reqTaken r)
include hr hu

theorem exec_auditArchive_error (hd : u.wel.die = 2) : exec .auditArchive s = .next (u.respond r 0x14 []) := by
  subst hu
  change execAuditArchive s = _
  unfold execAuditArchive
  rw [State.takeReq_some hw hr]
  exact congrArg _ (if_pos hd)

variable (hd : u.wel.die ≠ 2)
include hd

theorem exec_auditArchive_sealed (hs : u.wel.sealed ≠ 1) : exec .auditArchive s = .next (u.respond r stSEALED []) := by
  subst hu
  change execAuditArchive s = _
  unfold execAuditArchive
  rw [State.takeReq_some hw hr]
  dsimp only
  rw [if_neg hd, if_pos (bne_iff_ne.mpr hs)]

theorem exec_auditArchive_checked (hs : u.wel.sealed = 1) :
    exec .auditArchive s = .next (if (r.body.take 32 != Config.sha256 u.wel.audit.flatten) = true then u.respond r 0x13 []
      else match u.signerOf (r.body.take 32) (r.body.drop 32) with
        | none => u.respond r 0x13 []
        | some k => (u.setWel { u.wel with audit := [u.auditEntry u.wel.eventCtr 0xFFFF 0 0 (some k)] }).respond r 0
            (leBytes 4 u.wel.audit.length)) := by
  subst hu
  change execAuditArchive s = _
  unfold execAuditArchive
  rw [State.takeReq_some hw hr]
  dsimp only
  rw [if_neg hd]
  exact congrArg _ (if_neg (by rw [hs]; decide))
end
end

/-- Settles O48: each event and request of the Wellhouse by its own rule; what a record or an error leaves alone is one view of
the state. -/
theorem wellhouseDieAndRequests : Obligations.WellhouseDieAndRequests := by
  unfold Obligations.WellhouseDieAndRequests
  refine ⟨fun a b s hp => exec_wellhouseStart_state a b hp, fun s => rfl, fun c s hw hc hb => exec_senseFault_enters hw hc hb,
    fun c s hw hb => exec_senseRecovered_leaves hw hb, fun n s hw hn hp => exec_pulseEdge_counts hw hn hp, ?sealed, ?closed,
    fun ms s hw ht => exec_displayRedraw_lit hw ms ht, fun ms s hw ht hs => exec_displayRedraw_bands hw ms ht hs,
    fun r u s hw hr hu hi => exec_totalRead_answers hw hr hu hi,
    fun r u s hw hr hu hd hi => exec_pulseRead_answers hw hr hu hd hi,
    fun r u s hw hr hu hx => exec_recordRead_missing hw hr hu hx,
    fun r q b s hw hq hc hx => exec_recordRead_first hw hq hc hx,
    fun r u s hw hr hu => exec_auditRead_answers hw hr hu, fun r u s hw hr hu => exec_paramRead_answers hw hr hu,
    fun m r u s hw hr hu => exec_rawRead_answers hw m hr hu,
    fun r u s hw hr hu hlo hhi => exec_statement_signs hw hr hu hlo hhi, fun r u s hw hr hu => exec_showId_answers hw hr hu,
    fun r u s hw hr hu hd hs => exec_paramWrite_sealed hw hr hu hd hs,
    fun n es v r u s hw hr hu hd hs hn hl hes hv hc h1 h16 hok hap hrest hroom =>
      exec_paramWrite_writes hw hr hu hd hs hn hl hes hv hc h1 h16 hok hap hrest hroom,
    fun r u s hw hr hu hd hs hl hk ha => exec_keyEnrol_first hw hr hu hd hs hl hk ha,
    fun r u s hw hr hu hd hs => exec_auditArchive_checked hw hr hu hd hs,
    fun a b s hp => exec_wellhouseStart_absent a b hp, fun c s h => exec_senseFault_none h, fun c s h => exec_senseRecovered_none h,
    fun n s h => exec_pulseEdge_none h, fun k s h => exec_sealChange_none h, fun ms s hw => exec_displayRedraw_none ms hw,
    fun ms s hw ht hs => exec_displayRedraw_ident hw ms ht hs, fun r u s hw hr hu h => exec_pulseRead_refused hw hr hu h,
    fun x r u s hw hr hu hx => exec_recordRead_found hw hr hu hx, fun r u s hw hr hu h => exec_statement_refused hw hr hu h,
    fun r u s hw hr hu hd => exec_paramWrite_error hw hr hu hd, fun r u s hw hr hu hd => exec_keyEnrol_error hw hr hu hd,
    fun r u s hw hr hu hd => exec_auditArchive_error hw hr hu hd,
    fun r u s hw hr hu hd hs => exec_keyEnrol_sealed hw hr hu hd hs,
    fun r u s hw hr hu hd hs => exec_auditArchive_sealed hw hr hu hd hs,
    fun r u s hw hr hu hd hs hl => exec_paramWrite_length hw hr hu hd hs hl,
    fun n es v st r u s hw hr hu hd hs hn hl hes hv hst h0 => exec_paramWrite_refused hw hr hu hd hs hn hl hes hv hst h0,
    fun r u s hw hr hu hd hs => exec_keyEnrol_checked hw hr hu hd hs⟩
  case sealed =>
    intro k s hw hk hd hn
    rw [exec_sealChange_taken hw hk hd, if_neg hn]
  case closed =>
    intro s hw hs
    rw [exec_sealChange_taken hw (by decide) (by rw [hs]; decide), if_pos ⟨hs, rfl⟩]

end Sys2Proof.Machine

/-! PROOFS. The Wellhouse gateway and its record link (R414, R418 to R423, R428, R430, R431). -/

namespace Sys2Proof.Machine

open Sys2Proof

/-! ### Records and credit (R418, R420) -/

/-- The Wellhouse has sent the next record for one credit. -/
def State.recordSent (s : State) : State := s.setWel { s.wel with credit := s.wel.credit - 1, sendSeq := s.wel.sendSeq + 1 }

section
variable {s : State}

theorem exec_recordRx_none (ok : Bool)
    (h : s.whUp = false ∨ s.wel.credit = 0 ∨ (s.wel.store.find? fun x => x.1 == s.wel.sendSeq) = none) :
    exec (.recordRx ok) s = .next s := by
  change execRecordRx ok s = _
  unfold execRecordRx
  dsimp only
  rcases h with h | h | h
  · rw [h]; rfl
  · rw [if_pos (by rw [h]; simp)]
  · rw [h, ite_self]

variable {u : State} {q : Nat} {b : List Byte} (hw : s.whUp = true) (hc : s.wel.credit ≠ 0)
  (hx : (s.wel.store.find? fun x => x.1 == s.wel.sendSeq) = some (q, b)) (hu : u = s.recordSent)
include hw hc hx hu

theorem exec_recordRx_down (ok : Bool) (hg : u.wlgUp = false) : exec (.recordRx ok) s = .next u := by
  subst hu
  change execRecordRx ok s = _
  unfold execRecordRx
  dsimp only
  rw [if_neg (by simp [hw, hc]), hx]
  exact congrArg _ (if_pos (by rw [Bool.not_eq_true']; exact hg))

variable (hg : u.wlgUp = true)
include hg

theorem exec_recordRx_bad : exec (.recordRx false) s = .next (u.wlgBadFrame.wlgSend 0x03 (u.wlg.expect.getD q)) := by
  subst hu
  change execRecordRx false s = _
  unfold execRecordRx
  dsimp only
  rw [if_neg (by simp [hw, hc]), hx]
  dsimp only
  exact congrArg _ ((if_neg (by rw [Bool.not_eq_true', Bool.not_eq_false]; exact hg)).trans (if_pos rfl))

/-- A record whose frame is good is judged by its SEQ, then by the Cistern. -/
theorem exec_recordRx_good : exec (.recordRx true) s = .next (
    if q < u.wlg.expect.getD q then u.count WLG_DUP 1
    else if u.wlg.expect.getD q < q then u.wlgSend 0x03 (u.wlg.expect.getD q)
    else match u.storeFrame 42 0 b true none with
      | none => (u.admitDrop 42).wlgSend 0x03 (u.wlg.expect.getD q)
      | some (v, cell) =>
        let w := (v.setWlg { v.wlg with expect := some (q + 1), held := v.wlg.held ++ [(q, b, v.sn, cell, true)] }).showHeld
        (if leAt b 0 1 = 7 then w.record EV_PARAM_CHANGED 0 (leAt b 8 4) q 0 else w).wlgDeliver 64) := by
  subst hu
  change execRecordRx true s = _
  unfold execRecordRx
  dsimp only
  rw [if_neg (by simp [hw, hc]), hx]
  refine congrArg _ ?_
  exact (if_neg (by rw [Bool.not_eq_true', Bool.not_eq_false]; exact hg)).trans (if_neg (by decide))

theorem exec_recordRx_below {e : Nat} (he : u.wlg.expect = some e) (hq : q < e) : exec (.recordRx true) s = .next (u.count WLG_DUP 1) := by
  rw [exec_recordRx_good hw hc hx hu hg, he]
  exact congrArg _ (if_pos hq)

theorem exec_recordRx_above {e : Nat} (he : u.wlg.expect = some e) (hq : e < q) :
    exec (.recordRx true) s = .next (u.wlgSend 0x03 e) := by
  rw [exec_recordRx_good hw hc hx hu hg, he]
  exact congrArg _ ((if_neg (Nat.lt_asymm hq)).trans (if_pos hq))

variable (he : u.wlg.expect.getD q = q)
include he

theorem exec_recordRx_held {v : State} {cell : Nat} (hst : u.storeFrame 42 0 b true none = some (v, cell)) :
    let w := (v.setWlg { v.wlg with expect := some (q + 1), held := v.wlg.held ++ [(q, b, v.sn, cell, true)] }).showHeld
    exec (.recordRx true) s = .next ((if leAt b 0 1 = 7 then w.record EV_PARAM_CHANGED 0 (leAt b 8 4) q 0 else w).wlgDeliver 64) := by
  rw [exec_recordRx_good hw hc hx hu hg, he, if_neg (Nat.lt_irrefl q), if_neg (Nat.lt_irrefl q), hst]

theorem exec_recordRx_refused (hst : (u.storeFrame 42 0 b true none).isSome = false) :
    exec (.recordRx true) s = .next ((u.admitDrop 42).wlgSend 0x03 q) := by
  rw [exec_recordRx_good hw hc hx hu hg, he, if_neg (Nat.lt_irrefl q), if_neg (Nat.lt_irrefl q),
    Option.not_isSome_iff_eq_none.mp (Bool.eq_false_iff.mp hst)]
end

set_option maxRecDepth 2000 in
/-- The unfolding evaluates the cells of the 128 bytes, deeper than the default allows. -/
theorem State.recordRoom_succ (s : State) (n : Nat) : s.recordRoom (n + 1) =
    match s.storeFrame 42 0 (List.replicate 128 0) true none with
    | some (t, _) => t.recordRoom n + 1
    | none => 0 := rfl

theorem State.recordRoom_some {s t : State} {c n : Nat} (h : s.storeFrame 42 0 (List.replicate 128 0) true none = some (t, c)) :
    s.recordRoom (n + 1) = t.recordRoom n + 1 := by
  rw [State.recordRoom_succ, h]

theorem State.recordRoom_none {s : State} {n : Nat} (h : s.storeFrame 42 0 (List.replicate 128 0) true none = none) :
    s.recordRoom (n + 1) = 0 := by
  rw [State.recordRoom_succ, h]

theorem State.recordRoom_le (s : State) (n : Nat) : s.recordRoom n ≤ n := by
  induction n generalizing s with
  | zero => exact Nat.le_refl 0
  | succ n ih =>
    cases h : s.storeFrame 42 0 (List.replicate 128 0) true none with
    | none => exact (State.recordRoom_none h).le.trans (Nat.zero_le _)
    | some x => exact (State.recordRoom_some h).le.trans (Nat.succ_le_succ (ih _))

theorem State.recordRoom_pos {s : State} {n : Nat} (hst : (s.storeFrame 42 0 (List.replicate 128 0) true none).isSome = true)
    (hn : 0 < n) : 1 ≤ s.recordRoom n := by
  obtain ⟨n, rfl⟩ := Nat.exists_eq_succ_of_ne_zero hn.ne'
  obtain ⟨⟨v, c⟩, hv⟩ := Option.isSome_iff_exists.mp hst
  exact (Nat.le_add_left 1 _).trans (State.recordRoom_some hv).ge

section
variable {s : State}

theorem exec_credit_down (hw : s.whUp = false) : exec .credit s = .next s := by
  change execCredit s = _
  unfold execCredit
  rw [hw]
  rfl

variable (hw : s.whUp = true)
include hw

theorem exec_credit_zero (he : (s.wlgUp && s.flag WLG_CFG_ENABLE) = false) :
    exec .credit s = .next (s.setWel { s.wel with credit := 0 }) := by
  change execCredit s = _
  unfold execCredit
  rw [hw, he]
  rfl

theorem exec_credit_room (hg : s.wlgUp = true) (he : s.flag WLG_CFG_ENABLE = true) :
    exec .credit s = .next (s.setWel { s.wel with credit := s.recordRoom (64 - s.wlg.held.length) }) := by
  change execCredit s = _
  unfold execCredit
  rw [hw, hg, he]
  rfl
end

/-! ### The request link (R418 to R420) -/

section
variable {s : State}

theorem exec_delivered_none (h : s.serving = false ∨ s.linkFrame 0x02 = none) : exec .delivered s = .next s := by
  change execDelivered s = _
  unfold execDelivered
  rcases h with h | h <;> rw [h]
  · rfl
  · rw [ite_self]

theorem exec_resend_none (h : s.serving = false ∨ s.linkFrame 0x03 = none) : exec .resend s = .next s := by
  change execResend s = _
  unfold execResend
  rcases h with h | h <;> rw [h]
  · rfl
  · rw [ite_self]

variable {q : Nat} (hs : s.serving = true)
include hs

theorem exec_delivered_unknown (hq : s.linkFrame 0x02 = some q) (h : s.whUp = false ∨ s.wel.nextSeq ≤ q) :
    exec .delivered s = .next (s.linkDrop 0x02 q) := by
  change execDelivered s = _
  unfold execDelivered
  rw [hs, hq, if_neg (by decide)]
  refine congrArg _ (if_pos ?_)
  have hw : (s.linkDrop 0x02 q).whUp = s.whUp := rfl
  have hn : (s.linkDrop 0x02 q).wel = s.wel := rfl
  rcases h with h | h <;> simp [hw, hn, h]

theorem exec_delivered_moves (hq : s.linkFrame 0x02 = some q) (hw : (s.linkDrop 0x02 q).whUp = true)
    (hn : q < (s.linkDrop 0x02 q).wel.nextSeq) : let u := s.linkDrop 0x02 q
    exec .delivered s = .next (u.setWel { u.wel with lowest := max u.wel.lowest (q + 1) }).noteBacklog := by
  change execDelivered s = _
  unfold execDelivered
  rw [hs, hq, if_neg (by decide)]
  exact congrArg _ (if_neg (by simp [hw, hn]))

theorem exec_resend_down (hq : s.linkFrame 0x03 = some q) (hw : s.whUp = false) : exec .resend s = .next (s.linkDrop 0x03 q) := by
  change execResend s = _
  unfold execResend
  rw [hs, hq, if_neg (by decide)]
  exact congrArg _ (if_neg (by rw [show (s.linkDrop 0x03 q).whUp = s.whUp from rfl, hw]; decide))

theorem exec_resend_moves (hq : s.linkFrame 0x03 = some q) (hw : (s.linkDrop 0x03 q).whUp = true) : let u := s.linkDrop 0x03 q
    exec .resend s = .next (u.setWel { u.wel with sendSeq := max u.wel.lowest (min q u.wel.nextSeq), helloNow := true }) := by
  change execResend s = _
  unfold execResend
  rw [hs, hq, if_neg (by decide)]
  exact congrArg _ (if_pos hw)
end

/-! ### PROCESS (R414, R419, R423) -/

theorem State.wellView_haltRange (s : State) (ms : List WlIn) : (s.haltRange ms).wellView = s.wellView :=
  foldl_keeps State.wellView _ _ s fun s x => by split <;> first | exact s.wellView_haltCycle x.2 | rfl

/-- The Wellhouse has counted a millisecond, and the cycles out of range have halted. -/
def State.msCounted (s : State) (m : List WlIn) : State := (s.setWel { s.wel with ms := s.wel.ms + 1 }).haltRange m

theorem State.wellView_msCounted (s : State) (m : List WlIn) :
    (s.msCounted m).wellView = (s.setWel { s.wel with ms := s.wel.ms + 1 }).wellView := State.wellView_haltRange _ m

/-- The values of a PROCESS frame. -/
def State.procValues (u : State) (m : List WlIn) (rs : List Word) : List ProcValue :=
  (List.range 4).map fun i => ⟨unsigned 32 (whole16 (u.weight16 i (m.getD i ⟨[], [], 0⟩))), (rs.getD i 0).toNat, u.procState i,
    u.weightFlags i (m.getD i ⟨[], [], 0⟩) (u.weight16 i (m.getD i ⟨[], [], 0⟩)), u.sn⟩

theorem exec_process_down (m : List WlIn) (rs : List Word) (ok : Bool) {s : State} (hw : s.whUp = false) :
    exec (.process m rs ok) s = .next s := by
  change execProcess m rs ok s = _
  unfold execProcess
  rw [hw]
  rfl

theorem exec_process_counts (m : List WlIn) (rs : List Word) (ok : Bool) {s u : State} (hw : s.whUp = true) (hu : u = s.msCounted m) :
    exec (.process m rs ok) s = .next (if u.wlgUp = false then u else if ok = false then u.wlgBadFrame
      else if u.flag WLG_CFG_PROC_EN = false then u else u.enterProc (u.procValues m rs)) := by
  subst hu
  change execProcess m rs ok s = _
  unfold execProcess
  rw [hw, if_neg (by decide)]
  simp only [Bool.not_eq_true']
  rfl

/-! ### A PROCESS frame enters (R33, R423) -/

/-- The bytes of a PROCESS frame. -/
def procBytes (vs : List ProcValue) : List Byte :=
  [2, 0, 48, 0] ++ vs.zipIdx.flatMap fun x => leBytes 4 x.1.weight ++ leBytes 4 x.1.rate ++ leBytes 1 x.1.state ++ leBytes 1 x.1.flags ++ [0, 0]

theorem length_procBytes (vs : List ProcValue) : (procBytes vs).length = 4 + 12 * vs.length := by
  simp only [procBytes, List.length_append, List.length_cons, List.length_nil, List.length_flatMap, leBytes_length, List.map_const',
    List.sum_replicate, List.length_zipIdx, smul_eq_mul]
  omega

/-- Whether a frame finds its cells turns on its length alone. -/
theorem State.isSome_storeFrame (s : State) (p c : Nat) (b : List Byte) (v : Bool) (o : Option Nat) :
    (s.storeFrame p c b v o).isSome = (s.admitCells p c (cellsFor b.length)).isSome := by
  unfold State.storeFrame
  split
  · next h => rw [h]; rfl
  · next h => rw [h]; rfl

/-- The values of a frame shown. -/
def State.showProcs (s : State) (vs : List ProcValue) : State := vs.zipIdx.foldl (fun s x => s.showProc x.2 x.1) s

/-- What the showing of a value leaves alone: the dispatcher, the Wellhouse, the frames and the values that the loops keep. -/
def State.procKept (s : State) : Disp × Well × List (Nat × Nat × List ProcValue) × List (Option ProcValue) :=
  (s.disp, s.wel, s.wlg.frames, s.wlg.proc)

theorem State.procKept_showProcs (s : State) (vs : List ProcValue) : (s.showProcs vs).procKept = s.procKept := by
  refine foldl_keeps State.procKept _ _ s fun s x => ?_
  unfold State.showProc
  dsimp only
  split <;> rfl

theorem State.procKept_storeFrame {s t : State} {p c id : Nat} {b : List Byte} {v : Bool} {o : Option Nat}
    (h : s.storeFrame p c b v o = some (t, id)) : t.procKept = s.procKept :=
  (congrArg State.procKept (State.storeFrame_apart h) :)

theorem State.procKept_admitDrop (s : State) (p : Nat) : (s.admitDrop p).procKept = s.procKept := by
  unfold State.admitDrop
  dsimp only
  split <;> rfl

/-- A frame that found its cells, with its values, held for its intake job. -/
def State.procHeld (v : State) (id : Nat) (vs : List ProcValue) : State :=
  v.setWlg { v.wlg with frames := v.wlg.frames ++ [(v.disp.nextId, id, vs)] }

theorem State.enterProc_stored {s v : State} {vs : List ProcValue} {id : Nat}
    (hst : s.storeFrame 42 0 (procBytes vs) true none = some (v, id)) : s.enterProc vs = ((v.procHeld id vs).showProcs vs).addJob
      { id := 0, src := .intake 42 v.disp.nextId, cls := 6, prio := 0, repl := false, phase := .presented } := by
  unfold procBytes at hst
  unfold State.enterProc
  dsimp only
  rw [hst]
  rfl

theorem State.enterProc_dropped {s : State} {vs : List ProcValue} (hst : s.storeFrame 42 0 (procBytes vs) true none = none) :
    s.enterProc vs = s.admitDrop 42 := by
  unfold procBytes at hst
  unfold State.enterProc
  dsimp only
  rw [hst]

/-- What an entering frame leaves of the Wellhouse and of the values that the loops keep. -/
theorem State.enterProc_leaves (s : State) (vs : List ProcValue) :
    (s.enterProc vs).wel = s.wel ∧ (s.enterProc vs).wlg.proc = s.wlg.proc := by
  cases hst : s.storeFrame 42 0 (procBytes vs) true none with
  | none =>
    rw [State.enterProc_dropped hst]
    have h := s.procKept_admitDrop 42
    exact ⟨congrArg (fun k => k.2.1) h, congrArg (fun k => k.2.2.2) h⟩
  | some x =>
    rw [State.enterProc_stored hst]
    have h := ((x.1.procHeld x.2 vs).procKept_showProcs vs)
    have hv := State.procKept_storeFrame hst
    exact ⟨(congrArg (fun k => k.2.1) h).trans (congrArg (fun k => k.2.1) hv),
      (congrArg (fun k => k.2.2.2) h).trans (congrArg (fun k => k.2.2.2) hv)⟩

theorem State.enterProc_frames {s : State} {vs : List ProcValue} (hst : (s.storeFrame 42 0 (procBytes vs) true none).isSome = true) :
    (s.enterProc vs).disp.jobs.length = s.disp.jobs.length + 1 ∧
      ∃ id, (s.enterProc vs).wlg.frames = s.wlg.frames ++ [(s.disp.nextId, id, vs)] := by
  obtain ⟨⟨v, id⟩, hst⟩ := Option.isSome_iff_exists.mp hst
  rw [State.enterProc_stored hst]
  have h := ((v.procHeld id vs).procKept_showProcs vs)
  have hv := State.procKept_storeFrame hst
  have hd : v.disp = s.disp := congrArg (fun k => k.1) hv
  have hf : v.wlg.frames = s.wlg.frames := congrArg (fun k => k.2.2.1) hv
  have hshown : ((v.procHeld id vs).showProcs vs).disp = s.disp := (congrArg (fun k => k.1) h).trans hd
  refine ⟨?_, id, (congrArg (fun k => k.2.2.1) h).trans ?_⟩
  · change (((v.procHeld id vs).showProcs vs).disp.jobs ++ [_]).length = _
    rw [List.length_append, hshown]
    rfl
  · change v.wlg.frames ++ [(v.disp.nextId, id, vs)] = _
    rw [hf, hd]

theorem exec_process_keeps (m : List WlIn) (rs : List Word) (ok : Bool) {s : State} (hw : s.whUp = true) :
    ∃ t, exec (.process m rs ok) s = .next t ∧ t.wel.ms = s.wel.ms + 1 ∧ t.wlg.proc = s.wlg.proc := by
  refine ⟨_, exec_process_counts m rs ok hw rfl, ?_⟩
  have hv := s.wellView_msCounted m
  have hms : (s.msCounted m).wel.ms = s.wel.ms + 1 := State.wel_ms_of_view hv
  have hp : (s.msCounted m).wlg.proc = s.wlg.proc := (congrArg (fun x : State => x.wlg.proc) hv :)
  split
  · exact ⟨hms, hp⟩
  · split
    · exact ⟨hms, hp⟩
    · split
      · exact ⟨hms, hp⟩
      · obtain ⟨hwel, hproc⟩ := (s.msCounted m).enterProc_leaves ((s.msCounted m).procValues m rs)
        exact ⟨(congrArg Well.ms hwel).trans hms, hproc.trans hp⟩

theorem exec_process_enters (m : List WlIn) (rs : List Word) {s : State} (hw : s.whUp = true)
    (hg : (s.wlgUp && s.flag WLG_CFG_PROC_EN) = true)
    (hst : ((s.msCounted m).storeFrame 42 0 (List.replicate 52 0) true none).isSome = true) :
    ∃ t, exec (.process m rs true) s = .next t ∧ t.disp.jobs.length = s.disp.jobs.length + 1 ∧
      ∃ id vs, t.wlg.frames = s.wlg.frames ++ [(s.disp.nextId, id, vs)] ∧ vs.length = 4 ∧ ∀ v ∈ vs, v.sn = s.sn := by
  refine ⟨_, exec_process_counts m rs true hw rfl, ?_⟩
  have hv := s.wellView_msCounted m
  have hup : (s.msCounted m).wlgUp = s.wlgUp := (congrArg State.wlgUp hv :)
  have hen : (s.msCounted m).flag WLG_CFG_PROC_EN = s.flag WLG_CFG_PROC_EN := (congrArg (fun x : State => x.flag WLG_CFG_PROC_EN) hv :)
  have hdisp : (s.msCounted m).disp = s.disp := (congrArg (fun x : State => x.disp) hv :)
  have hframes : (s.msCounted m).wlg.frames = s.wlg.frames := (congrArg (fun x : State => x.wlg.frames) hv :)
  have hsn : (s.msCounted m).sn = s.sn := (State.sn_of_wellView hv :)
  obtain ⟨hgu, hge⟩ := Bool.and_eq_true_iff.mp hg
  rw [if_neg (by rw [hup, hgu]; decide), if_neg (by decide), if_neg (by rw [hen, hge]; decide)]
  have hlen : ((s.msCounted m).procValues m rs).length = 4 := by rw [State.procValues, List.length_map, List.length_range]
  rw [State.isSome_storeFrame, List.length_replicate, ← (show (procBytes ((s.msCounted m).procValues m rs)).length = 52 by
    rw [length_procBytes, hlen]), ← State.isSome_storeFrame _ _ _ _ true none] at hst
  obtain ⟨hjobs, id, hid⟩ := State.enterProc_frames hst
  rw [hdisp] at hjobs
  rw [hframes, hdisp] at hid
  refine ⟨hjobs, id, _, hid, hlen, fun v hmem => ?_⟩
  obtain ⟨i, -, rfl⟩ := List.mem_map.mp hmem
  exact hsn

/-- The intake job of a PROCESS frame commits, and the loop units have its values (R423). -/
theorem exec_jobCommit_proc {k ns : Nat} {j : Job} {f : Nat × Nat × List ProcValue} {s : State} (hs : s.serving = true)
    (hj : s.job? k = some j) (hd : j.desc = none) (hf : s.procFrame j = some f) (hm : s.mayCommit j = true) :
    exec (.jobCommit k ns .finished) s =
      .next ((((s.setWlg { s.wlg with frames := s.wlg.frames.erase f }).freeFrame f.2.1).setWlg
        { ((s.setWlg { s.wlg with frames := s.wlg.frames.erase f }).freeFrame f.2.1).wlg with proc := f.2.2.map some }).commitOne j) := by
  change execJobCommit k ns .finished s = _
  unfold execJobCommit
  rw [hs, hj, if_neg (by decide)]
  dsimp only
  rw [hd]
  dsimp only
  rw [if_pos rfl]
  unfold State.commitProc State.dropProc
  rw [hf]
  dsimp only
  rw [hm, if_pos rfl]

/-! ### HELLO and the link (R419, R431) -/

theorem State.flag_helloLink (s : State) : s.helloLink.flag WLG_STATUS_LINK_UP = true := by
  unfold State.helloLink
  dsimp only
  split
  · assumption
  · exact beq_iff_eq.mpr (s.get_put WLG_STATUS_LINK_UP 1 (by decide))

section
variable {s : State}

theorem exec_hello_down (ok : Bool) (hw : s.whUp = false) : exec (.hello ok) s = .next s := by
  change execHello ok s = _
  unfold execHello
  rw [hw]
  rfl

theorem exec_hello_runs (ok : Bool) (hw : s.whUp = true) {u : State} (hu : u = s.setWel { s.wel with helloNow := false }) :
    exec (.hello ok) s = .next (if u.wlgUp = false then u else if ok = false then u.wlgBadFrame
      else u.helloViews.helloDie.helloSeal.helloBacklog.helloLink.helloRecords) := by
  subst hu
  change execHello ok s = _
  unfold execHello
  rw [hw, if_neg (by decide)]
  simp only [Bool.not_eq_true']

theorem exec_whLink_lost (hg : s.wlgUp = true) (hl : s.flag WLG_STATUS_LINK_UP = true) (ht : s.wlg.helloAt + 8000 ≤ s.now) :
    exec .whLink s = .next ((s.put WLG_STATUS_LINK_UP 0).record EV_WH_LINK 0 0 s.wel.serial s.wel.bootCount) := by
  change execWhLink s = _
  unfold execWhLink
  exact congrArg _ (if_pos (by simp [hg, hl, ht]))

theorem exec_whLink_none (h : s.wlgUp = false ∨ s.flag WLG_STATUS_LINK_UP = false ∨ s.now < s.wlg.helloAt + 8000) :
    exec .whLink s = .next s := by
  change execWhLink s = _
  unfold execWhLink
  refine congrArg _ (if_neg ?_)
  rcases h with h | h | h <;> simp [h]

/-! ### Requests and responses (R422, R428, R430) -/

theorem exec_whResponse_idle (ok : Bool) (hr : s.wel.resps = []) : exec (.whResponse ok) s = .next s := by
  change execWhResponse ok s = _
  unfold execWhResponse
  rw [hr]

section
variable {u : State} {p : WhResp} {q : List WhResp} (hr : s.wel.resps = p :: q) (hu : u = s.setWel { s.wel with resps := q })
include hr hu

theorem exec_whResponse_none (ok : Bool) (h : u.wlgUp = false ∨ (ok = true ∧ (u.wlg.reqs.find? fun x => x.1 == p.id) = none)) :
    exec (.whResponse ok) s = .next u := by
  subst hu
  change execWhResponse ok s = _
  unfold execWhResponse
  rw [hr]
  dsimp only
  rcases h with h | ⟨rfl, h⟩
  · rw [h]; rfl
  · rw [h]; exact congrArg _ (ite_self _)

variable (hg : u.wlgUp = true)
include hg

theorem exec_whResponse_bad : exec (.whResponse false) s = .next u.wlgBadFrame := by
  subst hu
  change execWhResponse false s = _
  unfold execWhResponse
  rw [hr]
  dsimp only
  rw [hg]
  rfl

/-- A response completes the request of its number. -/
theorem exec_whResponse_taken {d : Desc} {k : Nat} (hq : (u.wlg.reqs.find? fun x => x.1 == p.id) = some (p.id, d, k)) :
    let v := u.setWlg { u.wlg with reqs := u.wlg.reqs.filter fun x => x.1 != p.id }
    exec (.whResponse true) s = .next (if d.opcode = 0xE007 then v.finish d (v.attest d (if p.status = 0 then some p.bytes else none))
      else if p.status ≠ 0 then v.finish d (v.fail p.status)
      else v.finish d (v.answer d p.bytes (if givesNumber p.code then leAt p.bytes 0 4 else 0))) := by
  subst hu
  change execWhResponse true s = _
  unfold execWhResponse
  rw [hr]
  dsimp only
  rw [hg, hq, if_neg (by decide), if_neg (by decide)]
  simp only [bne_iff_ne]
end

theorem exec_wlgRequest_absent {d : Desc} (h : Runs s d) (hl : s.flag WLG_STATUS_LINK_UP = false) :
    exec (.wlgRequest d) s = .next (s.finish d (s.fail stABSENT)) := by
  change execWlgRequest d s = _
  refine h.next_command (if_pos ?_)
  rw [hl]
  rfl

/-- The request as it goes out on the link. -/
def State.requestOf (s : State) (d : Desc) : WhReq := ⟨d.op 32 1, s.wlg.nextId, d.op 36 4, d.op 33 1, slice d.ops 8 8, d.buf⟩

/-- The gateway waits for its answer. -/
def State.requestNoted (s t : State) (d : Desc) : State :=
  t.setWlg { t.wlg with nextId := (s.wlg.nextId + 1) % 0x10000, reqs := t.wlg.reqs ++ [(s.wlg.nextId, d, t.sn)] }

theorem exec_wlgRequest_sent {d : Desc} (h : Runs s d) (hl : s.flag WLG_STATUS_LINK_UP = true) : exec (.wlgRequest d) s =
    .next (s.finish d (s.requestNoted (if s.whUp then s.setWel { s.wel with reqs := s.wel.reqs ++ [s.requestOf d] } else s) d).later) := by
  change execWlgRequest d s = _
  refine h.next_command (if_neg ?_)
  rw [hl]
  decide

theorem exec_reqTimeout_none
    (h : s.serving = false ∨ (s.wlg.reqs.find? fun q => q.2.1.opcode == 0xC001 && decide (q.2.2 + 4000 ≤ s.sn)) = none) :
    exec .reqTimeout s = .next s := by
  change execReqTimeout s = _
  unfold execReqTimeout
  rcases h with h | h <;> rw [h]
  · rfl
  · rw [ite_self]

/-- A request without an answer, taken off the gateway and the link, counted and recorded. -/
def State.requestDropped (s : State) (i : Nat) (d : Desc) : State :=
  (((s.setWlg { s.wlg with reqs := s.wlg.reqs.filter fun q => q.1 != i }).setWel
    { s.wel with reqs := s.wel.reqs.filter fun r => r.id != i }).count WLG_REQ_TIMEOUT 1).record EV_REQ_TIMEOUT 0 (d.op 32 1) i 0

theorem exec_reqTimeout_ends {i k : Nat} {d : Desc} (hs : s.serving = true)
    (hq : (s.wlg.reqs.find? fun q => q.2.1.opcode == 0xC001 && decide (q.2.2 + 4000 ≤ s.sn)) = some (i, d, k)) :
    exec .reqTimeout s = .next ((s.requestDropped i d).finish d ((s.requestDropped i d).fail stTIMEOUT)) := by
  change execReqTimeout s = _
  unfold execReqTimeout
  rw [hs, hq, if_neg (by decide)]
  rfl
end

/-- Settles O49: each frame and command of the gateway by its own rule; a PROCESS frame by what its entry holds and leaves alone. -/
theorem gatewayAndRecordLink : Obligations.GatewayAndRecordLink := by
  unfold Obligations.GatewayAndRecordLink
  refine ⟨fun ok s h => exec_recordRx_none ok h, fun ok q b u s hw hc hx hu hg => exec_recordRx_down hw hc hx hu ok hg,
    fun q b u v cell s hw hc hx hu hg he hst => exec_recordRx_held hw hc hx hu hg he hst,
    fun q b u s hw hc hx hu hg he hst => exec_recordRx_refused hw hc hx hu hg he hst,
    fun q b u e s hw hc hx hu hg he hq => exec_recordRx_below hw hc hx hu hg he hq,
    fun q b u e s hw hc hx hu hg he hq => exec_recordRx_above hw hc hx hu hg he hq,
    fun q b u s hw hc hx hu hg => exec_recordRx_bad hw hc hx hu hg, fun m rs ok s hw => exec_process_down m rs ok hw,
    fun m rs ok u s hw hu => exec_process_counts m rs ok hw hu, fun m rs ok s hw => exec_process_keeps m rs ok hw,
    fun m rs s hw hg hst => exec_process_enters m rs hw hg hst,
    fun k ns j f s hs hj hd hf hm => exec_jobCommit_proc hs hj hd hf hm, ?hello, ?helloBad, fun ok s hw => exec_hello_down ok hw,
    ?helloDead, ?answered, ?failed, ?credit, fun s hw he => exec_credit_zero hw he, fun s hw => exec_credit_down hw,
    fun s h => exec_delivered_none h, fun s h => exec_resend_none h, fun q s hs hq h => exec_delivered_unknown hs hq h,
    fun q s hs hq hw => exec_resend_down hs hq hw, fun ok s hr => exec_whResponse_idle ok hr,
    fun ok p q u s hr hu h => exec_whResponse_none hr hu ok h, fun p q u s hr hu hg => exec_whResponse_bad hr hu hg, ?attested,
    fun q s hs hq hw hn => exec_delivered_moves hs hq hw hn, fun q s hs hq hw => exec_resend_moves hs hq hw, ?sent,
    fun d s h hl => exec_wlgRequest_absent h hl, ?timeout, fun s hg hl ht => exec_whLink_lost hg hl ht, ?unheard,
    fun s h => exec_reqTimeout_none h, fun s h => exec_whLink_none h⟩
  case hello =>
    intro s hw hg
    refine ⟨?_, State.flag_helloLink _⟩
    rw [exec_hello_runs true hw rfl, if_neg (by rw [hg]; decide), if_neg (by decide)]
  case helloBad =>
    intro s hw hg
    rw [exec_hello_runs false hw rfl, if_neg (by rw [hg]; decide), if_pos rfl]
  case helloDead =>
    intro ok s hw hg
    rw [exec_hello_runs ok hw rfl, if_pos hg]
  case answered =>
    intro p q d k u s hr hu hg hq hd hp
    exact (exec_whResponse_taken hr hu hg hq).trans (congrArg _ ((if_neg hd).trans (if_neg (not_not_intro hp))))
  case failed =>
    intro p q d k u s hr hu hg hq hd hp
    exact (exec_whResponse_taken hr hu hg hq).trans (congrArg _ ((if_neg hd).trans (if_pos hp)))
  case attested =>
    intro p q d k u s hr hu hg hq hd
    exact (exec_whResponse_taken hr hu hg hq).trans (congrArg _ (if_pos hd))
  case credit =>
    intro s hw hg he hst
    exact ⟨s.setWel { s.wel with credit := s.recordRoom (64 - s.wlg.held.length) }, exec_credit_room hw hg he, rfl,
      State.recordRoom_le _ _, fun hl => State.recordRoom_pos hst (Nat.sub_pos_of_lt hl)⟩
  case sent =>
    intro d s h hl hw
    refine ⟨_, exec_wlgRequest_sent h hl, ?_⟩
    rw [hw]
    exact ⟨rfl, rfl⟩
  case timeout =>
    intro i d k s hs hq
    exact ⟨s.requestDropped i d, exec_reqTimeout_ends hs hq, rfl, rfl, State.num_setNum _ _ _⟩
  case unheard =>
    intro d s h hl hw
    rw [exec_wlgRequest_sent h hl, hw]
    rfl

end Sys2Proof.Machine

/-! PROOFS. Process loops: a due loop's run and the commands of the LOOPS ring (R452 to R462). -/

namespace Sys2Proof.Machine

open Sys2Proof

/-! ### Views of a loop -/

section
variable {s : State} {n : Nat}

theorem State.loop_modLoop {f : Loop → Loop} (hn : n < s.lop.loops.length) : (s.modLoop n f).loop n = f (s.loop n) := getD_lmod_same f _ hn

theorem State.length_modLoop (s : State) (n : Nat) (f : Loop → Loop) : (s.modLoop n f).lop.loops.length = s.lop.loops.length :=
  lmod_length _

/-- A loop that someone asked a mode of is one of the loops. -/
theorem State.lt_loops_of_want (h : (s.loop n).want = 2) : n < s.lop.loops.length := by
  by_contra hn
  rw [State.loop, List.getD_eq_default _ _ (Nat.le_of_not_lt hn)] at h
  cases h

theorem State.failPeriods_le (s : State) (n : Nat) : s.failPeriods n ≤ 15 :=
  Nat.max_le.mpr ⟨by decide, Nat.le_of_lt_succ (bitsOf_lt (s.rd (LOP_CFG n)) 4 4)⟩

/-! ### Mode and turn (R452, R459, R460) -/

theorem State.loopMode_off (h : (s.loop n).want = 0) : s.loopMode n = 0 := by
  unfold State.loopMode
  rw [h]
  rfl

theorem State.loopMode_auto (h : (s.loop n).want = 2) (hi : s.innerOf n = none) : s.loopMode n = 2 := by
  unfold State.loopMode
  rw [h, hi]
  rfl

theorem State.takeMode_same (h : (s.loop n).mode = s.loopMode n) : s.takeMode n = s := by
  unfold State.takeMode
  exact if_pos h
end

/-- The loop has its mode, and its turn in this stroke is taken. -/
def State.loopTurned (s : State) (n : Nat) : State := (s.takeMode n).modLoop n fun l => { l with doneSn := s.sn }

/-- A stale source is recorded once in an excursion. -/
def State.staleSaid (s : State) (n : Nat) : State :=
  if (s.loop n).staleNoted then s
  else (s.modLoop n fun l => { l with staleNoted := true }).record EV_LOOP_STALE 0 n (min 0xFFFFFFFF (s.loop n).srcPv.age) 0

/-- A loop that is not OFF runs. -/
def State.loopRuns (s : State) (n : Nat) : State :=
  let s := s.modLoop n fun l => { l with lastSn := s.sn }
  if s.srcStale n (s.loop n).srcPv then (s.staleSaid n).heldRun n 1 else s.runLaw n

/-- The run of a loop without waiting commands. -/
def State.loopRan (s : State) (n : Nat) : State :=
  if ((s.loopTurned n).loop n).mode = 0 then s.loopTurned n else (s.loopTurned n).loopRuns n

/-- A loop that has run shows itself in its registers and to the traces. -/
def State.loopShown (s : State) (n was : Nat) : State :=
  if ((s.showLoop n).loop n).mode = 0 then s.showLoop n else (s.showLoop n).traceAll n (((s.showLoop n).loop n).mode != was)

/-- The run ends, and with it the loop's job. -/
def State.loopTurnEnd (s x : State) (n was : Nat) (j : Job) : State :=
  ({ (x.loopShown n was).endReqs n [] with sn := s.sn } : State).commitOne j

/-- Loop `n` takes its turn, with no command waiting: its job runs, it is due, and the due loops below it have run. -/
structure LoopTurn (s v : State) (n : Nat) (j : Job) : Prop where
  serving : s.serving = true
  work : s.work 0x14 n = some j
  stamped : v = { s with sn := j.sn }
  below : n < 32
  due : v.loopDue n = true
  undone : (v.loop n).doneSn ≠ v.sn
  first : ∀ m < n, v.loopDue m = true → (v.loop m).doneSn = v.sn
  idle : (v.loop n).reqs = []

theorem LoopTurn.exec {s v : State} {n : Nat} {j : Job} (h : LoopTurn s v n j) :
    exec (.loopRun n) s = .next (s.loopTurnEnd (v.loopRan n) n (v.loop n).mode j) := by
  obtain ⟨hs, hj, hv, hn, hd, hu, hf, hr⟩ := h
  have hfirst : ((List.range n).any fun m => v.loopDue m && (v.loop m).doneSn != v.sn) = false := by
    rw [List.any_eq_false]
    intro m hm
    simpa using hf m (List.mem_range.mp hm)
  change execLoopRun n s = _
  unfold execLoopRun
  rw [hs, if_neg (by decide), State.runWork_eq hj, ← hv]
  dsimp only
  rw [if_neg (by simp [hd, hu, hfirst, hn]), hr]
  rfl

/-- A loop that is not due, has run, or waits for one below only ends its job. -/
theorem exec_loopRun_skips {s v : State} {n : Nat} {j : Job} (hs : s.serving = true) (hj : s.work 0x14 n = some j)
    (hv : v = { s with sn := j.sn })
    (h : 32 ≤ n ∨ v.loopDue n = false ∨ (v.loop n).doneSn = v.sn ∨ ∃ m < n, v.loopDue m = true ∧ (v.loop m).doneSn ≠ v.sn) :
    exec (.loopRun n) s = .next (s.commitOne j) := by
  change execLoopRun n s = _
  unfold execLoopRun
  rw [hs, if_neg (by decide), State.runWork_eq hj, ← hv]
  dsimp only
  rw [if_pos]
  · rw [hv]
  · rcases h with h | h | h | ⟨m, hm, hdue, hdone⟩
    · simp [h]
    · simp [h]
    · simp [h]
    · have hw : ((List.range n).any fun m => v.loopDue m && (v.loop m).doneSn != v.sn) = true :=
        List.any_eq_true.mpr ⟨m, List.mem_range.mpr hm, by simp [hdue, hdone]⟩
      simp [hw]

theorem exec_loopRun_none {s : State} {n : Nat} (h : s.serving = false ∨ s.work 0x14 n = none) : exec (.loopRun n) s = .next s := by
  change execLoopRun n s = _
  unfold execLoopRun State.runWork
  rcases h with h | h <;> rw [h]
  · rfl
  · rw [ite_self]

/-! ### What the end of a turn leaves alone -/

theorem State.loops_showLoop (s : State) (n : Nat) : (s.showLoop n).lop = s.lop := by
  simp only [State.showLoop, State.setNum_lop]

/-- A buffer that sees a run changes itself, shows itself and is recorded when it is full. -/
theorem State.traceRun_keeps {β : Type} {π : State → β} {n t : Nat} (hm : ∀ (s : State) f, π (s.modTrace t f) = π s)
    (hs : ∀ s : State, π (s.showTrace t) = π s) (hr : ∀ (s : State) k, π (s.record EV_TRACE_TRIGGERED 0 t n k) = π s) (s : State)
    (c : Bool) : π (s.traceRun n c t) = π s := by
  unfold State.traceRun
  simp only [apply_ite π, hr, hs, hm, ite_self]

theorem State.loops_traceRun (s : State) (n : Nat) (c : Bool) (t : Nat) : (s.traceRun n c t).lop.loops = s.lop.loops :=
  State.traceRun_keeps (π := fun s => s.lop.loops) (fun _ _ => rfl) (fun _ => rfl) (fun _ _ => rfl) s c

theorem State.loops_traceAll (s : State) (n : Nat) (c : Bool) : (s.traceAll n c).lop.loops = s.lop.loops := by
  unfold State.traceAll
  exact foldl_keeps (fun s => s.lop.loops) (fun s t => s.traceRun n c t) _ s fun s t => s.loops_traceRun n c t

theorem State.loops_loopShown (s : State) (n was : Nat) : (s.loopShown n was).lop.loops = s.lop.loops := by
  unfold State.loopShown
  split
  · rw [State.loops_showLoop]
  · rw [State.loops_traceAll, State.loops_showLoop]

theorem State.lop_commitOne (s : State) (j : Job) : (s.commitOne j).lop = s.lop := by
  have hpeak (t : State) (ns : Nat) : (t.notePeak j.cls ns).lop = t.lop := by
    unfold State.notePeak State.peak
    split
    · split <;> rfl
    · rfl
  have hend (t : State) : (((t.countPrefix j).noteOut j).endJob j true |>.startJobs j.cls (executors j.cls)).lop = t.lop :=
    (congrArg State.lop (endSteps_sameBesideEnd.trans (endSteps_sameBesideEnd.trans (endSteps_sameBesideEnd.notedJob t j)
      (endSteps_sameBesideEnd.endJob _ j true)) (endSteps_sameBesideEnd.startJobs _ j.cls (executors j.cls))).1 :)
  exact (hend _).trans (hpeak _ _)

theorem State.loop_loopTurnEnd {x : State} {n : Nat} (hn : n < x.lop.loops.length) (s : State) (was : Nat) (j : Job) :
    (s.loopTurnEnd x n was j).loop n = { x.loop n with reqs := (x.loop n).reqs.filter fun r => !([] : List (Desc × LoopReq)).contains r } := by
  unfold State.loopTurnEnd State.loop
  rw [State.lop_commitOne]
  change ((x.loopShown n was).modLoop n fun l => { l with reqs := l.reqs.filter fun r => !([] : List (Desc × LoopReq)).contains r }).loop n = _
  have hl := x.loops_loopShown n was
  rw [State.loop_modLoop (by rw [hl]; exact hn), State.loop, hl]

theorem State.num_loopOvr_traceRun (s : State) {n t : Nat} (c : Bool) (ht : t < 8) :
    (s.traceRun n c t).num (LOP_OVR n) = s.num (LOP_OVR n) :=
  State.traceRun_keeps (π := fun s => s.num (LOP_OVR n)) (fun _ _ => rfl)
    (fun _ => State.num_setNum_ne _ _ (by unfold LOP_TRACE_STAT LOP_OVR; omega)) (fun _ _ => rfl) s c

theorem State.num_loopOvr_traceAll (s : State) (n : Nat) (c : Bool) : (s.traceAll n c).num (LOP_OVR n) = s.num (LOP_OVR n) := by
  have key : ∀ (l : List Nat) (s : State), (∀ t ∈ l, t < 8) → (l.foldl (fun s t => s.traceRun n c t) s).num (LOP_OVR n) = s.num (LOP_OVR n) := by
    intro l
    induction l with
    | nil => exact fun _ _ => rfl
    | cons t l ih =>
      intro s hl
      rw [List.foldl_cons, ih _ fun k hk => hl k (List.mem_cons_of_mem _ hk), s.num_loopOvr_traceRun c (hl t List.mem_cons_self)]
  exact key _ s fun t ht => List.mem_range.mp ht

theorem State.num_loopOvr_showLoop (s : State) (n : Nat) : (s.showLoop n).num (LOP_OVR n) = s.num (LOP_OVR n) := by
  unfold State.showLoop
  dsimp only
  rw [State.num_setNum_ne _ _ (by unfold LOP_U LOP_OVR; omega), State.num_setNum_ne _ _ (by unfold LOP_PV LOP_OVR; omega),
    State.num_setNum_ne _ _ (by unfold LOP_SP LOP_OVR; omega), State.num_setNum_ne _ _ (by unfold LOP_STAT LOP_OVR; omega)]

theorem State.num_loopOvr_loopShown (s : State) (n was : Nat) : (s.loopShown n was).num (LOP_OVR n) = s.num (LOP_OVR n) := by
  unfold State.loopShown
  split
  · exact s.num_loopOvr_showLoop n
  · rw [State.num_loopOvr_traceAll, State.num_loopOvr_showLoop]

theorem State.num_loopOvr_loopTurnEnd (s x : State) (n was : Nat) (j : Job) :
    (s.loopTurnEnd x n was j).num (LOP_OVR n) = x.num (LOP_OVR n) := by
  have hcls : j.cls % 8 < 8 := Nat.mod_lt _ (by decide)
  unfold State.loopTurnEnd
  rw [State.num_commitOne _ _ (by unfold LOP_OVR RNG_LOST_CPL; omega) (by unfold STK_CLASS_PEAK LOP_OVR; omega)]
  exact x.num_loopOvr_loopShown n was

/-! ### Held runs (R458) -/

/-- A loop that a held run leaves: it notes the cause and counts. -/
def Loop.heldFor (l : Loop) (cause : Nat) : Loop :=
  { l with stale := cause == 1, numeric := cause == 2, ovr := cause == 3, held := min 255 (l.held + 1) }

def State.heldNoted (s : State) (n cause : Nat) : State := (s.modLoop n fun l => l.heldFor cause).count (LOP_OVR n) 1

section
variable {s : State} {n : Nat} (hf : (s.loop n).held + 1 < s.failPeriods n)
include hf

theorem State.held_heldFor (cause : Nat) : ((s.loop n).heldFor cause).held = (s.loop n).held + 1 := by
  have hp := s.failPeriods_le n
  exact Nat.min_eq_right (by omega)

/-- A held run below FAIL_PERIODS keeps the output, notes its cause and counts. -/
theorem State.heldRun_short {cause : Nat} (hn : n < s.lop.loops.length) : s.heldRun n cause = s.heldNoted n cause := by
  have hl : (s.heldNoted n cause).loop n = (s.loop n).heldFor cause := State.loop_modLoop hn
  have hp : (s.heldNoted n cause).failPeriods n = s.failPeriods n :=
    congrArg (max 1) (State.get_setNum_ne _ _ _ (by unfold LOP_CFG_FAIL_PERIODS LOP_CFG LOP_OVR; simp only; omega))
  unfold State.heldRun
  refine if_pos ?_
  change (((s.heldNoted n cause).loop n).failsafe || decide (((s.heldNoted n cause).loop n).held < (s.heldNoted n cause).failPeriods n)) = true
  rw [hl, hp, State.held_heldFor hf]
  exact Bool.or_eq_true_iff.mpr (.inr (decide_eq_true hf))
end

/-! ### The law (R457) -/

/-- The process value, the feed-forward and the law of a loop in AUTO that drives no axis. -/
def State.loopPv (s : State) (n : Nat) : Fl := ((Fl.ofBits (s.loop n).srcPv.x).mul (s.loopPar n 9)).add (s.loopPar n 10)
def State.loopFf (s : State) (n : Nat) : Fl := if s.srcStale n (s.loop n).srcFf then Fl.zero else Fl.ofBits (s.loop n).srcFf.x
def State.autoLaw (s : State) (n : Nat) : LawOut := s.law n (s.loopPv n) (s.loopFf n) none false false

/-- Node code of the first value of a run that is not finite, the feed-forward first. -/
def State.lawFault (s : State) (n : Nat) : Option Nat := if (s.loopFf n).isFinite then (s.autoLaw n).badNode else some 6

/-- The loop with the values of a run in AUTO. -/
def Loop.taking (l : Loop) (o : LawOut) (ff lo hi : Fl) : Loop :=
  { l with
    pv := o.pv.toBits, e := o.e.toBits, p := o.p.toBits, xPrev := o.x.toBits, d := o.d.toBits, ff := ff.toBits
    v := o.v.toBits, u := o.u.toBits, i := o.i.toBits, satHi := hi.le o.v, satLo := o.v.le lo
    stale := false, numeric := false, ovr := false, held := 0, staleNoted := false }

def State.lawTaken (s : State) (n : Nat) : State :=
  s.modLoop n fun l => l.taking (s.autoLaw n) (s.loopFf n) (s.loopPar n 7) (s.loopPar n 8)

/-- A loop whose destination is no mesh value sends none. -/
theorem State.loopSend_none {s : State} {n : Nat} (h : selKind (s.num (LOP_DST n)) = 0) : s.loopSend n = s := by
  unfold State.loopSend
  exact if_pos (by rw [h]; rfl)

section
variable {s : State} {n : Nat} (hm : (s.loop n).mode = 2) (hi : s.innerOf n = none) (hd : selKind (s.num (LOP_DST n)) = 0)
include hm hi hd

/-- A run in AUTO takes the values of the law, or is held at the first node that is not finite. -/
theorem State.runLaw_auto : s.runLaw n = match s.lawFault n with
    | some k => (s.record EV_LOOP_NUMERIC 0 n k 0).heldRun n 2
    | none => s.lawTaken n := by
  have hsend : (s.lawTaken n).loopSend n = s.lawTaken n := State.loopSend_none hd
  have hin : (s.lawTaken n).innerOf n = none := hi
  unfold State.runLaw
  extract_lets l pv ff track s' lo hi' hold w u0 held o taken shown
  have hs' : s' = s := if_neg (by simp [track, l, hm])
  have hhold : hold = none := by
    simp only [hold, l, hm]
  have hheld (up : Bool) : held up = false := by
    simp only [held, w, hd]
    rfl
  have ho : o = s.autoLaw n := by
    simp only [o, hs', hhold, hheld, Bool.and_false]
    rfl
  have hfault : (if ff.isFinite then o.badNode else some 6) = s.lawFault n := by rw [ho]; rfl
  have htaken : taken = s.lawTaken n := by
    simp only [taken, hs', ho]
    rfl
  have hshown : shown = s.lawTaken n := by simp only [shown, htaken, hin]
  rw [hfault, hshown]
  cases s.lawFault n with
  | some k => rfl
  | none => exact hsend
end

/-! ### A loop in AUTO takes its turn (R457, R458) -/

/-- A loop whose turn it is, before its run. -/
def State.loopBegun (s : State) (n : Nat) : State :=
  (s.modLoop n fun l => { l with doneSn := s.sn }).modLoop n fun l => { l with lastSn := s.sn }

section
variable {v : State} {n : Nat}

theorem State.length_loopBegun (v : State) (n : Nat) : (v.loopBegun n).lop.loops.length = v.lop.loops.length :=
  (State.length_modLoop _ _ _).trans (State.length_modLoop _ _ _)

theorem State.loop_loopBegun (hn : n < v.lop.loops.length) :
    (v.loopBegun n).loop n = { v.loop n with doneSn := v.sn, lastSn := v.sn } := by
  unfold State.loopBegun
  rw [State.loop_modLoop (by rw [State.length_modLoop]; exact hn), State.loop_modLoop hn]

theorem State.loopRan_auto (hw : (v.loop n).want = 2) (hm : (v.loop n).mode = 2) (hi : v.innerOf n = none) :
    v.loopRan n = if v.srcStale n (v.loop n).srcPv then ((v.loopBegun n).staleSaid n).heldRun n 1 else (v.loopBegun n).runLaw n := by
  have hn := State.lt_loops_of_want hw
  have hturn : v.loopTurned n = v.modLoop n fun l => { l with doneSn := v.sn } := by
    unfold State.loopTurned
    rw [State.takeMode_same (hm.trans (State.loopMode_auto hw hi).symm)]
  have hruns : (v.loopTurned n).loopRuns n = if (v.loopBegun n).srcStale n ((v.loopBegun n).loop n).srcPv
      then ((v.loopBegun n).staleSaid n).heldRun n 1 else (v.loopBegun n).runLaw n := by
    rw [hturn]
    rfl
  have hstale (x : LoopSrc) : (v.loopBegun n).srcStale n x = v.srcStale n x := rfl
  have hmode : ((v.loopTurned n).loop n).mode ≠ 0 := by
    rw [hturn, State.loop_modLoop hn, hm]
    decide
  unfold State.loopRan
  rw [if_neg hmode, hruns, State.loop_loopBegun hn, hstale]

variable (hn : n < v.lop.loops.length)
include hn

theorem State.loopPv_loopBegun : (v.loopBegun n).loopPv n = v.loopPv n := by
  unfold State.loopPv
  rw [State.loop_loopBegun hn]
  rfl

theorem State.loopFf_loopBegun : (v.loopBegun n).loopFf n = v.loopFf n := by
  unfold State.loopFf
  rw [State.loop_loopBegun hn]
  rfl

theorem State.autoLaw_loopBegun : (v.loopBegun n).autoLaw n = v.autoLaw n := by
  unfold State.autoLaw
  rw [State.loopPv_loopBegun hn, State.loopFf_loopBegun hn]
  unfold State.law
  rw [State.loop_loopBegun hn]
  rfl

theorem State.lawFault_loopBegun : (v.loopBegun n).lawFault n = v.lawFault n := by
  unfold State.lawFault
  rw [State.loopFf_loopBegun hn, State.autoLaw_loopBegun hn]

theorem State.loop_staleSaid : (v.staleSaid n).loop n = { v.loop n with staleNoted := true } := by
  unfold State.staleSaid
  split
  · next h => rw [← h]
  · exact State.loop_modLoop hn
end

theorem State.regs_staleSaid (s : State) (n : Nat) : (s.staleSaid n).regs = s.regs := by
  unfold State.staleSaid
  split <;> rfl

theorem State.length_staleSaid (s : State) (n : Nat) : (s.staleSaid n).lop.loops.length = s.lop.loops.length := by
  unfold State.staleSaid
  split
  · rfl
  · exact State.length_modLoop s n _

/-- The run of a loop in AUTO with a fresh source. -/
theorem State.loopRan_fresh {v : State} {n : Nat} (hw : (v.loop n).want = 2) (hm : (v.loop n).mode = 2) (hi : v.innerOf n = none)
    (hd : selKind (v.num (LOP_DST n)) = 0) (hs : v.srcStale n (v.loop n).srcPv = false) : v.loopRan n = match v.lawFault n with
    | some k => ((v.loopBegun n).record EV_LOOP_NUMERIC 0 n k 0).heldRun n 2
    | none => (v.loopBegun n).lawTaken n := by
  have hn := State.lt_loops_of_want hw
  have hmb : ((v.loopBegun n).loop n).mode = 2 := by rw [State.loop_loopBegun hn]; exact hm
  rw [State.loopRan_auto hw hm hi, hs, if_neg (by decide), ← State.lawFault_loopBegun hn]
  exact State.runLaw_auto hmb hi hd

section
variable {s v : State} {n : Nat} {j : Job} (h : LoopTurn s v n j)
include h

/-- What a turn leaves of its loop. -/
theorem LoopTurn.exec_loop (hn : n < (v.loopRan n).lop.loops.length) : ∃ t, Machine.exec (.loopRun n) s = .next t ∧
    t.loop n = { (v.loopRan n).loop n with reqs := ((v.loopRan n).loop n).reqs.filter fun r => !([] : List (Desc × LoopReq)).contains r } ∧
    t.num (LOP_OVR n) = (v.loopRan n).num (LOP_OVR n) :=
  ⟨_, h.exec, State.loop_loopTurnEnd hn s _ j, State.num_loopOvr_loopTurnEnd s _ n _ j⟩

/-- A held turn keeps the output, notes its cause and counts. -/
theorem LoopTurn.exec_held {y : State} {cause : Nat} (hy : v.loopRan n = y.heldRun n cause) (hn : n < y.lop.loops.length)
    (hregs : y.regs = v.regs) (hl : (y.loop n).held = (v.loop n).held) (hf : (v.loop n).held + 1 < v.failPeriods n) :
    ∃ t, Machine.exec (.loopRun n) s = .next t ∧ (t.loop n).u = (y.loop n).u ∧ (t.loop n).i = (y.loop n).i ∧
      (t.loop n).stale = (cause == 1) ∧ (t.loop n).numeric = (cause == 2) ∧ (t.loop n).held = (v.loop n).held + 1 ∧
      (t.loop n).mode = (y.loop n).mode ∧ t.num (LOP_OVR n) = (s.num (LOP_OVR n) + 1) % 2 ^ 32 := by
  have hp : y.failPeriods n = v.failPeriods n := congrArg (max 1) (State.get_congr hregs _)
  have hf' : (y.loop n).held + 1 < y.failPeriods n := by rwa [hl, hp]
  have hran := hy.trans (State.heldRun_short hf' hn)
  obtain ⟨t, ht, hloop, hnum⟩ := h.exec_loop (by rw [hran]; exact (y.length_modLoop n _).symm ▸ hn)
  have hnoted : (v.loopRan n).loop n = (y.loop n).heldFor cause := by
    rw [hran]
    exact State.loop_modLoop hn
  rw [hnoted] at hloop
  have hcount : (v.loopRan n).num (LOP_OVR n) = (s.num (LOP_OVR n) + 1) % 2 ^ 32 := by
    have hs : y.num (LOP_OVR n) = s.num (LOP_OVR n) := (State.num_congr hregs _).trans (by rw [h.stamped]; rfl)
    rw [hran, ← hs]
    exact State.num_setNum _ _ _
  refine ⟨t, ht, ?_, ?_, ?_, ?_, ?_, ?_, hnum.trans hcount⟩
  · rw [hloop]; rfl
  · rw [hloop]; rfl
  · rw [hloop]; rfl
  · rw [hloop]; rfl
  · rw [hloop]; exact (State.held_heldFor hf' cause).trans (congrArg (· + 1) hl)
  · rw [hloop]; rfl

section
variable (hw : (v.loop n).want = 2) (hm : (v.loop n).mode = 2) (hi : v.innerOf n = none)
include hw hm hi

theorem LoopTurn.exec_stale (hs : v.srcStale n (v.loop n).srcPv = true) (hf : (v.loop n).held + 1 < v.failPeriods n) :
    ∃ t, Machine.exec (.loopRun n) s = .next t ∧ (t.loop n).u = (v.loop n).u ∧ (t.loop n).i = (v.loop n).i ∧
      (t.loop n).stale = true ∧ (t.loop n).held = (v.loop n).held + 1 ∧ (t.loop n).mode = 2 ∧
      t.num (LOP_OVR n) = (s.num (LOP_OVR n) + 1) % 2 ^ 32 := by
  have hn := State.lt_loops_of_want hw
  have hnb : n < (v.loopBegun n).lop.loops.length := by rwa [State.length_loopBegun]
  have hl : ((v.loopBegun n).staleSaid n).loop n = { v.loop n with doneSn := v.sn, lastSn := v.sn, staleNoted := true } := by
    rw [State.loop_staleSaid hnb, State.loop_loopBegun hn]
  obtain ⟨t, ht, hu, hint, hst, -, hheld, hmode, hnum⟩ := h.exec_held (y := (v.loopBegun n).staleSaid n) (cause := 1)
    ((State.loopRan_auto hw hm hi).trans (if_pos hs)) (by rwa [State.length_staleSaid]) (State.regs_staleSaid _ _) (by rw [hl]) hf
  rw [hl] at hu hint hmode
  exact ⟨t, ht, hu, hint, hst, hheld, hmode.trans hm, hnum⟩

variable (hd : selKind (v.num (LOP_DST n)) = 0) (hs : v.srcStale n (v.loop n).srcPv = false)
include hd hs

theorem LoopTurn.exec_numeric {k : Nat} (hk : v.lawFault n = some k) (hf : (v.loop n).held + 1 < v.failPeriods n) :
    ∃ t, Machine.exec (.loopRun n) s = .next t ∧ (t.loop n).u = (v.loop n).u ∧ (t.loop n).i = (v.loop n).i ∧
      (t.loop n).numeric = true ∧ (t.loop n).held = (v.loop n).held + 1 ∧ (t.loop n).mode = 2 ∧
      t.num (LOP_OVR n) = (s.num (LOP_OVR n) + 1) % 2 ^ 32 := by
  have hn := State.lt_loops_of_want hw
  have hran := State.loopRan_fresh hw hm hi hd hs
  rw [hk] at hran
  have hl : ((v.loopBegun n).record EV_LOOP_NUMERIC 0 n k 0).loop n = { v.loop n with doneSn := v.sn, lastSn := v.sn } :=
    State.loop_loopBegun hn
  obtain ⟨t, ht, hu, hint, -, hnumeric, hheld, hmode, hnum⟩ := h.exec_held
    (y := (v.loopBegun n).record EV_LOOP_NUMERIC 0 n k 0) (cause := 2) hran ((v.length_loopBegun n).symm ▸ hn) rfl (by rw [hl]) hf
  rw [hl] at hu hint hmode
  exact ⟨t, ht, hu, hint, hnumeric, hheld, hmode.trans hm, hnum⟩

theorem LoopTurn.exec_law (hk : v.lawFault n = none) : let o := v.autoLaw n
    ∃ t, Machine.exec (.loopRun n) s = .next t ∧ (t.loop n).u = o.u.toBits ∧ (t.loop n).i = o.i.toBits ∧ (t.loop n).d = o.d.toBits ∧
      (t.loop n).xPrev = o.x.toBits ∧ (t.loop n).pv = (v.loopPv n).toBits ∧ (t.loop n).held = 0 ∧ (t.loop n).doneSn = j.sn ∧
      (t.loop n).lastSn = j.sn ∧ (t.loop n).mode = 2 := by
  intro o
  have hn := State.lt_loops_of_want hw
  have hnb : n < (v.loopBegun n).lop.loops.length := by rwa [State.length_loopBegun]
  have hran := State.loopRan_fresh hw hm hi hd hs
  rw [hk] at hran
  obtain ⟨t, ht, hloop, -⟩ := h.exec_loop (by rw [hran]; exact (State.length_modLoop _ n _).symm ▸ hnb)
  have hl : (v.loopRan n).loop n = _ := (congrArg (·.loop n) hran).trans (State.loop_modLoop hnb)
  rw [State.loop_loopBegun hn, State.autoLaw_loopBegun hn] at hl
  rw [hl] at hloop
  have hsn : v.sn = j.sn := by rw [h.stamped]
  exact ⟨t, ht, congrArg Loop.u hloop, congrArg Loop.i hloop, congrArg Loop.d hloop, congrArg Loop.xPrev hloop,
    congrArg Loop.pv hloop, congrArg Loop.held hloop, (congrArg Loop.doneSn hloop).trans hsn, (congrArg Loop.lastSn hloop).trans hsn,
    (congrArg Loop.mode hloop).trans hm⟩
end

/-- The turn of a loop that is OFF. -/
theorem LoopTurn.exec_off (hw : (v.loop n).want = 0) (hm : (v.loop n).mode = 0) (hn : n < v.lop.loops.length) :
    ∃ t, Machine.exec (.loopRun n) s = .next t ∧ t.loop n = { v.loop n with doneSn := j.sn } ∧ t.lop.traces = s.lop.traces := by
  have hturn : v.loopTurned n = v.modLoop n fun l => { l with doneSn := v.sn } := by
    unfold State.loopTurned
    rw [State.takeMode_same (hm.trans (State.loopMode_off hw).symm)]
  have hloop : (v.loopTurned n).loop n = { v.loop n with doneSn := v.sn } := by
    rw [hturn]
    exact State.loop_modLoop hn
  have hran : v.loopRan n = v.loopTurned n := if_pos (by rw [hloop]; exact hm)
  have hsn : v.sn = j.sn := by rw [h.stamped]
  have hlen : n < (v.loopTurned n).lop.loops.length := by rw [hturn, State.length_modLoop]; exact hn
  refine ⟨_, h.exec, ?_, ?_⟩
  · rw [hran, State.loop_loopTurnEnd hlen, hloop, hsn]
    dsimp only
    rw [h.idle]
    rfl
  · have hshow : ((v.loopTurned n).showLoop n).lop = (v.loopTurned n).lop := State.loops_showLoop _ n
    have hshown : (v.loopTurned n).loopShown n (v.loop n).mode = (v.loopTurned n).showLoop n :=
      if_pos (by rw [State.loop, hshow]; exact (congrArg Loop.mode hloop).trans hm)
    unfold State.loopTurnEnd
    rw [State.lop_commitOne, hran, hshown]
    change ((v.loopTurned n).showLoop n).lop.traces = _
    rw [hshow, hturn, h.stamped]
    rfl
end

/-! ### Commands of the LOOPS ring (R461, R462) -/

section
variable {s : State} {d : Desc} {n : Nat} (hn : n = d.op 32 1) (body : Nat → Loop → CmdRes)
include hn

theorem State.onLoop_off (hf : s.flag (LOP_CFG_ENABLE n) = false) : s.onLoop d body = s.fail stLOOP_OFF := by
  subst hn
  unfold State.onLoop
  exact if_pos (by rw [hf]; rfl)

theorem State.onLoop_enabled (hf : s.flag (LOP_CFG_ENABLE n) = true) : s.onLoop d body = body n (s.loop n) := by
  subst hn
  unfold State.onLoop
  exact if_neg (by rw [hf]; decide)
end

/-- The parameters that a LOP_TUNE gives. -/
def tuneValues (d : Desc) : List Nat := (List.range 12).map fun g => leAt d.buf (4 * g) 4

theorem getD_tuneValues (d : Desc) {g : Nat} (hg : g < 12) : (tuneValues d).getD g 0 = leAt d.buf (4 * g) 4 := by
  simp [tuneValues, List.getD_eq_getElem?_getD, hg]

/-- LOP_TUNE takes finite parameters, OUT_MIN below OUT_MAX and a time constant that is not negative. -/
def tuneBad (d : Desc) : Bool :=
  !((List.range 12).all fun g => (Fl.ofBits ((tuneValues d).getD g 0)).isFinite) ||
    !(Fl.ofBits ((tuneValues d).getD 7 0)).lt (Fl.ofBits ((tuneValues d).getD 8 0)) ||
    (Fl.ofBits ((tuneValues d).getD 3 0)).lt Fl.zero

theorem tuneBad_eq (d : Desc) : tuneBad d = (!((List.range 12).all fun g => (Fl.ofBits (leAt d.buf (4 * g) 4)).isFinite) ||
    !(Fl.ofBits (leAt d.buf 28 4)).lt (Fl.ofBits (leAt d.buf 32 4)) || (Fl.ofBits (leAt d.buf 12 4)).lt Fl.zero) := by
  have hall : ((List.range 12).all fun g => (Fl.ofBits ((tuneValues d).getD g 0)).isFinite) =
      (List.range 12).all fun g => (Fl.ofBits (leAt d.buf (4 * g) 4)).isFinite := by
    rw [Bool.eq_iff_iff, List.all_eq_true, List.all_eq_true]
    exact forall₂_congr fun g hg => by rw [getD_tuneValues d (List.mem_range.mp hg)]
  unfold tuneBad
  rw [hall, getD_tuneValues d (by decide), getD_tuneValues d (by decide), getD_tuneValues d (by decide)]

section
variable {s : State} {d : Desc} (h : Runs s d)
include h

theorem exec_loop_commands_off (hf : s.flag (LOP_CFG_ENABLE (d.op 32 1)) = false) :
    exec (.lopMode d) s = .next (s.finish d (s.fail stLOOP_OFF)) ∧ exec (.lopSetpoint d) s = .next (s.finish d (s.fail stLOOP_OFF)) ∧
      exec (.lopTune d) s = .next (s.finish d (s.fail stLOOP_OFF)) ∧ exec (.lopQuery d) s = .next (s.finish d (s.fail stLOOP_OFF)) :=
  ⟨h.next_command (State.onLoop_off rfl _ hf), h.next_command (State.onLoop_off rfl _ hf),
    h.next_command (State.onLoop_off rfl _ hf), h.next_command (State.onLoop_off rfl _ hf)⟩

section
variable {n : Nat} (hn : n = d.op 32 1) (hf : s.flag (LOP_CFG_ENABLE n) = true)
include hn hf

theorem exec_lopMode_waits : exec (.lopMode d) s = .next (s.finish d (s.modLoop n fun l =>
    { l with reqs := l.reqs ++ [(d, .mode (d.op 33 1) (if bit (d.op 34 1) 0 then some (d.op 40 4) else none))] }).later) :=
  h.next_command (State.onLoop_enabled hn _ hf)

theorem exec_lopSetpoint_waits (ho : ∀ k ∈ s.outerOf n, (s.loop k).mode = 0) : exec (.lopSetpoint d) s =
    .next (s.finish d (s.modLoop n fun l => { l with reqs := l.reqs ++ [(d, .setpoint (d.op 40 4))] }).later) := by
  refine h.next_command ((State.onLoop_enabled hn _ hf).trans (if_neg ?_))
  rw [Bool.not_eq_true, List.any_eq_false]
  intro k hk
  simpa using ho k hk

theorem exec_lopSetpoint_cascaded {k : Nat} (hk : k ∈ s.outerOf n) (hm : (s.loop k).mode ≠ 0) :
    exec (.lopSetpoint d) s = .next (s.finish d (s.fail stCASCADED)) := by
  refine h.next_command ((State.onLoop_enabled hn _ hf).trans (if_pos ?_))
  exact List.any_eq_true.mpr ⟨k, hk, bne_iff_ne.mpr hm⟩

theorem exec_lopTune_bad (hb : tuneBad d = true) : exec (.lopTune d) s = .next (s.finish d (s.fail stBAD_VALUE)) :=
  h.next_command ((State.onLoop_enabled hn _ hf).trans (if_pos hb))

theorem exec_lopTune_waits (hb : tuneBad d = false) : exec (.lopTune d) s =
    .next (s.finish d (s.modLoop n fun l => { l with reqs := l.reqs ++ [(d, .tune (tuneValues d))] }).later) :=
  h.next_command ((State.onLoop_enabled hn _ hf).trans (if_neg (Bool.eq_false_iff.mp hb)))

theorem exec_lopQuery_answers : exec (.lopQuery d) s = .next (s.finish d (s.answer d (leBytes 4 (s.loop n).stat ++ leBytes 4 (s.loop n).sp ++
    leBytes 4 (s.loop n).pv ++ leBytes 4 (s.loop n).u ++ leBytes 4 (s.loop n).i ++ leBytes 4 (s.loop n).d ++ leBytes 8 (s.loop n).lastSn))) :=
  h.next_command (State.onLoop_enabled hn _ hf)
end

/-- The buffer that LOP_TRACE_ARM starts. -/
def State.armedTrace (s : State) (d : Desc) : Trace :=
  { running := true, single := d.op 33 1 == 1, trigger := d.op 34 1, node := d.op 35 1, pre := d.op 36 2, level := d.op 40 4
    skip := max 1 (s.get (LOP_TRACE_CFG_DECIM (d.op 32 1))) - 1 }

theorem exec_lopTraceArm_starts (ht : d.op 32 1 < s.lop.traces.length) : ∃ u : State, exec (.lopTraceArm d) s = .next (s.finish d u.ok) ∧
    u.trace (d.op 32 1) = s.armedTrace d ∧ u.lop.loops = s.lop.loops :=
  ⟨(s.modTrace (d.op 32 1) fun _ => s.armedTrace d).showTrace (d.op 32 1), h.next_command rfl,
    getD_lmod_same (fun _ => s.armedTrace d) {} ht, rfl⟩

theorem exec_lopTraceRead_answers (hb : 8 + 24 * d.op 44 4 ≤ d.bufLen) : let x := s.trace (d.op 32 1)
    exec (.lopTraceRead d) s = .next (s.finish d (s.answer d (leBytes 4 x.samples.length ++ leBytes 4 x.trigIndex ++
      ((x.samples.drop (d.op 40 4)).take (d.op 44 4)).flatMap fun y => leBytes 8 y.1 ++ y.2.flatMap fun v => leBytes 4 v))) :=
  h.next_command (if_neg (Nat.not_lt.mpr hb))

theorem exec_lopTraceRead_short (hb : d.bufLen < 8 + 24 * d.op 44 4) : exec (.lopTraceRead d) s =
    .next (s.finish d { st := s, status := some stNO_RESOURCE, len := some (8 + 24 * d.op 44 4) }) :=
  h.next_command (if_pos hb)
end

/-- Settles O52: a turn by its run and what its end leaves alone; each command by its own rule. -/
theorem loopsRunAndCommands : Obligations.LoopsRunAndCommands := by
  unfold Obligations.LoopsRunAndCommands
  refine ⟨fun n s h => exec_loopRun_none h, fun n j v s hs hj hv h => exec_loopRun_skips hs hj hv h, ?law, ?numeric, ?stale, ?off,
    fun d n s h hn hf => exec_lopMode_waits h hn hf, fun d n s h hn hf ho => exec_lopSetpoint_waits h hn hf ho,
    fun d n k s h hn hf hk hm => exec_lopSetpoint_cascaded h hn hf hk hm, ?tune, ?limits, ?query,
    fun d s h hf => exec_loop_commands_off h hf, fun d s h ht => exec_lopTraceArm_starts h ht,
    fun d s h hb => exec_lopTraceRead_answers h hb, ?badTune, fun d n s h hn hf => exec_lopQuery_answers h hn hf,
    fun d s h hb => exec_lopTraceRead_short h hb⟩
  case law =>
    intro n j o pv ff v s hs hj hv hn hdue hu hfirst hr hw hm hi hd hst hpv hff hfin ho hbad
    have hfault : v.lawFault n = none := by
      subst hpv hff ho
      exact (if_pos hfin).trans hbad
    subst hpv hff ho
    exact LoopTurn.exec_law ⟨hs, hj, hv, hn, hdue, hu, hfirst, hr⟩ hw hm hi hd hst hfault
  case numeric =>
    intro n j k pv ff v s hs hj hv hn hdue hu hfirst hr hw hm hi hd hst hpv hff hk hf _
    subst hpv hff
    exact LoopTurn.exec_numeric ⟨hs, hj, hv, hn, hdue, hu, hfirst, hr⟩ hw hm hi hd hst hk hf
  case stale =>
    intro n j v s hs hj hv hn hdue hu hfirst hr hw hm hi hst hf
    exact LoopTurn.exec_stale ⟨hs, hj, hv, hn, hdue, hu, hfirst, hr⟩ hw hm hi hst hf
  case off =>
    intro n j v s hs hj hv hn hdue hu hfirst hr hw hm hl
    exact LoopTurn.exec_off ⟨hs, hj, hv, hn, hdue, hu, hfirst, hr⟩ hw hm hl
  case tune =>
    intro d n s h hn hf hfin hlim htf
    refine exec_lopTune_waits h hn hf ?_
    rw [tuneBad_eq, List.all_eq_true.mpr fun g hg => hfin g (List.mem_range.mp hg), hlim, htf]
    rfl
  case limits =>
    intro d n s h hn hf hlim
    refine exec_lopTune_bad h hn hf ?_
    rw [tuneBad_eq, hlim, Bool.not_false, Bool.or_true, Bool.true_or]
  case query =>
    intro d n s h hn hf
    refine ⟨_, exec_lopQuery_answers h hn hf, ?_, ?_⟩
    · simp only [List.length_append, leBytes_length]
    · simp only [List.append_assoc]
      exact List.take_left' (leBytes_length _ _)
  case badTune =>
    intro d n g s h hn hf hg hbad
    refine exec_lopTune_bad h hn hf ?_
    rw [tuneBad_eq]
    rcases hbad with hbad | hbad
    · rw [List.all_eq_false.mpr ⟨g, List.mem_range.mpr hg, by rw [hbad]; decide⟩]
      rfl
    · rw [hbad, Bool.or_true]

end Sys2Proof.Machine
